-- ==== Sys2Proof/Word.lean ====
section
/-! DEFINITION. The word types of the part and their plainest arithmetic (00 R7, R8, R9). -/

namespace Sys2Proof

/-- One byte. -/
abbrev Byte := BitVec 8

/-- A string of bytes, lowest address first. -/
abbrev Bytes := List Byte

/-- A 64-bit general register of a tile (11 R364). -/
abbrev Word := BitVec 64

/-- A 128-bit short vector (11 R364). -/
abbrev Short := BitVec 128

/-- A long vector at the largest VL, 4,096 bits; a narrower VL uses the low bits (11 R364). -/
abbrev Long := BitVec 4096

/-- A predicate at the largest VL, one bit per byte element (11 R364). -/
abbrev Pred := BitVec 512

end Sys2Proof
end

