-- ==== Sys2Proof/Syntax.lean ====
section
/-! DEFINITION. The commands of the part: one constructor of Instr for each row of spec/opcode_table.json, with the
operands that the rule of the row speaks of (log entry 1). -/

namespace Sys2Proof

/-- The header of a dictionary transfer (05 R165): `dt` ticks after the command before it, transfer sequence `seq`. -/
structure Xfer where
  dt  : Nat
  seq : Nat
  deriving DecidableEq, Repr

/-- The header of a course-channel message (04 R122): arrival, channel, request sequence, course id, generation, ATS, and
the length of the whole message in bytes. -/
structure CourseHdr where
  dt     : Nat
  chan   : Nat
  seq    : Nat
  course : Nat
  gen    : Nat
  ats    : Nat
  length : Nat
  deriving DecidableEq, Repr

/-- The two qualified pulse inputs (01 R24). -/
inductive PulseInput | pps | dfeSync
  deriving DecidableEq, Repr

/-- The three kinds of time source, with the numbers of SELECTED_SOURCE (01 Table 1-9). -/
inductive Source | gnss | ptp | nl
  deriving DecidableEq, Repr

/-- How a PTP message travels (01 Table 1-6): over Ethernet with its destination address, or over UDP with the address of the other end. -/
inductive PtpOver | ethernet (dst : Nat) | udp4 (peer : Nat) | udp6 (peer : Nat)
  deriving DecidableEq, Repr

/-- The header of a PTP message (01 Table 1-6): its transport, its domain number, and the port identity of its sender. -/
structure PtpHead where
  via    : PtpOver
  domain : Nat
  sender : Nat
  deriving DecidableEq, Repr

/-- The fields of an Announce by which the Alternate BMCA compares (01 Table 1-6; log entry 45): the grandmaster's class, accuracy,
variance, priority2 and identity, and the steps removed. -/
structure Announce where
  clockClass : Nat
  accuracy   : Nat
  variance   : Nat
  priority2  : Nat
  identity   : Nat
  steps      : Nat
  deriving DecidableEq, Repr

/-- The messages that unicast negotiation grants (01 Table 1-6). -/
inductive PtpService | announce | sync | delayResp
  deriving DecidableEq, Repr

/-- The PTP messages of 01 R53, with the times in picoseconds of the PTP timescale that they carry, and of a Delay_Req the
correctionField in 2⁻¹⁶ ns; a Delay_Resp says whether the request that it answers is the port's own. A request or a grant of unicast
negotiation names a message, its rate per second and its duration in seconds. -/
inductive PtpMsg
  | sync (seqId : Nat) (originPs correctionPs : Int) (twoStep : Bool)
  | followUp (seqId : Nat) (originPs correctionPs : Int)
  | delayResp (seqId : Nat) (receivePs correctionPs : Int) (own : Bool)
  | delayReq (seqId : Nat) (correction : Int)
  | announce (a : Announce)
  | unicastRequest (what : PtpService) (perSecond seconds : Nat)
  | unicastGrant (what : PtpService) (perSecond seconds : Nat)
  deriving DecidableEq, Repr

/-- The PTP messages a port sends (01 R53, R58). -/
inductive PtpTx
  | sync | followUp | delayReq (seqId : Nat) | delayResp (seqId requester : Nat) | announce
  | unicastRequest (what : PtpService) (perSecond seconds : Nat)
  | unicastGrant (what : PtpService) (perSecond seconds : Nat)
  deriving DecidableEq, Repr

/-- A PTP message that a port sends, with the transport and the other end that it goes to (01 Table 1-6). -/
structure PtpOut where
  via : PtpOver
  msg : PtpTx
  deriving DecidableEq, Repr

/-- What the guard is asked to confirm (01 R47, 03 R92). -/
inductive GuardAsk | step | epoch
  deriving DecidableEq, Repr

/-- What the receiver found of the current reception (02 R78): the PBCH CRC, or an SSS with its agreement with the PSS and
its metric; and the clipped samples of its PBCH or SSS symbols, in tenths of a per cent. -/
inductive NlBasis
  | pbch (crcOk : Bool)
  | sss (agrees : Bool) (metric : Nat)
  deriving DecidableEq, Repr

/-- What processing measured of a committed reception (02 R81): the place of its first sample on the output grid of the chain in device
air time, 1/6144 ns, from which the chain's group delay is still to be removed (02 R69, 10 R340), SSB index, half-frame bit, SINR, EVM, sigma and frequency error. -/
structure NlMeasure where
  place    : Int
  ssbIndex : Nat
  halfBit  : Nat
  sinr     : Int
  evm      : Nat
  sigma    : Nat
  freqErr  : Int
  deriving DecidableEq, Repr

/-- One per-channel entry of RESUME (04 Table 4-10): A_c, V_c and the credits granted. -/
structure ResumeEntry where
  acked   : Nat
  verdict : Nat
  credits : Nat
  deriving DecidableEq, Repr

/-- An iteration boundary of an attempt (07 R241): the iterations that the engine has run since the last one shown, of a turbo code
half-iterations, and the read errors of the input and of the committed version that it met (07 R252). -/
structure Boundary where
  iterations  : Nat
  inputLost   : Bool
  versionLost : Bool
  deriving DecidableEq, Repr

/-- The two kinds of kiln engine (07 R229). -/
inductive KilnKind | decode | encode
  deriving DecidableEq, Repr

/-- The path of a DFE chain (10 R329). -/
inductive Path | tx | rx
  deriving DecidableEq, Repr

/-- A received Ethernet frame (09 R304): its addresses, an optional VLAN id, the EtherType after any tag, its bytes, and what
the MAC found; whether an eCPRI remote reset message is a request; its header if it is a PTP message, whether it is an event
message, and its correctionField in 2⁻¹⁶ ns (01 R57). -/
structure Frame where
  dst       : Nat
  src       : Nat
  vlan      : Option Nat
  etherType : Nat
  bytes     : Nat
  fcsOk     : Bool
  macControl : Bool
  ecpriType : Nat
  request   : Bool
  ptp       : Option PtpHead
  ptpEvent  : Bool
  correction : Int
  deriving DecidableEq, Repr

/-- A received IQ message (09 R306, R314, R317): eAxC, sequence, E bit, subsequence id, the course slot and symbol that it
names (carrier air time), whether it is a time-domain message, its sample count and the ATS of its first sample, the first subcarrier of
its elements, the exponent of each PRB of a message in block floating point (R312), and its elements or samples, I and Q. -/
structure IqMsg where
  eaxc     : Nat
  seq      : Nat
  eBit     : Bool
  subseq   : Nat
  slotAts  : Nat
  symbol   : Nat
  timeDomain : Bool
  samples  : Nat
  firstAts : Nat
  first    : Nat
  exps     : List Nat
  iq       : List (Int × Int)
  deriving DecidableEq, Repr

/-- The actions of an eCPRI one-way delay message (09 R319). -/
inductive OwdAction | request | requestFollowUp | response | remoteRequest | remoteRequestFollowUp | followUp
  deriving DecidableEq, Repr

/-- Why a link goes down (09 R301). -/
inductive LinkCause | signal | cdrLock | alignment | remoteFault
  deriving DecidableEq, Repr

/-- The element types of 11 Table 11-7; `none6` and `none7` are the codes that raise ILLEGAL. -/
inductive ElemType | i8 | i16 | i32 | c16 | q15 | q31 | none6 | none7
  deriving DecidableEq, Repr

/-- Scalar operations of classes 0 and 1 (11 Table 11-8). -/
inductive ScalarOp
  | add | sub | band | bor | bxor | sll | srl | sra
  | setEq | setNe | setLt | setGe | setLtu | setGeu
  | mul | div (signed : Bool)
  | jumpReg (link : Bool)
  deriving DecidableEq, Repr

/-- Branch conditions of 11 R378, 6 to 11 being undefined. -/
inductive Cond | eq | ne | lt | ge | ltu | geu | undefined (n : Nat) | empty | notEmpty | head | tail
  deriving DecidableEq, Repr

/-- Vector arithmetic of class 6; `sat` is the .S variant (11 R370). Compares write a predicate. -/
inductive VecOp
  | add | sub | min | max | abs | band | bor | bxor | shl | shr
  | cmpEq | cmpLt | cmpLe
  deriving DecidableEq, Repr

/-- Vector multiplies of class 7 (11 R371, R373, R378, Table 11-11): plain, by a Q0.15 gain in a general register, complex, conjugate
complex, accumulate, widening accumulate into a register pair with the second source conjugated or not, int8 four-way dot product
into int32. -/
inductive MulOp | mul | gain | cmul | cmulConj | mac | macWiden (conj : Bool) | dot8
  deriving DecidableEq, Repr

/-- Vector permutes of class 8 (11 Table 11-8). -/
inductive PermOp
  | broadcast | moveV | toG | interleaveLo | interleaveHi | laneTable
  | reduceAdd | reduceMin | reduceMax | narrow
  deriving DecidableEq, Repr

/-- Predicate operations of class B other than PSPAN (11 R374). -/
inductive PredOp | pand | por | pxor | pnot | count
  deriving DecidableEq, Repr

/-- The fields of a V-format instruction (11 R377): destination, sources, governing predicate, element type, L. -/
structure VFields where
  d    : Nat
  a    : Nat
  b    : Nat
  pg   : Nat
  et   : ElemType
  long : Bool
  deriving DecidableEq, Repr

/-- The fields of a VM-format instruction (11 R377). -/
structure VMFields where
  d    : Nat
  base : Nat
  gs   : Nat
  pg   : Nat
  et   : ElemType
  long : Bool
  deriving DecidableEq, Repr

/-- The fields of a VG-format instruction (11 R377). -/
structure VGFields where
  vd   : Nat
  vi   : Nat
  base : Nat
  pg   : Nat
  et   : ElemType
  deriving DecidableEq, Repr

/-- How a task's program ends at F (11 R396). -/
inductive TaskEnd | ok | fault | dataLost | cancelled | tileFault
  deriving DecidableEq, Repr

/-- One extent of a fused job's operand: tile address, bytes, and whether the job writes it (12 R415). -/
structure Extent where
  addr  : Nat
  bytes : Nat
  out   : Bool
  deriving DecidableEq, Repr

/-- A request at a port of the fabric: source port (ring × 48 + stop) × 4 + port, tag, device address and lines (14 R462). -/
structure Packet where
  src   : Nat
  tag   : Nat
  addr  : Nat
  lines : Nat
  deriving DecidableEq, Repr

/-- The kinds of MESSAGE that the spec gives a meaning to (14 R475). -/
inductive MsgKind | cancelToken | feed | other
  deriving DecidableEq, Repr

/-- The response statuses of 14 Table 14-5. -/
inductive Status | ok | domainAsleep | uncorrectable | unmapped | retry
  deriving DecidableEq, Repr

/-- An error that a read or a scrub finds (15 R496): the device address of the word, the syndrome, and the bit corrected, or
`none` where it is uncorrectable; `checkLine` for a GDDR7 check line. -/
structure MemError where
  addr      : Nat
  syndrome  : Nat
  bit       : Option Nat
  checkLine : Bool
  deriving DecidableEq, Repr

/-- How a GDDR7 channel is lost (15 R506). -/
inductive LossCause | edcRetries | retraining | burst
  deriving DecidableEq, Repr

/-- What an exchange on the AVSBus answers (18 R589). -/
inductive AvsAckField | good | busy | badCrc | invalid
  deriving DecidableEq, Repr

/-- A tile program of the site image (19 Table 19-6) with its declarations: its index, the kind of tile operation that it serves (13 Table
13-4), C0, C1, VL, form and most output pallets (13 Table 13-5), the fused slots of each class and the shadow pallets per slot (12 Table
12-2), and what its entry gives a task (11 Tables 11-4, 11-6): its first instruction, K_LO, K_HI, S_TVEC, RND and the supervisor windows. -/
structure Program where
  index    : Nat
  kind     : Nat
  c0       : Nat
  c1       : Nat
  vl       : Nat
  form     : Nat
  outs     : Nat
  fused    : List Nat
  shadow   : Nat
  entry    : Nat
  kLo      : Nat
  kHi      : Nat
  sTvec    : Nat
  rnd      : Nat
  sWindows : List Nat
  deriving DecidableEq, Repr

/-- The commands. One constructor for each row of the table, in its order; those without operands stand last, so that Lean can compile each
constructor with operands. -/
inductive Instr
  -- 01 Site Time and Its Sources
  | writeLegacyMode (x : Xfer) (v : Int)
  | ppsInEdge (dt lowNs sub : Nat)
  | dfeSyncEdge (dt lowNs : Nat)
  | pulseRequalify (input : PulseInput)
  | ppsLoss (input : PulseInput) (dt heldNs : Nat)
  | todFrameRx (dt : Nat) (frame : Bytes)
  | waitToRestoreExpiry (src : Source)
  | writeServoEnable (x : Xfer) (v : Int)
  | writeSourcePriority (x : Xfer) (src : Source) (v : Int)
  | writePtpRole (x : Xfer) (v : Int)
  | writeAuthMode (x : Xfer) (v : Int)
  | guardStepConfirm (ask : GuardAsk)
  | triggerFire (n : Nat)
  | writeTriggerTarget (x : Xfer) (n : Nat) (target : Int)
  | readCapFifo (x : Xfer) (n : Nat)
  | ptpMessageRx (dt port : Nat) (h : PtpHead) (m : PtpMsg)
  | ptpMessageTx (port : Nat) (m : PtpOut)
  | synceOutputResume (out : Nat)
  -- 02 Network Listen
  | writeNlEnable (x : Xfer) (v : Int)
  | nlDetection (dt metric pci type : Nat) (centreHz : Int)
  | nlReceptionCommit (basis : NlBasis) (clippedPermille : Nat)
  | nlResultWritten (m : NlMeasure)
  -- 03 Air Time, Courses and Deadlines
  | writeAirEpoch (x : Xfer) (v : Int)
  | courseTentative (h : CourseHdr) (tbBytes : Nat) (desc : Bytes)
  | courseRevise (h : CourseHdr) (tbBytes : Nat) (desc : Bytes)
  | courseBind (h : CourseHdr)
  | courseCancel (h : CourseHdr)
  | dlTbData (h : CourseHdr) (handle offset : Nat) (data : Bytes)
  | courseAutoBind (chan course : Nat)
  | courseInAir (chan course : Nat)
  | courseEgressComplete (chan course : Nat)
  | outcomeSend (chan : Nat)
  | outcomeAck (dt chan seq credits : Nat)
  | operationLsExpiry (tag : Nat)
  | operationLfCancel (tag : Nat)
  -- 04 The Cenen Link to the Host
  | ucieLaneRepair (module lanes : Nat)
  | ucieModuleLost (dt module : Nat)
  | ucieModuleRetrained (dt module : Nat)
  | restoreHoldExpiry (module : Nat)
  | channelReturn (chan : Nat)
  | sidebandMessageRx (dt module vendor code : Nat) (data : Bytes)
  | malformedMessageRx (dt module : Nat) (units : Bytes)
  | resumeOpen (dt seq hostId : Nat) (credits : List Nat)
  | resumeModeResume (dt seq hostId : Nat) (entries : List ResumeEntry)
  | resumeClose (dt seq mode hostId : Nat)
  | writeSessionHold (x : Xfer) (v : Int)
  -- 05 The Nirmet Dictionary
  | dictRead (x : Xfer) (index sub layer offset most : Nat)
  | dictReadDescriptor (x : Xfer) (index sub : Nat)
  | dictWrite (x : Xfer) (index sub op offset total : Nat) (data : Bytes)
  | dictRevertImage (x : Xfer) (index sub : Nat)
  | dictRevertFactory (x : Xfer) (index sub : Nat)
  | registerWrite (x : Xfer) (index sub : Nat) (data : Bytes)
  | segmentTimeout (read : Bool)
  | enableDeferredCheck (index sub : Nat)
  | readEnableLog (x : Xfer)
  -- 06 Slot Processing
  | writeCarrierEnable (x : Xfer) (n : Nat) (v : Int)
  | writeUeContext (x : Xfer) (data : Bytes)
  | writeUeRelease (x : Xfer) (v : Int)
  -- 07 The Kiln
  | kilnFeed (tag arrived : Nat)
  | kilnAttemptEnd (tag : Nat) (b : Boundary)
  | kilnCancelToken (tag : Nat)
  | kilnEngineFault (kind : KilnKind) (n : Nat)
  -- 08 Layer Engines
  | leOperationEnd (tag : Nat)
  | leCancelToken (tag : Nat)
  | leEngineFault (n : Nat)
  | xeEngineFault (n : Nat)
  | wbDefine (x : Xfer)
  | wbDelete (x : Xfer)
  | writeWbWeights (x : Xfer) (data : Bytes)
  | wbCommit (x : Xfer)
  | wbCopyComplete (entry : Nat)
  | wbSwapDecision (entry : Nat)
  | wbSwapBoundary (entry : Nat)
  -- 09 Fronthaul Ports
  | writePortEnable (x : Xfer) (p : Nat) (v : Int)
  | portLinkUp (p : Nat)
  | fhLinkDown (dt p : Nat) (cause : LinkCause)
  | fecBerWindow (p ber corrected uncorrectable : Nat)
  | failoverReturn (carrier : Nat)
  | portShutdownComplete (p : Nat)
  | frameRx (dt p : Nat) (f : Frame)
  | uplaneMessageRx (dt p : Nat) (m : IqMsg)
  | oneWayDelayMsgRx (dt p src id : Nat) (action : OwdAction) (timePs compPs : Int)
  | remoteResetResponseRx (dt p id : Nat)
  | writeFwdRules (x : Xfer) (data : Bytes)
  | dlCplaneSend (chan course rec bytes : Nat)
  | ulCplaneSend (chan course bytes : Nat)
  | uplaneLaunch (chan course symbol port bytes : Nat) (power : Int)
  | upTxLate (chan course symbol : Nat)
  | ulWindowClose (chan course symbol : Nat)
  | owdStartRequest (x : Xfer)
  | owdStartFollowUp (x : Xfer)
  | remoteResetSend (x : Xfer)
  -- 10 Front-End Filters
  | dfeResetAll (x : Xfer)
  | writeTaps (x : Xfer) (chain : Nat) (path : Path) (data : Bytes)
  | commitTaps (x : Xfer) (chain : Nat) (path : Path)
  | coefSwapDecision (chain : Nat)
  | coefFadeStart (chain : Nat)
  | coefFadeEnd (chain : Nat)
  | coefCopyComplete (chain : Nat)
  | coefCrcCheck (chain : Nat) (path : Path) (ok : Bool)
  | thrBlockEnd (chain : Nat)
  | thrHoldoffEnd (chain : Nat)
  | txWindowOpen (carrier : Nat)
  | txWindowClose (carrier : Nat)
  | txgateEdge (g : Nat) (active : Bool)
  -- 11 Tiles
  | scalarRegisterOp (t : Nat) (op : ScalarOp) (gd ga gb : Nat)
  | scalarImmediateOp (t : Nat) (op : ScalarOp) (gd ga : Nat) (imm : Int)
  | wideImmediate (t gd field : Nat) (keep : Bool) (imm : Nat)
  | scalarLoad (t gd ga : Nat) (offset : Int) (size : Nat) (signed : Bool)
  | scalarStore (t gd ga : Nat) (offset : Int) (size : Nat)
  | branch (t : Nat) (cond : Cond) (ga gb : Nat) (offset : Int)
  | jump (t : Nat) (link : Bool) (offset : Int)
  | vectorArithmetic (t : Nat) (op : VecOp) (sat : Bool) (f : VFields)
  | vectorMultiply (t : Nat) (op : MulOp) (sat : Bool) (f : VFields)
  | vectorPermute (t : Nat) (op : PermOp) (sat : Bool) (f : VFields)
  | vectorLoad (t : Nat) (f : VMFields)
  | vectorStore (t : Nat) (f : VMFields)
  | gather (t : Nat) (f : VGFields)
  | scatter (t : Nat) (ff : Bool) (f : VGFields)
  | firstFaultGather (t : Nat) (f : VGFields)
  | pspan (t : Nat) (short : Bool) (pd ga gb : Nat) (et : ElemType)
  | predicateOp (t : Nat) (op : PredOp) (pd pa pb gd : Nat) (et : ElemType)
  | controlRegisterAccess (t : Nat) (write : Bool) (g number : Nat)
  | fence (t : Nat)
  | syscall (t : Nat)
  | fcall (t : Nat)
  | breakpoint (t : Nat)
  | eret (t : Nat)
  | tend (t g : Nat)
  | taskEndReport (t : Nat)
  | taskStart (t : Nat)
  | tileCancel (t : Nat)
  | tileFault (t : Nat)
  | bondMismatch (pair : Nat)
  | spareSelfTest (pair : Nat) (pass : Bool)
  | writeTileVl (x : Xfer) (t : Nat) (v : Int)
  | tileVlApply (t : Nat)
  | writeBondMode (x : Xfer) (pair : Nat) (v : Int)
  | bondChangeComplete (pair : Nat)
  -- 12 Fused Operations
  | fuse (t gd ga cls : Nat) (sizes : List Nat)
  | fusedJobSend (t slot : Nat)
  | fwait (t gd ga : Nat)
  | ftest (t gd ga : Nat)
  | fcancel (t ga : Nat)
  | bfb (t ga : Nat) (offset : Int)
  | bff (t cls : Nat) (offset : Int)
  | fusedPublication (t slot : Nat) (result : Bytes) (outputs : List (Nat × Bytes))
  -- 13 The Dataflow Scheduler
  | dispatch (tag unit : Nat)
  | promotion (tag : Nat)
  | operationEnd (tag : Nat) (how : TaskEnd)
  | prefetchCopyComplete (t pallet : Nat)
  | prefetchWaitExpiry (t : Nat)
  | writePartEnable (x : Xfer) (p : Nat) (v : Int)
  | writeTraceEnable (x : Xfer) (v : Int)
  | readTraceRecords (x : Xfer)
  -- 14 The Mortar Fabric
  | readReq (pkt : Packet) (found : List MemError)
  | write (pkt : Packet) (mask : List Nat) (data : Bytes) (found : List MemError)
  | message (pkt : Packet) (kind : MsgKind) (payload : Nat)
  | readResp (src tag line : Nat) (status : Status)
  | writeAck (src tag : Nat) (status : Status)
  | messageAck (src tag : Nat) (status : Status)
  | linkReplay (ring : Nat)
  | requestTimeout (src tag : Nat)
  | requestRetryResend (src tag : Nat)
  | ringLinkFault (ring stop : Nat) (lockLost : Bool)
  | foldNoticeRx (ring stop flits : Nat)
  | reverseHoldExpiry (ring : Nat)
  | ringRestore (ring : Nat)
  | jointPathFault (ring stop : Nat)
  | writeArbTable (x : Xfer) (mc : Bool) (data : Bytes)
  | arbCommit (x : Xfer) (mc : Bool)
  | arbSwapDecision (mc : Bool)
  | arbSwap (mc : Bool)
  -- 15 Memory and Its Integrity
  | edcMismatch (ch addr : Nat)
  | channelRetrainComplete (ch : Nat) (ok : Bool)
  | channelQueueRetry (ch src tag : Nat)
  | gddr7ChannelLost (ch : Nat) (cause : LossCause)
  | gddr7Scrub (ch lines : Nat) (found : List MemError)
  | palletStoreScrub (slice : Nat) (found : List MemError)
  | tileMemoryScrub (t : Nat) (found : List MemError)
  | writeRetiredPages (x : Xfer) (data : Bytes)
  | writeRetiredBanks (x : Xfer) (data : Bytes)
  | readErrLog (x : Xfer)
  | readMcRecord (x : Xfer)
  -- 16 Hod Engines
  | hodDescriptorEnd (engine channel : Nat)
  | hodResponseEnd (engine channel : Nat) (status : Status)
  | hodChainSignal (engine channel : Nat)
  | haltHoldExpiry (engine : Nat) (selfTestOk : Bool)
  | hodRelease (x : Xfer) (v : Int)
  | diagStart (x : Xfer)
  | diagStop (x : Xfer)
  -- 17 Emission Integrity
  | referenceFrequencyCheck (cycles : Nat)
  | guardAudit (carrier : Nat) (copyOk : Bool)
  | guardConfigCrcCheck (chain : Nat) (ok : Bool)
  | powerMeterBlock (carrier : Nat) (power : Int)
  | guardSelfCheck (pass : Bool) (code : Nat)
  | guardArmed (pass : Bool)
  | muteRelease (x : Xfer) (v : Int)
  | guardResync (x : Xfer)
  | dfeChainFault (chain : Nat)
  | palletSliceFault (slice : Nat)
  | managementCoreWatchdog (core : Nat)
  | unitRetire (x : Xfer) (v : Int)
  | faultClear (x : Xfer)
  | injArm (x : Xfer)
  | injRestore (x : Xfer)
  | readMuteLog (x : Xfer)
  -- 18 Power Domains
  | hostVote (x : Xfer) (d : Nat) (v : Int)
  | domainTransitionStart (d : Nat)
  | domainDrained (d : Nat)
  | domainEnterRunComplete (d : Nat)
  | avsAck (ack : AvsAckField)
  | avsPoll (vdone : Bool)
  | pmbusRead (readings : List (Nat × Nat × Int))
  | writeWatchEnable (x : Xfer) (v : Int)
  | watchCplaneSend (k bytes : Nat)
  | watchWindowOpen (k : Nat)
  | watchWindowClose (k : Nat)
  -- 19 Boot
  | coldReset (lowNs : Nat)
  | warmReset (lowNs : Nat)
  | resetCmdWarm (x : Xfer)
  | resetCmdCold (x : Xfer)
  | imgErase (x : Xfer)
  | imgData (x : Xfer) (data : Bytes)
  | imgVerify (x : Xfer)
  | imgActivate (x : Xfer)
  | imgConfirm (x : Xfer)
  | rollbackCommit (x : Xfer)
  | attestRequest (x : Xfer)
  | ownerProgram (x : Xfer) (hash : Bytes)
  | debugToken (x : Xfer) (data : Bytes)
  | debugClose (x : Xfer)
  | samplePreload (preload : Nat)
  | extest (cells : Nat)
  | jtagReset (lowNs : Nat)
  -- 20 Signals, Supplies
  | railUndervoltage (rail lowNs mv : Nat)
  | thermtrip (tj : Int)
  | gddr7TemperatureReadout (ch : Nat) (temp : Int)
  | tjCrossesHostCap (tj : Int)
  -- Commands without operands, of all sections
  | nanosecondsWrap
  | servoUpdate
  | limitWindowClosure
  | authExpiry
  | authStepDecision
  | authStepApply
  | ppsOutPulse
  | listenGapOpen
  | listenGapClose
  | airEpochApply
  | journalWriteComplete
  | sessionHoldExpiry
  | indicationSend
  | owdTimeout
  | remoteResetTimeout
  | dfeCommandReset
  | arbPhaseAlign
  | contextRebuildComplete
  | journalRebuildComplete
  | bucketLeak
  | divergenceComparison
  | muteComplete
  | referenceAbsent
  | rtcStopped
  | guardKeepaliveLoss
  | avsRetry
  | rtcAlarm
  | watchExitComplete
  | powerOnReset
  | updateOperationComplete
  | rollbackBurnComplete
  | attestReportReady
  | jtagBypass
  | idcode
  | rtcOscillatorRuns
  deriving DecidableEq, Repr

end Sys2Proof
end

