-- ==== Sys2Proof/Decode.lean ====
section
/-! DEFINITION. The command that a word spells by the bits of spec/opcode_table.json. No row of the table gives bits: the part is a
block that takes commands, and 00 R1 gives it no instruction word. -/

namespace Sys2Proof

/-- The rows that give bits: none, so no word spells a command. -/
def decodeTableWord (_nbits _w : Nat) : Option Instr := none

end Sys2Proof
end

