-- ==== Sys2Proof/Config.lean ====
section
/-! DEFINITION. What an implementation fixes and the values the spec leaves open: constants without a body, so that a
statement about one holds for every value of it. -/

namespace Sys2Proof.Config

/-- DESIGN CHOICE, a free value (log entry 10): whether the working increment of a non-zero frequency word is rounded up in its last of 48
fractional bits; 01 R14 states the number and not its rounding. -/
opaque incRoundUp : Int → Bool

/-- DESIGN CHOICE, a free value (log entry 11): the result of a scalar divide whose divisor is 0; 11 R376 names the divide and states no
result for it. -/
opaque divByZero : Word → Bool → Word

/-- DESIGN CHOICE, a free value (log entry 11): the quotient of the most negative number by −1 in a signed divide. -/
opaque divOverflow : Word → Word

/-- DESIGN CHOICE, a free value (log entry 10): whether a quotient that the spec computes exactly and stores as an integer is rounded up; the first
argument says which quotient, the others are its terms. The spec states none of these roundings. -/
opaque roundUp : Nat → Int → Int → Bool

/-- DESIGN CHOICE, a free value (log entry 13): the frequency word that follows the SyncE recovered clock in a holdover of 01 R49; the spec names the
reference and not the number that its measurement gives. -/
opaque synceFreq : Nat → Int

/-- DESIGN CHOICE, a free value (log entry 45): the figures by which the Alternate BMCA compares the device's own clock, by SERVO_STATE; 01
states no clock class or quality of the device. -/
opaque ownClock : Int → List Nat

/-- DESIGN CHOICE, a free value (log entry 48): the ticks after which the adapter has acknowledged the last flit of the n-th message that the device
sends; 04 gives no such time. -/
opaque ackTicks : Nat → Nat

/-- DESIGN CHOICE, a free value (log entry 48): the flits that the adapter sends again for the n-th message (ADAPTER_RETRIES). -/
opaque flitRetries : Nat → Nat

/-- DESIGN CHOICE, a free value (log entry 12): words nothing in the spec fixes, drawn one after another by a counter of the state. -/
opaque freeWord : Nat → Word

/-- DESIGN CHOICE, a free value (log entry 16): the work units W of a tile operation (13 R434), from its kind, PRBs, symbols and layers; the spec fixes
where W stands and not its value. -/
opaque workUnits : Nat → Nat → Nat → Nat → Nat

/-- DESIGN CHOICE, a free value (log entry 16): the output pallets of an operation (13 Table 13-3, byte 58), from its kind, PRBs and symbols. -/
opaque outputPallets : Nat → Nat → Nat → Nat

/-- DESIGN CHOICE, a free value (log entry 17): the largest transport block that TS 36.213 gives a standard, PRBs and layers (03 R106). -/
opaque lteLargestTbs : Nat → Nat → Nat → Nat

/-- DESIGN CHOICE, a free value (log entry 17): the largest uplink transport block that TS 36.213 gives a standard, PRBs and layers (03 R114). -/
opaque lteLargestUlTbs : Nat → Nat → Nat → Nat

/-- DESIGN CHOICE, a free value (log entry 17): the coded bits of the UCI that a record carries, E of 07 R261, which TS 38.212 and TS 38.213 give. -/
opaque uciCodedBits : Bytes → Nat

/-- DESIGN CHOICE, a free value (log entry 17): the root sequences of a PRACH occasion, n_root of 08 R271, which TS 38.211 and TS 36.211 give. -/
opaque prachRoots : Bytes → Nat

/-- DESIGN CHOICE, a free value (log entry 17): the DMRS symbols of a PUCCH record,
which TS 38.211 gives. -/
opaque pucchDmrsSymbols : Bytes → Nat

/-- Whether PTRS takes an element of an allocation with PTRS: its record's bytes, the symbol and the subcarrier counted from the allocation's first (TS
38.211; log entry 17). -/
opaque ptrsAt : Bytes → Nat → Nat → Bool

/-- DESIGN CHOICE, a free value (log entry 18): whether two records whose symbols and PRBs meet share a resource element, where TS 38.211 or TS 36.211
places the elements of one of them. -/
opaque elementsMeet : Bytes → Bytes → Bool

/-- DESIGN CHOICE, a free value (log entry 31): the base Ethernet address of the part, from which PORT_MAC of port p starts as base + p (09 Table 9-8). -/
opaque fusedMac : Nat

/-- The SHA-256 of FIPS 180-4, which 19 R616 and R622 name and the spec does not define; its first 32 bytes are used (log entry 39). -/
opaque sha256 : Bytes → Bytes

/-- Whether an HSS signature of RFC 8554, the third argument, over a message, the second, is valid under a public key, the first (19 R617; log
entry 39). -/
opaque hssValid : Bytes → Bytes → Bytes → Bool

/-- The identity key's HSS signature of a message by the leaf of a bottom tree: tree, leaf, message (19 R621; log entry 39). -/
opaque hssSignature : Nat → Nat → Bytes → Bytes

/-- DESIGN CHOICE, a free value of the fuses: the identity public key that the part derives from its seed (19 R621; log entry 39). -/
opaque identityKey : Bytes

/-- The Zilxis root hash in ROM (19 R616; log entry 39). -/
opaque rootHash : Bytes

/-- DESIGN CHOICE, a free value (log entry 16): the program index that serves a kind of tile operation; the spec numbers programs and kinds, and does not say
which serves which. -/
opaque programFor : Nat → Nat

/-- The shift of the entry in a row and column of a base graph for a lifting size, none where the graph has no edge: the tables of TS 38.212
clause 5.3.2, which 07 R232 names (log entry 49). -/
opaque ldpcShift : Nat → Nat → Nat → Nat → Option Nat

/-- The coefficients f1 and f2 of the turbo interleaver of a block size: TS 36.212 Table 5.1.3-3, which 07 R232 names (log entry 49). -/
opaque qpp : Nat → Nat × Nat

/-- Whether a bit of a polar code is frozen, from its information bits, E, N and the bit: TS 38.212 clause 5.3.1 (log entry 49). -/
opaque polarFrozen : Nat → Nat → Nat → Nat → Bool

/-- The earlier bits whose parity a parity-check bit of a polar code carries, none for any other bit: TS 38.212 clause 5.3.1 (log entry 49). -/
opaque polarParity : Nat → Nat → Nat → Nat → Option (List Nat)

/-- The code bit that a transmitted bit of a polar code carries: TS 38.212 clause 5.4.1 (log entry 49). -/
opaque polarPlace : Nat → Nat → Nat → Nat → Nat

/-- The place of a bit of a DCI or PBCH payload with its CRC that interleaving puts at a place, from the number of bits: TS 38.212 clause 5.3.1.1
(log entry 49). -/
opaque polarTurn : Nat → Nat → Nat

/-- The code bit that a transmitted bit of a downlink polar code carries, from its information bits, E, N and the bit: TS 38.212 clause 5.4.1
(log entry 49). -/
opaque polarSent : Nat → Nat → Nat → Nat → Nat

/-- The 32 bits of a PBCH payload, from the bytes of its record and the frame number: TS 38.212 clause 7.1.1 (log entry 49). -/
opaque pbchPayload : Bytes → Nat → BitVec 32

/-- The scrambling bit of a coded bit of a DCI or a PBCH, from the bytes of its record: TS 38.211 clauses 7.3.2.3 and 7.3.3.1 (log entry 49). -/
opaque scramble : Bytes → Nat → Bool

/-- Whether a code bit of a polar code is shortened: TS 38.212 clause 5.4.1 (log entry 49). -/
opaque polarShortened : Nat → Nat → Nat → Nat → Bool

/-- DESIGN CHOICE, a free value (log entry 49): the extrinsic that a suspended turbo attempt keeps of a parity or tail bit, from K, its place in
the code word, the priors and the scaled extrinsics of the K bits; 07 R244 gives its byte a place and no value. -/
opaque parityExtrinsic : Nat → Nat → List Int → List Rat → Int

/-- DESIGN CHOICE, a free value (log entry 49): how many blocks of a transport block take the smaller turbo size, from C and the TB tag; a fused
descriptor of 07 Table 7-6 does not say. -/
opaque smallBlocks : Nat → Nat → Nat

/-- DESIGN CHOICE, a free value (log entry 49): the bit that a posterior of 0 is decided to, by its place in the code word; 07 states none. -/
opaque tieBit : Nat → Bool

/-- The DMRS symbol, Q3.12, that a record's DMRS port places on a subcarrier of a symbol, none where it places none: from the record's bytes, the
symbol, the port and the subcarrier (TS 38.211, TS 36.211; log entry 50). -/
opaque dmrs : Bytes → Nat → Nat → Nat → Option (Int × Int)

/-- DESIGN CHOICE, a free value (log entry 50): a tap of the 8-tap filter of 08 R274, from the record, the port, the subcarrier and the tap. -/
opaque chestTap : Bytes → Nat → Nat → Nat → Rat

/-- DESIGN CHOICE, a free value (log entry 50): the weight of a DMRS symbol in the estimate of a symbol (08 R274). -/
opaque chestTime : Bytes → Nat → Nat → Rat

/-- DESIGN CHOICE, a free value (log entry 50): a filter weight where the matrix to be inverted has no inverse. -/
opaque freeTap : Nat → Nat → Rat

/-- DESIGN CHOICE, a free value (log entry 50): the phase that a sum of 0 is taken to have, for it has no angle. -/
opaque noAngle : Rat

/-- DESIGN CHOICE, a free value (log entry 50): the phase, in turns, that an eigenvector is given, from the covariance by rows and its place: 08 R286
fixes its norm alone. -/
opaque eigenPhase : List (Rat × Rat) → Nat → Rat

/-- DESIGN CHOICE, a free value (log entry 50): the weight of a column whose eigenvalue is 0, where every vector is an eigenvector: its place and the
port. -/
opaque eigenFree : Nat → Nat → Int × Int

/-- The sequence of a root of a PRACH occasion on a subcarrier of its own numerology (TS 38.211, TS 36.211; log entry 50). -/
opaque prachSeq : Bytes → Nat → Nat → Rat × Rat

/-- The root, the first correlation bin and the width of the cyclic-shift zone of a preamble (log entry 50). -/
opaque prachZone : Bytes → Nat → Nat × Nat × Nat

/-- The sequence length and the repetitions of a PRACH occasion, or the symbol groups of an NPRACH preamble (log entry 50). -/
opaque prachShape : Bytes → Nat × Nat

/-- The Tc of one correlation bin, or of one turn for each subcarrier of a hop (log entry 50). -/
opaque prachBinTc : Bytes → Rat

/-- DESIGN CHOICE, a free value (log entry 50): the interpolated place of a peak between three bins (08 R283). -/
opaque peakShift : Rat → Rat → Rat → Rat

/-- The subcarrier of a symbol group of an NPRACH preamble (TS 36.211; log entry 50). -/
opaque nprachTone : Bytes → Nat → Nat → Nat

/-- The SRS symbol, Q3.12, that a record's SRS port places on a subcarrier of a symbol, none where it places none (log entry 50). -/
opaque srsRef : Bytes → Nat → Nat → Nat → Option (Int × Int)

/-- DESIGN CHOICE, a free value (log entry 50): a tap of the 4-tap smoothing of 08 R285. -/
opaque srsTap : Nat → Nat → Rat

/-- A tap, Q1.17, of the fixed half-band filters of a chain (10 R334; log entry 51). -/
opaque halfBandTap : Nat → Int

/-- A tap, Q1.17, of the resampler of a chain, by phase, 0 to 256, and place (10 R334; log entry 51). -/
opaque resamplerTap : Nat → Nat → Int

/-- DESIGN CHOICE, a free value (log entry 51): whether the CIC's gain factor of a rate change is the upper of the two Q1.17 numbers beside the
exact one; 10 R335 fixes it within 2⁻¹⁷. -/
opaque cicGainUp : Nat → Bool

/-- DESIGN CHOICE, a free value (log entry 51): what a stage of a chain gives, by its width, where its result falls outside that width; 10 R335 states
saturation for 16 bits alone. -/
opaque outside : Nat → Int → Int

/-- DESIGN CHOICE, a free value (log entry 51): the scale of a transform of a size, and whether it is the inverse; 06 R188 states none. -/
opaque transformScale : Bool → Nat → Rat

/-- DESIGN CHOICE, a free value (log entry 51): the first subcarrier of an in-band or guard-band NB-IoT carrier, the second argument, in the messages
of its host, the first (06 R186). -/
opaque guestTone : Nat → Nat → Nat

/-- DESIGN CHOICE, a free value (log entry 52): the flits, less one, that a buffer of a virtual channel or of a joint holds; 14 states none. -/
opaque vcDepth : Nat

/-- DESIGN CHOICE, a free value (log entry 40): what a statistic or counter of events below the commands' level reads: object and tick. -/
opaque measured : Nat → Nat → BitVec 64

/-- A component of a port sample as modulation compression of the O-RAN CUS specification sends it, Qm / 2 bits, from the bytes of its record (09
R312 names the method; log entry 54). -/
opaque modComp : Bytes → Int → Int

/-- The parameters of C-plane extension 4 or 5 for a record of modulation compression, from its bytes and the extension (09 Table 9-3 names them; log
entry 54). -/
opaque modParams : Bytes → Nat → List Nat

end Sys2Proof.Config
end

