-- ==== Sys2Proof/Machine/Bytes.lean ====
section
/-! DEFINITION. Byte strings and bit fields (05 R152), and the air-time stamp as a number (03 Table 3-1). -/

namespace Sys2Proof.Machine

/-- The low `n` bytes of a number, lowest first (05 R152). -/
def leBytes : Nat → Nat → Bytes
  | 0, _ => []
  | n + 1, v => BitVec.ofNat 8 v :: leBytes n (v / 256)

/-- The number that a byte string spells, lowest byte first (05 R152). -/
def leNat : Bytes → Nat
  | [] => 0
  | b :: t => b.toNat + 256 * leNat t

/-- The `n`-byte number at a byte offset; bytes past the end read 0. -/
def bytesAt (b : Bytes) (offset n : Nat) : Nat := leNat ((b.drop offset).take n)

/-- The two's complement code of a number in `bits` bits. -/
def codeOf (bits : Nat) (v : Int) : Nat := (v % (2 ^ bits : Nat)).toNat

/-- The number that a two's complement code of `bits` bits stands for. -/
def signedOf (bits n : Nat) : Int := if n < 2 ^ (bits - 1) then n else (n : Int) - (2 ^ bits : Nat)

/-- Bit `n` of a number. -/
def bitOf (v n : Nat) : Bool := v / 2 ^ n % 2 == 1

/-- The number with bit `n` set or cleared. -/
def setBit (v n : Nat) (b : Bool) : Nat :=
  if b then (if bitOf v n then v else v + 2 ^ n) else (if bitOf v n then v - 2 ^ n else v)

/-- The number of one bits among the lowest `n`. -/
def onesBelow (v : Nat) : Nat → Nat
  | 0 => 0
  | n + 1 => onesBelow v n + (if bitOf v n then 1 else 0)

/-- The quotient rounded up. -/
def ceilDiv (a b : Nat) : Nat := (a + b - 1) / b

/-- A byte taken into a CRC-32 register, `n` bits of it, lowest bit first. -/
def crcStep : Nat → Nat → Nat
  | 0, r => r
  | n + 1, r => crcStep n (if r % 2 = 1 then Nat.xor (r / 2) 0xEDB88320 else r / 2)

/-- The CRC-32 of a byte string, with the polynomial of IEEE 802.3 (08 R294, 10 R341). -/
def crc32 (b : Bytes) : Nat := Nat.xor (b.foldl (fun r x => crcStep 8 (Nat.xor r x.toNat)) 0xFFFFFFFF) 0xFFFFFFFF

/-- The length padded to a multiple of 8 (04 Tables 4-4 to 4-9). -/
def pad8 (n : Nat) : Nat := ceilDiv n 8 * 8

/-- A byte string made up to a multiple of `k` with zeros. -/
def padTo (k : Nat) (b : Bytes) : Bytes := b ++ List.replicate (ceilDiv b.length k * k - b.length) 0

/-- A byte string cut into pieces of `k` bytes, the last one shorter where it does not divide; `n` bounds the pieces. -/
def packetsOf (k : Nat) : Nat → Bytes → List Bytes
  | 0, _ => []
  | n + 1, b => if b.isEmpty then [] else b.take k :: packetsOf k n (b.drop k)

/-- A list kept to its newest `n` entries, the newest last. -/
def keepLast {α : Type} (n : Nat) (l : List α) : List α := l.drop (l.length - n)

/-! ## The air-time stamp: in 1/6144 ns, one nanosecond is 6,144 units and one Tc 3,125 -/

/-- Units in one nanosecond. -/
def airNs : Int := 6144

/-- Units in one Tc. -/
def airTc : Int := 3125

/-- Tc after which air time starts again, M of 03 R90. -/
def airModulus : Nat := 2 ^ 14 * 1024 * 10 * 1966080

/-- The stamp of an instant of air time in 2⁻¹⁵ Tc (03 Table 3-1). -/
def stampAts (x : Int) : Nat :=
  let f := (x % ((airModulus * 2 ^ 15 : Nat) : Int)).toNat
  let tc := f / 2 ^ 15
  tc / 1966080 / 10 / 1024 * 2 ^ 50 + tc / 1966080 / 10 % 1024 * 2 ^ 40 + tc / 1966080 % 10 * 2 ^ 36
    + tc % 1966080 * 2 ^ 15 + f % 2 ^ 15

/-- The stamp of an instant of air time in air units. -/
def atsOf (a : Int) : Nat := stampAts (a * 2 ^ 15 / airTc)

/-- The number that bytes in wire order spell. -/
def wireNat (b : Bytes) : Nat := b.foldl (fun n x => 256 * n + x.toNat) 0

end Sys2Proof.Machine
end

