-- ==== Sys2Proof/Machine/Keys.lean ====
section
/-! DEFINITION. The numbers of the dictionary's objects (05 R150): index × 256 + sub, one name for each object that a table of
the spec defines, a function of the unit where the object repeats. -/

namespace Sys2Proof.O

abbrev vendor : Nat := 0x100001
abbrev part : Nat := 0x100002
abbrev stepping : Nat := 0x100003
abbrev dieId : Nat := 0x100004
abbrev romVersion : Nat := 0x100005
abbrev fwVersion : Nat := 0x100006
abbrev imageSlot : Nat := 0x100007
abbrev imageVersion : Nat := 0x100008
abbrev streamUnits : Nat := 0x101001
abbrev carriers : Nat := 0x101002
abbrev ueContexts : Nat := 0x101003
abbrev tilesInService : Nat := 0x101004
abbrev tileSpares : Nat := 0x101005
abbrev kdSpares : Nat := 0x101006
abbrev keSpares : Nat := 0x101007
abbrev leSpares : Nat := 0x101008
abbrev xeSpares : Nat := 0x101009
abbrev gddr7Mib : Nat := 0x10100A
abbrev bootState : Nat := 0x140001
abbrev bootReason : Nat := 0x140002
abbrev resetCause : Nat := 0x140003
abbrev resetCmd : Nat := 0x140004
abbrev bootMemtest : Nat := 0x140005
abbrev coldResets : Nat := 0x140006
abbrev warmResets : Nat := 0x140007
abbrev bootMs : Nat := 0x140008
abbrev updateState : Nat := 0x141001
abbrev updateReason : Nat := 0x141002
abbrev imgOffset : Nat := 0x141003
abbrev imgData : Nat := 0x141004
abbrev imgErase : Nat := 0x141005
abbrev imgVerify : Nat := 0x141006
abbrev imgActivate : Nat := 0x141007
abbrev imgConfirm : Nat := 0x141008
abbrev trialState : Nat := 0x141009
abbrev slotAVersion : Nat := 0x14100A
abbrev slotBVersion : Nat := 0x14100B
abbrev siteTime : Nat := 0x200001
abbrev legacyNs : Nat := 0x200002
abbrev legacyMode : Nat := 0x200003
abbrev legacyIncr : Nat := 0x200004
abbrev timeValid : Nat := 0x200005
abbrev utcOffset : Nat := 0x200006
abbrev servoEnable : Nat := 0x201001
abbrev selectedSource : Nat := 0x201002
abbrev freqWord : Nat := 0x201003
abbrev phaseError : Nat := 0x201004
abbrev slewLimit : Nat := 0x201005
abbrev lockThreshold : Nat := 0x201006
abbrev holdoverBound : Nat := 0x201007
abbrev holdoverLimit : Nat := 0x201008
abbrev limitAction : Nat := 0x201009
abbrev steerMode : Nat := 0x20100A
abbrev oscTempTerm : Nat := 0x20100B
abbrev oscAging : Nat := 0x20100C
abbrev dcoStep : Nat := 0x20100D
abbrev servoState : Nat := 0x20100E
abbrev holdoverEnterCount : Nat := 0x20100F
abbrev holdoverLimitCount : Nat := 0x201010
abbrev jumpThreshold : Nat := 0x202001
abbrev refusedOffsetS : Nat := 0x202002
abbrev refusedOffsetNs : Nat := 0x202003
abbrev authOffsetS : Nat := 0x202004
abbrev authOffsetNs : Nat := 0x202005
abbrev authMode : Nat := 0x202006
abbrev authStatus : Nat := 0x202007
abbrev authTolerance : Nat := 0x202008
abbrev timeJumpRefusedCount : Nat := 0x202009
abbrev prioGnss : Nat := 0x203001
abbrev prioPtp : Nat := 0x203002
abbrev prioNl : Nat := 0x203003
abbrev waitToRestore : Nat := 0x203004
abbrev sourceStatus : Nat := 0x203005
abbrev revertive : Nat := 0x203006
abbrev ppsCableDelay : Nat := 0x204002
abbrev todFormat : Nat := 0x204003
abbrev todBaud : Nat := 0x204004
abbrev todLabel : Nat := 0x204005
abbrev ppsState : Nat := 0x204006
abbrev ppsStrays : Nat := 0x204007
abbrev ppsGlitches : Nat := 0x204008
abbrev ppsStormCount : Nat := 0x204009
abbrev ppsLossCount : Nat := 0x20400A
abbrev dfeSyncPeriod : Nat := 0x205001
abbrev dfeSyncOffset : Nat := 0x205002
abbrev dfeSyncState : Nat := 0x205003
abbrev dfeSyncStrays : Nat := 0x205004
abbrev dfeSyncStormCount : Nat := 0x205005
abbrev dfeSyncLossCount : Nat := 0x205006
abbrev ptpRole : Nat := 0x206001
abbrev ptpProfile : Nat := 0x206002
abbrev ptpDomain : Nat := 0x206003
abbrev out0Lane : Nat := 0x207001
abbrev out0Freq : Nat := 0x207002
abbrev out1Lane : Nat := 0x207003
abbrev out1Freq : Nat := 0x207004
abbrev squelched : Nat := 0x207005
abbrev synceTraceable : Nat := 0x207006
abbrev portPtpRole (n : Nat) : Nat := 0x208001 + 0x100 * n
abbrev asymmetry (n : Nat) : Nat := 0x208002 + 0x100 * n
abbrev portState (n : Nat) : Nat := 0x208003 + 0x100 * n
abbrev meanPathDelay (n : Nat) : Nat := 0x208004 + 0x100 * n
abbrev stepMode (n : Nat) : Nat := 0x208005 + 0x100 * n
abbrev localPriority (n : Nat) : Nat := 0x208006 + 0x100 * n
abbrev capSource (n : Nat) : Nat := 0x20A001 + 0x100 * n
abbrev capEdge (n : Nat) : Nat := 0x20A002 + 0x100 * n
abbrev capFifo (n : Nat) : Nat := 0x20A003 + 0x100 * n
abbrev capLost (n : Nat) : Nat := 0x20A004 + 0x100 * n
abbrev trigTarget (n : Nat) : Nat := 0x20B001 + 0x100 * n
abbrev trigPeriod (n : Nat) : Nat := 0x20B002 + 0x100 * n
abbrev trigOutput (n : Nat) : Nat := 0x20B003 + 0x100 * n
abbrev trigStatus (n : Nat) : Nat := 0x20B004 + 0x100 * n
abbrev ppsOutMode : Nat := 0x20C001
abbrev ppsOutOffset : Nat := 0x20C002
abbrev ppsOutWidth : Nat := 0x20C003
abbrev nlEnable : Nat := 0x240001
abbrev nlMode : Nat := 0x240002
abbrev nlChain : Nat := 0x240003
abbrev nlMixHz : Nat := 0x240004
abbrev nlState : Nat := 0x240005
abbrev gapPeriod : Nat := 0x241002
abbrev gapFrameOffset : Nat := 0x241003
abbrev gapStart : Nat := 0x241004
abbrev gapLength : Nat := 0x241005
abbrev gapMuteMask : Nat := 0x241006
abbrev nextGap : Nat := 0x241007
abbrev blankedSymbols : Nat := 0x241008
abbrev numerologyMask : Nat := 0x242001
abbrev detThreshold : Nat := 0x242002
abbrev captureMargin : Nat := 0x242003
abbrev agcTarget : Nat := 0x242004
abbrev sinrFloor : Nat := 0x242005
abbrev sigmaMax : Nat := 0x242006
abbrev maxAge : Nat := 0x242007
abbrev nlRuRxDelay : Nat := 0x242008
abbrev resultTime : Nat := 0x243001
abbrev resultOffset : Nat := 0x243002
abbrev resultPci : Nat := 0x243003
abbrev resultType : Nat := 0x243004
abbrev resultSinr : Nat := 0x243005
abbrev resultEvm : Nat := 0x243006
abbrev resultSigma : Nat := 0x243007
abbrev resultFreqErr : Nat := 0x243008
abbrev resultMetric : Nat := 0x243009
abbrev resultFlags : Nat := 0x24300A
abbrev resultsCommitted : Nat := 0x24300B
abbrev falseDetections : Nat := 0x24300C
abbrev nbPci (n : Nat) : Nat := 0x244001 + 0x100 * n
abbrev nbType (n : Nat) : Nat := 0x244002 + 0x100 * n
abbrev nbSsbCase (n : Nat) : Nat := 0x244003 + 0x100 * n
abbrev nbOffsetHz (n : Nat) : Nat := 0x244004 + 0x100 * n
abbrev nbPropDelay (n : Nat) : Nat := 0x244005 + 0x100 * n
abbrev nbTrusted (n : Nat) : Nat := 0x244006 + 0x100 * n
abbrev mcCount : Nat := 0x246001
abbrev mcRecord : Nat := 0x246002
abbrev airEpoch : Nat := 0x260001
abbrev airNow : Nat := 0x260002
abbrev airState : Nat := 0x260003
abbrev feasParse : Nat := 0x260004
abbrev tooLateTotal : Nat := 0x260005
abbrev frameOffset (n : Nat) : Nat := 0x264001 + 0x100 * n
abbrev txAdvance (n : Nat) : Nat := 0x264002 + 0x100 * n
abbrev runAheadSlots (n : Nat) : Nat := 0x264003 + 0x100 * n
abbrev feasGuard (n : Nat) : Nat := 0x264004 + 0x100 * n
abbrev encReserve (n : Nat) : Nat := 0x264005 + 0x100 * n
abbrev encBindLead (n : Nat) : Nat := 0x264006 + 0x100 * n
abbrev mapBindLead (n : Nat) : Nat := 0x264007 + 0x100 * n
abbrev ulBindLead (n : Nat) : Nat := 0x264008 + 0x100 * n
abbrev ulResultBudget (n : Nat) : Nat := 0x264009 + 0x100 * n
abbrev revisionsAccepted (n : Nat) : Nat := 0x26400A + 0x100 * n
abbrev refusedTooLate (n : Nat) : Nat := 0x26400B + 0x100 * n
abbrev expiredOps (n : Nat) : Nat := 0x26400C + 0x100 * n
abbrev cenenLinkState : Nat := 0x280001
abbrev moduleMap : Nat := 0x280002
abbrev lanesRepairedU0 : Nat := 0x280003
abbrev lanesRepairedU1 : Nat := 0x280004
abbrev adapterRetries : Nat := 0x280005
abbrev moduleLostCount : Nat := 0x280006
abbrev restoreHold : Nat := 0x280007
abbrev sbVendorId : Nat := 0x280008
abbrev sessionState : Nat := 0x281001
abbrev hostId : Nat := 0x281002
abbrev sessionHold : Nat := 0x281003
abbrev lockedAttempts : Nat := 0x281004
abbrev formatErrors : Nat := 0x281005
abbrev indicationsDropped : Nat := 0x281006
abbrev creditGrant : Nat := 0x281007
abbrev unackedLimit : Nat := 0x281008
abbrev journalCopies : Nat := 0x282001
abbrev journalUsed : Nat := 0x282002
abbrev journalHigh : Nat := 0x282003
abbrev nextReqSeq (n : Nat) : Nat := 0x284101 + 0x100 * n
abbrev nextOutcomeSeq (n : Nat) : Nat := 0x284102 + 0x100 * n
abbrev lastAcked (n : Nat) : Nat := 0x284103 + 0x100 * n
abbrev unacked (n : Nat) : Nat := 0x284104 + 0x100 * n
abbrev hostCredits (n : Nat) : Nat := 0x284105 + 0x100 * n
abbrev deviceCredits (n : Nat) : Nat := 0x284106 + 0x100 * n
abbrev seqRefusals (n : Nat) : Nat := 0x284107 + 0x100 * n
abbrev duplicates (n : Nat) : Nat := 0x284108 + 0x100 * n
abbrev journalFullRefusals (n : Nat) : Nat := 0x284109 + 0x100 * n
abbrev transfersServed : Nat := 0x2C0001
abbrev transfersRefused : Nat := 0x2C0002
abbrev busyReplies : Nat := 0x2C0003
abbrev segMax : Nat := 0x2C0004
abbrev segTimeout : Nat := 0x2C0005
abbrev changeCount : Nat := 0x2C0006
abbrev imageEntriesApplied : Nat := 0x2C0007
abbrev imageEntriesRejected : Nat := 0x2C0008
abbrev imageFirstReject : Nat := 0x2C0009
abbrev enableResolvedCount : Nat := 0x2C000A
abbrev lastCheckObject : Nat := 0x2C000B
abbrev lastCheckReason : Nat := 0x2C000C
abbrev abortedTransfers : Nat := 0x2C000D
abbrev enableLogCount : Nat := 0x2C1001
abbrev enableLog : Nat := 0x2C1002
abbrev carrierEnable (n : Nat) : Nat := 0x300001 + 0x2000 * n
abbrev standard (n : Nat) : Nat := 0x300002 + 0x2000 * n
abbrev freqRange (n : Nat) : Nat := 0x300003 + 0x2000 * n
abbrev numerology (n : Nat) : Nat := 0x300004 + 0x2000 * n
abbrev bandwidth (n : Nat) : Nat := 0x300005 + 0x2000 * n
abbrev duplex (n : Nat) : Nat := 0x300006 + 0x2000 * n
abbrev dlPorts (n : Nat) : Nat := 0x300007 + 0x2000 * n
abbrev ulPorts (n : Nat) : Nat := 0x300008 + 0x2000 * n
abbrev portKind (n : Nat) : Nat := 0x300009 + 0x2000 * n
abbrev fhDomain (n : Nat) : Nat := 0x30000A + 0x2000 * n
abbrev fhPort (n : Nat) : Nat := 0x30000B + 0x2000 * n
abbrev dfeFirst (n : Nat) : Nat := 0x30000C + 0x2000 * n
abbrev pci (n : Nat) : Nat := 0x30000D + 0x2000 * n
abbrev hostCarrier (n : Nat) : Nat := 0x30000E + 0x2000 * n
abbrev nbiotMode (n : Nat) : Nat := 0x30000F + 0x2000 * n
abbrev ltemMode (n : Nat) : Nat := 0x300010 + 0x2000 * n
abbrev muLayersDl (n : Nat) : Nat := 0x300011 + 0x2000 * n
abbrev muLayersUl (n : Nat) : Nat := 0x300012 + 0x2000 * n
abbrev transformSize (n : Nat) : Nat := 0x300013 + 0x2000 * n
abbrev runaheadFraction (n : Nat) : Nat := 0x300014 + 0x2000 * n
abbrev decIterDefault (n : Nat) : Nat := 0x300015 + 0x2000 * n
abbrev streamUnitsHeld (n : Nat) : Nat := 0x300016 + 0x2000 * n
abbrev palletsReserved (n : Nat) : Nat := 0x300017 + 0x2000 * n
abbrev coursesDone (n : Nat) : Nat := 0x300018 + 0x2000 * n
abbrev coursesPartial (n : Nat) : Nat := 0x300019 + 0x2000 * n
abbrev coursesExpired (n : Nat) : Nat := 0x30001A + 0x2000 * n
abbrev symbolsWithheld (n : Nat) : Nat := 0x30001B + 0x2000 * n
abbrev ueCtxLimit : Nat := 0x380001
abbrev softbufPallets : Nat := 0x380002
abbrev softbufFree : Nat := 0x380003
abbrev cachePinned : Nat := 0x380004
abbrev cacheMisses : Nat := 0x380005
abbrev harqCommits : Nat := 0x380006
abbrev harqDiscards : Nat := 0x380007
abbrev harqVersionLostCount : Nat := 0x380008
abbrev runaheadEarly : Nat := 0x380009
abbrev runaheadRestarts : Nat := 0x38000A
abbrev supersededOutputs : Nat := 0x38000B
abbrev ueIndex : Nat := 0x381001
abbrev ueContext : Nat := 0x381002
abbrev ueState : Nat := 0x381003
abbrev ueRelease : Nat := 0x381004
abbrev ueActiveCount : Nat := 0x381005
abbrev ueHarqState : Nat := 0x381006
abbrev kdServiceLo : Nat := 0x3C0001
abbrev kdServiceHi : Nat := 0x3C0002
abbrev kdFaultedLo : Nat := 0x3C0003
abbrev kdFaultedHi : Nat := 0x3C0004
abbrev keService : Nat := 0x3C0005
abbrev keFaulted : Nat := 0x3C0006
abbrev kdBusy : Nat := 0x3C0007
abbrev keBusy : Nat := 0x3C0008
abbrev minsumAlpha : Nat := 0x3C1001
abbrev runaheadIter : Nat := 0x3C1002
abbrev restartStep : Nat := 0x3C1003
abbrev stallIter : Nat := 0x3C1004
abbrev extrinsicBeta : Nat := 0x3C1005
abbrev turboIterDefault : Nat := 0x3C1006
abbrev turboExtScale : Nat := 0x3C1007
abbrev polarList : Nat := 0x3C1008
abbrev decJobs : Nat := 0x3C2001
abbrev decPass : Nat := 0x3C2002
abbrev decFail : Nat := 0x3C2003
abbrev iterations : Nat := 0x3C2004
abbrev encJobs : Nat := 0x3C2005
abbrev encBlocks : Nat := 0x3C2006
abbrev polarDecJobs : Nat := 0x3C2007
abbrev cancelledJobs : Nat := 0x3C2008
abbrev feedIgnored : Nat := 0x3C2009
abbrev tbMismatches : Nat := 0x3C200A
abbrev llrReadErrors : Nat := 0x3C200B
abbrev engineFaults : Nat := 0x3C200C
abbrev badJobs : Nat := 0x3C200D
abbrev leService : Nat := 0x400001
abbrev leFaulted : Nat := 0x400002
abbrev leBusy : Nat := 0x400003
abbrev detMode : Nat := 0x401001
abbrev detPrbGroup : Nat := 0x401002
abbrev precBackoff : Nat := 0x401003
abbrev prachThreshold : Nat := 0x401004
abbrev loadSbPrbs : Nat := 0x401005
abbrev wbReadNs : Nat := 0x401006
abbrev leOps : Nat := 0x402001
abbrev detSaturated : Nat := 0x402002
abbrev precSaturated : Nat := 0x402003
abbrev prachOccasions : Nat := 0x402004
abbrev prachDetections : Nat := 0x402005
abbrev srsUpdates : Nat := 0x402006
abbrev wbSwaps : Nat := 0x402007
abbrev staleBankCount : Nat := 0x402008
abbrev wbCrcErrors : Nat := 0x402009
abbrev wbUpdatesSkipped : Nat := 0x40200A
abbrev leCancelled : Nat := 0x40200B
abbrev leEngineFaults : Nat := 0x40200C
abbrev loadTable (n : Nat) : Nat := 0x410001 + 0x100 * n
abbrev loadUpdates (n : Nat) : Nat := 0x410002 + 0x100 * n
abbrev wbPoolPallets : Nat := 0x420001
abbrev wbPoolFree : Nat := 0x420002
abbrev wbIndex : Nat := 0x420003
abbrev wbOwner : Nat := 0x420004
abbrev wbPorts : Nat := 0x420005
abbrev wbLayers : Nat := 0x420006
abbrev wbSubbands : Nat := 0x420007
abbrev wbSbPrbs : Nat := 0x420008
abbrev wbSwapPeriod : Nat := 0x420009
abbrev wbDefine : Nat := 0x42000A
abbrev wbState : Nat := 0x42000B
abbrev wbSubband : Nat := 0x42000C
abbrev wbWeights : Nat := 0x42000D
abbrev wbCommit : Nat := 0x42000E
abbrev wbBanks : Nat := 0x42000F
abbrev portEnable (n : Nat) : Nat := 0x440001 + 0x4000 * n
abbrev portSpeed (n : Nat) : Nat := 0x440002 + 0x4000 * n
abbrev portMac (n : Nat) : Nat := 0x440003 + 0x4000 * n
abbrev vlanId (n : Nat) : Nat := 0x440004 + 0x4000 * n
abbrev vlanPcp (n : Nat) : Nat := 0x440005 + 0x4000 * n
abbrev fhMtu (n : Nat) : Nat := 0x440006 + 0x4000 * n
abbrev pairPort (n : Nat) : Nat := 0x440007 + 0x4000 * n
abbrev failoverMode (n : Nat) : Nat := 0x440008 + 0x4000 * n
abbrev failoverOnDegrade (n : Nat) : Nat := 0x440009 + 0x4000 * n
abbrev fecDegradeBer (n : Nat) : Nat := 0x44000A + 0x4000 * n
abbrev fwdEnable (n : Nat) : Nat := 0x44000B + 0x4000 * n
abbrev fwdQueueKib (n : Nat) : Nat := 0x44000C + 0x4000 * n
abbrev portLinkState (n : Nat) : Nat := 0x44000D + 0x4000 * n
abbrev preFecBer (n : Nat) : Nat := 0x44000E + 0x4000 * n
abbrev fecCorrected (n : Nat) : Nat := 0x44000F + 0x4000 * n
abbrev fecUncorrectable (n : Nat) : Nat := 0x440010 + 0x4000 * n
abbrev txFrames (n : Nat) : Nat := 0x440011 + 0x4000 * n
abbrev rxFrames (n : Nat) : Nat := 0x440012 + 0x4000 * n
abbrev txBytes (n : Nat) : Nat := 0x440013 + 0x4000 * n
abbrev rxBytes (n : Nat) : Nat := 0x440014 + 0x4000 * n
abbrev rxFcsErrors (n : Nat) : Nat := 0x440015 + 0x4000 * n
abbrev cpTxSent (n : Nat) : Nat := 0x440016 + 0x4000 * n
abbrev upTxSent (n : Nat) : Nat := 0x440017 + 0x4000 * n
abbrev upTxLate (n : Nat) : Nat := 0x440018 + 0x4000 * n
abbrev upRxOnTime (n : Nat) : Nat := 0x440019 + 0x4000 * n
abbrev upRxEarly (n : Nat) : Nat := 0x44001A + 0x4000 * n
abbrev upRxLate (n : Nat) : Nat := 0x44001B + 0x4000 * n
abbrev rxSeqErrors (n : Nat) : Nat := 0x44001C + 0x4000 * n
abbrev rxUnknownEaxc (n : Nat) : Nat := 0x44001D + 0x4000 * n
abbrev rxMalformed (n : Nat) : Nat := 0x44001E + 0x4000 * n
abbrev fwdFrames (n : Nat) : Nat := 0x44001F + 0x4000 * n
abbrev fwdDropped (n : Nat) : Nat := 0x440020 + 0x4000 * n
abbrev linkDowns (n : Nat) : Nat := 0x440021 + 0x4000 * n
abbrev failovers (n : Nat) : Nat := 0x440022 + 0x4000 * n
abbrev fwdRules : Nat := 0x4A0001
abbrev owdPort : Nat := 0x4A1001
abbrev owdDest : Nat := 0x4A1002
abbrev owdStart : Nat := 0x4A1003
abbrev owdResult : Nat := 0x4A1004
abbrev owdResponder : Nat := 0x4A1005
abbrev resetPort : Nat := 0x4A2001
abbrev resetDest : Nat := 0x4A2002
abbrev resetSend : Nat := 0x4A2003
abbrev resetStatus : Nat := 0x4A2004
abbrev eaxcBase (n : Nat) : Nat := 0x4C0001 + 0x100 * n
abbrev prachEaxcOffset (n : Nat) : Nat := 0x4C0002 + 0x100 * n
abbrev ruMac (n : Nat) : Nat := 0x4C0003 + 0x100 * n
abbrev ruMacAlt (n : Nat) : Nat := 0x4C0004 + 0x100 * n
abbrev compMethod (n : Nat) : Nat := 0x4C0005 + 0x100 * n
abbrev compWidthDl (n : Nat) : Nat := 0x4C0006 + 0x100 * n
abbrev compWidthUl (n : Nat) : Nat := 0x4C0007 + 0x100 * n
abbrev cpAdvDl (n : Nat) : Nat := 0x4C0008 + 0x100 * n
abbrev ulWinOpen (n : Nat) : Nat := 0x4C0009 + 0x100 * n
abbrev ulWinClose (n : Nat) : Nat := 0x4C000A + 0x100 * n
abbrev beamIdMode (n : Nat) : Nat := 0x4C000B + 0x100 * n
abbrev tdSamplesPerMsg (n : Nat) : Nat := 0x4C000C + 0x100 * n
abbrev activePort (n : Nat) : Nat := 0x4C000D + 0x100 * n
abbrev fhLoadDl (n : Nat) : Nat := 0x4C000E + 0x100 * n
abbrev fhLoadUl (n : Nat) : Nat := 0x4C000F + 0x100 * n
abbrev dfeGang (n : Nat) : Nat := 0x500001 + 0x100 * n
abbrev dfeWireKsps (n : Nat) : Nat := 0x500002 + 0x100 * n
abbrev dfeMixHz (n : Nat) : Nat := 0x500003 + 0x100 * n
abbrev cicR (n : Nat) : Nat := 0x500004 + 0x100 * n
abbrev hbStages (n : Nat) : Nat := 0x500005 + 0x100 * n
abbrev rsNum (n : Nat) : Nat := 0x500006 + 0x100 * n
abbrev rsDen (n : Nat) : Nat := 0x500007 + 0x100 * n
abbrev rankWindow (n : Nat) : Nat := 0x500008 + 0x100 * n
abbrev rankOrder (n : Nat) : Nat := 0x500009 + 0x100 * n
abbrev rankFactor (n : Nat) : Nat := 0x50000A + 0x100 * n
abbrev rankFloor (n : Nat) : Nat := 0x50000B + 0x100 * n
abbrev rankGuard (n : Nat) : Nat := 0x50000C + 0x100 * n
abbrev dfeSyncReset (n : Nat) : Nat := 0x50000D + 0x100 * n
abbrev gdAdj (n : Nat) : Nat := 0x50000E + 0x100 * n
abbrev dfeUser (n : Nat) : Nat := 0x50000F + 0x100 * n
abbrev gdRx (n : Nat) : Nat := 0x500010 + 0x100 * n
abbrev gdTx (n : Nat) : Nat := 0x500011 + 0x100 * n
abbrev rxTaps (n : Nat) : Nat := 0x508001 + 0x100 * n
abbrev txTaps (n : Nat) : Nat := 0x508002 + 0x100 * n
abbrev rxCommit (n : Nat) : Nat := 0x508003 + 0x100 * n
abbrev txCommit (n : Nat) : Nat := 0x508004 + 0x100 * n
abbrev coefBanks (n : Nat) : Nat := 0x508005 + 0x100 * n
abbrev coefSwapPeriod (n : Nat) : Nat := 0x508006 + 0x100 * n
abbrev xfadeSamples (n : Nat) : Nat := 0x508007 + 0x100 * n
abbrev thrMode (n : Nat) : Nat := 0x508008 + 0x100 * n
abbrev thrBlock (n : Nat) : Nat := 0x508009 + 0x100 * n
abbrev thrHigh (n : Nat) : Nat := 0x50800A + 0x100 * n
abbrev thrLow (n : Nat) : Nat := 0x50800B + 0x100 * n
abbrev thrHoldoff (n : Nat) : Nat := 0x50800C + 0x100 * n
abbrev thrPower (n : Nat) : Nat := 0x50800D + 0x100 * n
abbrev thrEvents (n : Nat) : Nat := 0x50800E + 0x100 * n
abbrev rankBlanked (n : Nat) : Nat := 0x50800F + 0x100 * n
abbrev dfeSaturated (n : Nat) : Nat := 0x508010 + 0x100 * n
abbrev flushSamples (n : Nat) : Nat := 0x508011 + 0x100 * n
abbrev coefCrcErrors (n : Nat) : Nat := 0x508012 + 0x100 * n
abbrev staleCount (n : Nat) : Nat := 0x508013 + 0x100 * n
abbrev dfeResetAll : Nat := 0x530001
abbrev resetAt : Nat := 0x530002
abbrev nlSrcPort : Nat := 0x530003
abbrev nlSrcEaxc : Nat := 0x530004
abbrev syncResets : Nat := 0x530005
abbrev commandResets : Nat := 0x530006
abbrev txwPeriod (n : Nat) : Nat := 0x540001 + 0x100 * n
abbrev txwMap (n : Nat) : Nat := 0x540002 + 0x100 * n
abbrev rampUpNs (n : Nat) : Nat := 0x540003 + 0x100 * n
abbrev rampDnNs (n : Nat) : Nat := 0x540004 + 0x100 * n
abbrev txwOpen (n : Nat) : Nat := 0x540005 + 0x100 * n
abbrev windowsClosed (n : Nat) : Nat := 0x540006 + 0x100 * n
abbrev symbolsOutside (n : Nat) : Nat := 0x540007 + 0x100 * n
abbrev txgCarrier (n : Nat) : Nat := 0x550001 + 0x100 * n
abbrev txgOffset (n : Nat) : Nat := 0x550002 + 0x100 * n
abbrev txgLead (n : Nat) : Nat := 0x550003 + 0x100 * n
abbrev txgLag (n : Nat) : Nat := 0x550004 + 0x100 * n
abbrev txgPolarity (n : Nat) : Nat := 0x550005 + 0x100 * n
abbrev txgLevel (n : Nat) : Nat := 0x550006 + 0x100 * n
abbrev txgEdges (n : Nat) : Nat := 0x550007 + 0x100 * n
abbrev tileState (n : Nat) : Nat := 0x580001 + 0x100 * n
abbrev tileVl (n : Nat) : Nat := 0x580002 + 0x100 * n
abbrev tileVlActive (n : Nat) : Nat := 0x580003 + 0x100 * n
abbrev tasksEnded (n : Nat) : Nat := 0x580004 + 0x100 * n
abbrev busyCycles (n : Nat) : Nat := 0x580005 + 0x100 * n
abbrev kExceptions (n : Nat) : Nat := 0x580006 + 0x100 * n
abbrev taskFaults (n : Nat) : Nat := 0x580007 + 0x100 * n
abbrev taskCancels (n : Nat) : Nat := 0x580008 + 0x100 * n
abbrev lastException (n : Nat) : Nat := 0x580009 + 0x100 * n
abbrev bondMode (n : Nat) : Nat := 0x590001 + 0x100 * n
abbrev bondState (n : Nat) : Nat := 0x590002 + 0x100 * n
abbrev pairRole (n : Nat) : Nat := 0x590003 + 0x100 * n
abbrev servesFor (n : Nat) : Nat := 0x590004 + 0x100 * n
abbrev bondMismatches (n : Nat) : Nat := 0x590005 + 0x100 * n
abbrev bondChanges (n : Nat) : Nat := 0x590006 + 0x100 * n
abbrev pairServiceMap : Nat := 0x5A0001
abbrev pairSpareMap : Nat := 0x5A0002
abbrev headerPairs : Nat := 0x5A0003
abbrev stretcherPairs : Nat := 0x5A0004
abbrev headerMin : Nat := 0x5A0005
abbrev tileFaults : Nat := 0x5A0006
abbrev satTasks : Nat := 0x5A0007
abbrev fusedEnS : Nat := 0x5A1001
abbrev fusedEnK : Nat := 0x5A1002
abbrev fusedIssued : Nat := 0x5A1003
abbrev fusedPublished : Nat := 0x5A1004
abbrev fusedSquashed : Nat := 0x5A1005
abbrev fusedCancelled : Nat := 0x5A1006
abbrev fusedRefused : Nat := 0x5A1007
abbrev fusedLastRefusal : Nat := 0x5A1008
abbrev urgentLead : Nat := 0x600001
abbrev affinityDepth : Nat := 0x600002
abbrev scanDepth : Nat := 0x600003
abbrev commonLimit : Nat := 0x600004
abbrev commonFree : Nat := 0x600005
abbrev devicePallets : Nat := 0x600006
abbrev prefetchEnable : Nat := 0x600007
abbrev prefetchWait : Nat := 0x600008
abbrev partEnable (n : Nat) : Nat := 0x601001 + 0x100 * n
abbrev partVl (n : Nat) : Nat := 0x601002 + 0x100 * n
abbrev partBond (n : Nat) : Nat := 0x601003 + 0x100 * n
abbrev partClaim (n : Nat) : Nat := 0x601004 + 0x100 * n
abbrev partSlots (n : Nat) : Nat := 0x601005 + 0x100 * n
abbrev partPolicy (n : Nat) : Nat := 0x601006 + 0x100 * n
abbrev partReady (n : Nat) : Nat := 0x601007 + 0x100 * n
abbrev partWaitNs (n : Nat) : Nat := 0x601008 + 0x100 * n
abbrev classUnits (n : Nat) : Nat := 0x602101 + 0x100 * n
abbrev classReady (n : Nat) : Nat := 0x602102 + 0x100 * n
abbrev classWaitNs (n : Nat) : Nat := 0x602103 + 0x100 * n
abbrev dispatches : Nat := 0x603001
abbrev reserveFails : Nat := 0x603002
abbrev p0Holds : Nat := 0x603003
abbrev promotions : Nat := 0x603004
abbrev expiredAtLs : Nat := 0x603005
abbrev cancelledAtLf : Nat := 0x603006
abbrev reruns : Nat := 0x603007
abbrev prefetchCopies : Nat := 0x603008
abbrev prefetchAbandoned : Nat := 0x603009
abbrev restarts : Nat := 0x60300A
abbrev quotaUsed (n : Nat) : Nat := 0x604001 + 0x100 * n
abbrev commonUsed (n : Nat) : Nat := 0x604002 + 0x100 * n
abbrev opsLive (n : Nat) : Nat := 0x604003 + 0x100 * n
abbrev adaptSlack : Nat := 0x640001
abbrev fabricState : Nat := 0x640002
abbrev ringRestoreHold : Nat := 0x640003
abbrev reverseHold : Nat := 0x640004
abbrev jointPathsDown : Nat := 0x640005
abbrev ringState (n : Nat) : Nat := 0x641001 + 0x100 * n
abbrev faultStop (n : Nat) : Nat := 0x641002 + 0x100 * n
abbrev ringReversals (n : Nat) : Nat := 0x641003 + 0x100 * n
abbrev linkReplays (n : Nat) : Nat := 0x641004 + 0x100 * n
abbrev flitsDiscarded (n : Nat) : Nat := 0x641005 + 0x100 * n
abbrev requestsResent (n : Nat) : Nat := 0x641006 + 0x100 * n
abbrev ringLoadCw (n : Nat) : Nat := 0x641007 + 0x100 * n
abbrev ringLoadAcw (n : Nat) : Nat := 0x641008 + 0x100 * n
abbrev flitsDelivered : Nat := 0x642001
abbrev meanHop : Nat := 0x642002
abbrev loadBalance : Nat := 0x642003
abbrev deliveredGbps : Nat := 0x642004
abbrev timeouts : Nat := 0x642005
abbrev headerCrcErrors : Nat := 0x642006
abbrev duplicatesDiscarded : Nat := 0x642007
abbrev arbSelect : Nat := 0x643001
abbrev arbTable : Nat := 0x643002
abbrev arbCommit : Nat := 0x643003
abbrev arbBanks : Nat := 0x643004
abbrev arbPhaseOffset : Nat := 0x643005
abbrev arbSwapPeriod : Nat := 0x643006
abbrev grantsLost : Nat := 0x643007
abbrev staleArbCount : Nat := 0x643008
abbrev domainAsleepCount : Nat := 0x644001
abbrev asleepAnswers : Nat := 0x644002
abbrev bridgeState : Nat := 0x644003
abbrev eccEnable : Nat := 0x680001
abbrev eccActive : Nat := 0x680002
abbrev gddr7Gbps : Nat := 0x680003
abbrev journalChanA : Nat := 0x680004
abbrev journalChanB : Nat := 0x680005
abbrev journalStandby : Nat := 0x680006
abbrev stagingPallets : Nat := 0x680007
abbrev tbStorePallets : Nat := 0x680008
abbrev dataPallets : Nat := 0x680009
abbrev channelMap : Nat := 0x68000A
abbrev journalRebuild : Nat := 0x68000B
abbrev memRegime : Nat := 0x68000C
abbrev chState (n : Nat) : Nat := 0x681001 + 0x100 * n
abbrev chDensity (n : Nat) : Nat := 0x681002 + 0x100 * n
abbrev chPallets (n : Nat) : Nat := 0x681003 + 0x100 * n
abbrev chFree (n : Nat) : Nat := 0x681004 + 0x100 * n
abbrev chCe (n : Nat) : Nat := 0x681005 + 0x100 * n
abbrev chUe (n : Nat) : Nat := 0x681006 + 0x100 * n
abbrev chEdcRetries (n : Nat) : Nat := 0x681007 + 0x100 * n
abbrev chReadBytes (n : Nat) : Nat := 0x681008 + 0x100 * n
abbrev chWriteBytes (n : Nat) : Nat := 0x681009 + 0x100 * n
abbrev chUtil (n : Nat) : Nat := 0x68100A + 0x100 * n
abbrev chTemp (n : Nat) : Nat := 0x68100B + 0x100 * n
abbrev chRetired (n : Nat) : Nat := 0x68100C + 0x100 * n
abbrev mcArbSelect : Nat := 0x683001
abbrev mcArbTable : Nat := 0x683002
abbrev mcArbCommit : Nat := 0x683003
abbrev mcArbBanks : Nat := 0x683004
abbrev mcArbPhaseOffset : Nat := 0x683005
abbrev mcArbSwapPeriod : Nat := 0x683006
abbrev staleMcCount : Nat := 0x683007
abbrev gddrScrubH : Nat := 0x684001
abbrev psScrubMs : Nat := 0x684002
abbrev tmScrubMs : Nat := 0x684003
abbrev gddrPasses : Nat := 0x684004
abbrev bucketLeakS : Nat := 0x684005
abbrev limitPage : Nat := 0x684006
abbrev limitBank : Nat := 0x684007
abbrev limitSlice : Nat := 0x684008
abbrev limitTile : Nat := 0x684009
abbrev ceDedupMs : Nat := 0x68400A
abbrev repeatLimit : Nat := 0x68400B
abbrev bucketEvictions : Nat := 0x68400C
abbrev ceOverflowCount : Nat := 0x68400D
abbrev retireAdvisedCount : Nat := 0x68400E
abbrev channelLostCount : Nat := 0x68400F
abbrev tmCe : Nat := 0x684010
abbrev tmUe : Nat := 0x684011
abbrev psCe : Nat := 0x684012
abbrev psUe : Nat := 0x684013
abbrev regimeCe : Nat := 0x684014
abbrev retiredPages : Nat := 0x686001
abbrev retiredBanks : Nat := 0x686002
abbrev retirePending : Nat := 0x686003
abbrev errLogCount : Nat := 0x686004
abbrev errLog : Nat := 0x686005
abbrev hodService : Nat := 0x6C0001
abbrev hodHaltedMap : Nat := 0x6C0002
abbrev hopLimit : Nat := 0x6C0003
abbrev haltHold : Nat := 0x6C0004
abbrev haltLimit : Nat := 0x6C0005
abbrev hodRelease : Nat := 0x6C0006
abbrev hodHaltCount : Nat := 0x6C0007
abbrev engineState (n : Nat) : Nat := 0x6C1001 + 0x100 * n
abbrev channelState (n : Nat) : Nat := 0x6C1002 + 0x100 * n
abbrev chainsEnded (n : Nat) : Nat := 0x6C1003 + 0x100 * n
abbrev descriptors (n : Nat) : Nat := 0x6C1004 + 0x100 * n
abbrev bytesWritten (n : Nat) : Nat := 0x6C1005 + 0x100 * n
abbrev stops (n : Nat) : Nat := 0x6C1006 + 0x100 * n
abbrev loopEnds (n : Nat) : Nat := 0x6C1007 + 0x100 * n
abbrev busErrors (n : Nat) : Nat := 0x6C1008 + 0x100 * n
abbrev poisonedLines (n : Nat) : Nat := 0x6C1009 + 0x100 * n
abbrev lastHalt (n : Nat) : Nat := 0x6C100A + 0x100 * n
abbrev diagChain : Nat := 0x6C4001
abbrev diagStart : Nat := 0x6C4002
abbrev diagStop : Nat := 0x6C4003
abbrev diagState : Nat := 0x6C4004
abbrev diagResult : Nat := 0x6C4005
abbrev powerPolicy : Nat := 0x700001
abbrev tj : Nat := 0x700002
abbrev tjHostCap : Nat := 0x700003
abbrev railTargetMv : Nat := 0x700004
abbrev vRunMv : Nat := 0x700005
abbrev vLowMv : Nat := 0x700006
abbrev avsSlew : Nat := 0x700007
abbrev avsTimeout : Nat := 0x700008
abbrev avsFaultCount : Nat := 0x700009
abbrev railReadings : Nat := 0x70000A
abbrev powerMw : Nat := 0x70000B
abbrev domainState (n : Nat) : Nat := 0x701001 + 0x100 * n
abbrev hostVote (n : Nat) : Nat := 0x701002 + 0x100 * n
abbrev domainVotes (n : Nat) : Nat := 0x701003 + 0x100 * n
abbrev domainTarget (n : Nat) : Nat := 0x701004 + 0x100 * n
abbrev domainPending (n : Nat) : Nat := 0x701005 + 0x100 * n
abbrev transitions (n : Nat) : Nat := 0x701006 + 0x100 * n
abbrev lastTransitionNs (n : Nat) : Nat := 0x701007 + 0x100 * n
abbrev watchEnable : Nat := 0x704001
abbrev watchPeriod : Nat := 0x704002
abbrev watchFrameOffset : Nat := 0x704003
abbrev wakeLead : Nat := 0x704004
abbrev watchState : Nat := 0x704005
abbrev watchCycles : Nat := 0x704006
abbrev watchHitCount : Nat := 0x704007
abbrev latched : Nat := 0x704008
abbrev latchDropped : Nat := 0x704009
abbrev nextAlarm : Nat := 0x70400A
abbrev wcKind (n : Nat) : Nat := 0x705001 + 0x100 * n
abbrev wcStart (n : Nat) : Nat := 0x705002 + 0x100 * n
abbrev wcLength (n : Nat) : Nat := 0x705003 + 0x100 * n
abbrev wcPort (n : Nat) : Nat := 0x705004 + 0x100 * n
abbrev wcEaxc (n : Nat) : Nat := 0x705005 + 0x100 * n
abbrev wcChain (n : Nat) : Nat := 0x705006 + 0x100 * n
abbrev wcCarrier (n : Nat) : Nat := 0x705007 + 0x100 * n
abbrev wcPrach (n : Nat) : Nat := 0x705008 + 0x100 * n
abbrev wcAction (n : Nat) : Nat := 0x705009 + 0x100 * n
abbrev wcLast (n : Nat) : Nat := 0x70500A + 0x100 * n
abbrev guardState : Nat := 0x780001
abbrev mutePinMode : Nat := 0x780002
abbrev divergence : Nat := 0x780003
abbrev divergenceLimit : Nat := 0x780004
abbrev guardResync : Nat := 0x780005
abbrev muteRelease : Nat := 0x780006
abbrev deviceMuted : Nat := 0x780007
abbrev emissionMuteCount : Nat := 0x780008
abbrev portsMuted : Nat := 0x780009
abbrev chainsMuted : Nat := 0x78000A
abbrev carriersMuted : Nat := 0x78000B
abbrev gateBlocks : Nat := 0x78000C
abbrev caughtBeforeUse : Nat := 0x78000D
abbrev auditMismatches : Nat := 0x78000E
abbrev faultCauses : Nat := 0x782001
abbrev faultMask : Nat := 0x782002
abbrev faultClear : Nat := 0x782003
abbrev spareEngagedCount : Nat := 0x782004
abbrev unitLostCount : Nat := 0x782005
abbrev unitRetire : Nat := 0x782006
abbrev muteLogCount : Nat := 0x783001
abbrev muteLog : Nat := 0x783002
abbrev injAllowed : Nat := 0x784001
abbrev injKind : Nat := 0x784002
abbrev injUnit : Nat := 0x784003
abbrev injArm : Nat := 0x784004
abbrev injRestore : Nat := 0x784005
abbrev injStatus : Nat := 0x784006
abbrev injCount : Nat := 0x784007
abbrev guardPwrLimit (n : Nat) : Nat := 0x788001 + 0x100 * n
abbrev guardCopy (n : Nat) : Nat := 0x788002 + 0x100 * n
abbrev pwrMax (n : Nat) : Nat := 0x788003 + 0x100 * n
abbrev traceEnable : Nat := 0x800001
abbrev tracePallets : Nat := 0x800002
abbrev traceMask : Nat := 0x800003
abbrev traceCarriers : Nat := 0x800004
abbrev traceWrap : Nat := 0x800005
abbrev traceRecords : Nat := 0x800006
abbrev traceWritten : Nat := 0x800007
abbrev traceLost : Nat := 0x800008
abbrev ownerKeyHash : Nat := 0xA00001
abbrev ownerProgram : Nat := 0xA00002
abbrev rollbackCount : Nat := 0xA00003
abbrev fwRollbackCount : Nat := 0xA00004
abbrev rollbackCommit : Nat := 0xA00005
abbrev rollbackState : Nat := 0xA00006
abbrev identityPubkey : Nat := 0xA00007
abbrev attestNonce : Nat := 0xA00008
abbrev attestRequest : Nat := 0xA00009
abbrev attestReport : Nat := 0xA0000A
abbrev topUsed : Nat := 0xA0000B
abbrev leafNext : Nat := 0xA0000C
abbrev leavesLeft : Nat := 0xA0000D
abbrev debugPolicy : Nat := 0xA0000E
abbrev debugNonce : Nat := 0xA0000F
abbrev debugToken : Nat := 0xA00010
abbrev debugGrants : Nat := 0xA00011
abbrev debugClose : Nat := 0xA00012
abbrev jtagIdcode : Nat := 0xA00013

end Sys2Proof.O
end

