-- ==== Sys2Proof/Machine/Objects.lean ====
section
/-! DEFINITION. The object tables of the spec as data (05 R150 to R156): one row for each object that a table of a chapter
defines, with its index and sub, how the index repeats, its type, its access class, its factory or reset value, its allowed
values (05 R153), the flags of its descriptor and its owning enable object (05 R155). -/

namespace Sys2Proof.Machine

/-- The type of an object (05 Table 5-2). -/
inductive ObjType | u8 | u16 | u32 | u64 | i16 | i32 | q15 | q31 | ats | stime | enum8 | bits32 | str | blob
  deriving DecidableEq, Repr

/-- The access class of an object (05 Table 5-3). -/
inductive Access | ro | rw | rwe | wo | const
  deriving DecidableEq, Repr

/-- The owner that a descriptor names (05 R155, R156): none; the enable object whose number is `key` plus `stride` for each unit
by which the index lies above its base; or a compound condition (0xFFFF:FF). -/
inductive Owner | none | at (key stride : Nat) | compound
  deriving DecidableEq, Repr

/-- One row of an object table. `dflt` is the factory value, the reset value, or, for a STR or BLOB, the number of zero bytes;
`given` says that the spec gives it (05 R160), and where it does not `dflt` is the model's reset value (log entry 3). `allow`
holds the intervals of allowed values, or of allowed lengths for a STR or BLOB, and `step` the multiple that is asked. -/
structure ObjRow where
  name   : String
  base   : Nat
  stride : Nat
  count  : Nat
  sub    : Nat
  type   : ObjType
  acc    : Access
  dflt   : Int
  given  : Bool
  allow  : List (Int × Int)
  step   : Nat
  flags  : Nat
  owner  : Owner
  deriving DecidableEq, Repr

/-- The objects of 0x1000 to 0x13FF. -/
def rowsIdentity : List ObjRow := [
  ⟨"VENDOR", 0x1000, 0x1, 1, 0x01, .str, .const, 0, true, [(0, 255)], 1, 0, .none⟩,
  ⟨"PART", 0x1000, 0x1, 1, 0x02, .str, .const, 0, true, [(0, 255)], 1, 0, .none⟩,
  ⟨"STEPPING", 0x1000, 0x1, 1, 0x03, .str, .const, 0, true, [(0, 255)], 1, 0, .none⟩,
  ⟨"DIE_ID", 0x1000, 0x1, 1, 0x04, .blob, .ro, 16, false, [(16, 16)], 1, 8, .none⟩,
  ⟨"ROM_VERSION", 0x1000, 0x1, 1, 0x05, .u32, .const, 0x10000, true, [(0, 0xFFFFFFFF)], 1, 0, .none⟩,
  ⟨"FW_VERSION", 0x1000, 0x1, 1, 0x06, .u32, .ro, 0, false, [(0, 0xFFFFFFFF)], 1, 0, .none⟩,
  ⟨"IMAGE_SLOT", 0x1000, 0x1, 1, 0x07, .enum8, .ro, 2, false, [(0, 2)], 1, 0, .none⟩,
  ⟨"IMAGE_VERSION", 0x1000, 0x1, 1, 0x08, .u32, .ro, 0, false, [(0, 0xFFFFFFFF)], 1, 0, .none⟩,
  ⟨"STREAM_UNITS", 0x1010, 0x1, 1, 0x01, .u16, .const, 512, true, [(0, 65535)], 1, 0, .none⟩,
  ⟨"CARRIERS", 0x1010, 0x1, 1, 0x02, .u8, .const, 64, true, [(0, 255)], 1, 0, .none⟩,
  ⟨"UE_CONTEXTS", 0x1010, 0x1, 1, 0x03, .u32, .const, 0x10000, true, [(0, 0xFFFFFFFF)], 1, 0, .none⟩,
  ⟨"TILES_IN_SERVICE", 0x1010, 0x1, 1, 0x04, .u8, .ro, 192, true, [(0, 255)], 1, 4, .none⟩,
  ⟨"TILE_SPARES", 0x1010, 0x1, 1, 0x05, .u8, .ro, 8, true, [(0, 255)], 1, 4, .none⟩,
  ⟨"KD_SPARES", 0x1010, 0x1, 1, 0x06, .u8, .ro, 4, true, [(0, 255)], 1, 4, .none⟩,
  ⟨"KE_SPARES", 0x1010, 0x1, 1, 0x07, .u8, .ro, 2, true, [(0, 255)], 1, 4, .none⟩,
  ⟨"LE_SPARES", 0x1010, 0x1, 1, 0x08, .u8, .ro, 2, true, [(0, 255)], 1, 4, .none⟩,
  ⟨"XE_SPARES", 0x1010, 0x1, 1, 0x09, .u8, .ro, 1, true, [(0, 255)], 1, 4, .none⟩,
  ⟨"GDDR7_MIB", 0x1010, 0x1, 1, 0x0A, .u32, .ro, 0, false, [(0, 0xFFFFFFFF)], 1, 0, .none⟩]

/-- The objects of 0x1400 to 0x17FF. -/
def rowsBoot : List ObjRow := [
  ⟨"BOOT_STATE", 0x1400, 0x1, 1, 0x01, .enum8, .ro, 0, false, [(0, 5)], 1, 4, .none⟩,
  ⟨"BOOT_REASON", 0x1400, 0x1, 1, 0x02, .u16, .ro, 0, true, [(0, 65535)], 1, 0, .none⟩,
  ⟨"RESET_CAUSE", 0x1400, 0x1, 1, 0x03, .enum8, .ro, 0, false, [(0, 6)], 1, 4, .none⟩,
  ⟨"RESET_CMD", 0x1400, 0x1, 1, 0x04, .enum8, .wo, 0, false, [(1, 2)], 1, 0, .none⟩,
  ⟨"BOOT_MEMTEST", 0x1400, 0x1, 1, 0x05, .enum8, .rw, 1, true, [(0, 2)], 1, 0, .none⟩,
  ⟨"COLD_RESETS", 0x1400, 0x1, 1, 0x06, .u32, .ro, 0, true, [(0, 0xFFFFFFFF)], 1, 0, .none⟩,
  ⟨"WARM_RESETS", 0x1400, 0x1, 1, 0x07, .u32, .ro, 0, true, [(0, 0xFFFFFFFF)], 1, 4, .none⟩,
  ⟨"BOOT_MS", 0x1400, 0x1, 1, 0x08, .u32, .ro, 0, false, [(0, 0xFFFFFFFF)], 1, 0, .none⟩,
  ⟨"UPDATE_STATE", 0x1410, 0x1, 1, 0x01, .enum8, .ro, 0, true, [(0, 1)], 1, 4, .none⟩,
  ⟨"UPDATE_REASON", 0x1410, 0x1, 1, 0x02, .u16, .ro, 1284, true, [(0, 65535)], 1, 4, .none⟩,
  ⟨"IMG_OFFSET", 0x1410, 0x1, 1, 0x03, .u32, .rw, 0, true, [(0, 0xFFFFFFFF)], 1, 4, .none⟩,
  ⟨"IMG_DATA", 0x1410, 0x1, 1, 0x04, .blob, .wo, 0, false, [(1, 0x10000)], 1, 0, .none⟩,
  ⟨"IMG_ERASE", 0x1410, 0x1, 1, 0x05, .u8, .wo, 0, false, [(1, 1)], 1, 0, .none⟩,
  ⟨"IMG_VERIFY", 0x1410, 0x1, 1, 0x06, .u8, .wo, 0, false, [(1, 1)], 1, 0, .none⟩,
  ⟨"IMG_ACTIVATE", 0x1410, 0x1, 1, 0x07, .u8, .wo, 0, false, [(1, 1)], 1, 0, .none⟩,
  ⟨"IMG_CONFIRM", 0x1410, 0x1, 1, 0x08, .u8, .wo, 0, false, [(1, 1)], 1, 0, .none⟩,
  ⟨"TRIAL_STATE", 0x1410, 0x1, 1, 0x09, .enum8, .ro, 0, false, [(0, 3)], 1, 4, .none⟩,
  ⟨"SLOT_A_VERSION", 0x1410, 0x1, 1, 0x0A, .u32, .ro, 0, false, [(0, 0xFFFFFFFF)], 1, 4, .none⟩,
  ⟨"SLOT_B_VERSION", 0x1410, 0x1, 1, 0x0B, .u32, .ro, 0, false, [(0, 0xFFFFFFFF)], 1, 4, .none⟩]

/-- Rows 1 of the objects of 0x2000 to 0x23FF. -/
def rowsTimeBase1 : List ObjRow := [
  ⟨"SITE_TIME", 0x2000, 0x1, 1, 0x01, .stime, .ro, 0, false, [(0, 0xFFFFFFFFFFFFFFFFFFFFFFFFFFFFFFFF)], 1, 4, .none⟩,
  ⟨"LEGACY_NS", 0x2000, 0x1, 1, 0x02, .u64, .ro, 0, false, [(0, 0xFFFFFFFFFFFFFFFF)], 1, 4, .none⟩,
  ⟨"LEGACY_MODE", 0x2000, 0x1, 1, 0x03, .enum8, .rw, 0, true, [(0, 1)], 1, 0, .none⟩,
  ⟨"LEGACY_INCR", 0x2000, 0x1, 1, 0x04, .u32, .rw, 0x6666666, true, [(0, 0xFFFFFFFF)], 1, 0, .none⟩,
  ⟨"TIME_VALID", 0x2000, 0x1, 1, 0x05, .u8, .ro, 0, true, [(0, 1)], 1, 4, .none⟩,
  ⟨"UTC_OFFSET", 0x2000, 0x1, 1, 0x06, .i16, .rw, 37, true, [((-32768), 32767)], 1, 4, .none⟩,
  ⟨"SERVO_ENABLE", 0x2010, 0x1, 1, 0x01, .u8, .rw, 1, true, [(0, 1)], 1, 5, .none⟩,
  ⟨"SELECTED_SOURCE", 0x2010, 0x1, 1, 0x02, .enum8, .ro, 0, false, [(0, 3)], 1, 4, .none⟩,
  ⟨"FREQ_WORD", 0x2010, 0x1, 1, 0x03, .i32, .ro, 0, false, [((-2147483648), 0x7FFFFFFF)], 1, 4, .none⟩,
  ⟨"PHASE_ERROR", 0x2010, 0x1, 1, 0x04, .i32, .ro, 0, false, [((-2147483648), 0x7FFFFFFF)], 1, 4, .none⟩,
  ⟨"SLEW_LIMIT", 0x2010, 0x1, 1, 0x05, .u32, .rw, 50, true, [(0, 0xFFFFFFFF)], 1, 0, .none⟩,
  ⟨"LOCK_THRESHOLD", 0x2010, 0x1, 1, 0x06, .u32, .rw, 20, true, [(0, 0xFFFFFFFF)], 1, 0, .none⟩,
  ⟨"HOLDOVER_BOUND", 0x2010, 0x1, 1, 0x07, .u32, .ro, 0, false, [(0, 0xFFFFFFFF)], 1, 4, .none⟩,
  ⟨"HOLDOVER_LIMIT", 0x2010, 0x1, 1, 0x08, .u32, .rw, 1100, true, [(0, 0xFFFFFFFF)], 1, 0, .none⟩,
  ⟨"LIMIT_ACTION", 0x2010, 0x1, 1, 0x09, .enum8, .rw, 1, true, [(0, 1)], 1, 0, .none⟩,
  ⟨"STEER_MODE", 0x2010, 0x1, 1, 0x0A, .enum8, .rwe, 0, true, [(0, 1)], 1, 0, .at 0x201001 0x0⟩,
  ⟨"OSC_TEMP_TERM", 0x2010, 0x1, 1, 0x0B, .u32, .rwe, 500, true, [(0, 0xFFFFFFFF)], 1, 0, .at 0x201001 0x0⟩,
  ⟨"OSC_AGING", 0x2010, 0x1, 1, 0x0C, .u32, .rwe, 2000, true, [(0, 0xFFFFFFFF)], 1, 0, .at 0x201001 0x0⟩,
  ⟨"DCO_STEP", 0x2010, 0x1, 1, 0x0D, .u32, .rwe, 176, true, [(0, 0xFFFFFFFF)], 1, 0, .at 0x201001 0x0⟩,
  ⟨"SERVO_STATE", 0x2010, 0x1, 1, 0x0E, .enum8, .ro, 0, false, [(0, 4)], 1, 4, .none⟩,
  ⟨"HOLDOVER_ENTER_COUNT", 0x2010, 0x1, 1, 0x0F, .u32, .ro, 0, true, [(0, 0xFFFFFFFF)], 1, 4, .none⟩,
  ⟨"HOLDOVER_LIMIT_COUNT", 0x2010, 0x1, 1, 0x10, .u32, .ro, 0, true, [(0, 0xFFFFFFFF)], 1, 4, .none⟩,
  ⟨"JUMP_THRESHOLD", 0x2020, 0x1, 1, 0x01, .u32, .rw, 100, true, [(0, 0xFFFFFFFF)], 1, 0, .none⟩,
  ⟨"REFUSED_OFFSET_S", 0x2020, 0x1, 1, 0x02, .i32, .ro, 0, false, [((-2147483648), 0x7FFFFFFF)], 1, 4, .none⟩,
  ⟨"REFUSED_OFFSET_NS", 0x2020, 0x1, 1, 0x03, .i32, .ro, 0, false, [((-2147483648), 0x7FFFFFFF)], 1, 4, .none⟩,
  ⟨"AUTH_OFFSET_S", 0x2020, 0x1, 1, 0x04, .i32, .rw, 0, true, [((-2147483648), 0x7FFFFFFF)], 1, 0, .none⟩,
  ⟨"AUTH_OFFSET_NS", 0x2020, 0x1, 1, 0x05, .i32, .rw, 0, true, [((-999999999), 0x3B9AC9FF)], 1, 0, .none⟩,
  ⟨"AUTH_MODE", 0x2020, 0x1, 1, 0x06, .enum8, .wo, 0, false, [(1, 2)], 1, 0, .none⟩,
  ⟨"AUTH_STATUS", 0x2020, 0x1, 1, 0x07, .enum8, .ro, 0, false, [(0, 5)], 1, 4, .none⟩,
  ⟨"AUTH_TOLERANCE", 0x2020, 0x1, 1, 0x08, .u32, .rw, 50, true, [(0, 0xFFFFFFFF)], 1, 0, .none⟩]

/-- Rows 2 of the objects of 0x2000 to 0x23FF. -/
def rowsTimeBase2 : List ObjRow := [
  ⟨"TIME_JUMP_REFUSED_COUNT", 0x2020, 0x1, 1, 0x09, .u32, .ro, 0, true, [(0, 0xFFFFFFFF)], 1, 4, .none⟩,
  ⟨"PRIO_GNSS", 0x2030, 0x1, 1, 0x01, .u8, .rw, 1, true, [(0, 15)], 1, 16, .at 0x201001 0x0⟩,
  ⟨"PRIO_PTP", 0x2030, 0x1, 1, 0x02, .u8, .rw, 2, true, [(0, 15)], 1, 16, .at 0x201001 0x0⟩,
  ⟨"PRIO_NL", 0x2030, 0x1, 1, 0x03, .u8, .rw, 3, true, [(0, 15)], 1, 16, .at 0x201001 0x0⟩,
  ⟨"WAIT_TO_RESTORE", 0x2030, 0x1, 1, 0x04, .u16, .rw, 60, true, [(0, 65535)], 1, 0, .none⟩,
  ⟨"SOURCE_STATUS", 0x2030, 0x1, 1, 0x05, .bits32, .ro, 0, false, [(0, 119)], 1, 4, .none⟩,
  ⟨"REVERTIVE", 0x2030, 0x1, 1, 0x06, .u8, .rw, 1, true, [(0, 1)], 1, 0, .none⟩,
  ⟨"PPS_CABLE_DELAY", 0x2040, 0x1, 1, 0x02, .i32, .rw, 0, true, [((-2147483648), 0x7FFFFFFF)], 1, 0, .none⟩,
  ⟨"TOD_FORMAT", 0x2040, 0x1, 1, 0x03, .enum8, .rwe, 0, true, [(0, 1)], 1, 0, .at 0x201001 0x0⟩,
  ⟨"TOD_BAUD", 0x2040, 0x1, 1, 0x04, .u32, .rwe, 9600, true, [(4800, 0x1C200)], 1, 0, .at 0x201001 0x0⟩,
  ⟨"TOD_LABEL", 0x2040, 0x1, 1, 0x05, .enum8, .rwe, 0, true, [(0, 1)], 1, 0, .at 0x201001 0x0⟩,
  ⟨"PPS_STATE", 0x2040, 0x1, 1, 0x06, .enum8, .ro, 0, false, [(0, 3)], 1, 4, .none⟩,
  ⟨"PPS_STRAYS", 0x2040, 0x1, 1, 0x07, .u32, .ro, 0, true, [(0, 0xFFFFFFFF)], 1, 4, .none⟩,
  ⟨"PPS_GLITCHES", 0x2040, 0x1, 1, 0x08, .u32, .ro, 0, true, [(0, 0xFFFFFFFF)], 1, 4, .none⟩,
  ⟨"PPS_STORM_COUNT", 0x2040, 0x1, 1, 0x09, .u32, .ro, 0, true, [(0, 0xFFFFFFFF)], 1, 4, .none⟩,
  ⟨"PPS_LOSS_COUNT", 0x2040, 0x1, 1, 0x0A, .u32, .ro, 0, true, [(0, 0xFFFFFFFF)], 1, 4, .none⟩,
  ⟨"DFE_SYNC_PERIOD", 0x2050, 0x1, 1, 0x01, .u16, .rw, 1, true, [(0, 1024)], 1, 0, .none⟩,
  ⟨"DFE_SYNC_OFFSET", 0x2050, 0x1, 1, 0x02, .i32, .rw, 0, true, [((-2147483648), 0x7FFFFFFF)], 1, 0, .none⟩,
  ⟨"DFE_SYNC_STATE", 0x2050, 0x1, 1, 0x03, .enum8, .ro, 0, false, [(0, 3)], 1, 4, .none⟩,
  ⟨"DFE_SYNC_STRAYS", 0x2050, 0x1, 1, 0x04, .u32, .ro, 0, true, [(0, 0xFFFFFFFF)], 1, 4, .none⟩,
  ⟨"DFE_SYNC_STORM_COUNT", 0x2050, 0x1, 1, 0x05, .u32, .ro, 0, true, [(0, 0xFFFFFFFF)], 1, 4, .none⟩,
  ⟨"DFE_SYNC_LOSS_COUNT", 0x2050, 0x1, 1, 0x06, .u32, .ro, 0, true, [(0, 0xFFFFFFFF)], 1, 4, .none⟩,
  ⟨"PTP_ROLE", 0x2060, 0x1, 1, 0x01, .enum8, .rwe, 0, true, [(0, 3)], 1, 0, .compound⟩,
  ⟨"PTP_PROFILE", 0x2060, 0x1, 1, 0x02, .enum8, .rwe, 1, true, [(1, 2)], 1, 0, .compound⟩,
  ⟨"PTP_DOMAIN", 0x2060, 0x1, 1, 0x03, .u8, .rwe, 24, true, [(24, 63)], 1, 0, .compound⟩,
  ⟨"OUT0_LANE", 0x2070, 0x1, 1, 0x01, .u8, .rw, 255, true, [(0, 23), (255, 255)], 1, 0, .none⟩,
  ⟨"OUT0_FREQ", 0x2070, 0x1, 1, 0x02, .enum8, .rw, 0, true, [(0, 2)], 1, 0, .none⟩,
  ⟨"OUT1_LANE", 0x2070, 0x1, 1, 0x03, .u8, .rw, 255, true, [(0, 23), (255, 255)], 1, 0, .none⟩,
  ⟨"OUT1_FREQ", 0x2070, 0x1, 1, 0x04, .enum8, .rw, 0, true, [(0, 2)], 1, 0, .none⟩,
  ⟨"SQUELCHED", 0x2070, 0x1, 1, 0x05, .bits32, .ro, 0, false, [(0, 3)], 1, 4, .none⟩]

/-- Rows 3 of the objects of 0x2000 to 0x23FF. -/
def rowsTimeBase3 : List ObjRow := [
  ⟨"SYNCE_TRACEABLE", 0x2070, 0x1, 1, 0x06, .u8, .rw, 0, true, [(0, 1)], 1, 0, .none⟩,
  ⟨"PORT_PTP_ROLE", 0x2080, 0x1, 24, 0x01, .enum8, .rwe, 0, true, [(0, 3)], 1, 0, .at 0x440001 0x4000⟩,
  ⟨"ASYMMETRY", 0x2080, 0x1, 24, 0x02, .i32, .rw, 0, true, [((-2147483648), 0x7FFFFFFF)], 1, 0, .none⟩,
  ⟨"PORT_STATE", 0x2080, 0x1, 24, 0x03, .enum8, .ro, 3, false, [(1, 9)], 1, 4, .none⟩,
  ⟨"MEAN_PATH_DELAY", 0x2080, 0x1, 24, 0x04, .u32, .ro, 0, false, [(0, 0xFFFFFFFF)], 1, 4, .none⟩,
  ⟨"STEP_MODE", 0x2080, 0x1, 24, 0x05, .enum8, .rwe, 0, true, [(0, 1)], 1, 0, .at 0x440001 0x4000⟩,
  ⟨"LOCAL_PRIORITY", 0x2080, 0x1, 24, 0x06, .u8, .rw, 128, true, [(0, 255)], 1, 0, .none⟩,
  ⟨"CAP_SOURCE", 0x20A0, 0x1, 8, 0x01, .enum8, .rw, 0, true, [(0, 42)], 1, 0, .none⟩,
  ⟨"CAP_EDGE", 0x20A0, 0x1, 8, 0x02, .enum8, .rw, 0, true, [(0, 1)], 1, 0, .none⟩,
  ⟨"CAP_FIFO", 0x20A0, 0x1, 8, 0x03, .stime, .ro, 0, false, [(0, 0xFFFFFFFFFFFFFFFFFFFFFFFFFFFFFFFF)], 1, 6, .none⟩,
  ⟨"CAP_LOST", 0x20A0, 0x1, 8, 0x04, .u32, .ro, 0, true, [(0, 0xFFFFFFFF)], 1, 4, .none⟩,
  ⟨"TARGET", 0x20B0, 0x1, 8, 0x01, .stime, .rw, 0, true, [(0, 0xFFFFFFFFFFFFFFFFFFFFFFFFFFFFFFFF)], 1, 0, .none⟩,
  ⟨"PERIOD", 0x20B0, 0x1, 8, 0x02, .u32, .rw, 0, true, [(0, 0xFFFFFFFF)], 1, 0, .none⟩,
  ⟨"TRIG_OUTPUT", 0x20B0, 0x1, 8, 0x03, .enum8, .rw, 0, true, [(0, 2)], 1, 0, .none⟩,
  ⟨"TRIG_STATUS", 0x20B0, 0x1, 8, 0x04, .bits32, .ro, 0, true, [(0, 7)], 1, 4, .none⟩,
  ⟨"PPS_OUT_MODE", 0x20C0, 0x1, 1, 0x01, .enum8, .rw, 1, true, [(0, 2)], 1, 0, .none⟩,
  ⟨"PPS_OUT_OFFSET", 0x20C0, 0x1, 1, 0x02, .i32, .rw, 0, true, [((-2147483648), 0x7FFFFFFF)], 1, 0, .none⟩,
  ⟨"PPS_OUT_WIDTH", 0x20C0, 0x1, 1, 0x03, .u32, .rw, 0x5F5E100, true, [(0, 0xFFFFFFFF)], 1, 0, .none⟩]

/-- The objects of 0x2000 to 0x23FF. -/
def rowsTimeBase : List ObjRow :=
  rowsTimeBase1 ++ rowsTimeBase2 ++ rowsTimeBase3

/-- Rows 1 of the objects of 0x2400 to 0x25FF. -/
def rowsNetworkListen1 : List ObjRow := [
  ⟨"NL_ENABLE", 0x2400, 0x1, 1, 0x01, .u8, .rw, 0, true, [(0, 1)], 1, 5, .none⟩,
  ⟨"NL_MODE", 0x2400, 0x1, 1, 0x02, .enum8, .rwe, 0, true, [(0, 1)], 1, 0, .at 0x240001 0x0⟩,
  ⟨"NL_CHAIN", 0x2400, 0x1, 1, 0x03, .u8, .rwe, 255, true, [(0, 127), (255, 255)], 1, 0, .at 0x240001 0x0⟩,
  ⟨"NL_MIX_HZ", 0x2400, 0x1, 1, 0x04, .i32, .rwe, 0, true, [((-2147483648), 0x7FFFFFFF)], 1, 0, .at 0x240001 0x0⟩,
  ⟨"NL_STATE", 0x2400, 0x1, 1, 0x05, .enum8, .ro, 0, false, [(0, 3)], 1, 4, .none⟩,
  ⟨"GAP_PERIOD", 0x2410, 0x1, 1, 0x02, .u16, .rwe, 64, true, [(1, 1024)], 1, 0, .at 0x240001 0x0⟩,
  ⟨"GAP_FRAME_OFFSET", 0x2410, 0x1, 1, 0x03, .u16, .rwe, 0, true, [(0, 1023)], 1, 0, .at 0x240001 0x0⟩,
  ⟨"GAP_START", 0x2410, 0x1, 1, 0x04, .i32, .rwe, (-25000), true, [((-2147483648), 0x7FFFFFFF)], 1, 0, .at 0x240001 0x0⟩,
  ⟨"GAP_LENGTH", 0x2410, 0x1, 1, 0x05, .u32, .rwe, 0x4D0E90, true, [(0, 0xFFFFFFFF)], 1, 0, .at 0x240001 0x0⟩,
  ⟨"GAP_MUTE_MASK", 0x2410, 0x1, 1, 0x06, .u64, .rwe, 0, true, [(0, 0xFFFFFFFFFFFFFFFF)], 1, 0, .at 0x240001 0x0⟩,
  ⟨"NEXT_GAP", 0x2410, 0x1, 1, 0x07, .ats, .ro, 0, false, [(0, 0xFFFFFFFFFFFFFFFF)], 1, 4, .none⟩,
  ⟨"BLANKED_SYMBOLS", 0x2410, 0x1, 1, 0x08, .u32, .ro, 0, true, [(0, 0xFFFFFFFF)], 1, 4, .none⟩,
  ⟨"NUMEROLOGY_MASK", 0x2420, 0x1, 1, 0x01, .bits32, .rwe, 31, true, [(0, 31)], 1, 0, .at 0x240001 0x0⟩,
  ⟨"DET_THRESHOLD", 0x2420, 0x1, 1, 0x02, .u16, .rw, 80, true, [(0, 65535)], 1, 0, .none⟩,
  ⟨"CAPTURE_MARGIN", 0x2420, 0x1, 1, 0x03, .u16, .rw, 60, true, [(0, 65535)], 1, 0, .none⟩,
  ⟨"AGC_TARGET", 0x2420, 0x1, 1, 0x04, .i16, .rw, (-180), true, [((-32768), 32767)], 1, 0, .none⟩,
  ⟨"SINR_FLOOR", 0x2420, 0x1, 1, 0x05, .i16, .rw, 0, true, [((-32768), 32767)], 1, 0, .none⟩,
  ⟨"SIGMA_MAX", 0x2420, 0x1, 1, 0x06, .u16, .rw, 30, true, [(0, 65535)], 1, 0, .none⟩,
  ⟨"MAX_AGE", 0x2420, 0x1, 1, 0x07, .u16, .rw, 2000, true, [(0, 65535)], 1, 0, .none⟩,
  ⟨"NL_RU_RX_DELAY", 0x2420, 0x1, 1, 0x08, .i32, .rwe, 0, true, [((-2147483648), 0x7FFFFFFF)], 1, 0, .at 0x240001 0x0⟩,
  ⟨"RESULT_TIME", 0x2430, 0x1, 1, 0x01, .stime, .ro, 0, false, [(0, 0xFFFFFFFFFFFFFFFFFFFFFFFFFFFFFFFF)], 1, 4, .none⟩,
  ⟨"RESULT_OFFSET", 0x2430, 0x1, 1, 0x02, .i32, .ro, 0, false, [((-2147483648), 0x7FFFFFFF)], 1, 4, .none⟩,
  ⟨"RESULT_PCI", 0x2430, 0x1, 1, 0x03, .u16, .ro, 0, false, [(0, 65535)], 1, 4, .none⟩,
  ⟨"RESULT_TYPE", 0x2430, 0x1, 1, 0x04, .enum8, .ro, 0, false, [(0, 4)], 1, 4, .none⟩,
  ⟨"RESULT_SINR", 0x2430, 0x1, 1, 0x05, .i16, .ro, 0, false, [((-32768), 32767)], 1, 4, .none⟩,
  ⟨"RESULT_EVM", 0x2430, 0x1, 1, 0x06, .u16, .ro, 0, false, [(0, 65535)], 1, 4, .none⟩,
  ⟨"RESULT_SIGMA", 0x2430, 0x1, 1, 0x07, .u16, .ro, 0, false, [(0, 65535)], 1, 4, .none⟩,
  ⟨"RESULT_FREQ_ERR", 0x2430, 0x1, 1, 0x08, .i32, .ro, 0, false, [((-2147483648), 0x7FFFFFFF)], 1, 4, .none⟩,
  ⟨"RESULT_METRIC", 0x2430, 0x1, 1, 0x09, .u16, .ro, 0, false, [(0, 65535)], 1, 4, .none⟩,
  ⟨"RESULT_FLAGS", 0x2430, 0x1, 1, 0x0A, .bits32, .ro, 0, false, [(0, 31)], 1, 4, .none⟩]

/-- Rows 2 of the objects of 0x2400 to 0x25FF. -/
def rowsNetworkListen2 : List ObjRow := [
  ⟨"RESULTS_COMMITTED", 0x2430, 0x1, 1, 0x0B, .u32, .ro, 0, true, [(0, 0xFFFFFFFF)], 1, 4, .none⟩,
  ⟨"FALSE_DETECTIONS", 0x2430, 0x1, 1, 0x0C, .u32, .ro, 0, true, [(0, 0xFFFFFFFF)], 1, 4, .none⟩,
  ⟨"NB_PCI", 0x2440, 0x1, 32, 0x01, .u16, .rw, 65535, true, [(0, 1007), (65535, 65535)], 1, 0, .none⟩,
  ⟨"NB_TYPE", 0x2440, 0x1, 32, 0x02, .enum8, .rw, 1, true, [(0, 4)], 1, 0, .none⟩,
  ⟨"NB_SSB_CASE", 0x2440, 0x1, 32, 0x03, .enum8, .rw, 2, true, [(0, 4)], 1, 0, .none⟩,
  ⟨"NB_OFFSET_HZ", 0x2440, 0x1, 32, 0x04, .i32, .rw, 0, true, [((-2147483648), 0x7FFFFFFF)], 1, 0, .none⟩,
  ⟨"NB_PROP_DELAY", 0x2440, 0x1, 32, 0x05, .u32, .rw, 0, true, [(0, 0xFFFFFFFF)], 1, 0, .none⟩,
  ⟨"NB_TRUSTED", 0x2440, 0x1, 32, 0x06, .u8, .rw, 0, true, [(0, 1)], 1, 0, .none⟩,
  ⟨"MC_COUNT", 0x2460, 0x1, 1, 0x01, .u32, .ro, 0, true, [(0, 0xFFFFFFFF)], 1, 4, .none⟩,
  ⟨"MC_RECORD", 0x2460, 0x1, 1, 0x02, .blob, .ro, 0, false, [(0, 24)], 1, 6, .none⟩]

/-- The objects of 0x2400 to 0x25FF. -/
def rowsNetworkListen : List ObjRow :=
  rowsNetworkListen1 ++ rowsNetworkListen2

/-- The objects of 0x2600 to 0x27FF. -/
def rowsAirTime : List ObjRow := [
  ⟨"AIR_EPOCH", 0x2600, 0x1, 1, 0x01, .stime, .rwe, 0x12D53D930000000000000000, true, [(0, 0xFFFFFFFFFFFFFFFFFFFFFFFFFFFFFFFF)], 1, 0, .compound⟩,
  ⟨"AIR_NOW", 0x2600, 0x1, 1, 0x02, .ats, .ro, 0, false, [(0, 0xFFFFFFFFFFFFFFFF)], 1, 4, .none⟩,
  ⟨"AIR_STATE", 0x2600, 0x1, 1, 0x03, .enum8, .ro, 0, false, [(0, 1)], 1, 4, .none⟩,
  ⟨"FEAS_PARSE", 0x2600, 0x1, 1, 0x04, .u32, .const, 2000, true, [(0, 0xFFFFFFFF)], 1, 0, .none⟩,
  ⟨"TOO_LATE_TOTAL", 0x2600, 0x1, 1, 0x05, .u32, .ro, 0, true, [(0, 0xFFFFFFFF)], 1, 4, .none⟩,
  ⟨"FRAME_OFFSET", 0x2640, 0x1, 64, 0x01, .u32, .rwe, 0, true, [(0, 0x12BFFFF)], 1, 0, .compound⟩,
  ⟨"TX_ADVANCE", 0x2640, 0x1, 64, 0x02, .u32, .rwe, 0x249F0, true, [(0, 0xFFFFFFFF)], 1, 0, .at 0x300001 0x2000⟩,
  ⟨"RUN_AHEAD_SLOTS", 0x2640, 0x1, 64, 0x03, .u8, .rwe, 4, true, [(1, 4)], 1, 0, .at 0x300001 0x2000⟩,
  ⟨"FEAS_GUARD", 0x2640, 0x1, 64, 0x04, .u32, .rw, 2000, true, [(0, 0xFFFFFFFF)], 1, 0, .none⟩,
  ⟨"ENC_RESERVE", 0x2640, 0x1, 64, 0x05, .u32, .rwe, 20000, true, [(0, 0xFFFFFFFF)], 1, 0, .at 0x300001 0x2000⟩,
  ⟨"ENC_BIND_LEAD", 0x2640, 0x1, 64, 0x06, .u32, .ro, 0, false, [(0, 0xFFFFFFFF)], 1, 4, .none⟩,
  ⟨"MAP_BIND_LEAD", 0x2640, 0x1, 64, 0x07, .u32, .ro, 0, false, [(0, 0xFFFFFFFF)], 1, 4, .none⟩,
  ⟨"UL_BIND_LEAD", 0x2640, 0x1, 64, 0x08, .u32, .rwe, 0x3D090, true, [(0, 0xFFFFFFFF)], 1, 0, .at 0x300001 0x2000⟩,
  ⟨"UL_RESULT_BUDGET", 0x2640, 0x1, 64, 0x09, .u32, .rwe, 0x7A120, true, [(0, 0xFFFFFFFF)], 1, 0, .at 0x300001 0x2000⟩,
  ⟨"REVISIONS_ACCEPTED", 0x2640, 0x1, 64, 0x0A, .u32, .ro, 0, true, [(0, 0xFFFFFFFF)], 1, 4, .none⟩,
  ⟨"REFUSED_TOO_LATE", 0x2640, 0x1, 64, 0x0B, .u32, .ro, 0, true, [(0, 0xFFFFFFFF)], 1, 4, .none⟩,
  ⟨"EXPIRED_OPS", 0x2640, 0x1, 64, 0x0C, .u32, .ro, 0, true, [(0, 0xFFFFFFFF)], 1, 4, .none⟩]

/-- The objects of 0x2800 to 0x2BFF. -/
def rowsCenen : List ObjRow := [
  ⟨"LINK_STATE", 0x2800, 0x1, 1, 0x01, .enum8, .ro, 0, false, [(0, 3)], 1, 4, .none⟩,
  ⟨"MODULE_MAP", 0x2800, 0x1, 1, 0x02, .u64, .rw, 0xAAAAAAAAAAAAAAAA, true, [(0, 0xFFFFFFFFFFFFFFFF)], 1, 0, .none⟩,
  ⟨"LANES_REPAIRED_U0", 0x2800, 0x1, 1, 0x03, .u8, .ro, 0, true, [(0, 255)], 1, 4, .none⟩,
  ⟨"LANES_REPAIRED_U1", 0x2800, 0x1, 1, 0x04, .u8, .ro, 0, true, [(0, 255)], 1, 4, .none⟩,
  ⟨"ADAPTER_RETRIES", 0x2800, 0x1, 1, 0x05, .u64, .ro, 0, true, [(0, 0xFFFFFFFFFFFFFFFF)], 1, 4, .none⟩,
  ⟨"MODULE_LOST_COUNT", 0x2800, 0x1, 1, 0x06, .u32, .ro, 0, true, [(0, 0xFFFFFFFF)], 1, 4, .none⟩,
  ⟨"RESTORE_HOLD", 0x2800, 0x1, 1, 0x07, .u32, .rw, 1000, true, [(0, 0xFFFFFFFF)], 1, 0, .none⟩,
  ⟨"SB_VENDOR_ID", 0x2800, 0x1, 1, 0x08, .u16, .const, 23068, true, [(0, 65535)], 1, 0, .none⟩,
  ⟨"SESSION_STATE", 0x2810, 0x1, 1, 0x01, .enum8, .ro, 0, false, [(0, 2)], 1, 4, .none⟩,
  ⟨"HOST_ID", 0x2810, 0x1, 1, 0x02, .blob, .ro, 16, false, [(16, 16)], 1, 4, .none⟩,
  ⟨"SESSION_HOLD", 0x2810, 0x1, 1, 0x03, .u32, .rw, 0, true, [(0, 0xFFFFFFFF)], 1, 0, .none⟩,
  ⟨"LOCKED_ATTEMPTS", 0x2810, 0x1, 1, 0x04, .u32, .ro, 0, true, [(0, 0xFFFFFFFF)], 1, 4, .none⟩,
  ⟨"FORMAT_ERRORS", 0x2810, 0x1, 1, 0x05, .u32, .ro, 0, true, [(0, 0xFFFFFFFF)], 1, 4, .none⟩,
  ⟨"INDICATIONS_DROPPED", 0x2810, 0x1, 1, 0x06, .u32, .ro, 0, true, [(0, 0xFFFFFFFF)], 1, 4, .none⟩,
  ⟨"CREDIT_GRANT", 0x2810, 0x1, 1, 0x07, .u16, .rw, 4096, true, [(0, 65535)], 1, 0, .none⟩,
  ⟨"UNACKED_LIMIT", 0x2810, 0x1, 1, 0x08, .u16, .rw, 256, true, [(0, 65535)], 1, 0, .none⟩,
  ⟨"JOURNAL_COPIES", 0x2820, 0x1, 1, 0x01, .u8, .ro, 0, false, [(0, 2)], 1, 4, .none⟩,
  ⟨"JOURNAL_USED", 0x2820, 0x1, 1, 0x02, .u32, .ro, 0, false, [(0, 0xFFFFFFFF)], 1, 4, .none⟩,
  ⟨"JOURNAL_HIGH", 0x2820, 0x1, 1, 0x03, .u8, .rw, 90, true, [(1, 100)], 1, 0, .none⟩,
  ⟨"NEXT_REQ_SEQ", 0x2841, 0x1, 64, 0x01, .u64, .ro, 0, false, [(0, 0xFFFFFFFFFFFFFFFF)], 1, 4, .none⟩,
  ⟨"NEXT_OUTCOME_SEQ", 0x2841, 0x1, 64, 0x02, .u64, .ro, 0, false, [(0, 0xFFFFFFFFFFFFFFFF)], 1, 4, .none⟩,
  ⟨"LAST_ACKED", 0x2841, 0x1, 64, 0x03, .u64, .ro, 0, false, [(0, 0xFFFFFFFFFFFFFFFF)], 1, 4, .none⟩,
  ⟨"UNACKED", 0x2841, 0x1, 64, 0x04, .u16, .ro, 0, true, [(0, 65535)], 1, 4, .none⟩,
  ⟨"HOST_CREDITS", 0x2841, 0x1, 64, 0x05, .u32, .ro, 0, false, [(0, 0xFFFFFFFF)], 1, 4, .none⟩,
  ⟨"DEVICE_CREDITS", 0x2841, 0x1, 64, 0x06, .u32, .ro, 0, false, [(0, 0xFFFFFFFF)], 1, 4, .none⟩,
  ⟨"SEQ_REFUSALS", 0x2841, 0x1, 64, 0x07, .u32, .ro, 0, true, [(0, 0xFFFFFFFF)], 1, 4, .none⟩,
  ⟨"DUPLICATES", 0x2841, 0x1, 64, 0x08, .u32, .ro, 0, true, [(0, 0xFFFFFFFF)], 1, 4, .none⟩,
  ⟨"JOURNAL_FULL_REFUSALS", 0x2841, 0x1, 64, 0x09, .u32, .ro, 0, true, [(0, 0xFFFFFFFF)], 1, 4, .none⟩]

/-- The objects of 0x2C00 to 0x2FFF. -/
def rowsService : List ObjRow := [
  ⟨"TRANSFERS_SERVED", 0x2C00, 0x1, 1, 0x01, .u32, .ro, 0, true, [(0, 0xFFFFFFFF)], 1, 4, .none⟩,
  ⟨"TRANSFERS_REFUSED", 0x2C00, 0x1, 1, 0x02, .u32, .ro, 0, true, [(0, 0xFFFFFFFF)], 1, 4, .none⟩,
  ⟨"BUSY_REPLIES", 0x2C00, 0x1, 1, 0x03, .u32, .ro, 0, true, [(0, 0xFFFFFFFF)], 1, 4, .none⟩,
  ⟨"SEG_MAX", 0x2C00, 0x1, 1, 0x04, .u16, .const, 1024, true, [(0, 65535)], 1, 0, .none⟩,
  ⟨"SEG_TIMEOUT", 0x2C00, 0x1, 1, 0x05, .u16, .rw, 100, true, [(10, 1000)], 1, 0, .none⟩,
  ⟨"CHANGE_COUNT", 0x2C00, 0x1, 1, 0x06, .u32, .ro, 0, true, [(0, 0xFFFFFFFF)], 1, 4, .none⟩,
  ⟨"IMAGE_ENTRIES_APPLIED", 0x2C00, 0x1, 1, 0x07, .u32, .ro, 0, false, [(0, 0xFFFFFFFF)], 1, 0, .none⟩,
  ⟨"IMAGE_ENTRIES_REJECTED", 0x2C00, 0x1, 1, 0x08, .u32, .ro, 0, false, [(0, 0xFFFFFFFF)], 1, 0, .none⟩,
  ⟨"IMAGE_FIRST_REJECT", 0x2C00, 0x1, 1, 0x09, .blob, .ro, 0, false, [(0, 8)], 1, 0, .none⟩,
  ⟨"ENABLE_RESOLVED_COUNT", 0x2C00, 0x1, 1, 0x0A, .u32, .ro, 0, true, [(0, 0xFFFFFFFF)], 1, 4, .none⟩,
  ⟨"LAST_CHECK_OBJECT", 0x2C00, 0x1, 1, 0x0B, .u32, .ro, 0, true, [(0, 0xFFFFFFFF)], 1, 4, .none⟩,
  ⟨"LAST_CHECK_REASON", 0x2C00, 0x1, 1, 0x0C, .u16, .ro, 0, true, [(0, 65535)], 1, 4, .none⟩,
  ⟨"ABORTED_TRANSFERS", 0x2C00, 0x1, 1, 0x0D, .u32, .ro, 0, true, [(0, 0xFFFFFFFF)], 1, 4, .none⟩,
  ⟨"ENABLE_LOG_COUNT", 0x2C10, 0x1, 1, 0x01, .u32, .ro, 0, true, [(0, 0xFFFFFFFF)], 1, 4, .none⟩,
  ⟨"ENABLE_LOG", 0x2C10, 0x1, 1, 0x02, .blob, .ro, 0, false, [(0, 24)], 1, 6, .none⟩]

/-- The objects of 0x3000 to 0x37FF. -/
def rowsCarrier : List ObjRow := [
  ⟨"CARRIER_ENABLE", 0x3000, 0x20, 64, 0x01, .u8, .rw, 0, true, [(0, 1)], 1, 5, .none⟩,
  ⟨"STANDARD", 0x3000, 0x20, 64, 0x02, .enum8, .rwe, 1, true, [(0, 2)], 1, 0, .at 0x300001 0x2000⟩,
  ⟨"FREQ_RANGE", 0x3000, 0x20, 64, 0x03, .enum8, .rwe, 1, true, [(1, 2)], 1, 0, .at 0x300001 0x2000⟩,
  ⟨"NUMEROLOGY", 0x3000, 0x20, 64, 0x04, .u8, .rwe, 1, true, [(0, 3)], 1, 0, .at 0x300001 0x2000⟩,
  ⟨"BANDWIDTH", 0x3000, 0x20, 64, 0x05, .u32, .rwe, 0x186A0, true, [(0, 0xFFFFFFFF)], 1, 0, .at 0x300001 0x2000⟩,
  ⟨"DUPLEX", 0x3000, 0x20, 64, 0x06, .enum8, .rwe, 1, true, [(0, 1)], 1, 0, .at 0x300001 0x2000⟩,
  ⟨"DL_PORTS", 0x3000, 0x20, 64, 0x07, .u8, .rwe, 4, true, [(1, 64)], 1, 0, .at 0x300001 0x2000⟩,
  ⟨"UL_PORTS", 0x3000, 0x20, 64, 0x08, .u8, .rwe, 4, true, [(1, 64)], 1, 0, .at 0x300001 0x2000⟩,
  ⟨"PORT_KIND", 0x3000, 0x20, 64, 0x09, .enum8, .rwe, 0, true, [(0, 1)], 1, 0, .at 0x300001 0x2000⟩,
  ⟨"FH_DOMAIN", 0x3000, 0x20, 64, 0x0A, .enum8, .rwe, 0, true, [(0, 1)], 1, 0, .at 0x300001 0x2000⟩,
  ⟨"FH_PORT", 0x3000, 0x20, 64, 0x0B, .u8, .rwe, 255, true, [(0, 23), (255, 255)], 1, 0, .at 0x300001 0x2000⟩,
  ⟨"DFE_FIRST", 0x3000, 0x20, 64, 0x0C, .u8, .rwe, 255, true, [(0, 127), (255, 255)], 1, 0, .at 0x300001 0x2000⟩,
  ⟨"PCI", 0x3000, 0x20, 64, 0x0D, .u16, .rwe, 0, true, [(0, 1007)], 1, 0, .at 0x300001 0x2000⟩,
  ⟨"HOST_CARRIER", 0x3000, 0x20, 64, 0x0E, .u8, .rwe, 255, true, [(0, 63), (255, 255)], 1, 0, .at 0x300001 0x2000⟩,
  ⟨"NBIOT_MODE", 0x3000, 0x20, 64, 0x0F, .enum8, .rwe, 0, true, [(0, 2)], 1, 0, .at 0x300001 0x2000⟩,
  ⟨"LTEM_MODE", 0x3000, 0x20, 64, 0x10, .enum8, .rwe, 0, true, [(0, 2)], 1, 0, .at 0x300001 0x2000⟩,
  ⟨"MU_LAYERS_DL", 0x3000, 0x20, 64, 0x11, .u8, .rwe, 16, true, [(1, 16)], 1, 0, .at 0x300001 0x2000⟩,
  ⟨"MU_LAYERS_UL", 0x3000, 0x20, 64, 0x12, .u8, .rwe, 8, true, [(1, 16)], 1, 0, .at 0x300001 0x2000⟩,
  ⟨"TRANSFORM_SIZE", 0x3000, 0x20, 64, 0x13, .u16, .rwe, 0, true, [(0, 65535)], 1, 0, .at 0x300001 0x2000⟩,
  ⟨"RUNAHEAD_FRACTION", 0x3000, 0x20, 64, 0x14, .u8, .rw, 75, true, [(50, 100)], 1, 0, .none⟩,
  ⟨"DEC_ITER_DEFAULT", 0x3000, 0x20, 64, 0x15, .u8, .rw, 8, true, [(1, 32)], 1, 0, .none⟩,
  ⟨"STREAM_UNITS_HELD", 0x3000, 0x20, 64, 0x16, .u16, .ro, 0, true, [(0, 65535)], 1, 4, .none⟩,
  ⟨"PALLETS_RESERVED", 0x3000, 0x20, 64, 0x17, .u16, .ro, 0, true, [(0, 65535)], 1, 4, .none⟩,
  ⟨"COURSES_DONE", 0x3000, 0x20, 64, 0x18, .u32, .ro, 0, true, [(0, 0xFFFFFFFF)], 1, 4, .none⟩,
  ⟨"COURSES_PARTIAL", 0x3000, 0x20, 64, 0x19, .u32, .ro, 0, true, [(0, 0xFFFFFFFF)], 1, 4, .none⟩,
  ⟨"COURSES_EXPIRED", 0x3000, 0x20, 64, 0x1A, .u32, .ro, 0, true, [(0, 0xFFFFFFFF)], 1, 4, .none⟩,
  ⟨"SYMBOLS_WITHHELD", 0x3000, 0x20, 64, 0x1B, .u32, .ro, 0, true, [(0, 0xFFFFFFFF)], 1, 4, .none⟩]

/-- The objects of 0x3800 to 0x3BFF. -/
def rowsPipeline : List ObjRow := [
  ⟨"UE_CTX_LIMIT", 0x3800, 0x1, 1, 0x01, .u32, .rwe, 0x10000, true, [(1, 0x10000)], 1, 0, .compound⟩,
  ⟨"SOFTBUF_PALLETS", 0x3800, 0x1, 1, 0x02, .u32, .rwe, 0x70000, true, [(0, 0xEE6B2)], 1, 0, .compound⟩,
  ⟨"SOFTBUF_FREE", 0x3800, 0x1, 1, 0x03, .u32, .ro, 0, false, [(0, 0xFFFFFFFF)], 1, 4, .none⟩,
  ⟨"CACHE_PINNED", 0x3800, 0x1, 1, 0x04, .u16, .ro, 0, true, [(0, 65535)], 1, 4, .none⟩,
  ⟨"CACHE_MISSES", 0x3800, 0x1, 1, 0x05, .u64, .ro, 0, true, [(0, 0xFFFFFFFFFFFFFFFF)], 1, 4, .none⟩,
  ⟨"HARQ_COMMITS", 0x3800, 0x1, 1, 0x06, .u64, .ro, 0, true, [(0, 0xFFFFFFFFFFFFFFFF)], 1, 4, .none⟩,
  ⟨"HARQ_DISCARDS", 0x3800, 0x1, 1, 0x07, .u64, .ro, 0, true, [(0, 0xFFFFFFFFFFFFFFFF)], 1, 4, .none⟩,
  ⟨"HARQ_VERSION_LOST_COUNT", 0x3800, 0x1, 1, 0x08, .u32, .ro, 0, true, [(0, 0xFFFFFFFF)], 1, 4, .none⟩,
  ⟨"RUNAHEAD_EARLY", 0x3800, 0x1, 1, 0x09, .u64, .ro, 0, true, [(0, 0xFFFFFFFFFFFFFFFF)], 1, 4, .none⟩,
  ⟨"RUNAHEAD_RESTARTS", 0x3800, 0x1, 1, 0x0A, .u64, .ro, 0, true, [(0, 0xFFFFFFFFFFFFFFFF)], 1, 4, .none⟩,
  ⟨"SUPERSEDED_OUTPUTS", 0x3800, 0x1, 1, 0x0B, .u64, .ro, 0, true, [(0, 0xFFFFFFFFFFFFFFFF)], 1, 4, .none⟩,
  ⟨"UE_INDEX", 0x3810, 0x1, 1, 0x01, .u16, .rw, 0, true, [(0, 65535)], 1, 0, .none⟩,
  ⟨"UE_CONTEXT", 0x3810, 0x1, 1, 0x02, .blob, .rw, 64, true, [(64, 64)], 1, 0, .none⟩,
  ⟨"UE_STATE", 0x3810, 0x1, 1, 0x03, .enum8, .ro, 0, false, [(0, 2)], 1, 4, .none⟩,
  ⟨"UE_RELEASE", 0x3810, 0x1, 1, 0x04, .u16, .wo, 0, false, [(0, 65535)], 1, 0, .none⟩,
  ⟨"UE_ACTIVE_COUNT", 0x3810, 0x1, 1, 0x05, .u32, .ro, 0, true, [(0, 0xFFFFFFFF)], 1, 4, .none⟩,
  ⟨"UE_HARQ_STATE", 0x3810, 0x1, 1, 0x06, .blob, .ro, 0, false, [(256, 256)], 1, 4, .none⟩]

/-- The objects of 0x3C00 to 0x3FFF. -/
def rowsKiln : List ObjRow := [
  ⟨"KD_SERVICE_LO", 0x3C00, 0x1, 1, 0x01, .u64, .ro, 0xFFFFFFFCFFFFFFFF, false, [(0, 0xFFFFFFFFFFFFFFFF)], 1, 12, .none⟩,
  ⟨"KD_SERVICE_HI", 0x3C00, 0x1, 1, 0x02, .u8, .ro, 3, false, [(0, 255)], 1, 12, .none⟩,
  ⟨"KD_FAULTED_LO", 0x3C00, 0x1, 1, 0x03, .u64, .ro, 0, true, [(0, 0xFFFFFFFFFFFFFFFF)], 1, 4, .none⟩,
  ⟨"KD_FAULTED_HI", 0x3C00, 0x1, 1, 0x04, .u8, .ro, 0, true, [(0, 255)], 1, 4, .none⟩,
  ⟨"KE_SERVICE", 0x3C00, 0x1, 1, 0x05, .u64, .ro, 0x1FFFEFFFF, false, [(0, 0xFFFFFFFFFFFFFFFF)], 1, 12, .none⟩,
  ⟨"KE_FAULTED", 0x3C00, 0x1, 1, 0x06, .u64, .ro, 0, true, [(0, 0xFFFFFFFFFFFFFFFF)], 1, 4, .none⟩,
  ⟨"KD_BUSY", 0x3C00, 0x1, 1, 0x07, .u8, .ro, 0, false, [(0, 255)], 1, 4, .none⟩,
  ⟨"KE_BUSY", 0x3C00, 0x1, 1, 0x08, .u8, .ro, 0, false, [(0, 255)], 1, 4, .none⟩,
  ⟨"MINSUM_ALPHA", 0x3C10, 0x1, 1, 0x01, .q15, .rw, 24576, true, [(16384, 32767)], 1, 0, .none⟩,
  ⟨"RUNAHEAD_ITER", 0x3C10, 0x1, 1, 0x02, .u8, .rw, 4, true, [(1, 8)], 1, 0, .none⟩,
  ⟨"RESTART_STEP", 0x3C10, 0x1, 1, 0x03, .u8, .rw, 10, true, [(5, 50)], 1, 0, .none⟩,
  ⟨"STALL_ITER", 0x3C10, 0x1, 1, 0x04, .u8, .rw, 4, true, [(0, 0), (2, 16)], 1, 0, .none⟩,
  ⟨"EXTRINSIC_BETA", 0x3C10, 0x1, 1, 0x05, .q15, .rw, 16384, true, [(0, 32767)], 1, 0, .none⟩,
  ⟨"TURBO_ITER_DEFAULT", 0x3C10, 0x1, 1, 0x06, .u8, .rw, 6, true, [(1, 16)], 1, 0, .none⟩,
  ⟨"TURBO_EXT_SCALE", 0x3C10, 0x1, 1, 0x07, .q15, .rw, 24576, true, [((-32768), 32767)], 1, 0, .none⟩,
  ⟨"POLAR_LIST", 0x3C10, 0x1, 1, 0x08, .enum8, .rwe, 8, true, [(4, 4), (8, 8), (16, 16)], 1, 0, .compound⟩,
  ⟨"DEC_JOBS", 0x3C20, 0x1, 1, 0x01, .u64, .ro, 0, true, [(0, 0xFFFFFFFFFFFFFFFF)], 1, 4, .none⟩,
  ⟨"DEC_PASS", 0x3C20, 0x1, 1, 0x02, .u64, .ro, 0, true, [(0, 0xFFFFFFFFFFFFFFFF)], 1, 4, .none⟩,
  ⟨"DEC_FAIL", 0x3C20, 0x1, 1, 0x03, .u64, .ro, 0, true, [(0, 0xFFFFFFFFFFFFFFFF)], 1, 4, .none⟩,
  ⟨"ITERATIONS", 0x3C20, 0x1, 1, 0x04, .u64, .ro, 0, true, [(0, 0xFFFFFFFFFFFFFFFF)], 1, 4, .none⟩,
  ⟨"ENC_JOBS", 0x3C20, 0x1, 1, 0x05, .u64, .ro, 0, true, [(0, 0xFFFFFFFFFFFFFFFF)], 1, 4, .none⟩,
  ⟨"ENC_BLOCKS", 0x3C20, 0x1, 1, 0x06, .u64, .ro, 0, true, [(0, 0xFFFFFFFFFFFFFFFF)], 1, 4, .none⟩,
  ⟨"POLAR_DEC_JOBS", 0x3C20, 0x1, 1, 0x07, .u64, .ro, 0, true, [(0, 0xFFFFFFFFFFFFFFFF)], 1, 4, .none⟩,
  ⟨"CANCELLED_JOBS", 0x3C20, 0x1, 1, 0x08, .u64, .ro, 0, true, [(0, 0xFFFFFFFFFFFFFFFF)], 1, 4, .none⟩,
  ⟨"FEED_IGNORED", 0x3C20, 0x1, 1, 0x09, .u32, .ro, 0, true, [(0, 0xFFFFFFFF)], 1, 4, .none⟩,
  ⟨"TB_MISMATCHES", 0x3C20, 0x1, 1, 0x0A, .u32, .ro, 0, true, [(0, 0xFFFFFFFF)], 1, 4, .none⟩,
  ⟨"LLR_READ_ERRORS", 0x3C20, 0x1, 1, 0x0B, .u32, .ro, 0, true, [(0, 0xFFFFFFFF)], 1, 4, .none⟩,
  ⟨"ENGINE_FAULTS", 0x3C20, 0x1, 1, 0x0C, .u32, .ro, 0, true, [(0, 0xFFFFFFFF)], 1, 4, .none⟩,
  ⟨"BAD_JOBS", 0x3C20, 0x1, 1, 0x0D, .u32, .ro, 0, true, [(0, 0xFFFFFFFF)], 1, 4, .none⟩]

/-- Rows 1 of the objects of 0x4000 to 0x43FF. -/
def rowsLayer1 : List ObjRow := [
  ⟨"LE_SERVICE", 0x4000, 0x1, 1, 0x01, .u64, .ro, 0xFFFFFFFF, false, [(0, 0xFFFFFFFFFFFFFFFF)], 1, 12, .none⟩,
  ⟨"LE_FAULTED", 0x4000, 0x1, 1, 0x02, .u64, .ro, 0, true, [(0, 0xFFFFFFFFFFFFFFFF)], 1, 4, .none⟩,
  ⟨"LE_BUSY", 0x4000, 0x1, 1, 0x03, .u8, .ro, 0, false, [(0, 255)], 1, 4, .none⟩,
  ⟨"DET_MODE", 0x4010, 0x1, 1, 0x01, .enum8, .rw, 1, true, [(0, 1)], 1, 0, .none⟩,
  ⟨"DET_PRB_GROUP", 0x4010, 0x1, 1, 0x02, .u8, .rw, 1, true, [(1, 2), (4, 4)], 1, 0, .none⟩,
  ⟨"PREC_BACKOFF", 0x4010, 0x1, 1, 0x03, .u8, .rw, 12, true, [(0, 30)], 1, 0, .none⟩,
  ⟨"PRACH_THRESHOLD", 0x4010, 0x1, 1, 0x04, .u16, .rw, 150, true, [(0, 65535)], 1, 0, .none⟩,
  ⟨"LOAD_SB_PRBS", 0x4010, 0x1, 1, 0x05, .u8, .rwe, 8, true, [(1, 16)], 1, 0, .compound⟩,
  ⟨"WB_READ_NS", 0x4010, 0x1, 1, 0x06, .u32, .const, 600, true, [(0, 0xFFFFFFFF)], 1, 0, .none⟩,
  ⟨"LE_OPS", 0x4020, 0x1, 1, 0x01, .u64, .ro, 0, true, [(0, 0xFFFFFFFFFFFFFFFF)], 1, 4, .none⟩,
  ⟨"DET_SATURATED", 0x4020, 0x1, 1, 0x02, .u64, .ro, 0, true, [(0, 0xFFFFFFFFFFFFFFFF)], 1, 4, .none⟩,
  ⟨"PREC_SATURATED", 0x4020, 0x1, 1, 0x03, .u64, .ro, 0, true, [(0, 0xFFFFFFFFFFFFFFFF)], 1, 4, .none⟩,
  ⟨"PRACH_OCCASIONS", 0x4020, 0x1, 1, 0x04, .u64, .ro, 0, true, [(0, 0xFFFFFFFFFFFFFFFF)], 1, 4, .none⟩,
  ⟨"PRACH_DETECTIONS", 0x4020, 0x1, 1, 0x05, .u64, .ro, 0, true, [(0, 0xFFFFFFFFFFFFFFFF)], 1, 4, .none⟩,
  ⟨"SRS_UPDATES", 0x4020, 0x1, 1, 0x06, .u64, .ro, 0, true, [(0, 0xFFFFFFFFFFFFFFFF)], 1, 4, .none⟩,
  ⟨"WB_SWAPS", 0x4020, 0x1, 1, 0x07, .u64, .ro, 0, true, [(0, 0xFFFFFFFFFFFFFFFF)], 1, 4, .none⟩,
  ⟨"STALE_BANK_COUNT", 0x4020, 0x1, 1, 0x08, .u32, .ro, 0, true, [(0, 0xFFFFFFFF)], 1, 4, .none⟩,
  ⟨"WB_CRC_ERRORS", 0x4020, 0x1, 1, 0x09, .u32, .ro, 0, true, [(0, 0xFFFFFFFF)], 1, 4, .none⟩,
  ⟨"WB_UPDATES_SKIPPED", 0x4020, 0x1, 1, 0x0A, .u32, .ro, 0, true, [(0, 0xFFFFFFFF)], 1, 4, .none⟩,
  ⟨"LE_CANCELLED", 0x4020, 0x1, 1, 0x0B, .u64, .ro, 0, true, [(0, 0xFFFFFFFFFFFFFFFF)], 1, 4, .none⟩,
  ⟨"LE_ENGINE_FAULTS", 0x4020, 0x1, 1, 0x0C, .u32, .ro, 0, true, [(0, 0xFFFFFFFF)], 1, 4, .none⟩,
  ⟨"LOAD_TABLE", 0x4100, 0x1, 64, 0x01, .blob, .ro, 0, false, [(0, 2200)], 1, 4, .none⟩,
  ⟨"LOAD_UPDATES", 0x4100, 0x1, 64, 0x02, .u32, .ro, 0, true, [(0, 0xFFFFFFFF)], 1, 4, .none⟩,
  ⟨"WB_POOL_PALLETS", 0x4200, 0x1, 1, 0x01, .u32, .rwe, 8192, true, [(0, 0x10000)], 1, 0, .compound⟩,
  ⟨"WB_POOL_FREE", 0x4200, 0x1, 1, 0x02, .u32, .ro, 0, false, [(0, 0xFFFFFFFF)], 1, 4, .none⟩,
  ⟨"WB_INDEX", 0x4200, 0x1, 1, 0x03, .u16, .rw, 0, true, [(0, 4095)], 1, 0, .none⟩,
  ⟨"WB_OWNER", 0x4200, 0x1, 1, 0x04, .u8, .rwe, 255, true, [(0, 63), (255, 255)], 1, 0, .compound⟩,
  ⟨"WB_PORTS", 0x4200, 0x1, 1, 0x05, .u8, .rwe, 32, true, [(1, 64)], 1, 0, .compound⟩,
  ⟨"WB_LAYERS", 0x4200, 0x1, 1, 0x06, .u8, .rwe, 4, true, [(1, 16)], 1, 0, .compound⟩,
  ⟨"WB_SUBBANDS", 0x4200, 0x1, 1, 0x07, .u8, .rwe, 35, true, [(1, 35)], 1, 0, .compound⟩]

/-- Rows 2 of the objects of 0x4000 to 0x43FF. -/
def rowsLayer2 : List ObjRow := [
  ⟨"WB_SB_PRBS", 0x4200, 0x1, 1, 0x08, .u8, .rwe, 8, true, [(1, 16)], 1, 0, .compound⟩,
  ⟨"WB_SWAP_PERIOD", 0x4200, 0x1, 1, 0x09, .u16, .rwe, 20, true, [(5, 1280)], 1, 0, .compound⟩,
  ⟨"WB_DEFINE", 0x4200, 0x1, 1, 0x0A, .enum8, .wo, 0, false, [(0, 1)], 1, 0, .none⟩,
  ⟨"WB_STATE", 0x4200, 0x1, 1, 0x0B, .enum8, .ro, 0, false, [(0, 2)], 1, 4, .none⟩,
  ⟨"WB_SUBBAND", 0x4200, 0x1, 1, 0x0C, .u8, .rw, 0, true, [(0, 255)], 1, 0, .none⟩,
  ⟨"WB_WEIGHTS", 0x4200, 0x1, 1, 0x0D, .blob, .rw, 0, false, [(0, 4096)], 1, 4, .none⟩,
  ⟨"WB_COMMIT", 0x4200, 0x1, 1, 0x0E, .u8, .wo, 0, false, [(1, 1)], 1, 0, .none⟩,
  ⟨"WB_BANKS", 0x4200, 0x1, 1, 0x0F, .blob, .ro, 0, false, [(24, 24)], 1, 4, .none⟩]

/-- The objects of 0x4000 to 0x43FF. -/
def rowsLayer : List ObjRow :=
  rowsLayer1 ++ rowsLayer2

/-- Rows 1 of the objects of 0x4400 to 0x49FF. -/
def rowsPort1 : List ObjRow := [
  ⟨"PORT_ENABLE", 0x4400, 0x40, 24, 0x01, .u8, .rw, 0, true, [(0, 1)], 1, 5, .none⟩,
  ⟨"PORT_SPEED", 0x4400, 0x40, 24, 0x02, .enum8, .rwe, 2, true, [(0, 4)], 1, 0, .at 0x440001 0x4000⟩,
  ⟨"PORT_MAC", 0x4400, 0x40, 24, 0x03, .blob, .rwe, 0, false, [(6, 6)], 1, 8, .at 0x440001 0x4000⟩,
  ⟨"VLAN_ID", 0x4400, 0x40, 24, 0x04, .u16, .rwe, 65535, true, [(0, 4094), (65535, 65535)], 1, 0, .at 0x440001 0x4000⟩,
  ⟨"VLAN_PCP", 0x4400, 0x40, 24, 0x05, .u8, .rwe, 7, true, [(0, 7)], 1, 0, .at 0x440001 0x4000⟩,
  ⟨"FH_MTU", 0x4400, 0x40, 24, 0x06, .u16, .rwe, 9000, true, [(1500, 9216)], 1, 0, .at 0x440001 0x4000⟩,
  ⟨"PAIR_PORT", 0x4400, 0x40, 24, 0x07, .u8, .rwe, 255, true, [(0, 23), (255, 255)], 1, 0, .at 0x440001 0x4000⟩,
  ⟨"FAILOVER_MODE", 0x4400, 0x40, 24, 0x08, .enum8, .rw, 0, true, [(0, 1)], 1, 0, .none⟩,
  ⟨"FAILOVER_ON_DEGRADE", 0x4400, 0x40, 24, 0x09, .u8, .rw, 1, true, [(0, 1)], 1, 0, .none⟩,
  ⟨"FEC_DEGRADE_BER", 0x4400, 0x40, 24, 0x0A, .u32, .rw, 0x3A980, true, [(0, 0xFFFFFFFF)], 1, 0, .none⟩,
  ⟨"FWD_ENABLE", 0x4400, 0x40, 24, 0x0B, .u8, .rwe, 0, true, [(0, 1)], 1, 0, .at 0x440001 0x4000⟩,
  ⟨"FWD_QUEUE_KIB", 0x4400, 0x40, 24, 0x0C, .u16, .rwe, 256, true, [(64, 1024)], 1, 0, .at 0x440001 0x4000⟩,
  ⟨"LINK_STATE", 0x4400, 0x40, 24, 0x0D, .enum8, .ro, 3, false, [(0, 3)], 1, 4, .none⟩,
  ⟨"PRE_FEC_BER", 0x4400, 0x40, 24, 0x0E, .u32, .ro, 0, false, [(0, 0xFFFFFFFF)], 1, 4, .none⟩,
  ⟨"FEC_CORRECTED", 0x4400, 0x40, 24, 0x0F, .u64, .ro, 0, true, [(0, 0xFFFFFFFFFFFFFFFF)], 1, 4, .none⟩,
  ⟨"FEC_UNCORRECTABLE", 0x4400, 0x40, 24, 0x10, .u64, .ro, 0, true, [(0, 0xFFFFFFFFFFFFFFFF)], 1, 4, .none⟩,
  ⟨"TX_FRAMES", 0x4400, 0x40, 24, 0x11, .u64, .ro, 0, true, [(0, 0xFFFFFFFFFFFFFFFF)], 1, 4, .none⟩,
  ⟨"RX_FRAMES", 0x4400, 0x40, 24, 0x12, .u64, .ro, 0, true, [(0, 0xFFFFFFFFFFFFFFFF)], 1, 4, .none⟩,
  ⟨"TX_BYTES", 0x4400, 0x40, 24, 0x13, .u64, .ro, 0, true, [(0, 0xFFFFFFFFFFFFFFFF)], 1, 4, .none⟩,
  ⟨"RX_BYTES", 0x4400, 0x40, 24, 0x14, .u64, .ro, 0, true, [(0, 0xFFFFFFFFFFFFFFFF)], 1, 4, .none⟩,
  ⟨"RX_FCS_ERRORS", 0x4400, 0x40, 24, 0x15, .u64, .ro, 0, true, [(0, 0xFFFFFFFFFFFFFFFF)], 1, 4, .none⟩,
  ⟨"CP_TX_SENT", 0x4400, 0x40, 24, 0x16, .u64, .ro, 0, true, [(0, 0xFFFFFFFFFFFFFFFF)], 1, 4, .none⟩,
  ⟨"UP_TX_SENT", 0x4400, 0x40, 24, 0x17, .u64, .ro, 0, true, [(0, 0xFFFFFFFFFFFFFFFF)], 1, 4, .none⟩,
  ⟨"UP_TX_LATE", 0x4400, 0x40, 24, 0x18, .u64, .ro, 0, true, [(0, 0xFFFFFFFFFFFFFFFF)], 1, 4, .none⟩,
  ⟨"UP_RX_ON_TIME", 0x4400, 0x40, 24, 0x19, .u64, .ro, 0, true, [(0, 0xFFFFFFFFFFFFFFFF)], 1, 4, .none⟩,
  ⟨"UP_RX_EARLY", 0x4400, 0x40, 24, 0x1A, .u64, .ro, 0, true, [(0, 0xFFFFFFFFFFFFFFFF)], 1, 4, .none⟩,
  ⟨"UP_RX_LATE", 0x4400, 0x40, 24, 0x1B, .u64, .ro, 0, true, [(0, 0xFFFFFFFFFFFFFFFF)], 1, 4, .none⟩,
  ⟨"RX_SEQ_ERRORS", 0x4400, 0x40, 24, 0x1C, .u64, .ro, 0, true, [(0, 0xFFFFFFFFFFFFFFFF)], 1, 4, .none⟩,
  ⟨"RX_UNKNOWN_EAXC", 0x4400, 0x40, 24, 0x1D, .u64, .ro, 0, true, [(0, 0xFFFFFFFFFFFFFFFF)], 1, 4, .none⟩,
  ⟨"RX_MALFORMED", 0x4400, 0x40, 24, 0x1E, .u64, .ro, 0, true, [(0, 0xFFFFFFFFFFFFFFFF)], 1, 4, .none⟩]

/-- Rows 2 of the objects of 0x4400 to 0x49FF. -/
def rowsPort2 : List ObjRow := [
  ⟨"FWD_FRAMES", 0x4400, 0x40, 24, 0x1F, .u64, .ro, 0, true, [(0, 0xFFFFFFFFFFFFFFFF)], 1, 4, .none⟩,
  ⟨"FWD_DROPPED", 0x4400, 0x40, 24, 0x20, .u64, .ro, 0, true, [(0, 0xFFFFFFFFFFFFFFFF)], 1, 4, .none⟩,
  ⟨"LINK_DOWNS", 0x4400, 0x40, 24, 0x21, .u32, .ro, 0, true, [(0, 0xFFFFFFFF)], 1, 4, .none⟩,
  ⟨"FAILOVERS", 0x4400, 0x40, 24, 0x22, .u32, .ro, 0, true, [(0, 0xFFFFFFFF)], 1, 4, .none⟩]

/-- The objects of 0x4400 to 0x49FF. -/
def rowsPort : List ObjRow :=
  rowsPort1 ++ rowsPort2

/-- The objects of 0x4A00 to 0x4FFF. -/
def rowsFronthaul : List ObjRow := [
  ⟨"FWD_RULES", 0x4A00, 0x1, 1, 0x01, .blob, .rw, 0, true, [(0, 1536)], 1, 0, .none⟩,
  ⟨"OWD_PORT", 0x4A10, 0x1, 1, 0x01, .u8, .rw, 0, true, [(0, 23)], 1, 0, .none⟩,
  ⟨"OWD_DEST", 0x4A10, 0x1, 1, 0x02, .blob, .rw, 6, true, [(6, 6)], 1, 0, .none⟩,
  ⟨"OWD_START", 0x4A10, 0x1, 1, 0x03, .enum8, .wo, 0, false, [(1, 2)], 1, 0, .none⟩,
  ⟨"OWD_RESULT", 0x4A10, 0x1, 1, 0x04, .blob, .ro, 16, false, [(16, 16)], 1, 4, .none⟩,
  ⟨"OWD_RESPONDER", 0x4A10, 0x1, 1, 0x05, .u8, .rw, 1, true, [(0, 1)], 1, 0, .none⟩,
  ⟨"RESET_PORT", 0x4A20, 0x1, 1, 0x01, .u8, .rw, 0, true, [(0, 23)], 1, 0, .none⟩,
  ⟨"RESET_DEST", 0x4A20, 0x1, 1, 0x02, .blob, .rw, 6, true, [(6, 6)], 1, 0, .none⟩,
  ⟨"RESET_SEND", 0x4A20, 0x1, 1, 0x03, .u8, .wo, 0, false, [(1, 1)], 1, 0, .none⟩,
  ⟨"RESET_STATUS", 0x4A20, 0x1, 1, 0x04, .enum8, .ro, 0, false, [(0, 3)], 1, 4, .none⟩,
  ⟨"EAXC_BASE", 0x4C00, 0x1, 64, 0x01, .u16, .rwe, 0, true, [(0, 65535)], 1, 0, .at 0x300001 0x2000⟩,
  ⟨"PRACH_EAXC_OFFSET", 0x4C00, 0x1, 64, 0x02, .u16, .rwe, 64, true, [(0, 65535)], 1, 0, .at 0x300001 0x2000⟩,
  ⟨"RU_MAC", 0x4C00, 0x1, 64, 0x03, .blob, .rwe, 6, true, [(6, 6)], 1, 0, .at 0x300001 0x2000⟩,
  ⟨"RU_MAC_ALT", 0x4C00, 0x1, 64, 0x04, .blob, .rwe, 6, true, [(6, 6)], 1, 0, .at 0x300001 0x2000⟩,
  ⟨"COMP_METHOD", 0x4C00, 0x1, 64, 0x05, .enum8, .rwe, 1, true, [(0, 1), (4, 4)], 1, 0, .at 0x300001 0x2000⟩,
  ⟨"COMP_WIDTH_DL", 0x4C00, 0x1, 64, 0x06, .u8, .rwe, 9, true, [(8, 16)], 1, 0, .at 0x300001 0x2000⟩,
  ⟨"COMP_WIDTH_UL", 0x4C00, 0x1, 64, 0x07, .u8, .rwe, 9, true, [(8, 16)], 1, 0, .at 0x300001 0x2000⟩,
  ⟨"CP_ADV_DL", 0x4C00, 0x1, 64, 0x08, .u32, .rwe, 15000, true, [(0, 0xFFFFFFFF)], 1, 0, .at 0x300001 0x2000⟩,
  ⟨"UL_WIN_OPEN", 0x4C00, 0x1, 64, 0x09, .i32, .rwe, 20000, true, [((-2147483648), 0x7FFFFFFF)], 1, 0, .at 0x300001 0x2000⟩,
  ⟨"UL_WIN_CLOSE", 0x4C00, 0x1, 64, 0x0A, .u32, .rwe, 0x249F0, true, [(0, 0xFFFFFFFF)], 1, 0, .at 0x300001 0x2000⟩,
  ⟨"BEAM_ID_MODE", 0x4C00, 0x1, 64, 0x0B, .enum8, .rwe, 0, true, [(0, 1)], 1, 0, .at 0x300001 0x2000⟩,
  ⟨"TD_SAMPLES_PER_MSG", 0x4C00, 0x1, 64, 0x0C, .u16, .rwe, 1024, true, [(64, 2048)], 16, 0, .at 0x300001 0x2000⟩,
  ⟨"ACTIVE_PORT", 0x4C00, 0x1, 64, 0x0D, .u8, .ro, 255, false, [(0, 255)], 1, 4, .none⟩,
  ⟨"FH_LOAD_DL", 0x4C00, 0x1, 64, 0x0E, .u32, .ro, 0, true, [(0, 0xFFFFFFFF)], 1, 4, .none⟩,
  ⟨"FH_LOAD_UL", 0x4C00, 0x1, 64, 0x0F, .u32, .ro, 0, true, [(0, 0xFFFFFFFF)], 1, 4, .none⟩]

/-- Rows 1 of the objects of 0x5000 to 0x57FF. -/
def rowsDfe1 : List ObjRow := [
  ⟨"DFE_GANG", 0x5000, 0x1, 128, 0x01, .enum8, .rwe, 1, true, [(1, 2), (4, 4)], 1, 0, .compound⟩,
  ⟨"DFE_WIRE_KSPS", 0x5000, 0x1, 128, 0x02, .u32, .rwe, 0x1E000, true, [(0, 0x78000)], 1, 0, .compound⟩,
  ⟨"DFE_MIX_HZ", 0x5000, 0x1, 128, 0x03, .i32, .rwe, 0, true, [((-2147483648), 0x7FFFFFFF)], 1, 0, .compound⟩,
  ⟨"CIC_R", 0x5000, 0x1, 128, 0x04, .u8, .rwe, 1, true, [(1, 16)], 1, 0, .compound⟩,
  ⟨"HB_STAGES", 0x5000, 0x1, 128, 0x05, .u8, .rwe, 0, true, [(0, 3)], 1, 0, .compound⟩,
  ⟨"RS_NUM", 0x5000, 0x1, 128, 0x06, .u16, .rwe, 1, true, [(1, 1024)], 1, 0, .compound⟩,
  ⟨"RS_DEN", 0x5000, 0x1, 128, 0x07, .u16, .rwe, 1, true, [(1, 1024)], 1, 0, .compound⟩,
  ⟨"RANK_WINDOW", 0x5000, 0x1, 128, 0x08, .enum8, .rwe, 0, true, [(0, 0), (7, 7), (15, 15), (31, 31)], 1, 0, .compound⟩,
  ⟨"RANK_ORDER", 0x5000, 0x1, 128, 0x09, .u8, .rwe, 4, true, [(1, 31)], 1, 0, .compound⟩,
  ⟨"RANK_FACTOR", 0x5000, 0x1, 128, 0x0A, .u8, .rwe, 64, true, [(16, 255)], 1, 0, .compound⟩,
  ⟨"RANK_FLOOR", 0x5000, 0x1, 128, 0x0B, .u16, .rwe, 1024, true, [(0, 65535)], 1, 0, .compound⟩,
  ⟨"RANK_GUARD", 0x5000, 0x1, 128, 0x0C, .u8, .rwe, 2, true, [(0, 8)], 1, 0, .compound⟩,
  ⟨"DFE_SYNC_RESET", 0x5000, 0x1, 128, 0x0D, .enum8, .rwe, 0, true, [(0, 2)], 1, 4, .compound⟩,
  ⟨"GD_ADJ", 0x5000, 0x1, 128, 0x0E, .i32, .rwe, 0, true, [((-2147483648), 0x7FFFFFFF)], 1, 0, .compound⟩,
  ⟨"DFE_USER", 0x5000, 0x1, 128, 0x0F, .u8, .ro, 255, true, [(0, 255)], 1, 4, .none⟩,
  ⟨"GD_RX", 0x5000, 0x1, 128, 0x10, .u32, .ro, 0, false, [(0, 0xFFFFFFFF)], 1, 4, .none⟩,
  ⟨"GD_TX", 0x5000, 0x1, 128, 0x11, .u32, .ro, 0, false, [(0, 0xFFFFFFFF)], 1, 4, .none⟩,
  ⟨"RX_TAPS", 0x5080, 0x1, 128, 0x01, .blob, .rw, 0, true, [(0, 512)], 1, 0, .none⟩,
  ⟨"TX_TAPS", 0x5080, 0x1, 128, 0x02, .blob, .rw, 0, true, [(0, 512)], 1, 0, .none⟩,
  ⟨"RX_COMMIT", 0x5080, 0x1, 128, 0x03, .u8, .wo, 0, false, [(1, 1)], 1, 0, .none⟩,
  ⟨"TX_COMMIT", 0x5080, 0x1, 128, 0x04, .u8, .wo, 0, false, [(1, 1)], 1, 0, .none⟩,
  ⟨"COEF_BANKS", 0x5080, 0x1, 128, 0x05, .blob, .ro, 0, false, [(8, 8)], 1, 4, .none⟩,
  ⟨"COEF_SWAP_PERIOD", 0x5080, 0x1, 128, 0x06, .u16, .rw, 1, true, [(1, 1024)], 1, 0, .none⟩,
  ⟨"XFADE_SAMPLES", 0x5080, 0x1, 128, 0x07, .u16, .rw, 256, true, [(16, 4096)], 1, 0, .none⟩,
  ⟨"THR_MODE", 0x5080, 0x1, 128, 0x08, .enum8, .rw, 0, true, [(0, 2)], 1, 0, .none⟩,
  ⟨"THR_BLOCK", 0x5080, 0x1, 128, 0x09, .u32, .rw, 4096, true, [(64, 0x10000)], 1, 0, .none⟩,
  ⟨"THR_HIGH", 0x5080, 0x1, 128, 0x0A, .i16, .rw, (-300), true, [((-32768), 32767)], 1, 0, .none⟩,
  ⟨"THR_LOW", 0x5080, 0x1, 128, 0x0B, .i16, .rw, (-360), true, [((-32768), 32767)], 1, 0, .none⟩,
  ⟨"THR_HOLDOFF", 0x5080, 0x1, 128, 0x0C, .u16, .rw, 100, true, [(0, 10000)], 1, 0, .none⟩,
  ⟨"THR_POWER", 0x5080, 0x1, 128, 0x0D, .i16, .ro, 0, false, [((-32768), 32767)], 1, 4, .none⟩]

/-- Rows 2 of the objects of 0x5000 to 0x57FF. -/
def rowsDfe2 : List ObjRow := [
  ⟨"THR_EVENTS", 0x5080, 0x1, 128, 0x0E, .u32, .ro, 0, true, [(0, 0xFFFFFFFF)], 1, 4, .none⟩,
  ⟨"RANK_BLANKED", 0x5080, 0x1, 128, 0x0F, .u64, .ro, 0, true, [(0, 0xFFFFFFFFFFFFFFFF)], 1, 4, .none⟩,
  ⟨"DFE_SATURATED", 0x5080, 0x1, 128, 0x10, .u64, .ro, 0, true, [(0, 0xFFFFFFFFFFFFFFFF)], 1, 4, .none⟩,
  ⟨"FLUSH_SAMPLES", 0x5080, 0x1, 128, 0x11, .u64, .ro, 0, true, [(0, 0xFFFFFFFFFFFFFFFF)], 1, 4, .none⟩,
  ⟨"COEF_CRC_ERRORS", 0x5080, 0x1, 128, 0x12, .u32, .ro, 0, true, [(0, 0xFFFFFFFF)], 1, 4, .none⟩,
  ⟨"STALE_COUNT", 0x5080, 0x1, 128, 0x13, .u32, .ro, 0, true, [(0, 0xFFFFFFFF)], 1, 4, .none⟩,
  ⟨"DFE_RESET_ALL", 0x5300, 0x1, 1, 0x01, .u8, .wo, 0, false, [(1, 1)], 1, 0, .none⟩,
  ⟨"RESET_AT", 0x5300, 0x1, 1, 0x02, .ats, .ro, 0, true, [(0, 0xFFFFFFFFFFFFFFFF)], 1, 4, .none⟩,
  ⟨"NL_SRC_PORT", 0x5300, 0x1, 1, 0x03, .u8, .rwe, 255, true, [(0, 23), (255, 255)], 1, 0, .at 0x240001 0x0⟩,
  ⟨"NL_SRC_EAXC", 0x5300, 0x1, 1, 0x04, .u16, .rwe, 0, true, [(0, 65535)], 1, 0, .at 0x240001 0x0⟩,
  ⟨"SYNC_RESETS", 0x5300, 0x1, 1, 0x05, .u32, .ro, 0, true, [(0, 0xFFFFFFFF)], 1, 4, .none⟩,
  ⟨"COMMAND_RESETS", 0x5300, 0x1, 1, 0x06, .u32, .ro, 0, true, [(0, 0xFFFFFFFF)], 1, 4, .none⟩,
  ⟨"TXW_PERIOD", 0x5400, 0x1, 64, 0x01, .u16, .rwe, 20, true, [(1, 2560)], 1, 0, .at 0x300001 0x2000⟩,
  ⟨"TXW_MAP", 0x5400, 0x1, 64, 0x02, .blob, .rwe, 0, true, [(0, 5120)], 1, 0, .at 0x300001 0x2000⟩,
  ⟨"RAMP_UP_NS", 0x5400, 0x1, 64, 0x03, .u16, .rwe, 1000, true, [(0, 65535)], 1, 0, .at 0x300001 0x2000⟩,
  ⟨"RAMP_DN_NS", 0x5400, 0x1, 64, 0x04, .u16, .rwe, 1000, true, [(0, 65535)], 1, 0, .at 0x300001 0x2000⟩,
  ⟨"TXW_OPEN", 0x5400, 0x1, 64, 0x05, .u8, .ro, 0, true, [(0, 1)], 1, 4, .none⟩,
  ⟨"WINDOWS_CLOSED", 0x5400, 0x1, 64, 0x06, .u32, .ro, 0, true, [(0, 0xFFFFFFFF)], 1, 4, .none⟩,
  ⟨"SYMBOLS_OUTSIDE", 0x5400, 0x1, 64, 0x07, .u32, .ro, 0, true, [(0, 0xFFFFFFFF)], 1, 4, .none⟩,
  ⟨"TXG_CARRIER", 0x5500, 0x1, 16, 0x01, .u8, .rwe, 255, true, [(0, 63), (255, 255)], 1, 0, .compound⟩,
  ⟨"TXG_OFFSET", 0x5500, 0x1, 16, 0x02, .i32, .rwe, 0, true, [((-2147483648), 0x7FFFFFFF)], 1, 0, .compound⟩,
  ⟨"TXG_LEAD", 0x5500, 0x1, 16, 0x03, .u32, .rwe, 2000, true, [(0, 0xFFFFFFFF)], 1, 0, .compound⟩,
  ⟨"TXG_LAG", 0x5500, 0x1, 16, 0x04, .u32, .rwe, 1000, true, [(0, 0xFFFFFFFF)], 1, 0, .compound⟩,
  ⟨"TXG_POLARITY", 0x5500, 0x1, 16, 0x05, .enum8, .rwe, 0, true, [(0, 1)], 1, 0, .compound⟩,
  ⟨"TXG_LEVEL", 0x5500, 0x1, 16, 0x06, .u8, .ro, 0, false, [(0, 1)], 1, 4, .none⟩,
  ⟨"TXG_EDGES", 0x5500, 0x1, 16, 0x07, .u32, .ro, 0, true, [(0, 0xFFFFFFFF)], 1, 4, .none⟩]

/-- The objects of 0x5000 to 0x57FF. -/
def rowsDfe : List ObjRow :=
  rowsDfe1 ++ rowsDfe2

/-- The objects of 0x5800 to 0x5FFF. -/
def rowsTile : List ObjRow := [
  ⟨"TILE_STATE", 0x5800, 0x1, 200, 0x01, .enum8, .ro, 1, false, [(0, 5)], 1, 4, .none⟩,
  ⟨"TILE_VL", 0x5800, 0x1, 200, 0x02, .u16, .rw, 2048, true, [(512, 512), (1024, 1024), (2048, 2048)], 1, 0, .none⟩,
  ⟨"TILE_VL_ACTIVE", 0x5800, 0x1, 200, 0x03, .u16, .ro, 2048, false, [(0, 65535)], 1, 4, .none⟩,
  ⟨"TASKS_ENDED", 0x5800, 0x1, 200, 0x04, .u64, .ro, 0, true, [(0, 0xFFFFFFFFFFFFFFFF)], 1, 4, .none⟩,
  ⟨"BUSY_CYCLES", 0x5800, 0x1, 200, 0x05, .u64, .ro, 0, true, [(0, 0xFFFFFFFFFFFFFFFF)], 1, 4, .none⟩,
  ⟨"K_EXCEPTIONS", 0x5800, 0x1, 200, 0x06, .u32, .ro, 0, true, [(0, 0xFFFFFFFF)], 1, 4, .none⟩,
  ⟨"TASK_FAULTS", 0x5800, 0x1, 200, 0x07, .u32, .ro, 0, true, [(0, 0xFFFFFFFF)], 1, 4, .none⟩,
  ⟨"TASK_CANCELS", 0x5800, 0x1, 200, 0x08, .u32, .ro, 0, true, [(0, 0xFFFFFFFF)], 1, 4, .none⟩,
  ⟨"LAST_EXCEPTION", 0x5800, 0x1, 200, 0x09, .blob, .ro, 0, false, [(0, 24)], 1, 4, .none⟩,
  ⟨"BOND_MODE", 0x5900, 0x1, 100, 0x01, .enum8, .rw, 0, true, [(0, 2)], 1, 0, .none⟩,
  ⟨"BOND_STATE", 0x5900, 0x1, 100, 0x02, .enum8, .ro, 0, false, [(0, 3)], 1, 4, .none⟩,
  ⟨"PAIR_ROLE", 0x5900, 0x1, 100, 0x03, .enum8, .ro, 0, false, [(0, 2)], 1, 12, .none⟩,
  ⟨"SERVES_FOR", 0x5900, 0x1, 100, 0x04, .u8, .ro, 255, true, [(0, 255)], 1, 4, .none⟩,
  ⟨"BOND_MISMATCHES", 0x5900, 0x1, 100, 0x05, .u32, .ro, 0, true, [(0, 0xFFFFFFFF)], 1, 4, .none⟩,
  ⟨"BOND_CHANGES", 0x5900, 0x1, 100, 0x06, .u32, .ro, 0, true, [(0, 0xFFFFFFFF)], 1, 4, .none⟩,
  ⟨"PAIR_SERVICE_MAP", 0x5A00, 0x1, 1, 0x01, .blob, .ro, 0, false, [(13, 13)], 1, 12, .none⟩,
  ⟨"PAIR_SPARE_MAP", 0x5A00, 0x1, 1, 0x02, .blob, .ro, 0, false, [(13, 13)], 1, 12, .none⟩,
  ⟨"HEADER_PAIRS", 0x5A00, 0x1, 1, 0x03, .u8, .ro, 2, true, [(0, 255)], 1, 4, .none⟩,
  ⟨"STRETCHER_PAIRS", 0x5A00, 0x1, 1, 0x04, .u8, .ro, 0, true, [(0, 255)], 1, 4, .none⟩,
  ⟨"HEADER_MIN", 0x5A00, 0x1, 1, 0x05, .u8, .const, 2, true, [(0, 255)], 1, 0, .none⟩,
  ⟨"TILE_FAULTS", 0x5A00, 0x1, 1, 0x06, .u32, .ro, 0, true, [(0, 0xFFFFFFFF)], 1, 4, .none⟩,
  ⟨"SAT_TASKS", 0x5A00, 0x1, 1, 0x07, .u64, .ro, 0, true, [(0, 0xFFFFFFFFFFFFFFFF)], 1, 4, .none⟩,
  ⟨"FUSED_EN_S", 0x5A10, 0x1, 1, 0x01, .bits32, .rw, 15, true, [(0, 15)], 1, 0, .none⟩,
  ⟨"FUSED_EN_K", 0x5A10, 0x1, 1, 0x02, .bits32, .rw, 15, true, [(0, 15)], 1, 0, .none⟩,
  ⟨"FUSED_ISSUED", 0x5A10, 0x1, 1, 0x03, .u64, .ro, 0, true, [(0, 0xFFFFFFFFFFFFFFFF)], 1, 4, .none⟩,
  ⟨"FUSED_PUBLISHED", 0x5A10, 0x1, 1, 0x04, .u64, .ro, 0, true, [(0, 0xFFFFFFFFFFFFFFFF)], 1, 4, .none⟩,
  ⟨"FUSED_SQUASHED", 0x5A10, 0x1, 1, 0x05, .u64, .ro, 0, true, [(0, 0xFFFFFFFFFFFFFFFF)], 1, 4, .none⟩,
  ⟨"FUSED_CANCELLED", 0x5A10, 0x1, 1, 0x06, .u64, .ro, 0, true, [(0, 0xFFFFFFFFFFFFFFFF)], 1, 4, .none⟩,
  ⟨"FUSED_REFUSED", 0x5A10, 0x1, 1, 0x07, .u32, .ro, 0, true, [(0, 0xFFFFFFFF)], 1, 4, .none⟩,
  ⟨"FUSED_LAST_REFUSAL", 0x5A10, 0x1, 1, 0x08, .u8, .ro, 0, true, [(0, 255)], 1, 4, .none⟩]

/-- Rows 1 of the objects of 0x6000 to 0x63FF. -/
def rowsScheduler1 : List ObjRow := [
  ⟨"URGENT_LEAD", 0x6000, 0x1, 1, 0x01, .u32, .rw, 20000, true, [(1000, 0x7A120)], 1, 0, .none⟩,
  ⟨"AFFINITY_DEPTH", 0x6000, 0x1, 1, 0x02, .u8, .rw, 8, true, [(1, 32)], 1, 0, .none⟩,
  ⟨"SCAN_DEPTH", 0x6000, 0x1, 1, 0x03, .u8, .rw, 32, true, [(4, 64)], 1, 0, .none⟩,
  ⟨"COMMON_LIMIT", 0x6000, 0x1, 1, 0x04, .u16, .rw, 128, true, [(0, 65535)], 1, 0, .none⟩,
  ⟨"COMMON_FREE", 0x6000, 0x1, 1, 0x05, .u16, .ro, 0, false, [(0, 65535)], 1, 4, .none⟩,
  ⟨"DEVICE_PALLETS", 0x6000, 0x1, 1, 0x06, .u16, .const, 64, true, [(0, 65535)], 1, 0, .none⟩,
  ⟨"PREFETCH_ENABLE", 0x6000, 0x1, 1, 0x07, .u8, .rw, 1, true, [(0, 1)], 1, 0, .none⟩,
  ⟨"PREFETCH_WAIT", 0x6000, 0x1, 1, 0x08, .u32, .rw, 2000, true, [(0, 20000)], 1, 0, .none⟩,
  ⟨"PART_ENABLE", 0x6010, 0x1, 8, 0x01, .u8, .rw, 0, true, [(0, 1)], 1, 5, .none⟩,
  ⟨"PART_VL", 0x6010, 0x1, 8, 0x02, .u16, .rwe, 2048, true, [(512, 512), (1024, 1024), (2048, 2048), (4096, 4096)], 1, 0, .at 0x601001 0x100⟩,
  ⟨"PART_BOND", 0x6010, 0x1, 8, 0x03, .enum8, .rwe, 0, true, [(0, 2)], 1, 0, .at 0x601001 0x100⟩,
  ⟨"PART_CLAIM", 0x6010, 0x1, 8, 0x04, .u16, .rwe, 0, true, [(0, 65535)], 1, 0, .at 0x601001 0x100⟩,
  ⟨"PART_SLOTS", 0x6010, 0x1, 8, 0x05, .u16, .ro, 0, false, [(0, 65535)], 1, 4, .none⟩,
  ⟨"PART_POLICY", 0x6010, 0x1, 8, 0x06, .enum8, .ro, 0, false, [(0, 1)], 1, 4, .none⟩,
  ⟨"PART_READY", 0x6010, 0x1, 8, 0x07, .u16, .ro, 0, false, [(0, 65535)], 1, 4, .none⟩,
  ⟨"PART_WAIT_NS", 0x6010, 0x1, 8, 0x08, .u32, .ro, 0, false, [(0, 0xFFFFFFFF)], 1, 4, .none⟩,
  ⟨"CLASS_UNITS", 0x6021, 0x1, 5, 0x01, .u16, .ro, 0, false, [(0, 65535)], 1, 4, .none⟩,
  ⟨"CLASS_READY", 0x6021, 0x1, 5, 0x02, .u16, .ro, 0, false, [(0, 65535)], 1, 4, .none⟩,
  ⟨"CLASS_WAIT_NS", 0x6021, 0x1, 5, 0x03, .u32, .ro, 0, false, [(0, 0xFFFFFFFF)], 1, 4, .none⟩,
  ⟨"DISPATCHES", 0x6030, 0x1, 1, 0x01, .u64, .ro, 0, true, [(0, 0xFFFFFFFFFFFFFFFF)], 1, 4, .none⟩,
  ⟨"RESERVE_FAILS", 0x6030, 0x1, 1, 0x02, .u64, .ro, 0, true, [(0, 0xFFFFFFFFFFFFFFFF)], 1, 4, .none⟩,
  ⟨"P0_HOLDS", 0x6030, 0x1, 1, 0x03, .u32, .ro, 0, true, [(0, 0xFFFFFFFF)], 1, 4, .none⟩,
  ⟨"PROMOTIONS", 0x6030, 0x1, 1, 0x04, .u64, .ro, 0, true, [(0, 0xFFFFFFFFFFFFFFFF)], 1, 4, .none⟩,
  ⟨"EXPIRED_AT_LS", 0x6030, 0x1, 1, 0x05, .u64, .ro, 0, true, [(0, 0xFFFFFFFFFFFFFFFF)], 1, 4, .none⟩,
  ⟨"CANCELLED_AT_LF", 0x6030, 0x1, 1, 0x06, .u64, .ro, 0, true, [(0, 0xFFFFFFFFFFFFFFFF)], 1, 4, .none⟩,
  ⟨"RERUNS", 0x6030, 0x1, 1, 0x07, .u32, .ro, 0, true, [(0, 0xFFFFFFFF)], 1, 4, .none⟩,
  ⟨"PREFETCH_COPIES", 0x6030, 0x1, 1, 0x08, .u64, .ro, 0, true, [(0, 0xFFFFFFFFFFFFFFFF)], 1, 4, .none⟩,
  ⟨"PREFETCH_ABANDONED", 0x6030, 0x1, 1, 0x09, .u64, .ro, 0, true, [(0, 0xFFFFFFFFFFFFFFFF)], 1, 4, .none⟩,
  ⟨"RESTARTS", 0x6030, 0x1, 1, 0x0A, .u64, .ro, 0, true, [(0, 0xFFFFFFFFFFFFFFFF)], 1, 4, .none⟩,
  ⟨"QUOTA_USED", 0x6040, 0x1, 64, 0x01, .u16, .ro, 0, true, [(0, 65535)], 1, 4, .none⟩]

/-- Rows 2 of the objects of 0x6000 to 0x63FF. -/
def rowsScheduler2 : List ObjRow := [
  ⟨"COMMON_USED", 0x6040, 0x1, 64, 0x02, .u16, .ro, 0, true, [(0, 65535)], 1, 4, .none⟩,
  ⟨"OPS_LIVE", 0x6040, 0x1, 64, 0x03, .u32, .ro, 0, true, [(0, 0xFFFFFFFF)], 1, 4, .none⟩]

/-- The objects of 0x6000 to 0x63FF. -/
def rowsScheduler : List ObjRow :=
  rowsScheduler1 ++ rowsScheduler2

/-- Rows 1 of the objects of 0x6400 to 0x67FF. -/
def rowsFabric1 : List ObjRow := [
  ⟨"ADAPT_SLACK", 0x6400, 0x1, 1, 0x01, .u8, .rw, 2, true, [(0, 4)], 1, 0, .none⟩,
  ⟨"FABRIC_STATE", 0x6400, 0x1, 1, 0x02, .enum8, .ro, 0, false, [(0, 1)], 1, 4, .none⟩,
  ⟨"RING_RESTORE_HOLD", 0x6400, 0x1, 1, 0x03, .u32, .rw, 1000, true, [(10, 60000)], 1, 0, .none⟩,
  ⟨"REVERSE_HOLD", 0x6400, 0x1, 1, 0x04, .u32, .const, 1000, true, [(0, 0xFFFFFFFF)], 1, 0, .none⟩,
  ⟨"JOINT_PATHS_DOWN", 0x6400, 0x1, 1, 0x05, .u16, .ro, 0, true, [(0, 65535)], 1, 4, .none⟩,
  ⟨"RING_STATE", 0x6410, 0x1, 8, 0x01, .enum8, .ro, 0, false, [(0, 3)], 1, 4, .none⟩,
  ⟨"FAULT_STOP", 0x6410, 0x1, 8, 0x02, .u8, .ro, 255, true, [(0, 255)], 1, 4, .none⟩,
  ⟨"RING_REVERSALS", 0x6410, 0x1, 8, 0x03, .u32, .ro, 0, true, [(0, 0xFFFFFFFF)], 1, 4, .none⟩,
  ⟨"LINK_REPLAYS", 0x6410, 0x1, 8, 0x04, .u64, .ro, 0, true, [(0, 0xFFFFFFFFFFFFFFFF)], 1, 4, .none⟩,
  ⟨"FLITS_DISCARDED", 0x6410, 0x1, 8, 0x05, .u64, .ro, 0, true, [(0, 0xFFFFFFFFFFFFFFFF)], 1, 4, .none⟩,
  ⟨"REQUESTS_RESENT", 0x6410, 0x1, 8, 0x06, .u64, .ro, 0, true, [(0, 0xFFFFFFFFFFFFFFFF)], 1, 4, .none⟩,
  ⟨"RING_LOAD_CW", 0x6410, 0x1, 8, 0x07, .u16, .ro, 0, false, [(0, 65535)], 1, 4, .none⟩,
  ⟨"RING_LOAD_ACW", 0x6410, 0x1, 8, 0x08, .u16, .ro, 0, false, [(0, 65535)], 1, 4, .none⟩,
  ⟨"FLITS_DELIVERED", 0x6420, 0x1, 1, 0x01, .u64, .ro, 0, true, [(0, 0xFFFFFFFFFFFFFFFF)], 1, 4, .none⟩,
  ⟨"MEAN_HOP", 0x6420, 0x1, 1, 0x02, .u16, .ro, 0, false, [(0, 65535)], 1, 4, .none⟩,
  ⟨"LOAD_BALANCE", 0x6420, 0x1, 1, 0x03, .u16, .ro, 0, false, [(0, 65535)], 1, 4, .none⟩,
  ⟨"DELIVERED_GBPS", 0x6420, 0x1, 1, 0x04, .u32, .ro, 0, false, [(0, 0xFFFFFFFF)], 1, 4, .none⟩,
  ⟨"TIMEOUTS", 0x6420, 0x1, 1, 0x05, .u32, .ro, 0, true, [(0, 0xFFFFFFFF)], 1, 4, .none⟩,
  ⟨"HEADER_CRC_ERRORS", 0x6420, 0x1, 1, 0x06, .u32, .ro, 0, true, [(0, 0xFFFFFFFF)], 1, 4, .none⟩,
  ⟨"DUPLICATES_DISCARDED", 0x6420, 0x1, 1, 0x07, .u32, .ro, 0, true, [(0, 0xFFFFFFFF)], 1, 4, .none⟩,
  ⟨"ARB_SELECT", 0x6430, 0x1, 1, 0x01, .u32, .rw, 0, true, [(0, 0xFFFF04)], 1, 0, .none⟩,
  ⟨"ARB_TABLE", 0x6430, 0x1, 1, 0x02, .blob, .rw, 0, true, [(68, 68)], 1, 0, .none⟩,
  ⟨"ARB_COMMIT", 0x6430, 0x1, 1, 0x03, .u8, .wo, 0, false, [(1, 1)], 1, 0, .none⟩,
  ⟨"ARB_BANKS", 0x6430, 0x1, 1, 0x04, .blob, .ro, 0, false, [(24, 24)], 1, 4, .none⟩,
  ⟨"ARB_PHASE_OFFSET", 0x6430, 0x1, 1, 0x05, .u8, .rw, 0, true, [(0, 63)], 1, 0, .none⟩,
  ⟨"ARB_SWAP_PERIOD", 0x6430, 0x1, 1, 0x06, .u16, .rw, 1, true, [(1, 1024)], 1, 0, .none⟩,
  ⟨"GRANTS_LOST", 0x6430, 0x1, 1, 0x07, .u64, .ro, 0, true, [(0, 0xFFFFFFFFFFFFFFFF)], 1, 4, .none⟩,
  ⟨"STALE_ARB_COUNT", 0x6430, 0x1, 1, 0x08, .u32, .ro, 0, true, [(0, 0xFFFFFFFF)], 1, 4, .none⟩,
  ⟨"DOMAIN_ASLEEP_COUNT", 0x6440, 0x1, 1, 0x01, .u32, .ro, 0, true, [(0, 0xFFFFFFFF)], 1, 4, .none⟩,
  ⟨"ASLEEP_ANSWERS", 0x6440, 0x1, 1, 0x02, .u64, .ro, 0, true, [(0, 0xFFFFFFFFFFFFFFFF)], 1, 4, .none⟩]

/-- Rows 2 of the objects of 0x6400 to 0x67FF. -/
def rowsFabric2 : List ObjRow := [
  ⟨"BRIDGE_STATE", 0x6440, 0x1, 1, 0x03, .blob, .ro, 0, false, [(32, 32)], 1, 4, .none⟩]

/-- The objects of 0x6400 to 0x67FF. -/
def rowsFabric : List ObjRow :=
  rowsFabric1 ++ rowsFabric2

/-- Rows 1 of the objects of 0x6800 to 0x6BFF. -/
def rowsMemory1 : List ObjRow := [
  ⟨"ECC_ENABLE", 0x6800, 0x1, 1, 0x01, .u8, .rw, 1, true, [(0, 1)], 1, 0, .none⟩,
  ⟨"ECC_ACTIVE", 0x6800, 0x1, 1, 0x02, .u8, .ro, 0, false, [(0, 255)], 1, 0, .none⟩,
  ⟨"GDDR7_GBPS", 0x6800, 0x1, 1, 0x03, .u8, .rw, 32, true, [(20, 32)], 1, 0, .none⟩,
  ⟨"JOURNAL_CHAN_A", 0x6800, 0x1, 1, 0x04, .u8, .rw, 0, true, [(0, 255)], 1, 0, .none⟩,
  ⟨"JOURNAL_CHAN_B", 0x6800, 0x1, 1, 0x05, .u8, .rw, 8, true, [(0, 255)], 1, 0, .none⟩,
  ⟨"JOURNAL_STANDBY", 0x6800, 0x1, 1, 0x06, .u8, .rw, 4, true, [(0, 255)], 1, 0, .none⟩,
  ⟨"STAGING_PALLETS", 0x6800, 0x1, 1, 0x07, .u32, .rwe, 8192, true, [(0, 0x10000)], 1, 0, .compound⟩,
  ⟨"TB_STORE_PALLETS", 0x6800, 0x1, 1, 0x08, .u32, .rwe, 16384, true, [(1024, 0x10000)], 1, 0, .compound⟩,
  ⟨"DATA_PALLETS", 0x6800, 0x1, 1, 0x09, .u32, .ro, 0, false, [(0, 0xFFFFFFFF)], 1, 4, .none⟩,
  ⟨"CHANNEL_MAP", 0x6800, 0x1, 1, 0x0A, .bits32, .ro, 0, false, [(0, 65535)], 1, 4, .none⟩,
  ⟨"JOURNAL_REBUILD", 0x6800, 0x1, 1, 0x0B, .u8, .ro, 100, true, [(0, 255)], 1, 4, .none⟩,
  ⟨"MEM_REGIME", 0x6800, 0x1, 1, 0x0C, .enum8, .ro, 1, false, [(0, 3)], 1, 4, .none⟩,
  ⟨"CH_STATE", 0x6810, 0x1, 16, 0x01, .enum8, .ro, 0, false, [(0, 4)], 1, 4, .none⟩,
  ⟨"CH_DENSITY", 0x6810, 0x1, 16, 0x02, .u8, .ro, 0, false, [(0, 0), (32, 32), (64, 64)], 1, 0, .none⟩,
  ⟨"CH_PALLETS", 0x6810, 0x1, 16, 0x03, .u32, .ro, 0, false, [(0, 0xFFFFFFFF)], 1, 0, .none⟩,
  ⟨"CH_FREE", 0x6810, 0x1, 16, 0x04, .u32, .ro, 0, false, [(0, 0xFFFFFFFF)], 1, 4, .none⟩,
  ⟨"CH_CE", 0x6810, 0x1, 16, 0x05, .u64, .ro, 0, true, [(0, 0xFFFFFFFFFFFFFFFF)], 1, 4, .none⟩,
  ⟨"CH_UE", 0x6810, 0x1, 16, 0x06, .u64, .ro, 0, true, [(0, 0xFFFFFFFFFFFFFFFF)], 1, 4, .none⟩,
  ⟨"CH_EDC_RETRIES", 0x6810, 0x1, 16, 0x07, .u64, .ro, 0, true, [(0, 0xFFFFFFFFFFFFFFFF)], 1, 4, .none⟩,
  ⟨"CH_READ_BYTES", 0x6810, 0x1, 16, 0x08, .u64, .ro, 0, true, [(0, 0xFFFFFFFFFFFFFFFF)], 1, 4, .none⟩,
  ⟨"CH_WRITE_BYTES", 0x6810, 0x1, 16, 0x09, .u64, .ro, 0, true, [(0, 0xFFFFFFFFFFFFFFFF)], 1, 4, .none⟩,
  ⟨"CH_UTIL", 0x6810, 0x1, 16, 0x0A, .u16, .ro, 0, false, [(0, 65535)], 1, 4, .none⟩,
  ⟨"CH_TEMP", 0x6810, 0x1, 16, 0x0B, .i16, .ro, 0, false, [((-32768), 32767)], 1, 4, .none⟩,
  ⟨"CH_RETIRED", 0x6810, 0x1, 16, 0x0C, .u32, .ro, 0, true, [(0, 0xFFFFFFFF)], 1, 4, .none⟩,
  ⟨"MC_ARB_SELECT", 0x6830, 0x1, 1, 0x01, .u8, .rw, 0, true, [(0, 15), (255, 255)], 1, 0, .none⟩,
  ⟨"MC_ARB_TABLE", 0x6830, 0x1, 1, 0x02, .blob, .rw, 0, true, [(68, 68)], 1, 0, .none⟩,
  ⟨"MC_ARB_COMMIT", 0x6830, 0x1, 1, 0x03, .u8, .wo, 0, false, [(1, 1)], 1, 0, .none⟩,
  ⟨"MC_ARB_BANKS", 0x6830, 0x1, 1, 0x04, .blob, .ro, 0, false, [(24, 24)], 1, 4, .none⟩,
  ⟨"MC_ARB_PHASE_OFFSET", 0x6830, 0x1, 1, 0x05, .u8, .rw, 0, true, [(0, 63)], 1, 0, .none⟩,
  ⟨"MC_ARB_SWAP_PERIOD", 0x6830, 0x1, 1, 0x06, .u16, .rw, 1, true, [(1, 1024)], 1, 0, .none⟩]

/-- Rows 2 of the objects of 0x6800 to 0x6BFF. -/
def rowsMemory2 : List ObjRow := [
  ⟨"STALE_MC_COUNT", 0x6830, 0x1, 1, 0x07, .u32, .ro, 0, true, [(0, 0xFFFFFFFF)], 1, 4, .none⟩,
  ⟨"GDDR_SCRUB_H", 0x6840, 0x1, 1, 0x01, .u16, .rw, 24, true, [(1, 168)], 1, 0, .none⟩,
  ⟨"PS_SCRUB_MS", 0x6840, 0x1, 1, 0x02, .u16, .rw, 1000, true, [(100, 10000)], 1, 0, .none⟩,
  ⟨"TM_SCRUB_MS", 0x6840, 0x1, 1, 0x03, .u16, .rw, 10000, true, [(1000, 60000)], 1, 0, .none⟩,
  ⟨"GDDR_PASSES", 0x6840, 0x1, 1, 0x04, .u32, .ro, 0, true, [(0, 0xFFFFFFFF)], 1, 4, .none⟩,
  ⟨"BUCKET_LEAK_S", 0x6840, 0x1, 1, 0x05, .u32, .rw, 3600, true, [(60, 0x15180)], 1, 0, .none⟩,
  ⟨"LIMIT_PAGE", 0x6840, 0x1, 1, 0x06, .u16, .rw, 8, true, [(1, 1000)], 1, 0, .none⟩,
  ⟨"LIMIT_BANK", 0x6840, 0x1, 1, 0x07, .u16, .rw, 64, true, [(1, 10000)], 1, 0, .none⟩,
  ⟨"LIMIT_SLICE", 0x6840, 0x1, 1, 0x08, .u16, .rw, 64, true, [(1, 10000)], 1, 0, .none⟩,
  ⟨"LIMIT_TILE", 0x6840, 0x1, 1, 0x09, .u16, .rw, 16, true, [(1, 10000)], 1, 0, .none⟩,
  ⟨"CE_DEDUP_MS", 0x6840, 0x1, 1, 0x0A, .u16, .rw, 1000, true, [(0, 60000)], 1, 0, .none⟩,
  ⟨"REPEAT_LIMIT", 0x6840, 0x1, 1, 0x0B, .u8, .rw, 2, true, [(1, 16)], 1, 0, .none⟩,
  ⟨"BUCKET_EVICTIONS", 0x6840, 0x1, 1, 0x0C, .u32, .ro, 0, true, [(0, 0xFFFFFFFF)], 1, 4, .none⟩,
  ⟨"CE_OVERFLOW_COUNT", 0x6840, 0x1, 1, 0x0D, .u32, .ro, 0, true, [(0, 0xFFFFFFFF)], 1, 4, .none⟩,
  ⟨"RETIRE_ADVISED_COUNT", 0x6840, 0x1, 1, 0x0E, .u32, .ro, 0, true, [(0, 0xFFFFFFFF)], 1, 4, .none⟩,
  ⟨"CHANNEL_LOST_COUNT", 0x6840, 0x1, 1, 0x0F, .u32, .ro, 0, true, [(0, 0xFFFFFFFF)], 1, 4, .none⟩,
  ⟨"TM_CE", 0x6840, 0x1, 1, 0x10, .u64, .ro, 0, true, [(0, 0xFFFFFFFFFFFFFFFF)], 1, 4, .none⟩,
  ⟨"TM_UE", 0x6840, 0x1, 1, 0x11, .u32, .ro, 0, true, [(0, 0xFFFFFFFF)], 1, 4, .none⟩,
  ⟨"PS_CE", 0x6840, 0x1, 1, 0x12, .u64, .ro, 0, true, [(0, 0xFFFFFFFFFFFFFFFF)], 1, 4, .none⟩,
  ⟨"PS_UE", 0x6840, 0x1, 1, 0x13, .u32, .ro, 0, true, [(0, 0xFFFFFFFF)], 1, 4, .none⟩,
  ⟨"REGIME_CE", 0x6840, 0x1, 1, 0x14, .u64, .ro, 0, true, [(0, 0xFFFFFFFFFFFFFFFF)], 1, 4, .none⟩,
  ⟨"RETIRED_PAGES", 0x6860, 0x1, 1, 0x01, .blob, .rw, 0, true, [(0, 4096)], 1, 0, .none⟩,
  ⟨"RETIRED_BANKS", 0x6860, 0x1, 1, 0x02, .blob, .rwe, 32, true, [(32, 32)], 1, 0, .compound⟩,
  ⟨"RETIRE_PENDING", 0x6860, 0x1, 1, 0x03, .u32, .ro, 0, true, [(0, 0xFFFFFFFF)], 1, 4, .none⟩,
  ⟨"ERR_LOG_COUNT", 0x6860, 0x1, 1, 0x04, .u32, .ro, 0, true, [(0, 0xFFFFFFFF)], 1, 4, .none⟩,
  ⟨"ERR_LOG", 0x6860, 0x1, 1, 0x05, .blob, .ro, 0, false, [(0, 32)], 1, 6, .none⟩]

/-- The objects of 0x6800 to 0x6BFF. -/
def rowsMemory : List ObjRow :=
  rowsMemory1 ++ rowsMemory2

/-- The objects of 0x6C00 to 0x6FFF. -/
def rowsHod : List ObjRow := [
  ⟨"HOD_SERVICE", 0x6C00, 0x1, 1, 0x01, .bits32, .ro, 0xFFFFFF, true, [(0, 0xFFFFFF)], 1, 4, .none⟩,
  ⟨"HOD_HALTED_MAP", 0x6C00, 0x1, 1, 0x02, .bits32, .ro, 0, true, [(0, 0xFFFFFF)], 1, 4, .none⟩,
  ⟨"HOP_LIMIT", 0x6C00, 0x1, 1, 0x03, .u16, .rw, 1024, true, [(16, 65535)], 1, 0, .none⟩,
  ⟨"HALT_HOLD", 0x6C00, 0x1, 1, 0x04, .u32, .rw, 100, true, [(10, 10000)], 1, 0, .none⟩,
  ⟨"HALT_LIMIT", 0x6C00, 0x1, 1, 0x05, .u8, .rw, 3, true, [(1, 16)], 1, 0, .none⟩,
  ⟨"HOD_RELEASE", 0x6C00, 0x1, 1, 0x06, .u8, .wo, 0, false, [(0, 23)], 1, 0, .none⟩,
  ⟨"HOD_HALT_COUNT", 0x6C00, 0x1, 1, 0x07, .u32, .ro, 0, true, [(0, 0xFFFFFFFF)], 1, 4, .none⟩,
  ⟨"ENGINE_STATE", 0x6C10, 0x1, 24, 0x01, .enum8, .ro, 0, false, [(0, 3)], 1, 4, .none⟩,
  ⟨"CHANNEL_STATE", 0x6C10, 0x1, 24, 0x02, .blob, .ro, 0, false, [(16, 16)], 1, 4, .none⟩,
  ⟨"CHAINS_ENDED", 0x6C10, 0x1, 24, 0x03, .u64, .ro, 0, true, [(0, 0xFFFFFFFFFFFFFFFF)], 1, 4, .none⟩,
  ⟨"DESCRIPTORS", 0x6C10, 0x1, 24, 0x04, .u64, .ro, 0, true, [(0, 0xFFFFFFFFFFFFFFFF)], 1, 4, .none⟩,
  ⟨"BYTES_WRITTEN", 0x6C10, 0x1, 24, 0x05, .u64, .ro, 0, true, [(0, 0xFFFFFFFFFFFFFFFF)], 1, 4, .none⟩,
  ⟨"STOPS", 0x6C10, 0x1, 24, 0x06, .u32, .ro, 0, true, [(0, 0xFFFFFFFF)], 1, 4, .none⟩,
  ⟨"LOOP_ENDS", 0x6C10, 0x1, 24, 0x07, .u32, .ro, 0, true, [(0, 0xFFFFFFFF)], 1, 4, .none⟩,
  ⟨"BUS_ERRORS", 0x6C10, 0x1, 24, 0x08, .u32, .ro, 0, true, [(0, 0xFFFFFFFF)], 1, 4, .none⟩,
  ⟨"POISONED_LINES", 0x6C10, 0x1, 24, 0x09, .u64, .ro, 0, true, [(0, 0xFFFFFFFFFFFFFFFF)], 1, 4, .none⟩,
  ⟨"LAST_HALT", 0x6C10, 0x1, 24, 0x0A, .blob, .ro, 0, false, [(0, 16)], 1, 4, .none⟩,
  ⟨"DIAG_CHAIN", 0x6C40, 0x1, 1, 0x01, .u64, .rw, 0, true, [(0, 0xFFFFFFFFFFFFFFFF)], 1, 0, .none⟩,
  ⟨"DIAG_START", 0x6C40, 0x1, 1, 0x02, .u8, .wo, 0, false, [(1, 1)], 1, 0, .none⟩,
  ⟨"DIAG_STOP", 0x6C40, 0x1, 1, 0x03, .u8, .wo, 0, false, [(1, 1)], 1, 0, .none⟩,
  ⟨"DIAG_STATE", 0x6C40, 0x1, 1, 0x04, .enum8, .ro, 0, true, [(0, 1)], 1, 4, .none⟩,
  ⟨"DIAG_RESULT", 0x6C40, 0x1, 1, 0x05, .blob, .ro, 0, false, [(0, 16)], 1, 4, .none⟩]

/-- Rows 1 of the objects of 0x7000 to 0x77FF. -/
def rowsPower1 : List ObjRow := [
  ⟨"POWER_POLICY", 0x7000, 0x1, 1, 0x01, .enum8, .rw, 0, true, [(0, 1)], 1, 0, .none⟩,
  ⟨"TJ", 0x7000, 0x1, 1, 0x02, .i16, .ro, 0, false, [((-32768), 32767)], 1, 4, .none⟩,
  ⟨"TJ_HOST_CAP", 0x7000, 0x1, 1, 0x03, .i16, .rw, 1050, true, [((-32768), 32767)], 1, 0, .none⟩,
  ⟨"RAIL_TARGET_MV", 0x7000, 0x1, 1, 0x04, .u16, .ro, 0, false, [(0, 65535)], 1, 4, .none⟩,
  ⟨"V_RUN_MV", 0x7000, 0x1, 1, 0x05, .u16, .ro, 800, false, [(750, 850)], 1, 8, .none⟩,
  ⟨"V_LOW_MV", 0x7000, 0x1, 1, 0x06, .u16, .const, 700, true, [(0, 65535)], 1, 0, .none⟩,
  ⟨"AVS_SLEW", 0x7000, 0x1, 1, 0x07, .u16, .rw, 10, true, [(1, 20)], 1, 0, .none⟩,
  ⟨"AVS_TIMEOUT", 0x7000, 0x1, 1, 0x08, .u32, .rw, 100, true, [(20, 1000)], 1, 0, .none⟩,
  ⟨"AVS_FAULT_COUNT", 0x7000, 0x1, 1, 0x09, .u32, .ro, 0, true, [(0, 0xFFFFFFFF)], 1, 4, .none⟩,
  ⟨"RAIL_READINGS", 0x7000, 0x1, 1, 0x0A, .blob, .ro, 0, false, [(24, 24)], 1, 4, .none⟩,
  ⟨"POWER_MW", 0x7000, 0x1, 1, 0x0B, .u32, .ro, 0, false, [(0, 0xFFFFFFFF)], 1, 4, .none⟩,
  ⟨"DOMAIN_STATE", 0x7010, 0x1, 32, 0x01, .enum8, .ro, 0, false, [(0, 5)], 1, 4, .none⟩,
  ⟨"HOST_VOTE", 0x7010, 0x1, 32, 0x02, .enum8, .rw, 0, true, [(0, 4)], 1, 0, .none⟩,
  ⟨"VOTES", 0x7010, 0x1, 32, 0x03, .blob, .ro, 0, false, [(5, 5)], 1, 4, .none⟩,
  ⟨"TARGET", 0x7010, 0x1, 32, 0x04, .enum8, .ro, 0, false, [(0, 3)], 1, 4, .none⟩,
  ⟨"PENDING", 0x7010, 0x1, 32, 0x05, .enum8, .ro, 255, true, [(0, 3), (255, 255)], 1, 4, .none⟩,
  ⟨"TRANSITIONS", 0x7010, 0x1, 32, 0x06, .u32, .ro, 0, true, [(0, 0xFFFFFFFF)], 1, 4, .none⟩,
  ⟨"LAST_TRANSITION_NS", 0x7010, 0x1, 32, 0x07, .u32, .ro, 0, false, [(0, 0xFFFFFFFF)], 1, 4, .none⟩,
  ⟨"WATCH_ENABLE", 0x7040, 0x1, 1, 0x01, .u8, .rw, 0, true, [(0, 1)], 1, 5, .none⟩,
  ⟨"WATCH_PERIOD", 0x7040, 0x1, 1, 0x02, .u16, .rwe, 1, true, [(1, 1024)], 1, 0, .at 0x704001 0x0⟩,
  ⟨"WATCH_FRAME_OFFSET", 0x7040, 0x1, 1, 0x03, .u16, .rwe, 0, true, [(0, 1023)], 1, 0, .at 0x704001 0x0⟩,
  ⟨"WAKE_LEAD", 0x7040, 0x1, 1, 0x04, .u32, .rwe, 50000, true, [(30000, 0xF4240)], 1, 0, .at 0x704001 0x0⟩,
  ⟨"WATCH_STATE", 0x7040, 0x1, 1, 0x05, .enum8, .ro, 0, true, [(0, 6)], 1, 4, .none⟩,
  ⟨"WATCH_CYCLES", 0x7040, 0x1, 1, 0x06, .u64, .ro, 0, true, [(0, 0xFFFFFFFFFFFFFFFF)], 1, 4, .none⟩,
  ⟨"WATCH_HIT_COUNT", 0x7040, 0x1, 1, 0x07, .u32, .ro, 0, true, [(0, 0xFFFFFFFF)], 1, 4, .none⟩,
  ⟨"LATCHED", 0x7040, 0x1, 1, 0x08, .u8, .ro, 0, true, [(0, 255)], 1, 4, .none⟩,
  ⟨"LATCH_DROPPED", 0x7040, 0x1, 1, 0x09, .u32, .ro, 0, true, [(0, 0xFFFFFFFF)], 1, 4, .none⟩,
  ⟨"NEXT_ALARM", 0x7040, 0x1, 1, 0x0A, .stime, .ro, 0, false, [(0, 0xFFFFFFFFFFFFFFFFFFFFFFFFFFFFFFFF)], 1, 4, .none⟩,
  ⟨"WC_KIND", 0x7050, 0x1, 8, 0x01, .enum8, .rwe, 0, true, [(0, 2)], 1, 0, .at 0x704001 0x0⟩,
  ⟨"WC_START", 0x7050, 0x1, 8, 0x02, .i32, .rwe, 0, true, [((-2147483648), 0x7FFFFFFF)], 1, 0, .at 0x704001 0x0⟩]

/-- Rows 2 of the objects of 0x7000 to 0x77FF. -/
def rowsPower2 : List ObjRow := [
  ⟨"WC_LENGTH", 0x7050, 0x1, 8, 0x03, .u32, .rwe, 0xF4240, true, [(10000, 0x4C4B40)], 1, 0, .at 0x704001 0x0⟩,
  ⟨"WC_PORT", 0x7050, 0x1, 8, 0x04, .u8, .rwe, 255, true, [(0, 23), (255, 255)], 1, 0, .at 0x704001 0x0⟩,
  ⟨"WC_EAXC", 0x7050, 0x1, 8, 0x05, .u16, .rwe, 0, true, [(0, 65535)], 1, 0, .at 0x704001 0x0⟩,
  ⟨"WC_CHAIN", 0x7050, 0x1, 8, 0x06, .u8, .rwe, 255, true, [(0, 127), (255, 255)], 1, 0, .at 0x704001 0x0⟩,
  ⟨"WC_CARRIER", 0x7050, 0x1, 8, 0x07, .u8, .rwe, 255, true, [(0, 63), (255, 255)], 1, 0, .at 0x704001 0x0⟩,
  ⟨"WC_PRACH", 0x7050, 0x1, 8, 0x08, .blob, .rwe, 32, true, [(32, 32)], 1, 0, .at 0x704001 0x0⟩,
  ⟨"WC_ACTION", 0x7050, 0x1, 8, 0x09, .enum8, .rwe, 1, true, [(0, 1)], 1, 0, .at 0x704001 0x0⟩,
  ⟨"WC_LAST", 0x7050, 0x1, 8, 0x0A, .blob, .ro, 0, false, [(0, 8)], 1, 4, .none⟩]

/-- The objects of 0x7000 to 0x77FF. -/
def rowsPower : List ObjRow :=
  rowsPower1 ++ rowsPower2

/-- Rows 1 of the objects of 0x7800 to 0x7FFF. -/
def rowsGuard1 : List ObjRow := [
  ⟨"GUARD_STATE", 0x7800, 0x1, 1, 0x01, .enum8, .ro, 0, false, [(0, 2)], 1, 4, .none⟩,
  ⟨"MUTE_PIN_MODE", 0x7800, 0x1, 1, 0x02, .enum8, .rw, 0, true, [(0, 1)], 1, 0, .none⟩,
  ⟨"DIVERGENCE", 0x7800, 0x1, 1, 0x03, .i32, .ro, 0, false, [((-2147483648), 0x7FFFFFFF)], 1, 4, .none⟩,
  ⟨"DIVERGENCE_LIMIT", 0x7800, 0x1, 1, 0x04, .u32, .const, 100, true, [(0, 0xFFFFFFFF)], 1, 0, .none⟩,
  ⟨"GUARD_RESYNC", 0x7800, 0x1, 1, 0x05, .u8, .wo, 0, false, [(1, 1)], 1, 0, .none⟩,
  ⟨"MUTE_RELEASE", 0x7800, 0x1, 1, 0x06, .u16, .wo, 0, false, [(0, 65535)], 1, 0, .none⟩,
  ⟨"DEVICE_MUTED", 0x7800, 0x1, 1, 0x07, .u8, .ro, 0, true, [(0, 1)], 1, 4, .none⟩,
  ⟨"EMISSION_MUTE_COUNT", 0x7800, 0x1, 1, 0x08, .u32, .ro, 0, true, [(0, 0xFFFFFFFF)], 1, 4, .none⟩,
  ⟨"PORTS_MUTED", 0x7800, 0x1, 1, 0x09, .bits32, .ro, 0, true, [(0, 0xFFFFFF)], 1, 4, .none⟩,
  ⟨"CHAINS_MUTED", 0x7800, 0x1, 1, 0x0A, .blob, .ro, 16, true, [(16, 16)], 1, 4, .none⟩,
  ⟨"CARRIERS_MUTED", 0x7800, 0x1, 1, 0x0B, .u64, .ro, 0, true, [(0, 0xFFFFFFFFFFFFFFFF)], 1, 4, .none⟩,
  ⟨"GATE_BLOCKS", 0x7800, 0x1, 1, 0x0C, .u64, .ro, 0, true, [(0, 0xFFFFFFFFFFFFFFFF)], 1, 4, .none⟩,
  ⟨"CAUGHT_BEFORE_USE", 0x7800, 0x1, 1, 0x0D, .u32, .ro, 0, true, [(0, 0xFFFFFFFF)], 1, 4, .none⟩,
  ⟨"AUDIT_MISMATCHES", 0x7800, 0x1, 1, 0x0E, .u32, .ro, 0, true, [(0, 0xFFFFFFFF)], 1, 4, .none⟩,
  ⟨"FAULT_CAUSES", 0x7820, 0x1, 1, 0x01, .bits32, .ro, 0, true, [(0, 127)], 1, 4, .none⟩,
  ⟨"FAULT_MASK", 0x7820, 0x1, 1, 0x02, .bits32, .rw, 127, true, [(0, 127)], 1, 0, .none⟩,
  ⟨"FAULT_CLEAR", 0x7820, 0x1, 1, 0x03, .u8, .wo, 0, false, [(1, 1)], 1, 0, .none⟩,
  ⟨"SPARE_ENGAGED_COUNT", 0x7820, 0x1, 1, 0x04, .u32, .ro, 0, true, [(0, 0xFFFFFFFF)], 1, 4, .none⟩,
  ⟨"UNIT_LOST_COUNT", 0x7820, 0x1, 1, 0x05, .u32, .ro, 0, true, [(0, 0xFFFFFFFF)], 1, 4, .none⟩,
  ⟨"UNIT_RETIRE", 0x7820, 0x1, 1, 0x06, .u16, .wo, 0, false, [(0, 65535)], 1, 0, .none⟩,
  ⟨"MUTE_LOG_COUNT", 0x7830, 0x1, 1, 0x01, .u32, .ro, 0, true, [(0, 0xFFFFFFFF)], 1, 4, .none⟩,
  ⟨"MUTE_LOG", 0x7830, 0x1, 1, 0x02, .blob, .ro, 0, false, [(0, 32)], 1, 6, .none⟩,
  ⟨"INJ_ALLOWED", 0x7840, 0x1, 1, 0x01, .u8, .ro, 0, false, [(0, 1)], 1, 4, .none⟩,
  ⟨"INJ_KIND", 0x7840, 0x1, 1, 0x02, .enum8, .rw, 0, true, [(0, 8)], 1, 0, .none⟩,
  ⟨"INJ_UNIT", 0x7840, 0x1, 1, 0x03, .u16, .rw, 0, true, [(0, 65535)], 1, 0, .none⟩,
  ⟨"INJ_ARM", 0x7840, 0x1, 1, 0x04, .u8, .wo, 0, false, [(1, 1)], 1, 0, .none⟩,
  ⟨"INJ_RESTORE", 0x7840, 0x1, 1, 0x05, .u8, .wo, 0, false, [(1, 1)], 1, 0, .none⟩,
  ⟨"INJ_STATUS", 0x7840, 0x1, 1, 0x06, .enum8, .ro, 0, true, [(0, 2)], 1, 4, .none⟩,
  ⟨"INJ_COUNT", 0x7840, 0x1, 1, 0x07, .u32, .ro, 0, true, [(0, 0xFFFFFFFF)], 1, 4, .none⟩,
  ⟨"GUARD_PWR_LIMIT", 0x7880, 0x1, 64, 0x01, .i16, .rwe, (-100), true, [((-32768), 32767)], 1, 0, .at 0x300001 0x2000⟩]

/-- Rows 2 of the objects of 0x7800 to 0x7FFF. -/
def rowsGuard2 : List ObjRow := [
  ⟨"GUARD_COPY", 0x7880, 0x1, 64, 0x02, .enum8, .ro, 0, true, [(0, 1)], 1, 4, .none⟩,
  ⟨"PWR_MAX", 0x7880, 0x1, 64, 0x03, .i16, .ro, 0, false, [((-32768), 32767)], 1, 4, .none⟩]

/-- The objects of 0x7800 to 0x7FFF. -/
def rowsGuard : List ObjRow :=
  rowsGuard1 ++ rowsGuard2

/-- The objects of 0x8000 to 0x83FF. -/
def rowsTrace : List ObjRow := [
  ⟨"TRACE_ENABLE", 0x8000, 0x1, 1, 0x01, .u8, .rw, 0, true, [(0, 1)], 1, 5, .none⟩,
  ⟨"TRACE_PALLETS", 0x8000, 0x1, 1, 0x02, .u16, .rwe, 16, true, [(1, 1024)], 1, 0, .at 0x800001 0x0⟩,
  ⟨"TRACE_MASK", 0x8000, 0x1, 1, 0x03, .bits32, .rw, 16382, true, [(0, 16382)], 1, 0, .none⟩,
  ⟨"TRACE_CARRIERS", 0x8000, 0x1, 1, 0x04, .u64, .rw, 0xFFFFFFFFFFFFFFFF, true, [(0, 0xFFFFFFFFFFFFFFFF)], 1, 0, .none⟩,
  ⟨"TRACE_WRAP", 0x8000, 0x1, 1, 0x05, .enum8, .rwe, 0, true, [(0, 1)], 1, 0, .at 0x800001 0x0⟩,
  ⟨"TRACE_RECORDS", 0x8000, 0x1, 1, 0x06, .blob, .ro, 0, false, [(0, 1024)], 1, 6, .none⟩,
  ⟨"TRACE_WRITTEN", 0x8000, 0x1, 1, 0x07, .u64, .ro, 0, true, [(0, 0xFFFFFFFFFFFFFFFF)], 1, 4, .none⟩,
  ⟨"TRACE_LOST", 0x8000, 0x1, 1, 0x08, .u64, .ro, 0, true, [(0, 0xFFFFFFFFFFFFFFFF)], 1, 4, .none⟩]

/-- The objects of 0xA000 to 0xA3FF. -/
def rowsSecurity : List ObjRow := [
  ⟨"OWNER_KEY_HASH", 0xA000, 0x1, 1, 0x01, .blob, .ro, 32, false, [(32, 32)], 1, 12, .none⟩,
  ⟨"OWNER_PROGRAM", 0xA000, 0x1, 1, 0x02, .blob, .wo, 0, false, [(32, 32)], 1, 0, .none⟩,
  ⟨"ROLLBACK_COUNT", 0xA000, 0x1, 1, 0x03, .u8, .ro, 0, false, [(0, 64)], 1, 12, .none⟩,
  ⟨"FW_ROLLBACK_COUNT", 0xA000, 0x1, 1, 0x04, .u8, .ro, 0, false, [(0, 32)], 1, 12, .none⟩,
  ⟨"ROLLBACK_COMMIT", 0xA000, 0x1, 1, 0x05, .u8, .wo, 0, false, [(1, 1)], 1, 0, .none⟩,
  ⟨"ROLLBACK_STATE", 0xA000, 0x1, 1, 0x06, .enum8, .ro, 0, true, [(0, 1)], 1, 4, .none⟩,
  ⟨"IDENTITY_PUBKEY", 0xA000, 0x1, 1, 0x07, .blob, .ro, 0, false, [(60, 60)], 1, 0, .none⟩,
  ⟨"ATTEST_NONCE", 0xA000, 0x1, 1, 0x08, .blob, .rw, 32, true, [(32, 32)], 1, 0, .none⟩,
  ⟨"ATTEST_REQUEST", 0xA000, 0x1, 1, 0x09, .u8, .wo, 0, false, [(1, 1)], 1, 0, .none⟩,
  ⟨"ATTEST_REPORT", 0xA000, 0x1, 1, 0x0A, .blob, .ro, 0, false, [(0, 5556)], 1, 4, .none⟩,
  ⟨"TOP_USED", 0xA000, 0x1, 1, 0x0B, .u16, .ro, 0, false, [(0, 256)], 1, 12, .none⟩,
  ⟨"LEAF_NEXT", 0xA000, 0x1, 1, 0x0C, .u32, .ro, 0, false, [(0, 0xFFFFFFFF)], 1, 4, .none⟩,
  ⟨"LEAVES_LEFT", 0xA000, 0x1, 1, 0x0D, .u32, .ro, 0, false, [(0, 0xFFFFFFFF)], 1, 4, .none⟩,
  ⟨"DEBUG_POLICY", 0xA000, 0x1, 1, 0x0E, .enum8, .ro, 0, false, [(0, 2)], 1, 12, .none⟩,
  ⟨"DEBUG_NONCE", 0xA000, 0x1, 1, 0x0F, .blob, .ro, 32, false, [(32, 32)], 1, 4, .none⟩,
  ⟨"DEBUG_TOKEN", 0xA000, 0x1, 1, 0x10, .blob, .wo, 0, false, [(5460, 5460)], 1, 0, .none⟩,
  ⟨"DEBUG_GRANTS", 0xA000, 0x1, 1, 0x11, .bits32, .ro, 0, true, [(0, 7)], 1, 4, .none⟩,
  ⟨"DEBUG_CLOSE", 0xA000, 0x1, 1, 0x12, .u8, .wo, 0, false, [(1, 1)], 1, 0, .none⟩,
  ⟨"JTAG_IDCODE", 0xA000, 0x1, 1, 0x13, .u32, .const, 0x151205EB, true, [(0, 0xFFFFFFFF)], 1, 0, .none⟩]

/-- The rows of the chapter whose range of 05 Table 5-1 holds an index. -/
def rowsOf (index : Nat) : List ObjRow :=
  if index < 0x1400 then rowsIdentity
  else if index < 0x1800 then rowsBoot
  else if index < 0x2400 then rowsTimeBase
  else if index < 0x2600 then rowsNetworkListen
  else if index < 0x2800 then rowsAirTime
  else if index < 0x2C00 then rowsCenen
  else if index < 0x3000 then rowsService
  else if index < 0x3800 then rowsCarrier
  else if index < 0x3C00 then rowsPipeline
  else if index < 0x4000 then rowsKiln
  else if index < 0x4400 then rowsLayer
  else if index < 0x4A00 then rowsPort
  else if index < 0x5000 then rowsFronthaul
  else if index < 0x5800 then rowsDfe
  else if index < 0x6000 then rowsTile
  else if index < 0x6400 then rowsScheduler
  else if index < 0x6800 then rowsFabric
  else if index < 0x6C00 then rowsMemory
  else if index < 0x7000 then rowsHod
  else if index < 0x7800 then rowsPower
  else if index < 0x8000 then rowsGuard
  else if index < 0x8400 then rowsTrace
  else if index < 0xA400 then rowsSecurity
  else []

/-- Whether a row defines an index, for any of its units. -/
def ObjRow.covers (r : ObjRow) (index : Nat) : Bool :=
  r.base ≤ index && (index - r.base) % r.stride == 0 && (index - r.base) / r.stride < r.count

/-- The row of an object by its number, if a table defines it (05 R150). -/
def rowOf (key : Nat) : Option ObjRow :=
  (rowsOf (key / 256)).find? fun r => r.sub == key % 256 && r.covers (key / 256)

/-- Whether a chapter defines an index (05 R150). -/
def indexDefined (index : Nat) : Bool := (rowsOf index).any fun r => r.covers index

/-- The highest sub defined at an index, the value of its sub 00 (05 R150). -/
def highestSub (index : Nat) : Nat :=
  (rowsOf index).foldl (fun m r => if r.covers index then max m r.sub else m) 0

/-- The reset values of 11 that depend on the unit: BOND_MODE and BOND_STATE of bp00 and bp01, PAIR_ROLE of the spare pairs bp96 to bp99
and TILE_STATE of their tiles (11 R355, R403; log entry 5). -/
def tileFactory (key : Nat) : Option Int :=
  if key == O.bondMode 0 || key == O.bondMode 1 || key == O.bondState 0 || key == O.bondState 1 then some 2
  else if O.pairRole 96 ≤ key && key % 256 == 3 then some 1
  else if O.tileState 192 ≤ key && key < 0x590000 && key % 256 == 1 then some 0
  else none

/-- The factory value of a numeric object (05 R157), or its reset value. A few objects of 11 and 13 have a value that depends on the
unit. -/
def factory (key : Nat) : Int :=
  if 0x580000 ≤ key && key < 0x5A0000 && (tileFactory key).isSome then (tileFactory key).getD 0
  else if key == O.partEnable 0 || key == O.partEnable 1 then 1
  else if key == O.partBond 1 || key == O.partClaim 1 then 2
  else match rowOf key with
    | some r => r.dflt
    | none => 0

/-- The characters of a text, as bytes. -/
def ascii (t : List Nat) : Bytes := t.map (BitVec.ofNat 8)

/-- The factory value of a STR or BLOB object: the strings of 05 Table 5-12, the single tap 131,071 of 10 Table 10-7, an arbiter
table of flags 0 and entries 0xFF, the fused base address + p of 09 Table 9-8 in wire order, and otherwise the zero bytes that its table gives. -/
def blobFactory (key : Nat) : Bytes :=
  if key == O.vendor then ascii [0x5A, 0x69, 0x6C, 0x78, 0x69, 0x73]
  else if key == O.part then ascii [0x48, 0x47, 0x4A, 0x2D, 0x35, 0x31, 0x32, 0x30]
  else if key == O.stepping then ascii [0x42, 0x30]
  else if key == O.arbTable || key == O.mcArbTable then List.replicate 4 0 ++ List.replicate 64 0xFF
  else match rowOf key with
    | some r =>
      if r.name == "PORT_MAC" then
        (List.range 6).map fun i => BitVec.ofNat 8 ((Config.fusedMac + (key / 256 - r.base) / r.stride) / 256 ^ (5 - i))
      else if r.name == "RX_TAPS" || r.name == "TX_TAPS" then ascii [0xFF, 0xFF, 0x01, 0x00]
      else List.replicate r.dflt.toNat 0
    | none => []

/-- The bytes of a fixed-size type (05 Table 5-2); `none` for STR and BLOB. -/
def ObjType.size : ObjType → Option Nat
  | .u8 | .enum8 => some 1
  | .u16 | .i16 | .q15 => some 2
  | .u32 | .i32 | .q31 | .bits32 => some 4
  | .u64 | .ats => some 8
  | .stime => some 16
  | .str | .blob => none

/-- Whether a type is signed. -/
def ObjType.signed : ObjType → Bool
  | .i16 | .i32 | .q15 | .q31 => true
  | _ => false

/-- The code of a type (05 Table 5-2). -/
def ObjType.code : ObjType → Nat
  | .u8 => 1 | .u16 => 2 | .u32 => 3 | .u64 => 4 | .i16 => 5 | .i32 => 6 | .q15 => 7 | .q31 => 8
  | .ats => 9 | .stime => 10 | .enum8 => 11 | .bits32 => 12 | .str => 13 | .blob => 14

/-- The code of an access class (05 Table 5-4). -/
def Access.code : Access → Nat
  | .ro => 0 | .rw => 1 | .rwe => 2 | .wo => 3 | .const => 4

/-- The lowest allowed value (05 Table 5-4, bytes 8 to 15). -/
def ObjRow.lowest (r : ObjRow) : Int := (r.allow.head?.map (·.1)).getD 0

/-- The highest allowed value (05 Table 5-4, bytes 16 to 23); for BITS32 the mask of defined bits. -/
def ObjRow.highest (r : ObjRow) : Int := (r.allow.getLast?.map (·.2)).getD 0

/-- The fields of ARB_SELECT (14 Table 14-15): ring 0 to 7 or 0xFF, stop 0 to 47 or 0xFF, kind 0 to 4. -/
def arbSelectOk (v : Nat) : Bool :=
  (decide (v / 65536 < 8) || v / 65536 == 0xFF) && (decide (v / 256 % 256 < 48) || v / 256 % 256 == 0xFF) && decide (v % 256 < 5)

/-- The allowed values of a numeric object, or lengths of a STR or BLOB (05 R153). A STIME must hold a nanoseconds field below
1,000,000,000 and zero in its reserved bits; a BITS32 sets defined bits only. -/
def ObjRow.allows (r : ObjRow) (v : Int) : Bool :=
  (r.allow.any fun iv => decide (iv.1 ≤ v) && decide (v ≤ iv.2)) && v.toNat % r.step == 0
    && (r.type != .stime || ((v.toNat / 2 ^ 32) % 2 ^ 32 < 1000000000 && v.toNat < 2 ^ 112))
    && (r.type != .bits32 || Nat.land v.toNat r.highest.toNat == v.toNat)
    && (!(r.base == 0x6430 && r.sub == 1) || arbSelectOk v.toNat)

end Sys2Proof.Machine
end

