-- ==== Sys2Proof/Machine/Store.lean ====
section
/-! DEFINITION. Sparse tables: a list of key and value pairs, sorted by key where it is built by `put`. The dictionary, memory
and the tables of units are held in this form, so that a state is plain data. -/

namespace Sys2Proof.Machine

/-- A sparse table with natural-number keys. -/
abbrev Store (α : Type) := List (Nat × α)

/-- The value listed for a key. -/
def Store.find {α : Type} : Store α → Nat → Option α
  | [], _ => none
  | (a, x) :: t, k => if a = k then some x else Store.find t k

/-- The value of a key, `d` where none is listed. -/
def Store.at {α : Type} (d : α) (m : Store α) (k : Nat) : α := (Store.find m k).getD d

/-- The table with a key's value replaced or added, in rising order of keys. -/
def Store.put {α : Type} : Store α → Nat → α → Store α
  | [], k, v => [(k, v)]
  | (a, x) :: t, k, v =>
    if k < a then (k, v) :: (a, x) :: t
    else if k = a then (k, v) :: t
    else (a, x) :: Store.put t k v

/-- The table without a key. -/
def Store.drop {α : Type} (m : Store α) (k : Nat) : Store α := m.filter fun e => e.1 != k

/-- The table with a key's value replaced, listing nothing that equals the default `d`. -/
def Store.putD {α : Type} [DecidableEq α] (d : α) (m : Store α) (k : Nat) (v : α) : Store α :=
  if v = d then Store.drop m k else Store.put m k v

/-- The table with a key's value changed by a function. -/
def Store.mod {α : Type} (d : α) (m : Store α) (k : Nat) (f : α → α) : Store α := Store.put m k (f (Store.at d m k))

/-- The keys rise strictly. -/
def Store.rising {α : Type} : Store α → Bool
  | [] => true
  | [_] => true
  | (a, _) :: (b, y) :: t => decide (a < b) && Store.rising ((b, y) :: t)

/-- The canonical form: keys strictly rising, and no entry equal to what its key reads as unlisted. -/
def Store.wf {α : Type} [DecidableEq α] (d : Nat → α) (m : Store α) : Bool :=
  Store.rising m && m.all fun e => e.2 != d e.1

/-- The keys whose value satisfies a test. -/
def Store.keysWhere {α : Type} (m : Store α) (p : α → Bool) : List Nat := (m.filter fun e => p e.2).map (·.1)

end Sys2Proof.Machine
end

