-- ==== Sys2Proof/Machine/State.lean ====
section
/-! DEFINITION. The state of the part: everything that the spec gives the block, as plain data. The value of each dictionary
object, status objects and counters included, stands in `dict` or `blobs` under its number (Keys.lean); the structures below
hold the state that is no dictionary object, chapter by chapter. -/

namespace Sys2Proof.Machine

/-- The reasons of 05 Table 5-11. -/
inductive Reason
  | ok | noStreamUnits | noPallets | noEngines | arbTable | bondConflict | noUeContexts | noSoftBuffer | noHodChannel
  | tooLate | noTimeSource | windowOverlap | generationStale | deadlineInfeasible
  | portMode | portDown | compressionUnsupported | laneConflict | forwardingLoop | measurementBusy
  | badNumerology | badBandwidth | standardMix | carrierDisabled | badDescription | badCoefficients
  | locked | signature | rollbackCounter | imageFormat | leavesExhausted | debugDenied
  | domainOff | powerPending | thermalLimit
  | hodLoop | hodBusError | hodStopped | hodHalted
  | safetyMuted | pending | unitFaulted
  | sequenceRange | journalFull | noSession
  | noObject | noSub | readOnly | writeOnly | enabled | typeLength | valueRange | noLayer | segmentOrder | transferAborted | busy
  deriving DecidableEq, Repr

/-- The code of a reason (05 Table 5-11). -/
def Reason.code : Reason → Nat
  | .ok => 0
  | .noStreamUnits => 0x0101 | .noPallets => 0x0102 | .noEngines => 0x0103 | .arbTable => 0x0104 | .bondConflict => 0x0105
  | .noUeContexts => 0x0106 | .noSoftBuffer => 0x0107 | .noHodChannel => 0x0108
  | .tooLate => 0x0201 | .noTimeSource => 0x0202 | .windowOverlap => 0x0203 | .generationStale => 0x0204
  | .deadlineInfeasible => 0x0205
  | .portMode => 0x0301 | .portDown => 0x0302 | .compressionUnsupported => 0x0303 | .laneConflict => 0x0304
  | .forwardingLoop => 0x0305 | .measurementBusy => 0x0306
  | .badNumerology => 0x0401 | .badBandwidth => 0x0402 | .standardMix => 0x0403 | .carrierDisabled => 0x0404
  | .badDescription => 0x0405 | .badCoefficients => 0x0406
  | .locked => 0x0501 | .signature => 0x0502 | .rollbackCounter => 0x0503 | .imageFormat => 0x0504
  | .leavesExhausted => 0x0505 | .debugDenied => 0x0506
  | .domainOff => 0x0601 | .powerPending => 0x0602 | .thermalLimit => 0x0603
  | .hodLoop => 0x0701 | .hodBusError => 0x0702 | .hodStopped => 0x0703 | .hodHalted => 0x0704
  | .safetyMuted => 0x0801 | .pending => 0x0802 | .unitFaulted => 0x0803
  | .sequenceRange => 0x0901 | .journalFull => 0x0902 | .noSession => 0x0903
  | .noObject => 0x0A01 | .noSub => 0x0A02 | .readOnly => 0x0A03 | .writeOnly => 0x0A04 | .enabled => 0x0A05
  | .typeLength => 0x0A06 | .valueRange => 0x0A07 | .noLayer => 0x0A08 | .segmentOrder => 0x0A09
  | .transferAborted => 0x0A0A | .busy => 0x0A0B

/-! ## Time (01, 03) -/

/-- One value for each time source. -/
structure PerSource (α : Type) where
  gnss : α
  ptp  : α
  nl   : α
  deriving DecidableEq, Repr

/-- The value of one source. -/
def PerSource.get {α : Type} (p : PerSource α) : Source → α
  | .gnss => p.gnss | .ptp => p.ptp | .nl => p.nl

/-- The values with one source's replaced. -/
def PerSource.set {α : Type} (p : PerSource α) : Source → α → PerSource α
  | .gnss, x => { p with gnss := x } | .ptp, x => { p with ptp := x } | .nl, x => { p with nl := x }

/-- A new epoch or a step that waits for its wrap (01 R47, 03 R92): the value, the count of ticks at which it was decided, and
whether the guard has confirmed it. For an epoch `value` is the STIME in 2⁻⁴⁸ ns; for a step it is the offset in picoseconds. -/
structure Waiting where
  value     : Int
  decided   : Nat
  confirmed : Bool
  deriving DecidableEq, Repr

/-- The counter of 01 R12 as one number of 2⁻⁴⁸ ns, that is, seconds, nanoseconds, the 32-bit fraction and the 16 hidden bits of
01 R14 together; the ticks of the 156.25 MHz clock since power-on, by which elapsed times are measured; the independent legacy
counter in 2⁻²⁴ ns (01 R18); the air epoch in force (03 R88, R92), in 2⁻⁴⁸ ns, and the pending one. -/
structure Clock where
  count    : Nat
  ticks    : Nat
  legacy   : Nat
  epoch    : Nat
  newEpoch : Option Waiting
  deriving DecidableEq, Repr

/-- A pulse input (01 R24 to R30): the candidate edge, the last expected edge and the last edge of any kind, as counts of site
time; the strays, edges and expected edges of the current second; whether clean seconds are counted yet, how many there are, and
the seconds in a row without an expected edge. -/
structure PulseIn where
  candidate : Option Nat
  lastEdge  : Option Nat
  edges     : Nat
  strays    : Nat
  expected  : Nat
  counting  : Bool
  clean     : Nat
  missed    : Nat
  deriving DecidableEq, Repr

/-- An expected PPS_IN edge (01 R31, R36): its time stamp after PPS_CABLE_DELAY, in picoseconds of site time, and the second that
the count of edges gives it, if one is known, and whether its measurement is made. -/
structure PpsEdge where
  stampPs : Int
  second  : Option Int
  used    : Bool
  deriving DecidableEq, Repr

/-- A time of day held for the following edge (01 R34): the count of site time at which it completed, its PTP-timescale second,
the UTC offset of a binary frame, and whether the receiver was locked. -/
structure TodHeld where
  arrived : Nat
  second  : Int
  utcOff  : Option Int
  locked  : Bool
  deriving DecidableEq, Repr

/-- What GNSS has given (01 R31 to R36): the last expected edge, the times of day that may label the next, oldest first, whether one has
labelled the last, whether the label is valid and the receiver locked, and the seconds in a row that disagreed with the count. -/
structure Gnss where
  edge      : Option PpsEdge
  held      : List TodHeld
  labelled  : Bool
  todOk     : Bool
  disagree  : Nat
  deriving DecidableEq, Repr

/-- Where f comes from in holdover (01 R49, R41). -/
inductive HoldRef | synce | oscillator | frozen
  deriving DecidableEq, Repr

/-- A holdover (01 R50): the tick of the HOLDOVER_ENTER that began it, e0 in picoseconds, fL in 10⁻¹⁵, its frequency reference, and
whether it began under 01 R41, so that it uses neither. -/
structure Holdover where
  since   : Nat
  e0      : Nat
  fL      : Nat
  ref     : HoldRef
  stopped : Bool
  deriving DecidableEq, Repr

/-- A refused source (01 R44): the offset recorded, in picoseconds. -/
abbrev Refused := Option Int

/-- An authorised slew that runs (01 R46): its source, the recorded offset in picoseconds, f at its start, and the phase removed since then,
in 2⁻⁴⁴ s. -/
structure Slew where
  src     : Source
  offset  : Int
  f0      : Int
  removed : Int
  deriving DecidableEq, Repr

/-- The servo (01 R37 to R50, R644). `y` is the frequency estimate in 2⁻⁴⁴/(64·10¹²), so that a picosecond of phase error adds
exactly 2⁴⁴; `meas` holds the measurement completed since the last update, in picoseconds; `window` the last 16 pairs of e and f;
`ySamples` the samples of y of the LOCKED period of up to 3,600 s, newest first, `yCount` the updates of that period, and `yHours` the sums of
its whole hours, newest first;
`authSrc` the source of an authorised step that waits for carriers, `lastRefused` the source of the recorded refusal, `limitClose`
`limitFrom` and `limitUntil` the closure of 01 R52 and the frame boundaries at which it starts and ends, and `dcoPulses` the pulses sent on DCO_INC less
those on DCO_DEC (01 R61), `lastErr` the phase error in picoseconds on which the servo last steered, and `lastUpdate` the tick of the last update. -/
structure Servo where
  meas       : PerSource (Option Int)
  err        : PerSource (Option Int)
  unaccepted : PerSource Nat
  refused    : PerSource Refused
  qualSince  : PerSource (Option Nat)
  restored   : PerSource Bool
  y          : Int
  window     : List (Int × Int)
  fromHold   : Bool
  lockedAt   : Nat
  lockedSecs : Nat
  everLocked : Bool
  ySamples   : List Int
  yCount     : Nat
  yHours     : List Int
  learnt     : Int
  slope      : Int
  hold       : Option Holdover
  authMode   : Nat
  armedAt    : Nat
  slew       : Option Slew
  step       : Option (Source × Waiting)
  authSrc    : Option Source
  lastRefused : Option Source
  limitClose : Bool
  limitFrom  : Int
  limitUntil : Option Int
  dcoPulses  : Int
  lastErr    : Int
  lastUpdate : Nat
  deriving DecidableEq, Repr

/-- A grant of unicast negotiation in force (01 Table 1-6): the other end, the message, its rate per second, and the tick at which it ends. -/
structure Grant where
  peer      : PtpOver
  what      : PtpService
  perSecond : Nat
  ends      : Nat
  deriving DecidableEq, Repr

/-- An Announce with the port identity of its sender (01 Table 1-6). -/
structure Master where
  announce : Announce
  sender   : Nat
  deriving DecidableEq, Repr

/-- The exchange state of PTP on one port (01 R53, R644), times in picoseconds: the Sync awaiting its Follow_Up (sequence and
ingress), the last Sync difference t2 − t1, the Delay_Req sent (sequence and egress time), and whether a mean path delay is
valid; the best Announce received; the grants that it has given and been given; the egress stamp of each two-step Sync whose Follow_Up has
not left, as a count, by its transport; and the tick at which each kind of message (0 Announce, 1 Sync, 2 Delay_Req) was last sent to an other
end of unicast, or of Ethernet at all. -/
structure PtpPort where
  syncSeq   : Nat
  syncIn    : Option Int
  syncDiff  : Option Int
  reqSeq    : Nat
  reqOut    : Option Int
  delayOk   : Bool
  best      : Option Master
  given     : List Grant
  got       : List Grant
  followUp  : List (PtpOver × Nat)
  lastTx    : List ((Nat × PtpOver) × Nat)
  deriving DecidableEq, Repr

/-- A PTP message sent (01 R53, R58; 09 R304): its kind, its transport and domain, its source address and the VLAN_ID and VLAN_PCP of its
tag, the seconds and nanoseconds of its time stamp, and the correctionField in 2⁻¹⁶ ns. -/
structure PtpSent where
  port       : Nat
  msg        : PtpTx
  via        : PtpOver
  domain     : Nat
  src        : Nat
  tag        : Option (Nat × Nat)
  seconds    : Nat
  nanos      : Nat
  correction : Int
  deriving DecidableEq, Repr

/-- What 01 R57 did to a forwarded event message: the port that it left by, its correctionField with the residence time added, in 2⁻¹⁶ ns,
whether the UDP checksum was set to zero, and whether the checksum-trim bytes were adjusted. -/
structure Residence where
  port       : Nat
  correction : Int
  sumZero    : Bool
  trimmed    : Bool
  deriving DecidableEq, Repr

/-- The time base beside the counter (01). `offsets` holds the PTP offsets completed since the last update; `residence` says what the event
message forwarded last was given on each port that it left by (R57); `updates` and `pulses` are the nanoseconds wraps, as counts that steps
move along (R47), whose servo update and whose PPS_OUT pulse have not come yet, oldest first; `ppsTrig` says that a trigger drives the pulse of PPS_OUT from `ppsRise` to `ppsFall`. -/
structure TimeBase where
  pps       : PulseIn
  dfeSync   : PulseIn
  gnss      : Gnss
  servo     : Servo
  ptp       : Store PtpPort
  offsets   : List Int
  ptpSent   : Option PtpSent
  residence : List Residence
  laneLock  : Store Nat
  captures  : Store (List Nat)
  ppsRise   : Nat
  ppsFall   : Nat
  ppsTrig   : Bool
  updates   : List Nat
  pulses    : List Nat
  deriving DecidableEq, Repr

/-! ## Network listen (02) -/

/-- A reception of a listen gap (02 R76 to R79). -/
structure Reception where
  metric    : Nat
  pci       : Nat
  type      : Nat
  committed : Bool
  deriving DecidableEq, Repr

/-- A result of network listen that no update has used yet (02 R81, R85): which of the committed receptions since cold reset it is, its
offset in picoseconds, t_rx as a count, PCI, type, SINR and sigma, and the tick at which its gap closed. -/
structure NlResult where
  number   : Nat
  offset   : Int
  tRx      : Nat
  pci      : Nat
  type     : Nat
  sinr     : Int
  sigma    : Nat
  closedAt : Nat
  deriving DecidableEq, Repr

/-- The listen receiver (02 R68 to R85): the reception of the gap in progress; the gain in dB, whether it is frozen, and whether it freezes
at the next block (02 R75); the samples of the block in progress and the sum of their squared magnitudes; the committed receptions that
processing works on, oldest first, each with the tick at which its gap closed; the instant (device air time) at which the gap in progress
opened; the site-time stamp of the sample taken last (02 R69, 10 R340); the results since the last servo update; whether there has been one; and the missed-capture log. -/
structure Listen where
  current   : Option Reception
  gain      : Int
  frozen    : Bool
  freezing  : Bool
  block     : Nat
  power     : Nat
  work      : List (Reception × Nat)
  openedAt  : Int
  stamp     : Nat
  unused    : List NlResult
  hasResult : Bool
  missed    : List Bytes
  deriving DecidableEq, Repr

/-! ## The Cenen link (04) and the dictionary service (05) -/

/-- An INDICATION (04 Table 4-9): the counter object, its value after the event, the site time as a STIME, the unit concerned, the
detail, the course id and its generation, and the ATS. -/
structure Indication where
  key    : Nat
  value  : Int
  stime  : Nat
  unit   : Nat
  detail : Bytes
  course : Nat
  gen    : Nat
  ats    : Nat
  deriving DecidableEq, Repr

/-- A verdict (04 Table 4-6): the request sequence and message type answered, the course and generation of its header, the reason,
the credits returned, the outcome sequence assigned, and bytes 40 to 43 of a REFUSE. -/
structure Verdict where
  seq     : Nat
  type    : Nat
  course  : Nat
  gen     : Nat
  ats     : Nat
  reason  : Reason
  credits : Nat
  outSeq  : Nat
  excess  : Int
  deriving DecidableEq, Repr

/-- An outcome (04 Table 4-7): its sequence, its course, generation and ATS, the request sequence of its COURSE_TENTATIVE, result,
flags of byte 39, revisions accepted and refused, the device air time at which it was journalled as an ATS, and its body. -/
structure Outcome where
  seq       : Nat
  course    : Nat
  gen       : Nat
  ats       : Nat
  reqSeq    : Nat
  result    : Nat
  flags     : Nat
  revOk     : Nat
  revRef    : Nat
  airTime   : Nat
  body      : Bytes
  deriving DecidableEq, Repr

/-- A DICT_REPLY (05 Table 5-7): sequence, type answered, reason, object, layer or op, offset of the data, total length, byte 52,
data, and the SEGMENT flag. -/
structure DictReply where
  seq     : Nat
  type    : Nat
  reason  : Reason
  key     : Nat
  layer   : Nat
  offset  : Nat
  total   : Nat
  enable  : Nat
  data    : Bytes
  segment : Bool
  deriving DecidableEq, Repr

/-- One per-channel entry of RESUME_REPLY (04 Table 4-11). -/
structure ReplyEntry where
  expected : Nat
  outcome  : Nat
  credits  : Nat
  deriving DecidableEq, Repr

/-- A RESUME_REPLY (04 Table 4-11). -/
structure ResumeReply where
  seq      : Nat
  reason   : Reason
  state    : Nat
  cause    : Nat
  holder   : Nat
  badChan  : Nat
  entries  : List ReplyEntry
  deriving DecidableEq, Repr

/-- A message that the device has sent to the host (04 Table 4-3, and the boot-state report of 19 R609). -/
inductive Sent
  | verdict (chan : Nat) (v : Verdict) (replay : Bool)
  | outcome (chan : Nat) (o : Outcome) (replay : Bool)
  | indication (seq : Nat) (i : Indication)
  | dictReply (r : DictReply)
  | resumeReply (r : ResumeReply)
  | bootReport (module state slot reason version : Nat)
  deriving DecidableEq, Repr

/-- A vendor-defined sideband message (04 R115): its vendor identifier, its code, and its eight bytes of data. -/
structure SideMsg where
  vendor : Nat
  code   : Nat
  data   : Bytes
  deriving DecidableEq, Repr

/-- A message that the adapter has not yet acknowledged (04 R118): the message, its module, its number among all that the device has sent, the
tick at which it was sent, and what it takes on the wire: units of 32 bytes on the mainband, or sideband messages. -/
structure Flight where
  msg    : Sent
  module : Nat
  number : Nat
  sentAt : Nat
  stream : List Bytes
  side   : List SideMsg
  deriving DecidableEq, Repr

/-- A UCIe module (04 R116 to R120): whether it is in service, and the tick at which it retrained if it waits for RESTORE_HOLD. -/
structure Module where
  up        : Bool
  trainedAt : Option Nat
  deriving DecidableEq, Repr

/-- The request or amendment in progress on a channel (04 R128): its message type, header, description, the data that TB_BYTES
asks for and the data received, by transport-block handle in order of arrival, and the credits of its messages so far. -/
structure Request where
  type    : Nat
  hdr     : CourseHdr
  tbBytes : Nat
  desc    : Bytes
  got     : Nat
  data    : List (Nat × Bytes)
  cost    : Nat
  deriving DecidableEq, Repr

/-- A request or amendment whose ACCEPT has not been sent, with what it has claimed (04 R134): the request, the TB-store place of each block,
the soft-buffer pallets of each record, the contexts that it names, and the revisions of its course refused meanwhile. -/
structure Claim where
  req    : Request
  places : List (Nat × Nat)
  soft   : List (Nat × Nat)
  ues    : List Nat
  revRef : Nat
  deriving DecidableEq, Repr

/-- A course channel (04 R126 to R139): the module in use; the next request sequence expected, the next outcome sequence to assign
and the next to send; the last request sequence received, the last outcome sequence sent and the last acknowledged, and the last verdict sent; verdict records kept and outcomes
journalled but not acknowledged; the host's credit account, the grant to the host and the credits owed to it; the request in progress, and those whose ACCEPT has not been sent; whether the window of 04
R119 stands, and the outcomes journalled before the last resume that it has not sent again yet. -/
structure Channel where
  module    : Nat
  nextReq   : Nat
  nextOut   : Nat
  sendNext  : Nat
  lastReq   : Nat
  lastSent  : Nat
  lastAcked : Nat
  lastVerdict : Nat
  verdicts  : List Verdict
  outcomes  : List Outcome
  hostCredits : Nat
  grant     : Nat
  owed      : Nat
  req       : Option Request
  claims    : List Claim
  takeover  : Bool
  replay    : List Nat
  deriving DecidableEq, Repr

/-- What the receiver of a module's stream holds (04 R121): the units of a message that is not whole yet, and whether it searches for a boundary. -/
structure Stream where
  bytes  : Bytes
  search : Bool
  deriving DecidableEq, Repr

/-- What the journal has been asked to write and has not yet written to both copies (04 R134, R137): a verdict, or the outcome of
a course. -/
inductive JournalWrite
  | verdict (chan : Nat) (v : Verdict)
  | outcome (chan course : Nat)
  deriving DecidableEq, Repr

/-- The Cenen link (04): the modules, and the map in force; the session's holder, the cause of its last suspension and the tick of its start;
the channels; the indications that wait and the next sequence of one; the messages sent, oldest first, those in flight, and the flits sent
again; the bytes of a channel-0 message that each sideband has brought so far (R115), and what each mainband receiver holds (R121); and what
the journal has still to write. `module0` is the module whose sideband carries channel 0 (R117, R120). -/
structure Link where
  m0        : Module
  m1        : Module
  module0   : Nat
  map       : Nat
  holder    : Nat
  cause     : Nat
  suspended : Nat
  chans     : Store Channel
  waiting   : List Indication
  indSeq    : Nat
  sent      : List Sent
  flight    : List Flight
  retries   : Nat
  side0     : Bytes
  side1     : Bytes
  stream0   : Stream
  stream1   : Stream
  journal   : List JournalWrite
  deriving DecidableEq, Repr

/-- A channel-0 message as it arrives: a read of a layer from an offset, or a write or revert (05 Tables 5-5, 5-6), or a RESUME with its
mode, host identity and entries (04 Table 4-10). -/
inductive Transfer
  | read (key layer offset most : Nat)
  | write (key op offset count total : Nat) (data : Bytes)
  | resume (mode hostId : Nat) (entries : List ResumeEntry)
  deriving DecidableEq, Repr

/-- The read latch (05 R170): object and layer, value, bytes returned, and the tick of its last read. -/
structure ReadLatch where
  key   : Nat
  layer : Nat
  value : Bytes
  next  : Nat
  last  : Nat
  deriving DecidableEq, Repr

/-- The write buffer (05 R171): object, op, total length, bytes so far, and the tick of its last segment. -/
structure WriteBuffer where
  key   : Nat
  op    : Nat
  total : Nat
  data  : Bytes
  last  : Nat
  deriving DecidableEq, Repr

/-- The buffer last discarded (05 R171): object, op, the offset at which it would have continued, and the tick that its memory
runs from. -/
structure Discarded where
  key    : Nat
  op     : Nat
  offset : Nat
  last   : Nat
  deriving DecidableEq, Repr

/-- The dictionary service (05 R165 to R178): transfers held until the device serves them, the read latch, the write buffer, the
memory of the buffer last discarded, the enables whose deferred check is due (05 R177), those that read PENDING since boot (05
R178), those whose current value is 1 (05 R162), and the enable log, oldest first. -/
structure Service where
  held      : List (Nat × Transfer)
  latch     : Option ReadLatch
  buffer    : Option WriteBuffer
  discarded : Option Discarded
  due       : List Nat
  atBoot    : List Nat
  asked     : List Nat
  log       : List Bytes
  deriving DecidableEq, Repr

/-! ## Courses, the pipeline, the scheduler and the kiln (03, 06, 07, 13) -/

/-- The states of a course (03 Table 3-6). -/
inductive CourseState | opened | bound | inAir | finishing | ended | closed
  deriving DecidableEq, Repr

/-- A record of a course description (06 R190): its type, flags, record id, and all its bytes. -/
structure Rec where
  type  : Nat
  flags : Nat
  id    : Nat
  bytes : Bytes
  deriving DecidableEq, Repr

/-- The measures of an uplink record (08 Table 8-3): timing advance in Tc and frequency offset in 10 Hz, as their fields hold them; the sum of the
squared magnitudes of its received elements and their number; the sum of the linear post-detection SINRs and their number, and whether one of them
is without bound; and the sums of the error vectors: squared magnitudes, products with the nearest points, and squared magnitudes of those. -/
structure Meas where
  ta        : Int
  freq      : Int
  powSum    : Rat
  powCount  : Nat
  sinrSum   : Rat
  sinrCount : Nat
  unbounded : Bool
  errors    : Rat × Rat × Rat
  deriving DecidableEq, Repr

/-- A preamble detected (06 Table 6-15): its index, timing advance in Tc, and power above the noise floor in 0.1 dB. -/
structure Preamble where
  index : Nat
  ta    : Int
  above : Nat
  deriving DecidableEq, Repr

/-- What the result of an uplink record needs of its operations: for a PUSCH allocation (06 Table 6-13) the iterations, restarts, code
blocks ended and failed, and the bits of byte 9; the measures taken; the payload bits of each code block that passed; whether the CRC of a
UCI payload passed, and its bits; for a PRACH occasion the noise floor in 0.1 dBFS and the preambles detected; for an SRS record the
weight-bank entry written and the SINR of each port and subband; the interference-plus-noise power of each PRB; and the filter that its det
instances computed last, by the symbol, DET_MODE and DET_PRB_GROUP that it was computed with (08 R275). -/
structure UlResult where
  iterations : Nat
  restarts   : Nat
  ended      : Nat
  failed     : Nat
  early      : Bool
  combined   : Bool
  dropped    : Bool
  notKept    : Bool
  entry      : Nat
  meas       : Option Meas
  payload    : Store (List Bool)
  uci        : Option (Bool × List Bool)
  floor      : Option Int
  peaks      : List Preamble
  sinrs      : List Int
  noise      : Store Rat
  filter     : Option (Nat × Nat × Nat)
  deriving DecidableEq, Repr

/-- A course (03 R96 to R112, 06 R189 to R227). `slotAir` is the slot start in device air time; `blocks` the transport-block bytes
held for each record and `store` the first TB-store pallet of each (15 R503); `order` its place among the courses accepted since reset; `changed` the generation and class of each record's
last change; `causes` the instant and status of the first cause that struck each record (06 R221); `softRes` the soft-buffer pallets
reserved for each record and their GDDR7 channel (06 R216); `unsent` the symbols of which a message was not sent; `noOutcome` says that its session closed (04 R148); `rx` the elements received, by symbol × 128 + port, a PRACH occasion's ports from 64 on: lists of I and Q by
subcarrier; `got` what of them has come: the PRBs as a mask, and of a PRACH or time-domain port the number of elements or samples (09 R315);
`went` the stream ports, as a mask by symbol, whose message has had its launch (09 R316). -/
structure Course where
  ats       : Nat
  slotAir   : Int
  order     : Nat
  gen       : Nat
  state     : CourseState
  reqSeq    : Nat
  outSeq    : Nat
  first     : Nat
  last      : Nat
  recs      : List Rec
  blocks    : Store Nat
  store     : Store Nat
  changed   : Store (Nat × Nat)
  hostBound : Bool
  cancelled : Bool
  rerun     : Bool
  revOk     : Nat
  revRef    : Nat
  sent      : Nat
  blanked   : Nat
  withheld  : Nat
  unsent    : Nat
  causes    : Store (Int × Nat)
  expired   : Nat
  pins      : List Nat
  snaps     : Store Bytes
  softRes   : Store (List Nat × Nat)
  results   : Store UlResult
  journalled : Bool
  noOutcome : Bool
  rx        : Store (List (Int × Int))
  got       : Store Nat
  went      : Store Nat
  deriving DecidableEq, Repr

/-- The operations of 06 Tables 6-7 and 6-8. -/
inductive OpKind | fetch | enc | mod | ctl | prec | asm | ifft | fft | chest | det | demod | dec | tbchk | uci | prach | srs | out
  deriving DecidableEq, Repr

/-- Which operation of a course an instance is: its kind, its record (0 for none), its symbol (255 for none), and its codeword,
port, group of ports or code block. -/
structure OpId where
  kind : OpKind
  recId : Nat
  sym  : Nat
  idx  : Nat
  deriving DecidableEq, Repr

/-- The states of an operation instance (13 Table 13-2). -/
inductive OpState | waiting | ready | dispatched | running | suspended | ended | expired | released
  deriving DecidableEq, Repr

/-- What an operation on a layer engine has found, held with its outputs until they are published (08 R266): measures that join those of its
record, with whether timing advance and frequency offset are among them; noise powers by PRB; the noise floor and the preambles of an occasion; the
SINRs and the weights by subband of an SRS; and the DMRS elements that a chest has received, by symbol × 128 + port, which are its channel
estimate's inputs (08 R270; log entry 50). -/
structure Found where
  lead    : Bool
  meas    : Option Meas
  noise   : Store Rat
  floor   : Option Int
  peaks   : List Preamble
  sinrs   : List Int
  weights : Option (Store Bytes)
  pilots  : Store (List (Int × Int))
  deriving DecidableEq, Repr

/-- An operation instance (13 R432): its course, generation, unit class, the form that its program declares and the partition, plus one,
whose ready list it entered; inputs with whether each is strict, the symbols whose samples it needs; deadlines and estimate in air
units; its priority class and ready instant; the unit that it was dispatched to (0xFFFF none), when it started, and the engine job
slots that it holds for fused jobs. `places` are its pallet-store pallets, slice × 64 + pallet, outputs first; `own` and `common` say from where they
came; `stage` are its outputs in the staging region, channel × 2²⁰ + pallet of the channel (log entry 30); and `valid` the bytes valid in each output
once published. `ended` is the end that its unit has reported,
`published` and `empty` whether its outputs are published, and empty tokens; `cancel` says that a cancel token is on its way, and `old`
that a re-issue has superseded it. `data` holds the bytes of its outputs until they are published, and `found` what it has found on a layer engine; `faulted` says that a unit faulted under it (06 R220);
`params` are the settings at its dispatch: of a tile operation FUSED_EN_S and FUSED_EN_K (12 R413), and of any other those of 08 Table 8-7,
DET_MODE, DET_PRB_GROUP, PREC_BACKOFF and PRACH_THRESHOLD (08 R296). -/
structure Op where
  chan    : Nat
  course  : Nat
  gen     : Nat
  id      : OpId
  cls     : Nat
  form    : Nat
  list    : Nat
  state   : OpState
  ins     : List (OpId × Bool)
  arrive  : Nat
  est     : Int
  ls      : Int
  lf      : Int
  prio    : Nat
  readyAt : Int
  unit    : Nat
  start   : Int
  fused   : List (Nat × Nat)
  outs    : Nat
  places  : List Nat
  own     : Nat
  common  : Nat
  stage   : List Nat
  valid   : List Nat
  next    : Bool
  ended   : Option TaskEnd
  published : Bool
  empty   : Bool
  cancel  : Bool
  old     : Bool
  data    : List Host.Cell
  faulted : Bool
  params  : List Nat
  found   : Option Found
  deriving DecidableEq, Repr

/-- What the scheduler holds (13): the tile programs in force; the instances by operation tag, the next tag, the operation that a P0 hold waits for, the carrier
of each tile slot's last task and the tick at which it ended, the prefetch copies of each tile slot's next task, each a pallet, its
local slot and whether it has completed, and the trace ring. -/
structure Sched where
  progs    : List Program
  ops      : Store Op
  nextTag  : Nat
  hold     : Option Nat
  lastOf   : Store Nat
  freed    : Store Nat
  copies   : Store (List (Nat × Nat × Bool))
  trace    : List Bytes
  deriving DecidableEq, Repr

/-- The parameters of a decode (07 Table 7-6): Zc, or K for turbo; base graph; redundancy version; K' or the payload of a polar code; filler
bits; N_cb; Qm; CRC kind; the N_kept limit; and the bits of the transport block, with its CRC, that follow the block's payload. -/
structure Code where
  z    : Nat
  bg   : Nat
  rv   : Nat
  kp   : Nat
  fill : Nat
  ncb  : Nat
  qm   : Nat
  crc  : Nat
  kept : Nat
  tail : Nat
  deriving DecidableEq, Repr

/-- The settings of 07 Table 7-11 that a job took at its dispatch (R263). -/
structure KilnSet where
  alpha    : Nat
  extScale : Nat
  beta     : Nat
  list     : Nat
  ahead    : Nat
  step     : Nat
  stall    : Nat
  deriving DecidableEq, Repr

/-- The decoder of a job (07 R234 to R244): the LLRs received, in transmitted order, and those of the committed version, by circular-buffer
position; the priors and posteriors by mother-code place; the messages of the checks, or the extrinsic of a turbo code; the iterations
counted in the attempt, the hard decisions, the unsatisfied checks, the least of them so far and the iterations since; the rank and metric of a polar
path; and whether the block's own checks pass. -/
structure Decode where
  code   : Code
  set    : KilnSet
  llr    : List Int
  base   : List Int
  prior  : List Int
  post   : List Rat
  msgs   : List (List Rat)
  run    : Nat
  bits   : List Bool
  unsat  : Nat
  best   : Option Nat
  stall  : Nat
  rank   : Nat
  metric : Int
  pass   : Bool
  deriving DecidableEq, Repr

/-- A decode job of the kiln (07 R241 to R259), kept under its operation tag: its 64-byte descriptor (R253), its kind and generation, E and
E_rx, whether a feed waits for the next iteration boundary, E_rx when the attempt began, the iteration cap, iterations of all attempts and of
the last, warm restarts and their bound, whether it may run ahead, is suspended, and is final, its TB tag, block index and C with the flag of
the kiln check, the flags of its result record, and its status once it has ended. -/
structure Job where
  desc     : Bytes
  kind     : Nat
  gen      : Nat
  e        : Nat
  eRx      : Nat
  fed      : Bool
  begun    : Nat
  cap      : Nat
  iters    : Nat
  last     : Nat
  restarts : Nat
  bound    : Nat
  ahead    : Bool
  susp     : Bool
  final    : Bool
  tbTag    : Nat
  block    : Nat
  c        : Nat
  check    : Bool
  combine  : Bool
  early    : Bool
  dropped  : Bool
  newVersion : Bool
  checked  : Bool
  mismatch : Bool
  status   : Option Nat
  dec      : Decode
  deriving DecidableEq, Repr

/-- A transport-block checker of the kiln (07 R248, R249): C, the blocks that have passed and ended, the sum of their contributions, and the
transport block's CRC once the block that carries it has passed. -/
structure Checker where
  c       : Nat
  passed  : List Nat
  ended   : Nat
  sum     : Nat
  crc     : Option Nat
  deriving DecidableEq, Repr

/-- The kiln (07): its jobs by tag, the checker entries by TB tag, and the TB tags whose entry a cancel released, with the blocks of each that
have ended since, none of which is judged as the last (R249). -/
structure Kiln where
  jobs     : Store Job
  checkers : Store Checker
  voided   : Store Nat
  deriving DecidableEq, Repr

/-- A soft-buffer version (06 R210): its number, the carrier that wrote it, its pallets in GDDR7 and their channel (15 R502), TBS, modulation
order and N_cb. Its block table and the LLRs of its blocks stand in its pallets (07 R250, Table 7-5). -/
structure Version where
  number  : Nat
  carrier : Nat
  places  : List Nat
  chan    : Nat
  tbs     : Nat
  qm      : Nat
  ncb     : Nat
  deriving DecidableEq, Repr

/-- An uplink HARQ process (06 R210 to R214): its version number, the committed version, and the course, record and content of an
uncommitted one. -/
structure Harq where
  number    : Nat
  committed : Option Version
  pending   : Option (Nat × Nat × Version)
  deriving DecidableEq, Repr

/-- A UE context (06 R217 to R219): 0 FREE, 1 ACTIVE, 2 RELEASING, its host part, and its device part: the HARQ processes; the
timing-advance and quality history, each entry an estimate in Tc and a SINR in 0.1 dB, newest last (log entry 24); and the weight-bank entry
that the SRS of the UE wrote last. -/
structure Ue where
  state : Nat
  host  : Bytes
  procs : Store Harq
  history : List (Int × Int)
  weights : Option Nat
  deriving DecidableEq, Repr

/-- The pipeline (06): courses under channel × 2³² + course id, UE contexts, the contexts in the on-chip cache with the least recently
used first, and L_enc of each carrier in air units, held from its enable (03 R106); how many courses have been accepted; and whether a carrier
has been enabled since the cold reset (06 R184). -/
structure Pipe where
  courses : Store Course
  ues     : Store Ue
  cache   : List Nat
  lEnc    : Store Int
  accepted : Nat
  started : Bool
  deriving DecidableEq, Repr

/-! ## Weight banks (08) -/

/-- The roles of a bank (08 R289). -/
inductive BankRole | free | front | next | retiring | back
  deriving DecidableEq, Repr

/-- The states of a BACK (08 R289). -/
inductive BackState | copying | opened | committed
  deriving DecidableEq, Repr

/-- A bank (08 R287, R289, R294): its role, its from-boundary in device air time, the weights written of each subband, the CRC-32 of each subband
computed at its last commit, and the subbands whose weights cannot be read (15 R506). -/
structure Bank where
  role  : BankRole
  fromB : Int
  data  : Store Bytes
  crcs  : Store Nat
  bad   : List Nat
  deriving DecidableEq, Repr

/-- A write or a commit that waits for the copy of a BACK (08 R291): a subband and its weights, or `none` for a commit. -/
abbrev HeldWrite := Option (Nat × Bytes)

/-- A weight-bank entry (08 R287 to R293): its geometry, whether it is DELETING, its three banks, the state of the BACK, whether that
was written since the last swap, the writes that wait for its copy, the boundary decided next, and the pallets and the GDDR7 channel of its
banks. -/
structure WbEntry where
  owner    : Nat
  ports    : Nat
  layers   : Nat
  subbands : Nat
  sbPrbs   : Nat
  period   : Nat
  deleting : Bool
  banks    : List Bank
  back     : BackState
  written  : Bool
  held     : List HeldWrite
  nextB    : Int
  pallets  : Nat
  chan     : Nat
  deriving DecidableEq, Repr

/-! ## Units (06, 14, 15, 16) -/

/-- The units that no dictionary object shows, as sets: the transform engines in service and those faulted, the pallet-store slices in service,
and the management cores whose watchdog runs (17 R569); and the second fault of a ring that reads SPLIT (14 R490). -/
structure Units where
  xe     : Nat
  xeBad  : Nat
  slices : Nat
  second : Store Nat
  cores  : Nat
  deriving DecidableEq, Repr

/-- A chain on a hod channel (16 R533 to R545): its user (0 an operation, 1 diagnostics) with the operation's tag; the descriptor that
runs and its address; the descriptors prefetched; HOP_LIMIT as it was at the start; the first descriptor's generation, tag and completion
record; what it has executed, written and poisoned; the addresses of the last 16 descriptors started, newest first; a stop request; and its
status once it has ended. -/
structure Chain where
  user     : Nat
  owner    : Nat
  addr     : Nat
  cur      : Bytes
  ahead    : List (Nat × Bytes)
  limit    : Nat
  gen      : Nat
  tag      : Nat
  record   : Nat
  hops     : Nat
  written  : Nat
  poisoned : Nat
  history  : List Nat
  stop     : Bool
  status   : Option Nat
  last     : Option Nat
  deriving DecidableEq, Repr

/-- The hod engines (16): chains by engine × 16 + channel; the bus error of an engine that waits for its outstanding requests, as its
tick, cause and address (R538); the tick at which a HALTED engine halted; the ticks of the halts of each engine in the last second; and
the bus errors of the last second, each the region's code, the engine and the tick (17 R575). -/
structure Hod where
  chains  : Store Chain
  halting : Store (Nat × Nat × Nat)
  halted  : Store Nat
  halts   : Store (List Nat)
  blame   : List (Nat × Nat × Nat)
  deriving DecidableEq, Repr


/-! ## The emission guard (17) -/

/-- A mute in force (17 R560 to R566): its scope and unit, its causes with the measure of each, those of its first instant, which its
report names, whether it widened another, the tick and the ATS of t_d, the tick of its latest detection, whether it drives MUTE_N, and
whether it is complete. -/
structure Mute where
  scope    : Nat
  unit     : Nat
  causes   : List (Nat × Int)
  fresh    : List (Nat × Int)
  widened  : Bool
  at'      : Nat
  ats      : Nat
  last     : Nat
  pin      : Bool
  complete : Bool
  deriving DecidableEq, Repr

/-- The guard's copy of a carrier's transmit configuration (17 R555), and whether it passes its own CRC. -/
structure Copy where
  duplex      : Int
  numerology  : Int
  frameOffset : Int
  fhDomain    : Int
  fhPort      : Int
  pairPort    : Int
  eaxcBase    : Int
  dlPorts     : Int
  period      : Int
  map         : Bytes
  rampUp      : Int
  rampDn      : Int
  chains      : List Nat
  limit       : Int
  sound       : Bool
  deriving DecidableEq, Repr

/-- The guard (17): the mutes in force; the copies it holds; working − replica in 2⁻⁴⁸ ns and whether a resynchronisation waits for its
wrap (R565); the chains whose static configuration fails its CRC (R558); the tick since which REFCLK_SYS has been within 1,000 ppm;
whether the RTC oscillator stands still (R554); the mute log, oldest first; each scope released and the device air time at which it was (R564); the units lost under R572; and what injections have left:
the units faulted by each kind, and the synthetic conditions that wait for their check (R578). -/
structure Guard where
  mutes    : List Mute
  copies   : Store Copy
  skew     : Int
  resync   : Bool
  badConf  : List Nat
  refGood  : Option Nat
  rtcOff   : Bool
  log      : List Bytes
  reopen   : List (Nat × Nat × Int)
  lost     : List Nat
  injected : List (Nat × Nat)
  synth    : List (Nat × Nat)
  deriving DecidableEq, Repr

/-! ## Tiles (11, 12) -/

/-- A fused job (12 R409 to R424): its class (12 Table 12-1), job tag, kind, generation, descriptor address and operands' extents; whether
it has been sent, has ended and is settled, whether a cancel token is on its way and whether it settled as cancelled; bytes 0 to 3 of its
result record; the copy of the descriptor that the tile made at issue, the device address of each page of tile addresses that its pointers
were translated through, and what the engine has staged, by tile address. -/
structure FusedJob where
  cls       : Nat
  tag       : Nat
  kind      : Nat
  gen       : Nat
  addr      : Nat
  extents   : List Extent
  sent      : Bool
  ended     : Bool
  settled   : Bool
  cancel    : Bool
  cancelled : Bool
  word      : Nat
  desc      : Bytes
  pages     : List (Nat × Nat)
  staged    : List (Nat × Bytes)
  deriving DecidableEq, Repr

/-- The context of a task on a tile slot (11 R364 to R368, R392 to R396): its operation tag and generation, pc and levels; the register
files, each listing what is not zero; vstat, ffr and the control registers, with the pc that F returns to; the window registers; what
the FUSED_EN objects read at its dispatch, the class of each fused slot with the shadow pallets of one, and the jobs by fused slot; its
stores to pallets that are not published yet; the tick of its start; and how it has ended, once it has. -/
structure Ctx where
  tag      : Nat
  gen      : Nat
  pc       : Word
  level    : Nat
  prev     : Nat
  g        : Store Word
  s        : Store Short
  v        : Store Long
  p        : Store Pred
  vstat    : BitVec 32
  ffr      : Word
  kLo      : BitVec 32
  kHi      : BitVec 32
  sEpc     : Word
  sCause   : BitVec 32
  sAddr    : Word
  sScratch : Word
  sTvec    : BitVec 32
  fEpc     : Word
  wins     : Store Word
  enS      : Nat
  enK      : Nat
  slots    : List Nat
  shadow   : Nat
  jobs     : Store FusedJob
  staged   : List Host.Cell
  begun    : Nat
  ended    : Option TaskEnd
  deriving DecidableEq, Repr

/-! ## The fabric and the memories (14, 15) -/

/-- A table of an arbiter (14 R479, R485; 15 R514): what it uses, what a commit will put in its place, the state of that BACK, the table
whose swap at the next boundary is decided, and the ATS of the last swap. -/
structure Arb where
  front     : Bytes
  back      : Bytes
  committed : Bool
  written   : Bool
  next      : Option Bytes
  last      : Nat
  deriving DecidableEq, Repr

/-- A request that a source port holds until its response arrives (14 R466): source port and tag, packet type (14 Table 14-4), device
address and lines (of a MESSAGE its payload and its kind: 0 cancel token, 1 feed, 2 other), the ring, stop and port of its target, the power
domain that serves it, the lines answered, the answers RETRY, the tick of its last injection, or of the answer RETRY after which it waits to
be sent again. -/
structure Held where
  src    : Nat
  tag    : Nat
  type   : Nat
  addr   : Nat
  lines  : Nat
  ring   : Nat
  stop   : Nat
  port   : Nat
  domain : Nat
  got    : Nat
  retry  : Nat
  sentAt : Nat
  resend : Bool
  deriving DecidableEq, Repr

/-- A request that waits in the queue of a channel that retrains (15 R505): channel, source port and tag, the tick of its arrival, the
bytes of each line that it writes, the lines that it reads, and the errors that its access finds. -/
structure Queued where
  chan    : Nat
  src     : Nat
  tag     : Nat
  arrived : Nat
  cells   : List (List Host.Cell)
  lines   : List Nat
  found   : List MemError
  deriving DecidableEq, Repr

/-- A flit on its way (14 Table 14-3): the source and destination port, the tag, the packet type and, of a response, its line; the flits of its packet
after this one, its direction, whether it has crossed a dateline or wrapped (R469, R488), and the links that it has crossed (R460). -/
structure Flit where
  src     : Nat
  dst     : Nat
  tag     : Nat
  type    : Nat
  line    : Nat
  after   : Nat
  acw     : Bool
  crossed : Bool
  hops    : Nat
  deriving DecidableEq, Repr

/-- What the fabric moved in one millisecond (14 R491): its number, the flits that crossed each link, those delivered, and the links that these
had crossed. -/
structure FabricMeter where
  window : Nat
  links  : Store Nat
  flits  : Nat
  hops   : Nat
  deriving DecidableEq, Repr

/-- The fabric (14): the arbiters of the stops by (ring × 48 + stop) × 8 + kind, and those of the GDDR7 channels (15 R514), each listed
where it differs from what reset leaves, and the swap boundary that was tested last of each kind; the requests held, in the order of first
injection, and those that wait at a channel; the source port and tag of the messages that each target has accepted last; the tick at which the
pointers of the phase-locked arbiters were set, and to which entries (R483); the tick at which each ring's faulty link was detected with
whether lock was lost, and the flits that the fold has discarded; and the domains whose closing has been reported (R476); and of the packets on
their way, the flits that each buffer holds, oldest first (R464, R469), the cycle at which each input of an arbiter was granted last (R480), the
packet that holds an output (R481), the cycles of the fabric, and the last flits of the packets that have reached their port and wait there; the
paths of each joint port, by ring × 48 + stop, that are out of service (R490); what this millisecond and the one before moved; and the cycle at
which each input of a channel's arbiter, channel × 8 + input, was granted last (15 R514). -/
structure Mortar where
  arbs      : Store Arb
  mc        : Store Arb
  arbTested : Int
  mcTested  : Int
  reqs      : List Held
  queued    : List Queued
  seen      : Store (List (Nat × Nat))
  phaseAt   : Nat
  phase     : Nat
  mcPhase   : Nat
  broken    : Store (Nat × Bool)
  flits     : Store Nat
  told      : List Nat
  flying    : Store (List Flit)
  grants    : Store Nat
  outputs   : Store Flit
  cycle     : Nat
  arrived   : List Flit
  joints    : Store Nat
  meter     : FabricMeter
  last      : FabricMeter
  mcGrants  : Store Nat
  deriving DecidableEq, Repr

/-- The integrity of the memories (15): the words, and for tile memory the bytes, that answer UNCORRECTABLE (R496); the buckets of units
by kind × 2¹⁶ + unit, with the pages in a list of page and level, the tick of the last leak (R518), the tick of the first error of
each line, and the errors counted at each page; the uncorrectable reads of each channel by their ticks (R506); the errors at each line in
a regime that is not SERVICE (R520), and whether that regime is the recovery of a warm reset (R517); the consecutive EDC mismatches of
each channel, with the address of the access (R505); the error log, oldest first; the lines scrubbed of each channel in this pass; the
channels whose contexts are being rebuilt, and the one that the context reserve serves (R506); the channels of the journal copies in
service, and of the standby region, with whether a rebuild of the mirror runs (R509, R510); the pages that retire when their holder
releases them (R523), and those retired; and the bytes of tile memory that a scrub found bad in a working region, which are overwritten
before the tile's next task (R516). -/
structure Integrity where
  poison   : List Nat
  buckets  : Store Nat
  pages    : List (Nat × Nat)
  leakAt   : Nat
  first    : Store Nat
  pageErrs : Store Nat
  bursts   : Store (List Nat)
  repeats  : Store Nat
  afterWarm : Bool
  edc      : Store (Nat × Nat)
  log      : List Bytes
  scrubbed : Store Nat
  toBuild  : List Nat
  reserve  : Option Nat
  copies   : List Nat
  standby  : Option Nat
  mirror   : Bool
  waiting  : List Nat
  retired  : List Nat
  toZero   : List Nat
  deriving DecidableEq, Repr

/-! ## The fronthaul ports (09) and the front end (10) -/

/-- A sample in a path of a chain: the air instant, in device air time, of the signal that it carries (10 R340), its components, and whether
every filter behind it had refilled since the last reset (R344). -/
structure FilterSample where
  label : Rat
  re    : Int
  im    : Int
  ok    : Bool
  deriving DecidableEq, Repr

/-- What a type 3 section says of the format of its occasion (09 Table 9-3): the offset of its first subcarrier from the carrier's centre in half
subcarriers, the transform size, and the subcarrier spacing in Hz. -/
structure PrachGrid where
  offset  : Int
  size    : Nat
  spacing : Nat
  deriving DecidableEq, Repr

/-- A section of the C-plane (09 R311, R312): its section type and extensions, each with its parameters, its PRBs and symbols as masks, its
beamId, udCompHdr as method and width, and what a section of type 3 says of its format. -/
structure CSection where
  type    : Nat
  exts    : List (Nat × List Nat)
  prbs    : Nat
  symbols : Nat
  beam    : Nat
  comp    : Nat × Nat
  prach   : Option PrachGrid
  deriving DecidableEq, Repr

/-- A section of a U-plane message (09 R312, R316): its PRBs, the method and width of its udCompHdr, the exponents of those PRBs under block
floating point, and its elements as they travel. -/
structure USection where
  prbs : Nat
  comp : Nat × Nat
  exps : List Nat
  iq   : List (Int × Int)
  deriving DecidableEq, Repr

/-- What a frame of the device carries (09 Table 9-2): a U-plane message with its sections; a time-domain message with its payload of Table 9-5;
a C-plane message; a one-way delay message with its time stamp and compensation; or a remote reset request with its Reset ID and Reset Code Op.
Each IQ and control message has its eAxC and its SEQ_ID: sequence, E bit and subsequence id (R306). -/
inductive FrameBody
  | uplane (eaxc seqId symbol : Nat) (sections : List USection)
  | samples (eaxc seqId : Nat) (payload : Bytes)
  | cplane (eaxc seqId : Nat) (sec : CSection)
  | delay (action : OwdAction) (id : Nat) (timePs compPs : Int)
  | reset (id op : Nat)
  deriving DecidableEq, Repr

/-- A frame of the device (09 R304, R306): destination, source, the VLAN_ID and VLAN_PCP of its tag, the first byte of its eCPRI header, which
holds the protocol revision and the C bit, and what it carries. -/
structure OutFrame where
  dst   : Nat
  src   : Nat
  tag   : Option (Nat × Nat)
  ecpri : Nat
  body  : FrameBody
  deriving DecidableEq, Repr

/-- Messages that a port has launched in the last 5 µs (09 R325): the tick of their launch instant and that at which their last bit leaves, the
course and symbol of a U-plane message and the courses of hosted carriers that travel in it (06 R186), or of C-plane messages the device air
time until which they may be sent again, their frames, and the bytes of these. -/
structure Launch where
  tick   : Nat
  ends   : Nat
  key    : Nat
  riders : List Nat
  symbol : Nat
  cplane : Bool
  until' : Int
  frames : List OutFrame
  bytes  : Nat
  deriving DecidableEq, Repr

/-- A frame in the queue of a port: its class of 09 R316 (1 a PTP event message, 3 another frame of the device, 4 a forwarded frame), its bytes,
and the tick at which its last bit leaves. -/
structure QFrame where
  cls   : Nat
  bytes : Nat
  ends  : Nat
  deriving DecidableEq, Repr

/-- A fronthaul port beside its objects: the tick since which alignment holds, while the link comes up (09 R301); whether a frame has
arrived since it last did (01 R62); the windows in a row above FEC_DEGRADE_BER and below half of it (R327); the tick since which the port
has read UP and not DEGRADED (R326); the tick at which the last bit of its scheduled messages leaves; the frames that share the port
with them (R316, R323); and its launches of the last 5 µs. -/
structure PortIo where
  alignAt : Option Nat
  first   : Bool
  above   : Nat
  below   : Nat
  goodAt  : Option Nat
  busy    : Nat
  queue   : List QFrame
  recent  : List Launch
  deriving DecidableEq, Repr

/-- A one-way delay measurement that is open (09 R319): its port, its id, the time stamp t1 in picoseconds of site time, and the tick at
which it began. -/
structure Owd where
  port : Nat
  id   : Nat
  t1   : Int
  at'  : Nat
  deriving DecidableEq, Repr

/-- The fronthaul (09): the ports; the next sequence of each eAxC, plane and direction sent and the one expected of each eAxC received
(R306); the open measurement, its next id, and the Requests with Follow_Up, by port and id, whose Follow_Up has not arrived, with the time of each in picoseconds (R319); the
Reset ID sent last and the tick of a request that waits for its response (R320); the lanes out of service (17 R574, R578); and the samples of each
stream port of a time-domain carrier that fill no message yet, each with whether it is zero-filled (R317). -/
structure Fronthaul where
  ports    : Store PortIo
  txSeq    : Store Nat
  rxSeq    : Store Nat
  owd      : Option Owd
  owdId    : Nat
  owdWait  : List ((Nat × Nat) × Int)
  resetId  : Nat
  resetAt  : Option Nat
  badLanes : Nat
  samples  : Store (List (FilterSample × Bool))
  deriving DecidableEq, Repr

/-- A path of a chain (10 R341, R342): the taps of its FRONT (those of its BACK are the value of RX_TAPS or TX_TAPS), the state of the
BACK and whether it was written; whether a fade is decided for `fadeAt` (device air time) and whether it runs, until `fadeEnd`, over how many
samples; the writes and commits (`none`) that wait for the copy; the CRC-32 of each bank at its commit, and whether the FRONT and, in a fade,
the BACK fail it (R343). -/
structure CoefPath where
  front   : Bytes
  back    : BackState
  written : Bool
  decided : Bool
  fading  : Bool
  fadeAt  : Int
  fadeEnd : Int
  fadeLen : Nat
  held    : List (Option Bytes)
  crc     : Nat
  backCrc : Nat
  bad     : Bool
  backBad : Bool
  deriving DecidableEq, Repr

/-- What the filters of a path of a chain hold (10 R333 to R337, R344): the NCO phase; the label of the next sample that enters, and with none
since the last user the one from which the phase has run without samples; the label of the next sample that leaves; the boundary
of a reset that no sample has reached; the rank window; the CIC's integrators, its combs and the samples since its last output, and how many
outputs since the reset; the half-bands, each with its delay line and the samples since its last output; the delay lines of the resampler
and of the channel filter, newest last; and the samples that left the path with the message or symbol taken
last. -/
structure FilterPath where
  phase  : Nat
  expect : Option Rat
  idle   : Option Rat
  due    : Option Rat
  clear  : Option Int
  window : List FilterSample
  integ  : List (Int × Int)
  combs  : List (Int × Int)
  cicIn  : Nat
  cicOut : Nat
  half   : List (Nat × List FilterSample)
  res    : List FilterSample
  fir    : List FilterSample
  out    : List FilterSample
  deriving DecidableEq, Repr

/-- The power measure of a receive path (10 R347): the output samples of the block in progress, the sum of their squared magnitudes and the THR_BLOCK that it
began with; and the sums and sizes of the blocks that have ended and not been judged, the oldest first. -/
structure ThrMeter where
  count : Nat
  sum   : Nat
  size  : Nat
  ended : List (Nat × Nat)
  deriving DecidableEq, Repr

/-- A DFE chain beside its objects (10): its paths; the last swap boundary that was tested (R342); the threshold state and that of the
last event raised, the power of the block that last changed it, the changes suppressed since the last event, and the tick at which the
holdoff ends (R347); whether the chain is faulted (17 R570); what the filters of its paths hold (R344); and the measure of its power. -/
structure DfeChain where
  tx         : CoefPath
  rx         : CoefPath
  tested     : Int
  high       : Bool
  raised     : Bool
  power      : Int
  suppressed : Nat
  holdEnd    : Option Nat
  faulted    : Bool
  txFilter   : FilterPath
  rxFilter   : FilterPath
  meter      : ThrMeter
  deriving DecidableEq, Repr

/-- The front end (10): the chains that differ from reset; the boundary of a scheduled reset of R346, and that of the last reset of each
chain (R345, R346); for each carrier the opening of the last window that opened, and the instant at which its enable came to read ON, which opens
a window that never closes (R348); and the chain that serves in place of a faulted one (17 R570). -/
structure Dfe where
  chains    : Store DfeChain
  resetAt   : Option Int
  lastReset : Store Int
  opened    : Store Int
  since     : Store Int
  moved     : Store Nat
  deriving DecidableEq, Repr

/-! ## Power and watch (18) -/

/-- A transition of a domain (18 R587, R588, R590): the state it leaves, the state it goes to (0 RUN, 1 TRIM, 2 NAP, 3 OFF), and the tick
at which it began. -/
structure Transition where
  was   : Nat
  to'   : Nat
  since : Nat
  deriving DecidableEq, Repr

/-- An exchange on the AVSBus (18 R589): the target in mV, the repeats after a busy answer and after a bad CRC, the tick at which it is
repeated while it waits, and once it is acknowledged the tick of that and of the last poll. -/
structure Exchange where
  target : Nat
  busy   : Nat
  crc    : Nat
  again  : Option Nat
  acked  : Option Nat
  polled : Nat
  deriving DecidableEq, Repr

/-- VDD_CORE (18 R582, R589): its voltage in mV, the exchange that runs, the one that failed and the tick at which it is repeated,
whether AVS_FAULT has been raised since an exchange last succeeded, and the regulator's transition rate in mV/µs, 0 before a boot has set it. -/
structure Rail where
  mv      : Nat
  run     : Option Exchange
  failed  : Option (Nat × Nat)
  faulted : Bool
  slew    : Nat
  deriving DecidableEq, Repr

/-- The watch sequencer (18 R592 to R598): the boundary of the period of the last alarm, in device air time; whether a wake is in
progress; its captures that have not been compared, and those whose window is open; whether it votes for MGT; whether the device leaves
WATCH after the wake; how far before the latest possible instant the RTC edge of the next alarm falls, in ns; and the captures whose
C-plane message of a period has been sent, by the boundary of that period; and the elements received for a PRACH capture, by capture × 65,536 +
symbol × 128 + port (R593). -/
structure Watch where
  boundary : Int
  awake    : Bool
  left     : List Nat
  opened   : List Nat
  mgt      : Bool
  leaving  : Bool
  early    : Nat
  sent     : Store Int
  rx       : Store (List (Int × Int))
  deriving DecidableEq, Repr

/-- The levels at which pads are held (18 Table 18-4): of GDDR7 channels, command and address at the self-refresh state, the device reset
inactive, data and strobes high-impedance without terminations; of lanes, transmitters at electrical idle and receivers terminated; of the
UCIe mainband, its low-power link state; of xSPI, chip select inactive and the other pads on bus keepers. -/
inductive PadHold | selfRefresh | electricalIdle | lowPowerLink | chipSelectIdle
  deriving DecidableEq, Repr

/-- The power of the part (18): the domains in transition, VDD_CORE, the watch sequencer, and the pads that are latched, by domain (R591). -/
structure Power where
  moving : Store Transition
  rail   : Rail
  watch  : Watch
  pads   : Store PadHold
  deriving DecidableEq, Repr

/-! ## Boot, flash and identity (19), the JTAG port (19 R626) and the attached devices -/

/-- A boot control block (19 Table 19-3): its sequence, the preferred slot (0 A, 1 B) and the trial state (0 NONE, 1 ARMED, 2 TRYING, 3
FAILED). -/
structure Bcb where
  sequence  : Nat
  preferred : Nat
  trial     : Nat
  deriving DecidableEq, Repr

/-- A record of the leaf reservation log (19 R623, R624): its tree and window, and whether it is an advance record, of 32 bytes. -/
structure LeafRecord where
  tree    : Nat
  window  : Nat
  advance : Bool
  deriving DecidableEq, Repr

/-- The boot flash (19 R610): each slot's bytes by offset where they are not 0xFF, the copies of the boot control block that are valid, and
the leaf reservation log, oldest record first. -/
structure Flash where
  slotA : List Host.Cell
  slotB : List Host.Cell
  bcb0  : Option Bcb
  bcb1  : Option Bcb
  log   : List LeafRecord
  deriving DecidableEq, Repr

/-- What the device uses of a verified site image (19 R613 to R616): its signed length and the versions of Tables 19-4 and 19-5, the
dictionary entries, the tile programs, and each tile-memory image as its address and bytes. -/
structure SiteImage where
  length    : Nat
  version   : Nat
  security  : Nat
  fwVersion : Nat
  fwSecurity : Nat
  ownerKey  : Bytes
  entries   : List (Nat × Bytes)
  programs  : List Program
  tileImages : List (Nat × Bytes)
  deriving DecidableEq, Repr

/-- A background operation on the slot that did not boot (19 R619): an erase, bytes to program at an offset, or a verify. -/
inductive Update
  | erase
  | program (offset : Nat) (data : Bytes)
  | verify
  deriving DecidableEq, Repr

/-- The JTAG logic (19 R626): the instruction in force (0 BYPASS, 1 IDCODE, 2 SAMPLE/PRELOAD, 3 EXTEST), what its data register captured,
the preloaded boundary cells, and the cells that EXTEST drives. -/
structure Jtag where
  inst    : Nat
  dr      : Nat
  preload : Nat
  drives  : Option Nat
  deriving DecidableEq, Repr

/-- Boot and identity (19): the flash; the slot that the last cold reset booted (2 none), the next bottom leaf (R623), and the image; the pallets of the image copy (R614);
the background operation and whether a fuse burn runs (R618); whether a report is being signed (R622); whether the supplies are in range, so that
the part has left power-on reset; whether THERMTRIP_N is low (20 R641); the JTAG logic; and the density in Gbit
of the device pair on each GDDR7 channel, 0 for none (15 R498). -/
structure Boot where
  flash   : Flash
  slot    : Nat
  leaf    : Nat
  image   : Option SiteImage
  copy    : Nat
  update  : Option Update
  burning : Bool
  signing : Bool
  powered : Bool
  tripped : Bool
  jtag    : Jtag
  fitted  : List Nat
  deriving DecidableEq, Repr

/-! ## The whole part -/

/-- The whole state. `dict` and `blobs` hold each dictionary object that differs from its factory value, and `image` and
`imageBlobs` each image value that does (05 R157); `freeCtr` is the model's own counter of free values drawn (log entry 12), and
`pending` the commands that wait, first in, first out. -/
structure State where
  dict       : Store Int
  blobs      : Store Bytes
  image      : Store Int
  imageBlobs : Store Bytes
  clock      : Clock
  time       : TimeBase
  nl         : Listen
  link       : Link
  svc        : Service
  pipe       : Pipe
  sched      : Sched
  kiln       : Kiln
  wb         : Store WbEntry
  units      : Units
  hod        : Hod
  guard      : Guard
  tiles      : Store Ctx
  bondWas    : Store Nat
  mortar     : Mortar
  integ      : Integrity
  fh         : Fronthaul
  dfe        : Dfe
  mem        : List Host.Cell
  power      : Power
  boot       : Boot
  freeCtr    : Nat
  pending    : List Instr
  deriving DecidableEq, Repr

/-- Why the machine stops. -/
inductive Fault
  /-- Raised by a meaning whose operand names a unit, carrier, channel, port or other number that the spec says the part does not
  have. Safe: no such command can reach the part. -/
  | noSuchUnit
  deriving DecidableEq, Repr

/-- Why a command has no meaning here. -/
inductive Refusal
  /-- Raised by the dispatch for a command that has no meaning yet. Safe. -/
  | notModelled (mnemonic : String)
  deriving DecidableEq, Repr

/-- A pulse input that has never pulsed (01 R25, R26). -/
def PulseIn.idle : PulseIn := ⟨none, none, 0, 0, 0, false, 0, 0⟩

/-- The servo as a cold reset leaves it (01 R16, R37): everything cleared. -/
def Servo.cleared : Servo :=
  { meas := ⟨none, none, none⟩, err := ⟨none, none, none⟩, unaccepted := ⟨0, 0, 0⟩, refused := ⟨none, none, none⟩,
    qualSince := ⟨none, none, none⟩, restored := ⟨false, false, false⟩, y := 0, window := [], fromHold := false, lockedAt := 0,
    lockedSecs := 0, everLocked := false, ySamples := [], yCount := 0, yHours := [], learnt := 0, slope := 0, hold := none, authMode := 0,
    armedAt := 0, slew := none, step := none, authSrc := none, lastRefused := none, limitClose := false, limitFrom := 0, limitUntil := none,
    dcoPulses := 0, lastErr := 0, lastUpdate := 0 }

/-- The time base as a cold reset leaves it. -/
def TimeBase.cleared : TimeBase :=
  { pps := .idle, dfeSync := .idle, gnss := ⟨none, [], false, false, 0⟩, servo := .cleared, ptp := [], offsets := [],
    ptpSent := none, residence := [], laneLock := [], captures := [], ppsRise := 0, ppsFall := 0,
    ppsTrig := false, updates := [], pulses := [] }

/-- 315,964,819 s, the factory AIR_EPOCH (03 R88), in 2⁻⁴⁸ ns. -/
def factoryEpoch : Nat := 315964819 * 1000000000 * 2 ^ 48

/-- The counter cleared (01 R16). -/
def Clock.cleared : Clock := ⟨0, 0, 0, factoryEpoch, none⟩

/-- Network listen out of service (02); the digital gain starts at 0 dB (log entry 46). -/
def Listen.off : Listen := ⟨none, 0, false, false, 0, 0, [], 0, 0, [], false, []⟩

/-- A channel as a session opens it (04 R126), before any credits. -/
def Channel.fresh : Channel :=
  { module := 0, nextReq := 1, nextOut := 1, sendNext := 1, lastReq := 0, lastSent := 0, lastAcked := 0, lastVerdict := 0, verdicts := [], outcomes := [],
    hostCredits := 0, grant := 0, owed := 0, req := none, claims := [], takeover := false, replay := [] }

/-- The link after a power-on reset: no session, both modules untrained. -/
def Link.down : Link :=
  { m0 := ⟨false, none⟩, m1 := ⟨false, none⟩, module0 := 0, map := 0xAAAAAAAAAAAAAAAA, holder := 0, cause := 0, suspended := 0, chans := [],
    waiting := [], indSeq := 1, sent := [], flight := [], retries := 0, side0 := [], side1 := [], stream0 := ⟨[], false⟩, stream1 := ⟨[], false⟩,
    journal := [] }

/-- The dictionary service with nothing in progress. -/
def Service.idle : Service := ⟨[], none, none, none, [], [], [], []⟩

/-- The scheduler with nothing issued. -/
def Sched.idle : Sched := ⟨[], [], 1, none, [], [], [], []⟩

/-- The guard as power-on leaves it (17 R559): nothing muted by a cause, its gates shut by GUARD_STATE; the RTC oscillator does not run yet (20
R636). -/
def Guard.starting : Guard := ⟨[], [], 0, false, [], some 0, true, [], [], [], [], []⟩

/-- The fabric with nothing in flight. -/
def Mortar.quiet : Mortar := ⟨[], [], 0, 0, [], [], [], 0, 0, 0, [], [], [], [], [], [], 0, [], [], ⟨0, [], 0, 0⟩, ⟨0, [], 0, 0⟩, []⟩

/-- The memories with no error known; the journal regions lie where their objects say (15 R508). -/
def Integrity.fresh : Integrity :=
  { poison := [], buckets := [], pages := [], leakAt := 0, first := [], pageErrs := [], bursts := [], repeats := [], afterWarm := false
    edc := [], log := [], scrubbed := [], toBuild := [], reserve := none, copies := [], standby := none, mirror := false, waiting := []
    retired := [], toZero := [] }

/-- The ports with every link down. -/
def PortIo.down : PortIo := ⟨none, false, 0, 0, none, 0, [], []⟩

/-- The fronthaul with nothing in progress (09). -/
def Fronthaul.idle : Fronthaul := ⟨[], [], [], none, 0, [], 0, none, 0, []⟩

/-- A path of a chain with its factory taps (10 Table 10-7): one tap of 131,071 in each bank, and its CRC-32. -/
def CoefPath.factory : CoefPath :=
  { front := [0xFF, 0xFF, 0x01, 0x00], back := .opened, written := false, decided := false, fading := false, fadeAt := 0, fadeEnd := 0
    fadeLen := 0, held := [], crc := 0x58C2DC41, backCrc := 0x58C2DC41, bad := false, backBad := false }

/-- The filters of a path after a reset: the phase at 0, and nothing in them (10 R344). -/
def FilterPath.cleared : FilterPath := ⟨0, none, none, none, none, [], [], [], 0, 0, [], [], [], []⟩

/-- A chain as a cold reset leaves it (10). -/
def DfeChain.factory : DfeChain := ⟨.factory, .factory, 0, false, false, 0, 0, none, false, .cleared, .cleared, ⟨0, 0, 0, []⟩⟩

/-- The front end as a cold reset leaves it (10). -/
def Dfe.fresh : Dfe := ⟨[], none, [], [], [], []⟩

/-- Power as a reset leaves it: nothing in transition, VDD_CORE at the start-up value of its regulator (20 Table 20-4), no WATCH. -/
def Power.idle : Power := ⟨[], ⟨700, none, none, false, 0⟩, ⟨0, false, [], [], false, false, 0, [], []⟩, []⟩

/-- A flash that nothing has been written to (log entry 38). -/
def Flash.blank : Flash := ⟨[], [], none, none, []⟩

/-- The part before its first boot: a blank flash, supplies not yet in range, and a pair of 32 Gbit devices on every GDDR7 channel (log
entry 38). -/
def Boot.fresh : Boot :=
  { flash := .blank, slot := 2, leaf := 0, image := none, copy := 0, update := none, burning := false, signing := false, powered := false
    tripped := false, jtag := ⟨1, 0, 0, none⟩, fitted := List.replicate 16 32 }

/-- The part in power-on reset, before its supplies are in range (20 R632): what POWER_ON_RESET then boots. -/
def State.reset : State :=
  { dict := [], blobs := [], image := [], imageBlobs := [], clock := .cleared, time := .cleared, nl := .off, link := .down,
    svc := .idle, pipe := ⟨[], [], [], [], 0, false⟩, sched := .idle, kiln := ⟨[], [], []⟩, wb := [],
    units := ⟨0xFFFF, 0, 0xFFFFFF, [], 0xF⟩, hod := ⟨[], [], [], [], []⟩, guard := .starting, tiles := [], bondWas := [],
    mortar := .quiet, integ := .fresh, fh := .idle, dfe := .fresh, mem := [], power := .idle, boot := .fresh, freeCtr := 0, pending := [] }

end Sys2Proof.Machine
end

