-- ==== Sys2Proof/Machine/Messages.lean ====
section
/-! DEFINITION. The bytes of the messages that the device sends (04 R115, R121 to R124, R132, Tables 4-1 to 4-11; 05 Table 5-7; 19 R609), and how a
channel carries them: on the mainband in units of 32 bytes, on the sideband in messages of 8 bytes. -/

namespace Sys2Proof.Machine

/-- The header of a message (04 Table 4-1); flags bit 0 is REPLAY and bit 1 SEGMENT (Table 4-2). -/
def msgHeader (type flags length chan seq course gen ats : Nat) : Bytes :=
  leBytes 2 type ++ leBytes 2 flags ++ leBytes 4 length ++ leBytes 2 chan ++ leBytes 6 seq ++ leBytes 4 course ++ leBytes 1 gen
    ++ leBytes 3 0 ++ leBytes 8 ats

/-- ACCEPT or REFUSE (04 Table 4-6). -/
def verdictBytes (chan : Nat) (v : Verdict) (replay : Bool) : Bytes :=
  let ok := v.reason == .ok
  msgHeader (if ok then 0x0201 else 0x0202) (if replay then 1 else 0) 48 chan v.seq v.course v.gen v.ats
    ++ leBytes 2 v.type ++ leBytes 2 v.reason.code ++ leBytes 4 v.credits
    ++ (if ok then leBytes 6 v.outSeq else leBytes 4 (codeOf 32 v.excess) ++ leBytes 2 0) ++ leBytes 2 0

/-- OUTCOME (04 Table 4-7). -/
def outcomeBytes (chan : Nat) (o : Outcome) (replay : Bool) : Bytes :=
  msgHeader 0x0210 (if replay then 1 else 0) (64 + pad8 o.body.length) chan o.seq o.course o.gen o.ats
    ++ leBytes 6 o.reqSeq ++ leBytes 1 o.result ++ leBytes 1 o.flags ++ leBytes 2 o.revOk ++ leBytes 2 o.revRef
    ++ leBytes 4 o.body.length ++ leBytes 8 o.airTime ++ leBytes 8 0 ++ padTo 8 o.body

/-- INDICATION (04 Table 4-9). -/
def indicationBytes (seq : Nat) (i : Indication) : Bytes :=
  msgHeader 0x0220 0 (64 + pad8 i.detail.length) 0 seq i.course i.gen i.ats
    ++ leBytes 2 (i.key / 256) ++ leBytes 1 (i.key % 256) ++ leBytes 1 0 ++ leBytes 4 i.value.toNat ++ leBytes 16 i.stime
    ++ leBytes 2 i.unit ++ leBytes 2 i.detail.length ++ leBytes 4 0 ++ padTo 8 i.detail

/-- DICT_REPLY (05 Table 5-7). -/
def dictReplyBytes (r : DictReply) : Bytes :=
  msgHeader 0x0303 (if r.segment then 2 else 0) (64 + pad8 r.data.length) 0 r.seq 0 0 0
    ++ leBytes 2 r.type ++ leBytes 2 r.reason.code ++ leBytes 2 (r.key / 256) ++ leBytes 1 (r.key % 256) ++ leBytes 1 r.layer
    ++ leBytes 4 r.offset ++ leBytes 4 r.data.length ++ leBytes 4 r.total ++ leBytes 1 r.enable ++ leBytes 11 0 ++ padTo 8 r.data

/-- RESUME_REPLY (04 Table 4-11). -/
def resumeReplyBytes (r : ResumeReply) : Bytes :=
  msgHeader 0x0402 0 1088 0 r.seq 0 0 0
    ++ leBytes 2 r.reason.code ++ leBytes 1 r.state ++ leBytes 1 r.cause ++ leBytes 16 r.holder ++ leBytes 4 r.badChan ++ leBytes 8 0
    ++ r.entries.flatMap fun e => leBytes 6 e.expected ++ leBytes 6 e.outcome ++ leBytes 4 e.credits

/-- The bytes of a message; the boot-state report is no Cenen message, and its eight bytes are those of 19 R609. -/
def Sent.bytes : Sent → Bytes
  | .verdict chan v replay => verdictBytes chan v replay
  | .outcome chan o replay => outcomeBytes chan o replay
  | .indication seq i => indicationBytes seq i
  | .dictReply r => dictReplyBytes r
  | .resumeReply r => resumeReplyBytes r
  | .bootReport _ state slot reason version => leBytes 1 state ++ leBytes 1 slot ++ leBytes 2 reason ++ leBytes 4 version

/-- The channel of a message. -/
def Sent.chan : Sent → Nat
  | .verdict c _ _ => c
  | .outcome c _ _ => c
  | _ => 0

/-- SB_VENDOR_ID (04 Table 4-13). -/
def sbVendor : Nat := 0x5A1C

/-- The units of 32 bytes that carry a message of a course channel, the last filled with zeros (04 R121). -/
def Sent.stream (m : Sent) : List Bytes :=
  if m.chan == 0 then [] else packetsOf 32 (m.bytes.length + 1) (padTo 32 m.bytes)

/-- The sideband messages that carry a message of channel 0 with code 0x00, or the boot-state report with code 0x01 (04 R115). -/
def Sent.side (m : Sent) : List SideMsg :=
  if m.chan != 0 then []
  else
    let code := match m with
      | .bootReport .. => 1
      | _ => 0
    (packetsOf 8 (m.bytes.length + 1) m.bytes).map fun b => ⟨sbVendor, code, b⟩

/-- The module that carries a message (04 R117): that of its course channel; for channel 0 the sideband of u0, and of u1 from the loss of u0
until it has returned. The boot-state report goes out on each. -/
def Link.carrier (l : Link) (m : Sent) : Nat :=
  match m with
  | .bootReport module _ _ _ _ => module
  | m => if m.chan == 0 then l.module0 else (Store.at .fresh l.chans m.chan).module

end Sys2Proof.Machine
end

