-- ==== Sys2Proof/Machine/Ops.lean ====
section
/-! DEFINITION. The named operations over the state that every family shares: byte strings, dictionary objects and counters, the
clock, air time, events and memory. -/

namespace Sys2Proof.Machine

/-! ## Dictionary objects -/

/-- The value of a numeric object in the current layer. -/
def State.obj (s : State) (key : Nat) : Int := Store.at (factory key) s.dict key

/-- The value of an object that is never negative. -/
def State.nat (s : State) (key : Nat) : Nat := (s.obj key).toNat

/-- The state with a numeric object's value replaced. -/
def State.setObj (s : State) (key : Nat) (v : Int) : State := { s with dict := Store.putD (factory key) s.dict key v }

/-- The value of a STR or BLOB object. -/
def State.blob (s : State) (key : Nat) : Bytes := Store.at (blobFactory key) s.blobs key

/-- The state with a STR or BLOB object's value replaced. -/
def State.setBlob (s : State) (key : Nat) (v : Bytes) : State :=
  { s with blobs := Store.putD (blobFactory key) s.blobs key v }

/-- One past the highest value of a counter (05 R164). -/
def counterTop (key : Nat) : Nat :=
  match rowOf key with
  | some r => match r.type.size with
    | some n => 2 ^ (8 * n)
    | none => 2 ^ 32
  | none => 2 ^ 32

/-- A counter advanced by `n`, wrapping after its maximum (05 R164). -/
def State.bump (s : State) (key n : Nat) : State := s.setObj key ((s.nat key + n) % counterTop key : Nat)

/-- A change of a current value of an RW or RWE object, from any source, which CHANGE_COUNT counts (05 R162). -/
def State.change (s : State) (key : Nat) (v : Int) : State :=
  if s.obj key = v then s else (s.setObj key v).bump O.changeCount 1

/-- A change of the current value of a STR or BLOB object (05 R162). -/
def State.changeBlob (s : State) (key : Nat) (v : Bytes) : State :=
  if s.blob key = v then s else (s.setBlob key v).bump O.changeCount 1

/-- The states of an enable object (05 Table 5-8). -/
def stOff : Int := 0
/-- In service. -/
def stOn : Int := 1
/-- Enable requested, check deferred. -/
def stPending : Int := 2
/-- Shut-down in progress. -/
def stStopping : Int := 3

/-- Whether an enable object reads OFF. -/
def State.isOff (s : State) (key : Nat) : Bool := s.obj key == stOff

/-- Whether an enable object reads ON. -/
def State.isOn (s : State) (key : Nat) : Bool := s.obj key == stOn

/-- Whether a function holds its resources: its enable reads ON, STOPPING or PENDING (05 R174). -/
def State.holds (s : State) (key : Nat) : Bool := s.obj key != stOff

/-- Whether every carrier's enable reads OFF. -/
def State.noCarrier (s : State) : Bool := (List.range 64).all fun n => s.isOff (O.carrierEnable n)

/-- The sum of a figure over the first `n` units. -/
def sumOver (n : Nat) (f : Nat → Nat) : Nat := ((List.range n).map f).sum

/-! ## Site time -/

/-- 2⁻⁴⁸ ns in one nanosecond. -/
def nsUnit : Nat := 2 ^ 48

/-- 2⁻⁴⁸ ns in one second. -/
def secUnit : Nat := 1000000000 * 2 ^ 48

/-- The seconds field of a count of site time (01 R12). -/
def secondsOf (count : Nat) : Nat := count / secUnit % 2 ^ 48

/-- The nanoseconds field. -/
def nanosOf (count : Nat) : Nat := count % secUnit / nsUnit

/-- A count as a STIME value (05 Table 5-2): fraction, nanoseconds, seconds, from the low end. -/
def stimeOf (count : Nat) : Nat := count % nsUnit / 2 ^ 16 + 2 ^ 32 * nanosOf count + 2 ^ 64 * secondsOf count

/-- The count that a STIME value stands for, its hidden bits zero. -/
def countOf (stime : Nat) : Nat := stime / 2 ^ 64 * secUnit + stime / 2 ^ 32 % 2 ^ 32 * nsUnit + stime % 2 ^ 32 * 2 ^ 16

/-- A count in picoseconds, rounded down. -/
def psOf (count : Nat) : Int := (count * 1000 / nsUnit : Nat)

/-- Picoseconds as a count. -/
def countOfPs (ps : Int) : Nat := ps.toNat * nsUnit / 1000

/-- Ticks of the 156.25 MHz clock in a duration, rounded up: 6.4 ns each. -/
def ticksOfNs (ns : Nat) : Nat := ceilDiv (5 * ns) 32

/-- The nominal increment of Table 1-1, in 2⁻⁴⁸ ns. -/
def nominalIncr : Nat := 6 * nsUnit + 0x66666666 * 2 ^ 16 + 0x6666

/-- The part of f that the working increment carries (01 R14, R61): all of it, or with STEER_MODE 1 the residue below one
DCO_STEP. -/
def State.steered (s : State) : Int :=
  if s.obj O.steerMode == 1 && s.obj O.dcoStep != 0 then (s.obj O.freqWord).tmod (s.obj O.dcoStep) else s.obj O.freqWord

/-- The working increment (01 R14): 6.4 ns × (1 + f × 2⁻⁴⁴) with 48 fractional bits. With f 0 it is Table 1-1; otherwise whether
its last bit is rounded up, where the product is not whole, is a free value (log entry 10). -/
def incrOf (f : Int) : Nat :=
  if f = 0 then nominalIncr
  else ((512 * (2 ^ 44 + f)) / 5).toNat + (if 512 * (2 ^ 44 + f) % 5 ≠ 0 && Config.incRoundUp f then 1 else 0)

/-- A count from which the next nanoseconds wrap is the last before it: the wraps passed (01 R12, R47). -/
def wrapsBetween (c c' : Nat) : Nat := c' / secUnit - c / secUnit

/-- The count of the first nanoseconds wrap after a count. -/
def nextWrap (c : Nat) : Nat := (c / secUnit + 1) * secUnit

/-- A second of a pulse input ends (01 R28, R29): its clean seconds and seconds without an edge are carried on. -/
def PulseIn.roll (p : PulseIn) (isPps : Bool) : PulseIn :=
  let clean := p.strays == 0 && (!isPps || p.expected == 1)
  { p with edges := 0, strays := 0, expected := 0
           clean := if p.counting && clean then p.clean + 1 else 0
           missed := if p.expected == 0 then p.missed + 1 else 0 }

/-- What happens at every nanoseconds wrap of itself (01 R47): the seconds of the pulse qualifiers end, and a resynchronisation of the
guard's replica that waits is done (17 R565). -/
def onWrap (s : State) : State :=
  let s := if s.guard.resync then { s with guard := { s.guard with skew := 0, resync := false } } else s
  { s with time := { s.time with pps := s.time.pps.roll true, dfeSync := s.time.dfeSync.roll false } }

/-- `n` wraps. -/
def onWraps : Nat → State → State
  | 0, s => s
  | n + 1, s => onWraps n (onWrap s)

/-- The wraps whose event is still to come, `after` counts after each, when the next wrap has come at `w`: one whose instant has passed
without it is forgotten. -/
def stillDue (after w : Nat) (l : List Nat) : List Nat := (l.filter fun u => decide (w < u + after)) ++ [w]

/-- A wrap has come: the servo's update and the pulse of PPS_OUT that follow it are due (01 R47, R65, R644). -/
def TimeBase.wrapped (count : Nat) (t : TimeBase) : TimeBase :=
  let w := count / secUnit * secUnit
  { t with updates := stillDue (10000000 * nsUnit) w t.updates, pulses := stillDue (secUnit / 2) w t.pulses }

/-- `n` ticks pass (01 R12, R14, R18): the counter advances by the working increment, the independent legacy counter by
LEGACY_INCR in mode 1, and each wrap passed has its effect. -/
def advance (s : State) (n : Nat) : State :=
  let c' := s.clock.count + n * incrOf s.steered
  let legacy := if s.obj O.legacyMode == 1 then (s.clock.legacy + n * s.nat O.legacyIncr) % 2 ^ 88 else s.clock.legacy
  let wraps := wrapsBetween s.clock.count c'
  let s := onWraps wraps s
  let s := { s with time := if wraps = 0 then s.time else s.time.wrapped c' }
  { s with clock := { s.clock with count := c', ticks := s.clock.ticks + n, legacy := legacy } }

/-- Time passes to an instant of site time, if it lies ahead: to the first tick at which the counter is not earlier. -/
def advanceTo (s : State) (count : Nat) : State :=
  if count ≤ s.clock.count then s else advance s (ceilDiv (count - s.clock.count) (incrOf s.steered))

/-- Time passes until a count of ticks since power-on, if it lies ahead. -/
def advanceTicks (s : State) (tick : Nat) : State := advance s (tick - s.clock.ticks)

/-- The derived or the independent legacy view (01 R18). -/
def State.legacyNs (s : State) : Nat :=
  if s.obj O.legacyMode == 1 then s.clock.legacy / 2 ^ 24
  else (secondsOf s.clock.count * 1000000000 + nanosOf s.clock.count) % 2 ^ 64

/-! ## Air time -/

/-- Whether air time is defined (03 R91). -/
def State.airRunning (s : State) : Bool := s.obj O.timeValid == 1 && s.clock.epoch ≤ s.clock.count

/-- Device air time of a count of site time (03 R88), since the epoch in force. -/
def State.airOf (s : State) (count : Nat) : Int := (((count : Int) - s.clock.epoch) * 6144) / (nsUnit : Nat)

/-- Device air time now. -/
def State.airNow (s : State) : Int := s.airOf s.clock.count

/-- The count of site time of an instant of device air time: the first not earlier than it. -/
def State.countOfAir (s : State) (a : Int) : Nat := ((s.clock.epoch : Int) + -((-(a * (nsUnit : Nat))) / 6144)).toNat

/-- The stamp of a count of site time, exact to the 2⁻¹⁵ Tc of its last bit (03 R88, R91). -/
def State.atsOfCount (s : State) (count : Nat) : Nat :=
  stampAts ((((count : Int) - s.clock.epoch) * (6144 * 2 ^ 15)) / ((3125 * nsUnit : Nat) : Int))

/-- The linear count of a stamp in Tc (03 R90). -/
def linearOf (ats : Nat) : Nat :=
  ((ats / 2 ^ 50 % 2 ^ 14 * 1024 + ats / 2 ^ 40 % 1024) * 10 + ats / 2 ^ 36 % 16) * 1966080 + ats / 2 ^ 15 % 2 ^ 21

/-- The stamp of now, 0 while air time is undefined (03 R91). -/
def State.atsNow (s : State) : Nat := if s.airRunning then s.atsOfCount s.clock.count else 0

/-- Units in a 10 ms frame. -/
def airFrame : Int := 10000000 * 6144

/-- The first frame boundary of device air time later than an instant. -/
def nextFrame (a : Int) : Int := (a / airFrame + 1) * airFrame

/-- Time passes to an instant of device air time, if it lies ahead (03 R93). -/
def advanceToAir (s : State) (a : Int) : State := advanceTo s (s.countOfAir a)

/-- The instant of device air time nearest to now whose linear count is that of a carrier's stamp (03 R88, R90). -/
def State.airOfLinear (s : State) (tc : Nat) : Int :=
  let now := s.airNow / airTc
  let d := ((tc : Int) - now) % (airModulus : Nat)
  (now + (if d ≤ (airModulus / 2 : Nat) then d else d - (airModulus : Nat))) * airTc

/-! ## Events -/

/-- An event (04 R131, 05 R162): its counter advances by one, and an INDICATION of it waits to be sent; when 64 wait already the
newest is discarded and counted. -/
def raiseFor (s : State) (key unit : Nat) (detail : Bytes) (course gen : Nat) : State :=
  let s := s.bump key 1
  if s.link.waiting.length ≥ 64 then s.bump O.indicationsDropped 1
  else
    let i : Indication := ⟨key, s.obj key, stimeOf s.clock.count, unit, detail, course, gen, s.atsNow⟩
    { s with link := { s.link with waiting := s.link.waiting ++ [i] } }

/-- An event of a course of generation 0, or of none, where the course is 0. -/
def raise (s : State) (key unit : Nat) (detail : Bytes) (course : Nat) : State := raiseFor s key unit detail course 0

/-- Whether the adapter has acknowledged the last flit of a message by now (log entry 48). -/
def Flight.acked (f : Flight) (tick : Nat) : Bool := decide (f.sentAt + Config.ackTicks f.number ≤ tick)

/-- The device sends a message to the host: it goes out on the module of its channel, and is held until the adapter has acknowledged it (04
R117, R118). Flit retries count on the way (R149; log entry 48). -/
def State.send (s : State) (m : Sent) : State :=
  let n := s.link.sent.length
  let f : Flight := ⟨m, s.link.carrier m, n, s.clock.ticks, m.stream, m.side⟩
  { s with link := { s.link with
      sent := s.link.sent ++ [m], retries := s.link.retries + Config.flitRetries n
      flight := (s.link.flight.filter fun x => !x.acked s.clock.ticks) ++ [f] } }

/-- The next free value of the spec's open choices (log entry 12): a word that nothing constrains, and the counter advanced. -/
def State.free (s : State) : Word × State := (Config.freeWord s.freeCtr, { s with freeCtr := s.freeCtr + 1 })

/-- A signed value written to a field of `bits` bits: itself where it fits, and otherwise a free value, for which the spec states no
result (log entry 15). -/
def fitSigned (bits : Nat) (v : Int) (s : State) : Int × State :=
  if -(2 ^ (bits - 1) : Int) ≤ v ∧ v < 2 ^ (bits - 1) then (v, s)
  else (signedOf bits (s.free.1.toNat % 2 ^ bits), s.free.2)

/-- A quotient that the spec computes exactly and the part stores as an integer: rounded down or up as the free value of log entry 10
has it, exact where it is a whole number. -/
def freeDiv (tag : Nat) (num den : Int) : Int :=
  if num % den = 0 then num / den else num / den + (if Config.roundUp tag num den then 1 else 0)

/-! ## Memory: the device address space of 15 R493, a byte that is not listed reading 0 (log entry 6) -/

/-- The canonical form: addresses strictly rising, and no byte listed that is 0. -/
abbrev Memory.wf (m : List Host.Cell) : Bool := Store.wf (fun _ => (0 : Byte)) m

/-- The byte at a device address. -/
def memByte (m : List Host.Cell) (a : Nat) : Byte := Store.at 0 m a

/-- Memory with one byte written. -/
def memPut (m : List Host.Cell) (a : Nat) (b : Byte) : List Host.Cell := Store.putD 0 m a b

/-- Memory with every byte of a list written, first to last. -/
def memPutAll (cells : List Host.Cell) (m : List Host.Cell) : List Host.Cell := cells.foldl (fun m c => memPut m c.1 c.2) m

/-- The `n` bytes from an address. -/
def memBytes (m : List Host.Cell) (a n : Nat) : Bytes := (List.range n).map fun i => memByte m (a + i)

/-- The bytes of a string, each with its address from `a` on. -/
def cellsAt : Nat → Bytes → List Host.Cell
  | _, [] => []
  | a, b :: t => (a, b) :: cellsAt (a + 1) t

/-- Memory with a byte string written from an address. -/
def memWrite (m : List Host.Cell) (a : Nat) (b : Bytes) : List Host.Cell := memPutAll (cellsAt a b) m

/-- Memory with the `n` bytes from an address 0. -/
def memClear (m : List Host.Cell) (a n : Nat) : List Host.Cell := m.filter fun c => !(a ≤ c.1 && c.1 < a + n)

/-- Memory with `n` bytes copied. -/
def memCopy (m : List Host.Cell) (src dst n : Nat) : List Host.Cell :=
  memPutAll ((m.filter fun c => src ≤ c.1 && c.1 < src + n).map fun c => (c.1 - src + dst, c.2)) (memClear m dst n)

/-! ## Registers of log records -/

/-- The first bytes of a log record (02 Table 2-6, 05 Table 5-15): seconds in 48 bits and nanoseconds in 32. -/
def stampBytes (count : Nat) : Bytes := leBytes 6 (secondsOf count) ++ leBytes 4 (nanosOf count)

end Sys2Proof.Machine
end

