-- ==== Sys2Proof/Machine/Service.lean ====
section
/-! DEFINITION. The dictionary service (05): the tests of a transfer, its reply, the handling of an enable object, and the log of
checks. What a write of each object does stands with its family. -/

namespace Sys2Proof.Machine

/-- The value that a transfer writes: a number for a fixed-size type, bytes for a STR or BLOB. -/
inductive Val
  | num (v : Int)
  | bytes (b : Bytes)
  deriving DecidableEq, Repr

/-- The bytes of a value of an object's type (05 Table 5-2). -/
def encodeVal (t : ObjType) (v : Val) : Bytes :=
  match v, t.size with
  | .num v, some n => leBytes n (codeOf (8 * n) v)
  | .num v, none => leBytes 8 (codeOf 64 v)
  | .bytes b, _ => b

/-- The value that bytes spell for an object's type. -/
def decodeVal (t : ObjType) (b : Bytes) : Val :=
  match t.size with
  | some n => .num (if t.signed then signedOf (8 * n) (leNat b) else leNat b)
  | none => .bytes b

/-! ## The tests of 05 R168 -/

/-- The gang of a chain that holds its configuration. -/
def State.gang (s : State) (c : Nat) : Nat := s.nat (O.dfeGang c)

/-- Whether the gang of a chain below takes a chain in (10 R330): the first chain of a gang is a multiple of G and holds DFE_GANG = G. -/
def State.inGang (s : State) (c : Nat) : Bool :=
  (c % 4 != 0 && s.gang (c / 4 * 4) == 4) || (c % 2 == 1 && s.gang (c - 1) == 2)

/-- DFE_USER as it reads (10 R330): 0x81 on each other chain of a gang, a user that it had before standing until its release. -/
def State.chainUser (s : State) (c : Nat) : Int :=
  if s.obj (O.dfeUser c) == 0xFF && s.inGang c then 0x81 else s.obj (O.dfeUser c)

/-- The condition of the RWE objects whose descriptor names a compound condition (05 R155), each as its chapter states it: 01 R66,
03 R92, 06 R228, 07 R263, 08 R296, 10 R331 and R352, 15 R525. -/
def compoundOk (key : Nat) (s : State) : Bool :=
  let index := key / 256
  if index == 0x2060 then
    (List.range 24).all fun p => s.obj (O.portPtpRole p) == 0 || s.isOff (O.portEnable p)
  else if index == 0x2600 || (0x2640 ≤ index && index < 0x2680) then s.noCarrier && s.isOff O.nlEnable
  else if index == 0x4200 && key != O.wbPoolPallets then !(Store.find s.wb (s.nat O.wbIndex)).isSome
  else if 0x5000 ≤ index && index < 0x5080 then s.chainUser (index - 0x5000) == 0xFF
  else if 0x5500 ≤ index && index < 0x5510 then
    s.obj (O.txgCarrier (index - 0x5500)) == 0xFF || s.isOff (O.carrierEnable (s.nat (O.txgCarrier (index - 0x5500))))
  else s.noCarrier

/-- Test 3 for a write: the access class, with every part of an RWE condition that does not depend on the value written (05 R154,
R155, R168). -/
def accessTest (r : ObjRow) (key : Nat) (s : State) : Reason :=
  match r.acc with
  | .ro | .const => .readOnly
  | .rw | .wo => .ok
  | .rwe =>
    match r.owner with
    | .at k stride => if s.isOff (k + stride * ((key / 256 - r.base) / r.stride)) then .ok else .enabled
    | .compound => if compoundOk key s then .ok else .enabled
    | .none => .ok

/-- Test 4, for the data of a write: a value of no bytes is of a wrong length. -/
def countTest (length : Nat) : Reason := if length == 0 then .typeLength else .ok

/-- Test 4: the length rules of 05 R153. -/
def lengthTest (r : ObjRow) (length : Nat) : Reason :=
  match r.type.size with
  | some n => if length == n then .ok else .typeLength
  | none => if r.allows length then .ok else .typeLength

/-- Test 5: the allowed values of 05 R153. -/
def valueTest (r : ObjRow) (v : Val) : Reason :=
  match v with
  | .num n => if r.allows n then .ok else .valueRange
  | .bytes b =>
    if r.type == .str && !(b.all fun c => 0x20 ≤ c.toNat && c.toNat ≤ 0x7E) then .valueRange else .ok

/-- Test 6: the part of a compound condition that depends on the value written (05 R155, 10 R352): the carrier that a write of
TXG_CARRIER names must read OFF. -/
def newCarrierTest (key : Nat) (v : Val) (s : State) : Reason :=
  match v with
  | .num n =>
    if 0x5500 ≤ key / 256 && key / 256 < 0x5510 && key % 256 == 1 && n != 0xFF && !s.isOff (O.carrierEnable n.toNat)
    then .enabled else .ok
  | .bytes _ => .ok

/-- The first reason of a list that is not OK. -/
def firstReason : List Reason → Reason
  | [] => .ok
  | r :: t => if r = .ok then firstReason t else r

/-- Whether a DICT_WRITE finds no session that serves it: only an ACTIVE one does (05 R167), but a write of SESSION_HOLD applies at once during a
suspension (04 R148; log entry 41). -/
def lacksSession (key : Nat) (s : State) : Bool := s.obj O.sessionState != 1 && !(key == O.sessionHold && s.obj O.sessionState == 2)

/-- Tests 1 to 6 of 05 R168 on a whole value. A DICT_WRITE is served only in an ACTIVE session (05 R167). -/
def writeTests (key length : Nat) (v : Val) (s : State) : Reason :=
  if lacksSession key s then .noSession
  else if !indexDefined (key / 256) then .noObject
  else if key % 256 == 0 then .readOnly
  else match rowOf key with
    | none => .noSub
    | some r => firstReason [accessTest r key s, countTest length, lengthTest r length, valueTest r v, newCarrierTest key v s]

/-! ## Replies -/

/-- Whether an object is an enable object (05 R172). -/
def isEnable (key : Nat) : Bool :=
  match rowOf key with
  | some r => r.flags % 2 == 1
  | none => false

/-- Byte 52 of a reply (05 Table 5-7). -/
def enableByte (key : Nat) (s : State) : Nat := if isEnable key then s.nat key else 0xFF

/-- The counters of a reply (05 Table 5-14). -/
def countReply (r : Reason) (s : State) : State :=
  let s := s.bump O.transfersServed 1
  let s := if r != .ok && r != .pending then s.bump O.transfersRefused 1 else s
  if r == .busy then s.bump O.busyReplies 1 else s

/-- The one DICT_REPLY of a write (05 R166, Table 5-7). -/
def replyWrite (seq key op offset total : Nat) (r : Reason) (s : State) : State :=
  (countReply r s).send (.dictReply ⟨seq, 0x0302, r, key, op, offset, total, enableByte key s, [], false⟩)

/-- The one DICT_REPLY of a read: `value` is the whole value and `data` the part returned from `offset`. -/
def replyRead (seq key layer : Nat) (r : Reason) (offset : Nat) (value data : Bytes) (s : State) : State :=
  let more := decide (offset + data.length < value.length) || (offset != 0)
  (countReply r s).send (.dictReply ⟨seq, 0x0301, r, key, layer, offset, value.length, enableByte key s, data,
    r == .ok && more⟩)

/-! ## Arrival -/

/-- Whether the management firmware serves channel 0: READY or RECOVERY (19 R608, R609, R646). -/
def State.serving (s : State) : Bool := s.obj O.bootState == 4 || s.obj O.bootState == 5

/-- Whether the sideband latch of WATCH takes channel-0 messages (18 R597). -/
def State.latching (s : State) : Bool := s.obj O.watchState != 0

/-- Whether a transfer is served as it arrives: the firmware runs, the part is not in WATCH, and no deferred check is due, which the service
runs before every transfer that it has not begun (05 R177). -/
def State.ready (s : State) : Bool := s.serving && !s.latching && s.svc.due.isEmpty

/-- Whether a read is answered before READY is first reached (19 R609). -/
def Transfer.early : Transfer → Bool
  | .read key _ _ _ => (0x1000 ≤ key / 256 && key / 256 < 0x1800) || (0xA000 ≤ key / 256 && key / 256 < 0xA400)
  | .write .. => false
  | .resume .. => false

/-- Whether a held message is a dictionary transfer, which DICT_REPLY answers; a RESUME is none (05 R166). -/
def Transfer.counts : Transfer → Bool
  | .read .. => true
  | .write .. => true
  | .resume .. => false

/-- A transfer that cannot be served yet. In WATCH the latch holds four messages and drops a fifth without a reply (18 R597); before
READY a transfer waits, and one that arrives while four are unanswered is answered with BUSY (05 R166, 19 R609). -/
def holdTransfer (seq : Nat) (t : Transfer) (s : State) : State :=
  if s.latching then
    if s.svc.held.length < 4 then
      (s.setObj O.latched (s.svc.held.length + 1)) |> fun s => { s with svc := { s.svc with held := s.svc.held ++ [(seq, t)] } }
    else s.bump O.latchDropped 1
  else if (s.svc.held.filter fun h => h.2.counts).length < 4 then { s with svc := { s.svc with held := s.svc.held ++ [(seq, t)] } }
  else match t with
    | .read key layer _ _ => replyRead seq key layer .busy 0 [] [] s
    | .write key op offset _ total _ => replyWrite seq key op offset total .busy s
    | .resume .. => { s with svc := { s.svc with held := s.svc.held ++ [(seq, t)] } }

/-- What a write of an object does once the tests of 05 R168 have passed: the reason of its own check, and the state after. -/
abbrev Action := State → Reason × State

/-- The offset of the last part of a value that is sent in parts of 1,024 bytes. -/
def lastOffset (length : Nat) : Nat := (length - 1) / 1024 * 1024

/-- The open write buffer is discarded, counted and remembered (05 R171). -/
def discardBuffer (s : State) : State :=
  match s.svc.buffer with
  | some b => { s.bump O.abortedTransfers 1 with
      svc := { s.svc with buffer := none, discarded := some ⟨b.key, b.op, b.data.length, s.clock.ticks⟩ } }
  | none => s

/-- SEG_TIMEOUT in ticks. -/
def segTicks (s : State) : Nat := s.nat O.segTimeout * 156250

/-- Whether SEG_TIMEOUT has passed since a tick. -/
def timedOut (s : State) (t : Nat) : Bool := decide (t + segTicks s ≤ s.clock.ticks)

/-- A read latch whose SEG_TIMEOUT has passed is gone. -/
def expireLatch (s : State) : State :=
  match s.svc.latch with
  | some l => if timedOut s l.last then { s with svc := { s.svc with latch := none } } else s
  | none => s

/-- A write buffer whose SEG_TIMEOUT has passed is discarded. -/
def expireBuffer (s : State) : State :=
  match s.svc.buffer with
  | some b => if timedOut s b.last then discardBuffer s else s
  | none => s

/-- The memory of the buffer last discarded ends after SEG_TIMEOUT. -/
def expireMemory (s : State) : State :=
  match s.svc.discarded with
  | some d => if timedOut s d.last then { s with svc := { s.svc with discarded := none } } else s
  | none => s

/-- What SEG_TIMEOUT has ended is gone. -/
def expireSegments (s : State) : State := expireMemory (expireBuffer (expireLatch s))

/-- A segment that continues no open buffer: one that belongs to the buffer last discarded is refused with TRANSFER_ABORTED, and any other
with SEGMENT_ORDER, which discards an open buffer (05 R171). -/
def straySegment (key offset count : Nat) (s : State) : Reason × State :=
  let now := s.clock.ticks
  match s.svc.discarded with
  | some d =>
    if d.key = key && d.op = 0 && d.offset = offset then
      (.transferAborted, { s with svc := { s.svc with discarded := some { d with offset := offset + count, last := now } } })
    else (.segmentOrder, discardBuffer s)
  | none => (.segmentOrder, discardBuffer s)

/-- The bytes of a value of an object. -/
def valueBytes (key : Nat) (v : Val) : Bytes :=
  match rowOf key with
  | some r => encodeVal r.type v
  | none => []

/-- Whether the write buffer holds all of a value but its last segment (05 R171). -/
def bufferHolds (key : Nat) (v : Val) (s : State) : Bool :=
  let data := valueBytes key v
  match s.svc.buffer with
  | some b => b.key == key && b.op == 0 && b.total == data.length && b.data == data.take (lastOffset data.length)
  | none => false

/-- Tests 1 to 4 of 05 R168, which a segment passes too. -/
def segmentTests (key length : Nat) (s : State) : Reason :=
  if lacksSession key s then .noSession
  else if !indexDefined (key / 256) then .noObject
  else if key % 256 == 0 then .readOnly
  else match rowOf key with
    | none => .noSub
    | some r => firstReason [accessTest r key s, countTest length, lengthTest r length]

/-- A write of a value judged and answered with its one message (05 R166, R168). -/
def serveMessage (seq key op : Nat) (v : Val) (act : Action) (s : State) : State :=
  let length := (valueBytes key v).length
  match writeTests key length v s with
  | .ok => replyWrite seq key op (lastOffset length) length (act s).1 (act s).2
  | r => replyWrite seq key op (lastOffset length) length r s

/-- A write of a value, answered with its one message or, a value longer than SEG_MAX, with the last of its segments, which completes the open
buffer (05 R166, R168, R171). -/
def serveWhole (seq key op : Nat) (v : Val) (act : Action) (s : State) : State :=
  let length := (valueBytes key v).length
  if length ≤ 1024 then serveMessage seq key op v act s
  else
    let s := expireSegments s
    if segmentTests key length s != .ok then replyWrite seq key op (lastOffset length) length (segmentTests key length s) s
    else if bufferHolds key v s then serveMessage seq key op v act { s with svc := { s.svc with buffer := none } }
    else
      let r := straySegment key (lastOffset length) (length - lastOffset length) s
      replyWrite seq key op (lastOffset length) length r.1 r.2

/-- The host writes an object (05 R165), with one DICT_WRITE or, a value longer than SEG_MAX, with the last of its segments: time passes to
its arrival, and the write is served, or held until it can be. -/
def hostWrite (x : Xfer) (key : Nat) (v : Val) (act : Action) (s : State) : State :=
  let s := advance s x.dt
  if s.ready then serveWhole x.seq key 0 v act s
  else
    let data := valueBytes key v
    let o := lastOffset data.length
    holdTransfer x.seq (.write key 0 o (data.length - o) data.length (data.drop o)) s

/-- The host reads an object that a read pops (05 R169), with `value` its oldest entry and `pop` the removal, which stands once the
reply is sent. With nothing to pop the total length is 0. -/
def hostPop (x : Xfer) (key : Nat) (value : State → Option Bytes) (pop : State → State) (s : State) : State :=
  let s := advance s x.dt
  if s.ready then
    match value s with
    | some b => pop (replyRead x.seq key 0 .ok 0 b b s)
    | none => replyRead x.seq key 0 .ok 0 [] [] s
  else holdTransfer x.seq (.read key 0 0 0) s

/-! ## Enable objects (05 R172 to R178) -/

/-- The device records a check in LAST_CHECK_OBJECT and LAST_CHECK_REASON (05 R174). -/
def recordCheck (key : Nat) (r : Reason) (s : State) : State :=
  (s.setObj O.lastCheckObject key).setObj O.lastCheckReason r.code

/-- A record of the enable log (05 Table 5-15): cause 0 host write, 1 deferred, 2 boot, 3 boot after TIME_VALID. -/
def logEnable (key cause : Nat) (r : Reason) (s : State) : State :=
  let rec24 := stampBytes s.clock.count ++ leBytes 2 (key / 256) ++ leBytes 1 (key % 256) ++ leBytes 1 cause
    ++ leBytes 2 r.code ++ leBytes 1 (s.nat key) ++ leBytes 7 0
  { s.bump O.enableLogCount 1 with svc := { s.svc with log := keepLast 32 (s.svc.log ++ [rec24]) } }

/-- What the chapter of an enable object gives it: the consistency check, what acceptance reserves and starts, what a disable
starts, and whether work remains to finish before the shut-down completes. -/
structure EnableRules where
  key    : Nat
  check  : State → Reason
  accept : State → State
  stop   : State → State
  busy   : State → Bool

/-- The consistency check of an enable (05 R174); in recovery every check refuses with IMAGE_FORMAT (19 R608). -/
def EnableRules.judge (e : EnableRules) (s : State) : Reason :=
  if s.obj O.bootState == 5 then .imageFormat else e.check s

/-- The state after a check: ON with its resources on acceptance, otherwise OFF (05 R174). -/
def EnableRules.settle (e : EnableRules) (r : Reason) (s : State) : State :=
  if r = .ok then e.accept (s.setObj e.key stOn) else s.setObj e.key stOff

/-- Whether a shut-down of the function still runs: it has neither completed (05 R177) nor been pending since boot (05 R178). -/
def State.shutRuns (s : State) (key : Nat) : Bool := !s.svc.due.contains key && !s.svc.atBoot.contains key

/-- The function's entry leaves the lists of deferred and boot checks. -/
def State.unlist (s : State) (key : Nat) : State :=
  { s with svc := { s.svc with due := s.svc.due.filter (· != key), atBoot := s.svc.atBoot.filter (· != key) } }

/-- A shut-down completes (05 R175, R177): the enable reads OFF, or with the enable PENDING its check falls due. -/
def shutDone (key : Nat) (s : State) : State :=
  if s.obj key == stPending then { s with svc := { s.svc with due := s.svc.due ++ [key] } } else s.setObj key stOff

/-- What a host write of an enable object does in each state (05 Table 5-9). -/
def EnableRules.handle (e : EnableRules) (v : Int) : Action := fun s =>
  if s.obj e.key == stOff then
    if v = 1 then
      let r := e.judge s
      (r, logEnable e.key 0 r (recordCheck e.key r (e.settle r s)))
    else (.ok, s)
  else if s.obj e.key == stOn then
    if v = 0 then
      let s := e.stop (s.setObj e.key stStopping)
      (.ok, if e.busy s then s else shutDone e.key s)
    else (.ok, s)
  else if s.obj e.key == stStopping then
    if v = 1 then (.pending, s.setObj e.key stPending) else (.ok, s)
  else if v = 0 then (.ok, if s.shutRuns e.key then s.setObj e.key stStopping else (s.unlist e.key).setObj e.key stOff)
  else (.pending, s)

/-- The current value of an enable object, 0 or 1, as apart from the state that a read returns (05 R162, R178; log entry 41). -/
def State.setAsked (s : State) (key : Nat) (v : Bool) : State :=
  if s.svc.asked.contains key == v then s
  else { s with svc := { s.svc with asked := if v then s.svc.asked ++ [key] else s.svc.asked.filter (· != key) } }.bump O.changeCount 1

/-- A host write of an enable object: one that is not refused sets its current value. -/
def EnableRules.write (e : EnableRules) (v : Int) : Action := fun s =>
  let t := e.handle v s
  if t.1 = .ok || t.1 = .pending then (t.1, t.2.setAsked e.key (v == 1)) else t

/-- ENABLE_RESOLVED (05 R177, Table 5-10). -/
def raiseResolved (key : Nat) (r : Reason) (s : State) : State :=
  raise s O.enableResolvedCount 0xFFFF
    (leBytes 2 (key / 256) ++ leBytes 1 (key % 256) ++ leBytes 1 (s.nat key) ++ leBytes 2 r.code ++ leBytes 2 0) 0

/-- A deferred check or a check at boot (05 R177, R178): the enable reads ON or OFF, ENABLE_RESOLVED is raised, and the log and the
last-check objects are written. -/
def EnableRules.resolve (e : EnableRules) (cause : Nat) (s : State) : State :=
  let r := e.judge s
  raiseResolved e.key r (logEnable e.key cause r (recordCheck e.key r ((e.settle r s).unlist e.key)))

/-- The write of an object that has no rule of its own: its value changes (05 R154, R162). -/
def plainWrite (key : Nat) (v : Val) : Action := fun s =>
  (.ok, match v with
    | .num n => s.change key n
    | .bytes b => s.changeBlob key b)

end Sys2Proof.Machine
end

