-- ==== Sys2Proof/Machine/Sources.lean ====
section
/-! DEFINITION. The three sources of site time and what qualifies them (01 Table 1-2, R20 to R22): the PTP port states, the receptions of network
listen, and how long each source has stayed qualified. -/

namespace Sys2Proof.Machine

/-- The state with the time base changed. -/
def State.onTime (s : State) (f : TimeBase → TimeBase) : State := { s with time := f s.time }

/-- The state with the servo changed. -/
def State.onServo (s : State) (f : Servo → Servo) : State := { s with time := { s.time with servo := f s.time.servo } }

/-- The number of a source (01 Table 1-9). -/
def sourceCode : Source → Nat
  | .gnss => 1 | .ptp => 2 | .nl => 3

/-- The source of a number. -/
def sourceOf : Int → Option Source
  | 1 => some .gnss | 2 => some .ptp | 3 => some .nl | _ => none

/-- The selected source (SELECTED_SOURCE). -/
def State.selected (s : State) : Option Source := sourceOf (s.obj O.selectedSource)

/-- The priority of a source (01 R20). -/
def State.prio (s : State) : Source → Nat
  | .gnss => s.nat O.prioGnss | .ptp => s.nat O.prioPtp | .nl => s.nat O.prioNl

/-! ## PTP ports (01 R53, R54) -/

/-- A port's exchange state before any message. -/
def PtpPort.idle : PtpPort := ⟨0, none, none, 0, none, false, none, [], [], [], []⟩

/-- A port's exchange state. -/
def State.ptpPort (s : State) (p : Nat) : PtpPort := Store.at .idle s.time.ptp p

/-- A port's exchange state replaced. -/
def State.setPtp (s : State) (p : Nat) (x : PtpPort) : State := s.onTime fun t => { t with ptp := Store.put t.ptp p x }

/-- The VLAN_ID and VLAN_PCP of the tag of a port's own frames, where VLAN_ID is not 0xFFFF (09 R304). -/
def State.frameTag (s : State) (p : Nat) : Option (Nat × Nat) :=
  if s.nat (O.vlanId p) = 0xFFFF then none else some (s.nat (O.vlanId p), s.nat (O.vlanPcp p))

/-- Whether a port takes part in PTP: it is in service, and set to neither disabled nor transparent only (01 R54). -/
def ptpRuns (s : State) (p : Nat) : Bool :=
  s.obj O.ptpRole != 0 && (s.obj (O.portPtpRole p) == 1 || s.obj (O.portPtpRole p) == 2) && s.isOn (O.portEnable p)

/-- The figures by which the Alternate BMCA compares an Announce on a port, the first that differs deciding and the lower being better
(01 Table 1-6; log entry 45): the local priority stands after priority2, and the grandmaster's identity counts for classes above 127. -/
def rankOf (s : State) (p : Nat) (m : Master) : List Nat :=
  let a := m.announce
  [a.clockClass, a.accuracy, a.variance, a.priority2, s.nat (O.localPriority p),
   if a.clockClass ≤ 127 then 0 else a.identity, a.steps, m.sender]

/-- Whether one list of figures comes before another. -/
def comesBefore : List Nat → List Nat → Bool
  | x :: t, y :: u => decide (x < y) || (x == y && comesBefore t u)
  | _, _ => false

/-- The slave-capable ports that have an Announce: all of them for a boundary clock, and the first slave-capable port for an ordinary clock,
which has a single one (01 R54; of several that are set so the lowest-numbered, log entry 45). -/
def announced (s : State) : List (Nat × Master) :=
  let ports := (List.range 24).filter fun p => ptpRuns s p && s.obj (O.portPtpRole p) == 2
  (if s.obj O.ptpRole == 1 then ports.take 1 else ports).filterMap fun p => (s.ptpPort p).best.map (p, ·)

/-- The port with the best Announce. -/
def bestPort (s : State) : Option (Nat × Master) :=
  (announced s).foldl (fun b x => match b with
    | some y => if comesBefore (rankOf s x.1 x.2) (rankOf s y.1 y.2) then some x else b
    | none => some x) none

/-- Whether the device itself may be the source of its master ports (01 R54), with GNSS or NL selected: a boundary clock while it is locked to
it, and a master-only clock once its time is set (log entry 45). -/
def selfSource (s : State) : Bool :=
  (s.obj O.selectedSource == 1 || s.obj O.selectedSource == 3)
    && ((s.obj O.ptpRole == 2 && s.obj O.servoState == 2) || (s.obj O.ptpRole == 3 && s.obj O.timeValid == 1))

/-- PORT_STATE, the state of IEEE 1588-2019 that the port's role and the Alternate BMCA give it (01 R53, R54; log entry 45): 3 DISABLED, 4
LISTENING, 6 MASTER, 7 PASSIVE, 9 SLAVE. A port that takes no PTP state reads 3. -/
def ptpState (s : State) (p : Nat) : Nat :=
  if !ptpRuns s p then 3
  else if s.obj (O.portPtpRole p) == 1 then (if s.obj O.ptpRole == 1 then 3 else 6)
  else if s.obj O.ptpRole == 3 then 6
  else match bestPort s with
    | none => if selfSource s then 6 else 4
    | some (b, a) =>
      if selfSource s && comesBefore (Config.ownClock (s.obj O.servoState)) (rankOf s b a) then 6
      else if b == p then 9
      else if s.obj O.ptpRole == 1 then 4
      else if ((s.ptpPort p).best.map (·.announce.identity)) == some a.announce.identity then 7 else 6

/-- The fronthaul port that is in SLAVE state with a valid mean path delay, if any (01 Table 1-2). -/
def ptpSlave (s : State) : Option Nat :=
  if s.obj O.ptpRole == 1 || s.obj O.ptpRole == 2 then
    (List.range 24).find? fun p =>
      ptpState s p == 9 && (s.obj (O.portLinkState p) == 1 || s.obj (O.portLinkState p) == 2)
        && (Store.find s.time.ptp p).any (·.delayOk)
  else none

/-! ## Receptions of network listen (02 R84) -/

/-- The neighbour entries that a reception matches: enabled, with its PCI and hypothesis (02 R84). -/
def neighboursOf (s : State) (pci type : Int) : List Nat :=
  (List.range 32).filter fun n => s.obj (O.nbPci n) != 0xFFFF && s.obj (O.nbPci n) == pci && s.obj (O.nbType n) == type

/-- The neighbour entry that gives a reception its d and SSB case: of several that match, the first (02 R83; log entry 46). -/
def neighbourOf (s : State) (pci type : Int) : Option Nat := (neighboursOf s pci type).head?

/-- Whether an enabled entry that a reception matches is trusted (02 R84). -/
def nlTrusted (s : State) (pci type : Int) : Bool := (neighboursOf s pci type).any fun n => s.obj (O.nbTrusted n) == 1

/-- Whether an arrival is older than MAX_AGE (02 R84). -/
def olderThanMax (s : State) (tRx : Nat) : Bool := decide (tRx + s.nat O.maxAge * 1000000 * nsUnit < s.clock.count)

/-- Whether the latest committed reception is older than MAX_AGE (02 R84). -/
def nlTooOld (s : State) : Bool := olderThanMax s (countOf (s.nat O.resultTime))

/-- Whether NL is qualified (02 R84). -/
def nlQualified (s : State) : Bool :=
  s.obj O.timeValid == 1 && s.nl.hasResult && !nlTooOld s && nlTrusted s (s.obj O.resultPci) (s.obj O.resultType)
  && decide (s.obj O.sinrFloor ≤ s.obj O.resultSinr) && decide (s.obj O.resultSigma ≤ s.obj O.sigmaMax)

/-- Whether a result that no update has used meets the conditions of 02 R84. -/
def NlResult.qualifies (s : State) (r : NlResult) : Bool :=
  s.obj O.timeValid == 1 && !olderThanMax s r.tRx && nlTrusted s r.pci r.type
  && decide (s.obj O.sinrFloor ≤ r.sinr) && decide ((r.sigma : Int) ≤ s.obj O.sigmaMax)

/-! ## The unit of network listen (02 R68) -/

/-- The state with the listen receiver changed. -/
def State.onNl (s : State) (f : Listen → Listen) : State := { s with nl := f s.nl }

/-- The unit and the chain of network listen are released. -/
def nlRelease (s : State) : State :=
  (if s.obj (O.dfeUser (s.nat O.nlChain)) == 0x80 then s.setObj (O.dfeUser (s.nat O.nlChain)) 0xFF else s).setObj O.nlState 0

/-- After a gap or its processing: processing goes on, the unit is IDLE again, or the shut-down that waited for it completes (02 R68). -/
def nlIdle (s : State) : State :=
  if !s.nl.work.isEmpty then s.setObj O.nlState 3
  else if (s.obj O.nlEnable == stStopping || s.obj O.nlEnable == stPending) && s.shutRuns O.nlEnable then shutDone O.nlEnable (nlRelease s)
  else s.setObj O.nlState 1

/-- A listen gap in progress ends without a result, and the gain unfreezes (02 R73, R75). -/
def abandonGap (s : State) : State :=
  if s.obj O.nlState == 2 then nlIdle { s with nl := { s.nl with current := none, frozen := false, freezing := false } } else s

/-! ## Qualified sources (01 Table 1-2, R22) -/

/-- Whether a source is qualified (01 Table 1-2). -/
def qualified (s : State) : Source → Bool
  | .gnss => s.obj O.ppsState == 1 && s.time.gnss.todOk
  | .ptp => (ptpSlave s).isSome
  | .nl => nlQualified s

/-- The three sources in the order of 01 R21. -/
def allSources : List Source := [.gnss, .ptp, .nl]

/-- The tick since which each source has stayed qualified; a source that is not qualified loses its wait to restore (01 R22). -/
def refreshQualified (s : State) : State :=
  allSources.foldl (fun s x =>
    if qualified s x then
      if (s.time.servo.qualSince.get x).isSome then s
      else s.onServo fun v => { v with qualSince := v.qualSince.set x (some s.clock.ticks) }
    else s.onServo fun v => { v with qualSince := v.qualSince.set x none, restored := v.restored.set x false }) s

end Sys2Proof.Machine
end

