-- ==== Sys2Proof/Machine/TimeBase.lean ====
section
/-! DEFINITION. Site time and its sources (01): the pulse qualifiers, time of day, the servo with its holdover and authorised
corrections, PTP, SyncE, and the capture, trigger and PPS_OUT units. -/

namespace Sys2Proof.Machine

/-- The state with the count of site time replaced. -/
def State.setCount (s : State) (c : Nat) : State := { s with clock := { s.clock with count := c } }

/-! ## Steps of the counter (01 R42, R47) -/

/-- An instant of site time moved by `d` counts. -/
def shiftBy (d : Int) (c : Nat) : Nat := (c + d).toNat

/-- A pulse input's edges, moved by `d` counts. -/
def PulseIn.shift (d : Int) (p : PulseIn) : PulseIn :=
  { p with candidate := p.candidate.map (shiftBy d), lastEdge := p.lastEdge.map (shiftBy d) }

/-- What GNSS has given, moved by `d` counts and `ps` picoseconds. -/
def Gnss.shift (d ps : Int) (g : Gnss) : Gnss :=
  { g with edge := g.edge.map fun e => { e with stampPs := e.stampPs + ps }
           held := g.held.map fun h => { h with arrived := shiftBy d h.arrived } }

/-- The exchanges of a PTP port, moved by `d` counts and `ps` picoseconds. -/
def PtpPort.shift (d ps : Int) (p : PtpPort) : PtpPort :=
  { p with syncIn := p.syncIn.map (· + ps), syncDiff := p.syncDiff.map (· + ps), reqOut := p.reqOut.map (· + ps)
           followUp := p.followUp.map (fun x => (x.1, shiftBy d x.2)) }

/-- An offset measured before a step by `ps` picoseconds, as it is after the step. -/
def PerSource.stepped (ps : Int) (m : PerSource (Option Int)) : PerSource (Option Int) :=
  ⟨m.gnss.map (· - ps), m.ptp.map (· - ps), m.nl.map (· - ps)⟩

/-- The counter steps by an offset in picoseconds: the instants that the qualifiers and the servo remember for what is still to be compared
with site time move with it, and the offsets that no update has used yet are those after the step (log entry 43). -/
def stepCount (ps : Int) (s : State) : State :=
  let d : Int := if 0 ≤ ps then countOfPs ps else -(countOfPs (-ps) : Int)
  let s := (s.setCount (shiftBy d s.clock.count)).onNl fun n => { n with unused := n.unused.map fun r => { r with offset := r.offset - ps } }
  s.onTime fun t => { t with servo := { t.servo with meas := t.servo.meas.stepped ps }, pps := t.pps.shift d, dfeSync := t.dfeSync.shift d, gnss := t.gnss.shift d ps
                             ptp := t.ptp.map (fun (p : Nat × PtpPort) => (p.1, p.2.shift d ps)), offsets := t.offsets.map (· - ps)
                             ppsRise := shiftBy d t.ppsRise, ppsFall := shiftBy d t.ppsFall
                             updates := t.updates.map (shiftBy d), pulses := t.pulses.map (shiftBy d) }

/-! ## Capture units (01 R62) -/

/-- A capture unit latches an instant: its FIFO takes four entries, and a further one is discarded and counted. -/
def captureUnit (count n : Nat) (s : State) : State :=
  let fifo := Store.at [] s.time.captures n
  if fifo.length < 4 then s.onTime fun t => { t with captures := Store.put t.captures n (fifo ++ [count]) }
  else s.bump (O.capLost n) 1

/-- An event of a capture source: each unit that selects it latches its instant; an edge direction counts for TXGATE only. -/
def capture (source : Nat) (falling : Bool) (count : Nat) (s : State) : State :=
  (List.range 8).foldl (fun s n =>
    if s.nat (O.capSource n) == source && (source < 3 || 18 < source || (s.obj (O.capEdge n) == 1) == falling)
    then captureUnit count n s else s) s

/-! ## Pulse inputs (01 R24 to R31) -/

/-- The state object of a pulse input: PPS_STATE or DFE_SYNC_STATE. -/
def stateKey : PulseInput → Nat
  | .pps => O.ppsState | .dfeSync => O.dfeSyncState

/-- The strays counter of an input. -/
def strayKey : PulseInput → Nat
  | .pps => O.ppsStrays | .dfeSync => O.dfeSyncStrays

/-- The record of an input. -/
def State.pulse (s : State) : PulseInput → PulseIn
  | .pps => s.time.pps | .dfeSync => s.time.dfeSync

/-- The record of an input changed. -/
def State.onPulse (s : State) (i : PulseInput) (f : PulseIn → PulseIn) : State :=
  match i with
  | .pps => s.onTime fun t => { t with pps := f t.pps }
  | .dfeSync => s.onTime fun t => { t with dfeSync := f t.dfeSync }

/-- An input is disqualified: its clean seconds start anew, and PPS_IN loses its window (01 R25, R28). The last expected edge of DFE_SYNC stays,
for the refractory time after it (01 R26). -/
def PulseIn.lose (i : PulseInput) (p : PulseIn) : PulseIn :=
  { p with candidate := none, counting := false, clean := 0, missed := 0
           lastEdge := match i with
             | .pps => none
             | .dfeSync => p.lastEdge }

/-- PULSE_STORM on an input (01 R28, R645). -/
def storm (i : PulseInput) (s : State) : State :=
  let s := (s.setObj (stateKey i) 2).onPulse i (PulseIn.lose i)
  match i with
  | .pps => raise s O.ppsStormCount 0 [] 0
  | .dfeSync => raise s O.dfeSyncStormCount 1 [] 0

/-- A stray edge (01 R27, R28): counted; more than four in one second are a storm, unless the input reads LOSS (01 R29). -/
def stray (i : PulseInput) (s : State) : State :=
  let s := (s.bump (strayKey i) 1).onPulse i fun p => { p with strays := p.strays + 1 }
  if (s.pulse i).strays == 5 && s.obj (stateKey i) != 3 then storm i s else s

/-- 10 µs in counts of site time (01 R25, R26). -/
def window10us : Nat := 10000 * nsUnit

/-- Whether an edge lies within ±10 µs of the previous expected edge plus a whole number of seconds, one or more (01 R25). -/
def inPpsWindow (prev edge : Nat) : Bool :=
  let d := edge - prev
  prev ≤ edge && secUnit ≤ d + window10us && (d % secUnit ≤ window10us || secUnit ≤ d % secUnit + window10us)

/-- The seconds by which an expected edge follows the one before (01 R25). -/
def secondsSince (prev edge : Nat) : Nat := (edge - prev + secUnit / 2) / secUnit

/-- An expected edge of an input has arrived: the state leaves ESTABLISHING, and an input that is disqualified starts to count clean
seconds from this second (01 R25, R26, R28). -/
def expectedEdge (i : PulseInput) (count : Nat) (s : State) : State :=
  let s := s.onPulse i fun p => { p with lastEdge := some count, candidate := none, expected := p.expected + 1,
                                          counting := true, missed := 0 }
  if s.obj (stateKey i) == 0 then s.setObj (stateKey i) 1 else s

/-- The second of an expected edge by the count of expected edges (01 R36): `gap` seconds after the edge before; an edge that establishes
the window starts the count afresh. -/
def edgeSecond (prev : Option PpsEdge) (gap : Option Nat) : Option Int :=
  match prev, gap with
  | some e, some g => e.second.map (· + g)
  | _, _ => none

/-- Days from 1970-01-01 to a civil date of the Gregorian calendar (01 R32, R35: the PTP epoch). -/
def daysOf (y m d : Nat) : Int :=
  let y' : Int := if m ≤ 2 then (y : Int) - 1 else y
  let era := y' / 400
  let yoe := y' - era * 400
  let doy : Int := (153 * ((m : Int) + (if m > 2 then -3 else 9)) + 2) / 5 + d - 1
  era * 146097 + (yoe * 365 + yoe / 4 - yoe / 100 + doy) - 719468

/-- One byte of the CRC-16 of 01 Table 1-3, polynomial 0x1021. -/
def crc16Step : Nat → Nat → Nat
  | 0, c => c
  | n + 1, c => crc16Step n (if bitOf c 15 then Nat.xor (c * 2 % 0x10000) 0x1021 else c * 2 % 0x10000)

/-- The CRC-16 of a byte string with initial value 0xFFFF (01 Table 1-3). -/
def crc16 (b : Bytes) : Nat := b.foldl (fun c x => crc16Step 8 (Nat.xor c (x.toNat * 256))) 0xFFFF

/-- A byte string cut at every byte of one value. -/
def splitAtByte (c : Nat) (b : Bytes) : List Bytes :=
  b.foldr (fun x acc => if x.toNat = c then [] :: acc else match acc with
    | [] => [[x]]
    | f :: t => (x :: f) :: t) [[]]

/-- The number that decimal digits spell. -/
def decimalOf (b : Bytes) : Option Nat :=
  if !b.isEmpty && b.all fun c => 0x30 ≤ c.toNat && c.toNat ≤ 0x39 then some (b.foldl (fun n c => 10 * n + (c.toNat - 0x30)) 0) else none

/-- The value of a hexadecimal digit. -/
def hexOf (c : Byte) : Option Nat :=
  let n := c.toNat
  if 0x30 ≤ n && n ≤ 0x39 then some (n - 0x30) else if 0x41 ≤ n && n ≤ 0x46 then some (n - 55)
  else if 0x61 ≤ n && n ≤ 0x66 then some (n - 87) else none

/-- The number that two hexadecimal digits spell. -/
def hexByte (b : Bytes) : Option Nat :=
  match b with
  | [x, y] => (hexOf x).bind fun h => (hexOf y).map fun l => 16 * h + l
  | _ => none

/-- The UTC fields of a ZDA sentence of NMEA 0183 (01 R32; log entry 45): `$`, a talker of two letters, ZDA, the time with an optional
fraction, day, month and year, the local-zone fields, and the checksum, the exclusive or of the bytes between `$` and `*`. `none` is a
sentence that the device ignores. -/
def zdaOf (b : Bytes) : Option (Nat × Nat × Nat × Nat × Nat × Nat) :=
  let body := (b.drop 1).takeWhile fun c => c.toNat != 0x2A
  let sum := (b.drop (body.length + 2)).take 2
  let letter := fun (c : Byte) => 0x41 ≤ c.toNat && c.toNat ≤ 0x5A
  if bytesAt b 0 1 == 0x24 && hexByte sum == some (body.foldl (fun n c => Nat.xor n c.toNat) 0)
      && body.length ≥ 5 && (body.take 2).all letter && (body.drop 2).take 3 == [0x5A, 0x44, 0x41] then
    match splitAtByte 0x2C body with
    | [a, t, d, m, y] | [a, t, d, m, y, _] | [a, t, d, m, y, _, _] =>
      if a.length != 5 || !(t.length == 6 || bytesAt t 6 1 == 0x2E) || y.length != 4 then none
      else match decimalOf (t.take 2), decimalOf ((t.drop 2).take 2), decimalOf ((t.drop 4).take 2), decimalOf d, decimalOf m, decimalOf y with
        | some h, some mi, some sec, some d, some m, some y =>
          if 1 ≤ m && m ≤ 12 && 1 ≤ d && d ≤ 31 && h < 24 && mi < 60 && sec ≤ 60 then some (y, m, d, h, mi, sec) else none
        | _, _, _, _, _, _ => none
    | _ => none
  else none

/-- The time of day that a sentence or frame gives, or `none` where it is discarded or ignored (01 R32, R33, R35): its PTP-timescale
second, the UTC offset of a binary frame, and whether the receiver shows itself locked. -/
def todOf (s : State) (b : Bytes) : Option (Int × Option Int × Bool) :=
  if s.obj O.todFormat == 0 then
    (zdaOf b).map fun (y, m, d, h, mi, sec) =>
      (daysOf y m d * 86400 + h * 3600 + mi * 60 + sec + s.obj O.utcOffset, none, true)
  else if b.length == 16 && bytesAt b 0 1 == 0x5A && bytesAt b 1 1 == 0xA5 && bytesAt b 2 1 == 1
      && crc16 (b.take 14) == bytesAt b 14 2 then
    some (bytesAt b 4 6, some (signedOf 16 (bytesAt b 10 2)), bitOf (bytesAt b 3 1) 0)
  else none

/-- The GNSS measurement of an expected edge (01 R644): the site time of its label less its stamp, in picoseconds. -/
def gnssMeasure (e : PpsEdge) (second : Int) : Int := second * 1000000000000 - e.stampPs

/-- A time of day that is valid for an edge labels it (01 R35, R36). A disagreement of ±1 s that first appears at the first edge
after UTC 00:00:00, which is the edge that the time of day places at 00:00:00 UTC (log entry 14), is a leap second, where the receiver
shows itself locked; any other is ignored for two seconds and becomes an offset with the third, as the third gives it (log entry 44). An edge not measured when it arrived is measured now (01 R644, log entry
43). -/
def labelEdge (e : PpsEdge) (second : Int) (utcOff : Option Int) (locked : Bool) (s : State) : State :=
  let utc := second - utcOff.getD (s.obj O.utcOffset)
  let s := match utcOff with
    | some o => if locked then s.change O.utcOffset o else s
    | none => s
  let count := e.second.getD second
  let d := second - count
  let leap := locked && (d == 1 || d == -1) && utc % 86400 == 0 && s.time.gnss.disagree == 0
  let s := if leap then s.change O.utcOffset (s.obj O.utcOffset - d) else s
  let run := if d == 0 || leap then 0 else s.time.gnss.disagree + 1
  let count := if run ≥ 3 then second else count
  let s := s.onTime fun t => { t with gnss :=
    { t.gnss with edge := some { e with second := some count, used := true }, labelled := true, todOk := locked,
                  disagree := if run ≥ 3 then 0 else run } }
  if !locked then s.onServo fun v => { v with meas := v.meas.set .gnss none }
  else if e.used then s
  else s.onServo fun v => { v with meas := v.meas.set .gnss (some (gnssMeasure e count)) }

/-- An expected edge whose second the count gives, while GNSS is qualified, is measured as it arrives (01 R644, log entry 43). -/
def measureEdge (s : State) : State :=
  match s.time.gnss.edge with
  | some e =>
    match e.second with
    | some n =>
      if s.time.gnss.todOk && !e.used then
        (s.onTime fun t => { t with gnss := { t.gnss with edge := some { e with used := true } } }).onServo fun v =>
          { v with meas := v.meas.set .gnss (some (gnssMeasure e n)) }
      else s
    | none => s
  | none => s

/-- Whether a time of day that completed at a count is in the interval before an edge in which it labels it (01 R34, TOD_LABEL 1). -/
def heldFits (count : Nat) (h : TodHeld) : Bool :=
  h.arrived ≤ count && 100000000 * nsUnit ≤ count - h.arrived && count - h.arrived ≤ 900000000 * nsUnit

/-- An expected PPS_IN edge reaches the servo (01 R31, R34, R36): its stamp of 100 ps resolution, less PPS_CABLE_DELAY, and its label.
An edge before it that no time of day labelled leaves GNSS without one, and ends a run of disagreements, as does a second without an edge.
Under TOD_LABEL 1 the last time of day that completed 900 ms to 100 ms before the edge labels it (log entry 44). -/
def ppsToServo (count : Nat) (gap : Option Nat) (s : State) : State :=
  let g := s.time.gnss
  let following := s.obj O.todLabel == 1
  let e : PpsEdge := ⟨freeDiv 20 (psOf count) 100 * 100 - s.obj O.ppsCableDelay, edgeSecond g.edge gap, false⟩
  let s := s.onTime fun t => { t with gnss :=
    { t.gnss with edge := some e, labelled := false, held := [], todOk := t.gnss.todOk && (t.gnss.labelled || following) && gap.isSome
                  disagree := if gap == some 1 && (t.gnss.labelled || following) then t.gnss.disagree else 0 } }
  if following then
    match (g.held.filter (heldFits count)).getLast? with
    | some h => labelEdge e h.second h.utcOff h.locked s
    | none => s.onTime fun t => { t with gnss := { t.gnss with todOk := false, disagree := 0 } }
  else measureEdge s

/-- PPS_IN: an edge after a low time of `lowNs` at a site time of the current tick plus `sub` tenths of a nanosecond. -/
def execPpsInEdge (dt lowNs sub : Nat) (s : State) : Host.Outcome State Fault Refusal :=
  let s := advance s dt
  let at' := s.clock.count + sub * nsUnit / 10
  if lowNs < 100 then .next (s.bump O.ppsGlitches 1)
  else
    let p := s.time.pps
    match p.lastEdge with
    | some prev =>
      if inPpsWindow prev at' then
        .next (refreshQualified (capture 1 false at' (ppsToServo at' (some (secondsSince prev at')) (expectedEdge .pps at' s))))
      else .next (refreshQualified (stray .pps s))
    | none =>
      match p.candidate with
      | some c =>
        if inPpsWindow c at' && secondsSince c at' == 1 then
          .next (refreshQualified (capture 1 false at' (ppsToServo at' none (expectedEdge .pps at' s))))
        else .next (s.onPulse .pps fun p => { p with candidate := some at' })
      | none => .next (s.onPulse .pps fun p => { p with candidate := some at' })

/-- A whole period's boundaries (01 R26): whether an instant of device air time lies within ±10 µs of a frame boundary whose linear
frame count is a multiple of DFE_SYNC_PERIOD, shifted by DFE_SYNC_OFFSET. The count starts again from 0 at the wrap of the ATS. -/
def onDfePeriod (s : State) (a : Int) : Bool :=
  let a := a - s.obj O.dfeSyncOffset * airNs
  let frame := (a + airFrame / 2) / airFrame
  let off := a - frame * airFrame
  (-(10000 * airNs) ≤ off && off ≤ 10000 * airNs) && (frame % 2 ^ 24) % s.obj O.dfeSyncPeriod == 0

/-- Whether a qualified DFE_SYNC edge is expected (01 R26). -/
def dfeSyncExpected (s : State) : Bool :=
  s.obj O.dfeSyncPeriod == 0 || (s.airRunning && onDfePeriod s s.airNow)

/-- What the DFE_SYNC qualifier makes of an edge after a low time of `lowNs` (01 R24, R26, R27), and whether it reaches the units
behind it: it does while the input is qualified (01 R30). -/
def qualifyDfeSync (lowNs : Nat) (s : State) : State × Bool :=
  if lowNs < 100 then (s, false)
  else
    let now := s.clock.count
    let refractory := match s.time.dfeSync.lastEdge with
      | some c => c ≤ now && decide (now - c ≤ 1000 * nsUnit)
      | none => false
    if refractory then (s, false)
    else
      let s := s.onPulse .dfeSync fun p => { p with edges := p.edges + 1 }
      if dfeSyncExpected s then
        let s := capture 2 false now (expectedEdge .dfeSync now s)
        let s := if s.obj O.dfeSyncPeriod == 0 && 4 < (s.pulse .dfeSync).edges then stray .dfeSync s else s
        (s, s.obj O.dfeSyncState == 1)
      else if s.obj O.dfeSyncState != 0 then (stray .dfeSync s, false) else (s, false)

/-- PULSE_REQUALIFY: at the wrap that ends the third clean second the input reads QUALIFIED again (01 R28). -/
def execPulseRequalify (i : PulseInput) (s : State) : Host.Outcome State Fault Refusal :=
  let bad := s.obj (stateKey i) == 2 || s.obj (stateKey i) == 3
  let s := if (s.pulse i).clean < 3 then advanceTo s (nextWrap s.clock.count) else s
  .next (if bad && 3 ≤ (s.pulse i).clean then refreshQualified (s.setObj (stateKey i) 1) else s)

/-- PPS_LOSS: the input's level has been held for `heldNs`, or three seconds in a row have passed without an expected PPS_IN edge
(01 R29). -/
def execPpsLoss (i : PulseInput) (dt heldNs : Nat) (s : State) : Host.Outcome State Fault Refusal :=
  let s := advance s dt
  let live := s.obj (stateKey i) == 1 || s.obj (stateKey i) == 2
  let silent := match i with
    | .pps => decide (3 ≤ s.time.pps.missed)
    | .dfeSync => false
  if live && (1100000000 < heldNs || silent) then
    let s := (s.setObj (stateKey i) 3).onPulse i (PulseIn.lose i)
    match i with
    | .pps => .next (refreshQualified (raise s O.ppsLossCount 0 [] 0))
    | .dfeSync => .next (raise s O.dfeSyncLossCount 1 [] 0)
  else .next s

/-- TOD_RX: a sentence or frame completes (01 R32 to R36). With TOD_LABEL 0 the first valid one of a second labels its edge (log entry 44). -/
def execTodFrameRx (dt : Nat) (frame : Bytes) (s : State) : Host.Outcome State Fault Refusal :=
  let s := advance s dt
  match todOf s frame with
  | none => .next s
  | some (second, utcOff, locked) =>
    if s.obj O.todLabel == 1 then
      .next (s.onTime fun t => { t with gnss := { t.gnss with held :=
        (t.gnss.held.filter fun h => decide (s.clock.count ≤ h.arrived + 900000000 * nsUnit)) ++ [⟨s.clock.count, second, utcOff, locked⟩] } })
    else
      match s.time.gnss.edge, s.time.pps.lastEdge with
      | some e, some last =>
        let after := s.clock.count - last
        if last ≤ s.clock.count && 100000000 * nsUnit ≤ after && after ≤ 900000000 * nsUnit && !s.time.gnss.labelled then
          .next (refreshQualified (labelEdge e second utcOff locked s))
        else .next s
      | _, _ => .next s

/-! ## The servo -/

/-- SOURCE_STATUS: bits 2 to 0 qualified, 6 to 4 refused (01 Table 1-10). -/
def refreshStatus (s : State) : State :=
  let bits := (allSources.map fun x =>
    (if qualified s x then 2 ^ (sourceCode x - 1) else 0)
      + (if (s.time.servo.refused.get x).isSome then 2 ^ (sourceCode x + 3) else 0)).sum
  s.setObj O.sourceStatus (bits : Nat)

/-- Whether a source can be selected at all: qualified, priority not 0, not refused (01 R20, R21, R44). -/
def selectable (s : State) (x : Source) : Bool :=
  qualified s x && s.prio x != 0 && (s.time.servo.refused.get x).isNone

/-- Whether the servo judges a qualified source's measurements (01 R44): the selected source's always, and another's only while it could
become selected under 01 R20 to R22. -/
def judged (s : State) (x : Source) : Bool :=
  qualified s x && s.prio x != 0 && match s.selected with
  | none => true
  | some c =>
    x == c || !qualified s c || (s.time.servo.refused.get c).isSome
      || (s.obj O.revertive == 1 && s.prio x < s.prio c && s.time.servo.restored.get x)

/-- One ppb of frequency in the unit of `y`: 2⁴⁴ × 64,000. -/
def ppbUnit : Int := 2 ^ 44 * 64000

/-- The unit of `y` in 2⁻⁴⁴: 64 × 10¹². -/
def yUnit : Int := 64000000000000

/-- The limit of f: ±100 ppm (01 R14). -/
def freqLimit : Int := 1759218604

/-- A value held between two bounds. -/
def clampInt (lo hi v : Int) : Int := max lo (min hi v)

/-- In STEER_MODE 1 the attenuator is moved by the whole DCO_STEPs of f (01 R61). -/
def moveDco (s : State) : State :=
  if s.obj O.steerMode == 1 && s.obj O.dcoStep != 0 then
    s.onServo fun v => { v with dcoPulses := (s.obj O.freqWord).tdiv (s.obj O.dcoStep) }
  else s

/-- The servo sets f (01 R14, R644; R61). -/
def setFreq (fN : Int) (s : State) : State :=
  moveDco (s.setObj O.freqWord (clampInt (-freqLimit) freqLimit (freeDiv 1 fN yUnit)))

/-- A write of STEER_MODE or DCO_STEP: what the increment no longer carries, the attenuator is moved by (01 R61; log entry 44). -/
def actSteer (key : Nat) (v : Int) : Action := fun s => (.ok, moveDco (s.change key v))

/-- The elapsed whole seconds since a tick: 156,250,000 ticks each. -/
def secondsElapsed (s : State) (tick : Nat) : Nat := (s.clock.ticks - tick) / 156250000

/-- Ticks in a second. -/
def tickHz : Int := 156250000

/-- One nanosecond in the unit of `boundOf`. -/
def boundUnit : Int := 1728000000 * tickHz * tickHz

/-- The holdover bound of 01 R50 in units of 1/(1,728,000,000 × 156,250,000²) ns, in which every term of it is whole: t is in ticks. -/
def boundOf (s : State) (h : Holdover) : Int :=
  let t : Int := (s.clock.ticks - h.since : Nat)
  match h.ref with
  | .synce => h.e0 * 1728000 * tickHz * tickHz + 12000 * t * 1728 * tickHz
  | _ => h.e0 * 1728000 * tickHz * tickHz + (h.fL + 100 * s.obj O.oscTempTerm) * t * 1728 * tickHz + s.obj O.oscAging * t * t

/-- HOLDOVER_BOUND in nanoseconds. -/
def boundNs (s : State) (h : Holdover) : Int := freeDiv 2 (boundOf s h) boundUnit

/-- The holdover bound in picoseconds where the servo is in holdover, rounded down, otherwise 0 (01 R43). -/
def heldBoundPs (s : State) : Int :=
  match s.time.servo.hold with
  | some h => if s.obj O.servoState == 3 || s.obj O.servoState == 4 then boundOf s h * 1000 / boundUnit else 0
  | none => 0

/-- The offset in picoseconds that a slew still has to remove (01 R46). -/
def Slew.left (w : Slew) : Int := w.offset - w.removed * 1000000000000 / 2 ^ 44

/-- The second that ends with an update has removed what f added to the f at the slew's start. -/
def slewSecond (s : State) : State :=
  s.onServo fun v => { v with slew := v.slew.map fun w => { w with removed := w.removed + (s.obj O.freqWord - w.f0) } }

/-- Whether a filtered offset lies within ±JUMP_THRESHOLD (01 R43, R46). -/
def withinJump (s : State) (e : Int) : Bool := decide ((e.natAbs : Int) ≤ s.obj O.jumpThreshold * 1000)

/-- Whether a filtered offset is acceptable (01 R43, R46), in picoseconds. -/
def acceptable (s : State) (x : Source) (e : Int) : Bool :=
  match s.time.servo.slew with
  | some w =>
    if w.src == x then decide ((e - w.left).natAbs ≤ s.nat O.authTolerance * 1000)
    else decide ((e.natAbs : Int) ≤ s.obj O.jumpThreshold * 1000 + heldBoundPs s)
  | none => decide ((e.natAbs : Int) ≤ s.obj O.jumpThreshold * 1000 + heldBoundPs s)

/-- The servo enters ACQUIRE on a source: y takes the f in force, and the lock window starts anew (01 R37, R644). -/
def enterAcquire (x : Source) (s : State) : State :=
  let from' := s.obj O.servoState == 3 || s.obj O.servoState == 4 || (s.obj O.servoState == 1 && s.time.servo.fromHold)
  let f := s.obj O.freqWord
  ((s.setObj O.selectedSource (sourceCode x)).setObj O.servoState 1).onServo fun v =>
    { v with y := f * yUnit, window := [], fromHold := from' }

/-- The sum of a list of numbers. -/
def sumInt (l : List Int) : Int := l.foldl (· + ·) 0

/-- The least-squares slope of hourly means (newest first), in the unit of y per second: Σ(i − m)(h − h̄) / Σ(i − m)² over the
hour index, divided by 3,600 s (01 R644); 0 where the period lasted less than 12 h. -/
def slopeOf (hours : List Int) : Int :=
  let n : Int := hours.length
  if n < 12 then 0
  else
    let pts := hours.reverse.zipIdx.map fun p => ((p.2 : Int), p.1)
    let sx := sumInt (pts.map (·.1))
    let sy := sumInt (pts.map (·.2))
    let sxy := sumInt (pts.map fun p => p.1 * p.2)
    let sxx := sumInt (pts.map fun p => p.1 * p.1)
    freeDiv 3 (n * sxy - sx * sy) ((n * sxx - sx * sx) * 3600 * 3600)

/-- The LOCKED period ends: the learnt frequency and slope are formed from it (01 R49, R644). -/
def leaveLocked (s : State) : State :=
  if s.obj O.servoState == 2 then
    s.onServo fun v =>
      { v with learnt := (if v.ySamples.length = 0 then v.y else freeDiv 4 (sumInt v.ySamples) v.ySamples.length)
               slope := slopeOf v.yHours
               lockedSecs := secondsElapsed s v.lockedAt }
  else s

/-- Whether the SyncE reference of 01 R49 is fit: SYNCE_OUT0's lane locked throughout the last 300 s, and declared traceable. -/
def synceFit (s : State) : Bool :=
  s.obj O.synceTraceable == 1 && s.obj O.out0Lane != 0xFF
  && (match Store.find s.time.laneLock (s.nat O.out0Lane) with
      | some t => decide (300 ≤ secondsElapsed s t)
      | none => false)

/-- fL of 01 R50 in 10⁻¹⁵, from the length of the most recent LOCKED period. -/
def learningResidual (v : Servo) : Nat :=
  if !v.everLocked then 1000000
  else if 43200 ≤ v.lockedSecs then 5000
  else if 3600 ≤ v.lockedSecs then 50000
  else 1000000

/-- The bound is written to HOLDOVER_BOUND, and where it has reached HOLDOVER_LIMIT the servo enters HOLDOVER_LIMITED (01 R37, R40,
R50). -/
def refreshBound (s : State) : State :=
  match s.time.servo.hold with
  | some h =>
    if s.obj O.servoState == 3 || s.obj O.servoState == 4 then
      let s := s.setObj O.holdoverBound (min (boundNs s h) 0xFFFFFFFF)
      if s.obj O.servoState == 3 && s.obj O.holdoverLimit * boundUnit ≤ boundOf s h then
        raise (s.setObj O.servoState 4) O.holdoverLimitCount 0xFFFF [] 0
      else s
    else s
  | none => s

/-- The frequency reference that a holdover uses now (01 R49, R41; log entry 44). -/
def refNow (s : State) (stopped : Bool) : HoldRef :=
  if stopped then .frozen else if synceFit s then .synce else if s.time.servo.everLocked then .oscillator else .frozen

/-- f in holdover, at its entry and once a second while the servo runs (01 R49, R644): a reference that is no longer fit gives way to the next. -/
def holdFreq (s : State) : State :=
  match s.time.servo.hold with
  | some h =>
    if (s.obj O.servoState == 3 || s.obj O.servoState == 4) && s.isOn O.servoEnable then
      let h := { h with ref := refNow s h.stopped }
      let s := s.onServo fun v => { v with hold := some h }
      match h.ref with
      | .frozen => s
      | .oscillator => setFreq (s.time.servo.learnt + freeDiv 19 (s.time.servo.slope * (s.clock.ticks - h.since : Nat)) tickHz) s
      | .synce => { setFreq (Config.synceFreq s.freeCtr * yUnit) s with freeCtr := s.freeCtr + 1 }
    else s
  | none => s

/-- The servo enters HOLDOVER (01 R37, R40, R41, R49, R50). An ACQUIRE that began in holdover resumes that holdover, where SERVO_ENABLE is
written 0 too, and a slew that runs ends (log entry 44). `stopped` says that SERVO_ENABLE was written 0, so that neither frequency reference is used. -/
def enterHoldover (stopped : Bool) (s : State) : State :=
  let resume := s.obj O.servoState == 1 && s.time.servo.fromHold && s.time.servo.hold.isSome
  let e0 := s.time.servo.lastErr.natAbs
  let s := leaveLocked s
  let v := s.time.servo
  let fresh : Holdover :=
    { since := s.clock.ticks, e0 := e0 + 50000, fL := if stopped then 1000000 else learningResidual v,
      ref := refNow s stopped, stopped := stopped }
  let s := s.onServo fun v => { v with hold := if resume then v.hold else some fresh, slew := none, window := [], fromHold := false }
  let s := (s.setObj O.selectedSource 0).setObj O.servoState 3
  refreshBound (holdFreq (raise s O.holdoverEnterCount 0xFFFF [] 0))

/-- The offset of an authorisation in picoseconds (01 R45). -/
def authOffsetPs (s : State) : Int := (s.obj O.authOffsetS * 1000000000 + s.obj O.authOffsetNs) * 1000

/-- Whether an offset lies within ±AUTH_TOLERANCE of the authorised one (01 R45), as the objects read at the test (log entry 44). -/
def withinAuth (s : State) (e : Int) : Bool := decide ((e - authOffsetPs s).natAbs ≤ s.nat O.authTolerance * 1000)

/-- An armed authorisation is tested against a refusal's recorded offset (01 R45, R46, R47). With SERVO_ENABLE not ON no source is selected (01
R41), and an authorisation whose test finds the offset within the tolerance stays ARMED (log entry 44). -/
def authTest (x : Source) (recorded : Int) (s : State) : State :=
  if s.obj O.authStatus != 1 then s
  else if !withinAuth s recorded then (s.setObj O.authStatus 4).onServo fun v => { v with authMode := 0 }
  else if !s.isOn O.servoEnable then s
  else if s.time.servo.authMode == 2 then
    let s := (enterAcquire x (leaveLocked s)).setObj O.authStatus 3
    s.onServo fun v => { v with authMode := 0, slew := some ⟨x, recorded, s.obj O.freqWord, 0⟩, refused := v.refused.set x none,
                                unaccepted := v.unaccepted.set x 0 }
  else (s.setObj O.authStatus 2).onServo fun v => { v with authSrc := some x }

/-- A source is refused (01 R44): its offset is recorded as whole seconds and nanoseconds with the offset's sign, a part of a nanosecond
dropped (log entry 44), and TIME_JUMP_REFUSED is raised. The record is what an authorisation is tested against (01 R45). -/
def refuseSource (x : Source) (e : Int) (s : State) : State :=
  let ns := e.tdiv 1000
  let e := ns * 1000
  let s := (s.setObj O.refusedOffsetS (ns.tdiv 1000000000)).setObj O.refusedOffsetNs (ns.tmod 1000000000)
  let s := s.onServo fun v =>
    { v with refused := v.refused.set x (some e), unaccepted := v.unaccepted.set x 0, lastRefused := some x,
             slew := match v.slew with
               | some w => if w.src == x then none else some w
               | none => none }
  authTest x e (raise s O.timeJumpRefusedCount (sourceCode x) [] 0)

/-- A slew of a source ends with the first of its offsets that lies within ±JUMP_THRESHOLD (01 R46). -/
def endSlew (x : Source) (e : Int) (s : State) : State :=
  s.onServo fun v => { v with slew := match v.slew with
    | some w => if w.src == x && withinJump s e then none else some w
    | none => none }

/-- One source's measurement at an update is judged (01 R43, R44, R46). -/
def judgeSource (x : Source) (s : State) : State :=
  match s.time.servo.meas.get x with
  | none => s
  | some e =>
    let s := s.onServo fun v => { v with err := v.err.set x (some e) }
    if !judged s x then s
    else
      let s := endSlew x e s
      if acceptable s x e then s.onServo fun v => { v with unaccepted := v.unaccepted.set x 0, refused := v.refused.set x none }
      else if (s.time.servo.refused.get x).isSome then s
      else if 2 ≤ s.time.servo.unaccepted.get x then refuseSource x e s
      else s.onServo fun v => { v with unaccepted := v.unaccepted.set x (v.unaccepted.get x + 1) }

/-- Whether a source has an acceptable offset at this update (01 R21, R43). -/
def hasAcceptable (s : State) (x : Source) : Bool :=
  match s.time.servo.meas.get x with
  | some e => acceptable s x e
  | none => false

/-- The better of two candidates by priority; of equals the earlier in the order of 01 R21. -/
def better (s : State) (best : Option Source) (x : Source) : Option Source :=
  match best with
  | some b => if s.prio x < s.prio b then some x else some b
  | none => some x

/-- The source that 01 R21 and R22 select of candidates, given the one selected now, which stays while `stays` holds of it but for a better
one that has waited. -/
def chooseOf (s : State) (stays : Source → Bool) (cands : List Source) : Option Source :=
  match s.selected with
  | some c =>
    if stays c then
      let ahead := cands.filter fun x => s.prio x < s.prio c && s.time.servo.restored.get x
      if s.obj O.revertive == 1 then (ahead.foldl (better s) none).orElse fun _ => some c else some c
    else cands.foldl (better s) none
  | none => cands.foldl (better s) none

/-- The source that 01 R21 and R22 select. -/
def choose (s : State) : Option Source :=
  chooseOf s (selectable s) (allSources.filter fun x => selectable s x && hasAcceptable s x)

/-- The servo steers toward the selected source's acceptable measurement (01 R39, R644). -/
def steer (e : Int) (s : State) : State :=
  let y := s.time.servo.y + e * 2 ^ 44
  let lim := s.obj O.slewLimit * ppbUnit
  let fN := clampInt (y - lim) (y + lim) (y + e * 2 ^ 44 * 64)
  let s := s.onServo fun v =>
    { v with y := y, lastErr := e }
  let s := setFreq fN s
  s.onServo fun v => { v with window := keepLast 16 (v.window ++ [(e, s.obj O.freqWord)]) }

/-- The lock criterion (01 R38). -/
def lockMet (s : State) : Bool :=
  let w := s.time.servo.window
  let fs : List Int := w.map (·.2)
  w.length == 16 && (w.all fun p => decide (p.1.natAbs ≤ s.nat O.lockThreshold * 1000))
  && decide ((fs.foldl max (fs.headD 0) - fs.foldl min (fs.headD 0)) * 1000000000 ≤ 2 ^ 44)

/-- LOCKED is entered when the criterion is met (01 R37, R52). -/
def lockStep (s : State) : State :=
  if s.obj O.servoState == 1 && lockMet s then
    (s.setObj O.servoState 2).onServo fun v =>
      { v with lockedAt := s.clock.ticks, everLocked := true, ySamples := [], yCount := 0, yHours := [], lockedSecs := 0, hold := none,
               fromHold := false, limitUntil := if v.limitClose && v.limitUntil.isNone then some (nextFrame s.airNow) else v.limitUntil }
  else s

/-- In LOCKED every update keeps y, with a measurement or without, and each whole hour of them its sum (01 R644). -/
def keepY (s : State) : State :=
  if s.obj O.servoState == 2 then
    s.onServo fun v =>
      let samples := (v.y :: v.ySamples).take 3600
      { v with ySamples := samples, yCount := v.yCount + 1
               yHours := if (v.yCount + 1) % 3600 == 0 then sumInt samples :: v.yHours else v.yHours }
  else s

/-- A measurement that is not acceptable steers nothing; it counts among the 16 in a row of the lock criterion (01 R38). -/
def skipMeasurement (e : Int) (s : State) : State :=
  s.onServo fun v => { v with window := keepLast 16 (v.window ++ [(e, s.obj O.freqWord)]) }

/-- The initial set (01 R42): the counter takes the first selected source's measurement in one step at the next tick, and TIME_VALID
becomes 1. Network listen never performs it (02 R84). -/
def initialSet (s : State) : State :=
  let fit := fun (x : Source) => x != .nl && qualified s x && s.prio x != 0
  match chooseOf s fit (allSources.filter fit) with
  | none => (s.setObj O.selectedSource 0).setObj O.servoState 0
  | some x =>
    let s := if s.obj O.servoState == 1 && s.selected == some x then s else enterAcquire x s
    match s.time.servo.meas.get x with
    | none => s
    | some e =>
      let s := s.setObj O.timeValid 1
      let s := s.onServo fun v => { v with err := v.err.set x (some 0), lastErr := 0 }
      advance (stepCount e s) 1

/-- Selection, steering, lock and holdover once TIME_VALID is 1. A measurement is judged once, before its source is selected, so that one
acceptable in holdover is steered on (01 R43, R644). -/
def disciplined (s : State) : State :=
  let s := allSources.foldl (fun s x => judgeSource x s) s
  match choose s with
  | none =>
    if s.obj O.servoState == 1 || s.obj O.servoState == 2 then enterHoldover false s
    else refreshBound (holdFreq (s.setObj O.selectedSource 0))
  | some x =>
    let good := hasAcceptable s x
    let s :=
      if s.selected == some x && (s.obj O.servoState == 1 || s.obj O.servoState == 2) then s
      else if s.obj O.servoState == 1 || s.obj O.servoState == 2 then s.setObj O.selectedSource (sourceCode x)
      else enterAcquire x s
    keepY (match s.time.servo.meas.get x with
      | some e => if good then lockStep (steer e s) else skipMeasurement e s
      | none => s)

/-- The middle of a list of numbers in rising order, the mean of the two middle ones for an even length (01 R644). -/
def medianOf (l : List Int) : Option Int :=
  let l := l.foldl (fun acc x => acc.takeWhile (· ≤ x) ++ [x] ++ acc.dropWhile (· ≤ x)) []
  match l.length with
  | 0 => none
  | n => if n % 2 == 1 then l[n / 2]? else
    match l[n / 2 - 1]?, l[n / 2]? with
    | some a, some b => some (freeDiv 5 (a + b) 2)
    | _, _ => none

/-- The result of network listen that an update measures: of those that qualify and whose gap closed since the update before, the one whose
gap closed last (02 R85). -/
def nlPick (s : State) : Option NlResult :=
  ((s.nl.unused.filter fun r => r.qualifies s && decide (s.time.servo.lastUpdate < r.closedAt)).foldl (fun b r => match b with
    | some x => if x.closedAt < r.closedAt then some r else b
    | none => some r) none)

/-- The PTP and NL measurements of the interval are formed (01 R644, 02 R85). No result of network listen is used twice. -/
def takeMeasurements (s : State) : State :=
  let ptp := if (ptpSlave s).isSome then medianOf s.time.offsets else none
  let nl := nlPick s
  let s := s.onServo fun v => { v with meas := (v.meas.set .ptp ptp).set .nl (nl.map (·.offset)) }
  if nl.any (·.number == s.nat O.resultsCommitted) then
    s.setObj O.resultFlags (setBit (s.nat O.resultFlags) 1 true : Nat) else s

/-- What the interval that ends brought is gone. -/
def nextInterval (s : State) : State :=
  { s.onTime fun t => { t with offsets := [], updates := t.updates.drop 1, servo :=
      { t.servo with meas := ⟨none, none, none⟩, lastUpdate := s.clock.ticks } } with nl := { s.nl with unused := [] } }

/-- PHASE_ERROR shows the filtered phase error of the selected source (01 Table 1-9). -/
def showError (s : State) : State :=
  match s.selected with
  | some x => s.setObj O.phaseError (clampInt (-(2 ^ 31)) (2 ^ 31 - 1) ((s.time.servo.err.get x).getD 0))
  | none => s

/-- The shut-down of the servo completes at its update (01 R41). -/
def servoStopped (s : State) : State :=
  let run := s.obj O.servoState == 1 || s.obj O.servoState == 2
  let s :=
    if s.obj O.timeValid == 1 then
      if run then enterHoldover true s else refreshBound (s.setObj O.selectedSource 0)
    else (s.setObj O.selectedSource 0).setObj O.servoState 0
  shutDone O.servoEnable s

/-- The instant of the next servo update: 10 ms after the oldest nanoseconds wrap whose update has not come, or after the next wrap (01 R47, R644). -/
def nextUpdate (s : State) : Nat := s.time.updates.headD (nextWrap s.clock.count) + 10000000 * nsUnit

/-- One update of the servo (01 R644, R37 to R50), at the instant that 01 R644 gives it. -/
def servoUpdate (s : State) : State :=
  let s := advanceTo s (nextUpdate s)
  let s := refreshQualified (slewSecond s)
  let s :=
    if s.obj O.servoEnable == stStopping || (s.obj O.servoEnable == stPending && s.shutRuns O.servoEnable) then servoStopped s
    else if s.isOn O.servoEnable then
      let s := takeMeasurements s
      if s.obj O.timeValid == 1 then disciplined s else initialSet s
    else refreshBound s
  showError (refreshStatus (nextInterval s))

/-- WAIT_TO_RESTORE_EXPIRY: the source has stayed qualified for WAIT_TO_RESTORE seconds (01 R22). -/
def execWaitToRestoreExpiry (x : Source) (s : State) : Host.Outcome State Fault Refusal :=
  match s.time.servo.qualSince.get x with
  | none => .next s
  | some t =>
    let s := advanceTicks s (t + s.nat O.waitToRestore * 156250000)
    .next (if qualified s x then s.onServo fun v => { v with restored := v.restored.set x true } else s)

/-- LIMIT_WINDOW_CLOSURE: at the next frame boundary after the entry into HOLDOVER_LIMITED with LIMIT_ACTION 1 every transmit window
of TDD carriers closes (01 R52). -/
def execLimitWindowClosure (s : State) : Host.Outcome State Fault Refusal :=
  .next (if s.obj O.servoState == 4 && s.obj O.limitAction == 1 && !(s.time.servo.limitClose && s.time.servo.limitUntil.isNone) then
      let s := if s.airRunning then advanceToAir s (nextFrame s.airNow) else s
      s.onServo fun v => { v with limitClose := true, limitFrom := s.airNow, limitUntil := none }
    else s)

/-- Whether a transmit window that opens at an instant of device air time falls in the closure of 01 R52 (10 R349): in one that stands, or
in the one that the next frame boundary starts. -/
def limitClosed (s : State) (a : Int) : Bool :=
  let v := s.time.servo
  let stands := v.limitClose && decide (v.limitFrom ≤ a) && (match v.limitUntil with
    | some u => decide (a < u)
    | none => true)
  stands || (s.obj O.servoState == 4 && s.obj O.limitAction == 1 && !(v.limitClose && v.limitUntil.isNone)
    && decide (nextFrame s.airNow ≤ a))

/-! ## Authorised corrections (01 R45 to R48) -/

/-- A write of AUTH_MODE arms the authorisation, and tests it against the refusal recorded (01 R45). -/
def actAuthMode (v : Int) : Action := fun s =>
  let a := s.obj O.authOffsetS
  let b := s.obj O.authOffsetNs
  if (0 < a && b < 0) || (a < 0 && 0 < b) then (.valueRange, s)
  else
    let s := (s.setObj O.authStatus 1).onServo fun w => { w with authMode := v.toNat, armedAt := s.clock.ticks, authSrc := none }
    match s.time.servo.lastRefused with
    | some x => match s.time.servo.refused.get x with
      | some e => (.ok, authTest x e s)
      | none => (.ok, s)
    | none => (.ok, s)

/-- WRITE_AUTH_MODE. -/
def execWriteAuthMode (x : Xfer) (v : Int) (s : State) : Host.Outcome State Fault Refusal :=
  .next (hostWrite x O.authMode (.num v) (actAuthMode v) s)

/-- AUTH_EXPIRY: 60 s after arming, an authorisation that has not been applied expires (01 R45, R47). -/
def execAuthExpiry (s : State) : Host.Outcome State Fault Refusal :=
  if s.obj O.authStatus == 1 || s.obj O.authStatus == 2 then
    let s := advanceTicks s (s.time.servo.armedAt + ticksOfNs 60000000000)
    .next ((s.setObj O.authStatus 5).onServo fun v => { v with authMode := 0, authSrc := none })
  else .next s

/-- AUTH_STEP_DECISION: with no carrier enabled, the step is the refused source's latest filtered offset, if that still lies within
the tolerance (01 R47). -/
def execAuthStepDecision (s : State) : Host.Outcome State Fault Refusal :=
  match s.time.servo.authSrc with
  | some x =>
    if s.obj O.authStatus == 2 && s.noCarrier then
      let e := (s.time.servo.err.get x).getD 0
      if withinAuth s e then
        .next ((s.setObj O.authStatus 3).onServo fun v =>
          { v with step := some (x, ⟨e, s.clock.ticks, false⟩), authSrc := none, authMode := 0 })
      else .next ((s.setObj O.authStatus 4).onServo fun v => { v with authSrc := none, authMode := 0 })
    else .next s
  | none => .next s

/-- GUARD_STEP_CONFIRM: the guard confirms a step or a new epoch that it has received, unless it has failed (01 R47, 03 R92). -/
def execGuardStepConfirm (ask : GuardAsk) (s : State) : Host.Outcome State Fault Refusal :=
  if s.obj O.guardState == 2 then .next s
  else match ask with
    | .step => .next (s.onServo fun v => { v with step := v.step.map fun p => (p.1, { p.2 with confirmed := true }) })
    | .epoch => .next { s with clock := { s.clock with newEpoch := s.clock.newEpoch.map fun w => { w with confirmed := true } } }

/-- The first TARGET + n × PERIOD later than a count of site time; `none` for a one-shot trigger (01 R64). -/
def nextTarget (target periodNs count : Nat) : Option Nat :=
  if periodNs = 0 then none
  else if count < target then some target
  else some (target + ((count - target) / (periodNs * nsUnit) + 1) * (periodNs * nsUnit))

/-- A trigger fires (01 R63, R67): PERIOD is added to TARGET, or the trigger disarms, and TRIG_OUTPUT 2 drives PPS_OUT. `stepped`
says that an authorised step passed its target (01 R64), so that its next target is the first later than the new site time. An ordinary
firing leaves STEPPED clear, and the pulse on PPS_OUT lasts PPS_OUT_WIDTH (log entry 44). -/
def fireTrigger (n : Nat) (stepped : Bool) (s : State) : State :=
  let target := countOf (s.nat (O.trigTarget n))
  let period := s.nat (O.trigPeriod n)
  let next := if stepped then nextTarget target period s.clock.count
    else if period = 0 then none else some (target + period * nsUnit)
  let s := match next with
    | some c => s.change (O.trigTarget n) (stimeOf c)
    | none => s
  let s := s.setObj (O.trigStatus n) ((if next.isSome then 1 else 0) + 2 + (if stepped then 4 else 0))
  if s.obj (O.trigOutput n) == 2 then
    s.onTime fun t => { t with ppsRise := s.clock.count, ppsFall := s.clock.count + s.nat O.ppsOutWidth * nsUnit, ppsTrig := true }
  else s

/-- Whether a trigger is armed. -/
def armed (s : State) (n : Nat) : Bool := bitOf (s.nat (O.trigStatus n)) 0

/-- A step of the counter by an offset in picoseconds, with the triggers that it passes over (01 R47, R48, R64); a listen gap in
progress ends without a result (02 R73). -/
def stepCounter (e : Int) (s : State) : State :=
  let before := s.clock.count
  let s := stepCount e s
  let after := s.clock.count
  let s := (List.range 8).foldl (fun s n =>
    let target := countOf (s.nat (O.trigTarget n))
    if armed s n && before < target && target ≤ after then fireTrigger n true s else s) s
  abandonGap s

/-- AUTH_STEP_APPLY: at the next nanoseconds wrap, where it lies at least 100 µs after the decision, the guard has confirmed and no carrier is
enabled, the step is applied and its source selected with the servo in ACQUIRE (01 R47); a servo that does not run selects none (01 R41;
log entry 44). -/
def execAuthStepApply (s : State) : Host.Outcome State Fault Refusal :=
  match s.time.servo.step with
  | none => .next s
  | some (x, w) =>
    let s := advanceTo s (nextWrap s.clock.count)
    if w.confirmed && w.decided + ticksOfNs 100000 ≤ s.clock.ticks && s.noCarrier then
      let s := stepCounter w.value s
      let s := s.onServo fun v => { v with step := none, refused := v.refused.set x none, err := v.err.set x (some 0), lastErr := 0 }
      .next (if s.isOn O.servoEnable then enterAcquire x (leaveLocked s) else s)
    else .next s

/-! ## Triggers, PPS_OUT, captures (01 R62 to R65) -/

/-- TRIGGER_FIRE: an armed trigger fires when site time reaches its TARGET (01 R63). -/
def execTriggerFire (n : Nat) (s : State) : Host.Outcome State Fault Refusal :=
  if 8 ≤ n then .fault .noSuchUnit
  else if armed s n then .next (fireTrigger n false (advanceTo s (countOf (s.nat (O.trigTarget n)))))
  else .next s

/-- A write of a TARGET arms the trigger and clears the other bits of its status (log entry 44); one not later than the current site time is refused with TOO_LATE (01 R63). -/
def actTriggerTarget (n : Nat) (v : Int) : Action := fun s =>
  if countOf v.toNat ≤ s.clock.count then (.tooLate, s)
  else (.ok, (s.change (O.trigTarget n) v).setObj (O.trigStatus n) 1)

/-- WRITE_TRIGGER_TARGET. -/
def execWriteTriggerTarget (x : Xfer) (n : Nat) (v : Int) (s : State) : Host.Outcome State Fault Refusal :=
  if 8 ≤ n then .fault .noSuchUnit
  else .next (hostWrite x (O.trigTarget n) (.num v) (actTriggerTarget n v) s)

/-- READ_CAP_FIFO: a read returns the oldest entry and pops it (01 R62, 05 R169). -/
def execReadCapFifo (x : Xfer) (n : Nat) (s : State) : Host.Outcome State Fault Refusal :=
  if 8 ≤ n then .fault .noSuchUnit
  else .next (hostPop x (O.capFifo n)
    (fun s => ((Store.at [] s.time.captures n).head?).map fun c => leBytes 16 (stimeOf c))
    (fun s => s.onTime fun t => { t with captures := Store.put t.captures n (Store.at [] t.captures n).tail }) s)

/-- The next instant of PPS_OUT: a wrap plus PPS_OUT_OFFSET (01 R65), the oldest wrap whose pulse has not come, or the next. -/
def nextPulse (s : State) : Nat :=
  let off := s.obj O.ppsOutOffset * (nsUnit : Nat) / 1000
  if 0 ≤ off then ((s.time.pulses.headD (nextWrap s.clock.count) : Nat) + off).toNat
  else ((((s.clock.count : Int) - off) / (secUnit : Nat) + 1) * (secUnit : Nat) + off).toNat

/-- Whether an armed trigger takes PPS_OUT (01 R67). -/
def ppsTaken (s : State) : Bool := (List.range 8).any fun n => armed s n && s.obj (O.trigOutput n) == 2

/-- Whether PPS_OUT_MODE lets PPS_OUT pulse at a wrap (01 R65). -/
def ppsAllowed (s : State) : Bool :=
  s.obj O.ppsOutMode == 2 || (s.obj O.ppsOutMode == 1 && (s.obj O.servoState == 2 || s.obj O.servoState == 3))

/-- PPS_OUT_PULSE: PPS_OUT rises where its mode allows it and no armed trigger holds it (01 R65, R67). -/
def execPpsOutPulse (s : State) : Host.Outcome State Fault Refusal :=
  let s := advanceTo s (nextPulse s)
  let s := s.onTime fun t => { t with pulses := t.pulses.drop 1 }
  .next (if !ppsTaken s && ppsAllowed s then
      s.onTime fun t => { t with ppsRise := s.clock.count, ppsFall := s.clock.count + s.nat O.ppsOutWidth * nsUnit, ppsTrig := false }
    else s)

/-- The level of PPS_OUT (01 R65, R67): a pulse of a wrap is held low as soon as its mode or the servo's state forbids it or a trigger takes
the output. -/
def State.ppsOut (s : State) : Bool :=
  decide (s.time.ppsRise ≤ s.clock.count) && decide (s.clock.count < s.time.ppsFall)
    && (s.time.ppsTrig || (ppsAllowed s && !ppsTaken s))

/-- NANOSECONDS_WRAP: time passes to the next wrap of the nanoseconds field (01 R12, R47). -/
def execNanosecondsWrap (s : State) : Host.Outcome State Fault Refusal :=
  .next (advanceTo s (nextWrap s.clock.count))

/-- A write of LEGACY_MODE: at a change from 0 to 1 the independent counter starts from the derived view (01 R18). -/
def actLegacyMode (v : Int) : Action := fun s =>
  let start := s.obj O.legacyMode == 0 && v == 1
  let legacy := if start then s.legacyNs * 2 ^ 24 else s.clock.legacy
  (.ok, { s.change O.legacyMode v with clock := { s.clock with legacy := legacy } })

/-- WRITE_LEGACY_MODE. -/
def execWriteLegacyMode (x : Xfer) (v : Int) (s : State) : Host.Outcome State Fault Refusal :=
  .next (hostWrite x O.legacyMode (.num v) (actLegacyMode v) s)

/-! ## PTP and SyncE (01 R53 to R61) -/

/-- The correction of 01 Table 1-7 in picoseconds, transmit and receive, by PORT_SPEED. -/
def ptpCorrection (s : State) (p : Nat) : Int × Int :=
  match s.nat (O.portSpeed p) with
  | 0 => (41210, 63846)
  | 1 => (52604, 88417)
  | 2 => (47912, 81305)
  | 3 => (55138, 97622)
  | _ => (58706, 104190)

/-- Whether a transport is of the profile in force (01 Table 1-6). -/
def viaFits (s : State) : PtpOver → Bool
  | .ethernet dst => s.obj O.ptpProfile == 1 && (dst == 0x0180C200000E || dst == 0x011B19000000)
  | _ => s.obj O.ptpProfile == 2

/-- Whether a PTP message reaches the exchanges of the device: over the transport of the profile in force, and in its domain (01 R53, Table
1-6). -/
def ptpHeard (s : State) (h : PtpHead) : Bool := (h.domain : Int) == s.obj O.ptpDomain && viaFits s h.via

/-- Whether a rate per second is one that unicast negotiation may ask for (01 Table 1-6). -/
def rateAllowed : PtpService → Nat → Bool
  | .announce, r => 1 ≤ r && r ≤ 8
  | _, r => 1 ≤ r && r ≤ 128

/-- The rate of a message with an other end by the grants in force. -/
def grantedRate (s : State) (peer : PtpOver) (what : PtpService) (l : List Grant) : Option Nat :=
  (l.find? fun g => g.peer == peer && g.what == what && decide (s.clock.ticks < g.ends)).map (·.perSecond)

/-- A grant takes the place of one of the same message with the same other end. -/
def addGrant (s : State) (peer : PtpOver) (what : PtpService) (perSecond seconds : Nat) (l : List Grant) : List Grant :=
  (l.filter fun g => g.peer != peer || g.what != what) ++ [⟨peer, what, perSecond, s.clock.ticks + seconds * 156250000⟩]

/-- A PTP message of a port: in PTP_DOMAIN, from PORT_MAC, with the tag of 09 R304. -/
def ptpFrame (s : State) (p : Nat) (via : PtpOver) (m : PtpTx) (seconds nanos : Nat) (correction : Int) : PtpSent :=
  ⟨p, m, via, s.nat O.ptpDomain, wireNat (s.blob (O.portMac p)), s.frameTag p, seconds, nanos, correction⟩

/-- The device sends a PTP message on a port. -/
def sendPtp (m : PtpSent) (s : State) : State :=
  (s.onTime fun t => { t with ptpSent := some m }).bump (O.txFrames m.port) 1

/-- An offset of a PTP port, master minus site time with ASYMMETRY applied (01 R55, R644), from the mean path delay and t2 − t1. -/
def ptpOffset (p : Nat) (mean diff : Int) (s : State) : State :=
  s.onTime fun t => { t with offsets := t.offsets ++ [mean - diff + s.obj (O.asymmetry p)] }

/-- A Sync whose origin time is known completes the difference t2 − t1 (01 R53, R644). -/
def syncDone (p : Nat) (x : PtpPort) (ingress originPs corrPs : Int) (s : State) : State :=
  let diff := ingress - originPs - corrPs
  let s := s.setPtp p { x with syncIn := none, syncDiff := some diff }
  if x.delayOk then ptpOffset p (s.obj (O.meanPathDelay p)) diff s else s

/-- A Delay_Resp to the Delay_Req sent last completes the mean path delay (01 R53, R644). -/
def delayDone (p : Nat) (x : PtpPort) (receivePs corrPs : Int) (s : State) : State :=
  match x.reqOut, x.syncDiff with
  | some t3, some d =>
    let mean := freeDiv 6 (d + (receivePs - corrPs - t3)) 2
    let s := s.setObj (O.meanPathDelay p) (clampInt 0 0xFFFFFFFF mean)
    ptpOffset p mean d (s.setPtp p { x with reqOut := none, delayOk := true })
  | _, _ => s

/-- An Announce is kept where none is, where it comes from the sender of the one kept, and where it is better (01 Table 1-6). -/
def keepAnnounce (p : Nat) (a : Master) (s : State) : State :=
  let x := s.ptpPort p
  match x.best with
  | some b => if b.sender == a.sender || comesBefore (rankOf s p a) (rankOf s p b) then s.setPtp p { x with best := some a } else s
  | none => s.setPtp p { x with best := some a }

/-- Whether a message comes from the master whose Announce the port keeps. -/
def PtpPort.hears (x : PtpPort) (sender : Nat) : Bool := x.best.any (·.sender == sender)

/-- What a PTP message does on a port that takes part in PTP (01 R53 to R56, R58, R644): in SLAVE the exchanges with the port's master form
the mean path delay and the offsets; in MASTER a Delay_Req is answered with its time of receipt, whose part below a nanosecond is taken off
the correctionField; an Announce enters the choice of the master on a slave-capable port; and a request for a unicast service is granted. -/
def ptpHear (p : Nat) (h : PtpHead) (m : PtpMsg) (s : State) : State :=
  let at' := s.clock.count - countOfPs (ptpCorrection s p).2
  let ingress := psOf at'
  let x := s.ptpPort p
  match m with
  | .sync id origin corr two =>
    if ptpState s p != 9 || !x.hears h.sender then s
    else if two then s.setPtp p { x with syncSeq := id, syncIn := some (ingress - corr) }
    else syncDone p x ingress origin corr s
  | .followUp id origin corr =>
    match x.syncIn with
    | some i => if ptpState s p == 9 && x.hears h.sender && x.syncSeq == id then syncDone p x i origin corr s else s
    | none => s
  | .delayResp id receive corr own =>
    if own && ptpState s p == 9 && x.hears h.sender && x.reqSeq == id then delayDone p x receive corr s else s
  | .delayReq id corr =>
    if ptpState s p == 6 && (s.obj O.ptpProfile == 1 || (grantedRate s h.via .delayResp x.given).isSome) then
      sendPtp (ptpFrame s p h.via (.delayResp id h.sender) (secondsOf at') (nanosOf at') (corr - (at' % nsUnit / 2 ^ 32 : Nat))) s
    else s
  | .announce a => if s.obj (O.portPtpRole p) == 2 && s.obj O.ptpRole != 3 then keepAnnounce p ⟨a, h.sender⟩ s else s
  | .unicastRequest what r secs =>
    if s.obj O.ptpProfile == 2 && rateAllowed what r && ptpState s p == 6 then
      sendPtp (ptpFrame s p h.via (.unicastGrant what r secs) 0 0 0) (s.setPtp p { x with given := addGrant s h.via what r secs x.given })
    else s
  | .unicastGrant what r secs =>
    if s.obj O.ptpProfile == 2 && rateAllowed what r && s.obj (O.portPtpRole p) == 2 then
      s.setPtp p { x with got := addGrant s h.via what r secs x.got }
    else s

/-- PTP_MESSAGE_RX (01 R53 to R56): a message that does not travel as Table 1-6 says, or on a port that takes no part in PTP, does nothing. -/
def execPtpMessageRx (dt p : Nat) (h : PtpHead) (m : PtpMsg) (s : State) : Host.Outcome State Fault Refusal :=
  if 24 ≤ p then .fault .noSuchUnit
  else
    let s := advance s dt
    .next (if ptpRuns s p && ptpHeard s h then refreshQualified (ptpHear p h m s) else s)

/-- Whether the master ports of the device have a source: a port in SLAVE, or the device itself (01 R54). -/
def ptpSourced (s : State) : Bool := selfSource s || (List.range 24).any fun q => ptpState s q == 9

/-- The rate at which a port sends a kind of message (01 Table 1-6): fixed by G.8275.1, and in G.8275.2 by what was granted with the other end. -/
def ptpRate (s : State) (p : Nat) (via : PtpOver) (m : PtpTx) : Option Nat :=
  let x := s.ptpPort p
  if s.obj O.ptpProfile == 1 then
    match m with
    | .announce => some 8
    | .sync | .delayReq _ => some 16
    | _ => none
  else match m with
    | .announce => grantedRate s via .announce x.given
    | .sync => grantedRate s via .sync x.given
    | .delayReq _ => grantedRate s via .delayResp x.got
    | _ => none

/-- Under what the last instant of a kind of message is kept: with the other end where it is one of unicast. -/
def ptpSlot (via : PtpOver) (m : PtpTx) : Nat × PtpOver :=
  (match m with
    | .announce => 0
    | .sync => 1
    | _ => 2,
   match via with
    | .ethernet _ => .ethernet 0
    | v => v)

/-- The tick at which the next message of a rate leaves. -/
def ptpDue (s : State) (p : Nat) (via : PtpOver) (m : PtpTx) (rate : Nat) : Nat :=
  match (s.ptpPort p).lastTx.find? fun e => e.1 == ptpSlot via m with
  | some e => e.2 + ceilDiv 156250000 rate
  | none => s.clock.ticks

/-- The instant of a message is kept for its rate. -/
def keepTx (p : Nat) (via : PtpOver) (m : PtpTx) (s : State) : State :=
  s.setPtp p { s.ptpPort p with
    lastTx := ((s.ptpPort p).lastTx.filter fun e => e.1 != ptpSlot via m) ++ [(ptpSlot via m, s.clock.ticks)] }

/-- A message with its time stamp: seconds and nanoseconds, and the part below a nanosecond in the correctionField (01 R58). -/
def stampOf (s : State) (p : Nat) (via : PtpOver) (m : PtpTx) (out : Nat) : PtpSent :=
  ptpFrame s p via m (secondsOf out) (nanosOf out) (out % nsUnit / 2 ^ 32 : Nat)

/-- What a message that is due does as it leaves (01 R53, R56, R58). A one-step Sync and a Delay_Req carry their egress stamp; a two-step Sync
leaves it to its Follow_Up, and the stamp that it carries itself is a free value (log entry 45). -/
def ptpLeave (p : Nat) (via : PtpOver) (m : PtpTx) (s : State) : State :=
  let out := s.clock.count + countOfPs (ptpCorrection s p).1
  let x := s.ptpPort p
  match m with
  | .delayReq id =>
    if ptpState s p != 9 then s
    else sendPtp (stampOf s p via m out) (keepTx p via m (s.setPtp p { x with reqSeq := id, reqOut := some (psOf out) }))
  | .sync =>
    if ptpState s p != 6 || !ptpSourced s then s
    else if s.obj (O.stepMode p) == 0 then sendPtp (stampOf s p via m out) (keepTx p via m s)
    else
      let w := s.free
      sendPtp (ptpFrame s p via m (w.1.toNat / 2 ^ 32) (w.1.toNat % 2 ^ 32) 0)
        (keepTx p via m (w.2.setPtp p { x with followUp := (x.followUp.filter fun f => f.1 != via) ++ [(via, out)] }))
  | .followUp =>
    match x.followUp.find? fun f => f.1 == via with
    | some f => sendPtp (stampOf s p via m f.2) (s.setPtp p { x with followUp := x.followUp.filter fun f => f.1 != via })
    | none => s
  | .announce => if ptpState s p != 6 || !ptpSourced s then s else sendPtp (ptpFrame s p via m 0 0 0) (keepTx p via m s)
  | .unicastRequest what r _ =>
    if s.obj O.ptpProfile == 2 && rateAllowed what r && s.obj (O.portPtpRole p) == 2 then sendPtp (ptpFrame s p via m 0 0 0) s else s
  | .delayResp .. | .unicastGrant .. => s

/-- PTP_MESSAGE_TX (01 R53 to R58): the port sends a message over a transport of its profile, one of a fixed or granted rate when it is due; a
Delay_Resp and a grant leave as answers, with the message that they answer. -/
def execPtpMessageTx (p : Nat) (m : PtpOut) (s : State) : Host.Outcome State Fault Refusal :=
  if 24 ≤ p then .fault .noSuchUnit
  else if !ptpRuns s p || !viaFits s m.via then .next s
  else match m.msg with
    | .announce | .sync | .delayReq _ =>
      match ptpRate s p m.via m.msg with
      | some r => .next (ptpLeave p m.via m.msg (advanceTicks s (ptpDue s p m.via m.msg r)))
      | none => .next s
    | _ => .next (ptpLeave p m.via m.msg s)

/-- The lane of a SyncE output. -/
def synceLane (s : State) (out : Nat) : Nat := if out == 0 then s.nat O.out0Lane else s.nat O.out1Lane

/-- SYNCE_OUTPUT_RESUME: an output resumes after its lane has been locked for 1 s (01 R59). -/
def execSynceOutputResume (out : Nat) (s : State) : Host.Outcome State Fault Refusal :=
  if 2 ≤ out then .fault .noSuchUnit
  else match Store.find s.time.laneLock (synceLane s out) with
    | none => .next s
    | some t =>
      let s := advanceTicks s (t + 156250000)
      .next (s.setObj O.squelched (setBit (s.nat O.squelched) out false : Nat))

/-- Whether a SyncE output is driven low on a lane: while the lane has not been locked for 1 s (01 R59). -/
def laneSilent (s : State) (lane : Nat) : Bool :=
  match Store.find s.time.laneLock lane with
  | some t => decide (s.clock.ticks < t + 156250000)
  | none => true

/-- SQUELCHED of an output follows its lane; an output that is off carries nothing, and is not squelched (01 R59; log entry 44). -/
def squelch (out : Nat) (s : State) : State :=
  let lane := synceLane s out
  s.setObj O.squelched (setBit (s.nat O.squelched) out (lane != 0xFF && laneSilent s lane) : Nat)

/-- A write of OUT0_LANE or OUT1_LANE (01 R59). -/
def actOutLane (out : Nat) (v : Int) : Action := fun s =>
  (.ok, squelch out (s.change (if out == 0 then O.out0Lane else O.out1Lane) v))

/-- A lane loses CDR lock or its port goes down: each SyncE output that it feeds is driven low (01 R59). -/
def laneLost (lane : Nat) (s : State) : State :=
  let s := s.onTime fun t => { t with laneLock := Store.drop t.laneLock lane }
  [0, 1].foldl (fun s out =>
    if synceLane s out == lane then s.setObj O.squelched (setBit (s.nat O.squelched) out true : Nat) else s) s

/-! ## SERVO_ENABLE, the source priorities and PTP_ROLE (01 R67) -/

/-- The check of SERVO_ENABLE (01 R67). -/
def servoCheck (s : State) : Reason :=
  if s.prio .gnss == 0 && s.prio .ptp == 0 && s.prio .nl == 0 then .noTimeSource
  else if s.prio .ptp != 0 && (s.obj O.ptpRole == 0 || s.obj O.ptpRole == 3) && s.prio .gnss == 0 && s.prio .nl == 0
  then .noTimeSource
  else .ok

/-- SERVO_ENABLE (01 R37, R41, R67): enabled, the servo stays in its state until a source is acceptable at an update; disabled, the
shut-down completes at the next update. -/
def servoRules : EnableRules :=
  { key := O.servoEnable, check := servoCheck, accept := fun s => s, stop := fun s => s, busy := fun _ => true }

/-- WRITE_SERVO_ENABLE. -/
def execWriteServoEnable (x : Xfer) (v : Int) (s : State) : Host.Outcome State Fault Refusal :=
  .next (hostWrite x O.servoEnable (.num v) (servoRules.write v) s)

/-- The object of a source's priority. -/
def prioKey : Source → Nat
  | .gnss => O.prioGnss | .ptp => O.prioPtp | .nl => O.prioNl

/-- A write that takes part in the check of SERVO_ENABLE (01 R67, 05 R176): while SERVO_ENABLE reads ON, a value that would make the
check refuse is refused itself. -/
def actServoChecked (key : Nat) (v : Int) : Action := fun s =>
  let s' := s.change key v
  if s.isOn O.servoEnable && servoCheck s' != .ok then (.noTimeSource, s) else (.ok, s')

/-- WRITE_SOURCE_PRIORITY. -/
def execWriteSourcePriority (x : Xfer) (src : Source) (v : Int) (s : State) : Host.Outcome State Fault Refusal :=
  .next (hostWrite x (prioKey src) (.num v) (actServoChecked (prioKey src) v) s)

/-- WRITE_PTP_ROLE. -/
def execWritePtpRole (x : Xfer) (v : Int) (s : State) : Host.Outcome State Fault Refusal :=
  .next (hostWrite x O.ptpRole (.num v) (actServoChecked O.ptpRole v) s)

end Sys2Proof.Machine
end

