-- ==== Sys2Proof/Machine/AirTime.lean ====
section
/-! DEFINITION. Air time (03): numerologies and slots, the carrier's own air time, and the air epoch. -/

namespace Sys2Proof.Machine

/-- Tc in a subframe (03 R90). -/
def subframeTc : Nat := 1966080

/-- The normal symbol S_μ in Tc (03 Table 3-2). -/
def symbolTc (mu : Nat) : Nat := 140288 / 2 ^ mu

/-- The offset at which symbol `l` of a subframe starts, in Tc (03 R95). -/
def startTc (mu l : Nat) : Nat :=
  l * symbolTc mu + 1024 * ((if 1 ≤ l then 1 else 0) + (if 7 * 2 ^ mu + 1 ≤ l then 1 else 0))

/-- The offset at which a slot of a subframe starts (03 R95). -/
def slotTc (mu slot : Nat) : Nat := startTc mu (14 * slot)

/-- The slot and symbol of an offset in a subframe (03 R95, the pseudocode). -/
def symbolAt (mu offset : Nat) : Nat × Nat :=
  let h := if 983040 ≤ offset then 1 else 0
  let r := offset - h * 983040
  let j := if r < symbolTc mu + 1024 then 0 else (r - 1024) / symbolTc mu
  let l := h * (7 * 2 ^ mu) + j
  (l / 14, l % 14)

/-- Slots in a subframe (03 Table 3-2). -/
def slotsPerSubframe (mu : Nat) : Nat := 2 ^ mu

/-- Slots in a frame (03 Table 3-2). -/
def slotsPerFrame (mu : Nat) : Nat := 10 * 2 ^ mu

/-- A slot duration in Tc (03 R100). -/
def slotLenTc (mu : Nat) : Nat := subframeTc / 2 ^ mu

/-- The numerology of a carrier: LTE, NB-IoT and LTE-M use the arithmetic of μ 0 (03 R94). -/
def State.mu (s : State) (n : Nat) : Nat := if s.obj (O.standard n) == 1 then s.nat (O.numerology n) else 0

/-- FRAME_OFFSET of a carrier in air units. -/
def State.frameOffset (s : State) (n : Nat) : Int := s.obj (O.frameOffset n) * airTc

/-- Carrier air time now (03 R88). -/
def State.carrierNow (s : State) (n : Nat) : Int := s.airNow - s.frameOffset n

/-- Device air time of a linear count of a carrier's air time in Tc, the instant nearest to now (03 R88, R90). -/
def State.airOfCarrier (s : State) (n tc : Nat) : Int :=
  s.airOfLinear ((tc + s.nat (O.frameOffset n)) % airModulus)

/-- A write of AIR_EPOCH: the written value is read from then on, and the epoch waits for its wrap; a further write replaces the one
pending (03 R92). -/
def actAirEpoch (v : Int) : Action := fun s =>
  let s' := s.change O.airEpoch v
  (.ok, { s' with clock := { s'.clock with newEpoch := some ⟨countOf v.toNat, s'.clock.ticks, false⟩ } })

/-- WRITE_AIR_EPOCH. -/
def execWriteAirEpoch (x : Xfer) (v : Int) (s : State) : Host.Outcome State Fault Refusal :=
  .next (hostWrite x O.airEpoch (.num v) (actAirEpoch v) s)

/-- AIR_EPOCH_APPLY: at the next nanoseconds wrap, where it lies at least 100 µs after the write and the guard has confirmed, the new
epoch is in force (03 R92). -/
def execAirEpochApply (s : State) : Host.Outcome State Fault Refusal :=
  match s.clock.newEpoch with
  | none => .next s
  | some w =>
    let s := advanceTo s (nextWrap s.clock.count)
    if w.confirmed && w.decided + ticksOfNs 100000 ≤ s.clock.ticks then
      .next { s with clock := { s.clock with epoch := w.value.toNat, newEpoch := none } }
    else .next s

end Sys2Proof.Machine
end

