-- ==== Sys2Proof/Machine/Estimates.lean ====
section
/-! DEFINITION. What a carrier's figures come from: PRBs, transform sizes, code-block segmentation, and the unloaded estimates of the
engines and tiles (06, 07, 08, 11, 16). Estimates are in air units, 6,144 to the nanosecond. -/

namespace Sys2Proof.Machine

/-- Cycles of the 1.2 GHz kiln clock in air units (07 R229). -/
def kilnTime (c : Nat) : Int := (5120 * c : Nat)

/-- Cycles of the 1.6 GHz clock of layer engines, transform engines and tiles in air units (06 R188, 08 R264, 11 R354). -/
def fastTime (c : Nat) : Int := (3840 * c : Nat)

/-- The 300 ns for descriptor fetch and transfers (06 R188, 07 R261, 08 R272, 11 R382). -/
def overhead : Int := 300 * airNs

/-- The least power of two that is not below a number, as its exponent. -/
def ceilLog2 (n : Nat) : Nat := if n ≤ 1 then 0 else Nat.log2 (n - 1) + 1

/-- The quotient rounded up, of integers. -/
def ceilDivInt (a b : Int) : Int := -((-a) / b)

/-! ## Carriers (06 Table 6-1) -/

/-- The largest PRB count of each bandwidth in kHz, by standard, range and numerology: transmission bandwidths of 3GPP TS 38.104 and
TS 36.104 (log entry 19). -/
def prbTable (std range mu : Nat) : List (Nat × Nat) :=
  match std, range, mu with
  | 0, 1, 0 => [(1400, 6), (3000, 15), (5000, 25), (10000, 50), (15000, 75), (20000, 100)]
  | 1, 1, 0 => [(5000, 25), (10000, 52), (15000, 79), (20000, 106), (25000, 133), (30000, 160), (40000, 216), (50000, 270)]
  | 1, 1, 1 => [(5000, 11), (10000, 24), (15000, 38), (20000, 51), (25000, 65), (30000, 78), (40000, 106), (50000, 133),
      (60000, 162), (70000, 189), (80000, 217), (90000, 245), (100000, 273)]
  | 1, 1, 2 => [(10000, 11), (15000, 18), (20000, 24), (25000, 31), (30000, 38), (40000, 51), (50000, 65), (60000, 79),
      (70000, 93), (80000, 107), (90000, 121), (100000, 135)]
  | 1, 2, 2 => [(50000, 66), (100000, 132), (200000, 264)]
  | 1, 2, 3 => [(50000, 32), (100000, 66), (200000, 132), (400000, 264)]
  | 2, 1, 0 => [(200, 1)]
  | _, _, _ => []

/-- The standard of a carrier: 0 LTE, 1 NR, 2 NB-IoT. -/
def State.std (s : State) (n : Nat) : Nat := s.nat (O.standard n)

/-- The carrier's row of Table 6-1. -/
def State.prbRow (s : State) (n : Nat) : List (Nat × Nat) :=
  prbTable (s.std n) (s.nat (O.freqRange n)) (s.nat (O.numerology n))

/-- The carrier's largest PRB count. -/
def State.prbs (s : State) (n : Nat) : Nat :=
  (((s.prbRow n).find? fun e => e.1 == s.nat (O.bandwidth n)).map (·.2)).getD 0

/-- The sizes of the transform engines in rising order (06 R183). -/
def transformSizes : List Nat := [64, 128, 256, 512, 1024, 1536, 2048, 3072, 4096]

/-- The transform size of a carrier's time-domain port (06 R183): TRANSFORM_SIZE, or the smallest size that is not below 1.25 times the
occupied subcarriers. -/
def State.transform (s : State) (n : Nat) : Nat :=
  if s.nat (O.transformSize n) != 0 then s.nat (O.transformSize n)
  else (transformSizes.find? fun t => decide (15 * s.prbs n ≤ t)).getD 4096

/-- The sample rate of a time-domain port in ksps (06 R183). -/
def State.sampleKsps (s : State) (n : Nat) : Nat := s.transform n * 15 * 2 ^ s.mu n

/-! ## Segmentation (07 R232, R233; TS 38.212 clauses 5.2.2 and 7.2.2, TS 36.212 clause 5.1.2) -/

/-- How a transport block is cut: LDPC or turbo, base graph, C, K', Kb, Zc or K, the length of the transport-block CRC, and N_cb. -/
structure Segments where
  turbo : Bool
  bg    : Nat
  c     : Nat
  kp    : Nat
  kb    : Nat
  zc    : Nat
  crc   : Nat
  ncb   : Nat
  deriving DecidableEq, Repr

/-- The 51 lifting sizes: a × 2^j not above 384. -/
def isLifting (z : Nat) : Bool :=
  decide (2 ≤ z) && decide (z ≤ 384) &&
    [2, 3, 5, 7, 9, 11, 13, 15].any fun a => (List.range 8).any fun j => a * 2 ^ j == z

/-- The smallest lifting size with at least `need` in all. -/
def liftingFor (kb need : Nat) : Nat :=
  ((List.range 385).find? fun z => isLifting z && decide (need ≤ kb * z)).getD 384

/-- The LDPC segmentation of a transport block of `tbs` bits at a target code rate × 1,024. -/
def ldpcSegments (tbs rate : Nat) : Segments :=
  let crc := if tbs > 3824 then 24 else 16
  let b := tbs + crc
  let bg2 := tbs ≤ 292 || (tbs ≤ 3824 && 100 * rate ≤ 67 * 1024) || 4 * rate ≤ 1024
  let cap := if bg2 then 3840 else 8448
  let c := if b ≤ cap then 1 else ceilDiv b (cap - 24)
  let kp := if c = 1 then b else ceilDiv (b + 24 * c) c
  let kb := if !bg2 then 22 else if b > 640 then 10 else if b > 560 then 9 else if b > 192 then 8 else 6
  let z := liftingFor kb kp
  { turbo := false, bg := if bg2 then 2 else 1, c := c, kp := kp, kb := kb, zc := z, crc := crc,
    ncb := (if bg2 then 50 else 66) * z }

/-- The smallest of the 188 turbo block sizes that is not below a number. -/
def turboSize (need : Nat) : Nat :=
  if need ≤ 512 then max 40 (ceilDiv need 8 * 8)
  else if need ≤ 1024 then ceilDiv need 16 * 16
  else if need ≤ 2048 then ceilDiv need 32 * 32
  else ceilDiv need 64 * 64

/-- The turbo segmentation of a transport block: every block is taken at the larger size K+. -/
def turboSegments (tbs : Nat) : Segments :=
  let b := tbs + 24
  let c := if b ≤ 6144 then 1 else ceilDiv b (6144 - 24)
  let k := turboSize (ceilDiv (if c = 1 then b else b + 24 * c) c)
  { turbo := true, bg := 0, c := c, kp := k, kb := 0, zc := k, crc := 24, ncb := 3 * k + 12 }

/-- The segmentation under a carrier's standard. -/
def segments (std tbs rate : Nat) : Segments := if std == 1 then ldpcSegments tbs rate else turboSegments tbs

/-- The largest turbo block size below K (TS 36.212 Table 5.1.3-3). -/
def turboBelow (k : Nat) : Nat := k - (if k ≤ 512 then 8 else if k ≤ 1024 then 16 else if k ≤ 2048 then 32 else 64)

/-- K and F of block `r` of a transport block under turbo coding, and the transport block's bits that follow its payload (TS 36.212 clause
5.1.2). -/
def turboBlock (tbs r : Nat) : Nat × Nat × Nat :=
  let sg := turboSegments tbs
  let b := tbs + 24
  let total := if sg.c = 1 then b else b + 24 * sg.c
  let lo := turboBelow sg.zc
  let small := if sg.c = 1 then 0 else (sg.c * sg.zc - total) / (sg.zc - lo)
  let fill := small * lo + (sg.c - small) * sg.zc - total
  let size := fun (i : Nat) => if i < small then lo else sg.zc
  let data := fun (i : Nat) => size i - (if i = 0 then fill else 0) - (if sg.c = 1 then 0 else 24)
  (size r, if r = 0 then fill else 0, b - ((List.range (r + 1)).map data).sum)

/-- N_kept of a block of N_cb positions of a transport block of C blocks (07 R250): N_cb, or the limit of its UE per process shared over the
blocks (log entry 24). -/
def keptOf (host : Bytes) (c ncb : Nat) : Nat :=
  let limit := bytesAt host 8 4 / max 1 c
  if limit != 0 && decide (limit < ncb) then limit else ncb

/-- E of block `r` of C where the codeword has G coded bits for Qm × layers bits at a time: the last blocks take the remainder. -/
def blockBits (g step c r : Nat) : Nat :=
  let units := g / step
  (units / c + (if r ≥ c - units % c then 1 else 0)) * step

/-- N of a polar code for a payload with its CRC and E coded bits (07 R261; TS 38.212 clause 5.3.1), at most 2^nMax. -/
def polarN (k e nMax : Nat) : Nat :=
  let c := ceilLog2 e
  let n1 := if 8 * e ≤ 9 * 2 ^ (c - 1) && 16 * k < 9 * e then c - 1 else c
  2 ^ max 5 (min n1 (min (ceilLog2 (8 * k)) nMax))

/-! ## Estimates of the kiln (07 R239, R260, R261) -/

/-- The rows R of an LDPC iteration (07 R239). -/
def ldpcRows (sg : Segments) (p : Nat) : Nat :=
  min (if sg.bg == 1 then 46 else 42) (max 4 (ceilDiv p sg.zc + 2 - sg.kb))

/-- N_cb of a block of size K of a transport block. -/
def Segments.ncbOf (sg : Segments) (k : Nat) : Nat := if sg.turbo then 3 * k + 12 else sg.ncb

/-- The estimate of dec, of a block of size K under turbo coding: a final attempt that ends FAIL at the iteration cap with the whole of E, and
writes the C table entries and its N_kept bytes (07 R260, R261). K is a multiple of 8, so that 2I × K/16 is whole. -/
def decEst (sg : Segments) (k e cap kept : Nat) (combine : Bool) : Int :=
  let loaded := e + (if combine then sg.ncbOf k else 0)
  let stored := 16 * sg.c + kept
  let c := if sg.turbo then 48 + ceilDiv loaded 256 + cap * k / 8 + 2 * cap * 24 + ceilDiv stored 256
    else
      let r := ldpcRows sg (if combine then sg.ncb else min e sg.ncb)
      40 + max (ceilDiv loaded 256) (2 * r) + 2 * r * (cap - 1) + ceilDiv stored 256
  kilnTime c + overhead

/-- The estimate of a codeword's encode (07 R260). -/
def encEst (sg : Segments) (tbs g step : Nat) : Int :=
  let blocks := ((List.range sg.c).map fun r =>
    let e := blockBits g step sg.c r
    if sg.turbo then 24 + ceilDiv (max e (3 * sg.zc + 12)) 96 else 24 + ceilDiv e 112).sum
  kilnTime (64 + ceilDiv (tbs + sg.crc) 512 + blocks) + overhead

/-- The segments of a UCI payload of `a` bits in E coded bits (TS 38.212 clause 6.3.1.2.1). -/
def polarSegments (a e : Nat) : Nat := if (360 ≤ a && 1088 ≤ e) || 1013 ≤ a then 2 else 1

/-- The estimate of a polar decode of `c` segments of N bits each (07 R260, R261); for two segments the spec states no sum, and the model takes the
work of both (log entry 49). -/
def polarDecEst (c n list : Nat) : Int := kilnTime (96 + ceilDiv (c * n * Nat.log2 n * list) 64) + overhead

/-- The estimate of a polar encode (07 R260). -/
def polarEncEst (n e : Nat) : Int := kilnTime (32 + ceilDiv e 64 + ceilDiv n 16) + overhead

/-! ## Estimates of the layer and transform engines (08 R271, R272; 06 R188) -/

/-- chest. -/
def chestEst (nr lp np sd : Nat) : Int := fastTime (96 + ceilDiv (8 * 12 * np * sd * nr * lp) 256) + overhead

/-- det, with δ 1. -/
def detEst (nr l np group : Nat) : Int :=
  fastTime (120 + ceilDiv np group * (24 + ceilDiv (nr * l * l) 256 + l * l) + ceilDiv (12 * np * nr) 64 * ceilDiv l 4)
    + overhead

/-- prec; `bank` where it reads a weight-bank entry, WB_READ_NS. -/
def precEst (p l np ns : Nat) (bank : Bool) : Int :=
  fastTime (160 + ceilDiv (12 * np * ns * p) 64 * ceilDiv l 4) + overhead + (if bank then 600 * airNs else 0)

/-- prach, with N_corr by sequence length. -/
def prachEst (nr roots corr : Nat) : Int :=
  fastTime (256 + nr * roots * ceilDiv (corr * (Nat.log2 corr + 2)) 64) + overhead

/-- srs; `update` gives S, P and L of an entry that it updates. -/
def srsEst (nsrs nr ps : Nat) (update : Option (Nat × Nat × Nat)) : Int :=
  let extra := match update with
    | some (sb, p, l) => sb * (48 + ceilDiv (p * p * (l + 2)) 256)
    | none => 0
  fastTime (128 + ceilDiv (nsrs * nr * ps) 64 + extra) + overhead

/-- A transform of one port and one symbol (06 R188). -/
def xeEst (n : Nat) : Int := fastTime (n / 16 + 64) + overhead

/-- A fetch of a transport block: 300 ns, 200 ns for each descriptor of up to 64 KiB, 2 ns a line, and 374 ns to complete (16 R529). -/
def fetchEst (bytes : Nat) : Int :=
  (300 + 200 * max 1 (ceilDiv bytes 65536) + 2 * ceilDiv bytes 64 + 374 : Nat) * airNs

/-! ## Tiles (11 R382, 13 R436) -/

/-- The program that serves a kind of tile operation; a kind that the image does not declare takes no cycles, VL 2,048, unbonded (log
entry 16). -/
def State.program (s : State) (kind : Nat) : Program :=
  (s.sched.progs.find? fun p => p.kind == kind).getD ⟨0, kind, 0, 0, 2048, 0, 1, [0, 0, 0, 0], 1, 0, 0, 0, 0, 0, []⟩

/-- The estimate of a tile operation: (C0 + C1 × W) / 1.6 GHz + 300 ns. -/
def State.tileEst (s : State) (kind prbs syms layers : Nat) : Int :=
  let p := s.program kind
  fastTime (p.c0 + (if p.c1 = 0 then 0 else p.c1 * Config.workUnits kind prbs syms layers)) + overhead

/-! ## The reference allocation (03 R106) -/

/-- The highest modulation order of Table 6-2 for a downlink allocation: 1024QAM, and QPSK for NB-IoT. -/
def highestQm (std : Nat) : Nat := if std == 2 then 2 else 10

/-- The layers of the reference allocation. -/
def State.refLayers (s : State) (n : Nat) : Nat :=
  min 4 (min (s.nat (O.muLayersDl n)) (s.nat (O.dlPorts n)))

/-- Its data symbols' resource elements in one PRB: twelve symbols less the DMRS of one symbol of configuration type 1, with the CDM
groups that its layers need (log entry 17). -/
def refElements (layers : Nat) : Nat := 144 - 6 * ceilDiv layers 2

/-- The largest transport block that TS 38.214 clause 5.1.3.2 gives NR at code rate 948/1024. -/
def nrLargestTbs (elements qm layers : Nat) : Nat :=
  let info := elements * 948 * qm * layers / 1024
  if info ≤ 3824 then
    let n := max 3 (Nat.log2 info - 6)
    max 24 (info / 2 ^ n * 2 ^ n) / 8 * 8
  else
    let n := Nat.log2 (info - 24) - 5
    let q := max 3840 (((info - 24) + 2 ^ (n - 1)) / 2 ^ n * 2 ^ n)
    let c := if q ≤ 8424 then 1 else ceilDiv (q + 24) 8424
    8 * c * ceilDiv (q + 24) (8 * c) - 24

/-- The transport block of the reference allocation. -/
def State.refTbs (s : State) (n : Nat) : Nat :=
  if s.std n == 1 then
    nrLargestTbs (min 156 (refElements (s.refLayers n)) * s.prbs n) (highestQm 1) (s.refLayers n)
  else Config.lteLargestTbs (s.std n) (s.prbs n) (s.refLayers n)

/-- The coded bits G of the reference allocation. -/
def State.refBits (s : State) (n : Nat) : Nat :=
  refElements (s.refLayers n) * s.prbs n * highestQm (s.std n) * s.refLayers n

/-- The estimate of every enc of a carrier: at the transport block of its reference allocation (07 R261). An NB-IoT downlink block takes
a tail-biting convolutional code, which runs on a tile (06 R187; log entry 20). -/
def State.encEstOf (s : State) (n : Nat) : Int :=
  if s.std n == 2 then s.tileEst 0x22 1 12 1
  else encEst (segments (s.std n) (s.refTbs n) 948) (s.refTbs n) (s.refBits n) (highestQm (s.std n) * s.refLayers n)

/-- FEAS_PARSE in air units (03 R108). -/
def feasParse : Int := 2000 * airNs

/-- Whether a carrier has no streams of its own: NB-IoT in the guard band or in band, whose elements travel in the streams of its host (06
R186). -/
def State.hosted (s : State) (n : Nat) : Bool := s.std n == 2 && s.obj (O.nbiotMode n) != 0

/-- The carrier in whose streams the elements of a carrier travel (06 R186). -/
def State.streamOf (s : State) (n : Nat) : Nat := if s.hosted n then s.nat (O.hostCarrier n) else n

/-- Whether a carrier exchanges time-domain samples of its own. -/
def State.timeDomain (s : State) (n : Nat) : Bool := s.obj (O.fhDomain n) == 1 && !s.hosted n

/-- L_enc of a carrier, in air units (03 R106). -/
def State.lEncOf (s : State) (n : Nat) : Int :=
  let np := s.prbs n
  let l := s.refLayers n
  let total := feasParse + s.encEstOf n + (s.tileEst 0x21 np 12 l + s.tileEst 0x23 np 1 1)
    + precEst (s.nat (O.dlPorts n)) l np 12 true
    + (if s.timeDomain n then xeEst (s.transform n) else 0)
    + s.obj (O.encReserve n) * airNs + s.obj (O.feasGuard n) * airNs
  max (2 * symbolTc (s.mu n) * airTc) total

/-- TX_ADVANCE in air units. -/
def State.txAdvance (s : State) (n : Nat) : Int := s.obj (O.txAdvance n) * airNs

/-- ENC_BIND_LEAD in air units (03 R105), from the L_enc held since the enable. -/
def State.encLead (s : State) (n : Nat) : Int := s.txAdvance n + Store.at 0 s.pipe.lEnc n

/-- MAP_BIND_LEAD in air units (03 R105). -/
def State.mapLead (s : State) (n : Nat) : Int := s.txAdvance n + 2 * symbolTc (s.mu n) * airTc

/-- An interval in nanoseconds, rounded half up (03 R105). -/
def nsHalfUp (a : Int) : Int := (2 * a + airNs) / (2 * airNs)

end Sys2Proof.Machine
end

