-- ==== Sys2Proof/Machine/Description.lean ====
section
/-! DEFINITION. The course description (06 R189 to R194): its records, their fields and the tests on them, and the class of a change
(03 R104). Sets of symbols and of PRBs are numbers whose bit i stands for symbol or PRB i. -/

namespace Sys2Proof.Machine

/-- A set of `count` numbers from `first` on. -/
def runMask (first count : Nat) : Nat := (2 ^ count - 1) * 2 ^ first

/-- Whether two sets meet. -/
def masksMeet (a b : Nat) : Bool := Nat.land a b != 0

/-- The members of a set below `n`. -/
def maskList (m n : Nat) : List Nat := (List.range n).filter (bitOf m)

/-- The number of members of a set of PRBs or symbols. -/
def maskCount (m : Nat) : Nat := onesBelow m 1024

/-- Fields of a record by byte offset and size. -/
def Rec.u (r : Rec) (offset n : Nat) : Nat := bytesAt r.bytes offset n

/-- Whether every byte from `a` up to and including `b` is zero. -/
def zeroBytes (bytes : Bytes) (a b : Nat) : Bool := ((bytes.drop a).take (b + 1 - a)).all (· == 0)

/-! ## Records (06 Tables 6-3 and 6-4) -/

/-- The length of each record type and the direction it belongs to (06 Table 6-4). -/
def recShape (type : Nat) : Option (Nat × Nat) :=
  match type with
  | 0x01 => some (64, 0) | 0x02 => some (40, 0) | 0x03 => some (32, 0) | 0x04 => some (32, 0) | 0x05 => some (32, 0)
  | 0x06 => some (24, 0) | 0x11 => some (64, 1) | 0x12 => some (32, 1) | 0x13 => some (32, 1) | 0x14 => some (32, 1)
  | _ => none

/-- At most `n` records laid end to end. -/
def cutRecs : Nat → Nat → Bytes → Option (List Rec)
  | 0, _, b => if b.isEmpty then some [] else none
  | n + 1, dir, b =>
    match recShape (bytesAt b 0 1) with
    | some (len, d) =>
      if d == dir && bytesAt b 2 2 == len && decide (len ≤ b.length) then
        match cutRecs n dir (b.drop len) with
        | some t => some (⟨bytesAt b 0 1, bytesAt b 1 1, bytesAt b 4 2, b.take len⟩ :: t)
        | none => none
      else none
    | none => none

/-- A description: first and last symbol of the slot in this direction, and the records in ascending record id. -/
structure Desc where
  first : Nat
  last  : Nat
  recs  : List Rec
  deriving DecidableEq, Repr

/-- A record put into its place by record id. -/
def insertRec (r : Rec) : List Rec → List Rec
  | [] => [r]
  | x :: t => if r.id < x.id then r :: x :: t else x :: insertRec r t

/-- The description that bytes spell, its records in ascending record id; none where a length, count, type or direction disagrees with
Tables 6-3 and 6-4 or a record id repeats. -/
def parseDesc (dir : Nat) (b : Bytes) : Option Desc :=
  let count := bytesAt b 2 2
  if bytesAt b 0 1 == 1 && bytesAt b 1 1 == dir && decide (1 ≤ count) && decide (count ≤ 1024) && zeroBytes b 6 15
    && decide (16 ≤ b.length) && decide (bytesAt b 4 1 ≤ bytesAt b 5 1) && decide (bytesAt b 5 1 ≤ 13) then
    match cutRecs count dir (b.drop 16) with
    | some rs => if (rs.map (·.id)).Nodup then some ⟨bytesAt b 4 1, bytesAt b 5 1, rs.foldr insertRec []⟩ else none
    | none => none
  else none

/-- Whether a record is an allocation (06 Table 6-5). -/
def Rec.isAlloc (r : Rec) : Bool := r.type == 0x01 || r.type == 0x11

/-- TBS in bits. -/
def Rec.tbs (r : Rec) : Nat := r.u 12 4

/-- Bytes of a transport block (06 R193). -/
def Rec.tbBytes (r : Rec) : Nat := ceilDiv r.tbs 8

/-- Layers of an allocation. -/
def Rec.layers (r : Rec) : Nat := r.u 11 1

/-- The precoding source of a downlink record (08 R280): byte 44 of an allocation, and 2 for a DCI, sync block or CSI-RS that names no entry. -/
def Rec.precSource (r : Rec) : Nat :=
  match r.type with
  | 0x01 => r.u 44 1
  | 0x02 => if r.u 14 2 = 0xFFFF then 2 else 0
  | 0x03 => if r.u 16 2 = 0xFFFF then 2 else 0
  | 0x04 => if r.u 20 2 = 0xFFFF then 2 else 0
  | _ => 0

/-- Modulation order of an allocation. -/
def Rec.qm (r : Rec) : Nat := r.u 10 1

/-- Codewords of an allocation: two above four layers (log entry 20). -/
def Rec.codewords (r : Rec) : Nat := if r.type == 0x01 && r.layers > 4 then 2 else 1

/-- The layers of a codeword. -/
def Rec.cwLayers (r : Rec) (cw : Nat) : Nat :=
  if r.codewords = 1 then r.layers else if cw = 0 then r.layers / 2 else r.layers - r.layers / 2

/-- UCI bits multiplexed on a PUSCH. -/
def Rec.puschUci (r : Rec) : Nat := r.u 50 2 + r.u 52 2 + r.u 54 2

/-- UCI payload bits of a PUCCH. -/
def Rec.pucchUci (r : Rec) : Nat := r.u 18 2 + r.u 20 1 + r.u 22 2 + r.u 24 2

/-- The UE context that a record names. -/
def Rec.ue (r : Rec) : Option Nat :=
  if r.isAlloc || r.type == 0x12 || r.type == 0x14 then some (r.u 6 2) else none

/-! ## Symbols and PRBs -/

/-- The size of an RBG for a carrier's PRBs: TS 36.213 Table 7.1.6.1-1, and TS 38.214 Table 5.1.2.2.1-1, configuration 1 (log
entry 19). -/
def rbgSize (std n : Nat) : Nat :=
  if std == 1 then (if n ≤ 36 then 2 else if n ≤ 72 then 4 else if n ≤ 144 then 8 else 16)
  else (if n ≤ 10 then 1 else if n ≤ 26 then 2 else if n ≤ 63 then 3 else 4)

/-- The PRBs of RBG `g` of a carrier with `n` PRBs. -/
def rbgMask (size n g : Nat) : Nat := runMask (g * size) (min size (n - g * size))

/-- The PRBs of an allocation (06 Table 6-5). -/
def allocPrbs (std n : Nat) (r : Rec) : Nat :=
  if bitOf r.flags 2 then
    let size := rbgSize std n
    ((maskList (r.u 24 4) (ceilDiv n size)).map (rbgMask size n)).sum
  else runMask (r.u 20 2) (r.u 22 2)

/-- The symbols of a sync block, from those of its own numerology (06 Table 6-6). -/
def syncSymbols (mu : Nat) (r : Rec) : Nat :=
  let a := r.u 8 1 * 2 ^ mu / 2 ^ r.u 9 1
  runMask a (ceilDiv ((r.u 8 1 + 4) * 2 ^ mu) (2 ^ r.u 9 1) - a)

/-- The CORESET that a DCI names by the low byte of its record id. -/
def coresetOf (recs : List Rec) (r : Rec) : Option Rec := recs.find? fun c => c.type == 0x06 && c.id % 256 == r.u 10 1

/-- The symbols that a record occupies. The spec leaves the placement of an LTE or NB-IoT DCI and the length of a PRACH occasion to 3GPP:
a PDCCH is counted on the symbols of the CFI, an EPDCCH or NPDCCH on the symbols after them, a PRACH occasion from its first symbol to
the last (log entry 18). -/
def recSymbols (std mu : Nat) (d : Desc) (r : Rec) : Nat :=
  let rest := fun a => runMask a (d.last + 1 - a)
  match r.type with
  | 0x01 | 0x11 => runMask (r.u 18 1) (r.u 19 1)
  | 0x02 =>
    let cfi := ((d.recs.find? fun c => c.type == 0x05).map fun c => c.u 6 1).getD 0
    if std == 1 then match coresetOf d.recs r with
      | some c => runMask (c.u 6 1) (c.u 7 1)
      | none => 0
    else if std == 0 && r.u 10 1 == 0 then runMask 0 (max 1 cfi)
    else rest (max d.first cfi)
  | 0x03 => syncSymbols mu r
  | 0x04 => Nat.lor (2 ^ r.u 8 1) (if r.u 9 1 == 0 then 0 else 2 ^ r.u 9 1)
  | 0x05 => runMask 0 (r.u 6 1)
  | 0x06 => runMask (r.u 6 1) (r.u 7 1)
  | 0x12 => runMask (r.u 9 1) (r.u 10 1)
  | 0x13 => rest (r.u 8 1)
  | _ => runMask (r.u 9 1) (r.u 10 1)

/-- The 6-PRB groups of a CORESET as PRBs. -/
def coresetPrbs (r : Rec) : Nat := ((maskList (r.u 12 6) 45).map fun g => runMask (6 * g) 6).sum

/-- The PRBs that a record may occupy. -/
def recPrbs (std mu n : Nat) (d : Desc) (r : Rec) : Nat :=
  match r.type with
  | 0x01 | 0x11 => allocPrbs std n r
  | 0x02 => match coresetOf d.recs r with
    | some c => coresetPrbs c
    | none => runMask 0 n
  | 0x03 =>
    let width := if std == 1 then 240 * 2 ^ r.u 9 1 / 2 ^ mu else if std == 0 then 72 else 12
    runMask (r.u 10 2 / 12) (ceilDiv (r.u 10 2 + width) 12 - r.u 10 2 / 12)
  | 0x04 => runMask (r.u 12 2) (r.u 14 2)
  | 0x05 => runMask 0 n
  | 0x06 => coresetPrbs r
  | 0x12 =>
    let a := runMask (r.u 12 2) (r.u 11 1)
    if r.u 14 2 == 0xFFFF then a else Nat.lor a (runMask (r.u 14 2) (r.u 11 1))
  | 0x13 => runMask (r.u 10 2) n
  | _ => runMask (r.u 16 2) (r.u 18 2)

/-- The symbols that carry DMRS of an allocation. -/
def Rec.dmrs (r : Rec) : Nat := r.u 28 2

/-- The DMRS resource elements of one PRB and DMRS symbol: 6 for each CDM group without data of configuration type 1, 4 of type 2. -/
def Rec.dmrsTaken (r : Rec) : Nat := min 12 (r.u 30 1 / 4 % 4 * (if r.u 30 1 % 4 == 2 then 4 else 6))

/-- Whether PTRS takes element `i` of an allocation's subcarriers in a symbol: none of a DMRS symbol (log entry 17). -/
def Rec.ptrsTakes (r : Rec) (l i : Nat) : Bool := bitOf r.flags 3 && !bitOf r.dmrs l && Config.ptrsAt r.bytes l i

/-- The data resource elements of an allocation in one symbol. -/
def Rec.symbolElements (r : Rec) (prbs l : Nat) : Nat :=
  prbs * (if bitOf r.dmrs l then 12 - r.dmrsTaken else 12)
    - (if bitOf r.flags 3 then ((List.range (12 * prbs)).filter (r.ptrsTakes l)).length else 0)

/-- The symbols of an allocation that carry data. -/
def Rec.dataSymbols (r : Rec) : List Nat :=
  (maskList (runMask (r.u 18 1) (r.u 19 1)) 14).filter fun l => !bitOf r.dmrs l || decide (r.dmrsTaken < 12)

/-- The data resource elements of an allocation (03 R104). -/
def Rec.elements (r : Rec) (prbs : Nat) : Nat :=
  (r.dataSymbols.map (r.symbolElements prbs)).sum

/-- The coded bits G of an allocation: its elements at its modulation order and layers, less the UCI that it carries (07 R253). -/
def Rec.codedBits (r : Rec) (prbs : Nat) : Nat :=
  r.elements prbs * r.qm * r.layers - (if r.type == 0x11 && r.puschUci != 0 then Config.uciCodedBits r.bytes else 0)

/-! ## Fields (06 R191, R192, R194) -/

/-- Whether a run of symbols lies within those of the description. -/
def inSymbols (d : Desc) (mask : Nat) : Bool :=
  mask != 0 && Nat.land mask (runMask d.first (d.last + 1 - d.first)) == mask

/-- Whether a set of PRBs lies within the carrier. -/
def inPrbs (n mask : Nat) : Bool := mask != 0 && decide (mask < 2 ^ n)

/-- The record types of each standard (06 Table 6-2). -/
def typesOf (std : Nat) : List Nat :=
  match std with
  | 0 => [0x01, 0x02, 0x03, 0x04, 0x05, 0x11, 0x12, 0x13, 0x14]
  | 1 => [0x01, 0x02, 0x03, 0x04, 0x06, 0x11, 0x12, 0x13, 0x14]
  | _ => [0x01, 0x02, 0x03, 0x11, 0x13]

/-- Whether a weight-bank entry may be named by a record of a carrier with a number of layers (08 R288); 0xFFFF names none where `none`
is allowed. -/
def entryOk (s : State) (n layers entry : Nat) (allowNone : Bool) : Bool :=
  (allowNone && entry == 0xFFFF) ||
  match Store.find s.wb entry with
  | some e => !e.deleting && e.owner == n && e.ports == s.nat (O.dlPorts n) && decide (layers ≤ e.layers)
  | none => false

/-- The weight-bank entry that a UE context names (06 Table 6-17, bytes 18 and 19). -/
def ueEntry (host : Bytes) : Nat := bytesAt host 18 2

/-- A UE context, FREE where none is listed. -/
def State.ue (s : State) (i : Nat) : Ue := Store.at ⟨0, [], [], [], none⟩ s.pipe.ues i

/-- Whether a UE context reads ACTIVE. -/
def ueActive (s : State) (i : Nat) : Bool := (s.ue i).state == 1

/-- The modulation orders of an allocation (06 Tables 6-2, 6-5): π/2-BPSK is an order of DFT-s-OFDM under NR. -/
def ordersOf (std : Nat) (r : Rec) : List Nat :=
  if r.type == 0x01 then [2, 4, 6, 8, 10] else if std == 1 && bitOf r.flags 1 then [1, 2, 4, 6, 8] else [2, 4, 6, 8]

/-- The fields of an allocation; `host` is the host part that its course reads of a UE context (06 R218). -/
def allocOk (s : State) (host : Nat → Bytes) (n : Nat) (d : Desc) (r : Rec) : Bool :=
  let dl := r.type == 0x01
  let prbs := allocPrbs (s.std n) (s.prbs n) r
  let syms := runMask (r.u 18 1) (r.u 19 1)
  decide (r.flags < 16) && !(dl && bitOf r.flags 1) && ueActive s (r.u 6 2)
    && decide (r.u 8 1 ≤ 31) && decide (r.u 9 1 ≤ 3)
    && (ordersOf (s.std n) r).contains r.qm && decide (r.u 44 1 ≤ 2)
    && decide (1 ≤ r.layers) && decide (r.layers ≤ if dl then 8 else 4)
    && r.tbs % 8 == 0 && decide (16 ≤ r.tbs) && decide (r.tbs ≤ 1277992)
    && inSymbols d syms && inPrbs (s.prbs n) prbs
    && (!bitOf r.flags 2 || decide (r.u 24 4 < 2 ^ ceilDiv (s.prbs n) (rbgSize (s.std n) (s.prbs n))))
    && Nat.land r.dmrs syms == r.dmrs && (r.dmrs == 0 || r.u 30 1 % 4 == 1 || r.u 30 1 % 4 == 2) && decide (r.u 30 1 < 16)
    && decide (1 ≤ r.u 38 2) && zeroBytes r.bytes 49 49 && zeroBytes r.bytes 59 63
    && (if dl then r.u 40 4 == r.id
          && (r.u 44 1 != 0 || entryOk s n r.layers (r.u 46 2) false)
          && (r.u 44 1 != 1 || entryOk s n r.layers (ueEntry (host (r.u 6 2))) false)
          && (r.u 44 1 != 2 || decide (r.layers ≤ s.nat (O.dlPorts n)))
        else r.u 40 4 == 0 && decide (r.u 48 1 ≤ 32))

/-- The fields of the other records. -/
def otherOk (s : State) (n : Nat) (d : Desc) (r : Rec) : Bool :=
  let std := s.std n
  let nr := std == 1
  let syms := recSymbols std (s.mu n) d r
  let prbs := recPrbs std (s.mu n) (s.prbs n) d r
  r.flags == 0 &&
  match r.type with
  | 0x02 => [1, 2, 4, 8, 16, 24].contains (r.u 8 1) && decide (12 ≤ r.u 11 1) && decide (r.u 11 1 ≤ 140)
      && entryOk s n 1 (r.u 14 2) true && zeroBytes r.bytes 37 39
      && (if nr then (coresetOf d.recs r).isSome else std != 0 || decide (r.u 10 1 ≤ 2)) && inSymbols d syms
  | 0x03 => (if nr then decide (r.u 6 1 ≤ 63) && ([0, 1, 3].contains (r.u 9 1) || (r.u 9 1 == 4 && s.mu n == 3))
        else r.u 6 1 == 0 && r.u 9 1 == 0) && decide (r.u 7 1 ≤ 1)
      && entryOk s n 1 (r.u 16 2) true && zeroBytes r.bytes 18 31 && inSymbols d syms && inPrbs (s.prbs n) prbs
  | 0x04 => decide (r.u 7 1 ≤ 2) && entryOk s n 1 (r.u 20 2) true && zeroBytes r.bytes 22 31
      && inSymbols d syms && inPrbs (s.prbs n) prbs
  | 0x05 => decide (1 ≤ r.u 6 1) && decide (r.u 6 1 ≤ 4) && decide (r.u 7 1 ≤ 3) && decide (r.u 8 1 ≤ 1)
      && decide (r.u 9 1 ≤ 11) && zeroBytes r.bytes (10 + 2 * r.u 9 1) 31 && inSymbols d syms
  | 0x06 => decide (1 ≤ r.u 7 1) && decide (r.u 7 1 ≤ 3) && decide (r.u 12 6 < 2 ^ 45) && entryOk s n 1 (r.u 20 2) true
      && zeroBytes r.bytes 22 23 && inSymbols d syms && inPrbs (s.prbs n) prbs
  | 0x12 => ueActive s (r.u 6 2) && (if nr then decide (r.u 8 1 ≤ 4) else decide (16 ≤ r.u 8 1) && decide (r.u 8 1 ≤ 24))
      && decide (r.u 20 1 ≤ 1) && zeroBytes r.bytes 21 21 && zeroBytes r.bytes 30 31
      && inSymbols d syms && inPrbs (s.prbs n) prbs
  | 0x13 => (match std with
        | 0 => decide (16 ≤ r.u 6 1) && decide (r.u 6 1 ≤ 20)
        | 1 => decide (r.u 6 1 ≤ 12)
        | _ => decide (24 ≤ r.u 6 1) && decide (r.u 6 1 ≤ 26))
      && decide (r.u 15 1 ≤ 2) && decide (1 ≤ r.u 16 1) && decide (r.u 16 1 ≤ 64) && zeroBytes r.bytes 9 9
      && zeroBytes r.bytes 20 31 && inSymbols d syms && (nr || decide (r.u 10 2 < max 1 (12 * s.prbs n)))
  | _ => ueActive s (r.u 6 2) && [1, 2, 4].contains (r.u 8 1) && [1, 2, 4].contains (r.u 10 1) && [2, 4, 8].contains (r.u 11 1)
      && decide (1 ≤ r.u 20 1) && entryOk s n 1 (r.u 22 2) true && zeroBytes r.bytes 24 31
      && inSymbols d syms && inPrbs (s.prbs n) prbs

/-- Whether a record's fields lie within their stated values (06 R194). -/
def recOk (s : State) (host : Nat → Bytes) (n : Nat) (d : Desc) (r : Rec) : Bool :=
  (typesOf (s.std n)).contains r.type && (if r.isAlloc then allocOk s host n d r else otherOk s n d r)

/-! ## Tests across records (06 R194) -/

/-- Whether the control-channel elements of two DCIs of one CORESET, or of one LTE control region, meet. -/
def ccesMeet (a b : Rec) : Bool := decide (a.u 9 1 < b.u 9 1 + b.u 8 1) && decide (b.u 9 1 < a.u 9 1 + a.u 8 1)

/-- Whether a record is a CSI-RS of a kind: ZP, or another. -/
def Rec.csiRs (r : Rec) (zp : Bool) : Bool := r.type == 0x04 && (r.u 7 1 == 1) == zp

/-- Whether a record takes every resource element of its PRBs and symbols: an allocation, and a PUCCH that does not hop. -/
def Rec.whole (r : Rec) : Bool := r.isAlloc || (r.type == 0x12 && r.u 14 2 == 0xFFFF)

/-- Whether resource elements of two records overlap. A CORESET reserves a search space and no elements of its own; a CSI-RS of kind ZP
may lie over an allocation and one of another kind may not; two DCIs of one CORESET overlap by their CCEs (log entry 18). Two records that
each take the whole of their PRBs and symbols overlap where these meet. Elsewhere two records that share a symbol and a PRB overlap
where 3GPP places elements of both on one, a free value. -/
def recsOverlap (s : State) (n : Nat) (d : Desc) (a b : Rec) : Bool :=
  let std := s.std n
  let mu := s.mu n
  if a.type == 0x06 || b.type == 0x06 then false
  else if a.type == 0x02 && b.type == 0x02 && a.u 10 1 == b.u 10 1 then ccesMeet a b
  else if (a.csiRs true && b.isAlloc) || (b.csiRs true && a.isAlloc) then false
  else
    let meet := masksMeet (recSymbols std mu d a) (recSymbols std mu d b)
      && masksMeet (recPrbs std mu (s.prbs n) d a) (recPrbs std mu (s.prbs n) d b)
    if a.whole && b.whole then meet
    else if (a.csiRs false && b.isAlloc) || (b.csiRs false && a.isAlloc) then meet
    else meet && Config.elementsMeet a.bytes b.bytes

/-- Whether two records of a list overlap. -/
def anyOverlap (s : State) (n : Nat) (d : Desc) : List Rec → Bool
  | [] => false
  | r :: t => t.any (recsOverlap s n d r) || anyOverlap s n d t

/-- Whether the layers of every symbol stay within MU_LAYERS_DL or MU_LAYERS_UL. -/
def layersOk (s : State) (n dir : Nat) (d : Desc) : Bool :=
  let cap := if dir == 0 then s.nat (O.muLayersDl n) else s.nat (O.muLayersUl n)
  (List.range 14).all fun l =>
    decide (((d.recs.filter fun r => r.isAlloc && bitOf (runMask (r.u 18 1) (r.u 19 1)) l).map Rec.layers).sum ≤ cap)

/-- The largest outcome body of an uplink course (06 R227). -/
def largestBody (d : Desc) : Nat :=
  16 + (d.recs.map fun r =>
    match r.type with
    | 0x11 => 48 + pad8 r.tbBytes + (if r.puschUci == 0 then 0 else 24 + pad8 (ceilDiv r.puschUci 8))
    | 0x12 => 24 + pad8 (ceilDiv (r.u 18 2 + r.u 22 2 + r.u 24 2) 8)
    | 0x13 => 16 + 8 * r.u 16 1
    | 0x14 => 16 + pad8 (2 * r.u 8 1 * ceilDiv (r.u 18 2) (max 1 (r.u 20 1)))
    | _ => 16).sum

/-- The transport blocks that a request carries: the allocations whose flag bit 0 is set, in ascending record id (06 R193). -/
def blocksOf (d : Desc) : List (Nat × Nat) :=
  (d.recs.filter fun r => r.type == 0x01 && bitOf r.flags 0).map fun (r : Rec) => (r.id, r.tbBytes)

/-- The data of a request by handle, messages of one block joined (06 R193). -/
def joinBlocks : List (Nat × Nat) → List (Nat × Nat)
  | [] => []
  | (h, n) :: t =>
    match joinBlocks t with
    | (h', n') :: t' => if h = h' then (h, n + n') :: t' else (h, n) :: (h', n') :: t'
    | [] => [(h, n)]

/-- BAD_DESCRIPTION (06 R193, R194): `kept` are the records whose data the generation before holds. -/
def descOk (s : State) (host : Nat → Bytes) (n dir tbBytes : Nat) (got : List (Nat × Nat)) (kept : List Nat) (d : Desc) : Bool :=
  d.recs.all (recOk s host n d) && !anyOverlap s n d d.recs && layersOk s n dir d
    && d.recs.all (fun r => r.type != 0x01 || bitOf r.flags 0 || kept.contains r.id)
    && (dir == 0 || decide (largestBody d ≤ 65536))
    && tbBytes == ((blocksOf d).map (·.2)).sum && joinBlocks got == blocksOf d

/-! ## Classes of change (03 R104, 06 R191, R192): 0 none, 1 W, 2 M, 3 E -/

/-- The class of a change of an allocation field at a byte offset. -/
def byteClass (i : Nat) : Nat :=
  if (18 ≤ i && i ≤ 31) then 2
  else if i == 32 || i == 33 || (44 ≤ i && i ≤ 47) then 1
  else 3

/-- The bytes at which two strings differ. -/
def diffs (a b : Bytes) : List Nat := (List.range (max a.length b.length)).filter fun i => a[i]? != b[i]?

/-- The class of the change of a record, both generations given. A downlink flag bit 0 that is set brings new data, class E; clear, the
data of the generation before is kept. -/
def changeClass (std prbs : Nat) (a b : Rec) : Nat :=
  if a.type != b.type then 3
  else if b.isAlloc then
    let d := diffs a.bytes b.bytes
    let flags := Nat.xor a.flags b.flags
    let data := b.type == 0x01 && bitOf b.flags 0
    let fl := if data || decide (flags / 16 != 0) || bitOf flags 1 || (b.type == 0x11 && bitOf flags 0) then 3
      else if bitOf flags 2 || bitOf flags 3 then 2 else 0
    let c := (d.filter (· != 1)).foldl (fun c i => max c (byteClass i)) fl
    if c == 2 && a.elements (maskCount (allocPrbs std prbs a)) != b.elements (maskCount (allocPrbs std prbs b)) then 3 else c
  else if a.bytes == b.bytes then 0
  else if b.type == 0x02 || b.type == 0x05 || b.type == 0x06 then 2 else 3

/-- A record of a list by id. -/
def recById (l : List Rec) (id : Nat) : Option Rec := l.find? (·.id == id)

/-- The class of each record that a revision changes, adds or removes, by record id. -/
def changesOf (std prbs : Nat) (old new : List Rec) : List (Nat × Nat) :=
  ((new.map fun (r : Rec) => (r.id, match recById old r.id with
      | some o => changeClass std prbs o r
      | none => 3)) ++ ((old.filter fun (r : Rec) => (recById new r.id).isNone).map fun (r : Rec) => (r.id, 3))).filter (·.2 != 0)

/-- The class of a revision: that of its most demanding allocation (03 R104). -/
def classOf (changes : List (Nat × Nat)) : Nat := changes.foldl (fun c x => max c x.2) 0

end Sys2Proof.Machine
end

