-- ==== Sys2Proof/Machine/Graph.lean ====
section
/-! DEFINITION. The graph of operations that a course description gives (06 R196, R197), with its estimates and deadlines (03 R101,
R102), and the operations that a revision re-issues (06 R199). -/

namespace Sys2Proof.Machine

/-- The number of an operation kind. -/
def OpKind.code : OpKind → Nat
  | .fetch => 0 | .enc => 1 | .mod => 2 | .ctl => 3 | .prec => 4 | .asm => 5 | .ifft => 6 | .fft => 7 | .chest => 8 | .det => 9
  | .demod => 10 | .dec => 11 | .tbchk => 12 | .uci => 13 | .prach => 14 | .srs => 15 | .out => 16

/-- The key of an operation of a course, for tables. -/
def OpId.key (o : OpId) : Nat := ((o.kind.code * 2 ^ 16 + o.recId) * 2 ^ 8 + o.sym) * 2 ^ 16 + o.idx

/-- An operation of a graph before its issue: its class of unit (13 Table 13-1), the form that its tile program declares (VL × 4 + bond),
its inputs with whether each is strict (13 R434), the symbols whose samples it needs, its estimate, its own deadline as a sink, its
priority class, and whether it is a PRACH or SSB-bearing operation (13 R438). -/
structure Node where
  id     : OpId
  cls    : Nat
  form   : Nat
  ins    : List (OpId × Bool)
  arrive : Nat
  est    : Int
  sink   : Option Int
  prio   : Nat
  urgent : Bool
  outs   : Nat
  deriving DecidableEq, Repr

/-- What a graph is built from: the carrier, the description, the slot start in device air time, and the context snapshots of its course (06
R218). -/
structure Site where
  n     : Nat
  dir   : Nat
  desc  : Desc
  slot  : Int
  snaps : Store Bytes
  deriving DecidableEq, Repr

/-- The host part of a UE context that a graph reads: its course's snapshot, or, before it has one, the context's own. -/
def Site.host (g : Site) (s : State) (ue : Nat) : Bytes := (Store.find g.snaps ue).getD (s.ue ue).host

/-- The form of the program of a tile kind. -/
def State.kindForm (s : State) (kind : Nat) : Nat := (s.program kind).vl * 4 + (s.program kind).form

/-- The most output pallets of a tile kind's program, and of an engine operation (13 Table 13-3; log entry 16). -/
def State.kindOuts (s : State) (kind prbs syms : Nat) : Nat :=
  if 0x21 ≤ kind && kind ≤ 0x28 then (s.program kind).outs else Config.outputPallets kind prbs syms % 32

/-- A tile operation of a graph. -/
def tileNode (s : State) (id : OpId) (kind prbs syms layers prio : Nat) (ins : List (OpId × Bool)) : Node :=
  { id := id, cls := 0, form := s.kindForm kind, ins := ins, arrive := 0, est := s.tileEst kind prbs syms layers, sink := none
    prio := prio, urgent := false, outs := s.kindOuts kind prbs syms }

/-- An engine operation of a graph. -/
def engineNode (s : State) (id : OpId) (cls kind prbs syms prio : Nat) (est : Int) (ins : List (OpId × Bool)) : Node :=
  { id := id, cls := cls, form := 0, ins := ins, arrive := 0, est := est, sink := none, prio := prio, urgent := false
    outs := s.kindOuts kind prbs syms }

/-- The groups of 16 ports of a downlink carrier. -/
def State.portGroups (s : State) (n : Nat) : Nat := ceilDiv (s.nat (O.dlPorts n)) 16

/-- The start of symbol `l` of a slot, in air units from the slot start (03 R95). -/
def State.symbolStart (s : State) (n : Nat) (slotIndex l : Nat) : Int :=
  ((startTc (s.mu n) (14 * slotIndex + l) : Int) - startTc (s.mu n) (14 * slotIndex)) * airTc

/-- The slot of the subframe in which an instant of carrier air time falls. -/
def State.slotInSubframe (s : State) (n : Nat) (slot : Int) : Nat :=
  (symbolAt (s.mu n) (((slot - s.frameOffset n) / airTc) % (subframeTc : Nat)).toNat).1

/-- T_tx of a symbol (03 R101), the slot start being given in device air time. -/
def State.txInstant (s : State) (n : Nat) (slot : Int) (l : Nat) : Int :=
  slot + s.symbolStart n (s.slotInSubframe n slot) l - s.txAdvance n

/-- The end of the slot's last symbol (03 R101). -/
def State.slotEnd (s : State) (n : Nat) (slot : Int) : Int := slot + s.symbolStart n (s.slotInSubframe n slot) 14

/-- The uplink rule of 03 R101. -/
def State.ulDeadline (s : State) (n : Nat) (slot : Int) : Int := s.slotEnd n slot + s.obj (O.ulResultBudget n) * airNs

/-! ## Downlink (06 Table 6-7) -/

/-- The operation ids of a course. -/
def opId (kind : OpKind) (recId sym idx : Nat) : OpId := ⟨kind, recId, sym, idx⟩

/-- Code blocks and estimates of a DCI or PBCH on the kiln (07 R261). -/
def ctlEst (s : State) (g : Site) (r : Rec) : Int :=
  let tile := s.tileEst 0x22 (maskCount (recPrbs (s.std g.n) (s.mu g.n) (s.prbs g.n) g.desc r))
    (maskCount (recSymbols (s.std g.n) (s.mu g.n) g.desc r)) 1
  if s.std g.n == 1 && r.type == 0x02 then tile + polarEncEst (polarN (r.u 11 1 + 24) (108 * r.u 8 1) 9) (108 * r.u 8 1)
  else if s.std g.n == 1 && r.type == 0x03 then tile + polarEncEst (polarN 56 864 9) 864
  else tile

/-- Whether the ctl of a record runs on the kiln: polar codes do (06 R187, Table 6-7). -/
def ctlOnKiln (s : State) (n : Nat) (r : Rec) : Bool := s.std n == 1 && (r.type == 0x02 || r.type == 0x03)

/-- The weight-bank entry that a DCI, sync-block or CSI-RS record names (06 Table 6-6). -/
def Rec.namedEntry (r : Rec) : Nat := if r.type == 0x02 then r.u 14 2 else if r.type == 0x03 then r.u 16 2 else r.u 20 2

/-- The operations of one downlink record in order, but asm and ifft: of a DCI, a sync block and a CSI-RS the symbols of its ctl are precoded with
the entry that it names (08 R280), and an LTE control region's go to the symbol as they are (06 Table 6-7). -/
def dlRecNodes (s : State) (g : Site) (r : Rec) : List Node :=
  let prbs := maskCount (recPrbs (s.std g.n) (s.mu g.n) (s.prbs g.n) g.desc r)
  let syms := maskCount (recSymbols (s.std g.n) (s.mu g.n) g.desc r)
  let cws := List.range r.codewords
  match r.type with
  | 0x01 =>
    let fetch := opId .fetch r.id 255 0
    { engineNode s fetch 5 0x20 prbs syms 1 (fetchEst r.tbBytes) [] with outs := ceilDiv r.tbBytes 65536 } ::
      (cws.map fun c =>
        let id := opId .enc r.id 255 c
        if s.std g.n == 2 then { tileNode s id 0x22 1 12 1 1 [(fetch, true)] with est := s.encEstOf g.n }
        else engineNode s id 2 0x01 prbs syms 1 (s.encEstOf g.n) [(fetch, true)]) ++
      (cws.map fun c => tileNode s (opId .mod r.id 255 c) 0x21 prbs syms r.layers 1 [(opId .enc r.id 255 c, true)]) ++
      [engineNode s (opId .prec r.id 255 0) 3 0x32 prbs syms 1
        (precEst (s.nat (O.dlPorts g.n)) r.layers prbs syms (r.u 44 1 != 2)) (cws.map fun c => (opId .mod r.id 255 c, true))]
  | 0x06 => []
  | _ =>
    let id := opId .ctl r.id 255 0
    let ctl : Node :=
      if ctlOnKiln s g.n r then engineNode s id 2 0x03 prbs syms 1 (ctlEst s g r) []
      else tileNode s id 0x22 prbs syms 1 1 []
    let ctl := { ctl with urgent := r.type == 0x03 }
    if r.type == 0x05 then [ctl]
    else
      let np := if r.type == 0x02 then ceilDiv (6 * r.u 8 1) (max 1 syms) else prbs
      [ctl, { engineNode s (opId .prec r.id 255 0) 3 0x32 prbs syms 1
          (precEst (s.nat (O.dlPorts g.n)) 1 np syms (r.namedEntry != 0xFFFF)) [(id, true)] with urgent := r.type == 0x03 }]

/-- The last operation of a downlink record, whose output asm consumes. -/
def dlLast (r : Rec) : OpId :=
  if r.type == 0x05 then opId .ctl r.id 255 0 else opId .prec r.id 255 0

/-- The records that place resource elements in a symbol. -/
def recsOf (s : State) (g : Site) (l : Nat) : List Rec :=
  g.desc.recs.filter fun r => bitOf (recSymbols (s.std g.n) (s.mu g.n) g.desc r) l

/-- asm, and ifft for time-domain ports, of one symbol. -/
def dlSymbolNodes (s : State) (g : Site) (l : Nat) : List Node :=
  let recs := recsOf s g l
  let ins := (recs.filter (·.type != 0x06)).map fun r => (dlLast r, false)
  let ssb := recs.any (·.type == 0x03)
  let td := s.timeDomain g.n
  let tx := s.txInstant g.n g.slot l
  ((List.range (s.portGroups g.n)).map fun p =>
    { tileNode s (opId .asm 0 l p) 0x23 (s.prbs g.n) 1 1 1 ins with urgent := ssb, sink := if td then none else some tx }) ++
  (if td then (List.range (s.nat (O.dlPorts g.n))).map fun p =>
    { engineNode s (opId .ifft 0 l p) 4 0x40 (s.prbs g.n) 1 1 (xeEst (s.transform g.n)) [(opId .asm 0 l (p / 16), true)] with
      sink := some tx, urgent := ssb } else [])

/-- The symbols of a description. -/
def Desc.symbols (d : Desc) : List Nat := (List.range (d.last + 1)).drop d.first

/-- The operations of a downlink course, each after its inputs. -/
def dlGraph (s : State) (g : Site) : List Node :=
  (g.desc.recs.flatMap (dlRecNodes s g)) ++ (g.desc.symbols.flatMap (dlSymbolNodes s g))

/-! ## Uplink (06 Table 6-8) -/

/-- The bits of an allocation that its symbols before `l` carry, of its G in all. -/
def bitsBefore (r : Rec) (prbs g l : Nat) : Nat :=
  min g (((r.dataSymbols.filter (· < l)).map (r.symbolElements prbs)).sum * r.qm * r.layers)

/-- The first bit of a code block. -/
def blockStart (g step c r : Nat) : Nat := ((List.range r).map (blockBits g step c)).sum

/-- The segmentation of an allocation. -/
def recSegments (s : State) (n : Nat) (r : Rec) : Segments := segments (s.std n) r.tbs (r.u 16 2)

/-- Zc, or K of a block under turbo coding, of a block of an allocation. -/
def recBlock (s : State) (n : Nat) (r : Rec) (b : Nat) : Nat :=
  if (recSegments s n r).turbo then (turboBlock r.tbs b).1 else (recSegments s n r).zc

/-- The data symbols of an allocation that carry bits of a code block. -/
def blockSymbols (s : State) (n : Nat) (r : Rec) (b : Nat) : List Nat :=
  let prbs := maskCount (allocPrbs (s.std n) (s.prbs n) r)
  let g := r.codedBits prbs
  let c := (recSegments s n r).c
  let lo := blockStart g (r.qm * r.layers) c b
  let hi := lo + blockBits g (r.qm * r.layers) c b
  r.dataSymbols.filter fun l => decide (bitsBefore r prbs g l < hi) && decide (lo < bitsBefore r prbs g (l + 1))

/-- E of a code block of an allocation. -/
def blockE (s : State) (n : Nat) (r : Rec) (b : Nat) : Nat :=
  let prbs := maskCount (allocPrbs (s.std n) (s.prbs n) r)
  blockBits (r.codedBits prbs) (r.qm * r.layers) (recSegments s n r).c b

/-- The bits of a code block that the symbols of a set carry, counted without a gap from its first bit (07 R242). -/
def blockArrived (s : State) (n : Nat) (r : Rec) (b ended : Nat) : Nat :=
  let prbs := maskCount (allocPrbs (s.std n) (s.prbs n) r)
  let g := r.codedBits prbs
  let c := (recSegments s n r).c
  let lo := blockStart g (r.qm * r.layers) c b
  let hi := lo + blockBits g (r.qm * r.layers) c b
  let syms := blockSymbols s n r b
  match syms.find? fun l => !bitOf ended l with
  | some l => max lo (min hi (bitsBefore r prbs g l)) - lo
  | none => hi - lo

/-- The iteration cap of an allocation (06 Table 6-5 byte 48; 07 R263). -/
def State.iterCap (s : State) (n : Nat) (r : Rec) : Nat :=
  if r.u 48 1 != 0 then r.u 48 1 else if s.std n == 1 then s.nat (O.decIterDefault n) else s.nat O.turboIterDefault

/-- Where the samples of a set of symbols come from: fft outputs for time-domain ports; otherwise their arrival. -/
def sampleIns (s : State) (n mask : Nat) : List (OpId × Bool) :=
  if s.timeDomain n then
    (maskList mask 14).flatMap fun l => (List.range (s.nat (O.ulPorts n))).map fun p => (opId .fft 0 l p, true)
  else []

/-- The symbols whose arrival a consumer of samples waits for. -/
def sampleArrive (s : State) (n mask : Nat) : Nat := if s.timeDomain n then 0 else mask

/-- The polar decode estimate of UCI of more than 11 bits under NR, or that of the tile's uci (07 R261). -/
def uciEst (s : State) (n : Nat) (r : Rec) (payload prbs syms : Nat) : Int :=
  if s.std n == 1 && decide (payload > 11) then
    let crc := if payload ≥ 20 then 11 else 6
    let e := Config.uciCodedBits r.bytes
    let c := polarSegments payload e
    polarDecEst c (polarN (ceilDiv payload c + crc) (e / c) 10) (s.nat O.polarList)
  else s.tileEst 0x26 prbs syms 1

/-- The uci of a record. -/
def uciNode (s : State) (n : Nat) (r : Rec) (payload prbs syms : Nat) (ins : List (OpId × Bool)) : Node :=
  let id := opId .uci r.id 255 0
  let est := uciEst s n r payload prbs syms
  if s.std n == 1 && decide (payload > 11) then engineNode s id 1 0x13 prbs syms 2 est ins
  else { tileNode s id 0x26 prbs syms 1 2 ins with est := est }

/-- N_corr of a PRACH format (08 R271): 1,024 for sequences of length 839, 256 for length 139 (NR short formats, LTE format 4), 64 for
NPRACH. -/
def prachCorr (format : Nat) : Nat :=
  if format ≤ 3 || (16 ≤ format && format ≤ 19) then 1024 else if format ≥ 24 then 64 else 256

/-- The weight-bank entry that the srs of a record updates, where its requirement is met (08 R286). -/
def srsUpdates (s : State) (n : Nat) (r : Rec) : Option WbEntry :=
  if r.u 22 2 == 0xFFFF then none
  else (Store.find s.wb (r.u 22 2)).filter fun e =>
    e.ports == s.nat (O.ulPorts n) && e.ports == s.nat (O.dlPorts n) && e.owner == n

/-- The operations of one uplink record in order, but out. -/
def ulRecNodes (s : State) (g : Site) (r : Rec) : List Node :=
  let n := g.n
  let std := s.std n
  let mask := recSymbols std (s.mu n) g.desc r
  let prbs := maskCount (recPrbs std (s.mu n) (s.prbs n) g.desc r)
  let syms := maskCount mask
  let nr := s.nat (O.ulPorts n)
  let samples := fun m (x : Node) => { x with ins := x.ins ++ sampleIns s n m, arrive := sampleArrive s n m }
  match r.type with
  | 0x11 =>
    let chest := opId .chest r.id 255 0
    let sg := recSegments s n r
    let cap := s.iterCap n r
    let dets := r.dataSymbols
    samples r.dmrs (engineNode s chest 3 0x30 prbs syms 2 (chestEst nr (maskCount (r.u 32 2)) prbs (maskCount r.dmrs)) []) ::
      (dets.map fun l => samples (2 ^ l) (engineNode s (opId .det r.id l 0) 3 0x31 prbs 1 2
        (detEst nr r.layers prbs (s.nat O.detPrbGroup)) [(chest, true)])) ++
      (dets.map fun l => tileNode s (opId .demod r.id l 0) 0x24 prbs 1 r.layers 2 [(opId .det r.id l 0, true)]) ++
      ((List.range sg.c).map fun b => engineNode s (opId .dec r.id 255 b) 1 0x11 prbs syms 2
        (decEst sg (recBlock s n r b) (blockE s n r b) cap (keptOf (g.host s (r.u 6 2)) sg.c (sg.ncbOf (recBlock s n r b))) (!bitOf r.flags 0))
        ((blockSymbols s n r b).map fun l => (opId .demod r.id l 0, false))) ++
      [tileNode s (opId .tbchk r.id 255 0) 0x25 prbs syms r.layers 2
        ((List.range sg.c).map fun b => (opId .dec r.id 255 b, false))] ++
      (if r.puschUci == 0 then []
        else [uciNode s n r r.puschUci prbs syms (dets.map fun l => (opId .demod r.id l 0, false))])
  | 0x12 =>
    let chest := opId .chest r.id 255 0
    [samples mask (engineNode s chest 3 0x30 prbs syms 2 (chestEst nr 1 prbs (Config.pucchDmrsSymbols r.bytes)) []),
      uciNode s n r r.pucchUci prbs syms [(chest, false)]]
  | 0x13 =>
    [{ samples mask (engineNode s (opId .prach r.id 255 0) 3 0x33 prbs syms 2
        (prachEst nr (Config.prachRoots r.bytes) (prachCorr (r.u 6 1))) []) with urgent := true }]
  | 0x14 =>
    let update := (srsUpdates s n r).map fun e => (e.subbands, e.ports, e.layers)
    [{ samples mask (engineNode s (opId .srs r.id 255 0) 3 0x34 prbs syms 3
        (srsEst (12 * r.u 18 2 / max 1 (r.u 11 1) * r.u 10 1) nr (r.u 8 1) update) []) with
      sink := some (s.ulDeadline n g.slot) }]
  | _ => []

/-- What the outcome of an uplink record needs. -/
def ulLast (r : Rec) : List OpId :=
  match r.type with
  | 0x11 => opId .tbchk r.id 255 0 :: (if r.puschUci == 0 then [] else [opId .uci r.id 255 0])
  | 0x12 => [opId .uci r.id 255 0]
  | 0x13 => [opId .prach r.id 255 0]
  | 0x14 => [opId .srs r.id 255 0]
  | _ => []

/-- The operations of an uplink course, each after its inputs. -/
def ulGraph (s : State) (g : Site) : List Node :=
  let ffts := if s.timeDomain g.n then
      g.desc.symbols.flatMap fun l => (List.range (s.nat (O.ulPorts g.n))).map fun p =>
        { engineNode s (opId .fft 0 l p) 4 0x41 (s.prbs g.n) 1 2 (xeEst (s.transform g.n)) [] with arrive := 2 ^ l }
    else []
  ffts ++ (g.desc.recs.flatMap (ulRecNodes s g)) ++
    [{ tileNode s (opId .out 0 255 0) 0x27 (s.prbs g.n) 14 1 2 (g.desc.recs.flatMap fun r => (ulLast r).map fun o => (o, false)) with
      sink := some (s.ulDeadline g.n g.slot) }]

/-- The graph of a course. -/
def graphOf (s : State) (g : Site) : List Node := if g.dir == 0 then dlGraph s g else ulGraph s g

/-! ## Deadlines (03 R102) -/

/-- The least of an optional bound and a value. -/
def minOpt (a : Option Int) (b : Int) : Int :=
  match a with
  | some x => min x b
  | none => b

/-- LF of every operation, folded from the last operation to the first: the lesser of what its consumers leave it and, of a sink, its own (03
R101; log entry 47). -/
def deadlines (nodes : List Node) : Store Int :=
  (nodes.foldr (fun x (acc : Store Int × Store Int) =>
    let own := Store.find acc.2 x.id.key
    let lf := match x.sink, own with
      | some a, some b => min a b
      | some a, none => a
      | none, some b => b
      | none, none => 0
    let ls := lf - x.est
    (Store.put acc.1 x.id.key lf,
      x.ins.foldl (fun m i => Store.put m i.1.key (minOpt (Store.find m i.1.key) ls)) acc.2))
    (([] : Store Int), ([] : Store Int))).1

/-- The symbols that a record occupies in either of two descriptions. -/
def changedSymbols (s : State) (g : Site) (old : Desc) (ids : List Nat) : Nat :=
  let m := fun (d : Desc) => ((d.recs.filter fun r => ids.contains r.id).map fun r =>
    recSymbols (s.std g.n) (s.mu g.n) d r).foldl Nat.lor 0
  Nat.lor (m g.desc) (m old)

/-- Whether a revision re-issues an operation of a downlink course (06 R199): `changes` holds the class of each changed record, and
`syms` the symbols that the records occupy. -/
def reissued (changes : List (Nat × Nat)) (recs : List Rec) (syms : Nat) (o : OpId) : Bool :=
  match o.kind with
  | .asm | .ifft => bitOf syms o.sym
  | .prec => changes.any (·.1 == o.recId)
  | .ctl => changes.any fun c => c.1 == o.recId &&
      (c.2 == 3 || (c.2 == 2 && ((recById recs o.recId).map fun r => r.type == 0x02 || r.type == 0x05).getD false))
  | _ => changes.any fun c => c.1 == o.recId && c.2 == 3

/-- Whether a revision of an uplink course re-issues an operation: those of the changed records, and the outcome body that consumes
them. -/
def reissuedUl (changes : List (Nat × Nat)) (o : OpId) : Bool :=
  match o.kind with
  | .fft => false
  | .out => !changes.isEmpty
  | _ => changes.any (·.1 == o.recId)

end Sys2Proof.Machine
end

