-- ==== Sys2Proof/Machine/Units.lean ====
section
/-! DEFINITION. The units of the part: where each stands on the fabric and in which power domain (14 Tables 14-1 and 14-2, 18 Table
18-1), distances (14 R460, R467, R468, R488), and the candidates of each class (13 R426, R427). -/

namespace Sys2Proof.Machine

/-! ## Stops: a ring and a stop number -/

/-- The middle stop of pallet-store slice `k`. -/
def sliceStop (k : Nat) : Nat × Nat := (k / 3, 1 + 16 * (k % 3))

/-- The stop of kiln stop `k`, 0 to 33. -/
def kilnStop (k : Nat) : Nat × Nat := if k < 32 then (k / 4, [7, 23, 39, 41].getD (k % 4) 0) else (k - 28, 31)

/-- The stop of layer engine `k`. -/
def leStop (k : Nat) : Nat × Nat := if k < 32 then (k / 4, [8, 24, 40, 42].getD (k % 4) 0) else (k - 28, 47)

/-- The stop of brick pair `n`. -/
def pairStop (n : Nat) : Nat × Nat := if n < 96 then (n / 12, 3 + 16 * (n % 12 / 4) + n % 4) else (n - 92, 15)

/-- The stop of hod engine `e`. -/
def hodStop (e : Nat) : Nat × Nat := (e / 3, [12, 28, 45].getD (e % 3) 0)

/-- The stop of fronthaul port `p`. -/
def portStop (p : Nat) : Nat × Nat := (p / 3, [13, 29, 46].getD (p % 3) 0)

/-- The stop of transform engine `u`. -/
def xeStop (u : Nat) : Nat × Nat := if u < 16 then (u / 2, if u % 2 == 0 then 14 else 30) else (6, 31)

/-- The stop of a unit of a class (13 Table 13-1). -/
def unitStop (cls unit : Nat) : Nat × Nat :=
  match cls with
  | 0 => pairStop (unit / 2)
  | 1 => kilnStop (unit / 2)
  | 2 => kilnStop unit
  | 3 => leStop unit
  | 4 => xeStop unit
  | _ => hodStop (unit / 16)

/-! ## Domains -/

/-- The power domain of a unit of a class. -/
def unitDomain (cls unit : Nat) : Nat :=
  match cls with
  | 0 => 2 + unit / 20
  | 1 => if unit < 34 then 12 else 13
  | 2 => if unit < 17 then 12 else 13
  | 3 => 14
  | 4 => 15
  | _ => 31

/-- Whether a domain reads RUN, and so is neither closing nor in another state (18 Table 18-10). -/
def State.runs (s : State) (d : Nat) : Bool := s.obj (O.domainState d) == 0

/-! ## Distances (14 R460, R467, R468, R488) -/

/-- Clockwise links from stop `a` to stop `b`. -/
def cwHops (a b : Nat) : Nat := (b + 48 - a) % 48

/-- Whether the clockwise way from `a` to `b` crosses the link after stop `f`. -/
def cwCrosses (a b f : Nat) : Bool := decide (cwHops a f < cwHops a b)

/-- The hops from stop `a` to stop `b` on ring `r`, `none` where a SPLIT ring joins them no more. On a WHOLE ring the shorter way is
taken where the two differ by more than ADAPT_SLACK, and otherwise clockwise, the links' free credits being taken as equal (log
entry 21); on a FOLDED ring the way that does not need the broken link. -/
def State.hops (s : State) (r a b : Nat) : Option Nat :=
  let dc := cwHops a b
  let da := cwHops b a
  if a = b then some 0
  else match s.nat (O.ringState r) with
    | 0 =>
      let gap := max dc da - min dc da
      some (if gap > s.nat O.adaptSlack then min dc da else dc)
    | 3 =>
      let f := s.nat (O.faultStop r)
      let g := Store.at f s.units.second r
      if !cwCrosses a b f && !cwCrosses a b g then some dc
      else if cwCrosses a b f && cwCrosses a b g then some da else none
    | _ => some (if cwCrosses a b (s.nat (O.faultStop r)) then da else dc)

/-- The distance of 13 R440 from a stop to a slice: the hops, and 1 where the rings differ. -/
def State.sliceDistance (s : State) (at' : Nat × Nat) (k : Nat) : Option Nat :=
  (s.hops at'.1 at'.2 (sliceStop k).2).map fun h => h + if at'.1 = (sliceStop k).1 then 0 else 1

/-! ## Service -/

/-- Whether a hod engine reads RUN: neither HALTED nor FAULTED, in a domain that runs (16 R539). -/
def State.hodRuns (s : State) (e : Nat) : Bool :=
  bitOf (s.nat O.hodService) e && !bitOf (s.nat O.hodHaltedMap) e && s.runs 31

/-- Whether a pair is in service and not CHANGING (11 R355, R405). -/
def State.pairServes (s : State) (n : Nat) : Bool := s.obj (O.pairRole n) == 0 && s.obj (O.bondState n) != 3

/-- The tile slots of a pair in service (11 R358): both tiles, or the leader of a bond. -/
def State.pairSlots (s : State) (n : Nat) : List Nat :=
  if s.pairServes n then (if s.obj (O.bondState n) == 0 then [2 * n, 2 * n + 1] else [2 * n]) else []

/-- All tile slots in service. -/
def State.tileSlots (s : State) : List Nat := (List.range 100).flatMap s.pairSlots

/-- The form of a tile slot: the VL in force × 4 + the bond mode (13 R427). -/
def State.slotForm (s : State) (t : Nat) : Nat := s.nat (O.tileVlActive t) * 4 + s.nat (O.bondState (t / 2))

/-- The form of a partition. -/
def State.partForm (s : State) (p : Nat) : Nat := s.nat (O.partVl p) * 4 + s.nat (O.partBond p)

/-- The partition that reads ON and has a form. -/
def State.partOf (s : State) (form : Nat) : Option Nat :=
  (List.range 8).find? fun p => s.isOn (O.partEnable p) && s.partForm p == form

/-- The tile slots in service of a form. -/
def State.slotsOf (s : State) (form : Nat) : List Nat := s.tileSlots.filter fun t => s.slotForm t == form

/-- The units of a class in service whose domain reads RUN (13 R426); for tiles, those of a form. -/
def State.candidates (s : State) (cls form : Nat) : List Nat :=
  let up := fun (l : List Nat) => l.filter fun u => s.runs (unitDomain cls u)
  match cls with
  | 0 => up (s.slotsOf form)
  | 1 => up ((List.range 68).filter fun u =>
      if u < 64 then bitOf (s.nat O.kdServiceLo) u else bitOf (s.nat O.kdServiceHi) (u - 64))
  | 2 => up (maskList (s.nat O.keService) 34)
  | 3 => up (maskList (s.nat O.leService) 34)
  | 4 => up (maskList s.units.xe 17)
  | _ => ((List.range 24).filter s.hodRuns).flatMap fun e =>
      ((List.range 15).map fun c => e * 16 + c) ++ (if 20 ≤ e then [e * 16 + 15] else [])

/-! ## Pallets (13 R440, 15 R493) -/

/-- The pallets of a slice that serve operations: the 64 pallets for the device's own use are taken as the last two of every slice and the
third last of slices 0 to 15 (log entry 25). -/
def usablePallets (k : Nat) : Nat := if k < 16 then 61 else 62

/-- Pallet-store pallets are numbered slice × 64 + pallet. -/
def State.heldPallets (s : State) (k : Nat) : List Nat := (s.sched.ops.flatMap fun e => e.2.places).filter (· / 64 == k)

/-- Pallets of a slice that operations hold. -/
def State.sliceUsed (s : State) (k : Nat) : Nat := (s.heldPallets k).length

/-- The own pallets that a carrier uses. -/
def State.ownUsed (s : State) (n : Nat) : Nat := (s.sched.ops.map fun e => if e.2.chan = n + 1 then e.2.own else 0).sum

/-- The common-pool pallets that a carrier uses. -/
def State.commonOf (s : State) (n : Nat) : Nat := (s.sched.ops.map fun e => if e.2.chan = n + 1 then e.2.common else 0).sum

/-- The pallets that a carrier reserves: 2 × its stream units + 8 while it holds its resources (06 R185), as PALLETS_RESERVED reads. -/
def State.reservedPallets (s : State) (n : Nat) : Nat :=
  if s.holds (O.carrierEnable n) then s.nat (O.palletsReserved n) else 0

/-- Pallets of the slices in service that are not for the device's own use (06 R184): 64 in each slice, less 64. -/
def State.storePallets (s : State) : Nat := 64 * onesBelow s.units.slices 24 - 64

/-- The free pallets of the common pool. -/
def State.commonFree (s : State) : Nat :=
  s.storePallets - sumOver 64 s.reservedPallets - (s.sched.ops.map fun e => e.2.common).sum

/-- The places of a channel's staging region that instances hold. -/
def State.stagedOn (s : State) (c : Nat) : List Nat := (s.sched.ops.flatMap fun e => e.2.stage).filter (· / 2 ^ 20 == c)

/-- The slice in service nearest to a stop that has a free pallet beside those already chosen; the lowest-numbered among equals. -/
def State.nearestSlice (s : State) (at' : Nat × Nat) (chosen : List Nat) : Option Nat :=
  ((List.range 24).foldl (fun (best : Option (Nat × Nat)) k =>
    if bitOf s.units.slices k && decide (s.sliceUsed k + (chosen.filter (· / 64 == k)).length < usablePallets k) then
      match s.sliceDistance at' k, best with
      | some d, some (b, _) => if d < b then some (d, k) else best
      | some d, none => some (d, k)
      | none, _ => best
    else best) none).map (·.2)

/-- The lowest-numbered free pallet of a slice (log entry 25). -/
def State.freePallet (s : State) (chosen : List Nat) (k : Nat) : Option Nat :=
  let held := s.heldPallets k ++ chosen
  (((List.range (usablePallets k)).map fun i => k * 64 + i).find? fun p => !held.contains p)

/-- `n` pallets, each in the slice nearest to a stop. -/
def State.placePallets (s : State) (at' : Nat × Nat) : Nat → List Nat → Option (List Nat)
  | 0, chosen => some chosen
  | n + 1, chosen =>
    match (s.nearestSlice at' chosen).bind (s.freePallet chosen) with
    | some p => s.placePallets at' n (chosen ++ [p])
    | none => none

/-- The device address of a pallet-store pallet (15 Table 15-1). -/
def palletAddr (p : Nat) : Nat := 0x08000000 + p / 64 * 0x01000000 + p % 64 * 0x10000

/-- The device address of a tile's memory. -/
def tileAddr (t : Nat) : Nat := 0x010000000000 + t * 0x100000

/-- The device address of a GDDR7 channel's data space. -/
def chanAddr (c : Nat) : Nat := 0x100000000000 + c * 0x000400000000

/-! ## GDDR7 channels (15 R502) -/

/-- The device address of a place in a channel: channel · 2²⁰ + pallet (15 R503; log entry 30). -/
def storeAddr (place : Nat) : Nat := chanAddr (place / 2 ^ 20) + place % 2 ^ 20 * 0x10000

/-- The pallets of each channel's share of the TB store. -/
def State.tbRegion (s : State) : Nat := s.nat O.tbStorePallets / 16

/-- The pallets of each channel's share of the staging region, which follows the TB store (log entry 30). -/
def State.stagingRegion (s : State) : Nat := s.nat O.stagingPallets / 16

/-- Whether a GDDR7 channel is in service. -/
def State.chanServes (s : State) (c : Nat) : Bool := s.obj (O.chState c) == 2

/-- The channel in service with the fewest pallets held of a region, the lowest-numbered among equals: each region is spread evenly over
the channels (log entry 22). -/
def State.leastChannel (s : State) (held : Nat → Nat) : Option Nat :=
  ((List.range 16).foldl (fun (best : Option (Nat × Nat)) c =>
    if s.chanServes c then
      match best with
      | some (h, _) => if held c < h then some (held c, c) else best
      | none => some (held c, c)
    else best) none).map (·.2)

/-- Pallets of the fixed regions of data: the context mirror and the context reserve (15 R501). -/
def State.contextExtra (s : State) : Nat := ceilDiv (s.nat O.ueCtxLimit * 64) 65536 + ceilDiv (s.nat O.ueCtxLimit * 128) 65536

/-- DATA_PALLETS (15 R501). -/
def State.dataPallets (s : State) : Nat :=
  sumOver 16 (fun c => if s.chanServes c then s.nat (O.chPallets c) - s.nat (O.chRetired c) else 0)
    - s.nat O.stagingPallets - s.nat O.tbStorePallets - s.nat O.wbPoolPallets - s.contextExtra

/-- What the test of 06 R184 needs: the three journal regions, the context table and the soft buffers (15 R501). -/
def State.dataNeeded (s : State) : Nat := 12288 + ceilDiv (s.nat O.ueCtxLimit * 2048) 65536 + s.nat O.softbufPallets

end Sys2Proof.Machine
end

