-- ==== Sys2Proof/Machine/Issue.lean ====
section
/-! DEFINITION. Operation instances: their issue and re-issue (06 R198 to R202), how they become ready (13 R437), expire (13 R450) and
are released (13 R447), the trace (13 R455), and the feasibility estimate (03 R108, 13 R431). -/

namespace Sys2Proof.Machine

/-! ## Courses and instances -/

/-- The key of a course: its channel and its course id (03 R96). -/
def courseKey (chan course : Nat) : Nat := chan * 2 ^ 32 + course

/-- A course, if the device holds it. -/
def State.course (s : State) (key : Nat) : Option Course := Store.find s.pipe.courses key

/-- The state with a course changed. -/
def State.onCourse (s : State) (key : Nat) (f : Course → Course) : State :=
  match s.course key with
  | some c => { s with pipe := { s.pipe with courses := Store.put s.pipe.courses key (f c) } }
  | none => s

/-- The direction of a course id: 0 downlink, 1 uplink (03 Table 3-3). -/
def dirOf (course : Nat) : Nat := course / 2 ^ 31

/-- What the graph of a course is built from. -/
def Course.site (c : Course) (key : Nat) : Site :=
  ⟨key / 2 ^ 32 - 1, dirOf (key % 2 ^ 32), ⟨c.first, c.last, c.recs⟩, c.slotAir, c.snaps⟩

/-- The course of an instance. -/
def Op.key (o : Op) : Nat := courseKey o.chan o.course

/-- The carrier of an instance. -/
def Op.carrier (o : Op) : Nat := o.chan - 1

/-- The pallets that an instance holds. -/
def Op.pallets (o : Op) : Nat := o.places.length + o.stage.length

/-- The device addresses of the output pallets of an instance, in the pallet store or in the staging region. -/
def Op.outBases (o : Op) : List Nat := if o.stage.isEmpty then (o.places.take o.outs).map palletAddr else o.stage.map storeAddr

/-- Whether an instance is over: ended, expired or released. -/
def Op.over (o : Op) : Bool := o.state == .ended || o.state == .expired || o.state == .released

/-- An instance by its tag. -/
def State.op (s : State) (tag : Nat) : Option Op := Store.find s.sched.ops tag

/-- The state with the instances replaced. -/
def State.setOps (s : State) (ops : Store Op) : State := { s with sched := { s.sched with ops := ops } }

/-- The state with an instance changed. -/
def State.onOp (s : State) (tag : Nat) (f : Op → Op) : State :=
  match s.op tag with
  | some o => s.setOps (Store.put s.sched.ops tag (f o))
  | none => s

/-- The current instance of an operation of a course, and its tag. -/
def State.liveOp (s : State) (key : Nat) (id : OpId) : Option (Nat × Op) :=
  s.sched.ops.find? fun e => e.2.key == key && e.2.id == id && !e.2.old

/-- The instances of a course with their tags. -/
def State.opsOf (s : State) (key : Nat) : List (Nat × Op) := s.sched.ops.filter fun e => e.2.key == key

/-! ## The trace (13 R455) -/

/-- A difference of instants in nanoseconds as the device writes it, its rounding a free value (log entry 10). -/
def nsOf (a : Int) : Int := freeDiv 9 a airNs

/-- Whether the trace records an event of a carrier. -/
def State.traced (s : State) (event carrier : Nat) : Bool :=
  s.isOn O.traceEnable && bitOf (s.nat O.traceMask) event && bitOf (s.nat O.traceCarriers) carrier

/-- A record of the ring: written, or counted as lost when the ring is full and TRACE_WRAP is 0. -/
def addTrace (r : Bytes) (s : State) : State :=
  let room := s.nat O.tracePallets * 2048
  if s.sched.trace.length < room then
    { s.bump O.traceWritten 1 with sched := { s.sched with trace := s.sched.trace ++ [r] } }
  else if s.obj O.traceWrap == 1 then
    { s.bump O.traceWritten 1 with sched := { s.sched with trace := keepLast room (s.sched.trace ++ [r]) } }
  else s.bump O.traceLost 1

/-- The unit number of a trace record (13 Table 13-9). -/
def Op.traceUnit (o : Op) : Nat := if o.unit == 0xFFFF then 0xFFFF else o.unit % 2 ^ 16

/-- The record of an event of an instance (13 Table 13-9). -/
def traceOp (event tag : Nat) (o : Op) (status pallets tested : Nat) (s : State) : State :=
  if s.traced event o.carrier then
    let slack := nsOf ((if event == 1 || event == 2 || event == 10 || event == 11 then o.ls else o.lf) - s.airNow)
    addTrace (leBytes 1 event ++ leBytes 1 o.cls ++ leBytes 2 o.traceUnit ++ leBytes 1 o.carrier ++ leBytes 1 o.gen
      ++ leBytes 1 o.prio ++ leBytes 1 status ++ leBytes 4 o.course ++ leBytes 2 tag ++ leBytes 2 o.id.recId
      ++ leBytes 8 s.atsNow ++ leBytes 4 (codeOf 32 slack) ++ leBytes 2 pallets ++ leBytes 1 tested ++ leBytes 1 o.id.sym) s
  else s

/-! ## Causes (06 R220, R221) -/

/-- A cause strikes a record: the first in air time stays, and among causes of one instant the lowest code. -/
def strike (now : Int) (status : Nat) (m : Store (Int × Nat)) (rec : Nat) : Store (Int × Nat) :=
  match Store.find m rec with
  | some (t, c) => if now < t || (now = t && status < c) then Store.put m rec (now, status) else m
  | none => Store.put m rec (now, status)

/-- A cause strikes records of a course now. -/
def causeAt (key status : Nat) (recs : List Nat) (s : State) : State :=
  let now := s.airNow
  s.onCourse key fun c => { c with causes := recs.foldl (strike now status) c.causes }

/-- The records of a course that occupy a symbol. -/
def symbolRecs (s : State) (key : Nat) (c : Course) (l : Nat) : List Nat := (recsOf s (c.site key) l).map (·.id)

/-- The records that an operation works for: its own, those of its symbol, or all of them. -/
def opRecs (s : State) (o : Op) : List Nat :=
  match s.course o.key with
  | none => []
  | some c =>
    match o.id.kind with
    | .asm | .ifft | .fft => symbolRecs s o.key c o.id.sym
    | .out => c.recs.map (·.id)
    | _ => [o.id.recId]

/-! ## Kiln jobs and transport-block checkers (07 R248, R249) -/

/-- Whether an engine runs an instance: it has not reported its end. -/
def Op.onEngine (o : Op) : Bool := o.state == .running && o.ended.isNone

/-- Whether an engine holds a fused job: sent, and neither ended nor settled. -/
def FusedJob.onEngine (j : FusedJob) : Bool := j.sent && !j.ended && !j.settled

/-- The state without a kiln job. -/
def State.dropJob (s : State) (tag : Nat) : State := { s with kiln := { s.kiln with jobs := Store.drop s.kiln.jobs tag } }

/-- The checker of a TB tag. -/
def State.checker (s : State) (j : Job) : Checker := Store.at ⟨j.c, [], 0, 0, none⟩ s.kiln.checkers j.tbTag

/-- A block of a transport block with the kiln check ends: it counts in the checker entry, which is released once all C have ended. The kiln holds
1,024 entries; for a transport block beyond them there is none, so that none of its blocks is judged as the last (log entry 49). -/
def State.blockEnds (s : State) (j : Job) (f : Checker → Checker) : State :=
  if !j.check then s
  else match Store.find s.kiln.voided j.tbTag with
    | some n =>
      { s with kiln := { s.kiln with voided := if j.c ≤ n + 1 then Store.drop s.kiln.voided j.tbTag else Store.put s.kiln.voided j.tbTag (n + 1) } }
    | none =>
      let k := f (s.checker j)
      let k := { k with ended := k.ended + 1 }
      let room := (Store.find s.kiln.checkers j.tbTag).isSome || decide (s.kiln.checkers.length < 1024)
      { s with kiln := { s.kiln with checkers :=
          if j.c ≤ k.ended then Store.drop s.kiln.checkers j.tbTag
          else if room then Store.put s.kiln.checkers j.tbTag k else s.kiln.checkers } }

/-- A block is cancelled: the checker entry is released, and no block of its transport block is judged as the last (07 R249). -/
def State.voidBlock (s : State) (j : Job) : State :=
  let seen := (Store.find s.kiln.voided j.tbTag).getD (s.checker j).ended
  let n := if j.status.isSome then seen else seen + 1
  if !j.check || n == 0 then s
  else { s with kiln := { s.kiln with
      checkers := Store.drop s.kiln.checkers j.tbTag
      voided := if j.c ≤ n then Store.drop s.kiln.voided j.tbTag else Store.put s.kiln.voided j.tbTag n } }

/-- Iterations as counted: half-iterations of turbo make one iteration each two (log entry 10). -/
def wholeIters (kind n : Nat) : Nat := if kind == 0x12 then (freeDiv 11 n 2).toNat else n

/-- A job that has not ended leaves the kiln: its scratch is released, its iterations count, and a restart that it asked for is withdrawn (07 R249,
R258, Table 7-13). -/
def dropKilnJob (tag : Nat) (s : State) : State :=
  match Store.find s.kiln.jobs tag with
  | some j =>
    let run := j.iters + if j.status.isSome || j.susp then 0 else wholeIters j.kind j.dec.run
    let s := if j.kind == 0x13 || j.status.isSome then s else s.bump O.iterations run
    (s.dropJob tag).voidBlock j
  | none => s

/-- The restart that a suspended job asked for is withdrawn with the job, which a cancel ends (07 Table 7-9). -/
def withdrawJob (s : State) (tag : Nat) : State :=
  if (Store.find s.kiln.jobs tag).isSome then dropKilnJob tag (s.bump O.cancelledJobs 1) else s

/-! ## Ends without outputs -/

/-- An instance with no pallet, no unit and no engine slot. -/
def Op.bare (o : Op) : Op :=
  { o with unit := 0xFFFF, fused := [], places := [], own := 0, common := 0, stage := [], valid := [], next := false, data := [], found := none }

/-- An instance expires, or its cancel is acknowledged: its outputs are empty tokens. -/
def Op.expire (o : Op) : Op := { o.bare with state := .expired, published := true, empty := true, cancel := false, ended := none }

/-- The status of the records of an instance that expires or is cancelled at its deadline: UNIT_FAULTED where a fault took its unit and it
has not recovered in time, or no unit of its class is left (06 Table 6-10; 17 R572), and EXPIRED otherwise. -/
def lateStatus (s : State) (o : Op) : Nat :=
  if o.faulted || ((s.candidates o.cls o.form).isEmpty && !s.guard.lost.isEmpty) then 5 else 1

/-- An expiry or a cancel counts in the carrier's and the course's figures, and strikes the records (13 R452). -/
def countExpiry (o : Op) (key : Nat) (s : State) : State :=
  ((s.bump (O.expiredOps o.carrier) 1).bump key 1)
    |> causeAt o.key (lateStatus s o) (opRecs s o)
    |> fun s => s.onCourse o.key fun c => { c with expired := c.expired + 1 }

/-- An instance that is WAITING or READY expires (13 R450). -/
def expireOp (tag : Nat) (s : State) : State :=
  match s.op tag with
  | some o =>
    if o.state == .waiting || o.state == .ready then
      traceOp 6 tag o 0 0 0 ((countExpiry o O.expiredAtLs (dropKilnJob tag s)).onOp tag Op.expire)
    else s
  | none => s

/-! ## Becoming ready (13 R437) -/

/-- An input as its consumer finds it: 0 not there yet, 1 published, 2 an empty token. -/
def inputState (s : State) (key : Nat) (id : OpId) : Nat :=
  match s.liveOp key id with
  | some (_, p) => if p.empty then 2 else if p.published then 1 else 0
  | none => 2

/-- The symbols of an allocation whose demod outputs are published. -/
def demodsDone (s : State) (key recId : Nat) : Nat :=
  ((List.range 14).filter fun l => inputState s key (opId .demod recId l 0) == 1).foldl (fun m l => m + 2 ^ l) 0

/-- E_rx of a code block: the bits of it that published demods give, and none where the record is gone. -/
def arrivedBits (s : State) (o : Op) : Nat :=
  match s.course o.key with
  | some c => match recById c.recs o.id.recId with
    | some r => blockArrived s o.carrier r o.id.idx (demodsDone s o.key o.id.recId)
    | none => 0
  | none => 0

/-- E of the code block of a dec. -/
def neededBits (s : State) (o : Op) : Nat :=
  match s.course o.key with
  | some c => match recById c.recs o.id.recId with
    | some r => blockE s o.carrier r o.id.idx
    | none => 0
  | none => 0

/-- Whether the HARQ process of a dec holds an uncommitted version of a course that was accepted earlier (06 R213). -/
def harqHeld (s : State) (o : Op) : Bool :=
  match s.course o.key with
  | some c => match recById c.recs o.id.recId with
    | some r =>
      match (Store.at ⟨0, none, none⟩ (s.ue (r.u 6 2)).procs (r.u 8 1)).pending with
      | some (k, _, _) => k != o.key && ((s.course k).map fun e => decide (e.order < c.order)).getD true
      | none => false
    | none => false
  | none => false

/-- Whether a WAITING instance may become READY. A dec is ready when RUNAHEAD_FRACTION per cent of its block have arrived, or at its LS
(06 R208). -/
def mayReady (s : State) (o : Op) : Bool :=
  let got := match s.course o.key with
    | some c => Nat.land (Nat.lor c.sent c.unsent) o.arrive == o.arrive
    | none => false
  if o.id.kind == .dec then
    !harqHeld s o && (decide (s.nat (O.runaheadFraction o.carrier) * neededBits s o ≤ 100 * arrivedBits s o) || decide (o.ls ≤ s.airNow))
  else got && o.ins.all fun i => inputState s o.key i.1 != 0

/-- An instance enters its ready list. -/
def makeReady (tag : Nat) (o : Op) (s : State) : State :=
  let list := if o.cls == 0 then (match s.partOf o.form with
    | some p => p + 1
    | none => 0) else 0
  let o := { o with state := OpState.ready, readyAt := s.airNow, list := list }
  traceOp 1 tag o 0 0 0 (s.onOp tag fun _ => o)

/-- One WAITING instance judged: it expires with a strict input that is empty, or becomes ready. -/
def settleOp (s : State) (tag : Nat) : State :=
  match s.op tag with
  | some o =>
    if o.state == .waiting && !o.old then
      if o.ins.any fun i => i.2 && inputState s o.key i.1 == 2 then expireOp tag s
      else if mayReady s o then makeReady tag o s else s
    else if o.state == .ready && !o.old && o.ins.any (fun i => i.2 && inputState s o.key i.1 == 2) then expireOp tag s
    else s
  | none => s

/-- Every instance judged, producers before consumers (13 R437, R450). -/
def settle (s : State) : State := (s.sched.ops.map (·.1)).foldl settleOp s

/-! ## Release (13 R447) -/

/-- Whether every consumer of an instance has ended or expired. -/
def consumersOver (s : State) (o : Op) : Bool :=
  (s.opsOf o.key).all fun e => e.2.old || e.2.over || !(e.2.ins.any fun i => i.1 == o.id)

/-- Whether the fronthaul, or the outcome, consumes the output of an instance. -/
def isSink (s : State) (o : Op) : Bool :=
  (o.id.kind == .asm && !s.timeDomain o.carrier) || o.id.kind == .ifft || o.id.kind == .out

/-- Whether an instance is to be released: over, with every consumer over, in a course that is past its binding point. A course that is
OPEN keeps its outputs, for a later generation reads them (06 R199; log entry 23). -/
def releasable (s : State) (o : Op) : Bool :=
  o.over && !o.old && !isSink s o && consumersOver s o &&
    match s.course o.key with
    | some c => c.state != .opened
    | none => true

/-- The release of every instance that may be released. -/
def releaseOps (s : State) : State :=
  let gone := (s.sched.ops.filter fun e => releasable s e.2).map (·.1)
  s.setOps (s.sched.ops.filter fun e => !gone.contains e.1)

/-! ## Issue and re-issue (06 R198 to R200) -/

/-- The priority class at issue (13 R438). -/
def issuePrio (s : State) (x : Node) (ls : Int) : Nat :=
  if x.urgent && decide (ls - s.airNow ≤ s.obj O.urgentLead * airNs) then 0 else x.prio

/-- An instance of a node. -/
def freshOp (s : State) (chan course gen : Nat) (lf : Int) (x : Node) : Op :=
  { chan := chan, course := course, gen := gen, id := x.id, cls := x.cls, form := x.form, list := 0, state := .waiting, ins := x.ins
    arrive := x.arrive, est := x.est, ls := lf - x.est, lf := lf, prio := issuePrio s x (lf - x.est), readyAt := 0, unit := 0xFFFF
    start := 0, fused := [], outs := x.outs, places := [], own := 0, common := 0, stage := [], valid := [], next := false
    ended := none, published := false, empty := false, cancel := false, old := false, data := [], faulted := false, params := [], found := none }

/-- The issue of a node under a fresh tag. -/
def issueNode (chan course gen : Nat) (lfs : Store Int) (s : State) (x : Node) : State :=
  { s with sched := { s.sched with
      ops := Store.put s.sched.ops s.sched.nextTag (freshOp s chan course gen (Store.at 0 lfs x.id.key) x)
      nextTag := s.sched.nextTag + 1 } }

/-- The issue of the nodes of a graph that a test selects. -/
def issueGraph (chan course gen : Nat) (nodes : List Node) (sel : OpId → Bool) (s : State) : State :=
  (nodes.filter fun x => sel x.id).foldl (issueNode chan course gen (deadlines nodes)) s

/-- An instance is superseded: its outputs are released, and where it runs, or is a suspended decode, a cancel token goes to its unit (06
R200, 13 R448). Of a suspended decode that is READY again the restart is withdrawn at once (07 Table 7-9). -/
def supersede (s : State) (tag : Nat) : State :=
  match s.op tag with
  | some o =>
    let s := traceOp 8 tag o 0 o.pallets 0 (s.bump O.supersededOutputs o.pallets)
    if o.state == .running || o.state == .suspended then
      s.onOp tag fun o => { o with places := [], own := 0, common := 0, stage := [], valid := [], cancel := true, old := true }
    else
      let s := withdrawJob s tag
      s.setOps (Store.drop s.sched.ops tag)
  | none => s

/-- The instances of a course that a test selects are superseded. -/
def supersedeOps (key : Nat) (sel : OpId → Bool) (s : State) : State :=
  (((s.opsOf key).filter fun e => !e.2.old && sel e.2.id).map (·.1)).foldl supersede s

/-! ## The waiting estimate (13 R431) and the feasibility estimate (03 R108) -/

/-- Whether an operation of a class counts in the waiting estimate: ready or dispatched, and not ended. -/
def Op.queued (o : Op) : Bool := o.state == .ready || o.state == .dispatched || o.state == .running || o.state == .suspended

/-- The waiting estimate of a class, or of the partition of a form; `none` is infinite. -/
def State.waiting (s : State) (cls form : Nat) : Option Int :=
  let units := (s.candidates cls form).length
  if units == 0 || (cls == 0 && (s.partOf form).isNone) then none
  else
    let work := (s.sched.ops.map fun e =>
      if e.2.cls == cls && e.2.queued && (cls != 0 || e.2.form == form) then e.2.est else 0).sum
    some (freeDiv 8 work units)

/-- The longest path through the nodes of Ω, each at its waiting estimate and its estimate; `none` is infinite. -/
def longestPath (s : State) (nodes : List Node) (inΩ : OpId → Bool) : Option Int :=
  (nodes.foldl (fun (acc : Option (Store Int × Int)) x =>
    match acc, inΩ x.id with
    | none, _ => none
    | some a, false => some a
    | some (m, top), true =>
      match s.waiting x.cls x.form with
      | none => none
      | some q =>
        let before := x.ins.foldl (fun b i => max b (Store.at 0 m i.1.key)) 0
        let fin := before + q + x.est
        some (Store.put m x.id.key fin, max top fin)) (some (([] : Store Int), (0 : Int)))).map (·.2)

/-- The least LF of the sinks that a test selects. -/
def leastSink (nodes : List Node) (sel : OpId → Bool) : Option Int :=
  let lfs := deadlines nodes
  nodes.foldl (fun m x => if x.sink.isSome && sel x.id then some (minOpt m (Store.at 0 lfs x.id.key)) else m) none

/-- The amount by which T_fin exceeds the bound of 03 R108, in air units; `none` where an estimate is infinite. No affected sink leaves
nothing to exceed. -/
def feasExcess (s : State) (n : Nat) (arrival : Int) (nodes : List Node) (inΩ sel : OpId → Bool) : Option Int :=
  match longestPath s nodes inΩ, leastSink nodes sel with
  | none, _ => none
  | some _, none => some 0
  | some path, some lf => some (arrival + feasParse + path - (lf - s.obj (O.feasGuard n) * airNs))

/-- Whether a request is feasible. -/
def feasible (e : Option Int) : Bool :=
  match e with
  | some x => decide (x ≤ 0)
  | none => false

end Sys2Proof.Machine
end

