-- ==== Sys2Proof/Machine/Decoder.lean ====
section
/-! DEFINITION. The decoders of the kiln (07 R232 to R251): LLRs and their combining, rate recovery, cyclic redundancy checks, layered
normalised min-sum, max-log-MAP and list decoding. Inside a decoder every number is exact, so that decisions depend on the LLR scale through
saturation alone (R238); the tables and orders of TS 38.212 and TS 36.212 that the spec only names are Config's, or are marked in log entry
49. -/

namespace Sys2Proof.Machine

/-! ## LLRs (00 R9; 07 R236, R237) -/

/-- A number bounded at ±127. -/
def satLlr (x : Int) : Int := max (-127) (min 127 x)

/-- The LLR of a byte: positive speaks for a 0 bit, and −128 reads as −127. -/
def llrOf (b : Byte) : Int := satLlr b.toInt

/-- The byte of an LLR. -/
def llrByte (x : Int) : Byte := BitVec.ofInt 8 x

/-- Two LLRs of one position combine by saturated addition. -/
def addLlr (a b : Int) : Int := satLlr (a + b)

/-- The nearest integer; of two that are as near the spec names none, and which one is free (log entry 49). -/
def roundFree (tag : Nat) (q : Rat) : Int :=
  let d := 2 * (q - (q.floor : Rat))
  if d < 1 then q.floor else if 1 < d then q.floor + 1
  else if Config.roundUp tag q.num q.den then q.floor + 1 else q.floor

/-- The bit that a posterior speaks for; of a posterior of 0 it is free (log entry 49). -/
def hardBit (place : Nat) (q : Rat) : Bool := if q < 0 then true else if q = 0 then Config.tieBit place else false

/-! ## Cyclic redundancy checks (07 R235, Table 7-3) -/

/-- The length and the polynomial, its highest term left out, of a CRC kind. -/
def crcKind (kind : Nat) : Nat × Nat :=
  match kind with
  | 1 => (24, 0x800063) | 2 => (24, 0x864CFB) | 3 => (16, 0x1021) | 4 => (24, 0xB2B117) | 5 => (11, 0x621) | 6 => (6, 0x21)
  | _ => (0, 0)

/-- The remainder of a bit string, first bit highest, followed by as many zeros as the CRC is long. -/
def crcOf (kind : Nat) (bits : List Bool) : Nat :=
  let len := (crcKind kind).1
  bits.foldl (fun r b =>
    let shifted := 2 * r % 2 ^ len
    if bitOf r (len - 1) != b then Nat.xor shifted (crcKind kind).2 else shifted) 0

/-- The number that bits spell, first bit highest. -/
def bitsNat (bits : List Bool) : Nat := bits.foldl (fun n b => 2 * n + (if b then 1 else 0)) 0

/-- Whether a bit string ends with its own CRC; kind 0 names none. -/
def crcGood (kind : Nat) (bits : List Bool) : Bool :=
  let len := (crcKind kind).1
  let data := bits.take (bits.length - len)
  len == 0 || (decide (len ≤ bits.length) && crcOf kind data == bitsNat (bits.drop data.length))

/-- The bits of a bit string as `len` bits of a number, first bit highest. -/
def natBits (len n : Nat) : List Bool := (List.range len).map fun i => bitOf n (len - 1 - i)

/-- Bits in bytes, the first in bit 0 of the first byte (06 R193). -/
def packBits (bits : List Bool) : Bytes :=
  (List.range (ceilDiv bits.length 8)).map fun i =>
    BitVec.ofNat 8 (((List.range 8).filter fun k => bits.getD (8 * i + k) false).map (2 ^ ·)).sum

/-- The bits of bytes, the first from bit 0 of the first byte. -/
def unpackBits (b : Bytes) : List Bool := b.flatMap fun x => (List.range 8).map fun k => x.getLsbD k

/-! ## Codes and rate recovery (07 R232, R236, R237; TS 38.212 clause 5.4, TS 36.212 clause 5.1.4) -/

/-- Whether a kind is a turbo code's, whose checks come at half-iterations (07 R240). -/
def isTurbo (kind : Nat) : Bool := kind == 0x12

/-- Whether a kind is a polar decode. -/
def isPolar (kind : Nat) : Bool := kind == 0x13

/-- The systematic columns of a base graph. -/
def sysColumns (bg : Nat) : Nat := if bg == 1 then 22 else 10

/-- Kb (07 R232). -/
def Code.kb (c : Code) : Nat :=
  if c.bg == 1 then 22 else if 640 < c.kp then 10 else if 560 < c.kp then 9 else if 192 < c.kp then 8 else 6

/-- Where the read of an LDPC circular buffer begins for a redundancy version. -/
def Code.ldpcStart (c : Code) : Nat :=
  let num := if c.bg == 1 then [0, 17, 33, 56] else [0, 13, 25, 43]
  num.getD c.rv 0 * c.ncb / ((if c.bg == 1 then 66 else 50) * c.z) * c.z

/-- The column order of the turbo sub-block interleaver. -/
def subBlockColumns : List Nat :=
  [0, 16, 8, 24, 4, 20, 12, 28, 2, 18, 10, 26, 6, 22, 14, 30, 1, 17, 9, 25, 5, 21, 13, 29, 3, 19, 11, 27, 7, 23, 15, 31]

/-- The rows of the sub-block interleaver of a stream of K + 4 bits. -/
def subBlockRows (k : Nat) : Nat := ceilDiv (k + 4) 32

/-- Place `i` of a sub-block interleaver's output: the place in the stream of K + 4 bits, or none for one of the dummies before it. -/
def subBlock (k : Nat) (third : Bool) (i : Nat) : Option Nat :=
  let r := subBlockRows k
  let n := 32 * r
  let raw := subBlockColumns.getD (i / r) 0 + 32 * (i % r) + (if third then 1 else 0)
  if raw % n < n - (k + 4) then none else some (raw % n - (n - (k + 4)))

/-- The turbo circular buffer before its dummies are taken out: place s × (K + 4) + i for bit i of stream s. -/
def turboWheel (k : Nat) : List (Option Nat) :=
  let n := 32 * subBlockRows k
  ((List.range n).map fun i => subBlock k false i) ++
    ((List.range n).flatMap fun i =>
      [(subBlock k false i).map fun (p : Nat) => (k + 4) + p, (subBlock k true i).map fun (p : Nat) => 2 * (k + 4) + p])

/-- The mother-code place of each circular-buffer position. -/
def Code.buffer (c : Code) (kind : Nat) : List Nat :=
  if isTurbo kind then ((turboWheel c.z).filterMap id).take c.ncb else (List.range c.ncb).map fun i => i + 2 * c.z

/-- The position at which a transmission begins. -/
def Code.start (c : Code) (kind : Nat) : Nat :=
  if isTurbo kind then
    let r := subBlockRows c.z
    let k0 := r * (2 * ceilDiv (96 * r) (8 * r) * c.rv + 2)
    (((turboWheel c.z).take k0).filterMap id).length % max 1 c.ncb
  else c.ldpcStart % max 1 c.ncb

/-- Whether a mother-code place is a filler bit, which is not transmitted. -/
def Code.filler (c : Code) (kind place : Nat) : Bool :=
  if isTurbo kind then place % (c.z + 4) < c.fill && place < 2 * (c.z + 4)
  else decide (c.kp ≤ place) && decide (place < sysColumns c.bg * c.z)

/-- The circular-buffer positions in the order of transmission, once around. -/
def Code.order (c : Code) (kind : Nat) : List Nat :=
  let places := c.buffer kind
  let n := places.length
  ((List.range n).map fun i => (c.start kind + i) % max 1 n).filter fun i => !c.filler kind (places.getD i 0)

/-- The place among the transmitted bits of rate-matched bit `k` of E: LDPC bits are interleaved in Qm rows. -/
def Code.sentAt (c : Code) (kind e k : Nat) : Nat :=
  if isTurbo kind || c.qm ≤ 1 then k
  else
    let cols := max 1 (e / c.qm)
    k / cols + k % cols * c.qm

/-- The received LLRs by circular-buffer position: repeated positions combine, and what has not arrived is an erasure. -/
def Code.gather (c : Code) (kind e : Nat) (llr : List Int) : List Int :=
  let order := c.order kind
  (List.range e).foldl (fun (buf : List Int) k =>
    let at' := order.getD (k % max 1 order.length) 0
    buf.set at' (addLlr (buf.getD at' 0) (llr.getD (c.sentAt kind e k) 0))) (List.replicate (c.buffer kind).length 0)

/-- The combined LLRs by circular-buffer position: with those of the committed version, and +127 at the filler (07 R237). -/
def Code.combined (c : Code) (kind e : Nat) (llr base : List Int) : List Int :=
  let places := c.buffer kind
  (c.gather kind e llr).mapIdx fun i x => if c.filler kind (places.getD i 0) then 127 else addLlr x (base.getD i 0)

/-- N_kept (07 R250). -/
def Code.keptBits (c : Code) : Nat := if c.kept != 0 && decide (c.kept < c.ncb) then c.kept else c.ncb

/-- The rows R of an LDPC iteration (07 R239). -/
def Code.rows (c : Code) (e : Nat) (combining : Bool) : Nat :=
  let p := if combining then c.ncb else min e c.ncb
  min (if c.bg == 1 then 46 else 42) (max 4 (ceilDiv p (max 1 c.z) + 2 - c.kb))

/-- The mother-code places that a decoder works on. -/
def Code.length (c : Code) (kind rows : Nat) : Nat :=
  if isTurbo kind then 3 * (c.z + 4) else (sysColumns c.bg + rows) * c.z

/-- The LLRs that enter the decoder, by mother-code place: the combined ones, +127 at filler, and 0 at punctured places. -/
def Code.channel (c : Code) (kind rows e : Nat) (llr base : List Int) : List Int :=
  let comb := c.combined kind e llr base
  let blank := (List.range (c.length kind rows)).map fun p => if c.filler kind p then (127 : Int) else 0
  ((c.buffer kind).zip comb).foldl (fun l x => l.set x.1 x.2) blank

/-! ## Layered normalised min-sum (07 R234, R239) -/

/-- The places of parity check `lane` of a row: one in each column that the base graph joins to it. -/
def Code.checkPlaces (c : Code) (rows row lane : Nat) : List Nat :=
  (List.range (sysColumns c.bg + rows)).filterMap fun col =>
    (Config.ldpcShift c.bg c.z row col).map fun shift => col * c.z + (lane + shift) % max 1 c.z

/-- The least magnitude of a list with the product of its signs. -/
def minSum : List Rat → Rat
  | [] => 0
  | [x] => x
  | x :: t => let y := minSum t; let m := min x.abs y.abs; if (x < 0) == (y < 0) then m else -m

/-- One check: what its old messages brought is taken from the posteriors, and what its new ones bring is added. -/
def checkNode (alpha : Rat) (post : List Rat) (places : List Nat) (old : List Rat) : List Rat × List Rat :=
  let t := places.mapIdx fun i p => post.getD p 0 - old.getD i 0
  let new := t.mapIdx fun i _ => alpha * minSum (t.eraseIdx i)
  ((places.zip (t.zip new)).foldl (fun l x => l.set x.1 (x.2.1 + x.2.2)) post, new)

/-- An iteration: every check of every row, in base-graph row order. -/
def Code.ldpcIterate (c : Code) (alpha : Rat) (rows : Nat) (post : List Rat) (msgs : List (List Rat)) : List Rat × List (List Rat) :=
  (List.range (rows * c.z)).foldl (fun st k =>
    let r := checkNode alpha st.1 (c.checkPlaces rows (k / max 1 c.z) (k % max 1 c.z)) (st.2.getD k [])
    (r.1, st.2.set k r.2)) (post, msgs)

/-- The unsatisfied checks of hard decisions. -/
def Code.unsatisfied (c : Code) (rows : Nat) (bits : List Bool) : Nat :=
  ((List.range (rows * c.z)).filter fun k =>
    ((c.checkPlaces rows (k / max 1 c.z) (k % max 1 c.z)).filter fun p => bits.getD p false).length % 2 == 1).length

/-! ## Max-log-MAP (07 R234; TS 36.212 clause 5.1.3) -/

/-- The larger of two path metrics, `none` being that of no path. -/
def betterPath (a b : Option Rat) : Option Rat :=
  match a, b with
  | none, x => x
  | x, none => x
  | some p, some q => some (max p q)

/-- A step of the constituent trellis from a state, of bits D, D² and D³, by an input: the parity bit and the next state. -/
def trellisStep (state : Nat) (u : Bool) : Bool × Nat :=
  let s0 := bitOf state 0
  let s1 := bitOf state 1
  let s2 := bitOf state 2
  let a := u ^^ s1 ^^ s2
  (a ^^ s0 ^^ s2, (if a then 1 else 0) + (if s0 then 2 else 0) + (if s1 then 4 else 0))

/-- What a bit adds to a path metric by its LLR. -/
def branchTerm (llr : Rat) (bit : Bool) : Rat := if bit then -llr / 2 else llr / 2

/-- One position of a constituent code: the LLR of its input with its prior, that of its parity bit, and whether it is a tail position, whose
input returns the state to zero. -/
structure TrellisIn where
  input  : Rat
  parity : Rat
  tail   : Bool
  deriving DecidableEq, Repr

/-- The inputs that a position allows in a state. -/
def TrellisIn.inputs (x : TrellisIn) (state : Nat) : List Bool :=
  if x.tail then [bitOf state 1 ^^ bitOf state 2] else [false, true]

/-- The metric of a branch. -/
def TrellisIn.branch (x : TrellisIn) (state : Nat) (u : Bool) : Rat :=
  branchTerm x.input u + branchTerm x.parity (trellisStep state u).1

/-- The forward metrics after a position. -/
def TrellisIn.forward (a : List (Option Rat)) (x : TrellisIn) : List (Option Rat) :=
  (List.range 8).map fun t => ((List.range 8).flatMap fun s => ((x.inputs s).filter fun u => (trellisStep s u).2 == t).map fun u =>
    (a.getD s none).map fun m => m + x.branch s u).foldl betterPath none

/-- The backward metrics before a position. -/
def TrellisIn.backward (x : TrellisIn) (b : List (Option Rat)) : List (Option Rat) :=
  (List.range 8).map fun s => ((x.inputs s).map fun u =>
    (b.getD (trellisStep s u).2 none).map fun m => m + x.branch s u).foldl betterPath none

/-- The zero state alone. -/
def zeroState : List (Option Rat) := some 0 :: List.replicate 7 none

/-- The posterior of a position's input between the forward metrics before it and the backward metrics after it. -/
def TrellisIn.posterior (x : TrellisIn) (a b : List (Option Rat)) : Rat :=
  let top := fun (u : Bool) => (((List.range 8).map fun s => (a.getD s none).bind fun m =>
    (b.getD (trellisStep s u).2 none).map fun k => m + x.branch s u + k).foldl betterPath none).getD 0
  top false - top true

/-- The forward metrics before each position. -/
def forwardAll : List (Option Rat) → List TrellisIn → List (List (Option Rat))
  | _, [] => []
  | a, x :: t => a :: forwardAll (x.forward a) t

/-- The backward metrics after each position, those before the first in front. -/
def backwardAll : List TrellisIn → List (List (Option Rat))
  | [] => [zeroState]
  | x :: t => let r := backwardAll t; x.backward (r.headD zeroState) :: r

/-- The posteriors of a constituent code's inputs. -/
def siso (xs : List TrellisIn) : List Rat :=
  let a := forwardAll zeroState xs
  let b := (backwardAll xs).drop 1
  xs.mapIdx fun i x => x.posterior (a.getD i []) (b.getD i [])

/-- The interleaver of a turbo code of K bits. -/
def qppAt (k i : Nat) : Nat := ((Config.qpp k).1 * i + (Config.qpp k).2 * i * i) % max 1 k

/-- The places, stream × (K + 4) + bit, of the input and the parity bit of a constituent code's three tail positions (TS 36.212 clause
5.1.3.2.2). -/
def tailPlaces (k : Nat) (second : Bool) : List (Nat × Nat) :=
  let at' := fun (s i : Nat) => s * (k + 4) + i
  if second then [(at' 0 (k + 2), at' 1 (k + 2)), (at' 2 (k + 2), at' 0 (k + 3)), (at' 1 (k + 3), at' 2 (k + 3))]
  else [(at' 0 k, at' 1 k), (at' 2 k, at' 0 (k + 1)), (at' 1 (k + 1), at' 2 (k + 1))]

/-- The trellis positions of a constituent code: its K inputs with their priors, and its three tail positions. -/
def trellisOf (k : Nat) (second : Bool) (prior : List Int) (ext : List Rat) : List TrellisIn :=
  let llr := fun (place : Nat) => ((prior.getD place 0 : Int) : Rat)
  ((List.range k).map fun i =>
    let p := if second then qppAt k i else i
    { input := llr p + ext.getD p 0, parity := llr ((if second then 2 else 1) * (k + 4) + i), tail := false }) ++
  (tailPlaces k second).map fun t => { input := llr t.1, parity := llr t.2, tail := true }

/-- A half-iteration: the posteriors of the K bits, and the scaled extrinsic that the other constituent takes as its prior. -/
def turboHalf (k : Nat) (second : Bool) (scale : Rat) (prior : List Int) (ext : List Rat) : List Rat × List Rat :=
  let out := siso (trellisOf k second prior ext)
  let back := (List.range k).foldl (fun (l : List Rat) i => l.set (if second then qppAt k i else i) (out.getD i 0)) (List.replicate k 0)
  (back, back.mapIdx fun i q => scale * (q - ((prior.getD i 0 : Int) : Rat) - ext.getD i 0))

/-! ## Successive-cancellation list decoding (07 R234; TS 38.212 clause 5.3.1) -/

/-- The encoded halves of a polar code of 2^n bits. -/
def polarEncode : Nat → List Bool → List Bool
  | 0, u => u.take 1
  | n + 1, u =>
    let a := polarEncode n (u.take (2 ^ n))
    let b := polarEncode n (u.drop (2 ^ n))
    (a.zip b).map (fun x => x.1 ^^ x.2) ++ b

/-- The LLR of the next bit of a path, from the LLRs of the code bits and the bits decided before it. -/
def polarLlr : Nat → List Rat → List Bool → Rat
  | 0, y, _ => y.getD 0 0
  | n + 1, y, u =>
    let h := 2 ^ n
    let pairs := (y.take h).zip (y.drop h)
    if u.length < h then polarLlr n (pairs.map fun p => minSum [p.1, p.2]) u
    else
      let a := polarEncode n (u.take h)
      polarLlr n ((pairs.zip a).map fun p => if p.2 then p.1.2 - p.1.1 else p.1.2 + p.1.1) (u.drop h)

/-- A path: the bits decided, and the penalty of those that its LLRs spoke against. -/
structure PolarPath where
  bits   : List Bool
  metric : Rat
  deriving DecidableEq, Repr

/-- The path with one more bit. -/
def PolarPath.extend (p : PolarPath) (llr : Rat) (b : Bool) : PolarPath :=
  ⟨p.bits ++ [b], if b = decide (llr < 0) then p.metric else p.metric + llr.abs⟩

/-- A path put into its place by metric, after those of equal metric. -/
def insertPath (p : PolarPath) : List PolarPath → List PolarPath
  | [] => [p]
  | x :: t => if p.metric < x.metric then p :: x :: t else x :: insertPath p t

/-- What a position of a polar code carries: a frozen 0, a parity of earlier positions, or an information bit. -/
def polarBits (k e n i : Nat) (before : List Bool) : List Bool :=
  if Config.polarFrozen k e n i then [false]
  else match Config.polarParity k e n i with
    | some l => [((l.filter fun j => before.getD j false).length % 2 == 1)]
    | none => [false, true]

/-- The surviving paths of a list decode, the most probable first. -/
def polarPaths (k e n list : Nat) (y : List Rat) : List PolarPath :=
  (List.range n).foldl (fun paths i =>
    (((paths.flatMap fun p =>
      let llr := polarLlr (Nat.log2 n) y p.bits
      (polarBits k e n i p.bits).map fun b => p.extend llr b).foldl (fun l p => insertPath p l) []).take list)) [⟨[], 0⟩]

/-- The information bits of a path. -/
def infoBits (k e n : Nat) (bits : List Bool) : List Bool :=
  ((List.range n).filter fun i => !Config.polarFrozen k e n i && (Config.polarParity k e n i).isNone).map fun i => bits.getD i false

/-- The LLRs of the code bits of a polar segment: received ones combine, punctured bits enter as 0 and shortened ones as +127. -/
def polarChannel (k e n : Nat) (llr : List Int) : List Rat :=
  let blank := (List.range n).map fun i => if Config.polarShortened k e n i then (127 : Int) else 0
  ((List.range e).foldl (fun (l : List Int) t =>
    let p := Config.polarPlace k e n t
    l.set p (addLlr (l.getD p 0) (llr.getD t 0))) blank).map fun (x : Int) => (x : Rat)

/-- A list decode of one segment: the most probable path that passes the CRC, or the best one; its bits, its rank, its metric and whether it
passes. -/
def polarDecode (k e crc list : Nat) (llr : List Int) : List Bool × Nat × Rat × Bool :=
  let n := polarN k e 10
  let paths := (polarPaths k e n list (polarChannel k e n llr)).mapIdx fun i p => (i, infoBits k e n p.bits, p.metric)
  match paths.find? fun p => crcGood crc p.2.1 with
  | some p => (p.2.1, p.1, p.2.2, true)
  | none => match paths.head? with
    | some p => (p.2.1, 0, p.2.2, crcGood crc p.2.1)
    | none => ([], 0, 0, false)

/-! ## An attempt -/

/-- The state of a decoder at the start of an attempt, from priors. -/
def Decode.beginWith (d : Decode) (kind e : Nat) (prior : List Int) : Decode :=
  let rows := d.code.rows e (!d.base.isEmpty)
  let post := prior.map fun (x : Int) => (x : Rat)
  { d with prior := prior, post := if isTurbo kind then post.take d.code.z else post
           msgs := if isTurbo kind then [List.replicate d.code.z 0] else List.replicate (rows * d.code.z) []
           run := 0, best := none, stall := 0 }

/-- The LLRs that enter the decoder of a job. -/
def Decode.channel (d : Decode) (kind e : Nat) : List Int :=
  d.code.channel kind (d.code.rows e (!d.base.isEmpty)) e d.llr d.base

/-- A fresh attempt. -/
def Decode.begin (d : Decode) (kind e : Nat) : Decode :=
  if isPolar kind then { d with run := 0 } else d.beginWith kind e (d.channel kind e)

/-- The extrinsic of a mother-code place: what the decoder has added to its prior, and of a parity or tail bit of a turbo code a free value (log
entry 49). -/
def Decode.extrinsicAt (d : Decode) (kind place : Nat) : Int :=
  satLlr (if isTurbo kind then
      (if place < d.code.z then roundFree 22 ((d.msgs.headD []).getD place 0)
       else Config.parityExtrinsic d.code.z place d.prior (d.msgs.headD []))
    else roundFree 22 (d.post.getD place 0 - ((d.prior.getD place 0 : Int) : Rat)))

/-- The places whose extrinsics a suspended attempt keeps (07 R244): the 3K + 12 of a turbo code, and of an LDPC code those of its R + Kb columns,
the columns between Kb and the parity bits being filler. -/
def Decode.scratchPlaces (d : Decode) (kind e : Nat) : List Nat :=
  let c := d.code
  let rows := c.rows e (!d.base.isEmpty)
  if isTurbo kind then List.range (3 * (c.z + 4))
  else (List.range (c.length kind rows)).filter fun p => decide (p < c.kb * c.z) || decide (sysColumns c.bg * c.z ≤ p)

/-- The bytes of a suspended attempt for its scratch pallet (07 R244). -/
def Decode.scratch (d : Decode) (kind e : Nat) : Bytes := (d.scratchPlaces kind e).map fun p => llrByte (d.extrinsicAt kind p)

/-- The extrinsics by mother-code place that bytes of a scratch pallet hold. -/
def Decode.fromScratch (d : Decode) (kind e : Nat) (b : Bytes) : Store Int := ((d.scratchPlaces kind e).zip b).map fun x => (x.1, llrOf x.2)

/-- A warm restart: priors of 07 R244, from what the scratch pallet holds. -/
def Decode.restart (d : Decode) (kind e : Nat) (scratch : Bytes) : Decode :=
  let beta : Rat := (d.set.beta : Rat) / 32768
  let ext := d.fromScratch kind e scratch
  d.beginWith kind e ((d.channel kind e).mapIdx fun i x => satLlr (x + roundFree 23 (beta * ((Store.at 0 ext i : Int) : Rat))))

/-- New positions fold into the posteriors at an iteration boundary (07 R243): each takes the change of its prior. -/
def Decode.fold (d : Decode) (kind e : Nat) (llr : List Int) : Decode :=
  let old := d.channel kind e
  let d := { d with llr := llr }
  let new := d.channel kind e
  let step := fun (i : Nat) => new.getD i 0 - old.getD i 0
  { d with prior := d.prior.mapIdx fun i x => x + step i, post := d.post.mapIdx fun i q => q + ((step i : Int) : Rat) }

/-- The payload bits with their CRC of the hard decisions. -/
def Decode.hard (d : Decode) (kind : Nat) : List Bool :=
  let bits := d.post.mapIdx fun i q => hardBit i q
  if isTurbo kind then bits.drop d.code.fill else bits.take d.code.kp

/-- The hard decisions of an LDPC code word, and its unsatisfied checks. -/
def Decode.unsatNow (d : Decode) (kind e : Nat) : Nat :=
  if isTurbo kind || isPolar kind then 0
  else d.code.unsatisfied (d.code.rows e (!d.base.isEmpty)) (d.post.mapIdx fun i q => hardBit i q)

/-- The decode of a polar job, in one pass. -/
def Decode.polar (d : Decode) (e : Nat) : Decode :=
  let crc := (crcKind d.code.crc).1
  let c := polarSegments d.code.kp e
  let k := ceilDiv d.code.kp c
  let es := e / c
  let runs := (List.range c).map fun i => polarDecode (k + crc) es d.code.crc d.set.list ((d.llr.drop (i * es)).take es)
  { d with bits := runs.flatMap (fun r => r.1.take k) |>.drop (c * k - d.code.kp)
           rank := (runs.map (·.2.1)).foldl max 0
           metric := max (-32768) (min 32767 (roundFree 24 ((runs.map (·.2.2.1)).foldl (· + ·) 0)))
           pass := runs.all (·.2.2.2) }

/-- One iteration, of a turbo code one half-iteration, and what is found at its boundary: hard decisions, unsatisfied checks, the iterations
since these were last reduced, and whether the block's own checks pass (07 R240). -/
def Decode.iterate (d : Decode) (kind e : Nat) : Decode :=
  if isPolar kind then { d.polar e with run := d.run + 1 }
  else
    let out := if isTurbo kind then
        let r := turboHalf d.code.z (d.run % 2 == 1) ((d.set.extScale : Rat) / 32768) d.prior (d.msgs.headD [])
        (r.1, [r.2])
      else d.code.ldpcIterate ((d.set.alpha : Rat) / 32768) (d.code.rows e (!d.base.isEmpty)) d.post d.msgs
    let d := { d with post := out.1, msgs := out.2, run := d.run + 1 }
    let unsat := d.unsatNow kind e
    let better := match d.best with
      | some b => decide (unsat < b)
      | none => true
    let bits := d.hard kind
    { d with bits := bits, unsat := unsat, best := if better then some unsat else d.best, stall := if better then 0 else d.stall + 1
             pass := unsat == 0 && crcGood d.code.crc bits }

/-- The combined LLRs that a failed final attempt writes to the new version (07 R250, R251). -/
def Decode.stored (d : Decode) (kind e : Nat) : List Int := (d.code.combined kind e d.llr d.base).take d.code.keptBits

/-- The payload bits that a job writes: those before the block's CRC. -/
def Decode.payload (d : Decode) (kind : Nat) : List Bool :=
  if isPolar kind then d.bits else d.bits.take (d.bits.length - (crcKind d.code.crc).1)

/-- The contribution of a block to the transport block's CRC24A, at its place (07 R248): `tail` bits of the transport block follow its
payload, its own CRC included; the CRC itself, which the last block carries, is no data. -/
def Decode.contribution (d : Decode) (kind : Nat) : Nat :=
  let p := d.payload kind
  if d.code.tail = 0 then crcOf 2 (p.take (p.length - 24)) else crcOf 2 (p ++ List.replicate (d.code.tail - 24) false)

/-- The transport block's CRC, where the block carries it. -/
def Decode.tbCrc (d : Decode) (kind : Nat) : Option Nat :=
  if d.code.tail = 0 then some (bitsNat ((d.payload kind).drop ((d.payload kind).length - 24))) else none

end Sys2Proof.Machine
end

