-- ==== Sys2Proof/Machine/Trig.lean ====
section
/-! DEFINITION. The functions of analysis that the spec's formulas name: cosine and sine of a part of a turn, the angle of a complex number,
square roots and powers of ten, each taken to within 2⁻⁷⁰ in fixed point (08 R277, R278, R286; 10 R333, R348; log entry 50). -/

namespace Sys2Proof.Machine

/-- One, in fixed point. -/
def fixOne : Int := (2 ^ 80 : Nat)

/-- 2π in fixed point. -/
def fixTurn : Int := 7595904947272677161575987

/-- ln 10 in fixed point. -/
def fixTen : Int := 2783654570780253816072539

/-- A rational number in fixed point, rounded down. -/
def toFix (q : Rat) : Int := (q * (fixOne : Rat)).floor

/-- The rational number of a number in fixed point. -/
def ofFix (x : Int) : Rat := (x : Rat) / (fixOne : Rat)

/-- `n` terms, each the one before it times −x² / ((i + 1)(i + 2)): the series of the cosine from term 1 at i = 0, and that of the sine from term
x at i = 1. -/
def trigSeries (sq : Int) : Nat → Int → Int → Int
  | 0, _, _ => 0
  | n + 1, i, t => t + trigSeries sq n (i + 2) (-(t * sq / fixOne) / ((i + 1) * (i + 2)))

/-- Cosine and sine of up to an eighth of a turn. -/
def cosSinEighth (t : Rat) : Rat × Rat :=
  let x := (t * (fixTurn : Rat)).floor
  let sq := x * x / fixOne
  (ofFix (trigSeries sq 16 0 fixOne), ofFix (trigSeries sq 16 1 x))

/-- Cosine and sine of a part of a turn. -/
def cosSin (t : Rat) : Rat × Rat :=
  let f := t - (t.floor : Rat)
  let quarter := (4 * f).floor
  let r := f - (quarter : Rat) / 4
  let x := if r ≤ 1 / 8 then cosSinEighth r else (cosSinEighth (1 / 4 - r)).swap
  if quarter = 0 then x else if quarter = 1 then (-x.2, x.1) else if quarter = 2 then (-x.1, -x.2) else (x.2, -x.1)

/-- The angle in turns of x + j y with 0 ≤ y ≤ x, by bisection of an eighth of a turn. -/
def turnEighth (x y : Rat) : Nat → Rat → Rat → Rat
  | 0, lo, _ => lo
  | n + 1, lo, hi =>
    let mid := (lo + hi) / 2
    let c := cosSinEighth mid
    if c.2 * x ≤ c.1 * y then turnEighth x y n mid hi else turnEighth x y n lo mid

/-- The angle in turns of a complex number other than 0, from −1/2 to 1/2. -/
def angleOf (re im : Rat) : Rat :=
  let x := re.abs
  let y := im.abs
  let first := if x = y then 1 / 8 else if y < x then turnEighth x y 68 0 (1 / 8) else 1 / 4 - turnEighth y x 68 0 (1 / 8)
  let upper := if re < 0 then 1 / 2 - first else first
  if im < 0 then -upper else upper

/-- The largest number whose square is not above `n`, its bits from the highest. -/
def rootNat (n : Nat) : Nat :=
  (List.range (Nat.log2 n / 2 + 1)).reverse.foldl (fun r b => if (r + 2 ^ b) * (r + 2 ^ b) ≤ n then r + 2 ^ b else r) 0

/-- The square root of a rational number that is not negative. -/
def rootOf (q : Rat) : Rat := ofFix (rootNat (q * (fixOne : Rat) * (fixOne : Rat)).floor.toNat)

/-- `n` terms of the exponential series, each the one before it times x / i. -/
def expSeries (x : Int) : Nat → Int → Int → Int
  | 0, _, _ => 0
  | n + 1, i, t => t + expSeries x n (i + 1) (t * x / fixOne / i)

/-- 10 to a rational power. -/
def tenTo (e : Rat) : Rat :=
  let f := e - (e.floor : Rat)
  ofFix (expSeries ((f * (fixTen : Rat)).floor) 48 1 fixOne) * (if 0 ≤ e.floor then (10 : Rat) ^ e.floor.toNat else 1 / (10 : Rat) ^ (-e.floor).toNat)

end Sys2Proof.Machine
end

