-- ==== Sys2Proof/Machine/Signals.lean ====
section
/-! DEFINITION. The arithmetic of the layer engines (08 R268 to R286): complex numbers, rounding and decibels, channel estimates and their
covariance, MMSE filters, precoding, preambles and sounding. The engines' inner formats are not observable (08 Table 8-1), so that every
number is exact here up to its output; sequences and filters that the spec only names are Config's (log entry 50). -/

namespace Sys2Proof.Machine

/-! ## Complex numbers -/

/-- A complex number. -/
structure Cx where
  re : Rat
  im : Rat
  deriving DecidableEq, Repr

/-- Zero and one. -/
def Cx.zero : Cx := ⟨0, 0⟩
/-- One. -/
def Cx.one : Cx := ⟨1, 0⟩
/-- The sum. -/
def Cx.add (a b : Cx) : Cx := ⟨a.re + b.re, a.im + b.im⟩
/-- The difference. -/
def Cx.sub (a b : Cx) : Cx := ⟨a.re - b.re, a.im - b.im⟩
/-- The product. -/
def Cx.mul (a b : Cx) : Cx := ⟨a.re * b.re - a.im * b.im, a.re * b.im + a.im * b.re⟩
/-- The conjugate. -/
def Cx.conj (a : Cx) : Cx := ⟨a.re, -a.im⟩
/-- The squared magnitude. -/
def Cx.sq (a : Cx) : Rat := a.re * a.re + a.im * a.im
/-- The multiple by a real number. -/
def Cx.scale (k : Rat) (a : Cx) : Cx := ⟨k * a.re, k * a.im⟩
/-- The quotient; of a division by 0 the engines make none. -/
def Cx.div (a b : Cx) : Cx := (a.mul b.conj).scale (1 / b.sq)
/-- The sum of a list. -/
def Cx.sum (l : List Cx) : Cx := l.foldl Cx.add .zero
/-- The inner product of two lists, the first conjugated. -/
def Cx.dot (a b : List Cx) : Cx := Cx.sum ((a.zip b).map fun p => p.1.conj.mul p.2)
/-- The complex number of a sample. -/
def Cx.of (s : Int × Int) : Cx := ⟨(s.1 : Rat), (s.2 : Rat)⟩

/-- The mean of a list, 0 of an empty one. -/
def meanOf (l : List Rat) : Rat := if l.isEmpty then 0 else l.sum / (l.length : Rat)

/-! ## Samples and rounding (00 R9; 08 R268, R269) -/

/-- The nearest integer, halves to even. -/
def roundEven (q : Rat) : Int :=
  let d := 2 * (q - (q.floor : Rat))
  if d < 1 then q.floor else if 1 < d then q.floor + 1 else if q.floor % 2 = 0 then q.floor else q.floor + 1

/-- A 16-bit component: rounded and saturated, and whether it saturated. -/
def component (q : Rat) : Int × Bool :=
  let v := roundEven q
  if 32767 < v then (32767, true) else if v < -32768 then (-32768, true) else (v, false)

/-- A cint16 output and how many of its components saturated. -/
def sampleOf (z : Cx) : (Int × Int) × Nat :=
  let i := component z.re
  let q := component z.im
  ((i.1, q.1), (if i.2 then 1 else 0) + (if q.2 then 1 else 0))

/-- The bytes of a cint16 sample: I in the low half (00 R9). -/
def sampleBytes (s : Int × Int) : Bytes := leBytes 2 (codeOf 16 s.1) ++ leBytes 2 (codeOf 16 s.2)

/-- The samples that bytes spell. -/
def samplesOf (b : Bytes) : List (Int × Int) :=
  (List.range (b.length / 4)).map fun i => (signedOf 16 (bytesAt b (4 * i) 2), signedOf 16 (bytesAt b (4 * i + 2) 2))

/-! ## Decibels -/

/-- Whether 10^e ≤ x. -/
def tenLe (e : Int) (x : Rat) : Bool := if 0 ≤ e then decide ((10 : Rat) ^ e.toNat ≤ x) else decide (1 ≤ x * (10 : Rat) ^ (-e).toNat)

/-- 10 log10 of a power ratio in `unit` steps to the decibel, to the nearest step, held between two limits: the largest v with 10^(2v − 1) ≤
q^(20 × unit). -/
def decibels (unit : Nat) (lo hi : Int) (q : Rat) : Int :=
  (List.range (hi - lo).toNat).foldl (fun (v : Int) (i : Nat) =>
    if tenLe (2 * (lo + 1 + (i : Int)) - 1) (q ^ (20 * unit)) then lo + 1 + (i : Int) else v) lo

/-- Whether a power exceeds another by `tenths` tenths of a decibel (08 R283). -/
def exceeds (p q : Rat) (tenths : Nat) : Bool := decide (q ^ 100 * (10 : Rat) ^ tenths < p ^ 100)

/-! ## Matrices -/

/-- A matrix as the list of its rows. -/
abbrev Matrix' := List (List Cx)

/-- An entry. -/
def entryAt (m : Matrix') (i j : Nat) : Cx := (m.getD i []).getD j .zero

/-- The identity. -/
def identityOf (n : Nat) : Matrix' := (List.range n).map fun i => (List.range n).map fun j => if i = j then .one else .zero

/-- One column of Gauss-Jordan elimination on a matrix and its companion; none where the column has no pivot. -/
def eliminate (n : Nat) (st : Option (Matrix' × Matrix')) (c : Nat) : Option (Matrix' × Matrix') :=
  match st with
  | none => none
  | some (a, b) =>
    match ((List.range n).drop c).find? fun r => decide (entryAt a r c ≠ .zero) with
    | none => none
    | some p =>
      let swap := fun (m : Matrix') => (m.set c (m.getD p [])).set p (m.getD c [])
      let a := swap a
      let b := swap b
      let d := Cx.one.div (entryAt a c c)
      let ra := (a.getD c []).map (Cx.mul d)
      let rb := (b.getD c []).map (Cx.mul d)
      let clear := fun (m : Matrix') (row : List Cx) => m.mapIdx fun r l =>
        if r = c then row else (l.zip row).map fun x => x.1.sub ((entryAt a r c).mul x.2)
      some (clear a ra, clear b rb)

/-- The inverse, where there is one. -/
def inverseOf (n : Nat) (m : Matrix') : Option Matrix' := ((List.range n).foldl (eliminate n) (some (m, identityOf n))).map (·.2)

/-! ## Channel estimates (08 R274, R275) -/

/-- The received elements of an operation, by symbol, port and subcarrier. -/
abbrev Received := Nat → Nat → Nat → Cx

/-- What a channel estimate is made for: the record's bytes, its receive ports, its DMRS ports in layer order, its DMRS symbols and its
subcarriers, ascending. -/
structure ChestSite where
  bytes : Bytes
  nr    : Nat
  ports : List Nat
  dmrs  : List Nat
  carriers : List Nat
  deriving DecidableEq, Repr

/-- The reference symbol of a DMRS port on an element of a DMRS symbol, where it has one; its power is that of a unit symbol. -/
def ChestSite.ref (g : ChestSite) (l p k : Nat) : Option Cx := (Config.dmrs g.bytes l p k).map fun s => (Cx.of s).scale (1 / 4096)

/-- The subcarriers of a DMRS symbol that carry a port's reference. -/
def ChestSite.comb (g : ChestSite) (l p : Nat) : List Nat := g.carriers.filter fun k => (g.ref l p k).isSome

/-- The least-squares estimate of a receive port and DMRS port on an element. -/
def ChestSite.ls (g : ChestSite) (y : Received) (q p l k : Nat) : Cx := (y l q k).div ((g.ref l p k).getD .one)

/-- The estimate on any element of a DMRS symbol: an 8-tap filter over the port's elements. -/
def ChestSite.across (g : ChestSite) (y : Received) (q p l k : Nat) : Cx :=
  let comb := g.comb l p
  let below := (comb.filter (· < k)).length
  let from' := min (below - 4) (comb.length - 8)
  Cx.sum (((comb.drop from').take 8).mapIdx fun i k' => (g.ls y q p l k').scale (Config.chestTap g.bytes p k i))

/-- The estimate on any element of any symbol: from those of the DMRS symbols. -/
def ChestSite.estimate (g : ChestSite) (y : Received) (q p l k : Nat) : Cx :=
  Cx.sum (g.dmrs.map fun d => (g.across y q p d k).scale (Config.chestTime g.bytes l d))

/-- The residual of a receive port on an element of a DMRS symbol: what the estimates do not explain. -/
def ChestSite.residual (g : ChestSite) (y : Received) (q l k : Nat) : Cx :=
  (y l q k).sub (Cx.sum (g.ports.map fun p => match g.ref l p k with
    | some r => (g.estimate y q p l k).mul r
    | none => .zero))

/-- The elements of the DMRS symbols among some subcarriers. -/
def ChestSite.pilots (g : ChestSite) (ks : List Nat) : List (Nat × Nat) :=
  g.dmrs.flatMap fun l => (ks.filter fun k => g.ports.any fun p => (g.ref l p k).isSome).map fun k => (l, k)

/-- The interference-plus-noise covariance of a group of subcarriers; DET_MODE 0 uses its diagonal alone. -/
def ChestSite.covariance (g : ChestSite) (y : Received) (full : Bool) (ks : List Nat) : Matrix' :=
  let e := (g.pilots ks).map fun x => (List.range g.nr).map fun q => g.residual y q x.1 x.2
  (List.range g.nr).map fun i => (List.range g.nr).map fun j =>
    if !full && i != j then .zero
    else (Cx.sum (e.map fun v => (v.getD i .zero).mul (v.getD j .zero).conj)).scale (if e.isEmpty then 0 else 1 / (e.length : Rat))

/-- The channel of a group of subcarriers in a symbol: the mean of its estimates, by receive port and layer (log entry 50). -/
def ChestSite.matrix (g : ChestSite) (y : Received) (l : Nat) (ks : List Nat) : Matrix' :=
  (List.range g.nr).map fun q => g.ports.map fun p =>
    (Cx.sum (ks.map fun k => g.estimate y q p l k)).scale (if ks.isEmpty then 0 else 1 / (ks.length : Rat))

/-- The MMSE filter of a group, a row to the layer: H^H (H H^H + R)⁻¹. Where that matrix has no inverse the spec gives no filter, and its
weights are free (log entry 50). -/
def mmseFilter (nr : Nat) (layers : Nat) (h r : Matrix') : Matrix' :=
  let a := (List.range nr).map fun i => (List.range nr).map fun j =>
    (Cx.sum ((List.range layers).map fun l => (entryAt h i l).mul (entryAt h j l).conj)).add (entryAt r i j)
  match inverseOf nr a with
  | some inv => (List.range layers).map fun l => (List.range nr).map fun j =>
      Cx.sum ((List.range nr).map fun i => (entryAt h i l).conj.mul (entryAt inv i j))
  | none => (List.range layers).map fun l => (List.range nr).map fun j => ⟨Config.freeTap l j, Config.freeTap j l⟩

/-- The post-detection SINR of a layer, linear: g / (1 − g) of its gain g; `none` where that is without bound. -/
def sinrOf (nr : Nat) (h w : Matrix') (l : Nat) : Option Rat :=
  let g := (Cx.sum ((List.range nr).map fun q => (entryAt w l q).mul (entryAt h q l))).re
  if g < 1 then some (max 0 (g / (1 - g))) else none

/-- A linear SINR in steps of a field. -/
def sinrField (unit : Nat) (lo hi : Int) (x : Option Rat) : Int :=
  match x with
  | some q => decibels unit lo hi q
  | none => hi

/-! ## Measures (08 R277 to R279, Table 8-3) -/

/-- The angle of a complex number in turns; 0 has none, and the value there is free (log entry 50). -/
def turnOf (z : Cx) : Rat := if z.re = 0 ∧ z.im = 0 then Config.noAngle else angleOf z.re z.im

/-- The phase slope of a port's elements across one DMRS symbol: the products of neighbours, and their distance. -/
def ChestSite.slope (g : ChestSite) (y : Received) (l p : Nat) : Cx × Nat :=
  let comb := g.comb l p
  let d := comb.getD 1 0 - comb.getD 0 0
  (Cx.sum ((List.range g.nr).flatMap fun q => ((comb.zip (comb.drop 1)).filter fun x => x.2 - x.1 == d).map fun x =>
    (g.ls y q p l x.1).conj.mul (g.ls y q p l x.2)), max 1 d)

/-- The timing advance in Tc: positive when late, within ±1 / (4 × Δf), as its field holds it. -/
def ChestSite.advance (g : ChestSite) (y : Received) (mu : Nat) : Int :=
  let all := g.dmrs.flatMap fun l => g.ports.map fun p => g.slope y l p
  let d := (all.headD (.zero, 1)).2
  let turns := turnOf (Cx.sum (all.map (·.1)))
  let top : Int := (32768 / 2 ^ mu : Nat)
  clampInt (max (-32768) (-top)) (min 32767 top) (roundEven (-turns * 131072 / ((2 ^ mu * d : Nat) : Rat)))

/-- The frequency offset in 10 Hz, from the phase change between the first and last DMRS symbols, their spacing in Tc; 0x8000 with a single
one. -/
def ChestSite.offset (g : ChestSite) (y : Received) (spacing : Nat) : Int :=
  match g.dmrs with
  | [] | [_] => -32768
  | a :: t =>
    let b := t.getLastD a
    let turns := turnOf (Cx.sum ((List.range g.nr).flatMap fun q => g.ports.flatMap fun p =>
      ((g.comb a p).filter fun k => (g.ref b p k).isSome).map fun k => (g.ls y q p a k).conj.mul (g.ls y q p b k)))
    let limit := (98304000 : Rat) / (max 1 spacing : Nat)
    clampInt (max (-32767) (roundEven (-limit))) (min 32767 (roundEven limit)) (roundEven (2 * turns * limit))

/-- The square of the spacing unit of a modulation order's constellation, in squares of an LSB of Q3.12 (unit power is 2²⁴). -/
def spacingSq (qm : Nat) : Rat := (2 ^ 24 : Nat) / ((match qm with | 1 | 2 => 2 | 4 => 10 | 6 => 42 | 8 => 170 | _ => 682 : Nat) : Rat)

/-- The levels of a component: odd numbers up to this in magnitude. -/
def topLevel (qm : Nat) : Nat := 2 ^ (qm / 2) - 1

/-- The level nearest to a component: an odd number. -/
def nearLevel (qm : Nat) (x : Rat) : Int :=
  let k := ((List.range (2 ^ (qm / 2 - 1))).filter fun (m : Nat) => m != 0 && decide (spacingSq qm * ((4 * m * m : Nat) : Rat) < x * x)).length
  let v : Int := min (2 * k + 1) (topLevel (max 2 qm))
  if x < 0 then -v else v

/-- The sums of the error vector of a symbol: its squared magnitude, its product with the nearest point in spacing units, and that point's
squared magnitude in those. The points of π/2-BPSK turn by 90° from one symbol, the `n`-th, to the next. -/
def errorSums (qm n : Nat) (z : Cx) : Rat × Rat × Rat :=
  if qm == 1 then (z.sq, (if n % 2 = 0 then z.re + z.im else z.im - z.re).abs, 2)
  else
  let i := nearLevel qm z.re
  let q := nearLevel qm z.im
  (z.sq, z.re * (i : Rat) + z.im * (q : Rat), ((i * i + q * q : Int) : Rat))

/-- Whether the error vector magnitude is at least `x` / 2000, and whether it is exactly that: x² b a² ≤ 4 × 10⁶ (A − 2 a S + a² b), with a² the
square of the spacing unit. -/
def evmAgainst (qm : Nat) (sums : Rat × Rat × Rat) (x : Nat) : Bool × Bool :=
  let a2 := spacingSq qm
  let left := 4000000 * (sums.1 + a2 * sums.2.2) - (x * x : Nat) * a2 * sums.2.2
  let right := 8000000 * sums.2.1
  (decide (0 ≤ left) && (decide (right ≤ 0) || decide (right * right * a2 ≤ left * left)),
    decide (0 ≤ left) && decide (0 ≤ right) && decide (right * right * a2 = left * left))

/-- The error vector magnitude in 0.1 %, halves to even (08 R269), up to 100 %. -/
def evmField (qm : Nat) (sums : Rat × Rat × Rat) : Nat :=
  (List.range 1000).foldl (fun v i =>
    let x := evmAgainst qm sums (2 * (i + 1) - 1)
    if x.1 && !(x.2 && i % 2 == 0) then i + 1 else v) 0

/-- e^(j 2π t). -/
def Cx.turned (t : Rat) : Cx := ⟨(cosSin t).1, (cosSin t).2⟩

/-- An entry e^(j 2π m / n) / √n of the normalised matrix of an inverse DFT of `n` points, by the product of its indices. -/
def dftTerm (n m : Nat) : Cx := (Cx.turned (((m % max 1 n : Nat) : Rat) / ((max 1 n : Nat) : Rat))).scale (1 / rootOf ((max 1 n : Nat) : Rat))

/-- The inverse DFT of DFT-s-OFDM symbols (08 R277). -/
def inverseDft (l : List Cx) : List Cx :=
  (List.range l.length).map fun n => Cx.sum (l.mapIdx fun k z => z.mul (dftTerm l.length (k * n)))

/-! ## Precoding (08 R280, R281) -/

/-- Whether the amplitude 10^(e / 80) × a / 2¹¹ is at least `x` / 2. -/
def amplitudeAtLeast (e : Int) (a x : Nat) : Bool :=
  if 0 ≤ e then decide ((x * 2 ^ 10) ^ 80 ≤ 10 ^ e.toNat * a ^ 80) else decide ((x * 2 ^ 10) ^ 80 * 10 ^ (-e).toNat ≤ a ^ 80)

/-- Whether it is exactly `x` / 2. -/
def amplitudeIs (e : Int) (a x : Nat) : Bool :=
  if 0 ≤ e then decide ((x * 2 ^ 10) ^ 80 = 10 ^ e.toNat * a ^ 80) else decide ((x * 2 ^ 10) ^ 80 * 10 ^ (-e).toNat = a ^ 80)

/-- A component of a precoded sample (08 R269, R281): 2¹⁵ × 10^(e / 80) × a / 2²⁶ rounded half to even and saturated, with e in quarters of a
decibel, and whether it saturated. -/
def precComponent (e : Int) (a : Int) : Int × Bool :=
  let m := a.natAbs
  let v := (List.range 32769).foldl (fun v i =>
    if amplitudeAtLeast e m (2 * i + 1) && !(amplitudeIs e m (2 * i + 1) && i % 2 == 0) then i + 1 else v) 0
  let top := if a < 0 then 32768 else 32767
  let r := min v top
  ((if a < 0 then -(r : Int) else r), decide (top < v))

/-- The port sample of a resource element: the weights are Q1.14 and the symbols Q3.12. -/
def precSample (e : Int) (w x : List (Int × Int)) : (Int × Int) × Nat :=
  let s := (w.zip x).foldl (fun (a : Int × Int) p =>
    (a.1 + p.1.1 * p.2.1 - p.1.2 * p.2.2, a.2 + p.1.1 * p.2.2 + p.1.2 * p.2.1)) (0, 0)
  let i := precComponent e s.1
  let q := precComponent e s.2
  ((i.1, q.1), (if i.2 then 1 else 0) + (if q.2 then 1 else 0))

/-! ## Preambles (08 R282, R283) -/

/-- The power of a correlation bin of a root: over receive ports and repetitions, non-coherently. -/
def corrPower (bytes : Bytes) (nr bins reps len : Nat) (y : Received) (root bin : Nat) : Rat :=
  ((List.range reps).flatMap fun r => (List.range nr).map fun q =>
    (Cx.sum ((List.range len).map fun k =>
      ((y r q k).mul (Cx.conj ⟨(Config.prachSeq bytes root k).1, (Config.prachSeq bytes root k).2⟩)).mul
        (dftTerm bins (k * bin)))).sq).sum

/-- The zone of a preamble: its root, its first bin and its width. -/
def zoneOf (bytes : Bytes) (i : Nat) : Nat × Nat × Nat := Config.prachZone bytes i

/-- The noise floor: the mean of the bins outside every zone in use. -/
def noiseFloor (bytes : Bytes) (bins roots preambles : Nat) (power : Nat → Nat → Rat) : Rat :=
  let zones := (List.range preambles).map (zoneOf bytes)
  meanOf ((List.range roots).flatMap fun r => ((List.range bins).filter fun b =>
    !(zones.any fun z => z.1 == r && decide (z.2.1 ≤ b) && decide (b < z.2.1 + z.2.2))).map (power r))

/-- The peak of a preamble's zone: its place in the zone and its power. -/
def zonePeak (bytes : Bytes) (power : Nat → Nat → Rat) (i : Nat) : Nat × Rat :=
  let z := zoneOf bytes i
  (List.range z.2.2).foldl (fun best b => let p := power z.1 (z.2.1 + b); if best.2 < p then (b, p) else best) (0, 0)

/-- A detection put into its place by power, after those of equal power. -/
def insertPeak (p : Rat × Preamble) : List (Rat × Preamble) → List (Rat × Preamble)
  | [] => [p]
  | x :: t => if x.1 < p.1 then p :: x :: t else x :: insertPeak p t

/-- The preambles detected, in descending power: those whose peak exceeds the floor by the threshold, with the peak's place, interpolated, in
Tc. -/
def preamblesFound (bytes : Bytes) (preambles threshold : Nat) (floor : Rat) (power : Nat → Nat → Rat) : List Preamble :=
  (((List.range preambles).filterMap fun i =>
    let k := zonePeak bytes power i
    if exceeds k.2 floor threshold then
      let z := zoneOf bytes i
      let at' := fun (d : Int) => power z.1 ((z.2.1 : Int) + k.1 + d).toNat
      let place := (k.1 : Rat) + Config.peakShift (at' (-1)) (at' 0) (at' 1)
      some (k.2, (⟨i, roundFree 27 (place * Config.prachBinTc bytes),
        (if floor = 0 then 65535 else (decibels 10 0 65535 (k.2 / floor)).toNat)⟩ : Preamble))
    else none).foldl (fun l p => insertPeak p l) []).map (·.2)

/-! ## NPRACH (08 R282) -/

/-- The tone of a symbol group of an NPRACH preamble, over receive ports and groups combined; the phase across hops gives its timing. -/
def nprachTone (bytes : Bytes) (y : Received) (q i g : Nat) : Cx := y g q (Config.nprachTone bytes i g)

/-- The power of an NPRACH preamble over its symbol groups. -/
def nprachPower (bytes : Bytes) (nr groups : Nat) (y : Received) (i : Nat) : Rat :=
  ((List.range nr).map fun q => (Cx.sum ((List.range groups).map fun g => nprachTone bytes y q i g)).sq).sum

/-- Its timing advance in Tc: the phase between neighbouring groups for each subcarrier of their hop. -/
def nprachAdvance (bytes : Bytes) (nr groups : Nat) (y : Received) (i : Nat) : Int :=
  let hops := (List.range (groups - 1)).map fun g =>
    let d : Int := (Config.nprachTone bytes i (g + 1) : Int) - Config.nprachTone bytes i g
    let z := Cx.sum ((List.range nr).map fun q => (nprachTone bytes y q i g).conj.mul (nprachTone bytes y q i (g + 1)))
    if d = 0 then (0 : Rat) else -turnOf z / (d : Rat)
  roundFree 27 (meanOf hops * Config.prachBinTc bytes)

/-! ## Sounding (08 R285, R286) -/

/-- The subcarriers of an SRS port's comb in a symbol. -/
def srsComb (bytes : Bytes) (l p : Nat) (ks : List Nat) : List Nat := ks.filter fun k => (Config.srsRef bytes l p k).isSome

/-- The channel estimate of an SRS port and receive port on an element. -/
def srsLs (bytes : Bytes) (y : Received) (q p l k : Nat) : Cx :=
  (y l q k).div (((Config.srsRef bytes l p k).map fun s => (Cx.of s).scale (1 / 4096)).getD .one)

/-- The estimates of a port on some subcarriers, and after a 4-tap smoothing. -/
def srsPairs (bytes : Bytes) (y : Received) (q p l : Nat) (ks : List Nat) : List (Cx × Cx) :=
  let comb := srsComb bytes l p ks
  comb.mapIdx fun i k =>
    let win := (comb.drop (i - 1)).take 4
    (srsLs bytes y q p l k, Cx.sum (win.mapIdx fun j k' => (srsLs bytes y q p l k').scale (Config.srsTap i j)))

/-- The linear SINR of a port on a subband: received power divided by the residual of the smoothing; none where there is no residual. -/
def srsSinr (bytes : Bytes) (nr : Nat) (symbols : List Nat) (y : Received) (p : Nat) (ks : List Nat) : Option Rat :=
  let pairs := symbols.flatMap fun l => (List.range nr).flatMap fun q => srsPairs bytes y q p l ks
  let s := (pairs.map fun x => x.1.sq).sum
  let r := (pairs.map fun x => (x.1.sub x.2).sq).sum
  if r = 0 then none else some (s / r)

/-- The mean of the linear values, none where one is without bound. -/
def meanSinr (l : List (Option Rat)) : Option Rat :=
  if l.any Option.isNone then none else some (meanOf (l.map fun x => x.getD 0))

/-- The covariance of the channel of SRS ports over some subcarriers, by receive port. -/
def srsCovariance (bytes : Bytes) (nr ports : Nat) (symbols : List Nat) (y : Received) (ks : List Nat) : Matrix' :=
  (List.range nr).map fun a => (List.range nr).map fun b =>
    Cx.sum (symbols.flatMap fun l => (List.range ports).flatMap fun p => (srsComb bytes l p ks).map fun k =>
      (srsLs bytes y a p l k).mul (srsLs bytes y b p l k).conj)

/-- A matrix with every number scaled, and taken in fixed point. -/
def scaleMatrix (k : Rat) (m : Matrix') : Matrix' := m.map fun l => l.map fun z => ⟨ofFix (toFix (k * z.re)), ofFix (toFix (k * z.im))⟩

/-- The sum of the diagonal. -/
def traceOf (m : Matrix') : Rat := ((List.range m.length).map fun i => (entryAt m i i).re).sum

/-- A matrix of trace 1 squared `n` times, to trace 1 each time: of a covariance, the projection on the space of its largest eigenvalue. -/
def projectOn : Nat → Matrix' → Matrix'
  | 0, m => m
  | n + 1, m =>
    let k := m.length
    let sq := (List.range k).map fun i => (List.range k).map fun j => Cx.sum ((List.range k).map fun t => (entryAt m i t).mul (entryAt m t j))
    projectOn n (scaleMatrix (1 / traceOf sq) sq)

/-- An eigenvector of unit norm of the largest eigenvalue of a covariance of trace 1: the column of its projection with the largest diagonal entry.
Of equal eigenvalues the spec leaves the vectors open (log entry 50). -/
def dominant (m : Matrix') : List Cx :=
  let p := projectOn 72 m
  let top := (List.range p.length).foldl (fun b i => if (entryAt p b b).re < (entryAt p i i).re then i else b) 0
  let v := (List.range p.length).map fun i => entryAt p i top
  v.map (Cx.scale (1 / rootOf (v.map Cx.sq).sum))

/-- The first `n` eigenvectors of a covariance in descending eigenvalue, each none where its eigenvalue is 0: the dominant one of what the ones
before it leave. -/
def eigenvectors : Nat → Matrix' → List (Option (List Cx))
  | 0, _ => []
  | n + 1, m =>
    if traceOf m ≤ 0 then none :: eigenvectors n m
    else
      let v := dominant (scaleMatrix (1 / traceOf m) m)
      let gain := (Cx.sum (m.mapIdx fun i l => (v.getD i .zero).conj.mul (Cx.sum (l.mapIdx fun j z => z.mul (v.getD j .zero))))).re
      some v :: eigenvectors n (m.mapIdx fun i l => l.mapIdx fun j z =>
        z.sub (((v.getD i .zero).mul (v.getD j .zero).conj).scale gain))

/-- The weights, Q1.14, of the first `n` eigenvectors of a covariance on each port (08 R286): of unit norm, at a phase that is free. -/
def eigenWeights (cov : Matrix') (n : Nat) : List (List (Int × Int)) :=
  (eigenvectors n cov).mapIdx fun l v =>
    match v with
    | some v => v.map fun z => (sampleOf ((z.mul (Cx.turned (Config.eigenPhase (cov.flatten.map fun x => (x.re, x.im)) l))).scale 16384)).1
    | none => (List.range cov.length).map (Config.eigenFree l)

end Sys2Proof.Machine
end

