-- ==== Sys2Proof/Machine/Outcomes.lean ====
section
/-! DEFINITION. What a course leaves behind (06 R210 to R227): HARQ versions and their pallets, the result records and the outcome, and
what its journal record commits and releases. -/

namespace Sys2Proof.Machine

/-! ## The soft-buffer pool (06 R210, R216) -/

/-- A HARQ process of a UE context. -/
def State.harq (s : State) (ue proc : Nat) : Harq := Store.at ⟨0, none, none⟩ (s.ue ue).procs proc

/-- The state with a UE context changed. -/
def State.onUe (s : State) (i : Nat) (f : Ue → Ue) : State :=
  { s with pipe := { s.pipe with ues := Store.put s.pipe.ues i (f (s.ue i)) } }

/-- The state with a HARQ process changed. -/
def State.onHarq (s : State) (ue proc : Nat) (f : Harq → Harq) : State :=
  s.onUe ue fun u => { u with procs := Store.put u.procs proc (f (Store.at ⟨0, none, none⟩ u.procs proc)) }

/-- The pallets of committed versions that satisfy a test on their channel. -/
def State.committedPallets (s : State) (p : Nat → Bool) : Nat :=
  (s.pipe.ues.map fun u => (u.2.procs.map fun h => match h.2.committed with
    | some v => if p v.chan then v.places.length else 0
    | none => 0).sum).sum

/-- The pallets that courses have reserved on channels that satisfy a test. -/
def State.reservedSoft (s : State) (p : Nat → Bool) : Nat :=
  (s.pipe.courses.map fun c => (c.2.softRes.map fun r => if p r.2.2 then r.2.1.length else 0).sum).sum

/-- SOFTBUF_FREE: the pallets neither committed nor reserved. -/
def State.softFree (s : State) : Nat :=
  s.nat O.softbufPallets - s.committedPallets (fun _ => true) - s.reservedSoft fun _ => true

/-- The pallets that a channel holds of the soft-buffer region. -/
def State.softHeld (s : State) (c : Nat) : Nat := s.committedPallets (· == c) + s.reservedSoft (· == c)

/-- The soft-buffer pallets of a channel that committed versions, and uncommitted ones with their reservations, hold. -/
def State.softOn (s : State) (c : Nat) : List Nat :=
  (s.pipe.ues.flatMap fun u => u.2.procs.flatMap fun h => (h.2.committed.map (·.places)).getD []).filter (· / 2 ^ 20 == c)
    ++ (s.pipe.courses.flatMap fun k => k.2.softRes.flatMap fun r => r.2.1).filter (· / 2 ^ 20 == c)

/-- The places of `n` pallets for a new version: the lowest-numbered free ones of a channel behind its TB store and staging region (log entry
24). -/
def softPlaces (s : State) (c n : Nat) : List Nat :=
  let held := s.softOn c
  let base := c * 2 ^ 20 + s.tbRegion + s.stagingRegion
  (((List.range (held.length + n)).map (base + ·)).filter fun p => !held.contains p).take n

/-- N_kept of each code block (07 R250). -/
def keptBits (host : Bytes) (sg : Segments) : Nat := keptOf host sg.c sg.ncb

/-- The pallets of a soft-buffer version: the block table and the LLRs of each block at 64-byte alignment (07 R250). -/
def versionPallets (host : Bytes) (sg : Segments) : Nat :=
  ceilDiv (ceilDiv (16 * sg.c) 64 * 64 + sg.c * (ceilDiv (keptBits host sg) 64 * 64)) 65536

/-- The host part that a course reads for a record: its snapshot (06 R218). -/
def Course.snap (c : Course) (ue : Nat) : Bytes := Store.at [] c.snaps ue

/-! ## Weight-bank entries that a course names (08 R288) -/

/-- The weight-bank entries that a record names, directly or through a context snapshot. -/
def recEntries (snap : Nat → Bytes) (r : Rec) : List Nat :=
  (match r.type with
    | 0x01 => if r.u 44 1 == 0 then [r.u 46 2] else if r.u 44 1 == 1 then [ueEntry (snap (r.u 6 2))] else []
    | 0x02 => [r.u 14 2]
    | 0x03 => [r.u 16 2]
    | 0x04 | 0x06 => [r.u 20 2]
    | 0x14 => [r.u 22 2]
    | _ => []).filter (· != 0xFFFF)

/-- The entries that a course names. -/
def Course.entries (c : Course) : List Nat := c.recs.flatMap (recEntries c.snap)

/-- Whether a course is accepted and its outcome not yet journalled. -/
def Course.live (c : Course) : Bool := !c.journalled

/-- A DELETING entry that no accepted course names becomes UNDEFINED (08 R288). -/
def sweepEntries (s : State) : State :=
  { s with wb := s.wb.filter fun e =>
      !(e.2.deleting && s.pipe.courses.all fun c => !(c.2.live && c.2.entries.contains e.1)) }

/-- A RELEASING context that no accepted course names becomes FREE, and its HARQ versions are released (06 R219). -/
def sweepContexts (s : State) : State :=
  { s with pipe := { s.pipe with ues := s.pipe.ues.filter fun u =>
      !(u.2.state == 2 && s.pipe.courses.all fun c => !(c.2.live && c.2.pins.contains u.1)) } }

/-- A RETIRING bank becomes FREE when every course of the owner carrier whose slot starts before the current FRONT's from-boundary has
ended (08 R293). -/
def retireBanks (s : State) : State :=
  { s with wb := s.wb.map fun e =>
      let front := ((e.2.banks.find? fun b => b.role == .front).map (·.fromB)).getD 0
      let busy := s.pipe.courses.any fun c =>
        c.1 / 2 ^ 32 == e.2.owner + 1 && decide (c.2.slotAir < front) && c.2.state != .ended && c.2.state != .closed
      if busy then e
      else (e.1, { e.2 with banks := e.2.banks.map fun b =>
        if b.role == .retiring then { b with role := BankRole.free } else b }) }

/-! ## Bytes that nothing in the spec fixes -/

/-- `n` free bytes (log entry 12). -/
def State.freeBytes (s : State) (n : Nat) : Bytes × State :=
  ((List.range n).map fun i => (Config.freeWord (s.freeCtr + i)).setWidth 8, { s with freeCtr := s.freeCtr + n })

/-- A byte string made up to a multiple of 8 with zeros. -/
def padTo8 (b : Bytes) : Bytes := b ++ List.replicate (pad8 b.length - b.length) 0

/-! ## Results (06 Tables 6-11 to 6-16) -/

/-- The status of a record of a course. -/
def Course.status (c : Course) (id : Nat) : Nat := ((Store.find c.causes id).map (·.2)).getD 0

/-- The result kept for a record, nothing where no operation has given any. -/
def noResult : UlResult := ⟨0, 0, 0, 0, false, false, false, false, 0xFFFF, none, [], none, none, [], [], [], none⟩

/-- The result of a record so far. -/
def Course.result (c : Course) (id : Nat) : UlResult := Store.at noResult c.results id

/-- Whether the transport block of an allocation passed: every code block has ended with a pass (06 Table 6-13, 07 R249). -/
def crcPass (sg : Segments) (u : UlResult) : Bool := u.ended == sg.c && u.failed == 0

/-- The head of a result record: type, status, length and record id. -/
def resultHead (type status length id : Nat) : Bytes :=
  leBytes 1 type ++ leBytes 1 status ++ leBytes 2 length ++ leBytes 2 id

/-- A downlink result (06 Table 6-12), which every other record but an uplink one takes as well. -/
def dlResult (s : State) (key : Nat) (c : Course) (r : Rec) : Bytes :=
  let ch := Store.at (0, 0) c.changed r.id
  let syms := recSymbols (s.std (key / 2 ^ 32 - 1)) (s.mu (key / 2 ^ 32 - 1)) (c.site key).desc r
  resultHead (r.type + 0x80) (c.status r.id) 16 r.id ++ leBytes 1 ch.1 ++ leBytes 1 ch.2 ++ leBytes 2 (Nat.land syms c.sent)
    ++ leBytes 6 0

/-- The process version after the commit of an allocation's result; 0 when EMPTY (06 Table 6-13). -/
def versionAfter (s : State) (key : Nat) (c : Course) (r : Rec) (pass : Bool) : Nat :=
  let h := s.harq (r.u 6 2) (r.u 8 1)
  if pass && c.status r.id == 0 then 0
  else match h.pending with
    | some (k, id, v) => if k == key && id == r.id && c.status r.id == 0 then v.number
        else ((h.committed.map (·.number))).getD 0
    | none => ((h.committed.map (·.number))).getD 0

/-- Two bytes of a measure: the field of it where it was taken, and otherwise what nothing in the spec fixes. -/
def measured (free : Bytes) (v : Option Int) : Bytes :=
  match v with
  | some x => leBytes 2 (codeOf 16 x)
  | none => free

/-- The received power of a record's measures in 0.1 dBFS: the mean squared magnitude over its elements and receive ports (08 Table 8-3). -/
def Meas.power (m : Meas) : Int := decibels 10 (-900) 0 ((if m.powCount = 0 then 0 else m.powSum / (m.powCount : Rat)) / (2 ^ 30 : Nat))

/-- The SINR of a record's measures in 0.1 dB, held to a range. -/
def Meas.sinr (lo hi : Int) (m : Meas) : Option Int :=
  if m.sinrCount = 0 then none
  else some (sinrField 10 lo hi (if m.unbounded then none else some (m.sinrSum / (m.sinrCount : Rat))))

/-- UCI results (06 Table 6-14): the bits of a polar decode, or those that the tile found, which are free values; the measures of its
channel estimate. Bit 2 of byte 9 speaks of payloads above 11 bits alone. -/
def uciResult (s : State) (u : UlResult) (ue fmt id status harq sr csi1 csi2 : Nat) : Bytes × State :=
  let n := harq + csi1 + csi2
  let payload := ceilDiv n 8
  let flags := s.freeBytes 1
  let meas := flags.2.freeBytes 4
  let bits := meas.2.freeBytes payload
  let dtx := leNat flags.1 % 2
  let head := fun (fl : Nat) => resultHead 0x92 status (24 + pad8 payload) id ++ leBytes 2 ue ++ leBytes 1 fmt ++ leBytes 1 fl
    ++ leBytes 2 harq ++ leBytes 2 csi1 ++ leBytes 2 csi2
    ++ measured (meas.1.take 2) (u.meas.bind (Meas.sinr (-100) 400)) ++ measured (meas.1.drop 2) (u.meas.map (·.ta)) ++ leBytes 4 0
  match u.uci with
  | some (ok, b) =>
    let asked := sr != 0 && b.getD harq false
    (head (dtx + (if asked then 2 else 0) + (if ok && decide (11 < n + sr) then 4 else 0) + (if csi2 != 0 then 8 else 0))
      ++ padTo8 (packBits (b.take harq ++ (b.drop (harq + sr)).take (csi1 + csi2))), bits.2)
  | none =>
    let open' := leNat flags.1 / 2
    (head (dtx + (if sr != 0 then 2 * (open' % 2) else 0) + (if 11 < n + sr then 4 * (open' / 2 % 2) else 0) + (if csi2 != 0 then 8 else 0))
      ++ padTo8 (packBits ((unpackBits bits.1).take n)), bits.2)

/-- The bytes of a transport block: its code blocks' payloads end to end, without its CRC. -/
def UlResult.block (u : UlResult) (tbs : Nat) : Bytes := packBits ((u.payload.flatMap (·.2)).take tbs)

/-- A PUSCH result (06 Table 6-13), with that of its UCI. What was not measured is a free value; bit 5, DTX, is free where the CRC failed. -/
def puschResult (s : State) (key : Nat) (c : Course) (r : Rec) : Bytes × State :=
  let n := key / 2 ^ 32 - 1
  let sg := recSegments s n r
  let u := c.result r.id
  let pass := crcPass sg u && c.status r.id == 0
  let tb := if pass then r.tbBytes else 0
  let dtx := s.freeBytes 1
  let meas := dtx.2.freeBytes 10
  let m := fun (i : Nat) => (meas.1.drop i).take 2
  let evm := u.meas.bind fun x => if x.sinrCount = 0 then none else some (evmField r.qm x.errors : Int)
  let flags := (if pass then 1 else 0) + (if u.early then 2 else 0) + (if u.combined then 4 else 0) + (if u.dropped then 8 else 0)
    + (if u.notKept then 16 else 0) + (if pass then 0 else 32 * (leNat dtx.1 % 2))
  let main := resultHead 0x91 (c.status r.id) (48 + pad8 tb) r.id ++ leBytes 2 (r.u 6 2) ++ leBytes 1 (r.u 8 1) ++ leBytes 1 flags
    ++ leBytes 1 u.iterations ++ leBytes 1 (min 255 u.restarts)
    ++ measured (m 0) (u.meas.bind (Meas.sinr (-100) 400)) ++ measured (m 2) evm ++ measured (m 4) (u.meas.map (·.ta))
    ++ (if maskCount r.dmrs == 1 then leBytes 2 0x8000 else measured (m 6) (u.meas.map (·.freq)))
    ++ measured (m 8) (u.meas.map Meas.power) ++ leBytes 2 (versionAfter s key c r pass) ++ leBytes 4 tb
    ++ leBytes 2 sg.c ++ leBytes 2 u.failed ++ leBytes 16 0 ++ (if pass then padTo8 (u.block r.tbs) else [])
  if r.puschUci == 0 then (main, meas.2)
  else
    let x := uciResult meas.2 u (r.u 6 2) 0xF0 r.id (c.status r.id) (r.u 50 2) 0 (r.u 52 2) (r.u 54 2)
    (main ++ x.1, x.2)

/-- A PRACH result (06 Table 6-15): up to the record's preamble count; the floor of an occasion that no operation processed is a free value. -/
def prachResult (s : State) (c : Course) (r : Rec) : Bytes × State :=
  let u := c.result r.id
  let peaks := u.peaks.take (min 64 (r.u 16 1))
  let floor := s.freeBytes 2
  (resultHead 0x93 (c.status r.id) (16 + 8 * peaks.length) r.id ++ leBytes 1 (r.u 6 1) ++ leBytes 1 peaks.length ++ measured floor.1 u.floor
    ++ leBytes 6 0 ++ peaks.flatMap (fun p => leBytes 1 p.index ++ leBytes 1 0 ++ leBytes 4 (codeOf 32 p.ta) ++ leBytes 2 p.above), floor.2)

/-- An SRS result (06 Table 6-16). -/
def srsResult (s : State) (c : Course) (r : Rec) : Bytes × State :=
  let sb := ceilDiv (r.u 18 2) (max 1 (r.u 20 1))
  let u := c.result r.id
  let meas := s.freeBytes 4
  let rows := meas.2.freeBytes (2 * r.u 8 1 * sb)
  (resultHead 0x94 (c.status r.id) (16 + pad8 (2 * r.u 8 1 * sb)) r.id ++ leBytes 2 (r.u 6 2) ++ leBytes 1 (r.u 8 1) ++ leBytes 1 sb
    ++ measured (meas.1.take 2) (u.meas.bind (Meas.sinr (-32768) 32767)) ++ measured (meas.1.drop 2) (u.meas.map (·.ta)) ++ leBytes 2 u.entry
    ++ padTo8 (if u.meas.isSome then u.sinrs.flatMap fun x => leBytes 2 (codeOf 16 x) else rows.1), rows.2)

/-- The result records of one description record. -/
def recResult (s : State) (key : Nat) (c : Course) (r : Rec) : Bytes × State :=
  match r.type with
  | 0x11 => puschResult s key c r
  | 0x12 => uciResult s (c.result r.id) (r.u 6 2) (r.u 8 1) r.id (c.status r.id) (r.u 18 2) (r.u 20 1) (r.u 22 2) (r.u 24 2)
  | 0x13 => prachResult s c r
  | 0x14 => srsResult s c r
  | _ => (dlResult s key c r, s)

/-- The number of result records: one for each record, and a second for UCI on PUSCH. -/
def resultCount (c : Course) : Nat := (c.recs.map fun r => if r.type == 0x11 && r.puschUci != 0 then 2 else 1).sum

/-- The outcome body (06 Table 6-11): the header alone for a cancelled course. -/
def outcomeBody (s : State) (key : Nat) (c : Course) : Bytes × State :=
  let head := fun (k : Nat) => leBytes 1 1 ++ leBytes 1 (dirOf (key % 2 ^ 32)) ++ leBytes 2 k ++ leBytes 2 c.sent ++ leBytes 2 c.blanked
    ++ leBytes 2 c.withheld ++ leBytes 2 c.expired ++ leBytes 4 0
  if c.cancelled then (head 0, s)
  else
    let b := c.recs.foldl (fun (acc : Bytes × State) r => let x := recResult acc.2 key c r; (acc.1 ++ x.1, x.2)) (([] : Bytes), s)
    (head (resultCount c) ++ b.1, b.2)

/-- The result of a course (06 R220): 0 DONE, 1 PARTIAL, 2 EXPIRED. -/
def resultOf (c : Course) : Nat :=
  if c.cancelled || c.recs.all (fun r => c.status r.id != 0) then 2
  else if c.recs.all fun r => c.status r.id == 0 then 0 else 1

/-! ## Journalling -/

/-- A channel of the link, as a session opens it where none is listed. -/
def State.chan (s : State) (c : Nat) : Channel := Store.at .fresh s.link.chans c

/-- The state with a channel changed. -/
def State.onChan (s : State) (c : Nat) (f : Channel → Channel) : State :=
  { s with link := { s.link with chans := Store.put s.link.chans c (f (s.chan c)) } }

/-- Whether the outcome of a course has been asked for or journalled. -/
def State.asked (s : State) (key : Nat) : Bool :=
  s.link.journal.contains (.outcome (key / 2 ^ 32) (key % 2 ^ 32)) || ((s.course key).map (·.journalled)).getD true

/-- The outcome of a course goes to the journal (04 R137). -/
def askOutcome (key : Nat) (s : State) : State :=
  if s.asked key then s
  else { s with link := { s.link with journal := s.link.journal ++ [.outcome (key / 2 ^ 32) (key % 2 ^ 32)] } }

/-- Whether the outcome of an uplink course may be built: its samples are in and out has ended or expired. -/
def outReady (s : State) (key : Nat) (c : Course) : Bool :=
  c.state == .finishing &&
    match s.liveOp key (opId .out 0 255 0) with
    | some (_, o) => o.over
    | none => true

/-- Every outcome that is due goes to the journal (03 R112, 04 R145). -/
def askOutcomes (s : State) : State :=
  ((s.pipe.courses.filter fun c => !c.2.journalled && (c.2.cancelled || outReady s c.1 c.2)).map (·.1)).foldl
    (fun s k => askOutcome k s) s

/-- Commit or discard of one PUSCH record (06 R212, R214): a pass empties the process, a kept new version replaces the committed one, and
with a status other than DONE or a cancelled course the uncommitted version goes. -/
def commitRec (key : Nat) (c : Course) (s : State) (r : Rec) : State :=
  if r.type != 0x11 then s
  else
    let sg := recSegments s (key / 2 ^ 32 - 1) r
    let h := s.harq (r.u 6 2) (r.u 8 1)
    let mine := match h.pending with
      | some (k, id, _) => k == key && id == r.id
      | none => false
    let done := c.status r.id == 0 && !c.cancelled
    let s :=
      if done && crcPass sg (c.result r.id) then
        s.onHarq (r.u 6 2) (r.u 8 1) fun h => { h with committed := none, pending := if mine then none else h.pending }
      else if mine then
        match h.pending with
        | some (_, _, v) =>
          if done then (s.onHarq (r.u 6 2) (r.u 8 1) fun h =>
            { h with number := v.number, committed := some v, pending := none }).bump O.harqCommits 1
          else (s.onHarq (r.u 6 2) (r.u 8 1) fun h => { h with pending := none }).bump O.harqDiscards 1
        | none => s
      else s
    s.onCourse key fun c => { c with softRes := Store.drop c.softRes r.id }

/-- The reservations of records that no longer stand in the description are released too. -/
def clearSoft (key : Nat) (s : State) : State := s.onCourse key fun c => { c with softRes := [] }

/-- The device part of a context takes what a record's result measured: its timing advance and SINR, the newest 16 kept (log entry 24), and
the weight-bank entry that its SRS wrote (06 R217). -/
def learnRec (c : Course) (s : State) (r : Rec) : State :=
  let u := c.result r.id
  match r.ue, u.meas with
  | some ue, some m =>
    if r.type == 0x01 || c.cancelled || c.status r.id != 0 then s
    else s.onUe ue fun x => { x with history := keepLast 16 (x.history ++ [(m.ta, (m.sinr (-32768) 32767).getD (-32768))])
                                     weights := if r.type == 0x14 && u.entry != 0xFFFF then some u.entry else x.weights }
  | _, _ => s

/-- The counters of a carrier's finished courses (06 Table 6-18). -/
def countOutcome (n result withheld : Nat) (s : State) : State :=
  let s := s.bump (O.symbolsWithheld n) (onesBelow withheld 14)
  match result with
  | 0 => s.bump (O.coursesDone n) 1
  | 1 => s.bump (O.coursesPartial n) 1
  | _ => s.bump (O.coursesExpired n) 1

/-- Every instance of a course goes, with its pallets. A unit that still runs one keeps it as superseded until the cancel token is
acknowledged. -/
def dropOps (key : Nat) (s : State) : State :=
  let s := ((s.opsOf key).filter fun e => e.2.state == .ready).map (·.1) |>.foldl withdrawJob s
  s.setOps ((s.sched.ops.filter fun e => e.2.key != key || e.2.state == .running || e.2.state == .suspended).map fun e =>
    if e.2.key == key then
      (e.1, { e.2 with places := [], own := 0, common := 0, stage := [], valid := [], cancel := true, old := true }) else e)

/-- The journal record of an outcome is written (06 R212, R216, R218, R219; 08 R288, R293): its versions are committed, its
reservations, pins and data released, and the outcome waits to be sent. -/
def journalOutcome (key : Nat) (s : State) : State :=
  match s.course key with
  | none => s
  | some c =>
    let result := resultOf c
    let body := outcomeBody s key c
    let o : Outcome :=
      { seq := c.outSeq, course := key % 2 ^ 32, gen := c.gen, ats := c.ats, reqSeq := c.reqSeq, result := result
        flags := (if c.cancelled then 1 else 0) + (if c.hostBound then 2 else 0) + (if c.rerun then 4 else 0)
        revOk := c.revOk, revRef := c.revRef, airTime := s.atsNow, body := body.1 }
    let s := clearSoft key (c.recs.foldl (commitRec key c) (c.recs.foldl (learnRec c) (dropOps key body.2)))
    let s := countOutcome (key / 2 ^ 32 - 1) result c.withheld s
    let s := s.onCourse key fun c => { c with journalled := true, store := [], pins := [], snaps := [], rx := [], got := [] }
    let s := if c.noOutcome then s.onCourse key fun c => { c with state := .closed, recs := [] }
      else s.onChan (key / 2 ^ 32) fun ch => { ch with outcomes := ch.outcomes ++ [o] }
    settle (retireBanks (sweepContexts (sweepEntries s)))

end Sys2Proof.Machine
end

