-- ==== Sys2Proof/Machine/Faults.lean ====
section
/-! DEFINITION. What several chapters do together when something fails: the mutes of the guard (17 R560 to R567), the loss of a unit
and its spare (17 R569 to R573), and an operation that runs again or acknowledges its cancel (13 R448, R451). -/

namespace Sys2Proof.Machine

/-- The state with the guard changed. -/
def State.onGuard (s : State) (f : Guard → Guard) : State := { s with guard := f s.guard }

/-! ## FAULT_CAUSES and the pins (17 R559, R562, R576) -/

/-- A bit of FAULT_CAUSES is set. -/
def setCause (bit : Nat) (s : State) : State := s.setObj O.faultCauses (setBit (s.nat O.faultCauses) bit true)

/-- FAULT_MASK as it acts: bit 6 cannot be masked. -/
def State.faultMask (s : State) : Nat := setBit (s.nat O.faultMask) 6 true

/-- Whether the part drives FAULT_N low (17 R576). -/
def State.faultLow (s : State) : Bool :=
  s.obj O.guardState != 1 || Nat.land (s.nat O.faultCauses) s.faultMask != 0

/-- Whether MUTE_N is low (17 R559, R562). -/
def State.muteLow (s : State) : Bool := s.obj O.guardState != 1 || s.guard.mutes.any (·.pin)

/-! ## Mutes (17 R560, R561, R566) -/

/-- The carrier of a chain, 0xFF where none has it. -/
def State.chainCarrier (s : State) (c : Nat) : Nat := s.nat (O.dfeUser c)

/-- The chains of a carrier (10 R331). -/
def State.chainsOf (s : State) (n : Nat) : List Nat := (List.range 128).filter fun c => s.obj (O.dfeUser c) == n

/-- The first chain of the gang that a chain serves in: of the others of a gang DFE_USER reads 0x81. -/
def gangHead (s : State) (c : Nat) : Nat :=
  if s.obj (O.dfeUser c) != 0x81 then c
  else (((List.range c).reverse).find? fun b => decide (s.chainCarrier b < 64) && decide (c < b + s.gang b)).getD c

/-- The carrier of the gang that a chain serves in. -/
def State.gangCarrier (s : State) (c : Nat) : Nat := s.chainCarrier (gangHead s c)

/-- Whether two scopes are one: a chain scope covers the gang of the chain (17 R561). -/
def sameScope (s : State) (scope unit scope' unit' : Nat) : Bool :=
  scope == scope' && (unit == unit' || (scope == 2 && gangHead s unit == gangHead s unit'))

/-- Whether a mute of one scope covers another scope: the device covers all, and a carrier its chains. -/
def scopeCovers (s : State) (scope unit scope' unit' : Nat) : Bool :=
  scope == 3 || sameScope s scope unit scope' unit' || (scope == 0 && scope' == 2 && s.gangCarrier unit' == unit)

/-- Whether a mute closes the gate of a carrier's stream on a port (17 R561). -/
def State.streamMuted (s : State) (n port : Nat) : Bool :=
  s.guard.mutes.any fun m => m.scope == 3 || (m.scope == 0 && m.unit == n) || (m.scope == 1 && m.unit == port)

/-- Whether a mute closes the gate of a chain. -/
def State.chainMuted (s : State) (c : Nat) : Bool :=
  s.guard.mutes.any fun m => scopeCovers s m.scope m.unit 2 c

/-- Whether a mute covers a carrier. -/
def State.carrierMuted (s : State) (n : Nat) : Bool :=
  s.guard.mutes.any fun m => m.scope == 3 || (m.scope == 0 && m.unit == n)

/-- A set of numbers as bits. -/
def bitsOfList (l : List Nat) : Nat := l.foldl (fun m i => setBit m i true) 0

/-- The units muted in a scope. -/
def Guard.units (g : Guard) (scope : Nat) : List Nat := (g.mutes.filter (·.scope == scope)).map (·.unit)

/-- The objects that report the mutes in force. -/
def showMutes (s : State) : State :=
  let s := s.setObj O.carriersMuted (bitsOfList (s.guard.units 0))
  let s := s.setObj O.portsMuted (bitsOfList (s.guard.units 1))
  let s := s.setBlob O.chainsMuted (leBytes 16 (bitsOfList ((List.range 128).filter fun c =>
    s.guard.mutes.any fun m => sameScope s m.scope m.unit 2 c)))
  s.setObj O.deviceMuted (if s.guard.mutes.any (·.scope == 3) then 1 else 0)

/-- The record of the mute log (17 R567). -/
def muteRecord (cause scope unit event ats : Nat) (measure : Int) (s : State) : State :=
  let r := stampBytes s.clock.count ++ leBytes 1 cause ++ leBytes 1 scope ++ leBytes 2 unit ++ leBytes 1 event ++ leBytes 1 0
    ++ leBytes 8 ats ++ leBytes 4 (codeOf 32 measure) ++ leBytes 4 0
  (s.bump O.muteLogCount 1).onGuard fun g => { g with log := keepLast 32 (g.log ++ [r]) }

/-- A TXGATE output is set, and an edge counted where its level changes (10 R351). -/
def setGate (g : Nat) (active : Bool) (s : State) : State :=
  let v : Int := if active then 1 else 0
  if s.obj (O.txgLevel g) == v then s
  else capture (3 + g) (active != (s.obj (O.txgPolarity g) == 0)) s.clock.count ((s.setObj (O.txgLevel g) v).bump (O.txgEdges g) 1)

/-- Every TXGATE output whose carrier a mute covers goes inactive (17 R560 step 3). -/
def gatesOff (s : State) : State :=
  (List.range 16).foldl (fun s g =>
    let n := s.nat (O.txgCarrier g)
    if n < 64 && s.carrierMuted n then setGate g false s else s) s

/-- Keeps the first measure of each cause. -/
def addCause (c : Nat × Int) (l : List (Nat × Int)) : List (Nat × Int) := if l.any (·.1 == c.1) then l else l ++ [c]

/-- A detection adds its cause to the mute that covers its scope: to the report where both are of one instant, and otherwise with a log
record of event 1. -/
def addToMute (cause : Nat) (measure : Int) (m : Mute) (s : State) : State :=
  let same := m.at' == s.clock.ticks && !m.complete
  let new := !(m.causes.any (·.1 == cause))
  let m' := { m with causes := addCause (cause, measure) m.causes, last := s.clock.ticks
                     fresh := if same then addCause (cause, measure) m.fresh else m.fresh }
  let s := s.onGuard fun g => { g with mutes := g.mutes.map fun x => if x = m then m' else x }
  if !same && new then muteRecord cause m.scope m.unit 1 s.atsNow measure s else s

/-- The lowest cause of a list. -/
def lowestCause (l : List (Nat × Int)) : Nat × Int :=
  l.foldl (fun b c => if c.1 < b.1 then c else b) (l.headD (0, 0))

/-- A mute is complete: its records are written, the event is raised once with the lowest of its causes, and FAULT_N's bit is set. -/
def completeMute (m : Mute) (s : State) : State :=
  let s := s.onGuard fun g => { g with mutes := g.mutes.map fun x => if x = m then { m with complete := true } else x }
  let s := m.fresh.foldl (fun s c => muteRecord c.1 m.scope m.unit (if m.widened then 1 else 0) m.ats c.2 s) s
  let c := lowestCause m.fresh
  setCause 0 (raise s O.emissionMuteCount m.unit
    (leBytes 1 c.1 ++ leBytes 1 m.scope ++ leBytes 2 m.unit ++ leBytes 8 m.ats ++ leBytes 4 (codeOf 32 c.2)) 0)

/-- EMISSION_MUTE_DETECT (17 R560, R566): the guard fixes the scope and shuts its gates and its TXGATE outputs; a wider scope takes in the
mutes that it covers: one detected at the same instant joins its report, and an earlier one that is not yet complete completes first. The
report follows when the mute is complete. -/
def detect (cause scope unit : Nat) (measure : Int) (s : State) : State :=
  match s.guard.mutes.find? fun m => scopeCovers s m.scope m.unit scope unit with
  | some m => addToMute cause measure m s
  | none =>
    let inside := fun (m : Mute) => scopeCovers s scope unit m.scope m.unit
    let now := s.clock.ticks
    let inner := s.guard.mutes.filter inside
    let s := (inner.filter fun m => !m.complete && m.at' != now).foldl (fun s m => completeMute m s) s
    let joins := inner.filter fun m => !m.complete && m.at' == now
    let merge := fun (l : List (Nat × Int)) (new : List (Nat × Int)) => new.foldl (fun l c => addCause c l) l
    let m : Mute :=
      { scope := scope, unit := unit, causes := inner.foldl (fun l x => merge l x.causes) [(cause, measure)]
        fresh := joins.foldl (fun l x => merge l x.fresh) [(cause, measure)], widened := decide (joins.length < inner.length)
        at' := now, ats := s.atsNow, last := now
        pin := scope == 3 || s.obj O.mutePinMode == 1 || inner.any (·.pin), complete := false }
    gatesOff (showMutes (s.onGuard fun g => { g with mutes := (g.mutes.filter fun x => !inside x) ++ [m] }))

/-- A weight-bank CRC mismatch found by a reader (17 R551). -/
def caughtBeforeUse (entry : Nat) (s : State) : State :=
  muteRecord 4 0xFF 0xFFFF 3 s.atsNow entry ((s.bump O.wbCrcErrors 1).bump O.caughtBeforeUse 1)

/-! ## Spares (17 R569, R572, R573) -/

/-- A unit word (17 R573). -/
def unitWord (cls n : Nat) : Nat := cls * 4096 + n

/-- The detail of Table 17-5. -/
def spareDetail (word spare left cause : Nat) : Bytes :=
  leBytes 2 word ++ leBytes 2 spare ++ leBytes 1 left ++ leBytes 1 cause ++ leBytes 2 0

/-- SPARE_ENGAGED: a spare, or the chain that a stream moved to, takes a unit's place; the last spare of a class sets bit 2. -/
def spareEngaged (word spare left cause : Nat) (s : State) : State :=
  let s := raise s O.spareEngagedCount word (spareDetail word spare left cause) 0
  if left == 0 && decide (word / 4096 ≤ 4) then setCause 2 s else s

/-- The condition of bit 2 arises where a class has no spare left (17 R576). -/
def spareGone (key : Nat) (s : State) : State := if s.obj key == 0 then setCause 2 s else s

/-- UNIT_LOST: no spare is left (17 R572). -/
def unitLost (word left cause : Nat) (s : State) : State :=
  setCause 1 ((raise s O.unitLostCount word (spareDetail word 0xFFFF left cause) 0).onGuard fun g =>
    { g with lost := g.lost ++ [word] })

/-- A class of engines as its objects show it: its class of 17 Table 17-4, the keys of the engines in service and faulted, the key of its
spares, and the spares that may take the place of an engine. -/
structure EngineClass where
  cls     : Nat
  service : State → Nat → Bool
  setServ : Nat → Bool → State → State
  setBad  : Nat → Bool → State → State
  bad     : State → Nat → Bool
  spares  : Nat
  group   : Nat → List Nat

/-- A bit of a pair of objects, 64 bits in the low one. -/
def pairBit (lo hi n : Nat) (s : State) : Bool := if n < 64 then bitOf (s.nat lo) n else bitOf (s.nat hi) (n - 64)

/-- A bit of a pair of objects set or cleared. -/
def setPairBit (lo hi n : Nat) (b : Bool) (s : State) : State :=
  if n < 64 then s.setObj lo (setBit (s.nat lo) n b) else s.setObj hi (setBit (s.nat hi) (n - 64) b)

/-- The decode engines: a spare serves in its own half (07 R230). -/
def kdClass : EngineClass :=
  { cls := 1, service := fun s n => pairBit O.kdServiceLo O.kdServiceHi n s, setServ := setPairBit O.kdServiceLo O.kdServiceHi
    setBad := setPairBit O.kdFaultedLo O.kdFaultedHi, bad := fun s n => pairBit O.kdFaultedLo O.kdFaultedHi n s
    spares := O.kdSpares, group := fun n => if n < 34 then List.range 34 else (List.range 68).drop 34 }

/-- The encode engines. -/
def keClass : EngineClass :=
  { cls := 2, service := fun s n => bitOf (s.nat O.keService) n
    setServ := fun n b s => s.setObj O.keService (setBit (s.nat O.keService) n b)
    setBad := fun n b s => s.setObj O.keFaulted (setBit (s.nat O.keFaulted) n b), bad := fun s n => bitOf (s.nat O.keFaulted) n
    spares := O.keSpares, group := fun n => if n < 17 then List.range 17 else (List.range 34).drop 17 }

/-- The layer engines (08 R265). -/
def leClass : EngineClass :=
  { cls := 3, service := fun s n => bitOf (s.nat O.leService) n
    setServ := fun n b s => s.setObj O.leService (setBit (s.nat O.leService) n b)
    setBad := fun n b s => s.setObj O.leFaulted (setBit (s.nat O.leFaulted) n b), bad := fun s n => bitOf (s.nat O.leFaulted) n
    spares := O.leSpares, group := fun _ => List.range 34 }

/-- The transform engines: xe16 is the spare; a faulted engine is one that its class has lost (17 Table 17-4). -/
def xeClass : EngineClass :=
  { cls := 4, service := fun s n => bitOf s.units.xe n
    setServ := fun n b s => { s with units := { s.units with xe := setBit s.units.xe n b } }
    setBad := fun n b s => { s with units := { s.units with xeBad := setBit s.units.xeBad n b } }, bad := fun s n => bitOf s.units.xeBad n
    spares := O.xeSpares, group := fun _ => List.range 17 }

/-- The spare that takes the place of an engine: the lowest-numbered of its group that neither serves nor has faulted. -/
def EngineClass.spareFor (e : EngineClass) (n : Nat) (s : State) : Option Nat :=
  (e.group n).find? fun u => u != n && !e.service s u && !e.bad s u

/-- An engine in service leaves it, faulted, and a spare takes its place, or the class has lost a unit (17 R572, R573). -/
def EngineClass.fault (e : EngineClass) (n cause : Nat) (s : State) : State :=
  let s := e.setBad n true (e.setServ n false s)
  match e.spareFor n s with
  | some u =>
    let s := (e.setServ u true s).setObj e.spares (s.nat e.spares - 1 : Nat)
    spareEngaged (unitWord e.cls n) (unitWord e.cls u) (s.nat e.spares) cause s
  | none => unitLost (unitWord e.cls n) (s.nat e.spares) cause s

/-! ## Operations that run again, or acknowledge a cancel (13 R448, R451) -/

/-- Whether a partition has an operation dispatched (13 R428). -/
def partBusy (s : State) (p : Nat) : Bool :=
  s.sched.ops.any fun e => e.2.cls == 0 && e.2.list == p + 1 && (e.2.state == .dispatched || e.2.state == .running)

/-- The shut-down of each partition that is STOPPING completes when none of its operations is dispatched. -/
def partsDone (s : State) : State :=
  (List.range 8).foldl (fun s p =>
    let k := O.partEnable p
    if (s.obj k == stStopping || s.obj k == stPending) && s.shutRuns k && !partBusy s p then shutDone k s else s) s

/-- What follows a change of an instance: its consumers are judged, outputs that nobody needs released, outcomes asked for, and shut-downs
of partitions completed. -/
def resettle (s : State) : State := partsDone (askOutcomes (releaseOps (settle s)))

/-- A unit acknowledges a cancel: a superseded instance is gone, another expires (06 R200; 13 R451). -/
def ackCancel (tag : Nat) (s : State) : State :=
  let s := s.dropJob tag
  match s.op tag with
  | some o => if o.old then s.setOps (Store.drop s.sched.ops tag) else resettle (s.onOp tag Op.expire)
  | none => s

/-- An instance returns to READY in class 0, without its resources but its pins (13 R448); the course's outcome says so. A kiln job is lost
with its scratch. -/
def rerunOp (s : State) (tag : Nat) : State :=
  match s.op tag with
  | some o =>
    if o.cancel then ackCancel tag s
    else
      let s := (s.bump O.reruns 1).dropJob tag
      let o := { o.bare with prio := 0, ended := none, faulted := true }
      makeReady tag o ((traceOp 9 tag o 0 0 0 s).onCourse o.key fun c => { c with rerun := true })
  | none => s

/-- Whether an instance is on a unit: dispatched to it or running on it, or holding its job slot for fused jobs. -/
def Op.uses (o : Op) (cls unit : Nat) : Bool :=
  (o.cls == cls && o.unit == unit && (o.state == .dispatched || o.onEngine)) || o.fused.contains (cls, unit)

/-- Every instance that a faulted unit runs or is to run goes back (13 R448). -/
def rerunUnit (cls unit : Nat) (s : State) : State :=
  ((s.sched.ops.filter fun e => e.2.cls == cls && e.2.uses cls unit).map (·.1)).foldl rerunOp s

/-- An engine job slot that a tile task holds for its fused jobs moves from a faulted engine to a candidate that nothing uses (12 R423). -/
def moveFused (cls unit : Nat) (s : State) : State :=
  match (s.candidates cls 0).find? fun u => !(s.sched.ops.any fun e => e.2.uses cls u) with
  | some u => s.setOps (s.sched.ops.map fun e =>
      (e.1, { e.2 with fused := e.2.fused.map fun f => if f = (cls, unit) then (cls, u) else f }))
  | none => s

/-- An engine in service faults: a spare takes its place, and what it ran runs again (17 Table 17-4). -/
def EngineClass.failed (e : EngineClass) (n cause : Nat) (s : State) : State :=
  if e.service s n then moveFused e.cls n (rerunUnit e.cls n (e.fault n cause s)) else s

end Sys2Proof.Machine
end

