-- ==== Sys2Proof/Machine/Filters.lean ====
section
/-! DEFINITION. The arithmetic of a DFE chain (10 R333 to R344, Tables 10-1 and 10-2): each stage takes a sample and answers what the stage
then holds and the samples that leave it, each with the air instant of the signal it carries (R340). The scales that Table 10-2 leaves open
are those of log entry 51. -/

namespace Sys2Proof.Machine

/-! ## Widths (10 R335) -/

/-- A number shifted right, rounded half to even. -/
def shiftEven (k : Nat) (v : Int) : Int :=
  let d := 2 * (v % (2 ^ k : Nat))
  let q := v / (2 ^ k : Nat)
  if d < (2 ^ k : Nat) then q else if (2 ^ k : Nat) < d then q + 1 else if q % 2 = 0 then q else q + 1

/-- Whether a signed width holds a number. -/
def fitsWidth (w : Nat) (v : Int) : Bool := decide (-(2 ^ (w - 1) : Nat) ≤ v) && decide (v < (2 ^ (w - 1) : Nat))

/-- A result in a width that does not saturate: outside it the number is open (log entry 51). -/
def inWidth (w : Nat) (v : Int) : Int := if fitsWidth w v then v else signedOf w ((Config.outside w v) % (2 ^ w : Nat)).toNat

/-- A result in a register that wraps around in two's complement. -/
def wrapWidth (w : Nat) (v : Int) : Int := signedOf w (v % (2 ^ w : Nat)).toNat

/-- A result in 16 bits, saturated, and whether it saturated. -/
def saturate16 (v : Int) : Int × Nat := if fitsWidth 16 v then (v, 0) else (if v < 0 then -32768 else 32767, 1)

/-! ## A chain's settings -/

/-- What the stages of a path run with: the rank filter's window, order, factor, floor and guard; the NCO word; CIC_R, HB_STAGES and whether
the stages that change the rate are bypassed (10 R332); RS_NUM and RS_DEN; the period of a wire sample, a frame boundary of carrier air time
and GD_ADJ in air units; the taps of FRONT and BACK; the fade in progress, its start and its samples; and whether the path puts out zero
samples (R343). -/
structure ChainSet where
  window : Nat
  order  : Nat
  factor : Nat
  floor  : Nat
  guard  : Nat
  word   : Nat
  cic    : Nat
  stages : Nat
  bypass : Bool
  num    : Nat
  den    : Nat
  period : Rat
  origin : Rat
  adjust : Rat
  front  : List Int
  back   : List Int
  fade   : Option (Rat × Nat)
  zero   : Bool
  deriving DecidableEq, Repr

/-- The period of the resampler's wire side. -/
def ChainSet.slow (g : ChainSet) : Rat := g.period * ((g.cic * 2 ^ g.stages : Nat) : Rat)

/-- The period of the transform side. -/
def ChainSet.out (g : ChainSet) : Rat := if g.bypass then g.period else g.slow * (g.den : Rat) / (g.num : Rat)

/-- The delay of the channel filter in air units (10 Table 10-3). -/
def ChainSet.firDelay (g : ChainSet) : Rat := ((g.front.length - 1 : Nat) : Rat) / 2 * g.out

/-! ## The rank filter (10 R337, R338) -/

/-- m(k) = |I| + |Q|. -/
def FilterSample.measure (x : FilterSample) : Nat := x.re.natAbs + x.im.natAbs

/-- The sample a number of places before the newest; zero before the first. -/
def sampleBack (l : List FilterSample) (i : Nat) : FilterSample := (l.reverse).getD i ⟨0, 0, 0, false⟩

/-- ref(k): the RANK_ORDER-th smallest of the measures in a window, the first at which that many are not above it. -/
def rankRef (order : Nat) (ms : List Nat) : Nat :=
  let l := ms.filter fun v => decide (order ≤ (ms.filter (· ≤ v)).length)
  l.foldl min (l.headD 0)

/-- Whether the sample that stands `c` places before the newest is a spike. -/
def ChainSet.spike (g : ChainSet) (l : List FilterSample) (c : Nat) : Bool :=
  let h := (g.window - 1) / 2
  let m := (sampleBack l c).measure
  let ref := rankRef g.order ((List.range g.window).map fun i => (sampleBack l (c - h + i)).measure)
  decide (ref * g.factor < 16 * m) && decide (g.floor ≤ m)

/-- The rank filter takes a wire sample: the one that it gives stands behind by the window's half and the guard, and is replaced by zero in
reach of a spike; while the window refills it gives none of the signal. The last answer says whether it was replaced. -/
def ChainSet.rankStep (g : ChainSet) (f : FilterPath) (x : FilterSample) : FilterPath × List FilterSample × Nat :=
  if g.window = 0 then (f, [x], 0)
  else
    let h := (g.window - 1) / 2
    let b := min g.guard h
    let l := keepLast (g.window + 2 * b) (f.window ++ [x])
    let f := { f with window := l }
    let empty : FilterSample := ⟨x.label - ((h + b : Nat) : Rat) * g.period, 0, 0, false⟩
    if l.length ≤ h + b then (f, [empty], 0)
    else
      let y := sampleBack l (h + b)
      let hit := (List.range (2 * b + 1)).any fun i => g.spike l (h + i)
      let y := { y with ok := y.ok && l.length == g.window + 2 * b && l.all (·.ok) }
      (f, [if hit then { y with re := 0, im := 0 } else y], if hit then 1 else 0)

/-! ## The mixer (10 R334) -/

/-- The NCO word: round(f × 2³² / F_w), F_w in kSps, halves up (log entry 51). -/
def ncoWord (hz : Int) (ksps : Nat) : Nat :=
  ((((2 * hz * (2 ^ 32 : Nat) + (1000 * ksps : Nat)) / ((2 * 1000 * max 1 ksps : Nat) : Int))) % (2 ^ 32 : Nat)).toNat

/-- The cosine and the sine, Q1.17, of a phase of the NCO in 2⁻³² turns. -/
def ncoPair (phase : Nat) : Int × Int :=
  let x := cosSin (((phase : Nat) : Rat) / ((2 ^ 32 : Nat) : Rat))
  (roundEven (131072 * x.1), roundEven (131072 * x.2))

/-- The mixer on receive: e^(−j 2π f t), from 16 bits to 18 with two fractional bits. -/
def ChainSet.mixDown (g : ChainSet) (f : FilterPath) (x : FilterSample) : FilterPath × List FilterSample :=
  let (c, s) := ncoPair f.phase
  ({ f with phase := (f.phase + g.word) % 2 ^ 32 },
   [{ x with re := inWidth 18 (shiftEven 15 (x.re * c + x.im * s)), im := inWidth 18 (shiftEven 15 (x.im * c - x.re * s)) }])

/-- The mixer on transmit: e^(+j 2π f t), in 20 bits. -/
def ChainSet.mixUp (g : ChainSet) (f : FilterPath) (x : FilterSample) : FilterPath × List FilterSample :=
  let (c, s) := ncoPair f.phase
  ({ f with phase := (f.phase + g.word) % 2 ^ 32 },
   [{ x with re := inWidth 20 (shiftEven 17 (x.re * c - x.im * s)), im := inWidth 20 (shiftEven 17 (x.re * s + x.im * c)) }])

/-! ## The CIC (10 R335) -/

/-- Five registers, those that nothing has entered at 0. -/
def five (l : List (Int × Int)) : List (Int × Int) := (List.range 5).map fun i => l.getD i (0, 0)

/-- The integrators take a sample, each adding what the one before it holds; the last one's sum leaves. -/
def integrate (w : Nat) (l : List (Int × Int)) (x : Int × Int) : List (Int × Int) :=
  ((five l).foldl (fun (a : List (Int × Int) × (Int × Int)) r =>
    let y := (wrapWidth w (r.1 + a.2.1), wrapWidth w (r.2 + a.2.2))
    (a.1 ++ [y], y)) ([], x)).1

/-- The combs take a sample: each holds what it took and gives the difference. -/
def comb (w : Nat) (l : List (Int × Int)) (x : Int × Int) : List (Int × Int) × (Int × Int) :=
  (five l).foldl (fun (a : List (Int × Int) × (Int × Int)) r =>
    (a.1 ++ [a.2], (wrapWidth w (a.2.1 - r.1), wrapWidth w (a.2.2 - r.2)))) ([], x)

/-- ceil(5 × log2 CIC_R). -/
def cicShift (r : Nat) : Nat := ((List.range 21).find? fun k => decide (r ^ 5 ≤ 2 ^ k)).getD 20

/-- The Q1.17 factor that restores unit gain within 2⁻¹⁷, from 1 up to 2: the exact number, or one of the two beside it. -/
def cicFactor (r : Nat) : Int :=
  let top := 2 ^ 17 * 2 ^ cicShift r
  ((top / max 1 (r ^ 5) + (if top % max 1 (r ^ 5) != 0 && Config.cicGainUp r then 1 else 0) : Nat) : Int)

/-- The CIC on receive, from 18 bits with two fractional bits to 20 with four. -/
def ChainSet.cicDown (g : ChainSet) (f : FilterPath) (x : FilterSample) : FilterPath × List FilterSample :=
  if g.cic ≤ 1 then (f, [{ x with re := 4 * x.re, im := 4 * x.im }])
  else
    let i := integrate 38 f.integ (x.re, x.im)
    if f.cicIn + 1 < g.cic then ({ f with integ := i, cicIn := f.cicIn + 1 }, [])
    else
      let (c, y) := comb 38 f.combs (i.getLastD (0, 0))
      let scale := fun (v : Int) => inWidth 20 (shiftEven 15 (shiftEven (cicShift g.cic) v * cicFactor g.cic))
      ({ f with integ := i, combs := c, cicIn := 0, cicOut := min 5 (f.cicOut + 1) },
       [{ x with re := scale y.1, im := scale y.2, ok := x.ok && f.cicOut == 5
                 label := x.label - 5 * ((g.cic - 1 : Nat) : Rat) / 2 * g.period }])

/-- The CIC on transmit: combs at the slow rate, integrators of 40 bits at the wire rate, and unit gain. -/
def ChainSet.cicUp (g : ChainSet) (f : FilterPath) (x : FilterSample) : FilterPath × List FilterSample :=
  if g.cic ≤ 1 then (f, [x])
  else
    let (c, y) := comb 40 f.combs (x.re, x.im)
    let ok := x.ok && f.cicOut == 5
    let unit := fun (v : Int) => inWidth 20 (roundEven ((v : Rat) / ((g.cic ^ 4 : Nat) : Rat)))
    let r := (List.range g.cic).foldl (fun (a : List (Int × Int) × List FilterSample) j =>
      let i := integrate 40 a.1 (if j = 0 then y else (0, 0))
      let z := i.getLastD (0, 0)
      (i, a.2 ++ [⟨x.label + (j : Rat) * g.period - 5 * ((g.cic - 1 : Nat) : Rat) / 2 * g.period, unit z.1, unit z.2, ok⟩])) (f.integ, [])
    ({ f with integ := r.1, combs := c, cicOut := min 5 (f.cicOut + 1) }, r.2)

/-! ## The half-bands and the resampler (10 R333, R334) -/

/-- A filter over a delay line, newest last: the sums over its taps, the first of which meets the newest sample, and whether the line is
full of good samples. -/
def tapSums (tap : Nat → Rat) (n : Nat) (l : List FilterSample) : (Rat × Rat) × Bool :=
  (((List.range n).foldl (fun (a : Rat × Rat) i =>
    let x := sampleBack l i
    (a.1 + tap i * (x.re : Rat), a.2 + tap i * (x.im : Rat))) (0, 0)), l.length == n && l.all (·.ok))

/-- A sum of Q1.17 products reduced to 20 bits. -/
def from17 (q : Rat) : Int := inWidth 20 (roundEven (q / (2 ^ 17 : Nat)))

/-- A tap of the half-bands as a number. -/
def halfTap (i : Nat) : Rat := (Config.halfBandTap i : Rat)

/-- A half-band on receive: every second sample gives one; `wire` is the period of its wire side. -/
def halfDown (wire : Rat) (st : Nat × List FilterSample) (x : FilterSample) : (Nat × List FilterSample) × List FilterSample :=
  let l := keepLast 31 (st.2 ++ [x])
  if st.1 = 0 then ((1, l), [])
  else
    let (y, ok) := tapSums halfTap 31 l
    ((0, l), [⟨x.label - 15 * wire, from17 y.1, from17 y.2, ok⟩])

/-- A half-band on transmit: each sample and a zero after it, with a gain of 2. -/
def halfUp (wire : Rat) (st : Nat × List FilterSample) (x : FilterSample) : (Nat × List FilterSample) × List FilterSample :=
  let twice := fun (i : Nat) => 2 * halfTap i
  let l := keepLast 31 (st.2 ++ [x])
  let (y, ok) := tapSums twice 31 l
  let l' := keepLast 31 (l ++ [⟨x.label + wire, 0, 0, x.ok⟩])
  let (z, ok') := tapSums twice 31 l'
  ((0, l'), [⟨x.label - 15 * wire, from17 y.1, from17 y.2, ok⟩, ⟨x.label - 14 * wire, from17 z.1, from17 z.2, ok'⟩])

/-- Samples pass through a step of the half-band of a stage. -/
def halfStage (step : Nat × List FilterSample → FilterSample → (Nat × List FilterSample) × List FilterSample) (i : Nat)
    (f : FilterPath) (x : FilterSample) : FilterPath × List FilterSample :=
  let (st, y) := step (f.half.getD i (0, [])) x
  ({ f with half := (List.range (max f.half.length (i + 1))).map fun j => if j = i then st else f.half.getD j (0, []) }, y)

/-- A tap of the resampler at a part of the way between two samples: 256 phases with linear interpolation between them; the first tap meets
the newest sample. -/
def resampleTap (part : Rat) (i : Nat) : Rat :=
  let ph := (part * 256).floor.toNat
  let d := part * 256 - (ph : Rat)
  (Config.resamplerTap ph (7 - i) : Rat) * (1 - d) + (Config.resamplerTap (ph + 1) (7 - i) : Rat) * d

/-- The resampler takes a sample of one period and gives those of the other whose instants lie between the fourth and the fifth newest: the
instants of a grid. -/
def resample (from' to' grid : Rat) (f : FilterPath) (x : FilterSample) : FilterPath × List FilterSample :=
  let l := keepLast 8 (f.res ++ [x])
  let lo := x.label - 4 * from'
  let first := -((-((lo - grid) / to')).floor)
  let count := (from' / to').floor.toNat + 2
  let at' := ((List.range count).map fun (j : Nat) => grid + ((first + (j : Int) : Int) : Rat) * to').filter fun u => decide (u < lo + from')
  ({ f with res := l }, at'.map fun u =>
    let (y, ok) := tapSums (resampleTap ((u - lo) / from')) 8 l
    ⟨u, from17 y.1, from17 y.2, ok⟩)

/-! ## The channel filter (10 R335, R342) -/

/-- The sums of a bank over the delay line. -/
def bankSums (taps : List Int) (l : List FilterSample) : (Rat × Rat) × Bool :=
  tapSums (fun i => (taps.getD i 0 : Rat)) taps.length l

/-- The weight of BACK in a fade: from 1 / XFADE_SAMPLES to 1. -/
def fadeWeight (fade : Option (Rat × Nat)) (period label : Rat) : Rat :=
  match fade with
  | some (at', n) => if label < at' then 0 else min 1 (((((label - at') / period).floor + 1 : Int) : Rat) / (max 1 n : Nat))
  | none => 0

/-- The channel filter takes a sample; during a fade both banks filter it. -/
def ChainSet.firStep (g : ChainSet) (f : FilterPath) (x : FilterSample) : FilterPath × (Rat × Rat) × FilterSample :=
  let l := keepLast g.front.length (f.fir ++ [x])
  let (y, ok) := bankSums g.front l
  let label := x.label - g.firDelay
  let a := fadeWeight g.fade g.out label
  let (z, _) := bankSums g.back l
  ({ f with fir := l }, (if a = 0 then y else ((1 - a) * y.1 + a * z.1, (1 - a) * y.2 + a * z.2)), ⟨label, 0, 0, ok⟩)

/-! ## The paths -/

/-- Samples pass through a stage. -/
def FilterPath.through (step : FilterPath → FilterSample → FilterPath × List FilterSample) (a : FilterPath × List FilterSample) :
    FilterPath × List FilterSample :=
  a.2.foldl (fun b x => let r := step b.1 x; (r.1, b.2 ++ r.2)) (a.1, [])

/-- What a path gives for the samples that entered: what it then holds, the samples that left, and how many were blanked, saturated and
flushed. -/
structure FilterOut where
  path      : FilterPath
  samples   : List FilterSample
  blanked   : Nat
  saturated : Nat
  flushed   : Nat

/-- A sample leaves a path in 16 bits: zero while the filters refill or the bank is bad. -/
def ChainSet.emit (g : ChainSet) (f : FilterOut) (label : Rat) (ok : Bool) (re im : Int) : FilterOut :=
  if !ok then { f with samples := f.samples ++ [⟨label, 0, 0, false⟩], flushed := f.flushed + 1 }
  else if g.zero then { f with samples := f.samples ++ [⟨label, 0, 0, true⟩] }
  else
    let i := saturate16 re
    let q := saturate16 im
    { f with samples := f.samples ++ [⟨label, i.1, q.1, true⟩], saturated := f.saturated + i.2 + q.2 }

/-- A sample leaves in its turn: a place of the output grid that a reset left without one gives a zero sample, and each place gives one. -/
def ChainSet.leave (g : ChainSet) (step : Rat) (f : FilterOut) (label : Rat) (ok : Bool) (re im : Int) : FilterOut :=
  let d := f.path.due.getD label
  let n := roundEven ((label - d) / step)
  if n < 0 then f
  else
    let f := (List.range n.toNat).foldl (fun f (i : Nat) => g.emit f (d + (i : Rat) * step) false 0 0) f
    g.emit { f with path := { f.path with due := some (label + step) } } label ok re im

/-- A reset takes effect at a wire sample with a label, the first that is not earlier than its boundary: nothing is held any more, and the NCO
phase has run from 0 since the boundary (10 R344). -/
def ChainSet.restart (g : ChainSet) (f : FilterPath) (b : Int) (label : Rat) : FilterPath :=
  let k := ((label - (b : Rat)) / g.period).floor
  { FilterPath.cleared with phase := (((g.word : Int) * k) % (2 ^ 32 : Int)).toNat, expect := f.expect, due := f.due }

/-- The grid of the resampler on receive: its samples leave the channel filter on the grid of F_t counted from the frame boundaries (10 R340). -/
def ChainSet.gridDown (g : ChainSet) : Rat := g.origin + g.firDelay + g.adjust

/-- The receive path takes a wire sample; a reset that waits for it comes first. -/
def ChainSet.receive (g : ChainSet) (f : FilterOut) (x : FilterSample) : FilterOut :=
  let p := match f.path.clear with
    | some b => if (b : Rat) ≤ x.label then g.restart f.path b x.label else f.path
    | none => f.path
  let (p, l, blanked) := g.rankStep p x
  let a := FilterPath.through g.mixDown (p, l)
  let a := if g.bypass then (a.1, a.2.map fun x => { x with re := 4 * x.re, im := 4 * x.im})
    else
      let a := (List.range g.stages).foldl (fun a i => FilterPath.through (halfStage (halfDown (g.period * ((g.cic * 2 ^ i : Nat) : Rat))) i) a)
        (FilterPath.through g.cicDown a)
      FilterPath.through (resample g.slow g.out g.gridDown) a
  a.2.foldl (fun (f : FilterOut) x =>
    let (p, y, o) := g.firStep f.path x
    g.leave g.out { f with path := p } (o.label - g.adjust) o.ok (roundEven (y.1 / (2 ^ 21 : Nat))) (roundEven (y.2 / (2 ^ 21 : Nat))))
    { f with path := a.1, blanked := f.blanked + blanked }

/-- The grid of the resampler on transmit: the wire samples that follow from its samples carry labels of the wire's grid (10 R340). -/
def ChainSet.gridUp (g : ChainSet) : Rat :=
  g.origin + g.adjust + 5 * ((g.cic - 1 : Nat) : Rat) / 2 * g.period + 15 * ((g.cic * (2 ^ g.stages - 1) : Nat) : Rat) * g.period

/-- A wire sample leaves the transmit path with its ramp. A reset takes effect at the first that is not earlier than its boundary: what the path
held is lost, and the samples in flight, the second answer, leave as zero. -/
def ChainSet.send (g : ChainSet) (gain : Rat → Nat) (a : FilterOut × Bool) (x : FilterSample) : FilterOut × Bool :=
  let label := x.label - g.adjust
  let lost := fun (p : FilterPath) =>
    (g.leave g.period { a.1 with path := { p with phase := (p.phase + g.word) % 2 ^ 32 } } label false 0 0, true)
  let k := gain label
  let sent := g.leave g.period a.1 label x.ok (shiftEven 19 (x.re * k)) (shiftEven 19 (x.im * k))
  match a.1.path.clear with
  | some b => if (b : Rat) ≤ label then lost (g.restart a.1.path b label) else (sent, a.2)
  | none => if a.2 then lost a.1.path else (sent, false)

/-- The transmit path takes a sample of the transform's side; `gain` is the ramp at a label. -/
def ChainSet.transmit (g : ChainSet) (gain : Rat → Nat) (f : FilterOut) (x : FilterSample) : FilterOut :=
  let (p, y, o) := g.firStep f.path x
  let x := { o with re := inWidth 20 (roundEven (y.1 / (2 ^ 13 : Nat))), im := inWidth 20 (roundEven (y.2 / (2 ^ 13 : Nat))) }
  let a := FilterPath.through (resample g.out g.slow g.gridUp) (p, [x])
  let a := (List.range g.stages).foldl (fun a i =>
    FilterPath.through (halfStage (halfUp (g.period * ((g.cic * 2 ^ (g.stages - 1 - i) : Nat) : Rat))) i) a) a
  let a := FilterPath.through g.mixUp (FilterPath.through g.cicUp a)
  (a.2.foldl (g.send gain) ({ f with path := a.1 }, false)).1

/-- Samples of one period enter a path in order, the first with a label: those that are missing since the last count as zero samples, those
that are late are left out (10 R344; log entry 51). Between users the NCO phase runs on (R334). -/
def ChainSet.enter (g : ChainSet) (f : FilterPath) (period label : Rat) (iq : List (Int × Int)) : FilterPath × List FilterSample :=
  let f := match f.expect, f.idle with
    | none, some u => { f with idle := none, phase := (((f.phase : Int) + (g.word : Int) * roundEven ((label - u) / g.period)) % (2 ^ 32 : Int)).toNat }
    | _, _ => f
  let start := f.expect.getD label
  let gap := roundEven ((label - start) / period)
  let iq := if gap < 0 then iq.drop (-gap).toNat else List.replicate gap.toNat (0, 0) ++ iq
  let l := iq.mapIdx fun i x => ⟨start + (i : Rat) * period, x.1, x.2, true⟩
  ({ f with expect := some (start + (iq.length : Rat) * period) }, l)

/-- Samples run through a path. -/
def runPath (step : FilterOut → FilterSample → FilterOut) (f : FilterPath) (l : List FilterSample) : FilterOut :=
  let r := l.foldl step ⟨f, [], 0, 0, 0⟩
  { r with path := { r.path with out := r.samples } }

/-! ## Transforms (06 R183, R188) -/

/-- A rotation by part of a turn, its index taken modulo the turn. -/
def rotated (n : Nat) (m : Int) : Cx := Cx.turned (((m % (n : Int)).toNat : Rat) / ((max 1 n : Nat) : Rat))

/-- Twice the frequency of element `k` of `count` in subcarriers: half a subcarrier up on the LTE uplink, and past an unused centre on the LTE
downlink (TS 36.211, TS 38.211; log entry 51). -/
def toneOf (lte uplink : Bool) (count k : Nat) : Int :=
  let d : Int := (k : Int) - (count / 2 : Nat)
  if lte then (if uplink then 2 * d + 1 else if d < 0 then 2 * d else 2 * (d + 1)) else 2 * d

/-- `len` elements of a symbol from element `first` on, of `count` in its carrier, from the samples of its useful part, with the 7.5 kHz shift of
the LTE uplink. -/
def elementsFrom (lte : Bool) (n count first len : Nat) (x : List (Int × Int)) : List (Int × Int) :=
  (List.range len).map fun k =>
    (sampleOf (((Cx.sum ((List.range n).map fun (t : Nat) =>
      (Cx.of (x.getD t (0, 0))).mul (rotated (2 * n) (-(toneOf lte true count (first + k) * (t : Int))))))).scale (Config.transformScale false n))).1

/-- fft: the elements of a symbol. -/
def symbolElements (lte : Bool) (n count : Nat) (x : List (Int × Int)) : List (Int × Int) := elementsFrom lte n count 0 count x

/-- The samples of a symbol from its elements, which lie from element `first` of `count` on, the last of them before the first as its cyclic
prefix. -/
def samplesFrom (lte : Bool) (n cyclic count first : Nat) (e : List (Int × Int)) : List (Int × Int) :=
  let body := (List.range n).map fun (t : Nat) =>
    (sampleOf ((Cx.sum (e.mapIdx fun k z => (Cx.of z).mul (rotated (2 * n) (toneOf lte false count (first + k) * (t : Int))))).scale
      (Config.transformScale true n))).1
  body.drop (n - cyclic) ++ body

/-- ifft: the samples of a symbol. -/
def symbolSamples (lte : Bool) (n cyclic : Nat) (e : List (Int × Int)) : List (Int × Int) := samplesFrom lte n cyclic e.length 0 e

end Sys2Proof.Machine
end

