-- ==== Sys2Proof/Machine/Layer.lean ====
section
/-! DEFINITION. The layer and transform engines (08 R264 to R286) and the weight banks (08 R287 to R297). -/

namespace Sys2Proof.Machine

/-! ## Slots of a carrier, counted from its air-time zero -/

/-- The start of slot `k` of a carrier, in device air time (03 R95). -/
def State.slotAt (s : State) (n : Nat) (k : Int) : Int :=
  s.frameOffset n + (k / (2 ^ s.mu n : Nat) * subframeTc + slotTc (s.mu n) (k % (2 ^ s.mu n : Nat)).toNat) * airTc

/-- The slot of a carrier in which an instant of device air time falls. -/
def State.slotOf (s : State) (n : Nat) (a : Int) : Int :=
  let tc := (a - s.frameOffset n) / airTc
  tc / subframeTc * (2 ^ s.mu n : Nat) + (symbolAt (s.mu n) (tc % subframeTc).toNat).1

/-- Slots in a hyperframe. -/
def hyperSlots (mu : Nat) : Int := (1024 * slotsPerFrame mu : Nat)

/-- The first slot after slot `k` whose index in its hyperframe is a multiple of a period. -/
def nextMultiple (mu period : Nat) (k : Int) : Int :=
  let h := hyperSlots mu
  let next := (k % h / (period : Int) + 1) * period
  k / h * h + min next h

/-- The first swap boundary of a period after an instant of device air time (08 R292, 10 R342). -/
def State.boundaryAfter (s : State) (n period : Nat) (a : Int) : Int :=
  s.slotAt n (nextMultiple (s.mu n) (max 1 period) (s.slotOf n a))

/-- `k` slot durations of a carrier. -/
def State.slotSpan (s : State) (n k : Nat) : Int := (k * slotLenTc (s.mu n) : Nat) * airTc

/-! ## Weight-bank entries (08 R287 to R291) -/

/-- The entry that WB_INDEX selects. -/
def State.wbSel (s : State) : Option WbEntry := Store.find s.wb (s.nat O.wbIndex)

/-- The state with an entry changed. -/
def State.onWb (s : State) (i : Nat) (f : WbEntry → WbEntry) : State :=
  match Store.find s.wb i with
  | some e => { s with wb := Store.put s.wb i (f e) }
  | none => s

/-- Pallets of one bank (08 R287). -/
def bankPallets (ports layers subbands : Nat) : Nat := ceilDiv (ports * layers * subbands * 4) 65536

/-- WB_POOL_FREE. -/
def State.wbFree (s : State) : Nat := s.nat O.wbPoolPallets - (s.wb.map fun e => e.2.pallets).sum

/-- The entry with its bank of a role changed. -/
def WbEntry.onRole (e : WbEntry) (r : BankRole) (f : Bank → Bank) : WbEntry :=
  { e with banks := e.banks.map fun b => if b.role = r then f b else b }

/-- The bank of a role. -/
def WbEntry.bank (e : WbEntry) (r : BankRole) : Option Bank := e.banks.find? fun b => b.role = r

/-- The bank that a reader for a course whose slot starts at `t` reads: the FRONT, NEXT or RETIRING bank with the latest from-boundary not
later than `t` (08 R290). -/
def WbEntry.bankFor (e : WbEntry) (t : Int) : Option Bank :=
  (e.banks.filter fun b => b.role != .free && b.role != .back && decide (b.fromB ≤ t)).foldl
    (fun best b => match best with
      | some x => if x.fromB < b.fromB then some b else best
      | none => some b) none

/-- The weights that a bank of an entry holds of a subband, zero where nothing was written. -/
def WbEntry.weights (e : WbEntry) (b : Bank) (k : Nat) : Bytes :=
  ((Store.find b.data k).getD [] ++ List.replicate (e.ports * e.layers * 4) 0).take (e.ports * e.layers * 4)

/-- The CRC-32 of every subband of a bank (08 R294). -/
def WbEntry.backCrcs (e : WbEntry) (b : Bank) : Store Nat := (List.range e.subbands).map fun k => (k, crc32 (e.weights b k))

/-- Whether a subband of a bank fails the check of its readers: its CRC is not the one computed at the commit, or it cannot be read. -/
def WbEntry.fails (e : WbEntry) (b : Bank) (k : Nat) : Bool :=
  b.bad.contains k || match Store.find b.crcs k with
    | some c => c != crc32 (e.weights b k)
    | none => false

/-- A write of a subband of the BACK, or a commit (08 R291): a write reopens a COMMITTED BACK, and a commit acts on an OPEN one, computing
its CRCs anew (08 R294). -/
def applyBack (e : WbEntry) (w : HeldWrite) : WbEntry :=
  match w with
  | some (sb, data) =>
    { e.onRole .back fun b => { b with data := Store.put b.data sb data, crcs := Store.drop b.crcs sb, bad := b.bad.filter (· != sb) } with
      back := BackState.opened, written := true }
  | none =>
    if e.back = .opened then { e.onRole .back fun b => { b with crcs := e.backCrcs b, bad := [] } with back := BackState.committed } else e

/-- A write or commit reaches the BACK; one that reaches a COPYING BACK waits for the copy. -/
def reachBack (e : WbEntry) (w : HeldWrite) : WbEntry :=
  if e.back = .copying then { e with held := e.held ++ [w] } else applyBack e w

/-- The geometry objects give a new entry of zeros; its first boundary is the first whose decision instant has not passed. -/
def newEntry (s : State) (chan : Nat) : WbEntry :=
  let n := s.nat O.wbOwner
  let zero : Bank := ⟨.free, 0, [], [], []⟩
  { owner := n, ports := s.nat O.wbPorts, layers := s.nat O.wbLayers, subbands := s.nat O.wbSubbands, sbPrbs := s.nat O.wbSbPrbs
    period := s.nat O.wbSwapPeriod, deleting := false
    banks := [{ zero with role := .front }, { zero with role := .back }, zero], back := .opened, written := false, held := []
    nextB := s.boundaryAfter n (s.nat O.wbSwapPeriod) (s.airNow + s.slotSpan n (s.nat (O.runAheadSlots n) + 1))
    pallets := 3 * bankPallets (s.nat O.wbPorts) (s.nat O.wbLayers) (s.nat O.wbSubbands), chan := chan }

/-- The GDDR7 channel with the fewest pallets of the weight pool (15 R502). -/
def State.wbChannel (s : State) : Option Nat :=
  s.leastChannel fun c => (s.wb.map fun e => if e.2.chan == c then e.2.pallets else 0).sum

/-- A write of WB_DEFINE (08 R288): 1 defines the selected entry, 0 puts it in DELETING. -/
def actWbDefine (v : Int) : Action := fun s =>
  let n := s.nat O.wbOwner
  let i := s.nat O.wbIndex
  if v = 1 then
    let own := ((Store.find s.wb i).map (·.pallets)).getD 0
    if s.wbFree + own < 3 * bankPallets (s.nat O.wbPorts) (s.nat O.wbLayers) (s.nat O.wbSubbands) then (.noPallets, s)
    else match s.wbChannel with
      | none => (.noPallets, s)
      | some c =>
        if 64 ≤ n || !s.isOn (O.carrierEnable n) || decide (s.nat O.wbSwapPeriod < s.nat (O.runAheadSlots n) + 3) then
          (.deadlineInfeasible, s)
        else (.ok, { s with wb := Store.put s.wb i (newEntry s c) })
  else (.ok, sweepEntries (s.onWb i fun e => { e with deleting := true }))

/-- WB_DEFINE. -/
def execWbDefine (x : Xfer) (s : State) : Host.Outcome State Fault Refusal :=
  .next (hostWrite x O.wbDefine (.num 1) (actWbDefine 1) s)

/-- WB_DELETE. -/
def execWbDelete (x : Xfer) (s : State) : Host.Outcome State Fault Refusal :=
  .next (hostWrite x O.wbDefine (.num 0) (actWbDefine 0) s)

/-- The squared norm of layer `l`'s column, in 2⁻²⁸ (08 R268). -/
def columnNorm (ports l : Nat) (data : Bytes) : Int :=
  ((List.range (2 * ports)).map fun i => signedOf 16 (bytesAt data (l * ports * 4 + 2 * i) 2) ^ 2).sum

/-- The weights that a subband of the BACK holds, zero where nothing was written. -/
def backWeights (e : WbEntry) (k : Nat) : Bytes :=
  ((e.bank .back).map fun b => e.weights b k).getD (List.replicate (e.ports * e.layers * 4) 0)

/-- Whether a write changes what the BACK holds (05 R162). -/
def changesBack (e : WbEntry) (w : HeldWrite) : Bool :=
  match w with
  | some (k, data) => backWeights e k != data
  | none => false

/-- A write of a subband of an entry's BACK, by the host or by srs (08 R291); CHANGE_COUNT counts a change once the BACK takes it (05 R162). -/
def writeBack (i band : Nat) (data : Bytes) (s : State) : State :=
  match Store.find s.wb i with
  | some e =>
    let s' := s.onWb i fun e => reachBack e (some (band, data))
    if e.back != .copying && changesBack e (some (band, data)) then s'.bump O.changeCount 1 else s'
  | none => s

/-- A write of WB_WEIGHTS (08 R291, R297); CHANGE_COUNT counts it once the BACK takes it (05 R162). -/
def actWbWeights (data : Bytes) : Action := fun s =>
  match s.wbSel with
  | none => (.noObject, s)
  | some e =>
    if e.deleting then (.noObject, s)
    else if data.length != e.ports * e.layers * 4 then (.typeLength, s)
    else if e.subbands ≤ s.nat O.wbSubband then (.valueRange, s)
    else if (List.range e.layers).any fun l => decide (2 ^ 29 < columnNorm e.ports l data) then (.badCoefficients, s)
    else (.ok, writeBack (s.nat O.wbIndex) (s.nat O.wbSubband) data s)

/-- WRITE_WB_WEIGHTS. -/
def execWriteWbWeights (x : Xfer) (data : Bytes) (s : State) : Host.Outcome State Fault Refusal :=
  .next (hostWrite x O.wbWeights (.bytes data) (actWbWeights data) s)

/-- A write of 1 to WB_COMMIT (08 R291, R297). -/
def actWbCommit : Action := fun s =>
  match s.wbSel with
  | none => (.noObject, s)
  | some e => if e.deleting then (.noObject, s) else (.ok, s.onWb (s.nat O.wbIndex) fun e => reachBack e none)

/-- WB_COMMIT. -/
def execWbCommit (x : Xfer) (s : State) : Host.Outcome State Fault Refusal :=
  .next (hostWrite x O.wbCommit (.num 1) actWbCommit s)

/-- WB_COPY_COMPLETE: the BACK opens, and what waited for it acts in order (08 R291). -/
def execWbCopyComplete (entry : Nat) (s : State) : Host.Outcome State Fault Refusal :=
  .next (match Store.find s.wb entry with
    | some e =>
      if e.back = .copying then
        let r := e.held.foldl (fun (x : WbEntry × Nat) w => (applyBack x.1 w, x.2 + (if changesBack x.1 w then 1 else 0)))
          ({ e with back := BackState.opened, held := [] }, 0)
        let s' := s.onWb entry fun _ => r.1
        if r.2 == 0 then s' else s'.bump O.changeCount r.2
      else s
    | none => s)

/-- STALE_BANK (08 R292, Table 8-4): the swap moves to the next boundary. -/
def staleBank (entry cause : Nat) (e : WbEntry) (next : Int) (s : State) : State :=
  raise s O.staleBankCount entry (leBytes 2 entry ++ leBytes 1 e.owner ++ leBytes 1 cause ++ leBytes 8 (atsOf e.nextB)
    ++ leBytes 8 (atsOf next) ++ leBytes 4 0) 0

/-- The first bank that satisfies a test takes a new role. -/
def retake (p : Bank → Bool) (f : Bank → Bank) : List Bank → List Bank
  | [] => []
  | b :: t => if p b then f b :: t else b :: retake p f t

/-- The swap of an entry is decided: the BACK becomes NEXT, and a FREE bank becomes BACK as a copy of it. -/
def swapDecided (e : WbEntry) : WbEntry :=
  let data := ((e.bank .back).map (·.data)).getD []
  let bad := ((e.bank .back).map (·.bad)).getD []
  let e := e.onRole .back fun b => { b with role := BankRole.next, fromB := e.nextB }
  { e with banks := retake (fun b => b.role = .free) (fun b => { b with role := BankRole.back, data := data, bad := bad }) e.banks
           back := BackState.copying, written := false }

/-- WB_SWAP_DECISION: at D, RUN_AHEAD_SLOTS + 1 slot durations before the boundary that is tested next (08 R292). -/
def execWbSwapDecision (entry : Nat) (s : State) : Host.Outcome State Fault Refusal :=
  match Store.find s.wb entry with
  | none => .next s
  | some e =>
    let s := advanceToAir s (e.nextB - s.slotSpan e.owner (s.nat (O.runAheadSlots e.owner) + 1))
    let next := s.boundaryAfter e.owner e.period e.nextB
    let s' := s.onWb entry fun e => { e with nextB := next }
    match e.back with
    | .copying => .next (staleBank entry 1 e next s')
    | .opened => .next (if e.written then staleBank entry 0 e next s' else s')
    | .committed =>
      if (e.bank .free).isSome then .next (s.onWb entry fun e => { swapDecided e with nextB := next })
      else .next (staleBank entry 2 e next s')

/-- WB_SWAP_BOUNDARY: at its from-boundary the NEXT becomes FRONT and the FRONT RETIRING, and a RETIRING bank that nobody reads FREE (08
R293). -/
def execWbSwapBoundary (entry : Nat) (s : State) : Host.Outcome State Fault Refusal :=
  match (Store.find s.wb entry).bind fun e => e.bank .next with
  | none => .next s
  | some b =>
    let s := (advanceToAir s b.fromB).bump O.wbSwaps 1
    .next (retireBanks (s.onWb entry fun e =>
      { e with banks := e.banks.map fun b =>
          if b.role = .front then { b with role := BankRole.retiring }
          else if b.role = .next then { b with role := BankRole.front } else b }))

/-! ## Engine operations (08 R266, R267, R269, R283, R294) -/

/-- The subbands of an entry that a set of PRBs lies in. -/
def WbEntry.bandsOf (e : WbEntry) (prbs : Nat) : List Nat :=
  (List.range e.subbands).filter fun b => masksMeet prbs (runMask (b * e.sbPrbs) e.sbPrbs)

/-- The weight-bank entries whose bank fails its CRC for a reader (08 R294): those that a prec reads for its record, in a subband that
holds a PRB of it. -/
def badEntries (s : State) (o : Op) : List Nat :=
  match s.course o.key with
  | none => []
  | some c =>
    match recById c.recs o.id.recId with
    | none => []
    | some r =>
      let site := c.site o.key
      let prbs := recPrbs (s.std site.n) (s.mu site.n) (s.prbs site.n) site.desc r
      (recEntries c.snap r).filter fun i =>
        match (Store.find s.wb i).bind fun e => (e.bankFor c.slotAir).map fun b => (e, b) with
        | some (e, b) => (e.bandsOf prbs).any (e.fails b)
        | none => false

/-! ## What the layer engines compute (08 R274 to R286) -/

/-- The device address of byte `i` of an instance's outputs. -/
def Op.outAddr (o : Op) (i : Nat) : Nat := o.outBases.getD (i / 65536) 0 + i % 65536

/-- `n` bytes from byte `a` of the published outputs of an operation of a course, none where it has none. -/
def State.outBytes (s : State) (key : Nat) (id : OpId) (a n : Nat) : Bytes :=
  match s.liveOp key id with
  | some (_, p) => if p.published && !p.empty then (List.range n).map fun i => memByte s.mem (p.outAddr (a + i)) else []
  | none => []

/-- The cells of an instance's outputs that hold bytes from their start on. -/
def Op.outCells (o : Op) (b : Bytes) : List Host.Cell :=
  (b.take (65536 * min o.outs o.outBases.length)).mapIdx fun i x => (o.outAddr i, x)

/-- The element `k` of a receive port that a course has received in a symbol: of a time-domain port that of its transform, and otherwise that of its
messages. -/
def receivedAt (s : State) (key : Nat) (c : Course) (l q k : Nat) : Int × Int :=
  if s.timeDomain (key / 2 ^ 32 - 1) then (samplesOf (s.outBytes key (opId .fft 0 l q) (4 * k) 4)).headD (0, 0)
  else (Store.at [] c.rx (l * 128 + q)).getD k (0, 0)

/-- The elements that a course has received. -/
def received (s : State) (key : Nat) (c : Course) : Received := fun l q k => Cx.of (receivedAt s key c l q k)

/-- The elements of a PRACH occasion, from its first: of a time-domain port those of the transform from the occasion's first subcarrier on, and
otherwise those of its own messages, whose ports stand from 64 on. -/
def receivedPrach (s : State) (key : Nat) (c : Course) (r : Rec) : Received := fun l q k =>
  if s.timeDomain (key / 2 ^ 32 - 1) then received s key c l q ((if 24 ≤ r.u 6 1 then 1 else 12) * r.u 10 2 + k)
  else Cx.of ((Store.at [] c.rx (l * 128 + 64 + q)).getD k (0, 0))

/-! ## Transforms (06 R188) -/

/-- The useful part of symbol `l` of a course on a carrier's transform grid: the grid point at which it starts, counted from the frame boundary of
carrier air time, and the points of the cyclic prefix before it. -/
def symbolGrid (s : State) (n : Nat) (slotAir : Int) (l : Nat) : Int × Nat :=
  let period : Rat := (1000000 * airNs : Rat) / ((max 1 (s.sampleKsps n) : Nat) : Rat)
  let i := s.slotInSubframe n slotAir
  let point := fun (a : Rat) => -((-(a / period)).floor)
  let at' := fun (k : Nat) => ((slotAir - s.frameOffset n + s.symbolStart n i k : Int) : Rat)
  let useful := point (at' (l + 1) - (s.transform n : Rat) * period)
  (useful, (useful - point (at' l)).toNat)

/-- What a transform engine computes for an instance: the elements of a received symbol without its cyclic prefix, or the samples of a symbol
with it. -/
def transformOut (s : State) (o : Op) (c : Course) : Bytes :=
  let n := o.carrier
  let size := s.transform n
  let lte := s.std n == 0
  let out := match o.id.kind with
    | .fft => symbolElements lte size (12 * s.prbs n) (Store.at [] c.rx (o.id.sym * 128 + o.id.idx))
    | .ifft => symbolSamples lte size (symbolGrid s n c.slotAir o.id.sym).2
        (samplesOf (s.outBytes o.key (opId .asm 0 o.id.sym (o.id.idx / 16)) (o.id.idx % 16 * 48 * s.prbs n) (48 * s.prbs n)))
    | _ => []
  out.flatMap sampleBytes

/-- The PRBs of a record, ascending. -/
def recPrbList (s : State) (key : Nat) (c : Course) (r : Rec) : List Nat :=
  let g := c.site key
  maskList (recPrbs (s.std g.n) (s.mu g.n) (s.prbs g.n) g.desc r) (s.prbs g.n)

/-- The subcarriers of some PRBs. -/
def carriersIn (prbs : List Nat) : List Nat := prbs.flatMap fun p => (List.range 12).map fun i => 12 * p + i

/-- Whether DMRS, or a CDM group that carries no data, takes a subcarrier of a DMRS symbol (06 Table 6-5, byte 30). -/
def Rec.dmrsTakes (r : Rec) (k : Nat) : Bool :=
  let groups := r.u 30 1 / 4 % 4
  if r.u 30 1 % 4 == 2 then decide (k % 6 / 2 < groups) else decide (k % 2 < groups)

/-- The data subcarriers of an allocation in a symbol, among some of all its own: those that neither DMRS nor PTRS takes. -/
def Rec.dataCarriers (r : Rec) (l : Nat) (all ks : List Nat) : List Nat :=
  if r.isAlloc then ks.filter fun k => !(bitOf r.dmrs l && r.dmrsTakes k) && !r.ptrsTakes l (all.filter (· < k)).length else ks

/-- What a channel estimate of a record is made for: the DMRS ports of an allocation in layer order, or the one of a PUCCH. -/
def chestSite (s : State) (key : Nat) (c : Course) (r : Rec) : ChestSite :=
  let ks := carriersIn (recPrbList s key c r)
  let n := key / 2 ^ 32 - 1
  if r.type == 0x11 then
    { bytes := r.bytes, nr := s.nat (O.ulPorts n), ports := ((maskList (r.u 32 2) 16) ++ List.range r.layers).take r.layers
      dmrs := maskList r.dmrs 14, carriers := ks }
  else
    { bytes := r.bytes, nr := s.nat (O.ulPorts n), ports := [0], carriers := ks
      dmrs := (maskList (recSymbols (s.std n) (s.mu n) (c.site key).desc r) 14).filter fun l =>
        ks.any fun k => (Config.dmrs r.bytes l 0 k).isSome }

/-- The groups of `size` PRBs of a record. -/
def prbGroups (size : Nat) (prbs : List Nat) : List (List Nat) :=
  (List.range (ceilDiv prbs.length (max 1 size))).map fun i => (prbs.drop (i * max 1 size)).take (max 1 size)

/-- The symbol in which the filter that a det applies was computed: the first data symbol after the last DMRS symbol before it, or the first
data symbol of all (08 R275). -/
def filterSymbol (r : Rec) (l : Nat) : Nat :=
  let starts := (maskList r.dmrs 14).filterMap fun d => r.dataSymbols.find? fun x => decide (d < x)
  ((starts.filter fun x => decide (x ≤ l)).getLast?).getD (r.dataSymbols.headD l)

/-- The filter and the channel of one PRB group. -/
def groupFilter (site : ChestSite) (y : Received) (full : Bool) (l : Nat) (prbs : List Nat) : Matrix' × Matrix' :=
  let ks := carriersIn prbs
  let h := site.matrix y l ks
  (h, mmseFilter site.nr site.ports.length h (site.covariance y full ks))

/-- The equalised symbol of a layer on an element, with unit constellation power 1. -/
def equalised (site : ChestSite) (y : Received) (w : Matrix') (l k i : Nat) : Cx :=
  Cx.sum ((List.range site.nr).map fun q => (entryAt w i q).mul (y l q k))

/-- The interference-plus-noise power of each PRB of a record, by element and receive port (08 Table 8-5). -/
def noiseOf (site : ChestSite) (y : Received) (prbs : List Nat) (m : Store Rat) : Store Rat :=
  prbs.foldl (fun m p => Store.put m p (meanOf ((site.pilots (carriersIn [p])).flatMap fun x =>
    (List.range site.nr).map fun q => (site.residual y q x.1 x.2).sq))) m

/-- No measures. -/
def noMeas : Meas := ⟨0, 0, 0, 0, 0, 0, false, (0, 0, 0)⟩

/-- Nothing found. -/
def nothingFound : Found := ⟨false, none, [], none, [], [], none, []⟩

/-- The measures of two operations of a record together. -/
def Meas.join (lead : Bool) (a b : Meas) : Meas :=
  { ta := if lead then b.ta else a.ta, freq := if lead then b.freq else a.freq, powSum := a.powSum + b.powSum, powCount := a.powCount + b.powCount
    sinrSum := a.sinrSum + b.sinrSum, sinrCount := a.sinrCount + b.sinrCount, unbounded := a.unbounded || b.unbounded
    errors := (a.errors.1 + b.errors.1, a.errors.2.1 + b.errors.2.1, a.errors.2.2 + b.errors.2.2) }

/-- What an operation has found joins the result of its record at publication. -/
def UlResult.join (u : UlResult) (x : Found) : UlResult :=
  { u with
    meas := match x.meas with
      | some m => some (Meas.join x.lead (u.meas.getD noMeas) m)
      | none => u.meas
    noise := x.noise.foldl (fun m e => Store.put m e.1 e.2) u.noise
    floor := x.floor.or u.floor
    peaks := if x.floor.isSome then x.peaks else u.peaks
    sinrs := if x.sinrs.isEmpty then u.sinrs else x.sinrs }

/-- The squared magnitudes of elements of some symbols, by symbol, subcarrier and receive port: their sum and number. -/
def powerOf (nr : Nat) (syms ks : List Nat) (y : Received) : Rat × Nat :=
  ((syms.flatMap fun l => ks.flatMap fun k => (List.range nr).map fun q => (y l q k).sq).sum, syms.length * ks.length * nr)

/-- chest measures timing advance, frequency offset, received power, and of a PUCCH the SINR of one layer; it holds its channel estimate as the DMRS
elements that it is computed from. A record's received power is the mean over the record (08 Table 8-3): chest takes that of the symbols that have
arrived with the DMRS, and each det that of its own (log entry 50). -/
def chestFound (s : State) (key : Nat) (c : Course) (r : Rec) (params : List Nat) : Found :=
  let n := key / 2 ^ 32 - 1
  let site := chestSite s key c r
  let y := received s key c
  let prbs := recPrbList s key c r
  let syms := if r.type == 0x11 then site.dmrs else maskList (recSymbols (s.std n) (s.mu n) (c.site key).desc r) 14
  let slot := s.slotInSubframe n c.slotAir
  let spacing := ((s.symbolStart n slot (site.dmrs.getLastD 0) - s.symbolStart n slot (site.dmrs.headD 0)) / airTc).toNat
  let power := powerOf site.nr syms site.carriers y
  let sinrs := if r.type == 0x11 then [] else (prbGroups (params.getD 1 1) prbs).map fun p =>
    let g := groupFilter site y (params.getD 0 1 == 1) (syms.headD 0) p
    sinrOf site.nr g.1 g.2 0
  { nothingFound with
    lead := true, noise := noiseOf site y prbs []
    pilots := site.dmrs.flatMap fun l => (List.range site.nr).map fun q => (l * 128 + q, site.carriers.map (receivedAt s key c l q))
    meas := some { noMeas with
      ta := site.advance y (s.mu n), freq := site.offset y spacing, powSum := power.1, powCount := power.2
      sinrSum := (sinrs.map fun x => x.getD 0).sum, sinrCount := sinrs.length, unbounded := sinrs.any Option.isNone } }

/-- What an operation on a layer engine computes: its output bytes, the output components that saturated, and what it has found. -/
structure LayerOut where
  bytes : Bytes
  sat   : Nat
  found : Found

/-- The elements that the det of a symbol works on: the DMRS elements that its chest holds, and those of its own symbol (08 R270). -/
def detReceived (s : State) (key : Nat) (c : Course) (site : ChestSite) (recId sym : Nat) : Received :=
  let held := (((s.liveOp key (opId .chest recId 255 0)).bind fun p => p.2.found).map (·.pilots)).getD []
  fun l q k =>
    match Store.find held (l * 128 + q) with
    | some v => Cx.of (v.getD (site.carriers.filter (· < k)).length (0, 0))
    | none => if l == sym then received s key c l q k else .zero

/-- The filter of a det, by the symbol, DET_MODE and DET_PRB_GROUP that it is computed with (08 R275): the instance of the first data symbol after a
DMRS symbol computes it, and every other one applies the latest that was computed, or, where none was yet, its own (log entry 50). -/
def detFilter (r : Rec) (l : Nat) (params : List Nat) (u : UlResult) : Nat × Nat × Nat :=
  let own := (l, params.getD 0 1, params.getD 1 1)
  if filterSymbol r l == l then own else u.filter.getD own

/-- The data subcarriers of each PRB group of a det with its filter. -/
def detGroups (s : State) (key : Nat) (c : Course) (r : Rec) (l : Nat) (y : Received) (w : Nat × Nat × Nat) :
    List (List Nat × Matrix' × Matrix') :=
  let site := chestSite s key c r
  (prbGroups w.2.2 (recPrbList s key c r)).map fun p =>
    (r.dataCarriers l site.carriers (carriersIn p), groupFilter site y (w.2.1 == 1) w.1 p)

/-- The sums of SINRs given with how many elements each stands for; none where one is without bound. -/
def sinrSums (l : List (Nat × Option Rat)) : Meas :=
  { noMeas with
    sinrSum := (l.map fun x => ((x.1 : Nat) : Rat) * x.2.getD 0).sum, sinrCount := (l.map (·.1)).sum
    unbounded := l.any fun x => x.2.isNone && x.1 != 0 }

/-- The sums of the error vectors of symbols in Q3.12. -/
def errorsOf (qm : Nat) (points : List (List Cx)) : Rat × Rat × Rat :=
  (points.flatMap fun z => z.mapIdx (errorSums qm)).foldl (fun (a : Rat × Rat × Rat) e => (a.1 + e.1, a.2.1 + e.2.1, a.2.2 + e.2.2)) (0, 0, 0)

/-- det: the equalised symbols of each layer, then the SINR of each PRB group and layer (08 R276). SINR and EVM of a DFT-s-OFDM allocation are taken
on the tile (R277). -/
def detOut (s : State) (key : Nat) (c : Course) (r : Rec) (l : Nat) (params : List Nat) (u : UlResult) : LayerOut :=
  let site := chestSite s key c r
  let y := detReceived s key c site r.id l
  let layers := List.range site.ports.length
  let groups := detGroups s key c r l y (detFilter r l params u)
  let out := layers.map fun i => groups.flatMap fun g => g.1.map fun k => sampleOf ((equalised site y g.2.2 l k i).scale 4096)
  let sinr := groups.flatMap fun g => layers.map fun i => (g.1.length, sinrOf site.nr g.2.1 g.2.2 i)
  let power := if bitOf r.dmrs l then (0, 0) else powerOf site.nr [l] site.carriers y
  let measured := if bitOf r.flags 1 then noMeas else { sinrSums sinr with errors := errorsOf r.qm (out.map fun z => z.map fun x => Cx.of x.1) }
  { bytes := (out.flatten.flatMap fun x => sampleBytes x.1) ++ sinr.flatMap fun x => leBytes 2 (codeOf 16 (sinrField 256 (-32768) 32767 x.2))
    sat := (out.flatten.map (·.2)).sum
    found := { nothingFound with meas := some { measured with powSum := power.1, powCount := power.2 } } }

/-- What the tile's demod finds of a DFT-s-OFDM allocation (08 R277): from the Q3.12 output and the SINRs of its det, the EVM of the symbols after the
inverse DFT, and the SINR that the mean gain over a symbol's elements gives (log entry 50). -/
def demodFound (s : State) (key : Nat) (c : Course) (r : Rec) (l : Nat) : Found :=
  let ks := carriersIn (recPrbList s key c r)
  let count := (r.dataCarriers l ks ks).length
  let det := opId .det r.id l 0
  let size := (((c.result r.id).filter).map (·.2.2)).getD 1
  let groups := (prbGroups size (recPrbList s key c r)).map fun p => (r.dataCarriers l ks (carriersIn p)).length
  let points := (List.range r.layers).map fun i => inverseDft ((samplesOf (s.outBytes key det (4 * i * count) (4 * count))).map Cx.of)
  let field := s.outBytes key det (4 * r.layers * count) (2 * groups.length * r.layers)
  let gains := (groups.mapIdx fun g n => (List.range r.layers).map fun i =>
    let q := tenTo ((signedOf 16 (bytesAt field (2 * (g * r.layers + i)) 2) : Int) / 2560)
    ((n : Nat) : Rat) * (q / (1 + q))).flatten
  let weight := count * r.layers
  let mean := if weight = 0 then 0 else gains.sum / (weight : Rat)
  { nothingFound with
    meas := some { sinrSums [(weight, if mean < 1 then some (mean / (1 - mean)) else none)] with errors := errorsOf r.qm points } }

/-- The weight of layer `i` on port `p` for a PRB (08 R280, R287): of the entry's bank for the course, or without weights a layer's own port. -/
def weightOf (s : State) (c : Course) (entry : Option Nat) (prb i p : Nat) : Int × Int :=
  match entry with
  | none => if i = p then (16384, 0) else (0, 0)
  | some n => match Store.find s.wb n with
    | none => (0, 0)
    | some e =>
      let data := ((e.bankFor c.slotAir).bind fun b => Store.find b.data (prb / max 1 e.sbPrbs)).getD []
      (signedOf 16 (bytesAt data ((i * e.ports + p) * 4) 2), signedOf 16 (bytesAt data ((i * e.ports + p) * 4 + 2) 2))

/-- The symbol of layer `i` on data element `j` of a symbol, as mod, or ctl, writes it: by symbol, layer and element (log entry 50). -/
def layerSymbol (s : State) (key : Nat) (r : Rec) (counts : List (Nat × Nat)) (l i j : Nat) : Int × Int :=
  let first := r.cwLayers 0
  let cw := if r.type == 0x01 && decide (first ≤ i) then 1 else 0
  let own := if r.type == 0x01 then r.cwLayers cw else 1
  let before := ((counts.filter fun x => x.1 < l).map (·.2)).sum
  let here := ((counts.find? fun x => x.1 == l).map (·.2)).getD 0
  let at' := before * own + (if cw = 1 then i - first else i) * here + j
  let id := if r.type == 0x01 then opId .mod r.id 255 cw else opId .ctl r.id 255 0
  (samplesOf (s.outBytes key id (4 * at') 4)).headD (0, 0)

/-- prec: the port samples of each symbol of the record, by symbol, port and subcarrier (08 R280, R281). -/
def precOut (s : State) (key : Nat) (c : Course) (r : Rec) (params : List Nat) : LayerOut :=
  let n := key / 2 ^ 32 - 1
  let ks := carriersIn (recPrbList s key c r)
  let syms := maskList (recSymbols (s.std n) (s.mu n) (c.site key).desc r) 14
  let counts := syms.map fun l => (l, (r.dataCarriers l ks ks).length)
  let entry := (recEntries c.snap r).head?
  let power := signedOf 8 (match r.type with | 0x01 => r.u 45 1 | 0x02 => r.u 36 1 | 0x03 => r.u 12 1 | _ => r.u 17 1)
  let e := power - 4 * (params.getD 2 12 : Nat)
  let layers := List.range (if r.type == 0x01 then r.layers else 1)
  let out := syms.flatMap fun l => (List.range (s.nat (O.dlPorts n))).flatMap fun p => (r.dataCarriers l ks ks).mapIdx fun j k =>
    precSample e (layers.map fun i => weightOf s c entry (k / 12) i p) (layers.map fun i => layerSymbol s key r counts l i j)
  { bytes := out.flatMap fun x => sampleBytes x.1, sat := (out.map (·.2)).sum, found := nothingFound }

/-- prach: the noise floor and the preambles detected (08 R282, R283). -/
def prachFound (nr : Nat) (y0 : Received) (r : Rec) (params : List Nat) : Found :=
  let y : Received := fun i q k => y0 (r.u 8 1 + i) q k
  let shape := Config.prachShape r.bytes
  let threshold := if r.u 18 2 = 0 then params.getD 3 150 else r.u 18 2
  if 24 ≤ r.u 6 1 then
    let power := fun (i : Nat) => nprachPower r.bytes nr shape.2 y i
    let floor := meanOf (((List.range 48).drop (r.u 16 1)).map power)
    let found := ((List.range (r.u 16 1)).filter fun i => exceeds (power i) floor threshold).map fun i =>
      (power i, (⟨i, nprachAdvance r.bytes nr shape.2 y i,
        (if floor = 0 then 65535 else (decibels 10 0 65535 (power i / floor)).toNat)⟩ : Preamble))
    { nothingFound with floor := some (decibels 10 (-32768) 32767 (floor / (2 ^ 30 : Nat))), peaks := (found.foldl (fun l p => insertPeak p l) []).map (·.2) }
  else
    let bins := prachCorr (r.u 6 1)
    let power := corrPower r.bytes nr bins shape.2 shape.1 y
    let floor := noiseFloor r.bytes bins (Config.prachRoots r.bytes) (r.u 16 1) power
    { nothingFound with
             floor := some (decibels 10 (-32768) 32767 (floor / (2 ^ 30 : Nat)))
             peaks := preamblesFound r.bytes (r.u 16 1) threshold floor power }

/-- The PRBs of an SRS record by subband of SRS subband size. -/
def srsBands (r : Rec) : List (List Nat) :=
  prbGroups (r.u 20 1) ((List.range (r.u 18 2)).map (r.u 16 2 + ·))

/-- The weights that srs computes of a subband: the dominant eigenvectors of the channel's covariance over it in its min(L, Ps) columns, and
zero in the others (08 R286). -/
def srsWeights (s : State) (key : Nat) (c : Course) (r : Rec) (e : WbEntry) (band : Nat) : Bytes :=
  let site := c.site key
  let prbs := maskList (Nat.land (recPrbs (s.std site.n) (s.mu site.n) (s.prbs site.n) site.desc r) (runMask (band * e.sbPrbs) e.sbPrbs)) 1024
  let cov := srsCovariance r.bytes e.ports (r.u 8 1) (maskList (runMask (r.u 9 1) (r.u 10 1)) 14) (received s key c) (carriersIn prbs)
  let used := min e.layers (r.u 8 1)
  (eigenWeights cov used).flatten.flatMap sampleBytes ++ List.replicate ((e.layers - used) * e.ports * 4) 0

/-- The weights of the subbands that an srs has sounded, where its entry's requirement is met (08 R286). -/
def srsUpdate (s : State) (key : Nat) (c : Course) (r : Rec) : Option (Store Bytes) :=
  let site := c.site key
  (srsUpdates s site.n r).map fun e =>
    (e.bandsOf (recPrbs (s.std site.n) (s.mu site.n) (s.prbs site.n) site.desc r)).map fun b => (b, srsWeights s key c r e b)

/-- srs: the SINR of each port and subband, the wideband SINR and the timing advance (08 R285), and the weights of its entry (R286). -/
def srsFound (s : State) (key : Nat) (c : Course) (r : Rec) : Found :=
  let n := key / 2 ^ 32 - 1
  let nr := s.nat (O.ulPorts n)
  let y := received s key c
  let syms := maskList (runMask (r.u 9 1) (r.u 10 1)) 14
  let sinrs := (List.range (r.u 8 1)).flatMap fun p => (srsBands r).map fun b => srsSinr r.bytes nr syms y p (carriersIn b)
  let mean := meanSinr sinrs
  let ks := carriersIn (srsBands r).flatten
  let comb := srsComb r.bytes (syms.headD 0) 0 ks
  let d := max 1 (comb.getD 1 0 - comb.getD 0 0)
  let turns := turnOf (Cx.sum (syms.flatMap fun l => (List.range nr).flatMap fun q => (List.range (r.u 8 1)).flatMap fun p =>
    let comb := srsComb r.bytes l p ks
    (comb.zip (comb.drop 1)).map fun x => (srsLs r.bytes y q p l x.1).conj.mul (srsLs r.bytes y q p l x.2)))
  let top : Int := (32768 / 2 ^ s.mu n : Nat)
  let noise := (srsBands r).flatten.foldl (fun m p => Store.put m p (meanOf (syms.flatMap fun l => (List.range nr).flatMap fun q =>
    (List.range (r.u 8 1)).flatMap fun a => (srsPairs r.bytes y q a l (carriersIn [p])).map fun x => (x.1.sub x.2).sq))) []
  { nothingFound with
    lead := true, sinrs := sinrs.map (sinrField 10 (-32768) 32767), noise := noise, weights := srsUpdate s key c r
    meas := some { noMeas with
      ta := clampInt (max (-32768) (-top)) (min 32767 top) (roundEven (-turns * 131072 / ((2 ^ s.mu n * d : Nat) : Rat)))
      freq := -32768, sinrSum := mean.getD 0, sinrCount := 1, unbounded := mean.isNone } }

/-- What an instance computes on its layer engine. -/
def layerOut (s : State) (o : Op) (c : Course) (r : Rec) : LayerOut :=
  match o.id.kind with
  | .chest => ⟨[], 0, chestFound s o.key c r o.params⟩
  | .det => detOut s o.key c r o.id.sym o.params (c.result r.id)
  | .prec => precOut s o.key c r o.params
  | .prach => ⟨[], 0, prachFound (s.nat (O.ulPorts o.carrier)) (receivedPrach s o.key c r) r o.params⟩
  | .srs => ⟨[], 0, srsFound s o.key c r⟩
  | _ => ⟨[], 0, nothingFound⟩

/-- The statistics of an operation that ended (08 Table 8-8). -/
def countLayer (o : Op) (saturated detections : Nat) (s : State) : State :=
  match o.id.kind with
  | .det => s.bump O.detSaturated saturated
  | .prec => s.bump O.precSaturated saturated
  | .prach => (s.bump O.prachOccasions 1).bump O.prachDetections detections
  | _ => s

/-- An instance's outputs and what it has found are staged until the scheduler publishes them; the filter that a det has computed is held for the
det instances that follow it. -/
def layerDone (tag : Nat) (o : Op) (s : State) : State :=
  match s.course o.key with
  | none => s
  | some c => match recById c.recs o.id.recId with
    | none => s
    | some r =>
      let x := layerOut s o c r
      let s := (countLayer o x.sat x.found.peaks.length s).onOp tag fun o => { o with data := o.outCells x.bytes, found := some x.found }
      if o.id.kind == .det then s.onCourse o.key fun c =>
        let u := c.result r.id
        { c with results := Store.put c.results r.id { u with filter := some (detFilter r o.id.sym o.params u) } }
      else s

/-- An operation on a layer engine ends: what it wrote is staged until the scheduler publishes it; a reader that met a weight-bank CRC
mismatch yields an empty token. A pending cancel token makes the end a cancel (08 R266). -/
def layerEnd (tag : Nat) (o : Op) (s : State) : State :=
  let s := s.bump O.leOps 1
  if o.cancel then ackCancel tag (s.bump O.leCancelled 1)
  else
    let bad := if o.id.kind == .prec then badEntries s o else []
    let s := bad.foldl (fun s i => caughtBeforeUse i s) s
    if bad.isEmpty then (layerDone tag o s).onOp tag fun o => { o with ended := some .ok }
    else s.onOp tag fun o => { o with ended := some .dataLost }

/-- A fused job by its tag: the tile slot and the fused slot that hold it. -/
def State.fusedOf (s : State) (tag : Nat) : Option (Nat × Nat × FusedJob) :=
  (s.tiles.flatMap fun t => t.2.jobs.map fun j => (t.1, j.1, j.2)).find? fun x => x.2.2.tag == tag && !x.2.2.settled

/-- The state with a fused job changed. -/
def State.onJob (s : State) (t slot : Nat) (f : FusedJob → FusedJob) : State :=
  match Store.find s.tiles t with
  | some x => match Store.find x.jobs slot with
    | some j => { s with tiles := Store.put s.tiles t { x with jobs := Store.put x.jobs slot (f j) } }
    | none => s
  | none => s

/-- A fused job ends: bytes 0 to 3 of its result record stand with its staged outputs (12 R420); a pending cancel token makes the end a
cancel (12 R422), which a layer engine counts (08 Table 8-8). -/
def fusedEnd (t slot : Nat) (word : Nat) (j : FusedJob) (s : State) : State :=
  if j.cancel then
    let s := if j.cls == 2 then s.bump O.leCancelled 1 else s
    (s.onJob t slot fun j => { j with settled := true, cancelled := true }).bump O.fusedCancelled 1
  else s.onJob t slot fun j => { j with ended := true, word := word }

/-- A cancel token acts on a fused job (12 R421, R422): committed, the job settles as cancelled; one whose FUSE was squashed is gone and
its slot free. -/
def fusedCancel (t slot : Nat) (j : FusedJob) (s : State) : State :=
  if j.cancel then (s.onJob t slot fun j => { j with settled := true, cancelled := true }).bump O.fusedCancelled 1
  else
    match Store.find s.tiles t with
    | some x => { s with tiles := Store.put s.tiles t { x with jobs := Store.drop x.jobs slot } }.bump O.fusedSquashed 1
    | none => s

/-- LE_OPERATION_END: an engine ends the operation, or the fused job, of a tag (08 R266). -/
def execLeOperationEnd (tag : Nat) (s : State) : Host.Outcome State Fault Refusal :=
  match s.op tag with
  | some o =>
    if o.cls == 3 && o.state == .running && o.ended.isNone then .next (layerEnd tag o s) else .next s
  | none =>
    match s.fusedOf tag with
    | some (t, slot, j) =>
      if 2 ≤ j.cls && j.sent && !j.ended then
        let s := if j.cls == 2 then s.bump O.leOps 1 else s
        .next (fusedEnd t slot (leNat [BitVec.ofNat 8 j.kind, 0, BitVec.ofNat 8 j.gen, 0]) j s)
      else .next s
    | none => .next s

/-- LE_CANCEL_TOKEN: the token stops a running operation, removes one that has not started, or discards what is staged; after publication
it is ignored (08 R266). -/
def execLeCancelToken (tag : Nat) (s : State) : Host.Outcome State Fault Refusal :=
  match s.op tag with
  | some o =>
    if o.cls == 3 && o.cancel && !o.published then
      let s := if o.ended.isNone then s.bump O.leOps 1 else s
      .next (ackCancel tag (s.bump O.leCancelled 1))
    else .next s
  | none =>
    match s.fusedOf tag with
    | some (t, slot, j) =>
      if j.cls == 2 then
        let s := if j.ended then s else s.bump O.leOps 1
        .next (fusedCancel t slot j (s.bump O.leCancelled 1))
      else if j.cls == 3 then .next (fusedCancel t slot j s) else .next s
    | none => .next s

/-- The engine of the slot of a fused job that a tile task holds: the slots of a task and its engines stand in one order (12 R408). -/
def State.slotEngine (s : State) (t slot : Nat) : Option (Nat × Nat) :=
  ((Store.find s.tiles t).bind fun c => s.op c.tag).bind fun o => o.fused[slot]?

/-- The fused jobs that an engine runs, with their tile and fused slots; a decode that is suspended has released it. -/
def State.fusedOn (s : State) (cls unit : Nat) : List (Nat × Nat × FusedJob) :=
  (s.tiles.flatMap fun t => t.2.jobs.map fun j => (t.1, j.1, j.2)).filter fun x =>
    x.2.2.onEngine && s.slotEngine x.1 x.2.1 == some (cls, unit) && !((Store.find s.kiln.jobs x.2.2.tag).map (·.susp)).getD false

/-- The operations that an engine runs, those of fused jobs among them. -/
def runningOn (s : State) (cls unit : Nat) : Nat :=
  (s.sched.ops.filter fun e => e.2.cls == cls && e.2.unit == unit && e.2.onEngine).length + (s.fusedOn cls unit).length

/-- A layer engine in service faults: it leaves service, a spare serves in its place, and what it ran runs again, a fused job from its descriptor
under its ticket, with nothing staged (08 R265, R267; 12 R423). -/
def layerFault (n cause : Nat) (s : State) : State :=
  if leClass.service s n then
    let k := runningOn s 3 n
    let fused := s.fusedOn 3 n
    fused.foldl (fun s x => s.onJob x.1 x.2.1 fun j => { j with staged := [] })
      (leClass.failed n cause ((s.bump O.leEngineFaults k).bump O.leOps k))
  else s

/-- LE_ENGINE_FAULT. -/
def execLeEngineFault (n : Nat) (s : State) : Host.Outcome State Fault Refusal :=
  if 34 ≤ n then .fault .noSuchUnit else .next (layerFault n 0 s)

/-- XE_ENGINE_FAULT: xe16 serves in the engine's place (17 R569). -/
def execXeEngineFault (n : Nat) (s : State) : Host.Outcome State Fault Refusal :=
  if 17 ≤ n then .fault .noSuchUnit else .next (xeClass.failed n 0 s)

end Sys2Proof.Machine
end

