-- ==== Sys2Proof/Machine/Loading.lean ====
section
/-! DEFINITION. The loading table of a carrier (08 R295), and the end of a course. -/

namespace Sys2Proof.Machine

/-! ## The loading table (08 R295) -/

/-- The PRB-symbols that a record takes of a set of PRBs. -/
def takenIn (s : State) (n : Nat) (d : Desc) (prbs : Nat) (r : Rec) : Nat :=
  maskCount (Nat.land (recPrbs (s.std n) (s.mu n) (s.prbs n) d r) prbs) * maskCount (recSymbols (s.std n) (s.mu n) d r)

/-- The most layers of PUSCH on any PRB of a set in any symbol. -/
def mostLayers (s : State) (n : Nat) (d : Desc) (prbs : Nat) : Nat :=
  (maskList prbs 273).foldl (fun m p => (List.range 14).foldl (fun m l =>
    max m ((d.recs.filter fun r => r.type == 0x11 && bitOf (recPrbs (s.std n) (s.mu n) (s.prbs n) d r) p
      && bitOf (recSymbols (s.std n) (s.mu n) d r) l).map Rec.layers).sum) m) 0

/-- The SRS SINRs of a record whose subbands meet a set of PRBs. -/
def sinrsIn (c : Course) (prbs : Nat) (r : Rec) : List Int :=
  let bands := srsBands r
  let hit := (List.range bands.length).filter fun i => (bands.getD i []).any fun p => bitOf prbs p
  (List.range (r.u 8 1)).flatMap fun p => hit.filterMap fun i => (c.result r.id).sinrs[p * bands.length + i]?

/-- An entry of the table; 0x8000 stands where nothing was measured. -/
def loadEntry (s : State) (n : Nat) (c : Course) (k : Nat) : Bytes :=
  let d : Desc := ⟨c.first, c.last, c.recs⟩
  let width := s.nat O.loadSbPrbs
  let prbs := rbgMask width (s.prbs n) k
  let here := d.recs.filter fun r => takenIn s n d prbs r != 0
  let sounded := here.filter fun r => r.type == 0x14
  let none' : Nat := 0x8000
  let noise := here.flatMap fun r => ((c.result r.id).noise.filter fun x => bitOf prbs x.1).map (·.2)
  let sinrs := sounded.flatMap (sinrsIn c prbs)
  let taken := ((here.filter fun r => r.type == 0x11 || r.type == 0x12).map (takenIn s n d prbs)).sum
  let room := maskCount prbs * d.symbols.length
  leBytes 2 (if noise.isEmpty then none' else codeOf 16 (decibels 10 (-32767) 32767 (meanOf noise / (2 ^ 30 : Nat))))
    ++ leBytes 2 (if sinrs.isEmpty then none' else codeOf 16 (sinrs.foldl max (-32767)))
    ++ leBytes 1 (freeDiv 14 (100 * taken) (max 1 room)).toNat ++ leBytes 1 ((sounded.filterMap Rec.ue).eraseDups.length)
    ++ leBytes 1 (mostLayers s n d prbs) ++ leBytes 1 0

/-- The loading table of a carrier is rewritten from an uplink course. -/
def writeLoading (key : Nat) (c : Course) (s : State) : State :=
  let n := key / 2 ^ 32 - 1
  let width := s.nat O.loadSbPrbs
  let count := ceilDiv (s.prbs n) (max 1 width)
  let head := leBytes 1 n ++ leBytes 1 count ++ leBytes 1 width ++ leBytes 1 0 ++ leBytes 4 (key % 2 ^ 32) ++ leBytes 8 c.ats
  (s.setBlob (O.loadTable n) (head ++ (List.range count).flatMap (loadEntry s n c))).bump (O.loadUpdates n) 1

/-! ## The end of a course (03 Table 3-4) -/

/-- A course reaches ENDED: the loading table is rewritten from an uplink course, and the banks that nothing reads any more become FREE (08 R293,
R295). A course that has ended already does not end again. -/
def endCourse (key : Nat) (s : State) : State :=
  match s.course key with
  | some c =>
    if c.state == .closed || c.state == .ended then s
    else
      let s := s.onCourse key fun c => { c with state := CourseState.ended }
      retireBanks (if dirOf (key % 2 ^ 32) == 1 then writeLoading key c s else s)
  | none => s

end Sys2Proof.Machine
end

