-- ==== Sys2Proof/Machine/Encoder.lean ====
section
/-! DEFINITION. The encoders of the kiln (07 R233, R253 to R255): segmentation with its cyclic redundancy checks, LDPC, turbo and polar
encoding, and rate matching. What TS 38.212 and TS 36.212 tabulate is Config's, as in the decoders (log entry 49). -/

namespace Sys2Proof.Machine

/-- A bit string with its CRC behind it. -/
def withCrc (kind : Nat) (bits : List Bool) : List Bool := bits ++ natBits (crcKind kind).1 (crcOf kind bits)

/-- The first `n` bits, with zeros where there are fewer. -/
def firstBits (n : Nat) (bits : List Bool) : List Bool := (bits ++ List.replicate n false).take n

/-- The parity of the bits at some places. -/
def parityAt (places : List Nat) (bits : List Bool) : Bool := (places.filter fun p => bits.getD p false).length % 2 == 1

/-! ## LDPC (TS 38.212 clauses 5.3.2 and 5.4.2) -/

/-- A linear equation over bits: its coefficients and its right-hand side. -/
structure BitEq where
  coef : List Bool
  rhs  : Bool
  deriving DecidableEq, Repr

/-- An equation without its first unknown, from which `p`, which holds that unknown, takes it where the equation holds it too. -/
def BitEq.without (p e : BitEq) : BitEq :=
  if e.coef.headD false then ⟨(e.coef.tail.zip p.coef.tail).map fun x => x.1 ^^ x.2, e.rhs ^^ p.rhs⟩ else ⟨e.coef.tail, e.rhs⟩

/-- Equations in `n` unknowns solved by elimination; an unknown that none of them holds is 0. -/
def solveBits : Nat → List BitEq → List Bool
  | 0, _ => []
  | n + 1, l =>
    match l.find? fun e => e.coef.headD false with
    | some p =>
      let t := solveBits n ((l.erase p).map p.without)
      (p.rhs ^^ ((p.coef.tail.zip t).filter fun x => x.1 && x.2).length % 2 == 1) :: t
    | none => false :: solveBits n (l.map fun e => ⟨e.coef.tail, e.rhs⟩)

/-- The rows of a base graph. -/
def graphRows (bg : Nat) : Nat := if bg == 1 then 46 else 42

/-- The code word of an LDPC code: the block with its filler as zeros, and the parity bits that satisfy every check. -/
def Code.ldpcWord (c : Code) (bits : List Bool) : List Bool :=
  let rows := graphRows c.bg
  let k := sysColumns c.bg * c.z
  let info := firstBits k bits
  let eqs := (List.range (rows * c.z)).map fun i =>
    let places := c.checkPlaces rows (i / max 1 c.z) (i % max 1 c.z)
    (⟨(List.range (rows * c.z)).map fun j => places.contains (k + j), parityAt (places.filter (· < k)) info⟩ : BitEq)
  info ++ solveBits (rows * c.z) eqs

/-! ## Turbo (TS 36.212 clauses 5.1.3 and 5.1.4) -/

/-- The parity bits of a constituent code over some inputs, and its state after them. -/
def parityRun : Nat → List Bool → List Bool × Nat
  | state, [] => ([], state)
  | state, u :: t => let x := trellisStep state u; let r := parityRun x.2 t; (x.1 :: r.1, r.2)

/-- The inputs that return a state to zero in three steps. -/
def tailInputs (state : Nat) : Nat → List Bool
  | 0 => []
  | n + 1 => let u := bitOf state 1 ^^ bitOf state 2; u :: tailInputs (trellisStep state u).2 n

/-- The bits of a turbo code word by place, stream × (K + 4) + bit, of a block of K bits. -/
def turboWord (k : Nat) (bits : List Bool) : List Bool :=
  let info := firstBits k bits
  let turned := (List.range k).map fun i => info.getD (qppAt k i) false
  let p1 := parityRun 0 info
  let p2 := parityRun 0 turned
  let put := fun (l : List Bool) (second : Bool) (state : Nat) =>
    let u := tailInputs state 3
    let z := (parityRun state u).1
    ((tailPlaces k second).zip (u.zip z)).foldl (fun (l : List Bool) x => (l.set x.1.1 x.2.1).set x.1.2 x.2.2) l
  let streams := info ++ List.replicate 4 false ++ p1.1 ++ List.replicate 4 false ++ p2.1 ++ List.replicate 4 false
  put (put streams false p1.2) true p2.2

/-! ## Rate matching and transport blocks -/

/-- E bits of a code word in the order of transmission: from the start of the redundancy version around the circular buffer, and of an LDPC code
interleaved in Qm rows. -/
def Code.send (c : Code) (kind e : Nat) (word : List Bool) : List Bool :=
  let order := c.order kind
  let places := c.buffer kind
  let bits := (List.range e).map fun k => word.getD (places.getD (order.getD (k % max 1 order.length) 0) 0) false
  if isTurbo kind || c.qm ≤ 1 then bits
  else (List.range e).map fun t => bits.getD (t % c.qm * (e / c.qm) + t / c.qm) false

/-- What an encode of a codeword takes from its descriptor (07 Table 7-6). -/
structure Encode where
  turbo  : Bool
  tbs    : Nat
  rate   : Nat
  rv     : Nat
  qm     : Nat
  layers : Nat
  g      : Nat
  deriving DecidableEq, Repr

/-- The segmentation of an encode. -/
def Encode.segments (x : Encode) : Segments := if x.turbo then turboSegments x.tbs else ldpcSegments x.tbs x.rate

/-- The parameters of block `i` of an encode, whose circular buffer is whole. -/
def Encode.code (x : Encode) (i : Nat) : Code :=
  let sg := x.segments
  let t := turboBlock x.tbs i
  if x.turbo then
    { z := t.1, bg := 0, rv := x.rv, kp := t.1 - t.2.1, fill := t.2.1, ncb := 3 * t.1 + 12, qm := x.qm, crc := 0, kept := 0, tail := 0 }
  else
    { z := sg.zc, bg := sg.bg, rv := x.rv, kp := sg.kp, fill := sysColumns sg.bg * sg.zc - sg.kp, ncb := sg.ncb, qm := x.qm, crc := 0
      kept := 0, tail := 0 }

/-- The bits of block `i` before its own CRC, from the transport block with its CRC. -/
def Encode.part (x : Encode) (tb : List Bool) (i : Nat) : List Bool :=
  let sg := x.segments
  let crc := if 1 < sg.c then 24 else 0
  if x.turbo then
    let t := turboBlock x.tbs i
    let n := t.1 - t.2.1 - crc
    List.replicate t.2.1 false ++ firstBits n (tb.drop (tb.length - t.2.2 - n))
  else firstBits (sg.kp - crc) (tb.drop (i * (sg.kp - crc)))

/-- The coded bits of a codeword (07 R233): the transport block's CRC, segmentation with the CRC of each block, encoding, rate matching, and the
blocks one after another. -/
def Encode.bits (x : Encode) (data : List Bool) : List Bool :=
  let sg := x.segments
  let tb := withCrc (if sg.crc == 24 then 2 else 3) (firstBits x.tbs data)
  let kind := if x.turbo then 0x12 else 0x11
  (List.range sg.c).flatMap fun i =>
    let b := x.part tb i
    let b := if 1 < sg.c then withCrc 1 b else b
    let c := x.code i
    c.send kind (blockBits x.g (max 1 (x.qm * x.layers)) sg.c i) (if x.turbo then turboWord c.z b else c.ldpcWord b)

/-! ## Polar (TS 38.212 clauses 5.3.1 and 5.4.1) -/

/-- What a polar encode takes from its descriptor: its use, 0 DCI and 1 PBCH, the RNTI that masks its CRC, 0 for none, and E. -/
structure PolarEncode where
  use  : Nat
  rnti : Nat
  e    : Nat
  deriving DecidableEq, Repr

/-- A payload with its CRC24C: that of a DCI is computed behind 24 ones, and the RNTI masks its last 16 bits. -/
def PolarEncode.withCrc (x : PolarEncode) (payload : List Bool) : List Bool :=
  let crc := crcOf 4 ((if x.use == 0 then List.replicate 24 true else []) ++ payload)
  payload ++ natBits 24 (Nat.xor crc (x.rnti % 65536))

/-- The input bits of a polar code, by position: frozen ones are 0, parity bits those of earlier positions, and the others carry the
information in order. -/
def polarInput (k e n : Nat) : Nat → List Bool → List Bool → List Bool
  | 0, u, _ => u
  | m + 1, u, info =>
    if Config.polarFrozen k e n u.length then polarInput k e n m (u ++ [false]) info
    else match Config.polarParity k e n u.length with
      | some l => polarInput k e n m (u ++ [parityAt l u]) info
      | none => polarInput k e n m (u ++ [info.headD false]) info.tail

/-- The coded bits of a polar encode (07 R233): CRC, interleaving, allocation of the subchannels, encoding and rate matching. -/
def PolarEncode.bits (x : PolarEncode) (payload : List Bool) : List Bool :=
  let b := x.withCrc payload
  let k := b.length
  let n := polarN k x.e 9
  let turned := (List.range k).map fun i => b.getD (Config.polarTurn k i) false
  let word := polarEncode (Nat.log2 n) (polarInput k x.e n n [] turned)
  (List.range x.e).map fun t => word.getD (Config.polarSent k x.e n t) false

/-! ## Result records (07 R255) -/

/-- The encode result record of 16 bytes. -/
def encodeRecord (kind status c bg size g bytes : Nat) : Bytes :=
  leBytes 1 kind ++ leBytes 1 status ++ leBytes 1 c ++ leBytes 1 bg ++ leBytes 2 size ++ leBytes 4 g ++ leBytes 4 bytes ++ leBytes 2 0

/-- The record of an encode of a codeword, which has written `bytes` bytes. -/
def Encode.record (x : Encode) (status bytes : Nat) : Bytes :=
  encodeRecord (if x.turbo then 2 else 1) status x.segments.c x.segments.bg x.segments.zc x.g bytes

/-- The record of a polar encode: one block, without base graph or size. -/
def PolarEncode.record (x : PolarEncode) (status bytes : Nat) : Bytes := encodeRecord 3 status 1 0 0 x.e bytes

end Sys2Proof.Machine
end

