-- ==== Sys2Proof/Machine/Kiln.lean ====
section
/-! DEFINITION. The kiln (07): what encode and decode jobs read and write, feeds, attempts, the transport-block check, cancel tokens and
engine faults. -/

namespace Sys2Proof.Machine

/-- The state with a job changed. -/
def State.onKiln (s : State) (tag : Nat) (f : Job → Job) : State :=
  match Store.find s.kiln.jobs tag with
  | some j => { s with kiln := { s.kiln with jobs := Store.put s.kiln.jobs tag (f j) } }
  | none => s

/-- The record that an instance works for. -/
def opRec (s : State) (o : Op) : Option Rec := (s.course o.key).bind fun c => recById c.recs o.id.recId

/-! ## What a decode job reads (07 R236, R242, R250, R251) -/

/-- The first `count` LLRs of a code block in transmitted order: each demod writes those of its symbol from the start of its outputs (log
entry 49). -/
def decLlrs (s : State) (o : Op) (r : Rec) (count : Nat) : List Int :=
  let prbs := maskCount (allocPrbs (s.std o.carrier) (s.prbs o.carrier) r)
  let g := r.codedBits prbs
  let lo := blockStart g (r.qm * r.layers) (recSegments s o.carrier r).c o.id.idx
  ((blockSymbols s o.carrier r o.id.idx).flatMap fun l =>
    let a := bitsBefore r prbs g l
    let from' := max lo a
    let to' := min (lo + blockE s o.carrier r o.id.idx) (bitsBefore r prbs g (l + 1))
    (s.outBytes o.key (opId .demod r.id l 0) (from' - a) (to' - from')).map llrOf).take count

/-- The LLRs of a polar decode of UCI: those of its inputs in edge order, and of a PUSCH those that follow the data of its last symbol (log
entry 49). -/
def uciLlrs (s : State) (o : Op) (r : Rec) (count : Nat) : List Int :=
  let prbs := maskCount (allocPrbs (s.std o.carrier) (s.prbs o.carrier) r)
  if r.type == 0x11 then
    let l := r.dataSymbols.getLastD 0
    let a := bitsBefore r prbs (r.codedBits prbs) (l + 1) - bitsBefore r prbs (r.codedBits prbs) l
    (s.outBytes o.key (opId .demod r.id l 0) a count).map llrOf
  else (o.ins.flatMap fun i => (s.outBytes o.key i.1 0 count).map llrOf).take count

/-- The device address that a pointer of a fused job was translated to (12 R415). -/
def FusedJob.translate (j : FusedJob) (addr : Nat) : Nat :=
  match j.pages.find? fun p => p.1 == addr / 0x10000 * 0x10000 with
  | some p => p.2 + addr % 0x10000
  | none => addr

/-- `n` bytes at a tile address, as a fused job of the tile reads them: its task's own stores are seen (11 R387). -/
def State.fusedBytes (s : State) (t : Nat) (j : FusedJob) (addr n : Nat) : Bytes :=
  (List.range n).map fun i =>
    let a := j.translate (addr + i)
    match (Store.find s.tiles t).bind fun c => Store.find c.staged a with
    | some b => b
    | none => memByte s.mem a

/-- The settings of 07 Table 7-11 as a job takes them at its dispatch. -/
def State.kilnSet (s : State) : KilnSet :=
  { alpha := s.nat O.minsumAlpha, extScale := s.nat O.turboExtScale, beta := s.nat O.extrinsicBeta, list := s.nat O.polarList
    ahead := s.nat O.runaheadIter, step := s.nat O.restartStep, stall := s.nat O.stallIter }

/-- A decoder with nothing decoded. -/
def decodeOf (code : Code) (set : KilnSet) (llr base : List Int) : Decode :=
  { code := code, set := set, llr := llr, base := base, prior := [], post := [], msgs := [], run := 0, bits := []
    unsat := 0, best := none, stall := 0, rank := 0, metric := 0, pass := false }

/-- The 64-byte descriptor of a kiln job by the fields of 07 Table 7-6 (R253): `param` is its bytes 8 to 11, `coded` 12 to 15, `limit` 16 and 17,
`crc` byte 19, and `committed`, `new`, `output` and `record` are its pointers beside the input. -/
structure KilnDesc where
  kind      : Nat
  flags     : Nat
  gen       : Nat
  cap       : Nat
  size      : Nat
  bg        : Nat
  rv        : Nat
  param     : Nat
  coded     : Nat
  limit     : Nat
  qm        : Nat
  crc       : Nat
  block     : Nat
  blocks    : Nat
  tbTag     : Nat
  input     : Nat
  committed : Nat
  new       : Nat
  output    : Nat
  record    : Nat
  tag       : Nat
  got       : Nat
  kept      : Nat
  deriving DecidableEq, Repr

/-- The bytes of a descriptor. -/
def KilnDesc.bytes (d : KilnDesc) : Bytes :=
  leBytes 1 d.kind ++ leBytes 1 d.flags ++ leBytes 1 d.gen ++ leBytes 1 d.cap ++ leBytes 2 d.size ++ leBytes 1 d.bg ++ leBytes 1 d.rv
    ++ leBytes 4 d.param ++ leBytes 4 d.coded ++ leBytes 2 d.limit ++ leBytes 1 d.qm ++ leBytes 1 d.crc ++ leBytes 1 d.block
    ++ leBytes 1 d.blocks ++ leBytes 2 d.tbTag ++ leBytes 6 d.input ++ leBytes 6 d.committed ++ leBytes 6 d.new ++ leBytes 6 d.output
    ++ leBytes 6 d.record ++ leBytes 2 d.tag ++ leBytes 4 d.got ++ leBytes 2 d.kept ++ leBytes 2 0

/-- The bits of a transport block behind the payload of a block, as the descriptor places it (07 R248): under LDPC the blocks carry as many bits
each, and under turbo coding those of the smaller size stand before those of the larger. How many there are a descriptor does not say (log entry
49). -/
def descTail (d : Bytes) : Nat :=
  let c := bytesAt d 21 1
  let r := bytesAt d 20 1
  let k := bytesAt d 4 2
  if c ≤ 1 then 0
  else if bytesAt d 0 1 == 0x12 then
    let small := Config.smallBlocks c (bytesAt d 22 2)
    if r < small then (min c small - 1 - r) * (k - 24) + (c - small) * (turboSize (k + 1) - 24) else (c - 1 - r) * (k - 24)
  else (c - 1 - r) * (bytesAt d 8 2 - 24)

/-- The parameters of the decode that a descriptor of 07 Table 7-6 states. -/
def descCode (d : Bytes) : Code :=
  { z := bytesAt d 4 2, bg := bytesAt d 6 1, rv := bytesAt d 7 1, kp := bytesAt d 8 2, fill := bytesAt d 10 2, ncb := bytesAt d 16 2
    qm := bytesAt d 18 1, crc := bytesAt d 19 1, kept := bytesAt d 60 2, tail := descTail d }

/-- The decode job that a descriptor starts (07 R242, R245, R253), with its code, its LLRs, those that it combines with, and RUNAHEAD_FRACTION. -/
def kilnJob (d : Bytes) (code : Code) (set : KilnSet) (llr base : List Int) (fraction : Nat) : Job :=
  let kind := bytesAt d 0 1
  let e := bytesAt d 12 4
  let got := if isPolar kind then e else min e (bytesAt d 56 4)
  let flags := bytesAt d 1 1
  { desc := d, kind := kind, gen := bytesAt d 2 1, e := e, eRx := got, fed := false, begun := got
    cap := if isPolar kind then 1 else bytesAt d 3 1, iters := 0, last := 0, restarts := 0
    bound := ceilDiv (100 - fraction) (max 1 set.step) + 1, ahead := bitOf flags 1, susp := false, final := got == e
    tbTag := bytesAt d 22 2, block := bytesAt d 20 1, c := bytesAt d 21 1, check := bitOf flags 2, combine := bitOf flags 0
    early := false, dropped := false, newVersion := false, checked := false, mismatch := false, status := none
    dec := (decodeOf code set llr base).begin kind e }

/-- Whether Qm is one that rate matching knows, and divides a number of coded bits (07 Table 7-2). -/
def goodQm (qm e : Nat) : Bool := [1, 2, 4, 6, 8, 10].contains qm && e % qm == 0

/-- Whether the CRC kind of a decode is the code's (07 Table 7-3): CRC24B where there are more blocks than one, the transport block's where there is
one, and kind 0 leaves the check out. -/
def goodCrc (kind c crc : Nat) : Bool :=
  crc == 0 || (if 1 < c then crc == 1 else crc == 2 || (kind == 0x11 && crc == 3))

/-- Whether the kiln refuses a decode descriptor: beside what 07 R254 names, a combination that the code does not allow. -/
def badDecode (d : Bytes) : Bool :=
  let kind := bytesAt d 0 1
  let z := bytesAt d 4 2
  let kp := bytesAt d 8 2
  let fill := bytesAt d 10 2
  let bg := bytesAt d 6 1
  let ncb := bytesAt d 16 2
  let cap := bytesAt d 3 1
  let e := bytesAt d 12 4
  let crc := bytesAt d 19 1
  e == 0 ||
    (if kind == 0x13 then bg != 2 || decide (kp < 12) || decide (1706 < kp) || crc != (if 20 ≤ kp then 5 else 6)
        || decide (e < kp + polarSegments kp e * (crcKind crc).1)
    else decide (3 < bytesAt d 7 1) || cap == 0 || decide (32 < cap) || ncb == 0 || bytesAt d 21 1 ≤ bytesAt d 20 1
      || !goodCrc kind (bytesAt d 21 1) crc || decide (kp ≤ (crcKind crc).1) ||
      (if kind == 0x11 then !isLifting z || !(bg == 1 || bg == 2) || decide ((if bg == 2 then 3840 else 8448) < kp)
          || decide ((descCode d).kb * z < kp) || fill != sysColumns bg * z - kp || decide ((if bg == 2 then 50 else 66) * z < ncb)
          || !goodQm (bytesAt d 18 1) e
        else kind != 0x12 || decide (z < 40) || decide (6144 < z) || turboSize z != z || kp + fill != z || decide (3 * z + 12 < ncb)))

/-- Whether the kiln refuses an encode descriptor. -/
def badEncode (d : Bytes) : Bool :=
  let e := bytesAt d 12 4
  if bytesAt d 0 1 == 0x03 then
    let a := bytesAt d 8 2
    e == 0 || decide (1 < bytesAt d 6 1) || a == 0 || decide (140 < a) || decide (e < a + 24)
  else e == 0 || bytesAt d 8 4 == 0 || decide (3 < bytesAt d 7 1) || bytesAt d 19 1 == 0 || decide (8 < bytesAt d 19 1)
    || !goodQm (bytesAt d 18 1) e

/-- The encode of a codeword that a descriptor of 07 Table 7-6 states. -/
def descEncode (d : Bytes) : Encode :=
  { turbo := bytesAt d 0 1 == 0x02, tbs := bytesAt d 8 4, rate := bytesAt d 16 2, rv := bytesAt d 7 1, qm := bytesAt d 18 1
    layers := bytesAt d 19 1, g := bytesAt d 12 4 }

/-- The polar encode that a descriptor states. -/
def descPolar (d : Bytes) : PolarEncode := { use := bytesAt d 6 1, rnti := bytesAt d 16 2, e := bytesAt d 12 4 }

/-! ## Soft-buffer versions in their pallets (07 R250, R251) -/

/-- The device address of a byte of a version. -/
def versionAddr (places : List Nat) (off : Nat) : Nat := storeAddr (places.getD (off / 65536) 0) + off % 65536

/-- Bytes of a version from an offset. -/
def State.versionBytes (s : State) (places : List Nat) (off n : Nat) : Bytes :=
  (List.range n).map fun i => memByte s.mem (versionAddr places (off + i))

/-- The memory with bytes of a version written. -/
def State.writeVersion (s : State) (places : List Nat) (off : Nat) (b : Bytes) : State :=
  { s with mem := memPutAll (b.mapIdx fun i x => (versionAddr places (off + i), x)) s.mem }

/-- The LLRs of a block's entry of a block table that stand at offsets of its version, none of one that is EMPTY or PASSED (07 R251). -/
def entryLlrs (entry : Bytes) (read : Nat → Nat → Bytes) : List Int :=
  if bytesAt entry 0 1 == 1 then (read (bytesAt entry 4 4) (bytesAt entry 2 2)).map llrOf else []

/-- The committed LLRs of a block that a job combines with: those of an entry in state LLRS (07 R251). -/
def committedLlrs (s : State) (r : Rec) (b : Nat) : List Int :=
  match (s.harq (r.u 6 2) (r.u 8 1)).committed with
  | some v => entryLlrs (s.versionBytes v.places (16 * b) 16) (s.versionBytes v.places)
  | none => []

/-! ## The descriptor of a dispatched decode -/

/-- The device address of an instance's first output. -/
def Op.output (o : Op) : Nat := o.outBases.headD 0

/-- The device address of the first input of an instance; the others follow it in edge order (log entry 49). -/
def State.inputAddr (s : State) (o : Op) : Nat := ((o.ins.head?.bind fun i => s.liveOp o.key i.1).map fun p => p.2.output).getD 0

/-- Where the result record stands behind the `n` bytes that a job may write: at the next multiple of 64 bytes (log entry 49). -/
def recordOffset (n : Nat) : Nat := ceilDiv n 64 * 64

/-- The bytes that a decode descriptor lets its job write as payload. -/
def payloadBytes (d : Bytes) : Nat :=
  if isPolar (bytesAt d 0 1) then ceilDiv (bytesAt d 8 2) 8 else ceilDiv (bytesAt d 8 2 - (crcKind (bytesAt d 19 1)).1) 8

/-- A dec combines where its allocation's flag bit 0 is clear and the process holds a committed version (06 R211). -/
def combines (s : State) (r : Rec) : Bool := r.type == 0x11 && !bitOf r.flags 0 && (s.harq (r.u 6 2) (r.u 8 1)).committed.isSome

/-- The descriptor of a dec, or of the polar decode of a UCI payload, at its dispatch; `got` bits have arrived. -/
def decDesc (s : State) (tag : Nat) (o : Op) (r : Rec) (e got : Nat) : KilnDesc :=
  let flag := fun (b : Bool) (k : Nat) => if b then 2 ^ k else 0
  if o.id.kind == .dec then
    let sg := recSegments s o.carrier r
    let k := recBlock s o.carrier r o.id.idx
    let fill := if sg.turbo then (turboBlock r.tbs o.id.idx).2.1 else sysColumns sg.bg * sg.zc - sg.kp
    let kp := if sg.turbo then k - fill else sg.kp
    let crc := if 1 < sg.c then 1 else if sg.crc == 24 then 2 else 3
    let host := ((s.course o.key).map fun c => c.snap (r.u 6 2)).getD []
    let kept := keptOf host sg.c (sg.ncbOf k)
    let version := fun (l : List Nat) => if l.isEmpty then 0 else versionAddr l 0
    { kind := if sg.turbo then 0x12 else 0x11
      flags := flag (combines s r) 0 + flag (decide (got < e)) 1 + flag (decide (1 < sg.c)) 2, gen := o.gen, cap := s.iterCap o.carrier r
      size := k, bg := sg.bg, rv := r.u 9 1, param := kp + fill * 65536, coded := e, limit := sg.ncbOf k, qm := r.qm, crc := crc
      block := o.id.idx, blocks := sg.c, tbTag := (tag - o.id.idx) % 65536, input := s.inputAddr o
      committed := if combines s r then version (((s.harq (r.u 6 2) (r.u 8 1)).committed.map (·.places)).getD []) else 0
      new := version (((s.course o.key).bind fun c => Store.find c.softRes r.id).map (·.1) |>.getD [])
      output := o.output, record := o.output + recordOffset (ceilDiv (kp - (crcKind crc).1) 8), tag := tag, got := got
      kept := if kept < sg.ncbOf k then kept else 0 }
  else
    let a := if r.type == 0x11 then r.puschUci else r.pucchUci
    { kind := 0x13, flags := 0, gen := o.gen, cap := 0, size := 0, bg := 2, rv := 0, param := a, coded := e, limit := 0, qm := 0
      crc := if 20 ≤ a then 5 else 6, block := 0, blocks := 1, tbTag := 0, input := s.inputAddr o, committed := 0, new := 0
      output := o.output, record := o.output + recordOffset (ceilDiv a 8), tag := tag, got := 0, kept := 0 }

/-! ## What it writes (07 R250, R251, R255) -/

/-- The offset of a block's LLRs from the start of a version (07 R250). -/
def versionOffset (c block kept : Nat) : Nat := ceilDiv (16 * c) 64 * 64 + block * (ceilDiv kept 64 * 64)

/-- A block-table entry of 07 Table 7-5: its state, N_kept, the offset of the LLRs, N_cb, and Zc or K. -/
def tableEntry (state kept off ncb z : Nat) : Bytes :=
  leBytes 1 state ++ leBytes 1 0 ++ leBytes 2 kept ++ leBytes 4 off ++ leBytes 2 ncb ++ leBytes 2 z ++ leBytes 4 0

/-- The entry of a block whose LLRs are kept. -/
def Job.tableEntry (j : Job) : Bytes :=
  let k := j.dec.code.keptBits
  Sys2Proof.Machine.tableEntry 1 k (versionOffset j.c j.block k) j.dec.code.ncb j.dec.code.z

/-- The LLRs of a block that failed, as its version keeps them. -/
def Job.keptBytes (j : Job) : Bytes := (j.dec.stored j.kind j.e).map llrByte

/-- The payload bytes of a job that passed. -/
def Job.payload (j : Job) : Bytes := packBits (j.dec.payload j.kind)

/-- The result record of 07 Table 7-7, or that of a polar decode, for a job tag. -/
def Job.record (j : Job) (tag status : Nat) : Bytes :=
  if isPolar j.kind then
    leBytes 1 j.kind ++ leBytes 1 status ++ leBytes 1 j.dec.rank ++ leBytes 1 0 ++ leBytes 2 (codeOf 16 j.dec.metric)
      ++ leBytes 2 j.dec.code.kp ++ leBytes 1 (polarSegments j.dec.code.kp j.e) ++ leBytes 7 0
  else
    let bit := fun (b : Bool) (k : Nat) => if b then 2 ^ k else 0
    leBytes 1 j.kind ++ leBytes 1 status ++ leBytes 1 j.gen ++ leBytes 1 j.last ++ leBytes 1 (min 255 j.restarts)
      ++ leBytes 1 (bit j.early 0 + bit j.combine 1 + bit j.dropped 2 + bit j.newVersion 3 + bit j.checked 4 + bit j.mismatch 5)
      ++ leBytes 2 tag ++ leBytes 4 j.eRx ++ leBytes 4 j.dec.unsat ++ leBytes 4 (j.dec.contribution j.kind) ++ leBytes 4 j.iters
      ++ leBytes 4 (j.dec.payload j.kind).length ++ leBytes 4 0

/-- What a dispatched job writes: from the start of its outputs its data, and at its record's offset its result record (log entry 49). -/
def Op.written (o : Op) (data : Bytes) (off : Nat) (record : Bytes) : List Host.Cell :=
  o.outCells data ++ (o.outCells (List.replicate off 0 ++ record)).drop off

/-- What a dispatched decode stages: its payload, where it passed, and its result record. -/
def Job.outputs (j : Job) (tag status : Nat) (o : Op) : List Host.Cell :=
  o.written (if status = 0 then j.payload else []) (recordOffset (payloadBytes j.desc)) (j.record (tag % 65536) status)

/-- What a fused job stages at the pointers of its descriptor, 0 meaning none: payload, result record, and the block of the new version. -/
def Job.staged (j : Job) (tag status : Nat) (desc : Bytes) : List (Nat × Bytes) :=
  let out := bytesAt desc 42 6
  let new := bytesAt desc 36 6
  ((if status = 0 then [(out, j.payload)] else []) ++ [(bytesAt desc 48 6, j.record (tag % 65536) status)]
    ++ (if status = 1 && j.newVersion && new != 0 then
      [(new + 16 * j.block, j.tableEntry), (new + versionOffset j.c j.block j.dec.code.keptBits, j.keptBytes)]
    else [])).filter fun x => x.1 != 0

/-! ## What an encode reads and writes (07 R233, R255; 06 Table 6-7) -/

/-- The encode of a codeword of an allocation. -/
def recEncode (s : State) (key : Nat) (c : Course) (r : Rec) (cw : Nat) : Encode :=
  let g := c.site key
  { turbo := s.std g.n != 1, tbs := r.tbs, rate := r.u 16 2, rv := r.u 9 1, qm := r.qm, layers := r.cwLayers cw
    g := r.elements (maskCount (recPrbs (s.std g.n) (s.mu g.n) (s.prbs g.n) g.desc r)) * r.qm * r.cwLayers cw }

/-- The polar encode of a DCI, or of the PBCH of a sync block (07 R261). -/
def recPolar (r : Rec) : PolarEncode :=
  if r.type == 0x02 then { use := 0, rnti := r.u 6 2, e := 108 * r.u 8 1 } else { use := 1, rnti := 0, e := 864 }

/-- The payload of a DCI or a PBCH. -/
def polarPayload (c : Course) (r : Rec) : List Bool :=
  if r.type == 0x02 then (unpackBits (r.bytes.drop 16)).take (r.u 11 1)
  else (List.range 32).map fun i => (Config.pbchPayload r.bytes (c.ats / 2 ^ 40 % 1024)).getLsbD i

/-- QPSK symbols of unit power of scrambled bits, two each, as they enter prec (08 Table 8-1). -/
def qpskBytes (bits : List Bool) : Bytes :=
  (List.range (bits.length / 2)).flatMap fun i =>
    let part := fun (b : Bool) => if b then (-2896 : Int) else 2896
    sampleBytes (part (bits.getD (2 * i) false), part (bits.getD (2 * i + 1) false))

/-- The descriptor of an encode of a codeword, or of a DCI or PBCH. -/
def encDesc (s : State) (key tag : Nat) (c : Course) (r : Rec) (o : Op) : KilnDesc :=
  let x := recEncode s key c r o.id.idx
  let p := recPolar r
  if o.id.kind == .ctl then
    { kind := 0x03, flags := 0, gen := o.gen, cap := 0, size := 0, bg := p.use, rv := 0, param := (polarPayload c r).length, coded := p.e
      limit := p.rnti, qm := 0, crc := 4, block := 0, blocks := 0, tbTag := 0, input := 0, committed := 0, new := 0, output := o.output
      record := o.output + recordOffset (p.e / 2 * 4), tag := tag, got := 0, kept := 0 }
  else
    { kind := if x.turbo then 0x02 else 0x01, flags := 0, gen := o.gen, cap := 0, size := 0, bg := 0, rv := x.rv, param := x.tbs
      coded := x.g, limit := x.rate, qm := x.qm, crc := x.layers, block := 0, blocks := 0, tbTag := 0, input := s.inputAddr o, committed := 0
      new := 0, output := o.output, record := o.output + recordOffset (ceilDiv x.g 8), tag := tag, got := 0, kept := 0 }

/-- The status of a dispatched encode that its engine has ended: BAD_JOB where the kiln refuses its descriptor (07 R254), DATA_LOST where its input
could not be read, and PASS. -/
def encodeStatus (s : State) (tag : Nat) (o : Op) (how : TaskEnd) : Nat :=
  match s.course o.key, opRec s o with
  | some c, some r => if badEncode (encDesc s o.key tag c r o).bytes then 3 else if how == .dataLost then 2 else 0
  | _, _ => 2

/-- What a dispatched encode writes: where it passed the coded bits of its codeword, from the transport block that its fetch copied, or the
modulated symbols of a DCI or PBCH; and its result record at its place. -/
def encodeCells (s : State) (o : Op) (status : Nat) : List Host.Cell :=
  match s.course o.key, opRec s o with
  | some c, some r =>
    let x := recEncode s o.key c r o.id.idx
    let p := recPolar r
    let data := if status != 0 then []
      else if o.id.kind == .ctl then qpskBytes ((p.bits (polarPayload c r)).mapIdx fun i b => b ^^ Config.scramble r.bytes i)
      else packBits (x.bits (unpackBits (s.outBytes o.key (opId .fetch r.id 255 0) 0 r.tbBytes)))
    if o.id.kind == .ctl then o.written data (recordOffset (p.e / 2 * 4)) (p.record status data.length)
    else o.written data (recordOffset (ceilDiv x.g 8)) (x.record status data.length)
  | _, _ => []

/-- The code blocks that an encode encodes. -/
def encodeBlocks (s : State) (o : Op) : Nat :=
  match opRec s o with
  | some r => if r.type == 0x01 then (recSegments s o.carrier r).c else 1
  | none => 1

/-! ## HARQ versions that are lost (06 R215) -/

/-- HARQ_VERSION_LOST: the process becomes EMPTY (06 Table 6-21). -/
def dropVersion (ue proc cause course gen : Nat) (s : State) : State :=
  match (s.harq ue proc).committed with
  | some v =>
    raiseFor (s.onHarq ue proc fun h => { h with committed := none }) O.harqVersionLostCount v.carrier
      (leBytes 2 ue ++ leBytes 1 proc ++ leBytes 1 cause ++ leBytes 2 v.number ++ leBytes 2 0) course gen
  | none => s

/-! ## Feeds (07 R242 to R247) -/

/-- Whether a further warm restart is allowed: one short of the bound, or the bound's last, which is a final attempt (07 R245). -/
def Job.mayRestart (j : Job) : Bool := decide (j.restarts + 1 < j.bound) || (decide (j.restarts < j.bound) && j.eRx == j.e)

/-- Whether a suspended job asks for a restart: E_rx has grown by RESTART_STEP per cent of E, or has reached E (07 R244). -/
def Job.asksRestart (step : Nat) (j : Job) : Bool :=
  j.susp && j.mayRestart && (decide (step * j.e ≤ 100 * (j.eRx - j.begun)) || j.eRx == j.e)

/-- A warm restart (07 R244): a new attempt from the priors that the suspended one left in its scratch pallet. -/
def Job.restarted (scratch : Bytes) (j : Job) : Job :=
  { j with susp := false, fed := false, begun := j.eRx, restarts := j.restarts + 1, final := j.eRx == j.e
           dec := j.dec.restart j.kind j.e scratch }

/-- The device address of the scratch pallet of a job: that of a dispatched decode follows its outputs, and that of a fused job is the last shadow
pallet of its slot (12 R418; 13 R439). -/
def State.scratchAddr (s : State) (tag : Nat) : Nat :=
  match s.op tag with
  | some o => palletAddr (o.places.getD o.outs 0)
  | none => match s.fusedOf tag with
    | some (t, slot, _) => match Store.find s.tiles t with
      | some c => ((s.op c.tag).map fun o => palletAddr (o.places.getD (o.outs + (slot + 1) * c.shadow - 1) 0)).getD 0
      | none => 0
    | none => 0

/-- A restart of a job from its scratch pallet. -/
def restartJob (tag : Nat) (s : State) : State :=
  s.onKiln tag fun j => j.restarted (memBytes s.mem (s.scratchAddr tag) (j.dec.scratchPlaces j.kind j.e).length)

/-- A suspended job that asks for a restart enters the decode list in class 0 (13 R449); a fused job, which holds its engine job slot,
restarts at once. -/
def askRestart (tag : Nat) (s : State) : State :=
  match Store.find s.kiln.jobs tag with
  | some j =>
    if j.asksRestart j.dec.set.step then
      match s.op tag with
      | some o => if o.state == .suspended && !o.cancel then makeReady tag { o with prio := 0 } s else s
      | none => (restartJob tag s).bump O.runaheadRestarts 1
    else s
  | none => s

/-- The LLRs fold into a running attempt at an iteration boundary as one warm restart; a fold that brings E_rx to E makes the attempt final, and
its iterations are counted from 0 again (07 R243). -/
def Job.folded (j : Job) (llr : List Int) : Job :=
  let d := j.dec.fold j.kind j.e llr
  if j.eRx == j.e then
    { j with fed := false, restarts := j.restarts + 1, final := true, iters := j.iters + wholeIters j.kind d.run
             dec := { d with run := 0 } }
  else { j with fed := false, restarts := j.restarts + 1, dec := d }

/-- The LLRs that a job's feed port count covers. -/
def arrivedLlrs (s : State) (tag count : Nat) : List Int :=
  match s.op tag with
  | some o => match opRec s o with
    | some r => decLlrs s o r count
    | none => []
  | none => match s.fusedOf tag with
    | some (t, _, j) => (s.fusedBytes t j (bytesAt j.desc 24 6) count).map llrOf
    | none => []

/-- A suspended job takes the LLRs that its count covers for its restart. -/
def readLlrs (tag : Nat) (s : State) : State :=
  s.onKiln tag fun j => if j.susp then { j with dec := { j.dec with llr := arrivedLlrs s tag j.eRx } } else j

/-- A feed of the kiln's feed port: the arrival count grows, up to E (07 R242). A running attempt folds at its next iteration boundary what has
arrived until then (R243), and a suspended job reads the new LLRs at its restart. -/
def feedKiln (tag arrived : Nat) (s : State) : State :=
  match Store.find s.kiln.jobs tag with
  | some j =>
    if j.status.isSome || decide (arrived < j.eRx) then s.bump O.feedIgnored 1
    else
      let now := min arrived j.e
      askRestart tag (readLlrs tag (s.onKiln tag fun j => { j with eRx := now, fed := j.fed || decide (j.eRx < now) }))
  | none => s.bump O.feedIgnored 1

/-- KILN_FEED. -/
def execKilnFeed (tag arrived : Nat) (s : State) : Host.Outcome State Fault Refusal := .next (feedKiln tag arrived s)

/-! ## The transport-block check (07 R248, R249) -/

/-- Whether a job is that of the last code block: every other block of its transport block has passed, and none was cancelled. -/
def isLastBlock (s : State) (j : Job) : Bool :=
  j.check && (Store.find s.kiln.voided j.tbTag).isNone && decide ((s.checker j).passed.length + 1 = j.c)

/-- Whether the checker's sum with a block's own contribution is the transport block's CRC (07 R249). -/
def tbGood (s : State) (j : Job) : Bool :=
  let k := s.checker j
  let crc := match j.dec.tbCrc j.kind with
    | some x => some x
    | none => k.crc
  crc == some (Nat.xor k.sum (j.dec.contribution j.kind))

/-! ## Attempts (07 R240, R241, R251, R252) -/

/-- How an attempt stands at a boundary: it goes on, passes, fails or suspends. -/
inductive AttemptEnd | goesOn | pass | fail | suspend
  deriving DecidableEq, Repr

/-- Table 7-4, with the checks of R240 and R249: a turbo code has no parity checks whose count could stall. -/
def judgeAttempt (s : State) (j : Job) : AttemptEnd :=
  let d := j.dec
  let budget := (if j.final then j.cap else d.set.ahead) * (if isTurbo j.kind then 2 else 1)
  let stop := if j.final then AttemptEnd.fail else AttemptEnd.suspend
  let ldpc := !isTurbo j.kind && !isPolar j.kind
  if d.pass && (!isLastBlock s j || tbGood s j) then .pass
  else if isPolar j.kind then .fail
  else if ldpc && d.unsat == 0 && !d.pass then stop
  else if ldpc && d.set.stall != 0 && decide (d.set.stall ≤ d.stall) then stop
  else if budget ≤ d.run then stop
  else .goesOn

/-- An iteration boundary: a pass ends the attempt whatever has arrived; otherwise what has arrived folds in, if a further warm restart is allowed
(07 R243, R245), and the attempt is judged with it. -/
def atBoundary (s : State) (tag : Nat) (j : Job) : Job × AttemptEnd :=
  if judgeAttempt s j == .pass then (j, .pass)
  else
    let j := if j.fed && !j.final && j.mayRestart then j.folded (arrivedLlrs s tag j.eRx) else j
    (j, judgeAttempt s j)

/-- Up to `n` iterations of an attempt: it ends at the first boundary at which a condition holds. -/
def runAttempt (s : State) (tag : Nat) : Nat → Job → Job × AttemptEnd
  | 0, j => (j, .goesOn)
  | n + 1, j =>
    match atBoundary s tag { j with dec := j.dec.iterate j.kind j.e } with
    | (j, .goesOn) => runAttempt s tag n j
    | r => r

/-- The counters of a decode job that ends with a status (07 Table 7-13). -/
def countJob (kind status : Nat) (s : State) : State :=
  let s := if isPolar kind then s.bump O.polarDecJobs 1 else s.bump O.decJobs 1
  match status with
  | 0 => if isPolar kind then s else s.bump O.decPass 1
  | 1 => if isPolar kind then s else s.bump O.decFail 1
  | 2 => s.bump O.llrReadErrors 1
  | 3 => s.bump O.badJobs 1
  | _ => s.bump O.engineFaults 1

/-- The end that a status gives the scheduler (13 R447). -/
def statusEnd (status : Nat) : TaskEnd := if status == 0 || status == 1 then .ok else .dataLost

/-- A job ends with a status: its result is staged, and the scheduler or the tile publishes it. -/
def jobDone (tag status : Nat) (j : Job) (s : State) : State :=
  let s := countJob j.kind status (s.onKiln tag fun _ => { j with status := some status })
  match s.op tag with
  | some _ => s.onOp tag fun o => { o with ended := some (statusEnd status), data := j.outputs tag status o }
  | none =>
    match s.fusedOf tag with
    | some (t, slot, f) =>
      fusedEnd t slot (bytesAt (j.record (tag % 65536) status) 0 4) f
        ({ s with kiln := { s.kiln with jobs := Store.drop s.kiln.jobs tag } }.onJob t slot fun f =>
          { f with staged := j.staged tag status f.desc })
    | none => s

/-- A job passes (07 R241, R248, R249). -/
def jobPass (tag : Nat) (j : Job) (s : State) : State :=
  let last := isLastBlock s j
  let early := decide (j.eRx < j.e) && !isPolar j.kind
  let j := { j with early := early, checked := last }
  let s := s.blockEnds j fun k =>
      { k with passed := k.passed ++ [j.block], sum := Nat.xor k.sum (j.dec.contribution j.kind)
               crc := match j.dec.tbCrc j.kind with
                 | some x => some x
                 | none => k.crc }
  jobDone tag 0 j (if early then s.bump O.runaheadEarly 1 else s)

/-- A final attempt fails: it writes its LLRs to the new version; a last block whose own CRC passed is a transport-block mismatch (07 R249,
R251). -/
def jobFail (tag : Nat) (j : Job) (s : State) : State :=
  let mismatch := isLastBlock s j && j.dec.pass
  let s := s.blockEnds j id
  let s := if mismatch then s.bump O.tbMismatches 1 else s
  jobDone tag 1 { j with newVersion := !isPolar j.kind && bytesAt j.desc 36 6 != 0, mismatch := mismatch } s

/-- A run-ahead attempt suspends: its extrinsic state goes to the scratch pallet, the engine is free and the pallets stay (07 R244). -/
def jobSuspend (tag : Nat) (j : Job) (s : State) : State :=
  let s := { s with mem := memWrite s.mem (s.scratchAddr tag) (j.dec.scratch j.kind j.e) }
  let s := readLlrs tag (s.onKiln tag fun _ => { j with susp := true })
  let s := match s.op tag with
    | some o => traceOp 12 tag o 0 0 0 (s.onOp tag fun o => { o with state := OpState.suspended, unit := 0xFFFF })
    | none => s
  askRestart tag s

/-- The process whose committed version begins at a device address. -/
def State.versionAt (s : State) (addr : Nat) : Option (Nat × Nat) :=
  (s.pipe.ues.flatMap fun u => u.2.procs.filterMap fun p =>
    match p.2.committed with
    | some v => if versionAddr v.places 0 == addr then some (u.1, p.1) else none
    | none => none).head?

/-- The committed version that a job combines with cannot be read: the job goes on without it, and the process, which a fused job names by the
address of the version, is EMPTY (07 R252; 06 R215). -/
def loseVersion (tag : Nat) (s : State) : State :=
  let s := match s.op tag with
    | some o => match opRec s o with
      | some r => dropVersion (r.u 6 2) (r.u 8 1) 0 o.course o.gen s
      | none => s
    | none => match s.fusedOf tag with
      | some (t, _, f) => match s.versionAt (f.translate (bytesAt f.desc 30 6)), (Store.find s.tiles t).bind fun c => s.op c.tag with
        | some (ue, proc), some o => dropVersion ue proc 0 o.course o.gen s
        | _, _ => s
      | none => s
  s.onKiln tag fun j => { j with combine := false, dropped := true, dec := { j.dec with base := [] }.begin j.kind j.e }

/-- Whether a job's attempt runs: its instance does, or it is a fused job that is not suspended and whose engine serves. -/
def attemptRuns (s : State) (tag : Nat) (j : Job) : Bool :=
  j.status.isNone && !j.susp && match s.op tag with
    | some o => o.cls == 1 && o.state == .running
    | none => match s.fusedOf tag with
      | some (t, slot, _) => match s.slotEngine t slot with
        | some (cls, u) => (s.candidates cls 0).contains u
        | none => true
      | none => false

/-- A cancel token takes a job: nothing of it stays (07 R258, R249). -/
def cancelJob (tag : Nat) (s : State) : State :=
  match Store.find s.kiln.jobs tag with
  | some _ =>
    let s := dropKilnJob tag (s.bump O.cancelledJobs 1)
    match s.op tag with
    | some _ => ackCancel tag s
    | none => match s.fusedOf tag with
      | some (t, slot, f) => fusedCancel t slot f s
      | none => s
  | none =>
    match s.op tag with
    | some _ => ackCancel tag (s.bump O.cancelledJobs 1)
    | none => match s.fusedOf tag with
      | some (t, slot, f) => fusedCancel t slot f (s.bump O.cancelledJobs 1)
      | none => s

/-- Whether a cancel token for a tag is on its way. -/
def cancelPending (s : State) (tag : Nat) : Bool :=
  match s.op tag with
  | some o => o.cancel
  | none => match s.fusedOf tag with
    | some (_, _, f) => f.cancel
    | none => false

/-- The engine has run an attempt to an iteration boundary. A run-ahead attempt that suspends leaves no count but that of its restart (06
R209), and ITERATIONS takes the iterations of all attempts when the job ends (log entry 49). -/
def attemptEnd (tag : Nat) (b : Boundary) (s : State) : State :=
  match Store.find s.kiln.jobs tag with
  | none => s
  | some j =>
    if !attemptRuns s tag j then s
    else if cancelPending s tag then cancelJob tag s
    else if b.inputLost then
      let n := wholeIters j.kind j.dec.run
      jobDone tag 2 { j with last := n, iters := j.iters + n } ((if isPolar j.kind then s else s.bump O.iterations (j.iters + n)).blockEnds j id)
    else
      let s := if b.versionLost && j.combine then loseVersion tag s else s
      let j := (Store.find s.kiln.jobs tag).getD j
      let r := runAttempt s tag b.iterations j
      let s := if j.restarts < r.1.restarts then s.bump O.runaheadRestarts (r.1.restarts - j.restarts) else s
      let n := wholeIters j.kind r.1.dec.run
      let j' := { r.1 with last := n, iters := r.1.iters + n }
      let s' := if isPolar j.kind then s else s.bump O.iterations j'.iters
      match r.2 with
      | .goesOn => s.onKiln tag fun _ => r.1
      | .pass => jobPass tag j' s'
      | .fail => jobFail tag j' s'
      | .suspend => jobSuspend tag j' s

/-- KILN_ATTEMPT_END. -/
def execKilnAttemptEnd (tag : Nat) (b : Boundary) (s : State) : Host.Outcome State Fault Refusal := .next (attemptEnd tag b s)

/-! ## Cancel tokens and faults (07 R258, R259) -/

/-- KILN_CANCEL_TOKEN: a token for a published job is ignored. -/
def execKilnCancelToken (tag : Nat) (s : State) : Host.Outcome State Fault Refusal :=
  match s.op tag with
  | some o => if (o.cls == 1 || o.cls == 2) && o.cancel && !o.published then .next (cancelJob tag s) else .next s
  | none =>
    match s.fusedOf tag with
    | some (_, _, f) => if f.cls ≤ 1 then .next (cancelJob tag s) else .next s
    | none => .next s

/-- A job as its descriptor starts it, with the current E_rx and without the scratch state (07 R259). -/
def Job.fresh (llr : List Int) (j : Job) : Job :=
  let d := decodeOf j.dec.code j.dec.set llr j.dec.base
  { j with fed := false, begun := j.eRx, iters := 0, last := 0, restarts := 0, susp := false, final := j.eRx == j.e
           dec := d.begin j.kind j.e }

/-- The end ENGINE_FAULT of a job that an engine runs: it counts, with its iterations. -/
def faultJob (cls : Nat) (s : State) (tag : Nat) : State :=
  if cls == 2 then (s.bump O.encJobs 1).bump O.engineFaults 1
  else match Store.find s.kiln.jobs tag with
    | some j =>
      let s := if isPolar j.kind then s else s.bump O.iterations (j.iters + wholeIters j.kind j.dec.run)
      countJob j.kind 4 s
    | none => s

/-- The engine leaves service, a spare of its half serves in its place, and its job, which ended ENGINE_FAULT, runs again as a fresh attempt; a
fused job keeps its ticket and its tag (07 R259; 12 R423). -/
def kilnFault (e : EngineClass) (n cause : Nat) (s : State) : State :=
  if e.service s n then
    let fused := (s.fusedOn e.cls n).map (·.2.2.tag)
    let ops := (s.sched.ops.filter fun x => x.2.cls == e.cls && x.2.unit == n && x.2.onEngine).map (·.1)
    let s := e.failed n cause ((ops ++ fused).foldl (faultJob e.cls) s)
    fused.foldl (fun s tag => s.onKiln tag fun j => j.fresh (arrivedLlrs s tag j.eRx)) s
  else s

/-- KILN_ENGINE_FAULT. -/
def execKilnEngineFault (kind : KilnKind) (n : Nat) (s : State) : Host.Outcome State Fault Refusal :=
  match kind with
  | .decode => if 68 ≤ n then .fault .noSuchUnit else .next (kilnFault kdClass n 0 s)
  | .encode => if 34 ≤ n then .fault .noSuchUnit else .next (kilnFault keClass n 0 s)

end Sys2Proof.Machine
end

