-- ==== Sys2Proof/Machine/Scheduler.lean ====
section
/-! DEFINITION. The dataflow scheduler (13): selection, reservation and dispatch, local prefetch, the end of an operation with its
publication, expiry and cancel, partitions and the trace. -/

namespace Sys2Proof.Machine

/-! ## Ready lists (13 R428, R437, R438) -/

/-- The partition that an instance of a tile form may run in: the one that reads ON, or one that is shutting down and that it became ready
in. -/
def partFor (s : State) (o : Op) : Option Nat :=
  match s.partOf o.form with
  | some p => some p
  | none =>
    if o.list != 0 && s.partForm (o.list - 1) == o.form && s.holds (O.partEnable (o.list - 1)) && !s.isOn (O.partEnable (o.list - 1))
    then some (o.list - 1) else none

/-- Whether two instances share a ready list. -/
def sameList (s : State) (a b : Op) : Bool := a.cls == b.cls && (a.cls != 0 || partFor s a == partFor s b)

/-- The order of a ready list (13 R438): the priority class, then LS in class 0, the ready instant, and the order of issue. -/
def listBefore (a b : Nat × Op) : Bool :=
  let k := fun (e : Nat × Op) => (e.2.prio, if e.2.prio == 0 then e.2.ls else 0, e.2.readyAt, e.1)
  let x := k a
  let y := k b
  if x.1 != y.1 then decide (x.1 < y.1)
  else if x.2.1 != y.2.1 then decide (x.2.1 < y.2.1)
  else if x.2.2.1 != y.2.2.1 then decide (x.2.2.1 < y.2.2.1)
  else decide (x.2.2.2 < y.2.2.2)

/-- An instance put into its place in a list. -/
def insertOp (e : Nat × Op) : List (Nat × Op) → List (Nat × Op)
  | [] => [e]
  | x :: t => if listBefore e x then e :: x :: t else x :: insertOp e t

/-- The ready list that an instance stands in, in order. -/
def readyList (s : State) (o : Op) : List (Nat × Op) :=
  (s.sched.ops.filter fun e => e.2.state == .ready && !e.2.old && sameList s e.2 o).foldr insertOp []

/-! ## Units that are free (13 R426, R446) -/

/-- Whether no instance holds a unit. -/
def unitFree (s : State) (cls u : Nat) : Bool := !(s.sched.ops.any fun e => e.2.uses cls u)

/-- The units that an instance may be dispatched to. -/
def unitsFor (s : State) (o : Op) : List Nat :=
  if o.cls == 0 && (partFor s o).isNone then [] else s.candidates o.cls o.form

/-- The free units for an instance. -/
def freeUnits (s : State) (o : Op) : List Nat := (unitsFor s o).filter (unitFree s o.cls)

/-- The task that runs on a tile slot. -/
def runningTask (s : State) (t : Nat) : Option (Nat × Op) :=
  s.sched.ops.find? fun e => e.2.cls == 0 && e.2.unit == t && e.2.state == .running

/-- The next task of a tile slot. -/
def nextTask (s : State) (t : Nat) : Option (Nat × Op) :=
  s.sched.ops.find? fun e => e.2.cls == 0 && e.2.unit == t && e.2.state == .dispatched && e.2.next

/-- Whether an instance may be the next task of a tile slot (13 R446). -/
def mayBeNext (s : State) (o : Op) (t : Nat) : Bool :=
  o.cls == 0 && s.obj O.prefetchEnable == 1 && (nextTask s t).isNone &&
    match runningTask s t with
    | some (_, r) => decide (r.start + r.est ≤ o.ls)
    | none => false

/-! ## Reservation (13 R439 to R441) -/

/-- Whether the P0 hold stands: the operation that began it is still in class 0 of its list. -/
def holdStands (s : State) : Bool :=
  match s.sched.hold.bind s.op with
  | some h => h.state == .ready && h.prio == 0
  | none => false

/-- How many of `n` pallets come from the carrier's own and from the common pool, if they can be had. -/
def drawPallets (s : State) (o : Op) (n : Nat) : Option (Nat × Nat) :=
  let own := min n (s.reservedPallets o.carrier - s.ownUsed o.carrier)
  let common := n - own
  if common == 0 then some (own, 0)
  else if s.commonFree < common || decide (s.nat O.commonLimit < s.commonOf o.carrier + common) || (o.prio != 0 && holdStands s) then none
  else some (own, common)

/-- Whether the outputs of an instance go to the staging region: a sink whose transmit instant lies more than one slot after dispatch (13
Table 13-7, code 8; 15 R503). -/
def isStaged (s : State) (o : Op) : Bool :=
  isSink s o && o.id.kind != .out && decide (s.airNow + s.slotSpan o.carrier 1 < o.lf)

/-- Whether a decode may run ahead of its data: part of its block has not arrived. -/
def runsAhead (s : State) (o : Op) : Bool := o.id.kind == .dec && decide (arrivedBits s o < neededBits s o)

/-- The tile program of an instance, by its kind (13 Table 13-4). -/
def programKind : OpKind → Nat
  | .mod => 0x21 | .ctl | .enc => 0x22 | .asm => 0x23 | .demod => 0x24 | .tbchk => 0x25 | .uci => 0x26 | .out => 0x27
  | _ => 0x28

/-- The fused declaration of an instance: slots of each class, and shadow pallets for one (12 R408). -/
def fusedDecl (s : State) (o : Op) : List Nat × Nat :=
  if o.cls == 0 then ((s.program (programKind o.id.kind)).fused, (s.program (programKind o.id.kind)).shadow) else ([], 0)

/-- Free engines for fused slots: the lowest-numbered of each class. -/
def fusedEngines (s : State) (decl : List Nat) : Option (List (Nat × Nat)) :=
  let pick := fun (c : Nat) => ((s.candidates (c + 1) 0).filter (unitFree s (c + 1))).take (decl.getD c 0)
  if (List.range 4).all fun c => (pick c).length == decl.getD c 0 then
    some ((List.range 4).flatMap fun c => (pick c).map fun u => (c + 1, u))
  else none

/-- What a reservation holds. -/
structure Reserved where
  places : List Nat
  own    : Nat
  common : Nat
  stage  : List Nat
  fused  : List (Nat × Nat)
  deriving DecidableEq, Repr

/-- The places of a staging output, on one channel: the lowest-numbered free ones of its region. -/
def stagingPlaces (s : State) (n : Nat) : Option (List Nat) :=
  (s.leastChannel fun c => (s.stagedOn c).length).bind fun c =>
    let base := c * 2 ^ 20 + s.tbRegion
    let free := ((List.range s.stagingRegion).map (base + ·)).filter fun p => !(s.stagedOn c).contains p
    if free.length < n then none else some (free.take n)

/-- The reservation of every resource of Table 13-7 in one step, or the code of the first that is missing. A restart needs only its engine
job slot (13 R449). -/
def reserve (s : State) (tag : Nat) (o : Op) (unit : Nat) : Except Nat Reserved :=
  let restart := ((Store.find s.kiln.jobs tag).map (·.susp)).getD false
  if restart then .ok ⟨o.places, o.own, o.common, o.stage, []⟩
  else
    let staged := isStaged s o
    let decl := fusedDecl s o
    let outs := if staged then 0 else o.outs
    let scratch := if runsAhead s o then 1 else 0
    let shadow := decl.1.sum * decl.2
    let stage := if staged && o.outs != 0 then stagingPlaces s o.outs else some []
    if o.id.kind != .dec && o.ins.any fun i => inputState s o.key i.1 == 0 then .error 2
    else match stage, drawPallets s o outs, drawPallets s o (outs + scratch), drawPallets s o (outs + scratch + shadow),
        fusedEngines s decl.1 with
      | none, _, _, _, _ => .error 8
      | some _, none, _, _, _ => .error 3
      | some _, some _, none, _, _ => .error 4
      | some _, some _, some _, none, _ => .error 5
      | some _, some _, some _, some _, none => .error 5
      | some stage, some _, some _, some (own, common), some f =>
        match s.placePallets (unitStop o.cls unit) (own + common) [] with
        | some places => .ok ⟨places, own, common, stage, f⟩
        | none => .error 3

/-! ## Selection (13 R442 to R444) -/

/-- The ring of an instance's first input pallet. -/
def firstInputRing (s : State) (o : Op) : Option Nat :=
  (o.ins.head?.bind fun i => s.liveOp o.key i.1).bind fun p => p.2.places.head?.map fun x => x / 64 / 3

/-- The score of an instance for a tile slot (13 R443). -/
def affinityScore (s : State) (o : Op) (t : Nat) : Nat :=
  (if firstInputRing s o == some (pairStop (t / 2)).1 then 2 else 0)
    + (if Store.find s.sched.lastOf t == some o.carrier then 1 else 0)

/-- Whether a partition is the largest: it reads ON and holds the most tile slots, ties to the lowest (13 R430). -/
def isLargest (s : State) (p : Nat) : Bool :=
  let size := fun (q : Nat) => if s.isOn (O.partEnable q) then (s.slotsOf (s.partForm q)).length + 1 else 0
  decide (0 < size p) && (List.range 8).all fun q => decide (size q < size p) || (size q == size p && decide (p ≤ q))

/-- Whether the list of an instance selects by affinity. -/
def byAffinity (s : State) (o : Op) : Bool :=
  o.cls == 0 && match partFor s o with
    | some p => isLargest s p
    | none => false

/-- Instances with the highest score first, the oldest among equals: the scores are 3, 2, 1 and 0. -/
def byScore (score : Nat × Op → Nat) (l : List (Nat × Op)) : List (Nat × Op) :=
  [3, 2, 1, 0].flatMap fun k => l.filter fun e => score e == k

/-- The candidates of a decision for a unit, in the order in which they are tested; a dec that waits for a version is none (06 R213). -/
def candidatesFor (s : State) (o : Op) (unit : Nat) : List (Nat × Op) :=
  let l := (readyList s o).filter fun e =>
    (unitFree s o.cls unit || mayBeNext s e.2 unit) && !(e.2.id.kind == .dec && harqHeld s e.2)
  let order :=
    if byAffinity s o then
      let zero := l.filter fun e => e.2.prio == 0
      let rest := l.filter fun e => e.2.prio != 0
      let top := ((rest.head?.map fun e => e.2.prio).getD 0)
      let first := (rest.filter fun e => e.2.prio == top).take (s.nat O.affinityDepth)
      zero ++ byScore (fun e => affinityScore s e.2 unit) first ++ rest.filter fun e => !(first.any fun x => x.1 == e.1)
    else l
  order.take (s.nat O.scanDepth)

/-- The unit that an instance takes where several are free: under first-come, and in class 0, the lowest-numbered; under affinity the
lowest-numbered of those that score it highest. -/
def unitTaken (s : State) (o : Op) : Option Nat :=
  let free := freeUnits s o
  if byAffinity s o && o.prio != 0 then
    let best := free.foldl (fun m t => max m (affinityScore s o t)) 0
    free.find? fun t => affinityScore s o t == best
  else free.head?

/-- Whether a missing resource is pallets: those of fused slots are where their engines can be had. -/
def lacksPallets (s : State) (o : Op) (code : Nat) : Bool :=
  code == 3 || code == 4 || code == 8 || (code == 5 && (fusedEngines s (fusedDecl s o).1).isSome)

/-- RESERVE_FAIL of the candidate tested after `k` others: one that is the oldest of class 0 and lacks pallets begins the P0 hold (13 R441). -/
def failReserve (tag code k : Nat) (s : State) : State :=
  match s.op tag with
  | none => s
  | some o =>
    let s := traceOp 10 tag o code 0 k (s.bump O.reserveFails 1)
    let oldest := ((readyList s o).head?.map (·.1)) == some tag
    if o.prio == 0 && oldest && lacksPallets s o code && !holdStands s then
      { s.bump O.p0Holds 1 with sched := { s.sched with hold := some tag } }
    else s

/-- A decision: each candidate that fails leaves its mark, a P0 hold among them, and the first that reserves is taken, with its place in the
order. -/
def decision (unit : Nat) : Nat → List (Nat × Op) → State → State × Option (Nat × Nat × Reserved)
  | _, [], s => (s, none)
  | k, e :: t, s =>
    match reserve s e.1 e.2 unit with
    | .ok r => (s, some (e.1, k, r))
    | .error c => decision unit (k + 1) t (failReserve e.1 c k s)

/-! ## Dispatch (13 R439) -/

/-- The decode job of an instance at its dispatch (07 R242, R253). -/
def newJob (s : State) (tag : Nat) (o : Op) (r : Rec) : Job :=
  let dec := o.id.kind == .dec
  let e := if dec then neededBits s o else Config.uciCodedBits r.bytes
  let got := if dec then arrivedBits s o else e
  let d := (decDesc s tag o r e got).bytes
  let tail := if dec && (recSegments s o.carrier r).turbo then (turboBlock r.tbs o.id.idx).2.2 else (descCode d).tail
  let job := kilnJob d { descCode d with tail := tail } s.kilnSet (if dec then decLlrs s o r got else uciLlrs s o r e)
    (if dec && combines s r then committedLlrs s r o.id.idx else []) (s.nat (O.runaheadFraction o.carrier))
  { job with dropped := dec && ((s.course o.key).map fun c => (c.result r.id).dropped).getD false }

/-- A COPY descriptor without a completion record (16 Table 16-2). -/
def copyDesc (gen tag bytes src dst next : Nat) : Bytes :=
  leBytes 1 1 ++ leBytes 1 (if next == 0 then 0 else 1) ++ leBytes 1 gen ++ leBytes 1 0 ++ leBytes 4 bytes ++ leBytes 8 src
    ++ leBytes 8 dst ++ leBytes 24 0 ++ leBytes 6 next ++ leBytes 2 tag ++ leBytes 8 0

/-- The place of the descriptors of a channel's fetch: the last pallet of the slice of the engine's number, 4 KiB for each channel (log
entry 25). -/
def chainBase (unit : Nat) : Nat := palletAddr (unit / 16 * 64 + 63) + unit % 16 * 0x1000

/-- The chain of a fetch (16 R529): descriptor `i` copies up to 65,536 bytes of the block to the start of the i-th destination pallet. -/
def fetchChain (base gen tag bytes src : Nat) (places : List Nat) : List Bytes :=
  let n := ceilDiv bytes 65536
  (List.range n).map fun i => copyDesc gen tag (min 65536 (bytes - i * 65536)) (src + i * 65536) (palletAddr (places.getD i 0))
    (if i + 1 = n then 0 else base + 64 * (i + 1))

/-- A fetch begins its chain: the first descriptor runs, and the second is prefetched (16 R533). -/
def beginFetch (tag : Nat) (o : Op) (s : State) : State :=
  let (bytes, place) := match s.course o.key with
    | some c => (Store.at 0 c.blocks o.id.recId, Store.at 0 c.store o.id.recId)
    | none => (0, 0)
  let base := chainBase o.unit
  let l := fetchChain base o.gen (tag % 65536) bytes (chanAddr (place / 2 ^ 20) + place % 2 ^ 20 * 0x10000) o.places
  let chain : Chain :=
    { user := 0, owner := tag, addr := base, cur := l.headD [], ahead := (l.drop 1).take 1 |>.map fun d => (base + 64, d)
      limit := s.nat O.hopLimit, gen := o.gen, tag := tag % 65536, record := 0, hops := 0, written := 0, poisoned := 0
      history := [base], stop := false, status := none, last := none }
  { s with mem := memWrite s.mem base l.flatten, hod := { s.hod with chains := Store.put s.hod.chains o.unit chain } }

/-- What the start of an operation on its unit begins there: a decode job, or a chain of copies of the transport block (06 R196). -/
def beginOn (tag : Nat) (o : Op) (s : State) : State :=
  if o.cls == 1 then
    match Store.find s.kiln.jobs tag with
    | some _ => traceOp 13 tag o 0 0 0 (restartJob tag ((s.bump O.restarts 1).bump O.runaheadRestarts 1))
    | none => match opRec s o with
      | some r =>
        let j := newJob s tag o r
        let s := { s with kiln := { s.kiln with jobs := Store.put s.kiln.jobs tag j } }
        if badDecode j.desc then jobDone tag 3 j (s.blockEnds j id) else s
      | none => s
  else if o.cls == 5 then beginFetch tag o s
  else s

/-- A pallet with the bytes valid in it put behind those that hold at least as many. -/
def insertLarger (e : Nat × Nat) : List (Nat × Nat) → List (Nat × Nat)
  | [] => [e]
  | x :: t => if x.2 < e.2 then e :: x :: t else x :: insertLarger e t

/-- The input pallets of an instance, the largest first (13 R446). -/
def inputPallets (s : State) (o : Op) : List Nat :=
  ((o.ins.flatMap fun i => match s.liveOp o.key i.1 with
    | some p => (p.2.places.take p.2.outs).mapIdx fun k x => (x, p.2.valid.getD k 0)
    | none => []).foldl (fun l e => insertLarger e l) []).map (·.1)

/-- The local prefetch slots of a tile slot (13 R445). -/
def localSlots (s : State) (t : Nat) : Nat := if s.obj (O.bondState (t / 2)) == 1 then 4 else 2

/-- The hod engine of the prefetch copies of a tile slot: one of the two of its tile group (13 R446; log entry 25). -/
def prefetchEngine (t : Nat) : Nat := 2 * (t / 20) + t / 2 % 2

/-- The first local slot: at tile-memory offset 0x6_0000, or 0xC_0000 in stretcher bond, in units of 64 KiB (13 R445). -/
def firstLocal (s : State) (t : Nat) : Nat := if s.obj (O.bondState (t / 2)) == 1 then 12 else 6

/-- The local slots of a tile slot that its running task does not use: that none of its windows with L set maps. -/
def localFree (s : State) (t : Nat) : List Nat :=
  let used := match Store.find s.tiles t with
    | some c => (c.wins.filter fun (w : Nat × Word) => bitOf w.2.toNat 3).map fun (w : Nat × Word) => w.2.toNat / 2 ^ 16 % 16
    | none => []
  ((List.range (localSlots s t)).map (· + firstLocal s t)).filter fun k => !used.contains k

/-- The copies begun for a next task: each input pallet with the free local slot that takes it. -/
def prefetchFor (s : State) (o : Op) (t : Nat) : List (Nat × Nat × Bool) :=
  if s.hodRuns (prefetchEngine t) then ((inputPallets s o).zip (localFree s t)).map fun p => (p.1, p.2, false) else []

/-- The dispatch of an instance whose reservation succeeded: a tile task is DISPATCHED until it starts, and every other operation starts
at once. -/
def dispatchOp (tag unit tested : Nat) (o : Op) (r : Reserved) (s : State) : State :=
  let next := o.cls == 0 && !unitFree s 0 unit
  let o' := { o with state := if o.cls == 0 then OpState.dispatched else OpState.running, unit := unit, start := s.airNow
                     places := r.places, own := r.own, common := r.common, stage := r.stage
                     fused := r.fused, next := next
                     params := if o.cls == 0 then [s.nat O.fusedEnS, s.nat O.fusedEnK]
                       else [s.nat O.detMode, s.nat O.detPrbGroup, s.nat O.precBackoff, s.nat O.prachThreshold] }
  let copies := if next then prefetchFor s o' unit else []
  let s := (s.bump O.dispatches 1).onOp tag fun _ => o'
  let s := if s.sched.hold == some tag then { s with sched := { s.sched with hold := none } } else s
  let s := if copies.isEmpty then s else { s with sched := { s.sched with copies := Store.put s.sched.copies unit copies } }
  let s := traceOp 2 tag o' 0 o'.pallets tested s
  if o.cls == 0 then s else traceOp 3 tag o' 0 0 0 (beginOn tag o' s)

/-- DISPATCH: the decision of the ready list of `tag` for a unit that is free, or that may take a next task. A decision that comes to
another instance, or another unit, is not this step. -/
def execDispatch (tag unit : Nat) (s : State) : Host.Outcome State Fault Refusal :=
  match s.op tag with
  | none => .next s
  | some o =>
    if o.state != .ready || o.old || !(unitsFor s o).contains unit || (o.id.kind == .dec && harqHeld s o) then .next s
    else if !(if unitFree s o.cls unit then unitTaken s o == some unit else (freeUnits s o).isEmpty && mayBeNext s o unit) then .next s
    else
      let d := decision unit 0 (candidatesFor s o unit) s
      match d.2 with
      | none => .next d.1
      | some (tag', k, r) => if tag' = tag then .next (dispatchOp tag unit k o r d.1) else .next s

/-- PROMOTION: air time reaches LS − URGENT_LEAD, and the operation enters class 0 (13 R438). -/
def execPromotion (tag : Nat) (s : State) : Host.Outcome State Fault Refusal :=
  match s.op tag with
  | some o =>
    if (o.state == .ready || o.state == .waiting) && o.prio != 0 && !o.old then
      let s := advanceToAir s (o.ls - s.obj O.urgentLead * airNs)
      let o := { o with prio := 0 }
      .next (traceOp 11 tag o 0 0 0 ((s.bump O.promotions 1).onOp tag fun _ => o))
    else .next s
  | none => .next s

/-! ## Publication (13 R447) -/

/-- The pallets beyond the outputs go back when an operation ends, the common pool's first. -/
def Op.trim (o : Op) : Op :=
  let keep := if o.stage.isEmpty then min o.outs o.places.length else 0
  let own := min o.own keep
  { o with unit := 0xFFFF, fused := [], places := o.places.take keep, own := own, common := keep - own, next := false, data := [] }

/-- The uncommitted version of a record, where the process holds it. -/
def uncommittedOf (h : Harq) (key recId : Nat) : Option Version :=
  match h.pending with
  | some (k, id, v) => if k == key && id == recId then some v else none
  | none => none

/-- A block's entry of the block table of a version, and, where its LLRs are kept, those LLRs (07 R250, R251). -/
def writeBlock (places : List Nat) (j : Job) (s : State) : State :=
  if j.status == some 1 then
    (s.writeVersion places (16 * j.block) j.tableEntry).writeVersion places (versionOffset j.c j.block j.dec.code.keptBits) j.keptBytes
  else s.writeVersion places (16 * j.block) (tableEntry 2 0 0 j.dec.code.ncb j.dec.code.z)

/-- The block table of a new version: the blocks that have passed read PASSED, and the others EMPTY. -/
def newTable (places : List Nat) (c : Nat) (passed : List Nat) (s : State) : State :=
  s.writeVersion places 0 ((List.range c).flatMap fun i => tableEntry (if passed.contains i then 2 else 0) 0 0 0 0)

/-- A decode's result joins that of its record (06 Table 6-13). A failure writes its block of the uncommitted version of the process, where the
version's pallets were reserved (06 R211, R216; 07 R251); a version that cannot be written is discarded, once for its record (06 R214). -/
def publishDec (tag : Nat) (o : Op) (s : State) : State :=
  match Store.find s.kiln.jobs tag, s.course o.key, opRec s o with
  | some j, some c, some r =>
    let res := Store.find c.softRes r.id
    let u := c.result r.id
    let fails := j.status == some 1
    let pending := uncommittedOf (s.harq (r.u 6 2) (r.u 8 1)) o.key r.id
    let u' := { u with iterations := max u.iterations j.last, restarts := u.restarts + j.restarts, ended := u.ended + 1
                       failed := u.failed + (if fails then 1 else 0), early := u.early || j.early, combined := u.combined || j.combine
                       dropped := u.dropped || j.dropped, notKept := u.notKept || (fails && res.isNone)
                       payload := if j.status == some 0 then Store.put u.payload j.block (j.dec.payload j.kind) else u.payload }
    let s := (s.dropJob tag).onCourse o.key fun c => { c with results := Store.put c.results r.id u' }
    match fails, res, pending with
    | true, some (places, chan), none =>
      let sg := recSegments s o.carrier r
      writeBlock places j (newTable places sg.c (u.payload.map (·.1)) (s.onHarq (r.u 6 2) (r.u 8 1) fun h =>
        let number := (((h.committed.map (·.number)).getD h.number) + 1) % 65536
        { h with pending := some (o.key, r.id, ⟨number, o.carrier, places, chan, r.tbs, r.qm, sg.ncb⟩) }))
    | true, none, _ => if u.failed == 0 then s.bump O.harqDiscards 1 else s
    | _, _, some v => writeBlock v.places j s
    | _, _, _ => s
  | _, _, _ => s.dropJob tag

/-- What a layer operation, or a tile's demod, has found joins the result of its record. -/
def publishFound (o : Op) (x : Option Found) (s : State) : State :=
  match x with
  | some x => s.onCourse o.key fun c => { c with results := Store.put c.results o.id.recId ((c.result o.id.recId).join x) }
  | none => s

/-- srs publishes: new weights of the subbands that it sounded, committed, where the entry's requirement was met and the entry is still there (08
R286, R291). -/
def publishSrs (o : Op) (s : State) : State :=
  match opRec s o with
  | some r =>
    let i := r.u 22 2
    if i == 0xFFFF then s
    else match o.found.bind (·.weights), Store.find s.wb i with
      | some w, some _ =>
        let s := w.foldl (fun s b => writeBack i b.1 b.2 s) s
        ((s.onWb i fun e => reachBack e none).bump O.srsUpdates 1).onCourse o.key fun c =>
          { c with results := Store.put c.results r.id { c.result r.id with entry := i } }
      | _, _ => s.bump O.wbUpdatesSkipped 1
  | none => s

/-- The demod of a DFT-s-OFDM allocation takes the measures of its symbol (08 R277). -/
def publishDemod (o : Op) (s : State) : State :=
  match s.course o.key, opRec s o with
  | some c, some r => if bitOf r.flags 1 then publishFound o (some (demodFound s o.key c r o.id.sym)) s else s
  | _, _ => s

/-- A polar decode of UCI gives its record the payload bits, and whether their CRC passed (06 Table 6-14). -/
def publishUci (tag : Nat) (o : Op) (s : State) : State :=
  let s' := s.dropJob tag
  match Store.find s.kiln.jobs tag with
  | some j => s'.onCourse o.key fun c =>
      { c with results := Store.put c.results o.id.recId { c.result o.id.recId with uci := some (j.dec.pass, j.dec.bits) } }
  | none => s'

/-- What an instance has written: what a transform computes with its end, and what others have staged. -/
def endData (s : State) (o : Op) : List Host.Cell :=
  if o.cls == 4 then o.outCells ((s.course o.key).elim [] (transformOut s o))
  else o.data

/-- The bytes valid in each output pallet: up to the last that was written, or what a fetch has copied (13 Table 13-6). -/
def validBytes (s : State) (o : Op) (data : List Host.Cell) : List Nat :=
  if o.cls == 5 then
    let n := ((s.course o.key).map fun c => Store.at 0 c.blocks o.id.recId).getD 0
    o.outBases.mapIdx fun i _ => min 65536 (n - 65536 * i)
  else o.outBases.map fun a => data.foldl (fun m c => if a ≤ c.1 && c.1 < a + 0x10000 then max m (c.1 - a + 1) else m) 0

/-- What the publication of an operation does beside its pallets. -/
def publishKind (tag : Nat) (o : Op) (s : State) : State :=
  if o.cls == 2 then s.bump O.encBlocks (encodeBlocks s o)
  else match o.id.kind with
    | .dec => publishDec tag o s
    | .srs => publishSrs o (publishFound o o.found s)
    | .demod => publishDemod o s
    | .chest | .det | .prach => publishFound o o.found s
    | .uci => publishUci tag o s
    | _ => s.dropJob tag

/-- An encode ends with its engine's report: it counts, its coded bits and its result record are staged, and its status decides its end (07 R254 to
R257, Table 7-13). -/
def encodeEnd (tag : Nat) (how : TaskEnd) (o : Op) (s : State) : State :=
  let status := encodeStatus s tag o how
  let s := s.bump O.encJobs 1
  let s := if status == 2 then s.bump O.llrReadErrors 1 else if status == 3 then s.bump O.badJobs 1 else s
  s.onOp tag fun o => { o with ended := some (statusEnd status), data := encodeCells s o status }

/-- The status byte of an end (11 Table 11-13; 07 Table 7-8). -/
def endStatus (s : State) (tag : Nat) (o : Op) (how : TaskEnd) : Nat :=
  match (Store.find s.kiln.jobs tag).bind (·.status) with
  | some n => n
  | none => match how with
    | .ok => 0 | .fault => 1 | .dataLost => if o.cls == 2 then encodeStatus s tag o how else 2 | .cancelled => 3 | .tileFault => 4

/-- A unit has ended an operation (13 R447): its outputs are published, or empty; or it runs again, or its cancel is acknowledged. Of a kiln job that
ended DATA_LOST or BAD_JOB the result record only is published, and its data is an empty token. -/
def endOp (tag : Nat) (how : TaskEnd) (o : Op) (s : State) : State :=
  let s := traceOp 4 tag o (endStatus s tag o how) 0 0 s
  if o.cancel then
    (if o.cls == 1 || o.cls == 2 then cancelJob tag s
     else ackCancel tag (if o.cls == 3 then s.bump O.leCancelled 1 else s))
  else match how with
    | .ok =>
      let data := endData s o
      let valid := validBytes s o data
      let s := publishKind tag o { s with mem := memPutAll data s.mem }
      let s := s.onOp tag fun o => { o.trim with state := OpState.ended, published := true, valid := valid, ended := none }
      resettle (match s.op tag with
        | some o => traceOp 5 tag o 0 o.pallets 0 s
        | none => s)
    | .fault =>
      resettle (causeAt o.key 5 (opRecs s o) (s.onOp tag fun o => { o.bare with state := OpState.ended, published := true, empty := true, ended := none }))
    | .dataLost =>
      let kiln := o.cls == 1 || o.cls == 2
      let data := if kiln then o.data else []
      let valid := validBytes s o data
      let s := { s with mem := memPutAll data s.mem }.dropJob tag
      resettle (causeAt o.key 4 (opRecs s o) (s.onOp tag fun o =>
        { (if kiln then { o.trim with valid := valid } else o.bare) with
            state := OpState.ended, published := true, empty := true, ended := none }))
    | .tileFault => rerunOp s tag
    | .cancelled => ackCancel tag s

/-- OPERATION_END: the end that the unit has reported; an encode and a transform report theirs with this step. -/
def execOperationEnd (tag : Nat) (how : TaskEnd) (s : State) : Host.Outcome State Fault Refusal :=
  match s.op tag with
  | some o =>
    if o.state != .running then .next s
    else match o.ended with
      | some e => .next (endOp tag e o s)
      | none =>
        if o.cls == 4 then .next (endOp tag how o s)
        else if o.cls == 2 then
          let s := if how == .ok || how == .dataLost then encodeEnd tag how o s else s
          .next (match s.op tag with
            | some o => endOp tag (o.ended.getD how) o s
            | none => s)
        else .next s
  | none => .next s

/-! ## Expiry (13 R450, R451; 06 R208) -/

/-- OPERATION_LS_EXPIRY: at LS a WAITING decode that only its data held back becomes READY under 06 R208; any other operation that is
WAITING or READY expires. -/
def execOperationLsExpiry (tag : Nat) (s : State) : Host.Outcome State Fault Refusal :=
  match s.op tag with
  | some o =>
    if (o.state == .waiting || o.state == .ready) && !o.old then
      let s := advanceToAir s o.ls
      if o.id.kind == .dec && o.state == .waiting && !harqHeld s o then .next (settle s)
      else .next (resettle (expireOp tag s))
    else .next s
  | none => .next s

/-- The cancel of an operation at LF: one that has not started, or runs on a transform engine, is released at once; to any other a cancel
token goes. -/
def cancelAtLf (tag : Nat) (o : Op) (s : State) : State :=
  let s := traceOp 7 tag o 0 0 0 (countExpiry o O.cancelledAtLf s)
  if o.state == .dispatched then
    resettle ((if o.next then { s with sched := { s.sched with copies := Store.drop s.sched.copies o.unit } } else s).onOp tag Op.expire)
  else if o.cls == 4 then resettle (s.onOp tag Op.expire)
  else
    let s := s.onOp tag fun o => { o with cancel := true }
    if o.cls == 5 then
      { s with hod := { s.hod with chains := s.hod.chains.map fun c =>
          if c.1 == o.unit && c.2.owner == tag then (c.1, { c.2 with stop := true }) else c } }
    else s

/-- OPERATION_LF_CANCEL. -/
def execOperationLfCancel (tag : Nat) (s : State) : Host.Outcome State Fault Refusal :=
  match s.op tag with
  | some o =>
    if (o.state == .dispatched || o.state == .running || o.state == .suspended) && !o.cancel && !o.old then
      .next (cancelAtLf tag o (advanceToAir s o.lf))
    else .next s
  | none => .next s

/-! ## Local prefetch (13 R446) -/

/-- The device address of an offset in the tile memory of a slot: in stretcher bond the second 512 KiB are the follower's (11 R400). -/
def tileCell (t off : Nat) : Nat := if off < 0x80000 then tileAddr t + off else tileAddr (t + 1) + (off - 0x80000)

/-- The open copies of a tile slot's next task are abandoned. -/
def abandonCopies (t : Nat) (s : State) : State :=
  let l := Store.at [] s.sched.copies t
  { s with sched := { s.sched with copies := Store.put s.sched.copies t (l.filter (·.2.2)) } }.bump O.prefetchAbandoned
    (l.filter fun (c : Nat × Nat × Bool) => !c.2.2).length

/-- PREFETCH_WAIT_EXPIRY: PREFETCH_WAIT after the running task's end. -/
def execPrefetchWaitExpiry (t : Nat) (s : State) : Host.Outcome State Fault Refusal :=
  if (Store.at [] s.sched.copies t).any (fun c => !c.2.2) && (runningTask s t).isNone && (nextTask s t).isSome then
    .next (abandonCopies t (advanceTicks s (Store.at 0 s.sched.freed t + ticksOfNs (s.nat O.prefetchWait))))
  else .next s

/-! ## Partitions (13 R427 to R429) -/

/-- Whether a form can exist. -/
def formExists (vl bond : Int) : Bool := !(bond == 1 && vl == 512) && !(vl == 4096 && bond != 1)

/-- The check of PART_ENABLE (13 R428). -/
def partCheck (p : Nat) (s : State) : Reason :=
  if (List.range 8).any fun q => q != p && s.holds (O.partEnable q) && s.partForm q == s.partForm p then .bondConflict
  else if !formExists (s.obj (O.partVl p)) (s.obj (O.partBond p)) then .bondConflict
  else if decide ((s.slotsOf (s.partForm p)).length < s.nat (O.partClaim p)) then .bondConflict
  else .ok

/-- PART_ENABLE of partition `p`. -/
def partRules (p : Nat) : EnableRules :=
  { key := O.partEnable p, check := partCheck p
    accept := fun s => s.setOps (s.sched.ops.map fun e =>
      if e.2.cls == 0 && e.2.state == .ready && e.2.form == s.partForm p then (e.1, { e.2 with list := p + 1 }) else e)
    stop := id, busy := fun s => partBusy s p }

/-- WRITE_PART_ENABLE. -/
def execWritePartEnable (x : Xfer) (p : Nat) (v : Int) (s : State) : Host.Outcome State Fault Refusal :=
  if 8 ≤ p then .fault .noSuchUnit else .next (hostWrite x (O.partEnable p) (.num v) ((partRules p).write v) s)

/-! ## The trace (13 R455) -/

/-- TRACE_ENABLE: the ring draws on what DATA_PALLETS leaves (15 R501) and the image copy (19 R614). -/
def traceRules : EnableRules :=
  { key := O.traceEnable
    check := fun s => if s.dataNeeded + s.boot.copy + s.nat O.tracePallets ≤ s.dataPallets then .ok else .noPallets
    accept := fun s => { s with sched := { s.sched with trace := [] } }, stop := id, busy := fun _ => false }

/-- WRITE_TRACE_ENABLE. -/
def execWriteTraceEnable (x : Xfer) (v : Int) (s : State) : Host.Outcome State Fault Refusal :=
  .next (hostWrite x O.traceEnable (.num v) (traceRules.write v) s)

/-- The oldest records of the trace that one read pops: up to 32. -/
def traceHead (s : State) : Option Bytes := if s.sched.trace.isEmpty then none else some (s.sched.trace.take 32).flatten

/-- The trace without the records that a read popped. -/
def tracePop (s : State) : State := { s with sched := { s.sched with trace := s.sched.trace.drop 32 } }

/-- READ_TRACE_RECORDS. -/
def execReadTraceRecords (x : Xfer) (s : State) : Host.Outcome State Fault Refusal :=
  .next (hostPop x O.traceRecords traceHead tracePop s)

end Sys2Proof.Machine
end

