-- ==== Sys2Proof/Machine/Courses.lean ====
section
/-! DEFINITION. Course messages (03 R96 to R112, 04 R125 to R138, 06 R189 to R204): how they arrive on a channel, the tests in their order,
what acceptance does, and the life of a course. -/

namespace Sys2Proof.Machine

/-! ## Sequences and credits (04 R126, R129) -/

/-- The value of a sequence after another: it wraps from 2⁴⁸ − 1 to 1 and never uses 0. -/
def seqNext (n : Nat) : Nat := if n + 1 ≥ 2 ^ 48 then 1 else n + 1

/-- How far a sequence value lies after another. -/
def seqDist (a b : Nat) : Nat := (b + (2 ^ 48 - 1) - a) % (2 ^ 48 - 1)

/-- Whether a sequence value is not later than another: it lies less than half the range behind (04 R126; log entry 47). -/
def seqNotLater (a b : Nat) : Bool := decide (seqDist a b < 2 ^ 47)

/-- The credits of a message. -/
def creditsOf (length : Nat) : Nat := ceilDiv length 256

/-! ## Course ids and stamps (03 R96, R97) -/

/-- The course id of a slot start (03 Table 3-3). -/
def courseIdOf (dir mu ats : Nat) : Nat :=
  let slot := (List.range (2 ^ mu)).find? fun k => slotTc mu k == ats / 2 ^ 15 % 2 ^ 21
  dir * 2 ^ 31 + ats / 2 ^ 50 % 2 ^ 14 * 2 ^ 17
    + (ats / 2 ^ 40 % 1024 * slotsPerFrame mu + ats / 2 ^ 36 % 16 * 2 ^ mu + slot.getD 0)

/-- BAD_NUMEROLOGY (03 R97). -/
def badNumerology (mu : Nat) (h : CourseHdr) : Bool :=
  h.ats % 2 ^ 15 != 0 || decide (9 < h.ats / 2 ^ 36 % 16)
    || !((List.range (2 ^ mu)).any fun k => slotTc mu k == h.ats / 2 ^ 15 % 2 ^ 21)
    || decide (1024 * slotsPerFrame mu ≤ h.course % 2 ^ 17) || h.course != courseIdOf (dirOf h.course) mu h.ats

/-! ## The TB store (15 R502, R503) -/

/-- Pallets of a block. -/
def blockPallets (bytes : Nat) : Nat := ceilDiv bytes 65536

/-- The blocks of a request in progress: handles and lengths in order of arrival. -/
def Request.blocks (r : Request) : List (Nat × Nat) := r.data.map fun (b : Nat × Bytes) => (b.1, b.2.length)

/-- The runs of pallets that courses hold in the TB store of a channel: first pallet and length. -/
def tbRuns (s : State) (chan : Nat) : List (Nat × Nat) :=
  s.pipe.courses.flatMap fun c => (c.2.store.filter fun x => x.2 / 2 ^ 20 == chan).map fun x =>
    (x.2 % 2 ^ 20, blockPallets (Store.at 0 c.2.blocks x.1))

/-- The first run of `n` consecutive free pallets of a region. -/
def firstFit (region n : Nat) (runs : List (Nat × Nat)) : Option Nat :=
  let starts := 0 :: runs.map fun r => r.1 + r.2
  ((starts.filter fun a => decide (a + n ≤ region) && runs.all fun r => decide (a + n ≤ r.1) || decide (r.1 + r.2 ≤ a))).foldl
    (fun best a => match best with
      | some b => some (min a b)
      | none => some a) none

/-- A place for each block of a request, all on one channel. -/
def placeBlocks (region chan : Nat) : List (Nat × Nat) → List (Nat × Nat) → Option (List (Nat × Nat))
  | _, [] => some []
  | runs, (id, bytes) :: t =>
    match firstFit region (blockPallets bytes) runs with
    | some a => (placeBlocks region chan (runs ++ [(a, blockPallets bytes)]) t).map fun l => (id, chan * 2 ^ 20 + a) :: l
    | none => none

/-- Where the TB store takes the data of a request: the channel with the most free pallets, the lowest-numbered among equals. -/
def tbPlaces (s : State) (blocks : List (Nat × Nat)) : Option (List (Nat × Nat)) :=
  if blocks.isEmpty then some []
  else (s.leastChannel fun c => ((tbRuns s c).map (·.2)).sum).bind fun c => placeBlocks s.tbRegion c (tbRuns s c) blocks

/-! ## Contexts and soft buffers (06 R216, R218) -/

/-- The UE contexts that records name, each once. -/
def namedUes (recs : List Rec) : List Nat := (recs.filterMap Rec.ue).eraseDups

/-- The contexts that courses pin. -/
def State.pinned (s : State) : List Nat := (s.pipe.courses.flatMap fun c => c.2.pins).eraseDups

/-- Whether the cache can pin the contexts of a course as well. -/
def canPin (s : State) (ues : List Nat) : Bool :=
  decide ((s.pinned ++ ues).eraseDups.length ≤ 4096)

/-- A context enters the on-chip cache; a miss counts, and the least recently used context that no course pins leaves a full cache. -/
def touchCache (s : State) (ue : Nat) : State :=
  let l := s.pipe.cache.filter (· != ue) ++ [ue]
  let hit := s.pipe.cache.contains ue
  let l := if l.length ≤ 4096 then l else match l.find? fun u => u != ue && !s.pinned.contains u with
    | some u => l.filter (· != u)
    | none => l
  let s := { s with pipe := { s.pipe with cache := l } }
  if hit then s else s.bump O.cacheMisses 1

/-- The host part of a UE context that a request reads: its course's snapshot, where that has one (06 R218). -/
def State.hostFor (s : State) (course : Option Course) (ue : Nat) : Bytes :=
  ((course.bind fun c => Store.find c.snaps ue)).getD (s.ue ue).host

/-- The soft-buffer pallets that the new version of each PUSCH record could need. -/
def softNeeds (s : State) (host : Nat → Bytes) (n : Nat) (recs : List Rec) : List (Nat × Nat) :=
  (recs.filter fun r => r.type == 0x11).map fun r => (r.id, versionPallets (host (r.u 6 2)) (recSegments s n r))

/-- The channel for a soft-buffer version. -/
def State.softChannel (s : State) : Option Nat := s.leastChannel s.softHeld

/-- Each record's reservation, on the channel that has the most free pallets then. -/
def reserveSoft (key : Nat) (needs : List (Nat × Nat)) (s : State) : State :=
  needs.foldl (fun s x => match s.softChannel with
    | some c => if x.2 ≤ s.softFree then s.onCourse key fun k => { k with softRes := Store.put k.softRes x.1 (softPlaces s c x.2, c) } else s
    | none => s) s

/-! ## The journal's fill (04 R138; log entry 26) -/

/-- JOURNAL_USED in KiB: 96 bytes for each record kept and for each accepted course, with its description or its body. -/
def State.journalUsed (s : State) : Nat :=
  ceilDiv ((s.link.chans.map fun c => 96 * c.2.verdicts.length + (c.2.outcomes.map fun o => 96 + o.body.length).sum).sum
    + (s.pipe.courses.map fun c => if c.2.live then 96 + (c.2.recs.map fun r => r.bytes.length).sum else 0).sum) 1024

/-- The KiB of a journal region (15 R508). -/
def journalSize : Nat := 262144

/-- Whether a verdict record cannot be written. -/
def journalStuck (s : State) : Bool := s.obj O.journalCopies == 0 || decide (journalSize ≤ s.journalUsed)

/-! ## Binding points (03 R105, R107, R110) -/

/-- The instant from which a course of a direction takes no more change of a class, in device air time; a revision that changes no record is
judged as one of class W (log entry 47). -/
def bindPoint (s : State) (n dir cls : Nat) (slot : Int) : Int :=
  if dir == 1 then slot - s.obj (O.ulBindLead n) * airNs
  else if cls == 3 then slot - s.encLead n else slot - s.mapLead n

/-- The first transmit instant of a downlink course. -/
def firstTx (s : State) (n : Nat) (slot : Int) (first : Nat) : Int := s.txInstant n slot first

/-! ## The tests (06 R195) -/

/-- The data of a request is written to its places in the TB store (03 R100, 15 R503). -/
def storeData (places : List (Nat × Nat)) (r : Request) (s : State) : State :=
  { s with mem := places.foldl (fun m p =>
      memWrite m (storeAddr p.2) ((r.data.filter fun (b : Nat × Bytes) => b.1 == p.1).flatMap fun (b : Nat × Bytes) => b.2)) s.mem }

/-- What the tests of a request need beside the state: its message, carrier and key, the slot in device air time, the description, the course
that it names, and the places of its data. -/
structure Asked where
  req    : Request
  n      : Nat
  dir    : Nat
  key    : Nat
  slot   : Int
  desc   : Option Desc
  course : Option Course
  blocks : List (Nat × Nat)
  deriving DecidableEq, Repr

/-- The course that a request names; a CLOSED course whose slot lies M or more before is forgotten, and its id free again (03 R112). -/
def namedCourse (s : State) (key : Nat) (slot : Int) : Option Course :=
  (s.course key).filter fun c => !(c.state == .closed && decide (c.slotAir + airModulus * airTc ≤ slot))

/-- A request with what its tests need. -/
def askedOf (s : State) (r : Request) : Asked :=
  let n := r.hdr.chan - 1
  let dir := dirOf r.hdr.course
  let key := courseKey r.hdr.chan r.hdr.course
  let slot := s.airOfCarrier n (linearOf r.hdr.ats)
  { req := r, n := n, dir := dir, key := key, slot := slot, desc := parseDesc dir r.desc
    course := namedCourse s key slot, blocks := joinBlocks r.blocks }

/-- Whether a request carries a description. -/
def Request.hasDesc (r : Request) : Bool := r.type == 0x0101 || r.type == 0x0102

/-- The records whose data a course holds. -/
def Course.heldData (c : Course) : List Nat := c.blocks.map (·.1)

/-- Test 3: GENERATION_STALE (03 R98, 04 R135). -/
def testGeneration (a : Asked) : Reason :=
  match a.req.type, a.course with
  | 0x0101, some c => if a.req.hdr.gen != 0 || (c.state != .ended && c.state != .closed) then .generationStale else .ok
  | 0x0101, none => if a.req.hdr.gen != 0 then .generationStale else .ok
  | _, none => .generationStale
  | 0x0102, some c => if a.req.hdr.gen == c.gen + 1 && decide (c.gen < 255) then .ok else .generationStale
  | _, some c => if a.req.hdr.gen == c.gen then .ok else .generationStale

/-- Test 4. -/
def testEnded (a : Asked) : Reason :=
  match a.course with
  | some c => if c.state == .ended || c.state == .closed then .tooLate else .ok
  | none => .ok

/-- Test 6: BAD_DESCRIPTION (06 R194). -/
def testDesc (s : State) (a : Asked) : Reason :=
  if !a.req.hasDesc then .ok
  else match a.desc with
    | none => .badDescription
    | some d =>
      let kept := if a.req.type == 0x0102 then ((a.course.map Course.heldData).getD []) else []
      if descOk s (s.hostFor a.course) a.n a.dir a.req.tbBytes a.req.blocks kept d then .ok else .badDescription

/-- Test 8: JOURNAL_FULL (04 R138). -/
def testJournal (s : State) (a : Asked) : Reason :=
  if journalStuck s then .journalFull
  else if a.req.type == 0x0101 && (decide (s.nat O.unackedLimit ≤ (s.chan a.req.hdr.chan).outcomes.length)
      || decide (s.nat O.journalHigh * journalSize < 100 * s.journalUsed)) then .journalFull
  else .ok

/-- The courses of a channel and direction that are open: accepted, and not ended yet (03 R100). -/
def openCourses (s : State) (chan dir : Nat) : Nat :=
  (s.pipe.courses.filter fun c => c.1 / 2 ^ 32 == chan && dirOf (c.1 % 2 ^ 32) == dir && c.2.state != .ended && c.2.state != .closed).length

/-- Test 9, of a tentative course. -/
def testRoom (s : State) (a : Asked) : Reason :=
  if a.req.type != 0x0101 then .ok
  else match a.desc with
    | none => .ok
    | some d =>
      if 8 ≤ openCourses s a.req.hdr.chan a.dir then .deadlineInfeasible
      else if !canPin s (namedUes d.recs) then .noUeContexts
      else if s.softFree < ((softNeeds s (s.hostFor none) a.n d.recs).map (·.2)).sum
          || (!(softNeeds s (s.hostFor none) a.n d.recs).isEmpty && s.softChannel.isNone) then .noPallets
      else .ok

/-- The class of a revision with its changes (03 R104). -/
def revisionOf (s : State) (a : Asked) : List (Nat × Nat) :=
  match a.course, a.desc with
  | some c, some d => changesOf (s.std a.n) (s.prbs a.n) c.recs d.recs
  | _, _ => []

/-- Test 10: TOO_LATE at or after the binding point that concerns the message (03 R100, R107, R110). -/
def testBinding (s : State) (a : Asked) : Reason :=
  let late := fun (t : Int) => if t ≤ s.airNow then Reason.tooLate else .ok
  match a.req.type, a.course with
  | 0x0101, _ => late (bindPoint s a.n a.dir 3 a.slot)
  | 0x0102, some c =>
    if c.state != .opened then .tooLate else late (bindPoint s a.n a.dir (classOf (revisionOf s a)) c.slotAir)
  | 0x0104, some c =>
    if a.dir == 1 then (if c.state != .opened then .tooLate else late (bindPoint s a.n 1 0 c.slotAir))
    else if c.state != .opened && c.state != .bound then .tooLate
    else late (firstTx s a.n c.slotAir c.first)
  | _, _ => .ok

/-- What a revision re-issues: the nodes of the new graph, and which of them are issued anew (06 R199). -/
def revisionGraph (s : State) (a : Asked) (c : Course) (d : Desc) : List Node × (OpId → Bool) :=
  let site : Site := ⟨a.n, a.dir, d, c.slotAir, c.snaps⟩
  let changes := revisionOf s a
  let syms := changedSymbols s site ⟨c.first, c.last, c.recs⟩ (changes.map (·.1))
  let sel := fun (o : OpId) =>
    (if a.dir == 0 then reissued changes d.recs syms o else reissuedUl changes o) || (s.liveOp a.key o).isNone
  (graphOf s site, sel)

/-- Whether an operation of an earlier generation is not complete yet. -/
def incomplete (s : State) (key : Nat) (o : OpId) : Bool :=
  match s.liveOp key o with
  | some (_, p) => !p.published
  | none => true

/-- Test 11, with the excess of its estimate in air units (03 R100, R108). -/
def testFeasible (s : State) (a : Asked) : Reason × Option Int :=
  match a.req.type, a.desc, a.course with
  | 0x0101, some d, _ =>
    if s.airNow + s.slotSpan a.n (s.nat (O.runAheadSlots a.n)) < a.slot then (.deadlineInfeasible, some 0)
    else
      let e := feasExcess s a.n s.airNow (graphOf s ⟨a.n, a.dir, d, a.slot, []⟩) (fun _ => true) fun _ => true
      if feasible e then (.ok, some 0) else (.deadlineInfeasible, e)
  | 0x0102, some d, some c =>
    if a.dir == 1 then (.ok, some 0)
    else
      let g := revisionGraph s a c d
      let e := feasExcess s a.n s.airNow g.1 (fun o => g.2 o || incomplete s a.key o) g.2
      if feasible e then (.ok, some 0) else (.tooLate, e)
  | _, _, _ => (.ok, some 0)

/-- Tests 2 to 11 in their order; while no verdict record can be written every request is refused with JOURNAL_FULL (04 R138). -/
def judgeRequest (s : State) (a : Asked) : Reason × Option Int :=
  let r := if journalStuck s then .journalFull else firstReason [if badNumerology (s.mu a.n) a.req.hdr then .badNumerology else .ok, testGeneration a, testEnded a,
    if s.isOn (O.carrierEnable a.n) then .ok else .carrierDisabled, testDesc s a,
    if (tbPlaces s a.blocks).isNone then .noPallets else .ok, testJournal s a, testRoom s a, testBinding s a]
  if r = .ok then testFeasible s a else (r, some 0)

/-! ## Acceptance -/

/-- A tentative course is accepted: its outcome sequence, its data, pins, snapshots and reservations, and its whole graph at generation 0
(03 R100; 06 R198, R216, R218). -/
def acceptTentative (k : Claim) (outSeq : Nat) (a : Asked) (d : Desc) (s : State) : State :=
  let h := a.req.hdr
  let ues := k.ues
  let c : Course :=
    { ats := h.ats, slotAir := a.slot, order := s.pipe.accepted, gen := 0, state := .opened, reqSeq := h.seq, outSeq := outSeq
      first := d.first, last := d.last, recs := d.recs, blocks := a.blocks.foldl (fun m b => Store.put m b.1 b.2) []
      store := k.places.foldl (fun m b => Store.put m b.1 b.2) [], changed := [], hostBound := false
      cancelled := false, rerun := false, revOk := 0, revRef := k.revRef, sent := 0, blanked := 0, withheld := 0, unsent := 0, causes := [], expired := 0
      pins := ues, snaps := ues.foldl (fun m u => Store.put m u (s.ue u).host) [], softRes := [], results := [], rx := [], got := [], went := [], journalled := false
      noOutcome := false }
  let s := ues.foldl touchCache (storeData k.places a.req s)
  let s := { s with pipe := { s.pipe with courses := Store.put s.pipe.courses a.key c, accepted := s.pipe.accepted + 1 } }
  let s := reserveSoft a.key k.soft s
  resettle (issueGraph h.chan h.course 0 (graphOf s ⟨a.n, a.dir, d, a.slot, []⟩) (fun _ => true) s)

/-- A revision is accepted: the records that it changes take its generation, their operations are superseded and issued anew, and all others
stay (06 R199, R200); a DELETING weight-bank entry that no course names any more goes (08 R288). -/
def acceptRevise (k : Claim) (a : Asked) (c : Course) (d : Desc) (s : State) : State :=
  let h := a.req.hdr
  let g := revisionGraph s a c d
  let changes := revisionOf s a
  let places := k.places
  let gone := c.heldData.filter fun i => (recById d.recs i).isNone
  let s := supersedeOps a.key (fun o => g.2 o || !(g.1.any fun x => x.id == o)) s
  let ues := (namedUes d.recs).filter fun u => !c.pins.contains u
  let s := ues.foldl touchCache (storeData places a.req s)
  let hosts := ues.map fun u => (u, (s.ue u).host)
  let s := s.onCourse a.key fun c =>
    { c with gen := h.gen, revOk := c.revOk + 1, first := d.first, last := d.last, recs := d.recs
             blocks := a.blocks.foldl (fun m b => Store.put m b.1 b.2) (gone.foldl Store.drop c.blocks)
             store := places.foldl (fun m b => Store.put m b.1 b.2) (gone.foldl Store.drop c.store)
             changed := changes.foldl (fun m x => Store.put m x.1 (h.gen, x.2)) c.changed
             results := changes.foldl (fun m x => Store.drop m x.1) c.results
             softRes := changes.foldl (fun m x => Store.drop m x.1) c.softRes
             pins := c.pins ++ ues, snaps := hosts.foldl (fun m x => Store.put m x.1 x.2) c.snaps }
  let s := sweepEntries (reserveSoft a.key k.soft s)
  resettle (issueGraph h.chan h.course h.gen g.1 g.2 (s.bump (O.revisionsAccepted a.n) 1))

/-- A course binds (03 R107; 06 R203): its outputs may be released from now on. -/
def bindCourse (key : Nat) (host : Bool) (s : State) : State :=
  releaseOps (s.onCourse key fun c => { c with state := CourseState.bound, hostBound := host })

/-- A course is cancelled: its instances and outputs go, it sends and receives nothing, and its outcome is due (03 R110; 06 R204). -/
def cancelCourse (key : Nat) (s : State) : State :=
  askOutcome key (dropOps key ((endCourse key s).onCourse key fun c => { c with cancelled := true }))

/-- What a request claims while it waits for its ACCEPT to be sent (04 R134). -/
def claimOf (s : State) (a : Asked) : Claim :=
  let recs := (a.desc.map Desc.recs).getD []
  let changes := revisionOf s a
  { req := a.req, places := (tbPlaces s a.blocks).getD []
    soft := (softNeeds s (s.hostFor a.course) a.n recs).filter fun x => a.req.type == 0x0101 || changes.any fun y => y.1 == x.1
    ues := namedUes recs, revRef := 0 }

/-- What the acceptance of a request does, once its ACCEPT has been sent (04 R134). -/
def acceptRequest (k : Claim) (outSeq : Nat) (a : Asked) (s : State) : State :=
  match a.req.type, a.desc, a.course with
  | 0x0101, some d, _ => acceptTentative k outSeq a d s
  | 0x0102, some d, some c => acceptRevise k a c d s
  | 0x0103, _, some c => if c.state == .opened then bindCourse a.key true s else s
  | 0x0104, _, some _ => cancelCourse a.key s
  | _, _, _ => s

/-- The state as it stands once every request that waits for its ACCEPT to be sent has been handled: the next request of a channel is judged after
those before it (03 R99), and what they take is taken (04 R134; log entry 47). -/
def State.handled (s : State) : State :=
  let t := s.link.chans.foldl (fun t c => c.2.claims.foldl (fun t k => acceptRequest k 0 (askedOf t k.req) t) t) s
  { t with link := { t.link with chans := t.link.chans.map fun c => (c.1, { c.2 with claims := [] }) } }

/-- A refused revision counts on its course, or on the request for it whose ACCEPT has not been sent. -/
def countRefused (a : Asked) (s : State) : State :=
  if (s.course a.key).isSome then s.onCourse a.key fun c => { c with revRef := c.revRef + 1 }
  else s.onChan a.req.hdr.chan fun c => { c with claims := c.claims.map fun k =>
    if k.req.type == 0x0101 && k.req.hdr.course == a.req.hdr.course then { k with revRef := k.revRef + 1 } else k }

/-- What a refusal counts; TOO_LATE_TOTAL counts those of course channels (03 R113; log entry 47). -/
def countRefusal (a : Asked) (r : Reason) (s : State) : State :=
  let s := if r == .tooLate then s.bump O.tooLateTotal 1 else s
  let s := if r == .journalFull then s.bump (O.journalFullRefusals a.req.hdr.chan.pred) 1 else s
  if a.req.type == 0x0102 then
    countRefused a (if r == .tooLate then s.bump (O.refusedTooLate a.n) 1 else s)
  else s

/-- Bytes 40 to 43 of a REFUSE: the excess in nanoseconds, at most the largest I32. -/
def excessNs (e : Option Int) : Int :=
  match e with
  | some x => max (-(2 ^ 31)) (min (2 ^ 31 - 1) (nsOf x))
  | none => 2 ^ 31 - 1

/-- A complete request or amendment is judged, after those before it (03 R99; 04 R133, R134): the expected sequence advances, one that passes claims what it needs and is
assigned its outcome sequence, and the verdict record goes to the journal. -/
def completeRequest (r : Request) (s : State) : State :=
  let ch := s.chan r.hdr.chan
  let s := s.onChan r.hdr.chan fun c => { c with req := none, nextReq := seqNext c.nextReq, owed := 0 }
  let w := s.handled
  let a := askedOf w r
  let j := judgeRequest w a
  let opens := j.1 == .ok && r.type == 0x0101
  let k := claimOf w a
  let s := if j.1 = .ok then
      s.onChan r.hdr.chan fun c => { c with claims := c.claims ++ [k], nextOut := if opens then seqNext c.nextOut else c.nextOut }
    else countRefusal a j.1 s
  let v : Verdict :=
    { seq := r.hdr.seq, type := r.type, course := r.hdr.course, gen := if j.1 = .ok then r.hdr.gen else ((a.course.map (·.gen)).getD 0)
      ats := r.hdr.ats, reason := j.1, credits := ch.owed + r.cost, outSeq := if opens then ch.nextOut else 0
      excess := if j.1 == .tooLate || j.1 == .deadlineInfeasible then excessNs j.2 else 0 }
  { s with link := { s.link with journal := s.link.journal ++ [.verdict r.hdr.chan v] } }

/-- A verdict is sent; a request whose ACCEPT it is is accepted with it (04 R134). -/
def sendVerdict (chan : Nat) (v : Verdict) (replay : Bool) (s : State) : State :=
  let claim := (s.chan chan).claims.find? fun k => k.req.hdr.seq == v.seq
  let s := (s.onChan chan fun c =>
    { c with lastVerdict := v.seq, claims := c.claims.filter fun k => k.req.hdr.seq != v.seq }).send (.verdict chan v replay)
  match claim with
  | some k => acceptRequest k v.outSeq (askedOf s k.req) s
  | none => s

/-! ## Arrival (04 R119, R125, R128, R145) -/

/-- A message is discarded and counted; its credits come back with the next verdict of its channel. -/
def discard (chan length : Nat) (s : State) : State :=
  let s := s.bump O.formatErrors 1
  if 1 ≤ chan && chan ≤ 64 then s.onChan chan fun c => { c with owed := c.owed + creditsOf length } else s

/-- What happens to every course-channel message before its own rules: it is discarded and counted on a channel that does not exist, with a length
outside 04 R121 or that disagrees with its type, or without a session; while the session is suspended it is discarded, its credits owed
until the resume (04 R125, R129, R145). -/
def courseArrival (h : CourseHdr) (length : Nat) (act : State → State) (s : State) : State :=
  let s := advance s h.dt
  if h.chan == 0 || decide (64 < h.chan) || h.length != length || decide (65600 < h.length) || s.obj O.sessionState == 0 then discard h.chan h.length s
  else if s.obj O.sessionState == 2 then s.onChan h.chan fun c => { c with owed := c.owed + creditsOf h.length }
  else act s

/-- A duplicate during a takeover (04 R119). -/
def duplicate (h : CourseHdr) (s : State) : State :=
  (s.bump (O.duplicates h.chan.pred) 1).onChan h.chan fun c => { c with owed := c.owed + creditsOf h.length }

/-- A refusal with SEQUENCE_RANGE: not journalled, and the expected sequence stays (04 R128). -/
def refuseSequence (type : Nat) (h : CourseHdr) (s : State) : State :=
  let owed := (s.chan h.chan).owed + creditsOf h.length
  let gen := ((s.course (courseKey h.chan h.course)).map (·.gen)).getD 0
  let v : Verdict := ⟨h.seq, type, h.course, gen, h.ats, .sequenceRange, owed, 0, 0⟩
  ((s.bump (O.seqRefusals h.chan.pred) 1).onChan h.chan fun c => { c with owed := 0 }).send (.verdict h.chan v false)

/-- A course message arrives. While data of the request in progress is missing, no course message is the next one expected (log entry 47). -/
def courseMessage (type : Nat) (h : CourseHdr) (tbBytes : Nat) (desc : Bytes) (s : State) : State :=
  let ch := s.chan h.chan
  if ch.takeover && seqNotLater h.seq ch.lastReq then duplicate h s
  else
    let s := s.onChan h.chan fun c => { c with takeover := false, lastReq := h.seq }
    if ch.req.isSome || h.seq != ch.nextReq then refuseSequence type h s
    else
      let r : Request := ⟨type, h, tbBytes, desc, 0, [], creditsOf h.length⟩
      if tbBytes == 0 then completeRequest r s else s.onChan h.chan fun c => { c with req := some r }

/-- COURSE_TENTATIVE. -/
def execCourseTentative (h : CourseHdr) (tbBytes : Nat) (desc : Bytes) (s : State) : Host.Outcome State Fault Refusal :=
  .next (courseArrival h (64 + pad8 desc.length) (courseMessage 0x0101 h tbBytes desc) s)

/-- COURSE_REVISE. -/
def execCourseRevise (h : CourseHdr) (tbBytes : Nat) (desc : Bytes) (s : State) : Host.Outcome State Fault Refusal :=
  .next (courseArrival h (64 + pad8 desc.length) (courseMessage 0x0102 h tbBytes desc) s)

/-- COURSE_BIND. -/
def execCourseBind (h : CourseHdr) (s : State) : Host.Outcome State Fault Refusal :=
  .next (courseArrival h 32 (courseMessage 0x0103 h 0 []) s)

/-- COURSE_CANCEL. -/
def execCourseCancel (h : CourseHdr) (s : State) : Host.Outcome State Fault Refusal :=
  .next (courseArrival h 32 (courseMessage 0x0104 h 0 []) s)

/-- Whether data belongs to a request in progress, at its next offset (04 R128). -/
def belongs (h : CourseHdr) (offset count : Nat) (r : Request) : Bool :=
  r.hdr.seq == h.seq && r.hdr.course == h.course && r.hdr.gen == h.gen && r.hdr.ats == h.ats && r.got == offset
    && decide (offset + count ≤ r.tbBytes) && decide (1 ≤ count)

/-- Data of a transport block arrives. -/
def tbData (h : CourseHdr) (handle offset : Nat) (data : Bytes) (s : State) : State :=
  let count := data.length
  let ch := s.chan h.chan
  let repeats := match ch.req with
    | some r => (seqNotLater h.seq r.hdr.seq && h.seq != r.hdr.seq) || (h.seq == r.hdr.seq && decide (offset < r.got))
    | none => seqNotLater h.seq ch.lastReq
  if ch.takeover && repeats then duplicate h s
  else
    let s := s.onChan h.chan fun c => { c with takeover := false }
    match ch.req with
    | some r =>
      if belongs h offset count r then
        let r := { r with got := r.got + count, data := r.data ++ [(handle, data)], cost := r.cost + creditsOf h.length }
        if r.got == r.tbBytes then completeRequest r s else s.onChan h.chan fun c => { c with req := some r }
      else discard h.chan h.length s
    | none => discard h.chan h.length s

/-- DL_TB_DATA. -/
def execDlTbData (h : CourseHdr) (handle offset : Nat) (data : Bytes) (s : State) : Host.Outcome State Fault Refusal :=
  .next (courseArrival h (64 + pad8 data.length) (tbData h handle offset data) s)

/-! ## The life of a course (03 R107, R112) -/

/-- COURSE_AUTO_BIND: at its W and M, or uplink, binding point a course that is OPEN binds itself. -/
def execCourseAutoBind (chan course : Nat) (s : State) : Host.Outcome State Fault Refusal :=
  match s.course (courseKey chan course) with
  | some c =>
    if c.state == .opened then
      .next (bindCourse (courseKey chan course) false (advanceToAir s (bindPoint s (chan - 1) (dirOf course) 0 c.slotAir)))
    else .next s
  | none => .next s

/-- COURSE_IN_AIR: the first transmit instant, or the uplink slot start. -/
def execCourseInAir (chan course : Nat) (s : State) : Host.Outcome State Fault Refusal :=
  match s.course (courseKey chan course) with
  | some c =>
    if c.state == .bound then
      let at' := if dirOf course == 0 then firstTx s (chan - 1) c.slotAir c.first else c.slotAir
      .next ((advanceToAir s at').onCourse (courseKey chan course) fun c => { c with state := CourseState.inAir })
    else .next s
  | none => .next s

/-- When the last symbol of a course has been sent, or its receive window has closed (03 R112; 09 R314). -/
def egressInstant (s : State) (chan course : Nat) (c : Course) : Int :=
  let n := chan - 1
  if dirOf course == 0 then s.txInstant n c.slotAir (c.last + 1)
  else c.slotAir + s.symbolStart n (s.slotInSubframe n c.slotAir) (c.last + 1) + s.obj (O.ulWinClose n) * airNs

/-- COURSE_EGRESS_COMPLETE: FINISHING, and a downlink outcome is due. -/
def execCourseEgressComplete (chan course : Nat) (s : State) : Host.Outcome State Fault Refusal :=
  match s.course (courseKey chan course) with
  | some c =>
    if c.state == .inAir then
      .next (resettle ((advanceToAir s (egressInstant s chan course c)).onCourse (courseKey chan course) fun c =>
        { c with state := CourseState.finishing }))
    else .next s
  | none => .next s

end Sys2Proof.Machine
end

