-- ==== Sys2Proof/Machine/NetworkListen.lean ====
section
/-! DEFINITION. Network listen (02): the stream unit and chain that it holds, listen gaps, the search, and the offset of a committed
reception. -/

namespace Sys2Proof.Machine

/-- Stream units that carriers hold (00 R5). -/
def carrierUnits (s : State) : Nat := sumOver 64 fun n => s.nat (O.streamUnitsHeld n)

/-- Stream units in use: those of the carriers and the one that network listen holds (00 R5, 02 R68). -/
def streamUnitsUsed (s : State) : Nat := carrierUnits s + (if s.holds O.nlEnable then 1 else 0)

/-- The opening of the first listen gap later than an instant of device air time: GAP_START from the boundary of a frame whose SFN
leaves GAP_FRAME_OFFSET modulo GAP_PERIOD; `none` where no SFN does (02 R71). -/
def nextGapAfter (s : State) (a : Int) : Option Int :=
  let start := s.obj O.gapStart * airNs
  let k := ((a - start) / airFrame + 1)
  ((List.range 2049).find? fun i : Nat =>
    (((k + (i : Int)) % 1024).toNat % s.nat O.gapPeriod) == s.nat O.gapFrameOffset).map fun i : Nat => (k + (i : Int)) * airFrame + start

/-- Whether two intervals of air time overlap. -/
def overlaps (a la b lb : Int) : Bool := decide (a < b + lb) && decide (b < a + la)

/-- Whether a listen gap would overlap a watch capture window on the same DFE chain (02 R71): gaps repeat with the SFN, every 1,024 frames, and
watch frames with the linear count of 18 R593, so that two of their frames come `f − g` apart for every difference that the greatest
common divisor of the two periods allows. -/
def gapMeetsWatch (s : State) : Bool :=
  let watch := s.nat O.watchPeriod
  let every := Nat.gcd 1024 watch
  let gap := s.obj O.gapLength
  (List.range 8).any fun k =>
    s.obj (O.wcKind k) == 1 && s.obj (O.wcChain k) == s.obj O.nlChain && s.obj O.nlChain != 0xFF &&
    (List.range 1024).any fun f => f % s.nat O.gapPeriod == s.nat O.gapFrameOffset &&
      let cycle : Int := every * 10000000
      let d := (f * 10000000 + s.obj O.gapStart - s.obj O.watchFrameOffset * 10000000 - s.obj (O.wcStart k)) % cycle
      decide (d < s.obj (O.wcLength k)) || decide (cycle < d + gap)

/-- Whether a DFE chain counts as absent for network listen, or carries a stream already (02 R68, 10 R331). -/
def listenChainTaken (s : State) : Bool :=
  let c := s.nat O.nlChain
  s.obj O.nlChain == 0xFF || s.obj (O.dfeGang c) != 1 || s.obj (O.dfeWireKsps c) != 122880 || s.chainUser c != 0xFF

/-- The check of NL_ENABLE; where several refusals hold the lowest code is reported (02 R68, R71, R87, 05 R174). -/
def nlCheck (s : State) : Reason :=
  if 512 < carrierUnits s + 1 then .noStreamUnits
  else if listenChainTaken s then .noEngines
  else if s.obj O.gapPeriod * 10000000 ≤ s.obj O.gapLength || gapMeetsWatch s then .windowOverlap
  else if s.obj O.numerologyMask == 0 || !((List.range 32).any fun n =>
      s.obj (O.nbPci n) != 0xFFFF && bitOf (s.nat O.numerologyMask) (s.nat (O.nbType n))) then .badNumerology
  else .ok

/-- NEXT_GAP: the stamp of the opening of the next gap while network listen is in service and air time runs (02 R72; log entry 4). -/
def nextGapNow (s : State) : Nat :=
  if s.holds O.nlEnable && s.airRunning then ((nextGapAfter s s.airNow).map atsOf).getD 0 else 0

/-- A chain beside its objects. -/
def State.chain (s : State) (c : Nat) : DfeChain := Store.at .factory s.dfe.chains c

/-- The state with a chain changed. -/
def State.onChain (s : State) (c : Nat) (f : DfeChain → DfeChain) : State :=
  { s with dfe := { s.dfe with chains := Store.putD .factory s.dfe.chains c (f (s.chain c)) } }

/-- The filters of a path between two users: nothing in them, and the NCO phase running on (10 R334, R344). -/
def FilterPath.rested (f : FilterPath) : FilterPath :=
  { FilterPath.cleared with phase := f.phase, clear := f.clear, idle := match f.expect with | some u => some u | none => f.idle }

/-- A user's stream starts in filters that hold nothing, with the NCO phase running on (10 R334; log entry 51). -/
def clearFilters (c : Nat) (s : State) : State := s.onChain c fun d => { d with txFilter := d.txFilter.rested, rxFilter := d.rxFilter.rested }

/-- Network listen goes into service: it holds its chain (02 R68). -/
def nlAccept (s : State) : State := clearFilters (s.nat O.nlChain) ((s.setObj O.nlState 1).setObj (O.dfeUser (s.nat O.nlChain)) 0x80)

/-- Whether the chain of network listen takes samples: while it reads ON, and while a gap in progress runs to its close (02 R68, R69). -/
def listens (s : State) : Bool := s.isOn O.nlEnable || s.obj O.nlState == 2

/-- Whether a gap or processing is in progress. -/
def nlBusy (s : State) : Bool := s.obj O.nlState == 2 || s.obj O.nlState == 3

/-- NL_ENABLE (02 R68). -/
def nlRules : EnableRules :=
  { key := O.nlEnable, check := nlCheck, accept := nlAccept,
    stop := fun s => if nlBusy s then s else nlRelease s,
    busy := nlBusy }

/-- WRITE_NL_ENABLE. -/
def execWriteNlEnable (x : Xfer) (v : Int) (s : State) : Host.Outcome State Fault Refusal :=
  .next (hostWrite x O.nlEnable (.num v) (nlRules.write v) s)

/-- Whether a listen gap in progress covers an instant of device air time and mutes a carrier (02 R70, R72). -/
def gapMutes (s : State) (n : Nat) (a : Int) : Bool :=
  s.obj O.nlState == 2 && s.obj O.nlMode == 0 && bitOf (s.nat O.gapMuteMask) n
  && decide (s.nl.openedAt ≤ a) && decide (a < s.nl.openedAt + s.obj O.gapLength * airNs)

/-- A listen gap opens at its instant, unless the part is in WATCH (02 R71, R73): the search starts with no reception. NL_STATE reads
IN_GAP while the last gap's reception is still processed, and the AGC starts a block with the gap (log entry 46). -/
def gapOpen (s : State) : State :=
  if s.isOn O.nlEnable && (s.obj O.nlState == 1 || s.obj O.nlState == 3) && s.airRunning && s.obj O.watchState == 0 then
    match nextGapAfter s s.airNow with
    | some at' => ((advanceToAir s at').setObj O.nlState 2).onNl fun r =>
        { r with current := none, frozen := false, freezing := false, block := 0, power := 0, openedAt := at' }
    | none => s
  else s

/-- A gain of the receiver, from 0 to 48 dB (02 R75). -/
def nlGain (g : Int) : Int := clampInt 0 48 g

/-- A record of the missed-capture log (02 Table 2-6). -/
def missedRecord (count pci metric type : Nat) (kept : Reception) : Bytes :=
  stampBytes count ++ leBytes 2 pci ++ leBytes 2 metric ++ leBytes 1 type ++ leBytes 1 0 ++ leBytes 2 kept.metric
    ++ leBytes 2 kept.pci ++ leBytes 4 0

/-- The frequency centres that the searcher takes: those of the enabled neighbour entries, or the capture centre where none is enabled (02
R74). -/
def searchCentres (s : State) : List Int :=
  let l := ((List.range 32).filter fun n => s.obj (O.nbPci n) != 0xFFFF).map fun n => s.obj (O.nbOffsetHz n)
  if l.isEmpty then [0] else l

/-- NL_DETECTION: a correlation whose metric reaches DET_THRESHOLD, of an enabled hypothesis at a centre that is searched (02 R74 to R79). -/
def execNlDetection (dt metric pci type : Nat) (centreHz : Int) (s : State) : Host.Outcome State Fault Refusal :=
  let s := advance s dt
  if s.obj O.nlState != 2 || !bitOf (s.nat O.numerologyMask) type || decide ((metric : Int) < s.obj O.detThreshold)
      || !(searchCentres s).contains centreHz then .next s
  else match s.nl.current with
    | none => .next (s.onNl fun r => { r with current := some ⟨metric, pci, type, false⟩, frozen := true })
    | some c =>
      if decide ((c.metric : Int) + s.obj O.captureMargin ≤ metric) then
        if c.committed then
          let s := s.onNl fun r => { r with missed := keepLast 16 (r.missed ++ [missedRecord s.clock.count pci metric type c]) }
          .next (raise s O.mcCount 0xFFFF [] 0)
        else
          let s := s.bump O.falseDetections 1
          .next (s.onNl fun r =>
            { r with current := some ⟨metric, pci, type, false⟩, gain := nlGain (r.gain - (ceilDiv (metric - c.metric) 10 : Nat)),
                     frozen := false, freezing := true })
      else .next s

/-- NL_RECEPTION_COMMIT: a reception of which more than 1 % of the samples are clipped is dropped, whatever its CRC or SSS; otherwise the
PBCH CRC of an NR reception, or an SSS of an LTE reception, decides it (02 R78). -/
def execNlReceptionCommit (basis : NlBasis) (clippedPermille : Nat) (s : State) : Host.Outcome State Fault Refusal :=
  match s.nl.current with
  | none => .next s
  | some c =>
    if s.obj O.nlState != 2 || c.committed then .next s
    else if 10 < clippedPermille then .next ((s.bump O.falseDetections 1).onNl fun r => { r with current := none })
    else
      let good := match basis with
        | .pbch ok => c.type != 4 && ok
        | .sss agrees metric => c.type == 4 && agrees && decide (s.obj O.detThreshold ≤ metric)
      .next (if good then s.onNl fun r => { r with current := some { c with committed := true } } else s)

/-- LISTEN_GAP_CLOSE: the gap ends at GAP_LENGTH after its opening, the gain unfreezes, and a committed reception goes to processing (02
R71, R75, R79). -/
def execListenGapClose (s : State) : Host.Outcome State Fault Refusal :=
  if s.obj O.nlState != 2 then .next s
  else
    let s := advanceToAir s (s.nl.openedAt + s.obj O.gapLength * airNs)
    let kept := (s.nl.current.filter (·.committed)).toList.map fun c => (c, s.clock.ticks)
    .next (nlIdle (s.onNl fun r => { r with current := none, frozen := false, freezing := false, work := r.work ++ kept }))

/-- The first symbol of an SS/PBCH block within its half-frame, in symbols of the block's numerology (02 R83; 3GPP TS 38.213 clause
4.1, cases A to E). -/
def ssbSymbol (case index : Nat) : Nat :=
  match case with
  | 0 => [2, 8].getD (index % 2) 0 + 14 * (index / 2)
  | 1 => [4, 8, 16, 20].getD (index % 4) 0 + 28 * (index / 4)
  | 2 => [2, 8].getD (index % 2) 0 + 14 * (index / 2)
  | 3 => [4, 8, 16, 20].getD (index % 4) 0 + 28 * [0, 1, 2, 3, 5, 6, 7, 8, 10, 11, 12, 13, 15, 16, 17, 18].getD (index / 4) 0
  | _ => [8, 12, 16, 20, 32, 36, 40, 44].getD (index % 8) 0 + 56 * [0, 1, 2, 3, 5, 6, 7, 8].getD (index / 8) 0

/-- The numerology of an NR hypothesis (02 Table 2-4). -/
def hypothesisMu (type : Nat) : Nat := [0, 1, 3, 4].getD type 0

/-- The nominal instant Δ of a reception in its frame, in air units (02 R83). -/
def nominalInstant (type case index half : Nat) : Int :=
  if type == 4 then 0
  else
    let mu := hypothesisMu type
    let l := ssbSymbol case index
    let perSub := 14 * 2 ^ mu
    ((l / perSub * subframeTc + startTc mu (l % perSub) + half * 5 * subframeTc : Nat) : Int) * airTc

/-- The offset of 02 R83 in picoseconds: (F + Δ) − t_rx + d, F the own frame boundary nearest to t_rx − d − Δ, so that it lies above
−5 ms and at most at +5 ms. -/
def nlOffset (s : State) (tRx : Nat) (delta d : Int) : Int :=
  let x := s.airOf tRx - d * airNs - delta
  let r := x % airFrame
  let off := if r ≥ airFrame / 2 then airFrame - r else -r
  freeDiv 7 (off * 1000) airNs

/-- READ_MC_RECORD: a read pops the oldest record of the missed-capture log (02 Table 2-6). -/
def execReadMcRecord (x : Xfer) (s : State) : Host.Outcome State Fault Refusal :=
  .next (hostPop x O.mcRecord (fun s => s.nl.missed.head?) (fun s => s.onNl fun r => { r with missed := r.missed.tail }) s)

end Sys2Proof.Machine
end

