-- ==== Sys2Proof/Machine/FrontEnd.lean ====
section
/-! DEFINITION. The front-end filters and transmit shaping (10): the chains of a carrier, their coefficient banks and cross-fades, resets,
threshold events, and the transmit windows with the TXGATE outputs. -/

namespace Sys2Proof.Machine

/-! ## Chains (10 R329 to R333, R339) -/

/-- The power domain of a chain (10 R329; 18 Table 18-1). -/
def chainDomain (c : Nat) : Nat := 16 + c / 32

/-- The terms of the rate equation of 10 R333: the transform rate F_t of a chain is the quotient of the two, in kSps; for network listen the
stages that change the rate are bypassed (R332). -/
def State.chainRate (s : State) (c : Nat) : Nat × Nat :=
  if s.obj (O.dfeUser c) == 0x80 then (s.nat (O.dfeWireKsps c), 1)
  else (s.nat (O.dfeWireKsps c) * s.nat (O.rsNum c), s.nat (O.cicR c) * 2 ^ s.nat (O.hbStages c) * s.nat (O.rsDen c))

/-- Taps in a bank. -/
def tapCount (b : Bytes) : Nat := b.length / 4

/-- The taps of a bank (10 Table 10-7). -/
def tapsOf (b : Bytes) : List Int := (List.range (tapCount b)).map fun i => signedOf 32 (bytesAt b (4 * i) 4)

/-- Whether a bank is valid on a chain (10 R336): 1 to 128 taps of Q1.17 whose magnitudes sum to at most 4.0, and tap count × F_t within
G × 3,932.16 Mtap/s. -/
def tapsValid (s : State) (c : Nat) (b : Bytes) : Bool :=
  let taps := tapsOf b
  let (num, den) := s.chainRate c
  1 ≤ taps.length && taps.length ≤ 128 && taps.all (fun t => -131072 ≤ t && t ≤ 131071)
  && decide ((taps.map Int.natAbs).sum ≤ 524288) && decide (taps.length * num ≤ s.gang c * 3932160 * den)

/-- Twice the group delay of the stages of 10 Table 10-3 at the wire rate, times RS_NUM: with `rank` the rank filter counts, and with
`bypass` the CIC, half-band and resampler stages are left out, as network listen does (10 R332). -/
def delayTerms (s : State) (c : Nat) (rank bypass : Bool) (taps : Nat) : Nat :=
  let n := s.nat (O.rsNum c)
  let r := if bypass then 1 else s.nat (O.cicR c)
  let h := if bypass then 0 else s.nat (O.hbStages c)
  let w := if rank then s.nat (O.rankWindow c) - 1 else 0
  if bypass then w + (taps - 1)
  else n * (w + 5 * (r - 1) + 30 * r * (2 ^ h - 1) + 7 * r * 2 ^ h) + (taps - 1) * r * 2 ^ h * s.nat (O.rsDen c)

/-- A group delay in picoseconds with GD_ADJ added, to the nearest as the example of 10 R339 shows (DEDUCED, log entry 10). A sum that
U32 does not hold, or a wire rate of 0, has no stated result, and reads as a free value (log entry 15). -/
def groupDelay (s : State) (c : Nat) (rank : Bool) (taps : Nat) : Nat :=
  let bypass := s.obj (O.dfeUser c) == 0x80
  let n := if bypass then 1 else s.nat (O.rsNum c)
  let v := ((1000000000 * delayTerms s c rank bypass taps + n * s.nat (O.dfeWireKsps c)) / (2 * n * s.nat (O.dfeWireKsps c)) : Nat)
    + s.obj (O.gdAdj c)
  if 0 ≤ v && v < 2 ^ 32 && s.nat (O.dfeWireKsps c) != 0 then v.toNat else (Config.freeWord s.freeCtr).toNat % 2 ^ 32

/-- GD_RX. -/
def State.gdRx (s : State) (c : Nat) : Nat := groupDelay s c (s.obj (O.rankWindow c) != 0) (tapCount (s.chain c).rx.front)

/-- GD_TX. -/
def State.gdTx (s : State) (c : Nat) : Nat := groupDelay s c false (tapCount (s.chain c).tx.front)

/-- The ports of a carrier, max(DL_PORTS, UL_PORTS) (10 R331). -/
def State.streamPorts (s : State) (n : Nat) : Nat := max (s.nat (O.dlPorts n)) (s.nat (O.ulPorts n))

/-- The chains that a time-domain carrier asks for (10 R331). -/
def State.askedChains (s : State) (n : Nat) : List Nat :=
  let d := s.nat (O.dfeFirst n)
  (List.range (s.streamPorts n * s.gang d)).map (d + ·)

/-- The first chain of each gang of a carrier. -/
def State.askedGangs (s : State) (n : Nat) : List Nat :=
  let d := s.nat (O.dfeFirst n)
  (List.range (s.streamPorts n)).map fun k => d + k * s.gang d

/-- The chain that serves stream port `k` of a carrier, a moved one in place of a faulted one (17 R570). -/
def State.chainOf (s : State) (n k : Nat) : Nat :=
  let c := s.nat (O.dfeFirst n) + k * s.gang (s.nat (O.dfeFirst n))
  Store.at c s.dfe.moved c

/-- Tests 1 to 3 of 10 R332 for a time-domain carrier. Each of its gangs starts with a chain that holds DFE_GANG = G and that no other gang
takes in (R330; DEDUCED, log entry 10). -/
def dfeCheck (n : Nat) (s : State) : Reason :=
  let d := s.nat (O.dfeFirst n)
  let g := s.gang d
  let cs := s.askedChains n
  if s.obj (O.dfeFirst n) == 0xFF || decide (d % g ≠ 0) || (cs.any fun c =>
      decide (128 ≤ c) || (s.chain c).faulted || s.obj (O.dfeUser c) != 0xFF)
      || ((s.askedGangs n).any fun c => s.gang c != g || s.inGang c) then .noEngines
  else
    let rates := (s.askedGangs n).all fun c =>
      let (num, den) := s.chainRate c
      num == s.sampleKsps n * den && decide (s.nat (O.rsNum c) ≤ s.nat (O.rsDen c))
        && decide (s.nat (O.rsDen c) ≤ 2 * s.nat (O.rsNum c)) && decide (s.nat (O.dfeWireKsps c) ≤ 122880 * s.gang c)
    if !rates then .badBandwidth
    else if (s.askedGangs n).all fun c => tapsValid s c (s.chain c).tx.front && tapsValid s c (s.chain c).rx.front then .ok
    else .badCoefficients

/-- An accepted carrier holds its chains: the first of each gang names it, the others read 0x81 (10 R330 to R332). -/
def takeChains (n : Nat) (s : State) : State :=
  let d := s.nat (O.dfeFirst n)
  (s.askedChains n).foldl (fun s c =>
    clearFilters c (s.setObj (O.dfeUser c) (if (c - d) % s.gang d == 0 then (n : Int) else 0x81))) s

/-- The chains of a gang that starts with `c`. -/
def gangOf (s : State) (c : Nat) : List Nat := (List.range (s.gang c)).map (c + ·)

/-- The chains of a carrier are released: the gangs that its first chains head. -/
def releaseChains (n : Nat) (s : State) : State :=
  let firsts := s.chainsOf n
  let s := firsts.foldl (fun s c => ((gangOf s c).filter fun d => gangHead s d == c).foldl (fun s c => s.setObj (O.dfeUser c) 0xFF) s) s
  { s with dfe := { s.dfe with moved := s.dfe.moved.filter fun m => !firsts.contains m.2 } }

/-! ## Coefficient banks (10 R341 to R343) -/

/-- A path of a chain. -/
def DfeChain.path (c : DfeChain) : Path → CoefPath
  | .tx => c.tx | .rx => c.rx

/-- The state with a path of a chain changed. -/
def State.onPath (s : State) (c : Nat) (p : Path) (f : CoefPath → CoefPath) : State :=
  s.onChain c fun d => match p with
    | .tx => { d with tx := f d.tx }
    | .rx => { d with rx := f d.rx }

/-- The object of the BACK of a path. -/
def tapsKey (c : Nat) : Path → Nat
  | .tx => O.txTaps c | .rx => O.rxTaps c

/-- The object that commits a path. -/
def commitKey (c : Nat) : Path → Nat
  | .tx => O.txCommit c | .rx => O.rxCommit c

/-- The number of a path in 10 Table 10-4. -/
def pathCode : Path → Nat
  | .tx => 0 | .rx => 1

/-- A write of taps, or a commit (`none`), acts on the BACK (10 R341). A commit computes its CRC-32, and with no user makes it the FRONT at
once. -/
def applyTaps (c : Nat) (p : Path) (w : Option Bytes) (s : State) : State :=
  match w with
  | some b => (s.changeBlob (tapsKey c p) b).onPath c p fun x => { x with back := BackState.opened, written := true }
  | none =>
    if ((s.chain c).path p).back = .opened then
      let b := s.blob (tapsKey c p)
      if s.obj (O.dfeUser c) == 0xFF then
        s.onPath c p fun x => { x with front := b, written := false, crc := crc32 b, backCrc := crc32 b, bad := false }
      else s.onPath c p fun x => { x with back := BackState.committed, backCrc := crc32 b }
    else s

/-- Whether writes and commits wait: from the decision of a fade to the end of the copy (10 R342). -/
def CoefPath.busy (x : CoefPath) : Bool := x.decided || x.fading || x.back = .copying

/-- A write or commit reaches its path, or waits for the copy. -/
def reachTaps (c : Nat) (p : Path) (w : Option Bytes) (s : State) : State :=
  if ((s.chain c).path p).busy then s.onPath c p fun x => { x with held := x.held ++ [w] } else applyTaps c p w s

/-- A write of RX_TAPS or TX_TAPS (10 R341). -/
def actTaps (c : Nat) (p : Path) (b : Bytes) : Action := fun s =>
  if b.length % 4 != 0 then (.typeLength, s)
  else if !tapsValid s c b then (.badCoefficients, s)
  else if s.obj (O.dfeUser c) != 0xFF && tapCount b != tapCount ((s.chain c).path p).front then (.badCoefficients, s)
  else (.ok, reachTaps c p (some b) s)

/-- A write of 1 to RX_COMMIT or TX_COMMIT (10 R341). -/
def actTapsCommit (c : Nat) (p : Path) : Action := fun s => (.ok, reachTaps c p none s)

/-- WRITE_TAPS. -/
def execWriteTaps (x : Xfer) (chain : Nat) (path : Path) (data : Bytes) (s : State) : Host.Outcome State Fault Refusal :=
  if 128 ≤ chain then .fault .noSuchUnit
  else .next (hostWrite x (tapsKey chain path) (.bytes data) (actTaps chain path data) s)

/-- COMMIT_TAPS. -/
def execCommitTaps (x : Xfer) (chain : Nat) (path : Path) (s : State) : Host.Outcome State Fault Refusal :=
  if 128 ≤ chain then .fault .noSuchUnit
  else .next (hostWrite x (commitKey chain path) (.num 1) (actTapsCommit chain path) s)

/-- The first frame boundary after an instant of device air time whose linear frame count is a multiple of a period (10 R342; 14 R485). The
count starts again at the wrap of the ATS. -/
def swapBoundary (period : Nat) (a : Int) : Int :=
  let k := a / airFrame + 1
  let c : Int := k % (2 ^ 24 : Int)
  let next := (c + (period : Int) - 1) / (period : Int) * (period : Int)
  (k - c + min next (2 ^ 24)) * airFrame

/-- 100 µs of air time, the lead of the decision instant. -/
def coefLead : Int := 100000 * airNs

/-- STALE_BANK of a chain (10 Table 10-4). -/
def staleTaps (c : Nat) (p : Path) (cause : Nat) (b next : Int) (s : State) : State :=
  raise s (O.staleCount c) c (leBytes 2 c ++ leBytes 1 (pathCode p) ++ leBytes 1 cause ++ leBytes 8 (atsOf b) ++ leBytes 8 (atsOf next)
    ++ leBytes 4 0) 0

/-- A path at the decision instant before a boundary (10 R342). -/
def decidePath (c : Nat) (b next : Int) (p : Path) (s : State) : State :=
  match ((s.chain c).path p).back with
  | .committed => s.onPath c p fun x => { x with decided := true, fadeAt := b }
  | .copying => staleTaps c p 1 b next s
  | .opened => if ((s.chain c).path p).written then staleTaps c p 0 b next s else s

/-- COEF_SWAP_DECISION: at D, 100 µs before the next boundary that has not been tested (10 R342, R353). -/
def execCoefSwapDecision (chain : Nat) (s : State) : Host.Outcome State Fault Refusal :=
  if 128 ≤ chain then .fault .noSuchUnit
  else if !s.airRunning then .next s
  else
    let period := s.nat (O.coefSwapPeriod chain)
    let b := swapBoundary period (max (s.chain chain).tested (s.airNow + coefLead - 1))
    let next := swapBoundary period b
    let s := (advanceToAir s (b - coefLead)).onChain chain fun d => { d with tested := b }
    .next (decidePath chain b next .rx (decidePath chain b next .tx s))

/-- The length of a fade in air units: XFADE_SAMPLES at F_t. -/
def fadeSpan (s : State) (c : Nat) : Int :=
  let (num, den) := s.chainRate c
  ceilDivInt (s.obj (O.xfadeSamples c) * 1000000 * airNs * den) num

/-- A decided fade of a path begins. -/
def startFade (c : Nat) (p : Path) (s : State) : State :=
  let x := (s.chain c).path p
  if x.decided then
    s.onPath c p fun x => { x with
      decided := false, fading := true, fadeEnd := x.fadeAt + fadeSpan s c, fadeLen := s.nat (O.xfadeSamples c), backBad := false }
  else s

/-- COEF_FADE_START: at the boundary both banks filter (10 R342). -/
def execCoefFadeStart (chain : Nat) (s : State) : Host.Outcome State Fault Refusal :=
  if 128 ≤ chain then .fault .noSuchUnit
  else
    let d := s.chain chain
    if d.tx.decided || d.rx.decided then
      let s := advanceToAir s (if d.tx.decided then d.tx.fadeAt else d.rx.fadeAt)
      .next (startFade chain .rx (startFade chain .tx s))
    else .next s

/-- A fade of a path ends: the BACK becomes the FRONT, and the former FRONT, as BACK, takes a copy of it. -/
def endFade (c : Nat) (p : Path) (s : State) : State :=
  let x := (s.chain c).path p
  if x.fading then
    let b := s.blob (tapsKey c p)
    (s.changeBlob (tapsKey c p) x.front).onPath c p fun x =>
      { x with
      front := b, fading := false, back := BackState.copying, written := false, crc := x.backCrc, bad := x.backBad, backBad := false }
  else s

/-- COEF_FADE_END: XFADE_SAMPLES after the boundary (10 R342). -/
def execCoefFadeEnd (chain : Nat) (s : State) : Host.Outcome State Fault Refusal :=
  if 128 ≤ chain then .fault .noSuchUnit
  else
    let d := s.chain chain
    if d.tx.fading || d.rx.fading then
      let s := advanceToAir s (if d.tx.fading then d.tx.fadeEnd else d.rx.fadeEnd)
      .next (endFade chain .rx (endFade chain .tx s))
    else .next s

/-- The copy of a path completes: the BACK is OPEN and unwritten, and what waited acts in order. -/
def copyDone (c : Nat) (p : Path) (s : State) : State :=
  let x := (s.chain c).path p
  if x.back = .copying then
    let s := (s.changeBlob (tapsKey c p) x.front).onPath c p fun x =>
      { x with back := BackState.opened, written := false, held := [], backCrc := x.crc }
    x.held.foldl (fun s w => applyTaps c p w s) s
  else s

/-- COEF_COPY_COMPLETE. -/
def execCoefCopyComplete (chain : Nat) (s : State) : Host.Outcome State Fault Refusal :=
  if 128 ≤ chain then .fault .noSuchUnit else .next (copyDone chain .rx (copyDone chain .tx s))

/-- An injected CRC mismatch of a chain (17 R578) meets its check. -/
def takeCrcInjection (chain : Nat) (s : State) : State :=
  s.onGuard fun g => { g with synth := g.synth.filter (· != (8, chain)) }

/-- The check of a path's CRCs (10 R343): the FRONT's, and in a fade the BACK's, each computed over the bank and compared with that of its
commit. `ok` says that no bit of the banks in use has turned; where one has in a fade, in which of the two, or whether in both, is a free value
(log entry 10). -/
def checkCrcs (chain : Nat) (path : Path) (ok : Bool) (s : State) : State :=
  let x := (s.chain chain).path path
  let front := crc32 x.front != x.crc
  let back := x.fading && crc32 (s.blob (tapsKey chain path)) != x.backCrc
  if ok then s.onPath chain path fun x => { x with bad := front, backBad := back }
  else if x.fading then
    let (w, s) := s.free
    s.onPath chain path fun x => { x with bad := front || w.toNat % 3 != 1, backBad := back || w.toNat % 3 != 0 }
  else s.onPath chain path fun x => { x with bad := true, backBad := false }

/-- Whether a bank in use of a path fails its CRC. -/
def CoefPath.fails (x : CoefPath) : Bool := x.bad || (x.fading && x.backBad)

/-- COEF_CRC_CHECK: the CRCs of a path are compared. A mismatch, or an injected one, is counted; on a transmit path it is
cause 4, with the chain as its measure, and on a receive path the chain outputs zero samples (10 R343; 17 R549). -/
def execCoefCrcCheck (chain : Nat) (path : Path) (ok : Bool) (s : State) : Host.Outcome State Fault Refusal :=
  if 128 ≤ chain then .fault .noSuchUnit
  else
  let s := checkCrcs chain path ok s
  if ((s.chain chain).path path).fails || (path = .tx && s.guard.synth.contains (8, chain)) then
    let s := (takeCrcInjection chain s).bump (O.coefCrcErrors chain) 1
    match path with
    | .tx => .next (if s.gangCarrier chain < 64 then detect 4 0 (s.gangCarrier chain) chain s else s)
    | .rx => .next s
  else .next s

/-! ## Resets (10 R344 to R346) -/

/-- A chain resets at a boundary, once where two resets fall on it: the first wire sample of each path that is not earlier finds its filters
cleared. -/
def resetChain (b : Int) (s : State) (c : Nat) : State :=
  if Store.at (-1) s.dfe.lastReset c = b then s
  else
    let s := s.onChain c fun d => { d with txFilter := { d.txFilter with clear := some b }, rxFilter := { d.rxFilter with clear := some b } }
    { s with dfe := { s.dfe with lastReset := Store.put s.dfe.lastReset c b } }

/-- The chains whose configuration counts: not those that follow in a gang (10 R330). -/
def State.headChains (s : State) : List Nat := (List.range 128).filter fun c => s.chainUser c != 0x81

/-- Those of them whose domain reads RUN. -/
def State.liveChains (s : State) : List Nat := s.headChains.filter fun c => s.runs (chainDomain c)

/-- An edge that reaches the chains resets those that DFE_SYNC_RESET selects, at the frame boundary to which it belongs (10 R345). -/
def syncReset (s : State) : State :=
  let picked := s.headChains.filter fun c => s.obj (O.dfeSyncReset c) != 0
  if picked.isEmpty then s
  else
    let b := (s.airNow - s.obj O.dfeSyncOffset * airNs + airFrame / 2) / airFrame * airFrame
    let s := (picked.foldl (resetChain b) s).bump O.syncResets 1
    picked.foldl (fun s c => if s.obj (O.dfeSyncReset c) == 2 then s.change (O.dfeSyncReset c) 0 else s) s

/-- DFE_SYNC_EDGE: an edge is qualified and judged, latched by its capture units, and resets chains (01 R24 to R30, R62; 10 R345). -/
def execDfeSyncEdge (dt lowNs : Nat) (s : State) : Host.Outcome State Fault Refusal :=
  let (s, reached) := qualifyDfeSync lowNs (advance s dt)
  .next (if reached && s.airRunning then syncReset s else s)

/-- A write of 1 to DFE_RESET_ALL schedules a reset at the first frame boundary at least 100 µs later; one that is scheduled stands (10
R346). While air time is undefined there is no such boundary, and nothing is scheduled (log entry 31). -/
def actDfeResetAll : Action := fun s =>
  if s.dfe.resetAt.isSome || !s.airRunning then (.ok, s)
  else
    let b := nextFrame (s.airNow + coefLead - 1)
    (.ok, { s.setObj O.resetAt (atsOf b) with dfe := { s.dfe with resetAt := some b } })

/-- DFE_RESET_ALL. -/
def execDfeResetAll (x : Xfer) (s : State) : Host.Outcome State Fault Refusal :=
  .next (hostWrite x O.dfeResetAll (.num 1) actDfeResetAll s)

/-- DFE_COMMAND_RESET: the scheduled boundary (10 R344, R346). -/
def execDfeCommandReset (s : State) : Host.Outcome State Fault Refusal :=
  match s.dfe.resetAt with
  | none => .next s
  | some b =>
    let s := advanceToAir s b
    let s := (s.liveChains.foldl (resetChain b) s).bump O.commandResets 1
    .next { s with dfe := { s.dfe with resetAt := none } }

/-! ## The samples of a chain (10 R333 to R344) -/

/-- What a path of a chain runs with (10 R332 to R343); `origin` is a frame boundary of its carrier's air time. -/
def State.chainSet (s : State) (c : Nat) (p : Path) (origin : Rat) : ChainSet :=
  let listen := s.obj (O.dfeUser c) == 0x80
  let ksps := s.nat (O.dfeWireKsps c)
  let x := (s.chain c).path p
  { window := s.nat (O.rankWindow c), order := s.nat (O.rankOrder c), factor := s.nat (O.rankFactor c), floor := s.nat (O.rankFloor c)
    guard := s.nat (O.rankGuard c), word := ncoWord (s.obj (if listen then O.nlMixHz else O.dfeMixHz c)) ksps
    cic := s.nat (O.cicR c), stages := s.nat (O.hbStages c), bypass := listen, num := s.nat (O.rsNum c), den := s.nat (O.rsDen c)
    period := (1000000 * airNs : Rat) / ((max 1 ksps : Nat) : Rat), origin := origin
    adjust := (s.obj (O.gdAdj c) * airNs : Rat) / 1000, front := tapsOf x.front, back := tapsOf (s.blob (tapsKey c p))
    fade := if x.fading then some ((x.fadeAt : Rat), x.fadeLen) else none, zero := p == .rx && x.fails }

/-- The counters of what a path gave (10 R335, R338, R344). -/
def countFilter (c : Nat) (o : FilterOut) (s : State) : State :=
  ((s.bump (O.rankBlanked c) o.blanked).bump (O.dfeSaturated c) o.saturated).bump (O.flushSamples c) o.flushed

/-- Whether a receive path measures blocks: in THR_MODE 1, and in THR_MODE 2 in a capture window of the watch sequencer (10 R347; 18 R593). -/
def thrRuns (s : State) (c : Nat) : Bool :=
  s.obj (O.thrMode c) == 1 || (s.obj (O.thrMode c) == 2
    && s.power.watch.opened.any fun k => s.obj (O.wcKind k) == 1 && s.nat (O.wcChain k) == c)

/-- A measure takes an output sample; a block takes the THR_BLOCK that stands at its start (10 R352). -/
def ThrMeter.take (block : Nat) (m : ThrMeter) (x : FilterSample) : ThrMeter :=
  let size := if m.count = 0 then block else m.size
  let sum := m.sum + x.re.natAbs * x.re.natAbs + x.im.natAbs * x.im.natAbs
  if m.count + 1 < size then { m with count := m.count + 1, sum := sum, size := size }
  else { count := 0, sum := 0, size := 0, ended := m.ended ++ [(sum, size)] }

/-- P of a block in 0.1 dBFS (10 R347), and of one of zero samples the number given. -/
def blockPower (zero : Int) (b : Nat × Nat) : Int :=
  if b.1 = 0 then zero else decibels 10 (-1400) 100 ((b.1 : Rat) / ((b.2 * 2 ^ 30 : Nat) : Rat))

/-- Wire samples, the first with a label, enter the receive path of a chain, and its output its measure of power. -/
def feedReceive (c : Nat) (origin label : Rat) (iq : List (Int × Int)) (s : State) : State :=
  let g := s.chainSet c .rx origin
  let e := g.enter (s.chain c).rxFilter g.period label iq
  let o := runPath g.receive e.1 e.2
  let block := s.nat (O.thrBlock c)
  let runs := thrRuns s c
  countFilter c o (s.onChain c fun d =>
    { d with rxFilter := o.path, meter := if runs then o.samples.foldl (ThrMeter.take block) d.meter else d.meter })

/-- Samples of the transform's side, the first with a label, enter the transmit path of a chain; `gain` is the ramp at a label. -/
def feedTransmit (c : Nat) (origin label : Rat) (gain : Rat → Nat) (iq : List (Int × Int)) (s : State) : State :=
  let g := s.chainSet c .tx origin
  let e := g.enter (s.chain c).txFilter g.out label iq
  let o := runPath (g.transmit gain) e.1 e.2
  countFilter c o (s.onChain c fun d => { d with txFilter := o.path })

/-- The label of the first sample of a message, in device air time with its fraction (09 Table 9-5). -/
def State.labelOf (s : State) (n ats : Nat) : Rat :=
  (s.airOfCarrier n (linearOf ats) : Rat) + ((ats % 2 ^ 15 : Nat) : Rat) * (airTc : Rat) / (2 ^ 15 : Nat)

/-- The digital gain after a block of 256 samples, with the sum of their squared magnitudes before the gain: toward AGC_TARGET by at most 6 dB
(02 R75; log entry 46: the change is rounded half to even). -/
def agcStep (s : State) (sum : Nat) (gain : Int) : Int :=
  let p := decibels 10 (-1000) 10 ((sum : Rat) / (256 * 2 ^ 30 : Nat)) + 10 * gain
  nlGain (gain + clampInt (-6) 6 (roundEven (mkRat (s.obj O.agcTarget - p) 10)))

/-- A label of device air time as site time (02 R69, 10 R340). -/
def siteLabel (s : State) (label : Rat) : Nat := s.countOfAir label.floor

/-- The listen receiver takes a sample of its chain: at the end of a block the gain moves, unless it is frozen; after a capture it freezes. -/
def agcSample (s : State) (r : Listen) (x : FilterSample) : Listen :=
  let power := r.power + x.re.natAbs * x.re.natAbs + x.im.natAbs * x.im.natAbs
  let r := { r with stamp := siteLabel s x.label }
  if r.block + 1 < 256 then { r with block := r.block + 1, power := power }
  else
    { r with block := 0, power := 0, frozen := r.frozen || r.freezing, freezing := false
             gain := if r.frozen || r.freezing then r.gain else agcStep s power r.gain }

/-- The label of a first sample stamped in device air time. -/
def airLabel (s : State) (ats : Nat) : Rat :=
  (s.airOfLinear (linearOf ats) : Rat) + ((ats % 2 ^ 15 : Nat) : Rat) * (airTc : Rat) / (2 ^ 15 : Nat)

/-- A message of the listen port: its samples go through the chain that listens (02 R69, R75; 10 R331). -/
def listenSamples (ats : Nat) (iq : List (Int × Int)) (s : State) : State :=
  let c := s.nat O.nlChain
  let s := feedReceive c 0 (airLabel s ats) iq s
  s.onNl fun r => (s.chain c).rxFilter.out.foldl (agcSample s) r

/-! ## Threshold events (10 R347) -/

/-- DFE_THRESHOLD (10 Table 10-5): the state entered, the power of the block that decided it, and the changes suppressed; a new holdoff
begins. -/
def raiseThreshold (c : Nat) (s : State) : State :=
  let d := s.chain c
  let s := raise s (O.thrEvents c) c (leBytes 2 c ++ leBytes 1 (if d.high then 1 else 0) ++ leBytes 1 0 ++ leBytes 2 (codeOf 16 d.power)
    ++ leBytes 2 (d.suppressed % 2 ^ 16)) 0
  let t := s.clock.ticks + s.nat (O.thrHoldoff c) * 156250
  s.onChain c fun d => { d with raised := d.high, suppressed := 0, holdEnd := if s.nat (O.thrHoldoff c) = 0 then none else some t }

/-- Whether a block of power P leaves the path HIGH (10 R347). -/
def thrNext (s : State) (c : Nat) (high : Bool) (p : Int) : Bool :=
  let hi := s.obj (O.thrHigh c)
  let lo := if s.obj (O.thrLow c) < hi then s.obj (O.thrLow c) else hi - 10
  if high then decide (lo ≤ p) else decide (hi ≤ p)

/-- THR_BLOCK_END: in THR_MODE 1 the power of the oldest block that has ended is written and judged; in mode 2 the blocks belong to the watch
sequencer. The power of a block of zero samples is open (log entry 12). -/
def execThrBlockEnd (chain : Nat) (s : State) : Host.Outcome State Fault Refusal :=
  if 128 ≤ chain then .fault .noSuchUnit
  else if s.obj (O.thrMode chain) != 1 then .next s
  else match (s.chain chain).meter.ended with
    | [] => .next s
    | b :: rest =>
      let (w, t) := s.free
      let power := blockPower (signedOf 16 (w.toNat % 2 ^ 16)) b
      let s := ((if b.1 = 0 then t else s).onChain chain fun d => { d with meter := { d.meter with ended := rest } }).setObj (O.thrPower chain) power
      let d := s.chain chain
      let high := thrNext s chain d.high power
      if high = d.high then .next s
      else
        let s := s.onChain chain fun d => { d with high := high, power := power }
        .next (match d.holdEnd with
          | some t => if s.clock.ticks < t then s.onChain chain fun d => { d with suppressed := d.suppressed + 1 } else raiseThreshold chain s
          | none => raiseThreshold chain s)

/-- THR_HOLDOFF_END: one event if the state differs from that of the last event. -/
def execThrHoldoffEnd (chain : Nat) (s : State) : Host.Outcome State Fault Refusal :=
  if 128 ≤ chain then .fault .noSuchUnit
  else match (s.chain chain).holdEnd with
    | none => .next s
    | some t =>
      let s := (advanceTicks s t).onChain chain fun d => { d with holdEnd := none }
      .next (if (s.chain chain).high != (s.chain chain).raised then raiseThreshold chain s else s)

/-! ## Transmit windows (10 R348, R349) -/

/-- Whether symbol `q` of a carrier, counted 14 to a slot from its air-time zero, is downlink in TXW_MAP (10 R348). -/
def dlSymbol (s : State) (n : Nat) (q : Int) : Bool :=
  let i := ((q / 14) % hyperSlots (s.mu n)).toNat % max 1 (s.nat (O.txwPeriod n))
  bitOf (bytesAt (s.blob (O.txwMap n)) (2 * i) 2) (q % 14).toNat

/-- The start of symbol `q` of a carrier, in device air time. -/
def State.symbolAir (s : State) (n : Nat) (q : Int) : Int :=
  s.slotAt n (q / 14) + s.symbolStart n ((q / 14) % (2 ^ s.mu n : Nat)).toNat (q % 14).toNat

/-- The symbol of a carrier in which an instant of device air time falls. -/
def State.symbolOf (s : State) (n : Nat) (a : Int) : Int :=
  let tc := (a - s.frameOffset n) / airTc
  let (k, l) := symbolAt (s.mu n) (tc % subframeTc).toNat
  (tc / subframeTc * (2 ^ s.mu n : Nat) + k) * 14 + l

/-- A transmit window: one that never closes, as of an FDD carrier or a map of downlink symbols alone, or the symbols from `first` up to
`last`, which is no part of it. -/
inductive TxWindow
  | always
  | run (first last : Int)
  deriving DecidableEq, Repr

/-- The window that holds a symbol, `none` outside every window (10 R348): that of an FDD carrier is open while its enable reads ON. -/
def windowAt (s : State) (n : Nat) (q : Int) : Option TxWindow :=
  if s.obj (O.duplex n) == 0 then (if s.isOn (O.carrierEnable n) then some .always else none)
  else if !dlSymbol s n q then none
  else
    let span := List.range (14 * s.nat (O.txwPeriod n))
    match span.find? fun i : Nat => !dlSymbol s n (q - 1 - i), span.find? fun i : Nat => !dlSymbol s n (q + 1 + i) with
    | some i, some j => some (.run (q - i) (q + 1 + j))
    | _, _ => some .always

/-- Whether a listen gap, in progress or to come, meets the interval [a, b) of a carrier that it mutes (02 R71, R72). A gap in progress runs
to its close while network listen stops (02 R68); an opening that has passed with no gap in progress opens none. -/
def gapMeets (s : State) (n : Nat) (a b : Int) : Bool :=
  s.obj O.nlMode == 0 && bitOf (s.nat O.gapMuteMask) n
  && ((s.obj O.nlState == 2 && decide (s.nl.openedAt < b) && decide (a < s.nl.openedAt + s.obj O.gapLength * airNs))
    || (s.isOn O.nlEnable && s.obj O.watchState == 0
        && (nextGapAfter s (max (a - s.obj O.gapLength * airNs) (s.airNow - 1))).any fun g => decide (g < b)))

/-- Why a symbol of a carrier is not sent (10 R349; 02 R72, 01 R52): nothing, a gap, a closure, or that it lies outside every window. -/
inductive Shut | passes | gap | closure | outside
  deriving DecidableEq, Repr

/-- Whether a window is closed whole (10 R349). -/
def windowShut (s : State) (n : Nat) (first last : Int) : Shut :=
  if gapMeets s n (s.symbolAir n first) (s.symbolAir n last) then .gap
  else if limitClosed s (s.symbolAir n first) then .closure else .passes

/-- Whether the window of a TDD carrier whose map holds downlink symbols alone is closed at an instant: it opened, with the carrier, after a
closure's start, and the closure lasts (10 R349, 01 R52). -/
def endlessClosed (s : State) (n : Nat) (a : Int) : Bool :=
  s.obj (O.duplex n) != 0 && (match Store.find s.dfe.since n with
    | some w => limitClosed s w && limitClosed s a
    | none => false)

/-- What becomes of a symbol. -/
def symbolShut (s : State) (n : Nat) (q : Int) : Shut :=
  match windowAt s n q with
  | none => .outside
  | some .always => if gapMeets s n (s.symbolAir n q) (s.symbolAir n (q + 1)) then .gap
    else if endlessClosed s n (s.symbolAir n q) then .closure else .passes
  | some (.run a b) => windowShut s n a b

/-- The gain of a ramp, Q1.15, at a part of its length (10 R348). -/
def rampGain (x : Rat) : Nat := (roundEven (16384 * (1 - (cosSin (x / 2)).1))).toNat

/-- The gain of the ramp stage at a label of a carrier, Q1.15 (10 R348): 0 outside every window and in a closed one. A window that never closes
opens when the enable comes to read ON; the instant at which an FDD carrier's enable leaves ON is not known ahead, and has no ramp before it
(log entry 10). -/
def rampAt (s : State) (n : Nat) (t : Rat) : Nat :=
  match windowAt s n (s.symbolOf n t.floor) with
  | none => 0
  | some .always =>
    if symbolShut s n (s.symbolOf n t.floor) != .passes then 0
    else match Store.find s.dfe.since n with
      | none => 32768
      | some w =>
        let up := (s.obj (O.rampUpNs n) * airNs : Rat)
        let since := t - (w : Rat)
        if since < 0 then 0 else if since < up then rampGain (since / up) else 32768
  | some (.run a b) =>
    if windowShut s n a b != .passes then 0
    else
      let up := (s.obj (O.rampUpNs n) * airNs : Rat)
      let dn := (s.obj (O.rampDnNs n) * airNs : Rat)
      let since := t - (s.symbolAir n a : Rat)
      let left := (s.symbolAir n b : Rat) - t
      min (if since < up then rampGain (since / up) else 32768) (if left < dn then rampGain (left / dn) else 32768)

/-- The first symbol from `q` on that opens a window. -/
def nextOpening (s : State) (n : Nat) (q : Int) : Option Int :=
  ((List.range (14 * s.nat (O.txwPeriod n) + 1)).find? fun i : Nat => dlSymbol s n (q + i) && !dlSymbol s n (q + i - 1)).map (q + ·)

/-- The first symbol from `q` on that no window holds and that follows one. -/
def nextClosing (s : State) (n : Nat) (q : Int) : Option Int :=
  ((List.range (14 * s.nat (O.txwPeriod n) + 1)).find? fun i : Nat => !dlSymbol s n (q + i) && dlSymbol s n (q + i - 1)).map (q + ·)

/-- An accepted carrier's enable comes to read ON: its window that never closes opens, or is closed whole (10 R348, R349). -/
def openEndless (n : Nat) (s : State) : State :=
  let s := { s with dfe := { s.dfe with opened := Store.drop s.dfe.opened n, since := Store.put s.dfe.since n s.airNow } }
  if s.obj (O.duplex n) != 0 && windowAt s n 0 ≠ some .always then s
  else if endlessClosed s n s.airNow then s.bump (O.windowsClosed n) 1 else s.setObj (O.txwOpen n) 1

/-- An FDD carrier whose enable leaves ON has no open window. -/
def closeEndless (n : Nat) (s : State) : State := if s.obj (O.duplex n) == 0 then s.setObj (O.txwOpen n) 0 else s

/-- TX_WINDOW_OPEN: the next window of a TDD carrier that has not opened yet reaches its opening; a window closed whole counts in
WINDOWS_CLOSED and does not open (10 R348, R349). -/
def execTxWindowOpen (n : Nat) (s : State) : Host.Outcome State Fault Refusal :=
  if 64 ≤ n then .fault .noSuchUnit
  else if !s.holds (O.carrierEnable n) || !s.airRunning then .next s
  else if s.obj (O.duplex n) == 0 || windowAt s n (s.symbolOf n s.airNow) = some .always then
    .next (if s.isOn (O.carrierEnable n) && !gapMutes s n s.airNow && !endlessClosed s n s.airNow then s.setObj (O.txwOpen n) 1 else s)
  else
    let from' := max (s.symbolOf n s.airNow) (Store.at (-1) s.dfe.opened n + 1)
    let from' := if s.symbolAir n from' < s.airNow then from' + 1 else from'
    match nextOpening s n from' with
    | none => .next s
    | some q =>
      let s := advanceToAir s (s.symbolAir n q)
      let s := { s with dfe := { s.dfe with opened := Store.put s.dfe.opened n q } }
      match symbolShut s n q with
      | .passes => .next (s.setObj (O.txwOpen n) 1)
      | _ => .next (s.bump (O.windowsClosed n) 1)

/-- TX_WINDOW_CLOSE: the open window of a TDD carrier reaches the end of its last symbol. -/
def execTxWindowClose (n : Nat) (s : State) : Host.Outcome State Fault Refusal :=
  if 64 ≤ n then .fault .noSuchUnit
  else if s.obj (O.txwOpen n) != 1 || s.obj (O.duplex n) == 0 then .next s
  else match nextClosing s n (Store.at 0 s.dfe.opened n + 1) with
    | some q => .next ((advanceToAir s (s.symbolAir n q)).setObj (O.txwOpen n) 0)
    | none => .next s

/-! ## TXGATE (10 R350, R351) -/

/-- The rise of gate `g` for a window that opens with symbol `q`. -/
def gateRise (s : State) (g n : Nat) (q : Int) : Int := s.symbolAir n q + (s.obj (O.txgOffset g) - s.obj (O.txgLead g)) * airNs

/-- The fall of gate `g` for a window that ends before symbol `q`. -/
def gateFall (s : State) (g n : Nat) (q : Int) : Int := s.symbolAir n q + (s.obj (O.txgOffset g) + s.obj (O.txgLag g)) * airNs

/-- The symbols that `step` finds one after another from `q`, at most `fuel` of them. -/
def chainOfSymbols (step : Int → Option Int) : Nat → Int → List Int
  | 0, _ => []
  | k + 1, q => match step q with
    | some r => r :: chainOfSymbols step k (r + 1)
    | none => []

/-- TXGATE_EDGE: the next edge of a gate: active before an open window, inactive after it (10 R351). A window that never closes keeps its
gate active, but in a listen gap that mutes its carrier (02 R72). -/
def execTxgateEdge (g : Nat) (active : Bool) (s : State) : Host.Outcome State Fault Refusal :=
  if 16 ≤ g then .fault .noSuchUnit
  else
    let n := s.nat (O.txgCarrier g)
    if 64 ≤ n then .next (setGate g false s)
    else if !s.holds (O.carrierEnable n) then .next (setGate g false s)
    else if !s.airRunning then .next s
    else
      let may := fun (s : State) => s.obj O.guardState == 1 && !s.carrierMuted n
      let q := s.symbolOf n s.airNow - 14 * s.nat (O.txwPeriod n)
      if windowAt s n (s.symbolOf n s.airNow) = some .always then
        .next (if gapMutes s n s.airNow then (if active then s else setGate g false s) else if active && may s then setGate g true s else s)
      else if s.obj (O.duplex n) == 0 then .next (if active then s else setGate g false s)
      else if active then
        match (chainOfSymbols (nextOpening s n) 64 q).find? fun r => decide (s.airNow ≤ gateRise s g n r) with
        | some r =>
          let s := advanceToAir s (gateRise s g n r)
          .next (if may s && symbolShut s n r = .passes then setGate g true s else s)
        | none => .next s
      else
        match (chainOfSymbols (nextClosing s n) 64 q).find? fun r => decide (s.airNow ≤ gateFall s g n r) with
        | some r => .next (setGate g false (advanceToAir s (gateFall s g n r)))
        | none => .next s

/-- Whether a gate's fall after one window and rise before the next come less than 1 µs apart (10 R350), in a period of the map from each
slot of a subframe. -/
def gateTight (s : State) (n g : Nat) : Bool :=
  let span := 14 * s.nat (O.txwPeriod n)
  (List.range (span * 2 ^ s.mu n)).any fun q : Nat =>
    !dlSymbol s n q && dlSymbol s n (q - 1) &&
      match nextOpening s n q with
      | some r => decide (gateRise s g n r - gateFall s g n q < 1000 * airNs)
      | none => false

/-- Test 4 of 10 R332, for a TDD carrier (10 R350). -/
def windowCheck (n : Nat) (s : State) : Reason :=
  let period := s.nat (O.txwPeriod n)
  let cp := fun (v : Nat) => decide (2 * v * 2 ^ s.mu n ≤ 9375)
  if s.obj (O.duplex n) == 0 then .ok
  else if (s.blob (O.txwMap n)).length != 2 * period || hyperSlots (s.mu n) % period != 0
      || !cp (s.nat (O.rampUpNs n)) || !cp (s.nat (O.rampDnNs n))
      || (List.range 16).any fun g => s.nat (O.txgCarrier g) == n && gateTight s n g then .windowOverlap
  else .ok

/-! ## Listen gaps (02 R71, R72) -/

/-- LISTEN_GAP_OPEN: a gap opens; in gap mode the windows of the muted carriers that it meets are closed for all of it, so that none of
them is open (02 R72, 10 R349). The window of an FDD carrier opens again with TX_WINDOW_OPEN once the gap is over. -/
def execListenGapOpen (s : State) : Host.Outcome State Fault Refusal :=
  let s' := gapOpen s
  if s'.obj O.nlState == 2 && s'.obj O.nlMode == 0 then
    .next ((List.range 64).foldl (fun s n =>
      if bitOf (s.nat O.gapMuteMask) n && s.obj (O.txwOpen n) == 1 then s.setObj (O.txwOpen n) 0 else s) s')
  else .next s'

/-- NL_RESULT_WRITTEN: the measures of the oldest committed reception in processing are written together, with its offset (02 R81 to R85). Its arrival is the
label of its first sample, converted to site time, less the radio unit's receive delay (02 R69, 10 R340). With no
neighbour entry for the reception the spec states no d and no SSB case, and the offset is a free value (log entry 15). -/
def execNlResultWritten (m : NlMeasure) (s : State) : Host.Outcome State Fault Refusal :=
  match s.nl.work with
  | [] => .next s
  | (c, closed) :: rest =>
    let s := refreshQualified s
    let delay := s.gdRx (s.nat O.nlChain) + s.obj O.nlRuRxDelay * 1000
    let tRx := ((siteLabel s (m.place : Rat) : Int) - delay * (nsUnit : Nat) / 1000).toNat
    let nb := neighbourOf s c.pci c.type
    let (off, s) := match nb with
      | some n => (nlOffset s tRx (nominalInstant c.type (s.nat (O.nbSsbCase n)) m.ssbIndex m.halfBit)
          (s.obj (O.nbPropDelay n)), s)
      | none => (signedOf 32 (s.free.1.toNat % 2 ^ 32), s.free.2)
    let (shown, s) := fitSigned 32 off s
    let s := (s.setObj O.resultTime (stimeOf tRx)).bump O.resultsCommitted 1
    let flags := 1 + (if m.sinr < s.obj O.sinrFloor then 4 else 0) + (if nlTrusted s c.pci c.type then 0 else 8)
      + (if nlTooOld s then 16 else 0)
    let s := [(O.resultOffset, shown), (O.resultPci, (c.pci : Int)), (O.resultType, (c.type : Int)), (O.resultSinr, m.sinr),
      (O.resultEvm, (m.evm : Int)), (O.resultSigma, (m.sigma : Int)), (O.resultFreqErr, m.freqErr),
      (O.resultMetric, (c.metric : Int)), (O.resultFlags, (flags : Int))].foldl (fun s p => s.setObj p.1 p.2) s
    let s := s.onNl fun r => { r with work := rest, hasResult := true, unused := r.unused ++
      [⟨s.nat O.resultsCommitted, off, tRx, c.pci, c.type, m.sinr, m.sigma, closed⟩] }
    .next (refreshQualified (if s.obj O.nlState == 3 then nlIdle s else s))

end Sys2Proof.Machine
end

