-- ==== Sys2Proof/Machine/Fronthaul.lean ====
section
/-! DEFINITION. The fronthaul ports (09): links, loads and the binding of carriers, frames and forwarding, the downlink and uplink messages
of courses, delay measurement, remote reset and failover. -/

namespace Sys2Proof.Machine

/-! ## Ports and lanes (09 R298 to R303) -/

/-- A port beside its objects. -/
def State.port (s : State) (p : Nat) : PortIo := Store.at .down s.fh.ports p

/-- The state with a port changed. -/
def State.onPort (s : State) (p : Nat) (f : PortIo → PortIo) : State :=
  { s with fh := { s.fh with ports := Store.putD .down s.fh.ports p (f (s.port p)) } }

/-- The lanes of a port (09 Table 9-1). -/
def portLanes (s : State) (p : Nat) : List Nat := (List.range ([1, 1, 1, 2, 4].getD (s.nat (O.portSpeed p)) 1)).map (p + ·)

/-- The rate of a port in Gb/s (09 Table 9-1). -/
def portRate (s : State) (p : Nat) : Nat := [25, 50, 100, 200, 400].getD (s.nat (O.portSpeed p)) 25

/-- The power domain of a port (18 Table 18-1). -/
def portDomain (p : Nat) : Nat := 20 + p / 4

/-- Whether a link is up: UP or DEGRADED. -/
def State.linkUp (s : State) (p : Nat) : Bool := s.obj (O.portLinkState p) == 1 || s.obj (O.portLinkState p) == 2

/-- The check of PORT_ENABLE (09 R300). -/
def portCheck (p : Nat) (s : State) : Reason :=
  let sp := s.nat (O.portSpeed p)
  let q := s.nat (O.pairPort p)
  if (sp == 3 && p % 2 != 0) || (sp == 4 && p % 4 != 0)
      || (q != 0xFF && (q == p || s.nat (O.pairPort q) != p || s.nat (O.portSpeed q) != sp)) then .portMode
  else if (List.range 24).any fun o => o != p && s.holds (O.portEnable o) && (portLanes s o).any (portLanes s p).contains then
    .laneConflict
  else if s.obj (O.portPtpRole p) != 0 &&
      !(let lo : Int := if s.obj O.ptpProfile == 1 then 24 else 44
        decide (lo ≤ s.obj O.ptpDomain) && decide (s.obj O.ptpDomain ≤ lo + 19)) then .valueRange
  else .ok

/-- Whether every lane of a port is in service. -/
def lanesGood (s : State) (p : Nat) : Bool := (portLanes s p).all fun l => !bitOf s.fh.badLanes l

/-- The levels at which the pads of a domain are held, of those that have pads to latch (18 Table 18-4). -/
def padHold (d : Nat) : Option PadHold :=
  if 26 ≤ d && d < 30 then some .selfRefresh
  else if 20 ≤ d && d < 26 then some .electricalIdle
  else if d = 30 then some .lowPowerLink
  else if d = 1 then some .chipSelectIdle else none

/-- The pads of a domain are latched (18 R591). -/
def latchPads (d : Nat) (s : State) : State :=
  match padHold d with
  | some h => { s with power := { s.power with pads := Store.put s.power.pads d h } }
  | none => s

/-- The pads of a domain are released. -/
def releasePads (d : Nat) (s : State) : State := { s with power := { s.power with pads := Store.drop s.power.pads d } }

/-- The pads of a domain that returns to RUN are released, those of lanes with the bring-up of a link (18 Table 18-4). -/
def driveWithRun (d : Nat) (s : State) : State :=
  if padHold d == some .electricalIdle && !((List.range 24).any fun p => portDomain p == d && s.holds (O.portEnable p)) then s
  else releasePads d s

/-- Link bring-up starts (09 R300, R301), with the pads of its lanes released where its domain reads RUN (18 Table 18-4). -/
def bringUp (p : Nat) (s : State) : State :=
  let now := s.clock.ticks
  let s := if s.runs (portDomain p) then releasePads (portDomain p) s else s
  s.onPort p fun _ => { PortIo.down with alignAt := if lanesGood s p then some now else none }

/-- An accepted port starts bring-up. -/
def portAccept (p : Nat) (s : State) : State := bringUp p (s.setObj (O.portLinkState p) 0)

/-- The carriers that name a port as FH_PORT or through PAIR_PORT. -/
def carriersOn (s : State) (p : Nat) : List Nat :=
  (List.range 64).filter fun n => s.holds (O.carrierEnable n) &&
    (s.nat (O.fhPort n) == p || (s.nat (O.fhPort n) < 24 && s.nat (O.pairPort (s.nat (O.fhPort n))) == p))

/-- The ticks that bytes take on a port. -/
def portTicks (s : State) (p bytes : Nat) : Nat := ticksOfNs (ceilDiv (8 * bytes) (portRate s p))

/-- The frames in the queue of a port whose last bit has not left. -/
def waitingFrames (s : State) (p : Nat) : List QFrame := (s.port p).queue.filter fun f => decide (s.clock.ticks < f.ends)

/-- The frames of a forwarding queue that have not left. -/
def queued (s : State) (p : Nat) : List QFrame := (waitingFrames s p).filter fun f => f.cls == 4

/-- Whether a port still has work: a carrier that names it, or a frame in its forwarding queue (09 R302). -/
def portBusy (p : Nat) (s : State) : Bool := !(carriersOn s p).isEmpty || !(queued s p).isEmpty

/-- Each lane of a port stops feeding the SyncE outputs. -/
def lanesLost (p : Nat) (s : State) : State := (portLanes s p).foldl (fun s l => laneLost l s) s

/-- A port loses its link: its lanes stop feeding the SyncE outputs, its PTP exchanges start anew, and a PTP source on it is disqualified
(01 R59, 09 R326). -/
def linkLost (p : Nat) (s : State) : State := refreshQualified ((lanesLost p s).setPtp p .idle)

/-- The link of a port goes down with its shut-down. -/
def portOff (p : Nat) (s : State) : State :=
  linkLost p ((s.setObj (O.portLinkState p) 3).onPort p fun _ => PortIo.down)

/-- PORT_ENABLE (09 R300, R302). -/
def portRules (p : Nat) : EnableRules :=
  { key := O.portEnable p, check := portCheck p, accept := portAccept p,
    stop := fun s => if portBusy p s then s else portOff p s, busy := portBusy p }

/-- WRITE_PORT_ENABLE. -/
def execWritePortEnable (x : Xfer) (p : Nat) (v : Int) (s : State) : Host.Outcome State Fault Refusal :=
  if 24 ≤ p then .fault .noSuchUnit else .next (hostWrite x (O.portEnable p) (.num v) ((portRules p).write v) s)

/-- PORT_SHUTDOWN_COMPLETE: with no carrier on the port and its queue empty the link goes down (09 R302). -/
def execPortShutdownComplete (p : Nat) (s : State) : Host.Outcome State Fault Refusal :=
  if 24 ≤ p then .fault .noSuchUnit
  else
    let k := O.portEnable p
    if (s.obj k == stStopping || s.obj k == stPending) && s.shutRuns k && (carriersOn s p).isEmpty then
      let s := advanceTicks s ((s.port p).queue.foldl (fun t f => max t f.ends) 0)
      .next (shutDone k (portOff p s))
    else .next s

/-! ## The binding of a carrier (09 R307 to R309) -/

/-- The eAxC of stream port `k` of a carrier. -/
def State.eaxc (s : State) (n k : Nat) : Nat := (s.nat (O.eaxcBase n) + k) % 2 ^ 16

/-- Every eAxC of a carrier (09 R307). -/
def State.eaxcs (s : State) (n : Nat) : List Nat :=
  if s.hosted n then []
  else (List.range (s.streamPorts n)).map (s.eaxc n) ++
    (if s.timeDomain n then []
     else (List.range (s.nat (O.ulPorts n))).map fun k => s.eaxc n (s.nat (O.prachEaxcOffset n) + k))

/-- The port that pairs with a port, none where PAIR_PORT is 0xFF. -/
def State.pairOf (s : State) (p : Nat) : Option Nat := if s.nat (O.pairPort p) < 24 then some (s.nat (O.pairPort p)) else none

/-- The ports of a carrier: its primary and that port's pair. -/
def State.portsOf (s : State) (n : Nat) : List Nat :=
  if s.nat (O.fhPort n) < 24 then s.nat (O.fhPort n) :: (s.pairOf (s.nat (O.fhPort n))).toList else []

/-- The compression of a downlink section (09 Table 9-4): with method 4 modulation compression for a record of precoding source 2, and block
floating point for every other; as method and width. -/
def compDl (s : State) (n : Nat) (r : Option Rec) : Nat × Nat :=
  if s.obj (O.compMethod n) == 0 then (0, 16)
  else match r with
    | some r =>
      if s.obj (O.compMethod n) == 4 && r.precSource == 2 then (4, (if r.isAlloc then r.qm else 2) / 2) else (1, s.nat (O.compWidthDl n))
    | none => (1, s.nat (O.compWidthDl n))

/-- The compression of an uplink section: modulation compression is for the downlink alone (log entry 54). -/
def compUl (s : State) (n : Nat) : Nat × Nat := if s.obj (O.compMethod n) == 0 then (0, 16) else (1, s.nat (O.compWidthUl n))

/-- The bits that stream port `k` of a carrier sends or receives in one symbol, as a fraction: for a frequency-domain port 8 B of 09 R309, and for
a time-domain port 8 B with B = (4N + 62) / N bytes a sample × the port's sample rate × S_μ. The FH_MTU is that of port `p`. -/
def symbolBits (s : State) (n p k : Nat) (dl : Bool) : Nat × Nat :=
  if s.obj (O.fhDomain n) == 1 then
    let c := s.chainOf n k
    let m := s.nat (O.tdSamplesPerMsg n)
    (8 * (4 * m + 62) * s.nat (O.dfeWireKsps c) * 1000 * symbolTc (s.mu n), m * 1966080000)
  else
    let method := if dl then s.nat (O.compMethod n) else (compUl s n).1
    let w := if dl then (compDl s n none).2 else (compUl s n).2
    let iq := s.prbs n * (3 * w + if method == 1 then 1 else 0)
    (8 * (iq + 60 * ceilDiv iq (s.nat (O.fhMtu p) - 18)), 1)

/-- The sum of two fractions. -/
def addFrac (a b : Nat × Nat) : Nat × Nat := if a.2 = b.2 then (a.1 + b.1, a.2) else (a.1 * b.2 + b.1 * a.2, a.2 * b.2)

/-- The load of a carrier in one direction on a port, as a fraction in Mbit/s (09 R309), over its ports in that direction: a hosted carrier takes
no streams. -/
def loadOf (s : State) (n p : Nat) (dl : Bool) : Nat × Nat :=
  let ports := if s.hosted n then 0 else s.nat (if dl then O.dlPorts n else O.ulPorts n)
  (List.range ports).foldl (fun a k =>
    let b := symbolBits s n p k dl
    addFrac a (b.1 * 1966080000, b.2 * symbolTc (s.mu n) * 1000000)) (0, 1)

/-- The load test of 09 R309 on one port in one direction, carrier `n` included. -/
def loadFits (s : State) (n p : Nat) (dl : Bool) : Bool :=
  let users := n :: (List.range 64).filter fun m => m != n && s.holds (O.carrierEnable m) && (s.portsOf m).contains p
  let sum := users.foldl (fun acc m => addFrac acc (loadOf s m p dl)) (0, 1)
  decide (100 * sum.1 ≤ 96 * portRate s p * 1000 * sum.2)

/-- Whether 09 Table 9-4 has a width for a method (log entry 54). -/
def widthOk (method width : Nat) : Bool := if method == 0 then width == 16 else decide (8 ≤ width) && decide (width ≤ 16)

/-- The tests of 09 R308, step 6 of 06 R184. -/
def bindingCheck (n : Nat) (s : State) : Reason :=
  let ports := s.portsOf n
  let shared := fun (m : Nat) => (s.portsOf m).any ports.contains
  let adv := s.obj (O.cpAdvDl n) * airNs
  if ports.isEmpty || ports.any fun p => !s.isOn (O.portEnable p) then .portDown
  else if (List.range 64).any fun m =>
      m != n && s.holds (O.carrierEnable m) && shared m && (s.eaxcs m).any (s.eaxcs n).contains then .laneConflict
  else if !([0, 1, 4].contains (s.nat (O.compMethod n))) ||
      [s.nat (O.compWidthDl n), s.nat (O.compWidthUl n)].any fun w => !widthOk (s.nat (O.compMethod n)) w then .compressionUnsupported
  else if adv < 1000 * airNs || 2 * (symbolTc (s.mu n) : Int) * airTc < adv || s.obj (O.ulWinClose n) ≤ s.obj (O.ulWinOpen n)
      || ports.any fun p => !loadFits s n p true || !loadFits s n p false then .deadlineInfeasible
  else .ok

/-- A load as its object shows it, in Mbit/s to the nearest: the example of 09 R309 reads 55,279.86 as 55,280 (DEDUCED, log entry 10). -/
def shownLoad (s : State) (n : Nat) (dl : Bool) : Int :=
  let f := loadOf s n (s.nat (O.fhPort n)) dl
  ((2 * f.1 + f.2) / (2 * f.2) : Nat)

/-- A carrier becomes active on its primary (09 R324), and shows its loads. -/
def bindCarrier (n : Nat) (s : State) : State :=
  ((s.setObj (O.activePort n) (s.obj (O.fhPort n))).setObj (O.fhLoadDl n) (shownLoad s n true)).setObj (O.fhLoadUl n) (shownLoad s n false)

/-! ## Launches (09 R311 to R316; 17 R556, R557) -/

/-- Under which the sequence of an eAxC of a carrier counts, by plane (0 user, 1 control) and direction (09 R306). -/
def seqKey (n plane dir eaxc : Nat) : Nat := ((n * 2 + plane) * 2 + dir) * 2 ^ 16 + eaxc

/-- A sequence of an eAxC, plane and direction advances (09 R306). -/
def nextSeq (key : Nat) (s : State) : State :=
  { s with fh := { s.fh with txSeq := Store.put s.fh.txSeq key ((Store.at 0 s.fh.txSeq key + 1) % 256) } }

/-- The SEQ_ID that a message takes, its sequence with the E bit 1 and subsequence id 0, and the state that has advanced it. -/
def takeSeq (key : Nat) (s : State) : Nat × State := (Store.at 0 s.fh.txSeq key * 256 + 128, nextSeq key s)

/-- Frames leave a port. -/
def sentFrames (p frames bytes : Nat) (s : State) : State := (s.bump (O.txFrames p) frames).bump (O.txBytes p) bytes

/-- A number in `n` bytes in wire order. -/
def wireBytes (n x : Nat) : Bytes := (leBytes n x).reverse

/-- A frame of the device on a port (09 R304), of protocol revision 0001b and C bit 0 (R306). -/
def frameOn (s : State) (p dst : Nat) (body : FrameBody) : OutFrame :=
  { dst := dst, src := wireNat (s.blob (O.portMac p)), tag := s.frameTag p, ecpri := 0x10, body := body }

/-- The address of a carrier's radio unit on a port: on the pair port RU_MAC_ALT, where that is not zero (09 R324). -/
def ruAddress (s : State) (n p : Nat) : Nat :=
  let alt := wireNat (s.blob (O.ruMacAlt n))
  if p = s.nat (O.fhPort n) || alt = 0 then wireNat (s.blob (O.ruMac n)) else alt

/-- The tick at which device air time reaches an instant, now where that has passed. -/
def State.tickOfAir (s : State) (a : Int) : Nat := s.clock.ticks + ceilDiv (s.countOfAir a - s.clock.count) (incrOf s.steered)

/-- The first symbol of a record. -/
def firstSymbol (s : State) (key : Nat) (c : Course) (r : Rec) : Nat :=
  let g := c.site key
  ((maskList (recSymbols (s.std g.n) (s.mu g.n) g.desc r) 14).head?).getD c.first

/-- The instants of device air time at which the messages of a course are scheduled: each downlink symbol and the C-plane of each record (09 R313,
R314). -/
def launchInstants (s : State) (key : Nat) (c : Course) : List Int :=
  let n := key / 2 ^ 32 - 1
  let h := s.streamOf n
  if dirOf (key % 2 ^ 32) == 0 then
    (((List.range (c.last + 1)).drop c.first).map fun l => s.txInstant h c.slotAir l) ++
      (if s.obj (O.fhDomain h) == 1 then []
       else c.recs.map fun r => s.txInstant h c.slotAir (firstSymbol s key c r) - s.obj (O.cpAdvDl n) * airNs)
  else if s.obj (O.fhDomain h) == 1 then [] else [c.slotAir - s.obj (O.ulBindLead n) * airNs]

/-- The ticks of the launches that a port has ahead. -/
def launchesAhead (s : State) (p : Nat) : List Nat :=
  (((s.port p).recent.map (·.tick)).filter fun t => decide (s.clock.ticks < t)) ++
  (s.pipe.courses.filter fun e => s.nat (O.activePort (s.streamOf (e.1 / 2 ^ 32 - 1))) == p && !e.2.cancelled && !e.2.journalled
    && e.2.state != .opened).flatMap fun e => ((launchInstants s e.1 e.2).filter fun a => decide (s.airNow < a)).map s.tickOfAir

/-- The first of some ticks after a tick. -/
def firstAfter (l : List Nat) (t : Nat) : Option Nat :=
  l.foldl (fun b x => if x ≤ t then b else some (match b with
    | some y => min x y
    | none => x)) none

/-- The tick from `t` on at which a frame of classes 3 or 4 that takes `d` ticks starts: its last bit leaves 100 ns before the next launch, or it
follows a launch (09 R316). -/
def fitStart (launches : List Nat) (d : Nat) : Nat → Nat → Nat
  | 0, t => t
  | k + 1, t => match firstAfter launches t with
    | some x => if t + d + ticksOfNs 100 ≤ x then t else fitStart launches d k x
    | none => t

/-- Whether the first bit of a frame in a queue has left. -/
def begun (s : State) (p : Nat) (f : QFrame) : Bool := decide (f.ends - portTicks s p f.bytes ≤ s.clock.ticks)

/-- The frames that share a port with its scheduled messages take their places from a tick on, in their order; one that has begun, or of class 1,
keeps its own. -/
def refit (s : State) (p : Nat) (launches : List Nat) : Nat → List QFrame → List QFrame
  | _, [] => []
  | t, f :: rest =>
    if f.cls == 1 || begun s p f then f :: refit s p launches (max t f.ends) rest
    else
      let d := portTicks s p f.bytes
      let e := fitStart launches d launches.length t + d
      { f with ends := e } :: refit s p launches e rest

/-- The queue of a port follows its scheduled messages. -/
def requeue (p : Nat) (s : State) : State :=
  s.onPort p fun x => { x with queue := refit s p (launchesAhead s p) (max s.clock.ticks x.busy) (waitingFrames s p) }

/-- A frame enters the queue of a port, after those of its class and of the classes before it. -/
def enterQueue (p cls bytes ends : Nat) (s : State) : State :=
  let l := waitingFrames s p
  let first := fun (f : QFrame) => begun s p f || decide (f.cls ≤ cls)
  requeue p (s.onPort p fun x => { x with queue := l.filter first ++ ⟨cls, bytes, ends⟩ :: l.filter fun f => !first f })

/-- The next frame boundary of a port, from a tick on: the end of what it is sending then. -/
def frameBoundary (s : State) (p t : Nat) : Nat :=
  let on := fun (bytes ends : Nat) => decide (t < ends) && decide (ends - portTicks s p bytes ≤ t)
  let t' := (waitingFrames s p).foldl (fun m f => if on f.bytes f.ends || f.cls == 1 then max m f.ends else m) t
  (s.port p).recent.foldl (fun m l => if on l.bytes l.ends then max m l.ends else m) t'

/-- Scheduled messages leave a port at their launch instant, or after what it is sending (09 R316), and are remembered for 5 µs (R325). -/
def sendLaunch (p : Nat) (l : Launch) (s : State) : State :=
  let ends := max (s.port p).busy (frameBoundary s p l.tick) + portTicks s p l.bytes
  requeue p ((sentFrames p l.frames.length l.bytes s).onPort p fun x =>
    { x with busy := ends, recent := x.recent.filter (fun r => l.tick ≤ r.tick + 782) ++ [{ l with ends := ends }] })

/-- Other frames of the device leave a port once its messages leave room for them (09 R316). -/
def sendOwn (p : Nat) (frames : List OutFrame) (bytes : Nat) (s : State) : State :=
  let now := s.clock.ticks
  enterQueue p 3 bytes (now + 1 + portTicks s p bytes) ((sentFrames p frames.length bytes s).onPort p fun x =>
    { x with recent := x.recent ++ [⟨now, now, 0, [], 0, false, 0, frames, 0⟩] })

/-- The state with a bit of a mask of a course set. -/
def markSymbol (key : Nat) (f : Course → Course) (s : State) : State := s.onCourse key f

/-- A message of a symbol was not sent: the symbol leaves the symbols sent, and its records end with a status. -/
def notSent (key status l : Nat) (s : State) : State :=
  match s.course key with
  | none => s
  | some c =>
    causeAt key status (symbolRecs s key c l) (s.onCourse key fun c =>
      { c with sent := setBit c.sent l false, unsent := setBit c.unsent l true })

/-- A symbol of a course is withheld: in a closed window or outside every window, or stopped by a mute (10 R349; 17 R563). -/
def withhold (key l : Nat) (s : State) : State :=
  match s.course key with
  | none => s
  | some c => causeAt key 3 (symbolRecs s key c l) (s.onCourse key fun c =>
      { c with withheld := setBit c.withheld l true, sent := setBit c.sent l false, unsent := setBit c.unsent l true })

/-- A symbol is blanked in a listen gap (02 R72; 06 R206). -/
def blank (key l : Nat) (c : Course) (s : State) : State :=
  let s := if bitOf c.blanked l then s else s.bump O.blankedSymbols 1
  causeAt key 2 (symbolRecs s key c l) (s.onCourse key fun c =>
    { c with blanked := setBit c.blanked l true, sent := setBit c.sent l false, unsent := setBit c.unsent l true })

/-- Symbol `l` of a course in symbols of its carrier. -/
def courseSymbol (s : State) (n : Nat) (c : Course) (l : Nat) : Int := s.slotOf n c.slotAir * 14 + l

/-- The sink operation of a symbol and stream port of a downlink course. -/
def sinkOf (s : State) (n l k : Nat) : OpId :=
  if s.timeDomain n then opId .ifft 0 l k else opId .asm 0 l (k / 16)

/-- Whether the guard's copy holds symbol `q` in a transmit window (17 R556). -/
def copyHolds (s : State) (n : Nat) (c : Copy) (q : Int) : Bool :=
  c.duplex == 0 ||
    (let i := ((q / 14) % hyperSlots (s.mu n)).toNat % max 1 c.period.toNat
     bitOf (bytesAt c.map (2 * i) 2) (q % 14).toNat)

/-- Whether a stream that a release let go still waits for its next window opening (17 R564). -/
def awaitsOpening (s : State) (n p : Nat) (q : Int) : Bool :=
  match windowAt s n q with
  | some (.run a _) => s.guard.reopen.any fun r =>
      (r.1 == 3 || (r.1 == 0 && r.2.1 == n) || (r.1 == 1 && r.2.1 == p) || (r.1 == 2 && s.gangCarrier r.2.1 == n))
        && decide (s.symbolAir n a < r.2.2)
  | _ => false

/-- Whether a mute stops the stream of a carrier's port `k` on a fronthaul port: the gate of the port, or of its chain. -/
def launchMuted (s : State) (n p k : Nat) : Bool :=
  s.obj O.guardState != 1 || s.streamMuted n p || (s.timeDomain n && s.chainMuted (s.chainOf n k))

/-- The power meter of a gate (17 R557): PWR_MAX holds the highest measure, and cause 3 trips from the limit + 0.75 dB on, its measure the
excess over the limit. Measures are in 0.1 dB. An injected excess (17 R578) trips it with a measure that the spec does not state (log entry
12). -/
def meter (n : Nat) (power : Int) (s : State) : State :=
  let s := s.setObj (O.pwrMax n) (max (s.obj (O.pwrMax n)) power)
  if s.guard.synth.contains (5, n) then
    let (w, s) := s.free
    detect 3 0 n (signedOf 32 (w.toNat % 2 ^ 32)) (s.onGuard fun g => { g with synth := g.synth.filter (· != (5, n)) })
  else if 2 * s.obj (O.guardPwrLimit n) + 15 ≤ 2 * power then detect 3 0 n (power - s.obj (O.guardPwrLimit n)) s else s

/-- What becomes of a symbol of a course at its launch: blanked in a listen gap; withheld in a closed window, outside every window or by a
mute; lost with a unit or for want of its output; stopped by the guard's gate, which has no copy or grants no window; too late; or launched. -/
inductive Fate | blanked | shut | outside | muted | unitDown | empty | noCopy | ungranted | late | goes
  deriving DecidableEq, Repr

/-- Whether the sink output of a symbol and stream port of a course is there. -/
def sinkReady (s : State) (key n l k : Nat) : Bool :=
  match s.liveOp key (sinkOf s n l k) with
  | some (_, o) => o.published && !o.empty
  | none => false

/-- The fate of symbol `q` of carrier `n` in stream port `k` of carrier `h`, which is its host or itself. -/
def launchFate (s : State) (n h k : Nat) (q : Int) (ready : Bool) : Fate :=
  let p := s.nat (O.activePort h)
  let td := s.timeDomain h
  match symbolShut s n q with
  | .gap => .blanked
  | .closure => .shut
  | .outside => .outside
  | .passes =>
    if launchMuted s h p k || s.streamMuted n p || awaitsOpening s h p q then .muted
    else if !(p < 24 && s.linkUp p) || (td && (s.chain (s.chainOf h k)).faulted) then .unitDown
    else if !ready && !td then .empty
    else match Store.find s.guard.copies h with
      | none => .noCopy
      | some g => if copyHolds s h g q then .goes else .ungranted

/-- A fate strikes a symbol of a course of carrier `n`. -/
def strikeFate (key n l : Nat) (c : Course) (ready : Bool) (f : Fate) (s : State) : State :=
  match f with
  | .blanked => blank key l c s
  | .shut | .muted | .noCopy | .ungranted => withhold key l s
  | .outside => withhold key l (if bitOf c.withheld l then s else s.bump (O.symbolsOutside n) 1)
  | .unitDown => notSent key 5 l s
  | .empty | .late => notSent key 1 l s
  | .goes =>
    let s := if ready then s else notSent key 1 l s
    s.onCourse key fun c => { c with sent := if bitOf c.unsent l then c.sent else setBit c.sent l true }

/-- The courses of a direction of the carriers hosted by `h` whose elements travel in a symbol of its streams, by the slot start (06 R186). -/
def ridersOf (s : State) (h : Nat) (slot : Int) (dir l : Nat) : List (Nat × Course) :=
  s.pipe.courses.filter fun e =>
    let n := e.1 / 2 ^ 32 - 1
    s.hosted n && s.holds (O.carrierEnable n) && s.nat (O.hostCarrier n) == h && dirOf (e.1 % 2 ^ 32) == dir && e.2.slotAir == slot
      && !e.2.cancelled && !e.2.journalled && e.2.state != .opened && decide (e.2.first ≤ l) && decide (l ≤ e.2.last)

/-- The fate of each hosted carrier's elements in a symbol of stream port `k` of its host: its own, and the message's where that goes. -/
def riderFates (s : State) (h l k : Nat) (slot : Int) : List (Nat × Course × Bool × Fate) :=
  (ridersOf s h slot 0 l).map fun e =>
    let n := e.1 / 2 ^ 32 - 1
    let ready := sinkReady s e.1 n l k
    (e.1, e.2, ready, launchFate s n h k (courseSymbol s n e.2 l) ready)

/-- The message of stream port `k` has had its launch for a course. -/
def Course.gone (c : Course) (l k : Nat) : Course := { c with went := Store.put c.went l (setBit (Store.at 0 c.went l) k true) }

/-- The hosted carriers' elements share the fate of the message that was to carry them. -/
def rideAlong (l k : Nat) (f : Fate) (riders : List (Nat × Course × Bool × Fate)) (s : State) : State :=
  riders.foldl (fun s e =>
    let own := e.2.2.2
    (strikeFate e.1 (e.1 / 2 ^ 32 - 1) l e.2.1 e.2.2.1 (if own = .goes then f else own) s).onCourse e.1 fun c => c.gone l k) s

/-- The 12 elements of a hosted carrier in a symbol and stream port. -/
def guestElements (s : State) (key l k : Nat) : List (Int × Int) :=
  samplesOf (s.outBytes key (opId .asm 0 l (k / 16)) (k % 16 * 48) 48)

/-- The sum of two streams of samples, saturated (00 R9). -/
def addSamples (a b : List (Int × Int)) : List (Int × Int) :=
  (a.zip b).map fun x => ((saturate16 (x.1.1 + x.2.1)).1, (saturate16 (x.1.2 + x.2.2)).1)

/-- The samples of a time-domain symbol go through the transmit path of their chain: those of the course whose output is there, with those of
the hosted carriers on their subcarriers, and otherwise zero samples (06 R186, R201; 10 R340, R348; log entry 51). What leaves the path waits
for its messages (09 R317). -/
def sendSamples (n l k : Nat) (slotAir : Int) (own : Option Nat) (guests : List Nat) (s : State) : State :=
  let (useful, cp) := symbolGrid s n slotAir l
  let count := cp + s.transform n
  let period : Rat := (1000000 * airNs : Rat) / ((max 1 (s.sampleKsps n) : Nat) : Rat)
  let iq := match own with
    | some key => samplesOf (s.outBytes key (opId .ifft 0 l k) 0 (4 * count))
    | none => List.replicate count (0, 0)
  let iq := guests.foldl (fun iq g => addSamples iq (samplesFrom (s.std n == 0) (s.transform n) cp (12 * s.prbs n)
    (Config.guestTone n (g / 2 ^ 32 - 1)) (guestElements s g l k))) iq
  let s := feedTransmit (s.chainOf n k) (s.frameOffset n : Rat) ((s.frameOffset n : Rat) + ((useful - cp : Int) : Rat) * period) (rampAt s n) iq s
  let out := (s.chain (s.chainOf n k)).txFilter.out.map fun x => (x, own.isNone && guests.isEmpty)
  { s with fh := { s.fh with samples := Store.put s.fh.samples (n * 64 + k) (Store.at [] s.fh.samples (n * 64 + k) ++ out) } }

/-- The payload of a time-domain message (09 Table 9-5). -/
def samplePayload (s : State) (n : Nat) (x : List (FilterSample × Bool)) : Bytes :=
  let first := (x.head?.map fun e => e.1.label).getD 0 - (s.frameOffset n : Rat)
  wireBytes 8 (stampAts (first * (2 ^ 15 : Nat) / (airTc : Rat)).floor) ++ wireBytes 2 x.length
    ++ [if x.any (·.2) then 1 else 0, 0] ++ x.flatMap fun e => wireBytes 2 (codeOf 16 e.1.re) ++ wireBytes 2 (codeOf 16 e.1.im)

/-- The time-domain messages of a stream port that have all their samples, each with the label of its first sample and its sequence, taken out of
those that wait. -/
def cutMessages : Nat → Nat → Nat → Nat → State → List (Rat × FrameBody) × State
  | 0, _, _, _, s => ([], s)
  | m + 1, n, k, count, s =>
    let x := Store.at [] s.fh.samples (n * 64 + k)
    if x.length < count || count = 0 then ([], s)
    else
      let (q, s) := takeSeq (seqKey n 0 0 (s.eaxc n k)) { s with fh := { s.fh with samples := Store.put s.fh.samples (n * 64 + k) (x.drop count) } }
      let (rest, t) := cutMessages m n k count s
      (((x.head?.map fun e => e.1.label).getD 0, .samples (s.eaxc n k) q (samplePayload s n (x.take count))) :: rest, t)

/-! ### What a U-plane message holds (09 R312, R316) -/

/-- The smallest exponent with which the components of a PRB fit a width, 15 where none does. -/
def blockExponent (w : Nat) (z : List (Int × Int)) : Nat :=
  ((List.range 16).find? fun e => z.all fun x => fitsWidth w (shiftEven e x.1) && fitsWidth w (shiftEven e x.2)).getD 15

/-- A component in a signed width, saturated. -/
def saturateTo (w : Nat) (v : Int) : Int := clampInt (-(2 ^ (w - 1) : Nat)) ((2 ^ (w - 1) : Nat) - 1) v

/-- One PRB of a section, compressed. -/
def compressPrb (r : Rec) (comp : Nat × Nat) (prb : Nat) (z : List (Int × Int)) : USection :=
  match comp.1 with
  | 1 =>
    let e := blockExponent comp.2 z
    ⟨2 ^ prb, comp, [e], z.map fun x => (saturateTo comp.2 (shiftEven e x.1), saturateTo comp.2 (shiftEven e x.2))⟩
  | 4 => ⟨2 ^ prb, comp, [], z.map fun x => (Config.modComp r.bytes x.1, Config.modComp r.bytes x.2)⟩
  | _ => ⟨2 ^ prb, comp, [], z⟩

/-- The bytes of one PRB: 3w + x of 09 R309. -/
def USection.prbBytes (u : USection) : Nat := 3 * u.comp.2 + if u.comp.1 == 1 then 1 else 0

/-- A PRB of a record joins the messages of its eAxC, the newest first: the section of its record, a section of its own, or a new message where
the last is full. A message has 12 bytes beside its sections, and each section 6 (DEDUCED from the 18 of 09 R309, log entry 54). -/
def packPrb (mtu : Nat) (m : List (Nat × List (Nat × USection))) (x : Nat × USection) : List (Nat × List (Nat × USection)) :=
  let b := x.2.prbBytes
  match m with
  | (size, (id, u) :: us) :: rest =>
    if id = x.1 && u.comp = x.2.comp && decide (size + b ≤ mtu) then
      (size + b, (id, { u with prbs := Nat.lor u.prbs x.2.prbs, exps := u.exps ++ x.2.exps, iq := u.iq ++ x.2.iq }) :: us) :: rest
    else if size + 6 + b ≤ mtu then (size + 6 + b, x :: (id, u) :: us) :: rest
    else (18 + b, [x]) :: (size, (id, u) :: us) :: rest
  | _ => (18 + b, [x]) :: m

/-- A record with its first PRB put into its place by that. -/
def insertByPrb (x : Nat × Rec) : List (Nat × Rec) → List (Nat × Rec)
  | [] => [x]
  | y :: t => if x.1 < y.1 then x :: y :: t else y :: insertByPrb x t

/-- The PRBs of a record in the streams of its carrier, or of its host (06 R186). -/
def streamPrbs (s : State) (n : Nat) (d : Desc) (r : Rec) : Nat :=
  if s.hosted n then 2 ^ (Config.guestTone (s.streamOf n) n / 12) else recPrbs (s.std n) (s.mu n) (s.prbs n) d r

/-- The PRBs that a course brings to a symbol of stream port `k`, record by record in ascending PRB, compressed as its stream's carrier says. -/
def uplanePrbs (s : State) (h l k : Nat) (e : Nat × Course) : List (Nat × USection) :=
  let g := e.2.site e.1
  let recs := ((e.2.recs.filter fun r => bitOf (recSymbols (s.std g.n) (s.mu g.n) g.desc r) l).map fun r =>
    (((maskList (streamPrbs s g.n g.desc r) 275).head?).getD 0, r)).foldl (fun a x => insertByPrb x a) []
  recs.flatMap fun x => (maskList (streamPrbs s g.n g.desc x.2) 275).map fun p =>
    (e.1 * 2 ^ 16 + x.2.id, compressPrb x.2 (compDl s h (some x.2)) p
      (if g.n = h then samplesOf (s.outBytes e.1 (opId .asm 0 l (k / 16)) (k % 16 * 48 * s.prbs h + 48 * p) 48) else guestElements s e.1 l k))

/-- The U-plane messages of a symbol and eAxC: the sections of every course that travels in it, packed up to FH_MTU (09 R316). -/
def uplaneMessages (s : State) (h l k p : Nat) (courses : List (Nat × Course)) : List (List USection) :=
  (((courses.flatMap (uplanePrbs s h l k)).foldl (packPrb (s.nat (O.fhMtu p))) []).map fun m => (m.2.map (·.2)).reverse).reverse

/-- Time-domain messages of a stream port launch: each when device air time reaches the instant of its first sample less TX_ADVANCE (09 R318),
unless that lies more than S_μ back. A frame has 4N + 38 bytes, and 4 more with a tag. -/
def launchSamples (key h l k p : Nat) (riders : List Nat) (s : State) : State :=
  let r := cutMessages ((Store.at [] s.fh.samples (h * 64 + k)).length + 65536) h k (s.nat (O.tdSamplesPerMsg h)) s
  let size := 4 * s.nat (O.tdSamplesPerMsg h) + 38 + (if s.nat (O.vlanId p) = 0xFFFF then 0 else 4)
  r.1.foldl (fun s m =>
    let a := m.1.floor - s.txAdvance h
    if a + symbolTc (s.mu h) * airTc < s.airNow then notSent key 1 l (s.bump (O.upTxLate p) 1)
    else sendLaunch p ⟨s.tickOfAir a, 0, key, riders, l, false, 0, [frameOn s p (ruAddress s h p) m.2], size⟩ (s.bump (O.upTxSent p) 1)) r.2

/-- A symbol of stream port `k` launches: its U-plane messages, or the time-domain messages that its samples fill, are sent, and metered (09
R316, R317). `own` is the course whose output goes out, and `guests` are those of hosted carriers. -/
def launch (key h l k p bytes : Nat) (power : Int) (slot : Int) (own : Option (Nat × Course)) (guests : List (Nat × Course)) (s : State) :
    State :=
  let riders := guests.map fun e => e.1
  if s.timeDomain h then meter h power (launchSamples key h l k p riders (sendSamples h l k slot (own.map fun e => e.1) riders s))
  else
    let r := (uplaneMessages s h l k p (own.toList ++ guests)).foldl (fun (a : List FrameBody × State) u =>
      let (q, s) := takeSeq (seqKey h 0 0 (s.eaxc h k)) a.2
      (a.1 ++ [.uplane (s.eaxc h k) q l u], s)) ([], s)
    let frames := r.1.map (frameOn s p (ruAddress s h p))
    meter h power (sendLaunch p ⟨s.clock.ticks, 0, key, riders, l, false, 0, frames, bytes⟩ (r.2.bump (O.upTxSent p) frames.length))

/-- Whether a downlink course of a carrier sends a symbol of a slot. -/
def hostCarries (s : State) (h : Nat) (slot : Int) (l : Nat) : Bool :=
  s.pipe.courses.any fun e => e.1 / 2 ^ 32 == h + 1 && dirOf (e.1 % 2 ^ 32) == 0 && e.2.slotAir == slot && !e.2.cancelled
    && !e.2.journalled && e.2.state != .opened && decide (e.2.first ≤ l) && decide (l ≤ e.2.last)

/-- Whether a message of a symbol would leave its port after T_tx(l) + S_μ (09 R316). -/
def launchLate (s : State) (h p : Nat) (slot : Int) (l : Nat) : Bool :=
  let a := s.txInstant h slot l
  let limit := a + symbolTc (s.mu h) * airTc
  decide (limit < s.airNow) || decide (s.tickOfAir limit < max (s.port p).busy (frameBoundary s p s.clock.ticks))

/-- A symbol of stream port `k` meets its fate, and with it the elements of the hosted carriers that travel in its message: a message of the host
that has no output of its own carries theirs alone (06 R186). -/
def launchSymbol (key n h l k bytes : Nat) (power : Int) (c : Course) (s : State) : State :=
  let p := s.nat (O.activePort h)
  let ready := sinkReady s key n l k
  let f := launchFate s n h k (courseSymbol s n c l) ready
  let riders := if n = h then riderFates s h l k c.slotAir else []
  let going := (riders.filter fun e => e.2.2.1 && e.2.2.2 = .goes).map fun e => (e.1, e.2.1)
  let own := if n = h && ready && f = .goes then some (key, c) else none
  let guests := if n = h then going else if ready then [(key, c)] else []
  let goes := f = .goes || (f = .empty && !going.isEmpty)
  let late := goes && launchLate s h p c.slotAir l
  let s := match f with
    | .noCopy => detect 2 1 p (s.eaxc h k) (s.bump O.gateBlocks 1)
    | .ungranted => detect 1 0 h (s.eaxc h k) (s.bump O.gateBlocks 1)
    | _ => s
  let s := if late then s.bump (O.upTxLate p) 1 else if goes then launch key h l k p bytes power c.slotAir own guests s else s
  let s := (strikeFate key n l c ready (if late then .late else f) s).onCourse key fun c => c.gone l k
  rideAlong l k (if late then .late else if goes then .goes else f) riders s

/-- UPLANE_LAUNCH: at T_tx(l) the fronthaul sends the message of stream port `k` from the sink output of the current generation (06 R201, 09
R313, R316), unless the symbol is blanked, its window closed, its carrier muted, its ports down, its output not there, or it is too late; the
guard's gate judges it (17 R556), and its meter measures it. The elements of hosted carriers travel in the message of their host; where their
host has no course in the slot they take a message of its streams of their own (06 R186). -/
def execUplaneLaunch (chan course symbol k bytes : Nat) (power : Int) (s : State) : Host.Outcome State Fault Refusal :=
  if chan = 0 || 65 ≤ chan || 14 ≤ symbol || 64 ≤ k then .fault .noSuchUnit
  else
    let key := courseKey chan course
    let n := chan - 1
    let h := s.streamOf n
    match s.course key with
    | none => .next s
    | some c =>
      if dirOf course != 0 || c.cancelled || c.journalled || c.state == .opened || symbol < c.first || c.last < symbol
          || s.nat (O.dlPorts h) ≤ k || (n != h && hostCarries s h c.slotAir symbol) then .next s
      else .next (launchSymbol key n h symbol k bytes power c (advanceToAir s (s.txInstant h c.slotAir symbol)))

/-- UP_TX_LATE: a message of symbol l was not launched by T_tx(l) + S_μ, and the symbol counts as expired (09 R316; 06 R201). -/
def execUpTxLate (chan course symbol : Nat) (s : State) : Host.Outcome State Fault Refusal :=
  if chan = 0 || 65 ≤ chan || 14 ≤ symbol then .fault .noSuchUnit
  else
    let key := courseKey chan course
    let n := chan - 1
    match s.course key with
    | none => .next s
    | some c =>
      let h := s.streamOf n
      if dirOf course != 0 || c.cancelled || c.journalled || c.state == .opened || symbol < c.first || c.last < symbol then .next s
      else match (List.range (s.nat (O.dlPorts h))).find? fun k => !bitOf (Store.at 0 c.went symbol) k with
        | none => .next s
        | some k =>
          let s := advanceToAir s (s.txInstant h c.slotAir symbol + symbolTc (s.mu h) * airTc)
          let s := if s.nat (O.activePort h) < 24 then s.bump (O.upTxLate (s.nat (O.activePort h))) 1 else s
          .next ((notSent key 1 symbol s).onCourse key fun c => c.gone symbol k)

/-- C-plane messages of a direction of a carrier, or of its host where it is hosted (06 R186), leave the active port, if that is up: one for each
section and each eAxC, by its place among the carrier's (09 R306, R311). -/
def sendCplane (key n : Nat) (sections : List (Nat × CSection)) (bytes : Nat) (until' : Int) (s : State) : State :=
  let h := s.streamOf n
  let p := s.nat (O.activePort h)
  if p < 24 && s.linkUp p && s.obj (O.fhDomain h) == 0 then
    let r := sections.foldl (fun (a : List FrameBody × State) e =>
      let (q, s) := takeSeq (seqKey h 1 (dirOf (key % 2 ^ 32)) (s.eaxc h e.1)) a.2
      (a.1 ++ [.cplane (s.eaxc h e.1) q e.2], s)) ([], s)
    let frames := r.1.map (frameOn s p (ruAddress s h p))
    sendLaunch p ⟨s.clock.ticks, 0, key, [], 0, true, until', frames, bytes⟩ (r.2.bump (O.cpTxSent p) frames.length)
  else s

/-- The beamId of a record's section (09 R312): its weight-bank entry plus 1, and 0 for a record that names none (log entry 54). -/
def beamOf (s : State) (n : Nat) (c : Course) (r : Rec) : Nat :=
  let entry := if r.type == 0x11 then some (r.u 46 2) else if r.type == 0x14 then none else (recEntries c.snap r).head?
  match s.obj (O.beamIdMode n), entry with
  | 1, some e => e + 1
  | _, _ => 0

/-- The subcarrier spacing of a PRACH format in Hz (06 Table 6-5, byte 6; TS 38.211, TS 36.211; PRESUMED, log entry 54). -/
def prachSpacing (format mu : Nat) : Nat :=
  if format ≤ 2 then 1250 else if format = 3 then 5000 else if format ≤ 12 then 15000 * 2 ^ mu
  else if format ≤ 19 then 1250 else if format = 20 then 7500 else if format ≤ 25 then 3750 else 1250

/-- What the section of an occasion says of its format: where its first PRB, or for NPRACH its first subcarrier, lies from the centre of the
carrier, and the transform that spans the carrier at its spacing (log entry 54). -/
def prachGrid (s : State) (n : Nat) (r : Rec) : PrachGrid :=
  let f := r.u 6 1
  let spacing := prachSpacing f (s.mu n)
  let carrier := 15000 * 2 ^ s.mu n
  let first := if 24 ≤ f then r.u 10 2 * spacing else 12 * r.u 10 2 * carrier
  ⟨2 * ((first : Int) - (6 * s.prbs n * carrier : Nat)) / (spacing : Int), s.sampleKsps n * 1000 / spacing, spacing⟩

/-- The extensions of a record's section (09 Table 9-3): the parameters of modulation compression, in extension 5 where its symbols hold DMRS beside
its data, and extension 6 for resource allocation type 0 (log entry 54). -/
def extensionsOf (r : Rec) (comp symbols : Nat) : List (Nat × List Nat) :=
  (if comp = 4 then
    (let x := if r.isAlloc && masksMeet r.dmrs symbols then 5 else 4
     [(x, Config.modParams r.bytes x)]) else [])
  ++ (if r.isAlloc && bitOf r.flags 2 then [(6, [])] else [])

/-- The section of a record (09 Table 9-3): a PRACH occasion's of type 3, any other of type 1. -/
def sectionOf (s : State) (key : Nat) (c : Course) (r : Rec) : CSection :=
  let g := c.site key
  let h := s.streamOf g.n
  let comp := if g.dir == 0 then compDl s h (some r) else compUl s h
  let symbols := recSymbols (s.std g.n) (s.mu g.n) g.desc r
  { type := if r.type == 0x13 then 3 else 1
    exts := extensionsOf r comp.1 symbols, prbs := streamPrbs s g.n g.desc r, symbols := symbols
    beam := beamOf s g.n c r, comp := comp, prach := if r.type == 0x13 then some (prachGrid s g.n r) else none }

/-- The section of type 0 for symbols that a course will not send: all PRBs of the carrier (09 Table 9-3). -/
def idleSection (s : State) (n symbols : Nat) : CSection :=
  { type := 0, exts := [], prbs := runMask 0 (s.prbs n), symbols := symbols, beam := 0, comp := compDl s n none, prach := none }

/-- The places of every eAxC of a frequency-domain carrier (09 R307). -/
def eaxcPlaces (s : State) (n : Nat) : List Nat :=
  List.range (s.streamPorts n) ++ (List.range (s.nat (O.ulPorts n))).map fun k => s.nat (O.prachEaxcOffset n) + k

/-- DL_CPLANE_SEND: the section of a record at T_tx(l) − CP_ADV_DL, with l its first symbol, from the bound generation (09 R313). Record 0
stands for the type 0 sections of the symbols that will not be sent under 02 R72 or 01 R52, at the first of them (R311). -/
def execDlCplaneSend (chan course rec bytes : Nat) (s : State) : Host.Outcome State Fault Refusal :=
  if chan = 0 || 65 ≤ chan then .fault .noSuchUnit
  else
    let key := courseKey chan course
    let n := chan - 1
    match s.course key with
    | none => .next s
    | some c =>
      if dirOf course != 0 || c.cancelled || c.journalled || c.state == .opened then .next s
      else
        let at' := fun (l : Nat) => s.txInstant n c.slotAir l
        let send := fun (l : Nat) (places : List Nat) (x : CSection) => sendCplane key n (places.map fun k => (k, x)) bytes (at' l)
          (advanceToAir s (at' l - s.obj (O.cpAdvDl n) * airNs))
        if rec = 0 then
          let shut := ((List.range (c.last + 1)).drop c.first).filter fun l =>
            symbolShut s n (courseSymbol s n c l) = .gap || symbolShut s n (courseSymbol s n c l) = .closure
          match shut with
          | l :: _ => .next (send l (eaxcPlaces s n) (idleSection s n (shut.map (2 ^ ·)).sum))
          | [] => .next s
        else match recById c.recs rec with
          | some r => .next (send (firstSymbol s key c r) (List.range (s.nat (O.dlPorts n))) (sectionOf s key c r))
          | none => .next s

/-- UL_CPLANE_SEND: the sections of every record of a course from its binding point on (09 R314). -/
def execUlCplaneSend (chan course bytes : Nat) (s : State) : Host.Outcome State Fault Refusal :=
  if chan = 0 || 65 ≤ chan then .fault .noSuchUnit
  else
    let key := courseKey chan course
    let n := chan - 1
    match s.course key with
    | none => .next s
    | some c =>
      if dirOf course != 1 || c.cancelled || c.journalled || c.state == .opened then .next s
      else
        let s := advanceToAir s (c.slotAir - s.obj (O.ulBindLead n) * airNs)
        .next (sendCplane key n (c.recs.flatMap fun r => (List.range (s.nat (O.ulPorts n))).map fun k =>
          ((if r.type == 0x13 then s.nat (O.prachEaxcOffset n) else 0) + k, sectionOf s key c r)) bytes c.slotAir s)

/-! ## Uplink messages (09 R306, R307, R314, R315, R317, R318) -/

/-- A message counts as malformed and is discarded. -/
def malformed (p : Nat) (s : State) : State := s.bump (O.rxMalformed p) 1

/-- The carrier that a message with an eAxC on a port belongs to (09 R307). -/
def carrierOf (s : State) (p eaxc : Nat) : Option Nat :=
  (List.range 64).find? fun n => s.holds (O.carrierEnable n) && (s.portsOf n).contains p && (s.eaxcs n).contains eaxc

/-- A received sequence is judged (09 R306): a gap counts, and the message is used. -/
def judgeSeq (p n : Nat) (m : IqMsg) (s : State) : State :=
  let k := n * 2 ^ 16 + m.eaxc
  let s := match Store.find s.fh.rxSeq k with
    | some e => if e = m.seq % 256 then s else s.bump (O.rxSeqErrors p) 1
    | none => s
  { s with fh := { s.fh with rxSeq := Store.put s.fh.rxSeq k ((m.seq + 1) % 256) } }

/-- The stream port that an eAxC of a carrier names, those of PRACH from 64 on (09 R307). -/
def portOfEaxc (s : State) (n eaxc : Nat) : Nat :=
  let k := (eaxc + 2 ^ 16 - s.nat (O.eaxcBase n)) % 2 ^ 16
  if k < s.streamPorts n then k else 64 + (k + 2 ^ 16 - s.nat (O.prachEaxcOffset n)) % 2 ^ 16

/-- The instant that a receive window counts from: the end of the message's symbol, or the last sample of a time-domain message at the wire rate
of its port's chain (09 R314, R318). -/
def windowBase (s : State) (n : Nat) (m : IqMsg) : Int :=
  if s.obj (O.fhDomain n) == 1 then
    s.airOfCarrier n (linearOf m.firstAts)
      + ((m.samples - 1 : Nat) : Int) * 1000000 * airNs / s.obj (O.dfeWireKsps (s.chainOf n (portOfEaxc s n m.eaxc)))
  else
    let slot := s.airOfCarrier n (linearOf m.slotAts)
    slot + s.symbolStart n (s.slotInSubframe n slot) (m.symbol + 1)

/-- The uplink course of a carrier whose slot a message names. -/
def ulCourseOf (s : State) (n ats : Nat) : Option Nat :=
  (s.pipe.courses.find? fun e => e.1 / 2 ^ 32 == n + 1 && dirOf (e.1 % 2 ^ 32) == 1 && e.2.ats == ats && !e.2.journalled
    && !e.2.cancelled).map (·.1)

/-- Elements put into a list from a place on, those before it 0 where nothing has arrived. -/
def putFrom (l : List (Int × Int)) (at' : Nat) (x : List (Int × Int)) : List (Int × Int) :=
  (List.range at').map (fun i => l.getD i (0, 0)) ++ x ++ l.drop (at' + x.length)

/-- The elements of a message (09 R312): those of block floating point with the exponent of their PRB. -/
def elementsOf (m : IqMsg) : List (Int × Int) :=
  m.iq.mapIdx fun i x => (clampInt (-32768) 32767 (x.1 * 2 ^ m.exps.getD (i / 12) 0), clampInt (-32768) 32767 (x.2 * 2 ^ m.exps.getD (i / 12) 0))

/-- The elements of a symbol and port of a course, as they arrive: the PRBs that are whole, or on a PRACH port the elements from the first on. -/
def Course.place (c : Course) (l port at' : Nat) (x : List (Int × Int)) : Course :=
  let k := l * 128 + port
  let had := Store.at 0 c.got k
  let has := if 64 ≤ port then (if at' ≤ had then max had (at' + x.length) else had)
    else Nat.lor had (runMask (ceilDiv at' 12) ((at' + x.length) / 12 - ceilDiv at' 12))
  { c with rx := Store.put c.rx k (putFrom (Store.at [] c.rx k) at' x), got := Store.put c.got k has }

/-- A sample of a symbol and port of a time-domain course. -/
def Course.placeSample (c : Course) (l port at' : Nat) (x : Int × Int) : Course :=
  let k := l * 128 + port
  { c with rx := Store.put c.rx k (putFrom (Store.at [] c.rx k) at' [x]), got := Store.put c.got k (Store.at 0 c.got k + 1) }

/-- Whether every announced section of a symbol of a course has come (09 R315): on each port the PRBs of its records, and the sequence of each
PRACH occasion, whose repetitions follow on each other symbol by symbol (log entry 54); or the samples of the symbol. -/
def symbolWhole (s : State) (key : Nat) (c : Course) (l : Nat) : Bool :=
  let g := c.site key
  (List.range (s.nat (O.ulPorts g.n))).all fun q =>
    let got := fun (port : Nat) => Store.at 0 c.got (l * 128 + port)
    if s.timeDomain g.n then decide (s.transform g.n ≤ got q)
    else c.recs.all fun r =>
      if r.type == 0x13 then
        let shape := Config.prachShape r.bytes
        !(decide (r.u 8 1 ≤ l) && decide (l < r.u 8 1 + shape.2)) || decide (shape.1 ≤ got (64 + q))
      else
        let need := recPrbs (s.std g.n) (s.mu g.n) (s.prbs g.n) g.desc r
        !bitOf (recSymbols (s.std g.n) (s.mu g.n) g.desc r) l || Nat.land need (got q) == need

/-- A symbol of a course has arrived, unless it had been given up. -/
def Course.arrived (c : Course) (l : Nat) : Course := { c with sent := if bitOf c.unsent l then c.sent else setBit c.sent l true }

/-- The symbols of a course that are whole become tokens, among some. -/
def takeWhole (key : Nat) (symbols : List Nat) (s : State) : State :=
  match s.course key with
  | none => s
  | some c => s.onCourse key fun _ => (symbols.filter (symbolWhole s key c)).foldl Course.arrived c

/-- A message on time brings the elements of a symbol to its course and to the hosted carriers whose elements travel in it (06 R186), each of
which finds its own from the subcarrier on at which it lies (log entry 51); a complete symbol becomes a token of each. -/
def symbolIn (n : Nat) (m : IqMsg) (s : State) : State :=
  let port := portOfEaxc s n m.eaxc
  let iq := elementsOf m
  let own := (ulCourseOf s n m.slotAts).toList.map fun key => (key, m.first, iq)
  let riders := (ridersOf s n (s.airOfCarrier n (linearOf m.slotAts)) 1 m.symbol).map fun e =>
    let tone := Config.guestTone n (e.1 / 2 ^ 32 - 1)
    (e.1, m.first - tone, iq.drop (tone - m.first))
  let t := (own ++ riders).foldl (fun s e => takeWhole e.1 [m.symbol] (s.onCourse e.1 fun c => c.place m.symbol port e.2.1 e.2.2)) s
  if (own ++ riders).any fun e => ((t.course e.1).map (·.sent)) != ((s.course e.1).map (·.sent)) then resettle t else t

/-- The uplink courses of the carriers that a carrier hosts (06 R186). -/
def guestCourses (s : State) (h : Nat) : List (Nat × Course) :=
  s.pipe.courses.filter fun e =>
    let n := e.1 / 2 ^ 32 - 1
    s.hosted n && s.holds (O.carrierEnable n) && s.nat (O.hostCarrier n) == h && dirOf (e.1 % 2 ^ 32) == 1
      && !e.2.cancelled && !e.2.journalled && e.2.state != .opened

/-- Where the samples of a hosted carrier's symbol wait until they are whole. -/
def guestPort (port : Nat) : Nat := port + 4096

/-- A hosted carrier's symbol whose samples are whole yields its elements, those of its subcarriers in its host's transform (06 R186, R188). -/
def guestSymbol (s : State) (h port l : Nat) (key : Nat) (c : Course) : Course :=
  let k := l * 128 + guestPort port
  if Store.at 0 c.got k < s.transform h then c
  else
    let e := elementsFrom (s.std h == 0) (s.transform h) (12 * s.prbs h) (Config.guestTone h (key / 2 ^ 32 - 1)) 12 (Store.at [] c.rx k)
    ({ c with rx := Store.drop c.rx k, got := Store.drop c.got k } : Course).place l port 0 e

/-- The samples that left a chain join the symbols of a carrier's courses, and of those of the carriers that it hosts, whose useful part holds
their labels, and those that are whole become tokens (06 R186, R188; 09 R318; 10 R340). -/
def joinSamples (n port : Nat) (out : List FilterSample) (s : State) : State :=
  let period : Rat := (1000000 * airNs : Rat) / ((max 1 (s.sampleKsps n) : Nat) : Rat)
  let index := fun (a : Rat) => -((-((a - (s.frameOffset n : Rat)) / period)).floor)
  let own := s.pipe.courses.filter fun e => e.1 / 2 ^ 32 == n + 1 && dirOf (e.1 % 2 ^ 32) == 1 && !e.2.journalled && !e.2.cancelled
  (own ++ guestCourses s n).foldl (fun s e =>
    let guest := e.1 / 2 ^ 32 != n + 1
    let symbols := (List.range 14).filter fun l => decide (e.2.first ≤ l) && decide (l ≤ e.2.last)
    takeWhole e.1 symbols (symbols.foldl (fun s l =>
      let start := (symbolGrid s n e.2.slotAir l).1
      let mine := out.filterMap fun x =>
        let i := index x.label - start
        if 0 ≤ i && i < s.transform n then some (i.toNat, (x.re, x.im)) else none
      s.onCourse e.1 fun c =>
        let c := mine.foldl (fun c x => c.placeSample l (if guest then guestPort port else port) x.1 x.2) c
        if guest then guestSymbol s n port l e.1 c else c) s)) s

/-- A time-domain message on time goes through the chain of its port (09 R318; 10 R331). -/
def timeSamples (n : Nat) (m : IqMsg) (s : State) : State :=
  let port := portOfEaxc s n m.eaxc
  let c := s.chainOf n port
  let s := feedReceive c (s.frameOffset n : Rat) (s.labelOf n m.firstAts) m.iq s
  let t := joinSamples n port (s.chain c).rxFilter.out s
  if t.pipe.courses.any fun e => (s.course e.1).map (·.sent) != some e.2.sent then resettle t else t

/-- The open captures of WATCH that a message belongs to: the samples of an energy capture, or the sections of the occasion of a PRACH
capture, whose carrier is OFF (18 R593). -/
def watchTakers (s : State) (p eaxc : Nat) : List Nat :=
  s.power.watch.opened.filter fun k =>
    if s.obj (O.wcKind k) == 1 then s.nat (O.wcPort k) == p && s.nat (O.wcEaxc k) == eaxc
    else let n := s.nat (O.wcCarrier k); decide (n < 64) && s.nat (O.fhPort n) == p && (s.eaxcs n).contains eaxc

/-- A capture takes a message: its samples go through its chain, or its elements into its pallet. -/
def watchTake (m : IqMsg) (s : State) (k : Nat) : State :=
  if s.obj (O.wcKind k) == 1 then feedReceive (s.nat (O.wcChain k)) 0 (airLabel s m.firstAts) m.iq s
  else
    let at' := k * 65536 + m.symbol * 128 + portOfEaxc s (s.nat (O.wcCarrier k)) m.eaxc
    { s with power := { s.power with watch := { s.power.watch with
        rx := Store.put s.power.watch.rx at' (putFrom (Store.at [] s.power.watch.rx at') m.first (elementsOf m)) } } }

/-- UPLANE_MESSAGE_RX. -/
def execUplaneMessageRx (dt p : Nat) (m : IqMsg) (s : State) : Host.Outcome State Fault Refusal :=
  if 24 ≤ p then .fault .noSuchUnit
  else
    let s := advance s dt
    if !s.linkUp p then .next s
    else if !m.eBit || m.subseq != 0 then .next (malformed p s)
    else if listens s && s.nat O.nlSrcPort == p && s.nat O.nlSrcEaxc == m.eaxc then .next (listenSamples m.firstAts m.iq s)
    else match carrierOf s p m.eaxc with
      | none =>
        let takers := watchTakers s p m.eaxc
        .next (takers.foldl (watchTake m) (s.bump (if takers.isEmpty then O.rxUnknownEaxc p else O.upRxOnTime p) 1))
      | some n =>
        let s := judgeSeq p n m s
        if s.obj (O.fhDomain n) == 1 && m.samples != s.nat (O.tdSamplesPerMsg n) then .next (malformed p s)
        else
          let e := windowBase s n m
          if s.airNow < e + s.obj (O.ulWinOpen n) * airNs then .next (s.bump (O.upRxEarly p) 1)
          else if e + s.obj (O.ulWinClose n) * airNs < s.airNow then .next (s.bump (O.upRxLate p) 1)
          else
            let s := s.bump (O.upRxOnTime p) 1
            .next (if 14 ≤ m.symbol then s else if s.timeDomain n then timeSamples n m s else symbolIn n m s)

/-- Whether no port of a carrier, or of its host, is up (09 R326). -/
def portsDown (s : State) (n : Nat) : Bool := (s.portsOf (s.streamOf n)).all fun p => !s.linkUp p

/-- A symbol of a frequency-domain course without the sections that have not come in full (09 R315): the PRBs that no whole section has, and a
PRACH sequence that is not whole, are zero. -/
def dropPartial (s : State) (key l : Nat) (c : Course) : Course :=
  let g := c.site key
  if s.timeDomain g.n then c
  else
    let need := fun (r : Rec) => recPrbs (s.std g.n) (s.mu g.n) (s.prbs g.n) g.desc r
    let recs := c.recs.filter fun r => r.type != 0x13 && bitOf (recSymbols (s.std g.n) (s.mu g.n) g.desc r) l
    let occasions := c.recs.filter fun r => r.type == 0x13 && decide (r.u 8 1 ≤ l) && decide (l < r.u 8 1 + (Config.prachShape r.bytes).2)
    (List.range (s.nat (O.ulPorts g.n))).foldl (fun c q =>
      let got := Store.at 0 c.got (l * 128 + q)
      let (have', lack) := recs.partition fun r => Nat.land (need r) got == need r
      let keep := have'.foldl (fun m r => Nat.lor m (need r)) 0
      let gone := lack.foldl (fun m r => Nat.lor m (need r)) 0
      let at' := l * 128 + 64 + q
      let c := { c with rx := Store.put c.rx (l * 128 + q) ((Store.at [] c.rx (l * 128 + q)).mapIdx fun i x =>
        if bitOf gone (i / 12) && !bitOf keep (i / 12) then (0, 0) else x) }
      if occasions.any fun r => Store.at 0 c.got at' < (Config.prachShape r.bytes).1 then { c with rx := Store.drop c.rx at' } else c) c

/-- UL_WINDOW_CLOSE: at E(l) + UL_WIN_CLOSE what has not been received in full of a symbol is delivered as zero resource elements, and the work
of the course proceeds (09 R315); with no port up its records end UNIT_FAULTED (R326). -/
def execUlWindowClose (chan course symbol : Nat) (s : State) : Host.Outcome State Fault Refusal :=
  if chan = 0 || 65 ≤ chan || 14 ≤ symbol then .fault .noSuchUnit
  else
    let key := courseKey chan course
    let n := chan - 1
    match s.course key with
    | none => .next s
    | some c =>
      if dirOf course != 1 || c.cancelled || c.journalled || c.state == .opened then .next s
      else
        let e := c.slotAir + s.symbolStart n (s.slotInSubframe n c.slotAir) (symbol + 1)
        let s := advanceToAir s (e + s.obj (O.ulWinClose n) * airNs)
        if bitOf c.sent symbol then .next (resettle s)
        else
          let s := if portsDown s n then causeAt key 5 (symbolRecs s key c symbol) s else s
          .next (resettle (s.onCourse key fun c => { dropPartial s key symbol c with unsent := setBit c.unsent symbol true }))

/-! ## Frames and forwarding (09 R304, R305, R321 to R323; 01 R57, R62) -/

/-- The rules in force. -/
def fwdRules (s : State) : List Bytes :=
  let b := s.blob O.fwdRules
  (List.range (b.length / 24)).map fun i => (b.drop (24 * i)).take 24

/-- Whether a rule matches a frame that arrived on a port (09 Table 9-6). -/
def ruleMatches (p : Nat) (f : Frame) (r : Bytes) : Bool :=
  let flags := bytesAt r 1 1
  let field := fun (a n : Nat) => wireNat ((r.drop a).take n)
  (bytesAt r 0 1 == 0xFF || bytesAt r 0 1 == p)
  && (!bitOf flags 0 || Nat.land f.dst (field 10 6) == Nat.land (field 4 6) (field 10 6))
  && (!bitOf flags 1 || f.vlan == some (bytesAt r 2 2))
  && (!bitOf flags 2 || f.etherType == bytesAt r 16 2)
  && (!bitOf flags 3 || f.vlan.isNone)

/-- The residence time of an event message that leaves port `p` at a tick and came in at port `q` now, in 2⁻¹⁶ ns: the egress stamp less the
ingress stamp, in site time (01 R56, R57). -/
def residenceOf (s : State) (q p start : Nat) : Int :=
  freeDiv 20 ((start - s.clock.ticks : Nat) * incrOf s.steered * 1000 + ((ptpCorrection s p).1 + (ptpCorrection s q).2) * nsUnit)
    (1000 * 2 ^ 32)

/-- A frame enters the forwarding queue of a port, if it fits, and leaves under 09 R316 (R323); a PTP event message leaves at the next frame
boundary, and takes its residence time along (01 R57). -/
def forwardTo (ingress : Nat) (f : Frame) (s : State) (p : Nat) : State :=
  let held := ((queued s p).map (·.bytes)).sum
  if held + f.bytes ≤ s.nat (O.fwdQueueKib p) * 1024 then
    let s := sentFrames p 1 f.bytes (s.bump (O.fwdFrames p) 1)
    let d := portTicks s p f.bytes
    if f.ptpEvent && f.ptp.isSome then
      let start := frameBoundary s p s.clock.ticks
      let udp4 := f.ptp.any fun h => match h.via with
        | .udp4 _ => true
        | _ => false
      let udp6 := f.ptp.any fun h => match h.via with
        | .udp6 _ => true
        | _ => false
      let r : Residence := ⟨p, f.correction + residenceOf s ingress p start, udp4, udp6⟩
      enterQueue p 1 f.bytes (start + d) (s.onTime fun t => { t with residence := t.residence ++ [r] })
    else enterQueue p 4 f.bytes (s.clock.ticks + 1 + d) s
  else s.bump (O.fwdDropped ingress) 1

/-- Forwarding of a frame that the device does not consume (09 R321). -/
def forward (p : Nat) (f : Frame) (s : State) : State :=
  if s.obj (O.fwdEnable p) != 1 then s.bump (O.fwdDropped p) 1
  else match (fwdRules s).find? (ruleMatches p f) with
    | none => s.bump (O.fwdDropped p) 1
    | some r =>
      ((List.range 24).filter fun q => bitOf (bytesAt r 20 4) q && q != p && s.obj (O.fwdEnable q) == 1
        && s.obj (O.portLinkState q) == 1).foldl (forwardTo p f)
          (if f.ptp.isSome && f.ptpEvent then s.onTime fun t => { t with residence := [] } else s)

/-- FRAME_RX: a frame is counted, and consumed, discarded or forwarded; the row of its message gives what a consumed one does (log entry
31). -/
def execFrameRx (dt p : Nat) (f : Frame) (s : State) : Host.Outcome State Fault Refusal :=
  if 24 ≤ p then .fault .noSuchUnit
  else
    let s := advance s dt
    if !s.linkUp p then .next s
    else
      let s := if (s.port p).first then s else (capture (19 + p) false s.clock.count s).onPort p fun x => { x with first := true }
      let s := (s.bump (O.rxFrames p) 1).bump (O.rxBytes p) f.bytes
      let role := s.obj (O.portPtpRole p)
      if !f.fcsOk then .next (s.bump (O.rxFcsErrors p) 1)
      else if f.macControl then .next (malformed p s)
      else if f.dst == wireNat (s.blob (O.portMac p)) && f.etherType == 0xAEFE then
        .next (if f.ecpriType == 0 || f.ecpriType == 5 || (f.ecpriType == 6 && !f.request) then s else malformed p s)
      else if f.dst == 0x0180C200000E then .next s
      else if s.obj O.ptpRole != 0 && (role == 1 || role == 2) && f.ptp.any (ptpHeard s) then .next s
      else .next (forward p f s)

/-- Whether the fields of a rule are those of 09 Table 9-6. -/
def ruleFields (r : Bytes) : Bool :=
  (bytesAt r 0 1 < 24 || bytesAt r 0 1 == 0xFF) && bytesAt r 1 1 < 16 && bytesAt r 2 2 < 4095 && bytesAt r 18 2 == 0
  && bytesAt r 20 4 < 2 ^ 24

/-- A write of FWD_RULES (09 R322), its refusals in the order of 05 R168. -/
def actFwdRules (data : Bytes) : Action := fun s =>
  let rules := (List.range (data.length / 24)).map fun i => (data.drop (24 * i)).take 24
  if data.length % 24 != 0 || decide (1536 < data.length) then (.typeLength, s)
  else if !rules.all ruleFields then (.valueRange, s)
  else if rules.any fun r => bytesAt r 0 1 < 24 && bitOf (bytesAt r 20 4) (bytesAt r 0 1) then (.forwardingLoop, s)
  else (.ok, s.changeBlob O.fwdRules data)

/-- WRITE_FWD_RULES. -/
def execWriteFwdRules (x : Xfer) (data : Bytes) (s : State) : Host.Outcome State Fault Refusal :=
  .next (hostWrite x O.fwdRules (.bytes data) (actFwdRules data) s)

/-! ## One-way delay and remote reset (09 R319, R320) -/

/-- The state with the fronthaul changed. -/
def State.onFh (s : State) (f : Fronthaul → Fronthaul) : State := { s with fh := f s.fh }

/-- Frames of a measurement or a reset leave a port that is up: minimum frames of 64 bytes. -/
def sendSmall (p dst : Nat) (bodies : List FrameBody) (s : State) : State :=
  if s.linkUp p then
    sendOwn p (bodies.map (frameOn s p dst)) (64 * bodies.length) s
  else s

/-- Site time at the bump reference plane of a port as a frame leaves it, in picoseconds (09 R319; 01 Table 1-7), with the port's ASYMMETRY
applied as PTP applies it (log entry 54). The frame leaves when the port's messages leave room for it (R316). -/
def egressStamp (s : State) (p bytes : Nat) : Int :=
  let t := sendOwn p [] bytes s
  let start := (((t.port p).queue.reverse.find? fun f => f.cls == 3).map fun f => f.ends - portTicks s p bytes).getD s.clock.ticks
  psOf (s.clock.count + (start - s.clock.ticks) * incrOf s.steered) + (ptpCorrection s p).1 - s.obj (O.asymmetry p)

/-- As a frame arrives. -/
def ingressStamp (s : State) (p : Nat) : Int := psOf s.clock.count - (ptpCorrection s p).2 - s.obj (O.asymmetry p)

/-- A measurement starts on a port toward an address: a Request with its t1, or a Request with Follow_Up, whose t1 the Follow_Up brings (09
R319; log entry 54). -/
def startOwd (p dst : Nat) (follow : Bool) (s : State) : State :=
  let t1 := egressStamp s p 64
  let id := s.fh.owdId
  let s := sendSmall p dst (if follow then [.delay .requestFollowUp id 0 0, .delay .followUp id t1 0] else [.delay .request id t1 0]) s
  let now := s.clock.ticks
  s.onFh fun f => { f with owd := some ⟨p, f.owdId, t1, now⟩, owdId := (f.owdId + 1) % 256 }

/-- A write of OWD_START. -/
def actOwdStart (v : Int) : Action := fun s =>
  if s.fh.owd.isSome then (.measurementBusy, s) else (.ok, startOwd (s.nat O.owdPort) (wireNat (s.blob O.owdDest)) (v == 2) s)

/-- OWD_START_REQUEST. -/
def execOwdStartRequest (x : Xfer) (s : State) : Host.Outcome State Fault Refusal :=
  .next (hostWrite x O.owdStart (.num 1) (actOwdStart 1) s)

/-- OWD_START_FOLLOW_UP. -/
def execOwdStartFollowUp (x : Xfer) (s : State) : Host.Outcome State Fault Refusal :=
  .next (hostWrite x O.owdStart (.num 2) (actOwdStart 2) s)

/-- OWD_RESULT (09 Table 9-10). -/
def owdResult (delay status id : Nat) : Bytes := leBytes 8 delay ++ leBytes 1 status ++ leBytes 1 id ++ leBytes 6 0

/-- ONE_WAY_DELAY_MSG_RX: requests are answered while OWD_RESPONDER is 1, a Remote Request by a measurement of the device's own where none is
open (log entry 31), and a Response completes the open measurement: t2 less its compensation, less t1, as eCPRI 2.0 defines the delay
(log entry 31). -/
def execOneWayDelayMsgRx (dt p src id : Nat) (action : OwdAction) (timePs compPs : Int) (s : State) : Host.Outcome State Fault Refusal :=
  if 24 ≤ p then .fault .noSuchUnit
  else
    let s := advance s dt
    let answers := s.obj O.owdResponder == 1
    if !s.linkUp p then .next s
    else match action with
      | .request => .next (if answers then sendSmall p src [.delay .response id (ingressStamp s p) 0] s else s)
      | .requestFollowUp => .next (if answers then s.onFh fun f => { f with owdWait := f.owdWait ++ [((p, id), ingressStamp s p)] } else s)
      | .followUp =>
        let at' := (s.fh.owdWait.find? fun w => w.1 == (p, id)).map (·.2)
        if answers && at'.isSome then
          .next (sendSmall p src [.delay .response id (at'.getD 0) 0] (s.onFh fun f => { f with owdWait := f.owdWait.filter (fun w => w.1 != (p, id)) }))
        else .next s
      | .remoteRequest => .next (if answers && s.fh.owd.isNone then startOwd p src false s else s)
      | .remoteRequestFollowUp => .next (if answers && s.fh.owd.isNone then startOwd p src true s else s)
      | .response =>
        match s.fh.owd with
        | some o =>
          if o.port == p && o.id == id then
            .next ((s.setBlob O.owdResult (owdResult (codeOf 64 (timePs - compPs - o.t1)) 0 id)).onFh fun f => { f with owd := none })
          else .next s
        | none => .next s

/-- OWD_TIMEOUT: 10 ms without a Response; the delay that the result then shows is open (log entry 12). -/
def execOwdTimeout (s : State) : Host.Outcome State Fault Refusal :=
  match s.fh.owd with
  | none => .next s
  | some o =>
    let (w, s) := (advanceTicks s (o.at' + 1562500)).free
    .next ((s.setBlob O.owdResult (owdResult w.toNat 1 o.id)).onFh fun f => { f with owd := none })

/-- A write of 1 to RESET_SEND (09 R320). -/
def actResetSend : Action := fun s =>
  let s := sendSmall (s.nat O.resetPort) (wireNat (s.blob O.resetDest)) [.reset ((s.fh.resetId + 1) % 2 ^ 16) 1] (s.setObj O.resetStatus 1)
  let now := s.clock.ticks
  (.ok, s.onFh fun f => { f with resetId := (f.resetId + 1) % 2 ^ 16, resetAt := some now })

/-- REMOTE_RESET_SEND. -/
def execRemoteResetSend (x : Xfer) (s : State) : Host.Outcome State Fault Refusal :=
  .next (hostWrite x O.resetSend (.num 1) actResetSend s)

/-- REMOTE_RESET_RESPONSE_RX: a response with the Reset ID sent last, within 100 ms, makes RESET_STATUS read ACKED. -/
def execRemoteResetResponseRx (dt p id : Nat) (s : State) : Host.Outcome State Fault Refusal :=
  if 24 ≤ p then .fault .noSuchUnit
  else
    let s := advance s dt
    match s.fh.resetAt with
    | some t =>
      if s.linkUp p && id == s.fh.resetId && decide (s.clock.ticks ≤ t + 15625000) then
        .next ((s.setObj O.resetStatus 2).onFh fun f => { f with resetAt := none })
      else .next s
    | none => .next s

/-- REMOTE_RESET_TIMEOUT. -/
def execRemoteResetTimeout (s : State) : Host.Outcome State Fault Refusal :=
  match s.fh.resetAt with
  | none => .next s
  | some t => .next (((advanceTicks s (t + 15625000)).setObj O.resetStatus 3).onFh fun f => { f with resetAt := none })

/-! ## Failover (09 R301, R324 to R327) -/

/-- C-plane messages go out again on another port, to the radio unit's address there (09 R324, R325). -/
def resend (q : Nat) (l : Launch) (s : State) : State :=
  let dst := ruAddress s (s.streamOf (l.key / 2 ^ 32 - 1)) q
  let frames := l.frames.map fun f => frameOn s q dst f.body
  sendLaunch q { l with tick := s.clock.ticks, frames := frames } (s.bump (O.cpTxSent q) frames.length)

/-- What a port launched in the last 5 µs counts as not sent (09 R325): U-plane symbols leave the symbols sent, their records UNIT_FAULTED;
C-plane whose time is still ahead goes out again on another port, if there is one. -/
def loseLaunches (p : Nat) (to' : Option Nat) (s : State) : State :=
  let lost := (s.port p).recent.filter fun l => decide (s.clock.ticks ≤ l.tick + 782)
  let s := s.onPort p fun x => { x with recent := [] }
  lost.foldl (fun s l =>
    if l.cplane then
      match to' with
      | some q => if s.airNow < l.until' then resend q l s else s
      | none => s
    else (l.key :: l.riders).foldl (fun s k => notSent k 5 l.symbol s) s) s

/-- The carriers active on a port that may move to its pair: that port reads UP. -/
def movable (s : State) (p : Nat) : List Nat :=
  match s.pairOf p with
  | some q => if s.obj (O.portLinkState q) == 1 then
      (List.range 64).filter fun n => s.holds (O.carrierEnable n) && s.nat (O.activePort n) == p && (s.portsOf n).contains q
    else []
  | none => []

/-- FH_FAILOVER (09 Table 9-7): the carriers of a failed port continue on its pair. The time to the first message on the new port is open
within 1 µs (log entry 12). -/
def failover (p cause : Nat) (s : State) : State :=
  match s.pairOf p with
  | none => loseLaunches p none s
  | some q =>
    let moved := movable s p
    if moved.isEmpty then (if cause == 0 then loseLaunches p none s else s)
    else
      let s := loseLaunches p (some q) s
      let s := moved.foldl (fun s n => s.setObj (O.activePort n) (q : Nat)) s
      let (w, s) := s.free
      raise s (O.failovers p) p (leBytes 1 p ++ leBytes 1 q ++ leBytes 1 cause ++ leBytes 1 moved.length
        ++ leBytes 4 (w.toNat % 1001)) 0

/-- The carriers that are active on the failed pair of a port that reads UP and not DEGRADED fail over to it (09 R325, R326). -/
def takeOver (p : Nat) (s : State) : State :=
  match s.pairOf p with
  | none => s
  | some q =>
    if (movable s q).isEmpty then s
    else if s.obj (O.portLinkState q) == 0 then failover q 0 s
    else if s.obj (O.portLinkState q) == 2 && s.obj (O.failoverOnDegrade q) == 1 then failover q 1 s else s

/-- An accepted carrier is bound to its primary, and fails over at once where that is down or degraded and its pair is not (09 R324, R325). -/
def attachCarrier (n : Nat) (s : State) : State :=
  let s := bindCarrier n s
  match s.pairOf (s.nat (O.fhPort n)) with
  | some q => takeOver q s
  | none => s

/-- PORT_LINK_UP: alignment has held for 10 ms (09 R301), and the carriers of a pair that is down continue on the port (R325, R326). -/
def execPortLinkUp (p : Nat) (s : State) : Host.Outcome State Fault Refusal :=
  if 24 ≤ p then .fault .noSuchUnit
  else match (s.port p).alignAt with
    | none => .next s
    | some t =>
      if s.holds (O.portEnable p) && s.obj (O.portLinkState p) == 0 && s.runs (portDomain p) && lanesGood s p then
        let s := advanceTicks s (t + 1562500)
        let now := s.clock.ticks
        let s := (s.setObj (O.portLinkState p) 1).onPort p fun _ => { PortIo.down with alignAt := some t, goodAt := some now }
        .next (takeOver p ((portLanes s p).foldl (fun s l => s.onTime fun m => { m with laneLock := Store.put m.laneLock l t }) s))
      else .next s

/-- A port reads DOWN: FH_LINK_DOWN, the SyncE outputs of its lanes are driven low, carriers fail over, and it retrains. -/
def portDown (p : Nat) (s : State) : State :=
  let s := raise (s.setObj (O.portLinkState p) 0) (O.linkDowns p) p [] 0
  let recent := (s.port p).recent
  let s := (bringUp p (linkLost p s)).onPort p fun x => { x with recent := recent }
  failover p 0 s

/-- FH_LINK_DOWN (09 R301). A port whose link is not up yet starts its alignment again. -/
def execFhLinkDown (dt p : Nat) (cause : LinkCause) (s : State) : Host.Outcome State Fault Refusal :=
  if 24 ≤ p then .fault .noSuchUnit
  else
    let s := advance s dt
    match cause with
    | .signal | .cdrLock | .alignment | .remoteFault =>
      if s.linkUp p then .next (portDown p s)
      else if s.holds (O.portEnable p) then .next (bringUp p s) else .next s

/-- FEC_BER_WINDOW: a 1 ms window of pre-FEC error estimation ends, its ratio in 10⁻¹² (09 R327). -/
def execFecBerWindow (p ber corrected uncorrectable : Nat) (s : State) : Host.Outcome State Fault Refusal :=
  if 24 ≤ p then .fault .noSuchUnit
  else if !s.linkUp p then .next s
  else
    let limit := s.nat (O.fecDegradeBer p) * 1000
    let s := s.setObj (O.preFecBer p) (ber % 2 ^ 32 : Nat)
    let s := (s.bump (O.fecCorrected p) corrected).bump (O.fecUncorrectable p) uncorrectable
    let s := s.onPort p fun x => { x with above := if limit < ber then x.above + 1 else 0, below := if 2 * ber < limit then x.below + 1 else 0 }
    let x := s.port p
    let now := s.clock.ticks
    if s.obj (O.portLinkState p) == 1 && 3 ≤ x.above then
      let s := (s.setObj (O.portLinkState p) 2).onPort p fun x => { x with goodAt := none, below := 0 }
      .next (if s.obj (O.failoverOnDegrade p) == 1 then failover p 1 s else s)
    else if s.obj (O.portLinkState p) == 2 && 1000 ≤ x.below then
      .next (takeOver p ((s.setObj (O.portLinkState p) 1).onPort p fun x => { x with goodAt := some now, above := 0 }))
    else .next s

/-- Whether no message of a carrier is in flight, or due within 2 µs (09 R326): on its active port none is leaving, and no symbol and no C-plane
section of its courses, or of those of the carriers that it hosts, has its instant there. -/
def quietNow (s : State) (n : Nat) : Bool :=
  let p := s.nat (O.activePort n)
  let soon := fun (a : Int) => decide (s.airNow ≤ a) && decide (a < s.airNow + 2000 * airNs)
  !((s.port p).recent.any fun l => s.streamOf (l.key / 2 ^ 32 - 1) == n && l.key != 0 && decide (s.clock.ticks < l.ends))
    && !(s.pipe.courses.any fun e => s.streamOf (e.1 / 2 ^ 32 - 1) == n && !e.2.cancelled && !e.2.journalled &&
        (launchInstants s e.1 e.2).any soon)

/-- FAILOVER_RETURN: with FAILOVER_MODE 1 a carrier returns to its primary once that has read UP and not DEGRADED for 10 s, at an instant at which
none of its messages is in flight or due within 2 µs (09 R326). -/
def execFailoverReturn (n : Nat) (s : State) : Host.Outcome State Fault Refusal :=
  if 64 ≤ n then .fault .noSuchUnit
  else
    let p := s.nat (O.fhPort n)
    match (s.port p).goodAt with
    | some t =>
      if s.holds (O.carrierEnable n) && p < 24 && s.nat (O.activePort n) != p && s.obj (O.failoverMode p) == 1
          && s.obj (O.portLinkState p) == 1 then
        let t := advanceTicks s (t + 1562500000)
        if quietNow t n then .next (t.setObj (O.activePort n) (p : Nat)) else .next s
      else .next s
    | none => .next s

end Sys2Proof.Machine
end

