-- ==== Sys2Proof/Machine/Carrier.lean ====
section
/-! DEFINITION. Carriers and UE contexts (06 R182 to R186, R205, R217 to R219; 03 R106, R114; 17 R555): the check of CARRIER_ENABLE, what a
carrier holds, its shut-down, and the writes of UE contexts. -/

namespace Sys2Proof.Machine

/-! ## The check of CARRIER_ENABLE (06 R184) -/

/-- The stream units of a carrier: one for each port and started 100 MHz; a hosted NB-IoT carrier takes none (00 R3, R4; 06 R186). -/
def State.unitsOf (s : State) (n : Nat) : Nat :=
  if s.hosted n then 0 else s.streamPorts n * ceilDiv (s.nat (O.bandwidth n)) 100000

/-- PALLETS_RESERVED (06 R185). -/
def State.reserveOf (s : State) (n : Nat) : Nat := 2 * s.unitsOf n + 8

/-- Step 1. -/
def bandTest (n : Nat) (s : State) : Reason :=
  if (s.prbRow n).isEmpty then .badNumerology
  else if !((s.prbRow n).any fun e => e.1 == s.nat (O.bandwidth n)) then .badBandwidth
  else if s.std n != 1 && decide (503 < s.nat (O.pci n)) then .valueRange
  else .ok

/-- Step 2. -/
def mixTest (n : Nat) (s : State) : Reason :=
  let h := s.nat (O.hostCarrier n)
  let hostBad := decide (64 ≤ h) || s.std h != 0 || !s.isOn (O.carrierEnable h)
    || s.obj (O.dlPorts n) != s.obj (O.dlPorts h) || s.obj (O.ulPorts n) != s.obj (O.ulPorts h)
  if s.hosted n && hostBad then .standardMix
  else if s.std n == 0 && s.obj (O.ltemMode n) != 0 && s.nat (O.bandwidth n) == 1400 then .standardMix
  else if s.std n != 2 && h != 0xFF then .standardMix
  else .ok

/-- Whether every other carrier reads OFF. -/
def State.alone (s : State) (n : Nat) : Bool := (List.range 64).all fun m => m == n || s.isOff (O.carrierEnable m)

/-- Steps 7: the DFE chains of a time-domain carrier (10 R332), and its transmit windows (10 R350). -/
def chainTest (n : Nat) (s : State) : Reason :=
  firstReason [if s.timeDomain n then dfeCheck n s else .ok, windowCheck n s]

/-- The pallets that carriers other than `n` hold. -/
def State.palletsHeld (s : State) (n : Nat) : Nat :=
  sumOver 64 fun m => if m != n && s.holds (O.carrierEnable m) then s.nat (O.palletsReserved m) else 0

/-- The estimate of the carrier's largest uplink graph from its last symbol, its samples arriving UL_WIN_CLOSE after the symbol's end (03
R114, 09 R308): a PUSCH on every PRB in 14 symbols with one DMRS symbol and the most layers, at 256QAM (QPSK for NB-IoT), that combines,
with UCI of the most bits beside it, and a PUCCH; each path runs through the operations of 06 Table 6-8 up to out. The spec does not say
which graph is the largest (log entry 32). -/
def State.ulNeed (s : State) (n : Nat) : Int :=
  let np := s.prbs n
  let nr := s.nat (O.ulPorts n)
  let l := min 4 (min (s.nat (O.muLayersUl n)) nr)
  let qm := if s.std n == 2 then 2 else 8
  let elements := 24 + refElements l
  let tbs := if s.std n == 1 then nrLargestTbs (min 156 elements * np) qm l else Config.lteLargestUlTbs (s.std n) np l
  let bits := elements * np * qm * l
  let sg := segments (s.std n) tbs 948
  let cap := if s.std n == 1 then s.nat (O.decIterDefault n) else s.nat O.turboIterDefault
  let uci := if s.std n == 1 then polarDecEst 2 1024 (s.nat O.polarList) else s.tileEst 0x26 np 14 1
  let chest := chestEst nr l np 1
  let pusch := detEst nr l np (s.nat O.detPrbGroup) + s.tileEst 0x24 np 1 l
    + max (decEst sg sg.zc (blockBits bits (qm * l) sg.c (sg.c - 1)) cap sg.ncb true + s.tileEst 0x25 np 14 l) uci
  let pucch := chestEst nr 1 1 1 + uci
  s.obj (O.ulWinClose n) * airNs + (if s.timeDomain n then xeEst (s.transform n) else 0)
    + max (chest + pusch) pucch + s.tileEst 0x27 np 14 1

/-- Step 9 (03 R114). -/
def leadTest (n : Nat) (s : State) : Reason :=
  if s.slotSpan n (s.nat (O.runAheadSlots n)) < s.txAdvance n + s.lEncOf n
      || s.txAdvance n < 2 * symbolTc (s.mu n) * airTc || s.obj (O.ulResultBudget n) * airNs < s.ulNeed n then .deadlineInfeasible
  else .ok

/-- The check of CARRIER_ENABLE, its tests in the order of 06 R184. -/
def carrierCheck (n : Nat) (s : State) : Reason :=
  firstReason [bandTest n s, mixTest n s, if s.obj O.timeValid == 1 then .ok else .noTimeSource,
    if (s.alone n || !s.pipe.started) && decide (s.dataPallets < s.dataNeeded) then .noSoftBuffer else .ok,
    if 512 < streamUnitsUsed s + s.unitsOf n then .noStreamUnits else .ok, bindingCheck n s, chainTest n s,
    if 1472 < s.palletsHeld n + s.reserveOf n then .noPallets else .ok, leadTest n s]

/-! ## What a carrier holds -/

/-- The transmit configuration of a carrier as the guard copies it (17 R555). -/
def workingCopy (n : Nat) (s : State) : Copy :=
  { duplex := s.obj (O.duplex n), numerology := s.obj (O.numerology n), frameOffset := s.obj (O.frameOffset n)
    fhDomain := s.obj (O.fhDomain n), fhPort := s.obj (O.fhPort n)
    pairPort := if s.nat (O.fhPort n) < 24 then s.obj (O.pairPort (s.nat (O.fhPort n))) else 0xFF
    eaxcBase := s.obj (O.eaxcBase n), dlPorts := s.obj (O.dlPorts n), period := s.obj (O.txwPeriod n), map := s.blob (O.txwMap n)
    rampUp := s.obj (O.rampUpNs n), rampDn := s.obj (O.rampDnNs n), chains := s.chainsOf n, limit := s.obj (O.guardPwrLimit n)
    sound := true }

/-- The figures that count since the carrier's enable (03 Table 3-8, 06 Table 6-18, 08 R296, 17 Table 17-10). -/
def carrierCounters (n : Nat) : List Nat :=
  [O.coursesDone n, O.coursesPartial n, O.coursesExpired n, O.symbolsWithheld n, O.revisionsAccepted n, O.refusedTooLate n,
    O.loadUpdates n, O.pwrMax n]

/-- An accepted carrier takes its units, pallets, chains and ports, L_enc is fixed, and the guard copies its configuration. -/
def carrierAccept (n : Nat) (s : State) : State :=
  let s := (s.setObj (O.streamUnitsHeld n) (s.unitsOf n)).setObj (O.palletsReserved n) (s.reserveOf n)
  let s := { s with pipe := { s.pipe with lEnc := Store.put s.pipe.lEnc n (s.lEncOf n), started := true } }
  let s := (s.setObj (O.encBindLead n) (nsHalfUp (s.encLead n))).setObj (O.mapBindLead n) (nsHalfUp (s.mapLead n))
  let s := if s.timeDomain n then takeChains n s else s
  let s := (carrierCounters n).foldl (fun s k => s.setObj k (factory k)) (attachCarrier n s)
  let s := openEndless n s
  let copy := workingCopy n s
  (s.setObj (O.guardCopy n) 1).onGuard fun g => { g with copies := Store.put g.copies n copy, reopen := g.reopen.filter fun r =>
    !(r.1 == 0 && r.2.1 == n) }

/-! ## Shut-down (06 R205) -/

/-- Whether COURSE_CANCEL would still cancel a course (03 R110). -/
def mayCancel (s : State) (key : Nat) (c : Course) : Bool :=
  let n := key / 2 ^ 32 - 1
  if dirOf (key % 2 ^ 32) == 1 then c.state == .opened && decide (s.airNow < bindPoint s n 1 0 c.slotAir)
  else (c.state == .opened || c.state == .bound) && decide (s.airNow < firstTx s n c.slotAir c.first)

/-- Every course that a test selects and that may still be cancelled is cancelled. -/
def cancelWhere (sel : Nat → Bool) (s : State) : State :=
  ((s.pipe.courses.filter fun c => sel c.1 && mayCancel s c.1 c.2).map (·.1)).foldl (fun s k => cancelCourse k s) s

/-- Whether a carrier has a course whose outcome is not journalled. -/
def carrierBusy (n : Nat) (s : State) : Bool := s.pipe.courses.any fun c => c.1 / 2 ^ 32 == n + 1 && c.2.live

/-- What a carrier holds is released (00 R3; 06 R185; 09 R324; 10 R331, R348, R351; 17 R555, R565). -/
def carrierOff (n : Nat) (s : State) : State :=
  let s := releaseChains n s
  let s := [(O.streamUnitsHeld n, 0), (O.palletsReserved n, 0), (O.activePort n, 0xFF), (O.fhLoadDl n, 0), (O.fhLoadUl n, 0),
    (O.txwOpen n, 0), (O.encBindLead n, 0), (O.mapBindLead n, 0), (O.guardCopy n, (0 : Int))].foldl (fun (s : State) (k : Nat × Int) => s.setObj k.1 k.2) s
  let s := (List.range 16).foldl (fun s g => if s.nat (O.txgCarrier g) == n then setGate g false s else s) s
  let s := { s with pipe := { s.pipe with lEnc := Store.drop s.pipe.lEnc n } }
  showMutes (s.onGuard fun g =>
    { g with copies := Store.drop g.copies n, mutes := g.mutes.filter fun m => !(m.scope == 0 && m.unit == n) })

/-- CARRIER_ENABLE (06 R184, R205). -/
def carrierRules (n : Nat) : EnableRules :=
  { key := O.carrierEnable n, check := carrierCheck n, accept := carrierAccept n
    stop := fun s =>
      let s := closeEndless n (cancelWhere (fun k => k / 2 ^ 32 == n + 1) s)
      if carrierBusy n s then s else carrierOff n s
    busy := carrierBusy n }

/-- The shut-down of a carrier completes once the last of its outcomes is journalled. -/
def carrierDone (n : Nat) (s : State) : State :=
  let k := O.carrierEnable n
  if (s.obj k == stStopping || s.obj k == stPending) && s.shutRuns k && !carrierBusy n s then shutDone k (carrierOff n s) else s

/-- WRITE_CARRIER_ENABLE. -/
def execWriteCarrierEnable (x : Xfer) (n : Nat) (v : Int) (s : State) : Host.Outcome State Fault Refusal :=
  if 64 ≤ n then .fault .noSuchUnit else .next (hostWrite x (O.carrierEnable n) (.num v) ((carrierRules n).write v) s)

/-! ## UE contexts (06 R217, R219) -/

/-- A write of UE_CONTEXT makes the context that UE_INDEX selects ACTIVE with the host part written. -/
def actUeContext (data : Bytes) : Action := fun s =>
  let i := s.nat O.ueIndex
  if s.nat O.ueCtxLimit ≤ i then (.noUeContexts, s)
  else
    let s' := s.onUe i fun u => { u with state := 1, host := data }
    (.ok, if (s.ue i).host = data then s' else s'.bump O.changeCount 1)

/-- WRITE_UE_CONTEXT. -/
def execWriteUeContext (x : Xfer) (data : Bytes) (s : State) : Host.Outcome State Fault Refusal :=
  .next (hostWrite x O.ueContext (.bytes data) (actUeContext data) s)

/-- A write of UE_RELEASE puts an ACTIVE context in RELEASING; it is FREE once no accepted course names it. -/
def actUeRelease (v : Int) : Action := fun s =>
  let i := v.toNat
  if ueActive s i then (.ok, sweepContexts (s.onUe i fun u => { u with state := 2 })) else (.ok, s)

/-- WRITE_UE_RELEASE. -/
def execWriteUeRelease (x : Xfer) (v : Int) (s : State) : Host.Outcome State Fault Refusal :=
  .next (hostWrite x O.ueRelease (.num v) (actUeRelease v) s)

end Sys2Proof.Machine
end

