-- ==== Sys2Proof/Machine/Link.lean ====
section
/-! DEFINITION. The Cenen link (04): modules and their loss, the journal's completions, outcomes and their acknowledgement, sessions and
their resume, and indications. -/

namespace Sys2Proof.Machine

/-- The state with the link changed. -/
def State.onLink (s : State) (f : Link → Link) : State := { s with link := f s.link }

/-! ## Retired pages that a holder releases (15 R523) -/

/-- A page retires: it leaves its channel's pool. -/
def retirePage (s : State) (page : Nat) : State :=
  { s.bump (O.chRetired (page / 2 ^ 18)) 1 with integ := { s.integ with retired := s.integ.retired ++ [page] } }

/-- A holder may have released a page that waits to retire: the spec does not say which pages what it keeps lies in (log entry 12). -/
def releasePage (s : State) (page : Nat) : State :=
  let (w, s) := s.free
  if w.getLsbD 0 then
    let s := { s with integ := { s.integ with waiting := s.integ.waiting.filter (· != page) } }
    retirePage (s.setObj O.retirePending (s.integ.waiting.length)) page
  else s

/-- Every page that waits is looked at. -/
def releasePages (s : State) : State := s.integ.waiting.foldl releasePage s

/-! ## The journal (04 R133 to R139; 15 R509) -/

/-- A verdict is in the journal: in an ACTIVE session it is sent, and in a suspended one it is kept to be sent at the resume, its credits owed
until then. Where no record can be written, a REFUSE with JOURNAL_FULL goes out without one (04 R138). -/
def verdictWritten (chan : Nat) (v : Verdict) (s : State) : State :=
  if s.obj O.sessionState == 0 then s
  else
    let s := if journalStuck s then s else s.onChan chan fun c => { c with verdicts := c.verdicts ++ [v] }
    if s.obj O.sessionState == 1 then sendVerdict chan v false s
    else s.onChan chan fun c => { c with owed := c.owed + v.credits }

/-- An outcome is in the journal; the shut-down of its carrier may complete with it. -/
def outcomeWritten (chan course : Nat) (s : State) : State :=
  carrierDone (chan - 1) (releasePages (journalOutcome (courseKey chan course) s))

/-- Whether the oldest write of the journal can complete: a verdict's record can be written, which it needs before it is sent (04 R134), but for a
REFUSE with JOURNAL_FULL while the session lasts (R138); an outcome needs a copy in service, or its session has closed. -/
def mayWrite (s : State) : JournalWrite → Bool
  | .verdict _ v => !journalStuck s || (v.reason == .journalFull && s.obj O.sessionState == 1)
  | .outcome chan course =>
    s.obj O.journalCopies != 0 || ((s.course (courseKey chan course)).map (·.noOutcome)).getD true

/-- JOURNAL_WRITE_COMPLETE: every copy in service has acknowledged the oldest record. -/
def execJournalWriteComplete (s : State) : Host.Outcome State Fault Refusal :=
  match s.link.journal with
  | [] => .next s
  | w :: t =>
    if mayWrite s w then
      let s := s.onLink fun l => { l with journal := t }
      .next (match w with
        | .verdict chan v => verdictWritten chan v s
        | .outcome chan course => outcomeWritten chan course s)
    else .next s

/-! ## Outcomes (04 R130, R137) -/

/-- The length of an OUTCOME. -/
def Outcome.length (o : Outcome) : Nat := 64 + pad8 o.body.length

/-- The sequence before another. -/
def seqPrev (n : Nat) : Nat := if n ≤ 1 then 2 ^ 48 - 1 else n - 1

/-- The next outcome of a channel is sent, if it is journalled and the host's credit covers it. -/
def sendOutcome (chan : Nat) (s : State) : State :=
  let ch := s.chan chan
  match ch.outcomes.find? fun o => o.seq == ch.sendNext with
  | some o =>
    let cost := creditsOf o.length
    if s.obj O.sessionState == 1 && decide (cost ≤ ch.hostCredits) then
      let again := ch.replay.contains o.seq
      let s := s.onChan chan fun c =>
        { c with sendNext := seqNext c.sendNext, lastSent := if seqNotLater c.lastSent o.seq then o.seq else c.lastSent
                 hostCredits := c.hostCredits - cost, replay := c.replay.filter (· != o.seq) }
      endCourse (courseKey chan o.course) (s.send (.outcome chan o again))
    else s
  | none => s

/-- OUTCOME_SEND. -/
def execOutcomeSend (chan : Nat) (s : State) : Host.Outcome State Fault Refusal :=
  if chan == 0 || decide (64 < chan) then .fault .noSuchUnit else .next (sendOutcome chan s)

/-- Every outcome of a channel up to a sequence is acknowledged: it leaves the journal with the verdict records that it covers, and its
course is CLOSED; one that a resume had still to send again goes out no more. -/
def ackTo (chan seq : Nat) (s : State) : State :=
  let gone := (s.chan chan).outcomes.filter fun o => seqNotLater o.seq seq
  let s := s.onChan chan fun c =>
    { c with lastAcked := seq, sendNext := if seqNotLater c.sendNext seq then seqNext seq else c.sendNext
             outcomes := c.outcomes.filter fun o => !seqNotLater o.seq seq
             verdicts := c.verdicts.filter fun v => !(gone.any fun o => seqNotLater v.seq o.reqSeq)
             replay := c.replay.filter fun q => !seqNotLater q seq }
  gone.foldl (fun s o => s.onCourse (courseKey chan o.course) fun c =>
    if c.outSeq == o.seq then { c with state := CourseState.closed } else c) s

/-- An OUTCOME_ACK in an ACTIVE session. -/
def takeAck (chan seq credits : Nat) (s : State) : State :=
  let ch := s.chan chan
  if ch.takeover && seqNotLater seq ch.lastAcked then s.bump (O.duplicates chan.pred) 1
  else
    let s := s.onChan chan fun c => { c with takeover := false }
    if !seqNotLater seq ch.lastSent then s.bump (O.seqRefusals chan.pred) 1
    else
      let s := s.onChan chan fun c => { c with hostCredits := c.hostCredits + credits }
      if seqNotLater seq ch.lastAcked then s else ackTo chan seq s

/-- An OUTCOME_ACK arrives (04 R125, R145). -/
def ackArrival (chan seq credits : Nat) (s : State) : State :=
  if chan == 0 || decide (64 < chan) || s.obj O.sessionState == 0 then s.bump O.formatErrors 1
  else if s.obj O.sessionState == 2 then s
  else takeAck chan seq credits s

/-- OUTCOME_ACK. -/
def execOutcomeAck (dt chan seq credits : Nat) (s : State) : Host.Outcome State Fault Refusal :=
  .next (ackArrival chan seq credits (advance s dt))

/-! ## Sessions (04 R140 to R148) -/

/-- The requests and amendments in progress are discarded (04 R144, R145); their credits come back with the next verdict. -/
def discardIncomplete (s : State) : State :=
  s.onLink fun l => { l with chans := l.chans.map fun c => (c.1, match c.2.req with
    | some r => { c.2 with req := none, owed := c.2.owed + r.cost }
    | none => c.2) }

/-- The session is suspended, or its suspension takes a later cause (04 R142, R148). -/
def suspendSession (cause : Nat) (s : State) : State :=
  if s.obj O.sessionState == 0 then s
  else
    let now := s.clock.ticks
    let since := if s.obj O.sessionState == 1 then now else s.link.suspended
    discardIncomplete ((s.setObj O.sessionState 2).onLink fun l => { l with cause := cause, suspended := since, flight := [] })

/-- The session closes (04 R148): what R110 allows is cancelled, every other course runs to its end without an outcome, and the journal is
cleared. -/
def closeSession (s : State) : State :=
  let s := cancelWhere (fun _ => true) s
  let f := fun (c : Course) => if c.journalled then { c with state := CourseState.closed } else { c with noOutcome := true }
  let s := { s with pipe := { s.pipe with courses := s.pipe.courses.map (fun (c : Nat × Course) => (c.1, f c.2)) } }
  let s := s.onLink fun l => { l with
    holder := 0, cause := 0, suspended := 0, chans := []
    journal := l.journal.filter fun w => match w with
      | .verdict .. => false
      | .outcome .. => true }
  (s.setObj O.sessionState 0).setBlob O.hostId (List.replicate 16 0)

/-- The module that carries a channel at the opening of a session (04 R117, R118). -/
def moduleFor (l : Link) (chan : Nat) : Nat :=
  let mapped := if bitOf l.map (chan - 1) then 1 else 0
  let up := if mapped == 0 then l.m0.up else l.m1.up
  if up then mapped else 1 - mapped

/-- A new session opens (04 R126, R129, R130, R142). -/
def openSession (hostId : Nat) (entries : List ResumeEntry) (s : State) : State :=
  let grant := s.nat O.creditGrant
  let map := s.nat O.moduleMap
  let s := s.onLink fun l =>
    let l := { l with holder := hostId, cause := 0, suspended := 0, map := map, indSeq := 1 }
    { l with chans := (List.range 64).map fun i =>
        (i + 1, { Channel.fresh with module := moduleFor l (i + 1), grant := grant
                                     hostCredits := ((entries[i]?).map (·.credits)).getD 0 }) }
  (s.setObj O.sessionState 1).setBlob O.hostId (leBytes 16 hostId)

/-- DEVICE_CREDITS (04 R129): the grant less what has arrived and no verdict has returned. -/
def deviceCredits (s : State) (chan : Nat) : Nat :=
  let ch := s.chan chan
  let waiting := s.link.journal.map fun w => match w with
    | .verdict c v => if c = chan then v.credits else 0
    | .outcome .. => 0
  ch.grant - ch.owed - ((ch.req.map (·.cost)).getD 0) - waiting.sum

/-- The figures that the session holds for a channel. -/
def replyEntry (s : State) (chan : Nat) : ReplyEntry :=
  ⟨(s.chan chan).nextReq, (s.chan chan).sendNext, deviceCredits s chan⟩

/-- A RESUME_REPLY. -/
def resumeReply (seq : Nat) (r : Reason) (bad : Nat) (figures : Bool) (s : State) : State :=
  let entries := (List.range 64).map fun i => if figures then replyEntry s (i + 1) else ⟨0, 0, 0⟩
  s.send (.resumeReply ⟨seq, r, s.nat O.sessionState, s.link.cause, s.link.holder, bad, entries⟩)

/-- Whether every verdict of a channel later than a sequence, up to the last sent, is still kept as a verdict record (04 R147). -/
def keptAfter (ch : Channel) (seq : Nat) : Bool :=
  (ch.verdicts.filter fun v => !seqNotLater v.seq seq && seqNotLater v.seq ch.lastVerdict).length == seqDist seq ch.lastVerdict

/-- Whether a channel's entry of RESUME is in range (04 R147). -/
def resumeFits (s : State) (chan : Nat) (e : ResumeEntry) : Bool :=
  let ch := s.chan chan
  seqNotLater e.acked ch.lastSent && seqNotLater ch.lastAcked e.acked && seqNotLater e.verdict ch.lastVerdict && keptAfter ch e.verdict

/-- Step 3 of 04 R146 on one channel: the acknowledgement, and both credit accounts. -/
def resumeChannel (grant : Nat) (s : State) (i : Nat × ResumeEntry) : State :=
  let s := if seqNotLater i.2.acked (s.chan i.1).lastAcked then s else ackTo i.1 i.2.acked s
  s.onChan i.1 fun c =>
    { c with hostCredits := i.2.credits, grant := grant, owed := 0, sendNext := seqNext c.lastAcked, takeover := false
             lastReq := seqPrev c.nextReq, replay := c.outcomes.map (·.seq) }

/-- Up to `n` outcomes of a channel are sent in their order, each as the host's credit covers it. -/
def sendOutcomes : Nat → Nat → State → State
  | 0, _, s => s
  | k + 1, chan, s => sendOutcomes k chan (sendOutcome chan s)

/-- Step 5 on one channel: every verdict later than V_c, with the credits of its record (log entry 47), and then the outcomes that the host's credit
covers. -/
def replayChannel (s : State) (i : Nat × ResumeEntry) : State :=
  let ch := s.chan i.1
  let late := ch.verdicts.filter fun v => !seqNotLater v.seq i.2.verdict
  let s := late.foldl (fun s v => sendVerdict i.1 v true s) s
  sendOutcomes ch.replay.length i.1 s

/-- The entries of RESUME with their channels. -/
def numbered (entries : List ResumeEntry) : List (Nat × ResumeEntry) :=
  (List.range 64).map fun i => (i + 1, entries.getD i ⟨0, 0, 0⟩)

/-- The first entry of RESUME that is out of range (04 R147). -/
def firstMisfit (entries : List ResumeEntry) (s : State) : Option (Nat × ResumeEntry) :=
  (numbered entries).find? fun e => !resumeFits s e.1 e.2

/-- Verdicts of the journal that wait at a resume return no credits, for step 3 has reset both accounts (04 R146; log entry 47). -/
def creditsGone (l : Link) : Link :=
  { l with journal := l.journal.map fun w => match w with
      | .verdict c v => .verdict c { v with credits := 0 }
      | .outcome c k => .outcome c k }

/-- Every channel takes its entry of RESUME, and sends again what it has to (04 R146). -/
def resumeChannels (entries : List ResumeEntry) (seq : Nat) (s : State) : State :=
  let s := (numbered entries).foldl (resumeChannel (s.nat O.creditGrant)) s
  (numbered entries).foldl replayChannel (resumeReply seq .ok 0 true (s.setObj O.sessionState 1))

/-- What a RESUME in mode 1 does, with the first entry that is out of range if there is one (04 R146, R147). -/
def resumeAnswer (seq : Nat) (entries : List ResumeEntry) (bad : Option (Nat × ResumeEntry)) (s : State) : State :=
  match bad with
  | some e => resumeReply seq .sequenceRange e.1 true s
  | none => resumeChannels entries seq (s.onLink creditsGone)

/-- A RESUME in mode 1 from the holder (04 R144, R146, R147). -/
def resumeSession (seq : Nat) (entries : List ResumeEntry) (s : State) : State :=
  let s := if s.obj O.sessionState == 1 then discardIncomplete s else s
  resumeAnswer seq entries (firstMisfit entries s) s

/-- A RESUME is handled (04 R142 to R148). -/
def handleResume (seq mode hostId : Nat) (entries : List ResumeEntry) (s : State) : State :=
  if 2 < mode || hostId == 0 then resumeReply seq .valueRange 0 false s
  else if s.obj O.sessionState == 0 then
    if mode == 0 then resumeReply seq .ok 0 true (openSession hostId entries s) else resumeReply seq .noSession 0 false s
  else if hostId != s.link.holder then resumeReply seq .locked 0 false (s.bump O.lockedAttempts 1)
  else if mode == 2 then resumeReply seq .ok 0 false (closeSession s)
  else if mode == 0 then resumeReply seq .ok 0 true (openSession hostId entries (closeSession s))
  else resumeSession seq entries s

/-- A RESUME arrives: it is handled, or held until channel 0 is served (19 R609, R646; 18 R597). -/
def takeResume (dt seq mode hostId : Nat) (entries : List ResumeEntry) (s : State) : State :=
  let s := advance s dt
  if s.ready then handleResume seq mode hostId entries s else holdTransfer seq (.resume mode hostId entries) s

/-- RESUME_OPEN. -/
def execResumeOpen (dt seq hostId : Nat) (credits : List Nat) (s : State) : Host.Outcome State Fault Refusal :=
  .next (takeResume dt seq 0 hostId (credits.map fun c => ⟨0, 0, c⟩) s)

/-- RESUME_MODE_RESUME. -/
def execResumeModeResume (dt seq hostId : Nat) (entries : List ResumeEntry) (s : State) : Host.Outcome State Fault Refusal :=
  .next (takeResume dt seq 1 hostId entries s)

/-- RESUME_CLOSE, and a RESUME in a mode above 2. -/
def execResumeClose (dt seq mode hostId : Nat) (s : State) : Host.Outcome State Fault Refusal :=
  .next (takeResume dt seq mode hostId [] s)

/-- Ticks in a second. -/
def tickSecond : Nat := 156250000

/-- Ticks in a millisecond. -/
def tickMs : Nat := 156250

/-- SESSION_HOLD_EXPIRY. -/
def execSessionHoldExpiry (s : State) : Host.Outcome State Fault Refusal :=
  if s.obj O.sessionState == 2 && s.obj O.sessionHold != 0 then
    .next (closeSession (advanceTicks s (s.link.suspended + s.nat O.sessionHold * tickSecond)))
  else .next s

/-- A write of SESSION_HOLD: during a suspension a value that has already elapsed closes the session (04 R148; log entry 41). -/
def actSessionHold (v : Int) : Action := fun s =>
  let s := s.change O.sessionHold v
  (.ok, if s.obj O.sessionState == 2 && v != 0 && decide (s.link.suspended + v.toNat * tickSecond ≤ s.clock.ticks) then closeSession s
    else s)

/-- WRITE_SESSION_HOLD. -/
def execWriteSessionHold (x : Xfer) (v : Int) (s : State) : Host.Outcome State Fault Refusal :=
  .next (hostWrite x O.sessionHold (.num v) (actSessionHold v) s)

/-! ## Modules (04 R115 to R120) -/

/-- A module. -/
def Link.mod (l : Link) (m : Nat) : Module := if m == 0 then l.m0 else l.m1

/-- The state with a module replaced; LINK_STATE follows. -/
def setModule (m : Nat) (x : Module) (s : State) : State :=
  let s := s.onLink fun l => if m == 0 then { l with m0 := x } else { l with m1 := x }
  s.setObj O.cenenLinkState (match s.link.m0.up, s.link.m1.up with
    | true, true => 1
    | true, false => 2
    | false, true => 3
    | false, false => 0)

/-- Every channel moves to a module. -/
def moveAll (m : Nat) (s : State) : State :=
  s.onLink fun l => { l with module0 := m, chans := l.chans.map fun c => (c.1, { c.2 with module := m }) }

/-- UCIE_LANE_REPAIR: lanes are repaired and no message is lost. -/
def execUcieLaneRepair (module lanes : Nat) (s : State) : Host.Outcome State Fault Refusal :=
  if 1 < module then .fault .noSuchUnit
  else if (s.link.mod module).up then
    .next (s.bump (if module == 0 then O.lanesRepairedU0 else O.lanesRepairedU1) lanes)
  else .next s

/-- The messages that were in flight on a lost module and that the adapter had not acknowledged are sent again on the other, in their order (04
R118). -/
def resendFlight (m : Nat) (s : State) : State :=
  let lost := s.link.flight.filter fun f => f.module == m && !f.acked s.clock.ticks
  lost.foldl (fun s f => s.send f.msg) (s.onLink fun l => { l with flight := l.flight.filter fun f => f.module != m })

/-- What the receivers of a module hold of unfinished messages is lost with it. -/
def Link.clearSide (l : Link) (m : Nat) : Link :=
  if m == 0 then { l with side0 := [], stream0 := ⟨[], false⟩ } else { l with side1 := [], stream1 := ⟨[], false⟩ }

/-- A module is lost (04 R118): its channels move to the other module, each with the window of R119, and what it had in flight is sent again
there; with the other module out of service too, the link is lost and the session suspended. One that waits under RESTORE_HOLD only stops
waiting. -/
def loseModule (m : Nat) (s : State) : State :=
  let was := s.link.mod m
  let s := setModule m ⟨false, none⟩ s
  if !was.up then s
  else
    let s := (raise s O.moduleLostCount m [] 0).onLink fun l => l.clearSide m
    if (s.link.mod (1 - m)).up then
      resendFlight m (s.onLink fun l => { l with module0 := 1 - m, chans := l.chans.map fun c =>
        if c.2.module == m then (c.1, { c.2 with module := 1 - m, takeover := true }) else c })
    else suspendSession 1 (s.onLink fun l => { l with flight := [] })

/-- UCIE_MODULE_LOST. -/
def execUcieModuleLost (dt module : Nat) (s : State) : Host.Outcome State Fault Refusal :=
  if 1 < module then .fault .noSuchUnit else .next (loseModule module (advance s dt))

/-- A lost module retrains: it waits for RESTORE_HOLD, or where the link was lost serves every channel at once (04 R120). -/
def retrainModule (m : Nat) (s : State) : State :=
  if (s.link.mod m).up then s
  else if (s.link.mod (1 - m)).up then
    let now := s.clock.ticks
    setModule m ⟨false, some now⟩ s
  else moveAll m (setModule m ⟨true, none⟩ s)

/-- UCIE_MODULE_RETRAINED. -/
def execUcieModuleRetrained (dt module : Nat) (s : State) : Host.Outcome State Fault Refusal :=
  if 1 < module then .fault .noSuchUnit else .next (retrainModule module (advance s dt))

/-- RESTORE_HOLD_EXPIRY: the module comes back into service; where the other has gone meanwhile, it carries every channel. -/
def execRestoreHoldExpiry (module : Nat) (s : State) : Host.Outcome State Fault Refusal :=
  if 1 < module then .fault .noSuchUnit
  else match (s.link.mod module).trainedAt with
    | none => .next s
    | some t =>
      let s := setModule module ⟨true, none⟩ (advanceTicks s (t + s.nat O.restoreHold * tickMs))
      .next (if (s.link.mod (1 - module)).up then s else moveAll module s)

/-- The tick at which the adapter has acknowledged every message that a channel has in flight on a module. -/
def flightOver (l : Link) (chan m : Nat) : Nat :=
  ((l.flight.filter fun f => f.msg.chan == chan && f.module == m).map fun f => f.sentAt + Config.ackTicks f.number).foldl max 0

/-- The mapped module of a channel; channel 0 belongs to the sideband of u0 (04 R117). -/
def Link.mapped (l : Link) (chan : Nat) : Nat := if chan != 0 && bitOf l.map (chan - 1) then 1 else 0

/-- A channel uses a module from now on. -/
def useModule (chan m : Nat) (s : State) : State :=
  if chan == 0 then s.onLink fun l => { l with module0 := m } else s.onChan chan fun c => { c with module := m }

/-- CHANNEL_RETURN: a channel returns to its mapped module, which is in service again, once the adapter has acknowledged every message that it
has in flight on the other (04 R120); channel 0 does so without a session too. -/
def execChannelReturn (chan : Nat) (s : State) : Host.Outcome State Fault Refusal :=
  if 64 < chan then .fault .noSuchUnit
  else
    let mapped := s.link.mapped chan
    if (chan == 0 || s.obj O.sessionState != 0) && (s.link.mod mapped).up then
      .next (useModule chan mapped (advanceTicks s (flightOver s.link chan (1 - mapped))))
    else .next s

/-! ## Indications (04 R131) -/

/-- INDICATION_SEND: the oldest INDICATION that waits is sent on channel 0. -/
def execIndicationSend (s : State) : Host.Outcome State Fault Refusal :=
  match s.link.waiting with
  | i :: t =>
    if s.link.m0.up || s.link.m1.up then
      let seq := s.link.indSeq
      .next ((s.onLink fun l => { l with waiting := t, indSeq := seqNext l.indSeq }).send (.indication seq i))
    else .next s
  | [] => .next s

end Sys2Proof.Machine
end

