-- ==== Sys2Proof/Machine/Errors.lean ====
section
/-! DEFINITION. Memory errors (15): the address map, the error log, correctable and uncorrectable errors with their buckets, and the loss of
a GDDR7 channel with what follows it. -/

namespace Sys2Proof.Machine

/-- The state with the integrity of the memories changed. -/
def State.onInteg (s : State) (f : Integrity → Integrity) : State := { s with integ := f s.integ }

/-! ## The device address map (15 R493; 18 Table 18-1) -/

/-- The region of the device address map that holds an address: a pallet-store slice, a tile memory, the kiln's feed port, a GDDR7 channel,
or none. -/
inductive Region | store (slice : Nat) | chan (c : Nat) | feed | tile (t : Nat) | nowhere
  deriving DecidableEq, Repr

/-- The region of a device address. -/
def regionOf (s : State) (a : Nat) : Region :=
  if 0x08000000 ≤ a && a < 0x08000000 + 24 * 0x01000000 then
    if (a - 0x08000000) % 0x01000000 < 0x400000 then .store ((a - 0x08000000) / 0x01000000) else .nowhere
  else if 0x010000000000 ≤ a && a < 0x010000000000 + 200 * 0x100000 then
    if (a - 0x010000000000) % 0x100000 < 0x80000 then .tile ((a - 0x010000000000) / 0x100000) else .nowhere
  else if 0x020000000000 ≤ a && a < 0x020000000008 then .feed
  else if 0x100000000000 ≤ a && a < 0x100000000000 + 16 * 0x000400000000 then
    let c := (a - 0x100000000000) / 0x000400000000
    if (a - 0x100000000000) % 0x000400000000 < s.nat (O.chPallets c) * 65536 then .chan c else .nowhere
  else .nowhere

/-- The power domain that serves a region. -/
def regionDomain : Region → Nat
  | .store _ => 31 | .chan c => 26 + c / 4 | .feed => 12 | .tile t => 2 + t / 20 | .nowhere => 0

/-- Whether a read of a device address finds an uncorrectable error: a poisoned word, or a byte of tile memory, or a lost channel (15 R494
to R497, R506). -/
def uncorrectable (s : State) (a : Nat) : Bool :=
  match regionOf s a with
  | .tile _ => s.integ.poison.contains a
  | .chan c => s.obj (O.chState c) == 4 || s.integ.poison.contains (a / 8 * 8)
  | _ => s.integ.poison.contains (a / 8 * 8)

/-- Poison leaves a byte of tile memory that is written, and a word that a write covers whole (15 R494, R496). -/
def healed (l : List Nat) (s : State) : State :=
  let left := s.integ.poison.filter fun w =>
    match regionOf s w with
    | .tile _ => !l.contains w
    | _ => !((List.range 8).all fun i => l.contains (w + i))
  { s with integ := { s.integ with poison := left } }

/-- The page number of a channel's address (15 R522). -/
def pageOf (c a : Nat) : Nat := c * 2 ^ 18 + (a - chanAddr c) / 65536

/-! ## The error log (15 R522) -/

/-- A record of the error log (Table 15-6). -/
def logError (memory error regime foundBy unit addr syndrome bit bank level page : Nat) (s : State) : State :=
  let r := stampBytes s.clock.count ++ leBytes 1 memory ++ leBytes 1 error ++ leBytes 1 regime ++ leBytes 1 foundBy ++ leBytes 2 unit
    ++ leBytes 6 addr ++ leBytes 1 syndrome ++ leBytes 1 bit ++ leBytes 1 bank ++ leBytes 1 0 ++ leBytes 2 level ++ leBytes 2 page
    ++ leBytes 2 0
  (s.bump O.errLogCount 1).onInteg fun g => { g with log := keepLast 256 (g.log ++ [r]) }

/-! ## Buckets (15 R518, R519) -/

/-- The bucket of the unit of a region and its limit: a tile memory, a slice, or a bank of a channel. -/
def bucketOf (s : State) (a : Nat) : Region → Nat × Nat × Nat
  | .tile t => (0, t, s.nat O.limitTile)
  | .store k => (1, k, s.nat O.limitSlice)
  | .chan c => (2, c * 16 + (a - chanAddr c) / 65536 % 16, s.nat O.limitBank)
  | _ => (3, 0, 0)

/-- The key of a unit's bucket. -/
def bucketKey (kind unit : Nat) : Nat := kind * 2 ^ 16 + unit

/-- The level of a page's bucket, if the cache holds one. -/
def pageLevel (s : State) (page : Nat) : Option Nat := (s.integ.pages.find? fun p => p.1 == page).map (·.2)

/-- The entry with the lowest level of the page cache, the oldest among equals. -/
def lowestPage (l : List (Nat × Nat)) : Option (Nat × Nat) :=
  l.foldl (fun best p => match best with
    | some b => if p.2 < b.2 then some p else best
    | none => some p) none

/-- A page's bucket rises by 1; a page that is new to a full cache evicts the entry with the lowest level. -/
def feedPage (page : Nat) (s : State) : State :=
  match pageLevel s page with
  | some _ => s.onInteg fun g => { g with pages := g.pages.map fun p => if p.1 == page then (p.1, p.2 + 1) else p }
  | none =>
    let s := if s.integ.pages.length < 1024 then s
      else match lowestPage s.integ.pages with
        | some b => (s.bump O.bucketEvictions 1).onInteg fun g => { g with pages := g.pages.filter (· != b) }
        | none => s
    s.onInteg fun g => { g with pages := g.pages ++ [(page, 1)] }

/-- PAGE_RETIRE_ADVISED (Table 15-5). -/
def advise (page cause regime : Nat) (s : State) : State :=
  raise s O.retireAdvisedCount (page / 2 ^ 18)
    (leBytes 4 page ++ leBytes 1 cause ++ leBytes 1 regime ++ leBytes 2 (Store.at 0 s.integ.pageErrs page)) 0

/-- A page's bucket above its limit advises retirement and is emptied. -/
def judgePage (page : Nat) (s : State) : State :=
  if s.nat O.limitPage < (pageLevel s page).getD 0 then
    (advise page 0 (s.nat O.memRegime) s).onInteg fun g =>
      { g with pages := g.pages.map fun p => if p.1 == page then (p.1, 0) else p }
  else s

/-- CE_BUCKET_OVERFLOW (Table 15-4): a unit's bucket above its limit raises the event and is emptied. -/
def judgeUnit (kind unit limit : Nat) (s : State) : State :=
  let level := Store.at 0 s.integ.buckets (bucketKey kind unit)
  if limit < level then
    (raise s O.ceOverflowCount unit (leBytes 1 kind ++ leBytes 1 0 ++ leBytes 2 unit ++ leBytes 2 level ++ leBytes 2 0) 0).onInteg
      fun g => { g with buckets := Store.putD 0 g.buckets (bucketKey kind unit) 0 }
  else s

/-! ## One error (15 R494 to R497, R516 to R522) -/

/-- The number of a region's unit in a record, its memory, and the bank. -/
def unitOfRegion (a : Nat) (checkLine : Bool) : Region → Nat × Nat × Nat
  | .tile t => (t, 0, 0xFF)
  | .store k => (k, 1, 0xFF)
  | .chan c => (c, if checkLine then 3 else 2, (a - chanAddr c) / 65536 % 16)
  | _ => (0, 1, 0xFF)

/-- The address that a record shows: the offset for tile memory. -/
def shownAddr (a : Nat) : Region → Nat
  | .tile t => a - tileAddr t
  | _ => a

/-- The page that an error counts at, where it lies in GDDR7. -/
def errorPage (a : Nat) : Region → Option Nat
  | .chan c => some (pageOf c a)
  | _ => none

/-- A record of an error with the levels of its buckets. -/
def recordError (foundBy error : Nat) (e : MemError) (g : Region) (s : State) : State :=
  let u := unitOfRegion e.addr e.checkLine g
  let b := bucketOf s e.addr g
  let page := match errorPage e.addr g with
    | some p => (pageLevel s p).getD 0xFFFF
    | none => 0xFFFF
  logError u.2.1 error (s.nat O.memRegime) foundBy u.1 (shownAddr e.addr g) e.syndrome (e.bit.getD 0xFF) u.2.2
    (Store.at 0 s.integ.buckets (bucketKey b.1 b.2.1)) page s

/-- Errors at a page are counted. -/
def countPage (g : Region) (a : Nat) (s : State) : State :=
  match errorPage a g with
  | some p => s.onInteg fun i => { i with pageErrs := Store.put i.pageErrs p (Store.at 0 i.pageErrs p + 1) }
  | none => s

/-- Whether a correctable error at a line follows the first one within CE_DEDUP_MS. -/
def isRepeat (s : State) (a : Nat) : Bool :=
  match Store.find s.integ.first (a / 64) with
  | some t => decide (s.clock.ticks < t + s.nat O.ceDedupMs * tickMs)
  | none => false

/-- The corrected errors of a region's memory are counted. -/
def countCorrected (g : Region) (s : State) : State :=
  match g with
  | .tile _ => s.bump O.tmCe 1
  | .chan c => s.bump (O.chCe c) 1
  | _ => s.bump O.psCe 1

/-- A correctable error: corrected and written back, logged, and in SERVICE fed to the buckets of its unit and page; in another regime only
counted (15 R518, R520). -/
def correctedError (foundBy : Nat) (e : MemError) (s : State) : State :=
  let g := regionOf s e.addr
  let s := countCorrected g s
  if s.obj O.memRegime != 0 then
    let line := e.addr / 64
    let s := (s.bump O.regimeCe 1).onInteg fun i => { i with repeats := Store.put i.repeats line (Store.at 0 i.repeats line + 1) }
    recordError foundBy 0 e g (countPage g e.addr s)
  else if isRepeat s e.addr then recordError foundBy 0 e g s
  else
    let now := s.clock.ticks
    let b := bucketOf s e.addr g
    let s := s.onInteg fun i =>
      { i with first := Store.put i.first (e.addr / 64) now
               buckets := Store.put i.buckets (bucketKey b.1 b.2.1) (Store.at 0 i.buckets (bucketKey b.1 b.2.1) + 1) }
    let s := countPage g e.addr s
    let s := match errorPage e.addr g with
      | some p => feedPage p s
      | none => s
    let s := recordError foundBy 0 e g s
    let s := judgeUnit b.1 b.2.1 b.2.2 s
    match errorPage e.addr g with
    | some p => judgePage p s
    | none => s

/-- An uncorrectable error: the word answers UNCORRECTABLE until it is written; it is logged, and in GDDR7 advises the page's retirement at
once (15 R496, R497, R516, R519). A read of it counts toward a burst of R506. -/
def uncorrectableError (foundBy : Nat) (e : MemError) (s : State) : State :=
  let g := regionOf s e.addr
  let now := s.clock.ticks
  let word := match g with
    | .tile _ => e.addr
    | _ => e.addr / 8 * 8
  let s := s.onInteg fun i => { i with poison := if i.poison.contains word then i.poison else i.poison ++ [word] }
  let s := match g with
    | .tile _ => s.bump O.tmUe 1
    | .chan c => (s.bump (O.chUe c) 1).onInteg fun i => if foundBy == 1 then i else
        { i with bursts := Store.put i.bursts c ((Store.at [] i.bursts c).filter (fun t => now < t + tickMs) ++ [now]) }
    | _ => s.bump O.psUe 1
  let s := recordError foundBy 1 e g (countPage g e.addr s)
  match errorPage e.addr g with
  | some p => advise p 1 (s.nat O.memRegime) s
  | none => s

/-- An error that a read (0), a scrub (1) or a partial write (2) finds; one at an address without memory is none. -/
def noteError (foundBy : Nat) (s : State) (e : MemError) : State :=
  match regionOf s e.addr with
  | .nowhere | .feed => s
  | .chan _ => if s.obj O.eccActive == 0 then s else if e.bit.isSome then correctedError foundBy e s else uncorrectableError foundBy e s
  | _ => if e.bit.isSome then correctedError foundBy e s else uncorrectableError foundBy e s

/-- An access that meets a word known to be bad: it is found again, with a syndrome that nothing fixes (log entry 12). -/
def metPoisonBy (foundBy a : Nat) (s : State) : State :=
  let (w, s) := s.free
  match regionOf s a with
  | .chan c => if s.obj (O.chState c) == 4 then s else uncorrectableError foundBy ⟨a, w.toNat % 256, none, false⟩ s
  | _ => uncorrectableError foundBy ⟨a, w.toNat % 256, none, false⟩ s

/-- A read that meets such a word. -/
def metPoison (a : Nat) (s : State) : State := metPoisonBy 0 a s

/-! ## Lines (15 R496, R506) -/

/-- The code word of a byte, where its memory holds a code: the byte in tile memory, else its 64-bit word. -/
def codeWord (s : State) (a : Nat) : Option Nat :=
  match regionOf s a with
  | .tile _ => some a
  | .store _ => some (a / 8 * 8)
  | .chan _ => if s.obj O.eccActive == 0 then none else some (a / 8 * 8)
  | _ => none

/-- Bytes are marked uncorrectable in the way of their memory. -/
def poisonBytes (l : List Nat) (s : State) : State :=
  s.onInteg fun g => { g with poison := (g.poison ++ (l.filterMap (codeWord s))).eraseDups }

/-- The first byte of a line that a read of it finds uncorrectable. -/
def badByte (s : State) (line : Nat) : Option Nat := ((List.range 64).map fun i => line * 64 + i).find? (uncorrectable s)

/-- Whether an address lies on a channel that is lost. -/
def onLost (s : State) (a : Nat) : Bool :=
  match regionOf s a with
  | .chan c => s.obj (O.chState c) == 4
  | _ => false

/-- Bytes of one line are written, and whether the write is answered UNCORRECTABLE: a lost channel stores nothing, and a word that the
write covers only in part and that is bad stays marked (15 R496, R506). -/
def writeLine (cells : List Host.Cell) (s : State) : Bool × State :=
  match cells.head? with
  | none => (false, s)
  | some c =>
    if onLost s c.1 then (true, s)
    else match regionOf s c.1 with
      | .feed | .nowhere => (false, s)
      | _ =>
        let l := cells.map fun (c : Host.Cell) => c.1
        let s := healed l { s with mem := memPutAll cells s.mem }
        match l.find? (uncorrectable s) with
        | some a => (true, metPoisonBy 2 a s)
        | none => (false, s)

/-! ## Regimes (15 R517, R520) -/

/-- A regime that is not SERVICE ends: each page that showed REPEAT_LIMIT errors at one line is advised. -/
def endRegime (s : State) : State :=
  let regime := s.nat O.memRegime
  if regime == 0 then s
  else
    let lines := s.integ.repeats.filter fun r => s.nat O.repeatLimit ≤ r.2
    let pages := (lines.filterMap fun r => errorPage (r.1 * 64) (regionOf s (r.1 * 64))).eraseDups
    let s := pages.foldl (fun s p => advise p 2 regime s) s
    (s.setObj O.memRegime 0).onInteg fun g => { g with repeats := [], afterWarm := false }

/-- RECOVERY begins with a rebuild. -/
def startRecovery (s : State) : State := if s.obj O.memRegime == 0 then s.setObj O.memRegime 3 else s

/-- RECOVERY ends once no rebuild runs and no warm reset's first pass is awaited. -/
def settleRegime (s : State) : State :=
  if s.obj O.memRegime == 3 && !s.integ.mirror && s.integ.toBuild.isEmpty && !s.integ.afterWarm then endRegime s else s

/-! ## The loss of a channel (15 R506, R507, R509, R510; 04 R140) -/

/-- Both journal copies are lost: every carrier transmits nothing from its next slot, and the session ends. -/
def bothCopiesLost (s : State) : State :=
  let later := (s.pipe.courses.filter fun c => c.2.live && dirOf (c.1 % 2 ^ 32) == 0 && decide (s.airNow < c.2.slotAir)).map (·.1)
  closeSession (later.foldl (fun s k => cancelCourse k s) s)

/-- What the journal loses with a channel: a copy, the standby, or a rebuild that runs. -/
def journalLoses (c : Nat) (s : State) : State :=
  let g := s.integ
  if g.copies.contains c then
    let left := g.copies.filter (· != c)
    let s := setCause 3 (s.setObj O.journalCopies left.length)
    if left.isEmpty then
      settleRegime (bothCopiesLost ((s.setObj O.journalRebuild 100).onInteg fun g => { g with copies := [], mirror := false }))
    else match g.standby with
      | some _ => startRecovery ((s.setObj O.journalRebuild 0).onInteg fun g => { g with copies := left, mirror := true })
      | none => s.onInteg fun g => { g with copies := left }
  else if g.standby == some c then
    settleRegime ((s.setObj O.journalRebuild 100).onInteg fun g => { g with standby := none, mirror := false })
  else s

/-- A result record says that a new version was not kept. -/
def markNotKept (key rec : Nat) (s : State) : State :=
  s.onCourse key fun c => { c with results := Store.put c.results rec { c.result rec with notKept := true } }

/-- A process has lost the version that records of live courses were to combine with: the result of each whose decode has not been
dispatched yet says so (06 R215). -/
def markDropped (ue proc : Nat) (s : State) : State :=
  let recs := s.sched.ops.filterMap fun e =>
    let o := e.2
    if o.id.kind == .dec && !o.old && (o.state == .waiting || o.state == .ready) && (Store.find s.kiln.jobs e.1).isNone then
      (opRec s o).bind fun r => if r.u 6 2 == ue && r.u 8 1 == proc && !bitOf r.flags 0 then some (o.key, r.id) else none
    else none
  recs.eraseDups.foldl (fun s x => s.onCourse x.1 fun c =>
    { c with results := Store.put c.results x.2 { c.result x.2 with dropped := true } }) s

/-- A HARQ process becomes EMPTY with one HARQ_VERSION_LOST of cause 1, where it is not. -/
def loseProc (ue proc : Nat) (h : Harq) (s : State) : State :=
  let s := match h.committed, h.pending with
    | none, some (_, _, v) => raise s O.harqVersionLostCount v.carrier
        (leBytes 2 ue ++ leBytes 1 proc ++ leBytes 1 1 ++ leBytes 2 v.number ++ leBytes 2 0) 0
    | some _, _ => markDropped ue proc (dropVersion ue proc 1 0 0 s)
    | none, none => s
  s.onHarq ue proc fun h => { h with committed := none, pending := none }

/-- The contexts that lie on a channel and are not FREE. -/
def contextsOn (s : State) (c : Nat) : List Nat := (s.pipe.ues.filter fun u => u.1 % 16 == c && u.2.state != 0).map (·.1)

/-- Every process of a context is lost, and its timing-advance and quality history starts afresh (15 R506). -/
def loseContext (s : State) (i : Nat) : State :=
  ((s.ue i).procs.foldl (fun s p => loseProc i p.1 p.2 s) s).onUe i fun u => { u with history := [] }

/-- The contexts of a lost channel: rebuilt in the reserve, if it serves no channel yet, or FREE. -/
def contextsLost (c : Nat) (s : State) : State :=
  let l := contextsOn s c
  let s := l.foldl loseContext s
  if s.integ.reserve.isNone then
    startRecovery (s.onInteg fun g => { g with reserve := some c, toBuild := g.toBuild ++ [c] })
  else { s with pipe := { s.pipe with ues := s.pipe.ues.filter fun u => !l.contains u.1 } }

/-- The versions that lie on a lost channel: committed ones are dropped, uncommitted ones are not kept and so discarded (06 R214). -/
def versionsLost (c : Nat) (s : State) : State :=
  let procs := s.pipe.ues.flatMap fun u => u.2.procs.map fun p => (u.1, p.1, p.2)
  procs.foldl (fun s x =>
    let s := match x.2.2.committed with
      | some v => if v.chan = c then markDropped x.1 x.2.1 (dropVersion x.1 x.2.1 1 0 0 s) else s
      | none => s
    match x.2.2.pending with
    | some (key, rec, v) =>
      if v.chan = c then markNotKept key rec ((s.onHarq x.1 x.2.1 fun h => { h with pending := none }).bump O.harqDiscards 1) else s
    | none => s) s

/-- Reservations on a lost channel are made again on others; where they cannot be, the version is not kept (15 R507). -/
def reserveAgain (c : Nat) (s : State) : State :=
  let held := s.pipe.courses.flatMap fun k => (k.2.softRes.filter fun r => r.2.2 == c).map fun r => (k.1, r.1, r.2.1.length)
  held.foldl (fun s x =>
    let s := s.onCourse x.1 fun k => { k with softRes := Store.drop k.softRes x.2.1 }
    match s.softChannel with
    | some d =>
      if x.2.2 ≤ s.softFree then s.onCourse x.1 fun k => { k with softRes := Store.put k.softRes x.2.1 (softPlaces s d x.2.2, d) }
      else markNotKept x.1 x.2.1 s
    | none => markNotKept x.1 x.2.1 s) s

/-- Whether the data of a record is still to be read: its fetch has not published. -/
def dataNeededStill (s : State) (key rec : Nat) : Bool :=
  s.sched.ops.any fun e => e.2.key == key && !e.2.old && e.2.id.kind == .fetch && e.2.id.recId == rec && !e.2.published

/-- Records whose transport-block data lies on a lost channel end DATA_LOST. -/
def dataLost (c : Nat) (s : State) : State :=
  let recs := s.pipe.courses.flatMap fun k =>
    if k.2.live then (k.2.store.filter fun r => r.2 / 2 ^ 20 == c && dataNeededStill s k.1 r.1).map fun r => (k.1, r.1) else []
  recs.foldl (fun s x => causeAt x.1 4 [x.2] s) s

/-- Staging outputs on a lost channel are empty tokens: their symbols count as expired. -/
def stagingLost (c : Nat) (s : State) : State :=
  s.setOps (s.sched.ops.map fun e =>
    (e.1, if e.2.stage.any (fun x => x / 2 ^ 20 == c) then
      { e.2 with published := true, empty := true, stage := [], valid := [], data := [] } else e.2))

/-- Every bank of an entry on a lost channel fails its CRC for its readers (15 R497). -/
def banksLost (c : Nat) (s : State) : State :=
  { s with wb := s.wb.map fun e =>
      (e.1, if e.2.chan == c then { e.2 with banks := e.2.banks.map fun b => { b with bad := List.range e.2.subbands } } else e.2) }

/-- The code of a cause of loss (Table 15-5). -/
def lossCode : LossCause → Nat
  | .edcRetries => 0 | .retraining => 1 | .burst => 2

/-- GDDR7_CHANNEL_LOST (15 R506), with the code of its cause: the channel reads LOST, its pallets leave every pool, and its holders end as their chapters state. -/
def channelLost (c cause : Nat) (s : State) : State :=
  let copy := s.integ.copies.contains c
  let n := (contextsOn s c).length
  let free := s.integ.reserve.isSome
  let s := s.setObj (O.chState c) 4
  let s := setCause 4 s
  let s := banksLost c (stagingLost c (dataLost c (reserveAgain c (versionsLost c (contextsLost c s)))))
  let s := raise s O.channelLostCount c
    (leBytes 1 c ++ leBytes 1 cause ++ leBytes 1 (if copy then 1 else 0) ++ leBytes 1 0 ++ leBytes 4 (s.nat (O.chPallets c))
      ++ leBytes 4 (if free then 0 else n) ++ leBytes 4 (if free then n else 0)) 0
  let s := logError 2 3 (s.nat O.memRegime) 0 c (chanAddr c) 0 0xFF 0xFF 0 0xFFFF s
  resettle (journalLoses c (s.onInteg fun g => { g with edc := Store.drop g.edc c }))

/-- The loss of a channel for which Table 15-5 has no cause (17 R575, R578): its code is a free value (log entry 12). -/
def channelFails (c : Nat) (s : State) : State := channelLost c (s.free.1.toNat % 3) s.free.2

end Sys2Proof.Machine
end

