-- ==== Sys2Proof/Machine/Flags.lean ====
section
/-! DEFINITION. The fields of vstat and what sets them (11 R366, R374), rounding, saturation and wrapping of vector arithmetic (11 R369 to
R372), and the arithmetic of one element. -/

namespace Sys2Proof.Machine

/-! ## Element types (11 Table 11-7) -/

/-- The bytes of an element. -/
def elemBytes : ElemType → Nat
  | .i8 => 1 | .i16 | .q15 => 2 | .i32 | .c16 | .q31 => 4 | .none6 | .none7 => 1

/-- Whether a code of the et field names a type: 6 and 7 do not (11 R369). -/
def elemKnown : ElemType → Bool
  | .none6 | .none7 => false
  | _ => true

/-- The parts of an element that arithmetic treats each on its own: I and Q of a cint16 (11 R370). -/
def elemParts : ElemType → Nat
  | .c16 => 2
  | _ => 1

/-- The bits of a part. -/
def partBits (et : ElemType) : Nat := 8 * elemBytes et / elemParts et

/-- The fraction bits of a Q format, 0 for an integer. -/
def fracBits : ElemType → Nat
  | .q15 => 15 | .q31 => 31 | _ => 0

/-- Whether every arithmetic operation on a type saturates (11 R370). -/
def alwaysSat (et : ElemType) : Bool := fracBits et != 0

/-! ## Rounding, saturation and wrapping -/

/-- `x / 2^k` rounded by RND (11 R371): 0 half to even, 1 half up, 2 truncate. -/
def roundShift (rnd : Nat) (x : Int) (k : Nat) : Int :=
  let q := x / (2 ^ k : Nat)
  let r := x % (2 ^ k : Nat)
  if k = 0 then x
  else match rnd with
    | 0 => if 2 * r > (2 ^ k : Nat) || (2 * r == (2 ^ k : Nat) && q % 2 == 1) then q + 1 else q
    | 1 => if 2 * r ≥ (2 ^ k : Nat) then q + 1 else q
    | _ => q

/-- The number that the low `bits` bits of a code stand for. -/
def partValue (bits n : Nat) : Int :=
  let m := n % 2 ^ bits
  if m < 2 ^ (bits - 1) then m else (m : Int) - (2 ^ bits : Nat)

/-- The code of a number in `bits` bits, wrapped. -/
def partCode (bits : Nat) (x : Int) : Nat := (x % (2 ^ bits : Nat)).toNat

/-- An exact result as its destination holds it, and whether it saturated (11 R370, R372): outside the range the nearest limit where the
operation saturates, and otherwise two's complement. -/
def finish (bits : Nat) (sat : Bool) (x : Int) : Nat × Bool :=
  if !sat then (partCode bits x, false)
  else if x < -(2 ^ (bits - 1) : Nat) then (2 ^ (bits - 1), true)
  else if (2 ^ (bits - 1) : Nat) ≤ x then (2 ^ (bits - 1) - 1, true)
  else (partCode bits x, false)

/-! ## vstat (11 Table 11-4) -/

/-- SAT. -/
def vstatSat (v : BitVec 32) : Bool := v.getLsbD 0

/-- RND. -/
def vstatRnd (v : BitVec 32) : Nat := (v.extractLsb' 1 2).toNat

/-- EMPTY, HEAD and TAIL. -/
def vstatEmpty (v : BitVec 32) : Bool := v.getLsbD 3
/-- HEAD. -/
def vstatHead (v : BitVec 32) : Bool := v.getLsbD 4
/-- TAIL. -/
def vstatTail (v : BitVec 32) : Bool := v.getLsbD 5

/-- VSTART. -/
def vstatStart (v : BitVec 32) : Nat := (v.extractLsb' 16 10).toNat

/-- The fields put together; every other bit reads 0. -/
def vstatOf (start : Nat) (tail head empty : Bool) (rnd : Nat) (sat : Bool) : BitVec 32 :=
  BitVec.ofNat 32 (start % 1024 * 2 ^ 16 + (if tail then 32 else 0) + (if head then 16 else 0) + (if empty then 8 else 0)
    + rnd % 4 * 2 + (if sat then 1 else 0))

/-- vstat with SAT set where `sat` says so: the bit is sticky (11 R372). -/
def vstatSetSat (sat : Bool) (v : BitVec 32) : BitVec 32 := if sat then v ||| 1#32 else v

/-- vstat with VSTART replaced. -/
def vstatSetStart (start : Nat) (v : BitVec 32) : BitVec 32 :=
  vstatOf start (vstatTail v) (vstatHead v) (vstatEmpty v) (vstatRnd v) (vstatSat v)

/-- vstat after a write of a predicate, from which of its elements are active (11 R374). -/
def vstatSetPred (active : List Bool) (v : BitVec 32) : BitVec 32 :=
  vstatOf (vstatStart v) (active.getLastD false) (active.headD false) (!active.any id) (vstatRnd v) (vstatSat v)

/-- vstat as a write of the control register leaves it: the bits that read zero stay so (11 Table 11-4). -/
def vstatWrite (w : BitVec 32) : BitVec 32 := w &&& 0x03FF003F#32

/-- vstat at the start of a task (11 R366, R392): EMPTY, and RND of the program's entry. -/
def vstatStartOfTask (rnd : Nat) : BitVec 32 := vstatOf 0 false false true rnd false

/-! ## One element -/

/-- The exact result of an operation of class 6 on one part, shifts of 64 or more acting as 64 (11 R370, R371; log entry 27). -/
def exactOf (op : VecOp) (rnd : Nat) (bits a b : Nat) : Int :=
  let x := partValue bits a
  let y := partValue bits b
  let k := min 64 (b % 2 ^ bits)
  match op with
  | .add => x + y
  | .sub => x - y
  | .min => min x y
  | .max => max x y
  | .abs => if x < 0 then -x else x
  | .band => partValue bits (Nat.land a b)
  | .bor => partValue bits (Nat.lor a b)
  | .bxor => partValue bits (Nat.xor a b)
  | .shl => x * (2 ^ k : Nat)
  | .shr => roundShift rnd x k
  | .cmpEq | .cmpLt | .cmpLe => 0

/-- Whether an operation is arithmetic, so that a saturating variant of it saturates. -/
def satKind : VecOp → Bool
  | .add | .sub | .abs | .shl | .shr => true
  | _ => false

/-- A function of parts applied to each part of two elements; the code of the result and whether any part saturated. -/
def overParts (et : ElemType) (f : Nat → Nat → Nat × Bool) (a b : Nat) : Nat × Bool :=
  let w := partBits et
  if elemParts et == 2 then
    let lo := f (a % 2 ^ w) (b % 2 ^ w)
    let hi := f (a / 2 ^ w % 2 ^ w) (b / 2 ^ w % 2 ^ w)
    (lo.1 + hi.1 * 2 ^ w, lo.2 || hi.2)
  else f a b

/-- An element of class 6. -/
def arithElem (op : VecOp) (sat : Bool) (rnd : Nat) (et : ElemType) (a b : Nat) : Nat × Bool :=
  overParts et (fun x y => finish (partBits et) ((sat || alwaysSat et) && satKind op) (exactOf op rnd (partBits et) x y)) a b

/-- A compare of two elements; `none` where the spec states no order, LT and LE of complex numbers. -/
def compareElem (op : VecOp) (et : ElemType) (a b : Nat) : Option Bool :=
  let w := 8 * elemBytes et
  match op with
  | .cmpEq => some (a % 2 ^ w == b % 2 ^ w)
  | .cmpLt => if et == .c16 then none else some (decide (partValue w a < partValue w b))
  | .cmpLe => if et == .c16 then none else some (decide (partValue w a ≤ partValue w b))
  | _ => none

/-- The exact product of two parts in units of the result (11 R371). -/
def productOf (rnd : Nat) (et : ElemType) (a b : Nat) : Int :=
  roundShift rnd (partValue (partBits et) a * partValue (partBits et) b) (fracBits et)

/-- The real and imaginary parts of a complex product, or of one with the conjugate of `b`. -/
def complexProduct (conj : Bool) (a b : Nat) : Int × Int :=
  let ai := partValue 16 a
  let aq := partValue 16 (a / 2 ^ 16)
  let bi := partValue 16 b
  let bq := if conj then -partValue 16 (b / 2 ^ 16) else partValue 16 (b / 2 ^ 16)
  (ai * bi - aq * bq, ai * bq + aq * bi)

/-- A complex product as an element. -/
def complexElem (conj sat : Bool) (a b : Nat) : Nat × Bool :=
  let p := complexProduct conj a b
  let i := finish 16 sat p.1
  let q := finish 16 sat p.2
  (i.1 + q.1 * 2 ^ 16, i.2 || q.2)

/-- An element of class 7 whose destination has the elements of its sources: `d` is the destination's old value, which an accumulate
reads, and for a gain `b` holds the gain in each part. -/
def mulElem (op : MulOp) (sat : Bool) (rnd : Nat) (et : ElemType) (d a b : Nat) : Nat × Bool :=
  let w := partBits et
  let sat' := sat || alwaysSat et
  match op with
  | .cmul => complexElem false sat' a b
  | .cmulConj => complexElem true sat' a b
  | .mac =>
    if elemParts et == 2 then
      let p := complexProduct false a b
      let i := finish 16 sat' (partValue 16 d + p.1)
      let q := finish 16 sat' (partValue 16 (d / 2 ^ 16) + p.2)
      (i.1 + q.1 * 2 ^ 16, i.2 || q.2)
    else finish w sat' (partValue w d + productOf rnd et a b)
  | .gain =>
    overParts et (fun x y => finish w true (roundShift rnd (partValue w x * partValue w y) (w - 1))) a b
  | _ => overParts et (fun x y => finish w sat' (productOf rnd et x y)) a b

end Sys2Proof.Machine
end

