-- ==== Sys2Proof/Machine/Operands.lean ====
section
/-! DEFINITION. The operand forms of tile instructions (11): registers, elements of vectors and predicates, and the resolution of a tile
address to a byte of the device with the exceptions of an access. -/

namespace Sys2Proof.Machine

/-! ## Registers (11 R364, R365) -/

/-- A general register: g0 reads 0. -/
def gReg (c : Ctx) (n : Nat) : Word := if n = 0 then 0 else Store.at 0 c.g n

/-- A general register written: a write to g0 is discarded. -/
def setG (c : Ctx) (n : Nat) (w : Word) : Ctx := if n = 0 then c else { c with g := Store.putD 0 c.g n w }

/-- The bits of a long vector of the slot: VL_ACTIVE (11 R398). -/
def State.vl (s : State) (t : Nat) : Nat := s.nat (O.tileVlActive t)

/-- The bytes of a vector operand: VL / 8, or 16 of a short one (11 R365). -/
def vecBytes (s : State) (t : Nat) (long : Bool) : Nat := if long then s.vl t / 8 else 16

/-- The elements of a vector operand. -/
def laneCount (s : State) (t : Nat) (long : Bool) (et : ElemType) : Nat := vecBytes s t long / elemBytes et

/-- The code of a vector register. -/
def vReg (c : Ctx) (long : Bool) (n : Nat) : Nat := if long then (Store.at 0 c.v n).toNat else (Store.at 0 c.s n).toNat

/-- A vector register written; the bits of a long one above VL read 0. -/
def setV (c : Ctx) (long : Bool) (n code : Nat) : Ctx :=
  if long then { c with v := Store.putD 0 c.v n (BitVec.ofNat 4096 code) } else { c with s := Store.putD 0 c.s n (BitVec.ofNat 128 code) }

/-- Element `i` of a code, of `b` bytes (11 R365). -/
def laneOf (b code i : Nat) : Nat := code / 2 ^ (8 * b * i) % 2 ^ (8 * b)

/-- The elements of a vector register. -/
def lanes (c : Ctx) (long : Bool) (n count b : Nat) : List Nat := (List.range count).map fun i => laneOf b (vReg c long n) i

/-- The code of a list of elements. -/
def packLanes (b : Nat) : List Nat → Nat
  | [] => 0
  | x :: t => x % 2 ^ (8 * b) + 2 ^ (8 * b) * packLanes b t

/-- The code of a predicate: p0 reads all ones (11 R364). -/
def pReg (c : Ctx) (n : Nat) : Nat := if n = 0 then 2 ^ 512 - 1 else (Store.at 0 c.p n).toNat

/-- Whether element `i` of `b` bytes is active: the bit of its lowest byte (11 R374). -/
def isActive (b code i : Nat) : Bool := bitOf code (b * i)

/-- The elements that a predicate makes active. -/
def activeOf (c : Ctx) (pg count b : Nat) : List Bool := (List.range count).map fun i => isActive b (pReg c pg) i

/-- The code of a predicate in which the bits of each element are equal (11 R374). -/
def packPred (b : Nat) : List Bool → Nat
  | [] => 0
  | x :: t => (if x then 2 ^ b - 1 else 0) + 2 ^ b * packPred b t

/-- A predicate written over the elements of a type and length: EMPTY, HEAD and TAIL follow from them; the bits above those elements stay;
a write to p0 is discarded (11 R364, R374). -/
def setPred (c : Ctx) (n b : Nat) (active : List Bool) : Ctx :=
  let k := b * active.length
  let code := packPred b active + pReg c n / 2 ^ k * 2 ^ k
  let c := { c with vstat := vstatSetPred active c.vstat }
  if n = 0 then c else { c with p := Store.putD 0 c.p n (BitVec.ofNat 512 code) }

/-- A merge under a predicate: inactive elements keep their values (11 R374). -/
def mergeLanes : List Bool → List Nat → List Nat → List Nat
  | a :: p, x :: new, y :: old => (if a then x else y) :: mergeLanes p new old
  | _, _, old => old

/-- Whether a vector register number is one of the file: 0 to 15 with L = 1 (11 R378), 0 to 31 otherwise. -/
def vNumOk (long : Bool) (n : Nat) : Bool := if long then decide (n < 16) else decide (n < 32)

/-! ## Addresses (11 R360 to R362, Table 11-1) -/

/-- What raises an exception: its code of Table 11-12 and the faulting address. -/
structure Exc where
  code : Nat
  addr : Nat
  deriving DecidableEq, Repr

/-- The bytes of the slot's tile memory: 1 MiB in stretcher bond (11 R400). -/
def tileBytes (s : State) (t : Nat) : Nat := if s.obj (O.bondState (t / 2)) == 1 then 0x100000 else 0x80000

/-- The window of a tile address, if one is there at the level: 0 to 63 at each, 64 to 79 at S and F, 80 to 95 at F. -/
def windowOf (level addr : Nat) : Option Nat :=
  if 0x100000000 ≤ addr then
    let w := (addr - 0x100000000) / 0x10000
    if w < 64 || (w < 80 && 1 ≤ level) || (w < 96 && level == 2) then some w else none
  else none

/-- The device address of a byte of tile code's space, or its exception (11 R360 to R362, R394, R395): MEM_RANGE, MEM_PERM, and then the
responses of the target. -/
def resolve (s : State) (t : Nat) (c : Ctx) (store : Bool) (addr : Nat) : Except Exc Nat :=
  let answer := fun (a : Nat) =>
    if !store && uncorrectable s a then Except.error (Exc.mk 6 addr) else Except.ok a
  if addr < tileBytes s t then
    if c.level == 0 && !(c.kLo.toNat ≤ addr && addr ≤ c.kHi.toNat) then .error ⟨4, addr⟩ else answer (tileCell t addr)
  else match windowOf c.level addr with
    | none => .error ⟨4, addr⟩
    | some w =>
      let r := (Store.at 0 c.wins w).toNat
      if !bitOf r 4 then .error ⟨4, addr⟩
      else if !bitOf r (if store then 1 else 0) then .error ⟨5, addr⟩
      else if bitOf r 3 then answer (tileCell t (r / 2 ^ 16 % 16 * 0x10000 + addr % 0x10000))
      else
        let a := r / 2 ^ 16 % 2 ^ 32 * 0x10000 + addr % 0x10000
        match regionOf s a with
        | .nowhere | .tile _ => .error ⟨4, addr⟩
        | g => if s.runs (regionDomain g) then answer a else .error ⟨7, addr⟩

/-- The device address that a tile address reaches, without the checks of an access. -/
def deviceAddr (t : Nat) (c : Ctx) (addr : Nat) : Nat :=
  match windowOf 2 addr with
  | none => tileCell t addr
  | some w =>
    let r := (Store.at 0 c.wins w).toNat
    if bitOf r 3 then tileCell t (r / 2 ^ 16 % 16 * 0x10000 + addr % 0x10000)
    else r / 2 ^ 16 % 2 ^ 32 * 0x10000 + addr % 0x10000

/-- The first exception of the bytes of an access, each judged in order, or their device addresses. -/
def resolveBytes (s : State) (t : Nat) (c : Ctx) (store : Bool) (addr : Nat) : Nat → Except Exc (List Nat)
  | 0 => .ok []
  | n + 1 =>
    match resolve s t c store addr with
    | .error e => .error e
    | .ok a => match resolveBytes s t c store (addr + 1) n with
      | .error e => .error e
      | .ok l => .ok (a :: l)

/-- A tile address: 64 bits of arithmetic. -/
def addrOf (x : Int) : Nat := (x % (2 ^ 64 : Nat)).toNat

/-! ## Loads and stores (11 R383 to R388) -/

/-- A byte as the task sees it: its own store to a pallet that is not published, or memory (11 R385, R387). -/
def seenByte (s : State) (c : Ctx) (a : Nat) : Byte :=
  match Store.find c.staged a with
  | some b => b
  | none => memByte s.mem a

/-- The number that the bytes of an access spell, lowest first. -/
def loadBytes (s : State) (c : Ctx) (l : List Nat) : Nat := leNat (l.map (seenByte s c))

/-- A load of `n` bytes, ALIGN judged before (11 R388). -/
def loadAt (s : State) (t : Nat) (c : Ctx) (addr n : Nat) : Except Exc Nat :=
  match resolveBytes s t c false addr n with
  | .error e => .error e
  | .ok l => .ok (loadBytes s c l)

/-- Whether an interval of tile addresses meets an extent. -/
def meets (addr n : Nat) (x : Extent) : Bool := decide (addr < x.addr + x.bytes) && decide (x.addr < addr + n)

/-- Whether a store meets an input extent of a live, unsettled job (12 R416). -/
def hitsInput (c : Ctx) (addr n : Nat) : Bool :=
  c.jobs.any fun j => !j.2.settled && j.2.extents.any fun x => !x.out && meets addr n x

/-- The S_ADDR of a FUSED exception (12 R419). -/
def fusedAddr (refusal addr : Nat) : Nat := refusal * 2 ^ 56 + addr % 2 ^ 48

/-- The addresses of the output pallets of a task: a store there is staged until the outputs are published (11 R387). -/
def taskPallets (s : State) (tag : Nat) : List Nat := ((s.op tag).map (·.outBases)).getD []

/-- Whether a device address lies in one of some pallets. -/
def inPallets (l : List Nat) (a : Nat) : Bool := l.any fun p => p ≤ a && a < p + 0x10000

/-- The device addresses that a store to one keeps: in header bond each tile of the pair has its own copy of the tile memory (11 R401). -/
def storedAt (s : State) (a : Nat) : List Nat :=
  match regionOf s a with
  | .tile n => if n % 2 == 0 && s.obj (O.bondState (n / 2)) == 2 then [a, a + 0x100000] else [a]
  | _ => [a]

/-- One byte stored: staged in a pallet of the task, sent and not kept at the feed port, whose feed arrives as KILN_FEED, and elsewhere
written. -/
def storeByte (pallets : List Nat) (p : Ctx × State) (x : Nat × Byte) : Ctx × State :=
  if inPallets pallets x.1 then ({ p.1 with staged := Store.put p.1.staged x.1 x.2 }, p.2)
  else match regionOf p.2 x.1 with
    | .feed => p
    | _ => (p.1, { p.2 with mem := memPutAll ((storedAt p.2 x.1).map fun a => (a, x.2)) p.2.mem })

/-- The bytes of an access stored. -/
def storeBytes (l : List Nat) (v : Bytes) (c : Ctx) (s : State) : Ctx × State :=
  let p := (l.zip v).foldl (storeByte (taskPallets s c.tag)) (c, s)
  (p.1, healed (l.flatMap (storedAt s)) p.2)

/-- A store of the low `n` bytes of a number: its exceptions, then INPUT_WRITE, then the store. -/
def storeAt (t : Nat) (addr n v : Nat) (c : Ctx) (s : State) : Except Exc (Ctx × State) :=
  match resolveBytes s t c true addr n with
  | .error e => .error e
  | .ok l => if hitsInput c addr n then .error ⟨12, fusedAddr 8 addr⟩ else .ok (storeBytes l (leBytes n v) c s)

end Sys2Proof.Machine
end

