-- ==== Sys2Proof/Machine/Tiles.lean ====
section
/-! DEFINITION. Tile instructions (11): each acts on the context of the task that runs on its slot, and on a slot without one, or whose
task has ended, changes nothing. -/

namespace Sys2Proof.Machine

/-! ## Running one instruction -/

/-- The number of tiles. -/
def tileCount : Nat := 200

/-- The state with the context of a slot replaced. -/
def putCtx (t : Nat) (c : Ctx) (s : State) : State := { s with tiles := Store.put s.tiles t c }

/-- The context after an instruction that does not branch. -/
def nextPc (c : Ctx) : Ctx := { c with pc := c.pc + 4 }

/-- An instruction commits. -/
def commitTo (t : Nat) (c : Ctx) (s : State) : State := putCtx t (nextPc c) s

/-- An instruction of slot `t`, by what it does to the context and the state. -/
def onTile (t : Nat) (s : State) (f : Ctx → State → State) : Host.Outcome State Fault Refusal :=
  if tileCount ≤ t then .fault .noSuchUnit
  else match Store.find s.tiles t with
    | some c => if c.ended.isSome then .next s else .next (f c s)
    | none => .next s

/-- The level that takes an exception (11 Table 11-12): MEM_ECC, MEM_ASLEEP, MEM_TIMEOUT and FCALL are taken at F, and so is each raised
above K. -/
def takenAtF (level code : Nat) : Bool := level != 0 || code == 6 || code == 7 || code == 8 || code == 10

/-- How F ends a task on an exception (11 Table 11-13): a call goes on. -/
def fEnds (code : Nat) : Option TaskEnd := if code == 10 then none else if code == 6 then some .dataLost else some .fault

/-- LAST_EXCEPTION (11 Table 11-14). -/
def lastBlob (code level : Nat) (epc addr : Word) : Bytes :=
  leBytes 1 code ++ leBytes 1 level ++ leBytes 6 0 ++ leBytes 8 epc.toNat ++ leBytes 8 addr.toNat

/-- The counters and objects of an exception. -/
def countExc (t : Nat) (c : Ctx) (e : Exc) (s : State) : State :=
  let s := if c.level == 0 then s.bump (O.kExceptions t) 1 else s
  let s := s.setBlob (O.lastException t) (lastBlob e.code c.level c.pc (BitVec.ofNat 64 e.addr))
  if e.code == 12 then (s.bump O.fusedRefused 1).setObj O.fusedLastRefusal (e.addr / 2 ^ 56 : Nat) else s

/-- The counters and objects of an exception of an access that the tile makes now; one of MEM_ECC is a read error that 15 R522 logs. -/
def noteExc (t : Nat) (c : Ctx) (e : Exc) (s : State) : State :=
  let s := countExc t c e s
  if e.code == 6 then metPoison (deviceAddr t c e.addr) s else s

/-- Entering an exception (11 R393 to R395). S keeps the address of the instruction in S_EPC, the code with bit 8 in S_CAUSE and the
address in S_ADDR, and runs from S_TVEC; what F takes ends the task, unless it is a call, which F returns from to the next
instruction. -/
def enterExc (t : Nat) (c : Ctx) (e : Exc) (s : State) : State :=
  if takenAtF c.level e.code then
    putCtx t { c with level := 2, prev := c.level, fEpc := if e.code == 10 then c.pc + 4 else c.pc, ended := fEnds e.code } s
  else
    putCtx t { c with level := 1, prev := 0, sEpc := c.pc, sCause := BitVec.ofNat 32 (e.code + 256)
                      sAddr := BitVec.ofNat 64 e.addr, pc := c.sTvec.setWidth 64 } s

/-- Taking an exception: it is counted, and entered. -/
def takeExc (t : Nat) (c : Ctx) (e : Exc) (s : State) : State := enterExc t c e (noteExc t c e s)

/-- An instruction that either raises an exception, or leaves a context and a state and commits. -/
def orTake (t : Nat) (c : Ctx) (s : State) (r : Except Exc (Ctx × State)) : State :=
  match r with
  | .error e => takeExc t c e s
  | .ok p => commitTo t p.1 p.2

/-- ILLEGAL (11 Table 11-12). -/
def illegal : Exc := ⟨1, 0⟩

/-- PRIVILEGE. -/
def privilege : Exc := ⟨2, 0⟩

/-! ## Scalar classes (11 Tables 11-8, 11-9) -/

/-- A scalar operation on two words; a shift takes the low six bits of its amount (log entry 27). The quotients that the spec does not
state are free values (log entry 11). -/
def scalarValue (op : ScalarOp) (a b : Word) : Word :=
  let bit := fun (x : Bool) => if x then (1 : Word) else 0
  match op with
  | .add => a + b
  | .sub => a - b
  | .band => a &&& b
  | .bor => a ||| b
  | .bxor => a ^^^ b
  | .sll => a <<< (b.toNat % 64)
  | .srl => a >>> (b.toNat % 64)
  | .sra => a.sshiftRight (b.toNat % 64)
  | .setEq => bit (a == b)
  | .setNe => bit (a != b)
  | .setLt => bit (a.slt b)
  | .setGe => bit (!a.slt b)
  | .setLtu => bit (a.ult b)
  | .setGeu => bit (!a.ult b)
  | .mul => a * b
  | .div signed =>
    if b = 0 then Config.divByZero a signed
    else if signed then (if a = BitVec.intMin 64 ∧ b = BitVec.allOnes 64 then Config.divOverflow a else a.sdiv b)
    else a / b
  | .jumpReg _ => 0

/-- A scalar operation on two operands: a register jump goes to the sum of them and links into gd, any other writes gd. -/
def scalarOp (t : Nat) (op : ScalarOp) (gd : Nat) (a b : Word) (c : Ctx) (s : State) : State :=
  match op with
  | .jumpReg link =>
    let c' := if link then setG c gd (c.pc + 4) else c
    putCtx t { c' with pc := a + b } s
  | _ => commitTo t (setG c gd (scalarValue op a b)) s

/-- SCALAR_REGISTER_OP. -/
def execScalarRegisterOp (t : Nat) (op : ScalarOp) (gd ga gb : Nat) (s : State) : Host.Outcome State Fault Refusal :=
  onTile t s fun c s => scalarOp t op gd (gReg c ga) (gReg c gb) c s

/-- SCALAR_IMMEDIATE_OP: the same with a 14-bit signed immediate. -/
def execScalarImmediateOp (t : Nat) (op : ScalarOp) (gd ga : Nat) (imm : Int) (s : State) : Host.Outcome State Fault Refusal :=
  onTile t s fun c s => scalarOp t op gd (gReg c ga) (BitVec.ofInt 64 imm) c s

/-- WIDE_IMMEDIATE: a 16-bit field placed into a register, whose other fields stay or become 0. -/
def execWideImmediate (t gd field : Nat) (keep : Bool) (imm : Nat) (s : State) : Host.Outcome State Fault Refusal :=
  onTile t s fun c s =>
    let k := 16 * (field % 4)
    let old := if keep then (gReg c gd).toNat else 0
    commitTo t (setG c gd (BitVec.ofNat 64 (old - old / 2 ^ k % 2 ^ 16 * 2 ^ k + imm % 2 ^ 16 * 2 ^ k))) s

/-- Whether a scalar access size is one of 1, 2, 4 and 8 bytes. -/
def sizeOk (n : Nat) : Bool := n == 1 || n == 2 || n == 4 || n == 8

/-- SCALAR_LOAD: offsets count access sizes (11 R377). -/
def execScalarLoad (t gd ga : Nat) (offset : Int) (size : Nat) (signed : Bool) (s : State) : Host.Outcome State Fault Refusal :=
  onTile t s fun c s =>
    let a := addrOf ((gReg c ga).toNat + offset * size)
    orTake t c s
      (if !sizeOk size then .error illegal
       else if a % size != 0 then .error ⟨3, a⟩
       else match loadAt s t c a size with
        | .error e => .error e
        | .ok v => .ok (setG c gd (BitVec.ofInt 64 (if signed then partValue (8 * size) v else v)), s))

/-- SCALAR_STORE. -/
def execScalarStore (t gd ga : Nat) (offset : Int) (size : Nat) (s : State) : Host.Outcome State Fault Refusal :=
  onTile t s fun c s =>
    let a := addrOf ((gReg c ga).toNat + offset * size)
    orTake t c s
      (if !sizeOk size then .error illegal
       else if a % size != 0 then .error ⟨3, a⟩
       else storeAt t a size (gReg c gd).toNat c s)

/-- Whether a branch is taken (11 R378); `none` for the undefined conditions. -/
def condHolds (cond : Cond) (a b : Word) (v : BitVec 32) : Option Bool :=
  match cond with
  | .eq => some (a == b)
  | .ne => some (a != b)
  | .lt => some (a.slt b)
  | .ge => some (!a.slt b)
  | .ltu => some (a.ult b)
  | .geu => some (!a.ult b)
  | .undefined _ => none
  | .empty => some (vstatEmpty v)
  | .notEmpty => some (!vstatEmpty v)
  | .head => some (vstatHead v)
  | .tail => some (vstatTail v)

/-- A relative target: offsets count instructions, from the instruction itself (11 R377; log entry 27). -/
def target (c : Ctx) (offset : Int) : Word := c.pc + BitVec.ofInt 64 (4 * offset)

/-- A branch: the target where it is taken, otherwise the next instruction. -/
def branchTo (t : Nat) (taken : Bool) (offset : Int) (c : Ctx) (s : State) : State :=
  if taken then putCtx t { c with pc := target c offset } s else commitTo t c s

/-- BRANCH. -/
def execBranch (t : Nat) (cond : Cond) (ga gb : Nat) (offset : Int) (s : State) : Host.Outcome State Fault Refusal :=
  onTile t s fun c s =>
    match condHolds cond (gReg c ga) (gReg c gb) c.vstat with
    | some b => branchTo t b offset c s
    | none => takeExc t c illegal s

/-- JUMP: with link, g31 takes the address of the next instruction. -/
def execJump (t : Nat) (link : Bool) (offset : Int) (s : State) : Host.Outcome State Fault Refusal :=
  onTile t s fun c s =>
    putCtx t { (if link then setG c 31 (c.pc + 4) else c) with pc := target c offset } s

/-! ## Vector arithmetic, multiply and permute (11 R369 to R374) -/

/-- A list of codes with whether any of them saturated, counting active elements only (11 R372). -/
def anySat : List Bool → List (Nat × Bool) → Bool
  | a :: p, x :: t => (a && x.2) || anySat p t
  | _, _ => false

/-- The context after a vector result of `b`-byte elements: merged under the predicate, with SAT. -/
def writeLanes (c : Ctx) (long : Bool) (d b : Nat) (active : List Bool) (r : List (Nat × Bool)) : Ctx :=
  let old := lanes c long d r.length b
  let c' := setV c long d (packLanes b (mergeLanes active (r.map (·.1)) old))
  { c' with vstat := vstatSetSat (anySat active r) c'.vstat }

/-- The elements of an operation over two lists. -/
def zipLanes (f : Nat → Nat → Nat × Bool) : List Nat → List Nat → List (Nat × Bool)
  | a :: x, b :: y => f a b :: zipLanes f x y
  | _, _ => []

/-- The elements of an operation over a destination's old values and two lists. -/
def zipLanes3 (f : Nat → Nat → Nat → Nat × Bool) : List Nat → List Nat → List Nat → List (Nat × Bool)
  | d :: w, a :: x, b :: y => f d a b :: zipLanes3 f w x y
  | _, _, _ => []

/-- Whether the registers that a V-format instruction names as vectors, and its predicate, are of their files. -/
def vFieldsOk (f : VFields) (d a b : Bool) : Bool :=
  elemKnown f.et && decide (f.pg < 8) && (!d || vNumOk f.long f.d) && (!a || vNumOk f.long f.a) && (!b || vNumOk f.long f.b)

/-- Whether an operation of class 6 is a compare, which writes a predicate. -/
def isCompare : VecOp → Bool
  | .cmpEq | .cmpLt | .cmpLe => true
  | _ => false

/-- The elements of a compare: an inactive element keeps its state, and where the spec states no order the answer is a free value (log
entry 12). -/
def compareLanes (op : VecOp) (et : ElemType) (ctr : Nat) : List Bool → List Bool → List Nat → List Nat → List Bool
  | p :: pg, o :: old, a :: x, b :: y =>
    (if p then (compareElem op et a b).getD ((Config.freeWord (ctr + x.length)).getLsbD 0) else o)
      :: compareLanes op et ctr pg old x y
  | _, _, _, _ => []

/-- VECTOR_ARITHMETIC. -/
def execVectorArithmetic (t : Nat) (op : VecOp) (sat : Bool) (f : VFields) (s : State) : Host.Outcome State Fault Refusal :=
  onTile t s fun c s =>
    let b := elemBytes f.et
    let n := laneCount s t f.long f.et
    let active := activeOf c f.pg n b
    let x := lanes c f.long f.a n b
    let y := lanes c f.long f.b n b
    if isCompare op then
      if !vFieldsOk f false true true || 8 ≤ f.d then takeExc t c illegal s
      else
        let old := activeOf c f.d n b
        commitTo t (setPred c f.d b (compareLanes op f.et s.freeCtr active old x y)) { s with freeCtr := s.freeCtr + n }
    else if !vFieldsOk f true true true then takeExc t c illegal s
    else commitTo t (writeLanes c f.long f.d b active (zipLanes (arithElem op sat (vstatRnd c.vstat) f.et) x y)) s

/-- The widening accumulate of R373: the two accumulators after one pass, with whether they saturated. For cint16 they take the I and Q
parts of each element's product, and otherwise the even and the odd elements. -/
def macWide (conj : Bool) (et : ElemType) (x y active : List Nat) (d0 d1 : List Nat) : List (Nat × Bool) × List (Nat × Bool) :=
  let acc := fun (d : Nat) (p : Int) (on : Bool) => if on then finish 32 true (partValue 32 d + p) else (d, false)
  let at' := fun (l : List Nat) i => l.getD i 0
  let idx := List.range d0.length
  if et == .c16 then
    (idx.map fun i => acc (at' d0 i) (complexProduct conj (at' x i) (at' y i)).1 (at' active i == 1),
     idx.map fun i => acc (at' d1 i) (complexProduct conj (at' x i) (at' y i)).2 (at' active i == 1))
  else
    let p := fun i => partValue 16 (at' x i) * partValue 16 (at' y i)
    (idx.map fun i => acc (at' d0 i) (p (2 * i)) (at' active (2 * i) == 1),
     idx.map fun i => acc (at' d1 i) (p (2 * i + 1)) (at' active (2 * i + 1) == 1))

/-- The four-way dot product of int8 elements, added to an int32 element. -/
def dotElem (sat : Bool) (d a b : Nat) : Nat × Bool :=
  finish 32 sat (partValue 32 d + ((List.range 4).map fun j => partValue 8 (laneOf 1 a j) * partValue 8 (laneOf 1 b j)).sum)

/-- Whether a multiply exists for a type (11 R370, R371, R373): complex forms take cint16, the gain the types of 16-bit parts and Q31,
widening the types of 16-bit parts, and the dot product int8; any other raises ILLEGAL. -/
def mulDefined (op : MulOp) (et : ElemType) : Bool :=
  match op with
  | .mul | .mac => elemKnown et
  | .gain => et == .c16 || et == .q15 || et == .i16 || et == .q31
  | .cmul | .cmulConj => et == .c16
  | .macWiden conj => if conj then et == .c16 else et == .c16 || et == .q15 || et == .i16
  | .dot8 => et == .i8

/-- The gain of a general register in each part of an element. -/
def gainLane (et : ElemType) (w : Word) : Nat :=
  let x := w.toNat % 2 ^ partBits et
  if elemParts et == 2 then x + x * 2 ^ partBits et else x

/-- A widening accumulate: an odd d, or a pair that leaves the file, raises ILLEGAL. -/
def runMacWiden (t : Nat) (conj : Bool) (f : VFields) (c : Ctx) (s : State) : State :=
  if f.d % 2 == 1 || !vNumOk f.long (f.d + 1) then takeExc t c illegal s
  else
    let n := laneCount s t f.long f.et
    let b := elemBytes f.et
    let k := vecBytes s t f.long / 4
    let on := (activeOf c f.pg n b).map fun (x : Bool) => if x then 1 else 0
    let r := macWide conj f.et (lanes c f.long f.a n b) (lanes c f.long f.b n b) on (lanes c f.long f.d k 4) (lanes c f.long (f.d + 1) k 4)
    let sat := (r.1 ++ r.2).any (·.2)
    let c' := setV (setV c f.long f.d (packLanes 4 (r.1.map (·.1)))) f.long (f.d + 1) (packLanes 4 (r.2.map (·.1)))
    commitTo t { c' with vstat := vstatSetSat sat c'.vstat } s

/-- VECTOR_MULTIPLY. -/
def execVectorMultiply (t : Nat) (op : MulOp) (sat : Bool) (f : VFields) (s : State) : Host.Outcome State Fault Refusal :=
  onTile t s fun c s =>
    let isGain := match op with
      | .gain => true
      | _ => false
    if !mulDefined op f.et || !vFieldsOk f true true (!isGain) || 32 ≤ f.b then takeExc t c illegal s
    else match op with
      | .macWiden conj => runMacWiden t conj f c s
      | .dot8 =>
        let k := vecBytes s t f.long / 4
        commitTo t (writeLanes c f.long f.d 4 (activeOf c f.pg k 4)
          (zipLanes3 (dotElem sat) (lanes c f.long f.d k 4) (lanes c f.long f.a k 4) (lanes c f.long f.b k 4))) s
      | _ =>
        let b := elemBytes f.et
        let n := laneCount s t f.long f.et
        let y := if isGain then List.replicate n (gainLane f.et (gReg c f.b)) else lanes c f.long f.b n b
        commitTo t (writeLanes c f.long f.d b (activeOf c f.pg n b)
          (zipLanes3 (mulElem op sat (vstatRnd c.vstat) f.et) (lanes c f.long f.d n b) (lanes c f.long f.a n b) y)) s

/-- Element `i` of a list, a free value where it has none (log entry 12). -/
def laneOrFree (ctr : Nat) (b : Nat) (l : List Nat) (i : Nat) : Nat :=
  if i < l.length then l.getD i 0 else (Config.freeWord ctr).toNat % 2 ^ (8 * b)

/-- A narrowing conversion of one element of twice the width (11 R371, R372): Q31 gives Q15 by discarding 16 bits, an integer keeps its
value. -/
def narrowElem (sat : Bool) (rnd : Nat) (et : ElemType) (a : Nat) : Nat × Bool :=
  let w := partBits et
  if et == .q15 then finish w true (roundShift rnd (partValue 32 a) 16) else finish w sat (partValue (2 * w) a)

/-- The value that a reduction writes: the sum, least or greatest of the active elements, sign-extended. What the spec does not state, a
least of none and an order of complex numbers, is a free value. -/
def reduceValue (op : PermOp) (et : ElemType) (ctr : Nat) (l : List Nat) : Word :=
  let vals := l.map fun x => partValue (8 * elemBytes et) x
  if et == .c16 then Config.freeWord ctr
  else match op, vals with
    | .reduceAdd, v => BitVec.ofInt 64 v.sum
    | .reduceMin, v :: r => BitVec.ofInt 64 (r.foldl min v)
    | .reduceMax, v :: r => BitVec.ofInt 64 (r.foldl max v)
    | _, _ => Config.freeWord ctr

/-- The elements that an active list picks. -/
def pickLanes : List Bool → List Nat → List Nat
  | a :: p, x :: t => if a then x :: pickLanes p t else pickLanes p t
  | _, _ => []

/-- The vector result of a permute: broadcast of a general register, a move, the interleave of two halves, a lane table, or a narrowing of
two vectors of twice the width. -/
def permLanes (op : PermOp) (sat : Bool) (rnd ctr : Nat) (et : ElemType) (g : Word) (x y wideX wideY : List Nat) : List (Nat × Bool) :=
  let n := x.length
  let plain := fun (l : List Nat) => l.map fun v => (v, false)
  match op with
  | .broadcast => plain (List.replicate n (g.toNat % 2 ^ (8 * elemBytes et)))
  | .moveV => plain x
  | .interleaveLo => plain ((List.range n).map fun i => if i % 2 == 0 then x.getD (i / 2) 0 else y.getD (i / 2) 0)
  | .interleaveHi => plain ((List.range n).map fun i => if i % 2 == 0 then x.getD (n / 2 + i / 2) 0 else y.getD (n / 2 + i / 2) 0)
  | .laneTable => plain ((List.range n).map fun i => laneOrFree (ctr + i) (elemBytes et) x (y.getD i 0))
  | .narrow => (wideX ++ wideY).map (narrowElem sat rnd et)
  | _ => plain x

/-- Whether a permute reads field `b` as a vector. -/
def permReadsB : PermOp → Bool
  | .interleaveLo | .interleaveHi | .laneTable | .narrow => true
  | _ => false

/-- Whether a permute writes a general register. -/
def permToG : PermOp → Bool
  | .toG | .reduceAdd | .reduceMin | .reduceMax => true
  | _ => false

/-- VECTOR_PERMUTE: with a general destination, the element that the register of field `b` numbers, or a reduction of the active ones. -/
def execVectorPermute (t : Nat) (op : PermOp) (sat : Bool) (f : VFields) (s : State) : Host.Outcome State Fault Refusal :=
  onTile t s fun c s =>
    let b := elemBytes f.et
    let n := laneCount s t f.long f.et
    let x := lanes c f.long f.a n b
    let active := activeOf c f.pg n b
    let needsA := match op with
      | .broadcast => false
      | _ => true
    let narrowOk := match op with
      | .narrow => f.et == .i8 || f.et == .i16 || f.et == .q15
      | _ => true
    let s' := { s with freeCtr := s.freeCtr + n }
    if !vFieldsOk f (!permToG op) needsA (permReadsB op) || !narrowOk || 32 ≤ f.b || 32 ≤ f.d then takeExc t c illegal s
    else if permToG op then
      let v := match op with
        | .toG =>
          let i := (gReg c f.b).toNat
          if i < n then BitVec.ofInt 64 (partValue (8 * b) (x.getD i 0)) else Config.freeWord s.freeCtr
        | _ => reduceValue op f.et s.freeCtr (pickLanes active x)
      commitTo t (setG c f.d v) s'
    else
      let y := lanes c f.long f.b n b
      let wide := fun r => lanes c f.long r (n / 2) (2 * b)
      commitTo t (writeLanes c f.long f.d b active
        (permLanes op sat (vstatRnd c.vstat) s.freeCtr f.et (gReg c f.b) x y (wide f.a) (wide f.b))) s'

/-! ## Vector memory (11 R388) -/

/-- The address of each element: `base + i × gs × b`, with unit stride where the field names g0. -/
def vmAddrs (c : Ctx) (f : VMFields) (n : Nat) : List Nat :=
  let b := elemBytes f.et
  let stride : Int := if f.gs = 0 then 1 else (gReg c f.gs).toInt
  (List.range n).map fun i : Nat => addrOf ((gReg c f.base).toNat + (i : Int) * stride * b)

/-- What a VM-format instruction raises before its accesses: ILLEGAL, then ALIGN of its base. -/
def vmCheck (c : Ctx) (f : VMFields) : Option Exc :=
  if !elemKnown f.et || !vNumOk f.long f.d || 8 ≤ f.pg || 32 ≤ f.base || 32 ≤ f.gs then some illegal
  else if (gReg c f.base).toNat % elemBytes f.et != 0 then some ⟨3, (gReg c f.base).toNat⟩
  else none

/-- The elements loaded from a list of addresses: inactive ones read as zero, and the lowest that faults decides. -/
def loadLanes (s : State) (t : Nat) (c : Ctx) (b : Nat) : List Bool → List Nat → Except Exc (List Nat)
  | a :: p, x :: l =>
    match (if a then loadAt s t c x b else .ok 0) with
    | .error e => .error e
    | .ok v => match loadLanes s t c b p l with
      | .error e => .error e
      | .ok r => .ok (v :: r)
  | _, _ => .ok []

/-- VECTOR_LOAD. -/
def execVectorLoad (t : Nat) (f : VMFields) (s : State) : Host.Outcome State Fault Refusal :=
  onTile t s fun c s =>
    let b := elemBytes f.et
    let n := laneCount s t f.long f.et
    match vmCheck c f with
    | some e => takeExc t c e s
    | none =>
      match loadLanes s t c b (activeOf c f.pg n b) (vmAddrs c f n) with
      | .error e => takeExc t c e s
      | .ok l => commitTo t (setV c f.long f.d (packLanes b l)) s

/-- The stores of active elements, in order; the lowest that faults decides, and nothing of the instruction is stored then. -/
def storeLanes (t b : Nat) : List Bool → List Nat → List Nat → Ctx → State → Except Exc (Ctx × State)
  | a :: p, x :: l, v :: r, c, s =>
    match (if a then storeAt t x b v c s else .ok (c, s)) with
    | .error e => .error e
    | .ok q => storeLanes t b p l r q.1 q.2
  | _, _, _, c, s => .ok (c, s)

/-- VECTOR_STORE. -/
def execVectorStore (t : Nat) (f : VMFields) (s : State) : Host.Outcome State Fault Refusal :=
  onTile t s fun c s =>
    let b := elemBytes f.et
    let n := laneCount s t f.long f.et
    match vmCheck c f with
    | some e => takeExc t c e s
    | none => orTake t c s (storeLanes t b (activeOf c f.pg n b) (vmAddrs c f n) (lanes c f.long f.d n b) c s)

/-! ## Gather and scatter (11 R389 to R391) -/

/-- The elements of a gather or scatter, of four bytes. -/
def vgCount (s : State) (t : Nat) : Nat := s.vl t / 32

/-- The address of element `i`: the base and an unsigned 32-bit offset. -/
def vgAddr (c : Ctx) (f : VGFields) (i : Nat) : Nat := addrOf ((gReg c f.base).toNat + (laneOf 4 (vReg c true f.vi) i : Nat))

/-- What a VG-format instruction raises before its accesses: another type, or a register that is not of its file, is ILLEGAL, and a base
that is not a multiple of 4 is ALIGN. -/
def vgCheck (c : Ctx) (f : VGFields) : Option Exc :=
  if !(f.et == .i32 || f.et == .c16 || f.et == .q31) || 16 ≤ f.vd || 16 ≤ f.vi || 8 ≤ f.pg || 32 ≤ f.base then some illegal
  else if (gReg c f.base).toNat % 4 != 0 then some ⟨3, (gReg c f.base).toNat⟩
  else none

/-- What a gather finds from element VSTART on: the values of the active elements loaded, and the first element that faults. -/
structure Gathered where
  vals  : List (Nat × Nat)
  fault : Option (Nat × Exc)
  deriving DecidableEq, Repr

/-- The active elements in ascending order, from a list of their numbers. -/
def gatherFrom (s : State) (t : Nat) (c : Ctx) (f : VGFields) : List Nat → Gathered
  | [] => ⟨[], none⟩
  | i :: l =>
    match loadAt s t c (vgAddr c f i) 4 with
    | .error e => ⟨[], some (i, ⟨e.code, vgAddr c f i⟩)⟩
    | .ok v =>
      let r := gatherFrom s t c f l
      ⟨(i, v) :: r.vals, r.fault⟩

/-- The active elements at or above VSTART. -/
def vgActive (s : State) (t : Nat) (c : Ctx) (f : VGFields) : List Nat :=
  (List.range (vgCount s t)).filter fun i => isActive 4 (pReg c f.pg) i && decide (vstatStart c.vstat ≤ i)

/-- The destination of a gather with some elements written; with `clear`, those that the predicate leaves inactive read zero. -/
def gatherWrite (s : State) (t : Nat) (c : Ctx) (f : VGFields) (vals : List (Nat × Nat)) (clear : Nat → Bool) : Ctx :=
  setV c true f.vd (packLanes 4 ((List.range (vgCount s t)).map fun i =>
    match Store.find vals i with
    | some v => v
    | none => if clear i then 0 else laneOf 4 (vReg c true f.vd) i))

/-- A gather traps at element `k`: the elements below it are written, and VSTART is `k` (11 R390). -/
def gatherTrap (s : State) (t : Nat) (c : Ctx) (f : VGFields) (vals : List (Nat × Nat)) (k : Nat) (e : Exc) : State :=
  let c := gatherWrite s t c f vals fun _ => false
  takeExc t { c with vstat := vstatSetStart k c.vstat } e s

/-- A gather completes: inactive elements read zero, and VSTART is 0. -/
def gatherDone (s : State) (t : Nat) (c : Ctx) (f : VGFields) (vals : List (Nat × Nat)) : State :=
  let c := gatherWrite s t c f vals fun i => !isActive 4 (pReg c f.pg) i
  commitTo t { c with vstat := vstatSetStart 0 c.vstat } s

/-- GATHER. -/
def execGather (t : Nat) (f : VGFields) (s : State) : Host.Outcome State Fault Refusal :=
  onTile t s fun c s =>
    match vgCheck c f with
    | some e => takeExc t c e s
    | none =>
      let r := gatherFrom s t c f (vgActive s t c f)
      match r.fault with
      | some (k, e) => gatherTrap s t c f r.vals k e
      | none => gatherDone s t c f r.vals

/-- The stores of a scatter in ascending order: the state with those before the first that faults, and that one. -/
def scatterFrom (t : Nat) (f : VGFields) : List Nat → Ctx → State → (Ctx × State) × Option (Nat × Exc)
  | [], c, s => ((c, s), none)
  | i :: l, c, s =>
    match storeAt t (vgAddr c f i) 4 (laneOf 4 (vReg c true f.vd) i) c s with
    | .error e => ((c, s), some (i, ⟨e.code, if e.code = 12 then e.addr else vgAddr c f i⟩))
    | .ok q => scatterFrom t f l q.1 q.2

/-- SCATTER: with FF set it is ILLEGAL. -/
def execScatter (t : Nat) (ff : Bool) (f : VGFields) (s : State) : Host.Outcome State Fault Refusal :=
  onTile t s fun c s =>
    match (if ff then some illegal else vgCheck c f) with
    | some e => takeExc t c e s
    | none =>
      match scatterFrom t f (vgActive s t c f) c s with
      | ((c', s'), some (k, e)) => takeExc t { c' with vstat := vstatSetStart k c'.vstat } e s'
      | ((c', s'), none) => commitTo t { c' with vstat := vstatSetStart 0 c'.vstat } s'

/-- ffr as a first-fault gather sets it (11 Table 11-5). -/
def ffrOf (e : Exc) (k : Nat) : Word :=
  BitVec.ofNat 64 (2 ^ 63 + e.code % 16 * 2 ^ 59 + k % 1024 * 2 ^ 48 + e.addr % 2 ^ 48)

/-- A first-fault gather ends at a later active element `k`: pg loses it and every higher element, what is inactive now reads zero, and ffr
says why (11 R391). -/
def firstFault (s : State) (t : Nat) (c : Ctx) (f : VGFields) (vals : List (Nat × Nat)) (k : Nat) (e : Exc) : State :=
  let kept := (List.range (vgCount s t)).map fun i => isActive 4 (pReg c f.pg) i && decide (i < k)
  let c := gatherWrite s t c f vals fun i => !(kept.getD i false)
  let c := setPred c f.pg 4 kept
  commitTo t { c with ffr := ffrOf e k, vstat := vstatSetStart 0 c.vstat } s

/-- FIRST_FAULT_GATHER: it traps only at the lowest active element at or above VSTART; pg = p0 is ILLEGAL. -/
def execFirstFaultGather (t : Nat) (f : VGFields) (s : State) : Host.Outcome State Fault Refusal :=
  onTile t s fun c s =>
    match (if f.pg = 0 then some illegal else vgCheck c f) with
    | some e => takeExc t c e s
    | none =>
      let act := vgActive s t c f
      let r := gatherFrom s t c f act
      match r.fault with
      | some (k, e) => if act.head? == some k then gatherTrap s t c f r.vals k e else firstFault s t c f r.vals k e
      | none => gatherDone s t c f r.vals

/-! ## Predicates (11 R374, R375) -/

/-- PSPAN: element `i` is active when ga + i < gb, as unsigned 64-bit values. -/
def execPspan (t : Nat) (short : Bool) (pd ga gb : Nat) (et : ElemType) (s : State) : Host.Outcome State Fault Refusal :=
  onTile t s fun c s =>
    if !elemKnown et || 8 ≤ pd then takeExc t c illegal s
    else
      let k := (gReg c gb).toNat - (gReg c ga).toNat
      commitTo t (setPred c pd (elemBytes et) ((List.range (laneCount s t (!short) et)).map fun i => decide (i < k))) s

/-- The elements of a predicate operation. -/
def predLanes (op : PredOp) : List Bool → List Bool → List Bool
  | a :: x, b :: y => (match op with
    | .pand => a && b
    | .por => a || b
    | .pxor => a != b
    | .pnot => !a
    | .count => a) :: predLanes op x y
  | _, _ => []

/-- PREDICATE_OP: logic over the elements of the long vector, or the count of the active elements of pa into a general register. -/
def execPredicateOp (t : Nat) (op : PredOp) (pd pa pb gd : Nat) (et : ElemType) (s : State) : Host.Outcome State Fault Refusal :=
  onTile t s fun c s =>
    let b := elemBytes et
    let n := laneCount s t true et
    if !elemKnown et || 8 ≤ pd || 8 ≤ pa || 8 ≤ pb || 32 ≤ gd then takeExc t c illegal s
    else match op with
      | .count => commitTo t (setG c gd (BitVec.ofNat 64 ((activeOf c pa n b).filter id).length)) s
      | _ => commitTo t (setPred c pd b (predLanes op (activeOf c pa n b) (activeOf c pb n b))) s

/-! ## The system class (11 R368, R386, R392 to R396) -/

/-- VCFG (11 Table 11-6). -/
def vcfg (s : State) (t : Nat) : Word := BitVec.ofNat 64 (s.vl t % 2 ^ 13 + s.nat (O.bondState (t / 2)) % 4 * 2 ^ 13)

/-- A control register read: `none` for a number that the table does not list. CYCLES is a free value (log entry 12). -/
def readControl (s : State) (t : Nat) (c : Ctx) (number : Nat) : Option Word :=
  match number with
  | 0x000 => some (c.vstat.setWidth 64)
  | 0x001 => some c.ffr
  | 0x002 => some (vcfg s t)
  | 0x003 => some (Config.freeWord s.freeCtr)
  | 0x010 => some (c.kLo.setWidth 64)
  | 0x011 => some (c.kHi.setWidth 64)
  | 0x020 => some c.sEpc
  | 0x021 => some (c.sCause.setWidth 64)
  | 0x022 => some c.sAddr
  | 0x023 => some c.sScratch
  | 0x024 => some (c.sTvec.setWidth 64)
  | 0x0A0 => some (BitVec.ofNat 64 (c.level + 4 * c.prev))
  | n => if 0x040 ≤ n && n ≤ 0x08F then some (Store.at 0 c.wins (n - 0x040)) else none

/-- The lowest level that may access a control register. -/
def controlLevel (number : Nat) : Nat := if number ≤ 0x003 then 0 else 1

/-- Whether a control register is RW. -/
def controlWritable (number : Nat) : Bool :=
  number == 0x000 || number == 0x001 || number == 0x010 || number == 0x011 || number == 0x020 || number == 0x023 || number == 0x024

/-- A control register written. -/
def writeControl (c : Ctx) (number : Nat) (w : Word) : Ctx :=
  match number with
  | 0x000 => { c with vstat := vstatWrite (w.setWidth 32) }
  | 0x001 => { c with ffr := w }
  | 0x010 => { c with kLo := w.setWidth 32 }
  | 0x011 => { c with kHi := w.setWidth 32 }
  | 0x020 => { c with sEpc := w }
  | 0x023 => { c with sScratch := w }
  | 0x024 => { c with sTvec := w.setWidth 32 }
  | _ => c

/-- CONTROL_REGISTER_ACCESS: an unlisted number, or RND 3, is ILLEGAL; a level too low, or a write of a register that is RO, PRIVILEGE. -/
def execControlRegisterAccess (t : Nat) (write : Bool) (g number : Nat) (s : State) : Host.Outcome State Fault Refusal :=
  onTile t s fun c s =>
    match readControl s t c number with
    | none => takeExc t c illegal s
    | some v =>
      if write then
        if number == 0x000 && vstatRnd ((gReg c g).setWidth 32) == 3 then takeExc t c illegal s
        else if decide (c.level < controlLevel number) || !controlWritable number then takeExc t c privilege s
        else commitTo t (writeControl c number (gReg c g)) s
      else if c.level < controlLevel number then takeExc t c privilege s
      else commitTo t (setG c g v) (if number == 0x003 then { s with freeCtr := s.freeCtr + 1 } else s)

/-- FENCE: stores are released as they commit, so nothing is outstanding and it only advances the pc (log entry 27). -/
def execFence (t : Nat) (s : State) : Host.Outcome State Fault Refusal := onTile t s fun c s => commitTo t c s

/-- SYSCALL. -/
def execSyscall (t : Nat) (s : State) : Host.Outcome State Fault Refusal := onTile t s fun c s => takeExc t c ⟨9, 0⟩ s

/-- FCALL. -/
def execFcall (t : Nat) (s : State) : Host.Outcome State Fault Refusal := onTile t s fun c s => takeExc t c ⟨10, 0⟩ s

/-- BREAK. -/
def execBreakpoint (t : Nat) (s : State) : Host.Outcome State Fault Refusal := onTile t s fun c s => takeExc t c ⟨11, 0⟩ s

/-- ERET: S returns to K, from S_EPC; F returns to the level that called it; at K it is PRIVILEGE. -/
def execEret (t : Nat) (s : State) : Host.Outcome State Fault Refusal :=
  onTile t s fun c s =>
    if c.level == 0 then takeExc t c privilege s
    else if c.level == 1 then putCtx t { c with level := 0, prev := 1, pc := c.sEpc } s
    else putCtx t { c with level := c.prev, prev := 2, pc := c.fEpc } s

/-- The end that TEND gives: 0 OK and 1 FAULT; for any other value the spec states none (log entry 15). -/
def tendStatus (w : Word) (ctr : Nat) : TaskEnd :=
  if w = 0 then .ok else if w = 1 then .fault else if (Config.freeWord ctr).getLsbD 0 then .ok else .fault

/-- TEND: the task ends with the status in a general register; the tile reports the end once its fused operations are settled (11 R396). -/
def execTend (t g : Nat) (s : State) : Host.Outcome State Fault Refusal :=
  onTile t s fun c s =>
    let free := if gReg c g = 0 ∨ gReg c g = 1 then 0 else 1
    putCtx t { nextPc c with ended := some (tendStatus (gReg c g) s.freeCtr) } { s with freeCtr := s.freeCtr + free }

end Sys2Proof.Machine
end

