-- ==== Sys2Proof/Machine/TileTasks.lean ====
section
/-! DEFINITION. Tasks and tiles (11 R354 to R358, R392, R396 to R405; 13 R435, R446): the start and end of a task, its cancel, the fault of
a tile with its spare, the vector length and bonds. -/

namespace Sys2Proof.Machine

/-! ## The objects of a tile -/

/-- The VL that TILE_VL and the bond give a tile (11 R398, R400). -/
def vlFor (s : State) (t : Nat) : Nat :=
  let n := t / 2
  if s.obj (O.bondState n) == 1 then 2 * s.nat (O.tileVl (2 * n))
  else if s.obj (O.bondState n) == 2 then s.nat (O.tileVl (2 * n)) else s.nat (O.tileVl t)

/-- Both tiles of a pair take the VL in force. -/
def setVls (n : Nat) (s : State) : State :=
  (s.setObj (O.tileVlActive (2 * n)) (vlFor s (2 * n))).setObj (O.tileVlActive (2 * n + 1)) (vlFor s (2 * n + 1))

/-- TILE_STATE of a tile that has neither faulted nor retired (11 Table 11-14). -/
def tileStateOf (s : State) (t : Nat) : Int :=
  if s.obj (O.pairRole (t / 2)) == 1 then 0
  else if !s.runs (2 + t / 20) then 5
  else if (Store.find s.tiles t).isSome then 2 else 1

/-- TILE_STATE set anew; FAULTED and RETIRED stay. -/
def showTile (t : Nat) (s : State) : State :=
  if s.obj (O.tileState t) == 3 || s.obj (O.tileState t) == 4 then s else s.setObj (O.tileState t) (tileStateOf s t)

/-- Whether a tile holds a task or has one dispatched to it. -/
def tileHolds (s : State) (t : Nat) : Bool :=
  (Store.find s.tiles t).isSome || s.sched.ops.any fun e => e.2.cls == 0 && e.2.unit == t && (e.2.state == .dispatched || e.2.state == .running)

/-! ## The start of a task (11 R392, 13 R435) -/

/-- An input as its window shows it: the granule's address, or the local slot that holds it; `none` for an empty token. -/
inductive InWin | pallet (addr : Nat) | localSlot (slot : Nat) | empty
  deriving DecidableEq, Repr

/-- The windows of one input, each with the bytes valid in it: its pallets, those copied in local slots. -/
def inputWins (s : State) (o : Op) (copies : List (Nat × Nat × Bool)) (i : OpId × Bool) : List (InWin × Nat) :=
  match s.liveOp o.key i.1 with
  | none => [(.empty, 0)]
  | some (_, p) =>
    if p.empty then [(.empty, 0)]
    else p.outBases.mapIdx fun k a => (match copies.find? fun c => palletAddr c.1 == a && c.2.2 with
        | some c => InWin.localSlot c.2.1
        | none => InWin.pallet a, p.valid.getD k 0)

/-- The window register of an input (11 Table 11-2). -/
def inReg : InWin → Word
  | .pallet a => BitVec.ofNat 64 (a + 0x11)
  | .localSlot k => BitVec.ofNat 64 (k * 0x10000 + 0x19)
  | .empty => 0

/-- The bytes of the argument block for one input (13 Table 13-6): its window, its flags, and the bytes valid in it. -/
def argInput (w : Nat) (i : InWin) (valid : Nat) : Bytes :=
  let flags := match i with
    | .empty => 1 | .localSlot _ => 2 | .pallet _ => 0
  leBytes 1 w ++ leBytes 1 flags ++ leBytes 2 0 ++ leBytes 4 valid

/-- The bytes for all inputs, from window `w` on. -/
def argInputs : Nat → List (InWin × Nat) → Bytes
  | _, [] => []
  | w, i :: t => argInput w i.1 i.2 ++ argInputs (w + 1) t

/-- The operation descriptor of a tile task (13 Table 13-3); the bytes that its program uses and the work units are free values (log entry
16). -/
def taskDescriptor (s : State) (tag : Nat) (o : Op) : Bytes :=
  let kind := programKind o.id.kind
  let index := (s.program kind).index
  leBytes 1 kind ++ leBytes 1 (if isSink s o && o.id.kind != .out then 2 else 0) ++ leBytes 1 o.gen ++ leBytes 1 o.prio
    ++ leBytes 1 o.carrier ++ leBytes 1 0 ++ leBytes 2 o.id.recId ++ leBytes 4 o.course
    ++ leBytes 8 (Config.freeWord s.freeCtr).toNat ++ leBytes 4 (Config.freeWord (s.freeCtr + 1)).toNat
    ++ leBytes 30 0 ++ leBytes 2 tag ++ leBytes 2 index ++ leBytes 1 o.outs ++ leBytes 1 o.id.sym ++ leBytes 4 (nsOf o.est).toNat

/-- Where the argument block of a tile slot stands: 512 bytes of a pallet for the device's own use (13 Table 13-6; log entry 25). -/
def argPallet (t : Nat) : Nat := t % 24 * 64 + 62

/-- Its offset in the pallet. -/
def argOffset (t : Nat) : Nat := t / 24 * 512

/-- The argument block (13 Table 13-6). -/
def argBlock (s : State) (tag : Nat) (o : Op) (ins : List (InWin × Nat)) : Bytes :=
  taskDescriptor s tag o ++ leBytes 1 ins.length ++ leBytes 1 o.outBases.length ++ leBytes 6 0 ++ leBytes 8 (atsOf o.ls)
    ++ leBytes 8 (atsOf o.lf) ++ argInputs 1 ins

/-- Registers listed from a number on. -/
def listFrom {α : Type} : Nat → List α → List (Nat × α)
  | _, [] => []
  | n, x :: t => (n, x) :: listFrom (n + 1) t

/-- The window registers at the start: the argument block, the inputs, the outputs, and the program's supervisor windows. -/
def startWins (t : Nat) (ins : List InWin) (outs : List Nat) (sWindows : List Nat) : Store Word :=
  let task := BitVec.ofNat 64 (palletAddr (argPallet t) + 0x11) :: ins.map inReg
    ++ outs.map fun a => BitVec.ofNat 64 (a + 0x13)
  (listFrom 0 task).filter (·.2 != 0) ++ ((listFrom 64 (sWindows.map (BitVec.ofNat 64))).take 16).filter (·.2 != 0)

/-- The context of a task at its entry (11 R392). -/
def startCtx (s : State) (t tag : Nat) (o : Op) (ins : List (InWin × Nat)) : Ctx :=
  let p := s.program (programKind o.id.kind)
  { tag := tag, gen := o.gen, pc := BitVec.ofNat 64 p.entry, level := 0, prev := 0
    g := Store.putD 0 (Store.putD 0 [(1, BitVec.ofNat 64 (0x100000000 + argOffset t))] 2 (BitVec.ofNat 64 tag)) 3 (BitVec.ofNat 64 o.gen)
    s := [], v := [], p := [], vstat := vstatStartOfTask p.rnd, ffr := 0, kLo := BitVec.ofNat 32 p.kLo, kHi := BitVec.ofNat 32 p.kHi
    sEpc := 0, sCause := 0, sAddr := 0, sScratch := 0, sTvec := BitVec.ofNat 32 p.sTvec, fEpc := 0
    wins := startWins t (ins.map (·.1)) o.outBases p.sWindows, enS := o.params.getD 0 0, enK := o.params.getD 1 0
    slots := (List.range 4).flatMap fun c => List.replicate (p.fused.getD c 0) c, shadow := p.shadow, jobs := [], staged := []
    begun := s.clock.ticks, ended := none }

/-- The task that starts next on a slot: one dispatched to it while it was free, or its next task once the running task has ended and every
copy has completed or been abandoned (13 R446). -/
def startable (s : State) (t : Nat) : Option (Nat × Op) :=
  if (Store.find s.tiles t).isSome || (runningTask s t).isSome then none
  else if (Store.at [] s.sched.copies t).any (fun c => !c.2.2) then none
  else s.sched.ops.find? fun e => e.2.cls == 0 && e.2.unit == t && e.2.state == .dispatched

/-- The bytes of a tile's memory that a scrub found bad are overwritten with zero (15 R516). -/
def zeroFound (t : Nat) (s : State) : State :=
  let l := s.integ.toZero.filter fun a => regionOf s a = .tile t
  (healed l { s with mem := memPutAll (l.map fun a => (a, 0)) s.mem }).onInteg fun g => { g with toZero := g.toZero.filter fun a => !l.contains a }

/-- A task starts. -/
def startTask (t tag : Nat) (o : Op) (s : State) : State :=
  let s := if s.obj (O.bondState (t / 2)) == 0 then zeroFound t s else zeroFound (t + 1) (zeroFound t s)
  let ins := o.ins.flatMap (inputWins s o (Store.at [] s.sched.copies t))
  let o' := { o with state := OpState.running, start := s.airNow, next := false }
  let c := startCtx s t tag o' ins
  let block := argBlock s tag o' ins
  let s := { s with mem := memWrite s.mem (palletAddr (argPallet t) + argOffset t) block, freeCtr := s.freeCtr + 2
                    sched := { s.sched with copies := Store.drop s.sched.copies t } }
  traceOp 3 tag o' 0 0 0 (showTile t ((putCtx t c s).onOp tag fun _ => o'))

/-- TASK_START. -/
def execTaskStart (t : Nat) (s : State) : Host.Outcome State Fault Refusal :=
  if tileCount ≤ t then .fault .noSuchUnit
  else match startable s t with
    | some (tag, o) => .next (startTask t tag o s)
    | none => .next s

/-! ## The end of a task (11 R396, R397) -/

/-- The unsettled jobs of a task are cancelled: one that has not been sent settles at once, and to every other a token goes (12 R421,
R422). -/
def cancelJobs (c : Ctx) (s : State) : Ctx × State :=
  let held := c.jobs.filter fun j => !j.2.settled && !j.2.sent
  let jobs := c.jobs.map fun j =>
    if j.2.settled then j
    else if j.2.sent then (j.1, { j.2 with cancel := true })
    else (j.1, { j.2 with settled := true, cancelled := true })
  ({ c with jobs := jobs }, s.bump O.fusedCancelled held.length)

/-- A task ends without its program's TEND: nothing that it stored to its pallets stays. -/
def stopTask (t : Nat) (how : TaskEnd) (s : State) : State :=
  match Store.find s.tiles t with
  | some c =>
    let p := cancelJobs c s
    putCtx t { p.1 with ended := some how, staged := [] } p.2
  | none => s

/-- Cycles at 1.6 GHz in ticks of 6.4 ns: 10.24 each, rounded down. -/
def cyclesOf (ticks : Nat) : Nat := ticks * 256 / 25

/-- The counters of a task's end (11 Tables 11-14, 11-16). -/
def countTask (t : Nat) (c : Ctx) (how : TaskEnd) (s : State) : State :=
  let s := (s.bump (O.tasksEnded t) 1).bump (O.busyCycles t) (cyclesOf (s.clock.ticks - c.begun))
  let s := if how == .fault || how == .dataLost then s.bump (O.taskFaults t) 1 else s
  let s := if how == .cancelled then s.bump (O.taskCancels t) 1 else s
  if vstatSat c.vstat then s.bump O.satTasks 1 else s

/-- Whether F ends the task on an exception, so that its jobs are to be cancelled (12 R422). -/
def endsByF (how : TaskEnd) (c : Ctx) : Bool := (how == .fault || how == .dataLost) && c.level == 2

/-- TASK_END_REPORT: once every fused operation is settled the tile reports the end, and the operation holds the bytes that the task
stored to its outputs (11 R396; 12 R412). -/
def execTaskEndReport (t : Nat) (s : State) : Host.Outcome State Fault Refusal :=
  if tileCount ≤ t then .fault .noSuchUnit
  else match Store.find s.tiles t with
    | none => .next s
    | some c => match c.ended with
      | none => .next s
      | some how =>
        if endsByF how c && c.jobs.any (fun j => !j.2.settled && !j.2.cancel) then
          let p := cancelJobs c s
          .next (putCtx t p.1 p.2)
        else if c.jobs.any fun j => !j.2.settled then .next s
        else
          let s := countTask t c how s
          let s := { s with tiles := Store.drop s.tiles t, sched := { s.sched with freed := Store.put s.sched.freed t s.clock.ticks } }
          let s := match s.op c.tag with
            | some o =>
              let s := { s with sched := { s.sched with lastOf := Store.put s.sched.lastOf t o.carrier } }
              s.onOp c.tag fun o => { o with ended := some how, data := if how = .ok then c.staged else [] }
            | none => s
          .next (showTile t s)

/-- TILE_CANCEL: the cancel of the running task's operation reaches its tile (11 R397). -/
def execTileCancel (t : Nat) (s : State) : Host.Outcome State Fault Refusal :=
  if tileCount ≤ t then .fault .noSuchUnit
  else match Store.find s.tiles t with
    | some c =>
      let due := match s.op c.tag with
        | some o => o.cancel
        | none => true
      if due && c.ended.isNone then .next (stopTask t .cancelled s) else .next s
    | none => .next s

/-! ## Faults and spares (11 R355 to R357, R402) -/

/-- The spare pair that takes a role: the lowest-numbered that reads SPARE. -/
def sparePair (s : State) : Option Nat := (List.range 100).find? fun n => s.obj (O.pairRole n) == 1

/-- Everything dispatched to a tile and not started runs again elsewhere. -/
def returnDispatched (t : Nat) (s : State) : State :=
  let tags := (s.sched.ops.filter fun e => e.2.cls == 0 && e.2.unit == t && e.2.state == .dispatched).map (·.1)
  let s := { s with sched := { s.sched with copies := Store.drop s.sched.copies t } }
  tags.foldl rerunOp s

/-- A tile of a pair that leaves service: its task ends TILE_FAULT, or CANCELLED where a cancel is pending, and what is dispatched to it
goes back. -/
def vacate (t : Nat) (s : State) : State :=
  let cancelled := match (Store.find s.tiles t).bind fun c => s.op c.tag with
    | some o => o.cancel
    | none => false
  let running := ((Store.find s.tiles t).map fun c => c.ended.isNone).getD false
  returnDispatched t (if running then stopTask t (if cancelled then .cancelled else .tileFault) s else s)

/-- A spare pair takes over the role, the bond mode, and the TILE_VL of both tiles; one that takes over a pair in CHANGING takes the
target mode (11 R356, R405). -/
def takeRole (n m : Nat) (s : State) : State :=
  let serves := if s.obj (O.servesFor n) == 0xFF then (n : Int) else s.obj (O.servesFor n)
  let mode := s.obj (O.bondMode n)
  let s := (((s.setObj (O.pairRole m) 0).setObj (O.servesFor m) serves).setObj (O.bondMode m) mode).setObj (O.bondState m) mode
  let s := (s.setObj (O.tileVl (2 * m)) (s.obj (O.tileVl (2 * n)))).setObj (O.tileVl (2 * m + 1)) (s.obj (O.tileVl (2 * n + 1)))
  showTile (2 * m) (showTile (2 * m + 1) (setVls m s))

/-- A tile of a pair in service faults: the pair leaves service at once, and a spare takes its role or the class has lost a unit (11 R356;
17 R572, R573). -/
def tileFault (t cause : Nat) (s : State) : State :=
  let n := t / 2
  let other := if t % 2 == 0 then t + 1 else t - 1
  let s := vacate (2 * n + 1) (vacate (2 * n) (s.bump O.tileFaults 1))
  let s := ((s.setObj (O.tileState t) 3).setObj (O.tileState other) 4).setObj (O.pairRole n) 2
  let s := { s with bondWas := Store.drop s.bondWas n }
  match sparePair s with
  | some m =>
    let s := (takeRole n m s).setObj O.tileSpares (s.nat O.tileSpares - 2 : Nat)
    resettle (spareEngaged (unitWord 0 n) (unitWord 0 m) (s.nat O.tileSpares / 2) cause s)
  | none => resettle (unitLost (unitWord 0 n) 0 cause s)

/-- A spare pair that fails reads FAULTED and no longer counts (11 R357). -/
def loseSpare (n : Nat) (s : State) : State :=
  spareGone O.tileSpares (((((s.setObj (O.tileState (2 * n)) 3).setObj (O.tileState (2 * n + 1)) 3).setObj (O.pairRole n) 2)).setObj
    O.tileSpares (s.nat O.tileSpares - 2 : Nat))

/-- TILE_FAULT. -/
def execTileFault (t : Nat) (s : State) : Host.Outcome State Fault Refusal :=
  if tileCount ≤ t then .fault .noSuchUnit
  else if s.obj (O.pairRole (t / 2)) == 0 then .next (tileFault t 0 s) else .next s

/-- BOND_MISMATCH: the two copies of a header-bonded pair differ at commit (11 R402). -/
def execBondMismatch (pair : Nat) (s : State) : Host.Outcome State Fault Refusal :=
  if 100 ≤ pair then .fault .noSuchUnit
  else if s.obj (O.pairRole pair) == 0 && s.obj (O.bondState pair) == 2 then
    .next (tileFault (2 * pair) 0 (s.bump (O.bondMismatches pair) 1))
  else .next s

/-- SPARE_SELF_TEST. -/
def execSpareSelfTest (pair : Nat) (pass : Bool) (s : State) : Host.Outcome State Fault Refusal :=
  if 100 ≤ pair then .fault .noSuchUnit
  else if s.obj (O.pairRole pair) == 1 && !pass then .next (loseSpare pair s) else .next s

/-! ## Vector length and bonds (11 R398, R403 to R405; 13 R429) -/

/-- Whether every partition that is not OFF has the tile slots that it claims. -/
def claimsMet (s : State) : Bool :=
  (List.range 8).all fun p => !s.holds (O.partEnable p) || decide (s.nat (O.partClaim p) ≤ (s.slotsOf (s.partForm p)).length)

/-- TILE_VL takes effect where the tiles of the pair that it governs hold no task and have none dispatched. -/
def applyVl (t : Nat) (s : State) : State :=
  let n := t / 2
  if s.obj (O.bondState n) == 0 then
    if tileHolds s t then s else s.setObj (O.tileVlActive t) (vlFor s t)
  else if tileHolds s (2 * n) || tileHolds s (2 * n + 1) then s else setVls n s

/-- The write of TILE_VL. -/
def actTileVl (t : Nat) (v : Int) : Action := fun s =>
  let s' := s.change (O.tileVl t) v
  let n := t / 2
  let after := if s.obj (O.bondState n) == 0 then s'.setObj (O.tileVlActive t) (vlFor s' t) else setVls n s'
  if claimsMet after then (.ok, applyVl t s') else (.bondConflict, s)

/-- WRITE_TILE_VL. -/
def execWriteTileVl (x : Xfer) (t : Nat) (v : Int) (s : State) : Host.Outcome State Fault Refusal :=
  if tileCount ≤ t then .fault .noSuchUnit else .next (hostWrite x (O.tileVl t) (.num v) (actTileVl t v) s)

/-- TILE_VL_APPLY. -/
def execTileVlApply (t : Nat) (s : State) : Host.Outcome State Fault Refusal :=
  if tileCount ≤ t then .fault .noSuchUnit else .next (applyVl t s)

/-- Header-bonded pairs in service beside one. -/
def otherHeaders (s : State) (n : Nat) : Nat :=
  ((List.range 100).filter fun m => m != n && s.obj (O.pairRole m) == 0 && s.obj (O.bondState m) == 2).length

/-- The bytes that the tile-memory images of the site image put into a tile (19 R614): those below 0x80000, and for the second tile of a
stretcher bond those from there on. -/
def imageCells (s : State) (t : Nat) : List Host.Cell :=
  let second := s.obj (O.bondState (t / 2)) == 1 && t % 2 == 1
  let base := if second then 0x80000 else 0
  let images := match s.boot.image with
    | some i => i.tileImages
    | none => []
  (images.flatMap fun (m : Nat × Bytes) => cellsAt m.1 m.2).filterMap fun (c : Host.Cell) =>
    if base ≤ c.1 && c.1 < base + 0x80000 then some (tileAddr t + (c.1 - base), c.2) else none

/-- A tile's memory is loaded from the site image; what the image does not give reads 0 (log entry 28). -/
def loadTile (t : Nat) (s : State) : State :=
  { s with mem := memPutAll (imageCells s t) (memClear s.mem (tileAddr t) 0x80000) }

/-- A pair whose tiles hold no task takes its bond mode: its memories are rewritten from the program images (11 R405; log entry 28). -/
def finishBond (n : Nat) (s : State) : State :=
  let s := { s with bondWas := Store.drop s.bondWas n }
  let s := (s.setObj (O.bondState n) (s.obj (O.bondMode n))).bump (O.bondChanges n) 1
  resettle (setVls n (loadTile (2 * n + 1) (loadTile (2 * n) s)))

/-- The write of BOND_MODE (11 R404, R405). -/
def actBondMode (n : Nat) (v : Int) : Action := fun s =>
  if s.obj (O.pairRole n) != 0 then (.bondConflict, s)
  else if s.obj (O.bondState n) == v && s.obj (O.bondMode n) == v then (.ok, s)
  else
    let after := setVls n (s.setObj (O.bondState n) v)
    let headers := otherHeaders s n + (if v = 2 then 1 else 0)
    if headers < s.nat O.headerMin || !claimsMet after then (.bondConflict, s)
    else
      let s' := s.change (O.bondMode n) v
      if s.obj (O.bondState n) == 3 then
        if Store.at 0 s.bondWas n = v.toNat then
          (.ok, resettle { s'.setObj (O.bondState n) v with bondWas := Store.drop s.bondWas n })
        else (.ok, s')
      else
        let s' := { s'.setObj (O.bondState n) 3 with bondWas := Store.put s.bondWas n (s.nat (O.bondState n)) }
        let nextTags := (s.sched.ops.filter fun e => e.2.cls == 0 && e.2.unit / 2 == n && e.2.unit != 0xFFFF && e.2.next
          && e.2.state == .dispatched).map (·.1)
        let s' := { s' with sched := { s'.sched with copies := Store.drop (Store.drop s'.sched.copies (2 * n)) (2 * n + 1) } }
        let s' := nextTags.foldl rerunOp s'
        (.ok, if s.runs (2 + n / 10) then s' else finishBond n s')

/-- WRITE_BOND_MODE. -/
def execWriteBondMode (x : Xfer) (pair : Nat) (v : Int) (s : State) : Host.Outcome State Fault Refusal :=
  if 100 ≤ pair then .fault .noSuchUnit else .next (hostWrite x (O.bondMode pair) (.num v) (actBondMode pair v) s)

/-- BOND_CHANGE_COMPLETE. -/
def execBondChangeComplete (pair : Nat) (s : State) : Host.Outcome State Fault Refusal :=
  if 100 ≤ pair then .fault .noSuchUnit
  else if s.obj (O.pairRole pair) == 0 && s.obj (O.bondState pair) == 3 && !tileHolds s (2 * pair) && !tileHolds s (2 * pair + 1) then
    .next (finishBond pair s)
  else .next s

end Sys2Proof.Machine
end

