-- ==== Sys2Proof/Machine/Fused.lean ====
section
/-! DEFINITION. Fused operations (12): jobs that a tile program sends to the engines, their tickets, staging, publication and cancel. A
FUSE commits as it issues (log entry 29). -/

namespace Sys2Proof.Machine

/-! ## Tickets and slots (12 R411, R412) -/

/-- The ticket of a job. -/
def ticketOf (slot cls tag : Nat) : Word := BitVec.ofNat 64 (slot + cls * 2 ^ 8 + tag % 2 ^ 16 * 2 ^ 16)

/-- The completion word of a job (12 Table 12-5). -/
def completionOf (j : FusedJob) : Word :=
  let state := if j.settled then (if j.cancelled then 1 else 0) else 2
  BitVec.ofNat 64 (state + j.tag % 2 ^ 16 * 2 ^ 16 + (if j.settled && !j.cancelled then j.word % 2 ^ 32 * 2 ^ 32 else 0))

/-- The live job that a ticket names, through its slot field. -/
def ticketJob (c : Ctx) (w : Word) : Option (Nat × FusedJob) :=
  let slot := w.toNat % 2 ^ 8
  (Store.find c.jobs slot).map fun j => (slot, j)

/-- The lowest-numbered free fused slot of a class. -/
def freeSlot (c : Ctx) (cls : Nat) : Option Nat :=
  (List.range c.slots.length).find? fun i => c.slots[i]? == some cls && (Store.find c.jobs i).isNone

/-- A FUSED exception (12 R419). -/
def fusedExc (refusal addr : Nat) : Exc := ⟨12, fusedAddr refusal addr⟩

/-! ## FUSE (12 R413 to R418) -/

/-- Whether a kind is one of a class (12 Table 12-1; 13 Table 13-4). -/
def kindOfClass (cls kind : Nat) : Bool :=
  match cls with
  | 0 => kind == 0x11 || kind == 0x12 || kind == 0x13
  | 1 => kind == 0x01 || kind == 0x02 || kind == 0x03
  | 2 => 0x30 ≤ kind && kind ≤ 0x34
  | 3 => kind == 0x40 || kind == 0x41
  | _ => false

/-- Whether the reserved bytes of a descriptor are zero: the high bits of its flags, and those that 07 Table 7-6 or 13 Table 13-3 leaves
out. -/
def reservedZero (cls : Nat) (d : Bytes) : Bool :=
  if cls ≤ 1 then bytesAt d 1 1 / 16 == 0 && bytesAt d 62 2 == 0
  else bytesAt d 1 1 / 4 == 0 && bytesAt d 36 6 == 0

/-- Whether FUSE is allowed for a class at the level (12 R413). -/
def fuseAllowed (c : Ctx) (cls : Nat) : Bool := c.level == 2 || bitOf (if c.level == 1 then c.enS else c.enK) cls

/-- The windows that an extent touches. -/
def extentWindows (x : Extent) : List Nat :=
  if x.bytes = 0 then []
  else (List.range ((x.addr + x.bytes - 1) / 0x10000 - x.addr / 0x10000 + 1)).map fun i => (x.addr / 0x10000 + i) * 0x10000

/-- Whether an operand obeys R415: up to 16 consecutive windows, each with the right that its use needs, an output in none with L set. -/
def extentOk (c : Ctx) (x : Extent) : Bool :=
  decide ((extentWindows x).length ≤ 16) && (extentWindows x).all fun a =>
    match windowOf c.level a with
    | none => false
    | some w =>
      let r := (Store.at 0 c.wins w).toNat
      bitOf r 4 && (if x.out then bitOf r 1 && !bitOf r 3 else bitOf r 0)

/-- Whether two extents meet. -/
def extentsMeet (x y : Extent) : Bool := decide (x.addr < y.addr + y.bytes) && decide (y.addr < x.addr + x.bytes)

/-- Whether a new job's extents overlap those of a live job as R416 forbids. -/
def jobsOverlap (c : Ctx) (xs : List Extent) : Bool :=
  xs.any fun x => c.jobs.any fun j => j.2.extents.any fun y => (x.out || y.out) && extentsMeet x y

/-- The distinct pallets that the outputs of a job touch, by their granules, and the scratch pallet of a decode that may run ahead (12
R418). -/
def shadowNeed (c : Ctx) (cls : Nat) (d : Bytes) (xs : List Extent) : Nat :=
  let granules := (xs.filter (·.out)).flatMap fun x => (extentWindows x).map fun a =>
    (Store.at 0 c.wins ((windowOf c.level a).getD 0)).toNat / 2 ^ 16 % 2 ^ 32
  granules.eraseDups.length + (if cls == 0 && bitOf (bytesAt d 1 1) 1 then 1 else 0)

/-- The bytes of a descriptor, or the exception of its read. -/
def readDescriptor (s : State) (t : Nat) (c : Ctx) (addr : Nat) : Except Exc Bytes :=
  if addr % 8 != 0 then .error ⟨3, addr⟩
  else match resolveBytes s t c false addr 64 with
    | .error e => .error e
    | .ok l => .ok (l.map (seenByte s c))

/-- The operand of a pointer field of a descriptor, none where it holds 0: the extents at some offsets from its address (12 R415). -/
def operandAt (d : Bytes) (field : Nat) (out : Bool) (parts : List (Nat × Nat)) : List Extent :=
  let p := bytesAt d field 6
  if p == 0 then [] else parts.map fun x => ⟨p + x.1, x.2, out⟩

/-- The extents of a kiln job (07 R250, R253, R255): its input, the entry and the LLRs of its block in the committed version that it combines
with and in the new one, its output, and its result record. -/
def kilnExtents (d : Bytes) : List Extent :=
  let kind := bytesAt d 0 1
  let e := bytesAt d 12 4
  let a := bytesAt d 8 2
  let x := descCode d
  let r := bytesAt d 20 1
  let version := [(16 * r, 16), (versionOffset (bytesAt d 21 1) r x.keptBits, x.keptBits)]
  match kind with
  | 0x01 | 0x02 => operandAt d 24 false [(0, ceilDiv (bytesAt d 8 4) 8)] ++ operandAt d 42 true [(0, ceilDiv e 8)] ++ operandAt d 48 true [(0, 16)]
  | 0x03 => operandAt d 24 false [(0, ceilDiv a 8)] ++ operandAt d 42 true [(0, ceilDiv e 8)] ++ operandAt d 48 true [(0, 16)]
  | 0x13 => operandAt d 24 false [(0, e)] ++ operandAt d 42 true [(0, ceilDiv a 8)] ++ operandAt d 48 true [(0, 16)]
  | _ => operandAt d 24 false [(0, e)] ++ (if bitOf (bytesAt d 1 1) 0 then operandAt d 30 false version else [])
      ++ operandAt d 36 true version ++ operandAt d 42 true [(0, ceilDiv (a - (crcKind x.crc).1) 8)] ++ operandAt d 48 true [(0, 32)]

/-- The extents of a job: a kiln descriptor fixes them, and those of a layer or transform engine start at the pointers of 12 R414 and have the
bytes that the command gives, for the spec lays no operand of those engines out (log entry 29). -/
def fuseExtents (cls : Nat) (d : Bytes) (sizes : List Nat) : List Extent :=
  if cls ≤ 1 then kilnExtents d
  else ((if cls == 2 then [(24, false), (30, false), (42, true), (48, true)] else [(24, false), (42, true), (48, true)]).mapIdx
    fun i (x : Nat × Bool) => operandAt d x.1 x.2 [(0, sizes.getD i 0)]).flatten

/-- The refusals of a FUSE, in the order of Table 12-6; otherwise its descriptor and slot. -/
def judgeFuse (s : State) (t : Nat) (c : Ctx) (addr cls : Nat) (sizes : List Nat) : Except Exc (Bytes × Nat) :=
  match readDescriptor s t c addr with
  | .error e => .error e
  | .ok d =>
    let xs := fuseExtents cls d sizes
    if !fuseAllowed c cls then .error (fusedExc 1 addr)
    else match freeSlot c cls with
      | none => .error (fusedExc 3 addr)
      | some slot =>
        if !kindOfClass cls (bytesAt d 0 1) || !reservedZero cls d then .error (fusedExc 4 addr)
        else if !xs.all (extentOk c) then .error (fusedExc 5 addr)
        else if jobsOverlap c xs then .error (fusedExc 6 addr)
        else if c.shadow < shadowNeed c cls d xs then .error (fusedExc 7 addr)
        else .ok (d, slot)

/-- What a fused encode stages at the pointers of its descriptor: its coded bits and its result record; and the code blocks encoded. -/
def fusedEncode (s : State) (t : Nat) (j : FusedJob) : Bytes × List (Nat × Bytes) × Nat :=
  let d := j.desc
  let polar := bytesAt d 0 1 == 0x03
  let bits := bytesAt d 8 (if polar then 2 else 4)
  let input := (unpackBits (s.fusedBytes t j (bytesAt d 24 6) (ceilDiv bits 8))).take bits
  let data := if badEncode d then [] else packBits (if polar then (descPolar d).bits input else (descEncode d).bits input)
  let status := if badEncode d then 3 else 0
  let record := if polar then (descPolar d).record status data.length else (descEncode d).record status data.length
  let outs := (if badEncode d then [] else [(bytesAt d 42 6, data)]) ++ [(bytesAt d 48 6, record)]
  (record, outs.filter fun x => x.1 != 0, if polar then 1 else (descEncode d).segments.c)

/-- The committed LLRs that a fused decode combines with, from the version at its pointer (07 R250, R251). -/
def fusedBase (s : State) (t : Nat) (j : FusedJob) : List Int :=
  let at' := bytesAt j.desc 30 6
  if bitOf (bytesAt j.desc 1 1) 0 && at' != 0 then
    entryLlrs (s.fusedBytes t j (at' + 16 * bytesAt j.desc 20 1) 16) fun off n => s.fusedBytes t j (at' + off) n
  else []

/-- The decode job that a fused descriptor starts (07 R242, R245, R253). -/
def fusedKilnJob (s : State) (t : Nat) (j : FusedJob) (o : Option Op) : Job :=
  let d := j.desc
  let e := bytesAt d 12 4
  let got := if isPolar (bytesAt d 0 1) then e else min e (bytesAt d 56 4)
  kilnJob d (descCode d) s.kilnSet ((s.fusedBytes t j (bytesAt d 24 6) got).map llrOf) (fusedBase s t j)
    ((o.map fun o => s.nat (O.runaheadFraction o.carrier)).getD 0)

/-- The pages of 64 KiB that the pointers of a job touch, with the device address of each (12 R415). -/
def pointerPages (t : Nat) (c : Ctx) (xs : List Extent) : List (Nat × Nat) :=
  (xs.flatMap extentWindows).eraseDups.map fun a => (a, deviceAddr t c a)

/-- The copy of a descriptor that the tile sends: with the task's generation, the job tag, and in a kiln descriptor flag bit 3 (12 R415). Its
pointers stay tile addresses here, and the pages of the job translate them. -/
def sentCopy (cls gen tag : Nat) (d : Bytes) : Bytes :=
  d.mapIdx fun i b =>
    match i with
    | 1 => if cls ≤ 1 then b ||| 8 else b
    | 2 => BitVec.ofNat 8 gen
    | 54 => BitVec.ofNat 8 tag
    | 55 => BitVec.ofNat 8 (tag / 2 ^ 8)
    | _ => b

/-- A job is sent: the engine class holds it, and the kiln ends a decode that it refuses (07 R254). -/
def sendJob (t slot : Nat) (j : FusedJob) (s : State) : State :=
  let j := { j with sent := true }
  let s := (s.bump O.fusedIssued 1).onJob t slot fun _ => j
  if j.cls == 0 then
    let o := ((Store.find s.tiles t).bind fun c => s.op c.tag)
    let job := fusedKilnJob s t j o
    let s := { s with kiln := { s.kiln with jobs := Store.put s.kiln.jobs j.tag job } }
    if badDecode j.desc then jobDone j.tag 3 job (s.blockEnds job id) else s
  else s

/-- FUSE: it sends the job, unless in header bond it waits for the follower's copy (12 R417). The job tag is the next of the device's tags
(log entry 29). -/
def execFuse (t gd ga cls : Nat) (sizes : List Nat) (s : State) : Host.Outcome State Fault Refusal :=
  onTile t s fun c s =>
    if 4 ≤ cls || 32 ≤ gd || 32 ≤ ga then takeExc t c illegal s
    else
      let addr := (gReg c ga).toNat
      match judgeFuse s t c addr cls sizes with
      | .error e => takeExc t c e s
      | .ok (d, slot) =>
        let tag := s.sched.nextTag % 2 ^ 16
        let xs := fuseExtents cls d sizes
        let j : FusedJob := ⟨cls, tag, bytesAt d 0 1, c.gen, addr, xs, false, false, false, false, false, 0, sentCopy cls c.gen tag d,
          pointerPages t c xs, []⟩
        let c' := setG { c with jobs := Store.put c.jobs slot j } gd (ticketOf slot cls tag)
        let s := commitTo t c' { s with sched := { s.sched with nextTag := s.sched.nextTag + 1 } }
        if s.obj (O.bondState (t / 2)) == 2 then s else sendJob t slot j s

/-- FUSED_JOB_SEND: a job that waited is sent (12 R417). -/
def execFusedJobSend (t slot : Nat) (s : State) : Host.Outcome State Fault Refusal :=
  if tileCount ≤ t then .fault .noSuchUnit
  else match (Store.find s.tiles t).bind fun c => Store.find c.jobs slot with
    | some j => .next (if j.sent || j.settled then s else sendJob t slot j s)
    | none => .next s

/-! ## Waits, tests and branches (12 R410) -/

/-- An instruction that names a ticket: ILLEGAL for a register that does not exist, and TICKET for a slot that is not live. -/
def onTicket (t : Nat) (ga : Nat) (ok : Bool) (c : Ctx) (s : State) (f : Nat → FusedJob → State) : State :=
  if 32 ≤ ga || !ok then takeExc t c illegal s
  else match ticketJob c (gReg c ga) with
    | some (slot, j) => f slot j
    | none => takeExc t c (fusedExc 2 0) s

/-- FWAIT: while the job is unsettled the instruction waits, and nothing changes. -/
def execFwait (t gd ga : Nat) (s : State) : Host.Outcome State Fault Refusal :=
  onTile t s fun c s => onTicket t ga (decide (gd < 32)) c s fun slot j =>
    if j.settled then commitTo t (setG { c with jobs := Store.drop c.jobs slot } gd (completionOf j)) s else s

/-- FTEST. -/
def execFtest (t gd ga : Nat) (s : State) : Host.Outcome State Fault Refusal :=
  onTile t s fun c s => onTicket t ga (decide (gd < 32)) c s fun _ j => commitTo t (setG c gd (completionOf j)) s

/-- FCANCEL: a job that was not sent settles at once, and to one that was a cancel token goes (12 R421, R422). -/
def execFcancel (t ga : Nat) (s : State) : Host.Outcome State Fault Refusal :=
  onTile t s fun c s => onTicket t ga true c s fun slot j =>
    if j.settled then commitTo t c s
    else if j.sent then commitTo t { c with jobs := Store.put c.jobs slot { j with cancel := true } } s
    else commitTo t { c with jobs := Store.put c.jobs slot { j with settled := true, cancelled := true } } (s.bump O.fusedCancelled 1)

/-- BFB: branch when the job of the ticket is unsettled. -/
def execBfb (t ga : Nat) (offset : Int) (s : State) : Host.Outcome State Fault Refusal :=
  onTile t s fun c s => onTicket t ga true c s fun _ j => branchTo t (!j.settled) offset c s

/-- BFF: branch when the task holds no free fused slot of the class. -/
def execBff (t cls : Nat) (offset : Int) (s : State) : Host.Outcome State Fault Refusal :=
  onTile t s fun c s => if 4 ≤ cls then takeExc t c illegal s else branchTo t (freeSlot c cls).isNone offset c s

/-! ## Publication (12 R420) -/

/-- Whether bytes lie in an output extent of a job. -/
def inOutput (j : FusedJob) (addr n : Nat) : Bool :=
  j.extents.any fun x => x.out && decide (x.addr ≤ addr) && decide (addr + n ≤ x.addr + x.bytes)

/-- One output merged into its destination, which in a pallet of the task is staged as the task's own store would be; bytes outside the
job's output extents are none of its outputs. -/
def mergeOutput (t : Nat) (j : FusedJob) (p : Ctx × State) (x : Nat × Bytes) : Ctx × State :=
  if inOutput j x.1 x.2.length then
    match resolveBytes p.2 t p.1 true x.1 x.2.length with
    | .ok l => storeBytes l x.2 p.1 p.2
    | .error _ => p
  else p

/-- Whether a job has ended: an encode and a transform end with their publication. -/
def jobEnded (j : FusedJob) : Bool := j.ended || j.cls == 1 || j.cls == 3

/-- The counters of a fused encode that has ended (07 Table 7-13). -/
def countEncode (s : State) (j : FusedJob) (blocks : Nat) : State :=
  if j.cls != 1 then s
  else if badEncode j.desc then (s.bump O.encJobs 1).bump O.badJobs 1 else (s.bump O.encJobs 1).bump O.encBlocks blocks

/-- FUSED_PUBLICATION: the shadow pallets are merged in one step, and the job is settled. `outputs` is what a layer or transform engine staged,
and `result` its result record, for the spec does not lay the operands of their descriptors out (log entry 29); a decode's end has given both already,
and an encode is computed. -/
def execFusedPublication (t slot : Nat) (result : Bytes) (outputs : List (Nat × Bytes)) (s : State) :
    Host.Outcome State Fault Refusal :=
  if tileCount ≤ t then .fault .noSuchUnit
  else match (Store.find s.tiles t).bind fun c => (Store.find c.jobs slot).map fun j => (c, j) with
    | some (c, j) =>
      if j.sent && !j.settled && !j.cancel && jobEnded j then
        let enc := fusedEncode s t j
        let new := match j.cls with
          | 0 => j.staged | 1 => enc.2.1 | _ => outputs ++ j.staged
        let p := new.foldl (mergeOutput t j) (c, countEncode s j enc.2.2)
        let word := if j.ended then j.word else bytesAt (if j.cls == 1 then enc.1 else result) 0 4
        let j' := { j with ended := true, settled := true, word := word }
        .next ((putCtx t { p.1 with jobs := Store.put p.1.jobs slot j' } p.2).bump O.fusedPublished 1)
      else .next s
    | none => .next s

end Sys2Proof.Machine
end

