-- ==== Sys2Proof/Machine/Hod.lean ====
section
/-! DEFINITION. The hod engines (16): descriptors, the lines they move, chains and their ends, halts, and the diagnostic chain; and the
prefetch copies that they make (13 R446). -/

namespace Sys2Proof.Machine

/-- The state with the hod engines changed. -/
def State.onHod (s : State) (f : Hod → Hod) : State := { s with hod := f s.hod }

/-! ## What an address answers (14 Table 14-5; 15 R493; 11 R362) -/

/-- Whether an offset of a tile's memory lies in its prefetch slots (13 R445). -/
def inPrefetch (s : State) (t off : Nat) : Bool :=
  if s.obj (O.bondState (t / 2)) == 1 then t % 2 == 1 && decide (0x40000 ≤ off) else decide (0x60000 ≤ off)

/-- Whether a hod may write tile memory at an offset: of a tile that is idle or spare, or in its prefetch slots (11 R362). -/
def hodMayWrite (s : State) (t off : Nat) : Bool :=
  s.obj (O.tileState t) == 0 || s.obj (O.tileState t) == 1 || inPrefetch s t off

/-- The answer to an access of a hod, its data apart: OK, DOMAIN_ASLEEP or UNMAPPED. -/
def hodAnswer (s : State) (write : Bool) (a : Nat) : Status :=
  match regionOf s a with
  | .nowhere => .unmapped
  | .feed => if !write then .unmapped else if s.runs 12 then .ok else .domainAsleep
  | .tile t =>
    if !s.runs (2 + t / 20) then .domainAsleep
    else if write && !hodMayWrite s t (a - tileAddr t) then .unmapped else .ok
  | g => if s.runs (regionDomain g) then .ok else .domainAsleep

/-! ## Descriptors (16 R530 to R532) -/

/-- A descriptor as its 64 bytes. -/
abbrev Descriptor := Bytes

/-- The op of a descriptor. -/
def Descriptor.op (d : Descriptor) : Nat := bytesAt d 0 1

/-- CHAIN. -/
def Descriptor.chained (d : Descriptor) : Bool := bitOf (bytesAt d 1 1) 0

/-- The next descriptor's address. -/
def Descriptor.next (d : Descriptor) : Nat := bytesAt d 48 6

/-- The bytes that a descriptor moves: of all rows where it is STRIDED. -/
def Descriptor.total (d : Descriptor) : Nat := if Descriptor.op d = 2 then bytesAt d 24 4 * bytesAt d 4 4 else bytesAt d 4 4

/-- The span of a range: of STRIDED rows from the first byte of the first to the last byte of the last. -/
def Descriptor.span (d : Descriptor) (stride : Nat) : Nat :=
  if Descriptor.op d = 2 then (bytesAt d 24 4 - 1) * stride + bytesAt d 4 4 else bytesAt d 4 4

/-- The bytes that Table 16-2 says are zero. -/
def Descriptor.zeros (d : Descriptor) : Bool :=
  let z := fun (offset n : Nat) => bytesAt d offset n == 0
  let op := Descriptor.op d
  decide (bytesAt d 1 1 < 4) && z 3 1 && z 14 2 && z 22 2 && z 36 4 && z 62 2
    && (op == 1 || op == 2 || z 8 6) && (op != 0 || (z 4 4 && z 16 6)) && (op == 2 || z 24 12) && (op == 3 || op == 4 || z 40 8)
    && (Descriptor.chained d || z 48 6)

/-- Whether two ranges share a byte. -/
def rangesMeet (a n b m : Nat) : Bool := decide (a < b + m) && decide (b < a + n)

/-- A malformed descriptor (16 R532). -/
def Descriptor.malformed (d : Descriptor) : Bool :=
  let op := Descriptor.op d
  decide (4 < op) || !Descriptor.zeros d || (op != 0 && (Descriptor.total d == 0 || decide (1048576 < Descriptor.total d)))
    || (op == 2 && decide (bytesAt d 32 4 < bytesAt d 4 4))
    || ((op == 1 || op == 2)
      && rangesMeet (bytesAt d 8 6) (Descriptor.span d (bytesAt d 28 4)) (bytesAt d 16 6) (Descriptor.span d (bytesAt d 32 4)))
    || (op == 4 && bytesAt d 16 6 % 8 != 0) || (Descriptor.chained d && Descriptor.next d % 64 != 0)

/-! ## Lines (16 R531, R536, R537) -/

/-- The bytes of a destination that one store writes: from where they come, their address and their number. -/
structure Piece where
  src  : Nat
  dst  : Nat
  size : Nat
  deriving DecidableEq, Repr

/-- The pieces of a range: one for each destination line. -/
def piecesOf (src dst n : Nat) : List Piece :=
  (List.range ((dst + n - 1) / 64 + 1 - dst / 64)).map fun i =>
    let a := max dst ((dst / 64 + i) * 64)
    ⟨src + (a - dst), a, min (dst + n) ((dst / 64 + i + 1) * 64) - a⟩

/-- The pieces of a descriptor in order. -/
def Descriptor.pieces (d : Descriptor) : List Piece :=
  match Descriptor.op d with
  | 0 => []
  | 2 => (List.range (bytesAt d 24 4)).flatMap fun r =>
      piecesOf (bytesAt d 8 6 + r * bytesAt d 28 4) (bytesAt d 16 6 + r * bytesAt d 32 4) (bytesAt d 4 4)
  | 4 => [⟨0, bytesAt d 16 6, 8⟩]
  | 3 => piecesOf 0 (bytesAt d 16 6) (bytesAt d 4 4)
  | _ => piecesOf (bytesAt d 8 6) (bytesAt d 16 6) (bytesAt d 4 4)

/-- The data of a FILL or WRITE8 piece: its source is then the offset in the destination. -/
def Descriptor.fill (d : Descriptor) (p : Piece) : Bytes :=
  (List.range p.size).map fun i => BitVec.ofNat 8 (bytesAt d (40 + (p.src + i) % 8) 1)

/-- How far a run of pieces has come: bytes written, poisoned lines, the answer that stopped it, and the last address written. -/
structure Moved where
  state    : State
  written  : Nat
  poisoned : Nat
  fail     : Option Status
  last     : Option Nat

/-- The lines that a source piece is read from. -/
def sourceLines (p : Piece) : List Nat := (List.range ((p.src + p.size - 1) / 64 + 1 - p.src / 64)).map (· + p.src / 64)

/-- One piece is written, with its data marked where its source was uncorrectable. -/
def storePiece (p : Piece) (data : Bytes) (lost : Bool) (m : Moved) : Moved :=
  match hodAnswer m.state true p.dst with
  | .ok =>
    let w := writeLine (cellsAt p.dst data) m.state
    let s := if lost then poisonBytes ((List.range p.size).map (· + p.dst)) w.2 else w.2
    ⟨s, m.written + p.size, m.poisoned + (if lost || w.1 then 1 else 0), none, some p.dst⟩
  | e => { m with fail := some e }

/-- One piece is read and written. -/
def copyPiece (p : Piece) (m : Moved) : Moved :=
  match (sourceLines p).find? fun l => hodAnswer m.state false (max p.src (l * 64)) != .ok with
  | some l => { m with fail := some (hodAnswer m.state false (max p.src (l * 64))) }
  | none =>
    let bad := (sourceLines p).filterMap (badByte m.state)
    let s := bad.foldl (fun s a => metPoison a s) m.state
    storePiece p (memBytes m.state.mem p.src p.size) (!bad.isEmpty) { m with state := s }

/-- A run of pieces, until one is answered UNMAPPED or DOMAIN_ASLEEP. -/
def movePieces (d : Descriptor) (l : List Piece) (s : State) : Moved :=
  l.foldl (fun m p =>
    if m.fail.isSome then m
    else if Descriptor.op d = 3 || Descriptor.op d = 4 then storePiece p (Descriptor.fill d p) false m else copyPiece p m)
    ⟨s, 0, 0, none, none⟩

/-! ## Chains (16 R533 to R537) -/

/-- The engine of a channel number. -/
def engineOf (unit : Nat) : Nat := unit / 16

/-- The chain of a channel changed. -/
def State.onHodChain (s : State) (unit : Nat) (f : Chain → Chain) : State :=
  match Store.find s.hod.chains unit with
  | some c => s.onHod fun h => { h with chains := Store.put h.chains unit (f c) }
  | none => s

/-- A read of a descriptor: its bytes, or the status that its answer ends the chain with. -/
def fetchDesc (s : State) (a : Nat) : Except Nat Bytes :=
  match hodAnswer s false a with
  | .unmapped => .error 6
  | .domainAsleep => .error 7
  | _ => if a % 64 != 0 || (badByte s (a / 64)).isSome then .error 5 else .ok (memBytes s.mem a 64)

/-- A prefetch of the descriptor that follows one, where revisit and hop limit let it be fetched. -/
def prefetchAfter (s : State) (hops limit : Nat) (history : List Nat) (d : Descriptor) : Option (Nat × Bytes) :=
  if Descriptor.chained d && decide (hops < limit) && !history.contains (Descriptor.next d) then
    match fetchDesc s (Descriptor.next d) with
    | .ok b => some (Descriptor.next d, b)
    | .error _ => none
  else none

/-- The two descriptors that follow the one that starts, each the copy already held or read now (16 R533). -/
def aheadOf (s : State) (c : Chain) (d : Descriptor) : List (Nat × Bytes) :=
  let held := fun (x : Option (Nat × Bytes)) => x.map fun p => (c.ahead.find? fun q => q.1 == p.1).getD p
  match held (prefetchAfter s (c.hops + 1) c.limit c.history d) with
  | none => []
  | some p => p :: (held (prefetchAfter s (c.hops + 2) c.limit (p.1 :: c.history) p.2)).toList

/-- A descriptor starts on a chain. -/
def Chain.start (s : State) (a : Nat) (d : Descriptor) (c : Chain) : Chain :=
  let c := { c with addr := a, cur := d, history := (a :: c.history).take 16 }
  { c with ahead := aheadOf s c d }

/-- The counters of a chain that ends. -/
def countEnd (e status : Nat) (s : State) : State :=
  let s := s.bump (O.chainsEnded e) 1
  if status == 3 then s.bump (O.stops e) 1 else if status == 1 then s.bump (O.loopEnds e) 1 else s

/-- What a run of pieces wrote, in the counts of its chain (16 R545). -/
def Chain.wrote (m : Moved) (c : Chain) : Chain :=
  { c with written := c.written + m.written, poisoned := c.poisoned + m.poisoned, last := m.last.or c.last }

/-- A chain ends with a status, and waits to be signalled. -/
def endChain (unit status : Nat) (s : State) : State :=
  countEnd (engineOf unit) status (s.onHodChain unit fun c => { c with status := some status, ahead := [] })

/-- Whether a stop of a chain is asked for: by DIAG_STOP, or by the cancel of an operation, or of one that is gone (16 R542). -/
def chainStop (s : State) (c : Chain) : Bool :=
  c.stop || (c.user == 0 && match s.op c.owner with
    | some o => o.cancel
    | none => true)

/-- What follows a descriptor that has ended: the status that ends the chain, or the next descriptor (16 R543). -/
def nextDesc (s : State) (c : Chain) : Except Nat (Nat × Bytes) :=
  if chainStop s c then .error 3
  else if !Descriptor.chained c.cur then .error 0
  else
    let a := Descriptor.next c.cur
    if c.history.contains a || decide (c.limit ≤ c.hops) then .error 1
    else match c.ahead.find? fun p => p.1 == a with
      | some p => if Descriptor.malformed p.2 then .error 5 else .ok p
      | none => match fetchDesc s a with
        | .error e => .error e
        | .ok b => if Descriptor.malformed b then .error 5 else .ok (a, b)

/-- A descriptor has run: what it wrote is counted, and the chain goes on or ends. -/
def finishDesc (unit : Nat) (c : Chain) (m : Moved) : State :=
  let e := engineOf unit
  let s := ((m.state.bump (O.descriptors e) 1).bump (O.bytesWritten e) m.written).bump (O.poisonedLines e) m.poisoned
  let c := { c.wrote m with hops := c.hops + 1 }
  let s := s.onHodChain unit fun _ => c
  match nextDesc s c with
  | .error status => endChain unit status s
  | .ok p => s.onHodChain unit fun c => c.start s p.1 p.2

/-- The chain of a channel that runs a descriptor now. -/
def runningChain (s : State) (unit : Nat) : Option Chain :=
  match Store.find s.hod.chains unit with
  | some c => if c.status.isNone && (Store.find s.hod.halting (engineOf unit)).isNone then some c else none
  | none => none

/-- Whether an engine and a channel are such. -/
def hodUnitOk (engine channel : Nat) : Bool := decide (engine < 24) && decide (channel < 16)

/-- HOD_DESCRIPTOR_END: a descriptor that no answer UNMAPPED or DOMAIN_ASLEEP stops has moved all its bytes. -/
def execHodDescriptorEnd (engine channel : Nat) (s : State) : Host.Outcome State Fault Refusal :=
  let unit := engine * 16 + channel
  if !hodUnitOk engine channel then .fault .noSuchUnit
  else match runningChain s unit with
    | some c =>
      let m := movePieces c.cur (Descriptor.pieces c.cur) s
      if m.fail.isSome then .next s else .next (finishDesc unit c m)
    | none => .next s

/-- HOD_RESPONSE_END: a line that the running descriptor reads or writes is answered UNMAPPED or DOMAIN_ASLEEP; what it wrote before
stays (16 R537). -/
def execHodResponseEnd (engine channel : Nat) (status : Status) (s : State) : Host.Outcome State Fault Refusal :=
  let unit := engine * 16 + channel
  if !hodUnitOk engine channel then .fault .noSuchUnit
  else match runningChain s unit with
    | some c =>
      let m := movePieces c.cur (Descriptor.pieces c.cur) s
      if m.fail = some status then
        let s := (m.state.bump (O.bytesWritten engine) m.written).bump (O.poisonedLines engine) m.poisoned
        let s := s.onHodChain unit (Chain.wrote m)
        .next (endChain unit (if status = .unmapped then 6 else 7) s)
      else .next s
    | none => .next s

/-! ## The end of a chain (16 R541, R544, R545) -/

/-- The reason of an end status (Table 16-4). -/
def hodReason : Nat → Reason
  | 0 => .ok | 1 => .hodLoop | 2 => .hodBusError | 3 => .hodStopped | 4 => .hodHalted | 7 => .domainOff | _ => .valueRange

/-- The completion record (Table 16-3). -/
def chainRecord (c : Chain) (status : Nat) : Bytes :=
  leBytes 1 status ++ leBytes 1 c.gen ++ leBytes 2 (hodReason status).code ++ leBytes 4 c.hops ++ leBytes 4 c.written
    ++ leBytes 2 (min c.poisoned 65535) ++ leBytes 2 c.tag

/-- What the user of a chain learns (16 R541): an operation its end, and diagnostics its result. -/
def tellUser (c : Chain) (status : Nat) (s : State) : State :=
  if c.user == 1 then (s.setObj O.diagState 0).setBlob O.diagResult (chainRecord c status)
  else s.onOp c.owner fun o => { o with ended := some (match status with
    | 0 => TaskEnd.ok
    | 2 | 4 => TaskEnd.tileFault
    | 3 => TaskEnd.cancelled
    | _ => TaskEnd.fault) }

/-- The completion record is written where the first descriptor named one; at an address that no memory answers it is lost. -/
def writeRecord (c : Chain) (status : Nat) (s : State) : State :=
  if c.record == 0 || status == 2 || status == 4 then s
  else (piecesOf 0 c.record 16).foldl (fun s p =>
    if hodAnswer s true p.dst = .ok then
      (writeLine (cellsAt p.dst (((chainRecord c status).drop p.src).take p.size)) s).2
    else s) s

/-- The last line that a chain wrote is read back; one that is answered UNCORRECTABLE counts as answered (16 R544). -/
def readBack (c : Chain) (s : State) : State :=
  match c.last.bind fun a => badByte s (a / 64) with
  | some a => metPoison a s
  | none => s

/-- HOD_CHAIN_SIGNAL: the channel is idle again, and its user learns the end. -/
def execHodChainSignal (engine channel : Nat) (s : State) : Host.Outcome State Fault Refusal :=
  let unit := engine * 16 + channel
  if !hodUnitOk engine channel then .fault .noSuchUnit
  else match Store.find s.hod.chains unit with
    | some c => match c.status with
      | some status =>
        if (Store.find s.hod.halting engine).isSome then .next s
        else .next (tellUser c status ((writeRecord c status (readBack c s)).onHod fun h => { h with chains := Store.drop h.chains unit }))
      | none => .next s
    | none => .next s

/-! ## Prefetch copies (13 R446) -/

/-- The pieces of a prefetch copy, into each tile of a header bond. -/
def prefetchPieces (s : State) (t pallet slot : Nat) : List Piece :=
  let into := fun (a : Nat) => piecesOf (palletAddr pallet) a 0x10000
  into (tileCell t (slot * 0x10000)) ++ (if s.obj (O.bondState (t / 2)) == 2 then into (tileAddr (t + 1) + slot * 0x10000) else [])

/-- The copies of a tile slot's next task replaced. -/
def State.setCopies (s : State) (t : Nat) (l : List (Nat × Nat × Bool)) : State :=
  { s with sched := { s.sched with copies := Store.put s.sched.copies t l } }

/-- PREFETCH_COPY_COMPLETE: the pallet's bytes stand in the local slot; a copy that an answer UNMAPPED or DOMAIN_ASLEEP ends is abandoned
(16 R537, R541). On an engine that waits to halt nothing completes (R538). -/
def execPrefetchCopyComplete (t pallet : Nat) (s : State) : Host.Outcome State Fault Refusal :=
  let l := Store.at [] s.sched.copies t
  let e := prefetchEngine t
  match l.find? fun c => c.1 == pallet && !c.2.2 with
  | some c =>
    if (Store.find s.hod.halting e).isSome then .next s
    else
      let m := movePieces (leBytes 64 1) (prefetchPieces s t pallet c.2.1) s
      let s := (m.state.bump (O.bytesWritten e) m.written).bump (O.poisonedLines e) m.poisoned
      match m.fail with
      | none =>
        let s := s.setCopies t (l.map fun x => if x = c then (c.1, c.2.1, true) else x)
        .next ((countEnd e 0 (s.bump (O.descriptors e) 1)).bump O.prefetchCopies 1)
      | some answer =>
        .next ((countEnd e (if answer = .unmapped then 6 else 7) (s.setCopies t (l.filter fun x => x != c))).bump O.prefetchAbandoned 1)
  | none => .next s

/-! ## Halts (16 R538 to R540) -/

/-- The tile slots whose open copies run on an engine. -/
def copiesOn (s : State) (e : Nat) : List Nat :=
  (s.sched.copies.filter fun (c : Nat × List (Nat × Nat × Bool)) => prefetchEngine c.1 == e && c.2.any fun x => !x.2.2).map
    fun (c : Nat × List (Nat × Nat × Bool)) => c.1

/-- The channels of an engine that are active, as bits. -/
def activeChannels (s : State) (e : Nat) : Nat :=
  bitsOfList ((s.hod.chains.filter fun (c : Nat × Chain) => c.1 / 16 == e).map (fun (c : Nat × Chain) => c.1 % 16)
    ++ (if (copiesOn s e).isEmpty then [] else [15]))

/-- A chain of a halted engine ends BUS_ERROR: a fetch runs again, and a diagnostic chain leaves its result (16 R538, R541). -/
def abortChain (e : Nat) (c : Chain) (s : State) : State :=
  let s := countEnd e 2 s
  if c.user == 1 then tellUser c 2 s else rerunOp s c.owner

/-- Nanoseconds in ticks. -/
def nsOfTicks (n : Nat) : Nat := n * 32 / 5

/-- HOD_HALT: the engine enters HALTED, and every chain and prefetch copy on it ends (16 R538, R547). -/
def haltEngine (e : Nat) (b : Nat × Nat × Nat) (s : State) : State :=
  let now := s.clock.ticks
  let halts := ((Store.at [] s.hod.halts e).filter fun t => now < t + tickSecond) ++ [now]
  let detail := leBytes 1 e ++ leBytes 1 b.2.1 ++ leBytes 6 b.2.2 ++ leBytes 2 (activeChannels s e) ++ leBytes 1 halts.length ++ leBytes 1 0
    ++ leBytes 4 (nsOfTicks (now - b.1))
  let mine := s.hod.chains.filter fun (c : Nat × Chain) => c.1 / 16 == e
  let tiles := copiesOn s e
  let s := s.onHod fun h =>
    { h with chains := h.chains.filter fun (c : Nat × Chain) => c.1 / 16 != e, halting := Store.drop h.halting e
             halted := Store.put h.halted e now, halts := Store.put h.halts e halts }
  let s := (s.setObj O.hodHaltedMap (setBit (s.nat O.hodHaltedMap) e true)).setBlob (O.lastHalt e) detail
  let s := raise (s.bump O.hodHaltCount 1) (O.busErrors e) e detail 0
  let s := mine.foldl (fun s (c : Nat × Chain) => abortChain e c.2 s) s
  tiles.foldl (fun s t => abandonCopies t s) s

/-- Whether a request that the fabric holds was issued by an engine. -/
def Held.ofHod (e : Nat) (h : Held) : Bool := h.src == ((hodStop e).1 * 48 + (hodStop e).2) * 4

/-- An engine with a bus error halts once none of its requests is outstanding (16 R538 steps 2 to 4). -/
def settleHalts (s : State) : State :=
  s.hod.halting.foldl (fun s (b : Nat × Nat × Nat × Nat) =>
    if s.mortar.reqs.any (Held.ofHod b.1) then s else haltEngine b.1 b.2 s) s

/-- A bus error of an engine: it stops issuing requests at once (16 R538 step 1). -/
def busError (e cause addr : Nat) (s : State) : State :=
  if (Store.find s.hod.halting e).isSome || bitOf (s.nat O.hodHaltedMap) e then s
  else s.onHod fun h => { h with halting := Store.put h.halting e (s.clock.ticks, cause, addr) }

/-- HALT_HOLD_EXPIRY: the engine reads RUN, or after HALT_LIMIT halts in one second, or a failed self-test, FAULTED (16 R540). -/
def execHaltHoldExpiry (engine : Nat) (selfTestOk : Bool) (s : State) : Host.Outcome State Fault Refusal :=
  if 24 ≤ engine then .fault .noSuchUnit
  else match Store.find s.hod.halted engine with
    | some t =>
      let s := advanceTicks s (t + ticksOfNs (1000 * s.nat O.haltHold))
      let s := (s.setObj O.hodHaltedMap (setBit (s.nat O.hodHaltedMap) engine false)).onHod fun h =>
        { h with halted := Store.drop h.halted engine }
      if selfTestOk && decide ((Store.at [] s.hod.halts engine).length < s.nat O.haltLimit) then .next s
      else .next (unitLost (unitWord 5 engine) 0 0 (s.setObj O.hodService (setBit (s.nat O.hodService) engine false)))
    | none => .next s

/-- A write of HOD_RELEASE (16 R540). -/
def actHodRelease (v : Int) : Action := fun s =>
  let e := v.toNat
  if bitOf (s.nat O.hodService) e then (.ok, s)
  else (.ok, (s.setObj O.hodService (setBit (s.nat O.hodService) e true)).onGuard fun g =>
    { g with lost := g.lost.filter (· != unitWord 5 e) })

/-- HOD_RELEASE. -/
def execHodRelease (x : Xfer) (v : Int) (s : State) : Host.Outcome State Fault Refusal :=
  .next (hostWrite x O.hodRelease (.num v) (actHodRelease v) s)

/-! ## Diagnostics (16 R542, R548) -/

/-- The channel that a diagnostic chain would take: 15 of the lowest-numbered of h20 to h23 that reads RUN and has it free. -/
def diagChannel (s : State) : Option Nat :=
  (([20, 21, 22, 23].filter s.hodRuns).map fun e => e * 16 + 15).find? fun u =>
    (Store.find s.hod.chains u).isNone && unitFree s 5 u

/-- A diagnostic chain begins: its first descriptor is read and judged (16 R532, R537). -/
def startDiag (unit : Nat) (s : State) : State :=
  let a := s.nat O.diagChain
  let s := s.setObj O.diagState 1
  let first := fetchDesc s a
  let d := match first with
    | .ok b => b
    | .error _ => []
  let c : Chain :=
    { user := 1, owner := 0, addr := a, cur := d, ahead := [], limit := s.nat O.hopLimit, gen := bytesAt d 2 1, tag := bytesAt d 54 2
      record := bytesAt d 56 6, hops := 0, written := 0, poisoned := 0, history := [], stop := false, status := none, last := none }
  let s := s.onHod fun h => { h with chains := Store.put h.chains unit c }
  match first with
  | .error status => endChain unit status s
  | .ok b => if Descriptor.malformed b then endChain unit 5 s else s.onHodChain unit fun c => c.start s a b

/-- A write of DIAG_START. -/
def actDiagStart : Action := fun s =>
  if !([20, 21, 22, 23].any s.hodRuns) then (.hodHalted, s)
  else if s.obj O.diagState == 1 then (.noHodChannel, s)
  else match diagChannel s with
    | some unit => (.ok, startDiag unit s)
    | none => (.noHodChannel, s)

/-- DIAG_START. -/
def execDiagStart (x : Xfer) (s : State) : Host.Outcome State Fault Refusal :=
  .next (hostWrite x O.diagStart (.num 1) actDiagStart s)

/-- A write of DIAG_STOP: a stop of the diagnostic chain, effective at its next descriptor boundary. -/
def actDiagStop : Action := fun s =>
  (.ok, s.onHod fun h => { h with chains := h.chains.map fun (c : Nat × Chain) =>
    if c.2.user == 1 && c.2.status.isNone then (c.1, { c.2 with stop := true }) else c })

/-- DIAG_STOP. -/
def execDiagStop (x : Xfer) (s : State) : Host.Outcome State Fault Refusal :=
  .next (hostWrite x O.diagStop (.num 1) actDiagStop s)

end Sys2Proof.Machine
end

