-- ==== Sys2Proof/Machine/Transit.lean ====
section
/-! DEFINITION. How packets cross the mortar fabric (14 R457, R462, R464, R467 to R470, R478 to R483, R487, R488): the virtual channels of
the links with their credits, the buffers of the joints, and the arbiters of the stops, cycle by cycle. What the spec leaves open of it is
in log entry 52. -/

namespace Sys2Proof.Machine

/-- The state with the fabric changed. -/
def State.onMortar (s : State) (f : Mortar → Mortar) : State := { s with mortar := f s.mortar }

/-! ## Ports and arbiters (14 R458, R478) -/

/-- A port of a stop as one number. -/
def portCode (ring stop port : Nat) : Nat := (ring * 48 + stop) * 4 + port

/-- The ring of a port number. -/
def portRing (src : Nat) : Nat := src / 4 / 48

/-- The stop of a port number. -/
def portStopNo (src : Nat) : Nat := src / 4 % 48

/-- The factory table: flags 0 and every entry unowned. -/
def arbFactory : Bytes := List.replicate 4 0 ++ List.replicate 64 0xFF

/-- An arbiter as reset leaves it. -/
def Arb.fresh : Arb := ⟨arbFactory, arbFactory, false, false, none, 0⟩

/-- An arbiter's tables. -/
def State.arb (s : State) (mc : Bool) (k : Nat) : Arb := Store.at Arb.fresh (if mc then s.mortar.mc else s.mortar.arbs) k

/-- The entries of a table. -/
def arbEntries (b : Bytes) : List Nat := (b.drop 4).map fun (x : Byte) => x.toNat

/-- The arbiter of a kind at a stop. -/
def arbKey (ring stop kind : Nat) : Nat := (ring * 48 + stop) * 8 + kind

/-! ## Flits and buffers (14 R461, R464, R469) -/

/-- Whether two flits are of one packet. -/
def Flit.samePacket (a b : Flit) : Bool := a.src == b.src && a.dst == b.dst && a.tag == b.tag && a.type == b.type && a.line == b.line

/-- Whether a packet is of the response class (14 Table 14-4). -/
def Flit.response (f : Flit) : Bool := decide (8 ≤ f.type)

/-- The class of a packet as a number. -/
def Flit.cls (f : Flit) : Nat := if f.response then 1 else 0

/-- The virtual channel of a flit (14 Table 14-6). -/
def Flit.vc (f : Flit) : Nat := 2 * f.cls + (if f.crossed then 1 else 0)

/-- The buffers: what waits at a local port for each class; what arrived at a stop by a direction's link, for each virtual channel; and of a joint,
upward and downward, one for each class. -/
inductive Buffer
  | local' (ring stop port cls : Nat)
  | link (ring stop : Nat) (acw : Bool) (vc : Nat)
  | up (ring stop cls : Nat)
  | down (ring stop cls : Nat)
  deriving DecidableEq, Repr

/-- A buffer's key. -/
def Buffer.key : Buffer → Nat
  | .local' r s p c => (((r * 48 + s) * 4 + p) * 2 + c) * 4
  | .link r s a v => (((r * 48 + s) * 2 + (if a then 1 else 0)) * 4 + v) * 4 + 1
  | .up r s c => ((r * 48 + s) * 2 + c) * 4 + 2
  | .down r s c => ((r * 48 + s) * 2 + c) * 4 + 3

/-- The buffer of a key. -/
def bufferOf (k : Nat) : Buffer :=
  let x := k / 4
  match k % 4 with
  | 0 => .local' (x / 8 / 48) (x / 8 % 48) (x / 2 % 4) (x % 2)
  | 1 => .link (x / 8 / 48) (x / 8 % 48) (x / 4 % 2 == 1) (x % 4)
  | 2 => .up (x / 2 / 48) (x / 2 % 48) (x % 2)
  | _ => .down (x / 2 / 48) (x / 2 % 48) (x % 2)

/-- What a buffer holds, oldest first. -/
def Mortar.buffer (m : Mortar) (b : Buffer) : List Flit := Store.at [] m.flying b.key

/-- The stop that a link from a stop leads to. -/
def nextStop (acw : Bool) (s : Nat) : Nat := if acw then (s + 47) % 48 else (s + 1) % 48

/-- The stops A of a ring's links that are out of service: none while it reads WHOLE, and two while it reads SPLIT (14 R486, R490). -/
def brokenLinks (s : State) (ring : Nat) : List Nat :=
  match s.nat (O.ringState ring) with
  | 0 => []
  | 3 => [s.nat (O.faultStop ring), Store.at 0 s.units.second ring]
  | _ => [s.nat (O.faultStop ring)]

/-- Whether a link lies between a stop A and the next, where the ring's link is faulty. -/
def linkBroken (s : State) (ring stop : Nat) (acw : Bool) : Bool :=
  (brokenLinks s ring).contains (if acw then nextStop true stop else stop)

/-- Whether the path of a number of hops from a stop in a direction has no faulty link. -/
def pathWorks (s : State) (ring stop : Nat) (acw : Bool) (hops : Nat) : Bool :=
  (List.range hops).all fun i => !linkBroken s ring (if acw then (stop + 48 - i) % 48 else (stop + i) % 48) acw

/-- Whether a link crosses the dateline of its direction: from 47 to 0, or from 0 to 47, on a ring that reads WHOLE. -/
def crossesDateline (s : State) (ring stop : Nat) (acw : Bool) : Bool :=
  s.obj (O.ringState ring) == 0 && stop == (if acw then 0 else 47)

/-- A flit's next move: the arbiter that it must win, the input by which it competes, the buffer that it leaves and the one that it enters,
none where it is ejected. -/
structure Move where
  arb   : Nat
  input : Nat
  from' : Nat
  to'   : Option Nat
  flit  : Flit
  deriving DecidableEq, Repr

/-- The move of a flit along its ring from a stop, by an input of the link's arbiter; at a broken link it wraps onto the other direction. -/
def onward (s : State) (from' : Nat) (ring stop input : Nat) (f : Flit) : Move :=
  if linkBroken s ring stop f.acw then
    let f := { f with acw := !f.acw, crossed := true, hops := f.hops + 1 }
    ⟨arbKey ring stop (if f.acw then 1 else 0), 5, from', some (Buffer.link ring (nextStop f.acw stop) f.acw f.vc).key, f⟩
  else
    let f := { f with crossed := f.crossed || crossesDateline s ring stop f.acw, hops := f.hops + 1 }
    ⟨arbKey ring stop (if f.acw then 1 else 0), input, from', some (Buffer.link ring (nextStop f.acw stop) f.acw f.vc).key, f⟩

/-- The move that the first flit of a buffer asks for (14 R467, R470). A packet between two ports of one stop of a ring goes by the joint port
of that ring (log entry 52). -/
def asksFor (s : State) (k : Nat) (f : Flit) : Move :=
  match bufferOf k with
  | .local' r p q _ =>
    if p == portStopNo f.dst then ⟨arbKey r p 2, 2 + q, k, some (Buffer.up r p f.cls).key, f⟩ else onward s k r p (1 + q) f
  | .link r p a _ =>
    if p == portStopNo f.dst then
      if r == portRing f.dst then ⟨arbKey r p 4, if a then 1 else 0, k, none, f⟩
      else ⟨arbKey r p 2, if a then 1 else 0, k, some (Buffer.up r p f.cls).key, f⟩
    else onward s k r p 0 f
  | .up r p c => ⟨arbKey (portRing f.dst) p 3, r, k, some (Buffer.down (portRing f.dst) p c).key, f⟩
  | .down r p _ => ⟨arbKey r p 4, 2, k, none, f⟩

/-- The flits that a buffer of a virtual channel, or of a joint's class, holds at most (log entry 52). -/
def bufferDepth : Nat := Config.vcDepth + 1

/-- Whether a buffer of a depth has a credit for a flit: a place, and no packet in it that is still to follow on. -/
def hasCredit (depth : Nat) (m : Mortar) (f : Flit) (to' : Option Nat) : Bool :=
  match to' with
  | none => true
  | some k =>
    let l := Store.at [] m.flying k
    !decide (depth ≤ l.length) && (match l.getLast? with
      | some x => x.after == 0 || (x.samePacket f && x.after == f.after + 1)
      | none => true)

/-- The rings that hold injection: those that reverse (14 R487). -/
def injectionHeld (s : State) (k : Nat) : Bool :=
  match bufferOf k with
  | .local' r p _ _ => s.obj (O.ringState r) == 1 && (Store.at [] s.mortar.flying k).any fun f => p != portStopNo f.dst
  | .link r _ _ _ => s.obj (O.ringState r) == 1
  | _ => false

/-- Whether an arbiter grants in this cycle as its output goes: a joint port with one path moves a flit in every second cycle, and with none none
(14 R457, R490; log entry 52). -/
def outputOpen (s : State) (arb : Nat) : Bool :=
  if arb % 8 == 2 || arb % 8 == 3 then
    match Store.at 0 s.mortar.joints (arb / 8) with
    | 0 => true
    | 1 => s.mortar.cycle % 2 == 0
    | _ => false
  else true

/-- The inputs that compete in a cycle: those with a flit ready and a downstream credit (14 R479). -/
def competing (depth : Nat) (s : State) : List Move :=
  s.mortar.flying.filterMap fun b => match b.2 with
    | [] => none
    | f :: _ =>
      let m := asksFor s b.1 f
      if !injectionHeld s b.1 && outputOpen s m.arb && hasCredit depth s.mortar m.flit m.to' then some m else none

/-! ## Arbitration (14 R479 to R483) -/

/-- The entry that the pointer of an arbiter is at. -/
def pointerAt (s : State) (table : Bytes) : Nat :=
  if bitOf (bytesAt table 0 1) 1 && s.airRunning then (s.mortar.phase + (s.mortar.cycle - s.mortar.phaseAt * 64 / 5)) % 64
  else s.mortar.cycle % 64

/-- The rank of an input: the cycles since its last grant, up to 1,023 (14 R480). -/
def grantRank (s : State) (arb input : Nat) : Nat :=
  match Store.find s.mortar.grants (arb * 8 + input) with
  | some c => min 1023 (s.mortar.cycle - c)
  | none => 1023

/-- Grout: the highest rank wins, and among equal ranks the lowest input number. -/
def grout (s : State) (arb : Nat) (l : List Move) : Option Move :=
  l.foldl (fun best m => match best with
    | none => some m
    | some b =>
      if grantRank s arb b.input < grantRank s arb m.input || (grantRank s arb b.input == grantRank s arb m.input && decide (m.input < b.input)) then some m
      else best) none

/-- Among the virtual channels of one input, the one with the highest number (log entry 52). -/
def inputMove (l : List Move) (input : Nat) : Option Move :=
  l.foldl (fun best m => if m.input != input then best else match best with
    | none => some m
    | some b => if b.flit.vc < m.flit.vc then some m else best) none

/-- Whether the slots from the pointer on that a packet of `n` flits needs are all owned by its input (14 R482). -/
def ownsRun (e : List Nat) (at' input n : Nat) : Bool := (List.range n).all fun i => e.getD ((at' + i) % 64) 0xFF == input

/-- What an arbiter grants in a cycle, and whether an owner that competed lost its slot (14 R479 to R482): a WRITE that has won holds the output
until its last flit has passed; the owner of the entry wins; otherwise grout decides, unless FREEZE turns it off, where a packet starts only in
slots that its input owns to its end. -/
def decideGrant (s : State) (arb : Nat) (l : List Move) : Option Move × Bool :=
  let table := (s.arb false arb).front
  let e := arbEntries table
  let at' := pointerAt s table
  let owner := e.getD at' 0xFF
  let freeze := bitOf (bytesAt table 0 1) 0
  match Store.find s.mortar.outputs arb with
  | some h => (l.find? fun m => m.flit.samePacket h, (inputMove l owner).any fun m => !m.flit.samePacket h)
  | none =>
    match inputMove l owner with
    | some m => if !freeze || ownsRun e at' owner (m.flit.after + 1) then (some m, false) else (none, false)
    | none => if freeze then (none, false) else ((grout s arb l).bind fun m => inputMove l m.input, false)

/-- A list of numbers, each once. -/
def onceEach (l : List Nat) : List Nat := l.foldl (fun a x => if a.contains x then a else a ++ [x]) []

/-- The cycles of a millisecond at 2.0 GHz (14 R457). -/
def meterCycles : Nat := 2000000

/-- The meter of the millisecond that a cycle lies in, and that of the one before. -/
def metersAt (x : Mortar) (cycle : Nat) : FabricMeter × FabricMeter :=
  let w := cycle / meterCycles
  let none' := fun (n : Nat) => FabricMeter.mk n [] 0 0
  if x.meter.window == w then (x.meter, x.last)
  else (none' w, if x.meter.window + 1 == w then x.meter else none' (w - 1))

/-- A move is counted: the link that it crosses, or the flit that it delivers. -/
def FabricMeter.move (m : Move) (x : FabricMeter) : FabricMeter :=
  match m.to' with
  | none => { x with flits := x.flits + 1, hops := x.hops + m.flit.hops }
  | some k => match bufferOf k with
    | .link r p a _ =>
      let l := (r * 48 + p) * 2 + if a then 1 else 0
      { x with links := Store.put x.links l (Store.at 0 x.links l + 1) }
    | _ => x

/-- A granted flit moves. -/
def moveFlit (m : Move) (x : Mortar) : Mortar :=
  let left := (Store.at [] x.flying m.from').drop 1
  let f := if left.isEmpty then Store.drop x.flying m.from' else Store.put x.flying m.from' left
  let x := { x with
    flying := match m.to' with
      | some k => Store.put f k (Store.at [] f k ++ [m.flit])
      | none => f
    grants := Store.put x.grants (m.arb * 8 + m.input) x.cycle
    outputs := if m.flit.after == 0 then Store.drop x.outputs m.arb else Store.put x.outputs m.arb m.flit
    meter := x.meter.move m }
  if m.to'.isNone && m.flit.after == 0 then { x with arrived := x.arrived ++ [m.flit] } else x

/-- One cycle of the fabric: every arbiter decides on what stands at its start. A response whose request no source holds is discarded as it
arrives (14 R466). -/
def fabricCycle (depth : Nat) (s : State) : State :=
  let l := competing depth s
  let r := (onceEach (l.map (·.arb))).map fun a => decideGrant s a (l.filter fun m => m.arb == a)
  let s := s.bump O.grantsLost (r.filter fun x => x.2).length
  let s := s.onMortar fun m => (r.filterMap (·.1)).foldl (fun m x => moveFlit x m) m
  s.onMortar fun m => { m with
    cycle := m.cycle + 1
    meter := (metersAt m (m.cycle + 1)).1
    last := (metersAt m (m.cycle + 1)).2
    arrived := m.arrived.filter fun f => !f.response || m.reqs.any fun h => h.src == f.dst && h.tag == f.tag }

/-- The fabric runs until a packet has arrived, at most for the cycles given. -/
def runFabric (depth : Nat) (want : Flit) : Nat → State → State
  | 0, s => s
  | k + 1, s => if s.mortar.arrived.any (want.samePacket ·) then s else runFabric depth want k (fabricCycle depth s)

/-! ## Injection (14 R467, R468, R488) -/

/-- The direction of a packet at its source stop: the shorter where the hop counts differ by more than ADAPT_SLACK, or else the link with more
free credits; on a ring that is not WHOLE the one whose links all work. -/
def directionOf (s : State) (ring stop dst cls : Nat) : Bool :=
  let dc := (dst + 48 - stop) % 48
  let da := (stop + 48 - dst) % 48
  if s.obj (O.ringState ring) != 0 then !pathWorks s ring stop false dc
  else if s.nat O.adaptSlack < max dc da - min dc da then decide (da < dc)
  else
    let held := fun (a : Bool) => (s.mortar.buffer (.link ring (nextStop a stop) a (2 * cls))).length
    decide (held true < held false)

/-- Whether a packet is on its way. -/
def inFlight (m : Mortar) (f : Flit) : Bool := m.flying.any fun b => b.2.any (f.samePacket ·)

/-- Whether a stop of a ring can be reached from another: on a SPLIT ring, by a direction whose links all work (14 R490). -/
def canReach (s : State) (ring stop dst : Nat) : Bool :=
  s.obj (O.ringState ring) != 3 || pathWorks s ring stop false ((dst + 48 - stop) % 48) || pathWorks s ring stop true ((stop + 48 - dst) % 48)

/-- A packet of `n` flits is injected at its source port, unless it is still on its way, or no link leads to its target. -/
def injectPacket (f : Flit) (n : Nat) (s : State) : State :=
  if inFlight s.mortar f || s.mortar.arrived.any (f.samePacket ·) || !canReach s (portRing f.src) (portStopNo f.src) (portStopNo f.dst) then s
  else
    let r := portRing f.src
    let p := portStopNo f.src
    let a := directionOf s r p (portStopNo f.dst) f.cls
    let k := (Buffer.local' r p (f.src % 4) f.cls).key
    s.onMortar fun m => { m with
      cycle := max m.cycle (s.clock.ticks * 64 / 5)
      meter := (metersAt m (max m.cycle (s.clock.ticks * 64 / 5))).1
      last := (metersAt m (max m.cycle (s.clock.ticks * 64 / 5))).2
      flying := Store.put m.flying k (Store.at [] m.flying k ++ (List.range n).map fun i =>
        { f with acw := a, crossed := false, after := n - 1 - i }) }

/-- The cycles of the 4 µs after which a source gives a request up. -/
def transitLimit : Nat := 8000

/-- A packet crosses a fabric whose buffers have a depth: whether it reached its target within the time that its source waits. -/
def transitWith (depth : Nat) (f : Flit) (n : Nat) (s : State) : State × Bool :=
  let s := runFabric depth f transitLimit (injectPacket f n s)
  (s.onMortar fun m => { m with arrived := m.arrived.filter fun x => !x.samePacket f }, s.mortar.arrived.any (f.samePacket ·))

/-- A packet crosses the fabric. -/
def transit (f : Flit) (n : Nat) (s : State) : State × Bool := transitWith bufferDepth f n s

/-- A packet's flit as it is injected. -/
def Flit.packet (src dst tag type line : Nat) : Flit := ⟨src, dst, tag, type, line, 0, false, false, 0⟩

/-- The answers of a target enter the fabric: a READ_RESP for each line, or one acknowledgement (14 R462). -/
def injectAnswers (src dst tag type lines : Nat) (s : State) : State :=
  (List.range lines).foldl (fun s i => injectPacket (.packet dst src tag (type + 8) i) 1 s) s

/-- Cycles in which no flit enters a ring, until none is on its links: at most those of 1 µs (14 R490). -/
def drainFrom (ring : Nat) : Nat → State → State
  | 0, s => s
  | k + 1, s =>
    if s.mortar.flying.any fun b => match bufferOf b.1 with
      | .link r _ _ _ => r == ring
      | _ => false
    then drainFrom ring k (fabricCycle bufferDepth s) else s

/-- A ring holds injection while every flit on its links reaches its destination (14 R490). -/
def drainRing (ring : Nat) (s : State) : State :=
  let waits := fun (b : Nat × List Flit) => match bufferOf b.1 with
    | .local' r p _ _ => r == ring && b.2.any fun f => p != portStopNo f.dst
    | _ => false
  let held := s.mortar.flying.filter waits
  let s := drainFrom ring 2000 (s.onMortar fun m => { m with flying := m.flying.filter fun b => !waits b })
  s.onMortar fun m => { m with flying := held.foldl (fun l b => Store.put l b.1 b.2) m.flying }

/-! ## What it reports (14 R491, Tables 14-13, 14-14) -/

/-- What the fabric moved in the last whole millisecond (log entry 52). -/
def State.lastMeter (s : State) : FabricMeter :=
  (metersAt s.mortar (max s.mortar.cycle (s.clock.ticks * 64 / 5))).2

/-- The flits that crossed each link of a direction, those of one ring or of all. -/
def FabricMeter.loads (x : FabricMeter) (ring : Option Nat) (acw : Bool) : List Nat :=
  (x.links.filter fun e => (e.1 % 2 == 1) == acw && (match ring with
    | some r => e.1 / 96 == r
    | none => true)).map fun e => e.2

/-- The load of the busiest link of a ring's direction, per mille of one flit per cycle. -/
def State.ringLoad (s : State) (ring : Nat) (acw : Bool) : Nat := ((s.lastMeter.loads (some ring) acw).foldl max 0) * 1000 / meterCycles

/-- h̄ in 0.01 hop, none where nothing was delivered. -/
def State.meanHop (s : State) : Option Nat :=
  let x := s.lastMeter
  if x.flits = 0 then none else some (min 65535 (100 * x.hops / x.flits))

/-- β in 0.001: the load of the busiest link over the mean load of the 384 links of its direction, none where no link was crossed. -/
def State.loadBalance (s : State) : Option Nat :=
  let x := s.lastMeter
  let cw := x.loads none false
  let acw := x.loads none true
  let l := if cw.foldl max 0 < acw.foldl max 0 then acw else cw
  if l.sum = 0 then none else some (min 65535 (l.foldl max 0 * 384 * 1000 / l.sum))

/-- D in Gbit/s: 512 bits of payload for each flit delivered. -/
def State.deliveredGbps (s : State) : Nat := s.lastMeter.flits * 512 / 1000000

/-! ## The fold of a ring (14 R487) -/

/-- A stop that reverses discards every flit of its ring that it holds; how many it held (14 R487). -/
def discardFlits (ring stop : Nat) (s : State) : State × Nat :=
  let mine := fun (b : Nat × List Flit) => match bufferOf b.1 with
    | .link r p _ _ => r == ring && p == stop
    | _ => false
  let n := ((s.mortar.flying.filter mine).map fun b => b.2.length).sum
  let gone := (s.mortar.flying.filter mine).flatMap fun b => b.2
  (s.onMortar fun m => { m with
    flying := (m.flying.filter fun b => !mine b).map fun b => (b.1, b.2.filter fun f => !gone.any (f.samePacket ·))
    outputs := m.outputs.filter fun o => !gone.any (o.2.samePacket ·) }, n)

end Sys2Proof.Machine
end

