-- ==== Sys2Proof/Machine/Fabric.lean ====
section
/-! DEFINITION. The mortar fabric (14): where requests go and who answers, responses, retries and timeouts, the faults of rings, and the
tables of the arbiters, those of the GDDR7 channels with them (15 R514, R515). -/

namespace Sys2Proof.Machine

/-! ## Agents (14 Tables 14-1, 14-2) -/

/-- The tile at a port. -/
def tileAt (src : Nat) : Option Nat :=
  ((List.range 100).find? fun n => pairStop n = (portRing src, portStopNo src)).bind fun n => if src % 4 < 2 then some (2 * n + src % 4) else none

/-- The hod engine at a port. -/
def hodAt (src : Nat) : Option Nat :=
  (List.range 24).find? fun e => hodStop e = (portRing src, portStopNo src) && src % 4 == 0

/-- Whether a management core is at a port. -/
def isCore (src : Nat) : Bool := portStopNo src == 47 && decide (portRing src < 4)

/-- The power domain of the agent at a stop; the stops of the emission guard, AON and debug access count as AON, which is always in RUN. -/
def stopDomain (r stop : Nat) : Nat :=
  if [0, 1, 2, 16, 17, 18, 32, 33, 34, 12, 28, 45].contains stop then 31
  else if [13, 29, 46].contains stop then 20 + (3 * r + (if stop == 13 then 0 else if stop == 29 then 1 else 2)) / 4
  else if [9, 10, 11].contains stop then 26 + 2 * r / 4
  else if [25, 26, 27].contains stop then 26 + (2 * r + 1) / 4
  else if stop == 14 || stop == 30 then 15
  else if stop == 43 || stop == 44 then 16 + r / 2
  else if [8, 24, 40, 42].contains stop then 14
  else if [7, 23, 39, 41].contains stop then (if 4 * r + (if stop == 7 then 0 else if stop == 23 then 1 else if stop == 39 then 2 else 3) < 17
    then 12 else 13)
  else if stop == 15 then (if r < 4 then 30 else 11)
  else if stop == 31 then (if r < 4 then 30 else if r < 6 then 13 else if r == 6 then 15 else 0)
  else if stop == 47 then (if r < 4 then 1 else if r < 6 then 14 else 0)
  else 2 + (12 * r + (if stop < 7 then stop - 3 else if stop < 23 then stop - 15 else stop - 27)) / 10

/-- The stop that a request for a device address enters (14 R459): of the feed port, that of the first kiln stop. -/
def regionStop (a : Nat) : Region → Nat × Nat
  | .store k => (k / 3, 16 * (k % 3) + a / 64 % 3)
  | .chan c => (c / 2, (if c % 2 == 0 then 9 else 25) + a / 64 % 3)
  | .tile t => pairStop (t / 2)
  | .feed => kilnStop 0
  | .nowhere => (0, 0)

/-- The answer to an access by the agent at a port, its data apart: tile memory is reached by hods and management cores alone (15 R493). -/
def fabricAnswer (s : State) (write : Bool) (src a : Nat) : Status :=
  match regionOf s a with
  | .tile t =>
    if (hodAt src).isSome then hodAnswer s write a
    else if isCore src then (if s.runs (2 + t / 20) then .ok else .domainAsleep) else .unmapped
  | _ => hodAnswer s write a

/-! ## Requests held at their source (14 R466) -/

/-- The request of a port and tag. -/
def heldOf (s : State) (src tag : Nat) : Option Held := s.mortar.reqs.find? fun h => h.src == src && h.tag == tag

/-- A request is injected: held at its source, or injected again. -/
def holdRequest (h : Held) (s : State) : State :=
  match heldOf s h.src h.tag with
  | some _ => s.onMortar fun m => { m with reqs := m.reqs.map fun x =>
      if x.src == h.src && x.tag == h.tag then { x with sentAt := s.clock.ticks, resend := false } else x }
  | none => s.onMortar fun m => { m with reqs := m.reqs ++ [h] }

/-- A request of a packet. -/
def newHeld (s : State) (pkt : Packet) (type addr lines dst domain : Nat) : Held :=
  ⟨pkt.src, pkt.tag, type, addr, lines, portRing dst, portStopNo dst, dst % 4, domain, 0, 0, s.clock.ticks, false⟩

/-- A request ends: its source lets go of it, and an engine that halts may come to rest. -/
def dropHeld (h : Held) (s : State) : State :=
  settleHalts (s.onMortar fun m => { m with reqs := m.reqs.filter (· != h) })

/-- Whether a packet's fields are such: a port of the fabric, an address that is a multiple of 64, and 1 to 4 lines. -/
def packetOk (pkt : Packet) : Bool := decide (pkt.src < 1536) && pkt.addr % 64 == 0 && decide (1 ≤ pkt.lines) && decide (pkt.lines ≤ 4)

/-! ## Answers of a domain that is not in RUN (14 R473, R476) -/

/-- The state of a domain's bridges: OPEN; CLOSING until every request of or to its agents has been answered, then DRAINED; DRAINED in
TRIM; and ASLEEP in NAP and OFF, and until the domain reads RUN again (14 R473, R474; 18 Table 18-2). -/
def bridgeOf (s : State) (d : Nat) : Nat :=
  match s.nat (O.domainState d) with
  | 0 => 0
  | 1 => 2
  | 4 => if s.mortar.reqs.any fun h => h.domain == d || stopDomain (portRing h.src) (portStopNo h.src) == d then 1 else 2
  | _ => 3

/-- A request is answered DOMAIN_ASLEEP; the first since the domain began to close raises the event (Table 14-7). -/
def answerAsleep (d : Nat) (src type : Nat) (s : State) : State :=
  let s := s.bump O.asleepAnswers 1
  if s.mortar.told.contains d then s
  else (raise s O.domainAsleepCount d (leBytes 1 d ++ leBytes 1 (bridgeOf s d) ++ leBytes 1 (portRing src) ++ leBytes 1 (portStopNo src)
    ++ leBytes 1 (src % 4) ++ leBytes 1 type ++ leBytes 2 0) 0).onMortar fun m => { m with told := m.told ++ [d] }

/-! ## READ_REQ, WRITE, MESSAGE -/

/-- The channel that holds an address, if it retrains. -/
def trainingChan (s : State) (a : Nat) : Option Nat :=
  match regionOf s a with
  | .chan c => if s.obj (O.chState c) == 1 then some c else none
  | _ => none

/-- Bytes that a channel reads or writes are counted. -/
def countBytes (write : Bool) (a n : Nat) (s : State) : State :=
  match regionOf s a with
  | .chan c => s.bump (if write then O.chWriteBytes c else O.chReadBytes c) n
  | _ => s

/-- The lines of a packet. -/
def packetLines (pkt : Packet) : List Nat := (List.range pkt.lines).map (· + pkt.addr / 64)

/-- A target reads a line: a word known to be bad is met again; of a tile that reads, its exception logs it. -/
def readLine (src : Nat) (s : State) (line : Nat) : State :=
  let s := countBytes false (line * 64) 64 s
  match badByte s line with
  | some a => if (tileAt src).isSome then s else metPoison a s
  | none => s

/-- A target reads the lines of a request, with the errors that its access finds. -/
def doRead (src : Nat) (lines : List Nat) (found : List MemError) (s : State) : State :=
  lines.foldl (readLine src) (found.foldl (noteError 0) s)

/-- A target writes the lines of a request: the errors found are those of partial writes. -/
def doWrite (cells : List (List Host.Cell)) (found : List MemError) (s : State) : State :=
  cells.foldl (fun s (l : List Host.Cell) =>
    (writeLine l (countBytes true ((l.head?.map fun (c : Host.Cell) => c.1).getD 0) l.length s)).2) (found.foldl (noteError 2) s)

/-! ## The arbiters of the channels (15 R514) -/

/-- The input of a channel's arbiter by which the agent at a port competes (15 Table 15-3). -/
def channelInput (src : Nat) : Nat :=
  let p := portStopNo src
  let r := portRing src
  if [13, 29, 46].contains p then 1
  else if [7, 23, 39, 41].contains p || (p == 31 && (r == 4 || r == 5)) then 2
  else if [8, 24, 40, 42].contains p || (p == 47 && (r == 4 || r == 5)) then 3
  else if [12, 28, 45].contains p then 4
  else 5

/-- An input of a channel's arbiter is granted. -/
def grantChannel (c input cycle : Nat) (s : State) : State :=
  s.onMortar fun m => { m with mcGrants := Store.put m.mcGrants (c * 8 + input) cycle }

/-- A request that a channel takes at once is granted as it comes. -/
def grantAt (a src : Nat) (s : State) : State :=
  match regionOf s a with
  | .chan c => grantChannel c (channelInput src) s.mortar.cycle s
  | _ => s

/-- The entry of a channel's table that its pointer is at in a cycle (14 R479, R483). -/
def mcEntry (s : State) (c cycle : Nat) : Nat :=
  let table := (s.arb true c).front
  let at' := if bitOf (bytesAt table 0 1) 1 && s.airRunning then s.mortar.mcPhase + (cycle - s.mortar.phaseAt * 64 / 5) else cycle
  (arbEntries table).getD (at' % 64) 0xFF

/-- The input that wins a channel in a cycle among those that compete: the owner of the entry, or by grout, unless FREEZE turns it off (14 R479,
R480, R482; log entry 52). -/
def channelWinner (s : State) (c cycle : Nat) (inputs : List Nat) : Option Nat :=
  let owner := mcEntry s c cycle
  if inputs.contains owner then some owner
  else if bitOf (bytesAt (s.arb true c).front 0 1) 0 then none
  else
    let rank := fun (i : Nat) => match Store.find s.mortar.mcGrants (c * 8 + i) with
      | some g => min 1023 (cycle - g)
      | none => 1023
    inputs.foldl (fun best i => match best with
      | none => some i
      | some b => if rank b < rank i || (rank i == rank b && decide (i < b)) then some i else best) none

/-- A request waits in the queue of a channel that retrains. -/
def enqueue (c : Nat) (pkt : Packet) (cells : List (List Host.Cell)) (lines : List Nat) (found : List MemError) (s : State) : State :=
  s.onMortar fun m => { m with queued := (m.queued.filter fun q => !(q.src == pkt.src && q.tag == pkt.tag))
    ++ [⟨c, pkt.src, pkt.tag, s.clock.ticks, cells, lines, found⟩] }

/-- Port 0 of a stop. -/
def stopPort (x : Nat × Nat) : Nat := portCode x.1 x.2 0

/-- READ_REQ: the request crosses the fabric, reaches its target, and its answers set out. -/
def execReadReq (pkt : Packet) (found : List MemError) (s : State) : Host.Outcome State Fault Refusal :=
  if !packetOk pkt then .fault .noSuchUnit
  else
    let g := regionOf s pkt.addr
    let dst := stopPort (regionStop pkt.addr g)
    let s := holdRequest (newHeld s pkt 0 pkt.addr pkt.lines dst (regionDomain g)) s
    let (s, here) := transit (.packet pkt.src dst pkt.tag 0 0) 1 s
    if !here then .next s
    else
      let s := injectAnswers pkt.src dst pkt.tag 0 pkt.lines s
      match fabricAnswer s false pkt.src pkt.addr with
      | .domainAsleep => .next (answerAsleep (regionDomain g) pkt.src 0 s)
      | .ok => match trainingChan s pkt.addr with
        | some c => .next (enqueue c pkt [] (packetLines pkt) found (s.bump O.flitsDelivered 1))
        | none => .next (doRead pkt.src (packetLines pkt) found (grantAt pkt.addr pkt.src (s.bump O.flitsDelivered 1)))
      | _ => .next s

/-- The bytes of one line that its mask selects: bit `b` for byte `b`. -/
def maskedCells (a mask : Nat) (data : Bytes) : List Host.Cell :=
  (cellsAt a data).filter fun (c : Host.Cell) => bitOf mask (c.1 - a)

/-- The lines of a WRITE, each with the bytes that it writes. -/
def writeCells (pkt : Packet) (mask : List Nat) (data : Bytes) : List (List Host.Cell) :=
  (List.range pkt.lines).map fun i => maskedCells (pkt.addr + 64 * i) (mask.getD i 0) ((data.drop (64 * i)).take 64)

/-- WRITE: the request crosses the fabric as one worm, reaches its target, and its lines are merged. -/
def execWrite (pkt : Packet) (mask : List Nat) (data : Bytes) (found : List MemError) (s : State) : Host.Outcome State Fault Refusal :=
  if !packetOk pkt then .fault .noSuchUnit
  else
    let g := regionOf s pkt.addr
    let cells := writeCells pkt mask data
    let dst := stopPort (regionStop pkt.addr g)
    let s := holdRequest (newHeld s pkt 1 pkt.addr pkt.lines dst (regionDomain g)) s
    let (s, here) := transit (.packet pkt.src dst pkt.tag 1 0) (1 + pkt.lines) s
    if !here then .next s
    else
      let s := injectAnswers pkt.src dst pkt.tag 1 1 s
      match fabricAnswer s true pkt.src pkt.addr with
      | .domainAsleep => .next (answerAsleep (regionDomain g) pkt.src 1 s)
      | .ok => match trainingChan s pkt.addr with
        | some c => .next (enqueue c pkt cells [] found (s.bump O.flitsDelivered (1 + pkt.lines)))
        | none => .next (doWrite cells found (grantAt pkt.addr pkt.src (s.bump O.flitsDelivered (1 + pkt.lines))))
      | _ => .next s

/-- The code of a kind of MESSAGE in a request that is held. -/
def msgCode : MsgKind → Nat
  | .cancelToken => 0 | .feed => 1 | .other => 2

/-- The messages that a target has accepted, the last 64 of each source port. -/
def rememberMsg (src tag : Nat) (l : List (Nat × Nat)) : List (Nat × Nat) :=
  (l.filter fun x => x.1 != src) ++ keepLast 64 ((l.filter fun x => x.1 == src) ++ [(src, tag)])

/-- MESSAGE: the packet reaches the port that its address numbers; a duplicate is discarded (14 R465). What a cancel token or a feed does
at its unit is that unit's own step. -/
def execMessage (pkt : Packet) (kind : MsgKind) (payload : Nat) (s : State) : Host.Outcome State Fault Refusal :=
  if 1536 ≤ pkt.src ∨ 1536 ≤ pkt.addr then .fault .noSuchUnit
  else
    let d := stopDomain (portRing pkt.addr) (portStopNo pkt.addr)
    let s := holdRequest (newHeld s pkt 2 payload (msgCode kind) pkt.addr d) s
    let (s, here) := transit (.packet pkt.src pkt.addr pkt.tag 2 0) 1 s
    if !here then .next s
    else
    let s := injectAnswers pkt.src pkt.addr pkt.tag 2 1 s
    if !s.runs d then .next (answerAsleep d pkt.src 2 s)
    else
      let s := s.bump O.flitsDelivered 1
      let l := Store.at [] s.mortar.seen pkt.addr
      if l.contains (pkt.src, pkt.tag) then .next (s.bump O.duplicatesDiscarded 1)
      else .next (s.onMortar fun m => { m with seen := Store.put m.seen pkt.addr (rememberMsg pkt.src pkt.tag l) })

/-! ## Responses (14 R462, R466, R475) -/

/-- The tile address through which a task reaches a device address: that of the first of its windows that shows it. -/
def tileAddrOf (c : Ctx) (a : Nat) : Nat :=
  match c.wins.find? fun (w : Nat × Word) => bitOf w.2.toNat 4 && !bitOf w.2.toNat 3 && w.2.toNat / 2 ^ 16 % 2 ^ 32 == a / 0x10000 with
  | some w => 0x100000000 + w.1 * 0x10000 + a % 0x10000
  | none => a

/-- The tile at a port takes an exception of an access. -/
def tileTakes (src code a : Nat) (s : State) : State :=
  match tileAt src with
  | some t => match Store.find s.tiles t with
    | some c => if c.ended.isSome then s else
        let e : Exc := ⟨code, tileAddrOf c a⟩
        enterExc t c e (countExc t c e s)
    | none => s
  | none => s

/-- The cause of a bus error (16 Table 16-5): a descriptor read, a data read, a write, or the read-back or record of a chain that has
ended. -/
def busCause (s : State) (e : Nat) (h : Held) : Nat :=
  let mine := (s.hod.chains.filter fun (c : Nat × Chain) => c.1 / 16 == e).map fun (c : Nat × Chain) => c.2
  if h.type == 0 && mine.any (fun c => c.status.isNone && Descriptor.chained c.cur && (Descriptor.next c.cur == h.addr
      || c.ahead.any fun d => Descriptor.chained d.2 && Descriptor.next d.2 == h.addr)) then 0
  else if mine.any (fun c => c.status.isSome) && !mine.any (fun c => c.status.isNone) then 3
  else if h.type == 0 then 1 else 2

/-- The number of a region as a target that may be judged (17 R575). -/
def blameCode : Region → Option Nat
  | .chan c => some c
  | .tile t => some (16 + t)
  | _ => none

/-- A target that causes bus errors on two different engines within 1 s is judged faulted: a channel is lost, and a tile a tile fault (17
R575). -/
def judgeTarget (e a : Nat) (s : State) : State :=
  match blameCode (regionOf s a) with
  | none => s
  | some x =>
    let now := s.clock.ticks
    let recent := s.hod.blame.filter fun b => decide (now < b.2.2 + tickSecond)
    let twice := recent.any fun b => b.1 == x && b.2.1 != e
    let s := s.onHod fun h => { h with blame := recent ++ [(x, e, now)] }
    if !twice then s
    else if x < 16 then (if s.obj (O.chState x) == 4 || s.obj (O.chState x) == 0 then s else channelFails x s)
    else if s.obj (O.pairRole ((x - 16) / 2)) == 0 then tileFault (x - 16) 0 s else s

/-- A source abandons a request and tells its agent: MEM_TIMEOUT at a tile, and a bus error at a hod (14 R466). -/
def abandon (h : Held) (s : State) : State :=
  let s := s.bump O.timeouts 1
  let s := match hodAt h.src with
    | some e => judgeTarget e h.addr (busError e (busCause s e h) h.addr s)
    | none => if h.type == 2 then s else tileTakes h.src 8 h.addr s
  dropHeld h s

/-- A response RETRY: the ninth abandons the request, and any other waits for its re-send (14 R466). -/
def answerRetry (h : Held) (s : State) : State :=
  if 8 ≤ h.retry then abandon h s
  else s.onMortar fun m => { m with reqs := m.reqs.map fun x =>
    if x = h then { h with retry := h.retry + 1, sentAt := s.clock.ticks, resend := true } else x }

/-- The port that answers a request that is held. -/
def Held.target (h : Held) : Nat := portCode h.ring h.stop h.port

/-- The packet of a request that is held. -/
def Held.flit (h : Held) : Flit := .packet h.src h.target h.tag h.type 0

/-- Its flits. -/
def Held.count (h : Held) : Nat := if h.type == 1 then 1 + h.lines else 1

/-- A response crosses the fabric, from its target, to the source that holds its request. -/
def answerArrives (h : Held) (type line : Nat) (s : State) : State × Bool :=
  transit (.packet h.target h.src h.tag (type + 8) line) 1 s

/-- READ_RESP: a line, or the status in its place, reaches the source; a response to no request that it holds is discarded. -/
def execReadResp (src tag line : Nat) (status : Status) (s : State) : Host.Outcome State Fault Refusal :=
  match heldOf s src tag with
  | none => .next (s.bump O.flitsDelivered 1)
  | some h =>
    let (s, here) := answerArrives h 0 line s
    if !here then .next s
    else
    let s := s.bump O.flitsDelivered 1
    if h.type != 0 || h.resend then .next s
    else match status with
      | .retry => .next (answerRetry h s)
      | .domainAsleep => .next (dropHeld h (tileTakes src 7 h.addr s))
      | .unmapped => .next (dropHeld h (tileTakes src 4 h.addr s))
      | _ =>
        let s := if status = .uncorrectable then tileTakes src 6 (h.addr + 64 * line) s else s
        if h.lines ≤ h.got + 1 then .next (dropHeld h s)
        else .next (s.onMortar fun m => { m with reqs := m.reqs.map fun x => if x = h then { h with got := h.got + 1 } else x })

/-- WRITE_ACK. -/
def execWriteAck (src tag : Nat) (status : Status) (s : State) : Host.Outcome State Fault Refusal :=
  match heldOf s src tag with
  | none => .next (s.bump O.flitsDelivered 1)
  | some h =>
    let (s, here) := answerArrives h 1 0 s
    if !here then .next s
    else
    let s := s.bump O.flitsDelivered 1
    if h.type != 1 || h.resend then .next s
    else match status with
      | .retry => .next (answerRetry h s)
      | .domainAsleep => .next (dropHeld h (tileTakes src 7 h.addr s))
      | .unmapped => .next (dropHeld h (tileTakes src 4 h.addr s))
      | _ => .next (dropHeld h s)

/-- MESSAGE_ACK: DOMAIN_ASLEEP acknowledges a cancel token, and says of a feed that it was ignored (14 R475). -/
def execMessageAck (src tag : Nat) (status : Status) (s : State) : Host.Outcome State Fault Refusal :=
  match heldOf s src tag with
  | none => .next (s.bump O.flitsDelivered 1)
  | some h =>
    let (s, here) := answerArrives h 2 0 s
    if !here then .next s
    else
    let s := s.bump O.flitsDelivered 1
    if h.type != 2 || h.resend then .next s
    else match status with
      | .retry => .next (answerRetry h s)
      | .domainAsleep =>
        let s := dropHeld h s
        if h.lines == 0 then
          .next (match s.op h.addr with
            | some o => if o.cancel then ackCancel h.addr s else s
            | none => match s.fusedOf h.addr with
              | some (t, slot, j) => if j.cancel then fusedCancel t slot j s else s
              | none => s)
        else if h.lines == 1 then .next (s.bump O.feedIgnored 1)
        else .next (tileTakes src 7 h.addr s)
      | _ => .next (dropHeld h s)

/-- LINK_REPLAY. -/
def execLinkReplay (ring : Nat) (s : State) : Host.Outcome State Fault Refusal :=
  if 8 ≤ ring then .fault .noSuchUnit else .next (s.bump (O.linkReplays ring) 1)

/-- REQUEST_TIMEOUT: 4 µs after the last injection. -/
def execRequestTimeout (src tag : Nat) (s : State) : Host.Outcome State Fault Refusal :=
  match heldOf s src tag with
  | some h => if h.resend then .next s else .next (abandon h (advanceTicks s (h.sentAt + ticksOfNs 4000)))
  | none => .next s

/-- REQUEST_RETRY_RESEND: 1 µs after the answer RETRY. -/
def execRequestRetryResend (src tag : Nat) (s : State) : Host.Outcome State Fault Refusal :=
  match heldOf s src tag with
  | some h =>
    if h.resend then
      let s := advanceTicks s (h.sentAt + ticksOfNs 1000)
      .next (injectPacket h.flit h.count
        (s.onMortar fun m => { m with reqs := m.reqs.map fun x => if x = h then { h with sentAt := s.clock.ticks, resend := false } else x }))
    else .next s
  | none => .next s

/-! ## Rings (14 R486 to R490) -/

/-- RING_LINK_FAULT: the first makes the ring REVERSING, and a second leaves it SPLIT; one that comes before the ring is FOLDED takes
effect with the fold. -/
def linkFault (ring stop : Nat) (lockLost : Bool) (s : State) : State :=
  let f := s.nat (O.faultStop ring)
  match s.nat (O.ringState ring) with
  | 0 =>
    ((s.setObj (O.ringState ring) 1).setObj (O.faultStop ring) stop).onMortar fun m =>
      { m with broken := Store.put m.broken ring (s.clock.ticks, lockLost), flits := Store.put m.flits ring 0 }
  | 1 => if f == stop then s else { s with units := { s.units with second := Store.put s.units.second ring stop } }
  | 2 =>
    if f == stop then s
    else setCause 5 ({ s with units := { s.units with second := Store.put s.units.second ring stop } }.setObj (O.ringState ring) 3)
  | _ => s

/-- RING_LINK_FAULT. -/
def execRingLinkFault (ring stop : Nat) (lockLost : Bool) (s : State) : Host.Outcome State Fault Refusal :=
  if 8 ≤ ring ∨ 48 ≤ stop then .fault .noSuchUnit else .next (linkFault ring stop lockLost s)

/-- FOLD_NOTICE_RX: a stop of a ring that reverses discards the ring's flits that it holds, and those, `flits`, that it receives. -/
def execFoldNoticeRx (ring stop flits : Nat) (s : State) : Host.Outcome State Fault Refusal :=
  if 8 ≤ ring ∨ 48 ≤ stop then .fault .noSuchUnit
  else if s.obj (O.ringState ring) == 1 then
    let (s, held) := discardFlits ring stop s
    .next ((s.bump (O.flitsDiscarded ring) (held + flits)).onMortar fun m =>
      { m with flits := Store.put m.flits ring (Store.at 0 m.flits ring + (held + flits)) })
  else .next s

/-- Whether a request's source or target lies on a ring. -/
def Held.onRing (r : Nat) (h : Held) : Bool := portRing h.src == r || h.ring == r

/-- The ring is FOLDED: its sources re-send what they hold, and the device reports it (14 R487, R489, Table 14-11). -/
def foldRing (ring : Nat) (b : Nat × Bool) (s : State) : State :=
  let n := (s.mortar.reqs.filter (Held.onRing ring)).length
  let split := (Store.find s.units.second ring).isSome
  let now := s.clock.ticks
  let s := s.setObj (O.ringState ring) (if split then 3 else 2)
  let s := (s.bump (O.requestsResent ring) n).onMortar fun m =>
    { m with reqs := m.reqs.map fun h => if h.onRing ring then { h with sentAt := now, resend := false } else h }
  let s := (s.mortar.reqs.filter (Held.onRing ring)).foldl (fun s h => injectPacket h.flit h.count s) s
  setCause 5 (raise s (O.ringReversals ring) ring
    (leBytes 1 ring ++ leBytes 1 (s.nat (O.faultStop ring)) ++ leBytes 1 (if b.2 then 1 else 0) ++ leBytes 1 0
      ++ leBytes 4 (Store.at 0 s.mortar.flits ring) ++ leBytes 4 n ++ leBytes 4 (nsOfTicks (now - b.1))) 0)

/-- REVERSE_HOLD_EXPIRY. -/
def execReverseHoldExpiry (ring : Nat) (s : State) : Host.Outcome State Fault Refusal :=
  if 8 ≤ ring then .fault .noSuchUnit
  else if s.obj (O.ringState ring) == 1 then
    let b := Store.at (s.clock.ticks, false) s.mortar.broken ring
    .next (foldRing ring b (advanceTicks s (b.1 + ticksOfNs (s.nat O.reverseHold))))
  else .next s

/-- RING_RESTORE: a FOLDED ring becomes WHOLE; on a SPLIT ring the link that failed first returns, and the other is its fold. -/
def execRingRestore (ring : Nat) (s : State) : Host.Outcome State Fault Refusal :=
  if 8 ≤ ring then .fault .noSuchUnit
  else match s.nat (O.ringState ring) with
    | 2 =>
      let s := drainRing ring s
      .next (((s.setObj (O.ringState ring) 0).setObj (O.faultStop ring) 0xFF).onMortar fun m => { m with broken := Store.drop m.broken ring })
    | 3 =>
      let g := Store.at 0 s.units.second ring
      .next { (s.setObj (O.ringState ring) 2).setObj (O.faultStop ring) g with units := { s.units with second := Store.drop s.units.second ring } }
    | _ => .next s

/-- JOINT_PATH_FAULT: one of the two paths of a joint port is out of service. -/
def execJointPathFault (ring stop : Nat) (s : State) : Host.Outcome State Fault Refusal :=
  if 8 ≤ ring ∨ 48 ≤ stop then .fault .noSuchUnit
  else
    let k := ring * 48 + stop
    let n := Store.at 0 s.mortar.joints k
    if 2 ≤ n then .next s
    else .next ((s.bump O.jointPathsDown 1).onMortar fun m => { m with joints := Store.put m.joints k (n + 1) })

/-! ## Arbiter tables (14 R478 to R485; 15 R514, R515) -/

/-- The arbiters that ARB_SELECT or MC_ARB_SELECT names. -/
def selectedArbs (mc : Bool) (s : State) : List Nat :=
  if mc then
    let c := s.nat O.mcArbSelect
    if c == 0xFF then List.range 16 else [c]
  else
    let v := s.nat O.arbSelect
    let rings := if v / 65536 % 256 == 0xFF then List.range 8 else [v / 65536 % 256]
    let stops := if v / 256 % 256 == 0xFF then List.range 48 else [v / 256 % 256]
    rings.flatMap fun r => stops.map fun p => (r * 48 + p) * 8 + v % 256

/-- An arbiter's tables changed. -/
def State.onArb (s : State) (mc : Bool) (k : Nat) (f : Arb → Arb) : State :=
  let a := f (s.arb mc k)
  s.onMortar fun m => if mc then { m with mc := Store.putD Arb.fresh m.mc k a } else { m with arbs := Store.putD Arb.fresh m.arbs k a }

/-- The inputs of an arbiter: of its kind (Table 14-8), or of a channel (15 Table 15-3). -/
def arbInputs (mc : Bool) (kind : Nat) : Nat := if mc then 7 else if kind == 3 then 8 else if kind == 4 then 3 else 6

/-- The refusals of 14 R484 and 15 R515: an input that is not one of the kind, or too few entries for through traffic, or the journal. -/
def arbTableOk (mc : Bool) (kind : Nat) (b : Bytes) : Bool :=
  let e := arbEntries b
  let freeze := bitOf (bytesAt b 0 1) 0
  let through := (e.filter fun x => x == 0 || (!freeze && x == 0xFF)).length
  e.all (fun x => x == 0xFF || decide (x < arbInputs mc kind))
    && (if mc then decide (4 ≤ through) else 1 < kind || decide (16 ≤ through))

/-- A write of ARB_TABLE or MC_ARB_TABLE: the BACK of every selected arbiter, or of none; a reserved bit that is set is out of range. -/
def actArbTable (mc : Bool) (b : Bytes) : Action := fun s =>
  if 3 < bytesAt b 0 1 || bytesAt b 1 3 != 0 then (.valueRange, s)
  else if !arbTableOk mc (s.nat O.arbSelect % 256) b then (.arbTable, s)
  else
    let l := selectedArbs mc s
    let s := if l.any fun k => (s.arb mc k).back != b then s.bump O.changeCount 1 else s
    (.ok, l.foldl (fun s k => s.onArb mc k fun a => { a with back := b, committed := false, written := true }) s)

/-- WRITE_ARB_TABLE. -/
def execWriteArbTable (x : Xfer) (mc : Bool) (data : Bytes) (s : State) : Host.Outcome State Fault Refusal :=
  .next (hostWrite x (if mc then O.mcArbTable else O.arbTable) (.bytes data) (actArbTable mc data) s)

/-- A table becomes FRONT, and the new BACK, unless it was written since the decision, is a copy of it, OPEN and unwritten. -/
def swapArb (ats : Nat) (b : Bytes) (a : Arb) : Arb :=
  if a.next.isSome && a.back != b then { a with front := b, next := none, last := ats }
  else ⟨b, b, false, false, none, ats⟩

/-- A write of 1 to ARB_COMMIT or MC_ARB_COMMIT; while air time is invalid the swap is at once. -/
def actArbCommit (mc : Bool) : Action := fun s =>
  (.ok, (selectedArbs mc s).foldl (fun s k => s.onArb mc k fun a =>
    if s.airRunning then { a with committed := true }
    else swapArb s.atsNow a.back { a with committed := true }) s)

/-- ARB_COMMIT. -/
def execArbCommit (x : Xfer) (mc : Bool) (s : State) : Host.Outcome State Fault Refusal :=
  .next (hostWrite x (if mc then O.mcArbCommit else O.arbCommit) (.num 1) (actArbCommit mc) s)

/-- STALE_BANK of an arbiter (Table 14-10; 15 R515). -/
def staleArb (mc : Bool) (k : Nat) (b next : Int) (s : State) : State :=
  let head := if mc then leBytes 1 0xFF ++ leBytes 1 k ++ leBytes 1 5 else leBytes 1 (k / 8 / 48) ++ leBytes 1 (k / 8 % 48) ++ leBytes 1 (k % 8)
  raise s (if mc then O.staleMcCount else O.staleArbCount) (if mc then 0x0200 + k else k / 8)
    (head ++ leBytes 1 0 ++ leBytes 8 (atsOf b) ++ leBytes 8 (atsOf next) ++ leBytes 4 0) 0

/-- 10 µs of air time. -/
def arbLead : Int := 10000 * airNs

/-- One arbiter at the decision instant. -/
def decideArb (mc : Bool) (b next : Int) (s : State) (k : Nat) : State :=
  let a := s.arb mc k
  if a.committed then s.onArb mc k fun a => { a with next := some a.back }
  else if a.written then staleArb mc k b next s else s

/-- ARB_SWAP_DECISION: at D, 10 µs before the next boundary that has not been tested. -/
def execArbSwapDecision (mc : Bool) (s : State) : Host.Outcome State Fault Refusal :=
  if !s.airRunning then .next s
  else
    let period := s.nat (if mc then O.mcArbSwapPeriod else O.arbSwapPeriod)
    let b := swapBoundary period (max (if mc then s.mortar.mcTested else s.mortar.arbTested) (s.airNow + arbLead - 1))
    let s := (advanceToAir s (b - arbLead)).onMortar fun m => if mc then { m with mcTested := b } else { m with arbTested := b }
    .next (((if mc then s.mortar.mc else s.mortar.arbs).map fun (a : Nat × Arb) => a.1).foldl (decideArb mc b (swapBoundary period b)) s)

/-- ARB_SWAP: at the boundary every decided table becomes FRONT. -/
def execArbSwap (mc : Bool) (s : State) : Host.Outcome State Fault Refusal :=
  let l := (if mc then s.mortar.mc else s.mortar.arbs).filter fun (a : Nat × Arb) => a.2.next.isSome
  if l.isEmpty then .next s
  else
    let b := if mc then s.mortar.mcTested else s.mortar.arbTested
    let s := advanceToAir s b
    .next (l.foldl (fun s (a : Nat × Arb) => match a.2.next with
      | some t => s.onArb mc a.1 (swapArb (atsOf b) t)
      | none => s) s)

/-- ARB_PHASE_ALIGN: at each subframe boundary of device air time the pointer of every phase-locked arbiter is set. -/
def execArbPhaseAlign (s : State) : Host.Outcome State Fault Refusal :=
  if s.airRunning then
    let ms : Int := 1000000 * airNs
    let s := advanceToAir s ((s.airNow / ms + 1) * ms)
    .next (s.onMortar fun m => { m with phaseAt := s.clock.ticks, phase := s.nat O.arbPhaseOffset, mcPhase := s.nat O.mcArbPhaseOffset })
  else .next s

end Sys2Proof.Machine
end

