-- ==== Sys2Proof/Machine/Memory.lean ====
section
/-! DEFINITION. The memories over time (15): link EDC and retraining, the ends of rebuilds, scrubs, the leak of the buckets, retirement, and
the error log. -/

namespace Sys2Proof.Machine

/-! ## Link EDC (15 R505) -/

/-- A mismatch of an access: the consecutive ones of one address are counted, each but the last is retried, and after four the channel
retrains, which the error log records (R522). -/
def mismatch (ch addr : Nat) (s : State) : State :=
  let n := match Store.find s.integ.edc ch with
    | some e => if e.1 == addr then e.2 + 1 else 1
    | none => 1
  let s := s.onInteg fun g => { g with edc := Store.put g.edc ch (addr, n) }
  let s := if n ≤ 8 then s.bump (O.chEdcRetries ch) 1 else s
  if n == 4 then
    logError 2 2 (s.nat O.memRegime) 0 ch addr 0 0xFF (match regionOf s addr with | .chan c => (addr - chanAddr c) / 65536 % 16 | _ => 0xFF)
      0 0xFFFF (s.setObj (O.chState ch) 1)
  else s

/-- EDC_MISMATCH. -/
def execEdcMismatch (ch addr : Nat) (s : State) : Host.Outcome State Fault Refusal :=
  if 16 ≤ ch then .fault .noSuchUnit
  else if s.obj (O.chState ch) == 2 || s.obj (O.chState ch) == 1 then .next (mismatch ch addr s)
  else .next s

/-- A request that waited is performed. -/
def performQueued (q : Queued) (s : State) : State :=
  let s := s.onMortar fun m => { m with queued := m.queued.filter (· != q) }
  if q.cells.isEmpty then doRead q.src q.lines q.found s else doWrite q.cells q.found s

/-- What waited at a channel is performed as its arbiter grants, of each input the oldest first, cycle by cycle (15 R514). -/
def serveFrom (ch : Nat) : Nat → Nat → State → State
  | 0, _, s => s
  | k + 1, cycle, s =>
    let l := s.mortar.queued.filter fun q => q.chan == ch
    match channelWinner s ch cycle (l.map fun q => channelInput q.src) with
    | none => if l.isEmpty then s else serveFrom ch k (cycle + 1) s
    | some i =>
      match l.find? fun q => channelInput q.src == i with
      | some q => serveFrom ch k (cycle + 1) (grantChannel ch i cycle (performQueued q s))
      | none => serveFrom ch k (cycle + 1) s

/-- What waited at a channel is served: 64 cycles for each request reach every entry of the table. -/
def serveQueue (ch : Nat) (s : State) : State :=
  serveFrom ch (64 * (s.mortar.queued.filter fun q => q.chan == ch).length) s.mortar.cycle s

/-- What waited at a lost channel is answered UNCORRECTABLE, and nothing is performed. -/
def dropQueue (ch : Nat) (s : State) : State :=
  s.onMortar fun m => { m with queued := m.queued.filter fun q => q.chan != ch }

/-- CHANNEL_RETRAIN_COMPLETE. -/
def execChannelRetrainComplete (ch : Nat) (ok : Bool) (s : State) : Host.Outcome State Fault Refusal :=
  if 16 ≤ ch then .fault .noSuchUnit
  else if s.obj (O.chState ch) == 1 then
    .next (if ok then serveQueue ch (s.setObj (O.chState ch) 2) else channelLost ch (lossCode .retraining) (dropQueue ch s))
  else .next s

/-- CHANNEL_QUEUE_RETRY: a request that has waited 3 µs is answered RETRY, and not performed. -/
def execChannelQueueRetry (ch src tag : Nat) (s : State) : Host.Outcome State Fault Refusal :=
  if 16 ≤ ch then .fault .noSuchUnit
  else match s.mortar.queued.find? fun q => q.chan == ch && q.src == src && q.tag == tag with
    | some q =>
      let s := advanceTicks s (q.arrived + ticksOfNs 3000)
      .next (s.onMortar fun m => { m with queued := m.queued.filter (· != q) })
    | none => .next s

/-- Whether a channel meets a condition of its loss (15 R506): the eighth retry of an access failed, a retraining runs, which then fails, or
more than 16 uncorrectable reads in 1 ms. -/
def lossHolds (s : State) (ch : Nat) : LossCause → Bool
  | .edcRetries => (Store.find s.integ.edc ch).any fun e => decide (8 < e.2)
  | .retraining => s.obj (O.chState ch) == 1
  | .burst => decide (16 < ((Store.at [] s.integ.bursts ch).filter fun t => decide (s.clock.ticks < t + tickMs)).length)

/-- GDDR7_CHANNEL_LOST. -/
def execGddr7ChannelLost (ch : Nat) (cause : LossCause) (s : State) : Host.Outcome State Fault Refusal :=
  if 16 ≤ ch then .fault .noSuchUnit
  else if s.obj (O.chState ch) != 0 && s.obj (O.chState ch) != 4 && lossHolds s ch cause then
    .next (channelLost ch (lossCode cause) (dropQueue ch s))
  else .next s

/-! ## Rebuilds (15 R506, R510) -/

/-- CONTEXT_REBUILD_COMPLETE. -/
def execContextRebuildComplete (s : State) : Host.Outcome State Fault Refusal :=
  if s.integ.toBuild.isEmpty then .next s else .next (settleRegime (s.onInteg fun g => { g with toBuild := [] }))

/-- JOURNAL_REBUILD_COMPLETE: the standby region is the new copy, and no standby remains. -/
def execJournalRebuildComplete (s : State) : Host.Outcome State Fault Refusal :=
  match s.integ.mirror, s.integ.standby with
  | true, some c =>
    let s := s.onInteg fun g => { g with copies := g.copies ++ [c], standby := none, mirror := false }
    .next (settleRegime ((s.setObj O.journalCopies s.integ.copies.length).setObj O.journalRebuild 100))
  | _, _ => .next s

/-! ## Scrubs (15 R516) -/

/-- The lines of a channel that a pass reads, check lines included. -/
def scrubLines (s : State) (ch : Nat) : Nat :=
  let data := s.nat (O.chPallets ch) * 1024
  if s.obj O.eccActive == 0 then data else data + ceilDiv data 8

/-- The place of a data line in a pass: with ECC the ninth line of each nine is a check line. -/
def scrubPlace (s : State) (ch a : Nat) : Nat :=
  let l := (a - chanAddr ch) / 64
  if s.obj O.eccActive == 0 then l else l / 8 * 9 + l % 8

/-- The errors that a scrub reports, and the words known to be bad that it meets again. -/
def scrubFinds (found : List MemError) (known : List Nat) (s : State) : State :=
  let s := found.foldl (noteError 1) s
  (known.filter fun a => !(found.any fun e => e.addr == a)).foldl (fun s a => metPoisonBy 1 a s) s

/-- A pass of the GDDR7 scrubber ends once every channel in service has been read. -/
def passEnds (s : State) : State :=
  if (List.range 16).all fun c => !s.chanServes c || decide (scrubLines s c ≤ Store.at 0 s.integ.scrubbed c) then
    settleRegime ((s.bump O.gddrPasses 1).onInteg fun g => { g with scrubbed := [], afterWarm := false })
  else s

/-- GDDR7_SCRUB: the next lines of a channel in address order. -/
def execGddr7Scrub (ch lines : Nat) (found : List MemError) (s : State) : Host.Outcome State Fault Refusal :=
  if 16 ≤ ch then .fault .noSuchUnit
  else if !s.chanServes ch || !s.runs (26 + ch / 4) || lines == 0 then .next s
  else
    let done := Store.at 0 s.integ.scrubbed ch
    let known := s.integ.poison.filter fun a =>
      regionOf s a = .chan ch && decide (done ≤ scrubPlace s ch a) && decide (scrubPlace s ch a < done + lines)
    let s := scrubFinds (found.filter fun e => regionOf s e.addr = .chan ch) known s
    .next (passEnds (s.onInteg fun g => { g with scrubbed := Store.put g.scrubbed ch (done + lines) }))

/-- PALLET_STORE_SCRUB: a whole pass of one slice. -/
def execPalletStoreScrub (slice : Nat) (found : List MemError) (s : State) : Host.Outcome State Fault Refusal :=
  if 24 ≤ slice then .fault .noSuchUnit
  else if !s.runs 31 || !bitOf s.units.slices slice then .next s
  else .next (scrubFinds (found.filter fun e => regionOf s e.addr = .store slice)
    (s.integ.poison.filter fun a => regionOf s a = .store slice) s)

/-- Whether an offset of a tile's memory lies in a working region: where K code of some program reaches it, or a prefetch slot; every other
byte belongs to a program image (11 R362). -/
def inWorking (s : State) (t off : Nat) : Bool :=
  let o := if s.obj (O.bondState (t / 2)) == 1 && t % 2 == 1 then off + 0x80000 else off
  inPrefetch s t off || s.sched.progs.any fun p => decide (p.kLo ≤ o) && decide (o ≤ p.kHi)

/-- TILE_MEMORY_SCRUB: a whole pass of one tile memory. A bad byte of a program image is repaired at once, and one of a working region is
kept to be overwritten. -/
def execTileMemoryScrub (t : Nat) (found : List MemError) (s : State) : Host.Outcome State Fault Refusal :=
  if tileCount ≤ t then .fault .noSuchUnit
  else if !s.runs (2 + t / 20) then .next s
  else
    let mine := fun (s : State) => s.integ.poison.filter fun a => regionOf s a = .tile t
    let s := scrubFinds (found.filter fun e => regionOf s e.addr = .tile t) (mine s) s
    let image := (mine s).filter fun a => !inWorking s t (a - tileAddr t)
    let work := (mine s).filter fun a => inWorking s t (a - tileAddr t)
    .next ((healed image s).onInteg fun g => { g with toZero := (g.toZero ++ work).eraseDups })

/-! ## Buckets (15 R518) -/

/-- BUCKET_LEAK: BUCKET_LEAK_S after the last leak every bucket loses 1. -/
def execBucketLeak (s : State) : Host.Outcome State Fault Refusal :=
  let at' := s.integ.leakAt + s.nat O.bucketLeakS * tickSecond
  let s := advanceTicks s at'
  .next (s.onInteg fun g =>
    { g with leakAt := at', pages := g.pages.map fun p => (p.1, p.2 - 1)
             buckets := (g.buckets.map fun (b : Nat × Nat) => (b.1, b.2 - 1)).filter fun (b : Nat × Nat) => b.2 != 0 })

/-! ## Retirement (15 R523, R524) -/

/-- The page numbers of a list of U32 values. -/
def pageNumbers (b : Bytes) : List Nat := (List.range (b.length / 4)).map fun i => bytesAt b (4 * i) 4

/-- The pages of the retired banks. -/
def bankPages (s : State) (b : Bytes) : List Nat :=
  (List.range 256).flatMap fun i =>
    if bitOf (bytesAt b (i / 8) 1) (i % 8) then
      (List.range (ceilDiv (s.nat (O.chPallets (i / 16)) - i % 16) 16)).map fun k => i / 16 * 2 ^ 18 + 16 * k + i % 16
    else []

/-- The pages that the two objects list, but those of a lost channel. -/
def listedPages (s : State) (pages banks : Bytes) : List Nat :=
  ((pageNumbers pages ++ bankPages s banks).eraseDups).filter fun p => s.obj (O.chState (p / 2 ^ 18)) != 4

/-- A page is listed: it is retired where it is free, waits where it is held, and lies in a fixed region, as the TB store and the staging region do
(log entry 30), until the next cold reset. Where else what the device keeps lies the spec does not say (log entry 12). -/
def listPage (s : State) (page : Nat) : State :=
  let (w, s) := s.free
  match if page % 2 ^ 18 < s.tbRegion + s.stagingRegion then 2 else w.toNat % 3 with
  | 0 => retirePage s page
  | 1 =>
    let s := s.onInteg fun g => { g with waiting := g.waiting ++ [page] }
    s.setObj O.retirePending s.integ.waiting.length
  | _ => s

/-- A page is no longer listed: it returns to its pool, or waits no more. -/
def unlistPage (s : State) (page : Nat) : State :=
  let s := if s.integ.retired.contains page then
    (s.setObj (O.chRetired (page / 2 ^ 18)) (s.nat (O.chRetired (page / 2 ^ 18)) - 1 : Nat)).onInteg fun g =>
      { g with retired := g.retired.filter (· != page) } else s
  let s := s.onInteg fun g => { g with waiting := g.waiting.filter (· != page) }
  s.setObj O.retirePending s.integ.waiting.length

/-- The list of pages changes. -/
def relist (before after : List Nat) (s : State) : State :=
  let s := (before.filter fun p => !after.contains p).foldl unlistPage s
  (after.filter fun p => !before.contains p).foldl listPage s

/-- Whether a page number names a page of a channel. -/
def pageOk (s : State) (p : Nat) : Bool := decide (p / 2 ^ 18 < 16) && decide (p % 2 ^ 18 < s.nat (O.chPallets (p / 2 ^ 18)))

/-- A write of RETIRED_PAGES. -/
def actRetiredPages (b : Bytes) : Action := fun s =>
  if b.length % 4 != 0 || decide (4096 < b.length) then (.typeLength, s)
  else if !((pageNumbers b).all (pageOk s)) then (.valueRange, s)
  else
    let before := listedPages s (s.blob O.retiredPages) (s.blob O.retiredBanks)
    (.ok, relist before (listedPages s b (s.blob O.retiredBanks)) (s.changeBlob O.retiredPages b))

/-- WRITE_RETIRED_PAGES. -/
def execWriteRetiredPages (x : Xfer) (data : Bytes) (s : State) : Host.Outcome State Fault Refusal :=
  .next (hostWrite x O.retiredPages (.bytes data) (actRetiredPages data) s)

/-- A write of RETIRED_BANKS. -/
def actRetiredBanks (b : Bytes) : Action := fun s =>
  let before := listedPages s (s.blob O.retiredPages) (s.blob O.retiredBanks)
  (.ok, relist before (listedPages s (s.blob O.retiredPages) b) (s.changeBlob O.retiredBanks b))

/-- WRITE_RETIRED_BANKS. -/
def execWriteRetiredBanks (x : Xfer) (data : Bytes) (s : State) : Host.Outcome State Fault Refusal :=
  .next (hostWrite x O.retiredBanks (.bytes data) (actRetiredBanks data) s)

/-! ## The error log (15 R522) -/

/-- The oldest record of the error log. -/
def errHead (s : State) : Option Bytes := s.integ.log.head?

/-- The error log without the record that a read popped. -/
def errPop (s : State) : State := s.onInteg fun g => { g with log := g.log.drop 1 }

/-- READ_ERR_LOG. -/
def execReadErrLog (x : Xfer) (s : State) : Host.Outcome State Fault Refusal :=
  .next (hostPop x O.errLog errHead errPop s)

end Sys2Proof.Machine
end

