-- ==== Sys2Proof/Machine/Emission.lean ====
section
/-! DEFINITION. The emission guard's checks, mutes and releases, and the faults of DFE chains and pallet-store slices (17). -/

namespace Sys2Proof.Machine

/-! ## The comparison of the replica (17 R553) -/

/-- The 150 ns that an injected offset adds to one comparison (17 R578). -/
def injectedOffset (s : State) : Int := if s.guard.synth.any fun x => x.1 == 7 then 150 * (nsUnit : Nat) else 0

/-- DIVERGENCE_COMPARISON: working − replica is written in picoseconds; beyond DIVERGENCE_LIMIT it is cause 5. -/
def execDivergenceComparison (s : State) : Host.Outcome State Fault Refusal :=
  let d := s.guard.skew + injectedOffset s
  let s := s.onGuard fun g => { g with synth := g.synth.filter fun x => x.1 != 7 }
  let s := s.setObj O.divergence (freeDiv 15 (d * 1000) (nsUnit : Nat))
  .next (if s.nat O.divergenceLimit * nsUnit < d.natAbs then detect 5 3 0xFFFF (freeDiv 16 d (nsUnit : Nat)) s else s)

/-! ## The completion of a mute (17 R560, R566, R567) -/

/-- MUTE_COMPLETE: 2 µs after its detection the mute that was detected first is complete. -/
def execMuteComplete (s : State) : Host.Outcome State Fault Refusal :=
  match s.guard.mutes.find? fun m => !m.complete with
  | some m => .next (completeMute m (advanceTicks s (m.at' + ticksOfNs 2000)))
  | none => .next s

/-! ## The reference (17 R554) -/

/-- REFERENCE_ABSENT. -/
def execReferenceAbsent (s : State) : Host.Outcome State Fault Refusal :=
  .next (detect 6 3 0xFFFF (-1) (s.onGuard fun g => { g with refGood := none }))

/-- Whether a count of REFCLK_SYS cycles over two RTC periods is off frequency: it departs from 9,536.74 by more than 8; while the RTC
oscillator stands still the guard judges against GCLK alone, with a limit of 10 %. -/
def offFrequency (s : State) (cycles : Nat) : Bool :=
  let d := ((cycles : Int) * 100 - 953674).natAbs
  if s.guard.rtcOff then decide (953674 < 10 * d) else decide (800 < d)

/-- REFERENCE_FREQUENCY_CHECK. -/
def execReferenceFrequencyCheck (cycles : Nat) (s : State) : Host.Outcome State Fault Refusal :=
  if offFrequency s cycles then
    .next (detect 6 3 0xFFFF (freeDiv 17 (((cycles : Int) * 100 - 953674) * 1000000) 953674) (s.onGuard fun g => { g with refGood := none }))
  else .next (if s.guard.refGood.isSome then s else s.onGuard fun g => { g with refGood := some s.clock.ticks })

/-- RTC_STOPPED. -/
def execRtcStopped (s : State) : Host.Outcome State Fault Refusal := .next (s.onGuard fun g => { g with rtcOff := true })

/-! ## Audits and checks (17 R555, R557 to R559) -/

/-- A code that the spec does not state (log entry 12). -/
def freeCode (s : State) : Int × State := let (w, s) := s.free; (signedOf 32 (w.toNat % 2 ^ 32), s)

/-- GUARD_AUDIT: the copy of a carrier is compared with its working configuration, and with its own CRC. -/
def execGuardAudit (carrier : Nat) (copyOk : Bool) (s : State) : Host.Outcome State Fault Refusal :=
  if 64 ≤ carrier then .fault .noSuchUnit
  else match Store.find s.guard.copies carrier with
    | none => .next s
    | some c =>
      let s := s.onGuard fun g => { g with copies := Store.put g.copies carrier { c with sound := copyOk } }
      if copyOk && { c with sound := true } = workingCopy carrier s then .next s
      else
        let (code, s) := freeCode s
        .next (detect 8 0 carrier code (s.bump O.auditMismatches 1))

/-- GUARD_CONFIG_CRC_CHECK: the static configuration of a transmit chain with a carrier. -/
def execGuardConfigCrcCheck (chain : Nat) (ok : Bool) (s : State) : Host.Outcome State Fault Refusal :=
  if 128 ≤ chain then .fault .noSuchUnit
  else if 64 ≤ s.gangCarrier chain then .next s
  else
    let bad := !ok || s.guard.synth.contains (8, chain)
    let s := (takeCrcInjection chain s).onGuard fun g =>
      { g with badConf := if ok then g.badConf.filter (· != chain) else (g.badConf ++ [chain]).eraseDups }
    .next (if bad then detect 4 0 (s.gangCarrier chain) chain s else s)

/-- POWER_METER_BLOCK: a block at the gate of a time-domain carrier's chain. -/
def execPowerMeterBlock (carrier : Nat) (power : Int) (s : State) : Host.Outcome State Fault Refusal :=
  if 64 ≤ carrier then .fault .noSuchUnit
  else if s.holds (O.carrierEnable carrier) && s.obj (O.fhDomain carrier) == 1 then .next (meter carrier power s) else .next s

/-- GUARD_KEEPALIVE_LOSS. -/
def execGuardKeepaliveLoss (s : State) : Host.Outcome State Fault Refusal :=
  let (code, s) := freeCode s
  .next (detect 7 3 0xFFFF code s)

/-- GUARD_SELF_CHECK. -/
def execGuardSelfCheck (pass : Bool) (code : Nat) (s : State) : Host.Outcome State Fault Refusal :=
  .next (if pass then s else detect 7 3 0xFFFF (signedOf 32 (code % 2 ^ 32)) s)

/-- GUARD_ARMED: the end of the start-up self-test. -/
def execGuardArmed (pass : Bool) (s : State) : Host.Outcome State Fault Refusal :=
  if s.obj O.guardState != 0 || !s.boot.powered then .next s
  else if pass then .next (s.setObj O.guardState 1)
  else .next (setCause 6 (s.setObj O.guardState 2))

/-! ## Release (17 R562, R564) -/

/-- The chains of a scope. -/
def scopeChains (s : State) (scope unit : Nat) : List Nat :=
  match scope with
  | 0 => (List.range 128).filter fun c => s.gangCarrier c == unit
  | 2 => (List.range 128).filter fun c => gangHead s c == gangHead s unit
  | 3 => (List.range 128).filter fun c => decide (s.gangCarrier c < 64)
  | _ => []

/-- The carriers whose copies a scope covers. -/
def scopeCopies (s : State) (scope unit : Nat) : List (Nat × Copy) :=
  s.guard.copies.filter fun (c : Nat × Copy) => scope == 3 || (scope == 0 && c.1 == unit)

/-- Whether a cause lets a scope go (Table 17-2). -/
def releaseTest (s : State) (scope unit cause : Nat) : Bool :=
  match cause with
  | 4 => (scopeChains s scope unit).all fun c => !(s.chain c).tx.bad && !(s.chain c).rx.bad && !s.guard.badConf.contains c
  | 5 => decide ((s.obj O.divergence).natAbs ≤ 50000)
  | 6 => match s.guard.refGood with
    | some t => decide (t + tickSecond ≤ s.clock.ticks)
    | none => false
  | 7 => false
  | 8 => (scopeCopies s scope unit).all fun (c : Nat × Copy) => c.2.sound && { c.2 with sound := true } = workingCopy c.1 s
  | _ => true

/-- A write of MUTE_RELEASE for a scope: refused where a test fails, and otherwise the mute ends and is logged. A release at the instant of
a detection ends as that detection: the mute stays in force (17 R566; log entry 55). -/
def releaseMute (scope unit : Nat) : Action := fun s =>
  match s.guard.mutes.find? fun m => sameScope s m.scope m.unit scope unit with
  | none => (.ok, s)
  | some m =>
    if !(m.causes.all fun c => releaseTest s m.scope m.unit c.1) then (.safetyMuted, s)
    else if m.last == s.clock.ticks then (.ok, s)
    else
      let s := if m.complete then s else completeMute m s
      let s := showMutes (s.onGuard fun g =>
        { g with mutes := g.mutes.filter fun x => !sameScope s x.scope x.unit scope unit
                 reopen := (g.reopen.filter fun r => !(r.1 == scope && r.2.1 == unit)) ++ [(scope, unit, s.airNow)] })
      (.ok, muteRecord (lowestCause m.causes).1 m.scope m.unit 2 s.atsNow 0 s)

/-- MUTE_RELEASE names a scope (17 R564). -/
def actMuteRelease (v : Int) : Action :=
  let n := v.toNat
  if n = 0xFFFF then releaseMute 3 0xFFFF
  else if n < 64 then releaseMute 0 n
  else if 0x100 ≤ n ∧ n < 0x118 then releaseMute 1 (n - 0x100)
  else if 0x200 ≤ n ∧ n < 0x280 then releaseMute 2 (n - 0x200)
  else fun s => (.valueRange, s)

/-- MUTE_RELEASE. -/
def execMuteRelease (x : Xfer) (v : Int) (s : State) : Host.Outcome State Fault Refusal :=
  .next (hostWrite x O.muteRelease (.num v) (actMuteRelease v) s)

/-- A write of 1 to GUARD_RESYNC: refused unless every carrier reads OFF; the replica is loaded at the next wrap (17 R565). -/
def actGuardResync : Action := fun s => if s.noCarrier then (.ok, s.onGuard fun g => { g with resync := true }) else (.locked, s)

/-- GUARD_RESYNC. -/
def execGuardResync (x : Xfer) (s : State) : Host.Outcome State Fault Refusal :=
  .next (hostWrite x O.guardResync (.num 1) actGuardResync s)

/-! ## DFE chains (17 R570) -/

/-- The free chains of a domain. -/
def freeChains (s : State) (d : Nat) : List Nat :=
  ((List.range 32).map (· + (d - 16) * 32)).filter fun c => s.obj (O.dfeUser c) == 0xFF && !(s.chain c).faulted

/-- The aligned free gang of a domain with the lowest number. -/
def freeGang (s : State) (d g : Nat) : Option Nat :=
  if !s.runs d then none
  else (freeChains s d).find? fun b => b % g == 0 && (List.range g).all fun i => (freeChains s d).contains (b + i)

/-- The objects that configure a chain: those of 10 Table 10-6, and the settings of Table 10-7. -/
def chainObjects (c : Nat) : List Nat :=
  [O.dfeGang c, O.dfeWireKsps c, O.dfeMixHz c, O.cicR c, O.hbStages c, O.rsNum c, O.rsDen c, O.rankWindow c, O.rankOrder c, O.rankFactor c,
    O.rankFloor c, O.rankGuard c, O.dfeSyncReset c, O.coefSwapPeriod c, O.xfadeSamples c, O.thrMode c, O.thrBlock c, O.thrHigh c,
    O.thrLow c, O.thrHoldoff c]

/-- One chain's configuration and banks are copied to another. -/
def copyChain (c d : Nat) (s : State) : State :=
  let s := ((chainObjects c).zip (chainObjects d)).foldl (fun s k => s.change k.2 (s.obj k.1)) s
  let s := (s.changeBlob (O.rxTaps d) (s.blob (O.rxTaps c))).changeBlob (O.txTaps d) (s.blob (O.txTaps c))
  let x := s.chain c
  (s.onChain d fun _ => { x with faulted := false }).setObj (O.dfeUser d) (s.obj (O.dfeUser c))

/-- A stream moves from one gang to another, which starts as though reset, and the guard's copy names its chains. -/
def moveGang (b d g n : Nat) (s : State) : State :=
  let s := (List.range g).foldl (fun s i => (copyChain (b + i) (d + i) s).setObj (O.dfeUser (b + i)) 0xFF) s
  let first := ((s.dfe.moved.find? fun (m : Nat × Nat) => m.2 == b).map fun (m : Nat × Nat) => m.1).getD b
  let s := { s with dfe := { s.dfe with moved := Store.put s.dfe.moved first d } }
  let s := (List.range g).foldl (fun s i => resetChain s.airNow s (d + i)) s
  let chains := s.chainsOf n
  s.onGuard fun h =>
    { h with copies := h.copies.map fun (c : Nat × Copy) => if c.1 == n then (c.1, { c.2 with chains := chains }) else c
             badConf := h.badConf.filter fun c => !(decide (d ≤ c) && decide (c < d + g)) }

/-- A chain faults: a carrier's stream moves to the lowest-numbered free gang of the domain, or is lost (17 R570, R572); the loss of a chain
that serves no carrier is a loss where no free chain is left. -/
def chainFault (c cause : Nat) (s : State) : State :=
  if (s.chain c).faulted then s
  else
    let b := gangHead s c
    let n := s.chainCarrier b
    let s := s.onChain c fun d => { d with faulted := true }
    let d := chainDomain c
    if n < 64 then
      match freeGang s d (s.gang b) with
      | some t =>
        let s := moveGang b t (s.gang b) n s
        spareEngaged (unitWord 6 c) (unitWord 6 (t + (c - b))) (freeChains s d).length cause s
      | none => unitLost (unitWord 6 c) (freeChains s d).length cause s
    else if (freeChains s d).isEmpty || s.obj (O.dfeUser c) != 0xFF then unitLost (unitWord 6 c) (freeChains s d).length cause s
    else s

/-- DFE_CHAIN_FAULT. -/
def execDfeChainFault (chain : Nat) (s : State) : Host.Outcome State Fault Refusal :=
  if 128 ≤ chain then .fault .noSuchUnit else .next (chainFault chain 0 s)

/-! ## Pallet-store slices (17 R571) -/

/-- Whether an instance holds a pallet of a slice. -/
def Op.inSlice (k : Nat) (o : Op) : Bool := o.places.any fun p => p / 64 == k

/-- Whether the inputs of an instance survive the loss of a slice. -/
def inputsSurvive (s : State) (k : Nat) (o : Op) : Bool :=
  o.ins.all fun i => match s.liveOp o.key i.1 with
    | some (_, p) => p.published && p.state == .ended && !p.inSlice k
    | none => false

/-- An instance whose outputs lay in a lost slice: one that is on its unit goes back from there, one that has ended runs again where its
inputs survive, and otherwise its consumers receive empty tokens. -/
def sliceOp (k : Nat) (s : State) (e : Nat × Op) : State :=
  match e.2.state with
  | .running => match e.2.cls, Store.find s.tiles e.2.unit with
    | 0, some c => if c.tag == e.1 && c.ended.isNone then stopTask e.2.unit .tileFault s else s
    | _, _ => rerunOp { s with hod := { s.hod with chains := if e.2.cls == 5 then Store.drop s.hod.chains e.2.unit else s.hod.chains } } e.1
  | .dispatched | .suspended => rerunOp s e.1
  | .ended =>
    if inputsSurvive s k e.2 then rerunOp (s.onOp e.1 fun o => { o with published := false, empty := false }) e.1
    else s.onOp e.1 fun o => { o.bare with empty := true }
  | _ => s

/-- A slice faults: its pallets leave every pool, and the class, which has no spare, has lost a unit. -/
def sliceFault (k cause : Nat) (s : State) : State :=
  if !bitOf s.units.slices k then s
  else
    let s := { s with units := { s.units with slices := setBit s.units.slices k false } }
    let hit := s.sched.ops.filter fun e => e.2.inSlice k
    resettle (unitLost (unitWord 8 k) 0 cause (hit.foldl (sliceOp k) s))

/-- PALLET_SLICE_FAULT. -/
def execPalletSliceFault (slice : Nat) (s : State) : Host.Outcome State Fault Refusal :=
  if 24 ≤ slice then .fault .noSuchUnit else .next (sliceFault slice 0 s)

/-! ## FAULT_CLEAR and the mute log (17 R567, R576) -/

/-- The conditions of Table 17-6, by bit. -/
def causeHolds (s : State) : Nat → Bool
  | 0 => !s.guard.mutes.isEmpty
  | 1 => !s.guard.lost.isEmpty
  | 2 => [O.tileSpares, O.kdSpares, O.keSpares, O.leSpares, O.xeSpares].any fun k => s.obj k == 0
  | 3 => decide (s.nat O.journalCopies < 2)
  | 4 => (List.range 16).any fun c => s.obj (O.chState c) == 4
  | 5 => (List.range 8).any fun r => decide (2 ≤ s.nat (O.ringState r))
  | 6 => s.obj O.guardState == 2
  | _ => false

/-- A write of 1 to FAULT_CLEAR. -/
def actFaultClear : Action := fun s =>
  (.ok, s.setObj O.faultCauses (bitsOfList ((List.range 7).filter fun b => bitOf (s.nat O.faultCauses) b && causeHolds s b)))

/-- FAULT_CLEAR. -/
def execFaultClear (x : Xfer) (s : State) : Host.Outcome State Fault Refusal :=
  .next (hostWrite x O.faultClear (.num 1) actFaultClear s)

/-- The oldest record of the mute log. -/
def muteHead (s : State) : Option Bytes := s.guard.log.head?

/-- The mute log without the record that a read popped. -/
def mutePop (s : State) : State := s.onGuard fun g => { g with log := g.log.drop 1 }

/-- READ_MUTE_LOG. -/
def execReadMuteLog (x : Xfer) (s : State) : Host.Outcome State Fault Refusal :=
  .next (hostPop x O.muteLog muteHead mutePop s)

end Sys2Proof.Machine
end

