-- ==== Sys2Proof/Machine/Power.lean ====
section
/-! DEFINITION. Power domains, their votes and transitions, VDD_CORE on the AVSBus, and watch mode (18). -/

namespace Sys2Proof.Machine

/-- The state with the power changed. -/
def State.onPower (s : State) (f : Power → Power) : State := { s with power := f s.power }

/-- The state with VDD_CORE changed. -/
def State.onRail (s : State) (f : Rail → Rail) : State := s.onPower fun p => { p with rail := f p.rail }

/-- The state with the watch sequencer changed. -/
def State.onWatch (s : State) (f : Watch → Watch) : State := s.onPower fun p => { p with watch := f p.watch }

/-! ## Domains and the target of the rail (18 R580, R582) -/

/-- Whether VDD_CORE supplies a domain (18 Table 18-1). -/
def coreDomain (d : Nat) : Bool := (decide (1 ≤ d) && decide (d ≤ 19)) || d == 31

/-- Whether a domain reads RUN or is in a transition to or from it. -/
def nearRun (s : State) (d : Nat) : Bool :=
  s.runs d || match Store.find s.power.moving d with
    | some m => m.was == 0 || m.to' == 0
    | none => false

/-- The target of VDD_CORE in mV. -/
def railTarget (s : State) : Nat :=
  if (List.range 32).any fun d => coreDomain d && nearRun s d then s.nat O.vRunMv else s.nat O.vLowMv

/-! ## Votes: 0 none, 1 OFF, 2 NAP, 3 TRIM, 4 RUN (18 R583 to R585) -/

/-- Whether TJ is at or above TJ_HOST_CAP. -/
def tooHot (s : State) : Bool := decide (s.obj O.tjHostCap ≤ s.obj O.tj)

/-- The host's vote as it counts. -/
def hostVoteOf (s : State) (d : Nat) : Nat :=
  let v := s.nat (O.hostVote d)
  if tooHot s && decide (3 ≤ v) then 0 else v

/-- The scheduler votes RUN on each domain that holds a dispatched operation (13 R453). -/
def schedVote (s : State) (d : Nat) : Nat :=
  if s.sched.ops.any fun e => (e.2.state == .dispatched || e.2.state == .running) &&
      (unitDomain e.2.cls e.2.unit == d || e.2.fused.any fun f => unitDomain f.1 f.2 == d) then 4 else 0

/-- The emission guard's vote. -/
def guardVote (s : State) (d : Nat) : Nat :=
  if s.obj O.watchState != 0 then 0
  else if d == 31 || (List.range 100).any fun n => s.pairServes n && s.obj (O.bondState n) == 2 && unitDomain 0 (2 * n) == d then 4 else 0

/-- The captures that are set. -/
def captures (s : State) : List Nat := (List.range 8).filter fun k => s.obj (O.wcKind k) != 0

/-- The domain that a capture needs: LE, or its chain's. -/
def captureDomain (s : State) (k : Nat) : Nat := if s.obj (O.wcKind k) == 2 then 14 else chainDomain (s.nat (O.wcChain k))

/-- The watch sequencer's vote. -/
def watchVote (s : State) (d : Nat) : Nat :=
  let w := s.power.watch
  if (w.awake && (d == 31 || (captures s).any fun k => captureDomain s k == d)) || (w.mgt && d == 1) then 4 else 0

/-- Whether the management firmware's votes are those of WATCH: from the acceptance until the device begins to leave. -/
def State.asleep (s : State) : Bool := decide (1 ≤ s.obj O.watchState) && decide (s.obj O.watchState ≤ 5)

/-- The ports of a quad whose enable is not OFF. -/
def quadUsed (s : State) (d : Nat) : Bool := (List.range 24).any fun p => portDomain p == d && s.holds (O.portEnable p)

/-- The management firmware's vote in WATCH (15 R513). -/
def sleepVote (s : State) (d : Nat) : Nat :=
  if 26 ≤ d && d < 30 then (if s.obj O.sessionState != 0 && s.integ.copies.any fun c => c / 4 == d - 26 then 4 else 0)
  else if 20 ≤ d && d < 26 then (if quadUsed s d then 4 else 0)
  else if d == 1 || d == 31 || d == 14 then 2
  else if (captures s).any fun k => s.obj (O.wcKind k) == 1 && captureDomain s k == d then 2 else 0

/-- The management firmware's vote outside WATCH; a channel in self-refresh counts as in service. -/
def serviceVote (s : State) (d : Nat) : Nat :=
  if d == 1 || d == 30 || d == 31 then 4
  else if 2 ≤ d && d ≤ 15 then (if s.obj O.powerPolicy == 0 then 4 else 3)
  else if 16 ≤ d && d < 20 then (if (List.range 128).any fun c => chainDomain c == d && s.obj (O.dfeUser c) != 0xFF then 4 else 0)
  else if 20 ≤ d && d < 26 then (if quadUsed s d then 4 else 0)
  else if (List.range 16).any fun c => c / 4 == d - 26 && decide (26 ≤ d) && decide (1 ≤ s.obj (O.chState c)) && decide (s.obj (O.chState c) ≤ 3)
    then 4 else 0

/-- The management firmware's vote. -/
def mgmtVote (s : State) (d : Nat) : Nat := if s.asleep then sleepVote s d else serviceVote s d

/-- The votes of clients 0 to 4 for a domain. -/
def votesOf (s : State) (d : Nat) : List Nat := [hostVoteOf s d, schedVote s d, guardVote s d, watchVote s d, mgmtVote s d]

/-- The resolved target (18 R583), as DOMAIN_STATE codes it: the highest vote, OFF where there is none; AON is always in RUN. -/
def domainTargetOf (s : State) (d : Nat) : Nat := if d == 0 then 0 else 4 - max 1 ((votesOf s d).foldl max 0)

/-- PENDING (18 R590): the resolved target where it is not that of the transition in progress. -/
def pendingOf (s : State) (d : Nat) : Nat :=
  match Store.find s.power.moving d with
  | some m => if m.to' = domainTargetOf s d then 0xFF else domainTargetOf s d
  | none => 0xFF

/-- The host's vote (18 R583, R585). -/
def actHostVote (d : Nat) (v : Int) : Action := fun s =>
  if tooHot s && decide (3 ≤ v) then (.thermalLimit, s) else (.ok, s.change (O.hostVote d) v)

/-- HOST_VOTE. -/
def execHostVote (x : Xfer) (d : Nat) (v : Int) (s : State) : Host.Outcome State Fault Refusal :=
  if 32 ≤ d then .fault .noSuchUnit else .next (hostWrite x (O.hostVote d) (.num v) (actHostVote d v) s)

/-! ## The rail (18 R589, R590) -/

/-- The rail begins an exchange where its target calls for one and none runs or waits to be repeated. -/
def railSettle (s : State) : State :=
  if s.power.rail.run.isNone && s.power.rail.failed.isNone && s.power.rail.mv != railTarget s then
    s.onRail fun r => { r with run := some ⟨railTarget s, 0, 0, none, none, s.clock.ticks⟩ }
  else s

/-- Once the domains of a wake are in the state they rest in and the rail is low, or MGT first reads NAP, the device sleeps (18 R592,
R595). -/
def watchRest (s : State) : State :=
  let low := s.power.moving.isEmpty && s.power.rail.run.isNone && s.power.rail.mv == railTarget s
  if s.obj O.watchState == 1 && s.obj (O.domainState 1) == 2 then s.setObj O.watchState 2
  else if s.obj O.watchState == 5 && !s.power.watch.awake && low then s.setObj O.watchState 2 else s

/-- An exchange has failed: the rail and every domain that waits on it keep their former state, AVS_FAULT is raised unless it has been
since an exchange last succeeded (18 Table 18-8), and the exchange is repeated after 1 ms. -/
def failExchange (cause target : Nat) (s : State) : State :=
  let s := if s.power.rail.faulted then s
    else raise s O.avsFaultCount 0 (leBytes 1 0 ++ leBytes 1 cause ++ leBytes 2 target ++ leBytes 4 0) 0
  let waits := s.power.moving.filter fun (m : Nat × Transition) => coreDomain m.1 && m.2.to' == 0 && s.power.rail.mv != s.nat O.vRunMv
  let s := waits.foldl (fun s (m : Nat × Transition) =>
    (s.setObj (O.domainState m.1) m.2.was).onPower fun p => { p with moving := Store.drop p.moving m.1 }) s
  s.onRail fun r => { r with run := none, failed := some (target, s.clock.ticks + tickMs), faulted := true }

/-- An exchange is complete: the rail has its new voltage. -/
def succeedExchange (e : Exchange) (s : State) : State :=
  watchRest (railSettle (s.onRail fun r => { r with mv := e.target, run := none, faulted := false }))

/-- An acknowledged exchange without VDone for AVS_TIMEOUT fails. -/
def timeoutExchange (s : State) : State :=
  match s.power.rail.run with
  | some e => match e.acked with
    | some t => if t + ticksOfNs (s.nat O.avsTimeout * 1000) ≤ s.clock.ticks then failExchange 0 e.target s else s
    | none => s
  | none => s

/-- AVS_ACK: the acknowledgement of the write that is out. -/
def execAvsAck (ack : AvsAckField) (s : State) : Host.Outcome State Fault Refusal :=
  match s.power.rail.run with
  | none => .next s
  | some e =>
    if e.acked.isSome || e.again.isSome then .next s
    else match ack with
      | .good => .next (s.onRail fun r => { r with run := some { e with acked := some s.clock.ticks, polled := s.clock.ticks } })
      | .busy =>
        if 8 ≤ e.busy then .next (failExchange 2 e.target s)
        else .next (s.onRail fun r => { r with run := some { e with busy := e.busy + 1, again := some (s.clock.ticks + ticksOfNs 5000) } })
      | .badCrc =>
        if 3 ≤ e.crc then .next (failExchange 2 e.target s)
        else .next (s.onRail fun r => { r with run := some { e with crc := e.crc + 1 } })
      | .invalid => .next (failExchange 1 e.target s)

/-- AVS_POLL: 1 µs after the acknowledgement or the last poll; VDone is followed by 3 µs. -/
def execAvsPoll (vdone : Bool) (s : State) : Host.Outcome State Fault Refusal :=
  match s.power.rail.run with
  | none => .next s
  | some e =>
    if e.acked.isNone then .next s
    else
      let s := advanceTicks s (e.polled + ticksOfNs 1000)
      if vdone then .next (succeedExchange e (advance s (ticksOfNs 3000)))
      else .next (timeoutExchange (s.onRail fun r => { r with run := some { e with polled := s.clock.ticks } }))

/-- AVS_RETRY: a busy exchange after 5 µs, a failed one after 1 ms. -/
def execAvsRetry (s : State) : Host.Outcome State Fault Refusal :=
  match s.power.rail.run, s.power.rail.failed with
  | some e, _ => match e.again with
    | some t => .next ((advanceTicks s t).onRail fun r => { r with run := some { e with again := none } })
    | none => .next (timeoutExchange s)
  | none, some (target, t) =>
    let s := advanceTicks s t
    .next (s.onRail fun r => { r with run := some ⟨target, 0, 0, none, none, s.clock.ticks⟩, failed := none })
  | none, none => .next s

/-- One rail's reading: mV, 10 mA, 0.1 °C. -/
def readingBytes (r : Nat × Nat × Int) : Bytes := leBytes 2 r.1 ++ leBytes 2 r.2.1 ++ leBytes 2 (codeOf 16 r.2.2) ++ leBytes 2 0

/-- PMBUS_READ: the readings of VDD_CORE, VDD_PHY and VDD_AON, and their power (18 Table 18-9). -/
def execPmbusRead (readings : List (Nat × Nat × Int)) (s : State) : Host.Outcome State Fault Refusal :=
  if readings.length != 3 then .fault .noSuchUnit
  else
    let s := timeoutExchange s
    let p : Nat := (readings.map fun (r : Nat × Nat × Int) => r.1 * r.2.1).sum
    .next ((s.setBlob O.railReadings (readings.flatMap readingBytes)).setObj O.powerMw (freeDiv 18 p 100))

/-! ## Transitions (18 R587, R588, R590) -/

/-- The tiles of a domain. -/
def domainTiles (d : Nat) : List Nat := if 2 ≤ d && d < 12 then (List.range 20).map (· + (d - 2) * 20) else []

/-- The channels of a domain. -/
def domainChans (d : Nat) : List Nat := if 26 ≤ d && d < 30 then (List.range 4).map (· + (d - 26) * 4) else []

/-- A channel of a domain goes from one state to another. -/
def moveChans (d : Nat) (a b : Int) (s : State) : State :=
  (domainChans d).foldl (fun s c => if s.obj (O.chState c) == a then s.setObj (O.chState c) b else s) s

/-- A domain begins to close or to return: its channels enter self-refresh, its tiles read ASLEEP, and the first DOMAIN_ASLEEP answer
of this closing will be reported (14 R476, 15 R513); its pads are latched as it leaves RUN (18 R591). Between states that are not RUN a domain closes to a lower and returns to a higher one
(log entry 36). -/
def startTransition (d : Nat) (s : State) : State :=
  let was := s.nat (O.domainState d)
  let to' := domainTargetOf s d
  if (Store.find s.power.moving d).isSome || was = to' then s
  else
    let s := s.onPower fun p => { p with moving := Store.put p.moving d ⟨was, to', s.clock.ticks⟩ }
    let s := s.setObj (O.domainState d) (if to' < was then 5 else 4)
    let s := if was = 0 then latchPads d (moveChans d 2 3 (s.onMortar fun m => { m with told := m.told.filter (· != d) })) else s
    railSettle ((domainTiles d).foldl (fun s t => showTile t s) s)

/-- DOMAIN_TRANSITION_START. -/
def execDomainTransitionStart (d : Nat) (s : State) : Host.Outcome State Fault Refusal :=
  if 32 ≤ d then .fault .noSuchUnit else .next (startTransition d s)

/-- What a domain loses in OFF: tile memory, and with MORT the pallet store (18 Table 18-2). -/
def loseContent (d : Nat) (s : State) : State :=
  let s := { s with mem := (domainTiles d).foldl (fun m t => memClear m (tileAddr t) 0x80000) s.mem }
  if d == 31 then { s with mem := memClear s.mem (palletAddr 0) 0x18000000 } else s

/-- What a domain's return to RUN restores: its channels leave self-refresh, its ports start bring-up, its tiles load their program images
where they were OFF, and its chains start as though reset at the next frame boundary (09 R301, 10 R346, 15 R512, 18 R581). -/
def restoreContent (d was : Nat) (s : State) : State :=
  let s := moveChans d 3 2 s
  let s := ((List.range 24).filter fun p => portDomain p == d && s.holds (O.portEnable p) && !s.linkUp p).foldl (fun s p => bringUp p s) s
  let s := if was == 3 then (domainTiles d).foldl (fun s t => loadTile t s) s else s
  if 16 ≤ d && d < 20 && s.airRunning then
    ((List.range 128).filter fun c => chainDomain c == d && s.chainUser c != 0x81).foldl (resetChain (nextFrame s.airNow)) s
  else s

/-- A transition completes. -/
def endTransition (d : Nat) (m : Transition) (s : State) : State :=
  let s := s.setObj (O.domainState d) m.to'
  let s := (s.bump (O.transitions d) 1).setObj (O.lastTransitionNs d) (nsOfTicks (s.clock.ticks - m.since) : Nat)
  let s := s.onPower fun p => { p with moving := Store.drop p.moving d }
  let s := if m.to' == 3 then loseContent d s else if m.to' == 0 then restoreContent d m.was (driveWithRun d s) else s
  watchRest (railSettle ((domainTiles d).foldl (fun s t => showTile t s) s))

/-- Whether a closing domain is drained: every bridge reads DRAINED, and for MORT every request has been answered and every chain has ended
(14 R474, R477; 16 R546). -/
def drained (s : State) (d : Nat) : Bool :=
  bridgeOf s d == 2 && (d != 31 || (s.mortar.reqs.isEmpty && s.hod.chains.isEmpty))

/-- DOMAIN_DRAINED. -/
def execDomainDrained (d : Nat) (s : State) : Host.Outcome State Fault Refusal :=
  if 32 ≤ d then .fault .noSuchUnit
  else match Store.find s.power.moving d with
    | some m => .next (if s.obj (O.domainState d) == 4 && (m.was != 0 || drained s d) then endTransition d m s else s)
    | none => .next s

/-- Whether the rail lets a domain enter RUN. -/
def railReady (s : State) (d : Nat) : Bool := !coreDomain d || (s.power.rail.mv == s.nat O.vRunMv && s.power.rail.run.isNone)

/-- DOMAIN_ENTER_RUN_COMPLETE. -/
def execDomainEnterRunComplete (d : Nat) (s : State) : Host.Outcome State Fault Refusal :=
  if 32 ≤ d then .fault .noSuchUnit
  else match Store.find s.power.moving d with
    | some m => .next (if s.obj (O.domainState d) == 5 && (m.to' != 0 || railReady s d) then endTransition d m s else s)
    | none => .next s

/-! ## Watch mode (18 R592 to R599) -/

/-- The start of a capture window in its period, and its end, in device air time. -/
def windowStart (s : State) (k : Nat) : Int := s.obj (O.wcStart k) * airNs

/-- Its length. -/
def windowLength (s : State) (k : Nat) : Int := s.obj (O.wcLength k) * airNs

/-- The first opening of a period from its boundary, 0 where no capture is set. -/
def firstWindow (s : State) : Int :=
  match captures s with
  | [] => 0
  | k :: t => t.foldl (fun a j => min a (windowStart s j)) (windowStart s k)

/-- The lead of the alarm over the first window. -/
def wakeLeadAir (s : State) : Int := s.obj O.wakeLead * airNs

/-- The first period boundary after an instant: that of a frame whose linear count, less WATCH_FRAME_OFFSET, is a multiple of WATCH_PERIOD (18
R593). -/
def nextPeriod (s : State) (a : Int) : Int :=
  let k := a / airFrame + 1
  let i := ((List.range 2048).find? fun (i : Nat) =>
    ((k + i) % (2 ^ 24 : Int) - s.obj O.watchFrameOffset) % s.obj O.watchPeriod == 0).getD 0
  (k + i) * airFrame

/-- The boundary of the period whose alarm is next. -/
def alarmPeriod (s : State) : Int :=
  nextPeriod s (max s.power.watch.boundary (s.airNow + wakeLeadAir s + (s.power.watch.early : Int) * airNs - firstWindow s - 1))

/-- The instant of the next alarm (18 R594): the last RTC edge not later than the first opening less WAKE_LEAD. -/
def alarmAt (s : State) : Int := alarmPeriod s + firstWindow s - wakeLeadAir s - (s.power.watch.early : Int) * airNs

/-- NEXT_ALARM. -/
def nextAlarmOf (s : State) : Nat :=
  if s.obj O.watchState == 0 || !s.airRunning || s.guard.rtcOff then 0 else stimeOf (s.countOfAir (alarmAt s))

/-- Where the RTC edge of the next alarm falls, a free value of less than one RTC period (log entry 12). -/
def drawEdge (s : State) : State :=
  let (w, s) := s.free
  s.onWatch fun v => { v with early := w.toNat % 30518 }

/-- Test 3 of 18 R592. -/
def watchPortDown (s : State) (k : Nat) : Bool :=
  let p := if s.obj (O.wcKind k) == 1 then s.nat (O.wcPort k)
    else if s.nat (O.wcCarrier k) < 64 then s.nat (O.fhPort (s.nat (O.wcCarrier k))) else 0xFF
  24 ≤ p || !s.isOn (O.portEnable p)

/-- Test 4. -/
def watchChainBad (s : State) (k : Nat) : Bool :=
  let c := s.nat (O.wcChain k)
  s.obj (O.wcKind k) == 1 && (128 ≤ c || s.chainUser c != 0xFF || s.obj (O.dfeGang c) != 1 || s.obj (O.thrMode c) != 2)

/-- Test 5. -/
def watchOverlap (s : State) : Bool :=
  let l := captures s
  (l.any fun j => l.any fun k => j < k && overlaps (windowStart s j) (windowLength s j) (windowStart s k) (windowLength s k))
    || (l.any fun k => decide (s.obj O.watchPeriod * airFrame + firstWindow s <
        windowStart s k + windowLength s k + wakeLeadAir s + 100000 * airNs))
    || (s.holds O.nlEnable && gapMeetsWatch s)

/-- The check of WATCH_ENABLE (18 R592; 20 R636). -/
def watchCheck (s : State) : Reason :=
  if !s.noCarrier then .locked
  else if !s.airRunning || s.guard.rtcOff then .noTimeSource
  else if (captures s).any (watchPortDown s) then .portDown
  else if (captures s).any (watchChainBad s) then .noEngines
  else if watchOverlap s then .windowOverlap
  else .ok

/-- The device enters WATCH: a listen gap in progress ends without a result (02 R73). -/
def watchEnter (s : State) : State :=
  let s := abandonGap s
  drawEdge ((s.setObj O.watchState 1).onWatch fun _ => ⟨s.airNow, false, [], [], false, false, 0, [], []⟩)

/-- The device begins to leave WATCH (18 R598). -/
def watchLeave (s : State) : State :=
  (s.setObj O.watchState 6).onWatch fun w => { w with awake := false, left := [], opened := [], mgt := false, leaving := false }

/-- WATCH_ENABLE (18 R592, R598): a wake already begun runs to its compare. -/
def watchRules : EnableRules :=
  { key := O.watchEnable, check := watchCheck, accept := watchEnter
    stop := fun s => if s.power.watch.awake then s.onWatch fun w => { w with leaving := true } else watchLeave s
    busy := fun _ => true }

/-- WRITE_WATCH_ENABLE. -/
def execWriteWatchEnable (x : Xfer) (v : Int) (s : State) : Host.Outcome State Fault Refusal :=
  .next (hostWrite x O.watchEnable (.num v) (watchRules.write v) s)

/-- The record of a PRACH capture's occasion (18 Table 18-12). -/
def watchRecord (s : State) (k : Nat) : Rec :=
  let b := s.blob (O.wcPrach k)
  { type := 0x13, flags := bytesAt b 1 1, id := bytesAt b 4 2, bytes := b }

/-- The section of an occasion of an OFF carrier (09 Table 9-3). -/
def occasionSection (s : State) (n : Nat) (r : Rec) : CSection :=
  let d : Desc := ⟨0, 13, [r]⟩
  { type := 3, exts := [], prbs := recPrbs (s.std n) (s.mu n) (s.prbs n) d r, symbols := recSymbols (s.std n) (s.mu n) d r
    beam := 0, comp := compUl s n, prach := some (prachGrid s n r) }

/-- WATCH_CPLANE_SEND: 250 µs before a PRACH window its carrier's port sends the prebuilt C-plane message, one for each uplink eAxC (09
R311; 18 R593). -/
def execWatchCplaneSend (k bytes : Nat) (s : State) : Host.Outcome State Fault Refusal :=
  if 8 ≤ k then .fault .noSuchUnit
  else
    let n := s.nat (O.wcCarrier k)
    if !s.asleep || s.obj (O.wcKind k) != 2 || 64 ≤ n || !s.airRunning then .next s
    else
      let ahead := windowStart s k - 250000 * airNs
      let b := nextPeriod s (max (Store.at (-airFrame) s.power.watch.sent k) (s.airNow - ahead - 1))
      let s := (advanceToAir s (b + ahead)).onWatch fun w => { w with sent := Store.put w.sent k b }
      let p := s.nat (O.fhPort n)
      if p < 24 && s.linkUp p then
        let ports := max 1 (s.nat (O.ulPorts n))
        let sec := occasionSection s n (watchRecord s k)
        let r := (List.range ports).foldl (fun (a : List FrameBody × State) i =>
          let e := s.eaxc n (s.nat (O.prachEaxcOffset n) + i)
          let (q, s) := takeSeq (seqKey n 1 1 e) a.2
          (a.1 ++ [.cplane e q sec], s)) ([], s)
        let frames := r.1.map (frameOn s p (ruAddress s n p))
        .next (sendLaunch p ⟨s.clock.ticks, 0, 0, [], 0, false, 0, frames, bytes⟩ (r.2.bump (O.cpTxSent p) ports))
      else .next s

/-- The sequencer withdraws its votes after the last compare: the domains return to NAP, or the device leaves WATCH. MGT stays awake while
an INDICATION of a hit waits (18 R596). -/
def wakeEnds (s : State) : State :=
  if s.power.watch.leaving then watchLeave s
  else watchRest (s.onWatch fun w => { w with awake := false, left := [], opened := [], mgt := w.mgt && !s.link.waiting.isEmpty })

/-- WATCH_WINDOW_OPEN: the window of a capture of the wake in progress opens. -/
def execWatchWindowOpen (k : Nat) (s : State) : Host.Outcome State Fault Refusal :=
  if 8 ≤ k then .fault .noSuchUnit
  else if s.power.watch.awake && s.power.watch.left.contains k && !s.power.watch.opened.contains k then
    let s := advanceToAir s (s.power.watch.boundary + windowStart s k)
    .next ((s.setObj O.watchState 4).onWatch fun w => { w with opened := w.opened ++ [k] })
  else .next s

/-- Whether a compare finds a hit (18 R593, 10 R347): a block at or above THR_HIGH, or one detection or more; nothing where the domain of
the capture does not run. -/
def isHit (s : State) (k : Nat) (measure : Int) : Bool :=
  s.runs (captureDomain s k) &&
    (if s.obj (O.wcKind k) == 1 then decide (s.obj (O.thrHigh (s.nat (O.wcChain k))) ≤ measure)
     else decide (0 < measure) && s.nat O.leService != 0)

/-- The detail of a compare (18 Table 18-7). -/
def compareDetail (s : State) (k : Nat) (hit : Bool) (measure : Int) : Bytes :=
  leBytes 1 k ++ leBytes 1 (s.nat (O.wcKind k)) ++ leBytes 1 (if hit then s.nat (O.wcAction k) else 0) ++ leBytes 1 0
    ++ leBytes 2 (codeOf 16 measure) ++ leBytes 2 0

/-- WATCH_HIT (18 R596): MGT is woken for the INDICATION, and with WC_ACTION 1 the device leaves WATCH after the wake. -/
def watchHit (k : Nat) (measure : Int) (s : State) : State :=
  let s := raise s O.watchHitCount k (compareDetail s k true measure) 0
  let s := s.onWatch fun w => { w with mgt := true, leaving := w.leaving || s.obj (O.wcAction k) == 1 }
  if s.obj (O.wcAction k) == 1 && s.obj O.watchEnable == stOn then s.setObj O.watchEnable stStopping else s

/-- What a capture measures, and the state that has measured it (18 R593): the power of the strongest block of its chain in 0.1 dBFS, or the
detections of the occasion that a prach operation on the received sections finds. A block of zero samples has no stated power (log entry 12). -/
def captureMeasure (k : Nat) (s : State) : Int × State :=
  if s.obj (O.wcKind k) == 1 then
    let c := s.nat (O.wcChain k)
    let blocks := (s.chain c).meter.ended
    let (w, t) := s.free
    let s := (if blocks.any fun b => b.1 == 0 then t else s).onChain c fun d => { d with meter := { d.meter with ended := [] } }
    let powers := blocks.map (blockPower (signedOf 16 (w.toNat % 2 ^ 16)))
    (powers.foldl max (powers.headD (-32768)), s)
  else
    let n := s.nat (O.wcCarrier k)
    let r := watchRecord s k
    let y : Received := fun l q i => Cx.of ((Store.at [] s.power.watch.rx (k * 65536 + l * 128 + 64 + q)).getD i (0, 0))
    let u := prachFound (max 1 (s.nat (O.ulPorts n))) y r [0, 0, 0, s.nat O.prachThreshold]
    (u.peaks.length, s.onWatch fun w => { w with rx := w.rx.filter fun e => e.1 / 65536 != k })

/-- WATCH_WINDOW_CLOSE: a window closes and the sequencer compares; a PRACH capture runs one operation on a layer engine. -/
def execWatchWindowClose (k : Nat) (s : State) : Host.Outcome State Fault Refusal :=
  if 8 ≤ k then .fault .noSuchUnit
  else if s.power.watch.opened.contains k then
    let s := advanceToAir s (s.power.watch.boundary + windowStart s k + windowLength s k)
    let s := s.setObj O.watchState 5
    let (measure, s) := captureMeasure k s
    let s := if s.obj (O.wcKind k) == 2 && s.runs 14 && s.nat O.leService != 0 then
        (((s.bump O.leOps 1).bump O.prachOccasions 1).bump O.prachDetections measure.toNat) else s
    let hit := isHit s k measure
    let s := s.setBlob (O.wcLast k) (compareDetail s k hit measure)
    let s := if hit then watchHit k measure s else s
    let s := s.onWatch fun w => { w with left := w.left.filter (· != k), opened := w.opened.filter (· != k) }
    .next (if s.power.watch.left.isEmpty then wakeEnds s
      else s.setObj O.watchState (if s.power.watch.opened.isEmpty then 3 else 4))
  else .next s

end Sys2Proof.Machine
end

