-- ==== Sys2Proof/Machine/Image.lean ====
section
/-! DEFINITION. The site image in a flash slot (19 R610 to R617): its header, sections, dictionary entries, tile programs and tile-memory
images, and how the device judges it. -/

namespace Sys2Proof.Machine

/-! ## Reading a slot -/

/-- The bytes of a slot (19 Table 19-2). -/
def slotSize : Nat := 32 * 2 ^ 20

/-- `n` bytes of a slot from an offset; an erased byte reads 0xFF. -/
def slotBytes (slot : List Host.Cell) (offset n : Nat) : Bytes := (List.range n).map fun i => Store.at 0xFF slot (offset + i)

/-- The number in `n` bytes of a slot. -/
def slotNum (slot : List Host.Cell) (offset n : Nat) : Nat := leNat (slotBytes slot offset n)

/-- The length of an HSS signature (19 R617). -/
def hssLength : Nat := 5396

/-- A byte string cut or made up with zeros to a length. -/
def fixLen (n : Nat) (b : Bytes) : Bytes := (b ++ List.replicate n 0).take n

/-- SHA-256. -/
def sha (b : Bytes) : Bytes := fixLen 32 (Config.sha256 b)

/-! ## Header and section table (19 R613, R614) -/

/-- A section: its type, flags, offset and length. -/
structure Section where
  type   : Nat
  flags  : Nat
  offset : Nat
  length : Nat
  deriving DecidableEq, Repr

/-- The signed length. -/
def signedLength (slot : List Host.Cell) : Nat := slotNum slot 8 4

/-- The section table, of at most 1,024 entries. -/
def sectionsOf (slot : List Host.Cell) : List Section :=
  (List.range (min 1024 (slotNum slot 6 2))).map fun i =>
    ⟨slotNum slot (128 + 16 * i) 1, slotNum slot (129 + 16 * i) 1, slotNum slot (132 + 16 * i) 4, slotNum slot (136 + 16 * i) 4⟩

/-- Whether the header is one of 19 Table 19-4. -/
def headerOk (slot : List Host.Cell) : Bool :=
  slotNum slot 0 4 == 0x494A4748 && slotNum slot 4 1 == 1 && slotNum slot 5 1 == 0
    && decide (1 ≤ slotNum slot 6 2) && decide (slotNum slot 6 2 ≤ 1024) && decide (signedLength slot + hssLength ≤ slotSize)
    && decide (slotNum slot 16 2 ≤ 64) && slotNum slot 18 2 == 0 && (slotBytes slot 80 48).all (· == 0)

/-- The entries of a dictionary section (19 R615), `none` where they do not fill it; `fuel` bounds their number. -/
def dictEntries : Nat → Bytes → Option (List (Nat × Bytes))
  | _, [] => some []
  | 0, _ => none
  | fuel + 1, b =>
    let n := bytesAt b 4 4
    if b.length < 8 || bytesAt b 3 1 != 0 || b.length < 8 + pad8 n then none
    else (dictEntries fuel (b.drop (8 + pad8 n))).map fun l => (bytesAt b 0 2 * 256 + bytesAt b 2 1, (b.drop 8).take n) :: l

/-- Whether a section has the shape of its type (19 Table 19-5). -/
def sectionOk (slot : List Host.Cell) (x : Section) : Bool :=
  x.flags == 0 && x.offset % 64 == 0 && decide (128 + 16 * slotNum slot 6 2 ≤ x.offset) && decide (x.offset + x.length ≤ signedLength slot) &&
  match x.type with
  | 1 => decide (68 + hssLength ≤ x.length) && decide (slotNum slot (x.offset + 4) 2 ≤ 32) && slotNum slot (x.offset + 6) 2 == 0
  | 2 => (dictEntries x.length (slotBytes slot x.offset x.length)).isSome
  | 3 => x.length % 176 == 0
  | 4 => decide (8 ≤ x.length) && slotNum slot (x.offset + 4) 4 + 8 == x.length
  | _ => false

/-- The number of sections of a type. -/
def countType (l : List Section) (t : Nat) : Nat := (l.filter (·.type == t)).length

/-- Step 1 of 19 R616. -/
def formatOk (slot : List Host.Cell) : Bool :=
  headerOk slot && (sectionsOf slot).all (sectionOk slot) && countType (sectionsOf slot) 1 == 1
    && decide (countType (sectionsOf slot) 2 ≤ 1) && decide (countType (sectionsOf slot) 3 ≤ 1)

/-! ## Program entries (19 Table 19-6, 13 Table 13-5, 12 Table 12-2) -/

/-- The program of an entry, for a kind of tile operation. -/
def programOf (e : Bytes) (kind : Nat) : Program :=
  { index := bytesAt e 0 2, kind := kind, c0 := bytesAt e 4 4, c1 := bytesAt e 8 4, vl := bytesAt e 12 2
    form := if bitOf (bytesAt e 2 1) 0 then 2 else bytesAt e 14 1, outs := bytesAt e 15 1 % 32
    fused := (List.range 4).map fun i => bytesAt e (20 + i) 1, shadow := bytesAt e 24 1, entry := bytesAt e 40 4, kLo := bytesAt e 28 4
    kHi := bytesAt e 32 4, sTvec := bytesAt e 36 4, rnd := bytesAt e 3 1
    sWindows := (List.range 16).map fun i => bytesAt e (48 + 8 * i) 8 }

/-- The program entries of an image. -/
def programEntries (slot : List Host.Cell) : List Bytes :=
  ((sectionsOf slot).filter (·.type == 3)).flatMap fun x =>
    (List.range (x.length / 176)).map fun i => slotBytes slot (x.offset + 176 * i) 176

/-- The kinds of tile operation of 13 Table 13-4. -/
def tileKinds : List Nat := [0x21, 0x22, 0x23, 0x24, 0x25, 0x26, 0x27, 0x28]

/-- The programs of an entry: one for each kind that it serves, or one that serves none. -/
def programsOf (e : Bytes) : List Program :=
  match tileKinds.filter fun k => Config.programFor k == bytesAt e 0 2 with
  | [] => [programOf e 0]
  | l => l.map (programOf e)

/-- Whether a form and VL can exist (13 R428, Table 13-5). -/
def formPossible (form vl : Nat) : Bool :=
  decide (form ≤ 2) && [512, 1024, 2048, 4096].contains vl && !(form == 1 && vl == 512) && !(vl == 4096 && form != 1)

/-- The faults of one entry in step 4 of 19 R616. -/
def programFault (e : Bytes) : Bool :=
  !formPossible (bytesAt e 14 1) (bytesAt e 12 2) || bytesAt e 3 1 == 3
    || decide (8 < ((List.range 4).map fun i => bytesAt e (20 + i) 1).sum)
    || decide ((if bytesAt e 14 1 == 1 then 0xC0000 else 0x60000) ≤ bytesAt e 32 4)

/-- The tile-memory images. -/
def tileImagesOf (slot : List Host.Cell) : List (Nat × Bytes) :=
  ((sectionsOf slot).filter (·.type == 4)).map fun x => (slotNum slot x.offset 4, slotBytes slot (x.offset + 8) (x.length - 8))

/-- The section faults of step 4: a tile-memory image lies below 0x60000, or below 0xC0000 where a program has a stretcher form. -/
def sectionFault (slot : List Host.Cell) : Bool :=
  let l := programEntries slot
  let top := if l.any fun e => bytesAt e 14 1 == 1 then 0xC0000 else 0x60000
  decide ((l.map fun e => bytesAt e 0 2).eraseDups.length < l.length) || l.any programFault
    || (tileImagesOf slot).any fun m => decide (top < m.1 + m.2.length)

/-! ## The judgement (19 R616) -/

/-- The firmware section. -/
def firmwareOf (slot : List Host.Cell) : Section := (((sectionsOf slot).find? (·.type == 1)).getD ⟨1, 0, 0, 0⟩)

/-- The owner's public key in the header. -/
def ownerKeyOf (slot : List Host.Cell) : Bytes := slotBytes slot 20 60

/-- Step 2: the owner's key and signature. -/
def ownerSigned (s : State) (slot : List Host.Cell) : Bool :=
  let h := s.blob O.ownerKeyHash
  (h.all (· == 0) || sha (ownerKeyOf slot) == h)
    && Config.hssValid (ownerKeyOf slot) (slotBytes slot 0 (signedLength slot)) (slotBytes slot (signedLength slot) hssLength)

/-- Step 5: the firmware's key and signature. -/
def firmwareSigned (slot : List Host.Cell) : Bool :=
  let x := firmwareOf slot
  let key := slotBytes slot (x.offset + 8) 60
  let n := x.length - hssLength
  sha key == fixLen 32 Config.rootHash && Config.hssValid key (slotBytes slot x.offset n) (slotBytes slot (x.offset + n) hssLength)

/-- The reason of the first step of 19 R616 that fails. -/
def judgeImage (s : State) (slot : List Host.Cell) : Reason :=
  if !formatOk slot then .imageFormat
  else if !ownerSigned s slot then .signature
  else if slotNum slot 16 2 < s.nat O.rollbackCount then .rollbackCounter
  else if sectionFault slot then .imageFormat
  else if !firmwareSigned slot then .signature
  else if slotNum slot ((firmwareOf slot).offset + 4) 2 < s.nat O.fwRollbackCount then .rollbackCounter
  else .ok

/-- What the device uses of an image that passes. -/
def siteImage (slot : List Host.Cell) : SiteImage :=
  let fw := (firmwareOf slot).offset
  { length := signedLength slot, version := slotNum slot 12 4, security := slotNum slot 16 2, fwVersion := slotNum slot fw 4
    fwSecurity := slotNum slot (fw + 4) 2, ownerKey := ownerKeyOf slot
    entries := ((sectionsOf slot).filter (·.type == 2)).flatMap fun x =>
      (dictEntries x.length (slotBytes slot x.offset x.length)).getD []
    programs := (programEntries slot).flatMap programsOf, tileImages := tileImagesOf slot }

/-! ## The flash (19 R610 to R612) -/

/-- A slot: 0 A, 1 B. -/
def Flash.slot (f : Flash) (k : Nat) : List Host.Cell := if k == 0 then f.slotA else f.slotB

/-- The flash with a slot's bytes replaced. -/
def Flash.setSlot (f : Flash) (k : Nat) (b : List Host.Cell) : Flash := if k == 0 then { f with slotA := b } else { f with slotB := b }

/-- The boot control block in use: the valid copy with the higher sequence, or preferred slot A with no trial. -/
def Flash.control (f : Flash) : Bcb :=
  match f.bcb0, f.bcb1 with
  | some a, some b => if a.sequence < b.sequence then b else a
  | some a, none => a
  | none, some b => b
  | none, none => ⟨0, 0, 0⟩

/-- A new boot control block: its sequence one above the last, in the copy that is not in use. -/
def Flash.writeControl (f : Flash) (preferred trial : Nat) : Flash :=
  let c := f.control
  let b : Bcb := ⟨c.sequence + 1, preferred, trial⟩
  if f.bcb0 = some c then { f with bcb1 := some b } else { f with bcb0 := some b }

/-- Bytes programmed into a slot from an offset: a NOR flash clears bits and sets none until it is erased (log entry 38). -/
def programBytes (slot : List Host.Cell) (offset : Nat) (data : Bytes) : List Host.Cell :=
  (cellsAt offset data).foldl (fun m (c : Host.Cell) => Store.putD 0xFF m c.1 (Store.at 0xFF m c.1 &&& c.2)) slot

end Sys2Proof.Machine
end

