-- ==== Sys2Proof/Machine/Boot.lean ====
section
/-! DEFINITION. Resets and boot, update, identity, the debug policy and JTAG (19), as far as they need no dictionary transfer; what READY
serves stands in Enables.lean. -/

namespace Sys2Proof.Machine

/-- The state with boot changed. -/
def State.onBoot (s : State) (f : Boot → Boot) : State := { s with boot := f s.boot }

/-- The state with the flash changed; TRIAL_STATE follows the control block in use. -/
def State.onFlash (s : State) (f : Flash → Flash) : State :=
  let s := s.onBoot fun b => { b with flash := f b.flash }
  s.setObj O.trialState s.boot.flash.control.trial

/-- BOOT_STATE changes, and the device reports it on each module (19 R609). -/
def setBootState (v : Nat) (s : State) : State :=
  let s := s.setObj O.bootState v
  let version := s.nat O.imageVersion
  (List.range 2).foldl (fun s m => s.send (.bootReport m v (s.nat O.imageSlot) (s.nat O.bootReason) version)) s

/-! ## Enables (05 R172, R178, R179) -/

/-- The enable objects in ascending order of index and sub. -/
def enableKeys : List Nat :=
  [O.servoEnable, O.nlEnable] ++ (List.range 64).map (fun n => O.carrierEnable n) ++ (List.range 24).map (fun p => O.portEnable p)
    ++ (List.range 8).map (fun p => O.partEnable p) ++ [O.watchEnable, O.traceEnable]

/-- The rules of an enable object. -/
def rulesOf (key : Nat) : EnableRules :=
  if key == O.servoEnable then servoRules
  else if key == O.nlEnable then nlRules
  else if key == O.watchEnable then watchRules
  else if key == O.traceEnable then traceRules
  else if key < O.portEnable 0 then carrierRules ((key - O.carrierEnable 0) / 0x2000)
  else if key < O.partEnable 0 then portRules ((key - O.portEnable 0) / 0x4000)
  else partRules ((key - O.partEnable 0) / 0x100)

/-- One check at boot: a refusal for want of a time source leaves the enable PENDING, but for SERVO_ENABLE, and is reported as any other result
(05 Table 5-10). -/
def bootCheck (s : State) (key : Nat) : State :=
  let e := rulesOf key
  if e.judge s = .noTimeSource && s.obj O.timeValid == 0 && key != O.servoEnable then
    raiseResolved key .noTimeSource (logEnable key 2 .noTimeSource (recordCheck key .noTimeSource s))
  else e.resolve 2 s

/-- The checks at the end of a cold-reset boot. -/
def bootChecks (s : State) : State := s.svc.atBoot.foldl bootCheck s

/-- The checks of the enables still PENDING when TIME_VALID becomes 1. -/
def timeChecks (s : State) : State := s.svc.atBoot.foldl (fun s key => (rulesOf key).resolve 3 s) s

/-- The deferred check of an enable whose shut-down has completed (05 R177). -/
def deferredCheck (key : Nat) (s : State) : State := if s.svc.due.contains key then (rulesOf key).resolve 1 s else s

/-! ## What a reset clears (19 Table 19-1) -/

/-- Objects that a cold reset keeps: fuses (05 R157), counters since power-on (19 R627), and the reading of TJ. -/
def coldKeeps : List Nat :=
  [O.rollbackCount, O.fwRollbackCount, O.topUsed, O.debugPolicy, O.coldResets, O.warmResets, O.tj]

/-- Objects that a power-on reset keeps: the fuses. -/
def powerKeeps : List Nat := [O.rollbackCount, O.fwRollbackCount, O.topUsed, O.debugPolicy]

/-- The part as a reset leaves it: everything cleared but fuses, the flash, the devices attached, and what the model itself counts. -/
def cleared (keeps : List Nat) (s : State) : State :=
  let r : State := { State.reset with
    boot := { Boot.fresh with flash := s.boot.flash, fitted := s.boot.fitted, jtag := s.boot.jtag, powered := s.boot.powered
                              tripped := s.boot.tripped }
    link := { Link.down with sent := s.link.sent }
    guard := { Guard.starting with rtcOff := s.guard.rtcOff }, freeCtr := s.freeCtr, pending := s.pending }
  let r := keeps.foldl (fun r k => r.setObj k (s.obj k)) r
  ((r.setBlob O.ownerKeyHash (s.blob O.ownerKeyHash)).setBlob O.dieId (s.blob O.dieId)).setObj O.vRunMv (s.obj O.vRunMv)

/-- A burn of the rollback fuses that a reset cuts leaves each counter at a count between the two (19 R618; log entry 12). -/
def cutBurn (s : State) : State :=
  match s.boot.burning, s.boot.image with
  | true, some i =>
    let (w, s) := s.free
    let (x, s) := s.free
    let a := s.nat O.rollbackCount
    let b := s.nat O.fwRollbackCount
    (s.setObj O.rollbackCount (a + w.toNat % (max a i.security - a + 1) : Nat)).setObj O.fwRollbackCount
      (b + x.toNat % (max b i.fwSecurity - b + 1) : Nat)
  | _, _ => s

/-- The slot that the host writes: the one that did not boot, and in recovery the one that is not preferred (log entry 38). -/
def hostSlot (s : State) : Nat := if s.boot.slot < 2 then 1 - s.boot.slot else 1 - s.boot.flash.control.preferred

/-- The slot that the host writes, changed. -/
def onHostSlot (f : List Host.Cell → List Host.Cell) (s : State) : State :=
  s.onFlash fun x => x.setSlot (hostSlot s) (f (x.slot (hostSlot s)))

/-- An erase that a reset cuts has cleared the leading sectors of its slot, a program the leading bytes of its data, both a free number of
them (19 R604; log entry 38). -/
def cutFlash (s : State) : State :=
  match s.boot.update with
  | some .erase => let (w, s) := s.free; onHostSlot (fun m => memClear m 0 (w.toNat % (slotSize / 65536 + 1) * 65536)) s
  | some (.program o b) => let (w, s) := s.free; onHostSlot (fun m => programBytes m o (b.take (w.toNat % (b.length + 1)))) s
  | _ => s

/-- A program operation ends: its bytes are in the slot, and IMG_OFFSET advances by their number (19 R619). -/
def endProgram (o : Nat) (b : Bytes) (s : State) : State :=
  let s := onHostSlot (fun m => programBytes m o b) s
  s.change O.imgOffset (s.nat O.imgOffset + b.length : Nat)

/-- What the device forgets with its supplies, in power-on reset until they are in range (20 R632, R633). -/
def powerLost (s : State) : State :=
  let s := cleared powerKeeps (cutFlash (cutBurn s))
  (s.onBoot fun b => { b with powered := false, jtag := ⟨1, 0, 0, none⟩ }).onGuard fun g => { g with rtcOff := true }

/-! ## The dictionary at boot (05 R157, R158; 19 R607 step 5) -/

/-- Whether an entry names an RW or RWE object and its value passes 05 R153; sub 00 of an index is a CONST object (05 R150). -/
def entryReason (e : Nat × Bytes) : Reason :=
  if !indexDefined (e.1 / 256) then .noObject
  else if e.1 % 256 == 0 then .readOnly
  else match rowOf e.1 with
    | none => .noSub
    | some r => match r.acc with
      | .ro | .const => .readOnly
      | .wo => .writeOnly
      | .rw | .rwe => firstReason [lengthTest r e.2.length, valueTest r (decodeVal r.type e.2)]

/-- An entry becomes an image value and the current value; a rejected one is counted, the first in IMAGE_FIRST_REJECT. -/
def applyEntry (s : State) (e : Nat × Bytes) : State :=
  match entryReason e, rowOf e.1 with
  | .ok, some r =>
    let s := s.bump O.imageEntriesApplied 1
    match decodeVal r.type e.2 with
    | .num v => { s.setObj e.1 v with image := Store.putD (factory e.1) s.image e.1 v }
    | .bytes b => { s.setBlob e.1 b with imageBlobs := Store.putD (blobFactory e.1) s.imageBlobs e.1 b }
  | r, _ =>
    let s := if s.obj O.imageEntriesRejected == 0 then
      s.setBlob O.imageFirstReject (leBytes 2 (e.1 / 256) ++ leBytes 1 (e.1 % 256) ++ leBytes 1 0 ++ leBytes 2 r.code ++ leBytes 2 0) else s
    s.bump O.imageEntriesRejected 1

/-- An arbiter table of the image is the BACK of the arbiters that the image selects. -/
def takeArb (mc : Bool) (s : State) : State :=
  let b := s.blob (if mc then O.mcArbTable else O.arbTable)
  if b = arbFactory then s
  else (selectedArbs mc s).foldl (fun s k => s.onArb mc k fun a => { a with back := b, written := true }) s

/-- What the current values put into force at a boot: the regulator's transition rate (18 R589), the air epoch, bonds and vector lengths, arbiter tables, and the taps of every chain;
each enable that reads 1 is PENDING. -/
def takeValues (s : State) : State :=
  let s := (takeArb true (takeArb false s)).onRail fun r => { r with slew := s.nat O.avsSlew }
  let s := { s with clock := { s.clock with epoch := countOf (s.nat O.airEpoch) } }
  let s := (List.range 100).foldl (fun s n => setVls n (s.setObj (O.bondState n) (s.obj (O.bondMode n)))) s
  let s := (List.range 128).foldl (fun s c =>
    if s.blob (O.rxTaps c) = CoefPath.factory.front && s.blob (O.txTaps c) = CoefPath.factory.front then s
    else s.onChain c fun d => { d with rx := { d.rx with front := s.blob (O.rxTaps c) }, tx := { d.tx with front := s.blob (O.txTaps c) } }) s
  let s := squelch 0 (squelch 1 s)
  let on := enableKeys.filter fun k => s.obj k == 1
  let s := on.foldl (fun s k => s.setObj k stPending) s
  { s with svc := { s.svc with atBoot := on, asked := on } }

/-! ## Slots (19 R607 steps 3 and 4, R611, R612, R616) -/

/-- The object that shows a slot's version. -/
def versionKey (k : Nat) : Nat := if k == 0 then O.slotAVersion else O.slotBVersion

/-- The ROM judges a slot: BOOT_REASON records the reason, and a slot that passes shows its version. -/
def trySlot (k : Nat) (s : State) : Bool × State :=
  let r := judgeImage s (s.boot.flash.slot k)
  let s := s.setObj O.bootReason r.code
  if r = .ok then (true, s.setObj (versionKey k) (slotNum (s.boot.flash.slot k) 12 4)) else (false, s)

/-- The slot that boots, if either passes: the ROM moves an armed trial to TRYING and one that was never confirmed to FAILED, and a trial
slot that fails falls back to the preferred slot. -/
def chooseSlot (s : State) : Option Nat × State :=
  let c := s.boot.flash.control
  let trial := c.trial == 1
  let s := if trial then s.onFlash fun f => f.writeControl c.preferred 2
    else if c.trial == 2 then s.onFlash fun f => f.writeControl c.preferred 3 else s.onFlash id
  let first := if trial then 1 - c.preferred else c.preferred
  match trySlot first s with
  | (true, s) => (some first, s)
  | (false, s) =>
    let s := if trial then s.onFlash fun f => f.writeControl c.preferred 3 else s
    match trySlot (1 - first) s with
    | (true, s) => (some (1 - first), s)
    | (false, s) => (none, s)

/-! ## Memory and tiles at boot (15 R498 to R508; 19 R607 steps 6 and 7, R614) -/

/-- The pallets of a channel (15 R500): 64 KiB each of the pair's capacity, or of 8/9 of it with ECC. -/
def palletsOf (gbit : Nat) (ecc : Bool) : Nat := if ecc then gbit * 4096 * 8 / 9 else gbit * 4096

/-- A channel is trained: in service with a pair of 32 or 64 Gbit devices, and otherwise ABSENT. -/
def trainChannel (s : State) (c : Nat) : State :=
  let g := s.boot.fitted.getD c 0
  if g == 32 || g == 64 then
    ((s.setObj (O.chState c) 2).setObj (O.chDensity c) g).setObj (O.chPallets c) (palletsOf g (s.obj O.eccActive == 1) : Nat)
  else s.setObj (O.chState c) 0

/-- The channels of the journal: those that the objects name where they differ and are in service, otherwise the factory's for the offending
objects, or the lowest-numbered in service (15 R508). -/
def journalChannels (s : State) : List Nat :=
  let pick := fun (l : List Nat) (want fact : Nat) =>
    let ok := fun (c : Nat) => decide (c < 16) && s.chanServes c && !l.contains c
    if ok want then l ++ [want]
    else if ok fact then l ++ [fact]
    else match (List.range 16).find? ok with
      | some c => l ++ [c]
      | none => l
  pick (pick (pick [] (s.nat O.journalChanA) 0) (s.nat O.journalChanB) 8) (s.nat O.journalStandby) 4

/-- MEMORY: the channels are trained, and the regions laid out around the pages that are listed (15 R501, R523). -/
def bootMemory (s : State) : State :=
  let s := s.setObj O.eccActive (s.obj O.eccEnable)
  let s := (List.range 16).foldl trainChannel s
  let total := sumOver 16 fun c => if s.chanServes c then s.nat (O.chDensity c) * 256 else 0
  let s := s.setObj O.gddr7Mib total
  let j := journalChannels s
  let s := { s with integ := { s.integ with copies := j.take 2, standby := j[2]? } }
  let s := s.setObj O.journalCopies (j.take 2).length
  let pages := (listedPages s (s.blob O.retiredPages) (s.blob O.retiredBanks)).filter (pageOk s)
  (pages.foldl retirePage s).setObj O.memRegime 0

/-- LOADING: the image copy is stored where its pallets remain, and every tile in service and every spare is loaded. -/
def bootLoad (i : SiteImage) (s : State) : State :=
  let need := ceilDiv (i.length + hssLength) 65536
  let s := s.onBoot fun b => { b with copy := if s.dataNeeded + need ≤ s.dataPallets then need else 0 }
  ((List.range 200).filter fun t => s.obj (O.pairRole (t / 2)) != 2).foldl (fun s t => loadTile t s) s

/-! ## Identity at boot (19 R623, R625) -/

/-- A fresh DEBUG_NONCE. -/
def freshNonce (s : State) : State := let (b, s) := s.freeBytes 32; s.setBlob O.debugNonce b

/-- The bottom tree in use, if any. -/
def treeOf (s : State) : Option Nat := if s.nat O.topUsed == 0 then none else some (s.nat O.topUsed - 1)

/-- The windows of a tree that the log records. -/
def windowsOf (s : State) (tree : Nat) : List Nat := (s.boot.flash.log.filter (·.tree == tree)).map (·.window)

/-- The next bottom leaf after a cold reset: the start of the window after the last record. -/
def nextLeaf (s : State) : Nat :=
  match treeOf s with
  | some t => match (windowsOf s t).getLast? with
    | some w => (w + 1) * 256
    | none => 0
  | none => 0

/-- The grants that the policy gives at a cold reset. -/
def policyGrants (s : State) : Int := if s.obj O.debugPolicy == 0 then 7 else 0

/-! ## Cold reset and boot (19 R603 to R608) -/

/-- Both UCIe modules are trained. -/
def trainModules (s : State) : State := setModule 1 ⟨true, none⟩ (setModule 0 ⟨true, none⟩ s)

/-- The boot up to READY: to LOADING with an image, and to RECOVERY with none. -/
def bootTo (cause : Nat) (s : State) : State :=
  let s := s.setObj O.resetCause cause
  let s := setBootState 0 s
  let s := s.onRail fun r => { r with mv := s.nat O.vRunMv }
  let s := freshNonce (s.setObj O.debugGrants (policyGrants s))
  let s := s.onBoot fun b => { b with leaf := nextLeaf s }
  let s := setBootState 1 s
  match chooseSlot s with
  | (some k, s) =>
    let i := siteImage (s.boot.flash.slot k)
    let s := s.onBoot fun b => { b with slot := k, image := some i }
    let s := ((s.setObj O.imageSlot k).setObj O.imageVersion i.version).setObj O.fwVersion i.fwVersion
    let s := { s with sched := { s.sched with progs := i.programs } }
    let s := takeValues (i.entries.foldl applyEntry s)
    setBootState 3 (bootLoad i (bootMemory (setBootState 2 (s.setObj O.memRegime 2))))
  | (none, s) =>
    let s := ((s.setObj O.imageSlot 2).setObj O.imageVersion 0).setObj O.fwVersion (s.obj O.romVersion)
    bootChecks (setBootState 5 (trainModules (takeValues s)))

/-- The end of the boot, once the RTC oscillator runs (20 R636): both modules are trained, BOOT_STATE reads READY and the enables are checked.
BOOT_MS is a free value, at most 3,000 without a full memory test (log entry 12). -/
def bootReady (s : State) : State :=
  if s.obj O.bootState != 3 || s.guard.rtcOff then s
  else
    let (w, s) := (trainModules s).free
    let s := s.setObj O.bootMs (if s.obj O.bootMemtest == 2 then w.toNat % 2 ^ 32 else w.toNat % 3001 : Nat)
    bootChecks (setBootState 4 s)

/-- GDDR7 content, which only a reset by RESET_CMD keeps, with the words of it that read uncorrectable (19 Table 19-1). -/
def keepGddr7 (old s : State) : State :=
  let kept := fun (a : Nat) => decide (0x100000000000 ≤ a)
  { s with mem := old.mem.filter fun c => kept c.1, integ := { s.integ with poison := old.integ.poison.filter kept } }

/-- A cold reset and the boot that follows (19 R603, R607). -/
def coldReset (cause : Nat) (s : State) : State :=
  let r := cleared coldKeeps (cutFlash (cutBurn s))
  bootReady (bootTo cause ((if cause == 2 then keepGddr7 s r else r).bump O.coldResets 1))

/-- The supplies come into range: a power-on reset, in which the RTC oscillator has still to start, and THERMTRIP_N is let go (20 R632, R641). -/
def powerOn (s : State) : State :=
  bootReady (bootTo 0 ((powerLost s).onBoot fun b => { b with powered := true, tripped := false }))

/-! ## Warm reset (04 R141; 06 R207; 15 R511, R512; 19 R604, R606, R646) -/

/-- The records of an uplink course whose samples have all been received. -/
def receivedRecs (s : State) (key : Nat) (c : Course) : List Nat :=
  let g := c.site key
  (c.recs.filter fun r =>
    let l := recSymbols (s.std g.n) (s.mu g.n) g.desc r
    l != 0 && Nat.land l c.sent == l).map (·.id)

/-- Whether the work of a restored course can still be done: an operation other than out that would run again has not passed its LS (04 R141). -/
def rerunAllows (s : State) (nodes : List Node) (sel : OpId → Bool) : Bool :=
  let lfs := deadlines nodes
  nodes.any fun x => sel x.id && x.id.kind != .out && decide (s.airNow ≤ Store.at 0 lfs x.id.key - x.est)

/-- The uncommitted versions that a course has made are discarded (06 R214). -/
def discardVersions (key : Nat) (s : State) : State :=
  let mine := s.pipe.ues.flatMap fun u => u.2.procs.filterMap fun p => match p.2.pending with
    | some (k, _, _) => if k == key then some (u.1, p.1) else none
    | none => none
  mine.foldl (fun s x => (s.onHarq x.1 x.2 fun h => { h with pending := none }).bump O.harqDiscards 1) s

/-- A course that the journal restores: its work runs again at its current generation, but for downlink symbols already sent, and for uplink
records whose samples were all received. A downlink course that has left has no work left. -/
def restoreCourse (s : State) (key : Nat) : State :=
  match s.course key with
  | none => s
  | some c =>
    let site := c.site key
    let dl := dirOf (key % 2 ^ 32) == 0
    let gone := if dl then [] else receivedRecs s key c
    let nodes := graphOf s site
    let past := c.state == .ended || c.state == .closed || (dl && c.state == .finishing)
    let sel := fun (o : OpId) =>
      if dl then !(decide (o.sym < 14) && bitOf c.sent o.sym) else o.recId == 0 || !gone.contains o.recId
    let again := !past && rerunAllows s nodes fun o => sel o && (dl || o.recId != 0)
    let s := s.onCourse key fun c =>
      { c with rerun := c.rerun || again, results := if dl then c.results else [], sent := if dl then c.sent else 0
               unsent := if dl then c.unsent else Nat.lor c.unsent c.sent, rx := [], got := [] }
    let s := discardVersions key (if gone.isEmpty then s else causeAt key 1 gone s)
    if past then s else issueGraph (site.n + 1) (key % 2 ^ 32) c.gen nodes sel s

/-- The courses that the journal holds: accepted, of a session that is open, with no outcome in it. -/
def restoreCourses (s : State) : State :=
  let s := { s with pipe := { s.pipe with courses := s.pipe.courses.filter fun (c : Nat × Course) => !(c.2.live && c.2.noOutcome), cache := [] } }
  resettle (((s.pipe.courses.filter fun (c : Nat × Course) => c.2.live).map fun (c : Nat × Course) => c.1).foldl restoreCourse s)

/-- One write that the journal has been asked for completes before the channels enter self-refresh (15 R511). -/
def finishWrite (s : State) (w : JournalWrite) : State :=
  if mayWrite s w then
    match w with
    | .verdict chan v => verdictWritten chan v s
    | .outcome chan course => outcomeWritten chan course s
  else s

/-- The journal's writes complete, and the session is SUSPENDED with cause 2. -/
def quiesceJournal (s : State) : State :=
  let s := suspendSession 2 s
  let l := s.link.journal
  l.foldl finishWrite (s.onLink fun k => { k with journal := [] })

/-- Channel 0 (19 R646): the indications that wait are dropped and counted, an open write buffer is lost and counted, the read latch is
lost; transfers held stay held. -/
def quiesceChannel0 (s : State) : State :=
  let s := s.bump O.indicationsDropped s.link.waiting.length
  let s := s.onLink fun l => { l with waiting := [] }
  match s.svc.buffer with
  | some b => { s.bump O.abortedTransfers 1 with
      svc := { s.svc with latch := none, buffer := none, discarded := some ⟨b.key, b.op, b.data.length, s.clock.ticks⟩ } }
  | none => { s with svc := { s.svc with latch := none } }

/-- A flash program in progress completes, IMG_OFFSET included; an erase or a verify is cut (19 R604; log entry 38). -/
def quiesceFlash (s : State) : State :=
  let s := match s.boot.update with
    | some (.program o b) => endProgram o b s
    | _ => cutFlash s
  ((cutBurn s).onBoot fun b => { b with update := none, burning := false, signing := false }).setObj O.updateState 0
    |> fun s => s.setObj O.rollbackState 0

/-- What a warm reset clears (19 Table 19-1): the pallet store, tile memories, engines, the fabric and the fronthaul's state. -/
def clearUnits (s : State) : State :=
  let s := { s with
    sched := { Sched.idle with progs := s.sched.progs, nextTag := s.sched.nextTag, trace := s.sched.trace }
    kiln := ⟨[], [], []⟩, tiles := [], hod := ⟨[], [], [], [], []⟩
    mortar := { s.mortar with reqs := [], queued := [], seen := [], flits := [], told := [], flying := [], outputs := [], arrived := [] }
    fh := { Fronthaul.idle with badLanes := s.fh.badLanes }
    integ := { s.integ with edc := [], toZero := [] }
    units := { s.units with cores := 0xF }
    guard := { s.guard with lost := s.guard.lost.filter (· / 4096 != 12) }
    mem := memClear (memClear s.mem (palletAddr 0) 0x18000000) (tileAddr 0) (200 * 0x100000) }
  let s := s.setObj O.hodHaltedMap 0
  ((List.range 200).filter fun t => s.obj (O.pairRole (t / 2)) != 2).foldl (fun s t => showTile t (loadTile t s)) s

/-- A restored enable (05 R179; 19 R606 step 3): ON stays; one that was STOPPING or PENDING is judged as though its shut-down completed now.
WATCH is not restored. -/
def restoreEnable (s : State) (key : Nat) : State :=
  if key == O.watchEnable then ((s.unlist key).setObj O.watchEnable stOff).setObj O.watchState 0
  else if (s.obj key == stStopping || s.obj key == stPending) && s.shutRuns key then
    let n := (key - O.carrierEnable 0) / 0x2000
    let p := (key - O.portEnable 0) / 0x4000
    let s := if key == O.nlEnable then shutDone key (nlRelease s)
      else if key == O.servoEnable then servoStopped s
      else if O.carrierEnable 0 ≤ key && key < O.portEnable 0 then shutDone key (carrierOff n s)
      else if O.portEnable 0 ≤ key && key < O.partEnable 0 then shutDone key (portOff p s)
      else shutDone key s
    deferredCheck key s
  else if s.obj key == stPending then (rulesOf key).resolve 1 s
  else s

/-- The ports whose enable reads ON bring their links up anew. -/
def restartPorts (s : State) : State :=
  (List.range 24).foldl (fun s p =>
    if s.holds (O.portEnable p) then bringUp p (linkLost p (s.setObj (O.portLinkState p) 0)) else s) s

/-- The domains that the restored votes name read RUN with their pads driven, and nothing is in transition; VDD_CORE is at V_RUN_MV (log entry 37). -/
def restartPower (s : State) : State :=
  let s := { s with power := { Power.idle with rail := ⟨s.nat O.vRunMv, none, none, false, s.power.rail.slew⟩, pads := s.power.pads } }
  let s := (List.range 32).foldl (fun s d =>
    if domainTargetOf s d == 0 || decide (4 ≤ s.obj (O.domainState d)) then s.setObj (O.domainState d) 0 else s) s
  (List.range 32).foldl (fun s d => if s.runs d then driveWithRun d s else s) s

/-- The channels that were in service leave self-refresh; a rebuild of the mirror starts again; the regime is RECOVERY until a scrub pass has
ended (15 R512, R517). -/
def restartMemory (s : State) : State :=
  let s := (List.range 16).foldl (fun s c =>
    if s.obj (O.chState c) == 1 || s.obj (O.chState c) == 3 then s.setObj (O.chState c) 2 else s) s
  let s := if s.integ.mirror then s.setObj O.journalRebuild 0 else s
  { s.setObj O.memRegime 3 with integ := { s.integ with afterWarm := true, scrubbed := [] } }

/-- A warm reset of a part that has read READY: every pad of Table 18-4 is latched as it begins, and released as its domain drives it again. -/
def warmFrom (cause : Nat) (s : State) : State :=
  let s := (List.range 32).foldl (fun s d => latchPads d s) ((s.bump O.warmResets 1).setObj O.resetCause cause)
  let s := quiesceJournal (quiesceFlash (quiesceChannel0 s))
  let s := { s with nl := { s.nl with current := none, frozen := false, work := [], unused := [] } }
  let s := if s.obj O.nlState == 2 || s.obj O.nlState == 3 then s.setObj O.nlState 1 else s
  let s := setBootState 3 s
  let s := restartMemory (restartPorts (clearUnits s))
  let s := enableKeys.foldl restoreEnable s
  setBootState 4 (restoreCourses (restartPower (trainModules s)))

/-- A warm reset, which before the first READY becomes a cold reset (19 R604). -/
def warmReset (cause : Nat) (s : State) : State := if s.obj O.bootState == 4 then warmFrom cause s else coldReset 6 s

/-! ## Update (19 R619, R620) -/

/-- A background operation begins. -/
def startUpdate (u : Update) (s : State) : State :=
  let s := (s.onBoot fun b => { b with update := some u }).setObj O.updateState 1
  match u with
  | .verify => s
  | _ => (s.setObj O.updateReason Reason.imageFormat.code).setObj (versionKey (hostSlot s)) 0

/-- A write of 1 to IMG_ERASE. -/
def actImgErase : Action := fun s => if s.boot.update.isSome then (.locked, s) else (.ok, startUpdate .erase s)

/-- IMG_ERASE. -/
def execImgErase (x : Xfer) (s : State) : Host.Outcome State Fault Refusal :=
  .next (hostWrite x O.imgErase (.num 1) actImgErase s)

/-- A write of IMG_DATA. Data past the end of the slot is out of range (log entry 38). -/
def actImgData (data : Bytes) : Action := fun s =>
  let o := s.nat O.imgOffset
  if s.boot.update.isSome then (.locked, s)
  else if slotSize < o + data.length then (.valueRange, s)
  else (.ok, startUpdate (.program o data) s)

/-- IMG_DATA. -/
def execImgData (x : Xfer) (data : Bytes) (s : State) : Host.Outcome State Fault Refusal :=
  .next (hostWrite x O.imgData (.bytes data) (actImgData data) s)

/-- A write of 1 to IMG_VERIFY. -/
def actImgVerify : Action := fun s => if s.boot.update.isSome then (.locked, s) else (.ok, startUpdate .verify s)

/-- IMG_VERIFY. -/
def execImgVerify (x : Xfer) (s : State) : Host.Outcome State Fault Refusal :=
  .next (hostWrite x O.imgVerify (.num 1) actImgVerify s)

/-- What a background operation does when it ends. -/
def endUpdate (u : Update) (s : State) : State :=
  let k := hostSlot s
  let s := (s.onBoot fun b => { b with update := none }).setObj O.updateState 0
  match u with
  | .erase => onHostSlot (fun _ => []) s
  | .program o b => endProgram o b s
  | .verify =>
    let r := judgeImage s (s.boot.flash.slot k)
    (s.setObj O.updateReason r.code).setObj (versionKey k) (if r = .ok then slotNum (s.boot.flash.slot k) 12 4 else 0 : Nat)

/-- UPDATE_OPERATION_COMPLETE. -/
def execUpdateOperationComplete (s : State) : Host.Outcome State Fault Refusal :=
  match s.boot.update with
  | some u => .next (endUpdate u s)
  | none => .next s

/-- The reason in UPDATE_REASON. -/
def updateReasonOf (s : State) : Reason :=
  if s.nat O.updateReason == 0 then .ok
  else if s.nat O.updateReason == Reason.signature.code then .signature
  else if s.nat O.updateReason == Reason.rollbackCounter.code then .rollbackCounter else .imageFormat

/-- A write of 1 to IMG_ACTIVATE. -/
def actImgActivate : Action := fun s =>
  if updateReasonOf s = .ok then (.ok, s.onFlash fun f => f.writeControl f.control.preferred 1) else (updateReasonOf s, s)

/-- IMG_ACTIVATE. -/
def execImgActivate (x : Xfer) (s : State) : Host.Outcome State Fault Refusal :=
  .next (hostWrite x O.imgActivate (.num 1) actImgActivate s)

/-- A write of 1 to IMG_CONFIRM. -/
def actImgConfirm : Action := fun s =>
  (.ok, if s.boot.flash.control.trial == 2 && decide (s.boot.slot < 2) then s.onFlash fun f => f.writeControl s.boot.slot 0 else s)

/-- IMG_CONFIRM. -/
def execImgConfirm (x : Xfer) (s : State) : Host.Outcome State Fault Refusal :=
  .next (hostWrite x O.imgConfirm (.num 1) actImgConfirm s)

/-! ## Anti-rollback (19 R618) -/

/-- A write of 1 to ROLLBACK_COMMIT; in recovery no image runs and there is nothing to burn. -/
def actRollbackCommit : Action := fun s =>
  if s.obj O.trialState == 2 || s.boot.burning then (.locked, s)
  else (.ok, (s.onBoot fun b => { b with burning := true }).setObj O.rollbackState 1)

/-- ROLLBACK_COMMIT. -/
def execRollbackCommit (x : Xfer) (s : State) : Host.Outcome State Fault Refusal :=
  .next (hostWrite x O.rollbackCommit (.num 1) actRollbackCommit s)

/-- ROLLBACK_BURN_COMPLETE: each counter equals the running security version, never lower than it was. -/
def execRollbackBurnComplete (s : State) : Host.Outcome State Fault Refusal :=
  if s.boot.burning then
    let s := (s.onBoot fun b => { b with burning := false }).setObj O.rollbackState 0
    .next (match s.boot.image with
      | some i => (s.setObj O.rollbackCount (max (s.nat O.rollbackCount) i.security)).setObj O.fwRollbackCount
          (max (s.nat O.fwRollbackCount) i.fwSecurity)
      | none => s)
  else .next s

/-! ## Attestation (19 R622 to R624) -/

/-- Whether the next signature needs a new tree. -/
def needsTree (s : State) : Bool :=
  match treeOf s with
  | none => true
  | some t => (windowsOf s t).isEmpty || decide (32768 ≤ s.boot.leaf)

/-- The bytes of the log. -/
def logBytes (l : List LeafRecord) : Nat := (l.map fun r => if r.advance then 32 else 16).sum

/-- The log without the oldest 64 KiB. -/
def dropSector : Nat → List LeafRecord → List LeafRecord
  | _, [] => []
  | n, r :: t => if n = 0 then r :: t else dropSector (n - (if r.advance then 32 else 16)) t

/-- A record is appended; when the log of 256 KiB is full its oldest sector is erased. -/
def appendLeaf (r : LeafRecord) (s : State) : State :=
  s.onBoot fun b =>
    let l := if 262144 < logBytes (b.flash.log ++ [r]) then dropSector 65536 b.flash.log else b.flash.log
    { b with flash := { b.flash with log := l ++ [r] } }

/-- The next TOP fuse is burnt and its tree begins. -/
def advanceTree (s : State) : State :=
  let s := s.setObj O.topUsed (s.nat O.topUsed + 1 : Nat)
  (appendLeaf ⟨s.nat O.topUsed - 1, 0, true⟩ s).onBoot fun b => { b with leaf := 0 }

/-- The leaf of the next signature is reserved: before the first in a window its record is appended. -/
def reserveLeaf (s : State) : State :=
  let s := if needsTree s then advanceTree s else s
  if s.boot.leaf % 256 == 0 then appendLeaf ⟨s.nat O.topUsed - 1, s.boot.leaf / 256, false⟩ s else s

/-- A write of 1 to ATTEST_REQUEST. -/
def actAttestRequest : Action := fun s =>
  if needsTree s && decide (256 ≤ s.nat O.topUsed) then (.leavesExhausted, s)
  else (.ok, (s.onBoot fun b => { b with signing := true }).setBlob O.attestReport [])

/-- ATTEST_REQUEST. -/
def execAttestRequest (x : Xfer) (s : State) : Host.Outcome State Fault Refusal :=
  .next (hostWrite x O.attestRequest (.num 1) actAttestRequest s)

/-- The 160 bytes of a report (19 Table 19-7). -/
def reportBytes (s : State) : Bytes :=
  let slot := s.boot.flash.slot s.boot.slot
  let security := (s.boot.image.map (·.security)).getD 0
  let fwSecurity := (s.boot.image.map (·.fwSecurity)).getD 0
  let digest := if s.boot.image.isSome then sha (slotBytes slot 0 (signedLength slot)) else List.replicate 32 0
  leBytes 1 1 ++ leBytes 1 (s.nat O.debugPolicy % 4 + 4 * (s.nat O.debugGrants % 8)) ++ leBytes 1 (s.nat O.imageSlot)
    ++ leBytes 1 (s.nat O.trialState) ++ leBytes 4 (s.nat O.imageVersion) ++ leBytes 4 (s.nat O.fwVersion) ++ leBytes 2 security
    ++ leBytes 2 (s.nat O.rollbackCount) ++ leBytes 2 fwSecurity ++ leBytes 2 (s.nat O.fwRollbackCount) ++ leBytes 12 0
    ++ fixLen 16 (s.blob O.dieId) ++ fixLen 32 (s.blob O.attestNonce) ++ digest ++ fixLen 32 (s.blob O.ownerKeyHash)
    ++ leBytes 16 (stimeOf s.clock.count)

/-- ATTEST_REPORT_READY: the leaf is reserved, and the report signed with it. -/
def execAttestReportReady (s : State) : Host.Outcome State Fault Refusal :=
  if s.boot.signing then
    let s := reserveLeaf s
    let r := reportBytes s
    let sig := fixLen hssLength (Config.hssSignature (s.nat O.topUsed - 1) s.boot.leaf r)
    .next ((s.setBlob O.attestReport (r ++ sig)).onBoot fun b => { b with signing := false, leaf := b.leaf + 1 })
  else .next s

/-! ## Debug policy (19 R625) -/

/-- A write of OWNER_PROGRAM. -/
def actOwnerProgram (hash : Bytes) : Action := fun s =>
  if s.obj O.debugPolicy == 1 || !(s.blob O.ownerKeyHash).all (· == 0) then (.locked, s)
  else
    let s := s.setBlob O.ownerKeyHash hash
    (.ok, if s.obj O.debugPolicy == 0 then (s.setObj O.debugPolicy 1).setObj O.debugGrants 0 else s)

/-- OWNER_PROGRAM. -/
def execOwnerProgram (x : Xfer) (hash : Bytes) (s : State) : Host.Outcome State Fault Refusal :=
  .next (hostWrite x O.ownerProgram (.bytes hash) (actOwnerProgram hash) s)

/-- Whether a token is good: its body, the nonce, the die and the signature under the owner key. -/
def tokenOk (s : State) (data : Bytes) : Bool :=
  bytesAt data 0 4 == 0x44474B54 && (data.drop 4).take 32 == s.blob O.debugNonce && (data.drop 36).take 16 == s.blob O.dieId
    && decide (bytesAt data 52 1 < 8) && ((data.drop 53).take 11).all (· == 0) &&
    match s.boot.image with
    | some i => Config.hssValid i.ownerKey (data.take 64) (data.drop 64)
    | none => false

/-- A write of DEBUG_TOKEN. -/
def actDebugToken (data : Bytes) : Action := fun s =>
  if s.obj O.debugPolicy == 2 || !tokenOk s data then (.debugDenied, s)
  else (.ok, freshNonce (if s.obj O.debugPolicy == 1 then s.setObj O.debugGrants (bytesAt data 52 1) else s))

/-- DEBUG_TOKEN. -/
def execDebugToken (x : Xfer) (data : Bytes) (s : State) : Host.Outcome State Fault Refusal :=
  .next (hostWrite x O.debugToken (.bytes data) (actDebugToken data) s)

/-- A write of 1 to DEBUG_CLOSE. -/
def actDebugClose : Action := fun s => (.ok, (s.setObj O.debugPolicy 2).setObj O.debugGrants 0)

/-- DEBUG_CLOSE. -/
def execDebugClose (x : Xfer) (s : State) : Host.Outcome State Fault Refusal :=
  .next (hostWrite x O.debugClose (.num 1) actDebugClose s)

/-! ## JTAG (19 R626; 20 R637) -/

/-- The state with the JTAG logic changed. -/
def State.onJtag (s : State) (f : Jtag → Jtag) : State := s.onBoot fun b => { b with jtag := f b.jtag }

/-- JTAG_BYPASS: the one-bit register captures 0. -/
def execJtagBypass (s : State) : Host.Outcome State Fault Refusal :=
  .next (s.onJtag fun j => { j with inst := 0, dr := 0, drives := none })

/-- IDCODE: the register captures JTAG_IDCODE. -/
def execIdcode (s : State) : Host.Outcome State Fault Refusal :=
  .next (s.onJtag fun j => { j with inst := 1, dr := s.nat O.jtagIdcode, drives := none })

/-- SAMPLE_PRELOAD: the boundary cells capture the pins, a free value, and are preloaded. -/
def execSamplePreload (preload : Nat) (s : State) : Host.Outcome State Fault Refusal :=
  let (w, s) := s.free
  .next (s.onJtag fun j => { j with inst := 2, dr := w.toNat, preload := preload, drives := none })

/-- EXTEST: only with grant 1 and while every carrier reads OFF. -/
def execExtest (cells : Nat) (s : State) : Host.Outcome State Fault Refusal :=
  if bitOf (s.nat O.debugGrants) 1 && s.noCarrier then
    let (w, s) := s.free
    .next (s.onJtag fun j => { j with inst := 3, dr := w.toNat, drives := some cells })
  else .next s

/-- JTAG_RESET: the logic resets to IDCODE, as IEEE 1149.1 has it; a shorter pulse is ignored. -/
def execJtagReset (lowNs : Nat) (s : State) : Host.Outcome State Fault Refusal :=
  .next (if 100 ≤ lowNs then s.onJtag fun _ => ⟨1, s.nat O.jtagIdcode, 0, none⟩ else s)

end Sys2Proof.Machine
end

