-- ==== Sys2Proof/Machine/Electrical.lean ====
section
/-! DEFINITION. Supplies and temperatures (20; 15 R499; 18 R585). -/

namespace Sys2Proof.Machine

/-- The lower tolerance of a rail (20 Table 20-4) in microvolts: VDD_CORE, VDD_PHY, VDDH_PHY, VDD_AON, VDDIO. -/
def railFloor (s : State) : Nat → Nat
  | 0 => s.power.rail.mv * 1000 - 25000
  | 1 => 727500
  | 2 => 1164000
  | 3 => 712500
  | _ => 1710000

/-- RAIL_UNDERVOLTAGE: a rail at `mv` millivolts for `lowNs` ns. Below its tolerance for more than 1 µs, or VDD_CORE below 0.66 V at once,
the part enters power-on reset and forgets all that its supplies keep (20 R633); with VDD_AON THERMTRIP_N is let go (R641). -/
def execRailUndervoltage (rail lowNs mv : Nat) (s : State) : Host.Outcome State Fault Refusal :=
  if 5 ≤ rail then .fault .noSuchUnit
  else if (mv * 1000 < railFloor s rail && 1000 < lowNs) || (rail = 0 && mv < 660) then .next
    ((powerLost s).onBoot fun b => { b with tripped := b.tripped && rail != 3 })
  else .next s

/-- THERMTRIP: the dedicated sensor, within 3 °C of 125 °C, has reached its threshold: the part enters power-on reset and THERMTRIP_N is low
until VDD_AON falls (20 R641). A junction below the band trips nothing. -/
def execThermtrip (tj : Int) (s : State) : Host.Outcome State Fault Refusal :=
  .next (if 1220 ≤ tj then (powerLost s).onBoot fun b => { b with tripped := true } else s)

/-- GDDR7_TEMPERATURE_READOUT: the reading of a channel that is there (15 R499). -/
def execGddr7TemperatureReadout (ch : Nat) (temp : Int) (s : State) : Host.Outcome State Fault Refusal :=
  if 16 ≤ ch then .fault .noSuchUnit
  else .next (if s.obj (O.chState ch) == 2 then s.setObj (O.chTemp ch) temp else s)

/-- TJ_CROSSES_HOST_CAP: TJ reads the hottest sensor; the host's votes count by it (18 R585, votesOf). -/
def execTjCrossesHostCap (tj : Int) (s : State) : Host.Outcome State Fault Refusal := .next (s.setObj O.tj tj)

end Sys2Proof.Machine
end

