-- ==== Sys2Proof/Machine/Injection.lean ====
section
/-! DEFINITION. Units retired by the host, and fault injection (17 R569, R574, R578). -/

namespace Sys2Proof.Machine

/-! ## One unit fault of a class (17 Table 17-4) -/

/-- The units of a class of Table 17-4, 0 for those that leave service only by fault (17 R574). -/
def unitsInClass : Nat → Nat
  | 0 => 100 | 1 => 68 | 2 => 34 | 3 => 34 | 4 => 17 | 5 => 24 | 6 => 128 | 8 => 24 | 11 => 24 | 12 => 4 | _ => 0

/-- Whether a unit of a class serves, or for a pair waits as a spare. -/
def unitServes (cls n : Nat) (s : State) : Bool :=
  match cls with
  | 0 => s.obj (O.pairRole n) != 2
  | 1 => kdClass.service s n
  | 2 => keClass.service s n
  | 3 => leClass.service s n
  | 4 => xeClass.service s n
  | 5 => bitOf (s.nat O.hodService) n
  | 6 => !(s.chain n).faulted
  | 8 => bitOf s.units.slices n
  | 11 => !bitOf s.fh.badLanes n
  | 12 => bitOf s.units.cores n
  | _ => false

/-- The class of engines of a class code 1 to 4. -/
def engineClassOf : Nat → EngineClass
  | 1 => kdClass | 2 => keClass | 3 => leClass | _ => xeClass

/-- An engine that does not serve and has not faulted is a spare. -/
def isSpare (cls n : Nat) (s : State) : Bool :=
  decide (1 ≤ cls) && decide (cls ≤ 4) && !(engineClassOf cls).service s n && !(engineClassOf cls).bad s n

/-- A spare engine that faults no longer counts. -/
def loseSpareEngine (e : EngineClass) (n : Nat) (s : State) : State :=
  spareGone e.spares ((e.setBad n true s).setObj e.spares (s.nat e.spares - 1 : Nat))

/-- A hod engine leaves HOD_SERVICE: its chains run again on other engines, and its class, which has no spare, has lost a unit (16 R540,
R541). -/
def hodLost (e cause : Nat) (s : State) : State :=
  let mine := s.hod.chains.filter fun (c : Nat × Chain) => c.1 / 16 == e
  let tiles := copiesOn s e
  let s := s.onHod fun h =>
    { h with chains := h.chains.filter fun (c : Nat × Chain) => c.1 / 16 != e, halting := Store.drop h.halting e
             halted := Store.drop h.halted e }
  let s := (s.setObj O.hodService (setBit (s.nat O.hodService) e false)).setObj O.hodHaltedMap (setBit (s.nat O.hodHaltedMap) e false)
  let s := mine.foldl (fun s (c : Nat × Chain) => abortChain e c.2 s) s
  unitLost (unitWord 5 e) 0 cause (tiles.foldl (fun s t => abandonCopies t s) s)

/-- The ports that use a lane. -/
def portsOfLane (s : State) (l : Nat) : List Nat := (List.range 24).filter fun p => s.holds (O.portEnable p) && (portLanes s p).contains l

/-- A fronthaul lane is out of service: the link of a port that uses it goes down, or does not come up (09 R301). -/
def laneFault (l : Nat) (s : State) : State :=
  let s := { s with fh := { s.fh with badLanes := setBit s.fh.badLanes l true } }
  (portsOfLane s l).foldl (fun s p => if s.linkUp p then portDown p s else bringUp p s) s

/-- A management core is out of service, and the others take over its work. -/
def coreFault (n cause : Nat) (s : State) : State :=
  let s := { s with units := { s.units with cores := setBit s.units.cores n false } }
  unitLost (unitWord 12 n) 0 cause s

/-- A unit that serves or is a spare faults, with the cause of Table 17-5; one that has faulted already stays as it is. -/
def failUnit (cls n cause : Nat) (s : State) : State :=
  if isSpare cls n s then loseSpareEngine (engineClassOf cls) n s
  else if !unitServes cls n s then s
  else match cls with
    | 0 => if s.obj (O.pairRole n) == 1 then loseSpare n s else tileFault (2 * n) cause s
    | 1 => kilnFault kdClass n cause s
    | 2 => kilnFault keClass n cause s
    | 3 => layerFault n cause s
    | 4 => xeClass.failed n cause s
    | 5 => hodLost n cause s
    | 6 => chainFault n cause s
    | 8 => sliceFault n cause s
    | 11 => unitLost (unitWord 11 n) 0 cause (laneFault n s)
    | _ => coreFault n cause s

/-! ## UNIT_RETIRE (17 R574) -/

/-- A write of a unit word to UNIT_RETIRE. -/
def actUnitRetire (v : Int) : Action := fun s =>
  let cls := v.toNat / 4096
  let n := v.toNat % 4096
  if unitsInClass cls ≤ n then (.valueRange, s) else (.ok, failUnit cls n 2 s)

/-- UNIT_RETIRE. -/
def execUnitRetire (x : Xfer) (v : Int) (s : State) : Host.Outcome State Fault Refusal :=
  .next (hostWrite x O.unitRetire (.num v) (actUnitRetire v) s)

/-! ## Injection (17 R578) -/

/-- Whether injection is allowed: grant 2 of the debug policy (19 Table 19-8). -/
def injAllowedOf (s : State) : Bool := bitOf (s.nat O.debugGrants) 2

/-- Whether INJ_UNIT names a unit of a kind (17 Table 17-8). -/
def injUnitOk (kind u : Nat) : Bool :=
  match kind with
  | 0 => decide (u / 4096 ≤ 8) && decide (u % 4096 < unitsInClass (u / 4096))
  | 1 => decide (u < 8 * 48)
  | 2 => decide (u < 16)
  | 3 => decide (u < 2)
  | 4 => decide (u < 24)
  | 5 => decide (u < 64)
  | 7 => u == 0
  | _ => decide (u < 128)

/-- Whether a class that has spares, or a chain's domain, has none left. -/
def noSpareLeft (cls n : Nat) (s : State) : Bool :=
  match cls with
  | 0 => s.obj O.tileSpares == 0
  | 6 => (freeChains s (chainDomain n)).isEmpty
  | _ => decide (cls ≤ 4) && s.obj (engineClassOf cls).spares == 0

/-- The injection is recorded where its unit was in service. -/
def noteInjected (kind u : Nat) (s : State) : State := s.onGuard fun g => { g with injected := g.injected ++ [(kind, u)] }

/-- What an injection does at once: kinds 0 to 4 fault a unit that is in service, kind 6 is seen by the gate of the chain, and the others wait
for their check. A sample of a chain without a carrier is one that no copy claims (17 R556). -/
def inject (kind u : Nat) (s : State) : State :=
  match kind with
  | 0 => if unitServes (u / 4096) (u % 4096) s then failUnit (u / 4096) (u % 4096) 1 (noteInjected 0 u s) else s
  | 1 => if s.nat (O.ringState (u / 48)) ≤ 2 && s.nat (O.faultStop (u / 48)) != u % 48 then linkFault (u / 48) (u % 48) false (noteInjected 1 u s)
    else s
  | 2 => if s.obj (O.chState u) != 0 && s.obj (O.chState u) != 4 then channelFails u (dropQueue u (noteInjected 2 u s)) else s
  | 3 => if (s.link.mod u).up then loseModule u (noteInjected 3 u s) else s
  | 4 => if bitOf s.fh.badLanes u then s else laneFault u (noteInjected 4 u s)
  | 6 => if s.gangCarrier u < 64 then detect 1 0 (s.gangCarrier u) u s else detect 2 2 u u s
  | _ => s.onGuard fun g => { g with synth := (g.synth ++ [(kind, u)]).eraseDups }

/-- A write of 1 to INJ_ARM. -/
def actInjArm : Action := fun s =>
  let kind := s.nat O.injKind
  let u := s.nat O.injUnit
  if !injAllowedOf s then (.debugDenied, s)
  else if !injUnitOk kind u then (.valueRange, s)
  else if kind = 0 && noSpareLeft (u / 4096) (u % 4096) s then (.unitFaulted, s)
  else (.ok, ((inject kind u s).bump O.injCount 1).setObj O.injStatus 1)

/-- INJ_ARM. -/
def execInjArm (x : Xfer) (s : State) : Host.Outcome State Fault Refusal := .next (hostWrite x O.injArm (.num 1) actInjArm s)

/-- A unit faulted by kind 0 passes its self-test and is a spare again, or serves where its class has no spares. -/
def restoreUnit (cls n : Nat) (s : State) : State :=
  let s := s.onGuard fun g => { g with lost := g.lost.filter (· != unitWord cls n) }
  match cls with
  | 0 =>
    let s := (((s.setObj (O.pairRole n) 1).setObj (O.servesFor n) 0xFF).setObj (O.tileState (2 * n)) 0).setObj (O.tileState (2 * n + 1)) 0
    s.setObj O.tileSpares (s.nat O.tileSpares + 2 : Nat)
  | 5 => s.setObj O.hodService (setBit (s.nat O.hodService) n true)
  | 6 => s.onChain n fun d => { d with faulted := false }
  | 8 => { s with units := { s.units with slices := setBit s.units.slices n true } }
  | _ =>
    let e := engineClassOf cls
    (e.setBad n false s).setObj e.spares (s.nat e.spares + 1 : Nat)

/-- A link faulted by kind 1 returns to its ring. -/
def restoreLink (ring stop : Nat) (s : State) : State :=
  if s.nat (O.faultStop ring) == stop then
    match Store.find s.units.second ring with
    | some g =>
      let s := { s with units := { s.units with second := Store.drop s.units.second ring } }
      let s := s.setObj (O.faultStop ring) g
      if s.obj (O.ringState ring) == 3 then s.setObj (O.ringState ring) 2 else s
    | none => ((s.setObj (O.ringState ring) 0).setObj (O.faultStop ring) 0xFF).onMortar fun m => { m with broken := Store.drop m.broken ring }
  else
    let s := { s with units := { s.units with second := Store.drop s.units.second ring } }
    if s.obj (O.ringState ring) == 3 then s.setObj (O.ringState ring) 2 else s

/-- What a restore of a kind does. -/
def restoreKind (kind u : Nat) (s : State) : State :=
  match kind with
  | 0 => restoreUnit (u / 4096) (u % 4096) s
  | 1 => restoreLink (u / 48) (u % 48) s
  | 2 => if s.obj (O.chState u) == 4 then s.setObj (O.chState u) 2 else s
  | 3 => retrainModule u s
  | _ =>
    let s := { s with fh := { s.fh with badLanes := setBit s.fh.badLanes u false } }
    (portsOfLane s u).foldl (fun s p => if s.linkUp p then s else bringUp p s) s

/-- A write of 1 to INJ_RESTORE: the unit that INJ_KIND and INJ_UNIT name. -/
def actInjRestore : Action := fun s =>
  let i := (s.nat O.injKind, s.nat O.injUnit)
  if s.guard.injected.contains i then
    (.ok, ((restoreKind i.1 i.2 s).onGuard fun g => { g with injected := g.injected.filter (· != i) }).setObj O.injStatus 2)
  else (.valueRange, s)

/-- INJ_RESTORE. -/
def execInjRestore (x : Xfer) (s : State) : Host.Outcome State Fault Refusal := .next (hostWrite x O.injRestore (.num 1) actInjRestore s)

end Sys2Proof.Machine
end

