-- ==== Sys2Proof/Machine/Live.lean ====
section
/-! DEFINITION. What a read of the current layer returns for the objects whose value follows from the rest of the state (log entry 4), the
entries that a read pops (05 R169), descriptors (05 R156), and the three layers (05 R160). -/

namespace Sys2Proof.Machine

/-! ## Numeric objects -/

/-- What a statistic or counter of events below the commands' level reads, in 0 to `top` (log entry 40). -/
def measuredUpTo (key top : Nat) (s : State) : Int := ((Config.measured key s.clock.ticks).toNat % (top + 1) : Nat)

/-- The pairs in service that a test selects. -/
def countPairs (s : State) (p : Nat → Bool) : Nat := ((List.range 100).filter fun n => s.obj (O.pairRole n) == 0 && p n).length

/-- Objects of the time base, air time and the link. -/
def liveBase (key : Nat) (s : State) : Option Int :=
  if key = O.tilesInService then some (2 * countPairs s fun _ => true : Nat)
  else if key = O.siteTime then some (stimeOf s.clock.count)
  else if key = O.legacyNs then some s.legacyNs
  else if key = O.airNow then some s.atsNow
  else if key = O.nextGap then some (nextGapNow s)
  else if 0x2080 ≤ key / 256 && key / 256 < 0x2098 && key % 256 == 3 then some (ptpState s (key / 256 - 0x2080))
  else if key = O.airState then some (if s.airRunning then 1 else 0)
  else if key = O.adapterRetries then some (s.link.retries % 2 ^ 64 : Nat)
  else if key = O.journalUsed then some s.journalUsed
  else none

/-- The objects of course channel `c` (04 Table 4-16). -/
def liveChannel (c sub : Nat) (s : State) : Option Int :=
  let ch := s.chan c
  match sub with
  | 1 => some ch.nextReq
  | 2 => some ch.nextOut
  | 3 => some ch.lastAcked
  | 4 => some ch.outcomes.length
  | 5 => some ch.hostCredits
  | 6 => some (deviceCredits s c)
  | _ => none

/-- Objects of the pipeline, the UE contexts and the kiln (06, 07). -/
def livePipe (key : Nat) (s : State) : Option Int :=
  let jobs := fun (cls fused : Nat) =>
    (s.sched.ops.filter fun e => e.2.cls == cls && e.2.onEngine).length
      + ((s.tiles.map fun (t : Nat × Ctx) =>
          (t.2.jobs.filter fun (j : Nat × FusedJob) => j.2.cls == fused && j.2.onEngine
            && !((Store.find s.kiln.jobs j.2.tag).map (·.susp)).getD false).length).sum)
  if key = O.softbufFree then some s.softFree
  else if key = O.cachePinned then some s.pinned.length
  else if key = O.ueState then some (s.ue (s.nat O.ueIndex)).state
  else if key = O.ueActiveCount then some (s.pipe.ues.filter fun (u : Nat × Ue) => u.2.state != 0).length
  else if key = O.kdBusy then some (jobs 1 0)
  else if key = O.keBusy then some (jobs 2 1)
  else if key = O.leBusy then some (jobs 3 2)
  else none

/-- Weight-bank objects of the selected entry (08 R297, Table 8-9). -/
def liveWb (sub : Nat) (s : State) : Option Int :=
  match sub, s.wbSel with
  | 2, _ => some s.wbFree
  | 4, some e => some e.owner
  | 5, some e => some e.ports
  | 6, some e => some e.layers
  | 7, some e => some e.subbands
  | 8, some e => some e.sbPrbs
  | 9, some e => some e.period
  | 11, some e => some (if e.deleting then 2 else 1)
  | 11, none => some 0
  | _, _ => none

/-- The estimate q of 13 R431 in ns. -/
def waitNs (s : State) (cls form : Nat) : Int :=
  match s.waiting cls form with
  | some q => max 0 (min (nsOf q) 0xFFFFFFFE)
  | none => 0xFFFFFFFF

/-- The READY operations that a test selects. -/
def readyCount (s : State) (p : Op → Bool) : Int := ((s.sched.ops.filter fun e => e.2.state == .ready && p e.2).length : Nat)

/-- The objects of partition `p` (13 Table 13-11). -/
def livePart (p sub : Nat) (s : State) : Option Int :=
  match sub with
  | 5 => some (s.slotsOf (s.partForm p)).length
  | 6 => some (if isLargest s p then 1 else 0)
  | 7 => some (readyCount s fun o => o.cls == 0 && o.list == p + 1)
  | 8 => some (waitNs s 0 (s.partForm p))
  | _ => none

/-- The objects of class `u` (13 Table 13-12). -/
def liveClass (u sub : Nat) (s : State) : Option Int :=
  match sub with
  | 1 => some (s.candidates u 0).length
  | 2 => some (readyCount s fun o => o.cls == u)
  | 3 => some (waitNs s u 0)
  | _ => none

/-- The pallet objects of carrier `n` (13 Table 13-14). -/
def liveQuota (n sub : Nat) (s : State) : Option Int :=
  match sub with
  | 1 => some (s.ownUsed n)
  | 2 => some (s.commonOf n)
  | 3 => some (s.sched.ops.filter fun e => e.2.chan == n + 1 && !e.2.over).length
  | _ => none

/-- Pallets of a GDDR7 channel that something holds: the journal's region, versions, transport blocks, weights and staged outputs (log entry
40). -/
def chanHeld (s : State) (c : Nat) : Nat :=
  (if s.integ.copies.contains c || s.integ.standby == some c then 4096 else 0) + s.softHeld c
    + (s.pipe.courses.map fun (k : Nat × Course) => (k.2.store.map fun (b : Nat × Nat) =>
        if b.2 / 2 ^ 20 == c then blockPallets (Store.at 0 k.2.blocks b.1) else 0).sum).sum
    + (s.wb.map fun (e : Nat × WbEntry) => if e.2.chan == c then e.2.pallets else 0).sum
    + (s.stagedOn c).length

/-- Objects of the fabric and the memories (14, 15). -/
def liveFabric (key : Nat) (s : State) : Option Int :=
  let i := key / 256
  let sub := key % 256
  if key = O.fabricState then some (if s.runs 31 then 0 else 1)
  else if 0x6410 ≤ i && i < 0x6418 then (if sub == 7 || sub == 8 then some (s.ringLoad (i - 0x6410) (sub == 8) : Nat) else none)
  else if key = O.meanHop then some ((s.meanHop.map fun (n : Nat) => (n : Int)).getD (measuredUpTo key 65535 s))
  else if key = O.loadBalance then some ((s.loadBalance.map fun (n : Nat) => (n : Int)).getD (measuredUpTo key 65535 s))
  else if key = O.deliveredGbps then some (s.deliveredGbps : Nat)
  else if key = O.headerCrcErrors then some (measuredUpTo key (2 ^ 32 - 1) s)
  else if key = O.dataPallets then some s.dataPallets
  else if key = O.channelMap then some (bitsOfList ((List.range 16).filter s.chanServes))
  else if 0x6810 ≤ i && i < 0x6820 then
    let c := i - 0x6810
    if sub == 4 then some (s.nat (O.chPallets c) - s.nat (O.chRetired c) - chanHeld s c : Nat)
    else if sub == 10 then some (measuredUpTo key 1000 s) else none
  else none

/-- ENGINE_STATE (16 Table 16-7). -/
def engineStateOf (s : State) (e : Nat) : Int :=
  if !s.runs 31 then 3 else if !bitOf (s.nat O.hodService) e then 2 else if bitOf (s.nat O.hodHaltedMap) e then 1 else 0

/-- Objects of power, the guard and security (17 to 19). -/
def livePower (key : Nat) (s : State) : Option Int :=
  let i := key / 256
  let sub := key % 256
  if key = O.railTargetMv then some (railTarget s)
  else if 0x7010 ≤ i && i < 0x7030 then
    (if sub == 4 then some (domainTargetOf s (i - 0x7010)) else if sub == 5 then some (pendingOf s (i - 0x7010)) else none)
  else if key = O.nextAlarm then some (nextAlarmOf s)
  else if key = O.faultMask then some s.faultMask
  else if key = O.injAllowed then some (if injAllowedOf s then 1 else 0)
  else if key = O.leafNext then some (if s.nat O.topUsed == 0 then 0 else (s.nat O.topUsed - 1) * 65536 + s.boot.leaf : Nat)
  else if key = O.leavesLeft then
    some ((256 - s.nat O.topUsed) * 32768 + (if s.nat O.topUsed == 0 then 0 else 32768 - s.boot.leaf) : Nat)
  else none

/-- The value of a numeric object that the rest of the state gives, if it is such an object. -/
def liveNum (key : Nat) (s : State) : Option Int :=
  let i := key / 256
  let sub := key % 256
  if i < 0x2800 || key = O.tilesInService || key = O.adapterRetries || key = O.journalUsed then liveBase key s
  else if 0x2841 ≤ i && i < 0x2881 then liveChannel (i - 0x2840) sub s
  else if 0x3800 ≤ i && i < 0x4100 then livePipe key s
  else if i = 0x4200 then liveWb sub s
  else if 0x5000 ≤ i && i < 0x5080 then
    (if sub == 0x10 then some (s.gdRx (i - 0x5000)) else if sub == 0x11 then some (s.gdTx (i - 0x5000))
     else if sub == 0x0F then some (s.chainUser (i - 0x5000)) else none)
  else if key = O.headerPairs then some (countPairs s fun n => s.obj (O.bondState n) == 2)
  else if key = O.stretcherPairs then some (countPairs s fun n => s.obj (O.bondState n) == 1)
  else if key = O.commonFree then some s.commonFree
  else if 0x6010 ≤ i && i < 0x6018 then livePart (i - 0x6010) sub s
  else if 0x6021 ≤ i && i < 0x6026 then liveClass (i - 0x6020) sub s
  else if 0x6040 ≤ i && i < 0x6080 then liveQuota (i - 0x6040) sub s
  else if 0x6400 ≤ i && i < 0x6C00 then liveFabric key s
  else if 0x6C10 ≤ i && i < 0x6C28 then (if sub == 1 then some (engineStateOf s (i - 0x6C10)) else none)
  else if 0x7000 ≤ i then livePower key s
  else none

/-! ## STR and BLOB objects -/

/-- UE_HARQ_STATE of the selected context (06 Table 6-20): the number is that of the version that the state names, and 0 of an EMPTY process (log entry
24). -/
def harqBlob (s : State) : Bytes :=
  let u := s.ue (s.nat O.ueIndex)
  (List.range 32).flatMap fun p =>
    let h := Store.at ⟨0, none, none⟩ u.procs p
    let st := match h.pending, h.committed with
      | some x, _ => (x.2.2.number, 2, x.2.2.places.length)
      | none, some v => (v.number, 1, v.places.length)
      | none, none => (0, 0, 0)
    leBytes 2 st.1 ++ leBytes 1 st.2.1 ++ leBytes 1 0 ++ leBytes 4 st.2.2

/-- The code of the state of a BACK. -/
def backCode : BackState → Nat
  | .copying => 0 | .opened => 1 | .committed => 2

/-- The stamp of a bank's from-boundary, 0 for none. -/
def bankStamp (b : Option Bank) : Nat :=
  match b with
  | some b => atsOf b.fromB
  | none => 0

/-- WB_BANKS (08 Table 8-9). -/
def wbBanksBlob (s : State) : Bytes :=
  match s.wbSel with
  | some e => leBytes 8 (bankStamp (e.bank .front)) ++ leBytes 8 (bankStamp (e.bank .next)) ++ leBytes 1 (backCode e.back)
      ++ leBytes 1 (if e.written then 1 else 0) ++ leBytes 6 0
  | none => leBytes 24 0

/-- WB_WEIGHTS: the selected subband of the BACK, weights that nothing wrote being zero. -/
def wbWeightsBlob (s : State) : Bytes :=
  match s.wbSel with
  | some e =>
    if s.nat O.wbSubband < e.subbands then
      fixLen (e.ports * e.layers * 4) (((e.bank .back).bind fun b => Store.find b.data (s.nat O.wbSubband)).getD [])
    else []
  | none => []

/-- COEF_BANKS (10 Table 10-7). -/
def coefBlob (s : State) (c : Nat) : Bytes :=
  let one := fun (x : CoefPath) => leBytes 1 (tapCount x.front) ++ leBytes 1 (backCode x.back) ++ leBytes 1 (if x.written then 1 else 0)
    ++ leBytes 1 (if x.fading then 1 else 0)
  one (s.chain c).tx ++ one (s.chain c).rx

/-- Whether the selection of an arbiter names several (14 R492). -/
def selectsMany (mc : Bool) (s : State) : Bool :=
  if mc then s.nat O.mcArbSelect == 0xFF
  else s.nat O.arbSelect / 65536 % 256 == 0xFF || s.nat O.arbSelect / 256 % 256 == 0xFF

/-- The arbiter that is selected. -/
def selectedArb (mc : Bool) (s : State) : Arb := s.arb mc ((selectedArbs mc s).headD 0)

/-- ARB_BANKS (14 Table 14-15): the next boundary tested is the first whose decision instant is still to come. -/
def arbBanksBlob (mc : Bool) (s : State) : Bytes :=
  let a := selectedArb mc s
  let period := s.nat (if mc then O.mcArbSwapPeriod else O.arbSwapPeriod)
  let next := if s.airRunning then
    atsOf (swapBoundary period (max (if mc then s.mortar.mcTested else s.mortar.arbTested) (s.airNow + arbLead - 1))) else 0
  leBytes 1 (bytesAt a.front 0 1) ++ leBytes 1 (if a.committed then 1 else 0) ++ leBytes 1 (if a.written then 1 else 0) ++ leBytes 5 0
    ++ leBytes 8 a.last ++ leBytes 8 next

/-- CHANNEL_STATE of engine `e` (16 Table 16-7): IDLE, ACTIVE, STOPPING, COMPLETING. -/
def channelStates (s : State) (e : Nat) : Bytes :=
  (List.range 16).flatMap fun k => leBytes 1 (match Store.find s.hod.chains (e * 16 + k) with
    | some c => if c.status.isSome then 3 else if chainStop s c then 2 else 1
    | none => if k == 15 && !(copiesOn s e).isEmpty then 1 else 0)

/-- The value of a STR or BLOB that the rest of the state gives, if it is such an object. -/
def liveBlob (key : Nat) (s : State) : Option Bytes :=
  let i := key / 256
  if key = O.ueContext then some (fixLen 64 (s.ue (s.nat O.ueIndex)).host)
  else if key = O.ueHarqState then some (harqBlob s)
  else if key = O.wbWeights then some (wbWeightsBlob s)
  else if key = O.wbBanks then some (wbBanksBlob s)
  else if 0x5080 ≤ i && i < 0x5100 && key % 256 == 5 then some (coefBlob s (i - 0x5080))
  else if key = O.pairServiceMap then some (leBytes 13 (bitsOfList ((List.range 100).filter fun n => s.obj (O.pairRole n) == 0)))
  else if key = O.pairSpareMap then some (leBytes 13 (bitsOfList ((List.range 100).filter fun n => s.obj (O.pairRole n) == 1)))
  else if key = O.arbTable then some (selectedArb false s).back
  else if key = O.mcArbTable then some (selectedArb true s).back
  else if key = O.arbBanks then some (arbBanksBlob false s)
  else if key = O.mcArbBanks then some (arbBanksBlob true s)
  else if key = O.bridgeState then some ((List.range 32).flatMap fun d => leBytes 1 (bridgeOf s d))
  else if 0x6C10 ≤ i && i < 0x6C28 && key % 256 == 2 then some (channelStates s (i - 0x6C10))
  else if 0x7010 ≤ i && i < 0x7030 && key % 256 == 3 then some ((votesOf s (i - 0x7010)).flatMap fun v => leBytes 1 v)
  else if key = O.identityPubkey then some (fixLen 60 Config.identityKey)
  else none

/-! ## What a read pops (05 R169) -/

/-- The oldest entry of an object that a read pops. -/
def popHead (key : Nat) (s : State) : Option Bytes :=
  if key = O.mcRecord then s.nl.missed.head?
  else if key = O.enableLog then s.svc.log.head?
  else if key = O.errLog then errHead s
  else if key = O.muteLog then muteHead s
  else if key = O.traceRecords then traceHead s
  else ((Store.at [] s.time.captures (key / 256 - 0x20A0)).head?).map fun c => leBytes 16 (stimeOf c)

/-- The state without that entry. -/
def popRest (key : Nat) (s : State) : State :=
  if key = O.mcRecord then s.onNl fun r => { r with missed := r.missed.tail }
  else if key = O.enableLog then { s with svc := { s.svc with log := s.svc.log.drop 1 } }
  else if key = O.errLog then errPop s
  else if key = O.muteLog then mutePop s
  else if key = O.traceRecords then tracePop s
  else
    let n := key / 256 - 0x20A0
    s.onTime fun t => { t with captures := Store.put t.captures n (Store.at [] t.captures n).tail }

/-! ## Layers and descriptors (05 R150, R156, R160) -/

/-- The current value of an object as its bytes. -/
def currentBytes (r : ObjRow) (key : Nat) (s : State) : Bytes :=
  if bitOf r.flags 1 then (popHead key s).getD []
  else match r.type.size with
    | some n => leBytes n (codeOf (8 * n) ((liveNum key s).getD (s.obj key)))
    | none => (liveBlob key s).getD (s.blob key)

/-- The image value of an RW or RWE object. -/
def imageVal (r : ObjRow) (key : Nat) (s : State) : Val :=
  match r.type.size with
  | some _ => .num (Store.at (factory key) s.image key)
  | none => .bytes (Store.at (blobFactory key) s.imageBlobs key)

/-- The factory value of an object. -/
def factoryVal (r : ObjRow) (key : Nat) : Val :=
  match r.type.size with
  | some _ => .num (factory key)
  | none => .bytes (blobFactory key)

/-- The owner that a descriptor names: bytes 4 to 6 of 05 Table 5-4. -/
def ownerBytes (r : ObjRow) (key : Nat) : Bytes :=
  match r.owner with
  | .none => leBytes 3 0
  | .compound => leBytes 3 0xFFFFFF
  | .at k stride =>
    let o := k + stride * ((key / 256 - r.base) / r.stride)
    leBytes 2 (o / 256) ++ leBytes 1 (o % 256)

/-- The 32 bytes of a descriptor (05 Table 5-4). -/
def descriptorOf (r : ObjRow) (key : Nat) : Bytes :=
  let lo : Int := if r.type == .ats || r.type == .stime || r.type == .bits32 then 0 else r.lowest
  let hi : Int := if r.type == .ats || r.type == .stime then 2 ^ 64 - 1 else r.highest
  leBytes 1 r.type.code ++ leBytes 1 r.acc.code ++ leBytes 1 r.flags ++ leBytes 1 0 ++ ownerBytes r key ++ leBytes 1 0
    ++ leBytes 8 (codeOf 64 lo) ++ leBytes 8 (codeOf 64 hi) ++ leBytes 8 0

/-- Sub 00 of an index: a CONST U8 that holds the highest sub (05 R150). -/
def subZeroRow (index : Nat) : ObjRow :=
  ⟨"", index, 1, 1, 0, .u8, .const, highestSub index, true, [(0, 255)], 1, 0, .none⟩

/-- The row of an object, sub 00 included. -/
def anyRow (key : Nat) : Option ObjRow := if key % 256 == 0 then some (subZeroRow (key / 256)) else rowOf key

/-- The reason of the tests of a read, and where it is OK the value that the layer holds (05 R154, R160, R168; 14 R492). -/
def readLayer (key layer : Nat) (s : State) : Reason × Bytes :=
  if !indexDefined (key / 256) then (.noObject, [])
  else match anyRow key with
    | none => (.noSub, [])
    | some r =>
      if 3 < layer then (.valueRange, [])
      else if layer = 3 then (.ok, descriptorOf r key)
      else if key % 256 = 0 then (.ok, leBytes 1 r.dflt.toNat)
      else match r.acc, layer with
        | .wo, _ => (.writeOnly, [])
        | .ro, 1 => (.noLayer, [])
        | .ro, 2 => if r.given && r.type.size.isSome then (.ok, encodeVal r.type (factoryVal r key)) else (.noLayer, [])
        | .const, _ => (.ok, encodeVal r.type (factoryVal r key))
        | _, 1 => (.ok, encodeVal r.type (imageVal r key s))
        | _, 2 => (.ok, encodeVal r.type (factoryVal r key))
        | _, _ =>
          if ((key = O.arbTable || key = O.arbBanks) && selectsMany false s)
              || ((key = O.mcArbTable || key = O.mcArbBanks) && selectsMany true s) then (.valueRange, [])
          else (.ok, currentBytes r key s)

end Sys2Proof.Machine
end

