-- ==== Sys2Proof/Machine/Dictionary.lean ====
section
/-! DEFINITION. The dictionary service (05): what a write of each object does, reverts, segmented transfers, and the service of the transfers of
channel 0 as they arrive or after they were held. -/

namespace Sys2Proof.Machine

/-! ## What a write does (05 R154; the actions of every chapter) -/

/-- The number of a value. -/
def Val.toInt : Val → Int
  | .num v => v
  | .bytes _ => 0

/-- The bytes of a value. -/
def Val.toBytes : Val → Bytes
  | .num _ => []
  | .bytes b => b

/-- Actions of the objects below 0x3000 (01 to 05, 19). -/
def actLow (key : Nat) (v : Val) : Option Action :=
  if key = O.imgErase then some actImgErase
  else if key = O.imgData then some (actImgData v.toBytes)
  else if key = O.imgVerify then some actImgVerify
  else if key = O.imgActivate then some actImgActivate
  else if key = O.imgConfirm then some actImgConfirm
  else if key = O.authMode then some (actAuthMode v.toInt)
  else if key = O.legacyMode then some (actLegacyMode v.toInt)
  else if key = O.prioGnss || key = O.prioPtp || key = O.prioNl || key = O.ptpRole then some (actServoChecked key v.toInt)
  else if 0x20B0 ≤ key / 256 && key / 256 < 0x20B8 && key % 256 == O.trigTarget 0 % 256 then
    some (actTriggerTarget (key / 256 - 0x20B0) v.toInt)
  else if key = O.steerMode || key = O.dcoStep then some (actSteer key v.toInt)
  else if key = O.out0Lane then some (actOutLane 0 v.toInt)
  else if key = O.out1Lane then some (actOutLane 1 v.toInt)
  else if key = O.airEpoch then some (actAirEpoch v.toInt)
  else if key = O.sessionHold then some (actSessionHold v.toInt)
  else none

/-- The path of a chain that an object of 0x5080 on belongs to. -/
def chainPath (key : Nat) : Path := if key % 256 == 2 || key % 256 == 4 then .tx else .rx

/-- Actions of the objects of 0x3000 to 0x5FFF (06 to 11). -/
def actMid (key : Nat) (v : Val) : Option Action :=
  let i := key / 256
  if key = O.ueContext then some (actUeContext v.toBytes)
  else if key = O.ueRelease then some (actUeRelease v.toInt)
  else if key = O.wbDefine then some (actWbDefine v.toInt)
  else if key = O.wbWeights then some (actWbWeights v.toBytes)
  else if key = O.wbCommit then some actWbCommit
  else if key = O.fwdRules then some (actFwdRules v.toBytes)
  else if key = O.owdStart then some (actOwdStart v.toInt)
  else if key = O.resetSend then some actResetSend
  else if key = O.dfeResetAll then some actDfeResetAll
  else if 0x5080 ≤ i && i < 0x5100 && (key = tapsKey (i - 0x5080) (chainPath key)) then
    some (actTaps (i - 0x5080) (chainPath key) v.toBytes)
  else if 0x5080 ≤ i && i < 0x5100 && (key = commitKey (i - 0x5080) (chainPath key)) then
    some (actTapsCommit (i - 0x5080) (chainPath key))
  else if O.tileVl 0 ≤ key && key ≤ O.tileVl 199 && (key - O.tileVl 0) % 256 == 0 then
    some (actTileVl ((key - O.tileVl 0) / 256) v.toInt)
  else if O.bondMode 0 ≤ key && key ≤ O.bondMode 99 && (key - O.bondMode 0) % 256 == 0 then
    some (actBondMode ((key - O.bondMode 0) / 256) v.toInt)
  else none

/-- Actions of the objects from 0x6000 on (14 to 19). -/
def actHigh (key : Nat) (v : Val) : Option Action :=
  if key = O.arbTable then some (actArbTable false v.toBytes)
  else if key = O.mcArbTable then some (actArbTable true v.toBytes)
  else if key = O.arbCommit then some (actArbCommit false)
  else if key = O.mcArbCommit then some (actArbCommit true)
  else if key = O.retiredPages then some (actRetiredPages v.toBytes)
  else if key = O.retiredBanks then some (actRetiredBanks v.toBytes)
  else if key = O.hodRelease then some (actHodRelease v.toInt)
  else if key = O.diagStart then some actDiagStart
  else if key = O.diagStop then some actDiagStop
  else if O.hostVote 0 ≤ key && key ≤ O.hostVote 31 && (key - O.hostVote 0) % 256 == 0 then
    some (actHostVote ((key - O.hostVote 0) / 256) v.toInt)
  else if key = O.guardResync then some actGuardResync
  else if key = O.muteRelease then some (actMuteRelease v.toInt)
  else if key = O.faultClear then some actFaultClear
  else if key = O.unitRetire then some (actUnitRetire v.toInt)
  else if key = O.injArm then some actInjArm
  else if key = O.injRestore then some actInjRestore
  else if key = O.ownerProgram then some (actOwnerProgram v.toBytes)
  else if key = O.rollbackCommit then some actRollbackCommit
  else if key = O.attestRequest then some actAttestRequest
  else if key = O.debugToken then some (actDebugToken v.toBytes)
  else if key = O.debugClose then some actDebugClose
  else none

/-- What a write of an object does once its tests have passed. RESET_CMD acts after its reply. -/
def actOf (key : Nat) (v : Val) : Action :=
  if isEnable key then (rulesOf key).write v.toInt
  else if key = O.resetCmd then fun s => (.ok, s)
  else match if key < 0x300000 then actLow key v else if key < 0x600000 then actMid key v else actHigh key v with
    | some a => a
    | none => plainWrite key v

/-! ## Segments (05 R170, R171) -/

/-- SEGMENT_TIMEOUT: the instant at which the read latch or the write buffer expires. -/
def execSegmentTimeout (read : Bool) (s : State) : Host.Outcome State Fault Refusal :=
  match (if read then s.svc.latch.map (·.last) else s.svc.buffer.map (·.last)) with
  | some t => .next (expireSegments (advanceTicks s (t + segTicks s)))
  | none => .next s

/-! ## Reads (05 R168 to R170) -/

/-- The bytes that a read asks for at most. -/
def wanted (most : Nat) : Nat := if most = 0 then 1024 else min most 1024

/-- A read at offset 0: where the value is longer than what is asked for it is latched; a popping object's entry is removed once the reply is
sent. -/
def readStart (seq key layer most : Nat) (value : Bytes) (s : State) : State :=
  let n := wanted most
  let data := value.take n
  let now := s.clock.ticks
  let s' := if n < value.length then { s with svc := { s.svc with latch := some ⟨key, layer, value, n, now⟩ } } else s
  let pops := layer == 0 && ((rowOf key).map fun r => bitOf r.flags 1).getD false && (popHead key s).isSome
  let s' := replyRead seq key layer .ok 0 value data s'
  if pops then popRest key s' else s'

/-- A read that continues the latch. -/
def readOn (seq key layer offset most : Nat) (s : State) : State :=
  match s.svc.latch with
  | some l =>
    if l.key = key && l.layer = layer && l.next = offset then
      let data := (l.value.drop offset).take (wanted most)
      let next := offset + data.length
      let left := if next < l.value.length then some { l with next := next, last := s.clock.ticks } else none
      let s := { s with svc := { s.svc with latch := left } }
      (countReply .ok s).send (.dictReply ⟨seq, 0x0301, .ok, key, layer, offset, l.value.length, enableByte key s, data,
        decide (next < l.value.length)⟩)
    else replyRead seq key layer .segmentOrder 0 [] [] s
  | none => replyRead seq key layer .segmentOrder 0 [] [] s

/-- A DICT_READ is served. -/
def serveRead (seq key layer offset most : Nat) (s : State) : State :=
  match readLayer key layer s with
  | (.ok, value) => if offset = 0 then readStart seq key layer most value s else readOn seq key layer offset most s
  | (r, _) => replyRead seq key layer r 0 [] [] s

/-! ## Writes and reverts (05 R161, R168, R171) -/

/-- Tests 3 to 6 of 05 R168 for a whole value. -/
def valueTests (r : ObjRow) (key length : Nat) (v : Val) (s : State) : Reason :=
  firstReason [accessTest r key s, countTest length, lengthTest r length, valueTest r v, newCarrierTest key v s]

/-- A whole value is judged and applied. -/
def applyValue (r : ObjRow) (key : Nat) (data : Bytes) (s : State) : Reason × State :=
  match valueTests r key data.length (decodeVal r.type data) s with
  | .ok => actOf key (decodeVal r.type data) s
  | e => (e, s)

/-- A segment of an op-0 write: one at offset 0 opens a buffer, one that continues the open buffer joins it, and with its last byte the value
is judged; one that belongs to the buffer last discarded is refused with TRANSFER_ABORTED, and any other with SEGMENT_ORDER. -/
def writeSegment (r : ObjRow) (key offset total : Nat) (data : Bytes) (s : State) : Reason × State :=
  let now := s.clock.ticks
  if total < offset + data.length then (.typeLength, s)
  else if offset = 0 then
    let s := discardBuffer s
    (.ok, { s with svc := { s.svc with buffer := some ⟨key, 0, total, data, now⟩ } })
  else
    let joins := match s.svc.buffer with
      | some b => if b.key = key && b.total = total && b.data.length = offset then some b else none
      | none => none
    match joins with
    | some b =>
      if offset + data.length < total then
        (.ok, { s with svc := { s.svc with buffer := some { b with data := b.data ++ data, last := now } } })
      else applyValue r key (b.data ++ data) { s with svc := { s.svc with buffer := none } }
    | none => straySegment key offset data.length s

/-- An op-0 write of an object that exists. -/
def writeObject (r : ObjRow) (key offset count total : Nat) (data : Bytes) (s : State) : Reason × State :=
  match firstReason [accessTest r key s, countTest count, if 1024 < count then .typeLength else .ok, lengthTest r total] with
  | .ok => if offset = 0 && data.length = total then applyValue r key data s else writeSegment r key offset total data s
  | e => (e, s)

/-- The value that a revert writes: the image value with op 1, the factory value with op 2. -/
def revertVal (r : ObjRow) (key op : Nat) (s : State) : Val := if op = 1 then imageVal r key s else factoryVal r key

/-- The length of a value. -/
def valLength (r : ObjRow) (v : Val) : Nat := (encodeVal r.type v).length

/-- The tests of a revert of one object (05 R161): a WO object has no layer to revert to. -/
def revertTests (r : ObjRow) (key op : Nat) (s : State) : Reason :=
  let v := revertVal r key op s
  if r.acc = .wo then .noLayer
  else firstReason [accessTest r key s, lengthTest r (valLength r v), valueTest r v, newCarrierTest key v s]

/-- A revert of one object. -/
def revertOne (r : ObjRow) (key op : Nat) (s : State) : Reason × State :=
  match revertTests r key op s with
  | .ok => actOf key (revertVal r key op s) s
  | e => (e, s)

/-- The objects of an index that a revert with sub 0xFF names, in order of their subs. -/
def revertRows (index : Nat) : List (Nat × ObjRow) :=
  (List.range 255).filterMap fun sub =>
    match rowOf (index * 256 + sub) with
    | some r => if (r.acc = .rw || r.acc = .rwe) && !isEnable (index * 256 + sub) then some (index * 256 + sub, r) else none
    | none => none

/-- The lowest-numbered sub that a revert of an index would refuse. -/
def revertRefusal (op : Nat) (s : State) : List (Nat × ObjRow) → Reason
  | [] => .ok
  | x :: t => if revertTests x.2 x.1 op s = .ok then revertRefusal op s t else revertTests x.2 x.1 op s

/-- Whether an object is write-checked (05 R176). -/
def isChecked (r : ObjRow) : Bool := bitOf r.flags 4

/-- Every object in turn; one whose own check refuses leaves the reason. -/
def revertEach (op : Nat) : List (Nat × ObjRow) → State → Reason × State
  | [], s => (.ok, s)
  | x :: t, s =>
    if isChecked x.2 then revertEach op t (s.change x.1 (revertVal x.2 x.1 op s).toInt)
    else match actOf x.1 (revertVal x.2 x.1 op s) s with
      | (.ok, s') => revertEach op t s'
      | (r, _) => (r, s)

/-- A revert of an index, judged as one write (05 R161, R176). -/
def revertIndex (index op : Nat) (s : State) : Reason × State :=
  let l := revertRows index
  match revertRefusal op s l with
  | .ok => match revertEach op l s with
    | (.ok, s') =>
      if l.any (fun x => isChecked x.2) && s.isOn O.servoEnable && servoCheck s' != .ok then (servoCheck s', s) else (.ok, s')
    | (r, _) => (r, s)
  | r => (r, s)

/-- Test 2 of 05 R168: an op above 2, or a revert with an offset, data or a total length. -/
def badOp (op offset count total : Nat) : Bool := decide (2 < op) || (op != 0 && (offset != 0 || count != 0 || total != 0))

/-- A DICT_WRITE is judged: NO_SESSION, then the tests of 05 R168 in their order. -/
def judgeWrite (key op offset count total : Nat) (data : Bytes) (s : State) : Reason × State :=
  if lacksSession key s then (.noSession, s)
  else if !indexDefined (key / 256) then (.noObject, s)
  else if (op = 1 || op = 2) && key % 256 = 0xFF then
    if badOp op offset count total then (.valueRange, s) else revertIndex (key / 256) op s
  else match anyRow key with
    | none => (.noSub, s)
    | some r => if badOp op offset count total then (.valueRange, s) else if op = 0 then writeObject r key offset count total data s else revertOne r key op s

/-- RESET_CMD acts once its reply is sent (19 R603, R604). -/
def afterWrite (key op : Nat) (r : Reason) (data : Bytes) (s : State) : State :=
  if key = O.resetCmd && op = 0 && r = .ok then (if bytesAt data 0 1 = 1 then warmReset 4 s else coldReset 2 s) else s

/-- A DICT_WRITE is served. -/
def serveWrite (seq key op offset count total : Nat) (data : Bytes) (s : State) : State :=
  let r := judgeWrite key op offset count total data s
  afterWrite key op r.1 data (replyWrite seq key op offset total r.1 r.2)

/-! ## The service (05 R166; 18 R597; 19 R609, R646) -/

/-- One message of channel 0 is served. -/
def serve (seq : Nat) (t : Transfer) (s : State) : State :=
  let s := expireSegments s
  match t with
  | .read key layer offset most => serveRead seq key layer offset most s
  | .write key op offset count total data => serveWrite seq key op offset count total data s
  | .resume mode hostId entries => handleResume seq mode hostId entries s

/-- Messages that were held are served in order; a deferred check that falls due holds those after it up (05 R177), and a cold reset drops them. -/
def serveList : List (Nat × Transfer) → State → State
  | [], s => s
  | x :: t, s =>
    let s' := serve x.1 x.2 s
    if !s'.svc.due.isEmpty then { s' with svc := { s'.svc with held := s'.svc.held ++ t } }
    else if s'.obj O.coldResets = s.obj O.coldResets then serveList t s' else s'

/-- Once the firmware serves channel 0, the messages held are served. -/
def serveHeld (s : State) : State :=
  if s.ready then serveList s.svc.held { s with svc := { s.svc with held := [] } } else s

/-- MGT serves the transfers that the sideband latched, once no deferred check is due (18 R597; 05 R177; log entry 36). -/
def serveLatched (s : State) : State :=
  if s.svc.due.isEmpty then
    let s := serveList s.svc.held { s with svc := { s.svc with held := [] } }
    s.setObj O.latched s.svc.held.length
  else s

/-- Whether a message is served as it arrives: channel 0 is served, or it is a read that the boot answers (19 R609). -/
def servedNow (t : Transfer) (s : State) : Bool :=
  s.ready || (s.boot.powered && !s.serving && !s.latching && t.early && decide ((s.svc.held.filter fun h => h.2.counts).length < 4))

/-- A message of channel 0 arrives. -/
def arrive (x : Xfer) (t : Transfer) (s : State) : State :=
  let s := advance s x.dt
  if servedNow t s then serveHeld (serve x.seq t s) else holdTransfer x.seq t s

/-- The number of an object. -/
def keyOf (index sub : Nat) : Nat := index % 65536 * 256 + sub % 256

/-- DICT_READ. -/
def execDictRead (x : Xfer) (index sub layer offset most : Nat) (s : State) : Host.Outcome State Fault Refusal :=
  .next (arrive x (.read (keyOf index sub) layer offset most) s)

/-- DICT_READ_DESCRIPTOR. -/
def execDictReadDescriptor (x : Xfer) (index sub : Nat) (s : State) : Host.Outcome State Fault Refusal :=
  .next (arrive x (.read (keyOf index sub) 3 0 0) s)

/-- DICT_WRITE: a message of one segment or of the whole value, or one whose op and lengths do not go together. -/
def execDictWrite (x : Xfer) (index sub op offset total : Nat) (data : Bytes) (s : State) : Host.Outcome State Fault Refusal :=
  .next (arrive x (.write (keyOf index sub) op offset data.length total data) s)

/-- DICT_REVERT_IMAGE. -/
def execDictRevertImage (x : Xfer) (index sub : Nat) (s : State) : Host.Outcome State Fault Refusal :=
  .next (arrive x (.write (keyOf index sub) 1 0 0 0 []) s)

/-- DICT_REVERT_FACTORY. -/
def execDictRevertFactory (x : Xfer) (index sub : Nat) (s : State) : Host.Outcome State Fault Refusal :=
  .next (arrive x (.write (keyOf index sub) 2 0 0 0 []) s)

/-- REGISTER_WRITE: a write of a whole value in one message. -/
def execRegisterWrite (x : Xfer) (index sub : Nat) (data : Bytes) (s : State) : Host.Outcome State Fault Refusal :=
  .next (arrive x (.write (keyOf index sub) 0 0 data.length data.length data) s)

/-- READ_ENABLE_LOG. -/
def execReadEnableLog (x : Xfer) (s : State) : Host.Outcome State Fault Refusal :=
  .next (hostPop x O.enableLog (popHead O.enableLog) (popRest O.enableLog) s)

/-- ENABLE_DEFERRED_CHECK: the check of an enable whose shut-down completed with the enable PENDING, and then the transfers that it held up, in
WATCH those that MGT has woken for (05 R177; 18 R597). -/
def execEnableDeferredCheck (index sub : Nat) (s : State) : Host.Outcome State Fault Refusal :=
  if s.svc.due.contains (keyOf index sub) then
    let s := deferredCheck (keyOf index sub) s
    .next (if s.latching && s.power.watch.mgt then serveLatched s else serveHeld s)
  else .next s

end Sys2Proof.Machine
end

