-- ==== Sys2Proof/Machine/Enables.lean ====
section
/-! DEFINITION. The commands after which channel 0 serves what it holds or enables are judged: the servo's update (01 R644), the resets (19), the
RTC, the alarm of WATCH and the end of WATCH (18 R594 to R598; 20 R636), and the watchdog of the management cores (17 R569). -/

namespace Sys2Proof.Machine

/-- SERVO_UPDATE (01 R644): when TIME_VALID becomes 1 the enables still PENDING from the boot are checked (05 R178). -/
def execServoUpdate (s : State) : Host.Outcome State Fault Refusal :=
  let s' := servoUpdate s
  .next (if s.obj O.timeValid == 0 && s'.obj O.timeValid == 1 then timeChecks s' else s')

/-! ## Resets (19 R603, R604) -/

/-- Channel 0 after a reset: what the sideband latches hold is served once READY is reached (19 R646). -/
def afterReset (s : State) : State := serveHeld (if s.latching then s else s.setObj O.latched 0)

/-- POWER_ON_RESET: the supplies come into range. -/
def execPowerOnReset (s : State) : Host.Outcome State Fault Refusal := .next (afterReset (powerOn s))

/-- COLD_RESET: RESET_N has been low for `lowNs`, 10 µs at least for a reset. -/
def execColdReset (lowNs : Nat) (s : State) : Host.Outcome State Fault Refusal :=
  .next (if s.boot.powered && decide (10000 ≤ lowNs) then afterReset (coldReset 1 s) else s)

/-- WARM_RESET: WRESET_N has been low for `lowNs`, 1 µs at least for a reset. -/
def execWarmReset (lowNs : Nat) (s : State) : Host.Outcome State Fault Refusal :=
  .next (if s.boot.powered && decide (1000 ≤ lowNs) then afterReset (warmReset 3 s) else s)

/-- RESET_CMD_WARM: a write of 1 to RESET_CMD. -/
def execResetCmdWarm (x : Xfer) (s : State) : Host.Outcome State Fault Refusal :=
  .next (arrive x (.write O.resetCmd 0 0 1 1 (leBytes 1 1)) s)

/-- RESET_CMD_COLD: a write of 2 to RESET_CMD. -/
def execResetCmdCold (x : Xfer) (s : State) : Host.Outcome State Fault Refusal :=
  .next (arrive x (.write O.resetCmd 0 0 1 1 (leBytes 1 2)) s)

/-- MANAGEMENT_CORE_WATCHDOG: the other cores take over a core's work (17 Table 17-4), and the failure of all four is a warm reset. -/
def execManagementCoreWatchdog (core : Nat) (s : State) : Host.Outcome State Fault Refusal :=
  if 4 ≤ core then .fault .noSuchUnit
  else if !bitOf s.units.cores core then .next s
  else if setBit s.units.cores core false == 0 then .next (afterReset (warmReset 5 s))
  else .next (coreFault core 0 s)

/-! ## The RTC (18 R594 to R597; 20 R636) -/

/-- RTC_OSCILLATOR_RUNS: a boot that waited for the oscillator goes on to READY. -/
def execRtcOscillatorRuns (s : State) : Host.Outcome State Fault Refusal :=
  if s.boot.powered then .next (afterReset (bootReady (s.onGuard fun g => { g with rtcOff := false }))) else .next s

/-- Whether an alarm can fire: the part is in WATCH, no wake is in progress, and the RTC runs. -/
def canWake (s : State) : Bool :=
  [1, 2, 5].contains (s.nat O.watchState) && !s.power.watch.awake && s.airRunning && !s.guard.rtcOff

/-- The wake begins: the sequencer votes for what its captures need, and for MGT where messages are latched. -/
def wakeStarts (s : State) : State :=
  let b := alarmPeriod s
  let s := (advanceToAir s (alarmAt s)).bump O.watchCycles 1
  (s.setObj O.watchState 3).onWatch fun w =>
    { w with boundary := b, awake := true, left := captures s, opened := [], mgt := w.mgt || !s.svc.held.isEmpty }

/-- RTC_ALARM. -/
def execRtcAlarm (s : State) : Host.Outcome State Fault Refusal :=
  if canWake s then
    let s := drawEdge (serveLatched (wakeStarts s))
    .next (if s.power.watch.awake && s.power.watch.left.isEmpty then wakeEnds s else s)
  else .next s

/-! ## The end of WATCH (18 R598) -/

/-- Whether every domain that the management firmware votes to RUN reads RUN, and a module carries the mainband again. -/
def watchLeft (s : State) : Bool :=
  ((List.range 32).all fun d => mgmtVote s d != 4 || s.runs d) && ((s.link.mod 0).up || (s.link.mod 1).up)

/-- WATCH_EXIT_COMPLETE: the enable reads OFF, or is checked where it reads PENDING, and channel 0 is served as it arrives. -/
def execWatchExitComplete (s : State) : Host.Outcome State Fault Refusal :=
  .next (if s.obj O.watchState == 6 && watchLeft s then serveHeld (shutDone O.watchEnable ((s.setObj O.watchState 0).setObj O.latched 0)) else s)

end Sys2Proof.Machine
end

