-- ==== Sys2Proof/Machine/Receive.lean ====
section
/-! DEFINITION. The bytes that the host sends (04 R115, R121 to R125, R132, Tables 4-1 to 4-10; 05 Tables 5-5, 5-6): how the receiver finds the
messages in the stream of a module and joins those of channel 0 from the sideband, what they spell, and which it discards. -/

namespace Sys2Proof.Machine

/-- A message of the host as its bytes spell it. -/
inductive HostMsg
  | course (type : Nat) (h : CourseHdr) (tbBytes : Nat) (desc : Bytes)
  | data (h : CourseHdr) (handle offset : Nat) (data : Bytes)
  | ack (chan seq credits : Nat)
  | read (seq key layer offset most : Nat)
  | write (seq key op offset count total : Nat) (data : Bytes)
  | resume (seq mode hostId : Nat) (entries : List ResumeEntry)
  deriving DecidableEq, Repr

/-- The header of a course-channel message (04 Table 4-1). -/
def courseHdrOf (b : Bytes) : CourseHdr :=
  { dt := 0, chan := bytesAt b 8 2, seq := bytesAt b 10 6, course := bytesAt b 16 4, gen := bytesAt b 20 1, ats := bytesAt b 24 8
    length := bytesAt b 4 4 }

/-- Whether the host may send a type (04 Table 4-3). -/
def fromHost (type : Nat) : Bool := [0x0101, 0x0102, 0x0103, 0x0104, 0x0110, 0x0211, 0x0301, 0x0302, 0x0401].contains type

/-- Whether a type is allowed on a channel (04 Table 4-3). -/
def onChannel (type chan : Nat) : Bool :=
  if type == 0x0301 || type == 0x0302 || type == 0x0401 then chan == 0 else decide (1 ≤ chan) && decide (chan ≤ 64)

/-- The per-channel entries of RESUME (04 Table 4-10). -/
def resumeEntriesOf (b : Bytes) : List ResumeEntry :=
  (List.range 64).map fun i => ⟨bytesAt b (64 + 16 * i) 6, bytesAt b (70 + 16 * i) 6, bytesAt b (76 + 16 * i) 4⟩

/-- What the bytes of a whole message spell: `none` where its type or channel is not allowed, or its length disagrees with its type or its
contents (04 R124, R125; 05 R168). Reserved bytes and flags are not looked at (04 R123). -/
def parseMessage (b : Bytes) : Option HostMsg :=
  let type := bytesAt b 0 2
  let h := courseHdrOf b
  let x := bytesAt b 36 4
  let n := bytesAt b 40 4
  let key := bytesAt b 32 2 * 256 + bytesAt b 34 1
  if !fromHost type || !onChannel type h.chan then none
  else match type with
    | 0x0101 | 0x0102 => if h.length == 64 + pad8 x then some (.course type h (bytesAt b 32 4) ((b.drop 64).take x)) else none
    | 0x0103 | 0x0104 => if h.length == 32 then some (.course type h 0 []) else none
    | 0x0110 =>
      if h.length == 64 + pad8 n && decide (1 ≤ n) && decide (n ≤ 65536) then some (.data h (bytesAt b 32 4) x ((b.drop 64).take n))
      else none
    | 0x0211 => if h.length == 40 then some (.ack h.chan h.seq (bytesAt b 32 4)) else none
    | 0x0301 => if h.length == 48 then some (.read h.seq key (bytesAt b 35 1) x n) else none
    | 0x0302 =>
      if h.length == 48 + pad8 n then some (.write h.seq key (bytesAt b 35 1) x n (bytesAt b 44 4) ((b.drop 48).take n)) else none
    | _ =>
      if h.length == 1088 then some (.resume h.seq (bytesAt b 32 1) (bytesAt b 36 16) (resumeEntriesOf b)) else none

/-- What a message does as it arrives. -/
def takeMessage (m : HostMsg) (s : State) : State :=
  match m with
  | .course type h tbBytes desc => courseArrival h h.length (courseMessage type h tbBytes desc) s
  | .data h handle offset data => courseArrival h h.length (tbData h handle offset data) s
  | .ack chan seq credits => ackArrival chan seq credits s
  | .read seq key layer offset most => arrive ⟨0, seq⟩ (.read key layer offset most) s
  | .write seq key op offset count total data => arrive ⟨0, seq⟩ (.write key op offset count total data) s
  | .resume seq mode hostId entries => takeResume 0 seq mode hostId entries s

/-- A whole message is taken, or discarded and counted; what it cost comes back with the next verdict of its channel, but an OUTCOME_ACK costs
nothing (04 R125, R129). -/
def takeBytes (b : Bytes) (s : State) : State :=
  match parseMessage b with
  | some m => takeMessage m s
  | none =>
    if bytesAt b 0 2 == 0x0211 || s.obj O.sessionState == 0 then s.bump O.formatErrors 1
    else discard (bytesAt b 8 2) (bytesAt b 4 4) s

/-! ## The stream of a module (04 R121) -/

/-- Whether a length field can delimit a message. -/
def delimits (n : Nat) : Bool := decide (32 ≤ n) && n % 8 == 0 && decide (n ≤ 65600)

/-- Whether a 32-byte unit is fill. -/
def isFill (b : Bytes) : Bool := bytesAt b 0 2 == 0

/-- Whether the search of the receiver ends at a unit: fill, or the start of a message that the host may send, with a length that delimits
it. -/
def findsBoundary (b : Bytes) : Bool := isFill b || (fromHost (bytesAt b 0 2) && delimits (bytesAt b 4 4))

/-- What the receiver of a module's stream holds. -/
def Link.stream (l : Link) (m : Nat) : Stream := if m == 0 then l.stream0 else l.stream1

/-- What it holds replaced. -/
def Link.setStream (l : Link) (m : Nat) (x : Stream) : Link := if m == 0 then { l with stream0 := x } else { l with stream1 := x }

/-- The receiver takes units of a module's stream: fill is skipped, each message ends at the first 32-byte boundary after the bytes that its
length field gives, and a run of units that no length field delimits is discarded and counted once. What is no whole message yet waits for the
units that follow, and so does a search. -/
def receiveUnits (m : Nat) : Nat → Bool → Bytes → State → State
  | 0, search, b, s => s.onLink fun l => l.setStream m ⟨b, search⟩
  | k + 1, search, b, s =>
    let n := bytesAt b 4 4
    if b.length < 32 then s.onLink fun l => l.setStream m ⟨b, search⟩
    else if search && !findsBoundary b then receiveUnits m k true (b.drop 32) s
    else if isFill b then receiveUnits m k false (b.drop 32) s
    else if !delimits n then receiveUnits m k true (b.drop 32) (s.bump O.formatErrors 1)
    else if b.length < n then s.onLink fun l => l.setStream m ⟨b, false⟩
    else receiveUnits m k false (b.drop (ceilDiv n 32 * 32)) (takeBytes (b.take n) s)

/-- A stretch of whole units, the last made up with zeros, follows what the receiver holds (log entry 48). -/
def receiveStretch (m : Nat) (units : Bytes) (s : State) : State :=
  let x := s.link.stream m
  let b := x.bytes ++ padTo 32 units
  receiveUnits m (b.length / 32 + 1) x.search b s

/-- MALFORMED_MESSAGE_RX: a stretch of a module's stream arrives in which the receiver finds no message that it may take, and discards what it
finds (04 R121, R125); a message that may be taken is taken. -/
def execMalformedMessageRx (dt module : Nat) (units : Bytes) (s : State) : Host.Outcome State Fault Refusal :=
  if 1 < module then .fault .noSuchUnit
  else
    let s := advance s dt
    .next (if (s.link.mod module).up then receiveStretch module units s else s)

/-! ## The sideband (04 R115) -/

/-- The bytes of a channel-0 message that a sideband has brought so far. -/
def Link.side (l : Link) (m : Nat) : Bytes := if m == 0 then l.side0 else l.side1

/-- The bytes replaced. -/
def Link.setSide (l : Link) (m : Nat) (b : Bytes) : Link := if m == 0 then { l with side0 := b } else { l with side1 := b }

/-- Eight more bytes of a channel-0 message: with the last of those that its length field asks for, the message is taken; a length that
delimits none discards what has arrived (log entry 48). -/
def sidePiece (m : Nat) (data : Bytes) (s : State) : State :=
  let b := s.link.side m ++ data
  let n := bytesAt b 4 4
  if !delimits n then (s.onLink fun l => l.setSide m []).bump O.formatErrors 1
  else if b.length < n then s.onLink fun l => l.setSide m b
  else takeBytes b (s.onLink fun l => l.setSide m [])

/-- SIDEBAND_MESSAGE_RX: code 0x00 brings eight bytes of a channel-0 message; another vendor identifier or code, code 0x01 among them, is
discarded and counted. -/
def execSidebandMessageRx (dt module vendor code : Nat) (data : Bytes) (s : State) : Host.Outcome State Fault Refusal :=
  if 1 < module then .fault .noSuchUnit
  else
    let s := advance s dt
    .next (if vendor != s.nat O.sbVendorId || code != 0 then s.bump O.formatErrors 1 else sidePiece module data s)

end Sys2Proof.Machine
end

