-- ==== Sys2Proof/Machine/Dispatch.lean ====
section
/-! DEFINITION. Which meaning each command has: one arm for each constructor of Instr. -/

namespace Sys2Proof.Machine

/-- The effect of a command on everything but the queue. -/
def exec (i : Instr) (s : State) : Host.Outcome State Fault Refusal :=
  match i with
  | .writeLegacyMode x v => Sys2Proof.Machine.execWriteLegacyMode x v s
  | .ppsInEdge dt lowNs sub => Sys2Proof.Machine.execPpsInEdge dt lowNs sub s
  | .dfeSyncEdge dt lowNs => Sys2Proof.Machine.execDfeSyncEdge dt lowNs s
  | .pulseRequalify input => Sys2Proof.Machine.execPulseRequalify input s
  | .ppsLoss input dt heldNs => Sys2Proof.Machine.execPpsLoss input dt heldNs s
  | .todFrameRx dt frame => Sys2Proof.Machine.execTodFrameRx dt frame s
  | .waitToRestoreExpiry src => Sys2Proof.Machine.execWaitToRestoreExpiry src s
  | .writeServoEnable x v => Sys2Proof.Machine.execWriteServoEnable x v s
  | .writeSourcePriority x src v => Sys2Proof.Machine.execWriteSourcePriority x src v s
  | .writePtpRole x v => Sys2Proof.Machine.execWritePtpRole x v s
  | .writeAuthMode x v => Sys2Proof.Machine.execWriteAuthMode x v s
  | .guardStepConfirm ask => Sys2Proof.Machine.execGuardStepConfirm ask s
  | .triggerFire n => Sys2Proof.Machine.execTriggerFire n s
  | .writeTriggerTarget x n target => Sys2Proof.Machine.execWriteTriggerTarget x n target s
  | .readCapFifo x n => Sys2Proof.Machine.execReadCapFifo x n s
  | .ptpMessageRx dt port h m => Sys2Proof.Machine.execPtpMessageRx dt port h m s
  | .ptpMessageTx port m => Sys2Proof.Machine.execPtpMessageTx port m s
  | .synceOutputResume out => Sys2Proof.Machine.execSynceOutputResume out s
  | .writeNlEnable x v => Sys2Proof.Machine.execWriteNlEnable x v s
  | .nlDetection dt metric pci type centreHz => Sys2Proof.Machine.execNlDetection dt metric pci type centreHz s
  | .nlReceptionCommit basis clippedPermille => Sys2Proof.Machine.execNlReceptionCommit basis clippedPermille s
  | .nlResultWritten m => Sys2Proof.Machine.execNlResultWritten m s
  | .writeAirEpoch x v => Sys2Proof.Machine.execWriteAirEpoch x v s
  | .courseTentative h tbBytes desc => Sys2Proof.Machine.execCourseTentative h tbBytes desc s
  | .courseRevise h tbBytes desc => Sys2Proof.Machine.execCourseRevise h tbBytes desc s
  | .courseBind h => Sys2Proof.Machine.execCourseBind h s
  | .courseCancel h => Sys2Proof.Machine.execCourseCancel h s
  | .dlTbData h handle offset data => Sys2Proof.Machine.execDlTbData h handle offset data s
  | .courseAutoBind chan course => Sys2Proof.Machine.execCourseAutoBind chan course s
  | .courseInAir chan course => Sys2Proof.Machine.execCourseInAir chan course s
  | .courseEgressComplete chan course => Sys2Proof.Machine.execCourseEgressComplete chan course s
  | .outcomeSend chan => Sys2Proof.Machine.execOutcomeSend chan s
  | .outcomeAck dt chan seq credits => Sys2Proof.Machine.execOutcomeAck dt chan seq credits s
  | .operationLsExpiry tag => Sys2Proof.Machine.execOperationLsExpiry tag s
  | .operationLfCancel tag => Sys2Proof.Machine.execOperationLfCancel tag s
  | .ucieLaneRepair module lanes => Sys2Proof.Machine.execUcieLaneRepair module lanes s
  | .ucieModuleLost dt module => Sys2Proof.Machine.execUcieModuleLost dt module s
  | .ucieModuleRetrained dt module => Sys2Proof.Machine.execUcieModuleRetrained dt module s
  | .restoreHoldExpiry module => Sys2Proof.Machine.execRestoreHoldExpiry module s
  | .channelReturn chan => Sys2Proof.Machine.execChannelReturn chan s
  | .sidebandMessageRx dt module vendor code data => Sys2Proof.Machine.execSidebandMessageRx dt module vendor code data s
  | .malformedMessageRx dt module units => Sys2Proof.Machine.execMalformedMessageRx dt module units s
  | .resumeOpen dt seq hostId credits => Sys2Proof.Machine.execResumeOpen dt seq hostId credits s
  | .resumeModeResume dt seq hostId entries => Sys2Proof.Machine.execResumeModeResume dt seq hostId entries s
  | .resumeClose dt seq mode hostId => Sys2Proof.Machine.execResumeClose dt seq mode hostId s
  | .writeSessionHold x v => Sys2Proof.Machine.execWriteSessionHold x v s
  | .dictRead x index sub layer offset most => Sys2Proof.Machine.execDictRead x index sub layer offset most s
  | .dictReadDescriptor x index sub => Sys2Proof.Machine.execDictReadDescriptor x index sub s
  | .dictWrite x index sub op offset total data => Sys2Proof.Machine.execDictWrite x index sub op offset total data s
  | .dictRevertImage x index sub => Sys2Proof.Machine.execDictRevertImage x index sub s
  | .dictRevertFactory x index sub => Sys2Proof.Machine.execDictRevertFactory x index sub s
  | .registerWrite x index sub data => Sys2Proof.Machine.execRegisterWrite x index sub data s
  | .segmentTimeout read => Sys2Proof.Machine.execSegmentTimeout read s
  | .enableDeferredCheck index sub => Sys2Proof.Machine.execEnableDeferredCheck index sub s
  | .readEnableLog x => Sys2Proof.Machine.execReadEnableLog x s
  | .writeCarrierEnable x n v => Sys2Proof.Machine.execWriteCarrierEnable x n v s
  | .writeUeContext x data => Sys2Proof.Machine.execWriteUeContext x data s
  | .writeUeRelease x v => Sys2Proof.Machine.execWriteUeRelease x v s
  | .kilnFeed tag arrived => Sys2Proof.Machine.execKilnFeed tag arrived s
  | .kilnAttemptEnd tag b => Sys2Proof.Machine.execKilnAttemptEnd tag b s
  | .kilnCancelToken tag => Sys2Proof.Machine.execKilnCancelToken tag s
  | .kilnEngineFault kind n => Sys2Proof.Machine.execKilnEngineFault kind n s
  | .leOperationEnd tag => Sys2Proof.Machine.execLeOperationEnd tag s
  | .leCancelToken tag => Sys2Proof.Machine.execLeCancelToken tag s
  | .leEngineFault n => Sys2Proof.Machine.execLeEngineFault n s
  | .xeEngineFault n => Sys2Proof.Machine.execXeEngineFault n s
  | .wbDefine x => Sys2Proof.Machine.execWbDefine x s
  | .wbDelete x => Sys2Proof.Machine.execWbDelete x s
  | .writeWbWeights x data => Sys2Proof.Machine.execWriteWbWeights x data s
  | .wbCommit x => Sys2Proof.Machine.execWbCommit x s
  | .wbCopyComplete entry => Sys2Proof.Machine.execWbCopyComplete entry s
  | .wbSwapDecision entry => Sys2Proof.Machine.execWbSwapDecision entry s
  | .wbSwapBoundary entry => Sys2Proof.Machine.execWbSwapBoundary entry s
  | .writePortEnable x p v => Sys2Proof.Machine.execWritePortEnable x p v s
  | .portLinkUp p => Sys2Proof.Machine.execPortLinkUp p s
  | .fhLinkDown dt p cause => Sys2Proof.Machine.execFhLinkDown dt p cause s
  | .fecBerWindow p ber corrected uncorrectable => Sys2Proof.Machine.execFecBerWindow p ber corrected uncorrectable s
  | .failoverReturn carrier => Sys2Proof.Machine.execFailoverReturn carrier s
  | .portShutdownComplete p => Sys2Proof.Machine.execPortShutdownComplete p s
  | .frameRx dt p f => Sys2Proof.Machine.execFrameRx dt p f s
  | .uplaneMessageRx dt p m => Sys2Proof.Machine.execUplaneMessageRx dt p m s
  | .oneWayDelayMsgRx dt p src id action timePs compPs => Sys2Proof.Machine.execOneWayDelayMsgRx dt p src id action timePs compPs s
  | .remoteResetResponseRx dt p id => Sys2Proof.Machine.execRemoteResetResponseRx dt p id s
  | .writeFwdRules x data => Sys2Proof.Machine.execWriteFwdRules x data s
  | .dlCplaneSend chan course rec bytes => Sys2Proof.Machine.execDlCplaneSend chan course rec bytes s
  | .ulCplaneSend chan course bytes => Sys2Proof.Machine.execUlCplaneSend chan course bytes s
  | .uplaneLaunch chan course symbol port bytes power => Sys2Proof.Machine.execUplaneLaunch chan course symbol port bytes power s
  | .upTxLate chan course symbol => Sys2Proof.Machine.execUpTxLate chan course symbol s
  | .ulWindowClose chan course symbol => Sys2Proof.Machine.execUlWindowClose chan course symbol s
  | .owdStartRequest x => Sys2Proof.Machine.execOwdStartRequest x s
  | .owdStartFollowUp x => Sys2Proof.Machine.execOwdStartFollowUp x s
  | .remoteResetSend x => Sys2Proof.Machine.execRemoteResetSend x s
  | .dfeResetAll x => Sys2Proof.Machine.execDfeResetAll x s
  | .writeTaps x chain path data => Sys2Proof.Machine.execWriteTaps x chain path data s
  | .commitTaps x chain path => Sys2Proof.Machine.execCommitTaps x chain path s
  | .coefSwapDecision chain => Sys2Proof.Machine.execCoefSwapDecision chain s
  | .coefFadeStart chain => Sys2Proof.Machine.execCoefFadeStart chain s
  | .coefFadeEnd chain => Sys2Proof.Machine.execCoefFadeEnd chain s
  | .coefCopyComplete chain => Sys2Proof.Machine.execCoefCopyComplete chain s
  | .coefCrcCheck chain path ok => Sys2Proof.Machine.execCoefCrcCheck chain path ok s
  | .thrBlockEnd chain => Sys2Proof.Machine.execThrBlockEnd chain s
  | .thrHoldoffEnd chain => Sys2Proof.Machine.execThrHoldoffEnd chain s
  | .txWindowOpen carrier => Sys2Proof.Machine.execTxWindowOpen carrier s
  | .txWindowClose carrier => Sys2Proof.Machine.execTxWindowClose carrier s
  | .txgateEdge g active => Sys2Proof.Machine.execTxgateEdge g active s
  | .scalarRegisterOp t op gd ga gb => Sys2Proof.Machine.execScalarRegisterOp t op gd ga gb s
  | .scalarImmediateOp t op gd ga imm => Sys2Proof.Machine.execScalarImmediateOp t op gd ga imm s
  | .wideImmediate t gd field keep imm => Sys2Proof.Machine.execWideImmediate t gd field keep imm s
  | .scalarLoad t gd ga offset size signed => Sys2Proof.Machine.execScalarLoad t gd ga offset size signed s
  | .scalarStore t gd ga offset size => Sys2Proof.Machine.execScalarStore t gd ga offset size s
  | .branch t cond ga gb offset => Sys2Proof.Machine.execBranch t cond ga gb offset s
  | .jump t link offset => Sys2Proof.Machine.execJump t link offset s
  | .vectorArithmetic t op sat f => Sys2Proof.Machine.execVectorArithmetic t op sat f s
  | .vectorMultiply t op sat f => Sys2Proof.Machine.execVectorMultiply t op sat f s
  | .vectorPermute t op sat f => Sys2Proof.Machine.execVectorPermute t op sat f s
  | .vectorLoad t f => Sys2Proof.Machine.execVectorLoad t f s
  | .vectorStore t f => Sys2Proof.Machine.execVectorStore t f s
  | .gather t f => Sys2Proof.Machine.execGather t f s
  | .scatter t ff f => Sys2Proof.Machine.execScatter t ff f s
  | .firstFaultGather t f => Sys2Proof.Machine.execFirstFaultGather t f s
  | .pspan t short pd ga gb et => Sys2Proof.Machine.execPspan t short pd ga gb et s
  | .predicateOp t op pd pa pb gd et => Sys2Proof.Machine.execPredicateOp t op pd pa pb gd et s
  | .controlRegisterAccess t write g number => Sys2Proof.Machine.execControlRegisterAccess t write g number s
  | .fence t => Sys2Proof.Machine.execFence t s
  | .syscall t => Sys2Proof.Machine.execSyscall t s
  | .fcall t => Sys2Proof.Machine.execFcall t s
  | .breakpoint t => Sys2Proof.Machine.execBreakpoint t s
  | .eret t => Sys2Proof.Machine.execEret t s
  | .tend t g => Sys2Proof.Machine.execTend t g s
  | .taskEndReport t => Sys2Proof.Machine.execTaskEndReport t s
  | .taskStart t => Sys2Proof.Machine.execTaskStart t s
  | .tileCancel t => Sys2Proof.Machine.execTileCancel t s
  | .tileFault t => Sys2Proof.Machine.execTileFault t s
  | .bondMismatch pair => Sys2Proof.Machine.execBondMismatch pair s
  | .spareSelfTest pair pass => Sys2Proof.Machine.execSpareSelfTest pair pass s
  | .writeTileVl x t v => Sys2Proof.Machine.execWriteTileVl x t v s
  | .tileVlApply t => Sys2Proof.Machine.execTileVlApply t s
  | .writeBondMode x pair v => Sys2Proof.Machine.execWriteBondMode x pair v s
  | .bondChangeComplete pair => Sys2Proof.Machine.execBondChangeComplete pair s
  | .fuse t gd ga cls sizes => Sys2Proof.Machine.execFuse t gd ga cls sizes s
  | .fusedJobSend t slot => Sys2Proof.Machine.execFusedJobSend t slot s
  | .fwait t gd ga => Sys2Proof.Machine.execFwait t gd ga s
  | .ftest t gd ga => Sys2Proof.Machine.execFtest t gd ga s
  | .fcancel t ga => Sys2Proof.Machine.execFcancel t ga s
  | .bfb t ga offset => Sys2Proof.Machine.execBfb t ga offset s
  | .bff t cls offset => Sys2Proof.Machine.execBff t cls offset s
  | .fusedPublication t slot result outputs => Sys2Proof.Machine.execFusedPublication t slot result outputs s
  | .dispatch tag unit => Sys2Proof.Machine.execDispatch tag unit s
  | .promotion tag => Sys2Proof.Machine.execPromotion tag s
  | .operationEnd tag how => Sys2Proof.Machine.execOperationEnd tag how s
  | .prefetchCopyComplete t pallet => Sys2Proof.Machine.execPrefetchCopyComplete t pallet s
  | .prefetchWaitExpiry t => Sys2Proof.Machine.execPrefetchWaitExpiry t s
  | .writePartEnable x p v => Sys2Proof.Machine.execWritePartEnable x p v s
  | .writeTraceEnable x v => Sys2Proof.Machine.execWriteTraceEnable x v s
  | .readTraceRecords x => Sys2Proof.Machine.execReadTraceRecords x s
  | .readReq pkt found => Sys2Proof.Machine.execReadReq pkt found s
  | .write pkt mask data found => Sys2Proof.Machine.execWrite pkt mask data found s
  | .message pkt kind payload => Sys2Proof.Machine.execMessage pkt kind payload s
  | .readResp src tag line status => Sys2Proof.Machine.execReadResp src tag line status s
  | .writeAck src tag status => Sys2Proof.Machine.execWriteAck src tag status s
  | .messageAck src tag status => Sys2Proof.Machine.execMessageAck src tag status s
  | .linkReplay ring => Sys2Proof.Machine.execLinkReplay ring s
  | .requestTimeout src tag => Sys2Proof.Machine.execRequestTimeout src tag s
  | .requestRetryResend src tag => Sys2Proof.Machine.execRequestRetryResend src tag s
  | .ringLinkFault ring stop lockLost => Sys2Proof.Machine.execRingLinkFault ring stop lockLost s
  | .foldNoticeRx ring stop flits => Sys2Proof.Machine.execFoldNoticeRx ring stop flits s
  | .reverseHoldExpiry ring => Sys2Proof.Machine.execReverseHoldExpiry ring s
  | .ringRestore ring => Sys2Proof.Machine.execRingRestore ring s
  | .jointPathFault ring stop => Sys2Proof.Machine.execJointPathFault ring stop s
  | .writeArbTable x mc data => Sys2Proof.Machine.execWriteArbTable x mc data s
  | .arbCommit x mc => Sys2Proof.Machine.execArbCommit x mc s
  | .arbSwapDecision mc => Sys2Proof.Machine.execArbSwapDecision mc s
  | .arbSwap mc => Sys2Proof.Machine.execArbSwap mc s
  | .edcMismatch ch addr => Sys2Proof.Machine.execEdcMismatch ch addr s
  | .channelRetrainComplete ch ok => Sys2Proof.Machine.execChannelRetrainComplete ch ok s
  | .channelQueueRetry ch src tag => Sys2Proof.Machine.execChannelQueueRetry ch src tag s
  | .gddr7ChannelLost ch cause => Sys2Proof.Machine.execGddr7ChannelLost ch cause s
  | .gddr7Scrub ch lines found => Sys2Proof.Machine.execGddr7Scrub ch lines found s
  | .palletStoreScrub slice found => Sys2Proof.Machine.execPalletStoreScrub slice found s
  | .tileMemoryScrub t found => Sys2Proof.Machine.execTileMemoryScrub t found s
  | .writeRetiredPages x data => Sys2Proof.Machine.execWriteRetiredPages x data s
  | .writeRetiredBanks x data => Sys2Proof.Machine.execWriteRetiredBanks x data s
  | .readErrLog x => Sys2Proof.Machine.execReadErrLog x s
  | .readMcRecord x => Sys2Proof.Machine.execReadMcRecord x s
  | .hodDescriptorEnd engine channel => Sys2Proof.Machine.execHodDescriptorEnd engine channel s
  | .hodResponseEnd engine channel status => Sys2Proof.Machine.execHodResponseEnd engine channel status s
  | .hodChainSignal engine channel => Sys2Proof.Machine.execHodChainSignal engine channel s
  | .haltHoldExpiry engine selfTestOk => Sys2Proof.Machine.execHaltHoldExpiry engine selfTestOk s
  | .hodRelease x v => Sys2Proof.Machine.execHodRelease x v s
  | .diagStart x => Sys2Proof.Machine.execDiagStart x s
  | .diagStop x => Sys2Proof.Machine.execDiagStop x s
  | .referenceFrequencyCheck cycles => Sys2Proof.Machine.execReferenceFrequencyCheck cycles s
  | .guardAudit carrier copyOk => Sys2Proof.Machine.execGuardAudit carrier copyOk s
  | .guardConfigCrcCheck chain ok => Sys2Proof.Machine.execGuardConfigCrcCheck chain ok s
  | .powerMeterBlock carrier power => Sys2Proof.Machine.execPowerMeterBlock carrier power s
  | .guardSelfCheck pass code => Sys2Proof.Machine.execGuardSelfCheck pass code s
  | .guardArmed pass => Sys2Proof.Machine.execGuardArmed pass s
  | .muteRelease x v => Sys2Proof.Machine.execMuteRelease x v s
  | .guardResync x => Sys2Proof.Machine.execGuardResync x s
  | .dfeChainFault chain => Sys2Proof.Machine.execDfeChainFault chain s
  | .palletSliceFault slice => Sys2Proof.Machine.execPalletSliceFault slice s
  | .managementCoreWatchdog core => Sys2Proof.Machine.execManagementCoreWatchdog core s
  | .unitRetire x v => Sys2Proof.Machine.execUnitRetire x v s
  | .faultClear x => Sys2Proof.Machine.execFaultClear x s
  | .injArm x => Sys2Proof.Machine.execInjArm x s
  | .injRestore x => Sys2Proof.Machine.execInjRestore x s
  | .readMuteLog x => Sys2Proof.Machine.execReadMuteLog x s
  | .hostVote x d v => Sys2Proof.Machine.execHostVote x d v s
  | .domainTransitionStart d => Sys2Proof.Machine.execDomainTransitionStart d s
  | .domainDrained d => Sys2Proof.Machine.execDomainDrained d s
  | .domainEnterRunComplete d => Sys2Proof.Machine.execDomainEnterRunComplete d s
  | .avsAck ack => Sys2Proof.Machine.execAvsAck ack s
  | .avsPoll vdone => Sys2Proof.Machine.execAvsPoll vdone s
  | .pmbusRead readings => Sys2Proof.Machine.execPmbusRead readings s
  | .writeWatchEnable x v => Sys2Proof.Machine.execWriteWatchEnable x v s
  | .watchCplaneSend k bytes => Sys2Proof.Machine.execWatchCplaneSend k bytes s
  | .watchWindowOpen k => Sys2Proof.Machine.execWatchWindowOpen k s
  | .watchWindowClose k => Sys2Proof.Machine.execWatchWindowClose k s
  | .coldReset lowNs => Sys2Proof.Machine.execColdReset lowNs s
  | .warmReset lowNs => Sys2Proof.Machine.execWarmReset lowNs s
  | .resetCmdWarm x => Sys2Proof.Machine.execResetCmdWarm x s
  | .resetCmdCold x => Sys2Proof.Machine.execResetCmdCold x s
  | .imgErase x => Sys2Proof.Machine.execImgErase x s
  | .imgData x data => Sys2Proof.Machine.execImgData x data s
  | .imgVerify x => Sys2Proof.Machine.execImgVerify x s
  | .imgActivate x => Sys2Proof.Machine.execImgActivate x s
  | .imgConfirm x => Sys2Proof.Machine.execImgConfirm x s
  | .rollbackCommit x => Sys2Proof.Machine.execRollbackCommit x s
  | .attestRequest x => Sys2Proof.Machine.execAttestRequest x s
  | .ownerProgram x hash => Sys2Proof.Machine.execOwnerProgram x hash s
  | .debugToken x data => Sys2Proof.Machine.execDebugToken x data s
  | .debugClose x => Sys2Proof.Machine.execDebugClose x s
  | .samplePreload preload => Sys2Proof.Machine.execSamplePreload preload s
  | .extest cells => Sys2Proof.Machine.execExtest cells s
  | .jtagReset lowNs => Sys2Proof.Machine.execJtagReset lowNs s
  | .railUndervoltage rail lowNs mv => Sys2Proof.Machine.execRailUndervoltage rail lowNs mv s
  | .thermtrip tj => Sys2Proof.Machine.execThermtrip tj s
  | .gddr7TemperatureReadout ch temp => Sys2Proof.Machine.execGddr7TemperatureReadout ch temp s
  | .tjCrossesHostCap tj => Sys2Proof.Machine.execTjCrossesHostCap tj s
  | .nanosecondsWrap => Sys2Proof.Machine.execNanosecondsWrap s
  | .servoUpdate => Sys2Proof.Machine.execServoUpdate s
  | .limitWindowClosure => Sys2Proof.Machine.execLimitWindowClosure s
  | .authExpiry => Sys2Proof.Machine.execAuthExpiry s
  | .authStepDecision => Sys2Proof.Machine.execAuthStepDecision s
  | .authStepApply => Sys2Proof.Machine.execAuthStepApply s
  | .ppsOutPulse => Sys2Proof.Machine.execPpsOutPulse s
  | .listenGapOpen => Sys2Proof.Machine.execListenGapOpen s
  | .listenGapClose => Sys2Proof.Machine.execListenGapClose s
  | .airEpochApply => Sys2Proof.Machine.execAirEpochApply s
  | .journalWriteComplete => Sys2Proof.Machine.execJournalWriteComplete s
  | .sessionHoldExpiry => Sys2Proof.Machine.execSessionHoldExpiry s
  | .indicationSend => Sys2Proof.Machine.execIndicationSend s
  | .owdTimeout => Sys2Proof.Machine.execOwdTimeout s
  | .remoteResetTimeout => Sys2Proof.Machine.execRemoteResetTimeout s
  | .dfeCommandReset => Sys2Proof.Machine.execDfeCommandReset s
  | .arbPhaseAlign => Sys2Proof.Machine.execArbPhaseAlign s
  | .contextRebuildComplete => Sys2Proof.Machine.execContextRebuildComplete s
  | .journalRebuildComplete => Sys2Proof.Machine.execJournalRebuildComplete s
  | .bucketLeak => Sys2Proof.Machine.execBucketLeak s
  | .divergenceComparison => Sys2Proof.Machine.execDivergenceComparison s
  | .muteComplete => Sys2Proof.Machine.execMuteComplete s
  | .referenceAbsent => Sys2Proof.Machine.execReferenceAbsent s
  | .rtcStopped => Sys2Proof.Machine.execRtcStopped s
  | .guardKeepaliveLoss => Sys2Proof.Machine.execGuardKeepaliveLoss s
  | .avsRetry => Sys2Proof.Machine.execAvsRetry s
  | .rtcAlarm => Sys2Proof.Machine.execRtcAlarm s
  | .watchExitComplete => Sys2Proof.Machine.execWatchExitComplete s
  | .powerOnReset => Sys2Proof.Machine.execPowerOnReset s
  | .updateOperationComplete => Sys2Proof.Machine.execUpdateOperationComplete s
  | .rollbackBurnComplete => Sys2Proof.Machine.execRollbackBurnComplete s
  | .attestReportReady => Sys2Proof.Machine.execAttestReportReady s
  | .jtagBypass => Sys2Proof.Machine.execJtagBypass s
  | .idcode => Sys2Proof.Machine.execIdcode s
  | .rtcOscillatorRuns => Sys2Proof.Machine.execRtcOscillatorRuns s

end Sys2Proof.Machine
end

