-- ==== Sys2Proof/Safety.lean ====
section
/-! DEFINITION. What a safe run is, and the terms that statements use: when a host's transfer is served with all its tests passed, the
reply that it then gets, and the parts of the state that a command leaves as they were. -/

namespace Sys2Proof.Safety

open Sys2Proof.Machine

/-- A step answers a next state. -/
def Completes (o : Host.Outcome State Fault Refusal) : Prop := ∃ t, o = .next t

/-- `k` steps from a state answer a next state. -/
def RunsFor (k : Nat) (s : State) : Prop := Completes (core.run k s)

/-- The number of bytes of a value of an object. -/
def lengthOf (key : Nat) (v : Val) : Nat :=
  match rowOf key with
  | some r => (encodeVal r.type v).length
  | none => 0

/-- A write of a value is served as it arrives, and passes the tests 1 to 6 of 05 R168; of a value longer than SEG_MAX, what arrives is the last
of its segments, and the open buffer still holds the others (05 R171). -/
def Accepts (s : State) (x : Xfer) (key : Nat) (v : Val) : Prop :=
  s.ready = true ∧ writeTests key (lengthOf key v) v s = .ok
    ∧ (1024 < lengthOf key v → segmentTests key (lengthOf key v) s = .ok ∧ bufferHolds key v (expireSegments (advance s x.dt)) = true)

/-- The state in which a write of a value is served: time has passed, and the buffer of a value longer than SEG_MAX is closed, with what SEG_TIMEOUT
has ended. -/
def atWrite (s : State) (x : Xfer) (key : Nat) (v : Val) : State :=
  let t := advance s x.dt
  if lengthOf key v ≤ 1024 then t else { t with svc := { (expireSegments t).svc with buffer := none } }

/-- The only message that the command sent is a DICT_REPLY to a write of an object, with a reason (05 R166, Table 5-7). -/
def Replied (s t : State) (x : Xfer) (key : Nat) (v : Val) (r : Reason) : Prop :=
  t.link.sent = s.link.sent ++
    [.dictReply ⟨x.seq, 0x0302, r, key, 0, lastOffset (lengthOf key v), lengthOf key v, enableByte key t, [], false⟩]

/-- Objects that differ at most where a list names them, and the three counters of replies (05 Table 5-14). -/
def ObjsBut (s t : State) (keys : List Nat) : Prop :=
  ∀ k, k ∉ keys → k ∉ [O.transfersServed, O.transfersRefused, O.busyReplies] → t.obj k = s.obj k

/-- The parts of a state, one for each field of it. -/
inductive Part
  | dict | blobs | image | imageBlobs | clock | time | nl | link | svc | pipe | sched | kiln | wb
  | units | hod | guard | tiles | bondWas | mortar | integ | fh | dfe | mem | power | boot | freeCtr | pending
  deriving DecidableEq, Repr

/-- A part is the same in two states. -/
def Part.same (s t : State) : Part → Prop
  | .dict => t.dict = s.dict
  | .blobs => t.blobs = s.blobs
  | .image => t.image = s.image
  | .imageBlobs => t.imageBlobs = s.imageBlobs
  | .clock => t.clock = s.clock
  | .time => t.time = s.time
  | .nl => t.nl = s.nl
  | .link => t.link = s.link
  | .svc => t.svc = s.svc
  | .pipe => t.pipe = s.pipe
  | .sched => t.sched = s.sched
  | .kiln => t.kiln = s.kiln
  | .wb => t.wb = s.wb
  | .units => t.units = s.units
  | .hod => t.hod = s.hod
  | .guard => t.guard = s.guard
  | .tiles => t.tiles = s.tiles
  | .bondWas => t.bondWas = s.bondWas
  | .mortar => t.mortar = s.mortar
  | .integ => t.integ = s.integ
  | .fh => t.fh = s.fh
  | .dfe => t.dfe = s.dfe
  | .mem => t.mem = s.mem
  | .power => t.power = s.power
  | .boot => t.boot = s.boot
  | .freeCtr => t.freeCtr = s.freeCtr
  | .pending => t.pending = s.pending

/-- Every part is as it was, but for those that a list names: the frame of a command. -/
def SameBut (s t : State) (parts : List Part) : Prop := ∀ p, p ∉ parts → Part.same s t p

/-- What time's passing may change beside a command's own effect (01 R12, R28, R47; 17 R565): the counts, the seconds of the pulse
qualifiers, and a resynchronisation of the guard that waits for a wrap. -/
def timeParts : List Part := [.clock, .time, .guard]

/-- The frame of a command: only the parts of one list change, and of the objects only those of another. -/
def Leaves (s t : State) (parts : List Part) (keys : List Nat) : Prop :=
  SameBut s t parts ∧ ∀ k, k ∉ keys → t.obj k = s.obj k

/-- A write that is served has its one reply, and beside it only the parts and the objects listed, the link's messages, the reply
counters, what time's passing changes, and the segment buffer of a value longer than SEG_MAX may differ. -/
def Answers (s t : State) (x : Xfer) (key : Nat) (v : Val) (r : Reason) (parts : List Part) (keys : List Nat) : Prop :=
  Replied s t x key v r ∧ SameBut s t (parts ++ .dict :: .link :: (if lengthOf key v ≤ 1024 then timeParts else .svc :: timeParts))
    ∧ ObjsBut s t keys

/-- A counter has advanced by `n`, wrapping after its maximum (05 R164). -/
def Counted (s t : State) (key n : Nat) : Prop := t.obj key = ((s.nat key + n) % counterTop key : Nat)

/-- An event's INDICATION waits to be sent at the end of the list, or the list of 64 was full (04 R131). -/
def Indicates (s t : State) (key unit : Nat) (detail : Bytes) (course : Nat) : Prop :=
  s.link.waiting.length < 64 → ∃ i ∈ t.link.waiting, i.key = key ∧ i.unit = unit ∧ i.detail = detail ∧ i.course = course

/-- Channel 0 is served as messages arrive, and no transfer of it is held or in segments (05 R166, R170, R171). -/
def Quiet (s : State) : Prop :=
  s.ready = true ∧ s.svc.held = [] ∧ s.svc.latch = none ∧ s.svc.buffer = none ∧ s.svc.discarded = none

/-- The port at which a request enters its target (14 R459). -/
def targetPort (s : State) (pkt : Packet) : Nat := stopPort (regionStop pkt.addr (regionOf s pkt.addr))

/-- A request's packet of `n` flits crosses the fabric to its target within the time that its source waits (14 R464 to R470, R479). -/
def Reaches (s : State) (pkt : Packet) (type n : Nat) : Prop :=
  (transit (.packet pkt.src (targetPort s pkt) pkt.tag type 0) n
    (holdRequest (newHeld s pkt type pkt.addr pkt.lines (targetPort s pkt) (regionDomain (regionOf s pkt.addr))) s)).2 = true

/-- A message of a symbol of a downlink course and stream port is due (06 R201, 09 R313): the course runs, the symbol and the port are its
own, and they lie within what a channel and a carrier have. -/
def LaunchDue (s : State) (chan course symbol k : Nat) (c : Course) : Prop :=
  1 ≤ chan ∧ chan ≤ 64 ∧ symbol < 14 ∧ k < 64 ∧ s.course (courseKey chan course) = some c ∧ dirOf course = 0 ∧ c.cancelled = false
    ∧ c.journalled = false ∧ c.state ≠ .opened ∧ c.first ≤ symbol ∧ symbol ≤ c.last ∧ s.hosted (chan - 1) = false
    ∧ k < s.nat (O.dlPorts (chan - 1))

/-- The state at the transmit instant of a symbol (03 R101). -/
def atLaunch (s : State) (chan symbol : Nat) (c : Course) : State := advanceToAir s (s.txInstant (chan - 1) c.slotAir symbol)

/-- A course message is the next request of its channel: its length agrees and is one that 04 R121 allows, the session is ACTIVE, no takeover and no request is in
progress, and its sequence is the one expected (04 R125, R126, R128). -/
def NextRequest (s : State) (h : CourseHdr) (length : Nat) : Prop :=
  1 ≤ h.chan ∧ h.chan ≤ 64 ∧ h.length = length ∧ length ≤ 65600 ∧ s.obj O.sessionState = 1 ∧ (s.chan h.chan).takeover = false
    ∧ (s.chan h.chan).req = none ∧ h.seq = (s.chan h.chan).nextReq

/-- The state in which such a message is judged (04 R128, R133): time has passed, and its channel expects the next sequence. -/
def atJudge (s : State) (h : CourseHdr) : State :=
  ((advance s h.dt).onChan h.chan fun c => { c with takeover := false, lastReq := h.seq }).onChan h.chan
    fun c => { c with req := none, nextReq := seqNext c.nextReq, owed := 0 }

/-- The reason with which a course message without data is judged, by the tests of 06 R195, after the requests before it (03 R99). -/
def verdictOf (s : State) (type : Nat) (h : CourseHdr) (desc : Bytes) : Reason :=
  (judgeRequest (atJudge s h).handled (askedOf (atJudge s h).handled ⟨type, h, 0, desc, 0, [], creditsOf h.length⟩)).1

/-- A course message has been judged: the newest record of the journal is its verdict, which returns its credits and those owed to its
channel, and the channel expects the next sequence (04 R129, R133, R134). -/
def Judged (s t : State) (type : Nat) (h : CourseHdr) (r : Reason) : Prop :=
  (∃ v, t.link.journal.getLast? = some (.verdict h.chan v) ∧ v.seq = h.seq ∧ v.type = type ∧ v.course = h.course ∧ v.reason = r
      ∧ v.credits = (s.chan h.chan).owed + creditsOf h.length)
    ∧ (t.chan h.chan).nextReq = seqNext h.seq ∧ (t.chan h.chan).req = none

/-- A task that has not ended runs on a tile slot, with this context (11 R392). -/
def OnSlot (s : State) (t : Nat) (c : Ctx) : Prop := t < 200 ∧ Store.find s.tiles t = some c ∧ c.ended = none

/-- The slot's context is replaced, and every other slot's is as it was. -/
def SlotBecomes (s s' : State) (t : Nat) (c : Ctx) : Prop :=
  Store.find s'.tiles t = some c ∧ ∀ u, u ≠ t → Store.find s'.tiles u = Store.find s.tiles u

/-- An instruction commits: the context becomes `c` with the pc past the instruction, and nothing but the slots' contexts changes. -/
def Commits (s s' : State) (t : Nat) (c : Ctx) : Prop := SlotBecomes s s' t { c with pc := c.pc + 4 } ∧ Leaves s s' [.tiles] []

/-- The elements of a vector result: an active element takes the result, an inactive one keeps its value, every other register stays, SAT
is set where an active element saturates, and the pc moves on (11 R365, R372, R374). -/
def LaneWise (c c' : Ctx) (long : Bool) (d b : Nat) (active : List Bool) (r : List (Nat × Bool)) : Prop :=
  (∀ i, i < r.length → laneOf b (vReg c' long d) i
      = if active.getD i false = true then (r.getD i (0, false)).1 % 2 ^ (8 * b) else laneOf b (vReg c long d) i)
    ∧ (∀ m, m ≠ d → vReg c' long m = vReg c long m) ∧ (if long = true then c'.s = c.s else c'.v = c.v)
    ∧ c' = { c with pc := c.pc + 4, s := c'.s, v := c'.v, vstat := vstatSetSat (anySat active r) c.vstat }

/-- An exception is raised (11 R393 to R395, Tables 11-12 to 11-14): at K one that F does not take enters S at S_TVEC with S_EPC, S_CAUSE and
S_ADDR written; any other enters F and, unless it is a call, ends the task; LAST_EXCEPTION says what was raised, and at K it is counted. -/
def Raises (s s' : State) (t : Nat) (c : Ctx) (code addr : Nat) : Prop :=
  (if c.level = 0 ∧ code ∉ [6, 7, 8, 10]
     then SlotBecomes s s' t { c with level := 1, prev := 0, sEpc := c.pc, sCause := BitVec.ofNat 32 (256 + code),
                                      sAddr := BitVec.ofNat 64 addr, pc := c.sTvec.setWidth 64 }
     else SlotBecomes s s' t { c with level := 2, prev := c.level, fEpc := if code = 10 then c.pc + 4 else c.pc,
                                      ended := if code = 10 then none else if code = 6 then some .dataLost else some .fault })
    ∧ (if c.level = 0 then Counted s s' (O.kExceptions t) 1 else s'.obj (O.kExceptions t) = s.obj (O.kExceptions t))
    ∧ s'.blob (O.lastException t) = lastBlob code c.level c.pc (BitVec.ofNat 64 addr)
    ∧ (∀ k, k ≠ O.lastException t → s'.blob k = s.blob k)
    ∧ Leaves s s' [.dict, .blobs, .tiles] [O.kExceptions t, O.fusedRefused, O.fusedLastRefusal]

/-- What stores of numbers leave, each of them `v i` to the device addresses `l i`, lowest byte first: every other byte of memory and every
other staged byte is as it was, and a byte of a store that no other store reaches is staged where it lies in a pallet of the task,
and is otherwise in memory, at both copies in header bond (11 R362, R387, R401). -/
def StoresLanes (s s' : State) (c c' : Ctx) (active : List Nat) (l : Nat → List Nat) (v : Nat → Nat) : Prop :=
  (∀ a, (∀ i ∈ active, ∀ b ∈ l i, a ∉ storedAt s b) → memByte s'.mem a = memByte s.mem a)
    ∧ (∀ a, (∀ i ∈ active, a ∉ l i) → Store.find c'.staged a = Store.find c.staged a)
    ∧ (∀ i ∈ active, ∀ m a, (l i)[m]? = some a → ((l i).flatMap (storedAt s)).Nodup →
        (∀ j ∈ active, j ≠ i → ∀ b ∈ l j, ∀ d ∈ storedAt s a, d ∉ storedAt s b) →
        if inPallets (taskPallets s c.tag) a = true then Store.find c'.staged a = some (BitVec.ofNat 8 (v i / 256 ^ m))
        else regionOf s a ≠ .feed → ∀ d ∈ storedAt s a, memByte s'.mem d = BitVec.ofNat 8 (v i / 256 ^ m))
    ∧ (∀ w ∈ s'.integ.poison, w ∈ s.integ.poison) ∧ s'.integ = { s.integ with poison := s'.integ.poison }
    ∧ Leaves s s' [.tiles, .mem, .integ] []

/-- A read that pops is served: its one reply holds the entry, and beside the parts listed only the link's messages, the reply counters
and what time's passing changes may differ (05 R169). -/
def Pops (s t : State) (x : Xfer) (key : Nat) (b : Bytes) (parts : List Part) : Prop :=
  t.link.sent = s.link.sent ++ [.dictReply ⟨x.seq, 0x0301, .ok, key, 0, 0, b.length, 0xFF, b, false⟩]
    ∧ SameBut s t (parts ++ .dict :: .link :: timeParts) ∧ ObjsBut s t []

/-- A detection of a cause stands: some mute in force covers its scope and holds the cause (17 R560, R566). -/
def Detected (t : State) (cause scope unit : Nat) : Prop :=
  ∃ m ∈ t.guard.mutes, scopeCovers t m.scope m.unit scope unit = true ∧ ∃ v, (cause, v) ∈ m.causes

/-- The frequency by which the working increment is steered lies within the clamp of 01 R14, ±100 ppm. -/
def Steady (s : State) : Prop := s.steered.natAbs ≤ 1759218604

/-- An exchange on the AVSBus has failed (18 R589, Table 18-8): no exchange runs, the rail keeps its voltage, the exchange is repeated after
1 ms, and AVS_FAULT is raised unless it has been since one last succeeded. -/
def ExchangeFails (s t : State) (cause target : Nat) : Prop :=
  t.power.rail.run = none ∧ t.power.rail.failed = some (target, t.clock.ticks + tickMs) ∧ t.power.rail.mv = s.power.rail.mv
    ∧ t.power.rail.faulted = true
    ∧ (if s.power.rail.faulted = true then t.obj O.avsFaultCount = s.obj O.avsFaultCount
       else Counted s t O.avsFaultCount 1
         ∧ Indicates s t O.avsFaultCount 0 (leBytes 1 0 ++ leBytes 1 cause ++ leBytes 2 target ++ leBytes 4 0) 0)

/-- The state at the opening of a capture's window in the wake in progress (18 R593). -/
def atWindow (s : State) (k : Nat) : State := advanceToAir s (s.power.watch.boundary + windowStart s k)

/-- The state at its closing. -/
def atClose (s : State) (k : Nat) : State := advanceToAir s (s.power.watch.boundary + windowStart s k + windowLength s k)

/-- The canonical form of what a state holds by address or number: memory and the dictionary's two tables (05 R157; 15 R493), and, each number
once, the UE contexts (06 R216), the weight-bank entries (08 R288), the leaky buckets (15 R518) and the arbiters (14 R478; 15 R514). -/
def Canonical (s : State) : Prop :=
  Memory.wf s.mem = true ∧ Store.wf factory s.dict = true ∧ Store.wf blobFactory s.blobs = true
    ∧ Store.rising s.pipe.ues = true ∧ Store.rising s.wb = true ∧ Store.rising s.integ.buckets = true
    ∧ Store.rising s.mortar.arbs = true ∧ Store.rising s.mortar.mc = true

end Sys2Proof.Safety
end

