-- ==== Sys2Proof/WellFormed.lean ====
section
/-! DEFINITION. Well-formed commands: every operand within the width of its field, and every unit, channel and register that a command names one
that the part has. -/

namespace Sys2Proof

/-- A transfer sequence has 48 bits (04 R126). -/
def Xfer.wf (x : Xfer) : Bool := decide (x.seq < 2 ^ 48)

/-- The header of a course-channel message: channels 1 to 64, and the widths of 04 Table 4-1. -/
def CourseHdr.wf (h : CourseHdr) : Bool :=
  decide (1 ≤ h.chan) && decide (h.chan ≤ 64) && decide (h.seq < 2 ^ 48) && decide (h.course < 2 ^ 32) && decide (h.gen < 256)
    && decide (h.ats < 2 ^ 64) && decide (32 ≤ h.length) && decide (h.length ≤ 65600) && h.length % 8 == 0

/-- A RESUME entry: two sequences and the credits (04 Table 4-10). -/
def ResumeEntry.wf (e : ResumeEntry) : Bool := decide (e.acked < 2 ^ 48) && decide (e.verdict < 2 ^ 48) && decide (e.credits < 2 ^ 32)

/-- An Announce: the widths of its fields. -/
def Announce.wf (a : Announce) : Bool :=
  decide (a.clockClass < 256) && decide (a.accuracy < 256) && decide (a.variance < 65536) && decide (a.priority2 < 256)
    && decide (a.identity < 2 ^ 64) && decide (a.steps < 65536)

/-- A PTP message: its sequence has 16 bits. -/
def PtpMsg.wf : PtpMsg → Bool
  | .sync id _ _ _ => decide (id < 65536)
  | .followUp id _ _ => decide (id < 65536)
  | .delayResp id _ _ _ => decide (id < 65536)
  | .delayReq id _ => decide (id < 65536)
  | .announce a => a.wf
  | .unicastRequest _ _ _ => true
  | .unicastGrant _ _ _ => true

/-- The header of a PTP message: its domain has 8 bits, and a port identity 80. -/
def PtpHead.wf (h : PtpHead) : Bool := decide (h.domain < 256) && decide (h.sender < 2 ^ 80)

/-- What processing measured of a reception, within the objects of 02 Table 2-4. -/
def NlMeasure.wf (m : NlMeasure) : Bool :=
  decide (m.ssbIndex < 64) && decide (m.halfBit < 2) && decide (m.evm < 65536) && decide (m.sigma < 65536)

/-- An Ethernet frame: its addresses and tag. -/
def Frame.wf (f : Frame) : Bool :=
  decide (f.dst < 2 ^ 48) && decide (f.src < 2 ^ 48) && decide (f.etherType < 65536) && decide (f.ecpriType < 256)
    && (match f.vlan with
        | some v => decide (v < 4096)
        | none => true)

/-- An IQ message: its eAxC, sequence and symbol, its exponents (09 R312), and its elements as cint16. -/
def IqMsg.wf (m : IqMsg) : Bool :=
  decide (m.eaxc < 65536) && decide (m.seq < 256) && decide (m.subseq < 128) && decide (m.symbol < 14) && m.exps.all (fun e => decide (e < 16))
    && m.iq.all fun x => decide (-32768 ≤ x.1) && decide (x.1 ≤ 32767) && decide (-32768 ≤ x.2) && decide (x.2 ≤ 32767)

/-- A vector instruction names 16 long or 32 short vectors, and 8 predicates (11 R364, Table 11-3). -/
def VFields.wf (f : VFields) : Bool := decide (f.d < 32) && decide (f.a < 32) && decide (f.b < 32) && decide (f.pg < 8)

/-- A vector load or store. -/
def VMFields.wf (f : VMFields) : Bool := decide (f.d < 32) && decide (f.base < 32) && decide (f.gs < 32) && decide (f.pg < 8)

/-- A gather or scatter. -/
def VGFields.wf (f : VGFields) : Bool := decide (f.vd < 32) && decide (f.vi < 32) && decide (f.base < 32) && decide (f.pg < 8)

/-- A request: one of 1,536 ports, and one to four whole lines (14 R461, R462). -/
def Packet.wf (p : Packet) : Bool := decide (p.src < 1536) && p.addr % 64 == 0 && decide (1 ≤ p.lines) && decide (p.lines ≤ 4)

/-- Whether a command is well-formed. -/
def Instr.wf : Instr → Bool
  | .writeLegacyMode x v => x.wf && decide (0 ≤ v) && decide (v < 2 ^ 8)
  | .ppsInEdge _ _ sub => decide (sub < 64)
  | .dfeSyncEdge _ _ => true
  | .pulseRequalify _ => true
  | .ppsLoss _ _ _ => true
  | .todFrameRx _ _ => true
  | .waitToRestoreExpiry _ => true
  | .writeServoEnable x v => x.wf && decide (0 ≤ v) && decide (v < 2 ^ 8)
  | .writeSourcePriority x _ v => x.wf && decide (0 ≤ v) && decide (v < 2 ^ 8)
  | .writePtpRole x v => x.wf && decide (0 ≤ v) && decide (v < 2 ^ 8)
  | .writeAuthMode x v => x.wf && decide (0 ≤ v) && decide (v < 2 ^ 8)
  | .guardStepConfirm _ => true
  | .triggerFire n => decide (n < 8)
  | .writeTriggerTarget x n target => x.wf && decide (n < 8) && decide (0 ≤ target) && decide (target < 2 ^ 128)
  | .readCapFifo x n => x.wf && decide (n < 8)
  | .ptpMessageRx _ port h m => decide (port < 24) && h.wf && m.wf
  | .ptpMessageTx port _ => decide (port < 24)
  | .synceOutputResume out => decide (out < 2)
  | .writeNlEnable x v => x.wf && decide (0 ≤ v) && decide (v < 2 ^ 8)
  | .nlDetection _ metric pci type _ => decide (metric < 65536) && decide (pci < 1008) && decide (type < 5)
  | .nlReceptionCommit _ clippedPermille => decide (clippedPermille ≤ 1000)
  | .nlResultWritten m => m.wf
  | .writeAirEpoch x v => x.wf && decide (0 ≤ v) && decide (v < 2 ^ 128)
  | .courseTentative h _ desc => h.wf && decide (desc.length ≤ 65536)
  | .courseRevise h _ desc => h.wf && decide (desc.length ≤ 65536)
  | .courseBind h => h.wf
  | .courseCancel h => h.wf
  | .dlTbData h _ _ data => h.wf && decide (data.length ≤ 65536)
  | .courseAutoBind chan course => decide (1 ≤ chan) && decide (chan ≤ 64) && decide (course < 2 ^ 32)
  | .courseInAir chan course => decide (1 ≤ chan) && decide (chan ≤ 64) && decide (course < 2 ^ 32)
  | .courseEgressComplete chan course => decide (1 ≤ chan) && decide (chan ≤ 64) && decide (course < 2 ^ 32)
  | .outcomeSend chan => decide (1 ≤ chan) && decide (chan ≤ 64)
  | .outcomeAck _ chan seq _ => decide (chan < 65536) && decide (seq < 2 ^ 48)
  | .operationLsExpiry _ => true
  | .operationLfCancel _ => true
  | .ucieLaneRepair module lanes => decide (module < 2) && decide (lanes ≤ 8)
  | .ucieModuleLost _ module => decide (module < 2)
  | .ucieModuleRetrained _ module => decide (module < 2)
  | .restoreHoldExpiry module => decide (module < 2)
  | .channelReturn chan => decide (chan ≤ 64)
  | .sidebandMessageRx _ module vendor code data => decide (module < 2) && decide (vendor < 65536) && decide (code < 256) && data.length == 8
  | .malformedMessageRx _ module units => decide (module < 2) && units.length % 32 == 0
  | .resumeOpen _ seq hostId credits => decide (seq < 2 ^ 48) && decide (hostId < 2 ^ 128) && credits.length == 64 && credits.all (· < 2 ^ 32)
  | .resumeModeResume _ seq hostId entries => decide (seq < 2 ^ 48) && decide (hostId < 2 ^ 128) && entries.length == 64 && entries.all ResumeEntry.wf
  | .resumeClose _ seq mode hostId => decide (seq < 2 ^ 48) && decide (2 ≤ mode) && decide (mode < 256) && decide (hostId < 2 ^ 128)
  | .writeSessionHold x v => x.wf && decide (0 ≤ v) && decide (v < 2 ^ 32)
  | .dictRead x index sub layer offset most => x.wf && decide (index < 65536) && decide (sub < 256) && decide (layer < 256) && decide (offset < 2 ^ 32) && decide (most < 2 ^ 32)
  | .dictReadDescriptor x index sub => x.wf && decide (index < 65536) && decide (sub < 256)
  | .dictWrite x index sub op offset total data => x.wf && decide (index < 65536) && decide (sub < 256) && decide (op < 256) && decide (offset < 2 ^ 32) && decide (total < 2 ^ 32) && decide (data.length ≤ 65552)
  | .dictRevertImage x index sub => x.wf && decide (index < 65536) && decide (sub < 256)
  | .dictRevertFactory x index sub => x.wf && decide (index < 65536) && decide (sub < 256)
  | .registerWrite x index sub _ => x.wf && decide (index < 65536) && decide (sub < 256)
  | .segmentTimeout _ => true
  | .enableDeferredCheck index sub => decide (index < 65536) && decide (sub < 256)
  | .readEnableLog x => x.wf
  | .writeCarrierEnable x n v => x.wf && decide (n < 64) && decide (0 ≤ v) && decide (v < 2 ^ 8)
  | .writeUeContext x data => x.wf && data.length == 64
  | .writeUeRelease x v => x.wf && decide (0 ≤ v) && decide (v < 2 ^ 16)
  | .kilnFeed _ _ => true
  | .kilnAttemptEnd _ _ => true
  | .kilnCancelToken _ => true
  | .kilnEngineFault kind n => decide (n < (match kind with | .decode => 68 | .encode => 34))
  | .leOperationEnd _ => true
  | .leCancelToken _ => true
  | .leEngineFault n => decide (n < 34)
  | .xeEngineFault n => decide (n < 17)
  | .wbDefine x => x.wf
  | .wbDelete x => x.wf
  | .writeWbWeights x _ => x.wf
  | .wbCommit x => x.wf
  | .wbCopyComplete entry => decide (entry < 4096)
  | .wbSwapDecision entry => decide (entry < 4096)
  | .wbSwapBoundary entry => decide (entry < 4096)
  | .writePortEnable x p v => x.wf && decide (p < 24) && decide (0 ≤ v) && decide (v < 2 ^ 8)
  | .portLinkUp p => decide (p < 24)
  | .fhLinkDown _ p _ => decide (p < 24)
  | .fecBerWindow p _ _ _ => decide (p < 24)
  | .failoverReturn carrier => decide (carrier < 64)
  | .portShutdownComplete p => decide (p < 24)
  | .frameRx _ p f => decide (p < 24) && f.wf
  | .uplaneMessageRx _ p m => decide (p < 24) && m.wf
  | .oneWayDelayMsgRx _ p src id _ _ _ => decide (p < 24) && decide (src < 2 ^ 48) && decide (id < 256)
  | .remoteResetResponseRx _ p id => decide (p < 24) && decide (id < 65536)
  | .writeFwdRules x _ => x.wf
  | .dlCplaneSend chan course rec _ => decide (1 ≤ chan) && decide (chan ≤ 64) && decide (course < 2 ^ 32) && decide (rec < 65536)
  | .ulCplaneSend chan course _ => decide (1 ≤ chan) && decide (chan ≤ 64) && decide (course < 2 ^ 32)
  | .uplaneLaunch chan course symbol port _ _ => decide (1 ≤ chan) && decide (chan ≤ 64) && decide (course < 2 ^ 32) && decide (symbol < 14) && decide (port < 64)
  | .upTxLate chan course symbol => decide (1 ≤ chan) && decide (chan ≤ 64) && decide (course < 2 ^ 32) && decide (symbol < 14)
  | .ulWindowClose chan course symbol => decide (1 ≤ chan) && decide (chan ≤ 64) && decide (course < 2 ^ 32) && decide (symbol < 14)
  | .owdStartRequest x => x.wf
  | .owdStartFollowUp x => x.wf
  | .remoteResetSend x => x.wf
  | .dfeResetAll x => x.wf
  | .writeTaps x chain _ _ => x.wf && decide (chain < 128)
  | .commitTaps x chain _ => x.wf && decide (chain < 128)
  | .coefSwapDecision chain => decide (chain < 128)
  | .coefFadeStart chain => decide (chain < 128)
  | .coefFadeEnd chain => decide (chain < 128)
  | .coefCopyComplete chain => decide (chain < 128)
  | .coefCrcCheck chain _ _ => decide (chain < 128)
  | .thrBlockEnd chain => decide (chain < 128)
  | .thrHoldoffEnd chain => decide (chain < 128)
  | .txWindowOpen carrier => decide (carrier < 64)
  | .txWindowClose carrier => decide (carrier < 64)
  | .txgateEdge g _ => decide (g < 16)
  | .scalarRegisterOp t _ gd ga gb => decide (t < 200) && decide (gd < 32) && decide (ga < 32) && decide (gb < 32)
  | .scalarImmediateOp t _ gd ga _ => decide (t < 200) && decide (gd < 32) && decide (ga < 32)
  | .wideImmediate t gd field _ imm => decide (t < 200) && decide (gd < 32) && decide (field < 4) && decide (imm < 65536)
  | .scalarLoad t gd ga _ size _ => decide (t < 200) && decide (gd < 32) && decide (ga < 32) && [1, 2, 4, 8].contains size
  | .scalarStore t gd ga _ size => decide (t < 200) && decide (gd < 32) && decide (ga < 32) && [1, 2, 4, 8].contains size
  | .branch t _ ga gb _ => decide (t < 200) && decide (ga < 32) && decide (gb < 32)
  | .jump t _ _ => decide (t < 200)
  | .vectorArithmetic t _ _ f => decide (t < 200) && f.wf
  | .vectorMultiply t _ _ f => decide (t < 200) && f.wf
  | .vectorPermute t _ _ f => decide (t < 200) && f.wf
  | .vectorLoad t f => decide (t < 200) && f.wf
  | .vectorStore t f => decide (t < 200) && f.wf
  | .gather t f => decide (t < 200) && f.wf
  | .scatter t _ f => decide (t < 200) && f.wf
  | .firstFaultGather t f => decide (t < 200) && f.wf
  | .pspan t _ pd ga gb _ => decide (t < 200) && decide (pd < 8) && decide (ga < 32) && decide (gb < 32)
  | .predicateOp t _ pd pa pb gd _ => decide (t < 200) && decide (pd < 8) && decide (pa < 8) && decide (pb < 8) && decide (gd < 32)
  | .controlRegisterAccess t _ g number => decide (t < 200) && decide (g < 32) && decide (number < 4096)
  | .fence t => decide (t < 200)
  | .syscall t => decide (t < 200)
  | .fcall t => decide (t < 200)
  | .breakpoint t => decide (t < 200)
  | .eret t => decide (t < 200)
  | .tend t g => decide (t < 200) && decide (g < 32)
  | .taskEndReport t => decide (t < 200)
  | .taskStart t => decide (t < 200)
  | .tileCancel t => decide (t < 200)
  | .tileFault t => decide (t < 200)
  | .bondMismatch pair => decide (pair < 100)
  | .spareSelfTest pair _ => decide (pair < 100)
  | .writeTileVl x t v => x.wf && decide (t < 200) && decide (0 ≤ v) && decide (v < 2 ^ 16)
  | .tileVlApply t => decide (t < 200)
  | .writeBondMode x pair v => x.wf && decide (pair < 100) && decide (0 ≤ v) && decide (v < 2 ^ 8)
  | .bondChangeComplete pair => decide (pair < 100)
  | .fuse t gd ga cls _ => decide (t < 200) && decide (gd < 32) && decide (ga < 32) && decide (cls < 4)
  | .fusedJobSend t slot => decide (t < 200) && decide (slot < 8)
  | .fwait t gd ga => decide (t < 200) && decide (gd < 32) && decide (ga < 32)
  | .ftest t gd ga => decide (t < 200) && decide (gd < 32) && decide (ga < 32)
  | .fcancel t ga => decide (t < 200) && decide (ga < 32)
  | .bfb t ga _ => decide (t < 200) && decide (ga < 32)
  | .bff t cls _ => decide (t < 200) && decide (cls < 4)
  | .fusedPublication t slot _ _ => decide (t < 200) && decide (slot < 8)
  | .dispatch _ unit => decide (unit < 4096)
  | .promotion _ => true
  | .operationEnd _ _ => true
  | .prefetchCopyComplete t _ => decide (t < 200)
  | .prefetchWaitExpiry t => decide (t < 200)
  | .writePartEnable x p v => x.wf && decide (p < 8) && decide (0 ≤ v) && decide (v < 2 ^ 8)
  | .writeTraceEnable x v => x.wf && decide (0 ≤ v) && decide (v < 2 ^ 8)
  | .readTraceRecords x => x.wf
  | .readReq pkt _ => pkt.wf
  | .write pkt mask data _ => pkt.wf && mask.length == pkt.lines && data.length == 64 * pkt.lines
  | .message pkt _ _ => decide (pkt.src < 1536) && decide (pkt.addr < 1536)
  | .readResp src _ _ _ => decide (src < 1536)
  | .writeAck src _ _ => decide (src < 1536)
  | .messageAck src _ _ => decide (src < 1536)
  | .linkReplay ring => decide (ring < 8)
  | .requestTimeout src _ => decide (src < 1536)
  | .requestRetryResend src _ => decide (src < 1536)
  | .ringLinkFault ring stop _ => decide (ring < 8) && decide (stop < 48)
  | .foldNoticeRx ring stop _ => decide (ring < 8) && decide (stop < 48)
  | .reverseHoldExpiry ring => decide (ring < 8)
  | .ringRestore ring => decide (ring < 8)
  | .jointPathFault ring stop => decide (ring < 8) && decide (stop < 48)
  | .writeArbTable x _ _ => x.wf
  | .arbCommit x _ => x.wf
  | .arbSwapDecision _ => true
  | .arbSwap _ => true
  | .edcMismatch ch _ => decide (ch < 16)
  | .channelRetrainComplete ch _ => decide (ch < 16)
  | .channelQueueRetry ch src _ => decide (ch < 16) && decide (src < 1536)
  | .gddr7ChannelLost ch _ => decide (ch < 16)
  | .gddr7Scrub ch _ _ => decide (ch < 16)
  | .palletStoreScrub slice _ => decide (slice < 24)
  | .tileMemoryScrub t _ => decide (t < 200)
  | .writeRetiredPages x _ => x.wf
  | .writeRetiredBanks x _ => x.wf
  | .readErrLog x => x.wf
  | .readMcRecord x => x.wf
  | .hodDescriptorEnd engine channel => decide (engine < 24) && decide (channel < 16)
  | .hodResponseEnd engine channel _ => decide (engine < 24) && decide (channel < 16)
  | .hodChainSignal engine channel => decide (engine < 24) && decide (channel < 16)
  | .haltHoldExpiry engine _ => decide (engine < 24)
  | .hodRelease x v => x.wf && decide (0 ≤ v) && decide (v < 2 ^ 8)
  | .diagStart x => x.wf
  | .diagStop x => x.wf
  | .referenceFrequencyCheck _ => true
  | .guardAudit carrier _ => decide (carrier < 64)
  | .guardConfigCrcCheck chain _ => decide (chain < 128)
  | .powerMeterBlock carrier _ => decide (carrier < 64)
  | .guardSelfCheck _ code => decide (code < 256)
  | .guardArmed _ => true
  | .muteRelease x v => x.wf && decide (0 ≤ v) && decide (v < 2 ^ 16)
  | .guardResync x => x.wf
  | .dfeChainFault chain => decide (chain < 128)
  | .palletSliceFault slice => decide (slice < 24)
  | .managementCoreWatchdog core => decide (core < 4)
  | .unitRetire x v => x.wf && decide (0 ≤ v) && decide (v < 2 ^ 16)
  | .faultClear x => x.wf
  | .injArm x => x.wf
  | .injRestore x => x.wf
  | .readMuteLog x => x.wf
  | .hostVote x d v => x.wf && decide (d < 32) && decide (0 ≤ v) && decide (v < 2 ^ 8)
  | .domainTransitionStart d => decide (d < 32)
  | .domainDrained d => decide (d < 32)
  | .domainEnterRunComplete d => decide (d < 32)
  | .avsAck _ => true
  | .avsPoll _ => true
  | .pmbusRead readings => readings.length == 3
  | .writeWatchEnable x v => x.wf && decide (0 ≤ v) && decide (v < 2 ^ 8)
  | .watchCplaneSend k _ => decide (k < 8)
  | .watchWindowOpen k => decide (k < 8)
  | .watchWindowClose k => decide (k < 8)
  | .coldReset _ => true
  | .warmReset _ => true
  | .resetCmdWarm x => x.wf
  | .resetCmdCold x => x.wf
  | .imgErase x => x.wf
  | .imgData x _ => x.wf
  | .imgVerify x => x.wf
  | .imgActivate x => x.wf
  | .imgConfirm x => x.wf
  | .rollbackCommit x => x.wf
  | .attestRequest x => x.wf
  | .ownerProgram x hash => x.wf && hash.length == 32
  | .debugToken x data => x.wf && data.length == 5460
  | .debugClose x => x.wf
  | .samplePreload _ => true
  | .extest _ => true
  | .jtagReset _ => true
  | .railUndervoltage rail _ _ => decide (rail < 5)
  | .thermtrip _ => true
  | .gddr7TemperatureReadout ch _ => decide (ch < 16)
  | .tjCrossesHostCap _ => true
  | .nanosecondsWrap => true
  | .servoUpdate => true
  | .limitWindowClosure => true
  | .authExpiry => true
  | .authStepDecision => true
  | .authStepApply => true
  | .ppsOutPulse => true
  | .listenGapOpen => true
  | .listenGapClose => true
  | .airEpochApply => true
  | .journalWriteComplete => true
  | .sessionHoldExpiry => true
  | .indicationSend => true
  | .owdTimeout => true
  | .remoteResetTimeout => true
  | .dfeCommandReset => true
  | .arbPhaseAlign => true
  | .contextRebuildComplete => true
  | .journalRebuildComplete => true
  | .bucketLeak => true
  | .divergenceComparison => true
  | .muteComplete => true
  | .referenceAbsent => true
  | .rtcStopped => true
  | .guardKeepaliveLoss => true
  | .avsRetry => true
  | .rtcAlarm => true
  | .watchExitComplete => true
  | .powerOnReset => true
  | .updateOperationComplete => true
  | .rollbackBurnComplete => true
  | .attestReportReady => true
  | .jtagBypass => true
  | .idcode => true
  | .rtcOscillatorRuns => true

end Sys2Proof
end

