-- ==== Sys2Proof/Certificates/Slice0/Obligations.lean ====
section
/-! DEFINITION. The statements for the provers: what the rules of the spec say that commands do, with what they leave as it was. -/

open Sys2Proof Sys2Proof.Machine Sys2Proof.Safety

/-! ## Site time (01) -/

/-- Host writes of LEGACY_MODE, the source priorities, PTP_ROLE, AUTH_MODE, TARGET and SERVO_ENABLE: what each sets, its reply, when it
is refused, and what stays (01 R18, R41, R45, R63, R67). -/
def Obligations.TimeBaseWrites : Prop :=
  (∀ (x : Xfer) (v : Int) (s : State), Accepts s x O.legacyMode (.num v) →
    ∃ t, exec (.writeLegacyMode x v) s = .next t ∧ t.obj O.legacyMode = v ∧ Replied s t x O.legacyMode (.num v) .ok
      ∧ (s.obj O.legacyMode = 0 → v = 1 → t.clock.legacy = (advance s x.dt).legacyNs * 2 ^ 24)
      ∧ SameBut s t (.dict :: .link :: timeParts) ∧ ObjsBut s t [O.legacyMode, O.changeCount])
  ∧ (∀ (x : Xfer) (src : Source) (v : Int) (s : State), Accepts s x (prioKey src) (.num v) →
    ∃ t, exec (.writeSourcePriority x src v) s = .next t ∧ SameBut s t (.dict :: .link :: timeParts)
      ∧ ObjsBut s t [prioKey src, O.changeCount]
      ∧ (if s.isOn O.servoEnable = true ∧ servoCheck (s.change (prioKey src) v) ≠ .ok
         then t.obj (prioKey src) = s.obj (prioKey src) ∧ Replied s t x (prioKey src) (.num v) .noTimeSource
         else t.obj (prioKey src) = v ∧ Replied s t x (prioKey src) (.num v) .ok))
  ∧ (∀ (x : Xfer) (v : Int) (s : State), Accepts s x O.ptpRole (.num v) →
    ∃ t, exec (.writePtpRole x v) s = .next t ∧ SameBut s t (.dict :: .link :: timeParts)
      ∧ ObjsBut s t [O.ptpRole, O.changeCount]
      ∧ (if s.isOn O.servoEnable = true ∧ servoCheck (s.change O.ptpRole v) ≠ .ok
         then t.obj O.ptpRole = s.obj O.ptpRole ∧ Replied s t x O.ptpRole (.num v) .noTimeSource
         else t.obj O.ptpRole = v ∧ Replied s t x O.ptpRole (.num v) .ok))
  ∧ (∀ (x : Xfer) (v : Int) (s : State), Accepts s x O.authMode (.num v) →
    ∃ t, exec (.writeAuthMode x v) s = .next t
      ∧ (if (0 < s.obj O.authOffsetS ∧ s.obj O.authOffsetNs < 0) ∨ (s.obj O.authOffsetS < 0 ∧ 0 < s.obj O.authOffsetNs)
         then t.obj O.authStatus = s.obj O.authStatus ∧ Replied s t x O.authMode (.num v) .valueRange
         else Replied s t x O.authMode (.num v) .ok ∧ (s.time.servo.lastRefused = none →
           t.obj O.authStatus = 1 ∧ t.time.servo.authMode = v.toNat ∧ t.time.servo.armedAt = s.clock.ticks + x.dt
           ∧ SameBut s t (.dict :: .link :: timeParts) ∧ ObjsBut s t [O.authStatus])))
  ∧ (∀ (x : Xfer) (n : Nat) (v : Int) (s : State), n < 8 → Accepts s x (O.trigTarget n) (.num v) →
    ∃ t, exec (.writeTriggerTarget x n v) s = .next t ∧ SameBut s t (.dict :: .link :: timeParts)
      ∧ ObjsBut s t [O.trigTarget n, O.trigStatus n, O.changeCount]
      ∧ (if countOf v.toNat ≤ (advance s x.dt).clock.count
         then t.obj (O.trigTarget n) = s.obj (O.trigTarget n) ∧ Replied s t x (O.trigTarget n) (.num v) .tooLate
         else t.obj (O.trigTarget n) = v ∧ t.obj (O.trigStatus n) = 1 ∧ Replied s t x (O.trigTarget n) (.num v) .ok))
  ∧ (∀ (x : Xfer) (s : State), Accepts s x O.servoEnable (.num 1) → s.obj O.servoEnable = 0 → s.obj O.bootState ≠ 5 →
    ∃ t, exec (.writeServoEnable x 1) s = .next t ∧ t.obj O.servoEnable = (if servoCheck s = .ok then 1 else 0)
      ∧ Replied s t x O.servoEnable (.num 1) (servoCheck s) ∧ SameBut s t (.dict :: .svc :: .link :: timeParts)
      ∧ ObjsBut s t [O.servoEnable, O.lastCheckObject, O.lastCheckReason, O.enableLogCount, O.changeCount])
  ∧ (∀ (x : Xfer) (s : State), Accepts s x O.servoEnable (.num 0) → s.obj O.servoEnable = 1 →
    ∃ t, exec (.writeServoEnable x 0) s = .next t ∧ t.obj O.servoEnable = 3 ∧ Replied s t x O.servoEnable (.num 0) .ok
      ∧ SameBut s t (.dict :: .svc :: .link :: timeParts) ∧ ObjsBut s t [O.servoEnable, O.changeCount])

/-- Edges of the pulse inputs: a glitch is counted and changes nothing else; an edge in the window is the expected edge, one outside is a
stray; a storm or a loss ends after three clean seconds; and a level held for more than 1.1 s is a loss (01 R24, R25, R27 to R29,
R645). -/
def Obligations.PulseInputs : Prop :=
  (∀ (dt lowNs sub : Nat) (s : State), lowNs < 100 →
    ∃ t, exec (.ppsInEdge dt lowNs sub) s = .next t ∧ Counted s t O.ppsGlitches 1
      ∧ t.time.pps = (advance s dt).time.pps ∧ SameBut s t (.dict :: timeParts)
      ∧ ∀ k, k ≠ O.ppsGlitches → t.obj k = s.obj k)
  ∧ (∀ (dt lowNs sub prev : Nat) (s : State), 100 ≤ lowNs → (advance s dt).time.pps.lastEdge = some prev →
    ∃ t, exec (.ppsInEdge dt lowNs sub) s = .next t
      ∧ (if inPpsWindow prev ((advance s dt).clock.count + sub * nsUnit / 10) = true
         then t.time.pps.lastEdge = some ((advance s dt).clock.count + sub * nsUnit / 10)
           ∧ t.time.pps.expected = (advance s dt).time.pps.expected + 1 ∧ t.obj O.ppsStrays = s.obj O.ppsStrays
         else Counted s t O.ppsStrays 1))
  ∧ (∀ (dt lowNs sub : Nat) (s : State), 100 ≤ lowNs → (advance s dt).time.pps.lastEdge = none →
    (advance s dt).time.pps.candidate = none →
    ∃ t, exec (.ppsInEdge dt lowNs sub) s = .next t
      ∧ t.time.pps.candidate = some ((advance s dt).clock.count + sub * nsUnit / 10) ∧ t.dict = s.dict)
  ∧ (∀ (dt lowNs : Nat) (s : State), lowNs < 100 →
    ∃ t, exec (.dfeSyncEdge dt lowNs) s = .next t ∧ t = advance s dt)
  ∧ (∀ (dt lowNs : Nat) (s : State), 100 ≤ lowNs → (advance s dt).time.dfeSync.lastEdge = none →
    s.obj O.dfeSyncPeriod = 0 → s.obj O.dfeSyncState = 0 → (advance s dt).time.dfeSync.edges < 4 →
    (advance s dt).airRunning = false →
    ∃ t, exec (.dfeSyncEdge dt lowNs) s = .next t ∧ t.time.dfeSync.lastEdge = some (advance s dt).clock.count
      ∧ t.obj O.dfeSyncState = 1)
  ∧ (∀ (i : PulseInput) (s : State), (s.obj (stateKey i) = 2 ∨ s.obj (stateKey i) = 3) → 3 ≤ (s.pulse i).clean →
    ∃ t, exec (.pulseRequalify i) s = .next t ∧ t.obj (stateKey i) = 1 ∧ SameBut s t [.dict, .time]
      ∧ ∀ k, k ≠ stateKey i → t.obj k = s.obj k)
  ∧ (∀ (i : PulseInput) (dt heldNs : Nat) (s : State), (s.obj (stateKey i) = 1 ∨ s.obj (stateKey i) = 2) → 1100000000 < heldNs →
    ∃ t, exec (.ppsLoss i dt heldNs) s = .next t ∧ t.obj (stateKey i) = 3 ∧ (i = .pps → (t.pulse i).lastEdge = none)
      ∧ Counted s t (match i with | .pps => O.ppsLossCount | .dfeSync => O.dfeSyncLossCount) 1
      ∧ Indicates s t (match i with | .pps => O.ppsLossCount | .dfeSync => O.dfeSyncLossCount)
          (match i with | .pps => 0 | .dfeSync => 1) [] 0
      ∧ SameBut s t (.dict :: .link :: timeParts))

/-- Time of day, PTP and SyncE: a time of day in its interval labels the edge; a one-step Sync heard in SLAVE from the port's master gives the
difference of its instants, and in no other state does anything; an Announce is kept where it is the first, its sender's next, or better; a one-step Sync
of a MASTER leaves with its instant at the bump, and a two-step one keeps it for its Follow_Up; and a SyncE output resumes 1 s after its
lane locked (01 R34, R53 to R56, R58, R59, R644; of the order of Announces log entry 45). -/
def Obligations.TimeOfDayAndPtp : Prop :=
  (∀ (dt : Nat) (frame : Bytes) (s : State) (e : PpsEdge) (last : Nat) (second : Int) (off : Option Int) (locked : Bool),
    todOf (advance s dt) frame = some (second, off, locked) → s.obj O.todLabel = 0 →
    (advance s dt).time.gnss.edge = some e → (advance s dt).time.pps.lastEdge = some last →
    (advance s dt).time.gnss.labelled = false → last + 100000000 * nsUnit ≤ (advance s dt).clock.count →
    (advance s dt).clock.count ≤ last + 900000000 * nsUnit → e.second = some second →
    ∃ t, exec (.todFrameRx dt frame) s = .next t ∧ t.time.gnss.labelled = true ∧ t.time.gnss.todOk = locked
      ∧ (locked = true → e.used = false → t.time.servo.meas.gnss = some (gnssMeasure e second))
      ∧ SameBut s t (.dict :: timeParts) ∧ ∀ k, k ∉ [O.utcOffset, O.changeCount] → t.obj k = s.obj k)
  ∧ (∀ (dt p id : Nat) (h : PtpHead) (origin corr : Int) (s : State), p < 24 → ptpRuns s p = true → ptpHeard s h = true →
    ∃ t, exec (.ptpMessageRx dt p h (.sync id origin corr false)) s = .next t
      ∧ (if ptpState (advance s dt) p = 9 ∧ ((advance s dt).ptpPort p).hears h.sender = true
         then (t.ptpPort p).syncDiff
           = some (psOf ((advance s dt).clock.count - countOfPs (ptpCorrection s p).2) - origin - corr)
         else t.time.ptp = (advance s dt).time.ptp ∧ t.time.offsets = (advance s dt).time.offsets)
      ∧ SameBut s t timeParts)
  ∧ (∀ (dt p : Nat) (h : PtpHead) (a : Announce) (s : State), p < 24 → ptpRuns s p = true → ptpHeard s h = true →
    s.obj (O.portPtpRole p) = 2 → s.obj O.ptpRole ≠ 3 →
    ∃ t, exec (.ptpMessageRx dt p h (.announce a)) s = .next t
      ∧ (t.ptpPort p).best = (match ((advance s dt).ptpPort p).best with
         | some b => if b.sender = h.sender ∨ comesBefore (rankOf s p ⟨a, h.sender⟩) (rankOf s p b) = true then some ⟨a, h.sender⟩ else some b
         | none => some ⟨a, h.sender⟩)
      ∧ (∀ q, q ≠ p → t.ptpPort q = (advance s dt).ptpPort q) ∧ SameBut s t timeParts)
  ∧ (∀ (p r : Nat) (via : PtpOver) (s : State), p < 24 → ptpRuns s p = true → viaFits s via = true → ptpRate s p via .sync = some r →
    ptpState (advanceTicks s (ptpDue s p via .sync r)) p = 6 → ptpSourced (advanceTicks s (ptpDue s p via .sync r)) = true →
    ∃ t, exec (.ptpMessageTx p ⟨via, .sync⟩) s = .next t ∧ Counted s t (O.txFrames p) 1 ∧ ptpDue s p via .sync r ≤ t.clock.ticks
      ∧ (if s.obj (O.stepMode p) = 0
         then t.time.ptpSent = some ⟨p, .sync, via, s.nat O.ptpDomain, wireNat (s.blob (O.portMac p)), s.frameTag p,
             secondsOf (t.clock.count + countOfPs (ptpCorrection s p).1), nanosOf (t.clock.count + countOfPs (ptpCorrection s p).1),
             ((t.clock.count + countOfPs (ptpCorrection s p).1) % nsUnit / 2 ^ 32 : Nat)⟩
         else (via, t.clock.count + countOfPs (ptpCorrection s p).1) ∈ (t.ptpPort p).followUp)
      ∧ SameBut s t (.dict :: .freeCtr :: timeParts) ∧ ∀ k, k ≠ O.txFrames p → t.obj k = s.obj k)
  ∧ (∀ (out locked : Nat) (s : State), out < 2 → Store.find s.time.laneLock (synceLane s out) = some locked →
    ∃ t, exec (.synceOutputResume out) s = .next t ∧ bitOf (t.nat O.squelched) out = false ∧ locked + 156250000 ≤ t.clock.ticks
      ∧ SameBut s t (.dict :: timeParts) ∧ ∀ k, k ≠ O.squelched → t.obj k = s.obj k)

/-- The servo: SERVO_ENABLE written 0 completes at the next update, where a LOCKED servo with TIME_VALID 1 enters HOLDOVER with f as it was
and no source selected; a source that has stayed qualified may be restored; the closure of LIMIT_ACTION begins; and the nanoseconds
wrap comes (01 R12, R22, R40, R41, R52; its readings log entries 43 and 44). -/
def Obligations.ServoUpdates : Prop :=
  (∀ s : State, s.obj O.servoEnable = 3 → s.obj O.timeValid = 1 → s.obj O.servoState = 2 →
    ∃ t, exec .servoUpdate s = .next t ∧ t.obj O.servoEnable = 0 ∧ t.obj O.selectedSource = 0
      ∧ (t.obj O.servoState = 3 ∨ t.obj O.servoState = 4) ∧ t.obj O.freqWord = s.obj O.freqWord
      ∧ Counted s t O.holdoverEnterCount 1 ∧ t.obj O.timeValid = 1)
  ∧ (∀ (x : Source) (since : Nat) (s : State), s.time.servo.qualSince.get x = some since →
    qualified (advanceTicks s (since + s.nat O.waitToRestore * 156250000)) x = true →
    ∃ t, exec (.waitToRestoreExpiry x) s = .next t ∧ t.time.servo.restored.get x = true
      ∧ since + s.nat O.waitToRestore * 156250000 ≤ t.clock.ticks ∧ SameBut s t timeParts)
  ∧ (∀ s : State, s.obj O.servoState = 4 → s.obj O.limitAction = 1 →
    (s.time.servo.limitClose = false ∨ s.time.servo.limitUntil.isSome = true) →
    ∃ t, exec .limitWindowClosure s = .next t ∧ t.time.servo.limitClose = true ∧ t.time.servo.limitUntil = none
      ∧ t.time.servo.limitFrom = t.airNow ∧ SameBut s t timeParts)
  ∧ (∀ s : State, Steady s → ∃ t, exec .nanosecondsWrap s = .next t ∧ nextWrap s.clock.count ≤ t.clock.count ∧ SameBut s t timeParts)

/-- Authorised corrections and the units on site time: expiry after 60 s; the step's decision while no carrier is enabled, the guard's
confirmation and the step at a wrap at least 100 µs later; a trigger that fires; PPS_OUT; and a capture that a read pops (01 R45, R47,
R62 to R65; their readings log entries 43 and 44). -/
def Obligations.AuthorisedSteps : Prop :=
  (∀ s : State, (s.obj O.authStatus = 1 ∨ s.obj O.authStatus = 2) →
    ∃ t, exec .authExpiry s = .next t ∧ t.obj O.authStatus = 5 ∧ s.time.servo.armedAt + 9375000000 ≤ t.clock.ticks
      ∧ SameBut s t (.dict :: timeParts) ∧ ∀ k, k ≠ O.authStatus → t.obj k = s.obj k)
  ∧ (∀ (x : Source) (s : State), s.time.servo.authSrc = some x → s.obj O.authStatus = 2 → s.noCarrier = true →
    ∃ t, exec .authStepDecision s = .next t
      ∧ (if withinAuth s ((s.time.servo.err.get x).getD 0) = true
         then t.obj O.authStatus = 3 ∧ t.time.servo.step = some (x, ⟨(s.time.servo.err.get x).getD 0, s.clock.ticks, false⟩)
         else t.obj O.authStatus = 4 ∧ t.time.servo.step = s.time.servo.step)
      ∧ SameBut s t [.dict, .time] ∧ ∀ k, k ≠ O.authStatus → t.obj k = s.obj k)
  ∧ (∀ (x : Source) (w : Waiting) (s : State), s.obj O.guardState ≠ 2 → s.time.servo.step = some (x, w) →
    ∃ t, exec (.guardStepConfirm .step) s = .next t ∧ t.time.servo.step = some (x, { w with confirmed := true })
      ∧ SameBut s t [.time])
  ∧ (∀ (w : Waiting) (s : State), s.obj O.guardState ≠ 2 → s.clock.newEpoch = some w →
    ∃ t, exec (.guardStepConfirm .epoch) s = .next t ∧ t.clock.newEpoch = some { w with confirmed := true }
      ∧ SameBut s t [.clock])
  ∧ (∀ (x : Source) (w : Waiting) (s : State), s.time.servo.step = some (x, w) → w.confirmed = true →
    w.decided + 15625 ≤ s.clock.ticks → s.noCarrier = true →
    ∃ t, exec .authStepApply s = .next t
      ∧ (if s.obj O.servoEnable = 1 then t.obj O.servoState = 1 ∧ t.obj O.selectedSource = sourceCode x
         else t.obj O.servoState = s.obj O.servoState ∧ t.obj O.selectedSource = s.obj O.selectedSource)
      ∧ t.time.servo.step = none
      ∧ t.clock.count = (stepCount w.value (advanceTo s (nextWrap s.clock.count))).clock.count)
  ∧ (∀ (n : Nat) (s : State), n < 8 → armed s n = true → Steady s →
    ∃ t, exec (.triggerFire n) s = .next t ∧ countOf (s.nat (O.trigTarget n)) ≤ t.clock.count
      ∧ (if s.nat (O.trigPeriod n) = 0 then t.obj (O.trigStatus n) = 2 ∧ t.obj (O.trigTarget n) = s.obj (O.trigTarget n)
         else t.obj (O.trigStatus n) = 3
           ∧ t.obj (O.trigTarget n) = stimeOf (countOf (s.nat (O.trigTarget n)) + s.nat (O.trigPeriod n) * nsUnit))
      ∧ SameBut s t (.dict :: timeParts))
  ∧ (∀ s : State, s.obj O.ppsOutMode = 2 → (∀ n < 8, armed s n = false) →
    ∃ t, exec .ppsOutPulse s = .next t ∧ t.time.ppsRise = t.clock.count
      ∧ t.time.ppsFall = t.clock.count + s.nat O.ppsOutWidth * nsUnit ∧ SameBut s t timeParts)
  ∧ (∀ (x : Xfer) (n c : Nat) (rest : List Nat) (s : State), n < 8 → s.ready = true →
    Store.at [] s.time.captures n = c :: rest →
    ∃ t, exec (.readCapFifo x n) s = .next t ∧ Store.at [] t.time.captures n = rest
      ∧ t.link.sent = s.link.sent ++ [.dictReply ⟨x.seq, 0x0301, .ok, O.capFifo n, 0, 0, 16, 0xFF, leBytes 16 (stimeOf c), false⟩]
      ∧ SameBut s t (.dict :: .link :: timeParts) ∧ ObjsBut s t [])


/-! ## Network listen (02) -/

/-- NL_ENABLE: written 1 in OFF the check is made at once, and on acceptance the unit is IDLE and holds its chain; written 0 in ON with
no gap or processing running it is OFF at once and its chain is free, and else the shut-down waits. A listen gap opens with no
reception, and a read of the missed-capture log pops the oldest record (02 R68, R71, R72; 05 R173, R174; its readings log entry 46). -/
def Obligations.ListenEnableAndGap : Prop :=
  (∀ (x : Xfer) (s : State), Accepts s x O.nlEnable (.num 1) → s.obj O.nlEnable = 0 → s.obj O.bootState ≠ 5 →
    ∃ t, exec (.writeNlEnable x 1) s = .next t
      ∧ Answers s t x O.nlEnable (.num 1) (nlCheck s) [.svc, .dfe] [O.nlEnable, O.nlState, O.dfeUser (s.nat O.nlChain),
          O.lastCheckObject, O.lastCheckReason, O.enableLogCount, O.changeCount]
      ∧ (if nlCheck s = .ok
         then t.obj O.nlEnable = 1 ∧ t.obj O.nlState = 1 ∧ t.obj (O.dfeUser (s.nat O.nlChain)) = 0x80
         else t.obj O.nlEnable = 0 ∧ t.obj O.nlState = s.obj O.nlState
           ∧ t.obj (O.dfeUser (s.nat O.nlChain)) = s.obj (O.dfeUser (s.nat O.nlChain))))
  ∧ (∀ (x : Xfer) (s : State), Accepts s x O.nlEnable (.num 0) → s.obj O.nlEnable = 1 →
    ∃ t, exec (.writeNlEnable x 0) s = .next t
      ∧ Answers s t x O.nlEnable (.num 0) .ok [.svc] [O.nlEnable, O.nlState, O.dfeUser (s.nat O.nlChain), O.changeCount]
      ∧ (if nlBusy s = true then t.obj O.nlEnable = 3 ∧ t.obj O.nlState = s.obj O.nlState
         else t.obj O.nlEnable = 0 ∧ t.obj O.nlState = 0
           ∧ (s.obj (O.dfeUser (s.nat O.nlChain)) = 0x80 → t.obj (O.dfeUser (s.nat O.nlChain)) = 0xFF)))
  ∧ (∀ (g : Int) (s : State), s.obj O.nlEnable = 1 → (s.obj O.nlState = 1 ∨ s.obj O.nlState = 3) → s.airRunning = true →
    s.obj O.watchState = 0 → nextGapAfter s s.airNow = some g →
    ∃ t, exec .listenGapOpen s = .next t ∧ t.obj O.nlState = 2 ∧ t.nl.current = none ∧ t.nl.frozen = false
      ∧ t.nl.openedAt = g ∧ t.nl.work = s.nl.work
      ∧ (∀ n < 64, t.obj (O.txwOpen n) =
          if s.obj O.nlMode = 0 ∧ bitOf (s.nat O.gapMuteMask) n = true ∧ s.obj (O.txwOpen n) = 1 then 0
          else s.obj (O.txwOpen n))
      ∧ Leaves s t (.dict :: .nl :: timeParts) ([O.nlState] ++ (List.range 64).map fun n => O.txwOpen n))
  ∧ (∀ (x : Xfer) (s : State) (oldest : Bytes) (rest : List Bytes), s.ready = true → s.nl.missed = oldest :: rest →
    ∃ t, exec (.readMcRecord x) s = .next t ∧ t.nl.missed = rest
      ∧ t.link.sent = s.link.sent ++
          [.dictReply ⟨x.seq, 0x0301, .ok, O.mcRecord, 0, 0, oldest.length, 0xFF, oldest, false⟩]
      ∧ SameBut s t (.nl :: .dict :: .link :: timeParts) ∧ ObjsBut s t [])

/-- A search: the first correlation of an enabled type at a centre that is searched, at DET_THRESHOLD, becomes the reception; one stronger by
CAPTURE_MARGIN replaces a reception that nothing has committed, as a false detection with the gain lowered, and is logged as a missed
capture against a committed one; a reception of which more than 1 % of the samples clipped is dropped, and else a PBCH whose CRC holds
commits an NR reception; the gap closes into processing with a committed reception and into IDLE without; and a result of a known
neighbour is committed (02 R71, R74 to R79, R81 to R85, Table 2-6; its readings log entry 46). -/
def Obligations.ListenSearch : Prop :=
  (∀ (dt metric pci type : Nat) (centreHz : Int) (s : State), s.obj O.nlState = 2 → bitOf (s.nat O.numerologyMask) type = true →
    s.obj O.detThreshold ≤ (metric : Int) → centreHz ∈ searchCentres s → s.nl.current = none →
    ∃ t, exec (.nlDetection dt metric pci type centreHz) s = .next t ∧ t.nl.current = some ⟨metric, pci, type, false⟩
      ∧ t.nl.frozen = true ∧ t.nl.gain = s.nl.gain ∧ Leaves s t (.nl :: timeParts) [])
  ∧ (∀ (dt metric pci type : Nat) (centreHz : Int) (c : Reception) (s : State), s.obj O.nlState = 2 →
    bitOf (s.nat O.numerologyMask) type = true → s.obj O.detThreshold ≤ (metric : Int) → centreHz ∈ searchCentres s →
    s.nl.current = some c → (c.metric : Int) + s.obj O.captureMargin ≤ metric →
    ∃ t, exec (.nlDetection dt metric pci type centreHz) s = .next t
      ∧ (if c.committed = true
         then t.nl.current = some c ∧ Counted s t O.mcCount 1 ∧ Indicates s t O.mcCount 0xFFFF [] 0
           ∧ t.nl.missed = keepLast 16 (s.nl.missed ++ [missedRecord t.clock.count pci metric type c])
           ∧ Leaves s t (.dict :: .nl :: .link :: timeParts) [O.mcCount, O.indicationsDropped]
         else t.nl.current = some ⟨metric, pci, type, false⟩ ∧ Counted s t O.falseDetections 1 ∧ t.nl.freezing = true
           ∧ t.nl.gain = nlGain (s.nl.gain - (ceilDiv (metric - c.metric) 10 : Nat))
           ∧ Leaves s t (.dict :: .nl :: timeParts) [O.falseDetections]))
  ∧ (∀ (dt metric pci type : Nat) (centreHz : Int) (s : State),
    ((metric : Int) < s.obj O.detThreshold ∨ centreHz ∉ searchCentres s ∨ bitOf (s.nat O.numerologyMask) type = false) →
    ∃ t, exec (.nlDetection dt metric pci type centreHz) s = .next t ∧ Leaves s t timeParts [])
  ∧ (∀ (clipped : Nat) (ok : Bool) (c : Reception) (s : State), s.obj O.nlState = 2 → s.nl.current = some c →
    c.committed = false → c.type ≠ 4 →
    ∃ t, exec (.nlReceptionCommit (.pbch ok) clipped) s = .next t
      ∧ (if 10 < clipped then t.nl.current = none ∧ Counted s t O.falseDetections 1
           ∧ Leaves s t [.dict, .nl] [O.falseDetections]
         else t.nl.current = some { c with committed := ok } ∧ Leaves s t [.nl] []))
  ∧ (∀ s : State, s.obj O.nlState = 2 → s.obj O.nlEnable = 1 →
    ∃ t, exec .listenGapClose s = .next t ∧ t.nl.current = none
      ∧ t.nl.work = s.nl.work ++ (s.nl.current.filter (·.committed)).toList.map (·, t.clock.ticks)
      ∧ t.obj O.nlState = (if t.nl.work = [] then 1 else 3)
      ∧ Leaves s t (.dict :: .nl :: timeParts) [O.nlState])
  ∧ (∀ (m : NlMeasure) (c : Reception) (closed : Nat) (rest : List (Reception × Nat)) (n : Nat) (s : State), s.obj O.nlState = 3 →
    s.obj O.nlEnable = 1 → s.nl.work = (c, closed) :: rest → neighbourOf s c.pci c.type = some n →
    ∃ t, exec (.nlResultWritten m) s = .next t ∧ t.obj O.resultPci = c.pci ∧ t.obj O.resultType = c.type
      ∧ t.obj O.resultMetric = c.metric ∧ t.obj O.resultSinr = m.sinr ∧ t.obj O.resultEvm = m.evm
      ∧ t.obj O.resultSigma = m.sigma ∧ t.obj O.resultFreqErr = m.freqErr
      ∧ t.obj O.nlState = (if rest = [] then 1 else 3)
      ∧ Counted s t O.resultsCommitted 1 ∧ t.nl.work = rest ∧ t.nl.hasResult = true
      ∧ (bitOf (t.nat O.resultFlags) 2 = decide (m.sinr < s.obj O.sinrFloor))
      ∧ (bitOf (t.nat O.resultFlags) 3 = !nlTrusted s c.pci c.type)
      ∧ Leaves s t [.dict, .nl, .freeCtr, .time] [O.resultTime, O.resultOffset, O.resultPci, O.resultType, O.resultSinr, O.resultEvm,
          O.resultSigma, O.resultFreqErr, O.resultMetric, O.resultFlags, O.resultsCommitted, O.nlState])

/-! ## Air time and courses (03) -/

/-- AIR_EPOCH: the written value reads at once and waits for its wrap; at the next nanoseconds wrap, once the guard has confirmed it and
100 µs after the write, it is the epoch in force (03 R92). -/
def Obligations.AirEpoch : Prop :=
  (∀ (x : Xfer) (v : Int) (s : State), Accepts s x O.airEpoch (.num v) →
    ∃ t, exec (.writeAirEpoch x v) s = .next t ∧ t.obj O.airEpoch = v
      ∧ t.clock.newEpoch = some ⟨countOf v.toNat, s.clock.ticks + x.dt, false⟩ ∧ t.clock.epoch = s.clock.epoch
      ∧ Answers s t x O.airEpoch (.num v) .ok [] [O.airEpoch, O.changeCount])
  ∧ (∀ (w : Waiting) (s : State), Steady s → s.clock.newEpoch = some w → w.confirmed = true → w.decided + 15625 ≤ s.clock.ticks →
    ∃ t, exec .airEpochApply s = .next t ∧ t.clock.epoch = w.value.toNat ∧ t.clock.newEpoch = none
      ∧ nextWrap s.clock.count ≤ t.clock.count ∧ Leaves s t timeParts [])
  ∧ (∀ (w : Waiting) (s : State), s.clock.newEpoch = some w → w.confirmed = false →
    ∃ t, exec .airEpochApply s = .next t ∧ t.clock.epoch = s.clock.epoch ∧ t.clock.newEpoch = some w ∧ Leaves s t timeParts [])

/-- Course messages: each that is the next request of its channel is judged and answered by one verdict in the journal; one that passes
claims what it needs, a tentative course with it the channel's next outcome sequence, and a refused revision counts on its course. With
the ACCEPT that its journal record lets go out, a tentative course is OPEN at generation 0, a revision takes its course to its
generation, a bind binds an OPEN course for the host, and a cancel ends its course without transmission. A message whose sequence is not
expected, or that arrives while data of the request in progress is missing, is refused with SEQUENCE_RANGE, and nothing else of the channel moves
(03 R99, R100, R104, R107, R110; 04 R128, R133, R134; the readings of its tests, and that while data is missing no message is expected, log entry
47). -/
def Obligations.CourseRequests : Prop :=
  (∀ (h : CourseHdr) (desc : Bytes) (s : State), NextRequest s h (64 + pad8 desc.length) →
    ∃ t, exec (.courseTentative h 0 desc) s = .next t ∧ Judged s t 0x0101 h (verdictOf s 0x0101 h desc)
      ∧ (if verdictOf s 0x0101 h desc = .ok
         then (∃ k, (t.chan h.chan).claims = (s.chan h.chan).claims ++ [k] ∧ k.req.hdr = h ∧ k.req.type = 0x0101 ∧ k.req.desc = desc)
           ∧ (t.chan h.chan).nextOut = seqNext (s.chan h.chan).nextOut
         else (t.chan h.chan).claims = (s.chan h.chan).claims ∧ (t.chan h.chan).nextOut = (s.chan h.chan).nextOut)
      ∧ Leaves s t (.dict :: .link :: timeParts) [O.tooLateTotal, O.journalFullRefusals h.chan.pred])
  ∧ (∀ (h : CourseHdr) (desc : Bytes) (s : State), NextRequest s h (64 + pad8 desc.length) →
    ∃ t, exec (.courseRevise h 0 desc) s = .next t ∧ Judged s t 0x0102 h (verdictOf s 0x0102 h desc)
      ∧ (if verdictOf s 0x0102 h desc = .ok
         then (∃ k, (t.chan h.chan).claims = (s.chan h.chan).claims ++ [k] ∧ k.req.hdr = h ∧ k.req.type = 0x0102 ∧ k.req.desc = desc)
           ∧ t.pipe = s.pipe
         else (t.chan h.chan).claims.map (·.req) = (s.chan h.chan).claims.map (·.req)
           ∧ ∀ c, s.course (courseKey h.chan h.course) = some c →
               t.course (courseKey h.chan h.course) = some { c with revRef := c.revRef + 1 })
      ∧ Leaves s t (.dict :: .link :: .pipe :: timeParts)
          [O.tooLateTotal, O.journalFullRefusals h.chan.pred, O.refusedTooLate (h.chan - 1)])
  ∧ (∀ (h : CourseHdr) (s : State), NextRequest s h 32 →
    ∃ t, exec (.courseBind h) s = .next t ∧ Judged s t 0x0103 h (verdictOf s 0x0103 h [])
      ∧ (if verdictOf s 0x0103 h [] = .ok
         then ∃ k, (t.chan h.chan).claims = (s.chan h.chan).claims ++ [k] ∧ k.req.hdr = h ∧ k.req.type = 0x0103
         else (t.chan h.chan).claims = (s.chan h.chan).claims)
      ∧ Leaves s t (.dict :: .link :: timeParts) [O.tooLateTotal, O.journalFullRefusals h.chan.pred])
  ∧ (∀ (h : CourseHdr) (s : State), NextRequest s h 32 →
    ∃ t, exec (.courseCancel h) s = .next t ∧ Judged s t 0x0104 h (verdictOf s 0x0104 h [])
      ∧ (if verdictOf s 0x0104 h [] = .ok
         then ∃ k, (t.chan h.chan).claims = (s.chan h.chan).claims ++ [k] ∧ k.req.hdr = h ∧ k.req.type = 0x0104
         else (t.chan h.chan).claims = (s.chan h.chan).claims)
      ∧ Leaves s t (.dict :: .link :: timeParts) [O.tooLateTotal, O.journalFullRefusals h.chan.pred])
  ∧ (∀ (chan : Nat) (v : Verdict) (rest : List JournalWrite) (k : Claim) (d : Desc) (s : State), s.obj O.sessionState = 1 →
    journalStuck s = false → s.link.journal = .verdict chan v :: rest →
    (s.chan chan).claims.find? (fun k => k.req.hdr.seq == v.seq) = some k → k.req.type = 0x0101 →
    parseDesc (dirOf k.req.hdr.course) k.req.desc = some d →
    ∃ t, exec .journalWriteComplete s = .next t ∧ t.link.sent = s.link.sent ++ [.verdict chan v false]
      ∧ (∃ c, t.course (courseKey k.req.hdr.chan k.req.hdr.course) = some c ∧ c.state = .opened ∧ c.gen = 0
          ∧ c.ats = k.req.hdr.ats ∧ c.reqSeq = k.req.hdr.seq ∧ c.outSeq = v.outSeq ∧ c.recs = d.recs)
      ∧ SameBut s t [.dict, .kiln, .link, .mem, .pipe, .sched, .svc])
  ∧ (∀ (chan : Nat) (v : Verdict) (rest : List JournalWrite) (k : Claim) (d : Desc) (c : Course) (s : State),
    s.obj O.sessionState = 1 → journalStuck s = false → s.link.journal = .verdict chan v :: rest →
    (s.chan chan).claims.find? (fun k => k.req.hdr.seq == v.seq) = some k → k.req.type = 0x0102 →
    parseDesc (dirOf k.req.hdr.course) k.req.desc = some d →
    s.course (courseKey k.req.hdr.chan k.req.hdr.course) = some c → c.state = .opened →
    ∃ t, exec .journalWriteComplete s = .next t ∧ t.link.sent = s.link.sent ++ [.verdict chan v false]
      ∧ (∃ c', t.course (courseKey k.req.hdr.chan k.req.hdr.course) = some c' ∧ c'.state = .opened ∧ c'.gen = k.req.hdr.gen
          ∧ c'.revOk = c.revOk + 1 ∧ c'.outSeq = c.outSeq ∧ c'.recs = d.recs)
      ∧ SameBut s t [.dict, .kiln, .link, .mem, .pipe, .sched, .svc, .wb])
  ∧ (∀ (chan : Nat) (v : Verdict) (rest : List JournalWrite) (k : Claim) (c : Course) (s : State), s.obj O.sessionState = 1 →
    journalStuck s = false → s.link.journal = .verdict chan v :: rest →
    (s.chan chan).claims.find? (fun k => k.req.hdr.seq == v.seq) = some k →
    s.course (courseKey k.req.hdr.chan k.req.hdr.course) = some c →
    (k.req.type = 0x0103 → c.state = .opened →
      ∃ t, exec .journalWriteComplete s = .next t ∧ t.link.sent = s.link.sent ++ [.verdict chan v false]
        ∧ t.course (courseKey k.req.hdr.chan k.req.hdr.course) = some { c with state := .bound, hostBound := true }
        ∧ Leaves s t [.link, .pipe, .sched] [])
    ∧ (k.req.type = 0x0104 → c.state ≠ .ended → c.state ≠ .closed →
      ∃ t, exec .journalWriteComplete s = .next t ∧ t.link.sent = s.link.sent ++ [.verdict chan v false]
        ∧ t.course (courseKey k.req.hdr.chan k.req.hdr.course) = some { c with state := .ended, cancelled := true }
        ∧ Leaves s t [.blobs, .dict, .kiln, .link, .pipe, .sched, .wb]
            [O.loadUpdates (courseKey k.req.hdr.chan k.req.hdr.course / 2 ^ 32 - 1), O.cancelledJobs, O.iterations]))
  ∧ (∀ (h : CourseHdr) (s : State), 1 ≤ h.chan → h.chan ≤ 64 → h.length = 32 → s.obj O.sessionState = 1 →
    (s.chan h.chan).takeover = false → ((s.chan h.chan).req.isSome = true ∨ h.seq ≠ (s.chan h.chan).nextReq) →
    ∃ t, exec (.courseBind h) s = .next t ∧ Counted s t (O.seqRefusals h.chan.pred) 1
      ∧ (t.chan h.chan).nextReq = (s.chan h.chan).nextReq ∧ t.link.journal = s.link.journal
      ∧ (∃ v, t.link.sent = s.link.sent ++ [.verdict h.chan v false] ∧ v.seq = h.seq ∧ v.reason = .sequenceRange
          ∧ v.credits = (s.chan h.chan).owed + creditsOf h.length)
      ∧ Leaves s t (.dict :: .link :: timeParts) [O.seqRefusals h.chan.pred])

/-- Transport-block data at the next offset of the request in progress is kept, and with the last of it the request is judged; a course
that is OPEN at its binding point binds itself; a bound course is in the air at its first instant, and FINISHING after its last
(03 R100, R107, R112; 04 R128). -/
def Obligations.CourseLife : Prop :=
  (∀ (h : CourseHdr) (handle offset : Nat) (data : Bytes) (r : Request) (s : State), 1 ≤ h.chan → h.chan ≤ 64 →
    h.length = 64 + pad8 data.length → h.length ≤ 65600 → s.obj O.sessionState = 1 → (s.chan h.chan).takeover = false →
    (s.chan h.chan).req = some r → r.hdr.chan = h.chan → belongs h offset data.length r = true →
    ∃ t, exec (.dlTbData h handle offset data) s = .next t
      ∧ (if r.got + data.length = r.tbBytes
         then (t.chan h.chan).req = none ∧ (t.chan h.chan).nextReq = seqNext (s.chan h.chan).nextReq
           ∧ ∃ v, t.link.journal.getLast? = some (.verdict h.chan v) ∧ v.seq = r.hdr.seq ∧ v.course = r.hdr.course
         else (t.chan h.chan).req = some { r with got := r.got + data.length, data := r.data ++ [(handle, data)],
                                                  cost := r.cost + creditsOf h.length }
           ∧ t.link.journal = s.link.journal ∧ Leaves s t (.link :: timeParts) []))
  ∧ (∀ (chan course : Nat) (c : Course) (s : State), s.course (courseKey chan course) = some c → c.state = .opened →
    ∃ t, exec (.courseAutoBind chan course) s = .next t
      ∧ t.course (courseKey chan course) = some { c with state := .bound, hostBound := false }
      ∧ Leaves s t (.pipe :: .sched :: timeParts) [])
  ∧ (∀ (chan course : Nat) (c : Course) (s : State), s.course (courseKey chan course) = some c → c.state = .bound →
    ∃ t, exec (.courseInAir chan course) s = .next t
      ∧ t.course (courseKey chan course) = some { c with state := .inAir } ∧ Leaves s t (.pipe :: timeParts) [])
  ∧ (∀ (chan course : Nat) (c : Course) (s : State), s.course (courseKey chan course) = some c → c.state = .inAir →
    ∃ t, exec (.courseEgressComplete chan course) s = .next t
      ∧ (∃ c', t.course (courseKey chan course) = some c' ∧ c'.state = .finishing ∧ c'.gen = c.gen ∧ c'.outSeq = c.outSeq)
      ∧ SameBut s t (.dict :: .kiln :: .link :: .pipe :: .sched :: .svc :: timeParts))

/-- Outcomes: the next outcome of a channel is sent when the host's credit covers it; an acknowledgement of it closes its course and
clears its records. At LS an operation that waits expires with an empty token, and at LF one that runs on a core tile or a codec or
layer engine is asked to cancel (03 R112; 04 R130, R137; 13 R450, R451). -/
def Obligations.OutcomesAndExpiry : Prop :=
  (∀ (chan : Nat) (o : Outcome) (s : State), 1 ≤ chan → chan ≤ 64 → s.obj O.sessionState = 1 →
    (s.chan chan).outcomes.find? (fun o => o.seq == (s.chan chan).sendNext) = some o → creditsOf o.length ≤ (s.chan chan).hostCredits →
    ∃ t, exec (.outcomeSend chan) s = .next t
      ∧ t.link.sent = s.link.sent ++ [.outcome chan o ((s.chan chan).replay.contains o.seq)]
      ∧ (t.chan chan).sendNext = seqNext (s.chan chan).sendNext
      ∧ (t.chan chan).hostCredits = (s.chan chan).hostCredits - creditsOf o.length
      ∧ (∀ c, s.course (courseKey chan o.course) = some c → c.state ≠ .closed →
          t.course (courseKey chan o.course) = some { c with state := .ended })
      ∧ Leaves s t [.dict, .blobs, .link, .pipe, .freeCtr, .wb] [O.loadUpdates (courseKey chan o.course / 2 ^ 32 - 1)])
  ∧ (∀ (dt chan seq credits : Nat) (s : State), 1 ≤ chan → chan ≤ 64 → s.obj O.sessionState = 1 → (s.chan chan).takeover = false →
    seqNotLater seq (s.chan chan).lastSent = true → seqNotLater seq (s.chan chan).lastAcked = false →
    ∃ t, exec (.outcomeAck dt chan seq credits) s = .next t ∧ (t.chan chan).lastAcked = seq
      ∧ (t.chan chan).hostCredits = (s.chan chan).hostCredits + credits
      ∧ (t.chan chan).outcomes = (s.chan chan).outcomes.filter (fun o => !seqNotLater o.seq seq)
      ∧ (∀ o ∈ (s.chan chan).outcomes, seqNotLater o.seq seq = true → ∀ c, t.course (courseKey chan o.course) = some c →
          c.outSeq = o.seq → c.state = .closed)
      ∧ Leaves s t (.link :: .pipe :: timeParts) [])
  ∧ (∀ (tag : Nat) (o : Op) (s : State), s.op tag = some o → (o.state = .waiting ∨ o.state = .ready) → o.old = false →
    (o.id.kind = .dec → o.state = .ready) →
    ∃ t, exec (.operationLsExpiry tag) s = .next t
      ∧ (∀ o', t.op tag = some o' → o'.state = .expired ∧ o'.published = true ∧ o'.empty = true)
      ∧ SameBut s t (.dict :: .kiln :: .link :: .pipe :: .sched :: .svc :: timeParts))
  ∧ (∀ (tag : Nat) (o : Op) (s : State), s.op tag = some o → (o.state = .running ∨ o.state = .suspended) → o.cancel = false →
    o.old = false → o.cls ≠ 4 → o.cls ≠ 5 → o.carrier < 64 →
    ∃ t, exec (.operationLfCancel tag) s = .next t ∧ t.op tag = some { o with cancel := true }
      ∧ Counted s t O.cancelledAtLf 1 ∧ Counted s t (O.expiredOps o.carrier) 1
      ∧ Leaves s t (.dict :: .pipe :: .sched :: timeParts)
          [O.cancelledAtLf, O.expiredOps o.carrier, O.traceWritten, O.traceLost])

/-! ## The Cenen link (04) -/

/-- Modules: repaired lanes are counted; a lost module's channels move to the other, each with a takeover window, and with the other
down too the session is suspended; a module that retrains waits for RESTORE_HOLD beside one in service, and alone serves every
channel; at the end of the hold it is in service; and a channel, channel 0 too, returns to its mapped module once its messages on the other are acknowledged (04 R115 to R120, R142; when the adapter acknowledges log entry 48). -/
def Obligations.LinkModules : Prop :=
  (∀ (m lanes : Nat) (s : State), m < 2 → (s.link.mod m).up = true →
    ∃ t, exec (.ucieLaneRepair m lanes) s = .next t
      ∧ Counted s t (if m = 0 then O.lanesRepairedU0 else O.lanesRepairedU1) lanes
      ∧ Leaves s t [.dict] [if m = 0 then O.lanesRepairedU0 else O.lanesRepairedU1])
  ∧ (∀ (dt m : Nat) (s : State), m < 2 → (s.link.mod m).up = true → (s.link.mod (1 - m)).up = true →
    ∃ t, exec (.ucieModuleLost dt m) s = .next t ∧ t.link.mod m = ⟨false, none⟩ ∧ t.link.mod (1 - m) = s.link.mod (1 - m)
      ∧ t.obj O.cenenLinkState = (if m = 0 then 3 else 2) ∧ Counted s t O.moduleLostCount 1
      ∧ Indicates s t O.moduleLostCount m [] 0 ∧ t.link.module0 = 1 - m
      ∧ t.link.sent = s.link.sent ++ (s.link.flight.filter fun f => f.module == m && !f.acked t.clock.ticks).map (·.msg)
      ∧ (∀ c ch, Store.find s.link.chans c = some ch →
          Store.find t.link.chans c = some (if ch.module = m then { ch with module := 1 - m, takeover := true } else ch))
      ∧ Leaves s t (.dict :: .link :: timeParts) [O.cenenLinkState, O.moduleLostCount, O.indicationsDropped])
  ∧ (∀ (dt m : Nat) (s : State), m < 2 → (s.link.mod m).up = true → (s.link.mod (1 - m)).up = false → s.obj O.sessionState = 1 →
    ∃ t, exec (.ucieModuleLost dt m) s = .next t ∧ t.link.mod m = ⟨false, none⟩ ∧ t.obj O.cenenLinkState = 0
      ∧ t.obj O.sessionState = 2 ∧ t.link.cause = 1 ∧ t.link.suspended = t.clock.ticks ∧ t.link.holder = s.link.holder
      ∧ Counted s t O.moduleLostCount 1
      ∧ Leaves s t (.dict :: .link :: timeParts) [O.cenenLinkState, O.moduleLostCount, O.indicationsDropped, O.sessionState])
  ∧ (∀ (dt m : Nat) (s : State), m < 2 → (s.link.mod m).up = false →
    ∃ t, exec (.ucieModuleRetrained dt m) s = .next t ∧ Leaves s t (.dict :: .link :: timeParts) [O.cenenLinkState]
      ∧ (if (s.link.mod (1 - m)).up = true
         then t.link.mod m = ⟨false, some t.clock.ticks⟩ ∧ t.link.chans = s.link.chans ∧ t.obj O.cenenLinkState = (if m = 0 then 3 else 2)
         else t.link.mod m = ⟨true, none⟩ ∧ t.obj O.cenenLinkState = (if m = 0 then 2 else 3) ∧ t.link.module0 = m
           ∧ ∀ c ch, Store.find s.link.chans c = some ch → Store.find t.link.chans c = some { ch with module := m }))
  ∧ (∀ (m since : Nat) (s : State), m < 2 → (s.link.mod m).trainedAt = some since → (s.link.mod (1 - m)).up = true →
    ∃ t, exec (.restoreHoldExpiry m) s = .next t ∧ t.link.mod m = ⟨true, none⟩ ∧ t.obj O.cenenLinkState = 1
      ∧ since + s.nat O.restoreHold * 156250 ≤ t.clock.ticks ∧ t.link.chans = s.link.chans
      ∧ t.link.module0 = s.link.module0 ∧ Leaves s t (.dict :: .link :: timeParts) [O.cenenLinkState])
  ∧ (∀ (chan m : Nat) (s : State), chan ≤ 64 → m = (if chan ≠ 0 ∧ bitOf s.link.map (chan - 1) = true then 1 else 0) →
    (chan = 0 ∨ s.obj O.sessionState ≠ 0) → (s.link.mod m).up = true →
    ∃ t, exec (.channelReturn chan) s = .next t
      ∧ (if chan = 0 then t.link.module0 = m ∧ t.link.chans = s.link.chans
         else t.chan chan = { s.chan chan with module := m } ∧ (∀ c, c ≠ chan → t.chan c = s.chan c) ∧ t.link.module0 = s.link.module0)
      ∧ flightOver s.link chan (1 - m) ≤ t.clock.ticks ∧ Leaves s t (.link :: timeParts) [])

/-- Messages beside the rules: one of another vendor or code on the sideband is discarded and counted, and eight bytes of a channel-0
message wait for the rest of it; a message that the receiver delimits and may not take is discarded and counted, and its credits are
owed to its channel; a run of units that no length field delimits is counted once, however many stretches it comes in, and a message that is not
whole waits for the units that follow; and the oldest INDICATION that waits is sent under
the next sequence (04 R115, R121, R125, R129, R131). -/
def Obligations.LinkDiscards : Prop :=
  (∀ (dt m vendor code : Nat) (data : Bytes) (s : State), m < 2 → vendor ≠ s.nat O.sbVendorId ∨ code ≠ 0 →
    ∃ t, exec (.sidebandMessageRx dt m vendor code data) s = .next t ∧ Counted s t O.formatErrors 1
      ∧ Leaves s t (.dict :: timeParts) [O.formatErrors])
  ∧ (∀ (dt m : Nat) (data : Bytes) (s : State), m < 2 →
    ∃ t, exec (.sidebandMessageRx dt m (s.nat O.sbVendorId) 0 data) s = .next t
      ∧ (delimits (bytesAt (s.link.side m ++ data) 4 4) = false → t.link.side m = [] ∧ Counted s t O.formatErrors 1
          ∧ Leaves s t (.dict :: .link :: timeParts) [O.formatErrors])
      ∧ (delimits (bytesAt (s.link.side m ++ data) 4 4) = true → (s.link.side m ++ data).length < bytesAt (s.link.side m ++ data) 4 4 →
          t.link.side m = s.link.side m ++ data ∧ t.link.side (1 - m) = s.link.side (1 - m) ∧ t.link.sent = s.link.sent
            ∧ Leaves s t (.link :: timeParts) []))
  ∧ (∀ (dt m n chan : Nat) (units : Bytes) (s : State), m < 2 → (s.link.mod m).up = true → s.obj O.sessionState ≠ 0 →
    s.link.stream m = ⟨[], false⟩ →
    isFill units = false → n = bytesAt units 4 4 → delimits n = true → units.length = ceilDiv n 32 * 32 →
    parseMessage (units.take n) = none → bytesAt (units.take n) 0 2 ≠ 0x0211 → chan = bytesAt (units.take n) 8 2 → 1 ≤ chan →
    chan ≤ 64 → bytesAt (units.take n) 4 4 = n →
    ∃ t, exec (.malformedMessageRx dt m units) s = .next t ∧ Counted s t O.formatErrors 1
      ∧ t.chan chan = { s.chan chan with owed := (s.chan chan).owed + (n + 255) / 256 }
      ∧ (∀ c, c ≠ chan → t.chan c = s.chan c) ∧ t.link.sent = s.link.sent
      ∧ Leaves s t (.dict :: .link :: timeParts) [O.formatErrors])
  ∧ (∀ (dt m k : Nat) (units : Bytes) (s : State), m < 2 → (s.link.mod m).up = true → 1 ≤ k → units.length = 32 * k →
    (s.link.stream m).bytes = [] → (∀ i, 0 < i → i < k → findsBoundary (units.drop (32 * i)) = false) →
    ((s.link.stream m).search = true → findsBoundary units = false) →
    ((s.link.stream m).search = false → isFill units = false ∧ delimits (bytesAt units 4 4) = false) →
    ∃ t, exec (.malformedMessageRx dt m units) s = .next t ∧ t.link = s.link.setStream m ⟨[], true⟩
      ∧ (if (s.link.stream m).search = true then t.obj O.formatErrors = s.obj O.formatErrors else Counted s t O.formatErrors 1)
      ∧ Leaves s t (.dict :: .link :: timeParts) [O.formatErrors])
  ∧ (∀ (dt m k : Nat) (units : Bytes) (s : State), m < 2 → (s.link.mod m).up = true → 1 ≤ k → units.length = 32 * k →
    s.link.stream m = ⟨[], false⟩ → isFill units = false → delimits (bytesAt units 4 4) = true → units.length < bytesAt units 4 4 →
    ∃ t, exec (.malformedMessageRx dt m units) s = .next t ∧ t.link = s.link.setStream m ⟨units, false⟩
      ∧ Leaves s t (.link :: timeParts) [])
  ∧ (∀ (i : Indication) (rest : List Indication) (s : State), s.link.waiting = i :: rest → (s.link.m0.up || s.link.m1.up) = true →
    ∃ t, exec .indicationSend s = .next t ∧ t.link.waiting = rest ∧ t.link.indSeq = seqNext s.link.indSeq
      ∧ t.link.sent = s.link.sent ++ [.indication s.link.indSeq i] ∧ t.link.chans = s.link.chans ∧ Leaves s t [.link] [])

/-- RESUME: mode 0 with no session opens one for its host with fresh channels under CREDIT_GRANT; from another host it is refused with
LOCKED and counted; mode 1 from the holder acknowledges, restarts both credit accounts and makes the session ACTIVE, unless an entry
is out of range; mode 2 from the holder closes it (04 R142 to R148). -/
def Obligations.Sessions : Prop :=
  (∀ (dt seq hostId : Nat) (credits : List Nat) (s : State), s.ready = true → hostId ≠ 0 → s.obj O.sessionState = 0 →
    ∃ t, exec (.resumeOpen dt seq hostId credits) s = .next t ∧ t.obj O.sessionState = 1 ∧ t.link.holder = hostId
      ∧ t.blob O.hostId = leBytes 16 hostId ∧ t.link.indSeq = 1
      ∧ (∀ i < 64, t.chan (i + 1) = { Channel.fresh with module := moduleFor { s.link with map := s.nat O.moduleMap } (i + 1),
                                                         grant := s.nat O.creditGrant, hostCredits := credits.getD i 0 })
      ∧ (∃ r, t.link.sent = s.link.sent ++ [.resumeReply r] ∧ r.seq = seq ∧ r.reason = .ok ∧ r.state = 1 ∧ r.holder = hostId)
      ∧ Leaves s t (.dict :: .blobs :: .link :: timeParts) [O.sessionState])
  ∧ (∀ (dt seq hostId : Nat) (credits : List Nat) (s : State), s.ready = true → hostId ≠ 0 → s.obj O.sessionState ≠ 0 →
    hostId ≠ s.link.holder →
    ∃ t, exec (.resumeOpen dt seq hostId credits) s = .next t ∧ Counted s t O.lockedAttempts 1 ∧ t.link.holder = s.link.holder
      ∧ t.link.chans = s.link.chans
      ∧ (∃ r, t.link.sent = s.link.sent ++ [.resumeReply r] ∧ r.seq = seq ∧ r.reason = .locked ∧ r.holder = s.link.holder)
      ∧ Leaves s t (.dict :: .link :: timeParts) [O.lockedAttempts])
  ∧ (∀ (dt seq : Nat) (entries : List ResumeEntry) (s : State), s.ready = true → s.link.holder ≠ 0 → s.obj O.sessionState ≠ 0 →
    firstMisfit entries s = none →
    ∃ t, exec (.resumeModeResume dt seq s.link.holder entries) s = .next t ∧ t.obj O.sessionState = 1 ∧ t.link.holder = s.link.holder
      ∧ (∃ r, .resumeReply r ∈ t.link.sent ∧ r.seq = seq ∧ r.reason = .ok ∧ r.badChan = 0)
      ∧ (∀ i < 64, (t.chan (i + 1)).grant = s.nat O.creditGrant ∧ (t.chan (i + 1)).owed = 0
          ∧ (t.chan (i + 1)).nextReq = (s.chan (i + 1)).nextReq
          ∧ (t.chan (i + 1)).hostCredits ≤ (entries.getD i ⟨0, 0, 0⟩).credits)
      ∧ SameBut s t (.dict :: .blobs :: .kiln :: .link :: .mem :: .pipe :: .sched :: .svc :: .freeCtr :: .wb :: timeParts))
  ∧ (∀ (dt seq : Nat) (entries : List ResumeEntry) (bad : Nat × ResumeEntry) (s : State), s.ready = true → s.link.holder ≠ 0 →
    s.obj O.sessionState ≠ 0 → firstMisfit entries s = some bad →
    ∃ t, exec (.resumeModeResume dt seq s.link.holder entries) s = .next t ∧ t.obj O.sessionState = s.obj O.sessionState
      ∧ (∃ r, t.link.sent = s.link.sent ++ [.resumeReply r] ∧ r.seq = seq ∧ r.reason = .sequenceRange ∧ r.badChan = bad.1)
      ∧ Leaves s t (.link :: timeParts) [])
  ∧ (∀ (dt seq : Nat) (s : State), s.ready = true → s.link.holder ≠ 0 → s.obj O.sessionState ≠ 0 →
    ∃ t, exec (.resumeClose dt seq 2 s.link.holder) s = .next t ∧ t.obj O.sessionState = 0 ∧ t.link.holder = 0
      ∧ t.link.chans = [] ∧ t.blob O.hostId = List.replicate 16 0
      ∧ (∃ r, t.link.sent = s.link.sent ++ [.resumeReply r] ∧ r.seq = seq ∧ r.reason = .ok ∧ r.state = 0)
      ∧ SameBut s t (.dict :: .blobs :: .kiln :: .link :: .pipe :: .sched :: .wb :: timeParts))

/-- SESSION_HOLD: a write sets it, in an ACTIVE session and during a suspension, where a value that has already elapsed closes the session at once;
with no session it is answered NO_SESSION; and at its end a suspended session closes (04 R148; 05 R167; log entry 41). -/
def Obligations.SessionHold : Prop :=
  (∀ (x : Xfer) (v : Int) (s : State), Accepts s x O.sessionHold (.num v) →
    ∃ t, exec (.writeSessionHold x v) s = .next t ∧ t.obj O.sessionHold = v ∧
      if s.obj O.sessionState = 2 ∧ v ≠ 0 ∧ s.link.suspended + v.toNat * 156250000 ≤ s.clock.ticks + x.dt
      then t.obj O.sessionState = 0 ∧ t.link.holder = 0 ∧ t.link.chans = [] ∧ t.blob O.hostId = List.replicate 16 0
        ∧ Replied s t x O.sessionHold (.num v) .ok
        ∧ SameBut s t (.dict :: .blobs :: .kiln :: .link :: .pipe :: .sched :: .wb :: timeParts)
      else Answers s t x O.sessionHold (.num v) .ok [] [O.sessionHold, O.changeCount])
  ∧ (∀ (x : Xfer) (v : Int) (s : State), s.ready = true → s.obj O.sessionState = 0 →
    ∃ t, exec (.writeSessionHold x v) s = .next t ∧ t.obj O.sessionHold = s.obj O.sessionHold ∧ Counted s t O.transfersRefused 1
      ∧ Answers s t x O.sessionHold (.num v) .noSession [] [])
  ∧ (∀ s : State, s.obj O.sessionState = 2 → s.obj O.sessionHold ≠ 0 →
    ∃ t, exec .sessionHoldExpiry s = .next t ∧ t.obj O.sessionState = 0 ∧ t.link.holder = 0 ∧ t.link.chans = []
      ∧ t.blob O.hostId = List.replicate 16 0
      ∧ s.link.suspended + s.nat O.sessionHold * 156250000 ≤ t.clock.ticks ∧ t.link.sent = s.link.sent
      ∧ SameBut s t (.dict :: .blobs :: .kiln :: .link :: .pipe :: .sched :: .wb :: timeParts))

/-! ## The dictionary (05) -/

/-- Reads: a value that one message carries is returned whole and nothing else changes; a longer one is latched and its first part
returned; the next part follows from the latch; a read whose tests fail is answered with the reason of the first; and a read of layer
3 returns the descriptor (05 R156, R166, R168 to R170). -/
def Obligations.DictReads : Prop :=
  (∀ (x : Xfer) (index sub layer most : Nat) (value : Bytes) (s : State), Quiet s →
    readLayer (keyOf index sub) layer (advance s x.dt) = (.ok, value) → value.length ≤ wanted most →
    (layer = 0 → popHead (keyOf index sub) (advance s x.dt) = none ∨ ((rowOf (keyOf index sub)).map fun r => bitOf r.flags 1) = some false) →
    ∃ t, exec (.dictRead x index sub layer 0 most) s = .next t
      ∧ t.link.sent = s.link.sent ++ [.dictReply ⟨x.seq, 0x0301, .ok, keyOf index sub, layer, 0, value.length,
          enableByte (keyOf index sub) s, value, false⟩]
      ∧ SameBut s t (.dict :: .link :: timeParts) ∧ ObjsBut s t [])
  ∧ (∀ (x : Xfer) (index sub layer most : Nat) (value : Bytes) (s : State), Quiet s → layer ≠ 0 →
    readLayer (keyOf index sub) layer (advance s x.dt) = (.ok, value) → wanted most < value.length →
    ∃ t, exec (.dictRead x index sub layer 0 most) s = .next t
      ∧ t.svc.latch = some ⟨keyOf index sub, layer, value, wanted most, t.clock.ticks⟩
      ∧ t.link.sent = s.link.sent ++ [.dictReply ⟨x.seq, 0x0301, .ok, keyOf index sub, layer, 0, value.length,
          enableByte (keyOf index sub) s, value.take (wanted most), true⟩]
      ∧ SameBut s t (.dict :: .link :: .svc :: timeParts) ∧ ObjsBut s t [])
  ∧ (∀ (x : Xfer) (index sub layer most : Nat) (l : ReadLatch) (s : State), s.ready = true → s.svc.held = [] → s.svc.buffer = none →
    s.svc.discarded = none → s.svc.latch = some l → l.key = keyOf index sub → l.layer = layer → 0 < l.next →
    s.clock.ticks + x.dt < l.last + segTicks s → (readLayer l.key layer (advance s x.dt)).1 = .ok →
    ∃ t, exec (.dictRead x index sub layer l.next most) s = .next t
      ∧ t.link.sent = s.link.sent ++ [.dictReply ⟨x.seq, 0x0301, .ok, l.key, layer, l.next, l.value.length, enableByte l.key s,
          (l.value.drop l.next).take (wanted most), decide (l.next + ((l.value.drop l.next).take (wanted most)).length < l.value.length)⟩]
      ∧ SameBut s t (.dict :: .link :: .svc :: timeParts) ∧ ObjsBut s t [])
  ∧ (∀ (x : Xfer) (index sub layer most : Nat) (r : Reason) (b : Bytes) (s : State), Quiet s →
    readLayer (keyOf index sub) layer (advance s x.dt) = (r, b) → r ≠ .ok →
    ∃ t, exec (.dictRead x index sub layer 0 most) s = .next t ∧ Counted s t O.transfersRefused 1
      ∧ t.link.sent = s.link.sent ++ [.dictReply ⟨x.seq, 0x0301, r, keyOf index sub, layer, 0, 0,
          enableByte (keyOf index sub) s, [], false⟩]
      ∧ SameBut s t (.dict :: .link :: timeParts) ∧ ObjsBut s t [])
  ∧ (∀ (x : Xfer) (index sub : Nat) (r : ObjRow) (s : State), Quiet s → indexDefined (keyOf index sub / 256) = true →
    anyRow (keyOf index sub) = some r → (descriptorOf r (keyOf index sub)).length ≤ 1024 →
    ∃ t, exec (.dictReadDescriptor x index sub) s = .next t
      ∧ t.link.sent = s.link.sent ++ [.dictReply ⟨x.seq, 0x0301, .ok, keyOf index sub, 3, 0,
          (descriptorOf r (keyOf index sub)).length, enableByte (keyOf index sub) s, descriptorOf r (keyOf index sub), false⟩]
      ∧ SameBut s t (.dict :: .link :: timeParts) ∧ ObjsBut s t [])

/-- Writes of an object that has no rule of its own: a whole value that passes the tests of R168 becomes the current value, by a DICT_WRITE
and by a register write alike; a revert to the image or the factory writes that layer's value; and the first segment of a longer value
opens a buffer and changes no object (05 R154, R161, R162, R165, R168, R171). -/
def Obligations.DictWrites : Prop :=
  (∀ (x : Xfer) (index sub : Nat) (r : ObjRow) (v : Int) (n : Nat) (data : Bytes) (s : State), Quiet s → s.obj O.sessionState = 1 →
    keyOf index sub % 256 ≠ 0 → indexDefined (keyOf index sub / 256) = true → rowOf (keyOf index sub) = some r →
    r.type.size = some n → decodeVal r.type data = .num v → data.length ≤ 1024 →
    valueTests r (keyOf index sub) data.length (.num v) s = .ok →
    (actOf (keyOf index sub) (.num v) = plainWrite (keyOf index sub) (.num v)) →
    keyOf index sub ∉ [O.changeCount, O.transfersServed, O.transfersRefused, O.busyReplies, O.resetCmd, O.coldResets] →
    (∃ t, exec (.dictWrite x index sub 0 0 data.length data) s = .next t ∧ t.obj (keyOf index sub) = v
      ∧ (∃ d, t.link.sent = s.link.sent ++ [.dictReply d] ∧ d.seq = x.seq ∧ d.reason = .ok ∧ d.key = keyOf index sub)
      ∧ SameBut s t (.dict :: .link :: timeParts) ∧ ObjsBut s t [keyOf index sub, O.changeCount])
    ∧ ∃ t, exec (.registerWrite x index sub data) s = .next t ∧ t.obj (keyOf index sub) = v
      ∧ (∃ d, t.link.sent = s.link.sent ++ [.dictReply d] ∧ d.seq = x.seq ∧ d.reason = .ok ∧ d.key = keyOf index sub)
      ∧ SameBut s t (.dict :: .link :: timeParts) ∧ ObjsBut s t [keyOf index sub, O.changeCount])
  ∧ (∀ (x : Xfer) (index sub : Nat) (r : ObjRow) (n : Nat) (s : State), Quiet s → s.obj O.sessionState = 1 →
    keyOf index sub % 256 ≠ 0 → keyOf index sub % 256 ≠ 0xFF → indexDefined (keyOf index sub / 256) = true →
    rowOf (keyOf index sub) = some r → r.type.size = some n → revertTests r (keyOf index sub) 1 s = .ok →
    (∀ v, actOf (keyOf index sub) (.num v) = plainWrite (keyOf index sub) (.num v)) →
    keyOf index sub ∉ [O.changeCount, O.transfersServed, O.transfersRefused, O.busyReplies, O.resetCmd, O.coldResets] →
    ∃ t, exec (.dictRevertImage x index sub) s = .next t
      ∧ t.obj (keyOf index sub) = Store.at (factory (keyOf index sub)) s.image (keyOf index sub)
      ∧ (∃ d, t.link.sent = s.link.sent ++ [.dictReply d] ∧ d.seq = x.seq ∧ d.reason = .ok ∧ d.key = keyOf index sub)
      ∧ SameBut s t (.dict :: .link :: timeParts) ∧ ObjsBut s t [keyOf index sub, O.changeCount])
  ∧ (∀ (x : Xfer) (index sub : Nat) (r : ObjRow) (n : Nat) (s : State), Quiet s → s.obj O.sessionState = 1 →
    keyOf index sub % 256 ≠ 0 → keyOf index sub % 256 ≠ 0xFF → indexDefined (keyOf index sub / 256) = true →
    rowOf (keyOf index sub) = some r → r.type.size = some n → revertTests r (keyOf index sub) 2 s = .ok →
    (∀ v, actOf (keyOf index sub) (.num v) = plainWrite (keyOf index sub) (.num v)) →
    keyOf index sub ∉ [O.changeCount, O.transfersServed, O.transfersRefused, O.busyReplies, O.resetCmd, O.coldResets] →
    ∃ t, exec (.dictRevertFactory x index sub) s = .next t ∧ t.obj (keyOf index sub) = factory (keyOf index sub)
      ∧ (∃ d, t.link.sent = s.link.sent ++ [.dictReply d] ∧ d.seq = x.seq ∧ d.reason = .ok ∧ d.key = keyOf index sub)
      ∧ SameBut s t (.dict :: .link :: timeParts) ∧ ObjsBut s t [keyOf index sub, O.changeCount])
  ∧ (∀ (x : Xfer) (index sub total : Nat) (r : ObjRow) (data : Bytes) (s : State), Quiet s → s.obj O.sessionState = 1 →
    keyOf index sub % 256 ≠ 0 → indexDefined (keyOf index sub / 256) = true → rowOf (keyOf index sub) = some r →
    accessTest r (keyOf index sub) s = .ok → lengthTest r total = .ok → 0 < data.length → data.length ≤ 1024 → data.length < total →
    keyOf index sub ≠ O.resetCmd →
    ∃ t, exec (.dictWrite x index sub 0 0 total data) s = .next t
      ∧ t.svc.buffer = some ⟨keyOf index sub, 0, total, data, t.clock.ticks⟩
      ∧ (∃ d, t.link.sent = s.link.sent ++ [.dictReply d] ∧ d.seq = x.seq ∧ d.reason = .ok ∧ d.key = keyOf index sub)
      ∧ SameBut s t (.dict :: .link :: .svc :: timeParts) ∧ ObjsBut s t [])

/-- What follows transfers: a write buffer and a read latch end with SEG_TIMEOUT, the buffer counted and remembered; the deferred check of
an enable whose shut-down has completed is answered by ENABLE_RESOLVED, here that of NL_ENABLE; and a read of the enable log pops its
oldest record (05 R169 to R171, R174, R177, Table 5-10). -/
def Obligations.SegmentsAndEnables : Prop :=
  (∀ (b : WriteBuffer) (s : State), s.svc.buffer = some b → s.svc.latch = none → s.svc.discarded = none → 0 < segTicks s →
    ∃ t, exec (.segmentTimeout false) s = .next t ∧ t.svc.buffer = none
      ∧ t.svc.discarded = some ⟨b.key, b.op, b.data.length, t.clock.ticks⟩ ∧ Counted s t O.abortedTransfers 1
      ∧ b.last + segTicks s ≤ t.clock.ticks ∧ Leaves s t (.dict :: .svc :: timeParts) [O.abortedTransfers])
  ∧ (∀ (l : ReadLatch) (s : State), s.svc.latch = some l → s.svc.buffer = none → s.svc.discarded = none →
    ∃ t, exec (.segmentTimeout true) s = .next t ∧ t.svc = { s.svc with latch := none } ∧ l.last + segTicks s ≤ t.clock.ticks
      ∧ Leaves s t (.svc :: timeParts) [])
  ∧ (∀ s : State, O.nlEnable ∈ s.svc.due → s.svc.held = [] → s.obj O.bootState ≠ 5 →
    ∃ t, exec (.enableDeferredCheck (O.nlEnable / 256) (O.nlEnable % 256)) s = .next t ∧ O.nlEnable ∉ t.svc.due
      ∧ t.obj O.nlEnable = (if nlCheck s = .ok then 1 else 0) ∧ t.obj O.lastCheckObject = O.nlEnable
      ∧ t.obj O.lastCheckReason = (nlCheck s).code ∧ Counted s t O.enableResolvedCount 1 ∧ Counted s t O.enableLogCount 1
      ∧ Indicates s t O.enableResolvedCount 0xFFFF (leBytes 2 (O.nlEnable / 256) ++ leBytes 1 (O.nlEnable % 256)
          ++ leBytes 1 (if nlCheck s = .ok then 1 else 0) ++ leBytes 2 (nlCheck s).code ++ leBytes 2 0) 0
      ∧ Leaves s t [.dict, .dfe, .svc, .link] [O.nlEnable, O.nlState, O.dfeUser (s.nat O.nlChain), O.lastCheckObject,
          O.lastCheckReason, O.enableLogCount, O.enableResolvedCount, O.indicationsDropped, O.latched])
  ∧ (∀ (x : Xfer) (oldest : Bytes) (rest : List Bytes) (s : State), s.ready = true → s.svc.log = oldest :: rest →
    ∃ t, exec (.readEnableLog x) s = .next t ∧ t.svc = { s.svc with log := rest }
      ∧ t.link.sent = s.link.sent ++
          [.dictReply ⟨x.seq, 0x0301, .ok, O.enableLog, 0, 0, oldest.length, 0xFF, oldest, false⟩]
      ∧ SameBut s t (.svc :: .dict :: .link :: timeParts) ∧ ObjsBut s t [])

/-! ## Slot processing (06) -/

/-- CARRIER_ENABLE: written 1 in OFF the carrier is checked at once, by the tests of R184 in their order, and on acceptance it holds its stream
units and pallets and the guard holds its copy; written 0 in ON it waits in STOPPING for a course that is not over, and with none it is
OFF and holds nothing (05 R173 to R175; 06 R184 to R186, R205; 17 R555). -/
def Obligations.CarrierEnable : Prop :=
  (∀ (x : Xfer) (n : Nat) (s : State), n < 64 → Accepts s x (O.carrierEnable n) (.num 1) → s.obj (O.carrierEnable n) = 0 →
    s.obj O.bootState ≠ 5 →
    ∃ t, exec (.writeCarrierEnable x n 1) s = .next t
      ∧ Replied s t x (O.carrierEnable n) (.num 1) (carrierCheck n (advance s x.dt))
      ∧ t.obj O.lastCheckObject = O.carrierEnable n ∧ t.obj O.lastCheckReason = (carrierCheck n (advance s x.dt)).code
      ∧ (if carrierCheck n (advance s x.dt) = .ok
         then t.obj (O.carrierEnable n) = 1 ∧ t.obj (O.streamUnitsHeld n) = s.unitsOf n
           ∧ t.obj (O.palletsReserved n) = s.reserveOf n ∧ t.obj (O.guardCopy n) = 1
         else t.obj (O.carrierEnable n) = 0 ∧ SameBut s t (.dict :: .link :: .svc :: timeParts)
           ∧ ObjsBut s t [O.carrierEnable n, O.lastCheckObject, O.lastCheckReason, O.enableLogCount, O.changeCount])
      ∧ SameBut s t (.blobs :: .dict :: .dfe :: .fh :: .freeCtr :: .link :: .pipe :: .sched :: .svc :: timeParts))
  ∧ (∀ (x : Xfer) (n : Nat) (s : State), n < 64 → Accepts s x (O.carrierEnable n) (.num 0) → s.obj (O.carrierEnable n) = 1 →
    ∃ t, exec (.writeCarrierEnable x n 0) s = .next t ∧ Replied s t x (O.carrierEnable n) (.num 0) .ok
      ∧ (if carrierBusy n s = true then t.obj (O.carrierEnable n) = 3 ∧ (s.obj (O.duplex n) = 0 → t.obj (O.txwOpen n) = 0)
         else t.obj (O.carrierEnable n) = 0 ∧ t.obj (O.streamUnitsHeld n) = 0 ∧ t.obj (O.palletsReserved n) = 0
           ∧ t.obj (O.guardCopy n) = 0 ∧ t.obj (O.txwOpen n) = 0)
      ∧ SameBut s t (.blobs :: .dict :: .dfe :: .kiln :: .link :: .pipe :: .sched :: .svc :: .wb :: timeParts))

/-- UE contexts: a write of UE_CONTEXT makes the one that UE_INDEX selects ACTIVE with the host part written, and beyond UE_CTX_LIMIT is
refused; a release of an ACTIVE context leaves it RELEASING while an accepted course names it, and otherwise FREE, and any other release changes
no context (06 R217, R219). -/
def Obligations.UeContexts : Prop :=
  (∀ (x : Xfer) (data : Bytes) (s : State), Accepts s x O.ueContext (.bytes data) →
    ∃ t, exec (.writeUeContext x data) s = .next t
      ∧ (if s.nat O.ueIndex < s.nat O.ueCtxLimit
         then t.ue (s.nat O.ueIndex) = { s.ue (s.nat O.ueIndex) with state := 1, host := data }
           ∧ (∀ i, i ≠ s.nat O.ueIndex → t.ue i = s.ue i) ∧ Answers s t x O.ueContext (.bytes data) .ok [.pipe] [O.changeCount]
         else Answers s t x O.ueContext (.bytes data) .noUeContexts [] []))
  ∧ (∀ (x : Xfer) (i : Nat) (s : State), Accepts s x O.ueRelease (.num i) →
    ∃ t, exec (.writeUeRelease x i) s = .next t
      ∧ (if (s.ue i).state = 1
         then Answers s t x O.ueRelease (.num i) .ok [.pipe] []
           ∧ (if s.pipe.courses.any (fun c => c.2.live && c.2.pins.contains i) = true then t.ue i = { s.ue i with state := 2 }
              else Store.rising s.pipe.ues = true → (t.ue i).state = 0)
           ∧ (∀ k, k ≠ i → (s.ue k).state ≠ 2 → t.ue k = s.ue k)
         else Answers s t x O.ueRelease (.num i) .ok [] []))

/-! ## The kiln (07) -/

/-- Feeds and attempts of decode jobs: a feed raises E_rx up to E, which a running attempt folds in at its next iteration boundary as one warm
restart, if it may restart; one for a job that has ended, or no job, is ignored and counted; an attempt that passes or fails its job ends it
with status 0 or 1 and counts its iterations; one that suspends it writes its extrinsic state to the scratch pallet and frees the engine; and
one that neither ends nor suspends at the boundaries shown goes on from its decoder's state (06 R209; 07 R234 to R251; its tables and readings
log entry 49). -/
def Obligations.DecodeAttempts : Prop :=
  (∀ (tag arrived : Nat) (j : Job) (s : State), Store.find s.kiln.jobs tag = some j → j.status = none → j.susp = false →
    j.eRx < min arrived j.e →
    ∃ t, exec (.kilnFeed tag arrived) s = .next t ∧ Leaves s t [.kiln] []
      ∧ Store.find t.kiln.jobs tag = some { j with eRx := min arrived j.e, fed := true }
      ∧ ∀ u, u ≠ tag → Store.find t.kiln.jobs u = Store.find s.kiln.jobs u)
  ∧ (∀ (tag arrived : Nat) (s : State), (∀ j, Store.find s.kiln.jobs tag = some j → j.status ≠ none ∨ arrived < j.eRx) →
    ∃ t, exec (.kilnFeed tag arrived) s = .next t ∧ Counted s t O.feedIgnored 1 ∧ Leaves s t [.dict] [O.feedIgnored])
  ∧ (∀ (tag arrived : Nat) (j : Job) (o : Op) (s : State), Store.find s.kiln.jobs tag = some j → j.status = none → j.susp = true →
    j.eRx ≤ arrived → s.op tag = some o → o.state = .suspended → o.cancel = false →
    ∃ t o', exec (.kilnFeed tag arrived) s = .next t ∧ Leaves s t [.dict, .kiln, .sched] [O.traceWritten, O.traceLost]
      ∧ (∃ j', Store.find t.kiln.jobs tag = some j' ∧ j'.eRx = min arrived j.e ∧ j'.susp = true ∧ j'.status = none)
      ∧ t.op tag = some o'
      ∧ (if ({ j with eRx := min arrived j.e } : Job).asksRestart j.dec.set.step = true then o'.state = .ready ∧ o'.prio = 0
         else o' = o))
  ∧ (∀ (tag : Nat) (b : Boundary) (j : Job) (o : Op) (s : State), Store.find s.kiln.jobs tag = some j → j.status = none →
    j.susp = false → isPolar j.kind = false → s.op tag = some o → o.cls = 1 → o.state = .running → o.cancel = false →
    b.inputLost = false → b.versionLost = false →
    ∃ t, exec (.kilnAttemptEnd tag b) s = .next t
      ∧ (j.restarts < (runAttempt s tag b.iterations j).1.restarts →
          Counted s t O.runaheadRestarts ((runAttempt s tag b.iterations j).1.restarts - j.restarts))
      ∧ (match (runAttempt s tag b.iterations j).2 with
         | .goesOn => Store.find t.kiln.jobs tag = some (runAttempt s tag b.iterations j).1
             ∧ Leaves s t [.dict, .kiln] [O.runaheadRestarts]
         | .pass => (∃ j', Store.find t.kiln.jobs tag = some j' ∧ j'.status = some 0
               ∧ j'.last = wholeIters j.kind (runAttempt s tag b.iterations j).1.dec.run
               ∧ j'.iters = (runAttempt s tag b.iterations j).1.iters + wholeIters j.kind (runAttempt s tag b.iterations j).1.dec.run
               ∧ j'.early = decide (j'.eRx < j'.e) ∧ j'.checked = isLastBlock s j)
             ∧ (∃ o', t.op tag = some o' ∧ o'.ended = some .ok ∧ o'.state = .running)
             ∧ Counted s t O.decJobs 1 ∧ Counted s t O.decPass 1
             ∧ Counted s t O.iterations ((runAttempt s tag b.iterations j).1.iters
                 + wholeIters j.kind (runAttempt s tag b.iterations j).1.dec.run)
             ∧ Leaves s t [.dict, .kiln, .sched] [O.decJobs, O.decPass, O.iterations, O.runaheadEarly, O.runaheadRestarts]
         | .fail => (∃ j', Store.find t.kiln.jobs tag = some j' ∧ j'.status = some 1 ∧ j'.newVersion = (bytesAt j.desc 36 6 != 0)
               ∧ j'.mismatch = (isLastBlock s j && (runAttempt s tag b.iterations j).1.dec.pass))
             ∧ (∃ o', t.op tag = some o' ∧ o'.ended = some .ok)
             ∧ Counted s t O.decJobs 1 ∧ Counted s t O.decFail 1
             ∧ Counted s t O.iterations ((runAttempt s tag b.iterations j).1.iters
                 + wholeIters j.kind (runAttempt s tag b.iterations j).1.dec.run)
             ∧ Leaves s t [.dict, .kiln, .sched] [O.decJobs, O.decFail, O.iterations, O.runaheadRestarts, O.tbMismatches]
         | .suspend => (∃ j', Store.find t.kiln.jobs tag = some j' ∧ j'.susp = true ∧ j'.status = none)
             ∧ (∃ o', t.op tag = some o' ∧ o'.unit = 0xFFFF ∧ (o'.state = .suspended ∨ o'.state = .ready))
             ∧ t.mem = memWrite s.mem (s.scratchAddr tag)
                 ((runAttempt s tag b.iterations j).1.dec.scratch j.kind (runAttempt s tag b.iterations j).1.e)
             ∧ Leaves s t [.dict, .kiln, .mem, .sched] [O.runaheadRestarts, O.traceWritten, O.traceLost]))

/-- A cancel token takes a decode or an encode that is not published, and its instance expires; an engine that faults leaves service, and its spare
takes its place with SPARE_ENGAGED, or with none left UNIT_LOST is raised (07 R230, R258, R259; 17 R572, R573, Table 17-5). -/
def Obligations.KilnCancelAndFaults : Prop :=
  (∀ (tag : Nat) (o : Op) (s : State), s.op tag = some o → o.cls = 1 ∨ o.cls = 2 → o.cancel = true → o.published = false →
    ∃ t, exec (.kilnCancelToken tag) s = .next t ∧ Store.find t.kiln.jobs tag = none ∧ Counted s t O.cancelledJobs 1
      ∧ (∀ o', t.op tag = some o' → o'.state = .expired ∧ o'.empty = true)
      ∧ SameBut s t [.dict, .kiln, .link, .pipe, .sched, .svc])
  ∧ (∀ (n u : Nat) (s : State), n < 68 → kdClass.service s n = true → kdClass.spareFor n s = some u →
    ∃ t, exec (.kilnEngineFault .decode n) s = .next t ∧ kdClass.service t n = false ∧ kdClass.bad t n = true
      ∧ kdClass.service t u = true ∧ t.obj O.kdSpares = (s.nat O.kdSpares - 1 : Nat)
      ∧ Counted s t O.spareEngagedCount 1
      ∧ Indicates s t O.spareEngagedCount (unitWord 1 n) (spareDetail (unitWord 1 n) (unitWord 1 u) (s.nat O.kdSpares - 1) 0) 0
      ∧ SameBut s t [.dict, .guard, .kiln, .link, .pipe, .sched, .svc])
  ∧ (∀ (n : Nat) (s : State), n < 34 → keClass.service s n = true → keClass.spareFor n s = none →
    ∃ t, exec (.kilnEngineFault .encode n) s = .next t ∧ keClass.service t n = false ∧ keClass.bad t n = true
      ∧ unitWord 2 n ∈ t.guard.lost ∧ Counted s t O.unitLostCount 1
      ∧ Indicates s t O.unitLostCount (unitWord 2 n) (spareDetail (unitWord 2 n) 0xFFFF (s.nat O.keSpares) 0) 0
      ∧ SameBut s t [.dict, .guard, .kiln, .link, .pipe, .sched, .svc])

/-! ## Layer engines and weight banks (08) -/

/-- Weight banks: WB_DEFINE 1 gives the selected entry its geometry, within the pool and for a carrier that is ON, and 0 puts it in DELETING,
which ends once no accepted course names it; a write of a subband opens the BACK and stands in it, or waits for a copy; a commit
commits an open BACK; a write or a commit is refused with no entry, or for weights that do not fit it; and at a copy's completion the BACK
opens, and what waited acts in order (08 R287, R288, R291, R297). -/
def Obligations.WeightBankWrites : Prop :=
  (∀ (x : Xfer) (s : State), Accepts s x O.wbDefine (.num 1) →
    ∃ t, exec (.wbDefine x) s = .next t ∧ ∃ r, Answers s t x O.wbDefine (.num 1) r [.wb] [] ∧
      (if s.wbFree + ((Store.find s.wb (s.nat O.wbIndex)).map (·.pallets)).getD 0
          < 3 * bankPallets (s.nat O.wbPorts) (s.nat O.wbLayers) (s.nat O.wbSubbands) then r = .noPallets ∧ t.wb = s.wb
       else match s.wbChannel with
         | none => r = .noPallets ∧ t.wb = s.wb
         | some c =>
           if s.nat O.wbOwner < 64 ∧ s.obj (O.carrierEnable (s.nat O.wbOwner)) = 1
              ∧ s.nat (O.runAheadSlots (s.nat O.wbOwner)) + 3 ≤ s.nat O.wbSwapPeriod
           then r = .ok ∧ Store.find t.wb (s.nat O.wbIndex) = some (newEntry (advance s x.dt) c)
             ∧ ∀ i, i ≠ s.nat O.wbIndex → Store.find t.wb i = Store.find s.wb i
           else r = .deadlineInfeasible ∧ t.wb = s.wb))
  ∧ (∀ (x : Xfer) (s : State), Accepts s x O.wbDefine (.num 0) →
    ∃ t, exec (.wbDelete x) s = .next t ∧ Answers s t x O.wbDefine (.num 0) .ok [.wb] [] ∧
      match s.wbSel with
      | some e => if s.pipe.courses.any (fun c => c.2.live && c.2.entries.contains (s.nat O.wbIndex)) = true
         then Store.find t.wb (s.nat O.wbIndex) = some { e with deleting := true }
         else Store.rising s.wb = true → Store.find t.wb (s.nat O.wbIndex) = none
      | none => Store.find t.wb (s.nat O.wbIndex) = none)
  ∧ (∀ (x : Xfer) (i : Nat) (e : WbEntry) (s : State), Accepts s x O.wbDefine (.num 0) → i ≠ s.nat O.wbIndex →
    Store.find s.wb i = some e → e.deleting = false →
    ∃ t, exec (.wbDelete x) s = .next t ∧ Store.find t.wb i = some e)
  ∧ (∀ (x : Xfer) (data : Bytes) (e : WbEntry) (s : State), Accepts s x O.wbWeights (.bytes data) → s.wbSel = some e →
    e.deleting = false → data.length = e.ports * e.layers * 4 → s.nat O.wbSubband < e.subbands →
    (∀ l < e.layers, columnNorm e.ports l data ≤ 2 ^ 29) →
    ∃ t e', exec (.writeWbWeights x data) s = .next t ∧ Answers s t x O.wbWeights (.bytes data) .ok [.wb] [O.changeCount]
      ∧ Store.find t.wb (s.nat O.wbIndex) = some e'
      ∧ (∀ i, i ≠ s.nat O.wbIndex → Store.find t.wb i = Store.find s.wb i)
      ∧ (if e.back = .copying then e' = { e with held := e.held ++ [some (s.nat O.wbSubband, data)] }
         else e'.back = .opened ∧ e'.written = true ∧ e'.held = e.held
           ∧ (∀ b, e.bank .back = some b → ∃ b', e'.bank .back = some b' ∧ Store.find b'.data (s.nat O.wbSubband) = some data
               ∧ ∀ j, j ≠ s.nat O.wbSubband → Store.find b'.data j = Store.find b.data j)
           ∧ e'.bank .front = e.bank .front))
  ∧ (∀ (x : Xfer) (data : Bytes) (s : State), Accepts s x O.wbWeights (.bytes data) →
    ∃ t, exec (.writeWbWeights x data) s = .next t ∧
      match s.wbSel with
      | none => Answers s t x O.wbWeights (.bytes data) .noObject [] []
      | some e =>
        if e.deleting = true then Answers s t x O.wbWeights (.bytes data) .noObject [] []
        else if data.length ≠ e.ports * e.layers * 4 then Answers s t x O.wbWeights (.bytes data) .typeLength [] []
        else if e.subbands ≤ s.nat O.wbSubband then Answers s t x O.wbWeights (.bytes data) .valueRange [] []
        else if ∃ l < e.layers, 2 ^ 29 < columnNorm e.ports l data then Answers s t x O.wbWeights (.bytes data) .badCoefficients [] []
        else Answers s t x O.wbWeights (.bytes data) .ok [.wb] [O.changeCount])
  ∧ (∀ (x : Xfer) (s : State), Accepts s x O.wbCommit (.num 1) →
    ∃ t, exec (.wbCommit x) s = .next t ∧
      match s.wbSel with
      | none => Answers s t x O.wbCommit (.num 1) .noObject [] []
      | some e =>
        if e.deleting = true then Answers s t x O.wbCommit (.num 1) .noObject [] []
        else Answers s t x O.wbCommit (.num 1) .ok [.wb] [] ∧ ∃ e', Store.find t.wb (s.nat O.wbIndex) = some e'
          ∧ (e.back = .opened → e'.back = .committed ∧ e'.held = e.held ∧ e'.written = e.written)
          ∧ (e.back = .copying → e' = { e with held := e.held ++ [none] }) ∧ (e.back = .committed → e' = e))
  ∧ (∀ (i : Nat) (s : State), ∃ t, exec (.wbCopyComplete i) s = .next t ∧
    match Store.find s.wb i with
    | some e =>
      if e.back = .copying
      then Store.find t.wb i = some (e.held.foldl applyBack { e with back := .opened, held := [] })
        ∧ (∀ j, j ≠ i → Store.find t.wb j = Store.find s.wb j) ∧ Leaves s t [.dict, .wb] [O.changeCount]
      else t = s
    | none => t = s)

/-- Swaps of weight banks: at its decision instant a COMMITTED BACK becomes NEXT with the boundary as its from-boundary and its copy begins,
while a written but uncommitted one is STALE_BANK and the swap moves on; at the from-boundary NEXT becomes FRONT, and the swap is
counted (08 R292, R293, Table 8-4). -/
def Obligations.WeightBankSwaps : Prop :=
  (∀ (i : Nat) (e : WbEntry) (b f : Bank) (s : State), Store.find s.wb i = some e → e.back = .committed → e.bank .back = some b →
    e.bank .free = some f → e.bank .next = none →
    ∃ t e' b', exec (.wbSwapDecision i) s = .next t ∧ Store.find t.wb i = some e' ∧ e'.back = .copying ∧ e'.written = false
      ∧ e'.bank .next = some b' ∧ b'.fromB = e.nextB ∧ b'.data = b.data ∧ (e'.bank .back).map (·.data) = some b.data
      ∧ e'.nextB = (advanceToAir s (e.nextB - s.slotSpan e.owner (s.nat (O.runAheadSlots e.owner) + 1))).boundaryAfter
          e.owner e.period e.nextB
      ∧ Leaves s t (.wb :: timeParts) [])
  ∧ (∀ (i : Nat) (e : WbEntry) (s : State), Store.find s.wb i = some e → e.back = .opened → e.written = true →
    ∃ t e', exec (.wbSwapDecision i) s = .next t ∧ Store.find t.wb i = some e' ∧ e'.back = .opened ∧ e'.banks = e.banks
      ∧ Counted s t O.staleBankCount 1
      ∧ Indicates s t O.staleBankCount i (leBytes 2 i ++ leBytes 1 e.owner ++ leBytes 1 0 ++ leBytes 8 (atsOf e.nextB)
          ++ leBytes 8 (atsOf e'.nextB) ++ leBytes 4 0) 0
      ∧ Leaves s t (.dict :: .link :: .wb :: timeParts) [O.staleBankCount, O.indicationsDropped])
  ∧ (∀ (i : Nat) (e : WbEntry) (b : Bank) (s : State), Store.find s.wb i = some e → e.bank .next = some b →
    ∃ t e', exec (.wbSwapBoundary i) s = .next t ∧ Store.find t.wb i = some e'
      ∧ e'.bank .front = some { b with role := .front } ∧ e'.bank .next = none ∧ Counted s t O.wbSwaps 1
      ∧ Leaves s t (.dict :: .wb :: timeParts) [O.wbSwaps])

/-- Layer and transform engines: an operation that ends stages the outputs that its engine computes and what it has found, and counts it, a det
keeps its filter for those after it, and a prec that meets a weight bank whose CRC fails ends without data; a cancel token expires an operation
that is not published, and counts it as ended unless it had ended; and an engine that faults leaves service, its spare in its place (08 R265 to
R267, R275, R294; 17 R569, R572, R573; the readings of the engines log entry 50). -/
def Obligations.LayerEngines : Prop :=
  (∀ (tag : Nat) (o : Op) (c : Course) (r : Rec) (s : State), s.op tag = some o → o.cls = 3 → o.state = .running → o.ended = none →
    o.cancel = false → s.course o.key = some c → recById c.recs o.id.recId = some r →
    (o.id.kind = .prec → badEntries (s.bump O.leOps 1) o = []) →
    ∃ t, exec (.leOperationEnd tag) s = .next t
      ∧ t.op tag = some { o with ended := some .ok, data := o.outCells (layerOut (s.bump O.leOps 1) o c r).bytes,
                                 found := some (layerOut (s.bump O.leOps 1) o c r).found }
      ∧ (o.id.kind ≠ .det → t.course o.key = some c)
      ∧ (o.id.kind = .det → ∃ u, u = { c.result r.id with filter := some (detFilter r o.id.sym o.params (c.result r.id)) }
          ∧ t.course o.key = some { c with results := Store.put c.results r.id u })
      ∧ Counted s t O.leOps 1 ∧ (o.id.kind = .det → Counted s t O.detSaturated (layerOut (s.bump O.leOps 1) o c r).sat)
      ∧ (o.id.kind = .prec → Counted s t O.precSaturated (layerOut (s.bump O.leOps 1) o c r).sat)
      ∧ (o.id.kind = .prach → Counted s t O.prachOccasions 1
          ∧ Counted s t O.prachDetections (layerOut (s.bump O.leOps 1) o c r).found.peaks.length)
      ∧ Leaves s t [.dict, .pipe, .sched] [O.leOps, O.detSaturated, O.precSaturated, O.prachOccasions, O.prachDetections])
  ∧ (∀ (tag : Nat) (o : Op) (s : State), s.op tag = some o → o.cls = 3 → o.state = .running → o.ended = none → o.cancel = false →
    o.id.kind = .prec → badEntries (s.bump O.leOps 1) o ≠ [] →
    ∃ t, exec (.leOperationEnd tag) s = .next t ∧ t.op tag = some { o with ended := some .dataLost } ∧ Counted s t O.leOps 1)
  ∧ (∀ (tag : Nat) (o : Op) (s : State), s.op tag = some o → o.cls = 3 → o.cancel = true → o.published = false →
    ∃ t, exec (.leCancelToken tag) s = .next t ∧ Counted s t O.leCancelled 1
      ∧ (if o.ended = none then Counted s t O.leOps 1 else t.obj O.leOps = s.obj O.leOps)
      ∧ (∀ o', t.op tag = some o' → o'.state = .expired ∧ o'.empty = true)
      ∧ SameBut s t [.dict, .kiln, .link, .pipe, .sched, .svc])
  ∧ (∀ (n u : Nat) (s : State), n < 34 → leClass.service s n = true → leClass.spareFor n s = some u →
    ∃ t, exec (.leEngineFault n) s = .next t ∧ leClass.service t n = false ∧ leClass.bad t n = true ∧ leClass.service t u = true
      ∧ t.obj O.leSpares = (s.nat O.leSpares - 1 : Nat) ∧ Counted s t O.spareEngagedCount 1
      ∧ Counted s t O.leEngineFaults (runningOn s 3 n) ∧ Counted s t O.leOps (runningOn s 3 n)
      ∧ Indicates s t O.spareEngagedCount (unitWord 3 n) (spareDetail (unitWord 3 n) (unitWord 3 u) (s.nat O.leSpares - 1) 0) 0
      ∧ SameBut s t [.dict, .guard, .kiln, .link, .pipe, .sched, .svc, .tiles])
  ∧ (∀ (n u : Nat) (s : State), n < 17 → xeClass.service s n = true → xeClass.spareFor n s = some u →
    ∃ t, exec (.xeEngineFault n) s = .next t ∧ xeClass.service t n = false ∧ xeClass.bad t n = true ∧ xeClass.service t u = true
      ∧ t.obj O.xeSpares = (s.nat O.xeSpares - 1 : Nat) ∧ Counted s t O.spareEngagedCount 1
      ∧ Indicates s t O.spareEngagedCount (unitWord 4 n) (spareDetail (unitWord 4 n) (unitWord 4 u) (s.nat O.xeSpares - 1) 0) 0
      ∧ SameBut s t [.dict, .guard, .kiln, .link, .pipe, .sched, .svc, .units])

/-! ## Fronthaul ports (09) -/

/-- Ports: an enabled port is checked at once and starts its alignment; disabled it waits for its carriers and its queue; after 10 ms of
alignment the link is UP; a lost link is DOWN with FH_LINK_DOWN, and its carriers continue on an UP pair; a shut-down that
nothing holds completes; and a carrier returns to its primary (09 R300 to R302, R324 to R326). -/
def Obligations.PortLinks : Prop :=
  (∀ (x : Xfer) (p : Nat) (s : State), p < 24 → Accepts s x (O.portEnable p) (.num 1) → s.obj (O.portEnable p) = 0 →
    s.obj O.bootState ≠ 5 →
    ∃ t, exec (.writePortEnable x p 1) s = .next t
      ∧ Answers s t x (O.portEnable p) (.num 1) (portCheck p s) [.svc, .fh, .power]
          [O.portEnable p, O.portLinkState p, O.lastCheckObject, O.lastCheckReason, O.enableLogCount, O.changeCount]
      ∧ (if portCheck p s = .ok
         then t.obj (O.portEnable p) = 1 ∧ t.obj (O.portLinkState p) = 0
           ∧ (t.port p).alignAt = (if lanesGood s p = true then some (s.clock.ticks + x.dt) else none)
         else t.obj (O.portEnable p) = 0 ∧ t.obj (O.portLinkState p) = s.obj (O.portLinkState p) ∧ t.fh = s.fh))
  ∧ (∀ (x : Xfer) (p : Nat) (s : State), p < 24 → Accepts s x (O.portEnable p) (.num 0) → s.obj (O.portEnable p) = 1 →
    ∃ t, exec (.writePortEnable x p 0) s = .next t
      ∧ Answers s t x (O.portEnable p) (.num 0) .ok [.svc, .fh] [O.portEnable p, O.portLinkState p, O.squelched, O.changeCount]
      ∧ (if portBusy p (advance s x.dt) = true
         then t.obj (O.portEnable p) = 3 ∧ t.obj (O.portLinkState p) = s.obj (O.portLinkState p)
         else t.obj (O.portEnable p) = 0 ∧ t.obj (O.portLinkState p) = 3))
  ∧ (∀ (p since : Nat) (s : State), p < 24 → (s.port p).alignAt = some since → s.obj (O.portEnable p) ≠ 0 →
    s.obj (O.portLinkState p) = 0 → s.runs (portDomain p) = true → lanesGood s p = true →
    (s.pairOf p).all (fun q => s.obj (O.portLinkState q) == 1) = true →
    ∃ t, exec (.portLinkUp p) s = .next t ∧ t.obj (O.portLinkState p) = 1 ∧ since + 1562500 ≤ t.clock.ticks
      ∧ (t.port p).goodAt = some t.clock.ticks ∧ (∀ l ∈ portLanes s p, Store.find t.time.laneLock l = some since)
      ∧ Leaves s t (.dict :: .fh :: timeParts) [O.portLinkState p])
  ∧ (∀ (p q since : Nat) (s : State), p < 24 → q < 24 → q ≠ p → (s.port p).alignAt = some since → s.obj (O.portEnable p) ≠ 0 →
    s.obj (O.portLinkState p) = 0 → s.runs (portDomain p) = true → lanesGood s p = true → s.pairOf p = some q → s.pairOf q = some p →
    s.obj (O.portLinkState q) = 0 →
    ∃ t, exec (.portLinkUp p) s = .next t ∧ t.obj (O.portLinkState p) = 1
      ∧ (∀ n, n < 64 → s.holds (O.carrierEnable n) = true → s.nat (O.activePort n) = q → p ∈ s.portsOf n → t.obj (O.activePort n) = p)
      ∧ SameBut s t (.dict :: .fh :: .freeCtr :: .link :: .pipe :: .power :: timeParts))
  ∧ (∀ (dt p : Nat) (cause : LinkCause) (s : State), p < 24 → s.linkUp p = true →
    ∃ t, exec (.fhLinkDown dt p cause) s = .next t ∧ t.obj (O.portLinkState p) = 0 ∧ Counted s t (O.linkDowns p) 1
      ∧ Indicates s t (O.linkDowns p) p [] 0
      ∧ (∀ q, s.pairOf p = some q → q ≠ p → ∀ n ∈ movable s p, t.obj (O.activePort n) = q)
      ∧ SameBut s t (.dict :: .fh :: .freeCtr :: .link :: .pipe :: .power :: timeParts))
  ∧ (∀ (p : Nat) (s : State), p < 24 → s.obj (O.portEnable p) = 3 → s.shutRuns (O.portEnable p) = true → (carriersOn s p).isEmpty = true →
    ∃ t, exec (.portShutdownComplete p) s = .next t ∧ t.obj (O.portEnable p) = 0 ∧ t.obj (O.portLinkState p) = 3
      ∧ (∀ f ∈ (s.port p).queue, f.ends ≤ t.clock.ticks)
      ∧ Leaves s t (.dict :: .fh :: timeParts) [O.portEnable p, O.portLinkState p, O.squelched])
  ∧ (∀ (n since : Nat) (s : State), n < 64 → (s.port (s.nat (O.fhPort n))).goodAt = some since → s.obj (O.carrierEnable n) ≠ 0 →
    s.nat (O.fhPort n) < 24 → s.nat (O.activePort n) ≠ s.nat (O.fhPort n) → s.obj (O.failoverMode (s.nat (O.fhPort n))) = 1 →
    s.obj (O.portLinkState (s.nat (O.fhPort n))) = 1 → quietNow (advanceTicks s (since + 1562500000)) n = true →
    ∃ t, exec (.failoverReturn n) s = .next t ∧ t.obj (O.activePort n) = s.nat (O.fhPort n) ∧ since + 1562500000 ≤ t.clock.ticks
      ∧ Leaves s t (.dict :: timeParts) [O.activePort n])
  ∧ (∀ (p ber corrected uncorrectable : Nat) (s : State), p < 24 → s.linkUp p = true → ber < 2 ^ 32 → s.obj (O.failoverOnDegrade p) ≠ 1 →
    (s.pairOf p).all (fun q => s.obj (O.portLinkState q) == 1) = true →
    ∃ t, exec (.fecBerWindow p ber corrected uncorrectable) s = .next t ∧ t.obj (O.preFecBer p) = ber
      ∧ Counted s t (O.fecCorrected p) corrected ∧ Counted s t (O.fecUncorrectable p) uncorrectable
      ∧ t.obj (O.portLinkState p) =
          (if s.obj (O.portLinkState p) = 1 ∧ s.nat (O.fecDegradeBer p) * 1000 < ber ∧ 2 ≤ (s.port p).above then 2
           else if s.obj (O.portLinkState p) = 2 ∧ 2 * ber < s.nat (O.fecDegradeBer p) * 1000 ∧ 999 ≤ (s.port p).below then 1
           else s.obj (O.portLinkState p))
      ∧ Leaves s t [.dict, .fh] [O.preFecBer p, O.fecCorrected p, O.fecUncorrectable p, O.portLinkState p])

/-- Frames and uplink messages: every frame on a link that is up counts with its bytes, and one whose FCS fails counts as such; a frame that
is not the device's is dropped where forwarding is off, and otherwise enters the queue of the port that its rule names; a message
before, in or after its receive window counts so, and its sequence is remembered; one without the E bit is malformed; and FWD_RULES takes
rules that name no loop (09 R304 to R307, R314, R318, R321 to R323; the frames log entry 54). -/
def Obligations.PortMessages : Prop :=
  (∀ (dt p : Nat) (f : Frame) (s : State), p < 24 → s.linkUp p = true → (s.port p).first = true → f.fcsOk = false →
    ∃ t, exec (.frameRx dt p f) s = .next t ∧ Counted s t (O.rxFrames p) 1 ∧ Counted s t (O.rxBytes p) f.bytes
      ∧ Counted s t (O.rxFcsErrors p) 1 ∧ Leaves s t (.dict :: timeParts) [O.rxFrames p, O.rxBytes p, O.rxFcsErrors p])
  ∧ (∀ (dt p q : Nat) (f : Frame) (r : Bytes) (s : State), p < 24 → q < 24 → q ≠ p → s.linkUp p = true → (s.port p).first = true →
    f.fcsOk = true → f.macControl = false → f.dst ≠ wireNat (s.blob (O.portMac p)) → f.dst ≠ 0x0180C200000E → f.ptp = none →
    f.ptpEvent = false → s.obj (O.fwdEnable p) = 1 → (fwdRules s).find? (ruleMatches p f) = some r → bytesAt r 20 4 = 2 ^ q →
    s.obj (O.fwdEnable q) = 1 → s.obj (O.portLinkState q) = 1 →
    ∃ t, exec (.frameRx dt p f) s = .next t
      ∧ (if ((queued (advance s dt) q).map (·.bytes)).sum + f.bytes ≤ s.nat (O.fwdQueueKib q) * 1024
         then Counted s t (O.fwdFrames q) 1 ∧ Counted s t (O.txFrames q) 1 ∧ Counted s t (O.txBytes q) f.bytes
           ∧ ((t.port q).queue.filter fun x => x.cls == 4).map (·.bytes) = (queued (advance s dt) q).map (·.bytes) ++ [f.bytes]
           ∧ (∃ x ∈ (t.port q).queue, x.cls = 4 ∧ x.bytes = f.bytes ∧ s.clock.ticks + dt + portTicks s q f.bytes ≤ x.ends)
         else Counted s t (O.fwdDropped p) 1 ∧ t.fh = s.fh)
      ∧ Leaves s t (.dict :: .fh :: timeParts) [O.rxFrames p, O.rxBytes p, O.fwdFrames q, O.txFrames q, O.txBytes q, O.fwdDropped p])
  ∧ (∀ (dt p : Nat) (f : Frame) (s : State), p < 24 → s.linkUp p = true → (s.port p).first = true → f.fcsOk = true →
    f.macControl = false → f.dst ≠ wireNat (s.blob (O.portMac p)) → f.dst ≠ 0x0180C200000E → f.ptp = none →
    s.obj (O.fwdEnable p) ≠ 1 →
    ∃ t, exec (.frameRx dt p f) s = .next t ∧ Counted s t (O.fwdDropped p) 1 ∧ Counted s t (O.rxFrames p) 1
      ∧ Leaves s t (.dict :: timeParts) [O.rxFrames p, O.rxBytes p, O.fwdDropped p])
  ∧ (∀ (dt p n : Nat) (m : IqMsg) (s : State), p < 24 → s.linkUp p = true → m.eBit = true → m.subseq = 0 →
    (listens s = false ∨ s.nat O.nlSrcPort ≠ p ∨ s.nat O.nlSrcEaxc ≠ m.eaxc) → carrierOf s p m.eaxc = some n →
    s.obj (O.fhDomain n) ≠ 1 →
    ∃ t, exec (.uplaneMessageRx dt p m) s = .next t
      ∧ Store.find t.fh.rxSeq (n * 2 ^ 16 + m.eaxc) = some ((m.seq + 1) % 256)
      ∧ (if (advance s dt).airNow < windowBase (advance s dt) n m + s.obj (O.ulWinOpen n) * airNs then Counted s t (O.upRxEarly p) 1
         else if windowBase (advance s dt) n m + s.obj (O.ulWinClose n) * airNs < (advance s dt).airNow
         then Counted s t (O.upRxLate p) 1 else Counted s t (O.upRxOnTime p) 1)
      ∧ (14 ≤ m.symbol → Leaves s t (.dict :: .fh :: timeParts) [O.upRxEarly p, O.upRxLate p, O.upRxOnTime p, O.rxSeqErrors p])
      ∧ SameBut s t (.dict :: .fh :: .kiln :: .link :: .pipe :: .sched :: .svc :: timeParts))
  ∧ (∀ (dt p : Nat) (m : IqMsg) (s : State), p < 24 → s.linkUp p = true → m.eBit = false →
    ∃ t, exec (.uplaneMessageRx dt p m) s = .next t ∧ Counted s t (O.rxMalformed p) 1
      ∧ Leaves s t (.dict :: timeParts) [O.rxMalformed p])
  ∧ (∀ (x : Xfer) (data : Bytes) (s : State), Accepts s x O.fwdRules (.bytes data) → data.length % 24 = 0 →
    (∀ i < data.length / 24, ruleFields ((data.drop (24 * i)).take 24) = true
      ∧ ¬(bytesAt ((data.drop (24 * i)).take 24) 0 1 < 24
          ∧ bitOf (bytesAt ((data.drop (24 * i)).take 24) 20 4) (bytesAt ((data.drop (24 * i)).take 24) 0 1) = true)) →
    ∃ t, exec (.writeFwdRules x data) s = .next t ∧ t.blob O.fwdRules = data
      ∧ Answers s t x O.fwdRules (.bytes data) .ok [.blobs] [O.changeCount])

/-- The messages of courses: at its instant the U-plane messages of a symbol whose output is there, in an open window, with no mute and not too
late, are sent to the radio unit and metered; in a listen gap the symbol is blanked; a late one, or one that was never launched, expires its
symbol, while the messages of a symbol that have all had their launch are never late; C-plane sections go out before their symbols, to the radio unit, with a
record's section for each eAxC; and at the close of an
uplink window what has not come is marked (06 R201, R206; 09 R311 to R316; 17 R556, R557). -/
def Obligations.CourseEgress : Prop :=
  (∀ (chan course symbol k bytes tag : Nat) (power : Int) (c : Course) (o : Op) (g : Copy) (s : State),
    LaunchDue s chan course symbol k c → s.obj (O.fhDomain (chan - 1)) = 0 → ridersOf s (chan - 1) c.slotAir 0 symbol = [] →
    symbolShut (atLaunch s chan symbol c) (chan - 1) (courseSymbol (atLaunch s chan symbol c) (chan - 1) c symbol) = .passes →
    launchMuted (atLaunch s chan symbol c) (chan - 1) (s.nat (O.activePort (chan - 1))) k = false →
    awaitsOpening (atLaunch s chan symbol c) (chan - 1) (s.nat (O.activePort (chan - 1)))
      (courseSymbol (atLaunch s chan symbol c) (chan - 1) c symbol) = false →
    s.nat (O.activePort (chan - 1)) < 24 → s.linkUp (s.nat (O.activePort (chan - 1))) = true →
    s.liveOp (courseKey chan course) (opId .asm 0 symbol (k / 16)) = some (tag, o) → o.published = true → o.empty = false →
    Store.find s.guard.copies (chan - 1) = some g →
    copyHolds (atLaunch s chan symbol c) (chan - 1) g (courseSymbol (atLaunch s chan symbol c) (chan - 1) c symbol) = true →
    s.guard.synth.contains (5, chan - 1) = false → 2 * power < 2 * s.obj (O.guardPwrLimit (chan - 1)) + 15 →
    launchLate (atLaunch s chan symbol c) (chan - 1) (s.nat (O.activePort (chan - 1))) c.slotAir symbol = false →
    ∃ t frames, exec (.uplaneLaunch chan course symbol k bytes power) s = .next t
      ∧ frames = (uplaneMessages (atLaunch s chan symbol c) (chan - 1) symbol k (s.nat (O.activePort (chan - 1)))
          [(courseKey chan course, c)]).length
      ∧ Counted s t (O.upTxSent (s.nat (O.activePort (chan - 1)))) frames
      ∧ Counted s t (O.txFrames (s.nat (O.activePort (chan - 1)))) frames
      ∧ Counted s t (O.txBytes (s.nat (O.activePort (chan - 1)))) bytes
      ∧ t.obj (O.pwrMax (chan - 1)) = max (s.obj (O.pwrMax (chan - 1))) power
      ∧ t.course (courseKey chan course)
          = some ({ c with sent := if bitOf c.unsent symbol then c.sent else setBit c.sent symbol true }.gone symbol k)
      ∧ (∃ l ∈ (t.port (s.nat (O.activePort (chan - 1)))).recent, l.key = courseKey chan course ∧ l.cplane = false ∧ l.symbol = symbol
          ∧ l.frames.length = frames ∧ ∀ f ∈ l.frames, f.dst = ruAddress s (chan - 1) (s.nat (O.activePort (chan - 1))))
      ∧ Leaves s t (.dict :: .fh :: .pipe :: timeParts) [O.upTxSent (s.nat (O.activePort (chan - 1))),
          O.txFrames (s.nat (O.activePort (chan - 1))), O.txBytes (s.nat (O.activePort (chan - 1))), O.pwrMax (chan - 1)])
  ∧ (∀ (chan course symbol k bytes : Nat) (power : Int) (c : Course) (s : State), LaunchDue s chan course symbol k c →
    ridersOf s (chan - 1) c.slotAir 0 symbol = [] →
    symbolShut (atLaunch s chan symbol c) (chan - 1) (courseSymbol (atLaunch s chan symbol c) (chan - 1) c symbol) = .gap →
    ∃ t, exec (.uplaneLaunch chan course symbol k bytes power) s = .next t
      ∧ (∃ c', t.course (courseKey chan course) = some c' ∧ c'.blanked = setBit c.blanked symbol true
          ∧ c'.sent = setBit c.sent symbol false ∧ c'.withheld = c.withheld)
      ∧ Leaves s t (.dict :: .pipe :: timeParts) [O.blankedSymbols])
  ∧ (∀ (chan course symbol k : Nat) (c : Course) (s : State), LaunchDue s chan course symbol k c →
    (∀ k < s.nat (O.dlPorts (chan - 1)), bitOf (Store.at 0 c.went symbol) k = true) → exec (.upTxLate chan course symbol) s = .next s)
  ∧ (∀ (chan course symbol k : Nat) (c : Course) (s : State), LaunchDue s chan course symbol k c →
    bitOf (Store.at 0 c.went symbol) k = false → s.nat (O.activePort (chan - 1)) < 24 →
    ∃ t, exec (.upTxLate chan course symbol) s = .next t
      ∧ (∃ c', t.course (courseKey chan course) = some c' ∧ c'.sent = setBit c.sent symbol false
          ∧ c'.unsent = setBit c.unsent symbol true)
      ∧ Counted s t (O.upTxLate (s.nat (O.activePort (chan - 1)))) 1
      ∧ Leaves s t (.dict :: .pipe :: timeParts) [O.upTxLate (s.nat (O.activePort (chan - 1)))])
  ∧ (∀ (chan course rec bytes : Nat) (c : Course) (r : Rec) (s : State), 1 ≤ chan → chan ≤ 64 →
    s.course (courseKey chan course) = some c → dirOf course = 0 → c.cancelled = false → c.journalled = false → c.state ≠ .opened →
    rec ≠ 0 → recById c.recs rec = some r → s.nat (O.activePort (chan - 1)) < 24 →
    s.linkUp (s.nat (O.activePort (chan - 1))) = true → s.obj (O.fhDomain (chan - 1)) = 0 → s.hosted (chan - 1) = false →
    ∃ t, exec (.dlCplaneSend chan course rec bytes) s = .next t
      ∧ Counted s t (O.cpTxSent (s.nat (O.activePort (chan - 1)))) (s.nat (O.dlPorts (chan - 1)))
      ∧ Counted s t (O.txFrames (s.nat (O.activePort (chan - 1)))) (s.nat (O.dlPorts (chan - 1)))
      ∧ Counted s t (O.txBytes (s.nat (O.activePort (chan - 1)))) bytes
      ∧ (∃ l ∈ (t.port (s.nat (O.activePort (chan - 1)))).recent, l.key = courseKey chan course ∧ l.cplane = true ∧
          ∀ f ∈ l.frames, f.dst = ruAddress s (chan - 1) (s.nat (O.activePort (chan - 1)))
            ∧ ∃ k q, k < s.nat (O.dlPorts (chan - 1)) ∧ f.body = .cplane (s.eaxc (chan - 1) k) q (sectionOf s (courseKey chan course) c r))
      ∧ Leaves s t (.dict :: .fh :: timeParts) [O.cpTxSent (s.nat (O.activePort (chan - 1))),
          O.txFrames (s.nat (O.activePort (chan - 1))), O.txBytes (s.nat (O.activePort (chan - 1)))])
  ∧ (∀ (chan course bytes : Nat) (c : Course) (s : State), 1 ≤ chan → chan ≤ 64 →
    s.course (courseKey chan course) = some c → dirOf course = 1 → c.cancelled = false → c.journalled = false → c.state ≠ .opened →
    s.nat (O.activePort (chan - 1)) < 24 → s.linkUp (s.nat (O.activePort (chan - 1))) = true →
    s.obj (O.fhDomain (chan - 1)) = 0 → s.hosted (chan - 1) = false →
    ∃ t, exec (.ulCplaneSend chan course bytes) s = .next t
      ∧ Counted s t (O.cpTxSent (s.nat (O.activePort (chan - 1)))) (c.recs.length * s.nat (O.ulPorts (chan - 1)))
      ∧ Leaves s t (.dict :: .fh :: timeParts) [O.cpTxSent (s.nat (O.activePort (chan - 1))),
          O.txFrames (s.nat (O.activePort (chan - 1))), O.txBytes (s.nat (O.activePort (chan - 1)))])
  ∧ (∀ (chan course symbol : Nat) (c : Course) (s : State), 1 ≤ chan → chan ≤ 64 → symbol < 14 →
    s.course (courseKey chan course) = some c → dirOf course = 1 → c.cancelled = false → c.journalled = false → c.state ≠ .opened →
    ∃ t, exec (.ulWindowClose chan course symbol) s = .next t
      ∧ (∃ c', t.course (courseKey chan course) = some c' ∧ c'.sent = c.sent
          ∧ c'.unsent = if bitOf c.sent symbol then c.unsent else setBit c.unsent symbol true)
      ∧ SameBut s t (.dict :: .kiln :: .link :: .pipe :: .sched :: .svc :: timeParts))

/-- One-way delay and remote reset: a measurement opens under the next ID, or is refused while one is open; its Response gives the delay, and
10 ms without one a timed-out result; while OWD_RESPONDER is 1 a Request is answered, a Request with Follow_Up once that has come, and a Remote
Request by a measurement of the device's own, and otherwise none is; a remote reset is sent under the next Reset ID, its
Response makes RESET_STATUS ACKED, and 100 ms without one a timeout (09 R319, R320). -/
def Obligations.DelayAndReset : Prop :=
  (∀ (x : Xfer) (s : State), Accepts s x O.owdStart (.num 1) → s.nat O.owdPort < 24 →
    ∃ t, exec (.owdStartRequest x) s = .next t
      ∧ (if s.fh.owd = none
         then (∃ o, t.fh.owd = some o ∧ o.port = s.nat O.owdPort ∧ o.id = s.fh.owdId ∧ o.at' = s.clock.ticks + x.dt)
           ∧ t.fh.owdId = (s.fh.owdId + 1) % 256
           ∧ (s.linkUp (s.nat O.owdPort) = true → Counted s t (O.txFrames (s.nat O.owdPort)) 1)
           ∧ Answers s t x O.owdStart (.num 1) .ok [.fh] [O.txFrames (s.nat O.owdPort), O.txBytes (s.nat O.owdPort)]
         else Answers s t x O.owdStart (.num 1) .measurementBusy [] []))
  ∧ (∀ (x : Xfer) (s : State), Accepts s x O.owdStart (.num 2) → s.nat O.owdPort < 24 → s.fh.owd = none →
    ∃ t, exec (.owdStartFollowUp x) s = .next t
      ∧ (∃ o, t.fh.owd = some o ∧ o.port = s.nat O.owdPort ∧ o.id = s.fh.owdId) ∧ t.fh.owdId = (s.fh.owdId + 1) % 256
      ∧ (s.linkUp (s.nat O.owdPort) = true → Counted s t (O.txFrames (s.nat O.owdPort)) 2)
      ∧ Answers s t x O.owdStart (.num 2) .ok [.fh] [O.txFrames (s.nat O.owdPort), O.txBytes (s.nat O.owdPort)])
  ∧ (∀ (dt p src id : Nat) (timePs compPs : Int) (o : Owd) (s : State), p < 24 → s.linkUp p = true → s.fh.owd = some o → o.port = p →
    o.id = id →
    ∃ t, exec (.oneWayDelayMsgRx dt p src id .response timePs compPs) s = .next t ∧ t.fh = { s.fh with owd := none }
      ∧ t.blob O.owdResult = owdResult (codeOf 64 (timePs - compPs - o.t1)) 0 id ∧ Leaves s t (.blobs :: .fh :: timeParts) [])
  ∧ (∀ (dt p src id : Nat) (timePs compPs : Int) (s : State), p < 24 → s.linkUp p = true → s.obj O.owdResponder = 1 →
    ∃ t, exec (.oneWayDelayMsgRx dt p src id .request timePs compPs) s = .next t ∧ Counted s t (O.txFrames p) 1
      ∧ Counted s t (O.txBytes p) 64
      ∧ (∃ l ∈ (t.port p).recent, l.tick = s.clock.ticks + dt
          ∧ l.frames.map (fun f => (f.dst, f.body)) = [(src, .delay .response id (ingressStamp (advance s dt) p) 0)])
      ∧ Leaves s t (.dict :: .fh :: timeParts) [O.txFrames p, O.txBytes p])
  ∧ (∀ (dt p src id : Nat) (timePs compPs : Int) (s : State), p < 24 → s.linkUp p = true → s.obj O.owdResponder = 1 →
    ∃ t, exec (.oneWayDelayMsgRx dt p src id .requestFollowUp timePs compPs) s = .next t
      ∧ t.fh = { s.fh with owdWait := s.fh.owdWait ++ [((p, id), ingressStamp (advance s dt) p)] } ∧ Leaves s t (.fh :: timeParts) [])
  ∧ (∀ (dt p src id : Nat) (timePs compPs at' : Int) (s : State), p < 24 → s.linkUp p = true → s.obj O.owdResponder = 1 →
    s.fh.owdWait.find? (fun w => w.1 == (p, id)) = some ((p, id), at') →
    ∃ t, exec (.oneWayDelayMsgRx dt p src id .followUp timePs compPs) s = .next t ∧ Counted s t (O.txFrames p) 1
      ∧ (∃ l ∈ (t.port p).recent, l.tick = s.clock.ticks + dt
          ∧ l.frames.map (fun f => (f.dst, f.body)) = [(src, .delay .response id at' 0)])
      ∧ (∀ w ∈ t.fh.owdWait, w.1 ≠ (p, id)) ∧ Leaves s t (.dict :: .fh :: timeParts) [O.txFrames p, O.txBytes p])
  ∧ (∀ (dt p src id : Nat) (follow : Bool) (timePs compPs : Int) (s : State), p < 24 → s.linkUp p = true → s.obj O.owdResponder = 1 →
    s.fh.owd = none →
    ∃ t, exec (.oneWayDelayMsgRx dt p src id (if follow = true then .remoteRequestFollowUp else .remoteRequest) timePs compPs) s = .next t
      ∧ (∃ o, t.fh.owd = some o ∧ o.port = p ∧ o.id = s.fh.owdId) ∧ t.fh.owdId = (s.fh.owdId + 1) % 256
      ∧ Counted s t (O.txFrames p) (if follow = true then 2 else 1) ∧ Leaves s t (.dict :: .fh :: timeParts) [O.txFrames p, O.txBytes p])
  ∧ (∀ (dt p src id : Nat) (action : OwdAction) (timePs compPs : Int) (s : State), p < 24 →
    s.linkUp p = false ∨ (action ≠ .response ∧ s.obj O.owdResponder ≠ 1)
      ∨ (action = .response ∧ ∀ o, s.fh.owd = some o → o.port ≠ p ∨ o.id ≠ id) →
    exec (.oneWayDelayMsgRx dt p src id action timePs compPs) s = .next (advance s dt))
  ∧ (∀ (o : Owd) (s : State), s.fh.owd = some o →
    ∃ t d, exec .owdTimeout s = .next t ∧ t.fh = { s.fh with owd := none } ∧ t.blob O.owdResult = owdResult d 1 o.id
      ∧ o.at' + 1562500 ≤ t.clock.ticks ∧ Leaves s t (.blobs :: .fh :: .freeCtr :: timeParts) [])
  ∧ (∀ (x : Xfer) (s : State), Accepts s x O.resetSend (.num 1) → s.nat O.resetPort < 24 →
    ∃ t, exec (.remoteResetSend x) s = .next t ∧ t.obj O.resetStatus = 1 ∧ t.fh.resetId = (s.fh.resetId + 1) % 65536
      ∧ t.fh.resetAt = some (s.clock.ticks + x.dt)
      ∧ (s.linkUp (s.nat O.resetPort) = true → Counted s t (O.txFrames (s.nat O.resetPort)) 1)
      ∧ Answers s t x O.resetSend (.num 1) .ok [.fh] [O.resetStatus, O.txFrames (s.nat O.resetPort), O.txBytes (s.nat O.resetPort)])
  ∧ (∀ (dt p since : Nat) (s : State), p < 24 → s.linkUp p = true → s.fh.resetAt = some since →
    s.clock.ticks + dt ≤ since + 15625000 →
    ∃ t, exec (.remoteResetResponseRx dt p s.fh.resetId) s = .next t ∧ t.obj O.resetStatus = 2
      ∧ t.fh = { s.fh with resetAt := none } ∧ Leaves s t (.dict :: .fh :: timeParts) [O.resetStatus])
  ∧ (∀ (dt p id : Nat) (s : State), p < 24 →
    s.linkUp p = false ∨ id ≠ s.fh.resetId ∨ s.fh.resetAt = none →
    exec (.remoteResetResponseRx dt p id) s = .next (advance s dt))
  ∧ (∀ (since : Nat) (s : State), s.fh.resetAt = some since →
    ∃ t, exec .remoteResetTimeout s = .next t ∧ t.obj O.resetStatus = 3 ∧ t.fh = { s.fh with resetAt := none }
      ∧ since + 15625000 ≤ t.clock.ticks ∧ Leaves s t (.dict :: .fh :: timeParts) [O.resetStatus])

/-! ## Front-end filters (10) -/

/-- Coefficient banks: valid taps stand in the BACK, or wait for a copy, and taps that are not valid are refused; a commit makes the BACK
the FRONT at once on a chain with no user, and otherwise waits for its boundary, with its CRC held; a check that fails is counted, and on a receive
path marks the bank (10 R336, R341, R343; which bank fails in a fade is open, log entry 10). -/
def Obligations.FilterBankWrites : Prop :=
  (∀ (x : Xfer) (c : Nat) (p : Path) (data : Bytes) (s : State), c < 128 → Accepts s x (tapsKey c p) (.bytes data) → data.length % 4 = 0 →
    tapsValid s c data = true → (s.obj (O.dfeUser c) = 0xFF ∨ tapCount data = tapCount ((s.chain c).path p).front) →
    ∃ t, exec (.writeTaps x c p data) s = .next t
      ∧ (if ((s.chain c).path p).busy = true
         then (t.chain c).path p = { (s.chain c).path p with held := ((s.chain c).path p).held ++ [some data] }
           ∧ t.blob (tapsKey c p) = s.blob (tapsKey c p)
         else (t.chain c).path p = { (s.chain c).path p with back := .opened, written := true } ∧ t.blob (tapsKey c p) = data)
      ∧ (∀ j, j ≠ c → t.chain j = s.chain j)
      ∧ Answers s t x (tapsKey c p) (.bytes data) .ok [.blobs, .dfe] [O.changeCount])
  ∧ (∀ (x : Xfer) (c : Nat) (p : Path) (data : Bytes) (s : State), c < 128 → Accepts s x (tapsKey c p) (.bytes data) → data.length % 4 = 0 →
    tapsValid s c data = false →
    ∃ t, exec (.writeTaps x c p data) s = .next t ∧ Answers s t x (tapsKey c p) (.bytes data) .badCoefficients [] [])
  ∧ (∀ (x : Xfer) (c : Nat) (p : Path) (s : State), c < 128 → Accepts s x (commitKey c p) (.num 1) →
    ((s.chain c).path p).busy = false → ((s.chain c).path p).back = .opened →
    ∃ t, exec (.commitTaps x c p) s = .next t
      ∧ (if s.obj (O.dfeUser c) = 0xFF
         then (t.chain c).path p = { (s.chain c).path p with
           front := s.blob (tapsKey c p), written := false, crc := crc32 (s.blob (tapsKey c p)), backCrc := crc32 (s.blob (tapsKey c p)), bad := false }
         else (t.chain c).path p = { (s.chain c).path p with back := .committed, backCrc := crc32 (s.blob (tapsKey c p)) })
      ∧ (∀ j, j ≠ c → t.chain j = s.chain j) ∧ Answers s t x (commitKey c p) (.num 1) .ok [.dfe] [])
  ∧ (∀ (x : Xfer) (c : Nat) (p : Path) (s : State), c < 128 → Accepts s x (commitKey c p) (.num 1) →
    ((s.chain c).path p).busy = true ∨ ((s.chain c).path p).back ≠ .opened →
    ∃ t, exec (.commitTaps x c p) s = .next t ∧ Answers s t x (commitKey c p) (.num 1) .ok [.dfe] []
      ∧ (t.chain c).path p = (if ((s.chain c).path p).busy = true
          then { (s.chain c).path p with held := ((s.chain c).path p).held ++ [none] } else (s.chain c).path p))
  ∧ (∀ (c : Nat) (p : Path) (s : State), c < 128 → ((s.chain c).path p).fading = false →
    ∃ t, exec (.coefCrcCheck c p false) s = .next t ∧ Counted s t (O.coefCrcErrors c) 1
      ∧ (p = .rx → (t.chain c).rx = { (s.chain c).rx with bad := true, backBad := false } ∧ (t.chain c).tx = (s.chain c).tx
          ∧ Leaves s t [.dict, .dfe, .guard] [O.coefCrcErrors c]))
  ∧ (∀ (c : Nat) (s : State), c < 128 → (s.chain c).rx.fading = true →
    ∃ t, exec (.coefCrcCheck c .rx false) s = .next t ∧ Counted s t (O.coefCrcErrors c) 1
      ∧ ((t.chain c).rx.bad = true ∨ (t.chain c).rx.backBad = true)
      ∧ Leaves s t [.dict, .dfe, .freeCtr, .guard] [O.coefCrcErrors c])
  ∧ (∀ (c : Nat) (s : State), c < 128 → crc32 (s.chain c).rx.front = (s.chain c).rx.crc →
    ((s.chain c).rx.fading = true → crc32 (s.blob (O.rxTaps c)) = (s.chain c).rx.backCrc) →
    ∃ t, exec (.coefCrcCheck c .rx true) s = .next t ∧ (t.chain c).rx = { (s.chain c).rx with bad := false, backBad := false }
      ∧ Leaves s t [.dfe] [])

/-- Cross-fades: 100 µs before a boundary a committed path is decided, and one written and not committed raises STALE_BANK; at the boundary
both banks filter; XFADE_SAMPLES later the BACK is the FRONT and copies it; when the copy is done the BACK is open and unwritten, and what waited
has acted; and each holds of either path, whatever the other does (10 R342, Table 10-4). -/
def Obligations.FilterSwaps : Prop :=
  (∀ (c : Nat) (b : Int) (s : State), c < 128 → s.airRunning = true →
    b = swapBoundary (s.nat (O.coefSwapPeriod c)) (max (s.chain c).tested (s.airNow + coefLead - 1)) →
    (s.chain c).tx.back = .committed → (s.chain c).rx.back = .opened → (s.chain c).rx.written = false →
    ∃ t, exec (.coefSwapDecision c) s = .next t
      ∧ t.chain c = { s.chain c with tested := b, tx := { (s.chain c).tx with decided := true, fadeAt := b } }
      ∧ Leaves s t (.dfe :: timeParts) [])
  ∧ (∀ (c : Nat) (b : Int) (s : State), c < 128 → s.airRunning = true →
    b = swapBoundary (s.nat (O.coefSwapPeriod c)) (max (s.chain c).tested (s.airNow + coefLead - 1)) →
    (s.chain c).tx.back = .opened → (s.chain c).tx.written = true → (s.chain c).rx.back = .opened → (s.chain c).rx.written = false →
    ∃ t, exec (.coefSwapDecision c) s = .next t ∧ t.chain c = { s.chain c with tested := b } ∧ Counted s t (O.staleCount c) 1
      ∧ Indicates s t (O.staleCount c) c (leBytes 2 c ++ leBytes 1 0 ++ leBytes 1 0 ++ leBytes 8 (atsOf b)
          ++ leBytes 8 (atsOf (swapBoundary (s.nat (O.coefSwapPeriod c)) b)) ++ leBytes 4 0) 0
      ∧ Leaves s t (.dict :: .dfe :: .link :: timeParts) [O.staleCount c, O.indicationsDropped])
  ∧ (∀ (c : Nat) (s : State), c < 128 → (s.chain c).tx.decided = true → (s.chain c).rx.decided = false →
    ∃ t, exec (.coefFadeStart c) s = .next t
      ∧ t.chain c = { s.chain c with tx := { (s.chain c).tx with
          decided := false, fading := true, fadeEnd := (s.chain c).tx.fadeAt + fadeSpan s c, fadeLen := s.nat (O.xfadeSamples c),
          backBad := false } }
      ∧ Leaves s t (.dfe :: timeParts) [])
  ∧ (∀ (c : Nat) (s : State), c < 128 → (s.chain c).tx.fading = true → (s.chain c).rx.fading = false →
    ∃ t, exec (.coefFadeEnd c) s = .next t
      ∧ t.chain c = { s.chain c with tx := { (s.chain c).tx with
          front := s.blob (O.txTaps c), fading := false, back := .copying, written := false, crc := (s.chain c).tx.backCrc,
          bad := (s.chain c).tx.backBad, backBad := false } }
      ∧ t.blob (O.txTaps c) = (s.chain c).tx.front ∧ Leaves s t (.dict :: .blobs :: .dfe :: timeParts) [O.changeCount])
  ∧ (∀ (c : Nat) (s : State), c < 128 → (s.chain c).tx.back = .copying → (s.chain c).tx.held = [] → (s.chain c).rx.back ≠ .copying →
    ∃ t, exec (.coefCopyComplete c) s = .next t
      ∧ t.chain c = { s.chain c with tx := { (s.chain c).tx with back := .opened, written := false, backCrc := (s.chain c).tx.crc } }
      ∧ t.blob (O.txTaps c) = (s.chain c).tx.front ∧ Leaves s t [.dict, .blobs, .dfe] [O.changeCount])
  ∧ (∀ (c : Nat) (s : State), c < 128 →
    (∃ t, exec (.coefSwapDecision c) s = .next t ∧ ∀ p, s.airRunning = true → ((s.chain c).path p).back = .committed →
        ((t.chain c).path p).decided = true)
    ∧ (∃ t, exec (.coefFadeStart c) s = .next t ∧ ∀ p, ((s.chain c).path p).decided = true →
        ((t.chain c).path p).decided = false ∧ ((t.chain c).path p).fading = true
          ∧ ((t.chain c).path p).fadeLen = s.nat (O.xfadeSamples c))
    ∧ (∃ t, exec (.coefFadeEnd c) s = .next t ∧ ∀ p, ((s.chain c).path p).fading = true →
        ((t.chain c).path p).fading = false ∧ ((t.chain c).path p).back = .copying
          ∧ ((t.chain c).path p).front = s.blob (tapsKey c p) ∧ t.blob (tapsKey c p) = ((s.chain c).path p).front)
    ∧ ∃ t, exec (.coefCopyComplete c) s = .next t ∧ ∀ p, ((s.chain c).path p).back = .copying →
        ((t.chain c).path p).back ≠ .copying ∧ ((t.chain c).path p).held = [])

/-- Resets and thresholds: DFE_RESET_ALL schedules a reset at the first frame boundary at least 100 µs ahead, and at it every live chain is
reset once; a block that changes the state of a path raises DFE_THRESHOLD, unless a holdoff suppresses it, and a holdoff that ends in
another state raises it (10 R344, R346, R347, Table 10-5). -/
def Obligations.FilterResets : Prop :=
  (∀ (x : Xfer) (s : State), Accepts s x O.dfeResetAll (.num 1) → s.dfe.resetAt = none → (advance s x.dt).airRunning = true →
    ∃ t, exec (.dfeResetAll x) s = .next t ∧ t.dfe.resetAt = some (nextFrame ((advance s x.dt).airNow + coefLead - 1))
      ∧ t.obj O.resetAt = atsOf (nextFrame ((advance s x.dt).airNow + coefLead - 1))
      ∧ Answers s t x O.dfeResetAll (.num 1) .ok [.dfe] [O.resetAt])
  ∧ (∀ (b : Int) (s : State), s.dfe.resetAt = some b →
    ∃ t, exec .dfeCommandReset s = .next t ∧ t.dfe.resetAt = none ∧ Counted s t O.commandResets 1
      ∧ (∀ c ∈ s.liveChains, Store.at (-1) t.dfe.lastReset c = b)
      ∧ (∀ c ∈ s.liveChains, Store.at (-1) s.dfe.lastReset c ≠ b →
          (t.chain c).txFilter = { (s.chain c).txFilter with clear := some b }
          ∧ (t.chain c).rxFilter = { (s.chain c).rxFilter with clear := some b })
      ∧ Leaves s t (.dict :: .dfe :: timeParts) [O.commandResets])
  ∧ (∀ (c sum size : Nat) (rest : List (Nat × Nat)) (s : State), c < 128 → s.obj (O.thrMode c) = 1 →
    (s.chain c).meter.ended = (sum, size) :: rest →
    ∃ t power, exec (.thrBlockEnd c) s = .next t ∧ t.obj (O.thrPower c) = power
      ∧ (sum ≠ 0 → power = decibels 10 (-1400) 100 ((sum : Rat) / ((size * 2 ^ 30 : Nat) : Rat))) ∧ (t.chain c).meter.ended = rest
      ∧ (t.chain c).high = thrNext s c (s.chain c).high power
      ∧ (if thrNext s c (s.chain c).high power = (s.chain c).high then (t.chain c).raised = (s.chain c).raised ∧ t.link = s.link
         else if ∃ h, (s.chain c).holdEnd = some h ∧ s.clock.ticks < h
         then (t.chain c).suppressed = (s.chain c).suppressed + 1 ∧ t.link = s.link
         else Counted s t (O.thrEvents c) 1 ∧ (t.chain c).raised = (t.chain c).high ∧ (t.chain c).suppressed = 0
           ∧ Indicates s t (O.thrEvents c) c (leBytes 2 c ++ leBytes 1 (if (t.chain c).high then 1 else 0) ++ leBytes 1 0
               ++ leBytes 2 (codeOf 16 power) ++ leBytes 2 ((s.chain c).suppressed % 2 ^ 16)) 0)
      ∧ Leaves s t [.dict, .dfe, .freeCtr, .link] [O.thrPower c, O.thrEvents c, O.indicationsDropped])
  ∧ (∀ (c h : Nat) (s : State), c < 128 → (s.chain c).holdEnd = some h → (s.chain c).high ≠ (s.chain c).raised →
    ∃ t, exec (.thrHoldoffEnd c) s = .next t ∧ h ≤ t.clock.ticks ∧ Counted s t (O.thrEvents c) 1
      ∧ (t.chain c).raised = (s.chain c).high ∧ (t.chain c).suppressed = 0
      ∧ Leaves s t (.dict :: .dfe :: .link :: timeParts) [O.thrEvents c, O.indicationsDropped])

/-- Transmit windows of TDD carriers: the next opening that nothing shuts opens the window, and one that is shut counts; the window closes after
its last symbol; and a gate follows its window, its edge counted, and stays inactive with no carrier (10 R348 to R351). -/
def Obligations.TransmitWindows : Prop :=
  (∀ (n : Nat) (q : Int) (s : State), n < 64 → s.obj (O.carrierEnable n) ≠ 0 → s.airRunning = true → s.obj (O.duplex n) ≠ 0 →
    windowAt s n (s.symbolOf n s.airNow) ≠ some .always → s.airNow ≤ s.symbolAir n (max (s.symbolOf n s.airNow) (Store.at (-1) s.dfe.opened n + 1)) →
    nextOpening s n (max (s.symbolOf n s.airNow) (Store.at (-1) s.dfe.opened n + 1)) = some q →
    ∃ t, exec (.txWindowOpen n) s = .next t ∧ Store.find t.dfe.opened n = some q
      ∧ (if symbolShut (advanceToAir s (s.symbolAir n q)) n q = .passes
         then t.obj (O.txwOpen n) = 1 ∧ t.obj (O.windowsClosed n) = s.obj (O.windowsClosed n)
         else t.obj (O.txwOpen n) = s.obj (O.txwOpen n) ∧ Counted s t (O.windowsClosed n) 1)
      ∧ Leaves s t (.dict :: .dfe :: timeParts) [O.txwOpen n, O.windowsClosed n])
  ∧ (∀ (n : Nat) (q : Int) (s : State), n < 64 → s.obj (O.txwOpen n) = 1 → s.obj (O.duplex n) ≠ 0 →
    nextClosing s n (Store.at 0 s.dfe.opened n + 1) = some q →
    ∃ t, exec (.txWindowClose n) s = .next t ∧ t.obj (O.txwOpen n) = 0 ∧ t.clock = (advanceToAir s (s.symbolAir n q)).clock
      ∧ Leaves s t (.dict :: timeParts) [O.txwOpen n])
  ∧ (∀ (g : Nat) (s : State), g < 16 → s.nat (O.txgCarrier g) < 64 → s.obj (O.carrierEnable (s.nat (O.txgCarrier g))) ≠ 0 →
    s.airRunning = true → s.obj O.guardState = 1 → s.carrierMuted (s.nat (O.txgCarrier g)) = false →
    windowAt s (s.nat (O.txgCarrier g)) (s.symbolOf (s.nat (O.txgCarrier g)) s.airNow) = some .always →
    gapMutes s (s.nat (O.txgCarrier g)) s.airNow = false →
    ∃ t, exec (.txgateEdge g true) s = .next t ∧ t.obj (O.txgLevel g) = 1
      ∧ (s.obj (O.txgLevel g) ≠ 1 → Counted s t (O.txgEdges g) 1)
      ∧ Leaves s t [.dict, .time] ([O.txgLevel g, O.txgEdges g] ++ (List.range 8).map fun n => O.capLost n))
  ∧ (∀ (g : Nat) (active : Bool) (s : State), g < 16 → 64 ≤ s.nat (O.txgCarrier g) →
    ∃ t, exec (.txgateEdge g active) s = .next t ∧ t.obj (O.txgLevel g) = 0
      ∧ Leaves s t [.dict, .time] ([O.txgLevel g, O.txgEdges g] ++ (List.range 8).map fun n => O.capLost n))

/-! ## Tiles (11) -/

/-- Scalar instructions write their general register, but for g0, which reads 0 and keeps nothing; the sources are read before the write, a
shift takes the low six bits of its amount, division rounds toward zero, and the wide immediate replaces one 16-bit field and keeps or clears
the others. A FENCE only moves the pc on (11 R364, R376, R377, R386). A division by zero and the one that overflows have free values (log
entry 11), the shift amount is the reading of log entry 27, and so is FENCE. -/
def Obligations.ScalarResults : Prop :=
  (∀ (t : Nat) (op : ScalarOp) (gd ga gb : Nat) (s : State) (c : Ctx), OnSlot s t c → (∀ l, op ≠ .jumpReg l) →
    ∃ s', exec (.scalarRegisterOp t op gd ga gb) s = .next s'
      ∧ Commits s s' t (setG c gd (scalarValue op (gReg c ga) (gReg c gb))))
  ∧ (∀ (t : Nat) (op : ScalarOp) (gd ga : Nat) (imm : Int) (s : State) (c : Ctx), OnSlot s t c → (∀ l, op ≠ .jumpReg l) →
    ∃ s', exec (.scalarImmediateOp t op gd ga imm) s = .next s'
      ∧ Commits s s' t (setG c gd (scalarValue op (gReg c ga) (BitVec.ofInt 64 imm))))
  ∧ (∀ (t gd field : Nat) (keep : Bool) (imm : Nat) (s : State) (c : Ctx), OnSlot s t c → field < 4 →
    ∃ s' w, exec (.wideImmediate t gd field keep imm) s = .next s' ∧ Commits s s' t (setG c gd w)
      ∧ w.extractLsb' (16 * field) 16 = BitVec.ofNat 16 imm
      ∧ ∀ k, k < 4 → k ≠ field → w.extractLsb' (16 * k) 16 = if keep = true then (gReg c gd).extractLsb' (16 * k) 16 else 0)
  ∧ (∀ (t : Nat) (s : State) (c : Ctx), OnSlot s t c → ∃ s', exec (.fence t) s = .next s' ∧ Commits s s' t c)
  ∧ (∀ (c : Ctx) (n m : Nat) (w : Word), gReg (setG c n w) m = if m = n ∧ n ≠ 0 then w else gReg c m)
  ∧ (∀ a b : Word, (scalarValue .sll a b).toNat = a.toNat * 2 ^ (b.toNat % 64) % 2 ^ 64
      ∧ (scalarValue .srl a b).toNat = a.toNat / 2 ^ (b.toNat % 64) ∧ (scalarValue .sra a b).toInt = a.toInt / 2 ^ (b.toNat % 64)
      ∧ scalarValue .setLt a b = (if a.toInt < b.toInt then 1 else 0) ∧ scalarValue .setLtu a b = (if a.toNat < b.toNat then 1 else 0)
      ∧ (b ≠ 0 → (scalarValue (.div false) a b).toNat = a.toNat / b.toNat)
      ∧ (b ≠ 0 → ¬ (a = BitVec.intMin 64 ∧ b = BitVec.allOnes 64) → (scalarValue (.div true) a b).toInt = a.toInt.tdiv b.toInt))

/-- Branches and jumps: a taken branch goes to the instruction `offset` instructions from itself and any other to the next; a jump does so
always, and with link g31 takes the address of the next instruction; a register jump goes to the sum of its operands and links into gd;
a branch condition that is not defined raises ILLEGAL (11 R376 to R378). -/
def Obligations.ControlFlow : Prop :=
  (∀ (t : Nat) (cond : Cond) (ga gb : Nat) (offset : Int) (s : State) (c : Ctx) (b : Bool), OnSlot s t c →
    condHolds cond (gReg c ga) (gReg c gb) c.vstat = some b →
    ∃ s', exec (.branch t cond ga gb offset) s = .next s' ∧ Leaves s s' [.tiles] []
      ∧ SlotBecomes s s' t { c with pc := if b = true then c.pc + BitVec.ofInt 64 (4 * offset) else c.pc + 4 })
  ∧ (∀ (t k ga gb : Nat) (offset : Int) (s : State) (c : Ctx), OnSlot s t c →
    ∃ s', exec (.branch t (.undefined k) ga gb offset) s = .next s' ∧ Raises s s' t c 1 0)
  ∧ (∀ (t : Nat) (link : Bool) (offset : Int) (s : State) (c : Ctx), OnSlot s t c →
    ∃ s', exec (.jump t link offset) s = .next s' ∧ Leaves s s' [.tiles] []
      ∧ SlotBecomes s s' t { (if link = true then setG c 31 (c.pc + 4) else c) with pc := c.pc + BitVec.ofInt 64 (4 * offset) })
  ∧ (∀ (t : Nat) (link : Bool) (gd ga gb : Nat) (s : State) (c : Ctx), OnSlot s t c →
    ∃ s', exec (.scalarRegisterOp t (.jumpReg link) gd ga gb) s = .next s' ∧ Leaves s s' [.tiles] []
      ∧ SlotBecomes s s' t { (if link = true then setG c gd (c.pc + 4) else c) with pc := gReg c ga + gReg c gb })
  ∧ (∀ (t : Nat) (link : Bool) (gd ga : Nat) (imm : Int) (s : State) (c : Ctx), OnSlot s t c →
    ∃ s', exec (.scalarImmediateOp t (.jumpReg link) gd ga imm) s = .next s' ∧ Leaves s s' [.tiles] []
      ∧ SlotBecomes s s' t { (if link = true then setG c gd (c.pc + 4) else c) with pc := gReg c ga + BitVec.ofInt 64 imm })
  ∧ (∀ (a b : Word) (v : BitVec 32), condHolds .eq a b v = some (decide (a = b)) ∧ condHolds .ne a b v = some (decide (a ≠ b))
      ∧ condHolds .lt a b v = some (decide (a.toInt < b.toInt)) ∧ condHolds .ge a b v = some (decide (b.toInt ≤ a.toInt))
      ∧ condHolds .ltu a b v = some (decide (a.toNat < b.toNat)) ∧ condHolds .geu a b v = some (decide (b.toNat ≤ a.toNat))
      ∧ condHolds .empty a b v = some (v.getLsbD 3) ∧ condHolds .notEmpty a b v = some (!v.getLsbD 3)
      ∧ condHolds .head a b v = some (v.getLsbD 4) ∧ condHolds .tail a b v = some (v.getLsbD 5))

/-- Vector arithmetic, compares, multiplies, permutes and predicates act on each element that the predicate makes active and keep the others;
the saturating flag is sticky; a write of a predicate sets EMPTY, HEAD and TAIL; PSPAN makes element i active where ga + i < gb; the
general destinations take an element sign-extended, a sum of the active ones, or their number (11 R364, R365, R369 to R376). A compare of
complex numbers by order has a free value (log entry 12), of which nothing is said. -/
def Obligations.VectorLanes : Prop :=
  (∀ (t : Nat) (op : VecOp) (sat : Bool) (f : VFields) (s : State) (c : Ctx), OnSlot s t c → s.vl t ≤ 4096 → isCompare op = false →
    vFieldsOk f true true true = true →
    ∃ s' c', exec (.vectorArithmetic t op sat f) s = .next s' ∧ SlotBecomes s s' t c' ∧ Leaves s s' [.tiles] []
      ∧ LaneWise c c' f.long f.d (elemBytes f.et) (activeOf c f.pg (laneCount s t f.long f.et) (elemBytes f.et))
          ((List.range (laneCount s t f.long f.et)).map fun i => arithElem op sat (vstatRnd c.vstat) f.et
            (laneOf (elemBytes f.et) (vReg c f.long f.a) i) (laneOf (elemBytes f.et) (vReg c f.long f.b) i)))
  ∧ (∀ (t : Nat) (op : VecOp) (sat : Bool) (f : VFields) (s : State) (c : Ctx), OnSlot s t c → s.vl t ≤ 4096 → isCompare op = true →
    vFieldsOk f false true true = true → 0 < f.d → f.d < 8 →
    ∃ s' c', exec (.vectorArithmetic t op sat f) s = .next s' ∧ SlotBecomes s s' t c' ∧ Leaves s s' [.tiles, .freeCtr] []
      ∧ (∀ i, i < laneCount s t f.long f.et → ∀ r, compareElem op f.et (laneOf (elemBytes f.et) (vReg c f.long f.a) i)
            (laneOf (elemBytes f.et) (vReg c f.long f.b) i) = some r →
          isActive (elemBytes f.et) (pReg c' f.d) i = if isActive (elemBytes f.et) (pReg c f.pg) i = true then r
            else isActive (elemBytes f.et) (pReg c f.d) i)
      ∧ (∀ m, m ≠ f.d → pReg c' m = pReg c m) ∧ c' = { c with pc := c.pc + 4, p := c'.p, vstat := c'.vstat }
      ∧ vstatEmpty c'.vstat = !(activeOf c' f.d (laneCount s t f.long f.et) (elemBytes f.et)).any id)
  ∧ (∀ (t : Nat) (op : MulOp) (sat : Bool) (f : VFields) (s : State) (c : Ctx), OnSlot s t c → s.vl t ≤ 4096 →
    op ∈ [.mul, .mac, .cmul, .cmulConj] → mulDefined op f.et = true → vFieldsOk f true true true = true →
    ∃ s' c', exec (.vectorMultiply t op sat f) s = .next s' ∧ SlotBecomes s s' t c' ∧ Leaves s s' [.tiles] []
      ∧ LaneWise c c' f.long f.d (elemBytes f.et) (activeOf c f.pg (laneCount s t f.long f.et) (elemBytes f.et))
          ((List.range (laneCount s t f.long f.et)).map fun i => mulElem op sat (vstatRnd c.vstat) f.et
            (laneOf (elemBytes f.et) (vReg c f.long f.d) i) (laneOf (elemBytes f.et) (vReg c f.long f.a) i)
            (laneOf (elemBytes f.et) (vReg c f.long f.b) i)))
  ∧ (∀ (t : Nat) (op : PermOp) (sat : Bool) (f : VFields) (s : State) (c : Ctx), OnSlot s t c → s.vl t ≤ 4096 →
    op ∈ [.broadcast, .moveV, .interleaveLo, .interleaveHi] → vFieldsOk f true true true = true →
    ∃ s' c', exec (.vectorPermute t op sat f) s = .next s' ∧ SlotBecomes s s' t c' ∧ Leaves s s' [.tiles, .freeCtr] []
      ∧ LaneWise c c' f.long f.d (elemBytes f.et) (activeOf c f.pg (laneCount s t f.long f.et) (elemBytes f.et))
          ((List.range (laneCount s t f.long f.et)).map fun i =>
            (if op = .broadcast then (gReg c f.b).toNat % 2 ^ (8 * elemBytes f.et)
             else if op = .moveV then laneOf (elemBytes f.et) (vReg c f.long f.a) i
             else laneOf (elemBytes f.et) (vReg c f.long (if i % 2 = 0 then f.a else f.b))
               (i / 2 + if op = .interleaveHi then laneCount s t f.long f.et / 2 else 0), false)))
  ∧ (∀ (t : Nat) (sat : Bool) (f : VFields) (s : State) (c : Ctx), OnSlot s t c → vFieldsOk f false true false = true → f.b < 32 →
    f.d < 32 → (gReg c f.b).toNat < laneCount s t f.long f.et →
    ∃ s', exec (.vectorPermute t .toG sat f) s = .next s' ∧ Leaves s s' [.tiles, .freeCtr] []
      ∧ SlotBecomes s s' t { setG c f.d (BitVec.ofInt 64 (partValue (8 * elemBytes f.et)
          (laneOf (elemBytes f.et) (vReg c f.long f.a) (gReg c f.b).toNat))) with pc := c.pc + 4 })
  ∧ (∀ (t : Nat) (sat : Bool) (f : VFields) (s : State) (c : Ctx), OnSlot s t c → vFieldsOk f false true false = true → f.b < 32 →
    f.d < 32 → f.et ≠ .c16 →
    ∃ s', exec (.vectorPermute t .reduceAdd sat f) s = .next s' ∧ Leaves s s' [.tiles, .freeCtr] []
      ∧ SlotBecomes s s' t { setG c f.d (BitVec.ofInt 64 (((List.range (laneCount s t f.long f.et)).filter
          (isActive (elemBytes f.et) (pReg c f.pg))).map fun i => partValue (8 * elemBytes f.et)
            (laneOf (elemBytes f.et) (vReg c f.long f.a) i)).sum) with pc := c.pc + 4 })
  ∧ (∀ (t : Nat) (short : Bool) (pd ga gb : Nat) (et : ElemType) (s : State) (c : Ctx), OnSlot s t c → s.vl t ≤ 4096 →
    elemKnown et = true → 0 < pd → pd < 8 →
    ∃ s' c', exec (.pspan t short pd ga gb et) s = .next s' ∧ SlotBecomes s s' t c' ∧ Leaves s s' [.tiles] []
      ∧ (∀ i, i < laneCount s t (!short) et →
          isActive (elemBytes et) (pReg c' pd) i = decide ((gReg c ga).toNat + i < (gReg c gb).toNat))
      ∧ (∀ m, m ≠ pd → pReg c' m = pReg c m) ∧ c' = { c with pc := c.pc + 4, p := c'.p, vstat := c'.vstat }
      ∧ (0 < laneCount s t (!short) et → vstatEmpty c'.vstat = decide ((gReg c gb).toNat ≤ (gReg c ga).toNat)
          ∧ vstatHead c'.vstat = decide ((gReg c ga).toNat < (gReg c gb).toNat)))
  ∧ (∀ (t : Nat) (op : PredOp) (pd pa pb gd : Nat) (et : ElemType) (s : State) (c : Ctx), OnSlot s t c → s.vl t ≤ 4096 →
    op ∈ [.pand, .por, .pxor, .pnot] → elemKnown et = true → 0 < pd → pd < 8 → pa < 8 → pb < 8 → gd < 32 →
    ∃ s' c', exec (.predicateOp t op pd pa pb gd et) s = .next s' ∧ SlotBecomes s s' t c' ∧ Leaves s s' [.tiles] []
      ∧ (∀ i, i < laneCount s t true et → isActive (elemBytes et) (pReg c' pd) i =
          (if op = .pand then isActive (elemBytes et) (pReg c pa) i && isActive (elemBytes et) (pReg c pb) i
           else if op = .por then isActive (elemBytes et) (pReg c pa) i || isActive (elemBytes et) (pReg c pb) i
           else if op = .pxor then isActive (elemBytes et) (pReg c pa) i != isActive (elemBytes et) (pReg c pb) i
           else !isActive (elemBytes et) (pReg c pa) i))
      ∧ (∀ m, m ≠ pd → pReg c' m = pReg c m) ∧ c' = { c with pc := c.pc + 4, p := c'.p, vstat := c'.vstat })
  ∧ (∀ (t pd pa pb gd : Nat) (et : ElemType) (s : State) (c : Ctx), OnSlot s t c → elemKnown et = true → pd < 8 → pa < 8 → pb < 8 →
    gd < 32 →
    ∃ s', exec (.predicateOp t .count pd pa pb gd et) s = .next s'
      ∧ Commits s s' t (setG c gd (BitVec.ofNat 64 ((List.range (laneCount s t true et)).filter
          (isActive (elemBytes et) (pReg c pa))).length)))

/-- Loads and stores: a scalar access of its size, ALIGN where its address is not a multiple of it; vector and gathered elements are loaded
where active and read zero where not; a store changes exactly the bytes that the access reaches, those in the task's pallets staged until its
outputs are published; a gather whose element k faults traps there with VSTART k and the elements below written; a first-fault gather
that meets its fault after its first active element instead loses element k and those above, and ffr says why (11 R362, R367, R377, R383 to
R391). -/
def Obligations.LoadsAndStores : Prop :=
  (∀ (t gd ga : Nat) (offset : Int) (size : Nat) (signed : Bool) (s : State) (c : Ctx) (l : List Nat), OnSlot s t c → size ∈ [1, 2, 4, 8] →
    addrOf ((gReg c ga).toNat + offset * size) % size = 0 →
    resolveBytes s t c false (addrOf ((gReg c ga).toNat + offset * size)) size = .ok l →
    ∃ s', exec (.scalarLoad t gd ga offset size signed) s = .next s'
      ∧ Commits s s' t (setG c gd (BitVec.ofInt 64 (if signed = true then partValue (8 * size) (leNat (l.map (seenByte s c)))
          else (leNat (l.map (seenByte s c)) : Int)))))
  ∧ (∀ (t gd ga : Nat) (offset : Int) (size : Nat) (s : State) (c : Ctx), OnSlot s t c → size ∈ [2, 4, 8] →
    addrOf ((gReg c ga).toNat + offset * size) % size ≠ 0 →
    (∀ signed, ∃ s', exec (.scalarLoad t gd ga offset size signed) s = .next s'
        ∧ Raises s s' t c 3 (addrOf ((gReg c ga).toNat + offset * size)))
      ∧ ∃ s', exec (.scalarStore t gd ga offset size) s = .next s' ∧ Raises s s' t c 3 (addrOf ((gReg c ga).toNat + offset * size)))
  ∧ (∀ (t gd ga : Nat) (offset : Int) (size : Nat) (s : State) (c : Ctx) (l : List Nat), OnSlot s t c → size ∈ [1, 2, 4, 8] →
    addrOf ((gReg c ga).toNat + offset * size) % size = 0 →
    resolveBytes s t c true (addrOf ((gReg c ga).toNat + offset * size)) size = .ok l →
    hitsInput c (addrOf ((gReg c ga).toNat + offset * size)) size = false →
    ∃ s' c', exec (.scalarStore t gd ga offset size) s = .next s' ∧ SlotBecomes s s' t c'
      ∧ c' = { c with pc := c.pc + 4, staged := c'.staged } ∧ StoresLanes s s' c c' [0] (fun _ => l) (fun _ => (gReg c gd).toNat))
  ∧ (∀ (t : Nat) (f : VMFields) (s : State) (c : Ctx), OnSlot s t c → s.vl t ≤ 4096 → vmCheck c f = none →
    (∀ i, i < laneCount s t f.long f.et → isActive (elemBytes f.et) (pReg c f.pg) i = true →
      ∃ v, loadAt s t c ((vmAddrs c f (laneCount s t f.long f.et)).getD i 0) (elemBytes f.et) = .ok v) →
    ∃ s' c', exec (.vectorLoad t f) s = .next s' ∧ SlotBecomes s s' t c' ∧ Leaves s s' [.tiles] []
      ∧ (∀ i, i < laneCount s t f.long f.et →
          if isActive (elemBytes f.et) (pReg c f.pg) i = true
          then loadAt s t c ((vmAddrs c f (laneCount s t f.long f.et)).getD i 0) (elemBytes f.et)
            = .ok (laneOf (elemBytes f.et) (vReg c' f.long f.d) i)
          else laneOf (elemBytes f.et) (vReg c' f.long f.d) i = 0)
      ∧ (∀ m, m ≠ f.d → vReg c' f.long m = vReg c f.long m) ∧ c' = { c with pc := c.pc + 4, s := c'.s, v := c'.v })
  ∧ (∀ (t : Nat) (f : VMFields) (s : State) (c : Ctx) (l : Nat → List Nat), OnSlot s t c → vmCheck c f = none →
    (∀ i, i < laneCount s t f.long f.et → isActive (elemBytes f.et) (pReg c f.pg) i = true →
      resolveBytes s t c true ((vmAddrs c f (laneCount s t f.long f.et)).getD i 0) (elemBytes f.et) = .ok (l i)
        ∧ hitsInput c ((vmAddrs c f (laneCount s t f.long f.et)).getD i 0) (elemBytes f.et) = false) →
    ∃ s' c', exec (.vectorStore t f) s = .next s' ∧ SlotBecomes s s' t c' ∧ c' = { c with pc := c.pc + 4, staged := c'.staged }
      ∧ StoresLanes s s' c c' ((List.range (laneCount s t f.long f.et)).filter (isActive (elemBytes f.et) (pReg c f.pg))) l
          (laneOf (elemBytes f.et) (vReg c f.long f.d)))
  ∧ (∀ (t : Nat) (f : VGFields) (s : State) (c : Ctx), OnSlot s t c → s.vl t ≤ 4096 → vgCheck c f = none →
    (∀ i ∈ vgActive s t c f, ∃ v, loadAt s t c (vgAddr c f i) 4 = .ok v) →
    ∃ c', (∀ i, i < vgCount s t → if isActive 4 (pReg c f.pg) i = false then laneOf 4 (vReg c' true f.vd) i = 0
          else if vstatStart c.vstat ≤ i then loadAt s t c (vgAddr c f i) 4 = .ok (laneOf 4 (vReg c' true f.vd) i)
          else laneOf 4 (vReg c' true f.vd) i = laneOf 4 (vReg c true f.vd) i)
      ∧ (∀ m, m ≠ f.vd → vReg c' true m = vReg c true m) ∧ vstatStart c'.vstat = 0
      ∧ c' = { c with pc := c.pc + 4, v := c'.v, vstat := c'.vstat }
      ∧ (∃ s', exec (.gather t f) s = .next s' ∧ SlotBecomes s s' t c' ∧ Leaves s s' [.tiles] [])
      ∧ (f.pg ≠ 0 → ∃ s', exec (.firstFaultGather t f) s = .next s' ∧ SlotBecomes s s' t c' ∧ Leaves s s' [.tiles] []))
  ∧ (∀ (t : Nat) (f : VGFields) (s : State) (c : Ctx) (k : Nat) (e : Exc), OnSlot s t c → s.vl t ≤ 4096 → vgCheck c f = none →
    k ∈ vgActive s t c f → loadAt s t c (vgAddr c f k) 4 = .error e → e.code ≠ 6 →
    (∀ i ∈ vgActive s t c f, i < k → ∃ v, loadAt s t c (vgAddr c f i) 4 = .ok v) →
    (∃ s' c', exec (.gather t f) s = .next s' ∧ Raises s s' t c' e.code (vgAddr c f k) ∧ vstatStart c'.vstat = k
      ∧ (∀ i, i < vgCount s t → if i ∈ vgActive s t c f ∧ i < k
            then loadAt s t c (vgAddr c f i) 4 = .ok (laneOf 4 (vReg c' true f.vd) i)
            else laneOf 4 (vReg c' true f.vd) i = laneOf 4 (vReg c true f.vd) i)
      ∧ (∀ m, m ≠ f.vd → vReg c' true m = vReg c true m) ∧ c' = { c with v := c'.v, vstat := c'.vstat })
    ∧ (f.pg ≠ 0 → (∃ i ∈ vgActive s t c f, i < k) →
      ∃ s' c', exec (.firstFaultGather t f) s = .next s' ∧ SlotBecomes s s' t c' ∧ Leaves s s' [.tiles] []
        ∧ (∀ i, i < vgCount s t → isActive 4 (pReg c' f.pg) i = (isActive 4 (pReg c f.pg) i && decide (i < k)))
        ∧ (∀ i, i < vgCount s t → if isActive 4 (pReg c' f.pg) i = false then laneOf 4 (vReg c' true f.vd) i = 0
            else if vstatStart c.vstat ≤ i then loadAt s t c (vgAddr c f i) 4 = .ok (laneOf 4 (vReg c' true f.vd) i)
            else laneOf 4 (vReg c' true f.vd) i = laneOf 4 (vReg c true f.vd) i)
        ∧ vstatStart c'.vstat = 0 ∧ c'.ffr = ffrOf ⟨e.code, vgAddr c f k⟩ k
        ∧ c' = { c with pc := c.pc + 4, v := c'.v, p := c'.p, ffr := c'.ffr, vstat := c'.vstat }))
  ∧ (∀ (t : Nat) (f : VGFields) (s : State) (c : Ctx) (l : Nat → List Nat), OnSlot s t c → vgCheck c f = none →
    (∀ i ∈ vgActive s t c f, resolveBytes s t c true (vgAddr c f i) 4 = .ok (l i) ∧ hitsInput c (vgAddr c f i) 4 = false) →
    ∃ s' c', exec (.scatter t false f) s = .next s' ∧ SlotBecomes s s' t c'
      ∧ c' = { c with pc := c.pc + 4, staged := c'.staged, vstat := vstatSetStart 0 c.vstat }
      ∧ StoresLanes s s' c c' (vgActive s t c f) l (laneOf 4 (vReg c true f.vd)))
  ∧ (∀ (t : Nat) (f : VGFields) (s : State) (c : Ctx), OnSlot s t c →
    ∃ s', exec (.scatter t true f) s = .next s' ∧ Raises s s' t c 1 0)

/-- Levels and exceptions: SYSCALL, FCALL and BREAK raise their codes; ERET returns to K at S_EPC from S, to the caller from F, and is
PRIVILEGE at K; a control register is read and written at its level, an unlisted one is ILLEGAL and one of S at K is PRIVILEGE; TEND ends the
task with the status in its register (11 R366, R368, R393 to R396, Table 11-12). -/
def Obligations.LevelsAndExceptions : Prop :=
  (∀ (t : Nat) (s : State) (c : Ctx), OnSlot s t c →
    (∃ s', exec (.syscall t) s = .next s' ∧ Raises s s' t c 9 0) ∧ (∃ s', exec (.fcall t) s = .next s' ∧ Raises s s' t c 10 0)
      ∧ (∃ s', exec (.breakpoint t) s = .next s' ∧ Raises s s' t c 11 0))
  ∧ (∀ (t : Nat) (s : State) (c : Ctx), OnSlot s t c →
    ∃ s', exec (.eret t) s = .next s' ∧
      if c.level = 0 then Raises s s' t c 2 0
      else if c.level = 1 then SlotBecomes s s' t { c with level := 0, prev := 1, pc := c.sEpc } ∧ Leaves s s' [.tiles] []
      else SlotBecomes s s' t { c with level := c.prev, prev := 2, pc := c.fEpc } ∧ Leaves s s' [.tiles] [])
  ∧ (∀ (t : Nat) (write : Bool) (g number : Nat) (s : State) (c : Ctx), OnSlot s t c →
    (readControl s t c number = none →
      ∃ s', exec (.controlRegisterAccess t write g number) s = .next s' ∧ Raises s s' t c 1 0)
    ∧ (c.level = 0 → 0x010 ≤ number → readControl s t c number ≠ none →
      ∃ s', exec (.controlRegisterAccess t write g number) s = .next s' ∧ Raises s s' t c 2 0))
  ∧ (∀ (t g number : Nat) (w : Word) (s : State) (c : Ctx), OnSlot s t c → readControl s t c number = some w → number ≠ 0x003 →
    (number < 0x010 ∨ 1 ≤ c.level) →
    ∃ s', exec (.controlRegisterAccess t false g number) s = .next s' ∧ Commits s s' t (setG c g w))
  ∧ (∀ (t g number : Nat) (s : State) (c : Ctx), OnSlot s t c →
    number ∈ [0x000, 0x001, 0x010, 0x011, 0x020, 0x023, 0x024] → (number < 0x010 ∨ 1 ≤ c.level) →
    (number = 0x000 → (gReg c g).extractLsb' 1 2 ≠ 3) →
    ∃ s', exec (.controlRegisterAccess t true g number) s = .next s' ∧ Leaves s s' [.tiles] []
      ∧ SlotBecomes s s' t (if number = 0x000 then { c with pc := c.pc + 4, vstat := (gReg c g).setWidth 32 &&& 0x03FF003F#32 }
          else if number = 0x001 then { c with pc := c.pc + 4, ffr := gReg c g }
          else if number = 0x010 then { c with pc := c.pc + 4, kLo := (gReg c g).setWidth 32 }
          else if number = 0x011 then { c with pc := c.pc + 4, kHi := (gReg c g).setWidth 32 }
          else if number = 0x020 then { c with pc := c.pc + 4, sEpc := gReg c g }
          else if number = 0x023 then { c with pc := c.pc + 4, sScratch := gReg c g }
          else { c with pc := c.pc + 4, sTvec := (gReg c g).setWidth 32 }))
  ∧ (∀ (t g : Nat) (s : State) (c : Ctx), OnSlot s t c →
    ∃ s' how, exec (.tend t g) s = .next s' ∧ SlotBecomes s s' t { c with pc := c.pc + 4, ended := some how }
      ∧ (gReg c g = 0 → how = .ok) ∧ (gReg c g = 1 → how = .fault) ∧ Leaves s s' [.tiles, .freeCtr] [])

/-- A task's life on its tile: it starts at its program's entry in K with g1 its argument block, g2 its tag and g3 its generation, every other
register 0, and window 0 the argument block, of which memory takes the bytes and nothing else but zeros where a scrub found the tile bad;
its end is reported once its fused jobs are settled, and counted; a cancel ends it, settles its unsent jobs, sends a token to the others
and leaves nothing that it stored to its pallets (11 R366, R392, R396, R397; 12 R412, R421, R422; 13 R435). The place of the argument block is
the model's (log entry 25). -/
def Obligations.TaskLife : Prop :=
  (∀ (t tag : Nat) (o : Op) (s : State), t < 200 → startable s t = some (tag, o) → s.op tag = some o →
    ∃ s' c, exec (.taskStart t) s = .next s' ∧ SlotBecomes s s' t c ∧ c.tag = tag ∧ c.gen = o.gen ∧ c.level = 0 ∧ c.ended = none
      ∧ c.pc = BitVec.ofNat 64 (s.program (programKind o.id.kind)).entry
      ∧ gReg c 1 = BitVec.ofNat 64 (0x100000000 + argOffset t) ∧ gReg c 2 = BitVec.ofNat 64 tag ∧ gReg c 3 = BitVec.ofNat 64 o.gen
      ∧ (∀ n, n = 0 ∨ 3 < n → gReg c n = 0) ∧ (∀ long n, vReg c long n = 0) ∧ (∀ n, n ≠ 0 → pReg c n = 0)
      ∧ c.vstat = vstatStartOfTask (s.program (programKind o.id.kind)).rnd ∧ c.jobs = [] ∧ c.staged = []
      ∧ Store.at 0 c.wins 0 = BitVec.ofNat 64 (palletAddr (argPallet t) + 0x11)
      ∧ s'.op tag = some { o with state := .running, start := s.airNow, next := false } ∧ Store.find s'.sched.copies t = none
      ∧ (∀ a, (a < palletAddr (argPallet t) + argOffset t ∨ palletAddr (argPallet t) + argOffset t
            + 88 + 8 * (o.ins.flatMap (inputWins s o (Store.at [] s.sched.copies t))).length ≤ a) → a ∉ s.integ.toZero →
          memByte s'.mem a = memByte s.mem a)
      ∧ SameBut s s' [.dict, .freeCtr, .integ, .mem, .sched, .tiles])
  ∧ (∀ (t : Nat) (c : Ctx) (how : TaskEnd) (s : State), t < 200 → Store.find s.tiles t = some c → c.ended = some how →
    (∀ j ∈ c.jobs, j.2.settled = true) →
    ∃ s', exec (.taskEndReport t) s = .next s' ∧ Store.find s'.tiles t = none
      ∧ (∀ u, u ≠ t → Store.find s'.tiles u = Store.find s.tiles u)
      ∧ (∀ o, s.op c.tag = some o →
          s'.op c.tag = some { o with ended := some how, data := if how = .ok then c.staged else [] })
      ∧ Counted s s' (O.tasksEnded t) 1
      ∧ (if how = .fault ∨ how = .dataLost then Counted s s' (O.taskFaults t) 1 else s'.obj (O.taskFaults t) = s.obj (O.taskFaults t))
      ∧ (if how = .cancelled then Counted s s' (O.taskCancels t) 1 else s'.obj (O.taskCancels t) = s.obj (O.taskCancels t))
      ∧ (if vstatSat c.vstat = true then Counted s s' O.satTasks 1 else s'.obj O.satTasks = s.obj O.satTasks)
      ∧ Leaves s s' [.dict, .sched, .tiles] [O.tasksEnded t, O.busyCycles t, O.taskFaults t, O.taskCancels t, O.satTasks, O.tileState t])
  ∧ (∀ (t : Nat) (c : Ctx) (s : State), OnSlot s t c → (∀ o, s.op c.tag = some o → o.cancel = true) →
    ∃ s' c', exec (.tileCancel t) s = .next s' ∧ SlotBecomes s s' t c'
      ∧ c' = { c with jobs := c'.jobs, ended := some .cancelled, staged := [] }
      ∧ (∀ slot j, Store.find c.jobs slot = some j → Store.find c'.jobs slot = some
          (if j.settled = true then j else if j.sent = true then { j with cancel := true }
           else { j with settled := true, cancelled := true }))
      ∧ Counted s s' O.fusedCancelled (c.jobs.filter fun j => !j.2.settled && !j.2.sent).length
      ∧ Leaves s s' [.dict, .tiles] [O.fusedCancelled])

/-- Faults, vectors and bonds of tiles: a tile that faults leaves service with its pair, and the lowest-numbered spare pair takes the role, its
bond mode and its vector lengths, with SPARE_ENGAGED; a spare that fails its self-test no longer counts; TILE_VL takes effect where the tile
holds no task, and is refused where a partition would lose slots that it claims; BOND_MODE is refused with
BOND_CONFLICT for a pair out of service, with too few header-bonded pairs left or where a partition would lose slots that it claims, and the
mode in force is accepted and does nothing; a pair that may change is left CHANGING, and the change ends with the memories of both tiles loaded from the image and no other byte changed
(11 R356, R357, R398, R402 to R405; 13 R429; 17 R572). That memory outside the image reads 0 is log entry 28,
and that a pair out of service refuses also the mode in force is log entry 33. -/
def Obligations.TileFaultsAndBonds : Prop :=
  (∀ (t m : Nat) (s : State), t < 200 → s.obj (O.pairRole (t / 2)) = 0 → sparePair s = some m →
    ∃ s', exec (.tileFault t) s = .next s' ∧ s'.obj (O.tileState t) = 3
      ∧ s'.obj (O.tileState (if t % 2 = 0 then t + 1 else t - 1)) = 4 ∧ s'.obj (O.pairRole (t / 2)) = 2 ∧ s'.obj (O.pairRole m) = 0
      ∧ s'.obj (O.bondMode m) = s.obj (O.bondMode (t / 2)) ∧ s'.obj (O.bondState m) = s.obj (O.bondMode (t / 2))
      ∧ s'.obj (O.tileVl (2 * m)) = s.obj (O.tileVl (2 * (t / 2)))
      ∧ s'.obj (O.tileVl (2 * m + 1)) = s.obj (O.tileVl (2 * (t / 2) + 1))
      ∧ s'.obj (O.servesFor m) = (if s.obj (O.servesFor (t / 2)) = 0xFF then ((t / 2 : Nat) : Int) else s.obj (O.servesFor (t / 2)))
      ∧ s'.obj O.tileSpares = (s.nat O.tileSpares - 2 : Nat) ∧ Counted s s' O.tileFaults 1 ∧ Counted s s' O.spareEngagedCount 1
      ∧ SameBut s s' [.bondWas, .dict, .guard, .kiln, .link, .pipe, .sched, .svc, .tiles])
  ∧ (∀ (n : Nat) (s : State), n < 100 → s.obj (O.pairRole n) = 0 → s.obj (O.bondState n) = 2 →
    ∃ s', exec (.bondMismatch n) s = .next s' ∧ Counted s s' (O.bondMismatches n) 1 ∧ Counted s s' O.tileFaults 1
      ∧ s'.obj (O.pairRole n) = 2 ∧ SameBut s s' [.bondWas, .dict, .guard, .kiln, .link, .pipe, .sched, .svc, .tiles])
  ∧ (∀ (n : Nat) (s : State), n < 100 → s.obj (O.pairRole n) = 1 →
    (∃ s', exec (.spareSelfTest n false) s = .next s' ∧ s'.obj (O.pairRole n) = 2 ∧ s'.obj (O.tileState (2 * n)) = 3
        ∧ s'.obj (O.tileState (2 * n + 1)) = 3 ∧ s'.obj O.tileSpares = (s.nat O.tileSpares - 2 : Nat)
        ∧ (s.nat O.tileSpares ≤ 2 → bitOf (s'.nat O.faultCauses) 2 = true)
        ∧ Leaves s s' [.dict] [O.pairRole n, O.tileState (2 * n), O.tileState (2 * n + 1), O.tileSpares, O.faultCauses])
      ∧ exec (.spareSelfTest n true) s = .next s)
  ∧ (∀ (x : Xfer) (t : Nat) (v : Int) (s : State), t < 200 → Accepts s x (O.tileVl t) (.num v) → s.obj (O.bondState (t / 2)) = 0 →
    ∃ s', exec (.writeTileVl x t v) s = .next s' ∧
      if claimsMet ((s.change (O.tileVl t) v).setObj (O.tileVlActive t) v.toNat) = true
      then Answers s s' x (O.tileVl t) (.num v) .ok [] [O.tileVl t, O.tileVlActive t, O.changeCount] ∧ s'.obj (O.tileVl t) = v
        ∧ s'.obj (O.tileVlActive t) = if tileHolds s t = true then s.obj (O.tileVlActive t) else (v.toNat : Int)
      else Answers s s' x (O.tileVl t) (.num v) .bondConflict [] [])
  ∧ (∀ (t : Nat) (s : State), t < 200 →
    ∃ s', exec (.tileVlApply t) s = .next s' ∧ Leaves s s' [.dict] [O.tileVlActive (2 * (t / 2)), O.tileVlActive (2 * (t / 2) + 1)]
      ∧ (s.obj (O.bondState (t / 2)) = 0 → s'.obj (O.tileVlActive t)
          = if tileHolds s t = true then s.obj (O.tileVlActive t) else (s.nat (O.tileVl t) : Int))
      ∧ (s.obj (O.bondState (t / 2)) = 1 → tileHolds s (2 * (t / 2)) = false → tileHolds s (2 * (t / 2) + 1) = false →
          s'.obj (O.tileVlActive t) = (2 * s.nat (O.tileVl (2 * (t / 2))) : Nat))
      ∧ (s.obj (O.bondState (t / 2)) = 2 → tileHolds s (2 * (t / 2)) = false → tileHolds s (2 * (t / 2) + 1) = false →
          s'.obj (O.tileVlActive t) = (s.nat (O.tileVl (2 * (t / 2))) : Int)))
  ∧ (∀ (x : Xfer) (n : Nat) (v : Int) (s : State), n < 100 → Accepts s x (O.bondMode n) (.num v) →
    ∃ s', exec (.writeBondMode x n v) s = .next s' ∧
      if s.obj (O.pairRole n) = 0 ∧ s.obj (O.bondState n) = v ∧ s.obj (O.bondMode n) = v
      then Answers s s' x (O.bondMode n) (.num v) .ok [] []
      else s.obj (O.pairRole n) ≠ 0 ∨ otherHeaders s n + (if v = 2 then 1 else 0) < s.nat O.headerMin
          ∨ claimsMet (setVls n (s.setObj (O.bondState n) v)) = false →
        Answers s s' x (O.bondMode n) (.num v) .bondConflict [] [])
  ∧ (∀ (x : Xfer) (n : Nat) (v : Int) (s : State), n < 100 → Accepts s x (O.bondMode n) (.num v) → s.obj (O.pairRole n) = 0 →
    s.obj (O.bondState n) ≠ v → s.obj (O.bondState n) ≠ 3 → s.nat O.headerMin ≤ otherHeaders s n + (if v = 2 then 1 else 0) →
    claimsMet (setVls n (s.setObj (O.bondState n) v)) = true → s.runs (2 + n / 10) = true →
    ∃ s', exec (.writeBondMode x n v) s = .next s' ∧ Replied s s' x (O.bondMode n) (.num v) .ok ∧ s'.obj (O.bondMode n) = v
      ∧ s'.obj (O.bondState n) = 3 ∧ Store.find s'.bondWas n = some (s.nat (O.bondState n))
      ∧ SameBut s s' [.bondWas, .clock, .dict, .guard, .kiln, .link, .pipe, .sched, .svc, .time])
  ∧ (∀ (n : Nat) (s : State), n < 100 → s.obj (O.pairRole n) = 0 → s.obj (O.bondState n) = 3 → tileHolds s (2 * n) = false →
    tileHolds s (2 * n + 1) = false →
    ∃ s', exec (.bondChangeComplete n) s = .next s' ∧ s'.obj (O.bondState n) = s.obj (O.bondMode n)
      ∧ Counted s s' (O.bondChanges n) 1
      ∧ (∀ u a, u / 2 = n → tileAddr u ≤ a → a < tileAddr u + 0x80000 → (∀ e ∈ imageCells s' u, e.1 ≠ a) → memByte s'.mem a = 0)
      ∧ (∀ a, (∀ u, u / 2 = n → a < tileAddr u ∨ tileAddr u + 0x80000 ≤ a) → memByte s'.mem a = memByte s.mem a)
      ∧ SameBut s s' [.bondWas, .dict, .kiln, .link, .mem, .pipe, .sched, .svc])

/-! ## Fused operations (12) -/

/-- Fused jobs: a FUSE that nothing refuses takes the lowest free slot of its class, answers the ticket, and sends the job, but for a
header-bonded pair, whose job waits; that of a decode enters the kiln with its descriptor; one that is refused raises FUSED with its reason; a job that waited is sent; and its publication settles
it, counts, and merges the outputs, those of an encode computed from its descriptor (12 R408 to R420; 07 R228, R229). That a FUSE commits as it issues is log entry 29. -/
def Obligations.FusedJobs : Prop :=
  (∀ (t gd ga cls : Nat) (sizes : List Nat) (s : State) (c : Ctx) (d : Bytes) (slot : Nat), OnSlot s t c → cls < 4 → gd < 32 → ga < 32 →
    judgeFuse s t c (gReg c ga).toNat cls sizes = .ok (d, slot) → s.obj (O.bondState (t / 2)) ≠ 2 → cls ≠ 0 →
    ∃ s' c' j, exec (.fuse t gd ga cls sizes) s = .next s' ∧ SlotBecomes s s' t { c' with pc := c.pc + 4 }
      ∧ c' = setG { c with jobs := Store.put c.jobs slot j } gd
          (BitVec.ofNat 64 (slot + cls * 2 ^ 8 + s.sched.nextTag % 2 ^ 16 * 2 ^ 16))
      ∧ j.cls = cls ∧ j.tag = s.sched.nextTag % 2 ^ 16 ∧ j.gen = c.gen ∧ j.extents = fuseExtents cls d sizes ∧ j.sent = true ∧ j.settled = false
      ∧ j.desc = sentCopy cls c.gen j.tag d
      ∧ j.cancel = false ∧ s'.sched.nextTag = s.sched.nextTag + 1 ∧ Counted s s' O.fusedIssued 1
      ∧ Leaves s s' [.dict, .sched, .tiles] [O.fusedIssued])
  ∧ (∀ (t gd ga : Nat) (sizes : List Nat) (s : State) (c : Ctx) (d copy : Bytes) (slot tag : Nat), OnSlot s t c → gd < 32 → ga < 32 →
    judgeFuse s t c (gReg c ga).toNat 0 sizes = .ok (d, slot) → s.obj (O.bondState (t / 2)) ≠ 2 → tag = s.sched.nextTag % 2 ^ 16 →
    copy = sentCopy 0 c.gen tag d → badDecode copy = false →
    ∃ s' job, exec (.fuse t gd ga 0 sizes) s = .next s' ∧ Store.find s'.kiln.jobs tag = some job ∧ job.desc = copy ∧ job.status = none
      ∧ (∀ k, k ≠ tag → Store.find s'.kiln.jobs k = Store.find s.kiln.jobs k) ∧ Counted s s' O.fusedIssued 1
      ∧ Leaves s s' [.dict, .kiln, .sched, .tiles] [O.fusedIssued])
  ∧ (∀ (t gd ga cls : Nat) (sizes : List Nat) (s : State) (c : Ctx) (d : Bytes) (slot : Nat), OnSlot s t c → cls < 4 → gd < 32 → ga < 32 →
    judgeFuse s t c (gReg c ga).toNat cls sizes = .ok (d, slot) → s.obj (O.bondState (t / 2)) = 2 →
    ∃ s' c' j, exec (.fuse t gd ga cls sizes) s = .next s' ∧ SlotBecomes s s' t { c' with pc := c.pc + 4 }
      ∧ c' = setG { c with jobs := Store.put c.jobs slot j } gd
          (BitVec.ofNat 64 (slot + cls * 2 ^ 8 + s.sched.nextTag % 2 ^ 16 * 2 ^ 16))
      ∧ j.cls = cls ∧ j.sent = false ∧ j.settled = false ∧ j.extents = fuseExtents cls d sizes ∧ Leaves s s' [.sched, .tiles] [])
  ∧ (∀ (t gd ga cls : Nat) (sizes : List Nat) (s : State) (c : Ctx) (e : Exc), OnSlot s t c → cls < 4 → gd < 32 → ga < 32 →
    judgeFuse s t c (gReg c ga).toNat cls sizes = .error e → e.code = 12 →
    ∃ s', exec (.fuse t gd ga cls sizes) s = .next s' ∧ Raises s s' t c 12 e.addr ∧ Counted s s' O.fusedRefused 1
      ∧ s'.obj O.fusedLastRefusal = (e.addr / 2 ^ 56 : Nat))
  ∧ (∀ (t slot : Nat) (s : State) (c : Ctx) (j : FusedJob), t < 200 → Store.find s.tiles t = some c → Store.find c.jobs slot = some j →
    j.sent = false → j.settled = false → j.cls ≠ 0 →
    ∃ s', exec (.fusedJobSend t slot) s = .next s' ∧ Counted s s' O.fusedIssued 1
      ∧ SlotBecomes s s' t { c with jobs := Store.put c.jobs slot { j with sent := true } }
      ∧ Leaves s s' [.dict, .tiles] [O.fusedIssued])
  ∧ (∀ (t slot : Nat) (result : Bytes) (outputs : List (Nat × Bytes)) (s : State) (c : Ctx) (j : FusedJob), t < 200 →
    Store.find s.tiles t = some c → Store.find c.jobs slot = some j → j.sent = true → j.settled = false → j.cancel = false →
    jobEnded j = true →
    ∃ s' c', exec (.fusedPublication t slot result outputs) s = .next s' ∧ SlotBecomes s s' t c'
      ∧ Store.find c'.jobs slot = some { j with ended := true, settled := true, word :=
          if j.ended = true then j.word else bytesAt (if j.cls = 1 then (fusedEncode s t j).1 else result) 0 4 }
      ∧ (∀ k, k ≠ slot → Store.find c'.jobs k = Store.find c.jobs k) ∧ c' = { c with jobs := c'.jobs, staged := c'.staged }
      ∧ ((∀ x ∈ (if j.cls = 0 then j.staged else if j.cls = 1 then (fusedEncode s t j).2.1 else outputs ++ j.staged),
            inOutput j x.1 x.2.length = false) → s'.mem = s.mem ∧ c'.staged = c.staged)
      ∧ (j.cls = 1 → Counted s s' O.encJobs 1
          ∧ (if badEncode j.desc = true then Counted s s' O.badJobs 1 else Counted s s' O.encBlocks (fusedEncode s t j).2.2))
      ∧ Counted s s' O.fusedPublished 1
      ∧ Leaves s s' [.dict, .integ, .mem, .tiles]
          (O.fusedPublished :: if j.cls = 1 then [O.encJobs, O.badJobs, O.encBlocks] else []))

/-- Waits, tests, cancels and branches on a ticket: FWAIT frees the slot of a settled job and answers its completion word, and while it is
unsettled nothing happens; FTEST answers the word at once; FCANCEL settles a job that was not sent and sends a token for one that was; BFB
and BFF branch on it and on the free slots; and a ticket without a live job raises FUSED with reason TICKET (12 R409 to R412, R419, R421). -/
def Obligations.FusedTickets : Prop :=
  (∀ (t gd ga slot : Nat) (s : State) (c : Ctx) (j : FusedJob), OnSlot s t c → gd < 32 → ga < 32 → slot = (gReg c ga).toNat % 2 ^ 8 →
    Store.find c.jobs slot = some j →
    (∃ s', exec (.fwait t gd ga) s = .next s' ∧
        if j.settled = true then Commits s s' t (setG { c with jobs := Store.drop c.jobs slot } gd (completionOf j)) else s' = s)
    ∧ (∃ s', exec (.ftest t gd ga) s = .next s' ∧ Commits s s' t (setG c gd (completionOf j)))
    ∧ (∃ s', exec (.fcancel t ga) s = .next s' ∧
        if j.settled = true then Commits s s' t c
        else if j.sent = true then Commits s s' t { c with jobs := Store.put c.jobs slot { j with cancel := true } }
        else SlotBecomes s s' t { c with jobs := Store.put c.jobs slot { j with settled := true, cancelled := true }, pc := c.pc + 4 }
          ∧ Counted s s' O.fusedCancelled 1 ∧ Leaves s s' [.dict, .tiles] [O.fusedCancelled])
    ∧ (∀ offset, ∃ s', exec (.bfb t ga offset) s = .next s' ∧ Leaves s s' [.tiles] []
        ∧ SlotBecomes s s' t { c with pc := if j.settled = true then c.pc + 4 else c.pc + BitVec.ofInt 64 (4 * offset) }))
  ∧ (∀ (t gd ga : Nat) (s : State) (c : Ctx), OnSlot s t c → gd < 32 → ga < 32 → Store.find c.jobs ((gReg c ga).toNat % 2 ^ 8) = none →
    (∃ s', exec (.fwait t gd ga) s = .next s' ∧ Raises s s' t c 12 (2 * 2 ^ 56))
    ∧ (∃ s', exec (.ftest t gd ga) s = .next s' ∧ Raises s s' t c 12 (2 * 2 ^ 56))
    ∧ (∃ s', exec (.fcancel t ga) s = .next s' ∧ Raises s s' t c 12 (2 * 2 ^ 56)))
  ∧ (∀ (t cls : Nat) (offset : Int) (s : State) (c : Ctx), OnSlot s t c → cls < 4 →
    ∃ s', exec (.bff t cls offset) s = .next s' ∧ Leaves s s' [.tiles] []
      ∧ SlotBecomes s s' t { c with pc := if (List.range c.slots.length).any (fun i => c.slots[i]? == some cls && (Store.find c.jobs i).isNone) = true
                                          then c.pc + 4 else c.pc + BitVec.ofInt 64 (4 * offset) })
  ∧ (∀ j : FusedJob, (completionOf j).extractLsb' 0 2 = (if j.settled = true then (if j.cancelled = true then 1 else 0) else 2)
      ∧ (completionOf j).extractLsb' 16 16 = BitVec.ofNat 16 j.tag
      ∧ (completionOf j).extractLsb' 32 32 = if j.settled = true ∧ j.cancelled = false then BitVec.ofNat 32 j.word else 0)

/-! ## The dataflow scheduler (13) -/

/-- Scheduling: a decision that comes to this operation and unit dispatches it with all its resources, a tile task DISPATCHED and any other
RUNNING, a decode job that the kiln refuses ending at once, a decision in which every candidate's reservation fails counts each and dispatches none, and one that is not READY is not dispatched; at LS − URGENT_LEAD it is promoted to class 0; an end with OK publishes it and stores what the
task wrote, with FAULT empty, and after a tile fault it runs again in class 0; a prefetch that ends is counted, and so is one that an answer
UNMAPPED or DOMAIN_ASLEEP abandons; after PREFETCH_WAIT the open copies of the next task are abandoned; a partition that passes its test is ON with the READY tasks of its form in its list; and the trace is
enabled where its pallets fit, and read 32 records at a time (13 R427 to R429, R438, R439, R446 to R448, R455; an abandoned copy log entry 55). -/
def Obligations.Scheduling : Prop :=
  (∀ (tag unit k : Nat) (o : Op) (r : Reserved) (s d : State), s.op tag = some o → o.state = .ready → o.old = false →
    (o.id.kind = .dec → harqHeld s o = false) → unit ∈ unitsFor s o → unitFree s o.cls unit = true → unitTaken s o = some unit →
    decision unit 0 (candidatesFor s o unit) s = (d, some (tag, k, r)) →
    ∃ t, exec (.dispatch tag unit) s = .next t ∧ Counted s t O.dispatches 1
      ∧ (∃ e b, t.op tag = some { o with state := if o.cls = 0 then .dispatched else .running, unit := unit, start := s.airNow,
                                            places := r.places, own := r.own, common := r.common, stage := r.stage, fused := r.fused, next := false,
                                            params := if o.cls = 0 then [s.nat O.fusedEnS, s.nat O.fusedEnK]
                                            else [s.nat O.detMode, s.nat O.detPrbGroup, s.nat O.precBackoff, s.nat O.prachThreshold],
                                            ended := e, data := b }
          ∧ ((e = o.ended ∧ b = o.data) ∨ (o.cls = 1 ∧ e = some .dataLost ∧ Counted s t O.badJobs 1)))
      ∧ (∀ u, u ≠ tag → t.op u = s.op u)
      ∧ (o.cls ≠ 1 → t.kiln = s.kiln) ∧ (o.cls ≠ 5 → t.hod = s.hod ∧ t.mem = s.mem)
      ∧ Leaves s t [.dict, .hod, .kiln, .mem, .sched]
          [O.dispatches, O.reserveFails, O.p0Holds, O.traceWritten, O.traceLost, O.restarts, O.runaheadRestarts, O.badJobs, O.decJobs,
           O.polarDecJobs])
  ∧ (∀ (tag unit : Nat) (o : Op) (s d : State), s.op tag = some o → o.state = .ready → o.old = false →
    (o.id.kind = .dec → harqHeld s o = false) → unit ∈ unitsFor s o → unitFree s o.cls unit = true → unitTaken s o = some unit →
    decision unit 0 (candidatesFor s o unit) s = (d, none) → candidatesFor s o unit ≠ [] →
    ∃ t, exec (.dispatch tag unit) s = .next t ∧ Counted s t O.reserveFails (candidatesFor s o unit).length
      ∧ (∀ u, t.op u = s.op u) ∧ Leaves s t [.dict, .sched] [O.reserveFails, O.p0Holds, O.traceWritten, O.traceLost])
  ∧ (∀ (tag unit : Nat) (o : Op) (s : State), s.op tag = some o → o.state ≠ .ready → exec (.dispatch tag unit) s = .next s)
  ∧ (∀ (tag : Nat) (o : Op) (s : State), s.op tag = some o → (o.state = .ready ∨ o.state = .waiting) → o.prio ≠ 0 → o.old = false →
    ∃ t, exec (.promotion tag) s = .next t ∧ t.op tag = some { o with prio := 0 } ∧ (∀ u, u ≠ tag → t.op u = s.op u)
      ∧ Counted s t O.promotions 1 ∧ (Steady s → s.countOfAir (o.ls - s.obj O.urgentLead * airNs) ≤ t.clock.count)
      ∧ Leaves s t (.dict :: .sched :: timeParts) [O.promotions, O.traceWritten, O.traceLost])
  ∧ (∀ (tag : Nat) (how : TaskEnd) (o : Op) (s : State), s.op tag = some o → o.state = .running → o.cancel = false → o.cls = 0 →
    o.ended = some .ok → o.id.kind ≠ .dec → o.id.kind ≠ .srs →
    ∃ t, exec (.operationEnd tag how) s = .next t ∧ t.mem = memPutAll o.data s.mem
      ∧ (Store.find s.kiln.jobs tag = none → Store.find t.kiln.jobs tag = none)
      ∧ (∀ o', t.op tag = some o' → o'.state = .ended ∧ o'.published = true ∧ o'.unit = 0xFFFF ∧ o'.ended = none)
      ∧ SameBut s t [.dict, .kiln, .link, .mem, .pipe, .sched, .svc])
  ∧ (∀ (tag : Nat) (how : TaskEnd) (o : Op) (s : State), s.op tag = some o → o.state = .running → o.cancel = false →
    o.ended = some .fault →
    ∃ t, exec (.operationEnd tag how) s = .next t
      ∧ (∀ o', t.op tag = some o' → o'.state = .ended ∧ o'.published = true ∧ o'.empty = true ∧ o'.places = [])
      ∧ SameBut s t [.dict, .kiln, .link, .pipe, .sched, .svc])
  ∧ (∀ (tag : Nat) (how : TaskEnd) (o : Op) (s : State), s.op tag = some o → o.state = .running → o.cancel = false →
    o.ended = some .tileFault →
    ∃ t o', exec (.operationEnd tag how) s = .next t ∧ t.op tag = some o' ∧ o'.state = .ready ∧ o'.prio = 0 ∧ o'.unit = 0xFFFF
      ∧ o'.places = [] ∧ o'.ended = none ∧ Counted s t O.reruns 1
      ∧ (∀ c, s.course o.key = some c → t.course o.key = some { c with rerun := true })
      ∧ Leaves s t [.dict, .kiln, .pipe, .sched] [O.reruns, O.traceWritten, O.traceLost])
  ∧ (∀ (t pallet slot : Nat) (s : State), t < 200 →
    (Store.at [] s.sched.copies t).find? (fun c => c.1 == pallet && !c.2.2) = some (pallet, slot, false) →
    Store.find s.hod.halting (prefetchEngine t) = none →
    ∃ s', exec (.prefetchCopyComplete t pallet) s = .next s'
      ∧ (if (movePieces (leBytes 64 1) (prefetchPieces s t pallet slot) s).fail = none
         then Counted s s' O.prefetchCopies 1 ∧ Store.find s'.sched.copies t = some ((Store.at [] s.sched.copies t).map fun x =>
           if x = (pallet, slot, false) then (pallet, slot, true) else x)
         else Counted s s' O.prefetchAbandoned 1
           ∧ Store.find s'.sched.copies t = some ((Store.at [] s.sched.copies t).filter fun x => x != (pallet, slot, false)))
      ∧ SameBut s s' [.dict, .freeCtr, .integ, .link, .mem, .sched])
  ∧ (∀ (t : Nat) (s : State), (Store.at [] s.sched.copies t).any (fun c => !c.2.2) = true → runningTask s t = none →
    (nextTask s t).isSome = true →
    ∃ s', exec (.prefetchWaitExpiry t) s = .next s'
      ∧ Store.find s'.sched.copies t = some ((Store.at [] s.sched.copies t).filter (·.2.2))
      ∧ Counted s s' O.prefetchAbandoned ((Store.at [] s.sched.copies t).filter fun c => !c.2.2).length
      ∧ Store.at 0 s.sched.freed t + ticksOfNs (s.nat O.prefetchWait) ≤ s'.clock.ticks
      ∧ Leaves s s' (.dict :: .sched :: timeParts) [O.prefetchAbandoned])
  ∧ (∀ (x : Xfer) (p : Nat) (s : State), p < 8 → Accepts s x (O.partEnable p) (.num 1) → s.obj (O.partEnable p) = 0 →
    s.obj O.bootState ≠ 5 →
    ∃ t, exec (.writePartEnable x p 1) s = .next t
      ∧ Answers s t x (O.partEnable p) (.num 1) (partCheck p s) [.svc, .sched]
          [O.partEnable p, O.lastCheckObject, O.lastCheckReason, O.enableLogCount, O.changeCount]
      ∧ t.obj (O.partEnable p) = (if partCheck p s = .ok then 1 else 0)
      ∧ ∀ tag o, s.op tag = some o → t.op tag = some
          (if partCheck p s = .ok ∧ o.cls = 0 ∧ o.state = .ready ∧ o.form = s.partForm p then { o with list := p + 1 } else o))
  ∧ (∀ (x : Xfer) (p : Nat) (s : State), p < 8 → Accepts s x (O.partEnable p) (.num 0) → s.obj (O.partEnable p) = 1 →
    ∃ t, exec (.writePartEnable x p 0) s = .next t
      ∧ Answers s t x (O.partEnable p) (.num 0) .ok [.svc] [O.partEnable p, O.changeCount]
      ∧ t.obj (O.partEnable p) = if partBusy s p = true then 3 else 0)
  ∧ (∀ (x : Xfer) (s : State), Accepts s x O.traceEnable (.num 1) → s.obj O.traceEnable = 0 → s.obj O.bootState ≠ 5 →
    ∃ t, exec (.writeTraceEnable x 1) s = .next t
      ∧ (if s.dataNeeded + s.boot.copy + s.nat O.tracePallets ≤ s.dataPallets
         then t.obj O.traceEnable = 1 ∧ t.sched = { s.sched with trace := [] } ∧ Replied s t x O.traceEnable (.num 1) .ok
         else t.obj O.traceEnable = 0 ∧ t.sched = s.sched ∧ Replied s t x O.traceEnable (.num 1) .noPallets)
      ∧ SameBut s t (.dict :: .link :: .sched :: .svc :: timeParts)
      ∧ ObjsBut s t [O.traceEnable, O.lastCheckObject, O.lastCheckReason, O.enableLogCount, O.changeCount])
  ∧ (∀ (x : Xfer) (s : State), s.ready = true → s.sched.trace ≠ [] →
    ∃ t, exec (.readTraceRecords x) s = .next t ∧ Pops s t x O.traceRecords (s.sched.trace.take 32).flatten [.sched]
      ∧ t.sched = { s.sched with trace := s.sched.trace.drop 32 })

/-! ## The mortar fabric (14) -/

/-- Requests: a request is held at its source until its answer; one to a domain that is not in RUN is answered DOMAIN_ASLEEP, and the first of a
domain is reported; a WRITE changes exactly the bytes that its mask selects; a MESSAGE that the target has seen is discarded; a response of the last
line, an acknowledge, and the end of a feed to a sleeping domain end the request; a request whose packet has not come to its target stays held and
does nothing else; RETRY makes the source wait 1 µs and send again; and 4 µs
without an answer abandons it, MEM_TIMEOUT at a tile (14 R459 to R462, R465, R466, R473, R475, R476; 11 R394; 15 R496; the way of a packet log entry 52). -/
def Obligations.FabricRequests : Prop :=
  (∀ (pkt : Packet) (s : State), packetOk pkt = true → Reaches s pkt 0 1 → fabricAnswer s false pkt.src pkt.addr = .ok →
    trainingChan s pkt.addr = none → (∀ l ∈ packetLines pkt, badByte s l = none) → heldOf s pkt.src pkt.tag = none →
    ∃ t h, exec (.readReq pkt []) s = .next t ∧ heldOf t pkt.src pkt.tag = some h ∧ h.type = 0 ∧ h.addr = pkt.addr ∧ h.lines = pkt.lines
      ∧ h.got = 0 ∧ h.retry = 0 ∧ h.resend = false ∧ h.sentAt = s.clock.ticks ∧ Counted s t O.flitsDelivered 1
      ∧ SameBut s t [.dict, .mortar]
      ∧ ∀ k, k ≠ O.flitsDelivered → k ≠ O.grantsLost → (∀ c, k ≠ O.chReadBytes c) → t.obj k = s.obj k)
  ∧ (∀ (pkt : Packet) (found : List MemError) (s : State), packetOk pkt = true → Reaches s pkt 0 1 →
    fabricAnswer s false pkt.src pkt.addr = .domainAsleep →
    ∃ t, exec (.readReq pkt found) s = .next t ∧ Counted s t O.asleepAnswers 1
      ∧ (regionDomain (regionOf s pkt.addr) ∉ s.mortar.told → Counted s t O.domainAsleepCount 1
          ∧ regionDomain (regionOf s pkt.addr) ∈ t.mortar.told)
      ∧ Leaves s t [.dict, .link, .mortar] [O.asleepAnswers, O.domainAsleepCount, O.grantsLost, O.indicationsDropped])
  ∧ (∀ (pkt : Packet) (mask : List Nat) (data : Bytes) (found : List MemError) (s : State), packetOk pkt = true →
    (¬ Reaches s pkt 0 1 → ∃ t, exec (.readReq pkt found) s = .next t ∧ (heldOf t pkt.src pkt.tag).isSome = true
      ∧ Leaves s t [.dict, .mortar] [O.grantsLost])
    ∧ (¬ Reaches s pkt 1 (1 + pkt.lines) → ∃ t, exec (.write pkt mask data found) s = .next t
      ∧ (heldOf t pkt.src pkt.tag).isSome = true ∧ Leaves s t [.dict, .mortar] [O.grantsLost]))
  ∧ (∀ (pkt : Packet) (mask : List Nat) (data : Bytes) (s : State), packetOk pkt = true → Reaches s pkt 1 (1 + pkt.lines) →
    data.length = 64 * pkt.lines → fabricAnswer s true pkt.src pkt.addr = .ok → trainingChan s pkt.addr = none →
    (∀ i, i < pkt.lines → regionOf s (pkt.addr + 64 * i) ≠ .feed ∧ regionOf s (pkt.addr + 64 * i) ≠ .nowhere
      ∧ onLost s (pkt.addr + 64 * i) = false) →
    ∃ t, exec (.write pkt mask data []) s = .next t ∧ (heldOf t pkt.src pkt.tag).isSome = true
      ∧ (∀ i b, i < pkt.lines → b < 64 → memByte t.mem (pkt.addr + 64 * i + b)
          = if bitOf (mask.getD i 0) b = true then data.getD (64 * i + b) 0 else memByte s.mem (pkt.addr + 64 * i + b))
      ∧ (∀ a, (a < pkt.addr ∨ pkt.addr + 64 * pkt.lines ≤ a) → memByte t.mem a = memByte s.mem a)
      ∧ Counted s t O.flitsDelivered (1 + pkt.lines) ∧ SameBut s t [.dict, .freeCtr, .integ, .link, .mem, .mortar])
  ∧ (∀ (pkt : Packet) (kind : MsgKind) (payload : Nat) (s : State), pkt.src < 1536 → pkt.addr < 1536 →
    s.runs (stopDomain (portRing pkt.addr) (portStopNo pkt.addr)) = true →
    ∃ t, exec (.message pkt kind payload) s = .next t ∧ (heldOf t pkt.src pkt.tag).isSome = true
      ∧ (if (transit (.packet pkt.src pkt.addr pkt.tag 2 0) 1 (holdRequest (newHeld s pkt 2 payload (msgCode kind) pkt.addr
              (stopDomain (portRing pkt.addr) (portStopNo pkt.addr))) s)).2 = true
         then Counted s t O.flitsDelivered 1
           ∧ (if (pkt.src, pkt.tag) ∈ Store.at [] s.mortar.seen pkt.addr
              then Counted s t O.duplicatesDiscarded 1 ∧ t.mortar.seen = s.mortar.seen
              else t.obj O.duplicatesDiscarded = s.obj O.duplicatesDiscarded ∧ (pkt.src, pkt.tag) ∈ Store.at [] t.mortar.seen pkt.addr)
         else t.mortar.seen = s.mortar.seen ∧ t.obj O.flitsDelivered = s.obj O.flitsDelivered
           ∧ t.obj O.duplicatesDiscarded = s.obj O.duplicatesDiscarded)
      ∧ Leaves s t [.dict, .mortar] [O.flitsDelivered, O.duplicatesDiscarded, O.grantsLost])
  ∧ (∀ (src tag line : Nat) (h : Held) (s : State), heldOf s src tag = some h → h.type = 0 → h.resend = false →
    (answerArrives h 0 line s).2 = true →
    ∃ t, exec (.readResp src tag line .ok) s = .next t ∧ Counted s t O.flitsDelivered 1
      ∧ (h.got + 1 < h.lines → heldOf t src tag = some { h with got := h.got + 1 }
          ∧ Leaves s t [.dict, .mortar] [O.flitsDelivered, O.grantsLost])
      ∧ (h.lines ≤ h.got + 1 → h ∉ t.mortar.reqs ∧ (s.hod.halting = [] → Leaves s t [.dict, .mortar] [O.flitsDelivered, O.grantsLost])))
  ∧ (∀ (src tag line : Nat) (h : Held) (s : State), heldOf s src tag = some h → h.resend = false → h.retry < 8 → h.type < 3 →
    (answerArrives h h.type (if h.type = 0 then line else 0) s).2 = true →
    (∃ t, (if h.type = 0 then exec (.readResp src tag line .retry) s else if h.type = 1 then exec (.writeAck src tag .retry) s
          else exec (.messageAck src tag .retry) s) = .next t
      ∧ heldOf t src tag = some { h with retry := h.retry + 1, sentAt := s.clock.ticks, resend := true }
      ∧ Leaves s t [.dict, .mortar] [O.flitsDelivered, O.grantsLost]))
  ∧ (∀ (src tag : Nat) (h : Held) (s : State), heldOf s src tag = some h → h.resend = false → s.hod.halting = [] →
    (answerArrives h h.type 0 s).2 = true →
    (h.type = 1 → ∃ t, exec (.writeAck src tag .ok) s = .next t ∧ h ∉ t.mortar.reqs ∧ Counted s t O.flitsDelivered 1
        ∧ Leaves s t [.dict, .mortar] [O.flitsDelivered, O.grantsLost])
    ∧ (h.type = 2 → ∃ t, exec (.messageAck src tag .ok) s = .next t ∧ h ∉ t.mortar.reqs ∧ Counted s t O.flitsDelivered 1
        ∧ Leaves s t [.dict, .mortar] [O.flitsDelivered, O.grantsLost])
    ∧ (h.type = 2 → h.lines = 1 → ∃ t, exec (.messageAck src tag .domainAsleep) s = .next t ∧ h ∉ t.mortar.reqs
        ∧ Counted s t O.feedIgnored 1 ∧ Leaves s t [.dict, .mortar] [O.flitsDelivered, O.feedIgnored, O.grantsLost]))
  ∧ (∀ (src tag : Nat) (h : Held) (s : State), heldOf s src tag = some h → h.resend = true →
    ∃ t, exec (.requestRetryResend src tag) s = .next t ∧ h.sentAt + ticksOfNs 1000 ≤ t.clock.ticks
      ∧ heldOf t src tag = some { h with sentAt := t.clock.ticks, resend := false } ∧ Leaves s t (.mortar :: timeParts) [])
  ∧ (∀ (src tag u : Nat) (h : Held) (c : Ctx) (s : State), heldOf s src tag = some h → h.resend = false → h.type ≠ 2 →
    s.hod.halting = [] → hodAt h.src = none → tileAt h.src = some u → OnSlot s u c →
    ∃ t, exec (.requestTimeout src tag) s = .next t ∧ h.sentAt + ticksOfNs 4000 ≤ t.clock.ticks ∧ Counted s t O.timeouts 1
      ∧ h ∉ t.mortar.reqs ∧ SlotBecomes s t u { c with level := 2, prev := c.level, fEpc := c.pc, ended := some .fault }
      ∧ SameBut s t (.blobs :: .dict :: .mortar :: .tiles :: timeParts))

/-- Rings and arbiters: the first link fault of a ring begins its reversal, and after REVERSE_HOLD it is FOLDED, with what its sources hold sent
again and the reversal reported; another fault of a FOLDED ring leaves it SPLIT; restored it is WHOLE, or FOLDED at the other link; the flits that
stops discard, replays and failed joint paths are counted; a table is written to the BACK of every selected arbiter, committed, decided at the
boundary and then swapped; and the phase is set at a subframe boundary (14 R463, R478 to R490; 15 R514, R515; the readings of the fabric log entry 52). -/
def Obligations.RingsAndArbiters : Prop :=
  (∀ (ring stop : Nat) (lock : Bool) (s : State), ring < 8 → stop < 48 →
    (s.obj (O.ringState ring) = 0 → ∃ t, exec (.ringLinkFault ring stop lock) s = .next t ∧ t.obj (O.ringState ring) = 1
      ∧ t.obj (O.faultStop ring) = stop ∧ Store.find t.mortar.broken ring = some (s.clock.ticks, lock)
      ∧ Leaves s t [.dict, .mortar] [O.ringState ring, O.faultStop ring])
    ∧ (s.obj (O.ringState ring) = 2 → s.nat (O.faultStop ring) ≠ stop →
      ∃ t, exec (.ringLinkFault ring stop lock) s = .next t ∧ t.obj (O.ringState ring) = 3 ∧ Store.find t.units.second ring = some stop
        ∧ bitOf (t.nat O.faultCauses) 5 = true ∧ Leaves s t [.dict, .units] [O.ringState ring, O.faultCauses])
    ∧ (s.obj (O.ringState ring) = 1 → s.nat (O.faultStop ring) ≠ stop →
      ∃ t, exec (.ringLinkFault ring stop lock) s = .next t ∧ Store.find t.units.second ring = some stop ∧ Leaves s t [.units] [])
    ∧ ((s.obj (O.ringState ring) = 1 ∨ s.obj (O.ringState ring) = 2) → s.nat (O.faultStop ring) = stop →
      exec (.ringLinkFault ring stop lock) s = .next s)
    ∧ (s.obj (O.ringState ring) = 3 → exec (.ringLinkFault ring stop lock) s = .next s))
  ∧ (∀ (ring stop flits : Nat) (s : State), ring < 8 → stop < 48 → s.obj (O.ringState ring) ≠ 1 →
    exec (.foldNoticeRx ring stop flits) s = .next s ∧ exec (.reverseHoldExpiry ring) s = .next s)
  ∧ (∀ (ring stop flits : Nat) (s : State), ring < 8 → stop < 48 → s.obj (O.ringState ring) = 1 →
    ∃ t, exec (.foldNoticeRx ring stop flits) s = .next t ∧ Counted s t (O.flitsDiscarded ring) ((discardFlits ring stop s).2 + flits)
      ∧ Store.at 0 t.mortar.flits ring = Store.at 0 s.mortar.flits ring + ((discardFlits ring stop s).2 + flits)
      ∧ t.mortar.flying = (discardFlits ring stop s).1.mortar.flying ∧ Leaves s t [.dict, .mortar] [O.flitsDiscarded ring])
  ∧ (∀ (ring : Nat) (s : State), ring < 8 → s.obj (O.ringState ring) = 1 →
    ∃ t, exec (.reverseHoldExpiry ring) s = .next t
      ∧ t.obj (O.ringState ring) = (if (Store.find s.units.second ring).isSome = true then 3 else 2)
      ∧ Counted s t (O.ringReversals ring) 1
      ∧ Counted s t (O.requestsResent ring) (s.mortar.reqs.filter (Held.onRing ring)).length
      ∧ (∀ h ∈ t.mortar.reqs, Held.onRing ring h = true → h.resend = false ∧ h.sentAt = t.clock.ticks)
      ∧ (Store.at (s.clock.ticks, false) s.mortar.broken ring).1 + ticksOfNs (s.nat O.reverseHold) ≤ t.clock.ticks
      ∧ Indicates s t (O.ringReversals ring) ring (leBytes 1 ring ++ leBytes 1 (s.nat (O.faultStop ring))
          ++ leBytes 1 (if (Store.at (s.clock.ticks, false) s.mortar.broken ring).2 = true then 1 else 0) ++ leBytes 1 0
          ++ leBytes 4 (Store.at 0 s.mortar.flits ring) ++ leBytes 4 (s.mortar.reqs.filter (Held.onRing ring)).length
          ++ leBytes 4 (nsOfTicks (t.clock.ticks - (Store.at (s.clock.ticks, false) s.mortar.broken ring).1))) 0
      ∧ Leaves s t (.dict :: .link :: .mortar :: timeParts)
          [O.ringState ring, O.ringReversals ring, O.requestsResent ring, O.faultCauses, O.indicationsDropped])
  ∧ (∀ (ring : Nat) (s : State), ring < 8 →
    (s.obj (O.ringState ring) = 2 → ∃ t, exec (.ringRestore ring) s = .next t ∧ t.obj (O.ringState ring) = 0
      ∧ t.obj (O.faultStop ring) = 0xFF ∧ t.mortar.reqs = s.mortar.reqs
      ∧ Leaves s t [.dict, .mortar] [O.ringState ring, O.faultStop ring, O.grantsLost])
    ∧ (∀ g, s.obj (O.ringState ring) = 3 → Store.find s.units.second ring = some g →
      ∃ t, exec (.ringRestore ring) s = .next t ∧ t.obj (O.ringState ring) = 2 ∧ t.obj (O.faultStop ring) = g
        ∧ (Store.rising s.units.second = true → Store.find t.units.second ring = none)
        ∧ Leaves s t [.dict, .units] [O.ringState ring, O.faultStop ring])
    ∧ (s.nat (O.ringState ring) < 2 → exec (.ringRestore ring) s = .next s)
    ∧ (∃ t, exec (.linkReplay ring) s = .next t ∧ Counted s t (O.linkReplays ring) 1 ∧ Leaves s t [.dict] [O.linkReplays ring])
    ∧ (∀ stop, stop < 48 → ∃ t, exec (.jointPathFault ring stop) s = .next t
        ∧ (if Store.at 0 s.mortar.joints (ring * 48 + stop) < 2
           then Counted s t O.jointPathsDown 1
             ∧ Store.at 0 t.mortar.joints (ring * 48 + stop) = Store.at 0 s.mortar.joints (ring * 48 + stop) + 1
           else t = s)
        ∧ Leaves s t [.dict, .mortar] [O.jointPathsDown]))
  ∧ (∀ (x : Xfer) (mc : Bool) (data : Bytes) (s : State), Accepts s x (if mc = true then O.mcArbTable else O.arbTable) (.bytes data) →
    bytesAt data 0 1 ≤ 3 → bytesAt data 1 3 = 0 →
    ∃ t, exec (.writeArbTable x mc data) s = .next t ∧
      if arbTableOk mc (s.nat O.arbSelect % 256) data = true
      then Answers s t x (if mc = true then O.mcArbTable else O.arbTable) (.bytes data) .ok [.mortar] [O.changeCount]
        ∧ (∀ k, t.arb mc k = if k ∈ selectedArbs mc s then { s.arb mc k with back := data, committed := false, written := true }
            else s.arb mc k)
        ∧ ∀ k, t.arb (!mc) k = s.arb (!mc) k
      else Answers s t x (if mc = true then O.mcArbTable else O.arbTable) (.bytes data) .arbTable [] [])
  ∧ (∀ (x : Xfer) (mc : Bool) (data : Bytes) (s : State), Accepts s x (if mc = true then O.mcArbTable else O.arbTable) (.bytes data) →
    (3 < bytesAt data 0 1 ∨ bytesAt data 1 3 ≠ 0) →
    ∃ t, exec (.writeArbTable x mc data) s = .next t
      ∧ Answers s t x (if mc = true then O.mcArbTable else O.arbTable) (.bytes data) .valueRange [] [])
  ∧ (∀ (x : Xfer) (mc : Bool) (s : State), Accepts s x (if mc = true then O.mcArbCommit else O.arbCommit) (.num 1) →
    ∃ t, exec (.arbCommit x mc) s = .next t
      ∧ Answers s t x (if mc = true then O.mcArbCommit else O.arbCommit) (.num 1) .ok [.mortar] []
      ∧ ∀ k, t.arb mc k = if k ∈ selectedArbs mc s then
            (if (advance s x.dt).airRunning = true then { s.arb mc k with committed := true }
             else ⟨(s.arb mc k).back, (s.arb mc k).back, false, false, none, (advance s x.dt).atsNow⟩)
          else s.arb mc k)
  ∧ (∀ (mc : Bool) (s : State), s.airRunning = true →
    ∃ t, exec (.arbSwapDecision mc) s = .next t
      ∧ (∀ k, t.arb mc k = if (s.arb mc k).committed = true then { s.arb mc k with next := some (s.arb mc k).back } else s.arb mc k)
      ∧ (∀ b, b = swapBoundary (s.nat (if mc = true then O.mcArbSwapPeriod else O.arbSwapPeriod))
            (max (if mc = true then s.mortar.mcTested else s.mortar.arbTested) (s.airNow + arbLead - 1)) →
          (if mc = true then t.mortar.mcTested else t.mortar.arbTested) = b ∧ t.clock = (advanceToAir s (b - arbLead)).clock)
      ∧ (∀ n, n = ((if mc = true then s.mortar.mc else s.mortar.arbs).filter fun a => a.2.written && !a.2.committed).length →
          Store.rising (if mc = true then s.mortar.mc else s.mortar.arbs) = true →
          if n = 0 then t.link = s.link else Counted s t (if mc = true then O.staleMcCount else O.staleArbCount) n)
      ∧ Leaves s t (.dict :: .link :: .mortar :: timeParts) [O.staleMcCount, O.staleArbCount, O.indicationsDropped])
  ∧ (∀ (mc : Bool) (s : State), s.airRunning = false →
    exec (.arbSwapDecision mc) s = .next s ∧ exec .arbPhaseAlign s = .next s)
  ∧ (∀ (mc : Bool) (s : State), Store.rising (if mc = true then s.mortar.mc else s.mortar.arbs) = true →
    ∃ t, exec (.arbSwap mc) s = .next t
      ∧ (∀ k, t.arb mc k = match (s.arb mc k).next with
          | none => s.arb mc k
          | some b =>
            if (s.arb mc k).back = b
            then ⟨b, b, false, false, none, atsOf (if mc = true then s.mortar.mcTested else s.mortar.arbTested)⟩
            else { s.arb mc k with front := b, next := none, last := atsOf (if mc = true then s.mortar.mcTested else s.mortar.arbTested) })
      ∧ t.clock = (if (if mc = true then s.mortar.mc else s.mortar.arbs).any (fun a => a.2.next.isSome) = true
          then (advanceToAir s (if mc = true then s.mortar.mcTested else s.mortar.arbTested)).clock else s.clock)
      ∧ Leaves s t (.mortar :: timeParts) [])
  ∧ (∀ s : State, s.airRunning = true →
    ∃ t, exec .arbPhaseAlign s = .next t ∧ t.mortar = { s.mortar with phaseAt := t.clock.ticks, phase := s.nat O.arbPhaseOffset,
                                                                       mcPhase := s.nat O.mcArbPhaseOffset }
      ∧ t.clock = (advanceToAir s ((s.airNow / (1000000 * airNs) + 1) * (1000000 * airNs))).clock
      ∧ Leaves s t (.mortar :: timeParts) [])

/-! ## Memory and its integrity (15) -/

/-- Channels: a mismatch of the link's EDC is counted and retried, the fourth in a row at one address sends the channel to retraining, after
which it serves again with what waited performed, or is lost; a request that has waited 3 µs is no longer performed; a channel is lost on the
condition that Table 15-5 names, and on no other; and the rebuilds of the context table and of the journal end (15 R505, R506, R510, R517,
R522). -/
def Obligations.ChannelsAndRebuilds : Prop :=
  (∀ (ch addr n : Nat) (s : State), ch < 16 → (s.obj (O.chState ch) = 2 ∨ s.obj (O.chState ch) = 1) →
    (Store.find s.integ.edc ch = some (addr, n) ∨ (n = 0 ∧ ∀ a m, Store.find s.integ.edc ch = some (a, m) → a ≠ addr)) →
    ∃ t, exec (.edcMismatch ch addr) s = .next t ∧ Store.find t.integ.edc ch = some (addr, n + 1)
      ∧ (n < 8 → Counted s t (O.chEdcRetries ch) 1)
      ∧ (if n = 3 then t.obj (O.chState ch) = 1 ∧ Counted s t O.errLogCount 1 else t.obj (O.chState ch) = s.obj (O.chState ch))
      ∧ Leaves s t [.dict, .integ] [O.chEdcRetries ch, O.chState ch, O.errLogCount])
  ∧ (∀ (ch : Nat) (s : State), ch < 16 → s.obj (O.chState ch) = 1 →
    (∃ t, exec (.channelRetrainComplete ch true) s = .next t ∧ t.obj (O.chState ch) = 2
        ∧ (bitOf (bytesAt (s.arb true ch).front 0 1) 0 = false → ∀ q ∈ t.mortar.queued, q.chan ≠ ch)
        ∧ (∀ q ∈ t.mortar.queued, q ∈ s.mortar.queued)
        ∧ SameBut s t [.dict, .freeCtr, .integ, .link, .mem, .mortar])
    ∧ (∃ t, exec (.channelRetrainComplete ch false) s = .next t ∧ t.obj (O.chState ch) = 4 ∧ Counted s t O.channelLostCount 1
        ∧ bitOf (t.nat O.faultCauses) 4 = true ∧ SameBut s t [.blobs, .dict, .integ, .kiln, .link, .mortar, .pipe, .sched, .svc, .wb]))
  ∧ (∀ (ch src tag : Nat) (q : Queued) (s : State), ch < 16 →
    s.mortar.queued.find? (fun q => q.chan == ch && q.src == src && q.tag == tag) = some q →
    ∃ t, exec (.channelQueueRetry ch src tag) s = .next t ∧ q ∉ t.mortar.queued ∧ q.arrived + ticksOfNs 3000 ≤ t.clock.ticks
      ∧ (∀ r ∈ s.mortar.queued, r ≠ q → r ∈ t.mortar.queued) ∧ Leaves s t (.mortar :: timeParts) [])
  ∧ (∀ (ch : Nat) (cause : LossCause) (s : State), ch < 16 → s.obj (O.chState ch) ≠ 0 → s.obj (O.chState ch) ≠ 4 →
    (lossHolds s ch cause = true → ∃ t, exec (.gddr7ChannelLost ch cause) s = .next t ∧ t.obj (O.chState ch) = 4
      ∧ Counted s t O.channelLostCount 1 ∧ bitOf (t.nat O.faultCauses) 4 = true ∧ (∀ q ∈ t.mortar.queued, q.chan ≠ ch)
      ∧ SameBut s t [.blobs, .dict, .integ, .kiln, .link, .mortar, .pipe, .sched, .svc, .wb])
    ∧ (lossHolds s ch cause = false → exec (.gddr7ChannelLost ch cause) s = .next s))
  ∧ (∀ s : State, s.integ.toBuild ≠ [] → s.integ.mirror = false → s.integ.afterWarm = false → s.obj O.memRegime = 3 →
    ∃ t, exec .contextRebuildComplete s = .next t ∧ t.integ.toBuild = [] ∧ t.obj O.memRegime = 0 ∧ t.integ.repeats = []
      ∧ SameBut s t [.dict, .integ, .link])
  ∧ (∀ (c : Nat) (s : State), s.integ.mirror = true → s.integ.standby = some c →
    ∃ t, exec .journalRebuildComplete s = .next t ∧ t.integ.copies = s.integ.copies ++ [c] ∧ t.integ.standby = none
      ∧ t.integ.mirror = false ∧ t.obj O.journalCopies = (s.integ.copies.length + 1 : Nat) ∧ t.obj O.journalRebuild = 100
      ∧ SameBut s t [.dict, .integ, .link])

/-- Scrubs and buckets: a pass over a channel goes on by the lines read and ends once each channel in service has been read; a correctable error
found in a slice in SERVICE is counted, logged, and raises the slice's bucket, which above its limit raises the event and is emptied; an
uncorrectable one is remembered; a tile's bad bytes of a program image are repaired and those of a working region kept to be overwritten; every
BUCKET_LEAK_S each bucket loses 1; a page no longer listed is no longer retired and waits no more; and the error log pops its oldest record
(15 R494 to R497, R516 to R519, R522 to R524). -/
def Obligations.ScrubsAndRetirement : Prop :=
  (∀ (ch lines : Nat) (s : State), ch < 16 → s.chanServes ch = true → s.runs (26 + ch / 4) = true → 0 < lines →
    (∀ a ∈ s.integ.poison, regionOf s a ≠ .chan ch) →
    ∃ t, exec (.gddr7Scrub ch lines []) s = .next t
      ∧ (if (List.range 16).all (fun c => !s.chanServes c || decide (scrubLines s c ≤ (if c = ch then
              Store.at 0 s.integ.scrubbed ch + lines else Store.at 0 s.integ.scrubbed c))) = true
         then Counted s t O.gddrPasses 1 ∧ t.integ.scrubbed = [] ∧ t.integ.afterWarm = false
         else t.obj O.gddrPasses = s.obj O.gddrPasses ∧ Store.at 0 t.integ.scrubbed ch = Store.at 0 s.integ.scrubbed ch + lines)
      ∧ SameBut s t [.dict, .integ, .link])
  ∧ (∀ (k bit : Nat) (e : MemError) (s : State), k < 24 → s.runs 31 = true → bitOf s.units.slices k = true → regionOf s e.addr = .store k →
    e.bit = some bit → s.obj O.memRegime = 0 → isRepeat s e.addr = false → (∀ a ∈ s.integ.poison, regionOf s a ≠ .store k) →
    ∃ t, exec (.palletStoreScrub k [e]) s = .next t ∧ Counted s t O.psCe 1 ∧ Counted s t O.errLogCount 1
      ∧ Store.find t.integ.first (e.addr / 64) = some s.clock.ticks
      ∧ (if s.nat O.limitSlice < Store.at 0 s.integ.buckets (bucketKey 1 k) + 1
         then Store.at 0 t.integ.buckets (bucketKey 1 k) = 0 ∧ Counted s t O.ceOverflowCount 1
         else Store.at 0 t.integ.buckets (bucketKey 1 k) = Store.at 0 s.integ.buckets (bucketKey 1 k) + 1
           ∧ t.obj O.ceOverflowCount = s.obj O.ceOverflowCount)
      ∧ Leaves s t [.dict, .integ, .link] [O.psCe, O.errLogCount, O.ceOverflowCount, O.indicationsDropped])
  ∧ (∀ (k : Nat) (e : MemError) (s : State), k < 24 → s.runs 31 = true → bitOf s.units.slices k = true → regionOf s e.addr = .store k →
    e.bit = none → (∀ a ∈ s.integ.poison, regionOf s a ≠ .store k) →
    ∃ t, exec (.palletStoreScrub k [e]) s = .next t ∧ Counted s t O.psUe 1 ∧ Counted s t O.errLogCount 1
      ∧ e.addr / 8 * 8 ∈ t.integ.poison ∧ Leaves s t [.dict, .integ] [O.psUe, O.errLogCount])
  ∧ (∀ (u : Nat) (s : State), u < 200 → s.runs (2 + u / 20) = true →
    ∃ t, exec (.tileMemoryScrub u []) s = .next t
      ∧ (∀ a, a ∈ t.integ.poison ↔ a ∈ s.integ.poison ∧ (regionOf s a = .tile u → inWorking s u (a - tileAddr u) = true))
      ∧ (∀ a ∈ s.integ.poison, regionOf s a = .tile u → inWorking s u (a - tileAddr u) = true → a ∈ t.integ.toZero)
      ∧ SameBut s t [.dict, .freeCtr, .integ, .link])
  ∧ (∀ s : State, Store.rising s.integ.buckets = true →
    ∃ t, exec .bucketLeak s = .next t ∧ s.integ.leakAt + s.nat O.bucketLeakS * tickSecond ≤ t.clock.ticks
      ∧ t.integ.leakAt = s.integ.leakAt + s.nat O.bucketLeakS * tickSecond
      ∧ (∀ k, Store.at 0 t.integ.buckets k = Store.at 0 s.integ.buckets k - 1)
      ∧ t.integ.pages = s.integ.pages.map (fun p => (p.1, p.2 - 1)) ∧ Leaves s t (.integ :: timeParts) [])
  ∧ (∀ (x : Xfer) (data : Bytes) (s : State), Accepts s x O.retiredPages (.bytes data) → data.length % 4 = 0 → data.length ≤ 4096 →
    ∃ t, exec (.writeRetiredPages x data) s = .next t ∧
      if (pageNumbers data).all (pageOk s) = true
      then Replied s t x O.retiredPages (.bytes data) .ok ∧ t.blob O.retiredPages = data
        ∧ (∀ p ∈ listedPages s (s.blob O.retiredPages) (s.blob O.retiredBanks), p ∉ listedPages s data (s.blob O.retiredBanks) →
            p ∉ t.integ.retired ∧ p ∉ t.integ.waiting)
        ∧ SameBut s t (.blobs :: .dict :: .freeCtr :: .integ :: .link :: timeParts)
      else Answers s t x O.retiredPages (.bytes data) .valueRange [] [])
  ∧ (∀ (x : Xfer) (data : Bytes) (s : State), Accepts s x O.retiredBanks (.bytes data) →
    ∃ t, exec (.writeRetiredBanks x data) s = .next t ∧ Replied s t x O.retiredBanks (.bytes data) .ok ∧ t.blob O.retiredBanks = data
      ∧ (∀ p ∈ listedPages s (s.blob O.retiredPages) (s.blob O.retiredBanks), p ∉ listedPages s (s.blob O.retiredPages) data →
          p ∉ t.integ.retired ∧ p ∉ t.integ.waiting)
      ∧ SameBut s t (.blobs :: .dict :: .freeCtr :: .integ :: .link :: timeParts))
  ∧ (∀ (x : Xfer) (oldest : Bytes) (rest : List Bytes) (s : State), s.ready = true → s.integ.log = oldest :: rest →
    ∃ t, exec (.readErrLog x) s = .next t ∧ t.integ = { s.integ with log := rest } ∧ Pops s t x O.errLog oldest [.integ])

/-! ## The hod engines (16) -/

/-- Chains: a descriptor whose bytes were all moved is counted, no byte outside its destination changes, and the chain ends with 0 where it is
the last, 1 where the next was visited or the hop limit is met, and 3 where a stop was asked for; an answer UNMAPPED or DOMAIN_ASLEEP ends it with
6 or 7; its end is signalled to its user, and the channel is idle; an engine halted is back in RUN after HALT_HOLD, or FAULTED after HALT_LIMIT
halts or a failed self-test; HOD_RELEASE returns it to service; and a diagnostic chain starts on the lowest free channel 15 and is stopped
(16 R530 to R537, R540 to R545, R548; its readings log entry 55). -/
def Obligations.HodChains : Prop :=
  (∀ (e k : Nat) (c : Chain) (s : State), e < 24 → k < 16 → runningChain s (e * 16 + k) = some c →
    (movePieces c.cur (Descriptor.pieces c.cur) s).fail = none →
    ∃ t c', exec (.hodDescriptorEnd e k) s = .next t ∧ Store.find t.hod.chains (e * 16 + k) = some c' ∧ c'.hops = c.hops + 1
      ∧ c'.written = c.written + (movePieces c.cur (Descriptor.pieces c.cur) s).written ∧ Counted s t (O.descriptors e) 1
      ∧ (∀ a, (∀ p ∈ Descriptor.pieces c.cur, a < p.dst ∨ p.dst + p.size ≤ a) → memByte t.mem a = memByte s.mem a)
      ∧ (if chainStop s c = true then c'.status = some 3 ∧ Counted s t (O.stops e) 1 ∧ Counted s t (O.chainsEnded e) 1
         else if Descriptor.chained c.cur = false then c'.status = some 0 ∧ Counted s t (O.chainsEnded e) 1
         else if Descriptor.next c.cur ∈ c.history ∨ c.limit ≤ c.hops + 1
         then c'.status = some 1 ∧ Counted s t (O.loopEnds e) 1 ∧ Counted s t (O.chainsEnded e) 1
         else c'.status = none → c'.addr = Descriptor.next c.cur ∧ t.obj (O.chainsEnded e) = s.obj (O.chainsEnded e))
      ∧ SameBut s t [.dict, .freeCtr, .hod, .integ, .link, .mem])
  ∧ (∀ (e k : Nat) (c : Chain) (answer : Status) (s : State), e < 24 → k < 16 → runningChain s (e * 16 + k) = some c →
    (movePieces c.cur (Descriptor.pieces c.cur) s).fail = some answer →
    ∃ t c', exec (.hodResponseEnd e k answer) s = .next t ∧ Store.find t.hod.chains (e * 16 + k) = some c'
      ∧ c'.status = some (if answer = .unmapped then 6 else 7) ∧ Counted s t (O.chainsEnded e) 1
      ∧ (∀ a, (∀ p ∈ Descriptor.pieces c.cur, a < p.dst ∨ p.dst + p.size ≤ a) → memByte t.mem a = memByte s.mem a)
      ∧ SameBut s t [.dict, .freeCtr, .hod, .integ, .link, .mem])
  ∧ (∀ (e k status : Nat) (c : Chain) (s : State), e < 24 → k < 16 → Store.find s.hod.chains (e * 16 + k) = some c →
    c.status = some status → Store.find s.hod.halting e = none →
    ∃ t, exec (.hodChainSignal e k) s = .next t ∧ Store.find t.hod.chains (e * 16 + k) = none
      ∧ (c.user = 1 → t.obj O.diagState = 0 ∧ t.blob O.diagResult = chainRecord c status)
      ∧ (c.user ≠ 1 → ∀ o, s.op c.owner = some o → t.op c.owner = some
          { o with ended := some (if status = 0 then .ok else if status = 2 ∨ status = 4 then .tileFault
                                  else if status = 3 then .cancelled else .fault) })
      ∧ (∀ a, (a < c.record ∨ c.record + 16 ≤ a) → memByte t.mem a = memByte s.mem a)
      ∧ (c.record = 0 → (∀ a, c.last = some a → badByte s (a / 64) = none) → t.mem = s.mem ∧ Leaves s t [.dict, .blobs, .hod, .sched] [O.diagState])
      ∧ SameBut s t [.dict, .blobs, .freeCtr, .hod, .integ, .link, .mem, .sched])
  ∧ (∀ (e since : Nat) (pass : Bool) (s : State), e < 24 → Store.find s.hod.halted e = some since →
    ∃ t, exec (.haltHoldExpiry e pass) s = .next t ∧ bitOf (t.nat O.hodHaltedMap) e = false ∧ Store.find t.hod.halted e = none
      ∧ since + ticksOfNs (1000 * s.nat O.haltHold) ≤ t.clock.ticks
      ∧ (if pass = true ∧ (Store.at [] s.hod.halts e).length < s.nat O.haltLimit then t.nat O.hodService = s.nat O.hodService
         else bitOf (t.nat O.hodService) e = false ∧ Counted s t O.unitLostCount 1 ∧ unitWord 5 e ∈ t.guard.lost)
      ∧ SameBut s t (.dict :: .hod :: .link :: timeParts))
  ∧ (∀ (x : Xfer) (e : Nat) (s : State), e < 24 → Accepts s x O.hodRelease (.num e) →
    ∃ t, exec (.hodRelease x e) s = .next t ∧ Answers s t x O.hodRelease (.num e) .ok [.hod] [O.hodService]
      ∧ bitOf (t.nat O.hodService) e = true
      ∧ t.hod = s.hod ∧ (bitOf (s.nat O.hodService) e = false → unitWord 5 e ∉ t.guard.lost))
  ∧ (∀ (x : Xfer) (s : State), Accepts s x O.diagStart (.num 1) → ([20, 21, 22, 23].any s.hodRuns = true) →
    ∃ t, exec (.diagStart x) s = .next t ∧
      if s.obj O.diagState = 1 ∨ diagChannel s = none then Answers s t x O.diagStart (.num 1) .noHodChannel [] []
      else ∃ unit c, diagChannel s = some unit ∧ Store.find t.hod.chains unit = some c ∧ c.user = 1 ∧ c.addr = s.nat O.diagChain
        ∧ c.status = (match fetchDesc s (s.nat O.diagChain) with
            | .error status => some status
            | .ok d => if Descriptor.malformed d = true then some 5 else none)
        ∧ t.obj O.diagState = 1
        ∧ Answers s t x O.diagStart (.num 1) .ok [.hod] [O.diagState, O.chainsEnded (unit / 16), O.stops (unit / 16), O.loopEnds (unit / 16)])
  ∧ (∀ (x : Xfer) (s : State), Accepts s x O.diagStart (.num 1) → ([20, 21, 22, 23].any s.hodRuns = false) →
    ∃ t, exec (.diagStart x) s = .next t ∧ Answers s t x O.diagStart (.num 1) .hodHalted [] [])
  ∧ (∀ (x : Xfer) (s : State), Accepts s x O.diagStop (.num 1) →
    ∃ t, exec (.diagStop x) s = .next t ∧ Answers s t x O.diagStop (.num 1) .ok [.hod] []
      ∧ ∀ u c, Store.find s.hod.chains u = some c → Store.find t.hod.chains u
          = some (if c.user = 1 ∧ c.status = none then { c with stop := true } else c))

/-! ## Emission integrity (17) -/

/-- The guard: divergence beyond its limit, a lost or off-frequency reference, a copy that differs, a configuration that fails its CRC, power over
the limit, a keepalive that stops and a failed self-check each mute their scope with their cause, and otherwise nothing is muted; 2 µs after its
detection a mute is complete and reported once; a mute is released where every cause lets it go, with a record, and is refused with SAFETY_MUTED
where one does not; the guard is armed by its start-up test; it is resynchronised only with every carrier OFF; and the log pops its oldest record
(17 R549 to R567, Tables 17-1, 17-2; its readings log entry 55). -/
def Obligations.GuardChecks : Prop :=
  (∀ s : State, s.guard.synth = [] →
    ∃ t, exec .divergenceComparison s = .next t
      ∧ (if s.nat O.divergenceLimit * nsUnit < s.guard.skew.natAbs then Detected t 5 3 0xFFFF else t.guard = s.guard)
      ∧ (t.obj O.divergence * nsUnit - s.guard.skew * 1000).natAbs < nsUnit ∧ SameBut s t [.blobs, .dict, .guard, .link, .time])
  ∧ (∀ (m : Mute) (s : State), s.guard.mutes.find? (fun m => !m.complete) = some m → m.fresh ≠ [] →
    ∃ t, exec .muteComplete s = .next t ∧ m.at' + ticksOfNs 2000 ≤ t.clock.ticks ∧ { m with complete := true } ∈ t.guard.mutes
      ∧ Counted s t O.emissionMuteCount 1 ∧ Counted s t O.muteLogCount m.fresh.length ∧ bitOf (t.nat O.faultCauses) 0 = true
      ∧ Leaves s t (.dict :: .link :: timeParts) [O.emissionMuteCount, O.muteLogCount, O.faultCauses, O.indicationsDropped])
  ∧ (∀ s : State, (∃ t, exec .referenceAbsent s = .next t ∧ Detected t 6 3 0xFFFF ∧ t.guard.refGood = none
        ∧ (s.guard.mutes = [] → t.muteLow = true ∧ t.obj O.deviceMuted = 1) ∧ SameBut s t [.blobs, .dict, .guard, .link, .time])
      ∧ (∃ t, exec .guardKeepaliveLoss s = .next t ∧ Detected t 7 3 0xFFFF ∧ SameBut s t [.blobs, .dict, .freeCtr, .guard, .link, .time])
      ∧ (∃ t, exec .rtcStopped s = .next t ∧ t = { s with guard := { s.guard with rtcOff := true } }))
  ∧ (∀ (cycles : Nat) (s : State),
    ∃ t, exec (.referenceFrequencyCheck cycles) s = .next t ∧ SameBut s t [.blobs, .dict, .guard, .link, .time]
      ∧ (s.guard.rtcOff = false →
          if 800 < ((cycles : Int) * 100 - 953674).natAbs then Detected t 6 3 0xFFFF ∧ t.guard.refGood = none
          else t.guard = { s.guard with refGood := if s.guard.refGood.isSome = true then s.guard.refGood else some s.clock.ticks }))
  ∧ (∀ (n : Nat) (ok : Bool) (c : Copy) (s : State), n < 64 → Store.find s.guard.copies n = some c →
    ∃ t, exec (.guardAudit n ok) s = .next t ∧ SameBut s t [.blobs, .dict, .freeCtr, .guard, .link, .time]
      ∧ (if ok = true ∧ { c with sound := true } = workingCopy n s
         then t.guard = { s.guard with copies := Store.put s.guard.copies n { c with sound := true } }
           ∧ t.obj O.auditMismatches = s.obj O.auditMismatches
         else Detected t 8 0 n ∧ Counted s t O.auditMismatches 1))
  ∧ (∀ (c : Nat) (s : State), c < 128 → s.chainCarrier c < 64 →
    (∃ t, exec (.guardConfigCrcCheck c false) s = .next t ∧ Detected t 4 0 (s.chainCarrier c) ∧ c ∈ t.guard.badConf
        ∧ SameBut s t [.blobs, .dict, .guard, .link, .time])
    ∧ ((8, c) ∉ s.guard.synth → ∃ t, exec (.guardConfigCrcCheck c true) s = .next t ∧ c ∉ t.guard.badConf
        ∧ t.guard.mutes = s.guard.mutes ∧ Leaves s t [.guard] []))
  ∧ (∀ (n : Nat) (power : Int) (s : State), n < 64 → s.obj (O.carrierEnable n) ≠ 0 → s.obj (O.fhDomain n) = 1 → (5, n) ∉ s.guard.synth →
    ∃ t, exec (.powerMeterBlock n power) s = .next t ∧ t.obj (O.pwrMax n) = max (s.obj (O.pwrMax n)) power
      ∧ (if 2 * s.obj (O.guardPwrLimit n) + 15 ≤ 2 * power then Detected t 3 0 n else Leaves s t [.dict] [O.pwrMax n])
      ∧ SameBut s t [.blobs, .dict, .guard, .link, .time])
  ∧ (∀ (code : Nat) (s : State), exec (.guardSelfCheck true code) s = .next s
      ∧ ∃ t, exec (.guardSelfCheck false code) s = .next t ∧ Detected t 7 3 0xFFFF ∧ SameBut s t [.blobs, .dict, .guard, .link, .time])
  ∧ (∀ (pass : Bool) (s : State), s.obj O.guardState = 0 → s.boot.powered = true →
    ∃ t, exec (.guardArmed pass) s = .next t ∧ t.obj O.guardState = (if pass = true then 1 else 2)
      ∧ (pass = false → bitOf (t.nat O.faultCauses) 6 = true) ∧ Leaves s t [.dict] [O.guardState, O.faultCauses])
  ∧ (∀ (x : Xfer) (v : Int) (scope unit : Nat) (m : Mute) (s : State), Accepts s x O.muteRelease (.num v) →
    ((v = 0xFFFF ∧ scope = 3 ∧ unit = 0xFFFF) ∨ (scope = 0 ∧ unit < 64 ∧ v = unit) ∨ (scope = 1 ∧ unit < 24 ∧ v = 0x100 + unit)
      ∨ (scope = 2 ∧ unit < 128 ∧ v = 0x200 + unit)) →
    s.guard.mutes.find? (fun m => sameScope s m.scope m.unit scope unit) = some m → m.complete = true →
    m.last ≠ (advance s x.dt).clock.ticks →
    ∃ t, exec (.muteRelease x v) s = .next t ∧
      if m.causes.all (fun c => releaseTest (advance s x.dt) m.scope m.unit c.1) = true
      then (∀ m' ∈ t.guard.mutes, ¬ (m'.scope = scope ∧ m'.unit = unit)) ∧ Counted s t O.muteLogCount 1
        ∧ Answers s t x O.muteRelease (.num v) .ok [.blobs]
            [O.muteLogCount, O.carriersMuted, O.portsMuted, O.deviceMuted]
      else t.guard.mutes = s.guard.mutes ∧ Answers s t x O.muteRelease (.num v) .safetyMuted [] [])
  ∧ (∀ (x : Xfer) (s : State), Accepts s x O.guardResync (.num 1) →
    ∃ t, exec (.guardResync x) s = .next t ∧
      if s.noCarrier = true then t.guard.resync = true ∧ Answers s t x O.guardResync (.num 1) .ok [] []
      else Answers s t x O.guardResync (.num 1) .locked [] [])
  ∧ (∀ (x : Xfer) (oldest : Bytes) (rest : List Bytes) (s : State), s.ready = true → s.guard.log = oldest :: rest →
    ∃ t, exec (.readMuteLog x) s = .next t ∧ t.guard.log = rest ∧ Pops s t x O.muteLog oldest [])

/-- Faults, retirement and injection: the stream of a chain that faults moves to the free gang of its domain, with SPARE_ENGAGED, or is lost; a slice and
a management core that fault leave service with UNIT_LOST, and with the last core the part warm-resets; a unit word out of range is refused by
UNIT_RETIRE, and a slice, core, hod engine or chain that it names faults; FAULT_CLEAR clears the causes that no longer hold; injection is refused without its grant and where
no unit is named, acts at once on a unit in service and is counted; and a restore undoes an injection that was made, and no other (17 R569 to
R572, R574, R576, R578). -/
def Obligations.FaultsAndInjection : Prop :=
  (∀ (c : Nat) (s : State), c < 128 → (s.chain c).faulted = false →
    ∃ t, exec (.dfeChainFault c) s = .next t ∧ (t.chain c).faulted = true ∧ SameBut s t [.blobs, .dfe, .dict, .freeCtr, .guard, .link]
      ∧ (s.chainCarrier (gangHead s c) < 64 →
          if (freeGang (s.onChain c fun d => { d with faulted := true }) (chainDomain c) (s.gang (gangHead s c))).isSome = true
          then Counted s t O.spareEngagedCount 1
          else Counted s t O.unitLostCount 1 ∧ unitWord 6 c ∈ t.guard.lost))
  ∧ (∀ (k : Nat) (s : State), k < 24 → bitOf s.units.slices k = true →
    ∃ t, exec (.palletSliceFault k) s = .next t ∧ bitOf t.units.slices k = false ∧ unitWord 8 k ∈ t.guard.lost
      ∧ Counted s t O.unitLostCount 1 ∧ bitOf (t.nat O.faultCauses) 1 = true
      ∧ SameBut s t [.dict, .guard, .hod, .kiln, .link, .pipe, .sched, .svc, .tiles, .units])
  ∧ (∀ (n : Nat) (s : State), n < 4 → bitOf s.units.cores n = true → setBit s.units.cores n false ≠ 0 →
    ∃ t, exec (.managementCoreWatchdog n) s = .next t ∧ bitOf t.units.cores n = false ∧ unitWord 12 n ∈ t.guard.lost
      ∧ Counted s t O.unitLostCount 1 ∧ Indicates s t O.unitLostCount (unitWord 12 n) (spareDetail (unitWord 12 n) 0xFFFF 0 0) 0
      ∧ Leaves s t [.dict, .guard, .link, .units] [O.unitLostCount, O.faultCauses, O.indicationsDropped])
  ∧ (∀ (n : Nat) (s : State), n < 4 → bitOf s.units.cores n = true → setBit s.units.cores n false = 0 → s.obj O.bootState = 4 → s.svc.held = [] →
    ∃ t, exec (.managementCoreWatchdog n) s = .next t ∧ t.units.cores = 0xF ∧ t.obj O.bootState = 4)
  ∧ (∀ (x : Xfer) (v : Int) (s : State), Accepts s x O.unitRetire (.num v) →
    ∃ t, exec (.unitRetire x v) s = .next t ∧
      if unitsInClass (v.toNat / 4096) ≤ v.toNat % 4096 then Answers s t x O.unitRetire (.num v) .valueRange [] []
      else Replied s t x O.unitRetire (.num v) .ok
        ∧ (v.toNat / 4096 = 8 → bitOf t.units.slices (v.toNat % 4096) = false)
        ∧ (v.toNat / 4096 = 12 → bitOf t.units.cores (v.toNat % 4096) = false)
        ∧ (v.toNat / 4096 = 5 → bitOf (t.nat O.hodService) (v.toNat % 4096) = false)
        ∧ (v.toNat / 4096 = 6 → (t.chain (v.toNat % 4096)).faulted = true))
  ∧ (∀ (x : Xfer) (s : State), Accepts s x O.faultClear (.num 1) →
    ∃ t, exec (.faultClear x) s = .next t ∧ Answers s t x O.faultClear (.num 1) .ok [] [O.faultCauses]
      ∧ ∀ b, bitOf (t.nat O.faultCauses) b = (decide (b < 7) && bitOf (s.nat O.faultCauses) b && causeHolds s b))
  ∧ (∀ (x : Xfer) (s : State), Accepts s x O.injArm (.num 1) →
    ∃ t, exec (.injArm x) s = .next t ∧
      if bitOf (s.nat O.debugGrants) 2 = false then Answers s t x O.injArm (.num 1) .debugDenied [] []
      else if injUnitOk (s.nat O.injKind) (s.nat O.injUnit) = false then Answers s t x O.injArm (.num 1) .valueRange [] []
      else if s.nat O.injKind = 0 ∧ noSpareLeft (s.nat O.injUnit / 4096) (s.nat O.injUnit % 4096) s = true
      then Answers s t x O.injArm (.num 1) .unitFaulted [] []
      else Replied s t x O.injArm (.num 1) .ok ∧ t.obj O.injStatus = 1 ∧ Counted s t O.injCount 1
        ∧ (s.nat O.injKind = 4 → bitOf t.fh.badLanes (s.nat O.injUnit) = true)
        ∧ (s.nat O.injKind = 2 → s.obj (O.chState (s.nat O.injUnit)) ≠ 0 → t.obj (O.chState (s.nat O.injUnit)) = 4)
        ∧ (s.nat O.injKind = 6 → s.chainCarrier (s.nat O.injUnit) < 64 → Detected t 1 0 (s.chainCarrier (s.nat O.injUnit))))
  ∧ (∀ (x : Xfer) (s : State), Accepts s x O.injRestore (.num 1) →
    ∃ t, exec (.injRestore x) s = .next t ∧
      if (s.nat O.injKind, s.nat O.injUnit) ∈ s.guard.injected
      then Replied s t x O.injRestore (.num 1) .ok ∧ t.obj O.injStatus = 2
        ∧ (s.nat O.injKind, s.nat O.injUnit) ∉ t.guard.injected
        ∧ (s.nat O.injKind = 2 → s.obj (O.chState (s.nat O.injUnit)) = 4 → t.obj (O.chState (s.nat O.injUnit)) = 2)
      else Answers s t x O.injRestore (.num 1) .valueRange [] [])

/-! ## Power domains and watch mode (18) -/

/-- Domains, votes and VDD_CORE: a write of HOST_VOTE is the host's vote, but RUN and TRIM are refused while TJ is at or above its cap,
and those votes then count as none; an
operation that is dispatched keeps its unit's domain at the target RUN; a transition starts from the state and to the target of its instant,
its channels enter self-refresh, and a second request waits; a drained domain closes and an opened one enters RUN, counted, and tile
memory is lost in OFF; an exchange follows its acknowledgement, status and repeats; and the rails' readings are held (18 R581 to R590,
Tables 18-2, 18-8, 18-9). The readings of log entries 36 and 53 are the model's. -/
def Obligations.PowerDomains : Prop :=
  (∀ (x : Xfer) (d : Nat) (v : Int) (s : State), d < 32 → Accepts s x (O.hostVote d) (.num v) →
    ∃ t, exec (.hostVote x d v) s = .next t ∧
      if s.obj O.tjHostCap ≤ s.obj O.tj ∧ 3 ≤ v
      then t.obj (O.hostVote d) = s.obj (O.hostVote d) ∧ Answers s t x (O.hostVote d) (.num v) .thermalLimit [] []
      else t.obj (O.hostVote d) = v ∧ Answers s t x (O.hostVote d) (.num v) .ok [] [O.hostVote d, O.changeCount])
  ∧ (∀ (d : Nat) (s : State),
    (votesOf s d).head? = some (if s.obj O.tjHostCap ≤ s.obj O.tj ∧ 3 ≤ s.nat (O.hostVote d) then 0 else s.nat (O.hostVote d)))
  ∧ (∀ (tag : Nat) (o : Op) (s : State), s.op tag = some o → o.state = .dispatched → domainTargetOf s (unitDomain o.cls o.unit) = 0)
  ∧ (∀ (d : Nat) (s : State), d < 32 →
    if (Store.find s.power.moving d).isSome = true ∨ s.nat (O.domainState d) = domainTargetOf s d
    then exec (.domainTransitionStart d) s = .next s
    else ∃ t, exec (.domainTransitionStart d) s = .next t
      ∧ Store.find t.power.moving d = some ⟨s.nat (O.domainState d), domainTargetOf s d, s.clock.ticks⟩
      ∧ (∀ e, e ≠ d → Store.find t.power.moving e = Store.find s.power.moving e)
      ∧ t.obj (O.domainState d) = (if domainTargetOf s d < s.nat (O.domainState d) then 5 else 4)
      ∧ (∀ e, e < 32 → e ≠ d → t.obj (O.domainState e) = s.obj (O.domainState e))
      ∧ (s.nat (O.domainState d) = 0 → ∀ c < 16, t.obj (O.chState c) =
          if c / 4 + 26 = d ∧ s.obj (O.chState c) = 2 then 3 else s.obj (O.chState c))
      ∧ SameBut s t [.dict, .mortar, .power])
  ∧ (∀ (d : Nat) (m : Transition) (s : State), d < 32 → Store.find s.power.moving d = some m → s.obj (O.domainState d) = 4 →
    if m.was = 0 ∧ drained s d = false then exec (.domainDrained d) s = .next s
    else ∃ t, exec (.domainDrained d) s = .next t ∧ t.obj (O.domainState d) = m.to' ∧ Store.find t.power.moving d = none
      ∧ Counted s t (O.transitions d) 1 ∧ (∀ e, e < 32 → e ≠ d → t.obj (O.domainState e) = s.obj (O.domainState e))
      ∧ (m.to' = 3 → ∀ i < 20, ∀ a < 0x80000, 2 ≤ d → d < 12 → memByte t.mem (tileAddr ((d - 2) * 20 + i) + a) = 0)
      ∧ SameBut s t [.dfe, .dict, .fh, .freeCtr, .mem, .power])
  ∧ (∀ (d : Nat) (m : Transition) (s : State), d < 32 → Store.find s.power.moving d = some m → s.obj (O.domainState d) = 5 →
    if m.to' = 0 ∧ railReady s d = false then exec (.domainEnterRunComplete d) s = .next s
    else ∃ t, exec (.domainEnterRunComplete d) s = .next t ∧ t.obj (O.domainState d) = m.to' ∧ Store.find t.power.moving d = none
      ∧ Counted s t (O.transitions d) 1 ∧ (∀ e, e < 32 → e ≠ d → t.obj (O.domainState e) = s.obj (O.domainState e))
      ∧ (m.to' = 0 → ∀ c < 16, c / 4 + 26 = d → s.obj (O.chState c) = 3 → t.obj (O.chState c) = 2)
      ∧ SameBut s t [.dfe, .dict, .fh, .freeCtr, .mem, .power])
  ∧ (∀ (e : Exchange) (s : State), s.power.rail.run = some e → e.acked = none → e.again = none →
    (∃ t, exec (.avsAck .good) s = .next t
      ∧ t.power.rail.run = some { e with acked := some s.clock.ticks, polled := s.clock.ticks } ∧ Leaves s t [.power] [])
    ∧ (∃ t, exec (.avsAck .busy) s = .next t ∧
        if 8 ≤ e.busy then ExchangeFails s t 2 e.target ∧ SameBut s t [.dict, .link, .power]
        else t.power.rail.run = some { e with busy := e.busy + 1, again := some (s.clock.ticks + ticksOfNs 5000) } ∧ Leaves s t [.power] [])
    ∧ (∃ t, exec (.avsAck .badCrc) s = .next t ∧
        if 3 ≤ e.crc then ExchangeFails s t 2 e.target ∧ SameBut s t [.dict, .link, .power]
        else t.power.rail.run = some { e with crc := e.crc + 1 } ∧ Leaves s t [.power] [])
    ∧ ∃ t, exec (.avsAck .invalid) s = .next t ∧ ExchangeFails s t 1 e.target ∧ SameBut s t [.dict, .link, .power]
        ∧ (Store.rising s.power.moving = true → s.power.rail.mv ≠ s.nat O.vRunMv → ∀ d < 32, coreDomain d = true →
            ∀ m, Store.find s.power.moving d = some m → m.to' = 0 →
              t.obj (O.domainState d) = m.was ∧ Store.find t.power.moving d = none))
  ∧ (∀ (e : Exchange) (a : Nat) (s : State), s.power.rail.run = some e → e.acked = some a →
    (∃ t, exec (.avsPoll true) s = .next t ∧ t.power.rail.mv = e.target ∧ t.power.rail.faulted = false
      ∧ e.polled + ticksOfNs 1000 + ticksOfNs 3000 ≤ t.clock.ticks ∧ t.power.moving = s.power.moving
      ∧ Leaves s t (.dict :: .power :: timeParts) [O.watchState])
    ∧ ∃ t, exec (.avsPoll false) s = .next t ∧ e.polled + ticksOfNs 1000 ≤ t.clock.ticks
        ∧ SameBut s t (.dict :: .link :: .power :: timeParts) ∧
        if a + ticksOfNs (s.nat O.avsTimeout * 1000) ≤ t.clock.ticks then ExchangeFails s t 0 e.target
        else t.power.rail.run = some { e with polled := t.clock.ticks })
  ∧ (∀ s : State, (∀ e u, s.power.rail.run = some e → e.again = some u →
      ∃ t, exec .avsRetry s = .next t ∧ t.power.rail.run = some { e with again := none } ∧ u ≤ t.clock.ticks
        ∧ Leaves s t (.power :: timeParts) [])
    ∧ (∀ target u, s.power.rail.run = none → s.power.rail.failed = some (target, u) →
      ∃ t, exec .avsRetry s = .next t ∧ t.power.rail.run = some ⟨target, 0, 0, none, none, t.clock.ticks⟩ ∧ t.power.rail.failed = none
        ∧ u ≤ t.clock.ticks ∧ Leaves s t (.power :: timeParts) []))
  ∧ (∀ (readings : List (Nat × Nat × Int)) (s : State), readings.length = 3 → s.power.rail.run = none →
    ∃ t, exec (.pmbusRead readings) s = .next t ∧ t.blob O.railReadings = readings.flatMap readingBytes
      ∧ Leaves s t [.blobs, .dict] [O.powerMw])

/-- WATCH: a write of 1 to WATCH_ENABLE enters it where its check passes and is answered with the check's reason; in WATCH the latch takes four
messages of channel 0 and drops a fifth; the C-plane message of a PRACH capture is sent by hardware; an alarm starts a wake for
every capture that is set; a window opens and closes at its instants; the compare writes its detail, and a hit is raised and, with WC_ACTION 1,
makes the enable STOPPING; and WATCH ends, with the enable OFF, once the voted domains run and a module is up, and not before (18 R592 to
R598, R601, Table 18-7). The readings of log entries 36 and 50 are the model's. -/
def Obligations.WatchMode : Prop :=
  (∀ (x : Xfer) (s : State), Accepts s x O.watchEnable (.num 1) → s.obj O.watchEnable = 0 → s.obj O.bootState ≠ 5 →
    ∃ t, exec (.writeWatchEnable x 1) s = .next t
      ∧ Answers s t x O.watchEnable (.num 1) (watchCheck (advance s x.dt)) [.freeCtr, .nl, .power, .svc]
          [O.watchEnable, O.watchState, O.nlEnable, O.nlState, O.dfeUser (s.nat O.nlChain), O.lastCheckObject, O.lastCheckReason,
            O.enableLogCount, O.changeCount]
      ∧ if watchCheck (advance s x.dt) = .ok
        then t.obj O.watchEnable = 1 ∧ t.obj O.watchState = 1 ∧ t.obj O.nlState ≠ 2 ∧ t.power.watch.awake = false
          ∧ t.power.watch.left = [] ∧ t.power.rail = s.power.rail ∧ t.power.moving = s.power.moving
        else t.obj O.watchEnable = 0 ∧ t.obj O.watchState = 0 ∧ t.power = s.power ∧ t.nl = s.nl)
  ∧ (∀ (x : Xfer) (v : Int) (s : State), s.obj O.watchState ≠ 0 →
    ∃ t, exec (.writeWatchEnable x v) s = .next t ∧
      if s.svc.held.length < 4
      then (∃ w, w.1 = x.seq ∧ t.svc = { s.svc with held := s.svc.held ++ [w] }) ∧ t.obj O.latched = (s.svc.held.length + 1 : Nat)
        ∧ Leaves s t (.dict :: .svc :: timeParts) [O.latched]
      else Counted s t O.latchDropped 1 ∧ Leaves s t (.dict :: timeParts) [O.latchDropped])
  ∧ (∀ (k bytes : Nat) (s : State), k < 8 → s.asleep = true → s.obj (O.wcKind k) = 2 → s.nat (O.wcCarrier k) < 64 → s.airRunning = true →
    ∃ t, exec (.watchCplaneSend k bytes) s = .next t ∧ (Store.find t.power.watch.sent k).isSome = true
      ∧ (∀ p, p = s.nat (O.fhPort (s.nat (O.wcCarrier k))) → p < 24 → s.linkUp p = true →
          Counted s t (O.cpTxSent p) (max 1 (s.nat (O.ulPorts (s.nat (O.wcCarrier k))))))
      ∧ SameBut s t (.dict :: .fh :: .power :: timeParts))
  ∧ (∀ s : State, canWake s = true → captures s ≠ [] → s.svc.held = [] →
    ∃ t, exec .rtcAlarm s = .next t ∧ Counted s t O.watchCycles 1 ∧ t.obj O.watchState = 3 ∧ t.power.watch.awake = true
      ∧ t.power.watch.boundary = alarmPeriod s ∧ t.power.watch.left = captures s ∧ t.power.watch.opened = []
      ∧ t.clock = (advanceToAir s (alarmAt s)).clock
      ∧ Leaves s t (.dict :: .freeCtr :: .power :: timeParts) [O.watchCycles, O.watchState, O.latched])
  ∧ (∀ (k : Nat) (s : State), k < 8 → s.power.watch.awake = true → k ∈ s.power.watch.left → k ∉ s.power.watch.opened →
    ∃ t, exec (.watchWindowOpen k) s = .next t ∧ t.obj O.watchState = 4 ∧ t.clock = (atWindow s k).clock
      ∧ t.power = { s.power with watch := { s.power.watch with opened := s.power.watch.opened ++ [k] } }
      ∧ Leaves s t (.dict :: .power :: timeParts) [O.watchState])
  ∧ (∀ (k : Nat) (s : State), k < 8 → k ∈ s.power.watch.opened →
    ∃ t measure, exec (.watchWindowClose k) s = .next t ∧ measure = (captureMeasure k (atClose s k)).1 ∧ t.clock = (atClose s k).clock
      ∧ t.blob (O.wcLast k) = compareDetail s k (isHit s k measure) measure ∧ (∀ b, b ≠ O.wcLast k → t.blob b = s.blob b)
      ∧ (if isHit s k measure = true
         then Counted s t O.watchHitCount 1 ∧ Indicates s t O.watchHitCount k (compareDetail s k true measure) 0
           ∧ (s.obj (O.wcAction k) = 1 → s.obj O.watchEnable = 1 → t.obj O.watchEnable = 3)
           ∧ (s.obj (O.wcAction k) ≠ 1 → t.obj O.watchEnable = s.obj O.watchEnable)
         else t.obj O.watchHitCount = s.obj O.watchHitCount ∧ t.obj O.watchEnable = s.obj O.watchEnable ∧ t.link = s.link)
      ∧ (if s.obj (O.wcKind k) = 2 ∧ s.runs 14 = true ∧ s.nat O.leService ≠ 0 then Counted s t O.leOps 1 ∧ Counted s t O.prachOccasions 1
         else t.obj O.leOps = s.obj O.leOps)
      ∧ ((∃ j ∈ s.power.watch.left, j ≠ k) →
          t.power.watch.left = s.power.watch.left.filter (· != k) ∧ t.power.watch.awake = s.power.watch.awake
            ∧ (t.obj O.watchState = 3 ∨ t.obj O.watchState = 4))
      ∧ ((∀ j ∈ s.power.watch.left, j = k) → t.power.watch.left = [] ∧ t.power.watch.awake = false
          ∧ (s.power.watch.leaving = true → t.obj O.watchState = 6))
      ∧ Leaves s t (.blobs :: .dfe :: .dict :: .freeCtr :: .link :: .power :: timeParts)
          [O.watchState, O.watchEnable, O.watchHitCount, O.indicationsDropped, O.leOps, O.prachOccasions, O.prachDetections])
  ∧ (∀ s : State, s.obj O.watchState = 6 → s.obj O.watchEnable = 3 → s.svc.held = [] →
    if watchLeft s = true
    then ∃ t, exec .watchExitComplete s = .next t ∧ t.obj O.watchEnable = 0 ∧ t.obj O.watchState = 0 ∧ t.obj O.latched = 0
      ∧ Leaves s t [.dict] [O.watchEnable, O.watchState, O.latched]
    else exec .watchExitComplete s = .next s)

/-! ## Resets, supplies and temperatures (19, 20), and the records of the journal (04) -/

/-- Resets: a pulse that is too short, or one without supplies, does nothing; a cold reset, by RESET_N or RESET_CMD, is counted with its
cause, clears the session and its courses, keeps the fuses, the flash slots and the commands waiting, and boots to READY, to RECOVERY, or to
LOADING while the RTC oscillator does not run; a warm reset of a part that read READY is counted, keeps the image, suspends the session and
reads READY again, and before the first READY it becomes a cold reset; a write of RESET_CMD is answered before its reset; supplies in range
boot the part with cause 0; and a supply out of range puts the part into power-on reset with its gates closed and MUTE_N low and nothing kept but
fuses and flash, as the thermal sensor does (19 R603 to R608; 20 R632, R633,
R636, R641; 15 R499; 04 R133). The states between are the readings of log entry 37. -/
def Obligations.Resets : Prop :=
  (∀ (lowNs : Nat) (s : State),
    if s.boot.powered = true ∧ 10000 ≤ lowNs
    then ∃ t, exec (.coldReset lowNs) s = .next t ∧ t.obj O.resetCause = 1 ∧ Counted s t O.coldResets 1
      ∧ t.obj O.warmResets = s.obj O.warmResets ∧ t.obj O.sessionState = 0 ∧ t.pipe.courses = [] ∧ t.pipe.ues = [] ∧ t.wb = []
      ∧ t.obj O.debugPolicy = s.obj O.debugPolicy ∧ t.obj O.topUsed = s.obj O.topUsed ∧ t.blob O.ownerKeyHash = s.blob O.ownerKeyHash
      ∧ (s.boot.update = none → ∀ k, t.boot.flash.slot k = s.boot.flash.slot k) ∧ t.boot.powered = true ∧ t.pending = s.pending
      ∧ (t.obj O.bootState = 5 ∨ t.obj O.bootState = if s.guard.rtcOff = true then 3 else 4)
      ∧ (s.boot.flash.control.preferred < 2 → (t.obj O.bootState = 5 ↔ t.obj O.imageSlot = 2))
    else exec (.coldReset lowNs) s = .next s)
  ∧ (∀ (lowNs : Nat) (s : State), s.svc.held = [] →
    if s.boot.powered = true ∧ 1000 ≤ lowNs
    then ∃ t, exec (.warmReset lowNs) s = .next t ∧ t.pending = s.pending ∧
      if s.obj O.bootState = 4
      then t.obj O.resetCause = 3 ∧ Counted s t O.warmResets 1 ∧ t.obj O.coldResets = s.obj O.coldResets ∧ t.obj O.bootState = 4
        ∧ t.image = s.image ∧ t.imageBlobs = s.imageBlobs ∧ t.tiles = [] ∧ t.hod.chains = [] ∧ t.svc.latch = none ∧ t.svc.buffer = none
        ∧ (s.obj O.servoEnable = 0 ∨ s.obj O.servoEnable = 1 → t.clock = s.clock) ∧ t.obj O.watchEnable = 0 ∧ t.obj O.watchState = 0
        ∧ (s.svc.due = [] → (∀ k ∈ enableKeys, s.obj k = 0 ∨ s.obj k = 1) → ∀ k ∈ enableKeys, k ≠ O.watchEnable → t.obj k = s.obj k)
        ∧ (t.obj O.sessionState = if s.obj O.sessionState = 0 then 0 else 2)
      else t.obj O.resetCause = 6 ∧ Counted s t O.coldResets 1 ∧ t.obj O.warmResets = s.obj O.warmResets
    else exec (.warmReset lowNs) s = .next s)
  ∧ (∀ (x : Xfer) (s : State), Quiet s → s.obj O.sessionState = 1 → s.obj O.bootState = 4 →
    (∃ t d l, exec (.resetCmdWarm x) s = .next t ∧ t.link.sent = s.link.sent ++ .dictReply d :: l ∧ d.seq = x.seq ∧ d.reason = .ok
      ∧ d.key = O.resetCmd ∧ t.obj O.resetCause = 4 ∧ Counted s t O.warmResets 1 ∧ t.obj O.sessionState = 2 ∧ t.obj O.bootState = 4)
    ∧ ∃ t d l, exec (.resetCmdCold x) s = .next t ∧ t.link.sent = s.link.sent ++ .dictReply d :: l ∧ d.seq = x.seq ∧ d.reason = .ok
      ∧ d.key = O.resetCmd ∧ t.obj O.resetCause = 2 ∧ Counted s t O.coldResets 1 ∧ t.obj O.sessionState = 0 ∧ t.pipe.courses = [])
  ∧ (∀ s : State, ∃ t, exec .powerOnReset s = .next t ∧ t.obj O.resetCause = 0 ∧ t.obj O.coldResets = 0 ∧ t.obj O.sessionState = 0
      ∧ t.boot.powered = true ∧ t.boot.tripped = false ∧ t.guard.rtcOff = true ∧ t.pipe.courses = []
      ∧ (t.obj O.bootState = 3 ∨ t.obj O.bootState = 5)
      ∧ (s.boot.flash.control.preferred < 2 → (t.obj O.bootState = 5 ↔ t.obj O.imageSlot = 2))
      ∧ (s.boot.update = none → ∀ k, t.boot.flash.slot k = s.boot.flash.slot k) ∧ t.obj O.topUsed = s.obj O.topUsed ∧ t.pending = s.pending)
  ∧ (∀ s : State, s.svc.held = [] →
    if s.boot.powered = true
    then ∃ t, exec .rtcOscillatorRuns s = .next t ∧ t.guard.rtcOff = false ∧
      if s.obj O.bootState = 3
      then t.obj O.bootState = 4 ∧ (t.link.mod 0).up = true ∧ (t.link.mod 1).up = true
        ∧ (s.obj O.bootMemtest ≠ 2 → t.obj O.bootMs ≤ 3000)
      else t.guard = { s.guard with rtcOff := false } ∧ Leaves s t [.dict, .guard] [O.latched]
    else exec .rtcOscillatorRuns s = .next s)
  ∧ (∀ (rail lowNs mv : Nat) (s : State), rail < 5 →
    if (mv * 1000 < railFloor s rail ∧ 1000 < lowNs) ∨ (rail = 0 ∧ mv < 660)
    then ∃ t, exec (.railUndervoltage rail lowNs mv) s = .next t ∧ t.boot.powered = false ∧ t.boot.tripped = (s.boot.tripped && rail != 3)
      ∧ t.obj O.bootState = 0 ∧ t.obj O.sessionState = 0 ∧ t.mem = [] ∧ t.pipe.courses = [] ∧ t.clock = State.reset.clock
      ∧ t.muteLow = true ∧ (∀ g < 16, t.obj (O.txgLevel g) = 0) ∧ t.link.journal = [] ∧ t.link.holder = 0 ∧ t.tiles = [] ∧ t.wb = []
      ∧ t.pipe.ues = [] ∧ (s.boot.update = none → t.boot.flash = s.boot.flash) ∧ t.obj O.topUsed = s.obj O.topUsed ∧ t.guard.rtcOff = true
      ∧ t.pending = s.pending
    else exec (.railUndervoltage rail lowNs mv) s = .next s)
  ∧ (∀ (tj : Int) (s : State), if 1220 ≤ tj
      then ∃ t, exec (.thermtrip tj) s = .next t ∧ t.boot.powered = false ∧ t.boot.tripped = true ∧ t.obj O.bootState = 0 ∧ t.mem = []
        ∧ t.muteLow = true ∧ (∀ g < 16, t.obj (O.txgLevel g) = 0) ∧ (s.boot.update = none → t.boot.flash = s.boot.flash) ∧ t.pending = s.pending
      else exec (.thermtrip tj) s = .next s)
  ∧ (∀ (ch : Nat) (temp : Int) (s : State), ch < 16 →
    (∃ t, exec (.gddr7TemperatureReadout ch temp) s = .next t
      ∧ (if s.obj (O.chState ch) = 2 then t.obj (O.chTemp ch) = temp else t = s) ∧ Leaves s t [.dict] [O.chTemp ch])
    ∧ ∃ t, exec (.tjCrossesHostCap temp) s = .next t ∧ t.obj O.tj = temp ∧ Leaves s t [.dict] [O.tj]
      ∧ (s.obj O.tjHostCap ≤ temp → ∀ d, 3 ≤ hostVoteOf s d → hostVoteOf t d = 0))
  ∧ (∀ (chan : Nat) (v : Verdict) (rest : List JournalWrite) (s : State), s.link.journal = .verdict chan v :: rest →
    (∀ k ∈ (s.chan chan).claims, k.req.hdr.seq ≠ v.seq) →
    if journalStuck s = true ∧ ¬ (v.reason = .journalFull ∧ s.obj O.sessionState = 1) then exec .journalWriteComplete s = .next s
    else ∃ t, exec .journalWriteComplete s = .next t ∧ t.link.journal = rest ∧ Leaves s t [.link] []
      ∧ (s.obj O.sessionState = 1 → t.link.sent = s.link.sent ++ [.verdict chan v false] ∧ (t.chan chan).lastVerdict = v.seq
          ∧ (t.chan chan).verdicts = (s.chan chan).verdicts ++ (if journalStuck { s with link := { s.link with journal := rest } } = true then []
              else [v]))
      ∧ (s.obj O.sessionState ≠ 1 → t.link.sent = s.link.sent))

/-! ## Update, identity, the debug policy and JTAG (19) -/

/-- Update and identity: each trigger is refused with LOCKED while an operation runs and else begins one, which changes the slot that did not
boot when it ends; IMG_ACTIVATE arms a trial only of an image that verified, and IMG_CONFIRM prefers the slot that booted; a rollback burn
brings each counter up to the running version and never down; a signature takes one leaf, from a new tree where the last is spent, and is
refused with LEAVES_EXHAUSTED when none is left; OWNER_PROGRAM writes once; a token opens no grant unless it is good; DEBUG_CLOSE
closes for good; and JTAG drives pins only with its grant and every carrier OFF (19 R616 to R626; 20 R637). What programming and erasing leave, and that data past the
end of a slot is refused, is log entry 38; the signatures are log entry 39. -/
def Obligations.UpdateAndIdentity : Prop :=
  (∀ (x : Xfer) (s : State),
    (Accepts s x O.imgErase (.num 1) → ∃ t, exec (.imgErase x) s = .next t ∧
      if s.boot.update.isSome = true then t.boot = s.boot ∧ Answers s t x O.imgErase (.num 1) .locked [] []
      else t.boot = { s.boot with update := some .erase } ∧ t.obj O.updateState = 1 ∧ t.obj O.updateReason = Reason.imageFormat.code
        ∧ Answers s t x O.imgErase (.num 1) .ok [.boot] [O.updateState, O.updateReason, versionKey (hostSlot s)])
    ∧ (Accepts s x O.imgVerify (.num 1) → ∃ t, exec (.imgVerify x) s = .next t ∧
      if s.boot.update.isSome = true then t.boot = s.boot ∧ Answers s t x O.imgVerify (.num 1) .locked [] []
      else t.boot = { s.boot with update := some .verify } ∧ t.obj O.updateState = 1
        ∧ Answers s t x O.imgVerify (.num 1) .ok [.boot] [O.updateState]))
  ∧ (∀ (x : Xfer) (data : Bytes) (s : State), Accepts s x O.imgData (.bytes data) →
    ∃ t, exec (.imgData x data) s = .next t ∧
      if s.boot.update.isSome = true then t.boot = s.boot ∧ Answers s t x O.imgData (.bytes data) .locked [] []
      else if slotSize < s.nat O.imgOffset + data.length then t.boot = s.boot ∧ Answers s t x O.imgData (.bytes data) .valueRange [] []
      else t.boot = { s.boot with update := some (.program (s.nat O.imgOffset) data) } ∧ t.obj O.updateState = 1
        ∧ t.obj O.updateReason = Reason.imageFormat.code
        ∧ Answers s t x O.imgData (.bytes data) .ok [.boot]
            [O.updateState, O.updateReason, versionKey (hostSlot s)])
  ∧ (∀ (u : Update) (s : State), s.boot.update = some u →
    ∃ t, exec .updateOperationComplete s = .next t ∧ t.boot.update = none ∧ t.obj O.updateState = 0
      ∧ (t.boot.flash.slot (hostSlot s) = match u with
          | .erase => []
          | .program o b => programBytes (s.boot.flash.slot (hostSlot s)) o b
          | .verify => s.boot.flash.slot (hostSlot s))
      ∧ (∀ k < 2, hostSlot s < 2 → k ≠ hostSlot s → t.boot.flash.slot k = s.boot.flash.slot k)
      ∧ (s.boot.slot < 2 → hostSlot s < 2 ∧ hostSlot s ≠ s.boot.slot)
      ∧ t.obj O.updateReason = (if u = .verify then ((judgeImage s (s.boot.flash.slot (hostSlot s))).code : Int) else s.obj O.updateReason)
      ∧ (t.obj O.imgOffset = match u with
          | .program _ b => (s.nat O.imgOffset + b.length : Nat)
          | _ => s.obj O.imgOffset)
      ∧ Leaves s t [.boot, .dict] [O.updateState, O.updateReason, O.trialState, versionKey (hostSlot s), O.imgOffset, O.changeCount])
  ∧ (∀ (x : Xfer) (s : State), Accepts s x O.imgActivate (.num 1) →
    ∃ t, exec (.imgActivate x) s = .next t ∧
      if updateReasonOf s = .ok
      then t.boot.flash.control.trial = 1 ∧ t.boot.flash.control.preferred = s.boot.flash.control.preferred ∧ t.obj O.trialState = 1
        ∧ t.boot = { s.boot with flash := t.boot.flash } ∧ Answers s t x O.imgActivate (.num 1) .ok [.boot] [O.trialState]
      else t.boot = s.boot ∧ Answers s t x O.imgActivate (.num 1) (updateReasonOf s) [] [])
  ∧ (∀ (x : Xfer) (s : State), Accepts s x O.imgConfirm (.num 1) → s.boot.slot < 2 →
    ∃ t, exec (.imgConfirm x) s = .next t ∧ Answers s t x O.imgConfirm (.num 1) .ok [.boot] [O.trialState] ∧
      if s.boot.flash.control.trial = 2
      then t.boot.flash.control.preferred = s.boot.slot ∧ t.boot.flash.control.trial = 0 ∧ t.obj O.trialState = 0
      else t.boot = s.boot ∧ t.obj O.trialState = s.obj O.trialState)
  ∧ (∀ (x : Xfer) (s : State), Accepts s x O.rollbackCommit (.num 1) →
    ∃ t, exec (.rollbackCommit x) s = .next t ∧
      if s.obj O.trialState = 2 ∨ s.boot.burning = true then t.boot = s.boot ∧ Answers s t x O.rollbackCommit (.num 1) .locked [] []
      else t.boot = { s.boot with burning := true } ∧ t.obj O.rollbackState = 1
        ∧ Answers s t x O.rollbackCommit (.num 1) .ok [.boot] [O.rollbackState])
  ∧ (∀ (i : SiteImage) (s : State), s.boot.burning = true → s.boot.image = some i →
    ∃ t, exec .rollbackBurnComplete s = .next t ∧ t.boot = { s.boot with burning := false } ∧ t.obj O.rollbackState = 0
      ∧ t.obj O.rollbackCount = (max (s.nat O.rollbackCount) i.security : Nat)
      ∧ t.obj O.fwRollbackCount = (max (s.nat O.fwRollbackCount) i.fwSecurity : Nat)
      ∧ Leaves s t [.boot, .dict] [O.rollbackState, O.rollbackCount, O.fwRollbackCount])
  ∧ (∀ (x : Xfer) (s : State), Accepts s x O.attestRequest (.num 1) →
    ∃ t, exec (.attestRequest x) s = .next t ∧
      if needsTree s = true ∧ 256 ≤ s.nat O.topUsed
      then t.boot = s.boot ∧ Answers s t x O.attestRequest (.num 1) .leavesExhausted [] []
      else t.boot = { s.boot with signing := true } ∧ t.blob O.attestReport = []
        ∧ Answers s t x O.attestRequest (.num 1) .ok [.blobs, .boot] [])
  ∧ (∀ s : State, s.boot.signing = true →
    ∃ t, exec .attestReportReady s = .next t ∧ t.boot.signing = false ∧ (t.blob O.attestReport).length = 160 + hssLength
      ∧ (if needsTree s = true then t.boot.leaf = 1 ∧ t.obj O.topUsed = (s.nat O.topUsed + 1 : Nat)
         else t.boot.leaf = s.boot.leaf + 1 ∧ t.obj O.topUsed = s.obj O.topUsed)
      ∧ Leaves s t [.blobs, .boot, .dict] [O.topUsed])
  ∧ (∀ (x : Xfer) (hash : Bytes) (s : State), Accepts s x O.ownerProgram (.bytes hash) →
    ∃ t, exec (.ownerProgram x hash) s = .next t ∧
      if s.obj O.debugPolicy = 1 ∨ (s.blob O.ownerKeyHash).all (· == 0) = false
      then t.blob O.ownerKeyHash = s.blob O.ownerKeyHash ∧ Answers s t x O.ownerProgram (.bytes hash) .locked [] []
      else t.blob O.ownerKeyHash = hash ∧ (s.obj O.debugPolicy = 0 → t.obj O.debugPolicy = 1 ∧ t.obj O.debugGrants = 0)
        ∧ (s.obj O.debugPolicy ≠ 0 → t.obj O.debugPolicy = s.obj O.debugPolicy)
        ∧ Answers s t x O.ownerProgram (.bytes hash) .ok [.blobs] [O.debugPolicy, O.debugGrants])
  ∧ (∀ (x : Xfer) (data : Bytes) (s : State), Accepts s x O.debugToken (.bytes data) →
    ∃ t, exec (.debugToken x data) s = .next t ∧
      if s.obj O.debugPolicy = 2 ∨ tokenOk s data = false
      then t.obj O.debugGrants = s.obj O.debugGrants ∧ Answers s t x O.debugToken (.bytes data) .debugDenied [] []
      else t.obj O.debugGrants = (if s.obj O.debugPolicy = 1 then (bytesAt data 52 1 : Int) else s.obj O.debugGrants)
        ∧ Answers s t x O.debugToken (.bytes data) .ok [.blobs, .freeCtr] [O.debugGrants])
  ∧ (∀ (x : Xfer) (s : State), Accepts s x O.debugClose (.num 1) →
    ∃ t, exec (.debugClose x) s = .next t ∧ t.obj O.debugPolicy = 2 ∧ t.obj O.debugGrants = 0
      ∧ Answers s t x O.debugClose (.num 1) .ok [] [O.debugPolicy, O.debugGrants])
  ∧ (∀ s : State, (∃ t, exec .jtagBypass s = .next t
        ∧ t = { s with boot := { s.boot with jtag := { s.boot.jtag with inst := 0, dr := 0, drives := none } } })
      ∧ (∃ t, exec .idcode s = .next t
        ∧ t = { s with boot := { s.boot with jtag := { s.boot.jtag with inst := 1, dr := s.nat O.jtagIdcode, drives := none } } })
      ∧ ∀ cells, (∃ t, exec (.samplePreload cells) s = .next t ∧ t.boot.jtag.inst = 2 ∧ t.boot.jtag.preload = cells
            ∧ t.boot.jtag.drives = none ∧ Leaves s t [.boot, .freeCtr] [])
          ∧ (if bitOf (s.nat O.debugGrants) 1 = true ∧ s.noCarrier = true
             then ∃ t, exec (.extest cells) s = .next t ∧ t.boot.jtag.inst = 3 ∧ t.boot.jtag.drives = some cells
               ∧ Leaves s t [.boot, .freeCtr] []
             else exec (.extest cells) s = .next s)
          ∧ if 100 ≤ cells
             then ∃ t, exec (.jtagReset cells) s = .next t ∧ t = { s with boot := { s.boot with jtag := ⟨1, s.nat O.jtagIdcode, 0, none⟩ } }
             else exec (.jtagReset cells) s = .next s)

/-! ## The part as a whole -/

/-- A step runs the command at the front of the queue on the state with the queue's rest, and with no command waiting one tick of the 156.25 MHz
clock passes (01 R12). That commands wait in a queue, and that a tick passes only when none does, is the model's choice (log entries 2
and 8). -/
def Obligations.StepRunsFront : Prop :=
  (∀ (c : Instr) (rest : List Instr) (s : State), step { s with pending := c :: rest } = exec c { s with pending := rest })
  ∧ (∀ s : State, s.pending = [] → ∃ t, step s = .next t ∧ t.clock.ticks = s.clock.ticks + 1
      ∧ t.clock.count = s.clock.count + incrOf s.steered ∧ Leaves s t timeParts [])

/-- The part in power-on reset, before its supplies are in range, as 19 R603 and 20 R632 leave it: no session, no time, nothing in progress, and every
object at its factory value, which the canonical form says by listing nothing. The values for which the spec gives none are the model's
(log entries 3, 5, 6 and 38). -/
def Obligations.ResetState : Prop :=
  Canonical State.reset ∧ State.reset.pending = [] ∧ (∀ k, State.reset.obj k = factory k) ∧ (∀ k, State.reset.blob k = blobFactory k)
    ∧ (∀ a, memByte State.reset.mem a = 0) ∧ State.reset.obj O.bootState = 0 ∧ State.reset.obj O.sessionState = 0
    ∧ State.reset.obj O.timeValid = 0 ∧ State.reset.obj O.coldResets = 0 ∧ State.reset.obj O.watchState = 0
    ∧ (∀ n < 64, State.reset.obj (O.carrierEnable n) = 0) ∧ (∀ p < 24, State.reset.obj (O.portEnable p) = 0)
    ∧ State.reset.ready = false ∧ State.reset.noCarrier = true

/-- From every state in canonical form, whether or not a run reaches it, a step leaves the canonical form: memory and the two tables of the
dictionary stay sorted by address or number with nothing listed that reads as it would unlisted, so that equal contents are equal data; and
no UE context, weight-bank entry, leaky bucket or arbiter comes to be held twice (05 R157; 06 R217; 08 R288; 14 R478; 15 R493, R518). That an
unlisted byte reads 0 is log entry 6. -/
def Obligations.StepKeepsCanonical : Prop := ∀ s t : State, Canonical s → step s = .next t → Canonical t

/-- Every well-formed command completes in every state; no command is ever refused; the one fault is of a command that names a unit
the part does not have; and no command adds to or takes from the queue (00 R1; log entry 2). -/
def Obligations.CommandsComplete : Prop :=
  (∀ (i : Instr) (s : State), i.wf = true → Completes (exec i s))
  ∧ (∀ (i : Instr) (s : State) (r : Refusal), exec i s ≠ .refused r)
  ∧ (∀ (i : Instr) (s : State) (f : Fault), exec i s = .fault f → f = .noSuchUnit ∧ i.wf = false)
  ∧ (∀ (i : Instr) (s t : State), exec i s = .next t → t.pending = s.pending)

/-! ## Commands that complete in every state -/

/-- The commands of time, of courses and of the link complete in every state, and each does nothing, or discards what it brings, where its
conditions do not hold: a time of day, a PTP message, a SyncE output's resumption, transport-block data, a course's binding, entry into the air and
egress, sideband and mainband messages, an INDICATION, RESUME in its three modes, the end of a transfer's segments, a deferred check, and a read
of the enable log (01 R32 to R34, R53 to R59; 03 R107, R112; 04 R115, R121, R125, R128, R131, R142 to R148; 05 R169 to R171, R177). -/
def Obligations.TimeAndLinkForms : Prop :=
  (∀ (dt : Nat) (frame : Bytes) (s : State), ∃ t, exec (.todFrameRx dt frame) s = .next t
    ∧ (todOf (advance s dt) frame = none → t = advance s dt)
    ∧ (∀ second off locked, todOf (advance s dt) frame = some (second, off, locked) → s.obj O.todLabel = 1 →
        ⟨t.clock.count, second, off, locked⟩ ∈ t.time.gnss.held ∧ SameBut s t timeParts)
    ∧ Leaves s t (.dict :: timeParts) [O.utcOffset, O.changeCount])
  ∧ (∀ (dt p : Nat) (h : PtpHead) (m : PtpMsg) (s : State), p < 24 → ∃ t, exec (.ptpMessageRx dt p h m) s = .next t
    ∧ (ptpRuns s p = false ∨ ptpHeard s h = false → t = advance s dt)
    ∧ (∀ id origin corr, m = .sync id origin corr false → ptpRuns s p = true → ptpHeard s h = true → ptpState (advance s dt) p = 9 →
        ((advance s dt).ptpPort p).hears h.sender = true →
        (t.ptpPort p).syncDiff = some (psOf ((advance s dt).clock.count - countOfPs (ptpCorrection s p).2) - origin - corr)))
  ∧ (∀ (p : Nat) (via : PtpOver) (m : PtpTx) (s : State), p < 24 →
    ∃ t, exec (.ptpMessageTx p ⟨via, m⟩) s = .next t ∧ (ptpRuns s p = false ∨ viaFits s via = false → t = s)
    ∧ (m = .announce → ptpRuns s p = true → viaFits s via = true → ∀ r, ptpRate s p via m = some r →
        ptpState (advanceTicks s (ptpDue s p via m r)) p = 6 →
        ptpSourced (advanceTicks s (ptpDue s p via m r)) = true → Counted s t (O.txFrames p) 1))
  ∧ (∀ (out : Nat) (s : State), out < 2 → ∃ t, exec (.synceOutputResume out) s = .next t ∧
    match Store.find s.time.laneLock (synceLane s out) with
    | some locked => bitOf (t.nat O.squelched) out = false ∧ locked + 156250000 ≤ t.clock.ticks
    | none => t = s)
  ∧ (∀ (h : CourseHdr) (handle offset : Nat) (data : Bytes) (s : State), ∃ t, exec (.dlTbData h handle offset data) s = .next t
    ∧ (h.chan = 0 ∨ 64 < h.chan ∨ h.length ≠ 64 + pad8 data.length ∨ 65600 < h.length ∨ s.obj O.sessionState = 0 →
        Counted s t O.formatErrors 1 ∧ t.link.sent = s.link.sent)
    ∧ (∀ r, 1 ≤ h.chan → h.chan ≤ 64 → h.length = 64 + pad8 data.length → h.length ≤ 65600 → s.obj O.sessionState = 1 →
        (s.chan h.chan).takeover = false → (s.chan h.chan).req = some r → r.hdr.chan = h.chan → belongs h offset data.length r = true →
        r.got + data.length ≠ r.tbBytes → (t.chan h.chan).req = some
          { r with got := r.got + data.length, data := r.data ++ [(handle, data)], cost := r.cost + creditsOf h.length }))
  ∧ (∀ (chan course : Nat) (s : State), (∃ t, exec (.courseAutoBind chan course) s = .next t ∧
      match s.course (courseKey chan course) with
      | some c => if c.state = .opened then t.course (courseKey chan course) = some { c with state := .bound, hostBound := false } else t = s
      | none => t = s)
    ∧ (∃ t, exec (.courseInAir chan course) s = .next t ∧
      match s.course (courseKey chan course) with
      | some c => if c.state = .bound then t.course (courseKey chan course) = some { c with state := .inAir } else t = s
      | none => t = s)
    ∧ ∃ t, exec (.courseEgressComplete chan course) s = .next t ∧
      match s.course (courseKey chan course) with
      | some c => if c.state = .inAir then (t.course (courseKey chan course)).map (·.state) = some .finishing else t = s
      | none => t = s)
  ∧ (∀ (dt m vendor code : Nat) (data : Bytes) (s : State), m < 2 → ∃ t, exec (.sidebandMessageRx dt m vendor code data) s = .next t ∧
    if vendor ≠ s.nat O.sbVendorId ∨ code ≠ 0 then Counted s t O.formatErrors 1
    else delimits (bytesAt (s.link.side m ++ data) 4 4) = true → (s.link.side m ++ data).length < bytesAt (s.link.side m ++ data) 4 4 →
      t.link.side m = s.link.side m ++ data)
  ∧ (∀ (dt m : Nat) (units : Bytes) (s : State), m < 2 → ∃ t, exec (.malformedMessageRx dt m units) s = .next t ∧
    if (s.link.mod m).up = true
    then s.link.stream m = ⟨[], false⟩ → units.length = 32 → isFill units = false → delimits (bytesAt units 4 4) = false →
      Counted s t O.formatErrors 1
    else t = advance s dt)
  ∧ (∀ s : State, ∃ t, exec .indicationSend s = .next t ∧
    match s.link.waiting with
    | [] => t = s
    | i :: rest => if (s.link.m0.up || s.link.m1.up) = true
      then t.link.waiting = rest ∧ t.link.sent = s.link.sent ++ [.indication s.link.indSeq i] else t = s)
  ∧ (∀ (dt seq hostId : Nat) (credits : List Nat) (entries : List ResumeEntry) (s : State), s.ready = true →
    (∃ t, exec (.resumeOpen dt seq hostId credits) s = .next t
      ∧ (hostId = 0 → ∃ r, t.link.sent = s.link.sent ++ [.resumeReply r] ∧ r.seq = seq ∧ r.reason = .valueRange)
      ∧ (hostId ≠ 0 → s.obj O.sessionState = 0 → t.obj O.sessionState = 1 ∧ t.link.holder = hostId))
    ∧ (∃ t, exec (.resumeModeResume dt seq hostId entries) s = .next t
      ∧ (hostId ≠ 0 → s.obj O.sessionState = 0 → ∃ r, t.link.sent = s.link.sent ++ [.resumeReply r] ∧ r.seq = seq ∧ r.reason = .noSession)
      ∧ (hostId ≠ 0 → s.obj O.sessionState ≠ 0 → hostId = s.link.holder → firstMisfit entries s = none → t.obj O.sessionState = 1))
    ∧ ∀ mode, ∃ t, exec (.resumeClose dt seq mode hostId) s = .next t
      ∧ (2 < mode → ∃ r, t.link.sent = s.link.sent ++ [.resumeReply r] ∧ r.seq = seq ∧ r.reason = .valueRange)
      ∧ (mode = 2 → hostId ≠ 0 → s.obj O.sessionState ≠ 0 → hostId = s.link.holder → t.obj O.sessionState = 0 ∧ t.link.holder = 0))
  ∧ (∀ (read : Bool) (s : State), ∃ t, exec (.segmentTimeout read) s = .next t ∧
    match (if read = true then s.svc.latch.map (·.last) else s.svc.buffer.map (·.last)) with
    | none => t = s
    | some last => (if read = true then t.svc.latch = none else t.svc.buffer = none) ∧ last + segTicks s ≤ t.clock.ticks)
  ∧ (∀ (index sub : Nat) (s : State), s.svc.held = [] → ∃ t, exec (.enableDeferredCheck index sub) s = .next t
    ∧ (keyOf index sub ∉ s.svc.due → t = s)
    ∧ (keyOf index sub = O.nlEnable → O.nlEnable ∈ s.svc.due → s.obj O.bootState ≠ 5 →
        t.obj O.nlEnable = (if nlCheck s = .ok then 1 else 0) ∧ O.nlEnable ∉ t.svc.due))
  ∧ (∀ (x : Xfer) (s : State), s.ready = true → ∃ t d, exec (.readEnableLog x) s = .next t ∧ t.svc.log = s.svc.log.drop 1
    ∧ t.link.sent = s.link.sent ++ [.dictReply d] ∧ d.seq = x.seq ∧ d.reason = .ok ∧ d.data = s.svc.log.headD [])

/-- The commands of frames, of filter banks and transmit windows, of tasks, of fused jobs, of UE contexts, of weight banks, and of rings and
arbiters complete in every state, and each does nothing, or is refused in its reply, where its conditions do not hold (06 R217, R219; 08 R287 to R291;
09 R304, R315, R322; 10 R341, R343, R348 to R351; 11 R395 to R397; 12 R413 to R420; 14 R463, R478 to R490). -/
def Obligations.AirAndTileForms : Prop :=
  (∀ (dt p : Nat) (f : Frame) (s : State), p < 24 → ∃ t, exec (.frameRx dt p f) s = .next t
    ∧ (s.linkUp p = false → t = advance s dt)
    ∧ (s.linkUp p = true → (s.port p).first = true → f.fcsOk = true → f.macControl = true →
        Counted s t (O.rxFrames p) 1 ∧ Counted s t (O.rxMalformed p) 1))
  ∧ (∀ (dt p : Nat) (m : IqMsg) (s : State), p < 24 → ∃ t, exec (.uplaneMessageRx dt p m) s = .next t
    ∧ (s.linkUp p = false → t = advance s dt)
    ∧ (s.linkUp p = true → m.eBit = true → m.subseq = 0 → listens s = false →
        ∀ n, carrierOf s p m.eaxc = some n → s.obj (O.fhDomain n) ≠ 1 →
          Store.find t.fh.rxSeq (n * 2 ^ 16 + m.eaxc) = some ((m.seq + 1) % 256)))
  ∧ (∀ (x : Xfer) (data : Bytes) (s : State), Accepts s x O.fwdRules (.bytes data) → ∃ t, exec (.writeFwdRules x data) s = .next t ∧
    if data.length % 24 ≠ 0 then Answers s t x O.fwdRules (.bytes data) .typeLength [] []
    else if (List.range (data.length / 24)).all (fun i => ruleFields ((data.drop (24 * i)).take 24)) = false
    then Answers s t x O.fwdRules (.bytes data) .valueRange [] []
    else if (List.range (data.length / 24)).any (fun i => decide (bytesAt ((data.drop (24 * i)).take 24) 0 1 < 24)
        && bitOf (bytesAt ((data.drop (24 * i)).take 24) 20 4) (bytesAt ((data.drop (24 * i)).take 24) 0 1)) = true
    then Answers s t x O.fwdRules (.bytes data) .forwardingLoop [] []
    else t.blob O.fwdRules = data ∧ Answers s t x O.fwdRules (.bytes data) .ok [.blobs] [O.changeCount])
  ∧ (∀ (x : Xfer) (c : Nat) (p : Path) (data : Bytes) (s : State), c < 128 →
    (Accepts s x (tapsKey c p) (.bytes data) → ∃ t, exec (.writeTaps x c p data) s = .next t ∧
      if data.length % 4 ≠ 0 then Answers s t x (tapsKey c p) (.bytes data) .typeLength [] []
      else if tapsValid s c data = true ∧ (s.obj (O.dfeUser c) = 0xFF ∨ tapCount data = tapCount ((s.chain c).path p).front)
      then Answers s t x (tapsKey c p) (.bytes data) .ok [.blobs, .dfe] [O.changeCount]
      else Answers s t x (tapsKey c p) (.bytes data) .badCoefficients [] [])
    ∧ (Accepts s x (commitKey c p) (.num 1) → ∃ t, exec (.commitTaps x c p) s = .next t
        ∧ (((s.chain c).path p).busy = false → ((s.chain c).path p).back = .opened → s.obj (O.dfeUser c) = 0xFF →
            ((t.chain c).path p).front = s.blob (tapsKey c p)))
    ∧ ∀ ok, ∃ t, exec (.coefCrcCheck c p ok) s = .next t
        ∧ (ok = true → ((t.chain c).path p).bad = (crc32 ((s.chain c).path p).front != ((s.chain c).path p).crc))
        ∧ (ok = false → ((t.chain c).path p).fails = true))
  ∧ (∀ (n : Nat) (s : State), n < 64 →
    (∃ t, exec (.txWindowOpen n) s = .next t ∧ (s.obj (O.carrierEnable n) = 0 → t = s)
      ∧ (s.obj (O.carrierEnable n) = 1 → s.airRunning = true → s.obj (O.duplex n) = 0 → gapMutes s n s.airNow = false →
          t.obj (O.txwOpen n) = 1 ∧ Leaves s t [.dict] [O.txwOpen n]))
    ∧ ∃ t, exec (.txWindowClose n) s = .next t ∧ (s.obj (O.txwOpen n) ≠ 1 → t = s)
      ∧ (∀ q, s.obj (O.txwOpen n) = 1 → s.obj (O.duplex n) ≠ 0 → nextClosing s n (Store.at 0 s.dfe.opened n + 1) = some q →
          t.obj (O.txwOpen n) = 0 ∧ t.clock = (advanceToAir s (s.symbolAir n q)).clock))
  ∧ (∀ (g : Nat) (active : Bool) (s : State), g < 16 → ∃ t, exec (.txgateEdge g active) s = .next t
    ∧ (64 ≤ s.nat (O.txgCarrier g) ∨ s.obj (O.carrierEnable (s.nat (O.txgCarrier g))) = 0 → t.obj (O.txgLevel g) = 0))
  ∧ (∀ (t : Nat) (s : State), t < 200 →
    (∃ s', exec (.taskStart t) s = .next s' ∧
      match startable s t with
      | some (tag, o) => ∃ c, Store.find s'.tiles t = some c ∧ c.tag = tag ∧ c.gen = o.gen
      | none => s' = s)
    ∧ (∃ s', exec (.taskEndReport t) s = .next s' ∧
      match Store.find s.tiles t with
      | some c => (c.ended = none → s' = s) ∧ (c.ended ≠ none → (∀ j ∈ c.jobs, j.2.settled = true) → Store.find s'.tiles t = none)
      | none => s' = s)
    ∧ ∃ s', exec (.tileCancel t) s = .next s' ∧
      match Store.find s.tiles t with
      | some c => c.ended = none → (∀ o, s.op c.tag = some o → o.cancel = true) →
          ∃ c', Store.find s'.tiles t = some c' ∧ c'.ended = some .cancelled ∧ c'.staged = []
      | none => s' = s)
  ∧ (∀ (t gd ga cls : Nat) (sizes : List Nat) (s : State) (c : Ctx), OnSlot s t c → cls < 4 → gd < 32 → ga < 32 →
    ∃ s', exec (.fuse t gd ga cls sizes) s = .next s' ∧
      match judgeFuse s t c (gReg c ga).toNat cls sizes with
      | .ok (_, slot) => cls ≠ 0 → ∃ c' j, SlotBecomes s s' t c' ∧ Store.find c'.jobs slot = some j ∧ j.cls = cls ∧ j.settled = false
          ∧ c'.pc = c.pc + 4
      | .error e => e.code = 12 → Counted s s' O.fusedRefused 1)
  ∧ (∀ (t slot : Nat) (result : Bytes) (outputs : List (Nat × Bytes)) (s : State), t < 200 →
    (∃ s', exec (.fusedJobSend t slot) s = .next s' ∧
      match (Store.find s.tiles t).bind fun c => Store.find c.jobs slot with
      | some j => if j.sent = true ∨ j.settled = true then s' = s else Counted s s' O.fusedIssued 1
      | none => s' = s)
    ∧ ∃ s', exec (.fusedPublication t slot result outputs) s = .next s' ∧
      match (Store.find s.tiles t).bind fun c => Store.find c.jobs slot with
      | some j => if j.sent = true ∧ j.settled = false ∧ j.cancel = false ∧ jobEnded j = true then Counted s s' O.fusedPublished 1 else s' = s
      | none => s' = s)
  ∧ (∀ (x : Xfer) (s : State),
    (∀ data, Accepts s x O.ueContext (.bytes data) → ∃ t, exec (.writeUeContext x data) s = .next t
      ∧ (s.nat O.ueIndex < s.nat O.ueCtxLimit → (t.ue (s.nat O.ueIndex)).state = 1 ∧ (t.ue (s.nat O.ueIndex)).host = data)
      ∧ (s.nat O.ueCtxLimit ≤ s.nat O.ueIndex → t.pipe = s.pipe))
    ∧ (∀ i : Nat, Accepts s x O.ueRelease (.num i) → ∃ t, exec (.writeUeRelease x i) s = .next t
      ∧ ((s.ue i).state ≠ 1 → t.pipe = s.pipe)
      ∧ ((s.ue i).state = 1 → s.pipe.courses.any (fun c => c.2.live && c.2.pins.contains i) = true → (t.ue i).state = 2))
    ∧ (Accepts s x O.wbDefine (.num 1) → ∃ t, exec (.wbDefine x) s = .next t
      ∧ (64 ≤ s.nat O.wbOwner → t.wb = s.wb)
      ∧ (∀ e, Store.find t.wb (s.nat O.wbIndex) = some e → t.wb ≠ s.wb →
          e.owner = s.nat O.wbOwner ∧ e.ports = s.nat O.wbPorts ∧ e.layers = s.nat O.wbLayers ∧ e.subbands = s.nat O.wbSubbands
            ∧ e.back = .opened ∧ e.deleting = false))
    ∧ (Accepts s x O.wbDefine (.num 0) → ∃ t, exec (.wbDelete x) s = .next t
      ∧ (∀ e, s.wbSel = some e → s.pipe.courses.any (fun c => c.2.live && c.2.entries.contains (s.nat O.wbIndex)) = true →
          (t.wbSel).map (·.deleting) = some true))
    ∧ (∀ data, Accepts s x O.wbWeights (.bytes data) → ∃ t, exec (.writeWbWeights x data) s = .next t
      ∧ (s.wbSel = none → t.wb = s.wb ∧ Replied s t x O.wbWeights (.bytes data) .noObject))
    ∧ (Accepts s x O.wbCommit (.num 1) → ∃ t, exec (.wbCommit x) s = .next t
      ∧ (s.wbSel = none → t.wb = s.wb ∧ Replied s t x O.wbCommit (.num 1) .noObject)
      ∧ (∀ e, s.wbSel = some e → e.deleting = false → e.back = .opened → (t.wbSel).map (·.back) = some .committed))
    ∧ (∀ i, ∃ t, exec (.wbCopyComplete i) s = .next t
      ∧ (∀ e, Store.find s.wb i = some e → e.back ≠ .copying → t = s)))
  ∧ (∀ (ring stop flits : Nat) (lock : Bool) (s : State), ring < 8 → stop < 48 →
    (∃ t, exec (.ringLinkFault ring stop lock) s = .next t ∧ (s.obj (O.ringState ring) = 0 → t.obj (O.ringState ring) = 1)
      ∧ (∀ r, r < 8 → r ≠ ring → t.obj (O.ringState r) = s.obj (O.ringState r)))
    ∧ (∃ t, exec (.foldNoticeRx ring stop flits) s = .next t ∧ t.obj (O.ringState ring) = s.obj (O.ringState ring)
      ∧ (s.obj (O.ringState ring) ≠ 1 → t = s))
    ∧ (∃ t, exec (.reverseHoldExpiry ring) s = .next t
      ∧ (s.obj (O.ringState ring) = 1 → t.obj (O.ringState ring) = 2 ∨ t.obj (O.ringState ring) = 3)
      ∧ (s.obj (O.ringState ring) ≠ 1 → t = s))
    ∧ (∃ t, exec (.ringRestore ring) s = .next t
      ∧ (s.obj (O.ringState ring) = 2 → t.obj (O.ringState ring) = 0 ∧ t.obj (O.faultStop ring) = 0xFF)
      ∧ (s.obj (O.ringState ring) = 3 → t.obj (O.ringState ring) = 2) ∧ (s.obj (O.ringState ring) = 0 → t = s))
    ∧ (∃ t, exec (.linkReplay ring) s = .next t ∧ t.obj (O.linkReplays ring) = ((s.nat (O.linkReplays ring) + 1) % counterTop (O.linkReplays ring) : Nat))
    ∧ ∃ t, exec (.jointPathFault ring stop) s = .next t
      ∧ (2 ≤ Store.at 0 s.mortar.joints (ring * 48 + stop) → t = s) ∧ t.obj (O.ringState ring) = s.obj (O.ringState ring))
  ∧ (∀ (mc : Bool) (s : State),
    (∀ (x : Xfer) (data : Bytes), Accepts s x (if mc = true then O.mcArbTable else O.arbTable) (.bytes data) →
      ∃ t, exec (.writeArbTable x mc data) s = .next t
        ∧ (∀ k, k ∉ selectedArbs mc s → t.arb mc k = s.arb mc k) ∧ ∀ k, (t.arb mc k).front = (s.arb mc k).front)
    ∧ (∀ x : Xfer, Accepts s x (if mc = true then O.mcArbCommit else O.arbCommit) (.num 1) →
      ∃ t, exec (.arbCommit x mc) s = .next t ∧ (∀ k, k ∉ selectedArbs mc s → t.arb mc k = s.arb mc k)
        ∧ ((advance s x.dt).airRunning = true → ∀ k ∈ selectedArbs mc s, (t.arb mc k).committed = true))
    ∧ (∃ t, exec (.arbSwapDecision mc) s = .next t ∧ (s.airRunning = false → t = s)
        ∧ ∀ k, (t.arb mc k).front = (s.arb mc k).front ∧ (t.arb mc k).back = (s.arb mc k).back)
    ∧ (∃ t, exec (.arbSwap mc) s = .next t
        ∧ ((∀ a ∈ (if mc = true then s.mortar.mc else s.mortar.arbs), a.2.next = none) → t = s))
    ∧ ∃ t, exec .arbPhaseAlign s = .next t
        ∧ (if s.airRunning = true then t.mortar.phase = s.nat O.arbPhaseOffset ∧ t.mortar.mcPhase = s.nat O.mcArbPhaseOffset else t = s))
end

