-- ==== Sys2Proof/Laws/Store.lean ====
section
/-! SUPPORT. Laws of sparse tables: what a key reads after an update, and that the canonical form is kept. -/

namespace Sys2Proof.Machine

theorem Store.find_put_same {α : Type} (m : Store α) (k : Nat) (v : α) : Store.find (Store.put m k v) k = some v := by
  induction m with
  | nil => simp [Store.put, Store.find]
  | cons e t ih =>
    obtain ⟨a, x⟩ := e
    simp only [Store.put]
    split
    · simp [Store.find]
    · split
      · simp [Store.find]
      · rename_i h1 h2
        simp only [Store.find]
        rw [if_neg (fun h => h2 h.symm), ih]

theorem Store.find_put_ne {α : Type} (m : Store α) (k j : Nat) (v : α) (h : j ≠ k) :
    Store.find (Store.put m k v) j = Store.find m j := by
  induction m with
  | nil => simp [Store.put, Store.find, Ne.symm h]
  | cons e t ih =>
    obtain ⟨a, x⟩ := e
    simp only [Store.put]
    split
    · simp [Store.find, Ne.symm h]
    · split
      · rename_i h1 h2
        subst h2
        simp [Store.find, Ne.symm h]
      · simp only [Store.find]
        rw [ih]

theorem Store.find_drop_same {α : Type} (m : Store α) (k : Nat) : Store.find (Store.drop m k) k = none := by
  induction m with
  | nil => rfl
  | cons e t ih =>
    obtain ⟨a, x⟩ := e
    simp only [Store.drop, List.filter_cons] at ih ⊢
    split
    · rename_i h
      simp only [Store.find]
      rw [if_neg (by simpa using h), ih]
    · exact ih

theorem Store.find_drop_ne {α : Type} (m : Store α) (k j : Nat) (h : j ≠ k) :
    Store.find (Store.drop m k) j = Store.find m j := by
  induction m with
  | nil => rfl
  | cons e t ih =>
    obtain ⟨a, x⟩ := e
    simp only [Store.drop, List.filter_cons] at ih ⊢
    split
    · simp only [Store.find, ih]
    · rename_i h2
      have : a = k := by simpa using h2
      subst this
      simp only [Store.find]
      rw [if_neg (Ne.symm h), ih]

@[simp] theorem Store.at_put_same {α : Type} (d : α) (m : Store α) (k : Nat) (v : α) :
    Store.at d (Store.put m k v) k = v := by
  simp [Store.at, Store.find_put_same]

theorem Store.at_put_ne {α : Type} (d : α) (m : Store α) (k j : Nat) (v : α) (h : j ≠ k) :
    Store.at d (Store.put m k v) j = Store.at d m j := by
  simp [Store.at, Store.find_put_ne m k j v h]

@[simp] theorem Store.at_putD_same {α : Type} [DecidableEq α] (d : α) (m : Store α) (k : Nat) (v : α) :
    Store.at d (Store.putD d m k v) k = v := by
  unfold Store.putD
  split
  · rename_i h
    simp [Store.at, Store.find_drop_same, h]
  · simp

theorem Store.at_putD_ne {α : Type} [DecidableEq α] (d e : α) (m : Store α) (k j : Nat) (v : α) (h : j ≠ k) :
    Store.at e (Store.putD d m k v) j = Store.at e m j := by
  unfold Store.putD
  split
  · simp [Store.at, Store.find_drop_ne m k j h]
  · exact Store.at_put_ne e m k j v h

/-! ## The canonical form -/

/-- Strictly rising keys, each above a bound, as a proposition on the list. -/
theorem Store.rising_iff {α : Type} (m : Store α) : Store.rising m = true ↔ m.Pairwise fun a b => a.1 < b.1 := by
  induction m with
  | nil => simp [Store.rising]
  | cons e t ih =>
    obtain ⟨a, x⟩ := e
    cases t with
    | nil => simp [Store.rising]
    | cons f u =>
      obtain ⟨b, y⟩ := f
      simp only [Store.rising, Bool.and_eq_true, decide_eq_true_eq, ih, List.pairwise_cons]
      constructor
      · rintro ⟨hab, hb, hu⟩
        refine ⟨?_, hb, hu⟩
        intro c hc
        rcases List.mem_cons.mp hc with rfl | hc
        · exact hab
        · exact Nat.lt_trans hab (hb c hc)
      · rintro ⟨ha, hb, hu⟩
        exact ⟨ha _ List.mem_cons_self, hb, hu⟩

theorem Store.mem_put {α : Type} (m : Store α) (k : Nat) (v : α) (e : Nat × α) (h : e ∈ Store.put m k v) :
    e = (k, v) ∨ e ∈ m := by
  induction m with
  | nil => simp [Store.put] at h; exact .inl h
  | cons f t ih =>
    obtain ⟨a, x⟩ := f
    simp only [Store.put] at h
    split at h
    · rcases List.mem_cons.mp h with h | h
      · exact .inl h
      · exact .inr h
    · split at h
      · rcases List.mem_cons.mp h with h | h
        · exact .inl h
        · exact .inr (List.mem_cons_of_mem _ h)
      · rcases List.mem_cons.mp h with h | h
        · exact .inr (h ▸ List.mem_cons_self)
        · rcases ih h with h | h
          · exact .inl h
          · exact .inr (List.mem_cons_of_mem _ h)

theorem Store.rising_put {α : Type} (m : Store α) (k : Nat) (v : α) (h : Store.rising m = true) :
    Store.rising (Store.put m k v) = true := by
  rw [Store.rising_iff] at h ⊢
  induction m with
  | nil => simp [Store.put]
  | cons e t ih =>
    obtain ⟨a, x⟩ := e
    obtain ⟨ha, ht⟩ := List.pairwise_cons.mp h
    simp only [Store.put]
    split
    · rename_i hk
      refine List.pairwise_cons.mpr ⟨?_, h⟩
      intro c hc
      rcases List.mem_cons.mp hc with rfl | hc
      · exact hk
      · exact Nat.lt_trans hk (ha c hc)
    · split
      · rename_i hk
        subst hk
        exact List.pairwise_cons.mpr ⟨fun c hc => ha c hc, ht⟩
      · refine List.pairwise_cons.mpr ⟨?_, ih ht⟩
        intro c hc
        rcases Store.mem_put t k v c hc with rfl | hc
        · simp only; omega
        · exact ha c hc

theorem Store.rising_filter {α : Type} (m : Store α) (p : Nat × α → Bool) (h : Store.rising m = true) :
    Store.rising (m.filter p) = true := by
  rw [Store.rising_iff] at h ⊢
  exact h.filter p

/-- Replacing a key's value by one that is not its default keeps the canonical form. -/
theorem Store.wf_put {α : Type} [DecidableEq α] (d : Nat → α) (m : Store α) (k : Nat) (v : α) (hv : v ≠ d k)
    (h : Store.wf d m = true) : Store.wf d (Store.put m k v) = true := by
  simp only [Store.wf, Bool.and_eq_true, List.all_eq_true] at h ⊢
  refine ⟨Store.rising_put m k v h.1, fun e he => ?_⟩
  rcases Store.mem_put m k v e he with rfl | he
  · simpa using hv
  · exact h.2 e he

/-- A table without some of its entries keeps the canonical form. -/
theorem Store.wf_filter {α : Type} [DecidableEq α] (d : Nat → α) (m : Store α) (p : Nat × α → Bool)
    (h : Store.wf d m = true) : Store.wf d (m.filter p) = true := by
  simp only [Store.wf, Bool.and_eq_true, List.all_eq_true] at h ⊢
  exact ⟨Store.rising_filter m p h.1, fun e he => h.2 e (List.mem_filter.mp he).1⟩

/-- Writing a key keeps the canonical form. -/
theorem Store.wf_putD {α : Type} [DecidableEq α] (d : Nat → α) (m : Store α) (k : Nat) (v : α)
    (h : Store.wf d m = true) : Store.wf d (Store.putD (d k) m k v) = true := by
  unfold Store.putD
  split
  · exact Store.wf_filter d m _ h
  · rename_i hv
    exact Store.wf_put d m k v hv h

end Sys2Proof.Machine
end

