-- ==== Sys2Proof/Laws/State.lean ====
section
/-! SUPPORT. What the updates of the state that every family shares leave as it was, one lemma for each field, and what they set.
A record update of a field reads back by rfl, and each operation below touches the fields that its lemmas leave out. -/

namespace Sys2Proof.Machine

/-! ## State.setObj -/

@[simp] theorem State.setObj_blobs (s : State) (k : Nat) (v : Int) : (s.setObj k v).blobs = s.blobs := rfl
@[simp] theorem State.setObj_image (s : State) (k : Nat) (v : Int) : (s.setObj k v).image = s.image := rfl
@[simp] theorem State.setObj_imageBlobs (s : State) (k : Nat) (v : Int) : (s.setObj k v).imageBlobs = s.imageBlobs := rfl
@[simp] theorem State.setObj_clock (s : State) (k : Nat) (v : Int) : (s.setObj k v).clock = s.clock := rfl
@[simp] theorem State.setObj_time (s : State) (k : Nat) (v : Int) : (s.setObj k v).time = s.time := rfl
@[simp] theorem State.setObj_nl (s : State) (k : Nat) (v : Int) : (s.setObj k v).nl = s.nl := rfl
@[simp] theorem State.setObj_link (s : State) (k : Nat) (v : Int) : (s.setObj k v).link = s.link := rfl
@[simp] theorem State.setObj_svc (s : State) (k : Nat) (v : Int) : (s.setObj k v).svc = s.svc := rfl
@[simp] theorem State.setObj_pipe (s : State) (k : Nat) (v : Int) : (s.setObj k v).pipe = s.pipe := rfl
@[simp] theorem State.setObj_sched (s : State) (k : Nat) (v : Int) : (s.setObj k v).sched = s.sched := rfl
@[simp] theorem State.setObj_kiln (s : State) (k : Nat) (v : Int) : (s.setObj k v).kiln = s.kiln := rfl
@[simp] theorem State.setObj_wb (s : State) (k : Nat) (v : Int) : (s.setObj k v).wb = s.wb := rfl
@[simp] theorem State.setObj_units (s : State) (k : Nat) (v : Int) : (s.setObj k v).units = s.units := rfl
@[simp] theorem State.setObj_hod (s : State) (k : Nat) (v : Int) : (s.setObj k v).hod = s.hod := rfl
@[simp] theorem State.setObj_guard (s : State) (k : Nat) (v : Int) : (s.setObj k v).guard = s.guard := rfl
@[simp] theorem State.setObj_tiles (s : State) (k : Nat) (v : Int) : (s.setObj k v).tiles = s.tiles := rfl
@[simp] theorem State.setObj_bondWas (s : State) (k : Nat) (v : Int) : (s.setObj k v).bondWas = s.bondWas := rfl
@[simp] theorem State.setObj_mortar (s : State) (k : Nat) (v : Int) : (s.setObj k v).mortar = s.mortar := rfl
@[simp] theorem State.setObj_integ (s : State) (k : Nat) (v : Int) : (s.setObj k v).integ = s.integ := rfl
@[simp] theorem State.setObj_fh (s : State) (k : Nat) (v : Int) : (s.setObj k v).fh = s.fh := rfl
@[simp] theorem State.setObj_dfe (s : State) (k : Nat) (v : Int) : (s.setObj k v).dfe = s.dfe := rfl
@[simp] theorem State.setObj_mem (s : State) (k : Nat) (v : Int) : (s.setObj k v).mem = s.mem := rfl
@[simp] theorem State.setObj_power (s : State) (k : Nat) (v : Int) : (s.setObj k v).power = s.power := rfl
@[simp] theorem State.setObj_boot (s : State) (k : Nat) (v : Int) : (s.setObj k v).boot = s.boot := rfl
@[simp] theorem State.setObj_freeCtr (s : State) (k : Nat) (v : Int) : (s.setObj k v).freeCtr = s.freeCtr := rfl
@[simp] theorem State.setObj_pending (s : State) (k : Nat) (v : Int) : (s.setObj k v).pending = s.pending := rfl

/-! ## State.setBlob -/

@[simp] theorem State.setBlob_dict (s : State) (k : Nat) (v : Bytes) : (s.setBlob k v).dict = s.dict := rfl
@[simp] theorem State.setBlob_image (s : State) (k : Nat) (v : Bytes) : (s.setBlob k v).image = s.image := rfl
@[simp] theorem State.setBlob_imageBlobs (s : State) (k : Nat) (v : Bytes) : (s.setBlob k v).imageBlobs = s.imageBlobs := rfl
@[simp] theorem State.setBlob_clock (s : State) (k : Nat) (v : Bytes) : (s.setBlob k v).clock = s.clock := rfl
@[simp] theorem State.setBlob_time (s : State) (k : Nat) (v : Bytes) : (s.setBlob k v).time = s.time := rfl
@[simp] theorem State.setBlob_nl (s : State) (k : Nat) (v : Bytes) : (s.setBlob k v).nl = s.nl := rfl
@[simp] theorem State.setBlob_link (s : State) (k : Nat) (v : Bytes) : (s.setBlob k v).link = s.link := rfl
@[simp] theorem State.setBlob_svc (s : State) (k : Nat) (v : Bytes) : (s.setBlob k v).svc = s.svc := rfl
@[simp] theorem State.setBlob_pipe (s : State) (k : Nat) (v : Bytes) : (s.setBlob k v).pipe = s.pipe := rfl
@[simp] theorem State.setBlob_sched (s : State) (k : Nat) (v : Bytes) : (s.setBlob k v).sched = s.sched := rfl
@[simp] theorem State.setBlob_kiln (s : State) (k : Nat) (v : Bytes) : (s.setBlob k v).kiln = s.kiln := rfl
@[simp] theorem State.setBlob_wb (s : State) (k : Nat) (v : Bytes) : (s.setBlob k v).wb = s.wb := rfl
@[simp] theorem State.setBlob_units (s : State) (k : Nat) (v : Bytes) : (s.setBlob k v).units = s.units := rfl
@[simp] theorem State.setBlob_hod (s : State) (k : Nat) (v : Bytes) : (s.setBlob k v).hod = s.hod := rfl
@[simp] theorem State.setBlob_guard (s : State) (k : Nat) (v : Bytes) : (s.setBlob k v).guard = s.guard := rfl
@[simp] theorem State.setBlob_tiles (s : State) (k : Nat) (v : Bytes) : (s.setBlob k v).tiles = s.tiles := rfl
@[simp] theorem State.setBlob_bondWas (s : State) (k : Nat) (v : Bytes) : (s.setBlob k v).bondWas = s.bondWas := rfl
@[simp] theorem State.setBlob_mortar (s : State) (k : Nat) (v : Bytes) : (s.setBlob k v).mortar = s.mortar := rfl
@[simp] theorem State.setBlob_integ (s : State) (k : Nat) (v : Bytes) : (s.setBlob k v).integ = s.integ := rfl
@[simp] theorem State.setBlob_fh (s : State) (k : Nat) (v : Bytes) : (s.setBlob k v).fh = s.fh := rfl
@[simp] theorem State.setBlob_dfe (s : State) (k : Nat) (v : Bytes) : (s.setBlob k v).dfe = s.dfe := rfl
@[simp] theorem State.setBlob_mem (s : State) (k : Nat) (v : Bytes) : (s.setBlob k v).mem = s.mem := rfl
@[simp] theorem State.setBlob_power (s : State) (k : Nat) (v : Bytes) : (s.setBlob k v).power = s.power := rfl
@[simp] theorem State.setBlob_boot (s : State) (k : Nat) (v : Bytes) : (s.setBlob k v).boot = s.boot := rfl
@[simp] theorem State.setBlob_freeCtr (s : State) (k : Nat) (v : Bytes) : (s.setBlob k v).freeCtr = s.freeCtr := rfl
@[simp] theorem State.setBlob_pending (s : State) (k : Nat) (v : Bytes) : (s.setBlob k v).pending = s.pending := rfl

/-! ## State.bump -/

@[simp] theorem State.bump_blobs (s : State) (k n : Nat) : (s.bump k n).blobs = s.blobs := rfl
@[simp] theorem State.bump_image (s : State) (k n : Nat) : (s.bump k n).image = s.image := rfl
@[simp] theorem State.bump_imageBlobs (s : State) (k n : Nat) : (s.bump k n).imageBlobs = s.imageBlobs := rfl
@[simp] theorem State.bump_clock (s : State) (k n : Nat) : (s.bump k n).clock = s.clock := rfl
@[simp] theorem State.bump_time (s : State) (k n : Nat) : (s.bump k n).time = s.time := rfl
@[simp] theorem State.bump_nl (s : State) (k n : Nat) : (s.bump k n).nl = s.nl := rfl
@[simp] theorem State.bump_link (s : State) (k n : Nat) : (s.bump k n).link = s.link := rfl
@[simp] theorem State.bump_svc (s : State) (k n : Nat) : (s.bump k n).svc = s.svc := rfl
@[simp] theorem State.bump_pipe (s : State) (k n : Nat) : (s.bump k n).pipe = s.pipe := rfl
@[simp] theorem State.bump_sched (s : State) (k n : Nat) : (s.bump k n).sched = s.sched := rfl
@[simp] theorem State.bump_kiln (s : State) (k n : Nat) : (s.bump k n).kiln = s.kiln := rfl
@[simp] theorem State.bump_wb (s : State) (k n : Nat) : (s.bump k n).wb = s.wb := rfl
@[simp] theorem State.bump_units (s : State) (k n : Nat) : (s.bump k n).units = s.units := rfl
@[simp] theorem State.bump_hod (s : State) (k n : Nat) : (s.bump k n).hod = s.hod := rfl
@[simp] theorem State.bump_guard (s : State) (k n : Nat) : (s.bump k n).guard = s.guard := rfl
@[simp] theorem State.bump_tiles (s : State) (k n : Nat) : (s.bump k n).tiles = s.tiles := rfl
@[simp] theorem State.bump_bondWas (s : State) (k n : Nat) : (s.bump k n).bondWas = s.bondWas := rfl
@[simp] theorem State.bump_mortar (s : State) (k n : Nat) : (s.bump k n).mortar = s.mortar := rfl
@[simp] theorem State.bump_integ (s : State) (k n : Nat) : (s.bump k n).integ = s.integ := rfl
@[simp] theorem State.bump_fh (s : State) (k n : Nat) : (s.bump k n).fh = s.fh := rfl
@[simp] theorem State.bump_dfe (s : State) (k n : Nat) : (s.bump k n).dfe = s.dfe := rfl
@[simp] theorem State.bump_mem (s : State) (k n : Nat) : (s.bump k n).mem = s.mem := rfl
@[simp] theorem State.bump_power (s : State) (k n : Nat) : (s.bump k n).power = s.power := rfl
@[simp] theorem State.bump_boot (s : State) (k n : Nat) : (s.bump k n).boot = s.boot := rfl
@[simp] theorem State.bump_freeCtr (s : State) (k n : Nat) : (s.bump k n).freeCtr = s.freeCtr := rfl
@[simp] theorem State.bump_pending (s : State) (k n : Nat) : (s.bump k n).pending = s.pending := rfl

/-! ## State.send -/

@[simp] theorem State.send_dict (s : State) (m : Sent) : (s.send m).dict = s.dict := rfl
@[simp] theorem State.send_blobs (s : State) (m : Sent) : (s.send m).blobs = s.blobs := rfl
@[simp] theorem State.send_image (s : State) (m : Sent) : (s.send m).image = s.image := rfl
@[simp] theorem State.send_imageBlobs (s : State) (m : Sent) : (s.send m).imageBlobs = s.imageBlobs := rfl
@[simp] theorem State.send_clock (s : State) (m : Sent) : (s.send m).clock = s.clock := rfl
@[simp] theorem State.send_time (s : State) (m : Sent) : (s.send m).time = s.time := rfl
@[simp] theorem State.send_nl (s : State) (m : Sent) : (s.send m).nl = s.nl := rfl
@[simp] theorem State.send_svc (s : State) (m : Sent) : (s.send m).svc = s.svc := rfl
@[simp] theorem State.send_pipe (s : State) (m : Sent) : (s.send m).pipe = s.pipe := rfl
@[simp] theorem State.send_sched (s : State) (m : Sent) : (s.send m).sched = s.sched := rfl
@[simp] theorem State.send_kiln (s : State) (m : Sent) : (s.send m).kiln = s.kiln := rfl
@[simp] theorem State.send_wb (s : State) (m : Sent) : (s.send m).wb = s.wb := rfl
@[simp] theorem State.send_units (s : State) (m : Sent) : (s.send m).units = s.units := rfl
@[simp] theorem State.send_hod (s : State) (m : Sent) : (s.send m).hod = s.hod := rfl
@[simp] theorem State.send_guard (s : State) (m : Sent) : (s.send m).guard = s.guard := rfl
@[simp] theorem State.send_tiles (s : State) (m : Sent) : (s.send m).tiles = s.tiles := rfl
@[simp] theorem State.send_bondWas (s : State) (m : Sent) : (s.send m).bondWas = s.bondWas := rfl
@[simp] theorem State.send_mortar (s : State) (m : Sent) : (s.send m).mortar = s.mortar := rfl
@[simp] theorem State.send_integ (s : State) (m : Sent) : (s.send m).integ = s.integ := rfl
@[simp] theorem State.send_fh (s : State) (m : Sent) : (s.send m).fh = s.fh := rfl
@[simp] theorem State.send_dfe (s : State) (m : Sent) : (s.send m).dfe = s.dfe := rfl
@[simp] theorem State.send_mem (s : State) (m : Sent) : (s.send m).mem = s.mem := rfl
@[simp] theorem State.send_power (s : State) (m : Sent) : (s.send m).power = s.power := rfl
@[simp] theorem State.send_boot (s : State) (m : Sent) : (s.send m).boot = s.boot := rfl
@[simp] theorem State.send_freeCtr (s : State) (m : Sent) : (s.send m).freeCtr = s.freeCtr := rfl
@[simp] theorem State.send_pending (s : State) (m : Sent) : (s.send m).pending = s.pending := rfl

/-! ## State.free -/

@[simp] theorem State.free_dict (s : State) : (s.free.2).dict = s.dict := rfl
@[simp] theorem State.free_blobs (s : State) : (s.free.2).blobs = s.blobs := rfl
@[simp] theorem State.free_image (s : State) : (s.free.2).image = s.image := rfl
@[simp] theorem State.free_imageBlobs (s : State) : (s.free.2).imageBlobs = s.imageBlobs := rfl
@[simp] theorem State.free_clock (s : State) : (s.free.2).clock = s.clock := rfl
@[simp] theorem State.free_time (s : State) : (s.free.2).time = s.time := rfl
@[simp] theorem State.free_nl (s : State) : (s.free.2).nl = s.nl := rfl
@[simp] theorem State.free_link (s : State) : (s.free.2).link = s.link := rfl
@[simp] theorem State.free_svc (s : State) : (s.free.2).svc = s.svc := rfl
@[simp] theorem State.free_pipe (s : State) : (s.free.2).pipe = s.pipe := rfl
@[simp] theorem State.free_sched (s : State) : (s.free.2).sched = s.sched := rfl
@[simp] theorem State.free_kiln (s : State) : (s.free.2).kiln = s.kiln := rfl
@[simp] theorem State.free_wb (s : State) : (s.free.2).wb = s.wb := rfl
@[simp] theorem State.free_units (s : State) : (s.free.2).units = s.units := rfl
@[simp] theorem State.free_hod (s : State) : (s.free.2).hod = s.hod := rfl
@[simp] theorem State.free_guard (s : State) : (s.free.2).guard = s.guard := rfl
@[simp] theorem State.free_tiles (s : State) : (s.free.2).tiles = s.tiles := rfl
@[simp] theorem State.free_bondWas (s : State) : (s.free.2).bondWas = s.bondWas := rfl
@[simp] theorem State.free_mortar (s : State) : (s.free.2).mortar = s.mortar := rfl
@[simp] theorem State.free_integ (s : State) : (s.free.2).integ = s.integ := rfl
@[simp] theorem State.free_fh (s : State) : (s.free.2).fh = s.fh := rfl
@[simp] theorem State.free_dfe (s : State) : (s.free.2).dfe = s.dfe := rfl
@[simp] theorem State.free_mem (s : State) : (s.free.2).mem = s.mem := rfl
@[simp] theorem State.free_power (s : State) : (s.free.2).power = s.power := rfl
@[simp] theorem State.free_boot (s : State) : (s.free.2).boot = s.boot := rfl
@[simp] theorem State.free_pending (s : State) : (s.free.2).pending = s.pending := rfl

/-! ## State.change -/

@[simp] theorem State.change_blobs (s : State) (k : Nat) (v : Int) : (s.change k v).blobs = s.blobs := by
  unfold State.change; split <;> rfl
@[simp] theorem State.change_image (s : State) (k : Nat) (v : Int) : (s.change k v).image = s.image := by
  unfold State.change; split <;> rfl
@[simp] theorem State.change_imageBlobs (s : State) (k : Nat) (v : Int) : (s.change k v).imageBlobs = s.imageBlobs := by
  unfold State.change; split <;> rfl
@[simp] theorem State.change_clock (s : State) (k : Nat) (v : Int) : (s.change k v).clock = s.clock := by
  unfold State.change; split <;> rfl
@[simp] theorem State.change_time (s : State) (k : Nat) (v : Int) : (s.change k v).time = s.time := by
  unfold State.change; split <;> rfl
@[simp] theorem State.change_nl (s : State) (k : Nat) (v : Int) : (s.change k v).nl = s.nl := by
  unfold State.change; split <;> rfl
@[simp] theorem State.change_link (s : State) (k : Nat) (v : Int) : (s.change k v).link = s.link := by
  unfold State.change; split <;> rfl
@[simp] theorem State.change_svc (s : State) (k : Nat) (v : Int) : (s.change k v).svc = s.svc := by
  unfold State.change; split <;> rfl
@[simp] theorem State.change_pipe (s : State) (k : Nat) (v : Int) : (s.change k v).pipe = s.pipe := by
  unfold State.change; split <;> rfl
@[simp] theorem State.change_sched (s : State) (k : Nat) (v : Int) : (s.change k v).sched = s.sched := by
  unfold State.change; split <;> rfl
@[simp] theorem State.change_kiln (s : State) (k : Nat) (v : Int) : (s.change k v).kiln = s.kiln := by
  unfold State.change; split <;> rfl
@[simp] theorem State.change_wb (s : State) (k : Nat) (v : Int) : (s.change k v).wb = s.wb := by
  unfold State.change; split <;> rfl
@[simp] theorem State.change_units (s : State) (k : Nat) (v : Int) : (s.change k v).units = s.units := by
  unfold State.change; split <;> rfl
@[simp] theorem State.change_hod (s : State) (k : Nat) (v : Int) : (s.change k v).hod = s.hod := by
  unfold State.change; split <;> rfl
@[simp] theorem State.change_guard (s : State) (k : Nat) (v : Int) : (s.change k v).guard = s.guard := by
  unfold State.change; split <;> rfl
@[simp] theorem State.change_tiles (s : State) (k : Nat) (v : Int) : (s.change k v).tiles = s.tiles := by
  unfold State.change; split <;> rfl
@[simp] theorem State.change_bondWas (s : State) (k : Nat) (v : Int) : (s.change k v).bondWas = s.bondWas := by
  unfold State.change; split <;> rfl
@[simp] theorem State.change_mortar (s : State) (k : Nat) (v : Int) : (s.change k v).mortar = s.mortar := by
  unfold State.change; split <;> rfl
@[simp] theorem State.change_integ (s : State) (k : Nat) (v : Int) : (s.change k v).integ = s.integ := by
  unfold State.change; split <;> rfl
@[simp] theorem State.change_fh (s : State) (k : Nat) (v : Int) : (s.change k v).fh = s.fh := by
  unfold State.change; split <;> rfl
@[simp] theorem State.change_dfe (s : State) (k : Nat) (v : Int) : (s.change k v).dfe = s.dfe := by
  unfold State.change; split <;> rfl
@[simp] theorem State.change_mem (s : State) (k : Nat) (v : Int) : (s.change k v).mem = s.mem := by
  unfold State.change; split <;> rfl
@[simp] theorem State.change_power (s : State) (k : Nat) (v : Int) : (s.change k v).power = s.power := by
  unfold State.change; split <;> rfl
@[simp] theorem State.change_boot (s : State) (k : Nat) (v : Int) : (s.change k v).boot = s.boot := by
  unfold State.change; split <;> rfl
@[simp] theorem State.change_freeCtr (s : State) (k : Nat) (v : Int) : (s.change k v).freeCtr = s.freeCtr := by
  unfold State.change; split <;> rfl
@[simp] theorem State.change_pending (s : State) (k : Nat) (v : Int) : (s.change k v).pending = s.pending := by
  unfold State.change; split <;> rfl

/-! ## State.changeBlob -/

@[simp] theorem State.changeBlob_image (s : State) (k : Nat) (v : Bytes) : (s.changeBlob k v).image = s.image := by
  unfold State.changeBlob; split <;> rfl
@[simp] theorem State.changeBlob_imageBlobs (s : State) (k : Nat) (v : Bytes) : (s.changeBlob k v).imageBlobs = s.imageBlobs := by
  unfold State.changeBlob; split <;> rfl
@[simp] theorem State.changeBlob_clock (s : State) (k : Nat) (v : Bytes) : (s.changeBlob k v).clock = s.clock := by
  unfold State.changeBlob; split <;> rfl
@[simp] theorem State.changeBlob_time (s : State) (k : Nat) (v : Bytes) : (s.changeBlob k v).time = s.time := by
  unfold State.changeBlob; split <;> rfl
@[simp] theorem State.changeBlob_nl (s : State) (k : Nat) (v : Bytes) : (s.changeBlob k v).nl = s.nl := by
  unfold State.changeBlob; split <;> rfl
@[simp] theorem State.changeBlob_link (s : State) (k : Nat) (v : Bytes) : (s.changeBlob k v).link = s.link := by
  unfold State.changeBlob; split <;> rfl
@[simp] theorem State.changeBlob_svc (s : State) (k : Nat) (v : Bytes) : (s.changeBlob k v).svc = s.svc := by
  unfold State.changeBlob; split <;> rfl
@[simp] theorem State.changeBlob_pipe (s : State) (k : Nat) (v : Bytes) : (s.changeBlob k v).pipe = s.pipe := by
  unfold State.changeBlob; split <;> rfl
@[simp] theorem State.changeBlob_sched (s : State) (k : Nat) (v : Bytes) : (s.changeBlob k v).sched = s.sched := by
  unfold State.changeBlob; split <;> rfl
@[simp] theorem State.changeBlob_kiln (s : State) (k : Nat) (v : Bytes) : (s.changeBlob k v).kiln = s.kiln := by
  unfold State.changeBlob; split <;> rfl
@[simp] theorem State.changeBlob_wb (s : State) (k : Nat) (v : Bytes) : (s.changeBlob k v).wb = s.wb := by
  unfold State.changeBlob; split <;> rfl
@[simp] theorem State.changeBlob_units (s : State) (k : Nat) (v : Bytes) : (s.changeBlob k v).units = s.units := by
  unfold State.changeBlob; split <;> rfl
@[simp] theorem State.changeBlob_hod (s : State) (k : Nat) (v : Bytes) : (s.changeBlob k v).hod = s.hod := by
  unfold State.changeBlob; split <;> rfl
@[simp] theorem State.changeBlob_guard (s : State) (k : Nat) (v : Bytes) : (s.changeBlob k v).guard = s.guard := by
  unfold State.changeBlob; split <;> rfl
@[simp] theorem State.changeBlob_tiles (s : State) (k : Nat) (v : Bytes) : (s.changeBlob k v).tiles = s.tiles := by
  unfold State.changeBlob; split <;> rfl
@[simp] theorem State.changeBlob_bondWas (s : State) (k : Nat) (v : Bytes) : (s.changeBlob k v).bondWas = s.bondWas := by
  unfold State.changeBlob; split <;> rfl
@[simp] theorem State.changeBlob_mortar (s : State) (k : Nat) (v : Bytes) : (s.changeBlob k v).mortar = s.mortar := by
  unfold State.changeBlob; split <;> rfl
@[simp] theorem State.changeBlob_integ (s : State) (k : Nat) (v : Bytes) : (s.changeBlob k v).integ = s.integ := by
  unfold State.changeBlob; split <;> rfl
@[simp] theorem State.changeBlob_fh (s : State) (k : Nat) (v : Bytes) : (s.changeBlob k v).fh = s.fh := by
  unfold State.changeBlob; split <;> rfl
@[simp] theorem State.changeBlob_dfe (s : State) (k : Nat) (v : Bytes) : (s.changeBlob k v).dfe = s.dfe := by
  unfold State.changeBlob; split <;> rfl
@[simp] theorem State.changeBlob_mem (s : State) (k : Nat) (v : Bytes) : (s.changeBlob k v).mem = s.mem := by
  unfold State.changeBlob; split <;> rfl
@[simp] theorem State.changeBlob_power (s : State) (k : Nat) (v : Bytes) : (s.changeBlob k v).power = s.power := by
  unfold State.changeBlob; split <;> rfl
@[simp] theorem State.changeBlob_boot (s : State) (k : Nat) (v : Bytes) : (s.changeBlob k v).boot = s.boot := by
  unfold State.changeBlob; split <;> rfl
@[simp] theorem State.changeBlob_freeCtr (s : State) (k : Nat) (v : Bytes) : (s.changeBlob k v).freeCtr = s.freeCtr := by
  unfold State.changeBlob; split <;> rfl
@[simp] theorem State.changeBlob_pending (s : State) (k : Nat) (v : Bytes) : (s.changeBlob k v).pending = s.pending := by
  unfold State.changeBlob; split <;> rfl

/-! ## raiseFor and raise -/

@[simp] theorem raiseFor_blobs (s : State) (k u : Nat) (d : Bytes) (c g : Nat) : (raiseFor s k u d c g).blobs = s.blobs := by
  unfold raiseFor; dsimp only; split <;> rfl
@[simp] theorem raiseFor_image (s : State) (k u : Nat) (d : Bytes) (c g : Nat) : (raiseFor s k u d c g).image = s.image := by
  unfold raiseFor; dsimp only; split <;> rfl
@[simp] theorem raiseFor_imageBlobs (s : State) (k u : Nat) (d : Bytes) (c g : Nat) : (raiseFor s k u d c g).imageBlobs = s.imageBlobs := by
  unfold raiseFor; dsimp only; split <;> rfl
@[simp] theorem raiseFor_clock (s : State) (k u : Nat) (d : Bytes) (c g : Nat) : (raiseFor s k u d c g).clock = s.clock := by
  unfold raiseFor; dsimp only; split <;> rfl
@[simp] theorem raiseFor_time (s : State) (k u : Nat) (d : Bytes) (c g : Nat) : (raiseFor s k u d c g).time = s.time := by
  unfold raiseFor; dsimp only; split <;> rfl
@[simp] theorem raiseFor_nl (s : State) (k u : Nat) (d : Bytes) (c g : Nat) : (raiseFor s k u d c g).nl = s.nl := by
  unfold raiseFor; dsimp only; split <;> rfl
@[simp] theorem raiseFor_svc (s : State) (k u : Nat) (d : Bytes) (c g : Nat) : (raiseFor s k u d c g).svc = s.svc := by
  unfold raiseFor; dsimp only; split <;> rfl
@[simp] theorem raiseFor_pipe (s : State) (k u : Nat) (d : Bytes) (c g : Nat) : (raiseFor s k u d c g).pipe = s.pipe := by
  unfold raiseFor; dsimp only; split <;> rfl
@[simp] theorem raiseFor_sched (s : State) (k u : Nat) (d : Bytes) (c g : Nat) : (raiseFor s k u d c g).sched = s.sched := by
  unfold raiseFor; dsimp only; split <;> rfl
@[simp] theorem raiseFor_kiln (s : State) (k u : Nat) (d : Bytes) (c g : Nat) : (raiseFor s k u d c g).kiln = s.kiln := by
  unfold raiseFor; dsimp only; split <;> rfl
@[simp] theorem raiseFor_wb (s : State) (k u : Nat) (d : Bytes) (c g : Nat) : (raiseFor s k u d c g).wb = s.wb := by
  unfold raiseFor; dsimp only; split <;> rfl
@[simp] theorem raiseFor_units (s : State) (k u : Nat) (d : Bytes) (c g : Nat) : (raiseFor s k u d c g).units = s.units := by
  unfold raiseFor; dsimp only; split <;> rfl
@[simp] theorem raiseFor_hod (s : State) (k u : Nat) (d : Bytes) (c g : Nat) : (raiseFor s k u d c g).hod = s.hod := by
  unfold raiseFor; dsimp only; split <;> rfl
@[simp] theorem raiseFor_guard (s : State) (k u : Nat) (d : Bytes) (c g : Nat) : (raiseFor s k u d c g).guard = s.guard := by
  unfold raiseFor; dsimp only; split <;> rfl
@[simp] theorem raiseFor_tiles (s : State) (k u : Nat) (d : Bytes) (c g : Nat) : (raiseFor s k u d c g).tiles = s.tiles := by
  unfold raiseFor; dsimp only; split <;> rfl
@[simp] theorem raiseFor_bondWas (s : State) (k u : Nat) (d : Bytes) (c g : Nat) : (raiseFor s k u d c g).bondWas = s.bondWas := by
  unfold raiseFor; dsimp only; split <;> rfl
@[simp] theorem raiseFor_mortar (s : State) (k u : Nat) (d : Bytes) (c g : Nat) : (raiseFor s k u d c g).mortar = s.mortar := by
  unfold raiseFor; dsimp only; split <;> rfl
@[simp] theorem raiseFor_integ (s : State) (k u : Nat) (d : Bytes) (c g : Nat) : (raiseFor s k u d c g).integ = s.integ := by
  unfold raiseFor; dsimp only; split <;> rfl
@[simp] theorem raiseFor_fh (s : State) (k u : Nat) (d : Bytes) (c g : Nat) : (raiseFor s k u d c g).fh = s.fh := by
  unfold raiseFor; dsimp only; split <;> rfl
@[simp] theorem raiseFor_dfe (s : State) (k u : Nat) (d : Bytes) (c g : Nat) : (raiseFor s k u d c g).dfe = s.dfe := by
  unfold raiseFor; dsimp only; split <;> rfl
@[simp] theorem raiseFor_mem (s : State) (k u : Nat) (d : Bytes) (c g : Nat) : (raiseFor s k u d c g).mem = s.mem := by
  unfold raiseFor; dsimp only; split <;> rfl
@[simp] theorem raiseFor_power (s : State) (k u : Nat) (d : Bytes) (c g : Nat) : (raiseFor s k u d c g).power = s.power := by
  unfold raiseFor; dsimp only; split <;> rfl
@[simp] theorem raiseFor_boot (s : State) (k u : Nat) (d : Bytes) (c g : Nat) : (raiseFor s k u d c g).boot = s.boot := by
  unfold raiseFor; dsimp only; split <;> rfl
@[simp] theorem raiseFor_freeCtr (s : State) (k u : Nat) (d : Bytes) (c g : Nat) : (raiseFor s k u d c g).freeCtr = s.freeCtr := by
  unfold raiseFor; dsimp only; split <;> rfl
@[simp] theorem raiseFor_pending (s : State) (k u : Nat) (d : Bytes) (c g : Nat) : (raiseFor s k u d c g).pending = s.pending := by
  unfold raiseFor; dsimp only; split <;> rfl

@[simp] theorem raise_blobs (s : State) (k u : Nat) (d : Bytes) (c : Nat) : (raise s k u d c).blobs = s.blobs := raiseFor_blobs s k u d c _
@[simp] theorem raise_image (s : State) (k u : Nat) (d : Bytes) (c : Nat) : (raise s k u d c).image = s.image := raiseFor_image s k u d c _
@[simp] theorem raise_imageBlobs (s : State) (k u : Nat) (d : Bytes) (c : Nat) : (raise s k u d c).imageBlobs = s.imageBlobs := raiseFor_imageBlobs s k u d c _
@[simp] theorem raise_clock (s : State) (k u : Nat) (d : Bytes) (c : Nat) : (raise s k u d c).clock = s.clock := raiseFor_clock s k u d c _
@[simp] theorem raise_time (s : State) (k u : Nat) (d : Bytes) (c : Nat) : (raise s k u d c).time = s.time := raiseFor_time s k u d c _
@[simp] theorem raise_nl (s : State) (k u : Nat) (d : Bytes) (c : Nat) : (raise s k u d c).nl = s.nl := raiseFor_nl s k u d c _
@[simp] theorem raise_svc (s : State) (k u : Nat) (d : Bytes) (c : Nat) : (raise s k u d c).svc = s.svc := raiseFor_svc s k u d c _
@[simp] theorem raise_pipe (s : State) (k u : Nat) (d : Bytes) (c : Nat) : (raise s k u d c).pipe = s.pipe := raiseFor_pipe s k u d c _
@[simp] theorem raise_sched (s : State) (k u : Nat) (d : Bytes) (c : Nat) : (raise s k u d c).sched = s.sched := raiseFor_sched s k u d c _
@[simp] theorem raise_kiln (s : State) (k u : Nat) (d : Bytes) (c : Nat) : (raise s k u d c).kiln = s.kiln := raiseFor_kiln s k u d c _
@[simp] theorem raise_wb (s : State) (k u : Nat) (d : Bytes) (c : Nat) : (raise s k u d c).wb = s.wb := raiseFor_wb s k u d c _
@[simp] theorem raise_units (s : State) (k u : Nat) (d : Bytes) (c : Nat) : (raise s k u d c).units = s.units := raiseFor_units s k u d c _
@[simp] theorem raise_hod (s : State) (k u : Nat) (d : Bytes) (c : Nat) : (raise s k u d c).hod = s.hod := raiseFor_hod s k u d c _
@[simp] theorem raise_guard (s : State) (k u : Nat) (d : Bytes) (c : Nat) : (raise s k u d c).guard = s.guard := raiseFor_guard s k u d c _
@[simp] theorem raise_tiles (s : State) (k u : Nat) (d : Bytes) (c : Nat) : (raise s k u d c).tiles = s.tiles := raiseFor_tiles s k u d c _
@[simp] theorem raise_bondWas (s : State) (k u : Nat) (d : Bytes) (c : Nat) : (raise s k u d c).bondWas = s.bondWas := raiseFor_bondWas s k u d c _
@[simp] theorem raise_mortar (s : State) (k u : Nat) (d : Bytes) (c : Nat) : (raise s k u d c).mortar = s.mortar := raiseFor_mortar s k u d c _
@[simp] theorem raise_integ (s : State) (k u : Nat) (d : Bytes) (c : Nat) : (raise s k u d c).integ = s.integ := raiseFor_integ s k u d c _
@[simp] theorem raise_fh (s : State) (k u : Nat) (d : Bytes) (c : Nat) : (raise s k u d c).fh = s.fh := raiseFor_fh s k u d c _
@[simp] theorem raise_dfe (s : State) (k u : Nat) (d : Bytes) (c : Nat) : (raise s k u d c).dfe = s.dfe := raiseFor_dfe s k u d c _
@[simp] theorem raise_mem (s : State) (k u : Nat) (d : Bytes) (c : Nat) : (raise s k u d c).mem = s.mem := raiseFor_mem s k u d c _
@[simp] theorem raise_power (s : State) (k u : Nat) (d : Bytes) (c : Nat) : (raise s k u d c).power = s.power := raiseFor_power s k u d c _
@[simp] theorem raise_boot (s : State) (k u : Nat) (d : Bytes) (c : Nat) : (raise s k u d c).boot = s.boot := raiseFor_boot s k u d c _
@[simp] theorem raise_freeCtr (s : State) (k u : Nat) (d : Bytes) (c : Nat) : (raise s k u d c).freeCtr = s.freeCtr := raiseFor_freeCtr s k u d c _
@[simp] theorem raise_pending (s : State) (k u : Nat) (d : Bytes) (c : Nat) : (raise s k u d c).pending = s.pending := raiseFor_pending s k u d c _

/-! ## countReply -/

@[simp] theorem countReply_blobs (r : Reason) (s : State) : (countReply r s).blobs = s.blobs := by
  unfold countReply; dsimp only; split <;> split <;> rfl
@[simp] theorem countReply_image (r : Reason) (s : State) : (countReply r s).image = s.image := by
  unfold countReply; dsimp only; split <;> split <;> rfl
@[simp] theorem countReply_imageBlobs (r : Reason) (s : State) : (countReply r s).imageBlobs = s.imageBlobs := by
  unfold countReply; dsimp only; split <;> split <;> rfl
@[simp] theorem countReply_clock (r : Reason) (s : State) : (countReply r s).clock = s.clock := by
  unfold countReply; dsimp only; split <;> split <;> rfl
@[simp] theorem countReply_time (r : Reason) (s : State) : (countReply r s).time = s.time := by
  unfold countReply; dsimp only; split <;> split <;> rfl
@[simp] theorem countReply_nl (r : Reason) (s : State) : (countReply r s).nl = s.nl := by
  unfold countReply; dsimp only; split <;> split <;> rfl
@[simp] theorem countReply_link (r : Reason) (s : State) : (countReply r s).link = s.link := by
  unfold countReply; dsimp only; split <;> split <;> rfl
@[simp] theorem countReply_svc (r : Reason) (s : State) : (countReply r s).svc = s.svc := by
  unfold countReply; dsimp only; split <;> split <;> rfl
@[simp] theorem countReply_pipe (r : Reason) (s : State) : (countReply r s).pipe = s.pipe := by
  unfold countReply; dsimp only; split <;> split <;> rfl
@[simp] theorem countReply_sched (r : Reason) (s : State) : (countReply r s).sched = s.sched := by
  unfold countReply; dsimp only; split <;> split <;> rfl
@[simp] theorem countReply_kiln (r : Reason) (s : State) : (countReply r s).kiln = s.kiln := by
  unfold countReply; dsimp only; split <;> split <;> rfl
@[simp] theorem countReply_wb (r : Reason) (s : State) : (countReply r s).wb = s.wb := by
  unfold countReply; dsimp only; split <;> split <;> rfl
@[simp] theorem countReply_units (r : Reason) (s : State) : (countReply r s).units = s.units := by
  unfold countReply; dsimp only; split <;> split <;> rfl
@[simp] theorem countReply_hod (r : Reason) (s : State) : (countReply r s).hod = s.hod := by
  unfold countReply; dsimp only; split <;> split <;> rfl
@[simp] theorem countReply_guard (r : Reason) (s : State) : (countReply r s).guard = s.guard := by
  unfold countReply; dsimp only; split <;> split <;> rfl
@[simp] theorem countReply_tiles (r : Reason) (s : State) : (countReply r s).tiles = s.tiles := by
  unfold countReply; dsimp only; split <;> split <;> rfl
@[simp] theorem countReply_bondWas (r : Reason) (s : State) : (countReply r s).bondWas = s.bondWas := by
  unfold countReply; dsimp only; split <;> split <;> rfl
@[simp] theorem countReply_mortar (r : Reason) (s : State) : (countReply r s).mortar = s.mortar := by
  unfold countReply; dsimp only; split <;> split <;> rfl
@[simp] theorem countReply_integ (r : Reason) (s : State) : (countReply r s).integ = s.integ := by
  unfold countReply; dsimp only; split <;> split <;> rfl
@[simp] theorem countReply_fh (r : Reason) (s : State) : (countReply r s).fh = s.fh := by
  unfold countReply; dsimp only; split <;> split <;> rfl
@[simp] theorem countReply_dfe (r : Reason) (s : State) : (countReply r s).dfe = s.dfe := by
  unfold countReply; dsimp only; split <;> split <;> rfl
@[simp] theorem countReply_mem (r : Reason) (s : State) : (countReply r s).mem = s.mem := by
  unfold countReply; dsimp only; split <;> split <;> rfl
@[simp] theorem countReply_power (r : Reason) (s : State) : (countReply r s).power = s.power := by
  unfold countReply; dsimp only; split <;> split <;> rfl
@[simp] theorem countReply_boot (r : Reason) (s : State) : (countReply r s).boot = s.boot := by
  unfold countReply; dsimp only; split <;> split <;> rfl
@[simp] theorem countReply_freeCtr (r : Reason) (s : State) : (countReply r s).freeCtr = s.freeCtr := by
  unfold countReply; dsimp only; split <;> split <;> rfl
@[simp] theorem countReply_pending (r : Reason) (s : State) : (countReply r s).pending = s.pending := by
  unfold countReply; dsimp only; split <;> split <;> rfl

/-! ## replyWrite -/

@[simp] theorem replyWrite_blobs (q k o f n : Nat) (r : Reason) (s : State) : (replyWrite q k o f n r s).blobs = s.blobs := by
  simp [replyWrite]
@[simp] theorem replyWrite_image (q k o f n : Nat) (r : Reason) (s : State) : (replyWrite q k o f n r s).image = s.image := by
  simp [replyWrite]
@[simp] theorem replyWrite_imageBlobs (q k o f n : Nat) (r : Reason) (s : State) : (replyWrite q k o f n r s).imageBlobs = s.imageBlobs := by
  simp [replyWrite]
@[simp] theorem replyWrite_clock (q k o f n : Nat) (r : Reason) (s : State) : (replyWrite q k o f n r s).clock = s.clock := by
  simp [replyWrite]
@[simp] theorem replyWrite_time (q k o f n : Nat) (r : Reason) (s : State) : (replyWrite q k o f n r s).time = s.time := by
  simp [replyWrite]
@[simp] theorem replyWrite_nl (q k o f n : Nat) (r : Reason) (s : State) : (replyWrite q k o f n r s).nl = s.nl := by
  simp [replyWrite]
@[simp] theorem replyWrite_svc (q k o f n : Nat) (r : Reason) (s : State) : (replyWrite q k o f n r s).svc = s.svc := by
  simp [replyWrite]
@[simp] theorem replyWrite_pipe (q k o f n : Nat) (r : Reason) (s : State) : (replyWrite q k o f n r s).pipe = s.pipe := by
  simp [replyWrite]
@[simp] theorem replyWrite_sched (q k o f n : Nat) (r : Reason) (s : State) : (replyWrite q k o f n r s).sched = s.sched := by
  simp [replyWrite]
@[simp] theorem replyWrite_kiln (q k o f n : Nat) (r : Reason) (s : State) : (replyWrite q k o f n r s).kiln = s.kiln := by
  simp [replyWrite]
@[simp] theorem replyWrite_wb (q k o f n : Nat) (r : Reason) (s : State) : (replyWrite q k o f n r s).wb = s.wb := by
  simp [replyWrite]
@[simp] theorem replyWrite_units (q k o f n : Nat) (r : Reason) (s : State) : (replyWrite q k o f n r s).units = s.units := by
  simp [replyWrite]
@[simp] theorem replyWrite_hod (q k o f n : Nat) (r : Reason) (s : State) : (replyWrite q k o f n r s).hod = s.hod := by
  simp [replyWrite]
@[simp] theorem replyWrite_guard (q k o f n : Nat) (r : Reason) (s : State) : (replyWrite q k o f n r s).guard = s.guard := by
  simp [replyWrite]
@[simp] theorem replyWrite_tiles (q k o f n : Nat) (r : Reason) (s : State) : (replyWrite q k o f n r s).tiles = s.tiles := by
  simp [replyWrite]
@[simp] theorem replyWrite_bondWas (q k o f n : Nat) (r : Reason) (s : State) : (replyWrite q k o f n r s).bondWas = s.bondWas := by
  simp [replyWrite]
@[simp] theorem replyWrite_mortar (q k o f n : Nat) (r : Reason) (s : State) : (replyWrite q k o f n r s).mortar = s.mortar := by
  simp [replyWrite]
@[simp] theorem replyWrite_integ (q k o f n : Nat) (r : Reason) (s : State) : (replyWrite q k o f n r s).integ = s.integ := by
  simp [replyWrite]
@[simp] theorem replyWrite_fh (q k o f n : Nat) (r : Reason) (s : State) : (replyWrite q k o f n r s).fh = s.fh := by
  simp [replyWrite]
@[simp] theorem replyWrite_dfe (q k o f n : Nat) (r : Reason) (s : State) : (replyWrite q k o f n r s).dfe = s.dfe := by
  simp [replyWrite]
@[simp] theorem replyWrite_mem (q k o f n : Nat) (r : Reason) (s : State) : (replyWrite q k o f n r s).mem = s.mem := by
  simp [replyWrite]
@[simp] theorem replyWrite_power (q k o f n : Nat) (r : Reason) (s : State) : (replyWrite q k o f n r s).power = s.power := by
  simp [replyWrite]
@[simp] theorem replyWrite_boot (q k o f n : Nat) (r : Reason) (s : State) : (replyWrite q k o f n r s).boot = s.boot := by
  simp [replyWrite]
@[simp] theorem replyWrite_freeCtr (q k o f n : Nat) (r : Reason) (s : State) : (replyWrite q k o f n r s).freeCtr = s.freeCtr := by
  simp [replyWrite]
@[simp] theorem replyWrite_pending (q k o f n : Nat) (r : Reason) (s : State) : (replyWrite q k o f n r s).pending = s.pending := by
  simp [replyWrite]

/-! ## replyRead -/

@[simp] theorem replyRead_blobs (q k l : Nat) (r : Reason) (f : Nat) (v d : Bytes) (s : State) : (replyRead q k l r f v d s).blobs = s.blobs := by
  simp [replyRead]
@[simp] theorem replyRead_image (q k l : Nat) (r : Reason) (f : Nat) (v d : Bytes) (s : State) : (replyRead q k l r f v d s).image = s.image := by
  simp [replyRead]
@[simp] theorem replyRead_imageBlobs (q k l : Nat) (r : Reason) (f : Nat) (v d : Bytes) (s : State) : (replyRead q k l r f v d s).imageBlobs = s.imageBlobs := by
  simp [replyRead]
@[simp] theorem replyRead_clock (q k l : Nat) (r : Reason) (f : Nat) (v d : Bytes) (s : State) : (replyRead q k l r f v d s).clock = s.clock := by
  simp [replyRead]
@[simp] theorem replyRead_time (q k l : Nat) (r : Reason) (f : Nat) (v d : Bytes) (s : State) : (replyRead q k l r f v d s).time = s.time := by
  simp [replyRead]
@[simp] theorem replyRead_nl (q k l : Nat) (r : Reason) (f : Nat) (v d : Bytes) (s : State) : (replyRead q k l r f v d s).nl = s.nl := by
  simp [replyRead]
@[simp] theorem replyRead_svc (q k l : Nat) (r : Reason) (f : Nat) (v d : Bytes) (s : State) : (replyRead q k l r f v d s).svc = s.svc := by
  simp [replyRead]
@[simp] theorem replyRead_pipe (q k l : Nat) (r : Reason) (f : Nat) (v d : Bytes) (s : State) : (replyRead q k l r f v d s).pipe = s.pipe := by
  simp [replyRead]
@[simp] theorem replyRead_sched (q k l : Nat) (r : Reason) (f : Nat) (v d : Bytes) (s : State) : (replyRead q k l r f v d s).sched = s.sched := by
  simp [replyRead]
@[simp] theorem replyRead_kiln (q k l : Nat) (r : Reason) (f : Nat) (v d : Bytes) (s : State) : (replyRead q k l r f v d s).kiln = s.kiln := by
  simp [replyRead]
@[simp] theorem replyRead_wb (q k l : Nat) (r : Reason) (f : Nat) (v d : Bytes) (s : State) : (replyRead q k l r f v d s).wb = s.wb := by
  simp [replyRead]
@[simp] theorem replyRead_units (q k l : Nat) (r : Reason) (f : Nat) (v d : Bytes) (s : State) : (replyRead q k l r f v d s).units = s.units := by
  simp [replyRead]
@[simp] theorem replyRead_hod (q k l : Nat) (r : Reason) (f : Nat) (v d : Bytes) (s : State) : (replyRead q k l r f v d s).hod = s.hod := by
  simp [replyRead]
@[simp] theorem replyRead_guard (q k l : Nat) (r : Reason) (f : Nat) (v d : Bytes) (s : State) : (replyRead q k l r f v d s).guard = s.guard := by
  simp [replyRead]
@[simp] theorem replyRead_tiles (q k l : Nat) (r : Reason) (f : Nat) (v d : Bytes) (s : State) : (replyRead q k l r f v d s).tiles = s.tiles := by
  simp [replyRead]
@[simp] theorem replyRead_bondWas (q k l : Nat) (r : Reason) (f : Nat) (v d : Bytes) (s : State) : (replyRead q k l r f v d s).bondWas = s.bondWas := by
  simp [replyRead]
@[simp] theorem replyRead_mortar (q k l : Nat) (r : Reason) (f : Nat) (v d : Bytes) (s : State) : (replyRead q k l r f v d s).mortar = s.mortar := by
  simp [replyRead]
@[simp] theorem replyRead_integ (q k l : Nat) (r : Reason) (f : Nat) (v d : Bytes) (s : State) : (replyRead q k l r f v d s).integ = s.integ := by
  simp [replyRead]
@[simp] theorem replyRead_fh (q k l : Nat) (r : Reason) (f : Nat) (v d : Bytes) (s : State) : (replyRead q k l r f v d s).fh = s.fh := by
  simp [replyRead]
@[simp] theorem replyRead_dfe (q k l : Nat) (r : Reason) (f : Nat) (v d : Bytes) (s : State) : (replyRead q k l r f v d s).dfe = s.dfe := by
  simp [replyRead]
@[simp] theorem replyRead_mem (q k l : Nat) (r : Reason) (f : Nat) (v d : Bytes) (s : State) : (replyRead q k l r f v d s).mem = s.mem := by
  simp [replyRead]
@[simp] theorem replyRead_power (q k l : Nat) (r : Reason) (f : Nat) (v d : Bytes) (s : State) : (replyRead q k l r f v d s).power = s.power := by
  simp [replyRead]
@[simp] theorem replyRead_boot (q k l : Nat) (r : Reason) (f : Nat) (v d : Bytes) (s : State) : (replyRead q k l r f v d s).boot = s.boot := by
  simp [replyRead]
@[simp] theorem replyRead_freeCtr (q k l : Nat) (r : Reason) (f : Nat) (v d : Bytes) (s : State) : (replyRead q k l r f v d s).freeCtr = s.freeCtr := by
  simp [replyRead]
@[simp] theorem replyRead_pending (q k l : Nat) (r : Reason) (f : Nat) (v d : Bytes) (s : State) : (replyRead q k l r f v d s).pending = s.pending := by
  simp [replyRead]

/-! ## recordCheck -/

@[simp] theorem recordCheck_blobs (k : Nat) (r : Reason) (s : State) : (recordCheck k r s).blobs = s.blobs := rfl
@[simp] theorem recordCheck_image (k : Nat) (r : Reason) (s : State) : (recordCheck k r s).image = s.image := rfl
@[simp] theorem recordCheck_imageBlobs (k : Nat) (r : Reason) (s : State) : (recordCheck k r s).imageBlobs = s.imageBlobs := rfl
@[simp] theorem recordCheck_clock (k : Nat) (r : Reason) (s : State) : (recordCheck k r s).clock = s.clock := rfl
@[simp] theorem recordCheck_time (k : Nat) (r : Reason) (s : State) : (recordCheck k r s).time = s.time := rfl
@[simp] theorem recordCheck_nl (k : Nat) (r : Reason) (s : State) : (recordCheck k r s).nl = s.nl := rfl
@[simp] theorem recordCheck_link (k : Nat) (r : Reason) (s : State) : (recordCheck k r s).link = s.link := rfl
@[simp] theorem recordCheck_svc (k : Nat) (r : Reason) (s : State) : (recordCheck k r s).svc = s.svc := rfl
@[simp] theorem recordCheck_pipe (k : Nat) (r : Reason) (s : State) : (recordCheck k r s).pipe = s.pipe := rfl
@[simp] theorem recordCheck_sched (k : Nat) (r : Reason) (s : State) : (recordCheck k r s).sched = s.sched := rfl
@[simp] theorem recordCheck_kiln (k : Nat) (r : Reason) (s : State) : (recordCheck k r s).kiln = s.kiln := rfl
@[simp] theorem recordCheck_wb (k : Nat) (r : Reason) (s : State) : (recordCheck k r s).wb = s.wb := rfl
@[simp] theorem recordCheck_units (k : Nat) (r : Reason) (s : State) : (recordCheck k r s).units = s.units := rfl
@[simp] theorem recordCheck_hod (k : Nat) (r : Reason) (s : State) : (recordCheck k r s).hod = s.hod := rfl
@[simp] theorem recordCheck_guard (k : Nat) (r : Reason) (s : State) : (recordCheck k r s).guard = s.guard := rfl
@[simp] theorem recordCheck_tiles (k : Nat) (r : Reason) (s : State) : (recordCheck k r s).tiles = s.tiles := rfl
@[simp] theorem recordCheck_bondWas (k : Nat) (r : Reason) (s : State) : (recordCheck k r s).bondWas = s.bondWas := rfl
@[simp] theorem recordCheck_mortar (k : Nat) (r : Reason) (s : State) : (recordCheck k r s).mortar = s.mortar := rfl
@[simp] theorem recordCheck_integ (k : Nat) (r : Reason) (s : State) : (recordCheck k r s).integ = s.integ := rfl
@[simp] theorem recordCheck_fh (k : Nat) (r : Reason) (s : State) : (recordCheck k r s).fh = s.fh := rfl
@[simp] theorem recordCheck_dfe (k : Nat) (r : Reason) (s : State) : (recordCheck k r s).dfe = s.dfe := rfl
@[simp] theorem recordCheck_mem (k : Nat) (r : Reason) (s : State) : (recordCheck k r s).mem = s.mem := rfl
@[simp] theorem recordCheck_power (k : Nat) (r : Reason) (s : State) : (recordCheck k r s).power = s.power := rfl
@[simp] theorem recordCheck_boot (k : Nat) (r : Reason) (s : State) : (recordCheck k r s).boot = s.boot := rfl
@[simp] theorem recordCheck_freeCtr (k : Nat) (r : Reason) (s : State) : (recordCheck k r s).freeCtr = s.freeCtr := rfl
@[simp] theorem recordCheck_pending (k : Nat) (r : Reason) (s : State) : (recordCheck k r s).pending = s.pending := rfl

/-! ## logEnable -/

@[simp] theorem logEnable_blobs (k c : Nat) (r : Reason) (s : State) : (logEnable k c r s).blobs = s.blobs := rfl
@[simp] theorem logEnable_image (k c : Nat) (r : Reason) (s : State) : (logEnable k c r s).image = s.image := rfl
@[simp] theorem logEnable_imageBlobs (k c : Nat) (r : Reason) (s : State) : (logEnable k c r s).imageBlobs = s.imageBlobs := rfl
@[simp] theorem logEnable_clock (k c : Nat) (r : Reason) (s : State) : (logEnable k c r s).clock = s.clock := rfl
@[simp] theorem logEnable_time (k c : Nat) (r : Reason) (s : State) : (logEnable k c r s).time = s.time := rfl
@[simp] theorem logEnable_nl (k c : Nat) (r : Reason) (s : State) : (logEnable k c r s).nl = s.nl := rfl
@[simp] theorem logEnable_link (k c : Nat) (r : Reason) (s : State) : (logEnable k c r s).link = s.link := rfl
@[simp] theorem logEnable_pipe (k c : Nat) (r : Reason) (s : State) : (logEnable k c r s).pipe = s.pipe := rfl
@[simp] theorem logEnable_sched (k c : Nat) (r : Reason) (s : State) : (logEnable k c r s).sched = s.sched := rfl
@[simp] theorem logEnable_kiln (k c : Nat) (r : Reason) (s : State) : (logEnable k c r s).kiln = s.kiln := rfl
@[simp] theorem logEnable_wb (k c : Nat) (r : Reason) (s : State) : (logEnable k c r s).wb = s.wb := rfl
@[simp] theorem logEnable_units (k c : Nat) (r : Reason) (s : State) : (logEnable k c r s).units = s.units := rfl
@[simp] theorem logEnable_hod (k c : Nat) (r : Reason) (s : State) : (logEnable k c r s).hod = s.hod := rfl
@[simp] theorem logEnable_guard (k c : Nat) (r : Reason) (s : State) : (logEnable k c r s).guard = s.guard := rfl
@[simp] theorem logEnable_tiles (k c : Nat) (r : Reason) (s : State) : (logEnable k c r s).tiles = s.tiles := rfl
@[simp] theorem logEnable_bondWas (k c : Nat) (r : Reason) (s : State) : (logEnable k c r s).bondWas = s.bondWas := rfl
@[simp] theorem logEnable_mortar (k c : Nat) (r : Reason) (s : State) : (logEnable k c r s).mortar = s.mortar := rfl
@[simp] theorem logEnable_integ (k c : Nat) (r : Reason) (s : State) : (logEnable k c r s).integ = s.integ := rfl
@[simp] theorem logEnable_fh (k c : Nat) (r : Reason) (s : State) : (logEnable k c r s).fh = s.fh := rfl
@[simp] theorem logEnable_dfe (k c : Nat) (r : Reason) (s : State) : (logEnable k c r s).dfe = s.dfe := rfl
@[simp] theorem logEnable_mem (k c : Nat) (r : Reason) (s : State) : (logEnable k c r s).mem = s.mem := rfl
@[simp] theorem logEnable_power (k c : Nat) (r : Reason) (s : State) : (logEnable k c r s).power = s.power := rfl
@[simp] theorem logEnable_boot (k c : Nat) (r : Reason) (s : State) : (logEnable k c r s).boot = s.boot := rfl
@[simp] theorem logEnable_freeCtr (k c : Nat) (r : Reason) (s : State) : (logEnable k c r s).freeCtr = s.freeCtr := rfl
@[simp] theorem logEnable_pending (k c : Nat) (r : Reason) (s : State) : (logEnable k c r s).pending = s.pending := rfl

/-! ## onWrap -/

@[simp] theorem onWrap_dict (s : State) : (onWrap s).dict = s.dict := by
  unfold onWrap; dsimp only; split <;> rfl
@[simp] theorem onWrap_blobs (s : State) : (onWrap s).blobs = s.blobs := by
  unfold onWrap; dsimp only; split <;> rfl
@[simp] theorem onWrap_image (s : State) : (onWrap s).image = s.image := by
  unfold onWrap; dsimp only; split <;> rfl
@[simp] theorem onWrap_imageBlobs (s : State) : (onWrap s).imageBlobs = s.imageBlobs := by
  unfold onWrap; dsimp only; split <;> rfl
@[simp] theorem onWrap_clock (s : State) : (onWrap s).clock = s.clock := by
  unfold onWrap; dsimp only; split <;> rfl
@[simp] theorem onWrap_nl (s : State) : (onWrap s).nl = s.nl := by
  unfold onWrap; dsimp only; split <;> rfl
@[simp] theorem onWrap_link (s : State) : (onWrap s).link = s.link := by
  unfold onWrap; dsimp only; split <;> rfl
@[simp] theorem onWrap_svc (s : State) : (onWrap s).svc = s.svc := by
  unfold onWrap; dsimp only; split <;> rfl
@[simp] theorem onWrap_pipe (s : State) : (onWrap s).pipe = s.pipe := by
  unfold onWrap; dsimp only; split <;> rfl
@[simp] theorem onWrap_sched (s : State) : (onWrap s).sched = s.sched := by
  unfold onWrap; dsimp only; split <;> rfl
@[simp] theorem onWrap_kiln (s : State) : (onWrap s).kiln = s.kiln := by
  unfold onWrap; dsimp only; split <;> rfl
@[simp] theorem onWrap_wb (s : State) : (onWrap s).wb = s.wb := by
  unfold onWrap; dsimp only; split <;> rfl
@[simp] theorem onWrap_units (s : State) : (onWrap s).units = s.units := by
  unfold onWrap; dsimp only; split <;> rfl
@[simp] theorem onWrap_hod (s : State) : (onWrap s).hod = s.hod := by
  unfold onWrap; dsimp only; split <;> rfl
@[simp] theorem onWrap_tiles (s : State) : (onWrap s).tiles = s.tiles := by
  unfold onWrap; dsimp only; split <;> rfl
@[simp] theorem onWrap_bondWas (s : State) : (onWrap s).bondWas = s.bondWas := by
  unfold onWrap; dsimp only; split <;> rfl
@[simp] theorem onWrap_mortar (s : State) : (onWrap s).mortar = s.mortar := by
  unfold onWrap; dsimp only; split <;> rfl
@[simp] theorem onWrap_integ (s : State) : (onWrap s).integ = s.integ := by
  unfold onWrap; dsimp only; split <;> rfl
@[simp] theorem onWrap_fh (s : State) : (onWrap s).fh = s.fh := by
  unfold onWrap; dsimp only; split <;> rfl
@[simp] theorem onWrap_dfe (s : State) : (onWrap s).dfe = s.dfe := by
  unfold onWrap; dsimp only; split <;> rfl
@[simp] theorem onWrap_mem (s : State) : (onWrap s).mem = s.mem := by
  unfold onWrap; dsimp only; split <;> rfl
@[simp] theorem onWrap_power (s : State) : (onWrap s).power = s.power := by
  unfold onWrap; dsimp only; split <;> rfl
@[simp] theorem onWrap_boot (s : State) : (onWrap s).boot = s.boot := by
  unfold onWrap; dsimp only; split <;> rfl
@[simp] theorem onWrap_freeCtr (s : State) : (onWrap s).freeCtr = s.freeCtr := by
  unfold onWrap; dsimp only; split <;> rfl
@[simp] theorem onWrap_pending (s : State) : (onWrap s).pending = s.pending := by
  unfold onWrap; dsimp only; split <;> rfl

@[simp] theorem onWraps_dict (n : Nat) (s : State) : (onWraps n s).dict = s.dict := by
  induction n generalizing s with
  | zero => rfl
  | succ n ih => rw [onWraps, ih, onWrap_dict]
@[simp] theorem onWraps_blobs (n : Nat) (s : State) : (onWraps n s).blobs = s.blobs := by
  induction n generalizing s with
  | zero => rfl
  | succ n ih => rw [onWraps, ih, onWrap_blobs]
@[simp] theorem onWraps_image (n : Nat) (s : State) : (onWraps n s).image = s.image := by
  induction n generalizing s with
  | zero => rfl
  | succ n ih => rw [onWraps, ih, onWrap_image]
@[simp] theorem onWraps_imageBlobs (n : Nat) (s : State) : (onWraps n s).imageBlobs = s.imageBlobs := by
  induction n generalizing s with
  | zero => rfl
  | succ n ih => rw [onWraps, ih, onWrap_imageBlobs]
@[simp] theorem onWraps_clock (n : Nat) (s : State) : (onWraps n s).clock = s.clock := by
  induction n generalizing s with
  | zero => rfl
  | succ n ih => rw [onWraps, ih, onWrap_clock]
@[simp] theorem onWraps_nl (n : Nat) (s : State) : (onWraps n s).nl = s.nl := by
  induction n generalizing s with
  | zero => rfl
  | succ n ih => rw [onWraps, ih, onWrap_nl]
@[simp] theorem onWraps_link (n : Nat) (s : State) : (onWraps n s).link = s.link := by
  induction n generalizing s with
  | zero => rfl
  | succ n ih => rw [onWraps, ih, onWrap_link]
@[simp] theorem onWraps_svc (n : Nat) (s : State) : (onWraps n s).svc = s.svc := by
  induction n generalizing s with
  | zero => rfl
  | succ n ih => rw [onWraps, ih, onWrap_svc]
@[simp] theorem onWraps_pipe (n : Nat) (s : State) : (onWraps n s).pipe = s.pipe := by
  induction n generalizing s with
  | zero => rfl
  | succ n ih => rw [onWraps, ih, onWrap_pipe]
@[simp] theorem onWraps_sched (n : Nat) (s : State) : (onWraps n s).sched = s.sched := by
  induction n generalizing s with
  | zero => rfl
  | succ n ih => rw [onWraps, ih, onWrap_sched]
@[simp] theorem onWraps_kiln (n : Nat) (s : State) : (onWraps n s).kiln = s.kiln := by
  induction n generalizing s with
  | zero => rfl
  | succ n ih => rw [onWraps, ih, onWrap_kiln]
@[simp] theorem onWraps_wb (n : Nat) (s : State) : (onWraps n s).wb = s.wb := by
  induction n generalizing s with
  | zero => rfl
  | succ n ih => rw [onWraps, ih, onWrap_wb]
@[simp] theorem onWraps_units (n : Nat) (s : State) : (onWraps n s).units = s.units := by
  induction n generalizing s with
  | zero => rfl
  | succ n ih => rw [onWraps, ih, onWrap_units]
@[simp] theorem onWraps_hod (n : Nat) (s : State) : (onWraps n s).hod = s.hod := by
  induction n generalizing s with
  | zero => rfl
  | succ n ih => rw [onWraps, ih, onWrap_hod]
@[simp] theorem onWraps_tiles (n : Nat) (s : State) : (onWraps n s).tiles = s.tiles := by
  induction n generalizing s with
  | zero => rfl
  | succ n ih => rw [onWraps, ih, onWrap_tiles]
@[simp] theorem onWraps_bondWas (n : Nat) (s : State) : (onWraps n s).bondWas = s.bondWas := by
  induction n generalizing s with
  | zero => rfl
  | succ n ih => rw [onWraps, ih, onWrap_bondWas]
@[simp] theorem onWraps_mortar (n : Nat) (s : State) : (onWraps n s).mortar = s.mortar := by
  induction n generalizing s with
  | zero => rfl
  | succ n ih => rw [onWraps, ih, onWrap_mortar]
@[simp] theorem onWraps_integ (n : Nat) (s : State) : (onWraps n s).integ = s.integ := by
  induction n generalizing s with
  | zero => rfl
  | succ n ih => rw [onWraps, ih, onWrap_integ]
@[simp] theorem onWraps_fh (n : Nat) (s : State) : (onWraps n s).fh = s.fh := by
  induction n generalizing s with
  | zero => rfl
  | succ n ih => rw [onWraps, ih, onWrap_fh]
@[simp] theorem onWraps_dfe (n : Nat) (s : State) : (onWraps n s).dfe = s.dfe := by
  induction n generalizing s with
  | zero => rfl
  | succ n ih => rw [onWraps, ih, onWrap_dfe]
@[simp] theorem onWraps_mem (n : Nat) (s : State) : (onWraps n s).mem = s.mem := by
  induction n generalizing s with
  | zero => rfl
  | succ n ih => rw [onWraps, ih, onWrap_mem]
@[simp] theorem onWraps_power (n : Nat) (s : State) : (onWraps n s).power = s.power := by
  induction n generalizing s with
  | zero => rfl
  | succ n ih => rw [onWraps, ih, onWrap_power]
@[simp] theorem onWraps_boot (n : Nat) (s : State) : (onWraps n s).boot = s.boot := by
  induction n generalizing s with
  | zero => rfl
  | succ n ih => rw [onWraps, ih, onWrap_boot]
@[simp] theorem onWraps_freeCtr (n : Nat) (s : State) : (onWraps n s).freeCtr = s.freeCtr := by
  induction n generalizing s with
  | zero => rfl
  | succ n ih => rw [onWraps, ih, onWrap_freeCtr]
@[simp] theorem onWraps_pending (n : Nat) (s : State) : (onWraps n s).pending = s.pending := by
  induction n generalizing s with
  | zero => rfl
  | succ n ih => rw [onWraps, ih, onWrap_pending]

/-! ## advance -/

@[simp] theorem advance_dict (s : State) (n : Nat) : (advance s n).dict = s.dict := by
  simp [advance]
@[simp] theorem advance_blobs (s : State) (n : Nat) : (advance s n).blobs = s.blobs := by
  simp [advance]
@[simp] theorem advance_image (s : State) (n : Nat) : (advance s n).image = s.image := by
  simp [advance]
@[simp] theorem advance_imageBlobs (s : State) (n : Nat) : (advance s n).imageBlobs = s.imageBlobs := by
  simp [advance]
@[simp] theorem advance_nl (s : State) (n : Nat) : (advance s n).nl = s.nl := by
  simp [advance]
@[simp] theorem advance_link (s : State) (n : Nat) : (advance s n).link = s.link := by
  simp [advance]
@[simp] theorem advance_svc (s : State) (n : Nat) : (advance s n).svc = s.svc := by
  simp [advance]
@[simp] theorem advance_pipe (s : State) (n : Nat) : (advance s n).pipe = s.pipe := by
  simp [advance]
@[simp] theorem advance_sched (s : State) (n : Nat) : (advance s n).sched = s.sched := by
  simp [advance]
@[simp] theorem advance_kiln (s : State) (n : Nat) : (advance s n).kiln = s.kiln := by
  simp [advance]
@[simp] theorem advance_wb (s : State) (n : Nat) : (advance s n).wb = s.wb := by
  simp [advance]
@[simp] theorem advance_units (s : State) (n : Nat) : (advance s n).units = s.units := by
  simp [advance]
@[simp] theorem advance_hod (s : State) (n : Nat) : (advance s n).hod = s.hod := by
  simp [advance]
@[simp] theorem advance_tiles (s : State) (n : Nat) : (advance s n).tiles = s.tiles := by
  simp [advance]
@[simp] theorem advance_bondWas (s : State) (n : Nat) : (advance s n).bondWas = s.bondWas := by
  simp [advance]
@[simp] theorem advance_mortar (s : State) (n : Nat) : (advance s n).mortar = s.mortar := by
  simp [advance]
@[simp] theorem advance_integ (s : State) (n : Nat) : (advance s n).integ = s.integ := by
  simp [advance]
@[simp] theorem advance_fh (s : State) (n : Nat) : (advance s n).fh = s.fh := by
  simp [advance]
@[simp] theorem advance_dfe (s : State) (n : Nat) : (advance s n).dfe = s.dfe := by
  simp [advance]
@[simp] theorem advance_mem (s : State) (n : Nat) : (advance s n).mem = s.mem := by
  simp [advance]
@[simp] theorem advance_power (s : State) (n : Nat) : (advance s n).power = s.power := by
  simp [advance]
@[simp] theorem advance_boot (s : State) (n : Nat) : (advance s n).boot = s.boot := by
  simp [advance]
@[simp] theorem advance_freeCtr (s : State) (n : Nat) : (advance s n).freeCtr = s.freeCtr := by
  simp [advance]
@[simp] theorem advance_pending (s : State) (n : Nat) : (advance s n).pending = s.pending := by
  simp [advance]

/-! ## State.setAsked -/

@[simp] theorem State.setAsked_blobs (s : State) (k : Nat) (v : Bool) : (s.setAsked k v).blobs = s.blobs := by
  unfold State.setAsked; split <;> rfl
@[simp] theorem State.setAsked_image (s : State) (k : Nat) (v : Bool) : (s.setAsked k v).image = s.image := by
  unfold State.setAsked; split <;> rfl
@[simp] theorem State.setAsked_imageBlobs (s : State) (k : Nat) (v : Bool) : (s.setAsked k v).imageBlobs = s.imageBlobs := by
  unfold State.setAsked; split <;> rfl
@[simp] theorem State.setAsked_clock (s : State) (k : Nat) (v : Bool) : (s.setAsked k v).clock = s.clock := by
  unfold State.setAsked; split <;> rfl
@[simp] theorem State.setAsked_time (s : State) (k : Nat) (v : Bool) : (s.setAsked k v).time = s.time := by
  unfold State.setAsked; split <;> rfl
@[simp] theorem State.setAsked_nl (s : State) (k : Nat) (v : Bool) : (s.setAsked k v).nl = s.nl := by
  unfold State.setAsked; split <;> rfl
@[simp] theorem State.setAsked_link (s : State) (k : Nat) (v : Bool) : (s.setAsked k v).link = s.link := by
  unfold State.setAsked; split <;> rfl
@[simp] theorem State.setAsked_pipe (s : State) (k : Nat) (v : Bool) : (s.setAsked k v).pipe = s.pipe := by
  unfold State.setAsked; split <;> rfl
@[simp] theorem State.setAsked_sched (s : State) (k : Nat) (v : Bool) : (s.setAsked k v).sched = s.sched := by
  unfold State.setAsked; split <;> rfl
@[simp] theorem State.setAsked_kiln (s : State) (k : Nat) (v : Bool) : (s.setAsked k v).kiln = s.kiln := by
  unfold State.setAsked; split <;> rfl
@[simp] theorem State.setAsked_wb (s : State) (k : Nat) (v : Bool) : (s.setAsked k v).wb = s.wb := by
  unfold State.setAsked; split <;> rfl
@[simp] theorem State.setAsked_units (s : State) (k : Nat) (v : Bool) : (s.setAsked k v).units = s.units := by
  unfold State.setAsked; split <;> rfl
@[simp] theorem State.setAsked_hod (s : State) (k : Nat) (v : Bool) : (s.setAsked k v).hod = s.hod := by
  unfold State.setAsked; split <;> rfl
@[simp] theorem State.setAsked_guard (s : State) (k : Nat) (v : Bool) : (s.setAsked k v).guard = s.guard := by
  unfold State.setAsked; split <;> rfl
@[simp] theorem State.setAsked_tiles (s : State) (k : Nat) (v : Bool) : (s.setAsked k v).tiles = s.tiles := by
  unfold State.setAsked; split <;> rfl
@[simp] theorem State.setAsked_bondWas (s : State) (k : Nat) (v : Bool) : (s.setAsked k v).bondWas = s.bondWas := by
  unfold State.setAsked; split <;> rfl
@[simp] theorem State.setAsked_mortar (s : State) (k : Nat) (v : Bool) : (s.setAsked k v).mortar = s.mortar := by
  unfold State.setAsked; split <;> rfl
@[simp] theorem State.setAsked_integ (s : State) (k : Nat) (v : Bool) : (s.setAsked k v).integ = s.integ := by
  unfold State.setAsked; split <;> rfl
@[simp] theorem State.setAsked_fh (s : State) (k : Nat) (v : Bool) : (s.setAsked k v).fh = s.fh := by
  unfold State.setAsked; split <;> rfl
@[simp] theorem State.setAsked_dfe (s : State) (k : Nat) (v : Bool) : (s.setAsked k v).dfe = s.dfe := by
  unfold State.setAsked; split <;> rfl
@[simp] theorem State.setAsked_mem (s : State) (k : Nat) (v : Bool) : (s.setAsked k v).mem = s.mem := by
  unfold State.setAsked; split <;> rfl
@[simp] theorem State.setAsked_power (s : State) (k : Nat) (v : Bool) : (s.setAsked k v).power = s.power := by
  unfold State.setAsked; split <;> rfl
@[simp] theorem State.setAsked_boot (s : State) (k : Nat) (v : Bool) : (s.setAsked k v).boot = s.boot := by
  unfold State.setAsked; split <;> rfl
@[simp] theorem State.setAsked_freeCtr (s : State) (k : Nat) (v : Bool) : (s.setAsked k v).freeCtr = s.freeCtr := by
  unfold State.setAsked; split <;> rfl
@[simp] theorem State.setAsked_pending (s : State) (k : Nat) (v : Bool) : (s.setAsked k v).pending = s.pending := by
  unfold State.setAsked; split <;> rfl

/-! ## State.unlist -/

@[simp] theorem State.unlist_dict (s : State) (k : Nat) : (s.unlist k).dict = s.dict := rfl
@[simp] theorem State.unlist_blobs (s : State) (k : Nat) : (s.unlist k).blobs = s.blobs := rfl
@[simp] theorem State.unlist_image (s : State) (k : Nat) : (s.unlist k).image = s.image := rfl
@[simp] theorem State.unlist_imageBlobs (s : State) (k : Nat) : (s.unlist k).imageBlobs = s.imageBlobs := rfl
@[simp] theorem State.unlist_clock (s : State) (k : Nat) : (s.unlist k).clock = s.clock := rfl
@[simp] theorem State.unlist_time (s : State) (k : Nat) : (s.unlist k).time = s.time := rfl
@[simp] theorem State.unlist_nl (s : State) (k : Nat) : (s.unlist k).nl = s.nl := rfl
@[simp] theorem State.unlist_link (s : State) (k : Nat) : (s.unlist k).link = s.link := rfl
@[simp] theorem State.unlist_pipe (s : State) (k : Nat) : (s.unlist k).pipe = s.pipe := rfl
@[simp] theorem State.unlist_sched (s : State) (k : Nat) : (s.unlist k).sched = s.sched := rfl
@[simp] theorem State.unlist_kiln (s : State) (k : Nat) : (s.unlist k).kiln = s.kiln := rfl
@[simp] theorem State.unlist_wb (s : State) (k : Nat) : (s.unlist k).wb = s.wb := rfl
@[simp] theorem State.unlist_units (s : State) (k : Nat) : (s.unlist k).units = s.units := rfl
@[simp] theorem State.unlist_hod (s : State) (k : Nat) : (s.unlist k).hod = s.hod := rfl
@[simp] theorem State.unlist_guard (s : State) (k : Nat) : (s.unlist k).guard = s.guard := rfl
@[simp] theorem State.unlist_tiles (s : State) (k : Nat) : (s.unlist k).tiles = s.tiles := rfl
@[simp] theorem State.unlist_bondWas (s : State) (k : Nat) : (s.unlist k).bondWas = s.bondWas := rfl
@[simp] theorem State.unlist_mortar (s : State) (k : Nat) : (s.unlist k).mortar = s.mortar := rfl
@[simp] theorem State.unlist_integ (s : State) (k : Nat) : (s.unlist k).integ = s.integ := rfl
@[simp] theorem State.unlist_fh (s : State) (k : Nat) : (s.unlist k).fh = s.fh := rfl
@[simp] theorem State.unlist_dfe (s : State) (k : Nat) : (s.unlist k).dfe = s.dfe := rfl
@[simp] theorem State.unlist_mem (s : State) (k : Nat) : (s.unlist k).mem = s.mem := rfl
@[simp] theorem State.unlist_power (s : State) (k : Nat) : (s.unlist k).power = s.power := rfl
@[simp] theorem State.unlist_boot (s : State) (k : Nat) : (s.unlist k).boot = s.boot := rfl
@[simp] theorem State.unlist_freeCtr (s : State) (k : Nat) : (s.unlist k).freeCtr = s.freeCtr := rfl
@[simp] theorem State.unlist_pending (s : State) (k : Nat) : (s.unlist k).pending = s.pending := rfl

end Sys2Proof.Machine
end

