-- ==== Sys2Proof/Laws/Ops.lean ====
section
/-! SUPPORT. What an object reads after the shared operations, and what a host's write does when it is served. -/

namespace Sys2Proof.Machine

open Sys2Proof.Safety

/-! ## Objects -/

@[simp] theorem State.obj_setObj_same (s : State) (k : Nat) (v : Int) : (s.setObj k v).obj k = v :=
  Store.at_putD_same ..

theorem State.obj_setObj_ne (s : State) (k j : Nat) (v : Int) (h : j ≠ k) : (s.setObj k v).obj j = s.obj j :=
  Store.at_putD_ne _ _ _ _ _ _ h

theorem State.obj_setObj (s : State) (k j : Nat) (v : Int) : (s.setObj k v).obj j = if j = k then v else s.obj j := by
  split
  · rename_i h; subst h; simp
  · rename_i h; exact State.obj_setObj_ne s k j v h

@[simp] theorem State.blob_setBlob_same (s : State) (k : Nat) (v : Bytes) : (s.setBlob k v).blob k = v :=
  Store.at_putD_same ..

theorem State.blob_setBlob_ne (s : State) (k j : Nat) (v : Bytes) (h : j ≠ k) : (s.setBlob k v).blob j = s.blob j :=
  Store.at_putD_ne _ _ _ _ _ _ h

/-- Two states with one dictionary read alike. -/
theorem State.obj_congr {s t : State} (h : t.dict = s.dict) (k : Nat) : t.obj k = s.obj k := by
  simp [State.obj, h]

theorem State.blob_congr {s t : State} (h : t.blobs = s.blobs) (k : Nat) : t.blob k = s.blob k := by
  simp [State.blob, h]

@[simp] theorem State.obj_setBlob (s : State) (k j : Nat) (v : Bytes) : (s.setBlob k v).obj j = s.obj j := rfl
@[simp] theorem State.blob_setObj (s : State) (k j : Nat) (v : Int) : (s.setObj k v).blob j = s.blob j := rfl
@[simp] theorem State.obj_send (s : State) (m : Sent) (j : Nat) : (s.send m).obj j = s.obj j := rfl
@[simp] theorem State.blob_send (s : State) (m : Sent) (j : Nat) : (s.send m).blob j = s.blob j := rfl
@[simp] theorem State.obj_free (s : State) (j : Nat) : s.free.2.obj j = s.obj j := rfl
@[simp] theorem State.obj_advance (s : State) (n j : Nat) : (advance s n).obj j = s.obj j :=
  State.obj_congr (advance_dict s n) j
@[simp] theorem State.blob_advance (s : State) (n j : Nat) : (advance s n).blob j = s.blob j :=
  State.blob_congr (advance_blobs s n) j
@[simp] theorem State.blob_bump (s : State) (k n j : Nat) : (s.bump k n).blob j = s.blob j := rfl

theorem State.obj_bump_same (s : State) (k n : Nat) : (s.bump k n).obj k = ((s.nat k + n) % counterTop k : Nat) := by
  simp [State.bump]

theorem State.obj_bump_ne (s : State) (k n j : Nat) (h : j ≠ k) : (s.bump k n).obj j = s.obj j :=
  State.obj_setObj_ne _ _ _ _ h

theorem State.obj_change_same (s : State) (k : Nat) (v : Int) (h : k ≠ O.changeCount) : (s.change k v).obj k = v := by
  unfold State.change
  split
  · assumption
  · rw [State.obj_bump_ne _ _ _ _ h, State.obj_setObj_same]

theorem State.obj_change_ne (s : State) (k j : Nat) (v : Int) (h : j ≠ k) (hc : j ≠ O.changeCount) :
    (s.change k v).obj j = s.obj j := by
  unfold State.change
  split
  · rfl
  · rw [State.obj_bump_ne _ _ _ _ hc, State.obj_setObj_ne _ _ _ _ h]

theorem State.obj_raise_ne (s : State) (k u : Nat) (d : Bytes) (c j : Nat) (h : j ≠ k) (hd : j ≠ O.indicationsDropped) :
    (raise s k u d c).obj j = s.obj j := by
  unfold raise raiseFor
  dsimp only
  split
  · rw [State.obj_bump_ne _ _ _ _ hd, State.obj_bump_ne _ _ _ _ h]
  · exact State.obj_bump_ne _ _ _ _ h

@[simp] theorem send_link_sent (s : State) (m : Sent) : (s.send m).link.sent = s.link.sent ++ [m] := rfl

@[simp] theorem raise_link_sent (s : State) (k u : Nat) (d : Bytes) (c : Nat) : (raise s k u d c).link.sent = s.link.sent := by
  unfold raise raiseFor; dsimp only; split <;> rfl

theorem countReply_obj (r : Reason) (s : State) (j : Nat) (h1 : j ≠ O.transfersServed) (h2 : j ≠ O.transfersRefused)
    (h3 : j ≠ O.busyReplies) : (countReply r s).obj j = s.obj j := by
  unfold countReply
  dsimp only
  split <;> split <;> simp [State.obj_bump_ne, *]

theorem isEnable_counts : isEnable O.transfersServed = false ∧ isEnable O.transfersRefused = false ∧ isEnable O.busyReplies = false := by
  decide +kernel

@[simp] theorem enableByte_countReply (key : Nat) (r : Reason) (s : State) : enableByte key (countReply r s) = enableByte key s := by
  unfold enableByte
  split
  · rename_i h
    have := isEnable_counts
    unfold State.nat
    rw [countReply_obj] <;> rintro rfl <;> simp_all
  · rfl

theorem replyWrite_obj (q k o f n : Nat) (r : Reason) (s : State) (j : Nat) (h1 : j ≠ O.transfersServed) (h2 : j ≠ O.transfersRefused)
    (h3 : j ≠ O.busyReplies) : (replyWrite q k o f n r s).obj j = s.obj j := by
  rw [replyWrite, State.obj_send, countReply_obj _ _ _ h1 h2 h3]

@[simp] theorem replyWrite_blob (q k o f n : Nat) (r : Reason) (s : State) (j : Nat) :
    (replyWrite q k o f n r s).blob j = s.blob j :=
  State.blob_congr (replyWrite_blobs ..) j

@[simp] theorem replyWrite_link_sent (q k o f n : Nat) (r : Reason) (s : State) :
    (replyWrite q k o f n r s).link.sent =
      s.link.sent ++ [.dictReply ⟨q, 0x0302, r, k, o, f, n, enableByte k s, [], false⟩] := by
  simp [replyWrite]

@[simp] theorem enableByte_replyWrite (key q k o f n : Nat) (r : Reason) (s : State) :
    enableByte key (replyWrite q k o f n r s) = enableByte key s := by
  rw [replyWrite, show enableByte key ((countReply r s).send _) = enableByte key (countReply r s) from rfl, enableByte_countReply]

/-! ## Host writes -/

@[simp] theorem State.ready_advance (s : State) (n : Nat) : (advance s n).ready = s.ready := by
  simp [State.ready, State.serving, State.latching]

@[simp] theorem writeTests_advance (key n : Nat) (v : Val) (s : State) (d : Nat) :
    writeTests key n v (advance s d) = writeTests key n v s := by
  simp [writeTests, lacksSession, accessTest, compoundOk, newCarrierTest, State.isOff, State.noCarrier, State.chainUser, State.inGang, State.gang,
    State.nat]

@[simp] theorem segmentTests_advance (key n : Nat) (s : State) (d : Nat) : segmentTests key n (advance s d) = segmentTests key n s := by
  simp [segmentTests, lacksSession, accessTest, compoundOk, State.isOff, State.noCarrier, State.chainUser, State.inGang, State.gang, State.nat]

@[simp] theorem bufferHolds_advance (key : Nat) (v : Val) (s : State) (d : Nat) : bufferHolds key v (advance s d) = bufferHolds key v s := by
  simp [bufferHolds]

theorem writeTests_svc (key n : Nat) (v : Val) (s : State) (u : Service) : writeTests key n v { s with svc := u } = writeTests key n v s := rfl

theorem segmentTests_svc (key n : Nat) (s : State) (u : Service) : segmentTests key n { s with svc := u } = segmentTests key n s := rfl

theorem expireLatch_svc (s : State) : expireLatch s = { s with svc := (expireLatch s).svc } := by
  unfold expireLatch; repeat' split
  all_goals rfl

theorem expireMemory_svc (s : State) : expireMemory s = { s with svc := (expireMemory s).svc } := by
  unfold expireMemory; repeat' split
  all_goals rfl

@[simp] theorem expireMemory_buffer (s : State) : (expireMemory s).svc.buffer = s.svc.buffer := by
  unfold expireMemory; repeat' split
  all_goals rfl

/-- A buffer that is open after SEG_TIMEOUT was judged is untouched. -/
theorem expireBuffer_kept (s : State) (h : (expireBuffer s).svc.buffer ≠ none) : expireBuffer s = s := by
  unfold expireBuffer at h ⊢
  split at h
  · rename_i b hb
    split at h
    · exact absurd (by simp [discardBuffer, hb]) h
    · simp_all
  · rename_i hb
    exact absurd hb h

/-- Where the open buffer outlives SEG_TIMEOUT, nothing but the dictionary service can change. -/
theorem expireSegments_kept (key : Nat) (v : Val) (s : State) (h : bufferHolds key v (expireSegments s) = true) :
    expireSegments s = { s with svc := (expireSegments s).svc } := by
  have hb : (expireBuffer (expireLatch s)).svc.buffer ≠ none := by
    intro hn
    simp [bufferHolds, expireSegments, hn] at h
  unfold expireSegments
  rw [expireBuffer_kept _ hb, expireMemory_svc, expireLatch_svc]

theorem valueBytes_length (key : Nat) (v : Val) : (valueBytes key v).length = lengthOf key v := by
  unfold valueBytes lengthOf
  cases rowOf key <;> rfl

/-- A write that is served and passes its tests is answered with the reason of its action. -/
theorem hostWrite_served (x : Xfer) (key : Nat) (v : Val) (act : Action) (s : State) (h : Accepts s x key v) :
    hostWrite x key v act s =
      replyWrite x.seq key 0 (lastOffset (lengthOf key v)) (lengthOf key v) (act (atWrite s x key v)).1 (act (atWrite s x key v)).2 := by
  obtain ⟨hr, ht, hb⟩ := h
  have ht' : writeTests key (lengthOf key v) v (advance s x.dt) = .ok := by rw [writeTests_advance]; exact ht
  unfold hostWrite
  simp only [State.ready_advance, hr, if_true]
  unfold serveWhole atWrite
  simp only [valueBytes_length]
  by_cases hl : lengthOf key v ≤ 1024
  · simp only [hl, if_true, serveMessage, valueBytes_length, ht']
  · obtain ⟨h1, h2⟩ := hb (by omega)
    have hk := expireSegments_kept key v (advance s x.dt) h2
    have h1' : segmentTests key (lengthOf key v) (expireSegments (advance s x.dt)) = .ok := by
      rw [hk, segmentTests_svc, segmentTests_advance]; exact h1
    simp only [hl, if_false, h1', h2, serveMessage, valueBytes_length, if_true, bne_self_eq_false, Bool.false_eq_true]
    rw [hk]
    simp only [writeTests_svc, ht']

@[simp] theorem atWrite_link (s : State) (x : Xfer) (key : Nat) (v : Val) : (atWrite s x key v).link = (advance s x.dt).link := by
  unfold atWrite; dsimp only; split <;> rfl

@[simp] theorem atWrite_obj (s : State) (x : Xfer) (key : Nat) (v : Val) (j : Nat) : (atWrite s x key v).obj j = s.obj j := by
  unfold atWrite; dsimp only; split <;> simp [State.obj]

/-- The reply of a served write. -/
theorem hostWrite_replied (x : Xfer) (key : Nat) (v : Val) (act : Action) (s : State) (h : Accepts s x key v)
    (hs : (act (atWrite s x key v)).2.link.sent = s.link.sent) :
    Replied s (hostWrite x key v act s) x key v (act (atWrite s x key v)).1 := by
  rw [hostWrite_served x key v act s h]
  simp [Replied, hs]

theorem hostWrite_obj (x : Xfer) (key : Nat) (v : Val) (act : Action) (s : State) (h : Accepts s x key v) (j : Nat)
    (h1 : j ≠ O.transfersServed) (h2 : j ≠ O.transfersRefused) (h3 : j ≠ O.busyReplies) :
    (hostWrite x key v act s).obj j = (act (atWrite s x key v)).2.obj j := by
  rw [hostWrite_served x key v act s h, replyWrite_obj _ _ _ _ _ _ _ _ h1 h2 h3]

end Sys2Proof.Machine
end

