-- ==== Sys2Proof/Laws/Frames.lean ====
section
/-! SUPPORT. Frames: what the shared operations leave as it was, in the terms of Safety.lean, and how frames compose. -/

namespace Sys2Proof.Machine

open Sys2Proof.Safety

theorem SameBut.refl (s : State) (ps : List Part) : SameBut s s ps := by
  intro p _; cases p <;> rfl

/-- A frame on a value's table alone: objects agree where the tables do. -/
theorem ObjsBut.refl (s : State) (ks : List Nat) : ObjsBut s s ks := fun _ _ _ => rfl

theorem SameBut.trans {s t u : State} {ps : List Part} (h1 : SameBut s t ps) (h2 : SameBut t u ps) : SameBut s u ps := by
  intro p hp
  have a := h1 p hp
  have b := h2 p hp
  cases p <;> simp_all [Part.same]

theorem SameBut.mono {s t : State} {ps qs : List Part} (h : SameBut s t ps) (hq : ∀ p ∈ ps, p ∈ qs) : SameBut s t qs :=
  fun p hp => h p fun hh => hp (hq p hh)

theorem SameBut.advance (s : State) (n : Nat) (ps : List Part) (h : ∀ p ∈ timeParts, p ∈ ps) :
    SameBut s (Machine.advance s n) ps := by
  intro p hq
  have : p ∉ timeParts := fun hh => hq (h p hh)
  cases p <;> simp_all [Part.same, timeParts]

theorem SameBut.setObj (s : State) (k : Nat) (v : Int) (ps : List Part) (h : Part.dict ∈ ps) : SameBut s (s.setObj k v) ps := by
  intro p hq; cases p <;> simp_all [Part.same]

theorem SameBut.change (s : State) (k : Nat) (v : Int) (ps : List Part) (h : Part.dict ∈ ps) : SameBut s (s.change k v) ps := by
  intro p hq; cases p <;> simp_all [Part.same]

theorem SameBut.bump (s : State) (k n : Nat) (ps : List Part) (h : Part.dict ∈ ps) : SameBut s (s.bump k n) ps := by
  intro p hq; cases p <;> simp_all [Part.same]

theorem SameBut.raise (s : State) (k u : Nat) (d : Bytes) (c : Nat) (ps : List Part) (h : Part.dict ∈ ps) (h2 : Part.link ∈ ps) :
    SameBut s (Machine.raise s k u d c) ps := by
  intro p hq; cases p <;> simp_all [Part.same]

theorem SameBut.hostWrite (x : Xfer) (key : Nat) (v : Val) (act : Action) (s : State) (ps : List Part) (h : Accepts s x key v)
    (hp : SameBut s (act (atWrite s x key v)).2 ps) (h1 : Part.dict ∈ ps) (h2 : Part.link ∈ ps) :
    SameBut s (Machine.hostWrite x key v act s) ps := by
  rw [hostWrite_served x key v act s h]
  intro p hq
  have := hp p hq
  cases p <;> simp_all [Part.same]

theorem ObjsBut.hostWrite (x : Xfer) (key : Nat) (v : Val) (act : Action) (s : State) (ks : List Nat) (h : Accepts s x key v)
    (hp : ∀ k, k ∉ ks → (act (atWrite s x key v)).2.obj k = s.obj k) : ObjsBut s (Machine.hostWrite x key v act s) ks := by
  intro k hk hc
  simp only [List.mem_cons, List.not_mem_nil, or_false, not_or] at hc
  rw [hostWrite_obj x key v act s h k hc.1 hc.2.1 hc.2.2]
  exact hp k hk

/-- A served write whose action answers a reason and a state that has sent nothing: its reply, its objects, and its frame beside that
state. -/
theorem hostWrite_full (x : Xfer) (key : Nat) (v : Val) (act : Action) (s u : State) (r : Reason) (h : Accepts s x key v)
    (ha : act (atWrite s x key v) = (r, u)) (hl : u.link.sent = s.link.sent) :
    Replied s (Machine.hostWrite x key v act s) x key v r
      ∧ SameBut u (Machine.hostWrite x key v act s) [.dict, .link]
      ∧ ∀ j, j ∉ [O.transfersServed, O.transfersRefused, O.busyReplies] → (Machine.hostWrite x key v act s).obj j = u.obj j := by
  rw [hostWrite_served x key v act s h, ha]
  refine ⟨by simp [Replied, hl], ?_, ?_⟩
  · intro p hp
    cases p <;> simp_all [Part.same]
  · intro j hj
    simp only [List.mem_cons, List.not_mem_nil, or_false, not_or] at hj
    exact replyWrite_obj _ _ _ _ _ _ _ _ hj.1 hj.2.1 hj.2.2

/-- A served write from the frame and the objects of its action's state. -/
theorem hostWrite_via (x : Xfer) {key : Nat} {v : Val} {act : Action} {s u : State} {r : Reason} {ps : List Part} {ks : List Nat}
    (h : Accepts s x key v) (ha : act (atWrite s x key v) = (r, u)) (hl : u.link.sent = s.link.sent) (hp : SameBut s u ps)
    (h1 : Part.dict ∈ ps) (h2 : Part.link ∈ ps) (hk : ∀ k, k ∉ ks → u.obj k = s.obj k) :
    Replied s (Machine.hostWrite x key v act s) x key v r ∧ SameBut s (Machine.hostWrite x key v act s) ps
      ∧ ObjsBut s (Machine.hostWrite x key v act s) ks
      ∧ ∀ j, j ∉ [O.transfersServed, O.transfersRefused, O.busyReplies] → (Machine.hostWrite x key v act s).obj j = u.obj j := by
  obtain ⟨a, b, c⟩ := hostWrite_full x key v act s u r h ha hl
  refine ⟨a, SameBut.trans hp (SameBut.mono b (by simp [h1, h2])), ?_, c⟩
  intro k h3 h4
  rw [c k h4, hk k h3]

/-- The blobs of a served write are those of its action's state. -/
theorem hostWrite_blob (x : Xfer) (key : Nat) (v : Val) (act : Action) (s : State) (h : Accepts s x key v) (j : Nat) :
    (Machine.hostWrite x key v act s).blob j = (act (atWrite s x key v)).2.blob j := by
  rw [hostWrite_served x key v act s h, replyWrite_blob]

/-- What a change of an object is follows from the dictionary alone. -/
theorem State.change_dict_congr {s t : State} (h : t.dict = s.dict) (k : Nat) (v : Int) : (t.change k v).dict = (s.change k v).dict := by
  unfold State.change
  rw [State.obj_congr h]
  split
  · exact h
  · simp [State.bump, State.setObj, State.nat, State.obj, h]

/-- A raised event's counter, and its INDICATION. -/
theorem raise_counted (s : State) (k u : Nat) (d : Bytes) (c : Nat) (h : k ≠ O.indicationsDropped) :
    Counted s (Machine.raise s k u d c) k 1 := by
  unfold Machine.raise raiseFor Counted
  dsimp only
  split
  · rw [State.obj_bump_ne _ _ _ _ h, State.obj_bump_same]
  · exact State.obj_bump_same s k 1

theorem raise_indicates (s : State) (k u : Nat) (d : Bytes) (c : Nat) : Indicates s (Machine.raise s k u d c) k u d c := by
  intro h
  unfold Machine.raise raiseFor
  dsimp only
  rw [if_neg (by simpa using h)]
  exact ⟨_, List.mem_append_right _ (List.mem_singleton.mpr rfl), rfl, rfl, rfl, rfl⟩

end Sys2Proof.Machine
end

