-- ==== Sys2Proof/Laws/Enables.lean ====
section
/-! SUPPORT. What a host's write of an enable object does in each of its states (05 Table 5-9). -/

namespace Sys2Proof.Machine

open Sys2Proof.Safety

/-- The enable's current value is set; the state that a read returns stays. -/
@[simp] theorem State.setAsked_obj (s : State) (k : Nat) (v : Bool) (j : Nat) (h : j ≠ O.changeCount) :
    (s.setAsked k v).obj j = s.obj j := by
  unfold State.setAsked
  split
  · rfl
  · rw [State.obj_bump_ne _ _ _ _ h]; rfl

theorem SameBut.setAsked (s : State) (k : Nat) (v : Bool) (ps : List Part) (h : Part.dict ∈ ps) (h2 : Part.svc ∈ ps) :
    SameBut s (s.setAsked k v) ps := by
  intro p hq; cases p <;> simp_all [Part.same]

theorem recordCheck_obj (k : Nat) (r : Reason) (s : State) (j : Nat) (h1 : j ≠ O.lastCheckObject) (h2 : j ≠ O.lastCheckReason) :
    (recordCheck k r s).obj j = s.obj j := by
  rw [recordCheck, State.obj_setObj_ne _ _ _ _ h2, State.obj_setObj_ne _ _ _ _ h1]

theorem logEnable_obj (k c : Nat) (r : Reason) (s : State) (j : Nat) (h1 : j ≠ O.enableLogCount) :
    (logEnable k c r s).obj j = s.obj j :=
  State.obj_bump_ne s O.enableLogCount 1 j h1

/-- The state after a write of 1 to an enable that reads OFF: the check's reason is recorded and logged, and OK or PENDING set the
current value. -/
def EnableRules.afterOn (e : EnableRules) (s : State) : State :=
  let r := e.judge s
  let u := logEnable e.key 0 r (recordCheck e.key r (e.settle r s))
  if r = .ok ∨ r = .pending then u.setAsked e.key true else u

theorem EnableRules.write_on (e : EnableRules) (s : State) (h : s.obj e.key = 0) : e.write 1 s = (e.judge s, e.afterOn s) := by
  unfold EnableRules.write EnableRules.handle EnableRules.afterOn
  simp only [h, stOff, beq_self_eq_true, if_true]
  split <;> rename_i hr
  · rw [if_pos (by simpa using hr)]
  · rw [if_neg (by simpa using hr)]

/-- The state after a write of 0 to an enable that reads ON. -/
def EnableRules.afterOff (e : EnableRules) (s : State) : State :=
  let u := e.stop (s.setObj e.key stStopping)
  (if e.busy u then u else shutDone e.key u).setAsked e.key false

theorem EnableRules.write_off (e : EnableRules) (s : State) (h : s.obj e.key = 1) : e.write 0 s = (.ok, e.afterOff s) := by
  unfold EnableRules.write EnableRules.handle EnableRules.afterOff
  simp [h, stOff, stOn]

end Sys2Proof.Machine
end

