-- ==== Sys2Proof/Laws/PerInstr.lean ====
section
/-! SUPPORT. Laws of every command as syntax: the sequence of the transfer that a well-formed command carries has 48 bits (04 R126), one lemma for
each constructor. -/

namespace Sys2Proof.Laws

/-- The transfer that a command carries, if it is a transfer of channel 0. -/
def xferOf : Instr → Option Xfer
  | .writeLegacyMode x _ => some x
  | .ppsInEdge _ _ _ => none
  | .dfeSyncEdge _ _ => none
  | .pulseRequalify _ => none
  | .ppsLoss _ _ _ => none
  | .todFrameRx _ _ => none
  | .waitToRestoreExpiry _ => none
  | .writeServoEnable x _ => some x
  | .writeSourcePriority x _ _ => some x
  | .writePtpRole x _ => some x
  | .writeAuthMode x _ => some x
  | .guardStepConfirm _ => none
  | .triggerFire _ => none
  | .writeTriggerTarget x _ _ => some x
  | .readCapFifo x _ => some x
  | .ptpMessageRx _ _ _ _ => none
  | .ptpMessageTx _ _ => none
  | .synceOutputResume _ => none
  | .writeNlEnable x _ => some x
  | .nlDetection _ _ _ _ _ => none
  | .nlReceptionCommit _ _ => none
  | .nlResultWritten _ => none
  | .writeAirEpoch x _ => some x
  | .courseTentative _ _ _ => none
  | .courseRevise _ _ _ => none
  | .courseBind _ => none
  | .courseCancel _ => none
  | .dlTbData _ _ _ _ => none
  | .courseAutoBind _ _ => none
  | .courseInAir _ _ => none
  | .courseEgressComplete _ _ => none
  | .outcomeSend _ => none
  | .outcomeAck _ _ _ _ => none
  | .operationLsExpiry _ => none
  | .operationLfCancel _ => none
  | .ucieLaneRepair _ _ => none
  | .ucieModuleLost _ _ => none
  | .ucieModuleRetrained _ _ => none
  | .restoreHoldExpiry _ => none
  | .channelReturn _ => none
  | .sidebandMessageRx _ _ _ _ _ => none
  | .malformedMessageRx _ _ _ => none
  | .resumeOpen _ _ _ _ => none
  | .resumeModeResume _ _ _ _ => none
  | .resumeClose _ _ _ _ => none
  | .writeSessionHold x _ => some x
  | .dictRead x _ _ _ _ _ => some x
  | .dictReadDescriptor x _ _ => some x
  | .dictWrite x _ _ _ _ _ _ => some x
  | .dictRevertImage x _ _ => some x
  | .dictRevertFactory x _ _ => some x
  | .registerWrite x _ _ _ => some x
  | .segmentTimeout _ => none
  | .enableDeferredCheck _ _ => none
  | .readEnableLog x => some x
  | .writeCarrierEnable x _ _ => some x
  | .writeUeContext x _ => some x
  | .writeUeRelease x _ => some x
  | .kilnFeed _ _ => none
  | .kilnAttemptEnd _ _ => none
  | .kilnCancelToken _ => none
  | .kilnEngineFault _ _ => none
  | .leOperationEnd _ => none
  | .leCancelToken _ => none
  | .leEngineFault _ => none
  | .xeEngineFault _ => none
  | .wbDefine x => some x
  | .wbDelete x => some x
  | .writeWbWeights x _ => some x
  | .wbCommit x => some x
  | .wbCopyComplete _ => none
  | .wbSwapDecision _ => none
  | .wbSwapBoundary _ => none
  | .writePortEnable x _ _ => some x
  | .portLinkUp _ => none
  | .fhLinkDown _ _ _ => none
  | .fecBerWindow _ _ _ _ => none
  | .failoverReturn _ => none
  | .portShutdownComplete _ => none
  | .frameRx _ _ _ => none
  | .uplaneMessageRx _ _ _ => none
  | .oneWayDelayMsgRx _ _ _ _ _ _ _ => none
  | .remoteResetResponseRx _ _ _ => none
  | .writeFwdRules x _ => some x
  | .dlCplaneSend _ _ _ _ => none
  | .ulCplaneSend _ _ _ => none
  | .uplaneLaunch _ _ _ _ _ _ => none
  | .upTxLate _ _ _ => none
  | .ulWindowClose _ _ _ => none
  | .owdStartRequest x => some x
  | .owdStartFollowUp x => some x
  | .remoteResetSend x => some x
  | .dfeResetAll x => some x
  | .writeTaps x _ _ _ => some x
  | .commitTaps x _ _ => some x
  | .coefSwapDecision _ => none
  | .coefFadeStart _ => none
  | .coefFadeEnd _ => none
  | .coefCopyComplete _ => none
  | .coefCrcCheck _ _ _ => none
  | .thrBlockEnd _ => none
  | .thrHoldoffEnd _ => none
  | .txWindowOpen _ => none
  | .txWindowClose _ => none
  | .txgateEdge _ _ => none
  | .scalarRegisterOp _ _ _ _ _ => none
  | .scalarImmediateOp _ _ _ _ _ => none
  | .wideImmediate _ _ _ _ _ => none
  | .scalarLoad _ _ _ _ _ _ => none
  | .scalarStore _ _ _ _ _ => none
  | .branch _ _ _ _ _ => none
  | .jump _ _ _ => none
  | .vectorArithmetic _ _ _ _ => none
  | .vectorMultiply _ _ _ _ => none
  | .vectorPermute _ _ _ _ => none
  | .vectorLoad _ _ => none
  | .vectorStore _ _ => none
  | .gather _ _ => none
  | .scatter _ _ _ => none
  | .firstFaultGather _ _ => none
  | .pspan _ _ _ _ _ _ => none
  | .predicateOp _ _ _ _ _ _ _ => none
  | .controlRegisterAccess _ _ _ _ => none
  | .fence _ => none
  | .syscall _ => none
  | .fcall _ => none
  | .breakpoint _ => none
  | .eret _ => none
  | .tend _ _ => none
  | .taskEndReport _ => none
  | .taskStart _ => none
  | .tileCancel _ => none
  | .tileFault _ => none
  | .bondMismatch _ => none
  | .spareSelfTest _ _ => none
  | .writeTileVl x _ _ => some x
  | .tileVlApply _ => none
  | .writeBondMode x _ _ => some x
  | .bondChangeComplete _ => none
  | .fuse _ _ _ _ _ => none
  | .fusedJobSend _ _ => none
  | .fwait _ _ _ => none
  | .ftest _ _ _ => none
  | .fcancel _ _ => none
  | .bfb _ _ _ => none
  | .bff _ _ _ => none
  | .fusedPublication _ _ _ _ => none
  | .dispatch _ _ => none
  | .promotion _ => none
  | .operationEnd _ _ => none
  | .prefetchCopyComplete _ _ => none
  | .prefetchWaitExpiry _ => none
  | .writePartEnable x _ _ => some x
  | .writeTraceEnable x _ => some x
  | .readTraceRecords x => some x
  | .readReq _ _ => none
  | .write _ _ _ _ => none
  | .message _ _ _ => none
  | .readResp _ _ _ _ => none
  | .writeAck _ _ _ => none
  | .messageAck _ _ _ => none
  | .linkReplay _ => none
  | .requestTimeout _ _ => none
  | .requestRetryResend _ _ => none
  | .ringLinkFault _ _ _ => none
  | .foldNoticeRx _ _ _ => none
  | .reverseHoldExpiry _ => none
  | .ringRestore _ => none
  | .jointPathFault _ _ => none
  | .writeArbTable x _ _ => some x
  | .arbCommit x _ => some x
  | .arbSwapDecision _ => none
  | .arbSwap _ => none
  | .edcMismatch _ _ => none
  | .channelRetrainComplete _ _ => none
  | .channelQueueRetry _ _ _ => none
  | .gddr7ChannelLost _ _ => none
  | .gddr7Scrub _ _ _ => none
  | .palletStoreScrub _ _ => none
  | .tileMemoryScrub _ _ => none
  | .writeRetiredPages x _ => some x
  | .writeRetiredBanks x _ => some x
  | .readErrLog x => some x
  | .readMcRecord x => some x
  | .hodDescriptorEnd _ _ => none
  | .hodResponseEnd _ _ _ => none
  | .hodChainSignal _ _ => none
  | .haltHoldExpiry _ _ => none
  | .hodRelease x _ => some x
  | .diagStart x => some x
  | .diagStop x => some x
  | .referenceFrequencyCheck _ => none
  | .guardAudit _ _ => none
  | .guardConfigCrcCheck _ _ => none
  | .powerMeterBlock _ _ => none
  | .guardSelfCheck _ _ => none
  | .guardArmed _ => none
  | .muteRelease x _ => some x
  | .guardResync x => some x
  | .dfeChainFault _ => none
  | .palletSliceFault _ => none
  | .managementCoreWatchdog _ => none
  | .unitRetire x _ => some x
  | .faultClear x => some x
  | .injArm x => some x
  | .injRestore x => some x
  | .readMuteLog x => some x
  | .hostVote x _ _ => some x
  | .domainTransitionStart _ => none
  | .domainDrained _ => none
  | .domainEnterRunComplete _ => none
  | .avsAck _ => none
  | .avsPoll _ => none
  | .pmbusRead _ => none
  | .writeWatchEnable x _ => some x
  | .watchCplaneSend _ _ => none
  | .watchWindowOpen _ => none
  | .watchWindowClose _ => none
  | .coldReset _ => none
  | .warmReset _ => none
  | .resetCmdWarm x => some x
  | .resetCmdCold x => some x
  | .imgErase x => some x
  | .imgData x _ => some x
  | .imgVerify x => some x
  | .imgActivate x => some x
  | .imgConfirm x => some x
  | .rollbackCommit x => some x
  | .attestRequest x => some x
  | .ownerProgram x _ => some x
  | .debugToken x _ => some x
  | .debugClose x => some x
  | .samplePreload _ => none
  | .extest _ => none
  | .jtagReset _ => none
  | .railUndervoltage _ _ _ => none
  | .thermtrip _ => none
  | .gddr7TemperatureReadout _ _ => none
  | .tjCrossesHostCap _ => none
  | .nanosecondsWrap => none
  | .servoUpdate => none
  | .limitWindowClosure => none
  | .authExpiry => none
  | .authStepDecision => none
  | .authStepApply => none
  | .ppsOutPulse => none
  | .listenGapOpen => none
  | .listenGapClose => none
  | .airEpochApply => none
  | .journalWriteComplete => none
  | .sessionHoldExpiry => none
  | .indicationSend => none
  | .owdTimeout => none
  | .remoteResetTimeout => none
  | .dfeCommandReset => none
  | .arbPhaseAlign => none
  | .contextRebuildComplete => none
  | .journalRebuildComplete => none
  | .bucketLeak => none
  | .divergenceComparison => none
  | .muteComplete => none
  | .referenceAbsent => none
  | .rtcStopped => none
  | .guardKeepaliveLoss => none
  | .avsRetry => none
  | .rtcAlarm => none
  | .watchExitComplete => none
  | .powerOnReset => none
  | .updateOperationComplete => none
  | .rollbackBurnComplete => none
  | .attestReportReady => none
  | .jtagBypass => none
  | .idcode => none
  | .rtcOscillatorRuns => none

/-- The sequence of a well-formed transfer. -/
theorem seq_fits {x y : Xfer} (h : some x = some y) (hw : x.wf = true) : y.seq < 2 ^ 48 :=
  Option.some.inj h ▸ of_decide_eq_true hw

/-- The first of two checks that both pass. -/
theorem fst_true {a b : Bool} (h : (a && b) = true) : a = true := ((Bool.and_eq_true a b).mp h).1

end Sys2Proof.Laws

open Sys2Proof Sys2Proof.Laws

/-- The sequence of a well-formed command's transfer fits 48 bits. -/
def Sys2Proof.Laws.SeqFits.Statement (i : Instr) : Prop := ∀ x, xferOf i = some x → i.wf = true → x.seq < 2 ^ 48

theorem Sys2Proof.Laws.SeqFits.writeLegacyMode (x : Xfer) (v : Int) : SeqFits.Statement (.writeLegacyMode x v) :=
  fun _ hy hw => seq_fits hy (fst_true (fst_true hw))
theorem Sys2Proof.Laws.SeqFits.ppsInEdge (dt : Nat) (lowNs : Nat) (sub : Nat) : SeqFits.Statement (.ppsInEdge dt lowNs sub) := nofun
theorem Sys2Proof.Laws.SeqFits.dfeSyncEdge (dt : Nat) (lowNs : Nat) : SeqFits.Statement (.dfeSyncEdge dt lowNs) := nofun
theorem Sys2Proof.Laws.SeqFits.pulseRequalify (input : PulseInput) : SeqFits.Statement (.pulseRequalify input) := nofun
theorem Sys2Proof.Laws.SeqFits.ppsLoss (input : PulseInput) (dt : Nat) (heldNs : Nat) : SeqFits.Statement (.ppsLoss input dt heldNs) := nofun
theorem Sys2Proof.Laws.SeqFits.todFrameRx (dt : Nat) (frame : Bytes) : SeqFits.Statement (.todFrameRx dt frame) := nofun
theorem Sys2Proof.Laws.SeqFits.waitToRestoreExpiry (src : Source) : SeqFits.Statement (.waitToRestoreExpiry src) := nofun
theorem Sys2Proof.Laws.SeqFits.writeServoEnable (x : Xfer) (v : Int) : SeqFits.Statement (.writeServoEnable x v) :=
  fun _ hy hw => seq_fits hy (fst_true (fst_true hw))
theorem Sys2Proof.Laws.SeqFits.writeSourcePriority (x : Xfer) (src : Source) (v : Int) : SeqFits.Statement (.writeSourcePriority x src v) :=
  fun _ hy hw => seq_fits hy (fst_true (fst_true hw))
theorem Sys2Proof.Laws.SeqFits.writePtpRole (x : Xfer) (v : Int) : SeqFits.Statement (.writePtpRole x v) :=
  fun _ hy hw => seq_fits hy (fst_true (fst_true hw))
theorem Sys2Proof.Laws.SeqFits.writeAuthMode (x : Xfer) (v : Int) : SeqFits.Statement (.writeAuthMode x v) :=
  fun _ hy hw => seq_fits hy (fst_true (fst_true hw))
theorem Sys2Proof.Laws.SeqFits.guardStepConfirm (ask : GuardAsk) : SeqFits.Statement (.guardStepConfirm ask) := nofun
theorem Sys2Proof.Laws.SeqFits.triggerFire (n : Nat) : SeqFits.Statement (.triggerFire n) := nofun
theorem Sys2Proof.Laws.SeqFits.writeTriggerTarget (x : Xfer) (n : Nat) (target : Int) : SeqFits.Statement (.writeTriggerTarget x n target) :=
  fun _ hy hw => seq_fits hy (fst_true (fst_true (fst_true hw)))
theorem Sys2Proof.Laws.SeqFits.readCapFifo (x : Xfer) (n : Nat) : SeqFits.Statement (.readCapFifo x n) :=
  fun _ hy hw => seq_fits hy (fst_true hw)
theorem Sys2Proof.Laws.SeqFits.ptpMessageRx (dt : Nat) (port : Nat) (h : PtpHead) (m : PtpMsg) : SeqFits.Statement (.ptpMessageRx dt port h m) := nofun
theorem Sys2Proof.Laws.SeqFits.ptpMessageTx (port : Nat) (m : PtpOut) : SeqFits.Statement (.ptpMessageTx port m) := nofun
theorem Sys2Proof.Laws.SeqFits.synceOutputResume (out : Nat) : SeqFits.Statement (.synceOutputResume out) := nofun
theorem Sys2Proof.Laws.SeqFits.writeNlEnable (x : Xfer) (v : Int) : SeqFits.Statement (.writeNlEnable x v) :=
  fun _ hy hw => seq_fits hy (fst_true (fst_true hw))
theorem Sys2Proof.Laws.SeqFits.nlDetection (dt : Nat) (metric : Nat) (pci : Nat) (type : Nat) (centreHz : Int) : SeqFits.Statement (.nlDetection dt metric pci type centreHz) := nofun
theorem Sys2Proof.Laws.SeqFits.nlReceptionCommit (basis : NlBasis) (clippedPermille : Nat) : SeqFits.Statement (.nlReceptionCommit basis clippedPermille) := nofun
theorem Sys2Proof.Laws.SeqFits.nlResultWritten (m : NlMeasure) : SeqFits.Statement (.nlResultWritten m) := nofun
theorem Sys2Proof.Laws.SeqFits.writeAirEpoch (x : Xfer) (v : Int) : SeqFits.Statement (.writeAirEpoch x v) :=
  fun _ hy hw => seq_fits hy (fst_true (fst_true hw))
theorem Sys2Proof.Laws.SeqFits.courseTentative (h : CourseHdr) (tbBytes : Nat) (desc : Bytes) : SeqFits.Statement (.courseTentative h tbBytes desc) := nofun
theorem Sys2Proof.Laws.SeqFits.courseRevise (h : CourseHdr) (tbBytes : Nat) (desc : Bytes) : SeqFits.Statement (.courseRevise h tbBytes desc) := nofun
theorem Sys2Proof.Laws.SeqFits.courseBind (h : CourseHdr) : SeqFits.Statement (.courseBind h) := nofun
theorem Sys2Proof.Laws.SeqFits.courseCancel (h : CourseHdr) : SeqFits.Statement (.courseCancel h) := nofun
theorem Sys2Proof.Laws.SeqFits.dlTbData (h : CourseHdr) (handle : Nat) (offset : Nat) (data : Bytes) : SeqFits.Statement (.dlTbData h handle offset data) := nofun
theorem Sys2Proof.Laws.SeqFits.courseAutoBind (chan : Nat) (course : Nat) : SeqFits.Statement (.courseAutoBind chan course) := nofun
theorem Sys2Proof.Laws.SeqFits.courseInAir (chan : Nat) (course : Nat) : SeqFits.Statement (.courseInAir chan course) := nofun
theorem Sys2Proof.Laws.SeqFits.courseEgressComplete (chan : Nat) (course : Nat) : SeqFits.Statement (.courseEgressComplete chan course) := nofun
theorem Sys2Proof.Laws.SeqFits.outcomeSend (chan : Nat) : SeqFits.Statement (.outcomeSend chan) := nofun
theorem Sys2Proof.Laws.SeqFits.outcomeAck (dt : Nat) (chan : Nat) (seq : Nat) (credits : Nat) : SeqFits.Statement (.outcomeAck dt chan seq credits) := nofun
theorem Sys2Proof.Laws.SeqFits.operationLsExpiry (tag : Nat) : SeqFits.Statement (.operationLsExpiry tag) := nofun
theorem Sys2Proof.Laws.SeqFits.operationLfCancel (tag : Nat) : SeqFits.Statement (.operationLfCancel tag) := nofun
theorem Sys2Proof.Laws.SeqFits.ucieLaneRepair (module : Nat) (lanes : Nat) : SeqFits.Statement (.ucieLaneRepair module lanes) := nofun
theorem Sys2Proof.Laws.SeqFits.ucieModuleLost (dt : Nat) (module : Nat) : SeqFits.Statement (.ucieModuleLost dt module) := nofun
theorem Sys2Proof.Laws.SeqFits.ucieModuleRetrained (dt : Nat) (module : Nat) : SeqFits.Statement (.ucieModuleRetrained dt module) := nofun
theorem Sys2Proof.Laws.SeqFits.restoreHoldExpiry (module : Nat) : SeqFits.Statement (.restoreHoldExpiry module) := nofun
theorem Sys2Proof.Laws.SeqFits.channelReturn (chan : Nat) : SeqFits.Statement (.channelReturn chan) := nofun
theorem Sys2Proof.Laws.SeqFits.sidebandMessageRx (dt : Nat) (module : Nat) (vendor : Nat) (code : Nat) (data : Bytes) : SeqFits.Statement (.sidebandMessageRx dt module vendor code data) := nofun
theorem Sys2Proof.Laws.SeqFits.malformedMessageRx (dt : Nat) (module : Nat) (units : Bytes) : SeqFits.Statement (.malformedMessageRx dt module units) := nofun
theorem Sys2Proof.Laws.SeqFits.resumeOpen (dt : Nat) (seq : Nat) (hostId : Nat) (credits : List Nat) : SeqFits.Statement (.resumeOpen dt seq hostId credits) := nofun
theorem Sys2Proof.Laws.SeqFits.resumeModeResume (dt : Nat) (seq : Nat) (hostId : Nat) (entries : List ResumeEntry) : SeqFits.Statement (.resumeModeResume dt seq hostId entries) := nofun
theorem Sys2Proof.Laws.SeqFits.resumeClose (dt : Nat) (seq : Nat) (mode : Nat) (hostId : Nat) : SeqFits.Statement (.resumeClose dt seq mode hostId) := nofun
theorem Sys2Proof.Laws.SeqFits.writeSessionHold (x : Xfer) (v : Int) : SeqFits.Statement (.writeSessionHold x v) :=
  fun _ hy hw => seq_fits hy (fst_true (fst_true hw))
theorem Sys2Proof.Laws.SeqFits.dictRead (x : Xfer) (index : Nat) (sub : Nat) (layer : Nat) (offset : Nat) (most : Nat) : SeqFits.Statement (.dictRead x index sub layer offset most) :=
  fun _ hy hw => seq_fits hy (fst_true (fst_true (fst_true (fst_true (fst_true hw)))))
theorem Sys2Proof.Laws.SeqFits.dictReadDescriptor (x : Xfer) (index : Nat) (sub : Nat) : SeqFits.Statement (.dictReadDescriptor x index sub) :=
  fun _ hy hw => seq_fits hy (fst_true (fst_true hw))
theorem Sys2Proof.Laws.SeqFits.dictWrite (x : Xfer) (index : Nat) (sub : Nat) (op : Nat) (offset : Nat) (total : Nat) (data : Bytes) : SeqFits.Statement (.dictWrite x index sub op offset total data) :=
  fun _ hy hw => seq_fits hy (fst_true (fst_true (fst_true (fst_true (fst_true (fst_true hw))))))
theorem Sys2Proof.Laws.SeqFits.dictRevertImage (x : Xfer) (index : Nat) (sub : Nat) : SeqFits.Statement (.dictRevertImage x index sub) :=
  fun _ hy hw => seq_fits hy (fst_true (fst_true hw))
theorem Sys2Proof.Laws.SeqFits.dictRevertFactory (x : Xfer) (index : Nat) (sub : Nat) : SeqFits.Statement (.dictRevertFactory x index sub) :=
  fun _ hy hw => seq_fits hy (fst_true (fst_true hw))
theorem Sys2Proof.Laws.SeqFits.registerWrite (x : Xfer) (index : Nat) (sub : Nat) (data : Bytes) : SeqFits.Statement (.registerWrite x index sub data) :=
  fun _ hy hw => seq_fits hy (fst_true (fst_true hw))
theorem Sys2Proof.Laws.SeqFits.segmentTimeout (read : Bool) : SeqFits.Statement (.segmentTimeout read) := nofun
theorem Sys2Proof.Laws.SeqFits.enableDeferredCheck (index : Nat) (sub : Nat) : SeqFits.Statement (.enableDeferredCheck index sub) := nofun
theorem Sys2Proof.Laws.SeqFits.readEnableLog (x : Xfer) : SeqFits.Statement (.readEnableLog x) :=
  fun _ hy hw => seq_fits hy hw
theorem Sys2Proof.Laws.SeqFits.writeCarrierEnable (x : Xfer) (n : Nat) (v : Int) : SeqFits.Statement (.writeCarrierEnable x n v) :=
  fun _ hy hw => seq_fits hy (fst_true (fst_true (fst_true hw)))
theorem Sys2Proof.Laws.SeqFits.writeUeContext (x : Xfer) (data : Bytes) : SeqFits.Statement (.writeUeContext x data) :=
  fun _ hy hw => seq_fits hy (fst_true hw)
theorem Sys2Proof.Laws.SeqFits.writeUeRelease (x : Xfer) (v : Int) : SeqFits.Statement (.writeUeRelease x v) :=
  fun _ hy hw => seq_fits hy (fst_true (fst_true hw))
theorem Sys2Proof.Laws.SeqFits.kilnFeed (tag : Nat) (arrived : Nat) : SeqFits.Statement (.kilnFeed tag arrived) := nofun
theorem Sys2Proof.Laws.SeqFits.kilnAttemptEnd (tag : Nat) (b : Boundary) : SeqFits.Statement (.kilnAttemptEnd tag b) := nofun
theorem Sys2Proof.Laws.SeqFits.kilnCancelToken (tag : Nat) : SeqFits.Statement (.kilnCancelToken tag) := nofun
theorem Sys2Proof.Laws.SeqFits.kilnEngineFault (kind : KilnKind) (n : Nat) : SeqFits.Statement (.kilnEngineFault kind n) := nofun
theorem Sys2Proof.Laws.SeqFits.leOperationEnd (tag : Nat) : SeqFits.Statement (.leOperationEnd tag) := nofun
theorem Sys2Proof.Laws.SeqFits.leCancelToken (tag : Nat) : SeqFits.Statement (.leCancelToken tag) := nofun
theorem Sys2Proof.Laws.SeqFits.leEngineFault (n : Nat) : SeqFits.Statement (.leEngineFault n) := nofun
theorem Sys2Proof.Laws.SeqFits.xeEngineFault (n : Nat) : SeqFits.Statement (.xeEngineFault n) := nofun
theorem Sys2Proof.Laws.SeqFits.wbDefine (x : Xfer) : SeqFits.Statement (.wbDefine x) :=
  fun _ hy hw => seq_fits hy hw
theorem Sys2Proof.Laws.SeqFits.wbDelete (x : Xfer) : SeqFits.Statement (.wbDelete x) :=
  fun _ hy hw => seq_fits hy hw
theorem Sys2Proof.Laws.SeqFits.writeWbWeights (x : Xfer) (data : Bytes) : SeqFits.Statement (.writeWbWeights x data) :=
  fun _ hy hw => seq_fits hy hw
theorem Sys2Proof.Laws.SeqFits.wbCommit (x : Xfer) : SeqFits.Statement (.wbCommit x) :=
  fun _ hy hw => seq_fits hy hw
theorem Sys2Proof.Laws.SeqFits.wbCopyComplete (entry : Nat) : SeqFits.Statement (.wbCopyComplete entry) := nofun
theorem Sys2Proof.Laws.SeqFits.wbSwapDecision (entry : Nat) : SeqFits.Statement (.wbSwapDecision entry) := nofun
theorem Sys2Proof.Laws.SeqFits.wbSwapBoundary (entry : Nat) : SeqFits.Statement (.wbSwapBoundary entry) := nofun
theorem Sys2Proof.Laws.SeqFits.writePortEnable (x : Xfer) (p : Nat) (v : Int) : SeqFits.Statement (.writePortEnable x p v) :=
  fun _ hy hw => seq_fits hy (fst_true (fst_true (fst_true hw)))
theorem Sys2Proof.Laws.SeqFits.portLinkUp (p : Nat) : SeqFits.Statement (.portLinkUp p) := nofun
theorem Sys2Proof.Laws.SeqFits.fhLinkDown (dt : Nat) (p : Nat) (cause : LinkCause) : SeqFits.Statement (.fhLinkDown dt p cause) := nofun
theorem Sys2Proof.Laws.SeqFits.fecBerWindow (p : Nat) (ber : Nat) (corrected : Nat) (uncorrectable : Nat) : SeqFits.Statement (.fecBerWindow p ber corrected uncorrectable) := nofun
theorem Sys2Proof.Laws.SeqFits.failoverReturn (carrier : Nat) : SeqFits.Statement (.failoverReturn carrier) := nofun
theorem Sys2Proof.Laws.SeqFits.portShutdownComplete (p : Nat) : SeqFits.Statement (.portShutdownComplete p) := nofun
theorem Sys2Proof.Laws.SeqFits.frameRx (dt : Nat) (p : Nat) (f : Frame) : SeqFits.Statement (.frameRx dt p f) := nofun
theorem Sys2Proof.Laws.SeqFits.uplaneMessageRx (dt : Nat) (p : Nat) (m : IqMsg) : SeqFits.Statement (.uplaneMessageRx dt p m) := nofun
theorem Sys2Proof.Laws.SeqFits.oneWayDelayMsgRx (dt : Nat) (p : Nat) (src : Nat) (id : Nat) (action : OwdAction) (timePs : Int) (compPs : Int) : SeqFits.Statement (.oneWayDelayMsgRx dt p src id action timePs compPs) := nofun
theorem Sys2Proof.Laws.SeqFits.remoteResetResponseRx (dt : Nat) (p : Nat) (id : Nat) : SeqFits.Statement (.remoteResetResponseRx dt p id) := nofun
theorem Sys2Proof.Laws.SeqFits.writeFwdRules (x : Xfer) (data : Bytes) : SeqFits.Statement (.writeFwdRules x data) :=
  fun _ hy hw => seq_fits hy hw
theorem Sys2Proof.Laws.SeqFits.dlCplaneSend (chan : Nat) (course : Nat) (rec : Nat) (bytes : Nat) : SeqFits.Statement (.dlCplaneSend chan course rec bytes) := nofun
theorem Sys2Proof.Laws.SeqFits.ulCplaneSend (chan : Nat) (course : Nat) (bytes : Nat) : SeqFits.Statement (.ulCplaneSend chan course bytes) := nofun
theorem Sys2Proof.Laws.SeqFits.uplaneLaunch (chan : Nat) (course : Nat) (symbol : Nat) (port : Nat) (bytes : Nat) (power : Int) : SeqFits.Statement (.uplaneLaunch chan course symbol port bytes power) := nofun
theorem Sys2Proof.Laws.SeqFits.upTxLate (chan : Nat) (course : Nat) (symbol : Nat) : SeqFits.Statement (.upTxLate chan course symbol) := nofun
theorem Sys2Proof.Laws.SeqFits.ulWindowClose (chan : Nat) (course : Nat) (symbol : Nat) : SeqFits.Statement (.ulWindowClose chan course symbol) := nofun
theorem Sys2Proof.Laws.SeqFits.owdStartRequest (x : Xfer) : SeqFits.Statement (.owdStartRequest x) :=
  fun _ hy hw => seq_fits hy hw
theorem Sys2Proof.Laws.SeqFits.owdStartFollowUp (x : Xfer) : SeqFits.Statement (.owdStartFollowUp x) :=
  fun _ hy hw => seq_fits hy hw
theorem Sys2Proof.Laws.SeqFits.remoteResetSend (x : Xfer) : SeqFits.Statement (.remoteResetSend x) :=
  fun _ hy hw => seq_fits hy hw
theorem Sys2Proof.Laws.SeqFits.dfeResetAll (x : Xfer) : SeqFits.Statement (.dfeResetAll x) :=
  fun _ hy hw => seq_fits hy hw
theorem Sys2Proof.Laws.SeqFits.writeTaps (x : Xfer) (chain : Nat) (path : Path) (data : Bytes) : SeqFits.Statement (.writeTaps x chain path data) :=
  fun _ hy hw => seq_fits hy (fst_true hw)
theorem Sys2Proof.Laws.SeqFits.commitTaps (x : Xfer) (chain : Nat) (path : Path) : SeqFits.Statement (.commitTaps x chain path) :=
  fun _ hy hw => seq_fits hy (fst_true hw)
theorem Sys2Proof.Laws.SeqFits.coefSwapDecision (chain : Nat) : SeqFits.Statement (.coefSwapDecision chain) := nofun
theorem Sys2Proof.Laws.SeqFits.coefFadeStart (chain : Nat) : SeqFits.Statement (.coefFadeStart chain) := nofun
theorem Sys2Proof.Laws.SeqFits.coefFadeEnd (chain : Nat) : SeqFits.Statement (.coefFadeEnd chain) := nofun
theorem Sys2Proof.Laws.SeqFits.coefCopyComplete (chain : Nat) : SeqFits.Statement (.coefCopyComplete chain) := nofun
theorem Sys2Proof.Laws.SeqFits.coefCrcCheck (chain : Nat) (path : Path) (ok : Bool) : SeqFits.Statement (.coefCrcCheck chain path ok) := nofun
theorem Sys2Proof.Laws.SeqFits.thrBlockEnd (chain : Nat) : SeqFits.Statement (.thrBlockEnd chain) := nofun
theorem Sys2Proof.Laws.SeqFits.thrHoldoffEnd (chain : Nat) : SeqFits.Statement (.thrHoldoffEnd chain) := nofun
theorem Sys2Proof.Laws.SeqFits.txWindowOpen (carrier : Nat) : SeqFits.Statement (.txWindowOpen carrier) := nofun
theorem Sys2Proof.Laws.SeqFits.txWindowClose (carrier : Nat) : SeqFits.Statement (.txWindowClose carrier) := nofun
theorem Sys2Proof.Laws.SeqFits.txgateEdge (g : Nat) (active : Bool) : SeqFits.Statement (.txgateEdge g active) := nofun
theorem Sys2Proof.Laws.SeqFits.scalarRegisterOp (t : Nat) (op : ScalarOp) (gd : Nat) (ga : Nat) (gb : Nat) : SeqFits.Statement (.scalarRegisterOp t op gd ga gb) := nofun
theorem Sys2Proof.Laws.SeqFits.scalarImmediateOp (t : Nat) (op : ScalarOp) (gd : Nat) (ga : Nat) (imm : Int) : SeqFits.Statement (.scalarImmediateOp t op gd ga imm) := nofun
theorem Sys2Proof.Laws.SeqFits.wideImmediate (t : Nat) (gd : Nat) (field : Nat) (keep : Bool) (imm : Nat) : SeqFits.Statement (.wideImmediate t gd field keep imm) := nofun
theorem Sys2Proof.Laws.SeqFits.scalarLoad (t : Nat) (gd : Nat) (ga : Nat) (offset : Int) (size : Nat) (signed : Bool) : SeqFits.Statement (.scalarLoad t gd ga offset size signed) := nofun
theorem Sys2Proof.Laws.SeqFits.scalarStore (t : Nat) (gd : Nat) (ga : Nat) (offset : Int) (size : Nat) : SeqFits.Statement (.scalarStore t gd ga offset size) := nofun
theorem Sys2Proof.Laws.SeqFits.branch (t : Nat) (cond : Cond) (ga : Nat) (gb : Nat) (offset : Int) : SeqFits.Statement (.branch t cond ga gb offset) := nofun
theorem Sys2Proof.Laws.SeqFits.jump (t : Nat) (link : Bool) (offset : Int) : SeqFits.Statement (.jump t link offset) := nofun
theorem Sys2Proof.Laws.SeqFits.vectorArithmetic (t : Nat) (op : VecOp) (sat : Bool) (f : VFields) : SeqFits.Statement (.vectorArithmetic t op sat f) := nofun
theorem Sys2Proof.Laws.SeqFits.vectorMultiply (t : Nat) (op : MulOp) (sat : Bool) (f : VFields) : SeqFits.Statement (.vectorMultiply t op sat f) := nofun
theorem Sys2Proof.Laws.SeqFits.vectorPermute (t : Nat) (op : PermOp) (sat : Bool) (f : VFields) : SeqFits.Statement (.vectorPermute t op sat f) := nofun
theorem Sys2Proof.Laws.SeqFits.vectorLoad (t : Nat) (f : VMFields) : SeqFits.Statement (.vectorLoad t f) := nofun
theorem Sys2Proof.Laws.SeqFits.vectorStore (t : Nat) (f : VMFields) : SeqFits.Statement (.vectorStore t f) := nofun
theorem Sys2Proof.Laws.SeqFits.gather (t : Nat) (f : VGFields) : SeqFits.Statement (.gather t f) := nofun
theorem Sys2Proof.Laws.SeqFits.scatter (t : Nat) (ff : Bool) (f : VGFields) : SeqFits.Statement (.scatter t ff f) := nofun
theorem Sys2Proof.Laws.SeqFits.firstFaultGather (t : Nat) (f : VGFields) : SeqFits.Statement (.firstFaultGather t f) := nofun
theorem Sys2Proof.Laws.SeqFits.pspan (t : Nat) (short : Bool) (pd : Nat) (ga : Nat) (gb : Nat) (et : ElemType) : SeqFits.Statement (.pspan t short pd ga gb et) := nofun
theorem Sys2Proof.Laws.SeqFits.predicateOp (t : Nat) (op : PredOp) (pd : Nat) (pa : Nat) (pb : Nat) (gd : Nat) (et : ElemType) : SeqFits.Statement (.predicateOp t op pd pa pb gd et) := nofun
theorem Sys2Proof.Laws.SeqFits.controlRegisterAccess (t : Nat) (write : Bool) (g : Nat) (number : Nat) : SeqFits.Statement (.controlRegisterAccess t write g number) := nofun
theorem Sys2Proof.Laws.SeqFits.fence (t : Nat) : SeqFits.Statement (.fence t) := nofun
theorem Sys2Proof.Laws.SeqFits.syscall (t : Nat) : SeqFits.Statement (.syscall t) := nofun
theorem Sys2Proof.Laws.SeqFits.fcall (t : Nat) : SeqFits.Statement (.fcall t) := nofun
theorem Sys2Proof.Laws.SeqFits.breakpoint (t : Nat) : SeqFits.Statement (.breakpoint t) := nofun
theorem Sys2Proof.Laws.SeqFits.eret (t : Nat) : SeqFits.Statement (.eret t) := nofun
theorem Sys2Proof.Laws.SeqFits.tend (t : Nat) (g : Nat) : SeqFits.Statement (.tend t g) := nofun
theorem Sys2Proof.Laws.SeqFits.taskEndReport (t : Nat) : SeqFits.Statement (.taskEndReport t) := nofun
theorem Sys2Proof.Laws.SeqFits.taskStart (t : Nat) : SeqFits.Statement (.taskStart t) := nofun
theorem Sys2Proof.Laws.SeqFits.tileCancel (t : Nat) : SeqFits.Statement (.tileCancel t) := nofun
theorem Sys2Proof.Laws.SeqFits.tileFault (t : Nat) : SeqFits.Statement (.tileFault t) := nofun
theorem Sys2Proof.Laws.SeqFits.bondMismatch (pair : Nat) : SeqFits.Statement (.bondMismatch pair) := nofun
theorem Sys2Proof.Laws.SeqFits.spareSelfTest (pair : Nat) (pass : Bool) : SeqFits.Statement (.spareSelfTest pair pass) := nofun
theorem Sys2Proof.Laws.SeqFits.writeTileVl (x : Xfer) (t : Nat) (v : Int) : SeqFits.Statement (.writeTileVl x t v) :=
  fun _ hy hw => seq_fits hy (fst_true (fst_true (fst_true hw)))
theorem Sys2Proof.Laws.SeqFits.tileVlApply (t : Nat) : SeqFits.Statement (.tileVlApply t) := nofun
theorem Sys2Proof.Laws.SeqFits.writeBondMode (x : Xfer) (pair : Nat) (v : Int) : SeqFits.Statement (.writeBondMode x pair v) :=
  fun _ hy hw => seq_fits hy (fst_true (fst_true (fst_true hw)))
theorem Sys2Proof.Laws.SeqFits.bondChangeComplete (pair : Nat) : SeqFits.Statement (.bondChangeComplete pair) := nofun
theorem Sys2Proof.Laws.SeqFits.fuse (t : Nat) (gd : Nat) (ga : Nat) (cls : Nat) (sizes : List Nat) : SeqFits.Statement (.fuse t gd ga cls sizes) := nofun
theorem Sys2Proof.Laws.SeqFits.fusedJobSend (t : Nat) (slot : Nat) : SeqFits.Statement (.fusedJobSend t slot) := nofun
theorem Sys2Proof.Laws.SeqFits.fwait (t : Nat) (gd : Nat) (ga : Nat) : SeqFits.Statement (.fwait t gd ga) := nofun
theorem Sys2Proof.Laws.SeqFits.ftest (t : Nat) (gd : Nat) (ga : Nat) : SeqFits.Statement (.ftest t gd ga) := nofun
theorem Sys2Proof.Laws.SeqFits.fcancel (t : Nat) (ga : Nat) : SeqFits.Statement (.fcancel t ga) := nofun
theorem Sys2Proof.Laws.SeqFits.bfb (t : Nat) (ga : Nat) (offset : Int) : SeqFits.Statement (.bfb t ga offset) := nofun
theorem Sys2Proof.Laws.SeqFits.bff (t : Nat) (cls : Nat) (offset : Int) : SeqFits.Statement (.bff t cls offset) := nofun
theorem Sys2Proof.Laws.SeqFits.fusedPublication (t : Nat) (slot : Nat) (result : Bytes) (outputs : List (Nat × Bytes)) : SeqFits.Statement (.fusedPublication t slot result outputs) := nofun
theorem Sys2Proof.Laws.SeqFits.dispatch (tag : Nat) (unit : Nat) : SeqFits.Statement (.dispatch tag unit) := nofun
theorem Sys2Proof.Laws.SeqFits.promotion (tag : Nat) : SeqFits.Statement (.promotion tag) := nofun
theorem Sys2Proof.Laws.SeqFits.operationEnd (tag : Nat) (how : TaskEnd) : SeqFits.Statement (.operationEnd tag how) := nofun
theorem Sys2Proof.Laws.SeqFits.prefetchCopyComplete (t : Nat) (pallet : Nat) : SeqFits.Statement (.prefetchCopyComplete t pallet) := nofun
theorem Sys2Proof.Laws.SeqFits.prefetchWaitExpiry (t : Nat) : SeqFits.Statement (.prefetchWaitExpiry t) := nofun
theorem Sys2Proof.Laws.SeqFits.writePartEnable (x : Xfer) (p : Nat) (v : Int) : SeqFits.Statement (.writePartEnable x p v) :=
  fun _ hy hw => seq_fits hy (fst_true (fst_true (fst_true hw)))
theorem Sys2Proof.Laws.SeqFits.writeTraceEnable (x : Xfer) (v : Int) : SeqFits.Statement (.writeTraceEnable x v) :=
  fun _ hy hw => seq_fits hy (fst_true (fst_true hw))
theorem Sys2Proof.Laws.SeqFits.readTraceRecords (x : Xfer) : SeqFits.Statement (.readTraceRecords x) :=
  fun _ hy hw => seq_fits hy hw
theorem Sys2Proof.Laws.SeqFits.readReq (pkt : Packet) (found : List MemError) : SeqFits.Statement (.readReq pkt found) := nofun
theorem Sys2Proof.Laws.SeqFits.write (pkt : Packet) (mask : List Nat) (data : Bytes) (found : List MemError) : SeqFits.Statement (.write pkt mask data found) := nofun
theorem Sys2Proof.Laws.SeqFits.message (pkt : Packet) (kind : MsgKind) (payload : Nat) : SeqFits.Statement (.message pkt kind payload) := nofun
theorem Sys2Proof.Laws.SeqFits.readResp (src : Nat) (tag : Nat) (line : Nat) (status : Status) : SeqFits.Statement (.readResp src tag line status) := nofun
theorem Sys2Proof.Laws.SeqFits.writeAck (src : Nat) (tag : Nat) (status : Status) : SeqFits.Statement (.writeAck src tag status) := nofun
theorem Sys2Proof.Laws.SeqFits.messageAck (src : Nat) (tag : Nat) (status : Status) : SeqFits.Statement (.messageAck src tag status) := nofun
theorem Sys2Proof.Laws.SeqFits.linkReplay (ring : Nat) : SeqFits.Statement (.linkReplay ring) := nofun
theorem Sys2Proof.Laws.SeqFits.requestTimeout (src : Nat) (tag : Nat) : SeqFits.Statement (.requestTimeout src tag) := nofun
theorem Sys2Proof.Laws.SeqFits.requestRetryResend (src : Nat) (tag : Nat) : SeqFits.Statement (.requestRetryResend src tag) := nofun
theorem Sys2Proof.Laws.SeqFits.ringLinkFault (ring : Nat) (stop : Nat) (lockLost : Bool) : SeqFits.Statement (.ringLinkFault ring stop lockLost) := nofun
theorem Sys2Proof.Laws.SeqFits.foldNoticeRx (ring : Nat) (stop : Nat) (flits : Nat) : SeqFits.Statement (.foldNoticeRx ring stop flits) := nofun
theorem Sys2Proof.Laws.SeqFits.reverseHoldExpiry (ring : Nat) : SeqFits.Statement (.reverseHoldExpiry ring) := nofun
theorem Sys2Proof.Laws.SeqFits.ringRestore (ring : Nat) : SeqFits.Statement (.ringRestore ring) := nofun
theorem Sys2Proof.Laws.SeqFits.jointPathFault (ring : Nat) (stop : Nat) : SeqFits.Statement (.jointPathFault ring stop) := nofun
theorem Sys2Proof.Laws.SeqFits.writeArbTable (x : Xfer) (mc : Bool) (data : Bytes) : SeqFits.Statement (.writeArbTable x mc data) :=
  fun _ hy hw => seq_fits hy hw
theorem Sys2Proof.Laws.SeqFits.arbCommit (x : Xfer) (mc : Bool) : SeqFits.Statement (.arbCommit x mc) :=
  fun _ hy hw => seq_fits hy hw
theorem Sys2Proof.Laws.SeqFits.arbSwapDecision (mc : Bool) : SeqFits.Statement (.arbSwapDecision mc) := nofun
theorem Sys2Proof.Laws.SeqFits.arbSwap (mc : Bool) : SeqFits.Statement (.arbSwap mc) := nofun
theorem Sys2Proof.Laws.SeqFits.edcMismatch (ch : Nat) (addr : Nat) : SeqFits.Statement (.edcMismatch ch addr) := nofun
theorem Sys2Proof.Laws.SeqFits.channelRetrainComplete (ch : Nat) (ok : Bool) : SeqFits.Statement (.channelRetrainComplete ch ok) := nofun
theorem Sys2Proof.Laws.SeqFits.channelQueueRetry (ch : Nat) (src : Nat) (tag : Nat) : SeqFits.Statement (.channelQueueRetry ch src tag) := nofun
theorem Sys2Proof.Laws.SeqFits.gddr7ChannelLost (ch : Nat) (cause : LossCause) : SeqFits.Statement (.gddr7ChannelLost ch cause) := nofun
theorem Sys2Proof.Laws.SeqFits.gddr7Scrub (ch : Nat) (lines : Nat) (found : List MemError) : SeqFits.Statement (.gddr7Scrub ch lines found) := nofun
theorem Sys2Proof.Laws.SeqFits.palletStoreScrub (slice : Nat) (found : List MemError) : SeqFits.Statement (.palletStoreScrub slice found) := nofun
theorem Sys2Proof.Laws.SeqFits.tileMemoryScrub (t : Nat) (found : List MemError) : SeqFits.Statement (.tileMemoryScrub t found) := nofun
theorem Sys2Proof.Laws.SeqFits.writeRetiredPages (x : Xfer) (data : Bytes) : SeqFits.Statement (.writeRetiredPages x data) :=
  fun _ hy hw => seq_fits hy hw
theorem Sys2Proof.Laws.SeqFits.writeRetiredBanks (x : Xfer) (data : Bytes) : SeqFits.Statement (.writeRetiredBanks x data) :=
  fun _ hy hw => seq_fits hy hw
theorem Sys2Proof.Laws.SeqFits.readErrLog (x : Xfer) : SeqFits.Statement (.readErrLog x) :=
  fun _ hy hw => seq_fits hy hw
theorem Sys2Proof.Laws.SeqFits.readMcRecord (x : Xfer) : SeqFits.Statement (.readMcRecord x) :=
  fun _ hy hw => seq_fits hy hw
theorem Sys2Proof.Laws.SeqFits.hodDescriptorEnd (engine : Nat) (channel : Nat) : SeqFits.Statement (.hodDescriptorEnd engine channel) := nofun
theorem Sys2Proof.Laws.SeqFits.hodResponseEnd (engine : Nat) (channel : Nat) (status : Status) : SeqFits.Statement (.hodResponseEnd engine channel status) := nofun
theorem Sys2Proof.Laws.SeqFits.hodChainSignal (engine : Nat) (channel : Nat) : SeqFits.Statement (.hodChainSignal engine channel) := nofun
theorem Sys2Proof.Laws.SeqFits.haltHoldExpiry (engine : Nat) (selfTestOk : Bool) : SeqFits.Statement (.haltHoldExpiry engine selfTestOk) := nofun
theorem Sys2Proof.Laws.SeqFits.hodRelease (x : Xfer) (v : Int) : SeqFits.Statement (.hodRelease x v) :=
  fun _ hy hw => seq_fits hy (fst_true (fst_true hw))
theorem Sys2Proof.Laws.SeqFits.diagStart (x : Xfer) : SeqFits.Statement (.diagStart x) :=
  fun _ hy hw => seq_fits hy hw
theorem Sys2Proof.Laws.SeqFits.diagStop (x : Xfer) : SeqFits.Statement (.diagStop x) :=
  fun _ hy hw => seq_fits hy hw
theorem Sys2Proof.Laws.SeqFits.referenceFrequencyCheck (cycles : Nat) : SeqFits.Statement (.referenceFrequencyCheck cycles) := nofun
theorem Sys2Proof.Laws.SeqFits.guardAudit (carrier : Nat) (copyOk : Bool) : SeqFits.Statement (.guardAudit carrier copyOk) := nofun
theorem Sys2Proof.Laws.SeqFits.guardConfigCrcCheck (chain : Nat) (ok : Bool) : SeqFits.Statement (.guardConfigCrcCheck chain ok) := nofun
theorem Sys2Proof.Laws.SeqFits.powerMeterBlock (carrier : Nat) (power : Int) : SeqFits.Statement (.powerMeterBlock carrier power) := nofun
theorem Sys2Proof.Laws.SeqFits.guardSelfCheck (pass : Bool) (code : Nat) : SeqFits.Statement (.guardSelfCheck pass code) := nofun
theorem Sys2Proof.Laws.SeqFits.guardArmed (pass : Bool) : SeqFits.Statement (.guardArmed pass) := nofun
theorem Sys2Proof.Laws.SeqFits.muteRelease (x : Xfer) (v : Int) : SeqFits.Statement (.muteRelease x v) :=
  fun _ hy hw => seq_fits hy (fst_true (fst_true hw))
theorem Sys2Proof.Laws.SeqFits.guardResync (x : Xfer) : SeqFits.Statement (.guardResync x) :=
  fun _ hy hw => seq_fits hy hw
theorem Sys2Proof.Laws.SeqFits.dfeChainFault (chain : Nat) : SeqFits.Statement (.dfeChainFault chain) := nofun
theorem Sys2Proof.Laws.SeqFits.palletSliceFault (slice : Nat) : SeqFits.Statement (.palletSliceFault slice) := nofun
theorem Sys2Proof.Laws.SeqFits.managementCoreWatchdog (core : Nat) : SeqFits.Statement (.managementCoreWatchdog core) := nofun
theorem Sys2Proof.Laws.SeqFits.unitRetire (x : Xfer) (v : Int) : SeqFits.Statement (.unitRetire x v) :=
  fun _ hy hw => seq_fits hy (fst_true (fst_true hw))
theorem Sys2Proof.Laws.SeqFits.faultClear (x : Xfer) : SeqFits.Statement (.faultClear x) :=
  fun _ hy hw => seq_fits hy hw
theorem Sys2Proof.Laws.SeqFits.injArm (x : Xfer) : SeqFits.Statement (.injArm x) :=
  fun _ hy hw => seq_fits hy hw
theorem Sys2Proof.Laws.SeqFits.injRestore (x : Xfer) : SeqFits.Statement (.injRestore x) :=
  fun _ hy hw => seq_fits hy hw
theorem Sys2Proof.Laws.SeqFits.readMuteLog (x : Xfer) : SeqFits.Statement (.readMuteLog x) :=
  fun _ hy hw => seq_fits hy hw
theorem Sys2Proof.Laws.SeqFits.hostVote (x : Xfer) (d : Nat) (v : Int) : SeqFits.Statement (.hostVote x d v) :=
  fun _ hy hw => seq_fits hy (fst_true (fst_true (fst_true hw)))
theorem Sys2Proof.Laws.SeqFits.domainTransitionStart (d : Nat) : SeqFits.Statement (.domainTransitionStart d) := nofun
theorem Sys2Proof.Laws.SeqFits.domainDrained (d : Nat) : SeqFits.Statement (.domainDrained d) := nofun
theorem Sys2Proof.Laws.SeqFits.domainEnterRunComplete (d : Nat) : SeqFits.Statement (.domainEnterRunComplete d) := nofun
theorem Sys2Proof.Laws.SeqFits.avsAck (ack : AvsAckField) : SeqFits.Statement (.avsAck ack) := nofun
theorem Sys2Proof.Laws.SeqFits.avsPoll (vdone : Bool) : SeqFits.Statement (.avsPoll vdone) := nofun
theorem Sys2Proof.Laws.SeqFits.pmbusRead (readings : List (Nat × Nat × Int)) : SeqFits.Statement (.pmbusRead readings) := nofun
theorem Sys2Proof.Laws.SeqFits.writeWatchEnable (x : Xfer) (v : Int) : SeqFits.Statement (.writeWatchEnable x v) :=
  fun _ hy hw => seq_fits hy (fst_true (fst_true hw))
theorem Sys2Proof.Laws.SeqFits.watchCplaneSend (k : Nat) (bytes : Nat) : SeqFits.Statement (.watchCplaneSend k bytes) := nofun
theorem Sys2Proof.Laws.SeqFits.watchWindowOpen (k : Nat) : SeqFits.Statement (.watchWindowOpen k) := nofun
theorem Sys2Proof.Laws.SeqFits.watchWindowClose (k : Nat) : SeqFits.Statement (.watchWindowClose k) := nofun
theorem Sys2Proof.Laws.SeqFits.coldReset (lowNs : Nat) : SeqFits.Statement (.coldReset lowNs) := nofun
theorem Sys2Proof.Laws.SeqFits.warmReset (lowNs : Nat) : SeqFits.Statement (.warmReset lowNs) := nofun
theorem Sys2Proof.Laws.SeqFits.resetCmdWarm (x : Xfer) : SeqFits.Statement (.resetCmdWarm x) :=
  fun _ hy hw => seq_fits hy hw
theorem Sys2Proof.Laws.SeqFits.resetCmdCold (x : Xfer) : SeqFits.Statement (.resetCmdCold x) :=
  fun _ hy hw => seq_fits hy hw
theorem Sys2Proof.Laws.SeqFits.imgErase (x : Xfer) : SeqFits.Statement (.imgErase x) :=
  fun _ hy hw => seq_fits hy hw
theorem Sys2Proof.Laws.SeqFits.imgData (x : Xfer) (data : Bytes) : SeqFits.Statement (.imgData x data) :=
  fun _ hy hw => seq_fits hy hw
theorem Sys2Proof.Laws.SeqFits.imgVerify (x : Xfer) : SeqFits.Statement (.imgVerify x) :=
  fun _ hy hw => seq_fits hy hw
theorem Sys2Proof.Laws.SeqFits.imgActivate (x : Xfer) : SeqFits.Statement (.imgActivate x) :=
  fun _ hy hw => seq_fits hy hw
theorem Sys2Proof.Laws.SeqFits.imgConfirm (x : Xfer) : SeqFits.Statement (.imgConfirm x) :=
  fun _ hy hw => seq_fits hy hw
theorem Sys2Proof.Laws.SeqFits.rollbackCommit (x : Xfer) : SeqFits.Statement (.rollbackCommit x) :=
  fun _ hy hw => seq_fits hy hw
theorem Sys2Proof.Laws.SeqFits.attestRequest (x : Xfer) : SeqFits.Statement (.attestRequest x) :=
  fun _ hy hw => seq_fits hy hw
theorem Sys2Proof.Laws.SeqFits.ownerProgram (x : Xfer) (hash : Bytes) : SeqFits.Statement (.ownerProgram x hash) :=
  fun _ hy hw => seq_fits hy (fst_true hw)
theorem Sys2Proof.Laws.SeqFits.debugToken (x : Xfer) (data : Bytes) : SeqFits.Statement (.debugToken x data) :=
  fun _ hy hw => seq_fits hy (fst_true hw)
theorem Sys2Proof.Laws.SeqFits.debugClose (x : Xfer) : SeqFits.Statement (.debugClose x) :=
  fun _ hy hw => seq_fits hy hw
theorem Sys2Proof.Laws.SeqFits.samplePreload (preload : Nat) : SeqFits.Statement (.samplePreload preload) := nofun
theorem Sys2Proof.Laws.SeqFits.extest (cells : Nat) : SeqFits.Statement (.extest cells) := nofun
theorem Sys2Proof.Laws.SeqFits.jtagReset (lowNs : Nat) : SeqFits.Statement (.jtagReset lowNs) := nofun
theorem Sys2Proof.Laws.SeqFits.railUndervoltage (rail : Nat) (lowNs : Nat) (mv : Nat) : SeqFits.Statement (.railUndervoltage rail lowNs mv) := nofun
theorem Sys2Proof.Laws.SeqFits.thermtrip (tj : Int) : SeqFits.Statement (.thermtrip tj) := nofun
theorem Sys2Proof.Laws.SeqFits.gddr7TemperatureReadout (ch : Nat) (temp : Int) : SeqFits.Statement (.gddr7TemperatureReadout ch temp) := nofun
theorem Sys2Proof.Laws.SeqFits.tjCrossesHostCap (tj : Int) : SeqFits.Statement (.tjCrossesHostCap tj) := nofun
theorem Sys2Proof.Laws.SeqFits.nanosecondsWrap : SeqFits.Statement .nanosecondsWrap := nofun
theorem Sys2Proof.Laws.SeqFits.servoUpdate : SeqFits.Statement .servoUpdate := nofun
theorem Sys2Proof.Laws.SeqFits.limitWindowClosure : SeqFits.Statement .limitWindowClosure := nofun
theorem Sys2Proof.Laws.SeqFits.authExpiry : SeqFits.Statement .authExpiry := nofun
theorem Sys2Proof.Laws.SeqFits.authStepDecision : SeqFits.Statement .authStepDecision := nofun
theorem Sys2Proof.Laws.SeqFits.authStepApply : SeqFits.Statement .authStepApply := nofun
theorem Sys2Proof.Laws.SeqFits.ppsOutPulse : SeqFits.Statement .ppsOutPulse := nofun
theorem Sys2Proof.Laws.SeqFits.listenGapOpen : SeqFits.Statement .listenGapOpen := nofun
theorem Sys2Proof.Laws.SeqFits.listenGapClose : SeqFits.Statement .listenGapClose := nofun
theorem Sys2Proof.Laws.SeqFits.airEpochApply : SeqFits.Statement .airEpochApply := nofun
theorem Sys2Proof.Laws.SeqFits.journalWriteComplete : SeqFits.Statement .journalWriteComplete := nofun
theorem Sys2Proof.Laws.SeqFits.sessionHoldExpiry : SeqFits.Statement .sessionHoldExpiry := nofun
theorem Sys2Proof.Laws.SeqFits.indicationSend : SeqFits.Statement .indicationSend := nofun
theorem Sys2Proof.Laws.SeqFits.owdTimeout : SeqFits.Statement .owdTimeout := nofun
theorem Sys2Proof.Laws.SeqFits.remoteResetTimeout : SeqFits.Statement .remoteResetTimeout := nofun
theorem Sys2Proof.Laws.SeqFits.dfeCommandReset : SeqFits.Statement .dfeCommandReset := nofun
theorem Sys2Proof.Laws.SeqFits.arbPhaseAlign : SeqFits.Statement .arbPhaseAlign := nofun
theorem Sys2Proof.Laws.SeqFits.contextRebuildComplete : SeqFits.Statement .contextRebuildComplete := nofun
theorem Sys2Proof.Laws.SeqFits.journalRebuildComplete : SeqFits.Statement .journalRebuildComplete := nofun
theorem Sys2Proof.Laws.SeqFits.bucketLeak : SeqFits.Statement .bucketLeak := nofun
theorem Sys2Proof.Laws.SeqFits.divergenceComparison : SeqFits.Statement .divergenceComparison := nofun
theorem Sys2Proof.Laws.SeqFits.muteComplete : SeqFits.Statement .muteComplete := nofun
theorem Sys2Proof.Laws.SeqFits.referenceAbsent : SeqFits.Statement .referenceAbsent := nofun
theorem Sys2Proof.Laws.SeqFits.rtcStopped : SeqFits.Statement .rtcStopped := nofun
theorem Sys2Proof.Laws.SeqFits.guardKeepaliveLoss : SeqFits.Statement .guardKeepaliveLoss := nofun
theorem Sys2Proof.Laws.SeqFits.avsRetry : SeqFits.Statement .avsRetry := nofun
theorem Sys2Proof.Laws.SeqFits.rtcAlarm : SeqFits.Statement .rtcAlarm := nofun
theorem Sys2Proof.Laws.SeqFits.watchExitComplete : SeqFits.Statement .watchExitComplete := nofun
theorem Sys2Proof.Laws.SeqFits.powerOnReset : SeqFits.Statement .powerOnReset := nofun
theorem Sys2Proof.Laws.SeqFits.updateOperationComplete : SeqFits.Statement .updateOperationComplete := nofun
theorem Sys2Proof.Laws.SeqFits.rollbackBurnComplete : SeqFits.Statement .rollbackBurnComplete := nofun
theorem Sys2Proof.Laws.SeqFits.attestReportReady : SeqFits.Statement .attestReportReady := nofun
theorem Sys2Proof.Laws.SeqFits.jtagBypass : SeqFits.Statement .jtagBypass := nofun
theorem Sys2Proof.Laws.SeqFits.idcode : SeqFits.Statement .idcode := nofun
theorem Sys2Proof.Laws.SeqFits.rtcOscillatorRuns : SeqFits.Statement .rtcOscillatorRuns := nofun
end

