-- ==== Sys2Proof/Laws/Transit.lean ====
section
/-! SUPPORT. What a packet's way across the fabric changes: the fabric itself and GRANTS_LOST, and nothing else; and that in a fabric whose rings
all hold injection nothing moves (14 R464, R479, R487). -/

namespace Sys2Proof.Machine

open Sys2Proof.Safety

/-- A cycle of the fabric changes only the fabric and the object that counts lost grants. -/
theorem fabricCycle_leaves (depth : Nat) (s : State) : Leaves s (fabricCycle depth s) [.dict, .mortar] [O.grantsLost] := by
  constructor
  · intro p hp
    cases p <;> simp_all [Part.same, fabricCycle, State.onMortar]
  · intro k hk
    simp only [List.mem_singleton] at hk
    exact State.obj_bump_ne _ _ _ _ hk

theorem Leaves.refl (s : State) (ps : List Part) (ks : List Nat) : Leaves s s ps ks := ⟨SameBut.refl s ps, fun _ _ => rfl⟩

theorem Leaves.trans {s t u : State} {ps : List Part} {ks : List Nat} (h1 : Leaves s t ps ks) (h2 : Leaves t u ps ks) : Leaves s u ps ks :=
  ⟨SameBut.trans h1.1 h2.1, fun k hk => (h2.2 k hk).trans (h1.2 k hk)⟩

theorem runFabric_leaves (depth : Nat) (want : Flit) :
    ∀ (k : Nat) (s : State), Leaves s (runFabric depth want k s) [.dict, .mortar] [O.grantsLost]
  | 0, s => Leaves.refl s _ _
  | k + 1, s => by
    unfold runFabric
    split
    · exact Leaves.refl s _ _
    · exact Leaves.trans (fabricCycle_leaves depth s) (runFabric_leaves depth want k _)

theorem onMortar_leaves (s : State) (f : Mortar → Mortar) : Leaves s (s.onMortar f) [.dict, .mortar] [O.grantsLost] := by
  refine ⟨fun p hp => ?_, fun _ _ => rfl⟩
  cases p <;> simp_all [Part.same, State.onMortar]

theorem injectPacket_leaves (f : Flit) (n : Nat) (s : State) : Leaves s (injectPacket f n s) [.dict, .mortar] [O.grantsLost] := by
  unfold injectPacket
  split
  · exact Leaves.refl s _ _
  · exact onMortar_leaves s _

/-- A packet that crosses, or does not, changes only the fabric and GRANTS_LOST. -/
theorem transit_leaves (f : Flit) (n : Nat) (s : State) : Leaves s (transit f n s).1 [.dict, .mortar] [O.grantsLost] :=
  Leaves.trans (Leaves.trans (injectPacket_leaves f n s) (runFabric_leaves _ _ _ _)) (onMortar_leaves _ _)

theorem drainFrom_leaves (ring : Nat) : ∀ (k : Nat) (s : State), Leaves s (drainFrom ring k s) [.dict, .mortar] [O.grantsLost]
  | 0, s => Leaves.refl s _ _
  | k + 1, s => by
    unfold drainFrom
    split
    · exact Leaves.trans (fabricCycle_leaves _ s) (drainFrom_leaves ring k _)
    · exact Leaves.refl s _ _

/-- A ring that drains changes only the fabric and GRANTS_LOST. -/
theorem drainRing_leaves (ring : Nat) (s : State) : Leaves s (drainRing ring s) [.dict, .mortar] [O.grantsLost] :=
  Leaves.trans (onMortar_leaves s _) (Leaves.trans (drainFrom_leaves ring _ _) (onMortar_leaves _ _))

/-- A fabric in which every buffer's ring holds injection. -/
def allHeld (s : State) : Bool := s.mortar.flying.all fun b => injectionHeld s b.1

theorem competing_held (depth : Nat) {s : State} (h : allHeld s = true) : competing depth s = [] := by
  unfold competing
  rw [List.filterMap_eq_nil_iff]
  intro b hb
  have := List.all_eq_true.mp h b hb
  split
  · rfl
  · simp [this]

/-- A cycle of such a fabric moves nothing. -/
theorem fabricCycle_held (depth : Nat) {s : State} (h : allHeld s = true) :
    allHeld (fabricCycle depth s) = true ∧ ∀ f ∈ (fabricCycle depth s).mortar.arrived, f ∈ s.mortar.arrived := by
  have hf : (fabricCycle depth s).mortar.flying = s.mortar.flying := by
    simp [fabricCycle, competing_held depth h, onceEach, State.onMortar]
  constructor
  · unfold allHeld
    rw [hf]
    have hi : ∀ k, injectionHeld (fabricCycle depth s) k = injectionHeld s k := by
      intro k
      unfold injectionHeld
      have ho : ∀ r, (fabricCycle depth s).obj (O.ringState r) = s.obj (O.ringState r) := by
        intro r
        apply (fabricCycle_leaves depth s).2
        simp only [List.mem_singleton]
        unfold O.ringState O.grantsLost
        omega
      simp only [ho, hf]
    simp only [hi]
    exact h
  · intro f hm
    simp [fabricCycle, competing_held depth h, onceEach, State.onMortar] at hm
    exact hm.1

theorem runFabric_held (depth : Nat) (want : Flit) : ∀ (k : Nat) {s : State}, allHeld s = true →
    s.mortar.arrived.any (want.samePacket ·) = false → (runFabric depth want k s).mortar.arrived.any (want.samePacket ·) = false
  | 0, _, _, ha => ha
  | k + 1, s, h, ha => by
    unfold runFabric
    split
    · exact ha
    · apply runFabric_held depth want k (fabricCycle_held depth h).1
      rw [List.any_eq_false] at ha ⊢
      exact fun f hf => ha f ((fabricCycle_held depth h).2 f hf)

/-- While its ring holds injection, a packet in a fabric that is otherwise held does not arrive. -/
theorem transit_held (f : Flit) (n : Nat) (s : State) (h : allHeld (injectPacket f n s) = true)
    (ha : (injectPacket f n s).mortar.arrived.any (f.samePacket ·) = false) : (transit f n s).2 = false :=
  runFabric_held _ _ _ h ha

end Sys2Proof.Machine
end

