-- ==== Sys2Proof/Laws/Units.lean ====
section
/-! SUPPORT. The updates of one part of the state: what each sets, and that it leaves every other part, one lemma for each field. -/

namespace Sys2Proof.Machine

/-! ## State.onTime -/

@[simp] theorem State.onTime_dict (s : State) (f : TimeBase → TimeBase) : (s.onTime f).dict = s.dict := rfl
@[simp] theorem State.onTime_blobs (s : State) (f : TimeBase → TimeBase) : (s.onTime f).blobs = s.blobs := rfl
@[simp] theorem State.onTime_image (s : State) (f : TimeBase → TimeBase) : (s.onTime f).image = s.image := rfl
@[simp] theorem State.onTime_imageBlobs (s : State) (f : TimeBase → TimeBase) : (s.onTime f).imageBlobs = s.imageBlobs := rfl
@[simp] theorem State.onTime_clock (s : State) (f : TimeBase → TimeBase) : (s.onTime f).clock = s.clock := rfl
@[simp] theorem State.onTime_nl (s : State) (f : TimeBase → TimeBase) : (s.onTime f).nl = s.nl := rfl
@[simp] theorem State.onTime_link (s : State) (f : TimeBase → TimeBase) : (s.onTime f).link = s.link := rfl
@[simp] theorem State.onTime_svc (s : State) (f : TimeBase → TimeBase) : (s.onTime f).svc = s.svc := rfl
@[simp] theorem State.onTime_pipe (s : State) (f : TimeBase → TimeBase) : (s.onTime f).pipe = s.pipe := rfl
@[simp] theorem State.onTime_sched (s : State) (f : TimeBase → TimeBase) : (s.onTime f).sched = s.sched := rfl
@[simp] theorem State.onTime_kiln (s : State) (f : TimeBase → TimeBase) : (s.onTime f).kiln = s.kiln := rfl
@[simp] theorem State.onTime_wb (s : State) (f : TimeBase → TimeBase) : (s.onTime f).wb = s.wb := rfl
@[simp] theorem State.onTime_units (s : State) (f : TimeBase → TimeBase) : (s.onTime f).units = s.units := rfl
@[simp] theorem State.onTime_hod (s : State) (f : TimeBase → TimeBase) : (s.onTime f).hod = s.hod := rfl
@[simp] theorem State.onTime_guard (s : State) (f : TimeBase → TimeBase) : (s.onTime f).guard = s.guard := rfl
@[simp] theorem State.onTime_tiles (s : State) (f : TimeBase → TimeBase) : (s.onTime f).tiles = s.tiles := rfl
@[simp] theorem State.onTime_bondWas (s : State) (f : TimeBase → TimeBase) : (s.onTime f).bondWas = s.bondWas := rfl
@[simp] theorem State.onTime_mortar (s : State) (f : TimeBase → TimeBase) : (s.onTime f).mortar = s.mortar := rfl
@[simp] theorem State.onTime_integ (s : State) (f : TimeBase → TimeBase) : (s.onTime f).integ = s.integ := rfl
@[simp] theorem State.onTime_fh (s : State) (f : TimeBase → TimeBase) : (s.onTime f).fh = s.fh := rfl
@[simp] theorem State.onTime_dfe (s : State) (f : TimeBase → TimeBase) : (s.onTime f).dfe = s.dfe := rfl
@[simp] theorem State.onTime_mem (s : State) (f : TimeBase → TimeBase) : (s.onTime f).mem = s.mem := rfl
@[simp] theorem State.onTime_power (s : State) (f : TimeBase → TimeBase) : (s.onTime f).power = s.power := rfl
@[simp] theorem State.onTime_boot (s : State) (f : TimeBase → TimeBase) : (s.onTime f).boot = s.boot := rfl
@[simp] theorem State.onTime_freeCtr (s : State) (f : TimeBase → TimeBase) : (s.onTime f).freeCtr = s.freeCtr := rfl
@[simp] theorem State.onTime_pending (s : State) (f : TimeBase → TimeBase) : (s.onTime f).pending = s.pending := rfl

@[simp] theorem State.onTime_time (s : State) (f : TimeBase → TimeBase) : (s.onTime f).time = f s.time := rfl
@[simp] theorem State.onTime_obj (s : State) (f : TimeBase → TimeBase) (k : Nat) : (s.onTime f).obj k = s.obj k := rfl
@[simp] theorem State.onTime_blob (s : State) (f : TimeBase → TimeBase) (k : Nat) : (s.onTime f).blob k = s.blob k := rfl

/-! ## State.onLink -/

@[simp] theorem State.onLink_dict (s : State) (f : Link → Link) : (s.onLink f).dict = s.dict := rfl
@[simp] theorem State.onLink_blobs (s : State) (f : Link → Link) : (s.onLink f).blobs = s.blobs := rfl
@[simp] theorem State.onLink_image (s : State) (f : Link → Link) : (s.onLink f).image = s.image := rfl
@[simp] theorem State.onLink_imageBlobs (s : State) (f : Link → Link) : (s.onLink f).imageBlobs = s.imageBlobs := rfl
@[simp] theorem State.onLink_clock (s : State) (f : Link → Link) : (s.onLink f).clock = s.clock := rfl
@[simp] theorem State.onLink_time (s : State) (f : Link → Link) : (s.onLink f).time = s.time := rfl
@[simp] theorem State.onLink_nl (s : State) (f : Link → Link) : (s.onLink f).nl = s.nl := rfl
@[simp] theorem State.onLink_svc (s : State) (f : Link → Link) : (s.onLink f).svc = s.svc := rfl
@[simp] theorem State.onLink_pipe (s : State) (f : Link → Link) : (s.onLink f).pipe = s.pipe := rfl
@[simp] theorem State.onLink_sched (s : State) (f : Link → Link) : (s.onLink f).sched = s.sched := rfl
@[simp] theorem State.onLink_kiln (s : State) (f : Link → Link) : (s.onLink f).kiln = s.kiln := rfl
@[simp] theorem State.onLink_wb (s : State) (f : Link → Link) : (s.onLink f).wb = s.wb := rfl
@[simp] theorem State.onLink_units (s : State) (f : Link → Link) : (s.onLink f).units = s.units := rfl
@[simp] theorem State.onLink_hod (s : State) (f : Link → Link) : (s.onLink f).hod = s.hod := rfl
@[simp] theorem State.onLink_guard (s : State) (f : Link → Link) : (s.onLink f).guard = s.guard := rfl
@[simp] theorem State.onLink_tiles (s : State) (f : Link → Link) : (s.onLink f).tiles = s.tiles := rfl
@[simp] theorem State.onLink_bondWas (s : State) (f : Link → Link) : (s.onLink f).bondWas = s.bondWas := rfl
@[simp] theorem State.onLink_mortar (s : State) (f : Link → Link) : (s.onLink f).mortar = s.mortar := rfl
@[simp] theorem State.onLink_integ (s : State) (f : Link → Link) : (s.onLink f).integ = s.integ := rfl
@[simp] theorem State.onLink_fh (s : State) (f : Link → Link) : (s.onLink f).fh = s.fh := rfl
@[simp] theorem State.onLink_dfe (s : State) (f : Link → Link) : (s.onLink f).dfe = s.dfe := rfl
@[simp] theorem State.onLink_mem (s : State) (f : Link → Link) : (s.onLink f).mem = s.mem := rfl
@[simp] theorem State.onLink_power (s : State) (f : Link → Link) : (s.onLink f).power = s.power := rfl
@[simp] theorem State.onLink_boot (s : State) (f : Link → Link) : (s.onLink f).boot = s.boot := rfl
@[simp] theorem State.onLink_freeCtr (s : State) (f : Link → Link) : (s.onLink f).freeCtr = s.freeCtr := rfl
@[simp] theorem State.onLink_pending (s : State) (f : Link → Link) : (s.onLink f).pending = s.pending := rfl

@[simp] theorem State.onLink_link (s : State) (f : Link → Link) : (s.onLink f).link = f s.link := rfl
@[simp] theorem State.onLink_obj (s : State) (f : Link → Link) (k : Nat) : (s.onLink f).obj k = s.obj k := rfl
@[simp] theorem State.onLink_blob (s : State) (f : Link → Link) (k : Nat) : (s.onLink f).blob k = s.blob k := rfl

/-! ## State.onNl -/

@[simp] theorem State.onNl_dict (s : State) (f : Listen → Listen) : (s.onNl f).dict = s.dict := rfl
@[simp] theorem State.onNl_blobs (s : State) (f : Listen → Listen) : (s.onNl f).blobs = s.blobs := rfl
@[simp] theorem State.onNl_image (s : State) (f : Listen → Listen) : (s.onNl f).image = s.image := rfl
@[simp] theorem State.onNl_imageBlobs (s : State) (f : Listen → Listen) : (s.onNl f).imageBlobs = s.imageBlobs := rfl
@[simp] theorem State.onNl_clock (s : State) (f : Listen → Listen) : (s.onNl f).clock = s.clock := rfl
@[simp] theorem State.onNl_time (s : State) (f : Listen → Listen) : (s.onNl f).time = s.time := rfl
@[simp] theorem State.onNl_link (s : State) (f : Listen → Listen) : (s.onNl f).link = s.link := rfl
@[simp] theorem State.onNl_svc (s : State) (f : Listen → Listen) : (s.onNl f).svc = s.svc := rfl
@[simp] theorem State.onNl_pipe (s : State) (f : Listen → Listen) : (s.onNl f).pipe = s.pipe := rfl
@[simp] theorem State.onNl_sched (s : State) (f : Listen → Listen) : (s.onNl f).sched = s.sched := rfl
@[simp] theorem State.onNl_kiln (s : State) (f : Listen → Listen) : (s.onNl f).kiln = s.kiln := rfl
@[simp] theorem State.onNl_wb (s : State) (f : Listen → Listen) : (s.onNl f).wb = s.wb := rfl
@[simp] theorem State.onNl_units (s : State) (f : Listen → Listen) : (s.onNl f).units = s.units := rfl
@[simp] theorem State.onNl_hod (s : State) (f : Listen → Listen) : (s.onNl f).hod = s.hod := rfl
@[simp] theorem State.onNl_guard (s : State) (f : Listen → Listen) : (s.onNl f).guard = s.guard := rfl
@[simp] theorem State.onNl_tiles (s : State) (f : Listen → Listen) : (s.onNl f).tiles = s.tiles := rfl
@[simp] theorem State.onNl_bondWas (s : State) (f : Listen → Listen) : (s.onNl f).bondWas = s.bondWas := rfl
@[simp] theorem State.onNl_mortar (s : State) (f : Listen → Listen) : (s.onNl f).mortar = s.mortar := rfl
@[simp] theorem State.onNl_integ (s : State) (f : Listen → Listen) : (s.onNl f).integ = s.integ := rfl
@[simp] theorem State.onNl_fh (s : State) (f : Listen → Listen) : (s.onNl f).fh = s.fh := rfl
@[simp] theorem State.onNl_dfe (s : State) (f : Listen → Listen) : (s.onNl f).dfe = s.dfe := rfl
@[simp] theorem State.onNl_mem (s : State) (f : Listen → Listen) : (s.onNl f).mem = s.mem := rfl
@[simp] theorem State.onNl_power (s : State) (f : Listen → Listen) : (s.onNl f).power = s.power := rfl
@[simp] theorem State.onNl_boot (s : State) (f : Listen → Listen) : (s.onNl f).boot = s.boot := rfl
@[simp] theorem State.onNl_freeCtr (s : State) (f : Listen → Listen) : (s.onNl f).freeCtr = s.freeCtr := rfl
@[simp] theorem State.onNl_pending (s : State) (f : Listen → Listen) : (s.onNl f).pending = s.pending := rfl

@[simp] theorem State.onNl_nl (s : State) (f : Listen → Listen) : (s.onNl f).nl = f s.nl := rfl
@[simp] theorem State.onNl_obj (s : State) (f : Listen → Listen) (k : Nat) : (s.onNl f).obj k = s.obj k := rfl
@[simp] theorem State.onNl_blob (s : State) (f : Listen → Listen) (k : Nat) : (s.onNl f).blob k = s.blob k := rfl

/-! ## State.onInteg -/

@[simp] theorem State.onInteg_dict (s : State) (f : Integrity → Integrity) : (s.onInteg f).dict = s.dict := rfl
@[simp] theorem State.onInteg_blobs (s : State) (f : Integrity → Integrity) : (s.onInteg f).blobs = s.blobs := rfl
@[simp] theorem State.onInteg_image (s : State) (f : Integrity → Integrity) : (s.onInteg f).image = s.image := rfl
@[simp] theorem State.onInteg_imageBlobs (s : State) (f : Integrity → Integrity) : (s.onInteg f).imageBlobs = s.imageBlobs := rfl
@[simp] theorem State.onInteg_clock (s : State) (f : Integrity → Integrity) : (s.onInteg f).clock = s.clock := rfl
@[simp] theorem State.onInteg_time (s : State) (f : Integrity → Integrity) : (s.onInteg f).time = s.time := rfl
@[simp] theorem State.onInteg_nl (s : State) (f : Integrity → Integrity) : (s.onInteg f).nl = s.nl := rfl
@[simp] theorem State.onInteg_link (s : State) (f : Integrity → Integrity) : (s.onInteg f).link = s.link := rfl
@[simp] theorem State.onInteg_svc (s : State) (f : Integrity → Integrity) : (s.onInteg f).svc = s.svc := rfl
@[simp] theorem State.onInteg_pipe (s : State) (f : Integrity → Integrity) : (s.onInteg f).pipe = s.pipe := rfl
@[simp] theorem State.onInteg_sched (s : State) (f : Integrity → Integrity) : (s.onInteg f).sched = s.sched := rfl
@[simp] theorem State.onInteg_kiln (s : State) (f : Integrity → Integrity) : (s.onInteg f).kiln = s.kiln := rfl
@[simp] theorem State.onInteg_wb (s : State) (f : Integrity → Integrity) : (s.onInteg f).wb = s.wb := rfl
@[simp] theorem State.onInteg_units (s : State) (f : Integrity → Integrity) : (s.onInteg f).units = s.units := rfl
@[simp] theorem State.onInteg_hod (s : State) (f : Integrity → Integrity) : (s.onInteg f).hod = s.hod := rfl
@[simp] theorem State.onInteg_guard (s : State) (f : Integrity → Integrity) : (s.onInteg f).guard = s.guard := rfl
@[simp] theorem State.onInteg_tiles (s : State) (f : Integrity → Integrity) : (s.onInteg f).tiles = s.tiles := rfl
@[simp] theorem State.onInteg_bondWas (s : State) (f : Integrity → Integrity) : (s.onInteg f).bondWas = s.bondWas := rfl
@[simp] theorem State.onInteg_mortar (s : State) (f : Integrity → Integrity) : (s.onInteg f).mortar = s.mortar := rfl
@[simp] theorem State.onInteg_fh (s : State) (f : Integrity → Integrity) : (s.onInteg f).fh = s.fh := rfl
@[simp] theorem State.onInteg_dfe (s : State) (f : Integrity → Integrity) : (s.onInteg f).dfe = s.dfe := rfl
@[simp] theorem State.onInteg_mem (s : State) (f : Integrity → Integrity) : (s.onInteg f).mem = s.mem := rfl
@[simp] theorem State.onInteg_power (s : State) (f : Integrity → Integrity) : (s.onInteg f).power = s.power := rfl
@[simp] theorem State.onInteg_boot (s : State) (f : Integrity → Integrity) : (s.onInteg f).boot = s.boot := rfl
@[simp] theorem State.onInteg_freeCtr (s : State) (f : Integrity → Integrity) : (s.onInteg f).freeCtr = s.freeCtr := rfl
@[simp] theorem State.onInteg_pending (s : State) (f : Integrity → Integrity) : (s.onInteg f).pending = s.pending := rfl

@[simp] theorem State.onInteg_integ (s : State) (f : Integrity → Integrity) : (s.onInteg f).integ = f s.integ := rfl
@[simp] theorem State.onInteg_obj (s : State) (f : Integrity → Integrity) (k : Nat) : (s.onInteg f).obj k = s.obj k := rfl
@[simp] theorem State.onInteg_blob (s : State) (f : Integrity → Integrity) (k : Nat) : (s.onInteg f).blob k = s.blob k := rfl

/-! ## State.onMortar -/

@[simp] theorem State.onMortar_dict (s : State) (f : Mortar → Mortar) : (s.onMortar f).dict = s.dict := rfl
@[simp] theorem State.onMortar_blobs (s : State) (f : Mortar → Mortar) : (s.onMortar f).blobs = s.blobs := rfl
@[simp] theorem State.onMortar_image (s : State) (f : Mortar → Mortar) : (s.onMortar f).image = s.image := rfl
@[simp] theorem State.onMortar_imageBlobs (s : State) (f : Mortar → Mortar) : (s.onMortar f).imageBlobs = s.imageBlobs := rfl
@[simp] theorem State.onMortar_clock (s : State) (f : Mortar → Mortar) : (s.onMortar f).clock = s.clock := rfl
@[simp] theorem State.onMortar_time (s : State) (f : Mortar → Mortar) : (s.onMortar f).time = s.time := rfl
@[simp] theorem State.onMortar_nl (s : State) (f : Mortar → Mortar) : (s.onMortar f).nl = s.nl := rfl
@[simp] theorem State.onMortar_link (s : State) (f : Mortar → Mortar) : (s.onMortar f).link = s.link := rfl
@[simp] theorem State.onMortar_svc (s : State) (f : Mortar → Mortar) : (s.onMortar f).svc = s.svc := rfl
@[simp] theorem State.onMortar_pipe (s : State) (f : Mortar → Mortar) : (s.onMortar f).pipe = s.pipe := rfl
@[simp] theorem State.onMortar_sched (s : State) (f : Mortar → Mortar) : (s.onMortar f).sched = s.sched := rfl
@[simp] theorem State.onMortar_kiln (s : State) (f : Mortar → Mortar) : (s.onMortar f).kiln = s.kiln := rfl
@[simp] theorem State.onMortar_wb (s : State) (f : Mortar → Mortar) : (s.onMortar f).wb = s.wb := rfl
@[simp] theorem State.onMortar_units (s : State) (f : Mortar → Mortar) : (s.onMortar f).units = s.units := rfl
@[simp] theorem State.onMortar_hod (s : State) (f : Mortar → Mortar) : (s.onMortar f).hod = s.hod := rfl
@[simp] theorem State.onMortar_guard (s : State) (f : Mortar → Mortar) : (s.onMortar f).guard = s.guard := rfl
@[simp] theorem State.onMortar_tiles (s : State) (f : Mortar → Mortar) : (s.onMortar f).tiles = s.tiles := rfl
@[simp] theorem State.onMortar_bondWas (s : State) (f : Mortar → Mortar) : (s.onMortar f).bondWas = s.bondWas := rfl
@[simp] theorem State.onMortar_integ (s : State) (f : Mortar → Mortar) : (s.onMortar f).integ = s.integ := rfl
@[simp] theorem State.onMortar_fh (s : State) (f : Mortar → Mortar) : (s.onMortar f).fh = s.fh := rfl
@[simp] theorem State.onMortar_dfe (s : State) (f : Mortar → Mortar) : (s.onMortar f).dfe = s.dfe := rfl
@[simp] theorem State.onMortar_mem (s : State) (f : Mortar → Mortar) : (s.onMortar f).mem = s.mem := rfl
@[simp] theorem State.onMortar_power (s : State) (f : Mortar → Mortar) : (s.onMortar f).power = s.power := rfl
@[simp] theorem State.onMortar_boot (s : State) (f : Mortar → Mortar) : (s.onMortar f).boot = s.boot := rfl
@[simp] theorem State.onMortar_freeCtr (s : State) (f : Mortar → Mortar) : (s.onMortar f).freeCtr = s.freeCtr := rfl
@[simp] theorem State.onMortar_pending (s : State) (f : Mortar → Mortar) : (s.onMortar f).pending = s.pending := rfl

@[simp] theorem State.onMortar_mortar (s : State) (f : Mortar → Mortar) : (s.onMortar f).mortar = f s.mortar := rfl
@[simp] theorem State.onMortar_obj (s : State) (f : Mortar → Mortar) (k : Nat) : (s.onMortar f).obj k = s.obj k := rfl
@[simp] theorem State.onMortar_blob (s : State) (f : Mortar → Mortar) (k : Nat) : (s.onMortar f).blob k = s.blob k := rfl

/-! ## State.onGuard -/

@[simp] theorem State.onGuard_dict (s : State) (f : Guard → Guard) : (s.onGuard f).dict = s.dict := rfl
@[simp] theorem State.onGuard_blobs (s : State) (f : Guard → Guard) : (s.onGuard f).blobs = s.blobs := rfl
@[simp] theorem State.onGuard_image (s : State) (f : Guard → Guard) : (s.onGuard f).image = s.image := rfl
@[simp] theorem State.onGuard_imageBlobs (s : State) (f : Guard → Guard) : (s.onGuard f).imageBlobs = s.imageBlobs := rfl
@[simp] theorem State.onGuard_clock (s : State) (f : Guard → Guard) : (s.onGuard f).clock = s.clock := rfl
@[simp] theorem State.onGuard_time (s : State) (f : Guard → Guard) : (s.onGuard f).time = s.time := rfl
@[simp] theorem State.onGuard_nl (s : State) (f : Guard → Guard) : (s.onGuard f).nl = s.nl := rfl
@[simp] theorem State.onGuard_link (s : State) (f : Guard → Guard) : (s.onGuard f).link = s.link := rfl
@[simp] theorem State.onGuard_svc (s : State) (f : Guard → Guard) : (s.onGuard f).svc = s.svc := rfl
@[simp] theorem State.onGuard_pipe (s : State) (f : Guard → Guard) : (s.onGuard f).pipe = s.pipe := rfl
@[simp] theorem State.onGuard_sched (s : State) (f : Guard → Guard) : (s.onGuard f).sched = s.sched := rfl
@[simp] theorem State.onGuard_kiln (s : State) (f : Guard → Guard) : (s.onGuard f).kiln = s.kiln := rfl
@[simp] theorem State.onGuard_wb (s : State) (f : Guard → Guard) : (s.onGuard f).wb = s.wb := rfl
@[simp] theorem State.onGuard_units (s : State) (f : Guard → Guard) : (s.onGuard f).units = s.units := rfl
@[simp] theorem State.onGuard_hod (s : State) (f : Guard → Guard) : (s.onGuard f).hod = s.hod := rfl
@[simp] theorem State.onGuard_tiles (s : State) (f : Guard → Guard) : (s.onGuard f).tiles = s.tiles := rfl
@[simp] theorem State.onGuard_bondWas (s : State) (f : Guard → Guard) : (s.onGuard f).bondWas = s.bondWas := rfl
@[simp] theorem State.onGuard_mortar (s : State) (f : Guard → Guard) : (s.onGuard f).mortar = s.mortar := rfl
@[simp] theorem State.onGuard_integ (s : State) (f : Guard → Guard) : (s.onGuard f).integ = s.integ := rfl
@[simp] theorem State.onGuard_fh (s : State) (f : Guard → Guard) : (s.onGuard f).fh = s.fh := rfl
@[simp] theorem State.onGuard_dfe (s : State) (f : Guard → Guard) : (s.onGuard f).dfe = s.dfe := rfl
@[simp] theorem State.onGuard_mem (s : State) (f : Guard → Guard) : (s.onGuard f).mem = s.mem := rfl
@[simp] theorem State.onGuard_power (s : State) (f : Guard → Guard) : (s.onGuard f).power = s.power := rfl
@[simp] theorem State.onGuard_boot (s : State) (f : Guard → Guard) : (s.onGuard f).boot = s.boot := rfl
@[simp] theorem State.onGuard_freeCtr (s : State) (f : Guard → Guard) : (s.onGuard f).freeCtr = s.freeCtr := rfl
@[simp] theorem State.onGuard_pending (s : State) (f : Guard → Guard) : (s.onGuard f).pending = s.pending := rfl

@[simp] theorem State.onGuard_guard (s : State) (f : Guard → Guard) : (s.onGuard f).guard = f s.guard := rfl
@[simp] theorem State.onGuard_obj (s : State) (f : Guard → Guard) (k : Nat) : (s.onGuard f).obj k = s.obj k := rfl
@[simp] theorem State.onGuard_blob (s : State) (f : Guard → Guard) (k : Nat) : (s.onGuard f).blob k = s.blob k := rfl

/-! ## State.onBoot -/

@[simp] theorem State.onBoot_dict (s : State) (f : Boot → Boot) : (s.onBoot f).dict = s.dict := rfl
@[simp] theorem State.onBoot_blobs (s : State) (f : Boot → Boot) : (s.onBoot f).blobs = s.blobs := rfl
@[simp] theorem State.onBoot_image (s : State) (f : Boot → Boot) : (s.onBoot f).image = s.image := rfl
@[simp] theorem State.onBoot_imageBlobs (s : State) (f : Boot → Boot) : (s.onBoot f).imageBlobs = s.imageBlobs := rfl
@[simp] theorem State.onBoot_clock (s : State) (f : Boot → Boot) : (s.onBoot f).clock = s.clock := rfl
@[simp] theorem State.onBoot_time (s : State) (f : Boot → Boot) : (s.onBoot f).time = s.time := rfl
@[simp] theorem State.onBoot_nl (s : State) (f : Boot → Boot) : (s.onBoot f).nl = s.nl := rfl
@[simp] theorem State.onBoot_link (s : State) (f : Boot → Boot) : (s.onBoot f).link = s.link := rfl
@[simp] theorem State.onBoot_svc (s : State) (f : Boot → Boot) : (s.onBoot f).svc = s.svc := rfl
@[simp] theorem State.onBoot_pipe (s : State) (f : Boot → Boot) : (s.onBoot f).pipe = s.pipe := rfl
@[simp] theorem State.onBoot_sched (s : State) (f : Boot → Boot) : (s.onBoot f).sched = s.sched := rfl
@[simp] theorem State.onBoot_kiln (s : State) (f : Boot → Boot) : (s.onBoot f).kiln = s.kiln := rfl
@[simp] theorem State.onBoot_wb (s : State) (f : Boot → Boot) : (s.onBoot f).wb = s.wb := rfl
@[simp] theorem State.onBoot_units (s : State) (f : Boot → Boot) : (s.onBoot f).units = s.units := rfl
@[simp] theorem State.onBoot_hod (s : State) (f : Boot → Boot) : (s.onBoot f).hod = s.hod := rfl
@[simp] theorem State.onBoot_guard (s : State) (f : Boot → Boot) : (s.onBoot f).guard = s.guard := rfl
@[simp] theorem State.onBoot_tiles (s : State) (f : Boot → Boot) : (s.onBoot f).tiles = s.tiles := rfl
@[simp] theorem State.onBoot_bondWas (s : State) (f : Boot → Boot) : (s.onBoot f).bondWas = s.bondWas := rfl
@[simp] theorem State.onBoot_mortar (s : State) (f : Boot → Boot) : (s.onBoot f).mortar = s.mortar := rfl
@[simp] theorem State.onBoot_integ (s : State) (f : Boot → Boot) : (s.onBoot f).integ = s.integ := rfl
@[simp] theorem State.onBoot_fh (s : State) (f : Boot → Boot) : (s.onBoot f).fh = s.fh := rfl
@[simp] theorem State.onBoot_dfe (s : State) (f : Boot → Boot) : (s.onBoot f).dfe = s.dfe := rfl
@[simp] theorem State.onBoot_mem (s : State) (f : Boot → Boot) : (s.onBoot f).mem = s.mem := rfl
@[simp] theorem State.onBoot_power (s : State) (f : Boot → Boot) : (s.onBoot f).power = s.power := rfl
@[simp] theorem State.onBoot_freeCtr (s : State) (f : Boot → Boot) : (s.onBoot f).freeCtr = s.freeCtr := rfl
@[simp] theorem State.onBoot_pending (s : State) (f : Boot → Boot) : (s.onBoot f).pending = s.pending := rfl

@[simp] theorem State.onBoot_boot (s : State) (f : Boot → Boot) : (s.onBoot f).boot = f s.boot := rfl
@[simp] theorem State.onBoot_obj (s : State) (f : Boot → Boot) (k : Nat) : (s.onBoot f).obj k = s.obj k := rfl
@[simp] theorem State.onBoot_blob (s : State) (f : Boot → Boot) (k : Nat) : (s.onBoot f).blob k = s.blob k := rfl

/-! ## State.onFh -/

@[simp] theorem State.onFh_dict (s : State) (f : Fronthaul → Fronthaul) : (s.onFh f).dict = s.dict := rfl
@[simp] theorem State.onFh_blobs (s : State) (f : Fronthaul → Fronthaul) : (s.onFh f).blobs = s.blobs := rfl
@[simp] theorem State.onFh_image (s : State) (f : Fronthaul → Fronthaul) : (s.onFh f).image = s.image := rfl
@[simp] theorem State.onFh_imageBlobs (s : State) (f : Fronthaul → Fronthaul) : (s.onFh f).imageBlobs = s.imageBlobs := rfl
@[simp] theorem State.onFh_clock (s : State) (f : Fronthaul → Fronthaul) : (s.onFh f).clock = s.clock := rfl
@[simp] theorem State.onFh_time (s : State) (f : Fronthaul → Fronthaul) : (s.onFh f).time = s.time := rfl
@[simp] theorem State.onFh_nl (s : State) (f : Fronthaul → Fronthaul) : (s.onFh f).nl = s.nl := rfl
@[simp] theorem State.onFh_link (s : State) (f : Fronthaul → Fronthaul) : (s.onFh f).link = s.link := rfl
@[simp] theorem State.onFh_svc (s : State) (f : Fronthaul → Fronthaul) : (s.onFh f).svc = s.svc := rfl
@[simp] theorem State.onFh_pipe (s : State) (f : Fronthaul → Fronthaul) : (s.onFh f).pipe = s.pipe := rfl
@[simp] theorem State.onFh_sched (s : State) (f : Fronthaul → Fronthaul) : (s.onFh f).sched = s.sched := rfl
@[simp] theorem State.onFh_kiln (s : State) (f : Fronthaul → Fronthaul) : (s.onFh f).kiln = s.kiln := rfl
@[simp] theorem State.onFh_wb (s : State) (f : Fronthaul → Fronthaul) : (s.onFh f).wb = s.wb := rfl
@[simp] theorem State.onFh_units (s : State) (f : Fronthaul → Fronthaul) : (s.onFh f).units = s.units := rfl
@[simp] theorem State.onFh_hod (s : State) (f : Fronthaul → Fronthaul) : (s.onFh f).hod = s.hod := rfl
@[simp] theorem State.onFh_guard (s : State) (f : Fronthaul → Fronthaul) : (s.onFh f).guard = s.guard := rfl
@[simp] theorem State.onFh_tiles (s : State) (f : Fronthaul → Fronthaul) : (s.onFh f).tiles = s.tiles := rfl
@[simp] theorem State.onFh_bondWas (s : State) (f : Fronthaul → Fronthaul) : (s.onFh f).bondWas = s.bondWas := rfl
@[simp] theorem State.onFh_mortar (s : State) (f : Fronthaul → Fronthaul) : (s.onFh f).mortar = s.mortar := rfl
@[simp] theorem State.onFh_integ (s : State) (f : Fronthaul → Fronthaul) : (s.onFh f).integ = s.integ := rfl
@[simp] theorem State.onFh_dfe (s : State) (f : Fronthaul → Fronthaul) : (s.onFh f).dfe = s.dfe := rfl
@[simp] theorem State.onFh_mem (s : State) (f : Fronthaul → Fronthaul) : (s.onFh f).mem = s.mem := rfl
@[simp] theorem State.onFh_power (s : State) (f : Fronthaul → Fronthaul) : (s.onFh f).power = s.power := rfl
@[simp] theorem State.onFh_boot (s : State) (f : Fronthaul → Fronthaul) : (s.onFh f).boot = s.boot := rfl
@[simp] theorem State.onFh_freeCtr (s : State) (f : Fronthaul → Fronthaul) : (s.onFh f).freeCtr = s.freeCtr := rfl
@[simp] theorem State.onFh_pending (s : State) (f : Fronthaul → Fronthaul) : (s.onFh f).pending = s.pending := rfl

@[simp] theorem State.onFh_fh (s : State) (f : Fronthaul → Fronthaul) : (s.onFh f).fh = f s.fh := rfl
@[simp] theorem State.onFh_obj (s : State) (f : Fronthaul → Fronthaul) (k : Nat) : (s.onFh f).obj k = s.obj k := rfl
@[simp] theorem State.onFh_blob (s : State) (f : Fronthaul → Fronthaul) (k : Nat) : (s.onFh f).blob k = s.blob k := rfl

/-! ## State.onHod -/

@[simp] theorem State.onHod_dict (s : State) (f : Hod → Hod) : (s.onHod f).dict = s.dict := rfl
@[simp] theorem State.onHod_blobs (s : State) (f : Hod → Hod) : (s.onHod f).blobs = s.blobs := rfl
@[simp] theorem State.onHod_image (s : State) (f : Hod → Hod) : (s.onHod f).image = s.image := rfl
@[simp] theorem State.onHod_imageBlobs (s : State) (f : Hod → Hod) : (s.onHod f).imageBlobs = s.imageBlobs := rfl
@[simp] theorem State.onHod_clock (s : State) (f : Hod → Hod) : (s.onHod f).clock = s.clock := rfl
@[simp] theorem State.onHod_time (s : State) (f : Hod → Hod) : (s.onHod f).time = s.time := rfl
@[simp] theorem State.onHod_nl (s : State) (f : Hod → Hod) : (s.onHod f).nl = s.nl := rfl
@[simp] theorem State.onHod_link (s : State) (f : Hod → Hod) : (s.onHod f).link = s.link := rfl
@[simp] theorem State.onHod_svc (s : State) (f : Hod → Hod) : (s.onHod f).svc = s.svc := rfl
@[simp] theorem State.onHod_pipe (s : State) (f : Hod → Hod) : (s.onHod f).pipe = s.pipe := rfl
@[simp] theorem State.onHod_sched (s : State) (f : Hod → Hod) : (s.onHod f).sched = s.sched := rfl
@[simp] theorem State.onHod_kiln (s : State) (f : Hod → Hod) : (s.onHod f).kiln = s.kiln := rfl
@[simp] theorem State.onHod_wb (s : State) (f : Hod → Hod) : (s.onHod f).wb = s.wb := rfl
@[simp] theorem State.onHod_units (s : State) (f : Hod → Hod) : (s.onHod f).units = s.units := rfl
@[simp] theorem State.onHod_guard (s : State) (f : Hod → Hod) : (s.onHod f).guard = s.guard := rfl
@[simp] theorem State.onHod_tiles (s : State) (f : Hod → Hod) : (s.onHod f).tiles = s.tiles := rfl
@[simp] theorem State.onHod_bondWas (s : State) (f : Hod → Hod) : (s.onHod f).bondWas = s.bondWas := rfl
@[simp] theorem State.onHod_mortar (s : State) (f : Hod → Hod) : (s.onHod f).mortar = s.mortar := rfl
@[simp] theorem State.onHod_integ (s : State) (f : Hod → Hod) : (s.onHod f).integ = s.integ := rfl
@[simp] theorem State.onHod_fh (s : State) (f : Hod → Hod) : (s.onHod f).fh = s.fh := rfl
@[simp] theorem State.onHod_dfe (s : State) (f : Hod → Hod) : (s.onHod f).dfe = s.dfe := rfl
@[simp] theorem State.onHod_mem (s : State) (f : Hod → Hod) : (s.onHod f).mem = s.mem := rfl
@[simp] theorem State.onHod_power (s : State) (f : Hod → Hod) : (s.onHod f).power = s.power := rfl
@[simp] theorem State.onHod_boot (s : State) (f : Hod → Hod) : (s.onHod f).boot = s.boot := rfl
@[simp] theorem State.onHod_freeCtr (s : State) (f : Hod → Hod) : (s.onHod f).freeCtr = s.freeCtr := rfl
@[simp] theorem State.onHod_pending (s : State) (f : Hod → Hod) : (s.onHod f).pending = s.pending := rfl

@[simp] theorem State.onHod_hod (s : State) (f : Hod → Hod) : (s.onHod f).hod = f s.hod := rfl
@[simp] theorem State.onHod_obj (s : State) (f : Hod → Hod) (k : Nat) : (s.onHod f).obj k = s.obj k := rfl
@[simp] theorem State.onHod_blob (s : State) (f : Hod → Hod) (k : Nat) : (s.onHod f).blob k = s.blob k := rfl

/-! ## State.onPower -/

@[simp] theorem State.onPower_dict (s : State) (f : Power → Power) : (s.onPower f).dict = s.dict := rfl
@[simp] theorem State.onPower_blobs (s : State) (f : Power → Power) : (s.onPower f).blobs = s.blobs := rfl
@[simp] theorem State.onPower_image (s : State) (f : Power → Power) : (s.onPower f).image = s.image := rfl
@[simp] theorem State.onPower_imageBlobs (s : State) (f : Power → Power) : (s.onPower f).imageBlobs = s.imageBlobs := rfl
@[simp] theorem State.onPower_clock (s : State) (f : Power → Power) : (s.onPower f).clock = s.clock := rfl
@[simp] theorem State.onPower_time (s : State) (f : Power → Power) : (s.onPower f).time = s.time := rfl
@[simp] theorem State.onPower_nl (s : State) (f : Power → Power) : (s.onPower f).nl = s.nl := rfl
@[simp] theorem State.onPower_link (s : State) (f : Power → Power) : (s.onPower f).link = s.link := rfl
@[simp] theorem State.onPower_svc (s : State) (f : Power → Power) : (s.onPower f).svc = s.svc := rfl
@[simp] theorem State.onPower_pipe (s : State) (f : Power → Power) : (s.onPower f).pipe = s.pipe := rfl
@[simp] theorem State.onPower_sched (s : State) (f : Power → Power) : (s.onPower f).sched = s.sched := rfl
@[simp] theorem State.onPower_kiln (s : State) (f : Power → Power) : (s.onPower f).kiln = s.kiln := rfl
@[simp] theorem State.onPower_wb (s : State) (f : Power → Power) : (s.onPower f).wb = s.wb := rfl
@[simp] theorem State.onPower_units (s : State) (f : Power → Power) : (s.onPower f).units = s.units := rfl
@[simp] theorem State.onPower_hod (s : State) (f : Power → Power) : (s.onPower f).hod = s.hod := rfl
@[simp] theorem State.onPower_guard (s : State) (f : Power → Power) : (s.onPower f).guard = s.guard := rfl
@[simp] theorem State.onPower_tiles (s : State) (f : Power → Power) : (s.onPower f).tiles = s.tiles := rfl
@[simp] theorem State.onPower_bondWas (s : State) (f : Power → Power) : (s.onPower f).bondWas = s.bondWas := rfl
@[simp] theorem State.onPower_mortar (s : State) (f : Power → Power) : (s.onPower f).mortar = s.mortar := rfl
@[simp] theorem State.onPower_integ (s : State) (f : Power → Power) : (s.onPower f).integ = s.integ := rfl
@[simp] theorem State.onPower_fh (s : State) (f : Power → Power) : (s.onPower f).fh = s.fh := rfl
@[simp] theorem State.onPower_dfe (s : State) (f : Power → Power) : (s.onPower f).dfe = s.dfe := rfl
@[simp] theorem State.onPower_mem (s : State) (f : Power → Power) : (s.onPower f).mem = s.mem := rfl
@[simp] theorem State.onPower_boot (s : State) (f : Power → Power) : (s.onPower f).boot = s.boot := rfl
@[simp] theorem State.onPower_freeCtr (s : State) (f : Power → Power) : (s.onPower f).freeCtr = s.freeCtr := rfl
@[simp] theorem State.onPower_pending (s : State) (f : Power → Power) : (s.onPower f).pending = s.pending := rfl

@[simp] theorem State.onPower_power (s : State) (f : Power → Power) : (s.onPower f).power = f s.power := rfl
@[simp] theorem State.onPower_obj (s : State) (f : Power → Power) (k : Nat) : (s.onPower f).obj k = s.obj k := rfl
@[simp] theorem State.onPower_blob (s : State) (f : Power → Power) (k : Nat) : (s.onPower f).blob k = s.blob k := rfl

/-! ## State.onServo -/

@[simp] theorem State.onServo_dict (s : State) (f : Servo → Servo) : (s.onServo f).dict = s.dict := rfl
@[simp] theorem State.onServo_blobs (s : State) (f : Servo → Servo) : (s.onServo f).blobs = s.blobs := rfl
@[simp] theorem State.onServo_image (s : State) (f : Servo → Servo) : (s.onServo f).image = s.image := rfl
@[simp] theorem State.onServo_imageBlobs (s : State) (f : Servo → Servo) : (s.onServo f).imageBlobs = s.imageBlobs := rfl
@[simp] theorem State.onServo_clock (s : State) (f : Servo → Servo) : (s.onServo f).clock = s.clock := rfl
@[simp] theorem State.onServo_nl (s : State) (f : Servo → Servo) : (s.onServo f).nl = s.nl := rfl
@[simp] theorem State.onServo_link (s : State) (f : Servo → Servo) : (s.onServo f).link = s.link := rfl
@[simp] theorem State.onServo_svc (s : State) (f : Servo → Servo) : (s.onServo f).svc = s.svc := rfl
@[simp] theorem State.onServo_pipe (s : State) (f : Servo → Servo) : (s.onServo f).pipe = s.pipe := rfl
@[simp] theorem State.onServo_sched (s : State) (f : Servo → Servo) : (s.onServo f).sched = s.sched := rfl
@[simp] theorem State.onServo_kiln (s : State) (f : Servo → Servo) : (s.onServo f).kiln = s.kiln := rfl
@[simp] theorem State.onServo_wb (s : State) (f : Servo → Servo) : (s.onServo f).wb = s.wb := rfl
@[simp] theorem State.onServo_units (s : State) (f : Servo → Servo) : (s.onServo f).units = s.units := rfl
@[simp] theorem State.onServo_hod (s : State) (f : Servo → Servo) : (s.onServo f).hod = s.hod := rfl
@[simp] theorem State.onServo_guard (s : State) (f : Servo → Servo) : (s.onServo f).guard = s.guard := rfl
@[simp] theorem State.onServo_tiles (s : State) (f : Servo → Servo) : (s.onServo f).tiles = s.tiles := rfl
@[simp] theorem State.onServo_bondWas (s : State) (f : Servo → Servo) : (s.onServo f).bondWas = s.bondWas := rfl
@[simp] theorem State.onServo_mortar (s : State) (f : Servo → Servo) : (s.onServo f).mortar = s.mortar := rfl
@[simp] theorem State.onServo_integ (s : State) (f : Servo → Servo) : (s.onServo f).integ = s.integ := rfl
@[simp] theorem State.onServo_fh (s : State) (f : Servo → Servo) : (s.onServo f).fh = s.fh := rfl
@[simp] theorem State.onServo_dfe (s : State) (f : Servo → Servo) : (s.onServo f).dfe = s.dfe := rfl
@[simp] theorem State.onServo_mem (s : State) (f : Servo → Servo) : (s.onServo f).mem = s.mem := rfl
@[simp] theorem State.onServo_power (s : State) (f : Servo → Servo) : (s.onServo f).power = s.power := rfl
@[simp] theorem State.onServo_boot (s : State) (f : Servo → Servo) : (s.onServo f).boot = s.boot := rfl
@[simp] theorem State.onServo_freeCtr (s : State) (f : Servo → Servo) : (s.onServo f).freeCtr = s.freeCtr := rfl
@[simp] theorem State.onServo_pending (s : State) (f : Servo → Servo) : (s.onServo f).pending = s.pending := rfl

@[simp] theorem State.onServo_obj (s : State) (f : Servo → Servo) (k : Nat) : (s.onServo f).obj k = s.obj k := rfl

/-! ## State.setCount -/

@[simp] theorem State.setCount_dict (s : State) (c : Nat) : (s.setCount c).dict = s.dict := rfl
@[simp] theorem State.setCount_blobs (s : State) (c : Nat) : (s.setCount c).blobs = s.blobs := rfl
@[simp] theorem State.setCount_image (s : State) (c : Nat) : (s.setCount c).image = s.image := rfl
@[simp] theorem State.setCount_imageBlobs (s : State) (c : Nat) : (s.setCount c).imageBlobs = s.imageBlobs := rfl
@[simp] theorem State.setCount_time (s : State) (c : Nat) : (s.setCount c).time = s.time := rfl
@[simp] theorem State.setCount_nl (s : State) (c : Nat) : (s.setCount c).nl = s.nl := rfl
@[simp] theorem State.setCount_link (s : State) (c : Nat) : (s.setCount c).link = s.link := rfl
@[simp] theorem State.setCount_svc (s : State) (c : Nat) : (s.setCount c).svc = s.svc := rfl
@[simp] theorem State.setCount_pipe (s : State) (c : Nat) : (s.setCount c).pipe = s.pipe := rfl
@[simp] theorem State.setCount_sched (s : State) (c : Nat) : (s.setCount c).sched = s.sched := rfl
@[simp] theorem State.setCount_kiln (s : State) (c : Nat) : (s.setCount c).kiln = s.kiln := rfl
@[simp] theorem State.setCount_wb (s : State) (c : Nat) : (s.setCount c).wb = s.wb := rfl
@[simp] theorem State.setCount_units (s : State) (c : Nat) : (s.setCount c).units = s.units := rfl
@[simp] theorem State.setCount_hod (s : State) (c : Nat) : (s.setCount c).hod = s.hod := rfl
@[simp] theorem State.setCount_guard (s : State) (c : Nat) : (s.setCount c).guard = s.guard := rfl
@[simp] theorem State.setCount_tiles (s : State) (c : Nat) : (s.setCount c).tiles = s.tiles := rfl
@[simp] theorem State.setCount_bondWas (s : State) (c : Nat) : (s.setCount c).bondWas = s.bondWas := rfl
@[simp] theorem State.setCount_mortar (s : State) (c : Nat) : (s.setCount c).mortar = s.mortar := rfl
@[simp] theorem State.setCount_integ (s : State) (c : Nat) : (s.setCount c).integ = s.integ := rfl
@[simp] theorem State.setCount_fh (s : State) (c : Nat) : (s.setCount c).fh = s.fh := rfl
@[simp] theorem State.setCount_dfe (s : State) (c : Nat) : (s.setCount c).dfe = s.dfe := rfl
@[simp] theorem State.setCount_mem (s : State) (c : Nat) : (s.setCount c).mem = s.mem := rfl
@[simp] theorem State.setCount_power (s : State) (c : Nat) : (s.setCount c).power = s.power := rfl
@[simp] theorem State.setCount_boot (s : State) (c : Nat) : (s.setCount c).boot = s.boot := rfl
@[simp] theorem State.setCount_freeCtr (s : State) (c : Nat) : (s.setCount c).freeCtr = s.freeCtr := rfl
@[simp] theorem State.setCount_pending (s : State) (c : Nat) : (s.setCount c).pending = s.pending := rfl

@[simp] theorem State.setCount_obj (s : State) (c : Nat) (k : Nat) : (s.setCount c).obj k = s.obj k := rfl

/-! ## State.setPtp -/

@[simp] theorem State.setPtp_dict (s : State) (p : Nat) (x : PtpPort) : (s.setPtp p x).dict = s.dict := rfl
@[simp] theorem State.setPtp_blobs (s : State) (p : Nat) (x : PtpPort) : (s.setPtp p x).blobs = s.blobs := rfl
@[simp] theorem State.setPtp_image (s : State) (p : Nat) (x : PtpPort) : (s.setPtp p x).image = s.image := rfl
@[simp] theorem State.setPtp_imageBlobs (s : State) (p : Nat) (x : PtpPort) : (s.setPtp p x).imageBlobs = s.imageBlobs := rfl
@[simp] theorem State.setPtp_clock (s : State) (p : Nat) (x : PtpPort) : (s.setPtp p x).clock = s.clock := rfl
@[simp] theorem State.setPtp_nl (s : State) (p : Nat) (x : PtpPort) : (s.setPtp p x).nl = s.nl := rfl
@[simp] theorem State.setPtp_link (s : State) (p : Nat) (x : PtpPort) : (s.setPtp p x).link = s.link := rfl
@[simp] theorem State.setPtp_svc (s : State) (p : Nat) (x : PtpPort) : (s.setPtp p x).svc = s.svc := rfl
@[simp] theorem State.setPtp_pipe (s : State) (p : Nat) (x : PtpPort) : (s.setPtp p x).pipe = s.pipe := rfl
@[simp] theorem State.setPtp_sched (s : State) (p : Nat) (x : PtpPort) : (s.setPtp p x).sched = s.sched := rfl
@[simp] theorem State.setPtp_kiln (s : State) (p : Nat) (x : PtpPort) : (s.setPtp p x).kiln = s.kiln := rfl
@[simp] theorem State.setPtp_wb (s : State) (p : Nat) (x : PtpPort) : (s.setPtp p x).wb = s.wb := rfl
@[simp] theorem State.setPtp_units (s : State) (p : Nat) (x : PtpPort) : (s.setPtp p x).units = s.units := rfl
@[simp] theorem State.setPtp_hod (s : State) (p : Nat) (x : PtpPort) : (s.setPtp p x).hod = s.hod := rfl
@[simp] theorem State.setPtp_guard (s : State) (p : Nat) (x : PtpPort) : (s.setPtp p x).guard = s.guard := rfl
@[simp] theorem State.setPtp_tiles (s : State) (p : Nat) (x : PtpPort) : (s.setPtp p x).tiles = s.tiles := rfl
@[simp] theorem State.setPtp_bondWas (s : State) (p : Nat) (x : PtpPort) : (s.setPtp p x).bondWas = s.bondWas := rfl
@[simp] theorem State.setPtp_mortar (s : State) (p : Nat) (x : PtpPort) : (s.setPtp p x).mortar = s.mortar := rfl
@[simp] theorem State.setPtp_integ (s : State) (p : Nat) (x : PtpPort) : (s.setPtp p x).integ = s.integ := rfl
@[simp] theorem State.setPtp_fh (s : State) (p : Nat) (x : PtpPort) : (s.setPtp p x).fh = s.fh := rfl
@[simp] theorem State.setPtp_dfe (s : State) (p : Nat) (x : PtpPort) : (s.setPtp p x).dfe = s.dfe := rfl
@[simp] theorem State.setPtp_mem (s : State) (p : Nat) (x : PtpPort) : (s.setPtp p x).mem = s.mem := rfl
@[simp] theorem State.setPtp_power (s : State) (p : Nat) (x : PtpPort) : (s.setPtp p x).power = s.power := rfl
@[simp] theorem State.setPtp_boot (s : State) (p : Nat) (x : PtpPort) : (s.setPtp p x).boot = s.boot := rfl
@[simp] theorem State.setPtp_freeCtr (s : State) (p : Nat) (x : PtpPort) : (s.setPtp p x).freeCtr = s.freeCtr := rfl
@[simp] theorem State.setPtp_pending (s : State) (p : Nat) (x : PtpPort) : (s.setPtp p x).pending = s.pending := rfl

@[simp] theorem State.setPtp_obj (s : State) (p : Nat) (x : PtpPort) (k : Nat) : (s.setPtp p x).obj k = s.obj k := rfl

/-! ## State.onJtag -/

@[simp] theorem State.onJtag_dict (s : State) (f : Jtag → Jtag) : (s.onJtag f).dict = s.dict := rfl
@[simp] theorem State.onJtag_blobs (s : State) (f : Jtag → Jtag) : (s.onJtag f).blobs = s.blobs := rfl
@[simp] theorem State.onJtag_image (s : State) (f : Jtag → Jtag) : (s.onJtag f).image = s.image := rfl
@[simp] theorem State.onJtag_imageBlobs (s : State) (f : Jtag → Jtag) : (s.onJtag f).imageBlobs = s.imageBlobs := rfl
@[simp] theorem State.onJtag_clock (s : State) (f : Jtag → Jtag) : (s.onJtag f).clock = s.clock := rfl
@[simp] theorem State.onJtag_time (s : State) (f : Jtag → Jtag) : (s.onJtag f).time = s.time := rfl
@[simp] theorem State.onJtag_nl (s : State) (f : Jtag → Jtag) : (s.onJtag f).nl = s.nl := rfl
@[simp] theorem State.onJtag_link (s : State) (f : Jtag → Jtag) : (s.onJtag f).link = s.link := rfl
@[simp] theorem State.onJtag_svc (s : State) (f : Jtag → Jtag) : (s.onJtag f).svc = s.svc := rfl
@[simp] theorem State.onJtag_pipe (s : State) (f : Jtag → Jtag) : (s.onJtag f).pipe = s.pipe := rfl
@[simp] theorem State.onJtag_sched (s : State) (f : Jtag → Jtag) : (s.onJtag f).sched = s.sched := rfl
@[simp] theorem State.onJtag_kiln (s : State) (f : Jtag → Jtag) : (s.onJtag f).kiln = s.kiln := rfl
@[simp] theorem State.onJtag_wb (s : State) (f : Jtag → Jtag) : (s.onJtag f).wb = s.wb := rfl
@[simp] theorem State.onJtag_units (s : State) (f : Jtag → Jtag) : (s.onJtag f).units = s.units := rfl
@[simp] theorem State.onJtag_hod (s : State) (f : Jtag → Jtag) : (s.onJtag f).hod = s.hod := rfl
@[simp] theorem State.onJtag_guard (s : State) (f : Jtag → Jtag) : (s.onJtag f).guard = s.guard := rfl
@[simp] theorem State.onJtag_tiles (s : State) (f : Jtag → Jtag) : (s.onJtag f).tiles = s.tiles := rfl
@[simp] theorem State.onJtag_bondWas (s : State) (f : Jtag → Jtag) : (s.onJtag f).bondWas = s.bondWas := rfl
@[simp] theorem State.onJtag_mortar (s : State) (f : Jtag → Jtag) : (s.onJtag f).mortar = s.mortar := rfl
@[simp] theorem State.onJtag_integ (s : State) (f : Jtag → Jtag) : (s.onJtag f).integ = s.integ := rfl
@[simp] theorem State.onJtag_fh (s : State) (f : Jtag → Jtag) : (s.onJtag f).fh = s.fh := rfl
@[simp] theorem State.onJtag_dfe (s : State) (f : Jtag → Jtag) : (s.onJtag f).dfe = s.dfe := rfl
@[simp] theorem State.onJtag_mem (s : State) (f : Jtag → Jtag) : (s.onJtag f).mem = s.mem := rfl
@[simp] theorem State.onJtag_power (s : State) (f : Jtag → Jtag) : (s.onJtag f).power = s.power := rfl
@[simp] theorem State.onJtag_freeCtr (s : State) (f : Jtag → Jtag) : (s.onJtag f).freeCtr = s.freeCtr := rfl
@[simp] theorem State.onJtag_pending (s : State) (f : Jtag → Jtag) : (s.onJtag f).pending = s.pending := rfl

@[simp] theorem State.onJtag_obj (s : State) (f : Jtag → Jtag) (k : Nat) : (s.onJtag f).obj k = s.obj k := rfl

/-! ## State.onRail -/

@[simp] theorem State.onRail_dict (s : State) (f : Rail → Rail) : (s.onRail f).dict = s.dict := rfl
@[simp] theorem State.onRail_blobs (s : State) (f : Rail → Rail) : (s.onRail f).blobs = s.blobs := rfl
@[simp] theorem State.onRail_image (s : State) (f : Rail → Rail) : (s.onRail f).image = s.image := rfl
@[simp] theorem State.onRail_imageBlobs (s : State) (f : Rail → Rail) : (s.onRail f).imageBlobs = s.imageBlobs := rfl
@[simp] theorem State.onRail_clock (s : State) (f : Rail → Rail) : (s.onRail f).clock = s.clock := rfl
@[simp] theorem State.onRail_time (s : State) (f : Rail → Rail) : (s.onRail f).time = s.time := rfl
@[simp] theorem State.onRail_nl (s : State) (f : Rail → Rail) : (s.onRail f).nl = s.nl := rfl
@[simp] theorem State.onRail_link (s : State) (f : Rail → Rail) : (s.onRail f).link = s.link := rfl
@[simp] theorem State.onRail_svc (s : State) (f : Rail → Rail) : (s.onRail f).svc = s.svc := rfl
@[simp] theorem State.onRail_pipe (s : State) (f : Rail → Rail) : (s.onRail f).pipe = s.pipe := rfl
@[simp] theorem State.onRail_sched (s : State) (f : Rail → Rail) : (s.onRail f).sched = s.sched := rfl
@[simp] theorem State.onRail_kiln (s : State) (f : Rail → Rail) : (s.onRail f).kiln = s.kiln := rfl
@[simp] theorem State.onRail_wb (s : State) (f : Rail → Rail) : (s.onRail f).wb = s.wb := rfl
@[simp] theorem State.onRail_units (s : State) (f : Rail → Rail) : (s.onRail f).units = s.units := rfl
@[simp] theorem State.onRail_hod (s : State) (f : Rail → Rail) : (s.onRail f).hod = s.hod := rfl
@[simp] theorem State.onRail_guard (s : State) (f : Rail → Rail) : (s.onRail f).guard = s.guard := rfl
@[simp] theorem State.onRail_tiles (s : State) (f : Rail → Rail) : (s.onRail f).tiles = s.tiles := rfl
@[simp] theorem State.onRail_bondWas (s : State) (f : Rail → Rail) : (s.onRail f).bondWas = s.bondWas := rfl
@[simp] theorem State.onRail_mortar (s : State) (f : Rail → Rail) : (s.onRail f).mortar = s.mortar := rfl
@[simp] theorem State.onRail_integ (s : State) (f : Rail → Rail) : (s.onRail f).integ = s.integ := rfl
@[simp] theorem State.onRail_fh (s : State) (f : Rail → Rail) : (s.onRail f).fh = s.fh := rfl
@[simp] theorem State.onRail_dfe (s : State) (f : Rail → Rail) : (s.onRail f).dfe = s.dfe := rfl
@[simp] theorem State.onRail_mem (s : State) (f : Rail → Rail) : (s.onRail f).mem = s.mem := rfl
@[simp] theorem State.onRail_boot (s : State) (f : Rail → Rail) : (s.onRail f).boot = s.boot := rfl
@[simp] theorem State.onRail_freeCtr (s : State) (f : Rail → Rail) : (s.onRail f).freeCtr = s.freeCtr := rfl
@[simp] theorem State.onRail_pending (s : State) (f : Rail → Rail) : (s.onRail f).pending = s.pending := rfl

@[simp] theorem State.onRail_obj (s : State) (f : Rail → Rail) (k : Nat) : (s.onRail f).obj k = s.obj k := rfl

/-! ## State.onWatch -/

@[simp] theorem State.onWatch_dict (s : State) (f : Watch → Watch) : (s.onWatch f).dict = s.dict := rfl
@[simp] theorem State.onWatch_blobs (s : State) (f : Watch → Watch) : (s.onWatch f).blobs = s.blobs := rfl
@[simp] theorem State.onWatch_image (s : State) (f : Watch → Watch) : (s.onWatch f).image = s.image := rfl
@[simp] theorem State.onWatch_imageBlobs (s : State) (f : Watch → Watch) : (s.onWatch f).imageBlobs = s.imageBlobs := rfl
@[simp] theorem State.onWatch_clock (s : State) (f : Watch → Watch) : (s.onWatch f).clock = s.clock := rfl
@[simp] theorem State.onWatch_time (s : State) (f : Watch → Watch) : (s.onWatch f).time = s.time := rfl
@[simp] theorem State.onWatch_nl (s : State) (f : Watch → Watch) : (s.onWatch f).nl = s.nl := rfl
@[simp] theorem State.onWatch_link (s : State) (f : Watch → Watch) : (s.onWatch f).link = s.link := rfl
@[simp] theorem State.onWatch_svc (s : State) (f : Watch → Watch) : (s.onWatch f).svc = s.svc := rfl
@[simp] theorem State.onWatch_pipe (s : State) (f : Watch → Watch) : (s.onWatch f).pipe = s.pipe := rfl
@[simp] theorem State.onWatch_sched (s : State) (f : Watch → Watch) : (s.onWatch f).sched = s.sched := rfl
@[simp] theorem State.onWatch_kiln (s : State) (f : Watch → Watch) : (s.onWatch f).kiln = s.kiln := rfl
@[simp] theorem State.onWatch_wb (s : State) (f : Watch → Watch) : (s.onWatch f).wb = s.wb := rfl
@[simp] theorem State.onWatch_units (s : State) (f : Watch → Watch) : (s.onWatch f).units = s.units := rfl
@[simp] theorem State.onWatch_hod (s : State) (f : Watch → Watch) : (s.onWatch f).hod = s.hod := rfl
@[simp] theorem State.onWatch_guard (s : State) (f : Watch → Watch) : (s.onWatch f).guard = s.guard := rfl
@[simp] theorem State.onWatch_tiles (s : State) (f : Watch → Watch) : (s.onWatch f).tiles = s.tiles := rfl
@[simp] theorem State.onWatch_bondWas (s : State) (f : Watch → Watch) : (s.onWatch f).bondWas = s.bondWas := rfl
@[simp] theorem State.onWatch_mortar (s : State) (f : Watch → Watch) : (s.onWatch f).mortar = s.mortar := rfl
@[simp] theorem State.onWatch_integ (s : State) (f : Watch → Watch) : (s.onWatch f).integ = s.integ := rfl
@[simp] theorem State.onWatch_fh (s : State) (f : Watch → Watch) : (s.onWatch f).fh = s.fh := rfl
@[simp] theorem State.onWatch_dfe (s : State) (f : Watch → Watch) : (s.onWatch f).dfe = s.dfe := rfl
@[simp] theorem State.onWatch_mem (s : State) (f : Watch → Watch) : (s.onWatch f).mem = s.mem := rfl
@[simp] theorem State.onWatch_boot (s : State) (f : Watch → Watch) : (s.onWatch f).boot = s.boot := rfl
@[simp] theorem State.onWatch_freeCtr (s : State) (f : Watch → Watch) : (s.onWatch f).freeCtr = s.freeCtr := rfl
@[simp] theorem State.onWatch_pending (s : State) (f : Watch → Watch) : (s.onWatch f).pending = s.pending := rfl

@[simp] theorem State.onWatch_obj (s : State) (f : Watch → Watch) (k : Nat) : (s.onWatch f).obj k = s.obj k := rfl

/-! ## State.setOps -/

@[simp] theorem State.setOps_dict (s : State) (ops : Store Op) : (s.setOps ops).dict = s.dict := rfl
@[simp] theorem State.setOps_blobs (s : State) (ops : Store Op) : (s.setOps ops).blobs = s.blobs := rfl
@[simp] theorem State.setOps_image (s : State) (ops : Store Op) : (s.setOps ops).image = s.image := rfl
@[simp] theorem State.setOps_imageBlobs (s : State) (ops : Store Op) : (s.setOps ops).imageBlobs = s.imageBlobs := rfl
@[simp] theorem State.setOps_clock (s : State) (ops : Store Op) : (s.setOps ops).clock = s.clock := rfl
@[simp] theorem State.setOps_time (s : State) (ops : Store Op) : (s.setOps ops).time = s.time := rfl
@[simp] theorem State.setOps_nl (s : State) (ops : Store Op) : (s.setOps ops).nl = s.nl := rfl
@[simp] theorem State.setOps_link (s : State) (ops : Store Op) : (s.setOps ops).link = s.link := rfl
@[simp] theorem State.setOps_svc (s : State) (ops : Store Op) : (s.setOps ops).svc = s.svc := rfl
@[simp] theorem State.setOps_pipe (s : State) (ops : Store Op) : (s.setOps ops).pipe = s.pipe := rfl
@[simp] theorem State.setOps_kiln (s : State) (ops : Store Op) : (s.setOps ops).kiln = s.kiln := rfl
@[simp] theorem State.setOps_wb (s : State) (ops : Store Op) : (s.setOps ops).wb = s.wb := rfl
@[simp] theorem State.setOps_units (s : State) (ops : Store Op) : (s.setOps ops).units = s.units := rfl
@[simp] theorem State.setOps_hod (s : State) (ops : Store Op) : (s.setOps ops).hod = s.hod := rfl
@[simp] theorem State.setOps_guard (s : State) (ops : Store Op) : (s.setOps ops).guard = s.guard := rfl
@[simp] theorem State.setOps_tiles (s : State) (ops : Store Op) : (s.setOps ops).tiles = s.tiles := rfl
@[simp] theorem State.setOps_bondWas (s : State) (ops : Store Op) : (s.setOps ops).bondWas = s.bondWas := rfl
@[simp] theorem State.setOps_mortar (s : State) (ops : Store Op) : (s.setOps ops).mortar = s.mortar := rfl
@[simp] theorem State.setOps_integ (s : State) (ops : Store Op) : (s.setOps ops).integ = s.integ := rfl
@[simp] theorem State.setOps_fh (s : State) (ops : Store Op) : (s.setOps ops).fh = s.fh := rfl
@[simp] theorem State.setOps_dfe (s : State) (ops : Store Op) : (s.setOps ops).dfe = s.dfe := rfl
@[simp] theorem State.setOps_mem (s : State) (ops : Store Op) : (s.setOps ops).mem = s.mem := rfl
@[simp] theorem State.setOps_power (s : State) (ops : Store Op) : (s.setOps ops).power = s.power := rfl
@[simp] theorem State.setOps_boot (s : State) (ops : Store Op) : (s.setOps ops).boot = s.boot := rfl
@[simp] theorem State.setOps_freeCtr (s : State) (ops : Store Op) : (s.setOps ops).freeCtr = s.freeCtr := rfl
@[simp] theorem State.setOps_pending (s : State) (ops : Store Op) : (s.setOps ops).pending = s.pending := rfl

@[simp] theorem State.setOps_obj (s : State) (ops : Store Op) (k : Nat) : (s.setOps ops).obj k = s.obj k := rfl

@[simp] theorem State.onServo_servo (s : State) (f : Servo → Servo) : (s.onServo f).time.servo = f s.time.servo := rfl
@[simp] theorem State.onServo_gnss (s : State) (f : Servo → Servo) : (s.onServo f).time.gnss = s.time.gnss := rfl
@[simp] theorem State.onServo_pps (s : State) (f : Servo → Servo) : (s.onServo f).time.pps = s.time.pps := rfl
@[simp] theorem State.onServo_dfeSync (s : State) (f : Servo → Servo) : (s.onServo f).time.dfeSync = s.time.dfeSync := rfl

/-! ## State.onPulse -/

@[simp] theorem State.onPulse_dict (s : State) (i : PulseInput) (f : PulseIn → PulseIn) : (s.onPulse i f).dict = s.dict := by
  cases i <;> rfl
@[simp] theorem State.onPulse_blobs (s : State) (i : PulseInput) (f : PulseIn → PulseIn) : (s.onPulse i f).blobs = s.blobs := by
  cases i <;> rfl
@[simp] theorem State.onPulse_image (s : State) (i : PulseInput) (f : PulseIn → PulseIn) : (s.onPulse i f).image = s.image := by
  cases i <;> rfl
@[simp] theorem State.onPulse_imageBlobs (s : State) (i : PulseInput) (f : PulseIn → PulseIn) : (s.onPulse i f).imageBlobs = s.imageBlobs := by
  cases i <;> rfl
@[simp] theorem State.onPulse_clock (s : State) (i : PulseInput) (f : PulseIn → PulseIn) : (s.onPulse i f).clock = s.clock := by
  cases i <;> rfl
@[simp] theorem State.onPulse_nl (s : State) (i : PulseInput) (f : PulseIn → PulseIn) : (s.onPulse i f).nl = s.nl := by
  cases i <;> rfl
@[simp] theorem State.onPulse_link (s : State) (i : PulseInput) (f : PulseIn → PulseIn) : (s.onPulse i f).link = s.link := by
  cases i <;> rfl
@[simp] theorem State.onPulse_svc (s : State) (i : PulseInput) (f : PulseIn → PulseIn) : (s.onPulse i f).svc = s.svc := by
  cases i <;> rfl
@[simp] theorem State.onPulse_pipe (s : State) (i : PulseInput) (f : PulseIn → PulseIn) : (s.onPulse i f).pipe = s.pipe := by
  cases i <;> rfl
@[simp] theorem State.onPulse_sched (s : State) (i : PulseInput) (f : PulseIn → PulseIn) : (s.onPulse i f).sched = s.sched := by
  cases i <;> rfl
@[simp] theorem State.onPulse_kiln (s : State) (i : PulseInput) (f : PulseIn → PulseIn) : (s.onPulse i f).kiln = s.kiln := by
  cases i <;> rfl
@[simp] theorem State.onPulse_wb (s : State) (i : PulseInput) (f : PulseIn → PulseIn) : (s.onPulse i f).wb = s.wb := by
  cases i <;> rfl
@[simp] theorem State.onPulse_units (s : State) (i : PulseInput) (f : PulseIn → PulseIn) : (s.onPulse i f).units = s.units := by
  cases i <;> rfl
@[simp] theorem State.onPulse_hod (s : State) (i : PulseInput) (f : PulseIn → PulseIn) : (s.onPulse i f).hod = s.hod := by
  cases i <;> rfl
@[simp] theorem State.onPulse_guard (s : State) (i : PulseInput) (f : PulseIn → PulseIn) : (s.onPulse i f).guard = s.guard := by
  cases i <;> rfl
@[simp] theorem State.onPulse_tiles (s : State) (i : PulseInput) (f : PulseIn → PulseIn) : (s.onPulse i f).tiles = s.tiles := by
  cases i <;> rfl
@[simp] theorem State.onPulse_bondWas (s : State) (i : PulseInput) (f : PulseIn → PulseIn) : (s.onPulse i f).bondWas = s.bondWas := by
  cases i <;> rfl
@[simp] theorem State.onPulse_mortar (s : State) (i : PulseInput) (f : PulseIn → PulseIn) : (s.onPulse i f).mortar = s.mortar := by
  cases i <;> rfl
@[simp] theorem State.onPulse_integ (s : State) (i : PulseInput) (f : PulseIn → PulseIn) : (s.onPulse i f).integ = s.integ := by
  cases i <;> rfl
@[simp] theorem State.onPulse_fh (s : State) (i : PulseInput) (f : PulseIn → PulseIn) : (s.onPulse i f).fh = s.fh := by
  cases i <;> rfl
@[simp] theorem State.onPulse_dfe (s : State) (i : PulseInput) (f : PulseIn → PulseIn) : (s.onPulse i f).dfe = s.dfe := by
  cases i <;> rfl
@[simp] theorem State.onPulse_mem (s : State) (i : PulseInput) (f : PulseIn → PulseIn) : (s.onPulse i f).mem = s.mem := by
  cases i <;> rfl
@[simp] theorem State.onPulse_power (s : State) (i : PulseInput) (f : PulseIn → PulseIn) : (s.onPulse i f).power = s.power := by
  cases i <;> rfl
@[simp] theorem State.onPulse_boot (s : State) (i : PulseInput) (f : PulseIn → PulseIn) : (s.onPulse i f).boot = s.boot := by
  cases i <;> rfl
@[simp] theorem State.onPulse_freeCtr (s : State) (i : PulseInput) (f : PulseIn → PulseIn) : (s.onPulse i f).freeCtr = s.freeCtr := by
  cases i <;> rfl
@[simp] theorem State.onPulse_pending (s : State) (i : PulseInput) (f : PulseIn → PulseIn) : (s.onPulse i f).pending = s.pending := by
  cases i <;> rfl
@[simp] theorem State.onPulse_obj (s : State) (i : PulseInput) (f : PulseIn → PulseIn) (k : Nat) : (s.onPulse i f).obj k = s.obj k :=
  State.obj_congr (State.onPulse_dict ..) k

/-! ## State.onArb -/

@[simp] theorem State.onArb_dict (s : State) (mc : Bool) (k : Nat) (f : Arb → Arb) : (s.onArb mc k f).dict = s.dict := by
  unfold State.onArb; split <;> rfl
@[simp] theorem State.onArb_blobs (s : State) (mc : Bool) (k : Nat) (f : Arb → Arb) : (s.onArb mc k f).blobs = s.blobs := by
  unfold State.onArb; split <;> rfl
@[simp] theorem State.onArb_image (s : State) (mc : Bool) (k : Nat) (f : Arb → Arb) : (s.onArb mc k f).image = s.image := by
  unfold State.onArb; split <;> rfl
@[simp] theorem State.onArb_imageBlobs (s : State) (mc : Bool) (k : Nat) (f : Arb → Arb) : (s.onArb mc k f).imageBlobs = s.imageBlobs := by
  unfold State.onArb; split <;> rfl
@[simp] theorem State.onArb_clock (s : State) (mc : Bool) (k : Nat) (f : Arb → Arb) : (s.onArb mc k f).clock = s.clock := by
  unfold State.onArb; split <;> rfl
@[simp] theorem State.onArb_time (s : State) (mc : Bool) (k : Nat) (f : Arb → Arb) : (s.onArb mc k f).time = s.time := by
  unfold State.onArb; split <;> rfl
@[simp] theorem State.onArb_nl (s : State) (mc : Bool) (k : Nat) (f : Arb → Arb) : (s.onArb mc k f).nl = s.nl := by
  unfold State.onArb; split <;> rfl
@[simp] theorem State.onArb_link (s : State) (mc : Bool) (k : Nat) (f : Arb → Arb) : (s.onArb mc k f).link = s.link := by
  unfold State.onArb; split <;> rfl
@[simp] theorem State.onArb_svc (s : State) (mc : Bool) (k : Nat) (f : Arb → Arb) : (s.onArb mc k f).svc = s.svc := by
  unfold State.onArb; split <;> rfl
@[simp] theorem State.onArb_pipe (s : State) (mc : Bool) (k : Nat) (f : Arb → Arb) : (s.onArb mc k f).pipe = s.pipe := by
  unfold State.onArb; split <;> rfl
@[simp] theorem State.onArb_sched (s : State) (mc : Bool) (k : Nat) (f : Arb → Arb) : (s.onArb mc k f).sched = s.sched := by
  unfold State.onArb; split <;> rfl
@[simp] theorem State.onArb_kiln (s : State) (mc : Bool) (k : Nat) (f : Arb → Arb) : (s.onArb mc k f).kiln = s.kiln := by
  unfold State.onArb; split <;> rfl
@[simp] theorem State.onArb_wb (s : State) (mc : Bool) (k : Nat) (f : Arb → Arb) : (s.onArb mc k f).wb = s.wb := by
  unfold State.onArb; split <;> rfl
@[simp] theorem State.onArb_units (s : State) (mc : Bool) (k : Nat) (f : Arb → Arb) : (s.onArb mc k f).units = s.units := by
  unfold State.onArb; split <;> rfl
@[simp] theorem State.onArb_hod (s : State) (mc : Bool) (k : Nat) (f : Arb → Arb) : (s.onArb mc k f).hod = s.hod := by
  unfold State.onArb; split <;> rfl
@[simp] theorem State.onArb_guard (s : State) (mc : Bool) (k : Nat) (f : Arb → Arb) : (s.onArb mc k f).guard = s.guard := by
  unfold State.onArb; split <;> rfl
@[simp] theorem State.onArb_tiles (s : State) (mc : Bool) (k : Nat) (f : Arb → Arb) : (s.onArb mc k f).tiles = s.tiles := by
  unfold State.onArb; split <;> rfl
@[simp] theorem State.onArb_bondWas (s : State) (mc : Bool) (k : Nat) (f : Arb → Arb) : (s.onArb mc k f).bondWas = s.bondWas := by
  unfold State.onArb; split <;> rfl
@[simp] theorem State.onArb_fh (s : State) (mc : Bool) (k : Nat) (f : Arb → Arb) : (s.onArb mc k f).fh = s.fh := by
  unfold State.onArb; split <;> rfl
@[simp] theorem State.onArb_dfe (s : State) (mc : Bool) (k : Nat) (f : Arb → Arb) : (s.onArb mc k f).dfe = s.dfe := by
  unfold State.onArb; split <;> rfl
@[simp] theorem State.onArb_mem (s : State) (mc : Bool) (k : Nat) (f : Arb → Arb) : (s.onArb mc k f).mem = s.mem := by
  unfold State.onArb; split <;> rfl
@[simp] theorem State.onArb_power (s : State) (mc : Bool) (k : Nat) (f : Arb → Arb) : (s.onArb mc k f).power = s.power := by
  unfold State.onArb; split <;> rfl
@[simp] theorem State.onArb_boot (s : State) (mc : Bool) (k : Nat) (f : Arb → Arb) : (s.onArb mc k f).boot = s.boot := by
  unfold State.onArb; split <;> rfl
@[simp] theorem State.onArb_freeCtr (s : State) (mc : Bool) (k : Nat) (f : Arb → Arb) : (s.onArb mc k f).freeCtr = s.freeCtr := by
  unfold State.onArb; split <;> rfl
@[simp] theorem State.onArb_pending (s : State) (mc : Bool) (k : Nat) (f : Arb → Arb) : (s.onArb mc k f).pending = s.pending := by
  unfold State.onArb; split <;> rfl
@[simp] theorem State.onArb_obj (s : State) (mc : Bool) (k : Nat) (f : Arb → Arb) (key : Nat) : (s.onArb mc k f).obj key = s.obj key :=
  State.obj_congr (State.onArb_dict ..) key

/-! ## State.onChain -/

@[simp] theorem State.onChain_dict (s : State) (c : Nat) (f : DfeChain → DfeChain) : (s.onChain c f).dict = s.dict := rfl
@[simp] theorem State.onChain_blobs (s : State) (c : Nat) (f : DfeChain → DfeChain) : (s.onChain c f).blobs = s.blobs := rfl
@[simp] theorem State.onChain_image (s : State) (c : Nat) (f : DfeChain → DfeChain) : (s.onChain c f).image = s.image := rfl
@[simp] theorem State.onChain_imageBlobs (s : State) (c : Nat) (f : DfeChain → DfeChain) : (s.onChain c f).imageBlobs = s.imageBlobs := rfl
@[simp] theorem State.onChain_clock (s : State) (c : Nat) (f : DfeChain → DfeChain) : (s.onChain c f).clock = s.clock := rfl
@[simp] theorem State.onChain_time (s : State) (c : Nat) (f : DfeChain → DfeChain) : (s.onChain c f).time = s.time := rfl
@[simp] theorem State.onChain_nl (s : State) (c : Nat) (f : DfeChain → DfeChain) : (s.onChain c f).nl = s.nl := rfl
@[simp] theorem State.onChain_link (s : State) (c : Nat) (f : DfeChain → DfeChain) : (s.onChain c f).link = s.link := rfl
@[simp] theorem State.onChain_svc (s : State) (c : Nat) (f : DfeChain → DfeChain) : (s.onChain c f).svc = s.svc := rfl
@[simp] theorem State.onChain_pipe (s : State) (c : Nat) (f : DfeChain → DfeChain) : (s.onChain c f).pipe = s.pipe := rfl
@[simp] theorem State.onChain_sched (s : State) (c : Nat) (f : DfeChain → DfeChain) : (s.onChain c f).sched = s.sched := rfl
@[simp] theorem State.onChain_kiln (s : State) (c : Nat) (f : DfeChain → DfeChain) : (s.onChain c f).kiln = s.kiln := rfl
@[simp] theorem State.onChain_wb (s : State) (c : Nat) (f : DfeChain → DfeChain) : (s.onChain c f).wb = s.wb := rfl
@[simp] theorem State.onChain_units (s : State) (c : Nat) (f : DfeChain → DfeChain) : (s.onChain c f).units = s.units := rfl
@[simp] theorem State.onChain_hod (s : State) (c : Nat) (f : DfeChain → DfeChain) : (s.onChain c f).hod = s.hod := rfl
@[simp] theorem State.onChain_guard (s : State) (c : Nat) (f : DfeChain → DfeChain) : (s.onChain c f).guard = s.guard := rfl
@[simp] theorem State.onChain_tiles (s : State) (c : Nat) (f : DfeChain → DfeChain) : (s.onChain c f).tiles = s.tiles := rfl
@[simp] theorem State.onChain_bondWas (s : State) (c : Nat) (f : DfeChain → DfeChain) : (s.onChain c f).bondWas = s.bondWas := rfl
@[simp] theorem State.onChain_mortar (s : State) (c : Nat) (f : DfeChain → DfeChain) : (s.onChain c f).mortar = s.mortar := rfl
@[simp] theorem State.onChain_integ (s : State) (c : Nat) (f : DfeChain → DfeChain) : (s.onChain c f).integ = s.integ := rfl
@[simp] theorem State.onChain_fh (s : State) (c : Nat) (f : DfeChain → DfeChain) : (s.onChain c f).fh = s.fh := rfl
@[simp] theorem State.onChain_mem (s : State) (c : Nat) (f : DfeChain → DfeChain) : (s.onChain c f).mem = s.mem := rfl
@[simp] theorem State.onChain_power (s : State) (c : Nat) (f : DfeChain → DfeChain) : (s.onChain c f).power = s.power := rfl
@[simp] theorem State.onChain_boot (s : State) (c : Nat) (f : DfeChain → DfeChain) : (s.onChain c f).boot = s.boot := rfl
@[simp] theorem State.onChain_freeCtr (s : State) (c : Nat) (f : DfeChain → DfeChain) : (s.onChain c f).freeCtr = s.freeCtr := rfl
@[simp] theorem State.onChain_pending (s : State) (c : Nat) (f : DfeChain → DfeChain) : (s.onChain c f).pending = s.pending := rfl
@[simp] theorem State.onChain_obj (s : State) (c : Nat) (f : DfeChain → DfeChain) (k : Nat) : (s.onChain c f).obj k = s.obj k :=
  State.obj_congr (State.onChain_dict ..) k

/-! ## State.onPath -/

@[simp] theorem State.onPath_dict (s : State) (c : Nat) (p : Path) (f : CoefPath → CoefPath) : (s.onPath c p f).dict = s.dict := rfl
@[simp] theorem State.onPath_blobs (s : State) (c : Nat) (p : Path) (f : CoefPath → CoefPath) : (s.onPath c p f).blobs = s.blobs := rfl
@[simp] theorem State.onPath_image (s : State) (c : Nat) (p : Path) (f : CoefPath → CoefPath) : (s.onPath c p f).image = s.image := rfl
@[simp] theorem State.onPath_imageBlobs (s : State) (c : Nat) (p : Path) (f : CoefPath → CoefPath) : (s.onPath c p f).imageBlobs = s.imageBlobs := rfl
@[simp] theorem State.onPath_clock (s : State) (c : Nat) (p : Path) (f : CoefPath → CoefPath) : (s.onPath c p f).clock = s.clock := rfl
@[simp] theorem State.onPath_time (s : State) (c : Nat) (p : Path) (f : CoefPath → CoefPath) : (s.onPath c p f).time = s.time := rfl
@[simp] theorem State.onPath_nl (s : State) (c : Nat) (p : Path) (f : CoefPath → CoefPath) : (s.onPath c p f).nl = s.nl := rfl
@[simp] theorem State.onPath_link (s : State) (c : Nat) (p : Path) (f : CoefPath → CoefPath) : (s.onPath c p f).link = s.link := rfl
@[simp] theorem State.onPath_svc (s : State) (c : Nat) (p : Path) (f : CoefPath → CoefPath) : (s.onPath c p f).svc = s.svc := rfl
@[simp] theorem State.onPath_pipe (s : State) (c : Nat) (p : Path) (f : CoefPath → CoefPath) : (s.onPath c p f).pipe = s.pipe := rfl
@[simp] theorem State.onPath_sched (s : State) (c : Nat) (p : Path) (f : CoefPath → CoefPath) : (s.onPath c p f).sched = s.sched := rfl
@[simp] theorem State.onPath_kiln (s : State) (c : Nat) (p : Path) (f : CoefPath → CoefPath) : (s.onPath c p f).kiln = s.kiln := rfl
@[simp] theorem State.onPath_wb (s : State) (c : Nat) (p : Path) (f : CoefPath → CoefPath) : (s.onPath c p f).wb = s.wb := rfl
@[simp] theorem State.onPath_units (s : State) (c : Nat) (p : Path) (f : CoefPath → CoefPath) : (s.onPath c p f).units = s.units := rfl
@[simp] theorem State.onPath_hod (s : State) (c : Nat) (p : Path) (f : CoefPath → CoefPath) : (s.onPath c p f).hod = s.hod := rfl
@[simp] theorem State.onPath_guard (s : State) (c : Nat) (p : Path) (f : CoefPath → CoefPath) : (s.onPath c p f).guard = s.guard := rfl
@[simp] theorem State.onPath_tiles (s : State) (c : Nat) (p : Path) (f : CoefPath → CoefPath) : (s.onPath c p f).tiles = s.tiles := rfl
@[simp] theorem State.onPath_bondWas (s : State) (c : Nat) (p : Path) (f : CoefPath → CoefPath) : (s.onPath c p f).bondWas = s.bondWas := rfl
@[simp] theorem State.onPath_mortar (s : State) (c : Nat) (p : Path) (f : CoefPath → CoefPath) : (s.onPath c p f).mortar = s.mortar := rfl
@[simp] theorem State.onPath_integ (s : State) (c : Nat) (p : Path) (f : CoefPath → CoefPath) : (s.onPath c p f).integ = s.integ := rfl
@[simp] theorem State.onPath_fh (s : State) (c : Nat) (p : Path) (f : CoefPath → CoefPath) : (s.onPath c p f).fh = s.fh := rfl
@[simp] theorem State.onPath_mem (s : State) (c : Nat) (p : Path) (f : CoefPath → CoefPath) : (s.onPath c p f).mem = s.mem := rfl
@[simp] theorem State.onPath_power (s : State) (c : Nat) (p : Path) (f : CoefPath → CoefPath) : (s.onPath c p f).power = s.power := rfl
@[simp] theorem State.onPath_boot (s : State) (c : Nat) (p : Path) (f : CoefPath → CoefPath) : (s.onPath c p f).boot = s.boot := rfl
@[simp] theorem State.onPath_freeCtr (s : State) (c : Nat) (p : Path) (f : CoefPath → CoefPath) : (s.onPath c p f).freeCtr = s.freeCtr := rfl
@[simp] theorem State.onPath_pending (s : State) (c : Nat) (p : Path) (f : CoefPath → CoefPath) : (s.onPath c p f).pending = s.pending := rfl
@[simp] theorem State.onPath_obj (s : State) (c : Nat) (p : Path) (f : CoefPath → CoefPath) (k : Nat) : (s.onPath c p f).obj k = s.obj k :=
  State.obj_congr (State.onPath_dict ..) k

/-! ## State.onPort -/

@[simp] theorem State.onPort_dict (s : State) (p : Nat) (f : PortIo → PortIo) : (s.onPort p f).dict = s.dict := rfl
@[simp] theorem State.onPort_blobs (s : State) (p : Nat) (f : PortIo → PortIo) : (s.onPort p f).blobs = s.blobs := rfl
@[simp] theorem State.onPort_image (s : State) (p : Nat) (f : PortIo → PortIo) : (s.onPort p f).image = s.image := rfl
@[simp] theorem State.onPort_imageBlobs (s : State) (p : Nat) (f : PortIo → PortIo) : (s.onPort p f).imageBlobs = s.imageBlobs := rfl
@[simp] theorem State.onPort_clock (s : State) (p : Nat) (f : PortIo → PortIo) : (s.onPort p f).clock = s.clock := rfl
@[simp] theorem State.onPort_time (s : State) (p : Nat) (f : PortIo → PortIo) : (s.onPort p f).time = s.time := rfl
@[simp] theorem State.onPort_nl (s : State) (p : Nat) (f : PortIo → PortIo) : (s.onPort p f).nl = s.nl := rfl
@[simp] theorem State.onPort_link (s : State) (p : Nat) (f : PortIo → PortIo) : (s.onPort p f).link = s.link := rfl
@[simp] theorem State.onPort_svc (s : State) (p : Nat) (f : PortIo → PortIo) : (s.onPort p f).svc = s.svc := rfl
@[simp] theorem State.onPort_pipe (s : State) (p : Nat) (f : PortIo → PortIo) : (s.onPort p f).pipe = s.pipe := rfl
@[simp] theorem State.onPort_sched (s : State) (p : Nat) (f : PortIo → PortIo) : (s.onPort p f).sched = s.sched := rfl
@[simp] theorem State.onPort_kiln (s : State) (p : Nat) (f : PortIo → PortIo) : (s.onPort p f).kiln = s.kiln := rfl
@[simp] theorem State.onPort_wb (s : State) (p : Nat) (f : PortIo → PortIo) : (s.onPort p f).wb = s.wb := rfl
@[simp] theorem State.onPort_units (s : State) (p : Nat) (f : PortIo → PortIo) : (s.onPort p f).units = s.units := rfl
@[simp] theorem State.onPort_hod (s : State) (p : Nat) (f : PortIo → PortIo) : (s.onPort p f).hod = s.hod := rfl
@[simp] theorem State.onPort_guard (s : State) (p : Nat) (f : PortIo → PortIo) : (s.onPort p f).guard = s.guard := rfl
@[simp] theorem State.onPort_tiles (s : State) (p : Nat) (f : PortIo → PortIo) : (s.onPort p f).tiles = s.tiles := rfl
@[simp] theorem State.onPort_bondWas (s : State) (p : Nat) (f : PortIo → PortIo) : (s.onPort p f).bondWas = s.bondWas := rfl
@[simp] theorem State.onPort_mortar (s : State) (p : Nat) (f : PortIo → PortIo) : (s.onPort p f).mortar = s.mortar := rfl
@[simp] theorem State.onPort_integ (s : State) (p : Nat) (f : PortIo → PortIo) : (s.onPort p f).integ = s.integ := rfl
@[simp] theorem State.onPort_dfe (s : State) (p : Nat) (f : PortIo → PortIo) : (s.onPort p f).dfe = s.dfe := rfl
@[simp] theorem State.onPort_mem (s : State) (p : Nat) (f : PortIo → PortIo) : (s.onPort p f).mem = s.mem := rfl
@[simp] theorem State.onPort_power (s : State) (p : Nat) (f : PortIo → PortIo) : (s.onPort p f).power = s.power := rfl
@[simp] theorem State.onPort_boot (s : State) (p : Nat) (f : PortIo → PortIo) : (s.onPort p f).boot = s.boot := rfl
@[simp] theorem State.onPort_freeCtr (s : State) (p : Nat) (f : PortIo → PortIo) : (s.onPort p f).freeCtr = s.freeCtr := rfl
@[simp] theorem State.onPort_pending (s : State) (p : Nat) (f : PortIo → PortIo) : (s.onPort p f).pending = s.pending := rfl
@[simp] theorem State.onPort_obj (s : State) (p : Nat) (f : PortIo → PortIo) (k : Nat) : (s.onPort p f).obj k = s.obj k :=
  State.obj_congr (State.onPort_dict ..) k

/-! ## State.onHodChain -/

@[simp] theorem State.onHodChain_dict (s : State) (u : Nat) (f : Chain → Chain) : (s.onHodChain u f).dict = s.dict := by
  unfold State.onHodChain; split <;> rfl
@[simp] theorem State.onHodChain_blobs (s : State) (u : Nat) (f : Chain → Chain) : (s.onHodChain u f).blobs = s.blobs := by
  unfold State.onHodChain; split <;> rfl
@[simp] theorem State.onHodChain_image (s : State) (u : Nat) (f : Chain → Chain) : (s.onHodChain u f).image = s.image := by
  unfold State.onHodChain; split <;> rfl
@[simp] theorem State.onHodChain_imageBlobs (s : State) (u : Nat) (f : Chain → Chain) : (s.onHodChain u f).imageBlobs = s.imageBlobs := by
  unfold State.onHodChain; split <;> rfl
@[simp] theorem State.onHodChain_clock (s : State) (u : Nat) (f : Chain → Chain) : (s.onHodChain u f).clock = s.clock := by
  unfold State.onHodChain; split <;> rfl
@[simp] theorem State.onHodChain_time (s : State) (u : Nat) (f : Chain → Chain) : (s.onHodChain u f).time = s.time := by
  unfold State.onHodChain; split <;> rfl
@[simp] theorem State.onHodChain_nl (s : State) (u : Nat) (f : Chain → Chain) : (s.onHodChain u f).nl = s.nl := by
  unfold State.onHodChain; split <;> rfl
@[simp] theorem State.onHodChain_link (s : State) (u : Nat) (f : Chain → Chain) : (s.onHodChain u f).link = s.link := by
  unfold State.onHodChain; split <;> rfl
@[simp] theorem State.onHodChain_svc (s : State) (u : Nat) (f : Chain → Chain) : (s.onHodChain u f).svc = s.svc := by
  unfold State.onHodChain; split <;> rfl
@[simp] theorem State.onHodChain_pipe (s : State) (u : Nat) (f : Chain → Chain) : (s.onHodChain u f).pipe = s.pipe := by
  unfold State.onHodChain; split <;> rfl
@[simp] theorem State.onHodChain_sched (s : State) (u : Nat) (f : Chain → Chain) : (s.onHodChain u f).sched = s.sched := by
  unfold State.onHodChain; split <;> rfl
@[simp] theorem State.onHodChain_kiln (s : State) (u : Nat) (f : Chain → Chain) : (s.onHodChain u f).kiln = s.kiln := by
  unfold State.onHodChain; split <;> rfl
@[simp] theorem State.onHodChain_wb (s : State) (u : Nat) (f : Chain → Chain) : (s.onHodChain u f).wb = s.wb := by
  unfold State.onHodChain; split <;> rfl
@[simp] theorem State.onHodChain_units (s : State) (u : Nat) (f : Chain → Chain) : (s.onHodChain u f).units = s.units := by
  unfold State.onHodChain; split <;> rfl
@[simp] theorem State.onHodChain_guard (s : State) (u : Nat) (f : Chain → Chain) : (s.onHodChain u f).guard = s.guard := by
  unfold State.onHodChain; split <;> rfl
@[simp] theorem State.onHodChain_tiles (s : State) (u : Nat) (f : Chain → Chain) : (s.onHodChain u f).tiles = s.tiles := by
  unfold State.onHodChain; split <;> rfl
@[simp] theorem State.onHodChain_bondWas (s : State) (u : Nat) (f : Chain → Chain) : (s.onHodChain u f).bondWas = s.bondWas := by
  unfold State.onHodChain; split <;> rfl
@[simp] theorem State.onHodChain_mortar (s : State) (u : Nat) (f : Chain → Chain) : (s.onHodChain u f).mortar = s.mortar := by
  unfold State.onHodChain; split <;> rfl
@[simp] theorem State.onHodChain_integ (s : State) (u : Nat) (f : Chain → Chain) : (s.onHodChain u f).integ = s.integ := by
  unfold State.onHodChain; split <;> rfl
@[simp] theorem State.onHodChain_fh (s : State) (u : Nat) (f : Chain → Chain) : (s.onHodChain u f).fh = s.fh := by
  unfold State.onHodChain; split <;> rfl
@[simp] theorem State.onHodChain_dfe (s : State) (u : Nat) (f : Chain → Chain) : (s.onHodChain u f).dfe = s.dfe := by
  unfold State.onHodChain; split <;> rfl
@[simp] theorem State.onHodChain_mem (s : State) (u : Nat) (f : Chain → Chain) : (s.onHodChain u f).mem = s.mem := by
  unfold State.onHodChain; split <;> rfl
@[simp] theorem State.onHodChain_power (s : State) (u : Nat) (f : Chain → Chain) : (s.onHodChain u f).power = s.power := by
  unfold State.onHodChain; split <;> rfl
@[simp] theorem State.onHodChain_boot (s : State) (u : Nat) (f : Chain → Chain) : (s.onHodChain u f).boot = s.boot := by
  unfold State.onHodChain; split <;> rfl
@[simp] theorem State.onHodChain_freeCtr (s : State) (u : Nat) (f : Chain → Chain) : (s.onHodChain u f).freeCtr = s.freeCtr := by
  unfold State.onHodChain; split <;> rfl
@[simp] theorem State.onHodChain_pending (s : State) (u : Nat) (f : Chain → Chain) : (s.onHodChain u f).pending = s.pending := by
  unfold State.onHodChain; split <;> rfl
@[simp] theorem State.onHodChain_obj (s : State) (u : Nat) (f : Chain → Chain) (k : Nat) : (s.onHodChain u f).obj k = s.obj k :=
  State.obj_congr (State.onHodChain_dict ..) k

/-! ## State.onCourse -/

@[simp] theorem State.onCourse_dict (s : State) (k : Nat) (f : Course → Course) : (s.onCourse k f).dict = s.dict := by
  unfold State.onCourse; split <;> rfl
@[simp] theorem State.onCourse_blobs (s : State) (k : Nat) (f : Course → Course) : (s.onCourse k f).blobs = s.blobs := by
  unfold State.onCourse; split <;> rfl
@[simp] theorem State.onCourse_image (s : State) (k : Nat) (f : Course → Course) : (s.onCourse k f).image = s.image := by
  unfold State.onCourse; split <;> rfl
@[simp] theorem State.onCourse_imageBlobs (s : State) (k : Nat) (f : Course → Course) : (s.onCourse k f).imageBlobs = s.imageBlobs := by
  unfold State.onCourse; split <;> rfl
@[simp] theorem State.onCourse_clock (s : State) (k : Nat) (f : Course → Course) : (s.onCourse k f).clock = s.clock := by
  unfold State.onCourse; split <;> rfl
@[simp] theorem State.onCourse_time (s : State) (k : Nat) (f : Course → Course) : (s.onCourse k f).time = s.time := by
  unfold State.onCourse; split <;> rfl
@[simp] theorem State.onCourse_nl (s : State) (k : Nat) (f : Course → Course) : (s.onCourse k f).nl = s.nl := by
  unfold State.onCourse; split <;> rfl
@[simp] theorem State.onCourse_link (s : State) (k : Nat) (f : Course → Course) : (s.onCourse k f).link = s.link := by
  unfold State.onCourse; split <;> rfl
@[simp] theorem State.onCourse_svc (s : State) (k : Nat) (f : Course → Course) : (s.onCourse k f).svc = s.svc := by
  unfold State.onCourse; split <;> rfl
@[simp] theorem State.onCourse_sched (s : State) (k : Nat) (f : Course → Course) : (s.onCourse k f).sched = s.sched := by
  unfold State.onCourse; split <;> rfl
@[simp] theorem State.onCourse_kiln (s : State) (k : Nat) (f : Course → Course) : (s.onCourse k f).kiln = s.kiln := by
  unfold State.onCourse; split <;> rfl
@[simp] theorem State.onCourse_wb (s : State) (k : Nat) (f : Course → Course) : (s.onCourse k f).wb = s.wb := by
  unfold State.onCourse; split <;> rfl
@[simp] theorem State.onCourse_units (s : State) (k : Nat) (f : Course → Course) : (s.onCourse k f).units = s.units := by
  unfold State.onCourse; split <;> rfl
@[simp] theorem State.onCourse_hod (s : State) (k : Nat) (f : Course → Course) : (s.onCourse k f).hod = s.hod := by
  unfold State.onCourse; split <;> rfl
@[simp] theorem State.onCourse_guard (s : State) (k : Nat) (f : Course → Course) : (s.onCourse k f).guard = s.guard := by
  unfold State.onCourse; split <;> rfl
@[simp] theorem State.onCourse_tiles (s : State) (k : Nat) (f : Course → Course) : (s.onCourse k f).tiles = s.tiles := by
  unfold State.onCourse; split <;> rfl
@[simp] theorem State.onCourse_bondWas (s : State) (k : Nat) (f : Course → Course) : (s.onCourse k f).bondWas = s.bondWas := by
  unfold State.onCourse; split <;> rfl
@[simp] theorem State.onCourse_mortar (s : State) (k : Nat) (f : Course → Course) : (s.onCourse k f).mortar = s.mortar := by
  unfold State.onCourse; split <;> rfl
@[simp] theorem State.onCourse_integ (s : State) (k : Nat) (f : Course → Course) : (s.onCourse k f).integ = s.integ := by
  unfold State.onCourse; split <;> rfl
@[simp] theorem State.onCourse_fh (s : State) (k : Nat) (f : Course → Course) : (s.onCourse k f).fh = s.fh := by
  unfold State.onCourse; split <;> rfl
@[simp] theorem State.onCourse_dfe (s : State) (k : Nat) (f : Course → Course) : (s.onCourse k f).dfe = s.dfe := by
  unfold State.onCourse; split <;> rfl
@[simp] theorem State.onCourse_mem (s : State) (k : Nat) (f : Course → Course) : (s.onCourse k f).mem = s.mem := by
  unfold State.onCourse; split <;> rfl
@[simp] theorem State.onCourse_power (s : State) (k : Nat) (f : Course → Course) : (s.onCourse k f).power = s.power := by
  unfold State.onCourse; split <;> rfl
@[simp] theorem State.onCourse_boot (s : State) (k : Nat) (f : Course → Course) : (s.onCourse k f).boot = s.boot := by
  unfold State.onCourse; split <;> rfl
@[simp] theorem State.onCourse_freeCtr (s : State) (k : Nat) (f : Course → Course) : (s.onCourse k f).freeCtr = s.freeCtr := by
  unfold State.onCourse; split <;> rfl
@[simp] theorem State.onCourse_pending (s : State) (k : Nat) (f : Course → Course) : (s.onCourse k f).pending = s.pending := by
  unfold State.onCourse; split <;> rfl
@[simp] theorem State.onCourse_obj (s : State) (k : Nat) (f : Course → Course) (key : Nat) : (s.onCourse k f).obj key = s.obj key :=
  State.obj_congr (State.onCourse_dict ..) key

/-! ## State.onOp -/

@[simp] theorem State.onOp_dict (s : State) (t : Nat) (f : Op → Op) : (s.onOp t f).dict = s.dict := by
  unfold State.onOp; split <;> rfl
@[simp] theorem State.onOp_blobs (s : State) (t : Nat) (f : Op → Op) : (s.onOp t f).blobs = s.blobs := by
  unfold State.onOp; split <;> rfl
@[simp] theorem State.onOp_image (s : State) (t : Nat) (f : Op → Op) : (s.onOp t f).image = s.image := by
  unfold State.onOp; split <;> rfl
@[simp] theorem State.onOp_imageBlobs (s : State) (t : Nat) (f : Op → Op) : (s.onOp t f).imageBlobs = s.imageBlobs := by
  unfold State.onOp; split <;> rfl
@[simp] theorem State.onOp_clock (s : State) (t : Nat) (f : Op → Op) : (s.onOp t f).clock = s.clock := by
  unfold State.onOp; split <;> rfl
@[simp] theorem State.onOp_time (s : State) (t : Nat) (f : Op → Op) : (s.onOp t f).time = s.time := by
  unfold State.onOp; split <;> rfl
@[simp] theorem State.onOp_nl (s : State) (t : Nat) (f : Op → Op) : (s.onOp t f).nl = s.nl := by
  unfold State.onOp; split <;> rfl
@[simp] theorem State.onOp_link (s : State) (t : Nat) (f : Op → Op) : (s.onOp t f).link = s.link := by
  unfold State.onOp; split <;> rfl
@[simp] theorem State.onOp_svc (s : State) (t : Nat) (f : Op → Op) : (s.onOp t f).svc = s.svc := by
  unfold State.onOp; split <;> rfl
@[simp] theorem State.onOp_pipe (s : State) (t : Nat) (f : Op → Op) : (s.onOp t f).pipe = s.pipe := by
  unfold State.onOp; split <;> rfl
@[simp] theorem State.onOp_kiln (s : State) (t : Nat) (f : Op → Op) : (s.onOp t f).kiln = s.kiln := by
  unfold State.onOp; split <;> rfl
@[simp] theorem State.onOp_wb (s : State) (t : Nat) (f : Op → Op) : (s.onOp t f).wb = s.wb := by
  unfold State.onOp; split <;> rfl
@[simp] theorem State.onOp_units (s : State) (t : Nat) (f : Op → Op) : (s.onOp t f).units = s.units := by
  unfold State.onOp; split <;> rfl
@[simp] theorem State.onOp_hod (s : State) (t : Nat) (f : Op → Op) : (s.onOp t f).hod = s.hod := by
  unfold State.onOp; split <;> rfl
@[simp] theorem State.onOp_guard (s : State) (t : Nat) (f : Op → Op) : (s.onOp t f).guard = s.guard := by
  unfold State.onOp; split <;> rfl
@[simp] theorem State.onOp_tiles (s : State) (t : Nat) (f : Op → Op) : (s.onOp t f).tiles = s.tiles := by
  unfold State.onOp; split <;> rfl
@[simp] theorem State.onOp_bondWas (s : State) (t : Nat) (f : Op → Op) : (s.onOp t f).bondWas = s.bondWas := by
  unfold State.onOp; split <;> rfl
@[simp] theorem State.onOp_mortar (s : State) (t : Nat) (f : Op → Op) : (s.onOp t f).mortar = s.mortar := by
  unfold State.onOp; split <;> rfl
@[simp] theorem State.onOp_integ (s : State) (t : Nat) (f : Op → Op) : (s.onOp t f).integ = s.integ := by
  unfold State.onOp; split <;> rfl
@[simp] theorem State.onOp_fh (s : State) (t : Nat) (f : Op → Op) : (s.onOp t f).fh = s.fh := by
  unfold State.onOp; split <;> rfl
@[simp] theorem State.onOp_dfe (s : State) (t : Nat) (f : Op → Op) : (s.onOp t f).dfe = s.dfe := by
  unfold State.onOp; split <;> rfl
@[simp] theorem State.onOp_mem (s : State) (t : Nat) (f : Op → Op) : (s.onOp t f).mem = s.mem := by
  unfold State.onOp; split <;> rfl
@[simp] theorem State.onOp_power (s : State) (t : Nat) (f : Op → Op) : (s.onOp t f).power = s.power := by
  unfold State.onOp; split <;> rfl
@[simp] theorem State.onOp_boot (s : State) (t : Nat) (f : Op → Op) : (s.onOp t f).boot = s.boot := by
  unfold State.onOp; split <;> rfl
@[simp] theorem State.onOp_freeCtr (s : State) (t : Nat) (f : Op → Op) : (s.onOp t f).freeCtr = s.freeCtr := by
  unfold State.onOp; split <;> rfl
@[simp] theorem State.onOp_pending (s : State) (t : Nat) (f : Op → Op) : (s.onOp t f).pending = s.pending := by
  unfold State.onOp; split <;> rfl
@[simp] theorem State.onOp_obj (s : State) (t : Nat) (f : Op → Op) (k : Nat) : (s.onOp t f).obj k = s.obj k :=
  State.obj_congr (State.onOp_dict ..) k

/-! ## State.onKiln -/

@[simp] theorem State.onKiln_dict (s : State) (t : Nat) (f : Job → Job) : (s.onKiln t f).dict = s.dict := by
  unfold State.onKiln; split <;> rfl
@[simp] theorem State.onKiln_blobs (s : State) (t : Nat) (f : Job → Job) : (s.onKiln t f).blobs = s.blobs := by
  unfold State.onKiln; split <;> rfl
@[simp] theorem State.onKiln_image (s : State) (t : Nat) (f : Job → Job) : (s.onKiln t f).image = s.image := by
  unfold State.onKiln; split <;> rfl
@[simp] theorem State.onKiln_imageBlobs (s : State) (t : Nat) (f : Job → Job) : (s.onKiln t f).imageBlobs = s.imageBlobs := by
  unfold State.onKiln; split <;> rfl
@[simp] theorem State.onKiln_clock (s : State) (t : Nat) (f : Job → Job) : (s.onKiln t f).clock = s.clock := by
  unfold State.onKiln; split <;> rfl
@[simp] theorem State.onKiln_time (s : State) (t : Nat) (f : Job → Job) : (s.onKiln t f).time = s.time := by
  unfold State.onKiln; split <;> rfl
@[simp] theorem State.onKiln_nl (s : State) (t : Nat) (f : Job → Job) : (s.onKiln t f).nl = s.nl := by
  unfold State.onKiln; split <;> rfl
@[simp] theorem State.onKiln_link (s : State) (t : Nat) (f : Job → Job) : (s.onKiln t f).link = s.link := by
  unfold State.onKiln; split <;> rfl
@[simp] theorem State.onKiln_svc (s : State) (t : Nat) (f : Job → Job) : (s.onKiln t f).svc = s.svc := by
  unfold State.onKiln; split <;> rfl
@[simp] theorem State.onKiln_pipe (s : State) (t : Nat) (f : Job → Job) : (s.onKiln t f).pipe = s.pipe := by
  unfold State.onKiln; split <;> rfl
@[simp] theorem State.onKiln_sched (s : State) (t : Nat) (f : Job → Job) : (s.onKiln t f).sched = s.sched := by
  unfold State.onKiln; split <;> rfl
@[simp] theorem State.onKiln_wb (s : State) (t : Nat) (f : Job → Job) : (s.onKiln t f).wb = s.wb := by
  unfold State.onKiln; split <;> rfl
@[simp] theorem State.onKiln_units (s : State) (t : Nat) (f : Job → Job) : (s.onKiln t f).units = s.units := by
  unfold State.onKiln; split <;> rfl
@[simp] theorem State.onKiln_hod (s : State) (t : Nat) (f : Job → Job) : (s.onKiln t f).hod = s.hod := by
  unfold State.onKiln; split <;> rfl
@[simp] theorem State.onKiln_guard (s : State) (t : Nat) (f : Job → Job) : (s.onKiln t f).guard = s.guard := by
  unfold State.onKiln; split <;> rfl
@[simp] theorem State.onKiln_tiles (s : State) (t : Nat) (f : Job → Job) : (s.onKiln t f).tiles = s.tiles := by
  unfold State.onKiln; split <;> rfl
@[simp] theorem State.onKiln_bondWas (s : State) (t : Nat) (f : Job → Job) : (s.onKiln t f).bondWas = s.bondWas := by
  unfold State.onKiln; split <;> rfl
@[simp] theorem State.onKiln_mortar (s : State) (t : Nat) (f : Job → Job) : (s.onKiln t f).mortar = s.mortar := by
  unfold State.onKiln; split <;> rfl
@[simp] theorem State.onKiln_integ (s : State) (t : Nat) (f : Job → Job) : (s.onKiln t f).integ = s.integ := by
  unfold State.onKiln; split <;> rfl
@[simp] theorem State.onKiln_fh (s : State) (t : Nat) (f : Job → Job) : (s.onKiln t f).fh = s.fh := by
  unfold State.onKiln; split <;> rfl
@[simp] theorem State.onKiln_dfe (s : State) (t : Nat) (f : Job → Job) : (s.onKiln t f).dfe = s.dfe := by
  unfold State.onKiln; split <;> rfl
@[simp] theorem State.onKiln_mem (s : State) (t : Nat) (f : Job → Job) : (s.onKiln t f).mem = s.mem := by
  unfold State.onKiln; split <;> rfl
@[simp] theorem State.onKiln_power (s : State) (t : Nat) (f : Job → Job) : (s.onKiln t f).power = s.power := by
  unfold State.onKiln; split <;> rfl
@[simp] theorem State.onKiln_boot (s : State) (t : Nat) (f : Job → Job) : (s.onKiln t f).boot = s.boot := by
  unfold State.onKiln; split <;> rfl
@[simp] theorem State.onKiln_freeCtr (s : State) (t : Nat) (f : Job → Job) : (s.onKiln t f).freeCtr = s.freeCtr := by
  unfold State.onKiln; split <;> rfl
@[simp] theorem State.onKiln_pending (s : State) (t : Nat) (f : Job → Job) : (s.onKiln t f).pending = s.pending := by
  unfold State.onKiln; split <;> rfl
@[simp] theorem State.onKiln_obj (s : State) (t : Nat) (f : Job → Job) (k : Nat) : (s.onKiln t f).obj k = s.obj k :=
  State.obj_congr (State.onKiln_dict ..) k

/-! ## State.dropJob, blockEnds and voidBlock -/

@[simp] theorem State.dropJob_blobs (s : State) (t : Nat) : (s.dropJob t).blobs = s.blobs := rfl
@[simp] theorem State.dropJob_image (s : State) (t : Nat) : (s.dropJob t).image = s.image := rfl
@[simp] theorem State.dropJob_imageBlobs (s : State) (t : Nat) : (s.dropJob t).imageBlobs = s.imageBlobs := rfl
@[simp] theorem State.dropJob_clock (s : State) (t : Nat) : (s.dropJob t).clock = s.clock := rfl
@[simp] theorem State.dropJob_time (s : State) (t : Nat) : (s.dropJob t).time = s.time := rfl
@[simp] theorem State.dropJob_nl (s : State) (t : Nat) : (s.dropJob t).nl = s.nl := rfl
@[simp] theorem State.dropJob_link (s : State) (t : Nat) : (s.dropJob t).link = s.link := rfl
@[simp] theorem State.dropJob_svc (s : State) (t : Nat) : (s.dropJob t).svc = s.svc := rfl
@[simp] theorem State.dropJob_pipe (s : State) (t : Nat) : (s.dropJob t).pipe = s.pipe := rfl
@[simp] theorem State.dropJob_sched (s : State) (t : Nat) : (s.dropJob t).sched = s.sched := rfl
@[simp] theorem State.dropJob_wb (s : State) (t : Nat) : (s.dropJob t).wb = s.wb := rfl
@[simp] theorem State.dropJob_units (s : State) (t : Nat) : (s.dropJob t).units = s.units := rfl
@[simp] theorem State.dropJob_hod (s : State) (t : Nat) : (s.dropJob t).hod = s.hod := rfl
@[simp] theorem State.dropJob_guard (s : State) (t : Nat) : (s.dropJob t).guard = s.guard := rfl
@[simp] theorem State.dropJob_tiles (s : State) (t : Nat) : (s.dropJob t).tiles = s.tiles := rfl
@[simp] theorem State.dropJob_bondWas (s : State) (t : Nat) : (s.dropJob t).bondWas = s.bondWas := rfl
@[simp] theorem State.dropJob_mortar (s : State) (t : Nat) : (s.dropJob t).mortar = s.mortar := rfl
@[simp] theorem State.dropJob_integ (s : State) (t : Nat) : (s.dropJob t).integ = s.integ := rfl
@[simp] theorem State.dropJob_fh (s : State) (t : Nat) : (s.dropJob t).fh = s.fh := rfl
@[simp] theorem State.dropJob_dfe (s : State) (t : Nat) : (s.dropJob t).dfe = s.dfe := rfl
@[simp] theorem State.dropJob_mem (s : State) (t : Nat) : (s.dropJob t).mem = s.mem := rfl
@[simp] theorem State.dropJob_power (s : State) (t : Nat) : (s.dropJob t).power = s.power := rfl
@[simp] theorem State.dropJob_boot (s : State) (t : Nat) : (s.dropJob t).boot = s.boot := rfl
@[simp] theorem State.dropJob_freeCtr (s : State) (t : Nat) : (s.dropJob t).freeCtr = s.freeCtr := rfl
@[simp] theorem State.dropJob_pending (s : State) (t : Nat) : (s.dropJob t).pending = s.pending := rfl
@[simp] theorem State.dropJob_dict (s : State) (t : Nat) : (s.dropJob t).dict = s.dict := rfl

@[simp] theorem State.blockEnds_dict (s : State) (j : Job) (f : Checker → Checker) : (s.blockEnds j f).dict = s.dict := by
  unfold State.blockEnds; repeat' split
  all_goals rfl
@[simp] theorem State.blockEnds_blobs (s : State) (j : Job) (f : Checker → Checker) : (s.blockEnds j f).blobs = s.blobs := by
  unfold State.blockEnds; repeat' split
  all_goals rfl
@[simp] theorem State.blockEnds_image (s : State) (j : Job) (f : Checker → Checker) : (s.blockEnds j f).image = s.image := by
  unfold State.blockEnds; repeat' split
  all_goals rfl
@[simp] theorem State.blockEnds_imageBlobs (s : State) (j : Job) (f : Checker → Checker) : (s.blockEnds j f).imageBlobs = s.imageBlobs := by
  unfold State.blockEnds; repeat' split
  all_goals rfl
@[simp] theorem State.blockEnds_clock (s : State) (j : Job) (f : Checker → Checker) : (s.blockEnds j f).clock = s.clock := by
  unfold State.blockEnds; repeat' split
  all_goals rfl
@[simp] theorem State.blockEnds_time (s : State) (j : Job) (f : Checker → Checker) : (s.blockEnds j f).time = s.time := by
  unfold State.blockEnds; repeat' split
  all_goals rfl
@[simp] theorem State.blockEnds_nl (s : State) (j : Job) (f : Checker → Checker) : (s.blockEnds j f).nl = s.nl := by
  unfold State.blockEnds; repeat' split
  all_goals rfl
@[simp] theorem State.blockEnds_link (s : State) (j : Job) (f : Checker → Checker) : (s.blockEnds j f).link = s.link := by
  unfold State.blockEnds; repeat' split
  all_goals rfl
@[simp] theorem State.blockEnds_svc (s : State) (j : Job) (f : Checker → Checker) : (s.blockEnds j f).svc = s.svc := by
  unfold State.blockEnds; repeat' split
  all_goals rfl
@[simp] theorem State.blockEnds_pipe (s : State) (j : Job) (f : Checker → Checker) : (s.blockEnds j f).pipe = s.pipe := by
  unfold State.blockEnds; repeat' split
  all_goals rfl
@[simp] theorem State.blockEnds_sched (s : State) (j : Job) (f : Checker → Checker) : (s.blockEnds j f).sched = s.sched := by
  unfold State.blockEnds; repeat' split
  all_goals rfl
@[simp] theorem State.blockEnds_wb (s : State) (j : Job) (f : Checker → Checker) : (s.blockEnds j f).wb = s.wb := by
  unfold State.blockEnds; repeat' split
  all_goals rfl
@[simp] theorem State.blockEnds_units (s : State) (j : Job) (f : Checker → Checker) : (s.blockEnds j f).units = s.units := by
  unfold State.blockEnds; repeat' split
  all_goals rfl
@[simp] theorem State.blockEnds_hod (s : State) (j : Job) (f : Checker → Checker) : (s.blockEnds j f).hod = s.hod := by
  unfold State.blockEnds; repeat' split
  all_goals rfl
@[simp] theorem State.blockEnds_guard (s : State) (j : Job) (f : Checker → Checker) : (s.blockEnds j f).guard = s.guard := by
  unfold State.blockEnds; repeat' split
  all_goals rfl
@[simp] theorem State.blockEnds_tiles (s : State) (j : Job) (f : Checker → Checker) : (s.blockEnds j f).tiles = s.tiles := by
  unfold State.blockEnds; repeat' split
  all_goals rfl
@[simp] theorem State.blockEnds_bondWas (s : State) (j : Job) (f : Checker → Checker) : (s.blockEnds j f).bondWas = s.bondWas := by
  unfold State.blockEnds; repeat' split
  all_goals rfl
@[simp] theorem State.blockEnds_mortar (s : State) (j : Job) (f : Checker → Checker) : (s.blockEnds j f).mortar = s.mortar := by
  unfold State.blockEnds; repeat' split
  all_goals rfl
@[simp] theorem State.blockEnds_integ (s : State) (j : Job) (f : Checker → Checker) : (s.blockEnds j f).integ = s.integ := by
  unfold State.blockEnds; repeat' split
  all_goals rfl
@[simp] theorem State.blockEnds_fh (s : State) (j : Job) (f : Checker → Checker) : (s.blockEnds j f).fh = s.fh := by
  unfold State.blockEnds; repeat' split
  all_goals rfl
@[simp] theorem State.blockEnds_dfe (s : State) (j : Job) (f : Checker → Checker) : (s.blockEnds j f).dfe = s.dfe := by
  unfold State.blockEnds; repeat' split
  all_goals rfl
@[simp] theorem State.blockEnds_mem (s : State) (j : Job) (f : Checker → Checker) : (s.blockEnds j f).mem = s.mem := by
  unfold State.blockEnds; repeat' split
  all_goals rfl
@[simp] theorem State.blockEnds_power (s : State) (j : Job) (f : Checker → Checker) : (s.blockEnds j f).power = s.power := by
  unfold State.blockEnds; repeat' split
  all_goals rfl
@[simp] theorem State.blockEnds_boot (s : State) (j : Job) (f : Checker → Checker) : (s.blockEnds j f).boot = s.boot := by
  unfold State.blockEnds; repeat' split
  all_goals rfl
@[simp] theorem State.blockEnds_freeCtr (s : State) (j : Job) (f : Checker → Checker) : (s.blockEnds j f).freeCtr = s.freeCtr := by
  unfold State.blockEnds; repeat' split
  all_goals rfl
@[simp] theorem State.blockEnds_pending (s : State) (j : Job) (f : Checker → Checker) : (s.blockEnds j f).pending = s.pending := by
  unfold State.blockEnds; repeat' split
  all_goals rfl

@[simp] theorem State.voidBlock_dict (s : State) (j : Job) : (s.voidBlock j).dict = s.dict := by
  unfold State.voidBlock; dsimp only; repeat' split
  all_goals rfl
@[simp] theorem State.voidBlock_blobs (s : State) (j : Job) : (s.voidBlock j).blobs = s.blobs := by
  unfold State.voidBlock; dsimp only; repeat' split
  all_goals rfl
@[simp] theorem State.voidBlock_image (s : State) (j : Job) : (s.voidBlock j).image = s.image := by
  unfold State.voidBlock; dsimp only; repeat' split
  all_goals rfl
@[simp] theorem State.voidBlock_imageBlobs (s : State) (j : Job) : (s.voidBlock j).imageBlobs = s.imageBlobs := by
  unfold State.voidBlock; dsimp only; repeat' split
  all_goals rfl
@[simp] theorem State.voidBlock_clock (s : State) (j : Job) : (s.voidBlock j).clock = s.clock := by
  unfold State.voidBlock; dsimp only; repeat' split
  all_goals rfl
@[simp] theorem State.voidBlock_time (s : State) (j : Job) : (s.voidBlock j).time = s.time := by
  unfold State.voidBlock; dsimp only; repeat' split
  all_goals rfl
@[simp] theorem State.voidBlock_nl (s : State) (j : Job) : (s.voidBlock j).nl = s.nl := by
  unfold State.voidBlock; dsimp only; repeat' split
  all_goals rfl
@[simp] theorem State.voidBlock_link (s : State) (j : Job) : (s.voidBlock j).link = s.link := by
  unfold State.voidBlock; dsimp only; repeat' split
  all_goals rfl
@[simp] theorem State.voidBlock_svc (s : State) (j : Job) : (s.voidBlock j).svc = s.svc := by
  unfold State.voidBlock; dsimp only; repeat' split
  all_goals rfl
@[simp] theorem State.voidBlock_pipe (s : State) (j : Job) : (s.voidBlock j).pipe = s.pipe := by
  unfold State.voidBlock; dsimp only; repeat' split
  all_goals rfl
@[simp] theorem State.voidBlock_sched (s : State) (j : Job) : (s.voidBlock j).sched = s.sched := by
  unfold State.voidBlock; dsimp only; repeat' split
  all_goals rfl
@[simp] theorem State.voidBlock_wb (s : State) (j : Job) : (s.voidBlock j).wb = s.wb := by
  unfold State.voidBlock; dsimp only; repeat' split
  all_goals rfl
@[simp] theorem State.voidBlock_units (s : State) (j : Job) : (s.voidBlock j).units = s.units := by
  unfold State.voidBlock; dsimp only; repeat' split
  all_goals rfl
@[simp] theorem State.voidBlock_hod (s : State) (j : Job) : (s.voidBlock j).hod = s.hod := by
  unfold State.voidBlock; dsimp only; repeat' split
  all_goals rfl
@[simp] theorem State.voidBlock_guard (s : State) (j : Job) : (s.voidBlock j).guard = s.guard := by
  unfold State.voidBlock; dsimp only; repeat' split
  all_goals rfl
@[simp] theorem State.voidBlock_tiles (s : State) (j : Job) : (s.voidBlock j).tiles = s.tiles := by
  unfold State.voidBlock; dsimp only; repeat' split
  all_goals rfl
@[simp] theorem State.voidBlock_bondWas (s : State) (j : Job) : (s.voidBlock j).bondWas = s.bondWas := by
  unfold State.voidBlock; dsimp only; repeat' split
  all_goals rfl
@[simp] theorem State.voidBlock_mortar (s : State) (j : Job) : (s.voidBlock j).mortar = s.mortar := by
  unfold State.voidBlock; dsimp only; repeat' split
  all_goals rfl
@[simp] theorem State.voidBlock_integ (s : State) (j : Job) : (s.voidBlock j).integ = s.integ := by
  unfold State.voidBlock; dsimp only; repeat' split
  all_goals rfl
@[simp] theorem State.voidBlock_fh (s : State) (j : Job) : (s.voidBlock j).fh = s.fh := by
  unfold State.voidBlock; dsimp only; repeat' split
  all_goals rfl
@[simp] theorem State.voidBlock_dfe (s : State) (j : Job) : (s.voidBlock j).dfe = s.dfe := by
  unfold State.voidBlock; dsimp only; repeat' split
  all_goals rfl
@[simp] theorem State.voidBlock_mem (s : State) (j : Job) : (s.voidBlock j).mem = s.mem := by
  unfold State.voidBlock; dsimp only; repeat' split
  all_goals rfl
@[simp] theorem State.voidBlock_power (s : State) (j : Job) : (s.voidBlock j).power = s.power := by
  unfold State.voidBlock; dsimp only; repeat' split
  all_goals rfl
@[simp] theorem State.voidBlock_boot (s : State) (j : Job) : (s.voidBlock j).boot = s.boot := by
  unfold State.voidBlock; dsimp only; repeat' split
  all_goals rfl
@[simp] theorem State.voidBlock_freeCtr (s : State) (j : Job) : (s.voidBlock j).freeCtr = s.freeCtr := by
  unfold State.voidBlock; dsimp only; repeat' split
  all_goals rfl
@[simp] theorem State.voidBlock_pending (s : State) (j : Job) : (s.voidBlock j).pending = s.pending := by
  unfold State.voidBlock; dsimp only; repeat' split
  all_goals rfl

/-! ## State.onWb -/

@[simp] theorem State.onWb_dict (s : State) (i : Nat) (f : WbEntry → WbEntry) : (s.onWb i f).dict = s.dict := by
  unfold State.onWb; split <;> rfl
@[simp] theorem State.onWb_blobs (s : State) (i : Nat) (f : WbEntry → WbEntry) : (s.onWb i f).blobs = s.blobs := by
  unfold State.onWb; split <;> rfl
@[simp] theorem State.onWb_image (s : State) (i : Nat) (f : WbEntry → WbEntry) : (s.onWb i f).image = s.image := by
  unfold State.onWb; split <;> rfl
@[simp] theorem State.onWb_imageBlobs (s : State) (i : Nat) (f : WbEntry → WbEntry) : (s.onWb i f).imageBlobs = s.imageBlobs := by
  unfold State.onWb; split <;> rfl
@[simp] theorem State.onWb_clock (s : State) (i : Nat) (f : WbEntry → WbEntry) : (s.onWb i f).clock = s.clock := by
  unfold State.onWb; split <;> rfl
@[simp] theorem State.onWb_time (s : State) (i : Nat) (f : WbEntry → WbEntry) : (s.onWb i f).time = s.time := by
  unfold State.onWb; split <;> rfl
@[simp] theorem State.onWb_nl (s : State) (i : Nat) (f : WbEntry → WbEntry) : (s.onWb i f).nl = s.nl := by
  unfold State.onWb; split <;> rfl
@[simp] theorem State.onWb_link (s : State) (i : Nat) (f : WbEntry → WbEntry) : (s.onWb i f).link = s.link := by
  unfold State.onWb; split <;> rfl
@[simp] theorem State.onWb_svc (s : State) (i : Nat) (f : WbEntry → WbEntry) : (s.onWb i f).svc = s.svc := by
  unfold State.onWb; split <;> rfl
@[simp] theorem State.onWb_pipe (s : State) (i : Nat) (f : WbEntry → WbEntry) : (s.onWb i f).pipe = s.pipe := by
  unfold State.onWb; split <;> rfl
@[simp] theorem State.onWb_sched (s : State) (i : Nat) (f : WbEntry → WbEntry) : (s.onWb i f).sched = s.sched := by
  unfold State.onWb; split <;> rfl
@[simp] theorem State.onWb_kiln (s : State) (i : Nat) (f : WbEntry → WbEntry) : (s.onWb i f).kiln = s.kiln := by
  unfold State.onWb; split <;> rfl
@[simp] theorem State.onWb_units (s : State) (i : Nat) (f : WbEntry → WbEntry) : (s.onWb i f).units = s.units := by
  unfold State.onWb; split <;> rfl
@[simp] theorem State.onWb_hod (s : State) (i : Nat) (f : WbEntry → WbEntry) : (s.onWb i f).hod = s.hod := by
  unfold State.onWb; split <;> rfl
@[simp] theorem State.onWb_guard (s : State) (i : Nat) (f : WbEntry → WbEntry) : (s.onWb i f).guard = s.guard := by
  unfold State.onWb; split <;> rfl
@[simp] theorem State.onWb_tiles (s : State) (i : Nat) (f : WbEntry → WbEntry) : (s.onWb i f).tiles = s.tiles := by
  unfold State.onWb; split <;> rfl
@[simp] theorem State.onWb_bondWas (s : State) (i : Nat) (f : WbEntry → WbEntry) : (s.onWb i f).bondWas = s.bondWas := by
  unfold State.onWb; split <;> rfl
@[simp] theorem State.onWb_mortar (s : State) (i : Nat) (f : WbEntry → WbEntry) : (s.onWb i f).mortar = s.mortar := by
  unfold State.onWb; split <;> rfl
@[simp] theorem State.onWb_integ (s : State) (i : Nat) (f : WbEntry → WbEntry) : (s.onWb i f).integ = s.integ := by
  unfold State.onWb; split <;> rfl
@[simp] theorem State.onWb_fh (s : State) (i : Nat) (f : WbEntry → WbEntry) : (s.onWb i f).fh = s.fh := by
  unfold State.onWb; split <;> rfl
@[simp] theorem State.onWb_dfe (s : State) (i : Nat) (f : WbEntry → WbEntry) : (s.onWb i f).dfe = s.dfe := by
  unfold State.onWb; split <;> rfl
@[simp] theorem State.onWb_mem (s : State) (i : Nat) (f : WbEntry → WbEntry) : (s.onWb i f).mem = s.mem := by
  unfold State.onWb; split <;> rfl
@[simp] theorem State.onWb_power (s : State) (i : Nat) (f : WbEntry → WbEntry) : (s.onWb i f).power = s.power := by
  unfold State.onWb; split <;> rfl
@[simp] theorem State.onWb_boot (s : State) (i : Nat) (f : WbEntry → WbEntry) : (s.onWb i f).boot = s.boot := by
  unfold State.onWb; split <;> rfl
@[simp] theorem State.onWb_freeCtr (s : State) (i : Nat) (f : WbEntry → WbEntry) : (s.onWb i f).freeCtr = s.freeCtr := by
  unfold State.onWb; split <;> rfl
@[simp] theorem State.onWb_pending (s : State) (i : Nat) (f : WbEntry → WbEntry) : (s.onWb i f).pending = s.pending := by
  unfold State.onWb; split <;> rfl
@[simp] theorem State.onWb_obj (s : State) (i : Nat) (f : WbEntry → WbEntry) (k : Nat) : (s.onWb i f).obj k = s.obj k :=
  State.obj_congr (State.onWb_dict ..) k

/-! ## State.onUe -/

@[simp] theorem State.onUe_dict (s : State) (i : Nat) (f : Ue → Ue) : (s.onUe i f).dict = s.dict := rfl
@[simp] theorem State.onUe_blobs (s : State) (i : Nat) (f : Ue → Ue) : (s.onUe i f).blobs = s.blobs := rfl
@[simp] theorem State.onUe_image (s : State) (i : Nat) (f : Ue → Ue) : (s.onUe i f).image = s.image := rfl
@[simp] theorem State.onUe_imageBlobs (s : State) (i : Nat) (f : Ue → Ue) : (s.onUe i f).imageBlobs = s.imageBlobs := rfl
@[simp] theorem State.onUe_clock (s : State) (i : Nat) (f : Ue → Ue) : (s.onUe i f).clock = s.clock := rfl
@[simp] theorem State.onUe_time (s : State) (i : Nat) (f : Ue → Ue) : (s.onUe i f).time = s.time := rfl
@[simp] theorem State.onUe_nl (s : State) (i : Nat) (f : Ue → Ue) : (s.onUe i f).nl = s.nl := rfl
@[simp] theorem State.onUe_link (s : State) (i : Nat) (f : Ue → Ue) : (s.onUe i f).link = s.link := rfl
@[simp] theorem State.onUe_svc (s : State) (i : Nat) (f : Ue → Ue) : (s.onUe i f).svc = s.svc := rfl
@[simp] theorem State.onUe_sched (s : State) (i : Nat) (f : Ue → Ue) : (s.onUe i f).sched = s.sched := rfl
@[simp] theorem State.onUe_kiln (s : State) (i : Nat) (f : Ue → Ue) : (s.onUe i f).kiln = s.kiln := rfl
@[simp] theorem State.onUe_wb (s : State) (i : Nat) (f : Ue → Ue) : (s.onUe i f).wb = s.wb := rfl
@[simp] theorem State.onUe_units (s : State) (i : Nat) (f : Ue → Ue) : (s.onUe i f).units = s.units := rfl
@[simp] theorem State.onUe_hod (s : State) (i : Nat) (f : Ue → Ue) : (s.onUe i f).hod = s.hod := rfl
@[simp] theorem State.onUe_guard (s : State) (i : Nat) (f : Ue → Ue) : (s.onUe i f).guard = s.guard := rfl
@[simp] theorem State.onUe_tiles (s : State) (i : Nat) (f : Ue → Ue) : (s.onUe i f).tiles = s.tiles := rfl
@[simp] theorem State.onUe_bondWas (s : State) (i : Nat) (f : Ue → Ue) : (s.onUe i f).bondWas = s.bondWas := rfl
@[simp] theorem State.onUe_mortar (s : State) (i : Nat) (f : Ue → Ue) : (s.onUe i f).mortar = s.mortar := rfl
@[simp] theorem State.onUe_integ (s : State) (i : Nat) (f : Ue → Ue) : (s.onUe i f).integ = s.integ := rfl
@[simp] theorem State.onUe_fh (s : State) (i : Nat) (f : Ue → Ue) : (s.onUe i f).fh = s.fh := rfl
@[simp] theorem State.onUe_dfe (s : State) (i : Nat) (f : Ue → Ue) : (s.onUe i f).dfe = s.dfe := rfl
@[simp] theorem State.onUe_mem (s : State) (i : Nat) (f : Ue → Ue) : (s.onUe i f).mem = s.mem := rfl
@[simp] theorem State.onUe_power (s : State) (i : Nat) (f : Ue → Ue) : (s.onUe i f).power = s.power := rfl
@[simp] theorem State.onUe_boot (s : State) (i : Nat) (f : Ue → Ue) : (s.onUe i f).boot = s.boot := rfl
@[simp] theorem State.onUe_freeCtr (s : State) (i : Nat) (f : Ue → Ue) : (s.onUe i f).freeCtr = s.freeCtr := rfl
@[simp] theorem State.onUe_pending (s : State) (i : Nat) (f : Ue → Ue) : (s.onUe i f).pending = s.pending := rfl
@[simp] theorem State.onUe_obj (s : State) (i : Nat) (f : Ue → Ue) (k : Nat) : (s.onUe i f).obj k = s.obj k :=
  State.obj_congr (State.onUe_dict ..) k

/-! ## State.onHarq -/

@[simp] theorem State.onHarq_dict (s : State) (u p : Nat) (f : Harq → Harq) : (s.onHarq u p f).dict = s.dict := rfl
@[simp] theorem State.onHarq_blobs (s : State) (u p : Nat) (f : Harq → Harq) : (s.onHarq u p f).blobs = s.blobs := rfl
@[simp] theorem State.onHarq_image (s : State) (u p : Nat) (f : Harq → Harq) : (s.onHarq u p f).image = s.image := rfl
@[simp] theorem State.onHarq_imageBlobs (s : State) (u p : Nat) (f : Harq → Harq) : (s.onHarq u p f).imageBlobs = s.imageBlobs := rfl
@[simp] theorem State.onHarq_clock (s : State) (u p : Nat) (f : Harq → Harq) : (s.onHarq u p f).clock = s.clock := rfl
@[simp] theorem State.onHarq_time (s : State) (u p : Nat) (f : Harq → Harq) : (s.onHarq u p f).time = s.time := rfl
@[simp] theorem State.onHarq_nl (s : State) (u p : Nat) (f : Harq → Harq) : (s.onHarq u p f).nl = s.nl := rfl
@[simp] theorem State.onHarq_link (s : State) (u p : Nat) (f : Harq → Harq) : (s.onHarq u p f).link = s.link := rfl
@[simp] theorem State.onHarq_svc (s : State) (u p : Nat) (f : Harq → Harq) : (s.onHarq u p f).svc = s.svc := rfl
@[simp] theorem State.onHarq_sched (s : State) (u p : Nat) (f : Harq → Harq) : (s.onHarq u p f).sched = s.sched := rfl
@[simp] theorem State.onHarq_kiln (s : State) (u p : Nat) (f : Harq → Harq) : (s.onHarq u p f).kiln = s.kiln := rfl
@[simp] theorem State.onHarq_wb (s : State) (u p : Nat) (f : Harq → Harq) : (s.onHarq u p f).wb = s.wb := rfl
@[simp] theorem State.onHarq_units (s : State) (u p : Nat) (f : Harq → Harq) : (s.onHarq u p f).units = s.units := rfl
@[simp] theorem State.onHarq_hod (s : State) (u p : Nat) (f : Harq → Harq) : (s.onHarq u p f).hod = s.hod := rfl
@[simp] theorem State.onHarq_guard (s : State) (u p : Nat) (f : Harq → Harq) : (s.onHarq u p f).guard = s.guard := rfl
@[simp] theorem State.onHarq_tiles (s : State) (u p : Nat) (f : Harq → Harq) : (s.onHarq u p f).tiles = s.tiles := rfl
@[simp] theorem State.onHarq_bondWas (s : State) (u p : Nat) (f : Harq → Harq) : (s.onHarq u p f).bondWas = s.bondWas := rfl
@[simp] theorem State.onHarq_mortar (s : State) (u p : Nat) (f : Harq → Harq) : (s.onHarq u p f).mortar = s.mortar := rfl
@[simp] theorem State.onHarq_integ (s : State) (u p : Nat) (f : Harq → Harq) : (s.onHarq u p f).integ = s.integ := rfl
@[simp] theorem State.onHarq_fh (s : State) (u p : Nat) (f : Harq → Harq) : (s.onHarq u p f).fh = s.fh := rfl
@[simp] theorem State.onHarq_dfe (s : State) (u p : Nat) (f : Harq → Harq) : (s.onHarq u p f).dfe = s.dfe := rfl
@[simp] theorem State.onHarq_mem (s : State) (u p : Nat) (f : Harq → Harq) : (s.onHarq u p f).mem = s.mem := rfl
@[simp] theorem State.onHarq_power (s : State) (u p : Nat) (f : Harq → Harq) : (s.onHarq u p f).power = s.power := rfl
@[simp] theorem State.onHarq_boot (s : State) (u p : Nat) (f : Harq → Harq) : (s.onHarq u p f).boot = s.boot := rfl
@[simp] theorem State.onHarq_freeCtr (s : State) (u p : Nat) (f : Harq → Harq) : (s.onHarq u p f).freeCtr = s.freeCtr := rfl
@[simp] theorem State.onHarq_pending (s : State) (u p : Nat) (f : Harq → Harq) : (s.onHarq u p f).pending = s.pending := rfl
@[simp] theorem State.onHarq_obj (s : State) (u p : Nat) (f : Harq → Harq) (k : Nat) : (s.onHarq u p f).obj k = s.obj k :=
  State.obj_congr (State.onHarq_dict ..) k

/-! ## State.onChan -/

@[simp] theorem State.onChan_dict (s : State) (c : Nat) (f : Channel → Channel) : (s.onChan c f).dict = s.dict := rfl
@[simp] theorem State.onChan_blobs (s : State) (c : Nat) (f : Channel → Channel) : (s.onChan c f).blobs = s.blobs := rfl
@[simp] theorem State.onChan_image (s : State) (c : Nat) (f : Channel → Channel) : (s.onChan c f).image = s.image := rfl
@[simp] theorem State.onChan_imageBlobs (s : State) (c : Nat) (f : Channel → Channel) : (s.onChan c f).imageBlobs = s.imageBlobs := rfl
@[simp] theorem State.onChan_clock (s : State) (c : Nat) (f : Channel → Channel) : (s.onChan c f).clock = s.clock := rfl
@[simp] theorem State.onChan_time (s : State) (c : Nat) (f : Channel → Channel) : (s.onChan c f).time = s.time := rfl
@[simp] theorem State.onChan_nl (s : State) (c : Nat) (f : Channel → Channel) : (s.onChan c f).nl = s.nl := rfl
@[simp] theorem State.onChan_svc (s : State) (c : Nat) (f : Channel → Channel) : (s.onChan c f).svc = s.svc := rfl
@[simp] theorem State.onChan_pipe (s : State) (c : Nat) (f : Channel → Channel) : (s.onChan c f).pipe = s.pipe := rfl
@[simp] theorem State.onChan_sched (s : State) (c : Nat) (f : Channel → Channel) : (s.onChan c f).sched = s.sched := rfl
@[simp] theorem State.onChan_kiln (s : State) (c : Nat) (f : Channel → Channel) : (s.onChan c f).kiln = s.kiln := rfl
@[simp] theorem State.onChan_wb (s : State) (c : Nat) (f : Channel → Channel) : (s.onChan c f).wb = s.wb := rfl
@[simp] theorem State.onChan_units (s : State) (c : Nat) (f : Channel → Channel) : (s.onChan c f).units = s.units := rfl
@[simp] theorem State.onChan_hod (s : State) (c : Nat) (f : Channel → Channel) : (s.onChan c f).hod = s.hod := rfl
@[simp] theorem State.onChan_guard (s : State) (c : Nat) (f : Channel → Channel) : (s.onChan c f).guard = s.guard := rfl
@[simp] theorem State.onChan_tiles (s : State) (c : Nat) (f : Channel → Channel) : (s.onChan c f).tiles = s.tiles := rfl
@[simp] theorem State.onChan_bondWas (s : State) (c : Nat) (f : Channel → Channel) : (s.onChan c f).bondWas = s.bondWas := rfl
@[simp] theorem State.onChan_mortar (s : State) (c : Nat) (f : Channel → Channel) : (s.onChan c f).mortar = s.mortar := rfl
@[simp] theorem State.onChan_integ (s : State) (c : Nat) (f : Channel → Channel) : (s.onChan c f).integ = s.integ := rfl
@[simp] theorem State.onChan_fh (s : State) (c : Nat) (f : Channel → Channel) : (s.onChan c f).fh = s.fh := rfl
@[simp] theorem State.onChan_dfe (s : State) (c : Nat) (f : Channel → Channel) : (s.onChan c f).dfe = s.dfe := rfl
@[simp] theorem State.onChan_mem (s : State) (c : Nat) (f : Channel → Channel) : (s.onChan c f).mem = s.mem := rfl
@[simp] theorem State.onChan_power (s : State) (c : Nat) (f : Channel → Channel) : (s.onChan c f).power = s.power := rfl
@[simp] theorem State.onChan_boot (s : State) (c : Nat) (f : Channel → Channel) : (s.onChan c f).boot = s.boot := rfl
@[simp] theorem State.onChan_freeCtr (s : State) (c : Nat) (f : Channel → Channel) : (s.onChan c f).freeCtr = s.freeCtr := rfl
@[simp] theorem State.onChan_pending (s : State) (c : Nat) (f : Channel → Channel) : (s.onChan c f).pending = s.pending := rfl
@[simp] theorem State.onChan_obj (s : State) (c : Nat) (f : Channel → Channel) (k : Nat) : (s.onChan c f).obj k = s.obj k :=
  State.obj_congr (State.onChan_dict ..) k

/-! ## State.onJob -/

@[simp] theorem State.onJob_dict (s : State) (t slot : Nat) (f : FusedJob → FusedJob) : (s.onJob t slot f).dict = s.dict := by
  unfold State.onJob; split <;> (try split) <;> rfl
@[simp] theorem State.onJob_blobs (s : State) (t slot : Nat) (f : FusedJob → FusedJob) : (s.onJob t slot f).blobs = s.blobs := by
  unfold State.onJob; split <;> (try split) <;> rfl
@[simp] theorem State.onJob_image (s : State) (t slot : Nat) (f : FusedJob → FusedJob) : (s.onJob t slot f).image = s.image := by
  unfold State.onJob; split <;> (try split) <;> rfl
@[simp] theorem State.onJob_imageBlobs (s : State) (t slot : Nat) (f : FusedJob → FusedJob) : (s.onJob t slot f).imageBlobs = s.imageBlobs := by
  unfold State.onJob; split <;> (try split) <;> rfl
@[simp] theorem State.onJob_clock (s : State) (t slot : Nat) (f : FusedJob → FusedJob) : (s.onJob t slot f).clock = s.clock := by
  unfold State.onJob; split <;> (try split) <;> rfl
@[simp] theorem State.onJob_time (s : State) (t slot : Nat) (f : FusedJob → FusedJob) : (s.onJob t slot f).time = s.time := by
  unfold State.onJob; split <;> (try split) <;> rfl
@[simp] theorem State.onJob_nl (s : State) (t slot : Nat) (f : FusedJob → FusedJob) : (s.onJob t slot f).nl = s.nl := by
  unfold State.onJob; split <;> (try split) <;> rfl
@[simp] theorem State.onJob_link (s : State) (t slot : Nat) (f : FusedJob → FusedJob) : (s.onJob t slot f).link = s.link := by
  unfold State.onJob; split <;> (try split) <;> rfl
@[simp] theorem State.onJob_svc (s : State) (t slot : Nat) (f : FusedJob → FusedJob) : (s.onJob t slot f).svc = s.svc := by
  unfold State.onJob; split <;> (try split) <;> rfl
@[simp] theorem State.onJob_pipe (s : State) (t slot : Nat) (f : FusedJob → FusedJob) : (s.onJob t slot f).pipe = s.pipe := by
  unfold State.onJob; split <;> (try split) <;> rfl
@[simp] theorem State.onJob_sched (s : State) (t slot : Nat) (f : FusedJob → FusedJob) : (s.onJob t slot f).sched = s.sched := by
  unfold State.onJob; split <;> (try split) <;> rfl
@[simp] theorem State.onJob_kiln (s : State) (t slot : Nat) (f : FusedJob → FusedJob) : (s.onJob t slot f).kiln = s.kiln := by
  unfold State.onJob; split <;> (try split) <;> rfl
@[simp] theorem State.onJob_wb (s : State) (t slot : Nat) (f : FusedJob → FusedJob) : (s.onJob t slot f).wb = s.wb := by
  unfold State.onJob; split <;> (try split) <;> rfl
@[simp] theorem State.onJob_units (s : State) (t slot : Nat) (f : FusedJob → FusedJob) : (s.onJob t slot f).units = s.units := by
  unfold State.onJob; split <;> (try split) <;> rfl
@[simp] theorem State.onJob_hod (s : State) (t slot : Nat) (f : FusedJob → FusedJob) : (s.onJob t slot f).hod = s.hod := by
  unfold State.onJob; split <;> (try split) <;> rfl
@[simp] theorem State.onJob_guard (s : State) (t slot : Nat) (f : FusedJob → FusedJob) : (s.onJob t slot f).guard = s.guard := by
  unfold State.onJob; split <;> (try split) <;> rfl
@[simp] theorem State.onJob_bondWas (s : State) (t slot : Nat) (f : FusedJob → FusedJob) : (s.onJob t slot f).bondWas = s.bondWas := by
  unfold State.onJob; split <;> (try split) <;> rfl
@[simp] theorem State.onJob_mortar (s : State) (t slot : Nat) (f : FusedJob → FusedJob) : (s.onJob t slot f).mortar = s.mortar := by
  unfold State.onJob; split <;> (try split) <;> rfl
@[simp] theorem State.onJob_integ (s : State) (t slot : Nat) (f : FusedJob → FusedJob) : (s.onJob t slot f).integ = s.integ := by
  unfold State.onJob; split <;> (try split) <;> rfl
@[simp] theorem State.onJob_fh (s : State) (t slot : Nat) (f : FusedJob → FusedJob) : (s.onJob t slot f).fh = s.fh := by
  unfold State.onJob; split <;> (try split) <;> rfl
@[simp] theorem State.onJob_dfe (s : State) (t slot : Nat) (f : FusedJob → FusedJob) : (s.onJob t slot f).dfe = s.dfe := by
  unfold State.onJob; split <;> (try split) <;> rfl
@[simp] theorem State.onJob_mem (s : State) (t slot : Nat) (f : FusedJob → FusedJob) : (s.onJob t slot f).mem = s.mem := by
  unfold State.onJob; split <;> (try split) <;> rfl
@[simp] theorem State.onJob_power (s : State) (t slot : Nat) (f : FusedJob → FusedJob) : (s.onJob t slot f).power = s.power := by
  unfold State.onJob; split <;> (try split) <;> rfl
@[simp] theorem State.onJob_boot (s : State) (t slot : Nat) (f : FusedJob → FusedJob) : (s.onJob t slot f).boot = s.boot := by
  unfold State.onJob; split <;> (try split) <;> rfl
@[simp] theorem State.onJob_freeCtr (s : State) (t slot : Nat) (f : FusedJob → FusedJob) : (s.onJob t slot f).freeCtr = s.freeCtr := by
  unfold State.onJob; split <;> (try split) <;> rfl
@[simp] theorem State.onJob_pending (s : State) (t slot : Nat) (f : FusedJob → FusedJob) : (s.onJob t slot f).pending = s.pending := by
  unfold State.onJob; split <;> (try split) <;> rfl
@[simp] theorem State.onJob_obj (s : State) (t slot : Nat) (f : FusedJob → FusedJob) (k : Nat) : (s.onJob t slot f).obj k = s.obj k :=
  State.obj_congr (State.onJob_dict ..) k

@[simp] theorem onWraps_servo (n : Nat) (s : State) : (onWraps n s).time.servo = s.time.servo := by
  induction n generalizing s with
  | zero => rfl
  | succ n ih =>
    rw [onWraps, ih]; unfold onWrap; dsimp only; split <;> rfl

@[simp] theorem onWraps_gnss (n : Nat) (s : State) : (onWraps n s).time.gnss = s.time.gnss := by
  induction n generalizing s with
  | zero => rfl
  | succ n ih =>
    rw [onWraps, ih]; unfold onWrap; dsimp only; split <;> rfl
@[simp] theorem advance_gnss (s : State) (n : Nat) : (advance s n).time.gnss = s.time.gnss := by
  unfold advance; dsimp only; split <;> simp [TimeBase.wrapped]

@[simp] theorem advance_servo (s : State) (n : Nat) : (advance s n).time.servo = s.time.servo := by
  unfold advance; dsimp only; split <;> simp [TimeBase.wrapped]

@[simp] theorem onWraps_ptp (n : Nat) (s : State) : (onWraps n s).time.ptp = s.time.ptp := by
  induction n generalizing s with
  | zero => rfl
  | succ n ih =>
    rw [onWraps, ih]; unfold onWrap; dsimp only; split <;> rfl
@[simp] theorem advance_ptp (s : State) (n : Nat) : (advance s n).time.ptp = s.time.ptp := by
  unfold advance; dsimp only; split <;> simp [TimeBase.wrapped]

@[simp] theorem onWraps_offsets (n : Nat) (s : State) : (onWraps n s).time.offsets = s.time.offsets := by
  induction n generalizing s with
  | zero => rfl
  | succ n ih =>
    rw [onWraps, ih]; unfold onWrap; dsimp only; split <;> rfl
@[simp] theorem advance_offsets (s : State) (n : Nat) : (advance s n).time.offsets = s.time.offsets := by
  unfold advance; dsimp only; split <;> simp [TimeBase.wrapped]

@[simp] theorem onWraps_ptpSent (n : Nat) (s : State) : (onWraps n s).time.ptpSent = s.time.ptpSent := by
  induction n generalizing s with
  | zero => rfl
  | succ n ih =>
    rw [onWraps, ih]; unfold onWrap; dsimp only; split <;> rfl
@[simp] theorem advance_ptpSent (s : State) (n : Nat) : (advance s n).time.ptpSent = s.time.ptpSent := by
  unfold advance; dsimp only; split <;> simp [TimeBase.wrapped]

@[simp] theorem onWraps_residence (n : Nat) (s : State) : (onWraps n s).time.residence = s.time.residence := by
  induction n generalizing s with
  | zero => rfl
  | succ n ih =>
    rw [onWraps, ih]; unfold onWrap; dsimp only; split <;> rfl
@[simp] theorem advance_residence (s : State) (n : Nat) : (advance s n).time.residence = s.time.residence := by
  unfold advance; dsimp only; split <;> simp [TimeBase.wrapped]

@[simp] theorem onWraps_laneLock (n : Nat) (s : State) : (onWraps n s).time.laneLock = s.time.laneLock := by
  induction n generalizing s with
  | zero => rfl
  | succ n ih =>
    rw [onWraps, ih]; unfold onWrap; dsimp only; split <;> rfl
@[simp] theorem advance_laneLock (s : State) (n : Nat) : (advance s n).time.laneLock = s.time.laneLock := by
  unfold advance; dsimp only; split <;> simp [TimeBase.wrapped]

@[simp] theorem onWraps_captures (n : Nat) (s : State) : (onWraps n s).time.captures = s.time.captures := by
  induction n generalizing s with
  | zero => rfl
  | succ n ih =>
    rw [onWraps, ih]; unfold onWrap; dsimp only; split <;> rfl
@[simp] theorem advance_captures (s : State) (n : Nat) : (advance s n).time.captures = s.time.captures := by
  unfold advance; dsimp only; split <;> simp [TimeBase.wrapped]

@[simp] theorem onWraps_ppsRise (n : Nat) (s : State) : (onWraps n s).time.ppsRise = s.time.ppsRise := by
  induction n generalizing s with
  | zero => rfl
  | succ n ih =>
    rw [onWraps, ih]; unfold onWrap; dsimp only; split <;> rfl
@[simp] theorem advance_ppsRise (s : State) (n : Nat) : (advance s n).time.ppsRise = s.time.ppsRise := by
  unfold advance; dsimp only; split <;> simp [TimeBase.wrapped]

@[simp] theorem onWraps_ppsFall (n : Nat) (s : State) : (onWraps n s).time.ppsFall = s.time.ppsFall := by
  induction n generalizing s with
  | zero => rfl
  | succ n ih =>
    rw [onWraps, ih]; unfold onWrap; dsimp only; split <;> rfl
@[simp] theorem advance_ppsFall (s : State) (n : Nat) : (advance s n).time.ppsFall = s.time.ppsFall := by
  unfold advance; dsimp only; split <;> simp [TimeBase.wrapped]

end Sys2Proof.Machine
end

