-- ==== Sys2Proof/Tests/Slice0.lean ====
section
/-! SUPPORT. Tests: every check of WellFormed refuses a term, worked examples of the spec, and for every statement with hypotheses a state
and operands that meet them, for each of its clauses. -/

set_option linter.unusedVariables false
set_option Elab.async false

open Sys2Proof Sys2Proof.Machine Sys2Proof.Safety

namespace Sys2Proof.Tests

/-! ## Ill-formed terms are refused (one term for each check) -/

/-- A transfer and a sequence of 49 bits. -/
def okX : Xfer := ⟨0, 1⟩
def badX : Xfer := ⟨0, 2 ^ 48⟩
/-- A header, and one of channel 65. -/
def okH : CourseHdr := ⟨0, 1, 0, 0, 0, 0, 32⟩
def badH : CourseHdr := ⟨0, 65, 0, 0, 0, 0, 32⟩
def okF : Frame := ⟨0, 0, none, 0, 64, true, false, 0, false, none, false, 0⟩
def okQ : IqMsg := ⟨0, 0, false, 0, 0, 0, false, 0, 0, 0, [], []⟩
def okP : PtpHead := ⟨.udp4 0, 0, 0⟩
def okM : NlMeasure := ⟨0, 0, 0, 0, 0, 0, 0⟩

/-- Well-formed terms, the smallest of each constructor. -/
theorem test_wf_admits_1 :
    ([
      .writeLegacyMode okX 0, .ppsInEdge 0 0 0, .writeServoEnable okX 0, .writeSourcePriority okX .gnss 0, .writePtpRole okX 0,
      .writeAuthMode okX 0, .triggerFire 0, .writeTriggerTarget okX 0 0, .readCapFifo okX 0, .ptpMessageRx 0 0 okP (.delayReq 0 0),
      .ptpMessageTx 0 ⟨.udp4 0, .sync⟩, .synceOutputResume 0, .writeNlEnable okX 0, .nlDetection 0 0 0 0 0, .nlReceptionCommit (.pbch true) 0,
      .nlResultWritten ⟨0, 0, 0, 0, 0, 0, 0⟩, .writeAirEpoch okX 0, .courseTentative okH 0 [], .courseRevise okH 0 [], .courseBind okH,
      .courseCancel okH, .dlTbData okH 0 0 [], .courseAutoBind 1 0, .courseInAir 1 0, .courseEgressComplete 1 0, .outcomeSend 1,
      .outcomeAck 0 0 0 0, .ucieLaneRepair 0 0, .ucieModuleLost 0 0, .ucieModuleRetrained 0 0, .restoreHoldExpiry 0, .channelReturn 1,
      .sidebandMessageRx 0 0 0 0 (List.replicate 8 0), .malformedMessageRx 0 0 [],
          .resumeOpen 0 0 0 (List.replicate 64 0)] : List Instr).all (fun i => i.wf) = true := by decide +kernel

/-- Well-formed terms, the smallest of each constructor. -/
theorem test_wf_admits_2 :
    ([
      .resumeModeResume 0 0 0 (List.replicate 64 ⟨0, 0, 0⟩), .resumeClose 0 0 2 0, .writeSessionHold okX 0, .dictRead okX 0 0 0 0 0,
      .dictReadDescriptor okX 0 0, .dictWrite okX 0 0 0 0 0 [], .dictRevertImage okX 0 0, .dictRevertFactory okX 0 0,
      .registerWrite okX 0 0 [], .enableDeferredCheck 0 0, .readEnableLog okX, .writeCarrierEnable okX 0 0,
      .writeUeContext okX (List.replicate 64 0), .writeUeRelease okX 0, .kilnEngineFault .decode 0, .leEngineFault 0, .xeEngineFault 0,
      .wbDefine okX, .wbDelete okX, .writeWbWeights okX [], .wbCommit okX, .wbCopyComplete 0, .wbSwapDecision 0, .wbSwapBoundary 0,
      .writePortEnable okX 0 0, .portLinkUp 0, .fhLinkDown 0 0 .signal, .fecBerWindow 0 0 0 0, .failoverReturn 0, .portShutdownComplete 0,
      .frameRx 0 0 okF, .uplaneMessageRx 0 0 okQ, .oneWayDelayMsgRx 0 0 0 0 .request 0 0, .remoteResetResponseRx 0 0 0,
          .writeFwdRules okX []] : List Instr).all (fun i => i.wf) = true := by decide +kernel

/-- Well-formed terms, the smallest of each constructor. -/
theorem test_wf_admits_3 :
    ([
      .dlCplaneSend 1 0 0 0, .ulCplaneSend 1 0 0, .uplaneLaunch 1 0 0 0 0 0, .upTxLate 1 0 0, .ulWindowClose 1 0 0, .owdStartRequest okX,
      .owdStartFollowUp okX, .remoteResetSend okX, .dfeResetAll okX, .writeTaps okX 0 .tx [], .commitTaps okX 0 .tx, .coefSwapDecision 0,
      .coefFadeStart 0, .coefFadeEnd 0, .coefCopyComplete 0, .coefCrcCheck 0 .tx false, .thrBlockEnd 0, .thrHoldoffEnd 0,
      .txWindowOpen 0, .txWindowClose 0, .txgateEdge 0 false, .scalarRegisterOp 0 .add 0 0 0, .scalarImmediateOp 0 .add 0 0 0,
      .wideImmediate 0 0 0 false 0, .scalarLoad 0 0 0 0 1 false, .scalarStore 0 0 0 0 1, .branch 0 .eq 0 0 0, .jump 0 false 0,
      .vectorArithmetic 0 .add false ⟨0, 0, 0, 0, .i16, false⟩, .vectorMultiply 0 .mul false ⟨0, 0, 0, 0, .i16, false⟩,
      .vectorPermute 0 .broadcast false ⟨0, 0, 0, 0, .i16, false⟩, .vectorLoad 0 ⟨0, 0, 0, 0, .i16, false⟩,
      .vectorStore 0 ⟨0, 0, 0, 0, .i16, false⟩, .gather 0 ⟨0, 0, 0, 0, .i16⟩, .scatter 0 false ⟨0, 0, 0, 0,
          .i16⟩] : List Instr).all (fun i => i.wf) = true := by decide +kernel

/-- Well-formed terms, the smallest of each constructor. -/
theorem test_wf_admits_4 :
    ([
      .firstFaultGather 0 ⟨0, 0, 0, 0, .i16⟩, .pspan 0 false 0 0 0 .i16, .predicateOp 0 .pand 0 0 0 0 .i16,
      .controlRegisterAccess 0 false 0 0, .fence 0, .syscall 0, .fcall 0, .breakpoint 0, .eret 0, .tend 0 0, .taskEndReport 0,
      .taskStart 0, .tileCancel 0, .tileFault 0, .bondMismatch 0, .spareSelfTest 0 false, .writeTileVl okX 0 0, .tileVlApply 0,
      .writeBondMode okX 0 0, .bondChangeComplete 0, .fuse 0 0 0 0 [], .fusedJobSend 0 0, .fwait 0 0 0, .ftest 0 0 0, .fcancel 0 0,
      .bfb 0 0 0, .bff 0 0 0, .fusedPublication 0 0 [] [], .dispatch 0 0, .prefetchCopyComplete 0 0, .prefetchWaitExpiry 0,
      .writePartEnable okX 0 0, .writeTraceEnable okX 0, .readTraceRecords okX, .readReq ⟨0, 0, 0,
          1⟩ []] : List Instr).all (fun i => i.wf) = true := by decide +kernel

/-- Well-formed terms, the smallest of each constructor. -/
theorem test_wf_admits_5 :
    ([
      .write ⟨0, 0, 0, 1⟩ [0] (List.replicate 64 0) [], .message ⟨0, 0, 0, 1⟩ .other 0, .readResp 0 0 0 .ok, .writeAck 0 0 .ok,
      .messageAck 0 0 .ok, .linkReplay 0, .requestTimeout 0 0, .requestRetryResend 0 0, .ringLinkFault 0 0 false, .foldNoticeRx 0 0 0,
      .reverseHoldExpiry 0, .ringRestore 0, .jointPathFault 0 0, .writeArbTable okX false [], .arbCommit okX false, .edcMismatch 0 0,
      .channelRetrainComplete 0 false, .channelQueueRetry 0 0 0, .gddr7ChannelLost 0 .burst, .gddr7Scrub 0 0 [], .palletStoreScrub 0 [],
      .tileMemoryScrub 0 [], .writeRetiredPages okX [], .writeRetiredBanks okX [], .readErrLog okX, .readMcRecord okX,
      .hodDescriptorEnd 0 0, .hodResponseEnd 0 0 .ok, .hodChainSignal 0 0, .haltHoldExpiry 0 false, .hodRelease okX 0, .diagStart okX,
      .diagStop okX, .guardAudit 0 false, .guardConfigCrcCheck 0 false] : List Instr).all (fun i => i.wf) = true := by decide +kernel

/-- Well-formed terms, the smallest of each constructor. -/
theorem test_wf_admits_6 :
    ([
      .powerMeterBlock 0 0, .guardSelfCheck false 0, .muteRelease okX 0, .guardResync okX, .dfeChainFault 0, .palletSliceFault 0,
      .managementCoreWatchdog 0, .unitRetire okX 0, .faultClear okX, .injArm okX, .injRestore okX, .readMuteLog okX, .hostVote okX 0 0,
      .domainTransitionStart 0, .domainDrained 0, .domainEnterRunComplete 0, .pmbusRead [(0, 0, 0), (0, 0, 0), (0, 0, 0)],
      .writeWatchEnable okX 0, .watchCplaneSend 0 0, .watchWindowOpen 0, .watchWindowClose 0, .resetCmdWarm okX, .resetCmdCold okX,
      .imgErase okX, .imgData okX [], .imgVerify okX, .imgActivate okX, .imgConfirm okX, .rollbackCommit okX, .attestRequest okX,
      .ownerProgram okX (List.replicate 32 0), .debugToken okX (List.replicate 5460 0), .debugClose okX, .railUndervoltage 0 0 0,
      .gddr7TemperatureReadout 0 0] : List Instr).all (fun i => i.wf) = true := by decide +kernel

/-- One term for each check that it fails alone. -/
theorem test_wf_refuses_1 :
    ([
      .writeLegacyMode badX 0, .writeLegacyMode okX (-1), .writeLegacyMode okX (2 ^ 8), .ppsInEdge 0 0 64, .writeServoEnable badX 0,
      .writeServoEnable okX (-1), .writeServoEnable okX (2 ^ 8), .writeSourcePriority badX .gnss 0, .writeSourcePriority okX .gnss (-1),
      .writeSourcePriority okX .gnss (2 ^ 8), .writePtpRole badX 0, .writePtpRole okX (-1), .writePtpRole okX (2 ^ 8),
      .writeAuthMode badX 0, .writeAuthMode okX (-1), .writeAuthMode okX (2 ^ 8), .triggerFire 8, .writeTriggerTarget badX 0 0,
      .writeTriggerTarget okX 8 0, .writeTriggerTarget okX 0 (-1), .writeTriggerTarget okX 0 (2 ^ 128), .readCapFifo badX 0,
      .readCapFifo okX 8, .ptpMessageRx 0 24 okP (.delayReq 0 0), .ptpMessageRx 0 0 okP (.delayReq 65536 0),
      .ptpMessageRx 0 0 ⟨.udp4 0, 256, 0⟩ (.delayReq 0 0),
      .ptpMessageRx 0 0 ⟨.udp4 0, 0, 2 ^ 80⟩ (.delayReq 0 0), .ptpMessageTx 24 ⟨.udp4 0, .sync⟩,
      .synceOutputResume 2, .writeNlEnable badX 0, .writeNlEnable okX (-1), .writeNlEnable okX (2 ^ 8), .nlDetection 0 65536 0 0 0,
      .nlDetection 0 0 1008 0 0] : List Instr).all (fun i => !i.wf) = true := by decide +kernel

/-- One term for each check that it fails alone. -/
theorem test_wf_refuses_2 :
    ([
      .nlDetection 0 0 0 5 0, .nlReceptionCommit (.pbch true) 1001, .nlResultWritten ⟨0, 64, 0, 0, 0, 0, 0⟩, .writeAirEpoch badX 0,
      .writeAirEpoch okX (-1), .writeAirEpoch okX (2 ^ 128), .courseTentative badH 0 [], .courseRevise badH 0 [], .courseBind badH,
      .courseCancel badH, .dlTbData badH 0 0 [], .courseAutoBind 0 0, .courseAutoBind 65 0, .courseAutoBind 1 (2 ^ 32), .courseInAir 0 0,
      .courseInAir 65 0, .courseInAir 1 (2 ^ 32), .courseEgressComplete 0 0, .courseEgressComplete 65 0, .courseEgressComplete 1 (2 ^ 32),
      .outcomeSend 0, .outcomeSend 65, .outcomeAck 0 65536 0 0, .outcomeAck 0 0 (2 ^ 48) 0, .ucieLaneRepair 2 0, .ucieLaneRepair 0 9,
      .ucieModuleLost 0 2, .ucieModuleRetrained 0 2, .restoreHoldExpiry 2, .channelReturn 65,
      .sidebandMessageRx 0 2 0 0 (List.replicate 8 0)] : List Instr).all (fun i => !i.wf) = true := by decide +kernel

/-- One term for each check that it fails alone. -/
theorem test_wf_refuses_3 :
    ([
      .sidebandMessageRx 0 0 65536 0 (List.replicate 8 0), .sidebandMessageRx 0 0 0 256 (List.replicate 8 0),
      .sidebandMessageRx 0 0 0 0 [], .malformedMessageRx 0 2 [], .malformedMessageRx 0 0 [0], .resumeOpen 0 (2 ^ 48) 0 (List.replicate 64 0),
      .resumeOpen 0 0 (2 ^ 128) (List.replicate 64 0), .resumeOpen 0 0 0 [], .resumeOpen 0 0 0 (List.replicate 64 (2 ^ 32)),
      .resumeModeResume 0 (2 ^ 48) 0 (List.replicate 64 ⟨0, 0, 0⟩), .resumeModeResume 0 0 (2 ^ 128) (List.replicate 64 ⟨0, 0, 0⟩),
      .resumeModeResume 0 0 0 [], .resumeModeResume 0 0 0 (List.replicate 64 ⟨2 ^ 48, 0, 0⟩), .resumeClose 0 (2 ^ 48) 2 0,
      .resumeClose 0 0 1 0, .resumeClose 0 0 256 0, .resumeClose 0 0 2 (2 ^ 128), .writeSessionHold badX 0, .writeSessionHold okX (-1),
      .writeSessionHold okX (2 ^ 32), .dictRead badX 0 0 0 0 0, .dictRead okX 65536 0 0 0 0, .dictRead okX 0 256 0 0 0,
      .dictRead okX 0 0 256 0 0, .dictRead okX 0 0 0 (2 ^ 32) 0, .dictRead okX 0 0 0 0 (2 ^ 32), .dictReadDescriptor badX 0 0,
      .dictReadDescriptor okX 65536 0, .dictReadDescriptor okX 0 256, .dictWrite badX 0 0 0 0 0 [], .dictWrite okX 65536 0 0 0 0 [],
      .dictWrite okX 0 256 0 0 0 [], .dictWrite okX 0 0 256 0 0 []] : List Instr).all (fun i => !i.wf) = true := by decide +kernel

/-- One term for each check that it fails alone. -/
theorem test_wf_refuses_4 :
    ([
      .dictWrite okX 0 0 0 (2 ^ 32) 0 [], .dictWrite okX 0 0 0 0 (2 ^ 32) [], .dictRevertImage badX 0 0, .dictRevertImage okX 65536 0,
      .dictRevertImage okX 0 256, .dictRevertFactory badX 0 0, .dictRevertFactory okX 65536 0, .dictRevertFactory okX 0 256,
      .registerWrite badX 0 0 [], .registerWrite okX 65536 0 [], .registerWrite okX 0 256 [], .enableDeferredCheck 65536 0,
      .enableDeferredCheck 0 256, .readEnableLog badX, .writeCarrierEnable badX 0 0, .writeCarrierEnable okX 64 0,
      .writeCarrierEnable okX 0 (-1), .writeCarrierEnable okX 0 (2 ^ 8), .writeUeContext badX (List.replicate 64 0),
      .writeUeContext okX [], .writeUeRelease badX 0, .writeUeRelease okX (-1), .writeUeRelease okX (2 ^ 16), .kilnEngineFault .decode 68,
      .leEngineFault 34, .xeEngineFault 17, .wbDefine badX, .wbDelete badX, .writeWbWeights badX [], .wbCommit badX, .wbCopyComplete 4096,
      .wbSwapDecision 4096] : List Instr).all (fun i => !i.wf) = true := by decide +kernel

/-- One term for each check that it fails alone. -/
theorem test_wf_refuses_5 :
    ([
      .wbSwapBoundary 4096, .writePortEnable badX 0 0, .writePortEnable okX 24 0, .writePortEnable okX 0 (-1),
      .writePortEnable okX 0 (2 ^ 8), .portLinkUp 24, .fhLinkDown 0 24 .signal, .fecBerWindow 24 0 0 0, .failoverReturn 64,
      .portShutdownComplete 24, .frameRx 0 24 okF, .frameRx 0 0 ⟨2 ^ 48, 0, none, 0, 0, true, false, 0, false, none, false, 0⟩,
      .uplaneMessageRx 0 24 okQ, .uplaneMessageRx 0 0 ⟨65536, 0, false, 0, 0, 0, false, 0, 0, 0, [], []⟩,
      .oneWayDelayMsgRx 0 24 0 0 .request 0 0, .oneWayDelayMsgRx 0 0 0 256 .request 0 0, .remoteResetResponseRx 0 24 0,
      .remoteResetResponseRx 0 0 65536, .writeFwdRules badX [], .dlCplaneSend 0 0 0 0, .dlCplaneSend 65 0 0 0,
      .dlCplaneSend 1 (2 ^ 32) 0 0, .dlCplaneSend 1 0 65536 0, .ulCplaneSend 0 0 0, .ulCplaneSend 65 0 0, .ulCplaneSend 1 (2 ^ 32) 0,
      .uplaneLaunch 0 0 0 0 0 0, .uplaneLaunch 65 0 0 0 0 0, .uplaneLaunch 1 (2 ^ 32) 0 0 0 0, .uplaneLaunch 1 0 14 0 0 0,
      .uplaneLaunch 1 0 0 64 0 0, .upTxLate 0 0 0] : List Instr).all (fun i => !i.wf) = true := by decide +kernel

/-- One term for each check that it fails alone. -/
theorem test_wf_refuses_6 :
    ([
      .upTxLate 65 0 0, .upTxLate 1 (2 ^ 32) 0, .upTxLate 1 0 14, .ulWindowClose 0 0 0, .ulWindowClose 65 0 0, .ulWindowClose 1 (2 ^ 32) 0,
      .ulWindowClose 1 0 14, .owdStartRequest badX, .owdStartFollowUp badX, .remoteResetSend badX, .dfeResetAll badX,
      .writeTaps badX 0 .tx [], .writeTaps okX 128 .tx [], .commitTaps badX 0 .tx, .commitTaps okX 128 .tx, .coefSwapDecision 128,
      .coefFadeStart 128, .coefFadeEnd 128, .coefCopyComplete 128, .coefCrcCheck 128 .tx false, .thrBlockEnd 128, .thrHoldoffEnd 128,
      .txWindowOpen 64, .txWindowClose 64, .txgateEdge 16 false, .scalarRegisterOp 200 .add 0 0 0, .scalarRegisterOp 0 .add 32 0 0,
      .scalarRegisterOp 0 .add 0 32 0, .scalarRegisterOp 0 .add 0 0 32, .scalarImmediateOp 200 .add 0 0 0,
      .scalarImmediateOp 0 .add 32 0 0, .scalarImmediateOp 0 .add 0 32 0] : List Instr).all (fun i => !i.wf) = true := by decide +kernel

/-- One term for each check that it fails alone. -/
theorem test_wf_refuses_7 :
    ([
      .wideImmediate 200 0 0 false 0, .wideImmediate 0 32 0 false 0, .wideImmediate 0 0 4 false 0, .wideImmediate 0 0 0 false 65536,
      .scalarLoad 200 0 0 0 1 false, .scalarLoad 0 32 0 0 1 false, .scalarLoad 0 0 32 0 1 false, .scalarLoad 0 0 0 0 3 false,
      .scalarStore 200 0 0 0 1, .scalarStore 0 32 0 0 1, .scalarStore 0 0 32 0 1, .scalarStore 0 0 0 0 3, .branch 200 .eq 0 0 0,
      .branch 0 .eq 32 0 0, .branch 0 .eq 0 32 0, .jump 200 false 0, .vectorArithmetic 200 .add false ⟨0, 0, 0, 0, .i16, false⟩,
      .vectorArithmetic 0 .add false ⟨32, 0, 0, 0, .i16, false⟩, .vectorMultiply 200 .mul false ⟨0, 0, 0, 0, .i16, false⟩,
      .vectorMultiply 0 .mul false ⟨32, 0, 0, 0, .i16, false⟩, .vectorPermute 200 .broadcast false ⟨0, 0, 0, 0, .i16, false⟩,
      .vectorPermute 0 .broadcast false ⟨32, 0, 0, 0, .i16, false⟩, .vectorLoad 200 ⟨0, 0, 0, 0, .i16, false⟩,
      .vectorLoad 0 ⟨32, 0, 0, 0, .i16, false⟩, .vectorStore 200 ⟨0, 0, 0, 0, .i16, false⟩, .vectorStore 0 ⟨32, 0, 0, 0, .i16, false⟩,
      .gather 200 ⟨0, 0, 0, 0, .i16⟩, .gather 0 ⟨32, 0, 0, 0, .i16⟩, .scatter 200 false ⟨0, 0, 0, 0, .i16⟩,
      .scatter 0 false ⟨32, 0, 0, 0, .i16⟩, .firstFaultGather 200 ⟨0, 0, 0, 0, .i16⟩, .firstFaultGather 0 ⟨32, 0, 0, 0,
          .i16⟩] : List Instr).all (fun i => !i.wf) = true := by decide +kernel

/-- One term for each check that it fails alone. -/
theorem test_wf_refuses_8 :
    ([
      .pspan 200 false 0 0 0 .i16, .pspan 0 false 8 0 0 .i16, .pspan 0 false 0 32 0 .i16, .pspan 0 false 0 0 32 .i16,
      .predicateOp 200 .pand 0 0 0 0 .i16, .predicateOp 0 .pand 8 0 0 0 .i16, .predicateOp 0 .pand 0 8 0 0 .i16,
      .predicateOp 0 .pand 0 0 8 0 .i16, .predicateOp 0 .pand 0 0 0 32 .i16, .controlRegisterAccess 200 false 0 0,
      .controlRegisterAccess 0 false 32 0, .controlRegisterAccess 0 false 0 4096, .fence 200, .syscall 200, .fcall 200, .breakpoint 200,
      .eret 200, .tend 200 0, .tend 0 32, .taskEndReport 200, .taskStart 200, .tileCancel 200, .tileFault 200, .bondMismatch 100,
      .spareSelfTest 100 false, .writeTileVl badX 0 0, .writeTileVl okX 200 0, .writeTileVl okX 0 (-1), .writeTileVl okX 0 (2 ^ 16),
      .tileVlApply 200, .writeBondMode badX 0 0, .writeBondMode okX 100 0] : List Instr).all (fun i => !i.wf) = true := by decide +kernel

/-- One term for each check that it fails alone. -/
theorem test_wf_refuses_9 :
    ([
      .writeBondMode okX 0 (-1), .writeBondMode okX 0 (2 ^ 8), .bondChangeComplete 100, .fuse 200 0 0 0 [], .fuse 0 32 0 0 [],
      .fuse 0 0 32 0 [], .fuse 0 0 0 4 [], .fusedJobSend 200 0, .fusedJobSend 0 8, .fwait 200 0 0, .fwait 0 32 0, .fwait 0 0 32,
      .ftest 200 0 0, .ftest 0 32 0, .ftest 0 0 32, .fcancel 200 0, .fcancel 0 32, .bfb 200 0 0, .bfb 0 32 0, .bff 200 0 0, .bff 0 4 0,
      .fusedPublication 200 0 [] [], .fusedPublication 0 8 [] [], .dispatch 0 4096, .prefetchCopyComplete 200 0, .prefetchWaitExpiry 200,
      .writePartEnable badX 0 0, .writePartEnable okX 8 0, .writePartEnable okX 0 (-1), .writePartEnable okX 0 (2 ^ 8),
      .writeTraceEnable badX 0, .writeTraceEnable okX (-1)] : List Instr).all (fun i => !i.wf) = true := by decide +kernel

/-- One term for each check that it fails alone. -/
theorem test_wf_refuses_10 :
    ([
      .writeTraceEnable okX (2 ^ 8), .readTraceRecords badX, .readReq ⟨1536, 0, 0, 1⟩ [],
      .write ⟨1536, 0, 0, 1⟩ [0] (List.replicate 64 0) [], .write ⟨0, 0, 0, 1⟩ [] (List.replicate 64 0) [], .write ⟨0, 0, 0, 1⟩ [0] [] [],
      .readResp 1536 0 0 .ok, .writeAck 1536 0 .ok, .messageAck 1536 0 .ok, .linkReplay 8, .requestTimeout 1536 0,
      .requestRetryResend 1536 0, .ringLinkFault 8 0 false, .ringLinkFault 0 48 false, .foldNoticeRx 8 0 0, .foldNoticeRx 0 48 0,
      .reverseHoldExpiry 8, .ringRestore 8, .jointPathFault 8 0, .jointPathFault 0 48, .writeArbTable badX false [], .arbCommit badX false,
      .edcMismatch 16 0, .channelRetrainComplete 16 false, .channelQueueRetry 16 0 0, .channelQueueRetry 0 1536 0,
      .gddr7ChannelLost 16 .burst, .gddr7Scrub 16 0 [], .palletStoreScrub 24 [], .tileMemoryScrub 200 [], .writeRetiredPages badX [],
      .writeRetiredBanks badX []] : List Instr).all (fun i => !i.wf) = true := by decide +kernel

/-- One term for each check that it fails alone. -/
theorem test_wf_refuses_11 :
    ([
      .readErrLog badX, .readMcRecord badX, .hodDescriptorEnd 24 0, .hodDescriptorEnd 0 16, .hodResponseEnd 24 0 .ok,
      .hodResponseEnd 0 16 .ok, .hodChainSignal 24 0, .hodChainSignal 0 16, .haltHoldExpiry 24 false, .hodRelease badX 0,
      .hodRelease okX (-1), .hodRelease okX (2 ^ 8), .diagStart badX, .diagStop badX, .guardAudit 64 false, .guardConfigCrcCheck 128 false,
      .powerMeterBlock 64 0, .guardSelfCheck false 256, .muteRelease badX 0, .muteRelease okX (-1), .muteRelease okX (2 ^ 16),
      .guardResync badX, .dfeChainFault 128, .palletSliceFault 24, .managementCoreWatchdog 4, .unitRetire badX 0, .unitRetire okX (-1),
      .unitRetire okX (2 ^ 16), .faultClear badX, .injArm badX, .injRestore badX,
          .readMuteLog badX] : List Instr).all (fun i => !i.wf) = true := by decide +kernel

/-- One term for each check that it fails alone. -/
theorem test_wf_refuses_12 :
    ([
      .hostVote badX 0 0, .hostVote okX 32 0, .hostVote okX 0 (-1), .hostVote okX 0 (2 ^ 8), .domainTransitionStart 32, .domainDrained 32,
      .domainEnterRunComplete 32, .pmbusRead [], .writeWatchEnable badX 0, .writeWatchEnable okX (-1), .writeWatchEnable okX (2 ^ 8),
      .watchCplaneSend 8 0, .watchWindowOpen 8, .watchWindowClose 8, .resetCmdWarm badX, .resetCmdCold badX, .imgErase badX,
      .imgData badX [], .imgVerify badX, .imgActivate badX, .imgConfirm badX, .rollbackCommit badX, .attestRequest badX,
      .ownerProgram badX (List.replicate 32 0), .ownerProgram okX [], .debugToken badX (List.replicate 5460 0), .debugToken okX [],
      .debugClose badX, .railUndervoltage 5 0 0, .gddr7TemperatureReadout 16 0, .message ⟨1536, 0, 0, 1⟩ .feed 0,
      .message ⟨0, 0, 1536, 1⟩ .feed 0] : List Instr).all (fun i => !i.wf) = true := by decide +kernel

/-- A message that stores a longer payload than its length field counts is refused, whatever the payload. -/
theorem test_wf_refuses_long (data : Bytes) (h : data.length = 65553) : (Instr.dictWrite okX 0 0 0 0 0 data).wf = false := by
  simp [Instr.wf, h]

/-- The checks of CourseHdr. -/
theorem test_wf_courseHdr : (CourseHdr.wf (okH) && [
      { okH with chan := 0 }, badH, { okH with seq := 2 ^ 48 }, { okH with course := 2 ^ 32 }, { okH with gen := 256 },
      { okH with ats := 2 ^ 64 }, { okH with length := 24 }, { okH with length := 65608 },
          { okH with length := 33 }].all (fun x : CourseHdr => !x.wf)) = true := by decide +kernel

/-- The checks of ResumeEntry. -/
theorem test_wf_resumeEntry : (ResumeEntry.wf (⟨0, 0, 0⟩) && [
      ⟨2 ^ 48, 0, 0⟩, ⟨0, 2 ^ 48, 0⟩, ⟨0, 0, 2 ^ 32⟩].all (fun x : ResumeEntry => !x.wf)) = true := by decide +kernel

/-- The checks of Announce. -/
theorem test_wf_announce : (Announce.wf (⟨0, 0, 0, 0, 0, 0⟩) && [
      ⟨256, 0, 0, 0, 0, 0⟩, ⟨0, 256, 0, 0, 0, 0⟩, ⟨0, 0, 65536, 0, 0, 0⟩, ⟨0, 0, 0, 256, 0, 0⟩, ⟨0, 0, 0, 0, 2 ^ 64, 0⟩,
      ⟨0, 0, 0, 0, 0, 65536⟩].all (fun x : Announce => !x.wf)) = true := by decide +kernel

/-- The checks of PtpMsg. -/
theorem test_wf_ptpMsg : (PtpMsg.wf (.announce ⟨0, 0, 0, 0, 0, 0⟩) && [
      .sync 65536 0 0 false, .followUp 65536 0 0, .delayResp 65536 0 0 true, .delayReq 65536 0,
      .announce ⟨256, 0, 0, 0, 0, 0⟩].all (fun x : PtpMsg => !x.wf)) = true := by decide +kernel

/-- The checks of PtpHead. -/
theorem test_wf_ptpHead : (PtpHead.wf (okP) && [
      { okP with domain := 256 }, { okP with sender := 2 ^ 80 }].all (fun x : PtpHead => !x.wf)) = true := by decide +kernel

/-- The checks of NlMeasure. -/
theorem test_wf_nlMeasure : (NlMeasure.wf (okM) && [
      { okM with ssbIndex := 64 }, { okM with halfBit := 2 }, { okM with evm := 65536 },
          { okM with sigma := 65536 }].all (fun x : NlMeasure => !x.wf)) = true := by decide +kernel

/-- The checks of Frame. -/
theorem test_wf_frame : (Frame.wf (okF) && [
      { okF with dst := 2 ^ 48 }, { okF with src := 2 ^ 48 }, { okF with vlan := some 4096 }, { okF with etherType := 65536 },
      { okF with ecpriType := 256 }].all (fun x : Frame => !x.wf)) = true := by decide +kernel

/-- The checks of IqMsg. -/
theorem test_wf_iqMsg : (IqMsg.wf (okQ) && [
      { okQ with eaxc := 65536 }, { okQ with seq := 256 }, { okQ with subseq := 128 },
      { okQ with symbol := 14 }, { okQ with iq := [(32768, 0)] }, { okQ with iq := [(-32769, 0)] }, { okQ with iq := [(0, 32768)] },
          { okQ with iq := [(0, -32769)] }].all (fun x : IqMsg => !x.wf)) = true := by decide +kernel

/-- The checks of VFields. -/
theorem test_wf_vFields : (VFields.wf (⟨0, 0, 0, 0, .i16, false⟩) && [
      ⟨32, 0, 0, 0, .i16, false⟩, ⟨0, 32, 0, 0, .i16, false⟩, ⟨0, 0, 32, 0, .i16, false⟩, ⟨0, 0, 0, 8, .i16,
          false⟩].all (fun x : VFields => !x.wf)) = true := by decide +kernel

/-- The checks of VMFields. -/
theorem test_wf_vMFields : (VMFields.wf (⟨0, 0, 0, 0, .i16, false⟩) && [
      ⟨32, 0, 0, 0, .i16, false⟩, ⟨0, 32, 0, 0, .i16, false⟩, ⟨0, 0, 32, 0, .i16, false⟩, ⟨0, 0, 0, 8, .i16,
          false⟩].all (fun x : VMFields => !x.wf)) = true := by decide +kernel

/-- The checks of VGFields. -/
theorem test_wf_vGFields : (VGFields.wf (⟨0, 0, 0, 0, .i16⟩) && [
      ⟨32, 0, 0, 0, .i16⟩, ⟨0, 32, 0, 0, .i16⟩, ⟨0, 0, 32, 0, .i16⟩, ⟨0, 0, 0, 8,
          .i16⟩].all (fun x : VGFields => !x.wf)) = true := by decide +kernel

/-- The checks of Packet. -/
theorem test_wf_packet : (Packet.wf (⟨0, 0, 0, 1⟩) && [
      ⟨1536, 0, 0, 1⟩, ⟨0, 0, 1, 1⟩, ⟨0, 0, 0, 0⟩, ⟨0, 0, 0, 5⟩].all (fun x : Packet => !x.wf)) = true := by decide +kernel

/-! ## States for the tests -/

/-- A state with objects set. -/
def on (l : List (Nat × Int)) (s : State) : State := l.foldl (fun s e => s.setObj e.1 e.2) s

/-- A part in service: READY, a session ACTIVE, both modules trained, air time running from count 0. -/
def w0 : State :=
  on [(O.bootState, 4), (O.sessionState, 1), (O.timeValid, 1)] { State.reset with
    clock := { Clock.cleared with epoch := 0 }, link := { Link.down with m0 := ⟨true, none⟩, m1 := ⟨true, none⟩, holder := 1 }
    boot := { Boot.fresh with powered := true, slot := 0 }, guard := { Guard.starting with rtcOff := false } }

/-- A transfer. -/
def x0 : Xfer := ⟨0, 1⟩

/-- A course message's header. -/
def h0 : CourseHdr := ⟨0, 1, 1, 0, 0, 0, 32⟩

/-- A course of one slot. -/
def aCourse : Course :=
  { ats := 0, slotAir := 0, order := 0, gen := 0, state := .bound, reqSeq := 1, outSeq := 1, first := 0, last := 13, recs := [], blocks := [], store := []
    changed := [], hostBound := false, cancelled := false, rerun := false, revOk := 0, revRef := 0, sent := 0, blanked := 0, withheld := 0
    unsent := 0, causes := [], expired := 0, pins := [], snaps := [], softRes := [], results := [], journalled := false
    noOutcome := false, rx := [], got := [], went := [] }

/-- An operation. -/
def aOp : Op :=
  { chan := 1, course := 0, gen := 0, id := ⟨.fft, 0, 0, 0⟩, cls := 0, form := 0, list := 0, state := .ready, ins := [], arrive := 0, est := 0
    ls := 0, lf := 0, prio := 1, readyAt := 0, unit := 0, start := 0, fused := [], outs := 0, places := [], own := 0, common := 0,
        stage := []
    valid := [], next := false, ended := none, published := false, empty := false, cancel := false, old := false, data := []
    faulted := false, params := [], found := none }

/-- A task's context. -/
def aCtx : Ctx :=
  { tag := 1, gen := 0, pc := 0, level := 0, prev := 0, g := [], s := [], v := [], p := [], vstat := 0, ffr := 0, kLo := 0, kHi := 0xFFFFFFFF
    sEpc := 0, sCause := 0, sAddr := 0, sScratch := 0, sTvec := 0, fEpc := 0, wins := [], enS := 0, enK := 0, slots := [], shadow := 0,
        jobs := []
    staged := [], begun := 0, ended := none }

/-- A binary time-of-day frame of second 37, offset 37, from a receiver that is locked, with its CRC (01 R33). -/
def todFrame : Bytes :=
  let b : Bytes := [0x5A, 0xA5, 1, 1, 37, 0, 0, 0, 0, 0, 37, 0, 0, 0]
  b ++ leBytes 2 (crc16 b)

/-- A course description of one record of type 0x06, and the verdict, claim and journal record of a request that brings it. -/
def aDesc : Bytes := [1, 0, 1, 0, 0, 13] ++ List.replicate 10 0 ++ [6, 0, 24, 0, 1] ++ List.replicate 19 0
def aVerdict (type : Nat) : Verdict := ⟨1, type, 0, 0, 0, .ok, 1, 1, 0⟩
def aClaim (type : Nat) : Claim := ⟨⟨type, h0, 0, aDesc, 0, [], 1⟩, [], [], [], 0⟩
def claimed (type : Nat) (s : State) : State :=
  on [(O.journalCopies, 2)] { s with
    link := { s.link with journal := [.verdict 1 (aVerdict type)], chans := [(1, { Channel.fresh with claims := [aClaim type] })] } }

/-- A 32-byte unit of a type, for channel 64, whose length field holds `n`. -/
def badUnit (type n : Nat) : Bytes := leBytes 2 type ++ leBytes 2 0 ++ leBytes 4 n ++ leBytes 2 64 ++ List.replicate 22 0

/-- A decoder that has received nothing. -/
def aDec : Decode :=
  { code := ⟨0, 0, 0, 0, 0, 0, 0, 0, 0, 0⟩, set := ⟨0, 0, 0, 0, 0, 0, 0⟩, llr := [], base := [], prior := [], post := [], msgs := [], run := 0
    bits := [], unsat := 0, best := none, stall := 0, rank := 0, metric := 0, pass := false }

/-- A decode job. -/
def aJob : Job :=
  { desc := List.replicate 64 0, kind := 0x11, gen := 0, e := 8, eRx := 0, fed := false, begun := 0, cap := 8, iters := 0, last := 0, restarts := 0, bound := 1, ahead := false, susp := false
    final := false, tbTag := 0, block := 0, c := 1, check := false, combine := false, early := false, dropped := false, newVersion := false
    checked := false, mismatch := false, status := none, dec := aDec }

/-- The part with one course, operation, task, or channel of the link. -/
def withCourse (chan course : Nat) (c : Course) (s : State) : State := { s with pipe := { s.pipe with courses := [(courseKey chan course, c)] } }
def withOp (tag : Nat) (o : Op) (s : State) : State := { s with sched := { s.sched with ops := [(tag, o)] } }
def withTask (t : Nat) (c : Ctx) (s : State) : State := { s with tiles := [(t, c)] }
def withChan (n : Nat) (c : Channel) (s : State) : State := { s with link := { s.link with chans := [(n, c)] } }
def withTime (f : TimeBase → TimeBase) : State := { w0 with time := f w0.time }
def withServo (f : Servo → Servo) : State := withTime fun t => { t with servo := f t.servo }
/-- A TDD carrier 0 with symbols 0 to 13 of slot 0 of each two downlink. -/
def wTdd : State :=
  (on [(O.carrierEnable 0, 1), (O.duplex 0, 1), (O.txwPeriod 0, 2), (O.txwOpen 0, 1)] w0).setBlob (O.txwMap 0) [0xFF, 0x3F, 0, 0]

/-- A downlink course of channel 1 whose symbol 3 is due, on a port that is up. -/
def wSend : State :=
  withCourse 1 0 aCourse (on [(O.carrierEnable 0, 1), (O.dlPorts 0, 64), (O.duplex 0, 0), (O.guardState, 1), (O.fhDomain 0, 0), (O.fhPort 0,
      0), (O.activePort 0, 0),
    (O.portLinkState 0, 1), (O.guardPwrLimit 0,
        100)] { w0 with guard := { w0.guard with copies := [(0, workingCopy 0 (on [(O.duplex 0, 0)] w0))] } })

/-- A course of the slot that begins with the next frame, with its symbol assembled. -/
def nextCourse : Course := { aCourse with slotAir := 10000000 * airNs }
def wReady : State :=
  { withCourse 1 0 nextCourse wSend with sched := { wSend.sched with ops := [(7, { aOp with id := opId .asm 0 3 3, cls := 0, state := .ended, published := true })] } }
def readyOp : Op := { aOp with id := opId .asm 0 3 3, cls := 0, state := .ended, published := true }

/-- A polar decode job of 12 bits and a CRC of 6 in 32 coded bits, fused by a task whose tile memory holds its descriptor (07 R253, Table 7-6). -/
def fDesc : Bytes := [0x13, 0, 0, 1, 0, 0, 2, 0, 12, 0, 0, 0, 32] ++ List.replicate 6 0 ++ [6] ++ List.replicate 44 0
def fCtx : Ctx := { aCtx with enK := 15, slots := [0], g := [(2, 64)] }
def wFuse : State :=
  on [(O.bondState 0, 0)] { withTask 0 fCtx w0 with mem := cellsAt (tileAddr 0 + 64) fDesc }

/-- A prec whose weights cannot be read. -/
def precOp : Op := { aOp with cls := 3, state := .running, id := ⟨.prec, 5, 0, 0⟩ }
def precRec : Rec := ⟨0x02, 0, 5, List.replicate 24 0⟩
def wBad : State :=
  { withCourse 1 0 { aCourse with recs := [precRec] } w0 with
    sched := { w0.sched with ops := [(1, precOp)] }
    wb := [(0, ⟨0, 1, 1, 1, 1, 4, false, [⟨.front, 0, [], [], [0]⟩, ⟨.back, 0, [], [], []⟩, ⟨.free, 0, [], [], []⟩], .opened, false, [], 0, 3, 0⟩)] }

/-- A task on slot 0 with registers, a predicate and an index vector: lane 0 reads tile memory and lane 1 lies past it. -/
def gCtx : Ctx :=
  { aCtx with p := [(1, BitVec.ofNat _ 0x11)], v := [(1, BitVec.ofNat _ (2 ^ 32 * 0x40000000))] }
/-- One READY operation of the layer engines. -/
def leOp : Op := { aOp with id := ⟨.fetch, 0, 0, 0⟩, cls := 3 }
def wLe : State := withOp 1 leOp (on [(O.leService, 2 ^ 32 - 1)] w0)
def leUnit : Nat := (unitTaken wLe leOp).getD 0
/-- What the decision for it reserves. -/
def leTaken : Nat × Nat × Reserved := ((decision leUnit 0 (candidatesFor wLe leOp leUnit) wLe).2).get (by decide +kernel)

/-- A READY operation with outputs where the part has no pallets. -/
def fullOp : Op := { leOp with outs := 2000, id := ⟨.det, 0, 0, 0⟩ }
def wFull : State := withOp 1 fullOp (on [(O.leService, 2 ^ 32 - 1)] w0)
def fullUnit : Nat := (unitTaken wFull fullOp).getD 0

/-- A chain of engine 0, channel 0, whose descriptor moves nothing. -/
def aChain : Chain :=
  { user := 0, owner := 0, addr := 0, cur := List.replicate 64 0, ahead := [], limit := 0, gen := 0, tag := 0, record := 0, hops := 0, written := 0
    poisoned := 0, history := [], stop := false, status := none, last := none }
def withChain (c : Chain) : State := { w0 with hod := { w0.hod with chains := [(383, c)] } }
/-- A WRITE8 to an address that nothing serves. -/
def badChain : Chain := { aChain with cur := 4 :: List.replicate 63 0 }

/-- A request held at a port. -/
def aHeld (src type : Nat) (resend : Bool) : Held :=
  { src := src, tag := 5, type := type, addr := 0x08000000, lines := 1, ring := 0, stop := 2, port := 1, domain := 31, got := 0, retry := 0, sentAt := 0
    resend := resend }
def withHeld (h : Held) : State := { w0 with mortar := { w0.mortar with reqs := [h] } }

/-- A mute of carrier 5 that is complete or not. -/
def aMute (complete : Bool) : Mute :=
  { scope := 0, unit := 5, causes := [(3, 0)], fresh := if complete then [] else [(3, 0)], widened := false, at' := 0, ats := 0, last := 7, pin := false
    complete := complete }
def withMute (c : Bool) : State := { w0 with guard := { w0.guard with mutes := [aMute c] } }
def gExc : Exc := match loadAt (withTask 0 gCtx w0) 0 gCtx (vgAddr gCtx ⟨2, 1, 0, 1, .i32⟩ 1) 4 with
  | .error e => e
  | .ok _ => ⟨0, 0⟩

/-! ## The spec's own worked examples, and its tables' values -/

/-- Symbol starts of 03 R95, from the examples of 03 and 06. -/
theorem test_symbol_starts : (startTc 1 14, startTc 1 16, startTc 1 2) = (983040, 1124352, 141312) := by decide +kernel

/-- The course ids of the examples of 03 and 06. -/
theorem test_course_ids : (courseIdOf 0 1 0x5B8E053780000000, courseIdOf 0 1 0x5B8E057000000000) = (0x2DC6286B, 0x2DC62872) := by
  decide +kernel

/-- The estimate of record 11 of 06's example (08 R272 works it out): 4,600 + 300 + 600 = 5,500 ns. -/
theorem test_prec_estimate : precEst 32 2 100 12 true = 5500 * airNs ∧ precEst 32 4 100 12 true = 5500 * airNs := by decide +kernel

/-- The rows of an iteration in 07's example: min(46, max(4, 33 + 2 − 22)) = 13. -/
theorem test_ldpc_rows : ldpcRows ⟨false, 1, 1, 8448, 22, 384, 24, 25344⟩ 12672 = 13 := by decide +kernel

/-- The bank of 08's example: one pallet for 17,920 bytes. -/
theorem test_bank_pallets : bankPallets 32 4 35 = 1 := by decide +kernel

/-- Carrier 5 of 09's example on a port with an MTU of 9,000: 32 × 7,704 × 8 bits in 35,677 ns read 55,280 Mbit/s. -/
def gCarrier : State :=
  on [(O.standard 5, 1), (O.freqRange 5, 1), (O.numerology 5, 1), (O.bandwidth 5, 100000), (O.dlPorts 5, 32), (O.fhPort 5, 0),
      (O.fhDomain 5, 0),
    (O.compMethod 5, 1), (O.compWidthDl 5, 9), (O.fhMtu 0, 9000)] w0
theorem test_fronthaul_load : shownLoad gCarrier 5 true = 55280 := by decide +kernel

/-- Chain dfe040 of 10's example. -/
def gChain : State :=
  (on [(O.dfeUser 40, 12), (O.dfeWireKsps 40, 122880), (O.cicR 40, 2), (O.hbStages 40, 1), (O.rsNum 40, 3), (O.rsDen 40, 4),
      (O.rankWindow 40, 15),
    (O.gdAdj 40, 0)] w0).onChain 40 fun c =>
      { c with rx := { c.rx with front := List.replicate 384 0 }, tx := { c.tx with front := List.replicate 384 0 } }
theorem test_group_delays : (gChain.gdRx 40, gChain.gdTx 40) = (2497016, 2440050) := by decide +kernel

/-- The state of 11's example of a gather whose fifth element lies past tile memory: a K task on slot 0. -/
def gTask : Ctx :=
  { aCtx with level := 0, kLo := 0x10000, kHi := 0xFFFFFFFF, g := [(5, 0x20000)], p := [(1, BitVec.ofNat _ (2 ^ 64 - 1))],
              v := [(2, BitVec.ofNat _ (0x100 + 2 ^ 32 * 0x104 + 2 ^ 64 * 0x208 + 2 ^ 96 * 0x20C + 2 ^ 128 * 0x60010))] }
/-- What a command leaves of the task on slot 0. -/
def taskAfter (o : Host.Outcome State Fault Refusal) : Option Ctx :=
  match o with
  | .next s => Store.find s.tiles 0
  | _ => none
theorem test_gather_traps :
    (taskAfter (execGather 0 ⟨3, 2, 5, 1, .c16⟩ (withTask 0 gTask w0))).map (fun c => (vstatStart c.vstat, c.sCause, c.sAddr)) =
      some (4, 0x104, 0x80010) := by decide +kernel
theorem test_gather_first_fault :
    (taskAfter (execFirstFaultGather 0 ⟨3, 2, 5, 1, .c16⟩ (withTask 0 gTask w0))).map (fun c => (c.ffr, (pReg c 1) % 2 ^ 64)) =
      some (0xA004000000080010, 0xFFFF) := by decide +kernel

/-- The route of 14's example, 4 hops from m3.21 to m3.17, and 44 once m3 is folded at m3.20. -/
theorem test_route_hops :
    w0.hops 3 21 17 = some 4 ∧ (on [(O.ringState 3, 2), (O.faultStop 3, 20)] w0).hops 3 21 17 = some 44 := by decide +kernel

/-- The leaves of 19's example. -/
theorem test_leaves_left : liveNum O.leavesLeft { on [(O.topUsed, 4)] w0 with boot := { w0.boot with leaf := 44 } } = some 8290260 := by
  decide +kernel

/-- `$GPZDA,082710.00,16,09,2002,00,00*64` of a GNSS receiver's manual: 16 September 2002, 08:27:10 UTC. -/
theorem test_zda : zdaOf [0x24, 0x47, 0x50, 0x5A, 0x44, 0x41, 0x2C, 0x30, 0x38, 0x32, 0x37, 0x31, 0x30, 0x2E, 0x30, 0x30, 0x2C, 0x31, 0x36,
    0x2C, 0x30, 0x39, 0x2C, 0x32, 0x30, 0x30, 0x32, 0x2C, 0x30, 0x30, 0x2C, 0x30, 0x30, 0x2A, 0x36, 0x34] =
    some (2002, 9, 16, 8, 27, 10) := by decide +kernel

/-- The time-of-day frame of 01 R33 gives its second, its offset and the receiver's lock. -/
theorem test_tod_frame : todOf (on [(O.todFormat, 1)] w0) todFrame = some (37, some 37, true) := by decide +kernel

/-- The CRC-32 of IEEE 802.3 over the digits 1 to 9, its known check value, and over the factory coefficients of one chain (08 R294, 10 R341). -/
theorem test_crc32 : (crc32 [0x31, 0x32, 0x33, 0x34, 0x35, 0x36, 0x37, 0x38, 0x39], crc32 [0xFF, 0xFF, 0x01, 0x00])
    = (0xCBF43926, 0x58C2DC41) := by decide +kernel

/-! ## The hypotheses of the statements can be met -/

/-- The hypotheses of TimeBaseWrites hold together: one state and operands for each clause. -/
theorem witness_TimeBaseWrites :
    (∃ (x : Xfer) (v : Int) (s : State), Accepts s x O.legacyMode (.num v)) ∧
    (∃ (x : Xfer) (src : Source) (v : Int) (s : State), Accepts s x (prioKey src) (.num v)) ∧
    (∃ (x : Xfer) (v : Int) (s : State), Accepts s x O.ptpRole (.num v)) ∧
    (∃ (x : Xfer) (v : Int) (s : State), Accepts s x O.authMode (.num v)) ∧
    (∃ (x : Xfer) (n : Nat) (v : Int) (s : State), n < 8 ∧ Accepts s x (O.trigTarget n) (.num v)) ∧
    (∃ (x : Xfer) (s : State), Accepts s x O.servoEnable (.num 1) ∧ s.obj O.servoEnable = 0 ∧ s.obj O.bootState ≠ 5) ∧
    (∃ (x : Xfer) (s : State), Accepts s x O.servoEnable (.num 0) ∧ s.obj O.servoEnable = 1) :=
  ⟨⟨x0, 0, w0, by unfold Accepts; decide +kernel⟩,
   ⟨x0, .gnss, 1, w0, by unfold Accepts; decide +kernel⟩,
   ⟨x0, 1, w0, by unfold Accepts; decide +kernel⟩,
   ⟨x0, 1, w0, by unfold Accepts; decide +kernel⟩,
   ⟨x0, 7, 1, w0, by unfold Accepts; decide +kernel⟩,
   ⟨x0, (on [(O.servoEnable, 0)] w0), by unfold Accepts; decide +kernel⟩,
   ⟨x0, (on [(O.servoEnable, 1)] w0), by unfold Accepts; decide +kernel⟩⟩

/-- The hypotheses of PulseInputs hold together: one state and operands for each clause. -/
theorem witness_PulseInputs :
    (∃ (dt : Nat) (lowNs : Nat) (sub : Nat) (s : State), lowNs < 100) ∧
    (∃ (dt : Nat) (lowNs : Nat) (sub : Nat) (prev : Nat) (s : State), 100 ≤ lowNs ∧ (advance s dt).time.pps.lastEdge = some prev) ∧
    (∃ (dt : Nat) (lowNs : Nat) (sub : Nat) (s : State), 100 ≤ lowNs ∧ (advance s dt).time.pps.lastEdge = none ∧
        (advance s dt).time.pps.candidate = none) ∧
    (∃ (dt : Nat) (lowNs : Nat) (s : State), lowNs < 100) ∧
    (∃ (dt : Nat) (lowNs : Nat) (s : State), 100 ≤ lowNs ∧ (advance s dt).time.dfeSync.lastEdge = none ∧ s.obj O.dfeSyncPeriod = 0 ∧
        s.obj O.dfeSyncState = 0 ∧ (advance s dt).time.dfeSync.edges < 4 ∧ (advance s dt).airRunning = false) ∧
    (∃ (i : PulseInput) (s : State), (s.obj (stateKey i) = 2 ∨ s.obj (stateKey i) = 3) ∧ 3 ≤ (s.pulse i).clean) ∧
    (∃ (i : PulseInput) (dt : Nat) (heldNs : Nat) (s : State), (s.obj (stateKey i) = 1 ∨ s.obj (stateKey i) = 2) ∧ 1100000000 < heldNs) :=
  ⟨⟨0, 99, 0, w0, by decide +kernel⟩,
   ⟨0, 100, 63, 5, (withTime fun t => { t with pps := { t.pps with lastEdge := some 5 } }), by decide +kernel⟩,
   ⟨0, 100, 0, w0, by decide +kernel⟩,
   ⟨0, 99, w0, by decide +kernel⟩,
   ⟨0, 100, (on [(O.timeValid, 0), (O.dfeSyncPeriod, 0)] w0), by decide +kernel⟩,
   ⟨.pps, (on [(stateKey .pps, 3)] (withTime fun t => { t with pps := { t.pps with clean := 3 } })), by decide +kernel⟩,
   ⟨.dfeSync, 0, 1100000001, (on [(stateKey .dfeSync, 1)] w0), by decide +kernel⟩⟩

/-- The hypotheses of TimeOfDayAndPtp hold together: one state and operands for each clause. -/
theorem witness_TimeOfDayAndPtp :
    (∃ (dt : Nat) (frame : Bytes) (s : State) (e : PpsEdge) (last : Nat) (second : Int) (off : Option Int) (locked : Bool), todOf (advance
        s dt) frame = some (second, off, locked) ∧ s.obj O.todLabel = 0 ∧ (advance s dt).time.gnss.edge = some e ∧ (advance s
        dt).time.pps.lastEdge = some last ∧ (advance s dt).time.gnss.labelled = false ∧ last + 100000000 * nsUnit ≤ (advance s
        dt).clock.count ∧ (advance s dt).clock.count ≤ last + 900000000 * nsUnit ∧ e.second = some second) ∧
    (∃ (dt : Nat) (p : Nat) (id : Nat) (h : PtpHead) (origin : Int) (corr : Int) (s : State), p < 24 ∧ ptpRuns s p = true ∧ ptpHeard s h =
        true) ∧
    (∃ (dt : Nat) (p : Nat) (h : PtpHead) (a : Announce) (s : State), p < 24 ∧ ptpRuns s p = true ∧ ptpHeard s h = true ∧ s.obj
        (O.portPtpRole p) = 2 ∧ s.obj O.ptpRole ≠ 3) ∧
    (∃ (p : Nat) (r : Nat) (via : PtpOver) (s : State), p < 24 ∧ ptpRuns s p = true ∧ viaFits s via = true ∧ ptpRate s p via .sync = some r ∧
        ptpState (advanceTicks s (ptpDue s p via .sync r)) p = 6 ∧ ptpSourced (advanceTicks s (ptpDue s p via .sync r)) = true) ∧
    (∃ (out : Nat) (locked : Nat) (s : State), out < 2 ∧ Store.find s.time.laneLock (synceLane s out) = some locked) :=
  ⟨⟨0, todFrame, (on [(O.todLabel, 0), (O.todFormat, 1), (O.utcOffset, 37)]
      { withTime (fun t => { t with gnss := { t.gnss with edge := some ⟨0, some 37, true⟩ }, pps := { t.pps with lastEdge := some 0 } }) with clock := { w0.clock with count := 100000000 * nsUnit } }),
      ⟨0, some 37, true⟩, 0, 37, some 37, true, by decide +kernel⟩,
   ⟨0, 23, 5, ⟨.udp4 9, 44, 2⟩, 0, 0, (on [(O.ptpRole, 1), (O.portPtpRole 23, 1), (O.portEnable 23, 1), (O.ptpProfile, 2), (O.ptpDomain, 44)] w0), by decide +kernel⟩,
   ⟨0, 23, ⟨.ethernet 0x0180C200000E, 24, 2⟩, ⟨6, 0x21, 0x4E5D, 128, 1, 0⟩, (on [(O.ptpRole, 1), (O.portPtpRole 23, 2), (O.portEnable 23, 1),
      (O.ptpProfile, 1), (O.ptpDomain, 24)] w0), by decide +kernel⟩,
   ⟨23, 16, .ethernet 0x0180C200000E, (on [(O.ptpRole, 3), (O.portPtpRole 23, 1), (O.portEnable 23, 1), (O.ptpProfile, 1), (O.selectedSource, 1)] w0), by decide +kernel⟩,
   ⟨1, 7, (withTime fun t => { t with laneLock := [(synceLane w0 1, 7)] }), by decide +kernel⟩⟩

/-- The hypotheses of ServoUpdates hold together: one state and operands for each clause. -/
theorem witness_ServoUpdates :
    (∃ (s : State), s.obj O.servoEnable = 3 ∧ s.obj O.timeValid = 1 ∧ s.obj O.servoState = 2) ∧
    (∃ (x : Source) (since : Nat) (s : State), s.time.servo.qualSince.get x = some since ∧
        qualified (advanceTicks s (since + s.nat O.waitToRestore * 156250000)) x = true) ∧
    (∃ (s : State), s.obj O.servoState = 4 ∧ s.obj O.limitAction = 1 ∧
        (s.time.servo.limitClose = false ∨ s.time.servo.limitUntil.isSome = true)) ∧
    (∃ (s : State), Steady s) :=
  ⟨⟨(on [(O.servoEnable, 3), (O.servoState, 2)] w0), by decide +kernel⟩,
   ⟨.gnss, 0, (on [(O.ppsState,
       1)] (withTime fun t => { t with gnss := { t.gnss with todOk := true }, servo := { t.servo with qualSince := ⟨some 0, none, none⟩ } })),
       by decide +kernel⟩,
   ⟨(on [(O.servoState, 4), (O.limitAction, 1)] w0), by decide +kernel⟩,
   ⟨w0, by unfold Steady; decide +kernel⟩⟩

/-- The hypotheses of AuthorisedSteps hold together: one state and operands for each clause. -/
theorem witness_AuthorisedSteps :
    (∃ (s : State), (s.obj O.authStatus = 1 ∨ s.obj O.authStatus = 2)) ∧
    (∃ (x : Source) (s : State), s.time.servo.authSrc = some x ∧ s.obj O.authStatus = 2 ∧ s.noCarrier = true) ∧
    (∃ (x : Source) (w : Waiting) (s : State), s.obj O.guardState ≠ 2 ∧ s.time.servo.step = some (x, w)) ∧
    (∃ (w : Waiting) (s : State), s.obj O.guardState ≠ 2 ∧ s.clock.newEpoch = some w) ∧
    (∃ (x : Source) (w : Waiting) (s : State), s.time.servo.step = some (x, w) ∧ w.confirmed = true ∧ w.decided + 15625 ≤ s.clock.ticks ∧
        s.noCarrier = true) ∧
    (∃ (n : Nat) (s : State), n < 8 ∧ armed s n = true ∧ Steady s) ∧
    (∃ (s : State), s.obj O.ppsOutMode = 2 ∧ (∀ n < 8, armed s n = false)) ∧
    (∃ (x : Xfer) (n : Nat) (c : Nat) (rest : List Nat) (s : State), n < 8 ∧ s.ready = true ∧ Store.at [] s.time.captures n = c :: rest) :=
  ⟨⟨(on [(O.authStatus, 2)] w0), by decide +kernel⟩,
   ⟨.gnss, (on [(O.authStatus, 2)] (withServo fun v => { v with authSrc := some .gnss })), by decide +kernel⟩,
   ⟨.gnss, ⟨0, 0, false⟩, (withServo fun v => { v with step := some (.gnss, ⟨0, 0, false⟩) }), by decide +kernel⟩,
   ⟨⟨0, 0, false⟩, { w0 with clock := { w0.clock with newEpoch := some ⟨0, 0, false⟩ } }, by decide +kernel⟩,
   ⟨.gnss, ⟨0, 0, true⟩,
       { (withServo fun v => { v with step := some (.gnss, ⟨0, 0, true⟩) }) with clock := { w0.clock with ticks := 15625 } },
       by decide +kernel⟩,
   ⟨7, (on [(O.trigStatus 7, 1)] w0), by unfold Steady; decide +kernel⟩,
   ⟨(on [(O.ppsOutMode, 2)] w0), by decide +kernel⟩,
   ⟨x0, 7, 5, [], (withTime fun t => { t with captures := [(7, [5])] }), by decide +kernel⟩⟩

/-- The hypotheses of ListenEnableAndGap hold together: one state and operands for each clause. -/
theorem witness_ListenEnableAndGap :
    (∃ (x : Xfer) (s : State), Accepts s x O.nlEnable (.num 1) ∧ s.obj O.nlEnable = 0 ∧ s.obj O.bootState ≠ 5) ∧
    (∃ (x : Xfer) (s : State), Accepts s x O.nlEnable (.num 0) ∧ s.obj O.nlEnable = 1) ∧
    (∃ (g : Int) (s : State), s.obj O.nlEnable = 1 ∧ (s.obj O.nlState = 1 ∨ s.obj O.nlState = 3) ∧ s.airRunning = true ∧ s.obj
        O.watchState = 0 ∧ nextGapAfter s s.airNow = some g) ∧
    (∃ (x : Xfer) (s : State) (oldest : Bytes) (rest : List Bytes), s.ready = true ∧ s.nl.missed = oldest :: rest) :=
  ⟨⟨x0, w0, by unfold Accepts; decide +kernel⟩,
   ⟨x0, (on [(O.nlEnable, 1)] w0), by unfold Accepts; decide +kernel⟩,
   ⟨((nextGapAfter (on [(O.nlEnable, 1), (O.nlState, 1)] w0) w0.airNow).get (by decide +kernel)), (on [(O.nlEnable, 1), (O.nlState, 1)] w0),
      by decide +kernel⟩,
   ⟨x0, { w0 with nl := { w0.nl with missed := [[1], [2]] } }, [1], [[2]], by decide +kernel⟩⟩

/-- The hypotheses of ListenSearch hold together: one state and operands for each clause. -/
theorem witness_ListenSearch :
    (∃ (dt : Nat) (metric : Nat) (pci : Nat) (type : Nat) (centreHz : Int) (s : State), s.obj O.nlState = 2 ∧ bitOf (s.nat
        O.numerologyMask) type = true ∧ s.obj O.detThreshold ≤ (metric : Int) ∧ centreHz ∈ searchCentres s ∧ s.nl.current = none) ∧
    (∃ (dt : Nat) (metric : Nat) (pci : Nat) (type : Nat) (centreHz : Int) (c : Reception) (s : State), s.obj O.nlState = 2 ∧ bitOf (s.nat
        O.numerologyMask) type = true ∧ s.obj O.detThreshold ≤ (metric : Int) ∧ centreHz ∈ searchCentres s ∧ s.nl.current = some c ∧
        (c.metric : Int) + s.obj O.captureMargin ≤ metric) ∧
    (∃ (dt : Nat) (metric : Nat) (pci : Nat) (type : Nat) (centreHz : Int) (s : State), ((metric : Int) < s.obj O.detThreshold ∨ centreHz
        ∉ searchCentres s ∨ bitOf (s.nat O.numerologyMask) type = false)) ∧
    (∃ (clipped : Nat) (ok : Bool) (c : Reception) (s : State), s.obj O.nlState = 2 ∧ s.nl.current = some c ∧ c.committed = false ∧ c.type
        ≠ 4) ∧
    (∃ (s : State), s.obj O.nlState = 2 ∧ s.obj O.nlEnable = 1) ∧
    (∃ (m : NlMeasure) (c : Reception) (closed : Nat) (rest : List (Reception × Nat)) (n : Nat) (s : State), s.obj O.nlState = 3 ∧ s.obj
        O.nlEnable = 1 ∧ s.nl.work = (c, closed) :: rest ∧ neighbourOf s c.pci c.type = some n) :=
  ⟨⟨0, 65535, 1007, 0, 0, (on [(O.nlState, 2), (O.numerologyMask, 1)] w0), by decide +kernel⟩,
   ⟨0, 65535, 1007, 0, 0, ⟨0, 1007, 0, false⟩, (on [(O.nlState, 2), (O.numerologyMask,
       1)] { w0 with nl := { w0.nl with current := some ⟨0, 1007, 0, false⟩ } }), by decide +kernel⟩,
   ⟨0, 65535, 0, 0, 1, (on [(O.detThreshold, 1)] w0), by decide +kernel⟩,
   ⟨1000, true, ⟨0, 1007, 0, false⟩, (on [(O.nlState, 2)] { w0 with nl := { w0.nl with current := some ⟨0, 1007, 0, false⟩ } }),
       by decide +kernel⟩,
   ⟨(on [(O.nlState, 2), (O.nlEnable, 1)] w0), by decide +kernel⟩,
   ⟨okM, ⟨0, 1007, 0, true⟩, 5, [], 31, (on [(O.nlState, 3), (O.nlEnable, 1), (O.nbPci 31, 1007), (O.nbType 31,
       0)] { w0 with nl := { w0.nl with work := [(⟨0, 1007, 0, true⟩, 5)] } }), by decide +kernel⟩⟩

/-- The hypotheses of AirEpoch hold together: one state and operands for each clause. -/
theorem witness_AirEpoch :
    (∃ (x : Xfer) (v : Int) (s : State), Accepts s x O.airEpoch (.num v)) ∧
    (∃ (w : Waiting) (s : State), Steady s ∧ s.clock.newEpoch = some w ∧ w.confirmed = true ∧ w.decided + 15625 ≤ s.clock.ticks) ∧
    (∃ (w : Waiting) (s : State), s.clock.newEpoch = some w ∧ w.confirmed = false) :=
  ⟨⟨x0, 0, w0, by unfold Accepts; decide +kernel⟩,
   ⟨⟨0, 0, true⟩, { w0 with clock := { w0.clock with newEpoch := some ⟨0, 0, true⟩, ticks := 15625 } }, by unfold Steady; decide +kernel⟩,
   ⟨⟨0, 0, false⟩, { w0 with clock := { w0.clock with newEpoch := some ⟨0, 0, false⟩ } }, by decide +kernel⟩⟩

/-- The hypotheses of CourseRequests hold together: one state and operands for each clause. -/
theorem witness_CourseRequests :
    (∃ (h : CourseHdr) (desc : Bytes) (s : State), NextRequest s h (64 + pad8 desc.length)) ∧
    (∃ (h : CourseHdr) (desc : Bytes) (c : Course) (s : State), NextRequest s h (64 + pad8 desc.length) ∧ s.course (courseKey h.chan
        h.course) = some c) ∧
    (∃ (h : CourseHdr) (s : State), NextRequest s h 32) ∧
    (∃ (h : CourseHdr) (s : State), NextRequest s h 32) ∧
    (∃ (chan : Nat) (v : Verdict) (rest : List JournalWrite) (k : Claim) (d : Desc) (s : State), s.obj O.sessionState = 1 ∧
        journalStuck s = false ∧ s.link.journal = .verdict chan v :: rest ∧
        (s.chan chan).claims.find? (fun k => k.req.hdr.seq == v.seq) = some k ∧ k.req.type = 0x0101 ∧
        parseDesc (dirOf k.req.hdr.course) k.req.desc = some d) ∧
    (∃ (chan : Nat) (v : Verdict) (rest : List JournalWrite) (k : Claim) (d : Desc) (c : Course) (s : State), s.obj O.sessionState = 1 ∧
        journalStuck s = false ∧ s.link.journal = .verdict chan v :: rest ∧
        (s.chan chan).claims.find? (fun k => k.req.hdr.seq == v.seq) = some k ∧ k.req.type = 0x0102 ∧
        parseDesc (dirOf k.req.hdr.course) k.req.desc = some d ∧ s.course (courseKey k.req.hdr.chan k.req.hdr.course) = some c ∧
        c.state = .opened) ∧
    (∃ (chan : Nat) (v : Verdict) (rest : List JournalWrite) (k : Claim) (c : Course) (s : State), s.obj O.sessionState = 1 ∧
        journalStuck s = false ∧ s.link.journal = .verdict chan v :: rest ∧
        (s.chan chan).claims.find? (fun k => k.req.hdr.seq == v.seq) = some k ∧
        s.course (courseKey k.req.hdr.chan k.req.hdr.course) = some c ∧ k.req.type = 0x0103 ∧ c.state = .opened) ∧
    (∃ (chan : Nat) (v : Verdict) (rest : List JournalWrite) (k : Claim) (c : Course) (s : State), s.obj O.sessionState = 1 ∧
        journalStuck s = false ∧ s.link.journal = .verdict chan v :: rest ∧
        (s.chan chan).claims.find? (fun k => k.req.hdr.seq == v.seq) = some k ∧
        s.course (courseKey k.req.hdr.chan k.req.hdr.course) = some c ∧ k.req.type = 0x0104 ∧ c.state = .opened) ∧
    (∃ (h : CourseHdr) (s : State), 1 ≤ h.chan ∧ h.chan ≤ 64 ∧ h.length = 32 ∧ s.obj O.sessionState = 1 ∧ (s.chan h.chan).takeover = false ∧
        ((s.chan h.chan).req.isSome = true ∨ h.seq ≠ (s.chan h.chan).nextReq)) :=
  ⟨⟨{ h0 with length := 64, chan := 64 }, [], w0, by unfold NextRequest; decide +kernel⟩,
   ⟨{ h0 with length := 64 }, [], aCourse, (withCourse 1 0 aCourse w0), by unfold NextRequest; decide +kernel⟩,
   ⟨h0, w0, by unfold NextRequest; decide +kernel⟩,
   ⟨{ h0 with chan := 64 }, w0, by unfold NextRequest; decide +kernel⟩,
   ⟨1, aVerdict 0x0101, [], aClaim 0x0101, ((parseDesc 0 aDesc).get (by decide +kernel)), claimed 0x0101 w0, by decide +kernel⟩,
   ⟨1, aVerdict 0x0102, [], aClaim 0x0102, ((parseDesc 0 aDesc).get (by decide +kernel)), { aCourse with state := .opened },
      claimed 0x0102 (withCourse 1 0 { aCourse with state := .opened } w0), by decide +kernel⟩,
   ⟨1, aVerdict 0x0103, [], aClaim 0x0103, { aCourse with state := .opened },
      claimed 0x0103 (withCourse 1 0 { aCourse with state := .opened } w0), by decide +kernel⟩,
   ⟨1, aVerdict 0x0104, [], aClaim 0x0104, { aCourse with state := .opened },
      claimed 0x0104 (withCourse 1 0 { aCourse with state := .opened } w0), by decide +kernel⟩,
   ⟨{ h0 with seq := 2 }, w0, by decide +kernel⟩⟩

/-- The hypotheses of CourseLife hold together: one state and operands for each clause. -/
theorem witness_CourseLife :
    (∃ (h : CourseHdr) (handle : Nat) (offset : Nat) (data : Bytes) (r : Request) (s : State), 1 ≤ h.chan ∧ h.chan ≤ 64 ∧ h.length = 64 +
        pad8 data.length ∧ h.length ≤ 65600 ∧ s.obj O.sessionState = 1 ∧ (s.chan h.chan).takeover = false ∧ (s.chan h.chan).req = some r ∧
        r.hdr.chan = h.chan ∧ belongs h offset data.length r = true) ∧
    (∃ (chan : Nat) (course : Nat) (c : Course) (s : State), s.course (courseKey chan course) = some c ∧ c.state = .opened) ∧
    (∃ (chan : Nat) (course : Nat) (c : Course) (s : State), s.course (courseKey chan course) = some c ∧ c.state = .bound) ∧
    (∃ (chan : Nat) (course : Nat) (c : Course) (s : State), s.course (courseKey chan course) = some c ∧ c.state = .inAir) :=
  ⟨⟨{ h0 with length := 72 }, 0, 0, [1], ⟨0, { h0 with length := 72 }, 1, [], 0, [], 0⟩,
      (withChan 1 { Channel.fresh with req := some ⟨0, { h0 with length := 72 }, 1, [], 0, [], 0⟩ } w0), by decide +kernel⟩,
   ⟨64, 5, { aCourse with state := .opened }, (withCourse 64 5 { aCourse with state := .opened } w0), by decide +kernel⟩,
   ⟨1, 5, aCourse, (withCourse 1 5 aCourse w0), by decide +kernel⟩,
   ⟨1, 5, { aCourse with state := .inAir }, (withCourse 1 5 { aCourse with state := .inAir } w0), by decide +kernel⟩⟩

/-- The hypotheses of OutcomesAndExpiry hold together: one state and operands for each clause. -/
theorem witness_OutcomesAndExpiry :
    (∃ (chan : Nat) (o : Outcome) (s : State), 1 ≤ chan ∧ chan ≤ 64 ∧ s.obj O.sessionState = 1 ∧ (s.chan chan).outcomes.find? (fun o =>
        o.seq == (s.chan chan).sendNext) = some o ∧ creditsOf o.length ≤ (s.chan chan).hostCredits) ∧
    (∃ (dt : Nat) (chan : Nat) (seq : Nat) (credits : Nat) (s : State), 1 ≤ chan ∧ chan ≤ 64 ∧ s.obj O.sessionState = 1 ∧ (s.chan
        chan).takeover = false ∧ seqNotLater seq (s.chan chan).lastSent = true ∧ seqNotLater seq (s.chan chan).lastAcked = false) ∧
    (∃ (tag : Nat) (o : Op) (s : State), s.op tag = some o ∧ (o.state = .waiting ∨ o.state = .ready) ∧ o.old = false ∧
        (o.id.kind = .dec → o.state = .ready)) ∧
    (∃ (tag : Nat) (o : Op) (s : State), s.op tag = some o ∧ (o.state = .running ∨ o.state = .suspended) ∧ o.cancel = false ∧ o.old =
        false ∧ o.cls ≠ 4 ∧ o.cls ≠ 5 ∧ o.carrier < 64) :=
  ⟨⟨64, ⟨1, 0, 0, 0, 0, 0, 0, 0, 0, 0, []⟩,
      (withChan 64 { Channel.fresh with outcomes := [⟨1, 0, 0, 0, 0, 0, 0, 0, 0, 0, []⟩], hostCredits := 1 } w0), by decide +kernel⟩,
   ⟨0, 64, 1, 0, (withChan 64 { Channel.fresh with sendNext := 2, lastSent := 1 } w0), by decide +kernel⟩,
   ⟨1, aOp, (withOp 1 aOp w0), by decide +kernel⟩,
   ⟨1, { aOp with state := .running }, (withOp 1 { aOp with state := .running } w0), by decide +kernel⟩⟩

/-- The hypotheses of LinkModules hold together: one state and operands for each clause. -/
theorem witness_LinkModules :
    (∃ (m : Nat) (lanes : Nat) (s : State), m < 2 ∧ (s.link.mod m).up = true) ∧
    (∃ (dt : Nat) (m : Nat) (s : State), m < 2 ∧ (s.link.mod m).up = true ∧ (s.link.mod (1 - m)).up = true) ∧
    (∃ (dt : Nat) (m : Nat) (s : State), m < 2 ∧ (s.link.mod m).up = true ∧ (s.link.mod (1 - m)).up = false ∧ s.obj O.sessionState = 1) ∧
    (∃ (dt : Nat) (m : Nat) (s : State), m < 2 ∧ (s.link.mod m).up = false) ∧
    (∃ (m : Nat) (since : Nat) (s : State), m < 2 ∧ (s.link.mod m).trainedAt = some since ∧ (s.link.mod (1 - m)).up = true) ∧
    (∃ (chan : Nat) (m : Nat) (s : State), chan ≤ 64 ∧ m = (if chan ≠ 0 ∧ bitOf s.link.map (chan - 1) = true then 1 else 0) ∧
        (chan = 0 ∨ s.obj O.sessionState ≠ 0) ∧ (s.link.mod m).up = true) :=
  ⟨⟨1, 8, w0, by decide +kernel⟩,
   ⟨0, 1, w0, by decide +kernel⟩,
   ⟨0, 0, { w0 with link := { w0.link with m0 := ⟨true, none⟩, m1 := ⟨false, none⟩ } }, by decide +kernel⟩,
   ⟨0, 1, { w0 with link := { w0.link with m0 := ⟨true, none⟩, m1 := ⟨false, none⟩ } }, by decide +kernel⟩,
   ⟨0, 0, { w0 with link := { w0.link with m0 := ⟨true, some 0⟩ } }, by decide +kernel⟩,
   ⟨0, 0, on [(O.sessionState, 0)] w0, by decide +kernel⟩⟩

/-- The hypotheses of LinkDiscards hold together: one state and operands for each clause. -/
theorem witness_LinkDiscards :
    (∃ (dt : Nat) (m : Nat) (vendor : Nat) (code : Nat) (data : Bytes) (s : State), m < 2 ∧ (vendor ≠ s.nat O.sbVendorId ∨ code ≠ 0)) ∧
    (∃ (dt : Nat) (m : Nat) (data : Bytes) (s : State), m < 2) ∧
    (∃ (dt : Nat) (m : Nat) (n : Nat) (chan : Nat) (units : Bytes) (s : State), m < 2 ∧ (s.link.mod m).up = true ∧ s.obj O.sessionState ≠
        0 ∧ s.link.stream m = ⟨[], false⟩ ∧ isFill units = false ∧ n = bytesAt units 4 4 ∧ delimits n = true ∧ units.length = ceilDiv n 32 * 32 ∧ parseMessage (units.take
        n) = none ∧ bytesAt (units.take n) 0 2 ≠ 0x0211 ∧ chan = bytesAt (units.take n) 8 2 ∧ 1 ≤ chan ∧ chan ≤ 64 ∧ bytesAt (units.take
        n) 4 4 = n) ∧
    (∃ (dt : Nat) (m : Nat) (k : Nat) (units : Bytes) (s : State), m < 2 ∧ (s.link.mod m).up = true ∧ 1 ≤ k ∧ units.length = 32 * k ∧
        (s.link.stream m).bytes = [] ∧ (∀ i, 0 < i → i < k → findsBoundary (units.drop (32 * i)) = false) ∧
        ((s.link.stream m).search = true → findsBoundary units = false) ∧
        ((s.link.stream m).search = false → isFill units = false ∧ delimits (bytesAt units 4 4) = false)) ∧
    (∃ (dt : Nat) (m : Nat) (k : Nat) (units : Bytes) (s : State), m < 2 ∧ (s.link.mod m).up = true ∧ 1 ≤ k ∧ units.length = 32 * k ∧
        s.link.stream m = ⟨[], false⟩ ∧ isFill units = false ∧ delimits (bytesAt units 4 4) = true ∧ units.length < bytesAt units 4 4) ∧
    (∃ (i : Indication) (rest : List Indication) (s : State), s.link.waiting = i :: rest ∧ (s.link.m0.up || s.link.m1.up) = true) :=
  ⟨⟨0, 1, 0, 1, [], w0, by decide +kernel⟩,
   ⟨0, 1, [1], w0, by decide +kernel⟩,
   ⟨0, 1, 32, 64, badUnit 0xFF 32, w0, by decide +kernel⟩,
   ⟨0, 1, 1, badUnit 0xFF 31, w0, by decide +kernel, by decide +kernel, by decide, by decide +kernel, by decide +kernel,
      fun i a b => by omega, by decide +kernel, by decide +kernel⟩,
   ⟨0, 1, 1, badUnit 0xFF 64, w0, by decide +kernel⟩,
   ⟨⟨0, 0, 0, 0, [], 0, 0, 0⟩, [], { w0 with link := { w0.link with waiting := [⟨0, 0, 0, 0, [], 0, 0, 0⟩] } }, by decide +kernel⟩⟩

/-- The hypotheses of Sessions hold together: one state and operands for each clause. -/
theorem witness_Sessions :
    (∃ (dt : Nat) (seq : Nat) (hostId : Nat) (credits : List Nat) (s : State), s.ready = true ∧ hostId ≠ 0 ∧ s.obj O.sessionState = 0) ∧
    (∃ (dt : Nat) (seq : Nat) (hostId : Nat) (credits : List Nat) (s : State), s.ready = true ∧ hostId ≠ 0 ∧ s.obj O.sessionState ≠ 0 ∧
        hostId ≠ s.link.holder) ∧
    (∃ (dt : Nat) (seq : Nat) (entries : List ResumeEntry) (s : State), s.ready = true ∧ s.link.holder ≠ 0 ∧ s.obj O.sessionState ≠ 0 ∧
        firstMisfit entries s = none) ∧
    (∃ (dt : Nat) (seq : Nat) (entries : List ResumeEntry) (bad : Nat × ResumeEntry) (s : State), s.ready = true ∧ s.link.holder ≠ 0 ∧
        s.obj O.sessionState ≠ 0 ∧ firstMisfit entries s = some bad) ∧
    (∃ (dt : Nat) (seq : Nat) (s : State), s.ready = true ∧ s.link.holder ≠ 0 ∧ s.obj O.sessionState ≠ 0) :=
  ⟨⟨0, 1, 5, [], (on [(O.sessionState, 0)] w0), by decide +kernel⟩,
   ⟨0, 1, 5, [], w0, by decide +kernel⟩,
   ⟨0, 1, [], w0, by decide +kernel⟩,
   ⟨0, 1, [⟨5, 0, 0⟩], (1, ⟨5, 0, 0⟩), w0, by decide +kernel⟩,
   ⟨0, 1, w0, by decide +kernel⟩⟩

/-- The hypotheses of SessionHold hold together: one state and operands for each clause. -/
theorem witness_SessionHold :
    (∃ (x : Xfer) (v : Int) (s : State), Accepts s x O.sessionHold (.num v)) ∧
    (∃ (x : Xfer) (v : Int) (s : State), s.ready = true ∧ s.obj O.sessionState = 0) ∧
    (∃ (s : State), s.obj O.sessionState = 2 ∧ s.obj O.sessionHold ≠ 0) :=
  ⟨⟨x0, 0, w0, by unfold Accepts; decide +kernel⟩,
   ⟨x0, 1, (on [(O.sessionState, 0)] w0), by decide +kernel⟩,
   ⟨(on [(O.sessionState, 2), (O.sessionHold, 1)] w0), by decide +kernel⟩⟩

/-- The hypotheses of DictReads hold together: one state and operands for each clause. -/
theorem witness_DictReads :
    (∃ (x : Xfer) (index : Nat) (sub : Nat) (layer : Nat) (most : Nat) (value : Bytes) (s : State), Quiet s ∧
        readLayer (keyOf index sub) layer (advance s x.dt) = (.ok, value) ∧ value.length ≤ wanted most ∧
        (layer = 0 → popHead (keyOf index sub) (advance s x.dt) = none ∨ ((rowOf (keyOf index sub)).map fun r => bitOf r.flags 1) = some false)) ∧
    (∃ (x : Xfer) (index : Nat) (sub : Nat) (layer : Nat) (most : Nat) (value : Bytes) (s : State), Quiet s ∧ layer ≠ 0 ∧
        readLayer (keyOf index sub) layer (advance s x.dt) = (.ok, value) ∧ wanted most < value.length) ∧
    (∃ (x : Xfer) (index : Nat) (sub : Nat) (layer : Nat) (most : Nat) (l : ReadLatch) (s : State), s.ready = true ∧ s.svc.held = [] ∧
        s.svc.buffer = none ∧ s.svc.discarded = none ∧ s.svc.latch = some l ∧ l.key = keyOf index sub ∧ l.layer = layer ∧ 0 < l.next ∧
        s.clock.ticks + x.dt < l.last + segTicks s ∧ (readLayer l.key layer (advance s x.dt)).1 = .ok) ∧
    (∃ (x : Xfer) (index : Nat) (sub : Nat) (layer : Nat) (most : Nat) (r : Reason) (b : Bytes) (s : State), Quiet s ∧
        readLayer (keyOf index sub) layer (advance s x.dt) = (r, b) ∧ r ≠ .ok) ∧
    (∃ (x : Xfer) (index : Nat) (sub : Nat) (r : ObjRow) (s : State), Quiet s ∧ indexDefined (keyOf index sub / 256) = true ∧
        anyRow (keyOf index sub) = some r ∧ (descriptorOf r (keyOf index sub)).length ≤ 1024) :=
  ⟨⟨x0, 0x2810, 1, 0, 0, [1], w0, by unfold Quiet; decide +kernel⟩,
   ⟨x0, 0x7000, 6, 2, 1, [0xBC, 0x02], w0, by unfold Quiet; decide +kernel⟩,
   ⟨x0, 0x7000, 6, 2, 0, ⟨keyOf 0x7000 6, 2, [0xBC, 0x02], 1, 0⟩,
       { w0 with svc := { w0.svc with latch := some ⟨keyOf 0x7000 6, 2, [0xBC, 0x02], 1, 0⟩ } }, by decide +kernel⟩,
   ⟨x0, 0x7777, 1, 0, 0, .noObject, [], w0, by unfold Quiet; decide +kernel⟩,
   ⟨x0, 0x7000, 3, ((rowOf (keyOf 0x7000 3)).get (by decide +kernel)), w0, by unfold Quiet; decide +kernel⟩⟩

/-- The hypotheses of DictWrites hold together: one state and operands for each clause. -/
theorem witness_DictWrites :
    (∃ (x : Xfer) (index : Nat) (sub : Nat) (r : ObjRow) (v : Int) (n : Nat) (data : Bytes) (s : State), Quiet s ∧
        s.obj O.sessionState = 1 ∧ keyOf index sub % 256 ≠ 0 ∧ indexDefined (keyOf index sub / 256) = true ∧
        rowOf (keyOf index sub) = some r ∧ r.type.size = some n ∧ decodeVal r.type data = .num v ∧ data.length ≤ 1024 ∧
        valueTests r (keyOf index sub) data.length (.num v) s = .ok ∧
        (actOf (keyOf index sub) (.num v) = plainWrite (keyOf index sub) (.num v)) ∧ keyOf index sub ∉ [O.changeCount, O.transfersServed,
        O.transfersRefused, O.busyReplies, O.resetCmd, O.coldResets]) ∧
    (∃ (x : Xfer) (index : Nat) (sub : Nat) (r : ObjRow) (n : Nat) (s : State), Quiet s ∧ s.obj O.sessionState = 1 ∧
        keyOf index sub % 256 ≠ 0 ∧ keyOf index sub % 256 ≠ 0xFF ∧ indexDefined (keyOf index sub / 256) = true ∧
        rowOf (keyOf index sub) = some r ∧ r.type.size = some n ∧ revertTests r (keyOf index sub) 1 s = .ok ∧ (∀ v,
        actOf (keyOf index sub) (.num v) = plainWrite (keyOf index sub) (.num v)) ∧ keyOf index sub ∉ [O.changeCount, O.transfersServed,
        O.transfersRefused, O.busyReplies, O.resetCmd, O.coldResets]) ∧
    (∃ (x : Xfer) (index : Nat) (sub : Nat) (r : ObjRow) (n : Nat) (s : State), Quiet s ∧ s.obj O.sessionState = 1 ∧
        keyOf index sub % 256 ≠ 0 ∧ keyOf index sub % 256 ≠ 0xFF ∧ indexDefined (keyOf index sub / 256) = true ∧
        rowOf (keyOf index sub) = some r ∧ r.type.size = some n ∧ revertTests r (keyOf index sub) 2 s = .ok ∧ (∀ v,
        actOf (keyOf index sub) (.num v) = plainWrite (keyOf index sub) (.num v)) ∧ keyOf index sub ∉ [O.changeCount, O.transfersServed,
        O.transfersRefused, O.busyReplies, O.resetCmd, O.coldResets]) ∧
    (∃ (x : Xfer) (index : Nat) (sub : Nat) (total : Nat) (r : ObjRow) (data : Bytes) (s : State), Quiet s ∧ s.obj O.sessionState = 1 ∧
        keyOf index sub % 256 ≠ 0 ∧ indexDefined (keyOf index sub / 256) = true ∧ rowOf (keyOf index sub) = some r ∧
        accessTest r (keyOf index sub) s = .ok ∧ lengthTest r total = .ok ∧ 0 < data.length ∧ data.length ≤ 1024 ∧ data.length < total ∧
        keyOf index sub ≠ O.resetCmd) :=
  ⟨⟨x0, 0x7000, 3, ((rowOf (keyOf 0x7000 3)).get (by decide +kernel)), 1000, 2, [0xE8, 0x03], w0, by unfold Quiet; decide +kernel,
      by decide +kernel, by decide +kernel, by decide +kernel, by decide +kernel, by decide +kernel, by decide +kernel, by decide +kernel,
      by decide +kernel, rfl, by decide +kernel⟩,
   ⟨x0, 0x7000, 3, ((rowOf (keyOf 0x7000 3)).get (by decide +kernel)), 2, w0, by unfold Quiet; decide +kernel, by decide +kernel,
       by decide +kernel, by decide +kernel, by decide +kernel, by decide +kernel, by decide +kernel, by decide +kernel, fun _ => rfl,
       by decide +kernel⟩,
   ⟨x0, 0x7000, 3, ((rowOf (keyOf 0x7000 3)).get (by decide +kernel)), 2, w0, by unfold Quiet; decide +kernel, by decide +kernel,
       by decide +kernel, by decide +kernel, by decide +kernel, by decide +kernel, by decide +kernel, by decide +kernel, fun _ => rfl,
       by decide +kernel⟩,
   ⟨x0, (O.fwdRules / 256), (O.fwdRules % 256), 48, ((rowOf (keyOf (O.fwdRules / 256) (O.fwdRules % 256))).get (by decide +kernel)),
       (List.replicate 24 0), w0, by unfold Quiet; decide +kernel⟩⟩

/-- The hypotheses of SegmentsAndEnables hold together: one state and operands for each clause. -/
theorem witness_SegmentsAndEnables :
    (∃ (b : WriteBuffer) (s : State), s.svc.buffer = some b ∧ s.svc.latch = none ∧ s.svc.discarded = none ∧ 0 < segTicks s) ∧
    (∃ (l : ReadLatch) (s : State), s.svc.latch = some l ∧ s.svc.buffer = none ∧ s.svc.discarded = none) ∧
    (∃ (s : State), O.nlEnable ∈ s.svc.due ∧ s.svc.held = [] ∧ s.obj O.bootState ≠ 5) ∧
    (∃ (x : Xfer) (oldest : Bytes) (rest : List Bytes) (s : State), s.ready = true ∧ s.svc.log = oldest :: rest) :=
  ⟨⟨⟨O.fwdRules, 0, 48, [], 0⟩, { w0 with svc := { w0.svc with buffer := some ⟨O.fwdRules, 0, 48, [], 0⟩ } }, by decide +kernel⟩,
   ⟨⟨0, 0, [], 1, 0⟩, { w0 with svc := { w0.svc with latch := some ⟨0, 0, [], 1, 0⟩ } }, by decide +kernel⟩,
   ⟨{ w0 with svc := { w0.svc with due := [O.nlEnable] } }, by decide +kernel⟩,
   ⟨x0, [1], [[2]], { w0 with svc := { w0.svc with log := [[1], [2]] } }, by decide +kernel⟩⟩

/-- The hypotheses of CarrierEnable hold together: one state and operands for each clause. -/
theorem witness_CarrierEnable :
    (∃ (x : Xfer) (n : Nat) (s : State), n < 64 ∧ Accepts s x (O.carrierEnable n) (.num 1) ∧ s.obj (O.carrierEnable n) = 0 ∧
        s.obj O.bootState ≠ 5) ∧
    (∃ (x : Xfer) (n : Nat) (s : State), n < 64 ∧ Accepts s x (O.carrierEnable n) (.num 0) ∧ s.obj (O.carrierEnable n) = 1) :=
  ⟨⟨x0, 63, w0, by unfold Accepts; decide +kernel⟩,
   ⟨x0, 63, (on [(O.carrierEnable 63, 1)] w0), by unfold Accepts; decide +kernel⟩⟩

/-- The hypotheses of UeContexts hold together: one state and operands for each clause. -/
theorem witness_UeContexts :
    (∃ (x : Xfer) (data : Bytes) (s : State), Accepts s x O.ueContext (.bytes data)) ∧
    (∃ (x : Xfer) (i : Nat) (s : State), Accepts s x O.ueRelease (.num i) ∧ (s.ue i).state = 1 ∧ Store.rising s.pipe.ues = true) :=
  ⟨⟨x0, (List.replicate 64 0), w0, by unfold Accepts; decide +kernel⟩,
   ⟨x0, 7, { w0 with pipe := { w0.pipe with ues := [(7, ⟨1, [], [], [], none⟩)] } }, by unfold Accepts; decide +kernel⟩⟩

/-- The hypotheses of DecodeAttempts hold together: one state and operands for each clause. -/
theorem witness_DecodeAttempts :
    (∃ (tag : Nat) (arrived : Nat) (j : Job) (s : State), Store.find s.kiln.jobs tag = some j ∧ j.status = none ∧ j.susp = false ∧
        j.eRx < min arrived j.e) ∧
    (∃ (tag : Nat) (arrived : Nat) (j : Job) (o : Op) (s : State), Store.find s.kiln.jobs tag = some j ∧ j.status = none ∧ j.susp = true ∧
        j.eRx ≤ arrived ∧ s.op tag = some o ∧ o.state = .suspended ∧ o.cancel = false) ∧
    (∃ (tag : Nat) (arrived : Nat) (s : State), (∀ j, Store.find s.kiln.jobs tag = some j → j.status ≠ none ∨ arrived < j.eRx)) ∧
    (∃ (tag : Nat) (b : Boundary) (j : Job) (o : Op) (s : State), Store.find s.kiln.jobs tag = some j ∧ j.status = none ∧ j.susp = false ∧
        isPolar j.kind = false ∧ s.op tag = some o ∧ o.cls = 1 ∧ o.state = .running ∧ o.cancel = false ∧ b.inputLost = false ∧
        b.versionLost = false) :=
  ⟨⟨1, 8, aJob, { withOp 1 { aOp with state := .running } w0 with kiln := ⟨[(1, aJob)], [], []⟩ }, by decide +kernel⟩,
   ⟨1, 8, { aJob with susp := true }, { aOp with state := .suspended },
      { withOp 1 { aOp with state := .suspended } w0 with kiln := ⟨[(1, { aJob with susp := true })], [], []⟩ }, by decide +kernel⟩,
   ⟨1, 8, w0, fun _ h => nomatch h⟩,
   ⟨1, ⟨1, false, false⟩, aJob, { aOp with cls := 1, state := .running },
       { withOp 1 { aOp with cls := 1, state := .running } w0 with kiln := ⟨[(1, aJob)], [], []⟩ }, by decide +kernel⟩⟩

/-- The hypotheses of KilnCancelAndFaults hold together: one state and operands for each clause. -/
theorem witness_KilnCancelAndFaults :
    (∃ (tag : Nat) (o : Op) (s : State), s.op tag = some o ∧ (o.cls = 1 ∨ o.cls = 2) ∧ o.cancel = true ∧ o.published = false) ∧
    (∃ (n : Nat) (u : Nat) (s : State), n < 68 ∧ kdClass.service s n = true ∧ kdClass.spareFor n s = some u) ∧
    (∃ (n : Nat) (s : State), n < 34 ∧ keClass.service s n = true ∧ keClass.spareFor n s = none) :=
  ⟨⟨1, { aOp with cls := 1, cancel := true }, { withOp 1 { aOp with cls := 1, cancel := true } w0 with kiln := ⟨[(1, aJob)], [], []⟩ },
      by decide +kernel⟩,
   ⟨0, ((kdClass.spareFor 0 w0).get (by decide +kernel)), w0, by decide +kernel⟩,
   ⟨33, (on [(O.keService, 2 ^ 34 - 1), (O.keSpares, 0)] w0), by decide +kernel⟩⟩

/-- The hypotheses of WeightBankWrites hold together: one state and operands for each clause. -/
theorem witness_WeightBankWrites :
    (∃ (x : Xfer) (c : Nat) (s : State), Accepts s x O.wbDefine (.num 1) ∧
        3 * bankPallets (s.nat O.wbPorts) (s.nat O.wbLayers) (s.nat O.wbSubbands) ≤ s.wbFree + ((Store.find s.wb (s.nat O.wbIndex)).map (·.pallets)).getD 0 ∧
        s.wbChannel = some c ∧ s.nat O.wbOwner < 64 ∧ s.obj (O.carrierEnable (s.nat O.wbOwner)) = 1 ∧
        s.nat (O.runAheadSlots (s.nat O.wbOwner)) + 3 ≤ s.nat O.wbSwapPeriod) ∧
    (∃ (x : Xfer) (e : WbEntry) (s : State), Accepts s x O.wbDefine (.num 0) ∧ s.wbSel = some e ∧ Store.rising s.wb = true) ∧
    (∃ (x : Xfer) (i : Nat) (e : WbEntry) (s : State), Accepts s x O.wbDefine (.num 0) ∧ i ≠ s.nat O.wbIndex ∧ Store.find s.wb i = some e ∧
        e.deleting = false) ∧
    (∃ (x : Xfer) (data : Bytes) (e : WbEntry) (s : State), Accepts s x O.wbWeights (.bytes data) ∧ s.wbSel = some e ∧ e.deleting = false ∧
        data.length = e.ports * e.layers * 4 ∧ s.nat O.wbSubband < e.subbands ∧ (∀ l < e.layers, columnNorm e.ports l data ≤ 2 ^ 29)) ∧
    (∃ (x : Xfer) (data : Bytes) (s : State), Accepts s x O.wbWeights (.bytes data) ∧ s.wbSel = none) ∧
    (∃ (x : Xfer) (e : WbEntry) (s : State), Accepts s x O.wbCommit (.num 1) ∧ s.wbSel = some e ∧ e.deleting = false) ∧
    (∃ (i : Nat) (e : WbEntry) (s : State), Store.find s.wb i = some e ∧ e.back = .copying) :=
  ⟨⟨x0, 0, (on ((O.wbOwner, 0) :: (O.carrierEnable 0, 1) :: (O.wbSwapPeriod, 1000) :: (O.wbPoolPallets,
      1000) :: (List.range 16).map fun c => (O.chState c, 2)) w0), by unfold Accepts; decide +kernel⟩,
   ⟨x0, ⟨0, 1, 1, 1, 1, 4, false, [⟨.front, 0, [], [], []⟩, ⟨.back, 0, [], [], []⟩, ⟨.free, 0, [], [], []⟩], .opened, false, [], 0, 3, 0⟩,
       { w0 with wb := [(0, ⟨0, 1, 1, 1, 1, 4, false, [⟨.front, 0, [], [], []⟩, ⟨.back, 0, [], [], []⟩, ⟨.free, 0, [], [], []⟩], .opened, false, [], 0, 3, 0⟩)] },
       by unfold Accepts; decide +kernel⟩,
   ⟨x0, 4095, ⟨0, 1, 1, 1, 1, 4, false, [⟨.front, 0, [], [], []⟩, ⟨.back, 0, [], [], []⟩, ⟨.free, 0, [], [], []⟩], .opened, false, [], 0, 3, 0⟩,
       { w0 with wb := [(4095, ⟨0, 1, 1, 1, 1, 4, false, [⟨.front, 0, [], [], []⟩, ⟨.back, 0, [], [], []⟩, ⟨.free, 0, [], [], []⟩], .opened, false, [], 0, 3, 0⟩)] },
       by unfold Accepts; decide +kernel⟩,
   ⟨x0, [0, 0, 0, 0], ⟨0, 1, 1, 1, 1, 4, false, [⟨.front, 0, [], [], []⟩, ⟨.back, 0, [], [], []⟩, ⟨.free, 0, [], [], []⟩], .opened, false, [], 0, 3, 0⟩,
       { w0 with wb := [(0, ⟨0, 1, 1, 1, 1, 4, false, [⟨.front, 0, [], [], []⟩, ⟨.back, 0, [], [], []⟩, ⟨.free, 0, [], [], []⟩], .opened, false, [], 0, 3, 0⟩)] },
       by unfold Accepts; decide +kernel⟩,
   ⟨x0, [0, 0, 0, 0], w0, by unfold Accepts; decide +kernel⟩,
   ⟨x0, ⟨0, 1, 1, 1, 1, 4, false, [⟨.front, 0, [], [], []⟩, ⟨.back, 0, [], [], []⟩, ⟨.free, 0, [], [], []⟩], .opened, false, [], 0, 3, 0⟩,
       { w0 with wb := [(0, ⟨0, 1, 1, 1, 1, 4, false, [⟨.front, 0, [], [], []⟩, ⟨.back, 0, [], [], []⟩, ⟨.free, 0, [], [], []⟩], .opened, false, [], 0, 3, 0⟩)] },
       by unfold Accepts; decide +kernel⟩,
   ⟨4095, ⟨0, 1, 1, 1, 1, 4, false, [⟨.front, 0, [], [], []⟩, ⟨.free, 0, [], [], []⟩, ⟨.retiring, 0, [], [], []⟩], .copying, false, [], 0, 3, 0⟩,
       { w0 with wb := [(4095, ⟨0, 1, 1, 1, 1, 4, false, [⟨.front, 0, [], [], []⟩, ⟨.free, 0, [], [], []⟩, ⟨.retiring, 0, [], [], []⟩], .copying, false, [], 0, 3, 0⟩)] },
       by decide +kernel⟩⟩

/-- The hypotheses of WeightBankSwaps hold together: one state and operands for each clause. -/
theorem witness_WeightBankSwaps :
    (∃ (i : Nat) (e : WbEntry) (b : Bank) (f : Bank) (s : State), Store.find s.wb i = some e ∧ e.back = .committed ∧ e.bank .back = some b ∧
        e.bank .free = some f ∧ e.bank .next = none) ∧
    (∃ (i : Nat) (e : WbEntry) (s : State), Store.find s.wb i = some e ∧ e.back = .opened ∧ e.written = true) ∧
    (∃ (i : Nat) (e : WbEntry) (b : Bank) (s : State), Store.find s.wb i = some e ∧ e.bank .next = some b) :=
  ⟨⟨0, ⟨0, 1, 1, 1, 1, 4, false, [⟨.front, 0, [], [], []⟩, ⟨.back, 0, [], [], []⟩, ⟨.free, 0, [], [], []⟩], .committed, false, [], 0, 3, 0⟩, ⟨.back, 0, [], [], []⟩, ⟨.free, 0, [], [], []⟩,
      { w0 with wb := [(0, ⟨0, 1, 1, 1, 1, 4, false, [⟨.front, 0, [], [], []⟩, ⟨.back, 0, [], [], []⟩, ⟨.free, 0, [], [], []⟩], .committed, false, [], 0, 3, 0⟩)] },
      by decide +kernel⟩,
   ⟨0, ⟨0, 1, 1, 1, 1, 4, false, [⟨.front, 0, [], [], []⟩, ⟨.back, 0, [], [], []⟩, ⟨.free, 0, [], [], []⟩], .opened, true, [], 0, 3, 0⟩,
       { w0 with wb := [(0, ⟨0, 1, 1, 1, 1, 4, false, [⟨.front, 0, [], [], []⟩, ⟨.back, 0, [], [], []⟩, ⟨.free, 0, [], [], []⟩], .opened, true, [], 0, 3, 0⟩)] },
       by decide +kernel⟩,
   ⟨0, ⟨0, 1, 1, 1, 1, 4, false, [⟨.front, 0, [], [], []⟩, ⟨.back, 0, [], [], []⟩, ⟨.next, 0, [], [], []⟩], .opened, false, [], 0, 3, 0⟩, ⟨.next, 0, [], [], []⟩, { w0 with wb := [(0, ⟨0, 1, 1, 1, 1, 4, false, [⟨.front, 0, [], [], []⟩, ⟨.back, 0, [], [], []⟩, ⟨.next, 0, [], [], []⟩], .opened, false, [], 0, 3, 0⟩)] },
       by decide +kernel⟩⟩

/-- The hypotheses of LayerEngines hold together: one state and operands for each clause. -/
theorem witness_LayerEngines :
    (∃ (tag : Nat) (o : Op) (c : Course) (r : Rec) (s : State), s.op tag = some o ∧ o.cls = 3 ∧ o.state = .running ∧ o.ended = none ∧
        o.cancel = false ∧ s.course o.key = some c ∧ recById c.recs o.id.recId = some r ∧
        (o.id.kind = .prec → badEntries (s.bump O.leOps 1) o = [])) ∧
    (∃ (tag : Nat) (o : Op) (s : State), s.op tag = some o ∧ o.cls = 3 ∧ o.state = .running ∧ o.ended = none ∧ o.cancel = false ∧
        o.id.kind = .prec ∧ badEntries (s.bump O.leOps 1) o ≠ []) ∧
    (∃ (tag : Nat) (o : Op) (s : State), s.op tag = some o ∧ o.cls = 3 ∧ o.cancel = true ∧ o.published = false) ∧
    (∃ (n : Nat) (u : Nat) (s : State), n < 34 ∧ leClass.service s n = true ∧ leClass.spareFor n s = some u) ∧
    (∃ (n : Nat) (u : Nat) (s : State), n < 17 ∧ xeClass.service s n = true ∧ xeClass.spareFor n s = some u) :=
  ⟨⟨1, { aOp with cls := 3, state := .running, id := ⟨.chest, 5, 0, 0⟩ }, { aCourse with recs := [⟨0x11, 0, 5, []⟩] }, ⟨0x11, 0, 5, []⟩,
      { withCourse 1 0 { aCourse with recs := [⟨0x11, 0, 5, []⟩] } w0 with sched := { w0.sched with ops := [(1, { aOp with cls := 3, state := .running, id := ⟨.chest, 5, 0, 0⟩ })] } },
      by decide +kernel⟩,
   ⟨1, precOp, wBad, by decide +kernel⟩,
   ⟨1, { aOp with cls := 3, cancel := true }, (withOp 1 { aOp with cls := 3, cancel := true } w0), by decide +kernel⟩,
   ⟨0, ((leClass.spareFor 0 w0).get (by decide +kernel)), w0, by decide +kernel⟩,
   ⟨0, ((xeClass.spareFor 0 w0).get (by decide +kernel)), w0, by decide +kernel⟩⟩

/-- The hypotheses of PortLinks hold together: one state and operands for each clause. -/
theorem witness_PortLinks :
    (∃ (x : Xfer) (p : Nat) (s : State), p < 24 ∧ Accepts s x (O.portEnable p) (.num 1) ∧ s.obj (O.portEnable p) = 0 ∧
        s.obj O.bootState ≠ 5) ∧
    (∃ (x : Xfer) (p : Nat) (s : State), p < 24 ∧ Accepts s x (O.portEnable p) (.num 0) ∧ s.obj (O.portEnable p) = 1) ∧
    (∃ (p : Nat) (since : Nat) (s : State), p < 24 ∧ (s.port p).alignAt = some since ∧ s.obj (O.portEnable p) ≠ 0 ∧
        s.obj (O.portLinkState p) = 0 ∧ s.runs (portDomain p) = true ∧ lanesGood s p = true ∧
        (s.pairOf p).all (fun q => s.obj (O.portLinkState q) == 1) = true) ∧
    (∃ (p : Nat) (q : Nat) (since : Nat) (s : State), p < 24 ∧ q < 24 ∧ q ≠ p ∧ (s.port p).alignAt = some since ∧ s.obj (O.portEnable p) ≠
        0 ∧ s.obj (O.portLinkState p) = 0 ∧ s.runs (portDomain p) = true ∧ lanesGood s p = true ∧ s.pairOf p = some q ∧ s.pairOf q = some p ∧
        s.obj (O.portLinkState q) = 0) ∧
    (∃ (dt : Nat) (p : Nat) (cause : LinkCause) (s : State), p < 24 ∧ s.linkUp p = true) ∧
    (∃ (p : Nat) (s : State), p < 24 ∧ s.obj (O.portEnable p) = 3 ∧ s.shutRuns (O.portEnable p) = true ∧ (carriersOn s p).isEmpty = true) ∧
    (∃ (n : Nat) (since : Nat) (s : State), n < 64 ∧ (s.port (s.nat (O.fhPort n))).goodAt = some since ∧ s.obj (O.carrierEnable n) ≠ 0 ∧
        s.nat (O.fhPort n) < 24 ∧ s.nat (O.activePort n) ≠ s.nat (O.fhPort n) ∧ s.obj (O.failoverMode (s.nat (O.fhPort n))) = 1 ∧
        s.obj (O.portLinkState (s.nat (O.fhPort n))) = 1 ∧ quietNow (advanceTicks s (since + 1562500000)) n = true) ∧
    (∃ (p : Nat) (ber : Nat) (corrected : Nat) (uncorrectable : Nat) (s : State), p < 24 ∧ s.linkUp p = true ∧ ber < 2 ^ 32 ∧
        s.obj (O.failoverOnDegrade p) ≠ 1 ∧ (s.pairOf p).all (fun q => s.obj (O.portLinkState q) == 1) = true) :=
  ⟨⟨x0, 23, w0, by unfold Accepts; decide +kernel⟩,
   ⟨x0, 23, (on [(O.portEnable 23, 1)] w0), by unfold Accepts; decide +kernel⟩,
   ⟨23, 0, (on [(O.portEnable 23, 1), (O.portLinkState 23,
       0)] { w0 with fh := { w0.fh with ports := [(23, { PortIo.down with alignAt := some 0 })] } }), by decide +kernel⟩,
   ⟨23, 22, 0, (on [(O.portEnable 23, 1), (O.portLinkState 23, 0), (O.portLinkState 22, 0), (O.pairPort 23, 22), (O.pairPort 22,
       23)] { w0 with fh := { w0.fh with ports := [(23, { PortIo.down with alignAt := some 0 })] } }), by decide +kernel⟩,
   ⟨0, 23, .signal, (on [(O.portLinkState 23, 1)] w0), by decide +kernel⟩,
   ⟨23, (on [(O.portEnable 23, 3)] w0), by decide +kernel⟩,
   ⟨63, 0, (on [(O.carrierEnable 63, 1), (O.fhPort 63, 0), (O.activePort 63, 1), (O.failoverMode 0, 1), (O.portLinkState 0,
       1)] { w0 with fh := { w0.fh with ports := [(0, { PortIo.down with goodAt := some 0 })] } }), by decide +kernel⟩,
   ⟨23, 0, 0, 0, (on [(O.portLinkState 23, 2), (O.failoverOnDegrade 23, 0)] w0), by decide +kernel⟩⟩

/-- The hypotheses of PortMessages hold together: one state and operands for each clause. -/
theorem witness_PortMessages :
    (∃ (dt : Nat) (p : Nat) (f : Frame) (s : State), p < 24 ∧ s.linkUp p = true ∧ (s.port p).first = true ∧ f.fcsOk = false) ∧
    (∃ (dt : Nat) (p : Nat) (q : Nat) (f : Frame) (r : Bytes) (s : State), p < 24 ∧ q < 24 ∧ q ≠ p ∧ s.linkUp p = true ∧ (s.port p).first
        = true ∧ f.fcsOk = true ∧ f.macControl = false ∧ f.dst ≠ wireNat (s.blob (O.portMac p)) ∧ f.dst ≠ 0x0180C200000E ∧ f.ptp = none ∧
        f.ptpEvent = false ∧ s.obj (O.fwdEnable p) = 1 ∧ (fwdRules s).find? (ruleMatches p f) = some r ∧ bytesAt r 20 4 = 2 ^ q ∧ s.obj
        (O.fwdEnable q) = 1 ∧ s.obj (O.portLinkState q) = 1) ∧
    (∃ (dt : Nat) (p : Nat) (f : Frame) (s : State), p < 24 ∧ s.linkUp p = true ∧ (s.port p).first = true ∧ f.fcsOk = true ∧ f.macControl
        = false ∧ f.dst ≠ wireNat (s.blob (O.portMac p)) ∧ f.dst ≠ 0x0180C200000E ∧ f.ptp = none ∧ s.obj (O.fwdEnable p) ≠ 1) ∧
    (∃ (dt : Nat) (p : Nat) (n : Nat) (m : IqMsg) (s : State), p < 24 ∧ s.linkUp p = true ∧ m.eBit = true ∧ m.subseq = 0 ∧ (listens
        s = false ∨ s.nat O.nlSrcPort ≠ p ∨ s.nat O.nlSrcEaxc ≠ m.eaxc) ∧ carrierOf s p m.eaxc = some n ∧ s.obj (O.fhDomain n) ≠ 1) ∧
    (∃ (dt : Nat) (p : Nat) (m : IqMsg) (s : State), p < 24 ∧ s.linkUp p = true ∧ m.eBit = false) ∧
    (∃ (x : Xfer) (data : Bytes) (s : State), Accepts s x O.fwdRules (.bytes data) ∧ data.length % 24 = 0 ∧ (∀ i < data.length / 24,
        ruleFields ((data.drop (24 * i)).take 24) = true ∧ ¬(bytesAt ((data.drop (24 * i)).take 24) 0 1 < 24 ∧ bitOf (bytesAt ((data.drop
        (24 * i)).take 24) 20 4) (bytesAt ((data.drop (24 * i)).take 24) 0 1) = true))) :=
  ⟨⟨0, 23, ⟨1, 0, none, 0, 64, false, false, 0, false, none, false, 0⟩, (on [(O.portLinkState 23,
      1)] { w0 with fh := { w0.fh with ports := [(23, { PortIo.down with first := true })] } }), by decide +kernel⟩,
   ⟨0, 23, 0, ⟨1, 0, none, 0x1234, 64, true, false, 0, false, none, false, 0⟩, [23, 0, 0, 0, 0, 0, 0, 0, 0, 0, 0, 0, 0, 0, 0, 0, 0, 0, 0, 0,
       1, 0, 0, 0], { (((on [(O.portLinkState 23, 1), (O.fwdEnable 23, 1), (O.fwdEnable 0, 1), (O.portLinkState 0, 1)] { w0 with fh := { w0.fh with ports := [(23, { PortIo.down with first := true })] } }).setBlob O.fwdRules [23, 0, 0, 0, 0, 0, 0, 0, 0, 0, 0, 0, 0, 0, 0, 0, 0, 0, 0, 0, 1, 0, 0, 0])) with blobs := [(O.portMac 23, [2, 0, 0, 0, 0, 0]), (O.fwdRules, [23, 0, 0, 0, 0, 0, 0, 0, 0, 0, 0, 0, 0, 0, 0, 0, 0, 0, 0, 0, 1, 0, 0, 0])] },
       by decide +kernel⟩,
   ⟨0, 23, ⟨1, 0, none, 0x1234, 64, true, false, 0, false, none, false, 0⟩,
       { ((on [(O.portLinkState 23, 1), (O.fwdEnable 23, 0)] { w0 with fh := { w0.fh with ports := [(23, { PortIo.down with first := true })] } })) with blobs := [(O.portMac 23, [2, 0, 0, 0, 0, 0])] },
       by decide +kernel⟩,
   ⟨0, 0, 0, ⟨((wSend.eaxcs 0).headD 0), 0, true, 0, 0, 0, false, 0, 0, 0, [], []⟩, wSend, by decide +kernel⟩,
   ⟨0, 23, okQ, (on [(O.portLinkState 23, 1)] w0), by decide +kernel⟩,
   ⟨x0, [23, 0, 0, 0, 0, 0, 0, 0, 0, 0, 0, 0, 0, 0, 0, 0, 0, 0, 0, 0, 1, 0, 0, 0], w0, by unfold Accepts; decide +kernel⟩⟩

/-- The hypotheses of CourseEgress hold together: one state and operands for each clause. -/
theorem witness_CourseEgress :
    (∃ (chan : Nat) (course : Nat) (symbol : Nat) (k : Nat) (bytes : Nat) (tag : Nat) (power : Int) (c : Course) (o : Op) (g : Copy) (s :
        State), LaunchDue s chan course symbol k c ∧ s.obj (O.fhDomain (chan - 1)) = 0 ∧ ridersOf s (chan - 1) c.slotAir 0 symbol = [] ∧
        symbolShut (atLaunch s chan symbol c) (chan - 1) (courseSymbol (atLaunch s chan symbol c) (chan - 1) c symbol) = .passes ∧
        launchMuted (atLaunch s chan symbol c) (chan - 1) (s.nat (O.activePort (chan - 1))) k = false ∧ awaitsOpening (atLaunch s chan
        symbol c) (chan - 1) (s.nat (O.activePort (chan - 1))) (courseSymbol (atLaunch s chan symbol c) (chan - 1) c symbol) = false ∧
        s.nat (O.activePort (chan - 1)) < 24 ∧ s.linkUp (s.nat (O.activePort (chan - 1))) = true ∧ s.liveOp (courseKey chan course) (opId
        .asm 0 symbol (k / 16)) = some (tag, o) ∧ o.published = true ∧ o.empty = false ∧ Store.find s.guard.copies (chan - 1) = some g ∧
        copyHolds (atLaunch s chan symbol c) (chan - 1) g (courseSymbol (atLaunch s chan symbol c) (chan - 1) c symbol) = true ∧
        s.guard.synth.contains (5, chan - 1) = false ∧ 2 * power < 2 * s.obj (O.guardPwrLimit (chan - 1)) + 15 ∧
        launchLate (atLaunch s chan symbol c) (chan - 1) (s.nat (O.activePort (chan - 1))) c.slotAir symbol = false) ∧
    (∃ (chan : Nat) (course : Nat) (symbol : Nat) (k : Nat) (bytes : Nat) (power : Int) (c : Course) (s : State), LaunchDue s chan course
        symbol k c ∧ ridersOf s (chan - 1) c.slotAir 0 symbol = [] ∧ symbolShut (atLaunch s chan symbol c) (chan - 1) (courseSymbol
        (atLaunch s chan symbol c) (chan - 1) c symbol) = .gap) ∧
    (∃ (chan : Nat) (course : Nat) (symbol : Nat) (k : Nat) (c : Course) (s : State), LaunchDue s chan course symbol k c ∧
        (∀ k < s.nat (O.dlPorts (chan - 1)), bitOf (Store.at 0 c.went symbol) k = true)) ∧
    (∃ (chan : Nat) (course : Nat) (symbol : Nat) (k : Nat) (c : Course) (s : State), LaunchDue s chan course symbol k c ∧
        bitOf (Store.at 0 c.went symbol) k = false ∧ s.nat (O.activePort (chan - 1)) < 24) ∧
    (∃ (chan : Nat) (course : Nat) (rec : Nat) (bytes : Nat) (c : Course) (r : Rec) (s : State), 1 ≤ chan ∧ chan ≤ 64 ∧ s.course
        (courseKey chan course) = some c ∧ dirOf course = 0 ∧ c.cancelled = false ∧ c.journalled = false ∧ c.state ≠ .opened ∧ rec ≠ 0 ∧
        recById c.recs rec = some r ∧ s.nat (O.activePort (chan - 1)) < 24 ∧ s.linkUp (s.nat (O.activePort (chan - 1))) = true ∧ s.obj
        (O.fhDomain (chan - 1)) = 0 ∧ s.hosted (chan - 1) = false) ∧
    (∃ (chan : Nat) (course : Nat) (bytes : Nat) (c : Course) (s : State), 1 ≤ chan ∧ chan ≤ 64 ∧ s.course (courseKey chan course) = some
        c ∧ dirOf course = 1 ∧ c.cancelled = false ∧ c.journalled = false ∧ c.state ≠ .opened ∧ s.nat (O.activePort (chan - 1)) < 24 ∧
        s.linkUp (s.nat (O.activePort (chan - 1))) = true ∧ s.obj (O.fhDomain (chan - 1)) = 0 ∧ s.hosted (chan - 1) = false) ∧
    (∃ (chan : Nat) (course : Nat) (symbol : Nat) (c : Course) (s : State), 1 ≤ chan ∧ chan ≤ 64 ∧ symbol < 14 ∧ s.course (courseKey chan
        course) = some c ∧ dirOf course = 1 ∧ c.cancelled = false ∧ c.journalled = false ∧ c.state ≠ .opened) :=
  ⟨⟨1, 0, 3, 63, 100, 7, 0, nextCourse, readyOp, (workingCopy 0 (on [(O.duplex 0, 0)] w0)), wReady, by unfold LaunchDue; decide +kernel⟩,
   ⟨1, 0, 3, 63, 100, 0, nextCourse, (on [(O.nlEnable, 1), (O.nlMode, 0), (O.gapMuteMask, 1), (O.gapPeriod, 1), (O.gapLength, 10000000)] wReady),
       by unfold LaunchDue; decide +kernel⟩,
   ⟨1, 0, 3, 63, { aCourse with went := [(3, 2 ^ 64 - 1)] },
      withCourse 1 0 { aCourse with went := [(3, 2 ^ 64 - 1)] } wSend, by unfold LaunchDue; decide +kernel⟩,
   ⟨1, 0, 3, 63, aCourse, wSend, by unfold LaunchDue; decide +kernel⟩,
   ⟨1, 0, 5, 100, { aCourse with recs := [⟨0x01, 0, 5, []⟩] }, ⟨0x01, 0, 5, []⟩,
       (withCourse 1 0 { aCourse with recs := [⟨0x01, 0, 5, []⟩] } wSend), by decide +kernel⟩,
   ⟨1, (2 ^ 31), 100, aCourse, (withCourse 1 (2 ^ 31) aCourse wSend), by decide +kernel⟩,
   ⟨1, (2 ^ 31), 13, aCourse, (withCourse 1 (2 ^ 31) aCourse wSend), by decide +kernel⟩⟩

/-- The hypotheses of DelayAndReset hold together: one state and operands for each clause. -/
theorem witness_DelayAndReset :
    (∃ (x : Xfer) (s : State), Accepts s x O.owdStart (.num 1) ∧ s.nat O.owdPort < 24) ∧
    (∃ (x : Xfer) (s : State), Accepts s x O.owdStart (.num 2) ∧ s.nat O.owdPort < 24 ∧ s.fh.owd = none) ∧
    (∃ (dt : Nat) (p : Nat) (src : Nat) (id : Nat) (timePs : Int) (compPs : Int) (o : Owd) (s : State), p < 24 ∧ s.linkUp p = true ∧ s.fh.owd = some o ∧
        o.port = p ∧ o.id = id) ∧
    (∃ (dt : Nat) (p : Nat) (src : Nat) (id : Nat) (timePs : Int) (compPs : Int) (s : State), p < 24 ∧ s.linkUp p = true ∧ s.obj O.owdResponder = 1) ∧
    (∃ (dt : Nat) (p : Nat) (src : Nat) (id : Nat) (timePs : Int) (compPs : Int) (at' : Int) (s : State), p < 24 ∧ s.linkUp p = true ∧
        s.obj O.owdResponder = 1 ∧ s.fh.owdWait.find? (fun w => w.1 == (p, id)) = some ((p, id), at')) ∧
    (∃ (dt : Nat) (p : Nat) (src : Nat) (id : Nat) (follow : Bool) (timePs : Int) (compPs : Int) (s : State), p < 24 ∧ s.linkUp p = true ∧
        s.obj O.owdResponder = 1 ∧ s.fh.owd = none) ∧
    (∃ (dt : Nat) (p : Nat) (src : Nat) (id : Nat) (action : OwdAction) (timePs : Int) (compPs : Int) (s : State), p < 24 ∧
        s.linkUp p = true ∧ action = .response ∧ ∀ o, s.fh.owd = some o → o.port ≠ p ∨ o.id ≠ id) ∧
    (∃ (o : Owd) (s : State), s.fh.owd = some o) ∧
    (∃ (x : Xfer) (s : State), Accepts s x O.resetSend (.num 1) ∧ s.nat O.resetPort < 24) ∧
    (∃ (dt : Nat) (p : Nat) (since : Nat) (s : State), p < 24 ∧ s.linkUp p = true ∧ s.fh.resetAt = some since ∧
        s.clock.ticks + dt ≤ since + 15625000) ∧
    (∃ (dt : Nat) (p : Nat) (id : Nat) (s : State), p < 24 ∧ s.linkUp p = true ∧ s.fh.resetAt = some 0 ∧ id ≠ s.fh.resetId) ∧
    (∃ (since : Nat) (s : State), s.fh.resetAt = some since) :=
  ⟨⟨x0, (on [(O.owdPort, 23)] w0), by unfold Accepts; decide +kernel⟩,
   ⟨x0, (on [(O.owdPort, 23)] w0), by unfold Accepts; decide +kernel⟩,
   ⟨0, 23, 9, 5, 0, 0, ⟨23, 5, 0, 0⟩, { on [(O.portLinkState 23, 1)] w0 with fh := { w0.fh with owd := some ⟨23, 5, 0, 0⟩ } },
       by decide +kernel⟩,
   ⟨0, 23, 9, 5, 0, 0, (on [(O.portLinkState 23, 1), (O.owdResponder, 1)] w0), by decide +kernel⟩,
   ⟨0, 23, 9, 5, 0, 0, 7, { on [(O.portLinkState 23, 1), (O.owdResponder, 1)] w0 with fh := { w0.fh with owdWait := [((23, 5), 7)] } },
      by decide +kernel⟩,
   ⟨0, 23, 9, 5, true, 0, 0, (on [(O.portLinkState 23, 1), (O.owdResponder, 1)] w0), by decide +kernel⟩,
   ⟨0, 23, 9, 5, .response, 0, 0, (on [(O.portLinkState 23, 1)] w0), by decide, by decide +kernel, rfl, fun _ h => nomatch h⟩,
   ⟨⟨23, 5, 0, 0⟩, { on [(O.portLinkState 23, 1)] w0 with fh := { w0.fh with owd := some ⟨23, 5, 0, 0⟩ } }, by decide +kernel⟩,
   ⟨x0, (on [(O.resetPort, 23)] w0), by unfold Accepts; decide +kernel⟩,
   ⟨0, 23, 0, { on [(O.portLinkState 23, 1)] w0 with fh := { w0.fh with resetAt := some 0 } }, by decide +kernel⟩,
   ⟨0, 23, 9, { on [(O.portLinkState 23, 1)] w0 with fh := { w0.fh with resetAt := some 0, resetId := 8 } }, by decide +kernel⟩,
   ⟨0, { w0 with fh := { w0.fh with resetAt := some 0 } }, by decide +kernel⟩⟩

/-- The hypotheses of FilterBankWrites hold together: one state and operands for each clause. -/
theorem witness_FilterBankWrites :
    (∃ (x : Xfer) (c : Nat) (p : Path) (data : Bytes) (s : State), c < 128 ∧ Accepts s x (tapsKey c p) (.bytes data) ∧ data.length % 4 = 0 ∧
        tapsValid s c data = true ∧ (s.obj (O.dfeUser c) = 0xFF ∨ tapCount data = tapCount ((s.chain c).path p).front)) ∧
    (∃ (x : Xfer) (c : Nat) (p : Path) (data : Bytes) (s : State), c < 128 ∧ Accepts s x (tapsKey c p) (.bytes data) ∧ data.length % 4 = 0 ∧
        tapsValid s c data = false) ∧
    (∃ (x : Xfer) (c : Nat) (p : Path) (s : State), c < 128 ∧ Accepts s x (commitKey c p) (.num 1) ∧ ((s.chain c).path p).busy = false ∧
        ((s.chain c).path p).back = .opened) ∧
    (∃ (x : Xfer) (c : Nat) (p : Path) (s : State), c < 128 ∧ Accepts s x (commitKey c p) (.num 1) ∧
        (((s.chain c).path p).busy = true ∨ ((s.chain c).path p).back ≠ .opened)) ∧
    (∃ (c : Nat) (p : Path) (s : State), c < 128 ∧ ((s.chain c).path p).fading = false) ∧
    (∃ (c : Nat) (s : State), c < 128 ∧ (s.chain c).rx.fading = true) ∧
    (∃ (c : Nat) (s : State), c < 128 ∧ crc32 (s.chain c).rx.front = (s.chain c).rx.crc ∧
        ((s.chain c).rx.fading = true → crc32 (s.blob (O.rxTaps c)) = (s.chain c).rx.backCrc)) :=
  ⟨⟨x0, 127, .rx, [0xFF, 0xFF, 0x01, 0x00], w0, by unfold Accepts; decide +kernel⟩,
   ⟨x0, 127, .tx, [0xFF, 0xFF, 0xFF, 0x7F], w0, by unfold Accepts; decide +kernel⟩,
   ⟨x0, 127, .tx, w0, by unfold Accepts; decide +kernel⟩,
   ⟨x0, 127, .tx, { w0 with dfe := { w0.dfe with chains := [(127, { DfeChain.factory with tx := { CoefPath.factory with back := .committed } })] } },
      by unfold Accepts; decide +kernel⟩,
   ⟨127, .rx, w0, by decide +kernel⟩,
   ⟨127, { w0 with dfe := { w0.dfe with chains := [(127, { DfeChain.factory with rx := { CoefPath.factory with fading := true } })] } },
      by decide +kernel⟩,
   ⟨127, w0, by decide +kernel⟩⟩

/-- The hypotheses of FilterSwaps hold together: one state and operands for each clause. -/
theorem witness_FilterSwaps :
    (∃ (c : Nat) (b : Int) (s : State), c < 128 ∧ s.airRunning = true ∧
        b = swapBoundary (s.nat (O.coefSwapPeriod c)) (max (s.chain c).tested (s.airNow + coefLead - 1)) ∧
        (s.chain c).tx.back = .committed ∧ (s.chain c).rx.back = .opened ∧ (s.chain c).rx.written = false) ∧
    (∃ (c : Nat) (b : Int) (s : State), c < 128 ∧ s.airRunning = true ∧
        b = swapBoundary (s.nat (O.coefSwapPeriod c)) (max (s.chain c).tested (s.airNow + coefLead - 1)) ∧ (s.chain c).tx.back = .opened ∧
        (s.chain c).tx.written = true ∧ (s.chain c).rx.back = .opened ∧ (s.chain c).rx.written = false) ∧
    (∃ (c : Nat) (s : State), c < 128 ∧ (s.chain c).tx.decided = true ∧ (s.chain c).rx.decided = false) ∧
    (∃ (c : Nat) (s : State), c < 128 ∧ (s.chain c).tx.fading = true ∧ (s.chain c).rx.fading = false) ∧
    (∃ (c : Nat) (s : State), c < 128 ∧ (s.chain c).tx.back = .copying ∧ (s.chain c).tx.held = [] ∧ (s.chain c).rx.back ≠ .copying) ∧
    (∃ (c : Nat) (p : Path) (s : State), c < 128 ∧ s.airRunning = true ∧ ((s.chain c).path p).back = .committed) ∧
    (∃ (c : Nat) (p : Path) (s : State), c < 128 ∧ ((s.chain c).path p).decided = true) ∧
    (∃ (c : Nat) (p : Path) (s : State), c < 128 ∧ ((s.chain c).path p).fading = true) ∧
    (∃ (c : Nat) (p : Path) (s : State), c < 128 ∧ ((s.chain c).path p).back = .copying) :=
  ⟨⟨127, (swapBoundary (w0.nat (O.coefSwapPeriod 127)) (max 0 (w0.airNow + coefLead - 1))),
      { w0 with dfe := { w0.dfe with chains := [(127, { DfeChain.factory with tx := { CoefPath.factory with back := .committed } })] } },
      by decide +kernel⟩,
   ⟨127, (swapBoundary (w0.nat (O.coefSwapPeriod 127)) (max 0 (w0.airNow + coefLead - 1))),
       { w0 with dfe := { w0.dfe with chains := [(127, { DfeChain.factory with tx := { CoefPath.factory with written := true } })] } },
       by decide +kernel⟩,
   ⟨127, { w0 with dfe := { w0.dfe with chains := [(127, { DfeChain.factory with tx := { CoefPath.factory with decided := true } })] } },
       by decide +kernel⟩,
   ⟨127, { w0 with dfe := { w0.dfe with chains := [(127, { DfeChain.factory with tx := { CoefPath.factory with fading := true } })] } },
       by decide +kernel⟩,
   ⟨127, { w0 with dfe := { w0.dfe with chains := [(127, { DfeChain.factory with tx := { CoefPath.factory with back := .copying } })] } },
       by decide +kernel⟩,
   ⟨127, .rx, { w0 with dfe := { w0.dfe with chains := [(127, { DfeChain.factory with rx := { CoefPath.factory with back := .committed } })] } },
      by decide +kernel⟩,
   ⟨127, .rx, { w0 with dfe := { w0.dfe with chains := [(127, { DfeChain.factory with rx := { CoefPath.factory with decided := true } })] } },
      by decide +kernel⟩,
   ⟨127, .rx, { w0 with dfe := { w0.dfe with chains := [(127, { DfeChain.factory with rx := { CoefPath.factory with fading := true } })] } },
      by decide +kernel⟩,
   ⟨127, .rx, { w0 with dfe := { w0.dfe with chains := [(127, { DfeChain.factory with rx := { CoefPath.factory with back := .copying } })] } },
      by decide +kernel⟩⟩

/-- The hypotheses of FilterResets hold together: one state and operands for each clause. -/
theorem witness_FilterResets :
    (∃ (x : Xfer) (s : State), Accepts s x O.dfeResetAll (.num 1) ∧ s.dfe.resetAt = none ∧ (advance s x.dt).airRunning = true) ∧
    (∃ (b : Int) (s : State), s.dfe.resetAt = some b) ∧
    (∃ (c : Nat) (sum : Nat) (size : Nat) (rest : List (Nat × Nat)) (s : State), c < 128 ∧ s.obj (O.thrMode c) = 1 ∧
        (s.chain c).meter.ended = (sum, size) :: rest) ∧
    (∃ (c : Nat) (h : Nat) (s : State), c < 128 ∧ (s.chain c).holdEnd = some h ∧ (s.chain c).high ≠ (s.chain c).raised) :=
  ⟨⟨x0, w0, by unfold Accepts; decide +kernel⟩,
   ⟨0, { w0 with dfe := { w0.dfe with resetAt := some 0 } }, by decide +kernel⟩,
   ⟨127, 1000000, 256, [], (on [(O.thrMode 127, 1)] { w0 with dfe := { w0.dfe with chains := [(127, { DfeChain.factory with
       meter := ⟨0, 0, 256, [(1000000, 256)]⟩ })] } }), by decide +kernel⟩,
   ⟨127, 0, { w0 with dfe := { w0.dfe with chains := [(127, { DfeChain.factory with holdEnd := some 0, high := true })] } },
       by decide +kernel⟩⟩

/-- The hypotheses of TransmitWindows hold together: one state and operands for each clause. -/
theorem witness_TransmitWindows :
    (∃ (n : Nat) (q : Int) (s : State), n < 64 ∧ s.obj (O.carrierEnable n) ≠ 0 ∧ s.airRunning = true ∧ s.obj (O.duplex n) ≠ 0 ∧
        windowAt s n (s.symbolOf n s.airNow) ≠ some .always ∧ s.airNow ≤ s.symbolAir n (max (s.symbolOf n s.airNow) (Store.at (-1) s.dfe.opened n + 1)) ∧ nextOpening s n (max (s.symbolOf n s.airNow)
        (Store.at (-1) s.dfe.opened n + 1)) = some q) ∧
    (∃ (n : Nat) (q : Int) (s : State), n < 64 ∧ s.obj (O.txwOpen n) = 1 ∧ s.obj (O.duplex n) ≠ 0 ∧ nextClosing s n (Store.at 0
        s.dfe.opened n + 1) = some q) ∧
    (∃ (g : Nat) (s : State), g < 16 ∧ s.nat (O.txgCarrier g) < 64 ∧ s.obj (O.carrierEnable (s.nat (O.txgCarrier g))) ≠ 0 ∧ s.airRunning =
        true ∧ s.obj O.guardState = 1 ∧ s.carrierMuted (s.nat (O.txgCarrier g)) = false ∧ windowAt s (s.nat (O.txgCarrier g)) (s.symbolOf
        (s.nat (O.txgCarrier g)) s.airNow) = some .always ∧ gapMutes s (s.nat (O.txgCarrier g)) s.airNow = false) ∧
    (∃ (g : Nat) (active : Bool) (s : State), g < 16 ∧ 64 ≤ s.nat (O.txgCarrier g)) :=
  ⟨⟨0, ((nextOpening wTdd 0 (max (wTdd.symbolOf 0 wTdd.airNow) 0)).get (by decide +kernel)), wTdd, by decide +kernel⟩,
   ⟨0, ((nextClosing wTdd 0 1).get (by decide +kernel)), wTdd, by decide +kernel⟩,
   ⟨15, (on [(O.txgCarrier 15, 0)] wSend), by decide +kernel⟩,
   ⟨15, true, w0, by decide +kernel⟩⟩

/-- The hypotheses of ScalarResults hold together: one state and operands for each clause. -/
theorem witness_ScalarResults :
    (∃ (t : Nat) (op : ScalarOp) (gd : Nat) (ga : Nat) (gb : Nat) (s : State) (c : Ctx), OnSlot s t c ∧ (∀ l, op ≠ .jumpReg l)) ∧
    (∃ (t : Nat) (op : ScalarOp) (gd : Nat) (ga : Nat) (imm : Int) (s : State) (c : Ctx), OnSlot s t c ∧ (∀ l, op ≠ .jumpReg l)) ∧
    (∃ (t : Nat) (gd : Nat) (field : Nat) (keep : Bool) (imm : Nat) (s : State) (c : Ctx), OnSlot s t c ∧ field < 4) ∧
    (∃ (t : Nat) (s : State) (c : Ctx), OnSlot s t c) ∧
    (∃ (a : Word) (b : Word), b ≠ 0 ∧ (¬ (a = BitVec.intMin 64 ∧ b = BitVec.allOnes 64))) :=
  ⟨⟨199, .add, 1, 2, 3, (withTask 199 aCtx w0), aCtx, by unfold OnSlot; decide +kernel⟩,
   ⟨199, .sll, 1, 2, 64, (withTask 199 aCtx w0), aCtx, by unfold OnSlot; decide +kernel⟩,
   ⟨199, 1, 3, true, 65535, (withTask 199 aCtx w0), aCtx, by unfold OnSlot; decide +kernel⟩,
   ⟨199, (withTask 199 aCtx w0), aCtx, by unfold OnSlot; decide +kernel⟩,
   ⟨7, 3, by decide +kernel⟩⟩

/-- The hypotheses of ControlFlow hold together: one state and operands for each clause. -/
theorem witness_ControlFlow :
    (∃ (t : Nat) (cond : Cond) (ga : Nat) (gb : Nat) (offset : Int) (s : State) (c : Ctx) (b : Bool), OnSlot s t c ∧
        condHolds cond (gReg c ga) (gReg c gb) c.vstat = some b) ∧
    (∃ (t : Nat) (k : Nat) (ga : Nat) (gb : Nat) (offset : Int) (s : State) (c : Ctx), OnSlot s t c) ∧
    (∃ (t : Nat) (link : Bool) (offset : Int) (s : State) (c : Ctx), OnSlot s t c) ∧
    (∃ (t : Nat) (link : Bool) (gd : Nat) (ga : Nat) (gb : Nat) (s : State) (c : Ctx), OnSlot s t c) ∧
    (∃ (t : Nat) (link : Bool) (gd : Nat) (ga : Nat) (imm : Int) (s : State) (c : Ctx), OnSlot s t c) :=
  ⟨⟨0, .eq, 1, 2, -1, (withTask 0 aCtx w0), aCtx, true, by unfold OnSlot; decide +kernel⟩,
   ⟨0, 0, 1, 2, 1, (withTask 0 aCtx w0), aCtx, by unfold OnSlot; decide +kernel⟩,
   ⟨0, true, 1, (withTask 0 aCtx w0), aCtx, by unfold OnSlot; decide +kernel⟩,
   ⟨0, true, 1, 2, 3, (withTask 0 aCtx w0), aCtx, by unfold OnSlot; decide +kernel⟩,
   ⟨0, true, 1, 2, 3, (withTask 0 aCtx w0), aCtx, by unfold OnSlot; decide +kernel⟩⟩

/-- The hypotheses of VectorLanes hold together: one state and operands for each clause. -/
theorem witness_VectorLanes :
    (∃ (t : Nat) (op : VecOp) (sat : Bool) (f : VFields) (s : State) (c : Ctx), OnSlot s t c ∧ s.vl t ≤ 4096 ∧ isCompare op = false ∧
        vFieldsOk f true true true = true) ∧
    (∃ (t : Nat) (op : VecOp) (sat : Bool) (f : VFields) (s : State) (c : Ctx), OnSlot s t c ∧ s.vl t ≤ 4096 ∧ isCompare op = true ∧
        vFieldsOk f false true true = true ∧ 0 < f.d ∧ f.d < 8) ∧
    (∃ (t : Nat) (op : MulOp) (sat : Bool) (f : VFields) (s : State) (c : Ctx), OnSlot s t c ∧ s.vl t ≤ 4096 ∧ op ∈ [.mul, .mac, .cmul,
        .cmulConj] ∧ mulDefined op f.et = true ∧ vFieldsOk f true true true = true) ∧
    (∃ (t : Nat) (op : PermOp) (sat : Bool) (f : VFields) (s : State) (c : Ctx), OnSlot s t c ∧ s.vl t ≤ 4096 ∧ op ∈ [.broadcast, .moveV,
        .interleaveLo, .interleaveHi] ∧ vFieldsOk f true true true = true) ∧
    (∃ (t : Nat) (sat : Bool) (f : VFields) (s : State) (c : Ctx), OnSlot s t c ∧ vFieldsOk f false true false = true ∧ f.b < 32 ∧
        f.d < 32 ∧ (gReg c f.b).toNat < laneCount s t f.long f.et) ∧
    (∃ (t : Nat) (sat : Bool) (f : VFields) (s : State) (c : Ctx), OnSlot s t c ∧ vFieldsOk f false true false = true ∧ f.b < 32 ∧
        f.d < 32 ∧ f.et ≠ .c16) ∧
    (∃ (t : Nat) (short : Bool) (pd : Nat) (ga : Nat) (gb : Nat) (et : ElemType) (s : State) (c : Ctx), OnSlot s t c ∧ s.vl t ≤ 4096 ∧
        elemKnown et = true ∧ 0 < pd ∧ pd < 8) ∧
    (∃ (t : Nat) (op : PredOp) (pd : Nat) (pa : Nat) (pb : Nat) (gd : Nat) (et : ElemType) (s : State) (c : Ctx), OnSlot s t c ∧
        s.vl t ≤ 4096 ∧ op ∈ [.pand, .por, .pxor, .pnot] ∧ elemKnown et = true ∧ 0 < pd ∧ pd < 8 ∧ pa < 8 ∧ pb < 8 ∧ gd < 32) ∧
    (∃ (t : Nat) (pd : Nat) (pa : Nat) (pb : Nat) (gd : Nat) (et : ElemType) (s : State) (c : Ctx), OnSlot s t c ∧ elemKnown et = true ∧
        pd < 8 ∧ pa < 8 ∧ pb < 8 ∧ gd < 32) :=
  ⟨⟨0, .add, true, ⟨1, 2, 3, 0, .i16, false⟩, (withTask 0 aCtx w0), aCtx, by unfold OnSlot; decide +kernel⟩,
   ⟨0, .cmpEq, true, ⟨1, 2, 3, 0, .i16, false⟩, (withTask 0 aCtx w0), aCtx, by unfold OnSlot; decide +kernel⟩,
   ⟨0, .mul, true, ⟨1, 2, 3, 0, .i16, false⟩, (withTask 0 aCtx w0), aCtx, by unfold OnSlot; decide +kernel⟩,
   ⟨0, .moveV, true, ⟨1, 2, 3, 0, .i16, false⟩, (withTask 0 aCtx w0), aCtx, by unfold OnSlot; decide +kernel⟩,
   ⟨0, true, ⟨1, 2, 3, 0, .i16, false⟩, (withTask 0 aCtx w0), aCtx, by unfold OnSlot; decide +kernel⟩,
   ⟨0, true, ⟨1, 2, 3, 0, .i16, false⟩, (withTask 0 aCtx w0), aCtx, by unfold OnSlot; decide +kernel⟩,
   ⟨0, false, 7, 1, 2, .i8, (withTask 0 aCtx w0), aCtx, by unfold OnSlot; decide +kernel⟩,
   ⟨0, .por, 7, 1, 2, 3, .i8, (withTask 0 aCtx w0), aCtx, by unfold OnSlot; decide +kernel⟩,
   ⟨0, 7, 1, 2, 3, .i8, (withTask 0 aCtx w0), aCtx, by unfold OnSlot; decide +kernel⟩⟩

/-- The hypotheses of LoadsAndStores hold together: one state and operands for each clause. -/
theorem witness_LoadsAndStores :
    (∃ (t : Nat) (gd : Nat) (ga : Nat) (offset : Int) (size : Nat) (signed : Bool) (s : State) (c : Ctx) (l : List Nat), OnSlot s t c ∧
        size ∈ [1, 2, 4, 8] ∧ addrOf ((gReg c ga).toNat + offset * size) % size = 0 ∧
        resolveBytes s t c false (addrOf ((gReg c ga).toNat + offset * size)) size = .ok l) ∧
    (∃ (t : Nat) (gd : Nat) (ga : Nat) (offset : Int) (size : Nat) (s : State) (c : Ctx) (signed : Bool), OnSlot s t c ∧ size ∈ [2, 4, 8] ∧
        addrOf ((gReg c ga).toNat + offset * size) % size ≠ 0) ∧
    (∃ (t : Nat) (gd : Nat) (ga : Nat) (offset : Int) (size : Nat) (s : State) (c : Ctx) (l : List Nat), OnSlot s t c ∧ size ∈ [1, 2, 4,
        8] ∧ addrOf ((gReg c ga).toNat + offset * size) % size = 0 ∧
        resolveBytes s t c true (addrOf ((gReg c ga).toNat + offset * size)) size = .ok l ∧
        hitsInput c (addrOf ((gReg c ga).toNat + offset * size)) size = false) ∧
    (∃ (t : Nat) (f : VMFields) (s : State) (c : Ctx), OnSlot s t c ∧ s.vl t ≤ 4096 ∧ vmCheck c f = none ∧ (∀ i,
        i < laneCount s t f.long f.et → isActive (elemBytes f.et) (pReg c f.pg) i = true → ∃ v,
        loadAt s t c ((vmAddrs c f (laneCount s t f.long f.et)).getD i 0) (elemBytes f.et) = .ok v)) ∧
    (∃ (t : Nat) (f : VMFields) (s : State) (c : Ctx) (l : Nat → List Nat), OnSlot s t c ∧ vmCheck c f = none ∧ (∀ i,
        i < laneCount s t f.long f.et → isActive (elemBytes f.et) (pReg c f.pg) i = true → resolveBytes s t c true ((vmAddrs c f (laneCount s t f.long f.et)).getD i 0) (elemBytes f.et) = .ok (l i) ∧
        hitsInput c ((vmAddrs c f (laneCount s t f.long f.et)).getD i 0) (elemBytes f.et) = false)) ∧
    (∃ (t : Nat) (f : VGFields) (s : State) (c : Ctx), OnSlot s t c ∧ s.vl t ≤ 4096 ∧ vgCheck c f = none ∧ (∀ i ∈ vgActive s t c f, ∃ v,
        loadAt s t c (vgAddr c f i) 4 = .ok v)) ∧
    (∃ (t : Nat) (f : VGFields) (s : State) (c : Ctx) (k : Nat) (e : Exc), OnSlot s t c ∧ s.vl t ≤ 4096 ∧ vgCheck c f = none ∧
        k ∈ vgActive s t c f ∧ loadAt s t c (vgAddr c f k) 4 = .error e ∧ e.code ≠ 6 ∧ (∀ i ∈ vgActive s t c f, i < k → ∃ v,
        loadAt s t c (vgAddr c f i) 4 = .ok v) ∧ f.pg ≠ 0 ∧ (∃ i ∈ vgActive s t c f, i < k)) ∧
    (∃ (t : Nat) (f : VGFields) (s : State) (c : Ctx) (l : Nat → List Nat), OnSlot s t c ∧ vgCheck c f = none ∧ (∀ i ∈ vgActive s t c f,
        resolveBytes s t c true (vgAddr c f i) 4 = .ok (l i) ∧ hitsInput c (vgAddr c f i) 4 = false)) :=
  ⟨⟨0, 1, 2, 8, 8, true, (withTask 0 aCtx w0), aCtx, ((List.range 8).map fun i => tileCell 0 (64 + i)), by unfold OnSlot; decide +kernel⟩,
   ⟨0, 1, 2, 1, 2, (withTask 0 { aCtx with g := [(2, 1)] } w0), { aCtx with g := [(2, 1)] }, true, by unfold OnSlot; decide +kernel⟩,
   ⟨0, 1, 2, 8, 8, (withTask 0 aCtx w0), aCtx, ((List.range 8).map fun i => tileCell 0 (64 + i)), by unfold OnSlot; decide +kernel⟩,
   ⟨0, ⟨1, 0, 0, 1, .i16, false⟩, (withTask 0 aCtx w0), aCtx, by unfold OnSlot; decide +kernel, by decide +kernel, by decide +kernel,
       fun i hi h => absurd h ((by decide +kernel : ∀ i < 2048,
       ¬ isActive 2 (pReg aCtx 1) i = true) i (Nat.lt_of_lt_of_le hi (by decide +kernel)))⟩,
   ⟨0, ⟨1, 0, 0, 1, .i16, false⟩, (withTask 0 aCtx w0), aCtx, (fun _ => []), by unfold OnSlot; decide +kernel, by decide +kernel,
       fun i hi h => absurd h ((by decide +kernel : ∀ i < 2048,
       ¬ isActive 2 (pReg aCtx 1) i = true) i (Nat.lt_of_lt_of_le hi (by decide +kernel)))⟩,
   ⟨0, ⟨2, 3, 0, 1, .i32⟩, (withTask 0 aCtx w0), aCtx, by unfold OnSlot; decide +kernel, by decide +kernel, by decide +kernel,
       by rw [show vgActive (withTask 0 aCtx w0) 0 aCtx ⟨2, 3, 0, 1, .i32⟩ = [] by decide +kernel]; intro i h; nomatch h⟩,
   ⟨0, ⟨2, 1, 0, 1, .i32⟩, (withTask 0 gCtx w0), gCtx, 1, gExc, by unfold OnSlot; decide +kernel, by decide +kernel, by decide +kernel,
       by decide +kernel, by decide +kernel, by decide +kernel, fun i _ hi => ⟨0,
       by obtain rfl : i = 0 := Nat.lt_one_iff.mp hi; decide +kernel⟩, by decide +kernel, ⟨0, by decide +kernel, by decide⟩⟩,
   ⟨0, ⟨2, 3, 0, 1, .i32⟩, (withTask 0 aCtx w0), aCtx, (fun _ => []), by unfold OnSlot; decide +kernel, by decide +kernel,
       by rw [show vgActive (withTask 0 aCtx w0) 0 aCtx ⟨2, 3, 0, 1, .i32⟩ = [] by decide +kernel]; intro i h; nomatch h⟩⟩

/-- The hypotheses of LevelsAndExceptions hold together: one state and operands for each clause. -/
theorem witness_LevelsAndExceptions :
    (∃ (t : Nat) (s : State) (c : Ctx), OnSlot s t c) ∧
    (∃ (t : Nat) (write : Bool) (g : Nat) (number : Nat) (s : State) (c : Ctx), OnSlot s t c ∧ readControl s t c number = none) ∧
    (∃ (t : Nat) (write : Bool) (g : Nat) (number : Nat) (s : State) (c : Ctx), OnSlot s t c ∧ c.level = 0 ∧ 0x010 ≤ number ∧
        readControl s t c number ≠ none) ∧
    (∃ (t : Nat) (g : Nat) (number : Nat) (w : Word) (s : State) (c : Ctx), OnSlot s t c ∧ readControl s t c number = some w ∧
        number ≠ 0x003 ∧ (number < 0x010 ∨ 1 ≤ c.level)) ∧
    (∃ (t : Nat) (g : Nat) (number : Nat) (s : State) (c : Ctx), OnSlot s t c ∧ number ∈ [0x000, 0x001, 0x010, 0x011, 0x020, 0x023, 0x024] ∧
        (number < 0x010 ∨ 1 ≤ c.level) ∧ (number = 0x000 → (gReg c g).extractLsb' 1 2 ≠ 3)) ∧
    (∃ (t : Nat) (g : Nat) (s : State) (c : Ctx), OnSlot s t c) :=
  ⟨⟨199, (withTask 199 aCtx w0), aCtx, by unfold OnSlot; decide +kernel⟩,
   ⟨0, true, 1, 0xFFF, (withTask 0 aCtx w0), aCtx, by unfold OnSlot; decide +kernel⟩,
   ⟨0, true, 1, 0x010, (withTask 0 aCtx w0), aCtx, by unfold OnSlot; decide +kernel⟩,
   ⟨0, 1, 0x000, ((readControl w0 0 aCtx 0).get (by decide +kernel)), (withTask 0 aCtx w0), aCtx, by unfold OnSlot; decide +kernel⟩,
   ⟨0, 1, 0x001, (withTask 0 aCtx w0), aCtx, by unfold OnSlot; decide +kernel⟩,
   ⟨0, 31, (withTask 0 aCtx w0), aCtx, by unfold OnSlot; decide +kernel⟩⟩

/-- The hypotheses of TaskLife hold together: one state and operands for each clause. -/
theorem witness_TaskLife :
    (∃ (t : Nat) (tag : Nat) (o : Op) (s : State), t < 200 ∧ startable s t = some (tag, o) ∧ s.op tag = some o) ∧
    (∃ (t : Nat) (c : Ctx) (how : TaskEnd) (s : State), t < 200 ∧ Store.find s.tiles t = some c ∧ c.ended = some how ∧ (∀ j ∈ c.jobs,
        j.2.settled = true)) ∧
    (∃ (t : Nat) (c : Ctx) (s : State), OnSlot s t c ∧ (∀ o, s.op c.tag = some o → o.cancel = true)) :=
  ⟨⟨199, 1, { aOp with state := .dispatched, unit := 199 }, (withOp 1 { aOp with state := .dispatched, unit := 199 } w0),
      by decide +kernel⟩,
   ⟨199, { aCtx with ended := some .ok }, .ok, (withTask 199 { aCtx with ended := some .ok } w0), by decide +kernel⟩,
   ⟨199, aCtx, (withTask 199 aCtx w0), by unfold OnSlot; decide +kernel⟩⟩

/-- The hypotheses of TileFaultsAndBonds hold together: one state and operands for each clause. -/
theorem witness_TileFaultsAndBonds :
    (∃ (t : Nat) (m : Nat) (s : State), t < 200 ∧ s.obj (O.pairRole (t / 2)) = 0 ∧ sparePair s = some m) ∧
    (∃ (n : Nat) (s : State), n < 100 ∧ s.obj (O.pairRole n) = 0 ∧ s.obj (O.bondState n) = 2) ∧
    (∃ (n : Nat) (s : State), n < 100 ∧ s.obj (O.pairRole n) = 1) ∧
    (∃ (x : Xfer) (t : Nat) (v : Int) (s : State), t < 200 ∧ Accepts s x (O.tileVl t) (.num v) ∧ s.obj (O.bondState (t / 2)) = 0) ∧
    (∃ (t : Nat) (s : State), t < 200) ∧
    (∃ (x : Xfer) (n : Nat) (v : Int) (s : State), n < 100 ∧ Accepts s x (O.bondMode n) (.num v)
        ∧ (s.obj (O.pairRole n) = 0 ∧ s.obj (O.bondState n) = v ∧ s.obj (O.bondMode n) = v)) ∧
    (∃ (x : Xfer) (n : Nat) (v : Int) (s : State), n < 100 ∧ Accepts s x (O.bondMode n) (.num v)
        ∧ ¬(s.obj (O.pairRole n) = 0 ∧ s.obj (O.bondState n) = v ∧ s.obj (O.bondMode n) = v)
        ∧ (s.obj (O.pairRole n) ≠ 0 ∨ otherHeaders s n + (if v = 2 then 1 else 0) < s.nat O.headerMin
            ∨ claimsMet (setVls n (s.setObj (O.bondState n) v)) = false)) ∧
    (∃ (x : Xfer) (n : Nat) (v : Int) (s : State), n < 100 ∧ Accepts s x (O.bondMode n) (.num v) ∧ s.obj (O.pairRole n) = 0 ∧
        s.obj (O.bondState n) ≠ v ∧ s.obj (O.bondState n) ≠ 3 ∧ s.nat O.headerMin ≤ otherHeaders s n + (if v = 2 then 1 else 0) ∧
        claimsMet (setVls n (s.setObj (O.bondState n) v)) = true ∧ s.runs (2 + n / 10) = true) ∧
    (∃ (n : Nat) (s : State), n < 100 ∧ s.obj (O.pairRole n) = 0 ∧ s.obj (O.bondState n) = 3 ∧ tileHolds s (2 * n) = false ∧
        tileHolds s (2 * n + 1) = false) :=
  ⟨⟨199, ((sparePair w0).get (by decide +kernel)), (on [(O.pairRole 99, 0)] w0), by decide +kernel⟩,
   ⟨0, (on [(O.pairRole 0, 0), (O.bondState 0, 2)] w0), by decide +kernel⟩,
   ⟨99, (on [(O.pairRole 99, 1)] w0), by decide +kernel⟩,
   ⟨x0, 199, 512, w0, by unfold Accepts; decide +kernel⟩,
   ⟨199, w0, by decide +kernel⟩,
   ⟨x0, 99, 0, (on [(O.pairRole 99, 0), (O.bondState 99, 0), (O.bondMode 99, 0)] w0), by unfold Accepts; decide +kernel⟩,
   ⟨x0, 99, 0, (on [(O.pairRole 99, 1)] w0), by unfold Accepts; decide +kernel⟩,
   ⟨x0, 0, 1, (on [(O.pairRole 0, 0), (O.bondState 0, 0), (O.headerMin, 0), (O.partEnable 0, 0), (O.partEnable 1, 0), (O.partEnable 2, 0),
       (O.partEnable 3, 0), (O.partEnable 4, 0), (O.partEnable 5, 0), (O.partEnable 6, 0), (O.partEnable 7, 0)] w0),
       by unfold Accepts; decide +kernel⟩,
   ⟨99, (on [(O.pairRole 99, 0), (O.bondState 99, 3)] w0), by decide +kernel⟩⟩

/-- The hypotheses of FusedJobs hold together: one state and operands for each clause. -/
theorem witness_FusedJobs :
    (∃ (t : Nat) (gd : Nat) (ga : Nat) (cls : Nat) (sizes : List Nat) (s : State) (c : Ctx) (d : Bytes) (slot : Nat), OnSlot s t c ∧
        cls < 4 ∧ gd < 32 ∧ ga < 32 ∧ judgeFuse s t c (gReg c ga).toNat cls sizes = .ok (d, slot) ∧ s.obj (O.bondState (t / 2)) ≠ 2 ∧
        cls ≠ 0) ∧
    (∃ (t : Nat) (gd : Nat) (ga : Nat) (cls : Nat) (sizes : List Nat) (s : State) (c : Ctx) (d : Bytes) (slot : Nat), OnSlot s t c ∧
        cls < 4 ∧ gd < 32 ∧ ga < 32 ∧ judgeFuse s t c (gReg c ga).toNat cls sizes = .ok (d, slot) ∧ s.obj (O.bondState (t / 2)) = 2) ∧
    (∃ (t : Nat) (gd : Nat) (ga : Nat) (cls : Nat) (sizes : List Nat) (s : State) (c : Ctx) (e : Exc), OnSlot s t c ∧ cls < 4 ∧ gd < 32 ∧
        ga < 32 ∧ judgeFuse s t c (gReg c ga).toNat cls sizes = .error e ∧ e.code = 12) ∧
    (∃ (t : Nat) (gd : Nat) (ga : Nat) (sizes : List Nat) (s : State) (c : Ctx) (d : Bytes) (copy : Bytes) (slot : Nat) (tag : Nat),
        OnSlot s t c ∧ gd < 32 ∧ ga < 32 ∧ judgeFuse s t c (gReg c ga).toNat 0 sizes = .ok (d, slot) ∧ s.obj (O.bondState (t / 2)) ≠ 2 ∧
        tag = s.sched.nextTag % 2 ^ 16 ∧ copy = sentCopy 0 c.gen tag d ∧ badDecode copy = false) ∧
    (∃ (t : Nat) (slot : Nat) (s : State) (c : Ctx) (j : FusedJob), t < 200 ∧ Store.find s.tiles t = some c ∧
        Store.find c.jobs slot = some j ∧ j.sent = false ∧ j.settled = false ∧ j.cls ≠ 0) ∧
    (∃ (t : Nat) (slot : Nat) (result : Bytes) (outputs : List (Nat × Bytes)) (s : State) (c : Ctx) (j : FusedJob), t < 200 ∧
        Store.find s.tiles t = some c ∧ Store.find c.jobs slot = some j ∧ j.sent = true ∧ j.settled = false ∧ j.cancel = false ∧
        jobEnded j = true) :=
  ⟨⟨0, 1, 2, 1, [], (on [(O.bondState 0,
      0)] { withTask 0 { aCtx with enK := 15, slots := [1], g := [(2, 64)] } w0 with mem := [(tileAddr 0 + 64, 1)] }),
      { aCtx with enK := 15, slots := [1], g := [(2, 64)] }, (1 :: List.replicate 63 0), 0, by unfold OnSlot; decide +kernel⟩,
   ⟨0, 1, 2, 1, [], (on [(O.bondState 0,
       2)] { withTask 0 { aCtx with enK := 15, slots := [1], g := [(2, 64)] } w0 with mem := [(tileAddr 0 + 64, 1)] }),
       { aCtx with enK := 15, slots := [1], g := [(2, 64)] }, (1 :: List.replicate 63 0), 0, by unfold OnSlot; decide +kernel⟩,
   ⟨0, 1, 2, 2, [], (on [(O.bondState 0,
       0)] { withTask 0 { aCtx with enK := 15, slots := [1], g := [(2, 64)] } w0 with mem := [(tileAddr 0 + 64, 1)] }),
       { aCtx with enK := 15, slots := [1], g := [(2, 64)] }, (fusedExc 3 64), by unfold OnSlot; decide +kernel⟩,
   ⟨0, 1, 2, [], wFuse, fCtx, fDesc, sentCopy 0 0 (wFuse.sched.nextTag % 2 ^ 16) fDesc, 0, wFuse.sched.nextTag % 2 ^ 16,
      by unfold OnSlot; decide +kernel⟩,
   ⟨0, 0, (withTask 0 { aCtx with jobs := [(0, { cls := 1, tag := 5, kind := 1, gen := 0, addr := 0, extents := [], sent := false, ended := false, settled := false, cancel := false, cancelled := false, word := 0, desc := [], pages := [], staged := [] })] } w0),
       { aCtx with jobs := [(0, { cls := 1, tag := 5, kind := 1, gen := 0, addr := 0, extents := [], sent := false, ended := false, settled := false, cancel := false, cancelled := false, word := 0, desc := [], pages := [], staged := [] })] },
       { cls := 1, tag := 5, kind := 1, gen := 0, addr := 0, extents := [], sent := false, ended := false, settled := false, cancel := false, cancelled := false, word := 0, desc := [], pages := [], staged := [] },
       by decide +kernel⟩,
   ⟨0, 0, [], [], (withTask 0 { aCtx with jobs := [(0, { cls := 1, tag := 5, kind := 1, gen := 0, addr := 0, extents := [], sent := true, ended := true, settled := false, cancel := false, cancelled := false, word := 0, desc := [], pages := [], staged := [] })] } w0),
       { aCtx with jobs := [(0, { cls := 1, tag := 5, kind := 1, gen := 0, addr := 0, extents := [], sent := true, ended := true, settled := false, cancel := false, cancelled := false, word := 0, desc := [], pages := [], staged := [] })] },
       { cls := 1, tag := 5, kind := 1, gen := 0, addr := 0, extents := [], sent := true, ended := true, settled := false, cancel := false, cancelled := false, word := 0, desc := [], pages := [], staged := [] },
       by decide +kernel⟩⟩

/-- The hypotheses of FusedTickets hold together: one state and operands for each clause. -/
theorem witness_FusedTickets :
    (∃ (t : Nat) (gd : Nat) (ga : Nat) (slot : Nat) (s : State) (c : Ctx) (j : FusedJob), OnSlot s t c ∧ gd < 32 ∧ ga < 32 ∧ slot = (gReg
        c ga).toNat % 2 ^ 8 ∧ Store.find c.jobs slot = some j) ∧
    (∃ (t : Nat) (gd : Nat) (ga : Nat) (s : State) (c : Ctx), OnSlot s t c ∧ gd < 32 ∧ ga < 32 ∧ Store.find c.jobs ((gReg c ga).toNat % 2
        ^ 8) = none) ∧
    (∃ (t : Nat) (cls : Nat) (offset : Int) (s : State) (c : Ctx), OnSlot s t c ∧ cls < 4) :=
  ⟨⟨0, 1, 2, 0, (withTask 0 { aCtx with jobs := [(0, { cls := 1, tag := 5, kind := 1, gen := 0, addr := 0, extents := [], sent := false, ended := false, settled := false, cancel := false, cancelled := false, word := 0, desc := [], pages := [], staged := [] })] } w0),
      { aCtx with jobs := [(0, { cls := 1, tag := 5, kind := 1, gen := 0, addr := 0, extents := [], sent := false, ended := false, settled := false, cancel := false, cancelled := false, word := 0, desc := [], pages := [], staged := [] })] },
      { cls := 1, tag := 5, kind := 1, gen := 0, addr := 0, extents := [], sent := false, ended := false, settled := false, cancel := false, cancelled := false, word := 0, desc := [], pages := [], staged := [] },
      by unfold OnSlot; decide +kernel⟩,
   ⟨0, 1, 2, (withTask 0 aCtx w0), aCtx, by unfold OnSlot; decide +kernel⟩,
   ⟨0, 3, 1, (withTask 0 aCtx w0), aCtx, by unfold OnSlot; decide +kernel⟩⟩

/-- The hypotheses of Scheduling hold together: one state and operands for each clause. -/
theorem witness_Scheduling :
    (∃ (tag : Nat) (unit : Nat) (k : Nat) (o : Op) (r : Reserved) (s d : State), s.op tag = some o ∧ o.state = .ready ∧ o.old = false ∧
        (o.id.kind = .dec → harqHeld s o = false) ∧ unit ∈ unitsFor s o ∧ unitFree s o.cls unit = true ∧ unitTaken s o = some unit ∧
        decision unit 0 (candidatesFor s o unit) s = (d, some (tag, k, r))) ∧
    (∃ (tag : Nat) (unit : Nat) (o : Op) (s d : State), s.op tag = some o ∧ o.state = .ready ∧ o.old = false ∧
        (o.id.kind = .dec → harqHeld s o = false) ∧ unit ∈ unitsFor s o ∧ unitFree s o.cls unit = true ∧ unitTaken s o = some unit ∧
        decision unit 0 (candidatesFor s o unit) s = (d, none) ∧ candidatesFor s o unit ≠ []) ∧
    (∃ (tag : Nat) (unit : Nat) (o : Op) (s : State), s.op tag = some o ∧ o.state ≠ .ready) ∧
    (∃ (tag : Nat) (o : Op) (s : State), s.op tag = some o ∧ (o.state = .ready ∨ o.state = .waiting) ∧ o.prio ≠ 0 ∧ o.old = false) ∧
    (∃ (tag : Nat) (how : TaskEnd) (o : Op) (s : State), s.op tag = some o ∧ o.state = .running ∧ o.cancel = false ∧ o.cls = 0 ∧ o.ended =
        some .ok ∧ o.id.kind ≠ .dec ∧ o.id.kind ≠ .srs) ∧
    (∃ (tag : Nat) (how : TaskEnd) (o : Op) (s : State), s.op tag = some o ∧ o.state = .running ∧ o.cancel = false ∧ o.ended = some
        .fault) ∧
    (∃ (tag : Nat) (how : TaskEnd) (o : Op) (s : State), s.op tag = some o ∧ o.state = .running ∧ o.cancel = false ∧ o.ended = some
        .tileFault) ∧
    (∃ (t : Nat) (pallet : Nat) (slot : Nat) (s : State), t < 200 ∧ (Store.at [] s.sched.copies t).find? (fun c => c.1 == pallet &&
        !c.2.2) = some (pallet, slot, false) ∧ Store.find s.hod.halting (prefetchEngine t) = none) ∧
    (∃ (t : Nat) (s : State), (Store.at [] s.sched.copies t).any (fun c => !c.2.2) = true ∧ runningTask s t = none ∧ (nextTask s t).isSome
        = true) ∧
    (∃ (x : Xfer) (p : Nat) (s : State), p < 8 ∧ Accepts s x (O.partEnable p) (.num 1) ∧ s.obj (O.partEnable p) = 0 ∧ s.obj O.bootState ≠ 5) ∧
    (∃ (x : Xfer) (p : Nat) (s : State), p < 8 ∧ Accepts s x (O.partEnable p) (.num 0) ∧ s.obj (O.partEnable p) = 1) ∧
    (∃ (x : Xfer) (s : State), Accepts s x O.traceEnable (.num 1) ∧ s.obj O.traceEnable = 0 ∧ s.obj O.bootState ≠ 5) ∧
    (∃ (x : Xfer) (s : State), s.ready = true ∧ s.sched.trace ≠ []) :=
  ⟨⟨1, leUnit, leTaken.2.1, leOp, leTaken.2.2, wLe, (decision leUnit 0 (candidatesFor wLe leOp leUnit) wLe).1, by decide +kernel⟩,
   ⟨1, fullUnit, fullOp, wFull, (decision fullUnit 0 (candidatesFor wFull fullOp fullUnit) wFull).1, by decide +kernel⟩,
   ⟨1, 0, { aOp with state := .running }, (withOp 1 { aOp with state := .running } w0), by decide +kernel⟩,
   ⟨1, aOp, (withOp 1 aOp w0), by decide +kernel⟩,
   ⟨1, .ok, { aOp with state := .running, ended := some .ok }, (withOp 1 { aOp with state := .running, ended := some .ok } w0),
       by decide +kernel⟩,
   ⟨1, .fault, { aOp with state := .running, ended := some .fault }, (withOp 1 { aOp with state := .running, ended := some .fault } w0),
       by decide +kernel⟩,
   ⟨1, .tileFault, { aOp with state := .running, ended := some .tileFault },
       (withOp 1 { aOp with state := .running, ended := some .tileFault } w0), by decide +kernel⟩,
   ⟨199, 1535, 3, { w0 with sched := { w0.sched with copies := [(199, [(1535, 3, false)])] } }, by decide +kernel⟩,
   ⟨199, { w0 with sched := { w0.sched with copies := [(199, [(1535, 3, false)])], ops := [(1, { aOp with unit := 199, state := .dispatched, next := true })] } },
       by decide +kernel⟩,
   ⟨x0, 7, w0, by unfold Accepts; decide +kernel⟩,
   ⟨x0, 7, (on [(O.partEnable 7, 1)] w0), by unfold Accepts; decide +kernel⟩,
   ⟨x0, w0, by unfold Accepts; decide +kernel⟩,
   ⟨x0, { w0 with sched := { w0.sched with trace := [[1]] } }, by decide +kernel⟩⟩

/-- Whether no buffer holds three flits on a run of the fabric. -/
def sparse (want : Flit) : Nat → State → Bool
  | 0, _ => true
  | k + 1, s => s.mortar.arrived.any (want.samePacket ·)
      || (s.mortar.flying.all (fun b => decide (b.2.length < 3)) && sparse want k (fabricCycle 3 s))

theorem at_short : ∀ {l : Store (List Flit)}, l.all (fun b => decide (b.2.length < 3)) = true → ∀ k, (Store.at [] l k).length < 3
  | [], _, _ => by simp [Store.at, Store.find]
  | (a, x) :: t, h, k => by
    simp only [List.all_cons, Bool.and_eq_true, decide_eq_true_eq] at h
    by_cases e : a = k
    · simpa [Store.at, Store.find, e] using h.1
    · simpa [Store.at, Store.find, e] using at_short h.2 k

theorem cycle_sparse {s : State} (h : s.mortar.flying.all (fun b => decide (b.2.length < 3)) = true) (d : Nat) :
    fabricCycle (d + 3) s = fabricCycle 3 s := by
  have hc : ∀ f k, hasCredit (d + 3) s.mortar f k = hasCredit 3 s.mortar f k := by
    intro f k
    cases k with
    | none => rfl
    | some k =>
      have := at_short h k
      simp [hasCredit, show ¬ d + 3 ≤ (Store.at [] s.mortar.flying k).length by omega, show ¬ 3 ≤ (Store.at [] s.mortar.flying k).length by omega]
  simp only [fabricCycle, competing, hc]

theorem run_sparse (want : Flit) (d : Nat) : ∀ (k : Nat) (s : State), sparse want k s = true → runFabric (d + 3) want k s = runFabric 3 want k s
  | 0, _, _ => rfl
  | k + 1, s, h => by
    unfold runFabric
    unfold sparse at h
    split
    · rfl
    · next ha =>
      simp only [ha, Bool.false_or, Bool.and_eq_true] at h
      rw [cycle_sparse h.1]
      exact run_sparse want d k _ h.2

/-- A WRITE of two flits reaches its target whatever the depth of the buffers. -/
theorem reaches_two_flits : Reaches w0 ⟨1535, 5, 0x08000000, 1⟩ 1 2 := by
  have h : ∀ d, (transitWith (d + 1) (.packet 1535 (targetPort w0 ⟨1535, 5, 0x08000000, 1⟩) 5 1 0) 2
      (holdRequest (newHeld w0 ⟨1535, 5, 0x08000000, 1⟩ 1 0x08000000 1 (targetPort w0 ⟨1535, 5, 0x08000000, 1⟩)
        (regionDomain (regionOf w0 0x08000000))) w0)).2 = true := by
    intro d
    match d with
    | 0 => decide +kernel
    | 1 => decide +kernel
    | d + 2 =>
      unfold transitWith
      rw [run_sparse _ d _ _ (by decide +kernel)]
      decide +kernel
  exact h Config.vcDepth

/-- The hypotheses of FabricRequests hold together: one state and operands for each clause. -/
theorem witness_FabricRequests :
    (∃ (pkt : Packet) (s : State), packetOk pkt = true ∧ Reaches s pkt 0 1 ∧ fabricAnswer s false pkt.src pkt.addr = .ok ∧ trainingChan s
        pkt.addr = none ∧ (∀ l ∈ packetLines pkt, badByte s l = none) ∧ heldOf s pkt.src pkt.tag = none) ∧
    (∃ (pkt : Packet) (found : List MemError) (s : State), packetOk pkt = true ∧ Reaches s pkt 0 1 ∧ fabricAnswer s false pkt.src pkt.addr
        = .domainAsleep) ∧
    (∃ (pkt : Packet) (s : State), packetOk pkt = true ∧ ¬ Reaches s pkt 0 1) ∧
    (∃ (pkt : Packet) (s : State), packetOk pkt = true ∧ ¬ Reaches s pkt 1 (1 + pkt.lines)) ∧
    (∃ (pkt : Packet) (mask : List Nat) (data : Bytes) (s : State), packetOk pkt = true ∧ Reaches s pkt 1 (1 + pkt.lines) ∧ data.length =
        64 * pkt.lines ∧ fabricAnswer s true pkt.src pkt.addr = .ok ∧ trainingChan s pkt.addr = none ∧ (∀ i, i < pkt.lines → regionOf s
        (pkt.addr + 64 * i) ≠ .feed ∧ regionOf s (pkt.addr + 64 * i) ≠ .nowhere ∧ onLost s (pkt.addr + 64 * i) = false)) ∧
    (∃ (pkt : Packet) (kind : MsgKind) (payload : Nat) (s : State), pkt.src < 1536 ∧ pkt.addr < 1536 ∧ s.runs (stopDomain (portRing
        pkt.addr) (portStopNo pkt.addr)) = true) ∧
    (∃ (src : Nat) (tag : Nat) (line : Nat) (h : Held) (s : State), heldOf s src tag = some h ∧ h.type = 0 ∧ h.resend = false ∧
        (answerArrives h 0 line s).2 = true) ∧
    (∃ (src : Nat) (tag : Nat) (line : Nat) (h : Held) (s : State), heldOf s src tag = some h ∧ h.resend = false ∧ h.retry < 8 ∧ h.type <
        3 ∧ (answerArrives h h.type (if h.type = 0 then line else 0) s).2 = true) ∧
    (∃ (src : Nat) (tag : Nat) (h : Held) (s : State), heldOf s src tag = some h ∧ h.resend = false ∧ s.hod.halting = [] ∧ (answerArrives
        h h.type 0 s).2 = true ∧ h.type = 1) ∧
    (∃ (src : Nat) (tag : Nat) (h : Held) (s : State), heldOf s src tag = some h ∧ h.resend = false ∧ s.hod.halting = [] ∧ (answerArrives
        h h.type 0 s).2 = true ∧ h.type = 2 ∧ h.lines = 1) ∧
    (∃ (src : Nat) (tag : Nat) (h : Held) (s : State), heldOf s src tag = some h ∧ h.resend = true) ∧
    (∃ (src : Nat) (tag : Nat) (u : Nat) (h : Held) (c : Ctx) (s : State), heldOf s src tag = some h ∧ h.resend = false ∧ h.type ≠ 2 ∧
        s.hod.halting = [] ∧ hodAt h.src = none ∧ tileAt h.src = some u ∧ OnSlot s u c) :=
  ⟨⟨⟨1535, 5, 0x08000000, 4⟩, w0, by unfold Reaches; decide +kernel⟩,
   ⟨⟨1535, 5, 0x08000000, 4⟩, [], (on [(O.domainState 31, 2)] w0), by unfold Reaches; decide +kernel⟩,
   ⟨⟨1535, 5, 0x08000000, 1⟩, (on [(O.ringState 7, 1)] w0), by decide +kernel,
       by unfold Reaches; rw [transit_held _ _ _ (by decide +kernel) (by decide +kernel)]; decide⟩,
   ⟨⟨1535, 5, 0x08000000, 1⟩, (on [(O.ringState 7, 1)] w0), by decide +kernel,
       by unfold Reaches; rw [transit_held _ _ _ (by decide +kernel) (by decide +kernel)]; decide⟩,
   ⟨⟨1535, 5, 0x08000000, 1⟩, (List.range 64), (List.replicate 64 7), w0, by decide +kernel, reaches_two_flits, by decide +kernel⟩,
   ⟨⟨1535, 5, 1535, 1⟩, .other, 0, w0, by decide +kernel⟩,
   ⟨0, 5, 0, (aHeld 0 0 false), (withHeld (aHeld 0 0 false)), by decide +kernel⟩,
   ⟨0, 5, 0, (aHeld 0 0 false), (withHeld (aHeld 0 0 false)), by decide +kernel⟩,
   ⟨0, 5, (aHeld 0 1 false), (withHeld (aHeld 0 1 false)), by decide +kernel⟩,
   ⟨0, 5, (aHeld 0 2 false), (withHeld (aHeld 0 2 false)), by decide +kernel⟩,
   ⟨0, 5, (aHeld 0 0 true), (withHeld (aHeld 0 0 true)), by decide +kernel⟩,
   ⟨12, 5, 0, (aHeld 12 1 false), aCtx, { withHeld (aHeld 12 1 false) with tiles := [(0, aCtx)] }, by unfold OnSlot; decide +kernel⟩⟩

/-- The hypotheses of RingsAndArbiters hold together: one state and operands for each clause. -/
theorem witness_RingsAndArbiters :
    (∃ (ring : Nat) (stop : Nat) (lock : Bool) (s : State), ring < 8 ∧ stop < 48 ∧ s.obj (O.ringState ring) = 0) ∧
    (∃ (ring : Nat) (stop : Nat) (lock : Bool) (s : State), ring < 8 ∧ stop < 48 ∧ s.obj (O.ringState ring) = 2 ∧
        s.nat (O.faultStop ring) ≠ stop) ∧
    (∃ (ring : Nat) (stop : Nat) (flits : Nat) (s : State), ring < 8 ∧ stop < 48 ∧ s.obj (O.ringState ring) = 1) ∧
    (∃ (ring : Nat) (s : State), ring < 8 ∧ s.obj (O.ringState ring) = 1) ∧
    (∃ (ring : Nat) (s : State), ring < 8 ∧ s.obj (O.ringState ring) = 2) ∧
    (∃ (ring : Nat) (s : State) (g : Nat), ring < 8 ∧ s.obj (O.ringState ring) = 3 ∧ Store.find s.units.second ring = some g) ∧
    (∃ (ring : Nat) (s : State) (stop : Nat), ring < 8 ∧ stop < 48) ∧
    (∃ (ring : Nat) (stop : Nat) (lock : Bool) (s : State), ring < 8 ∧ stop < 48 ∧ s.obj (O.ringState ring) = 1 ∧
        s.nat (O.faultStop ring) ≠ stop) ∧
    (∃ (ring : Nat) (stop : Nat) (lock : Bool) (s : State), ring < 8 ∧ stop < 48 ∧ s.obj (O.ringState ring) = 2 ∧
        s.nat (O.faultStop ring) = stop) ∧
    (∃ (ring : Nat) (stop : Nat) (flits : Nat) (s : State), ring < 8 ∧ stop < 48 ∧ s.obj (O.ringState ring) ≠ 1) ∧
    (∃ (x : Xfer) (mc : Bool) (data : Bytes) (s : State), Accepts s x (if mc = true then O.mcArbTable else O.arbTable) (.bytes data) ∧
        (3 < bytesAt data 0 1 ∨ bytesAt data 1 3 ≠ 0)) ∧
    (∃ (mc : Bool) (s : State), s.airRunning = false) ∧
    (∃ (x : Xfer) (mc : Bool) (data : Bytes) (s : State), Accepts s x (if mc = true then O.mcArbTable else O.arbTable) (.bytes data) ∧
        bytesAt data 0 1 ≤ 3 ∧ bytesAt data 1 3 = 0) ∧
    (∃ (x : Xfer) (mc : Bool) (s : State), Accepts s x (if mc = true then O.mcArbCommit else O.arbCommit) (.num 1)) ∧
    (∃ (mc : Bool) (s : State), s.airRunning = true) ∧
    (∃ (mc : Bool) (s : State), Store.rising (if mc = true then s.mortar.mc else s.mortar.arbs) = true) ∧
    (∃ (s : State), s.airRunning = true) :=
  ⟨⟨7, 47, true, w0, by decide +kernel⟩,
   ⟨7, 47, true, (on [(O.faultStop 7, 3)] (on [(O.ringState 7, 2)] w0)), by decide +kernel⟩,
   ⟨7, 47, 9, (on [(O.ringState 7, 1)] w0), by decide +kernel⟩,
   ⟨7, (on [(O.ringState 7, 1)] w0), by decide +kernel⟩,
   ⟨7, (on [(O.ringState 7, 2)] w0), by decide +kernel⟩,
   ⟨7, { (on [(O.ringState 7, 3)] w0) with units := { w0.units with second := [(7, 9)] } }, 9, by decide +kernel⟩,
   ⟨7, w0, 47, by decide +kernel⟩,
   ⟨7, 47, false, (on [(O.ringState 7, 1)] w0), by decide +kernel⟩,
   ⟨7, 47, false, (on [(O.faultStop 7, 47)] (on [(O.ringState 7, 2)] w0)), by decide +kernel⟩,
   ⟨7, 47, 9, w0, by decide +kernel⟩,
   ⟨x0, false, 4 :: arbFactory.drop 1, w0, by unfold Accepts; decide +kernel⟩,
   ⟨true, on [(O.timeValid, 0)] w0, by decide +kernel⟩,
   ⟨x0, false, arbFactory, w0, by unfold Accepts; decide +kernel⟩,
   ⟨x0, true, w0, by unfold Accepts; decide +kernel⟩,
   ⟨true, w0, by decide +kernel⟩,
   ⟨true, w0, by decide +kernel⟩,
   ⟨w0, by decide +kernel⟩⟩

/-- The hypotheses of ChannelsAndRebuilds hold together: one state and operands for each clause. -/
theorem witness_ChannelsAndRebuilds :
    (∃ (ch : Nat) (addr : Nat) (n : Nat) (s : State), ch < 16 ∧ (s.obj (O.chState ch) = 2 ∨ s.obj (O.chState ch) = 1) ∧
        (Store.find s.integ.edc ch = some (addr, n) ∨ (n = 0 ∧ ∀ a m, Store.find s.integ.edc ch = some (a, m) → a ≠ addr))) ∧
    (∃ (ch : Nat) (s : State), ch < 16 ∧ s.obj (O.chState ch) = 1) ∧
    (∃ (ch : Nat) (src : Nat) (tag : Nat) (q : Queued) (s : State), ch < 16 ∧
        s.mortar.queued.find? (fun q => q.chan == ch && q.src == src && q.tag == tag) = some q) ∧
    (∃ (ch : Nat) (cause : LossCause) (s : State), ch < 16 ∧ s.obj (O.chState ch) ≠ 0 ∧ s.obj (O.chState ch) ≠ 4 ∧
        lossHolds s ch cause = true) ∧
    (∃ (ch : Nat) (cause : LossCause) (s : State), ch < 16 ∧ s.obj (O.chState ch) ≠ 0 ∧ s.obj (O.chState ch) ≠ 4 ∧
        lossHolds s ch cause = false) ∧
    (∃ (s : State), s.integ.toBuild ≠ [] ∧ s.integ.mirror = false ∧ s.integ.afterWarm = false ∧ s.obj O.memRegime = 3) ∧
    (∃ (c : Nat) (s : State), s.integ.mirror = true ∧ s.integ.standby = some c) :=
  ⟨⟨15, 64, 0, (on [(O.chState 15, 2)] w0), by decide +kernel, by decide +kernel, .inr ⟨rfl, fun _ _ h => nomatch h⟩⟩,
   ⟨15, (on [(O.chState 15, 1)] w0), by decide +kernel⟩,
   ⟨15, 3, 4, ⟨15, 3, 4, 0, [], [], []⟩, { w0 with mortar := { w0.mortar with queued := [⟨15, 3, 4, 0, [], [], []⟩] } }, by decide +kernel⟩,
   ⟨15, .retraining, (on [(O.chState 15, 1)] w0), by decide +kernel⟩,
   ⟨15, .burst, (on [(O.chState 15, 2)] w0), by decide +kernel⟩,
   ⟨{ on [(O.memRegime, 3)] w0 with integ := { w0.integ with toBuild := [1] } }, by decide +kernel⟩,
   ⟨4, { w0 with integ := { w0.integ with mirror := true, standby := some 4 } }, by decide +kernel⟩⟩

/-- The hypotheses of ScrubsAndRetirement hold together: one state and operands for each clause. -/
theorem witness_ScrubsAndRetirement :
    (∃ (ch : Nat) (lines : Nat) (s : State), ch < 16 ∧ s.chanServes ch = true ∧ s.runs (26 + ch / 4) = true ∧ 0 < lines ∧
        (∀ a ∈ s.integ.poison, regionOf s a ≠ .chan ch)) ∧
    (∃ (k : Nat) (bit : Nat) (e : MemError) (s : State), k < 24 ∧ s.runs 31 = true ∧ bitOf s.units.slices k = true ∧
        regionOf s e.addr = .store k ∧ e.bit = some bit ∧ s.obj O.memRegime = 0 ∧ isRepeat s e.addr = false ∧ (∀ a ∈ s.integ.poison,
        regionOf s a ≠ .store k)) ∧
    (∃ (k : Nat) (e : MemError) (s : State), k < 24 ∧ s.runs 31 = true ∧ bitOf s.units.slices k = true ∧ regionOf s e.addr = .store k ∧
        e.bit = none ∧ (∀ a ∈ s.integ.poison, regionOf s a ≠ .store k)) ∧
    (∃ (u : Nat) (s : State), u < 200 ∧ s.runs (2 + u / 20) = true) ∧
    (∃ (s : State), Store.rising s.integ.buckets = true) ∧
    (∃ (x : Xfer) (data : Bytes) (s : State), Accepts s x O.retiredPages (.bytes data) ∧ data.length % 4 = 0 ∧ data.length ≤ 4096) ∧
    (∃ (x : Xfer) (data : Bytes) (s : State), Accepts s x O.retiredBanks (.bytes data)) ∧
    (∃ (x : Xfer) (oldest : Bytes) (rest : List Bytes) (s : State), s.ready = true ∧ s.integ.log = oldest :: rest) :=
  ⟨⟨15, 64, (on [(O.chState 15, 2)] w0), by decide +kernel⟩,
   ⟨23, 3, ⟨0x08000000 + 23 * 0x01000000, 0, some 3, false⟩, (on [(O.memRegime, 0)] w0), by decide +kernel⟩,
   ⟨23, ⟨0x08000000 + 23 * 0x01000000, 0, none, false⟩, w0, by decide +kernel⟩,
   ⟨199, w0, by decide +kernel⟩,
   ⟨w0, by decide +kernel⟩,
   ⟨x0, [1, 0, 0, 0], w0, by unfold Accepts; decide +kernel⟩,
   ⟨x0, (List.replicate 32 0), w0, by unfold Accepts; decide +kernel⟩,
   ⟨x0, [1], [[2]], { w0 with integ := { w0.integ with log := [[1], [2]] } }, by decide +kernel⟩⟩

/-- The hypotheses of HodChains hold together: one state and operands for each clause. -/
theorem witness_HodChains :
    (∃ (e : Nat) (k : Nat) (c : Chain) (s : State), e < 24 ∧ k < 16 ∧ runningChain s (e * 16 + k) = some c ∧
        (movePieces c.cur (Descriptor.pieces c.cur) s).fail = none) ∧
    (∃ (e : Nat) (k : Nat) (c : Chain) (answer : Status) (s : State), e < 24 ∧ k < 16 ∧ runningChain s (e * 16 + k) = some c ∧
        (movePieces c.cur (Descriptor.pieces c.cur) s).fail = some answer) ∧
    (∃ (e : Nat) (k : Nat) (status : Nat) (c : Chain) (s : State), e < 24 ∧ k < 16 ∧ Store.find s.hod.chains (e * 16 + k) = some c ∧
        c.status = some status ∧ Store.find s.hod.halting e = none) ∧
    (∃ (e : Nat) (since : Nat) (pass : Bool) (s : State), e < 24 ∧ Store.find s.hod.halted e = some since) ∧
    (∃ (x : Xfer) (e : Nat) (s : State), e < 24 ∧ Accepts s x O.hodRelease (.num e)) ∧
    (∃ (x : Xfer) (s : State), Accepts s x O.diagStart (.num 1) ∧ ([20, 21, 22, 23].any s.hodRuns = true)) ∧
    (∃ (x : Xfer) (s : State), Accepts s x O.diagStart (.num 1) ∧ ([20, 21, 22, 23].any s.hodRuns = false)) ∧
    (∃ (x : Xfer) (s : State), Accepts s x O.diagStop (.num 1)) :=
  ⟨⟨23, 15, aChain, (withChain aChain), by decide +kernel⟩,
   ⟨23, 15, badChain, .unmapped, (withChain badChain), by decide +kernel⟩,
   ⟨23, 15, 3, { aChain with status := some 3 }, (withChain { aChain with status := some 3 }), by decide +kernel⟩,
   ⟨23, 0, true, { w0 with hod := { w0.hod with halted := [(23, 0)] } }, by decide +kernel⟩,
   ⟨x0, 23, w0, by unfold Accepts; decide +kernel⟩,
   ⟨x0, (on [(O.hodService, 2 ^ 24 - 1), (O.hodHaltedMap, 2 ^ 23)] w0), by unfold Accepts; decide +kernel⟩,
   ⟨x0, (on [(O.hodHaltedMap, 0xF00000)] w0), by unfold Accepts; decide +kernel⟩,
   ⟨x0, w0, by unfold Accepts; decide +kernel⟩⟩

/-- The hypotheses of GuardChecks hold together: one state and operands for each clause. -/
theorem witness_GuardChecks :
    (∃ (s : State), s.guard.synth = []) ∧
    (∃ (m : Mute) (s : State), s.guard.mutes.find? (fun m => !m.complete) = some m ∧ m.fresh ≠ []) ∧
    (∃ (n : Nat) (ok : Bool) (c : Copy) (s : State), n < 64 ∧ Store.find s.guard.copies n = some c) ∧
    (∃ (c : Nat) (s : State), c < 128 ∧ s.chainCarrier c < 64 ∧ (8, c) ∉ s.guard.synth) ∧
    (∃ (n : Nat) (power : Int) (s : State), n < 64 ∧ s.obj (O.carrierEnable n) ≠ 0 ∧ s.obj (O.fhDomain n) = 1 ∧ (5, n) ∉ s.guard.synth) ∧
    (∃ (pass : Bool) (s : State), s.obj O.guardState = 0 ∧ s.boot.powered = true) ∧
    (∃ (x : Xfer) (v : Int) (scope : Nat) (unit : Nat) (m : Mute) (s : State), Accepts s x O.muteRelease (.num v) ∧ ((v = 0xFFFF ∧ scope = 3 ∧
        unit = 0xFFFF) ∨ (scope = 0 ∧ unit < 64 ∧ v = unit) ∨ (scope = 1 ∧ unit < 24 ∧ v = 0x100 + unit) ∨ (scope = 2 ∧ unit < 128 ∧
        v = 0x200 + unit)) ∧ s.guard.mutes.find? (fun m => sameScope s m.scope m.unit scope unit) = some m ∧ m.complete = true ∧
        m.last ≠ (advance s x.dt).clock.ticks) ∧
    (∃ (x : Xfer) (s : State), Accepts s x O.guardResync (.num 1)) ∧
    (∃ (x : Xfer) (oldest : Bytes) (rest : List Bytes) (s : State), s.ready = true ∧ s.guard.log = oldest :: rest) :=
  ⟨⟨w0, by decide +kernel⟩,
   ⟨(aMute false), (withMute false), by decide +kernel⟩,
   ⟨63, true, (workingCopy 63 w0), { w0 with guard := { w0.guard with copies := [(63, workingCopy 63 w0)] } }, by decide +kernel⟩,
   ⟨127, (on [(O.dfeUser 127, 63)] w0), by decide +kernel⟩,
   ⟨63, 0, (on [(O.carrierEnable 63, 1), (O.fhDomain 63, 1)] w0), by decide +kernel⟩,
   ⟨true, w0, by decide +kernel⟩,
   ⟨x0, 5, 0, 5, (aMute true), (withMute true), by unfold Accepts; decide +kernel⟩,
   ⟨x0, w0, by unfold Accepts; decide +kernel⟩,
   ⟨x0, [1], [[2]], { w0 with guard := { w0.guard with log := [[1], [2]] } }, by decide +kernel⟩⟩

/-- The hypotheses of FaultsAndInjection hold together: one state and operands for each clause. -/
theorem witness_FaultsAndInjection :
    (∃ (c : Nat) (s : State), c < 128 ∧ (s.chain c).faulted = false) ∧
    (∃ (k : Nat) (s : State), k < 24 ∧ bitOf s.units.slices k = true) ∧
    (∃ (n : Nat) (s : State), n < 4 ∧ bitOf s.units.cores n = true ∧ setBit s.units.cores n false ≠ 0) ∧
    (∃ (n : Nat) (s : State), n < 4 ∧ bitOf s.units.cores n = true ∧ setBit s.units.cores n false = 0 ∧ s.obj O.bootState = 4 ∧
        s.svc.held = []) ∧
    (∃ (x : Xfer) (v : Int) (s : State), Accepts s x O.unitRetire (.num v)) ∧
    (∃ (x : Xfer) (s : State), Accepts s x O.faultClear (.num 1)) ∧
    (∃ (x : Xfer) (s : State), Accepts s x O.injArm (.num 1)) ∧
    (∃ (x : Xfer) (s : State), Accepts s x O.injRestore (.num 1)) :=
  ⟨⟨127, w0, by decide +kernel⟩,
   ⟨23, w0, by decide +kernel⟩,
   ⟨3, w0, by decide +kernel⟩,
   ⟨3, { w0 with units := { w0.units with cores := 8 } }, by decide +kernel⟩,
   ⟨x0, 0xFFFF, w0, by unfold Accepts; decide +kernel⟩,
   ⟨x0, w0, by unfold Accepts; decide +kernel⟩,
   ⟨x0, w0, by unfold Accepts; decide +kernel⟩,
   ⟨x0, w0, by unfold Accepts; decide +kernel⟩⟩

/-- The hypotheses of PowerDomains hold together: one state and operands for each clause. -/
theorem witness_PowerDomains :
    (∃ (x : Xfer) (d : Nat) (v : Int) (s : State), d < 32 ∧ Accepts s x (O.hostVote d) (.num v)) ∧
    (∃ (tag : Nat) (o : Op) (s : State), s.op tag = some o ∧ o.state = .dispatched) ∧
    (∃ (d : Nat) (s : State), d < 32) ∧
    (∃ (d : Nat) (m : Transition) (s : State), d < 32 ∧ Store.find s.power.moving d = some m ∧ s.obj (O.domainState d) = 4) ∧
    (∃ (d : Nat) (m : Transition) (s : State), d < 32 ∧ Store.find s.power.moving d = some m ∧ s.obj (O.domainState d) = 5) ∧
    (∃ (e : Exchange) (s : State), s.power.rail.run = some e ∧ e.acked = none ∧ e.again = none) ∧
    (∃ (e : Exchange) (a : Nat) (s : State), s.power.rail.run = some e ∧ e.acked = some a) ∧
    (∃ (s : State) (e : Exchange) (u : Nat), s.power.rail.run = some e ∧ e.again = some u) ∧
    (∃ (s : State) (target : Nat) (u : Nat), s.power.rail.run = none ∧ s.power.rail.failed = some (target, u)) ∧
    (∃ (readings : List (Nat × Nat × Int)) (s : State), readings.length = 3 ∧ s.power.rail.run = none) :=
  ⟨⟨x0, 31, 4, w0, by unfold Accepts; decide +kernel⟩,
   ⟨1, { aOp with state := .dispatched, unit := 199 }, (withOp 1 { aOp with state := .dispatched, unit := 199 } w0), by decide +kernel⟩,
   ⟨31, w0, by decide +kernel⟩,
   ⟨31, ⟨0, 3, 0⟩, { on [(O.domainState 31, 4)] w0 with power := { w0.power with moving := [(31, ⟨0, 3, 0⟩)] } }, by decide +kernel⟩,
   ⟨31, ⟨3, 0, 0⟩, { on [(O.domainState 31, 5)] w0 with power := { w0.power with moving := [(31, ⟨3, 0, 0⟩)] } }, by decide +kernel⟩,
   ⟨⟨800, 8, 0, none, none, 0⟩, { w0 with power := { w0.power with rail := ⟨700, some ⟨800, 8, 0, none, none, 0⟩, none, false, 10⟩ } },
       by decide +kernel⟩,
   ⟨⟨800, 8, 0, none, some 3, 4⟩, 3, { w0 with power := { w0.power with rail := ⟨700, some ⟨800, 8, 0, none, some 3, 4⟩, none, false, 10⟩ } },
       by decide +kernel⟩,
   ⟨{ w0 with power := { w0.power with rail := ⟨700, some ⟨800, 8, 0, some 9, none, 0⟩, none, false, 10⟩ } }, ⟨800, 8, 0, some 9, none, 0⟩, 9,
       by decide +kernel⟩,
   ⟨{ w0 with power := { w0.power with rail := ⟨700, none, some (800, 9), true, 10⟩ } }, 800, 9, by decide +kernel⟩,
   ⟨[(800, 100, 450), (900, 200, 500), (850, 10, -5)], w0, by decide +kernel⟩⟩

/-- The hypotheses of WatchMode hold together: one state and operands for each clause. -/
theorem witness_WatchMode :
    (∃ (x : Xfer) (s : State), Accepts s x O.watchEnable (.num 1) ∧ s.obj O.watchEnable = 0 ∧ s.obj O.bootState ≠ 5) ∧
    (∃ (x : Xfer) (v : Int) (s : State), s.obj O.watchState ≠ 0) ∧
    (∃ (k : Nat) (bytes : Nat) (s : State), k < 8 ∧ s.asleep = true ∧ s.obj (O.wcKind k) = 2 ∧ s.nat (O.wcCarrier k) < 64 ∧
        s.airRunning = true) ∧
    (∃ (s : State), canWake s = true ∧ captures s ≠ [] ∧ s.svc.held = []) ∧
    (∃ (k : Nat) (s : State), k < 8 ∧ s.power.watch.awake = true ∧ k ∈ s.power.watch.left ∧ k ∉ s.power.watch.opened) ∧
    (∃ (k : Nat) (s : State), k < 8 ∧ k ∈ s.power.watch.opened) ∧
    (∃ (s : State), s.obj O.watchState = 6 ∧ s.obj O.watchEnable = 3 ∧ s.svc.held = []) :=
  ⟨⟨x0, w0, by unfold Accepts; decide +kernel⟩,
   ⟨x0, 0, (on [(O.watchState, 2)] w0), by decide +kernel⟩,
   ⟨7, 100, (on [(O.watchState, 2), (O.wcKind 7, 2), (O.wcCarrier 7, 63)] w0), by decide +kernel⟩,
   ⟨(on [(O.watchState, 2), (O.wcKind 7, 1)] w0), by decide +kernel⟩,
   ⟨7, (on [] { w0 with power := { w0.power with watch := { w0.power.watch with awake := true, left := [7] } } }), by decide +kernel⟩,
   ⟨7, (on [] { w0 with power := { w0.power with watch := { w0.power.watch with awake := true, left := [7], opened := [7] } } }),
       by decide +kernel⟩,
   ⟨(on [(O.watchState, 6), (O.watchEnable, 3)] w0), by decide +kernel⟩⟩

/-- The hypotheses of Resets hold together: one state and operands for each clause. -/
theorem witness_Resets :
    (∃ (lowNs : Nat) (s : State), s.svc.held = []) ∧
    (∃ (x : Xfer) (s : State), Quiet s ∧ s.obj O.sessionState = 1 ∧ s.obj O.bootState = 4) ∧
    (∃ (s : State), s.svc.held = []) ∧
    (∃ (rail : Nat) (lowNs : Nat) (mv : Nat) (s : State), rail < 5) ∧
    (∃ (ch : Nat) (temp : Int) (s : State), ch < 16) ∧
    (∃ (chan : Nat) (v : Verdict) (rest : List JournalWrite) (s : State), s.link.journal = .verdict chan v :: rest ∧ (∀ k ∈ (s.chan
        chan).claims, k.req.hdr.seq ≠ v.seq)) :=
  ⟨⟨10000, w0, by decide +kernel⟩,
   ⟨x0, w0, by unfold Quiet; decide +kernel⟩,
   ⟨(on [(O.bootState, 3)] w0), by decide +kernel⟩,
   ⟨4, 1001, 1700, w0, by decide +kernel⟩,
   ⟨15, -400, (on [(O.chState 15, 2)] w0), by decide +kernel⟩,
   ⟨64, ⟨1, 0, 0, 0, 0, .ok, 0, 0, 0⟩, [], { w0 with link := { w0.link with journal := [.verdict 64 ⟨1, 0, 0, 0, 0, .ok, 0, 0, 0⟩] } },
       by decide +kernel⟩⟩

/-- The hypotheses of UpdateAndIdentity hold together: one state and operands for each clause. -/
theorem witness_UpdateAndIdentity :
    (∃ (x : Xfer) (s : State), Accepts s x O.imgErase (.num 1)) ∧
    (∃ (x : Xfer) (s : State), Accepts s x O.imgVerify (.num 1)) ∧
    (∃ (x : Xfer) (data : Bytes) (s : State), Accepts s x O.imgData (.bytes data)) ∧
    (∃ (u : Update) (s : State), s.boot.update = some u) ∧
    (∃ (x : Xfer) (s : State), Accepts s x O.imgActivate (.num 1)) ∧
    (∃ (x : Xfer) (s : State), Accepts s x O.imgConfirm (.num 1) ∧ s.boot.slot < 2) ∧
    (∃ (x : Xfer) (s : State), Accepts s x O.rollbackCommit (.num 1)) ∧
    (∃ (i : SiteImage) (s : State), s.boot.burning = true ∧ s.boot.image = some i) ∧
    (∃ (x : Xfer) (s : State), Accepts s x O.attestRequest (.num 1)) ∧
    (∃ (s : State), s.boot.signing = true) ∧
    (∃ (x : Xfer) (hash : Bytes) (s : State), Accepts s x O.ownerProgram (.bytes hash)) ∧
    (∃ (x : Xfer) (data : Bytes) (s : State), Accepts s x O.debugToken (.bytes data)) ∧
    (∃ (x : Xfer) (s : State), Accepts s x O.debugClose (.num 1)) :=
  ⟨⟨x0, w0, by unfold Accepts; decide +kernel⟩,
   ⟨x0, w0, by unfold Accepts; decide +kernel⟩,
   ⟨x0, [1], w0, by unfold Accepts; decide +kernel⟩,
   ⟨.erase, { w0 with boot := { w0.boot with update := some .erase } }, by decide +kernel⟩,
   ⟨x0, w0, by unfold Accepts; decide +kernel⟩,
   ⟨x0, w0, by unfold Accepts; decide +kernel⟩,
   ⟨x0, w0, by unfold Accepts; decide +kernel⟩,
   ⟨⟨0, 0, 1, 0, 1, [], [], [], []⟩, { w0 with boot := { w0.boot with burning := true, image := some ⟨0, 0, 1, 0, 1, [], [], [], []⟩ } },
       by decide +kernel⟩,
   ⟨x0, w0, by unfold Accepts; decide +kernel⟩,
   ⟨{ w0 with boot := { w0.boot with signing := true } }, by decide +kernel⟩,
   ⟨x0, (List.replicate 32 1), w0, by unfold Accepts; decide +kernel⟩,
   ⟨x0, (List.replicate 5460 0),
       { w0 with svc := { w0.svc with buffer := some ⟨O.debugToken, 0, 5460, List.replicate (lastOffset 5460) 0, 0⟩ } },
       by unfold Accepts; decide +kernel⟩,
   ⟨x0, w0, by unfold Accepts; decide +kernel⟩⟩

/-- The hypotheses of StepRunsFront hold together: one state and operands for each clause. -/
theorem witness_StepRunsFront :
    (∃ (s : State), s.pending = []) :=
  ⟨w0, by decide +kernel⟩

/-- The hypotheses of ResetState hold together: one state and operands for each clause. -/
theorem witness_ResetState :
    (∃ (n : Nat), n < 64) ∧
    (∃ (p : Nat), p < 24) :=
  ⟨⟨63, by decide +kernel⟩,
   ⟨23, by decide +kernel⟩⟩

/-- The hypotheses of StepKeepsCanonical hold together: one state and operands for each clause. -/
theorem witness_StepKeepsCanonical :
    (∃ (s : State) (t : State), Canonical s ∧ step s = .next t) :=
  ⟨State.reset, (advance State.reset 1), by unfold Canonical; decide +kernel, rfl⟩

/-- The hypotheses of CommandsComplete hold together: one state and operands for each clause. -/
theorem witness_CommandsComplete :
    (∃ (i : Instr) (s : State), i.wf = true) ∧
    (∃ (i : Instr) (s : State) (f : Fault), exec i s = .fault f) ∧
    (∃ (i : Instr) (s : State) (t : State), exec i s = .next t) :=
  ⟨⟨(.hostVote x0 31 4), w0, by decide +kernel⟩,
   ⟨(.coefFadeEnd 128), w0, .noSuchUnit, rfl⟩,
   ⟨.jtagBypass, w0, _, rfl⟩⟩

/-- The hypotheses of TimeAndLinkForms hold together: one state and operands for each clause. -/
theorem witness_TimeAndLinkForms :
    (∃ (dt : Nat) (p : Nat) (h : PtpHead) (m : PtpMsg) (s : State), p < 24) ∧
    (∃ (p : Nat) (via : PtpOver) (m : PtpTx) (s : State), p < 24) ∧
    (∃ (out : Nat) (s : State), out < 2) ∧
    (∃ (dt : Nat) (m : Nat) (vendor : Nat) (code : Nat) (data : Bytes) (s : State), m < 2) ∧
    (∃ (dt : Nat) (m : Nat) (units : Bytes) (s : State), m < 2) ∧
    (∃ (dt : Nat) (seq : Nat) (hostId : Nat) (credits : List Nat) (entries : List ResumeEntry) (s : State), s.ready = true) ∧
    (∃ (index : Nat) (sub : Nat) (s : State), s.svc.held = []) ∧
    (∃ (x : Xfer) (s : State), s.ready = true) :=
  ⟨⟨0, 23, okP, .delayReq 0 0, w0, by decide⟩,
   ⟨23, .udp6 0, .announce, w0, by decide⟩,
   ⟨1, w0, by decide⟩,
   ⟨0, 1, 0x5A1C, 0, [], w0, by decide⟩,
   ⟨0, 1, badUnit 0xFF 31, w0, by decide⟩,
   ⟨0, 1, 5, [], [], w0, by decide +kernel⟩,
   ⟨0x2810, 1, w0, by decide +kernel⟩,
   ⟨x0, w0, by decide +kernel⟩⟩

/-- The hypotheses of AirAndTileForms hold together: one state and operands for each clause. -/
theorem witness_AirAndTileForms :
    (∃ (dt : Nat) (p : Nat) (f : Frame) (s : State), p < 24) ∧
    (∃ (dt : Nat) (p : Nat) (m : IqMsg) (s : State), p < 24) ∧
    (∃ (x : Xfer) (data : Bytes) (s : State), Accepts s x O.fwdRules (.bytes data)) ∧
    (∃ (x : Xfer) (c : Nat) (p : Path) (data : Bytes) (s : State), c < 128) ∧
    (∃ (n : Nat) (s : State), n < 64) ∧
    (∃ (g : Nat) (active : Bool) (s : State), g < 16) ∧
    (∃ (t : Nat) (s : State), t < 200) ∧
    (∃ (t : Nat) (gd : Nat) (ga : Nat) (cls : Nat) (sizes : List Nat) (s : State) (c : Ctx), OnSlot s t c ∧ cls < 4 ∧ gd < 32 ∧ ga < 32) ∧
    (∃ (t : Nat) (slot : Nat) (result : Bytes) (outputs : List (Nat × Bytes)) (s : State), t < 200) ∧
    (∃ (ring : Nat) (stop : Nat) (flits : Nat) (lock : Bool) (s : State), ring < 8 ∧ stop < 48) :=
  ⟨⟨0, 23, okF, w0, by decide⟩,
   ⟨0, 23, okQ, w0, by decide⟩,
   ⟨x0, List.replicate 24 0, w0, by unfold Accepts; decide +kernel⟩,
   ⟨x0, 127, .tx, [], w0, by decide⟩,
   ⟨63, w0, by decide⟩,
   ⟨15, true, w0, by decide⟩,
   ⟨199, w0, by decide⟩,
   ⟨199, 1, 2, 1, [], (withTask 199 aCtx w0), aCtx, by unfold OnSlot; decide +kernel⟩,
   ⟨199, 7, [], [], w0, by decide⟩,
   ⟨7, 47, 9, true, w0, by decide⟩⟩

/-- The premises inside TimeAndLinkForms that no other witness meets: a time of day with TOD_LABEL 1, a port in SLAVE, data that does not complete
a request, a message of channel 0 of which a part has arrived, and a RESUME without a session. -/
theorem witness_TimeAndLinkForms_inner :
    (∃ (dt : Nat) (frame : Bytes) (s : State) (second : Int) (off : Option Int) (locked : Bool),
        todOf (advance s dt) frame = some (second, off, locked) ∧ s.obj O.todLabel = 1) ∧
    (∃ (dt p : Nat) (h : PtpHead) (s : State), p < 24 ∧ ptpRuns s p = true ∧ ptpHeard s h = true ∧ ptpState (advance s dt) p = 9 ∧
        ((advance s dt).ptpPort p).hears h.sender = true) ∧
    (∃ (p r : Nat) (via : PtpOver) (s : State), p < 24 ∧ ptpRuns s p = true ∧ viaFits s via = true ∧ ptpRate s p via .announce = some r ∧
        ptpState (advanceTicks s (ptpDue s p via .announce r)) p = 6 ∧ ptpSourced (advanceTicks s (ptpDue s p via .announce r)) = true) ∧
    (∃ (h : CourseHdr) (offset : Nat) (data : Bytes) (r : Request) (s : State), 1 ≤ h.chan ∧ h.chan ≤ 64 ∧ h.length = 64 + pad8 data.length ∧
        h.length ≤ 65600 ∧ s.obj O.sessionState = 1 ∧ (s.chan h.chan).takeover = false ∧ (s.chan h.chan).req = some r ∧ r.hdr.chan = h.chan ∧
        belongs h offset data.length r = true ∧ r.got + data.length ≠ r.tbBytes) ∧
    (∃ (m : Nat) (data : Bytes) (s : State), m < 2 ∧ delimits (bytesAt (s.link.side m ++ data) 4 4) = true ∧
        (s.link.side m ++ data).length < bytesAt (s.link.side m ++ data) 4 4) ∧
    (∃ (hostId : Nat) (s : State), s.ready = true ∧ hostId ≠ 0 ∧ s.obj O.sessionState = 0) :=
  ⟨⟨0, todFrame, on [(O.todLabel, 1), (O.todFormat, 1)] w0, 37, some 37, true, by decide +kernel⟩,
   ⟨0, 23, ⟨.udp6 9, 44, 2⟩, on [(O.ptpRole, 1), (O.portPtpRole 23, 2), (O.portEnable 23, 1), (O.ptpProfile, 2), (O.ptpDomain, 44)]
      { w0 with time := { w0.time with ptp := [(23, { PtpPort.idle with best := some ⟨⟨6, 0x21, 0x4E5D, 128, 1, 0⟩, 2⟩ })] } },
      by decide +kernel⟩,
   ⟨23, 8, .ethernet 0x0180C200000E, on [(O.ptpRole, 3), (O.portPtpRole 23, 1), (O.portEnable 23, 1), (O.ptpProfile, 1), (O.selectedSource, 1)] w0, by decide +kernel⟩,
   ⟨{ h0 with length := 72 }, 0, [1], ⟨0, { h0 with length := 72 }, 2, [], 0, [], 0⟩,
      withChan 1 { Channel.fresh with req := some ⟨0, { h0 with length := 72 }, 2, [], 0, [], 0⟩ } w0, by decide +kernel⟩,
   ⟨1, (badUnit 0xFF 32).take 8, w0, by decide +kernel⟩,
   ⟨5, on [(O.sessionState, 0)] w0, by decide +kernel⟩⟩

/-- The premises inside AirAndTileForms that no other witness meets: a frame of MAC control, rules that loop, that are no whole number of rules,
and that break a field's range, coefficients that are no whole number, that are refused and that are taken, a commit on a chain without a
user, an opening of an FDD carrier, and a gate of a carrier out of service. -/
theorem witness_AirAndTileForms_inner :
    (∃ (p : Nat) (f : Frame) (s : State), p < 24 ∧ s.linkUp p = true ∧ (s.port p).first = true ∧ f.fcsOk = true ∧ f.macControl = true) ∧
    (∃ (data : Bytes) (s : State), Accepts s x0 O.fwdRules (.bytes data) ∧
        (List.range (data.length / 24)).any (fun i => decide (bytesAt ((data.drop (24 * i)).take 24) 0 1 < 24)
          && bitOf (bytesAt ((data.drop (24 * i)).take 24) 20 4) (bytesAt ((data.drop (24 * i)).take 24) 0 1)) = true) ∧
    (∃ (data : Bytes) (s : State), Accepts s x0 O.fwdRules (.bytes data) ∧ data.length / 24 = 0 ∧ data.length % 24 ≠ 0) ∧
    (∃ (data : Bytes) (s : State), Accepts s x0 O.fwdRules (.bytes data) ∧ data.length % 24 = 0 ∧
        (List.range (data.length / 24)).any (fun i => decide (bytesAt ((data.drop (24 * i)).take 24) 0 1 < 24)
          && bitOf (bytesAt ((data.drop (24 * i)).take 24) 20 4) (bytesAt ((data.drop (24 * i)).take 24) 0 1)) = false ∧
        (List.range (data.length / 24)).all (fun i => ruleFields ((data.drop (24 * i)).take 24)) = false) ∧
    (∃ (c : Nat) (p : Path) (data : Bytes) (s : State), c < 128 ∧ Accepts s x0 (tapsKey c p) (.bytes data) ∧ data.length % 4 ≠ 0) ∧
    (∃ (c : Nat) (p : Path) (data : Bytes) (s : State), c < 128 ∧ Accepts s x0 (tapsKey c p) (.bytes data) ∧ data.length % 4 = 0 ∧
        tapsValid s c data = false) ∧
    (∃ (c : Nat) (p : Path) (data : Bytes) (s : State), c < 128 ∧ Accepts s x0 (tapsKey c p) (.bytes data) ∧ data.length % 4 = 0 ∧
        tapsValid s c data = true ∧ s.obj (O.dfeUser c) = 0xFF) ∧
    (∃ (c : Nat) (p : Path) (s : State), c < 128 ∧ Accepts s x0 (commitKey c p) (.num 1) ∧ ((s.chain c).path p).busy = false ∧
        ((s.chain c).path p).back = .opened ∧ s.obj (O.dfeUser c) = 0xFF) ∧
    (∃ (n : Nat) (s : State), n < 64 ∧ s.obj (O.carrierEnable n) = 1 ∧ s.airRunning = true ∧ s.obj (O.duplex n) = 0 ∧
        gapMutes s n s.airNow = false) ∧
    (∃ (g : Nat) (s : State), g < 16 ∧ s.nat (O.txgCarrier g) < 64 ∧ s.obj (O.carrierEnable (s.nat (O.txgCarrier g))) = 0) :=
  ⟨⟨23, { okF with macControl := true }, on [(O.portLinkState 23, 1)]
      { w0 with fh := { w0.fh with ports := [(23, { PortIo.down with first := true })] } }, by decide +kernel⟩,
   ⟨[1] ++ List.replicate 19 0 ++ [2, 0, 0, 0], w0, by unfold Accepts; decide +kernel⟩,
   ⟨[0], w0, by unfold Accepts; decide +kernel⟩,
   ⟨[0xFE] ++ List.replicate 23 0, w0, by unfold Accepts; decide +kernel⟩,
   ⟨127, .tx, [1], w0, by unfold Accepts; decide +kernel⟩,
   ⟨127, .tx, [0, 0, 2, 0], w0, by unfold Accepts; decide +kernel⟩,
   ⟨127, .rx, [0xFF, 0xFF, 1, 0], w0, by unfold Accepts; decide +kernel⟩,
   ⟨127, .rx, w0, by unfold Accepts; decide +kernel⟩,
   ⟨63, on [(O.carrierEnable 63, 1), (O.duplex 63, 0)] w0, by decide +kernel⟩,
   ⟨15, on [(O.txgCarrier 15, 63), (O.carrierEnable 63, 0)] w0, by decide +kernel⟩⟩

end Sys2Proof.Tests
end

section
/-! SUPPORT. Network listen (02): frames of the shared operations, what a correlation, a commit, the close of a gap and a written result
do, and the statement about the search assembled from them. -/

namespace Sys2Proof.Machine

open Sys2Proof.Safety

/-! ## Frames of the shared operations -/

/-- Two frames in turn, within the lists of both. -/
theorem Leaves.trans_mono {s t u : State} {ps qs rs : List Part} {ks ls ms : List Nat} (h1 : Leaves s t ps ks) (h2 : Leaves t u qs ls)
    (hp : ∀ p ∈ ps ++ qs, p ∈ rs := by decide) (hk : ∀ k ∈ ks ++ ls, k ∈ ms := by decide) : Leaves s u rs ms := by
  simp only [List.forall_mem_append] at hp hk
  exact ⟨SameBut.trans (SameBut.mono h1.1 hp.1) (SameBut.mono h2.1 hp.2),
    fun k hn => (h2.2 k fun hm => hn (hk.2 k hm)).trans (h1.2 k fun hm => hn (hk.1 k hm))⟩

theorem Leaves.advance (s : State) (n : Nat) {ps : List Part} {ks : List Nat} (h : ∀ p ∈ timeParts, p ∈ ps) :
    Leaves s (Machine.advance s n) ps ks :=
  ⟨SameBut.advance s n ps h, fun k _ => State.obj_advance s n k⟩

theorem Leaves.setObj (s : State) (k : Nat) (v : Int) {ps : List Part} {ks : List Nat} (hp : Part.dict ∈ ps) (hk : k ∈ ks) :
    Leaves s (s.setObj k v) ps ks :=
  ⟨SameBut.setObj s k v ps hp, fun j hj => State.obj_setObj_ne s k j v fun h => hj (h ▸ hk)⟩

theorem Leaves.bump (s : State) (k n : Nat) {ps : List Part} {ks : List Nat} (hp : Part.dict ∈ ps) (hk : k ∈ ks) :
    Leaves s (s.bump k n) ps ks :=
  Leaves.setObj s k _ hp hk

theorem Leaves.raise (s : State) (k u : Nat) (d : Bytes) (c : Nat) {ps : List Part} {ks : List Nat} (hp : Part.dict ∈ ps)
    (hl : Part.link ∈ ps) (hk : k ∈ ks) (hd : O.indicationsDropped ∈ ks) : Leaves s (Machine.raise s k u d c) ps ks :=
  ⟨SameBut.raise s k u d c ps hp hl,
    fun j hj => State.obj_raise_ne s k u d c j (fun h => hj (h ▸ hk)) fun h => hj (h ▸ hd)⟩

theorem Leaves.onNl (s : State) (f : Listen → Listen) {ps : List Part} {ks : List Nat} (h : Part.nl ∈ ps) :
    Leaves s (s.onNl f) ps ks := by
  refine ⟨fun p hp => ?_, fun k _ => State.onNl_obj s f k⟩
  cases p <;> simp_all [Part.same]

theorem Leaves.onServo (s : State) (f : Servo → Servo) {ps : List Part} {ks : List Nat} (h : Part.time ∈ ps) :
    Leaves s (s.onServo f) ps ks := by
  refine ⟨fun p hp => ?_, fun _ _ => rfl⟩
  cases p <;> simp_all [Part.same, State.onServo]

/-- Time's passing to an instant of air time is nothing, where the instant lies behind, or a number of ticks. -/
theorem advanceToAir_cases (s : State) (a : Int) : advanceToAir s a = s ∨ ∃ n, advanceToAir s a = advance s n := by
  unfold advanceToAir advanceTo
  split
  · exact .inl rfl
  · exact .inr ⟨_, rfl⟩

theorem Leaves.advanceToAir (s : State) (a : Int) {ps : List Part} {ks : List Nat} (h : ∀ p ∈ timeParts, p ∈ ps) :
    Leaves s (Machine.advanceToAir s a) ps ks := by
  obtain he | ⟨n, he⟩ := advanceToAir_cases s a <;> rw [he]
  · exact Leaves.refl s ps ks
  · exact Leaves.advance s n h

@[simp] theorem advanceToAir_nl (s : State) (a : Int) : (advanceToAir s a).nl = s.nl :=
  (Leaves.advanceToAir (ks := []) s a fun _ h => h).1 .nl (by decide)

@[simp] theorem State.obj_advanceToAir (s : State) (a : Int) (k : Nat) : (advanceToAir s a).obj k = s.obj k :=
  (Leaves.advanceToAir s a fun _ h => h).2 k List.not_mem_nil

/-- What a source's qualification is noted in is the servo's alone. -/
theorem Leaves.refreshQualified (s : State) {ps : List Part} {ks : List Nat} (h : Part.time ∈ ps) :
    Leaves s (Machine.refreshQualified s) ps ks := by
  unfold Machine.refreshQualified
  induction allSources generalizing s with
  | nil => exact Leaves.refl s ps ks
  | cons x xs ih =>
    rw [List.foldl_cons]
    refine Leaves.trans ?_ (ih _)
    split
    · split
      · exact Leaves.refl s ps ks
      · exact Leaves.onServo s _ h
    · exact Leaves.onServo s _ h

@[simp] theorem refreshQualified_nl (s : State) : (refreshQualified s).nl = s.nl :=
  (Leaves.refreshQualified (ps := [.time]) (ks := []) s (by decide)).1 .nl (by decide)

@[simp] theorem State.obj_refreshQualified (s : State) (k : Nat) : (refreshQualified s).obj k = s.obj k :=
  (Leaves.refreshQualified (ps := [.time]) s (by decide)).2 k List.not_mem_nil

/-- Fitting a value to a field draws at most a free value. -/
theorem Leaves.fitSigned (bits : Nat) (v : Int) (s : State) {ps : List Part} {ks : List Nat} (h : Part.freeCtr ∈ ps) :
    Leaves s (Machine.fitSigned bits v s).2 ps ks := by
  unfold Machine.fitSigned
  split
  · exact Leaves.refl s ps ks
  · refine ⟨fun p hp => ?_, fun k _ => State.obj_free s k⟩
    cases p <;> simp_all [Part.same, State.free]

/-! ## Counters and indications across a frame -/

theorem Counted.of_obj {s s' t : State} {k n : Nat} (h : s'.obj k = s.obj k) (hc : Counted s' t k n) : Counted s t k n := by
  rwa [Counted, State.nat, ← h]

theorem Indicates.of_link {s s' t : State} {k u : Nat} {d : Bytes} {c : Nat} (h : s'.link = s.link) (hi : Indicates s' t k u d c) :
    Indicates s t k u d c := by
  rwa [Indicates, ← h]

/-! ## Objects that are written together -/

/-- The state with each object of a list written, first to last. -/
def State.setAll (s : State) (l : List (Nat × Int)) : State := l.foldl (fun s p => s.setObj p.1 p.2) s

theorem Leaves.setAll (s : State) (l : List (Nat × Int)) {ps : List Part} {ks : List Nat} (hp : Part.dict ∈ ps)
    (hk : ∀ k ∈ l.map (·.1), k ∈ ks) : Leaves s (s.setAll l) ps ks := by
  induction l generalizing s with
  | nil => exact Leaves.refl s ps ks
  | cons e l ih =>
    obtain ⟨he, hl⟩ := List.forall_mem_cons.mp hk
    exact Leaves.trans (Leaves.setObj s e.1 e.2 hp he) (ih _ hl)

/-- Of objects that are written once each, every one reads what was written. -/
theorem State.obj_setAll_of_mem (s : State) (l : List (Nat × Int)) (h : (l.map (·.1)).Nodup) {k : Nat} {v : Int} (hm : (k, v) ∈ l) :
    (s.setAll l).obj k = v := by
  induction l generalizing s with
  | nil => exact absurd hm List.not_mem_nil
  | cons e l ih =>
    obtain ⟨he, hl⟩ := List.nodup_cons.mp h
    obtain rfl | hm := List.mem_cons.mp hm
    · exact ((Leaves.setAll (s.setObj k v) l (ps := [.dict]) (by decide) fun _ h => h).2 k he).trans (State.obj_setObj_same s k v)
    · exact ih _ hl hm

/-! ## Detections (02 R74 to R77, R79) -/

@[simp] theorem State.nat_advance (s : State) (n k : Nat) : (advance s n).nat k = s.nat k := by
  rw [State.nat, State.obj_advance, State.nat]

@[simp] theorem searchCentres_advance (s : State) (n : Nat) : searchCentres (advance s n) = searchCentres s := by
  simp [searchCentres]

/-- A correlation is a detection: in a gap, of an enabled type, at DET_THRESHOLD, and at a centre that is searched (02 R74, R76). -/
structure Heard (s : State) (metric type : Nat) (centreHz : Int) : Prop where
  inGap : s.obj O.nlState = 2
  enabled : bitOf (s.nat O.numerologyMask) type = true
  reached : s.obj O.detThreshold ≤ (metric : Int)
  searched : centreHz ∈ searchCentres s

/-- A correlation that is no detection lets time pass and does nothing else. -/
theorem execNlDetection_unheard {dt metric pci type : Nat} {centreHz : Int} {s : State}
    (h : (metric : Int) < s.obj O.detThreshold ∨ centreHz ∉ searchCentres s ∨ bitOf (s.nat O.numerologyMask) type = false) :
    execNlDetection dt metric pci type centreHz s = .next (advance s dt) := by
  unfold execNlDetection
  refine if_pos ?_
  obtain h | h | h := h <;> simp [h]

section
variable {dt metric pci type : Nat} {centreHz : Int} {s : State} {c : Reception}

/-- The first detection of a gap becomes the reception, and the gain freezes (02 R75, R76). -/
theorem execNlDetection_first (h : Heard s metric type centreHz) (hc : s.nl.current = none) :
    execNlDetection dt metric pci type centreHz s =
      .next ((advance s dt).onNl fun r => { r with current := some ⟨metric, pci, type, false⟩, frozen := true }) := by
  simp [execNlDetection, h.inGap, h.enabled, h.reached, h.searched, hc]

/-- A detection stronger by CAPTURE_MARGIN replaces a reception that has not committed (02 R75, R77). -/
theorem execNlDetection_capture (h : Heard s metric type centreHz) (hc : s.nl.current = some c) (hk : c.committed = false)
    (hm : (c.metric : Int) + s.obj O.captureMargin ≤ metric) :
    execNlDetection dt metric pci type centreHz s =
      .next (((advance s dt).bump O.falseDetections 1).onNl fun r =>
        { r with current := some ⟨metric, pci, type, false⟩, gain := nlGain (r.gain - (ceilDiv (metric - c.metric) 10 : Nat)),
                 frozen := false, freezing := true }) := by
  simp [execNlDetection, h.inGap, h.enabled, h.reached, h.searched, hc, hk, hm]

/-- Against a committed reception it is logged as a missed capture (02 R79). -/
theorem execNlDetection_missed (h : Heard s metric type centreHz) (hc : s.nl.current = some c) (hk : c.committed = true)
    (hm : (c.metric : Int) + s.obj O.captureMargin ≤ metric) :
    execNlDetection dt metric pci type centreHz s =
      .next (raise ((advance s dt).onNl fun r =>
        { r with missed := keepLast 16 (r.missed ++ [missedRecord (advance s dt).clock.count pci metric type c]) })
        O.mcCount 0xFFFF [] 0) := by
  simp [execNlDetection, h.inGap, h.enabled, h.reached, h.searched, hc, hk, hm]

end

/-! ## Commits (02 R78) -/

section
variable {basis : NlBasis} {clipped : Nat} {s : State} {c : Reception}

/-- Writing the reception that stands changes nothing. -/
theorem State.onNl_current (hc : s.nl.current = some c) : (s.onNl fun r => { r with current := some c }) = s := by
  rw [← hc]; rfl

theorem execNlReceptionCommit_clipped (hg : s.obj O.nlState = 2) (hc : s.nl.current = some c) (hk : c.committed = false)
    (h : 10 < clipped) :
    execNlReceptionCommit basis clipped s = .next ((s.bump O.falseDetections 1).onNl fun r => { r with current := none }) := by
  simp [execNlReceptionCommit, *]

/-- The PBCH CRC of an NR reception decides whether it commits. -/
theorem execNlReceptionCommit_pbch {ok : Bool} (hg : s.obj O.nlState = 2) (hc : s.nl.current = some c) (hk : c.committed = false)
    (ht : c.type ≠ 4) (h : ¬ 10 < clipped) :
    execNlReceptionCommit (.pbch ok) clipped s =
      .next (s.onNl fun r => { r with current := some { c with committed := ok } }) := by
  cases ok with
  | true => simp [execNlReceptionCommit, *]
  | false =>
    have same : { c with committed := false } = c := by rw [← hk]
    rw [same, State.onNl_current hc]
    simp [execNlReceptionCommit, *]

end

/-! ## The close of a gap, and results (02 R71, R79, R81 to R85) -/

/-- While NL_ENABLE reads ON, the unit goes on with its work or is IDLE. -/
theorem nlIdle_of_on {s : State} (h : s.obj O.nlEnable = 1) : nlIdle s = s.setObj O.nlState (if s.nl.work = [] then 1 else 3) := by
  unfold nlIdle
  cases hw : s.nl.work <;> simp [h, stStopping, stPending]

/-- The state at the instant at which the gap in progress closes. -/
def atGapClose (s : State) : State := advanceToAir s (s.nl.openedAt + s.obj O.gapLength * airNs)

/-- The work of processing once a gap has closed: its reception is added where it has committed. -/
def workAfter (s : State) : List (Reception × Nat) := s.nl.work ++ (s.nl.current.filter (·.committed)).toList.map (·, s.clock.ticks)

/-- The close of a gap while NL_ENABLE reads ON (02 R75, R79). -/
theorem execListenGapClose_on {s : State} (hg : s.obj O.nlState = 2) (hn : s.obj O.nlEnable = 1) :
    execListenGapClose s =
      .next (((atGapClose s).onNl fun r =>
          { r with current := none, frozen := false, freezing := false, work := workAfter (atGapClose s) }).setObj
        O.nlState (if workAfter (atGapClose s) = [] then 1 else 3)) := by
  unfold execListenGapClose
  rw [if_neg (by simp [hg])]
  exact congrArg Host.Outcome.next (nlIdle_of_on (by simpa using hn))

section
variable {s t : State} {ps : List Part} {ks : List Nat} (h : Leaves s t ps ks) (hk : ∀ k ∈ ks, k < O.nbPci 0)
include h hk

/-- The neighbour table stands above the objects of the results, so that these can change without it. -/
theorem obj_of_leaves_below_neighbours {k : Nat} (hle : O.nbPci 0 ≤ k) : t.obj k = s.obj k :=
  h.2 k fun hm => absurd (hk k hm) (by omega)

theorem neighboursOf_leaves (pci type : Int) : neighboursOf t pci type = neighboursOf s pci type := by
  unfold neighboursOf
  refine List.filter_congr fun n _ => ?_
  rw [obj_of_leaves_below_neighbours h hk (k := O.nbPci n) (by unfold O.nbPci; omega),
    obj_of_leaves_below_neighbours h hk (k := O.nbType n) (by unfold O.nbPci O.nbType; omega)]

theorem nlTrusted_leaves (pci type : Int) : nlTrusted t pci type = nlTrusted s pci type := by
  unfold nlTrusted
  rw [neighboursOf_leaves h hk]
  congr 1
  funext n
  rw [obj_of_leaves_below_neighbours h hk (k := O.nbTrusted n) (by unfold O.nbPci O.nbTrusted; omega)]

end

/-- RESULT_FLAGS of a reception as its result is written (02 Table 2-4). -/
def resultFlagsOf (s : State) (c : Reception) (m : NlMeasure) : Int :=
  1 + (if m.sinr < s.obj O.sinrFloor then 4 else 0) + (if nlTrusted s c.pci c.type then 0 else 8) + (if nlTooOld s then 16 else 0)

/-- The flags are sums of distinct powers of two, so that each can be read back. -/
theorem bitOf_resultFlagsOf (s : State) (c : Reception) (m : NlMeasure) :
    bitOf (resultFlagsOf s c m).toNat 2 = decide (m.sinr < s.obj O.sinrFloor)
      ∧ bitOf (resultFlagsOf s c m).toNat 3 = !nlTrusted s c.pci c.type := by
  unfold resultFlagsOf
  split <;> split <;> split <;> simp [bitOf, *]

/-- The result objects that are written with the measures, in the order of 02 Table 2-4. -/
def resultObjects (shown : Int) (c : Reception) (m : NlMeasure) (flags : Int) : List (Nat × Int) :=
  [(O.resultOffset, shown), (O.resultPci, (c.pci : Int)), (O.resultType, (c.type : Int)), (O.resultSinr, m.sinr),
    (O.resultEvm, (m.evm : Int)), (O.resultSigma, (m.sigma : Int)), (O.resultFreqErr, m.freqErr),
    (O.resultMetric, (c.metric : Int)), (O.resultFlags, flags)]

/-- The state with the instant of a result written and the result counted. -/
def countResult (tRx : Nat) (s : State) : State := (s.setObj O.resultTime (stimeOf tRx)).bump O.resultsCommitted 1

/-- The state with a result's objects written, and the result kept for the servo in place of the reception that was worked on. -/
def keepResult (tRx : Nat) (off shown : Int) (c : Reception) (m : NlMeasure) (closed : Nat) (rest : List (Reception × Nat)) (s : State) :
    State :=
  let s := s.setAll (resultObjects shown c m (resultFlagsOf s c m))
  s.onNl fun r => { r with work := rest, hasResult := true, unused := r.unused ++
    [⟨s.nat O.resultsCommitted, off, tRx, c.pci, c.type, m.sinr, m.sigma, closed⟩] }

theorem countResult_leaves (tRx : Nat) (s : State) : Leaves s (countResult tRx s) [.dict] [O.resultTime, O.resultsCommitted] :=
  Leaves.trans (Leaves.setObj s _ _ (by decide) (by decide)) (Leaves.bump _ _ _ (by decide) (by decide))

theorem countResult_counted (tRx : Nat) (s : State) : Counted s (countResult tRx s) O.resultsCommitted 1 :=
  Counted.of_obj (State.obj_setObj_ne _ _ _ _ (by decide)) (State.obj_bump_same (s.setObj O.resultTime _) ..)

/-- The state once a result is written: processing goes on or is over, and the sources' qualification is noted. -/
def resultDone (tRx : Nat) (off shown : Int) (c : Reception) (m : NlMeasure) (closed : Nat) (rest : List (Reception × Nat)) (s : State) :
    State :=
  refreshQualified (nlIdle (keepResult tRx off shown c m closed rest (countResult tRx s)))

section
variable (tRx : Nat) (off shown : Int) (c : Reception) (m : NlMeasure) (closed : Nat) (rest : List (Reception × Nat)) (s : State)

theorem keepResult_leaves : Leaves s (keepResult tRx off shown c m closed rest s) [.dict, .nl]
    [O.resultOffset, O.resultPci, O.resultType, O.resultSinr, O.resultEvm, O.resultSigma, O.resultFreqErr, O.resultMetric, O.resultFlags] :=
  Leaves.trans (Leaves.setAll s (resultObjects shown c m _) (by decide) fun _ h => h) (Leaves.onNl _ _ (by decide))

/-- The objects that are written with the measures read what was written. -/
theorem keepResult_obj {k : Nat} {v : Int} (h : (k, v) ∈ resultObjects shown c m (resultFlagsOf s c m)) :
    (keepResult tRx off shown c m closed rest s).obj k = v := by
  unfold keepResult
  rw [State.onNl_obj]
  exact State.obj_setAll_of_mem s _ (by simp [resultObjects]) h

/-- Writing a result changes the result objects and the listen receiver. -/
theorem keepResult_countResult_leaves : Leaves s (keepResult tRx off shown c m closed rest (countResult tRx s)) [.dict, .nl]
    [O.resultTime, O.resultOffset, O.resultPci, O.resultType, O.resultSinr, O.resultEvm, O.resultSigma, O.resultFreqErr, O.resultMetric,
      O.resultFlags, O.resultsCommitted] :=
  Leaves.trans_mono (countResult_leaves tRx s) (keepResult_leaves ..)

variable {s} (hn : s.obj O.nlEnable = 1)
include hn

/-- While NL_ENABLE reads ON, processing goes on or the unit is IDLE. -/
theorem resultDone_eq : resultDone tRx off shown c m closed rest s =
    refreshQualified ((keepResult tRx off shown c m closed rest (countResult tRx s)).setObj O.nlState (if rest = [] then 1 else 3)) :=
  congrArg refreshQualified (nlIdle_of_on (((keepResult_countResult_leaves ..).2 _ (by decide)).trans hn))

theorem resultDone_obj_of_ne {k : Nat} (hk : k ≠ O.nlState) :
    (resultDone tRx off shown c m closed rest s).obj k = (keepResult tRx off shown c m closed rest (countResult tRx s)).obj k := by
  rw [resultDone_eq (hn := hn), State.obj_refreshQualified, State.obj_setObj_ne _ _ _ _ hk]

theorem resultDone_nlState : (resultDone tRx off shown c m closed rest s).obj O.nlState = if rest = [] then 1 else 3 := by
  rw [resultDone_eq (hn := hn), State.obj_refreshQualified, State.obj_setObj_same]

theorem resultDone_nl : (resultDone tRx off shown c m closed rest s).nl =
    (keepResult tRx off shown c m closed rest (countResult tRx s)).nl := by
  rw [resultDone_eq (hn := hn), refreshQualified_nl, State.setObj_nl]

/-- The objects of a result read what was written. -/
theorem resultDone_obj : ∀ p ∈ resultObjects shown c m (resultFlagsOf (countResult tRx s) c m),
    (resultDone tRx off shown c m closed rest s).obj p.1 = p.2 := by
  intro p hp
  refine (resultDone_obj_of_ne (hn := hn) (hk := fun hk => ?_) ..).trans (keepResult_obj _ _ _ _ _ _ _ _ hp)
  have : O.nlState ∈ (resultObjects shown c m (resultFlagsOf (countResult tRx s) c m)).map (·.1) := List.mem_map.mpr ⟨p, hp, hk⟩
  simp [resultObjects] at this

theorem resultDone_counted : Counted s (resultDone tRx off shown c m closed rest s) O.resultsCommitted 1 := by
  rw [Counted, resultDone_obj_of_ne (hn := hn) (hk := by decide), (keepResult_leaves ..).2 _ (by decide)]
  exact countResult_counted tRx s

/-- RESULT_FLAGS says whether the SINR is below the floor and whether the neighbour is not trusted (02 Table 2-4). -/
theorem resultDone_flags :
    bitOf ((resultDone tRx off shown c m closed rest s).nat O.resultFlags) 2 = decide (m.sinr < s.obj O.sinrFloor)
      ∧ bitOf ((resultDone tRx off shown c m closed rest s).nat O.resultFlags) 3 = !nlTrusted s c.pci c.type := by
  have hc := countResult_leaves tRx s
  have hf : (resultDone tRx off shown c m closed rest s).obj O.resultFlags = resultFlagsOf (countResult tRx s) c m :=
    resultDone_obj tRx off shown c m closed rest hn (O.resultFlags, resultFlagsOf (countResult tRx s) c m) (by simp [resultObjects])
  have hbits := bitOf_resultFlagsOf (countResult tRx s) c m
  rwa [hc.2 _ (by decide), nlTrusted_leaves hc (by decide), ← hf] at hbits

theorem resultDone_leaves : Leaves s (resultDone tRx off shown c m closed rest s) [.dict, .nl, .time]
    [O.resultTime, O.resultOffset, O.resultPci, O.resultType, O.resultSinr, O.resultEvm, O.resultSigma, O.resultFreqErr, O.resultMetric,
      O.resultFlags, O.resultsCommitted, O.nlState] := by
  rw [resultDone_eq (hn := hn)]
  have hset := Leaves.setObj (keepResult tRx off shown c m closed rest (countResult tRx s)) O.nlState (if rest = [] then 1 else 3)
    (ps := [.dict, .time]) (ks := [O.nlState]) (by decide) (by decide)
  exact Leaves.trans_mono (keepResult_countResult_leaves ..) (Leaves.trans hset (Leaves.refreshQualified _ (by decide)))

end

/-- The result of a known neighbour: some instant and offset are found, and written with the measures. -/
theorem execNlResultWritten_known {m : NlMeasure} {c : Reception} {closed n : Nat} {rest : List (Reception × Nat)} {s : State}
    (hg : s.obj O.nlState = 3) (hw : s.nl.work = (c, closed) :: rest) (hn : neighbourOf s c.pci c.type = some n) :
    ∃ tRx off shown u, Leaves s u [.freeCtr, .time] []
      ∧ execNlResultWritten m s = .next (resultDone tRx off shown c m closed rest u) := by
  have hr := Leaves.refreshQualified s (ps := [.freeCtr, .time]) (ks := []) (by decide)
  have hn' : neighbourOf (refreshQualified s) c.pci c.type = some n := by
    rw [neighbourOf, neighboursOf_leaves hr (by simp)]; exact hn
  unfold execNlResultWritten
  simp only [hw, hn']
  generalize nlOffset _ _ _ _ = off
  have hu := Leaves.trans hr (Leaves.fitSigned 32 off (refreshQualified s) (ks := []) (by decide))
  generalize fitSigned 32 off (refreshQualified s) = p at hu ⊢
  obtain ⟨shown, u⟩ := p
  refine ⟨_, off, shown, u, hu, congrArg (fun w => Host.Outcome.next (refreshQualified w)) (if_pos ?_)⟩
  exact beq_iff_eq.mpr (((keepResult_countResult_leaves ..).2 _ (by decide)).trans ((hu.2 _ (by decide)).trans hg))

end Sys2Proof.Machine

open Sys2Proof Sys2Proof.Machine Sys2Proof.Safety

/-- Settles O7: each clause follows from the equation of its command in the case that the clause names. -/
theorem listenSearch : Obligations.ListenSearch := by
  unfold Obligations.ListenSearch
  refine ⟨?first, ?stronger, ?unheard, ?commit, ?close, ?result⟩
  case first =>
    intro dt metric pci type centreHz s hg he hr hs hc
    refine ⟨_, execNlDetection_first ⟨hg, he, hr, hs⟩ hc, rfl, rfl, by simp, ?_⟩
    exact Leaves.trans (Leaves.advance s dt (by decide)) (Leaves.onNl _ _ (by decide))
  case stronger =>
    intro dt metric pci type centreHz c s hg he hr hs hc hm
    cases hk : c.committed with
    | true =>
      refine ⟨_, execNlDetection_missed ⟨hg, he, hr, hs⟩ hc hk hm, ?_⟩
      rw [if_pos rfl]
      refine ⟨by simp [hc], Counted.of_obj (by simp) (raise_counted _ _ _ _ _ (by decide)),
        Indicates.of_link (s' := (advance s dt).onNl _) (by simp) (raise_indicates _ _ _ _ _), by simp, ?_⟩
      exact Leaves.trans (Leaves.advance s dt (by decide))
        (Leaves.trans (Leaves.onNl _ _ (by decide)) (Leaves.raise _ _ _ _ _ (by decide) (by decide) (by decide) (by decide)))
    | false =>
      refine ⟨_, execNlDetection_capture ⟨hg, he, hr, hs⟩ hc hk hm, ?_⟩
      rw [if_neg (by simp)]
      refine ⟨rfl, Counted.of_obj (by simp) (State.obj_bump_same (advance s dt) ..), rfl, by simp, ?_⟩
      exact Leaves.trans (Leaves.advance s dt (by decide))
        (Leaves.trans (Leaves.bump _ _ _ (by decide) (by decide)) (Leaves.onNl _ _ (by decide)))
  case unheard =>
    intro dt metric pci type centreHz s h
    exact ⟨_, execNlDetection_unheard h, Leaves.advance s dt (by decide)⟩
  case commit =>
    intro clipped ok c s hg hc hk ht
    by_cases h : 10 < clipped
    · refine ⟨_, execNlReceptionCommit_clipped (basis := .pbch ok) hg hc hk h, ?_⟩
      rw [if_pos h]
      refine ⟨rfl, State.obj_bump_same .., ?_⟩
      exact Leaves.trans (Leaves.bump s _ _ (by decide) (by decide)) (Leaves.onNl _ _ (by decide))
    · refine ⟨_, execNlReceptionCommit_pbch hg hc hk ht h, ?_⟩
      rw [if_neg h]
      exact ⟨rfl, Leaves.onNl _ _ (by decide)⟩
  case close =>
    intro s hg hn
    refine ⟨_, execListenGapClose_on hg hn, rfl, by simp [workAfter, atGapClose], State.obj_setObj_same .., ?_⟩
    exact Leaves.trans (Leaves.advanceToAir s _ (by decide))
      (Leaves.trans (Leaves.onNl _ _ (by decide)) (Leaves.setObj _ _ _ (by decide) (by decide)))
  case result =>
    intro m c closed rest n s hg hn hw hk
    obtain ⟨tRx, off, shown, u, hu, ht⟩ := execNlResultWritten_known (m := m) hg hw hk
    have hn' : u.obj O.nlEnable = 1 := (hu.2 _ List.not_mem_nil).trans hn
    have written := resultDone_obj tRx off shown c m closed rest hn'
    simp only [resultObjects, List.forall_mem_cons] at written
    obtain ⟨-, hpci, htype, hsinr, hevm, hsigma, hfreq, hmetric, -⟩ := written
    have hnl := resultDone_nl tRx off shown c m closed rest hn'
    obtain ⟨hfloor, htrust⟩ := resultDone_flags tRx off shown c m closed rest hn'
    rw [hu.2 _ List.not_mem_nil] at hfloor
    rw [nlTrusted_leaves hu (by simp)] at htrust
    exact ⟨_, ht, hpci, htype, hmetric, hsinr, hevm, hsigma, hfreq, resultDone_nlState tRx off shown c m closed rest hn',
      Counted.of_obj (hu.2 _ List.not_mem_nil) (resultDone_counted tRx off shown c m closed rest hn'), congrArg Listen.work hnl,
      congrArg Listen.hasResult hnl, hfloor, htrust, Leaves.trans_mono hu (resultDone_leaves tRx off shown c m closed rest hn')⟩
end

section
/-! SUPPORT. Tile faults, vector lengths and bonds (11): the frame of what judges and returns operations, what a fault, a failed
self-test, a write of TILE_VL or BOND_MODE and the end of a change of bond do, and the statement about them assembled from these. -/

namespace Sys2Proof.Machine

open Sys2Proof.Safety

/-! ## The books of operations -/

/-- The objects that change where operations are judged, released, returned and cancelled (13 R437, R447 to R451): the counts of expired
operations of any carrier, those of reruns, iterations and cancelled fused jobs, the trace's, and the enables of partitions. -/
def bookKey (k : Nat) : Bool :=
  k % 256 == O.expiredOps 0 % 256
    || [O.expiredAtLs, O.reruns, O.iterations, O.fusedCancelled, O.traceWritten, O.traceLost].contains k
    || (List.range 8).any fun p => k == O.partEnable p

/-- The parts that then change. -/
def bookParts : List Part := [.dict, .kiln, .link, .pipe, .sched, .svc]

/-- The objects of tiles, pairs and their groups are not among them. -/
theorem bookKey_of_tiles {k : Nat} (h : 0x580000 ≤ k ∧ k < 0x5A1000 ∧ k % 256 ≠ 12 := by grind) : bookKey k = false := by
  obtain ⟨hlo, hhi, hsub⟩ := h
  have h12 : (k % 256 == O.expiredOps 0 % 256) = false := beq_eq_false_iff_ne.mpr hsub
  have hp : ((List.range 8).any fun p => k == O.partEnable p) = false :=
    List.any_eq_false.mpr fun p _ hk => by have := beq_iff_eq.mp hk; unfold O.partEnable at this; omega
  have hl : [O.expiredAtLs, O.reruns, O.iterations, O.fusedCancelled, O.traceWritten, O.traceLost].contains k = false := by
    grind
  simp only [bookKey, h12, hl, hp, Bool.or_self]

/-- Only the books changed: the frame of what judges or returns operations. No message is sent. -/
structure Books (ps : List Part) (s t : State) : Prop where
  parts : SameBut s t ps
  sent : t.link.sent = s.link.sent
  obj : ∀ k, bookKey k = false → t.obj k = s.obj k

namespace Books

variable {ps : List Part} {s t u : State}

theorem refl (s : State) : Books ps s s := ⟨SameBut.refl s ps, rfl, fun _ _ => rfl⟩

theorem trans (h1 : Books ps s t) (h2 : Books ps t u) : Books ps s u :=
  ⟨SameBut.trans h1.parts h2.parts, h2.sent.trans h1.sent, fun k hk => (h2.obj k hk).trans (h1.obj k hk)⟩

theorem mono {qs : List Part} (h : Books ps s t) (hq : ∀ p ∈ ps, p ∈ qs) : Books qs s t :=
  ⟨SameBut.mono h.parts hq, h.sent, h.obj⟩

/-- A frame that leaves the dictionary and sends nothing. -/
theorem of_dict (h : SameBut s t ps) (hd : t.dict = s.dict) (hl : t.link.sent = s.link.sent) : Books ps s t :=
  ⟨h, hl, fun k _ => State.obj_congr hd k⟩

theorem foldl {α : Type} (f : State → α → State) (l : List α) (h : ∀ a ∈ l, ∀ s, Books ps s (f s a)) (s : State) :
    Books ps s (l.foldl f s) := by
  induction l generalizing s with
  | nil => exact refl s
  | cons a l ih =>
    obtain ⟨ha, hl⟩ := List.forall_mem_cons.mp h
    exact trans (ha s) (ih hl _)

theorem setObj (s : State) {k : Nat} (v : Int) (hk : bookKey k = true) : Books bookParts s (s.setObj k v) :=
  ⟨SameBut.setObj s k v _ (by decide), rfl, fun j hj => State.obj_setObj_ne s k j v fun h => by simp [h, hk] at hj⟩

theorem bump (s : State) {k : Nat} (n : Nat) (hk : bookKey k = true) : Books bookParts s (s.bump k n) := setObj s _ hk

theorem onCourse (s : State) (key : Nat) (f : Course → Course) : Books bookParts s (s.onCourse key f) :=
  of_dict (fun p hp => by cases p <;> simp_all [Part.same, bookParts]) (by simp) (by simp)

theorem onOp (s : State) (tag : Nat) (f : Op → Op) : Books bookParts s (s.onOp tag f) :=
  of_dict (fun p hp => by cases p <;> simp_all [Part.same, bookParts]) (by simp) (by simp)

theorem setSched (s : State) (x : Sched) : Books bookParts s { s with sched := x } :=
  of_dict (fun p hp => by cases p <;> simp_all [Part.same, bookParts]) rfl rfl

theorem setOps (s : State) (ops : Store Op) : Books bookParts s (s.setOps ops) := setSched s _

theorem setKiln (s : State) (x : Kiln) : Books bookParts s { s with kiln := x } :=
  of_dict (fun p hp => by cases p <;> simp_all [Part.same, bookParts]) rfl rfl

theorem addTrace (r : Bytes) (s : State) : Books bookParts s (addTrace r s) := by
  unfold Machine.addTrace
  dsimp only
  split
  · exact trans (bump s 1 (by decide)) (setSched _ _)
  · split
    · exact trans (bump s 1 (by decide)) (setSched _ _)
    · exact bump s 1 (by decide)

theorem traceOp (e tag : Nat) (o : Op) (status pallets tested : Nat) (s : State) :
    Books bookParts s (traceOp e tag o status pallets tested s) := by
  unfold Machine.traceOp
  split
  · exact addTrace _ s
  · exact refl s

theorem makeReady (tag : Nat) (o : Op) (s : State) : Books bookParts s (makeReady tag o s) :=
  trans (onOp s tag _) (traceOp ..)

theorem voidBlock (s : State) (j : Job) : Books bookParts s (s.voidBlock j) := by
  unfold State.voidBlock
  extract_lets seen n
  split
  · exact refl s
  · exact setKiln s _

theorem dropJob (s : State) (tag : Nat) : Books bookParts s (s.dropJob tag) := setKiln s _

theorem dropKilnJob (tag : Nat) (s : State) : Books bookParts s (dropKilnJob tag s) := by
  unfold Machine.dropKilnJob
  split
  · dsimp only
    refine trans ?_ (trans (dropJob _ tag) (voidBlock _ _))
    split
    · exact refl s
    · exact bump s _ (by decide)
  · exact refl s

theorem countExpiry (o : Op) {key : Nat} (hk : bookKey key = true) (s : State) : Books bookParts s (countExpiry o key s) := by
  have hc : bookKey (O.expiredOps o.carrier) = true := by
    simp [bookKey, O.expiredOps]
  exact trans (bump s 1 hc) (trans (bump _ 1 hk) (trans (onCourse ..) (onCourse ..)))

/-- An operation that expires (13 R450). -/
theorem expireOp (tag : Nat) (s : State) : Books bookParts s (expireOp tag s) := by
  unfold Machine.expireOp
  split
  · split
    · exact trans (dropKilnJob tag s) (trans (countExpiry _ (by decide) _) (trans (onOp ..) (traceOp ..)))
    · exact refl s
  · exact refl s

theorem settleOp (s : State) (tag : Nat) : Books bookParts s (settleOp s tag) := by
  unfold Machine.settleOp
  split
  · split
    · split
      · exact expireOp tag s
      · split
        · exact makeReady tag _ s
        · exact refl s
    · split
      · exact expireOp tag s
      · exact refl s
  · exact refl s

theorem settle (s : State) : Books bookParts s (settle s) := foldl _ _ (fun tag _ s => settleOp s tag) s

theorem askOutcome (key : Nat) (s : State) : Books bookParts s (askOutcome key s) := by
  unfold Machine.askOutcome
  split
  · exact refl s
  · exact of_dict (fun p hp => by cases p <;> simp_all [Part.same, bookParts]) rfl rfl

theorem askOutcomes (s : State) : Books bookParts s (askOutcomes s) := foldl _ _ (fun key _ s => askOutcome key s) s

theorem shutDone {k : Nat} (hk : bookKey k = true) (s : State) : Books bookParts s (shutDone k s) := by
  unfold Machine.shutDone
  split
  · exact of_dict (fun p hp => by cases p <;> simp_all [Part.same, bookParts]) rfl rfl
  · exact setObj s _ hk

theorem partsDone (s : State) : Books bookParts s (partsDone s) := by
  refine foldl _ _ (fun p hp s => ?_) s
  dsimp only
  split
  · exact shutDone (by simp only [bookKey, Bool.or_eq_true, List.any_eq_true]; exact .inr ⟨p, hp, beq_self_eq_true _⟩) s
  · exact refl s

/-- What follows a change of an operation. -/
theorem resettle (s : State) : Books bookParts s (resettle s) :=
  trans (settle s) (trans (setOps _ _) (trans (askOutcomes _) (partsDone _)))

theorem ackCancel (tag : Nat) (s : State) : Books bookParts s (ackCancel tag s) := by
  unfold Machine.ackCancel
  refine trans (dropJob s tag) ?_
  dsimp only
  split
  · split
    · exact setOps _ _
    · exact trans (onOp ..) (resettle _)
  · exact refl _

/-- An operation that returns to READY, or acknowledges its cancel (13 R448, R451). -/
theorem rerunOp (s : State) (tag : Nat) : Books bookParts s (rerunOp s tag) := by
  unfold Machine.rerunOp
  split
  · split
    · exact ackCancel tag s
    · exact trans (bump s 1 (by decide)) (trans (dropJob _ tag) (trans (traceOp ..) (trans (onCourse ..) (makeReady ..))))
  · exact refl s

theorem putCtx (t : Nat) (c : Ctx) (s : State) : Books (.tiles :: bookParts) s (putCtx t c s) :=
  of_dict (fun p hp => by cases p <;> simp_all [Part.same, bookParts, Machine.putCtx]) rfl rfl

/-- A task that ends without its program's TEND: its tile and the count of cancelled jobs change. -/
theorem stopTask (t : Nat) (how : TaskEnd) (s : State) : Books (.tiles :: bookParts) s (stopTask t how s) := by
  unfold Machine.stopTask
  split
  · exact trans (mono (bump s _ (by decide)) (by decide)) (putCtx t _ _)
  · exact refl s

theorem returnDispatched (t : Nat) (s : State) : Books bookParts s (returnDispatched t s) :=
  trans (setSched s _) (foldl _ _ (fun tag _ s => rerunOp s tag) _)

/-- A tile that leaves service (11 R356). -/
theorem vacate (t : Nat) (s : State) : Books (.tiles :: bookParts) s (vacate t s) := by
  unfold Machine.vacate
  refine trans ?_ (mono (returnDispatched t _) (by decide))
  split
  · exact stopTask t _ s
  · exact refl s

end Books

/-! ## A tile fault (11 R356; 17 R572, R573) -/

/-- A change of parts beside the dictionary leaves every object. -/
theorem Leaves.of_dict {s t : State} {ps : List Part} {ks : List Nat} (h : SameBut s t ps) (hd : t.dict = s.dict) : Leaves s t ps ks :=
  ⟨h, fun k _ => State.obj_congr hd k⟩

theorem Leaves.setBondWas (s : State) (b : Store Nat) {ps : List Part} {ks : List Nat} (hp : Part.bondWas ∈ ps) :
    Leaves s { s with bondWas := b } ps ks :=
  Leaves.of_dict (fun p hn => by cases p <;> simp_all [Part.same]) rfl

theorem Leaves.onGuard (s : State) (f : Guard → Guard) {ps : List Part} {ks : List Nat} (hp : Part.guard ∈ ps) :
    Leaves s (s.onGuard f) ps ks :=
  Leaves.of_dict (fun p hn => by cases p <;> simp_all [Part.same, State.onGuard]) rfl

/-- The other tile of a tile's pair. -/
def partner (t : Nat) : Nat := if t % 2 == 0 then t + 1 else t - 1

theorem partner_lt {t : Nat} (ht : t < 200) : partner t < 200 := by grind [partner]

theorem partner_div (t : Nat) : t / 2 = partner t / 2 := by grind [partner]

/-- The state once both tiles of a faulted tile's pair hold nothing. -/
def vacated (t : Nat) (s : State) : State := vacate (2 * (t / 2) + 1) (vacate (2 * (t / 2)) (s.bump O.tileFaults 1))

/-- The states of the tiles and the role of the pair, as a fault of the tile leaves them. -/
def showFaulted (t : Nat) (s : State) : State :=
  ((s.setObj (O.tileState t) 3).setObj (O.tileState (partner t)) 4).setObj (O.pairRole (t / 2)) 2

/-- The state once the pair has left service, and before a spare takes its role. -/
def outOfService (t : Nat) (s : State) : State :=
  let s := showFaulted t (vacated t s)
  { s with bondWas := Store.drop s.bondWas (t / 2) }

/-- The parts that a tile fault may change. -/
def faultParts : List Part := [.bondWas, .dict, .guard, .kiln, .link, .pipe, .sched, .svc, .tiles]

section
variable (t : Nat) (s : State)

theorem vacated_books : Books (.tiles :: bookParts) (s.bump O.tileFaults 1) (vacated t s) :=
  Books.trans (Books.vacate _ _) (Books.vacate _ _)

theorem outOfService_leaves : Leaves (vacated t s) (outOfService t s) [.bondWas, .dict]
    [O.tileState t, O.tileState (partner t), O.pairRole (t / 2)] :=
  Leaves.trans (Leaves.setObj _ _ 3 (by decide) (by simp)) (Leaves.trans (Leaves.setObj _ _ 4 (by decide) (by simp))
    (Leaves.trans (Leaves.setObj _ _ 2 (by decide) (by simp)) (Leaves.setBondWas _ _ (by decide))))

theorem outOfService_sameBut : SameBut s (outOfService t s) faultParts :=
  SameBut.trans (SameBut.bump s _ _ _ (by decide))
    (SameBut.trans (SameBut.mono (vacated_books t s).parts (by decide)) (SameBut.mono (outOfService_leaves t s).1 (by decide)))

/-- The objects that leaving service writes beside the books. -/
def faultKeys (t : Nat) : List Nat := [O.tileFaults, O.tileState t, O.tileState (partner t), O.pairRole (t / 2)]

theorem outOfService_obj {k : Nat} (hb : bookKey k = false) (hk : k ∉ faultKeys t) : (outOfService t s).obj k = s.obj k := by
  obtain ⟨hf, hs⟩ := not_or.mp (mt List.mem_cons.mpr hk)
  rw [(outOfService_leaves t s).2 k hs, (vacated_books t s).obj k hb, State.obj_bump_ne _ _ _ _ hf]

theorem outOfService_counted : Counted s (outOfService t s) O.tileFaults 1 := by
  rw [Counted, (outOfService_leaves t s).2 _ (by grind), (vacated_books t s).obj _ (by decide), State.obj_bump_same]

theorem outOfService_states : (outOfService t s).obj (O.tileState t) = 3 ∧ (outOfService t s).obj (O.tileState (partner t)) = 4
    ∧ (outOfService t s).obj (O.pairRole (t / 2)) = 2 := by
  have h (k : Nat) : (outOfService t s).obj k = (showFaulted t (vacated t s)).obj k := State.obj_congr (by simp only [outOfService]) k
  simp only [h, showFaulted]
  grind [partner, State.obj_setObj]

/-- A pair that was no spare leaves the spares as they were. -/
theorem sparePair_outOfService (hr : s.obj (O.pairRole (t / 2)) ≠ 1) : sparePair (outOfService t s) = sparePair s := by
  unfold sparePair
  refine List.find?_congr fun n hn => ?_
  by_cases h : n = t / 2
  · rw [h, (outOfService_states t s).2.2, beq_eq_false_iff_ne.mpr hr]; rfl
  · have := List.mem_range.mp hn
    rw [outOfService_obj t s bookKey_of_tiles (by grind [faultKeys])]

end

/-! ## The spare pair's take-over (11 R356, R405; 17 R573) -/

theorem showTile_leaves (t : Nat) (s : State) : Leaves s (showTile t s) [.dict] [O.tileState t] := by
  unfold showTile
  split
  · exact Leaves.refl s _ _
  · exact Leaves.setObj s _ _ (by decide) (by simp)

theorem setVls_leaves (n : Nat) (s : State) : Leaves s (setVls n s) [.dict] [O.tileVlActive (2 * n), O.tileVlActive (2 * n + 1)] :=
  Leaves.trans (Leaves.setObj s _ _ (by decide) (by simp)) (Leaves.setObj _ _ _ (by decide) (by simp))

/-- The number of the role that a pair fills. -/
def roleOf (s : State) (n : Nat) : Int := if s.obj (O.servesFor n) == 0xFF then (n : Int) else s.obj (O.servesFor n)

/-- The role and the bond mode of pair `n`, as they are written for pair `m`. -/
def bondObjects (n m : Nat) (s : State) : List (Nat × Int) :=
  [(O.pairRole m, 0), (O.servesFor m, roleOf s n), (O.bondMode m, s.obj (O.bondMode n)), (O.bondState m, s.obj (O.bondMode n))]

/-- These and the vector lengths, which are read when the bond is written. -/
def roleObjects (n m : Nat) (s : State) : List (Nat × Int) :=
  bondObjects n m s ++ [(O.tileVl (2 * m), (s.setAll (bondObjects n m s)).obj (O.tileVl (2 * n))),
    (O.tileVl (2 * m + 1), (s.setAll (bondObjects n m s)).obj (O.tileVl (2 * n + 1)))]

/-- The objects that giving a role writes. -/
def roleKeys (m : Nat) : List Nat :=
  [O.pairRole m, O.servesFor m, O.bondMode m, O.bondState m, O.tileVl (2 * m), O.tileVl (2 * m + 1)]

/-- The objects that show a pair's tiles anew. -/
def shownKeys (m : Nat) : List Nat :=
  [O.tileVlActive (2 * m), O.tileVlActive (2 * m + 1), O.tileState (2 * m), O.tileState (2 * m + 1)]

/-- The state once the spare pair serves in the role and no longer counts as a spare. -/
def seatSpare (n m : Nat) (s : State) : State :=
  (takeRole n m s).setObj O.tileSpares (s.nat O.tileSpares - 2 : Nat)

section
variable (n m : Nat) (s : State)

theorem takeRole_eq :
    takeRole n m s = showTile (2 * m) (showTile (2 * m + 1) (setVls m (s.setAll (roleObjects n m s)))) := rfl

theorem giveRole_leaves : Leaves s (s.setAll (roleObjects n m s)) [.dict] (roleKeys m) :=
  Leaves.setAll s _ (by decide) fun _ h => h

theorem takeRole_shows : Leaves (s.setAll (roleObjects n m s)) (takeRole n m s) [.dict] (shownKeys m) := by
  rw [takeRole_eq]
  have hs := Leaves.trans_mono (rs := [.dict]) (ms := [O.tileState (2 * m), O.tileState (2 * m + 1)])
    (showTile_leaves (2 * m + 1) (setVls m (s.setAll (roleObjects n m s)))) (showTile_leaves (2 * m) _) (by decide) (by simp)
  exact Leaves.trans_mono (setVls_leaves m _) hs (by decide) (by simp [shownKeys])

theorem takeRole_leaves : Leaves s (takeRole n m s) [.dict] (roleKeys m ++ shownKeys m) :=
  Leaves.trans_mono (giveRole_leaves n m s) (takeRole_shows n m s) (by decide) fun _ h => h

theorem seatSpare_leaves : Leaves s (seatSpare n m s) [.dict] (O.tileSpares :: (roleKeys m ++ shownKeys m)) :=
  Leaves.trans_mono (takeRole_leaves n m s) (Leaves.setObj _ _ _ (ps := [.dict]) (ks := [O.tileSpares]) (by decide) (by decide)) (by decide)
    (by grind)

theorem seatSpare_obj {k : Nat} (hk : k ∉ O.tileSpares :: shownKeys m) :
    (seatSpare n m s).obj k = (s.setAll (roleObjects n m s)).obj k := by
  obtain ⟨hs, hk⟩ := not_or.mp (mt List.mem_cons.mpr hk)
  rw [seatSpare, State.obj_setObj_ne _ _ _ _ hs, (takeRole_shows n m s).2 k hk]

/-- The spare pair takes over the role, the bond mode and the vector lengths. -/
theorem seatSpare_gives (hn : n < 100) (hm : m < 100) :
    (seatSpare n m s).obj (O.pairRole m) = 0 ∧ (seatSpare n m s).obj (O.servesFor m) = roleOf s n
      ∧ (seatSpare n m s).obj (O.bondMode m) = s.obj (O.bondMode n) ∧ (seatSpare n m s).obj (O.bondState m) = s.obj (O.bondMode n)
      ∧ (seatSpare n m s).obj (O.tileVl (2 * m)) = s.obj (O.tileVl (2 * n))
      ∧ (seatSpare n m s).obj (O.tileVl (2 * m + 1)) = s.obj (O.tileVl (2 * n + 1)) := by
  have hbond : Leaves s (s.setAll (bondObjects n m s)) [.dict] [O.pairRole m, O.servesFor m, O.bondMode m, O.bondState m] :=
    Leaves.setAll s _ (by decide) fun _ h => h
  have hnodup : ((roleObjects n m s).map (·.1)).Nodup := by
    simp only [roleObjects, bondObjects, List.cons_append, List.nil_append, List.map_cons, List.map_nil, List.nodup_cons, List.mem_cons,
      List.not_mem_nil]
    grind
  have hk : ∀ p ∈ roleObjects n m s, (seatSpare n m s).obj p.1 = p.2 := fun p hp =>
    (seatSpare_obj n m s (by grind [roleObjects, bondObjects, shownKeys])).trans (State.obj_setAll_of_mem s _ hnodup hp)
  simp only [roleObjects, bondObjects, List.cons_append, List.nil_append, List.forall_mem_cons] at hk
  obtain ⟨hrole, hserves, hmode, hstate, hvl, hvl', -⟩ := hk
  exact ⟨hrole, hserves, hmode, hstate, hvl.trans (hbond.2 _ (by grind)), hvl'.trans (hbond.2 _ (by grind))⟩

theorem seatSpare_spares : (seatSpare n m s).obj O.tileSpares = (s.nat O.tileSpares - 2 : Nat) := State.obj_setObj_same ..

end

/-! ## The report of a tile fault (17 R572, R573) -/

theorem Leaves.setCause (bit : Nat) (s : State) {ps : List Part} {ks : List Nat} (hp : Part.dict ∈ ps) (hk : O.faultCauses ∈ ks) :
    Leaves s (setCause bit s) ps ks :=
  Leaves.setObj s _ _ hp hk

theorem spareEngaged_leaves (word spare left cause : Nat) (s : State) : Leaves s (spareEngaged word spare left cause s) [.dict, .link]
    [O.spareEngagedCount, O.indicationsDropped, O.faultCauses] := by
  unfold spareEngaged
  refine Leaves.trans (Leaves.raise s O.spareEngagedCount word (spareDetail word spare left cause) 0 (by decide) (by decide) (by decide)
    (by decide)) ?_
  dsimp only
  split
  · exact Leaves.setCause 2 _ (by decide) (by decide)
  · exact Leaves.refl _ _ _

theorem spareEngaged_counted (word spare left cause : Nat) (s : State) :
    Counted s (spareEngaged word spare left cause s) O.spareEngagedCount 1 := by
  have h : (spareEngaged word spare left cause s).obj O.spareEngagedCount
      = (raise s O.spareEngagedCount word (spareDetail word spare left cause) 0).obj O.spareEngagedCount := by
    unfold spareEngaged
    split
    · exact State.obj_setObj_ne _ _ _ _ (by decide)
    · rfl
  rw [Counted, h]
  exact raise_counted s _ _ _ _ (by decide)

theorem unitLost_leaves (word left cause : Nat) (s : State) : Leaves s (unitLost word left cause s) [.dict, .guard, .link]
    [O.unitLostCount, O.indicationsDropped, O.faultCauses] :=
  Leaves.trans (Leaves.raise s O.unitLostCount word (spareDetail word 0xFFFF left cause) 0 (by decide) (by decide) (by decide) (by decide))
    (Leaves.trans (Leaves.onGuard _ _ (by decide)) (Leaves.setCause 1 _ (by decide) (by decide)))

/-- The objects of the events SPARE_ENGAGED and UNIT_LOST. -/
def eventKeys : List Nat := [O.spareEngagedCount, O.unitLostCount, O.indicationsDropped, O.faultCauses]

/-- What a tile fault does once the pair has left service: a spare takes its role, or the class has lost a unit (17 R572). -/
def replacePair (n cause : Nat) (s : State) : State :=
  match sparePair s with
  | some m =>
    resettle (spareEngaged (unitWord 0 n) (unitWord 0 m) ((seatSpare n m s).nat O.tileSpares / 2) cause (seatSpare n m s))
  | none => resettle (unitLost (unitWord 0 n) 0 cause s)

theorem tileFault_eq (t cause : Nat) (s : State) : tileFault t cause s = replacePair (t / 2) cause (outOfService t s) := by
  unfold tileFault
  extract_lets n other s1 s2 s3
  have h3 : s3 = outOfService t s := rfl
  unfold replacePair
  rw [← h3]
  clear_value s3
  cases sparePair s3 <;> rfl

/-- The objects that the take-over by a spare pair writes. -/
def spareKeys (m : Nat) : List Nat := O.tileSpares :: (roleKeys m ++ shownKeys m)

theorem tileState_not_mem_spareKeys {t m : Nat} (ht : t < 200) (h : m ≠ t / 2) : O.tileState t ∉ spareKeys m := by
  grind [spareKeys, roleKeys, shownKeys]

theorem pairRole_not_mem_spareKeys {n m : Nat} (hm : m < 100) (h : m ≠ n) : O.pairRole n ∉ spareKeys m := by
  grind [spareKeys, roleKeys, shownKeys]

theorem bondMismatches_not_mem_spareKeys (n m : Nat) : O.bondMismatches n ∉ spareKeys m := by
  grind [spareKeys, roleKeys, shownKeys]

theorem tileFaults_not_mem_spareKeys (m : Nat) : O.tileFaults ∉ spareKeys m := by
  grind [spareKeys, roleKeys, shownKeys]

theorem spareEngagedCount_not_mem_spareKeys {m : Nat} (hm : m < 100) : O.spareEngagedCount ∉ spareKeys m := by
  grind [spareKeys, roleKeys, shownKeys]

section
variable {n cause m k : Nat} {s : State}

theorem sparePair_spec (h : sparePair s = some m) : m < 100 ∧ s.obj (O.pairRole m) = 1 :=
  ⟨List.mem_range.mp (List.mem_of_find?_eq_some h), beq_iff_eq.mp (List.find?_some (p := fun n => s.obj (O.pairRole n) == 1) h)⟩

theorem replacePair_spare (h : sparePair s = some m) : ∃ left, replacePair n cause s =
    resettle (spareEngaged (unitWord 0 n) (unitWord 0 m) left cause (seatSpare n m s)) :=
  ⟨(seatSpare n m s).nat O.tileSpares / 2, by rw [replacePair, h]⟩

theorem replacePair_lost (h : sparePair s = none) : replacePair n cause s = resettle (unitLost (unitWord 0 n) 0 cause s) := by
  rw [replacePair, h]

/-- Beside the spare's own objects, the events' and the books', every object is as it was. -/
theorem replacePair_frame (n cause : Nat) (s : State) : SameBut s (replacePair n cause s) faultParts
    ∧ ∀ k, bookKey k = false → k ∉ eventKeys → (∀ m, sparePair s = some m → k ∉ spareKeys m) →
      (replacePair n cause s).obj k = s.obj k := by
  cases h : sparePair s with
  | none =>
    rw [replacePair_lost h]
    have hl := unitLost_leaves (unitWord 0 n) 0 cause s
    have hb := Books.resettle (unitLost (unitWord 0 n) 0 cause s)
    exact ⟨SameBut.trans (SameBut.mono hl.1 (by decide)) (SameBut.mono hb.parts (by decide)), fun k hk he _ =>
      (hb.obj k hk).trans (hl.2 k (by grind [eventKeys]))⟩
  | some m =>
    obtain ⟨left, hr⟩ := replacePair_spare (n := n) (cause := cause) h
    rw [hr]
    have hs := seatSpare_leaves n m s
    have hl := spareEngaged_leaves (unitWord 0 n) (unitWord 0 m) left cause (seatSpare n m s)
    have hb := Books.resettle (spareEngaged (unitWord 0 n) (unitWord 0 m) left cause (seatSpare n m s))
    exact ⟨SameBut.trans (SameBut.mono hs.1 (by decide)) (SameBut.trans (SameBut.mono hl.1 (by decide))
        (SameBut.mono hb.parts (by decide))),
      fun k hk he hm => (hb.obj k hk).trans ((hl.2 k (by grind [eventKeys])).trans (hs.2 k (hm m rfl)))⟩

/-- With a spare, every object that no event counts reads as the take-over left it. -/
theorem replacePair_obj (h : sparePair s = some m) (hk : bookKey k = false) (he : k ∉ eventKeys) :
    (replacePair n cause s).obj k = (seatSpare n m s).obj k := by
  obtain ⟨left, hr⟩ := replacePair_spare (n := n) (cause := cause) h
  rw [hr, (Books.resettle _).obj k hk, (spareEngaged_leaves ..).2 k (by grind [eventKeys])]

theorem replacePair_engages (h : sparePair s = some m) : Counted s (replacePair n cause s) O.spareEngagedCount 1 := by
  obtain ⟨left, hr⟩ := replacePair_spare (n := n) (cause := cause) h
  have hs : (seatSpare n m s).obj O.spareEngagedCount = s.obj O.spareEngagedCount :=
    (seatSpare_leaves n m s).2 _ (spareEngagedCount_not_mem_spareKeys (sparePair_spec h).1)
  refine Counted.of_obj hs ?_
  rw [Counted, hr, (Books.resettle _).obj _ (by decide)]
  exact spareEngaged_counted ..

end

section
variable {t cause k : Nat} {s : State}

theorem tileFault_sameBut : SameBut s (tileFault t cause s) faultParts := by
  rw [tileFault_eq]
  exact SameBut.trans (outOfService_sameBut t s) (replacePair_frame ..).1

variable (hr : s.obj (O.pairRole (t / 2)) = 0)
include hr

/-- The spare that a pair in service finds is another pair. -/
theorem sparePair_ne {m : Nat} (h : sparePair (outOfService t s) = some m) : m < 100 ∧ m ≠ t / 2 := by
  rw [sparePair_outOfService t s (by simp [hr])] at h
  obtain ⟨hm, h1⟩ := sparePair_spec h
  exact ⟨hm, fun e => by simp [e, hr] at h1⟩

/-- Objects that only the pair's leaving service can write read as it left them. -/
theorem tileFault_obj (hk : bookKey k = false) (he : k ∉ eventKeys) (hs : ∀ m, m < 100 → m ≠ t / 2 → k ∉ spareKeys m) :
    (tileFault t cause s).obj k = (outOfService t s).obj k := by
  rw [tileFault_eq]
  exact (replacePair_frame ..).2 k hk he fun m hm => hs m (sparePair_ne hr hm).1 (sparePair_ne hr hm).2

theorem tileFault_tileState {u : Nat} (hu : u < 200) (h : t / 2 = u / 2) :
    (tileFault t cause s).obj (O.tileState u) = (outOfService t s).obj (O.tileState u) :=
  tileFault_obj hr bookKey_of_tiles (by grind [eventKeys])
    fun _ _ hne => tileState_not_mem_spareKeys hu (h ▸ hne)

theorem tileFault_states (ht : t < 200) : (tileFault t cause s).obj (O.tileState t) = 3
    ∧ (tileFault t cause s).obj (O.tileState (partner t)) = 4 ∧ (tileFault t cause s).obj (O.pairRole (t / 2)) = 2 := by
  have hrole : (tileFault t cause s).obj (O.pairRole (t / 2)) = (outOfService t s).obj (O.pairRole (t / 2)) :=
    tileFault_obj hr bookKey_of_tiles (by grind [eventKeys])
      fun _ hm hne => pairRole_not_mem_spareKeys hm hne
  rw [tileFault_tileState hr ht rfl, tileFault_tileState hr (partner_lt ht) (partner_div t), hrole]
  exact outOfService_states t s

theorem tileFault_counted : Counted s (tileFault t cause s) O.tileFaults 1 := by
  rw [Counted, tileFault_obj hr (by decide) (by decide) fun m _ _ => tileFaults_not_mem_spareKeys m]
  exact outOfService_counted t s

/-- An object that neither the pair's leaving service nor a spare's take-over writes is as it was. -/
theorem tileFault_bondMismatches {n : Nat} (hn : n < 100) :
    (tileFault t cause s).obj (O.bondMismatches n) = s.obj (O.bondMismatches n) := by
  have hb : bookKey (O.bondMismatches n) = false := bookKey_of_tiles
  rw [tileFault_obj hr hb (by grind [eventKeys]) fun m _ _ => bondMismatches_not_mem_spareKeys n m]
  exact outOfService_obj t s hb (by grind [faultKeys])

/-- The spare pair takes over what the faulted pair was set to, and no longer counts as a spare. -/
theorem tileFault_spare {m : Nat} (ht : t < 200) (h : sparePair s = some m) :
    (tileFault t cause s).obj (O.pairRole m) = 0 ∧ (tileFault t cause s).obj (O.servesFor m) = roleOf s (t / 2)
      ∧ (tileFault t cause s).obj (O.bondMode m) = s.obj (O.bondMode (t / 2))
      ∧ (tileFault t cause s).obj (O.bondState m) = s.obj (O.bondMode (t / 2))
      ∧ (tileFault t cause s).obj (O.tileVl (2 * m)) = s.obj (O.tileVl (2 * (t / 2)))
      ∧ (tileFault t cause s).obj (O.tileVl (2 * m + 1)) = s.obj (O.tileVl (2 * (t / 2) + 1))
      ∧ (tileFault t cause s).obj O.tileSpares = (s.nat O.tileSpares - 2 : Nat)
      ∧ Counted s (tileFault t cause s) O.spareEngagedCount 1 := by
  have hm := (sparePair_spec h).1
  rw [← sparePair_outOfService t s (by simp [hr])] at h
  have hnew (k : Nat) (hk : k ∈ roleKeys m) : (tileFault t cause s).obj k = (seatSpare (t / 2) m (outOfService t s)).obj k :=
    tileFault_eq t cause s ▸ replacePair_obj h (bookKey_of_tiles (by grind [roleKeys]))
      (by grind [roleKeys, eventKeys])
  have hp := partner_lt ht
  have hold (k : Nat) (hk : k ∈ [O.servesFor (t / 2), O.bondMode (t / 2), O.tileVl (2 * (t / 2)), O.tileVl (2 * (t / 2) + 1)]) :
      (outOfService t s).obj k = s.obj k :=
    outOfService_obj t s bookKey_of_tiles (by grind [faultKeys])
  have hspares : (outOfService t s).obj O.tileSpares = s.obj O.tileSpares := outOfService_obj t s (by decide) (by grind [faultKeys])
  have hcount : (outOfService t s).obj O.spareEngagedCount = s.obj O.spareEngagedCount :=
    outOfService_obj t s (by decide) (by grind [faultKeys])
  simp only [roleKeys, List.forall_mem_cons] at hnew
  simp only [List.forall_mem_cons] at hold
  obtain ⟨hrole, hserves, hmode, hstate, hvl, hvl', -⟩ := hnew
  obtain ⟨gserves, gmode, gvl, gvl', -⟩ := hold
  obtain ⟨nrole, nserves, nmode, nstate, nvl, nvl'⟩ := seatSpare_gives (t / 2) m (outOfService t s) (by omega) hm
  refine ⟨hrole.trans nrole, hserves.trans (nserves.trans (by simp only [roleOf, gserves])), hmode.trans (nmode.trans gmode),
    hstate.trans (nstate.trans gmode), hvl.trans (nvl.trans gvl), hvl'.trans (nvl'.trans gvl'), ?_, ?_⟩
  · rw [tileFault_eq, replacePair_obj h (by decide) (by decide), seatSpare_spares, State.nat, hspares]
    rfl
  · rw [tileFault_eq]
    exact Counted.of_obj hcount (replacePair_engages h)

end

/-! ## A spare that fails its self-test (11 R357) -/

theorem bitOf_setBit (v n : Nat) : bitOf (setBit v n true) n = true := by
  unfold setBit
  rw [if_pos rfl]
  split
  · assumption
  · next h =>
    simp only [bitOf, beq_iff_eq] at h ⊢
    rw [Nat.add_div_right _ (Nat.two_pow_pos n)]
    omega

theorem bitOf_setCause (bit : Nat) (s : State) : bitOf ((setCause bit s).nat O.faultCauses) bit = true := by
  rw [State.nat, setCause, State.obj_setObj_same]
  exact bitOf_setBit _ _

/-- The objects of a spare pair that has failed. -/
def failedObjects (n : Nat) (s : State) : List (Nat × Int) :=
  [(O.tileState (2 * n), 3), (O.tileState (2 * n + 1), 3), (O.pairRole n, 2), (O.tileSpares, (s.nat O.tileSpares - 2 : Nat))]

section
variable (n : Nat) (s : State)

theorem spareGone_leaves (key : Nat) : Leaves s (spareGone key s) [.dict] [O.faultCauses] := by
  unfold spareGone
  split
  · exact Leaves.setCause 2 s (by decide) (by decide)
  · exact Leaves.refl s _ _

theorem loseSpare_eq : loseSpare n s = spareGone O.tileSpares (s.setAll (failedObjects n s)) := rfl

theorem loseSpare_leaves : Leaves s (loseSpare n s) [.dict]
    [O.pairRole n, O.tileState (2 * n), O.tileState (2 * n + 1), O.tileSpares, O.faultCauses] := by
  rw [loseSpare_eq]
  refine Leaves.trans (Leaves.setAll s (failedObjects n s) (by decide) ?_)
    ⟨(spareGone_leaves _ _).1, fun k hk => (spareGone_leaves _ _).2 k (by simp_all)⟩
  simp [failedObjects]

theorem loseSpare_obj (hn : n < 100) : ∀ p ∈ failedObjects n s, (loseSpare n s).obj p.1 = p.2 := by
  intro p hp
  have hnodup : ((failedObjects n s).map (·.1)).Nodup := by
    simp only [failedObjects, List.map_cons, List.map_nil, List.nodup_cons, List.mem_cons, List.not_mem_nil]
    grind
  rw [loseSpare_eq, (spareGone_leaves _ _).2 _ (by grind [failedObjects])]
  exact State.obj_setAll_of_mem s _ hnodup hp

/-- The last spare pair that fails sets bit 2 of FAULT_CAUSES (17 R576). -/
theorem loseSpare_last (hn : n < 100) (h : s.nat O.tileSpares ≤ 2) : bitOf ((loseSpare n s).nat O.faultCauses) 2 = true := by
  have hspares : (s.setAll (failedObjects n s)).obj O.tileSpares = 0 := by
    have := loseSpare_obj n s hn (O.tileSpares, (s.nat O.tileSpares - 2 : Nat)) (by simp [failedObjects])
    rw [loseSpare_eq, (spareGone_leaves _ _).2 O.tileSpares (by decide)] at this
    rw [this, Nat.sub_eq_zero_of_le h]; rfl
  rw [loseSpare_eq, spareGone, if_pos (beq_iff_eq.mpr hspares)]
  exact bitOf_setCause 2 _

end

/-! ## Vector lengths (11 R398, R403) -/

theorem applyVl_leaves (t : Nat) (s : State) :
    Leaves s (applyVl t s) [.dict] [O.tileVlActive (2 * (t / 2)), O.tileVlActive (2 * (t / 2) + 1)] := by
  unfold applyVl
  extract_lets n
  split
  · split
    · exact Leaves.refl s _ _
    · exact Leaves.setObj s _ _ (by decide) (by grind)
  · split
    · exact Leaves.refl s _ _
    · exact setVls_leaves n s

/-- Of a pair without a bond, each tile has its own length. -/
theorem applyVl_single {t : Nat} {s : State} (h : s.obj (O.bondState (t / 2)) = 0) :
    applyVl t s = if tileHolds s t = true then s else s.setObj (O.tileVlActive t) (s.nat (O.tileVl t) : Nat) := by
  simp [applyVl, vlFor, h]

theorem setVls_obj (n : Nat) (s : State) {t : Nat} (h : t / 2 = n) : (setVls n s).obj (O.tileVlActive t) = (vlFor s t : Nat) := by
  obtain rfl | rfl : t = 2 * n ∨ t = 2 * n + 1 := by omega
  all_goals grind [setVls, State.obj_setObj]

/-- In a bond, both tiles take the length that the bond and the leader's TILE_VL give. -/
theorem applyVl_bonded {t : Nat} {s : State} (h : s.obj (O.bondState (t / 2)) ≠ 0) (h0 : tileHolds s (2 * (t / 2)) = false)
    (h1 : tileHolds s (2 * (t / 2) + 1) = false) : applyVl t s = setVls (t / 2) s := by
  simp [applyVl, h, h0, h1]

/-! ## Claims, and a write as it is served -/

/-- What the partitions claim and have follows from the objects alone. -/
theorem claimsMet_congr {s t : State} (h : t.dict = s.dict) : claimsMet t = claimsMet s := by
  have ho := State.obj_congr h
  have hp : t.pairSlots = s.pairSlots := funext fun n => by simp [State.pairSlots, State.pairServes, ho]
  simp [claimsMet, State.holds, State.nat, State.slotsOf, State.tileSlots, State.slotForm, State.partForm, ho, hp]

theorem State.setObj_dict_congr {s t : State} (h : t.dict = s.dict) (k : Nat) (v : Int) : (t.setObj k v).dict = (s.setObj k v).dict := by
  simp only [State.setObj, h]

theorem setVls_dict_congr {s t : State} (h : t.dict = s.dict) (n : Nat) : (setVls n t).dict = (setVls n s).dict := by
  have hv : ∀ u, vlFor t u = vlFor s u := fun u => by simp only [vlFor, State.nat, State.obj_congr h]
  simp only [setVls, hv]
  exact State.setObj_dict_congr (State.setObj_dict_congr h _ _) _ _

@[simp] theorem atWrite_dict (s : State) (x : Xfer) (key : Nat) (v : Val) : (atWrite s x key v).dict = s.dict := by
  unfold atWrite
  dsimp only
  split <;> simp

theorem atWrite_sameBut (s : State) (x : Xfer) (key : Nat) (v : Val) :
    SameBut s (atWrite s x key v) (if lengthOf key v ≤ 1024 then timeParts else .svc :: timeParts) := by
  unfold atWrite
  dsimp only
  split
  · exact SameBut.advance s _ _ fun _ h => h
  · refine SameBut.trans (SameBut.advance s x.dt _ fun _ h => List.mem_cons_of_mem _ h) fun p hp => ?_
    cases p <;> simp_all [Part.same]

theorem tileHolds_atWrite (s : State) (x : Xfer) (key : Nat) (v : Val) (t : Nat) : tileHolds (atWrite s x key v) t = tileHolds s t := by
  unfold atWrite
  dsimp only
  split <;> simp [tileHolds]

/-- A served write whose action changes the dictionary and parts beside the link's: its answer, and what its objects read. -/
theorem hostWrite_answers {x : Xfer} {key : Nat} {v : Val} {act : Action} {s u : State} {r : Reason} {ps : List Part} {ks : List Nat}
    (h : Accepts s x key v) (ha : act (atWrite s x key v) = (r, u)) (hu : Leaves (atWrite s x key v) u (.dict :: ps) ks)
    (hl : Part.link ∉ Part.dict :: ps) :
    Answers s (Machine.hostWrite x key v act s) x key v r ps ks
      ∧ ∀ j, j ∉ [O.transfersServed, O.transfersRefused, O.busyReplies] → (Machine.hostWrite x key v act s).obj j = u.obj j := by
  have hlink : u.link = s.link := (hu.1 .link hl).trans (by simp)
  have hparts : SameBut s u (ps ++ .dict :: .link :: (if lengthOf key v ≤ 1024 then timeParts else .svc :: timeParts)) :=
    SameBut.trans (SameBut.mono (atWrite_sameBut s x key v) (by grind)) (SameBut.mono hu.1 (by grind))
  obtain ⟨hr, hp, ho, hj⟩ := hostWrite_via x h ha (congrArg _ hlink) hparts (by simp) (by simp) fun k hk =>
    (hu.2 k hk).trans (atWrite_obj ..)
  exact ⟨⟨hr, hp, ho⟩, hj⟩

/-! ## The write of TILE_VL (11 R398; 13 R429) -/

theorem tileHolds_change (s : State) (k : Nat) (v : Int) (t : Nat) : tileHolds (s.change k v) t = tileHolds s t := by
  simp [tileHolds]

theorem bondState_change_tileVl {t : Nat} (v : Int) (s : State) (ht : t < 200) :
    (s.change (O.tileVl t) v).obj (O.bondState (t / 2)) = s.obj (O.bondState (t / 2)) :=
  State.obj_change_ne _ _ _ _ (by grind) (by grind)

theorem actTileVl_single {t : Nat} {v : Int} {s : State} (ht : t < 200) (h : s.obj (O.bondState (t / 2)) = 0) :
    actTileVl t v s = if claimsMet ((s.change (O.tileVl t) v).setObj (O.tileVlActive t) v.toNat) = true
      then (.ok, applyVl t (s.change (O.tileVl t) v)) else (.bondConflict, s) := by
  have hb := (bondState_change_tileVl v s ht).trans h
  have hv : vlFor (s.change (O.tileVl t) v) t = v.toNat := by
    simp [vlFor, hb, State.nat, State.obj_change_same s (O.tileVl t) v (by grind)]
  simp [actTileVl, h, hv]

theorem applyVl_change_leaves (t : Nat) (v : Int) (s : State) (h : s.obj (O.bondState (t / 2)) = 0) (ht : t < 200) :
    Leaves s (applyVl t (s.change (O.tileVl t) v)) [.dict] [O.tileVl t, O.tileVlActive t, O.changeCount] := by
  have hb := (bondState_change_tileVl v s ht).trans h
  have hc : Leaves s (s.change (O.tileVl t) v) [.dict] [O.tileVl t, O.tileVlActive t, O.changeCount] :=
    ⟨SameBut.change s _ _ _ (by decide), fun k hk => State.obj_change_ne _ _ _ _ (by grind) (by grind)⟩
  rw [applyVl_single hb]
  split
  · exact hc
  · exact Leaves.trans hc (Leaves.setObj _ _ _ (by decide) (by simp))

/-- TILE_VL reads the value written, and it is in force where the tile holds no task. -/
theorem applyVl_change_obj {t : Nat} {v : Int} {s : State} (h : s.obj (O.bondState (t / 2)) = 0) (ht : t < 200) :
    (applyVl t (s.change (O.tileVl t) v)).obj (O.tileVl t) = v
      ∧ (applyVl t (s.change (O.tileVl t) v)).obj (O.tileVlActive t)
        = if tileHolds s t = true then s.obj (O.tileVlActive t) else (v.toNat : Int) := by
  have hb := (bondState_change_tileVl v s ht).trans h
  have hv : (s.change (O.tileVl t) v).obj (O.tileVl t) = v := State.obj_change_same s _ v (by grind)
  have ha : (s.change (O.tileVl t) v).obj (O.tileVlActive t) = s.obj (O.tileVlActive t) :=
    State.obj_change_ne _ _ _ _ (by grind) (by grind)
  rw [applyVl_single hb, tileHolds_change]
  split
  · exact ⟨hv, ha⟩
  · exact ⟨(State.obj_setObj_ne _ _ _ _ (by grind)).trans hv, by rw [State.obj_setObj_same, State.nat, hv]⟩

/-! ## The write of BOND_MODE (11 R404, R405) -/

/-- A pair in service, with no change pending and its mode in force: the write does nothing. -/
theorem actBondMode_inForce {n : Nat} {v : Int} {s : State} (hr : s.obj (O.pairRole n) = 0) (hs : s.obj (O.bondState n) = v)
    (hm : s.obj (O.bondMode n) = v) : actBondMode n v s = (.ok, s) := by
  simp [actBondMode, hr, hs, hm]

/-- What a change to a mode is refused for. -/
def bondRefused (n : Nat) (v : Int) (s : State) : Prop :=
  s.obj (O.pairRole n) ≠ 0 ∨ otherHeaders s n + (if v = 2 then 1 else 0) < s.nat O.headerMin
    ∨ claimsMet (setVls n (s.setObj (O.bondState n) v)) = false

theorem actBondMode_refused {n : Nat} {v : Int} {s : State}
    (hn : ¬(s.obj (O.pairRole n) = 0 ∧ s.obj (O.bondState n) = v ∧ s.obj (O.bondMode n) = v)) (h : bondRefused n v s) :
    actBondMode n v s = (.bondConflict, s) := by
  unfold actBondMode
  by_cases hr : s.obj (O.pairRole n) = 0
  · obtain hr' | h := h
    · exact absurd hr hr'
    · rw [if_neg (by simp [hr]), if_neg (by simpa [hr] using hn)]
      exact if_pos (by simpa using h)
  · exact if_pos (by simpa using hr)

/-- The state in which a pair reads CHANGING, its former mode is kept, and no copy waits for its tiles. -/
def markChanging (n : Nat) (v : Int) (s : State) : State :=
  let t := (s.change (O.bondMode n) v).setObj (O.bondState n) 3
  { t with bondWas := Store.put s.bondWas n (s.nat (O.bondState n)),
           sched := { t.sched with copies := Store.drop (Store.drop t.sched.copies (2 * n)) (2 * n + 1) } }

/-- The tasks that wait as next on the tiles of a pair. -/
def nextTasks (n : Nat) (s : State) : List Nat :=
  (s.sched.ops.filter fun e => e.2.cls == 0 && e.2.unit / 2 == n && e.2.unit != 0xFFFF && e.2.next && e.2.state == .dispatched).map (·.1)

/-- The state once these have gone back. -/
def startChange (n : Nat) (v : Int) (s : State) : State := (nextTasks n s).foldl rerunOp (markChanging n v s)

theorem actBondMode_changes {n : Nat} {v : Int} {s : State} (hs : s.obj (O.bondState n) ≠ v) (h3 : s.obj (O.bondState n) ≠ 3)
    (h : ¬bondRefused n v s) (hd : s.runs (2 + n / 10) = true) : actBondMode n v s = (.ok, startChange n v s) := by
  simp only [bondRefused, not_or, not_not, not_lt, Bool.not_eq_false] at h
  obtain ⟨hr, hh, hc⟩ := h
  unfold actBondMode
  rw [if_neg (by simp [hr]), if_neg (by simp [hs])]
  extract_lets after headers changed reverted changing marked tags sched freed returned
  rw [if_neg (by simpa [hc, after, headers] using hh), if_neg (by simpa using h3), if_pos hd]
  rfl

theorem startChange_books (n : Nat) (v : Int) (s : State) : Books bookParts (markChanging n v s) (startChange n v s) :=
  Books.foldl _ _ (fun tag _ s => Books.rerunOp s tag) _

section
variable (n : Nat) (v : Int) (s : State)

theorem startChange_sameBut : SameBut s (startChange n v s) [.bondWas, .dict, .kiln, .link, .pipe, .sched, .svc] := by
  refine SameBut.trans (fun p hp => ?_) (SameBut.mono (startChange_books n v s).parts (by decide))
  cases p <;> simp_all [Part.same, markChanging]

theorem startChange_bondWas : Store.find (startChange n v s).bondWas n = some (s.nat (O.bondState n)) := by
  rw [(startChange_books n v s).parts .bondWas (by decide)]
  exact Store.find_put_same _ _ _

theorem startChange_sent : (startChange n v s).link.sent = s.link.sent := by
  rw [(startChange_books n v s).sent]
  simp [markChanging]

theorem startChange_bond (hn : n < 100) : (startChange n v s).obj (O.bondMode n) = v ∧ (startChange n v s).obj (O.bondState n) = 3 := by
  have h (k : Nat) : (markChanging n v s).obj k = ((s.change (O.bondMode n) v).setObj (O.bondState n) 3).obj k :=
    State.obj_congr (by simp only [markChanging]) k
  have hb := startChange_books n v s
  rw [hb.obj _ bookKey_of_tiles, hb.obj _ bookKey_of_tiles, h, h,
    State.obj_setObj_same, State.obj_setObj_ne _ _ _ _ (by grind), State.obj_change_same _ _ _ (by grind)]
  exact ⟨rfl, rfl⟩

end

/-- Time's passing changes nothing of what a change is refused for. -/
theorem bondRefused_atWrite (n : Nat) (v : Int) (s : State) (x : Xfer) (key : Nat) (w : Val) :
    bondRefused n v (atWrite s x key w) ↔ bondRefused n v s := by
  have hc : claimsMet (setVls n ((atWrite s x key w).setObj (O.bondState n) v)) = claimsMet (setVls n (s.setObj (O.bondState n) v)) :=
    claimsMet_congr (setVls_dict_congr (State.setObj_dict_congr (atWrite_dict ..) _ _) n)
  simp [bondRefused, otherHeaders, State.nat, hc]

/-! ## Bytes of memory under a load (19 R614; log entry 28) -/

theorem memByte_memPutAll {a : Nat} {cells : List Host.Cell} (h : ∀ e ∈ cells, e.1 ≠ a) (m : List Host.Cell) :
    memByte (memPutAll cells m) a = memByte m a := by
  unfold memPutAll
  induction cells generalizing m with
  | nil => rfl
  | cons c cells ih =>
    obtain ⟨hc, hl⟩ := List.forall_mem_cons.mp h
    exact (ih hl _).trans (Store.at_putD_ne _ _ _ _ _ _ hc.symm)

theorem memByte_memClear (m : List Host.Cell) (b n a : Nat) :
    memByte (memClear m b n) a = if b ≤ a ∧ a < b + n then 0 else memByte m a := by
  unfold memByte memClear Store.at
  induction m with
  | nil => simp [Store.find]
  | cons c m ih => grind [Store.find]

/-- The bytes of an image lie in the memory of its tile. -/
theorem imageCells_range {s : State} {t : Nat} : ∀ e ∈ imageCells s t, tileAddr t ≤ e.1 ∧ e.1 < tileAddr t + 0x80000 := by
  intro e he
  obtain ⟨c, -, hc⟩ := List.mem_filterMap.mp he
  grind

theorem imageCells_congr {s u : State} {t : Nat} (hb : u.obj (O.bondState (t / 2)) = s.obj (O.bondState (t / 2))) (hi : u.boot = s.boot) :
    imageCells u t = imageCells s t := by
  simp only [imageCells, hb, hi]

section
variable {s : State} {t a : Nat}

theorem loadTile_blank (h1 : tileAddr t ≤ a) (h2 : a < tileAddr t + 0x80000) (h : ∀ e ∈ imageCells s t, e.1 ≠ a) :
    memByte (loadTile t s).mem a = 0 :=
  (memByte_memPutAll h _).trans ((memByte_memClear ..).trans (if_pos ⟨h1, h2⟩))

theorem loadTile_outside (h : a < tileAddr t ∨ tileAddr t + 0x80000 ≤ a) : memByte (loadTile t s).mem a = memByte s.mem a :=
  (memByte_memPutAll (fun e he => by have := imageCells_range e he; omega) _).trans ((memByte_memClear ..).trans (if_neg (by omega)))

end

/-! ## The end of a change of bond (11 R405) -/

/-- The state in which a pair has its new mode and no memory is loaded yet. -/
def takeMode (n : Nat) (s : State) : State :=
  ({ s with bondWas := Store.drop s.bondWas n }.setObj (O.bondState n) (s.obj (O.bondMode n))).bump (O.bondChanges n) 1

/-- The state in which the memories of both tiles are loaded. -/
def loadPair (n : Nat) (s : State) : State := loadTile (2 * n + 1) (loadTile (2 * n) s)

theorem finishBond_eq (n : Nat) (s : State) : finishBond n s = resettle (setVls n (loadPair n (takeMode n s))) := rfl

section
variable (n : Nat) (s : State)

theorem takeMode_leaves : Leaves s (takeMode n s) [.bondWas, .dict] [O.bondState n, O.bondChanges n] :=
  Leaves.trans (Leaves.setBondWas s _ (by decide))
    (Leaves.trans (Leaves.setObj _ _ _ (by decide) (by simp)) (Leaves.bump _ _ _ (by decide) (by simp)))

theorem takeMode_bondState : (takeMode n s).obj (O.bondState n) = s.obj (O.bondMode n) := by
  rw [takeMode, State.obj_bump_ne _ _ _ _ (by grind), State.obj_setObj_same]

theorem takeMode_counted : Counted s (takeMode n s) (O.bondChanges n) 1 := by
  have h : ({ s with bondWas := Store.drop s.bondWas n }.setObj (O.bondState n) (s.obj (O.bondMode n))).obj (O.bondChanges n)
      = s.obj (O.bondChanges n) := (State.obj_setObj_ne _ _ _ _ (by grind)).trans (State.obj_congr rfl _)
  exact Counted.of_obj h (State.obj_bump_same _ (O.bondChanges n) 1)

theorem loadPair_leaves : Leaves s (loadPair n s) [.mem] [] :=
  Leaves.of_dict (fun p hp => by cases p <;> simp_all [Part.same, loadPair, loadTile]) rfl

theorem loadPair_blank {u a : Nat} (hu : u / 2 = n) (h1 : tileAddr u ≤ a) (h2 : a < tileAddr u + 0x80000)
    (h : ∀ e ∈ imageCells s u, e.1 ≠ a) : memByte (loadPair n s).mem a = 0 := by
  obtain rfl | rfl : u = 2 * n ∨ u = 2 * n + 1 := by omega
  · exact (loadTile_outside (by unfold tileAddr at *; omega)).trans (loadTile_blank h1 h2 h)
  · exact loadTile_blank h1 h2 (imageCells_congr (s := s) (State.obj_congr rfl _) rfl ▸ h)

theorem loadPair_outside {a : Nat} (h : ∀ u, u / 2 = n → a < tileAddr u ∨ tileAddr u + 0x80000 ≤ a) :
    memByte (loadPair n s).mem a = memByte s.mem a :=
  (loadTile_outside (h _ (by omega))).trans (loadTile_outside (h _ (by omega)))

theorem finishBond_books : Books bookParts (setVls n (loadPair n (takeMode n s))) (finishBond n s) := finishBond_eq n s ▸ Books.resettle _

theorem finishBond_sameBut : SameBut s (finishBond n s) [.bondWas, .dict, .kiln, .link, .mem, .pipe, .sched, .svc] :=
  SameBut.trans (SameBut.mono (takeMode_leaves n s).1 (by decide)) (SameBut.trans (SameBut.mono (loadPair_leaves n _).1 (by decide))
    (SameBut.trans (SameBut.mono (setVls_leaves n _).1 (by decide)) (SameBut.mono (finishBond_books n s).parts (by decide))))

theorem finishBond_mem : (finishBond n s).mem = (loadPair n (takeMode n s)).mem :=
  ((finishBond_books n s).parts .mem (by decide)).trans ((setVls_leaves n _).1 .mem (by decide))

theorem finishBond_obj {k : Nat} (hk : bookKey k = false) (hv : k ∉ [O.tileVlActive (2 * n), O.tileVlActive (2 * n + 1)]) :
    (finishBond n s).obj k = (takeMode n s).obj k := by
  rw [(finishBond_books n s).obj k hk, (setVls_leaves n _).2 k hv, (loadPair_leaves n _).2 k List.not_mem_nil]

variable (hn : n < 100)
include hn

theorem finishBond_bondState : (finishBond n s).obj (O.bondState n) = (takeMode n s).obj (O.bondState n) :=
  finishBond_obj n s bookKey_of_tiles (by grind)

theorem finishBond_counted : Counted s (finishBond n s) (O.bondChanges n) 1 := by
  rw [Counted, finishBond_obj n s bookKey_of_tiles (by grind)]
  exact takeMode_counted n s

theorem finishBond_imageCells {u : Nat} (hu : u / 2 = n) : imageCells (finishBond n s) u = imageCells (takeMode n s) u := by
  have hboot : (finishBond n s).boot = (takeMode n s).boot :=
    (finishBond_sameBut n s .boot (by decide)).trans ((takeMode_leaves n s).1 .boot (by decide)).symm
  exact imageCells_congr (by rw [hu]; exact finishBond_bondState n s hn) hboot

end

end Sys2Proof.Machine

open Sys2Proof Sys2Proof.Machine Sys2Proof.Safety

/-- Settles O40: each clause follows from the equations and frames of its command. -/
theorem tileFaultsAndBonds : Obligations.TileFaultsAndBonds := by
  unfold Obligations.TileFaultsAndBonds
  refine ⟨?fault, ?mismatch, ?selfTest, ?writeVl, ?applyVl, ?refused, ?changes, ?complete⟩
  case fault =>
    intro t m s ht hr hm
    have hs : exec (.tileFault t) s = .next (tileFault t 0 s) := (if_neg (not_le.mpr ht)).trans (if_pos (beq_iff_eq.mpr hr))
    obtain ⟨hstate, hpartner, hrole⟩ := tileFault_states (cause := 0) hr ht
    obtain ⟨hnew, hserves, hmode, hbond, hvl, hvl', hspares, hcount⟩ := tileFault_spare (cause := 0) hr ht hm
    simp only [partner, beq_iff_eq] at hpartner
    simp only [roleOf, beq_iff_eq] at hserves
    exact ⟨_, hs, hstate, hpartner, hrole, hnew, hmode, hbond, hvl, hvl', hserves, hspares, tileFault_counted hr, hcount,
      tileFault_sameBut⟩
  case mismatch =>
    intro n s hn hr hb
    have hs : exec (.bondMismatch n) s = .next (tileFault (2 * n) 0 (s.bump (O.bondMismatches n) 1)) :=
      (if_neg (not_le.mpr hn)).trans (if_pos (by simp [hr, hb]))
    have hn2 : 2 * n / 2 = n := by omega
    have hr' : (s.bump (O.bondMismatches n) 1).obj (O.pairRole (2 * n / 2)) = 0 := by
      rw [hn2, State.obj_bump_ne _ _ _ _ (by grind), hr]
    refine ⟨_, hs, ?_, ?_, ?_, ?_⟩
    · rw [Counted, tileFault_bondMismatches hr' hn]
      exact State.obj_bump_same ..
    · exact Counted.of_obj (State.obj_bump_ne _ _ _ _ (by grind)) (tileFault_counted hr')
    · have hrole := (tileFault_states (cause := 0) hr' (by omega)).2.2
      rwa [hn2] at hrole
    · exact SameBut.trans (SameBut.bump _ _ _ _ (by decide)) tileFault_sameBut
  case selfTest =>
    intro n s hn hr
    have hfail : exec (.spareSelfTest n false) s = .next (loseSpare n s) := (if_neg (not_le.mpr hn)).trans (if_pos (by simp [hr]))
    have hpass : exec (.spareSelfTest n true) s = .next s := (if_neg (not_le.mpr hn)).trans (if_neg (by simp))
    have hobj := loseSpare_obj n s hn
    simp only [failedObjects, List.forall_mem_cons] at hobj
    obtain ⟨hlead, hother, hrole, hspares, -⟩ := hobj
    exact ⟨⟨_, hfail, hrole, hlead, hother, hspares, loseSpare_last n s hn, loseSpare_leaves n s⟩, hpass⟩
  case writeVl =>
    intro x t v s ht ha hb
    have hs : exec (.writeTileVl x t v) s = .next (hostWrite x (O.tileVl t) (.num v) (actTileVl t v) s) := if_neg (not_le.mpr ht)
    have hb' : (atWrite s x (O.tileVl t) (.num v)).obj (O.bondState (t / 2)) = 0 := (atWrite_obj ..).trans hb
    have hc : claimsMet (((atWrite s x (O.tileVl t) (.num v)).change (O.tileVl t) v).setObj (O.tileVlActive t) v.toNat)
        = claimsMet ((s.change (O.tileVl t) v).setObj (O.tileVlActive t) v.toNat) :=
      claimsMet_congr (State.setObj_dict_congr (State.change_dict_congr (atWrite_dict ..) _ _) _ _)
    have hact := actTileVl_single (v := v) ht hb'
    rw [hc] at hact
    refine ⟨_, hs, ?_⟩
    split
    · next hmet =>
      rw [if_pos hmet] at hact
      obtain ⟨hans, hobj⟩ := hostWrite_answers ha hact (applyVl_change_leaves t v _ hb' ht) (by decide)
      obtain ⟨hvl, hactive⟩ := applyVl_change_obj (v := v) hb' ht
      refine ⟨hans, (hobj _ (by grind)).trans hvl, (hobj _ (by grind)).trans (hactive.trans ?_)⟩
      rw [tileHolds_atWrite, atWrite_obj]
    · next hmet =>
      rw [if_neg hmet] at hact
      exact (hostWrite_answers ha hact (Leaves.refl _ _ _) (by decide)).1
  case applyVl =>
    intro t s ht
    have hs : exec (.tileVlApply t) s = .next (applyVl t s) := if_neg (not_le.mpr ht)
    refine ⟨_, hs, applyVl_leaves t s, fun hb => ?_, fun hb h0 h1 => ?_, fun hb h0 h1 => ?_⟩
    · rw [applyVl_single hb]
      split <;> simp
    · rw [applyVl_bonded (by simp [hb]) h0 h1, setVls_obj _ _ rfl]
      simp [vlFor, hb]
    · rw [applyVl_bonded (by simp [hb]) h0 h1, setVls_obj _ _ rfl]
      simp [vlFor, hb]
  case refused =>
    intro x n v s hn ha
    have hs : exec (.writeBondMode x n v) s = .next (hostWrite x (O.bondMode n) (.num v) (actBondMode n v) s) := if_neg (not_le.mpr hn)
    refine ⟨_, hs, ?_⟩
    split
    · next h =>
      obtain ⟨hr, hb, hm⟩ := h
      exact (hostWrite_answers ha (actBondMode_inForce ((atWrite_obj ..).trans hr) ((atWrite_obj ..).trans hb) ((atWrite_obj ..).trans hm))
        (Leaves.refl _ _ _) (by decide)).1
    · next h =>
      intro hf
      exact (hostWrite_answers ha (actBondMode_refused (by simpa using h) ((bondRefused_atWrite ..).mpr hf)) (Leaves.refl _ _ _)
        (by decide)).1
  case changes =>
    intro x n v s hn ha hr hb h3 hh hc hd
    have hs : exec (.writeBondMode x n v) s = .next (hostWrite x (O.bondMode n) (.num v) (actBondMode n v) s) := if_neg (not_le.mpr hn)
    have hf : ¬bondRefused n v s := by simp [bondRefused, hr, hh, hc]
    have hact := actBondMode_changes (s := atWrite s x (O.bondMode n) (.num v)) (by simpa using hb) (by simpa using h3)
      ((bondRefused_atWrite ..).not.mpr hf) (by simpa [State.runs] using hd)
    obtain ⟨hreply, hsame, hobj⟩ := hostWrite_full x _ _ _ s _ _ ha hact ((startChange_sent ..).trans (by simp))
    obtain ⟨hmode, hstate⟩ := startChange_bond n v (atWrite s x (O.bondMode n) (.num v)) hn
    refine ⟨_, hs, hreply, (hobj _ (by grind)).trans hmode, (hobj _ (by grind)).trans hstate, ?_, ?_⟩
    · rw [hsame .bondWas (by decide), startChange_bondWas, State.nat, atWrite_obj]
      rfl
    · exact SameBut.trans (SameBut.mono (atWrite_sameBut s x _ _) (by split <;> decide)) (SameBut.trans
        (SameBut.mono (startChange_sameBut n v _) (by decide)) (SameBut.mono hsame (by decide)))
  case complete =>
    intro n s hn hr hb h0 h1
    have hs : exec (.bondChangeComplete n) s = .next (finishBond n s) :=
      (if_neg (not_le.mpr hn)).trans (if_pos (by simp [hr, hb, h0, h1]))
    refine ⟨_, hs, (finishBond_bondState n s hn).trans (takeMode_bondState n s), finishBond_counted n s hn, ?_, ?_,
      finishBond_sameBut n s⟩
    · intro u a hu hlo hhi hcells
      rw [finishBond_mem]
      exact loadPair_blank n _ hu hlo hhi (finishBond_imageCells n s hn hu ▸ hcells)
    · intro a ha
      rw [finishBond_mem, loadPair_outside n _ ha, (takeMode_leaves n s).1 .mem (by decide)]
end

section
/-! SUPPORT. Power domains, the votes on them and VDD_CORE (18): what votes resolve to, what a transition's start and end change, what an
exchange on the AVSBus leaves, and the statement about them assembled from these. -/

namespace Sys2Proof.Machine

open Sys2Proof.Safety

/-! ## Frames of folds, of the power and of contents -/

theorem Leaves.foldl {α : Type} {ps : List Part} {ks : List Nat} (f : State → α → State) (l : List α)
    (h : ∀ a ∈ l, ∀ s, Leaves s (f s a) ps ks) (s : State) : Leaves s (l.foldl f s) ps ks := by
  induction l generalizing s with
  | nil => exact Leaves.refl s ps ks
  | cons a l ih =>
    obtain ⟨ha, hl⟩ := List.forall_mem_cons.mp h
    exact Leaves.trans (ha s) (ih hl _)

theorem Leaves.mono {s t : State} {ps qs : List Part} {ks ls : List Nat} (h : Leaves s t ps ks) (hp : ∀ p ∈ ps, p ∈ qs)
    (hk : ∀ k ∈ ks, k ∈ ls) : Leaves s t qs ls :=
  ⟨SameBut.mono h.1 hp, fun k hn => h.2 k fun hm => hn (hk k hm)⟩

theorem Leaves.onPower (s : State) (f : Power → Power) {ps : List Part} {ks : List Nat} (h : Part.power ∈ ps) :
    Leaves s (s.onPower f) ps ks :=
  Leaves.of_dict (fun p hn => by cases p <;> simp_all [Part.same]) rfl

theorem Leaves.onRail (s : State) (f : Rail → Rail) {ps : List Part} {ks : List Nat} (h : Part.power ∈ ps) :
    Leaves s (s.onRail f) ps ks :=
  Leaves.onPower s _ h

theorem Leaves.setMem (s : State) (m : List Host.Cell) {ps : List Part} {ks : List Nat} (h : Part.mem ∈ ps) :
    Leaves s { s with mem := m } ps ks :=
  Leaves.of_dict (fun p hn => by cases p <;> simp_all [Part.same]) rfl

theorem Leaves.onPort (s : State) (p : Nat) (f : PortIo → PortIo) {ps : List Part} {ks : List Nat} (h : Part.fh ∈ ps) :
    Leaves s (s.onPort p f) ps ks :=
  Leaves.of_dict (fun q hn => by cases q <;> simp_all [Part.same]) rfl

theorem loadTile_leaves (t : Nat) (s : State) : Leaves s (loadTile t s) [.mem] [] := Leaves.setMem s _ (by decide)

theorem resetChain_leaves (b : Int) (s : State) (c : Nat) : Leaves s (resetChain b s c) [.dfe] [] := by
  unfold resetChain
  split
  · exact Leaves.refl s _ _
  · exact Leaves.of_dict (fun p hn => by cases p <;> simp_all [Part.same]) rfl

theorem Store.mem_of_find {α : Type} {m : Store α} {k : Nat} {v : α} (h : Store.find m k = some v) : (k, v) ∈ m := by
  induction m with
  | nil => cases h
  | cons e m ih => grind [Store.find]

/-! ## Votes (18 R583 to R585) -/

theorem actHostVote_capped {d : Nat} {v : Int} {s : State} (h : s.obj O.tjHostCap ≤ s.obj O.tj ∧ 3 ≤ v) :
    actHostVote d v s = (.thermalLimit, s) :=
  if_pos (by simpa [tooHot] using h)

theorem actHostVote_counts {d : Nat} {v : Int} {s : State} (h : ¬(s.obj O.tjHostCap ≤ s.obj O.tj ∧ 3 ≤ v)) :
    actHostVote d v s = (.ok, s.change (O.hostVote d) v) :=
  if_neg (by simpa [tooHot] using h)

theorem hostVoteOf_eq (s : State) (d : Nat) :
    hostVoteOf s d = if s.obj O.tjHostCap ≤ s.obj O.tj ∧ 3 ≤ s.nat (O.hostVote d) then 0 else s.nat (O.hostVote d) := by
  simp [hostVoteOf, tooHot]

theorem schedVote_dispatched {s : State} {tag : Nat} {o : Op} (ho : s.op tag = some o) (h : o.state = .dispatched) :
    schedVote s (unitDomain o.cls o.unit) = 4 :=
  if_pos (List.any_eq_true.mpr ⟨(tag, o), Store.mem_of_find ho, by simp [h]⟩)

/-- One vote for RUN is enough. -/
theorem domainTargetOf_run {s : State} {d : Nat} (h : schedVote s d = 4) : domainTargetOf s d = 0 := by
  simp only [domainTargetOf, votesOf, h, List.foldl_cons, List.foldl_nil]
  split
  · rfl
  · omega

/-! ## The objects and the frames of a transition (18 R581, R587 to R591) -/

/-- The objects that show the states of a domain's tiles. -/
def tileKeys (d : Nat) : List Nat := (domainTiles d).map O.tileState

/-- Those of its channels. -/
def chanKeys (d : Nat) : List Nat := (domainChans d).map O.chState

/-- The numbers of a block of `n` in a row. -/
theorem mem_map_range_block {n k i : Nat} (hn : 0 < n) : i ∈ (List.range n).map (· + k * n) ↔ i / n = k := by
  simp only [List.mem_map, List.mem_range]
  constructor
  · rintro ⟨j, hj, rfl⟩
    rw [Nat.add_mul_div_right _ _ hn, Nat.div_eq_of_lt hj, zero_add]
  · rintro rfl
    exact ⟨i % n, Nat.mod_lt _ hn, by rw [Nat.mul_comm, Nat.mod_add_div]⟩

theorem mem_domainTiles {t d : Nat} : t ∈ domainTiles d ↔ t < 200 ∧ t / 20 + 2 = d := by
  unfold domainTiles
  split
  · next h =>
    rw [mem_map_range_block (by decide)]
    simp only [Bool.and_eq_true, decide_eq_true_eq] at h
    omega
  · next h =>
    simp only [Bool.and_eq_true, decide_eq_true_eq, List.not_mem_nil, false_iff] at h ⊢
    omega

theorem mem_domainChans {c d : Nat} : c ∈ domainChans d ↔ c < 16 ∧ c / 4 + 26 = d := by
  unfold domainChans
  split
  · next h =>
    rw [mem_map_range_block (by decide)]
    simp only [Bool.and_eq_true, decide_eq_true_eq] at h
    omega
  · next h =>
    simp only [Bool.and_eq_true, decide_eq_true_eq, List.not_mem_nil, false_iff] at h ⊢
    omega

theorem mem_tileKeys {k d : Nat} (h : k ∈ tileKeys d) : ∃ t, t < 200 ∧ k = O.tileState t := by
  obtain ⟨t, ht, rfl⟩ := List.mem_map.mp h
  exact ⟨t, (mem_domainTiles.mp ht).1, rfl⟩

theorem mem_chanKeys {k d : Nat} (h : k ∈ chanKeys d) : ∃ c, c < 16 ∧ k = O.chState c := by
  obtain ⟨c, hc, rfl⟩ := List.mem_map.mp h
  exact ⟨c, (mem_domainChans.mp hc).1, rfl⟩

/-- The objects of the domains' own stand apart from those of what they hold. -/
theorem not_mem_tileKeys_append_chanKeys {k d : Nat} (h : 0x700000 ≤ k) : k ∉ tileKeys d ++ chanKeys d := by
  intro hm
  obtain hm | hm := List.mem_append.mp hm
  · obtain ⟨t, ht, rfl⟩ := mem_tileKeys hm
    grind
  · obtain ⟨c, hc, rfl⟩ := mem_chanKeys hm
    grind

/-- Channels and tiles have different objects. -/
theorem chState_not_mem_tileKeys (c d : Nat) : O.chState c ∉ tileKeys d := by
  intro hm
  obtain ⟨t, ht, h⟩ := mem_tileKeys hm
  grind

/-- A frame within which the domains in transition stay the same. -/
structure KeepsMoving (ps : List Part) (ks : List Nat) (s t : State) : Prop where
  leaves : Leaves s t ps ks
  moving : t.power.moving = s.power.moving

namespace KeepsMoving

variable {ps qs : List Part} {ks ls : List Nat} {s t u : State}

theorem refl (s : State) : KeepsMoving ps ks s s := ⟨Leaves.refl s ps ks, rfl⟩

theorem trans (h1 : KeepsMoving ps ks s t) (h2 : KeepsMoving ps ks t u) : KeepsMoving ps ks s u :=
  ⟨Leaves.trans h1.leaves h2.leaves, h2.moving.trans h1.moving⟩

theorem mono (h : KeepsMoving ps ks s t) (hp : ∀ p ∈ ps, p ∈ qs := by decide) (hk : ∀ k ∈ ks, k ∈ ls := by grind) :
    KeepsMoving qs ls s t :=
  ⟨Leaves.mono h.leaves hp hk, h.moving⟩

/-- Without a change of the power. -/
theorem of_leaves (h : Leaves s t ps ks) (hp : Part.power ∉ ps := by decide) : KeepsMoving ps ks s t :=
  ⟨h, congrArg Power.moving (h.1 .power hp)⟩

theorem foldl {α : Type} (f : State → α → State) (l : List α) (h : ∀ a ∈ l, ∀ s, KeepsMoving ps ks s (f s a)) (s : State) :
    KeepsMoving ps ks s (l.foldl f s) := by
  induction l generalizing s with
  | nil => exact refl s
  | cons a l ih =>
    obtain ⟨ha, hl⟩ := List.forall_mem_cons.mp h
    exact trans (ha s) (ih hl _)

theorem railSettle (s : State) : KeepsMoving [.power] [] s (railSettle s) := by
  unfold Machine.railSettle
  split
  · exact ⟨Leaves.onRail s _ (by decide), rfl⟩
  · exact refl s

theorem watchRest (s : State) : KeepsMoving [.dict] [O.watchState] s (watchRest s) := by
  refine of_leaves ?_
  unfold Machine.watchRest
  dsimp only
  split
  · exact Leaves.setObj s _ _ (by decide) (by decide)
  · split
    · exact Leaves.setObj s _ _ (by decide) (by decide)
    · exact Leaves.refl s _ _

theorem latchPads (d : Nat) (s : State) : KeepsMoving [.power] [] s (latchPads d s) := by
  unfold Machine.latchPads
  split
  · next h _ => exact ⟨Leaves.onPower s (fun p => { p with pads := Store.put p.pads d h }) (by decide), rfl⟩
  · exact refl s

theorem releasePads (d : Nat) (s : State) : KeepsMoving [.power] [] s (releasePads d s) :=
  ⟨Leaves.onPower s (fun p => { p with pads := Store.drop p.pads d }) (by decide), rfl⟩

theorem driveWithRun (d : Nat) (s : State) : KeepsMoving [.power] [] s (driveWithRun d s) := by
  unfold Machine.driveWithRun
  split
  · exact refl s
  · exact releasePads d s

theorem bringUp (p : Nat) (s : State) : KeepsMoving [.fh, .power] [] s (bringUp p s) := by
  unfold Machine.bringUp
  refine trans ?_ (of_leaves (Leaves.onPort _ p _ (ps := [.fh]) (ks := []) (by decide))).mono
  split
  · exact (releasePads _ s).mono
  · exact refl s

end KeepsMoving

/-- The state with a domain's tiles shown anew. -/
def showTiles (d : Nat) (s : State) : State := (domainTiles d).foldl (fun s t => showTile t s) s

theorem showTiles_leaves (d : Nat) (s : State) : Leaves s (showTiles d s) [.dict] (tileKeys d) :=
  Leaves.foldl _ _ (fun t ht s => Leaves.mono (showTile_leaves t s) (by decide) (by grind [tileKeys])) s

theorem moveChans_leaves (d : Nat) (a b : Int) (s : State) : Leaves s (moveChans d a b s) [.dict] (chanKeys d) := by
  refine Leaves.foldl _ _ (fun c hc s => ?_) s
  split
  · exact Leaves.setObj s _ _ (by decide) (List.mem_map_of_mem hc)
  · exact Leaves.refl s _ _

theorem moveChans_obj (c d : Nat) (a b : Int) (s : State) : (moveChans d a b s).obj (O.chState c) =
    if c ∈ domainChans d ∧ s.obj (O.chState c) = a then b else s.obj (O.chState c) := by
  unfold moveChans
  induction domainChans d generalizing s with
  | nil => simp
  | cons e l ih =>
    rw [List.foldl_cons, ih]
    grind [State.obj_setObj]

/-- What follows either end of a transition: the tiles are shown, and the rail begins an exchange. -/
theorem railSettle_showTiles (d : Nat) (s : State) : KeepsMoving [.dict, .power] (tileKeys d) s (railSettle (showTiles d s)) :=
  (KeepsMoving.of_leaves (showTiles_leaves d s)).mono.trans (KeepsMoving.railSettle _).mono

/-! ## The start of a transition (18 R587, R588) -/

/-- The state in which a domain is in transition and reads so, and nothing else has changed. -/
def markMoving (d : Nat) (s : State) : State :=
  (s.onPower fun p => { p with moving := Store.put p.moving d ⟨s.nat (O.domainState d), domainTargetOf s d, s.clock.ticks⟩ }).setObj
    (O.domainState d) (if domainTargetOf s d < s.nat (O.domainState d) then 5 else 4)

/-- The state once what a domain leaves with RUN has followed. -/
def leaveRun (d was : Nat) (s : State) : State :=
  if was = 0 then latchPads d (moveChans d 2 3 (s.onMortar fun m => { m with told := m.told.filter (· != d) })) else s

theorem startTransition_rests {d : Nat} {s : State}
    (h : (Store.find s.power.moving d).isSome = true ∨ s.nat (O.domainState d) = domainTargetOf s d) : startTransition d s = s :=
  if_pos (by simpa using h)

theorem startTransition_moves {d : Nat} {s : State}
    (h : ¬((Store.find s.power.moving d).isSome = true ∨ s.nat (O.domainState d) = domainTargetOf s d)) :
    startTransition d s = railSettle (showTiles d (leaveRun d (s.nat (O.domainState d)) (markMoving d s))) :=
  if_neg (by simpa using h)

section
variable (d : Nat) (s : State)

theorem markMoving_leaves : Leaves s (markMoving d s) [.dict, .power] [O.domainState d] :=
  Leaves.trans (Leaves.onPower s _ (by decide)) (Leaves.setObj _ _ _ (by decide) (by simp))

theorem leaveRun_keeps (was : Nat) : KeepsMoving [.dict, .mortar, .power] (chanKeys d) s (leaveRun d was s) := by
  unfold leaveRun
  split
  · have hm : Leaves s (s.onMortar fun m => { m with told := m.told.filter (· != d) }) [.dict, .mortar] (chanKeys d) :=
      Leaves.of_dict (SameBut.mono (onMortar_leaves s _).1 (by decide)) rfl
    exact (KeepsMoving.of_leaves hm).mono.trans
      ((KeepsMoving.of_leaves (moveChans_leaves d 2 3 _)).mono.trans (KeepsMoving.latchPads d _).mono)
  · exact KeepsMoving.refl s

theorem leaveRun_chState (c : Nat) : (leaveRun d 0 s).obj (O.chState c) =
    if c ∈ domainChans d ∧ s.obj (O.chState c) = 2 then 3 else s.obj (O.chState c) := by
  rw [leaveRun, if_pos rfl, (KeepsMoving.latchPads d _).leaves.2 _ (by simp), moveChans_obj, State.onMortar_obj]

/-- What a transition's start does beside marking the domain. -/
theorem startTransition_keeps (was : Nat) :
    KeepsMoving [.dict, .mortar, .power] (tileKeys d ++ chanKeys d) s (railSettle (showTiles d (leaveRun d was s))) :=
  (leaveRun_keeps d s was).mono.trans (railSettle_showTiles d _).mono

end

/-! ## The end of a transition (18 R581, R590) -/

/-- The state in which a domain has its new state, the end is counted and timed, and it is no longer in transition. -/
def recordEnd (d : Nat) (m : Transition) (s : State) : State :=
  (((s.setObj (O.domainState d) m.to').bump (O.transitions d) 1).setObj (O.lastTransitionNs d)
    (nsOfTicks (s.clock.ticks - m.since) : Nat)).onPower fun p => { p with moving := Store.drop p.moving d }

/-- The state once what a domain holds is lost, or restored. -/
def endContent (d : Nat) (m : Transition) (s : State) : State :=
  if m.to' == 3 then loseContent d s else if m.to' == 0 then restoreContent d m.was (driveWithRun d s) else s

theorem endTransition_eq (d : Nat) (m : Transition) (s : State) :
    endTransition d m s = watchRest (railSettle (showTiles d (endContent d m (recordEnd d m s)))) := rfl

section
variable (d : Nat) (m : Transition) (s : State)

theorem recordEnd_leaves : Leaves s (recordEnd d m s) [.dict, .power] [O.domainState d, O.transitions d, O.lastTransitionNs d] :=
  Leaves.trans (Leaves.setObj s _ _ (by decide) (by simp)) (Leaves.trans (Leaves.bump _ _ _ (by decide) (by simp))
    (Leaves.trans (Leaves.setObj _ _ _ (by decide) (by simp)) (Leaves.onPower _ _ (by decide))))

theorem recordEnd_domainState : (recordEnd d m s).obj (O.domainState d) = m.to' := by
  rw [recordEnd, State.onPower_obj, State.obj_setObj_ne _ _ _ _ (by grind), State.obj_bump_ne _ _ _ _ (by grind), State.obj_setObj_same]

theorem recordEnd_counted : Counted s (recordEnd d m s) (O.transitions d) 1 := by
  rw [Counted, recordEnd, State.onPower_obj, State.obj_setObj_ne _ _ _ _ (by grind), State.obj_bump_same, State.nat,
    State.obj_setObj_ne _ _ _ _ (by grind)]
  rfl

theorem loseContent_leaves : Leaves s (loseContent d s) [.mem] [] := by
  unfold loseContent
  dsimp only
  split
  · exact Leaves.trans (Leaves.setMem s _ (by decide)) (Leaves.setMem _ _ (by decide))
  · exact Leaves.setMem s _ (by decide)

/-- Ports, tile memories and chains are restored without a change of an object. -/
theorem restoreContent_keeps (was : Nat) : KeepsMoving [.dfe, .fh, .mem, .power] [] (moveChans d 3 2 s) (restoreContent d was s) := by
  unfold restoreContent
  extract_lets s1 s2 s3
  have h2 : KeepsMoving [.dfe, .fh, .mem, .power] [] s1 s2 :=
    KeepsMoving.foldl _ _ (fun p _ s => (KeepsMoving.bringUp p s).mono) s1
  have h3 : KeepsMoving [.dfe, .fh, .mem, .power] [] s2 s3 := by
    unfold s3
    split
    · exact KeepsMoving.foldl _ _ (fun t _ s => (KeepsMoving.of_leaves (loadTile_leaves t s)).mono) s2
    · exact KeepsMoving.refl s2
  refine (h2.trans h3).trans ?_
  split
  · exact KeepsMoving.foldl _ _ (fun c _ s => (KeepsMoving.of_leaves (resetChain_leaves _ s c)).mono) s3
  · exact KeepsMoving.refl s3

theorem endContent_keeps : KeepsMoving [.dfe, .dict, .fh, .mem, .power] (chanKeys d) s (endContent d m s) := by
  unfold endContent
  split
  · exact (KeepsMoving.of_leaves (loseContent_leaves d s)).mono
  · split
    · exact (KeepsMoving.driveWithRun d s).mono.trans
        ((KeepsMoving.of_leaves (moveChans_leaves d 3 2 _)).mono.trans (restoreContent_keeps d _ m.was).mono)
    · exact KeepsMoving.refl s

/-- A return to RUN takes the domain's channels out of self-refresh (15 R512). -/
theorem endContent_chState (h : m.to' = 0) {c : Nat} (hc : c ∈ domainChans d) (h3 : s.obj (O.chState c) = 3) :
    (endContent d m s).obj (O.chState c) = 2 := by
  rw [endContent, if_neg (by simp [h]), if_pos (by simp [h]), (restoreContent_keeps ..).leaves.2 _ (by simp), moveChans_obj,
    if_pos ⟨hc, ((KeepsMoving.driveWithRun d s).leaves.2 _ (by simp)).trans h3⟩]

/-- What follows the end of a transition, once contents are lost or restored. -/
theorem endTransition_settles : KeepsMoving [.dict, .power] (O.watchState :: tileKeys d) s (watchRest (railSettle (showTiles d s))) :=
  (railSettle_showTiles d s).mono.trans (KeepsMoving.watchRest _).mono

/-- Beside the record of the end, a domain's end changes what it holds, the rail and the watch. -/
theorem endTransition_keeps : KeepsMoving [.dfe, .dict, .fh, .mem, .power] (O.watchState :: (tileKeys d ++ chanKeys d))
    (recordEnd d m s) (endTransition d m s) := by
  rw [endTransition_eq]
  exact (endContent_keeps d m _).mono.trans (endTransition_settles d _).mono

theorem endTransition_sameBut : SameBut s (endTransition d m s) [.dfe, .dict, .fh, .freeCtr, .mem, .power] :=
  SameBut.trans (SameBut.mono (recordEnd_leaves d m s).1 (by decide)) (SameBut.mono (endTransition_keeps d m s).leaves.1 (by decide))

theorem endTransition_find : Store.find (endTransition d m s).power.moving d = none := by
  rw [(endTransition_keeps d m s).moving]
  exact Store.find_drop_same ..

/-- The domains' own objects read as the record of the end left them. -/
theorem endTransition_obj {k : Nat} (h : 0x700000 ≤ k) (hw : k ≠ O.watchState) :
    (endTransition d m s).obj k = (recordEnd d m s).obj k :=
  (endTransition_keeps d m s).leaves.2 k fun hm => (List.mem_cons.mp hm).elim hw (not_mem_tileKeys_append_chanKeys h)

theorem endTransition_chState (h : m.to' = 0) {c : Nat} (hc : c ∈ domainChans d) (h3 : s.obj (O.chState c) = 3) :
    (endTransition d m s).obj (O.chState c) = 2 := by
  have hr : (recordEnd d m s).obj (O.chState c) = 3 := ((recordEnd_leaves d m s).2 _ (by grind [mem_domainChans])).trans h3
  rw [endTransition_eq, (endTransition_settles d _).leaves.2 _ (by grind [chState_not_mem_tileKeys, mem_domainChans])]
  exact endContent_chState d m _ h hc hr

end

/-- What a domain that a transition ends for reads, wherever it goes. -/
theorem endTransition_ends (d : Nat) (m : Transition) (s : State) :
    (endTransition d m s).obj (O.domainState d) = m.to' ∧ Store.find (endTransition d m s).power.moving d = none
      ∧ Counted s (endTransition d m s) (O.transitions d) 1
      ∧ ∀ e, e < 32 → e ≠ d → (endTransition d m s).obj (O.domainState e) = s.obj (O.domainState e) := by
  refine ⟨?_, endTransition_find d m s, ?_, fun e he hne => ?_⟩
  · rw [endTransition_obj _ _ _ (by grind) (by grind), recordEnd_domainState]
  · rw [Counted, endTransition_obj _ _ _ (by grind) (by grind)]
    exact recordEnd_counted d m s
  · rw [endTransition_obj _ _ _ (by grind) (by grind), (recordEnd_leaves d m s).2 _ (by grind)]

/-- Tile memory reads 0 once it is cleared. -/
theorem memByte_clearTiles {l : List Nat} {a : Nat} {m : List Host.Cell}
    (h : memByte m a = 0 ∨ ∃ t ∈ l, tileAddr t ≤ a ∧ a < tileAddr t + 0x80000) :
    memByte (l.foldl (fun m t => memClear m (tileAddr t) 0x80000) m) a = 0 := by
  induction l generalizing m with
  | nil => simpa using h
  | cons t l ih =>
    rw [List.foldl_cons]
    refine ih ?_
    rw [memByte_memClear]
    obtain h | ⟨u, hu, hlo, hhi⟩ := h
    · exact .inl (by rw [h, ite_self])
    · obtain rfl | hu := List.mem_cons.mp hu
      · exact .inl (if_pos ⟨hlo, hhi⟩)
      · exact .inr ⟨u, hu, hlo, hhi⟩

/-- Tile memory is lost in OFF (18 Table 18-2). -/
theorem endTransition_clears {d : Nat} {m : Transition} (s : State) (h : m.to' = 3) {i a : Nat} (hi : i < 20) (ha : a < 0x80000)
    (h2 : 2 ≤ d) (h12 : d < 12) : memByte (endTransition d m s).mem (tileAddr ((d - 2) * 20 + i) + a) = 0 := by
  have hmem : (endTransition d m s).mem = (loseContent d (recordEnd d m s)).mem := by
    rw [endTransition_eq, (endTransition_settles d _).leaves.1 .mem (by decide), endContent, if_pos (by simp [h])]
  have hlost : (loseContent d (recordEnd d m s)).mem
      = (domainTiles d).foldl (fun m t => memClear m (tileAddr t) 0x80000) (recordEnd d m s).mem := by
    rw [loseContent, if_neg (by simp; omega)]
  rw [hmem, hlost]
  exact memByte_clearTiles (.inr ⟨(d - 2) * 20 + i, mem_domainTiles.mpr (by omega), by omega, by omega⟩)

section
variable {d : Nat} {m : Transition} {s : State} (hd : d < 32) (hm : Store.find s.power.moving d = some m)
include hd hm

theorem execDomainDrained_eq (h : s.obj (O.domainState d) = 4) :
    execDomainDrained d s = .next (if m.was = 0 ∧ drained s d = false then s else endTransition d m s) := by
  unfold execDomainDrained
  rw [if_neg (by omega), hm]
  by_cases hw : m.was = 0 <;> cases hr : drained s d <;> simp [h, hw]

theorem execDomainEnterRunComplete_eq (h : s.obj (O.domainState d) = 5) :
    execDomainEnterRunComplete d s = .next (if m.to' = 0 ∧ railReady s d = false then s else endTransition d m s) := by
  unfold execDomainEnterRunComplete
  rw [if_neg (by omega), hm]
  by_cases hw : m.to' = 0 <;> cases hr : railReady s d <;> simp [h, hw]

end

/-! ## Exchanges on the AVSBus (18 R589, Table 18-8) -/

/-- The state once AVS_FAULT is raised, unless it has been since an exchange last succeeded. -/
def reportFault (cause target : Nat) (s : State) : State :=
  if s.power.rail.faulted then s
  else raise s O.avsFaultCount 0 (leBytes 1 0 ++ leBytes 1 cause ++ leBytes 2 target ++ leBytes 4 0) 0

/-- The domains that wait on the rail to enter RUN. -/
def waitingDomains (s : State) : List (Nat × Transition) :=
  s.power.moving.filter fun m => coreDomain m.1 && m.2.to' == 0 && s.power.rail.mv != s.nat O.vRunMv

/-- The state with the transition of a domain undone. -/
def returnDomain (s : State) (m : Nat × Transition) : State :=
  (s.setObj (O.domainState m.1) m.2.was).onPower fun p => { p with moving := Store.drop p.moving m.1 }

/-- The power with the transitions of some domains gone. -/
def dropMoving (l : List (Nat × Transition)) (p : Power) : Power := { p with moving := l.foldl (fun w m => Store.drop w m.1) p.moving }

/-- The states that domains had before their transitions. -/
def formerStates (l : List (Nat × Transition)) : List (Nat × Int) := l.map fun m => (O.domainState m.1, (m.2.was : Int))

/-- Writes of objects and a change of the power are independent. -/
theorem State.setAll_onPower (s : State) (f : Power → Power) (l : List (Nat × Int)) :
    (s.onPower f).setAll l = (s.setAll l).onPower f := by
  induction l generalizing s with
  | nil => rfl
  | cons e l ih => exact ih (s.setObj e.1 e.2)

theorem returnDomains_eq (l : List (Nat × Transition)) (s : State) :
    l.foldl returnDomain s = (s.setAll (formerStates l)).onPower (dropMoving l) := by
  induction l generalizing s with
  | nil => rfl
  | cons m l ih =>
    rw [List.foldl_cons, ih, returnDomain, State.setAll_onPower]
    rfl

theorem find_dropMoving {d : Nat} {l : List (Nat × Transition)} {w : Store Transition}
    (h : Store.find w d = none ∨ ∃ m ∈ l, m.1 = d) : Store.find (l.foldl (fun w m => Store.drop w m.1) w) d = none := by
  induction l generalizing w with
  | nil => simpa using h
  | cons m l ih => exact ih (by grind [Store.find_drop_same, Store.find_drop_ne])

/-- The state in which the domains that wait on the rail have their former states. -/
def undoWaits (s : State) : State := (s.setAll (formerStates (waitingDomains s))).onPower (dropMoving (waitingDomains s))

theorem failExchange_eq (cause target : Nat) (s : State) : failExchange cause target s =
    (undoWaits (reportFault cause target s)).onRail fun r =>
      { r with run := none, failed := some (target, (undoWaits (reportFault cause target s)).clock.ticks + tickMs), faulted := true } := by
  rw [undoWaits, ← returnDomains_eq]
  rfl

/-- Only domains of VDD_CORE wait on it. -/
theorem mem_waitingDomains {s : State} {m : Nat × Transition} : m ∈ waitingDomains s ↔
    m ∈ s.power.moving ∧ coreDomain m.1 = true ∧ m.2.to' = 0 ∧ s.power.rail.mv ≠ s.nat O.vRunMv := by
  simp [waitingDomains, and_assoc]

theorem undoWaits_leaves (s : State) : Leaves s (undoWaits s) [.dict, .power] ((formerStates (waitingDomains s)).map (·.1)) :=
  Leaves.trans (Leaves.setAll s _ (by decide) fun _ h => h) (Leaves.onPower _ _ (by decide))

theorem undoWaits_rail (s : State) : (undoWaits s).power.rail = s.power.rail := by
  have h : (s.setAll (formerStates (waitingDomains s))).power = s.power :=
    (Leaves.setAll (ps := [.dict]) s _ (by decide) fun _ h => h).1 .power (by decide)
  rw [← h]
  rfl

/-- The objects beside the domains' states are as they were. -/
theorem undoWaits_obj {s : State} {k : Nat} (h : k < O.domainState 0) : (undoWaits s).obj k = s.obj k := by
  refine (undoWaits_leaves s).2 k fun hm => ?_
  simp only [formerStates, List.map_map, List.mem_map, Function.comp_apply] at hm
  grind

/-- A domain that waits on the rail has its former state, and is no longer in transition. -/
theorem undoWaits_returns {s : State} (hr : Store.rising s.power.moving = true) {d : Nat} {m : Transition}
    (hm : (d, m) ∈ waitingDomains s) :
    (undoWaits s).obj (O.domainState d) = m.was ∧ Store.find (undoWaits s).power.moving d = none := by
  have hnodup : ((formerStates (waitingDomains s)).map (·.1)).Nodup := by
    have hp : (waitingDomains s).Pairwise fun a b => a.1 < b.1 := (Store.rising_iff _).mp (Store.rising_filter _ _ hr)
    rw [formerStates, List.map_map, List.Nodup, List.pairwise_map]
    exact hp.imp fun h he => by simp at he; omega
  exact ⟨State.obj_setAll_of_mem s _ hnodup (List.mem_map_of_mem (f := fun m => (O.domainState m.1, (m.2.was : Int))) hm),
    find_dropMoving (.inr ⟨_, hm, rfl⟩)⟩

section
variable (cause target : Nat) (s : State)

theorem reportFault_leaves : Leaves s (reportFault cause target s) [.dict, .link] [O.avsFaultCount, O.indicationsDropped] := by
  unfold reportFault
  split
  · exact Leaves.refl s _ _
  · exact Leaves.raise s _ _ _ _ (by decide) (by decide) (by decide) (by decide)

theorem reportFault_power : (reportFault cause target s).power = s.power := (reportFault_leaves cause target s).1 .power (by decide)

theorem failExchange_sameBut : SameBut s (failExchange cause target s) [.dict, .link, .power] := by
  rw [failExchange_eq]
  exact SameBut.trans (SameBut.mono (reportFault_leaves cause target s).1 (by decide))
    (SameBut.mono (Leaves.trans (undoWaits_leaves _) (Leaves.onRail _ _ (by decide))).1 (by decide))

theorem failExchange_link : (failExchange cause target s).link = (reportFault cause target s).link := by
  rw [failExchange_eq]
  exact (undoWaits_leaves _).1 .link (by decide)

theorem failExchange_avsFaultCount :
    (failExchange cause target s).obj O.avsFaultCount = (reportFault cause target s).obj O.avsFaultCount := by
  rw [failExchange_eq, State.onRail_obj, undoWaits_obj (by decide)]

theorem failExchange_rail : (failExchange cause target s).power.rail = { s.power.rail with
    run := none, failed := some (target, (failExchange cause target s).clock.ticks + tickMs), faulted := true } := by
  rw [failExchange_eq, ← reportFault_power cause target s, ← undoWaits_rail (reportFault cause target s)]
  rfl

theorem failExchange_fails : ExchangeFails s (failExchange cause target s) cause target := by
  have hrail := failExchange_rail cause target s
  refine ⟨by rw [hrail], by rw [hrail], by rw [hrail], by rw [hrail], ?_⟩
  split
  · next h => rw [failExchange_avsFaultCount, reportFault, if_pos h]
  · next h =>
    rw [Counted, Indicates, failExchange_avsFaultCount, failExchange_link, reportFault, if_neg h]
    exact ⟨raise_counted s _ _ _ _ (by decide), raise_indicates s _ _ _ _⟩

/-- A failed exchange leaves the domains that wait on the rail in their former states. -/
theorem failExchange_returns (hr : Store.rising s.power.moving = true) (hv : s.power.rail.mv ≠ s.nat O.vRunMv) {d : Nat}
    (hc : coreDomain d = true) {m : Transition} (hm : Store.find s.power.moving d = some m) (h0 : m.to' = 0) :
    (failExchange cause target s).obj (O.domainState d) = m.was ∧ Store.find (failExchange cause target s).power.moving d = none := by
  have hp := reportFault_power cause target s
  have hn : (reportFault cause target s).nat O.vRunMv = s.nat O.vRunMv :=
    congrArg Int.toNat ((reportFault_leaves cause target s).2 _ (by decide))
  rw [failExchange_eq]
  refine undoWaits_returns (hp ▸ hr) (mem_waitingDomains.mpr ⟨?_, hc, h0, ?_⟩)
  · exact hp ▸ Store.mem_of_find hm
  · rwa [hp, hn]

end

/-- What fails is judged against the rail, the link and the count before. -/
theorem ExchangeFails.of_rail {s u t : State} {cause target : Nat} (hv : u.power.rail.mv = s.power.rail.mv)
    (hf : u.power.rail.faulted = s.power.rail.faulted) (ho : u.obj O.avsFaultCount = s.obj O.avsFaultCount) (hl : u.link = s.link)
    (h : ExchangeFails u t cause target) : ExchangeFails s t cause target := by
  simpa only [ExchangeFails, Counted, Indicates, State.nat, hv, hf, ho, hl] using h

/-- The state once an exchange has taken its acknowledgement: it is polled, repeated or over. -/
def answerExchange (e : Exchange) (s : State) : AvsAckField → State
  | .good => s.onRail fun r => { r with run := some { e with acked := some s.clock.ticks, polled := s.clock.ticks } }
  | .busy =>
    if 8 ≤ e.busy then failExchange 2 e.target s
    else s.onRail fun r => { r with run := some { e with busy := e.busy + 1, again := some (s.clock.ticks + ticksOfNs 5000) } }
  | .badCrc =>
    if 3 ≤ e.crc then failExchange 2 e.target s
    else s.onRail fun r => { r with run := some { e with crc := e.crc + 1 } }
  | .invalid => failExchange 1 e.target s

/-- An exchange that waits neither for VDone nor to be repeated takes the acknowledgement. -/
theorem execAvsAck_eq {s : State} {e : Exchange} (h : s.power.rail.run = some e) (ha : e.acked = none) (hw : e.again = none)
    (ack : AvsAckField) : execAvsAck ack s = .next (answerExchange e s ack) := by
  unfold execAvsAck
  rw [h]
  dsimp only
  rw [if_neg (by simp [ha, hw])]
  cases ack <;> simp only [answerExchange, apply_ite Host.Outcome.next]

/-! ## Polls and repeats (18 R589) -/

theorem advance_ticks (s : State) (n : Nat) : (advance s n).clock.ticks = s.clock.ticks + n := by
  simp [advance]

/-- Time does not stop before the instant to which it passes. -/
theorem le_advanceTicks (s : State) (n : Nat) : n ≤ (advanceTicks s n).clock.ticks := by
  rw [advanceTicks, advance_ticks]; omega

theorem Leaves.advanceTicks (s : State) (n : Nat) {ps : List Part} {ks : List Nat} (h : ∀ p ∈ timeParts, p ∈ ps) :
    Leaves s (Machine.advanceTicks s n) ps ks :=
  Leaves.advance s _ h

/-- The state at the poll of an exchange, 1 µs after its acknowledgement or the last poll. -/
def atPoll (e : Exchange) (s : State) : State := advanceTicks s (e.polled + ticksOfNs 1000)

/-- The state once a poll has found no VDone. -/
def polledAgain (e : Exchange) (s : State) : State :=
  (atPoll e s).onRail fun r => { r with run := some { e with polled := (atPoll e s).clock.ticks } }

section
variable (s : State) (e : Exchange)

theorem atPoll_ticks : e.polled + ticksOfNs 1000 ≤ (atPoll e s).clock.ticks := le_advanceTicks s _

theorem atPoll_power : (atPoll e s).power = s.power := advance_power ..

theorem polledAgain_leaves : Leaves s (polledAgain e s) (.power :: timeParts) [] :=
  Leaves.trans (Leaves.advanceTicks s _ (by decide)) (Leaves.onRail _ _ (by decide))

variable {s} {e}

/-- VDone ends an exchange after 3 µs more. -/
theorem execAvsPoll_done {a : Nat} (h : s.power.rail.run = some e) (ha : e.acked = some a) :
    execAvsPoll true s = .next (succeedExchange e (advance (atPoll e s) (ticksOfNs 3000))) := by
  simp [execAvsPoll, h, ha, atPoll]

/-- Without VDone, the exchange fails AVS_TIMEOUT after its acknowledgement. -/
theorem execAvsPoll_waits {a : Nat} (h : s.power.rail.run = some e) (ha : e.acked = some a) :
    execAvsPoll false s = .next (if a + ticksOfNs (s.nat O.avsTimeout * 1000) ≤ (polledAgain e s).clock.ticks
      then failExchange 0 e.target (polledAgain e s) else polledAgain e s) := by
  have hn : (polledAgain e s).nat O.avsTimeout = s.nat O.avsTimeout := congrArg Int.toNat ((polledAgain_leaves s e).2 _ (by simp))
  have ht : timeoutExchange (polledAgain e s) =
      if a + ticksOfNs ((polledAgain e s).nat O.avsTimeout * 1000) ≤ (polledAgain e s).clock.ticks
      then failExchange 0 e.target (polledAgain e s) else polledAgain e s := by
    simp [timeoutExchange, polledAgain, State.onRail, ha]
  rw [← hn, ← ht]
  simp [execAvsPoll, h, ha, polledAgain, atPoll]

end

theorem succeedExchange_leaves (e : Exchange) (s : State) : Leaves s (succeedExchange e s) [.dict, .power] [O.watchState] :=
  Leaves.trans (Leaves.onRail s _ (by decide)) (Leaves.trans (Leaves.mono (KeepsMoving.railSettle _).leaves (by decide) (by decide))
    (Leaves.mono (KeepsMoving.watchRest _).leaves (by decide) (by decide)))

theorem succeedExchange_moving (e : Exchange) (s : State) : (succeedExchange e s).power.moving = s.power.moving :=
  (KeepsMoving.watchRest _).moving.trans (KeepsMoving.railSettle _).moving

/-- A new exchange leaves the voltage and whether a fault stands. -/
theorem railSettle_rail (s : State) :
    (railSettle s).power.rail.mv = s.power.rail.mv ∧ (railSettle s).power.rail.faulted = s.power.rail.faulted := by
  unfold railSettle
  split <;> exact ⟨rfl, rfl⟩

theorem succeedExchange_rail (e : Exchange) (s : State) :
    (succeedExchange e s).power.rail.mv = e.target ∧ (succeedExchange e s).power.rail.faulted = false := by
  rw [succeedExchange, (KeepsMoving.watchRest _).leaves.1 .power (by decide)]
  exact railSettle_rail _

theorem execAvsRetry_again {s : State} {e : Exchange} {u : Nat} (h : s.power.rail.run = some e) (ha : e.again = some u) :
    execAvsRetry s = .next ((advanceTicks s u).onRail fun r => { r with run := some { e with again := none } }) := by
  simp [execAvsRetry, h, ha]

theorem execAvsRetry_failed {s : State} {target u : Nat} (h : s.power.rail.run = none) (hf : s.power.rail.failed = some (target, u)) :
    execAvsRetry s = .next ((advanceTicks s u).onRail fun r =>
      { r with run := some ⟨target, 0, 0, none, none, (advanceTicks s u).clock.ticks⟩, failed := none }) := by
  simp [execAvsRetry, h, hf]

/-! ## The rails' readings (18 Table 18-9) -/

/-- The power of the rails' readings, in mW. -/
def readingsPower (readings : List (Nat × Nat × Int)) : Nat := (readings.map fun r => r.1 * r.2.1).sum

theorem execPmbusRead_idle {s : State} {readings : List (Nat × Nat × Int)} (h : readings.length = 3) (hr : s.power.rail.run = none) :
    execPmbusRead readings s = .next ((s.setBlob O.railReadings (readings.flatMap readingBytes)).setObj O.powerMw
      (freeDiv 18 (readingsPower readings) 100)) := by
  have ht : timeoutExchange s = s := by simp [timeoutExchange, hr]
  rw [execPmbusRead, if_neg (by simp [h]), ht]
  rfl

theorem Leaves.setBlob (s : State) (k : Nat) (v : Bytes) {ps : List Part} {ks : List Nat} (h : Part.blobs ∈ ps) :
    Leaves s (s.setBlob k v) ps ks :=
  Leaves.of_dict (fun p hn => by cases p <;> simp_all [Part.same]) rfl

end Sys2Proof.Machine

open Sys2Proof Sys2Proof.Machine Sys2Proof.Safety

/-- Settles O51: each clause follows from the equation of its command in the case that the clause names, and the frame of what it does. -/
theorem powerDomains : Obligations.PowerDomains := by
  unfold Obligations.PowerDomains
  refine ⟨?hostVote, ?counts, ?dispatched, ?start, ?drains, ?enters, ?acks, ?polls, ?retries, ?readings⟩
  case hostVote =>
    intro x d v s hd ha
    have hs : exec (.hostVote x d v) s = .next (hostWrite x (O.hostVote d) (.num v) (actHostVote d v) s) := if_neg (not_le.mpr hd)
    refine ⟨_, hs, ?_⟩
    split
    · next h =>
      obtain ⟨hans, hobj⟩ := hostWrite_answers ha (actHostVote_capped (by simpa using h)) (Leaves.refl _ _ []) (ps := []) (by decide)
      exact ⟨(hobj _ (by grind)).trans (atWrite_obj ..), hans⟩
    · next h =>
      have hc : Leaves (atWrite s x (O.hostVote d) (.num v)) ((atWrite s x (O.hostVote d) (.num v)).change (O.hostVote d) v) [.dict]
          [O.hostVote d, O.changeCount] :=
        ⟨SameBut.change _ _ _ _ (by decide), fun k hk => State.obj_change_ne _ _ _ _ (by grind) (by grind)⟩
      obtain ⟨hans, hobj⟩ := hostWrite_answers ha (actHostVote_counts (by simpa using h)) hc (by decide)
      exact ⟨(hobj _ (by grind)).trans (State.obj_change_same _ _ _ (by grind)), hans⟩
  case counts =>
    intro d s
    rw [← hostVoteOf_eq]
    rfl
  case dispatched =>
    intro tag o s ho h
    exact domainTargetOf_run (schedVote_dispatched ho h)
  case start =>
    intro d s hd
    have hs : exec (.domainTransitionStart d) s = .next (startTransition d s) := if_neg (not_le.mpr hd)
    split
    · next h => rw [hs, startTransition_rests h]
    · next h =>
      rw [startTransition_moves h] at hs
      have hk := startTransition_keeps d (markMoving d s) (s.nat (O.domainState d))
      have hm := markMoving_leaves d s
      refine ⟨_, hs, ?_, fun e he => ?_, ?_, fun e he hne => ?_, fun h0 c hc => ?_, ?_⟩
      · rw [hk.moving]
        exact Store.find_put_same ..
      · rw [hk.moving]
        exact Store.find_put_ne _ _ _ _ he
      · rw [hk.leaves.2 _ (not_mem_tileKeys_append_chanKeys (by grind))]
        exact State.obj_setObj_same ..
      · rw [hk.leaves.2 _ (not_mem_tileKeys_append_chanKeys (by grind)), hm.2 _ (by grind)]
      · rw [h0, (KeepsMoving.railSettle _).leaves.2 _ (by simp), (showTiles_leaves ..).2 _ (chState_not_mem_tileKeys c d),
          leaveRun_chState, hm.2 _ (by grind)]
        simp [mem_domainChans, hc]
      · exact SameBut.trans (SameBut.mono hm.1 (by decide)) hk.leaves.1
  case drains =>
    intro d m s hd hm h4
    have hs := execDomainDrained_eq hd hm h4
    split
    · next h => exact hs.trans (by rw [if_pos h])
    · next h =>
      rw [if_neg h] at hs
      obtain ⟨hstate, hfind, hcount, hothers⟩ := endTransition_ends d m s
      exact ⟨_, hs, hstate, hfind, hcount, hothers, fun h3 i hi a ha h2 h12 => endTransition_clears s h3 hi ha h2 h12,
        endTransition_sameBut d m s⟩
  case enters =>
    intro d m s hd hm h5
    have hs := execDomainEnterRunComplete_eq hd hm h5
    split
    · next h => exact hs.trans (by rw [if_pos h])
    · next h =>
      rw [if_neg h] at hs
      obtain ⟨hstate, hfind, hcount, hothers⟩ := endTransition_ends d m s
      exact ⟨_, hs, hstate, hfind, hcount, hothers,
        fun h0 c hc hcd h3 => endTransition_chState d m s h0 (mem_domainChans.mpr ⟨hc, hcd⟩) h3, endTransition_sameBut d m s⟩
  case acks =>
    intro e s he ha hw
    have hs := execAvsAck_eq he ha hw
    have hfails (cause : Nat) : ExchangeFails s (failExchange cause e.target s) cause e.target
        ∧ SameBut s (failExchange cause e.target s) [.dict, .link, .power] :=
      ⟨failExchange_fails cause e.target s, failExchange_sameBut cause e.target s⟩
    refine ⟨⟨_, hs .good, rfl, Leaves.onRail s _ (by decide)⟩, ⟨_, hs .busy, ?_⟩, ⟨_, hs .badCrc, ?_⟩, ⟨_, hs .invalid,
      (hfails 1).1, (hfails 1).2, fun hr hv d _ hc m hm h0 => failExchange_returns 1 e.target s hr hv hc hm h0⟩⟩
    · unfold answerExchange
      split
      · exact hfails 2
      · exact ⟨rfl, Leaves.onRail s _ (by decide)⟩
    · unfold answerExchange
      split
      · exact hfails 2
      · exact ⟨rfl, Leaves.onRail s _ (by decide)⟩
  case polls =>
    intro e a s he ha
    refine ⟨⟨_, execAvsPoll_done he ha, ?_⟩, ⟨_, execAvsPoll_waits he ha, ?_⟩⟩
    · obtain ⟨hmv, hfaulted⟩ := succeedExchange_rail e (advance (atPoll e s) (ticksOfNs 3000))
      have hl := succeedExchange_leaves e (advance (atPoll e s) (ticksOfNs 3000))
      have hp : Leaves s (atPoll e s) timeParts [] := Leaves.advanceTicks s _ fun _ h => h
      refine ⟨hmv, hfaulted, ?_, ?_, ?_⟩
      · rw [hl.1 .clock (by decide), advance_ticks]
        exact Nat.add_le_add_right (atPoll_ticks s e) _
      · rw [succeedExchange_moving, advance_power, atPoll_power]
      · exact Leaves.trans_mono hp (Leaves.trans_mono (rs := .dict :: .power :: timeParts) (ms := [O.watchState])
          (Leaves.advance _ _ (ps := timeParts) (ks := []) fun _ h => h) hl)
    · have hl := polledAgain_leaves s e
      split
      · next h =>
        have hf := failExchange_sameBut 0 e.target (polledAgain e s)
        have hc : (failExchange 0 e.target (polledAgain e s)).clock = (polledAgain e s).clock := hf .clock (by decide)
        refine ⟨?_, SameBut.trans (SameBut.mono hl.1 (by decide)) (SameBut.mono hf (by decide)), ?_⟩
        · rw [hc]
          exact atPoll_ticks s e
        · rw [hc, if_pos h]
          exact ExchangeFails.of_rail (congrArg (·.rail.mv) (atPoll_power s e)) (congrArg (·.rail.faulted) (atPoll_power s e))
            (hl.2 _ (by simp)) (hl.1 .link (by decide)) (failExchange_fails 0 e.target _)
      · exact ⟨atPoll_ticks s e, SameBut.mono hl.1 (by decide), rfl⟩
  case retries =>
    intro s
    have repeated (u : Nat) (f : Rail → Rail) : Leaves s ((advanceTicks s u).onRail f) (.power :: timeParts) [] :=
      Leaves.trans (Leaves.advanceTicks s u (by decide)) (Leaves.onRail _ _ (by decide))
    exact ⟨fun e u he ha => ⟨_, execAvsRetry_again he ha, rfl, le_advanceTicks s u, repeated u _⟩,
      fun target u hr hf => ⟨_, execAvsRetry_failed hr hf, rfl, rfl, le_advanceTicks s u, repeated u _⟩⟩
  case readings =>
    intro readings s h hr
    exact ⟨_, execPmbusRead_idle h hr, State.blob_setBlob_same .., Leaves.trans (Leaves.setBlob s _ _ (by decide))
      (Leaves.setObj _ _ _ (by decide) (by decide))⟩
end

section
/-! SUPPORT. Image update, identity, the debug policy and JTAG (19): frames of the boot flash, what the start and the end of a background
operation, a new control block, a reserved leaf and a report change, and the statement about them assembled from these. -/

namespace Sys2Proof.Machine

open Sys2Proof.Safety

/-! ## Frames of the boot and of the flash -/

theorem Leaves.onBoot (s : State) (f : Boot → Boot) {ps : List Part} {ks : List Nat} (h : Part.boot ∈ ps) : Leaves s (s.onBoot f) ps ks :=
  Leaves.of_dict (fun p hn => by cases p <;> simp_all [Part.same]) rfl

theorem Leaves.onFlash (s : State) (f : Flash → Flash) {ps : List Part} {ks : List Nat} (hb : Part.boot ∈ ps) (hd : Part.dict ∈ ps)
    (hk : O.trialState ∈ ks) : Leaves s (s.onFlash f) ps ks :=
  Leaves.trans (Leaves.onBoot s _ hb) (Leaves.setObj _ _ _ hd hk)

theorem Leaves.change (s : State) (k : Nat) (v : Int) {ps : List Part} {ks : List Nat} (hp : Part.dict ∈ ps) (hk : k ∈ ks)
    (hc : O.changeCount ∈ ks) : Leaves s (s.change k v) ps ks :=
  ⟨SameBut.change s k v ps hp, fun j hj => State.obj_change_ne s k j v (fun h => hj (h ▸ hk)) fun h => hj (h ▸ hc)⟩

theorem Leaves.free (s : State) {ps : List Part} {ks : List Nat} (h : Part.freeCtr ∈ ps) : Leaves s s.free.2 ps ks :=
  Leaves.of_dict (fun p hn => by cases p <;> simp_all [Part.same]) rfl

theorem Leaves.freshNonce (s : State) {ps : List Part} {ks : List Nat} (hb : Part.blobs ∈ ps) (hf : Part.freeCtr ∈ ps) :
    Leaves s (Machine.freshNonce s) ps ks :=
  Leaves.of_dict (fun p hn => by cases p <;> simp_all [Part.same, Machine.freshNonce, State.freeBytes]) rfl

@[simp] theorem State.onFlash_boot (s : State) (f : Flash → Flash) : (s.onFlash f).boot = { s.boot with flash := f s.boot.flash } := rfl

@[simp] theorem State.onFlash_trialState (s : State) (f : Flash → Flash) :
    (s.onFlash f).obj O.trialState = (f s.boot.flash).control.trial :=
  State.obj_setObj_same ..

/-! ## A write as it is served, in the terms of the boot and of byte strings -/

@[simp] theorem atWrite_boot (s : State) (x : Xfer) (key : Nat) (v : Val) : (atWrite s x key v).boot = s.boot :=
  atWrite_sameBut s x key v .boot (by split <;> decide)

@[simp] theorem atWrite_blob (s : State) (x : Xfer) (key : Nat) (v : Val) (j : Nat) : (atWrite s x key v).blob j = s.blob j :=
  State.blob_congr (atWrite_sameBut s x key v .blobs (by split <;> decide)) j

section
variable {x : Xfer} {key : Nat} {v : Val} {act : Action} {s u : State} {r : Reason} {ps : List Part} {ks : List Nat}

/-- A served write whose action changes the dictionary and parts beside the link's is answered, and leaves the boot, the byte strings and the
objects as its action did. -/
theorem hostWrite_settles (h : Accepts s x key v) (ha : act (atWrite s x key v) = (r, u))
    (hu : Leaves (atWrite s x key v) u (.dict :: ps) ks) (hl : Part.link ∉ Part.dict :: ps) :
    Answers s (hostWrite x key v act s) x key v r ps ks ∧ (hostWrite x key v act s).boot = u.boot
      ∧ (∀ j, (hostWrite x key v act s).blob j = u.blob j)
      ∧ ∀ j, j ∉ [O.transfersServed, O.transfersRefused, O.busyReplies] → (hostWrite x key v act s).obj j = u.obj j := by
  obtain ⟨hans, hobj⟩ := hostWrite_answers h ha hu hl
  have hsent : u.link.sent = s.link.sent := by rw [hu.1 .link hl, atWrite_link, advance_link]
  exact ⟨hans, (hostWrite_full x key v act s u r h ha hsent).2.1 .boot (by decide), fun j => by rw [hostWrite_blob x key v act s h, ha], hobj⟩

/-- A served write that its action refuses changes no byte string and nothing of the boot. -/
theorem hostWrite_refused (h : Accepts s x key v) (ha : act (atWrite s x key v) = (r, atWrite s x key v)) :
    Answers s (hostWrite x key v act s) x key v r [] [] ∧ (hostWrite x key v act s).boot = s.boot
      ∧ (∀ j, (hostWrite x key v act s).blob j = s.blob j)
      ∧ ∀ j, j ∉ [O.transfersServed, O.transfersRefused, O.busyReplies] → (hostWrite x key v act s).obj j = s.obj j := by
  obtain ⟨hans, hboot, hblob, hobj⟩ := hostWrite_settles h ha (Leaves.refl _ [.dict] []) (by decide)
  exact ⟨hans, hboot.trans (by simp), fun j => (hblob j).trans (by simp), fun j hj => (hobj j hj).trans (by simp)⟩

end

/-! ## Slots and the control block (19 R610, R612) -/

@[simp] theorem Flash.slot_setSlot_same (f : Flash) (k : Nat) (b : List Host.Cell) : (f.setSlot k b).slot k = b := by
  unfold Flash.slot Flash.setSlot
  split <;> rfl

theorem Flash.slot_setSlot_ne (f : Flash) {j k : Nat} (b : List Host.Cell) (hj : j < 2) (hk : k < 2) (h : j ≠ k) :
    (f.setSlot k b).slot j = f.slot j := by
  obtain ⟨rfl, rfl⟩ | ⟨rfl, rfl⟩ : j = 0 ∧ k = 1 ∨ j = 1 ∧ k = 0 := by omega
  · rfl
  · rfl

@[simp] theorem Flash.setSlot_slot (f : Flash) (k : Nat) : f.setSlot k (f.slot k) = f := by
  unfold Flash.slot Flash.setSlot
  split <;> rfl

section
variable {f : Flash} {b : Bcb}

theorem Flash.control_eq_first (h : f.bcb0 = some b) (hn : ∀ c, f.bcb1 = some c → c.sequence ≤ b.sequence) : f.control = b := by
  cases h1 : f.bcb1 with
  | none => simp only [Flash.control, h, h1]
  | some c => simp only [Flash.control, h, h1, if_neg (Nat.not_lt.mpr (hn c h1))]

theorem Flash.control_eq_second (h : f.bcb1 = some b) (hn : ∀ c, f.bcb0 = some c → c.sequence < b.sequence) : f.control = b := by
  cases h0 : f.bcb0 with
  | none => simp only [Flash.control, h, h0]
  | some c => simp only [Flash.control, h, h0, if_pos (hn c h0)]

/-- Where the first copy is not the block in use, the second one is, if it is valid. -/
theorem Flash.eq_control_of_second (h : f.bcb0 ≠ some f.control) (hb : f.bcb1 = some b) : b = f.control := by
  refine (Flash.control_eq_second hb fun a ha => ?_).symm
  by_contra hs
  exact h (ha.trans (congrArg some (Flash.control_eq_first ha fun c hc => by grind).symm))

end

/-- A control block that is written is the one in use: its sequence is the highest. -/
theorem Flash.control_writeControl (f : Flash) (preferred trial : Nat) :
    (f.writeControl preferred trial).control = ⟨f.control.sequence + 1, preferred, trial⟩ := by
  unfold Flash.writeControl
  by_cases h : f.bcb0 = some f.control
  · rw [if_pos h]
    exact Flash.control_eq_second rfl fun c hc => by grind
  · rw [if_neg h]
    exact Flash.control_eq_first rfl fun c hc => Nat.le_succ_of_le (by rw [Flash.eq_control_of_second h hc])

theorem hostSlot_congr {s t : State} (h : t.boot = s.boot) : hostSlot t = hostSlot s := by simp only [hostSlot, h]

theorem hostSlot_lt (s : State) : hostSlot s < 2 := by
  unfold hostSlot
  split <;> omega

theorem hostSlot_ne_slot {s : State} (h : s.boot.slot < 2) : hostSlot s ≠ s.boot.slot := by
  rw [hostSlot, if_pos h]
  omega

theorem versionKey_mem (k : Nat) : versionKey k ∈ [O.slotAVersion, O.slotBVersion] := by
  unfold versionKey
  split <;> decide

/-- An object is not the version of a slot that is neither of the two. -/
theorem ne_versionKey {j : Nat} (k : Nat) (h : j ∉ [O.slotAVersion, O.slotBVersion]) : j ≠ versionKey k :=
  fun he => h (he ▸ versionKey_mem k)

/-! ## The start of a background operation (19 R619) -/

/-- The objects that the start of an operation writes: the slot loses its version and its judgement, but to a verify. -/
def startKeys (s : State) : Update → List Nat
  | .verify => [O.updateState]
  | _ => [O.updateState, O.updateReason, versionKey (hostSlot s)]

theorem startUpdate_leaves (u : Update) (s : State) : Leaves s (startUpdate u s) [.dict, .boot] (startKeys s u) := by
  have begun (ks : List Nat) (hk : O.updateState ∈ ks) :
      Leaves s ((s.onBoot fun b => { b with update := some u }).setObj O.updateState 1) [.dict, .boot] ks :=
    Leaves.trans (Leaves.onBoot s _ (by decide)) (Leaves.setObj _ _ _ (by decide) hk)
  have blank : Leaves s ((((s.onBoot fun b => { b with update := some u }).setObj O.updateState 1).setObj O.updateReason
      Reason.imageFormat.code).setObj (versionKey (hostSlot s)) 0) [.dict, .boot]
      [O.updateState, O.updateReason, versionKey (hostSlot s)] :=
    Leaves.trans (Leaves.trans (begun _ (by simp)) (Leaves.setObj _ _ _ (by decide) (by simp))) (Leaves.setObj _ _ _ (by decide) (by simp))
  cases u with
  | erase => exact blank
  | program o b => exact blank
  | verify => exact begun _ (by simp [startKeys])

@[simp] theorem startUpdate_boot (u : Update) (s : State) : (startUpdate u s).boot = { s.boot with update := some u } := by
  cases u <;> rfl

@[simp] theorem startUpdate_updateState (u : Update) (s : State) : (startUpdate u s).obj O.updateState = 1 := by
  have hv (k : Nat) := ne_versionKey (j := O.updateState) k (by decide)
  cases u <;> simp [startUpdate, State.obj_setObj, hv]

theorem startUpdate_updateReason {u : Update} (s : State) (h : u ≠ .verify) :
    (startUpdate u s).obj O.updateReason = Reason.imageFormat.code := by
  have hv (k : Nat) := ne_versionKey (j := O.updateReason) k (by decide)
  cases u <;> simp_all [startUpdate, State.obj_setObj]

/-- A trigger that no operation holds up begins its own. -/
theorem hostWrite_begins {x : Xfer} {key : Nat} {v : Val} {act : Action} {s : State} {u : Update} (h : Accepts s x key v)
    (ha : act (atWrite s x key v) = (.ok, startUpdate u (atWrite s x key v))) :
    (hostWrite x key v act s).boot = { s.boot with update := some u } ∧ (hostWrite x key v act s).obj O.updateState = 1
      ∧ (u ≠ .verify → (hostWrite x key v act s).obj O.updateReason = Reason.imageFormat.code)
      ∧ Answers s (hostWrite x key v act s) x key v .ok [.boot] (startKeys s u) := by
  have hk : startKeys (atWrite s x key v) u = startKeys s u := by
    simp only [startKeys, hostSlot_congr (atWrite_boot s x key v)]
  have hu := startUpdate_leaves u (atWrite s x key v)
  rw [hk] at hu
  obtain ⟨hans, hboot, -, hobj⟩ := hostWrite_settles h ha hu (by decide)
  exact ⟨hboot.trans (by simp), (hobj _ (by decide)).trans (by simp),
    fun hv => (hobj _ (by decide)).trans (startUpdate_updateReason _ hv), hans⟩

/-! ## The end of a background operation (19 R616, R619; log entry 38) -/

/-- The part with no operation in progress. -/
def updateIdle (s : State) : State := (s.onBoot fun b => { b with update := none }).setObj O.updateState 0

theorem updateIdle_leaves (s : State) : Leaves s (updateIdle s) [.boot, .dict] [O.updateState] :=
  Leaves.trans (Leaves.onBoot s _ (by decide)) (Leaves.setObj _ _ _ (by decide) (by decide))

/-- What the end of an operation makes of a slot's bytes. -/
def slotAfter : Update → List Host.Cell → List Host.Cell
  | .erase, _ => []
  | .program o b, m => programBytes m o b
  | .verify, m => m

theorem execUpdateOperationComplete_eq {s : State} {u : Update} (h : s.boot.update = some u) :
    execUpdateOperationComplete s = .next (endUpdate u s) := by
  rw [execUpdateOperationComplete, h]

theorem endUpdate_erase (s : State) : endUpdate .erase s = onHostSlot (fun _ => []) (updateIdle s) := rfl

theorem endUpdate_program (o : Nat) (b : Bytes) (s : State) : endUpdate (.program o b) s = endProgram o b (updateIdle s) := rfl

/-- The judgement is one of a slot's bytes, the owner's key and the two rollback counters. -/
theorem judgeImage_congr {s t : State} (hk : t.blob O.ownerKeyHash = s.blob O.ownerKeyHash) (hr : t.obj O.rollbackCount = s.obj O.rollbackCount)
    (hf : t.obj O.fwRollbackCount = s.obj O.fwRollbackCount) (m : List Host.Cell) : judgeImage t m = judgeImage s m := by
  unfold judgeImage ownerSigned State.nat
  rw [hk, hr, hf]

/-- A verify records the slot's judgement, and the version of an image that passes. -/
theorem endUpdate_verify (s : State) : endUpdate .verify s =
    ((updateIdle s).setObj O.updateReason (judgeImage s (s.boot.flash.slot (hostSlot s))).code).setObj (versionKey (hostSlot s))
      (if judgeImage s (s.boot.flash.slot (hostSlot s)) = .ok then slotNum (s.boot.flash.slot (hostSlot s)) 12 4 else 0 : Nat) := by
  have hj := judgeImage_congr (s := s) (t := updateIdle s) rfl ((updateIdle_leaves s).2 _ (by decide)) ((updateIdle_leaves s).2 _ (by decide))
    (s.boot.flash.slot (hostSlot s))
  rw [← hj]
  rfl

theorem onHostSlot_leaves (f : List Host.Cell → List Host.Cell) (s : State) :
    Leaves s (onHostSlot f s) [.boot, .dict] [O.trialState] :=
  Leaves.onFlash s _ (by decide) (by decide) (by decide)

theorem endProgram_leaves (o : Nat) (b : Bytes) (s : State) :
    Leaves s (endProgram o b s) [.boot, .dict] [O.trialState, O.imgOffset, O.changeCount] :=
  Leaves.trans_mono (onHostSlot_leaves _ s) (Leaves.change _ _ _ (ps := [.dict]) (ks := [O.imgOffset, O.changeCount])
    (by decide) (by decide) (by decide))

@[simp] theorem endProgram_imgOffset (o : Nat) (b : Bytes) (s : State) :
    (endProgram o b s).obj O.imgOffset = (s.nat O.imgOffset + b.length : Nat) := by
  rw [endProgram, State.obj_change_same _ _ _ (by decide)]
  exact congrArg (fun z : Int => ((z.toNat + b.length : Nat) : Int)) ((onHostSlot_leaves _ s).2 _ (by decide))

theorem endUpdate_boot (u : Update) (s : State) : (endUpdate u s).boot = { s.boot with
    update := none, flash := s.boot.flash.setSlot (hostSlot s) (slotAfter u (s.boot.flash.slot (hostSlot s))) } := by
  cases u with
  | erase => rfl
  | program o b =>
    rw [endUpdate_program, endProgram, State.change_boot]
    rfl
  | verify =>
    rw [endUpdate_verify, slotAfter, Flash.setSlot_slot]
    rfl

/-- The objects that the end of an operation writes. -/
def endKeys (s : State) : Update → List Nat
  | .erase => [O.updateState, O.trialState]
  | .program _ _ => [O.updateState, O.trialState, O.imgOffset, O.changeCount]
  | .verify => [O.updateState, O.updateReason, versionKey (hostSlot s)]

theorem endUpdate_leaves (u : Update) (s : State) : Leaves s (endUpdate u s) [.boot, .dict] (endKeys s u) := by
  cases u with
  | erase =>
    rw [endUpdate_erase]
    exact Leaves.trans_mono (updateIdle_leaves s) (onHostSlot_leaves _ _) (by decide) (by simp [endKeys])
  | program o b =>
    rw [endUpdate_program]
    exact Leaves.trans_mono (updateIdle_leaves s) (endProgram_leaves o b _) (by decide) (by simp [endKeys])
  | verify =>
    rw [endUpdate_verify]
    exact Leaves.trans (Leaves.trans (Leaves.mono (updateIdle_leaves s) (by decide) (by simp [endKeys]))
      (Leaves.setObj _ _ _ (by decide) (by simp [endKeys]))) (Leaves.setObj _ _ _ (by decide) (by simp [endKeys]))

theorem endUpdate_updateState (u : Update) (s : State) : (endUpdate u s).obj O.updateState = 0 := by
  have hi : (updateIdle s).obj O.updateState = 0 := State.obj_setObj_same ..
  cases u with
  | erase => exact ((onHostSlot_leaves _ _).2 _ (by decide)).trans hi
  | program o b => exact ((endProgram_leaves o b _).2 _ (by decide)).trans hi
  | verify => rw [endUpdate_verify, State.obj_setObj_ne _ _ _ _ (ne_versionKey _ (by decide)), State.obj_setObj_ne _ _ _ _ (by decide), hi]

theorem endUpdate_updateReason (u : Update) (s : State) : (endUpdate u s).obj O.updateReason =
    if u = .verify then ((judgeImage s (s.boot.flash.slot (hostSlot s))).code : Int) else s.obj O.updateReason := by
  cases u with
  | erase => exact (endUpdate_leaves .erase s).2 _ (by simp [endKeys])
  | program o b => exact (endUpdate_leaves (.program o b) s).2 _ (by simp [endKeys])
  | verify => rw [endUpdate_verify, State.obj_setObj_ne _ _ _ _ (ne_versionKey _ (by decide)), State.obj_setObj_same, if_pos rfl]

/-- IMG_OFFSET at the end of an operation: past what was programmed. -/
def offsetAfter (s : State) : Update → Int
  | .program _ b => (s.nat O.imgOffset + b.length : Nat)
  | _ => s.obj O.imgOffset

theorem endUpdate_imgOffset (u : Update) (s : State) : (endUpdate u s).obj O.imgOffset = offsetAfter s u := by
  cases u with
  | erase => exact (endUpdate_leaves .erase s).2 _ (by simp [endKeys])
  | program o b =>
    have hi : (updateIdle s).nat O.imgOffset = s.nat O.imgOffset := congrArg Int.toNat ((updateIdle_leaves s).2 _ (by decide))
    rw [endUpdate_program, endProgram_imgOffset, hi, offsetAfter]
  | verify => exact (endUpdate_leaves .verify s).2 _ (by simpa [endKeys] using ne_versionKey _ (by decide))

theorem endKeys_subset (s : State) (u : Update) :
    ∀ k ∈ endKeys s u, k ∈ [O.updateState, O.updateReason, O.trialState, versionKey (hostSlot s), O.imgOffset, O.changeCount] := by
  cases u <;> simp [endKeys]

/-! ## The reason of the last judgement (19 R619) -/

theorem updateReasonOf_congr {s t : State} (h : t.obj O.updateReason = s.obj O.updateReason) : updateReasonOf t = updateReasonOf s := by
  unfold updateReasonOf State.nat
  rw [h]

/-! ## Fuses: the rollback counters (19 R618) -/

/-- The end of a burn: each counter at least at its running version. -/
theorem execRollbackBurnComplete_eq {s : State} {i : SiteImage} (hb : s.boot.burning = true) (hi : s.boot.image = some i) :
    execRollbackBurnComplete s = .next ((((s.onBoot fun b => { b with burning := false }).setObj O.rollbackState 0).setObj O.rollbackCount
      (max (s.nat O.rollbackCount) i.security : Nat)).setObj O.fwRollbackCount (max (s.nat O.fwRollbackCount) i.fwSecurity : Nat)) := by
  unfold execRollbackBurnComplete
  simp [hb, hi, State.nat, State.obj_setObj]

/-! ## Attestation (19 R622 to R624; log entry 39) -/

theorem needsTree_congr {s t : State} (ht : t.obj O.topUsed = s.obj O.topUsed) (hb : t.boot = s.boot) : needsTree t = needsTree s := by
  unfold needsTree treeOf windowsOf State.nat
  rw [ht, hb]

theorem appendLeaf_leaves (r : LeafRecord) (s : State) : Leaves s (appendLeaf r s) [.boot] [] := Leaves.onBoot s _ (by decide)

theorem advanceTree_leaves (s : State) : Leaves s (advanceTree s) [.boot, .dict] [O.topUsed] :=
  Leaves.trans (Leaves.setObj s _ _ (by decide) (by decide)) (Leaves.trans (Leaves.onBoot _ _ (by decide)) (Leaves.onBoot _ _ (by decide)))

/-- The state in which the next leaf is reserved: with a new tree where the last is spent. -/
def treeReady (s : State) : State := if needsTree s then advanceTree s else s

/-- Before the first signature of a window its record is appended, and nothing else changes. -/
theorem reserveLeaf_cases (s : State) : reserveLeaf s = treeReady s ∨ ∃ r, reserveLeaf s = appendLeaf r (treeReady s) := by
  rw [reserveLeaf, ← treeReady]
  split
  · exact .inr ⟨_, rfl⟩
  · exact .inl rfl

theorem treeReady_new {s : State} (h : needsTree s = true) : treeReady s = advanceTree s := if_pos h

theorem treeReady_kept {s : State} (h : ¬needsTree s = true) : treeReady s = s := if_neg h

theorem advanceTree_leaf (s : State) : (advanceTree s).boot.leaf = 0 := rfl

theorem advanceTree_topUsed (s : State) : (advanceTree s).obj O.topUsed = (s.nat O.topUsed + 1 : Nat) := by
  unfold advanceTree appendLeaf
  simp

theorem reserveLeaf_obj (s : State) (k : Nat) : (reserveLeaf s).obj k = (treeReady s).obj k := by
  obtain h | ⟨r, h⟩ := reserveLeaf_cases s <;> rw [h]
  rfl

theorem reserveLeaf_leaf (s : State) : (reserveLeaf s).boot.leaf = (treeReady s).boot.leaf := by
  obtain h | ⟨r, h⟩ := reserveLeaf_cases s <;> rw [h]
  rfl

theorem reserveLeaf_leaves (s : State) : Leaves s (reserveLeaf s) [.boot, .dict] [O.topUsed] := by
  have ht : Leaves s (treeReady s) [.boot, .dict] [O.topUsed] := by
    unfold treeReady
    split
    · exact advanceTree_leaves s
    · exact Leaves.refl s _ _
  obtain h | ⟨r, h⟩ := reserveLeaf_cases s <;> rw [h]
  · exact ht
  · exact Leaves.trans_mono ht (appendLeaf_leaves r _)

@[simp] theorem length_leBytes (n v : Nat) : (leBytes n v).length = n := by
  induction n generalizing v with
  | zero => rfl
  | succ n ih => rw [leBytes, List.length_cons, ih]

@[simp] theorem length_fixLen (n : Nat) (b : Bytes) : (fixLen n b).length = n := by simp [fixLen]

@[simp] theorem length_sha (b : Bytes) : (sha b).length = 32 := length_fixLen ..

theorem length_reportBytes (s : State) : (reportBytes s).length = 160 := by
  unfold reportBytes
  split <;> simp

/-! ## The debug policy (19 R625) -/

/-- What OWNER_PROGRAM leaves: the owner's hash, and an open policy restricted. -/
def ownerTaken (hash : Bytes) (s : State) : State :=
  let s := s.setBlob O.ownerKeyHash hash
  if s.obj O.debugPolicy == 0 then (s.setObj O.debugPolicy 1).setObj O.debugGrants 0 else s

theorem ownerTaken_leaves (hash : Bytes) (s : State) :
    Leaves s (ownerTaken hash s) [.dict, .blobs] [O.debugPolicy, O.debugGrants] := by
  have hb : Leaves s (s.setBlob O.ownerKeyHash hash) [.dict, .blobs] [O.debugPolicy, O.debugGrants] := Leaves.setBlob s _ _ (by decide)
  unfold ownerTaken
  dsimp only
  split
  · exact Leaves.trans hb (Leaves.trans (Leaves.setObj _ _ _ (by decide) (by decide)) (Leaves.setObj _ _ _ (by decide) (by decide)))
  · exact hb

theorem ownerTaken_takes (hash : Bytes) (s : State) : (ownerTaken hash s).blob O.ownerKeyHash = hash
    ∧ (s.obj O.debugPolicy = 0 → (ownerTaken hash s).obj O.debugPolicy = 1 ∧ (ownerTaken hash s).obj O.debugGrants = 0)
    ∧ (s.obj O.debugPolicy ≠ 0 → (ownerTaken hash s).obj O.debugPolicy = s.obj O.debugPolicy) := by
  by_cases h : s.obj O.debugPolicy = 0 <;> simp [ownerTaken, h, State.obj_setObj]

/-- What a good DEBUG_TOKEN leaves: its grants under the restricted policy, and a fresh nonce. -/
def tokenTaken (data : Bytes) (s : State) : State :=
  freshNonce (if s.obj O.debugPolicy == 1 then s.setObj O.debugGrants (bytesAt data 52 1) else s)

theorem tokenTaken_leaves (data : Bytes) (s : State) :
    Leaves s (tokenTaken data s) [.dict, .blobs, .freeCtr] [O.debugGrants] := by
  refine Leaves.trans ?_ (Leaves.freshNonce _ (by decide) (by decide))
  split
  · exact Leaves.setObj s _ _ (by decide) (by decide)
  · exact Leaves.refl s _ _

theorem tokenTaken_debugGrants (data : Bytes) (s : State) : (tokenTaken data s).obj O.debugGrants =
    if s.obj O.debugPolicy = 1 then (bytesAt data 52 1 : Int) else s.obj O.debugGrants := by
  refine ((Leaves.freshNonce (ps := [.blobs, .freeCtr]) (ks := []) _ (by decide) (by decide)).2 _ (by decide)).trans ?_
  simp only [beq_iff_eq]
  split
  · exact State.obj_setObj_same ..
  · rfl

/-! ## JTAG (19 R626) -/

theorem Leaves.onJtag (s : State) (f : Jtag → Jtag) {ps : List Part} {ks : List Nat} (h : Part.boot ∈ ps) : Leaves s (s.onJtag f) ps ks :=
  Leaves.onBoot s _ h

end Sys2Proof.Machine

open Sys2Proof Sys2Proof.Machine Sys2Proof.Safety

/-- Settles O54: each clause follows from what its command's action does, or from the equation of its event. -/
theorem updateAndIdentity : Obligations.UpdateAndIdentity := by
  unfold Obligations.UpdateAndIdentity
  refine ⟨?triggers, ?data, ?complete, ?activate, ?confirm, ?commit, ?burn, ?request, ?report, ?owner, ?token, ?close, ?jtag⟩
  case triggers =>
    intro x s
    refine ⟨fun h => ⟨_, rfl, ?_⟩, fun h => ⟨_, rfl, ?_⟩⟩
    · split
      · next hu =>
        obtain ⟨hans, hboot, -, -⟩ := hostWrite_refused h (act := actImgErase) (if_pos (by simpa using hu))
        exact ⟨hboot, hans⟩
      · next hu =>
        obtain ⟨hboot, hstate, hreason, hans⟩ := hostWrite_begins h (act := actImgErase) (u := .erase) (if_neg (by simpa using hu))
        exact ⟨hboot, hstate, hreason nofun, hans⟩
    · split
      · next hu =>
        obtain ⟨hans, hboot, -, -⟩ := hostWrite_refused h (act := actImgVerify) (if_pos (by simpa using hu))
        exact ⟨hboot, hans⟩
      · next hu =>
        obtain ⟨hboot, hstate, -, hans⟩ := hostWrite_begins h (act := actImgVerify) (u := .verify) (if_neg (by simpa using hu))
        exact ⟨hboot, hstate, hans⟩
  case data =>
    intro x data s h
    have ho : (atWrite s x O.imgData (.bytes data)).nat O.imgOffset = s.nat O.imgOffset := congrArg Int.toNat (atWrite_obj ..)
    refine ⟨_, rfl, ?_⟩
    split
    · next hu =>
      obtain ⟨hans, hboot, -, -⟩ := hostWrite_refused h (act := actImgData data) (if_pos (by simpa using hu))
      exact ⟨hboot, hans⟩
    · next hu =>
      have hfree : ¬(atWrite s x O.imgData (.bytes data)).boot.update.isSome = true := by simpa using hu
      split
      · next hp =>
        obtain ⟨hans, hboot, -, -⟩ := hostWrite_refused h (act := actImgData data) ((if_neg hfree).trans (if_pos (by rwa [ho])))
        exact ⟨hboot, hans⟩
      · next hp =>
        obtain ⟨hboot, hstate, hreason, hans⟩ := hostWrite_begins h (act := actImgData data) (u := .program (s.nat O.imgOffset) data)
          ((if_neg hfree).trans ((if_neg (by rwa [ho])).trans (by rw [ho])))
        exact ⟨hboot, hstate, hreason nofun, hans⟩
  case complete =>
    intro u s hu
    refine ⟨_, execUpdateOperationComplete_eq hu, by rw [endUpdate_boot], endUpdate_updateState u s, ?_, fun k hk hh hne => ?_,
      fun h => ⟨hostSlot_lt s, hostSlot_ne_slot h⟩, endUpdate_updateReason u s, ?_, ?_⟩
    · rw [endUpdate_boot, Flash.slot_setSlot_same]
      cases u <;> rfl
    · rw [endUpdate_boot, Flash.slot_setSlot_ne _ _ hk hh hne]
    · rw [endUpdate_imgOffset]
      cases u <;> rfl
    · exact Leaves.mono (endUpdate_leaves u s) (by decide) (endKeys_subset s u)
  case activate =>
    intro x s h
    have hr := updateReasonOf_congr (atWrite_obj s x O.imgActivate (.num 1) O.updateReason)
    refine ⟨_, rfl, ?_⟩
    split
    · next hok =>
      obtain ⟨hans, hboot, -, hobj⟩ := hostWrite_settles h (act := actImgActivate) (ps := [.boot]) (ks := [O.trialState])
        (if_pos (hr.trans hok)) (Leaves.onFlash _ _ (by decide) (by decide) (by decide)) (by decide)
      refine ⟨?_, ?_, ?_, ?_, hans⟩
      · rw [hboot, State.onFlash_boot, Flash.control_writeControl]
      · rw [hboot, State.onFlash_boot, Flash.control_writeControl, atWrite_boot]
      · rw [hobj _ (by decide), State.onFlash_trialState, Flash.control_writeControl]
        rfl
      · rw [hboot, State.onFlash_boot, atWrite_boot]
    · next hno =>
      obtain ⟨hans, hboot, -, -⟩ := hostWrite_refused h (act := actImgActivate) (r := updateReasonOf s)
        ((if_neg (by rwa [hr])).trans (by rw [hr]))
      exact ⟨hboot, hans⟩
  case confirm =>
    intro x s h hslot
    refine ⟨_, rfl, ?_⟩
    split
    · next ht =>
      obtain ⟨hans, hboot, -, hobj⟩ := hostWrite_settles h (act := actImgConfirm) (ps := [.boot]) (ks := [O.trialState])
        (congrArg (Prod.mk Reason.ok) (if_pos (by simp [ht, hslot]))) (Leaves.onFlash _ _ (by decide) (by decide) (by decide)) (by decide)
      refine ⟨hans, ?_, ?_, ?_⟩
      · rw [hboot, State.onFlash_boot, Flash.control_writeControl, atWrite_boot]
      · rw [hboot, State.onFlash_boot, Flash.control_writeControl]
      · rw [hobj _ (by decide), State.onFlash_trialState, Flash.control_writeControl]
        rfl
    · next ht =>
      obtain ⟨hans, hboot, -, hobj⟩ := hostWrite_settles h (act := actImgConfirm) (ps := [.boot]) (ks := [O.trialState])
        (congrArg (Prod.mk Reason.ok) (if_neg (by simp [ht]))) (Leaves.refl _ _ _) (by decide)
      exact ⟨hans, hboot.trans (atWrite_boot ..), (hobj _ (by decide)).trans (atWrite_obj ..)⟩
  case commit =>
    intro x s h
    refine ⟨_, rfl, ?_⟩
    split
    · next hb =>
      obtain ⟨hans, hboot, -, -⟩ := hostWrite_refused h (act := actRollbackCommit) (if_pos (by simpa using hb))
      exact ⟨hboot, hans⟩
    · next hb =>
      obtain ⟨hans, hboot, -, hobj⟩ := hostWrite_settles h (act := actRollbackCommit) (ps := [.boot]) (ks := [O.rollbackState])
        (if_neg (by simpa using hb)) (Leaves.trans (Leaves.onBoot _ _ (by decide)) (Leaves.setObj _ _ _ (by decide) (by decide))) (by decide)
      refine ⟨?_, (hobj _ (by decide)).trans (State.obj_setObj_same ..), hans⟩
      rw [hboot, State.setObj_boot, State.onBoot_boot, atWrite_boot]
  case burn =>
    intro i s hb hi
    refine ⟨_, execRollbackBurnComplete_eq hb hi, rfl, ?_, ?_, State.obj_setObj_same .., ?_⟩
    · rw [State.obj_setObj_ne _ _ _ _ (by decide), State.obj_setObj_ne _ _ _ _ (by decide), State.obj_setObj_same]
    · rw [State.obj_setObj_ne _ _ _ _ (by decide), State.obj_setObj_same]
    · exact Leaves.trans (Leaves.trans (Leaves.trans (Leaves.onBoot s _ (by decide)) (Leaves.setObj _ _ _ (by decide) (by decide)))
        (Leaves.setObj _ _ _ (by decide) (by decide))) (Leaves.setObj _ _ _ (by decide) (by decide))
  case request =>
    intro x s h
    have hn := needsTree_congr (atWrite_obj s x O.attestRequest (.num 1) O.topUsed) (atWrite_boot s x O.attestRequest (.num 1))
    refine ⟨_, rfl, ?_⟩
    split
    · next hx =>
      obtain ⟨hans, hboot, -, -⟩ := hostWrite_refused h (act := actAttestRequest) (if_pos (by simpa [hn, State.nat] using hx))
      exact ⟨hboot, hans⟩
    · next hx =>
      obtain ⟨hans, hboot, hblob, -⟩ := hostWrite_settles h (act := actAttestRequest) (ps := [.blobs, .boot]) (ks := [])
        (if_neg (by simpa [hn, State.nat] using hx))
        (Leaves.trans (Leaves.onBoot _ _ (by decide)) (Leaves.setBlob _ _ _ (by decide))) (by decide)
      refine ⟨?_, (hblob _).trans (State.blob_setBlob_same ..), hans⟩
      rw [hboot, State.setBlob_boot, State.onBoot_boot, atWrite_boot]
  case report =>
    intro s hsig
    refine ⟨_, if_pos hsig, rfl, ?_, ?_, ?_⟩
    · rw [State.onBoot_blob, State.blob_setBlob_same, List.length_append, length_reportBytes, length_fixLen]
    · rw [State.onBoot_boot, State.setBlob_boot, State.onBoot_obj, State.obj_setBlob, reserveLeaf_leaf, reserveLeaf_obj]
      split
      · next hn => exact ⟨by rw [treeReady_new hn, advanceTree_leaf], by rw [treeReady_new hn, advanceTree_topUsed]⟩
      · next hn => exact ⟨by rw [treeReady_kept hn], by rw [treeReady_kept hn]⟩
    · exact Leaves.trans (Leaves.mono (reserveLeaf_leaves s) (by decide) (by decide))
        (Leaves.trans (Leaves.setBlob _ _ _ (by decide)) (Leaves.onBoot _ _ (by decide)))
  case owner =>
    intro x hash s h
    refine ⟨_, rfl, ?_⟩
    split
    · next hx =>
      obtain ⟨hans, -, hblob, -⟩ := hostWrite_refused h (act := actOwnerProgram hash) (if_pos (by simpa using hx))
      exact ⟨hblob _, hans⟩
    · next hx =>
      obtain ⟨hans, -, hblob, hobj⟩ := hostWrite_settles h (act := actOwnerProgram hash) (ps := [.blobs])
        (if_neg (by simpa using hx)) (ownerTaken_leaves hash _) (by decide)
      obtain ⟨hhash, hopen, hkept⟩ := ownerTaken_takes hash (atWrite s x O.ownerProgram (.bytes hash))
      rw [atWrite_obj] at hopen hkept
      refine ⟨(hblob _).trans hhash, fun h0 => ?_, fun h0 => ?_, hans⟩
      · exact ⟨(hobj _ (by decide)).trans (hopen h0).1, (hobj _ (by decide)).trans (hopen h0).2⟩
      · exact (hobj _ (by decide)).trans (hkept h0)
  case token =>
    intro x data s h
    have hk : tokenOk (atWrite s x O.debugToken (.bytes data)) data = tokenOk s data := by simp [tokenOk]
    refine ⟨_, rfl, ?_⟩
    split
    · next hx =>
      obtain ⟨hans, -, -, hobj⟩ := hostWrite_refused h (act := actDebugToken data) (if_pos (by simpa [hk] using hx))
      exact ⟨hobj _ (by decide), hans⟩
    · next hx =>
      obtain ⟨hans, -, -, hobj⟩ := hostWrite_settles h (act := actDebugToken data) (ps := [.blobs, .freeCtr])
        (if_neg (by simpa [hk] using hx)) (tokenTaken_leaves data _) (by decide)
      refine ⟨(hobj _ (by decide)).trans ((tokenTaken_debugGrants data _).trans ?_), hans⟩
      rw [atWrite_obj, atWrite_obj]
  case close =>
    intro x s h
    obtain ⟨hans, -, -, hobj⟩ := hostWrite_settles h (act := actDebugClose) (ps := []) (ks := [O.debugPolicy, O.debugGrants]) rfl
      (Leaves.trans (Leaves.setObj _ _ _ (by decide) (by decide)) (Leaves.setObj _ _ _ (by decide) (by decide))) (by decide)
    refine ⟨_, rfl, (hobj _ (by decide)).trans ?_, (hobj _ (by decide)).trans (State.obj_setObj_same ..), hans⟩
    rw [State.obj_setObj_ne _ _ _ _ (by decide), State.obj_setObj_same]
  case jtag =>
    intro s
    have captured (f : Jtag → Jtag) : Leaves s (s.free.2.onJtag f) [.boot, .freeCtr] [] :=
      Leaves.trans (Leaves.free s (by decide)) (Leaves.onJtag _ _ (by decide))
    refine ⟨⟨_, rfl, rfl⟩, ⟨_, rfl, rfl⟩, fun cells => ⟨⟨_, rfl, rfl, rfl, rfl, captured _⟩, ?_, ?_⟩⟩
    · split
      · next hg => exact ⟨_, if_pos (by simpa using hg), rfl, rfl, captured _⟩
      · next hg => exact if_neg (by simpa using hg)
    · split
      · next hw => exact ⟨_, congrArg Host.Outcome.next (if_pos hw), rfl⟩
      · next hw => exact congrArg Host.Outcome.next (if_neg hw)
end

section
/-! SUPPORT. Resets, supplies and temperatures, and the records of the journal (04; 15; 19; 20): the frame of a reset's steps, what each step
of a warm reset, of a boot and of the enables' checks keeps, the stages of the resets, and the statement about them assembled from these.

Elaborated side by side, these many short proofs wait for one another, each on a thread with a stack of its own; so they are taken in turn. -/

set_option Elab.async false

namespace Sys2Proof.Machine

open Sys2Proof.Safety

/-! ## What a reset's steps keep -/

/-- What a reset decides or keeps on purpose beside the enables: IMAGE_SLOT, the objects of the boot, the states of the session and of
WATCH, and the fuses of the tree and the policy. -/
def bootKeys : List Nat :=
  [O.imageSlot, O.bootState, O.resetCause, O.coldResets, O.warmResets, O.bootMs, O.sessionState, O.topUsed, O.debugPolicy, O.watchState]

/-- These, and the enables. -/
def resetKeys : List Nat := bootKeys ++ enableKeys

theorem carrierEnable_mem {n : Nat} (hn : n < 64) : O.carrierEnable n ∈ enableKeys := by
  unfold enableKeys
  simp [hn]

theorem portEnable_mem {p : Nat} (hp : p < 24) : O.portEnable p ∈ enableKeys := by
  unfold enableKeys
  simp [hp]

theorem partEnable_mem {p : Nat} (hp : p < 8) : O.partEnable p ∈ enableKeys := by
  unfold enableKeys
  simp [hp]

/-- Where these objects lie: below the units, at three places among them, and at sub 01 of the enables and of the session's state. -/
abbrev InReset (k : Nat) : Prop :=
  k = 0x100007 ∨ k = 0x140001 ∨ k = 0x140003 ∨ (0x140006 ≤ k ∧ k ≤ 0x140008) ∨ k = 0xA0000B ∨ k = 0xA0000E ∨ k = 0x704005
    ∨ k % 256 = 1 ∧ (k = 0x201001 ∨ k = 0x240001 ∨ k = 0x281001 ∨ k = 0x704001 ∨ k = 0x800001 ∨ (0x300001 ≤ k ∧ k ≤ 0x37E001)
      ∨ (0x440001 ≤ k ∧ k ≤ 0x49C001) ∨ (0x601001 ≤ k ∧ k ≤ 0x601701))

theorem resetKeys_lie : ∀ k ∈ resetKeys, InReset k := by decide +kernel

/-- An enable that is neither PENDING nor STOPPING. -/
def Resting (s : State) (k : Nat) : Prop := k ∈ enableKeys → s.obj k = 0 ∨ s.obj k = 1

/-- What the steps of a reset are asked about beside objects. -/
inductive Trait
  | pending | image | imageBlobs | clock | tiles | hod | held | latch | buffer | modules | rtcOff | sent | wb | owner | courses | ues
  | supply | slots
  deriving DecidableEq

/-- A trait is the same in two states; of the messages sent, none is lost, and no course comes to be. -/
def Trait.same (s t : State) : Trait → Prop
  | .pending => t.pending = s.pending
  | .image => t.image = s.image
  | .imageBlobs => t.imageBlobs = s.imageBlobs
  | .clock => t.clock = s.clock
  | .tiles => t.tiles = s.tiles
  | .hod => t.hod = s.hod
  | .held => t.svc.held = s.svc.held
  | .latch => t.svc.latch = s.svc.latch
  | .buffer => t.svc.buffer = s.svc.buffer
  | .modules => t.link.m0 = s.link.m0 ∧ t.link.m1 = s.link.m1
  | .rtcOff => t.guard.rtcOff = s.guard.rtcOff
  | .sent => s.link.sent <+: t.link.sent
  | .wb => t.wb = s.wb
  | .owner => t.blob O.ownerKeyHash = s.blob O.ownerKeyHash
  | .courses => s.pipe.courses = [] → t.pipe.courses = []
  | .ues => t.pipe.ues = s.pipe.ues
  | .supply => t.boot.powered = s.boot.powered ∧ t.boot.tripped = s.boot.tripped
  | .slots => ∀ k, t.boot.flash.slot k = s.boot.flash.slot k

/-- The frame of a reset's steps: every trait but those of a list, and every object that a reset decides but those of another list and the
enables that PENDING or STOPPING leaves open. -/
structure Keeps (l : List Trait) (ex : List Nat) (s t : State) : Prop where
  same : ∀ x, x ∉ l → x.same s t
  obj : ∀ k ∈ resetKeys, k ∉ ex → Resting s k → t.obj k = s.obj k

theorem Trait.same_refl (s : State) (x : Trait) : x.same s s := by cases x <;> simp [Trait.same]

/-- What the traits are of, beside the pipe. -/
def State.resetView (s : State) :=
  (s.pending, s.image, s.imageBlobs, s.clock, s.tiles, s.hod, (s.svc.held, s.svc.latch, s.svc.buffer),
    (s.link.m0, s.link.m1, s.link.sent), s.guard.rtcOff, s.wb, s.blob O.ownerKeyHash, (s.boot.powered, s.boot.tripped, s.boot.flash))

theorem Trait.same_of_view {s t : State} (h : t.resetView = s.resetView) (hc : s.pipe.courses = [] → t.pipe.courses = [])
    (hu : t.pipe.ues = s.pipe.ues) (x : Trait) : x.same s t := by
  simp only [State.resetView, Prod.mk.injEq] at h
  cases x
  case courses => exact hc
  case ues => exact hu
  all_goals simp [Trait.same, h]

theorem Trait.same_trans {s t u : State} {x : Trait} (h1 : x.same s t) (h2 : x.same t u) : x.same s u := by
  cases x
  case sent => exact h1.trans h2
  case courses => exact h2 ∘ h1
  case slots => exact fun k => (h2 k).trans (h1 k)
  all_goals simp_all [Trait.same]

namespace Keeps

variable {l m : List Trait} {ex fx : List Nat} {s t u : State}

theorem refl (s : State) : Keeps l ex s s := ⟨fun x _ => x.same_refl s, fun _ _ _ _ => rfl⟩

theorem trans (h1 : Keeps l ex s t) (h2 : Keeps l ex t u) : Keeps l ex s u :=
  ⟨fun x hx => Trait.same_trans (h1.same x hx) (h2.same x hx), fun k hk he hr =>
    have ht := h1.obj k hk he hr
    (h2.obj k hk he fun hen => ht ▸ hr hen).trans ht⟩

theorem mono (h : Keeps l ex s t) (hl : ∀ x ∈ l, x ∈ m) (he : ∀ k ∈ ex, k ∈ fx) : Keeps m fx s t :=
  ⟨fun x hx => h.same x fun hn => hx (hl x hn), fun k hk hn => h.obj k hk fun hx => hn (he k hx)⟩

/-- A sequence of steps each of which keeps what the next needs. -/
theorem foldl_inv {α : Type} {f : State → α → State} (P : State → Prop) (hP : ∀ s t, Keeps l ex s t → P s → P t) (xs : List α)
    (h : ∀ a ∈ xs, ∀ s, P s → Keeps l ex s (f s a)) (s : State) (hs : P s) : Keeps l ex s (xs.foldl f s) := by
  induction xs generalizing s with
  | nil => exact refl s
  | cons a xs ih =>
    obtain ⟨ha, hxs⟩ := List.forall_mem_cons.mp h
    exact trans (ha s hs) (ih hxs _ (hP _ _ (ha s hs) hs))

theorem foldl {α : Type} {f : State → α → State} (xs : List α) (h : ∀ a ∈ xs, ∀ s, Keeps l ex s (f s a)) (s : State) :
    Keeps l ex s (xs.foldl f s) :=
  foldl_inv (fun _ => True) (fun _ _ _ _ => trivial) xs (fun a ha s _ => h a ha s) s trivial

/-- A change of what is not asked about. -/
theorem rest (h : t.resetView = s.resetView := by rfl) (hp : t.pipe = s.pipe := by rfl) (hd : t.dict = s.dict := by rfl) : Keeps l ex s t :=
  ⟨fun x _ => x.same_of_view h (fun hc => hp ▸ hc) (hp ▸ rfl), fun k _ _ _ => State.obj_congr hd k⟩

/-- A change beside the dictionary. -/
theorem of_same (h : ∀ x, x ∉ l → x.same s t) (hd : t.dict = s.dict := by rfl) : Keeps l ex s t :=
  ⟨h, fun k _ _ _ => State.obj_congr hd k⟩

theorem setObj_same (s : State) (k : Nat) (v : Int) (x : Trait) : x.same s (s.setObj k v) := x.same_of_view rfl id rfl

/-- A write of an object that no reset decides, or of one of the list. -/
theorem setKey (s : State) (k : Nat) (v : Int) (hk : k ∈ resetKeys → k ∈ ex) : Keeps l ex s (s.setObj k v) :=
  ⟨fun x _ => setObj_same s k v x, fun j hj he _ => State.obj_setObj_ne s k j v fun h => he (h ▸ hk (h ▸ hj))⟩

/-- The same, by where the object lies. -/
theorem setObj (s : State) (k : Nat) (v : Int) (hk : InReset k → k ∈ ex := by grind) : Keeps l ex s (s.setObj k v) :=
  setKey s k v fun h => hk (resetKeys_lie k h)

theorem bump (s : State) (k n : Nat) (hk : InReset k → k ∈ ex := by grind) : Keeps l ex s (s.bump k n) := setObj s k _ hk

/-- An enable that was not at rest answers for itself. -/
theorem of_busy {k : Nat} (hb : ¬(s.obj k = 0 ∨ s.obj k = 1)) (hk : k ∈ resetKeys → k ∈ enableKeys) (h : Keeps l (k :: ex) s t) :
    Keeps l ex s t :=
  ⟨h.same, fun j hj he hr => h.obj j hj (fun hn => (List.mem_cons.mp hn).elim (fun hjk => hb (hjk ▸ hr (hjk ▸ hk (hjk ▸ hj)))) he) hr⟩

theorem setBlob (s : State) (k : Nat) (b : Bytes) (hk : O.ownerKeyHash ≠ k := by decide) : Keeps l ex s (s.setBlob k b) :=
  rest (by simp [State.resetView, State.blob_setBlob_ne, hk])

theorem free (s : State) : Keeps l ex s s.free.2 := rest

theorem freeBytes (s : State) (n : Nat) : Keeps l ex s (s.freeBytes n).2 := rest

/-- A change of the pipe that lets no course come to be and leaves the contexts. -/
theorem courses (h : s.pipe.courses = [] → t.pipe.courses = []) (hu : t.pipe.ues = s.pipe.ues := by rfl)
    (ht : t.resetView = s.resetView := by rfl) (hd : t.dict = s.dict := by rfl) : Keeps l ex s t :=
  ⟨fun x _ => x.same_of_view ht h hu, fun k _ _ _ => State.obj_congr hd k⟩

/-- A change of weight banks alone. -/
theorem wb (hw : Trait.wb ∈ l) (h : { t with wb := s.wb }.resetView = s.resetView := by rfl) (hp : t.pipe = s.pipe := by rfl)
    (hd : t.dict = s.dict := by rfl) : Keeps l ex s t :=
  ⟨fun x hx => by
    have hs := Trait.same_of_view h (fun hc => hp ▸ hc) (hp ▸ rfl) x
    cases x
    case wb => exact absurd hw hx
    all_goals exact hs, fun k _ _ _ => State.obj_congr hd k⟩

/-- A change of contexts alone. -/
theorem ues (hu : Trait.ues ∈ l) (h : t.resetView = s.resetView := by rfl) (hc : t.pipe.courses = s.pipe.courses := by rfl)
    (hd : t.dict = s.dict := by rfl) : Keeps l ex s t :=
  ⟨fun x hx => by
    have hs := Trait.same_of_view (s := s) (t := { t with pipe := { t.pipe with ues := s.pipe.ues } }) h (fun h => hc.trans h) rfl x
    cases x
    case ues => exact absurd hu hx
    all_goals exact hs, fun k _ _ _ => State.obj_congr hd k⟩

theorem onCourse (s : State) (key : Nat) (f : Course → Course) : Keeps l ex s (s.onCourse key f) := by
  unfold State.onCourse
  split
  next c hc => exact courses fun h => by simp [State.course, h, Store.find] at hc
  next => exact refl s

/-! ### Frames by parts -/

/-- The part of a state that a trait is of. -/
def partOf : Trait → Part
  | .pending => .pending
  | .image => .image
  | .imageBlobs => .imageBlobs
  | .clock => .clock
  | .tiles => .tiles
  | .hod => .hod
  | .held | .latch | .buffer => .svc
  | .modules | .sent => .link
  | .rtcOff => .guard
  | .wb => .wb
  | .owner => .blobs
  | .courses | .ues => .pipe
  | .supply | .slots => .boot

theorem same_of_part {x : Trait} (h : Part.same s t (partOf x)) : x.same s t := by
  cases x <;> simp_all [Trait.same, Part.same, partOf, State.blob]

/-- A frame of parts and objects, where no trait that is asked about is of one of its parts. -/
theorem of_leaves {ps : List Part} {ks : List Nat} (h : Leaves s t ps ks) (hk : ∀ k ∈ ks, InReset k → k ∈ ex)
    (hp : ∀ x, x ∉ l → partOf x ∉ ps := by intro x _; cases x <;> decide) : Keeps l ex s t :=
  ⟨fun x hx => same_of_part (h.1 _ (hp x hx)), fun k hr he _ => h.2 k fun hm => he (hk k hm (resetKeys_lie k hr))⟩

/-! ### Operations that are judged, and enables whose shut-down completes -/

theorem onOp (s : State) (tag : Nat) (f : Op → Op) : Keeps l ex s (s.onOp tag f) :=
  rest (by simp [State.resetView, State.blob]) (by simp) (by simp)

theorem addTrace (r : Bytes) (s : State) : Keeps l ex s (addTrace r s) := by
  unfold Machine.addTrace
  dsimp only
  split
  · exact (bump s O.traceWritten 1).trans rest
  · split
    · exact (bump s O.traceWritten 1).trans rest
    · exact bump ..

theorem traceOp (e tag : Nat) (o : Op) (status pallets tested : Nat) (s : State) :
    Keeps l ex s (traceOp e tag o status pallets tested s) := by
  unfold Machine.traceOp
  split
  · exact addTrace _ s
  · exact refl s

theorem makeReady (tag : Nat) (o : Op) (s : State) : Keeps l ex s (makeReady tag o s) := (onOp s tag _).trans (traceOp ..)

theorem voidBlock (s : State) (j : Job) : Keeps l ex s (s.voidBlock j) := by
  unfold State.voidBlock
  extract_lets seen n
  split
  · exact refl s
  · exact rest

theorem dropJob (s : State) (tag : Nat) : Keeps l ex s (s.dropJob tag) := rest

theorem dropKilnJob (tag : Nat) (s : State) : Keeps l ex s (dropKilnJob tag s) := by
  unfold Machine.dropKilnJob
  split
  · dsimp only
    refine trans ?_ ((dropJob _ tag).trans (voidBlock _ _))
    split
    · exact refl s
    · exact bump ..
  · exact refl s

theorem countExpiry (o : Op) {key : Nat} (s : State) (hk : InReset key → key ∈ ex := by grind) : Keeps l ex s (countExpiry o key s) :=
  (bump s _ 1).trans ((bump _ key 1 hk).trans ((onCourse ..).trans (onCourse ..)))

theorem expireOp (tag : Nat) (s : State) : Keeps l ex s (expireOp tag s) := by
  unfold Machine.expireOp
  split
  · split
    · exact (dropKilnJob tag s).trans ((countExpiry ..).trans ((onOp ..).trans (traceOp ..)))
    · exact refl s
  · exact refl s

theorem settleOp (s : State) (tag : Nat) : Keeps l ex s (settleOp s tag) := by
  unfold Machine.settleOp
  split
  · split
    · split
      · exact expireOp tag s
      · split
        · exact makeReady tag _ s
        · exact refl s
    · split
      · exact expireOp tag s
      · exact refl s
  · exact refl s

theorem settle (s : State) : Keeps l ex s (settle s) := foldl _ (fun tag _ s => settleOp s tag) s

theorem askOutcome (key : Nat) (s : State) : Keeps l ex s (askOutcome key s) := by
  unfold Machine.askOutcome
  split
  · exact refl s
  · exact rest

theorem askOutcomes (s : State) : Keeps l ex s (askOutcomes s) := foldl _ (fun key _ s => askOutcome key s) s

/-- An enable whose shut-down completes. -/
theorem shutDone {k : Nat} (hk : k ∈ ex) (s : State) : Keeps l ex s (shutDone k s) := by
  unfold Machine.shutDone
  split
  · exact rest
  · exact setObj s _ _ fun _ => hk

/-- An enable that waits for a shut-down is not at rest. -/
theorem stopping_busy {k : Nat} (h : (s.obj k == stStopping || s.obj k == stPending) = true) : ¬(s.obj k = 0 ∨ s.obj k = 1) := by
  simp only [stStopping, stPending, Bool.or_eq_true, beq_iff_eq] at h
  omega

theorem partsDone (s : State) : Keeps l ex s (partsDone s) := by
  refine foldl _ (fun p hp s => ?_) s
  dsimp only
  split
  next h =>
    rw [Bool.and_eq_true, Bool.and_eq_true] at h
    exact of_busy (stopping_busy h.1.1) (fun _ => partEnable_mem (List.mem_range.mp hp)) (shutDone (List.mem_cons_self ..) s)
  next => exact refl s

theorem setOps (s : State) (ops : Store Op) : Keeps l ex s (s.setOps ops) := rest

theorem resettle (s : State) : Keeps l ex s (resettle s) :=
  (settle s).trans ((setOps ..).trans ((askOutcomes _).trans (partsDone _)))

/-! ### Courses that the journal restores, and outcomes -/

theorem causeAt (key status : Nat) (recs : List Nat) (s : State) : Keeps l ex s (causeAt key status recs s) := onCourse ..

theorem onUe (s : State) (i : Nat) (f : Ue → Ue) (hu : Trait.ues ∈ l) : Keeps l ex s (s.onUe i f) := ues hu

theorem onHarq (s : State) (ue proc : Nat) (f : Harq → Harq) (hu : Trait.ues ∈ l) : Keeps l ex s (s.onHarq ue proc f) := onUe s ue _ hu

theorem discardVersions (key : Nat) (s : State) (hu : Trait.ues ∈ l) : Keeps l ex s (discardVersions key s) :=
  foldl _ (fun _ _ s => (onHarq s _ _ _ hu).trans (bump _ O.harqDiscards 1)) s

theorem issueGraph (chan course gen : Nat) (nodes : List Node) (sel : OpId → Bool) (s : State) :
    Keeps l ex s (issueGraph chan course gen nodes sel s) := foldl _ (fun _ _ _ => rest) s

theorem restoreCourse (s : State) (key : Nat) (hu : Trait.ues ∈ l) : Keeps l ex s (restoreCourse s key) := by
  unfold Machine.restoreCourse
  split
  · exact refl s
  · extract_lets site dl gone nodes past sel again s1 s2
    have h1 : Keeps l ex s s1 := onCourse ..
    have h2 : Keeps l ex s1 s2 := by
      refine trans ?_ (discardVersions key _ hu)
      split
      · exact refl _
      · exact causeAt ..
    refine h1.trans (h2.trans ?_)
    split
    · exact refl _
    · exact issueGraph ..

/-- The courses that the journal holds. -/
theorem restoreCourses (s : State) (hu : Trait.ues ∈ l) : Keeps l ex s (restoreCourses s) := by
  unfold Machine.restoreCourses
  exact trans (courses fun h => by simp [h]) ((foldl _ (fun key _ s => restoreCourse s key hu) _).trans (resettle _))

theorem withdrawJob (s : State) (tag : Nat) : Keeps l ex s (withdrawJob s tag) := by
  unfold Machine.withdrawJob
  split
  · exact (bump s O.cancelledJobs 1).trans (dropKilnJob tag _)
  · exact refl s

theorem dropOps (key : Nat) (s : State) : Keeps l ex s (dropOps key s) :=
  (foldl _ (fun tag _ s => withdrawJob s tag) s).trans (setOps ..)

theorem learnRec (c : Course) (s : State) (r : Rec) (hu : Trait.ues ∈ l) : Keeps l ex s (learnRec c s r) := by
  unfold Machine.learnRec
  dsimp only
  split
  · split
    · exact refl s
    · exact onUe s _ _ hu
  · exact refl s

theorem commitRec (key : Nat) (c : Course) (s : State) (r : Rec) (hu : Trait.ues ∈ l) : Keeps l ex s (commitRec key c s r) := by
  unfold Machine.commitRec
  split
  · exact refl s
  · extract_lets sg h mine done s1
    have h1 : Keeps l ex s s1 := by
      unfold s1
      split
      · exact onHarq s _ _ _ hu
      · split
        · split
          · split
            · exact (onHarq s _ _ _ hu).trans (bump _ O.harqCommits 1)
            · exact (onHarq s _ _ _ hu).trans (bump _ O.harqDiscards 1)
          · exact refl s
        · exact refl s
    exact h1.trans (onCourse ..)

theorem clearSoft (key : Nat) (s : State) : Keeps l ex s (clearSoft key s) := onCourse ..

theorem countOutcome (n result withheld : Nat) (s : State) : Keeps l ex s (countOutcome n result withheld s) := by
  unfold Machine.countOutcome
  extract_lets s1
  have h1 : Keeps l ex s s1 := bump ..
  refine h1.trans ?_
  split
  · exact bump ..
  · exact bump ..
  · exact bump ..

theorem onChan (s : State) (c : Nat) (f : Channel → Channel) : Keeps l ex s (s.onChan c f) := rest

theorem sweepEntries (s : State) (hw : Trait.wb ∈ l) : Keeps l ex s (sweepEntries s) := wb hw

theorem sweepContexts (s : State) (hu : Trait.ues ∈ l) : Keeps l ex s (sweepContexts s) := ues hu

theorem retireBanks (s : State) (hw : Trait.wb ∈ l) : Keeps l ex s (retireBanks s) := wb hw

theorem uciResult (u : UlResult) (ue what id status harq sr csi1 csi2 : Nat) (s : State) :
    Keeps l ex s (uciResult s u ue what id status harq sr csi1 csi2).2 := by
  unfold Machine.uciResult
  extract_lets n payload flags meas bits dtx head
  have h : Keeps l ex s bits.2 := (freeBytes s 1).trans <| (freeBytes _ 4).trans (freeBytes _ payload)
  split
  · exact h
  · exact h

theorem puschResult (key : Nat) (c : Course) (r : Rec) (s : State) : Keeps l ex s (puschResult s key c r).2 := by
  unfold Machine.puschResult
  extract_lets n sg u pass tb dtx meas m evm flags main
  have h : Keeps l ex s meas.2 := (freeBytes s 1).trans (freeBytes _ 10)
  split
  · exact h
  · dsimp only
    exact h.trans (uciResult ..)

theorem recResult (key : Nat) (c : Course) (r : Rec) (s : State) : Keeps l ex s (recResult s key c r).2 := by
  unfold Machine.recResult
  split
  · exact puschResult ..
  · exact uciResult ..
  · exact rest
  · exact rest
  · exact refl s

/-- A value that a sequence of steps collects beside the state. -/
theorem foldl_snd {α β : Type} {f : β × State → α → β × State} (xs : List α) (h : ∀ a, ∀ x : β × State, Keeps l ex x.2 (f x a).2)
    (x : β × State) : Keeps l ex x.2 (xs.foldl f x).2 := by
  induction xs generalizing x with
  | nil => exact refl _
  | cons a xs ih => exact trans (h a x) (ih _)

theorem outcomeBody (key : Nat) (c : Course) (s : State) : Keeps l ex s (outcomeBody s key c).2 := by
  unfold Machine.outcomeBody
  dsimp only
  split
  · exact refl s
  · refine foldl_snd c.recs (fun r x => ?_) (([] : Bytes), s)
    exact recResult key c r x.2

/-- A course's outcome is in the journal (04 R137). -/
theorem journalOutcome (key : Nat) (s : State) (hu : Trait.ues ∈ l) (hw : Trait.wb ∈ l) : Keeps l ex s (journalOutcome key s) := by
  unfold Machine.journalOutcome
  split
  next => exact refl s
  next c hc =>
    extract_lets result body o s1 s2 s3 s4
    have h1 : Keeps l ex s s1 :=
      (outcomeBody key c s).trans <| (dropOps key _).trans ((foldl c.recs (fun r _ s => learnRec c s r hu) _).trans
        ((foldl c.recs (fun r _ s => commitRec key c s r hu) _).trans (clearSoft key _)))
    have h3 : Keeps l ex s1 s3 := (countOutcome ..).trans (onCourse ..)
    have h4 : Keeps l ex s3 s4 := by
      unfold s4
      split
      · exact onCourse ..
      · exact onChan ..
    exact h1.trans (h3.trans (h4.trans ((sweepEntries _ hw).trans ((sweepContexts _ hu).trans ((retireBanks _ hw).trans (settle _))))))

theorem retirePage (s : State) (page : Nat) : Keeps l ex s (retirePage s page) := by
  have h : Keeps l ex s (s.bump (O.chRetired (page / 2 ^ 18)) 1) := bump ..
  exact h.trans rest

theorem releasePage (s : State) (page : Nat) : Keeps l ex s (releasePage s page) := by
  unfold Machine.releasePage
  refine (free s).trans ?_
  dsimp only
  split
  · refine trans ?_ (retirePage _ page)
    exact trans rest (setObj _ O.retirePending _)
  · exact refl _

theorem releasePages (s : State) : Keeps l ex s (releasePages s) := foldl _ (fun page _ s => releasePage s page) s

/-! ### Enables -/

theorem raise (s : State) (k unit : Nat) (d : Bytes) (course : Nat) (hk : InReset k → k ∈ ex := by grind) :
    Keeps l ex s (raise s k unit d course) := by
  unfold Machine.raise Machine.raiseFor
  extract_lets s1 i
  refine (bump s k 1 hk).trans ?_
  split
  · exact bump ..
  · exact rest

theorem onTime (s : State) (f : TimeBase → TimeBase) : Keeps l ex s (s.onTime f) := rest

theorem onServo (s : State) (f : Servo → Servo) : Keeps l ex s (s.onServo f) := rest

theorem onPort (s : State) (p : Nat) (f : PortIo → PortIo) : Keeps l ex s (s.onPort p f) := rest

theorem onChain (s : State) (c : Nat) (f : DfeChain → DfeChain) : Keeps l ex s (s.onChain c f) := rest

theorem onWatch (s : State) (f : Watch → Watch) : Keeps l ex s (s.onWatch f) := rest

theorem clearFilters (c : Nat) (s : State) : Keeps l ex s (clearFilters c s) := onChain ..

theorem nlRelease (s : State) : Keeps l ex s (nlRelease s) := by
  unfold Machine.nlRelease
  refine trans ?_ (setObj _ O.nlState 0)
  split
  · exact setObj ..
  · exact refl s

theorem nlAccept (s : State) : Keeps l ex s (nlAccept s) :=
  (setObj s O.nlState 1).trans ((setObj _ (O.dfeUser (s.nat O.nlChain)) 0x80).trans (clearFilters ..))

theorem nlIdle (s : State) : Keeps l ex s (nlIdle s) := by
  unfold Machine.nlIdle
  split
  · exact setObj ..
  · split
    next h =>
      have hb := stopping_busy (Bool.and_eq_true .. ▸ h).1
      exact of_busy hb (fun _ => by simp [enableKeys]) ((nlRelease _).trans (shutDone (by simp) _))
    next => exact setObj ..

/-- Network listen leaves its gap; an enable that waits for that is released. -/
theorem abandonGap (s : State) : Keeps l ex s (abandonGap s) := by
  unfold Machine.abandonGap
  split
  · exact trans rest (nlIdle _)
  · exact refl s

theorem drawEdge (s : State) : Keeps l ex s (drawEdge s) := rest

theorem watchEnter (s : State) (hw : O.watchState ∈ ex) : Keeps l ex s (watchEnter s) :=
  (abandonGap s).trans <| (setObj _ O.watchState 1).trans <| (onWatch ..).trans (drawEdge _)

theorem carrierCounters_clear {n : Nat} (hn : n < 160) (s : State) :
    Keeps l ex s ((carrierCounters n).foldl (fun s k => s.setObj k (factory k)) s) := by
  have h : ∀ k ∈ carrierCounters n, ¬InReset k := by
    simp only [carrierCounters, List.forall_mem_cons]
    refine ⟨?_, ?_, ?_, ?_, ?_, ?_, ?_, ?_, by simp⟩ <;> grind
  exact foldl _ (fun k hk s => setObj s k _ fun hi => absurd hi (h k hk)) s

theorem takeChains (n : Nat) (s : State) : Keeps l ex s (takeChains n s) :=
  foldl _ (fun c _ s => (setObj s (O.dfeUser c) _).trans (clearFilters c _)) s

theorem notSent (key status l' : Nat) (s : State) : Keeps l ex s (notSent key status l' s) := by
  unfold Machine.notSent
  split
  · exact refl s
  · exact (onCourse ..).trans (causeAt ..)

theorem sendLaunch (p : Nat) (x : Launch) (s : State) : Keeps l ex s (sendLaunch p x s) := by
  unfold Machine.sendLaunch
  exact (bump s (O.txFrames p) _).trans <| (bump _ (O.txBytes p) _).trans <| (onPort ..).trans (onPort ..)

theorem resend (q : Nat) (x : Launch) (s : State) : Keeps l ex s (resend q x s) :=
  (bump s (O.cpTxSent q) _).trans (sendLaunch ..)

theorem loseLaunches (p : Nat) (to' : Option Nat) (s : State) : Keeps l ex s (loseLaunches p to' s) := by
  unfold Machine.loseLaunches
  extract_lets lost s1
  refine (onPort ..).trans (foldl _ (fun x _ s => ?_) _)
  split
  · split
    · split
      · exact resend ..
      · exact refl s
    · exact refl s
  · exact foldl _ (fun k _ s => notSent ..) s

theorem failover (p cause : Nat) (s : State) : Keeps l ex s (failover p cause s) := by
  unfold Machine.failover
  split
  · exact loseLaunches ..
  · extract_lets moved s1 s2
    split
    · split
      · exact loseLaunches ..
      · exact refl s
    · have h1 : Keeps l ex s s1 := loseLaunches ..
      have h2 : Keeps l ex s1 s2 := foldl _ (fun n _ s => setObj s (O.activePort n) _) _
      exact h1.trans (h2.trans ((free _).trans (raise _ (O.failovers p) ..)))

theorem takeOver (p : Nat) (s : State) : Keeps l ex s (takeOver p s) := by
  unfold Machine.takeOver
  split
  · exact refl s
  · split
    · exact refl s
    · split
      · exact failover ..
      · split
        · exact failover ..
        · exact refl s

theorem attachCarrier {n : Nat} (hn : n < 160) (s : State) : Keeps l ex s (attachCarrier n s) := by
  have hb : Keeps l ex s (bindCarrier n s) :=
    (setObj s (O.activePort n) _).trans ((setObj _ (O.fhLoadDl n) _).trans (setObj _ (O.fhLoadUl n) _))
  unfold Machine.attachCarrier
  dsimp only
  split
  · exact hb.trans (takeOver ..)
  · exact hb

theorem openEndless {n : Nat} (hn : n < 160) (s : State) : Keeps l ex s (openEndless n s) := by
  unfold Machine.openEndless
  extract_lets d s1
  have h1 : Keeps l ex s s1 := rest
  refine h1.trans ?_
  split
  · exact refl _
  · split
    · exact bump ..
    · exact setObj ..

/-- What a carrier takes as its enable turns ON. -/
theorem carrierAccept {n : Nat} (hn : n < 160) (s : State) : Keeps l ex s (carrierAccept n s) := by
  unfold Machine.carrierAccept
  extract_lets s1 p s2 s3 s4 s5 s6 copy
  have h1 : Keeps l ex s s1 := (setObj s (O.streamUnitsHeld n) _).trans (setObj _ (O.palletsReserved n) _)
  have h2 : Keeps l ex s1 s2 := courses id
  have h3 : Keeps l ex s2 s3 := (setObj s2 (O.encBindLead n) _).trans (setObj _ (O.mapBindLead n) _)
  have h4 : Keeps l ex s3 s4 := by
    unfold s4
    split
    · exact takeChains ..
    · exact refl _
  have h5 : Keeps l ex s4 s5 := (attachCarrier hn _).trans (carrierCounters_clear hn _)
  have h6 : Keeps l ex s5 s6 := openEndless hn _
  exact h1.trans <| h2.trans <| h3.trans <| h4.trans <| h5.trans <| h6.trans <| (setObj _ (O.guardCopy n) 1).trans rest

theorem bringUp (p : Nat) (s : State) : Keeps l ex s (bringUp p s) := of_leaves (KeepsMoving.bringUp p s).leaves (by simp)

theorem portAccept (p : Nat) (s : State) : Keeps l ex s (portAccept p s) := (setObj s (O.portLinkState p) 0).trans (bringUp ..)

end Keeps

/-- The rules of a key are those of one of the enables. -/
theorem rulesOf_cases (key : Nat) : rulesOf key = servoRules ∨ rulesOf key = nlRules ∨ (key = O.watchEnable ∧ rulesOf key = watchRules)
    ∨ rulesOf key = traceRules ∨ (∃ n < 160, rulesOf key = carrierRules n) ∨ (∃ p ≤ 0x70, rulesOf key = portRules p)
    ∨ ∃ p, rulesOf key = partRules p := by
  unfold rulesOf
  split_ifs with hs hn hw ht hc hp
  · exact .inl rfl
  · exact .inr (.inl rfl)
  · exact .inr (.inr (.inl ⟨eq_of_beq hw, rfl⟩))
  · exact .inr (.inr (.inr (.inl rfl)))
  · exact .inr (.inr (.inr (.inr (.inl ⟨_, by grind, rfl⟩))))
  · exact .inr (.inr (.inr (.inr (.inr (.inl ⟨_, by grind, rfl⟩)))))
  · exact .inr (.inr (.inr (.inr (.inr (.inr ⟨_, rfl⟩)))))

/-- Where the enable of a key's rules is an object that a reset decides, it is one of the enables. -/
theorem rulesOf_enable (key : Nat) (h : InReset (rulesOf key).key) : (rulesOf key).key ∈ enableKeys := by
  rcases rulesOf_cases key with hr | hr | ⟨-, hr⟩ | hr | ⟨n, hn, hr⟩ | ⟨p, hp, hr⟩ | ⟨p, hr⟩ <;> rw [hr] at h ⊢
  · decide
  · decide
  · decide
  · decide
  · change InReset (O.carrierEnable n) at h
    exact carrierEnable_mem (by grind)
  · change InReset (O.portEnable p) at h
    exact portEnable_mem (by grind)
  · change InReset (O.partEnable p) at h
    change O.partEnable p ∈ enableKeys
    by_cases hp : p < 8
    · exact partEnable_mem hp
    · have hx : O.partEnable p = O.watchEnable ∨ O.partEnable p = O.traceEnable := by grind
      rcases hx with hx | hx <;> rw [hx] <;> decide

namespace Keeps

variable {l : List Trait} {ex : List Nat} {s t : State}

/-- Each enable's unit turns on. -/
theorem accept (key : Nat) (s : State) (hw : key = O.watchEnable → O.watchState ∈ ex) : Keeps l ex s ((rulesOf key).accept s) := by
  rcases rulesOf_cases key with hr | hr | ⟨hk, hr⟩ | hr | ⟨n, hn, hr⟩ | ⟨p, -, hr⟩ | ⟨p, hr⟩ <;> rw [hr]
  · exact refl s
  · exact nlAccept s
  · exact watchEnter s (hw hk)
  · exact rest
  · exact carrierAccept hn s
  · exact portAccept p s
  · exact setOps ..

theorem settleEnable (key : Nat) (r : Reason) (s : State) (hw : key = O.watchEnable → O.watchState ∈ ex)
    (hk : InReset (rulesOf key).key → (rulesOf key).key ∈ ex) :
    Keeps l ex s ((rulesOf key).settle r s) := by
  unfold EnableRules.settle
  split
  · exact (setObj s _ _ hk).trans (accept key _ hw)
  · exact setObj s _ _ hk

theorem logEnable (key cause : Nat) (r : Reason) (s : State) : Keeps l ex s (logEnable key cause r s) :=
  (bump s O.enableLogCount 1).trans rest

theorem reported (key cause : Nat) (r : Reason) (s : State) :
    Keeps l ex s (raiseResolved key r (Machine.logEnable key cause r (recordCheck key r s))) :=
  (setObj s O.lastCheckObject _).trans <| (setObj _ O.lastCheckReason _).trans <| (logEnable ..).trans (raise _ O.enableResolvedCount ..)

theorem unlist (key : Nat) (s : State) : Keeps l ex s (s.unlist key) := rest

/-- The judgement of an enable changes its object, WATCH_STATE, and what no reset decides. -/
theorem resolve (key cause : Nat) (s : State) (hw : key = O.watchEnable → O.watchState ∈ ex)
    (hk : InReset (rulesOf key).key → (rulesOf key).key ∈ ex) : Keeps l ex s ((rulesOf key).resolve cause s) :=
  (settleEnable key _ s hw hk).trans ((unlist ..).trans (reported ..))

theorem bootCheck (key : Nat) (s : State) (hw : key = O.watchEnable → O.watchState ∈ ex)
    (hk : InReset (rulesOf key).key → (rulesOf key).key ∈ ex) : Keeps l ex s (bootCheck s key) := by
  unfold Machine.bootCheck
  extract_lets e
  split
  · exact reported ..
  · exact resolve key 2 s hw hk

/-! ### Enables that a warm reset restores -/

theorem setGate {g : Nat} (_hg : g < 16) (active : Bool) (s : State) : Keeps l ex s (setGate g active s) := by
  unfold Machine.setGate
  extract_lets v
  split
  · exact refl s
  · refine (setObj s (O.txgLevel g) _).trans ((bump _ (O.txgEdges g) 1).trans (foldl _ (fun n hn s => ?_) _))
    have hn8 := List.mem_range.mp hn
    split
    · unfold captureUnit
      extract_lets fifo
      split
      · exact onTime ..
      · exact bump ..
    · exact refl s

theorem showMutes (s : State) : Keeps l ex s (showMutes s) :=
  (setObj s O.carriersMuted _).trans <| (setObj _ O.portsMuted _).trans <| (setBlob _ O.chainsMuted _).trans (setObj _ O.deviceMuted _)

theorem releaseChains (n : Nat) (s : State) : Keeps l ex s (releaseChains n s) := by
  unfold Machine.releaseChains
  extract_lets firsts s1
  have h1 : Keeps l ex s s1 := foldl _ (fun c _ s => foldl _ (fun c _ s => setObj s (O.dfeUser c) _) s) s
  exact h1.trans rest

/-- What a carrier gives back as its enable turns OFF; the journal may name any carrier. -/
theorem carrierOff {n : Nat} (hn : 160 ≤ n → O.watchState ∈ ex ∧ O.debugPolicy ∈ ex) (s : State) : Keeps l ex s (carrierOff n s) := by
  unfold Machine.carrierOff
  extract_lets s1 s2 s3 p s4
  have h1 : Keeps l ex s s1 := releaseChains n s
  have h2 : Keeps l ex s1 s2 :=
    (setObj _ (O.streamUnitsHeld n) _).trans <| (setObj _ (O.palletsReserved n) _).trans <| (setObj _ (O.activePort n) _).trans <|
    (setObj _ (O.fhLoadDl n) _).trans <| (setObj _ (O.fhLoadUl n) _).trans <| (setObj _ (O.txwOpen n) _).trans <|
    (setObj _ (O.encBindLead n) _).trans <| (setObj _ (O.mapBindLead n) _).trans (setObj _ (O.guardCopy n) _)
  have h3 : Keeps l ex s2 s3 := by
    refine foldl _ (fun g hg s => ?_) s2
    have hg16 := List.mem_range.mp hg
    split
    · exact setGate hg16 ..
    · exact refl s
  clear_value s3
  have h4 : Keeps l ex s3 s4 := courses id
  exact h1.trans <| h2.trans <| h3.trans <| h4.trans <| (rest : Keeps l ex s4 (s4.onGuard _)).trans (showMutes _)

theorem carrierDone (n : Nat) (s : State) (hw : O.watchState ∈ ex) (hd : O.debugPolicy ∈ ex) : Keeps l ex s (carrierDone n s) := by
  unfold Machine.carrierDone
  extract_lets k
  split
  next h =>
    rw [Bool.and_eq_true, Bool.and_eq_true] at h
    refine of_busy (stopping_busy h.1.1) (fun hk => ?_) ((carrierOff (by simp [hw, hd]) s).trans (shutDone (by simp) _))
    have hl := resetKeys_lie k hk
    simp only [resetKeys, bootKeys, List.mem_append] at hk
    refine hk.resolve_left fun hm => ?_
    simp only [List.mem_cons, List.not_mem_nil, or_false, k] at hm
    grind
  next => exact refl s

theorem laneLost (lane : Nat) (s : State) : Keeps l ex s (laneLost lane s) := by
  unfold Machine.laneLost
  extract_lets s1
  have h1 : Keeps l ex s s1 := onTime ..
  refine h1.trans (foldl _ (fun out _ s => ?_) _)
  split
  · exact setObj s O.squelched _
  · exact refl s

theorem linkLost (p : Nat) (s : State) : Keeps l ex s (linkLost p s) :=
  (foldl _ (fun lane _ s => laneLost lane s) s).trans <| (onTime ..).trans
    (of_leaves (Leaves.refreshQualified _ (ps := [.time]) (ks := []) (by decide)) (by simp))

theorem portOff (p : Nat) (s : State) : Keeps l ex s (portOff p s) :=
  (setObj s (O.portLinkState p) 3).trans <| (onPort ..).trans (linkLost ..)

theorem leaveLocked_leaves (s : State) : Leaves s (leaveLocked s) [.time] [] := by
  unfold leaveLocked
  split
  · exact Leaves.onServo s _ (by decide)
  · exact Leaves.refl s _ _

theorem refreshBound (s : State) : Keeps l ex s (refreshBound s) := by
  unfold Machine.refreshBound
  split
  · split
    · extract_lets s1
      have h1 : Keeps l ex s s1 := setObj ..
      refine h1.trans ?_
      split
      · exact (setObj _ O.servoState 4).trans (raise ..)
      · exact refl _
    · exact refl s
  · exact refl s

/-- No step of the holdover runs while the enable does not read ON. -/
theorem holdFreq_of_not_on (h : s.isOn O.servoEnable = false) : holdFreq s = s := by
  unfold holdFreq
  split
  · simp [h]
  · rfl

theorem isOn_of_busy {k : Nat} (h : ¬(s.obj k = 0 ∨ s.obj k = 1)) : s.isOn k = false := by
  simp only [State.isOn, stOn]
  grind

theorem enterHoldover (stopped : Bool) (s : State) (hb : ¬(s.obj O.servoEnable = 0 ∨ s.obj O.servoEnable = 1)) :
    Keeps l ex s (enterHoldover stopped s) := by
  unfold Machine.enterHoldover
  extract_lets resume e0 s1 v fresh s2 s3
  have h1 : Leaves s s1 [.time] [] := leaveLocked_leaves s
  have h3 : Keeps l ex s1 s3 := (onServo ..).trans <| (setObj _ O.selectedSource 0).trans (setObj _ O.servoState 3)
  have h4 : Keeps l ex s3 (Machine.raise s3 O.holdoverEnterCount 0xFFFF [] 0) := raise ..
  have hon : (Machine.raise s3 O.holdoverEnterCount 0xFFFF [] 0).obj O.servoEnable = s.obj O.servoEnable := by
    rw [State.obj_raise_ne _ _ _ _ _ _ (by decide) (by decide), State.obj_setObj_ne _ _ _ _ (by decide),
      State.obj_setObj_ne _ _ _ _ (by decide)]
    exact h1.2 _ (by simp)
  rw [holdFreq_of_not_on (isOn_of_busy (hon ▸ hb))]
  exact (of_leaves h1 (by simp)).trans <| h3.trans <| h4.trans (refreshBound _)

/-- SERVO stops: its enable, which answers for itself, is OFF, or judged anew. -/
theorem servoStopped (s : State) (hb : ¬(s.obj O.servoEnable = 0 ∨ s.obj O.servoEnable = 1)) (hk : O.servoEnable ∈ ex) :
    Keeps l ex s (servoStopped s) := by
  unfold Machine.servoStopped
  extract_lets run s1
  have h1 : Keeps l ex s s1 := by
    unfold s1
    split
    · split
      · exact enterHoldover _ s hb
      · exact (setObj s O.selectedSource 0).trans (refreshBound _)
    · exact (setObj s O.selectedSource 0).trans (setObj _ O.servoState 0)
  exact h1.trans (shutDone hk _)

theorem rulesOf_key : ∀ k ∈ enableKeys, (rulesOf k).key = k := by decide +kernel

theorem deferredCheck {k : Nat} (s : State) (he : k ∈ enableKeys) (hw : k ≠ O.watchEnable) (hk : k ∈ ex) :
    Keeps l ex s (deferredCheck k s) := by
  unfold Machine.deferredCheck
  split
  · exact resolve k 1 s (fun h => absurd h hw) (fun _ => by rwa [rulesOf_key k he])
  · exact refl s

/-- A restored enable changes only itself, and only where it was PENDING or STOPPING. -/
theorem restoreEnable {k : Nat} (s : State) (he : k ∈ enableKeys) (hw : k ≠ O.watchEnable) : Keeps l ex s (restoreEnable s k) := by
  have hmem : k ∈ k :: ex := List.mem_cons_self ..
  unfold Machine.restoreEnable
  rw [if_neg (by simpa using hw)]
  split
  next h =>
    extract_lets n p s1
    have hb := stopping_busy (Bool.and_eq_true .. ▸ h).1
    have h1 : Keeps l (k :: ex) s s1 := by
      unfold s1
      split
      · exact (nlRelease s).trans (shutDone hmem _)
      · split
        next hs => exact servoStopped s (eq_of_beq hs ▸ hb) (eq_of_beq hs ▸ hmem)
        next =>
          split
          next hc =>
            have hn : n < 160 := by simp only [Bool.and_eq_true, decide_eq_true_eq] at hc; grind
            exact (carrierOff (fun h => absurd h (by omega)) s).trans (shutDone hmem _)
          next =>
            split
            · exact (portOff p s).trans (shutDone hmem _)
            · exact shutDone hmem s
    exact of_busy hb (fun _ => he) (h1.trans (deferredCheck _ he hw hmem))
  next =>
    split
    next h =>
      exact of_busy (stopping_busy (by simp [h])) (fun _ => he)
        (resolve k 1 s (fun h => absurd h hw) (fun _ => by rwa [rulesOf_key k he]))
    next => exact refl s

/-- WATCH is not restored. -/
theorem restoreWatch (s : State) (hk : O.watchEnable ∈ ex) (hs : O.watchState ∈ ex) : Keeps l ex s (Machine.restoreEnable s O.watchEnable) :=
  (unlist _ s).trans <| (setObj _ O.watchEnable 0).trans (setObj _ O.watchState 0)

/-! ### The steps of a warm reset -/

theorem send (s : State) (m : Sent) : Keeps l ex s (s.send m) :=
  of_same fun x _ => by cases x <;> simp [Trait.same, State.send, State.blob]

/-- BOOT_STATE changes, and each module hears of it (19 R609). -/
theorem setBootState (v : Nat) (s : State) (hk : O.bootState ∈ ex) : Keeps l ex s (setBootState v s) :=
  (setObj s O.bootState v).trans (foldl _ (fun _ _ s => send s _) _)

theorem setModule (m : Nat) (x : Module) (s : State) (hm : Trait.modules ∈ l) : Keeps l ex s (setModule m x s) := by
  have h : Keeps l ex s (s.onLink fun k => if m == 0 then { k with m0 := x } else { k with m1 := x }) := by
    refine of_same fun y hy => ?_
    cases hz : m == 0 <;> cases y <;> simp_all [Trait.same, State.onLink, State.blob]
  exact h.trans (setObj _ O.cenenLinkState _)

theorem trainModules (s : State) (hm : Trait.modules ∈ l) : Keeps l ex s (trainModules s) := (setModule _ _ s hm).trans (setModule _ _ _ hm)

theorem latchPads (d : Nat) (s : State) : Keeps l ex s (latchPads d s) :=
  of_leaves (KeepsMoving.latchPads d s).leaves (by simp)

theorem driveWithRun (d : Nat) (s : State) : Keeps l ex s (driveWithRun d s) :=
  of_leaves (KeepsMoving.driveWithRun d s).leaves (by simp)

/-- The links of the ports begin anew. -/
theorem restartPorts (s : State) : Keeps l ex s (restartPorts s) := by
  refine foldl _ (fun p _ s => ?_) s
  split
  · exact (setObj s (O.portLinkState p) 0).trans <| (linkLost ..).trans (bringUp ..)
  · exact refl s

theorem restartPower (s : State) : Keeps l ex s (restartPower s) := by
  unfold Machine.restartPower
  extract_lets power s1 s2
  have h1 : Keeps l ex s s1 := rest
  have h2 : Keeps l ex s1 s2 := by
    refine foldl _ (fun d hd s => ?_) s1
    have hd32 := List.mem_range.mp hd
    split
    · exact setObj s (O.domainState d) 0
    · exact refl s
  clear_value s2
  refine h1.trans <| h2.trans (foldl _ (fun d _ s => ?_) s2)
  split
  · exact driveWithRun d s
  · exact refl s

theorem restartMemory (s : State) : Keeps l ex s (restartMemory s) := by
  unfold Machine.restartMemory
  extract_lets s1 s2
  have h1 : Keeps l ex s s1 := by
    refine foldl _ (fun c hc s => ?_) s
    have hc16 := List.mem_range.mp hc
    split
    · exact setObj s (O.chState c) 2
    · exact refl s
  have h2 : Keeps l ex s1 s2 := by
    unfold s2
    split
    · exact setObj _ O.journalRebuild 0
    · exact refl _
  clear_value s2
  exact h1.trans <| h2.trans <| (setObj _ O.memRegime 3).trans rest

theorem loadTile (t : Nat) (s : State) : Keeps l ex s (loadTile t s) := of_leaves (loadTile_leaves t s) (by simp)

theorem showLoaded {t : Nat} (ht : t < 200) (s : State) : Keeps l ex s (showTile t (Machine.loadTile t s)) :=
  (loadTile t s).trans (of_leaves (showTile_leaves t _) (by simp only [List.mem_singleton, forall_eq]; grind))

/-- The units are cleared, with their tiles and the engines' chains. -/
theorem clearUnits (s : State) (ht : Trait.tiles ∈ l) (hh : Trait.hod ∈ l) : Keeps l ex s (clearUnits s) := by
  unfold Machine.clearUnits
  extract_lets sched units guard mortar integ fh s1 s2
  have h1 : Keeps l ex s s1 := of_same fun x hx => by cases x <;> simp_all [Trait.same, State.blob, s1, guard]
  have h2 : Keeps l ex s1 s2 := setObj _ O.hodHaltedMap 0
  refine h1.trans <| h2.trans (foldl _ (fun t ht s => ?_) s2)
  exact showLoaded (List.mem_range.mp (List.mem_filter.mp ht).1) s

/-- Channel 0 at a warm reset. -/
theorem quiesceChannel0 (s : State) (hl : Trait.latch ∈ l) (hb : Trait.buffer ∈ l) : Keeps l ex s (quiesceChannel0 s) := by
  unfold Machine.quiesceChannel0
  extract_lets s1 s2 old svc
  have h1 : Keeps l ex s s1 := bump s O.indicationsDropped _
  have h2 : Keeps l ex s1 s2 := rest
  clear_value s2
  refine h1.trans (h2.trans ?_)
  split
  · refine (bump _ O.abortedTransfers 1).trans (of_same fun x hx => ?_)
    cases x <;> simp_all [Trait.same, State.blob, old, svc]
  · refine of_same fun x hx => ?_
    cases x <;> simp_all [Trait.same, State.blob, svc]

theorem onHostSlot (f : List Host.Cell → List Host.Cell) (s : State) (hs : Trait.slots ∈ l) : Keeps l ex s (onHostSlot f s) := by
  unfold Machine.onHostSlot State.onFlash
  refine trans (of_same fun x hx => ?_) (setObj _ O.trialState _)
  cases x <;> simp_all [Trait.same, State.blob, State.onBoot]

theorem cutBurn (s : State) : Keeps l ex s (cutBurn s) := by
  unfold Machine.cutBurn
  split
  · exact (free s).trans <| (free _).trans <| (setObj _ O.rollbackCount _).trans (setObj _ O.fwRollbackCount _)
  · exact refl s

theorem cutFlash (s : State) (hs : Trait.slots ∈ l) : Keeps l ex s (cutFlash s) := by
  unfold Machine.cutFlash
  split
  · exact (free s).trans (onHostSlot _ _ hs)
  · exact (free s).trans (onHostSlot _ _ hs)
  · exact refl s

theorem change (s : State) (k : Nat) (v : Int) (hk : InReset k → k ∈ ex := by grind) : Keeps l ex s (s.change k v) := by
  unfold State.change
  split
  · exact refl s
  · exact (setObj s k v hk).trans (bump _ O.changeCount 1)

theorem quiesceFlash (s : State) (hs : Trait.slots ∈ l) : Keeps l ex s (quiesceFlash s) := by
  unfold Machine.quiesceFlash
  extract_lets s1
  have h1 : Keeps l ex s s1 := by
    unfold s1
    split
    · exact (onHostSlot _ s hs).trans (change _ O.imgOffset _)
    · exact cutFlash s hs
  have h2 : Keeps l ex (Machine.cutBurn s1)
      ((Machine.cutBurn s1).onBoot fun b => { b with update := none, burning := false, signing := false }) := rest
  exact h1.trans <| (cutBurn s1).trans <| h2.trans <| (setObj _ O.updateState 0).trans (setObj _ O.rollbackState 0)

end Keeps

/-- The verdict in the journal, where it has room. -/
def verdictKept (chan : Nat) (v : Verdict) (s : State) : State :=
  if journalStuck s then s else s.onChan chan fun c => { c with verdicts := c.verdicts ++ [v] }

namespace Keeps

variable {l : List Trait} {ex : List Nat} {s t : State}

theorem suspendSession (cause : Nat) (s : State) (hk : O.sessionState ∈ ex) : Keeps l ex s (suspendSession cause s) := by
  unfold Machine.suspendSession
  split
  · exact refl s
  · exact (setObj s O.sessionState 2).trans rest

theorem verdictKept (chan : Nat) (v : Verdict) (s : State) : Keeps l ex s (verdictKept chan v s) := by
  unfold Machine.verdictKept
  split
  · exact refl s
  · exact onChan ..

/-- Outside a session that is open, the journal's writes send nothing. -/
theorem verdictWritten (chan : Nat) (v : Verdict) (s : State) (h : s.obj O.sessionState ≠ 1) : Keeps l ex s (verdictWritten chan v s) := by
  have hs : (Machine.verdictKept chan v s).obj O.sessionState ≠ 1 := by unfold Machine.verdictKept; split; exacts [h, h]
  unfold Machine.verdictWritten
  split
  · exact refl s
  · rw [← Machine.verdictKept]
    dsimp only
    rw [if_neg (by simpa using hs)]
    exact (verdictKept chan v s).trans (onChan ..)

theorem finishWrite (s : State) (w : JournalWrite) (h : s.obj O.sessionState ≠ 1) (hu : Trait.ues ∈ l) (hb : Trait.wb ∈ l)
    (hw : O.watchState ∈ ex) (hd : O.debugPolicy ∈ ex) : Keeps l ex s (finishWrite s w) := by
  unfold Machine.finishWrite
  split
  · split
    · exact verdictWritten _ _ s h
    · exact (journalOutcome _ s hu hb).trans <| (releasePages _).trans (carrierDone _ _ hw hd)
  · exact refl s

end Keeps

theorem sessionState_mem : O.sessionState ∈ resetKeys := by decide

theorem suspendSession_state (cause : Nat) (s : State) :
    (suspendSession cause s).obj O.sessionState = if s.obj O.sessionState = 0 then 0 else 2 := by
  unfold suspendSession
  split
  next h =>
    have h0 : s.obj O.sessionState = 0 := eq_of_beq h
    rw [if_pos h0, h0]
  next h =>
    rw [if_neg (by simpa using h)]
    exact State.obj_setObj_same s O.sessionState 2

/-- The journal's writes that follow the session's suspension. -/
theorem finishWrites_keeps {l : List Trait} {ex : List Nat} (ws : List JournalWrite) (s : State) (h : s.obj O.sessionState ≠ 1)
    (hu : Trait.ues ∈ l) (hb : Trait.wb ∈ l) (hw : O.watchState ∈ ex) (hd : O.debugPolicy ∈ ex) (he : O.sessionState ∉ ex) :
    Keeps l ex s (ws.foldl finishWrite s) := by
  refine Keeps.foldl_inv (fun s => s.obj O.sessionState ≠ 1) (fun s t k hs => ?_) ws (fun w _ s hs => Keeps.finishWrite s w hs hu hb hw hd) s h
  rwa [k.obj _ sessionState_mem he fun hm => absurd hm (by decide)]

/-! ### The stages of a warm reset -/

/-- A warm reset begins: it is counted, and every pad is latched. -/
def warmBegun (cause : Nat) (s : State) : State :=
  (List.range 32).foldl (fun s d => latchPads d s) ((s.bump O.warmResets 1).setObj O.resetCause cause)

/-- What runs is brought to an end. -/
def warmHalted (s : State) : State := quiesceJournal (quiesceFlash (quiesceChannel0 s))

/-- Network listen rests, and BOOT_STATE reads LOADING. -/
def warmLoading (s : State) : State :=
  let s := { s with nl := { s.nl with current := none, frozen := false, work := [], unused := [] } }
  setBootState 3 (if s.obj O.nlState == 2 || s.obj O.nlState == 3 then s.setObj O.nlState 1 else s)

/-- The units begin anew. -/
def warmCleared (s : State) : State := restartMemory (restartPorts (clearUnits s))

/-- The enables are restored. -/
def warmEnables (s : State) : State := enableKeys.foldl restoreEnable s

/-- The part is READY again. -/
def warmReady (s : State) : State := setBootState 4 (restoreCourses (restartPower (trainModules s)))

theorem warmFrom_eq (cause : Nat) (s : State) :
    warmFrom cause s = warmReady (warmEnables (warmCleared (warmLoading (warmHalted (warmBegun cause s))))) := by
  unfold warmFrom
  extract_lets s1 s2 nl s3 s4 s5 s6 s7
  have h1 : s1 = warmBegun cause s := rfl
  have h2 : s2 = warmHalted s1 := rfl
  have h5 : s5 = warmLoading s2 := rfl
  have h6 : s6 = warmCleared s5 := rfl
  have h7 : s7 = warmEnables s6 := rfl
  rw [h7, h6, h5, h2, h1, warmReady]

section

variable {l : List Trait} {ex : List Nat} (cause : Nat) (s : State)

theorem latched_keeps (s : State) : Keeps l ex s ((List.range 32).foldl (fun s d => latchPads d s) s) :=
  Keeps.foldl _ (fun d _ s => Keeps.latchPads d s) s

theorem warmBegun_keeps (hc : O.warmResets ∈ ex := by decide) (hr : O.resetCause ∈ ex := by decide) : Keeps l ex s (warmBegun cause s) :=
  (Keeps.bump s O.warmResets 1).trans <| (Keeps.setObj _ O.resetCause cause).trans (latched_keeps _)

theorem warmBegun_resetCause : (warmBegun cause s).obj O.resetCause = cause := by
  have k := (latched_keeps (l := []) (ex := []) ((s.bump O.warmResets 1).setObj O.resetCause cause)).obj O.resetCause
    (by decide) (by decide) fun h => absurd h (by decide)
  exact k.trans (State.obj_setObj_same ..)

theorem warmBegun_counted : Counted s (warmBegun cause s) O.warmResets 1 := by
  have k := (latched_keeps (l := []) (ex := []) ((s.bump O.warmResets 1).setObj O.resetCause cause)).obj O.warmResets
    (by decide) (by decide) fun h => absurd h (by decide)
  exact (k.trans (State.obj_setObj_ne _ _ _ _ (by decide))).trans (State.obj_bump_same ..)

/-- Channel 0 and the flash come to rest. -/
theorem halted_keeps (hl : .latch ∈ l := by decide) (hb : .buffer ∈ l := by decide) (hs : .slots ∈ l := by decide) :
    Keeps l ex s (quiesceFlash (quiesceChannel0 s)) := (Keeps.quiesceChannel0 s hl hb).trans (Keeps.quiesceFlash _ hs)

theorem suspended_ne_one : (suspendSession 2 s).obj O.sessionState ≠ 1 := by
  rw [suspendSession_state]
  split <;> decide

/-- The journal's writes after the suspension. -/
theorem journalWrites_keeps (hu : .ues ∈ l) (hb : .wb ∈ l) :
    Keeps l [O.watchState, O.debugPolicy] (suspendSession 2 s) (quiesceJournal s) := by
  have h : Keeps l [O.watchState, O.debugPolicy] (suspendSession 2 s) ((suspendSession 2 s).onLink fun k => { k with journal := [] }) := .rest
  exact h.trans (finishWrites_keeps _ _ (suspended_ne_one s) hu hb (by decide) (by decide) (by decide))

theorem quiesceJournal_state : (quiesceJournal s).obj O.sessionState = if s.obj O.sessionState = 0 then 0 else 2 :=
  ((journalWrites_keeps (l := [.ues, .wb]) s (by decide) (by decide)).obj _ sessionState_mem (by decide) fun h => absurd h (by decide)).trans
    (suspendSession_state 2 s)

theorem quiesceJournal_keeps (hu : .ues ∈ l := by decide) (hb : .wb ∈ l := by decide) (hk : O.sessionState ∈ ex := by decide)
    (hw : O.watchState ∈ ex := by decide) (hd : O.debugPolicy ∈ ex := by decide) : Keeps l ex s (quiesceJournal s) :=
  (Keeps.suspendSession 2 s hk).trans ((journalWrites_keeps s hu hb).mono (fun _ h => h) (by simp [hw, hd]))

theorem warmHalted_keeps (hl : .latch ∈ l := by decide) (hb : .buffer ∈ l := by decide) (hs : .slots ∈ l := by decide)
    (hu : .ues ∈ l := by decide) (hw : .wb ∈ l := by decide) (hk : O.sessionState ∈ ex := by decide)
    (hx : O.watchState ∈ ex := by decide) (hd : O.debugPolicy ∈ ex := by decide) : Keeps l ex s (warmHalted s) :=
  (halted_keeps s hl hb hs).trans (quiesceJournal_keeps _ hu hw hk hx hd)

theorem warmHalted_state : (warmHalted s).obj O.sessionState = if s.obj O.sessionState = 0 then 0 else 2 := by
  have k := (halted_keeps (l := [.latch, .buffer, .slots]) (ex := []) s).obj _ sessionState_mem (by decide) fun h => absurd h (by decide)
  rw [warmHalted, quiesceJournal_state, k]

theorem quiesceChannel0_svc : (quiesceChannel0 s).svc.latch = none ∧ (quiesceChannel0 s).svc.buffer = none := by
  unfold quiesceChannel0
  extract_lets s1 s2
  split
  · exact ⟨rfl, rfl⟩
  next h => exact ⟨rfl, h⟩

/-- No transfer is latched or in segments (19 R646). -/
theorem warmHalted_svc : (warmHalted s).svc.latch = none ∧ (warmHalted s).svc.buffer = none := by
  have k : Keeps [.slots, .ues, .wb] [O.sessionState, O.watchState, O.debugPolicy] (quiesceChannel0 s) (warmHalted s) :=
    (Keeps.quiesceFlash _ (by decide)).trans (quiesceJournal_keeps _)
  obtain ⟨hl, hb⟩ := quiesceChannel0_svc s
  exact ⟨(k.same .latch (by decide)).trans hl, (k.same .buffer (by decide)).trans hb⟩

theorem warmLoading_keeps (hk : O.bootState ∈ ex := by decide) : Keeps l ex s (warmLoading s) := by
  unfold warmLoading
  extract_lets nl s1
  have h1 : Keeps l ex s s1 := .rest
  refine h1.trans (Keeps.trans ?_ (Keeps.setBootState 3 _ hk))
  split
  · exact Keeps.setObj _ O.nlState 1
  · exact Keeps.refl _

theorem warmCleared_keeps (ht : .tiles ∈ l := by decide) (hh : .hod ∈ l := by decide) : Keeps l ex s (warmCleared s) :=
  (Keeps.clearUnits s ht hh).trans <| (Keeps.restartPorts _).trans (Keeps.restartMemory _)

/-- The units as they are cleared, before the tiles are loaded. -/
theorem clearUnits_units : (clearUnits s).tiles = [] ∧ (clearUnits s).hod.chains = [] := by
  unfold clearUnits
  extract_lets sched units guard mortar integ fh s1 s2
  have k : Keeps (l := []) [] s2 (((List.range 200).filter fun t => s2.obj (O.pairRole (t / 2)) != 2).foldl
      (fun s t => showTile t (loadTile t s)) s2) := by
    refine Keeps.foldl _ (fun t ht s => ?_) s2
    exact Keeps.showLoaded (List.mem_range.mp (List.mem_filter.mp ht).1) s
  exact ⟨k.same .tiles (by decide), congrArg (·.chains) (k.same .hod (by decide) :)⟩

theorem warmCleared_units : (warmCleared s).tiles = [] ∧ (warmCleared s).hod.chains = [] := by
  have k : Keeps [] [] (clearUnits s) (warmCleared s) := (Keeps.restartPorts _).trans (Keeps.restartMemory _)
  obtain ⟨ht, hh⟩ := clearUnits_units s
  exact ⟨(k.same .tiles (by decide)).trans ht, (congrArg (·.chains) (k.same .hod (by decide) :)).trans hh⟩

theorem warmEnables_keeps (hk : O.watchEnable ∈ ex := by decide) (hw : O.watchState ∈ ex := by decide) : Keeps l ex s (warmEnables s) := by
  refine Keeps.foldl _ (fun k hm s => ?_) s
  by_cases h : k = O.watchEnable
  · exact h ▸ Keeps.restoreWatch s hk hw
  · exact Keeps.restoreEnable s hm h

/-- WATCH is OFF: after it, the last enable to be restored is that of TRACE. -/
theorem warmEnables_watch : (warmEnables s).obj O.watchEnable = 0 ∧ (warmEnables s).obj O.watchState = 0 := by
  have hl : enableKeys = enableKeys.take 98 ++ [O.watchEnable, O.traceEnable] := by decide +kernel
  rw [warmEnables, hl, List.foldl_append]
  generalize (enableKeys.take 98).foldl restoreEnable s = u
  have k : Keeps [] [] (restoreEnable u O.watchEnable) (restoreEnable (restoreEnable u O.watchEnable) O.traceEnable) :=
    Keeps.restoreEnable _ (by decide) (by decide)
  have he : (restoreEnable u O.watchEnable).obj O.watchEnable = 0 :=
    (State.obj_setObj_ne _ _ _ _ (by decide)).trans (State.obj_setObj_same _ O.watchEnable 0)
  have hs : (restoreEnable u O.watchEnable).obj O.watchState = 0 := State.obj_setObj_same _ O.watchState 0
  exact ⟨(k.obj _ (by decide) (by decide) fun _ => .inl he).trans he, (k.obj _ (by decide) (by decide) fun _ => .inl hs).trans hs⟩

/-- The course of a warm reset after the enables. -/
theorem warmReady_keeps (hm : .modules ∈ l := by decide) (hu : .ues ∈ l := by decide) (hk : O.bootState ∈ ex := by decide) :
    Keeps l ex s (warmReady s) :=
  (Keeps.trainModules s hm).trans <| (Keeps.restartPower _).trans <| (Keeps.restoreCourses _ hu).trans (Keeps.setBootState 4 _ hk)

theorem setBootState_state (v : Nat) : (setBootState v s).obj O.bootState = v := by
  have k : Keeps [] [] (s.setObj O.bootState v) (setBootState v s) := Keeps.foldl _ (fun _ _ s => Keeps.send s _) _
  exact (k.obj _ (by decide) (by decide) fun h => absurd h (by decide)).trans (State.obj_setObj_same ..)

end

section

variable {l : List Trait} {ex : List Nat} {s : State}

/-- With no transfer held, channel 0 goes on as it is. -/
theorem serveHeld_of_none (h : s.svc.held = []) : serveHeld s = s := by
  unfold serveHeld
  split
  · rw [h, serveList, ← h]
  · rfl

theorem afterReset_leaves (h : s.svc.held = []) : Leaves s (afterReset s) [.dict] [O.latched] := by
  have hh : ∀ b : Bool, (if b = true then s else s.setObj O.latched 0).svc.held = [] := fun b => by cases b <;> exact h
  rw [afterReset, serveHeld_of_none (hh _)]
  split
  · exact Leaves.refl s _ _
  · exact Leaves.setObj s _ _ (by decide) (by decide)

theorem afterReset_keeps (h : s.svc.held = []) : Keeps l ex s (afterReset s) :=
  Keeps.of_leaves (afterReset_leaves h) (by simp only [List.mem_singleton, forall_eq]; grind)

/-- From where a warm reset has halted what ran, to READY. -/
theorem warmRestart_keeps (ht : .tiles ∈ l := by decide) (hh : .hod ∈ l := by decide) (hm : .modules ∈ l := by decide)
    (hu : .ues ∈ l := by decide) (hb : O.bootState ∈ ex := by decide) (hk : O.watchEnable ∈ ex := by decide)
    (hw : O.watchState ∈ ex := by decide) : Keeps l ex s (warmReady (warmEnables (warmCleared (warmLoading s)))) :=
  (warmLoading_keeps s hb).trans <| (warmCleared_keeps _ ht hh).trans <| (warmEnables_keeps _ hk hw).trans (warmReady_keeps _ hm hu hb)

/-- What a warm reset of a part that reads READY loses. -/
def warmLost : List Trait := [.tiles, .hod, .latch, .buffer, .modules, .wb, .ues, .slots]

/-- The objects that it decides; DEBUG_POLICY is among them for the journal's sake, which may name any carrier. -/
def warmDecided : List Nat :=
  [O.warmResets, O.resetCause, O.bootState, O.sessionState, O.debugPolicy, O.watchEnable, O.watchState]

/-- An object that is no enable, or an enable at rest, where a step keeps it. -/
theorem Keeps.ctl {s t : State} (k : Keeps l ex s t) {j : Nat} (hj : j ∈ resetKeys := by decide) (he : j ∉ ex := by decide)
    (hn : j ∉ enableKeys := by decide) : t.obj j = s.obj j := k.obj j hj he fun h => absurd h hn

/-- What a warm reset keeps (19 Table 19-1). -/
theorem warmFrom_keeps (cause : Nat) (s : State) : Keeps warmLost warmDecided s (warmFrom cause s) := by
  rw [warmFrom_eq]
  exact (warmBegun_keeps cause s).trans <| (warmHalted_keeps _).trans (warmRestart_keeps ..)

/-- The cause and the counts of a warm reset. -/
theorem warmFrom_counts (cause : Nat) (s : State) :
    (warmFrom cause s).obj O.resetCause = cause ∧ Counted s (warmFrom cause s) O.warmResets 1
      ∧ (warmFrom cause s).obj O.coldResets = s.obj O.coldResets := by
  refine ⟨?_, ?_, (warmFrom_keeps cause s).ctl⟩
  all_goals
    have k : Keeps warmLost [O.bootState, O.sessionState, O.debugPolicy, O.watchEnable, O.watchState] (warmBegun cause s)
        (warmReady (warmEnables (warmCleared (warmLoading (warmHalted (warmBegun cause s)))))) :=
      (warmHalted_keeps _).trans (warmRestart_keeps ..)
    rw [warmFrom_eq]
  · exact k.ctl.trans (warmBegun_resetCause ..)
  · exact k.ctl.trans (warmBegun_counted ..)

/-- The session is suspended. -/
theorem warmFrom_session (cause : Nat) (s : State) :
    (warmFrom cause s).obj O.sessionState = if s.obj O.sessionState = 0 then 0 else 2 := by
  have kb : Keeps [] [O.warmResets, O.resetCause] s (warmBegun cause s) := warmBegun_keeps ..
  rw [warmFrom_eq, ← kb.ctl, ← warmHalted_state]
  generalize warmHalted (warmBegun cause s) = u
  exact (warmRestart_keeps (l := warmLost) (ex := [O.bootState, O.watchEnable, O.watchState])).ctl

theorem warmFrom_bootState (cause : Nat) (s : State) : (warmFrom cause s).obj O.bootState = 4 := by
  rw [warmFrom_eq, warmReady]
  exact setBootState_state _ 4

/-- Nothing is left in channel 0, in the tiles and in the engines' chains. -/
theorem warmFrom_units (cause : Nat) (s : State) : (warmFrom cause s).tiles = [] ∧ (warmFrom cause s).hod.chains = []
    ∧ (warmFrom cause s).svc.latch = none ∧ (warmFrom cause s).svc.buffer = none := by
  obtain ⟨hl, hb⟩ := warmHalted_svc (warmBegun cause s)
  rw [warmFrom_eq]
  generalize warmHalted (warmBegun cause s) = u at hl hb ⊢
  obtain ⟨ht, hc⟩ := warmCleared_units (warmLoading u)
  have k : Keeps [.modules, .ues] [O.bootState, O.watchEnable, O.watchState] (warmCleared (warmLoading u))
      (warmReady (warmEnables (warmCleared (warmLoading u)))) := (warmEnables_keeps _).trans (warmReady_keeps _)
  have kh : Keeps [.tiles, .hod, .modules, .ues] [O.bootState, O.watchEnable, O.watchState] u
      (warmReady (warmEnables (warmCleared (warmLoading u)))) := warmRestart_keeps
  exact ⟨(k.same .tiles (by decide)).trans ht, (congrArg (·.chains) (k.same .hod (by decide) :)).trans hc,
    (kh.same .latch (by decide)).trans hl, (kh.same .buffer (by decide)).trans hb⟩

/-- WATCH is not restored. -/
theorem warmFrom_watch (cause : Nat) (s : State) :
    (warmFrom cause s).obj O.watchEnable = 0 ∧ (warmFrom cause s).obj O.watchState = 0 := by
  rw [warmFrom_eq]
  obtain ⟨he, hs⟩ := warmEnables_watch (warmCleared (warmLoading (warmHalted (warmBegun cause s))))
  generalize warmEnables (warmCleared (warmLoading (warmHalted (warmBegun cause s)))) = u at he hs ⊢
  have k : Keeps [.modules, .ues] [O.bootState] u (warmReady u) := warmReady_keeps _
  exact ⟨(k.obj _ (by decide) (by decide) fun _ => .inl he).trans he, k.ctl.trans hs⟩

end

/-! ## The boot -/

namespace Keeps

variable {l : List Trait} {ex : List Nat} {s t : State}

/-- The checks at the end of a boot, which may turn any enable of the list. -/
theorem bootChecks (s : State) (he : ∀ k ∈ enableKeys, k ∈ ex) (hw : O.watchState ∈ ex) : Keeps l ex s (bootChecks s) :=
  foldl _ (fun key _ s => bootCheck key s (fun _ => hw) fun h => he _ (rulesOf_enable key h)) s

theorem onFlash (s : State) (f : Flash → Flash) (hf : ∀ x k, (f x).slot k = x.slot k) : Keeps l ex s (s.onFlash f) := by
  have h : Keeps l ex s (s.onBoot fun b => { b with flash := f b.flash }) :=
    of_same fun x _ => by cases x <;> simp [Trait.same, State.onBoot, State.blob, hf]
  exact h.trans (setObj _ O.trialState _)

theorem trySlot (k : Nat) (s : State) : Keeps l ex s (trySlot k s).2 := by
  unfold Machine.trySlot
  extract_lets r s1
  have h1 : Keeps l ex s s1 := setObj s O.bootReason _
  split
  · refine h1.trans (setObj _ _ _ ?_)
    unfold versionKey
    split <;> grind
  · exact h1

theorem writeControl_slot (f : Flash) (a b k : Nat) : (f.writeControl a b).slot k = f.slot k := by
  unfold Flash.writeControl
  dsimp only
  split <;> rfl

theorem onControl (s : State) (b : Bool) (x y : Nat) :
    Keeps l ex s (if b = true then s.onFlash (fun f => f.writeControl x y) else s) := by
  split
  · exact onFlash _ _ fun f k => writeControl_slot f x y k
  · exact refl s

/-- The choice of a slot writes the control block alone. -/
theorem chooseSlot (s : State) : Keeps l ex s (chooseSlot s).2 := by
  unfold Machine.chooseSlot
  extract_lets c trial s1 first
  have h1 : Keeps l ex s s1 := by
    unfold s1
    split
    · exact onFlash _ _ fun f k => writeControl_slot ..
    · split
      · exact onFlash _ _ fun f k => writeControl_slot ..
      · exact onFlash _ _ fun _ _ => rfl
  have h2 : Keeps l ex s1 (Machine.trySlot first s1).2 := trySlot ..
  refine h1.trans ?_
  split
  next s2 h => rwa [h] at h2
  next s2 h =>
    rw [h] at h2
    refine h2.trans ?_
    extract_lets s3
    have h3 : Keeps l ex s2 s3 := onControl ..
    have h4 : Keeps l ex s3 (Machine.trySlot (1 - first) s3).2 := trySlot ..
    refine h3.trans ?_
    split
    next s4 h => rwa [h] at h4
    next s4 h => rwa [h] at h4

end Keeps

/-- The slot that boots is the preferred one or the other. -/
theorem chooseSlot_slot (s : State) {k : Nat} (h : (chooseSlot s).1 = some k) (hp : s.boot.flash.control.preferred < 2) : k < 2 := by
  unfold chooseSlot at h
  extract_lets c trial s1 first at h
  have hf : first < 2 := by unfold first c; split <;> omega
  split at h
  · simp only [Option.some.injEq] at h
    omega
  · extract_lets s3 at h
    split at h
    · simp only [Option.some.injEq] at h
      omega
    · simp at h

/-- No entry of an image writes what a reset decides, but for the enables, nor the owner's key (05 R153). -/
theorem bootKeys_readOnly : ∀ k ∈ O.ownerKeyHash :: bootKeys, (rowOf k).map (·.acc) ≠ some .rw ∧ (rowOf k).map (·.acc) ≠ some .rwe := by
  decide +kernel

theorem not_bootKey_of_entry {e : Nat × Bytes} {r : ObjRow} (h : entryReason e = .ok) (hr : rowOf e.1 = some r) :
    e.1 ∉ O.ownerKeyHash :: bootKeys := by
  intro hm
  obtain ⟨hw, he⟩ := bootKeys_readOnly _ hm
  rw [hr] at hw he
  unfold entryReason at h
  split at h
  · cases h
  · split at h
    · cases h
    · cases hacc : r.acc <;> simp_all

namespace Keeps

variable {l : List Trait} {ex : List Nat} {s t : State}

/-- An entry of an image changes the image, and of the objects that a reset decides only an enable. -/
theorem applyEntry (s : State) (e : Nat × Bytes) (hi : .image ∈ l) (hb : .imageBlobs ∈ l) (he : ∀ k ∈ enableKeys, k ∈ ex) :
    Keeps l ex s (applyEntry s e) := by
  unfold Machine.applyEntry
  split
  next r h hr =>
    obtain ⟨ho, hn⟩ := not_or.mp (fun hm => not_bootKey_of_entry h hr (List.mem_cons.mpr hm))
    extract_lets s1
    have h1 : Keeps l ex s s1 := bump s O.imageEntriesApplied 1
    clear_value s1
    split
    next v _ =>
      refine h1.trans <| (setKey _ e.1 v fun hk => he _ ((List.mem_append.mp hk).resolve_left hn)).trans ?_
      exact of_same fun x hx => by cases x <;> simp_all [Trait.same, State.blob]
    next b _ =>
      refine h1.trans <| (setBlob _ e.1 b (Ne.symm ho)).trans ?_
      exact of_same fun x hx => by cases x <;> simp_all [Trait.same, State.blob]
  next =>
    extract_lets s1
    have h1 : Keeps l ex s s1 := by
      unfold s1
      split
      · exact setBlob _ O.imageFirstReject _
      · exact refl s
    exact h1.trans (bump _ O.imageEntriesRejected 1)

theorem onArb (s : State) (mc : Bool) (k : Nat) (f : Arb → Arb) : Keeps l ex s (s.onArb mc k f) := rest

theorem takeArb (mc : Bool) (s : State) : Keeps l ex s (takeArb mc s) := by
  unfold Machine.takeArb
  extract_lets b
  split
  · exact refl s
  · exact foldl _ (fun k _ s => onArb ..) s

theorem setVls {n : Nat} (_hn : n < 100) (s : State) : Keeps l ex s (setVls n s) := of_leaves (setVls_leaves n s) (by
  simp only [List.forall_mem_cons]; grind)

theorem setBond {n : Nat} (hn : n < 100) (v : Int) (s : State) : Keeps l ex s (Machine.setVls n (s.setObj (O.bondState n) v)) :=
  (setObj s (O.bondState n) v).trans (setVls hn _)

theorem squelch (out : Nat) (s : State) : Keeps l ex s (squelch out s) := setObj s O.squelched _

/-- What the current values put into force: the epoch of the clock, and each enable that reads 1 PENDING. -/
theorem takeValues (s : State) (hc : .clock ∈ l) (he : ∀ k ∈ enableKeys, k ∈ ex) : Keeps l ex s (takeValues s) := by
  unfold Machine.takeValues
  extract_lets s1 clock s2 s3 s4 s5 on s6 svc
  have h1 : Keeps l ex s s1 := (takeArb ..).trans <| (takeArb ..).trans rest
  clear_value s1
  have h2 : Keeps l ex s1 s2 := of_same fun x hx => by cases x <;> simp_all [Trait.same, State.blob, s2]
  have h3 : Keeps l ex s2 s3 := foldl _ (fun n hn s => (setBond (List.mem_range.mp hn) _ s)) _
  have h4 : Keeps l ex s3 s4 := by
    refine foldl _ (fun c _ s => ?_) _
    split
    · exact refl s
    · exact onChain ..
  have h5 : Keeps l ex s4 s5 := (squelch ..).trans (squelch ..)
  have h6 : Keeps l ex s5 s6 := foldl _ (fun k hk s => setObj s k _ fun _ => he k (List.mem_filter.mp hk).1) _
  clear_value s6 on
  exact h1.trans <| h2.trans <| h3.trans <| h4.trans <| h5.trans <| h6.trans rest

theorem trainChannel {c : Nat} (hc : c < 16) (s : State) : Keeps l ex s (trainChannel s c) := by
  unfold Machine.trainChannel
  extract_lets g
  split
  · exact (setObj s (O.chState c) 2).trans <| (setObj _ (O.chDensity c) _).trans (setObj _ (O.chPallets c) _)
  · exact setObj s (O.chState c) 0

theorem bootMemory (s : State) : Keeps l ex s (bootMemory s) := by
  unfold Machine.bootMemory
  extract_lets s1 s2 total s3 j integ s4 s5 pages
  have h2 : Keeps l ex s1 s2 := foldl _ (fun c hc s => trainChannel (List.mem_range.mp hc) s) _
  have h1 : Keeps l ex s s1 := setObj s O.eccActive _
  have h3 : Keeps l ex s2 s3 := setObj _ O.gddr7Mib _
  clear_value s3 j
  have h4 : Keeps l ex s3 s4 := rest
  have h5 : Keeps l ex s4 s5 := setObj _ O.journalCopies _
  exact h1.trans <| h2.trans <| h3.trans <| h4.trans <| h5.trans <| (foldl _ (fun p _ s => retirePage s p) _).trans (setObj _ O.memRegime 0)

theorem setCopy (s : State) (n : Nat) : Keeps l ex s (s.onBoot fun b => { b with copy := n }) := rest

theorem bootLoad (i : SiteImage) (s : State) : Keeps l ex s (bootLoad i s) :=
  (setCopy s _).trans (foldl _ (fun t _ s => loadTile t s) _)

theorem freshNonce (s : State) : Keeps l ex s (freshNonce s) := by
  have h : Machine.freshNonce s = (s.freeBytes 32).2.setBlob O.debugNonce (s.freeBytes 32).1 := rfl
  rw [h]
  exact (freeBytes s 32).trans (setBlob ..)

end Keeps

/-! ## The stages of a boot -/

/-- The boot up to the choice of a slot. -/
def bootBegun (s : State) : State :=
  let s := setBootState 0 s
  let s := s.onRail fun r => { r with mv := s.nat O.vRunMv }
  let s := freshNonce (s.setObj O.debugGrants (policyGrants s))
  let s := s.onBoot fun b => { b with leaf := nextLeaf s }
  setBootState 1 s

/-- What the objects and the scheduler show of the image that boots. -/
def bootShown (k : Nat) (i : SiteImage) (s : State) : State :=
  let s := s.onBoot fun b => { b with slot := k, image := some i }
  let s := ((s.setObj O.imageSlot k).setObj O.imageVersion i.version).setObj O.fwVersion i.fwVersion
  { s with sched := { s.sched with progs := i.programs } }

/-- The image's values and programs are put into force, to LOADING. -/
def bootFrom (i : SiteImage) (s : State) : State :=
  setBootState 3 (bootLoad i (bootMemory (setBootState 2 ((takeValues (i.entries.foldl applyEntry s)).setObj O.memRegime 2))))

/-- A slot boots. -/
def bootImage (k : Nat) (s : State) : State := bootFrom (siteImage (s.boot.flash.slot k)) (bootShown k (siteImage (s.boot.flash.slot k)) s)

/-- What the objects show where no slot boots. -/
def recoveryShown (s : State) : State := ((s.setObj O.imageSlot 2).setObj O.imageVersion 0).setObj O.fwVersion (s.obj O.romVersion)

/-- No slot boots. -/
def bootRecovery (s : State) : State := bootChecks (setBootState 5 (trainModules (takeValues (recoveryShown s))))

/-- The boot of the slot that is chosen, if any. -/
def bootChosen (x : Option Nat × State) : State := x.1.elim (bootRecovery x.2) fun k => bootImage k x.2

theorem bootChosen_none (s : State) : bootChosen (none, s) = bootRecovery s := by simp only [bootChosen, Option.elim_none]

theorem bootChosen_some (k : Nat) (s : State) : bootChosen (some k, s) = bootImage k s := by simp only [bootChosen, Option.elim_some]

theorem bootTo_eq (cause : Nat) (s : State) : bootTo cause s = bootChosen (chooseSlot (bootBegun (s.setObj O.resetCause cause))) := by
  unfold bootTo
  extract_lets s1 s2 s3 s4 s5 s6
  have h : s6 = bootBegun s1 := rfl
  rw [h]
  rcases chooseSlot (bootBegun s1) with ⟨_ | k, t⟩
  · simp only [bootChosen_none, bootRecovery, recoveryShown]
  · simp only [bootChosen_some, bootImage, bootFrom, bootShown]

section

variable {l : List Trait} {ex : List Nat} (s : State)

theorem bootBegun_keeps (hb : O.bootState ∈ ex) : Keeps l ex s (bootBegun s) := by
  unfold bootBegun
  extract_lets s1 s2 s3 s4
  have h1 : Keeps l ex s s1 := Keeps.setBootState 0 s hb
  have h2 : Keeps l ex s1 s2 := .rest
  have h3 : Keeps l ex s2 s3 := (Keeps.setObj s2 O.debugGrants _).trans (Keeps.freshNonce _)
  clear_value s3
  have h4 : Keeps l ex s3 s4 := .rest
  exact h1.trans <| h2.trans <| h3.trans <| h4.trans (Keeps.setBootState 1 _ hb)

theorem bootBegun_flash : (bootBegun s).boot.flash = s.boot.flash := rfl

theorem bootShown_keeps (k : Nat) (i : SiteImage) (hk : O.imageSlot ∈ ex) : Keeps l ex s (bootShown k i s) := by
  have h : Keeps l ex s (s.onBoot fun b => { b with slot := k, image := some i }) := .rest
  exact h.trans <| (Keeps.setObj _ O.imageSlot _).trans <| (Keeps.setObj _ O.imageVersion _).trans <|
    (Keeps.setObj _ O.fwVersion _).trans .rest

theorem recoveryShown_keeps (hk : O.imageSlot ∈ ex) : Keeps l ex s (recoveryShown s) :=
  (Keeps.setObj _ O.imageSlot _).trans <| (Keeps.setObj _ O.imageVersion _).trans (Keeps.setObj _ O.fwVersion _)

theorem bootShown_imageSlot (k : Nat) (i : SiteImage) : (bootShown k i s).obj O.imageSlot = k := by
  rw [bootShown]
  exact (State.obj_setObj_ne _ _ _ _ (by decide)).trans
    ((State.obj_setObj_ne _ _ _ _ (by decide)).trans (State.obj_setObj_same _ O.imageSlot k))

theorem recoveryShown_imageSlot : (recoveryShown s).obj O.imageSlot = 2 := by
  rw [recoveryShown, State.obj_setObj_ne _ _ _ _ (by decide), State.obj_setObj_ne _ _ _ _ (by decide), State.obj_setObj_same]

theorem bootFrom_keeps (i : SiteImage) (hi : .image ∈ l) (hb : .imageBlobs ∈ l) (hc : .clock ∈ l) (hs : O.bootState ∈ ex)
    (he : ∀ k ∈ enableKeys, k ∈ ex) : Keeps l ex s (bootFrom i s) :=
  (Keeps.foldl _ (fun e _ s => Keeps.applyEntry s e hi hb he) s).trans <| (Keeps.takeValues _ hc he).trans <|
    (Keeps.setObj _ O.memRegime 2).trans <| (Keeps.setBootState 2 _ hs).trans <| (Keeps.bootMemory _).trans <|
    (Keeps.bootLoad i _).trans (Keeps.setBootState 3 _ hs)

theorem bootFrom_state (i : SiteImage) : (bootFrom i s).obj O.bootState = 3 := by
  rw [bootFrom]
  exact setBootState_state _ 3

/-- In recovery BOOT_STATE reads 5, which the checks of the enables leave. -/
theorem bootRecovery_keeps (hm : .modules ∈ l) (hc : .clock ∈ l) (hs : O.bootState ∈ ex) (hk : O.imageSlot ∈ ex)
    (he : ∀ k ∈ enableKeys, k ∈ ex) (hw : O.watchState ∈ ex) : Keeps l ex s (bootRecovery s) :=
  (recoveryShown_keeps s hk).trans <| (Keeps.takeValues _ hc he).trans <| (Keeps.trainModules _ hm).trans <|
    (Keeps.setBootState 5 _ hs).trans (Keeps.bootChecks _ he hw)

end

/-- What a boot decides beside its own objects: the enables and WATCH_STATE. -/
def checkedKeys : List Nat := O.watchState :: enableKeys

theorem bootRecovery_state (s : State) : (bootRecovery s).obj O.bootState = 5 := by
  have k : Keeps [] checkedKeys (setBootState 5 (trainModules (takeValues (recoveryShown s)))) (bootRecovery s) :=
    Keeps.bootChecks _ (fun _ h => List.mem_cons_of_mem _ h) (List.mem_cons_self ..)
  exact (k.ctl (j := O.bootState)).trans (setBootState_state _ 5)

theorem bootRecovery_imageSlot (s : State) : (bootRecovery s).obj O.imageSlot = 2 := by
  have he : ∀ k ∈ enableKeys, k ∈ O.bootState :: checkedKeys := fun _ h => List.mem_cons_of_mem _ (List.mem_cons_of_mem _ h)
  have k : Keeps [.clock, .modules] (O.bootState :: checkedKeys) (recoveryShown s) (bootRecovery s) :=
    (Keeps.takeValues _ (by decide) he).trans <| (Keeps.trainModules _ (by decide)).trans <|
      (Keeps.setBootState 5 _ (by decide)).trans (Keeps.bootChecks _ he (by decide))
  exact (k.ctl (j := O.imageSlot)).trans (recoveryShown_imageSlot s)

theorem bootImage_imageSlot (k : Nat) (s : State) : (bootImage k s).obj O.imageSlot = k := by
  have he : ∀ k ∈ enableKeys, k ∈ O.bootState :: checkedKeys := fun _ h => List.mem_cons_of_mem _ (List.mem_cons_of_mem _ h)
  have h : Keeps [.image, .imageBlobs, .clock] (O.bootState :: checkedKeys) (bootShown k (siteImage (s.boot.flash.slot k)) s) (bootImage k s) :=
    bootFrom_keeps _ _ (by decide) (by decide) (by decide) (by decide) he
  exact (h.ctl (j := O.imageSlot)).trans (bootShown_imageSlot ..)

/-- What a boot loses, and the objects that it decides beside RESET_CAUSE. -/
def bootLost : List Trait := [.image, .imageBlobs, .clock, .modules]

def bootDecided : List Nat := O.bootState :: O.imageSlot :: O.bootMs :: checkedKeys

theorem enables_bootDecided : ∀ k ∈ enableKeys, k ∈ bootDecided := fun _ h => by simp [bootDecided, checkedKeys, h]

/-- What a boot keeps from where its cause is set. -/
theorem bootTo_keeps (cause : Nat) (s : State) : Keeps bootLost bootDecided (s.setObj O.resetCause cause) (bootTo cause s) := by
  have hb : Keeps bootLost bootDecided (s.setObj O.resetCause cause) (bootBegun (s.setObj O.resetCause cause)) := bootBegun_keeps _ (by decide)
  rw [bootTo_eq]
  refine hb.trans <| (Keeps.chooseSlot _).trans ?_
  generalize chooseSlot (bootBegun (s.setObj O.resetCause cause)) = x
  rcases x with ⟨_ | k, t⟩
  · rw [bootChosen_none]
    exact bootRecovery_keeps t (by decide) (by decide) (by decide) (by decide) enables_bootDecided (by decide)
  · rw [bootChosen_some]
    exact (bootShown_keeps t k _ (by decide)).trans (bootFrom_keeps _ _ (by decide) (by decide) (by decide) (by decide) enables_bootDecided)

theorem bootImage_state (k : Nat) (s : State) : (bootImage k s).obj O.bootState = 3 := bootFrom_state ..

/-- A boot reaches LOADING with a slot's image, and RECOVERY with none. -/
theorem bootTo_state (cause : Nat) (s : State) :
    ((bootTo cause s).obj O.bootState = 5 ∧ (bootTo cause s).obj O.imageSlot = 2)
      ∨ ((bootTo cause s).obj O.bootState = 3 ∧ (s.boot.flash.control.preferred < 2 → (bootTo cause s).obj O.imageSlot ≠ 2)) := by
  rw [bootTo_eq]
  have hk := @chooseSlot_slot (bootBegun (s.setObj O.resetCause cause))
  rw [bootBegun_flash] at hk
  generalize chooseSlot (bootBegun (s.setObj O.resetCause cause)) = x at hk ⊢
  rcases x with ⟨_ | k, t⟩
  · rw [bootChosen_none]
    exact .inl ⟨bootRecovery_state t, bootRecovery_imageSlot t⟩
  · rw [bootChosen_some, bootImage_state, bootImage_imageSlot]
    refine .inr ⟨rfl, fun hp => ?_⟩
    have := hk rfl hp
    omega

/-! ## READY -/

theorem bootReady_keeps {l : List Trait} {ex : List Nat} (s : State) (hm : .modules ∈ l) (hs : O.bootState ∈ ex) (hb : O.bootMs ∈ ex)
    (he : ∀ k ∈ enableKeys, k ∈ ex) (hw : O.watchState ∈ ex) : Keeps l ex s (bootReady s) := by
  unfold bootReady
  split
  · exact Keeps.refl s
  · exact (Keeps.trainModules s hm).trans <| (Keeps.free _).trans <| (Keeps.setObj _ O.bootMs _).trans <|
      (Keeps.setBootState 4 _ hs).trans (Keeps.bootChecks _ he hw)

theorem bootReady_of_not_loading (s : State) (h : s.obj O.bootState ≠ 3 ∨ s.guard.rtcOff = true) : bootReady s = s := by
  rw [bootReady, if_pos (by simpa using h)]

theorem setModule_obj (m : Nat) (x : Module) (s : State) {j : Nat} (h : j ≠ O.cenenLinkState) : (setModule m x s).obj j = s.obj j :=
  State.obj_setObj_ne _ _ _ _ h

/-- The value of BOOT_MS. -/
def bootTime (s : State) : Int :=
  (if s.obj O.bootMemtest == 2 then (trainModules s).free.1.toNat % 2 ^ 32 else (trainModules s).free.1.toNat % 3001 : Nat)

/-- The part reads READY, before the checks of its enables. -/
def bootServes (s : State) : State := setBootState 4 ((trainModules s).free.2.setObj O.bootMs (bootTime s))

theorem bootReady_of_loading (s : State) (h3 : s.obj O.bootState = 3) (hr : s.guard.rtcOff = false) :
    bootReady s = bootChecks (bootServes s) := by
  have hm : (trainModules s).free.2.obj O.bootMemtest = s.obj O.bootMemtest := by
    change (trainModules s).obj _ = _
    rw [trainModules, setModule_obj _ _ _ (by decide), setModule_obj _ _ _ (by decide)]
  rw [bootReady, if_neg (by simp [h3, hr])]
  rw [bootServes, bootTime, ← hm]

theorem bootReady_serves (s : State) (h3 : s.obj O.bootState = 3) (hr : s.guard.rtcOff = false) :
    Keeps [] checkedKeys (bootServes s) (bootReady s) := by
  rw [bootReady_of_loading s h3 hr]
  exact Keeps.bootChecks _ (fun _ h => List.mem_cons_of_mem _ h) (List.mem_cons_self ..)

theorem bootServes_state (s : State) : (bootServes s).obj O.bootState = 4 := setBootState_state _ 4

theorem bootServes_bootMs (s : State) : (bootServes s).obj O.bootMs = bootTime s := by
  have k : Keeps [] [O.bootState] ((trainModules s).free.2.setObj O.bootMs (bootTime s)) (bootServes s) := Keeps.setBootState 4 _ (by decide)
  exact (k.ctl (j := O.bootMs)).trans (State.obj_setObj_same ..)

/-- Both modules carry the link. -/
theorem bootServes_modules (s : State) : ((bootServes s).link.mod 0).up = true ∧ ((bootServes s).link.mod 1).up = true := by
  have k : Keeps [] [O.bootState, O.bootMs] (trainModules s) (bootServes s) :=
    (Keeps.free _).trans <| (Keeps.setObj _ O.bootMs _).trans (Keeps.setBootState 4 _ (by decide))
  obtain ⟨h0, h1⟩ : _ ∧ _ := k.same .modules (by decide)
  exact ⟨congrArg (·.up) h0, congrArg (·.up) h1⟩

/-- Where a boot ends: in RECOVERY with no slot, and with one in READY, or in LOADING while the RTC oscillator does not run. -/
theorem boot_state (cause : Nat) (s : State) :
    ((bootReady (bootTo cause s)).obj O.bootState = 5 ∧ (bootReady (bootTo cause s)).obj O.imageSlot = 2)
      ∨ ((bootReady (bootTo cause s)).obj O.bootState = (if s.guard.rtcOff = true then 3 else 4)
        ∧ (s.boot.flash.control.preferred < 2 → (bootReady (bootTo cause s)).obj O.imageSlot ≠ 2)) := by
  have hr : (bootTo cause s).guard.rtcOff = s.guard.rtcOff := (bootTo_keeps cause s).same .rtcOff (by decide)
  rcases bootTo_state cause s with h5 | ⟨h3, hs⟩
  · left
    rwa [bootReady_of_not_loading _ (.inl (by rw [h5.1]; decide))]
  · right
    by_cases ho : s.guard.rtcOff = true
    · rw [bootReady_of_not_loading _ (.inr (hr.trans ho)), if_pos ho]
      exact ⟨h3, hs⟩
    · have k := bootReady_serves _ h3 (hr.trans (Bool.eq_false_iff.mpr ho))
      have ki : Keeps [.modules] (O.bootState :: O.bootMs :: checkedKeys) (bootTo cause s) (bootReady (bootTo cause s)) :=
        bootReady_keeps _ (by decide) (by decide) (by decide) (fun _ h => by simp [checkedKeys, h]) (by decide)
      rw [if_neg ho, ki.ctl (j := O.imageSlot)]
      exact ⟨k.ctl.trans (bootServes_state _), hs⟩

theorem boot_keeps (cause : Nat) (s : State) : Keeps bootLost bootDecided (s.setObj O.resetCause cause) (bootReady (bootTo cause s)) :=
  (bootTo_keeps cause s).trans (bootReady_keeps _ (by decide) (by decide) (by decide) enables_bootDecided (by decide))

theorem boot_cause (cause : Nat) (s : State) : (bootReady (bootTo cause s)).obj O.resetCause = cause :=
  (boot_keeps cause s).ctl.trans (State.obj_setObj_same ..)

/-! ## What a reset clears -/

/-- Objects set to their values in another state. -/
theorem obj_foldl_copy (keys : List Nat) (s r : State) (j : Nat) :
    (keys.foldl (fun r k => r.setObj k (s.obj k)) r).obj j = if j ∈ keys then s.obj j else r.obj j := by
  induction keys generalizing r with
  | nil => simp
  | cons k keys ih =>
    rw [List.foldl_cons, ih]
    by_cases hj : j ∈ keys
    · simp [hj]
    · by_cases hk : j = k
      · subst hk
        simp
      · simp [hj, hk, State.obj_setObj_ne _ _ _ _ hk]

theorem dict_foldl_copy (keys : List Nat) (s r : State) :
    keys.foldl (fun r k => r.setObj k (s.obj k)) r = { r with dict := (keys.foldl (fun r k => r.setObj k (s.obj k)) r).dict } := by
  induction keys generalizing r with
  | nil => rfl
  | cons k keys ih => exact ih (r.setObj k (s.obj k))

/-- What a reset leaves of a state beside its objects: the flash, the supplies, the RTC oscillator, the messages sent and those that wait. -/
def clearedBase (s : State) : State :=
  { State.reset with
    boot := { Boot.fresh with flash := s.boot.flash, fitted := s.boot.fitted, jtag := s.boot.jtag, powered := s.boot.powered
                              tripped := s.boot.tripped }
    link := { Link.down with sent := s.link.sent }
    guard := { Guard.starting with rtcOff := s.guard.rtcOff }, freeCtr := s.freeCtr, pending := s.pending }

/-- The identity of the part, and V_RUN_MV. -/
def identified (s r : State) : State :=
  ((r.setBlob O.ownerKeyHash (s.blob O.ownerKeyHash)).setBlob O.dieId (s.blob O.dieId)).setObj O.vRunMv (s.obj O.vRunMv)

/-- A reset changes the base in the dictionary and its blobs alone. -/
theorem cleared_eq (keeps : List Nat) (s : State) :
    cleared keeps s = { clearedBase s with dict := (cleared keeps s).dict, blobs := (cleared keeps s).blobs } := by
  have hc : cleared keeps s = identified s (keeps.foldl (fun r k => r.setObj k (s.obj k)) (clearedBase s)) := rfl
  rw [hc, dict_foldl_copy keeps s (clearedBase s)]
  rfl

/-- An object after a reset: kept, or at its factory value. -/
theorem cleared_obj (keeps : List Nat) (s : State) {j : Nat} (h : j ≠ O.vRunMv) :
    (cleared keeps s).obj j = if j ∈ keeps then s.obj j else factory j :=
  (State.obj_setObj_ne _ _ _ _ h).trans (obj_foldl_copy keeps s (clearedBase s) j)

theorem cleared_owner (keeps : List Nat) (s : State) : (cleared keeps s).blob O.ownerKeyHash = s.blob O.ownerKeyHash := by
  exact (State.blob_setBlob_ne _ _ _ _ (by decide)).trans (State.blob_setBlob_same ..)

/-- A burn or a flash operation that a reset cuts. -/
def cutShort (s : State) : State := cutFlash (cutBurn s)

theorem cutShort_keeps {l : List Trait} {ex : List Nat} (s : State) (hs : .slots ∈ l) : Keeps l ex s (cutShort s) :=
  (Keeps.cutBurn s).trans (Keeps.cutFlash _ hs)

theorem cutBurn_boot (s : State) : (cutBurn s).boot = s.boot := by
  unfold cutBurn
  split <;> rfl

/-- With no flash operation in progress, the flash stays as it is. -/
theorem cutShort_boot (s : State) (h : s.boot.update = none) : (cutShort s).boot = s.boot := by
  rw [cutShort, cutFlash, cutBurn_boot, h]
  exact cutBurn_boot s

theorem setSlot_control (f : Flash) (k : Nat) (b : List Host.Cell) : (f.setSlot k b).control = f.control := by
  unfold Flash.setSlot
  split <;> rfl

theorem cutShort_control (s : State) : (cutShort s).boot.flash.control = s.boot.flash.control := by
  rw [cutShort, ← cutBurn_boot s]
  unfold cutFlash
  split
  · exact setSlot_control ..
  · exact setSlot_control ..
  · rfl

/-- What a reset loses, but for the slots of the flash. -/
def clearedLost : List Trait :=
  [.image, .imageBlobs, .clock, .tiles, .hod, .held, .latch, .buffer, .modules, .wb, .courses, .ues]

theorem cleared_same (keeps : List Nat) (s : State) (x : Trait) (hx : x ∉ clearedLost) : x.same s (cleared keeps s) := by
  rw [cleared_eq]
  cases x
  case owner => exact cleared_owner keeps s
  case sent => exact List.prefix_rfl
  all_goals simp_all [Trait.same, clearedLost, clearedBase]

/-- The parts that a reset leaves empty. -/
theorem cleared_empty (keeps : List Nat) (s : State) : (cleared keeps s).pipe.courses = [] ∧ (cleared keeps s).pipe.ues = []
    ∧ (cleared keeps s).wb = [] ∧ (cleared keeps s).svc.held = [] := by
  rw [cleared_eq]
  exact ⟨rfl, rfl, rfl, rfl⟩

/-! ## A cold reset -/

/-- The part as a cold reset boots it. -/
def coldBase (cause : Nat) (s : State) : State :=
  let r := cleared coldKeeps (cutShort s)
  (if cause == 2 then keepGddr7 s r else r).bump O.coldResets 1

theorem coldReset_eq (cause : Nat) (s : State) : coldReset cause s = bootReady (bootTo cause (coldBase cause s)) := rfl

/-- The content of GDDR7 is neither an object nor a part that a boot asks about. -/
theorem keptGddr7 (cause : Nat) (s r : State) : (if cause == 2 then keepGddr7 s r else r).dict = r.dict
    ∧ (if cause == 2 then keepGddr7 s r else r).resetView = r.resetView ∧ (if cause == 2 then keepGddr7 s r else r).pipe = r.pipe
    ∧ (if cause == 2 then keepGddr7 s r else r).boot = r.boot := by
  split <;> exact ⟨rfl, rfl, rfl, rfl⟩

theorem coldBase_keeps {ex : List Nat} (cause : Nat) (s : State) (hc : O.coldResets ∈ ex) :
    Keeps [] ex (cleared coldKeeps (cutShort s)) (coldBase cause s) := by
  obtain ⟨hd, hv, hp, -⟩ := keptGddr7 cause s (cleared coldKeeps (cutShort s))
  exact (Keeps.rest hv hp hd).trans (Keeps.bump _ O.coldResets 1)

theorem coldBase_counted (cause : Nat) (s : State) : Counted s (coldBase cause s) O.coldResets 1 := by
  have kc : Keeps [.slots] [] s (cutShort s) := cutShort_keeps s (by decide)
  have hr := (State.obj_congr (keptGddr7 cause s (cleared coldKeeps (cutShort s))).1 O.coldResets).trans
    ((cleared_obj coldKeeps (cutShort s) (by decide)).trans ((if_pos (by decide)).trans kc.ctl))
  exact (State.obj_bump_same ..).trans (by rw [State.nat, hr]; rfl)

theorem coldBase_control (cause : Nat) (s : State) : (coldBase cause s).boot.flash.control = s.boot.flash.control := by
  have hb := (keptGddr7 cause s (cleared coldKeeps (cutShort s))).2.2.2
  rw [← cutShort_control s]
  exact congrArg (·.flash.control) (hb.trans (congrArg State.boot (cleared_eq coldKeeps (cutShort s))))

/-- The objects of a cold reset: those that it keeps, and the others at their factory values. -/
theorem coldReset_obj (cause : Nat) (s : State) {j : Nat} (hj : j ∈ resetKeys := by decide)
    (he : j ∉ O.resetCause :: O.coldResets :: bootDecided := by decide +kernel) (hn : j ∉ enableKeys := by decide +kernel)
    (hv : j ≠ O.vRunMv := by decide) :
    (coldReset cause s).obj j = if j ∈ coldKeeps then s.obj j else factory j := by
  have kb : Keeps [] [O.coldResets] (cleared coldKeeps (cutShort s)) (coldBase cause s) := coldBase_keeps cause s (by decide)
  have kc : Keeps [.slots] [] s (cutShort s) := cutShort_keeps s (by decide)
  simp only [List.mem_cons, not_or] at he
  rw [coldReset_eq, (boot_keeps cause _).ctl hj he.2.2 hn, State.obj_setObj_ne _ _ _ _ he.1, kb.ctl hj (by simp [he.2.1]) hn,
    cleared_obj _ _ hv, kc.ctl hj (by simp) hn]

theorem coldReset_cause (cause : Nat) (s : State) : (coldReset cause s).obj O.resetCause = cause := boot_cause ..

theorem coldReset_counted (cause : Nat) (s : State) : Counted s (coldReset cause s) O.coldResets 1 := by
  have h := (boot_keeps cause (coldBase cause s)).ctl (j := O.coldResets) (by decide) (by decide +kernel) (by decide +kernel)
  exact h.trans ((State.obj_setObj_ne _ _ _ _ (by decide)).trans (coldBase_counted cause s))

/-- From where the part is cleared, a boot loses what the image and the link decide. -/
theorem coldBase_boot (cause : Nat) (s : State) (x : Trait) (hx : x ∉ bootLost) : x.same (cleared coldKeeps (cutShort s)) (coldReset cause s) :=
  Trait.same_trans ((coldBase_keeps (ex := [O.coldResets]) cause s (by decide)).same x (by simp)) <|
    Trait.same_trans (Keeps.setObj_same _ O.resetCause cause x) ((boot_keeps cause _).same x hx)

/-- The traits that a cold reset keeps. -/
theorem coldReset_same (cause : Nat) (s : State) (x : Trait) (hx : x ∉ .slots :: clearedLost) : x.same s (coldReset cause s) := by
  obtain ⟨hs, hc⟩ := not_or.mp (fun h => hx (List.mem_cons.mpr h))
  have kc : Keeps [.slots] [] s (cutShort s) := cutShort_keeps s (by decide)
  refine Trait.same_trans (kc.same x (by simpa using hs)) <| Trait.same_trans (cleared_same _ _ x hc) (coldBase_boot cause s x ?_)
  cases x <;> simp_all [bootLost, clearedLost]

/-- The slots of the flash, where no operation on it was cut. -/
theorem coldReset_slots (cause : Nat) (s : State) (h : s.boot.update = none) (k : Nat) :
    (coldReset cause s).boot.flash.slot k = s.boot.flash.slot k :=
  have hb : ∀ k, _ := coldBase_boot cause s .slots (by decide)
  (hb k).trans ((cleared_same coldKeeps (cutShort s) .slots (by decide) k).trans (by rw [cutShort_boot s h]))

/-- Courses, contexts, weight banks and held transfers are gone. -/
theorem coldReset_empty (cause : Nat) (s : State) : (coldReset cause s).pipe.courses = [] ∧ (coldReset cause s).pipe.ues = []
    ∧ (coldReset cause s).wb = [] ∧ (coldReset cause s).svc.held = [] := by
  obtain ⟨hc, hu, hw, hh⟩ := cleared_empty coldKeeps (cutShort s)
  have hs := coldBase_boot cause s
  exact ⟨hs .courses (by decide) hc, (hs .ues (by decide)).trans hu, (hs .wb (by decide)).trans hw, (hs .held (by decide)).trans hh⟩

/-- Where a cold reset ends. -/
theorem coldReset_state (cause : Nat) (s : State) :
    ((coldReset cause s).obj O.bootState = 5 ∧ (coldReset cause s).obj O.imageSlot = 2)
      ∨ ((coldReset cause s).obj O.bootState = (if s.guard.rtcOff = true then 3 else 4)
        ∧ (s.boot.flash.control.preferred < 2 → (coldReset cause s).obj O.imageSlot ≠ 2)) := by
  have h := boot_state cause (coldBase cause s)
  have hr : (coldBase cause s).guard.rtcOff = s.guard.rtcOff := by
    have kc : Keeps [.slots] [] s (cutShort s) := cutShort_keeps s (by decide)
    have kb : Keeps [] [O.coldResets] (cleared coldKeeps (cutShort s)) (coldBase cause s) := coldBase_keeps cause s (by decide)
    exact (kb.same .rtcOff (by decide)).trans ((cleared_same _ _ .rtcOff (by decide)).trans (kc.same .rtcOff (by decide)))
  rwa [coldBase_control, hr] at h

/-- RECOVERY is where no slot booted. -/
theorem recovery_iff {p : Prop} {b i : Int} {off : Bool} (h : b = 5 ∧ i = 2 ∨ b = (if off = true then 3 else 4) ∧ (p → i ≠ 2)) (hp : p) :
    b = 5 ↔ i = 2 := by
  rcases h with ⟨hb, hi⟩ | ⟨hb, hi⟩
  · simp [hb, hi]
  · have hne : b ≠ 5 := by rw [hb]; cases off <;> decide
    exact iff_of_false hne (hi hp)

/-- The clause of RESET_N (19 R603, R607). -/
theorem exec_coldReset (lowNs : Nat) (s : State) :
    exec (.coldReset lowNs) s = .next (if s.boot.powered = true ∧ 10000 ≤ lowNs then afterReset (coldReset 1 s) else s) := by
  change Host.Outcome.next (if (s.boot.powered && decide (10000 ≤ lowNs)) = true then _ else _) = _
  simp only [Bool.and_eq_true, decide_eq_true_eq]

/-! ## RESET_CMD -/

/-- RESET_CMD is a WO object of one byte, which takes 1 and 2 (19 R604). -/
theorem resetCmd_row : ∃ r, anyRow O.resetCmd = some r ∧ r.acc = .wo ∧ lengthTest r 1 = .ok
    ∧ ∀ v ∈ [1, 2], valueTest r (decodeVal r.type (leBytes 1 v)) = .ok := by
  have h : (anyRow O.resetCmd).any (fun r => r.acc = .wo && (lengthTest r 1 = .ok
      && [1, 2].all fun v => valueTest r (decodeVal r.type (leBytes 1 v)) = .ok)) = true := by decide +kernel
  cases hr : anyRow O.resetCmd with
  | none => rw [hr] at h; cases h
  | some r =>
    simp only [hr, Option.any_some, Bool.and_eq_true, decide_eq_true_eq, List.all_eq_true] at h
    exact ⟨r, rfl, h⟩

theorem newCarrierTest_resetCmd (v : Val) (s : State) : newCarrierTest O.resetCmd v s = .ok := by
  cases v <;> rfl

/-- A write of 1 or 2 to RESET_CMD passes every test (05 R153, R168). -/
theorem judgeWrite_resetCmd {v : Nat} (hv : v ∈ [1, 2]) (s : State) (h : s.obj O.sessionState = 1) :
    judgeWrite O.resetCmd 0 0 1 1 (leBytes 1 v) s = (.ok, s) := by
  obtain ⟨r, hr, ha, hl, ht⟩ := resetCmd_row
  have hd : indexDefined (O.resetCmd / 256) = true := by decide +kernel
  have hac : accessTest r O.resetCmd s = .ok := by rw [accessTest, ha]
  have hvt : valueTests r O.resetCmd 1 (decodeVal r.type (leBytes 1 v)) s = .ok := by
    simp [valueTests, firstReason, hac, countTest, hl, ht v hv, newCarrierTest_resetCmd]
  have hact : actOf O.resetCmd (decodeVal r.type (leBytes 1 v)) s = (.ok, s) := by
    rw [actOf, if_neg (by decide +kernel), if_pos rfl]
  have hap : applyValue r O.resetCmd (leBytes 1 v) s = (.ok, s) := by
    rw [applyValue, show (leBytes 1 v).length = 1 from rfl, hvt]
    exact hact
  have hw : writeObject r O.resetCmd 0 1 1 (leBytes 1 v) s = (.ok, s) := by
    simp [writeObject, firstReason, hac, countTest, hl, leBytes, ← hap]
  simp [judgeWrite, lacksSession, h, hd, hr, badOp, hw]

theorem expireSegments_of_quiet {s : State} (hl : s.svc.latch = none) (hb : s.svc.buffer = none) (hd : s.svc.discarded = none) :
    expireSegments s = s := by
  simp [expireSegments, expireMemory, expireBuffer, expireLatch, hl, hb, hd]

/-- The state as RESET_CMD resets it: the write has been answered. -/
def commanded (x : Xfer) (s : State) : State := replyWrite x.seq O.resetCmd 0 0 1 .ok (advance s x.dt)

theorem resetCmd_eq {x : Xfer} {s : State} (hq : Quiet s) (hs : s.obj O.sessionState = 1) {v : Nat} (hv : v ∈ [1, 2]) :
    arrive x (.write O.resetCmd 0 0 1 1 (leBytes 1 v)) s
      = serveHeld (if v = 1 then warmReset 4 (commanded x s) else coldReset 2 (commanded x s)) := by
  obtain ⟨hr, hh, hl, hb, hd⟩ := hq
  have hj := judgeWrite_resetCmd hv (advance s x.dt) (by simpa [State.obj] using hs)
  have hn : servedNow (.write O.resetCmd 0 0 1 1 (leBytes 1 v)) (advance s x.dt) = true := by simp [servedNow, hr]
  have hby : bytesAt (leBytes 1 v) 0 1 = v := by
    simp only [List.mem_cons, List.not_mem_nil, or_false] at hv
    rcases hv with rfl | rfl <;> rfl
  rw [arrive, if_pos hn, serve, expireSegments_of_quiet (by simpa using hl) (by simpa using hb) (by simpa using hd)]
  simp only [serveWrite, hj, afterWrite, hby, commanded]
  rfl

theorem commanded_keeps (x : Xfer) (s : State) : Keeps [.clock, .rtcOff] [] s (commanded x s) := by
  have h1 : Keeps [.clock, .rtcOff] [] s (advance s x.dt) :=
    Keeps.of_leaves (Leaves.advance s x.dt (ps := timeParts) (ks := []) fun _ h => h) (by simp)
      fun y hy => by cases y <;> simp_all [Keeps.partOf, timeParts]
  exact h1.trans <| (Keeps.bump _ O.transfersServed 1).trans (Keeps.send _ _)

theorem commanded_sent (x : Xfer) (s : State) :
    ∃ d : DictReply, (commanded x s).link.sent = s.link.sent ++ [.dictReply d] ∧ d.seq = x.seq ∧ d.reason = .ok
      ∧ d.key = O.resetCmd := ⟨_, by rw [commanded, replyWrite_link_sent, advance_link], rfl, rfl, rfl⟩

theorem commanded_obj (x : Xfer) (s : State) {j : Nat} (hj : j ∈ bootKeys := by decide) (hn : j ∉ enableKeys := by decide +kernel) :
    (commanded x s).obj j = s.obj j :=
  (commanded_keeps x s).ctl (List.mem_append_left _ hj) List.not_mem_nil hn

/-! ## Supplies and temperatures -/

/-- In power-on reset the units are at rest, every gate is closed and MUTE_N is low, and the RTC oscillator has still to start. -/
theorem powerLost_eq (s : State) : powerLost s = { cleared powerKeeps (cutShort s) with
    boot := { (cleared powerKeeps (cutShort s)).boot with powered := false, jtag := ⟨1, 0, 0, none⟩ }
    guard := { (cleared powerKeeps (cutShort s)).guard with rtcOff := true } } := rfl

/-- An object in power-on reset. -/
theorem powerLost_obj (s : State) {j : Nat} (h : j ≠ O.vRunMv) :
    (powerLost s).obj j = if j ∈ powerKeeps then (cutShort s).obj j else factory j :=
  cleared_obj powerKeeps (cutShort s) h

theorem powerLost_factory (s : State) {j : Nat} (h : j ≠ O.vRunMv := by decide) (hk : j ∉ powerKeeps := by decide) :
    (powerLost s).obj j = factory j := (powerLost_obj s h).trans (if_neg hk)

theorem powerLost_topUsed (s : State) : (powerLost s).obj O.topUsed = s.obj O.topUsed :=
  (powerLost_obj s (by decide)).trans ((if_pos (by decide)).trans (cutShort_keeps (l := [.slots]) (ex := []) s (by decide)).ctl)

theorem powerLost_pending (s : State) : (powerLost s).pending = s.pending :=
  (cleared_same powerKeeps (cutShort s) .pending (by decide)).trans
    ((cutShort_keeps (l := [.slots]) (ex := []) s (by decide)).same .pending (by decide))

theorem powerLost_tripped (s : State) : (powerLost s).boot.tripped = s.boot.tripped :=
  (cleared_same powerKeeps (cutShort s) .supply (by decide)).2.trans
    ((cutShort_keeps (l := [.slots]) (ex := []) s (by decide)).same .supply (by decide)).2

theorem cleared_flash (keeps : List Nat) (s : State) : (cleared keeps s).boot.flash = s.boot.flash := by
  rw [cleared_eq]
  rfl

theorem powerLost_flash (s : State) (h : s.boot.update = none) : (powerLost s).boot.flash = s.boot.flash :=
  (cleared_flash powerKeeps (cutShort s)).trans (congrArg (·.flash) (cutShort_boot s h))

theorem powerLost_control (s : State) : (powerLost s).boot.flash.control = s.boot.flash.control :=
  (congrArg Flash.control (cleared_flash powerKeeps (cutShort s))).trans (cutShort_control s)

/-- What the supplies kept beside objects is gone. -/
theorem powerLost_units (s : State) : (powerLost s).mem = [] ∧ (powerLost s).clock = State.reset.clock ∧ (powerLost s).link.journal = []
    ∧ (powerLost s).link.holder = 0 ∧ (powerLost s).tiles = [] := by
  rw [powerLost_eq, cleared_eq]
  exact ⟨rfl, rfl, rfl, rfl, rfl⟩

theorem txgLevel_factory : ∀ g < 16, factory (O.txgLevel g) = 0 ∧ O.txgLevel g ∉ powerKeeps ∧ O.txgLevel g ≠ O.vRunMv := by decide +kernel

/-- The gates of the transmitters are closed. -/
theorem powerLost_gates (s : State) {g : Nat} (hg : g < 16) : (powerLost s).obj (O.txgLevel g) = 0 := by
  obtain ⟨hf, hk, hv⟩ := txgLevel_factory g hg
  rw [powerLost_obj s hv, if_neg hk, hf]

theorem powerLost_muteLow (s : State) : (powerLost s).muteLow = true := by
  have h : (powerLost s).obj O.guardState = 0 := (powerLost_factory s).trans (by decide +kernel)
  simp [State.muteLow, h]

/-- RAIL_UNDERVOLTAGE, where THERMTRIP_N is let go with VDD_AON (20 R633, R641). -/
theorem exec_railUndervoltage {rail : Nat} (lowNs mv : Nat) (s : State) (h : rail < 5) :
    exec (.railUndervoltage rail lowNs mv) s = .next (if (mv * 1000 < railFloor s rail ∧ 1000 < lowNs) ∨ (rail = 0 ∧ mv < 660) then
      (powerLost s).onBoot fun b => { b with tripped := b.tripped && rail != 3 } else s) := by
  have he : exec (.railUndervoltage rail lowNs mv) s = execRailUndervoltage rail lowNs mv s := rfl
  rw [he, execRailUndervoltage, if_neg (by omega)]
  simp only [Bool.or_eq_true, Bool.and_eq_true, decide_eq_true_eq]
  split <;> rfl

/-! ## The supplies come into range -/

/-- The part as a power-on reset boots it. -/
def powerBase (s : State) : State := (powerLost s).onBoot fun b => { b with powered := true, tripped := false }

theorem powerOn_eq (s : State) : powerOn s = bootReady (bootTo 0 (powerBase s)) := rfl

theorem powerOn_obj (s : State) {j : Nat} (hj : j ∈ resetKeys := by decide) (he : j ∉ O.resetCause :: bootDecided := by decide +kernel)
    (hn : j ∉ enableKeys := by decide +kernel) : (powerOn s).obj j = (powerLost s).obj j := by
  obtain ⟨hr, hd⟩ := not_or.mp (fun h => he (List.mem_cons.mpr h))
  exact ((boot_keeps 0 (powerBase s)).ctl hj hd hn).trans (State.obj_setObj_ne _ _ _ _ hr)

theorem powerOn_same (s : State) (x : Trait) (hx : x ∉ bootLost) : x.same (powerBase s) (powerOn s) :=
  Trait.same_trans (Keeps.setObj_same _ O.resetCause _ x) ((boot_keeps 0 (powerBase s)).same x hx)

theorem powerBase_empty (s : State) : (powerBase s).pipe.courses = [] ∧ (powerBase s).svc.held = [] ∧ (powerBase s).guard.rtcOff = true := by
  obtain ⟨hc, -, -, hh⟩ := cleared_empty powerKeeps (cutShort s)
  exact ⟨hc, hh, rfl⟩

/-! ## A verdict's write -/

/-- The journal with its head taken. -/
def journalTaken (rest : List JournalWrite) (s : State) : State := s.onLink fun l => { l with journal := rest }

theorem exec_journalWriteComplete {chan : Nat} {v : Verdict} {rest : List JournalWrite} {s : State}
    (h : s.link.journal = .verdict chan v :: rest) :
    exec .journalWriteComplete s = .next (if journalStuck s = true ∧ ¬(v.reason = .journalFull ∧ s.obj O.sessionState = 1) then s
      else verdictWritten chan v (journalTaken rest s)) := by
  have he : exec .journalWriteComplete s = execJournalWriteComplete s := rfl
  rw [he, execJournalWriteComplete, h]
  have hm : (mayWrite s (.verdict chan v) = true) = ¬(journalStuck s = true ∧ ¬(v.reason = .journalFull ∧ s.obj O.sessionState = 1)) := by
    simp only [mayWrite, Bool.or_eq_true, Bool.not_eq_true', Bool.and_eq_true, beq_iff_eq, eq_iff_iff]
    cases journalStuck s <;> simp
  simp only [hm, ite_not]
  split <;> rfl

theorem journalTaken_leaves (rest : List JournalWrite) (s : State) : Leaves s (journalTaken rest s) [.link] [] :=
  Leaves.of_dict (fun p hp => by cases p <;> simp_all [Part.same, journalTaken, State.onLink]) rfl

theorem verdictKept_leaves (chan : Nat) (v : Verdict) (s : State) : Leaves s (verdictKept chan v s) [.link] [] := by
  unfold verdictKept
  split
  · exact Leaves.refl s _ _
  · exact Leaves.of_dict (fun p hp => by cases p <;> simp_all [Part.same]) rfl

/-- The channel once its verdict is kept. -/
theorem verdictKept_link (chan : Nat) (v : Verdict) (s : State) : (verdictKept chan v s).link.journal = s.link.journal
    ∧ (verdictKept chan v s).link.sent = s.link.sent ∧ ((verdictKept chan v s).chan chan).claims = (s.chan chan).claims
    ∧ ((verdictKept chan v s).chan chan).verdicts = (s.chan chan).verdicts ++ (if journalStuck s = true then [] else [v]) := by
  unfold verdictKept
  split
  · simp
  · simp [State.onChan, State.chan]

/-- The verdict leaves for the host. -/
def verdictSent (chan : Nat) (v : Verdict) (s : State) : State :=
  (s.onChan chan fun c =>
    { c with lastVerdict := v.seq, claims := c.claims.filter fun k => k.req.hdr.seq != v.seq }).send (.verdict chan v false)

theorem verdictSent_leaves (chan : Nat) (v : Verdict) (s : State) : Leaves s (verdictSent chan v s) [.link] [] :=
  Leaves.of_dict (fun p hp => by cases p <;> simp_all [Part.same, verdictSent]) rfl

theorem verdictSent_link (chan : Nat) (v : Verdict) (s : State) : (verdictSent chan v s).link.journal = s.link.journal
    ∧ (verdictSent chan v s).link.sent = s.link.sent ++ [.verdict chan v false] ∧ ((verdictSent chan v s).chan chan).lastVerdict = v.seq
    ∧ ((verdictSent chan v s).chan chan).verdicts = (s.chan chan).verdicts := by
  simp [verdictSent, State.onChan, State.chan, State.send]

theorem sendVerdict_of_no_claim {chan : Nat} {v : Verdict} {s : State} (h : ∀ k ∈ (s.chan chan).claims, k.req.hdr.seq ≠ v.seq) :
    sendVerdict chan v false s = verdictSent chan v s := by
  have hf : (s.chan chan).claims.find? (fun k => k.req.hdr.seq == v.seq) = none := List.find?_eq_none.mpr (by simpa using h)
  rw [sendVerdict, hf]
  rfl

theorem verdictWritten_open {chan : Nat} {v : Verdict} {s : State} (h1 : s.obj O.sessionState = 1)
    (h : ∀ k ∈ (s.chan chan).claims, k.req.hdr.seq ≠ v.seq) : verdictWritten chan v s = verdictSent chan v (verdictKept chan v s) := by
  have hk : (verdictKept chan v s).obj O.sessionState = 1 := ((verdictKept_leaves chan v s).2 _ List.not_mem_nil).trans h1
  have he : verdictWritten chan v s = sendVerdict chan v false (verdictKept chan v s) := by
    rw [verdictWritten, if_neg (by simp [h1])]
    exact if_pos (beq_iff_eq.mpr hk)
  rw [he, sendVerdict_of_no_claim ((verdictKept_link chan v s).2.2.1 ▸ h)]

/-- Where no session is open, a verdict's write sends nothing. -/
theorem verdictWritten_closed {chan : Nat} {v : Verdict} {s : State} (h1 : s.obj O.sessionState ≠ 1) :
    Leaves s (verdictWritten chan v s) [.link] [] ∧ (verdictWritten chan v s).link.journal = s.link.journal
      ∧ (verdictWritten chan v s).link.sent = s.link.sent := by
  have hk : (verdictKept chan v s).obj O.sessionState ≠ 1 := ((verdictKept_leaves chan v s).2 _ List.not_mem_nil) ▸ h1
  by_cases h0 : s.obj O.sessionState = 0
  · have he : verdictWritten chan v s = s := if_pos (by simp [h0])
    rw [he]
    exact ⟨Leaves.refl s _ _, rfl, rfl⟩
  · have he : verdictWritten chan v s = (verdictKept chan v s).onChan chan fun c => { c with owed := c.owed + v.credits } := by
      rw [verdictWritten, if_neg (by simpa using h0)]
      exact if_neg fun h => hk (eq_of_beq h)
    obtain ⟨hj, hs, -, -⟩ := verdictKept_link chan v s
    rw [he]
    exact ⟨Leaves.trans (verdictKept_leaves chan v s) (Leaves.of_dict (fun p hp => by cases p <;> simp_all [Part.same]) rfl), hj, hs⟩

/-! ## Warm resets -/

/-- WRESET_N (19 R604). -/
theorem exec_warmReset (lowNs : Nat) (s : State) :
    exec (.warmReset lowNs) s = .next (if s.boot.powered = true ∧ 1000 ≤ lowNs then afterReset (warmReset 3 s) else s) := by
  have he : exec (.warmReset lowNs) s = execWarmReset lowNs s := rfl
  simp only [he, execWarmReset, Bool.and_eq_true, decide_eq_true_eq]

theorem warmReset_of_ready {s : State} (cause : Nat) (h : s.obj O.bootState = 4) : warmReset cause s = warmFrom cause s :=
  if_pos (beq_iff_eq.mpr h)

/-- Before the first READY a warm reset is a cold one. -/
theorem warmReset_of_not_ready {s : State} (cause : Nat) (h : s.obj O.bootState ≠ 4) : warmReset cause s = coldReset 6 s :=
  if_neg fun h' => h (eq_of_beq h')

/-- Of the enables, a warm reset decides that of WATCH alone. -/
theorem enable_not_decided {k : Nat} (hk : k ∈ enableKeys) (h : k ≠ O.watchEnable) : k ∉ warmDecided := by
  have hn : ∀ k ∈ warmDecided, k ∈ enableKeys → k = O.watchEnable := by decide +kernel
  exact fun hm => h (hn k hm hk)

/-- RESET_CMD resets a state that keeps nothing held. -/
theorem exec_resetCmdWarm {x : Xfer} {s : State} (hq : Quiet s) (hs : s.obj O.sessionState = 1) (h4 : s.obj O.bootState = 4) :
    exec (.resetCmdWarm x) s = .next (warmFrom 4 (commanded x s)) := by
  have he : exec (.resetCmdWarm x) s = .next (arrive x (.write O.resetCmd 0 0 1 1 (leBytes 1 1)) s) := rfl
  have hh : (warmFrom 4 (commanded x s)).svc.held = [] :=
    ((warmFrom_keeps 4 _).same .held (by decide)).trans (((commanded_keeps x s).same .held (by decide)).trans hq.2.1)
  rw [he, resetCmd_eq hq hs (by decide), if_pos rfl, warmReset_of_ready _ ((commanded_obj x s).trans h4), serveHeld_of_none hh]

theorem exec_resetCmdCold {x : Xfer} {s : State} (hq : Quiet s) (hs : s.obj O.sessionState = 1) :
    exec (.resetCmdCold x) s = .next (coldReset 2 (commanded x s)) := by
  have he : exec (.resetCmdCold x) s = .next (arrive x (.write O.resetCmd 0 0 1 1 (leBytes 1 2)) s) := rfl
  rw [he, resetCmd_eq hq hs (by decide), if_neg (by decide), serveHeld_of_none (coldReset_empty 2 _).2.2.2]

/-- The answer to RESET_CMD goes before all that the reset sends. -/
theorem answered_first {x : Xfer} {s t : State} (h : (commanded x s).link.sent <+: t.link.sent) :
    ∃ (d : DictReply) (l : List Sent), t.link.sent = s.link.sent ++ .dictReply d :: l ∧ d.seq = x.seq ∧ d.reason = .ok ∧ d.key = O.resetCmd := by
  obtain ⟨d, hd, hx⟩ := commanded_sent x s
  obtain ⟨l, hl⟩ := h
  exact ⟨d, l, by rw [← hl, hd, List.append_assoc]; rfl, hx⟩

/-! ## The RTC oscillator -/

/-- The part once the RTC oscillator runs. -/
def rtcRuns (s : State) : State := s.onGuard fun g => { g with rtcOff := false }

theorem exec_rtcOscillatorRuns (s : State) :
    exec .rtcOscillatorRuns s = .next (if s.boot.powered = true then afterReset (bootReady (rtcRuns s)) else s) := by
  have he : exec .rtcOscillatorRuns s = execRtcOscillatorRuns s := rfl
  rw [he, execRtcOscillatorRuns]
  split <;> rfl

theorem bootTime_le (s : State) (h : s.obj O.bootMemtest ≠ 2) : bootTime s ≤ 3000 := by
  rw [bootTime, if_neg (by simpa using h)]
  omega

/-! ## Temperatures -/

/-- The reading of a channel that is there (15 R499). -/
theorem exec_gddr7TemperatureReadout {ch : Nat} (temp : Int) (s : State) (h : ch < 16) :
    exec (.gddr7TemperatureReadout ch temp) s = .next (if s.obj (O.chState ch) = 2 then s.setObj (O.chTemp ch) temp else s) := by
  have he : exec (.gddr7TemperatureReadout ch temp) s = execGddr7TemperatureReadout ch temp s := rfl
  rw [he, execGddr7TemperatureReadout, if_neg (by omega)]
  simp only [beq_iff_eq]

theorem hostVote_ne_tj (d : Nat) : O.hostVote d ≠ O.tj := by grind

/-- At the cap the host's votes for RUN count as none (18 R585). -/
theorem hostVoteOf_hot {s : State} {temp : Int} (h : s.obj O.tjHostCap ≤ temp) {d : Nat} (hd : 3 ≤ hostVoteOf s d) :
    hostVoteOf (s.setObj O.tj temp) d = 0 := by
  rw [hostVoteOf_eq] at hd ⊢
  have hv : (s.setObj O.tj temp).nat (O.hostVote d) = s.nat (O.hostVote d) :=
    congrArg Int.toNat (State.obj_setObj_ne _ _ _ _ (hostVote_ne_tj d))
  have hc : (s.setObj O.tj temp).obj O.tjHostCap = s.obj O.tjHostCap := State.obj_setObj_ne _ _ _ _ (by decide)
  rw [hv, hc, State.obj_setObj_same, if_pos ⟨h, by split at hd <;> omega⟩]

end Sys2Proof.Machine

open Sys2Proof Sys2Proof.Machine Sys2Proof.Safety

/-- Settles O53: each clause follows from the stages of its reset, or from the equation of its event. -/
theorem resets : Obligations.Resets := by
  unfold Obligations.Resets
  refine ⟨?cold, ?warm, ?command, ?power, ?rtc, ?rail, ?trip, ?heat, ?journal⟩
  case cold =>
    intro lowNs s
    rw [exec_coldReset]
    split
    next h =>
      obtain ⟨hc, hu, hw, hh⟩ := coldReset_empty 1 s
      have k : Keeps [] [] (coldReset 1 s) (afterReset (coldReset 1 s)) := afterReset_keeps hh
      have hs := coldReset_same 1 s
      have hst := coldReset_state 1 s
      rw [← k.ctl (j := O.bootState), ← k.ctl (j := O.imageSlot)] at hst
      exact ⟨_, rfl, k.ctl.trans (coldReset_cause 1 s), k.ctl.trans (coldReset_counted 1 s), k.ctl.trans (coldReset_obj 1 s),
        k.ctl.trans (coldReset_obj 1 s), k.same .courses (by decide) hc, (k.same .ues (by decide)).trans hu,
        (k.same .wb (by decide)).trans hw, k.ctl.trans (coldReset_obj 1 s), k.ctl.trans (coldReset_obj 1 s),
        (k.same .owner (by decide)).trans (hs .owner (by decide)),
        fun hn j => (k.same .slots (by decide) j).trans (coldReset_slots 1 s hn j),
        ((k.same .supply (by decide)).1.trans (hs .supply (by decide)).1).trans h.1,
        (k.same .pending (by decide)).trans (hs .pending (by decide)), hst.imp And.left And.left, recovery_iff hst⟩
    next => rfl
  case warm =>
    intro lowNs s hh
    rw [exec_warmReset]
    split
    next h =>
      refine ⟨_, rfl, ?_⟩
      by_cases h4 : s.obj O.bootState = 4
      · have kw := warmFrom_keeps 3 s
        have k : Keeps [] [] (warmFrom 3 s) (afterReset (warmFrom 3 s)) := afterReset_keeps ((kw.same .held (by decide)).trans hh)
        obtain ⟨hc, hn, hcold⟩ := warmFrom_counts 3 s
        obtain ⟨ht, hch, hl, hb⟩ := warmFrom_units 3 s
        obtain ⟨hwe, hws⟩ := warmFrom_watch 3 s
        have ka : Keeps warmLost warmDecided s (afterReset (warmFrom 3 s)) := kw.trans (k.mono (by simp) (by simp))
        rw [warmReset_of_ready _ h4, if_pos h4]
        exact ⟨ka.same .pending (by decide), k.ctl.trans hc, k.ctl.trans hn, k.ctl.trans hcold, k.ctl.trans (warmFrom_bootState 3 s),
          ka.same .image (by decide), ka.same .imageBlobs (by decide), (k.same .tiles (by decide)).trans ht,
          (congrArg (·.chains) (k.same .hod (by decide) :)).trans hch, (k.same .latch (by decide)).trans hl,
          (k.same .buffer (by decide)).trans hb, fun _ => ka.same .clock (by decide),
          (k.obj _ (by decide) (by decide) fun _ => .inl hwe).trans hwe, k.ctl.trans hws,
          fun _ hr j hj hne => ka.obj j (List.mem_append_right _ hj) (enable_not_decided hj hne) fun _ => hr j hj,
          k.ctl.trans (warmFrom_session 3 s)⟩
      · have k : Keeps [] [] (coldReset 6 s) (afterReset (coldReset 6 s)) := afterReset_keeps (coldReset_empty 6 s).2.2.2
        rw [warmReset_of_not_ready _ h4, if_neg h4]
        exact ⟨(k.same .pending (by decide)).trans (coldReset_same 6 s .pending (by decide)), k.ctl.trans (coldReset_cause 6 s),
          k.ctl.trans (coldReset_counted 6 s), k.ctl.trans (coldReset_obj 6 s)⟩
    next => rfl
  case command =>
    intro x s hq hs h4
    constructor
    · obtain ⟨hc, hn, -⟩ := warmFrom_counts 4 (commanded x s)
      obtain ⟨d, l, hsent, hseq, hr, hk⟩ := answered_first ((warmFrom_keeps 4 (commanded x s)).same .sent (by decide))
      refine ⟨_, d, l, exec_resetCmdWarm hq hs h4, hsent, hseq, hr, hk, hc, Counted.of_obj (commanded_obj x s) hn, ?_, warmFrom_bootState ..⟩
      rw [warmFrom_session, commanded_obj x s, hs]
      rfl
    · obtain ⟨d, l, hsent, hseq, hr, hk⟩ := answered_first (coldReset_same 2 (commanded x s) .sent (by decide))
      exact ⟨_, d, l, exec_resetCmdCold hq hs, hsent, hseq, hr, hk, coldReset_cause 2 _,
        Counted.of_obj (commanded_obj x s) (coldReset_counted 2 _), coldReset_obj 2 _, (coldReset_empty 2 _).1⟩
  case power =>
    intro s
    obtain ⟨hc, hh, hr⟩ := powerBase_empty s
    have hs := powerOn_same s
    have k : Keeps [] [] (powerOn s) (afterReset (powerOn s)) := afterReset_keeps ((hs .held (by decide)).trans hh)
    have hst := boot_state 0 (powerBase s)
    rw [← powerOn_eq, ← k.ctl (j := O.bootState), ← k.ctl (j := O.imageSlot), hr] at hst
    obtain ⟨hp, ht⟩ := Trait.same_trans (hs .supply (by decide)) (k.same .supply (by decide))
    exact ⟨_, rfl, k.ctl.trans (boot_cause ..), k.ctl.trans ((powerOn_obj s).trans (powerLost_factory s)),
      k.ctl.trans ((powerOn_obj s).trans (powerLost_factory s)), hp, ht, (k.same .rtcOff (by decide)).trans ((hs .rtcOff (by decide)).trans hr),
      k.same .courses (by decide) (hs .courses (by decide) hc), hst.symm.imp And.left And.left,
      fun hq => recovery_iff hst ((powerLost_control s).symm ▸ hq),
      fun hn j => (k.same .slots (by decide) j).trans ((hs .slots (by decide) j).trans (congrArg (·.slot j) (powerLost_flash s hn))),
      k.ctl.trans ((powerOn_obj s).trans (powerLost_topUsed s)),
      (k.same .pending (by decide)).trans ((hs .pending (by decide)).trans (powerLost_pending s))⟩
  case rtc =>
    intro s hh
    rw [exec_rtcOscillatorRuns]
    split
    next hp =>
      by_cases h3 : s.obj O.bootState = 3
      · have kr := bootReady_serves (rtcRuns s) h3 rfl
        have kb : Keeps [.modules] bootDecided (rtcRuns s) (bootReady (rtcRuns s)) :=
          bootReady_keeps _ (by decide) (by decide) (by decide) enables_bootDecided (by decide)
        have kr' : Keeps [.modules] bootDecided (rtcRuns s) (afterReset (bootReady (rtcRuns s))) :=
          kb.trans (afterReset_keeps ((kb.same .held (by decide)).trans hh))
        have k : Keeps [] checkedKeys (bootServes (rtcRuns s)) (afterReset (bootReady (rtcRuns s))) :=
          kr.trans (afterReset_keeps ((kb.same .held (by decide)).trans hh))
        obtain ⟨h0, h1⟩ := bootServes_modules (rtcRuns s)
        obtain ⟨hm0, hm1⟩ := k.same .modules (by decide)
        refine ⟨_, rfl, (kr'.same .rtcOff (by decide)), ?_⟩
        rw [if_pos h3]
        exact ⟨k.ctl.trans (bootServes_state _), (congrArg (·.up) hm0).trans h0, (congrArg (·.up) hm1).trans h1,
          fun hm => (k.ctl.trans (bootServes_bootMs _)).trans_le (bootTime_le (rtcRuns s) hm)⟩
      · have he : bootReady (rtcRuns s) = rtcRuns s := bootReady_of_not_loading _ (.inl h3)
        have hl := afterReset_leaves (s := rtcRuns s) hh
        have hg : (afterReset (rtcRuns s)).guard = { s.guard with rtcOff := false } := hl.1 .guard (by decide)
        rw [he]
        refine ⟨_, rfl, congrArg (·.rtcOff) hg, ?_⟩
        rw [if_neg h3]
        exact ⟨hg, Leaves.trans_mono (Leaves.onGuard s _ (ps := [.guard]) (ks := []) (by decide)) hl (by decide) (by decide)⟩
    next => rfl
  case rail =>
    intro rail lowNs mv s h
    rw [exec_railUndervoltage lowNs mv s h]
    split
    next =>
      obtain ⟨hm, hc, hj, ho, ht⟩ := powerLost_units s
      obtain ⟨hp, hu, hw, -⟩ := cleared_empty powerKeeps (cutShort s)
      exact ⟨_, rfl, rfl, congrArg (· && rail != 3) (powerLost_tripped s), powerLost_factory s, powerLost_factory s, hm, hp, hc,
        powerLost_muteLow s, fun g hg => powerLost_gates s hg, hj, ho, ht, hw, hu, powerLost_flash s, powerLost_topUsed s, rfl,
        powerLost_pending s⟩
    next => rfl
  case trip =>
    intro tj s
    have he : exec (.thermtrip tj) s = .next (if 1220 ≤ tj then (powerLost s).onBoot fun b => { b with tripped := true } else s) := rfl
    rw [he]
    split
    next =>
      exact ⟨_, rfl, rfl, rfl, powerLost_factory s, (powerLost_units s).1, powerLost_muteLow s, fun g hg => powerLost_gates s hg,
        powerLost_flash s, powerLost_pending s⟩
    next => rfl
  case heat =>
    intro ch temp s h
    refine ⟨⟨_, exec_gddr7TemperatureReadout temp s h, ?_⟩,
      _, rfl, State.obj_setObj_same .., Leaves.setObj s _ _ (by decide) (by decide), fun hc d hd => hostVoteOf_hot hc hd⟩
    split
    · exact ⟨State.obj_setObj_same .., Leaves.setObj s _ _ (by decide) (by simp)⟩
    · exact ⟨rfl, Leaves.refl s _ _⟩
  case journal =>
    intro chan v rest s hj hc
    rw [exec_journalWriteComplete hj]
    split
    next => rfl
    next =>
      have ht := journalTaken_leaves rest s
      by_cases h1 : s.obj O.sessionState = 1
      · obtain ⟨hkj, hks, -, hkv⟩ := verdictKept_link chan v (journalTaken rest s)
        obtain ⟨hsj, hss, hlast, hv⟩ := verdictSent_link chan v (verdictKept chan v (journalTaken rest s))
        rw [verdictWritten_open (s := journalTaken rest s) h1 hc]
        refine ⟨_, rfl, hsj.trans hkj, Leaves.trans ht (Leaves.trans (verdictKept_leaves ..) (verdictSent_leaves ..)), fun _ => ?_,
          fun h => absurd h1 h⟩
        exact ⟨hss.trans (congrArg (· ++ _) hks), hlast, hv.trans hkv⟩
      · obtain ⟨hl, hr, hs⟩ := verdictWritten_closed (chan := chan) (v := v) (s := journalTaken rest s) h1
        exact ⟨_, rfl, hr, Leaves.trans ht hl, fun h => absurd h h1, fun _ => hs⟩
end

/-! SUPPORT. What every command keeps: the queue and the canonical form (`Kept`), one rule per function of the model, in the model's order; then
what every command answers (`Runs`). -/
section
namespace Sys2Proof.Machine
open Sys2Proof.Safety

/-- What every command keeps: the queue, and the canonical form of what is held by address or number. -/
structure Kept (s t : State) : Prop where
  pending : t.pending = s.pending
  canonical : Canonical s → Canonical t

/-- What `Kept` reads of a state. -/
def State.keptView (s : State) :=
  (s.pending, s.mem, s.dict, s.blobs, s.pipe.ues, s.wb, s.integ.buckets, s.mortar.arbs, s.mortar.mc)

namespace Kept
variable {s t u : State}

theorem rfl : Kept s s := ⟨Eq.refl _, id⟩

theorem trans (h : Kept s t) (k : Kept t u) : Kept s u := ⟨k.pending.trans h.pending, k.canonical ∘ h.canonical⟩

theorem same (h : Kept s t) (e : u.keptView = t.keptView) : Kept s u := by
  simp only [State.keptView, Prod.mk.injEq] at e
  obtain ⟨hp, hm, hd, hb, hu, hw, hk, ha, hc⟩ := e
  exact ⟨hp.trans h.pending, fun c => by simpa only [Canonical, hm, hd, hb, hu, hw, hk, ha, hc] using h.canonical c⟩

theorem ite {c : Prop} [Decidable c] (h1 : Kept s t) (h2 : Kept s u) : Kept s (if c then t else u) := by
  split
  · exact h1
  · exact h2

theorem foldl {α : Type} {f : State → α → State} {l : List α} (hf : ∀ a u, Kept s u → Kept s (f u a)) (h : Kept s t) :
    Kept s (l.foldl f t) := by
  induction l generalizing t with
  | nil => exact h
  | cons a l ih => exact ih (hf a t h)

theorem foldl_snd {α β : Type} {f : β × State → α → β × State} {l : List α} {p : β × State} (hf : ∀ a q, Kept s q.2 → Kept s (f q a).2)
    (h : Kept s p.2) : Kept s (l.foldl f p).2 := by
  induction l generalizing p with
  | nil => exact h
  | cons a l ih => exact ih (hf a p h)

theorem snd {α : Type} {p : α × State} {a : α} (h : Kept s p.2) (e : p = (a, u)) : Kept s u := by
  rw [e] at h
  exact h

theorem fst {α : Type} {p : State × α} {a : α} (h : Kept s p.1) (e : p = (u, a)) : Kept s u := by
  rw [e] at h
  exact h

theorem setImage {x : Store Int} (h : Kept s t) : Kept s { t with image := x } := ⟨h.pending, h.canonical⟩

theorem setImageBlobs {x : Store Bytes} (h : Kept s t) : Kept s { t with imageBlobs := x } := ⟨h.pending, h.canonical⟩

theorem setClock {x : Clock} (h : Kept s t) : Kept s { t with clock := x } := ⟨h.pending, h.canonical⟩

theorem setTime {x : TimeBase} (h : Kept s t) : Kept s { t with time := x } := ⟨h.pending, h.canonical⟩

theorem setNl {x : Listen} (h : Kept s t) : Kept s { t with nl := x } := ⟨h.pending, h.canonical⟩

theorem setLink {x : Link} (h : Kept s t) : Kept s { t with link := x } := ⟨h.pending, h.canonical⟩

theorem setSvc {x : Service} (h : Kept s t) : Kept s { t with svc := x } := ⟨h.pending, h.canonical⟩

theorem setSched {x : Sched} (h : Kept s t) : Kept s { t with sched := x } := ⟨h.pending, h.canonical⟩

theorem setKiln {x : Kiln} (h : Kept s t) : Kept s { t with kiln := x } := ⟨h.pending, h.canonical⟩

theorem setUnits {x : Units} (h : Kept s t) : Kept s { t with units := x } := ⟨h.pending, h.canonical⟩

theorem setHod {x : Hod} (h : Kept s t) : Kept s { t with hod := x } := ⟨h.pending, h.canonical⟩

theorem setGuard {x : Guard} (h : Kept s t) : Kept s { t with guard := x } := ⟨h.pending, h.canonical⟩

theorem setTiles {x : Store Ctx} (h : Kept s t) : Kept s { t with tiles := x } := ⟨h.pending, h.canonical⟩

theorem setBondWas {x : Store Nat} (h : Kept s t) : Kept s { t with bondWas := x } := ⟨h.pending, h.canonical⟩

theorem setFh {x : Fronthaul} (h : Kept s t) : Kept s { t with fh := x } := ⟨h.pending, h.canonical⟩

theorem setDfe {x : Dfe} (h : Kept s t) : Kept s { t with dfe := x } := ⟨h.pending, h.canonical⟩

theorem setPower {x : Power} (h : Kept s t) : Kept s { t with power := x } := ⟨h.pending, h.canonical⟩

theorem setBoot {x : Boot} (h : Kept s t) : Kept s { t with boot := x } := ⟨h.pending, h.canonical⟩

theorem setPipe {x : Pipe} (h : Kept s t) (hu : x.ues = t.pipe.ues) : Kept s { t with pipe := x } :=
  h.trans ⟨Eq.refl _, fun ⟨c1, c2, c3, hw, hr⟩ => ⟨c1, c2, c3, (congrArg Store.rising hu).trans hw, hr⟩⟩

theorem setInteg {x : Integrity} (h : Kept s t) (hb : x.buckets = t.integ.buckets) : Kept s { t with integ := x } :=
  h.trans ⟨Eq.refl _, fun ⟨c1, c2, c3, c4, c5, hw, hr⟩ => ⟨c1, c2, c3, c4, c5, (congrArg Store.rising hb).trans hw, hr⟩⟩

theorem setFreeCtr {n : Nat} (h : Kept s t) : Kept s { t with freeCtr := n } := ⟨h.pending, h.canonical⟩

theorem setMem {m : List Host.Cell} (h : Kept s t) (hm : Memory.wf t.mem = true → Memory.wf m = true) : Kept s { t with mem := m } :=
  h.trans ⟨Eq.refl _, fun ⟨hw, hr⟩ => ⟨hm hw, hr⟩⟩

theorem setWb {m : Store WbEntry} (h : Kept s t) (hm : Store.rising t.wb = true → Store.rising m = true) : Kept s { t with wb := m } :=
  h.trans ⟨Eq.refl _, fun ⟨c1, c2, c3, c4, hw, hr⟩ => ⟨c1, c2, c3, c4, hm hw, hr⟩⟩

theorem setUes {m : Store Ue} (h : Kept s t) (hm : Store.rising t.pipe.ues = true → Store.rising m = true) :
    Kept s { t with pipe := { t.pipe with ues := m } } :=
  h.trans ⟨Eq.refl _, fun ⟨c1, c2, c3, hw, hr⟩ => ⟨c1, c2, c3, hm hw, hr⟩⟩

theorem onInteg {f : Integrity → Integrity} (h : Kept s t)
    (hf : Store.rising t.integ.buckets = true → Store.rising (f t.integ).buckets = true) : Kept s (t.onInteg f) :=
  h.trans ⟨Eq.refl _, fun ⟨c1, c2, c3, c4, c5, hw, hr⟩ => ⟨c1, c2, c3, c4, c5, hf hw, hr⟩⟩

theorem onMortar {f : Mortar → Mortar} (h : Kept s t)
    (ha : Store.rising t.mortar.arbs = true → Store.rising (f t.mortar).arbs = true)
    (hm : Store.rising t.mortar.mc = true → Store.rising (f t.mortar).mc = true) : Kept s (t.onMortar f) :=
  h.trans ⟨Eq.refl _, fun ⟨c1, c2, c3, c4, c5, c6, hw, hr⟩ => ⟨c1, c2, c3, c4, c5, c6, ha hw, hm hr⟩⟩

theorem setObj {key : Nat} {v : Int} (h : Kept s t) : Kept s (t.setObj key v) :=
  h.trans ⟨Eq.refl _, fun ⟨c1, hd, hr⟩ => ⟨c1, Store.wf_putD factory t.dict key v hd, hr⟩⟩

theorem setBlob {key : Nat} {v : Bytes} (h : Kept s t) : Kept s (t.setBlob key v) :=
  h.trans ⟨Eq.refl _, fun ⟨c1, c2, hb, hr⟩ => ⟨c1, c2, Store.wf_putD blobFactory t.blobs key v hb, hr⟩⟩
end Kept

/-- What a command answers: a next state that keeps what every command keeps, or the fault of a command that names no unit of the part. -/
def Runs (ok : Bool) (s : State) : Host.Outcome State Fault Refusal → Prop
  | .next t => Kept s t
  | .fault f => f = .noSuchUnit ∧ ok = false
  | .refused _ => False

namespace Runs
variable {ok : Bool} {s t : State} {o o' : Host.Outcome State Fault Refusal}

theorem next (h : Kept s t) : Runs ok s (.next t) := h

theorem guard {c : Prop} [Decidable c] (hc : ok = true → ¬c) (h : Runs ok s o) : Runs ok s (if c then .fault .noSuchUnit else o) := by
  split
  case isTrue hn => exact ⟨rfl, Bool.eq_false_iff.mpr fun hw => hc hw hn⟩
  case isFalse => exact h

theorem ite {c : Prop} [Decidable c] (h1 : Runs ok s o) (h2 : Runs ok s o') : Runs ok s (if c then o else o') := by
  split
  · exact h1
  · exact h2
end Runs

/-! ## Canonical memory and tables -/

theorem memPutAll_wf {cells m : List Host.Cell} (h : Memory.wf m = true) : Memory.wf (memPutAll cells m) = true := by
  induction cells generalizing m with
  | nil => exact h
  | cons c cells ih => exact ih (Store.wf_putD (fun _ => 0) m c.1 c.2 h)

theorem memWrite_wf {a : Nat} {b : Bytes} {m : List Host.Cell} (h : Memory.wf m = true) : Memory.wf (memWrite m a b) = true :=
  memPutAll_wf h

theorem memClear_wf {a n : Nat} {m : List Host.Cell} (h : Memory.wf m = true) : Memory.wf (memClear m a n) = true :=
  Store.wf_filter _ m _ h

theorem memory_foldl_wf {α : Type} {f : List Host.Cell → α → List Host.Cell} {l : List α}
    (hf : ∀ a m, Memory.wf m = true → Memory.wf (f m a) = true) {m : List Host.Cell} (h : Memory.wf m = true) :
    Memory.wf (l.foldl f m) = true := by
  induction l generalizing m with
  | nil => exact h
  | cons a l ih => exact ih (hf a m h)

/-- A change of the values that keeps the keys keeps the order. -/
theorem Store.rising_map {α : Type} {m : Store α} {f : Nat × α → Nat × α} (hf : ∀ e, (f e).1 = e.1) (h : Store.rising m = true) :
    Store.rising (m.map f) = true := by
  rw [Store.rising_iff] at h ⊢
  exact List.pairwise_map.mpr (h.imp fun {a b} hab => by rwa [hf, hf])

theorem Store.rising_drop {α : Type} {m : Store α} {k : Nat} (h : Store.rising m = true) : Store.rising (Store.drop m k) = true :=
  Store.rising_filter m _ h

theorem Store.rising_putD {α : Type} [DecidableEq α] {d : α} {m : Store α} {k : Nat} {v : α} (h : Store.rising m = true) :
    Store.rising (Store.putD d m k v) = true := by
  unfold Store.putD
  split
  · exact Store.rising_drop h
  · exact Store.rising_put m k v h
end Sys2Proof.Machine
end

section
namespace Sys2Proof.Machine
open Sys2Proof.Safety
variable {s t : State}

theorem Kept.bump {key n : Nat} (h : Kept s t) : Kept s (Machine.State.bump t key n) := h.setObj

theorem Kept.change {key : Nat} {v : Int} (h : Kept s t) : Kept s (Machine.State.change t key v) := .ite h h.setObj.bump

theorem Kept.changeBlob {key : Nat} {v : Bytes} (h : Kept s t) : Kept s (Machine.State.changeBlob t key v) := .ite h h.setBlob.bump

/-! ### Site time -/

theorem Kept.onWrap (h : Kept s t) : Kept s (Machine.onWrap t) := by
  have hg : Kept s (if t.guard.resync then { t with guard := { t.guard with skew := 0, resync := false } } else t) := .ite h.setGuard h
  exact hg.setTime

theorem Kept.onWraps {n : Nat} (h : Kept s t) : Kept s (Machine.onWraps n t) := by
  induction n generalizing t with
  | zero => exact h
  | succ n ih => exact ih h.onWrap

theorem Kept.advance {n : Nat} (h : Kept s t) : Kept s (Machine.advance t n) := h.onWraps.setTime.setClock

theorem Kept.advanceTo {count : Nat} (h : Kept s t) : Kept s (Machine.advanceTo t count) := .ite h h.advance

theorem Kept.advanceTicks {tick : Nat} (h : Kept s t) : Kept s (Machine.advanceTicks t tick) := h.advance

theorem Kept.advanceToAir {a : Int} (h : Kept s t) : Kept s (Machine.advanceToAir t a) := h.advanceTo

/-! ### Events -/

theorem Kept.raiseFor {key unit : Nat} {detail : Bytes} {course gen : Nat} (h : Kept s t) :
    Kept s (Machine.raiseFor t key unit detail course gen) :=
  .ite h.bump.bump h.bump.setLink

theorem Kept.raise {key unit : Nat} {detail : Bytes} {course : Nat} (h : Kept s t) : Kept s (Machine.raise t key unit detail course) :=
  h.raiseFor

theorem Kept.send {m : Sent} (h : Kept s t) : Kept s (Machine.State.send t m) := h.setLink

theorem Kept.free (h : Kept s t) : Kept s (Machine.State.free t).2 := h.setFreeCtr

theorem Kept.fitSigned {bits : Nat} {v : Int} (h : Kept s t) : Kept s (Machine.fitSigned bits v t).2 := by
  unfold Machine.fitSigned
  split
  · exact h
  · exact h.free

theorem Kept.countReply {r : Reason} (h : Kept s t) : Kept s (Machine.countReply r t) :=
  .ite (.bump (.ite h.bump.bump h.bump)) (.ite h.bump.bump h.bump)

theorem Kept.replyWrite {seq key : Nat} {op offset total : Nat} {r : Reason} (h : Kept s t) :
    Kept s (Machine.replyWrite seq key op offset total r t) :=
  h.countReply.send

theorem Kept.replyRead {seq key layer : Nat} {r : Reason} {offset : Nat} {value data : Bytes} (h : Kept s t) :
    Kept s (Machine.replyRead seq key layer r offset value data t) :=
  h.countReply.send

/-! ### Arrival -/

theorem Kept.holdTransfer {seq : Nat} {i : Transfer} (h : Kept s t) : Kept s (Machine.holdTransfer seq i t) := by
  refine .ite (.ite ?_ h.bump) (.ite h.setSvc ?_)
  · exact (h.setObj (key := O.latched) (v := t.svc.held.length + 1)).setSvc
  · split
    · exact h.replyRead
    · exact h.replyWrite
    · exact h.setSvc

theorem Kept.discardBuffer (h : Kept s t) : Kept s (Machine.discardBuffer t) := by
  unfold Machine.discardBuffer
  split
  · exact h.bump.setSvc
  · exact h

theorem Kept.expireLatch (h : Kept s t) : Kept s (Machine.expireLatch t) := by
  unfold Machine.expireLatch
  split
  · exact .ite h.setSvc h
  · exact h

theorem Kept.expireBuffer (h : Kept s t) : Kept s (Machine.expireBuffer t) := by
  unfold Machine.expireBuffer
  split
  · exact .ite h.discardBuffer h
  · exact h

theorem Kept.expireMemory (h : Kept s t) : Kept s (Machine.expireMemory t) := by
  unfold Machine.expireMemory
  split
  · exact .ite h.setSvc h
  · exact h

theorem Kept.expireSegments (h : Kept s t) : Kept s (Machine.expireSegments t) := h.expireLatch.expireBuffer.expireMemory

theorem Kept.straySegment {key offset count : Nat} (h : Kept s t) : Kept s (Machine.straySegment key offset count t).2 := by
  unfold Machine.straySegment
  split
  · split
    · exact h.setSvc
    · exact h.discardBuffer
  · exact h.discardBuffer

theorem Kept.serveMessage {seq key op : Nat} {v : Val} {act : Action} (ha : ∀ {u : State}, Kept s u → Kept s (act u).2) (h : Kept s t) :
    Kept s (Machine.serveMessage seq key op v act t) := by
  unfold Machine.serveMessage
  dsimp only
  split
  · exact (ha h).replyWrite
  · exact h.replyWrite

theorem Kept.serveWhole {seq key op : Nat} {v : Val} {act : Action} (ha : ∀ {u : State}, Kept s u → Kept s (act u).2) (h : Kept s t) :
    Kept s (Machine.serveWhole seq key op v act t) :=
  .ite (.serveMessage ha h) (.ite h.expireSegments.replyWrite
    (.ite (.serveMessage ha h.expireSegments.setSvc) h.expireSegments.straySegment.replyWrite))

theorem Kept.hostWrite {x : Xfer} {key : Nat} {v : Val} {act : Action} (ha : ∀ {u : State}, Kept s u → Kept s (act u).2) (h : Kept s t) :
    Kept s (Machine.hostWrite x key v act t) :=
  .ite (.serveWhole ha h.advance) h.advance.holdTransfer

theorem Kept.hostPop {x : Xfer} {key : Nat} {value : State → Option Bytes} {pop : State → State} (hp : ∀ {u : State}, Kept s u → Kept s (pop u))
    (h : Kept s t) : Kept s (Machine.hostPop x key value pop t) := by
  refine .ite ?_ h.advance.holdTransfer
  split
  · exact hp h.advance.replyRead
  · exact h.advance.replyRead

/-! ### Enable objects (05 R172 to R178) -/

theorem Kept.recordCheck {key : Nat} {r : Reason} (h : Kept s t) : Kept s (Machine.recordCheck key r t) := h.setObj.setObj

theorem Kept.logEnable {key cause : Nat} {r : Reason} (h : Kept s t) : Kept s (Machine.logEnable key cause r t) := h.bump.setSvc

theorem Kept.unlist {key : Nat} (h : Kept s t) : Kept s (Machine.State.unlist t key) := h.setSvc

theorem Kept.shutDone {key : Nat} (h : Kept s t) : Kept s (Machine.shutDone key t) := .ite h.setSvc h.setObj

theorem Kept.setAsked {key : Nat} {v : Bool} (h : Kept s t) : Kept s (Machine.State.setAsked t key v) := .ite h h.setSvc.bump

theorem Kept.raiseResolved {key : Nat} {r : Reason} (h : Kept s t) : Kept s (Machine.raiseResolved key r t) := h.raise

theorem Kept.plainWrite {key : Nat} {v : Val} (h : Kept s t) : Kept s (Machine.plainWrite key v t).2 := by
  unfold Machine.plainWrite
  split
  · exact h.change
  · exact h.changeBlob

theorem Kept.onTime {f : TimeBase → TimeBase} (h : Kept s t) : Kept s (Machine.State.onTime t f) := h.setTime

theorem Kept.onServo {f : Servo → Servo} (h : Kept s t) : Kept s (Machine.State.onServo t f) := h.setTime

theorem Kept.setPtp {p : Nat} {x1 : PtpPort} (h : Kept s t) : Kept s (Machine.State.setPtp t p x1) := h.onTime

/-! ### The unit of network listen (02 R68) -/

theorem Kept.onNl {f : Listen → Listen} (h : Kept s t) : Kept s (Machine.State.onNl t f) := h.setNl

theorem Kept.nlRelease (h : Kept s t) : Kept s (Machine.nlRelease t) := .setObj (.ite h.setObj h)

theorem Kept.nlIdle (h : Kept s t) : Kept s (Machine.nlIdle t) := .ite h.setObj (.ite h.nlRelease.shutDone h.setObj)

theorem Kept.abandonGap (h : Kept s t) : Kept s (Machine.abandonGap t) := .ite h.setNl.nlIdle h

theorem Kept.refreshQualified (h : Kept s t) : Kept s (Machine.refreshQualified t) :=
  .foldl (fun _ _ h => .ite (.ite h h.onServo) h.onServo) h

theorem Kept.setCount {c : Nat} (h : Kept s t) : Kept s (Machine.State.setCount t c) := h.setClock

theorem Kept.stepCount {ps : Int} (h : Kept s t) : Kept s (Machine.stepCount ps t) := by
  unfold Machine.stepCount
  exact h.setCount.onNl.onTime

theorem Kept.captureUnit {count n : Nat} (h : Kept s t) : Kept s (Machine.captureUnit count n t) := .ite h.onTime h.bump

theorem Kept.capture {source : Nat} {falling : Bool} {count : Nat} (h : Kept s t) : Kept s (Machine.capture source falling count t) :=
  .foldl (fun _ _ h => .ite h.captureUnit h) h

/-! ### Pulse inputs (01 R24 to R31) -/

theorem Kept.onPulse {i : PulseInput} {f : PulseIn → PulseIn} (h : Kept s t) : Kept s (Machine.State.onPulse t i f) := by
  unfold Machine.State.onPulse
  split
  · exact h.onTime
  · exact h.onTime

theorem Kept.storm {i : PulseInput} (h : Kept s t) : Kept s (Machine.storm i t) := by
  unfold Machine.storm
  split
  · exact h.setObj.onPulse.raise
  · exact h.setObj.onPulse.raise

theorem Kept.stray {i : PulseInput} (h : Kept s t) : Kept s (Machine.stray i t) := .ite h.bump.onPulse.storm h.bump.onPulse

theorem Kept.expectedEdge {i : PulseInput} {count : Nat} (h : Kept s t) : Kept s (Machine.expectedEdge i count t) :=
  .ite h.onPulse.setObj h.onPulse

theorem Kept.labelEdge {e : PpsEdge} {second : Int} {utcOff : Option Int} {locked : Bool} (h : Kept s t) :
    Kept s (Machine.labelEdge e second utcOff locked t) :=
  .ite (.onServo (.onTime (.ite (.change (by
    split
    · exact .ite h.change h
    · exact h)) (by
        split
        · exact .ite h.change h
        · exact h)))) (.ite (.onTime (.ite (.change (by
            split
            · exact .ite h.change h
            · exact h)) (by
                split
                · exact .ite h.change h
                · exact h))) (.onServo (.onTime (.ite (.change (by
                    split
                    · exact .ite h.change h
                    · exact h)) (by
                        split
                        · exact .ite h.change h
                        · exact h)))))

theorem Kept.measureEdge (h : Kept s t) : Kept s (Machine.measureEdge t) := by
  unfold Machine.measureEdge
  split
  · split
    · exact .ite h.onTime.onServo h
    · exact h
  · exact h

theorem Kept.ppsToServo {count : Nat} {gap : Option Nat} (h : Kept s t) : Kept s (Machine.ppsToServo count gap t) :=
  .ite (by
    split
    · exact h.onTime.labelEdge
    · exact h.onTime.onTime) h.onTime.measureEdge

def EnableRules.Sound (e : EnableRules) : Prop := ∀ {s t : State}, Kept s t → Kept s (e.accept t) ∧ Kept s (e.stop t)

theorem Kept.settleEnable {e : EnableRules} (he : e.Sound) {r : Reason} (h : Kept s t) : Kept s (e.settle r t) :=
  .ite (he h.setObj).1 h.setObj

theorem Kept.handle {e : EnableRules} (he : e.Sound) {v : Int} (h : Kept s t) : Kept s (e.handle v t).2 := by
  unfold EnableRules.handle
  dsimp only
  repeat' split
  · exact (h.settleEnable he).recordCheck.logEnable
  · exact h
  · exact (he h.setObj).2
  · exact (he h.setObj).2.shutDone
  all_goals first | exact h | exact h.setObj | exact h.unlist.setObj

theorem Kept.write {e : EnableRules} (he : e.Sound) {v : Int} (h : Kept s t) : Kept s (e.write v t).2 := by
  unfold EnableRules.write
  dsimp only
  split
  · exact (h.handle he).setAsked
  · exact h.handle he

theorem Kept.resolveEnable {e : EnableRules} (he : e.Sound) {cause : Nat} (h : Kept s t) : Kept s (e.resolve cause t) :=
  (h.settleEnable he).unlist.recordCheck.logEnable.raiseResolved

theorem Kept.qualifyDfeSync {lowNs : Nat} (h : Kept s t) : Kept s (Machine.qualifyDfeSync lowNs t).1 := by
  unfold Machine.qualifyDfeSync
  extract_lets now refractory u v w
  have hu : Kept s u := h.onPulse
  have hv : Kept s v := hu.expectedEdge.capture
  have hw : Kept s w := .ite hv.stray hv
  clear_value u v w
  split
  · exact h
  · split
    · exact h
    · split
      · exact hw
      · split
        · exact hu.stray
        · exact hu

/-! ### The servo -/

theorem Kept.refreshStatus (h : Kept s t) : Kept s (Machine.refreshStatus t) := h.setObj

theorem Kept.moveDco (h : Kept s t) : Kept s (Machine.moveDco t) := .ite h.onServo h

theorem Kept.setFreq {fN : Int} (h : Kept s t) : Kept s (Machine.setFreq fN t) := h.setObj.moveDco

theorem Kept.actSteer {key : Nat} {v : Int} (h : Kept s t) : Kept s (Machine.actSteer key v t).2 := h.change.moveDco

theorem Kept.slewSecond (h : Kept s t) : Kept s (Machine.slewSecond t) := h.onServo

theorem Kept.enterAcquire {x0 : Source} (h : Kept s t) : Kept s (Machine.enterAcquire x0 t) := by
  unfold Machine.enterAcquire
  exact h.setObj.setObj.onServo

theorem Kept.leaveLocked (h : Kept s t) : Kept s (Machine.leaveLocked t) := .ite h.onServo h

theorem Kept.refreshBound (h : Kept s t) : Kept s (Machine.refreshBound t) := by
  unfold Machine.refreshBound
  split
  · exact .ite (.ite h.setObj.setObj.raise h.setObj) h
  · exact h

theorem Kept.holdFreq (h : Kept s t) : Kept s (Machine.holdFreq t) := by
  unfold Machine.holdFreq
  dsimp only
  split
  · exact .ite (by
      split
      · exact h.onServo
      · exact h.onServo.setFreq
      · exact h.onServo.setFreq.setFreeCtr) h
  · exact h

theorem Kept.enterHoldover {stopped : Bool} (h : Kept s t) : Kept s (Machine.enterHoldover stopped t) :=
  h.leaveLocked.onServo.setObj.setObj.raise.holdFreq.refreshBound

theorem Kept.authTest {x0 : Source} {recorded : Int} (h : Kept s t) : Kept s (Machine.authTest x0 recorded t) :=
  .ite h (.ite h.setObj.onServo (.ite h (.ite h.leaveLocked.enterAcquire.setObj.onServo h.setObj.onServo)))

theorem Kept.refuseSource {x0 : Source} {e : Int} (h : Kept s t) : Kept s (Machine.refuseSource x0 e t) :=
  h.setObj.setObj.onServo.raise.authTest

theorem Kept.endSlew {x0 : Source} {e : Int} (h : Kept s t) : Kept s (Machine.endSlew x0 e t) := h.onServo

theorem Kept.judgeSource {x0 : Source} (h : Kept s t) : Kept s (Machine.judgeSource x0 t) := by
  unfold Machine.judgeSource
  split
  · exact h
  · exact .ite h.onServo (.ite h.onServo.endSlew.onServo (.ite h.onServo.endSlew (.ite h.onServo.endSlew.refuseSource h.onServo.endSlew.onServo)))

theorem Kept.steer {e : Int} (h : Kept s t) : Kept s (Machine.steer e t) := by
  unfold Machine.steer
  exact h.onServo.setFreq.onServo

theorem Kept.lockStep (h : Kept s t) : Kept s (Machine.lockStep t) := .ite h.setObj.onServo h

theorem Kept.keepY (h : Kept s t) : Kept s (Machine.keepY t) := .ite h.onServo h

theorem Kept.skipMeasurement {e : Int} (h : Kept s t) : Kept s (Machine.skipMeasurement e t) := h.onServo

theorem Kept.initialSet (h : Kept s t) : Kept s (Machine.initialSet t) := by
  unfold Machine.initialSet
  dsimp only
  split
  · exact h.setObj.setObj
  · split
    · exact .ite h h.enterAcquire
    · exact .advance (.stepCount (.onServo (.setObj (.ite h h.enterAcquire))))

theorem Kept.disciplined (h : Kept s t) : Kept s (Machine.disciplined t) := by
  unfold Machine.disciplined
  dsimp only
  split
  · exact .ite (.enterHoldover (.foldl (fun _ _ h => h.judgeSource) h))
      (.refreshBound (.holdFreq (.setObj (.foldl (fun _ _ h => h.judgeSource) h))))
  · exact .keepY (by
      split
      · exact .ite (.lockStep (.steer (.ite (.foldl (fun _ _ h => h.judgeSource) h)
          (.ite (.setObj (.foldl (fun _ _ h => h.judgeSource) h)) (.enterAcquire (.foldl (fun _ _ h => h.judgeSource) h))))))
            (.skipMeasurement (.ite (.foldl (fun _ _ h => h.judgeSource) h)
              (.ite (.setObj (.foldl (fun _ _ h => h.judgeSource) h)) (.enterAcquire (.foldl (fun _ _ h => h.judgeSource) h)))))
      · exact .ite (.foldl (fun _ _ h => h.judgeSource) h) (.ite (.setObj (.foldl (fun _ _ h => h.judgeSource) h))
          (.enterAcquire (.foldl (fun _ _ h => h.judgeSource) h))))

theorem Kept.takeMeasurements (h : Kept s t) : Kept s (Machine.takeMeasurements t) := .ite h.onServo.setObj h.onServo

theorem Kept.nextInterval (h : Kept s t) : Kept s (Machine.nextInterval t) := h.onTime.setNl

theorem Kept.showError (h : Kept s t) : Kept s (Machine.showError t) := by
  unfold Machine.showError
  split
  · exact h.setObj
  · exact h

theorem Kept.servoStopped (h : Kept s t) : Kept s (Machine.servoStopped t) :=
  .shutDone (.ite (.ite h.enterHoldover h.setObj.refreshBound) h.setObj.setObj)

theorem Kept.servoUpdate (h : Kept s t) : Kept s (Machine.servoUpdate t) :=
  .showError (.refreshStatus (.nextInterval (.ite h.advanceTo.slewSecond.refreshQualified.servoStopped
    (.ite (.ite h.advanceTo.slewSecond.refreshQualified.takeMeasurements.disciplined
      h.advanceTo.slewSecond.refreshQualified.takeMeasurements.initialSet) h.advanceTo.slewSecond.refreshQualified.refreshBound))))

theorem Kept.actAuthMode {v : Int} (h : Kept s t) : Kept s (Machine.actAuthMode v t).2 := by
  unfold Machine.actAuthMode
  extract_lets a b u
  have hu : Kept s u := h.setObj.onServo
  clear_value u
  split
  · exact h
  · split
    · split
      · exact hu.authTest
      · exact hu
    · exact hu

theorem Kept.fireTrigger {n : Nat} {stepped : Bool} (h : Kept s t) : Kept s (Machine.fireTrigger n stepped t) :=
  .ite (.onTime (.setObj (by
    split
    · exact h.change
    · exact h))) (.setObj (by
        split
        · exact h.change
        · exact h))

theorem Kept.stepCounter {e : Int} (h : Kept s t) : Kept s (Machine.stepCounter e t) :=
  .abandonGap (.foldl (fun _ _ h => .ite h.fireTrigger h) h.stepCount)

theorem Kept.actTriggerTarget {n : Nat} {v : Int} (h : Kept s t) : Kept s (Machine.actTriggerTarget n v t).2 := by
  unfold Machine.actTriggerTarget
  split
  · exact h
  · exact h.change.setObj

theorem Kept.actLegacyMode {v : Int} (h : Kept s t) : Kept s (Machine.actLegacyMode v t).2 := h.change.setClock

/-! ### PTP and SyncE (01 R53 to R61) -/

theorem Kept.sendPtp {m : PtpSent} (h : Kept s t) : Kept s (Machine.sendPtp m t) := h.onTime.bump

theorem Kept.ptpOffset {p : Nat} {mean diff : Int} (h : Kept s t) : Kept s (Machine.ptpOffset p mean diff t) := h.onTime

theorem Kept.syncDone {p : Nat} {x1 : PtpPort} {ingress originPs corrPs : Int} (h : Kept s t) :
    Kept s (Machine.syncDone p x1 ingress originPs corrPs t) :=
  .ite h.setPtp.ptpOffset h.setPtp

theorem Kept.delayDone {p : Nat} {x1 : PtpPort} {receivePs corrPs : Int} (h : Kept s t) :
    Kept s (Machine.delayDone p x1 receivePs corrPs t) := by
  unfold Machine.delayDone
  split
  · exact h.setObj.setPtp.ptpOffset
  · exact h

theorem Kept.keepAnnounce {p : Nat} {a1 : Master} (h : Kept s t) : Kept s (Machine.keepAnnounce p a1 t) := by
  unfold Machine.keepAnnounce
  dsimp only
  split
  · exact .ite h.setPtp h
  · exact h.setPtp

theorem Kept.ptpHear {p : Nat} {hdr : PtpHead} {m : PtpMsg} (h : Kept s t) : Kept s (Machine.ptpHear p hdr m t) := by
  unfold Machine.ptpHear
  dsimp only
  split
  · exact .ite h (.ite h.setPtp h.syncDone)
  · split
    · exact .ite h.syncDone h
    · exact h
  · exact .ite h.delayDone h
  · exact .ite h.sendPtp h
  · exact .ite h.keepAnnounce h
  · exact .ite h.setPtp.sendPtp h
  · exact .ite h.setPtp h

theorem Kept.keepTx {p : Nat} {via : PtpOver} {m : PtpTx} (h : Kept s t) : Kept s (Machine.keepTx p via m t) := h.setPtp

theorem Kept.ptpLeave {p : Nat} {via : PtpOver} {m : PtpTx} (h : Kept s t) : Kept s (Machine.ptpLeave p via m t) := by
  unfold Machine.ptpLeave
  dsimp only
  split
  · exact .ite h h.setPtp.keepTx.sendPtp
  · exact .ite h (.ite h.keepTx.sendPtp h.free.setPtp.keepTx.sendPtp)
  · split
    · exact h.setPtp.sendPtp
    · exact h
  · exact .ite h h.keepTx.sendPtp
  · exact .ite h.sendPtp h
  · exact h
  · exact h

theorem Kept.squelch {out : Nat} (h : Kept s t) : Kept s (Machine.squelch out t) := h.setObj

theorem Kept.actOutLane {out : Nat} {v : Int} (h : Kept s t) : Kept s (Machine.actOutLane out v t).2 := h.change.squelch

theorem Kept.laneLost {lane : Nat} (h : Kept s t) : Kept s (Machine.laneLost lane t) := .foldl (fun _ _ h => .ite h.setObj h) h.onTime

theorem Kept.actServoChecked {key : Nat} {v : Int} (h : Kept s t) : Kept s (Machine.actServoChecked key v t).2 := by
  unfold Machine.actServoChecked
  dsimp only
  split
  · exact h
  · exact h.change

theorem Kept.actAirEpoch {v : Int} (h : Kept s t) : Kept s (Machine.actAirEpoch v t).2 := h.change.setClock

theorem Kept.onCourse {key : Nat} {f : Course → Course} (h : Kept s t) : Kept s (Machine.State.onCourse t key f) := by
  unfold Machine.State.onCourse
  split
  · exact (h.setPipe (by rfl))
  · exact h

theorem Kept.setOps {ops : Store Op} (h : Kept s t) : Kept s (Machine.State.setOps t ops) := h.setSched

theorem Kept.onOp {tag : Nat} {f : Op → Op} (h : Kept s t) : Kept s (Machine.State.onOp t tag f) := by
  unfold Machine.State.onOp
  split
  · exact h.setOps
  · exact h

theorem Kept.addTrace {r : Bytes} (h : Kept s t) : Kept s (Machine.addTrace r t) := .ite h.bump.setSched (.ite h.bump.setSched h.bump)

theorem Kept.traceOp {event tag : Nat} {o : Op} {status pallets tested : Nat} (h : Kept s t) :
    Kept s (Machine.traceOp event tag o status pallets tested t) :=
  .ite h.addTrace h

theorem Kept.causeAt {key status : Nat} {recs : List Nat} (h : Kept s t) : Kept s (Machine.causeAt key status recs t) := h.onCourse

/-! ### Kiln jobs and transport-block checkers (07 R248, R249) -/

theorem Kept.dropJob {tag : Nat} (h : Kept s t) : Kept s (Machine.State.dropJob t tag) := h.setKiln

theorem Kept.blockEnds {j : Job} {f : Checker → Checker} (h : Kept s t) : Kept s (Machine.State.blockEnds t j f) :=
  .ite h (by
    split
    · exact h.setKiln
    · exact h.setKiln)

theorem Kept.voidBlock {j : Job} (h : Kept s t) : Kept s (Machine.State.voidBlock t j) := .ite h h.setKiln

theorem Kept.dropKilnJob {tag : Nat} (h : Kept s t) : Kept s (Machine.dropKilnJob tag t) := by
  unfold Machine.dropKilnJob
  split
  · exact .voidBlock (.dropJob (.ite h h.bump))
  · exact h

theorem Kept.withdrawJob {tag : Nat} (h : Kept s t) : Kept s (Machine.withdrawJob t tag) := .ite h.bump.dropKilnJob h

theorem Kept.countExpiry {o : Op} {key : Nat} (h : Kept s t) : Kept s (Machine.countExpiry o key t) := h.bump.bump.causeAt.onCourse

theorem Kept.expireOp {tag : Nat} (h : Kept s t) : Kept s (Machine.expireOp tag t) := by
  unfold Machine.expireOp
  split
  · exact .ite h.dropKilnJob.countExpiry.onOp.traceOp h
  · exact h

theorem Kept.makeReady {tag : Nat} {o : Op} (h : Kept s t) : Kept s (Machine.makeReady tag o t) := h.onOp.traceOp

theorem Kept.settleOp {tag : Nat} (h : Kept s t) : Kept s (Machine.settleOp t tag) := by
  unfold Machine.settleOp
  split
  · exact .ite (.ite h.expireOp (.ite h.makeReady h)) (.ite h.expireOp h)
  · exact h

theorem Kept.settle (h : Kept s t) : Kept s (Machine.settle t) := .foldl (fun _ _ h => h.settleOp) h

theorem Kept.releaseOps (h : Kept s t) : Kept s (Machine.releaseOps t) := h.setOps

/-! ### Issue and re-issue (06 R198 to R200) -/

theorem Kept.issueNode {chan course gen : Nat} {lfs : Store Int} {x4 : Node} (h : Kept s t) :
    Kept s (Machine.issueNode chan course gen lfs t x4) :=
  h.setSched

theorem Kept.issueGraph {chan course gen : Nat} {nodes : List Node} {sel : OpId → Bool} (h : Kept s t) :
    Kept s (Machine.issueGraph chan course gen nodes sel t) :=
  .foldl (fun _ _ h => h.issueNode) h

theorem Kept.supersede {tag : Nat} (h : Kept s t) : Kept s (Machine.supersede t tag) := by
  unfold Machine.supersede
  split
  · exact .ite h.bump.traceOp.onOp h.bump.traceOp.withdrawJob.setOps
  · exact h

theorem Kept.supersedeOps {key : Nat} {sel : OpId → Bool} (h : Kept s t) : Kept s (Machine.supersedeOps key sel t) :=
  .foldl (fun _ _ h => h.supersede) h

theorem Kept.onUe {i : Nat} {f : Ue → Ue} (h : Kept s t) : Kept s (t.onUe i f) := h.setUes (Store.rising_put _ _ _)

theorem Kept.onHarq {ue proc : Nat} {f : Harq → Harq} (h : Kept s t) : Kept s (Machine.State.onHarq t ue proc f) := h.onUe

theorem Kept.sweepEntries (h : Kept s t) : Kept s (Machine.sweepEntries t) := h.setWb (Store.rising_filter _ _)

theorem Kept.sweepContexts (h : Kept s t) : Kept s (Machine.sweepContexts t) := h.setUes (Store.rising_filter _ _)

theorem Kept.retireBanks (h : Kept s t) : Kept s (Machine.retireBanks t) := by
  refine h.setWb (Store.rising_map fun e => ?_)
  dsimp only
  split
  · rfl
  · rfl

theorem Kept.freeBytes {n : Nat} (h : Kept s t) : Kept s (Machine.State.freeBytes t n).2 := h.setFreeCtr

/-! ### Results (06 Tables 6-11 to 6-16) -/

theorem Kept.uciResult {u : UlResult} {ue fmt : Nat} {id status : Nat} {harq sr : Nat} {csi1 csi2 : Nat} (h : Kept s t) :
    Kept s (Machine.uciResult t u ue fmt id status harq sr csi1 csi2).2 := by
  unfold Machine.uciResult
  split
  · exact h.freeBytes.freeBytes.freeBytes
  · exact h.freeBytes.freeBytes.freeBytes

theorem Kept.puschResult {key : Nat} {c : Course} {r : Rec} (h : Kept s t) : Kept s (Machine.puschResult t key c r).2 := by
  unfold Machine.puschResult
  extract_lets n sg u pass tb dtx meas m evm flags main x
  have hm : Kept s meas.2 := h.freeBytes.freeBytes
  have hx : Kept s x.2 := hm.uciResult
  clear_value x main meas
  split
  · exact hm
  · exact hx

theorem Kept.prachResult {c : Course} {r : Rec} (h : Kept s t) : Kept s (Machine.prachResult t c r).2 := h.freeBytes

theorem Kept.srsResult {c : Course} {r : Rec} (h : Kept s t) : Kept s (Machine.srsResult t c r).2 := h.freeBytes.freeBytes

theorem Kept.recResult {key : Nat} {c : Course} {r : Rec} (h : Kept s t) : Kept s (Machine.recResult t key c r).2 := by
  unfold Machine.recResult
  split
  · exact h.puschResult
  · exact h.uciResult
  · exact h.prachResult
  · exact h.srsResult
  · exact h

theorem Kept.outcomeBody {key : Nat} {c : Course} (h : Kept s t) : Kept s (Machine.outcomeBody t key c).2 := by
  unfold Machine.outcomeBody
  dsimp only
  split
  · exact h
  · exact .foldl_snd (fun _ _ h => h.recResult) h

/-! ### Journalling -/

theorem Kept.onChan {c : Nat} {f : Channel → Channel} (h : Kept s t) : Kept s (Machine.State.onChan t c f) := h.setLink

theorem Kept.askOutcome {key : Nat} (h : Kept s t) : Kept s (Machine.askOutcome key t) := .ite h h.setLink

theorem Kept.askOutcomes (h : Kept s t) : Kept s (Machine.askOutcomes t) := .foldl (fun _ _ h => h.askOutcome) h

theorem Kept.commitRec {key : Nat} {c : Course} {r : Rec} (h : Kept s t) : Kept s (Machine.commitRec key c t r) :=
  .ite h (.onCourse (.ite h.onHarq (.ite (by
    split
    · exact .ite h.onHarq.bump h.onHarq.bump
    · exact h) h)))

theorem Kept.clearSoft {key : Nat} (h : Kept s t) : Kept s (Machine.clearSoft key t) := h.onCourse

theorem Kept.learnRec {c : Course} {r : Rec} (h : Kept s t) : Kept s (Machine.learnRec c t r) := by
  unfold Machine.learnRec
  dsimp only
  split
  · exact .ite h h.onUe
  · exact h

theorem Kept.countOutcome {n result withheld : Nat} (h : Kept s t) : Kept s (Machine.countOutcome n result withheld t) := by
  unfold Machine.countOutcome
  split
  · exact h.bump.bump
  · exact h.bump.bump
  · exact h.bump.bump

theorem Kept.dropOps {key : Nat} (h : Kept s t) : Kept s (Machine.dropOps key t) := .setOps (.foldl (fun _ _ h => h.withdrawJob) h)

theorem Kept.journalOutcome {key : Nat} (h : Kept s t) : Kept s (Machine.journalOutcome key t) := by
  unfold Machine.journalOutcome
  split
  · exact h
  next c _ =>
    extract_lets result body o u v w x
    have hb : Kept s body.2 := h.outcomeBody
    have hu : Kept s u := .clearSoft (.foldl (fun _ _ h => h.commitRec) (.foldl (fun _ _ h => h.learnRec) hb.dropOps))
    have hw : Kept s w := hu.countOutcome.onCourse
    have hx : Kept s x := .ite hw.onCourse hw.onChan
    exact .settle (.retireBanks (.sweepContexts (.sweepEntries hx)))

theorem Kept.onGuard {f : Guard → Guard} (h : Kept s t) : Kept s (Machine.State.onGuard t f) := h.setGuard

theorem Kept.setCause {bit : Nat} (h : Kept s t) : Kept s (Machine.setCause bit t) := h.setObj

/-! ### Mutes (17 R560, R561, R566) -/

theorem Kept.showMutes (h : Kept s t) : Kept s (Machine.showMutes t) := h.setObj.setObj.setBlob.setObj

theorem Kept.muteRecord {cause scope : Nat} {unit event ats : Nat} {measure : Int} (h : Kept s t) :
    Kept s (Machine.muteRecord cause scope unit event ats measure t) := by
  unfold Machine.muteRecord
  exact h.bump.onGuard

theorem Kept.setGate {g : Nat} {active : Bool} (h : Kept s t) : Kept s (Machine.setGate g active t) := .ite h h.setObj.bump.capture

theorem Kept.gatesOff (h : Kept s t) : Kept s (Machine.gatesOff t) := .foldl (fun _ _ h => .ite h.setGate h) h

theorem Kept.addToMute {cause : Nat} {measure : Int} {m : Mute} (h : Kept s t) : Kept s (Machine.addToMute cause measure m t) :=
  .ite h.onGuard.muteRecord h.onGuard

theorem Kept.completeMute {m : Mute} (h : Kept s t) : Kept s (Machine.completeMute m t) :=
  .setCause (.raise (.foldl (fun _ _ h => h.muteRecord) h.onGuard))

theorem Kept.detect {cause scope unit : Nat} {measure : Int} (h : Kept s t) : Kept s (Machine.detect cause scope unit measure t) := by
  unfold Machine.detect
  split
  · exact h.addToMute
  · exact .gatesOff (.showMutes (.onGuard (.foldl (fun _ _ h => h.completeMute) h)))

theorem Kept.caughtBeforeUse {entry : Nat} (h : Kept s t) : Kept s (Machine.caughtBeforeUse entry t) := h.bump.bump.muteRecord

/-! ### Spares (17 R569, R572, R573) -/

theorem Kept.spareEngaged {word spare : Nat} {left cause : Nat} (h : Kept s t) : Kept s (Machine.spareEngaged word spare left cause t) :=
  .ite h.raise.setCause h.raise

theorem Kept.spareGone {key : Nat} (h : Kept s t) : Kept s (Machine.spareGone key t) := .ite h.setCause h

theorem Kept.unitLost {word left cause : Nat} (h : Kept s t) : Kept s (Machine.unitLost word left cause t) := h.raise.onGuard.setCause

def EngineClass.Sound (e : EngineClass) : Prop :=
  ∀ {s t : State} {n : Nat} {b : Bool}, Kept s t → Kept s (e.setServ n b t) ∧ Kept s (e.setBad n b t)

theorem Kept.setPairBit {lo hi n : Nat} {b : Bool} (h : Kept s t) : Kept s (Machine.setPairBit lo hi n b t) := .ite h.setObj h.setObj

/-! ### Operations that run again, or acknowledge a cancel (13 R448, R451) -/

theorem Kept.partsDone (h : Kept s t) : Kept s (Machine.partsDone t) := .foldl (fun _ _ h => .ite h.shutDone h) h

theorem Kept.resettle (h : Kept s t) : Kept s (Machine.resettle t) := h.settle.releaseOps.askOutcomes.partsDone

theorem Kept.ackCancel {tag : Nat} (h : Kept s t) : Kept s (Machine.ackCancel tag t) := by
  unfold Machine.ackCancel
  dsimp only
  split
  · exact .ite h.dropJob.setOps h.dropJob.onOp.resettle
  · exact h.dropJob

theorem Kept.rerunOp {tag : Nat} (h : Kept s t) : Kept s (Machine.rerunOp t tag) := by
  unfold Machine.rerunOp
  split
  · exact .ite h.ackCancel h.bump.dropJob.traceOp.onCourse.makeReady
  · exact h

theorem Kept.rerunUnit {cls unit : Nat} (h : Kept s t) : Kept s (Machine.rerunUnit cls unit t) := .foldl (fun _ _ h => h.rerunOp) h

theorem Kept.moveFused {cls unit : Nat} (h : Kept s t) : Kept s (Machine.moveFused cls unit t) := by
  unfold Machine.moveFused
  split
  · exact h.setOps
  · exact h

theorem engineClassOf_sound (cls : Nat) : (engineClassOf cls).Sound := by
  intro s t n b h
  unfold engineClassOf
  split
  · exact ⟨h.setPairBit, h.setPairBit⟩
  · exact ⟨h.setObj, h.setObj⟩
  · exact ⟨h.setObj, h.setObj⟩
  · exact ⟨h.setUnits, h.setUnits⟩

theorem kdClass_sound : kdClass.Sound := engineClassOf_sound 1

theorem keClass_sound : keClass.Sound := engineClassOf_sound 2

theorem leClass_sound : leClass.Sound := engineClassOf_sound 3

theorem xeClass_sound : xeClass.Sound := engineClassOf_sound 4

theorem Kept.faultUnit {e : EngineClass} (he : e.Sound) {n cause : Nat} (h : Kept s t) : Kept s (e.fault n cause t) := by
  unfold EngineClass.fault
  dsimp only
  split
  · exact (he (he (he h).1).2).1.setObj.spareEngaged
  · exact (he (he h).1).2.unitLost

theorem Kept.failed {e : EngineClass} (he : e.Sound) {n cause : Nat} (h : Kept s t) : Kept s (e.failed n cause t) :=
  .ite (h.faultUnit he).rerunUnit.moveFused h

/-! ### Weight-bank entries (08 R287 to R291) -/

theorem Kept.onWb {i : Nat} {f : WbEntry → WbEntry} (h : Kept s t) : Kept s (t.onWb i f) := by
  unfold State.onWb
  split
  · exact h.setWb (Store.rising_put _ _ _)
  · exact h

theorem Kept.actWbDefine {v : Int} (h : Kept s t) : Kept s (Machine.actWbDefine v t).2 := by
  unfold Machine.actWbDefine
  extract_lets n i own
  split
  · split
    · exact h
    · split
      · exact h
      · split
        · exact h
        · exact h.setWb (Store.rising_put _ _ _)
  · exact h.onWb.sweepEntries

theorem Kept.writeBack {i band : Nat} {data : Bytes} (h : Kept s t) : Kept s (Machine.writeBack i band data t) := by
  unfold Machine.writeBack
  split
  · exact .ite h.onWb.bump h.onWb
  · exact h

theorem Kept.actWbWeights {data : Bytes} (h : Kept s t) : Kept s (Machine.actWbWeights data t).2 := by
  unfold Machine.actWbWeights
  repeat' split
  · exact h
  · exact h
  · exact h
  · exact h
  · exact h
  · exact h.writeBack

theorem Kept.actWbCommit (h : Kept s t) : Kept s (Machine.actWbCommit t).2 := by
  unfold Machine.actWbCommit
  split
  · exact h
  · split
    · exact h
    · exact h.onWb

theorem Kept.staleBank {entry cause : Nat} {e : WbEntry} {next : Int} (h : Kept s t) : Kept s (Machine.staleBank entry cause e next t) :=
  h.raise

/-! ### Transforms (06 R188) -/

theorem Kept.countLayer {o : Op} {saturated detections : Nat} (h : Kept s t) : Kept s (Machine.countLayer o saturated detections t) := by
  unfold Machine.countLayer
  split
  · exact h.bump
  · exact h.bump
  · exact h.bump.bump
  · exact h

theorem Kept.layerDone {tag : Nat} {o : Op} (h : Kept s t) : Kept s (Machine.layerDone tag o t) := by
  unfold Machine.layerDone
  split
  · exact h
  · split
    · exact h
    · exact .ite h.countLayer.onOp.onCourse h.countLayer.onOp

theorem Kept.layerEnd {tag : Nat} {o : Op} (h : Kept s t) : Kept s (Machine.layerEnd tag o t) :=
  .ite h.bump.bump.ackCancel (.ite (.onOp (.layerDone (.foldl (fun _ _ h => h.caughtBeforeUse) h.bump)))
    (.onOp (.foldl (fun _ _ h => h.caughtBeforeUse) h.bump)))

theorem Kept.onJob {i slot : Nat} {f : FusedJob → FusedJob} (h : Kept s t) : Kept s (Machine.State.onJob t i slot f) := by
  unfold Machine.State.onJob
  split
  · split
    · exact h.setTiles
    · exact h
  · exact h

theorem Kept.fusedEnd {i slot word : Nat} {j : FusedJob} (h : Kept s t) : Kept s (Machine.fusedEnd i slot word j t) :=
  .ite (.bump (.onJob (.ite h.bump h))) h.onJob

theorem Kept.fusedCancel {i slot : Nat} {j : FusedJob} (h : Kept s t) : Kept s (Machine.fusedCancel i slot j t) :=
  .ite h.onJob.bump (by
    split
    · exact h.setTiles.bump
    · exact h)

theorem Kept.layerFault {n cause : Nat} (h : Kept s t) : Kept s (Machine.layerFault n cause t) :=
  .ite (.foldl (fun _ _ h => h.onJob) (.failed leClass_sound h.bump.bump)) h

theorem Kept.writeLoading {key : Nat} {c : Course} (h : Kept s t) : Kept s (Machine.writeLoading key c t) := h.setBlob.bump

theorem Kept.endCourse {key : Nat} (h : Kept s t) : Kept s (Machine.endCourse key t) := by
  unfold Machine.endCourse
  split
  · exact .ite h (.retireBanks (.ite h.onCourse.writeLoading h.onCourse))
  · exact h

theorem Kept.onKiln {tag : Nat} {f : Job → Job} (h : Kept s t) : Kept s (Machine.State.onKiln t tag f) := by
  unfold Machine.State.onKiln
  split
  · exact h.setKiln
  · exact h

theorem Kept.writeVersion {places : List Nat} {off : Nat} {b : Bytes} (h : Kept s t) : Kept s (t.writeVersion places off b) :=
  h.setMem memPutAll_wf

theorem Kept.dropVersion {ue proc : Nat} {cause course gen : Nat} (h : Kept s t) :
    Kept s (Machine.dropVersion ue proc cause course gen t) := by
  unfold Machine.dropVersion
  split
  · exact h.onHarq.raiseFor
  · exact h

/-! ### Feeds (07 R242 to R247) -/

theorem Kept.restartJob {tag : Nat} (h : Kept s t) : Kept s (Machine.restartJob tag t) := h.onKiln

theorem Kept.askRestart {tag : Nat} (h : Kept s t) : Kept s (Machine.askRestart tag t) := by
  unfold Machine.askRestart
  split
  · exact .ite (by
      split
      · exact .ite h.makeReady h
      · exact h.restartJob.bump) h
  · exact h

theorem Kept.readLlrs {tag : Nat} (h : Kept s t) : Kept s (Machine.readLlrs tag t) := h.onKiln

theorem Kept.feedKiln {tag arrived : Nat} (h : Kept s t) : Kept s (Machine.feedKiln tag arrived t) := by
  unfold Machine.feedKiln
  split
  · exact .ite h.bump h.onKiln.readLlrs.askRestart
  · exact h.bump

/-! ### Attempts (07 R240, R241, R251, R252) -/

theorem Kept.countJob {kind status : Nat} (h : Kept s t) : Kept s (Machine.countJob kind status t) := by
  unfold Machine.countJob
  dsimp only
  split
  · exact .ite (.ite h.bump h.bump) (.bump (.ite h.bump h.bump))
  · exact .ite (.ite h.bump h.bump) (.bump (.ite h.bump h.bump))
  · exact .bump (.ite h.bump h.bump)
  · exact .bump (.ite h.bump h.bump)
  · exact .bump (.ite h.bump h.bump)

theorem Kept.jobDone {tag status : Nat} {j : Job} (h : Kept s t) : Kept s (Machine.jobDone tag status j t) := by
  unfold Machine.jobDone
  dsimp only
  split
  · exact h.onKiln.countJob.onOp
  · split
    · exact h.onKiln.countJob.setKiln.onJob.fusedEnd
    · exact h.onKiln.countJob

theorem Kept.jobPass {tag : Nat} {j : Job} (h : Kept s t) : Kept s (Machine.jobPass tag j t) :=
  .jobDone (.ite h.blockEnds.bump h.blockEnds)

theorem Kept.jobFail {tag : Nat} {j : Job} (h : Kept s t) : Kept s (Machine.jobFail tag j t) :=
  .jobDone (.ite h.blockEnds.bump h.blockEnds)

theorem Kept.jobSuspend {tag : Nat} {j : Job} (h : Kept s t) : Kept s (Machine.jobSuspend tag j t) := by
  have hm : Kept s { t with mem := memWrite t.mem (t.scratchAddr tag) (j.dec.scratch j.kind j.e) } := h.setMem memWrite_wf
  unfold Machine.jobSuspend
  dsimp only
  split
  · exact hm.onKiln.readLlrs.onOp.traceOp.askRestart
  · exact hm.onKiln.readLlrs.askRestart

theorem Kept.loseVersion {tag : Nat} (h : Kept s t) : Kept s (Machine.loseVersion tag t) :=
  .onKiln (by
    split
    · split
      · exact h.dropVersion
      · exact h
    · split
      · split
        · exact h.dropVersion
        · exact h
      · exact h)

theorem Kept.cancelJob {tag : Nat} (h : Kept s t) : Kept s (Machine.cancelJob tag t) := by
  unfold Machine.cancelJob
  dsimp only
  split
  · split
    · exact h.bump.dropKilnJob.ackCancel
    · split
      · exact h.bump.dropKilnJob.fusedCancel
      · exact h.bump.dropKilnJob
  · split
    · exact h.bump.ackCancel
    · split
      · exact h.bump.fusedCancel
      · exact h

theorem Kept.attemptEnd {tag : Nat} {b : Boundary} (h : Kept s t) : Kept s (Machine.attemptEnd tag b t) := by
  unfold Machine.attemptEnd
  dsimp only
  split
  · exact h
  · exact .ite h (.ite h.cancelJob (.ite (.jobDone (.blockEnds (.ite h h.bump))) (by
      split
      · exact .onKiln (.ite (.bump (.ite h.loseVersion h)) (.ite h.loseVersion h))
      · exact .jobPass (.ite (.ite (.bump (.ite h.loseVersion h)) (.ite h.loseVersion h))
          (.bump (.ite (.bump (.ite h.loseVersion h)) (.ite h.loseVersion h))))
      · exact .jobFail (.ite (.ite (.bump (.ite h.loseVersion h)) (.ite h.loseVersion h))
          (.bump (.ite (.bump (.ite h.loseVersion h)) (.ite h.loseVersion h))))
      · exact .jobSuspend (.ite (.bump (.ite h.loseVersion h)) (.ite h.loseVersion h)))))

theorem Kept.faultJob {cls tag : Nat} (h : Kept s t) : Kept s (Machine.faultJob cls t tag) :=
  .ite h.bump.bump (by
    split
    · exact .countJob (.ite h h.bump)
    · exact h)

theorem Kept.kilnFault {e : EngineClass} (he : e.Sound) {n cause : Nat} (h : Kept s t) : Kept s (Machine.kilnFault e n cause t) :=
  .ite (.foldl (fun _ _ h => h.onKiln) (.failed he (.foldl (fun _ _ h => h.faultJob) h))) h

theorem Kept.failReserve {tag code k : Nat} (h : Kept s t) : Kept s (Machine.failReserve tag code k t) := by
  unfold Machine.failReserve
  split
  · exact h
  · exact .ite h.bump.traceOp.bump.setSched h.bump.traceOp

theorem Kept.decision {unit k : Nat} {l : List (Nat × Op)} (h : Kept s t) : Kept s (Machine.decision unit k l t).1 := by
  induction l generalizing k t with
  | nil => exact h
  | cons e l ih =>
    unfold Machine.decision
    split
    · exact h
    · exact ih h.failReserve

theorem Kept.beginFetch {tag : Nat} {o : Op} (h : Kept s t) : Kept s (Machine.beginFetch tag o t) := .setHod (h.setMem memWrite_wf)

theorem Kept.beginOn {tag : Nat} {o : Op} (h : Kept s t) : Kept s (Machine.beginOn tag o t) :=
  .ite (by
    split
    · exact h.bump.bump.restartJob.traceOp
    · split
      · exact .ite h.setKiln.blockEnds.jobDone h.setKiln
      · exact h) (.ite h.beginFetch h)

theorem Kept.dispatchOp {tag unit tested : Nat} {o : Op} {r : Reserved} (h : Kept s t) :
    Kept s (Machine.dispatchOp tag unit tested o r t) := by
  unfold Machine.dispatchOp
  dsimp only
  have h1 : ∀ {u : State} {c : Prop} [Decidable c] {x : Sched}, Kept s u → Kept s (if c then { u with sched := x } else u) :=
    fun h => .ite h.setSched h
  have h2 : ∀ {u : State} {c : Prop} [Decidable c] {x : Sched}, Kept s u → Kept s (if c then u else { u with sched := x }) :=
    fun h => .ite h h.setSched
  exact .ite (.traceOp (h2 (h1 h.bump.onOp))) (.traceOp (.beginOn (.traceOp (h2 (h1 h.bump.onOp)))))

/-! ### Publication (13 R447) -/

theorem Kept.writeBlock {places : List Nat} {j : Job} (h : Kept s t) : Kept s (Machine.writeBlock places j t) :=
  .ite h.writeVersion.writeVersion h.writeVersion

theorem Kept.newTable {places : List Nat} {c : Nat} {passed : List Nat} (h : Kept s t) : Kept s (Machine.newTable places c passed t) :=
  h.writeVersion

theorem Kept.publishDec {tag : Nat} {o : Op} (h : Kept s t) : Kept s (Machine.publishDec tag o t) := by
  unfold Machine.publishDec
  dsimp only
  split
  · split
    · exact h.dropJob.onCourse.onHarq.newTable.writeBlock
    · exact .ite h.dropJob.onCourse.bump h.dropJob.onCourse
    · exact h.dropJob.onCourse.writeBlock
    · exact h.dropJob.onCourse
  · exact h.dropJob

theorem Kept.publishFound {o : Op} {x1 : Option Found} (h : Kept s t) : Kept s (Machine.publishFound o x1 t) := by
  unfold Machine.publishFound
  split
  · exact h.onCourse
  · exact h

theorem Kept.publishSrs {o : Op} (h : Kept s t) : Kept s (Machine.publishSrs o t) := by
  unfold Machine.publishSrs
  split
  · exact .ite h (by
      split
      · exact .onCourse (.bump (.onWb (.foldl (fun _ _ h => h.writeBack) h)))
      · exact h.bump)
  · exact h

theorem Kept.publishDemod {o : Op} (h : Kept s t) : Kept s (Machine.publishDemod o t) := by
  unfold Machine.publishDemod
  split
  · exact .ite h.publishFound h
  · exact h

theorem Kept.publishUci {tag : Nat} {o : Op} (h : Kept s t) : Kept s (Machine.publishUci tag o t) := by
  unfold Machine.publishUci
  split
  · exact h.dropJob.onCourse
  · exact h.dropJob

theorem Kept.publishKind {tag : Nat} {o : Op} (h : Kept s t) : Kept s (Machine.publishKind tag o t) :=
  .ite h.bump (by
    split
    · exact h.publishDec
    · exact h.publishFound.publishSrs
    · exact h.publishDemod
    · exact h.publishFound
    · exact h.publishFound
    · exact h.publishFound
    · exact h.publishUci
    · exact h.dropJob)

theorem Kept.encodeEnd {tag : Nat} {how : TaskEnd} {o : Op} (h : Kept s t) : Kept s (Machine.encodeEnd tag how o t) :=
  .onOp (.ite h.bump.bump (.ite h.bump.bump h.bump))

theorem Kept.endOp {tag : Nat} {how : TaskEnd} {o : Op} (h : Kept s t) : Kept s (Machine.endOp tag how o t) := by
  unfold Machine.endOp
  extract_lets u data valid v w kiln data' valid' x
  have hu : Kept s u := h.traceOp
  have hm {l : List Host.Cell} : Kept s { u with mem := memPutAll l u.mem } := hu.setMem memPutAll_wf
  have hw : Kept s w := hm.publishKind.onOp
  have hx : Kept s x := hm.dropJob
  clear_value w x u
  split
  · exact .ite hu.cancelJob (.ackCancel (.ite hu.bump hu))
  · split
    · refine .resettle ?_
      split
      · exact hw.traceOp
      · exact hw
    · exact hu.onOp.causeAt.resettle
    · exact hx.onOp.causeAt.resettle
    · exact hu.rerunOp
    · exact hu.ackCancel

theorem Kept.cancelAtLf {tag : Nat} {o : Op} (h : Kept s t) : Kept s (Machine.cancelAtLf tag o t) :=
  .ite (.resettle (.onOp (.ite h.countExpiry.traceOp.setSched h.countExpiry.traceOp)))
    (.ite h.countExpiry.traceOp.onOp.resettle (.ite h.countExpiry.traceOp.onOp.setHod h.countExpiry.traceOp.onOp))

theorem Kept.abandonCopies {i : Nat} (h : Kept s t) : Kept s (Machine.abandonCopies i t) := h.setSched.bump

theorem Kept.tracePop (h : Kept s t) : Kept s (Machine.tracePop t) := h.setSched

theorem Kept.touchCache {ue : Nat} (h : Kept s t) : Kept s (Machine.touchCache t ue) :=
  .ite (h.setPipe (by rfl)) (h.setPipe (by rfl)).bump

theorem Kept.reserveSoft {key : Nat} {needs : List (Nat × Nat)} (h : Kept s t) : Kept s (Machine.reserveSoft key needs t) :=
  .foldl (fun _ _ h => by
  split
  · exact .ite h.onCourse h
  · exact h) h

theorem Kept.storeData {places : List (Nat × Nat)} {r : Request} (h : Kept s t) : Kept s (Machine.storeData places r t) :=
  h.setMem (memory_foldl_wf fun _ _ => memWrite_wf)

/-! ### Acceptance -/

theorem Kept.acceptTentative {k : Claim} {outSeq : Nat} {a2 : Asked} {d : Desc} (h : Kept s t) :
    Kept s (Machine.acceptTentative k outSeq a2 d t) :=
  .resettle (.issueGraph (.reserveSoft (.setPipe (.foldl (fun _ _ h => h.touchCache) h.storeData) (by rfl))))

theorem Kept.acceptRevise {k : Claim} {a1 : Asked} {c : Course} {d : Desc} (h : Kept s t) : Kept s (Machine.acceptRevise k a1 c d t) :=
  .resettle (.issueGraph (.bump (.sweepEntries (.reserveSoft (.onCourse (.foldl (fun _ _ h => h.touchCache) h.supersedeOps.storeData))))))

theorem Kept.bindCourse {key : Nat} {host : Bool} (h : Kept s t) : Kept s (Machine.bindCourse key host t) := h.onCourse.releaseOps

theorem Kept.cancelCourse {key : Nat} (h : Kept s t) : Kept s (Machine.cancelCourse key t) := h.endCourse.onCourse.dropOps.askOutcome

theorem Kept.acceptRequest {k : Claim} {outSeq : Nat} {a2 : Asked} (h : Kept s t) : Kept s (Machine.acceptRequest k outSeq a2 t) := by
  unfold Machine.acceptRequest
  split
  · exact h.acceptTentative
  · exact h.acceptRevise
  · exact .ite h.bindCourse h
  · exact h.cancelCourse
  · exact h

theorem Kept.handled (h : Kept s t) : Kept s (Machine.State.handled t) :=
  .setLink (.foldl (fun _ _ h => .foldl (fun _ _ h => h.acceptRequest) h) h)

theorem Kept.countRefused {a : Asked} (h : Kept s t) : Kept s (Machine.countRefused a t) := .ite h.onCourse h.onChan

theorem Kept.countRefusal {a : Asked} {r : Reason} (h : Kept s t) : Kept s (Machine.countRefusal a r t) :=
  .ite (.countRefused (.ite (.bump (.ite (.bump (.ite h.bump h)) (.ite h.bump h))) (.ite (.bump (.ite h.bump h)) (.ite h.bump h))))
    (.ite (.bump (.ite h.bump h)) (.ite h.bump h))

theorem Kept.completeRequest {r : Request} (h : Kept s t) : Kept s (Machine.completeRequest r t) :=
  .setLink (.ite h.onChan.onChan h.onChan.countRefusal)

theorem Kept.sendVerdict {chan : Nat} {v : Verdict} {replay : Bool} (h : Kept s t) : Kept s (Machine.sendVerdict chan v replay t) := by
  unfold Machine.sendVerdict
  dsimp only
  split
  · exact h.onChan.send.acceptRequest
  · exact h.onChan.send

/-! ### Arrival (04 R119, R125, R128, R145) -/

theorem Kept.discard {chan length : Nat} (h : Kept s t) : Kept s (Machine.discard chan length t) := .ite h.bump.onChan h.bump

theorem Kept.courseArrival {hdr : CourseHdr} {length : Nat} {act : State → State} (ha : ∀ {u : State}, Kept s u → Kept s (act u)) (h :
    Kept s t) :
    Kept s (Machine.courseArrival hdr length act t) :=
  .ite h.advance.discard (.ite h.advance.onChan (ha h.advance))

theorem Kept.duplicate {hdr : CourseHdr} (h : Kept s t) : Kept s (Machine.duplicate hdr t) := h.bump.onChan

theorem Kept.refuseSequence {type : Nat} {hdr : CourseHdr} (h : Kept s t) : Kept s (Machine.refuseSequence type hdr t) :=
  h.bump.onChan.send

theorem Kept.courseMessage {type : Nat} {hdr : CourseHdr} {tbBytes : Nat} {desc : Bytes} (h : Kept s t) :
    Kept s (Machine.courseMessage type hdr tbBytes desc t) :=
  .ite h.duplicate (.ite h.onChan.refuseSequence (.ite h.onChan.completeRequest h.onChan.onChan))

theorem Kept.tbData {hdr : CourseHdr} {handle offset : Nat} {data : Bytes} (h : Kept s t) :
    Kept s (Machine.tbData hdr handle offset data t) :=
  .ite h.duplicate (by
    split
    · exact .ite (.ite h.onChan.completeRequest h.onChan.onChan) h.onChan.discard
    · exact h.onChan.discard)

/-! ### The life of a course (03 R107, R112) -/

theorem Kept.onChain {c : Nat} {f : DfeChain → DfeChain} (h : Kept s t) : Kept s (Machine.State.onChain t c f) := h.setDfe

theorem Kept.clearFilters {c : Nat} (h : Kept s t) : Kept s (Machine.clearFilters c t) := h.onChain

theorem Kept.nlAccept (h : Kept s t) : Kept s (Machine.nlAccept t) := h.setObj.setObj.clearFilters

theorem Kept.gapOpen (h : Kept s t) : Kept s (Machine.gapOpen t) :=
  .ite (by
    split
    · exact h.advanceToAir.setObj.onNl
    · exact h) h

theorem Kept.takeChains {n : Nat} (h : Kept s t) : Kept s (Machine.takeChains n t) := .foldl (fun _ _ h => h.setObj.clearFilters) h

theorem Kept.releaseChains {n : Nat} (h : Kept s t) : Kept s (Machine.releaseChains n t) :=
  .setDfe (.foldl (fun _ _ h => .foldl (fun _ _ h => h.setObj) h) h)

/-! ### Coefficient banks (10 R341 to R343) -/

theorem Kept.onPath {c : Nat} {p : Sys2Proof.Path} {f : CoefPath → CoefPath} (h : Kept s t) : Kept s (Machine.State.onPath t c p f) :=
  h.onChain

theorem Kept.applyTaps {c : Nat} {p : Sys2Proof.Path} {w : Option Bytes} (h : Kept s t) : Kept s (Machine.applyTaps c p w t) := by
  unfold Machine.applyTaps
  split
  · exact h.changeBlob.onPath
  · exact .ite (.ite h.onPath h.onPath) h

theorem Kept.reachTaps {c : Nat} {p : Sys2Proof.Path} {w : Option Bytes} (h : Kept s t) : Kept s (Machine.reachTaps c p w t) :=
  .ite h.onPath h.applyTaps

theorem Kept.actTaps {c : Nat} {p : Sys2Proof.Path} {b : Bytes} (h : Kept s t) : Kept s (Machine.actTaps c p b t).2 := by
  unfold Machine.actTaps
  repeat' split
  · exact h
  · exact h
  · exact h
  · exact h.reachTaps

theorem Kept.actTapsCommit {c : Nat} {p : Sys2Proof.Path} (h : Kept s t) : Kept s (Machine.actTapsCommit c p t).2 := h.reachTaps

theorem Kept.staleTaps {c : Nat} {p : Sys2Proof.Path} {cause : Nat} {b next : Int} (h : Kept s t) :
    Kept s (Machine.staleTaps c p cause b next t) :=
  h.raise

theorem Kept.decidePath {c : Nat} {b next : Int} {p : Sys2Proof.Path} (h : Kept s t) : Kept s (Machine.decidePath c b next p t) := by
  unfold Machine.decidePath
  split
  · exact h.onPath
  · exact h.staleTaps
  · exact .ite h.staleTaps h

theorem Kept.startFade {c : Nat} {p : Sys2Proof.Path} (h : Kept s t) : Kept s (Machine.startFade c p t) := .ite h.onPath h

theorem Kept.endFade {c : Nat} {p : Sys2Proof.Path} (h : Kept s t) : Kept s (Machine.endFade c p t) := .ite h.changeBlob.onPath h

theorem Kept.copyDone {c : Nat} {p : Sys2Proof.Path} (h : Kept s t) : Kept s (Machine.copyDone c p t) :=
  .ite (.foldl (fun _ _ h => h.applyTaps) h.changeBlob.onPath) h

theorem Kept.takeCrcInjection {chain : Nat} (h : Kept s t) : Kept s (Machine.takeCrcInjection chain t) := h.onGuard

theorem Kept.checkCrcs {chain : Nat} {path : Sys2Proof.Path} {ok : Bool} (h : Kept s t) : Kept s (Machine.checkCrcs chain path ok t) :=
  .ite h.onPath (.ite (by
    split
    next x0 x1 hx =>
      have hx : Kept s x1 := Kept.snd h.free hx
      exact hx.onPath) h.onPath)

theorem Kept.resetChain {b : Int} {c : Nat} (h : Kept s t) : Kept s (Machine.resetChain b t c) := .ite h h.onChain.setDfe

theorem Kept.syncReset (h : Kept s t) : Kept s (Machine.syncReset t) :=
  .ite h (.foldl (fun _ _ h => .ite h.change h) (.bump (.foldl (fun _ _ h => h.resetChain) h)))

theorem Kept.actDfeResetAll (h : Kept s t) : Kept s (Machine.actDfeResetAll t).2 := by
  unfold Machine.actDfeResetAll
  dsimp only
  split
  · exact h
  · dsimp only
    exact h.setObj.setDfe

/-! ### The samples of a chain (10 R333 to R344) -/

theorem Kept.countFilter {c : Nat} {o : FilterOut} (h : Kept s t) : Kept s (Machine.countFilter c o t) := h.bump.bump.bump

theorem Kept.feedReceive {c : Nat} {origin label : ℚ} {iq : List (Int × Int)} (h : Kept s t) :
    Kept s (Machine.feedReceive c origin label iq t) :=
  h.onChain.countFilter

theorem Kept.feedTransmit {c : Nat} {origin label : ℚ} {gain : ℚ → Nat} {iq : List (Int × Int)} (h : Kept s t) :
    Kept s (Machine.feedTransmit c origin label gain iq t) :=
  h.onChain.countFilter

theorem Kept.listenSamples {ats : Nat} {iq : List (Int × Int)} (h : Kept s t) : Kept s (Machine.listenSamples ats iq t) := by
  unfold Machine.listenSamples
  exact h.feedReceive.onNl

theorem Kept.raiseThreshold {c : Nat} (h : Kept s t) : Kept s (Machine.raiseThreshold c t) := by
  unfold Machine.raiseThreshold
  exact h.raise.onChain

theorem Kept.openEndless {n : Nat} (h : Kept s t) : Kept s (Machine.openEndless n t) := .ite h.setDfe (.ite h.setDfe.bump h.setDfe.setObj)

theorem Kept.closeEndless {n : Nat} (h : Kept s t) : Kept s (Machine.closeEndless n t) := .ite h.setObj h

/-! ### Ports and lanes (09 R298 to R303) -/

theorem Kept.onPort {p : Nat} {f : PortIo → PortIo} (h : Kept s t) : Kept s (Machine.State.onPort t p f) := h.setFh

theorem Kept.latchPads {d : Nat} (h : Kept s t) : Kept s (Machine.latchPads d t) := by
  unfold Machine.latchPads
  split
  · exact h.setPower
  · exact h

theorem Kept.releasePads {d : Nat} (h : Kept s t) : Kept s (Machine.releasePads d t) := h.setPower

theorem Kept.driveWithRun {d : Nat} (h : Kept s t) : Kept s (Machine.driveWithRun d t) := .ite h h.releasePads

theorem Kept.bringUp {p : Nat} (h : Kept s t) : Kept s (Machine.bringUp p t) := by
  unfold Machine.bringUp
  exact .onPort (.ite h.releasePads h)

theorem Kept.portAccept {p : Nat} (h : Kept s t) : Kept s (Machine.portAccept p t) := h.setObj.bringUp

theorem Kept.lanesLost {p : Nat} (h : Kept s t) : Kept s (Machine.lanesLost p t) := .foldl (fun _ _ h => h.laneLost) h

theorem Kept.linkLost {p : Nat} (h : Kept s t) : Kept s (Machine.linkLost p t) := h.lanesLost.setPtp.refreshQualified

theorem Kept.portOff {p : Nat} (h : Kept s t) : Kept s (Machine.portOff p t) := h.setObj.onPort.linkLost

theorem Kept.bindCarrier {n : Nat} (h : Kept s t) : Kept s (Machine.bindCarrier n t) := h.setObj.setObj.setObj

/-! ### Launches (09 R311 to R316; 17 R556, R557) -/

theorem Kept.nextSeq {key : Nat} (h : Kept s t) : Kept s (Machine.nextSeq key t) := h.setFh

theorem Kept.takeSeq {key : Nat} (h : Kept s t) : Kept s (Machine.takeSeq key t).2 := h.nextSeq

theorem Kept.sentFrames {p frames bytes : Nat} (h : Kept s t) : Kept s (Machine.sentFrames p frames bytes t) := h.bump.bump

theorem Kept.requeue {p : Nat} (h : Kept s t) : Kept s (Machine.requeue p t) := h.onPort

theorem Kept.enterQueue {p cls : Nat} {bytes ends : Nat} (h : Kept s t) : Kept s (Machine.enterQueue p cls bytes ends t) :=
  h.onPort.requeue

theorem Kept.sendLaunch {p : Nat} {l : Launch} (h : Kept s t) : Kept s (Machine.sendLaunch p l t) := h.sentFrames.onPort.requeue

theorem Kept.sendOwn {p : Nat} {frames : List OutFrame} {bytes : Nat} (h : Kept s t) : Kept s (Machine.sendOwn p frames bytes t) :=
  h.sentFrames.onPort.enterQueue

theorem Kept.markSymbol {key : Nat} {f : Course → Course} (h : Kept s t) : Kept s (Machine.markSymbol key f t) := h.onCourse

theorem Kept.notSent {key status l : Nat} (h : Kept s t) : Kept s (Machine.notSent key status l t) := by
  unfold Machine.notSent
  split
  · exact h
  · exact h.onCourse.causeAt

theorem Kept.withhold {key l : Nat} (h : Kept s t) : Kept s (Machine.withhold key l t) := by
  unfold Machine.withhold
  split
  · exact h
  · exact h.onCourse.causeAt

theorem Kept.blank {key l : Nat} {c : Course} (h : Kept s t) : Kept s (Machine.blank key l c t) := .causeAt (.onCourse (.ite h h.bump))

theorem Kept.meter {n : Nat} {power : Int} (h : Kept s t) : Kept s (Machine.meter n power t) := by
  unfold Machine.meter
  exact .ite (by
    split
    next x0 x1 hx =>
      have hx : Kept s x1 := Kept.snd h.setObj.free hx
      exact hx.onGuard.detect) (.ite h.setObj.detect h.setObj)

theorem Kept.strikeFate {key n l : Nat} {c : Course} {ready : Bool} {f : Fate} (h : Kept s t) :
    Kept s (Machine.strikeFate key n l c ready f t) := by
  unfold Machine.strikeFate
  split
  · exact h.blank
  · exact h.withhold
  · exact h.withhold
  · exact h.withhold
  · exact h.withhold
  · exact .withhold (.ite h h.bump)
  · exact h.notSent
  · exact h.notSent
  · exact h.notSent
  · exact .onCourse (.ite h h.notSent)

theorem Kept.rideAlong {l k : Nat} {f : Fate} {riders : List (Nat × Course × Bool × Fate)} (h : Kept s t) :
    Kept s (Machine.rideAlong l k f riders t) :=
  .foldl (fun _ _ h => h.strikeFate.onCourse) h

theorem Kept.sendSamples {n l k : Nat} {slotAir : Int} {own : Option Nat} {guests : List Nat} (h : Kept s t) :
    Kept s (Machine.sendSamples n l k slotAir own guests t) := by
  unfold Machine.sendSamples
  exact h.feedTransmit.setFh

theorem Kept.cutMessages {m n k count : Nat} (h : Kept s t) : Kept s (Machine.cutMessages m n k count t).2 := by
  induction m generalizing t with
  | zero => exact h
  | succ m ih =>
    unfold Machine.cutMessages
    dsimp only
    split
    · exact h
    · exact ih (.takeSeq h.setFh)

theorem Kept.launchSamples {key hdr : Nat} {l k p : Nat} {riders : List Nat} (h : Kept s t) :
    Kept s (Machine.launchSamples key hdr l k p riders t) :=
  .foldl (fun _ _ h => .ite h.bump.notSent h.bump.sendLaunch) h.cutMessages

theorem Kept.launch {key n l k p bytes : Nat} {power slot : Int} {own : Option (Nat × Course)} {guests : List (Nat × Course)} (h :
    Kept s t) :
    Kept s (Machine.launch key n l k p bytes power slot own guests t) :=
  .ite h.sendSamples.launchSamples.meter (.meter (.sendLaunch (.bump (.foldl_snd (fun _ _ h => h.takeSeq) h))))

theorem Kept.launchSymbol {key n : Nat} {hdr l : Nat} {k bytes : Nat} {power : Int} {c : Course} (h : Kept s t) :
    Kept s (Machine.launchSymbol key n hdr l k bytes power c t) :=
  .rideAlong (.onCourse (.strikeFate (.ite (.bump (by
    split
    · exact h.bump.detect
    · exact h.bump.detect
    · exact h)) (.ite (.launch (by
        split
        · exact h.bump.detect
        · exact h.bump.detect
        · exact h)) (by
            split
            · exact h.bump.detect
            · exact h.bump.detect
            · exact h)))))

theorem Kept.sendCplane {key n : Nat} {sections : List (Nat × CSection)} {bytes : Nat} {until' : Int} (h : Kept s t) :
    Kept s (Machine.sendCplane key n sections bytes until' t) :=
  .ite (.sendLaunch (.bump (.foldl_snd (fun _ _ h => h.takeSeq) h))) h

/-! ### Uplink messages (09 R306, R307, R314, R315, R317, R318) -/

theorem Kept.malformed {p : Nat} (h : Kept s t) : Kept s (Machine.malformed p t) := h.bump

theorem Kept.judgeSeq {p n : Nat} {m : IqMsg} (h : Kept s t) : Kept s (Machine.judgeSeq p n m t) := by
  unfold Machine.judgeSeq
  extract_lets k u
  have hu : Kept s u := by
    unfold u
    split
    · exact .ite h h.bump
    · exact h
  exact hu.setFh

theorem Kept.takeWhole {key : Nat} {symbols : List Nat} (h : Kept s t) : Kept s (Machine.takeWhole key symbols t) := by
  unfold Machine.takeWhole
  split
  · exact h
  · exact h.onCourse

theorem Kept.symbolIn {n : Nat} {m : IqMsg} (h : Kept s t) : Kept s (Machine.symbolIn n m t) :=
  .ite (.resettle (.foldl (fun _ _ h => h.onCourse.takeWhole) h)) (.foldl (fun _ _ h => h.onCourse.takeWhole) h)

theorem Kept.joinSamples {n port : Nat} {out : List FilterSample} (h : Kept s t) : Kept s (Machine.joinSamples n port out t) :=
  .foldl (fun _ _ h => .takeWhole (.foldl (fun _ _ h => h.onCourse) h)) h

theorem Kept.timeSamples {n : Nat} {m : IqMsg} (h : Kept s t) : Kept s (Machine.timeSamples n m t) :=
  .ite h.feedReceive.joinSamples.resettle h.feedReceive.joinSamples

theorem Kept.watchTake {m : IqMsg} {k : Nat} (h : Kept s t) : Kept s (Machine.watchTake m t k) := .ite h.feedReceive h.setPower

theorem Kept.forwardTo {ingress : Nat} {f : Frame} {p : Nat} (h : Kept s t) : Kept s (Machine.forwardTo ingress f t p) :=
  .ite (.ite h.bump.sentFrames.onTime.enterQueue h.bump.sentFrames.enterQueue) h.bump

theorem Kept.forward {p : Nat} {f : Frame} (h : Kept s t) : Kept s (Machine.forward p f t) :=
  .ite h.bump (by
    split
    · exact h.bump
    · exact .foldl (fun _ _ h => h.forwardTo) (.ite h.onTime h))

theorem Kept.actFwdRules {data : Bytes} (h : Kept s t) : Kept s (Machine.actFwdRules data t).2 := by
  unfold Machine.actFwdRules
  dsimp only
  repeat' split
  · exact h
  · exact h
  · exact h
  · exact h.changeBlob

/-! ### One-way delay and remote reset (09 R319, R320) -/

theorem Kept.onFh {f : Fronthaul → Fronthaul} (h : Kept s t) : Kept s (Machine.State.onFh t f) := h.setFh

theorem Kept.sendSmall {p dst : Nat} {bodies : List FrameBody} (h : Kept s t) : Kept s (Machine.sendSmall p dst bodies t) :=
  .ite h.sendOwn h

theorem Kept.startOwd {p dst : Nat} {follow : Bool} (h : Kept s t) : Kept s (Machine.startOwd p dst follow t) := by
  unfold Machine.startOwd
  exact h.sendSmall.onFh

theorem Kept.actOwdStart {v : Int} (h : Kept s t) : Kept s (Machine.actOwdStart v t).2 := by
  unfold Machine.actOwdStart
  split
  · exact h
  · exact h.startOwd

theorem Kept.actResetSend (h : Kept s t) : Kept s (Machine.actResetSend t).2 := by
  unfold Machine.actResetSend
  dsimp only
  exact h.setObj.sendSmall.onFh

/-! ### Failover (09 R301, R324 to R327) -/

theorem Kept.resend {q : Nat} {l : Launch} (h : Kept s t) : Kept s (Machine.resend q l t) := h.bump.sendLaunch

theorem Kept.loseLaunches {p : Nat} {to' : Option Nat} (h : Kept s t) : Kept s (Machine.loseLaunches p to' t) :=
  .foldl (fun _ _ h => .ite (by
    split
    · exact .ite h.resend h
    · exact h) (.foldl (fun _ _ h => h.notSent) h)) h.onPort

theorem Kept.failover {p cause : Nat} (h : Kept s t) : Kept s (Machine.failover p cause t) := by
  unfold Machine.failover
  split
  · exact h.loseLaunches
  · exact .ite (.ite h.loseLaunches h) (.raise (.free (.foldl (fun _ _ h => h.setObj) h.loseLaunches)))

theorem Kept.takeOver {p : Nat} (h : Kept s t) : Kept s (Machine.takeOver p t) := by
  unfold Machine.takeOver
  split
  · exact h
  · exact .ite h (.ite h.failover (.ite h.failover h))

theorem Kept.attachCarrier {n : Nat} (h : Kept s t) : Kept s (Machine.attachCarrier n t) := by
  unfold Machine.attachCarrier
  dsimp only
  split
  · exact h.bindCarrier.takeOver
  · exact h.bindCarrier

theorem Kept.portDown {p : Nat} (h : Kept s t) : Kept s (Machine.portDown p t) := by
  unfold Machine.portDown
  exact h.setObj.raise.linkLost.bringUp.onPort.failover

theorem Kept.carrierAccept {n : Nat} (h : Kept s t) : Kept s (Machine.carrierAccept n t) := by
  unfold Machine.carrierAccept
  exact .onGuard (.setObj (.openEndless (.foldl (fun _ _ h => h.setObj)
    (.attachCarrier (.ite (h.setObj.setObj.setPipe (by rfl)).setObj.setObj.takeChains (h.setObj.setObj.setPipe (by rfl)).setObj.setObj)))))

theorem Kept.cancelWhere {sel : Nat → Bool} (h : Kept s t) : Kept s (Machine.cancelWhere sel t) := .foldl (fun _ _ h => h.cancelCourse) h

theorem Kept.carrierOff {n : Nat} (h : Kept s t) : Kept s (Machine.carrierOff n t) := by
  unfold Machine.carrierOff
  extract_lets u v w p x
  have hv : Kept s v := .foldl (fun _ _ h => h.setObj) h.releaseChains
  have hw : Kept s w := .foldl (fun _ _ h => .ite h.setGate h) hv
  clear_value w
  exact (hw.setPipe (by rfl)).onGuard.showMutes

theorem Kept.carrierDone {n : Nat} (h : Kept s t) : Kept s (Machine.carrierDone n t) := .ite h.carrierOff.shutDone h

theorem Kept.actUeContext {data : Bytes} (h : Kept s t) : Kept s (Machine.actUeContext data t).2 := by
  unfold Machine.actUeContext
  dsimp only
  split
  · exact h
  · exact .ite h.onUe h.onUe.bump

theorem Kept.actUeRelease {v : Int} (h : Kept s t) : Kept s (Machine.actUeRelease v t).2 := by
  unfold Machine.actUeRelease
  dsimp only
  split
  · exact h.onUe.sweepContexts
  · exact h

theorem Kept.onLink {f : Link → Link} (h : Kept s t) : Kept s (Machine.State.onLink t f) := h.setLink

theorem Kept.retirePage {page : Nat} (h : Kept s t) : Kept s (Machine.retirePage t page) := (h.bump.setInteg (by rfl))

theorem Kept.releasePage {page : Nat} (h : Kept s t) : Kept s (Machine.releasePage t page) := by
  unfold Machine.releasePage
  split
  next x0 x1 hx =>
    have hx : Kept s x1 := Kept.snd h.free hx
    exact .ite (hx.setInteg (by rfl)).setObj.retirePage hx

theorem Kept.releasePages (h : Kept s t) : Kept s (Machine.releasePages t) := .foldl (fun _ _ h => h.releasePage) h

theorem Kept.verdictWritten {chan : Nat} {v : Verdict} (h : Kept s t) : Kept s (Machine.verdictWritten chan v t) :=
  .ite h (.ite (.sendVerdict (.ite h h.onChan)) (.onChan (.ite h h.onChan)))

theorem Kept.outcomeWritten {chan course : Nat} (h : Kept s t) : Kept s (Machine.outcomeWritten chan course t) :=
  h.journalOutcome.releasePages.carrierDone

/-! ### Outcomes (04 R130, R137) -/

theorem Kept.sendOutcome {chan : Nat} (h : Kept s t) : Kept s (Machine.sendOutcome chan t) := by
  unfold Machine.sendOutcome
  dsimp only
  split
  · exact .ite h.onChan.send.endCourse h
  · exact h

theorem Kept.ackTo {chan seq : Nat} (h : Kept s t) : Kept s (Machine.ackTo chan seq t) := .foldl (fun _ _ h => h.onCourse) h.onChan

theorem Kept.takeAck {chan seq credits : Nat} (h : Kept s t) : Kept s (Machine.takeAck chan seq credits t) :=
  .ite h.bump (.ite h.onChan.bump (.ite h.onChan.onChan h.onChan.onChan.ackTo))

theorem Kept.ackArrival {chan seq credits : Nat} (h : Kept s t) : Kept s (Machine.ackArrival chan seq credits t) :=
  .ite h.bump (.ite h h.takeAck)

/-! ### Sessions (04 R140 to R148) -/

theorem Kept.discardIncomplete (h : Kept s t) : Kept s (Machine.discardIncomplete t) := h.onLink

theorem Kept.suspendSession {cause : Nat} (h : Kept s t) : Kept s (Machine.suspendSession cause t) :=
  .ite h h.setObj.onLink.discardIncomplete

theorem Kept.closeSession (h : Kept s t) : Kept s (Machine.closeSession t) := (h.cancelWhere.setPipe (by rfl)).onLink.setObj.setBlob

theorem Kept.openSession {hostId : Nat} {entries : List ResumeEntry} (h : Kept s t) : Kept s (Machine.openSession hostId entries t) :=
  h.onLink.setObj.setBlob

theorem Kept.resumeReply {seq : Nat} {r : Reason} {bad : Nat} {figures : Bool} (h : Kept s t) :
    Kept s (Machine.resumeReply seq r bad figures t) :=
  h.send

theorem Kept.resumeChannel {grant : Nat} {i : Nat × ResumeEntry} (h : Kept s t) : Kept s (Machine.resumeChannel grant t i) := by
  unfold Machine.resumeChannel
  exact .onChan (.ite h h.ackTo)

theorem Kept.sendOutcomes {k chan : Nat} (h : Kept s t) : Kept s (Machine.sendOutcomes k chan t) := by
  induction k generalizing t with
  | zero => exact h
  | succ k ih => exact ih h.sendOutcome

theorem Kept.replayChannel {i : Nat × ResumeEntry} (h : Kept s t) : Kept s (Machine.replayChannel t i) :=
  .sendOutcomes (.foldl (fun _ _ h => h.sendVerdict) h)

theorem Kept.resumeChannels {entries : List ResumeEntry} {seq : Nat} (h : Kept s t) : Kept s (Machine.resumeChannels entries seq t) :=
  .foldl (fun _ _ h => h.replayChannel) (.resumeReply (.setObj (.foldl (fun _ _ h => h.resumeChannel) h)))

theorem Kept.resumeAnswer {seq : Nat} {entries : List ResumeEntry} {bad : Option (Nat × ResumeEntry)} (h : Kept s t) :
    Kept s (Machine.resumeAnswer seq entries bad t) := by
  unfold Machine.resumeAnswer
  split
  · exact h.resumeReply
  · exact h.onLink.resumeChannels

theorem Kept.resumeSession {seq : Nat} {entries : List ResumeEntry} (h : Kept s t) : Kept s (Machine.resumeSession seq entries t) :=
  .resumeAnswer (.ite h.discardIncomplete h)

theorem Kept.handleResume {seq mode hostId : Nat} {entries : List ResumeEntry} (h : Kept s t) :
    Kept s (Machine.handleResume seq mode hostId entries t) :=
  .ite h.resumeReply (.ite (.ite h.openSession.resumeReply h.resumeReply)
    (.ite h.bump.resumeReply (.ite h.closeSession.resumeReply (.ite h.closeSession.openSession.resumeReply h.resumeSession))))

theorem Kept.takeResume {dt seq : Nat} {mode hostId : Nat} {entries : List ResumeEntry} (h : Kept s t) :
    Kept s (Machine.takeResume dt seq mode hostId entries t) :=
  .ite h.advance.handleResume h.advance.holdTransfer

theorem Kept.actSessionHold {v : Int} (h : Kept s t) : Kept s (Machine.actSessionHold v t).2 := .ite h.change.closeSession h.change

/-! ### Modules (04 R115 to R120) -/

theorem Kept.setModule {m : Nat} {x1 : Machine.Module} (h : Kept s t) : Kept s (Machine.setModule m x1 t) := h.onLink.setObj

theorem Kept.moveAll {m : Nat} (h : Kept s t) : Kept s (Machine.moveAll m t) := h.onLink

theorem Kept.resendFlight {m : Nat} (h : Kept s t) : Kept s (Machine.resendFlight m t) := .foldl (fun _ _ h => h.send) h.onLink

theorem Kept.loseModule {m : Nat} (h : Kept s t) : Kept s (Machine.loseModule m t) :=
  .ite h.setModule (.ite h.setModule.raise.onLink.onLink.resendFlight h.setModule.raise.onLink.onLink.suspendSession)

theorem Kept.retrainModule {m : Nat} (h : Kept s t) : Kept s (Machine.retrainModule m t) := .ite h (.ite h.setModule h.setModule.moveAll)

theorem Kept.useModule {chan m : Nat} (h : Kept s t) : Kept s (Machine.useModule chan m t) := .ite h.onLink h.onChan

theorem Kept.healed {l : List Nat} (h : Kept s t) : Kept s (Machine.healed l t) := (h.setInteg (by rfl))

theorem Kept.logError {memory error regime foundBy unit addr syndrome bit bank level page : Nat} (h : Kept s t) :
    Kept s (Machine.logError memory error regime foundBy unit addr syndrome bit bank level page t) := by
  unfold Machine.logError
  exact (h.bump.onInteg (by exact id))

/-! ### Buckets (15 R518, R519) -/

theorem Kept.feedPage {page : Nat} (h : Kept s t) : Kept s (Machine.feedPage page t) := by
  unfold Machine.feedPage
  split
  · exact (h.onInteg (by exact id))
  · exact .onInteg (.ite h (by
      split
      · exact (h.bump.onInteg (by exact id))
      · exact h)) (by exact id)

theorem Kept.advise {page cause regime : Nat} (h : Kept s t) : Kept s (Machine.advise page cause regime t) := h.raise

theorem Kept.judgePage {page : Nat} (h : Kept s t) : Kept s (Machine.judgePage page t) := .ite (h.advise.onInteg (by exact id)) h

theorem Kept.judgeUnit {kind unit limit : Nat} (h : Kept s t) : Kept s (Machine.judgeUnit kind unit limit t) := by
  unfold Machine.judgeUnit
  refine .ite (h.raise.onInteg ?_) h
  dsimp only
  exact Store.rising_putD

/-! ### One error (15 R494 to R497, R516 to R522) -/

theorem Kept.recordError {foundBy error : Nat} {e : MemError} {g : Region} (h : Kept s t) :
    Kept s (Machine.recordError foundBy error e g t) :=
  h.logError

theorem Kept.countPage {g : Region} {a1 : Nat} (h : Kept s t) : Kept s (Machine.countPage g a1 t) := by
  unfold Machine.countPage
  split
  · exact (h.onInteg (by exact id))
  · exact h

theorem Kept.countCorrected {g : Region} (h : Kept s t) : Kept s (Machine.countCorrected g t) := by
  unfold Machine.countCorrected
  split
  · exact h.bump
  · exact h.bump
  · exact h.bump

theorem Kept.correctedError {foundBy : Nat} {e : MemError} (h : Kept s t) : Kept s (Machine.correctedError foundBy e t) := by
  unfold Machine.correctedError
  extract_lets g u line v now b w x y z a
  have hu : Kept s u := h.countCorrected
  have hv : Kept s v := (hu.bump.onInteg (by exact id))
  have hx : Kept s x := (hu.onInteg (Store.rising_put _ _ _)).countPage
  have hy : Kept s y := by
    unfold y
    split
    · exact hx.feedPage
    · exact hx
  refine .ite hv.countPage.recordError (.ite hu.recordError ?_)
  split
  · exact hy.recordError.judgeUnit.judgePage
  · exact hy.recordError.judgeUnit

theorem Kept.uncorrectableError {foundBy : Nat} {e : MemError} (h : Kept s t) : Kept s (Machine.uncorrectableError foundBy e t) := by
  unfold Machine.uncorrectableError
  extract_lets g now word u v w
  have hu : Kept s u := (h.onInteg (by exact id))
  have hv : Kept s v := by
    unfold v
    cases g with
    | tile => exact hu.bump
    | chan c =>
      refine hu.bump.onInteg ?_
      intro hr
      split
      · exact hr
      · exact hr
    | _ => exact hu.bump
  have hw : Kept s w := hv.countPage.recordError
  clear_value w
  split
  · exact hw.advise
  · exact hw

theorem Kept.noteError {foundBy : Nat} {e : MemError} (h : Kept s t) : Kept s (Machine.noteError foundBy t e) := by
  unfold Machine.noteError
  split
  · exact h
  · exact h
  · exact .ite h (.ite h.correctedError h.uncorrectableError)
  · exact .ite h.correctedError h.uncorrectableError

theorem Kept.metPoisonBy {foundBy a1 : Nat} (h : Kept s t) : Kept s (Machine.metPoisonBy foundBy a1 t) := by
  unfold Machine.metPoisonBy
  split
  next x0 x1 hx =>
    have hx : Kept s x1 := Kept.snd h.free hx
    split
    · exact .ite hx hx.uncorrectableError
    · exact hx.uncorrectableError

theorem Kept.metPoison {a : Nat} (h : Kept s t) : Kept s (Machine.metPoison a t) := h.metPoisonBy

theorem Kept.poisonBytes {l : List Nat} (h : Kept s t) : Kept s (Machine.poisonBytes l t) := (h.onInteg (by exact id))

theorem Kept.writeLine {cells : List Host.Cell} (h : Kept s t) : Kept s (Machine.writeLine cells t).2 := by
  have hm : Kept s { t with mem := memPutAll cells t.mem } := h.setMem memPutAll_wf
  unfold Machine.writeLine
  split
  · exact h
  · split
    · exact h
    · split
      · exact h
      · exact h
      · dsimp only
        split
        · exact hm.healed.metPoisonBy
        · exact hm.healed

theorem Kept.endRegime (h : Kept s t) : Kept s (Machine.endRegime t) :=
  .ite h (.onInteg (.setObj (.foldl (fun _ _ h => h.advise) h)) (by exact id))

theorem Kept.startRecovery (h : Kept s t) : Kept s (Machine.startRecovery t) := .ite h.setObj h

theorem Kept.settleRegime (h : Kept s t) : Kept s (Machine.settleRegime t) := .ite h.endRegime h

/-! ### The loss of a channel (15 R506, R507, R509, R510; 04 R140) -/

theorem Kept.bothCopiesLost (h : Kept s t) : Kept s (Machine.bothCopiesLost t) := .closeSession (.foldl (fun _ _ h => h.cancelCourse) h)

theorem Kept.journalLoses {c : Nat} (h : Kept s t) : Kept s (Machine.journalLoses c t) :=
  .ite (.ite (h.setObj.setCause.setObj.onInteg (by exact id)).bothCopiesLost.settleRegime (by
    split
    · exact (h.setObj.setCause.setObj.onInteg (by exact id)).startRecovery
    · exact (h.setObj.setCause.onInteg (by exact id)))) (.ite (h.setObj.onInteg (by exact id)).settleRegime h)

theorem Kept.markNotKept {key rec : Nat} (h : Kept s t) : Kept s (Machine.markNotKept key rec t) := h.onCourse

theorem Kept.markDropped {ue proc : Nat} (h : Kept s t) : Kept s (Machine.markDropped ue proc t) := .foldl (fun _ _ h => h.onCourse) h

theorem Kept.loseProc {ue proc : Nat} {hdr : Harq} (h : Kept s t) : Kept s (Machine.loseProc ue proc hdr t) := by
  unfold Machine.loseProc
  exact .onHarq (by
    split
    · exact h.raise
    · exact h.dropVersion.markDropped
    · exact h)

theorem Kept.loseContext {i : Nat} (h : Kept s t) : Kept s (Machine.loseContext t i) := .onUe (.foldl (fun _ _ h => h.loseProc) h)

theorem Kept.contextsLost {c : Nat} (h : Kept s t) : Kept s (Machine.contextsLost c t) := by
  unfold Machine.contextsLost
  extract_lets l u
  have hu : Kept s u := .foldl (fun _ _ h => h.loseContext) h
  exact .ite (hu.onInteg (by exact id)).startRecovery (hu.setUes (Store.rising_filter _ _))

theorem Kept.versionsLost {c : Nat} (h : Kept s t) : Kept s (Machine.versionsLost c t) := by
  refine .foldl (fun x u hu => ?_) h
  extract_lets v
  have hv : Kept s v := by
    unfold v
    split
    · exact .ite hu.dropVersion.markDropped hu
    · exact hu
  clear_value v
  split
  · exact .ite hv.onHarq.bump.markNotKept hv
  · exact hv

theorem Kept.reserveAgain {c : Nat} (h : Kept s t) : Kept s (Machine.reserveAgain c t) := by
  unfold Machine.reserveAgain
  dsimp only
  exact .foldl (fun _ _ h => by
  split
  · exact .ite h.onCourse.onCourse h.onCourse.markNotKept
  · exact h.onCourse.markNotKept) h

theorem Kept.dataLost {c : Nat} (h : Kept s t) : Kept s (Machine.dataLost c t) := .foldl (fun _ _ h => h.causeAt) h

theorem Kept.stagingLost {c : Nat} (h : Kept s t) : Kept s (Machine.stagingLost c t) := h.setOps

theorem Kept.banksLost {c : Nat} (h : Kept s t) : Kept s (Machine.banksLost c t) := h.setWb (Store.rising_map fun _ => Eq.refl _)

theorem Kept.channelLost {c cause : Nat} (h : Kept s t) : Kept s (Machine.channelLost c cause t) := by
  unfold Machine.channelLost
  extract_lets copy n free u v w x y
  have hw : Kept s w := h.setObj.setCause.contextsLost.versionsLost.reserveAgain.dataLost.stagingLost.banksLost
  have hy : Kept s y := hw.raise.logError
  clear_value y
  exact (hy.onInteg (by exact id)).journalLoses.resettle

theorem Kept.channelFails {c : Nat} (h : Kept s t) : Kept s (Machine.channelFails c t) := h.free.channelLost

theorem Kept.storeByte {pallets : List Nat} {p : Ctx × State} {x : Nat × Byte} (h : Kept s p.2) :
    Kept s (Machine.storeByte pallets p x).2 := by
  unfold Machine.storeByte
  split
  · exact h
  · split
    · exact h
    · exact h.setMem memPutAll_wf

theorem Kept.storeBytes {l : List Nat} {v : Bytes} {c : Ctx} (h : Kept s t) : Kept s (Machine.storeBytes l v c t).2 :=
  .healed (.foldl_snd (fun _ _ h => h.storeByte) h)

theorem Kept.storeAt {i addr n v : Nat} {c : Ctx} {q : Ctx × State} (h : Kept s t) (e : Machine.storeAt i addr n v c t = .ok q) :
    Kept s q.2 := by
  unfold Machine.storeAt at e
  split at e
  · cases e
  · split at e
    · cases e
    · cases e
      exact h.storeBytes

/-! ### Running one instruction -/

theorem Kept.putCtx {i : Nat} {c : Ctx} (h : Kept s t) : Kept s (Machine.putCtx i c t) := h.setTiles

theorem Kept.commitTo {i : Nat} {c : Ctx} (h : Kept s t) : Kept s (Machine.commitTo i c t) := h.putCtx

theorem Kept.countExc {i : Nat} {c : Ctx} {e : Exc} (h : Kept s t) : Kept s (Machine.countExc i c e t) :=
  .ite (.setObj (.bump (.setBlob (.ite h.bump h)))) (.setBlob (.ite h.bump h))

theorem Kept.noteExc {i : Nat} {c : Ctx} {e : Exc} (h : Kept s t) : Kept s (Machine.noteExc i c e t) :=
  .ite h.countExc.metPoison h.countExc

theorem Kept.enterExc {i : Nat} {c : Ctx} {e : Exc} (h : Kept s t) : Kept s (Machine.enterExc i c e t) := .ite h.putCtx h.putCtx

theorem Kept.takeExc {i : Nat} {c : Ctx} {e : Exc} (h : Kept s t) : Kept s (Machine.takeExc i c e t) := h.noteExc.enterExc

theorem Kept.orTake {i : Nat} {c : Ctx} {r : Except Exc (Ctx × State)} (hr : ∀ p, r = .ok p → Kept s p.2) (h : Kept s t) :
    Kept s (Machine.orTake i c t r) := by
  unfold Machine.orTake
  split
  · exact h.takeExc
  · exact (hr _ (Eq.refl _)).commitTo

theorem Kept.scalarOp {i : Nat} {op : ScalarOp} {gd : Nat} {a3 b : Word} {c : Ctx} (h : Kept s t) :
    Kept s (Machine.scalarOp i op gd a3 b c t) := by
  unfold Machine.scalarOp
  split
  · exact h.putCtx
  · exact h.commitTo

theorem Kept.branchTo {i : Nat} {taken : Bool} {offset : Int} {c : Ctx} (h : Kept s t) : Kept s (Machine.branchTo i taken offset c t) :=
  .ite h.putCtx h.commitTo

theorem Kept.runMacWiden {i : Nat} {conj : Bool} {f : VFields} {c : Ctx} (h : Kept s t) : Kept s (Machine.runMacWiden i conj f c t) :=
  .ite h.takeExc h.commitTo

theorem Kept.storeLanes {i b : Nat} {p : List Bool} {x v : List Nat} {c : Ctx} {q : Ctx × State} (h : Kept s t)
    (e : Machine.storeLanes i b p x v c t = .ok q) : Kept s q.2 := by
  induction p generalizing x v c t with
  | nil =>
    cases e
    exact h
  | cons a p ih =>
    cases x with
    | nil =>
      cases e
      exact h
    | cons l x =>
      cases v with
      | nil =>
        cases e
        exact h
      | cons w v =>
        unfold Machine.storeLanes at e
        split at e
        · cases e
        next r he =>
          split at he
          · exact ih (h.storeAt he) e
          · cases he
            exact ih h e

/-! ### Gather and scatter (11 R389 to R391) -/

theorem Kept.gatherTrap {i : Nat} {c : Ctx} {f : VGFields} {vals : List (Nat × Nat)} {k : Nat} {e : Exc} (h : Kept s t) :
    Kept s (Machine.gatherTrap t i c f vals k e) :=
  h.takeExc

theorem Kept.gatherDone {i : Nat} {c : Ctx} {f : VGFields} {vals : List (Nat × Nat)} (h : Kept s t) :
    Kept s (Machine.gatherDone t i c f vals) :=
  h.commitTo

theorem Kept.scatterFrom {i : Nat} {f : VGFields} {l : List Nat} {c : Ctx} (h : Kept s t) : Kept s (Machine.scatterFrom i f l c t).1.2 := by
  induction l generalizing c t with
  | nil => exact h
  | cons k l ih =>
    unfold Machine.scatterFrom
    split
    · exact h
    next he => exact ih (h.storeAt he)

theorem Kept.firstFault {i : Nat} {c : Ctx} {f : VGFields} {vals : List (Nat × Nat)} {k : Nat} {e : Exc} (h : Kept s t) :
    Kept s (Machine.firstFault t i c f vals k e) :=
  h.commitTo

theorem Kept.setVls {n : Nat} (h : Kept s t) : Kept s (Machine.setVls n t) := h.setObj.setObj

theorem Kept.showTile {i : Nat} (h : Kept s t) : Kept s (Machine.showTile i t) := .ite h h.setObj

theorem Kept.zeroFound {i : Nat} (h : Kept s t) : Kept s (Machine.zeroFound i t) := by
  unfold Machine.zeroFound
  exact ((h.setMem memPutAll_wf).healed.onInteg (by exact id))

theorem Kept.startTask {i tag : Nat} {o : Op} (h : Kept s t) : Kept s (Machine.startTask i tag o t) := by
  unfold Machine.startTask
  extract_lets u ins o' c block x v
  have hu : Kept s u := .ite h.zeroFound h.zeroFound.zeroFound
  clear_value u
  have hm : Kept s { u with mem := memWrite u.mem (palletAddr (argPallet i) + argOffset i) block } := hu.setMem memWrite_wf
  have hv : Kept s v := hm.same (by rfl)
  clear_value v
  exact hv.putCtx.onOp.showTile.traceOp

theorem Kept.cancelJobs {c : Ctx} (h : Kept s t) : Kept s (Machine.cancelJobs c t).2 := h.bump

theorem Kept.stopTask {i : Nat} {how : TaskEnd} (h : Kept s t) : Kept s (Machine.stopTask i how t) := by
  unfold Machine.stopTask
  split
  · exact h.cancelJobs.putCtx
  · exact h

theorem Kept.countTask {i : Nat} {c : Ctx} {how : TaskEnd} (h : Kept s t) : Kept s (Machine.countTask i c how t) :=
  .ite (.bump (.ite (.bump (.ite h.bump.bump.bump h.bump.bump)) (.ite h.bump.bump.bump h.bump.bump)))
    (.ite (.bump (.ite h.bump.bump.bump h.bump.bump)) (.ite h.bump.bump.bump h.bump.bump))

/-! ### Faults and spares (11 R355 to R357, R402) -/

theorem Kept.returnDispatched {i : Nat} (h : Kept s t) : Kept s (Machine.returnDispatched i t) :=
  .foldl (fun _ _ h => h.rerunOp) h.setSched

theorem Kept.vacate {i : Nat} (h : Kept s t) : Kept s (Machine.vacate i t) := .returnDispatched (.ite h.stopTask h)

theorem Kept.takeRole {n m : Nat} (h : Kept s t) : Kept s (Machine.takeRole n m t) :=
  h.setObj.setObj.setObj.setObj.setObj.setObj.setVls.showTile.showTile

theorem Kept.tileFault {i cause : Nat} (h : Kept s t) : Kept s (Machine.tileFault i cause t) := by
  unfold Machine.tileFault
  extract_lets n other u v w
  have hv : Kept s v := h.bump.vacate.vacate.setObj.setObj.setObj
  have hw : Kept s w := hv.setBondWas
  clear_value w
  split
  · exact hw.takeRole.setObj.spareEngaged.resettle
  · exact hw.unitLost.resettle

theorem Kept.loseSpare {n : Nat} (h : Kept s t) : Kept s (Machine.loseSpare n t) := h.setObj.setObj.setObj.setObj.spareGone

/-! ### Vector length and bonds (11 R398, R403 to R405; 13 R429) -/

theorem Kept.applyVl {i : Nat} (h : Kept s t) : Kept s (Machine.applyVl i t) := .ite (.ite h h.setObj) (.ite h h.setVls)

theorem Kept.actTileVl {i : Nat} {v : Int} (h : Kept s t) : Kept s (Machine.actTileVl i v t).2 := by
  unfold Machine.actTileVl
  extract_lets u n after
  have hu : Kept s u := h.change
  split
  · exact hu.applyVl
  · exact h

theorem Kept.loadTile {i : Nat} (h : Kept s t) : Kept s (Machine.loadTile i t) := h.setMem fun hw => memPutAll_wf (memClear_wf hw)

theorem Kept.finishBond {n : Nat} (h : Kept s t) : Kept s (Machine.finishBond n t) :=
  h.setBondWas.setObj.bump.loadTile.loadTile.setVls.resettle

theorem Kept.actBondMode {n : Nat} {v : Int} (h : Kept s t) : Kept s (Machine.actBondMode n v t).2 := by
  unfold Machine.actBondMode
  extract_lets after headers u u1 u2 u3 tags sc u4 u5
  have hu : Kept s u := h.change
  have h1 : Kept s u1 := hu.setObj
  have h2 : Kept s u2 := hu.setObj
  have h5 : Kept s u5 := .foldl (fun _ _ h => h.rerunOp) h2.setBondWas.setSched
  clear_value u1 u5 u
  split
  · exact h
  · split
    · exact h
    · split
      · exact h
      · split
        · split
          · dsimp only
            exact h1.setBondWas.resettle
          · exact hu
        · dsimp only
          exact .ite h5 h5.finishBond

theorem Kept.sendJob {i slot : Nat} {j : FusedJob} (h : Kept s t) : Kept s (Machine.sendJob i slot j t) :=
  .ite (.ite h.bump.onJob.setKiln.blockEnds.jobDone h.bump.onJob.setKiln) h.bump.onJob

theorem Kept.onTicket {i ga : Nat} {ok : Bool} {c : Ctx} {f : Nat → FusedJob → State} (hf : ∀ k j, Kept s (f k j)) (h : Kept s t) :
    Kept s (Machine.onTicket i ga ok c t f) := by
  unfold Machine.onTicket
  split
  · exact h.takeExc
  · split
    · exact hf _ _
    · exact h.takeExc

theorem Kept.countEncode {j : FusedJob} {blocks : Nat} (h : Kept s t) : Kept s (Machine.countEncode t j blocks) :=
  .ite h (.ite h.bump.bump h.bump.bump)

theorem Kept.onHod {f : Hod → Hod} (h : Kept s t) : Kept s (Machine.State.onHod t f) := h.setHod

theorem Kept.onHodChain {unit : Nat} {f : Chain → Chain} (h : Kept s t) : Kept s (Machine.State.onHodChain t unit f) := by
  unfold Machine.State.onHodChain
  split
  · exact h.onHod
  · exact h

theorem Kept.countEnd {e status : Nat} (h : Kept s t) : Kept s (Machine.countEnd e status t) := .ite h.bump.bump (.ite h.bump.bump h.bump)

theorem Kept.endChain {unit status : Nat} (h : Kept s t) : Kept s (Machine.endChain unit status t) := h.onHodChain.countEnd

theorem Kept.tellUser {c : Chain} {status : Nat} (h : Kept s t) : Kept s (Machine.tellUser c status t) := .ite h.setObj.setBlob h.onOp

theorem Kept.writeRecord {c : Chain} {status : Nat} (h : Kept s t) : Kept s (Machine.writeRecord c status t) :=
  .ite h (.foldl (fun _ _ h => .ite h.writeLine h) h)

theorem Kept.readBack {c : Chain} (h : Kept s t) : Kept s (Machine.readBack c t) := by
  unfold Machine.readBack
  split
  · exact h.metPoison
  · exact h

theorem Kept.setCopies {i : Nat} {l : List (Nat × Nat × Bool)} (h : Kept s t) : Kept s (Machine.State.setCopies t i l) := h.setSched

/-! ### Halts (16 R538 to R540) -/

theorem Kept.abortChain {e : Nat} {c : Chain} (h : Kept s t) : Kept s (Machine.abortChain e c t) :=
  .ite h.countEnd.tellUser h.countEnd.rerunOp

theorem Kept.haltEngine {e : Nat} {b : Nat × Nat × Nat} (h : Kept s t) : Kept s (Machine.haltEngine e b t) :=
  .foldl (fun _ _ h => h.abandonCopies) (.foldl (fun _ _ h => h.abortChain) h.onHod.setObj.setBlob.bump.raise)

theorem Kept.settleHalts (h : Kept s t) : Kept s (Machine.settleHalts t) := .foldl (fun _ _ h => .ite h h.haltEngine) h

theorem Kept.busError {e cause addr : Nat} (h : Kept s t) : Kept s (Machine.busError e cause addr t) := .ite h h.onHod

theorem Kept.actHodRelease {v : Int} (h : Kept s t) : Kept s (Machine.actHodRelease v t).2 := by
  unfold Machine.actHodRelease
  dsimp only
  split
  · exact h
  · dsimp only
    exact h.setObj.onGuard

theorem Kept.startDiag {unit : Nat} (h : Kept s t) : Kept s (Machine.startDiag unit t) := by
  unfold Machine.startDiag
  dsimp only
  split
  · exact h.setObj.onHod.endChain
  · exact .ite h.setObj.onHod.endChain h.setObj.onHod.onHodChain

theorem Kept.actDiagStart (h : Kept s t) : Kept s (Machine.actDiagStart t).2 := by
  unfold Machine.actDiagStart
  repeat' split
  · exact h
  · exact h
  · exact h.startDiag
  · exact h

theorem Kept.actDiagStop (h : Kept s t) : Kept s (Machine.actDiagStop t).2 := by
  unfold Machine.actDiagStop
  dsimp only
  exact h.onHod

theorem moveFlit_arbs (m : Move) (x : Mortar) : (moveFlit m x).arbs = x.arbs ∧ (moveFlit m x).mc = x.mc := by
  unfold moveFlit
  dsimp only
  split
  · exact ⟨rfl, rfl⟩
  · exact ⟨rfl, rfl⟩

theorem foldl_moveFlit_arbs (l : List Move) (x : Mortar) :
    (l.foldl (fun m y => moveFlit y m) x).arbs = x.arbs ∧ (l.foldl (fun m y => moveFlit y m) x).mc = x.mc := by
  induction l generalizing x with
  | nil => exact ⟨rfl, rfl⟩
  | cons m l ih =>
    obtain ⟨ha, hm⟩ := ih (moveFlit m x)
    obtain ⟨ha', hm'⟩ := moveFlit_arbs m x
    exact ⟨ha.trans ha', hm.trans hm'⟩

theorem Kept.fabricCycle {depth : Nat} (h : Kept s t) : Kept s (Machine.fabricCycle depth t) := by
  unfold Machine.fabricCycle
  extract_lets l r u v
  have hv : Kept s v :=
    h.bump.onMortar (fun hr => (congrArg Store.rising (foldl_moveFlit_arbs _ _).1).trans hr)
      (fun hr => (congrArg Store.rising (foldl_moveFlit_arbs _ _).2).trans hr)
  exact (hv.onMortar (by exact id) (by exact id))

theorem Kept.runFabric {depth k : Nat} {want : Flit} (h : Kept s t) : Kept s (Machine.runFabric depth want k t) := by
  induction k generalizing t with
  | zero => exact h
  | succ k ih => exact .ite h (ih h.fabricCycle)

/-! ### Injection (14 R467, R468, R488) -/

theorem Kept.injectPacket {f : Flit} {n : Nat} (h : Kept s t) : Kept s (Machine.injectPacket f n t) :=
  .ite h (h.onMortar (by exact id) (by exact id))

theorem Kept.transitWith {depth : Nat} {f : Flit} {n : Nat} (h : Kept s t) : Kept s (Machine.transitWith depth f n t).1 := by
  unfold Machine.transitWith
  dsimp only
  exact (h.injectPacket.runFabric.onMortar (by exact id) (by exact id))

theorem Kept.transit {f : Flit} {n : Nat} (h : Kept s t) : Kept s (Machine.transit f n t).1 := h.transitWith

theorem Kept.injectAnswers {src dst : Nat} {tag type lines : Nat} (h : Kept s t) :
    Kept s (Machine.injectAnswers src dst tag type lines t) :=
  .foldl (fun _ _ h => h.injectPacket) h

theorem Kept.drainFrom {ring k : Nat} (h : Kept s t) : Kept s (Machine.drainFrom ring k t) := by
  induction k generalizing t with
  | zero => exact h
  | succ k ih => exact .ite (ih h.fabricCycle) h

theorem Kept.drainRing {ring : Nat} (h : Kept s t) : Kept s (Machine.drainRing ring t) := by
  unfold Machine.drainRing
  exact ((h.onMortar (by exact id) (by exact id)).drainFrom.onMortar (by exact id) (by exact id))

theorem Kept.discardFlits {ring stop : Nat} (h : Kept s t) : Kept s (Machine.discardFlits ring stop t).1 := by
  unfold Machine.discardFlits
  dsimp only
  exact (h.onMortar (by exact id) (by exact id))

theorem Kept.holdRequest {hdr : Held} (h : Kept s t) : Kept s (Machine.holdRequest hdr t) := by
  unfold Machine.holdRequest
  split
  · exact (h.onMortar (by exact id) (by exact id))
  · exact (h.onMortar (by exact id) (by exact id))

theorem Kept.dropHeld {hdr : Held} (h : Kept s t) : Kept s (Machine.dropHeld hdr t) :=
  (h.onMortar (by exact id) (by exact id)).settleHalts

theorem Kept.answerAsleep {d src type : Nat} (h : Kept s t) : Kept s (Machine.answerAsleep d src type t) :=
  .ite h.bump (h.bump.raise.onMortar (by exact id) (by exact id))

/-! ### READ_REQ, WRITE, MESSAGE -/

theorem Kept.countBytes {write : Bool} {a1 n : Nat} (h : Kept s t) : Kept s (Machine.countBytes write a1 n t) := by
  unfold Machine.countBytes
  split
  · exact h.bump
  · exact h

theorem Kept.readLine {src line : Nat} (h : Kept s t) : Kept s (Machine.readLine src t line) := by
  unfold Machine.readLine
  dsimp only
  split
  · exact .ite h.countBytes h.countBytes.metPoison
  · exact h.countBytes

theorem Kept.doRead {src : Nat} {lines : List Nat} {found : List MemError} (h : Kept s t) : Kept s (Machine.doRead src lines found t) :=
  .foldl (fun _ _ h => h.readLine) (.foldl (fun _ _ h => h.noteError) h)

theorem Kept.doWrite {cells : List (List Host.Cell)} {found : List MemError} (h : Kept s t) : Kept s (Machine.doWrite cells found t) :=
  .foldl (fun _ _ h => h.countBytes.writeLine) (.foldl (fun _ _ h => h.noteError) h)

theorem Kept.grantChannel {c input cycle : Nat} (h : Kept s t) : Kept s (Machine.grantChannel c input cycle t) :=
  (h.onMortar (by exact id) (by exact id))

theorem Kept.grantAt {a src : Nat} (h : Kept s t) : Kept s (Machine.grantAt a src t) := by
  unfold Machine.grantAt
  split
  · exact h.grantChannel
  · exact h

theorem Kept.enqueue {c : Nat} {pkt : Packet} {cells : List (List Host.Cell)} {lines : List Nat} {found : List MemError} (h : Kept s t) :
    Kept s (Machine.enqueue c pkt cells lines found t) :=
  (h.onMortar (by exact id) (by exact id))

/-! ### Responses (14 R462, R466, R475) -/

theorem Kept.tileTakes {src code a2 : Nat} (h : Kept s t) : Kept s (Machine.tileTakes src code a2 t) := by
  unfold Machine.tileTakes
  split
  · split
    · exact .ite h h.countExc.enterExc
    · exact h
  · exact h

theorem Kept.judgeTarget {e a : Nat} (h : Kept s t) : Kept s (Machine.judgeTarget e a t) := by
  unfold Machine.judgeTarget
  split
  · exact h
  · exact .ite h.onHod (.ite (.ite h.onHod h.onHod.channelFails) (.ite h.onHod.tileFault h.onHod))

theorem Kept.abandon {hdr : Held} (h : Kept s t) : Kept s (Machine.abandon hdr t) :=
  .dropHeld (by
    split
    · exact h.bump.busError.judgeTarget
    · exact .ite h.bump h.bump.tileTakes)

theorem Kept.answerRetry {hdr : Held} (h : Kept s t) : Kept s (Machine.answerRetry hdr t) :=
  .ite h.abandon (h.onMortar (by exact id) (by exact id))

theorem Kept.answerArrives {hdr : Held} {type line : Nat} (h : Kept s t) : Kept s (Machine.answerArrives hdr type line t).1 := h.transit

theorem Kept.linkFault {ring stop : Nat} {lockLost : Bool} (h : Kept s t) : Kept s (Machine.linkFault ring stop lockLost t) := by
  unfold Machine.linkFault
  split
  · exact (h.setObj.setObj.onMortar (by exact id) (by exact id))
  · exact .ite h h.setUnits
  · exact .ite h h.setUnits.setObj.setCause
  · exact h

theorem Kept.foldRing {ring : Nat} {b : Nat × Bool} (h : Kept s t) : Kept s (Machine.foldRing ring b t) :=
  .setCause (.raise (.foldl (fun _ _ h => h.injectPacket) (h.setObj.bump.onMortar (by exact id) (by exact id))))

/-! ### Arbiter tables (14 R478 to R485; 15 R514, R515) -/

theorem Kept.onArb {mc : Bool} {k : Nat} {f : Arb → Arb} (h : Kept s t) : Kept s (t.onArb mc k f) := by
  unfold State.onArb
  cases mc
  · exact h.onMortar Store.rising_putD id
  · exact h.onMortar id Store.rising_putD

theorem Kept.actArbTable {mc : Bool} {b : Bytes} (h : Kept s t) : Kept s (Machine.actArbTable mc b t).2 := by
  unfold Machine.actArbTable
  repeat' split
  · exact h
  · exact h
  · exact .foldl (fun _ _ h => h.onArb) (.ite h.bump h)

theorem Kept.actArbCommit {mc : Bool} (h : Kept s t) : Kept s (Machine.actArbCommit mc t).2 := .foldl (fun _ _ h => h.onArb) h

theorem Kept.staleArb {mc : Bool} {k : Nat} {b next : Int} (h : Kept s t) : Kept s (Machine.staleArb mc k b next t) := h.raise

theorem Kept.decideArb {mc : Bool} {b next : Int} {k : Nat} (h : Kept s t) : Kept s (Machine.decideArb mc b next t k) :=
  .ite h.onArb (.ite h.staleArb h)

/-! ### Link EDC (15 R505) -/

theorem Kept.mismatch {ch addr : Nat} (h : Kept s t) : Kept s (Machine.mismatch ch addr t) :=
  .ite (.logError (.setObj (.ite (h.onInteg (by exact id)).bump (h.onInteg (by exact id)))))
    (.ite (h.onInteg (by exact id)).bump (h.onInteg (by exact id)))

theorem Kept.performQueued {q : Queued} (h : Kept s t) : Kept s (Machine.performQueued q t) :=
  .ite (h.onMortar (by exact id) (by exact id)).doRead (h.onMortar (by exact id) (by exact id)).doWrite

theorem Kept.serveFrom {ch k cycle : Nat} (h : Kept s t) : Kept s (Machine.serveFrom ch k cycle t) := by
  induction k generalizing cycle t with
  | zero => exact h
  | succ k ih =>
    unfold Machine.serveFrom
    dsimp only
    split
    · exact .ite h (ih h)
    · split
      · exact ih h.performQueued.grantChannel
      · exact ih h

theorem Kept.serveQueue {ch : Nat} (h : Kept s t) : Kept s (Machine.serveQueue ch t) := h.serveFrom

theorem Kept.dropQueue {ch : Nat} (h : Kept s t) : Kept s (Machine.dropQueue ch t) := (h.onMortar (by exact id) (by exact id))

theorem Kept.scrubFinds {found : List MemError} {known : List Nat} (h : Kept s t) : Kept s (Machine.scrubFinds found known t) :=
  .foldl (fun _ _ h => h.metPoisonBy) (.foldl (fun _ _ h => h.noteError) h)

theorem Kept.passEnds (h : Kept s t) : Kept s (Machine.passEnds t) := .ite (h.bump.onInteg (by exact id)).settleRegime h

/-! ### Retirement (15 R523, R524) -/

theorem Kept.listPage {page : Nat} (h : Kept s t) : Kept s (Machine.listPage t page) := by
  unfold Machine.listPage
  split
  next x0 x1 hx =>
    have hx : Kept s x1 := Kept.snd h.free hx
    split
    · exact hx.retirePage
    · exact (hx.onInteg (by exact id)).setObj
    · exact hx

theorem Kept.unlistPage {page : Nat} (h : Kept s t) : Kept s (Machine.unlistPage t page) :=
  .setObj (.onInteg (.ite (h.setObj.onInteg (by exact id)) h) (by exact id))

theorem Kept.relist {before : List Nat} {after : List Nat} (h : Kept s t) : Kept s (Machine.relist before after t) :=
  .foldl (fun _ _ h => h.listPage) (.foldl (fun _ _ h => h.unlistPage) h)

theorem Kept.actRetiredPages {b : Bytes} (h : Kept s t) : Kept s (Machine.actRetiredPages b t).2 := by
  unfold Machine.actRetiredPages
  repeat' split
  · exact h
  · exact h
  · exact h.changeBlob.relist

theorem Kept.actRetiredBanks {b : Bytes} (h : Kept s t) : Kept s (Machine.actRetiredBanks b t).2 := h.changeBlob.relist

theorem Kept.errPop (h : Kept s t) : Kept s (Machine.errPop t) := (h.onInteg (by exact id))

theorem Kept.freeCode (h : Kept s t) : Kept s (Machine.freeCode t).2 := by
  unfold Machine.freeCode
  split
  next x0 x1 hx =>
    have hx : Kept s x1 := Kept.snd h.free hx
    exact hx

theorem Kept.releaseMute {scope unit : Nat} (h : Kept s t) : Kept s (Machine.releaseMute scope unit t).2 := by
  unfold Machine.releaseMute
  split
  · exact h
  · split
    · exact h
    · split
      · exact h
      · extract_lets u v
        have hu : Kept s u := .ite h h.completeMute
        exact hu.onGuard.showMutes.muteRecord

theorem Kept.actMuteRelease {v : Int} (h : Kept s t) : Kept s (Machine.actMuteRelease v t).2 := by
  unfold Machine.actMuteRelease
  split
  · exact h.releaseMute
  · split
    · exact h.releaseMute
    · split
      · exact h.releaseMute
      · split
        · exact h.releaseMute
        · exact h

theorem Kept.actGuardResync (h : Kept s t) : Kept s (Machine.actGuardResync t).2 := by
  unfold Machine.actGuardResync
  split
  · dsimp only
    exact h.onGuard
  · exact h

theorem Kept.copyChain {c d : Nat} (h : Kept s t) : Kept s (Machine.copyChain c d t) :=
  .setObj (.onChain (.changeBlob (.changeBlob (.foldl (fun _ _ h => h.change) h))))

theorem Kept.moveGang {b d : Nat} {g n : Nat} (h : Kept s t) : Kept s (Machine.moveGang b d g n t) := by
  unfold Machine.moveGang
  exact .onGuard (.foldl (fun _ _ h => h.resetChain) (.setDfe (.foldl (fun _ _ h => h.copyChain.setObj) h)))

theorem Kept.chainFault {c cause : Nat} (h : Kept s t) : Kept s (Machine.chainFault c cause t) :=
  .ite h (.ite (by
    split
    · exact h.onChain.moveGang.spareEngaged
    · exact h.onChain.unitLost) (.ite h.onChain.unitLost h.onChain))

theorem Kept.sliceOp {k : Nat} {e : Nat × Op} (h : Kept s t) : Kept s (Machine.sliceOp k t e) := by
  unfold Machine.sliceOp
  split
  · split
    · exact .ite h.stopTask h
    · exact h.setHod.rerunOp
  · exact h.rerunOp
  · exact h.rerunOp
  · exact .ite h.onOp.rerunOp h.onOp
  · exact h

theorem Kept.sliceFault {k cause : Nat} (h : Kept s t) : Kept s (Machine.sliceFault k cause t) :=
  .ite h (.resettle (.unitLost (.foldl (fun _ _ h => h.sliceOp) h.setUnits)))

/-! ### FAULT_CLEAR and the mute log (17 R567, R576) -/

theorem Kept.actFaultClear (h : Kept s t) : Kept s (Machine.actFaultClear t).2 := h.setObj

theorem Kept.mutePop (h : Kept s t) : Kept s (Machine.mutePop t) := h.onGuard

theorem Kept.onPower {f : Power → Power} (h : Kept s t) : Kept s (Machine.State.onPower t f) := h.setPower

theorem Kept.onRail {f : Rail → Rail} (h : Kept s t) : Kept s (Machine.State.onRail t f) := h.onPower

theorem Kept.onWatch {f : Watch → Watch} (h : Kept s t) : Kept s (Machine.State.onWatch t f) := h.onPower

theorem Kept.actHostVote {d : Nat} {v : Int} (h : Kept s t) : Kept s (Machine.actHostVote d v t).2 := by
  unfold Machine.actHostVote
  split
  · exact h
  · exact h.change

/-! ### The rail (18 R589, R590) -/

theorem Kept.railSettle (h : Kept s t) : Kept s (Machine.railSettle t) := .ite h.onRail h

theorem Kept.watchRest (h : Kept s t) : Kept s (Machine.watchRest t) := .ite h.setObj (.ite h.setObj h)

theorem Kept.failExchange {cause target : Nat} (h : Kept s t) : Kept s (Machine.failExchange cause target t) := by
  unfold Machine.failExchange
  exact .onRail (.foldl (fun _ _ h => h.setObj.onPower) (.ite h h.raise))

theorem Kept.succeedExchange {e : Exchange} (h : Kept s t) : Kept s (Machine.succeedExchange e t) := h.onRail.railSettle.watchRest

theorem Kept.timeoutExchange (h : Kept s t) : Kept s (Machine.timeoutExchange t) := by
  unfold Machine.timeoutExchange
  split
  · split
    · exact .ite h.failExchange h
    · exact h
  · exact h

/-! ### Transitions (18 R587, R588, R590) -/

theorem Kept.moveChans {d : Nat} {a1 b : Int} (h : Kept s t) : Kept s (Machine.moveChans d a1 b t) :=
  .foldl (fun _ _ h => .ite h.setObj h) h

theorem Kept.startTransition {d : Nat} (h : Kept s t) : Kept s (Machine.startTransition d t) :=
  .ite h (.railSettle (.foldl (fun _ _ h => h.showTile) (.ite (h.onPower.setObj.onMortar (by exact id) (by exact id)).moveChans.latchPads
    h.onPower.setObj)))

theorem Kept.loseContent {d : Nat} (h : Kept s t) : Kept s (Machine.loseContent d t) := by
  have hm : Kept s { t with mem := (domainTiles d).foldl (fun m i => memClear m (tileAddr i) 0x80000) t.mem } :=
    h.setMem (memory_foldl_wf fun _ _ => memClear_wf)
  exact .ite (hm.setMem memClear_wf) hm

theorem Kept.restoreContent {d was : Nat} (h : Kept s t) : Kept s (Machine.restoreContent d was t) :=
  .ite (.foldl (fun _ _ h => h.resetChain) (.ite (.foldl (fun _ _ h => h.loadTile) (.foldl (fun _ _ h => h.bringUp) h.moveChans))
    (.foldl (fun _ _ h => h.bringUp) h.moveChans))) (.ite (.foldl (fun _ _ h => h.loadTile) (.foldl (fun _ _ h => h.bringUp) h.moveChans))
      (.foldl (fun _ _ h => h.bringUp) h.moveChans))

theorem Kept.endTransition {d : Nat} {m : Transition} (h : Kept s t) : Kept s (Machine.endTransition d m t) :=
  .watchRest (.railSettle (.foldl (fun _ _ h => h.showTile) (.ite h.setObj.bump.setObj.onPower.loseContent
    (.ite h.setObj.bump.setObj.onPower.driveWithRun.restoreContent h.setObj.bump.setObj.onPower))))

/-! ### Watch mode (18 R592 to R599) -/

theorem Kept.drawEdge (h : Kept s t) : Kept s (Machine.drawEdge t) := by
  unfold Machine.drawEdge
  split
  next x0 x1 hx =>
    have hx : Kept s x1 := Kept.snd h.free hx
    exact hx.onWatch

theorem Kept.watchEnter (h : Kept s t) : Kept s (Machine.watchEnter t) := h.abandonGap.setObj.onWatch.drawEdge

theorem Kept.watchLeave (h : Kept s t) : Kept s (Machine.watchLeave t) := h.setObj.onWatch

theorem Kept.wakeEnds (h : Kept s t) : Kept s (Machine.wakeEnds t) := .ite h.watchLeave h.onWatch.watchRest

theorem Kept.watchHit {k : Nat} {measure : Int} (h : Kept s t) : Kept s (Machine.watchHit k measure t) :=
  .ite h.raise.onWatch.setObj h.raise.onWatch

theorem Kept.captureMeasure {k : Nat} (h : Kept s t) : Kept s (Machine.captureMeasure k t).2 := by
  unfold Machine.captureMeasure
  split
  · dsimp only
    exact .onChain (.ite h.free h)
  · dsimp only
    exact h.onWatch

theorem Kept.onBoot {f : Boot → Boot} (h : Kept s t) : Kept s (Machine.State.onBoot t f) := h.setBoot

theorem Kept.onFlash {f : Flash → Flash} (h : Kept s t) : Kept s (Machine.State.onFlash t f) := h.onBoot.setObj

theorem Kept.setBootState {v : Nat} (h : Kept s t) : Kept s (Machine.setBootState v t) := .foldl (fun _ _ h => h.send) h.setObj

theorem servoRules_sound : servoRules.Sound := fun h => ⟨h, h⟩

theorem nlRules_sound : nlRules.Sound := fun h => ⟨h.nlAccept, .ite h h.nlRelease⟩

theorem watchRules_sound : watchRules.Sound := fun h => ⟨h.watchEnter, .ite h.onWatch h.watchLeave⟩

theorem traceRules_sound : traceRules.Sound := fun h => ⟨h.setSched, h⟩

theorem carrierRules_sound (n : Nat) : (carrierRules n).Sound :=
  fun h => ⟨h.carrierAccept, .ite h.cancelWhere.closeEndless h.cancelWhere.closeEndless.carrierOff⟩

theorem portRules_sound (p : Nat) : (portRules p).Sound := fun h => ⟨h.portAccept, .ite h h.portOff⟩

theorem partRules_sound (p : Nat) : (partRules p).Sound := fun h => ⟨h.setOps, h⟩

theorem rulesOf_sound (key : Nat) : (rulesOf key).Sound := by
  intro s t h
  rcases rulesOf_cases key with hr | hr | ⟨-, hr⟩ | hr | ⟨n, -, hr⟩ | ⟨p, -, hr⟩ | ⟨p, hr⟩
  all_goals rw [hr]
  · exact servoRules_sound h
  · exact nlRules_sound h
  · exact watchRules_sound h
  · exact traceRules_sound h
  · exact carrierRules_sound n h
  · exact portRules_sound p h
  · exact partRules_sound p h

/-! ### Enables (05 R172, R178, R179) -/

theorem Kept.bootCheck {key : Nat} (h : Kept s t) : Kept s (Machine.bootCheck t key) :=
  .ite h.recordCheck.logEnable.raiseResolved (.resolveEnable (rulesOf_sound _) h)

theorem Kept.bootChecks (h : Kept s t) : Kept s (Machine.bootChecks t) := .foldl (fun _ _ h => h.bootCheck) h

theorem Kept.timeChecks (h : Kept s t) : Kept s (Machine.timeChecks t) := .foldl (fun _ _ h => .resolveEnable (rulesOf_sound _) h) h

theorem Kept.deferredCheck {key : Nat} (h : Kept s t) : Kept s (Machine.deferredCheck key t) :=
  .ite (.resolveEnable (rulesOf_sound _) h) h

theorem reset_canonical : Canonical State.reset := ⟨rfl, rfl, rfl, rfl, rfl, rfl, rfl, rfl⟩

theorem Kept.cleared {keeps : List Nat} (h : Kept s t) : Kept s (Machine.cleared keeps t) := by
  have hr : Kept s { State.reset with
      boot := { Boot.fresh with flash := t.boot.flash, fitted := t.boot.fitted, jtag := t.boot.jtag, powered := t.boot.powered
                                tripped := t.boot.tripped }
      link := { Link.down with sent := t.link.sent }
      guard := { Guard.starting with rtcOff := t.guard.rtcOff }, freeCtr := t.freeCtr, pending := t.pending } :=
    h.trans ⟨Eq.refl _, fun _ => reset_canonical⟩
  unfold Machine.cleared
  exact (Kept.foldl (fun _ _ h => h.setObj) hr).setBlob.setBlob.setObj

/-! ### What a reset clears (19 Table 19-1) -/

theorem Kept.cutBurn (h : Kept s t) : Kept s (Machine.cutBurn t) := by
  unfold Machine.cutBurn
  split
  · exact h.free.free.setObj.setObj
  · exact h

theorem Kept.onHostSlot {f : List Host.Cell → List Host.Cell} (h : Kept s t) : Kept s (Machine.onHostSlot f t) := h.onFlash

theorem Kept.cutFlash (h : Kept s t) : Kept s (Machine.cutFlash t) := by
  unfold Machine.cutFlash
  split
  · split
    next x0 x1 hx =>
      have hx : Kept s x1 := Kept.snd h.free hx
      exact hx.onHostSlot
  · split
    next x0 x1 hx =>
      have hx : Kept s x1 := Kept.snd h.free hx
      exact hx.onHostSlot
  · exact h

theorem Kept.endProgram {o : Nat} {b : Bytes} (h : Kept s t) : Kept s (Machine.endProgram o b t) := h.onHostSlot.change

theorem Kept.powerLost (h : Kept s t) : Kept s (Machine.powerLost t) := by
  unfold Machine.powerLost
  exact h.cutBurn.cutFlash.cleared.onBoot.onGuard

theorem Kept.applyEntry {e : Nat × Bytes} (h : Kept s t) : Kept s (Machine.applyEntry t e) := by
  unfold Machine.applyEntry
  split
  · split
    · exact h.bump.setObj.setImage
    · exact h.bump.setBlob.setImageBlobs
  · exact .bump (.ite h.setBlob h)

theorem Kept.takeArb {mc : Bool} (h : Kept s t) : Kept s (Machine.takeArb mc t) := .ite h (.foldl (fun _ _ h => h.onArb) h)

theorem Kept.takeValues (h : Kept s t) : Kept s (Machine.takeValues t) :=
  .setSvc (.foldl (fun _ _ h => h.setObj) (.squelch (.squelch (.foldl (fun _ _ h => .ite h h.onChain)
    (.foldl (fun _ _ h => h.setObj.setVls) h.takeArb.takeArb.onRail.setClock)))))

theorem Kept.trySlot {k : Nat} (h : Kept s t) : Kept s (Machine.trySlot k t).2 := by
  unfold Machine.trySlot
  dsimp only
  split
  · exact h.setObj.setObj
  · exact h.setObj

theorem Kept.chooseSlot (h : Kept s t) : Kept s (Machine.chooseSlot t).2 := by
  unfold Machine.chooseSlot
  extract_lets c trial u first
  have hu : Kept s u := .ite h.onFlash (.ite h.onFlash h.onFlash)
  split
  next u1 e => exact hu.trySlot.snd e
  next u1 e =>
    have h1 : Kept s u1 := hu.trySlot.snd e
    extract_lets u2
    have h2 : Kept s u2 := .ite h1.onFlash h1
    split
    next e2 => exact h2.trySlot.snd e2
    next e2 => exact h2.trySlot.snd e2

theorem Kept.trainChannel {c : Nat} (h : Kept s t) : Kept s (Machine.trainChannel t c) := .ite h.setObj.setObj.setObj h.setObj

theorem Kept.bootMemory (h : Kept s t) : Kept s (Machine.bootMemory t) := by
  unfold Machine.bootMemory
  extract_lets u v total w j i x y pages
  have hv : Kept s v := .foldl (fun _ _ h => h.trainChannel) h.setObj
  have hw : Kept s w := hv.setObj
  clear_value w
  exact .setObj (.foldl (fun _ _ h => h.retirePage) (hw.setInteg (by rfl)).setObj)

theorem Kept.bootLoad {i : SiteImage} (h : Kept s t) : Kept s (Machine.bootLoad i t) := .foldl (fun _ _ h => h.loadTile) h.onBoot

theorem Kept.freshNonce (h : Kept s t) : Kept s (Machine.freshNonce t) := by
  unfold Machine.freshNonce
  split
  next x0 x1 hx =>
    have hx : Kept s x1 := Kept.snd h.freeBytes hx
    exact hx.setBlob

/-! ### Cold reset and boot (19 R603 to R608) -/

theorem Kept.trainModules (h : Kept s t) : Kept s (Machine.trainModules t) := h.setModule.setModule

theorem Kept.bootTo {cause : Nat} (h : Kept s t) : Kept s (Machine.bootTo cause t) := by
  unfold Machine.bootTo
  extract_lets u1 u2 u3 u4 u5 u6
  have h3 : Kept s u3 := h.setObj.setBootState.onRail
  have h6 : Kept s u6 := h3.setObj.freshNonce.onBoot.setBootState
  clear_value u6
  split
  next k u e =>
    have hu : Kept s u := h6.chooseSlot.snd e
    extract_lets i v1 v2 sc v3 v4
    have h2 : Kept s v2 := hu.onBoot.setObj.setObj.setObj
    have h3 : Kept s v3 := h2.setSched
    have h4 : Kept s v4 := .takeValues (.foldl (fun _ _ h => h.applyEntry) h3)
    exact h4.setObj.setBootState.bootMemory.bootLoad.setBootState
  next u e => exact (h6.chooseSlot.snd e).setObj.setObj.setObj.takeValues.trainModules.setBootState.bootChecks

theorem Kept.bootReady (h : Kept s t) : Kept s (Machine.bootReady t) :=
  .ite h (by
    split
    next x0 x1 hx =>
      have hx : Kept s x1 := Kept.snd h.trainModules.free hx
      exact hx.setObj.setBootState.bootChecks)

theorem Kept.keepGddr7 {old : State} (h : Kept s t) (ho : Memory.wf old.mem = true) : Kept s (Machine.keepGddr7 old t) :=
  (h.setMem fun _ => Store.wf_filter _ _ _ ho).setInteg (by rfl)

theorem Kept.coldReset {cause : Nat} (h : Kept s t) : Kept s (Machine.coldReset cause t) := by
  have hr : Kept s (Machine.cleared coldKeeps (Machine.cutFlash (Machine.cutBurn t))) := h.cutBurn.cutFlash.cleared
  have hk : Kept s (Machine.keepGddr7 t (Machine.cleared coldKeeps (Machine.cutFlash (Machine.cutBurn t)))) :=
    ⟨hr.pending, fun hs => (hr.keepGddr7 (h.canonical hs).1).canonical hs⟩
  exact .bootReady (.bootTo (.bump (.ite hk hr)))

theorem Kept.powerOn (h : Kept s t) : Kept s (Machine.powerOn t) := h.powerLost.onBoot.bootTo.bootReady

/-! ### Warm reset (04 R141; 06 R207; 15 R511, R512; 19 R604, R606, R646) -/

theorem Kept.discardVersions {key : Nat} (h : Kept s t) : Kept s (Machine.discardVersions key t) := .foldl (fun _ _ h => h.onHarq.bump) h

theorem Kept.restoreCourse {key : Nat} (h : Kept s t) : Kept s (Machine.restoreCourse t key) := by
  unfold Machine.restoreCourse
  split
  · exact h
  · exact .ite (.discardVersions (.ite h.onCourse h.onCourse.causeAt)) (.issueGraph (.discardVersions (.ite h.onCourse h.onCourse.causeAt)))

theorem Kept.restoreCourses (h : Kept s t) : Kept s (Machine.restoreCourses t) :=
  .resettle (.foldl (fun _ _ h => h.restoreCourse) (h.setPipe (by rfl)))

theorem Kept.finishWrite {w : JournalWrite} (h : Kept s t) : Kept s (Machine.finishWrite t w) :=
  .ite (by
    split
    · exact h.verdictWritten
    · exact h.outcomeWritten) h

theorem Kept.quiesceJournal (h : Kept s t) : Kept s (Machine.quiesceJournal t) :=
  .foldl (fun _ _ h => h.finishWrite) h.suspendSession.onLink

theorem Kept.quiesceChannel0 (h : Kept s t) : Kept s (Machine.quiesceChannel0 t) := by
  unfold Machine.quiesceChannel0
  extract_lets u v
  have hv : Kept s v := h.bump.onLink
  split
  · exact hv.bump.setSvc
  · exact hv.setSvc

theorem Kept.quiesceFlash (h : Kept s t) : Kept s (Machine.quiesceFlash t) :=
  .setObj (.setObj (.onBoot (.cutBurn (by
    split
    · exact h.endProgram
    · exact h.cutFlash))))

theorem Kept.clearUnits (h : Kept s t) : Kept s (Machine.clearUnits t) := by
  unfold Machine.clearUnits
  refine .foldl (fun _ _ h => h.loadTile.showTile) (.setObj (h.trans ⟨Eq.refl _, fun c => ?_⟩))
  obtain ⟨c1, c2, c3, c4, c5, c6, c7, c8⟩ := c
  exact ⟨memClear_wf (memClear_wf c1), c2, c3, c4, c5, c6, c7, c8⟩

theorem Kept.restoreEnable {key : Nat} (h : Kept s t) : Kept s (Machine.restoreEnable t key) :=
  .ite h.unlist.setObj.setObj (.ite (.deferredCheck (.ite h.nlRelease.shutDone
    (.ite h.servoStopped (.ite h.carrierOff.shutDone (.ite h.portOff.shutDone h.shutDone))))) (.ite (.resolveEnable (rulesOf_sound _) h) h))

theorem Kept.restartPorts (h : Kept s t) : Kept s (Machine.restartPorts t) := .foldl (fun _ _ h => .ite h.setObj.linkLost.bringUp h) h

theorem Kept.restartPower (h : Kept s t) : Kept s (Machine.restartPower t) :=
  .foldl (fun _ _ h => .ite h.driveWithRun h) (.foldl (fun _ _ h => .ite h.setObj h) h.setPower)

theorem Kept.restartMemory (h : Kept s t) : Kept s (Machine.restartMemory t) := by
  unfold Machine.restartMemory
  extract_lets u v
  have hu : Kept s u := .foldl (fun _ _ h => .ite h.setObj h) h
  have hv : Kept s v := .ite hu.setObj hu
  clear_value v
  have hw : Kept s (v.setObj O.memRegime 3) := hv.setObj
  exact (hw.setInteg (by rfl))

theorem Kept.warmFrom {cause : Nat} (h : Kept s t) : Kept s (Machine.warmFrom cause t) := by
  unfold Machine.warmFrom
  exact .setBootState (.restoreCourses (.restartPower (.trainModules
    (.foldl (fun _ _ h => h.restoreEnable) (.restartMemory (.restartPorts
      (.clearUnits (.setBootState (.ite (.setObj (.setNl (.quiesceJournal
        (.quiesceFlash (.quiesceChannel0 (.foldl (fun _ _ h => h.latchPads) h.bump.setObj))))))
          (.setNl (.quiesceJournal (.quiesceFlash (.quiesceChannel0 (.foldl (fun _ _ h => h.latchPads) h.bump.setObj))))))))))))))

theorem Kept.warmReset {cause : Nat} (h : Kept s t) : Kept s (Machine.warmReset cause t) := .ite h.warmFrom h.coldReset

/-! ### Update (19 R619, R620) -/

theorem Kept.startUpdate {u : Update} (h : Kept s t) : Kept s (Machine.startUpdate u t) := by
  unfold Machine.startUpdate
  split
  · exact h.onBoot.setObj
  · exact h.onBoot.setObj.setObj.setObj

theorem Kept.actImgErase (h : Kept s t) : Kept s (Machine.actImgErase t).2 := by
  unfold Machine.actImgErase
  split
  · exact h
  · dsimp only
    exact h.startUpdate

theorem Kept.actImgData {data : Bytes} (h : Kept s t) : Kept s (Machine.actImgData data t).2 := by
  unfold Machine.actImgData
  dsimp only
  split
  · exact h
  · split
    · exact h
    · dsimp only
      exact h.startUpdate

theorem Kept.actImgVerify (h : Kept s t) : Kept s (Machine.actImgVerify t).2 := by
  unfold Machine.actImgVerify
  split
  · exact h
  · dsimp only
    exact h.startUpdate

theorem Kept.endUpdate {u : Update} (h : Kept s t) : Kept s (Machine.endUpdate u t) := by
  unfold Machine.endUpdate
  split
  · exact h.onBoot.setObj.onHostSlot
  · exact h.onBoot.setObj.endProgram
  · exact h.onBoot.setObj.setObj.setObj

theorem Kept.actImgActivate (h : Kept s t) : Kept s (Machine.actImgActivate t).2 := by
  unfold Machine.actImgActivate
  split
  · dsimp only
    exact h.onFlash
  · exact h

theorem Kept.actImgConfirm (h : Kept s t) : Kept s (Machine.actImgConfirm t).2 := .ite h.onFlash h

theorem Kept.actRollbackCommit (h : Kept s t) : Kept s (Machine.actRollbackCommit t).2 := by
  unfold Machine.actRollbackCommit
  split
  · exact h
  · exact h.onBoot.setObj

/-! ### Attestation (19 R622 to R624) -/

theorem Kept.appendLeaf {r : LeafRecord} (h : Kept s t) : Kept s (Machine.appendLeaf r t) := h.onBoot

theorem Kept.advanceTree (h : Kept s t) : Kept s (Machine.advanceTree t) := by
  unfold Machine.advanceTree
  exact h.setObj.appendLeaf.onBoot

theorem Kept.reserveLeaf (h : Kept s t) : Kept s (Machine.reserveLeaf t) :=
  .ite (.appendLeaf (.ite h.advanceTree h)) (.ite h.advanceTree h)

theorem Kept.actAttestRequest (h : Kept s t) : Kept s (Machine.actAttestRequest t).2 := by
  unfold Machine.actAttestRequest
  split
  · exact h
  · exact h.onBoot.setBlob

theorem Kept.actOwnerProgram {hash : Bytes} (h : Kept s t) : Kept s (Machine.actOwnerProgram hash t).2 := by
  unfold Machine.actOwnerProgram
  split
  · exact h
  · exact .ite h.setBlob.setObj.setObj h.setBlob

theorem Kept.actDebugToken {data : Bytes} (h : Kept s t) : Kept s (Machine.actDebugToken data t).2 := by
  unfold Machine.actDebugToken
  split
  · exact h
  · exact .freshNonce (.ite h.setObj h)

theorem Kept.actDebugClose (h : Kept s t) : Kept s (Machine.actDebugClose t).2 := h.setObj.setObj

theorem Kept.onJtag {f : Jtag → Jtag} (h : Kept s t) : Kept s (Machine.State.onJtag t f) := h.onBoot

/-! ### One unit fault of a class (17 Table 17-4) -/

theorem Kept.loseSpareEngine {e : EngineClass} (he : e.Sound) {n : Nat} (h : Kept s t) : Kept s (Machine.loseSpareEngine e n t) :=
  .spareGone (.setObj (he h).2)

theorem Kept.hodLost {e cause : Nat} (h : Kept s t) : Kept s (Machine.hodLost e cause t) :=
  .unitLost (.foldl (fun _ _ h => h.abandonCopies) (.foldl (fun _ _ h => h.abortChain) h.onHod.setObj.setObj))

theorem Kept.laneFault {l : Nat} (h : Kept s t) : Kept s (Machine.laneFault l t) :=
  .foldl (fun _ _ h => .ite h.portDown h.bringUp) h.setFh

theorem Kept.coreFault {n cause : Nat} (h : Kept s t) : Kept s (Machine.coreFault n cause t) := h.setUnits.unitLost

theorem Kept.failUnit {cls n cause : Nat} (h : Kept s t) : Kept s (Machine.failUnit cls n cause t) := by
  refine .ite (h.loseSpareEngine (engineClassOf_sound cls)) (.ite h ?_)
  split
  · exact .ite h.loseSpare h.tileFault
  · exact h.kilnFault kdClass_sound
  · exact h.kilnFault keClass_sound
  · exact h.layerFault
  · exact h.failed xeClass_sound
  · exact h.hodLost
  · exact h.chainFault
  · exact h.sliceFault
  · exact h.laneFault.unitLost
  · exact h.coreFault

theorem Kept.actUnitRetire {v : Int} (h : Kept s t) : Kept s (Machine.actUnitRetire v t).2 := by
  unfold Machine.actUnitRetire
  dsimp only
  split
  · exact h
  · exact h.failUnit

/-! ### Injection (17 R578) -/

theorem Kept.noteInjected {kind u : Nat} (h : Kept s t) : Kept s (Machine.noteInjected kind u t) := h.onGuard

theorem Kept.inject {kind u : Nat} (h : Kept s t) : Kept s (Machine.inject kind u t) := by
  unfold Machine.inject
  split
  · exact .ite h.noteInjected.failUnit h
  · exact .ite h.noteInjected.linkFault h
  · exact .ite h.noteInjected.dropQueue.channelFails h
  · exact .ite h.noteInjected.loseModule h
  · exact .ite h h.noteInjected.laneFault
  · exact .ite h.detect h.detect
  · exact h.onGuard

theorem Kept.actInjArm (h : Kept s t) : Kept s (Machine.actInjArm t).2 := by
  unfold Machine.actInjArm
  dsimp only
  repeat' split
  · exact h
  · exact h
  · exact h
  · exact h.inject.bump.setObj

theorem Kept.restoreUnit {cls n : Nat} (h : Kept s t) : Kept s (Machine.restoreUnit cls n t) := by
  unfold Machine.restoreUnit
  extract_lets u
  have hu : Kept s u := h.onGuard
  split
  · exact hu.setObj.setObj.setObj.setObj.setObj
  · exact hu.setObj
  · exact hu.onChain
  · exact hu.setUnits
  · exact (engineClassOf_sound _ hu).2.setObj

theorem Kept.restoreLink {ring stop : Nat} (h : Kept s t) : Kept s (Machine.restoreLink ring stop t) :=
  .ite (by
    split
    · exact .ite h.setUnits.setObj.setObj h.setUnits.setObj
    · exact (h.setObj.setObj.onMortar (by exact id) (by exact id))) (.ite h.setUnits.setObj h.setUnits)

theorem Kept.restoreKind {kind u : Nat} (h : Kept s t) : Kept s (Machine.restoreKind kind u t) := by
  unfold Machine.restoreKind
  split
  · exact h.restoreUnit
  · exact h.restoreLink
  · exact .ite h.setObj h
  · exact h.retrainModule
  · exact .foldl (fun _ _ h => .ite h h.bringUp) h.setFh

theorem Kept.actInjRestore (h : Kept s t) : Kept s (Machine.actInjRestore t).2 := by
  unfold Machine.actInjRestore
  dsimp only
  split
  · exact h.restoreKind.onGuard.setObj
  · exact h

theorem Kept.popRest {key : Nat} (h : Kept s t) : Kept s (Machine.popRest key t) := by
  unfold Machine.popRest
  exact .ite h.onNl (.ite h.setSvc (.ite h.errPop (.ite h.mutePop (.ite h.tracePop h.onTime))))

/-- Every action that a table offers keeps what every command keeps. -/
def ActsKept (o : Option Action) : Prop := ∀ a ∈ o, ∀ {s t : State}, Kept s t → Kept s (a t).2

namespace ActsKept
theorem none : ActsKept .none := fun _ h => absurd h (Option.not_mem_none _)

theorem some {a : Action} (ha : ∀ {s t : State}, Kept s t → Kept s (a t).2) : ActsKept (.some a) := by
  intro b hb
  cases hb
  exact ha

theorem ite {c : Prop} [Decidable c] {o o' : Option Action} (h1 : ActsKept o) (h2 : ActsKept o') : ActsKept (if c then o else o') := by
  split
  · exact h1
  · exact h2
end ActsKept

theorem actLow_kept (key : Nat) (v : Val) : ActsKept (Machine.actLow key v) :=
  .ite (.some fun h => h.actImgErase) <|
    .ite (.some fun h => h.actImgData) <|
    .ite (.some fun h => h.actImgVerify) <|
    .ite (.some fun h => h.actImgActivate) <|
    .ite (.some fun h => h.actImgConfirm) <|
    .ite (.some fun h => h.actAuthMode) <|
    .ite (.some fun h => h.actLegacyMode) <|
    .ite (.some fun h => h.actServoChecked) <|
    .ite (.some fun h => h.actTriggerTarget) <|
    .ite (.some fun h => h.actSteer) <|
    .ite (.some fun h => h.actOutLane) <|
    .ite (.some fun h => h.actOutLane) <|
    .ite (.some fun h => h.actAirEpoch) <|
    .ite (.some fun h => h.actSessionHold) <|
    .none

theorem actMid_kept (key : Nat) (v : Val) : ActsKept (Machine.actMid key v) :=
  .ite (.some fun h => h.actUeContext) <|
    .ite (.some fun h => h.actUeRelease) <|
    .ite (.some fun h => h.actWbDefine) <|
    .ite (.some fun h => h.actWbWeights) <|
    .ite (.some fun h => h.actWbCommit) <|
    .ite (.some fun h => h.actFwdRules) <|
    .ite (.some fun h => h.actOwdStart) <|
    .ite (.some fun h => h.actResetSend) <|
    .ite (.some fun h => h.actDfeResetAll) <|
    .ite (.some fun h => h.actTaps) <|
    .ite (.some fun h => h.actTapsCommit) <|
    .ite (.some fun h => h.actTileVl) <|
    .ite (.some fun h => h.actBondMode) <|
    .none

theorem actHigh_kept (key : Nat) (v : Val) : ActsKept (Machine.actHigh key v) :=
  .ite (.some fun h => h.actArbTable) <|
    .ite (.some fun h => h.actArbTable) <|
    .ite (.some fun h => h.actArbCommit) <|
    .ite (.some fun h => h.actArbCommit) <|
    .ite (.some fun h => h.actRetiredPages) <|
    .ite (.some fun h => h.actRetiredBanks) <|
    .ite (.some fun h => h.actHodRelease) <|
    .ite (.some fun h => h.actDiagStart) <|
    .ite (.some fun h => h.actDiagStop) <|
    .ite (.some fun h => h.actHostVote) <|
    .ite (.some fun h => h.actGuardResync) <|
    .ite (.some fun h => h.actMuteRelease) <|
    .ite (.some fun h => h.actFaultClear) <|
    .ite (.some fun h => h.actUnitRetire) <|
    .ite (.some fun h => h.actInjArm) <|
    .ite (.some fun h => h.actInjRestore) <|
    .ite (.some fun h => h.actOwnerProgram) <|
    .ite (.some fun h => h.actRollbackCommit) <|
    .ite (.some fun h => h.actAttestRequest) <|
    .ite (.some fun h => h.actDebugToken) <|
    .ite (.some fun h => h.actDebugClose) <|
    .none

theorem tableActs_kept (key : Nat) (v : Val) :
    ActsKept (if key < 0x300000 then actLow key v else if key < 0x600000 then actMid key v else actHigh key v) :=
  .ite (actLow_kept key v) (.ite (actMid_kept key v) (actHigh_kept key v))

theorem Kept.actOf {key : Nat} {v : Val} (h : Kept s t) : Kept s (Machine.actOf key v t).2 := by
  have ht := tableActs_kept key v
  unfold Machine.actOf
  generalize (if key < 0x300000 then actLow key v else if key < 0x600000 then actMid key v else actHigh key v) = o at ht
  split
  · exact h.write (rulesOf_sound key)
  · split
    · exact h
    · cases o with
      | none => exact h.plainWrite
      | some a => exact ht a (Eq.refl _) h

theorem Kept.readStart {seq key : Nat} {layer most : Nat} {value : Bytes} (h : Kept s t) :
    Kept s (Machine.readStart seq key layer most value t) :=
  .ite (.popRest (.replyRead (.ite h.setSvc h))) (.replyRead (.ite h.setSvc h))

theorem Kept.readOn {seq key : Nat} {layer offset most : Nat} (h : Kept s t) : Kept s (Machine.readOn seq key layer offset most t) := by
  unfold Machine.readOn
  split
  · exact .ite h.setSvc.countReply.send h.replyRead
  · exact h.replyRead

theorem Kept.serveRead {seq key : Nat} {layer offset most : Nat} (h : Kept s t) :
    Kept s (Machine.serveRead seq key layer offset most t) := by
  unfold Machine.serveRead
  split
  · exact .ite h.readStart h.readOn
  · exact h.replyRead

/-! ### Writes and reverts (05 R161, R168, R171) -/

theorem Kept.applyValue {r : ObjRow} {key : Nat} {data : Bytes} (h : Kept s t) : Kept s (Machine.applyValue r key data t).2 := by
  unfold Machine.applyValue
  split
  · exact h.actOf
  · exact h

theorem Kept.writeSegment {r : ObjRow} {key offset total : Nat} {data : Bytes} (h : Kept s t) :
    Kept s (Machine.writeSegment r key offset total data t).2 := by
  unfold Machine.writeSegment
  dsimp only
  split
  · exact h
  · split
    · exact h.discardBuffer.setSvc
    · split
      · split
        · exact h.setSvc
        · exact Kept.applyValue h.setSvc
      · exact h.straySegment

theorem Kept.writeObject {r : ObjRow} {key offset : Nat} {count total : Nat} {data : Bytes} (h : Kept s t) :
    Kept s (Machine.writeObject r key offset count total data t).2 := by
  unfold Machine.writeObject
  split
  · split
    · exact h.applyValue
    · exact h.writeSegment
  · exact h

theorem Kept.revertOne {r : ObjRow} {key op : Nat} (h : Kept s t) : Kept s (Machine.revertOne r key op t).2 := by
  unfold Machine.revertOne
  split
  · exact h.actOf
  · exact h

theorem Kept.revertEach {op : Nat} {l : List (Nat × ObjRow)} (h : Kept s t) : Kept s (Machine.revertEach op l t).2 := by
  induction l generalizing t with
  | nil => exact h
  | cons x l ih =>
    unfold Machine.revertEach
    split
    · exact ih h.change
    · split
      next e => exact ih (h.actOf.snd e)
      · exact h

theorem Kept.revertIndex {index op : Nat} (h : Kept s t) : Kept s (Machine.revertIndex index op t).2 := by
  unfold Machine.revertIndex
  dsimp only
  split
  · split
    next e =>
      split
      · exact h
      · exact h.revertEach.snd e
    · exact h
  · exact h

theorem Kept.judgeWrite {key op offset count total : Nat} {data : Bytes} (h : Kept s t) :
    Kept s (Machine.judgeWrite key op offset count total data t).2 := by
  unfold Machine.judgeWrite
  repeat' split
  · exact h
  · exact h
  · exact h
  · exact h.revertIndex
  · exact h
  · exact h
  · exact h.writeObject
  · exact h.revertOne

theorem Kept.afterWrite {key op : Nat} {r : Reason} {data : Bytes} (h : Kept s t) : Kept s (Machine.afterWrite key op r data t) :=
  .ite (.ite h.warmReset h.coldReset) h

theorem Kept.serveWrite {seq key : Nat} {op offset : Nat} {count total : Nat} {data : Bytes} (h : Kept s t) :
    Kept s (Machine.serveWrite seq key op offset count total data t) :=
  h.judgeWrite.replyWrite.afterWrite

/-! ### The service (05 R166; 18 R597; 19 R609, R646) -/

theorem Kept.serve {seq : Nat} {i : Transfer} (h : Kept s t) : Kept s (Machine.serve seq i t) := by
  unfold Machine.serve
  split
  · exact h.expireSegments.serveRead
  · exact h.expireSegments.serveWrite
  · exact h.expireSegments.handleResume

theorem Kept.serveList {l : List (Nat × Transfer)} (h : Kept s t) : Kept s (Machine.serveList l t) := by
  induction l generalizing t with
  | nil => exact h
  | cons x l ih => exact .ite h.serve.setSvc (.ite (ih h.serve) h.serve)

theorem Kept.serveHeld (h : Kept s t) : Kept s (Machine.serveHeld t) := .ite h.setSvc.serveList h

theorem Kept.serveLatched (h : Kept s t) : Kept s (Machine.serveLatched t) := .ite h.setSvc.serveList.setObj h

theorem Kept.arrive {x0 : Xfer} {i : Transfer} (h : Kept s t) : Kept s (Machine.arrive x0 i t) :=
  .ite h.advance.serve.serveHeld h.advance.holdTransfer

theorem Kept.afterReset (h : Kept s t) : Kept s (Machine.afterReset t) := .serveHeld (.ite h h.setObj)

theorem Kept.wakeStarts (h : Kept s t) : Kept s (Machine.wakeStarts t) := by
  unfold Machine.wakeStarts
  exact h.advanceToAir.bump.setObj.onWatch

theorem Kept.takeMessage {m : HostMsg} (h : Kept s t) : Kept s (Machine.takeMessage m t) := by
  unfold Machine.takeMessage
  split
  · exact .courseArrival (fun h => h.courseMessage) h
  · exact .courseArrival (fun h => h.tbData) h
  · exact h.ackArrival
  · exact h.arrive
  · exact h.arrive
  · exact h.takeResume

theorem Kept.takeBytes {b : Bytes} (h : Kept s t) : Kept s (Machine.takeBytes b t) := by
  unfold Machine.takeBytes
  split
  · exact h.takeMessage
  · exact .ite h.bump h.discard

theorem Kept.receiveUnits {m k : Nat} {search : Bool} {b : Bytes} (h : Kept s t) : Kept s (Machine.receiveUnits m k search b t) := by
  induction k generalizing search b t with
  | zero => exact h.onLink
  | succ k ih => exact .ite h.onLink (.ite (ih h) (.ite (ih h) (.ite (ih h.bump) (.ite h.onLink (ih h.takeBytes)))))

theorem Kept.receiveStretch {m : Nat} {units : Bytes} (h : Kept s t) : Kept s (Machine.receiveStretch m units t) := h.receiveUnits

theorem Kept.sidePiece {m : Nat} {data : Bytes} (h : Kept s t) : Kept s (Machine.sidePiece m data t) :=
  .ite h.onLink.bump (.ite h.onLink h.onLink.takeBytes)

end Sys2Proof.Machine
end

/-! PROOFS of O55 to O58: the part as a whole. -/
section
namespace Sys2Proof.Machine
open Sys2Proof.Safety
variable {s t : State}

theorem packetOk_eq_wf (pkt : Packet) : packetOk pkt = pkt.wf := Eq.refl _

theorem Runs.onTile {ok : Bool} {i : Nat} {f : Ctx → State → State} (hi : ok = true → i < 200)
    (hf : ∀ {c u}, Kept s u → Kept s (f c u)) (h : Kept s t) : Runs ok s (Machine.onTile i t f) := by
  refine .guard (fun hw => Nat.not_le.mpr (hi hw)) ?_
  split
  · exact .ite (.next h) (.next (hf h))
  · exact .next h

theorem Kept.mergeOutput {i : Nat} {j : FusedJob} {p : Ctx × State} {x : Nat × Bytes} (h : Kept s p.2) :
    Kept s (Machine.mergeOutput i j p x).2 := by
  unfold Machine.mergeOutput
  split
  · split
    · exact h.storeBytes
    · exact h
  · exact h

theorem Kept.storePiece {p : Piece} {data : Bytes} {lost : Bool} {m : Moved} (h : Kept s m.state) :
    Kept s (Machine.storePiece p data lost m).state := by
  unfold Machine.storePiece
  split
  · exact .ite h.writeLine.poisonBytes h.writeLine
  · exact h

theorem Kept.copyPiece {p : Piece} {m : Moved} (h : Kept s m.state) : Kept s (Machine.copyPiece p m).state := by
  unfold Machine.copyPiece
  split
  · exact h
  · exact Kept.storePiece (m := { m with state := _ }) (.foldl (fun _ _ h => h.metPoison) h)

theorem Kept.movePieces {d : Descriptor} {l : List Piece} (h : Kept s t) : Kept s (Machine.movePieces d l t).state := by
  unfold Machine.movePieces
  generalize hm : (⟨t, 0, 0, none, none⟩ : Moved) = m
  replace h : Kept s m.state := hm ▸ h
  clear hm
  induction l generalizing m with
  | nil => exact h
  | cons p l ih =>
    refine ih _ ?_
    dsimp only
    split
    · exact h
    · split
      · exact h.storePiece
      · exact h.copyPiece

theorem Kept.finishDesc {unit : Nat} {c : Chain} {m : Moved} (h : Kept s m.state) : Kept s (Machine.finishDesc unit c m) := by
  unfold Machine.finishDesc
  dsimp only
  split
  · exact h.bump.bump.bump.onHodChain.endChain
  · exact h.bump.bump.bump.onHodChain.onHodChain

/-! ### Pulse inputs (01 R24 to R31) -/

theorem Kept.execPpsInEdge {dt lowNs sub : Nat} (h : Kept s t) :
    Runs (Instr.ppsInEdge dt lowNs sub).wf s (Machine.execPpsInEdge dt lowNs sub t) :=
  .ite (.next h.advance.bump) (by
    split
    · exact .ite (.next h.advance.expectedEdge.ppsToServo.capture.refreshQualified) (.next h.advance.stray.refreshQualified)
    · split
      · exact .ite (.next h.advance.expectedEdge.ppsToServo.capture.refreshQualified) (.next h.advance.onPulse)
      · exact .next h.advance.onPulse)

theorem Kept.execPulseRequalify {i : PulseInput} (h : Kept s t) : Runs (Instr.pulseRequalify i).wf s (Machine.execPulseRequalify i t) :=
  .next (.ite (.refreshQualified (.setObj (.ite h.advanceTo h))) (.ite h.advanceTo h))

theorem Kept.execPpsLoss {i : PulseInput} {dt heldNs : Nat} (h : Kept s t) :
    Runs (Instr.ppsLoss i dt heldNs).wf s (Machine.execPpsLoss i dt heldNs t) :=
  .ite (by
    split
    · exact .next h.advance.setObj.onPulse.raise.refreshQualified
    · exact .next h.advance.setObj.onPulse.raise) (.next h.advance)

theorem Kept.execTodFrameRx {dt : Nat} {frame : Bytes} (h : Kept s t) :
    Runs (Instr.todFrameRx dt frame).wf s (Machine.execTodFrameRx dt frame t) := by
  unfold Machine.execTodFrameRx
  dsimp only
  split
  · exact .next h.advance
  · exact .ite (.next h.advance.onTime) (by
      split
      · exact .ite (.next h.advance.labelEdge.refreshQualified) (.next h.advance)
      · exact .next h.advance)

theorem Kept.execWaitToRestoreExpiry {x0 : Source} (h : Kept s t) :
    Runs (Instr.waitToRestoreExpiry x0).wf s (Machine.execWaitToRestoreExpiry x0 t) := by
  unfold Machine.execWaitToRestoreExpiry
  split
  · exact .next h
  · exact .next (.ite h.advanceTicks.onServo h.advanceTicks)

theorem Kept.execLimitWindowClosure (h : Kept s t) : Runs (Instr.limitWindowClosure).wf s (Machine.execLimitWindowClosure t) :=
  .next (.ite (.onServo (.ite h.advanceToAir h)) h)

/-! ### Authorised corrections (01 R45 to R48) -/

theorem Kept.execWriteAuthMode {x0 : Xfer} {v : Int} (h : Kept s t) :
    Runs (Instr.writeAuthMode x0 v).wf s (Machine.execWriteAuthMode x0 v t) :=
  .next (.hostWrite (fun h => h.actAuthMode) h)

theorem Kept.execAuthExpiry (h : Kept s t) : Runs (Instr.authExpiry).wf s (Machine.execAuthExpiry t) :=
  .ite (.next h.advanceTicks.setObj.onServo) (.next h)

theorem Kept.execAuthStepDecision (h : Kept s t) : Runs (Instr.authStepDecision).wf s (Machine.execAuthStepDecision t) := by
  unfold Machine.execAuthStepDecision
  split
  · exact .ite (.ite (.next h.setObj.onServo) (.next h.setObj.onServo)) (.next h)
  · exact .next h

theorem Kept.execGuardStepConfirm {ask : GuardAsk} (h : Kept s t) :
    Runs (Instr.guardStepConfirm ask).wf s (Machine.execGuardStepConfirm ask t) :=
  .ite (.next h) (by
    split
    · exact .next h.onServo
    · exact .next h.setClock)

theorem Kept.execAuthStepApply (h : Kept s t) : Runs (Instr.authStepApply).wf s (Machine.execAuthStepApply t) := by
  unfold Machine.execAuthStepApply
  split
  · exact .next h
  · exact .ite (.next (.ite h.advanceTo.stepCounter.onServo.leaveLocked.enterAcquire h.advanceTo.stepCounter.onServo)) (.next h.advanceTo)

/-! ### Triggers, PPS_OUT, captures (01 R62 to R65) -/

theorem Kept.execTriggerFire {n : Nat} (h : Kept s t) : Runs (Instr.triggerFire n).wf s (Machine.execTriggerFire n t) :=
  .guard (by simp +contextual [Instr.wf]) (.ite (.next h.advanceTo.fireTrigger) (.next h))

theorem Kept.execWriteTriggerTarget {x0 : Xfer} {n : Nat} {v : Int} (h : Kept s t) :
    Runs (Instr.writeTriggerTarget x0 n v).wf s (Machine.execWriteTriggerTarget x0 n v t) :=
  .guard (by simp +contextual [Instr.wf]) (.next (.hostWrite (fun h => h.actTriggerTarget) h))

theorem Kept.execReadCapFifo {x0 : Xfer} {n : Nat} (h : Kept s t) : Runs (Instr.readCapFifo x0 n).wf s (Machine.execReadCapFifo x0 n t) :=
  .guard (by simp +contextual [Instr.wf]) (.next (.hostPop (fun h => h.onTime) h))

theorem Kept.execPpsOutPulse (h : Kept s t) : Runs (Instr.ppsOutPulse).wf s (Machine.execPpsOutPulse t) :=
  .next (.ite h.advanceTo.onTime.onTime h.advanceTo.onTime)

theorem Kept.execNanosecondsWrap (h : Kept s t) : Runs (Instr.nanosecondsWrap).wf s (Machine.execNanosecondsWrap t) := .next h.advanceTo

theorem Kept.execWriteLegacyMode {x0 : Xfer} {v : Int} (h : Kept s t) :
    Runs (Instr.writeLegacyMode x0 v).wf s (Machine.execWriteLegacyMode x0 v t) :=
  .next (.hostWrite (fun h => h.actLegacyMode) h)

theorem Kept.execPtpMessageRx {dt p : Nat} {hdr : PtpHead} {m : PtpMsg} (h : Kept s t) :
    Runs (Instr.ptpMessageRx dt p hdr m).wf s (Machine.execPtpMessageRx dt p hdr m t) :=
  .guard (by simp +contextual [Instr.wf]) (.next (.ite h.advance.ptpHear.refreshQualified h.advance))

theorem Kept.execPtpMessageTx {p : Nat} {m : PtpOut} (h : Kept s t) : Runs (Instr.ptpMessageTx p m).wf s (Machine.execPtpMessageTx p m t) :=
  .guard (by simp +contextual [Instr.wf]) (.ite (.next h) (by
    split
    · split
      · exact .next h.advanceTicks.ptpLeave
      · exact .next h
    · split
      · exact .next h.advanceTicks.ptpLeave
      · exact .next h
    · split
      · exact .next h.advanceTicks.ptpLeave
      · exact .next h
    · exact .next h.ptpLeave))

theorem Kept.execSynceOutputResume {out : Nat} (h : Kept s t) :
    Runs (Instr.synceOutputResume out).wf s (Machine.execSynceOutputResume out t) :=
  .guard (by simp +contextual [Instr.wf]) (by
    split
    · exact .next h
    · exact .next h.advanceTicks.setObj)

/-! ### SERVO_ENABLE, the source priorities and PTP_ROLE (01 R67) -/

theorem Kept.execWriteServoEnable {x0 : Xfer} {v : Int} (h : Kept s t) :
    Runs (Instr.writeServoEnable x0 v).wf s (Machine.execWriteServoEnable x0 v t) :=
  .next (.hostWrite (fun h => h.write servoRules_sound) h)

theorem Kept.execWriteSourcePriority {x0 : Xfer} {src : Source} {v : Int} (h : Kept s t) :
    Runs (Instr.writeSourcePriority x0 src v).wf s (Machine.execWriteSourcePriority x0 src v t) :=
  .next (.hostWrite (fun h => h.actServoChecked) h)

theorem Kept.execWritePtpRole {x0 : Xfer} {v : Int} (h : Kept s t) :
    Runs (Instr.writePtpRole x0 v).wf s (Machine.execWritePtpRole x0 v t) :=
  .next (.hostWrite (fun h => h.actServoChecked) h)

theorem Kept.execWriteAirEpoch {x0 : Xfer} {v : Int} (h : Kept s t) :
    Runs (Instr.writeAirEpoch x0 v).wf s (Machine.execWriteAirEpoch x0 v t) :=
  .next (.hostWrite (fun h => h.actAirEpoch) h)

theorem Kept.execAirEpochApply (h : Kept s t) : Runs (Instr.airEpochApply).wf s (Machine.execAirEpochApply t) := by
  unfold Machine.execAirEpochApply
  split
  · exact .next h
  · exact .ite (.next h.advanceTo.setClock) (.next h.advanceTo)

/-! ### Weight-bank entries (08 R287 to R291) -/

theorem Kept.execWbDefine {x0 : Xfer} (h : Kept s t) : Runs (Instr.wbDefine x0).wf s (Machine.execWbDefine x0 t) :=
  .next (.hostWrite (fun h => h.actWbDefine) h)

theorem Kept.execWbDelete {x0 : Xfer} (h : Kept s t) : Runs (Instr.wbDelete x0).wf s (Machine.execWbDelete x0 t) :=
  .next (.hostWrite (fun h => h.actWbDefine) h)

theorem Kept.execWriteWbWeights {x0 : Xfer} {data : Bytes} (h : Kept s t) :
    Runs (Instr.writeWbWeights x0 data).wf s (Machine.execWriteWbWeights x0 data t) :=
  .next (.hostWrite (fun h => h.actWbWeights) h)

theorem Kept.execWbCommit {x0 : Xfer} (h : Kept s t) : Runs (Instr.wbCommit x0).wf s (Machine.execWbCommit x0 t) :=
  .next (.hostWrite (fun h => h.actWbCommit) h)

theorem Kept.execWbCopyComplete {entry : Nat} (h : Kept s t) :
    Runs (Instr.wbCopyComplete entry).wf s (Machine.execWbCopyComplete entry t) :=
  .next (by
    split
    · exact .ite (.ite h.onWb h.onWb.bump) h
    · exact h)

theorem Kept.execWbSwapDecision {entry : Nat} (h : Kept s t) :
    Runs (Instr.wbSwapDecision entry).wf s (Machine.execWbSwapDecision entry t) := by
  unfold Machine.execWbSwapDecision
  split
  · exact .next h
  · split
    · exact .next h.advanceToAir.onWb.staleBank
    · exact .next (.ite h.advanceToAir.onWb.staleBank h.advanceToAir.onWb)
    · exact .ite (.next h.advanceToAir.onWb) (.next h.advanceToAir.onWb.staleBank)

theorem Kept.execWbSwapBoundary {entry : Nat} (h : Kept s t) :
    Runs (Instr.wbSwapBoundary entry).wf s (Machine.execWbSwapBoundary entry t) := by
  unfold Machine.execWbSwapBoundary
  split
  · exact .next h
  · exact .next h.advanceToAir.bump.onWb.retireBanks

/-! ### Transforms (06 R188) -/

theorem Kept.execLeOperationEnd {tag : Nat} (h : Kept s t) : Runs (Instr.leOperationEnd tag).wf s (Machine.execLeOperationEnd tag t) := by
  unfold Machine.execLeOperationEnd
  split
  · exact .ite (.next h.layerEnd) (.next h)
  · split
    · exact .ite (.next (.fusedEnd (.ite h.bump h))) (.next h)
    · exact .next h

theorem Kept.execLeCancelToken {tag : Nat} (h : Kept s t) : Runs (Instr.leCancelToken tag).wf s (Machine.execLeCancelToken tag t) := by
  unfold Machine.execLeCancelToken
  split
  · exact .ite (.next (.ackCancel (.bump (.ite h.bump h)))) (.next h)
  · split
    · exact .ite (.next (.fusedCancel (.bump (.ite h h.bump)))) (.ite (.next h.fusedCancel) (.next h))
    · exact .next h

theorem Kept.execLeEngineFault {n : Nat} (h : Kept s t) : Runs (Instr.leEngineFault n).wf s (Machine.execLeEngineFault n t) :=
  .guard (by simp +contextual [Instr.wf]) (.next h.layerFault)

theorem Kept.execXeEngineFault {n : Nat} (h : Kept s t) : Runs (Instr.xeEngineFault n).wf s (Machine.execXeEngineFault n t) :=
  .guard (by simp +contextual [Instr.wf]) (.next (h.failed xeClass_sound))

theorem Kept.execKilnFeed {tag arrived : Nat} (h : Kept s t) :
    Runs (Instr.kilnFeed tag arrived).wf s (Machine.execKilnFeed tag arrived t) :=
  .next h.feedKiln

theorem Kept.execKilnAttemptEnd {tag : Nat} {b : Boundary} (h : Kept s t) :
    Runs (Instr.kilnAttemptEnd tag b).wf s (Machine.execKilnAttemptEnd tag b t) :=
  .next h.attemptEnd

theorem Kept.execKilnCancelToken {tag : Nat} (h : Kept s t) :
    Runs (Instr.kilnCancelToken tag).wf s (Machine.execKilnCancelToken tag t) := by
  unfold Machine.execKilnCancelToken
  split
  · exact .ite (.next h.cancelJob) (.next h)
  · split
    · exact .ite (.next h.cancelJob) (.next h)
    · exact .next h

theorem Kept.execKilnEngineFault {kind : KilnKind} {n : Nat} (h : Kept s t) :
    Runs (Instr.kilnEngineFault kind n).wf s (Machine.execKilnEngineFault kind n t) := by
  unfold Machine.execKilnEngineFault
  split
  · exact .guard (by simp +contextual [Instr.wf]) (.next (h.kilnFault kdClass_sound))
  · exact .guard (by simp +contextual [Instr.wf]) (.next (h.kilnFault keClass_sound))

theorem Kept.execDispatch {tag unit : Nat} (h : Kept s t) : Runs (Instr.dispatch tag unit).wf s (Machine.execDispatch tag unit t) := by
  unfold Machine.execDispatch
  dsimp only
  split
  · exact .next h
  · exact .ite (.next h) (.ite (.next h) (by
      split
      · exact .next h.decision
      · exact .ite (.next h.decision.dispatchOp) (.next h)))

theorem Kept.execPromotion {tag : Nat} (h : Kept s t) : Runs (Instr.promotion tag).wf s (Machine.execPromotion tag t) := by
  unfold Machine.execPromotion
  split
  · exact .ite (.next h.advanceToAir.bump.onOp.traceOp) (.next h)
  · exact .next h

theorem Kept.execOperationEnd {tag : Nat} {how : TaskEnd} (h : Kept s t) :
    Runs (Instr.operationEnd tag how).wf s (Machine.execOperationEnd tag how t) := by
  unfold Machine.execOperationEnd
  split
  · exact .ite (.next h) (by
      split
      · exact .next h.endOp
      · exact .ite (.next h.endOp) (.ite (.next (by
          split
          · exact .endOp (.ite h.encodeEnd h)
          · exact .ite h.encodeEnd h)) (.next h)))
  · exact .next h

theorem Kept.execOperationLsExpiry {tag : Nat} (h : Kept s t) :
    Runs (Instr.operationLsExpiry tag).wf s (Machine.execOperationLsExpiry tag t) := by
  unfold Machine.execOperationLsExpiry
  split
  · exact .ite (.ite (.next h.advanceToAir.settle) (.next h.advanceToAir.expireOp.resettle)) (.next h)
  · exact .next h

theorem Kept.execOperationLfCancel {tag : Nat} (h : Kept s t) :
    Runs (Instr.operationLfCancel tag).wf s (Machine.execOperationLfCancel tag t) := by
  unfold Machine.execOperationLfCancel
  split
  · exact .ite (.next h.advanceToAir.cancelAtLf) (.next h)
  · exact .next h

theorem Kept.execPrefetchWaitExpiry {i : Nat} (h : Kept s t) :
    Runs (Instr.prefetchWaitExpiry i).wf s (Machine.execPrefetchWaitExpiry i t) :=
  .ite (.next h.advanceTicks.abandonCopies) (.next h)

theorem Kept.execWritePartEnable {x0 : Xfer} {p : Nat} {v : Int} (h : Kept s t) :
    Runs (Instr.writePartEnable x0 p v).wf s (Machine.execWritePartEnable x0 p v t) :=
  .guard (by simp +contextual [Instr.wf]) (.next (.hostWrite (fun h => h.write (partRules_sound _)) h))

theorem Kept.execWriteTraceEnable {x0 : Xfer} {v : Int} (h : Kept s t) :
    Runs (Instr.writeTraceEnable x0 v).wf s (Machine.execWriteTraceEnable x0 v t) :=
  .next (.hostWrite (fun h => h.write traceRules_sound) h)

theorem Kept.execReadTraceRecords {x0 : Xfer} (h : Kept s t) : Runs (Instr.readTraceRecords x0).wf s (Machine.execReadTraceRecords x0 t) :=
  .next (.hostPop (fun h => h.tracePop) h)

/-! ### Arrival (04 R119, R125, R128, R145) -/

theorem Kept.execCourseTentative {hdr : CourseHdr} {tbBytes : Nat} {desc : Bytes} (h : Kept s t) :
    Runs (Instr.courseTentative hdr tbBytes desc).wf s (Machine.execCourseTentative hdr tbBytes desc t) :=
  .next (.courseArrival (fun h => h.courseMessage) h)

theorem Kept.execCourseRevise {hdr : CourseHdr} {tbBytes : Nat} {desc : Bytes} (h : Kept s t) :
    Runs (Instr.courseRevise hdr tbBytes desc).wf s (Machine.execCourseRevise hdr tbBytes desc t) :=
  .next (.courseArrival (fun h => h.courseMessage) h)

theorem Kept.execCourseBind {hdr : CourseHdr} (h : Kept s t) : Runs (Instr.courseBind hdr).wf s (Machine.execCourseBind hdr t) :=
  .next (.courseArrival (fun h => h.courseMessage) h)

theorem Kept.execCourseCancel {hdr : CourseHdr} (h : Kept s t) : Runs (Instr.courseCancel hdr).wf s (Machine.execCourseCancel hdr t) :=
  .next (.courseArrival (fun h => h.courseMessage) h)

theorem Kept.execDlTbData {hdr : CourseHdr} {handle offset : Nat} {data : Bytes} (h : Kept s t) :
    Runs (Instr.dlTbData hdr handle offset data).wf s (Machine.execDlTbData hdr handle offset data t) :=
  .next (.courseArrival (fun h => h.tbData) h)

/-! ### The life of a course (03 R107, R112) -/

theorem Kept.execCourseAutoBind {chan course : Nat} (h : Kept s t) :
    Runs (Instr.courseAutoBind chan course).wf s (Machine.execCourseAutoBind chan course t) := by
  unfold Machine.execCourseAutoBind
  split
  · exact .ite (.next h.advanceToAir.bindCourse) (.next h)
  · exact .next h

theorem Kept.execCourseInAir {chan course : Nat} (h : Kept s t) :
    Runs (Instr.courseInAir chan course).wf s (Machine.execCourseInAir chan course t) := by
  unfold Machine.execCourseInAir
  split
  · exact .ite (.next h.advanceToAir.onCourse) (.next h)
  · exact .next h

theorem Kept.execCourseEgressComplete {chan course : Nat} (h : Kept s t) :
    Runs (Instr.courseEgressComplete chan course).wf s (Machine.execCourseEgressComplete chan course t) := by
  unfold Machine.execCourseEgressComplete
  split
  · exact .ite (.next h.advanceToAir.onCourse.resettle) (.next h)
  · exact .next h

theorem Kept.execWriteNlEnable {x0 : Xfer} {v : Int} (h : Kept s t) :
    Runs (Instr.writeNlEnable x0 v).wf s (Machine.execWriteNlEnable x0 v t) :=
  .next (.hostWrite (fun h => h.write nlRules_sound) h)

theorem Kept.execNlDetection {dt metric : Nat} {pci type : Nat} {centreHz : Int} (h : Kept s t) :
    Runs (Instr.nlDetection dt metric pci type centreHz).wf s (Machine.execNlDetection dt metric pci type centreHz t) :=
  .ite (.next h.advance) (by
    split
    · exact .next h.advance.onNl
    · exact .ite (.ite (.next h.advance.onNl.raise) (.next h.advance.bump.onNl)) (.next h.advance))

theorem Kept.execNlReceptionCommit {basis : NlBasis} {clippedPermille : Nat} (h : Kept s t) :
    Runs (Instr.nlReceptionCommit basis clippedPermille).wf s (Machine.execNlReceptionCommit basis clippedPermille t) := by
  unfold Machine.execNlReceptionCommit
  split
  · exact .next h
  · exact .ite (.next h) (.ite (.next h.bump.onNl) (.next (.ite h.onNl h)))

theorem Kept.execListenGapClose (h : Kept s t) : Runs (Instr.listenGapClose).wf s (Machine.execListenGapClose t) :=
  .ite (.next h) (.next h.advanceToAir.onNl.nlIdle)

theorem Kept.execReadMcRecord {x0 : Xfer} (h : Kept s t) : Runs (Instr.readMcRecord x0).wf s (Machine.execReadMcRecord x0 t) :=
  .next (.hostPop (fun h => h.onNl) h)

/-! ### Coefficient banks (10 R341 to R343) -/

theorem Kept.execWriteTaps {x0 : Xfer} {chain : Nat} {path : Sys2Proof.Path} {data : Bytes} (h : Kept s t) :
    Runs (Instr.writeTaps x0 chain path data).wf s (Machine.execWriteTaps x0 chain path data t) :=
  .guard (by simp +contextual [Instr.wf]) (.next (.hostWrite (fun h => h.actTaps) h))

theorem Kept.execCommitTaps {x0 : Xfer} {chain : Nat} {path : Sys2Proof.Path} (h : Kept s t) :
    Runs (Instr.commitTaps x0 chain path).wf s (Machine.execCommitTaps x0 chain path t) :=
  .guard (by simp +contextual [Instr.wf]) (.next (.hostWrite (fun h => h.actTapsCommit) h))

theorem Kept.execCoefSwapDecision {chain : Nat} (h : Kept s t) :
    Runs (Instr.coefSwapDecision chain).wf s (Machine.execCoefSwapDecision chain t) :=
  .guard (by simp +contextual [Instr.wf]) (.ite (.next h) (.next h.advanceToAir.onChain.decidePath.decidePath))

theorem Kept.execCoefFadeStart {chain : Nat} (h : Kept s t) : Runs (Instr.coefFadeStart chain).wf s (Machine.execCoefFadeStart chain t) :=
  .guard (by simp +contextual [Instr.wf]) (.ite (.next h.advanceToAir.startFade.startFade) (.next h))

theorem Kept.execCoefFadeEnd {chain : Nat} (h : Kept s t) : Runs (Instr.coefFadeEnd chain).wf s (Machine.execCoefFadeEnd chain t) :=
  .guard (by simp +contextual [Instr.wf]) (.ite (.next h.advanceToAir.endFade.endFade) (.next h))

theorem Kept.execCoefCopyComplete {chain : Nat} (h : Kept s t) :
    Runs (Instr.coefCopyComplete chain).wf s (Machine.execCoefCopyComplete chain t) :=
  .guard (by simp +contextual [Instr.wf]) (.next h.copyDone.copyDone)

theorem Kept.execCoefCrcCheck {chain : Nat} {path : Sys2Proof.Path} {ok : Bool} (h : Kept s t) :
    Runs (Instr.coefCrcCheck chain path ok).wf s (Machine.execCoefCrcCheck chain path ok t) :=
  .guard (by simp +contextual [Instr.wf]) (.ite (by
    split
    · exact .next (.ite h.checkCrcs.takeCrcInjection.bump.detect h.checkCrcs.takeCrcInjection.bump)
    · exact .next h.checkCrcs.takeCrcInjection.bump) (.next h.checkCrcs))

theorem Kept.execDfeSyncEdge {dt lowNs : Nat} (h : Kept s t) :
    Runs (Instr.dfeSyncEdge dt lowNs).wf s (Machine.execDfeSyncEdge dt lowNs t) := by
  unfold Machine.execDfeSyncEdge
  split
  next x0 x1 hx =>
    have hx : Kept s x0 := Kept.fst h.advance.qualifyDfeSync hx
    exact .next (.ite hx.syncReset hx)

theorem Kept.execDfeResetAll {x0 : Xfer} (h : Kept s t) : Runs (Instr.dfeResetAll x0).wf s (Machine.execDfeResetAll x0 t) :=
  .next (.hostWrite (fun h => h.actDfeResetAll) h)

theorem Kept.execDfeCommandReset (h : Kept s t) : Runs (Instr.dfeCommandReset).wf s (Machine.execDfeCommandReset t) := by
  unfold Machine.execDfeCommandReset
  split
  · exact .next h
  · exact .next (.setDfe (.bump (.foldl (fun _ _ h => h.resetChain) h.advanceToAir)))

theorem Kept.execThrBlockEnd {chain : Nat} (h : Kept s t) : Runs (Instr.thrBlockEnd chain).wf s (Machine.execThrBlockEnd chain t) :=
  .guard (by simp +contextual [Instr.wf]) (.ite (.next h) (by
    split
    · exact .next h
    · split
      next x0 x1 hx =>
        have hx : Kept s x1 := Kept.snd h.free hx
        exact .ite (.next (.setObj (.onChain (.ite hx h)))) (.next (by
          split
          · exact .ite (.onChain (.onChain (.setObj (.onChain (.ite hx h))))) (.raiseThreshold (.onChain (.setObj (.onChain (.ite hx h)))))
          · exact .raiseThreshold (.onChain (.setObj (.onChain (.ite hx h))))))))

theorem Kept.execThrHoldoffEnd {chain : Nat} (h : Kept s t) : Runs (Instr.thrHoldoffEnd chain).wf s (Machine.execThrHoldoffEnd chain t) :=
  .guard (by simp +contextual [Instr.wf]) (by
    split
    · exact .next h
    · exact .next (.ite h.advanceTicks.onChain.raiseThreshold h.advanceTicks.onChain))

theorem Kept.execTxWindowOpen {n : Nat} (h : Kept s t) : Runs (Instr.txWindowOpen n).wf s (Machine.execTxWindowOpen n t) :=
  .guard (by simp +contextual [Instr.wf]) (.ite (.next h) (.ite (.next (.ite h.setObj h)) (by
    dsimp only
    split
    · exact .next h
    · split
      · exact .next h.advanceToAir.setDfe.setObj
      · exact .next h.advanceToAir.setDfe.bump)))

theorem Kept.execTxWindowClose {n : Nat} (h : Kept s t) : Runs (Instr.txWindowClose n).wf s (Machine.execTxWindowClose n t) :=
  .guard (by simp +contextual [Instr.wf]) (.ite (.next h) (by
    split
    · exact .next h.advanceToAir.setObj
    · exact .next h))

theorem Kept.execTxgateEdge {g : Nat} {active : Bool} (h : Kept s t) :
    Runs (Instr.txgateEdge g active).wf s (Machine.execTxgateEdge g active t) :=
  .guard (by simp +contextual [Instr.wf]) (.ite (.next h.setGate)
    (.ite (.next h.setGate) (.ite (.next h) (.ite (.next (.ite (.ite h h.setGate) (.ite h.setGate h))) (.ite (.next (.ite h h.setGate)) (.ite (by
    split
    · exact .next (.ite h.advanceToAir.setGate h.advanceToAir)
    · exact .next h) (by
        split
        · exact .next h.advanceToAir.setGate
        · exact .next h)))))))

theorem Kept.execListenGapOpen (h : Kept s t) : Runs (Instr.listenGapOpen).wf s (Machine.execListenGapOpen t) :=
  .ite (.next (.foldl (fun _ _ h => .ite h.setObj h) h.gapOpen)) (.next h.gapOpen)

theorem Kept.execNlResultWritten {m : NlMeasure} (h : Kept s t) :
    Runs (Instr.nlResultWritten m).wf s (Machine.execNlResultWritten m t) := by
  unfold Machine.execNlResultWritten
  split
  · exact .next h
  next c closed rest _ =>
    extract_lets u delay tRx nb
    have hu : Kept s u := h.refreshQualified
    clear_value nb u
    split
    next off v e =>
      have hv : Kept s v := by
        refine Kept.snd ?_ e
        split
        · exact hu
        · exact hu.free
      split
      next shown w e =>
        have hw : Kept s w := hv.fitSigned.snd e
        exact .next (.refreshQualified (.ite (.nlIdle (.onNl (.foldl (fun _ _ h => h.setObj) hw.setObj.bump)))
          (.onNl (.foldl (fun _ _ h => h.setObj) hw.setObj.bump))))

theorem Kept.execWritePortEnable {x0 : Xfer} {p : Nat} {v : Int} (h : Kept s t) :
    Runs (Instr.writePortEnable x0 p v).wf s (Machine.execWritePortEnable x0 p v t) :=
  .guard (by simp +contextual [Instr.wf]) (.next (.hostWrite (fun h => h.write (portRules_sound _)) h))

theorem Kept.execPortShutdownComplete {p : Nat} (h : Kept s t) :
    Runs (Instr.portShutdownComplete p).wf s (Machine.execPortShutdownComplete p t) :=
  .guard (by simp +contextual [Instr.wf]) (.ite (.next h.advanceTicks.portOff.shutDone) (.next h))

/-! ### Launches (09 R311 to R316; 17 R556, R557) -/

theorem Kept.execUplaneLaunch {chan course : Nat} {symbol k bytes : Nat} {power : Int} (h : Kept s t) :
    Runs (Instr.uplaneLaunch chan course symbol k bytes power).wf s (Machine.execUplaneLaunch chan course symbol k bytes power t) :=
  .guard (by simp [Instr.wf]; omega) (by
    dsimp only
    split
    · exact .next h
    · exact .ite (.next h) (.next h.advanceToAir.launchSymbol))

theorem Kept.execUpTxLate {chan course symbol : Nat} (h : Kept s t) :
    Runs (Instr.upTxLate chan course symbol).wf s (Machine.execUpTxLate chan course symbol t) :=
  .guard (by simp [Instr.wf]; omega) (by
    dsimp only
    split
    · exact .next h
    · exact .ite (.next h) (by
        split
        · exact .next h
        · exact .next (.onCourse (.notSent (.ite h.advanceToAir.bump h.advanceToAir)))))

theorem Kept.execDlCplaneSend {chan course rec bytes : Nat} (h : Kept s t) :
    Runs (Instr.dlCplaneSend chan course rec bytes).wf s (Machine.execDlCplaneSend chan course rec bytes t) := by
  refine .guard (by simp [Instr.wf]; omega) ?_
  dsimp only
  split
  · exact .next h
  · refine .ite (.next h) (.ite ?_ ?_)
    · split
      · exact .next h.advanceToAir.sendCplane
      · exact .next h
    · split
      · exact .next h.advanceToAir.sendCplane
      · exact .next h

theorem Kept.execUlCplaneSend {chan course bytes : Nat} (h : Kept s t) :
    Runs (Instr.ulCplaneSend chan course bytes).wf s (Machine.execUlCplaneSend chan course bytes t) :=
  .guard (by simp [Instr.wf]; omega) (by
    dsimp only
    split
    · exact .next h
    · exact .ite (.next h) (.next h.advanceToAir.sendCplane))

theorem Kept.execUplaneMessageRx {dt p : Nat} {m : IqMsg} (h : Kept s t) :
    Runs (Instr.uplaneMessageRx dt p m).wf s (Machine.execUplaneMessageRx dt p m t) :=
  .guard (by simp +contextual [Instr.wf]) (.ite (.next h.advance) (.ite (.next h.advance.malformed) (.ite (.next h.advance.listenSamples) (by
    split
    · exact .next (.foldl (fun _ _ h => h.watchTake) h.advance.bump)
    · exact .ite (.next h.advance.judgeSeq.malformed) (.ite (.next h.advance.judgeSeq.bump)
        (.ite (.next h.advance.judgeSeq.bump) (.next (.ite h.advance.judgeSeq.bump
          (.ite h.advance.judgeSeq.bump.timeSamples h.advance.judgeSeq.bump.symbolIn)))))))))

theorem Kept.execUlWindowClose {chan course symbol : Nat} (h : Kept s t) :
    Runs (Instr.ulWindowClose chan course symbol).wf s (Machine.execUlWindowClose chan course symbol t) :=
  .guard (by simp [Instr.wf]; omega) (by
    dsimp only
    split
    · exact .next h
    · exact .ite (.next h) (.ite (.next h.advanceToAir.resettle) (.next (.resettle (.onCourse (.ite h.advanceToAir.causeAt h.advanceToAir))))))

theorem Kept.execFrameRx {dt p : Nat} {f : Frame} (h : Kept s t) : Runs (Instr.frameRx dt p f).wf s (Machine.execFrameRx dt p f t) :=
  .guard (by simp +contextual [Instr.wf]) (.ite (.next h.advance)
    (.ite (.next (.bump (.bump (.bump (.ite h.advance h.advance.capture.onPort)))))
      (.ite (.next (.malformed (.bump (.bump (.ite h.advance h.advance.capture.onPort)))))
        (.ite (.next (.ite (.bump (.bump (.ite h.advance h.advance.capture.onPort)))
          (.malformed (.bump (.bump (.ite h.advance h.advance.capture.onPort))))))
            (.ite (.next (.bump (.bump (.ite h.advance h.advance.capture.onPort))))
              (.ite (.next (.bump (.bump (.ite h.advance h.advance.capture.onPort))))
                (.next (.forward (.bump (.bump (.ite h.advance h.advance.capture.onPort)))))))))))

theorem Kept.execWriteFwdRules {x0 : Xfer} {data : Bytes} (h : Kept s t) :
    Runs (Instr.writeFwdRules x0 data).wf s (Machine.execWriteFwdRules x0 data t) :=
  .next (.hostWrite (fun h => h.actFwdRules) h)

/-! ### One-way delay and remote reset (09 R319, R320) -/

theorem Kept.execOwdStartRequest {x0 : Xfer} (h : Kept s t) : Runs (Instr.owdStartRequest x0).wf s (Machine.execOwdStartRequest x0 t) :=
  .next (.hostWrite (fun h => h.actOwdStart) h)

theorem Kept.execOwdStartFollowUp {x0 : Xfer} (h : Kept s t) : Runs (Instr.owdStartFollowUp x0).wf s (Machine.execOwdStartFollowUp x0 t) :=
  .next (.hostWrite (fun h => h.actOwdStart) h)

theorem Kept.execOneWayDelayMsgRx {dt p : Nat} {src id : Nat} {action : OwdAction} {timePs compPs : Int} (h : Kept s t) :
    Runs (Instr.oneWayDelayMsgRx dt p src id action timePs compPs).wf s (Machine.execOneWayDelayMsgRx dt p src id action timePs compPs t) :=
  .guard (by simp +contextual [Instr.wf]) (.ite (.next h.advance) (by
    split
    · exact .next (.ite h.advance.sendSmall h.advance)
    · exact .next (.ite h.advance.onFh h.advance)
    · exact .ite (.next h.advance.onFh.sendSmall) (.next h.advance)
    · exact .next (.ite h.advance.startOwd h.advance)
    · exact .next (.ite h.advance.startOwd h.advance)
    · split
      · exact .ite (.next h.advance.setBlob.onFh) (.next h.advance)
      · exact .next h.advance))

theorem Kept.execOwdTimeout (h : Kept s t) : Runs (Instr.owdTimeout).wf s (Machine.execOwdTimeout t) := by
  unfold Machine.execOwdTimeout
  split
  · exact .next h
  · split
    next x0 x1 hx =>
      have hx : Kept s x1 := Kept.snd h.advanceTicks.free hx
      exact .next hx.setBlob.onFh

theorem Kept.execRemoteResetSend {x0 : Xfer} (h : Kept s t) : Runs (Instr.remoteResetSend x0).wf s (Machine.execRemoteResetSend x0 t) :=
  .next (.hostWrite (fun h => h.actResetSend) h)

theorem Kept.execRemoteResetResponseRx {dt p id : Nat} (h : Kept s t) :
    Runs (Instr.remoteResetResponseRx dt p id).wf s (Machine.execRemoteResetResponseRx dt p id t) :=
  .guard (by simp +contextual [Instr.wf]) (by
    dsimp only
    split
    · exact .ite (.next h.advance.setObj.onFh) (.next h.advance)
    · exact .next h.advance)

theorem Kept.execRemoteResetTimeout (h : Kept s t) : Runs (Instr.remoteResetTimeout).wf s (Machine.execRemoteResetTimeout t) := by
  unfold Machine.execRemoteResetTimeout
  split
  · exact .next h
  · exact .next h.advanceTicks.setObj.onFh

/-! ### Failover (09 R301, R324 to R327) -/

theorem Kept.execPortLinkUp {p : Nat} (h : Kept s t) : Runs (Instr.portLinkUp p).wf s (Machine.execPortLinkUp p t) :=
  .guard (by simp +contextual [Instr.wf]) (by
    split
    · exact .next h
    · exact .ite (.next (.takeOver (.foldl (fun _ _ h => h.onTime) h.advanceTicks.setObj.onPort))) (.next h))

theorem Kept.execFhLinkDown {dt p : Nat} {cause : LinkCause} (h : Kept s t) :
    Runs (Instr.fhLinkDown dt p cause).wf s (Machine.execFhLinkDown dt p cause t) :=
  .guard (by simp +contextual [Instr.wf]) (by
    split
    · exact .ite (.next h.advance.portDown) (.ite (.next h.advance.bringUp) (.next h.advance))
    · exact .ite (.next h.advance.portDown) (.ite (.next h.advance.bringUp) (.next h.advance))
    · exact .ite (.next h.advance.portDown) (.ite (.next h.advance.bringUp) (.next h.advance))
    · exact .ite (.next h.advance.portDown) (.ite (.next h.advance.bringUp) (.next h.advance)))

theorem Kept.execFecBerWindow {p ber : Nat} {corrected uncorrectable : Nat} (h : Kept s t) :
    Runs (Instr.fecBerWindow p ber corrected uncorrectable).wf s (Machine.execFecBerWindow p ber corrected uncorrectable t) :=
  .guard (by simp +contextual [Instr.wf]) (.ite (.next h) (.ite
    (.next (.ite h.setObj.bump.bump.onPort.setObj.onPort.failover h.setObj.bump.bump.onPort.setObj.onPort))
      (.ite (.next h.setObj.bump.bump.onPort.setObj.onPort.takeOver) (.next h.setObj.bump.bump.onPort))))

theorem Kept.execFailoverReturn {n : Nat} (h : Kept s t) : Runs (Instr.failoverReturn n).wf s (Machine.execFailoverReturn n t) :=
  .guard (by simp +contextual [Instr.wf]) (by
    dsimp only
    split
    · exact .ite (.ite (.next h.advanceTicks.setObj) (.next h)) (.next h)
    · exact .next h)

theorem Kept.execWriteCarrierEnable {x0 : Xfer} {n : Nat} {v : Int} (h : Kept s t) :
    Runs (Instr.writeCarrierEnable x0 n v).wf s (Machine.execWriteCarrierEnable x0 n v t) :=
  .guard (by simp +contextual [Instr.wf]) (.next (.hostWrite (fun h => h.write (carrierRules_sound _)) h))

theorem Kept.execWriteUeContext {x0 : Xfer} {data : Bytes} (h : Kept s t) :
    Runs (Instr.writeUeContext x0 data).wf s (Machine.execWriteUeContext x0 data t) :=
  .next (.hostWrite (fun h => h.actUeContext) h)

theorem Kept.execWriteUeRelease {x0 : Xfer} {v : Int} (h : Kept s t) :
    Runs (Instr.writeUeRelease x0 v).wf s (Machine.execWriteUeRelease x0 v t) :=
  .next (.hostWrite (fun h => h.actUeRelease) h)

theorem Kept.execJournalWriteComplete (h : Kept s t) : Runs (Instr.journalWriteComplete).wf s (Machine.execJournalWriteComplete t) := by
  unfold Machine.execJournalWriteComplete
  split
  · exact .next h
  · exact .ite (.next (by
      split
      · exact h.onLink.verdictWritten
      · exact h.onLink.outcomeWritten)) (.next h)

theorem Kept.execOutcomeSend {chan : Nat} (h : Kept s t) : Runs (Instr.outcomeSend chan).wf s (Machine.execOutcomeSend chan t) :=
  .guard (by simp [Instr.wf]; omega) (.next h.sendOutcome)

theorem Kept.execOutcomeAck {dt chan : Nat} {seq credits : Nat} (h : Kept s t) :
    Runs (Instr.outcomeAck dt chan seq credits).wf s (Machine.execOutcomeAck dt chan seq credits t) :=
  .next h.advance.ackArrival

/-! ### Sessions (04 R140 to R148) -/

theorem Kept.execResumeOpen {dt seq hostId : Nat} {credits : List Nat} (h : Kept s t) :
    Runs (Instr.resumeOpen dt seq hostId credits).wf s (Machine.execResumeOpen dt seq hostId credits t) :=
  .next h.takeResume

theorem Kept.execResumeModeResume {dt seq hostId : Nat} {entries : List ResumeEntry} (h : Kept s t) :
    Runs (Instr.resumeModeResume dt seq hostId entries).wf s (Machine.execResumeModeResume dt seq hostId entries t) :=
  .next h.takeResume

theorem Kept.execResumeClose {dt seq : Nat} {mode hostId : Nat} (h : Kept s t) :
    Runs (Instr.resumeClose dt seq mode hostId).wf s (Machine.execResumeClose dt seq mode hostId t) :=
  .next h.takeResume

theorem Kept.execSessionHoldExpiry (h : Kept s t) : Runs (Instr.sessionHoldExpiry).wf s (Machine.execSessionHoldExpiry t) :=
  .ite (.next h.advanceTicks.closeSession) (.next h)

theorem Kept.execWriteSessionHold {x0 : Xfer} {v : Int} (h : Kept s t) :
    Runs (Instr.writeSessionHold x0 v).wf s (Machine.execWriteSessionHold x0 v t) :=
  .next (.hostWrite (fun h => h.actSessionHold) h)

/-! ### Modules (04 R115 to R120) -/

theorem Kept.execUcieLaneRepair {module lanes : Nat} (h : Kept s t) :
    Runs (Instr.ucieLaneRepair module lanes).wf s (Machine.execUcieLaneRepair module lanes t) :=
  .guard (by simp +contextual [Instr.wf]) (.ite (.next h.bump) (.next h))

theorem Kept.execUcieModuleLost {dt module : Nat} (h : Kept s t) :
    Runs (Instr.ucieModuleLost dt module).wf s (Machine.execUcieModuleLost dt module t) :=
  .guard (by simp +contextual [Instr.wf]) (.next h.advance.loseModule)

theorem Kept.execUcieModuleRetrained {dt module : Nat} (h : Kept s t) :
    Runs (Instr.ucieModuleRetrained dt module).wf s (Machine.execUcieModuleRetrained dt module t) :=
  .guard (by simp +contextual [Instr.wf]) (.next h.advance.retrainModule)

theorem Kept.execRestoreHoldExpiry {module : Nat} (h : Kept s t) :
    Runs (Instr.restoreHoldExpiry module).wf s (Machine.execRestoreHoldExpiry module t) :=
  .guard (by simp +contextual [Instr.wf]) (by
    split
    · exact .next h
    · exact .next (.ite h.advanceTicks.setModule h.advanceTicks.setModule.moveAll))

theorem Kept.execChannelReturn {chan : Nat} (h : Kept s t) : Runs (Instr.channelReturn chan).wf s (Machine.execChannelReturn chan t) :=
  .guard (by simp +contextual [Instr.wf]) (.ite (.next h.advanceTicks.useModule) (.next h))

theorem Kept.execIndicationSend (h : Kept s t) : Runs (Instr.indicationSend).wf s (Machine.execIndicationSend t) := by
  unfold Machine.execIndicationSend
  split
  · exact .ite (.next h.onLink.send) (.next h)
  · exact .next h

/-! ### Scalar classes (11 Tables 11-8, 11-9) -/

theorem Kept.execScalarRegisterOp {i : Nat} {op : ScalarOp} {gd ga gb : Nat} (h : Kept s t) :
    Runs (Instr.scalarRegisterOp i op gd ga gb).wf s (Machine.execScalarRegisterOp i op gd ga gb t) :=
  .onTile (by simp +contextual [Instr.wf]) (fun h => h.scalarOp) h

theorem Kept.execScalarImmediateOp {i : Nat} {op : ScalarOp} {gd ga : Nat} {imm : Int} (h : Kept s t) :
    Runs (Instr.scalarImmediateOp i op gd ga imm).wf s (Machine.execScalarImmediateOp i op gd ga imm t) :=
  .onTile (by simp +contextual [Instr.wf]) (fun h => h.scalarOp) h

theorem Kept.execWideImmediate {i gd field : Nat} {keep : Bool} {imm : Nat} (h : Kept s t) :
    Runs (Instr.wideImmediate i gd field keep imm).wf s (Machine.execWideImmediate i gd field keep imm t) :=
  .onTile (by simp +contextual [Instr.wf]) (fun h => h.commitTo) h

theorem Kept.execScalarLoad {i gd ga : Nat} {offset : Int} {size : Nat} {signed : Bool} (h : Kept s t) :
    Runs (Instr.scalarLoad i gd ga offset size signed).wf s (Machine.execScalarLoad i gd ga offset size signed t) := by
  refine .onTile (by simp +contextual [Instr.wf]) (fun {c u} h => .orTake (fun p e => ?_) h) h
  split at e
  · cases e
  · split at e
    · cases e
    · split at e
      · cases e
      · cases e
        exact h

theorem Kept.execScalarStore {i gd ga : Nat} {offset : Int} {size : Nat} (h : Kept s t) :
    Runs (Instr.scalarStore i gd ga offset size).wf s (Machine.execScalarStore i gd ga offset size t) := by
  refine .onTile (by simp +contextual [Instr.wf]) (fun {c u} h => .orTake (fun p e => ?_) h) h
  split at e
  · cases e
  · split at e
    · cases e
    · exact h.storeAt e

theorem Kept.execBranch {i : Nat} {cond : Cond} {ga gb : Nat} {offset : Int} (h : Kept s t) :
    Runs (Instr.branch i cond ga gb offset).wf s (Machine.execBranch i cond ga gb offset t) := by
  refine .onTile (by simp +contextual [Instr.wf]) (fun h => ?_) h
  split
  · exact h.branchTo
  · exact h.takeExc

theorem Kept.execJump {i : Nat} {link : Bool} {offset : Int} (h : Kept s t) :
    Runs (Instr.jump i link offset).wf s (Machine.execJump i link offset t) :=
  .onTile (by simp +contextual [Instr.wf]) (fun h => h.putCtx) h

theorem Kept.execVectorArithmetic {i : Nat} {op : VecOp} {sat : Bool} {f : VFields} (h : Kept s t) :
    Runs (Instr.vectorArithmetic i op sat f).wf s (Machine.execVectorArithmetic i op sat f t) :=
  .onTile (by simp +contextual [Instr.wf]) (fun h => .ite (.ite h.takeExc h.setFreeCtr.commitTo) (.ite h.takeExc h.commitTo)) h

theorem Kept.execVectorMultiply {i : Nat} {op : MulOp} {sat : Bool} {f : VFields} (h : Kept s t) :
    Runs (Instr.vectorMultiply i op sat f).wf s (Machine.execVectorMultiply i op sat f t) := by
  refine .onTile (by simp +contextual [Instr.wf]) (fun h => .ite h.takeExc ?_) h
  split
  · exact h.runMacWiden
  · exact h.commitTo
  · exact h.commitTo

theorem Kept.execVectorPermute {i : Nat} {op : PermOp} {sat : Bool} {f : VFields} (h : Kept s t) :
    Runs (Instr.vectorPermute i op sat f).wf s (Machine.execVectorPermute i op sat f t) :=
  .onTile (by simp +contextual [Instr.wf]) (fun h => .ite h.takeExc (.ite h.setFreeCtr.commitTo h.setFreeCtr.commitTo)) h

theorem Kept.execVectorLoad {i : Nat} {f : VMFields} (h : Kept s t) :
    Runs (Instr.vectorLoad i f).wf s (Machine.execVectorLoad i f t) := by
  refine .onTile (by simp +contextual [Instr.wf]) (fun h => ?_) h
  dsimp only
  split
  · exact h.takeExc
  · split
    · exact h.takeExc
    · exact h.commitTo

theorem Kept.execVectorStore {i : Nat} {f : VMFields} (h : Kept s t) :
    Runs (Instr.vectorStore i f).wf s (Machine.execVectorStore i f t) := by
  refine .onTile (by simp +contextual [Instr.wf]) (fun h => ?_) h
  dsimp only
  split
  · exact h.takeExc
  · exact .orTake (fun _ e => h.storeLanes e) h

theorem Kept.execGather {i : Nat} {f : VGFields} (h : Kept s t) : Runs (Instr.gather i f).wf s (Machine.execGather i f t) := by
  refine .onTile (by simp +contextual [Instr.wf]) (fun h => ?_) h
  split
  · exact h.takeExc
  · dsimp only
    split
    · exact h.gatherTrap
    · exact h.gatherDone

theorem Kept.execScatter {i : Nat} {ff : Bool} {f : VGFields} (h : Kept s t) :
    Runs (Instr.scatter i ff f).wf s (Machine.execScatter i ff f t) := by
  refine .onTile (by simp +contextual [Instr.wf]) (fun {c u} h => ?_) h
  generalize (if ff then some illegal else vgCheck c f) = chk
  cases chk with
  | some e => exact h.takeExc
  | none =>
    have hs : Kept s (Machine.scatterFrom i f (vgActive u i c f) c u).1.2 := h.scatterFrom
    dsimp only
    split
    next e =>
      rw [e] at hs
      exact hs.takeExc
    next e =>
      rw [e] at hs
      exact hs.commitTo

theorem Kept.execFirstFaultGather {i : Nat} {f : VGFields} (h : Kept s t) :
    Runs (Instr.firstFaultGather i f).wf s (Machine.execFirstFaultGather i f t) := by
  refine .onTile (by simp +contextual [Instr.wf]) (fun {c u} h => ?_) h
  generalize (if f.pg = 0 then some illegal else vgCheck c f) = chk
  cases chk with
  | some e => exact h.takeExc
  | none =>
    dsimp only
    split
    · exact .ite h.gatherTrap h.firstFault
    · exact h.gatherDone

theorem Kept.execPspan {i : Nat} {short : Bool} {pd ga gb : Nat} {et : ElemType} (h : Kept s t) :
    Runs (Instr.pspan i short pd ga gb et).wf s (Machine.execPspan i short pd ga gb et t) :=
  .onTile (by simp +contextual [Instr.wf]) (fun h => .ite h.takeExc h.commitTo) h

theorem Kept.execPredicateOp {i : Nat} {op : PredOp} {pd pa pb gd : Nat} {et : ElemType} (h : Kept s t) :
    Runs (Instr.predicateOp i op pd pa pb gd et).wf s (Machine.execPredicateOp i op pd pa pb gd et t) := by
  refine .onTile (by simp +contextual [Instr.wf]) (fun h => .ite h.takeExc ?_) h
  split
  · exact h.commitTo
  · exact h.commitTo

/-! ### The system class (11 R368, R386, R392 to R396) -/

theorem Kept.execControlRegisterAccess {i : Nat} {write : Bool} {g number : Nat} (h : Kept s t) :
    Runs (Instr.controlRegisterAccess i write g number).wf s (Machine.execControlRegisterAccess i write g number t) := by
  refine .onTile (by simp +contextual [Instr.wf]) (fun h => ?_) h
  split
  · exact h.takeExc
  · exact .ite (.ite h.takeExc (.ite h.takeExc h.commitTo)) (.ite h.takeExc (.commitTo (.ite h.setFreeCtr h)))

theorem Kept.execFence {i : Nat} (h : Kept s t) :
    Runs (Instr.fence i).wf s (Machine.execFence i t) := .onTile (by simp +contextual [Instr.wf]) (fun h => h.commitTo) h

theorem Kept.execSyscall {i : Nat} (h : Kept s t) :
    Runs (Instr.syscall i).wf s (Machine.execSyscall i t) := .onTile (by simp +contextual [Instr.wf]) (fun h => h.takeExc) h

theorem Kept.execFcall {i : Nat} (h : Kept s t) :
    Runs (Instr.fcall i).wf s (Machine.execFcall i t) := .onTile (by simp +contextual [Instr.wf]) (fun h => h.takeExc) h

theorem Kept.execBreakpoint {i : Nat} (h : Kept s t) : Runs (Instr.breakpoint i).wf s (Machine.execBreakpoint i t) :=
  .onTile (by simp +contextual [Instr.wf]) (fun h => h.takeExc) h

theorem Kept.execEret {i : Nat} (h : Kept s t) : Runs (Instr.eret i).wf s (Machine.execEret i t) :=
  .onTile (by simp +contextual [Instr.wf]) (fun h => .ite h.takeExc (.ite h.putCtx h.putCtx)) h

theorem Kept.execTend {i g : Nat} (h : Kept s t) : Runs (Instr.tend i g).wf s (Machine.execTend i g t) :=
  .onTile (by simp +contextual [Instr.wf]) (fun h => h.setFreeCtr.putCtx) h

theorem Kept.execTaskStart {i : Nat} (h : Kept s t) : Runs (Instr.taskStart i).wf s (Machine.execTaskStart i t) :=
  .guard (by simp +contextual [Instr.wf, tileCount]) (by
    split
    · exact .next h.startTask
    · exact .next h)

theorem Kept.execTaskEndReport {i : Nat} (h : Kept s t) : Runs (Instr.taskEndReport i).wf s (Machine.execTaskEndReport i t) := by
  refine .guard (by simp +contextual [Instr.wf, tileCount]) ?_
  split
  · exact .next h
  next c _ =>
    split
    · exact .next h
    next how _ =>
      refine .ite (.next h.cancelJobs.putCtx) (.ite (.next h) ?_)
      have hu : Kept s (Machine.countTask i c how t) := h.countTask
      dsimp only
      generalize Machine.countTask i c how t = u at hu ⊢
      have hv : Kept s { u with tiles := Store.drop u.tiles i, sched := { u.sched with freed := Store.put u.sched.freed i u.clock.ticks } } :=
        hu.same (by rfl)
      refine .next (.showTile ?_)
      split
      · exact hv.setSched.onOp
      · exact hv

theorem Kept.execTileCancel {i : Nat} (h : Kept s t) : Runs (Instr.tileCancel i).wf s (Machine.execTileCancel i t) :=
  .guard (by simp +contextual [Instr.wf, tileCount]) (by
    split
    · exact .ite (.next h.stopTask) (.next h)
    · exact .next h)

theorem Kept.execTileFault {i : Nat} (h : Kept s t) : Runs (Instr.tileFault i).wf s (Machine.execTileFault i t) :=
  .guard (by simp +contextual [Instr.wf, tileCount]) (.ite (.next h.tileFault) (.next h))

theorem Kept.execBondMismatch {pair : Nat} (h : Kept s t) : Runs (Instr.bondMismatch pair).wf s (Machine.execBondMismatch pair t) :=
  .guard (by simp +contextual [Instr.wf]) (.ite (.next h.bump.tileFault) (.next h))

theorem Kept.execSpareSelfTest {pair : Nat} {pass : Bool} (h : Kept s t) :
    Runs (Instr.spareSelfTest pair pass).wf s (Machine.execSpareSelfTest pair pass t) :=
  .guard (by simp +contextual [Instr.wf]) (.ite (.next h.loseSpare) (.next h))

/-! ### Vector length and bonds (11 R398, R403 to R405; 13 R429) -/

theorem Kept.execWriteTileVl {x0 : Xfer} {i : Nat} {v : Int} (h : Kept s t) :
    Runs (Instr.writeTileVl x0 i v).wf s (Machine.execWriteTileVl x0 i v t) :=
  .guard (by simp +contextual [Instr.wf, tileCount]) (.next (.hostWrite (fun h => h.actTileVl) h))

theorem Kept.execTileVlApply {i : Nat} (h : Kept s t) : Runs (Instr.tileVlApply i).wf s (Machine.execTileVlApply i t) :=
  .guard (by simp +contextual [Instr.wf, tileCount]) (.next h.applyVl)

theorem Kept.execWriteBondMode {x0 : Xfer} {pair : Nat} {v : Int} (h : Kept s t) :
    Runs (Instr.writeBondMode x0 pair v).wf s (Machine.execWriteBondMode x0 pair v t) :=
  .guard (by simp +contextual [Instr.wf]) (.next (.hostWrite (fun h => h.actBondMode) h))

theorem Kept.execBondChangeComplete {pair : Nat} (h : Kept s t) :
    Runs (Instr.bondChangeComplete pair).wf s (Machine.execBondChangeComplete pair t) :=
  .guard (by simp +contextual [Instr.wf]) (.ite (.next h.finishBond) (.next h))

theorem Kept.execFuse {i gd ga cls : Nat} {sizes : List Nat} (h : Kept s t) :
    Runs (Instr.fuse i gd ga cls sizes).wf s (Machine.execFuse i gd ga cls sizes t) := by
  refine .onTile (by simp +contextual [Instr.wf]) (fun h => .ite h.takeExc ?_) h
  dsimp only
  split
  · exact h.takeExc
  · exact .ite h.setSched.commitTo h.setSched.commitTo.sendJob

theorem Kept.execFusedJobSend {i slot : Nat} (h : Kept s t) : Runs (Instr.fusedJobSend i slot).wf s (Machine.execFusedJobSend i slot t) :=
  .guard (by simp +contextual [Instr.wf, tileCount]) (by
    split
    · exact .next (.ite h h.sendJob)
    · exact .next h)

/-! ### Waits, tests and branches (12 R410) -/

theorem Kept.execFwait {i gd ga : Nat} (h : Kept s t) : Runs (Instr.fwait i gd ga).wf s (Machine.execFwait i gd ga t) :=
  .onTile (by simp +contextual [Instr.wf]) (fun h => .onTicket (fun _ _ => .ite h.commitTo h) h) h

theorem Kept.execFtest {i gd ga : Nat} (h : Kept s t) : Runs (Instr.ftest i gd ga).wf s (Machine.execFtest i gd ga t) :=
  .onTile (by simp +contextual [Instr.wf]) (fun h => .onTicket (fun _ _ => h.commitTo) h) h

theorem Kept.execFcancel {i ga : Nat} (h : Kept s t) : Runs (Instr.fcancel i ga).wf s (Machine.execFcancel i ga t) :=
  .onTile (by simp +contextual [Instr.wf]) (fun h => .onTicket (fun _ _ => .ite h.commitTo (.ite h.commitTo h.bump.commitTo)) h) h

theorem Kept.execBfb {i ga : Nat} {offset : Int} (h : Kept s t) : Runs (Instr.bfb i ga offset).wf s (Machine.execBfb i ga offset t) :=
  .onTile (by simp +contextual [Instr.wf]) (fun h => .onTicket (fun _ _ => h.branchTo) h) h

theorem Kept.execBff {i cls : Nat} {offset : Int} (h : Kept s t) : Runs (Instr.bff i cls offset).wf s (Machine.execBff i cls offset t) :=
  .onTile (by simp +contextual [Instr.wf]) (fun h => .ite h.takeExc h.branchTo) h

theorem Kept.execFusedPublication {i slot : Nat} {result : Bytes} {outputs : List (Nat × Bytes)} (h : Kept s t) :
    Runs (Instr.fusedPublication i slot result outputs).wf s (Machine.execFusedPublication i slot result outputs t) := by
  refine .guard (by simp +contextual [Instr.wf, tileCount]) ?_
  split
  · exact .ite (.next (.bump (.putCtx (.foldl_snd (fun _ _ h => h.mergeOutput) h.countEncode)))) (.next h)
  · exact .next h

theorem Kept.execHodDescriptorEnd {engine channel : Nat} (h : Kept s t) :
    Runs (Instr.hodDescriptorEnd engine channel).wf s (Machine.execHodDescriptorEnd engine channel t) := by
  refine .guard (by simp +contextual [Instr.wf, hodUnitOk]) ?_
  split
  · exact .ite (.next h) (.next h.movePieces.finishDesc)
  · exact .next h

theorem Kept.execHodResponseEnd {engine channel : Nat} {status : Status} (h : Kept s t) :
    Runs (Instr.hodResponseEnd engine channel status).wf s (Machine.execHodResponseEnd engine channel status t) := by
  refine .guard (by simp +contextual [Instr.wf, hodUnitOk]) ?_
  split
  · exact .ite (.next h.movePieces.bump.bump.onHodChain.endChain) (.next h)
  · exact .next h

theorem Kept.execHodChainSignal {engine channel : Nat} (h : Kept s t) :
    Runs (Instr.hodChainSignal engine channel).wf s (Machine.execHodChainSignal engine channel t) :=
  .guard (by simp +contextual [Instr.wf, hodUnitOk]) (by
    split
    · split
      · exact .ite (.next h) (.next h.readBack.writeRecord.onHod.tellUser)
      · exact .next h
    · exact .next h)

theorem Kept.execPrefetchCopyComplete {i pallet : Nat} (h : Kept s t) :
    Runs (Instr.prefetchCopyComplete i pallet).wf s (Machine.execPrefetchCopyComplete i pallet t) := by
  unfold Machine.execPrefetchCopyComplete
  dsimp only
  split
  · refine .ite (.next h) ?_
    split
    · exact .next h.movePieces.bump.bump.setCopies.bump.countEnd.bump
    · exact .next h.movePieces.bump.bump.setCopies.countEnd.bump
  · exact .next h

theorem Kept.execHaltHoldExpiry {engine : Nat} {selfTestOk : Bool} (h : Kept s t) :
    Runs (Instr.haltHoldExpiry engine selfTestOk).wf s (Machine.execHaltHoldExpiry engine selfTestOk t) :=
  .guard (by simp +contextual [Instr.wf]) (by
    split
    · exact .ite (.next h.advanceTicks.setObj.onHod) (.next h.advanceTicks.setObj.onHod.setObj.unitLost)
    · exact .next h)

theorem Kept.execHodRelease {x0 : Xfer} {v : Int} (h : Kept s t) : Runs (Instr.hodRelease x0 v).wf s (Machine.execHodRelease x0 v t) :=
  .next (.hostWrite (fun h => h.actHodRelease) h)

theorem Kept.execDiagStart {x0 : Xfer} (h : Kept s t) : Runs (Instr.diagStart x0).wf s (Machine.execDiagStart x0 t) :=
  .next (.hostWrite (fun h => h.actDiagStart) h)

theorem Kept.execDiagStop {x0 : Xfer} (h : Kept s t) : Runs (Instr.diagStop x0).wf s (Machine.execDiagStop x0 t) :=
  .next (.hostWrite (fun h => h.actDiagStop) h)

theorem Kept.execReadReq {pkt : Packet} {found : List MemError} (h : Kept s t) :
    Runs (Instr.readReq pkt found).wf s (Machine.execReadReq pkt found t) := by
  refine .guard (fun hw => by simpa [Instr.wf, packetOk_eq_wf] using hw) ?_
  refine .ite (.next h.holdRequest.transit) ?_
  dsimp only
  split
  · exact .next h.holdRequest.transit.injectAnswers.answerAsleep
  · split
    · exact .next h.holdRequest.transit.injectAnswers.bump.enqueue
    · exact .next h.holdRequest.transit.injectAnswers.bump.grantAt.doRead
  · exact .next h.holdRequest.transit.injectAnswers

theorem Kept.execWrite {pkt : Packet} {mask : List Nat} {data : Bytes} {found : List MemError} (h : Kept s t) :
    Runs (Instr.write pkt mask data found).wf s (Machine.execWrite pkt mask data found t) := by
  refine .guard (by simp +contextual [Instr.wf, packetOk_eq_wf]) ?_
  refine .ite (.next h.holdRequest.transit) ?_
  dsimp only
  split
  · exact .next h.holdRequest.transit.injectAnswers.answerAsleep
  · split
    · exact .next h.holdRequest.transit.injectAnswers.bump.enqueue
    · exact .next h.holdRequest.transit.injectAnswers.bump.grantAt.doWrite
  · exact .next h.holdRequest.transit.injectAnswers

theorem Kept.execMessage {pkt : Packet} {kind : MsgKind} {payload : Nat} (h : Kept s t) :
    Runs (Instr.message pkt kind payload).wf s (Machine.execMessage pkt kind payload t) := by
  refine .guard (by simp +contextual [Instr.wf]) ?_
  refine .ite (.next h.holdRequest.transit) ?_
  dsimp only
  exact .ite (.next h.holdRequest.transit.injectAnswers.answerAsleep)
    (.ite (.next h.holdRequest.transit.injectAnswers.bump.bump)
      (.next (h.holdRequest.transit.injectAnswers.bump.onMortar (by exact id) (by exact id))))

/-! ### Responses (14 R462, R466, R475) -/

theorem Kept.execReadResp {src tag line : Nat} {status : Status} (h : Kept s t) :
    Runs (Instr.readResp src tag line status).wf s (Machine.execReadResp src tag line status t) := by
  unfold Machine.execReadResp
  split
  · exact .next h.bump
  · split
    next x0 x1 hx =>
      have hx : Kept s x0 := Kept.fst h.answerArrives hx
      exact .ite (.next hx) (.ite (.next hx.bump) (by
        split
        · exact .next hx.bump.answerRetry
        · exact .next hx.bump.tileTakes.dropHeld
        · exact .next hx.bump.tileTakes.dropHeld
        · exact .ite (.next (.dropHeld (.ite hx.bump.tileTakes hx.bump)))
            (.next (.onMortar (.ite hx.bump.tileTakes hx.bump) (by exact id) (by exact id)))))

theorem Kept.execWriteAck {src tag : Nat} {status : Status} (h : Kept s t) :
    Runs (Instr.writeAck src tag status).wf s (Machine.execWriteAck src tag status t) := by
  unfold Machine.execWriteAck
  split
  · exact .next h.bump
  · split
    next x0 x1 hx =>
      have hx : Kept s x0 := Kept.fst h.answerArrives hx
      exact .ite (.next hx) (.ite (.next hx.bump) (by
        split
        · exact .next hx.bump.answerRetry
        · exact .next hx.bump.tileTakes.dropHeld
        · exact .next hx.bump.tileTakes.dropHeld
        · exact .next hx.bump.dropHeld))

theorem Kept.execMessageAck {src tag : Nat} {status : Status} (h : Kept s t) :
    Runs (Instr.messageAck src tag status).wf s (Machine.execMessageAck src tag status t) := by
  unfold Machine.execMessageAck
  split
  · exact .next h.bump
  · split
    next x0 x1 hx =>
      have hx : Kept s x0 := Kept.fst h.answerArrives hx
      exact .ite (.next hx) (.ite (.next hx.bump) (by
        split
        · exact .next hx.bump.answerRetry
        · exact .ite (.next (by
            split
            · exact .ite hx.bump.dropHeld.ackCancel hx.bump.dropHeld
            · split
              · exact .ite hx.bump.dropHeld.fusedCancel hx.bump.dropHeld
              · exact hx.bump.dropHeld)) (.ite (.next hx.bump.dropHeld.bump) (.next hx.bump.dropHeld.tileTakes))
        · exact .next hx.bump.dropHeld))

theorem Kept.execLinkReplay {ring : Nat} (h : Kept s t) : Runs (Instr.linkReplay ring).wf s (Machine.execLinkReplay ring t) :=
  .guard (by simp +contextual [Instr.wf]) (.next h.bump)

theorem Kept.execRequestTimeout {src tag : Nat} (h : Kept s t) :
    Runs (Instr.requestTimeout src tag).wf s (Machine.execRequestTimeout src tag t) := by
  unfold Machine.execRequestTimeout
  split
  · exact .ite (.next h) (.next h.advanceTicks.abandon)
  · exact .next h

theorem Kept.execRequestRetryResend {src tag : Nat} (h : Kept s t) :
    Runs (Instr.requestRetryResend src tag).wf s (Machine.execRequestRetryResend src tag t) := by
  unfold Machine.execRequestRetryResend
  split
  · exact .ite (.next (h.advanceTicks.onMortar (by exact id) (by exact id)).injectPacket) (.next h)
  · exact .next h

/-! ### Rings (14 R486 to R490) -/

theorem Kept.execRingLinkFault {ring stop : Nat} {lockLost : Bool} (h : Kept s t) :
    Runs (Instr.ringLinkFault ring stop lockLost).wf s (Machine.execRingLinkFault ring stop lockLost t) :=
  .guard (by simp +contextual [Instr.wf]) (.next h.linkFault)

theorem Kept.execFoldNoticeRx {ring stop flits : Nat} (h : Kept s t) :
    Runs (Instr.foldNoticeRx ring stop flits).wf s (Machine.execFoldNoticeRx ring stop flits t) :=
  .guard (by simp +contextual [Instr.wf]) (.ite (by
    split
    next x0 x1 hx =>
      have hx : Kept s x0 := Kept.fst h.discardFlits hx
      exact .next (hx.bump.onMortar (by exact id) (by exact id))) (.next h))

theorem Kept.execReverseHoldExpiry {ring : Nat} (h : Kept s t) :
    Runs (Instr.reverseHoldExpiry ring).wf s (Machine.execReverseHoldExpiry ring t) :=
  .guard (by simp +contextual [Instr.wf]) (.ite (.next h.advanceTicks.foldRing) (.next h))

theorem Kept.execRingRestore {ring : Nat} (h : Kept s t) : Runs (Instr.ringRestore ring).wf s (Machine.execRingRestore ring t) :=
  .guard (by simp +contextual [Instr.wf]) (by
    split
    · exact .next (h.drainRing.setObj.setObj.onMortar (by exact id) (by exact id))
    · exact .next h.setObj.setObj.setUnits
    · exact .next h)

theorem Kept.execJointPathFault {ring stop : Nat} (h : Kept s t) :
    Runs (Instr.jointPathFault ring stop).wf s (Machine.execJointPathFault ring stop t) :=
  .guard (by simp +contextual [Instr.wf]) (.ite (.next h) (.next (h.bump.onMortar (by exact id) (by exact id))))

/-! ### Arbiter tables (14 R478 to R485; 15 R514, R515) -/

theorem Kept.execWriteArbTable {x0 : Xfer} {mc : Bool} {data : Bytes} (h : Kept s t) :
    Runs (Instr.writeArbTable x0 mc data).wf s (Machine.execWriteArbTable x0 mc data t) :=
  .next (.hostWrite (fun h => h.actArbTable) h)

theorem Kept.execArbCommit {x0 : Xfer} {mc : Bool} (h : Kept s t) : Runs (Instr.arbCommit x0 mc).wf s (Machine.execArbCommit x0 mc t) :=
  .next (.hostWrite (fun h => h.actArbCommit) h)

theorem Kept.execArbSwapDecision {mc : Bool} (h : Kept s t) :
    Runs (Instr.arbSwapDecision mc).wf s (Machine.execArbSwapDecision mc t) := by
  refine .ite (.next h) (.next (.foldl (fun _ _ h => h.decideArb) ?_))
  cases mc
  · exact (h.advanceToAir.onMortar (by exact id) (by exact id))
  · exact (h.advanceToAir.onMortar (by exact id) (by exact id))

theorem Kept.execArbSwap {mc : Bool} (h : Kept s t) : Runs (Instr.arbSwap mc).wf s (Machine.execArbSwap mc t) :=
  .ite (.next h) (.next (.foldl (fun _ _ h => by
  split
  · exact h.onArb
  · exact h) h.advanceToAir))

theorem Kept.execArbPhaseAlign (h : Kept s t) : Runs (Instr.arbPhaseAlign).wf s (Machine.execArbPhaseAlign t) :=
  .ite (.next (h.advanceToAir.onMortar (by exact id) (by exact id))) (.next h)

/-! ### Link EDC (15 R505) -/

theorem Kept.execEdcMismatch {ch addr : Nat} (h : Kept s t) : Runs (Instr.edcMismatch ch addr).wf s (Machine.execEdcMismatch ch addr t) :=
  .guard (by simp +contextual [Instr.wf]) (.ite (.next h.mismatch) (.next h))

theorem Kept.execChannelRetrainComplete {ch : Nat} {ok : Bool} (h : Kept s t) :
    Runs (Instr.channelRetrainComplete ch ok).wf s (Machine.execChannelRetrainComplete ch ok t) :=
  .guard (by simp +contextual [Instr.wf]) (.ite (.next (.ite h.setObj.serveQueue h.dropQueue.channelLost)) (.next h))

theorem Kept.execChannelQueueRetry {ch src tag : Nat} (h : Kept s t) :
    Runs (Instr.channelQueueRetry ch src tag).wf s (Machine.execChannelQueueRetry ch src tag t) :=
  .guard (by simp +contextual [Instr.wf]) (by
    split
    · exact .next (h.advanceTicks.onMortar (by exact id) (by exact id))
    · exact .next h)

theorem Kept.execGddr7ChannelLost {ch : Nat} {cause : LossCause} (h : Kept s t) :
    Runs (Instr.gddr7ChannelLost ch cause).wf s (Machine.execGddr7ChannelLost ch cause t) :=
  .guard (by simp +contextual [Instr.wf]) (.ite (.next h.dropQueue.channelLost) (.next h))

theorem Kept.execContextRebuildComplete (h : Kept s t) : Runs (Instr.contextRebuildComplete).wf s (Machine.execContextRebuildComplete t) :=
  .ite (.next h) (.next (h.onInteg (by exact id)).settleRegime)

theorem Kept.execJournalRebuildComplete (h : Kept s t) :
    Runs (Instr.journalRebuildComplete).wf s (Machine.execJournalRebuildComplete t) := by
  unfold Machine.execJournalRebuildComplete
  split
  · exact .next (h.onInteg (by exact id)).setObj.setObj.settleRegime
  · exact .next h

theorem Kept.execGddr7Scrub {ch lines : Nat} {found : List MemError} (h : Kept s t) :
    Runs (Instr.gddr7Scrub ch lines found).wf s (Machine.execGddr7Scrub ch lines found t) :=
  .guard (by simp +contextual [Instr.wf]) (.ite (.next h) (.next (h.scrubFinds.onInteg (by exact id)).passEnds))

theorem Kept.execPalletStoreScrub {slice : Nat} {found : List MemError} (h : Kept s t) :
    Runs (Instr.palletStoreScrub slice found).wf s (Machine.execPalletStoreScrub slice found t) :=
  .guard (by simp +contextual [Instr.wf]) (.ite (.next h) (.next h.scrubFinds))

theorem Kept.execTileMemoryScrub {i : Nat} {found : List MemError} (h : Kept s t) :
    Runs (Instr.tileMemoryScrub i found).wf s (Machine.execTileMemoryScrub i found t) :=
  .guard (by simp +contextual [Instr.wf, tileCount]) (.ite (.next h) (.next (h.scrubFinds.healed.onInteg (by exact id))))

theorem Kept.execBucketLeak (h : Kept s t) : Runs (Instr.bucketLeak).wf s (Machine.execBucketLeak t) :=
  .next (h.advanceTicks.onInteg fun hr => Store.rising_filter _ _ (Store.rising_map (fun _ => Eq.refl _) hr))

theorem Kept.execWriteRetiredPages {x0 : Xfer} {data : Bytes} (h : Kept s t) :
    Runs (Instr.writeRetiredPages x0 data).wf s (Machine.execWriteRetiredPages x0 data t) :=
  .next (.hostWrite (fun h => h.actRetiredPages) h)

theorem Kept.execWriteRetiredBanks {x0 : Xfer} {data : Bytes} (h : Kept s t) :
    Runs (Instr.writeRetiredBanks x0 data).wf s (Machine.execWriteRetiredBanks x0 data t) :=
  .next (.hostWrite (fun h => h.actRetiredBanks) h)

theorem Kept.execReadErrLog {x0 : Xfer} (h : Kept s t) : Runs (Instr.readErrLog x0).wf s (Machine.execReadErrLog x0 t) :=
  .next (.hostPop (fun h => h.errPop) h)

theorem Kept.execDivergenceComparison (h : Kept s t) : Runs (Instr.divergenceComparison).wf s (Machine.execDivergenceComparison t) :=
  .next (.ite h.onGuard.setObj.detect h.onGuard.setObj)

theorem Kept.execMuteComplete (h : Kept s t) : Runs (Instr.muteComplete).wf s (Machine.execMuteComplete t) := by
  unfold Machine.execMuteComplete
  split
  · exact .next h.advanceTicks.completeMute
  · exact .next h

theorem Kept.execReferenceAbsent (h : Kept s t) : Runs (Instr.referenceAbsent).wf s (Machine.execReferenceAbsent t) :=
  .next h.onGuard.detect

theorem Kept.execReferenceFrequencyCheck {cycles : Nat} (h : Kept s t) :
    Runs (Instr.referenceFrequencyCheck cycles).wf s (Machine.execReferenceFrequencyCheck cycles t) :=
  .ite (.next h.onGuard.detect) (.next (.ite h h.onGuard))

theorem Kept.execRtcStopped (h : Kept s t) : Runs (Instr.rtcStopped).wf s (Machine.execRtcStopped t) := .next h.onGuard

/-! ### Audits and checks (17 R555, R557 to R559) -/

theorem Kept.execGuardAudit {carrier : Nat} {copyOk : Bool} (h : Kept s t) :
    Runs (Instr.guardAudit carrier copyOk).wf s (Machine.execGuardAudit carrier copyOk t) :=
  .guard (by simp +contextual [Instr.wf]) (by
    split
    · exact .next h
    · exact .ite (.next h.onGuard) (by
        split
        next x0 x1 hx =>
          have hx : Kept s x1 := Kept.snd h.onGuard.freeCode hx
          exact .next hx.bump.detect))

theorem Kept.execGuardConfigCrcCheck {chain : Nat} {ok : Bool} (h : Kept s t) :
    Runs (Instr.guardConfigCrcCheck chain ok).wf s (Machine.execGuardConfigCrcCheck chain ok t) :=
  .guard (by simp +contextual [Instr.wf]) (.ite (.next h) (.next (.ite h.takeCrcInjection.onGuard.detect h.takeCrcInjection.onGuard)))

theorem Kept.execPowerMeterBlock {carrier : Nat} {power : Int} (h : Kept s t) :
    Runs (Instr.powerMeterBlock carrier power).wf s (Machine.execPowerMeterBlock carrier power t) :=
  .guard (by simp +contextual [Instr.wf]) (.ite (.next h.meter) (.next h))

theorem Kept.execGuardKeepaliveLoss (h : Kept s t) : Runs (Instr.guardKeepaliveLoss).wf s (Machine.execGuardKeepaliveLoss t) := by
  unfold Machine.execGuardKeepaliveLoss
  split
  next x0 x1 hx =>
    have hx : Kept s x1 := Kept.snd h.freeCode hx
    exact .next hx.detect

theorem Kept.execGuardSelfCheck {pass : Bool} {code : Nat} (h : Kept s t) :
    Runs (Instr.guardSelfCheck pass code).wf s (Machine.execGuardSelfCheck pass code t) :=
  .next (.ite h h.detect)

theorem Kept.execGuardArmed {pass : Bool} (h : Kept s t) : Runs (Instr.guardArmed pass).wf s (Machine.execGuardArmed pass t) :=
  .ite (.next h) (.ite (.next h.setObj) (.next h.setObj.setCause))

theorem Kept.execMuteRelease {x0 : Xfer} {v : Int} (h : Kept s t) : Runs (Instr.muteRelease x0 v).wf s (Machine.execMuteRelease x0 v t) :=
  .next (.hostWrite (fun h => h.actMuteRelease) h)

theorem Kept.execGuardResync {x0 : Xfer} (h : Kept s t) : Runs (Instr.guardResync x0).wf s (Machine.execGuardResync x0 t) :=
  .next (.hostWrite (fun h => h.actGuardResync) h)

theorem Kept.execDfeChainFault {chain : Nat} (h : Kept s t) : Runs (Instr.dfeChainFault chain).wf s (Machine.execDfeChainFault chain t) :=
  .guard (by simp +contextual [Instr.wf]) (.next h.chainFault)

theorem Kept.execPalletSliceFault {slice : Nat} (h : Kept s t) :
    Runs (Instr.palletSliceFault slice).wf s (Machine.execPalletSliceFault slice t) :=
  .guard (by simp +contextual [Instr.wf]) (.next h.sliceFault)

theorem Kept.execFaultClear {x0 : Xfer} (h : Kept s t) : Runs (Instr.faultClear x0).wf s (Machine.execFaultClear x0 t) :=
  .next (.hostWrite (fun h => h.actFaultClear) h)

theorem Kept.execReadMuteLog {x0 : Xfer} (h : Kept s t) : Runs (Instr.readMuteLog x0).wf s (Machine.execReadMuteLog x0 t) :=
  .next (.hostPop (fun h => h.mutePop) h)

theorem Kept.execHostVote {x0 : Xfer} {d : Nat} {v : Int} (h : Kept s t) :
    Runs (Instr.hostVote x0 d v).wf s (Machine.execHostVote x0 d v t) :=
  .guard (by simp +contextual [Instr.wf]) (.next (.hostWrite (fun h => h.actHostVote) h))

/-! ### The rail (18 R589, R590) -/

theorem Kept.execAvsAck {ack : AvsAckField} (h : Kept s t) : Runs (Instr.avsAck ack).wf s (Machine.execAvsAck ack t) := by
  unfold Machine.execAvsAck
  split
  · exact .next h
  · exact .ite (.next h) (by
      split
      · exact .next h.onRail
      · exact .ite (.next h.failExchange) (.next h.onRail)
      · exact .ite (.next h.failExchange) (.next h.onRail)
      · exact .next h.failExchange)

theorem Kept.execAvsPoll {vdone : Bool} (h : Kept s t) : Runs (Instr.avsPoll vdone).wf s (Machine.execAvsPoll vdone t) := by
  unfold Machine.execAvsPoll
  split
  · exact .next h
  · exact .ite (.next h) (.ite (.next h.advanceTicks.advance.succeedExchange) (.next h.advanceTicks.onRail.timeoutExchange))

theorem Kept.execAvsRetry (h : Kept s t) : Runs (Instr.avsRetry).wf s (Machine.execAvsRetry t) := by
  unfold Machine.execAvsRetry
  split
  · split
    · exact .next h.advanceTicks.onRail
    · exact .next h.timeoutExchange
  · exact .next h.advanceTicks.onRail
  · exact .next h

theorem Kept.execPmbusRead {readings : List (Nat × Nat × Int)} (h : Kept s t) :
    Runs (Instr.pmbusRead readings).wf s (Machine.execPmbusRead readings t) :=
  .guard (by simp +contextual [Instr.wf]) (.next h.timeoutExchange.setBlob.setObj)

theorem Kept.execDomainTransitionStart {d : Nat} (h : Kept s t) :
    Runs (Instr.domainTransitionStart d).wf s (Machine.execDomainTransitionStart d t) :=
  .guard (by simp +contextual [Instr.wf]) (.next h.startTransition)

theorem Kept.execDomainDrained {d : Nat} (h : Kept s t) : Runs (Instr.domainDrained d).wf s (Machine.execDomainDrained d t) :=
  .guard (by simp +contextual [Instr.wf]) (by
    split
    · exact .next (.ite h.endTransition h)
    · exact .next h)

theorem Kept.execDomainEnterRunComplete {d : Nat} (h : Kept s t) :
    Runs (Instr.domainEnterRunComplete d).wf s (Machine.execDomainEnterRunComplete d t) :=
  .guard (by simp +contextual [Instr.wf]) (by
    split
    · exact .next (.ite h.endTransition h)
    · exact .next h)

/-! ### Watch mode (18 R592 to R599) -/

theorem Kept.execWriteWatchEnable {x0 : Xfer} {v : Int} (h : Kept s t) :
    Runs (Instr.writeWatchEnable x0 v).wf s (Machine.execWriteWatchEnable x0 v t) :=
  .next (.hostWrite (fun h => h.write watchRules_sound) h)

theorem Kept.execWatchCplaneSend {k bytes : Nat} (h : Kept s t) :
    Runs (Instr.watchCplaneSend k bytes).wf s (Machine.execWatchCplaneSend k bytes t) := by
  refine .guard (by simp +contextual [Instr.wf]) (.ite (.next h) ?_)
  extract_lets ahead b u p ports sec r frames
  have hu : Kept s u := h.advanceToAir.onWatch
  have hr : Kept s r.2 := .foldl_snd (fun _ _ h => h.takeSeq) hu
  clear_value u
  exact .ite (.next hr.bump.sendLaunch) (.next hu)

theorem Kept.execWatchWindowOpen {k : Nat} (h : Kept s t) : Runs (Instr.watchWindowOpen k).wf s (Machine.execWatchWindowOpen k t) :=
  .guard (by simp +contextual [Instr.wf]) (.ite (.next h.advanceToAir.setObj.onWatch) (.next h))

theorem Kept.execWatchWindowClose {k : Nat} (h : Kept s t) :
    Runs (Instr.watchWindowClose k).wf s (Machine.execWatchWindowClose k t) := by
  refine .guard (by simp +contextual [Instr.wf]) (.ite ?_ (.next h))
  extract_lets u v
  have hv : Kept s v := h.advanceToAir.setObj
  clear_value v
  split
  next measure w e =>
    have hw : Kept s w := hv.captureMeasure.snd e
    extract_lets x hit y z a
    have hx : Kept s x := .ite hw.bump.bump.bump hw
    have hz : Kept s z := .ite hx.setBlob.watchHit hx.setBlob
    have ha : Kept s a := hz.onWatch
    exact .next (.ite ha.wakeEnds ha.setObj)

/-! ### Update (19 R619, R620) -/

theorem Kept.execImgErase {x0 : Xfer} (h : Kept s t) : Runs (Instr.imgErase x0).wf s (Machine.execImgErase x0 t) :=
  .next (.hostWrite (fun h => h.actImgErase) h)

theorem Kept.execImgData {x0 : Xfer} {data : Bytes} (h : Kept s t) : Runs (Instr.imgData x0 data).wf s (Machine.execImgData x0 data t) :=
  .next (.hostWrite (fun h => h.actImgData) h)

theorem Kept.execImgVerify {x0 : Xfer} (h : Kept s t) : Runs (Instr.imgVerify x0).wf s (Machine.execImgVerify x0 t) :=
  .next (.hostWrite (fun h => h.actImgVerify) h)

theorem Kept.execUpdateOperationComplete (h : Kept s t) :
    Runs (Instr.updateOperationComplete).wf s (Machine.execUpdateOperationComplete t) := by
  unfold Machine.execUpdateOperationComplete
  split
  · exact .next h.endUpdate
  · exact .next h

theorem Kept.execImgActivate {x0 : Xfer} (h : Kept s t) : Runs (Instr.imgActivate x0).wf s (Machine.execImgActivate x0 t) :=
  .next (.hostWrite (fun h => h.actImgActivate) h)

theorem Kept.execImgConfirm {x0 : Xfer} (h : Kept s t) : Runs (Instr.imgConfirm x0).wf s (Machine.execImgConfirm x0 t) :=
  .next (.hostWrite (fun h => h.actImgConfirm) h)

theorem Kept.execRollbackCommit {x0 : Xfer} (h : Kept s t) : Runs (Instr.rollbackCommit x0).wf s (Machine.execRollbackCommit x0 t) :=
  .next (.hostWrite (fun h => h.actRollbackCommit) h)

theorem Kept.execRollbackBurnComplete (h : Kept s t) : Runs (Instr.rollbackBurnComplete).wf s (Machine.execRollbackBurnComplete t) :=
  .ite (.next (by
    split
    · exact h.onBoot.setObj.setObj.setObj
    · exact h.onBoot.setObj)) (.next h)

theorem Kept.execAttestRequest {x0 : Xfer} (h : Kept s t) : Runs (Instr.attestRequest x0).wf s (Machine.execAttestRequest x0 t) :=
  .next (.hostWrite (fun h => h.actAttestRequest) h)

theorem Kept.execAttestReportReady (h : Kept s t) : Runs (Instr.attestReportReady).wf s (Machine.execAttestReportReady t) :=
  .ite (.next h.reserveLeaf.setBlob.onBoot) (.next h)

theorem Kept.execOwnerProgram {x0 : Xfer} {hash : Bytes} (h : Kept s t) :
    Runs (Instr.ownerProgram x0 hash).wf s (Machine.execOwnerProgram x0 hash t) :=
  .next (.hostWrite (fun h => h.actOwnerProgram) h)

theorem Kept.execDebugToken {x0 : Xfer} {data : Bytes} (h : Kept s t) :
    Runs (Instr.debugToken x0 data).wf s (Machine.execDebugToken x0 data t) :=
  .next (.hostWrite (fun h => h.actDebugToken) h)

theorem Kept.execDebugClose {x0 : Xfer} (h : Kept s t) : Runs (Instr.debugClose x0).wf s (Machine.execDebugClose x0 t) :=
  .next (.hostWrite (fun h => h.actDebugClose) h)

/-! ### JTAG (19 R626; 20 R637) -/

theorem Kept.execJtagBypass (h : Kept s t) : Runs (Instr.jtagBypass).wf s (Machine.execJtagBypass t) := .next h.onJtag

theorem Kept.execIdcode (h : Kept s t) : Runs (Instr.idcode).wf s (Machine.execIdcode t) := .next h.onJtag

theorem Kept.execSamplePreload {preload : Nat} (h : Kept s t) :
    Runs (Instr.samplePreload preload).wf s (Machine.execSamplePreload preload t) := by
  unfold Machine.execSamplePreload
  split
  next x0 x1 hx =>
    have hx : Kept s x1 := Kept.snd h.free hx
    exact .next hx.onJtag

theorem Kept.execExtest {cells : Nat} (h : Kept s t) : Runs (Instr.extest cells).wf s (Machine.execExtest cells t) :=
  .ite (by
    split
    next x0 x1 hx =>
      have hx : Kept s x1 := Kept.snd h.free hx
      exact .next hx.onJtag) (.next h)

theorem Kept.execJtagReset {lowNs : Nat} (h : Kept s t) : Runs (Instr.jtagReset lowNs).wf s (Machine.execJtagReset lowNs t) :=
  .next (.ite h.onJtag h)

theorem Kept.execRailUndervoltage {rail lowNs mv : Nat} (h : Kept s t) :
    Runs (Instr.railUndervoltage rail lowNs mv).wf s (Machine.execRailUndervoltage rail lowNs mv t) :=
  .guard (by simp +contextual [Instr.wf]) (.ite (.next h.powerLost.onBoot) (.next h))

theorem Kept.execThermtrip {tj : Int} (h : Kept s t) : Runs (Instr.thermtrip tj).wf s (Machine.execThermtrip tj t) :=
  .next (.ite h.powerLost.onBoot h)

theorem Kept.execGddr7TemperatureReadout {ch : Nat} {temp : Int} (h : Kept s t) :
    Runs (Instr.gddr7TemperatureReadout ch temp).wf s (Machine.execGddr7TemperatureReadout ch temp t) :=
  .guard (by simp +contextual [Instr.wf]) (.next (.ite h.setObj h))

theorem Kept.execTjCrossesHostCap {tj : Int} (h : Kept s t) : Runs (Instr.tjCrossesHostCap tj).wf s (Machine.execTjCrossesHostCap tj t) :=
  .next h.setObj

theorem Kept.execUnitRetire {x0 : Xfer} {v : Int} (h : Kept s t) : Runs (Instr.unitRetire x0 v).wf s (Machine.execUnitRetire x0 v t) :=
  .next (.hostWrite (fun h => h.actUnitRetire) h)

theorem Kept.execInjArm {x0 : Xfer} (h : Kept s t) : Runs (Instr.injArm x0).wf s (Machine.execInjArm x0 t) :=
  .next (.hostWrite (fun h => h.actInjArm) h)

theorem Kept.execInjRestore {x0 : Xfer} (h : Kept s t) : Runs (Instr.injRestore x0).wf s (Machine.execInjRestore x0 t) :=
  .next (.hostWrite (fun h => h.actInjRestore) h)

theorem Kept.execSegmentTimeout {read : Bool} (h : Kept s t) :
    Runs (Instr.segmentTimeout read).wf s (Machine.execSegmentTimeout read t) := by
  unfold Machine.execSegmentTimeout
  split
  · exact .next h.advanceTicks.expireSegments
  · exact .next h

/-! ### The service (05 R166; 18 R597; 19 R609, R646) -/

theorem Kept.execDictRead {x0 : Xfer} {index sub : Nat} {layer offset most : Nat} (h : Kept s t) :
    Runs (Instr.dictRead x0 index sub layer offset most).wf s (Machine.execDictRead x0 index sub layer offset most t) :=
  .next h.arrive

theorem Kept.execDictReadDescriptor {x0 : Xfer} {index sub : Nat} (h : Kept s t) :
    Runs (Instr.dictReadDescriptor x0 index sub).wf s (Machine.execDictReadDescriptor x0 index sub t) :=
  .next h.arrive

theorem Kept.execDictWrite {x0 : Xfer} {index sub : Nat} {op offset total : Nat} {data : Bytes} (h : Kept s t) :
    Runs (Instr.dictWrite x0 index sub op offset total data).wf s (Machine.execDictWrite x0 index sub op offset total data t) :=
  .next h.arrive

theorem Kept.execDictRevertImage {x0 : Xfer} {index sub : Nat} (h : Kept s t) :
    Runs (Instr.dictRevertImage x0 index sub).wf s (Machine.execDictRevertImage x0 index sub t) :=
  .next h.arrive

theorem Kept.execDictRevertFactory {x0 : Xfer} {index sub : Nat} (h : Kept s t) :
    Runs (Instr.dictRevertFactory x0 index sub).wf s (Machine.execDictRevertFactory x0 index sub t) :=
  .next h.arrive

theorem Kept.execRegisterWrite {x0 : Xfer} {index sub : Nat} {data : Bytes} (h : Kept s t) :
    Runs (Instr.registerWrite x0 index sub data).wf s (Machine.execRegisterWrite x0 index sub data t) :=
  .next h.arrive

theorem Kept.execReadEnableLog {x0 : Xfer} (h : Kept s t) : Runs (Instr.readEnableLog x0).wf s (Machine.execReadEnableLog x0 t) :=
  .next (.hostPop (fun h => h.popRest) h)

theorem Kept.execEnableDeferredCheck {index sub : Nat} (h : Kept s t) :
    Runs (Instr.enableDeferredCheck index sub).wf s (Machine.execEnableDeferredCheck index sub t) :=
  .ite (.next (.ite h.deferredCheck.serveLatched h.deferredCheck.serveHeld)) (.next h)

theorem Kept.execServoUpdate (h : Kept s t) : Runs (Instr.servoUpdate).wf s (Machine.execServoUpdate t) :=
  .next (.ite h.servoUpdate.timeChecks h.servoUpdate)

/-! ### Resets (19 R603, R604) -/

theorem Kept.execPowerOnReset (h : Kept s t) : Runs (Instr.powerOnReset).wf s (Machine.execPowerOnReset t) := .next h.powerOn.afterReset

theorem Kept.execColdReset {lowNs : Nat} (h : Kept s t) : Runs (Instr.coldReset lowNs).wf s (Machine.execColdReset lowNs t) :=
  .next (.ite h.coldReset.afterReset h)

theorem Kept.execWarmReset {lowNs : Nat} (h : Kept s t) : Runs (Instr.warmReset lowNs).wf s (Machine.execWarmReset lowNs t) :=
  .next (.ite h.warmReset.afterReset h)

theorem Kept.execResetCmdWarm {x0 : Xfer} (h : Kept s t) : Runs (Instr.resetCmdWarm x0).wf s (Machine.execResetCmdWarm x0 t) :=
  .next h.arrive

theorem Kept.execResetCmdCold {x0 : Xfer} (h : Kept s t) : Runs (Instr.resetCmdCold x0).wf s (Machine.execResetCmdCold x0 t) :=
  .next h.arrive

theorem Kept.execManagementCoreWatchdog {core : Nat} (h : Kept s t) :
    Runs (Instr.managementCoreWatchdog core).wf s (Machine.execManagementCoreWatchdog core t) :=
  .guard (by simp +contextual [Instr.wf]) (.ite (.next h) (.ite (.next h.warmReset.afterReset) (.next h.coreFault)))

theorem Kept.execRtcOscillatorRuns (h : Kept s t) : Runs (Instr.rtcOscillatorRuns).wf s (Machine.execRtcOscillatorRuns t) :=
  .ite (.next h.onGuard.bootReady.afterReset) (.next h)

theorem Kept.execRtcAlarm (h : Kept s t) : Runs (Instr.rtcAlarm).wf s (Machine.execRtcAlarm t) :=
  .ite (.next (.ite h.wakeStarts.serveLatched.drawEdge.wakeEnds h.wakeStarts.serveLatched.drawEdge)) (.next h)

theorem Kept.execWatchExitComplete (h : Kept s t) : Runs (Instr.watchExitComplete).wf s (Machine.execWatchExitComplete t) :=
  .next (.ite h.setObj.setObj.shutDone.serveHeld h)

theorem Kept.execMalformedMessageRx {dt module : Nat} {units : Bytes} (h : Kept s t) :
    Runs (Instr.malformedMessageRx dt module units).wf s (Machine.execMalformedMessageRx dt module units t) :=
  .guard (by simp +contextual [Instr.wf]) (.next (.ite h.advance.receiveStretch h.advance))

theorem Kept.execSidebandMessageRx {dt module : Nat} {vendor code : Nat} {data : Bytes} (h : Kept s t) :
    Runs (Instr.sidebandMessageRx dt module vendor code data).wf s (Machine.execSidebandMessageRx dt module vendor code data t) :=
  .guard (by simp +contextual [Instr.wf]) (.next (.ite h.advance.bump h.advance.sidePiece))

theorem exec_runs (i : Instr) (h : Kept s t) : Runs i.wf s (exec i t) := by
  cases i with
  | writeLegacyMode => exact h.execWriteLegacyMode
  | ppsInEdge => exact h.execPpsInEdge
  | dfeSyncEdge => exact h.execDfeSyncEdge
  | pulseRequalify => exact h.execPulseRequalify
  | ppsLoss => exact h.execPpsLoss
  | todFrameRx => exact h.execTodFrameRx
  | waitToRestoreExpiry => exact h.execWaitToRestoreExpiry
  | writeServoEnable => exact h.execWriteServoEnable
  | writeSourcePriority => exact h.execWriteSourcePriority
  | writePtpRole => exact h.execWritePtpRole
  | writeAuthMode => exact h.execWriteAuthMode
  | guardStepConfirm => exact h.execGuardStepConfirm
  | triggerFire => exact h.execTriggerFire
  | writeTriggerTarget => exact h.execWriteTriggerTarget
  | readCapFifo => exact h.execReadCapFifo
  | ptpMessageRx => exact h.execPtpMessageRx
  | ptpMessageTx => exact h.execPtpMessageTx
  | synceOutputResume => exact h.execSynceOutputResume
  | writeNlEnable => exact h.execWriteNlEnable
  | nlDetection => exact h.execNlDetection
  | nlReceptionCommit => exact h.execNlReceptionCommit
  | nlResultWritten => exact h.execNlResultWritten
  | writeAirEpoch => exact h.execWriteAirEpoch
  | courseTentative => exact h.execCourseTentative
  | courseRevise => exact h.execCourseRevise
  | courseBind => exact h.execCourseBind
  | courseCancel => exact h.execCourseCancel
  | dlTbData => exact h.execDlTbData
  | courseAutoBind => exact h.execCourseAutoBind
  | courseInAir => exact h.execCourseInAir
  | courseEgressComplete => exact h.execCourseEgressComplete
  | outcomeSend => exact h.execOutcomeSend
  | outcomeAck => exact h.execOutcomeAck
  | operationLsExpiry => exact h.execOperationLsExpiry
  | operationLfCancel => exact h.execOperationLfCancel
  | ucieLaneRepair => exact h.execUcieLaneRepair
  | ucieModuleLost => exact h.execUcieModuleLost
  | ucieModuleRetrained => exact h.execUcieModuleRetrained
  | restoreHoldExpiry => exact h.execRestoreHoldExpiry
  | channelReturn => exact h.execChannelReturn
  | sidebandMessageRx => exact h.execSidebandMessageRx
  | malformedMessageRx => exact h.execMalformedMessageRx
  | resumeOpen => exact h.execResumeOpen
  | resumeModeResume => exact h.execResumeModeResume
  | resumeClose => exact h.execResumeClose
  | writeSessionHold => exact h.execWriteSessionHold
  | dictRead => exact h.execDictRead
  | dictReadDescriptor => exact h.execDictReadDescriptor
  | dictWrite => exact h.execDictWrite
  | dictRevertImage => exact h.execDictRevertImage
  | dictRevertFactory => exact h.execDictRevertFactory
  | registerWrite => exact h.execRegisterWrite
  | segmentTimeout => exact h.execSegmentTimeout
  | enableDeferredCheck => exact h.execEnableDeferredCheck
  | readEnableLog => exact h.execReadEnableLog
  | writeCarrierEnable => exact h.execWriteCarrierEnable
  | writeUeContext => exact h.execWriteUeContext
  | writeUeRelease => exact h.execWriteUeRelease
  | kilnFeed => exact h.execKilnFeed
  | kilnAttemptEnd => exact h.execKilnAttemptEnd
  | kilnCancelToken => exact h.execKilnCancelToken
  | kilnEngineFault => exact h.execKilnEngineFault
  | leOperationEnd => exact h.execLeOperationEnd
  | leCancelToken => exact h.execLeCancelToken
  | leEngineFault => exact h.execLeEngineFault
  | xeEngineFault => exact h.execXeEngineFault
  | wbDefine => exact h.execWbDefine
  | wbDelete => exact h.execWbDelete
  | writeWbWeights => exact h.execWriteWbWeights
  | wbCommit => exact h.execWbCommit
  | wbCopyComplete => exact h.execWbCopyComplete
  | wbSwapDecision => exact h.execWbSwapDecision
  | wbSwapBoundary => exact h.execWbSwapBoundary
  | writePortEnable => exact h.execWritePortEnable
  | portLinkUp => exact h.execPortLinkUp
  | fhLinkDown => exact h.execFhLinkDown
  | fecBerWindow => exact h.execFecBerWindow
  | failoverReturn => exact h.execFailoverReturn
  | portShutdownComplete => exact h.execPortShutdownComplete
  | frameRx => exact h.execFrameRx
  | uplaneMessageRx => exact h.execUplaneMessageRx
  | oneWayDelayMsgRx => exact h.execOneWayDelayMsgRx
  | remoteResetResponseRx => exact h.execRemoteResetResponseRx
  | writeFwdRules => exact h.execWriteFwdRules
  | dlCplaneSend => exact h.execDlCplaneSend
  | ulCplaneSend => exact h.execUlCplaneSend
  | uplaneLaunch => exact h.execUplaneLaunch
  | upTxLate => exact h.execUpTxLate
  | ulWindowClose => exact h.execUlWindowClose
  | owdStartRequest => exact h.execOwdStartRequest
  | owdStartFollowUp => exact h.execOwdStartFollowUp
  | remoteResetSend => exact h.execRemoteResetSend
  | dfeResetAll => exact h.execDfeResetAll
  | writeTaps => exact h.execWriteTaps
  | commitTaps => exact h.execCommitTaps
  | coefSwapDecision => exact h.execCoefSwapDecision
  | coefFadeStart => exact h.execCoefFadeStart
  | coefFadeEnd => exact h.execCoefFadeEnd
  | coefCopyComplete => exact h.execCoefCopyComplete
  | coefCrcCheck => exact h.execCoefCrcCheck
  | thrBlockEnd => exact h.execThrBlockEnd
  | thrHoldoffEnd => exact h.execThrHoldoffEnd
  | txWindowOpen => exact h.execTxWindowOpen
  | txWindowClose => exact h.execTxWindowClose
  | txgateEdge => exact h.execTxgateEdge
  | scalarRegisterOp => exact h.execScalarRegisterOp
  | scalarImmediateOp => exact h.execScalarImmediateOp
  | wideImmediate => exact h.execWideImmediate
  | scalarLoad => exact h.execScalarLoad
  | scalarStore => exact h.execScalarStore
  | branch => exact h.execBranch
  | jump => exact h.execJump
  | vectorArithmetic => exact h.execVectorArithmetic
  | vectorMultiply => exact h.execVectorMultiply
  | vectorPermute => exact h.execVectorPermute
  | vectorLoad => exact h.execVectorLoad
  | vectorStore => exact h.execVectorStore
  | gather => exact h.execGather
  | scatter => exact h.execScatter
  | firstFaultGather => exact h.execFirstFaultGather
  | pspan => exact h.execPspan
  | predicateOp => exact h.execPredicateOp
  | controlRegisterAccess => exact h.execControlRegisterAccess
  | fence => exact h.execFence
  | syscall => exact h.execSyscall
  | fcall => exact h.execFcall
  | breakpoint => exact h.execBreakpoint
  | eret => exact h.execEret
  | tend => exact h.execTend
  | taskEndReport => exact h.execTaskEndReport
  | taskStart => exact h.execTaskStart
  | tileCancel => exact h.execTileCancel
  | tileFault => exact h.execTileFault
  | bondMismatch => exact h.execBondMismatch
  | spareSelfTest => exact h.execSpareSelfTest
  | writeTileVl => exact h.execWriteTileVl
  | tileVlApply => exact h.execTileVlApply
  | writeBondMode => exact h.execWriteBondMode
  | bondChangeComplete => exact h.execBondChangeComplete
  | fuse => exact h.execFuse
  | fusedJobSend => exact h.execFusedJobSend
  | fwait => exact h.execFwait
  | ftest => exact h.execFtest
  | fcancel => exact h.execFcancel
  | bfb => exact h.execBfb
  | bff => exact h.execBff
  | fusedPublication => exact h.execFusedPublication
  | dispatch => exact h.execDispatch
  | promotion => exact h.execPromotion
  | operationEnd => exact h.execOperationEnd
  | prefetchCopyComplete => exact h.execPrefetchCopyComplete
  | prefetchWaitExpiry => exact h.execPrefetchWaitExpiry
  | writePartEnable => exact h.execWritePartEnable
  | writeTraceEnable => exact h.execWriteTraceEnable
  | readTraceRecords => exact h.execReadTraceRecords
  | readReq => exact h.execReadReq
  | write => exact h.execWrite
  | message => exact h.execMessage
  | readResp => exact h.execReadResp
  | writeAck => exact h.execWriteAck
  | messageAck => exact h.execMessageAck
  | linkReplay => exact h.execLinkReplay
  | requestTimeout => exact h.execRequestTimeout
  | requestRetryResend => exact h.execRequestRetryResend
  | ringLinkFault => exact h.execRingLinkFault
  | foldNoticeRx => exact h.execFoldNoticeRx
  | reverseHoldExpiry => exact h.execReverseHoldExpiry
  | ringRestore => exact h.execRingRestore
  | jointPathFault => exact h.execJointPathFault
  | writeArbTable => exact h.execWriteArbTable
  | arbCommit => exact h.execArbCommit
  | arbSwapDecision => exact h.execArbSwapDecision
  | arbSwap => exact h.execArbSwap
  | edcMismatch => exact h.execEdcMismatch
  | channelRetrainComplete => exact h.execChannelRetrainComplete
  | channelQueueRetry => exact h.execChannelQueueRetry
  | gddr7ChannelLost => exact h.execGddr7ChannelLost
  | gddr7Scrub => exact h.execGddr7Scrub
  | palletStoreScrub => exact h.execPalletStoreScrub
  | tileMemoryScrub => exact h.execTileMemoryScrub
  | writeRetiredPages => exact h.execWriteRetiredPages
  | writeRetiredBanks => exact h.execWriteRetiredBanks
  | readErrLog => exact h.execReadErrLog
  | readMcRecord => exact h.execReadMcRecord
  | hodDescriptorEnd => exact h.execHodDescriptorEnd
  | hodResponseEnd => exact h.execHodResponseEnd
  | hodChainSignal => exact h.execHodChainSignal
  | haltHoldExpiry => exact h.execHaltHoldExpiry
  | hodRelease => exact h.execHodRelease
  | diagStart => exact h.execDiagStart
  | diagStop => exact h.execDiagStop
  | referenceFrequencyCheck => exact h.execReferenceFrequencyCheck
  | guardAudit => exact h.execGuardAudit
  | guardConfigCrcCheck => exact h.execGuardConfigCrcCheck
  | powerMeterBlock => exact h.execPowerMeterBlock
  | guardSelfCheck => exact h.execGuardSelfCheck
  | guardArmed => exact h.execGuardArmed
  | muteRelease => exact h.execMuteRelease
  | guardResync => exact h.execGuardResync
  | dfeChainFault => exact h.execDfeChainFault
  | palletSliceFault => exact h.execPalletSliceFault
  | managementCoreWatchdog => exact h.execManagementCoreWatchdog
  | unitRetire => exact h.execUnitRetire
  | faultClear => exact h.execFaultClear
  | injArm => exact h.execInjArm
  | injRestore => exact h.execInjRestore
  | readMuteLog => exact h.execReadMuteLog
  | hostVote => exact h.execHostVote
  | domainTransitionStart => exact h.execDomainTransitionStart
  | domainDrained => exact h.execDomainDrained
  | domainEnterRunComplete => exact h.execDomainEnterRunComplete
  | avsAck => exact h.execAvsAck
  | avsPoll => exact h.execAvsPoll
  | pmbusRead => exact h.execPmbusRead
  | writeWatchEnable => exact h.execWriteWatchEnable
  | watchCplaneSend => exact h.execWatchCplaneSend
  | watchWindowOpen => exact h.execWatchWindowOpen
  | watchWindowClose => exact h.execWatchWindowClose
  | coldReset => exact h.execColdReset
  | warmReset => exact h.execWarmReset
  | resetCmdWarm => exact h.execResetCmdWarm
  | resetCmdCold => exact h.execResetCmdCold
  | imgErase => exact h.execImgErase
  | imgData => exact h.execImgData
  | imgVerify => exact h.execImgVerify
  | imgActivate => exact h.execImgActivate
  | imgConfirm => exact h.execImgConfirm
  | rollbackCommit => exact h.execRollbackCommit
  | attestRequest => exact h.execAttestRequest
  | ownerProgram => exact h.execOwnerProgram
  | debugToken => exact h.execDebugToken
  | debugClose => exact h.execDebugClose
  | samplePreload => exact h.execSamplePreload
  | extest => exact h.execExtest
  | jtagReset => exact h.execJtagReset
  | railUndervoltage => exact h.execRailUndervoltage
  | thermtrip => exact h.execThermtrip
  | gddr7TemperatureReadout => exact h.execGddr7TemperatureReadout
  | tjCrossesHostCap => exact h.execTjCrossesHostCap
  | nanosecondsWrap => exact h.execNanosecondsWrap
  | servoUpdate => exact h.execServoUpdate
  | limitWindowClosure => exact h.execLimitWindowClosure
  | authExpiry => exact h.execAuthExpiry
  | authStepDecision => exact h.execAuthStepDecision
  | authStepApply => exact h.execAuthStepApply
  | ppsOutPulse => exact h.execPpsOutPulse
  | listenGapOpen => exact h.execListenGapOpen
  | listenGapClose => exact h.execListenGapClose
  | airEpochApply => exact h.execAirEpochApply
  | journalWriteComplete => exact h.execJournalWriteComplete
  | sessionHoldExpiry => exact h.execSessionHoldExpiry
  | indicationSend => exact h.execIndicationSend
  | owdTimeout => exact h.execOwdTimeout
  | remoteResetTimeout => exact h.execRemoteResetTimeout
  | dfeCommandReset => exact h.execDfeCommandReset
  | arbPhaseAlign => exact h.execArbPhaseAlign
  | contextRebuildComplete => exact h.execContextRebuildComplete
  | journalRebuildComplete => exact h.execJournalRebuildComplete
  | bucketLeak => exact h.execBucketLeak
  | divergenceComparison => exact h.execDivergenceComparison
  | muteComplete => exact h.execMuteComplete
  | referenceAbsent => exact h.execReferenceAbsent
  | rtcStopped => exact h.execRtcStopped
  | guardKeepaliveLoss => exact h.execGuardKeepaliveLoss
  | avsRetry => exact h.execAvsRetry
  | rtcAlarm => exact h.execRtcAlarm
  | watchExitComplete => exact h.execWatchExitComplete
  | powerOnReset => exact h.execPowerOnReset
  | updateOperationComplete => exact h.execUpdateOperationComplete
  | rollbackBurnComplete => exact h.execRollbackBurnComplete
  | attestReportReady => exact h.execAttestReportReady
  | jtagBypass => exact h.execJtagBypass
  | idcode => exact h.execIdcode
  | rtcOscillatorRuns => exact h.execRtcOscillatorRuns

theorem step_kept {rest : List Instr} (c : Instr) (h : step { s with pending := c :: rest } = .next t) :
    Kept { s with pending := rest } t := by
  have hr := exec_runs c (Kept.rfl (s := { s with pending := rest }))
  rwa [show exec c { s with pending := rest } = .next t from h] at hr

theorem step_canonical (hs : Canonical s) (h : step s = .next t) : Canonical t := by
  unfold step at h
  split at h
  · cases h
    exact Kept.rfl.advance.canonical hs
  next c rest _ => exact (step_kept c h).canonical hs

theorem exec_fault {i : Instr} {f : Fault} (h : exec i s = .fault f) : f = .noSuchUnit ∧ i.wf = false := by
  have hr := exec_runs i (Kept.rfl (s := s))
  rwa [h] at hr

theorem exec_not_refused (i : Instr) (s : State) (r : Refusal) : exec i s ≠ .refused r := fun h => by
  have hr := exec_runs i (Kept.rfl (s := s))
  rwa [h] at hr

theorem exec_pending {i : Instr} (h : exec i s = .next t) : t.pending = s.pending := by
  have hr := exec_runs i (Kept.rfl (s := s))
  rw [h] at hr
  exact hr.pending

theorem exec_completes {i : Instr} (s : State) (hi : i.wf = true) : Completes (exec i s) := by
  cases h : exec i s with
  | next t => exact ⟨t, rfl⟩
  | fault f => exact absurd hi (by rw [(exec_fault h).2]; exact Bool.false_ne_true)
  | refused r => exact absurd h (exec_not_refused i s r)

end Sys2Proof.Machine
open Sys2Proof Sys2Proof.Machine Sys2Proof.Safety

/-- Settles O57: every command keeps the canonical form (`exec_runs`), and so does a tick. -/
theorem stepKeepsCanonical : Obligations.StepKeepsCanonical := by
  unfold Obligations.StepKeepsCanonical
  exact fun _ _ => step_canonical

/-- Settles O58, by the same walk over the commands (`exec_runs`). -/
theorem commandsComplete : Obligations.CommandsComplete := by
  unfold Obligations.CommandsComplete
  exact ⟨fun _ s hi => exec_completes s hi, exec_not_refused, fun _ _ _ => exec_fault, fun _ _ _ => exec_pending⟩

/-- Settles O55: the front of the queue is the command run, and the empty queue is one tick. -/
theorem stepRunsFront : Obligations.StepRunsFront := by
  unfold Obligations.StepRunsFront
  refine ⟨fun c rest s => rfl, fun s hp => ⟨advance s 1, ?_, advance_ticks s 1, ?_, Leaves.advance s 1 fun _ h => h⟩⟩
  · rw [step, hp]
  · exact congrArg (s.clock.count + ·) (Nat.one_mul _)

theorem carrierEnable_reset : ∀ n < 64, State.reset.obj (O.carrierEnable n) = 0 := by decide +kernel

theorem portEnable_reset : ∀ p < 24, State.reset.obj (O.portEnable p) = 0 := by decide +kernel

/-- Settles O56: the reset state lists nothing, so every object reads as its factory value. -/
theorem resetState : Obligations.ResetState := by
  unfold Obligations.ResetState
  exact ⟨reset_canonical, rfl, fun _ => rfl, fun _ => rfl, fun _ => rfl, by decide +kernel, by decide +kernel, by decide +kernel,
    by decide +kernel, by decide +kernel, carrierEnable_reset, portEnable_reset, by decide +kernel, by decide +kernel⟩
end

section
/-! SUPPORT. Host writes of the time base (01): a write as it is served in the terms of the clock and of time, and each action's reason and state. -/
namespace Sys2Proof.Machine
open Sys2Proof.Safety

/-- A number of any object is written in one message. -/
theorem lengthOf_num (key : Nat) (v : Int) : lengthOf key (.num v) ≤ 1024 := by
  unfold lengthOf
  split
  next r _ =>
    have hl (n m : Nat) : (leBytes n m).length = n := by simp
    cases r.type <;> simp [encodeVal, ObjType.size, hl]
  next => decide

/-- A value of at most SEG_MAX bytes is written into the state that time's passing leaves. -/
theorem atWrite_num (s : State) (x : Xfer) (key : Nat) (v : Int) : atWrite s x key (.num v) = advance s x.dt :=
  if_pos (lengthOf_num key v)

/-- A served write of a number from the frame and the objects of its action's state. -/
theorem hostWrite_num {x : Xfer} {key : Nat} {v : Int} {act : Action} {s u : State} {r : Reason} {ps : List Part} {ks : List Nat}
    (h : Accepts s x key (.num v)) (ha : act (advance s x.dt) = (r, u)) (hu : Leaves (advance s x.dt) u (.dict :: ps) ks)
    (hl : Part.link ∉ Part.dict :: ps) :
    Replied s (hostWrite x key (.num v) act s) x key (.num v) r
      ∧ SameBut s (hostWrite x key (.num v) act s) (ps ++ .dict :: .link :: timeParts)
      ∧ ObjsBut s (hostWrite x key (.num v) act s) ks
      ∧ SameBut u (hostWrite x key (.num v) act s) [.dict, .link]
      ∧ ∀ j, j ∉ [O.transfersServed, O.transfersRefused, O.busyReplies] → (hostWrite x key (.num v) act s).obj j = u.obj j := by
  rw [← atWrite_num s x key v] at ha hu
  obtain ⟨⟨hr, hp, ho⟩, hj⟩ := hostWrite_answers h ha hu hl
  rw [if_pos (lengthOf_num key v)] at hp
  have hsent : u.link.sent = s.link.sent := by rw [hu.1 .link hl, atWrite_link, advance_link]
  exact ⟨hr, hp, ho, (hostWrite_full x key _ act s u r h ha hsent).2.1, hj⟩

/-! ## LEGACY_MODE, and what the servo's check guards (01 R18, R41, R67) -/

theorem actLegacyMode_leaves (v : Int) (s : State) : Leaves s (actLegacyMode v s).2 [.dict, .clock] [O.legacyMode, O.changeCount] := by
  have hc : Leaves s (s.change O.legacyMode v) [.dict, .clock] [O.legacyMode, O.changeCount] :=
    Leaves.change s _ v (by decide) (by decide) (by decide)
  refine Leaves.trans hc ⟨fun p hp => ?_, fun k _ => rfl⟩
  cases p <;> simp_all [Part.same, actLegacyMode]

@[simp] theorem State.isOn_advance (s : State) (n k : Nat) : (advance s n).isOn k = s.isOn k := by
  simp [State.isOn]

theorem servoCheck_congr {s t : State} (h : t.dict = s.dict) : servoCheck t = servoCheck s := by
  have ho : t.obj = s.obj := funext (State.obj_congr h)
  simp [servoCheck, State.prio, State.nat, ho]

@[simp] theorem servoCheck_advance (s : State) (n : Nat) : servoCheck (advance s n) = servoCheck s := servoCheck_congr (by simp)

theorem servoCheck_change_advance (s : State) (n k : Nat) (v : Int) : servoCheck ((advance s n).change k v) = servoCheck (s.change k v) :=
  servoCheck_congr (State.change_dict_congr (by simp) k v)

theorem hostWrite_servoChecked {x : Xfer} {key : Nat} {v : Int} {s : State} (h : Accepts s x key (.num v)) (hk : key ≠ O.changeCount)
    (hn : key ∉ [O.transfersServed, O.transfersRefused, O.busyReplies]) :
    SameBut s (hostWrite x key (.num v) (actServoChecked key v) s) (.dict :: .link :: timeParts)
      ∧ ObjsBut s (hostWrite x key (.num v) (actServoChecked key v) s) [key, O.changeCount]
      ∧ (if s.isOn O.servoEnable = true ∧ servoCheck (s.change key v) ≠ .ok
         then (hostWrite x key (.num v) (actServoChecked key v) s).obj key = s.obj key
           ∧ Replied s (hostWrite x key (.num v) (actServoChecked key v) s) x key (.num v) .noTimeSource
         else (hostWrite x key (.num v) (actServoChecked key v) s).obj key = v
           ∧ Replied s (hostWrite x key (.num v) (actServoChecked key v) s) x key (.num v) .ok) := by
  by_cases hc : s.isOn O.servoEnable = true ∧ servoCheck (s.change key v) ≠ .ok
  · have ha : actServoChecked key v (advance s x.dt) = (.noTimeSource, advance s x.dt) := by
      simp [actServoChecked, servoCheck_change_advance, hc]
    obtain ⟨hr, hp, ho, -, hj⟩ := hostWrite_num h ha (Leaves.refl _ [.dict] [key, O.changeCount]) (by decide)
    rw [if_pos hc]
    exact ⟨hp, ho, (hj key hn).trans (by simp), hr⟩
  · have ha : actServoChecked key v (advance s x.dt) = (.ok, (advance s x.dt).change key v) := by
      simp [actServoChecked, servoCheck_change_advance]
      simpa using hc
    obtain ⟨hr, hp, ho, -, hj⟩ := hostWrite_num h ha (Leaves.change _ key v (ps := [.dict]) (ks := [key, O.changeCount])
      (by decide) (by simp) (by simp)) (by decide)
    rw [if_neg hc]
    exact ⟨hp, ho, (hj key hn).trans (State.obj_change_same _ _ _ hk), hr⟩

theorem prioKey_plain (src : Source) : prioKey src ≠ O.changeCount ∧ prioKey src ∉ [O.transfersServed, O.transfersRefused, O.busyReplies] := by
  cases src <;> decide

/-! ## AUTH_MODE (01 R45) -/

theorem actAuthMode_refused {v : Int} {s : State} (h : (0 < s.obj O.authOffsetS ∧ s.obj O.authOffsetNs < 0)
    ∨ (s.obj O.authOffsetS < 0 ∧ 0 < s.obj O.authOffsetNs)) : actAuthMode v s = (.valueRange, s) := by
  simp [actAuthMode, h]

theorem enterAcquire_leaves (x : Source) (s : State) :
    Leaves s (enterAcquire x s) [.dict, .time] [O.selectedSource, O.servoState] :=
  Leaves.trans (Leaves.trans (Leaves.setObj _ _ _ (by decide) (by decide)) (Leaves.setObj _ _ _ (by decide) (by decide)))
    (Leaves.onServo _ _ (by decide))

theorem leaveLocked_leaves (s : State) : Leaves s (leaveLocked s) [.time] [] := by
  unfold leaveLocked
  split
  · exact Leaves.onServo _ _ (by decide)
  · exact Leaves.refl ..

theorem authTest_leaves (x : Source) (recorded : Int) (s : State) :
    Leaves s (authTest x recorded s) [.dict, .time] [O.authStatus, O.selectedSource, O.servoState] := by
  have set (u : State) (v : Int) (f : Servo → Servo) : Leaves u ((u.setObj O.authStatus v).onServo f) [.dict, .time]
      [O.authStatus, O.selectedSource, O.servoState] :=
    Leaves.trans (Leaves.setObj _ _ _ (by decide) (by decide)) (Leaves.onServo _ _ (by decide))
  unfold authTest
  split
  · exact Leaves.refl ..
  · split
    · exact set ..
    · split
      · exact Leaves.refl ..
      · split
        · exact Leaves.trans_mono (Leaves.trans_mono (rs := [.dict, .time]) (ms := [O.selectedSource, O.servoState]) (leaveLocked_leaves s)
            (enterAcquire_leaves x _)) (set ..)
        · exact set ..

/-- The state in which a correction is armed. -/
def authArmed (v : Int) (s : State) : State :=
  (s.setObj O.authStatus 1).onServo fun w => { w with authMode := v.toNat, armedAt := s.clock.ticks, authSrc := none }

theorem authArmed_leaves (v : Int) (s : State) : Leaves s (authArmed v s) [.dict, .time] [O.authStatus] :=
  Leaves.trans (Leaves.setObj _ _ _ (by decide) (by decide)) (Leaves.onServo _ _ (by decide))

theorem authArmed_status (v : Int) (s : State) : (authArmed v s).obj O.authStatus = 1 := State.obj_setObj_same s O.authStatus 1

/-- An offset with both fields of one sign is armed, and the refused source's offset, where one is remembered, is then tested. -/
theorem actAuthMode_armed {v : Int} {s : State} (h : ¬((0 < s.obj O.authOffsetS ∧ s.obj O.authOffsetNs < 0)
    ∨ (s.obj O.authOffsetS < 0 ∧ 0 < s.obj O.authOffsetNs))) : ∃ u, actAuthMode v s = (.ok, u)
      ∧ Leaves s u [.dict, .time] [O.authStatus, O.selectedSource, O.servoState]
      ∧ (s.time.servo.lastRefused = none → u = authArmed v s) := by
  have ha : Leaves s (authArmed v s) [.dict, .time] [O.authStatus, O.selectedSource, O.servoState] :=
    Leaves.mono (authArmed_leaves v s) (by decide) (by decide)
  unfold actAuthMode
  rw [if_neg (by simpa using h)]
  dsimp only
  split
  next x hx =>
    have hn : s.time.servo.lastRefused ≠ none := by rw [show s.time.servo.lastRefused = some x from hx]; simp
    split
    · exact ⟨_, rfl, Leaves.trans ha (authTest_leaves ..), fun h => absurd h hn⟩
    · exact ⟨_, rfl, ha, fun h => absurd h hn⟩
  · exact ⟨_, rfl, ha, fun _ => rfl⟩

/-! ## TARGET (01 R63) -/

theorem actTriggerTarget_leaves (n : Nat) (v : Int) (s : State) :
    Leaves s ((s.change (O.trigTarget n) v).setObj (O.trigStatus n) 1) [.dict] [O.trigTarget n, O.trigStatus n, O.changeCount] :=
  Leaves.trans (Leaves.change _ _ _ (by decide) (by simp) (by simp)) (Leaves.setObj _ _ _ (by decide) (by simp))

/-! ## SERVO_ENABLE (01 R41; 05 R173, R174) -/

theorem recordCheck_leaves (k : Nat) (r : Reason) (s : State) :
    Leaves s (recordCheck k r s) [.dict] [O.lastCheckObject, O.lastCheckReason] :=
  Leaves.trans (Leaves.setObj _ _ _ (by decide) (by decide)) (Leaves.setObj _ _ _ (by decide) (by decide))

theorem setAsked_leaves (k : Nat) (v : Bool) (s : State) : Leaves s (s.setAsked k v) [.dict, .svc] [O.changeCount] :=
  ⟨SameBut.setAsked s k v _ (by decide) (by decide), fun j hj => State.setAsked_obj s k v j (by simpa using hj)⟩

theorem logEnable_leaves (k c : Nat) (r : Reason) (s : State) : Leaves s (logEnable k c r s) [.dict, .svc] [O.enableLogCount] := by
  refine ⟨fun p hp => ?_, fun j hj => logEnable_obj k c r s j (by simpa using hj)⟩
  cases p <;> simp_all [Part.same]

theorem servoRules_afterOn_leaves (s : State) :
    Leaves s (servoRules.afterOn s) [.dict, .svc] [O.servoEnable, O.lastCheckObject, O.lastCheckReason, O.enableLogCount, O.changeCount] := by
  have hs (r : Reason) : Leaves s (servoRules.settle r s) [.dict] [O.servoEnable] := by
    unfold EnableRules.settle
    split
    · exact Leaves.setObj _ _ _ (by decide) (by decide)
    · exact Leaves.setObj _ _ _ (by decide) (by decide)
  have hl (r : Reason) : Leaves s (logEnable O.servoEnable 0 r (recordCheck O.servoEnable r (servoRules.settle r s))) [.dict, .svc]
      [O.servoEnable, O.lastCheckObject, O.lastCheckReason, O.enableLogCount, O.changeCount] :=
    Leaves.trans_mono (Leaves.trans_mono (rs := [.dict]) (ms := [O.servoEnable, O.lastCheckObject, O.lastCheckReason]) (hs r)
      (recordCheck_leaves ..)) (logEnable_leaves ..)
  unfold EnableRules.afterOn
  dsimp only
  split
  · exact Leaves.trans_mono (hl _) (setAsked_leaves ..)
  · exact hl _

theorem servoRules_afterOn_enable (s : State) :
    (servoRules.afterOn s).obj O.servoEnable = if servoRules.judge s = .ok then 1 else 0 := by
  have hl (r : Reason) : (logEnable O.servoEnable 0 r (recordCheck O.servoEnable r (servoRules.settle r s))).obj O.servoEnable
      = if r = .ok then 1 else 0 := by
    rw [logEnable_obj _ _ _ _ _ (by decide), recordCheck_obj _ _ _ _ (by decide) (by decide), EnableRules.settle]
    split
    · exact State.obj_setObj_same ..
    · exact State.obj_setObj_same ..
  unfold EnableRules.afterOn
  dsimp only
  split
  · rw [State.setAsked_obj _ _ _ _ (by decide)]
    exact hl _
  · exact hl _

theorem servoRules_afterOff_leaves (s : State) :
    Leaves s (servoRules.afterOff s) [.dict, .svc] [O.servoEnable, O.changeCount] := 
  Leaves.trans_mono (Leaves.setObj s O.servoEnable 3 (ps := [.dict]) (ks := [O.servoEnable]) (by decide) (by decide)) (setAsked_leaves ..)

theorem servoRules_afterOff_enable (s : State) : (servoRules.afterOff s).obj O.servoEnable = 3 :=
  (State.setAsked_obj _ _ _ _ (by decide)).trans (State.obj_setObj_same ..)

theorem servoRules_judge {s : State} (h : s.obj O.bootState ≠ 5) : servoRules.judge s = servoCheck s := by
  rw [EnableRules.judge, if_neg (by simpa using h)]
  rfl

end Sys2Proof.Machine
open Sys2Proof Sys2Proof.Machine Sys2Proof.Safety

/-- Settles O1: each write is served by its action, which leaves the rest (`hostWrite_num`). -/
theorem timeBaseWrites : Obligations.TimeBaseWrites := by
  unfold Obligations.TimeBaseWrites
  refine ⟨fun x v s h => ?_, fun x src v s h => ?_, fun x v s h => ?_, fun x v s h => ?_, fun x n v s hn h => ?_, fun x s h h0 hb => ?_,
    fun x s h h1 => ?_⟩
  · obtain ⟨hr, hp, ho, hu, hj⟩ := hostWrite_num (ps := [.clock]) (act := actLegacyMode v) (u := (actLegacyMode v (advance s x.dt)).2) (r := .ok) h rfl (actLegacyMode_leaves v _) (by decide)
    refine ⟨_, rfl, (hj _ (by decide)).trans ?_, hr, fun h0 h1 => ?_, SameBut.mono hp (by decide), ho⟩
    · exact State.obj_change_same _ O.legacyMode v (by decide)
    · refine (congrArg Clock.legacy (hu .clock (by decide))).trans ?_
      subst h1
      simp [actLegacyMode, h0]
  · obtain ⟨hk, hn⟩ := prioKey_plain src
    exact ⟨_, rfl, hostWrite_servoChecked h hk hn⟩
  · exact ⟨_, rfl, hostWrite_servoChecked h (by decide) (by decide)⟩
  · refine ⟨_, rfl, ?_⟩
    split
    next hc =>
      obtain ⟨hr, -, -, -, hj⟩ := hostWrite_num h (actAuthMode_refused (s := advance s x.dt) (v := v) (by simpa using hc))
        (Leaves.refl _ [.dict] []) (by decide)
      exact ⟨(hj _ (by decide)).trans (by simp), hr⟩
    next hc =>
      obtain ⟨u, ha, hu, hl⟩ := actAuthMode_armed (s := advance s x.dt) (v := v) (by simpa using hc)
      obtain ⟨hr, -⟩ := hostWrite_num (ps := [.time]) h ha hu (by decide)
      refine ⟨hr, fun hn => ?_⟩
      obtain rfl := hl (by simpa using hn)
      obtain ⟨-, hp, ho, hs, hj⟩ := hostWrite_num (ps := [.time]) h ha (authArmed_leaves ..) (by decide)
      have ht := congrArg TimeBase.servo (hs .time (by decide))
      exact ⟨(hj _ (by decide)).trans (authArmed_status ..), congrArg Servo.authMode ht,
        (congrArg Servo.armedAt ht).trans (advance_ticks s x.dt), SameBut.mono hp (by decide), ho⟩
  · refine ⟨_, if_neg (Nat.not_le.mpr hn), ?_⟩
    by_cases hc : countOf v.toNat ≤ (advance s x.dt).clock.count
    · obtain ⟨hr, hp, ho, -, hj⟩ := hostWrite_num h (act := actTriggerTarget n v) (if_pos hc)
        (Leaves.refl _ [.dict] [O.trigTarget n, O.trigStatus n, O.changeCount]) (by decide)
      rw [if_pos hc]
      exact ⟨hp, ho, (hj _ (by grind)).trans (by simp), hr⟩
    · obtain ⟨hr, hp, ho, -, hj⟩ := hostWrite_num h (act := actTriggerTarget n v) (if_neg hc)
        (actTriggerTarget_leaves ..) (by decide)
      rw [if_neg hc]
      refine ⟨hp, ho, (hj _ (by grind)).trans ?_, (hj _ (by grind)).trans (State.obj_setObj_same ..), hr⟩
      rw [State.obj_setObj_ne _ _ _ _ (by grind)]
      exact State.obj_change_same _ _ _ (by grind)
  · have h0' : (advance s x.dt).obj servoRules.key = 0 := by simpa [servoRules] using h0
    have hj' : servoRules.judge (advance s x.dt) = servoCheck s := (servoRules_judge (by simpa using hb)).trans (by simp)
    obtain ⟨hr, hp, ho, -, hj⟩ := hostWrite_num (ps := [.svc]) h (servoRules.write_on _ h0')
      (servoRules_afterOn_leaves _) (by decide)
    rw [hj'] at hr
    exact ⟨_, rfl, (hj _ (by decide)).trans ((servoRules_afterOn_enable _).trans (by rw [hj'])), hr, SameBut.mono hp (by decide), ho⟩
  · have h1' : (advance s x.dt).obj servoRules.key = 1 := by simpa [servoRules] using h1
    obtain ⟨hr, hp, ho, -, hj⟩ := hostWrite_num (ps := [.svc]) h (servoRules.write_off _ h1')
      (servoRules_afterOff_leaves _) (by decide)
    exact ⟨_, rfl, (hj _ (by decide)).trans (servoRules_afterOff_enable _), hr, SameBut.mono hp (by decide), ho⟩
end

section
/-! SUPPORT. Edges of the pulse inputs (01): what an expected edge, a stray, a capture and a refresh of the sources leave of a pulse input and of the objects. -/
namespace Sys2Proof.Machine
open Sys2Proof.Safety

/-- What each step of a fold leaves, the fold leaves. -/
theorem foldl_proj {α β : Type} (p : State → β) {f : State → α → State} (h : ∀ a s, p (f s a) = p s) (l : List α) (s : State) :
    p (l.foldl f s) = p s := by
  induction l generalizing s with
  | nil => rfl
  | cons a l ih => rw [List.foldl_cons, ih, h]

@[simp] theorem State.onServo_pulse (s : State) (f : Servo → Servo) (i : PulseInput) : (s.onServo f).pulse i = s.pulse i := by
  cases i <;> rfl

@[simp] theorem State.setObj_pulse (s : State) (k : Nat) (v : Int) (i : PulseInput) : (s.setObj k v).pulse i = s.pulse i := by
  cases i <;> rfl

@[simp] theorem State.bump_pulse (s : State) (k n : Nat) (i : PulseInput) : (s.bump k n).pulse i = s.pulse i := by
  cases i <;> rfl

@[simp] theorem State.change_pulse (s : State) (k : Nat) (v : Int) (i : PulseInput) : (s.change k v).pulse i = s.pulse i := by
  cases i <;> simp [State.pulse]

@[simp] theorem raise_pulse (s : State) (k u : Nat) (d : Bytes) (c : Nat) (i : PulseInput) : (raise s k u d c).pulse i = s.pulse i := by
  cases i <;> simp [State.pulse]

@[simp] theorem State.onPulse_pulse (s : State) (f : PulseIn → PulseIn) (i : PulseInput) : (s.onPulse i f).pulse i = f (s.pulse i) := by
  cases i <;> rfl

@[simp] theorem refreshQualified_pulse (s : State) (i : PulseInput) : (refreshQualified s).pulse i = s.pulse i := by
  refine foldl_proj (·.pulse i) (fun x s => ?_) _ s
  split
  · split <;> simp
  · simp

@[simp] theorem refreshQualified_dict (s : State) : (refreshQualified s).dict = s.dict :=
  (Leaves.refreshQualified (ps := [.time]) (ks := []) s (by decide)).1 .dict (by decide)

@[simp] theorem captureUnit_pulse (count n : Nat) (s : State) (i : PulseInput) : (captureUnit count n s).pulse i = s.pulse i := by
  unfold captureUnit
  dsimp only
  split
  · cases i <;> rfl
  · simp

@[simp] theorem capture_pulse (src : Nat) (b : Bool) (count : Nat) (s : State) (i : PulseInput) :
    (capture src b count s).pulse i = s.pulse i := by
  refine foldl_proj (·.pulse i) (fun n s => ?_) _ s
  split <;> simp

/-- A capture keeps a stamp, or counts the lost one in its unit's own counter. -/
theorem capture_obj (src : Nat) (b : Bool) (count : Nat) (s : State) (k : Nat) (h : ∀ n < 8, k ≠ O.capLost n) :
    (capture src b count s).obj k = s.obj k := by
  refine (Leaves.foldl (ps := Part.dict :: [.time]) (ks := (List.range 8).map O.capLost) _ (List.range 8) (fun n hn s => ?_) s).2 k ?_
  · split
    · unfold captureUnit
      dsimp only
      split
      · exact ⟨fun p hp => by cases p <;> simp_all [Part.same], fun _ _ => rfl⟩
      · exact Leaves.bump _ _ _ (by decide) (List.mem_map_of_mem hn)
    · exact Leaves.refl ..
  · simp only [List.mem_map, List.mem_range, not_exists, not_and]
    exact fun n hn he => h n hn he.symm

theorem capture_clock (src : Nat) (b : Bool) (count : Nat) (s : State) : (capture src b count s).clock = s.clock := by
  refine foldl_proj (·.clock) (fun n s => ?_) _ s
  split
  · unfold captureUnit
    dsimp only
    split <;> simp
  · rfl

theorem measureEdge_leaves (s : State) : Leaves s (measureEdge s) [.time] [] ∧ ∀ i, (measureEdge s).pulse i = s.pulse i := by
  unfold measureEdge
  split
  · split
    · split
      · refine ⟨Leaves.trans (t := s.onTime _) ⟨fun p hp => ?_, fun _ _ => rfl⟩ (Leaves.onServo _ _ (by decide)), fun i => ?_⟩
        · cases p <;> simp_all [Part.same]
        · cases i <;> rfl
      · exact ⟨Leaves.refl .., fun _ => rfl⟩
    · exact ⟨Leaves.refl .., fun _ => rfl⟩
  · exact ⟨Leaves.refl .., fun _ => rfl⟩

theorem Leaves.onTime (s : State) (f : TimeBase → TimeBase) {ps : List Part} {ks : List Nat} (h : Part.time ∈ ps) :
    Leaves s (s.onTime f) ps ks :=
  ⟨fun p hp => by cases p <;> simp_all [Part.same], fun _ _ => rfl⟩

theorem Leaves.onPulse (s : State) (i : PulseInput) (f : PulseIn → PulseIn) {ps : List Part} {ks : List Nat} (h : Part.time ∈ ps) :
    Leaves s (s.onPulse i f) ps ks :=
  ⟨fun p hp => by cases p <;> simp_all [Part.same], fun _ _ => by simp⟩

theorem Leaves.ite {s t u : State} {ps : List Part} {ks : List Nat} (c : Prop) [Decidable c] (h1 : Leaves s t ps ks) (h2 : Leaves s u ps ks) :
    Leaves s (if c then t else u) ps ks := by
  split <;> assumption

theorem labelEdge_leaves (e : PpsEdge) (n : Int) (o : Option Int) (l : Bool) (s : State) :
    Leaves s (labelEdge e n o l s) [.dict, .time] [O.utcOffset, O.changeCount] := by
  have hc (u : State) (v : Int) : Leaves u (u.change O.utcOffset v) [.dict, .time] [O.utcOffset, O.changeCount] :=
    Leaves.change _ _ _ (by decide) (by decide) (by decide)
  unfold labelEdge
  extract_lets utc s1 count d leap s2 run count2 s3
  have h1 : Leaves s s1 [.dict, .time] [O.utcOffset, O.changeCount] := by
    subst s1
    cases o
    · exact Leaves.refl ..
    · exact Leaves.ite _ (hc ..) (Leaves.refl ..)
  have h2 : Leaves s s2 [.dict, .time] [O.utcOffset, O.changeCount] := Leaves.trans h1 (Leaves.ite _ (hc ..) (Leaves.refl ..))
  have h3 : Leaves s s3 [.dict, .time] [O.utcOffset, O.changeCount] := Leaves.trans h2 (Leaves.onTime _ _ (by decide))
  have hv (f : Servo → Servo) := Leaves.trans h3 (Leaves.onServo s3 f (ks := [O.utcOffset, O.changeCount]) (by decide))
  exact Leaves.ite _ (hv _) (Leaves.ite _ h3 (hv _))

@[simp] theorem labelEdge_pulse (e : PpsEdge) (n : Int) (o : Option Int) (l : Bool) (s : State) (i : PulseInput) :
    (labelEdge e n o l s).pulse i = s.pulse i := by
  have ht (u : State) (f : TimeBase → TimeBase) (h : ∀ t, (f t).pps = t.pps ∧ (f t).dfeSync = t.dfeSync) :
      (u.onTime f).pulse i = u.pulse i := by
    cases i
    · exact (h _).1
    · exact (h _).2
  unfold labelEdge
  extract_lets utc s1 count d leap s2 run count2 s3
  have h1 : s1.pulse i = s.pulse i := by
    subst s1
    cases o <;> cases l <;> simp
  have h2 : s2.pulse i = s.pulse i := by
    subst s2
    split <;> simp [h1]
  have h3 : s3.pulse i = s.pulse i := (ht _ _ fun _ => ⟨rfl, rfl⟩).trans h2
  split
  · simpa using h3
  · split
    · exact h3
    · simpa using h3

theorem ppsToServo_leaves (count : Nat) (gap : Option Nat) (s : State) :
    Leaves s (ppsToServo count gap s) [.dict, .time] [O.utcOffset, O.changeCount] := by
  unfold ppsToServo
  extract_lets g following e s1
  have h1 : Leaves s s1 [.dict, .time] [O.utcOffset, O.changeCount] := Leaves.onTime _ _ (by decide)
  split
  · split
    · exact Leaves.trans h1 (labelEdge_leaves ..)
    · exact Leaves.trans h1 (Leaves.onTime _ _ (by decide))
  · exact Leaves.trans_mono h1 (measureEdge_leaves _).1

@[simp] theorem ppsToServo_pulse (count : Nat) (gap : Option Nat) (s : State) (i : PulseInput) : 
    (ppsToServo count gap s).pulse i = s.pulse i := by
  unfold ppsToServo
  extract_lets g following e s1
  have h1 : s1.pulse i = s.pulse i := by cases i <;> rfl
  split
  · split
    · simpa using h1
    · exact Eq.trans (by cases i <;> rfl) h1
  · exact ((measureEdge_leaves _).2 i).trans h1

theorem expectedEdge_pulse (i : PulseInput) (count : Nat) (s : State) : (expectedEdge i count s).pulse i
    = { s.pulse i with lastEdge := some count, candidate := none, expected := (s.pulse i).expected + 1, counting := true, missed := 0 } := by
  unfold expectedEdge
  dsimp only
  split <;> simp

theorem expectedEdge_clock (i : PulseInput) (count : Nat) (s : State) : (expectedEdge i count s).clock = s.clock := by
  unfold expectedEdge
  dsimp only
  split <;> simp

theorem expectedEdge_obj (i : PulseInput) (count : Nat) (s : State) (k : Nat) (h : k ≠ stateKey i) :
    (expectedEdge i count s).obj k = s.obj k := by
  unfold expectedEdge
  dsimp only
  split
  · rw [State.obj_setObj_ne _ _ _ _ h, State.onPulse_obj]
  · simp

/-- A stray is counted in its input's own counter, whether or not it ends in a storm. -/
theorem stray_counted (i : PulseInput) (s : State) : Counted s (stray i s) (strayKey i) 1 := by
  unfold stray storm Counted
  dsimp only
  split
  · rw [show (s.nat (strayKey i) + 1) % counterTop (strayKey i) = _ from rfl]
    cases i
    · dsimp only
      rw [State.obj_raise_ne _ _ _ _ _ _ (by decide) (by decide), State.onPulse_obj, State.obj_setObj_ne _ _ _ _ (by decide),
        State.onPulse_obj, State.obj_bump_same]
    · dsimp only
      rw [State.obj_raise_ne _ _ _ _ _ _ (by decide) (by decide), State.onPulse_obj, State.obj_setObj_ne _ _ _ _ (by decide),
        State.onPulse_obj, State.obj_bump_same]
  · rw [State.onPulse_obj, State.obj_bump_same]

theorem execDfeSyncEdge_eq (dt lowNs : Nat) (s : State) : execDfeSyncEdge dt lowNs s =
    .next (if (qualifyDfeSync lowNs (advance s dt)).2 && (qualifyDfeSync lowNs (advance s dt)).1.airRunning
      then syncReset (qualifyDfeSync lowNs (advance s dt)).1 else (qualifyDfeSync lowNs (advance s dt)).1) := rfl

theorem qualifyDfeSync_glitch {lowNs : Nat} (s : State) (h : lowNs < 100) : qualifyDfeSync lowNs s = (s, false) := by
  rw [qualifyDfeSync, if_pos h]

/-- The state after an edge of DFE_SYNC that is expected. -/
def syncEdge (s : State) : State :=
  capture 2 false s.clock.count (expectedEdge .dfeSync s.clock.count (s.onPulse .dfeSync fun p => { p with edges := p.edges + 1 }))

theorem syncEdge_pulse (s : State) : ((syncEdge s).pulse .dfeSync).lastEdge = some s.clock.count
    ∧ ((syncEdge s).pulse .dfeSync).edges = (s.pulse .dfeSync).edges + 1 := by
  rw [syncEdge, capture_pulse, expectedEdge_pulse, State.onPulse_pulse]
  exact ⟨rfl, rfl⟩

theorem syncEdge_lastEdge (s : State) : (syncEdge s).time.dfeSync.lastEdge = some s.clock.count := by
  rw [← State.pulse.eq_2]
  exact (syncEdge_pulse s).1

theorem syncEdge_obj (s : State) (k : Nat) (h1 : k ≠ O.dfeSyncState) (h2 : ∀ n < 8, k ≠ O.capLost n) : (syncEdge s).obj k = s.obj k := by
  rw [syncEdge, capture_obj _ _ _ _ _ h2, expectedEdge_obj _ _ _ _ h1, State.onPulse_obj]

theorem syncEdge_state (s : State) (h : s.obj O.dfeSyncState = 0) : (syncEdge s).obj O.dfeSyncState = 1 := by
  rw [syncEdge, capture_obj _ _ _ _ _ (by decide), expectedEdge, if_pos (by simpa [stateKey] using h)]
  exact State.obj_setObj_same ..

theorem syncEdge_clock (s : State) : (syncEdge s).clock = s.clock := by
  rw [syncEdge, capture_clock, expectedEdge_clock, State.onPulse_clock]

/-- The first edge of an unqualified DFE_SYNC with no period is an expected one. -/
theorem qualifyDfeSync_first {lowNs : Nat} {s : State} (h : 100 ≤ lowNs) (hl : s.time.dfeSync.lastEdge = none)
    (hp : s.obj O.dfeSyncPeriod = 0) (he : s.time.dfeSync.edges < 4) : (qualifyDfeSync lowNs s).1 = syncEdge s := by
  have he' : ¬ 4 < ((syncEdge s).pulse .dfeSync).edges := by
    rw [(syncEdge_pulse s).2]
    exact Nat.not_lt.mpr he
  have hx : dfeSyncExpected (s.onPulse .dfeSync fun p => { p with edges := p.edges + 1 }) = true := by simp [dfeSyncExpected, hp]
  unfold qualifyDfeSync
  rw [if_neg (Nat.not_lt.mpr h), hl]
  dsimp only
  rw [if_neg Bool.false_ne_true, if_pos hx]
  dsimp only
  rw [← syncEdge, decide_eq_false he', Bool.and_false]
  rfl

theorem Counted.of_advance {s : State} {n : Nat} {t : State} {k m : Nat} (h : Counted (advance s n) t k m) : Counted s t k m :=
  Counted.of_obj (State.obj_advance s n k) h

/-- The counter of the losses of a pulse input, and the unit that its event names. -/
def lossKey : PulseInput → Nat
  | .pps => O.ppsLossCount
  | .dfeSync => O.dfeSyncLossCount

def lossUnit : PulseInput → Nat
  | .pps => 0
  | .dfeSync => 1

/-- The state in which a pulse input is lost. -/
def lossState (i : PulseInput) (s : State) : State :=
  raise ((s.setObj (stateKey i) 3).onPulse i (PulseIn.lose i)) (lossKey i) (lossUnit i) [] 0

theorem lossState_leaves (i : PulseInput) (s : State) :
    Leaves s (lossState i s) [.dict, .link, .time] [stateKey i, lossKey i, O.indicationsDropped] :=
  Leaves.trans (Leaves.trans (Leaves.setObj _ _ _ (by decide) (by simp)) (Leaves.onPulse _ _ _ (by decide)))
    (Leaves.raise _ _ _ _ _ (by decide) (by decide) (by simp) (by simp))

theorem lossState_effects (i : PulseInput) (s : State) : (lossState i s).obj (stateKey i) = 3
    ∧ (lossState i s).pulse i = PulseIn.lose i (s.pulse i) ∧ Counted s (lossState i s) (lossKey i) 1
    ∧ Indicates s (lossState i s) (lossKey i) (lossUnit i) [] 0 := by
  have hk : stateKey i ≠ lossKey i ∧ stateKey i ≠ O.indicationsDropped ∧ lossKey i ≠ O.indicationsDropped := by cases i <;> decide
  refine ⟨?_, by simp [lossState], ?_, Indicates.of_link (s' := (s.setObj (stateKey i) 3).onPulse i (PulseIn.lose i)) ?_ (raise_indicates _ _ _ _ _)⟩
  · rw [lossState, State.obj_raise_ne _ _ _ _ _ _ hk.1 hk.2.1, State.onPulse_obj, State.obj_setObj_same]
  · refine Counted.of_obj ?_ (raise_counted _ _ _ _ _ hk.2.2)
    rw [State.onPulse_obj, State.obj_setObj_ne _ _ _ _ hk.1.symm]
  · simp

/-- A level held for more than 1.1 s on a qualified or stormy input loses it. -/
theorem execPpsLoss_lost {i : PulseInput} {dt held : Nat} {s : State} (hs : s.obj (stateKey i) = 1 ∨ s.obj (stateKey i) = 2)
    (hh : 1100000000 < held) : execPpsLoss i dt held s = .next (match i with
      | .pps => refreshQualified (lossState .pps (advance s dt))
      | .dfeSync => lossState .dfeSync (advance s dt)) := by
  have hb : ((advance s dt).obj (stateKey i) == 1 || (advance s dt).obj (stateKey i) == 2) = true := by simpa using hs
  unfold execPpsLoss
  dsimp only
  rw [hb, decide_eq_true hh, Bool.true_or, Bool.and_true, if_pos (Eq.refl true)]
  cases i <;> rfl

theorem execDfeSyncEdge_first {dt lowNs : Nat} {s : State} (h : 100 ≤ lowNs) (hl : (advance s dt).time.dfeSync.lastEdge = none)
    (hp : s.obj O.dfeSyncPeriod = 0) (he : (advance s dt).time.dfeSync.edges < 4) (ha : (advance s dt).airRunning = false) :
    execDfeSyncEdge dt lowNs s = .next (syncEdge (advance s dt)) := by
  have hq := qualifyDfeSync_first h hl (by simpa using hp) he
  have ha' : (syncEdge (advance s dt)).airRunning = false := by
    rw [State.airRunning, syncEdge_obj _ _ (by decide) (by decide), syncEdge_clock]
    exact ha
  rw [execDfeSyncEdge_eq, hq, ha', Bool.and_false, if_neg Bool.false_ne_true]

/-- An edge in the window of a qualified PPS_IN is the expected edge, and one outside is a stray. -/
theorem execPpsInEdge_qualified {dt lowNs sub prev : Nat} {s : State} (h : 100 ≤ lowNs)
    (hl : (advance s dt).time.pps.lastEdge = some prev) :
    execPpsInEdge dt lowNs sub s = if inPpsWindow prev ((advance s dt).clock.count + sub * nsUnit / 10) = true
      then .next (refreshQualified (capture 1 false ((advance s dt).clock.count + sub * nsUnit / 10)
        (ppsToServo ((advance s dt).clock.count + sub * nsUnit / 10)
          (some (secondsSince prev ((advance s dt).clock.count + sub * nsUnit / 10)))
          (expectedEdge .pps ((advance s dt).clock.count + sub * nsUnit / 10) (advance s dt)))))
      else .next (refreshQualified (stray .pps (advance s dt))) := by
  unfold execPpsInEdge
  dsimp only
  rw [if_neg (Nat.not_lt.mpr h), hl]

/-- The first edge of an unqualified PPS_IN is kept as the candidate. -/
theorem execPpsInEdge_candidate {dt lowNs sub : Nat} {s : State} (h : 100 ≤ lowNs)
    (hl : (advance s dt).time.pps.lastEdge = none) (hc : (advance s dt).time.pps.candidate = none) :
    execPpsInEdge dt lowNs sub s = .next ((advance s dt).onPulse .pps fun p =>
      { p with candidate := some ((advance s dt).clock.count + sub * nsUnit / 10) }) := by
  unfold execPpsInEdge
  dsimp only
  rw [if_neg (Nat.not_lt.mpr h), hl, hc]

/-- An input in storm or loss with three clean seconds is qualified. -/
theorem execPulseRequalify_clean {i : PulseInput} {s : State} (hs : s.obj (stateKey i) = 2 ∨ s.obj (stateKey i) = 3)
    (hc : 3 ≤ (s.pulse i).clean) : execPulseRequalify i s = .next (refreshQualified (s.setObj (stateKey i) 1)) := by
  have hb : (s.obj (stateKey i) == 2 || s.obj (stateKey i) == 3) = true := by simpa using hs
  unfold execPulseRequalify
  dsimp only
  rw [if_neg (Nat.not_lt.mpr hc), hb, decide_eq_true hc, Bool.and_true, if_pos (Eq.refl true)]

end Sys2Proof.Machine
open Sys2Proof Sys2Proof.Machine Sys2Proof.Safety

/-- Settles O2: an edge by what its input's qualification keeps of it (`expectedEdge_pulse`, `stray_counted`). -/
theorem pulseInputs : Obligations.PulseInputs := by
  unfold Obligations.PulseInputs
  refine ⟨fun dt lowNs sub s h => ?_, fun dt lowNs sub prev s h hl => ?_, fun dt lowNs sub s h hl hc => ?_, fun dt lowNs s h => ?_,
    fun dt lowNs s h hl hp hs he ha => ?_, fun i s hs hc => ?_, fun i dt held s hs hh => ?_⟩
  · refine ⟨_, if_pos h, Counted.of_advance (State.obj_bump_same _ _ _), rfl, ?_, fun k hk => ?_⟩
    · exact SameBut.trans (SameBut.advance _ _ _ (by decide)) (SameBut.bump _ _ _ _ (by decide))
    · exact (State.obj_bump_ne _ _ _ _ hk).trans (State.obj_advance ..)
  · rw [show exec (.ppsInEdge dt lowNs sub) s = _ from execPpsInEdge_qualified h hl]
    split
    · refine ⟨_, rfl, ?_⟩
      rw [State.obj_refreshQualified, capture_obj _ _ _ _ _ (by decide), (ppsToServo_leaves ..).2 _ (by decide),
        expectedEdge_obj _ _ _ _ (by decide), State.obj_advance, ← State.pulse.eq_1, refreshQualified_pulse, capture_pulse,
        ppsToServo_pulse, expectedEdge_pulse]
      exact ⟨rfl, rfl, rfl⟩
    · refine ⟨_, rfl, Counted.of_advance (n := dt) ?_⟩
      rw [Counted, State.obj_refreshQualified]
      exact stray_counted ..
  · exact ⟨_, execPpsInEdge_candidate h hl hc, rfl, by simp⟩
  · refine ⟨advance s dt, (execDfeSyncEdge_eq dt lowNs s).trans ?_, rfl⟩
    rw [qualifyDfeSync_glitch _ h, Bool.false_and, if_neg Bool.false_ne_true]
  · exact ⟨_, execDfeSyncEdge_first h hl hp he ha, syncEdge_lastEdge (advance s dt), syncEdge_state (advance s dt) (by simpa using hs)⟩
  · refine ⟨_, execPulseRequalify_clean hs hc, by simp, ?_, fun k hk => by simp [State.obj_setObj_ne _ _ _ _ hk]⟩
    exact SameBut.trans (SameBut.setObj _ _ _ _ (by decide)) (Leaves.refreshQualified (ks := []) _ (by decide)).1
  · obtain ⟨h3, hl, hc, hi⟩ := lossState_effects i (advance s dt)
    have hp : SameBut s (lossState i (advance s dt)) (.dict :: .link :: timeParts) :=
      SameBut.trans (SameBut.advance _ _ _ (by decide)) (SameBut.mono (lossState_leaves ..).1 (by decide))
    refine ⟨_, execPpsLoss_lost hs hh, ?_⟩
    cases i with
    | pps =>
      refine ⟨by simpa using h3, fun _ => ?_, Counted.of_advance (n := dt) ?_, Indicates.of_link (by simp) (s' := advance s dt) ?_, ?_⟩
      · rw [refreshQualified_pulse, hl]
        rfl
      · exact (State.obj_refreshQualified _ _).trans hc
      · rw [Indicates, (Leaves.refreshQualified (ps := [.time]) (ks := []) _ (by decide)).1 .link (by decide)]
        exact hi
      · exact SameBut.trans hp (Leaves.refreshQualified (ks := []) _ (by decide)).1
    | dfeSync => exact ⟨h3, nofun, Counted.of_advance hc, Indicates.of_link (by simp) hi, hp⟩
end

section
/-! SUPPORT. Time of day, PTP and SyncE (01): what a label, a heard message, a message that leaves and a refresh of the sources leave and write. -/
namespace Sys2Proof.Machine
open Sys2Proof.Safety

/-! ## What time's passing and a refresh of the sources leave of what these read -/

@[simp] theorem ptpRuns_advance (s : State) (n p : Nat) : ptpRuns (advance s n) p = ptpRuns s p := by simp [ptpRuns]

@[simp] theorem viaFits_advance (s : State) (n : Nat) (via : PtpOver) : viaFits (advance s n) via = viaFits s via := by
  cases via <;> simp [viaFits]

@[simp] theorem ptpHeard_advance (s : State) (n : Nat) (h : PtpHead) : ptpHeard (advance s n) h = ptpHeard s h := by simp [ptpHeard]

@[simp] theorem ptpCorrection_advance (s : State) (n p : Nat) : ptpCorrection (advance s n) p = ptpCorrection s p := by simp [ptpCorrection]

@[simp] theorem rankOf_advance (s : State) (n p : Nat) (m : Master) : rankOf (advance s n) p m = rankOf s p m := by simp [rankOf]

/-- A refresh of the sources changes the servo's notes of qualification and no measure. -/
theorem refreshQualified_time (s : State) : (refreshQualified s).time = { s.time with servo := (refreshQualified s).time.servo }
    ∧ (refreshQualified s).time.servo.meas = s.time.servo.meas := by
  have hp : (fun t : State => ({ t.time with servo := s.time.servo }, t.time.servo.meas)) (refreshQualified s)
      = (s.time, s.time.servo.meas) := by
    refine (foldl_proj (fun t : State => ({ t.time with servo := s.time.servo }, t.time.servo.meas)) (fun x t => ?_) _ s).trans rfl
    split
    · split <;> rfl
    · rfl
  obtain ⟨ht, hm⟩ := Prod.ext_iff.mp hp
  exact ⟨by dsimp only at ht; rw [← ht], hm⟩

/-! ## Time of day (01 R34) -/

/-- A time of day in its interval labels the edge that it follows. -/
theorem execTodFrameRx_labels {dt : Nat} {frame : Bytes} {s : State} {e : PpsEdge} {last : Nat} {second : Int} {off : Option Int}
    {locked : Bool} (hf : todOf (advance s dt) frame = some (second, off, locked)) (hl : s.obj O.todLabel = 0)
    (he : (advance s dt).time.gnss.edge = some e) (hp : (advance s dt).time.pps.lastEdge = some last)
    (hn : (advance s dt).time.gnss.labelled = false) (h1 : last + 100000000 * nsUnit ≤ (advance s dt).clock.count)
    (h2 : (advance s dt).clock.count ≤ last + 900000000 * nsUnit) :
    execTodFrameRx dt frame s = .next (refreshQualified (labelEdge e second off locked (advance s dt))) := by
  have hl' : ((advance s dt).obj O.todLabel == 1) = false := by simp [hl]
  have hi : (last ≤ (advance s dt).clock.count && 100000000 * nsUnit ≤ (advance s dt).clock.count - last
      && (advance s dt).clock.count - last ≤ 900000000 * nsUnit && !(advance s dt).time.gnss.labelled) = true := by
    simp only [hn, Bool.not_false, Bool.and_true, Bool.and_eq_true, decide_eq_true_eq]
    omega
  unfold execTodFrameRx
  dsimp only
  rw [hf]
  dsimp only
  rw [hl', if_neg Bool.false_ne_true, he, hp]
  exact if_pos hi

/-- A label that agrees with its edge's second is kept, and, where the receiver is locked, measures an edge not yet used. -/
theorem labelEdge_agrees {e : PpsEdge} {second : Int} (off : Option Int) (locked : Bool) (s : State) (h : e.second = some second) :
    (labelEdge e second off locked s).time.gnss.labelled = true ∧ (labelEdge e second off locked s).time.gnss.todOk = locked
      ∧ (locked = true → e.used = false →
          (labelEdge e second off locked s).time.servo.meas.gnss = some (gnssMeasure e second)) := by
  unfold labelEdge
  extract_lets utc s1 count d leap s2 run count2 s3
  have hr : run = 0 := if_pos (by simp [d, count, h])
  have hc : count2 = second := by
    refine (if_neg (by rw [hr]; decide)).trans ?_
    simp [count, h]
  have h3 : s3.time.gnss.labelled = true ∧ s3.time.gnss.todOk = locked := ⟨rfl, rfl⟩
  refine ⟨?_, ?_, fun hl hu => ?_⟩
  · split
    · exact h3.1
    · split <;> exact h3.1
  · split
    · exact h3.2
    · split <;> exact h3.2
  · rw [if_neg (by simp [hl]), if_neg (by simp [hu]), hc]
    rfl

/-! ## PTP ports (01 R53 to R58) -/

@[simp] theorem State.ptpPort_refreshQualified (s : State) (p : Nat) : (refreshQualified s).ptpPort p = s.ptpPort p := by
  rw [State.ptpPort, (refreshQualified_time s).1, State.ptpPort]

@[simp] theorem State.ptpPort_setPtp_same (s : State) (p : Nat) (x : PtpPort) : (s.setPtp p x).ptpPort p = x := Store.at_put_same ..

theorem State.ptpPort_setPtp_ne (s : State) (p q : Nat) (x : PtpPort) (h : q ≠ p) : (s.setPtp p x).ptpPort q = s.ptpPort q :=
  Store.at_put_ne _ _ _ _ _ h

theorem Leaves.setPtp (s : State) (p : Nat) (x : PtpPort) {ps : List Part} {ks : List Nat} (h : Part.time ∈ ps) :
    Leaves s (s.setPtp p x) ps ks := Leaves.onTime s _ h

theorem execPtpMessageRx_heard {dt p : Nat} {h : PtpHead} {m : PtpMsg} {s : State} (hp : p < 24) (hr : ptpRuns s p = true)
    (hh : ptpHeard s h = true) : execPtpMessageRx dt p h m s = .next (refreshQualified (ptpHear p h m (advance s dt))) := by
  unfold execPtpMessageRx
  rw [if_neg (Nat.not_le.mpr hp)]
  dsimp only
  rw [if_pos (by simp [hr, hh])]

theorem syncDone_leaves (p : Nat) (x : PtpPort) (i o c : Int) (s : State) : Leaves s (syncDone p x i o c s) [.time] [] := by
  unfold syncDone
  exact Leaves.ite _ (Leaves.trans (Leaves.setPtp _ _ _ (by decide)) (Leaves.onTime _ _ (by decide))) (Leaves.setPtp _ _ _ (by decide))

theorem syncDone_syncDiff (p : Nat) (x : PtpPort) (i o c : Int) (s : State) :
    ((syncDone p x i o c s).ptpPort p).syncDiff = some (i - o - c) := by
  unfold syncDone ptpOffset
  dsimp only
  split
  · exact congrArg PtpPort.syncDiff (State.ptpPort_setPtp_same ..)
  · exact congrArg PtpPort.syncDiff (State.ptpPort_setPtp_same ..)

/-- A one-step Sync heard in SLAVE from the port's master gives the difference of its instants; any other does nothing. -/
theorem ptpHear_sync (p : Nat) (h : PtpHead) (id : Nat) (origin corr : Int) (s : State) :
    ptpHear p h (.sync id origin corr false) s = if ptpState s p = 9 ∧ (s.ptpPort p).hears h.sender = true
      then syncDone p (s.ptpPort p) (psOf (s.clock.count - countOfPs (ptpCorrection s p).2)) origin corr s else s := by
  unfold ptpHear
  dsimp only
  by_cases hc : ptpState s p = 9 ∧ (s.ptpPort p).hears h.sender = true
  · rw [if_pos hc, if_neg (by simp [hc.1, hc.2]), if_neg Bool.false_ne_true]
  · rw [if_neg hc, if_pos (by simpa [Classical.or_iff_not_imp_left] using hc)]

theorem keepAnnounce_leaves (p : Nat) (a : Master) (s : State) : Leaves s (keepAnnounce p a s) [.time] [] := by
  unfold keepAnnounce
  dsimp only
  split
  · exact Leaves.ite _ (Leaves.setPtp _ _ _ (by decide)) (Leaves.refl ..)
  · exact Leaves.setPtp _ _ _ (by decide)

theorem keepAnnounce_best (p : Nat) (a : Master) (s : State) : ((keepAnnounce p a s).ptpPort p).best = (match (s.ptpPort p).best with
    | some b => if b.sender = a.sender ∨ comesBefore (rankOf s p a) (rankOf s p b) = true then some a else some b
    | none => some a) := by
  unfold keepAnnounce
  dsimp only
  cases hb : (s.ptpPort p).best with
  | none => rw [State.ptpPort_setPtp_same]
  | some b =>
    simp only [Bool.or_eq_true, beq_iff_eq]
    split
    · rw [State.ptpPort_setPtp_same]
    · exact hb

theorem keepAnnounce_ne (p : Nat) (a : Master) (s : State) (q : Nat) (h : q ≠ p) : (keepAnnounce p a s).ptpPort q = s.ptpPort q := by
  unfold keepAnnounce
  dsimp only
  split
  · split
    · exact State.ptpPort_setPtp_ne _ _ _ _ h
    · rfl
  · exact State.ptpPort_setPtp_ne _ _ _ _ h

/-! ## Messages that leave -/

theorem execPtpMessageTx_sync {p r : Nat} {via : PtpOver} {s : State} (hp : p < 24) (hr : ptpRuns s p = true) (hv : viaFits s via = true)
    (hd : ptpRate s p via .sync = some r) :
    execPtpMessageTx p ⟨via, .sync⟩ s = .next (ptpLeave p via .sync (advanceTicks s (ptpDue s p via .sync r))) := by
  unfold execPtpMessageTx
  rw [if_neg (Nat.not_le.mpr hp), if_neg (by simp [hr, hv])]
  dsimp only
  rw [hd]

/-- A Sync of a MASTER leaves with its instant, or keeps it for its Follow_Up. -/
theorem ptpLeave_sync {p : Nat} {via : PtpOver} {s : State} (hm : ptpState s p = 6) (hs : ptpSourced s = true) :
    ptpLeave p via .sync s = if s.obj (O.stepMode p) = 0
      then sendPtp (stampOf s p via .sync (s.clock.count + countOfPs (ptpCorrection s p).1)) (keepTx p via .sync s)
      else sendPtp (ptpFrame s p via .sync (s.free.1.toNat / 2 ^ 32) (s.free.1.toNat % 2 ^ 32) 0)
        (keepTx p via .sync (s.free.2.setPtp p { s.ptpPort p with
          followUp := ((s.ptpPort p).followUp.filter fun f => f.1 != via) ++ [(via, s.clock.count + countOfPs (ptpCorrection s p).1)] })) := by
  unfold ptpLeave
  dsimp only
  rw [if_neg (by simp [hm, hs])]
  simp only [beq_iff_eq]

theorem sendPtp_leaves (m : PtpSent) (s : State) : Leaves s (sendPtp m s) [.dict, .time] [O.txFrames m.port] :=
  Leaves.trans (Leaves.onTime _ _ (by decide)) (Leaves.bump _ _ _ (by decide) (by simp))

theorem sendPtp_counted (m : PtpSent) (s : State) : Counted s (sendPtp m s) (O.txFrames m.port) 1 := State.obj_bump_same ..

theorem ptpLeave_sync_leaves {p : Nat} {via : PtpOver} {s : State} (hm : ptpState s p = 6) (hs : ptpSourced s = true) :
    Leaves s (ptpLeave p via .sync s) [.dict, .time, .freeCtr] [O.txFrames p] ∧ Counted s (ptpLeave p via .sync s) (O.txFrames p) 1 := by
  have hk (u : State) (w : PtpOver) : Leaves u (keepTx p w .sync u) [.dict, .time, .freeCtr] [O.txFrames p] := Leaves.setPtp _ _ _ (by decide)
  have hf : Leaves s s.free.2 [.dict, .time, .freeCtr] [O.txFrames p] := Leaves.free _ (by decide)
  have hsend (m : PtpSent) (u : State) (h : m.port = p) : Leaves u (sendPtp m u) [.dict, .time, .freeCtr] [O.txFrames p] :=
    Leaves.mono (sendPtp_leaves m u) (by decide) (by simp [h])
  rw [ptpLeave_sync hm hs]
  split
  · exact ⟨Leaves.trans (hk _ via) (hsend _ _ rfl), Counted.of_obj rfl (sendPtp_counted ..)⟩
  · exact ⟨Leaves.trans (Leaves.trans (Leaves.trans hf (Leaves.setPtp _ _ _ (by decide))) (hk _ via)) (hsend _ _ rfl),
      Counted.of_obj rfl (sendPtp_counted ..)⟩

theorem followUp_sent (m : PtpSent) (p : Nat) (via : PtpOver) (x : PtpPort) (l : List (PtpOver × Nat)) (out : Nat) (s : State) :
    (via, out) ∈ ((sendPtp m (keepTx p via .sync (s.setPtp p { x with followUp := l ++ [(via, out)] }))).ptpPort p).followUp := by
  have hp (u : State) : (sendPtp m u).ptpPort p = u.ptpPort p := rfl
  rw [hp, keepTx, State.ptpPort_setPtp_same, State.ptpPort_setPtp_same]
  exact List.mem_append_right _ (List.mem_singleton.mpr rfl)

theorem ptpCorrection_advanceTicks (s : State) (n p : Nat) : ptpCorrection (advanceTicks s n) p = ptpCorrection s p :=
  ptpCorrection_advance ..

theorem State.obj_advanceTicks (s : State) (n k : Nat) : (advanceTicks s n).obj k = s.obj k := State.obj_advance ..

/-! ## SyncE outputs (01 R59) -/

theorem bitOf_setBit_false (v n : Nat) : bitOf (setBit v n false) n = false := by
  unfold setBit
  split
  next h => exact absurd h Bool.false_ne_true
  next =>
    split
    next h =>
      have hv : v / 2 ^ n % 2 = 1 := by simpa [bitOf] using h
      have hd : (v - 2 ^ n) / 2 ^ n = v / 2 ^ n - 1 := by simpa using Nat.sub_mul_div v (2 ^ n) 1
      rw [bitOf, hd, beq_eq_false_iff_ne]
      omega
    next h => exact Bool.not_eq_true _ ▸ h

theorem execSynceOutputResume_resumes {out locked : Nat} {s : State} (ho : out < 2)
    (hl : Store.find s.time.laneLock (synceLane s out) = some locked) :
    execSynceOutputResume out s = .next ((advanceTicks s (locked + 156250000)).setObj O.squelched
      (setBit ((advanceTicks s (locked + 156250000)).nat O.squelched) out false : Nat)) := by
  unfold execSynceOutputResume
  rw [if_neg (Nat.not_le.mpr ho), hl]

end Sys2Proof.Machine
open Sys2Proof Sys2Proof.Machine Sys2Proof.Safety

/-- Settles O3: each message by the rule of its exchange. -/
theorem timeOfDayAndPtp : Obligations.TimeOfDayAndPtp := by
  unfold Obligations.TimeOfDayAndPtp
  refine ⟨fun dt frame s e last second off locked hf hl he hp hn h1 h2 hs => ?_, fun dt p id h origin corr s hp hr hh => ?_,
    fun dt p h a s hp hr hh ho hrole => ?_, fun p r via s hp hr hv hd hm hs => ?_, fun out locked s ho hl => ?_⟩
  · obtain ⟨hlab, hok, hmeas⟩ := labelEdge_agrees off locked (advance s dt) hs
    obtain ⟨ht, hm⟩ := refreshQualified_time (labelEdge e second off locked (advance s dt))
    have hg : (refreshQualified (labelEdge e second off locked (advance s dt))).time.gnss
        = (labelEdge e second off locked (advance s dt)).time.gnss := by rw [ht]
    have hle := Leaves.trans_mono (rs := .dict :: timeParts) (ms := [O.utcOffset, O.changeCount]) (Leaves.trans_mono (rs := .dict :: timeParts)
      (ms := [O.utcOffset, O.changeCount]) (Leaves.advance s dt (ps := timeParts) (ks := []) (by decide)) (labelEdge_leaves e second off locked _))
      (Leaves.refreshQualified (ps := [.time]) (ks := []) _ (by decide))
    exact ⟨_, execTodFrameRx_labels hf hl he hp hn h1 h2, by rw [hg]; exact hlab, by rw [hg]; exact hok,
      fun h1 h2 => by rw [hm]; exact hmeas h1 h2, hle.1, hle.2⟩
  · refine ⟨_, execPtpMessageRx_heard hp hr hh, ?_, ?_⟩
    · rw [ptpHear_sync]
      split
      · rw [State.ptpPort_refreshQualified, syncDone_syncDiff, ptpCorrection_advance]
      · rw [(refreshQualified_time _).1]
        exact ⟨rfl, rfl⟩
    · refine SameBut.trans (SameBut.trans (SameBut.advance s dt _ (by decide)) ?_) (Leaves.refreshQualified (ks := []) _ (by decide)).1
      rw [ptpHear_sync]
      split
      · exact SameBut.mono (syncDone_leaves ..).1 (by decide)
      · exact SameBut.refl _ _
  · have hk : ptpHear p h (.announce a) (advance s dt) = keepAnnounce p ⟨a, h.sender⟩ (advance s dt) :=
      if_pos (by simp [ho, hrole])
    refine ⟨_, execPtpMessageRx_heard hp hr hh, ?_, fun q hq => ?_, ?_⟩
    · rw [hk, State.ptpPort_refreshQualified, keepAnnounce_best]
      simp only [rankOf_advance] <;> rfl
    · rw [hk, State.ptpPort_refreshQualified, keepAnnounce_ne _ _ _ _ hq]
    · rw [hk]
      exact SameBut.trans (SameBut.trans (SameBut.advance s dt _ (by decide)) (SameBut.mono (keepAnnounce_leaves ..).1 (by decide)))
        (Leaves.refreshQualified (ks := []) _ (by decide)).1
  · obtain ⟨hle, hc⟩ := ptpLeave_sync_leaves (via := via) hm hs
    have hle' := Leaves.trans_mono (rs := .dict :: .freeCtr :: timeParts) (ms := [O.txFrames p])
      (Leaves.advanceTicks s (ptpDue s p via .sync r) (ps := timeParts) (ks := []) (by decide)) hle (by decide) (by simp)
    have hclk : (ptpLeave p via .sync (advanceTicks s (ptpDue s p via .sync r))).clock = (advanceTicks s (ptpDue s p via .sync r)).clock :=
      hle.1 .clock (by decide)
    refine ⟨_, execPtpMessageTx_sync hp hr hv hd, Counted.of_advance hc, ?_, ?_, hle'.1, fun k hk => hle'.2 k (by simpa using hk)⟩
    · rw [hclk]
      exact le_advanceTicks ..
    · rw [hclk, ptpLeave_sync hm hs]
      simp only [State.obj_advanceTicks]
      split
      · simp [stampOf, ptpFrame, sendPtp, State.frameTag, advanceTicks, State.onTime, keepTx, State.setPtp]
      · rw [ptpCorrection_advanceTicks]
        exact followUp_sent ..
  · refine ⟨_, execSynceOutputResume_resumes ho hl, ?_, le_advanceTicks s (locked + 156250000), ?_, fun k hk => ?_⟩
    · rw [State.nat, State.obj_setObj_same, Int.toNat_natCast]
      exact bitOf_setBit_false ..
    · exact SameBut.trans (SameBut.advance _ _ _ (by decide)) (SameBut.setObj _ _ _ _ (by decide))
    · rw [State.obj_setObj_ne _ _ _ _ hk, State.obj_advanceTicks]
end

section
/-! SUPPORT. The servo's shut-down into HOLDOVER, and time's passing to an instant of site time (01). -/
namespace Sys2Proof.Machine
open Sys2Proof.Safety

/-! ## Time's passing to an instant (01 R12, R14) -/

theorem incrOf_pos {s : State} (h : Steady s) : 0 < incrOf s.steered := by
  have h' : s.steered.natAbs ≤ 1759218604 := h
  unfold incrOf
  split
  · decide
  · omega

theorem le_ceilDiv_mul (n : Nat) {m : Nat} (h : 0 < m) : n ≤ ceilDiv n m * m := by
  unfold ceilDiv
  have := Nat.div_add_mod (n + m - 1) m
  have := Nat.mod_lt (n + m - 1) h
  rw [Nat.mul_comm]
  omega

@[simp] theorem advance_count (s : State) (n : Nat) : (advance s n).clock.count = s.clock.count + n * incrOf s.steered := rfl

/-- Time that passes to an instant of site time reaches it. -/
theorem le_advanceTo {s : State} (h : Steady s) (count : Nat) : count ≤ (advanceTo s count).clock.count := by
  unfold advanceTo
  split
  · assumption
  · have := le_ceilDiv_mul (count - s.clock.count) (incrOf_pos h)
    rw [advance_count]
    omega

theorem Leaves.advanceTo (s : State) (count : Nat) {ps : List Part} {ks : List Nat} (h : ∀ p ∈ timeParts, p ∈ ps) :
    Leaves s (Machine.advanceTo s count) ps ks :=
  Leaves.ite _ (Leaves.refl ..) (Leaves.advance _ _ h)

/-! ## The servo's shut-down (01 R41, R52) -/

theorem refreshBound_leaves (s : State) : Leaves s (refreshBound s) [.dict, .link]
    [O.holdoverBound, O.servoState, O.holdoverLimitCount, O.indicationsDropped] := by
  have set (u : State) (k : Nat) (v : Int) (h : k ∈ [O.holdoverBound, O.servoState, O.holdoverLimitCount, O.indicationsDropped]) :
      Leaves u (u.setObj k v) [.dict, .link] [O.holdoverBound, O.servoState, O.holdoverLimitCount, O.indicationsDropped] :=
    Leaves.setObj _ _ _ (by decide) h
  unfold refreshBound
  split
  · split
    · exact Leaves.ite _ (Leaves.trans (Leaves.trans (set _ _ _ (by decide)) (set _ _ _ (by decide)))
        (Leaves.raise _ _ _ _ _ (by decide) (by decide) (by decide) (by decide))) (set _ _ _ (by decide))
    · exact Leaves.refl ..
  · exact Leaves.refl ..

/-- In HOLDOVER the bound's growth leaves the servo there, or at its limit. -/
theorem refreshBound_servoState {s : State} (h : s.obj O.servoState = 3) :
    (refreshBound s).obj O.servoState = 3 ∨ (refreshBound s).obj O.servoState = 4 := by
  unfold refreshBound
  split
  · split
    · dsimp only
      split
      · rw [State.obj_raise_ne _ _ _ _ _ _ (by decide) (by decide), State.obj_setObj_same]
        exact .inr rfl
      · rw [State.obj_setObj_ne _ _ _ _ (by decide)]
        exact .inl h
    · exact .inl h
  · exact .inl h

/-- The state in which the enter into HOLDOVER is raised. -/
theorem enterHoldover_stopped {s : State} (stopped : Bool) (h : s.isOn O.servoEnable = false) :
    ∃ u, enterHoldover stopped s = refreshBound (raise u O.holdoverEnterCount 0xFFFF [] 0) ∧ u.obj O.servoState = 3
      ∧ u.obj O.selectedSource = 0 ∧ Leaves s u [.dict, .time] [O.selectedSource, O.servoState] := by
  unfold enterHoldover
  extract_lets resume e0 s1 v fresh s2 s3
  have h1 : Leaves s s1 [.time] [] := leaveLocked_leaves s
  have h3 : Leaves s s3 [.dict, .time] [O.selectedSource, O.servoState] :=
    Leaves.trans_mono h1 (rs := [.dict, .time]) (ms := [O.selectedSource, O.servoState]) (qs := [.dict, .time])
      (ls := [O.selectedSource, O.servoState]) (Leaves.trans (Leaves.trans (Leaves.onServo _ _ (by decide))
        (Leaves.setObj _ _ _ (by decide) (by decide))) (Leaves.setObj _ _ _ (by decide) (by decide)))
  have hon : (raise s3 O.holdoverEnterCount 0xFFFF [] 0).isOn O.servoEnable = false := by
    rw [State.isOn, State.obj_raise_ne _ _ _ _ _ _ (by decide) (by decide), h3.2 _ (by decide)]
    exact h
  refine ⟨s3, by rw [Keeps.holdFreq_of_not_on hon], State.obj_setObj_same .., ?_, h3⟩
  exact (State.obj_setObj_ne _ _ _ _ (by decide)).trans (State.obj_setObj_same ..)

theorem servoStopped_locked {s : State} (he : s.obj O.servoEnable = 3) (hv : s.obj O.timeValid = 1) (hl : s.obj O.servoState = 2) :
    (servoStopped s).obj O.servoEnable = 0 ∧ (servoStopped s).obj O.selectedSource = 0
      ∧ ((servoStopped s).obj O.servoState = 3 ∨ (servoStopped s).obj O.servoState = 4)
      ∧ (servoStopped s).obj O.freqWord = s.obj O.freqWord ∧ (servoStopped s).obj O.timeValid = s.obj O.timeValid
      ∧ Counted s (servoStopped s) O.holdoverEnterCount 1 := by
  obtain ⟨u, hu, h3, h0, hle⟩ := enterHoldover_stopped (s := s) true (by simp [State.isOn, he, stOn])
  have hb := refreshBound_leaves (raise u O.holdoverEnterCount 0xFFFF [] 0)
  have hk (k : Nat) (h1 : k ∉ [O.selectedSource, O.servoState]) (h2 : k ∉ [O.holdoverEnterCount, O.indicationsDropped])
      (h3 : k ∉ [O.holdoverBound, O.servoState, O.holdoverLimitCount, O.indicationsDropped]) : (enterHoldover true s).obj k = s.obj k := by
    simp only [List.mem_cons, List.not_mem_nil, or_false, not_or] at h2
    rw [hu, hb.2 k h3, State.obj_raise_ne _ _ _ _ _ _ h2.1 h2.2, hle.2 k h1]
  have hs : servoStopped s = (enterHoldover true s).setObj O.servoEnable 0 := by
    unfold servoStopped
    dsimp only
    rw [if_pos (by simp [hv]), if_pos (by simp [hl])]
    unfold shutDone
    rw [if_neg (by rw [hk _ (by decide) (by decide) (by decide)]; simp [he, stPending])]
    rfl
  have hr : (raise u O.holdoverEnterCount 0xFFFF [] 0).obj O.servoState = 3 := by
    rw [State.obj_raise_ne _ _ _ _ _ _ (by decide) (by decide), h3]
  have hc : Counted s (raise u O.holdoverEnterCount 0xFFFF [] 0) O.holdoverEnterCount 1 :=
    Counted.of_obj (hle.2 _ (by decide)) (raise_counted _ _ _ _ _ (by decide))
  rw [hs]
  refine ⟨State.obj_setObj_same .., ?_, ?_, ?_, ?_, ?_⟩
  · rw [State.obj_setObj_ne _ _ _ _ (by decide), hu, hb.2 _ (by decide), State.obj_raise_ne _ _ _ _ _ _ (by decide) (by decide), h0]
  · rw [State.obj_setObj_ne _ _ _ _ (by decide), hu]
    exact refreshBound_servoState hr
  · rw [State.obj_setObj_ne _ _ _ _ (by decide), hk _ (by decide) (by decide) (by decide)]
  · rw [State.obj_setObj_ne _ _ _ _ (by decide), hk _ (by decide) (by decide) (by decide)]
  · rw [Counted, State.obj_setObj_ne _ _ _ _ (by decide), hu, hb.2 _ (by decide)]
    exact hc

theorem slewSecond_obj (s : State) (k : Nat) : (slewSecond s).obj k = s.obj k := by
  unfold slewSecond
  exact State.onServo_obj ..

theorem updateShown_obj (s : State) (k : Nat) (h1 : k ≠ O.sourceStatus) (h2 : k ≠ O.phaseError) :
    (showError (refreshStatus (nextInterval s))).obj k = s.obj k := by
  have hn : (nextInterval s).obj k = s.obj k := rfl
  have hr : (refreshStatus (nextInterval s)).obj k = s.obj k := by
    unfold refreshStatus
    dsimp only
    rw [State.obj_setObj_ne _ _ _ _ h1, hn]
  unfold showError
  split
  · rw [State.obj_setObj_ne _ _ _ _ h2, hr]
  · exact hr

/-- The state in which an update finds the servo. -/
def atUpdate (s : State) : State := refreshQualified (slewSecond (advanceTo s (nextUpdate s)))

theorem atUpdate_obj (s : State) (k : Nat) : (atUpdate s).obj k = s.obj k := by
  rw [atUpdate, State.obj_refreshQualified, slewSecond_obj]
  exact (Leaves.advanceTo (ps := timeParts) (ks := []) s _ (by decide)).2 k List.not_mem_nil

theorem servoUpdate_stopping {s : State} (he : s.obj O.servoEnable = 3) :
    servoUpdate s = showError (refreshStatus (nextInterval (servoStopped (atUpdate s)))) := by
  have h : ((atUpdate s).obj O.servoEnable == stStopping
      || ((atUpdate s).obj O.servoEnable == stPending && (atUpdate s).shutRuns O.servoEnable)) = true := by
    simp [atUpdate_obj, he, stStopping]
  unfold servoUpdate
  dsimp only
  rw [← atUpdate, if_pos h]

end Sys2Proof.Machine
open Sys2Proof Sys2Proof.Machine Sys2Proof.Safety

/-- Settles O4: the shut-down by what HOLDOVER's entry leaves (`servoStopped_locked`), the rest by time's passing. -/
theorem servoUpdates : Obligations.ServoUpdates := by
  unfold Obligations.ServoUpdates
  refine ⟨fun s he hv hl => ?_, fun x since s hq hx => ?_, fun s h4 ha hc => ?_, fun s h => ?_⟩
  · obtain ⟨h1, h2, h3, h4, h5, h6⟩ := servoStopped_locked ((atUpdate_obj _ _).trans he) ((atUpdate_obj _ _).trans hv)
      ((atUpdate_obj _ _).trans hl)
    have hx : exec .servoUpdate s = .next (servoUpdate s) := by
      refine congrArg Host.Outcome.next (if_neg ?_)
      simp [hv]
    refine ⟨_, hx, ?_⟩
    have hk (k : Nat) (h1 : k ≠ O.sourceStatus) (h2 : k ≠ O.phaseError) : (servoUpdate s).obj k = (servoStopped (atUpdate s)).obj k := by
      rw [servoUpdate_stopping he, updateShown_obj _ _ h1 h2]
    rw [hk _ (by decide) (by decide), hk _ (by decide) (by decide), hk _ (by decide) (by decide), hk _ (by decide) (by decide),
      hk _ (by decide) (by decide), Counted, hk _ (by decide) (by decide)]
    exact ⟨h1, h2, h3, h4.trans (atUpdate_obj ..), Counted.of_obj (atUpdate_obj ..) h6, h5.trans ((atUpdate_obj ..).trans hv)⟩
  · have hx' : exec (.waitToRestoreExpiry x) s = .next ((advanceTicks s (since + s.nat O.waitToRestore * 156250000)).onServo fun v =>
        { v with restored := v.restored.set x true }) := by
      show execWaitToRestoreExpiry x s = _
      rw [execWaitToRestoreExpiry, hq]
      exact congrArg Host.Outcome.next (if_pos hx)
    refine ⟨_, hx', ?_, le_advanceTicks .., ?_⟩
    · cases x <;> rfl
    · exact SameBut.trans (SameBut.advance _ _ _ (by decide)) (Leaves.onServo (ks := []) _ _ (by decide)).1
  · have hb : (s.obj O.servoState == 4 && s.obj O.limitAction == 1
        && !(s.time.servo.limitClose && s.time.servo.limitUntil.isNone)) = true := by
      rcases hc with hc | hc
      · simp [h4, ha, hc]
      · simp [h4, ha, Option.isNone_eq_false_iff.mpr hc]
    refine ⟨_, congrArg Host.Outcome.next (if_pos hb), rfl, rfl, rfl, ?_⟩
    refine SameBut.trans ?_ (Leaves.onServo (ks := []) _ _ (by decide)).1
    split
    · exact (Leaves.advanceToAir (ks := []) _ _ (by decide)).1
    · exact SameBut.refl _ _
  · exact ⟨_, rfl, le_advanceTo h _, (Leaves.advanceTo (ks := []) _ _ (by decide)).1⟩
end

section
/-! SUPPORT. Steps of the counter, triggers, and reads that pop (01; 05 R169). -/
namespace Sys2Proof.Machine
open Sys2Proof.Safety

/-! ## Reads that pop -/

/-- A read that pops of an object that is no enable is answered with the head, which is then popped. -/
theorem hostPop_served {x : Xfer} {key : Nat} {value : State → Option Bytes} {pop : State → State} {s : State} {b : Bytes}
    (hr : s.ready = true) (hv : value (advance s x.dt) = some b) :
    hostPop x key value pop s = pop (replyRead x.seq key 0 .ok 0 b b (advance s x.dt)) := by
  unfold hostPop
  dsimp only
  rw [if_pos (by simpa using hr), hv]

theorem replyRead_sent {q key : Nat} {b : Bytes} {s : State} (h : isEnable key = false) : (replyRead q key 0 .ok 0 b b s).link.sent
    = s.link.sent ++ [.dictReply ⟨q, 0x0301, .ok, key, 0, 0, b.length, 0xFF, b, false⟩] := by
  simp [replyRead, enableByte, h]

theorem replyRead_obj (q key l : Nat) (r : Reason) (o : Nat) (v d : Bytes) (s : State) (j : Nat)
    (h : j ∉ [O.transfersServed, O.transfersRefused, O.busyReplies]) : (replyRead q key l r o v d s).obj j = s.obj j := by
  simp only [List.mem_cons, List.not_mem_nil, or_false, not_or] at h
  rw [replyRead, State.obj_send, countReply_obj _ _ _ h.1 h.2.1 h.2.2]

theorem replyRead_sameBut (q key l : Nat) (r : Reason) (o : Nat) (v d : Bytes) (s : State) :
    SameBut s (replyRead q key l r o v d s) [.dict, .link] := by
  intro p hp
  cases p <;> simp_all [Part.same]

/-- The state in which a served read that pops leaves its reply. -/
def popReplied (x : Xfer) (key : Nat) (b : Bytes) (s : State) : State := replyRead x.seq key 0 .ok 0 b b (advance s x.dt)

theorem popReplied_frame (x : Xfer) (key : Nat) (b : Bytes) (s : State) :
    SameBut s (popReplied x key b s) (.dict :: .link :: timeParts) ∧ ObjsBut s (popReplied x key b s) [] :=
  ⟨SameBut.trans (SameBut.advance _ _ _ (by decide)) (SameBut.mono (replyRead_sameBut _ _ _ _ _ _ _ _) (by decide)),
    fun k _ hk => (replyRead_obj _ _ _ _ _ _ _ _ _ hk).trans (State.obj_advance ..)⟩

theorem popReplied_sent {x : Xfer} {key : Nat} {b : Bytes} {s : State} (h : isEnable key = false) : (popReplied x key b s).link.sent
    = s.link.sent ++ [.dictReply ⟨x.seq, 0x0301, .ok, key, 0, 0, b.length, 0xFF, b, false⟩] := by
  rw [popReplied, replyRead_sent h, advance_link]

theorem isEnable_capFifo : ∀ n < 8, isEnable (O.capFifo n) = false := by decide +kernel

/-! ## Ticks -/

theorem ticksOfNs_minute : ticksOfNs 60000000000 = 9375000000 := by decide

theorem ticksOfNs_margin : ticksOfNs 100000 = 15625 := by decide

theorem ticks_le_advanceTo (s : State) (c : Nat) : s.clock.ticks ≤ (advanceTo s c).clock.ticks := by
  unfold advanceTo
  split
  · exact Nat.le_refl _
  · rw [advance_ticks]
    exact Nat.le_add_right ..

@[simp] theorem State.obj_advanceTo (s : State) (c k : Nat) : (advanceTo s c).obj k = s.obj k :=
  (Leaves.advanceTo (ps := timeParts) (ks := []) s c (by decide)).2 k List.not_mem_nil

@[simp] theorem noCarrier_advanceTo (s : State) (c : Nat) : (advanceTo s c).noCarrier = s.noCarrier := by
  simp [State.noCarrier, State.isOff]

/-! ## Triggers (01 R63, R67) -/

theorem fireTrigger_leaves (n : Nat) (b : Bool) (s : State) : Leaves s (fireTrigger n b s) [.dict, .time]
    [O.trigTarget n, O.trigStatus n, O.changeCount] := by
  have hset (u : State) (v : Int) : Leaves u (u.setObj (O.trigStatus n) v) [.dict, .time] [O.trigTarget n, O.trigStatus n, O.changeCount] :=
    Leaves.setObj _ _ _ (by decide) (by simp)
  unfold fireTrigger
  extract_lets target period next s1 s2
  have h1 : Leaves s s1 [.dict, .time] [O.trigTarget n, O.trigStatus n, O.changeCount] := by
    subst s1
    clear s2
    clear_value next
    cases next
    · exact Leaves.refl ..
    · exact Leaves.change _ _ _ (by decide) (by simp) (by simp)
  have h2 := Leaves.trans h1 (hset s1 (((if next.isSome then 1 else 0) + 2 + (if b then 4 else 0) : Int)))
  exact Leaves.ite _ (Leaves.trans h2 (Leaves.onTime _ _ (by decide))) h2

/-- An ordinary firing adds PERIOD to TARGET, or disarms the trigger. -/
theorem fireTrigger_ordinary (n : Nat) (s : State) :
    if s.nat (O.trigPeriod n) = 0
    then (fireTrigger n false s).obj (O.trigStatus n) = 2 ∧ (fireTrigger n false s).obj (O.trigTarget n) = s.obj (O.trigTarget n)
    else (fireTrigger n false s).obj (O.trigStatus n) = 3
      ∧ (fireTrigger n false s).obj (O.trigTarget n) = stimeOf (countOf (s.nat (O.trigTarget n)) + s.nat (O.trigPeriod n) * nsUnit) := by
  have hne : O.trigTarget n ≠ O.trigStatus n := by grind
  have hif (c : Prop) [Decidable c] (u : State) (f : TimeBase → TimeBase) (k : Nat) : (if c then u.onTime f else u).obj k = u.obj k := by
    split <;> rfl
  unfold fireTrigger
  extract_lets target period next s1 s2
  split
  next hp =>
    have hn : next = none := by simp [next, period, hp]
    have hs : s1 = s := by simp [s1, hn]
    refine ⟨(hif ..).trans ((State.obj_setObj_same ..).trans (by simp [hn])), (hif ..).trans ((State.obj_setObj_ne _ _ _ _ hne).trans ?_)⟩
    rw [hs]
  next hp =>
    have hn : next = some (target + period * nsUnit) := by simp [next, period, hp]
    have hs : s1 = s.change (O.trigTarget n) (stimeOf (target + period * nsUnit)) := by simp [s1, hn]
    refine ⟨(hif ..).trans ((State.obj_setObj_same ..).trans (by simp [hn])), (hif ..).trans ((State.obj_setObj_ne _ _ _ _ hne).trans ?_)⟩
    rw [hs, State.obj_change_same _ _ _ (by grind)]

/-! ## Steps of the counter (01 R47, R48, R64) -/

theorem shutDone_obj (key : Nat) (s : State) (k : Nat) (h : k ≠ key) : (shutDone key s).obj k = s.obj k := by
  unfold shutDone
  split
  · rfl
  · exact State.obj_setObj_ne _ _ _ _ h

theorem shutDone_clock (key : Nat) (s : State) : (shutDone key s).clock = s.clock := by
  unfold shutDone
  split
  · rfl
  · simp

theorem nlRelease_obj (s : State) (k : Nat) (h : k ≠ O.nlState) (hu : ∀ n, k ≠ O.dfeUser n) : (nlRelease s).obj k = s.obj k := by
  unfold nlRelease
  rw [State.obj_setObj_ne _ _ _ _ h]
  split
  · exact State.obj_setObj_ne _ _ _ _ (hu _)
  · rfl

theorem nlRelease_clock (s : State) : (nlRelease s).clock = s.clock := by
  unfold nlRelease
  split <;> simp

theorem abandonGap_obj (s : State) (k : Nat) (h : k ≠ O.nlState) (he : k ≠ O.nlEnable) (hu : ∀ n, k ≠ O.dfeUser n) :
    (abandonGap s).obj k = s.obj k := by
  unfold abandonGap nlIdle
  split
  · split
    · exact State.obj_setObj_ne _ _ _ _ h
    · split
      · rw [shutDone_obj _ _ _ he, nlRelease_obj _ _ h hu]
        rfl
      · exact State.obj_setObj_ne _ _ _ _ h
  · rfl

theorem abandonGap_clock (s : State) : (abandonGap s).clock = s.clock := by
  unfold abandonGap nlIdle
  split
  · split
    · simp
    · split
      · rw [shutDone_clock, nlRelease_clock]
      · simp
  · rfl

theorem stepCount_leaves (e : Int) (s : State) : Leaves s (stepCount e s) [.clock, .time, .nl] [] := by
  refine ⟨fun p hp => ?_, fun k _ => ?_⟩
  · cases p <;> simp_all [Part.same, stepCount]
  · simp [stepCount]

theorem stepCounter_obj (e : Int) (s : State) (k : Nat) (h : k ∉ [O.nlState, O.nlEnable, O.changeCount]) (hu : ∀ n, k ≠ O.dfeUser n)
    (ht : ∀ n < 8, k ≠ O.trigTarget n ∧ k ≠ O.trigStatus n) : (stepCounter e s).obj k = s.obj k := by
  simp only [List.mem_cons, List.not_mem_nil, or_false, not_or] at h
  unfold stepCounter
  dsimp only
  rw [abandonGap_obj _ _ h.1 h.2.1 hu]
  refine ((Leaves.foldl (ps := [.dict, .time]) (ks := O.changeCount :: (List.range 8).flatMap fun n => [O.trigTarget n, O.trigStatus n])
    _ (List.range 8) (fun n hn u => ?_) _).2 k ?_).trans ((stepCount_leaves e s).2 k List.not_mem_nil)
  · refine Leaves.ite _ (Leaves.mono (fireTrigger_leaves n true u) (fun _ h => h) fun j hj => ?_) (Leaves.refl ..)
    simp only [List.mem_cons, List.not_mem_nil, or_false] at hj
    simp only [List.mem_cons, List.mem_flatMap, List.not_mem_nil, or_false]
    rcases hj with rfl | rfl | rfl
    · exact .inr ⟨n, hn, .inl rfl⟩
    · exact .inr ⟨n, hn, .inr rfl⟩
    · exact .inl rfl
  · simp only [List.mem_cons, List.mem_flatMap, List.not_mem_nil, or_false, not_or, not_exists, not_and, List.mem_range]
    exact ⟨h.2.2, fun n hn => ht n hn⟩

theorem stepCounter_clock (e : Int) (s : State) : (stepCounter e s).clock = (stepCount e s).clock := by
  unfold stepCounter
  dsimp only
  rw [abandonGap_clock]
  refine foldl_proj (·.clock) (fun n u => ?_) _ _
  split
  · exact (fireTrigger_leaves n true u).1 .clock (by decide)
  · rfl

/-! ## AUTH_STEP_APPLY (01 R47) -/

/-- The state in which a decided and confirmed step is applied. -/
def stepApplied (x : Source) (e : Int) (s : State) : State :=
  (stepCounter e (advanceTo s (nextWrap s.clock.count))).onServo fun v =>
    { v with step := none, refused := v.refused.set x none, err := v.err.set x (some 0), lastErr := 0 }

theorem stepApplied_obj (x : Source) (e : Int) (s : State) (k : Nat) (h : k ∉ [O.nlState, O.nlEnable, O.changeCount])
    (hu : ∀ n, k ≠ O.dfeUser n) (ht : ∀ n < 8, k ≠ O.trigTarget n ∧ k ≠ O.trigStatus n) : (stepApplied x e s).obj k = s.obj k := by
  rw [stepApplied, State.onServo_obj, stepCounter_obj _ _ _ h hu ht, State.obj_advanceTo]

theorem stepApplied_clock (x : Source) (e : Int) (s : State) :
    (stepApplied x e s).clock = (stepCount e (advanceTo s (nextWrap s.clock.count))).clock := by
  rw [stepApplied, State.onServo_clock, stepCounter_clock]

theorem execAuthStepApply_applies {x : Source} {w : Waiting} {s : State} (h : s.time.servo.step = some (x, w)) (hc : w.confirmed = true)
    (hd : w.decided + 15625 ≤ s.clock.ticks) (hn : s.noCarrier = true) :
    execAuthStepApply s = .next (if s.obj O.servoEnable = 1 then enterAcquire x (leaveLocked (stepApplied x w.value s))
      else stepApplied x w.value s) := by
  have ht := ticks_le_advanceTo s (nextWrap s.clock.count)
  have hd' : w.decided + ticksOfNs 100000 ≤ (advanceTo s (nextWrap s.clock.count)).clock.ticks := by
    rw [ticksOfNs_margin]
    exact Nat.le_trans hd ht
  have hon : (stepApplied x w.value s).isOn O.servoEnable = (s.obj O.servoEnable == 1) := by
    rw [State.isOn, stepApplied_obj _ _ _ _ (by decide) (by grind) (by decide)]
    rfl
  unfold execAuthStepApply
  rw [h]
  dsimp only
  rw [← stepApplied, if_pos (by simp [hc, hd', hn]), hon]
  simp only [beq_iff_eq]

theorem enterAcquire_shows (x : Source) (s : State) : (enterAcquire x s).obj O.servoState = 1
    ∧ (enterAcquire x s).obj O.selectedSource = sourceCode x ∧ (enterAcquire x s).time.servo.step = s.time.servo.step
    ∧ (enterAcquire x s).clock = s.clock := by
  unfold enterAcquire
  refine ⟨?_, ?_, rfl, by simp⟩
  · exact (State.onServo_obj ..).trans (State.obj_setObj_same ..)
  · exact (State.onServo_obj ..).trans ((State.obj_setObj_ne _ _ _ _ (by decide)).trans (State.obj_setObj_same ..))

theorem leaveLocked_step (s : State) : (leaveLocked s).time.servo.step = s.time.servo.step ∧ (leaveLocked s).clock = s.clock := by
  unfold leaveLocked
  split
  · exact ⟨rfl, rfl⟩
  · exact ⟨rfl, rfl⟩

/-! ## AUTH_EXPIRY (01 R45) -/

/-- The state in which an armed correction has expired at a tick. -/
def expiredAt (n : Nat) (s : State) : State :=
  ((advanceTicks s n).setObj O.authStatus 5).onServo fun v => { v with authMode := 0, authSrc := none }

theorem expiredAt_leaves (n : Nat) (s : State) : Leaves s (expiredAt n s) (.dict :: timeParts) [O.authStatus] :=
  Leaves.trans (Leaves.trans (Leaves.advanceTicks _ _ (by decide)) (Leaves.setObj _ _ _ (by decide) (by decide)))
    (Leaves.onServo _ _ (by decide))

theorem expiredAt_status (n : Nat) (s : State) : (expiredAt n s).obj O.authStatus = 5 := by simp [expiredAt]

theorem expiredAt_ticks (n : Nat) (s : State) : n ≤ (expiredAt n s).clock.ticks := by
  rw [expiredAt, State.onServo_clock, State.setObj_clock]
  exact le_advanceTicks ..

theorem execAuthExpiry_expires {s : State} (h : s.obj O.authStatus = 1 ∨ s.obj O.authStatus = 2) :
    execAuthExpiry s = .next (expiredAt (s.time.servo.armedAt + 9375000000) s) := by
  unfold execAuthExpiry
  rw [if_pos (by simpa using h), ticksOfNs_minute]
  rfl

end Sys2Proof.Machine
open Sys2Proof Sys2Proof.Machine Sys2Proof.Safety

/-- Settles O5: each command by the state that it makes of the state at its instant. -/
theorem authorisedSteps : Obligations.AuthorisedSteps := by
  unfold Obligations.AuthorisedSteps
  refine ⟨fun s h => ?_, fun x s hx h2 hn => ?_, fun x w s hg h => ?_, fun w s hg h => ?_, fun x w s h hc hd hn => ?_,
    fun n s hn ha hs => ?_, fun s hm ha => ?_, fun x n c rest s hn hr hc => ?_⟩
  · refine ⟨_, execAuthExpiry_expires h, expiredAt_status _ _, expiredAt_ticks _ _, ?_, fun k hk => ?_⟩
    · exact (expiredAt_leaves ..).1
    · exact (expiredAt_leaves ..).2 k (by simpa using hk)
  · have hb : (s.obj O.authStatus == 2 && s.noCarrier) = true := by simp [h2, hn]
    show ∃ t, execAuthStepDecision s = _ ∧ _
    unfold execAuthStepDecision
    rw [hx]
    dsimp only
    rw [if_pos hb]
    split
    · refine ⟨_, rfl, ⟨by simp, rfl⟩, ?_, fun k hk => ?_⟩
      · exact SameBut.trans (SameBut.setObj _ _ _ _ (by decide)) (Leaves.onServo (ks := []) _ _ (by decide)).1
      · rw [State.onServo_obj, State.obj_setObj_ne _ _ _ _ hk]
    · refine ⟨_, rfl, ⟨by simp, rfl⟩, ?_, fun k hk => ?_⟩
      · exact SameBut.trans (SameBut.setObj _ _ _ _ (by decide)) (Leaves.onServo (ks := []) _ _ (by decide)).1
      · rw [State.onServo_obj, State.obj_setObj_ne _ _ _ _ hk]
  · refine ⟨_, if_neg (by simpa using hg), ?_, (Leaves.onServo (ks := []) _ _ (by decide)).1⟩
    rw [State.onServo_servo, h]
    rfl
  · refine ⟨_, if_neg (by simpa using hg), ?_, fun p hp => ?_⟩
    · rw [h]
      rfl
    · cases p <;> simp_all [Part.same]
  · refine ⟨_, execAuthStepApply_applies h hc hd hn, ?_⟩
    split
    · obtain ⟨h1, h2, h3, h4⟩ := enterAcquire_shows x (leaveLocked (stepApplied x w.value s))
      refine ⟨⟨h1, h2⟩, h3.trans ((leaveLocked_step _).1.trans rfl), ?_⟩
      rw [h4, (leaveLocked_step _).2, stepApplied_clock]
    · refine ⟨⟨stepApplied_obj _ _ _ _ (by decide) (by grind) (by decide), stepApplied_obj _ _ _ _ (by decide) (by grind) (by decide)⟩, rfl, ?_⟩
      rw [stepApplied_clock]
  · have hx : exec (.triggerFire n) s = .next (fireTrigger n false (advanceTo s (countOf (s.nat (O.trigTarget n))))) :=
      (if_neg (Nat.not_le.mpr hn)).trans (if_pos ha)
    have hl := fireTrigger_leaves n false (advanceTo s (countOf (s.nat (O.trigTarget n))))
    have ho := fireTrigger_ordinary n (advanceTo s (countOf (s.nat (O.trigTarget n))))
    simp only [State.nat, State.obj_advanceTo] at ho
    refine ⟨_, hx, ?_, ho, ?_⟩
    · rw [show (fireTrigger n false _).clock = _ from hl.1 .clock (by decide)]
      exact le_advanceTo hs _
    · exact SameBut.trans (Leaves.advanceTo (ks := []) _ _ (by decide)).1 (SameBut.mono hl.1 (by decide))
  · have ht : ppsTaken ((advanceTo s (nextPulse s)).onTime fun t => { t with pulses := t.pulses.drop 1 }) = false := by
      simp only [ppsTaken, List.any_eq_false, List.mem_range]
      intro n hn
      have : armed ((advanceTo s (nextPulse s)).onTime fun t => { t with pulses := t.pulses.drop 1 }) n = armed s n := by
        simp [armed, State.nat]
      rw [this, ha n hn]
      exact Bool.false_ne_true
    refine ⟨_, congrArg Host.Outcome.next (if_pos ?_), rfl, ?_, ?_⟩
    · rw [ht]
      simp [ppsAllowed, hm]
    · simp [State.nat]
    · exact SameBut.trans (SameBut.trans (Leaves.advanceTo (ks := []) _ _ (by decide)).1 (Leaves.onTime (ks := []) _ _ (by decide)).1)
        (Leaves.onTime (ks := []) _ _ (by decide)).1
  · have hv : (((Store.at [] (advance s x.dt).time.captures n).head?).map fun c => leBytes 16 (stimeOf c)) = some (leBytes 16 (stimeOf c)) := by
      rw [advance_captures, hc]
      rfl
    have hx : exec (.readCapFifo x n) s = .next ((popReplied x (O.capFifo n) (leBytes 16 (stimeOf c)) s).onTime fun t =>
        { t with captures := Store.put t.captures n (Store.at [] t.captures n).tail }) :=
      (if_neg (Nat.not_le.mpr hn)).trans (congrArg Host.Outcome.next (hostPop_served hr hv))
    obtain ⟨hp, ho⟩ := popReplied_frame x (O.capFifo n) (leBytes 16 (stimeOf c)) s
    refine ⟨_, hx, ?_, ?_, ?_, ho⟩
    · show Store.at [] (Store.put _ n _) n = rest
      have ht : (popReplied x (O.capFifo n) (leBytes 16 (stimeOf c)) s).time.captures = s.time.captures := by simp [popReplied]
      rw [Store.at_put_same, ht, hc]
      rfl
    · exact (popReplied_sent (isEnable_capFifo n hn)).trans (by simp)
    · exact SameBut.trans hp (Leaves.onTime (ks := []) _ _ (by decide)).1
end

section
/-! SUPPORT. What a write of an enable leaves and sets, for every enable (05 R173, R174), and the opening of a listen gap (02 R71, R72). -/
namespace Sys2Proof.Machine
open Sys2Proof.Safety

/-! ## Writes of enables -/

/-- The objects that a write of 1 to an enable records. -/
def checkKeys : List Nat := [O.lastCheckObject, O.lastCheckReason, O.enableLogCount, O.changeCount]

theorem EnableRules.afterOn_leaves (e : EnableRules) (s : State) {ps : List Part} {ks : List Nat}
    (ha : Leaves s (e.settle (e.judge s) s) ps ks) (hd : Part.dict ∈ ps) (hv : Part.svc ∈ ps) (hk : ∀ k ∈ checkKeys, k ∈ ks) :
    Leaves s (e.afterOn s) ps ks := by
  have hps : ∀ p ∈ [Part.dict, Part.svc], p ∈ ps := by simp [hd, hv]
  have hl := Leaves.trans (Leaves.trans ha (Leaves.mono (recordCheck_leaves e.key (e.judge s) _) (by simpa using hd)
    fun k h => hk k (by simp [checkKeys] at h ⊢; tauto))) (Leaves.mono (logEnable_leaves e.key 0 (e.judge s) _) hps
    fun k h => hk k (by simp [checkKeys] at h ⊢; tauto))
  unfold EnableRules.afterOn
  dsimp only
  split
  · exact Leaves.trans hl (Leaves.mono (setAsked_leaves ..) hps fun k h => hk k (by simp [checkKeys] at h ⊢; tauto))
  · exact hl

theorem EnableRules.afterOn_obj (e : EnableRules) (s : State) (k : Nat) (h : k ∉ checkKeys) :
    (e.afterOn s).obj k = (e.settle (e.judge s) s).obj k := by
  simp only [checkKeys, List.mem_cons, List.not_mem_nil, or_false, not_or] at h
  have hl : (logEnable e.key 0 (e.judge s) (recordCheck e.key (e.judge s) (e.settle (e.judge s) s))).obj k
      = (e.settle (e.judge s) s).obj k := by
    rw [logEnable_obj _ _ _ _ _ h.2.2.1, recordCheck_obj _ _ _ _ h.1 h.2.1]
  unfold EnableRules.afterOn
  dsimp only
  split
  · rw [State.setAsked_obj _ _ _ _ h.2.2.2, hl]
  · exact hl

theorem EnableRules.settle_ok (e : EnableRules) (s : State) : e.settle .ok s = e.accept (s.setObj e.key 1) := if_pos rfl

theorem EnableRules.settle_refused (e : EnableRules) {r : Reason} (s : State) (h : r ≠ .ok) : e.settle r s = s.setObj e.key 0 := if_neg h

theorem EnableRules.judge_check (e : EnableRules) {s : State} (h : s.obj O.bootState ≠ 5) : e.judge s = e.check s := by
  rw [EnableRules.judge, if_neg (by simpa using h)]

/-- The state after a write of 0 to an enable that reads ON, as its shut-down leaves it. -/
def EnableRules.shut (e : EnableRules) (s : State) : State :=
  if e.busy (e.stop (s.setObj e.key 3)) then e.stop (s.setObj e.key 3) else shutDone e.key (e.stop (s.setObj e.key 3))

theorem EnableRules.afterOff_eq (e : EnableRules) (s : State) : e.afterOff s = (e.shut s).setAsked e.key false := rfl

theorem EnableRules.afterOff_leaves (e : EnableRules) (s : State) {ps : List Part} {ks : List Nat} (ha : Leaves s (e.shut s) ps ks)
    (hd : Part.dict ∈ ps) (hv : Part.svc ∈ ps) (hk : O.changeCount ∈ ks) : Leaves s (e.afterOff s) ps ks :=
  Leaves.trans ha (Leaves.mono (setAsked_leaves ..) (by simp [hd, hv]) (by simpa using hk))

theorem EnableRules.afterOff_obj (e : EnableRules) (s : State) (k : Nat) (h : k ≠ O.changeCount) : (e.afterOff s).obj k = (e.shut s).obj k :=
  State.setAsked_obj _ _ _ _ h

theorem shutDone_leaves (key : Nat) (s : State) : Leaves s (shutDone key s) [.dict, .svc] [key] := by
  unfold shutDone
  split
  · exact ⟨fun p hp => by cases p <;> simp_all [Part.same], fun _ _ => rfl⟩
  · exact Leaves.setObj _ _ _ (by decide) (by simp)

theorem shutDone_stopping {key : Nat} {s : State} (h : s.obj key = 3) : shutDone key s = s.setObj key 0 := if_neg (by simp [h, stPending])

/-- A served write of 1 to an enable that reads OFF. -/
theorem hostWrite_on (e : EnableRules) {x : Xfer} {s : State} {r : Reason} {ps : List Part} {ks : List Nat}
    (h : Accepts s x e.key (.num 1)) (h0 : s.obj e.key = 0) (hr : e.judge (atWrite s x e.key (.num 1)) = r)
    (hl : Leaves (atWrite s x e.key (.num 1)) (e.settle r (atWrite s x e.key (.num 1))) (.dict :: ps) ks) (hp : Part.svc ∈ ps)
    (hk : ∀ k ∈ checkKeys, k ∈ ks) (hn : Part.link ∉ Part.dict :: ps) :
    Answers s (hostWrite x e.key (.num 1) (e.write 1) s) x e.key (.num 1) r ps ks
      ∧ ∀ j, j ∉ checkKeys → j ∉ [O.transfersServed, O.transfersRefused, O.busyReplies] →
        (hostWrite x e.key (.num 1) (e.write 1) s).obj j = (e.settle r (atWrite s x e.key (.num 1))).obj j := by
  subst hr
  obtain ⟨ha, ho⟩ := hostWrite_answers h (e.write_on _ ((atWrite_obj ..).trans h0))
    (EnableRules.afterOn_leaves e _ hl (by simp) (by simp [hp]) hk) hn
  exact ⟨ha, fun j h1 h2 => (ho j h2).trans (e.afterOn_obj _ j h1)⟩

/-- A served write of 0 to an enable that reads ON. -/
theorem hostWrite_off (e : EnableRules) {x : Xfer} {s : State} {ps : List Part} {ks : List Nat}
    (h : Accepts s x e.key (.num 0)) (h1 : s.obj e.key = 1)
    (hl : Leaves (atWrite s x e.key (.num 0)) (e.shut (atWrite s x e.key (.num 0))) (.dict :: ps) ks) (hp : Part.svc ∈ ps)
    (hk : O.changeCount ∈ ks) (hn : Part.link ∉ Part.dict :: ps) :
    Answers s (hostWrite x e.key (.num 0) (e.write 0) s) x e.key (.num 0) .ok ps ks
      ∧ ∀ j, j ≠ O.changeCount → j ∉ [O.transfersServed, O.transfersRefused, O.busyReplies] →
        (hostWrite x e.key (.num 0) (e.write 0) s).obj j = (e.shut (atWrite s x e.key (.num 0))).obj j := by
  obtain ⟨ha, ho⟩ := hostWrite_answers h (e.write_off _ ((atWrite_obj ..).trans h1))
    (EnableRules.afterOff_leaves e _ hl (by simp) (by simp [hp]) hk) hn
  exact ⟨ha, fun j h1 h2 => (ho j h2).trans (e.afterOff_obj _ j h1)⟩

/-! ## NL_ENABLE (02 R68) -/

theorem nlCheck_congr {s t : State} (h : ∀ k, t.obj k = s.obj k) : nlCheck t = nlCheck s := by
  have ho : t.obj = s.obj := funext h
  simp only [nlCheck, carrierUnits, listenChainTaken, gapMeetsWatch, State.nat, State.chainUser, State.inGang, State.gang, ho]
  rfl

theorem nlRules_check : nlRules.check = nlCheck := by simp only [nlRules]

theorem Leaves.onChain (s : State) (c : Nat) (f : DfeChain → DfeChain) {ps : List Part} {ks : List Nat} (h : Part.dfe ∈ ps) :
    Leaves s (s.onChain c f) ps ks :=
  ⟨fun p hp => by cases p <;> simp_all [Part.same], fun _ _ => by simp⟩

/-- The objects that an accepted NL_ENABLE sets. -/
theorem nlAccept_leaves (s : State) : Leaves s (nlAccept s) [.dict, .dfe] [O.nlState, O.dfeUser (s.nat O.nlChain)] :=
  Leaves.trans (Leaves.trans (Leaves.setObj _ _ _ (by decide) (by simp)) (Leaves.setObj _ _ _ (by decide) (by simp)))
    (Leaves.onChain _ _ _ (by decide))

theorem nlAccept_obj (s : State) : (nlAccept s).obj O.nlState = 1 ∧ (nlAccept s).obj (O.dfeUser (s.nat O.nlChain)) = 0x80 := by
  have h : O.nlState ≠ O.dfeUser (s.nat O.nlChain) := by grind
  unfold nlAccept clearFilters
  rw [State.onChain_obj, State.onChain_obj, State.obj_setObj_same, State.obj_setObj_ne _ _ _ _ h, State.obj_setObj_same]
  exact ⟨rfl, rfl⟩

theorem nlRelease_leaves (s : State) : Leaves s (nlRelease s) [.dict] [O.nlState, O.dfeUser (s.nat O.nlChain)] := by
  unfold nlRelease
  exact Leaves.trans (Leaves.ite _ (Leaves.setObj _ _ _ (by decide) (by simp)) (Leaves.refl ..)) (Leaves.setObj _ _ _ (by decide) (by simp))

theorem nlRelease_shows (s : State) : (nlRelease s).obj O.nlState = 0
    ∧ (s.obj (O.dfeUser (s.nat O.nlChain)) = 0x80 → (nlRelease s).obj (O.dfeUser (s.nat O.nlChain)) = 0xFF) := by
  unfold nlRelease
  refine ⟨State.obj_setObj_same .., fun h => ?_⟩
  rw [if_pos (by simpa using h), State.obj_setObj_ne _ _ _ _ (by grind), State.obj_setObj_same]

/-- The objects that a write of NL_ENABLE may set, for the chain of network listen. -/
def nlKeys (chain : Nat) : List Nat :=
  [O.nlEnable, O.nlState, O.dfeUser chain, O.lastCheckObject, O.lastCheckReason, O.enableLogCount, O.changeCount]

theorem nlChain_setEnable (s : State) (v : Int) : (s.setObj O.nlEnable v).nat O.nlChain = s.nat O.nlChain :=
  congrArg Int.toNat (State.obj_setObj_ne _ _ _ _ (by decide))

theorem nlRules_settle_leaves (r : Reason) (s : State) :
    Leaves s (nlRules.settle r s) [.dict, .svc, .dfe] [O.nlEnable, O.nlState, O.dfeUser (s.nat O.nlChain)] := by
  have hs (v : Int) : Leaves s (s.setObj nlRules.key v) [.dict, .svc, .dfe] [O.nlEnable, O.nlState, O.dfeUser (s.nat O.nlChain)] :=
    Leaves.setObj _ _ _ (by decide) (by simp [nlRules])
  unfold EnableRules.settle
  refine Leaves.ite _ (Leaves.trans (hs 1) (Leaves.mono (nlAccept_leaves _) (by decide) ?_)) (hs 0)
  rw [show (s.setObj nlRules.key 1).nat O.nlChain = s.nat O.nlChain from nlChain_setEnable s 1]
  simp

theorem nlRules_settle_ok (s : State) : (nlRules.settle .ok s).obj O.nlEnable = 1 ∧ (nlRules.settle .ok s).obj O.nlState = 1
    ∧ (nlRules.settle .ok s).obj (O.dfeUser (s.nat O.nlChain)) = 0x80 := by
  have hc : (s.setObj O.nlEnable 1).nat O.nlChain = s.nat O.nlChain := nlChain_setEnable s 1
  obtain ⟨h1, h2⟩ := nlAccept_obj (s.setObj O.nlEnable 1)
  rw [EnableRules.settle_ok]
  refine ⟨((nlAccept_leaves (s.setObj O.nlEnable 1)).2 _ (by grind)).trans (State.obj_setObj_same ..), h1, ?_⟩
  rw [hc] at h2
  exact h2

theorem nlRules_settle_refused {r : Reason} (s : State) (h : r ≠ .ok) : (nlRules.settle r s).obj O.nlEnable = 0
    ∧ (nlRules.settle r s).obj O.nlState = s.obj O.nlState
    ∧ (nlRules.settle r s).obj (O.dfeUser (s.nat O.nlChain)) = s.obj (O.dfeUser (s.nat O.nlChain)) := by
  rw [EnableRules.settle_refused _ _ h]
  exact ⟨State.obj_setObj_same .., State.obj_setObj_ne _ _ _ _ (by decide), State.obj_setObj_ne _ O.nlEnable _ _ (by grind)⟩

theorem nlRules_shut (s : State) : nlRules.shut s = if nlBusy s = true then s.setObj O.nlEnable 3
    else (nlRelease (s.setObj O.nlEnable 3)).setObj O.nlEnable 0 := by
  have hb : nlBusy (s.setObj O.nlEnable 3) = nlBusy s := by
    rw [nlBusy, nlBusy, State.obj_setObj_ne _ _ _ _ (by decide)]
  have hr : nlBusy (nlRelease (s.setObj O.nlEnable 3)) = false := by
    rw [nlBusy, (nlRelease_shows _).1]
    rfl
  have he : (nlRelease (s.setObj O.nlEnable 3)).obj O.nlEnable = 3 := by
    rw [(nlRelease_leaves _).2 _ (by grind), State.obj_setObj_same]
  unfold EnableRules.shut
  by_cases h : nlBusy s = true
  · rw [show nlRules.stop (s.setObj nlRules.key 3) = s.setObj O.nlEnable 3 from if_pos (hb.trans h), if_pos h]
    exact if_pos (hb.trans h)
  · have hs : nlRules.stop (s.setObj nlRules.key 3) = nlRelease (s.setObj O.nlEnable 3) := if_neg (by rw [show nlRules.key = O.nlEnable from rfl, hb]; exact h)
    rw [hs, if_neg h, show nlRules.busy = nlBusy from rfl, hr, if_neg Bool.false_ne_true]
    exact shutDone_stopping he

theorem nlRules_shut_leaves (s : State) : Leaves s (nlRules.shut s) [.dict] [O.nlEnable, O.nlState, O.dfeUser (s.nat O.nlChain)] := by
  have hs (u : State) (v : Int) : Leaves u (u.setObj O.nlEnable v) [.dict] [O.nlEnable, O.nlState, O.dfeUser (s.nat O.nlChain)] :=
    Leaves.setObj _ _ _ (by decide) (by simp)
  rw [nlRules_shut]
  refine Leaves.ite _ (hs ..) (Leaves.trans (Leaves.trans (hs s 3) (Leaves.mono (nlRelease_leaves _) (fun _ h => h) ?_)) (hs ..))
  rw [nlChain_setEnable]
  simp

/-! ## Listen gaps (02 R71, R72) -/

/-- A transmit window whose port a gap mutes is shut. -/
def muteWindow (s : State) (n : Nat) : State :=
  if bitOf (s.nat O.gapMuteMask) n && s.obj (O.txwOpen n) == 1 then s.setObj (O.txwOpen n) 0 else s

theorem muteWindow_leaves (s : State) (n : Nat) : Leaves s (muteWindow s n) [.dict] [O.txwOpen n] :=
  Leaves.ite _ (Leaves.setObj _ _ _ (by decide) (by simp)) (Leaves.refl ..)

theorem muteWindow_obj (s : State) (n : Nat) : (muteWindow s n).obj (O.txwOpen n)
    = if bitOf (s.nat O.gapMuteMask) n = true ∧ s.obj (O.txwOpen n) = 1 then 0 else s.obj (O.txwOpen n) := by
  unfold muteWindow
  simp only [Bool.and_eq_true, beq_iff_eq]
  split <;> simp

/-- Windows each of its own number are muted one after the other as each by itself. -/
theorem foldl_muteWindow (l : List Nat) (hl : l.Nodup) (s : State) (n : Nat) : (l.foldl muteWindow s).obj (O.txwOpen n)
    = if n ∈ l ∧ bitOf (s.nat O.gapMuteMask) n = true ∧ s.obj (O.txwOpen n) = 1 then 0 else s.obj (O.txwOpen n) := by
  induction l generalizing s with
  | nil => simp
  | cons m l ih =>
    obtain ⟨hm, hl⟩ := List.nodup_cons.mp hl
    have hmask : (muteWindow s m).nat O.gapMuteMask = s.nat O.gapMuteMask :=
      congrArg Int.toNat ((muteWindow_leaves s m).2 _ (by grind))
    rw [List.foldl_cons, ih hl, hmask]
    by_cases h : n = m
    · subst h
      rw [muteWindow_obj, if_neg (fun h => hm h.1)]
      simp
    · rw [(muteWindow_leaves s m).2 (O.txwOpen n) (by grind)]
      simp [h]

/-- The state in which a gap opens at its instant. -/
def gapOpened (g : Int) (s : State) : State :=
  ((advanceToAir s g).setObj O.nlState 2).onNl fun r =>
    { r with current := none, frozen := false, freezing := false, block := 0, power := 0, openedAt := g }

theorem gapOpen_opens {g : Int} {s : State} (he : s.obj O.nlEnable = 1) (hn : s.obj O.nlState = 1 ∨ s.obj O.nlState = 3)
    (ha : s.airRunning = true) (hw : s.obj O.watchState = 0) (hg : nextGapAfter s s.airNow = some g) : gapOpen s = gapOpened g s := by
  unfold gapOpen
  rw [if_pos (by simp [State.isOn, stOn, he, hn, ha, hw]), hg]
  rfl

theorem gapOpened_leaves (g : Int) (s : State) : Leaves s (gapOpened g s) (.dict :: .nl :: timeParts) [O.nlState] :=
  Leaves.trans (Leaves.trans (Leaves.advanceToAir _ _ (by decide)) (Leaves.setObj _ _ _ (by decide) (by decide)))
    (Leaves.onNl _ _ (by decide))

theorem gapOpened_state (g : Int) (s : State) : (gapOpened g s).obj O.nlState = 2 := by simp [gapOpened]

theorem execListenGapOpen_opens {g : Int} {s : State} (he : s.obj O.nlEnable = 1) (hn : s.obj O.nlState = 1 ∨ s.obj O.nlState = 3)
    (ha : s.airRunning = true) (hw : s.obj O.watchState = 0) (hg : nextGapAfter s s.airNow = some g) :
    execListenGapOpen s = .next (if s.obj O.nlMode = 0 then (List.range 64).foldl muteWindow (gapOpened g s) else gapOpened g s) := by
  have hm : (gapOpened g s).obj O.nlMode = s.obj O.nlMode := (gapOpened_leaves g s).2 _ (by decide)
  unfold execListenGapOpen
  dsimp only
  rw [gapOpen_opens he hn ha hw hg, gapOpened_state, hm]
  split
  next h => rw [if_pos (by simpa using h)]; rfl
  next h => rw [if_neg (by simpa using h)]

theorem muteAll_leaves (s : State) : Leaves s ((List.range 64).foldl muteWindow s) [.dict] ((List.range 64).map fun n => O.txwOpen n) :=
  Leaves.foldl _ _ (fun n hn u => Leaves.mono (muteWindow_leaves u n) (fun _ h => h) (by simpa using List.mem_range.mp hn)) s

theorem isEnable_mcRecord : isEnable O.mcRecord = false := by decide +kernel

theorem nlRules_judge_atWrite {x : Xfer} {v : Int} {s : State} (hb : s.obj O.bootState ≠ 5) :
    nlRules.judge (atWrite s x O.nlEnable (.num v)) = nlCheck s := by
  rw [EnableRules.judge_check _ (by rwa [atWrite_obj]), nlRules_check, nlCheck_congr (atWrite_obj s x O.nlEnable (.num v))]

/-- A write of 1 to NL_ENABLE in OFF, by the reason with which it is judged. -/
theorem nlEnable_on {x : Xfer} {s : State} {r : Reason} (h : Accepts s x O.nlEnable (.num 1)) (h0 : s.obj O.nlEnable = 0)
    (hj : nlRules.judge (atWrite s x O.nlEnable (.num 1)) = r) :
    ∃ t, execWriteNlEnable x 1 s = .next t
      ∧ Answers s t x O.nlEnable (.num 1) r [.svc, .dfe] (nlKeys (s.nat O.nlChain))
      ∧ (if r = .ok
         then t.obj O.nlEnable = 1 ∧ t.obj O.nlState = 1 ∧ t.obj (O.dfeUser (s.nat O.nlChain)) = 0x80
         else t.obj O.nlEnable = 0 ∧ t.obj O.nlState = s.obj O.nlState
           ∧ t.obj (O.dfeUser (s.nat O.nlChain)) = s.obj (O.dfeUser (s.nat O.nlChain))) := by
  have hu := atWrite_obj s x O.nlEnable (.num 1)
  have hc : (atWrite s x O.nlEnable (.num 1)).nat O.nlChain = s.nat O.nlChain := congrArg Int.toNat (hu _)
  obtain ⟨ha, ho⟩ := hostWrite_on nlRules (ps := [.svc, .dfe]) (ks := nlKeys (s.nat O.nlChain)) h h0 hj
    (Leaves.mono (nlRules_settle_leaves _ _) (fun _ h => h) (by rw [show nlRules.key = O.nlEnable from rfl, hc]; simp [nlKeys])) (by decide)
    (by simp [checkKeys, nlKeys]) (by decide)
  have h1 := ho O.nlEnable (by decide) (by decide)
  have h2 := ho O.nlState (by decide) (by decide)
  have h3 := ho (O.dfeUser (s.nat O.nlChain)) (by grind [checkKeys]) (by grind)
  rw [show nlRules.key = O.nlEnable from rfl] at h1 h2 h3
  refine ⟨_, rfl, ha, ?_⟩
  rw [h1, h2, h3]
  split
  next hk =>
    rw [hk, ← hc]
    exact nlRules_settle_ok _
  next hk =>
    obtain ⟨h1, h2, h3⟩ := nlRules_settle_refused (atWrite s x O.nlEnable (.num 1)) hk
    rw [hc, hu] at h3
    exact ⟨h1, h2.trans (hu _), h3⟩

theorem nlEnable_off {x : Xfer} {s : State} (h : Accepts s x O.nlEnable (.num 0)) (h1 : s.obj O.nlEnable = 1) :
    ∃ t, execWriteNlEnable x 0 s = .next t
      ∧ Answers s t x O.nlEnable (.num 0) .ok [.svc] [O.nlEnable, O.nlState, O.dfeUser (s.nat O.nlChain), O.changeCount]
      ∧ (if nlBusy s = true then t.obj O.nlEnable = 3 ∧ t.obj O.nlState = s.obj O.nlState
         else t.obj O.nlEnable = 0 ∧ t.obj O.nlState = 0
           ∧ (s.obj (O.dfeUser (s.nat O.nlChain)) = 0x80 → t.obj (O.dfeUser (s.nat O.nlChain)) = 0xFF)) := by
  have hu := atWrite_obj s x O.nlEnable (.num 0)
  have hc : (atWrite s x O.nlEnable (.num 0)).nat O.nlChain = s.nat O.nlChain := congrArg Int.toNat (hu _)
  have hb : nlBusy (atWrite s x O.nlEnable (.num 0)) = nlBusy s := by rw [nlBusy, nlBusy, hu]
  obtain ⟨ha, ho⟩ := hostWrite_off nlRules (ps := [.svc]) (ks := [O.nlEnable, O.nlState, O.dfeUser (s.nat O.nlChain), O.changeCount]) h h1
    (Leaves.mono (nlRules_shut_leaves _) (by decide) (by rw [show nlRules.key = O.nlEnable from rfl, hc]; simp)) (by decide) (by simp) (by decide)
  refine ⟨_, rfl, ha, ?_⟩
  have h1 := ho O.nlEnable (by decide) (by decide)
  have h2 := ho O.nlState (by decide) (by decide)
  have h3 := ho (O.dfeUser (s.nat O.nlChain)) (by grind) (by grind)
  rw [show nlRules.key = O.nlEnable from rfl, nlRules_shut, hb] at h1 h2 h3
  rw [h1, h2, h3]
  split
  · exact ⟨State.obj_setObj_same .., (State.obj_setObj_ne _ _ _ _ (by decide)).trans (hu _)⟩
  · obtain ⟨hr, hd⟩ := nlRelease_shows ((atWrite s x O.nlEnable (.num 0)).setObj O.nlEnable 3)
    rw [nlChain_setEnable, hc, State.obj_setObj_ne _ O.nlEnable _ _ (by grind), hu] at hd
    refine ⟨State.obj_setObj_same .., (State.obj_setObj_ne _ _ _ _ (by decide)).trans hr, fun h => ?_⟩
    rw [State.obj_setObj_ne _ O.nlEnable _ _ (by grind)]
    exact hd h

end Sys2Proof.Machine
open Sys2Proof Sys2Proof.Machine Sys2Proof.Safety

/-- Settles O6: the enable by its rules' accept and shut-down, the gap by the state at its instant. -/
theorem listenEnableAndGap : Obligations.ListenEnableAndGap := by
  unfold Obligations.ListenEnableAndGap
  refine ⟨fun x s h h0 hb => nlEnable_on h h0 (nlRules_judge_atWrite hb), fun x s h h1 => nlEnable_off h h1, fun g s he hn ha hw hg => ?_,
    fun x s oldest rest hr hm => ?_⟩
  · have hl := gapOpened_leaves g s
    have hm := muteAll_leaves (gapOpened g s)
    refine ⟨_, execListenGapOpen_opens he hn ha hw hg, ?_⟩
    split
    next h0 =>
      have hw := foldl_muteWindow (List.range 64) List.nodup_range (gapOpened g s)
      have hn : ((List.range 64).foldl muteWindow (gapOpened g s)).nl = (gapOpened g s).nl := hm.1 .nl (by decide)
      refine ⟨(hm.2 _ (by decide)).trans (gapOpened_state g s), ?_⟩
      rw [hn]
      refine ⟨rfl, rfl, rfl, by simp [gapOpened], fun n h => ?_, ?_⟩
      · rw [hw, State.nat, hl.2 _ (by decide), hl.2 _ (by grind), h0]
        simp only [List.mem_range, h, true_and]
        rfl
      · exact Leaves.trans (Leaves.mono hl (fun _ h => h) (by simp)) (Leaves.mono hm (by decide) (fun k h => List.mem_append_right _ h))
    next h0 =>
      refine ⟨gapOpened_state g s, rfl, rfl, rfl, by simp [gapOpened], fun n h => ?_, Leaves.mono hl (fun _ h => h) (by simp)⟩
      rw [if_neg (fun h => h0 h.1)]
      exact hl.2 _ (by grind)
  · have hv : (advance s x.dt).nl.missed.head? = some oldest := by simp [hm]
    obtain ⟨hp, ho⟩ := popReplied_frame x O.mcRecord oldest s
    refine ⟨_, congrArg Host.Outcome.next (hostPop_served hr hv), ?_, (popReplied_sent isEnable_mcRecord), ?_, ho⟩
    · show (popReplied x O.mcRecord oldest s).nl.missed.tail = rest
      rw [show (popReplied x O.mcRecord oldest s).nl = s.nl from hp .nl (by decide), hm]
      rfl
    · exact SameBut.trans (SameBut.mono hp (by decide)) (Leaves.onNl (ks := []) _ _ (by decide)).1
end

section
/-! SUPPORT. The air epoch (03): what a write and its wrap make of it. -/
namespace Sys2Proof.Machine
open Sys2Proof.Safety

theorem actAirEpoch_leaves (v : Int) (s : State) : Leaves s (actAirEpoch v s).2 [.dict, .clock] [O.airEpoch, O.changeCount] := by
  have hc : Leaves s (s.change O.airEpoch v) [.dict, .clock] [O.airEpoch, O.changeCount] :=
    Leaves.change s _ v (by decide) (by decide) (by decide)
  refine Leaves.trans hc ⟨fun p hp => ?_, fun k _ => rfl⟩
  cases p <;> simp_all [Part.same, actAirEpoch]

theorem actAirEpoch_clock (v : Int) (s : State) :
    (actAirEpoch v s).2.clock = { s.clock with newEpoch := some ⟨countOf v.toNat, s.clock.ticks, false⟩ } := by
  simp [actAirEpoch]

/-- Time's passing leaves the epoch in force and the one that waits. -/
theorem advance_epochs (s : State) (n : Nat) : (advance s n).clock.epoch = s.clock.epoch
    ∧ (advance s n).clock.newEpoch = s.clock.newEpoch := by
  simp [advance]

theorem advanceTo_epochs (s : State) (c : Nat) : (advanceTo s c).clock.epoch = s.clock.epoch
    ∧ (advanceTo s c).clock.newEpoch = s.clock.newEpoch := by
  unfold advanceTo
  split
  · exact ⟨rfl, rfl⟩
  · exact advance_epochs ..

theorem Leaves.setClock (s : State) (c : Clock) {ps : List Part} {ks : List Nat} (h : Part.clock ∈ ps) :
    Leaves s { s with clock := c } ps ks :=
  ⟨fun p hp => by cases p <;> simp_all [Part.same], fun _ _ => rfl⟩

/-- The state in which an epoch that waits is in force. -/
def epochApplied (w : Waiting) (s : State) : State := { s with clock := { s.clock with epoch := w.value.toNat, newEpoch := none } }

theorem epochApplied_clock (w : Waiting) (s : State) : (epochApplied w s).clock.epoch = w.value.toNat
    ∧ (epochApplied w s).clock.newEpoch = none ∧ (epochApplied w s).clock.count = s.clock.count := ⟨rfl, rfl, rfl⟩

/-- The state at the next wrap of the nanoseconds. -/
def atWrap (s : State) : State := advanceTo s (nextWrap s.clock.count)

theorem execAirEpochApply_eq {w : Waiting} {s : State} (h : s.clock.newEpoch = some w) :
    execAirEpochApply s = .next (if w.confirmed && w.decided + ticksOfNs 100000 ≤ (atWrap s).clock.ticks then epochApplied w (atWrap s)
      else atWrap s) := by
  unfold execAirEpochApply
  rw [h]
  dsimp only
  rw [← atWrap]
  split <;> rfl

theorem atWrap_ticks (s : State) : s.clock.ticks ≤ (atWrap s).clock.ticks := ticks_le_advanceTo ..

theorem le_atWrap {s : State} (h : Steady s) : nextWrap s.clock.count ≤ (atWrap s).clock.count := le_advanceTo h _

theorem atWrap_leaves (s : State) : Leaves s (atWrap s) timeParts [] := Leaves.advanceTo _ _ (by decide)

theorem atWrap_epochs (s : State) : (atWrap s).clock.epoch = s.clock.epoch ∧ (atWrap s).clock.newEpoch = s.clock.newEpoch :=
  advanceTo_epochs ..

end Sys2Proof.Machine
open Sys2Proof Sys2Proof.Machine Sys2Proof.Safety

/-- Settles O8: the write by its action's clock, the wrap by what time's passing leaves of the epoch that waits. -/
theorem airEpoch : Obligations.AirEpoch := by
  unfold Obligations.AirEpoch
  refine ⟨fun x v s h => ?_, fun w s hs hw hc hd => ?_, fun w s hw hc => ?_⟩
  · obtain ⟨hr, hp, ho, hu, hj⟩ := hostWrite_num (ps := [.clock]) (act := actAirEpoch v) (u := (actAirEpoch v (advance s x.dt)).2) (r := .ok) h
      rfl (actAirEpoch_leaves v _) (by decide)
    have hclk : (hostWrite x O.airEpoch (.num v) (actAirEpoch v) s).clock = _ := (hu .clock (by decide)).trans (actAirEpoch_clock ..)
    refine ⟨_, rfl, (hj _ (by decide)).trans ?_, ?_, ?_, hr, ?_, ho⟩
    · exact State.obj_change_same _ O.airEpoch v (by decide)
    · rw [hclk, advance_ticks]
    · rw [hclk]
      exact (advance_epochs ..).1
    · rw [if_pos (lengthOf_num _ _)]
      exact SameBut.mono hp (by decide)
  · have hd' : w.decided + ticksOfNs 100000 ≤ (atWrap s).clock.ticks := by
      rw [ticksOfNs_margin]
      exact Nat.le_trans hd (atWrap_ticks s)
    have hx : execAirEpochApply s = .next (epochApplied w (atWrap s)) := by
      rw [execAirEpochApply_eq hw, hc, decide_eq_true hd', Bool.and_true, if_pos (Eq.refl true)]
    obtain ⟨h1, h2, h3⟩ := epochApplied_clock w (atWrap s)
    refine ⟨_, hx, h1, h2, ?_, Leaves.trans (atWrap_leaves s) (Leaves.setClock _ _ (by decide))⟩
    rw [h3]
    exact le_atWrap hs
  · have hx : execAirEpochApply s = .next (atWrap s) := by
      rw [execAirEpochApply_eq hw, hc, Bool.false_and, if_neg Bool.false_ne_true]
    exact ⟨_, hx, (atWrap_epochs s).1, (atWrap_epochs s).2.trans hw, atWrap_leaves s⟩
end

section
/-! SUPPORT. Tile instructions (11): an instruction of a running task, its commit, an exception taken, and the values of scalar operations. -/
namespace Sys2Proof.Machine
open Sys2Proof.Safety

/-! ## One instruction of a running task -/

theorem onTile_slot {s : State} {t : Nat} {c : Ctx} (h : OnSlot s t c) (f : Ctx → State → State) : onTile t s f = .next (f c s) := by
  obtain ⟨ht, hc, he⟩ := h
  simp [onTile, tileCount, Nat.not_le.mpr ht, hc, he]

theorem putCtx_becomes (t : Nat) (c : Ctx) (s : State) : SlotBecomes s (putCtx t c s) t c :=
  ⟨Store.find_put_same .., fun _ hu => Store.find_put_ne _ _ _ _ hu⟩

theorem putCtx_leaves (t : Nat) (c : Ctx) (s : State) {ps : List Part} {ks : List Nat} (h : Part.tiles ∈ ps) : Leaves s (putCtx t c s) ps ks :=
  ⟨fun p hp => by cases p <;> simp_all [Part.same, putCtx], fun _ _ => rfl⟩

theorem commitTo_commits (t : Nat) (c : Ctx) (s : State) : Commits s (commitTo t c s) t c :=
  ⟨putCtx_becomes .., putCtx_leaves _ _ _ (by decide)⟩

/-- A slot's context that is replaced in a state with the same contexts. -/
theorem SlotBecomes.of_tiles {s u s' : State} {t : Nat} {c : Ctx} (hu : u.tiles = s.tiles) (h : SlotBecomes u s' t c) : SlotBecomes s s' t c :=
  ⟨h.1, fun v hv => (h.2 v hv).trans (by rw [hu])⟩

/-! ## Exceptions (11 R393 to R395) -/

theorem kExceptions_ne (t : Nat) : O.kExceptions t ≠ O.fusedRefused ∧ O.kExceptions t ≠ O.fusedLastRefusal := by
  constructor <;> (simp only [O.kExceptions, O.fusedRefused, O.fusedLastRefusal]; omega)

theorem countExc_leaves (t : Nat) (c : Ctx) (e : Exc) (s : State) :
    Leaves s (countExc t c e s) [.dict, .blobs] [O.kExceptions t, O.fusedRefused, O.fusedLastRefusal] := by
  have hk : Leaves s (if c.level == 0 then s.bump (O.kExceptions t) 1 else s) [.dict, .blobs] [O.kExceptions t, O.fusedRefused, O.fusedLastRefusal] :=
    Leaves.ite _ (Leaves.bump _ _ _ (by decide) (by simp)) (Leaves.refl ..)
  have hb := Leaves.trans hk (Leaves.setBlob _ (O.lastException t) (lastBlob e.code c.level c.pc (BitVec.ofNat 64 e.addr)) (by decide))
  exact Leaves.trans hb (Leaves.ite _ (Leaves.trans (Leaves.bump _ _ _ (by decide) (by simp)) (Leaves.setObj _ _ _ (by decide) (by simp)))
    (Leaves.refl ..))

/-- At K an exception is counted, and at another level it is not. -/
theorem countExc_counted (t : Nat) (c : Ctx) (e : Exc) (s : State) :
    if c.level = 0 then Counted s (countExc t c e s) (O.kExceptions t) 1
    else (countExc t c e s).obj (O.kExceptions t) = s.obj (O.kExceptions t) := by
  obtain ⟨h1, h2⟩ := kExceptions_ne t
  have he : (countExc t c e s).obj (O.kExceptions t) = (if c.level == 0 then s.bump (O.kExceptions t) 1 else s).obj (O.kExceptions t) := by
    unfold countExc
    dsimp only
    rw [apply_ite (fun u : State => u.obj (O.kExceptions t)), State.obj_setObj_ne _ _ _ _ h2, State.obj_bump_ne _ _ _ _ h1, ite_self]
    rfl
  split
  next hl => rw [Counted, he, if_pos (beq_iff_eq.mpr hl), State.obj_bump_same]
  next hl => rw [he, if_neg (by simpa using hl)]

theorem countExc_blob (t : Nat) (c : Ctx) (e : Exc) (s : State) (k : Nat) :
    (countExc t c e s).blob k = if k = O.lastException t then lastBlob e.code c.level c.pc (BitVec.ofNat 64 e.addr) else s.blob k := by
  have hk : (if c.level == 0 then s.bump (O.kExceptions t) 1 else s).blob k = s.blob k := by
    rw [apply_ite (fun u : State => u.blob k), State.blob_bump, ite_self]
  have he : (countExc t c e s).blob k = ((if c.level == 0 then s.bump (O.kExceptions t) 1 else s).setBlob (O.lastException t)
      (lastBlob e.code c.level c.pc (BitVec.ofNat 64 e.addr))).blob k := by
    unfold countExc
    dsimp only
    rw [apply_ite (fun u : State => u.blob k), State.blob_setObj, State.blob_bump, ite_self]
  rw [he, ← hk]
  generalize (if c.level == 0 then s.bump (O.kExceptions t) 1 else s) = u
  split
  next h => rw [h, State.blob_setBlob_same]
  next h => exact State.blob_setBlob_ne _ _ _ _ h

/-- The context that an exception leaves. -/
def excCtx (c : Ctx) (code addr : Nat) : Ctx :=
  if c.level = 0 ∧ code ∉ [6, 7, 8, 10]
    then { c with level := 1, prev := 0, sEpc := c.pc, sCause := BitVec.ofNat 32 (256 + code), sAddr := BitVec.ofNat 64 addr,
                  pc := c.sTvec.setWidth 64 }
    else { c with level := 2, prev := c.level, fEpc := if code = 10 then c.pc + 4 else c.pc,
                  ended := if code = 10 then none else if code = 6 then some .dataLost else some .fault }

theorem enterExc_eq (t : Nat) (c : Ctx) (e : Exc) (s : State) : enterExc t c e s = putCtx t (excCtx c e.code e.addr) s := by
  have hf : takenAtF c.level e.code = true ↔ ¬(c.level = 0 ∧ e.code ∉ [6, 7, 8, 10]) := by
    simp [takenAtF]
    omega
  unfold enterExc excCtx
  split
  next h => rw [if_neg (hf.mp h)]; simp [fEnds]
  next h => rw [if_pos (by simpa using mt hf.mpr h), Nat.add_comm]

theorem excCtx_becomes {s s' : State} {t : Nat} {c : Ctx} {code addr : Nat} (h : SlotBecomes s s' t (excCtx c code addr)) :
    if c.level = 0 ∧ code ∉ [6, 7, 8, 10]
      then SlotBecomes s s' t { c with level := 1, prev := 0, sEpc := c.pc, sCause := BitVec.ofNat 32 (256 + code),
                                       sAddr := BitVec.ofNat 64 addr, pc := c.sTvec.setWidth 64 }
      else SlotBecomes s s' t { c with level := 2, prev := c.level, fEpc := if code = 10 then c.pc + 4 else c.pc,
                                       ended := if code = 10 then none else if code = 6 then some .dataLost else some .fault } := by
  unfold excCtx at h
  split
  next h0 => rwa [if_pos h0] at h
  next h0 => rwa [if_neg h0] at h

/-- An exception that no memory error stands behind. -/
theorem takeExc_raises (t : Nat) (c : Ctx) (e : Exc) (s : State) (h : e.code ≠ 6) : Raises s (takeExc t c e s) t c e.code e.addr := by
  have ht : takeExc t c e s = putCtx t (excCtx c e.code e.addr) (countExc t c e s) := by
    unfold takeExc noteExc
    rw [if_neg (by simpa using h), enterExc_eq]
  have hc := countExc_leaves t c e s
  have hb : SlotBecomes s (putCtx t (excCtx c e.code e.addr) (countExc t c e s)) t (excCtx c e.code e.addr) :=
    SlotBecomes.of_tiles (hc.1 .tiles (by decide)) (putCtx_becomes ..)
  rw [ht]
  refine ⟨excCtx_becomes hb, countExc_counted t c e s, ?_, fun k hk => ?_, ?_⟩
  · exact (countExc_blob t c e s _).trans (if_pos rfl)
  · exact (countExc_blob t c e s k).trans (if_neg hk)
  · exact Leaves.trans (Leaves.mono hc (by simp) (by simp)) (putCtx_leaves _ _ _ (by decide))

/-! ## General registers -/

theorem gReg_setG (c : Ctx) (n m : Nat) (w : Word) : gReg (setG c n w) m = if m = n ∧ n ≠ 0 then w else gReg c m := by
  unfold gReg setG
  by_cases hn : n = 0
  · simp [hn]
  · by_cases hm : m = n
    · simp [hn, hm]
    · simp only [if_neg hn, if_neg (fun h : m = n ∧ n ≠ 0 => hm h.1), Store.at_putD_ne 0 0 c.g n m w hm]

/-! ## Scalar values -/

theorem scalarOp_plain {op : ScalarOp} (h : ∀ l, op ≠ .jumpReg l) (t gd : Nat) (a b : Word) (c : Ctx) (s : State) :
    scalarOp t op gd a b c s = commitTo t (setG c gd (scalarValue op a b)) s := by
  cases op with
  | jumpReg l => exact absurd rfl (h l)
  | _ => rfl

theorem sll_toNat (a b : Word) : (scalarValue .sll a b).toNat = a.toNat * 2 ^ (b.toNat % 64) % 2 ^ 64 := by
  simp [scalarValue, BitVec.toNat_shiftLeft, Nat.shiftLeft_eq]

theorem srl_toNat (a b : Word) : (scalarValue .srl a b).toNat = a.toNat / 2 ^ (b.toNat % 64) := by
  simp [scalarValue, BitVec.toNat_ushiftRight, Nat.shiftRight_eq_div_pow]

theorem sra_toInt (a b : Word) : (scalarValue .sra a b).toInt = a.toInt / 2 ^ (b.toNat % 64) := by
  simp [scalarValue, BitVec.toInt_sshiftRight, Int.shiftRight_eq_div_pow]

theorem setLt_value (a b : Word) : scalarValue .setLt a b = if a.toInt < b.toInt then 1 else 0 := by
  simp [scalarValue, BitVec.slt]

theorem setLtu_value (a b : Word) : scalarValue .setLtu a b = if a.toNat < b.toNat then 1 else 0 := by
  simp [scalarValue, BitVec.ult]

theorem divu_toNat {a b : Word} (h : b ≠ 0) : (scalarValue (.div false) a b).toNat = a.toNat / b.toNat := by
  simp only [scalarValue, if_neg h, Bool.false_eq_true, if_false, BitVec.toNat_udiv]

/-- Of the two quotients that no number of the type is, the overflowing one is excluded. -/
theorem divs_toInt {a b : Word} (h : b ≠ 0) (ho : ¬ (a = BitVec.intMin 64 ∧ b = BitVec.allOnes 64)) :
    (scalarValue (.div true) a b).toInt = a.toInt.tdiv b.toInt := by
  have hv : scalarValue (.div true) a b = a.sdiv b := by simp only [scalarValue, if_neg h, if_neg ho, if_true]
  rw [hv]
  refine BitVec.toInt_sdiv_of_ne_or_ne a b ?_
  by_contra hc
  rw [not_or, not_not, not_not] at hc
  exact ho ⟨hc.1, hc.2.trans (by decide)⟩

/-! ## The wide immediate -/

/-- The word that a wide immediate leaves. -/
def wideWord (field : Nat) (keep : Bool) (imm : Nat) (w : Word) : Word :=
  BitVec.ofNat 64 ((if keep then w.toNat else 0) - (if keep then w.toNat else 0) / 2 ^ (16 * (field % 4)) % 2 ^ 16 * 2 ^ (16 * (field % 4))
    + imm % 2 ^ 16 * 2 ^ (16 * (field % 4)))

theorem execWideImmediate_eq (t gd field : Nat) (keep : Bool) (imm : Nat) (s : State) : execWideImmediate t gd field keep imm s
    = onTile t s fun c s => commitTo t (setG c gd (wideWord field keep imm (gReg c gd))) s := rfl

/-- A 16-bit field of a number of 64 bits that is replaced, beside the other fields. -/
theorem field_replaced {old field k : Nat} (imm : Nat) (ho : old < 2 ^ 64) (hf : field < 4) (hk : k < 4) :
    (old - old / 2 ^ (16 * field) % 2 ^ 16 * 2 ^ (16 * field) + imm % 2 ^ 16 * 2 ^ (16 * field)) % 2 ^ 64 / 2 ^ (16 * k) % 2 ^ 16
      = if k = field then imm % 2 ^ 16 else old / 2 ^ (16 * k) % 2 ^ 16 := by
  interval_cases field <;> interval_cases k <;> norm_num at ho ⊢ <;> omega

theorem wideWord_field {field k : Nat} (keep : Bool) (imm : Nat) (w : Word) (hf : field < 4) (hk : k < 4) :
    (wideWord field keep imm w).extractLsb' (16 * k) 16 = if k = field then BitVec.ofNat 16 imm
      else if keep = true then w.extractLsb' (16 * k) 16 else 0 := by
  have ho : (if keep then w.toNat else 0) < 2 ^ 64 := by split <;> omega
  refine BitVec.eq_of_toNat_eq ?_
  rw [BitVec.extractLsb'_toNat, wideWord, BitVec.toNat_ofNat, Nat.shiftRight_eq_div_pow, Nat.mod_eq_of_lt hf, field_replaced imm ho hf hk]
  split
  · exact (BitVec.toNat_ofNat ..).symm
  · cases keep <;> simp [BitVec.extractLsb'_toNat, Nat.shiftRight_eq_div_pow]

end Sys2Proof.Machine

open Sys2Proof Sys2Proof.Machine Sys2Proof.Safety

/-- Settles O34: an instruction of a running task is its function of the context, and the values of the operations are those of two's
complement. -/
theorem scalarResults : Obligations.ScalarResults := by
  unfold Obligations.ScalarResults
  refine ⟨fun t op gd ga gb s c h hj => ?_, fun t op gd ga imm s c h hj => ?_, fun t gd field keep imm s c h hf => ?_, fun t s c h => ?_,
    gReg_setG, fun a b => ⟨sll_toNat a b, srl_toNat a b, sra_toInt a b, setLt_value a b, setLtu_value a b, divu_toNat, divs_toInt⟩⟩
  · exact ⟨_, (onTile_slot h _).trans (congrArg _ (scalarOp_plain hj ..)), commitTo_commits ..⟩
  · exact ⟨_, (onTile_slot h _).trans (congrArg _ (scalarOp_plain hj ..)), commitTo_commits ..⟩
  · refine ⟨_, wideWord field keep imm (gReg c gd), (execWideImmediate_eq ..).trans (onTile_slot h _), commitTo_commits .., ?_, fun k hk hne => ?_⟩
    · exact (wideWord_field keep imm _ hf hf).trans (if_pos rfl)
    · exact (wideWord_field keep imm _ hf hk).trans (if_neg hne)
  · exact ⟨_, onTile_slot h _, commitTo_commits ..⟩
end

section
/-! SUPPORT. Branch conditions of tile programs (11 R378). -/
namespace Sys2Proof.Machine
open Sys2Proof.Safety

theorem condHolds_compares (a b : Word) (v : BitVec 32) : condHolds .eq a b v = some (decide (a = b)) ∧ condHolds .ne a b v = some (decide (a ≠ b))
    ∧ condHolds .lt a b v = some (decide (a.toInt < b.toInt)) ∧ condHolds .ge a b v = some (decide (b.toInt ≤ a.toInt))
    ∧ condHolds .ltu a b v = some (decide (a.toNat < b.toNat)) ∧ condHolds .geu a b v = some (decide (b.toNat ≤ a.toNat)) := by
  refine ⟨?_, ?_, ?_, ?_, ?_, ?_⟩ <;> simp [condHolds, BitVec.slt, BitVec.ult, bne, beq_eq_decide]
  · rw [← decide_not, decide_eq_decide, not_le]
  · rw [← decide_not, decide_eq_decide, not_le]

theorem condHolds_flags (a b : Word) (v : BitVec 32) : condHolds .empty a b v = some (v.getLsbD 3)
    ∧ condHolds .notEmpty a b v = some (!v.getLsbD 3) ∧ condHolds .head a b v = some (v.getLsbD 4)
    ∧ condHolds .tail a b v = some (v.getLsbD 5) := ⟨rfl, rfl, rfl, rfl⟩

/-- What a branch does to a running context. -/
def branchStep (t : Nat) (cond : Cond) (ga gb : Nat) (offset : Int) (c : Ctx) (s : State) : State :=
  match condHolds cond (gReg c ga) (gReg c gb) c.vstat with
  | some b => branchTo t b offset c s
  | none => takeExc t c illegal s

theorem execBranch_eq (t : Nat) (cond : Cond) (ga gb : Nat) (offset : Int) (s : State) :
    exec (.branch t cond ga gb offset) s = onTile t s (branchStep t cond ga gb offset) := rfl

theorem execBranch_defined {t : Nat} {cond : Cond} {ga gb : Nat} {offset : Int} {s : State} {c : Ctx} {b : Bool} (h : OnSlot s t c)
    (hb : condHolds cond (gReg c ga) (gReg c gb) c.vstat = some b) : exec (.branch t cond ga gb offset) s
      = .next (putCtx t { c with pc := if b = true then c.pc + BitVec.ofInt 64 (4 * offset) else c.pc + 4 } s) := by
  rw [execBranch_eq, onTile_slot h, branchStep, hb]
  cases b <;> rfl

end Sys2Proof.Machine

open Sys2Proof Sys2Proof.Machine Sys2Proof.Safety

/-- Settles O35: each transfer of control replaces the pc of the running context, and an undefined condition is an exception. -/
theorem controlFlow : Obligations.ControlFlow := by
  unfold Obligations.ControlFlow
  refine ⟨fun t cond ga gb offset s c b h hb => ?_, fun t k ga gb offset s c h => ?_, fun t link offset s c h => ?_,
    fun t link gd ga gb s c h => ?_, fun t link gd ga imm s c h => ?_, fun a b v => ?_⟩
  · exact ⟨_, execBranch_defined h hb, putCtx_leaves _ _ _ (by decide), putCtx_becomes ..⟩
  · exact ⟨_, (execBranch_eq ..).trans (onTile_slot h _), takeExc_raises t c illegal s (by decide)⟩
  · exact ⟨_, onTile_slot h _, putCtx_leaves _ _ _ (by decide), putCtx_becomes ..⟩
  · exact ⟨_, onTile_slot h _, putCtx_leaves _ _ _ (by decide), putCtx_becomes ..⟩
  · exact ⟨_, onTile_slot h _, putCtx_leaves _ _ _ (by decide), putCtx_becomes ..⟩
  · obtain ⟨h1, h2, h3, h4, h5, h6⟩ := condHolds_compares a b v
    exact ⟨h1, h2, h3, h4, h5, h6, condHolds_flags a b v⟩
end

section
/-! SUPPORT. Control registers, levels and the end of a task (11 R366, R368, R393 to R396). -/
namespace Sys2Proof.Machine
open Sys2Proof.Safety

/-- What an access of a control register does to a running context. -/
def accessControl (t : Nat) (write : Bool) (g number : Nat) (c : Ctx) (s : State) : State :=
  match readControl s t c number with
  | none => takeExc t c illegal s
  | some v =>
    if write then
      if number == 0x000 && vstatRnd ((gReg c g).setWidth 32) == 3 then takeExc t c illegal s
      else if decide (c.level < controlLevel number) || !controlWritable number then takeExc t c privilege s
      else commitTo t (writeControl c number (gReg c g)) s
    else if c.level < controlLevel number then takeExc t c privilege s
    else commitTo t (setG c g v) (if number == 0x003 then { s with freeCtr := s.freeCtr + 1 } else s)

theorem execControl_eq (t : Nat) (write : Bool) (g number : Nat) (s : State) :
    exec (.controlRegisterAccess t write g number) s = onTile t s (accessControl t write g number) := rfl

theorem execControl_slot {s : State} {t : Nat} {c : Ctx} (h : OnSlot s t c) (write : Bool) (g number : Nat) :
    exec (.controlRegisterAccess t write g number) s = .next (accessControl t write g number c s) :=
  (execControl_eq ..).trans (onTile_slot h _)

theorem accessControl_unlisted {s : State} {t number : Nat} {c : Ctx} (write : Bool) (g : Nat) (h : readControl s t c number = none) :
    accessControl t write g number c s = takeExc t c illegal s := by
  simp only [accessControl, h]

theorem controlLevel_pos {n : Nat} (h : 0x010 ≤ n) : controlLevel n = 1 := if_neg (by omega)

/-- A control register that is listed below 0x010 is one of the four that K may access. -/
theorem controlLevel_listed {s : State} {t number : Nat} {c : Ctx} (hr : readControl s t c number ≠ none)
    (hl : number < 0x010 ∨ 1 ≤ c.level) : ¬c.level < controlLevel number := by
  rcases hl with hn | hl
  · have h4 : number ≤ 0x003 := by
      by_contra hlt
      refine hr ?_
      interval_cases number <;> simp_all [readControl]
    simp [controlLevel, h4]
  · unfold controlLevel
    split <;> omega

theorem accessControl_level {s : State} {t number : Nat} {c : Ctx} (write : Bool) (g : Nat) (hl : c.level = 0) (hn : 0x010 ≤ number)
    (hr : readControl s t c number ≠ none) : accessControl t write g number c s = takeExc t c privilege s := by
  obtain ⟨v, hv⟩ := Option.ne_none_iff_exists'.mp hr
  have h0 : (number == 0x000) = false := by simp; omega
  cases write <;> simp [accessControl, hv, hl, controlLevel_pos hn, h0]

theorem accessControl_read {s : State} {t number : Nat} {c : Ctx} {w : Word} (g : Nat) (hr : readControl s t c number = some w)
    (h3 : number ≠ 0x003) (hl : number < 0x010 ∨ 1 ≤ c.level) : accessControl t false g number c s = commitTo t (setG c g w) s := by
  have hlv : ¬c.level < controlLevel number := controlLevel_listed (hr ▸ Option.some_ne_none w) hl
  simp [accessControl, hr, hlv, h3]

/-- The control registers that are RW are listed. -/
theorem readControl_writable {number : Nat} (s : State) (t : Nat) (c : Ctx) (h : number ∈ [0x000, 0x001, 0x010, 0x011, 0x020, 0x023, 0x024]) :
    readControl s t c number ≠ none ∧ controlWritable number = true := by
  simp only [List.mem_cons, List.not_mem_nil, or_false] at h
  rcases h with rfl | rfl | rfl | rfl | rfl | rfl | rfl <;> exact ⟨Option.some_ne_none _, rfl⟩

theorem accessControl_write {s : State} {t number : Nat} {c : Ctx} {g : Nat} (h : number ∈ [0x000, 0x001, 0x010, 0x011, 0x020, 0x023, 0x024])
    (hl : number < 0x010 ∨ 1 ≤ c.level) (h0 : number = 0x000 → (gReg c g).extractLsb' 1 2 ≠ 3) :
    accessControl t true g number c s = commitTo t (writeControl c number (gReg c g)) s := by
  obtain ⟨hr, hw⟩ := readControl_writable s t c h
  have hlv := controlLevel_listed hr hl
  obtain ⟨v, hv⟩ := Option.ne_none_iff_exists'.mp hr
  have hrnd : (number == 0x000 && vstatRnd ((gReg c g).setWidth 32) == 3) = false := by
    have hw (w : Word) : vstatRnd (w.setWidth 32) = (w.extractLsb' 1 2).toNat := by
      simp only [vstatRnd, BitVec.extractLsb'_toNat, BitVec.toNat_setWidth, Nat.shiftRight_eq_div_pow]
      omega
    by_cases hn : number = 0x000
    · have hne := fun h3 : vstatRnd ((gReg c g).setWidth 32) = 3 => h0 hn (BitVec.eq_of_toNat_eq ((hw _).symm.trans h3))
      simpa [hn] using hne
    · simp [hn]
  simp [accessControl, hv, hrnd, hlv, hw]

/-- What a return does to a running context. -/
def eretStep (t : Nat) (c : Ctx) (s : State) : State :=
  if c.level == 0 then takeExc t c privilege s
  else if c.level == 1 then putCtx t { c with level := 0, prev := 1, pc := c.sEpc } s
  else putCtx t { c with level := c.prev, prev := 2, pc := c.fEpc } s

theorem execEret_eq (t : Nat) (s : State) : exec (.eret t) s = onTile t s (eretStep t) := rfl

/-- The state in which a task has ended by TEND. -/
def tendStep (t g : Nat) (c : Ctx) (s : State) : State :=
  putCtx t { nextPc c with ended := some (tendStatus (gReg c g) s.freeCtr) }
    { s with freeCtr := s.freeCtr + if gReg c g = 0 ∨ gReg c g = 1 then 0 else 1 }

theorem execTend_eq (t g : Nat) (s : State) : exec (.tend t g) s = onTile t s (tendStep t g) := rfl

theorem writeControl_eq {number : Nat} (c : Ctx) (w : Word) (h : number ∈ [0x000, 0x001, 0x010, 0x011, 0x020, 0x023, 0x024]) :
    nextPc (writeControl c number w) = if number = 0x000 then { c with pc := c.pc + 4, vstat := w.setWidth 32 &&& 0x03FF003F#32 }
      else if number = 0x001 then { c with pc := c.pc + 4, ffr := w }
      else if number = 0x010 then { c with pc := c.pc + 4, kLo := w.setWidth 32 }
      else if number = 0x011 then { c with pc := c.pc + 4, kHi := w.setWidth 32 }
      else if number = 0x020 then { c with pc := c.pc + 4, sEpc := w }
      else if number = 0x023 then { c with pc := c.pc + 4, sScratch := w }
      else { c with pc := c.pc + 4, sTvec := w.setWidth 32 } := by
  simp only [List.mem_cons, List.not_mem_nil, or_false] at h
  rcases h with rfl | rfl | rfl | rfl | rfl | rfl | rfl <;> rfl

end Sys2Proof.Machine

open Sys2Proof Sys2Proof.Machine Sys2Proof.Safety

/-- Settles O38: calls are exceptions, returns and control registers act on the running context, and TEND records how it ended. -/
theorem levelsAndExceptions : Obligations.LevelsAndExceptions := by
  unfold Obligations.LevelsAndExceptions
  refine ⟨fun t s c h => ⟨?_, ?_, ?_⟩, fun t s c h => ?_, fun t write g number s c h => ⟨fun hr => ?_, fun hl hn hr => ?_⟩,
    fun t g number w s c h hr h3 hl => ?_, fun t g number s c h hm hl h0 => ?_, fun t g s c h => ?_⟩
  · exact ⟨_, onTile_slot h _, takeExc_raises t c ⟨9, 0⟩ s (by decide)⟩
  · exact ⟨_, onTile_slot h _, takeExc_raises t c ⟨10, 0⟩ s (by decide)⟩
  · exact ⟨_, onTile_slot h _, takeExc_raises t c ⟨11, 0⟩ s (by decide)⟩
  · refine ⟨_, (execEret_eq ..).trans (onTile_slot h _), ?_⟩
    split
    next h0 =>
      have hs : eretStep t c s = takeExc t c privilege s := if_pos (beq_iff_eq.mpr h0)
      exact hs ▸ takeExc_raises t c privilege s (by decide)
    next h0 =>
      split
      next h1 =>
        have hs : eretStep t c s = putCtx t { c with level := 0, prev := 1, pc := c.sEpc } s := by simp [eretStep, h1]
        exact hs ▸ ⟨putCtx_becomes .., putCtx_leaves _ _ _ (by decide)⟩
      next h1 =>
        have hs : eretStep t c s = putCtx t { c with level := c.prev, prev := 2, pc := c.fEpc } s := by simp [eretStep, h0, h1]
        exact hs ▸ ⟨putCtx_becomes .., putCtx_leaves _ _ _ (by decide)⟩
  · exact ⟨_, (execControl_slot h ..).trans (congrArg _ (accessControl_unlisted _ _ hr)), takeExc_raises t c illegal s (by decide)⟩
  · exact ⟨_, (execControl_slot h ..).trans (congrArg _ (accessControl_level _ _ hl hn hr)), takeExc_raises t c privilege s (by decide)⟩
  · exact ⟨_, (execControl_slot h ..).trans (congrArg _ (accessControl_read _ hr h3 hl)), commitTo_commits ..⟩
  · refine ⟨_, (execControl_slot h ..).trans (congrArg _ (accessControl_write hm hl h0)), putCtx_leaves _ _ _ (by decide), ?_⟩
    rw [← writeControl_eq c _ hm]
    exact putCtx_becomes ..
  · refine ⟨_, tendStatus (gReg c g) s.freeCtr, (execTend_eq ..).trans (onTile_slot h _), SlotBecomes.of_tiles rfl (putCtx_becomes ..), fun h0 => if_pos h0,
      fun h1 => ?_, ?_⟩
    · rw [h1]; rfl
    · exact Leaves.of_dict (fun p hp => by cases p <;> simp_all [Part.same, tendStep, putCtx]) rfl
end

section
/-! SUPPORT. Elements of vectors and predicates (11 R364, R365, R369 to R376): what a packed register reads, and what a write of one leaves. -/
namespace Sys2Proof.Machine
open Sys2Proof.Safety

/-! ## Elements of a code -/

theorem elemBytes_pos (et : ElemType) : 0 < elemBytes et := by cases et <;> decide

theorem laneOf_lt (b code i : Nat) : laneOf b code i < 2 ^ (8 * b) := Nat.mod_lt _ (by positivity)

theorem laneOf_cons_zero (b r p : Nat) (hr : r < 2 ^ (8 * b)) : laneOf b (r + 2 ^ (8 * b) * p) 0 = r := by
  simp [laneOf, Nat.mod_eq_of_lt hr]

theorem laneOf_cons_succ (b r p i : Nat) (hr : r < 2 ^ (8 * b)) : laneOf b (r + 2 ^ (8 * b) * p) (i + 1) = laneOf b p i := by
  unfold laneOf
  rw [Nat.mul_succ, Nat.add_comm (8 * b * i), pow_add, ← Nat.div_div_eq_div_mul, Nat.add_mul_div_left _ _ (by positivity),
    Nat.div_eq_of_lt hr, Nat.zero_add]

theorem laneOf_packLanes (b : Nat) (l : List Nat) (i : Nat) : laneOf b (packLanes b l) i = l.getD i 0 % 2 ^ (8 * b) := by
  induction l generalizing i with
  | nil => simp [packLanes, laneOf]
  | cons x l ih =>
    have hr := Nat.mod_lt x (show 0 < 2 ^ (8 * b) by positivity)
    cases i with
    | zero => exact laneOf_cons_zero b _ _ hr
    | succ i => exact (laneOf_cons_succ b _ _ i hr).trans (ih i)

theorem packLanes_lt (b : Nat) (l : List Nat) : packLanes b l < 2 ^ (8 * b * l.length) := by
  induction l with
  | nil => simp [packLanes]
  | cons x l ih =>
    have hr := Nat.mod_lt x (show 0 < 2 ^ (8 * b) by positivity)
    calc packLanes b (x :: l) < 2 ^ (8 * b) * (packLanes b l + 1) := by rw [packLanes]; nlinarith
      _ ≤ 2 ^ (8 * b) * 2 ^ (8 * b * l.length) := Nat.mul_le_mul_left _ ih
      _ = 2 ^ (8 * b * (x :: l).length) := by rw [← pow_add, List.length_cons, Nat.mul_succ, Nat.add_comm]

/-! ## Vector registers -/

/-- The bits of a vector register. -/
def vBits (long : Bool) : Nat := if long then 4096 else 128

theorem vReg_setV_same (c : Ctx) (long : Bool) (n code : Nat) : vReg (setV c long n code) long n = code % 2 ^ vBits long := by
  cases long
  · simp only [vReg, setV, vBits, Bool.false_eq_true, if_false, Store.at_putD_same, BitVec.toNat_ofNat]
  · simp only [vReg, setV, vBits, if_true, Store.at_putD_same, BitVec.toNat_ofNat]

theorem vReg_setV_ne (c : Ctx) (long : Bool) {n m : Nat} (code : Nat) (h : m ≠ n) : vReg (setV c long n code) long m = vReg c long m := by
  cases long <;> simp [vReg, setV, Store.at_putD_ne _ _ _ _ _ _ h]

/-- The elements of an operand fill at most its bytes. -/
theorem laneCount_bytes {s : State} {t : Nat} (hvl : s.vl t ≤ 4096) (long : Bool) (et : ElemType) :
    8 * elemBytes et * laneCount s t long et ≤ vBits long := by
  have h : elemBytes et * laneCount s t long et ≤ vecBytes s t long := Nat.mul_div_le _ _
  have hv : 8 * vecBytes s t long ≤ vBits long := by
    cases long
    · simp [vecBytes, vBits]
    · simp only [vecBytes, vBits, if_true]; omega
  rw [Nat.mul_assoc]
  omega

/-- An element of a register that takes a list of elements which fits it. -/
theorem laneOf_setV (c : Ctx) {long : Bool} {b : Nat} {l : List Nat} (n : Nat) (h : 8 * b * l.length ≤ vBits long) (i : Nat) :
    laneOf b (vReg (setV c long n (packLanes b l)) long n) i = l.getD i 0 % 2 ^ (8 * b) := by
  rw [vReg_setV_same, Nat.mod_eq_of_lt (lt_of_lt_of_le (packLanes_lt b l) (Nat.pow_le_pow_right (by decide) h)), laneOf_packLanes]

/-! ## Merges and vector results -/

theorem mergeLanes_length {p : List Bool} {new old : List Nat} (hp : p.length = new.length) (ho : old.length = new.length) :
    (mergeLanes p new old).length = new.length := by
  induction new generalizing p old with
  | nil => cases p <;> cases old <;> simp_all [mergeLanes]
  | cons x new ih => cases p <;> cases old <;> simp_all [mergeLanes]

theorem mergeLanes_getD {p : List Bool} {new old : List Nat} (hp : p.length = new.length) (ho : old.length = new.length) (i : Nat) :
    (mergeLanes p new old).getD i 0 = if p.getD i false = true then new.getD i 0 else old.getD i 0 := by
  induction new generalizing p old i with
  | nil => cases p <;> cases old <;> simp_all [mergeLanes]
  | cons x new ih =>
    cases p with
    | nil => simp at hp
    | cons a p =>
      cases old with
      | nil => simp at ho
      | cons y old =>
        cases i with
        | zero => cases a <;> rfl
        | succ i =>
          simp only [mergeLanes, List.getD_cons_succ]
          exact ih (by simpa using hp) (by simpa using ho) i

theorem lanes_length (c : Ctx) (long : Bool) (n count b : Nat) : (lanes c long n count b).length = count := by simp [lanes]

theorem lanes_getD (c : Ctx) (long : Bool) (n b : Nat) {count i : Nat} (h : i < count) :
    (lanes c long n count b).getD i 0 = laneOf b (vReg c long n) i := by
  simp [lanes, List.getD_eq_getElem?_getD, List.getElem?_map, List.getElem?_range h]

/-- A vector result whose elements fit their register is written element by element. -/
theorem writeLanes_laneWise (c : Ctx) (long : Bool) (d b : Nat) (active : List Bool) (r : List (Nat × Bool))
    (hp : active.length = r.length) (h : 8 * b * r.length ≤ vBits long) :
    LaneWise c (nextPc (writeLanes c long d b active r)) long d b active r := by
  have ho : (lanes c long d r.length b).length = (r.map (·.1)).length := by simp [lanes_length]
  have hp' : active.length = (r.map (·.1)).length := by simpa using hp
  have hl : (mergeLanes active (r.map (·.1)) (lanes c long d r.length b)).length = r.length := by
    simpa using mergeLanes_length hp' ho
  refine ⟨fun i hi => ?_, fun m hm => ?_, ?_, ?_⟩
  · have hv : vReg (nextPc (writeLanes c long d b active r)) long d
        = vReg (setV c long d (packLanes b (mergeLanes active (r.map (·.1)) (lanes c long d r.length b)))) long d := rfl
    rw [hv, laneOf_setV c d (by rw [hl]; exact h), mergeLanes_getD hp' ho]
    split
    · simp [List.getD_eq_getElem?_getD, List.getElem?_map, List.getElem?_eq_getElem hi]
    · rw [lanes_getD c long d b hi, Nat.mod_eq_of_lt (laneOf_lt ..)]
  · exact vReg_setV_ne c long _ hm
  · cases long <;> rfl
  · cases long <;> rfl

theorem activeOf_length (c : Ctx) (pg count b : Nat) : (activeOf c pg count b).length = count := by simp [activeOf]

theorem activeOf_getElem? (c : Ctx) (pg b : Nat) {count i : Nat} (h : i < count) :
    (activeOf c pg count b)[i]? = some (isActive b (pReg c pg) i) := by
  simp [activeOf, List.getElem?_map, List.getElem?_range h]

theorem lanes_getElem? (c : Ctx) (long : Bool) (n b : Nat) {count i : Nat} (h : i < count) :
    (lanes c long n count b)[i]? = some (laneOf b (vReg c long n) i) := by
  simp [lanes, List.getElem?_map, List.getElem?_range h]

theorem zipLanes_map {α : Type} (f : Nat → Nat → Nat × Bool) (g h : α → Nat) (l : List α) :
    zipLanes f (l.map g) (l.map h) = l.map fun i => f (g i) (h i) := by
  induction l with
  | nil => rfl
  | cons a l ih => simp [zipLanes, ih]

theorem zipLanes3_map {α : Type} (f : Nat → Nat → Nat → Nat × Bool) (e g h : α → Nat) (l : List α) :
    zipLanes3 f (l.map e) (l.map g) (l.map h) = l.map fun i => f (e i) (g i) (h i) := by
  induction l with
  | nil => rfl
  | cons a l ih => simp [zipLanes3, ih]

/-! ## vstat after a write of a predicate -/

theorem vstatOf_bits (start rnd : Nat) (tail head empty sat : Bool) : vstatEmpty (vstatOf start tail head empty rnd sat) = empty
    ∧ vstatHead (vstatOf start tail head empty rnd sat) = head ∧ vstatTail (vstatOf start tail head empty rnd sat) = tail := by
  have hb (n k : Nat) (hk : k < 32) : (BitVec.ofNat 32 n).getLsbD k = decide (n / 2 ^ k % 2 = 1) := by
    rw [BitVec.getLsbD_ofNat, Nat.testBit_eq_decide_div_mod_eq]
    simp [hk]
  refine ⟨?_, ?_, ?_⟩ <;>
    (simp only [vstatEmpty, vstatHead, vstatTail, vstatOf, hb _ 3 (by decide), hb _ 4 (by decide), hb _ 5 (by decide)]
     cases tail <;> cases head <;> cases empty <;> cases sat <;> simp <;> omega)

/-! ## Predicates -/

theorem packPred_lt (b : Nat) (l : List Bool) : packPred b l < 2 ^ (b * l.length) := by
  induction l with
  | nil => simp [packPred]
  | cons x l ih =>
    have hx : (if x then 2 ^ b - 1 else 0) < 2 ^ b := by
      have : 0 < 2 ^ b := by positivity
      split <;> omega
    calc packPred b (x :: l) < 2 ^ b * (packPred b l + 1) := by rw [packPred]; nlinarith
      _ ≤ 2 ^ b * 2 ^ (b * l.length) := Nat.mul_le_mul_left _ ih
      _ = 2 ^ (b * (x :: l).length) := by rw [← pow_add, List.length_cons, Nat.mul_succ, Nat.add_comm]

theorem bitOf_add_mul (x y : Nat) {j k : Nat} (h : j < k) : bitOf (x + y * 2 ^ k) j = bitOf x j := by
  obtain ⟨d, rfl⟩ : ∃ d, k = j + (d + 1) := ⟨k - j - 1, by omega⟩
  unfold bitOf
  rw [pow_add, pow_succ, ← Nat.mul_assoc, ← Nat.mul_assoc, Nat.mul_comm y, Nat.mul_assoc, Nat.mul_assoc, Nat.add_mul_div_left _ _ (by positivity),
    ← Nat.mul_assoc, Nat.add_mul_mod_self_right]

theorem bitOf_mod {x j k : Nat} (h : j < k) : bitOf (x % 2 ^ k) j = bitOf x j := by
  conv_rhs => rw [← Nat.mod_add_div' x (2 ^ k)]
  exact (bitOf_add_mul _ _ h).symm

theorem isActive_packPred {b : Nat} (hb : 0 < b) (l : List Bool) {i : Nat} (h : i < l.length) :
    isActive b (packPred b l) i = l.getD i false := by
  induction l generalizing i with
  | nil => simp at h
  | cons x l ih =>
    cases i with
    | zero =>
      have he : packPred b (x :: l) = (if x then 2 ^ b - 1 else 0) + packPred b l * 2 ^ b := by rw [packPred, Nat.mul_comm]
      rw [isActive, Nat.mul_zero, he, bitOf_add_mul _ _ hb]
      obtain ⟨k, rfl⟩ : ∃ k, b = k + 1 := ⟨b - 1, by omega⟩
      cases x
      · simp [bitOf]
      · have : 2 ^ (k + 1) - 1 = 1 + (2 ^ k - 1) * 2 := by
          have : 0 < 2 ^ k := by positivity
          rw [pow_succ]; omega
        simp [bitOf, this]
    | succ i =>
      have hx : (if x then 2 ^ b - 1 else 0) < 2 ^ b := by
        have : 0 < 2 ^ b := by positivity
        split <;> omega
      rw [List.getD_cons_succ, ← ih (by simpa using h)]
      unfold isActive bitOf
      rw [packPred, Nat.mul_succ, Nat.add_comm (b * i), pow_add, ← Nat.div_div_eq_div_mul, Nat.add_mul_div_left _ _ (by positivity),
        Nat.div_eq_of_lt hx, Nat.zero_add]

theorem pReg_setPred_ne (c : Ctx) {n m : Nat} (b : Nat) (l : List Bool) (h : m ≠ n) : pReg (setPred c n b l) m = pReg c m := by
  unfold pReg setPred
  by_cases hn : n = 0
  · simp [hn]
  · simp [hn, Store.at_putD_ne _ _ _ _ _ _ h]

/-- An element of a predicate that takes a list of states which fits it. -/
theorem isActive_setPred (c : Ctx) {n b : Nat} {l : List Bool} (hn : n ≠ 0) (hb : 0 < b) (hl : b * l.length ≤ 512) {i : Nat} (h : i < l.length) :
    isActive b (pReg (setPred c n b l) n) i = l.getD i false := by
  have hi : b * i < b * l.length := Nat.mul_lt_mul_of_pos_left h hb
  have he : pReg (setPred c n b l) n = (packPred b l + pReg c n / 2 ^ (b * l.length) * 2 ^ (b * l.length)) % 2 ^ 512 := by
    rw [pReg, if_neg hn, setPred, if_neg hn]
    simp only [Store.at_putD_same, BitVec.toNat_ofNat]
  rw [he, isActive, bitOf_mod (by omega), bitOf_add_mul _ _ hi]
  exact isActive_packPred hb l h

theorem activeOf_setPred (c : Ctx) {n b : Nat} {l : List Bool} (hn : n ≠ 0) (hb : 0 < b) (hl : b * l.length ≤ 512) :
    activeOf (setPred c n b l) n l.length b = l := by
  refine List.ext_getElem? fun i => ?_
  by_cases hi : i < l.length
  · rw [activeOf_getElem? _ _ _ hi, isActive_setPred c hn hb hl hi, List.getD_eq_getElem?_getD, List.getElem?_eq_getElem hi]
    rfl
  · rw [List.getElem?_eq_none (by rw [activeOf_length]; omega), List.getElem?_eq_none (by omega)]

theorem setPred_flags (c : Ctx) (n b : Nat) (l : List Bool) : vstatEmpty (setPred c n b l).vstat = !l.any id
    ∧ vstatHead (setPred c n b l).vstat = l.headD false := by
  have he : (setPred c n b l).vstat = vstatSetPred l c.vstat := by unfold setPred; split <;> rfl
  obtain ⟨h1, h2, -⟩ := vstatOf_bits (vstatStart c.vstat) (vstatRnd c.vstat) (l.getLastD false) (l.headD false) (!l.any id) (vstatSat c.vstat)
  rw [he]
  exact ⟨h1, h2⟩

theorem setPred_ctx (c : Ctx) (n b : Nat) (l : List Bool) : nextPc (setPred c n b l)
    = { c with pc := c.pc + 4, p := (setPred c n b l).p, vstat := (setPred c n b l).vstat } := by
  unfold setPred nextPc
  split <;> rfl

/-- The states of a long vector's elements fit a predicate. -/
theorem predicate_fits {s : State} {t : Nat} (hvl : s.vl t ≤ 4096) (long : Bool) (et : ElemType) :
    elemBytes et * laneCount s t long et ≤ 512 := by
  have h := laneCount_bytes hvl long et
  have hv : vBits long ≤ 4096 := by cases long <;> decide
  rw [Nat.mul_assoc] at h
  omega

theorem compareLanes_getElem? (op : VecOp) (et : ElemType) (ctr : Nat) {pg old : List Bool} {x y : List Nat} {i : Nat} {p o r : Bool}
    {a b : Nat} (hp : pg[i]? = some p) (ho : old[i]? = some o) (hx : x[i]? = some a) (hy : y[i]? = some b) (hr : compareElem op et a b = some r) :
    (compareLanes op et ctr pg old x y)[i]? = some (if p = true then r else o) := by
  induction i generalizing pg old x y with
  | zero => cases pg <;> cases old <;> cases x <;> cases y <;> simp_all [compareLanes]
  | succ i ih =>
    cases pg <;> cases old <;> cases x <;> cases y <;> simp_all [compareLanes]

theorem compareLanes_length (op : VecOp) (et : ElemType) (ctr : Nat) {pg old : List Bool} {x y : List Nat} (ho : old.length = pg.length)
    (hx : x.length = pg.length) (hy : y.length = pg.length) : (compareLanes op et ctr pg old x y).length = pg.length := by
  induction pg generalizing old x y with
  | nil => rfl
  | cons p pg ih => cases old <;> cases x <;> cases y <;> simp_all [compareLanes]

theorem predLanes_map (op : PredOp) {α : Type} (g h : α → Bool) (l : List α) :
    predLanes op (l.map g) (l.map h) = l.map fun i => (match op with
      | .pand => g i && h i
      | .por => g i || h i
      | .pxor => g i != h i
      | .pnot => !g i
      | .count => g i) := by
  induction l with
  | nil => rfl
  | cons a l ih => simp only [List.map_cons, predLanes, ih] <;> cases op <;> rfl

theorem pickLanes_map {α : Type} (g : α → Bool) (h : α → Nat) (l : List α) : pickLanes (l.map g) (l.map h) = (l.filter g).map h := by
  induction l with
  | nil => rfl
  | cons a l ih => cases hg : g a <;> simp [pickLanes, hg, ih]

/-! ## The instructions -/

/-- A commit in a state that a free value was drawn from. -/
theorem commitTo_drawn (t : Nat) (c : Ctx) (s : State) (n : Nat) :
    SlotBecomes s (commitTo t c { s with freeCtr := n }) t (nextPc c) ∧ Leaves s (commitTo t c { s with freeCtr := n }) [.tiles, .freeCtr] [] :=
  ⟨SlotBecomes.of_tiles rfl (putCtx_becomes ..), Leaves.of_dict (fun p hp => by cases p <;> simp_all [Part.same, commitTo, putCtx]) rfl⟩

theorem vFieldsOk_parts {f : VFields} {d a b : Bool} (h : vFieldsOk f true true true = true) : vFieldsOk f d a b = true ∧ f.b < 32 ∧ f.d < 32 := by
  simp only [vFieldsOk, vNumOk, Bool.and_eq_true, decide_eq_true_eq, Bool.not_true, Bool.false_or] at h
  obtain ⟨⟨⟨⟨h1, h2⟩, hd⟩, ha⟩, hb⟩ := h
  refine ⟨by simp [vFieldsOk, vNumOk, h1, h2, hd, ha, hb], ?_, ?_⟩
  · cases hl : f.long <;> simp [hl] at hb <;> omega
  · cases hl : f.long <;> simp [hl] at hd <;> omega

/-- What a class 6 instruction that is no compare does. -/
theorem execVectorArithmetic_lanes {t : Nat} {op : VecOp} {sat : Bool} {f : VFields} {s : State} {c : Ctx} (h : OnSlot s t c)
    (hop : isCompare op = false) (hf : vFieldsOk f true true true = true) : exec (.vectorArithmetic t op sat f) s
      = .next (commitTo t (writeLanes c f.long f.d (elemBytes f.et) (activeOf c f.pg (laneCount s t f.long f.et) (elemBytes f.et))
          ((List.range (laneCount s t f.long f.et)).map fun i => arithElem op sat (vstatRnd c.vstat) f.et
            (laneOf (elemBytes f.et) (vReg c f.long f.a) i) (laneOf (elemBytes f.et) (vReg c f.long f.b) i))) s) := by
  rw [← zipLanes_map]
  show execVectorArithmetic t op sat f s = _
  rw [execVectorArithmetic, onTile_slot h]
  simp [hop, hf, lanes]

/-- What a compare into a predicate register does. -/
theorem execVectorArithmetic_compare {t : Nat} {op : VecOp} {sat : Bool} {f : VFields} {s : State} {c : Ctx} (h : OnSlot s t c)
    (hop : isCompare op = true) (hf : vFieldsOk f false true true = true) (hd : f.d < 8) : exec (.vectorArithmetic t op sat f) s
      = .next (commitTo t (setPred c f.d (elemBytes f.et) (compareLanes op f.et s.freeCtr
          (activeOf c f.pg (laneCount s t f.long f.et) (elemBytes f.et)) (activeOf c f.d (laneCount s t f.long f.et) (elemBytes f.et))
          (lanes c f.long f.a (laneCount s t f.long f.et) (elemBytes f.et)) (lanes c f.long f.b (laneCount s t f.long f.et) (elemBytes f.et))))
        { s with freeCtr := s.freeCtr + laneCount s t f.long f.et }) := by
  show execVectorArithmetic t op sat f s = _
  rw [execVectorArithmetic, onTile_slot h]
  simp [hop, hf, hd]

theorem execVectorMultiply_lanes {t : Nat} {op : MulOp} {sat : Bool} {f : VFields} {s : State} {c : Ctx} (h : OnSlot s t c)
    (hop : op ∈ [.mul, .mac, .cmul, .cmulConj]) (hm : mulDefined op f.et = true) (hf : vFieldsOk f true true true = true) :
    exec (.vectorMultiply t op sat f) s
      = .next (commitTo t (writeLanes c f.long f.d (elemBytes f.et) (activeOf c f.pg (laneCount s t f.long f.et) (elemBytes f.et))
          ((List.range (laneCount s t f.long f.et)).map fun i => mulElem op sat (vstatRnd c.vstat) f.et
            (laneOf (elemBytes f.et) (vReg c f.long f.d) i) (laneOf (elemBytes f.et) (vReg c f.long f.a) i)
            (laneOf (elemBytes f.et) (vReg c f.long f.b) i))) s) := by
  rw [← zipLanes3_map]
  show execVectorMultiply t op sat f s = _
  unfold execVectorMultiply
  rw [onTile_slot h]
  have hb := (vFieldsOk_parts (d := true) (a := true) (b := true) hf).2.1
  simp only [List.mem_cons, List.not_mem_nil, or_false] at hop
  rcases hop with rfl | rfl | rfl | rfl <;> simp [hm, hf, hb, lanes]

/-- The element that a permute without a free value puts at a place. -/
def permElem (op : PermOp) (c : Ctx) (f : VFields) (n i : Nat) : Nat :=
  if op = .broadcast then (gReg c f.b).toNat % 2 ^ (8 * elemBytes f.et)
  else if op = .moveV then laneOf (elemBytes f.et) (vReg c f.long f.a) i
  else laneOf (elemBytes f.et) (vReg c f.long (if i % 2 = 0 then f.a else f.b)) (i / 2 + if op = .interleaveHi then n / 2 else 0)

theorem permLanes_map {op : PermOp} (hop : op ∈ [.broadcast, .moveV, .interleaveLo, .interleaveHi]) (sat : Bool) (rnd ctr n : Nat) (c : Ctx)
    (f : VFields) (u v : List Nat) :
    permLanes op sat rnd ctr f.et (gReg c f.b) (lanes c f.long f.a n (elemBytes f.et)) (lanes c f.long f.b n (elemBytes f.et)) u v
      = (List.range n).map fun i => (permElem op c f n i, false) := by
  simp only [List.mem_cons, List.not_mem_nil, or_false] at hop
  have hr (m : Nat) {j : Nat} (hj : j < n) := lanes_getElem? c f.long m (elemBytes f.et) hj
  rcases hop with rfl | rfl | rfl | rfl
  · simp [permLanes, permElem, lanes_length, List.map_const']
  · simp [permLanes, permElem, lanes]
  · simp only [permLanes, lanes_length, List.map_map]
    refine List.map_congr_left fun i hi => ?_
    have hi' : i / 2 < n := by have := List.mem_range.mp hi; omega
    by_cases h2 : i % 2 = 0 <;> simp [permElem, h2, hr _ hi']
  · simp only [permLanes, lanes_length, List.map_map]
    refine List.map_congr_left fun i hi => ?_
    have hi' : n / 2 + i / 2 < n := by have := List.mem_range.mp hi; omega
    by_cases h2 : i % 2 = 0 <;> simp [permElem, h2, hr _ hi', Nat.add_comm]

/-- What a permute without a free value does. -/
theorem execVectorPermute_lanes {t : Nat} {op : PermOp} {sat : Bool} {f : VFields} {s : State} {c : Ctx} (h : OnSlot s t c)
    (hop : op ∈ [.broadcast, .moveV, .interleaveLo, .interleaveHi]) (hf : vFieldsOk f true true true = true) :
    exec (.vectorPermute t op sat f) s
      = .next (commitTo t (writeLanes c f.long f.d (elemBytes f.et) (activeOf c f.pg (laneCount s t f.long f.et) (elemBytes f.et))
          ((List.range (laneCount s t f.long f.et)).map fun i => (permElem op c f (laneCount s t f.long f.et) i, false)))
        { s with freeCtr := s.freeCtr + laneCount s t f.long f.et }) := by
  show execVectorPermute t op sat f s = _
  unfold execVectorPermute
  rw [onTile_slot h]
  have hm := fun u v => permLanes_map hop sat (vstatRnd c.vstat) s.freeCtr (laneCount s t f.long f.et) c f u v
  dsimp only
  rw [hm]
  have hp := fun d a b => vFieldsOk_parts (d := d) (a := a) (b := b) hf
  obtain ⟨-, hb, hd⟩ := hp true true true
  simp only [List.mem_cons, List.not_mem_nil, or_false] at hop
  rcases hop with rfl | rfl | rfl | rfl <;> simp [hp, hb, hd, permToG]

theorem execVectorPermute_toG {t : Nat} {sat : Bool} {f : VFields} {s : State} {c : Ctx} (h : OnSlot s t c)
    (hf : vFieldsOk f false true false = true) (hb : f.b < 32) (hd : f.d < 32) (hi : (gReg c f.b).toNat < laneCount s t f.long f.et) :
    exec (.vectorPermute t .toG sat f) s = .next (commitTo t (setG c f.d (BitVec.ofInt 64 (partValue (8 * elemBytes f.et)
        (laneOf (elemBytes f.et) (vReg c f.long f.a) (gReg c f.b).toNat)))) { s with freeCtr := s.freeCtr + laneCount s t f.long f.et }) := by
  show execVectorPermute t .toG sat f s = _
  unfold execVectorPermute
  rw [onTile_slot h, ← lanes_getD c f.long f.a (elemBytes f.et) hi]
  simp [hf, hb, hd, hi, permToG, permReadsB]

theorem execVectorPermute_reduceAdd {t : Nat} {sat : Bool} {f : VFields} {s : State} {c : Ctx} (h : OnSlot s t c)
    (hf : vFieldsOk f false true false = true) (hb : f.b < 32) (hd : f.d < 32) (he : f.et ≠ .c16) :
    exec (.vectorPermute t .reduceAdd sat f) s = .next (commitTo t (setG c f.d (BitVec.ofInt 64
        (((List.range (laneCount s t f.long f.et)).filter (isActive (elemBytes f.et) (pReg c f.pg))).map fun i =>
          partValue (8 * elemBytes f.et) (laneOf (elemBytes f.et) (vReg c f.long f.a) i)).sum))
        { s with freeCtr := s.freeCtr + laneCount s t f.long f.et }) := by
  show execVectorPermute t .reduceAdd sat f s = _
  unfold execVectorPermute
  rw [onTile_slot h]
  have hp := pickLanes_map (isActive (elemBytes f.et) (pReg c f.pg)) (laneOf (elemBytes f.et) (vReg c f.long f.a))
    (List.range (laneCount s t f.long f.et))
  simp [hf, hb, hd, permToG, permReadsB, reduceValue, he, activeOf, lanes, hp, List.map_map, Function.comp_def]

theorem execPspan_lanes {t : Nat} {short : Bool} {pd ga gb : Nat} {et : ElemType} {s : State} {c : Ctx} (h : OnSlot s t c)
    (he : elemKnown et = true) (hd : pd < 8) : exec (.pspan t short pd ga gb et) s
      = .next (commitTo t (setPred c pd (elemBytes et) ((List.range (laneCount s t (!short) et)).map fun i =>
          decide ((gReg c ga).toNat + i < (gReg c gb).toNat))) s) := by
  show execPspan t short pd ga gb et s = _
  have hk (i : Nat) : i < (gReg c gb).toNat - (gReg c ga).toNat ↔ (gReg c ga).toNat + i < (gReg c gb).toNat := by omega
  rw [execPspan, onTile_slot h]
  simp [he, hd, hk]

theorem execPredicateOp_lanes {t : Nat} {op : PredOp} {pd pa pb gd : Nat} {et : ElemType} {s : State} {c : Ctx} (h : OnSlot s t c)
    (hop : op ∈ [.pand, .por, .pxor, .pnot]) (he : elemKnown et = true) (hd : pd < 8) (ha : pa < 8) (hb : pb < 8) (hg : gd < 32) :
    exec (.predicateOp t op pd pa pb gd et) s = .next (commitTo t (setPred c pd (elemBytes et)
      (predLanes op (activeOf c pa (laneCount s t true et) (elemBytes et)) (activeOf c pb (laneCount s t true et) (elemBytes et)))) s) := by
  show execPredicateOp t op pd pa pb gd et s = _
  rw [execPredicateOp, onTile_slot h]
  simp only [List.mem_cons, List.not_mem_nil, or_false] at hop
  rcases hop with rfl | rfl | rfl | rfl <;> simp [he, hd, ha, hb, hg]

theorem execPredicateOp_count {t pd pa pb gd : Nat} {et : ElemType} {s : State} {c : Ctx} (h : OnSlot s t c)
    (he : elemKnown et = true) (hd : pd < 8) (ha : pa < 8) (hb : pb < 8) (hg : gd < 32) :
    exec (.predicateOp t .count pd pa pb gd et) s = .next (commitTo t (setG c gd (BitVec.ofNat 64 ((List.range (laneCount s t true et)).filter
      (isActive (elemBytes et) (pReg c pa))).length)) s) := by
  show execPredicateOp t .count pd pa pb gd et s = _
  rw [execPredicateOp, onTile_slot h]
  simp [he, hd, ha, hb, hg, activeOf, List.filter_map, Function.comp_def]

/-! ## What each writes -/

theorem nextPc_setG (c : Ctx) (n : Nat) (w : Word) : nextPc (setG c n w) = { setG c n w with pc := c.pc + 4 } := by
  unfold setG nextPc
  split <;> rfl

/-- A vector result of a function of the element's place. -/
theorem writeLanes_range {s : State} {t : Nat} (hvl : s.vl t ≤ 4096) (c : Ctx) (long : Bool) (d pg : Nat) (et : ElemType) (r : Nat → Nat × Bool) :
    LaneWise c (nextPc (writeLanes c long d (elemBytes et) (activeOf c pg (laneCount s t long et) (elemBytes et))
        ((List.range (laneCount s t long et)).map r))) long d (elemBytes et) (activeOf c pg (laneCount s t long et) (elemBytes et))
      ((List.range (laneCount s t long et)).map r) :=
  writeLanes_laneWise _ _ _ _ _ _ (by simp [activeOf_length]) (by simpa using laneCount_bytes hvl long et)

/-- What a compare leaves of its predicate. -/
theorem compare_states {s : State} {t : Nat} (hvl : s.vl t ≤ 4096) (c : Ctx) (op : VecOp) (f : VFields) (hd : f.d ≠ 0) (l : List Bool)
    (hl : l = compareLanes op f.et s.freeCtr
          (activeOf c f.pg (laneCount s t f.long f.et) (elemBytes f.et)) (activeOf c f.d (laneCount s t f.long f.et) (elemBytes f.et))
          (lanes c f.long f.a (laneCount s t f.long f.et) (elemBytes f.et)) (lanes c f.long f.b (laneCount s t f.long f.et) (elemBytes f.et))) :
    (∀ i, i < laneCount s t f.long f.et → ∀ r, compareElem op f.et (laneOf (elemBytes f.et) (vReg c f.long f.a) i)
            (laneOf (elemBytes f.et) (vReg c f.long f.b) i) = some r →
          isActive (elemBytes f.et) (pReg (setPred c f.d (elemBytes f.et) l) f.d) i
            = if isActive (elemBytes f.et) (pReg c f.pg) i = true then r else isActive (elemBytes f.et) (pReg c f.d) i)
      ∧ vstatEmpty (setPred c f.d (elemBytes f.et) l).vstat
        = !(activeOf (setPred c f.d (elemBytes f.et) l) f.d (laneCount s t f.long f.et) (elemBytes f.et)).any id := by
  have hn : l.length = laneCount s t f.long f.et := by
    rw [hl, compareLanes_length] <;> simp [activeOf_length, lanes_length]
  have hfit : elemBytes f.et * l.length ≤ 512 := by rw [hn]; exact predicate_fits hvl f.long f.et
  refine ⟨fun i hi r hr => ?_, ?_⟩
  · have hg := compareLanes_getElem? op f.et s.freeCtr (activeOf_getElem? c f.pg (elemBytes f.et) hi) (activeOf_getElem? c f.d (elemBytes f.et) hi)
      (lanes_getElem? c f.long f.a (elemBytes f.et) hi) (lanes_getElem? c f.long f.b (elemBytes f.et) hi) hr
    rw [isActive_setPred c hd (elemBytes_pos _) hfit (by rw [hn]; exact hi), List.getD_eq_getElem?_getD, hl, hg]
    rfl
  · rw [(setPred_flags ..).1, ← hn, activeOf_setPred c hd (elemBytes_pos _) hfit]

end Sys2Proof.Machine

open Sys2Proof Sys2Proof.Machine Sys2Proof.Safety

/-- Settles O36: each instruction writes one packed register, whose elements are read back one by one. -/
theorem vectorLanes : Obligations.VectorLanes := by
  unfold Obligations.VectorLanes
  refine ⟨fun t op sat f s c h hvl hop hf => ?_, fun t op sat f s c h hvl hop hf hd0 hd8 => ?_, fun t op sat f s c h hvl hop hm hf => ?_,
    fun t op sat f s c h hvl hop hf => ?_, fun t sat f s c h hf hb hd hi => ?_, fun t sat f s c h hf hb hd he => ?_,
    fun t short pd ga gb et s c h hvl he hd0 hd8 => ?_, fun t op pd pa pb gd et s c h hvl hop he hd0 hd ha hb hg => ?_,
    fun t pd pa pb gd et s c h he hd ha hb hg => ?_⟩
  · exact ⟨_, _, execVectorArithmetic_lanes h hop hf, putCtx_becomes .., putCtx_leaves _ _ _ (by decide), writeLanes_range hvl ..⟩
  · obtain ⟨hb, hl⟩ := commitTo_drawn t _ s (s.freeCtr + laneCount s t f.long f.et)
    obtain ⟨hs, he⟩ := compare_states hvl c op f (by omega) _ rfl
    exact ⟨_, _, execVectorArithmetic_compare h hop hf hd8, hb, hl, hs, fun m hm => pReg_setPred_ne c _ _ hm, setPred_ctx .., he⟩
  · exact ⟨_, _, execVectorMultiply_lanes h hop hm hf, putCtx_becomes .., putCtx_leaves _ _ _ (by decide), writeLanes_range hvl ..⟩
  · obtain ⟨hb, hl⟩ := commitTo_drawn t _ s (s.freeCtr + laneCount s t f.long f.et)
    exact ⟨_, _, execVectorPermute_lanes h hop hf, hb, hl, writeLanes_range hvl ..⟩
  · obtain ⟨hs, hl⟩ := commitTo_drawn t _ s (s.freeCtr + laneCount s t f.long f.et)
    exact ⟨_, execVectorPermute_toG h hf hb hd hi, hl, nextPc_setG c _ _ ▸ hs⟩
  · obtain ⟨hs, hl⟩ := commitTo_drawn t _ s (s.freeCtr + laneCount s t f.long f.et)
    exact ⟨_, execVectorPermute_reduceAdd h hf hb hd he, hl, nextPc_setG c _ _ ▸ hs⟩
  · have hfit := predicate_fits hvl (!short) et
    obtain ⟨hempty, hhead⟩ := setPred_flags c pd (elemBytes et) ((List.range (laneCount s t (!short) et)).map fun i =>
      decide ((gReg c ga).toNat + i < (gReg c gb).toNat))
    refine ⟨_, _, execPspan_lanes h he hd8, putCtx_becomes .., putCtx_leaves _ _ _ (by decide), fun i hi => ?_,
      fun m hm => pReg_setPred_ne c _ _ hm, setPred_ctx .., fun hpos => ⟨hempty.trans ?_, hhead.trans ?_⟩⟩
    · refine (isActive_setPred c (by omega) (elemBytes_pos et) (by simpa using hfit) (by simpa using hi)).trans ?_
      simp [List.getD_eq_getElem?_getD, List.getElem?_map, List.getElem?_range hi]
    · rw [Bool.eq_iff_iff]
      simp only [List.any_map, Function.comp_def, id, Bool.not_eq_true', List.any_eq_false, List.mem_range, decide_eq_true_eq]
      exact ⟨fun hall => by have := hall 0 hpos; omega, fun hle i _ => by omega⟩
    · obtain ⟨n, hn⟩ : ∃ n, laneCount s t (!short) et = n + 1 := ⟨laneCount s t (!short) et - 1, by omega⟩
      rw [hn, List.range_succ_eq_map]
      rfl
  · have hfit := predicate_fits hvl true et
    refine ⟨_, _, execPredicateOp_lanes h hop he hd ha hb hg, putCtx_becomes .., putCtx_leaves _ _ _ (by decide), fun i hi => ?_,
      fun m hm => pReg_setPred_ne c _ _ hm, setPred_ctx ..⟩
    unfold activeOf
    rw [predLanes_map]
    refine (isActive_setPred c (by omega) (elemBytes_pos et) (by simpa using hfit) (by simpa using hi)).trans ?_
    simp only [List.mem_cons, List.not_mem_nil, or_false] at hop
    rcases hop with rfl | rfl | rfl | rfl <;> simp [List.getD_eq_getElem?_getD, List.getElem?_map, List.getElem?_range hi]
  · exact ⟨_, execPredicateOp_count h he hd ha hb hg, commitTo_commits ..⟩
end

section
/-! SUPPORT. Bytes that tile instructions store (11 R385 to R388, R401): what a run of byte stores leaves of memory and of the bytes staged. -/
namespace Sys2Proof.Machine
open Sys2Proof.Safety

/-! ## The last of a run of bytes that hits -/

/-- A value after a run of bytes, each of which replaces it where its address hits. -/
def overwritten {β : Type} (mk : Byte → β) (hit : Nat → Bool) (xs : List (Nat × Byte)) (r : β) : β :=
  xs.foldl (fun r x => if hit x.1 = true then mk x.2 else r) r

theorem overwritten_append {β : Type} (mk : Byte → β) (hit : Nat → Bool) (xs ys : List (Nat × Byte)) (r : β) :
    overwritten mk hit (xs ++ ys) r = overwritten mk hit ys (overwritten mk hit xs r) := List.foldl_append ..

theorem overwritten_none {β : Type} (mk : Byte → β) (hit : Nat → Bool) (xs : List (Nat × Byte)) (r : β) (h : ∀ x ∈ xs, hit x.1 = false) :
    overwritten mk hit xs r = r := by
  induction xs generalizing r with
  | nil => rfl
  | cons x xs ih =>
    obtain ⟨hx, hxs⟩ := List.forall_mem_cons.mp h
    simp only [overwritten, List.foldl_cons, hx, Bool.false_eq_true, if_false]
    exact ih r hxs

theorem overwritten_all {β : Type} (mk : Byte → β) (hit : Nat → Bool) {xs : List (Nat × Byte)} {w : Byte} (r : β)
    (h : ∀ x ∈ xs, hit x.1 = true → x.2 = w) (he : ∃ x ∈ xs, hit x.1 = true) : overwritten mk hit xs r = mk w := by
  induction xs generalizing r with
  | nil => simp at he
  | cons x xs ih =>
    obtain ⟨hx, hxs⟩ := List.forall_mem_cons.mp h
    by_cases hl : ∃ y ∈ xs, hit y.1 = true
    · exact ih _ hxs hl
    · have hn : ∀ y ∈ xs, hit y.1 = false := fun y hy => Bool.eq_false_iff.mpr fun ht => hl ⟨y, hy, ht⟩
      have hhit : hit x.1 = true := by
        obtain ⟨y, hy, ht⟩ := he
        rcases List.mem_cons.mp hy with rfl | hy
        · exact ht
        · exact absurd ⟨y, hy, ht⟩ hl
      have hr : overwritten mk hit (x :: xs) r = overwritten mk hit xs (mk x.2) := by simp [overwritten, hhit]
      rw [hr, overwritten_none mk hit xs _ hn, hx hhit]

/-! ## One byte -/

theorem regionOf_congr {s u : State} (h : u.dict = s.dict) (a : Nat) : regionOf u a = regionOf s a := by
  have ho : ∀ k, u.nat k = s.nat k := fun k => congrArg Int.toNat (State.obj_congr h k)
  simp only [regionOf, ho]

theorem storedAt_congr {s u : State} (h : u.dict = s.dict) (a : Nat) : storedAt u a = storedAt s a := by
  simp only [storedAt, regionOf_congr h, State.obj_congr h]

theorem mem_storedAt (s : State) (a : Nat) : a ∈ storedAt s a := by
  unfold storedAt
  split
  · split <;> simp
  · simp

/-- Whether a store to a device address reaches a byte of memory. -/
def reaches (s : State) (pal : List Nat) (d a : Nat) : Bool := !inPallets pal a && (regionOf s a != .feed) && (storedAt s a).contains d

/-- Whether a store to a device address is staged at one. -/
def stages (pal : List Nat) (d a : Nat) : Bool := inPallets pal a && (a == d)

theorem memByte_memPutAll_same {l : List Nat} {d : Nat} (b : Byte) (m : List Host.Cell) (h : d ∈ l) :
    memByte (memPutAll (l.map fun a => (a, b)) m) d = b := by
  induction l generalizing m with
  | nil => simp at h
  | cons a l ih =>
    by_cases hd : d ∈ l
    · exact ih _ hd
    · have ha : d = a := (List.mem_cons.mp h).resolve_right hd
      have hm : memByte (memPutAll ((a :: l).map fun a => (a, b)) m) d = memByte (memPut m a b) d :=
        memByte_memPutAll (cells := l.map fun a => (a, b)) (by rintro e he rfl; obtain ⟨y, hy, rfl⟩ := List.mem_map.mp he; exact hd hy) _
      rw [hm, ha]
      exact Store.at_putD_same ..

theorem storeByte_mem (pal : List Nat) (p : Ctx × State) (x : Nat × Byte) (d : Nat) :
    memByte (storeByte pal p x).2.mem d = if reaches p.2 pal d x.1 = true then x.2 else memByte p.2.mem d := by
  unfold storeByte reaches
  cases hp : inPallets pal x.1
  · simp only [Bool.false_eq_true, if_false, Bool.not_false, Bool.true_and]
    split
    next hf => simp [hf]
    next hf =>
      have hne : (regionOf p.2 x.1 != .feed) = true := by simpa [bne_iff_ne] using hf
      simp only [hne, Bool.true_and, List.contains_iff_mem]
      split
      next hd => exact memByte_memPutAll_same x.2 _ hd
      next hd => exact memByte_memPutAll (by rintro e he rfl; obtain ⟨y, hy, rfl⟩ := List.mem_map.mp he; exact hd hy) _
  · simp

theorem storeByte_staged (pal : List Nat) (p : Ctx × State) (x : Nat × Byte) (d : Nat) :
    Store.find (storeByte pal p x).1.staged d = if stages pal d x.1 = true then some x.2 else Store.find p.1.staged d := by
  unfold storeByte stages
  cases hp : inPallets pal x.1
  · simp only [Bool.false_eq_true, if_false, Bool.false_and]
    split <;> rfl
  · simp only [if_true, Bool.true_and, beq_iff_eq]
    split
    next hd => exact hd ▸ Store.find_put_same ..
    next hd => exact Store.find_put_ne _ _ _ _ (Ne.symm hd)

/-! ## A run of bytes -/

/-- A run of bytes has been stored, by addresses and values: memory and the staged bytes are those of the last byte that reached each, the
errors remembered are among those before, and nothing else has changed. -/
structure Wrote (pal : List Nat) (xs : List (Nat × Byte)) (p q : Ctx × State) : Prop where
  ctx : q.1 = { p.1 with staged := q.1.staged }
  same : SameBut p.2 q.2 [.mem, .integ]
  poison : ∀ w ∈ q.2.integ.poison, w ∈ p.2.integ.poison
  integ : q.2.integ = { p.2.integ with poison := q.2.integ.poison }
  mem : ∀ d, memByte q.2.mem d = overwritten id (reaches p.2 pal d) xs (memByte p.2.mem d)
  staged : ∀ d, Store.find q.1.staged d = overwritten some (stages pal d) xs (Store.find p.1.staged d)

theorem Wrote.dict {pal : List Nat} {xs : List (Nat × Byte)} {p q : Ctx × State} (h : Wrote pal xs p q) : q.2.dict = p.2.dict :=
  h.same .dict (by decide)

theorem reaches_congr {s u : State} (h : u.dict = s.dict) (pal : List Nat) (d : Nat) : reaches u pal d = reaches s pal d :=
  funext fun a => by simp only [reaches, regionOf_congr h, storedAt_congr h]

theorem Wrote.refl (pal : List Nat) (p : Ctx × State) : Wrote pal [] p p :=
  ⟨rfl, SameBut.refl _ _, fun _ h => h, rfl, fun _ => rfl, fun _ => rfl⟩

theorem Wrote.trans {pal : List Nat} {xs ys : List (Nat × Byte)} {p q r : Ctx × State} (h1 : Wrote pal xs p q) (h2 : Wrote pal ys q r) :
    Wrote pal (xs ++ ys) p r where
  ctx := by rw [h2.ctx, h1.ctx]
  same := SameBut.trans h1.same h2.same
  poison w hw := h1.poison w (h2.poison w hw)
  integ := by rw [h2.integ, h1.integ]
  mem d := by rw [h2.mem, h1.mem, reaches_congr h1.dict, overwritten_append]
  staged d := by rw [h2.staged, h1.staged, overwritten_append]

theorem Wrote.storeByte (pal : List Nat) (p : Ctx × State) (x : Nat × Byte) : Wrote pal [x] p (storeByte pal p x) where
  ctx := by unfold Machine.storeByte; split <;> [rfl; split <;> rfl]
  same q hq := by
    unfold Machine.storeByte
    split
    · cases q <;> rfl
    · split <;> cases q <;> simp_all [Part.same]
  poison w := by unfold Machine.storeByte; split <;> [exact id; split <;> exact id]
  integ := by unfold Machine.storeByte; split <;> [rfl; split <;> rfl]
  mem d := storeByte_mem pal p x d
  staged d := storeByte_staged pal p x d

theorem Wrote.storeByteAll (pal : List Nat) (xs : List (Nat × Byte)) (p : Ctx × State) : Wrote pal xs p (xs.foldl (Machine.storeByte pal) p) := by
  induction xs generalizing p with
  | nil => exact Wrote.refl pal p
  | cons x xs ih => exact Wrote.trans (Wrote.storeByte pal p x) (ih _)

theorem Wrote.storeBytes (l : List Nat) (v : Bytes) (c : Ctx) (s : State) :
    Wrote (taskPallets s c.tag) (l.zip v) (c, s) (storeBytes l v c s) := by
  have h := Wrote.storeByteAll (taskPallets s c.tag) (l.zip v) (c, s)
  have hh : Wrote (taskPallets s c.tag) [] ((l.zip v).foldl (Machine.storeByte (taskPallets s c.tag)) (c, s)) (Machine.storeBytes l v c s) :=
    ⟨rfl, fun p hp => by cases p <;> simp_all [Part.same, Machine.storeBytes, healed], fun w hw => (List.mem_filter.mp hw).1, rfl, fun _ => rfl,
      fun _ => rfl⟩
  simpa using h.trans hh

/-! ## The exceptions of a store do not follow from what is stored -/

theorem resolve_store_congr {pal : List Nat} {xs : List (Nat × Byte)} {p q : Ctx × State} (h : Wrote pal xs p q) (t addr : Nat) :
    resolve q.2 t q.1 true addr = resolve p.2 t p.1 true addr := by
  have hr := regionOf_congr h.dict
  have ho := State.obj_congr h.dict
  rw [h.ctx]
  simp only [resolve, tileBytes, ho, hr, State.runs, Bool.not_true, Bool.false_and]

theorem resolveBytes_store_congr {pal : List Nat} {xs : List (Nat × Byte)} {p q : Ctx × State} (h : Wrote pal xs p q) (t addr n : Nat) :
    resolveBytes q.2 t q.1 true addr n = resolveBytes p.2 t p.1 true addr n := by
  induction n generalizing addr with
  | zero => rfl
  | succ n ih => simp only [resolveBytes, resolve_store_congr h, ih]

theorem hitsInput_congr {pal : List Nat} {xs : List (Nat × Byte)} {p q : Ctx × State} (h : Wrote pal xs p q) (addr n : Nat) :
    hitsInput q.1 addr n = hitsInput p.1 addr n := by rw [h.ctx]; rfl

theorem resolveBytes_length {s : State} {t : Nat} {c : Ctx} {store : Bool} {addr n : Nat} {l : List Nat}
    (h : resolveBytes s t c store addr n = .ok l) : l.length = n := by
  induction n generalizing addr l with
  | zero => cases h; rfl
  | succ n ih =>
    simp only [resolveBytes] at h
    split at h
    · cases h
    · split at h
      · cases h
      next l' hl => cases h; simp [ih hl]

theorem Wrote.storeAt {pal : List Nat} {xs : List (Nat × Byte)} {p q : Ctx × State} (h : Wrote pal xs p q) (hp : pal = taskPallets p.2 p.1.tag)
    {t addr n v : Nat} {l : List Nat} (hr : resolveBytes p.2 t p.1 true addr n = .ok l) (hi : hitsInput p.1 addr n = false) :
    ∃ r, storeAt t addr n v q.1 q.2 = .ok r ∧ Wrote pal (xs ++ l.zip (leBytes n v)) p r := by
  have ht : taskPallets q.2 q.1.tag = pal := by
    have hs : q.2.sched = p.2.sched := h.same .sched (by decide)
    rw [hp, h.ctx]
    simp only [taskPallets, State.op, hs]
  refine ⟨Machine.storeBytes l (leBytes n v) q.1 q.2, ?_, h.trans (ht ▸ Wrote.storeBytes ..)⟩
  simp only [Machine.storeAt, resolveBytes_store_congr h, hr, hitsInput_congr h, hi, Bool.false_eq_true, if_false]

/-! ## What a run of elements leaves -/

theorem leBytes_getElem? {n m : Nat} (v : Nat) (h : m < n) : (leBytes n v)[m]? = some (BitVec.ofNat 8 (v / 256 ^ m)) := by
  induction n generalizing m v with
  | zero => omega
  | succ n ih =>
    cases m with
    | zero => simp [leBytes]
    | succ m =>
      rw [leBytes, List.getElem?_cons_succ, ih _ (by omega), Nat.div_div_eq_div_mul, pow_succ, Nat.mul_comm]

/-- A member of the bytes of an element, by its place. -/
theorem mem_zip_leBytes {l : List Nat} {n v : Nat} (hl : l.length = n) {x : Nat × Byte} :
    x ∈ l.zip (leBytes n v) ↔ ∃ m : Nat, l[m]? = some x.1 ∧ x.2 = BitVec.ofNat 8 (v / 256 ^ m) := by
  rw [List.mem_iff_getElem?]
  refine exists_congr fun m => ?_
  by_cases hm : m < n
  · rw [List.getElem?_zip_eq_some, leBytes_getElem? v hm, Option.some_inj, eq_comm (a := x.2)]
  · have h1 : l[m]? = none := List.getElem?_eq_none (by omega)
    simp [h1, List.getElem?_zip_eq_some]

theorem nodup_flatMap_place {l : List Nat} {f : Nat → List Nat} (h : (l.flatMap f).Nodup) {m k a b d : Nat} (ha : l[m]? = some a)
    (hb : l[k]? = some b) (hda : d ∈ f a) (hdb : d ∈ f b) : m = k := by
  have hp := (List.nodup_flatMap.mp h).2
  by_contra hne
  rw [List.pairwise_iff_getElem] at hp
  obtain ⟨hm, rfl⟩ := List.getElem?_eq_some_iff.mp ha
  obtain ⟨hk, rfl⟩ := List.getElem?_eq_some_iff.mp hb
  rcases Nat.lt_or_gt_of_ne hne with hlt | hlt
  · exact hp m k hm hk hlt hda hdb
  · exact hp k m hk hm hlt hdb hda

/-- The bytes of the active elements of a store. -/
def laneBytes (n : Nat) (active : List Nat) (l : Nat → List Nat) (v : Nat → Nat) : List (Nat × Byte) :=
  active.flatMap fun i => (l i).zip (leBytes n (v i))

/-- A byte of a store that no other reaches is the only one there. -/
theorem laneBytes_value {n : Nat} {active : List Nat} {l : Nat → List Nat} {v : Nat → Nat} {s : State} (hlen : ∀ i ∈ active, (l i).length = n)
    {i m a d : Nat} (hm : (l i)[m]? = some a) (hnd : ((l i).flatMap (storedAt s)).Nodup)
    (ho : ∀ j ∈ active, j ≠ i → ∀ b ∈ l j, ∀ d ∈ storedAt s a, d ∉ storedAt s b) (hd : d ∈ storedAt s a) :
    ∀ x ∈ laneBytes n active l v, d ∈ storedAt s x.1 → x.2 = BitVec.ofNat 8 (v i / 256 ^ m) := by
  intro x hx hdx
  obtain ⟨j, hj, hxj⟩ := List.mem_flatMap.mp hx
  obtain ⟨k, hk, hv⟩ := (mem_zip_leBytes (hlen j hj)).mp hxj
  by_cases hji : j = i
  · subst hji
    rw [hv, nodup_flatMap_place hnd hm hk hd hdx]
  · exact absurd hdx (ho j hj hji _ (List.mem_of_getElem? hk) d hd)

theorem mem_laneBytes {n : Nat} {active : List Nat} {l : Nat → List Nat} {v : Nat → Nat} (hlen : ∀ i ∈ active, (l i).length = n)
    {i m a : Nat} (hi : i ∈ active) (hm : (l i)[m]? = some a) : (a, BitVec.ofNat 8 (v i / 256 ^ m)) ∈ laneBytes n active l v :=
  List.mem_flatMap.mpr ⟨i, hi, (mem_zip_leBytes (hlen i hi)).mpr ⟨m, hm, rfl⟩⟩

theorem laneBytes_address {n : Nat} {active : List Nat} {l : Nat → List Nat} {v : Nat → Nat} {x : Nat × Byte} (h : x ∈ laneBytes n active l v) :
    ∃ i ∈ active, x.1 ∈ l i := by
  obtain ⟨i, hi, hx⟩ := List.mem_flatMap.mp h
  exact ⟨i, hi, (List.of_mem_zip (a := x.1) (b := x.2) hx).1⟩

/-- The stores of active elements that commit. -/
theorem Wrote.storesLanes {n t : Nat} {active : List Nat} {l : Nat → List Nat} {v : Nat → Nat} {c c' : Ctx} {s u : State} (k : Ctx)
    (h : Wrote (taskPallets s c.tag) (laneBytes n active l v) (c, s) (c', u)) (hlen : ∀ i ∈ active, (l i).length = n) (hk : k.staged = c'.staged) :
    StoresLanes s (putCtx t k u) c k active l v := by
  refine ⟨fun a ha => ?_, fun a ha => ?_, fun i hi m a hm hnd ho => ?_, h.poison, h.integ, ?_⟩
  · refine (h.mem a).trans (overwritten_none _ _ _ _ fun x hx => ?_)
    obtain ⟨i, hi, hxi⟩ := laneBytes_address hx
    simp [reaches, ha i hi _ hxi]
  · rw [hk]
    refine (h.staged a).trans (overwritten_none _ _ _ _ fun x hx => ?_)
    obtain ⟨i, hi, hxi⟩ := laneBytes_address hx
    have hne : x.1 ≠ a := fun he => ha i hi (he ▸ hxi)
    simp [stages, hne]
  · have hx := mem_laneBytes (v := v) hlen hi hm
    split
    next hp =>
      rw [hk]
      refine (h.staged a).trans (overwritten_all _ _ _ (fun x hxl hs => ?_) ⟨_, hx, by simp [stages, hp]⟩)
      have he : x.1 = a := by simp only [stages, Bool.and_eq_true, beq_iff_eq] at hs; exact hs.2
      exact laneBytes_value hlen hm hnd ho (mem_storedAt s a) x hxl (he ▸ mem_storedAt s a)
    next hp =>
      intro hf d hd
      refine (h.mem d).trans (overwritten_all _ _ _ (fun x hxl hs => ?_) ⟨_, hx, by simp [reaches, hp, hf, hd]⟩)
      simp only [reaches, Bool.and_eq_true, List.contains_iff_mem] at hs
      exact laneBytes_value hlen hm hnd ho hd x hxl hs.2
  · exact Leaves.of_dict (fun p hp => by have := h.same p; cases p <;> simp_all [Part.same, putCtx]) h.dict

end Sys2Proof.Machine
end

section
/-! SUPPORT. Loads and stores of tile instructions (11 R377, R383 to R391): what each instruction loads, stores or raises. -/
namespace Sys2Proof.Machine
open Sys2Proof.Safety

/-! ## Scalar accesses -/

theorem sizeOk_of_mem {n : Nat} (h : n ∈ [1, 2, 4, 8]) : sizeOk n = true := by
  simp only [List.mem_cons, List.not_mem_nil, or_false] at h
  rcases h with rfl | rfl | rfl | rfl <;> rfl

theorem execScalarLoad_ok {t gd ga : Nat} {offset : Int} {size : Nat} {signed : Bool} {s : State} {c : Ctx} {l : List Nat} (h : OnSlot s t c)
    (hs : size ∈ [1, 2, 4, 8]) (ha : addrOf ((gReg c ga).toNat + offset * size) % size = 0)
    (hr : resolveBytes s t c false (addrOf ((gReg c ga).toNat + offset * size)) size = .ok l) :
    exec (.scalarLoad t gd ga offset size signed) s = .next (commitTo t (setG c gd (BitVec.ofInt 64 (if signed = true
      then partValue (8 * size) (leNat (l.map (seenByte s c))) else (leNat (l.map (seenByte s c)) : Int)))) s) := by
  show execScalarLoad t gd ga offset size signed s = _
  rw [execScalarLoad, onTile_slot h]
  simp [sizeOk_of_mem hs, ha, loadAt, hr, orTake, loadBytes]

theorem execScalarLoad_align {t gd ga : Nat} {offset : Int} {size : Nat} {signed : Bool} {s : State} {c : Ctx} (h : OnSlot s t c)
    (hs : size ∈ [1, 2, 4, 8]) (ha : addrOf ((gReg c ga).toNat + offset * size) % size ≠ 0) :
    exec (.scalarLoad t gd ga offset size signed) s = .next (takeExc t c ⟨3, addrOf ((gReg c ga).toNat + offset * size)⟩ s) := by
  show execScalarLoad t gd ga offset size signed s = _
  rw [execScalarLoad, onTile_slot h]
  simp [sizeOk_of_mem hs, ha, orTake]

theorem execScalarStore_align {t gd ga : Nat} {offset : Int} {size : Nat} {s : State} {c : Ctx} (h : OnSlot s t c)
    (hs : size ∈ [1, 2, 4, 8]) (ha : addrOf ((gReg c ga).toNat + offset * size) % size ≠ 0) :
    exec (.scalarStore t gd ga offset size) s = .next (takeExc t c ⟨3, addrOf ((gReg c ga).toNat + offset * size)⟩ s) := by
  show execScalarStore t gd ga offset size s = _
  rw [execScalarStore, onTile_slot h]
  simp [sizeOk_of_mem hs, ha, orTake]

theorem execScalarStore_ok {t gd ga : Nat} {offset : Int} {size : Nat} {s : State} {c : Ctx} {r : Ctx × State} (h : OnSlot s t c)
    (hs : size ∈ [1, 2, 4, 8]) (ha : addrOf ((gReg c ga).toNat + offset * size) % size = 0)
    (hr : storeAt t (addrOf ((gReg c ga).toNat + offset * size)) size (gReg c gd).toNat c s = .ok r) :
    exec (.scalarStore t gd ga offset size) s = .next (commitTo t r.1 r.2) := by
  show execScalarStore t gd ga offset size s = _
  rw [execScalarStore, onTile_slot h]
  simp [sizeOk_of_mem hs, ha, orTake, hr]

/-- A commit of a store. -/
theorem Wrote.commit {n t : Nat} {active : List Nat} {l : Nat → List Nat} {v : Nat → Nat} {c k : Ctx} {s : State} {r : Ctx × State}
    (h : Wrote (taskPallets s c.tag) (laneBytes n active l v) (c, s) r) (hlen : ∀ i ∈ active, (l i).length = n) (hk : k.staged = r.1.staged) :
    SlotBecomes s (putCtx t k r.2) t k ∧ StoresLanes s (putCtx t k r.2) c k active l v :=
  ⟨SlotBecomes.of_tiles (h.same .tiles (by decide)) (putCtx_becomes ..), Wrote.storesLanes k h hlen hk⟩

/-! ## Vector accesses -/

/-- The value of a load that raises nothing. -/
def loaded (r : Except Exc Nat) : Nat := match r with
  | .ok v => v
  | .error _ => 0

theorem loaded_eq {r : Except Exc Nat} (h : ∃ v, r = .ok v) : r = .ok (loaded r) := by
  obtain ⟨v, rfl⟩ := h
  rfl

theorem leNat_lt (l : Bytes) : leNat l < 2 ^ (8 * l.length) := by
  induction l with
  | nil => simp [leNat]
  | cons b l ih =>
    have hb := b.isLt
    rw [leNat, List.length_cons, Nat.mul_succ, pow_add]
    omega

theorem loadAt_lt {s : State} {t : Nat} {c : Ctx} {addr n v : Nat} (h : loadAt s t c addr n = .ok v) : v < 2 ^ (8 * n) := by
  unfold loadAt at h
  split at h
  · cases h
  next l hl =>
    cases h
    have := leNat_lt (l.map (seenByte s c))
    rwa [List.length_map, resolveBytes_length hl] at this

theorem loadLanes_map {s : State} {t : Nat} {c : Ctx} {b : Nat} {idx : List Nat} {g : Nat → Bool} {A : Nat → Nat}
    (h : ∀ i ∈ idx, g i = true → ∃ v, loadAt s t c (A i) b = .ok v) :
    loadLanes s t c b (idx.map g) (idx.map A) = .ok (idx.map fun i => if g i = true then loaded (loadAt s t c (A i) b) else 0) := by
  induction idx with
  | nil => rfl
  | cons i idx ih =>
    obtain ⟨hi, hidx⟩ := List.forall_mem_cons.mp h
    have hv : (if g i = true then loadAt s t c (A i) b else .ok 0) = .ok (if g i = true then loaded (loadAt s t c (A i) b) else 0) := by
      split
      next hg => exact loaded_eq (hi hg)
      next => rfl
    simp only [List.map_cons, loadLanes, hv, ih hidx]

theorem list_eq_map_range (l : List Nat) : l = (List.range l.length).map fun i => l.getD i 0 := by
  refine List.ext_getElem (by simp) fun i h1 h2 => ?_
  simp [List.getElem?_eq_getElem h1]

theorem vmAddrs_length (c : Ctx) (f : VMFields) (n : Nat) : (vmAddrs c f n).length = n := by simp [vmAddrs]

theorem vmAddrs_map (c : Ctx) (f : VMFields) (n : Nat) : vmAddrs c f n = (List.range n).map fun i => (vmAddrs c f n).getD i 0 := by
  have h := list_eq_map_range (vmAddrs c f n)
  rwa [vmAddrs_length] at h

/-- The element that a vector load writes. -/
def vmLoaded (s : State) (t : Nat) (c : Ctx) (f : VMFields) (i : Nat) : Nat :=
  if isActive (elemBytes f.et) (pReg c f.pg) i = true
    then loaded (loadAt s t c ((vmAddrs c f (laneCount s t f.long f.et)).getD i 0) (elemBytes f.et)) else 0

theorem execVectorLoad_ok {t : Nat} {f : VMFields} {s : State} {c : Ctx} (h : OnSlot s t c) (hc : vmCheck c f = none)
    (hl : ∀ i, i < laneCount s t f.long f.et → isActive (elemBytes f.et) (pReg c f.pg) i = true →
      ∃ v, loadAt s t c ((vmAddrs c f (laneCount s t f.long f.et)).getD i 0) (elemBytes f.et) = .ok v) :
    exec (.vectorLoad t f) s = .next (commitTo t (setV c f.long f.d (packLanes (elemBytes f.et)
      ((List.range (laneCount s t f.long f.et)).map (vmLoaded s t c f)))) s) := by
  show execVectorLoad t f s = _
  have hm := loadLanes_map (idx := List.range (laneCount s t f.long f.et)) (g := isActive (elemBytes f.et) (pReg c f.pg))
    (A := fun i => (vmAddrs c f (laneCount s t f.long f.et)).getD i 0) fun i hi => hl i (List.mem_range.mp hi)
  rw [← vmAddrs_map] at hm
  rw [execVectorLoad, onTile_slot h]
  simp only [hc, activeOf, hm]
  rfl

theorem storeLanes_map {pal : List Nat} {p : Ctx × State} (hp : pal = taskPallets p.2 p.1.tag) {t b : Nat} {g : Nat → Bool} {A V : Nat → Nat}
    {l : Nat → List Nat} (idx : List Nat)
    (h : ∀ i ∈ idx, g i = true → resolveBytes p.2 t p.1 true (A i) b = .ok (l i) ∧ hitsInput p.1 (A i) b = false) {xs : List (Nat × Byte)}
    {q : Ctx × State} (hq : Wrote pal xs p q) : ∃ r, storeLanes t b (idx.map g) (idx.map A) (idx.map V) q.1 q.2 = .ok r
      ∧ Wrote pal (xs ++ laneBytes b (idx.filter g) l V) p r := by
  induction idx generalizing xs q with
  | nil => exact ⟨q, rfl, by simpa [laneBytes] using hq⟩
  | cons i idx ih =>
    obtain ⟨hi, hidx⟩ := List.forall_mem_cons.mp h
    cases hg : g i
    · obtain ⟨r, hr, hw⟩ := ih hidx hq
      exact ⟨r, by simpa [storeLanes, hg] using hr, by simpa [hg] using hw⟩
    · obtain ⟨hres, hin⟩ := hi hg
      obtain ⟨r, hr, hw⟩ := hq.storeAt hp (v := V i) hres hin
      obtain ⟨r', hr', hw'⟩ := ih hidx hw
      exact ⟨r', by simpa [storeLanes, hg, hr] using hr', by simpa [hg, laneBytes] using hw'⟩

theorem execVectorStore_ok {t : Nat} {f : VMFields} {s : State} {c : Ctx} {r : Ctx × State} (h : OnSlot s t c) (hc : vmCheck c f = none)
    (hr : storeLanes t (elemBytes f.et) (activeOf c f.pg (laneCount s t f.long f.et) (elemBytes f.et)) (vmAddrs c f (laneCount s t f.long f.et))
      (lanes c f.long f.d (laneCount s t f.long f.et) (elemBytes f.et)) c s = .ok r) :
    exec (.vectorStore t f) s = .next (commitTo t r.1 r.2) := by
  show execVectorStore t f s = _
  rw [execVectorStore, onTile_slot h]
  simp only [hc, hr]
  rfl

/-! ## Gathers -/

theorem vstatStart_set (k : Nat) (v : BitVec 32) : vstatStart (vstatSetStart k v) = k % 1024 := by
  unfold vstatStart vstatSetStart vstatOf
  rw [BitVec.extractLsb'_toNat, BitVec.toNat_ofNat, Nat.shiftRight_eq_div_pow]
  cases vstatTail v <;> cases vstatHead v <;> cases vstatEmpty v <;> cases vstatSat v <;> simp <;> omega

/-- A gather whose accesses all load. -/
theorem gatherFrom_ok {s : State} {t : Nat} {c : Ctx} {f : VGFields} {l : List Nat} (h : ∀ i ∈ l, ∃ v, loadAt s t c (vgAddr c f i) 4 = .ok v) :
    gatherFrom s t c f l = ⟨l.map fun i => (i, loaded (loadAt s t c (vgAddr c f i) 4)), none⟩ := by
  induction l with
  | nil => rfl
  | cons i l ih =>
    obtain ⟨hi, hl⟩ := List.forall_mem_cons.mp h
    rw [gatherFrom, loaded_eq hi]
    simp only [ih hl, List.map_cons] <;> rfl

/-- A gather whose access of one element faults after others that load. -/
theorem gatherFrom_fault {s : State} {t : Nat} {c : Ctx} {f : VGFields} {pre post : List Nat} {k : Nat} {e : Exc}
    (h : ∀ i ∈ pre, ∃ v, loadAt s t c (vgAddr c f i) 4 = .ok v) (hk : loadAt s t c (vgAddr c f k) 4 = .error e) :
    gatherFrom s t c f (pre ++ k :: post)
      = ⟨pre.map fun i => (i, loaded (loadAt s t c (vgAddr c f i) 4)), some (k, ⟨e.code, vgAddr c f k⟩)⟩ := by
  induction pre with
  | nil => rw [List.nil_append, gatherFrom, hk]; rfl
  | cons i l ih =>
    obtain ⟨hi, hl⟩ := List.forall_mem_cons.mp h
    rw [List.cons_append, gatherFrom, loaded_eq hi]
    simp only [ih hl, List.map_cons] <;> rfl

theorem find_map_self {l : List Nat} (V : Nat → Nat) (i : Nat) : Store.find (l.map fun j => (j, V j)) i = if i ∈ l then some (V i) else none := by
  induction l with
  | nil => rfl
  | cons j l ih =>
    rw [List.map_cons, Store.find]
    by_cases h : j = i
    · simp [h]
    · simp [h, ih, Ne.symm h]

theorem mem_vgActive {s : State} {t : Nat} {c : Ctx} {f : VGFields} {i : Nat} :
    i ∈ vgActive s t c f ↔ i < vgCount s t ∧ isActive 4 (pReg c f.pg) i = true ∧ vstatStart c.vstat ≤ i := by
  simp [vgActive]

/-- The active elements below one of them, and those from it on. -/
theorem vgActive_split {s : State} {t : Nat} {c : Ctx} {f : VGFields} {k : Nat} (hk : k ∈ vgActive s t c f) :
    ∃ pre post, vgActive s t c f = pre ++ k :: post ∧ ∀ i, i ∈ pre ↔ i ∈ vgActive s t c f ∧ i < k := by
  obtain ⟨pre, post, he⟩ := List.append_of_mem hk
  refine ⟨pre, post, he, fun i => ?_⟩
  have hs : (vgActive s t c f).Pairwise (· < ·) := List.pairwise_lt_range.filter _
  rw [he, List.pairwise_append] at hs
  obtain ⟨-, hpost, hpre⟩ := hs
  rw [he]
  refine ⟨fun hi => ⟨List.mem_append_left _ hi, hpre i hi k (List.mem_cons_self ..)⟩, fun ⟨hi, hlt⟩ => ?_⟩
  rcases List.mem_append.mp hi with hi | hi
  · exact hi
  · rcases List.mem_cons.mp hi with rfl | hi
    · omega
    · have := (List.pairwise_cons.mp hpost).1 i hi
      omega

theorem vg_fits {s : State} {t : Nat} (hvl : s.vl t ≤ 4096) : 4 * vgCount s t ≤ 512 ∧ 8 * 4 * vgCount s t ≤ vBits true := by
  have : vBits true = 4096 := rfl
  unfold vgCount
  omega

theorem gatherWrite_lane {s : State} {t : Nat} (hvl : s.vl t ≤ 4096) (c : Ctx) (f : VGFields) (pre : List Nat) (clear : Nat → Bool) {i : Nat}
    (hi : i < vgCount s t) : laneOf 4 (vReg (gatherWrite s t c f (pre.map fun j => (j, loaded (loadAt s t c (vgAddr c f j) 4))) clear) true f.vd) i
      = if i ∈ pre then loaded (loadAt s t c (vgAddr c f i) 4) % 2 ^ 32 else if clear i then 0 else laneOf 4 (vReg c true f.vd) i := by
  unfold gatherWrite
  rw [laneOf_setV c f.vd (by simpa using (vg_fits hvl).2)]
  simp only [List.getD_eq_getElem?_getD, List.getElem?_map, List.getElem?_range hi, Option.map_some, Option.getD_some, find_map_self]
  by_cases hp : i ∈ pre
  · simp only [if_pos hp]
  · simp only [if_neg hp]
    split
    · rfl
    · exact Nat.mod_eq_of_lt (laneOf_lt ..)

theorem gatherWrite_other (s : State) (t : Nat) (c : Ctx) (f : VGFields) (vals : List (Nat × Nat)) (clear : Nat → Bool) {m : Nat} (h : m ≠ f.vd) :
    vReg (gatherWrite s t c f vals clear) true m = vReg c true m := vReg_setV_ne c true _ h

theorem gatherWrite_ctx (s : State) (t : Nat) (c : Ctx) (f : VGFields) (vals : List (Nat × Nat)) (clear : Nat → Bool) :
    gatherWrite s t c f vals clear = { c with v := (gatherWrite s t c f vals clear).v } := rfl

/-- An element of a gather that its access loads. -/
theorem loadAt_lane {s : State} {t : Nat} {c : Ctx} {a : Nat} (h : ∃ v, loadAt s t c a 4 = .ok v) :
    loadAt s t c a 4 = .ok (loaded (loadAt s t c a 4) % 2 ^ 32) := by
  have he := loaded_eq h
  rw [Nat.mod_eq_of_lt (loadAt_lt he)]
  exact he

/-! ## The instructions that gather and scatter -/

/-- The context that a gather which loads leaves, and that of one that traps. -/
def gatheredCtx (s : State) (t : Nat) (c : Ctx) (f : VGFields) (pre : List Nat) (clear : Nat → Bool) (start : Nat) : Ctx :=
  { gatherWrite s t c f (pre.map fun j => (j, loaded (loadAt s t c (vgAddr c f j) 4))) clear with vstat := vstatSetStart start c.vstat }

/-- Which elements a gather that loads clears. -/
def idle (c : Ctx) (f : VGFields) (i : Nat) : Bool := !isActive 4 (pReg c f.pg) i

theorem execGather_ok {t : Nat} {f : VGFields} {s : State} {c : Ctx} (h : OnSlot s t c) (hc : vgCheck c f = none)
    (hl : ∀ i ∈ vgActive s t c f, ∃ v, loadAt s t c (vgAddr c f i) 4 = .ok v) :
    exec (.gather t f) s = .next (commitTo t (gatheredCtx s t c f (vgActive s t c f) (idle c f) 0) s) := by
  show execGather t f s = _
  rw [execGather, onTile_slot h]
  simp only [hc, gatherFrom_ok hl]
  rfl

theorem execFirstFaultGather_ok {t : Nat} {f : VGFields} {s : State} {c : Ctx} (h : OnSlot s t c) (hc : vgCheck c f = none) (hp : f.pg ≠ 0)
    (hl : ∀ i ∈ vgActive s t c f, ∃ v, loadAt s t c (vgAddr c f i) 4 = .ok v) :
    exec (.firstFaultGather t f) s = .next (commitTo t (gatheredCtx s t c f (vgActive s t c f) (idle c f) 0) s) := by
  show execFirstFaultGather t f s = _
  rw [execFirstFaultGather, onTile_slot h]
  simp only [hp, if_false, hc, gatherFrom_ok hl]
  rfl

theorem execGather_fault {t : Nat} {f : VGFields} {s : State} {c : Ctx} {pre post : List Nat} {k : Nat} {e : Exc} (h : OnSlot s t c)
    (hc : vgCheck c f = none) (ha : vgActive s t c f = pre ++ k :: post)
    (hl : ∀ i ∈ pre, ∃ v, loadAt s t c (vgAddr c f i) 4 = .ok v) (hk : loadAt s t c (vgAddr c f k) 4 = .error e) :
    exec (.gather t f) s = .next (takeExc t (gatheredCtx s t c f pre (fun _ => false) k) ⟨e.code, vgAddr c f k⟩ s) := by
  show execGather t f s = _
  rw [execGather, onTile_slot h]
  simp only [hc, ha, gatherFrom_fault hl hk]
  rfl

/-- The states of the elements that a first-fault gather keeps. -/
def keptLanes (s : State) (t : Nat) (c : Ctx) (f : VGFields) (k : Nat) : List Bool :=
  (List.range (vgCount s t)).map fun i => isActive 4 (pReg c f.pg) i && decide (i < k)

/-- The context that a first-fault gather leaves where it loses an element. -/
def faultedCtx (s : State) (t : Nat) (c : Ctx) (f : VGFields) (pre : List Nat) (k : Nat) (e : Exc) : Ctx :=
  let w := gatherWrite s t c f (pre.map fun j => (j, loaded (loadAt s t c (vgAddr c f j) 4))) fun i => !((keptLanes s t c f k).getD i false)
  { setPred w f.pg 4 (keptLanes s t c f k) with
      ffr := ffrOf e k, vstat := vstatSetStart 0 (setPred w f.pg 4 (keptLanes s t c f k)).vstat }

theorem execFirstFaultGather_fault {t : Nat} {f : VGFields} {s : State} {c : Ctx} {pre post : List Nat} {k : Nat} {e : Exc} (h : OnSlot s t c)
    (hc : vgCheck c f = none) (hp : f.pg ≠ 0) (ha : vgActive s t c f = pre ++ k :: post) (hne : pre ≠ []) (hkp : k ∉ pre)
    (hl : ∀ i ∈ pre, ∃ v, loadAt s t c (vgAddr c f i) 4 = .ok v) (hk : loadAt s t c (vgAddr c f k) 4 = .error e) :
    exec (.firstFaultGather t f) s = .next (commitTo t (faultedCtx s t c f pre k ⟨e.code, vgAddr c f k⟩) s) := by
  show execFirstFaultGather t f s = _
  have hh : ((pre ++ k :: post).head? == some k) = false := by
    obtain ⟨i, pre, rfl⟩ := List.exists_cons_of_ne_nil hne
    simp only [List.cons_append, List.head?_cons, beq_eq_false_iff_ne, ne_eq, Option.some_inj]
    exact fun he => hkp (he ▸ List.mem_cons_self ..)
  rw [execFirstFaultGather, onTile_slot h]
  simp only [hp, if_false, hc, ha, gatherFrom_fault hl hk, hh, Bool.false_eq_true]
  rfl

theorem scatterFrom_ok {pal : List Nat} {p : Ctx × State} (hp : pal = taskPallets p.2 p.1.tag) {t : Nat} {f : VGFields} {l : Nat → List Nat}
    (idx : List Nat) (h : ∀ i ∈ idx, resolveBytes p.2 t p.1 true (vgAddr p.1 f i) 4 = .ok (l i) ∧ hitsInput p.1 (vgAddr p.1 f i) 4 = false)
    {xs : List (Nat × Byte)} {q : Ctx × State} (hq : Wrote pal xs p q) : ∃ r, scatterFrom t f idx q.1 q.2 = (r, none)
      ∧ Wrote pal (xs ++ laneBytes 4 idx l (laneOf 4 (vReg p.1 true f.vd))) p r := by
  induction idx generalizing xs q with
  | nil => exact ⟨q, rfl, by simpa [laneBytes] using hq⟩
  | cons i idx ih =>
    obtain ⟨⟨hres, hin⟩, hidx⟩ := List.forall_mem_cons.mp h
    have ha : vgAddr q.1 f i = vgAddr p.1 f i ∧ vReg q.1 true f.vd = vReg p.1 true f.vd := by rw [hq.ctx]; exact ⟨rfl, rfl⟩
    obtain ⟨r, hr, hw⟩ := hq.storeAt hp (v := laneOf 4 (vReg p.1 true f.vd) i) hres hin
    obtain ⟨r', hr', hw'⟩ := ih hidx hw
    exact ⟨r', by rw [scatterFrom, ha.1, ha.2, hr]; exact hr', by simpa [laneBytes] using hw'⟩

theorem execScatter_ok {t : Nat} {f : VGFields} {s : State} {c : Ctx} {r : Ctx × State} (h : OnSlot s t c) (hc : vgCheck c f = none)
    (hr : scatterFrom t f (vgActive s t c f) c s = (r, none)) :
    exec (.scatter t false f) s = .next (commitTo t { r.1 with vstat := vstatSetStart 0 r.1.vstat } r.2) := by
  show execScatter t false f s = _
  rw [execScatter, onTile_slot h]
  simp only [Bool.false_eq_true, if_false, hc, hr]

theorem execScatter_ff {t : Nat} {f : VGFields} {s : State} {c : Ctx} (h : OnSlot s t c) :
    exec (.scatter t true f) s = .next (takeExc t c illegal s) := by
  show execScatter t true f s = _
  rw [execScatter, onTile_slot h]
  rfl

/-- An element after a gather that loads. -/
theorem gatheredCtx_done {s : State} {t : Nat} (hvl : s.vl t ≤ 4096) {c : Ctx} {f : VGFields}
    (hl : ∀ i ∈ vgActive s t c f, ∃ v, loadAt s t c (vgAddr c f i) 4 = .ok v) {i : Nat} (hi : i < vgCount s t) :
    if isActive 4 (pReg c f.pg) i = false then laneOf 4 (vReg (gatheredCtx s t c f (vgActive s t c f) (idle c f) 0) true f.vd) i = 0
    else if vstatStart c.vstat ≤ i
      then loadAt s t c (vgAddr c f i) 4 = .ok (laneOf 4 (vReg (gatheredCtx s t c f (vgActive s t c f) (idle c f) 0) true f.vd) i)
    else laneOf 4 (vReg (gatheredCtx s t c f (vgActive s t c f) (idle c f) 0) true f.vd) i = laneOf 4 (vReg c true f.vd) i := by
  have hg := gatherWrite_lane hvl c f (vgActive s t c f) (idle c f) hi
  split
  next ha => exact hg.trans (by simp [mem_vgActive, idle, ha])
  next ha =>
    have ha : isActive 4 (pReg c f.pg) i = true := by simpa using ha
    split
    next hs =>
      have hm : i ∈ vgActive s t c f := mem_vgActive.mpr ⟨hi, ha, hs⟩
      exact (loadAt_lane (hl i hm)).trans (congrArg _ (hg.trans (if_pos hm)).symm)
    next hs => exact hg.trans (by simp [mem_vgActive, idle, ha, hs])

/-- An element after a gather that traps. -/
theorem gatheredCtx_trap {s : State} {t : Nat} (hvl : s.vl t ≤ 4096) {c : Ctx} {f : VGFields} {pre : List Nat} {k : Nat}
    (hp : ∀ i, i ∈ pre ↔ i ∈ vgActive s t c f ∧ i < k) (hl : ∀ i ∈ pre, ∃ v, loadAt s t c (vgAddr c f i) 4 = .ok v) {i : Nat}
    (hi : i < vgCount s t) : if i ∈ vgActive s t c f ∧ i < k
      then loadAt s t c (vgAddr c f i) 4 = .ok (laneOf 4 (vReg (gatheredCtx s t c f pre (fun _ => false) k) true f.vd) i)
      else laneOf 4 (vReg (gatheredCtx s t c f pre (fun _ => false) k) true f.vd) i = laneOf 4 (vReg c true f.vd) i := by
  have hg := gatherWrite_lane hvl c f pre (fun _ => false) hi
  split
  next hm => exact (loadAt_lane (hl i ((hp i).mpr hm))).trans (congrArg _ (hg.trans (if_pos ((hp i).mpr hm))).symm)
  next hm => exact hg.trans ((if_neg fun h => hm ((hp i).mp h)).trans (if_neg (by simp)))

theorem keptLanes_getD (s : State) (t : Nat) (c : Ctx) (f : VGFields) (k : Nat) {i : Nat} (hi : i < vgCount s t) :
    (keptLanes s t c f k).getD i false = (isActive 4 (pReg c f.pg) i && decide (i < k)) := by
  simp [keptLanes, List.getD_eq_getElem?_getD, List.getElem?_map, List.getElem?_range hi]

theorem faultedCtx_active {s : State} {t : Nat} (hvl : s.vl t ≤ 4096) {c : Ctx} {f : VGFields} (hp : f.pg ≠ 0) (pre : List Nat) (k : Nat)
    (e : Exc) {i : Nat} (hi : i < vgCount s t) :
    isActive 4 (pReg (faultedCtx s t c f pre k e) f.pg) i = (isActive 4 (pReg c f.pg) i && decide (i < k)) := by
  rw [← keptLanes_getD s t c f k hi]
  exact isActive_setPred _ hp (by decide) (by simpa [keptLanes] using (vg_fits hvl).1) (by simpa [keptLanes] using hi)

theorem faultedCtx_vReg (s : State) (t : Nat) (c : Ctx) (f : VGFields) (pre : List Nat) (k : Nat) (e : Exc) (m : Nat) :
    vReg (faultedCtx s t c f pre k e) true m = vReg (gatherWrite s t c f (pre.map fun j => (j, loaded (loadAt s t c (vgAddr c f j) 4)))
      fun i => !((keptLanes s t c f k).getD i false)) true m := by
  unfold faultedCtx setPred
  dsimp only
  split <;> rfl

/-- An element after a first-fault gather that loses one. -/
theorem faultedCtx_lane {s : State} {t : Nat} (hvl : s.vl t ≤ 4096) {c : Ctx} {f : VGFields} (hpg : f.pg ≠ 0) {pre : List Nat} {k : Nat}
    (e : Exc) (hp : ∀ i, i ∈ pre ↔ i ∈ vgActive s t c f ∧ i < k) (hl : ∀ i ∈ pre, ∃ v, loadAt s t c (vgAddr c f i) 4 = .ok v) {i : Nat}
    (hi : i < vgCount s t) :
    if isActive 4 (pReg (faultedCtx s t c f pre k e) f.pg) i = false then laneOf 4 (vReg (faultedCtx s t c f pre k e) true f.vd) i = 0
    else if vstatStart c.vstat ≤ i
      then loadAt s t c (vgAddr c f i) 4 = .ok (laneOf 4 (vReg (faultedCtx s t c f pre k e) true f.vd) i)
    else laneOf 4 (vReg (faultedCtx s t c f pre k e) true f.vd) i = laneOf 4 (vReg c true f.vd) i := by
  have hg := gatherWrite_lane hvl c f pre (fun i => !((keptLanes s t c f k).getD i false)) hi
  rw [faultedCtx_active hvl hpg pre k e hi, faultedCtx_vReg, hg, keptLanes_getD s t c f k hi]
  split
  next ha =>
    have hn : i ∉ pre := fun hm => by
      obtain ⟨hm, hlt⟩ := (hp i).mp hm
      simp [(mem_vgActive.mp hm).2.1, hlt] at ha
    rw [if_neg hn, if_pos (by simp [ha])]
  next ha =>
    obtain ⟨ha, hlt⟩ : isActive 4 (pReg c f.pg) i = true ∧ i < k := by simpa using ha
    split
    next hs =>
      have hm := (hp i).mpr ⟨mem_vgActive.mpr ⟨hi, ha, hs⟩, hlt⟩
      rw [if_pos hm]
      exact loadAt_lane (hl i hm)
    next hs =>
      rw [if_neg fun hm => hs (mem_vgActive.mp ((hp i).mp hm).1).2.2, if_neg (by simp [ha, hlt])]

theorem setPred_same (c : Ctx) (n b : Nat) (l : List Bool) :
    setPred c n b l = { c with p := (setPred c n b l).p, vstat := (setPred c n b l).vstat } := by
  unfold setPred
  split <;> rfl

theorem faultedCtx_ctx (s : State) (t : Nat) (c : Ctx) (f : VGFields) (pre : List Nat) (k : Nat) (e : Exc) :
    nextPc (faultedCtx s t c f pre k e) = { c with pc := c.pc + 4, v := (faultedCtx s t c f pre k e).v, p := (faultedCtx s t c f pre k e).p,
                                                   ffr := (faultedCtx s t c f pre k e).ffr, vstat := (faultedCtx s t c f pre k e).vstat } := by
  unfold faultedCtx
  dsimp only
  have hw := gatherWrite_ctx s t c f (pre.map fun j => (j, loaded (loadAt s t c (vgAddr c f j) 4))) fun i => !((keptLanes s t c f k).getD i false)
  generalize gatherWrite s t c f (pre.map fun j => (j, loaded (loadAt s t c (vgAddr c f j) 4)))
    (fun i => !((keptLanes s t c f k).getD i false)) = w at hw ⊢
  have hx := setPred_same w f.pg 4 (keptLanes s t c f k)
  generalize setPred w f.pg 4 (keptLanes s t c f k) = x at hx ⊢
  rw [hx, hw]
  rfl

theorem gatheredCtx_start (s : State) (t : Nat) (c : Ctx) (f : VGFields) (pre : List Nat) (clear : Nat → Bool) (k : Nat) :
    vstatStart (gatheredCtx s t c f pre clear k).vstat = k % 1024 := vstatStart_set ..

theorem faultedCtx_start (s : State) (t : Nat) (c : Ctx) (f : VGFields) (pre : List Nat) (k : Nat) (e : Exc) :
    vstatStart (faultedCtx s t c f pre k e).vstat = 0 := by
  unfold faultedCtx
  dsimp only
  rw [vstatStart_set, Nat.zero_mod]

theorem gatheredCtx_other (s : State) (t : Nat) (c : Ctx) (f : VGFields) (pre : List Nat) (clear : Nat → Bool) (k m : Nat) (h : m ≠ f.vd) :
    vReg (gatheredCtx s t c f pre clear k) true m = vReg c true m := by
  have hv : vReg (gatheredCtx s t c f pre clear k) true m
      = vReg (gatherWrite s t c f (pre.map fun j => (j, loaded (loadAt s t c (vgAddr c f j) 4))) clear) true m := rfl
  rw [hv, gatherWrite_other _ _ _ _ _ _ h]

/-- A gather traps at the element that faults. -/
theorem execGather_traps {t : Nat} {f : VGFields} {s : State} {c : Ctx} {k : Nat} {e : Exc} (h : OnSlot s t c) (hvl : s.vl t ≤ 4096)
    (hc : vgCheck c f = none) (hk : k ∈ vgActive s t c f) (he : loadAt s t c (vgAddr c f k) 4 = .error e) (hcode : e.code ≠ 6)
    (hl : ∀ i ∈ vgActive s t c f, i < k → ∃ v, loadAt s t c (vgAddr c f i) 4 = .ok v) :
    ∃ s' c', exec (.gather t f) s = .next s' ∧ Raises s s' t c' e.code (vgAddr c f k) ∧ vstatStart c'.vstat = k
      ∧ (∀ i, i < vgCount s t → if i ∈ vgActive s t c f ∧ i < k
            then loadAt s t c (vgAddr c f i) 4 = .ok (laneOf 4 (vReg c' true f.vd) i)
            else laneOf 4 (vReg c' true f.vd) i = laneOf 4 (vReg c true f.vd) i)
      ∧ (∀ m, m ≠ f.vd → vReg c' true m = vReg c true m) ∧ c' = { c with v := c'.v, vstat := c'.vstat } := by
  obtain ⟨pre, post, ha, hp⟩ := vgActive_split hk
  have hpl : ∀ i ∈ pre, ∃ v, loadAt s t c (vgAddr c f i) 4 = .ok v := fun i hi => hl i ((hp i).mp hi).1 ((hp i).mp hi).2
  have hk1024 : k < 1024 := by
    have h1 := (mem_vgActive.mp hk).1
    have h2 := (vg_fits hvl).1
    omega
  have hs : vstatStart (gatheredCtx s t c f pre (fun _ => false) k).vstat = k := (gatheredCtx_start ..).trans (Nat.mod_eq_of_lt hk1024)
  have hr := takeExc_raises t (gatheredCtx s t c f pre (fun _ => false) k) ⟨e.code, vgAddr c f k⟩ s hcode
  exact ⟨_, gatheredCtx s t c f pre (fun _ => false) k, execGather_fault h hc ha hpl he, hr, hs, fun i hi => gatheredCtx_trap hvl hp hpl hi,
    gatheredCtx_other s t c f pre _ k, rfl⟩

/-- A first-fault gather loses the element that faults after another. -/
theorem execFirstFaultGather_loses {t : Nat} {f : VGFields} {s : State} {c : Ctx} {k : Nat} {e : Exc} (h : OnSlot s t c) (hvl : s.vl t ≤ 4096)
    (hc : vgCheck c f = none) (hk : k ∈ vgActive s t c f) (he : loadAt s t c (vgAddr c f k) 4 = .error e)
    (hl : ∀ i ∈ vgActive s t c f, i < k → ∃ v, loadAt s t c (vgAddr c f i) 4 = .ok v) (hpg : f.pg ≠ 0) (hb : ∃ i ∈ vgActive s t c f, i < k) :
    ∃ s' c', exec (.firstFaultGather t f) s = .next s' ∧ SlotBecomes s s' t c' ∧ Leaves s s' [.tiles] []
        ∧ (∀ i, i < vgCount s t → isActive 4 (pReg c' f.pg) i = (isActive 4 (pReg c f.pg) i && decide (i < k)))
        ∧ (∀ i, i < vgCount s t → if isActive 4 (pReg c' f.pg) i = false then laneOf 4 (vReg c' true f.vd) i = 0
            else if vstatStart c.vstat ≤ i then loadAt s t c (vgAddr c f i) 4 = .ok (laneOf 4 (vReg c' true f.vd) i)
            else laneOf 4 (vReg c' true f.vd) i = laneOf 4 (vReg c true f.vd) i)
        ∧ vstatStart c'.vstat = 0 ∧ c'.ffr = ffrOf ⟨e.code, vgAddr c f k⟩ k
        ∧ c' = { c with pc := c.pc + 4, v := c'.v, p := c'.p, ffr := c'.ffr, vstat := c'.vstat } := by
  obtain ⟨pre, post, ha, hp⟩ := vgActive_split hk
  have hpl : ∀ i ∈ pre, ∃ v, loadAt s t c (vgAddr c f i) 4 = .ok v := fun i hi => hl i ((hp i).mp hi).1 ((hp i).mp hi).2
  obtain ⟨i, hi, hik⟩ := hb
  have hne : pre ≠ [] := List.ne_nil_of_mem ((hp i).mpr ⟨hi, hik⟩)
  refine ⟨_, nextPc (faultedCtx s t c f pre k ⟨e.code, vgAddr c f k⟩),
    execFirstFaultGather_fault h hc hpg ha hne (fun hkp => lt_irrefl k ((hp k).mp hkp).2) hpl he,
    putCtx_becomes .., putCtx_leaves _ _ _ (by decide), fun i hi => faultedCtx_active hvl hpg pre k ⟨e.code, vgAddr c f k⟩ hi,
    fun i hi => faultedCtx_lane hvl hpg ⟨e.code, vgAddr c f k⟩ hp hpl hi,
    faultedCtx_start s t c f pre k ⟨e.code, vgAddr c f k⟩, rfl, faultedCtx_ctx ..⟩

end Sys2Proof.Machine

open Sys2Proof Sys2Proof.Machine Sys2Proof.Safety

/-- Settles O37: loads are read through the tile's addresses, and a store is a run of bytes of which the last to reach a place stays. -/
theorem loadsAndStores : Obligations.LoadsAndStores := by
  unfold Obligations.LoadsAndStores
  refine ⟨fun t gd ga offset size signed s c l h hs ha hr => ?_, fun t gd ga offset size s c h hs ha => ?_,
    fun t gd ga offset size s c l h hs ha hr hi => ?_, fun t f s c h hvl hc hl => ?_, fun t f s c l h hc hl => ?_,
    fun t f s c h hvl hc hl => ?_, fun t f s c k e h hvl hc hk he hcode hl => ?_, fun t f s c l h hc hl => ?_, fun t f s c h => ?_⟩
  · exact ⟨_, execScalarLoad_ok h hs ha hr, commitTo_commits ..⟩
  · have hs' : size ∈ [1, 2, 4, 8] := List.mem_cons_of_mem _ hs
    exact ⟨fun signed => ⟨_, execScalarLoad_align h hs' ha, takeExc_raises t c ⟨3, _⟩ s (show (3 : Nat) ≠ 6 by decide)⟩,
      ⟨_, execScalarStore_align h hs' ha, takeExc_raises t c ⟨3, _⟩ s (show (3 : Nat) ≠ 6 by decide)⟩⟩
  · obtain ⟨r, hst, hw⟩ := (Wrote.refl (taskPallets s c.tag) (c, s)).storeAt rfl (v := (gReg c gd).toNat) hr hi
    have hw' : Wrote (taskPallets s c.tag) (laneBytes size [0] (fun _ => l) fun _ => (gReg c gd).toNat) (c, s) r := by
      simpa [laneBytes] using hw
    obtain ⟨hb, hsl⟩ := hw'.commit (t := t) (k := nextPc r.1) (fun i _ => resolveBytes_length hr) rfl
    exact ⟨_, _, execScalarStore_ok h hs ha hst, hb, by rw [hw.ctx]; rfl, hsl⟩
  · have hfit : 8 * elemBytes f.et * ((List.range (laneCount s t f.long f.et)).map (vmLoaded s t c f)).length ≤ vBits f.long := by
      simpa using laneCount_bytes hvl f.long f.et
    refine ⟨_, _, execVectorLoad_ok h hc hl, putCtx_becomes .., putCtx_leaves _ _ _ (by decide), fun i hi => ?_,
      fun m hm => vReg_setV_ne c f.long _ hm, by cases f.long <;> rfl⟩
    have hlane := laneOf_setV c f.d hfit i
    simp only [List.getD_eq_getElem?_getD, List.getElem?_map, List.getElem?_range hi, Option.map_some, Option.getD_some] at hlane
    split
    next ha =>
      have hv := loaded_eq (hl i hi ha)
      refine hv.trans (congrArg _ (hlane.trans ?_).symm)
      rw [vmLoaded, if_pos ha, Nat.mod_eq_of_lt (loadAt_lt hv)]
    next ha => exact hlane.trans (by rw [vmLoaded, if_neg ha, Nat.zero_mod])
  · obtain ⟨r, hst, hw⟩ := storeLanes_map (p := (c, s)) (t := t) (b := elemBytes f.et) (g := isActive (elemBytes f.et) (pReg c f.pg))
      (A := fun i => (vmAddrs c f (laneCount s t f.long f.et)).getD i 0) (V := laneOf (elemBytes f.et) (vReg c f.long f.d)) (l := l) rfl
      (List.range (laneCount s t f.long f.et)) (fun i hi => hl i (List.mem_range.mp hi)) (Wrote.refl (taskPallets s c.tag) (c, s))
    rw [← vmAddrs_map] at hst
    rw [List.nil_append] at hw
    obtain ⟨hb, hsl⟩ := hw.commit (t := t) (k := nextPc r.1) (fun i hi => by
      obtain ⟨hi, ha⟩ := List.mem_filter.mp hi
      exact resolveBytes_length (hl i (List.mem_range.mp hi) ha).1) rfl
    exact ⟨_, _, execVectorStore_ok h hc hst, hb, by rw [hw.ctx]; rfl, hsl⟩
  · refine ⟨nextPc (gatheredCtx s t c f (vgActive s t c f) (idle c f) 0), fun i hi => gatheredCtx_done hvl hl hi,
      gatheredCtx_other s t c f (vgActive s t c f) (idle c f) 0, (gatheredCtx_start s t c f (vgActive s t c f) (idle c f) 0).trans (Nat.zero_mod _), rfl, ⟨_, execGather_ok h hc hl,
      putCtx_becomes .., putCtx_leaves _ _ _ (by decide)⟩, fun hp => ⟨_, execFirstFaultGather_ok h hc hp hl, putCtx_becomes ..,
      putCtx_leaves _ _ _ (by decide)⟩⟩
  · exact ⟨execGather_traps h hvl hc hk he hcode hl, execFirstFaultGather_loses h hvl hc hk he hl⟩
  · obtain ⟨r, hst, hw⟩ := scatterFrom_ok (p := (c, s)) (t := t) (f := f) (l := l) rfl (vgActive s t c f) hl (Wrote.refl (taskPallets s c.tag) (c, s))
    rw [List.nil_append] at hw
    obtain ⟨hb, hsl⟩ := hw.commit (t := t) (k := nextPc { r.1 with vstat := vstatSetStart 0 r.1.vstat })
      (fun i hi => resolveBytes_length (hl i hi).1) rfl
    exact ⟨_, _, execScatter_ok h hc hst, hb, by rw [hw.ctx]; rfl, hsl⟩
  · exact ⟨_, execScatter_ff h, takeExc_raises t c illegal s (by decide)⟩
end

section
/-! SUPPORT. Instructions on a fused ticket (12 R409 to R412, R419, R421): what each does with a live job and without one. -/
namespace Sys2Proof.Machine
open Sys2Proof.Safety

theorem onTicket_live {t ga slot : Nat} {ok : Bool} {c : Ctx} {s : State} {j : FusedJob} (f : Nat → FusedJob → State) (hg : ga < 32)
    (hok : ok = true) (hs : slot = (gReg c ga).toNat % 2 ^ 8) (hj : Store.find c.jobs slot = some j) : onTicket t ga ok c s f = f slot j := by
  have ht : ticketJob c (gReg c ga) = some (slot, j) := by
    subst hs
    exact congrArg (Option.map _) hj
  have hn : ¬(32 ≤ ga || !ok) = true := by simp [Nat.not_le.mpr hg, hok]
  rw [onTicket, if_neg hn, ht]

theorem onTicket_none {t ga : Nat} {ok : Bool} {c : Ctx} {s : State} (f : Nat → FusedJob → State) (hg : ga < 32) (hok : ok = true)
    (hj : Store.find c.jobs ((gReg c ga).toNat % 2 ^ 8) = none) : onTicket t ga ok c s f = takeExc t c (fusedExc 2 0) s := by
  have ht : ticketJob c (gReg c ga) = none := congrArg (Option.map _) hj
  have hn : ¬(32 ≤ ga || !ok) = true := by simp [Nat.not_le.mpr hg, hok]
  rw [onTicket, if_neg hn, ht]

/-- A ticket without a live job raises FUSED with reason TICKET. -/
theorem takeExc_ticket (t : Nat) (c : Ctx) (s : State) : Raises s (takeExc t c (fusedExc 2 0) s) t c 12 (2 * 2 ^ 56) :=
  takeExc_raises t c (fusedExc 2 0) s (show (12 : Nat) ≠ 6 by decide)

theorem execFwait_eq (t gd ga : Nat) (s : State) : exec (.fwait t gd ga) s = onTile t s fun c s =>
    onTicket t ga (decide (gd < 32)) c s fun slot j =>
      if j.settled then commitTo t (setG { c with jobs := Store.drop c.jobs slot } gd (completionOf j)) s else s := rfl

theorem execFtest_eq (t gd ga : Nat) (s : State) : exec (.ftest t gd ga) s = onTile t s fun c s =>
    onTicket t ga (decide (gd < 32)) c s fun _ j => commitTo t (setG c gd (completionOf j)) s := rfl

theorem execFcancel_eq (t ga : Nat) (s : State) : exec (.fcancel t ga) s = onTile t s fun c s =>
    onTicket t ga true c s fun slot j => if j.settled then commitTo t c s
      else if j.sent then commitTo t { c with jobs := Store.put c.jobs slot { j with cancel := true } } s
      else commitTo t { c with jobs := Store.put c.jobs slot { j with settled := true, cancelled := true } } (s.bump O.fusedCancelled 1) := rfl

theorem execBfb_eq (t ga : Nat) (offset : Int) (s : State) : exec (.bfb t ga offset) s = onTile t s fun c s =>
    onTicket t ga true c s fun _ j => branchTo t (!j.settled) offset c s := rfl

theorem execBff_eq (t cls : Nat) (offset : Int) (s : State) : exec (.bff t cls offset) s = onTile t s fun c s =>
    if 4 ≤ cls then takeExc t c illegal s else branchTo t (freeSlot c cls).isNone offset c s := rfl

theorem branchTo_eq (t : Nat) (taken : Bool) (offset : Int) (c : Ctx) (s : State) :
    branchTo t (!taken) offset c s = putCtx t { c with pc := if taken = true then c.pc + 4 else c.pc + BitVec.ofInt 64 (4 * offset) } s := by
  cases taken <;> rfl

theorem freeSlot_isNone (c : Ctx) (cls : Nat) : (freeSlot c cls).isNone
    = !(List.range c.slots.length).any fun i => c.slots[i]? == some cls && (Store.find c.jobs i).isNone := by
  unfold freeSlot
  rw [Bool.eq_iff_iff, Option.isNone_iff_eq_none, List.find?_eq_none, Bool.not_eq_true', List.any_eq_false]

/-! ## The completion word (12 Table 12-5) -/

theorem completionOf_fields (j : FusedJob) : (completionOf j).extractLsb' 0 2 = (if j.settled = true then (if j.cancelled = true then 1 else 0) else 2)
    ∧ (completionOf j).extractLsb' 16 16 = BitVec.ofNat 16 j.tag
    ∧ (completionOf j).extractLsb' 32 32 = if j.settled = true ∧ j.cancelled = false then BitVec.ofNat 32 j.word else 0 := by
  have ht : j.tag % 2 ^ 16 < 2 ^ 16 := Nat.mod_lt _ (by decide)
  have hw : j.word % 2 ^ 32 < 2 ^ 32 := Nat.mod_lt _ (by decide)
  refine ⟨?_, ?_, ?_⟩ <;>
    (refine BitVec.eq_of_toNat_eq ?_
     simp only [completionOf, BitVec.extractLsb'_toNat, BitVec.toNat_ofNat, Nat.shiftRight_eq_div_pow]
     cases j.settled <;> cases j.cancelled <;> simp <;> omega)

end Sys2Proof.Machine

open Sys2Proof Sys2Proof.Machine Sys2Proof.Safety

/-- Settles O42: each instruction acts on the job that its ticket names, and without one raises FUSED. -/
theorem fusedTickets : Obligations.FusedTickets := by
  unfold Obligations.FusedTickets
  refine ⟨fun t gd ga slot s c j h hd hg hs hj => ⟨?_, ?_, ?_, fun offset => ?_⟩, fun t gd ga s c h hd hg hj => ⟨?_, ?_, ?_⟩,
    fun t cls offset s c h hc => ?_, completionOf_fields⟩
  · refine ⟨_, (execFwait_eq ..).trans ((onTile_slot h _).trans (congrArg _ (onTicket_live _ hg (decide_eq_true hd) hs hj))), ?_⟩
    split
    · exact commitTo_commits ..
    · rfl
  · exact ⟨_, (execFtest_eq ..).trans ((onTile_slot h _).trans (congrArg _ (onTicket_live _ hg (decide_eq_true hd) hs hj))), commitTo_commits ..⟩
  · refine ⟨_, (execFcancel_eq ..).trans ((onTile_slot h _).trans (congrArg _ (onTicket_live _ hg rfl hs hj))), ?_⟩
    split
    · exact commitTo_commits ..
    · split
      · exact commitTo_commits ..
      · exact ⟨SlotBecomes.of_tiles rfl (putCtx_becomes ..), State.obj_bump_same s O.fusedCancelled 1,
          Leaves.trans (Leaves.bump _ _ _ (by decide) (by decide)) (putCtx_leaves _ _ _ (by decide))⟩
  · refine ⟨_, (execBfb_eq ..).trans ((onTile_slot h _).trans (congrArg _ (onTicket_live _ hg rfl hs hj))), ?_⟩
    rw [branchTo_eq]
    exact ⟨putCtx_leaves _ _ _ (by decide), putCtx_becomes ..⟩
  · exact ⟨_, (execFwait_eq ..).trans ((onTile_slot h _).trans (congrArg _ (onTicket_none _ hg (decide_eq_true hd) hj))), takeExc_ticket ..⟩
  · exact ⟨_, (execFtest_eq ..).trans ((onTile_slot h _).trans (congrArg _ (onTicket_none _ hg (decide_eq_true hd) hj))), takeExc_ticket ..⟩
  · exact ⟨_, (execFcancel_eq ..).trans ((onTile_slot h _).trans (congrArg _ (onTicket_none _ hg rfl hj))), takeExc_ticket ..⟩
  · refine ⟨_, (execBff_eq ..).trans ((onTile_slot h _).trans (congrArg _ (if_neg (Nat.not_le.mpr hc)))), ?_⟩
    rw [freeSlot_isNone, branchTo_eq]
    exact ⟨putCtx_leaves _ _ _ (by decide), putCtx_becomes ..⟩
end

section
/-! SUPPORT. Fused jobs (12 R408 to R420): what a FUSE, a send and a publication leave of the task's jobs. -/
namespace Sys2Proof.Machine
open Sys2Proof.Safety

theorem Store.put_put {α : Type} (m : Store α) (k : Nat) (v w : α) : Store.put (Store.put m k v) k w = Store.put m k w := by
  induction m with
  | nil => simp [Store.put]
  | cons e m ih =>
    obtain ⟨a, x⟩ := e
    by_cases h1 : k < a
    · simp [Store.put, h1]
    · by_cases h2 : k = a
      · simp [Store.put, h2]
      · simp [Store.put, h1, h2, ih]

/-! ## Sending a job -/

theorem onJob_found {s : State} {t slot : Nat} {x : Ctx} {j : FusedJob} (f : FusedJob → FusedJob) (hx : Store.find s.tiles t = some x)
    (hj : Store.find x.jobs slot = some j) : s.onJob t slot f = putCtx t { x with jobs := Store.put x.jobs slot (f j) } s := by
  simp only [State.onJob, hx, hj, putCtx]

/-- A job that is no decode is sent: it is counted, and marked. -/
theorem sendJob_plain {s : State} {t slot : Nat} {x : Ctx} {j k : FusedJob} (hx : Store.find s.tiles t = some x)
    (hk : Store.find x.jobs slot = some k) (hc : j.cls ≠ 0) : sendJob t slot j s
      = putCtx t { x with jobs := Store.put x.jobs slot { j with sent := true } } (s.bump O.fusedIssued 1) := by
  unfold sendJob
  dsimp only
  rw [if_neg (by simpa using hc), onJob_found _ (s := s.bump O.fusedIssued 1) hx hk]

/-- A decode that the kiln takes is sent: the kiln holds it. -/
theorem sendJob_decode {s : State} {t slot : Nat} {x : Ctx} {j k : FusedJob} (hx : Store.find s.tiles t = some x)
    (hk : Store.find x.jobs slot = some k) (hc : j.cls = 0) (hb : badDecode j.desc = false) : ∃ (u : State) (job : Job), sendJob t slot j s
      = { u with kiln := { u.kiln with jobs := Store.put u.kiln.jobs j.tag job } } ∧ job.desc = j.desc ∧ job.status = none
        ∧ u = putCtx t { x with jobs := Store.put x.jobs slot { j with sent := true } } (s.bump O.fusedIssued 1) := by
  have hu := onJob_found (fun _ => { j with sent := true }) (s := s.bump O.fusedIssued 1) hx hk
  refine ⟨_, fusedKilnJob ((s.bump O.fusedIssued 1).onJob t slot fun _ => { j with sent := true }) t { j with sent := true }
    ((Store.find ((s.bump O.fusedIssued 1).onJob t slot fun _ => { j with sent := true }).tiles t).bind fun c =>
      ((s.bump O.fusedIssued 1).onJob t slot fun _ => { j with sent := true }).op c.tag), ?_, rfl, rfl, hu⟩
  unfold sendJob
  dsimp only
  rw [if_pos (beq_iff_eq.mpr hc), hb]
  rfl

/-! ## FUSE -/

/-- The job that a FUSE starts. -/
def fuseJob (s : State) (t : Nat) (c : Ctx) (addr cls : Nat) (sizes : List Nat) (d : Bytes) : FusedJob :=
  ⟨cls, s.sched.nextTag % 2 ^ 16, bytesAt d 0 1, c.gen, addr, fuseExtents cls d sizes, false, false, false, false, false, 0,
    sentCopy cls c.gen (s.sched.nextTag % 2 ^ 16) d, pointerPages t c (fuseExtents cls d sizes), []⟩

/-- The same job once it is sent. -/
def sentJob (j : FusedJob) : FusedJob := { j with sent := true }

/-- The context in which a FUSE has taken its slot, before the pc moves on. -/
def fuseCtx (c : Ctx) (gd slot : Nat) (j : FusedJob) : Ctx := setG { c with jobs := Store.put c.jobs slot j } gd (ticketOf slot j.cls j.tag)

/-- The state in which a FUSE has taken its slot. -/
def atFuse (s : State) (t : Nat) (c : Ctx) (gd slot : Nat) (j : FusedJob) : State :=
  commitTo t (fuseCtx c gd slot j) { s with sched := { s.sched with nextTag := s.sched.nextTag + 1 } }

theorem execFuse_ok {t gd ga cls : Nat} {sizes : List Nat} {s : State} {c : Ctx} {d : Bytes} {slot : Nat} (h : OnSlot s t c) (hc : cls < 4)
    (hd : gd < 32) (ha : ga < 32) (hj : judgeFuse s t c (gReg c ga).toNat cls sizes = .ok (d, slot)) :
    exec (.fuse t gd ga cls sizes) s = .next (if s.obj (O.bondState (t / 2)) = 2
      then atFuse s t c gd slot (fuseJob s t c (gReg c ga).toNat cls sizes d)
      else sendJob t slot (fuseJob s t c (gReg c ga).toNat cls sizes d) (atFuse s t c gd slot (fuseJob s t c (gReg c ga).toNat cls sizes d))) := by
  have hn : ¬(4 ≤ cls || 32 ≤ gd || 32 ≤ ga) = true := by simp [Nat.not_le.mpr hc, Nat.not_le.mpr hd, Nat.not_le.mpr ha]
  show execFuse t gd ga cls sizes s = _
  rw [execFuse, onTile_slot h, if_neg hn]
  simp only [hj]
  refine congrArg _ ?_
  by_cases hb : s.obj (O.bondState (t / 2)) = 2
  · rw [if_pos hb]
    exact if_pos (beq_iff_eq.mpr hb)
  · rw [if_neg hb]
    exact if_neg (mt beq_iff_eq.mp hb)

theorem execFuse_error {t gd ga cls : Nat} {sizes : List Nat} {s : State} {c : Ctx} {e : Exc} (h : OnSlot s t c) (hc : cls < 4)
    (hd : gd < 32) (ha : ga < 32) (hj : judgeFuse s t c (gReg c ga).toNat cls sizes = .error e) :
    exec (.fuse t gd ga cls sizes) s = .next (takeExc t c e s) := by
  have hn : ¬(4 ≤ cls || 32 ≤ gd || 32 ≤ ga) = true := by simp [Nat.not_le.mpr hc, Nat.not_le.mpr hd, Nat.not_le.mpr ha]
  show execFuse t gd ga cls sizes s = _
  rw [execFuse, onTile_slot h, if_neg hn]
  simp only [hj]

theorem setG_jobs (c : Ctx) (jobs : Store FusedJob) (n : Nat) (w : Word) :
    setG { c with jobs := jobs } n w = { setG c n w with jobs := jobs } := by
  unfold setG
  split <;> rfl

theorem setG_pc (c : Ctx) (n : Nat) (w : Word) : (setG c n w).pc = c.pc := by
  unfold setG
  split <;> rfl

theorem atFuse_found (s : State) (t : Nat) (c : Ctx) (gd slot : Nat) (j : FusedJob) :
    Store.find (atFuse s t c gd slot j).tiles t = some (nextPc (fuseCtx c gd slot j))
      ∧ Store.find (nextPc (fuseCtx c gd slot j)).jobs slot = some j := by
  refine ⟨Store.find_put_same .., ?_⟩
  rw [fuseCtx, setG_jobs]
  exact Store.find_put_same ..

theorem atFuse_leaves (s : State) (t : Nat) (c : Ctx) (gd slot : Nat) (j : FusedJob) {ps : List Part} {ks : List Nat} (h1 : Part.sched ∈ ps)
    (h2 : Part.tiles ∈ ps) : Leaves s (atFuse s t c gd slot j) ps ks :=
  Leaves.of_dict (fun p hp => by cases p <;> simp_all [Part.same, atFuse, commitTo, putCtx]) rfl

/-- The context of a FUSE whose job is sent: as if it had been sent when it took its slot. -/
theorem fuseCtx_sent (c : Ctx) (gd slot : Nat) (j : FusedJob) :
    ({ nextPc (fuseCtx c gd slot j) with jobs := Store.put (nextPc (fuseCtx c gd slot j)).jobs slot (sentJob j) } : Ctx)
      = { fuseCtx c gd slot (sentJob j) with pc := c.pc + 4 } := by
  unfold fuseCtx setG nextPc
  split <;> simp only [Store.put_put] <;> rfl

theorem fuseCtx_pc (c : Ctx) (gd slot : Nat) (j : FusedJob) : nextPc (fuseCtx c gd slot j) = { fuseCtx c gd slot j with pc := c.pc + 4 } := by
  unfold fuseCtx setG nextPc
  split <;> rfl

/-- A FUSE whose job is no decode and is sent at once. -/
theorem sendJob_fused (s : State) (t : Nat) (c : Ctx) (gd slot : Nat) {j : FusedJob} (h : j.cls ≠ 0) :
    sendJob t slot j (atFuse s t c gd slot j)
      = putCtx t { fuseCtx c gd slot (sentJob j) with pc := c.pc + 4 } ((atFuse s t c gd slot j).bump O.fusedIssued 1) := by
  obtain ⟨hf, hk⟩ := atFuse_found s t c gd slot j
  rw [← fuseCtx_sent]
  exact sendJob_plain hf hk h

theorem sent_ticket (slot cls tag : Nat) (h : tag < 2 ^ 16) :
    ticketOf slot cls tag = BitVec.ofNat 64 (slot + cls * 2 ^ 8 + tag * 2 ^ 16) := by
  rw [ticketOf, Nat.mod_eq_of_lt h]

/-- The objects of a refused FUSE (12 R419). -/
theorem takeExc_fused (t : Nat) (c : Ctx) (e : Exc) (s : State) (h : e.code = 12) : Counted s (takeExc t c e s) O.fusedRefused 1
    ∧ (takeExc t c e s).obj O.fusedLastRefusal = (e.addr / 2 ^ 56 : Nat) := by
  have ht : takeExc t c e s = putCtx t (excCtx c e.code e.addr) (countExc t c e s) := by
    unfold takeExc noteExc
    rw [if_neg (by simp [h]), enterExc_eq]
  obtain ⟨h1, h2⟩ := kExceptions_ne t
  have hk (v : State) : (if c.level == 0 then v.bump (O.kExceptions t) 1 else v).obj O.fusedRefused = v.obj O.fusedRefused := by
    rw [apply_ite (fun u : State => u.obj O.fusedRefused), State.obj_bump_ne _ _ _ _ (Ne.symm h1), ite_self]
  have hc : (countExc t c e s).obj O.fusedRefused
      = (((if c.level == 0 then s.bump (O.kExceptions t) 1 else s).nat O.fusedRefused + 1) % counterTop O.fusedRefused : Nat) := by
    unfold countExc
    dsimp only
    rw [if_pos (beq_iff_eq.mpr h), State.obj_setObj_ne _ _ _ _ (by decide), State.obj_bump_same]
    rfl
  have hl : (countExc t c e s).obj O.fusedLastRefusal = (e.addr / 2 ^ 56 : Nat) := by
    unfold countExc
    dsimp only
    rw [if_pos (beq_iff_eq.mpr h), State.obj_setObj_same]
  rw [ht]
  exact ⟨hc.trans (by rw [State.nat, hk]; rfl), hl⟩

/-! ## Publication -/

theorem mergeOutput_wrote {pal : List Nat} {xs : List (Nat × Byte)} {p q : Ctx × State} (h : Wrote pal xs p q)
    (hp : pal = taskPallets p.2 p.1.tag) (t : Nat) (j : FusedJob) (x : Nat × Bytes) : ∃ ys, Wrote pal ys p (mergeOutput t j q x) := by
  have hs : q.2.sched = p.2.sched := h.same .sched (by decide)
  have ht : taskPallets q.2 q.1.tag = pal := by
    rw [hp, h.ctx]
    simp only [taskPallets, State.op, hs]
  unfold mergeOutput
  split
  · split
    next l _ => exact ⟨_, h.trans (ht ▸ Wrote.storeBytes l x.2 q.1 q.2)⟩
    next => exact ⟨_, h⟩
  · exact ⟨_, h⟩

theorem mergeOutputs_wrote {pal : List Nat} {xs : List (Nat × Byte)} {p q : Ctx × State} (h : Wrote pal xs p q)
    (hp : pal = taskPallets p.2 p.1.tag) (t : Nat) (j : FusedJob) (l : List (Nat × Bytes)) : ∃ ys, Wrote pal ys p (l.foldl (mergeOutput t j) q) := by
  induction l generalizing xs q with
  | nil => exact ⟨_, h⟩
  | cons x l ih =>
    obtain ⟨ys, hy⟩ := mergeOutput_wrote h hp t j x
    exact ih hy

theorem mergeOutputs_none (t : Nat) (j : FusedJob) {l : List (Nat × Bytes)} (h : ∀ x ∈ l, inOutput j x.1 x.2.length = false) (p : Ctx × State) :
    l.foldl (mergeOutput t j) p = p := by
  induction l generalizing p with
  | nil => rfl
  | cons x l ih =>
    obtain ⟨hx, hl⟩ := List.forall_mem_cons.mp h
    rw [List.foldl_cons, mergeOutput, hx]
    exact ih hl p

/-- What a job has staged when it is published. -/
def publishedOutputs (s : State) (t : Nat) (j : FusedJob) (outputs : List (Nat × Bytes)) : List (Nat × Bytes) :=
  match j.cls with
  | 0 => j.staged
  | 1 => (fusedEncode s t j).2.1
  | _ => outputs ++ j.staged

theorem publishedOutputs_eq (s : State) (t : Nat) (j : FusedJob) (outputs : List (Nat × Bytes)) : publishedOutputs s t j outputs
    = if j.cls = 0 then j.staged else if j.cls = 1 then (fusedEncode s t j).2.1 else outputs ++ j.staged := by
  unfold publishedOutputs
  split <;> simp_all

/-- The context and the state once a job's outputs are merged. -/
def atPublish (s : State) (t : Nat) (c : Ctx) (j : FusedJob) (outputs : List (Nat × Bytes)) : Ctx × State :=
  (publishedOutputs s t j outputs).foldl (mergeOutput t j) (c, countEncode s j (fusedEncode s t j).2.2)

/-- The job once it is published. -/
def publishedJob (s : State) (t : Nat) (j : FusedJob) (result : Bytes) : FusedJob :=
  { j with ended := true, settled := true,
           word := (if j.ended = true then j.word else bytesAt (if j.cls = 1 then (fusedEncode s t j).1 else result) 0 4) }

theorem execFusedPublication_due {t slot : Nat} {result : Bytes} {outputs : List (Nat × Bytes)} {s : State} {c : Ctx} {j : FusedJob} (ht : t < 200)
    (hc : Store.find s.tiles t = some c) (hj : Store.find c.jobs slot = some j) (hs : j.sent = true) (hn : j.settled = false) (hx : j.cancel = false)
    (he : jobEnded j = true) : exec (.fusedPublication t slot result outputs) s
      = .next ((putCtx t { (atPublish s t c j outputs).1 with
          jobs := Store.put (atPublish s t c j outputs).1.jobs slot (publishedJob s t j result) } (atPublish s t c j outputs).2).bump O.fusedPublished 1) := by
  have hw : (if j.cls = 1 then (fusedEncode s t j).1 else result) = if j.cls == 1 then (fusedEncode s t j).1 else result :=
    if_congr beq_iff_eq.symm rfl rfl
  show execFusedPublication t slot result outputs s = _
  unfold execFusedPublication
  rw [if_neg (show ¬tileCount ≤ t from Nat.not_le.mpr ht), hc]
  have hdue : (j.sent && !j.settled && !j.cancel && jobEnded j) = true := by simp [hs, hn, hx, he]
  simp only [Option.bind_some, hj, Option.map_some]
  rw [if_pos hdue]
  rw [publishedJob, hw, atPublish]
  rfl

theorem countEncode_leaves (s : State) (j : FusedJob) (n : Nat) :
    Leaves s (countEncode s j n) [.dict] (if j.cls = 1 then [O.encJobs, O.badJobs, O.encBlocks] else []) := by
  unfold countEncode
  by_cases h : j.cls = 1
  · simp only [h, bne_self_eq_false, Bool.false_eq_true, if_false, if_true]
    refine Leaves.ite _ (Leaves.trans (Leaves.bump _ _ _ (by decide) (by decide)) (Leaves.bump _ _ _ (by decide) (by decide)))
      (Leaves.trans (Leaves.bump _ _ _ (by decide) (by decide)) (Leaves.bump _ _ _ (by decide) (by decide)))
  · rw [if_pos (by simpa using h)]
    exact Leaves.refl ..

theorem countEncode_counted (s : State) (j : FusedJob) (n : Nat) (h : j.cls = 1) : Counted s (countEncode s j n) O.encJobs 1
    ∧ if badEncode j.desc = true then Counted s (countEncode s j n) O.badJobs 1 else Counted s (countEncode s j n) O.encBlocks n := by
  unfold countEncode
  rw [if_neg (by simp [h])]
  split
  · exact ⟨(State.obj_bump_ne _ _ _ _ (by decide)).trans (State.obj_bump_same ..), by
      rw [Counted, State.obj_bump_same, State.nat, State.obj_bump_ne _ _ _ _ (by decide)]; rfl⟩
  · exact ⟨(State.obj_bump_ne _ _ _ _ (by decide)).trans (State.obj_bump_same ..), by
      rw [Counted, State.obj_bump_same, State.nat, State.obj_bump_ne _ _ _ _ (by decide)]; rfl⟩

theorem atPublish_wrote (s : State) (t : Nat) (c : Ctx) (j : FusedJob) (outputs : List (Nat × Bytes)) : ∃ ys,
    Wrote (taskPallets (countEncode s j (fusedEncode s t j).2.2) c.tag) ys (c, countEncode s j (fusedEncode s t j).2.2) (atPublish s t c j outputs) :=
  mergeOutputs_wrote (p := (c, countEncode s j (fusedEncode s t j).2.2)) (Wrote.refl _ _) rfl t j _

end Sys2Proof.Machine

open Sys2Proof Sys2Proof.Machine Sys2Proof.Safety

/-- Settles O41: a FUSE and a send act on the job of one slot, and a publication is a run of stores after which the job is settled. -/
theorem fusedJobs : Obligations.FusedJobs := by
  unfold Obligations.FusedJobs
  refine ⟨fun t gd ga cls sizes s c d slot h hc hd ha hj hb h0 => ?_, fun t gd ga sizes s c d copy slot tag h hd ha hj hb htag hcopy hbad => ?_,
    fun t gd ga cls sizes s c d slot h hc hd ha hj hb => ?_, fun t gd ga cls sizes s c e h hc hd ha hj he => ?_,
    fun t slot s c j ht hc hj hs hn h0 => ?_, fun t slot result outputs s c j ht hc hj hs hn hx he => ?_⟩
  · have hl := atFuse_leaves s t c gd slot (fuseJob s t c (gReg c ga).toNat cls sizes d) (ps := [.dict, .sched, .tiles]) (ks := [O.fusedIssued])
      (by decide) (by decide)
    have hb' := Leaves.bump (atFuse s t c gd slot (fuseJob s t c (gReg c ga).toNat cls sizes d)) O.fusedIssued 1 (ps := [.dict, .sched, .tiles])
      (ks := [O.fusedIssued]) (by decide) (by decide)
    refine ⟨_, fuseCtx c gd slot (sentJob (fuseJob s t c (gReg c ga).toNat cls sizes d)), sentJob (fuseJob s t c (gReg c ga).toNat cls sizes d),
      (execFuse_ok h hc hd ha hj).trans (congrArg _ ((if_neg hb).trans (sendJob_fused s t c gd slot h0))), ⟨?_, fun u hu => ?_⟩, ?_, rfl, rfl, rfl,
      rfl, rfl, rfl, rfl, rfl, rfl, ?_, Leaves.trans hl (Leaves.trans hb' (putCtx_leaves _ _ _ (by decide)))⟩
    · exact Store.find_put_same ..
    · exact (Store.find_put_ne _ _ _ _ hu).trans (Store.find_put_ne _ _ _ _ hu)
    · rw [← sent_ticket slot cls _ (Nat.mod_lt _ (by decide))]
      rfl
    · exact State.obj_bump_same ..
  · subst htag hcopy
    obtain ⟨hf, hk⟩ := atFuse_found s t c gd slot (fuseJob s t c (gReg c ga).toNat 0 sizes d)
    obtain ⟨u, job, hsend, hdesc, hst, hu⟩ := sendJob_decode (j := fuseJob s t c (gReg c ga).toNat 0 sizes d) hf hk rfl hbad
    have hl := atFuse_leaves s t c gd slot (fuseJob s t c (gReg c ga).toNat 0 sizes d) (ps := [.dict, .kiln, .sched, .tiles]) (ks := [O.fusedIssued])
      (by decide) (by decide)
    have hb' := Leaves.bump (atFuse s t c gd slot (fuseJob s t c (gReg c ga).toNat 0 sizes d)) O.fusedIssued 1 (ps := [.dict, .kiln, .sched, .tiles])
      (ks := [O.fusedIssued]) (by decide) (by decide)
    have hk' : Leaves u { u with kiln := { u.kiln with jobs := Store.put u.kiln.jobs (s.sched.nextTag % 2 ^ 16) job } } [.dict, .kiln, .sched, .tiles]
        [O.fusedIssued] := Leaves.of_dict (fun p hp => by cases p <;> simp_all [Part.same]) rfl
    have hkiln : u.kiln = s.kiln := by rw [hu]; rfl
    refine ⟨_, job, (execFuse_ok h (by decide) hd ha hj).trans (congrArg _ ((if_neg hb).trans hsend)), Store.find_put_same .., hdesc, hst,
      fun k hk => (Store.find_put_ne _ _ _ _ hk).trans (by rw [hkiln]), ?_, ?_⟩
    · have hc1 : u.obj O.fusedIssued = ((s.nat O.fusedIssued + 1) % counterTop O.fusedIssued : Nat) := by
        rw [hu]
        exact State.obj_bump_same ..
      exact hc1
    · refine Leaves.trans hl (Leaves.trans ?_ hk')
      rw [hu]
      exact Leaves.trans hb' (putCtx_leaves _ _ _ (by decide))
  · refine ⟨_, fuseCtx c gd slot (fuseJob s t c (gReg c ga).toNat cls sizes d), fuseJob s t c (gReg c ga).toNat cls sizes d,
      (execFuse_ok h hc hd ha hj).trans (congrArg _ (if_pos hb)), ⟨?_, fun u hu => ?_⟩,
      ?_, rfl, rfl, rfl, rfl, atFuse_leaves _ _ _ _ _ _ (by decide) (by decide)⟩
    · rw [(atFuse_found ..).1, fuseCtx_pc]
    · exact Store.find_put_ne _ _ _ _ hu
    · rw [← sent_ticket slot cls _ (Nat.mod_lt _ (by decide))]
      rfl
  · obtain ⟨h1, h2⟩ := takeExc_fused t c e s he
    exact ⟨_, execFuse_error h hc hd ha hj, he ▸ takeExc_raises t c e s (by rw [he]; decide), h1, h2⟩
  · have hx : exec (.fusedJobSend t slot) s = .next (sendJob t slot j s) := by
      show execFusedJobSend t slot s = _
      simp [execFusedJobSend, tileCount, Nat.not_le.mpr ht, hc, hj, hs, hn]
    refine ⟨_, hx.trans (congrArg _ (sendJob_plain hc hj h0)), State.obj_bump_same s O.fusedIssued 1, SlotBecomes.of_tiles rfl (putCtx_becomes ..),
      Leaves.trans (Leaves.bump _ _ _ (by decide) (by decide)) (putCtx_leaves _ _ _ (by decide))⟩
  · obtain ⟨ys, hw⟩ := atPublish_wrote s t c j outputs
    have hx' := execFusedPublication_due (result := result) (outputs := outputs) ht hc hj hs hn hx he
    have hl := countEncode_leaves s j (fusedEncode s t j).2.2
    have hjobs : (atPublish s t c j outputs).1.jobs = c.jobs := by rw [hw.ctx]
    have hd : (atPublish s t c j outputs).2.dict = (countEncode s j (fusedEncode s t j).2.2).dict := hw.dict
    have hp : Leaves (countEncode s j (fusedEncode s t j).2.2) (atPublish s t c j outputs).2 [.dict, .integ, .mem, .tiles]
        (O.fusedPublished :: if j.cls = 1 then [O.encJobs, O.badJobs, O.encBlocks] else []) :=
      Leaves.of_dict (SameBut.mono hw.same (by decide)) hw.dict
    have hobj (k : Nat) (hk : k ≠ O.fusedPublished) : ((putCtx t { (atPublish s t c j outputs).1 with
        jobs := Store.put (atPublish s t c j outputs).1.jobs slot (publishedJob s t j result) } (atPublish s t c j outputs).2).bump
          O.fusedPublished 1).obj k = (countEncode s j (fusedEncode s t j).2.2).obj k :=
      (State.obj_bump_ne _ _ _ _ hk).trans (State.obj_congr hd k)
    refine ⟨_, { (atPublish s t c j outputs).1 with jobs := Store.put (atPublish s t c j outputs).1.jobs slot (publishedJob s t j result) }, hx',
      ⟨Store.find_put_same .., fun u hu => ?_⟩, Store.find_put_same .., fun k hk => ?_, ?_, fun hnone => ?_, fun h1 => ⟨?_, ?_⟩, ?_, ?_⟩
    · have ht1 : (countEncode s j (fusedEncode s t j).2.2).tiles = s.tiles := hl.1 .tiles (by decide)
      have ht2 : (atPublish s t c j outputs).2.tiles = s.tiles := (hw.same .tiles (by decide)).trans ht1
      exact (Store.find_put_ne _ _ _ _ hu).trans (by rw [ht2])
    · exact (Store.find_put_ne _ _ _ _ hk).trans (by rw [hjobs])
    · rw [hw.ctx]
    · have hfold := mergeOutputs_none t j (publishedOutputs_eq s t j outputs ▸ hnone) (c, countEncode s j (fusedEncode s t j).2.2)
      have hmem : (countEncode s j (fusedEncode s t j).2.2).mem = s.mem := hl.1 .mem (by decide)
      rw [atPublish, hfold]
      exact ⟨hmem, rfl⟩
    · exact (hobj _ (by decide)).trans (countEncode_counted s j _ h1).1
    · have hc := (countEncode_counted s j (fusedEncode s t j).2.2 h1).2
      split
      next hb => exact (hobj _ (by decide)).trans (by rwa [if_pos hb] at hc)
      next hb => exact (hobj _ (by decide)).trans (by rwa [if_neg hb] at hc)
    · have hn : (countEncode s j (fusedEncode s t j).2.2).obj O.fusedPublished = s.obj O.fusedPublished := hl.2 _ (by split <;> decide)
      exact (State.obj_bump_same ..).trans (congrArg (fun v : Int => (((v.toNat + 1) % counterTop O.fusedPublished : Nat) : Int))
        ((State.obj_congr hd _).trans hn))
    · exact Leaves.trans (Leaves.mono hl (by decide) (fun _ hk => List.mem_cons_of_mem _ hk)) (Leaves.trans hp
        (Leaves.trans (putCtx_leaves _ _ _ (by decide)) (Leaves.bump _ _ _ (by decide) (List.mem_cons_self ..))))
end

section
/-! SUPPORT. The frame of every function of the model that makes a state of a state: the parts that it may change. -/
namespace Sys2Proof.Machine
open Sys2Proof.Safety

/-- A state differs from another at most in the parts listed, with the parts in the order in which they were reached. -/
structure Within (ps : List Part) (s t : State) : Prop where
  same : SameBut s t ps

namespace Within
variable {ps qs : List Part} {s t u : State}

theorem start (s : State) : Within [] s s := ⟨SameBut.refl s []⟩

theorem mono (h : Within ps s t) (hq : ∀ p ∈ ps, p ∈ qs) : Within qs s t := ⟨SameBut.mono h.same hq⟩

theorem via (h : Within ps s t) (k : Within qs t u) : Within (qs ++ ps) s u :=
  ⟨SameBut.trans (SameBut.mono h.same fun _ hp => List.mem_append_right _ hp) (SameBut.mono k.same fun _ hp => List.mem_append_left _ hp)⟩

theorem thenOf (h : Within ps s t) (g : Within [] t t → Within qs t u) : Within (qs ++ ps) s u := h.via (g (start t))

theorem step {rs : List Part} (h : Within ps s t) (g : Within [] t t → Within rs t u) (hq : ∀ p ∈ rs, p ∈ qs) : Within (qs ++ ps) s u :=
  h.via ((g (start t)).mono hq)

theorem ite {c : Prop} [Decidable c] (h1 : Within ps s t) (h2 : Within qs s u) : Within (ps ++ qs) s (if c then t else u) := by
  split
  · exact h1.mono fun _ hp => List.mem_append_left _ hp
  · exact h2.mono fun _ hp => List.mem_append_right _ hp

theorem foldl {α : Type} {f : State → α → State} {l : List α} (hf : ∀ a u, Within [] u u → Within qs u (f u a)) (h : Within ps s t) :
    Within (qs ++ ps) s (l.foldl f t) := by
  have hl (u : State) : Within qs u (l.foldl f u) := by
    induction l generalizing u with
    | nil => exact (start u).mono fun _ hp => absurd hp List.not_mem_nil
    | cons a l ih => exact ((hf a u (start u)).via (ih (f u a))).mono fun _ hp => by simpa using hp
  exact h.via (hl t)

theorem snd {α : Type} {p : α × State} {a : α} (h : Within ps s p.2) (e : p = (a, u)) : Within ps s u := by
  rw [e] at h
  exact h

theorem fst {α : Type} {p : State × α} {a : α} (h : Within ps s p.1) (e : p = (u, a)) : Within ps s u := by
  rw [e] at h
  exact h

/-- A state with one part replaced. -/
theorem one (p : Part) (h : Within ps s t) (k : ∀ q, q ≠ p → Part.same t u q) : Within (p :: ps) s u :=
  h.via (qs := [p]) ⟨fun q hq => k q (by simpa using hq)⟩

theorem setDict {x : Store Int} (h : Within ps s t) : Within (.dict :: ps) s { t with dict := x } :=
  h.one .dict fun q hq => by cases q <;> simp_all [Part.same]

theorem setBlobs {x : Store Bytes} (h : Within ps s t) : Within (.blobs :: ps) s { t with blobs := x } :=
  h.one .blobs fun q hq => by cases q <;> simp_all [Part.same]

theorem setImage {x : Store Int} (h : Within ps s t) : Within (.image :: ps) s { t with image := x } :=
  h.one .image fun q hq => by cases q <;> simp_all [Part.same]

theorem setImageBlobs {x : Store Bytes} (h : Within ps s t) : Within (.imageBlobs :: ps) s { t with imageBlobs := x } :=
  h.one .imageBlobs fun q hq => by cases q <;> simp_all [Part.same]

theorem setClock {x : Clock} (h : Within ps s t) : Within (.clock :: ps) s { t with clock := x } :=
  h.one .clock fun q hq => by cases q <;> simp_all [Part.same]

theorem setTime {x : TimeBase} (h : Within ps s t) : Within (.time :: ps) s { t with time := x } :=
  h.one .time fun q hq => by cases q <;> simp_all [Part.same]

theorem setNl {x : Listen} (h : Within ps s t) : Within (.nl :: ps) s { t with nl := x } :=
  h.one .nl fun q hq => by cases q <;> simp_all [Part.same]

theorem setLink {x : Link} (h : Within ps s t) : Within (.link :: ps) s { t with link := x } :=
  h.one .link fun q hq => by cases q <;> simp_all [Part.same]

theorem setSvc {x : Service} (h : Within ps s t) : Within (.svc :: ps) s { t with svc := x } :=
  h.one .svc fun q hq => by cases q <;> simp_all [Part.same]

theorem setPipe {x : Pipe} (h : Within ps s t) : Within (.pipe :: ps) s { t with pipe := x } :=
  h.one .pipe fun q hq => by cases q <;> simp_all [Part.same]

theorem setSched {x : Sched} (h : Within ps s t) : Within (.sched :: ps) s { t with sched := x } :=
  h.one .sched fun q hq => by cases q <;> simp_all [Part.same]

theorem setKiln {x : Kiln} (h : Within ps s t) : Within (.kiln :: ps) s { t with kiln := x } :=
  h.one .kiln fun q hq => by cases q <;> simp_all [Part.same]

theorem setWb {x : Store WbEntry} (h : Within ps s t) : Within (.wb :: ps) s { t with wb := x } :=
  h.one .wb fun q hq => by cases q <;> simp_all [Part.same]

theorem setUnits {x : Units} (h : Within ps s t) : Within (.units :: ps) s { t with units := x } :=
  h.one .units fun q hq => by cases q <;> simp_all [Part.same]

theorem setHod {x : Hod} (h : Within ps s t) : Within (.hod :: ps) s { t with hod := x } :=
  h.one .hod fun q hq => by cases q <;> simp_all [Part.same]

theorem setGuard {x : Guard} (h : Within ps s t) : Within (.guard :: ps) s { t with guard := x } :=
  h.one .guard fun q hq => by cases q <;> simp_all [Part.same]

theorem setTiles {x : Store Ctx} (h : Within ps s t) : Within (.tiles :: ps) s { t with tiles := x } :=
  h.one .tiles fun q hq => by cases q <;> simp_all [Part.same]

theorem setBondWas {x : Store Nat} (h : Within ps s t) : Within (.bondWas :: ps) s { t with bondWas := x } :=
  h.one .bondWas fun q hq => by cases q <;> simp_all [Part.same]

theorem setMortar {x : Mortar} (h : Within ps s t) : Within (.mortar :: ps) s { t with mortar := x } :=
  h.one .mortar fun q hq => by cases q <;> simp_all [Part.same]

theorem setInteg {x : Integrity} (h : Within ps s t) : Within (.integ :: ps) s { t with integ := x } :=
  h.one .integ fun q hq => by cases q <;> simp_all [Part.same]

theorem setFh {x : Fronthaul} (h : Within ps s t) : Within (.fh :: ps) s { t with fh := x } :=
  h.one .fh fun q hq => by cases q <;> simp_all [Part.same]

theorem setDfe {x : Dfe} (h : Within ps s t) : Within (.dfe :: ps) s { t with dfe := x } :=
  h.one .dfe fun q hq => by cases q <;> simp_all [Part.same]

theorem setMem {x : List Host.Cell} (h : Within ps s t) : Within (.mem :: ps) s { t with mem := x } :=
  h.one .mem fun q hq => by cases q <;> simp_all [Part.same]

theorem setPower {x : Power} (h : Within ps s t) : Within (.power :: ps) s { t with power := x } :=
  h.one .power fun q hq => by cases q <;> simp_all [Part.same]

theorem setBoot {x : Boot} (h : Within ps s t) : Within (.boot :: ps) s { t with boot := x } :=
  h.one .boot fun q hq => by cases q <;> simp_all [Part.same]

theorem setFreeCtr {x : Nat} (h : Within ps s t) : Within (.freeCtr :: ps) s { t with freeCtr := x } :=
  h.one .freeCtr fun q hq => by cases q <;> simp_all [Part.same]

theorem setPending {x : List Instr} (h : Within ps s t) : Within (.pending :: ps) s { t with pending := x } :=
  h.one .pending fun q hq => by cases q <;> simp_all [Part.same]
end Within
end Sys2Proof.Machine
end

section
namespace Sys2Proof.Machine
open Sys2Proof.Safety
variable {ps : List Part} {s t : State}

theorem Within.onWraps {n : Nat} (h : Within ps s t) : Within ([Part.time, Part.guard] ++ ps) s (Machine.onWraps n t) := by
  refine h.via (ps := ps) ⟨fun p hp => ?_⟩
  cases p <;> simp_all [Part.same]

theorem Within.setObj {key : ℕ} {v : ℤ} (h : Within ps s t) : Within ([Part.dict] ++ ps) s (Machine.State.setObj t key v) :=
    h.step (fun h => h.setDict) (by decide)

theorem Within.setBlob {key : ℕ} {v : Bytes} (h : Within ps s t) : Within ([Part.blobs] ++ ps) s (Machine.State.setBlob t key v) :=
    h.step (fun h => h.setBlobs) (by decide)

theorem Within.bump {key : ℕ} {n : ℕ} (h : Within ps s t) : Within ([Part.dict] ++ ps) s (Machine.State.bump t key n) :=
    h.step (fun h => h.setObj) (by decide)

theorem Within.change {key : ℕ} {v : ℤ} (h : Within ps s t) : Within ([Part.dict] ++ ps) s (Machine.State.change t key v) :=
    h.step (fun h => .ite h h.setObj.bump) (by decide)

theorem Within.changeBlob {key : ℕ} {v : Bytes} (h : Within ps s t) : Within ([Part.dict, Part.blobs] ++ ps) s (Machine.State.changeBlob t key v) :=
    h.step (fun h => .ite h h.setBlob.bump) (by decide)

theorem Within.onWrap (h : Within ps s t) : Within ([Part.time, Part.guard] ++ ps) s (Machine.onWrap t) :=
    h.step (fun h => .setTime (.ite h.setGuard h)) (by decide)

theorem Within.advance {n : ℕ} (h : Within ps s t) : Within ([Part.clock, Part.time, Part.guard] ++ ps) s (Machine.advance t n) :=
    h.step (fun h => h.onWraps.setTime.setClock) (by decide)

theorem Within.advanceTo {count : ℕ} (h : Within ps s t) : Within ([Part.clock, Part.time, Part.guard] ++ ps) s (Machine.advanceTo t count) :=
    h.step (fun h => .ite h h.advance) (by decide)

theorem Within.advanceTicks {tick : ℕ} (h : Within ps s t) : Within ([Part.clock, Part.time, Part.guard] ++ ps) s (Machine.advanceTicks t tick) :=
    h.step (fun h => h.advance) (by decide)

theorem Within.advanceToAir {a : ℤ} (h : Within ps s t) : Within ([Part.clock, Part.time, Part.guard] ++ ps) s (Machine.advanceToAir t a) :=
    h.step (fun h => h.advanceTo) (by decide)

theorem Within.raiseFor {key : ℕ} {unit : ℕ} {detail : Bytes} {course : ℕ} {gen : ℕ} (h : Within ps s t) : Within ([Part.dict, Part.link] ++ ps) s (Machine.raiseFor t key unit detail course gen) :=
    h.step (fun h => .ite h.bump.bump h.bump.setLink) (by decide)

theorem Within.raise {key : ℕ} {unit : ℕ} {detail : Bytes} {course : ℕ} (h : Within ps s t) : Within ([Part.dict, Part.link] ++ ps) s (Machine.raise t key unit detail course) :=
    h.step (fun h => h.raiseFor) (by decide)

theorem Within.send {m : Sent} (h : Within ps s t) : Within ([Part.link] ++ ps) s (Machine.State.send t m) :=
    h.step (fun h => h.setLink) (by decide)

theorem Within.free (h : Within ps s t) : Within ([Part.freeCtr] ++ ps) s (Machine.State.free t).2 :=
    h.step (fun h => h.setFreeCtr) (by decide)

theorem Within.fitSigned {bits : ℕ} {v : ℤ} (h : Within ps s t) : Within ([Part.freeCtr] ++ ps) s (Machine.fitSigned bits v t).2 := by
  refine h.thenOf fun h => ?_
  unfold Machine.fitSigned
  split
  · exact .mono h (by decide)
  · exact .mono h.free (by decide)

theorem Within.countReply {r : Reason} (h : Within ps s t) : Within ([Part.dict] ++ ps) s (Machine.countReply r t) :=
    h.step (fun h => .ite (.bump (.ite h.bump.bump h.bump)) (.ite h.bump.bump h.bump)) (by decide)

theorem Within.replyWrite {seq : ℕ} {key : ℕ} {op : ℕ} {offset : ℕ} {total : ℕ} {r : Reason} (h : Within ps s t) : Within ([Part.dict, Part.link] ++ ps) s (Machine.replyWrite seq key op offset total r t) :=
    h.step (fun h => h.countReply.send) (by decide)

theorem Within.replyRead {seq : ℕ} {key : ℕ} {layer : ℕ} {r : Reason} {offset : ℕ} {value : Bytes} {data : Bytes} (h : Within ps s t) : Within ([Part.dict, Part.link] ++ ps) s (Machine.replyRead seq key layer r offset value data t) :=
    h.step (fun h => h.countReply.send) (by decide)

theorem Within.holdTransfer {seq : ℕ} {i : Transfer} (h : Within ps s t) : Within ([Part.dict, Part.link, Part.svc] ++ ps) s (Machine.holdTransfer seq i t) :=
    h.step (fun h => .ite (.ite h.setObj.setSvc h.bump) (.ite h.setSvc ((by
  split
  · exact .mono h.replyRead (by decide)
  · exact .mono h.replyWrite (by decide)
  · exact .mono h.setSvc (by decide) : Within [Part.dict, Part.link, Part.svc] _ _)))) (by decide)

theorem Within.discardBuffer (h : Within ps s t) : Within ([Part.dict, Part.svc] ++ ps) s (Machine.discardBuffer t) := by
  refine h.thenOf fun h => ?_
  unfold Machine.discardBuffer
  split
  · exact .mono h.bump.setSvc (by decide)
  · exact .mono h (by decide)

theorem Within.expireLatch (h : Within ps s t) : Within ([Part.svc] ++ ps) s (Machine.expireLatch t) := by
  refine h.thenOf fun h => ?_
  unfold Machine.expireLatch
  split
  · exact .mono (.ite h.setSvc h) (by decide)
  · exact .mono h (by decide)

theorem Within.expireBuffer (h : Within ps s t) : Within ([Part.dict, Part.svc] ++ ps) s (Machine.expireBuffer t) := by
  refine h.thenOf fun h => ?_
  unfold Machine.expireBuffer
  split
  · exact .mono (.ite h.discardBuffer h) (by decide)
  · exact .mono h (by decide)

theorem Within.expireMemory (h : Within ps s t) : Within ([Part.svc] ++ ps) s (Machine.expireMemory t) := by
  refine h.thenOf fun h => ?_
  unfold Machine.expireMemory
  split
  · exact .mono (.ite h.setSvc h) (by decide)
  · exact .mono h (by decide)

theorem Within.expireSegments (h : Within ps s t) : Within ([Part.dict, Part.svc] ++ ps) s (Machine.expireSegments t) :=
    h.step (fun h => h.expireLatch.expireBuffer.expireMemory) (by decide)

theorem Within.straySegment {key : ℕ} {offset : ℕ} {count : ℕ} (h : Within ps s t) : Within ([Part.dict, Part.svc] ++ ps) s (Machine.straySegment key offset count t).2 := by
  refine h.thenOf fun h => ?_
  unfold Machine.straySegment
  split
  · exact .mono ((by
      split
      · exact .mono h.setSvc (by decide)
      · exact .mono h.discardBuffer (by decide) : Within [Part.dict, Part.svc] _ _)) (by decide)
  · exact .mono h.discardBuffer (by decide)

theorem Within.recordCheck {key : ℕ} {r : Reason} (h : Within ps s t) : Within ([Part.dict] ++ ps) s (Machine.recordCheck key r t) :=
    h.step (fun h => h.setObj.setObj) (by decide)

theorem Within.logEnable {key : ℕ} {cause : ℕ} {r : Reason} (h : Within ps s t) : Within ([Part.dict, Part.svc] ++ ps) s (Machine.logEnable key cause r t) :=
    h.step (fun h => h.bump.setSvc) (by decide)

theorem Within.unlist {key : ℕ} (h : Within ps s t) : Within ([Part.svc] ++ ps) s (Machine.State.unlist t key) :=
    h.step (fun h => h.setSvc) (by decide)

theorem Within.shutDone {key : ℕ} (h : Within ps s t) : Within ([Part.dict, Part.svc] ++ ps) s (Machine.shutDone key t) :=
    h.step (fun h => .ite h.setSvc h.setObj) (by decide)

theorem Within.setAsked {key : ℕ} {v : Bool} (h : Within ps s t) : Within ([Part.dict, Part.svc] ++ ps) s (Machine.State.setAsked t key v) :=
    h.step (fun h => .ite h h.setSvc.bump) (by decide)

theorem Within.raiseResolved {key : ℕ} {r : Reason} (h : Within ps s t) : Within ([Part.dict, Part.link] ++ ps) s (Machine.raiseResolved key r t) :=
    h.step (fun h => h.raise) (by decide)

theorem Within.plainWrite {key : ℕ} {v : Val} (h : Within ps s t) : Within ([Part.dict, Part.blobs] ++ ps) s (Machine.plainWrite key v t).2 := by
  refine h.thenOf fun h => ?_
  unfold Machine.plainWrite
  split
  · exact .mono h.change (by decide)
  · exact .mono h.changeBlob (by decide)

theorem Within.onTime {f : TimeBase → TimeBase} (h : Within ps s t) : Within ([Part.time] ++ ps) s (Machine.State.onTime t f) :=
    h.step (fun h => h.setTime) (by decide)

theorem Within.onServo {f : Servo → Servo} (h : Within ps s t) : Within ([Part.time] ++ ps) s (Machine.State.onServo t f) :=
    h.step (fun h => h.setTime) (by decide)

theorem Within.setPtp {p : ℕ} {x1 : PtpPort} (h : Within ps s t) : Within ([Part.time] ++ ps) s (Machine.State.setPtp t p x1) :=
    h.step (fun h => h.onTime) (by decide)

theorem Within.onNl {f : Listen → Listen} (h : Within ps s t) : Within ([Part.nl] ++ ps) s (Machine.State.onNl t f) :=
    h.step (fun h => h.setNl) (by decide)

theorem Within.nlRelease (h : Within ps s t) : Within ([Part.dict] ++ ps) s (Machine.nlRelease t) :=
    h.step (fun h => .setObj (.ite h.setObj h)) (by decide)

theorem Within.nlIdle (h : Within ps s t) : Within ([Part.dict, Part.svc] ++ ps) s (Machine.nlIdle t) :=
    h.step (fun h => .ite h.setObj (.ite h.nlRelease.shutDone h.setObj)) (by decide)

theorem Within.abandonGap (h : Within ps s t) : Within ([Part.dict, Part.nl, Part.svc] ++ ps) s (Machine.abandonGap t) :=
    h.step (fun h => .ite h.setNl.nlIdle h) (by decide)

theorem Within.refreshQualified (h : Within ps s t) : Within ([Part.time] ++ ps) s (Machine.refreshQualified t) :=
    h.step (fun h => .foldl (fun _ _ h => .ite (.ite h h.onServo) h.onServo) h) (by decide)

theorem Within.setCount {c : ℕ} (h : Within ps s t) : Within ([Part.clock] ++ ps) s (Machine.State.setCount t c) :=
    h.step (fun h => h.setClock) (by decide)

theorem Within.stepCount {pl : ℤ} (h : Within ps s t) : Within ([Part.clock, Part.time, Part.nl] ++ ps) s (Machine.stepCount pl t) := by
  refine h.thenOf fun h => ?_
  unfold Machine.stepCount
  dsimp only
  exact .mono (h.setCount.onNl.onTime) (by decide)

theorem Within.captureUnit {count : ℕ} {n : ℕ} (h : Within ps s t) : Within ([Part.dict, Part.time] ++ ps) s (Machine.captureUnit count n t) :=
    h.step (fun h => .ite h.onTime h.bump) (by decide)

theorem Within.capture {source : ℕ} {falling : Bool} {count : ℕ} (h : Within ps s t) : Within ([Part.dict, Part.time] ++ ps) s (Machine.capture source falling count t) :=
    h.step (fun h => .foldl (fun _ _ h => .ite h.captureUnit h) h) (by decide)

theorem Within.onPulse {i : PulseInput} {f : PulseIn → PulseIn} (h : Within ps s t) : Within ([Part.time] ++ ps) s (Machine.State.onPulse t i f) := by
  refine h.thenOf fun h => ?_
  unfold Machine.State.onPulse
  split
  · exact .mono h.onTime (by decide)
  · exact .mono h.onTime (by decide)

theorem Within.storm {i : PulseInput} (h : Within ps s t) : Within ([Part.dict, Part.time, Part.link] ++ ps) s (Machine.storm i t) := by
  refine h.thenOf fun h => ?_
  unfold Machine.storm
  split
  · exact .mono h.setObj.onPulse.raise (by decide)
  · exact .mono h.setObj.onPulse.raise (by decide)

theorem Within.stray {i : PulseInput} (h : Within ps s t) : Within ([Part.dict, Part.time, Part.link] ++ ps) s (Machine.stray i t) :=
    h.step (fun h => .ite h.bump.onPulse.storm h.bump.onPulse) (by decide)

theorem Within.expectedEdge {i : PulseInput} {count : ℕ} (h : Within ps s t) : Within ([Part.dict, Part.time] ++ ps) s (Machine.expectedEdge i count t) :=
    h.step (fun h => .ite h.onPulse.setObj h.onPulse) (by decide)

theorem Within.labelEdge {e : PpsEdge} {second : ℤ} {utcOff : Option ℤ} {locked : Bool} (h : Within ps s t) : Within ([Part.dict, Part.time] ++ ps) s (Machine.labelEdge e second utcOff locked t) :=
    h.step (fun h => .ite (.onServo (.onTime (.ite (.change ((by
  split
  · exact .mono (.ite h.change h) (by decide)
  · exact .mono h (by decide) : Within [Part.dict] _ _))) ((by
  split
  · exact .mono (.ite h.change h) (by decide)
  · exact .mono h (by decide) : Within [Part.dict] _ _))))) (.ite (.onTime (.ite (.change ((by
  split
  · exact .mono (.ite h.change h) (by decide)
  · exact .mono h (by decide) : Within [Part.dict] _ _))) ((by
  split
  · exact .mono (.ite h.change h) (by decide)
  · exact .mono h (by decide) : Within [Part.dict] _ _)))) (.onServo (.onTime (.ite (.change ((by
  split
  · exact .mono (.ite h.change h) (by decide)
  · exact .mono h (by decide) : Within [Part.dict] _ _))) ((by
  split
  · exact .mono (.ite h.change h) (by decide)
  · exact .mono h (by decide) : Within [Part.dict] _ _))))))) (by decide)

theorem Within.measureEdge (h : Within ps s t) : Within ([Part.time] ++ ps) s (Machine.measureEdge t) := by
  refine h.thenOf fun h => ?_
  unfold Machine.measureEdge
  split
  · exact .mono ((by
      split
      · exact .mono (.ite h.onTime.onServo h) (by decide)
      · exact .mono h (by decide) : Within [Part.time] _ _)) (by decide)
  · exact .mono h (by decide)

theorem Within.ppsToServo {count : ℕ} {gap : Option ℕ} (h : Within ps s t) : Within ([Part.dict, Part.time] ++ ps) s (Machine.ppsToServo count gap t) :=
    h.step (fun h => .ite ((by
  split
  · exact .mono h.onTime.labelEdge (by decide)
  · exact .mono h.onTime.onTime (by decide) : Within [Part.dict, Part.time] _ _)) h.onTime.measureEdge) (by decide)

theorem Within.refreshStatus (h : Within ps s t) : Within ([Part.dict] ++ ps) s (Machine.refreshStatus t) :=
    h.step (fun h => h.setObj) (by decide)

theorem Within.moveDco (h : Within ps s t) : Within ([Part.time] ++ ps) s (Machine.moveDco t) :=
    h.step (fun h => .ite h.onServo h) (by decide)

theorem Within.setFreq {fN : ℤ} (h : Within ps s t) : Within ([Part.dict, Part.time] ++ ps) s (Machine.setFreq fN t) :=
    h.step (fun h => h.setObj.moveDco) (by decide)

theorem Within.actSteer {key : ℕ} {v : ℤ} (h : Within ps s t) : Within ([Part.dict, Part.time] ++ ps) s (Machine.actSteer key v t).2 :=
    h.step (fun h => h.change.moveDco) (by decide)

theorem Within.slewSecond (h : Within ps s t) : Within ([Part.time] ++ ps) s (Machine.slewSecond t) :=
    h.step (fun h => h.onServo) (by decide)

theorem Within.enterAcquire {x0 : Source} (h : Within ps s t) : Within ([Part.dict, Part.time] ++ ps) s (Machine.enterAcquire x0 t) := by
  refine h.thenOf fun h => ?_
  unfold Machine.enterAcquire
  dsimp only
  exact .mono (h.setObj.setObj.onServo) (by decide)

theorem Within.leaveLocked (h : Within ps s t) : Within ([Part.time] ++ ps) s (Machine.leaveLocked t) :=
    h.step (fun h => .ite h.onServo h) (by decide)

theorem Within.refreshBound (h : Within ps s t) : Within ([Part.dict, Part.link] ++ ps) s (Machine.refreshBound t) := by
  refine h.thenOf fun h => ?_
  unfold Machine.refreshBound
  split
  · exact .mono (.ite (.ite h.setObj.setObj.raise h.setObj) h) (by decide)
  · exact .mono h (by decide)

theorem Within.holdFreq (h : Within ps s t) : Within ([Part.dict, Part.time, Part.freeCtr] ++ ps) s (Machine.holdFreq t) := by
  refine h.thenOf fun h => ?_
  unfold Machine.holdFreq
  dsimp only
  split
  · exact .mono (.ite ((by
      split
      · exact .mono h.onServo (by decide)
      · exact .mono h.onServo.setFreq (by decide)
      · exact .mono h.onServo.setFreq.setFreeCtr (by decide) : Within [Part.dict, Part.time, Part.freeCtr] _ _)) h) (by decide)
  · exact .mono h (by decide)

theorem Within.enterHoldover {stopped : Bool} (h : Within ps s t) : Within ([Part.dict, Part.time, Part.link, Part.freeCtr] ++ ps) s (Machine.enterHoldover stopped t) :=
    h.step (fun h => h.leaveLocked.onServo.setObj.setObj.raise.holdFreq.refreshBound) (by decide)

theorem Within.authTest {x0 : Source} {recorded : ℤ} (h : Within ps s t) : Within ([Part.dict, Part.time] ++ ps) s (Machine.authTest x0 recorded t) :=
    h.step (fun h => .ite h (.ite h.setObj.onServo (.ite h (.ite h.leaveLocked.enterAcquire.setObj.onServo h.setObj.onServo)))) (by decide)

theorem Within.refuseSource {x0 : Source} {e : ℤ} (h : Within ps s t) : Within ([Part.dict, Part.time, Part.link] ++ ps) s (Machine.refuseSource x0 e t) :=
    h.step (fun h => h.setObj.setObj.onServo.raise.authTest) (by decide)

theorem Within.endSlew {x0 : Source} {e : ℤ} (h : Within ps s t) : Within ([Part.time] ++ ps) s (Machine.endSlew x0 e t) :=
    h.step (fun h => h.onServo) (by decide)

theorem Within.judgeSource {x0 : Source} (h : Within ps s t) : Within ([Part.dict, Part.time, Part.link] ++ ps) s (Machine.judgeSource x0 t) := by
  refine h.thenOf fun h => ?_
  unfold Machine.judgeSource
  split
  · exact .mono h (by decide)
  · exact .mono (.ite h.onServo (.ite h.onServo.endSlew.onServo (.ite h.onServo.endSlew (.ite h.onServo.endSlew.refuseSource h.onServo.endSlew.onServo)))) (by decide)

theorem Within.steer {e : ℤ} (h : Within ps s t) : Within ([Part.dict, Part.time] ++ ps) s (Machine.steer e t) := by
  refine h.thenOf fun h => ?_
  unfold Machine.steer
  dsimp only
  exact .mono (h.onServo.setFreq.onServo) (by decide)

theorem Within.lockStep (h : Within ps s t) : Within ([Part.dict, Part.time] ++ ps) s (Machine.lockStep t) :=
    h.step (fun h => .ite h.setObj.onServo h) (by decide)

theorem Within.keepY (h : Within ps s t) : Within ([Part.time] ++ ps) s (Machine.keepY t) :=
    h.step (fun h => .ite h.onServo h) (by decide)

theorem Within.skipMeasurement {e : ℤ} (h : Within ps s t) : Within ([Part.time] ++ ps) s (Machine.skipMeasurement e t) :=
    h.step (fun h => h.onServo) (by decide)

theorem Within.initialSet (h : Within ps s t) : Within ([Part.dict, Part.clock, Part.time, Part.nl, Part.guard] ++ ps) s (Machine.initialSet t) := by
  refine h.thenOf fun h => ?_
  unfold Machine.initialSet
  dsimp only
  split
  · exact .mono h.setObj.setObj (by decide)
  · exact .mono ((by
      split
      · exact .mono (.ite h h.enterAcquire) (by decide)
      · exact .mono (.advance (.stepCount (.onServo (.setObj (.ite h h.enterAcquire))))) (by decide) : Within [Part.dict, Part.clock, Part.time, Part.nl, Part.guard] _ _)) (by decide)

theorem Within.disciplined (h : Within ps s t) : Within ([Part.dict, Part.time, Part.link, Part.freeCtr] ++ ps) s (Machine.disciplined t) := by
  refine h.thenOf fun h => ?_
  unfold Machine.disciplined
  dsimp only
  split
  · exact .mono (.ite (.enterHoldover (.foldl (fun _ _ h => h.judgeSource) h)) (.refreshBound (.holdFreq (.setObj (.foldl (fun _ _ h => h.judgeSource) h))))) (by decide)
  · exact .mono (.keepY ((by
      split
      · exact .mono (.ite (.lockStep (.steer (.ite (.foldl (fun _ _ h => h.judgeSource) h) (.ite (.setObj (.foldl (fun _ _ h => h.judgeSource) h)) (.enterAcquire (.foldl (fun _ _ h => h.judgeSource) h)))))) (.skipMeasurement (.ite (.foldl (fun _ _ h => h.judgeSource) h) (.ite (.setObj (.foldl (fun _ _ h => h.judgeSource) h)) (.enterAcquire (.foldl (fun _ _ h => h.judgeSource) h)))))) (by decide)
      · exact .mono (.ite (.foldl (fun _ _ h => h.judgeSource) h) (.ite (.setObj (.foldl (fun _ _ h => h.judgeSource) h)) (.enterAcquire (.foldl (fun _ _ h => h.judgeSource) h)))) (by decide) : Within [Part.dict, Part.time, Part.link] _ _))) (by decide)

theorem Within.takeMeasurements (h : Within ps s t) : Within ([Part.dict, Part.time] ++ ps) s (Machine.takeMeasurements t) :=
    h.step (fun h => .ite h.onServo.setObj h.onServo) (by decide)

theorem Within.nextInterval (h : Within ps s t) : Within ([Part.time, Part.nl] ++ ps) s (Machine.nextInterval t) :=
    h.step (fun h => h.onTime.setNl) (by decide)

theorem Within.showError (h : Within ps s t) : Within ([Part.dict] ++ ps) s (Machine.showError t) := by
  refine h.thenOf fun h => ?_
  unfold Machine.showError
  split
  · exact .mono h.setObj (by decide)
  · exact .mono h (by decide)

theorem Within.servoStopped (h : Within ps s t) : Within ([Part.dict, Part.time, Part.link, Part.svc, Part.freeCtr] ++ ps) s (Machine.servoStopped t) :=
    h.step (fun h => .shutDone (.ite (.ite h.enterHoldover h.setObj.refreshBound) h.setObj.setObj)) (by decide)

theorem Within.servoUpdate (h : Within ps s t) : Within ([Part.dict, Part.clock, Part.time, Part.nl, Part.link, Part.svc, Part.guard, Part.freeCtr] ++ ps) s (Machine.servoUpdate t) :=
    h.step (fun h => .showError (.refreshStatus (.nextInterval (.ite h.advanceTo.slewSecond.refreshQualified.servoStopped (.ite (.ite h.advanceTo.slewSecond.refreshQualified.takeMeasurements.disciplined h.advanceTo.slewSecond.refreshQualified.takeMeasurements.initialSet) h.advanceTo.slewSecond.refreshQualified.refreshBound))))) (by decide)

theorem Within.fireTrigger {n : ℕ} {stepped : Bool} (h : Within ps s t) : Within ([Part.dict, Part.time] ++ ps) s (Machine.fireTrigger n stepped t) :=
    h.step (fun h => .ite (.onTime (.setObj ((by
  split
  · exact .mono h.change (by decide)
  · exact .mono h (by decide) : Within [Part.dict] _ _)))) (.setObj ((by
  split
  · exact .mono h.change (by decide)
  · exact .mono h (by decide) : Within [Part.dict] _ _)))) (by decide)

theorem Within.stepCounter {e : ℤ} (h : Within ps s t) : Within ([Part.dict, Part.clock, Part.time, Part.nl, Part.svc] ++ ps) s (Machine.stepCounter e t) :=
    h.step (fun h => .abandonGap (.foldl (fun _ _ h => .ite h.fireTrigger h) h.stepCount)) (by decide)

theorem Within.actTriggerTarget {n : ℕ} {v : ℤ} (h : Within ps s t) : Within ([Part.dict] ++ ps) s (Machine.actTriggerTarget n v t).2 := by
  refine h.thenOf fun h => ?_
  unfold Machine.actTriggerTarget
  split
  · exact .mono h (by decide)
  · exact .mono h.change.setObj (by decide)

theorem Within.actLegacyMode {v : ℤ} (h : Within ps s t) : Within ([Part.dict, Part.clock] ++ ps) s (Machine.actLegacyMode v t).2 :=
    h.step (fun h => h.change.setClock) (by decide)

theorem Within.sendPtp {m : PtpSent} (h : Within ps s t) : Within ([Part.dict, Part.time] ++ ps) s (Machine.sendPtp m t) :=
    h.step (fun h => h.onTime.bump) (by decide)

theorem Within.ptpOffset {p : ℕ} {mean : ℤ} {diff : ℤ} (h : Within ps s t) : Within ([Part.time] ++ ps) s (Machine.ptpOffset p mean diff t) :=
    h.step (fun h => h.onTime) (by decide)

theorem Within.syncDone {p : ℕ} {x1 : PtpPort} {ingress : ℤ} {originPs : ℤ} {corrPs : ℤ} (h : Within ps s t) : Within ([Part.time] ++ ps) s (Machine.syncDone p x1 ingress originPs corrPs t) :=
    h.step (fun h => .ite h.setPtp.ptpOffset h.setPtp) (by decide)

theorem Within.delayDone {p : ℕ} {x1 : PtpPort} {receivePs : ℤ} {corrPs : ℤ} (h : Within ps s t) : Within ([Part.dict, Part.time] ++ ps) s (Machine.delayDone p x1 receivePs corrPs t) := by
  refine h.thenOf fun h => ?_
  unfold Machine.delayDone
  split
  · exact .mono h.setObj.setPtp.ptpOffset (by decide)
  · exact .mono h (by decide)

theorem Within.keepAnnounce {p : ℕ} {a1 : Master} (h : Within ps s t) : Within ([Part.time] ++ ps) s (Machine.keepAnnounce p a1 t) := by
  refine h.thenOf fun h => ?_
  unfold Machine.keepAnnounce
  dsimp only
  split
  · exact .mono (.ite h.setPtp h) (by decide)
  · exact .mono h.setPtp (by decide)

theorem Within.ptpHear {p : ℕ} {hdr : PtpHead} {m : PtpMsg} (h : Within ps s t) : Within ([Part.dict, Part.time] ++ ps) s (Machine.ptpHear p hdr m t) := by
  refine h.thenOf fun h => ?_
  unfold Machine.ptpHear
  dsimp only
  split
  · exact .mono (.ite h (.ite h.setPtp h.syncDone)) (by decide)
  · exact .mono ((by
      split
      · exact .mono (.ite h.syncDone h) (by decide)
      · exact .mono h (by decide) : Within [Part.time] _ _)) (by decide)
  · exact .mono (.ite h.delayDone h) (by decide)
  · exact .mono (.ite h.sendPtp h) (by decide)
  · exact .mono (.ite h.keepAnnounce h) (by decide)
  · exact .mono (.ite h.setPtp.sendPtp h) (by decide)
  · exact .mono (.ite h.setPtp h) (by decide)

theorem Within.keepTx {p : ℕ} {via : PtpOver} {m : PtpTx} (h : Within ps s t) : Within ([Part.time] ++ ps) s (Machine.keepTx p via m t) :=
    h.step (fun h => h.setPtp) (by decide)

theorem Within.ptpLeave {p : ℕ} {via : PtpOver} {m : PtpTx} (h : Within ps s t) : Within ([Part.dict, Part.time, Part.freeCtr] ++ ps) s (Machine.ptpLeave p via m t) := by
  refine h.thenOf fun h => ?_
  unfold Machine.ptpLeave
  dsimp only
  split
  · exact .mono (.ite h h.setPtp.keepTx.sendPtp) (by decide)
  · exact .mono (.ite h (.ite h.keepTx.sendPtp h.free.setPtp.keepTx.sendPtp)) (by decide)
  · exact .mono ((by
      split
      · exact .mono h.setPtp.sendPtp (by decide)
      · exact .mono h (by decide) : Within [Part.dict, Part.time] _ _)) (by decide)
  · exact .mono (.ite h h.keepTx.sendPtp) (by decide)
  · exact .mono (.ite h.sendPtp h) (by decide)
  · exact .mono h (by decide)
  · exact .mono h (by decide)

theorem Within.squelch {out : ℕ} (h : Within ps s t) : Within ([Part.dict] ++ ps) s (Machine.squelch out t) :=
    h.step (fun h => h.setObj) (by decide)

theorem Within.actOutLane {out : ℕ} {v : ℤ} (h : Within ps s t) : Within ([Part.dict] ++ ps) s (Machine.actOutLane out v t).2 :=
    h.step (fun h => h.change.squelch) (by decide)

theorem Within.laneLost {lane : ℕ} (h : Within ps s t) : Within ([Part.dict, Part.time] ++ ps) s (Machine.laneLost lane t) :=
    h.step (fun h => .foldl (fun _ _ h => .ite h.setObj h) h.onTime) (by decide)

theorem Within.actServoChecked {key : ℕ} {v : ℤ} (h : Within ps s t) : Within ([Part.dict] ++ ps) s (Machine.actServoChecked key v t).2 := by
  refine h.thenOf fun h => ?_
  unfold Machine.actServoChecked
  dsimp only
  split
  · exact .mono h (by decide)
  · exact .mono h.change (by decide)

theorem Within.actAirEpoch {v : ℤ} (h : Within ps s t) : Within ([Part.dict, Part.clock] ++ ps) s (Machine.actAirEpoch v t).2 :=
    h.step (fun h => h.change.setClock) (by decide)

theorem Within.onCourse {key : ℕ} {f : Course → Course} (h : Within ps s t) : Within ([Part.pipe] ++ ps) s (Machine.State.onCourse t key f) := by
  refine h.thenOf fun h => ?_
  unfold Machine.State.onCourse
  split
  · exact .mono h.setPipe (by decide)
  · exact .mono h (by decide)

theorem Within.setOps {ops : Store Op} (h : Within ps s t) : Within ([Part.sched] ++ ps) s (Machine.State.setOps t ops) :=
    h.step (fun h => h.setSched) (by decide)

theorem Within.onOp {tag : ℕ} {f : Op → Op} (h : Within ps s t) : Within ([Part.sched] ++ ps) s (Machine.State.onOp t tag f) := by
  refine h.thenOf fun h => ?_
  unfold Machine.State.onOp
  split
  · exact .mono h.setOps (by decide)
  · exact .mono h (by decide)

theorem Within.addTrace {r : Bytes} (h : Within ps s t) : Within ([Part.dict, Part.sched] ++ ps) s (Machine.addTrace r t) :=
    h.step (fun h => .ite h.bump.setSched (.ite h.bump.setSched h.bump)) (by decide)

theorem Within.traceOp {event : ℕ} {tag : ℕ} {o : Op} {status : ℕ} {pallets : ℕ} {tested : ℕ} (h : Within ps s t) : Within ([Part.dict, Part.sched] ++ ps) s (Machine.traceOp event tag o status pallets tested t) :=
    h.step (fun h => .ite h.addTrace h) (by decide)

theorem Within.causeAt {key : ℕ} {status : ℕ} {recs : List ℕ} (h : Within ps s t) : Within ([Part.pipe] ++ ps) s (Machine.causeAt key status recs t) :=
    h.step (fun h => h.onCourse) (by decide)

theorem Within.dropJob {tag : ℕ} (h : Within ps s t) : Within ([Part.kiln] ++ ps) s (Machine.State.dropJob t tag) :=
    h.step (fun h => h.setKiln) (by decide)

theorem Within.blockEnds {j : Job} {f : Checker → Checker} (h : Within ps s t) : Within ([Part.kiln] ++ ps) s (Machine.State.blockEnds t j f) :=
    h.step (fun h => .ite h ((by
  split
  · exact .mono h.setKiln (by decide)
  · exact .mono h.setKiln (by decide) : Within [Part.kiln] _ _))) (by decide)

theorem Within.voidBlock {j : Job} (h : Within ps s t) : Within ([Part.kiln] ++ ps) s (Machine.State.voidBlock t j) :=
    h.step (fun h => .ite h h.setKiln) (by decide)

theorem Within.dropKilnJob {tag : ℕ} (h : Within ps s t) : Within ([Part.dict, Part.kiln] ++ ps) s (Machine.dropKilnJob tag t) := by
  refine h.thenOf fun h => ?_
  unfold Machine.dropKilnJob
  split
  · exact .mono (.voidBlock (.dropJob (.ite h h.bump))) (by decide)
  · exact .mono h (by decide)

theorem Within.withdrawJob {tag : ℕ} (h : Within ps s t) : Within ([Part.dict, Part.kiln] ++ ps) s (Machine.withdrawJob t tag) :=
    h.step (fun h => .ite h.bump.dropKilnJob h) (by decide)

theorem Within.countExpiry {o : Op} {key : ℕ} (h : Within ps s t) : Within ([Part.dict, Part.pipe] ++ ps) s (Machine.countExpiry o key t) :=
    h.step (fun h => h.bump.bump.causeAt.onCourse) (by decide)

theorem Within.expireOp {tag : ℕ} (h : Within ps s t) : Within ([Part.dict, Part.pipe, Part.sched, Part.kiln] ++ ps) s (Machine.expireOp tag t) := by
  refine h.thenOf fun h => ?_
  unfold Machine.expireOp
  split
  · exact .mono (.ite h.dropKilnJob.countExpiry.onOp.traceOp h) (by decide)
  · exact .mono h (by decide)

theorem Within.makeReady {tag : ℕ} {o : Op} (h : Within ps s t) : Within ([Part.dict, Part.sched] ++ ps) s (Machine.makeReady tag o t) :=
    h.step (fun h => h.onOp.traceOp) (by decide)

theorem Within.settleOp {tag : ℕ} (h : Within ps s t) : Within ([Part.dict, Part.pipe, Part.sched, Part.kiln] ++ ps) s (Machine.settleOp t tag) := by
  refine h.thenOf fun h => ?_
  unfold Machine.settleOp
  split
  · exact .mono (.ite (.ite h.expireOp (.ite h.makeReady h)) (.ite h.expireOp h)) (by decide)
  · exact .mono h (by decide)

theorem Within.settle (h : Within ps s t) : Within ([Part.dict, Part.pipe, Part.sched, Part.kiln] ++ ps) s (Machine.settle t) :=
    h.step (fun h => .foldl (fun _ _ h => h.settleOp) h) (by decide)

theorem Within.releaseOps (h : Within ps s t) : Within ([Part.sched] ++ ps) s (Machine.releaseOps t) :=
    h.step (fun h => h.setOps) (by decide)

theorem Within.issueNode {chan : ℕ} {course : ℕ} {gen : ℕ} {lfs : Store ℤ} {x4 : Node} (h : Within ps s t) : Within ([Part.sched] ++ ps) s (Machine.issueNode chan course gen lfs t x4) :=
    h.step (fun h => h.setSched) (by decide)

theorem Within.issueGraph {chan : ℕ} {course : ℕ} {gen : ℕ} {nodes : List Node} {sel : OpId → Bool} (h : Within ps s t) : Within ([Part.sched] ++ ps) s (Machine.issueGraph chan course gen nodes sel t) :=
    h.step (fun h => .foldl (fun _ _ h => h.issueNode) h) (by decide)

theorem Within.supersede {tag : ℕ} (h : Within ps s t) : Within ([Part.dict, Part.sched, Part.kiln] ++ ps) s (Machine.supersede t tag) := by
  refine h.thenOf fun h => ?_
  unfold Machine.supersede
  split
  · exact .mono (.ite h.bump.traceOp.onOp h.bump.traceOp.withdrawJob.setOps) (by decide)
  · exact .mono h (by decide)

theorem Within.supersedeOps {key : ℕ} {sel : OpId → Bool} (h : Within ps s t) : Within ([Part.dict, Part.sched, Part.kiln] ++ ps) s (Machine.supersedeOps key sel t) :=
    h.step (fun h => .foldl (fun _ _ h => h.supersede) h) (by decide)

theorem Within.onUe {i : ℕ} {f : Ue → Ue} (h : Within ps s t) : Within ([Part.pipe] ++ ps) s (Machine.State.onUe t i f) :=
    h.step (fun h => h.setPipe) (by decide)

theorem Within.onHarq {ue : ℕ} {proc : ℕ} {f : Harq → Harq} (h : Within ps s t) : Within ([Part.pipe] ++ ps) s (Machine.State.onHarq t ue proc f) :=
    h.step (fun h => h.onUe) (by decide)

theorem Within.sweepEntries (h : Within ps s t) : Within ([Part.wb] ++ ps) s (Machine.sweepEntries t) :=
    h.step (fun h => h.setWb) (by decide)

theorem Within.sweepContexts (h : Within ps s t) : Within ([Part.pipe] ++ ps) s (Machine.sweepContexts t) :=
    h.step (fun h => h.setPipe) (by decide)

theorem Within.retireBanks (h : Within ps s t) : Within ([Part.wb] ++ ps) s (Machine.retireBanks t) :=
    h.step (fun h => h.setWb) (by decide)

theorem Within.freeBytes {n : ℕ} (h : Within ps s t) : Within ([Part.freeCtr] ++ ps) s (Machine.State.freeBytes t n).2 :=
    h.step (fun h => h.setFreeCtr) (by decide)

theorem Within.uciResult {u : UlResult} {ue : ℕ} {fmt : ℕ} {id : ℕ} {status : ℕ} {harq : ℕ} {sr : ℕ} {csi1 : ℕ} {csi2 : ℕ} (h : Within ps s t) : Within ([Part.freeCtr] ++ ps) s (Machine.uciResult t u ue fmt id status harq sr csi1 csi2).2 := by
  refine h.thenOf fun h => ?_
  unfold Machine.uciResult
  split
  · exact .mono h.freeBytes.freeBytes.freeBytes (by decide)
  · exact .mono h.freeBytes.freeBytes.freeBytes (by decide)

theorem Within.prachResult {c : Course} {r : Rec} (h : Within ps s t) : Within ([Part.freeCtr] ++ ps) s (Machine.prachResult t c r).2 :=
    h.step (fun h => h.freeBytes) (by decide)

theorem Within.srsResult {c : Course} {r : Rec} (h : Within ps s t) : Within ([Part.freeCtr] ++ ps) s (Machine.srsResult t c r).2 :=
    h.step (fun h => h.freeBytes.freeBytes) (by decide)

theorem Within.onChan {c : ℕ} {f : Channel → Channel} (h : Within ps s t) : Within ([Part.link] ++ ps) s (Machine.State.onChan t c f) :=
    h.step (fun h => h.setLink) (by decide)

theorem Within.askOutcome {key : ℕ} (h : Within ps s t) : Within ([Part.link] ++ ps) s (Machine.askOutcome key t) :=
    h.step (fun h => .ite h h.setLink) (by decide)

theorem Within.askOutcomes (h : Within ps s t) : Within ([Part.link] ++ ps) s (Machine.askOutcomes t) :=
    h.step (fun h => .foldl (fun _ _ h => h.askOutcome) h) (by decide)

theorem Within.commitRec {key : ℕ} {c : Course} {r : Rec} (h : Within ps s t) : Within ([Part.dict, Part.pipe] ++ ps) s (Machine.commitRec key c t r) :=
    h.step (fun h => .ite h (.onCourse (.ite h.onHarq (.ite ((by
  split
  · exact .mono (.ite h.onHarq.bump h.onHarq.bump) (by decide)
  · exact .mono h (by decide) : Within [Part.dict, Part.pipe] _ _)) h)))) (by decide)

theorem Within.clearSoft {key : ℕ} (h : Within ps s t) : Within ([Part.pipe] ++ ps) s (Machine.clearSoft key t) :=
    h.step (fun h => h.onCourse) (by decide)

theorem Within.learnRec {c : Course} {r : Rec} (h : Within ps s t) : Within ([Part.pipe] ++ ps) s (Machine.learnRec c t r) := by
  refine h.thenOf fun h => ?_
  unfold Machine.learnRec
  dsimp only
  split
  · exact .mono (.ite h h.onUe) (by decide)
  · exact .mono h (by decide)

theorem Within.countOutcome {n : ℕ} {result : ℕ} {withheld : ℕ} (h : Within ps s t) : Within ([Part.dict] ++ ps) s (Machine.countOutcome n result withheld t) := by
  refine h.thenOf fun h => ?_
  unfold Machine.countOutcome
  split
  · exact .mono h.bump.bump (by decide)
  · exact .mono h.bump.bump (by decide)
  · exact .mono h.bump.bump (by decide)

theorem Within.dropOps {key : ℕ} (h : Within ps s t) : Within ([Part.dict, Part.sched, Part.kiln] ++ ps) s (Machine.dropOps key t) :=
    h.step (fun h => .setOps (.foldl (fun _ _ h => h.withdrawJob) h)) (by decide)

theorem Within.onGuard {f : Guard → Guard} (h : Within ps s t) : Within ([Part.guard] ++ ps) s (Machine.State.onGuard t f) :=
    h.step (fun h => h.setGuard) (by decide)

theorem Within.setCause {bit : ℕ} (h : Within ps s t) : Within ([Part.dict] ++ ps) s (Machine.setCause bit t) :=
    h.step (fun h => h.setObj) (by decide)

theorem Within.showMutes (h : Within ps s t) : Within ([Part.dict, Part.blobs] ++ ps) s (Machine.showMutes t) :=
    h.step (fun h => h.setObj.setObj.setBlob.setObj) (by decide)

theorem Within.muteRecord {cause : ℕ} {scope : ℕ} {unit : ℕ} {event : ℕ} {ats : ℕ} {measure : ℤ} (h : Within ps s t) : Within ([Part.dict, Part.guard] ++ ps) s (Machine.muteRecord cause scope unit event ats measure t) := by
  refine h.thenOf fun h => ?_
  unfold Machine.muteRecord
  dsimp only
  exact .mono (h.bump.onGuard) (by decide)

theorem Within.setGate {g : ℕ} {active : Bool} (h : Within ps s t) : Within ([Part.dict, Part.time] ++ ps) s (Machine.setGate g active t) :=
    h.step (fun h => .ite h h.setObj.bump.capture) (by decide)

theorem Within.gatesOff (h : Within ps s t) : Within ([Part.dict, Part.time] ++ ps) s (Machine.gatesOff t) :=
    h.step (fun h => .foldl (fun _ _ h => .ite h.setGate h) h) (by decide)

theorem Within.addToMute {cause : ℕ} {measure : ℤ} {m : Mute} (h : Within ps s t) : Within ([Part.dict, Part.guard] ++ ps) s (Machine.addToMute cause measure m t) :=
    h.step (fun h => .ite h.onGuard.muteRecord h.onGuard) (by decide)

theorem Within.completeMute {m : Mute} (h : Within ps s t) : Within ([Part.dict, Part.link, Part.guard] ++ ps) s (Machine.completeMute m t) :=
    h.step (fun h => .setCause (.raise (.foldl (fun _ _ h => h.muteRecord) h.onGuard))) (by decide)

theorem Within.detect {cause : ℕ} {scope : ℕ} {unit : ℕ} {measure : ℤ} (h : Within ps s t) : Within ([Part.dict, Part.blobs, Part.time, Part.link, Part.guard] ++ ps) s (Machine.detect cause scope unit measure t) := by
  refine h.thenOf fun h => ?_
  unfold Machine.detect
  split
  · exact .mono h.addToMute (by decide)
  · exact .mono (.gatesOff (.showMutes (.onGuard (.foldl (fun _ _ h => h.completeMute) h)))) (by decide)

theorem Within.caughtBeforeUse {entry : ℕ} (h : Within ps s t) : Within ([Part.dict, Part.guard] ++ ps) s (Machine.caughtBeforeUse entry t) :=
    h.step (fun h => h.bump.bump.muteRecord) (by decide)

theorem Within.spareEngaged {word : ℕ} {spare : ℕ} {left : ℕ} {cause : ℕ} (h : Within ps s t) : Within ([Part.dict, Part.link] ++ ps) s (Machine.spareEngaged word spare left cause t) :=
    h.step (fun h => .ite h.raise.setCause h.raise) (by decide)

theorem Within.spareGone {key : ℕ} (h : Within ps s t) : Within ([Part.dict] ++ ps) s (Machine.spareGone key t) :=
    h.step (fun h => .ite h.setCause h) (by decide)

theorem Within.unitLost {word : ℕ} {left : ℕ} {cause : ℕ} (h : Within ps s t) : Within ([Part.dict, Part.link, Part.guard] ++ ps) s (Machine.unitLost word left cause t) :=
    h.step (fun h => h.raise.onGuard.setCause) (by decide)

theorem Within.setPairBit {lo : ℕ} {hi : ℕ} {n : ℕ} {b : Bool} (h : Within ps s t) : Within ([Part.dict] ++ ps) s (Machine.setPairBit lo hi n b t) :=
    h.step (fun h => .ite h.setObj h.setObj) (by decide)

theorem Within.partsDone (h : Within ps s t) : Within ([Part.dict, Part.svc] ++ ps) s (Machine.partsDone t) :=
    h.step (fun h => .foldl (fun _ _ h => .ite h.shutDone h) h) (by decide)

theorem Within.resettle (h : Within ps s t) : Within ([Part.dict, Part.link, Part.svc, Part.pipe, Part.sched, Part.kiln] ++ ps) s (Machine.resettle t) :=
    h.step (fun h => h.settle.releaseOps.askOutcomes.partsDone) (by decide)

theorem Within.ackCancel {tag : ℕ} (h : Within ps s t) : Within ([Part.dict, Part.link, Part.svc, Part.pipe, Part.sched, Part.kiln] ++ ps) s (Machine.ackCancel tag t) := by
  refine h.thenOf fun h => ?_
  unfold Machine.ackCancel
  dsimp only
  split
  · exact .mono (.ite h.dropJob.setOps h.dropJob.onOp.resettle) (by decide)
  · exact .mono h.dropJob (by decide)

theorem Within.rerunOp {tag : ℕ} (h : Within ps s t) : Within ([Part.dict, Part.link, Part.svc, Part.pipe, Part.sched, Part.kiln] ++ ps) s (Machine.rerunOp t tag) := by
  refine h.thenOf fun h => ?_
  unfold Machine.rerunOp
  split
  · exact .mono (.ite h.ackCancel h.bump.dropJob.traceOp.onCourse.makeReady) (by decide)
  · exact .mono h (by decide)

theorem Within.rerunUnit {cls : ℕ} {unit : ℕ} (h : Within ps s t) : Within ([Part.dict, Part.link, Part.svc, Part.pipe, Part.sched, Part.kiln] ++ ps) s (Machine.rerunUnit cls unit t) :=
    h.step (fun h => .foldl (fun _ _ h => h.rerunOp) h) (by decide)

theorem Within.moveFused {cls : ℕ} {unit : ℕ} (h : Within ps s t) : Within ([Part.sched] ++ ps) s (Machine.moveFused cls unit t) := by
  refine h.thenOf fun h => ?_
  unfold Machine.moveFused
  split
  · exact .mono h.setOps (by decide)
  · exact .mono h (by decide)

theorem Within.onWb {i : ℕ} {f : WbEntry → WbEntry} (h : Within ps s t) : Within ([Part.wb] ++ ps) s (Machine.State.onWb t i f) := by
  refine h.thenOf fun h => ?_
  unfold Machine.State.onWb
  split
  · exact .mono h.setWb (by decide)
  · exact .mono h (by decide)

theorem Within.actWbDefine {v : ℤ} (h : Within ps s t) : Within ([Part.wb] ++ ps) s (Machine.actWbDefine v t).2 := by
  refine h.thenOf fun h => ?_
  unfold Machine.actWbDefine
  dsimp only
  split
  · exact .mono ((by
    split
    · exact .mono h (by decide)
    · exact .mono ((by
      split
      · exact .mono h (by decide)
      · exact .mono ((by
          split
          · exact .mono h (by decide)
          · exact .mono h.setWb (by decide) : Within [Part.wb] _ _)) (by decide) : Within [Part.wb] _ _)) (by decide) : Within [Part.wb] _ _)) (by decide)
  · exact .mono h.onWb.sweepEntries (by decide)

theorem Within.writeBack {i : ℕ} {band : ℕ} {data : Bytes} (h : Within ps s t) : Within ([Part.dict, Part.wb] ++ ps) s (Machine.writeBack i band data t) := by
  refine h.thenOf fun h => ?_
  unfold Machine.writeBack
  split
  · exact .mono (.ite h.onWb.bump h.onWb) (by decide)
  · exact .mono h (by decide)

theorem Within.actWbWeights {data : Bytes} (h : Within ps s t) : Within ([Part.dict, Part.wb] ++ ps) s (Machine.actWbWeights data t).2 := by
  refine h.thenOf fun h => ?_
  unfold Machine.actWbWeights
  split
  · exact .mono h (by decide)
  · exact .mono ((by
      split
      · exact .mono h (by decide)
      · exact .mono ((by
        split
        · exact .mono h (by decide)
        · exact .mono ((by
          split
          · exact .mono h (by decide)
          · exact .mono ((by
            split
            · exact .mono h (by decide)
            · exact .mono h.writeBack (by decide) : Within [Part.dict, Part.wb] _ _)) (by decide) : Within [Part.dict, Part.wb] _ _)) (by decide) : Within [Part.dict, Part.wb] _ _)) (by decide) : Within [Part.dict, Part.wb] _ _)) (by decide)

theorem Within.actWbCommit (h : Within ps s t) : Within ([Part.wb] ++ ps) s (Machine.actWbCommit t).2 := by
  refine h.thenOf fun h => ?_
  unfold Machine.actWbCommit
  split
  · exact .mono h (by decide)
  · exact .mono ((by
      split
      · exact .mono h (by decide)
      · exact .mono h.onWb (by decide) : Within [Part.wb] _ _)) (by decide)

theorem Within.staleBank {entry : ℕ} {cause : ℕ} {e : WbEntry} {next : ℤ} (h : Within ps s t) : Within ([Part.dict, Part.link] ++ ps) s (Machine.staleBank entry cause e next t) :=
    h.step (fun h => h.raise) (by decide)

theorem Within.countLayer {o : Op} {saturated : ℕ} {detections : ℕ} (h : Within ps s t) : Within ([Part.dict] ++ ps) s (Machine.countLayer o saturated detections t) := by
  refine h.thenOf fun h => ?_
  unfold Machine.countLayer
  split
  · exact .mono h.bump (by decide)
  · exact .mono h.bump (by decide)
  · exact .mono h.bump.bump (by decide)
  · exact .mono h (by decide)

theorem Within.layerDone {tag : ℕ} {o : Op} (h : Within ps s t) : Within ([Part.dict, Part.pipe, Part.sched] ++ ps) s (Machine.layerDone tag o t) := by
  refine h.thenOf fun h => ?_
  unfold Machine.layerDone
  split
  · exact .mono h (by decide)
  · exact .mono ((by
      split
      · exact .mono h (by decide)
      · exact .mono (.ite h.countLayer.onOp.onCourse h.countLayer.onOp) (by decide) : Within [Part.dict, Part.pipe, Part.sched] _ _)) (by decide)

theorem Within.layerEnd {tag : ℕ} {o : Op} (h : Within ps s t) : Within ([Part.dict, Part.link, Part.svc, Part.pipe, Part.sched, Part.kiln, Part.guard] ++ ps) s (Machine.layerEnd tag o t) :=
    h.step (fun h => .ite h.bump.bump.ackCancel (.ite (.onOp (.layerDone (.foldl (fun _ _ h => h.caughtBeforeUse) h.bump))) (.onOp (.foldl (fun _ _ h => h.caughtBeforeUse) h.bump)))) (by decide)

theorem Within.onJob {i : ℕ} {slot : ℕ} {f : FusedJob → FusedJob} (h : Within ps s t) : Within ([Part.tiles] ++ ps) s (Machine.State.onJob t i slot f) := by
  refine h.thenOf fun h => ?_
  unfold Machine.State.onJob
  split
  · exact .mono ((by
      split
      · exact .mono h.setTiles (by decide)
      · exact .mono h (by decide) : Within [Part.tiles] _ _)) (by decide)
  · exact .mono h (by decide)

theorem Within.fusedEnd {i : ℕ} {slot : ℕ} {word : ℕ} {j : FusedJob} (h : Within ps s t) : Within ([Part.dict, Part.tiles] ++ ps) s (Machine.fusedEnd i slot word j t) :=
    h.step (fun h => .ite (.bump (.onJob (.ite h.bump h))) h.onJob) (by decide)

theorem Within.fusedCancel {i : ℕ} {slot : ℕ} {j : FusedJob} (h : Within ps s t) : Within ([Part.dict, Part.tiles] ++ ps) s (Machine.fusedCancel i slot j t) :=
    h.step (fun h => .ite h.onJob.bump ((by
  split
  · exact .mono h.setTiles.bump (by decide)
  · exact .mono h (by decide) : Within [Part.dict, Part.tiles] _ _))) (by decide)

theorem Within.writeLoading {key : ℕ} {c : Course} (h : Within ps s t) : Within ([Part.dict, Part.blobs] ++ ps) s (Machine.writeLoading key c t) :=
    h.step (fun h => h.setBlob.bump) (by decide)

theorem Within.endCourse {key : ℕ} (h : Within ps s t) : Within ([Part.dict, Part.blobs, Part.pipe, Part.wb] ++ ps) s (Machine.endCourse key t) := by
  refine h.thenOf fun h => ?_
  unfold Machine.endCourse
  split
  · exact .mono (.ite h (.retireBanks (.ite h.onCourse.writeLoading h.onCourse))) (by decide)
  · exact .mono h (by decide)

theorem Within.onKiln {tag : ℕ} {f : Job → Job} (h : Within ps s t) : Within ([Part.kiln] ++ ps) s (Machine.State.onKiln t tag f) := by
  refine h.thenOf fun h => ?_
  unfold Machine.State.onKiln
  split
  · exact .mono h.setKiln (by decide)
  · exact .mono h (by decide)

theorem Within.writeVersion {places : List ℕ} {off : ℕ} {b : Bytes} (h : Within ps s t) : Within ([Part.mem] ++ ps) s (Machine.State.writeVersion t places off b) :=
    h.step (fun h => h.setMem) (by decide)

theorem Within.dropVersion {ue : ℕ} {proc : ℕ} {cause : ℕ} {course : ℕ} {gen : ℕ} (h : Within ps s t) : Within ([Part.dict, Part.link, Part.pipe] ++ ps) s (Machine.dropVersion ue proc cause course gen t) := by
  refine h.thenOf fun h => ?_
  unfold Machine.dropVersion
  split
  · exact .mono h.onHarq.raiseFor (by decide)
  · exact .mono h (by decide)

theorem Within.restartJob {tag : ℕ} (h : Within ps s t) : Within ([Part.kiln] ++ ps) s (Machine.restartJob tag t) :=
    h.step (fun h => h.onKiln) (by decide)

theorem Within.askRestart {tag : ℕ} (h : Within ps s t) : Within ([Part.dict, Part.sched, Part.kiln] ++ ps) s (Machine.askRestart tag t) := by
  refine h.thenOf fun h => ?_
  unfold Machine.askRestart
  split
  · exact .mono (.ite ((by
      split
      · exact .mono (.ite h.makeReady h) (by decide)
      · exact .mono h.restartJob.bump (by decide) : Within [Part.dict, Part.sched, Part.kiln] _ _)) h) (by decide)
  · exact .mono h (by decide)

theorem Within.readLlrs {tag : ℕ} (h : Within ps s t) : Within ([Part.kiln] ++ ps) s (Machine.readLlrs tag t) :=
    h.step (fun h => h.onKiln) (by decide)

theorem Within.feedKiln {tag : ℕ} {arrived : ℕ} (h : Within ps s t) : Within ([Part.dict, Part.sched, Part.kiln] ++ ps) s (Machine.feedKiln tag arrived t) := by
  refine h.thenOf fun h => ?_
  unfold Machine.feedKiln
  split
  · exact .mono (.ite h.bump h.onKiln.readLlrs.askRestart) (by decide)
  · exact .mono h.bump (by decide)

theorem Within.countJob {kind : ℕ} {status : ℕ} (h : Within ps s t) : Within ([Part.dict] ++ ps) s (Machine.countJob kind status t) := by
  refine h.thenOf fun h => ?_
  unfold Machine.countJob
  dsimp only
  split
  · exact .mono (.ite (.ite h.bump h.bump) (.bump (.ite h.bump h.bump))) (by decide)
  · exact .mono (.ite (.ite h.bump h.bump) (.bump (.ite h.bump h.bump))) (by decide)
  · exact .mono (.bump (.ite h.bump h.bump)) (by decide)
  · exact .mono (.bump (.ite h.bump h.bump)) (by decide)
  · exact .mono (.bump (.ite h.bump h.bump)) (by decide)

theorem Within.jobDone {tag : ℕ} {status : ℕ} {j : Job} (h : Within ps s t) : Within ([Part.dict, Part.sched, Part.kiln, Part.tiles] ++ ps) s (Machine.jobDone tag status j t) := by
  refine h.thenOf fun h => ?_
  unfold Machine.jobDone
  dsimp only
  split
  · exact .mono h.onKiln.countJob.onOp (by decide)
  · exact .mono ((by
      split
      · exact .mono h.onKiln.countJob.setKiln.onJob.fusedEnd (by decide)
      · exact .mono h.onKiln.countJob (by decide) : Within [Part.dict, Part.kiln, Part.tiles] _ _)) (by decide)

theorem Within.jobPass {tag : ℕ} {j : Job} (h : Within ps s t) : Within ([Part.dict, Part.sched, Part.kiln, Part.tiles] ++ ps) s (Machine.jobPass tag j t) :=
    h.step (fun h => .jobDone (.ite h.blockEnds.bump h.blockEnds)) (by decide)

theorem Within.jobFail {tag : ℕ} {j : Job} (h : Within ps s t) : Within ([Part.dict, Part.sched, Part.kiln, Part.tiles] ++ ps) s (Machine.jobFail tag j t) :=
    h.step (fun h => .jobDone (.ite h.blockEnds.bump h.blockEnds)) (by decide)

theorem Within.jobSuspend {tag : ℕ} {j : Job} (h : Within ps s t) : Within ([Part.dict, Part.sched, Part.kiln, Part.mem] ++ ps) s (Machine.jobSuspend tag j t) :=
    h.step (fun h => .askRestart ((by
  split
  · exact .mono h.setMem.onKiln.readLlrs.onOp.traceOp (by decide)
  · exact .mono h.setMem.onKiln.readLlrs (by decide) : Within [Part.dict, Part.sched, Part.kiln, Part.mem] _ _))) (by decide)

theorem Within.loseVersion {tag : ℕ} (h : Within ps s t) : Within ([Part.dict, Part.link, Part.pipe, Part.kiln] ++ ps) s (Machine.loseVersion tag t) :=
    h.step (fun h => .onKiln ((by
  split
  · exact .mono ((by
      split
      · exact .mono h.dropVersion (by decide)
      · exact .mono h (by decide) : Within [Part.dict, Part.link, Part.pipe] _ _)) (by decide)
  · exact .mono ((by
      split
      · exact .mono ((by
          split
          · exact .mono h.dropVersion (by decide)
          · exact .mono h (by decide) : Within [Part.dict, Part.link, Part.pipe] _ _)) (by decide)
      · exact .mono h (by decide) : Within [Part.dict, Part.link, Part.pipe] _ _)) (by decide) : Within [Part.dict, Part.link, Part.pipe] _ _))) (by decide)

theorem Within.cancelJob {tag : ℕ} (h : Within ps s t) : Within ([Part.dict, Part.link, Part.svc, Part.pipe, Part.sched, Part.kiln, Part.tiles] ++ ps) s (Machine.cancelJob tag t) := by
  refine h.thenOf fun h => ?_
  unfold Machine.cancelJob
  dsimp only
  split
  · exact .mono ((by
      split
      · exact .mono h.bump.dropKilnJob.ackCancel (by decide)
      · exact .mono ((by
          split
          · exact .mono h.bump.dropKilnJob.fusedCancel (by decide)
          · exact .mono h.bump.dropKilnJob (by decide) : Within [Part.dict, Part.kiln, Part.tiles] _ _)) (by decide) : Within [Part.dict, Part.link, Part.svc, Part.pipe, Part.sched, Part.kiln, Part.tiles] _ _)) (by decide)
  · exact .mono ((by
      split
      · exact .mono h.bump.ackCancel (by decide)
      · exact .mono ((by
          split
          · exact .mono h.bump.fusedCancel (by decide)
          · exact .mono h (by decide) : Within [Part.dict, Part.tiles] _ _)) (by decide) : Within [Part.dict, Part.link, Part.svc, Part.pipe, Part.sched, Part.kiln, Part.tiles] _ _)) (by decide)

theorem Within.attemptEnd {tag : ℕ} {b : Boundary} (h : Within ps s t) : Within ([Part.dict, Part.link, Part.svc, Part.pipe, Part.sched, Part.kiln, Part.tiles, Part.mem] ++ ps) s (Machine.attemptEnd tag b t) := by
  refine h.thenOf fun h => ?_
  unfold Machine.attemptEnd
  dsimp only
  split
  · exact .mono h (by decide)
  · exact .mono (.ite h (.ite h.cancelJob (.ite (.jobDone (.blockEnds (.ite h h.bump))) ((by
      split
      · exact .mono (.onKiln (.ite (.bump (.ite h.loseVersion h)) (.ite h.loseVersion h))) (by decide)
      · exact .mono (.jobPass (.ite (.ite (.bump (.ite h.loseVersion h)) (.ite h.loseVersion h)) (.bump (.ite (.bump (.ite h.loseVersion h)) (.ite h.loseVersion h))))) (by decide)
      · exact .mono (.jobFail (.ite (.ite (.bump (.ite h.loseVersion h)) (.ite h.loseVersion h)) (.bump (.ite (.bump (.ite h.loseVersion h)) (.ite h.loseVersion h))))) (by decide)
      · exact .mono (.jobSuspend (.ite (.bump (.ite h.loseVersion h)) (.ite h.loseVersion h))) (by decide) : Within [Part.dict, Part.link, Part.pipe, Part.sched, Part.kiln, Part.tiles, Part.mem] _ _))))) (by decide)

theorem Within.faultJob {cls : ℕ} {tag : ℕ} (h : Within ps s t) : Within ([Part.dict] ++ ps) s (Machine.faultJob cls t tag) :=
    h.step (fun h => .ite h.bump.bump ((by
  split
  · exact .mono (.countJob (.ite h h.bump)) (by decide)
  · exact .mono h (by decide) : Within [Part.dict] _ _))) (by decide)

theorem Within.failReserve {tag : ℕ} {code : ℕ} {k : ℕ} (h : Within ps s t) : Within ([Part.dict, Part.sched] ++ ps) s (Machine.failReserve tag code k t) := by
  refine h.thenOf fun h => ?_
  unfold Machine.failReserve
  split
  · exact .mono h (by decide)
  · exact .mono (.ite h.bump.traceOp.bump.setSched h.bump.traceOp) (by decide)

theorem Within.beginFetch {tag : ℕ} {o : Op} (h : Within ps s t) : Within ([Part.hod, Part.mem] ++ ps) s (Machine.beginFetch tag o t) := by
  refine h.via ⟨fun p hp => ?_⟩
  cases p <;> simp_all [Part.same, Machine.beginFetch]

theorem Within.beginOn {tag : ℕ} {o : Op} (h : Within ps s t) : Within ([Part.dict, Part.sched, Part.kiln, Part.hod, Part.tiles, Part.mem] ++ ps) s (Machine.beginOn tag o t) :=
    h.step (fun h => .ite ((by
  split
  · exact .mono h.bump.bump.restartJob.traceOp (by decide)
  · exact .mono ((by
      split
      · exact .mono (.ite h.setKiln.blockEnds.jobDone h.setKiln) (by decide)
      · exact .mono h (by decide) : Within [Part.dict, Part.sched, Part.kiln, Part.tiles] _ _)) (by decide) : Within [Part.dict, Part.sched, Part.kiln, Part.tiles] _ _)) (.ite h.beginFetch h)) (by decide)

theorem Within.dispatchOp {tag : ℕ} {unit : ℕ} {tested : ℕ} {o : Op} {r : Reserved} (h : Within ps s t) : Within ([Part.dict, Part.sched, Part.kiln, Part.hod, Part.tiles, Part.mem] ++ ps) s (Machine.dispatchOp tag unit tested o r t) :=
    h.step (fun h => .ite (.traceOp (.ite (.ite h.bump.onOp.setSched h.bump.onOp) (.setSched (.ite h.bump.onOp.setSched h.bump.onOp)))) (.traceOp (.beginOn (.traceOp (.ite (.ite h.bump.onOp.setSched h.bump.onOp) (.setSched (.ite h.bump.onOp.setSched h.bump.onOp))))))) (by decide)

theorem Within.writeBlock {places : List ℕ} {j : Job} (h : Within ps s t) : Within ([Part.mem] ++ ps) s (Machine.writeBlock places j t) :=
    h.step (fun h => .ite h.writeVersion.writeVersion h.writeVersion) (by decide)

theorem Within.newTable {places : List ℕ} {c : ℕ} {passed : List ℕ} (h : Within ps s t) : Within ([Part.mem] ++ ps) s (Machine.newTable places c passed t) :=
    h.step (fun h => h.writeVersion) (by decide)

theorem Within.publishDec {tag : ℕ} {o : Op} (h : Within ps s t) : Within ([Part.dict, Part.pipe, Part.kiln, Part.mem] ++ ps) s (Machine.publishDec tag o t) := by
  refine h.thenOf fun h => ?_
  unfold Machine.publishDec
  dsimp only
  split
  · exact .mono ((by
      split
      · exact .mono h.dropJob.onCourse.onHarq.newTable.writeBlock (by decide)
      · exact .mono (.ite h.dropJob.onCourse.bump h.dropJob.onCourse) (by decide)
      · exact .mono h.dropJob.onCourse.writeBlock (by decide)
      · exact .mono h.dropJob.onCourse (by decide) : Within [Part.dict, Part.pipe, Part.kiln, Part.mem] _ _)) (by decide)
  · exact .mono h.dropJob (by decide)

theorem Within.publishFound {o : Op} {x1 : Option Found} (h : Within ps s t) : Within ([Part.pipe] ++ ps) s (Machine.publishFound o x1 t) := by
  refine h.thenOf fun h => ?_
  unfold Machine.publishFound
  split
  · exact .mono h.onCourse (by decide)
  · exact .mono h (by decide)

theorem Within.publishSrs {o : Op} (h : Within ps s t) : Within ([Part.dict, Part.pipe, Part.wb] ++ ps) s (Machine.publishSrs o t) := by
  refine h.thenOf fun h => ?_
  unfold Machine.publishSrs
  split
  · exact .mono (.ite h ((by
      split
      · exact .mono (.onCourse (.bump (.onWb (.foldl (fun _ _ h => h.writeBack) h)))) (by decide)
      · exact .mono h.bump (by decide) : Within [Part.dict, Part.pipe, Part.wb] _ _))) (by decide)
  · exact .mono h (by decide)

theorem Within.publishDemod {o : Op} (h : Within ps s t) : Within ([Part.pipe] ++ ps) s (Machine.publishDemod o t) := by
  refine h.thenOf fun h => ?_
  unfold Machine.publishDemod
  split
  · exact .mono (.ite h.publishFound h) (by decide)
  · exact .mono h (by decide)

theorem Within.publishUci {tag : ℕ} {o : Op} (h : Within ps s t) : Within ([Part.pipe, Part.kiln] ++ ps) s (Machine.publishUci tag o t) := by
  refine h.thenOf fun h => ?_
  unfold Machine.publishUci
  split
  · exact .mono h.dropJob.onCourse (by decide)
  · exact .mono h.dropJob (by decide)

theorem Within.publishKind {tag : ℕ} {o : Op} (h : Within ps s t) : Within ([Part.dict, Part.pipe, Part.kiln, Part.wb, Part.mem] ++ ps) s (Machine.publishKind tag o t) :=
    h.step (fun h => .ite h.bump ((by
  split
  · exact .mono h.publishDec (by decide)
  · exact .mono h.publishFound.publishSrs (by decide)
  · exact .mono h.publishDemod (by decide)
  · exact .mono h.publishFound (by decide)
  · exact .mono h.publishFound (by decide)
  · exact .mono h.publishFound (by decide)
  · exact .mono h.publishUci (by decide)
  · exact .mono h.dropJob (by decide) : Within [Part.dict, Part.pipe, Part.kiln, Part.wb, Part.mem] _ _))) (by decide)

theorem Within.encodeEnd {tag : ℕ} {how : TaskEnd} {o : Op} (h : Within ps s t) : Within ([Part.dict, Part.sched] ++ ps) s (Machine.encodeEnd tag how o t) :=
    h.step (fun h => .onOp (.ite h.bump.bump (.ite h.bump.bump h.bump))) (by decide)

theorem Within.endOp {tag : ℕ} {how : TaskEnd} {o : Op} (h : Within ps s t) : Within ([Part.dict, Part.link, Part.svc, Part.pipe, Part.sched, Part.kiln, Part.wb, Part.tiles, Part.mem] ++ ps) s (Machine.endOp tag how o t) :=
    h.step (fun h => .ite (.ite h.traceOp.cancelJob (.ackCancel (.ite h.traceOp.bump h.traceOp))) ((by
  split
  · exact .mono (.resettle ((by
      split
      · exact .mono h.traceOp.setMem.publishKind.onOp.traceOp (by decide)
      · exact .mono h.traceOp.setMem.publishKind.onOp (by decide) : Within [Part.dict, Part.pipe, Part.sched, Part.kiln, Part.wb, Part.mem] _ _))) (by decide)
  · exact .mono h.traceOp.onOp.causeAt.resettle (by decide)
  · exact .mono h.traceOp.setMem.dropJob.onOp.causeAt.resettle (by decide)
  · exact .mono h.traceOp.rerunOp (by decide)
  · exact .mono h.traceOp.ackCancel (by decide) : Within [Part.dict, Part.link, Part.svc, Part.pipe, Part.sched, Part.kiln, Part.wb, Part.mem] _ _))) (by decide)

theorem Within.cancelAtLf {tag : ℕ} {o : Op} (h : Within ps s t) : Within ([Part.dict, Part.link, Part.svc, Part.pipe, Part.sched, Part.kiln, Part.hod] ++ ps) s (Machine.cancelAtLf tag o t) :=
    h.step (fun h => .ite (.resettle (.onOp (.ite h.countExpiry.traceOp.setSched h.countExpiry.traceOp))) (.ite h.countExpiry.traceOp.onOp.resettle (.ite h.countExpiry.traceOp.onOp.setHod h.countExpiry.traceOp.onOp))) (by decide)

theorem Within.abandonCopies {i : ℕ} (h : Within ps s t) : Within ([Part.dict, Part.sched] ++ ps) s (Machine.abandonCopies i t) :=
    h.step (fun h => h.setSched.bump) (by decide)

theorem Within.tracePop (h : Within ps s t) : Within ([Part.sched] ++ ps) s (Machine.tracePop t) :=
    h.step (fun h => h.setSched) (by decide)

theorem Within.touchCache {ue : ℕ} (h : Within ps s t) : Within ([Part.dict, Part.pipe] ++ ps) s (Machine.touchCache t ue) :=
    h.step (fun h => .ite h.setPipe h.setPipe.bump) (by decide)

theorem Within.reserveSoft {key : ℕ} {needs : List (ℕ × ℕ)} (h : Within ps s t) : Within ([Part.pipe] ++ ps) s (Machine.reserveSoft key needs t) :=
    h.step (fun h => .foldl (fun _ _ h => (by
  split
  · exact .mono (.ite h.onCourse h) (by decide)
  · exact .mono h (by decide) : Within [Part.pipe] _ _)) h) (by decide)

theorem Within.storeData {places : List (ℕ × ℕ)} {r : Request} (h : Within ps s t) : Within ([Part.mem] ++ ps) s (Machine.storeData places r t) :=
    h.step (fun h => h.setMem) (by decide)

theorem Within.acceptTentative {k : Claim} {outSeq : ℕ} {a2 : Asked} {d : Desc} (h : Within ps s t) : Within ([Part.dict, Part.link, Part.svc, Part.pipe, Part.sched, Part.kiln, Part.mem] ++ ps) s (Machine.acceptTentative k outSeq a2 d t) :=
    h.step (fun h => .resettle (.issueGraph (.reserveSoft (.setPipe (.foldl (fun _ _ h => h.touchCache) h.storeData))))) (by decide)

theorem Within.acceptRevise {k : Claim} {a1 : Asked} {c : Course} {d : Desc} (h : Within ps s t) : Within ([Part.dict, Part.link, Part.svc, Part.pipe, Part.sched, Part.kiln, Part.wb, Part.mem] ++ ps) s (Machine.acceptRevise k a1 c d t) :=
    h.step (fun h => .resettle (.issueGraph (.bump (.sweepEntries (.reserveSoft (.onCourse (.foldl (fun _ _ h => h.touchCache) h.supersedeOps.storeData))))))) (by decide)

theorem Within.bindCourse {key : ℕ} {host : Bool} (h : Within ps s t) : Within ([Part.pipe, Part.sched] ++ ps) s (Machine.bindCourse key host t) :=
    h.step (fun h => h.onCourse.releaseOps) (by decide)

theorem Within.cancelCourse {key : ℕ} (h : Within ps s t) : Within ([Part.dict, Part.blobs, Part.link, Part.pipe, Part.sched, Part.kiln, Part.wb] ++ ps) s (Machine.cancelCourse key t) :=
    h.step (fun h => h.endCourse.onCourse.dropOps.askOutcome) (by decide)

theorem Within.acceptRequest {k : Claim} {outSeq : ℕ} {a2 : Asked} (h : Within ps s t) : Within ([Part.dict, Part.blobs, Part.link, Part.svc, Part.pipe, Part.sched, Part.kiln, Part.wb, Part.mem] ++ ps) s (Machine.acceptRequest k outSeq a2 t) := by
  refine h.thenOf fun h => ?_
  unfold Machine.acceptRequest
  split
  · exact .mono h.acceptTentative (by decide)
  · exact .mono h.acceptRevise (by decide)
  · exact .mono (.ite h.bindCourse h) (by decide)
  · exact .mono h.cancelCourse (by decide)
  · exact .mono h (by decide)

theorem Within.handled (h : Within ps s t) : Within ([Part.dict, Part.blobs, Part.link, Part.svc, Part.pipe, Part.sched, Part.kiln, Part.wb, Part.mem] ++ ps) s (Machine.State.handled t) :=
    h.step (fun h => .setLink (.foldl (fun _ _ h => .foldl (fun _ _ h => h.acceptRequest) h) h)) (by decide)

theorem Within.countRefused {a : Asked} (h : Within ps s t) : Within ([Part.link, Part.pipe] ++ ps) s (Machine.countRefused a t) :=
    h.step (fun h => .ite h.onCourse h.onChan) (by decide)

theorem Within.countRefusal {a : Asked} {r : Reason} (h : Within ps s t) : Within ([Part.dict, Part.link, Part.pipe] ++ ps) s (Machine.countRefusal a r t) :=
    h.step (fun h => .ite (.countRefused (.ite (.bump (.ite (.bump (.ite h.bump h)) (.ite h.bump h))) (.ite (.bump (.ite h.bump h)) (.ite h.bump h)))) (.ite (.bump (.ite h.bump h)) (.ite h.bump h))) (by decide)

theorem Within.completeRequest {r : Request} (h : Within ps s t) : Within ([Part.dict, Part.link, Part.pipe] ++ ps) s (Machine.completeRequest r t) :=
    h.step (fun h => .setLink (.ite h.onChan.onChan h.onChan.countRefusal)) (by decide)

theorem Within.sendVerdict {chan : ℕ} {v : Verdict} {replay : Bool} (h : Within ps s t) : Within ([Part.dict, Part.blobs, Part.link, Part.svc, Part.pipe, Part.sched, Part.kiln, Part.wb, Part.mem] ++ ps) s (Machine.sendVerdict chan v replay t) := by
  refine h.thenOf fun h => ?_
  unfold Machine.sendVerdict
  dsimp only
  split
  · exact .mono h.onChan.send.acceptRequest (by decide)
  · exact .mono h.onChan.send (by decide)

theorem Within.discard {chan : ℕ} {length : ℕ} (h : Within ps s t) : Within ([Part.dict, Part.link] ++ ps) s (Machine.discard chan length t) :=
    h.step (fun h => .ite h.bump.onChan h.bump) (by decide)

theorem Within.duplicate {hdr : CourseHdr} (h : Within ps s t) : Within ([Part.dict, Part.link] ++ ps) s (Machine.duplicate hdr t) :=
    h.step (fun h => h.bump.onChan) (by decide)

theorem Within.refuseSequence {type : ℕ} {hdr : CourseHdr} (h : Within ps s t) : Within ([Part.dict, Part.link] ++ ps) s (Machine.refuseSequence type hdr t) :=
    h.step (fun h => h.bump.onChan.send) (by decide)

theorem Within.courseMessage {type : ℕ} {hdr : CourseHdr} {tbBytes : ℕ} {desc : Bytes} (h : Within ps s t) : Within ([Part.dict, Part.link, Part.pipe] ++ ps) s (Machine.courseMessage type hdr tbBytes desc t) :=
    h.step (fun h => .ite h.duplicate (.ite h.onChan.refuseSequence (.ite h.onChan.completeRequest h.onChan.onChan))) (by decide)

theorem Within.tbData {hdr : CourseHdr} {handle : ℕ} {offset : ℕ} {data : Bytes} (h : Within ps s t) : Within ([Part.dict, Part.link, Part.pipe] ++ ps) s (Machine.tbData hdr handle offset data t) :=
    h.step (fun h => .ite h.duplicate ((by
  split
  · exact .mono (.ite (.ite h.onChan.completeRequest h.onChan.onChan) h.onChan.discard) (by decide)
  · exact .mono h.onChan.discard (by decide) : Within [Part.dict, Part.link, Part.pipe] _ _))) (by decide)

theorem Within.onChain {c : ℕ} {f : DfeChain → DfeChain} (h : Within ps s t) : Within ([Part.dfe] ++ ps) s (Machine.State.onChain t c f) :=
    h.step (fun h => h.setDfe) (by decide)

theorem Within.clearFilters {c : ℕ} (h : Within ps s t) : Within ([Part.dfe] ++ ps) s (Machine.clearFilters c t) :=
    h.step (fun h => h.onChain) (by decide)

theorem Within.nlAccept (h : Within ps s t) : Within ([Part.dict, Part.dfe] ++ ps) s (Machine.nlAccept t) :=
    h.step (fun h => h.setObj.setObj.clearFilters) (by decide)

theorem Within.gapOpen (h : Within ps s t) : Within ([Part.dict, Part.clock, Part.time, Part.nl, Part.guard] ++ ps) s (Machine.gapOpen t) :=
    h.step (fun h => .ite ((by
  split
  · exact .mono h.advanceToAir.setObj.onNl (by decide)
  · exact .mono h (by decide) : Within [Part.dict, Part.clock, Part.time, Part.nl, Part.guard] _ _)) h) (by decide)

theorem Within.takeChains {n : ℕ} (h : Within ps s t) : Within ([Part.dict, Part.dfe] ++ ps) s (Machine.takeChains n t) :=
    h.step (fun h => .foldl (fun _ _ h => h.setObj.clearFilters) h) (by decide)

theorem Within.releaseChains {n : ℕ} (h : Within ps s t) : Within ([Part.dict, Part.dfe] ++ ps) s (Machine.releaseChains n t) :=
    h.step (fun h => .setDfe (.foldl (fun _ _ h => .foldl (fun _ _ h => h.setObj) h) h)) (by decide)

theorem Within.onPath {c : ℕ} {p : Path} {f : CoefPath → CoefPath} (h : Within ps s t) : Within ([Part.dfe] ++ ps) s (Machine.State.onPath t c p f) :=
    h.step (fun h => h.onChain) (by decide)

theorem Within.applyTaps {c : ℕ} {p : Path} {w : Option Bytes} (h : Within ps s t) : Within ([Part.dict, Part.blobs, Part.dfe] ++ ps) s (Machine.applyTaps c p w t) := by
  refine h.thenOf fun h => ?_
  unfold Machine.applyTaps
  split
  · exact .mono h.changeBlob.onPath (by decide)
  · exact .mono (.ite (.ite h.onPath h.onPath) h) (by decide)

theorem Within.reachTaps {c : ℕ} {p : Path} {w : Option Bytes} (h : Within ps s t) : Within ([Part.dict, Part.blobs, Part.dfe] ++ ps) s (Machine.reachTaps c p w t) :=
    h.step (fun h => .ite h.onPath h.applyTaps) (by decide)

theorem Within.actTaps {c : ℕ} {p : Path} {b : Bytes} (h : Within ps s t) : Within ([Part.dict, Part.blobs, Part.dfe] ++ ps) s (Machine.actTaps c p b t).2 := by
  refine h.thenOf fun h => ?_
  unfold Machine.actTaps
  split
  · exact .mono h (by decide)
  · exact .mono ((by
    split
    · exact .mono h (by decide)
    · exact .mono ((by
      split
      · exact .mono h (by decide)
      · exact .mono h.reachTaps (by decide) : Within [Part.dict, Part.blobs, Part.dfe] _ _)) (by decide) : Within [Part.dict, Part.blobs, Part.dfe] _ _)) (by decide)

theorem Within.actTapsCommit {c : ℕ} {p : Path} (h : Within ps s t) : Within ([Part.dict, Part.blobs, Part.dfe] ++ ps) s (Machine.actTapsCommit c p t).2 :=
    h.step (fun h => h.reachTaps) (by decide)

theorem Within.staleTaps {c : ℕ} {p : Path} {cause : ℕ} {b : ℤ} {next : ℤ} (h : Within ps s t) : Within ([Part.dict, Part.link] ++ ps) s (Machine.staleTaps c p cause b next t) :=
    h.step (fun h => h.raise) (by decide)

theorem Within.decidePath {c : ℕ} {b : ℤ} {next : ℤ} {p : Path} (h : Within ps s t) : Within ([Part.dict, Part.link, Part.dfe] ++ ps) s (Machine.decidePath c b next p t) := by
  refine h.thenOf fun h => ?_
  unfold Machine.decidePath
  split
  · exact .mono h.onPath (by decide)
  · exact .mono h.staleTaps (by decide)
  · exact .mono (.ite h.staleTaps h) (by decide)

theorem Within.startFade {c : ℕ} {p : Path} (h : Within ps s t) : Within ([Part.dfe] ++ ps) s (Machine.startFade c p t) :=
    h.step (fun h => .ite h.onPath h) (by decide)

theorem Within.endFade {c : ℕ} {p : Path} (h : Within ps s t) : Within ([Part.dict, Part.blobs, Part.dfe] ++ ps) s (Machine.endFade c p t) :=
    h.step (fun h => .ite h.changeBlob.onPath h) (by decide)

theorem Within.copyDone {c : ℕ} {p : Path} (h : Within ps s t) : Within ([Part.dict, Part.blobs, Part.dfe] ++ ps) s (Machine.copyDone c p t) :=
    h.step (fun h => .ite (.foldl (fun _ _ h => h.applyTaps) h.changeBlob.onPath) h) (by decide)

theorem Within.takeCrcInjection {chain : ℕ} (h : Within ps s t) : Within ([Part.guard] ++ ps) s (Machine.takeCrcInjection chain t) :=
    h.step (fun h => h.onGuard) (by decide)

theorem Within.checkCrcs {chain : ℕ} {path : Path} {ok : Bool} (h : Within ps s t) : Within ([Part.dfe, Part.freeCtr] ++ ps) s (Machine.checkCrcs chain path ok t) :=
    h.step (fun h => .ite h.onPath (.ite ((by
  split
  next x0 x1 hx =>
    have hx : Within [Part.freeCtr] _ x1 := .mono (Within.snd h.free hx) (by decide)
    exact .mono hx.onPath (by decide) : Within [Part.dfe, Part.freeCtr] _ _)) h.onPath)) (by decide)

theorem Within.resetChain {b : ℤ} {c : ℕ} (h : Within ps s t) : Within ([Part.dfe] ++ ps) s (Machine.resetChain b t c) :=
    h.step (fun h => .ite h h.onChain.setDfe) (by decide)

theorem Within.syncReset (h : Within ps s t) : Within ([Part.dict, Part.dfe] ++ ps) s (Machine.syncReset t) :=
    h.step (fun h => .ite h (.foldl (fun _ _ h => .ite h.change h) (.bump (.foldl (fun _ _ h => h.resetChain) h)))) (by decide)

theorem Within.actDfeResetAll (h : Within ps s t) : Within ([Part.dict, Part.dfe] ++ ps) s (Machine.actDfeResetAll t).2 := by
  refine h.thenOf fun h => ?_
  unfold Machine.actDfeResetAll
  split
  · exact .mono h (by decide)
  · exact .mono h.setObj.setDfe (by decide)

theorem Within.countFilter {c : ℕ} {o : FilterOut} (h : Within ps s t) : Within ([Part.dict] ++ ps) s (Machine.countFilter c o t) :=
    h.step (fun h => h.bump.bump.bump) (by decide)

theorem Within.feedReceive {c : ℕ} {origin : ℚ} {label : ℚ} {iq : List (ℤ × ℤ)} (h : Within ps s t) : Within ([Part.dict, Part.dfe] ++ ps) s (Machine.feedReceive c origin label iq t) :=
    h.step (fun h => h.onChain.countFilter) (by decide)

theorem Within.feedTransmit {c : ℕ} {origin : ℚ} {label : ℚ} {gain : ℚ → ℕ} {iq : List (ℤ × ℤ)} (h : Within ps s t) : Within ([Part.dict, Part.dfe] ++ ps) s (Machine.feedTransmit c origin label gain iq t) :=
    h.step (fun h => h.onChain.countFilter) (by decide)

theorem Within.listenSamples {ats : ℕ} {iq : List (ℤ × ℤ)} (h : Within ps s t) : Within ([Part.dict, Part.nl, Part.dfe] ++ ps) s (Machine.listenSamples ats iq t) := by
  refine h.thenOf fun h => ?_
  unfold Machine.listenSamples
  dsimp only
  exact .mono (h.feedReceive.onNl) (by decide)

theorem Within.raiseThreshold {c : ℕ} (h : Within ps s t) : Within ([Part.dict, Part.link, Part.dfe] ++ ps) s (Machine.raiseThreshold c t) := by
  refine h.thenOf fun h => ?_
  unfold Machine.raiseThreshold
  dsimp only
  exact .mono (h.raise.onChain) (by decide)

theorem Within.openEndless {n : ℕ} (h : Within ps s t) : Within ([Part.dict, Part.dfe] ++ ps) s (Machine.openEndless n t) :=
    h.step (fun h => .ite h.setDfe (.ite h.setDfe.bump h.setDfe.setObj)) (by decide)

theorem Within.closeEndless {n : ℕ} (h : Within ps s t) : Within ([Part.dict] ++ ps) s (Machine.closeEndless n t) :=
    h.step (fun h => .ite h.setObj h) (by decide)

theorem Within.onPort {p : ℕ} {f : PortIo → PortIo} (h : Within ps s t) : Within ([Part.fh] ++ ps) s (Machine.State.onPort t p f) :=
    h.step (fun h => h.setFh) (by decide)

theorem Within.latchPads {d : ℕ} (h : Within ps s t) : Within ([Part.power] ++ ps) s (Machine.latchPads d t) := by
  refine h.thenOf fun h => ?_
  unfold Machine.latchPads
  split
  · exact .mono h.setPower (by decide)
  · exact .mono h (by decide)

theorem Within.releasePads {d : ℕ} (h : Within ps s t) : Within ([Part.power] ++ ps) s (Machine.releasePads d t) :=
    h.step (fun h => h.setPower) (by decide)

theorem Within.driveWithRun {d : ℕ} (h : Within ps s t) : Within ([Part.power] ++ ps) s (Machine.driveWithRun d t) :=
    h.step (fun h => .ite h h.releasePads) (by decide)

theorem Within.bringUp {p : ℕ} (h : Within ps s t) : Within ([Part.fh, Part.power] ++ ps) s (Machine.bringUp p t) := by
  refine h.thenOf fun h => ?_
  unfold Machine.bringUp
  dsimp only
  exact .mono (.onPort (.ite h.releasePads h)) (by decide)

theorem Within.portAccept {p : ℕ} (h : Within ps s t) : Within ([Part.dict, Part.fh, Part.power] ++ ps) s (Machine.portAccept p t) :=
    h.step (fun h => h.setObj.bringUp) (by decide)

theorem Within.lanesLost {p : ℕ} (h : Within ps s t) : Within ([Part.dict, Part.time] ++ ps) s (Machine.lanesLost p t) :=
    h.step (fun h => .foldl (fun _ _ h => h.laneLost) h) (by decide)

theorem Within.linkLost {p : ℕ} (h : Within ps s t) : Within ([Part.dict, Part.time] ++ ps) s (Machine.linkLost p t) :=
    h.step (fun h => h.lanesLost.setPtp.refreshQualified) (by decide)

theorem Within.portOff {p : ℕ} (h : Within ps s t) : Within ([Part.dict, Part.time, Part.fh] ++ ps) s (Machine.portOff p t) :=
    h.step (fun h => h.setObj.onPort.linkLost) (by decide)

theorem Within.bindCarrier {n : ℕ} (h : Within ps s t) : Within ([Part.dict] ++ ps) s (Machine.bindCarrier n t) :=
    h.step (fun h => h.setObj.setObj.setObj) (by decide)

theorem Within.nextSeq {key : ℕ} (h : Within ps s t) : Within ([Part.fh] ++ ps) s (Machine.nextSeq key t) :=
    h.step (fun h => h.setFh) (by decide)

theorem Within.takeSeq {key : ℕ} (h : Within ps s t) : Within ([Part.fh] ++ ps) s (Machine.takeSeq key t).2 :=
    h.step (fun h => h.nextSeq) (by decide)

theorem Within.sentFrames {p : ℕ} {frames : ℕ} {bytes : ℕ} (h : Within ps s t) : Within ([Part.dict] ++ ps) s (Machine.sentFrames p frames bytes t) :=
    h.step (fun h => h.bump.bump) (by decide)

theorem Within.requeue {p : ℕ} (h : Within ps s t) : Within ([Part.fh] ++ ps) s (Machine.requeue p t) :=
    h.step (fun h => h.onPort) (by decide)

theorem Within.enterQueue {p : ℕ} {cls : ℕ} {bytes : ℕ} {ends : ℕ} (h : Within ps s t) : Within ([Part.fh] ++ ps) s (Machine.enterQueue p cls bytes ends t) :=
    h.step (fun h => h.onPort.requeue) (by decide)

theorem Within.sendLaunch {p : ℕ} {l : Launch} (h : Within ps s t) : Within ([Part.dict, Part.fh] ++ ps) s (Machine.sendLaunch p l t) :=
    h.step (fun h => h.sentFrames.onPort.requeue) (by decide)

theorem Within.sendOwn {p : ℕ} {frames : List OutFrame} {bytes : ℕ} (h : Within ps s t) : Within ([Part.dict, Part.fh] ++ ps) s (Machine.sendOwn p frames bytes t) :=
    h.step (fun h => h.sentFrames.onPort.enterQueue) (by decide)

theorem Within.markSymbol {key : ℕ} {f : Course → Course} (h : Within ps s t) : Within ([Part.pipe] ++ ps) s (Machine.markSymbol key f t) :=
    h.step (fun h => h.onCourse) (by decide)

theorem Within.notSent {key : ℕ} {status : ℕ} {l : ℕ} (h : Within ps s t) : Within ([Part.pipe] ++ ps) s (Machine.notSent key status l t) := by
  refine h.thenOf fun h => ?_
  unfold Machine.notSent
  split
  · exact .mono h (by decide)
  · exact .mono h.onCourse.causeAt (by decide)

theorem Within.withhold {key : ℕ} {l : ℕ} (h : Within ps s t) : Within ([Part.pipe] ++ ps) s (Machine.withhold key l t) := by
  refine h.thenOf fun h => ?_
  unfold Machine.withhold
  split
  · exact .mono h (by decide)
  · exact .mono h.onCourse.causeAt (by decide)

theorem Within.blank {key : ℕ} {l : ℕ} {c : Course} (h : Within ps s t) : Within ([Part.dict, Part.pipe] ++ ps) s (Machine.blank key l c t) :=
    h.step (fun h => .causeAt (.onCourse (.ite h h.bump))) (by decide)

theorem Within.meter {n : ℕ} {power : ℤ} (h : Within ps s t) : Within ([Part.dict, Part.blobs, Part.time, Part.link, Part.guard, Part.freeCtr] ++ ps) s (Machine.meter n power t) := by
  refine h.thenOf fun h => ?_
  unfold Machine.meter
  have hs : Within _ t ((t.setObj (O.pwrMax n) (max (t.obj (O.pwrMax n)) power)).free.2.onGuard fun g => { g with synth := g.synth.filter (· != (5, n)) }) :=
    h.setObj.free.onGuard
  exact .mono (Within.ite hs.detect (Within.ite h.setObj.detect h.setObj)) (by decide)

theorem Within.strikeFate {key : ℕ} {n : ℕ} {l : ℕ} {c : Course} {ready : Bool} {f : Fate} (h : Within ps s t) : Within ([Part.dict, Part.pipe] ++ ps) s (Machine.strikeFate key n l c ready f t) := by
  refine h.thenOf fun h => ?_
  unfold Machine.strikeFate
  split
  · exact .mono h.blank (by decide)
  · exact .mono h.withhold (by decide)
  · exact .mono h.withhold (by decide)
  · exact .mono h.withhold (by decide)
  · exact .mono h.withhold (by decide)
  · exact .mono (.withhold (.ite h h.bump)) (by decide)
  · exact .mono h.notSent (by decide)
  · exact .mono h.notSent (by decide)
  · exact .mono h.notSent (by decide)
  · exact .mono (.onCourse (.ite h h.notSent)) (by decide)

theorem Within.rideAlong {l : ℕ} {k : ℕ} {f : Fate} {riders : List (ℕ × Course × Bool × Fate)} (h : Within ps s t) : Within ([Part.dict, Part.pipe] ++ ps) s (Machine.rideAlong l k f riders t) :=
    h.step (fun h => .foldl (fun _ _ h => h.strikeFate.onCourse) h) (by decide)

theorem Within.sendSamples {n : ℕ} {l : ℕ} {k : ℕ} {slotAir : ℤ} {own : Option ℕ} {guests : List ℕ} (h : Within ps s t) : Within ([Part.dict, Part.fh, Part.dfe] ++ ps) s (Machine.sendSamples n l k slotAir own guests t) := by
  refine h.thenOf fun h => ?_
  unfold Machine.sendSamples
  split
  · exact .mono h.feedTransmit.setFh (by decide)

theorem Within.cutMessages {m n k count : Nat} (h : Within ps s t) : Within ([Part.fh] ++ ps) s (Machine.cutMessages m n k count t).2 := by
  refine h.via ?_
  clear h
  induction m generalizing t with
  | zero => exact (Within.start t).mono (by decide)
  | succ m ih =>
    unfold Machine.cutMessages
    dsimp only
    split
    · exact (Within.start t).mono (by decide)
    · exact .mono ((Within.start t).setFh.takeSeq.via ih) (by decide)

theorem Within.launchSamples {key : ℕ} {hdr : ℕ} {l : ℕ} {k : ℕ} {p : ℕ} {riders : List ℕ} (h : Within ps s t) : Within ([Part.dict, Part.pipe, Part.fh] ++ ps) s (Machine.launchSamples key hdr l k p riders t) :=
  h.step (fun h => .foldl (fun _ _ h => .ite h.bump.notSent h.bump.sendLaunch) h.cutMessages) (by decide)

theorem Within.malformed {p : ℕ} (h : Within ps s t) : Within ([Part.dict] ++ ps) s (Machine.malformed p t) :=
    h.step (fun h => h.bump) (by decide)

theorem Within.judgeSeq {p : ℕ} {n : ℕ} {m : IqMsg} (h : Within ps s t) : Within ([Part.dict, Part.fh] ++ ps) s (Machine.judgeSeq p n m t) :=
    h.step (fun h => .setFh ((by
  split
  · exact .mono (.ite h h.bump) (by decide)
  · exact .mono h (by decide) : Within [Part.dict] _ _))) (by decide)

theorem Within.takeWhole {key : ℕ} {symbols : List ℕ} (h : Within ps s t) : Within ([Part.pipe] ++ ps) s (Machine.takeWhole key symbols t) := by
  refine h.thenOf fun h => ?_
  unfold Machine.takeWhole
  split
  · exact .mono h (by decide)
  · exact .mono h.onCourse (by decide)

theorem Within.symbolIn {n : ℕ} {m : IqMsg} (h : Within ps s t) : Within ([Part.dict, Part.link, Part.svc, Part.pipe, Part.sched, Part.kiln] ++ ps) s (Machine.symbolIn n m t) :=
    h.step (fun h => .ite (.resettle (.foldl (fun _ _ h => h.onCourse.takeWhole) h)) (.foldl (fun _ _ h => h.onCourse.takeWhole) h)) (by decide)

theorem Within.joinSamples {n : ℕ} {port : ℕ} {out : List FilterSample} (h : Within ps s t) : Within ([Part.pipe] ++ ps) s (Machine.joinSamples n port out t) :=
    h.step (fun h => .foldl (fun _ _ h => .takeWhole (.foldl (fun _ _ h => h.onCourse) h)) h) (by decide)

theorem Within.timeSamples {n : ℕ} {m : IqMsg} (h : Within ps s t) : Within ([Part.dict, Part.link, Part.svc, Part.pipe, Part.sched, Part.kiln, Part.dfe] ++ ps) s (Machine.timeSamples n m t) :=
    h.step (fun h => .ite h.feedReceive.joinSamples.resettle h.feedReceive.joinSamples) (by decide)

theorem Within.watchTake {m : IqMsg} {k : ℕ} (h : Within ps s t) : Within ([Part.dict, Part.dfe, Part.power] ++ ps) s (Machine.watchTake m t k) :=
    h.step (fun h => .ite h.feedReceive h.setPower) (by decide)

theorem Within.forwardTo {ingress : ℕ} {f : Frame} {p : ℕ} (h : Within ps s t) : Within ([Part.dict, Part.time, Part.fh] ++ ps) s (Machine.forwardTo ingress f t p) :=
    h.step (fun h => .ite (.ite h.bump.sentFrames.onTime.enterQueue h.bump.sentFrames.enterQueue) h.bump) (by decide)

theorem Within.forward {p : ℕ} {f : Frame} (h : Within ps s t) : Within ([Part.dict, Part.time, Part.fh] ++ ps) s (Machine.forward p f t) :=
    h.step (fun h => .ite h.bump ((by
  split
  · exact .mono h.bump (by decide)
  · exact .mono (.foldl (fun _ _ h => h.forwardTo) (.ite h.onTime h)) (by decide) : Within [Part.dict, Part.time, Part.fh] _ _))) (by decide)

theorem Within.actFwdRules {data : Bytes} (h : Within ps s t) : Within ([Part.dict, Part.blobs] ++ ps) s (Machine.actFwdRules data t).2 := by
  refine h.thenOf fun h => ?_
  unfold Machine.actFwdRules
  dsimp only
  split
  · exact .mono h (by decide)
  · exact .mono ((by
    split
    · exact .mono h (by decide)
    · exact .mono ((by
      split
      · exact .mono h (by decide)
      · exact .mono h.changeBlob (by decide) : Within [Part.dict, Part.blobs] _ _)) (by decide) : Within [Part.dict, Part.blobs] _ _)) (by decide)

theorem Within.onFh {f : Fronthaul → Fronthaul} (h : Within ps s t) : Within ([Part.fh] ++ ps) s (Machine.State.onFh t f) :=
    h.step (fun h => h.setFh) (by decide)

theorem Within.sendSmall {p : ℕ} {dst : ℕ} {bodies : List FrameBody} (h : Within ps s t) : Within ([Part.dict, Part.fh] ++ ps) s (Machine.sendSmall p dst bodies t) :=
    h.step (fun h => .ite h.sendOwn h) (by decide)

theorem Within.startOwd {p : ℕ} {dst : ℕ} {follow : Bool} (h : Within ps s t) : Within ([Part.dict, Part.fh] ++ ps) s (Machine.startOwd p dst follow t) := by
  refine h.thenOf fun h => ?_
  unfold Machine.startOwd
  dsimp only
  exact .mono (h.sendSmall.onFh) (by decide)

theorem Within.actOwdStart {v : ℤ} (h : Within ps s t) : Within ([Part.dict, Part.fh] ++ ps) s (Machine.actOwdStart v t).2 := by
  refine h.thenOf fun h => ?_
  unfold Machine.actOwdStart
  split
  · exact .mono h (by decide)
  · exact .mono h.startOwd (by decide)

theorem Within.actResetSend (h : Within ps s t) : Within ([Part.dict, Part.fh] ++ ps) s (Machine.actResetSend t).2 := by
  refine h.thenOf fun h => ?_
  unfold Machine.actResetSend
  dsimp only
  exact .mono (h.setObj.sendSmall.onFh) (by decide)

theorem Within.resend {q : ℕ} {l : Launch} (h : Within ps s t) : Within ([Part.dict, Part.fh] ++ ps) s (Machine.resend q l t) :=
    h.step (fun h => h.bump.sendLaunch) (by decide)

theorem Within.loseLaunches {p : ℕ} {to' : Option ℕ} (h : Within ps s t) : Within ([Part.dict, Part.pipe, Part.fh] ++ ps) s (Machine.loseLaunches p to' t) :=
    h.step (fun h => .foldl (fun _ _ h => .ite ((by
  split
  · exact .mono (.ite h.resend h) (by decide)
  · exact .mono h (by decide) : Within [Part.dict, Part.fh] _ _)) (.foldl (fun _ _ h => h.notSent) h)) h.onPort) (by decide)

theorem Within.failover {p : ℕ} {cause : ℕ} (h : Within ps s t) : Within ([Part.dict, Part.link, Part.pipe, Part.fh, Part.freeCtr] ++ ps) s (Machine.failover p cause t) := by
  refine h.thenOf fun h => ?_
  unfold Machine.failover
  split
  · exact .mono h.loseLaunches (by decide)
  · exact .mono (Within.ite (.ite h.loseLaunches h) (.raise (.free (.foldl (fun _ _ h => h.setObj) h.loseLaunches)))) (by decide)

theorem Within.takeOver {p : ℕ} (h : Within ps s t) : Within ([Part.dict, Part.link, Part.pipe, Part.fh, Part.freeCtr] ++ ps) s (Machine.takeOver p t) := by
  refine h.thenOf fun h => ?_
  unfold Machine.takeOver
  split
  · exact .mono h (by decide)
  · exact .mono (.ite h (.ite h.failover (.ite h.failover h))) (by decide)

theorem Within.attachCarrier {n : ℕ} (h : Within ps s t) : Within ([Part.dict, Part.link, Part.pipe, Part.fh, Part.freeCtr] ++ ps) s (Machine.attachCarrier n t) := by
  refine h.thenOf fun h => ?_
  unfold Machine.attachCarrier
  dsimp only
  split
  · exact .mono h.bindCarrier.takeOver (by decide)
  · exact .mono h.bindCarrier (by decide)

theorem Within.portDown {p : ℕ} (h : Within ps s t) : Within ([Part.dict, Part.time, Part.link, Part.pipe, Part.fh, Part.power, Part.freeCtr] ++ ps) s (Machine.portDown p t) := by
  refine h.thenOf fun h => ?_
  unfold Machine.portDown
  dsimp only
  exact .mono (h.setObj.raise.linkLost.bringUp.onPort.failover) (by decide)

theorem Within.carrierAccept {n : ℕ} (h : Within ps s t) : Within ([Part.dict, Part.link, Part.pipe, Part.guard, Part.fh, Part.dfe, Part.freeCtr] ++ ps) s (Machine.carrierAccept n t) := by
  refine h.thenOf fun h => ?_
  unfold Machine.carrierAccept
  dsimp only
  exact .mono (.onGuard (.setObj (.openEndless (.foldl (fun _ _ h => h.setObj) (.attachCarrier (.ite h.setObj.setObj.setPipe.setObj.setObj.takeChains h.setObj.setObj.setPipe.setObj.setObj)))))) (by decide)

theorem Within.cancelWhere {sel : ℕ → Bool} (h : Within ps s t) : Within ([Part.dict, Part.blobs, Part.link, Part.pipe, Part.sched, Part.kiln, Part.wb] ++ ps) s (Machine.cancelWhere sel t) :=
    h.step (fun h => .foldl (fun _ _ h => h.cancelCourse) h) (by decide)

theorem Within.carrierOff {n : ℕ} (h : Within ps s t) : Within ([Part.dict, Part.blobs, Part.time, Part.pipe, Part.guard, Part.dfe] ++ ps) s (Machine.carrierOff n t) :=
    h.step (fun h => .showMutes (.onGuard (.setPipe (.foldl (fun _ _ h => .ite h.setGate h) (.foldl (fun _ _ h => h.setObj) h.releaseChains))))) (by decide)

theorem Within.carrierDone {n : ℕ} (h : Within ps s t) : Within ([Part.dict, Part.blobs, Part.time, Part.svc, Part.pipe, Part.guard, Part.dfe] ++ ps) s (Machine.carrierDone n t) :=
    h.step (fun h => .ite h.carrierOff.shutDone h) (by decide)

theorem Within.actUeContext {data : Bytes} (h : Within ps s t) : Within ([Part.dict, Part.pipe] ++ ps) s (Machine.actUeContext data t).2 := by
  refine h.thenOf fun h => ?_
  unfold Machine.actUeContext
  dsimp only
  split
  · exact .mono h (by decide)
  · exact .mono (.ite h.onUe h.onUe.bump) (by decide)

theorem Within.actUeRelease {v : ℤ} (h : Within ps s t) : Within ([Part.pipe] ++ ps) s (Machine.actUeRelease v t).2 := by
  refine h.thenOf fun h => ?_
  unfold Machine.actUeRelease
  dsimp only
  split
  · exact .mono h.onUe.sweepContexts (by decide)
  · exact .mono h (by decide)

theorem Within.onLink {f : Link → Link} (h : Within ps s t) : Within ([Part.link] ++ ps) s (Machine.State.onLink t f) :=
    h.step (fun h => h.setLink) (by decide)

theorem Within.retirePage {page : ℕ} (h : Within ps s t) : Within ([Part.dict, Part.integ] ++ ps) s (Machine.retirePage t page) :=
    h.step (fun h => h.bump.setInteg) (by decide)

theorem Within.releasePage {page : ℕ} (h : Within ps s t) : Within ([Part.dict, Part.integ, Part.freeCtr] ++ ps) s (Machine.releasePage t page) := by
  refine h.thenOf fun h => ?_
  unfold Machine.releasePage
  split
  next x0 x1 hx =>
    have hx : Within [Part.freeCtr] _ x1 := .mono (Within.snd h.free hx) (by decide)
    exact .mono (.ite hx.setInteg.setObj.retirePage hx) (by decide)

theorem Within.releasePages (h : Within ps s t) : Within ([Part.dict, Part.integ, Part.freeCtr] ++ ps) s (Machine.releasePages t) :=
    h.step (fun h => .foldl (fun _ _ h => h.releasePage) h) (by decide)

theorem Within.verdictWritten {chan : ℕ} {v : Verdict} (h : Within ps s t) : Within ([Part.dict, Part.blobs, Part.link, Part.svc, Part.pipe, Part.sched, Part.kiln, Part.wb, Part.mem] ++ ps) s (Machine.verdictWritten chan v t) :=
    h.step (fun h => .ite h (.ite (.sendVerdict (.ite h h.onChan)) (.onChan (.ite h h.onChan)))) (by decide)

theorem Within.sendOutcome {chan : ℕ} (h : Within ps s t) : Within ([Part.dict, Part.blobs, Part.link, Part.pipe, Part.wb] ++ ps) s (Machine.sendOutcome chan t) := by
  refine h.thenOf fun h => ?_
  unfold Machine.sendOutcome
  dsimp only
  split
  · exact .mono (.ite h.onChan.send.endCourse h) (by decide)
  · exact .mono h (by decide)

theorem Within.ackTo {chan : ℕ} {seq : ℕ} (h : Within ps s t) : Within ([Part.link, Part.pipe] ++ ps) s (Machine.ackTo chan seq t) :=
    h.step (fun h => .foldl (fun _ _ h => h.onCourse) h.onChan) (by decide)

theorem Within.takeAck {chan : ℕ} {seq : ℕ} {credits : ℕ} (h : Within ps s t) : Within ([Part.dict, Part.link, Part.pipe] ++ ps) s (Machine.takeAck chan seq credits t) :=
    h.step (fun h => .ite h.bump (.ite h.onChan.bump (.ite h.onChan.onChan h.onChan.onChan.ackTo))) (by decide)

theorem Within.ackArrival {chan : ℕ} {seq : ℕ} {credits : ℕ} (h : Within ps s t) : Within ([Part.dict, Part.link, Part.pipe] ++ ps) s (Machine.ackArrival chan seq credits t) :=
    h.step (fun h => .ite h.bump (.ite h h.takeAck)) (by decide)

theorem Within.discardIncomplete (h : Within ps s t) : Within ([Part.link] ++ ps) s (Machine.discardIncomplete t) :=
    h.step (fun h => h.onLink) (by decide)

theorem Within.suspendSession {cause : ℕ} (h : Within ps s t) : Within ([Part.dict, Part.link] ++ ps) s (Machine.suspendSession cause t) :=
    h.step (fun h => .ite h h.setObj.onLink.discardIncomplete) (by decide)

theorem Within.closeSession (h : Within ps s t) : Within ([Part.dict, Part.blobs, Part.link, Part.pipe, Part.sched, Part.kiln, Part.wb] ++ ps) s (Machine.closeSession t) :=
    h.step (fun h => h.cancelWhere.setPipe.onLink.setObj.setBlob) (by decide)

theorem Within.openSession {hostId : ℕ} {entries : List ResumeEntry} (h : Within ps s t) : Within ([Part.dict, Part.blobs, Part.link] ++ ps) s (Machine.openSession hostId entries t) :=
    h.step (fun h => h.onLink.setObj.setBlob) (by decide)

theorem Within.resumeReply {seq : ℕ} {r : Reason} {bad : ℕ} {figures : Bool} (h : Within ps s t) : Within ([Part.link] ++ ps) s (Machine.resumeReply seq r bad figures t) :=
    h.step (fun h => h.send) (by decide)

theorem Within.resumeChannel {grant : ℕ} {i : ℕ × ResumeEntry} (h : Within ps s t) : Within ([Part.link, Part.pipe] ++ ps) s (Machine.resumeChannel grant t i) := by
  refine h.thenOf fun h => ?_
  unfold Machine.resumeChannel
  dsimp only
  exact .mono (.onChan (.ite h h.ackTo)) (by decide)

theorem Within.sendOutcomes {k chan : Nat} (h : Within ps s t) : Within ([Part.dict, Part.blobs, Part.link, Part.pipe, Part.wb] ++ ps) s (Machine.sendOutcomes k chan t) := by
  refine h.via ?_
  clear h
  induction k generalizing t with
  | zero => exact (Within.start t).mono (by decide)
  | succ k ih => exact .mono ((Within.start t).sendOutcome.via ih) (by decide)

theorem Within.replayChannel {i : ℕ × ResumeEntry} (h : Within ps s t) : Within ([Part.dict, Part.blobs, Part.link, Part.svc, Part.pipe, Part.sched, Part.kiln, Part.wb, Part.mem] ++ ps) s (Machine.replayChannel t i) :=
  h.step (fun h => .sendOutcomes (.foldl (fun _ _ h => h.sendVerdict) h)) (by decide)

theorem Within.resumeChannels {entries : List ResumeEntry} {seq : ℕ} (h : Within ps s t) : Within ([Part.dict, Part.blobs, Part.link, Part.svc, Part.pipe, Part.sched, Part.kiln, Part.wb, Part.mem] ++ ps) s (Machine.resumeChannels entries seq t) :=
    h.step (fun h => .foldl (fun _ _ h => h.replayChannel) (.resumeReply (.setObj (.foldl (fun _ _ h => h.resumeChannel) h)))) (by decide)

theorem Within.resumeAnswer {seq : ℕ} {entries : List ResumeEntry} {bad : Option (ℕ × ResumeEntry)} (h : Within ps s t) : Within ([Part.dict, Part.blobs, Part.link, Part.svc, Part.pipe, Part.sched, Part.kiln, Part.wb, Part.mem] ++ ps) s (Machine.resumeAnswer seq entries bad t) := by
  refine h.thenOf fun h => ?_
  unfold Machine.resumeAnswer
  split
  · exact .mono h.resumeReply (by decide)
  · exact .mono h.onLink.resumeChannels (by decide)

theorem Within.resumeSession {seq : ℕ} {entries : List ResumeEntry} (h : Within ps s t) : Within ([Part.dict, Part.blobs, Part.link, Part.svc, Part.pipe, Part.sched, Part.kiln, Part.wb, Part.mem] ++ ps) s (Machine.resumeSession seq entries t) :=
    h.step (fun h => .resumeAnswer (.ite h.discardIncomplete h)) (by decide)

theorem Within.handleResume {seq : ℕ} {mode : ℕ} {hostId : ℕ} {entries : List ResumeEntry} (h : Within ps s t) : Within ([Part.dict, Part.blobs, Part.link, Part.svc, Part.pipe, Part.sched, Part.kiln, Part.wb, Part.mem] ++ ps) s (Machine.handleResume seq mode hostId entries t) :=
    h.step (fun h => .ite h.resumeReply (.ite (.ite h.openSession.resumeReply h.resumeReply) (.ite h.bump.resumeReply (.ite h.closeSession.resumeReply (.ite h.closeSession.openSession.resumeReply h.resumeSession))))) (by decide)

theorem Within.takeResume {dt : ℕ} {seq : ℕ} {mode : ℕ} {hostId : ℕ} {entries : List ResumeEntry} (h : Within ps s t) : Within ([Part.dict, Part.blobs, Part.clock, Part.time, Part.link, Part.svc, Part.pipe, Part.sched, Part.kiln, Part.wb, Part.guard, Part.mem] ++ ps) s (Machine.takeResume dt seq mode hostId entries t) :=
    h.step (fun h => .ite h.advance.handleResume h.advance.holdTransfer) (by decide)

theorem Within.actSessionHold {v : ℤ} (h : Within ps s t) : Within ([Part.dict, Part.blobs, Part.link, Part.pipe, Part.sched, Part.kiln, Part.wb] ++ ps) s (Machine.actSessionHold v t).2 :=
    h.step (fun h => .ite h.change.closeSession h.change) (by decide)

theorem Within.setModule {m : ℕ} {x1 : Module} (h : Within ps s t) : Within ([Part.dict, Part.link] ++ ps) s (Machine.setModule m x1 t) :=
    h.step (fun h => h.onLink.setObj) (by decide)

theorem Within.moveAll {m : ℕ} (h : Within ps s t) : Within ([Part.link] ++ ps) s (Machine.moveAll m t) :=
    h.step (fun h => h.onLink) (by decide)

theorem Within.resendFlight {m : ℕ} (h : Within ps s t) : Within ([Part.link] ++ ps) s (Machine.resendFlight m t) :=
    h.step (fun h => .foldl (fun _ _ h => h.send) h.onLink) (by decide)

theorem Within.loseModule {m : ℕ} (h : Within ps s t) : Within ([Part.dict, Part.link] ++ ps) s (Machine.loseModule m t) :=
    h.step (fun h => .ite h.setModule (.ite h.setModule.raise.onLink.onLink.resendFlight h.setModule.raise.onLink.onLink.suspendSession)) (by decide)

theorem Within.retrainModule {m : ℕ} (h : Within ps s t) : Within ([Part.dict, Part.link] ++ ps) s (Machine.retrainModule m t) :=
    h.step (fun h => .ite h (.ite h.setModule h.setModule.moveAll)) (by decide)

theorem Within.useModule {chan : ℕ} {m : ℕ} (h : Within ps s t) : Within ([Part.link] ++ ps) s (Machine.useModule chan m t) :=
    h.step (fun h => .ite h.onLink h.onChan) (by decide)

theorem Within.onInteg {f : Integrity → Integrity} (h : Within ps s t) : Within ([Part.integ] ++ ps) s (Machine.State.onInteg t f) :=
    h.step (fun h => h.setInteg) (by decide)

theorem Within.healed {l : List ℕ} (h : Within ps s t) : Within ([Part.integ] ++ ps) s (Machine.healed l t) :=
    h.step (fun h => h.setInteg) (by decide)

theorem Within.logError {memory : ℕ} {error : ℕ} {regime : ℕ} {foundBy : ℕ} {unit : ℕ} {addr : ℕ} {syndrome : ℕ} {bit : ℕ} {bank : ℕ} {level : ℕ} {page : ℕ} (h : Within ps s t) : Within ([Part.dict, Part.integ] ++ ps) s (Machine.logError memory error regime foundBy unit addr syndrome bit bank level page t) := by
  refine h.thenOf fun h => ?_
  unfold Machine.logError
  dsimp only
  exact .mono (h.bump.onInteg) (by decide)

theorem Within.feedPage {page : ℕ} (h : Within ps s t) : Within ([Part.dict, Part.integ] ++ ps) s (Machine.feedPage page t) := by
  refine h.thenOf fun h => ?_
  unfold Machine.feedPage
  split
  · exact .mono h.onInteg (by decide)
  · exact .mono (.onInteg (.ite h ((by
      split
      · exact .mono h.bump.onInteg (by decide)
      · exact .mono h (by decide) : Within [Part.dict, Part.integ] _ _)))) (by decide)

theorem Within.advise {page : ℕ} {cause : ℕ} {regime : ℕ} (h : Within ps s t) : Within ([Part.dict, Part.link] ++ ps) s (Machine.advise page cause regime t) :=
    h.step (fun h => h.raise) (by decide)

theorem Within.judgePage {page : ℕ} (h : Within ps s t) : Within ([Part.dict, Part.link, Part.integ] ++ ps) s (Machine.judgePage page t) :=
    h.step (fun h => .ite h.advise.onInteg h) (by decide)

theorem Within.judgeUnit {kind : ℕ} {unit : ℕ} {limit : ℕ} (h : Within ps s t) : Within ([Part.dict, Part.link, Part.integ] ++ ps) s (Machine.judgeUnit kind unit limit t) :=
    h.step (fun h => .ite h.raise.onInteg h) (by decide)

theorem Within.recordError {foundBy : ℕ} {error : ℕ} {e : MemError} {g : Region} (h : Within ps s t) : Within ([Part.dict, Part.integ] ++ ps) s (Machine.recordError foundBy error e g t) :=
    h.step (fun h => h.logError) (by decide)

theorem Within.countPage {g : Region} {a1 : ℕ} (h : Within ps s t) : Within ([Part.integ] ++ ps) s (Machine.countPage g a1 t) := by
  refine h.thenOf fun h => ?_
  unfold Machine.countPage
  split
  · exact .mono h.onInteg (by decide)
  · exact .mono h (by decide)

theorem Within.countCorrected {g : Region} (h : Within ps s t) : Within ([Part.dict] ++ ps) s (Machine.countCorrected g t) := by
  refine h.thenOf fun h => ?_
  unfold Machine.countCorrected
  split
  · exact .mono h.bump (by decide)
  · exact .mono h.bump (by decide)
  · exact .mono h.bump (by decide)

theorem Within.correctedError {foundBy : ℕ} {e : MemError} (h : Within ps s t) : Within ([Part.dict, Part.link, Part.integ] ++ ps) s (Machine.correctedError foundBy e t) := by
  refine h.thenOf fun h => ?_
  unfold Machine.correctedError
  dsimp only
  exact .mono (.ite h.countCorrected.bump.onInteg.countPage.recordError (.ite h.countCorrected.recordError ((by
  split
  · exact .mono (.judgePage (.judgeUnit (.recordError ((by
      split
      · exact .mono h.countCorrected.onInteg.countPage.feedPage (by decide)
      · exact .mono h.countCorrected.onInteg.countPage (by decide) : Within [Part.dict, Part.integ] _ _))))) (by decide)
  · exact .mono (.judgeUnit (.recordError ((by
      split
      · exact .mono h.countCorrected.onInteg.countPage.feedPage (by decide)
      · exact .mono h.countCorrected.onInteg.countPage (by decide) : Within [Part.dict, Part.integ] _ _)))) (by decide) : Within [Part.dict, Part.link, Part.integ] _ _)))) (by decide)

theorem Within.uncorrectableError {foundBy : ℕ} {e : MemError} (h : Within ps s t) : Within ([Part.dict, Part.link, Part.integ] ++ ps) s (Machine.uncorrectableError foundBy e t) := by
  refine h.thenOf fun h => ?_
  unfold Machine.uncorrectableError
  dsimp only
  split
  · exact .mono (.advise (.recordError (.countPage ((by
      split
      · exact .mono h.onInteg.bump (by decide)
      · exact .mono h.onInteg.bump.onInteg (by decide)
      · exact .mono h.onInteg.bump (by decide) : Within [Part.dict, Part.integ] _ _))))) (by decide)
  · exact .mono (.recordError (.countPage ((by
      split
      · exact .mono h.onInteg.bump (by decide)
      · exact .mono h.onInteg.bump.onInteg (by decide)
      · exact .mono h.onInteg.bump (by decide) : Within [Part.dict, Part.integ] _ _)))) (by decide)

theorem Within.noteError {foundBy : ℕ} {e : MemError} (h : Within ps s t) : Within ([Part.dict, Part.link, Part.integ] ++ ps) s (Machine.noteError foundBy t e) := by
  refine h.thenOf fun h => ?_
  unfold Machine.noteError
  split
  · exact .mono h (by decide)
  · exact .mono h (by decide)
  · exact .mono (.ite h (.ite h.correctedError h.uncorrectableError)) (by decide)
  · exact .mono (.ite h.correctedError h.uncorrectableError) (by decide)

theorem Within.metPoisonBy {foundBy : ℕ} {a1 : ℕ} (h : Within ps s t) : Within ([Part.dict, Part.link, Part.integ, Part.freeCtr] ++ ps) s (Machine.metPoisonBy foundBy a1 t) := by
  refine h.thenOf fun h => ?_
  unfold Machine.metPoisonBy
  split
  next x0 x1 hx =>
    have hx : Within _ t x1 := Within.snd h.free hx
    split
    · exact .mono (Within.ite hx hx.uncorrectableError) (by decide)
    · exact .mono hx.uncorrectableError (by decide)

theorem Within.metPoison {a : ℕ} (h : Within ps s t) : Within ([Part.dict, Part.link, Part.integ, Part.freeCtr] ++ ps) s (Machine.metPoison a t) :=
    h.step (fun h => h.metPoisonBy) (by decide)

theorem Within.poisonBytes {l : List ℕ} (h : Within ps s t) : Within ([Part.integ] ++ ps) s (Machine.poisonBytes l t) :=
    h.step (fun h => h.onInteg) (by decide)

theorem Within.writeLine {cells : List Host.Cell} (h : Within ps s t) : Within ([Part.dict, Part.link, Part.integ, Part.mem, Part.freeCtr] ++ ps) s (Machine.writeLine cells t).2 := by
  refine h.thenOf fun h => ?_
  unfold Machine.writeLine
  dsimp only
  split
  · exact .mono h (by decide)
  · exact .mono ((by
      split
      · exact .mono h (by decide)
      · exact .mono ((by
        split
        · exact .mono h (by decide)
        · exact .mono h (by decide)
        · exact .mono ((by
            split
            · exact .mono h.setMem.healed.metPoisonBy (by decide)
            · exact .mono h.setMem.healed (by decide) : Within [Part.dict, Part.link, Part.integ, Part.mem, Part.freeCtr] _ _)) (by decide) : Within [Part.dict, Part.link, Part.integ, Part.mem, Part.freeCtr] _ _)) (by decide) : Within [Part.dict, Part.link, Part.integ, Part.mem, Part.freeCtr] _ _)) (by decide)

theorem Within.endRegime (h : Within ps s t) : Within ([Part.dict, Part.link, Part.integ] ++ ps) s (Machine.endRegime t) :=
    h.step (fun h => .ite h (.onInteg (.setObj (.foldl (fun _ _ h => h.advise) h)))) (by decide)

theorem Within.startRecovery (h : Within ps s t) : Within ([Part.dict] ++ ps) s (Machine.startRecovery t) :=
    h.step (fun h => .ite h.setObj h) (by decide)

theorem Within.settleRegime (h : Within ps s t) : Within ([Part.dict, Part.link, Part.integ] ++ ps) s (Machine.settleRegime t) :=
    h.step (fun h => .ite h.endRegime h) (by decide)

theorem Within.bothCopiesLost (h : Within ps s t) : Within ([Part.dict, Part.blobs, Part.link, Part.pipe, Part.sched, Part.kiln, Part.wb] ++ ps) s (Machine.bothCopiesLost t) :=
    h.step (fun h => .closeSession (.foldl (fun _ _ h => h.cancelCourse) h)) (by decide)

theorem Within.journalLoses {c : ℕ} (h : Within ps s t) : Within ([Part.dict, Part.blobs, Part.link, Part.pipe, Part.sched, Part.kiln, Part.wb, Part.integ] ++ ps) s (Machine.journalLoses c t) :=
    h.step (fun h => .ite (.ite h.setObj.setCause.setObj.onInteg.bothCopiesLost.settleRegime ((by
  split
  · exact .mono h.setObj.setCause.setObj.onInteg.startRecovery (by decide)
  · exact .mono h.setObj.setCause.onInteg (by decide) : Within [Part.dict, Part.integ] _ _))) (.ite h.setObj.onInteg.settleRegime h)) (by decide)

theorem Within.markNotKept {key : ℕ} {rec : ℕ} (h : Within ps s t) : Within ([Part.pipe] ++ ps) s (Machine.markNotKept key rec t) :=
    h.step (fun h => h.onCourse) (by decide)

theorem Within.markDropped {ue : ℕ} {proc : ℕ} (h : Within ps s t) : Within ([Part.pipe] ++ ps) s (Machine.markDropped ue proc t) :=
    h.step (fun h => .foldl (fun _ _ h => h.onCourse) h) (by decide)

theorem Within.loseProc {ue : ℕ} {proc : ℕ} {hdr : Harq} (h : Within ps s t) : Within ([Part.dict, Part.link, Part.pipe] ++ ps) s (Machine.loseProc ue proc hdr t) := by
  refine h.thenOf fun h => ?_
  unfold Machine.loseProc
  dsimp only
  exact .mono (.onHarq ((by
  split
  · exact .mono h.raise (by decide)
  · exact .mono h.dropVersion.markDropped (by decide)
  · exact .mono h (by decide) : Within [Part.dict, Part.link, Part.pipe] _ _))) (by decide)

theorem Within.loseContext {i : ℕ} (h : Within ps s t) : Within ([Part.dict, Part.link, Part.pipe] ++ ps) s (Machine.loseContext t i) :=
    h.step (fun h => .onUe (.foldl (fun _ _ h => h.loseProc) h)) (by decide)

theorem Within.contextsLost {c : ℕ} (h : Within ps s t) : Within ([Part.dict, Part.link, Part.pipe, Part.integ] ++ ps) s (Machine.contextsLost c t) :=
    h.step (fun h => .ite (.startRecovery (.onInteg (.foldl (fun _ _ h => h.loseContext) h))) (.setPipe (.foldl (fun _ _ h => h.loseContext) h))) (by decide)

theorem Within.versionsLost {c : ℕ} (h : Within ps s t) : Within ([Part.dict, Part.link, Part.pipe] ++ ps) s (Machine.versionsLost c t) := by
  refine h.thenOf fun h => ?_
  unfold Machine.versionsLost
  dsimp only
  exact .mono (.foldl (fun _ _ h => (by
  split
  · exact .mono (.ite (.markNotKept (.bump (.onHarq ((by
      split
      · exact .mono (.ite h.dropVersion.markDropped h) (by decide)
      · exact .mono h (by decide) : Within [Part.dict, Part.link, Part.pipe] _ _))))) ((by
      split
      · exact .mono (.ite h.dropVersion.markDropped h) (by decide)
      · exact .mono h (by decide) : Within [Part.dict, Part.link, Part.pipe] _ _))) (by decide)
  · exact .mono ((by
      split
      · exact .mono (.ite h.dropVersion.markDropped h) (by decide)
      · exact .mono h (by decide) : Within [Part.dict, Part.link, Part.pipe] _ _)) (by decide) : Within [Part.dict, Part.link, Part.pipe] _ _)) h) (by decide)

theorem Within.reserveAgain {c : ℕ} (h : Within ps s t) : Within ([Part.pipe] ++ ps) s (Machine.reserveAgain c t) := by
  refine h.thenOf fun h => ?_
  unfold Machine.reserveAgain
  dsimp only
  exact .mono (.foldl (fun _ _ h => (by
  split
  · exact .mono (.ite h.onCourse.onCourse h.onCourse.markNotKept) (by decide)
  · exact .mono h.onCourse.markNotKept (by decide) : Within [Part.pipe] _ _)) h) (by decide)

theorem Within.dataLost {c : ℕ} (h : Within ps s t) : Within ([Part.pipe] ++ ps) s (Machine.dataLost c t) :=
    h.step (fun h => .foldl (fun _ _ h => h.causeAt) h) (by decide)

theorem Within.stagingLost {c : ℕ} (h : Within ps s t) : Within ([Part.sched] ++ ps) s (Machine.stagingLost c t) :=
    h.step (fun h => h.setOps) (by decide)

theorem Within.banksLost {c : ℕ} (h : Within ps s t) : Within ([Part.wb] ++ ps) s (Machine.banksLost c t) :=
    h.step (fun h => h.setWb) (by decide)

theorem Within.channelLost {c : ℕ} {cause : ℕ} (h : Within ps s t) : Within ([Part.dict, Part.blobs, Part.link, Part.svc, Part.pipe, Part.sched, Part.kiln, Part.wb, Part.integ] ++ ps) s (Machine.channelLost c cause t) :=
    h.step (fun h => h.setObj.setCause.contextsLost.versionsLost.reserveAgain.dataLost.stagingLost.banksLost.raise.logError.onInteg.journalLoses.resettle) (by decide)

theorem Within.channelFails {c : ℕ} (h : Within ps s t) : Within ([Part.dict, Part.blobs, Part.link, Part.svc, Part.pipe, Part.sched, Part.kiln, Part.wb, Part.integ, Part.freeCtr] ++ ps) s (Machine.channelFails c t) :=
    h.step (fun h => h.free.channelLost) (by decide)

theorem Within.putCtx {i : ℕ} {c : Ctx} (h : Within ps s t) : Within ([Part.tiles] ++ ps) s (Machine.putCtx i c t) :=
    h.step (fun h => h.setTiles) (by decide)

theorem Within.commitTo {i : ℕ} {c : Ctx} (h : Within ps s t) : Within ([Part.tiles] ++ ps) s (Machine.commitTo i c t) :=
    h.step (fun h => h.putCtx) (by decide)

theorem Within.countExc {i : ℕ} {c : Ctx} {e : Exc} (h : Within ps s t) : Within ([Part.dict, Part.blobs] ++ ps) s (Machine.countExc i c e t) :=
    h.step (fun h => .ite (.setObj (.bump (.setBlob (.ite h.bump h)))) (.setBlob (.ite h.bump h))) (by decide)

theorem Within.noteExc {i : ℕ} {c : Ctx} {e : Exc} (h : Within ps s t) : Within ([Part.dict, Part.blobs, Part.link, Part.integ, Part.freeCtr] ++ ps) s (Machine.noteExc i c e t) :=
    h.step (fun h => .ite h.countExc.metPoison h.countExc) (by decide)

theorem Within.enterExc {i : ℕ} {c : Ctx} {e : Exc} (h : Within ps s t) : Within ([Part.tiles] ++ ps) s (Machine.enterExc i c e t) :=
    h.step (fun h => .ite h.putCtx h.putCtx) (by decide)

theorem Within.takeExc {i : ℕ} {c : Ctx} {e : Exc} (h : Within ps s t) : Within ([Part.dict, Part.blobs, Part.link, Part.tiles, Part.integ, Part.freeCtr] ++ ps) s (Machine.takeExc i c e t) :=
    h.step (fun h => h.noteExc.enterExc) (by decide)

theorem Within.scalarOp {i : ℕ} {op : ScalarOp} {gd : ℕ} {a3 : Word} {b : Word} {c : Ctx} (h : Within ps s t) : Within ([Part.tiles] ++ ps) s (Machine.scalarOp i op gd a3 b c t) := by
  refine h.thenOf fun h => ?_
  unfold Machine.scalarOp
  split
  · exact .mono h.putCtx (by decide)
  · exact .mono h.commitTo (by decide)

theorem Within.branchTo {i : ℕ} {taken : Bool} {offset : ℤ} {c : Ctx} (h : Within ps s t) : Within ([Part.tiles] ++ ps) s (Machine.branchTo i taken offset c t) :=
    h.step (fun h => .ite h.putCtx h.commitTo) (by decide)

theorem Within.runMacWiden {i : ℕ} {conj : Bool} {f : VFields} {c : Ctx} (h : Within ps s t) : Within ([Part.dict, Part.blobs, Part.link, Part.tiles, Part.integ, Part.freeCtr] ++ ps) s (Machine.runMacWiden i conj f c t) :=
    h.step (fun h => .ite h.takeExc h.commitTo) (by decide)

theorem Within.gatherTrap {i : ℕ} {c : Ctx} {f : VGFields} {vals : List (ℕ × ℕ)} {k : ℕ} {e : Exc} (h : Within ps s t) : Within ([Part.dict, Part.blobs, Part.link, Part.tiles, Part.integ, Part.freeCtr] ++ ps) s (Machine.gatherTrap t i c f vals k e) :=
    h.step (fun h => h.takeExc) (by decide)

theorem Within.gatherDone {i : ℕ} {c : Ctx} {f : VGFields} {vals : List (ℕ × ℕ)} (h : Within ps s t) : Within ([Part.tiles] ++ ps) s (Machine.gatherDone t i c f vals) :=
    h.step (fun h => h.commitTo) (by decide)

theorem Within.firstFault {i : ℕ} {c : Ctx} {f : VGFields} {vals : List (ℕ × ℕ)} {k : ℕ} {e : Exc} (h : Within ps s t) : Within ([Part.tiles] ++ ps) s (Machine.firstFault t i c f vals k e) :=
    h.step (fun h => h.commitTo) (by decide)

theorem Within.setVls {n : ℕ} (h : Within ps s t) : Within ([Part.dict] ++ ps) s (Machine.setVls n t) :=
    h.step (fun h => h.setObj.setObj) (by decide)

theorem Within.showTile {i : ℕ} (h : Within ps s t) : Within ([Part.dict] ++ ps) s (Machine.showTile i t) :=
    h.step (fun h => .ite h h.setObj) (by decide)

theorem Within.zeroFound {i : ℕ} (h : Within ps s t) : Within ([Part.integ, Part.mem] ++ ps) s (Machine.zeroFound i t) := by
  refine h.thenOf fun h => ?_
  unfold Machine.zeroFound
  dsimp only
  exact .mono (h.setMem.healed.onInteg) (by decide)

theorem Within.cancelJobs {c : Ctx} (h : Within ps s t) : Within ([Part.dict] ++ ps) s (Machine.cancelJobs c t).2 :=
    h.step (fun h => h.bump) (by decide)

theorem Within.stopTask {i : ℕ} {how : TaskEnd} (h : Within ps s t) : Within ([Part.dict, Part.tiles] ++ ps) s (Machine.stopTask i how t) := by
  refine h.thenOf fun h => ?_
  unfold Machine.stopTask
  split
  · exact .mono h.cancelJobs.putCtx (by decide)
  · exact .mono h (by decide)

theorem Within.countTask {i : ℕ} {c : Ctx} {how : TaskEnd} (h : Within ps s t) : Within ([Part.dict] ++ ps) s (Machine.countTask i c how t) :=
    h.step (fun h => .ite (.bump (.ite (.bump (.ite h.bump.bump.bump h.bump.bump)) (.ite h.bump.bump.bump h.bump.bump))) (.ite (.bump (.ite h.bump.bump.bump h.bump.bump)) (.ite h.bump.bump.bump h.bump.bump))) (by decide)

theorem Within.returnDispatched {i : ℕ} (h : Within ps s t) : Within ([Part.dict, Part.link, Part.svc, Part.pipe, Part.sched, Part.kiln] ++ ps) s (Machine.returnDispatched i t) :=
    h.step (fun h => .foldl (fun _ _ h => h.rerunOp) h.setSched) (by decide)

theorem Within.vacate {i : ℕ} (h : Within ps s t) : Within ([Part.dict, Part.link, Part.svc, Part.pipe, Part.sched, Part.kiln, Part.tiles] ++ ps) s (Machine.vacate i t) :=
    h.step (fun h => .returnDispatched (.ite h.stopTask h)) (by decide)

theorem Within.takeRole {n : ℕ} {m : ℕ} (h : Within ps s t) : Within ([Part.dict] ++ ps) s (Machine.takeRole n m t) :=
    h.step (fun h => h.setObj.setObj.setObj.setObj.setObj.setObj.setVls.showTile.showTile) (by decide)

theorem Within.tileFault {i : ℕ} {cause : ℕ} (h : Within ps s t) : Within ([Part.dict, Part.link, Part.svc, Part.pipe, Part.sched, Part.kiln, Part.guard, Part.tiles, Part.bondWas] ++ ps) s (Machine.tileFault i cause t) := by
  refine h.thenOf fun h => ?_
  unfold Machine.tileFault
  dsimp only
  split
  · exact .mono h.bump.vacate.vacate.setObj.setObj.setObj.setBondWas.takeRole.setObj.spareEngaged.resettle (by decide)
  · exact .mono h.bump.vacate.vacate.setObj.setObj.setObj.setBondWas.unitLost.resettle (by decide)

theorem Within.loseSpare {n : ℕ} (h : Within ps s t) : Within ([Part.dict] ++ ps) s (Machine.loseSpare n t) :=
    h.step (fun h => h.setObj.setObj.setObj.setObj.spareGone) (by decide)

theorem Within.applyVl {i : ℕ} (h : Within ps s t) : Within ([Part.dict] ++ ps) s (Machine.applyVl i t) :=
    h.step (fun h => .ite (.ite h h.setObj) (.ite h h.setVls)) (by decide)

theorem Within.loadTile {i : ℕ} (h : Within ps s t) : Within ([Part.mem] ++ ps) s (Machine.loadTile i t) :=
    h.step (fun h => h.setMem) (by decide)

theorem Within.finishBond {n : ℕ} (h : Within ps s t) : Within ([Part.dict, Part.link, Part.svc, Part.pipe, Part.sched, Part.kiln, Part.bondWas, Part.mem] ++ ps) s (Machine.finishBond n t) :=
    h.step (fun h => h.setBondWas.setObj.bump.loadTile.loadTile.setVls.resettle) (by decide)

theorem Within.sendJob {i : ℕ} {slot : ℕ} {j : FusedJob} (h : Within ps s t) : Within ([Part.dict, Part.sched, Part.kiln, Part.tiles] ++ ps) s (Machine.sendJob i slot j t) :=
    h.step (fun h => .ite (.ite h.bump.onJob.setKiln.blockEnds.jobDone h.bump.onJob.setKiln) h.bump.onJob) (by decide)

theorem Within.countEncode {j : FusedJob} {blocks : ℕ} (h : Within ps s t) : Within ([Part.dict] ++ ps) s (Machine.countEncode t j blocks) :=
    h.step (fun h => .ite h (.ite h.bump.bump h.bump.bump)) (by decide)

theorem Within.onHod {f : Hod → Hod} (h : Within ps s t) : Within ([Part.hod] ++ ps) s (Machine.State.onHod t f) :=
    h.step (fun h => h.setHod) (by decide)

theorem Within.onHodChain {unit : ℕ} {f : Chain → Chain} (h : Within ps s t) : Within ([Part.hod] ++ ps) s (Machine.State.onHodChain t unit f) := by
  refine h.thenOf fun h => ?_
  unfold Machine.State.onHodChain
  split
  · exact .mono h.onHod (by decide)
  · exact .mono h (by decide)

theorem Within.countEnd {e : ℕ} {status : ℕ} (h : Within ps s t) : Within ([Part.dict] ++ ps) s (Machine.countEnd e status t) :=
    h.step (fun h => .ite h.bump.bump (.ite h.bump.bump h.bump)) (by decide)

theorem Within.endChain {unit : ℕ} {status : ℕ} (h : Within ps s t) : Within ([Part.dict, Part.hod] ++ ps) s (Machine.endChain unit status t) :=
    h.step (fun h => h.onHodChain.countEnd) (by decide)

theorem Within.tellUser {c : Chain} {status : ℕ} (h : Within ps s t) : Within ([Part.dict, Part.blobs, Part.sched] ++ ps) s (Machine.tellUser c status t) :=
    h.step (fun h => .ite h.setObj.setBlob h.onOp) (by decide)

theorem Within.writeRecord {c : Chain} {status : ℕ} (h : Within ps s t) : Within ([Part.dict, Part.link, Part.integ, Part.mem, Part.freeCtr] ++ ps) s (Machine.writeRecord c status t) :=
    h.step (fun h => .ite h (.foldl (fun _ _ h => .ite h.writeLine h) h)) (by decide)

theorem Within.readBack {c : Chain} (h : Within ps s t) : Within ([Part.dict, Part.link, Part.integ, Part.freeCtr] ++ ps) s (Machine.readBack c t) := by
  refine h.thenOf fun h => ?_
  unfold Machine.readBack
  split
  · exact .mono h.metPoison (by decide)
  · exact .mono h (by decide)

theorem Within.setCopies {i : ℕ} {l : List (ℕ × ℕ × Bool)} (h : Within ps s t) : Within ([Part.sched] ++ ps) s (Machine.State.setCopies t i l) :=
    h.step (fun h => h.setSched) (by decide)

theorem Within.abortChain {e : ℕ} {c : Chain} (h : Within ps s t) : Within ([Part.dict, Part.blobs, Part.link, Part.svc, Part.pipe, Part.sched, Part.kiln] ++ ps) s (Machine.abortChain e c t) :=
    h.step (fun h => .ite h.countEnd.tellUser h.countEnd.rerunOp) (by decide)

theorem Within.haltEngine {e : ℕ} {b : ℕ × ℕ × ℕ} (h : Within ps s t) : Within ([Part.dict, Part.blobs, Part.link, Part.svc, Part.pipe, Part.sched, Part.kiln, Part.hod] ++ ps) s (Machine.haltEngine e b t) :=
    h.step (fun h => .foldl (fun _ _ h => h.abandonCopies) (.foldl (fun _ _ h => h.abortChain) h.onHod.setObj.setBlob.bump.raise)) (by decide)

theorem Within.settleHalts (h : Within ps s t) : Within ([Part.dict, Part.blobs, Part.link, Part.svc, Part.pipe, Part.sched, Part.kiln, Part.hod] ++ ps) s (Machine.settleHalts t) :=
    h.step (fun h => .foldl (fun _ _ h => .ite h h.haltEngine) h) (by decide)

theorem Within.busError {e : ℕ} {cause : ℕ} {addr : ℕ} (h : Within ps s t) : Within ([Part.hod] ++ ps) s (Machine.busError e cause addr t) :=
    h.step (fun h => .ite h h.onHod) (by decide)

theorem Within.startDiag {unit : ℕ} (h : Within ps s t) : Within ([Part.dict, Part.hod] ++ ps) s (Machine.startDiag unit t) := by
  refine h.thenOf fun h => ?_
  unfold Machine.startDiag
  dsimp only
  split
  · exact .mono h.setObj.onHod.endChain (by decide)
  · exact .mono (.ite h.setObj.onHod.endChain h.setObj.onHod.onHodChain) (by decide)

theorem Within.actDiagStart (h : Within ps s t) : Within ([Part.dict, Part.hod] ++ ps) s (Machine.actDiagStart t).2 := by
  refine h.thenOf fun h => ?_
  unfold Machine.actDiagStart
  split
  · exact .mono h (by decide)
  · exact .mono ((by
    split
    · exact .mono h (by decide)
    · exact .mono ((by
      split
      · exact .mono h.startDiag (by decide)
      · exact .mono h (by decide) : Within [Part.dict, Part.hod] _ _)) (by decide) : Within [Part.dict, Part.hod] _ _)) (by decide)

theorem Within.actDiagStop (h : Within ps s t) : Within ([Part.hod] ++ ps) s (Machine.actDiagStop t).2 := by
  refine h.thenOf fun h => ?_
  unfold Machine.actDiagStop
  dsimp only
  exact .mono (h.onHod) (by decide)

theorem Within.onMortar {f : Mortar → Mortar} (h : Within ps s t) : Within ([Part.mortar] ++ ps) s (Machine.State.onMortar t f) :=
    h.step (fun h => h.setMortar) (by decide)

theorem Within.fabricCycle {depth : ℕ} (h : Within ps s t) : Within ([Part.dict, Part.mortar] ++ ps) s (Machine.fabricCycle depth t) := by
  refine h.thenOf fun h => ?_
  unfold Machine.fabricCycle
  dsimp only
  exact .mono (h.bump.onMortar.onMortar) (by decide)

theorem Within.injectPacket {f : Flit} {n : ℕ} (h : Within ps s t) : Within ([Part.mortar] ++ ps) s (Machine.injectPacket f n t) :=
    h.step (fun h => .ite h h.onMortar) (by decide)

theorem Within.runFabric {depth k : Nat} {want : Flit} (h : Within ps s t) : Within ([Part.dict, Part.mortar] ++ ps) s (Machine.runFabric depth want k t) := by
  refine h.via ?_
  clear h
  induction k generalizing t with
  | zero => exact (Within.start t).mono (by decide)
  | succ k ih => exact .mono (Within.ite (.start t) ((Within.start t).fabricCycle.via ih)) (by decide)

theorem Within.transitWith {depth : ℕ} {f : Flit} {n : ℕ} (h : Within ps s t) : Within ([Part.dict, Part.mortar] ++ ps) s (Machine.transitWith depth f n t).1 := by
  refine h.thenOf fun h => ?_
  unfold Machine.transitWith
  dsimp only
  exact .mono h.injectPacket.runFabric.onMortar (by decide)

theorem Within.transit {f : Flit} {n : ℕ} (h : Within ps s t) : Within ([Part.dict, Part.mortar] ++ ps) s (Machine.transit f n t).1 :=
  h.step (fun h => h.transitWith) (by decide)

theorem Within.injectAnswers {src : ℕ} {dst : ℕ} {tag : ℕ} {type : ℕ} {lines : ℕ} (h : Within ps s t) : Within ([Part.mortar] ++ ps) s (Machine.injectAnswers src dst tag type lines t) :=
    h.step (fun h => .foldl (fun _ _ h => h.injectPacket) h) (by decide)

theorem Within.drainFrom {ring k : Nat} (h : Within ps s t) : Within ([Part.dict, Part.mortar] ++ ps) s (Machine.drainFrom ring k t) := by
  refine h.via ?_
  clear h
  induction k generalizing t with
  | zero => exact (Within.start t).mono (by decide)
  | succ k ih => exact .mono (Within.ite ((Within.start t).fabricCycle.via ih) (.start t)) (by decide)

theorem Within.drainRing {ring : ℕ} (h : Within ps s t) : Within ([Part.dict, Part.mortar] ++ ps) s (Machine.drainRing ring t) := by
  refine h.thenOf fun h => ?_
  unfold Machine.drainRing
  exact .mono h.onMortar.drainFrom.onMortar (by decide)

theorem Within.discardFlits {ring : ℕ} {stop : ℕ} (h : Within ps s t) : Within ([Part.mortar] ++ ps) s (Machine.discardFlits ring stop t).1 := by
  refine h.thenOf fun h => ?_
  unfold Machine.discardFlits
  dsimp only
  exact .mono (h.onMortar) (by decide)

theorem Within.holdRequest {hdr : Held} (h : Within ps s t) : Within ([Part.mortar] ++ ps) s (Machine.holdRequest hdr t) := by
  refine h.thenOf fun h => ?_
  unfold Machine.holdRequest
  split
  · exact .mono h.onMortar (by decide)
  · exact .mono h.onMortar (by decide)

theorem Within.dropHeld {hdr : Held} (h : Within ps s t) : Within ([Part.dict, Part.blobs, Part.link, Part.svc, Part.pipe, Part.sched, Part.kiln, Part.hod, Part.mortar] ++ ps) s (Machine.dropHeld hdr t) :=
    h.step (fun h => h.onMortar.settleHalts) (by decide)

theorem Within.answerAsleep {d : ℕ} {src : ℕ} {type : ℕ} (h : Within ps s t) : Within ([Part.dict, Part.link, Part.mortar] ++ ps) s (Machine.answerAsleep d src type t) :=
    h.step (fun h => .ite h.bump h.bump.raise.onMortar) (by decide)

theorem Within.countBytes {write : Bool} {a1 : ℕ} {n : ℕ} (h : Within ps s t) : Within ([Part.dict] ++ ps) s (Machine.countBytes write a1 n t) := by
  refine h.thenOf fun h => ?_
  unfold Machine.countBytes
  split
  · exact .mono h.bump (by decide)
  · exact .mono h (by decide)

theorem Within.readLine {src : ℕ} {line : ℕ} (h : Within ps s t) : Within ([Part.dict, Part.link, Part.integ, Part.freeCtr] ++ ps) s (Machine.readLine src t line) := by
  refine h.thenOf fun h => ?_
  unfold Machine.readLine
  dsimp only
  split
  · exact .mono (.ite h.countBytes h.countBytes.metPoison) (by decide)
  · exact .mono h.countBytes (by decide)

theorem Within.doRead {src : ℕ} {lines : List ℕ} {found : List MemError} (h : Within ps s t) : Within ([Part.dict, Part.link, Part.integ, Part.freeCtr] ++ ps) s (Machine.doRead src lines found t) :=
    h.step (fun h => .foldl (fun _ _ h => h.readLine) (.foldl (fun _ _ h => h.noteError) h)) (by decide)

theorem Within.doWrite {cells : List (List Host.Cell)} {found : List MemError} (h : Within ps s t) : Within ([Part.dict, Part.link, Part.integ, Part.mem, Part.freeCtr] ++ ps) s (Machine.doWrite cells found t) :=
    h.step (fun h => .foldl (fun _ _ h => h.countBytes.writeLine) (.foldl (fun _ _ h => h.noteError) h)) (by decide)

theorem Within.grantChannel {c : ℕ} {input : ℕ} {cycle : ℕ} (h : Within ps s t) : Within ([Part.mortar] ++ ps) s (Machine.grantChannel c input cycle t) :=
    h.step (fun h => h.onMortar) (by decide)

theorem Within.grantAt {a : ℕ} {src : ℕ} (h : Within ps s t) : Within ([Part.mortar] ++ ps) s (Machine.grantAt a src t) := by
  refine h.thenOf fun h => ?_
  unfold Machine.grantAt
  split
  · exact .mono h.grantChannel (by decide)
  · exact .mono h (by decide)

theorem Within.enqueue {c : ℕ} {pkt : Packet} {cells : List (List Host.Cell)} {lines : List ℕ} {found : List MemError} (h : Within ps s t) : Within ([Part.mortar] ++ ps) s (Machine.enqueue c pkt cells lines found t) :=
    h.step (fun h => h.onMortar) (by decide)

theorem Within.tileTakes {src : ℕ} {code : ℕ} {a2 : ℕ} (h : Within ps s t) : Within ([Part.dict, Part.blobs, Part.tiles] ++ ps) s (Machine.tileTakes src code a2 t) := by
  refine h.thenOf fun h => ?_
  unfold Machine.tileTakes
  split
  · exact .mono ((by
      split
      · exact .mono (.ite h h.countExc.enterExc) (by decide)
      · exact .mono h (by decide) : Within [Part.dict, Part.blobs, Part.tiles] _ _)) (by decide)
  · exact .mono h (by decide)

theorem Within.judgeTarget {e : ℕ} {a1 : ℕ} (h : Within ps s t) : Within ([Part.dict, Part.blobs, Part.link, Part.svc, Part.pipe, Part.sched, Part.kiln, Part.wb, Part.hod, Part.guard, Part.tiles, Part.bondWas, Part.integ, Part.freeCtr] ++ ps) s (Machine.judgeTarget e a1 t) := by
  refine h.thenOf fun h => ?_
  unfold Machine.judgeTarget
  dsimp only
  split
  · exact .mono h (by decide)
  · exact .mono (.ite h.onHod (.ite (.ite h.onHod h.onHod.channelFails) (.ite h.onHod.tileFault h.onHod))) (by decide)

theorem Within.abandon {hdr : Held} (h : Within ps s t) : Within ([Part.dict, Part.blobs, Part.link, Part.svc, Part.pipe, Part.sched, Part.kiln, Part.wb, Part.hod, Part.guard, Part.tiles, Part.bondWas, Part.mortar, Part.integ, Part.freeCtr] ++ ps) s (Machine.abandon hdr t) :=
    h.step (fun h => .dropHeld ((by
  split
  · exact .mono h.bump.busError.judgeTarget (by decide)
  · exact .mono (.ite h.bump h.bump.tileTakes) (by decide) : Within [Part.dict, Part.blobs, Part.link, Part.svc, Part.pipe, Part.sched, Part.kiln, Part.wb, Part.hod, Part.guard, Part.tiles, Part.bondWas, Part.integ, Part.freeCtr] _ _))) (by decide)

theorem Within.answerRetry {hdr : Held} (h : Within ps s t) : Within ([Part.dict, Part.blobs, Part.link, Part.svc, Part.pipe, Part.sched, Part.kiln, Part.wb, Part.hod, Part.guard, Part.tiles, Part.bondWas, Part.mortar, Part.integ, Part.freeCtr] ++ ps) s (Machine.answerRetry hdr t) :=
    h.step (fun h => .ite h.abandon h.onMortar) (by decide)

theorem Within.answerArrives {hdr : Held} {type : ℕ} {line : ℕ} (h : Within ps s t) : Within ([Part.dict, Part.mortar] ++ ps) s (Machine.answerArrives hdr type line t).1 :=
    h.step (fun h => h.transit) (by decide)

theorem Within.linkFault {ring : ℕ} {stop : ℕ} {lockLost : Bool} (h : Within ps s t) : Within ([Part.dict, Part.units, Part.mortar] ++ ps) s (Machine.linkFault ring stop lockLost t) := by
  refine h.thenOf fun h => ?_
  unfold Machine.linkFault
  split
  · exact .mono h.setObj.setObj.onMortar (by decide)
  · exact .mono (.ite h h.setUnits) (by decide)
  · exact .mono (.ite h h.setUnits.setObj.setCause) (by decide)
  · exact .mono h (by decide)

theorem Within.foldRing {ring : ℕ} {b : ℕ × Bool} (h : Within ps s t) : Within ([Part.dict, Part.link, Part.mortar] ++ ps) s (Machine.foldRing ring b t) :=
    h.step (fun h => .setCause (.raise (.foldl (fun _ _ h => h.injectPacket) h.setObj.bump.onMortar))) (by decide)

theorem Within.onArb {mc : Bool} {k : ℕ} {f : Arb → Arb} (h : Within ps s t) : Within ([Part.mortar] ++ ps) s (Machine.State.onArb t mc k f) := by
  refine h.thenOf fun h => ?_
  unfold Machine.State.onArb
  dsimp only
  exact .mono (h.onMortar) (by decide)

theorem Within.actArbTable {mc : Bool} {b : Bytes} (h : Within ps s t) : Within ([Part.dict, Part.mortar] ++ ps) s (Machine.actArbTable mc b t).2 := by
  refine h.thenOf fun h => ?_
  unfold Machine.actArbTable
  split
  · exact .mono h (by decide)
  · exact .mono ((by
    split
    · exact .mono h (by decide)
    · exact .mono (.foldl (fun _ _ h => h.onArb) (.ite h.bump h)) (by decide) : Within [Part.dict, Part.mortar] _ _)) (by decide)

theorem Within.actArbCommit {mc : Bool} (h : Within ps s t) : Within ([Part.mortar] ++ ps) s (Machine.actArbCommit mc t).2 :=
    h.step (fun h => .foldl (fun _ _ h => h.onArb) h) (by decide)

theorem Within.staleArb {mc : Bool} {k : ℕ} {b : ℤ} {next : ℤ} (h : Within ps s t) : Within ([Part.dict, Part.link] ++ ps) s (Machine.staleArb mc k b next t) :=
    h.step (fun h => h.raise) (by decide)

theorem Within.decideArb {mc : Bool} {b : ℤ} {next : ℤ} {k : ℕ} (h : Within ps s t) : Within ([Part.dict, Part.link, Part.mortar] ++ ps) s (Machine.decideArb mc b next t k) :=
    h.step (fun h => .ite h.onArb (.ite h.staleArb h)) (by decide)

theorem Within.mismatch {ch : ℕ} {addr : ℕ} (h : Within ps s t) : Within ([Part.dict, Part.integ] ++ ps) s (Machine.mismatch ch addr t) :=
    h.step (fun h => .ite (.logError (.setObj (.ite h.onInteg.bump h.onInteg))) (.ite h.onInteg.bump h.onInteg)) (by decide)

theorem Within.performQueued {q : Queued} (h : Within ps s t) : Within ([Part.dict, Part.link, Part.mortar, Part.integ, Part.mem, Part.freeCtr] ++ ps) s (Machine.performQueued q t) :=
    h.step (fun h => .ite h.onMortar.doRead h.onMortar.doWrite) (by decide)

theorem Within.dropQueue {ch : ℕ} (h : Within ps s t) : Within ([Part.mortar] ++ ps) s (Machine.dropQueue ch t) :=
    h.step (fun h => h.onMortar) (by decide)

theorem Within.scrubFinds {found : List MemError} {known : List ℕ} (h : Within ps s t) : Within ([Part.dict, Part.link, Part.integ, Part.freeCtr] ++ ps) s (Machine.scrubFinds found known t) :=
    h.step (fun h => .foldl (fun _ _ h => h.metPoisonBy) (.foldl (fun _ _ h => h.noteError) h)) (by decide)

theorem Within.passEnds (h : Within ps s t) : Within ([Part.dict, Part.link, Part.integ] ++ ps) s (Machine.passEnds t) :=
    h.step (fun h => .ite h.bump.onInteg.settleRegime h) (by decide)

theorem Within.listPage {page : ℕ} (h : Within ps s t) : Within ([Part.dict, Part.integ, Part.freeCtr] ++ ps) s (Machine.listPage t page) := by
  refine h.thenOf fun h => ?_
  unfold Machine.listPage
  split
  next x0 x1 hx =>
    have hx : Within _ t x1 := Within.snd h.free hx
    split
    · exact .mono hx.retirePage (by decide)
    · exact .mono hx.onInteg.setObj (by decide)
    · exact .mono hx (by decide)

theorem Within.unlistPage {page : ℕ} (h : Within ps s t) : Within ([Part.dict, Part.integ] ++ ps) s (Machine.unlistPage t page) :=
    h.step (fun h => .setObj (.onInteg (.ite h.setObj.onInteg h))) (by decide)

theorem Within.relist {before : List ℕ} {after : List ℕ} (h : Within ps s t) : Within ([Part.dict, Part.integ, Part.freeCtr] ++ ps) s (Machine.relist before after t) :=
    h.step (fun h => .foldl (fun _ _ h => h.listPage) (.foldl (fun _ _ h => h.unlistPage) h)) (by decide)

theorem Within.actRetiredPages {b : Bytes} (h : Within ps s t) : Within ([Part.dict, Part.blobs, Part.integ, Part.freeCtr] ++ ps) s (Machine.actRetiredPages b t).2 := by
  refine h.thenOf fun h => ?_
  unfold Machine.actRetiredPages
  split
  · exact .mono h (by decide)
  · exact .mono ((by
    split
    · exact .mono h (by decide)
    · exact .mono h.changeBlob.relist (by decide) : Within [Part.dict, Part.blobs, Part.integ, Part.freeCtr] _ _)) (by decide)

theorem Within.actRetiredBanks {b : Bytes} (h : Within ps s t) : Within ([Part.dict, Part.blobs, Part.integ, Part.freeCtr] ++ ps) s (Machine.actRetiredBanks b t).2 :=
    h.step (fun h => h.changeBlob.relist) (by decide)

theorem Within.errPop (h : Within ps s t) : Within ([Part.integ] ++ ps) s (Machine.errPop t) :=
    h.step (fun h => h.onInteg) (by decide)

theorem Within.freeCode (h : Within ps s t) : Within ([Part.freeCtr] ++ ps) s (Machine.freeCode t).2 := by
  refine h.thenOf fun h => ?_
  unfold Machine.freeCode
  split
  next x0 x1 hx =>
    have hx : Within [Part.freeCtr] _ x1 := .mono (Within.snd h.free hx) (by decide)
    exact .mono hx (by decide)

theorem Within.releaseMute {scope : ℕ} {unit : ℕ} (h : Within ps s t) : Within ([Part.dict, Part.blobs, Part.link, Part.guard] ++ ps) s (Machine.releaseMute scope unit t).2 := by
  refine h.thenOf fun h => ?_
  unfold Machine.releaseMute
  split
  · exact .mono h (by decide)
  · exact .mono ((by
      split
      · exact .mono h (by decide)
      · exact .mono ((by
        split
        · exact .mono h (by decide)
        · exact .mono (.muteRecord (.showMutes (.onGuard (.ite h h.completeMute)))) (by decide) : Within [Part.dict, Part.blobs, Part.link, Part.guard] _ _)) (by decide) : Within [Part.dict, Part.blobs, Part.link, Part.guard] _ _)) (by decide)

theorem Within.copyChain {c : ℕ} {d : ℕ} (h : Within ps s t) : Within ([Part.dict, Part.blobs, Part.dfe] ++ ps) s (Machine.copyChain c d t) :=
    h.step (fun h => .setObj (.onChain (.changeBlob (.changeBlob (.foldl (fun _ _ h => h.change) h))))) (by decide)

theorem Within.moveGang {b : ℕ} {d : ℕ} {g : ℕ} {n : ℕ} (h : Within ps s t) : Within ([Part.dict, Part.blobs, Part.guard, Part.dfe] ++ ps) s (Machine.moveGang b d g n t) := by
  refine h.thenOf fun h => ?_
  unfold Machine.moveGang
  dsimp only
  exact .mono (.onGuard (.foldl (fun _ _ h => h.resetChain) (.setDfe (.foldl (fun _ _ h => h.copyChain.setObj) h)))) (by decide)

theorem Within.chainFault {c : ℕ} {cause : ℕ} (h : Within ps s t) : Within ([Part.dict, Part.blobs, Part.link, Part.guard, Part.dfe] ++ ps) s (Machine.chainFault c cause t) :=
    h.step (fun h => .ite h (.ite ((by
  split
  · exact .mono h.onChain.moveGang.spareEngaged (by decide)
  · exact .mono h.onChain.unitLost (by decide) : Within [Part.dict, Part.blobs, Part.link, Part.guard, Part.dfe] _ _)) (.ite h.onChain.unitLost h.onChain))) (by decide)

theorem Within.sliceOp {k : ℕ} {e : ℕ × Op} (h : Within ps s t) : Within ([Part.dict, Part.link, Part.svc, Part.pipe, Part.sched, Part.kiln, Part.hod, Part.tiles] ++ ps) s (Machine.sliceOp k t e) := by
  refine h.thenOf fun h => ?_
  unfold Machine.sliceOp
  split
  · exact .mono ((by
      split
      · exact .mono (.ite h.stopTask h) (by decide)
      · exact .mono h.setHod.rerunOp (by decide) : Within [Part.dict, Part.link, Part.svc, Part.pipe, Part.sched, Part.kiln, Part.hod, Part.tiles] _ _)) (by decide)
  · exact .mono h.rerunOp (by decide)
  · exact .mono h.rerunOp (by decide)
  · exact .mono (.ite h.onOp.rerunOp h.onOp) (by decide)
  · exact .mono h (by decide)

theorem Within.sliceFault {k : ℕ} {cause : ℕ} (h : Within ps s t) : Within ([Part.dict, Part.link, Part.svc, Part.pipe, Part.sched, Part.kiln, Part.units, Part.hod, Part.guard, Part.tiles] ++ ps) s (Machine.sliceFault k cause t) :=
    h.step (fun h => .ite h (.resettle (.unitLost (.foldl (fun _ _ h => h.sliceOp) h.setUnits)))) (by decide)

theorem Within.actFaultClear (h : Within ps s t) : Within ([Part.dict] ++ ps) s (Machine.actFaultClear t).2 :=
    h.step (fun h => h.setObj) (by decide)

theorem Within.mutePop (h : Within ps s t) : Within ([Part.guard] ++ ps) s (Machine.mutePop t) :=
    h.step (fun h => h.onGuard) (by decide)

theorem Within.onPower {f : Power → Power} (h : Within ps s t) : Within ([Part.power] ++ ps) s (Machine.State.onPower t f) :=
    h.step (fun h => h.setPower) (by decide)

theorem Within.onRail {f : Rail → Rail} (h : Within ps s t) : Within ([Part.power] ++ ps) s (Machine.State.onRail t f) :=
    h.step (fun h => h.onPower) (by decide)

theorem Within.onWatch {f : Watch → Watch} (h : Within ps s t) : Within ([Part.power] ++ ps) s (Machine.State.onWatch t f) :=
    h.step (fun h => h.onPower) (by decide)

theorem Within.actHostVote {d : ℕ} {v : ℤ} (h : Within ps s t) : Within ([Part.dict] ++ ps) s (Machine.actHostVote d v t).2 := by
  refine h.thenOf fun h => ?_
  unfold Machine.actHostVote
  split
  · exact .mono h (by decide)
  · exact .mono h.change (by decide)

theorem Within.railSettle (h : Within ps s t) : Within ([Part.power] ++ ps) s (Machine.railSettle t) :=
    h.step (fun h => .ite h.onRail h) (by decide)

theorem Within.watchRest (h : Within ps s t) : Within ([Part.dict] ++ ps) s (Machine.watchRest t) :=
    h.step (fun h => .ite h.setObj (.ite h.setObj h)) (by decide)

theorem Within.failExchange {cause : ℕ} {target : ℕ} (h : Within ps s t) : Within ([Part.dict, Part.link, Part.power] ++ ps) s (Machine.failExchange cause target t) := by
  refine h.thenOf fun h => ?_
  unfold Machine.failExchange
  dsimp only
  exact .mono (.onRail (.foldl (fun _ _ h => h.setObj.onPower) (.ite h h.raise))) (by decide)

theorem Within.succeedExchange {e : Exchange} (h : Within ps s t) : Within ([Part.dict, Part.power] ++ ps) s (Machine.succeedExchange e t) :=
    h.step (fun h => h.onRail.railSettle.watchRest) (by decide)

theorem Within.timeoutExchange (h : Within ps s t) : Within ([Part.dict, Part.link, Part.power] ++ ps) s (Machine.timeoutExchange t) := by
  refine h.thenOf fun h => ?_
  unfold Machine.timeoutExchange
  split
  · exact .mono ((by
      split
      · exact .mono (.ite h.failExchange h) (by decide)
      · exact .mono h (by decide) : Within [Part.dict, Part.link, Part.power] _ _)) (by decide)
  · exact .mono h (by decide)

theorem Within.moveChans {d : ℕ} {a1 : ℤ} {b : ℤ} (h : Within ps s t) : Within ([Part.dict] ++ ps) s (Machine.moveChans d a1 b t) :=
    h.step (fun h => .foldl (fun _ _ h => .ite h.setObj h) h) (by decide)

theorem Within.startTransition {d : ℕ} (h : Within ps s t) : Within ([Part.dict, Part.mortar, Part.power] ++ ps) s (Machine.startTransition d t) :=
    h.step (fun h => .ite h (.railSettle (.foldl (fun _ _ h => h.showTile) (.ite h.onPower.setObj.onMortar.moveChans.latchPads h.onPower.setObj)))) (by decide)

theorem Within.loseContent {d : ℕ} (h : Within ps s t) : Within ([Part.mem] ++ ps) s (Machine.loseContent d t) :=
    h.step (fun h => .ite h.setMem.setMem h.setMem) (by decide)

theorem Within.restoreContent {d : ℕ} {was : ℕ} (h : Within ps s t) : Within ([Part.dict, Part.fh, Part.dfe, Part.mem, Part.power] ++ ps) s (Machine.restoreContent d was t) :=
    h.step (fun h => .ite (.foldl (fun _ _ h => h.resetChain) (.ite (.foldl (fun _ _ h => h.loadTile) (.foldl (fun _ _ h => h.bringUp) h.moveChans)) (.foldl (fun _ _ h => h.bringUp) h.moveChans))) (.ite (.foldl (fun _ _ h => h.loadTile) (.foldl (fun _ _ h => h.bringUp) h.moveChans)) (.foldl (fun _ _ h => h.bringUp) h.moveChans))) (by decide)

theorem Within.endTransition {d : ℕ} {m : Transition} (h : Within ps s t) : Within ([Part.dict, Part.fh, Part.dfe, Part.mem, Part.power] ++ ps) s (Machine.endTransition d m t) :=
    h.step (fun h => .watchRest (.railSettle (.foldl (fun _ _ h => h.showTile) (.ite h.setObj.bump.setObj.onPower.loseContent (.ite h.setObj.bump.setObj.onPower.driveWithRun.restoreContent h.setObj.bump.setObj.onPower))))) (by decide)

theorem Within.drawEdge (h : Within ps s t) : Within ([Part.power, Part.freeCtr] ++ ps) s (Machine.drawEdge t) := by
  refine h.thenOf fun h => ?_
  unfold Machine.drawEdge
  split
  next x0 x1 hx =>
    have hx : Within [Part.freeCtr] _ x1 := .mono (Within.snd h.free hx) (by decide)
    exact .mono hx.onWatch (by decide)

theorem Within.watchEnter (h : Within ps s t) : Within ([Part.dict, Part.nl, Part.svc, Part.power, Part.freeCtr] ++ ps) s (Machine.watchEnter t) :=
    h.step (fun h => h.abandonGap.setObj.onWatch.drawEdge) (by decide)

theorem Within.watchLeave (h : Within ps s t) : Within ([Part.dict, Part.power] ++ ps) s (Machine.watchLeave t) :=
    h.step (fun h => h.setObj.onWatch) (by decide)

theorem Within.wakeEnds (h : Within ps s t) : Within ([Part.dict, Part.power] ++ ps) s (Machine.wakeEnds t) :=
    h.step (fun h => .ite h.watchLeave h.onWatch.watchRest) (by decide)

theorem Within.watchHit {k : ℕ} {measure : ℤ} (h : Within ps s t) : Within ([Part.dict, Part.link, Part.power] ++ ps) s (Machine.watchHit k measure t) :=
    h.step (fun h => .ite h.raise.onWatch.setObj h.raise.onWatch) (by decide)

theorem Within.captureMeasure {k : ℕ} (h : Within ps s t) : Within ([Part.dfe, Part.power, Part.freeCtr] ++ ps) s (Machine.captureMeasure k t).2 := by
  refine h.thenOf fun h => ?_
  unfold Machine.captureMeasure
  split
  · dsimp only
    exact .mono (Within.onChain (.ite h.free h)) (by decide)
  · dsimp only
    exact .mono h.onWatch (by decide)

theorem Within.onBoot {f : Boot → Boot} (h : Within ps s t) : Within ([Part.boot] ++ ps) s (Machine.State.onBoot t f) :=
    h.step (fun h => h.setBoot) (by decide)

theorem Within.onFlash {f : Flash → Flash} (h : Within ps s t) : Within ([Part.dict, Part.boot] ++ ps) s (Machine.State.onFlash t f) :=
    h.step (fun h => h.onBoot.setObj) (by decide)

theorem Within.setBootState {v : ℕ} (h : Within ps s t) : Within ([Part.dict, Part.link] ++ ps) s (Machine.setBootState v t) :=
    h.step (fun h => .foldl (fun _ _ h => h.send) h.setObj) (by decide)

theorem Within.onHostSlot {f : List Host.Cell → List Host.Cell} (h : Within ps s t) : Within ([Part.dict, Part.boot] ++ ps) s (Machine.onHostSlot f t) :=
    h.step (fun h => h.onFlash) (by decide)

theorem Within.cutFlash (h : Within ps s t) : Within ([Part.dict, Part.boot, Part.freeCtr] ++ ps) s (Machine.cutFlash t) := by
  refine h.thenOf fun h => ?_
  unfold Machine.cutFlash
  split
  · exact .mono ((by
      split
      next x0 x1 hx =>
        have hx : Within [Part.freeCtr] _ x1 := .mono (Within.snd h.free hx) (by decide)
        exact .mono hx.onHostSlot (by decide) : Within [Part.dict, Part.boot, Part.freeCtr] _ _)) (by decide)
  · exact .mono ((by
      split
      next x0 x1 hx =>
        have hx : Within [Part.freeCtr] _ x1 := .mono (Within.snd h.free hx) (by decide)
        exact .mono hx.onHostSlot (by decide) : Within [Part.dict, Part.boot, Part.freeCtr] _ _)) (by decide)
  · exact .mono h (by decide)

theorem Within.endProgram {o : ℕ} {b : Bytes} (h : Within ps s t) : Within ([Part.dict, Part.boot] ++ ps) s (Machine.endProgram o b t) :=
    h.step (fun h => h.onHostSlot.change) (by decide)

theorem Within.applyEntry {e : ℕ × Bytes} (h : Within ps s t) : Within ([Part.dict, Part.blobs, Part.image, Part.imageBlobs] ++ ps) s (Machine.applyEntry t e) := by
  refine h.thenOf fun h => ?_
  unfold Machine.applyEntry
  split
  · exact .mono ((by
      split
      · exact .mono h.bump.setObj.setImage (by decide)
      · exact .mono h.bump.setBlob.setImageBlobs (by decide) : Within [Part.dict, Part.blobs, Part.image, Part.imageBlobs] _ _)) (by decide)
  · exact .mono (.bump (.ite h.setBlob h)) (by decide)

theorem Within.takeArb {mc : Bool} (h : Within ps s t) : Within ([Part.mortar] ++ ps) s (Machine.takeArb mc t) :=
    h.step (fun h => .ite h (.foldl (fun _ _ h => h.onArb) h)) (by decide)

theorem Within.takeValues (h : Within ps s t) : Within ([Part.dict, Part.clock, Part.svc, Part.mortar, Part.dfe, Part.power] ++ ps) s (Machine.takeValues t) :=
    h.step (fun h => .setSvc (.foldl (fun _ _ h => h.setObj) (.squelch (.squelch (.foldl (fun _ _ h => .ite h h.onChain) (.foldl (fun _ _ h => h.setObj.setVls) h.takeArb.takeArb.onRail.setClock)))))) (by decide)

theorem Within.hodLost {e : ℕ} {cause : ℕ} (h : Within ps s t) : Within ([Part.dict, Part.blobs, Part.link, Part.svc, Part.pipe, Part.sched, Part.kiln, Part.hod, Part.guard] ++ ps) s (Machine.hodLost e cause t) :=
    h.step (fun h => .unitLost (.foldl (fun _ _ h => h.abandonCopies) (.foldl (fun _ _ h => h.abortChain) h.onHod.setObj.setObj))) (by decide)

theorem Within.laneFault {l : ℕ} (h : Within ps s t) : Within ([Part.dict, Part.time, Part.link, Part.pipe, Part.fh, Part.power, Part.freeCtr] ++ ps) s (Machine.laneFault l t) :=
    h.step (fun h => .foldl (fun _ _ h => .ite h.portDown h.bringUp) h.setFh) (by decide)

theorem Within.coreFault {n : ℕ} {cause : ℕ} (h : Within ps s t) : Within ([Part.dict, Part.link, Part.units, Part.guard] ++ ps) s (Machine.coreFault n cause t) :=
    h.step (fun h => h.setUnits.unitLost) (by decide)

theorem Within.noteInjected {kind : ℕ} {u : ℕ} (h : Within ps s t) : Within ([Part.guard] ++ ps) s (Machine.noteInjected kind u t) :=
    h.step (fun h => h.onGuard) (by decide)

theorem Within.restoreLink {ring : ℕ} {stop : ℕ} (h : Within ps s t) : Within ([Part.dict, Part.units, Part.mortar] ++ ps) s (Machine.restoreLink ring stop t) :=
    h.step (fun h => .ite ((by
  split
  · exact .mono (.ite h.setUnits.setObj.setObj h.setUnits.setObj) (by decide)
  · exact .mono h.setObj.setObj.onMortar (by decide) : Within [Part.dict, Part.units, Part.mortar] _ _)) (.ite h.setUnits.setObj h.setUnits)) (by decide)

theorem Within.popRest {key : ℕ} (h : Within ps s t) : Within ([Part.time, Part.nl, Part.svc, Part.sched, Part.guard, Part.integ] ++ ps) s (Machine.popRest key t) :=
    h.step (fun h => .ite h.onNl (.ite h.setSvc (.ite h.errPop (.ite h.mutePop (.ite h.tracePop h.onTime))))) (by decide)

theorem Within.readStart {seq : ℕ} {key : ℕ} {layer : ℕ} {most : ℕ} {value : Bytes} (h : Within ps s t) : Within ([Part.dict, Part.time, Part.nl, Part.link, Part.svc, Part.sched, Part.guard, Part.integ] ++ ps) s (Machine.readStart seq key layer most value t) :=
    h.step (fun h => .ite (.popRest (.replyRead (.ite h.setSvc h))) (.replyRead (.ite h.setSvc h))) (by decide)

theorem Within.readOn {seq : ℕ} {key : ℕ} {layer : ℕ} {offset : ℕ} {most : ℕ} (h : Within ps s t) : Within ([Part.dict, Part.link, Part.svc] ++ ps) s (Machine.readOn seq key layer offset most t) := by
  refine h.thenOf fun h => ?_
  unfold Machine.readOn
  split
  · exact .mono (.ite h.setSvc.countReply.send h.replyRead) (by decide)
  · exact .mono h.replyRead (by decide)

theorem Within.serveRead {seq : ℕ} {key : ℕ} {layer : ℕ} {offset : ℕ} {most : ℕ} (h : Within ps s t) : Within ([Part.dict, Part.time, Part.nl, Part.link, Part.svc, Part.sched, Part.guard, Part.integ] ++ ps) s (Machine.serveRead seq key layer offset most t) := by
  refine h.thenOf fun h => ?_
  unfold Machine.serveRead
  split
  · exact .mono (.ite h.readStart h.readOn) (by decide)
  · exact .mono h.replyRead (by decide)

theorem Within.wakeStarts (h : Within ps s t) : Within ([Part.dict, Part.clock, Part.time, Part.guard, Part.power] ++ ps) s (Machine.wakeStarts t) := by
  refine h.thenOf fun h => ?_
  unfold Machine.wakeStarts
  exact .mono h.advanceToAir.bump.setObj.onWatch (by decide)

end Sys2Proof.Machine
end

section
/-! SUPPORT. A task's life on its tile (11 R366, R392, R396, R397; 13 R435): the context and the memory of a start, an end's report, and a cancel. -/
namespace Sys2Proof.Machine
open Sys2Proof.Safety

/-! ## The trace and TILE_STATE beside the operations -/

theorem addTrace_sched (r : Bytes) (s : State) : ∃ l, (addTrace r s).sched = { s.sched with trace := l } := by
  unfold addTrace
  dsimp only
  split
  · exact ⟨_, rfl⟩
  · split
    · exact ⟨_, rfl⟩
    · exact ⟨_, rfl⟩

theorem traceOp_sched (e tag : Nat) (o : Op) (a b c : Nat) (s : State) : ∃ l, (traceOp e tag o a b c s).sched = { s.sched with trace := l } := by
  unfold traceOp
  split
  · exact addTrace_sched _ s
  · exact ⟨_, rfl⟩

theorem showTile_sched (t : Nat) (s : State) : (showTile t s).sched = s.sched := (showTile_leaves t s).1 .sched (by decide)

/-! ## Bad bytes that a scrub found (15 R516) -/

theorem zeroFound_within (t : Nat) (s : State) : Within [.integ, .mem] s (zeroFound t s) := (Within.start s).zeroFound.mono (by decide)

theorem zeroFound_mem (t : Nat) (s : State) {a : Nat} (h : a ∉ s.integ.toZero) : memByte (zeroFound t s).mem a = memByte s.mem a :=
  memByte_memPutAll (fun e he => by
    obtain ⟨b, hb, rfl⟩ := List.mem_map.mp he
    exact fun hba => h (hba ▸ (List.mem_filter.mp hb).1)) _

theorem zeroFound_toZero (t : Nat) (s : State) {a : Nat} (h : a ∈ (zeroFound t s).integ.toZero) : a ∈ s.integ.toZero :=
  (List.mem_filter.mp h).1

/-- The state in which the memory of a task's tile, or of both of its pair, is fit to start. -/
def readied (t : Nat) (s : State) : State := if s.obj (O.bondState (t / 2)) = 0 then zeroFound t s else zeroFound (t + 1) (zeroFound t s)

theorem readied_within (t : Nat) (s : State) : Within [.integ, .mem] s (readied t s) := by
  unfold readied
  split
  · exact zeroFound_within t s
  · exact ((zeroFound_within t s).via (zeroFound_within (t + 1) _)).mono (by decide)

theorem readied_mem (t : Nat) (s : State) {a : Nat} (h : a ∉ s.integ.toZero) : memByte (readied t s).mem a = memByte s.mem a := by
  unfold readied
  split
  · exact zeroFound_mem t s h
  · exact (zeroFound_mem _ _ fun ha => h (zeroFound_toZero t s ha)).trans (zeroFound_mem t s h)

/-! ## The argument block (13 Table 13-6) -/

theorem argInputs_length (w : Nat) (l : List (InWin × Nat)) : (argInputs w l).length = 8 * l.length := by
  induction l generalizing w with
  | nil => rfl
  | cons i l ih => simp [argInputs, argInput, ih]; omega

theorem taskDescriptor_length (s : State) (tag : Nat) (o : Op) : (taskDescriptor s tag o).length = 64 := by
  simp only [taskDescriptor, List.length_append, length_leBytes]

theorem argBlock_length (s : State) (tag : Nat) (o : Op) (ins : List (InWin × Nat)) : (argBlock s tag o ins).length = 88 + 8 * ins.length := by
  simp only [argBlock, List.length_append, taskDescriptor_length, argInputs_length, length_leBytes]

theorem cellsAt_range {a : Nat} {b : Bytes} : ∀ e ∈ cellsAt a b, a ≤ e.1 ∧ e.1 < a + b.length := by
  induction b generalizing a with
  | nil => simp [cellsAt]
  | cons x b ih =>
    intro e he
    rcases List.mem_cons.mp he with rfl | he
    · simp
    · obtain ⟨h1, h2⟩ := ih e he
      simp only [List.length_cons]
      omega

theorem memByte_memWrite (m : List Host.Cell) {a b : Nat} {l : Bytes} (h : b < a ∨ a + l.length ≤ b) : memByte (memWrite m a l) b = memByte m b :=
  memByte_memPutAll (fun e he => by have := cellsAt_range e he; omega) m

/-! ## The context at the start (11 R392) -/

/-- The operation of a task that starts. -/
def startedOp (s : State) (o : Op) : Op := { o with state := .running, start := s.airNow, next := false }

theorem gReg_start (a : Word) (tag gen n : Nat) (c : Ctx)
    (h : c.g = Store.putD 0 (Store.putD 0 [(1, a)] 2 (BitVec.ofNat 64 tag)) 3 (BitVec.ofNat 64 gen)) :
    gReg c n = if n = 1 then a else if n = 2 then BitVec.ofNat 64 tag else if n = 3 then BitVec.ofNat 64 gen else 0 := by
  have h1 (k : Nat) : Store.at (0 : Word) [(1, a)] k = if k = 1 then a else 0 := by
    simp only [Store.at, Store.find, eq_comm (a := 1)]
    split <;> rfl
  unfold gReg
  rw [h]
  by_cases h3 : n = 3
  · subst h3
    simp
  · by_cases h2 : n = 2
    · subst h2
      rw [Store.at_putD_ne _ _ _ _ _ _ h3]
      simp
    · rw [Store.at_putD_ne _ _ _ _ _ _ h3, Store.at_putD_ne _ _ _ _ _ _ h2, h1]
      by_cases h0 : n = 0
      · simp [h0]
      · simp [h0, h2, h3]

theorem at_filter_head {w : Word} (h : (w != 0) = true) (x y : List (Nat × Word)) :
    Store.at 0 (((0, w) :: x).filter (fun e => e.2 != 0) ++ y) 0 = w := by
  rw [List.filter_cons_of_pos (p := fun e : Nat × Word => e.2 != 0) h]
  rfl

theorem vReg_nil {c : Ctx} (hs : c.s = []) (hv : c.v = []) (long : Bool) (n : Nat) : vReg c long n = 0 := by
  cases long <;> simp [vReg, hs, hv, Store.at, Store.find]

theorem pReg_nil {c : Ctx} (hp : c.p = []) {n : Nat} (hn : n ≠ 0) : pReg c n = 0 := by
  simp [pReg, hp, hn, Store.at, Store.find]

/-- Window 0 shows the argument block. -/
theorem startWins_zero (t : Nat) (ins : List InWin) (outs sw : List Nat) :
    Store.at 0 (startWins t ins outs sw) 0 = BitVec.ofNat 64 (palletAddr (argPallet t) + 0x11) := by
  have hne : (BitVec.ofNat 64 (palletAddr (argPallet t) + 0x11) != 0) = true := by
    rw [bne_iff_ne]
    intro h
    have h0 := congrArg BitVec.toNat h
    rw [BitVec.toNat_ofNat] at h0
    have hp : palletAddr (argPallet t) + 0x11 < 2 ^ 64 := by
      unfold palletAddr argPallet
      omega
    rw [Nat.mod_eq_of_lt hp] at h0
    simp at h0
  exact at_filter_head hne _ _

/-! ## A task starts -/

/-- The windows of a task's inputs as it starts. -/
def startInputs (s : State) (t : Nat) (o : Op) : List (InWin × Nat) := o.ins.flatMap (inputWins s o (Store.at [] s.sched.copies t))

/-- The state in which the argument block of a task that starts is written. -/
def argued (t tag : Nat) (o o' : Op) (s : State) : State :=
  { s with mem := memWrite s.mem (palletAddr (argPallet t) + argOffset t) (argBlock s tag o' (startInputs s t o)), freeCtr := s.freeCtr + 2
           sched := { s.sched with copies := Store.drop s.sched.copies t } }

theorem argued_within (t tag : Nat) (o o' : Op) (s : State) : Within [.freeCtr, .mem, .sched] s (argued t tag o o' s) :=
  ⟨fun p hp => by cases p <;> simp_all [Part.same, argued]⟩

theorem startTask_eq (t tag : Nat) (o : Op) (s : State) : startTask t tag o s
    = traceOp 3 tag (startedOp (readied t s) o) 0 0 0 (showTile t ((putCtx t
        (startCtx (readied t s) t tag (startedOp (readied t s) o) (startInputs (readied t s) t o))
        (argued t tag o (startedOp (readied t s) o) (readied t s))).onOp tag fun _ => startedOp (readied t s) o)) := by
  have hr : (if s.obj (O.bondState (t / 2)) == 0 then zeroFound t s else zeroFound (t + 1) (zeroFound t s)) = readied t s :=
    if_congr beq_iff_eq rfl rfl
  unfold startTask
  rw [hr]
  rfl

theorem readied_now (t : Nat) (s : State) (o : Op) : startedOp (readied t s) o = startedOp s o := by
  have hc : (readied t s).clock = s.clock := (readied_within t s).same .clock (by decide)
  simp only [startedOp, State.airNow, State.airOf, hc]

theorem startInputs_readied (t : Nat) (s : State) (o : Op) : startInputs (readied t s) t o = startInputs s t o := by
  have hs : (readied t s).sched = s.sched := (readied_within t s).same .sched (by decide)
  have hi (c : List (Nat × Nat × Bool)) : inputWins (readied t s) o c = inputWins s o c := by
    funext i
    simp only [inputWins, State.liveOp, hs]
  rw [startInputs, hs, hi]
  rfl

theorem program_readied (t : Nat) (s : State) (k : Nat) : (readied t s).program k = s.program k := by
  have hs : (readied t s).sched = s.sched := (readied_within t s).same .sched (by decide)
  simp only [State.program, hs]

theorem execTaskStart_due {t tag : Nat} {o : Op} {s : State} (ht : t < 200) (h : startable s t = some (tag, o)) :
    exec (.taskStart t) s = .next (startTask t tag o s) := by
  show execTaskStart t s = _
  simp [execTaskStart, tileCount, Nat.not_le.mpr ht, h]

/-- What a task's start leaves of operations, copies, tiles and memory. -/
theorem startTask_shows (t tag : Nat) (o : Op) (s : State) (h : s.op tag = some o) :
    SlotBecomes s (startTask t tag o s) t (startCtx (readied t s) t tag (startedOp s o) (startInputs s t o))
      ∧ (startTask t tag o s).op tag = some (startedOp s o) ∧ Store.find (startTask t tag o s).sched.copies t = none
      ∧ (startTask t tag o s).mem = memWrite (readied t s).mem (palletAddr (argPallet t) + argOffset t)
          (argBlock (readied t s) tag (startedOp s o) (startInputs s t o))
      ∧ SameBut s (startTask t tag o s) [.dict, .freeCtr, .integ, .mem, .sched, .tiles] := by
  have ha := argued_within t tag o (startedOp (readied t s) o) (readied t s)
  have hr := readied_within t s
  have hop : (argued t tag o (startedOp (readied t s) o) (readied t s)).op tag = some o := by
    have hs : (readied t s).sched = s.sched := hr.same .sched (by decide)
    simp only [State.op, argued, hs]
    exact h
  have htiles : (argued t tag o (startedOp (readied t s) o) (readied t s)).tiles = s.tiles := (hr.via ha).same .tiles (by decide)
  rw [startTask_eq, readied_now, startInputs_readied]
  rw [readied_now] at ha hop htiles
  generalize hA : argued t tag o (startedOp s o) (readied t s) = A at ha hop htiles ⊢
  generalize hC : startCtx (readied t s) t tag (startedOp s o) (startInputs s t o) = C
  have hw := (((Within.start A).putCtx (i := t) (c := C)).onOp (tag := tag) (f := fun _ => startedOp s o)).showTile (i := t)
    |>.traceOp (event := 3) (tag := tag) (o := startedOp s o) (status := 0) (pallets := 0) (tested := 0)
  obtain ⟨l, hl⟩ := traceOp_sched 3 tag (startedOp s o) 0 0 0 (showTile t ((putCtx t C A).onOp tag fun _ => startedOp s o))
  have hso : ((putCtx t C A).onOp tag fun _ => startedOp s o).sched = { A.sched with ops := Store.put A.sched.ops tag (startedOp s o) } := by
    have hop' : (putCtx t C A).op tag = some o := hop
    simp only [State.onOp, hop']
    rfl
  rw [showTile_sched, hso] at hl
  have ht : (traceOp 3 tag (startedOp s o) 0 0 0 (showTile t ((putCtx t C A).onOp tag fun _ => startedOp s o))).tiles = Store.put s.tiles t C := by
    have h1 := ((Within.start (showTile t ((putCtx t C A).onOp tag fun _ => startedOp s o))).traceOp (event := 3) (tag := tag)
      (o := startedOp s o) (status := 0) (pallets := 0) (tested := 0)).same .tiles (by decide)
    have h2 := (showTile_leaves t ((putCtx t C A).onOp tag fun _ => startedOp s o)).1 .tiles (by decide)
    have h3 : (putCtx t C A).tiles = Store.put s.tiles t C := by rw [← htiles]; rfl
    exact h1.trans (h2.trans ((State.onOp_tiles ..).trans h3))
  refine ⟨⟨?_, fun u hu => ?_⟩, ?_, ?_, ?_, ?_⟩
  · rw [ht]
    exact Store.find_put_same ..
  · rw [ht]
    exact Store.find_put_ne _ _ _ _ hu
  · rw [State.op, hl]
    exact Store.find_put_same ..
  · rw [hl, ← hA]
    exact Store.find_drop_same ..
  · refine (hw.same .mem (by decide)).trans ?_
    rw [← hA, argued, startInputs_readied]
  · exact (((hr.via ha).via hw).mono (by decide)).same

/-! ## The end of a task is reported -/

theorem countTask_leaves (t : Nat) (c : Ctx) (how : TaskEnd) (s : State) :
    Leaves s (countTask t c how s) [.dict] [O.tasksEnded t, O.busyCycles t, O.taskFaults t, O.taskCancels t, O.satTasks] := by
  unfold countTask
  refine Leaves.trans (Leaves.trans (Leaves.trans (Leaves.trans (Leaves.bump _ _ _ (by decide) (by simp)) (Leaves.bump _ _ _ (by decide) (by simp)))
    (Leaves.ite _ (Leaves.bump _ _ _ (by decide) (by simp)) (Leaves.refl ..))) (Leaves.ite _ (Leaves.bump _ _ _ (by decide) (by simp)) (Leaves.refl ..)))
    (Leaves.ite _ (Leaves.bump _ _ _ (by decide) (by simp)) (Leaves.refl ..))

/-- A counter bumped where a condition holds. -/
def bumpIf (b : Bool) (k : Nat) (s : State) : State := if b then s.bump k 1 else s

theorem bumpIf_ne {k j : Nat} (b : Bool) (s : State) (h : j ≠ k) : (bumpIf b k s).obj j = s.obj j := by
  cases b
  · rfl
  · exact State.obj_bump_ne _ _ _ _ h

theorem bumpIf_counted {s u : State} {k : Nat} (b : Bool) (h : u.obj k = s.obj k) :
    if b = true then (bumpIf b k u).obj k = ((s.nat k + 1) % counterTop k : Nat) else (bumpIf b k u).obj k = s.obj k := by
  cases b
  · exact h
  · exact (State.obj_bump_same ..).trans (congrArg (fun v : Int => (((v.toNat + 1) % counterTop k : Nat) : Int)) h)

theorem countTask_eq (t : Nat) (c : Ctx) (how : TaskEnd) (s : State) : countTask t c how s
    = bumpIf (vstatSat c.vstat) O.satTasks (bumpIf (how == .cancelled) (O.taskCancels t) (bumpIf (how == .fault || how == .dataLost) (O.taskFaults t)
        ((s.bump (O.tasksEnded t) 1).bump (O.busyCycles t) (cyclesOf (s.clock.ticks - c.begun))))) := rfl

/-- The keys of a tile's counters differ. -/
theorem taskKeys_ne {t : Nat} (ht : t < 200) : O.busyCycles t ≠ O.tasksEnded t ∧ O.taskFaults t ≠ O.tasksEnded t ∧ O.taskFaults t ≠ O.busyCycles t
    ∧ O.taskCancels t ≠ O.tasksEnded t ∧ O.taskCancels t ≠ O.busyCycles t ∧ O.taskCancels t ≠ O.taskFaults t
    ∧ O.satTasks ≠ O.tasksEnded t ∧ O.satTasks ≠ O.busyCycles t ∧ O.satTasks ≠ O.taskFaults t ∧ O.satTasks ≠ O.taskCancels t := by
  refine ⟨?_, ?_, ?_, ?_, ?_, ?_, ?_, ?_, ?_, ?_⟩ <;>
    (simp only [O.busyCycles, O.tasksEnded, O.taskFaults, O.taskCancels, O.satTasks]; omega)

theorem countTask_counts {t : Nat} (ht : t < 200) (c : Ctx) (how : TaskEnd) (s : State) : Counted s (countTask t c how s) (O.tasksEnded t) 1
    ∧ (if how = .fault ∨ how = .dataLost then Counted s (countTask t c how s) (O.taskFaults t) 1
        else (countTask t c how s).obj (O.taskFaults t) = s.obj (O.taskFaults t))
    ∧ (if how = .cancelled then Counted s (countTask t c how s) (O.taskCancels t) 1
        else (countTask t c how s).obj (O.taskCancels t) = s.obj (O.taskCancels t))
    ∧ (if vstatSat c.vstat = true then Counted s (countTask t c how s) O.satTasks 1
        else (countTask t c how s).obj O.satTasks = s.obj O.satTasks) := by
  obtain ⟨h1, h2, h3, h4, h5, h6, h7, h8, h9, h10⟩ := taskKeys_ne ht
  rw [countTask_eq]
  generalize hu : (s.bump (O.tasksEnded t) 1).bump (O.busyCycles t) (cyclesOf (s.clock.ticks - c.begun)) = u
  have ho (k : Nat) (a : k ≠ O.tasksEnded t) (b : k ≠ O.busyCycles t) : u.obj k = s.obj k := by
    rw [← hu, State.obj_bump_ne _ _ _ _ b, State.obj_bump_ne _ _ _ _ a]
  refine ⟨?_, ?_, ?_, ?_⟩
  · rw [Counted, bumpIf_ne _ _ h7.symm, bumpIf_ne _ _ h4.symm, bumpIf_ne _ _ h2.symm, ← hu, State.obj_bump_ne _ _ _ _ h1.symm, State.obj_bump_same]
  · have hb := bumpIf_counted (how == .fault || how == .dataLost) (ho _ h2 h3)
    simp only [Counted, bumpIf_ne _ _ h9.symm, bumpIf_ne _ _ h6.symm]
    simpa only [Bool.or_eq_true, beq_iff_eq] using hb
  · have hb := bumpIf_counted (how == .cancelled) (u := bumpIf (how == .fault || how == .dataLost) (O.taskFaults t) u) ((bumpIf_ne _ _ h6).trans (ho _ h4 h5))
    simp only [Counted, bumpIf_ne _ _ h10.symm]
    simpa only [beq_iff_eq] using hb
  · exact bumpIf_counted (vstatSat c.vstat) ((bumpIf_ne _ _ h10).trans ((bumpIf_ne _ _ h9).trans (ho _ h7 h8)))

/-- The state in which a slot is given back, and its operation holds what the task left. -/
def slotFreed (t : Nat) (c : Ctx) (how : TaskEnd) (s : State) : State :=
  let s := { s with tiles := Store.drop s.tiles t, sched := { s.sched with freed := Store.put s.sched.freed t s.clock.ticks } }
  match s.op c.tag with
  | some o =>
    let s := { s with sched := { s.sched with lastOf := Store.put s.sched.lastOf t o.carrier } }
    s.onOp c.tag fun o => { o with ended := some how, data := if how = .ok then c.staged else [] }
  | none => s

theorem slotFreed_within (t : Nat) (c : Ctx) (how : TaskEnd) (s : State) : Within [.sched, .tiles] s (slotFreed t c how s) := by
  have h := (Within.start s).setTiles (x := Store.drop s.tiles t) |>.setSched (x := { s.sched with freed := Store.put s.sched.freed t s.clock.ticks })
  unfold slotFreed
  dsimp only
  split
  · exact h.setSched.onOp.mono (by decide)
  · exact h.mono (by decide)

theorem slotFreed_tiles (t : Nat) (c : Ctx) (how : TaskEnd) (s : State) : (slotFreed t c how s).tiles = Store.drop s.tiles t := by
  unfold slotFreed
  dsimp only
  split
  · exact State.onOp_tiles ..
  · rfl

theorem slotFreed_op (t : Nat) (c : Ctx) (how : TaskEnd) (s : State) (o : Op) (h : s.op c.tag = some o) :
    (slotFreed t c how s).op c.tag = some { o with ended := some how, data := if how = .ok then c.staged else [] } := by
  have hf : Store.find s.sched.ops c.tag = some o := h
  simp only [slotFreed, State.op, State.onOp, hf]
  exact Store.find_put_same ..

theorem execTaskEndReport_due {t : Nat} {c : Ctx} {how : TaskEnd} {s : State} (ht : t < 200) (hc : Store.find s.tiles t = some c)
    (he : c.ended = some how) (hj : ∀ j ∈ c.jobs, j.2.settled = true) :
    exec (.taskEndReport t) s = .next (showTile t (slotFreed t c how (countTask t c how s))) := by
  have h1 : (endsByF how c && c.jobs.any fun j => !j.2.settled && !j.2.cancel) = false := by
    have : (c.jobs.any fun j => !j.2.settled && !j.2.cancel) = false := List.any_eq_false.mpr fun j hm => by simp [hj j hm]
    rw [this, Bool.and_false]
  have h2 : (c.jobs.any fun j => !j.2.settled) = false := List.any_eq_false.mpr fun j hm => by simp [hj j hm]
  show execTaskEndReport t s = _
  unfold execTaskEndReport
  rw [if_neg (show ¬tileCount ≤ t from Nat.not_le.mpr ht), hc]
  simp only [he, h1, h2, Bool.false_eq_true, if_false]
  rfl

/-! ## A cancel -/

theorem find_map_same {α : Type} (m : Store α) (g : α → α) (k : Nat) : Store.find (m.map fun e => (e.1, g e.2)) k = (Store.find m k).map g := by
  induction m with
  | nil => rfl
  | cons e m ih =>
    obtain ⟨a, x⟩ := e
    simp only [List.map_cons, Store.find, ih]
    split <;> rfl

/-- What a cancel makes of a job. -/
def cancelledJob (j : FusedJob) : FusedJob :=
  if j.settled = true then j else if j.sent = true then { j with cancel := true } else { j with settled := true, cancelled := true }

theorem cancelJobs_jobs (c : Ctx) (s : State) : (cancelJobs c s).1 = { c with jobs := c.jobs.map fun e => (e.1, cancelledJob e.2) } := by
  have h : (fun j : Nat × FusedJob => if j.2.settled then j else if j.2.sent then (j.1, { j.2 with cancel := true })
      else (j.1, { j.2 with settled := true, cancelled := true })) = fun e => (e.1, cancelledJob e.2) := by
    funext e
    unfold cancelledJob
    split
    · rfl
    · split <;> rfl
  unfold cancelJobs
  dsimp only
  rw [h]

theorem execTileCancel_due {t : Nat} {c : Ctx} {s : State} (h : OnSlot s t c) (hd : ∀ o, s.op c.tag = some o → o.cancel = true) :
    exec (.tileCancel t) s = .next (putCtx t { (cancelJobs c s).1 with ended := some .cancelled, staged := [] } (cancelJobs c s).2) := by
  obtain ⟨ht, hc, he⟩ := h
  show execTileCancel t s = _
  unfold execTileCancel
  rw [if_neg (show ¬tileCount ≤ t from Nat.not_le.mpr ht), hc]
  rcases ho : s.op c.tag with _ | o
  · simp only [ho, he, Option.isNone_none, Bool.and_self, if_true, stopTask, hc]
  · simp only [ho, hd o ho, he, Option.isNone_none, Bool.and_self, if_true, stopTask, hc]

end Sys2Proof.Machine

open Sys2Proof Sys2Proof.Machine Sys2Proof.Safety

/-- Settles O39: the start, the report of the end and the cancel of a task, each from what it leaves of its slot and of its operation. -/
theorem taskLife : Obligations.TaskLife := by
  unfold Obligations.TaskLife
  refine ⟨fun t tag o s ht hs ho => ?_, fun t c how s ht hc he hj => ?_, fun t c s h hd => ?_⟩
  · obtain ⟨hslot, hop, hcop, hmem, hsame⟩ := startTask_shows t tag o s ho
    have hg (n : Nat) := gReg_start (BitVec.ofNat 64 (0x100000000 + argOffset t)) tag o.gen n
      (startCtx (readied t s) t tag (startedOp s o) (startInputs s t o)) rfl
    refine ⟨_, _, execTaskStart_due ht hs, hslot, rfl, rfl, rfl, rfl, ?_, ?_, ?_, ?_, fun n hn => ?_, fun long n => ?_, fun n hn => ?_, ?_, rfl, rfl,
      startWins_zero .., hop, hcop, fun a ha hz => ?_, hsame⟩
    · rw [← program_readied t s]; rfl
    · exact (hg 1).trans (if_pos rfl)
    · exact (hg 2).trans ((if_neg (by decide)).trans (if_pos rfl))
    · exact (hg 3).trans ((if_neg (by decide)).trans ((if_neg (by decide)).trans (if_pos rfl)))
    · rw [hg n, if_neg (by omega), if_neg (by omega), if_neg (by omega)]
    · exact vReg_nil rfl rfl long n
    · exact pReg_nil rfl hn
    · rw [← program_readied t s]; rfl
    · rw [hmem, memByte_memWrite _ (by rw [argBlock_length]; exact ha.imp_right fun h => by rw [← Nat.add_assoc]; exact h), readied_mem t s hz]
  · have hl := countTask_leaves t c how s
    have hw := slotFreed_within t c how (countTask t c how s)
    have hst := showTile_leaves t (slotFreed t c how (countTask t c how s))
    have htiles : (countTask t c how s).tiles = s.tiles := hl.1 .tiles (by decide)
    have hobj (k : Nat) (hk : k ≠ O.tileState t) : (showTile t (slotFreed t c how (countTask t c how s))).obj k = (countTask t c how s).obj k :=
      (hst.2 k (by simpa using hk)).trans (State.obj_congr (hw.same .dict (by decide)) k)
    have hkeys : O.tasksEnded t ≠ O.tileState t ∧ O.taskFaults t ≠ O.tileState t ∧ O.taskCancels t ≠ O.tileState t ∧ O.satTasks ≠ O.tileState t := by
      refine ⟨?_, ?_, ?_, ?_⟩ <;> (simp only [O.tasksEnded, O.taskFaults, O.taskCancels, O.satTasks, O.tileState]; omega)
    obtain ⟨k1, k2, k3, k4⟩ := hkeys
    obtain ⟨n1, n2, n3, n4⟩ := countTask_counts ht c how s
    have htl : (showTile t (slotFreed t c how (countTask t c how s))).tiles = Store.drop s.tiles t :=
      (hst.1 .tiles (by decide)).trans ((slotFreed_tiles ..).trans (by rw [htiles]))
    refine ⟨_, execTaskEndReport_due ht hc he hj, ?_, fun u hu => ?_, fun o ho => ?_, ?_, ?_, ?_, ?_, ?_⟩
    · rw [htl]
      exact Store.find_drop_same ..
    · rw [htl]
      exact Store.find_drop_ne _ _ _ hu
    · have hso : (countTask t c how s).sched = s.sched := hl.1 .sched (by decide)
      have hop := slotFreed_op t c how (countTask t c how s) o (by rw [State.op, hso]; exact ho)
      rw [State.op, showTile_sched]
      exact hop
    · exact (hobj _ k1).trans n1
    · simpa only [Counted, hobj _ k2] using n2
    · simpa only [Counted, hobj _ k3] using n3
    · simpa only [Counted, hobj _ k4] using n4
    · exact Leaves.trans (Leaves.mono hl (by decide) (by simp)) (Leaves.trans (Leaves.of_dict (SameBut.mono hw.same (by decide))
        (hw.same .dict (by decide))) (Leaves.mono hst (by decide) (by simp)))
  · have hb : Leaves s (cancelJobs c s).2 [.dict, .tiles] [O.fusedCancelled] := Leaves.bump s O.fusedCancelled _ (by decide) (by decide)
    refine ⟨_, _, execTileCancel_due h hd, SlotBecomes.of_tiles rfl (putCtx_becomes ..), ?_, fun slot j hj => ?_, State.obj_bump_same s O.fusedCancelled _,
      Leaves.trans hb (putCtx_leaves _ _ _ (by decide))⟩
    · rw [cancelJobs_jobs]
    · rw [cancelJobs_jobs]
      exact (find_map_same c.jobs cancelledJob slot).trans (by rw [hj]; rfl)
end

section
/-! SUPPORT. Weight-bank swaps (08): the banks of an entry through a decision and a boundary. -/
namespace Sys2Proof.Machine
open Sys2Proof.Safety

theorem onWb_found {s : State} {i : Nat} {e : WbEntry} (h : Store.find s.wb i = some e) (f : WbEntry → WbEntry) :
    Store.find (s.onWb i f).wb i = some (f e) := by
  simp only [State.onWb, h]
  exact Store.find_put_same ..

theorem Leaves.onWb (s : State) (i : Nat) (f : WbEntry → WbEntry) {ps : List Part} {ks : List Nat} (h : Part.wb ∈ ps) :
    Leaves s (s.onWb i f) ps ks :=
  Leaves.of_dict (fun p hp => by cases p <;> simp_all [Part.same]) (by simp)

@[simp] theorem advanceToAir_wb (s : State) (a : Int) : (advanceToAir s a).wb = s.wb :=
  (Leaves.advanceToAir s a (ps := timeParts) (ks := []) (fun _ h => h)).1 .wb (by decide)

theorem staleBank_leaves (i cause : Nat) (e : WbEntry) (next : Int) (s : State) :
    Leaves s (staleBank i cause e next s) [.dict, .link] [O.staleBankCount, O.indicationsDropped] :=
  Leaves.raise _ _ _ _ _ (by decide) (by decide) (by decide) (by decide)

/-! ## The decision -/

/-- The bank that a decision makes NEXT. -/
def decidedBank (a : Int) (b : Bank) : Bank := { b with role := BankRole.next, fromB := a }

theorem find_decided_next {l : List Bank} {b : Bank} (a : Int) (hn : l.find? (fun b => b.role = .next) = none)
    (hb : l.find? (fun b => b.role = .back) = some b) :
    (l.map fun b => if b.role = .back then decidedBank a b else b).find? (fun b => b.role = .next) = some (decidedBank a b) := by
  induction l with
  | nil => simp at hb
  | cons x l ih =>
    simp only [List.find?_cons, List.map_cons] at hn hb ⊢
    by_cases hx : x.role = .back
    · simp_all [decidedBank]
    · by_cases hy : x.role = .next <;> simp_all

theorem find_decided_back (a : Int) (l : List Bank) :
    (l.map fun b => if b.role = .back then decidedBank a b else b).find? (fun b => b.role = .back) = none := by
  simp only [List.find?_eq_none, List.mem_map, decide_eq_true_eq]
  rintro _ ⟨x, -, rfl⟩
  split
  · simp [decidedBank]
  · assumption

theorem find_decided_free (a : Int) (l : List Bank) :
    (l.map fun b => if b.role = .back then decidedBank a b else b).find? (fun b => b.role = .free) = l.find? fun b => b.role = .free := by
  induction l with
  | nil => rfl
  | cons x l ih =>
    simp only [List.find?_cons, List.map_cons]
    by_cases hx : x.role = .back
    · simp only [hx, if_true, decidedBank, reduceCtorEq, decide_false]
      exact ih
    · rw [if_neg hx, ih]

/-- A bank that is taken leaves the roles that neither its old nor its new one is. -/
theorem find_retake_other {l : List Bank} (g : Bank → Bank) (r : BankRole) (hr : r ≠ .free) (hg : ∀ b, (g b).role ≠ r) :
    (retake (fun b => b.role = .free) g l).find? (fun b => b.role = r) = l.find? fun b => b.role = r := by
  induction l with
  | nil => rfl
  | cons x l ih =>
    simp only [retake]
    by_cases hx : x.role = .free
    · simp [hx, List.find?_cons, hg x, hr.symm]
    · simp [hx, List.find?_cons, ih]

theorem find_retake_taken {l : List Bank} {f : Bank} (g : Bank → Bank) (r : BankRole) (hg : ∀ b, (g b).role = r)
    (hn : l.find? (fun b => b.role = r) = none) (hf : l.find? (fun b => b.role = .free) = some f) :
    (retake (fun b => b.role = .free) g l).find? (fun b => b.role = r) = some (g f) := by
  induction l with
  | nil => simp at hf
  | cons x l ih =>
    simp only [List.find?_cons] at hn hf
    simp only [retake]
    by_cases hx : x.role = .free
    · simp_all
    · by_cases hy : x.role = r <;> simp_all [List.find?_cons]

/-- The bank that a decision takes for the BACK. -/
def takenBank (e : WbEntry) (b : Bank) : Bank :=
  { b with role := BankRole.back, data := ((e.bank .back).map (·.data)).getD [], bad := ((e.bank .back).map (·.bad)).getD [] }

theorem swapDecided_banks (e : WbEntry) : (swapDecided e).banks = retake (fun b => b.role = .free) (takenBank e)
    (e.banks.map fun b => if b.role = .back then decidedBank e.nextB b else b) := rfl

theorem swapDecided_bank {e : WbEntry} {b f : Bank} (hb : e.bank .back = some b) (hf : e.bank .free = some f) (hn : e.bank .next = none) :
    (swapDecided e).bank .next = some (decidedBank e.nextB b)
      ∧ ((swapDecided e).bank .back).map (·.data) = some b.data := by
  refine ⟨?_, ?_⟩
  · rw [WbEntry.bank, swapDecided_banks, find_retake_other (takenBank e) .next (by decide) fun _ => nofun]
    exact find_decided_next e.nextB hn hb
  · rw [WbEntry.bank, swapDecided_banks, find_retake_taken (takenBank e) .back (fun _ => rfl) (find_decided_back ..)
      ((find_decided_free ..).trans hf)]
    exact congrArg (fun b : Option Bank => some ((b.map (·.data)).getD [])) hb

/-- The state at the decision instant of an entry. -/
def atDecision (e : WbEntry) (s : State) : State := advanceToAir s (e.nextB - s.slotSpan e.owner (s.nat (O.runAheadSlots e.owner) + 1))

theorem execWbSwapDecision_committed {s : State} {i : Nat} {e : WbEntry} {f : Bank} (h : Store.find s.wb i = some e)
    (hb : e.back = .committed) (hf : e.bank .free = some f) :
    execWbSwapDecision i s = .next ((atDecision e s).onWb i fun e' =>
      { swapDecided e' with nextB := (atDecision e s).boundaryAfter e.owner e.period e.nextB }) := by
  simp only [execWbSwapDecision, h, hb, hf, Option.isSome_some, if_true]
  rfl

theorem execWbSwapDecision_opened {s : State} {i : Nat} {e : WbEntry} (h : Store.find s.wb i = some e) (hb : e.back = .opened)
    (hw : e.written = true) :
    execWbSwapDecision i s = .next (staleBank i 0 e ((atDecision e s).boundaryAfter e.owner e.period e.nextB)
      ((atDecision e s).onWb i fun e' => { e' with nextB := (atDecision e s).boundaryAfter e.owner e.period e.nextB })) := by
  simp only [execWbSwapDecision, h, hb, hw, if_true]
  rfl

theorem atDecision_wb (e : WbEntry) (s : State) : (atDecision e s).wb = s.wb := advanceToAir_wb ..

theorem atDecision_leaves (e : WbEntry) (s : State) : Leaves s (atDecision e s) timeParts [] := Leaves.advanceToAir _ _ (by decide)

/-! ## The boundary -/

/-- The role a bank has after its entry's from-boundary. -/
def turnBank (b : Bank) : Bank :=
  if b.role = .front then { b with role := BankRole.retiring } else if b.role = .next then { b with role := BankRole.front } else b

theorem find_turned_front {l : List Bank} {b : Bank} (h : l.find? (fun b => b.role = .next) = some b) :
    (l.map turnBank).find? (fun b => b.role = .front) = some { b with role := .front } := by
  induction l with
  | nil => simp at h
  | cons x l ih =>
    simp only [List.find?_cons, List.map_cons] at h ⊢
    by_cases hx : x.role = .next
    · simp_all [turnBank]
    · by_cases hy : x.role = .front <;> simp_all [turnBank]

theorem find_turned_next (l : List Bank) : (l.map turnBank).find? (fun b => b.role = .next) = none := by
  simp only [List.find?_eq_none, List.mem_map, decide_eq_true_eq]
  rintro _ ⟨x, -, rfl⟩
  unfold turnBank
  split
  · simp
  · split
    · simp
    · assumption

/-- A retiring bank that goes free. -/
def freedBank (b : Bank) : Bank := if b.role == .retiring then { b with role := BankRole.free } else b

theorem find_freed {l : List Bank} (r : BankRole) (h1 : r ≠ .retiring) (h2 : r ≠ .free) :
    (l.map freedBank).find? (fun b => b.role = r) = l.find? fun b => b.role = r := by
  induction l with
  | nil => rfl
  | cons x l ih =>
    simp only [List.find?_cons, List.map_cons, ih]
    by_cases hx : x.role = .retiring
    · simp [freedBank, hx, h1.symm, h2.symm]
    · simp [freedBank, hx]

/-- What a retirement of banks makes of an entry. -/
def retiredEntry (s : State) (e : WbEntry) : WbEntry :=
  if (s.pipe.courses.any fun c => c.1 / 2 ^ 32 == e.owner + 1
      && decide (c.2.slotAir < ((e.banks.find? fun b => b.role == .front).map (·.fromB)).getD 0)
      && c.2.state != .ended && c.2.state != .closed) = true then e
  else { e with banks := e.banks.map freedBank }

theorem retireBanks_found {s : State} {i : Nat} {e : WbEntry} (h : Store.find s.wb i = some e) :
    Store.find (retireBanks s).wb i = some (retiredEntry s e) := by
  have hw : (retireBanks s).wb = s.wb.map fun e => (e.1, retiredEntry s e.2) := by
    refine List.map_congr_left fun e _ => ?_
    unfold retiredEntry
    dsimp only
    split <;> rfl
  rw [hw, find_map_same, h]
  rfl

theorem retiredEntry_bank (s : State) (e : WbEntry) (r : BankRole) (h1 : r ≠ .retiring) (h2 : r ≠ .free) :
    (retiredEntry s e).bank r = e.bank r := by
  unfold retiredEntry
  split
  · rfl
  · exact find_freed r h1 h2

theorem retireBanks_leaves (s : State) {ks : List Nat} : Leaves s (retireBanks s) [.wb] ks :=
  Leaves.of_dict (fun p hp => by cases p <;> simp_all [Part.same, retireBanks]) rfl

/-- The entry of a swap at its boundary, before its retiring banks go free. -/
def swapped (e : WbEntry) : WbEntry := { e with banks := e.banks.map turnBank }

theorem execWbSwapBoundary_eq {s : State} {i : Nat} {e : WbEntry} {b : Bank} (h : Store.find s.wb i = some e) (hb : e.bank .next = some b) :
    execWbSwapBoundary i s = .next (retireBanks (((advanceToAir s b.fromB).bump O.wbSwaps 1).onWb i swapped)) := by
  simp only [execWbSwapBoundary, h, Option.bind_some, hb]
  rfl

end Sys2Proof.Machine
open Sys2Proof Sys2Proof.Machine Sys2Proof.Safety

/-- Settles O24: the roles of the banks through a decision (`swapDecided_bank`) and a boundary (`find_turned_front`, `retiredEntry_bank`). -/
theorem weightBankSwaps : Obligations.WeightBankSwaps := by
  unfold Obligations.WeightBankSwaps
  refine ⟨fun i e b f s h hk hb hf hn => ?_, fun i e s h hk hw => ?_, fun i e b s h hb => ?_⟩
  · obtain ⟨h1, h2⟩ := swapDecided_bank hb hf hn
    exact ⟨_, _, _, execWbSwapDecision_committed h hk hf, onWb_found (by rw [atDecision_wb, h]) _, rfl, rfl, h1, rfl, rfl, h2, rfl,
      Leaves.trans (Leaves.mono (atDecision_leaves e s) (by decide) (by simp)) (Leaves.onWb _ _ _ (by decide))⟩
  · have hl : Leaves s ((atDecision e s).onWb i fun e' => { e' with nextB := (atDecision e s).boundaryAfter e.owner e.period e.nextB })
        (.wb :: timeParts) [] :=
      Leaves.trans (Leaves.mono (atDecision_leaves e s) (by decide) (by simp)) (Leaves.onWb _ _ _ (by decide))
    refine ⟨_, { e with nextB := (atDecision e s).boundaryAfter e.owner e.period e.nextB }, execWbSwapDecision_opened h hk hw, ?_, hk, rfl, Counted.of_obj (hl.2 _ (by simp)) (raise_counted _ _ _ _ _ (by decide)),
      Indicates.of_link (hl.1 .link (by decide)) (raise_indicates _ _ _ _ _),
      Leaves.trans (Leaves.mono hl (by decide) (by simp)) (Leaves.mono (staleBank_leaves ..) (by decide) (by simp))⟩
    exact (congrArg (Store.find · i) (raise_wb ..)).trans (onWb_found (by rw [atDecision_wb, h]) _)
  · have hf : Store.find (((advanceToAir s b.fromB).bump O.wbSwaps 1).onWb i swapped).wb i = some (swapped e) :=
      onWb_found (by rw [State.bump_wb, advanceToAir_wb, h]) _
    have hc : Counted s (((advanceToAir s b.fromB).bump O.wbSwaps 1).onWb i swapped) O.wbSwaps 1 :=
      (State.onWb_obj ..).trans ((State.obj_bump_same ..).trans (by simp [State.nat]))
    refine ⟨_, _, execWbSwapBoundary_eq h hb, retireBanks_found hf, ?_, ?_, hc, ?_⟩
    · rw [retiredEntry_bank _ _ _ (by decide) (by decide)]
      exact find_turned_front hb
    · rw [retiredEntry_bank _ _ _ (by decide) (by decide)]
      exact find_turned_next _
    · have hd : ∀ p ∈ timeParts, p ∈ Part.dict :: Part.wb :: timeParts := by decide
      exact Leaves.trans (Leaves.advanceToAir _ _ hd) (Leaves.trans (Leaves.bump _ _ _ (by decide) (by decide))
        (Leaves.trans (Leaves.onWb _ _ _ (by decide)) (Leaves.mono (retireBanks_leaves _ (ks := [])) (by decide) (by simp))))
end

section
/-! SUPPORT. What a served host write leaves of its action's state, and the table of UE contexts under writes and sweeps (06). -/
namespace Sys2Proof.Machine
open Sys2Proof.Safety

/-- A served write whose action changes the dictionary and parts beside the link's is answered, and leaves every part beside the dictionary
and the link as its action did. -/
theorem hostWrite_does {x : Xfer} {key : Nat} {v : Val} {act : Action} {s u : State} {r : Reason} {ps : List Part} {ks : List Nat}
    (h : Accepts s x key v) (ha : act (atWrite s x key v) = (r, u)) (hu : Leaves (atWrite s x key v) u (.dict :: ps) ks)
    (hl : Part.link ∉ Part.dict :: ps) :
    Answers s (hostWrite x key v act s) x key v r ps ks ∧ SameBut u (hostWrite x key v act s) [.dict, .link]
      ∧ ∀ j, j ∉ [O.transfersServed, O.transfersRefused, O.busyReplies] → (hostWrite x key v act s).obj j = u.obj j := by
  obtain ⟨hans, hobj⟩ := hostWrite_answers h ha hu hl
  have hsent : u.link.sent = s.link.sent := by rw [hu.1 .link hl, atWrite_link, advance_link]
  exact ⟨hans, (hostWrite_full x key v act s u r h ha hsent).2.1, hobj⟩

/-- A write leaves every part beside its own bookkeeping as it finds it when its action runs. -/
theorem atWrite_same (s : State) (x : Xfer) (key : Nat) (v : Val) (p : Part) (h : p ∉ Part.svc :: timeParts) :
    p.same s (atWrite s x key v) := by
  refine atWrite_sameBut s x key v p fun hp => h ?_
  split at hp
  · exact List.mem_cons_of_mem _ hp
  · exact hp

@[simp] theorem atWrite_pipe (s : State) (x : Xfer) (key : Nat) (v : Val) : (atWrite s x key v).pipe = s.pipe :=
  atWrite_same s x key v .pipe (by decide)

@[simp] theorem atWrite_ue (s : State) (x : Xfer) (key : Nat) (v : Val) (i : Nat) : (atWrite s x key v).ue i = s.ue i := by
  rw [State.ue, atWrite_pipe, State.ue]

theorem Leaves.onUe (s : State) (i : Nat) (f : Ue → Ue) {ps : List Part} {ks : List Nat} (h : Part.pipe ∈ ps) :
    Leaves s (s.onUe i f) ps ks :=
  Leaves.of_dict (fun p hp => by cases p <;> simp_all [Part.same]) rfl

theorem onUe_ue (s : State) (i : Nat) (f : Ue → Ue) (k : Nat) : (s.onUe i f).ue k = if k = i then f (s.ue i) else s.ue k := by
  split
  · next h =>
    subst h
    exact Store.at_put_same ..
  · next h => exact Store.at_put_ne _ _ _ _ _ h

/-! ## A context that is written -/

theorem actUeContext_full {data : Bytes} {s : State} (h : ¬ s.nat O.ueIndex < s.nat O.ueCtxLimit) :
    actUeContext data s = (.noUeContexts, s) := if_pos (Nat.not_lt.mp h)

theorem actUeContext_ok {data : Bytes} {s : State} (h : s.nat O.ueIndex < s.nat O.ueCtxLimit) : ∃ u, actUeContext data s = (.ok, u)
    ∧ u.pipe = (s.onUe (s.nat O.ueIndex) fun u => { u with state := 1, host := data }).pipe
    ∧ Leaves s u [.dict, .pipe] [O.changeCount] := by
  have hl : Leaves s (s.onUe (s.nat O.ueIndex) fun u => { u with state := 1, host := data }) [.dict, .pipe] [O.changeCount] :=
    Leaves.onUe _ _ _ (by decide)
  refine ⟨_, if_neg (Nat.not_le.mpr h), ?_, Leaves.ite _ hl (Leaves.trans hl (Leaves.bump _ _ _ (by decide) (by decide)))⟩
  split <;> rfl

/-! ## A context that is released -/

/-- A context that waits for its courses: none of them names it. -/
def unheld (cs : Store Course) (k : Nat) : Bool := cs.all fun c => !(c.2.live && c.2.pins.contains k)

theorem unheld_iff (cs : Store Course) (k : Nat) : unheld cs k = false ↔ (cs.any fun c => c.2.live && c.2.pins.contains k) = true := by
  simp [unheld]

theorem find_filter {α : Type} {m : Store α} {p : Nat × α → Bool} {k : Nat} {v : α} (h : Store.find m k = some v) (hp : p (k, v) = true) :
    Store.find (m.filter p) k = some v := by
  induction m with
  | nil => simp [Store.find] at h
  | cons e m ih =>
    obtain ⟨a, x⟩ := e
    simp only [Store.find] at h
    simp only [List.filter_cons]
    by_cases ha : a = k
    · subst ha
      rw [if_pos rfl, Option.some.injEq] at h
      subst h
      rw [if_pos hp]
      exact if_pos rfl
    · rw [if_neg ha] at h
      split
      · simp only [Store.find, if_neg ha, ih h]
      · exact ih h

theorem find_filter_none {α : Type} {m : Store α} {p : Nat × α → Bool} {k : Nat} (h : Store.find m k = none) :
    Store.find (m.filter p) k = none := by
  induction m with
  | nil => rfl
  | cons e m ih =>
    obtain ⟨a, x⟩ := e
    simp only [Store.find] at h
    by_cases ha : a = k
    · simp [ha] at h
    · rw [if_neg ha] at h
      simp only [List.filter_cons]
      split
      · simp only [Store.find, if_neg ha, ih h]
      · exact ih h

theorem find_none_of_lt {α : Type} {m : Store α} {k : Nat} (h : ∀ e ∈ m, k < e.1) : Store.find m k = none := by
  induction m with
  | nil => rfl
  | cons e m ih =>
    simp only [List.mem_cons, forall_eq_or_imp] at h
    simp only [Store.find]
    rw [if_neg (by omega), ih h.2]

/-- A key that a filter takes out of a table of rising keys is listed no more. -/
theorem find_filter_out {α : Type} {m : Store α} {p : Nat × α → Bool} {k : Nat} {v : α} (hr : Store.rising m = true)
    (h : Store.find m k = some v) (hp : p (k, v) = false) : Store.find (m.filter p) k = none := by
  rw [Store.rising_iff] at hr
  induction m with
  | nil => rfl
  | cons e m ih =>
    obtain ⟨a, x⟩ := e
    rw [List.pairwise_cons] at hr
    simp only [Store.find] at h
    by_cases ha : a = k
    · subst ha
      rw [if_pos rfl, Option.some.injEq] at h
      subst h
      rw [List.filter_cons_of_neg (by simp [hp])]
      exact find_filter_none (find_none_of_lt hr.1)
    · rw [if_neg ha] at h
      simp only [List.filter_cons]
      split
      · simp only [Store.find, if_neg ha, ih hr.2 h]
      · exact ih hr.2 h

theorem sweepContexts_ues (s : State) : (sweepContexts s).pipe.ues = s.pipe.ues.filter fun u => !(u.2.state == 2 && unheld s.pipe.courses u.1) :=
  rfl

theorem sweepContexts_keeps {s : State} {k : Nat} (h : (s.ue k).state ≠ 2 ∨ unheld s.pipe.courses k = false) : (sweepContexts s).ue k = s.ue k := by
  rw [State.ue, sweepContexts_ues, State.ue, Store.at, Store.at]
  cases hf : Store.find s.pipe.ues k with
  | none => rw [find_filter_none hf]
  | some u =>
    rw [find_filter hf]
    simp only [State.ue, Store.at, hf, Option.getD_some] at h
    simp only [Bool.not_eq_true', Bool.and_eq_false_iff, beq_eq_false_iff_ne, ne_eq]
    exact h

theorem sweepContexts_frees {s : State} {k : Nat} {u : Ue} (hr : Store.rising s.pipe.ues = true) (h : Store.find s.pipe.ues k = some u)
    (h2 : u.state = 2) (hu : unheld s.pipe.courses k = true) : ((sweepContexts s).ue k).state = 0 := by
  rw [State.ue, sweepContexts_ues, Store.at, find_filter_out hr h (by simp [h2, hu])]
  rfl

theorem sweepContexts_leaves (s : State) {ks : List Nat} : Leaves s (sweepContexts s) [.pipe] ks :=
  Leaves.of_dict (fun p hp => by cases p <;> simp_all [Part.same, sweepContexts]) rfl

/-- The state in which a context is released, before a sweep. -/
def releasing (i : Nat) (s : State) : State := s.onUe i fun u => { u with state := 2 }

theorem releasing_ue (i : Nat) (s : State) (k : Nat) : (releasing i s).ue k = if k = i then { s.ue i with state := 2 } else s.ue k :=
  onUe_ue ..

theorem actUeRelease_active {i : Nat} {s : State} (h : (s.ue i).state = 1) :
    actUeRelease i s = (.ok, sweepContexts (releasing i s)) := if_pos (by simp [ueActive, h])

theorem actUeRelease_other {i : Nat} {s : State} (h : (s.ue i).state ≠ 1) : actUeRelease i s = (.ok, s) := if_neg (by simp [ueActive, h])

theorem release_leaves (i : Nat) (s : State) : Leaves s (sweepContexts (releasing i s)) [.dict, .pipe] [] :=
  Leaves.trans (Leaves.onUe _ _ _ (by decide)) (Leaves.mono (sweepContexts_leaves _ (ks := [])) (by decide) (by simp))

/-- A released context waits while a course names it, and is free otherwise. -/
theorem release_ue (i : Nat) (s : State) : (if unheld s.pipe.courses i = false then (sweepContexts (releasing i s)).ue i = { s.ue i with state := 2 }
    else Store.rising s.pipe.ues = true → ((sweepContexts (releasing i s)).ue i).state = 0) := by
  split
  · next h => rw [sweepContexts_keeps (s := releasing i s) (.inr h), releasing_ue, if_pos rfl]
  · next h =>
    exact fun hr => sweepContexts_frees (Store.rising_put _ _ _ hr) (Store.find_put_same ..) rfl (Bool.of_not_eq_false h)

theorem release_others (i : Nat) (s : State) {k : Nat} (hk : k ≠ i) (h2 : (s.ue k).state ≠ 2) :
    (sweepContexts (releasing i s)).ue k = s.ue k := by
  have hu : (releasing i s).ue k = s.ue k := by rw [releasing_ue, if_neg hk]
  rw [sweepContexts_keeps (.inl (by rw [hu]; exact h2)), hu]

end Sys2Proof.Machine
open Sys2Proof Sys2Proof.Machine Sys2Proof.Safety

/-- Settles O20: the table of contexts under a write (`onUe_ue`) and under the sweep that follows a release (`release_ue`). -/
theorem ueContexts : Obligations.UeContexts := by
  unfold Obligations.UeContexts
  refine ⟨fun x data s h => ⟨_, rfl, ?_⟩, fun x i s h => ⟨_, rfl, ?_⟩⟩
  · have hn : ∀ k, (atWrite s x O.ueContext (.bytes data)).nat k = s.nat k := fun k => congrArg Int.toNat (atWrite_obj ..)
    split
    · next hi =>
      obtain ⟨u, ha, hp, hl⟩ := actUeContext_ok (data := data) (s := atWrite s x O.ueContext (.bytes data)) (by rw [hn, hn]; exact hi)
      obtain ⟨hans, hsame, -⟩ := hostWrite_does h ha hl (by decide)
      have hue : ∀ k, (hostWrite x O.ueContext (.bytes data) (actUeContext data) s).ue k
          = if k = s.nat O.ueIndex then { s.ue (s.nat O.ueIndex) with state := 1, host := data } else s.ue k := fun k => by
        rw [State.ue, hsame .pipe (by decide), hp]
        exact (onUe_ue ..).trans (by simp only [hn, atWrite_ue])
      exact ⟨by rw [hue, if_pos rfl], fun k hk => by rw [hue, if_neg hk], hans⟩
    · next hi => exact (hostWrite_refused h (actUeContext_full (by rw [hn, hn]; exact hi))).1
  · split
    · next hs =>
      obtain ⟨hans, hsame, -⟩ := hostWrite_does h (actUeRelease_active (by rw [atWrite_ue]; exact hs)) (release_leaves ..) (by decide)
      have hue : ∀ k, (hostWrite x O.ueRelease (.num i) (actUeRelease i) s).ue k
          = (sweepContexts (releasing i (atWrite s x O.ueRelease (.num i)))).ue k := fun k => by
        rw [State.ue, hsame .pipe (by decide), State.ue]
      refine ⟨hans, ?_, fun k hk h2 => ?_⟩
      · have hr := release_ue i (atWrite s x O.ueRelease (.num i))
        simp only [atWrite_pipe, atWrite_ue, unheld_iff] at hr
        rw [hue]
        exact hr
      · rw [hue, release_others i _ hk (by rw [atWrite_ue]; exact h2), atWrite_ue]
    · next hs => exact (hostWrite_refused h (actUeRelease_other (by rw [atWrite_ue]; exact hs))).1
end

section
/-! SUPPORT. What the mutes of the guard change: gates, their log, their report and a detection (17 R560, R566, R567). -/
namespace Sys2Proof.Machine
open Sys2Proof.Safety

/-- The objects of the gates: levels, edges and what a full capture list loses. -/
def GateKey (k : Nat) : Prop := (∃ g < 16, k = O.txgLevel g ∨ k = O.txgEdges g) ∨ ∃ n < 8, k = O.capLost n

/-- The objects of the mutes: the gates', the report's, the log's and the event's. -/
def MuteKey (k : Nat) : Prop :=
  GateKey k ∨ k ∈ [O.carriersMuted, O.portsMuted, O.deviceMuted, O.muteLogCount, O.emissionMuteCount, O.indicationsDropped, O.faultCauses]

/-- The state in which only some parts, and only objects of some sort, have changed. -/
structure Moves (ps : List Part) (K : Nat → Prop) (s t : State) : Prop where
  same : SameBut s t ps
  obj  : ∀ k, ¬ K k → t.obj k = s.obj k

namespace Moves
variable {ps qs : List Part} {K L : Nat → Prop} {s t u : State}

theorem refl (s : State) : Moves ps K s s := ⟨SameBut.refl _ _, fun _ _ => Eq.refl _⟩

theorem trans (h1 : Moves ps K s t) (h2 : Moves ps K t u) : Moves ps K s u :=
  ⟨SameBut.trans h1.same h2.same, fun k hk => (h2.obj k hk).trans (h1.obj k hk)⟩

theorem mono (h : Moves ps K s t) (hp : ∀ p ∈ ps, p ∈ qs) (hk : ∀ k, K k → L k) : Moves qs L s t :=
  ⟨SameBut.mono h.same hp, fun k hn => h.obj k fun hK => hn (hk k hK)⟩

theorem of_leaves {ks : List Nat} (h : Leaves s t ps ks) (hk : ∀ k ∈ ks, K k) : Moves ps K s t :=
  ⟨h.1, fun k hn => h.2 k fun hm => hn (hk k hm)⟩

theorem leaves {ks : List Nat} (h : Moves ps K s t) (hk : ∀ k, K k → k ∈ ks) : Leaves s t ps ks :=
  ⟨h.same, fun k hn => h.obj k fun hK => hn (hk k hK)⟩

theorem ite (c : Prop) [Decidable c] (h1 : Moves ps K s t) (h2 : Moves ps K s u) : Moves ps K s (if c then t else u) := by
  split
  · exact h1
  · exact h2

theorem foldl {α : Type} (f : State → α → State) (l : List α) (h : ∀ a ∈ l, ∀ s, Moves ps K s (f s a)) (s : State) :
    Moves ps K s (l.foldl f s) := by
  induction l generalizing s with
  | nil => exact refl s
  | cons a l ih => exact (h a List.mem_cons_self s).trans (ih (fun b hb => h b (List.mem_cons_of_mem _ hb)) _)

theorem setObj (s : State) (k : Nat) (v : Int) (hp : Part.dict ∈ ps) (hk : K k) : Moves ps K s (s.setObj k v) :=
  of_leaves (Leaves.setObj s k v (ks := [k]) hp (by simp)) (by simpa using hk)

theorem bump (s : State) (k n : Nat) (hp : Part.dict ∈ ps) (hk : K k) : Moves ps K s (s.bump k n) := setObj s k _ hp hk

theorem change (s : State) (k : Nat) (v : Int) (hp : Part.dict ∈ ps) (hk : K k) (hc : K O.changeCount) : Moves ps K s (s.change k v) :=
  of_leaves (Leaves.change s k v (ks := [k, O.changeCount]) hp (by simp) (by simp)) (by simp [hk, hc])

theorem raise (s : State) (k u : Nat) (d : Bytes) (c : Nat) (hp : Part.dict ∈ ps) (hl : Part.link ∈ ps) (hk : K k)
    (hd : K O.indicationsDropped) : Moves ps K s (Machine.raise s k u d c) :=
  of_leaves (Leaves.raise s k u d c (ks := [k, O.indicationsDropped]) hp hl (by simp) (by simp)) (by simp [hk, hd])

theorem of_dict (h : SameBut s t ps) (hd : t.dict = s.dict) : Moves ps K s t := of_leaves (ks := []) (Leaves.of_dict h hd) nofun

theorem onGuard (s : State) (f : Guard → Guard) (hp : Part.guard ∈ ps) : Moves ps K s (s.onGuard f) :=
  of_leaves (ks := []) (Leaves.onGuard s f hp) nofun

theorem onTime (s : State) (f : TimeBase → TimeBase) (hp : Part.time ∈ ps) : Moves ps K s (s.onTime f) :=
  of_leaves (ks := []) (Leaves.onTime s f hp) nofun

theorem setBlob (s : State) (k : Nat) (v : Bytes) (hp : Part.blobs ∈ ps) : Moves ps K s (s.setBlob k v) :=
  of_leaves (ks := []) (Leaves.setBlob s k v hp) nofun

theorem setCause (bit : Nat) (s : State) (hp : Part.dict ∈ ps) (hk : K O.faultCauses) : Moves ps K s (Machine.setCause bit s) :=
  setObj s _ _ hp hk

end Moves

/-! ## Gates -/

theorem captureUnit_moves (count : Nat) {n : Nat} (hn : n < 8) (s : State) : Moves [.dict, .time] GateKey s (captureUnit count n s) := by
  unfold captureUnit
  exact Moves.ite _ (Moves.onTime _ _ (by decide)) (Moves.bump _ _ _ (by decide) (.inr ⟨n, hn, rfl⟩))

theorem capture_moves (src : Nat) (b : Bool) (count : Nat) (s : State) : Moves [.dict, .time] GateKey s (capture src b count s) :=
  Moves.foldl _ _ (fun n hn s => Moves.ite _ (captureUnit_moves count (List.mem_range.mp hn) s) (Moves.refl s)) s

theorem setGate_moves {g : Nat} (hg : g < 16) (b : Bool) (s : State) : Moves [.dict, .time] GateKey s (setGate g b s) := by
  unfold setGate
  exact Moves.ite _ (Moves.refl s) (Moves.trans (Moves.setObj _ _ _ (by decide) (.inl ⟨g, hg, .inl rfl⟩))
    (Moves.trans (Moves.bump _ _ _ (by decide) (.inl ⟨g, hg, .inr rfl⟩)) (capture_moves ..)))

theorem gatesOff_moves (s : State) : Moves [.dict, .time] GateKey s (gatesOff s) :=
  Moves.foldl _ _ (fun _ hg s => Moves.ite _ (setGate_moves (List.mem_range.mp hg) false s) (Moves.refl s)) s

/-! ## Mutes -/

theorem showMutes_moves (s : State) : Moves [.dict, .blobs] MuteKey s (showMutes s) :=
  Moves.trans (Moves.setObj _ _ _ (by decide) (.inr (by decide))) (Moves.trans (Moves.setObj _ _ _ (by decide) (.inr (by decide)))
    (Moves.trans (Moves.setBlob _ _ _ (by decide)) (Moves.setObj _ _ _ (by decide) (.inr (by decide)))))

theorem muteRecord_moves (cause scope unit event ats : Nat) (m : Int) (s : State) :
    Moves [.dict, .guard] MuteKey s (muteRecord cause scope unit event ats m s) := by
  unfold muteRecord
  exact Moves.trans (Moves.bump _ _ _ (by decide) (.inr (by decide))) (Moves.onGuard _ _ (by decide))

theorem addToMute_moves (cause : Nat) (measure : Int) (m : Mute) (s : State) : Moves [.dict, .guard] MuteKey s (addToMute cause measure m s) := by
  unfold addToMute
  exact Moves.ite _ (Moves.trans (Moves.onGuard _ _ (by decide)) (muteRecord_moves ..)) (Moves.onGuard _ _ (by decide))

theorem completeMute_moves (m : Mute) (s : State) : Moves [.dict, .guard, .link] MuteKey s (completeMute m s) := by
  unfold completeMute
  exact Moves.trans (Moves.onGuard _ _ (by decide)) (Moves.trans (Moves.foldl _ _ (fun c _ s => (muteRecord_moves ..).mono (by decide) fun _ h => h) _)
    (Moves.trans (Moves.raise _ _ _ _ _ (by decide) (by decide) (.inr (by decide)) (.inr (by decide)))
      (Moves.setCause _ _ (by decide) (.inr (by decide)))))

/-- A detection changes the guard and what reports it. -/
theorem detect_moves (cause scope unit : Nat) (measure : Int) (s : State) :
    Moves [.dict, .blobs, .guard, .link, .time] MuteKey s (detect cause scope unit measure s) := by
  unfold detect
  split
  · exact (addToMute_moves ..).mono (by decide) fun _ h => h
  · exact Moves.trans (Moves.foldl _ _ (fun m _ s => (completeMute_moves m s).mono (by decide) fun _ h => h) _)
      (Moves.trans (Moves.onGuard _ _ (by decide)) (Moves.trans ((showMutes_moves _).mono (by decide) fun _ h => h)
        ((gatesOff_moves _).mono (by decide) fun _ h => .inl h)))

end Sys2Proof.Machine
end

section
/-! SUPPORT. The coefficient banks of a chain (10 R341, R343): what a write, a commit and a check of CRCs make of a path. -/
namespace Sys2Proof.Machine
open Sys2Proof.Safety

/-! ## Chains and their paths -/

theorem onChain_chain (s : State) (c : Nat) (f : DfeChain → DfeChain) (j : Nat) :
    (s.onChain c f).chain j = if j = c then f (s.chain c) else s.chain j := by
  split
  · next h =>
    subst h
    exact Store.at_putD_same ..
  · next h => exact Store.at_putD_ne _ _ _ _ _ _ h

theorem chain_congr {s t : State} (h : t.dfe = s.dfe) (c : Nat) : t.chain c = s.chain c := by rw [State.chain, h, State.chain]

/-- A chain with one of its paths changed. -/
def DfeChain.withPath (d : DfeChain) (p : Path) (f : CoefPath → CoefPath) : DfeChain :=
  match p with
  | .tx => { d with tx := f d.tx }
  | .rx => { d with rx := f d.rx }

theorem withPath_path (d : DfeChain) (p q : Path) (f : CoefPath → CoefPath) :
    (d.withPath p f).path q = if q = p then f (d.path p) else d.path q := by
  cases p <;> cases q <;> rfl

theorem onPath_chain (s : State) (c : Nat) (p : Path) (f : CoefPath → CoefPath) (j : Nat) :
    (s.onPath c p f).chain j = if j = c then (s.chain c).withPath p f else s.chain j := onChain_chain ..

theorem onPath_same (s : State) (c : Nat) (p : Path) (f : CoefPath → CoefPath) : (s.onPath c p f).chain c = (s.chain c).withPath p f := by
  rw [onPath_chain, if_pos rfl]

theorem onPath_other (s : State) (c : Nat) (p : Path) (f : CoefPath → CoefPath) {j : Nat} (h : j ≠ c) :
    (s.onPath c p f).chain j = s.chain j := by rw [onPath_chain, if_neg h]

theorem onPath_path (s : State) (c : Nat) (p : Path) (f : CoefPath → CoefPath) :
    ((s.onPath c p f).chain c).path p = f ((s.chain c).path p) := by rw [onPath_same, withPath_path, if_pos rfl]

theorem Leaves.onPath (s : State) (c : Nat) (p : Path) (f : CoefPath → CoefPath) {ps : List Part} {ks : List Nat} (h : Part.dfe ∈ ps) :
    Leaves s (s.onPath c p f) ps ks := Leaves.onChain _ _ _ h

/-! ## Byte strings that change -/

theorem changeBlob_blob (s : State) (k : Nat) (v : Bytes) : (s.changeBlob k v).blob k = v := by
  unfold State.changeBlob
  split
  · assumption
  · exact Store.at_putD_same ..

theorem changeBlob_other (s : State) (k : Nat) (v : Bytes) {j : Nat} (h : j ≠ k) : (s.changeBlob k v).blob j = s.blob j := by
  unfold State.changeBlob
  split
  · rfl
  · exact Store.at_putD_ne _ _ _ _ _ _ h

theorem Leaves.changeBlob (s : State) (k : Nat) (v : Bytes) {ps : List Part} {ks : List Nat} (hb : Part.blobs ∈ ps) (hd : Part.dict ∈ ps)
    (hk : O.changeCount ∈ ks) : Leaves s (s.changeBlob k v) ps ks := by
  unfold State.changeBlob
  exact Leaves.ite _ (Leaves.refl ..) (Leaves.trans (Leaves.setBlob _ _ _ hb) (Leaves.bump _ _ _ hd hk))

/-! ## A write of taps -/

/-- A path with an open and written BACK. -/
def writtenPath (x : CoefPath) : CoefPath := { x with back := .opened, written := true }

/-- A path with one more write or commit that waits. -/
def heldPath (w : Option Bytes) (x : CoefPath) : CoefPath := { x with held := x.held ++ [w] }

/-- A path whose committed BACK is its FRONT at once. -/
def frontedPath (b : Bytes) (x : CoefPath) : CoefPath :=
  { x with front := b, written := false, crc := crc32 b, backCrc := crc32 b, bad := false }

/-- A path whose BACK is committed. -/
def committedPath (b : Bytes) (x : CoefPath) : CoefPath := { x with back := .committed, backCrc := crc32 b }

theorem applyTaps_write (c : Nat) (p : Path) (b : Bytes) (s : State) :
    applyTaps c p (some b) s = (s.changeBlob (tapsKey c p) b).onPath c p writtenPath := rfl

theorem applyTaps_commit_idle {c : Nat} {p : Path} {s : State} (h : ((s.chain c).path p).back = .opened) (hu : s.obj (O.dfeUser c) = 0xFF) :
    applyTaps c p none s = s.onPath c p (frontedPath (s.blob (tapsKey c p))) := by
  rw [applyTaps, if_pos h]
  exact if_pos (beq_iff_eq.mpr hu)

theorem applyTaps_commit_used {c : Nat} {p : Path} {s : State} (h : ((s.chain c).path p).back = .opened) (hu : s.obj (O.dfeUser c) ≠ 0xFF) :
    applyTaps c p none s = s.onPath c p (committedPath (s.blob (tapsKey c p))) := by
  rw [applyTaps, if_pos h]
  exact if_neg (by simpa using hu)

theorem applyTaps_commit_none {c : Nat} {p : Path} {s : State} (h : ((s.chain c).path p).back ≠ .opened) : applyTaps c p none s = s := if_neg h

theorem reachTaps_busy {c : Nat} {p : Path} {w : Option Bytes} {s : State} (h : ((s.chain c).path p).busy = true) :
    reachTaps c p w s = s.onPath c p (heldPath w) := if_pos h

theorem reachTaps_free {c : Nat} {p : Path} {w : Option Bytes} {s : State} (h : ((s.chain c).path p).busy = false) :
    reachTaps c p w s = applyTaps c p w s := if_neg (by simp [h])

theorem applyTaps_leaves (c : Nat) (p : Path) (w : Option Bytes) (s : State) : Leaves s (applyTaps c p w s) [.dict, .blobs, .dfe] [O.changeCount] := by
  cases w with
  | some b => exact Leaves.trans (Leaves.changeBlob _ _ _ (by decide) (by decide) (by decide)) (Leaves.onPath _ _ _ _ (by decide))
  | none =>
    unfold applyTaps
    exact Leaves.ite _ (Leaves.ite _ (Leaves.onPath _ _ _ _ (by decide)) (Leaves.onPath _ _ _ _ (by decide))) (Leaves.refl ..)

theorem reachTaps_leaves (c : Nat) (p : Path) (w : Option Bytes) (s : State) : Leaves s (reachTaps c p w s) [.dict, .blobs, .dfe] [O.changeCount] :=
  Leaves.ite _ (Leaves.onPath _ _ _ _ (by decide)) (applyTaps_leaves ..)

/-- A commit changes no byte string and no object. -/
theorem reachCommit_leaves (c : Nat) (p : Path) (s : State) {ks : List Nat} : Leaves s (reachTaps c p none s) [.dict, .dfe] ks :=
  Leaves.ite _ (Leaves.onPath _ _ _ _ (by decide))
    (Leaves.ite _ (Leaves.ite _ (Leaves.onPath _ _ _ _ (by decide)) (Leaves.onPath _ _ _ _ (by decide))) (Leaves.refl ..))

theorem reachTaps_others (c : Nat) (p : Path) (w : Option Bytes) (s : State) {j : Nat} (h : j ≠ c) : (reachTaps c p w s).chain j = s.chain j := by
  unfold reachTaps
  split
  · exact onPath_other _ _ _ _ h
  · cases w with
    | some b => exact (onPath_other _ _ _ _ h).trans (chain_congr (State.changeBlob_dfe ..) j)
    | none =>
      by_cases ho : ((s.chain c).path p).back = .opened
      · by_cases hu : s.obj (O.dfeUser c) = 0xFF
        · rw [applyTaps_commit_idle ho hu, onPath_other _ _ _ _ h]
        · rw [applyTaps_commit_used ho hu, onPath_other _ _ _ _ h]
      · rw [applyTaps_commit_none ho]

/-- Whether a path takes taps depends on the objects of its chain. -/
theorem tapsValid_congr {s t : State} (h : ∀ k, t.obj k = s.obj k) (c : Nat) (b : Bytes) : tapsValid t c b = tapsValid s c b := by
  have hn : ∀ k, t.nat k = s.nat k := fun k => congrArg Int.toNat (h k)
  unfold tapsValid State.chainRate State.gang
  simp only [h, hn]

theorem actTaps_ok {c : Nat} {p : Path} {b : Bytes} {s : State} (h4 : b.length % 4 = 0) (hv : tapsValid s c b = true)
    (hu : s.obj (O.dfeUser c) = 0xFF ∨ tapCount b = tapCount ((s.chain c).path p).front) :
    actTaps c p b s = (.ok, reachTaps c p (some b) s) := by
  rw [actTaps, if_neg (by simp [h4]), if_neg (by simp [hv]), if_neg (by
    rw [Bool.and_eq_true, bne_iff_ne, bne_iff_ne]
    exact fun ⟨h1, h2⟩ => hu.elim h1 h2)]

theorem actTaps_invalid {c : Nat} {p : Path} {b : Bytes} {s : State} (h4 : b.length % 4 = 0) (hv : tapsValid s c b = false) :
    actTaps c p b s = (.badCoefficients, s) := by
  rw [actTaps, if_neg (by simp [h4]), if_pos (by simp [hv])]

@[simp] theorem atWrite_chain (s : State) (x : Xfer) (key : Nat) (v : Val) (c : Nat) : (atWrite s x key v).chain c = s.chain c :=
  chain_congr (atWrite_same s x key v .dfe (by decide)) c

/-! ## The check of CRCs -/

/-- The exec's own state where a check fails on a receive path. -/
def failedRx (c : Nat) (s : State) : State := (takeCrcInjection c s).bump (O.coefCrcErrors c) 1

theorem failedRx_chain (c : Nat) (s : State) (j : Nat) : (failedRx c s).chain j = s.chain j := rfl

theorem failedRx_leaves (c : Nat) (s : State) : Leaves s (failedRx c s) [.dict, .guard] [O.coefCrcErrors c] :=
  Leaves.trans (Leaves.onGuard _ _ (by decide)) (Leaves.bump _ _ _ (by decide) (by simp))

theorem failedRx_counted (c : Nat) (s : State) : Counted s (failedRx c s) (O.coefCrcErrors c) 1 := State.obj_bump_same ..

theorem execCoefCrcCheck_rx {c : Nat} {ok : Bool} {s : State} (hc : c < 128) :
    execCoefCrcCheck c .rx ok s = .next (if ((checkCrcs c .rx ok s).chain c).rx.fails = true then failedRx c (checkCrcs c .rx ok s)
      else checkCrcs c .rx ok s) := by
  unfold execCoefCrcCheck
  rw [if_neg (show ¬ 128 ≤ c from Nat.not_le.mpr hc)]
  dsimp only
  by_cases h : ((checkCrcs c .rx ok s).chain c).rx.fails = true
  · rw [if_pos h, if_pos (by simp [DfeChain.path, h])]
    rfl
  · rw [if_neg h, if_neg (by simp [DfeChain.path, h])]

theorem execCoefCrcCheck_tx {c : Nat} {ok : Bool} {s : State} (hc : c < 128) (h : ((checkCrcs c .tx ok s).chain c).tx.fails = true) :
    execCoefCrcCheck c .tx ok s = .next (if (failedRx c (checkCrcs c .tx ok s)).gangCarrier c < 64
      then detect 4 0 ((failedRx c (checkCrcs c .tx ok s)).gangCarrier c) c (failedRx c (checkCrcs c .tx ok s))
      else failedRx c (checkCrcs c .tx ok s)) := by
  unfold execCoefCrcCheck
  rw [if_neg (show ¬ 128 ≤ c from Nat.not_le.mpr hc)]
  dsimp only
  rw [if_pos (by simp [DfeChain.path, h])]
  rfl

/-- A path of which the check found both banks as told. -/
def markedPath (front back : Bool) (x : CoefPath) : CoefPath := { x with bad := front, backBad := back }

theorem checkCrcs_turned {c : Nat} {p : Path} {s : State} (h : ((s.chain c).path p).fading = false) :
    checkCrcs c p false s = s.onPath c p (markedPath true false) := by
  simp only [checkCrcs, h, Bool.false_eq_true, if_false]
  rfl

theorem checkCrcs_fading {c : Nat} {p : Path} {s : State} (h : ((s.chain c).path p).fading = true) :
    ∃ f b, checkCrcs c p false s = s.free.2.onPath c p (markedPath f b) ∧ (f = true ∨ b = true) := by
  refine ⟨crc32 ((s.chain c).path p).front != ((s.chain c).path p).crc || s.free.1.toNat % 3 != 1, ?_⟩
  refine ⟨(true && crc32 (s.blob (tapsKey c p)) != ((s.chain c).path p).backCrc) || s.free.1.toNat % 3 != 0, ?_, ?_⟩
  · simp only [checkCrcs, h, Bool.false_eq_true, if_false, if_true]
    rfl
  · by_cases h1 : s.free.1.toNat % 3 = 1
    · exact .inr (by simp [h1])
    · exact .inl (by simp [h1])

theorem checkCrcs_sound {c : Nat} {p : Path} {s : State} (hf : crc32 ((s.chain c).path p).front = ((s.chain c).path p).crc)
    (hb : ((s.chain c).path p).fading = true → crc32 (s.blob (tapsKey c p)) = ((s.chain c).path p).backCrc) :
    checkCrcs c p true s = s.onPath c p (markedPath false false) := by
  have h1 : (crc32 ((s.chain c).path p).front != ((s.chain c).path p).crc) = false := by simp [hf]
  have h2 : (((s.chain c).path p).fading && crc32 (s.blob (tapsKey c p)) != ((s.chain c).path p).backCrc) = false := by
    cases h : ((s.chain c).path p).fading
    · rfl
    · simp [hb h]
  simp only [checkCrcs, h1, h2, if_true]
  rfl

/-- The objects of mutes are none that counts the CRC errors of a chain. -/
theorem coefCrcErrors_noMute {c : Nat} (hc : c < 128) : ¬ MuteKey (O.coefCrcErrors c) := by
  rintro ((⟨g, hg, h | h⟩ | ⟨n, hn, h⟩) | h)
  · simp only [O.coefCrcErrors, O.txgLevel] at h
    omega
  · simp only [O.coefCrcErrors, O.txgEdges] at h
    omega
  · simp only [O.coefCrcErrors, O.capLost] at h
    omega
  · simp only [O.coefCrcErrors, O.carriersMuted, O.portsMuted, O.deviceMuted, O.muteLogCount, O.emissionMuteCount, O.indicationsDropped,
      O.faultCauses, List.mem_cons, List.not_mem_nil, or_false] at h
    omega

end Sys2Proof.Machine
open Sys2Proof Sys2Proof.Machine Sys2Proof.Safety

/-- Settles O30: what reaches a path acts or waits (`reachTaps_free`, `reachTaps_busy`), and what a check makes of its banks
(`checkCrcs_turned`, `checkCrcs_fading`, `checkCrcs_sound`). -/
theorem filterBankWrites : Obligations.FilterBankWrites := by
  unfold Obligations.FilterBankWrites
  refine ⟨fun x c p data s hc h h4 hv hu => ?_, fun x c p data s hc h h4 hv => ?_, fun x c p s hc h hb ho => ?_, fun x c p s hc h hb => ?_,
    fun c p s hc hf => ?_, fun c s hc hf => ?_, fun c s hc hf hb => ?_⟩
  · refine ⟨_, if_neg (Nat.not_le.mpr hc), ?_⟩
    have ha := actTaps_ok (p := p) h4 ((tapsValid_congr (fun k => atWrite_obj s x (tapsKey c p) (.bytes data) k) c data).trans hv)
      (by rw [atWrite_obj, atWrite_chain]; exact hu)
    obtain ⟨hans, hsame, -⟩ := hostWrite_does (ps := [.blobs, .dfe]) h ha (reachTaps_leaves ..) (by decide)
    have hch : ∀ j, (hostWrite x (tapsKey c p) (.bytes data) (actTaps c p data) s).chain j
        = (reachTaps c p (some data) (atWrite s x (tapsKey c p) (.bytes data))).chain j := chain_congr (hsame .dfe (by decide))
    refine ⟨?_, fun j hj => by rw [hch, reachTaps_others _ _ _ _ hj, atWrite_chain], hans⟩
    rw [hch, State.blob_congr (hsame .blobs (by decide))]
    split
    · next hbusy =>
      rw [reachTaps_busy (by rw [atWrite_chain]; exact hbusy), onPath_path, atWrite_chain]
      exact ⟨rfl, atWrite_blob ..⟩
    · next hbusy =>
      rw [reachTaps_free (by rw [atWrite_chain]; simpa using hbusy), applyTaps_write, onPath_path,
        chain_congr (State.changeBlob_dfe ..), atWrite_chain]
      exact ⟨rfl, changeBlob_blob ..⟩
  · exact ⟨_, if_neg (Nat.not_le.mpr hc), (hostWrite_refused h (actTaps_invalid h4
      ((tapsValid_congr (fun k => atWrite_obj s x (tapsKey c p) (.bytes data) k) c data).trans hv))).1⟩
  · refine ⟨_, if_neg (Nat.not_le.mpr hc), ?_⟩
    obtain ⟨hans, hsame, -⟩ := hostWrite_does (ps := [.dfe]) (ks := []) (act := actTapsCommit c p) h rfl (reachCommit_leaves ..) (by decide)
    have hch : ∀ j, (hostWrite x (commitKey c p) (.num 1) (actTapsCommit c p) s).chain j
        = (reachTaps c p none (atWrite s x (commitKey c p) (.num 1))).chain j := chain_congr (hsame .dfe (by decide))
    refine ⟨?_, fun j hj => by rw [hch, reachTaps_others _ _ _ _ hj, atWrite_chain], hans⟩
    rw [hch, reachTaps_free (by rw [atWrite_chain]; exact hb)]
    split
    · next hu =>
      rw [applyTaps_commit_idle (by rw [atWrite_chain]; exact ho) (by rw [atWrite_obj]; exact hu), onPath_path, atWrite_chain, atWrite_blob]
      rfl
    · next hu =>
      rw [applyTaps_commit_used (by rw [atWrite_chain]; exact ho) (by rw [atWrite_obj]; exact hu), onPath_path, atWrite_chain, atWrite_blob]
      rfl
  · refine ⟨_, if_neg (Nat.not_le.mpr hc), ?_⟩
    obtain ⟨hans, hsame, -⟩ := hostWrite_does (ps := [.dfe]) (ks := []) (act := actTapsCommit c p) h rfl (reachCommit_leaves ..) (by decide)
    refine ⟨hans, ?_⟩
    rw [chain_congr (hsame .dfe (by decide))]
    split
    · next hbusy =>
      rw [reachTaps_busy (by rw [atWrite_chain]; exact hbusy), onPath_path, atWrite_chain]
      rfl
    · next hbusy =>
      rw [reachTaps_free (by rw [atWrite_chain]; simpa using hbusy),
        applyTaps_commit_none (by rw [atWrite_chain]; exact hb.resolve_left hbusy), atWrite_chain]
  · cases p with
    | rx =>
      have hk := checkCrcs_turned (p := .rx) hf
      have hch := onPath_same s c .rx (markedPath true false)
      refine ⟨_, (execCoefCrcCheck_rx hc).trans (congrArg Host.Outcome.next (if_pos ?_)), ?_, fun _ => ⟨?_, ?_, ?_⟩⟩
      · rw [hk, hch]
        rfl
      · rw [hk]
        exact failedRx_counted ..
      · rw [hk, failedRx_chain, hch]
        rfl
      · rw [hk, failedRx_chain, hch]
        rfl
      · rw [hk]
        exact Leaves.trans (Leaves.onPath _ _ _ _ (by decide)) (Leaves.mono (failedRx_leaves ..) (by decide) (by simp))
    | tx =>
      have hk := checkCrcs_turned (p := .tx) hf
      refine ⟨_, execCoefCrcCheck_tx hc ?_, ?_, nofun⟩
      · rw [hk, onPath_same]
        rfl
      · rw [hk]
        have hcnt := failedRx_counted c (s.onPath c .tx (markedPath true false))
        split
        · exact ((detect_moves ..).obj _ (coefCrcErrors_noMute hc)).trans hcnt
        · exact hcnt
  · obtain ⟨f, b, hk, hfb⟩ := checkCrcs_fading (p := .rx) hf
    have hch := (onPath_same s.free.2 c .rx (markedPath f b))
    have hfade : ((s.free.2.onPath c .rx (markedPath f b)).chain c).rx.fading = true := by
      rw [hch]
      exact hf
    refine ⟨_, (execCoefCrcCheck_rx hc).trans (congrArg Host.Outcome.next (if_pos ?_)), ?_, ?_, ?_⟩
    · rw [hk, CoefPath.fails, hfade, hch]
      rcases hfb with rfl | rfl
      · rfl
      · simp [DfeChain.withPath, markedPath]
    · rw [hk]
      exact failedRx_counted ..
    · rw [hk, failedRx_chain, hch]
      exact hfb
    · rw [hk]
      exact Leaves.trans (Leaves.free _ (by decide)) (Leaves.trans (Leaves.onPath _ _ _ _ (by decide))
        (Leaves.mono (failedRx_leaves ..) (by decide) (by simp)))
  · have hk := checkCrcs_sound (p := .rx) hf hb
    have hch := onPath_same s c .rx (markedPath false false)
    refine ⟨_, (execCoefCrcCheck_rx hc).trans (congrArg Host.Outcome.next (if_neg ?_)), ?_, ?_⟩
    · rw [hk, hch]
      simp [DfeChain.withPath, markedPath, CoefPath.fails]
    · rw [hk, hch]
      rfl
    · rw [hk]
      exact Leaves.onPath _ _ _ _ (by decide)
end

section
/-! SUPPORT. The cross-fades of a chain (10 R342): the decision, the start, the end and the copy of a path, each leaving the other path. -/
namespace Sys2Proof.Machine
open Sys2Proof.Safety

/-- The other path of a chain. -/
theorem onPath_path_other (s : State) (c : Nat) (p q : Path) (f : CoefPath → CoefPath) (h : q ≠ p) :
    ((s.onPath c p f).chain c).path q = (s.chain c).path q := by rw [onPath_same, withPath_path, if_neg h]

theorem tapsKey_ne {c : Nat} {p q : Path} (h : q ≠ p) : tapsKey c q ≠ tapsKey c p := by
  cases p <;> cases q <;> simp_all [tapsKey, O.txTaps, O.rxTaps]

@[simp] theorem advanceToAir_dfe (s : State) (a : Int) : (advanceToAir s a).dfe = s.dfe :=
  (Leaves.advanceToAir s a (ps := timeParts) (ks := []) (fun _ h => h)).1 .dfe (by decide)

@[simp] theorem advanceToAir_blobs (s : State) (a : Int) : (advanceToAir s a).blobs = s.blobs :=
  (Leaves.advanceToAir s a (ps := timeParts) (ks := []) (fun _ h => h)).1 .blobs (by decide)

@[simp] theorem advanceToAir_chain (s : State) (a : Int) (c : Nat) : (advanceToAir s a).chain c = s.chain c :=
  chain_congr (advanceToAir_dfe s a) c

@[simp] theorem advanceToAir_blob (s : State) (a : Int) (k : Nat) : (advanceToAir s a).blob k = s.blob k :=
  State.blob_congr (advanceToAir_blobs s a) k

@[simp] theorem onPath_blob (s : State) (c : Nat) (p : Path) (f : CoefPath → CoefPath) (k : Nat) : (s.onPath c p f).blob k = s.blob k := rfl

@[simp] theorem changeBlob_chain (s : State) (k : Nat) (v : Bytes) (c : Nat) : (s.changeBlob k v).chain c = s.chain c :=
  chain_congr (State.changeBlob_dfe ..) c

/-! ## The decision -/

/-- The boundary that a decision tests. -/
def testedBoundary (c : Nat) (s : State) : Int :=
  swapBoundary (s.nat (O.coefSwapPeriod c)) (max (s.chain c).tested (s.airNow + coefLead - 1))

/-- The state at the decision instant of a boundary. -/
def atTest (c : Nat) (b : Int) (s : State) : State := (advanceToAir s (b - coefLead)).onChain c fun d => { d with tested := b }

theorem atTest_leaves (c : Nat) (b : Int) (s : State) : Leaves s (atTest c b s) (.dfe :: timeParts) [] :=
  Leaves.trans (Leaves.advanceToAir _ _ (by decide)) (Leaves.onChain _ _ _ (by decide))

theorem atTest_chain (c : Nat) (b : Int) (s : State) : (atTest c b s).chain c = { s.chain c with tested := b } := by
  rw [atTest, onChain_chain, if_pos rfl, advanceToAir_chain]

theorem atTest_path (c : Nat) (b : Int) (s : State) (p : Path) : ((atTest c b s).chain c).path p = (s.chain c).path p := by
  rw [atTest_chain]
  cases p <;> rfl

/-- A path that is decided for a boundary. -/
def decidedPath (b : Int) (x : CoefPath) : CoefPath := { x with decided := true, fadeAt := b }

theorem decidePath_committed {c : Nat} {b next : Int} {p : Path} {s : State} (h : ((s.chain c).path p).back = .committed) :
    decidePath c b next p s = s.onPath c p (decidedPath b) := by
  simp only [decidePath, h]
  rfl

theorem decidePath_unwritten {c : Nat} {b next : Int} {p : Path} {s : State} (h : ((s.chain c).path p).back = .opened)
    (hw : ((s.chain c).path p).written = false) : decidePath c b next p s = s := by
  simp only [decidePath, h, hw, Bool.false_eq_true, if_false]

theorem decidePath_stale {c : Nat} {b next : Int} {p : Path} {s : State} (h : ((s.chain c).path p).back = .opened)
    (hw : ((s.chain c).path p).written = true) : decidePath c b next p s = staleTaps c p 0 b next s := by
  simp only [decidePath, h, hw, if_true]

/-- A decision leaves the other path. -/
theorem decidePath_other (c : Nat) (b next : Int) (p q : Path) (s : State) (h : q ≠ p) :
    ((decidePath c b next p s).chain c).path q = (s.chain c).path q := by
  have hs : ∀ cause, ((staleTaps c p cause b next s).chain c) = s.chain c := fun cause => chain_congr (raise_dfe ..) c
  unfold decidePath
  split
  · exact onPath_path_other _ _ _ _ _ h
  · rw [hs]
  · split
    · rw [hs]
    · rfl

theorem execCoefSwapDecision_eq {c : Nat} {s : State} (hc : c < 128) (h : s.airRunning = true) :
    execCoefSwapDecision c s = .next (decidePath c (testedBoundary c s) (swapBoundary (s.nat (O.coefSwapPeriod c)) (testedBoundary c s)) .rx
      (decidePath c (testedBoundary c s) (swapBoundary (s.nat (O.coefSwapPeriod c)) (testedBoundary c s)) .tx
        (atTest c (testedBoundary c s) s))) := by
  rw [execCoefSwapDecision, if_neg (show ¬ 128 ≤ c from Nat.not_le.mpr hc), if_neg (by simp [h])]
  rfl

theorem execCoefSwapDecision_still {c : Nat} {s : State} (hc : c < 128) (h : s.airRunning = false) :
    execCoefSwapDecision c s = .next s := by
  rw [execCoefSwapDecision, if_neg (show ¬ 128 ≤ c from Nat.not_le.mpr hc), if_pos (by simp [h])]

theorem staleCount_key {c : Nat} (hc : c < 128) : O.staleCount c ≠ O.indicationsDropped := by
  simp only [O.staleCount, O.indicationsDropped, ne_eq]
  omega

/-! ## The start of a fade -/

/-- A path whose fade has begun. -/
def fadedPath (s : State) (c : Nat) (x : CoefPath) : CoefPath :=
  { x with decided := false, fading := true, fadeEnd := x.fadeAt + fadeSpan s c, fadeLen := s.nat (O.xfadeSamples c), backBad := false }

theorem startFade_decided {c : Nat} {p : Path} {s : State} (h : ((s.chain c).path p).decided = true) :
    startFade c p s = s.onPath c p (fadedPath s c) := by
  rw [startFade]
  rw [if_pos h]
  rfl

theorem startFade_undecided {c : Nat} {p : Path} {s : State} (h : ((s.chain c).path p).decided = false) : startFade c p s = s := by
  rw [startFade]
  rw [if_neg (by simp [h])]

theorem startFade_other (c : Nat) (p q : Path) (s : State) (h : q ≠ p) : ((startFade c p s).chain c).path q = (s.chain c).path q := by
  by_cases hd : ((s.chain c).path p).decided = true
  · rw [startFade_decided hd, onPath_path_other _ _ _ _ _ h]
  · rw [startFade_undecided (by simpa using hd)]

theorem startFade_obj (c : Nat) (p : Path) (s : State) (k : Nat) : (startFade c p s).obj k = s.obj k := by
  by_cases hd : ((s.chain c).path p).decided = true
  · rw [startFade_decided hd, State.onPath_obj]
  · rw [startFade_undecided (by simpa using hd)]

/-- The state at which a fade of a chain begins. -/
def atFade (c : Nat) (s : State) : State :=
  advanceToAir s (if (s.chain c).tx.decided then (s.chain c).tx.fadeAt else (s.chain c).rx.fadeAt)

theorem execCoefFadeStart_eq {c : Nat} {s : State} (hc : c < 128) :
    execCoefFadeStart c s = .next (if ((s.chain c).tx.decided || (s.chain c).rx.decided) = true
      then startFade c .rx (startFade c .tx (atFade c s)) else s) := by
  rw [execCoefFadeStart, if_neg (show ¬ 128 ≤ c from Nat.not_le.mpr hc)]
  dsimp only
  split <;> rfl

theorem fadeSpan_congr {s t : State} (h : ∀ k, t.obj k = s.obj k) (c : Nat) : fadeSpan t c = fadeSpan s c := by
  have hn : ∀ k, t.nat k = s.nat k := fun k => congrArg Int.toNat (h k)
  unfold fadeSpan State.chainRate
  simp only [h, hn]

theorem atFade_leaves (c : Nat) (s : State) : Leaves s (atFade c s) timeParts [] := Leaves.advanceToAir _ _ (by decide)

/-! ## The end of a fade -/

/-- A path whose fade has ended: what was its BACK is its FRONT, and the copy begins. -/
def swappedPath (b : Bytes) (x : CoefPath) : CoefPath :=
  { x with front := b, fading := false, back := BackState.copying, written := false, crc := x.backCrc, bad := x.backBad, backBad := false }

theorem endFade_fading {c : Nat} {p : Path} {s : State} (h : ((s.chain c).path p).fading = true) :
    endFade c p s = (s.changeBlob (tapsKey c p) ((s.chain c).path p).front).onPath c p (swappedPath (s.blob (tapsKey c p))) := by
  rw [endFade]
  dsimp only
  rw [if_pos h]
  rfl

theorem endFade_still {c : Nat} {p : Path} {s : State} (h : ((s.chain c).path p).fading = false) : endFade c p s = s := by
  rw [endFade]
  dsimp only
  rw [if_neg (by simp [h])]

theorem endFade_other (c : Nat) (p q : Path) (s : State) (h : q ≠ p) : ((endFade c p s).chain c).path q = (s.chain c).path q
    ∧ (endFade c p s).blob (tapsKey c q) = s.blob (tapsKey c q) := by
  by_cases hd : ((s.chain c).path p).fading = true
  · rw [endFade_fading hd, onPath_path_other _ _ _ _ _ h, changeBlob_chain, onPath_blob, changeBlob_other _ _ _ (tapsKey_ne h)]
    exact ⟨rfl, rfl⟩
  · rw [endFade_still (by simpa using hd)]
    exact ⟨rfl, rfl⟩

/-- What the end of its fade makes of a path. -/
theorem endFade_path {c : Nat} {p : Path} {s : State} (h : ((s.chain c).path p).fading = true) :
    ((endFade c p s).chain c).path p = swappedPath (s.blob (tapsKey c p)) ((s.chain c).path p)
      ∧ (endFade c p s).blob (tapsKey c p) = ((s.chain c).path p).front := by
  rw [endFade_fading h, onPath_path, changeBlob_chain, onPath_blob, changeBlob_blob]
  exact ⟨rfl, rfl⟩

/-- The state at which a fade of a chain ends. -/
def atFadeEnd (c : Nat) (s : State) : State :=
  advanceToAir s (if (s.chain c).tx.fading then (s.chain c).tx.fadeEnd else (s.chain c).rx.fadeEnd)

theorem execCoefFadeEnd_eq {c : Nat} {s : State} (hc : c < 128) :
    execCoefFadeEnd c s = .next (if ((s.chain c).tx.fading || (s.chain c).rx.fading) = true
      then endFade c .rx (endFade c .tx (atFadeEnd c s)) else s) := by
  rw [execCoefFadeEnd, if_neg (show ¬ 128 ≤ c from Nat.not_le.mpr hc)]
  dsimp only
  split <;> rfl

theorem atFadeEnd_leaves (c : Nat) (s : State) : Leaves s (atFadeEnd c s) timeParts [] := Leaves.advanceToAir _ _ (by decide)

/-! ## The copy -/

/-- A path whose copy is done. -/
def copiedPath (x : CoefPath) : CoefPath := { x with back := BackState.opened, written := false, held := [], backCrc := x.crc }

/-- The state in which the copy of a path is done, before what waited acts. -/
def copied (c : Nat) (p : Path) (s : State) : State :=
  (s.changeBlob (tapsKey c p) ((s.chain c).path p).front).onPath c p copiedPath

theorem copyDone_copying {c : Nat} {p : Path} {s : State} (h : ((s.chain c).path p).back = .copying) :
    copyDone c p s = ((s.chain c).path p).held.foldl (fun s w => applyTaps c p w s) (copied c p s) := by
  rw [copyDone]
  dsimp only
  rw [if_pos h]
  rfl

theorem copyDone_still {c : Nat} {p : Path} {s : State} (h : ((s.chain c).path p).back ≠ .copying) : copyDone c p s = s := by
  rw [copyDone]
  dsimp only
  rw [if_neg h]

theorem applyTaps_other (c : Nat) (p q : Path) (w : Option Bytes) (s : State) (h : q ≠ p) :
    ((applyTaps c p w s).chain c).path q = (s.chain c).path q := by
  cases w with
  | some b => rw [applyTaps_write, onPath_path_other _ _ _ _ _ h, changeBlob_chain]
  | none =>
    by_cases ho : ((s.chain c).path p).back = .opened
    · by_cases hu : s.obj (O.dfeUser c) = 0xFF
      · rw [applyTaps_commit_idle ho hu, onPath_path_other _ _ _ _ _ h]
      · rw [applyTaps_commit_used ho hu, onPath_path_other _ _ _ _ _ h]
    · rw [applyTaps_commit_none ho]

/-- What waited leaves a path with a BACK that is not copied, and with nothing that waits. -/
theorem applyTaps_settled (c : Nat) (p : Path) (w : Option Bytes) (s : State) (hb : ((s.chain c).path p).back ≠ .copying)
    (hh : ((s.chain c).path p).held = []) :
    (((applyTaps c p w s).chain c).path p).back ≠ .copying ∧ (((applyTaps c p w s).chain c).path p).held = [] := by
  cases w with
  | some b =>
    rw [applyTaps_write, onPath_path, changeBlob_chain]
    exact ⟨nofun, hh⟩
  | none =>
    by_cases ho : ((s.chain c).path p).back = .opened
    · by_cases hu : s.obj (O.dfeUser c) = 0xFF
      · rw [applyTaps_commit_idle ho hu, onPath_path]
        exact ⟨hb, hh⟩
      · rw [applyTaps_commit_used ho hu, onPath_path]
        exact ⟨nofun, hh⟩
    · rw [applyTaps_commit_none ho]
      exact ⟨hb, hh⟩

theorem foldl_applyTaps_settled (c : Nat) (p : Path) (l : List (Option Bytes)) (s : State) (hb : ((s.chain c).path p).back ≠ .copying)
    (hh : ((s.chain c).path p).held = []) :
    (((l.foldl (fun s w => applyTaps c p w s) s).chain c).path p).back ≠ .copying
      ∧ (((l.foldl (fun s w => applyTaps c p w s) s).chain c).path p).held = [] := by
  induction l generalizing s with
  | nil => exact ⟨hb, hh⟩
  | cons w l ih =>
    obtain ⟨h1, h2⟩ := applyTaps_settled c p w s hb hh
    exact ih _ h1 h2

theorem copied_path (c : Nat) (p : Path) (s : State) : ((copied c p s).chain c).path p = copiedPath ((s.chain c).path p) := by
  rw [copied, onPath_path, changeBlob_chain]

theorem copyDone_path {c : Nat} {p : Path} {s : State} (h : ((s.chain c).path p).back = .copying) :
    (((copyDone c p s).chain c).path p).back ≠ .copying ∧ (((copyDone c p s).chain c).path p).held = [] := by
  rw [copyDone_copying h]
  exact foldl_applyTaps_settled _ _ _ _ (by rw [copied_path]; exact nofun) (by rw [copied_path]; rfl)

theorem copyDone_other (c : Nat) (p q : Path) (s : State) (h : q ≠ p) : ((copyDone c p s).chain c).path q = (s.chain c).path q := by
  by_cases hb : ((s.chain c).path p).back = .copying
  · rw [copyDone_copying hb]
    refine (foldl_proj (fun s => (s.chain c).path q) (fun w s => applyTaps_other c p q w s h) _ _).trans ?_
    rw [copied, onPath_path_other _ _ _ _ _ h, changeBlob_chain]
  · rw [copyDone_still hb]

theorem execCoefCopyComplete_eq {c : Nat} {s : State} (hc : c < 128) :
    execCoefCopyComplete c s = .next (copyDone c .rx (copyDone c .tx s)) := if_neg (Nat.not_le.mpr hc)

/-- What is done to the paths of a chain in turn, the transmit path first, each leaving the other, is done to each. -/
theorem both_paths {c : Nat} {f : Path → State → State} {G : Path → State → CoefPath → Prop} (u : State)
    (hf : ∀ p q s, q ≠ p → ((f p s).chain c).path q = (s.chain c).path q) (p : Path)
    (h : ∀ s, (s.chain c).path p = (u.chain c).path p → G p s (((f p s).chain c).path p)) :
    ∃ s, G p s (((f .rx (f .tx u)).chain c).path p) ∧ (s = u ∨ s = f .tx u) := by
  cases p with
  | tx =>
    refine ⟨u, ?_, .inl rfl⟩
    rw [hf .rx .tx _ nofun]
    exact h u rfl
  | rx => exact ⟨f .tx u, h _ (hf .tx .rx u nofun), .inr rfl⟩

end Sys2Proof.Machine
open Sys2Proof Sys2Proof.Machine Sys2Proof.Safety

/-- Settles O31: each step of a fade on its path (`decidePath_committed`, `startFade_decided`, `endFade_path`, `copyDone_path`), the other
left as it was. -/
theorem filterSwaps : Obligations.FilterSwaps := by
  unfold Obligations.FilterSwaps
  refine ⟨fun c b s hc ha hb ht ho hw => ?_, fun c b s hc ha hb ht htw ho hw => ?_, fun c s hc ht hr => ?_, fun c s hc ht hr => ?_,
    fun c s hc ht hh hr => ?_, fun c s hc => ⟨?_, ?_, ?_, ?_⟩⟩
  · obtain rfl : b = testedBoundary c s := hb
    have htx := decidePath_committed (c := c) (b := testedBoundary c s) (p := .tx)
      (next := swapBoundary (s.nat (O.coefSwapPeriod c)) (testedBoundary c s)) (s := atTest c (testedBoundary c s) s)
      (by rw [atTest_path]; exact ht)
    have hrx : (((atTest c (testedBoundary c s) s).onPath c .tx (decidedPath (testedBoundary c s))).chain c).path .rx = (s.chain c).rx := by
      rw [onPath_path_other _ _ .tx .rx _ nofun, atTest_path]
      rfl
    refine ⟨_, execCoefSwapDecision_eq hc ha, ?_, ?_⟩
    · rw [htx, decidePath_unwritten (by rw [hrx, ho]) (by rw [hrx, hw]), onPath_same, atTest_chain]
      rfl
    · rw [htx, decidePath_unwritten (by rw [hrx, ho]) (by rw [hrx, hw])]
      exact Leaves.trans (atTest_leaves ..) (Leaves.onPath _ _ _ _ (by decide))
  · obtain rfl : b = testedBoundary c s := hb
    have hl := atTest_leaves c (testedBoundary c s) s
    have htx := decidePath_stale (c := c) (b := testedBoundary c s) (p := .tx)
      (next := swapBoundary (s.nat (O.coefSwapPeriod c)) (testedBoundary c s)) (s := atTest c (testedBoundary c s) s)
      (by rw [atTest_path]; exact ht) (by rw [atTest_path]; exact htw)
    have hch : (staleTaps c .tx 0 (testedBoundary c s) (swapBoundary (s.nat (O.coefSwapPeriod c)) (testedBoundary c s))
        (atTest c (testedBoundary c s) s)).chain c = { s.chain c with tested := testedBoundary c s } :=
      (chain_congr (raise_dfe ..) c).trans (atTest_chain ..)
    have hrx := decidePath_unwritten (b := testedBoundary c s) (next := swapBoundary (s.nat (O.coefSwapPeriod c)) (testedBoundary c s))
      (p := .rx) ((congrArg (fun d => (d.path .rx).back) hch).trans ho) ((congrArg (fun d => (d.path .rx).written) hch).trans hw)
    refine ⟨_, execCoefSwapDecision_eq hc ha, ?_, ?_, ?_, ?_⟩
    all_goals rw [htx, hrx]
    · exact hch
    · exact Counted.of_obj (hl.2 _ (by simp)) (raise_counted _ _ _ _ _ (staleCount_key hc))
    · exact Indicates.of_link (hl.1 .link (by decide)) (raise_indicates _ _ _ _ _)
    · exact Leaves.trans (Leaves.mono hl (by decide) (by simp)) (Leaves.raise _ _ _ _ _ (by decide) (by decide) (by simp) (by simp))
  · have htx : startFade c .tx (atFade c s) = (atFade c s).onPath c .tx (fadedPath (atFade c s) c) :=
      startFade_decided (by rw [atFade, advanceToAir_chain]; exact ht)
    have hrx : startFade c .rx ((atFade c s).onPath c .tx (fadedPath (atFade c s) c)) = (atFade c s).onPath c .tx (fadedPath (atFade c s) c) :=
      startFade_undecided (by rw [onPath_path_other _ _ .tx .rx _ nofun, atFade, advanceToAir_chain]; exact hr)
    have hobj : ∀ k, (atFade c s).obj k = s.obj k := fun k => (atFade_leaves c s).2 k (by simp)
    refine ⟨_, (execCoefFadeStart_eq hc).trans (congrArg Host.Outcome.next (if_pos (by simp [ht]))), ?_, ?_⟩
    · rw [htx, hrx, onPath_same, atFade, advanceToAir_chain, ← atFade, DfeChain.withPath, fadedPath, fadeSpan_congr hobj, State.nat, hobj]
      rfl
    · rw [htx, hrx]
      exact Leaves.trans (Leaves.mono (atFade_leaves c s) (by decide) (by simp)) (Leaves.onPath _ _ _ _ (by decide))
  · have hch : (atFadeEnd c s).chain c = s.chain c := advanceToAir_chain ..
    have htx := endFade_fading (c := c) (p := .tx) (s := atFadeEnd c s) (by rw [hch]; exact ht)
    have hrx : endFade c .rx (endFade c .tx (atFadeEnd c s)) = endFade c .tx (atFadeEnd c s) :=
      endFade_still (by rw [(endFade_other c .tx .rx _ nofun).1, hch]; exact hr)
    refine ⟨_, (execCoefFadeEnd_eq hc).trans (congrArg Host.Outcome.next (if_pos (by simp [ht]))), ?_, ?_, ?_⟩
    · rw [hrx, htx, onPath_same, changeBlob_chain, hch, DfeChain.withPath, atFadeEnd, advanceToAir_blob]
      rfl
    · rw [hrx, show O.txTaps c = tapsKey c .tx from rfl,
        (endFade_path (p := .tx) (by rw [hch]; exact ht)).2, hch]
      rfl
    · rw [hrx, htx]
      exact Leaves.trans (Leaves.mono (atFadeEnd_leaves c s) (by decide) (by simp))
        (Leaves.trans (Leaves.changeBlob _ _ _ (by decide) (by decide) (by simp)) (Leaves.onPath _ _ _ _ (by decide)))
  · have htx : copyDone c .tx s = copied c .tx s := by
      rw [copyDone_copying (p := .tx) ht, show ((s.chain c).path .tx).held = [] from hh]
      rfl
    have hrx : copyDone c .rx (copied c .tx s) = copied c .tx s :=
      copyDone_still (by rw [copied, onPath_path_other _ _ .tx .rx _ nofun, changeBlob_chain]; exact hr)
    refine ⟨_, execCoefCopyComplete_eq hc, ?_, ?_, ?_⟩
    all_goals rw [htx, hrx, copied]
    · rw [onPath_same, changeBlob_chain, DfeChain.withPath, copiedPath]
      simp only [hh]
    · exact changeBlob_blob ..
    · exact Leaves.trans (Leaves.changeBlob _ _ _ (by decide) (by decide) (by simp)) (Leaves.onPath _ _ _ _ (by decide))
  · cases ha : s.airRunning with
    | false => exact ⟨_, execCoefSwapDecision_still hc ha, nofun⟩
    | true =>
      refine ⟨_, execCoefSwapDecision_eq hc ha, fun p _ hp => ?_⟩
      obtain ⟨u, hu, -⟩ := both_paths (c := c) (G := fun _ _ x => x.decided = true)
        (f := decidePath c (testedBoundary c s) (swapBoundary (s.nat (O.coefSwapPeriod c)) (testedBoundary c s)))
        (atTest c (testedBoundary c s) s) (fun p q s h => decidePath_other _ _ _ _ _ _ h) p fun u hu => by
          rw [atTest_path] at hu
          rw [decidePath_committed (by rw [hu, hp]), onPath_path]
          rfl
      exact hu
  · by_cases hd : ((s.chain c).tx.decided || (s.chain c).rx.decided) = true
    · refine ⟨_, (execCoefFadeStart_eq hc).trans (congrArg Host.Outcome.next (if_pos hd)), fun p hp => ?_⟩
      obtain ⟨u, hu, hcase⟩ := both_paths (c := c) (f := startFade c)
        (G := fun _ u x => x.decided = false ∧ x.fading = true ∧ x.fadeLen = u.nat (O.xfadeSamples c)) (atFade c s)
        (fun p q s h => startFade_other _ _ _ _ h) p fun u hu => by
          rw [atFade, advanceToAir_chain] at hu
          rw [startFade_decided (by rw [hu, hp]), onPath_path]
          exact ⟨rfl, rfl, rfl⟩
      have hn : u.nat (O.xfadeSamples c) = s.nat (O.xfadeSamples c) := by
        have ho : (atFade c s).obj (O.xfadeSamples c) = s.obj (O.xfadeSamples c) := (atFade_leaves c s).2 _ (by simp)
        rcases hcase with rfl | rfl
        · rw [State.nat, ho, State.nat]
        · rw [State.nat, startFade_obj, ho, State.nat]
      rw [hn] at hu
      exact hu
    · refine ⟨_, (execCoefFadeStart_eq hc).trans (congrArg Host.Outcome.next (if_neg hd)), fun p hp => ?_⟩
      cases p <;> simp_all [DfeChain.path]
  · by_cases hd : ((s.chain c).tx.fading || (s.chain c).rx.fading) = true
    · refine ⟨_, (execCoefFadeEnd_eq hc).trans (congrArg Host.Outcome.next (if_pos hd)), fun p hp => ?_⟩
      have hch : (atFadeEnd c s).chain c = s.chain c := advanceToAir_chain ..
      have hbl : (atFadeEnd c s).blob (tapsKey c p) = s.blob (tapsKey c p) := advanceToAir_blob ..
      cases p with
      | tx =>
        obtain ⟨h1, h2⟩ := endFade_path (c := c) (p := .tx) (s := atFadeEnd c s) (by rw [hch, hp])
        obtain ⟨h3, h4⟩ := endFade_other c .rx .tx (endFade c .tx (atFadeEnd c s)) nofun
        rw [h3, h4, h1, h2, hch, hbl]
        exact ⟨rfl, rfl, rfl, rfl⟩
      | rx =>
        obtain ⟨h3, h4⟩ := endFade_other c .tx .rx (atFadeEnd c s) nofun
        obtain ⟨h1, h2⟩ := endFade_path (c := c) (p := .rx) (s := endFade c .tx (atFadeEnd c s)) (by rw [h3, hch, hp])
        rw [h1, h2, h3, h4, hch, hbl]
        exact ⟨rfl, rfl, rfl, rfl⟩
    · refine ⟨_, (execCoefFadeEnd_eq hc).trans (congrArg Host.Outcome.next (if_neg hd)), fun p hp => ?_⟩
      cases p <;> simp_all [DfeChain.path]
  · refine ⟨_, execCoefCopyComplete_eq hc, fun p hp => ?_⟩
    obtain ⟨u, hu, -⟩ := both_paths (c := c) (f := copyDone c) (G := fun _ _ x => x.back ≠ .copying ∧ x.held = []) s
      (fun p q s h => copyDone_other _ _ _ _ h) p fun u hu => copyDone_path (by rw [hu, hp])
    exact hu
end

section
/-! SUPPORT. Resets of the chains at a boundary, and the events of their thresholds (10 R344, R346, R347). -/
namespace Sys2Proof.Machine
open Sys2Proof.Safety

/-! ## Resets -/

theorem liveChains_congr {s t : State} (h : ∀ k, t.obj k = s.obj k) : t.liveChains = s.liveChains := by
  have hn : ∀ k, t.nat k = s.nat k := fun k => congrArg Int.toNat (h k)
  unfold State.liveChains State.headChains State.chainUser State.inGang State.gang State.runs
  simp only [h, hn]

/-- A chain with a reset that its filters are to meet. -/
def DfeChain.cleared (b : Int) (d : DfeChain) : DfeChain :=
  { d with txFilter := { d.txFilter with clear := some b }, rxFilter := { d.rxFilter with clear := some b } }

/-- The state with a chain reset at a boundary. -/
def chainReset (b : Int) (s : State) (c : Nat) : State :=
  { s.onChain c (DfeChain.cleared b) with
    dfe := { (s.onChain c (DfeChain.cleared b)).dfe with lastReset := Store.put s.dfe.lastReset c b } }

theorem resetChain_again {b : Int} {s : State} {c : Nat} (h : Store.at (-1) s.dfe.lastReset c = b) : resetChain b s c = s := if_pos h

theorem resetChain_first {b : Int} {s : State} {c : Nat} (h : Store.at (-1) s.dfe.lastReset c ≠ b) : resetChain b s c = chainReset b s c := if_neg h

theorem chainReset_chain (b : Int) (s : State) (c j : Nat) : (chainReset b s c).chain j = if j = c then (s.chain c).cleared b else s.chain j :=
  onChain_chain ..

theorem chainReset_last (b : Int) (s : State) (c j : Nat) :
    Store.at (-1) (chainReset b s c).dfe.lastReset j = if j = c then b else Store.at (-1) s.dfe.lastReset j := by
  split
  · next h =>
    subst h
    exact Store.at_put_same ..
  · next h => exact Store.at_put_ne _ _ _ _ _ h

/-- A reset of one chain leaves the others, and one that was reset at the boundary. -/
theorem resetChain_keeps {b : Int} {s : State} {c j : Nat} (h : j ≠ c ∨ Store.at (-1) s.dfe.lastReset j = b) :
    (resetChain b s c).chain j = s.chain j ∧ Store.at (-1) (resetChain b s c).dfe.lastReset j = Store.at (-1) s.dfe.lastReset j := by
  by_cases hc : Store.at (-1) s.dfe.lastReset c = b
  · rw [resetChain_again hc]
    exact ⟨rfl, rfl⟩
  · have hj : j ≠ c := h.elim id fun hb he => hc (he ▸ hb)
    rw [resetChain_first hc, chainReset_chain, chainReset_last, if_neg hj, if_neg hj]
    exact ⟨rfl, rfl⟩

theorem resetChain_last (b : Int) (s : State) (c : Nat) : Store.at (-1) (resetChain b s c).dfe.lastReset c = b := by
  by_cases hc : Store.at (-1) s.dfe.lastReset c = b
  · rw [resetChain_again hc, hc]
  · rw [resetChain_first hc, chainReset_last, if_pos rfl]

theorem foldl_resetChain_keeps {b : Int} (l : List Nat) {s : State} {j : Nat} (h : Store.at (-1) s.dfe.lastReset j = b) :
    (l.foldl (resetChain b) s).chain j = s.chain j ∧ Store.at (-1) (l.foldl (resetChain b) s).dfe.lastReset j = b := by
  induction l generalizing s with
  | nil => exact ⟨rfl, h⟩
  | cons c l ih =>
    obtain ⟨h1, h2⟩ := resetChain_keeps (c := c) (.inr h)
    obtain ⟨i1, i2⟩ := ih (h2.trans h)
    exact ⟨i1.trans h1, i2⟩

/-- Every chain of a list is reset, once. -/
theorem foldl_resetChain (b : Int) (l : List Nat) (s : State) {c : Nat} (hc : c ∈ l) :
    Store.at (-1) (l.foldl (resetChain b) s).dfe.lastReset c = b
      ∧ (Store.at (-1) s.dfe.lastReset c ≠ b → (l.foldl (resetChain b) s).chain c = (s.chain c).cleared b) := by
  induction l generalizing s with
  | nil => simp at hc
  | cons a l ih =>
    rw [List.foldl_cons]
    by_cases ha : c = a
    · subst ha
      obtain ⟨h1, h2⟩ := foldl_resetChain_keeps l (resetChain_last b s c)
      exact ⟨h2, fun hn => by rw [h1, resetChain_first hn, chainReset_chain, if_pos rfl]⟩
    · obtain ⟨h1, h2⟩ := resetChain_keeps (b := b) (s := s) (c := a) (.inl ha)
      obtain ⟨i1, i2⟩ := ih (resetChain b s a) (by simpa [ha] using hc)
      rw [h1, h2] at i2
      exact ⟨i1, i2⟩

theorem Leaves.setDfe (s : State) (d : Dfe) {ps : List Part} {ks : List Nat} (h : Part.dfe ∈ ps) : Leaves s { s with dfe := d } ps ks :=
  Leaves.of_dict (fun p hp => by cases p <;> simp_all [Part.same]) rfl

/-- The state with no reset scheduled. -/
def unscheduled (s : State) : State := { s with dfe := { s.dfe with resetAt := none } }

/-- The state with every live chain reset at a boundary. -/
def liveReset (b : Int) (s : State) : State := (advanceToAir s b).liveChains.foldl (resetChain b) (advanceToAir s b)

theorem execDfeCommandReset_eq {b : Int} {s : State} (h : s.dfe.resetAt = some b) :
    execDfeCommandReset s = .next (unscheduled ((liveReset b s).bump O.commandResets 1)) := by
  simp only [execDfeCommandReset, h]
  rfl

theorem unscheduled_leaves (s : State) {ks : List Nat} : Leaves s (unscheduled s) [.dfe] ks := Leaves.setDfe _ _ (by decide)

theorem unscheduled_last (k n : Nat) (s : State) : (unscheduled (s.bump k n)).dfe.lastReset = s.dfe.lastReset := rfl

theorem unscheduled_chain (k n : Nat) (s : State) (c : Nat) : (unscheduled (s.bump k n)).chain c = s.chain c := rfl

theorem liveReset_leaves (b : Int) (s : State) : Leaves s (liveReset b s) (.dfe :: timeParts) [] :=
  Leaves.trans (Leaves.advanceToAir _ _ (by decide)) (Leaves.mono (Leaves.foldl (ps := [.dfe]) (ks := []) _ _
    (fun c _ s => resetChain_leaves b s c) _) (by decide) (by simp))

theorem liveReset_resets (b : Int) (s : State) {c : Nat} (hc : c ∈ s.liveChains) : Store.at (-1) (liveReset b s).dfe.lastReset c = b
    ∧ (Store.at (-1) s.dfe.lastReset c ≠ b → (liveReset b s).chain c = (s.chain c).cleared b) := by
  have hl : (advanceToAir s b).liveChains = s.liveChains := liveChains_congr fun k => State.obj_advanceToAir ..
  obtain ⟨h1, h2⟩ := foldl_resetChain b (advanceToAir s b).liveChains (advanceToAir s b) (c := c) (by rw [hl]; exact hc)
  rw [advanceToAir_dfe, advanceToAir_chain] at h2
  exact ⟨h1, h2⟩

/-- The state with a reset scheduled. -/
def scheduled (b : Int) (s : State) : State := { s.setObj O.resetAt (atsOf b) with dfe := { s.dfe with resetAt := some b } }

theorem scheduled_leaves (b : Int) (s : State) : Leaves s (scheduled b s) [.dict, .dfe] [O.resetAt] := by
  unfold scheduled
  exact Leaves.trans (Leaves.setObj _ _ _ (by decide) (by simp)) (Leaves.setDfe _ _ (by decide))

theorem scheduled_obj (b : Int) (s : State) : (scheduled b s).obj O.resetAt = atsOf b := by
  unfold scheduled
  exact ((Leaves.setDfe (s.setObj O.resetAt (atsOf b)) _ (ps := [.dfe]) (ks := []) (by decide)).2 _ (by simp)).trans (State.obj_setObj_same ..)

theorem actDfeResetAll_idle {s : State} (h : s.dfe.resetAt = none) (ha : s.airRunning = true) :
    actDfeResetAll s = (.ok, scheduled (nextFrame (s.airNow + coefLead - 1)) s) := by
  rw [actDfeResetAll, if_neg (by simp [h, ha])]
  rfl

/-! ## Thresholds -/

/-- The detail of DFE_THRESHOLD. -/
def thrDetail (c : Nat) (d : DfeChain) : Bytes :=
  leBytes 2 c ++ leBytes 1 (if d.high then 1 else 0) ++ leBytes 1 0 ++ leBytes 2 (codeOf 16 d.power) ++ leBytes 2 (d.suppressed % 2 ^ 16)

theorem raiseThreshold_chain (c : Nat) (s : State) : ((raiseThreshold c s).chain c).raised = (s.chain c).high
    ∧ ((raiseThreshold c s).chain c).suppressed = 0 ∧ ((raiseThreshold c s).chain c).high = (s.chain c).high
    ∧ ((raiseThreshold c s).chain c).meter = (s.chain c).meter := by
  have hr : ∀ d, (raise s (O.thrEvents c) c d 0).chain c = s.chain c := fun d => chain_congr (raise_dfe ..) c
  unfold raiseThreshold
  dsimp only
  rw [onChain_chain, if_pos rfl, hr]
  exact ⟨rfl, rfl, rfl, rfl⟩

/-- An event of a threshold is counted and raised, and begins a holdoff. -/
theorem raiseThreshold_raises {c : Nat} (hc : c < 128) (s : State) : Counted s (raiseThreshold c s) (O.thrEvents c) 1
    ∧ Indicates s (raiseThreshold c s) (O.thrEvents c) c (thrDetail c (s.chain c)) 0
    ∧ Leaves s (raiseThreshold c s) [.dict, .dfe, .link] [O.thrEvents c, O.indicationsDropped] := by
  have hk : O.thrEvents c ≠ O.indicationsDropped := by
    simp only [O.thrEvents, O.indicationsDropped, ne_eq]
    omega
  have h1 := raise_counted s (O.thrEvents c) c (thrDetail c (s.chain c)) 0 hk
  have h2 := raise_indicates s (O.thrEvents c) c (thrDetail c (s.chain c)) 0
  have h3 : Leaves s (raise s (O.thrEvents c) c (thrDetail c (s.chain c)) 0) [.dict, .dfe, .link] [O.thrEvents c, O.indicationsDropped] :=
    Leaves.raise _ _ _ _ _ (by decide) (by decide) (by simp) (by simp)
  exact ⟨h1, h2, Leaves.trans h3 (Leaves.onChain _ _ _ (by decide))⟩

/-- A chain with the rest of the blocks that have ended. -/
def DfeChain.judged (rest : List (Nat × Nat)) (d : DfeChain) : DfeChain := { d with meter := { d.meter with ended := rest } }

/-- A chain that has met a block of another state. -/
def DfeChain.turned (high : Bool) (power : Int) (d : DfeChain) : DfeChain := { d with high := high, power := power }

/-- A chain with one more change suppressed. -/
def DfeChain.hushed (d : DfeChain) : DfeChain := { d with suppressed := d.suppressed + 1 }

/-- The power of a block that a chain judges. -/
def judgedPower (b : Nat × Nat) (s : State) : Int := blockPower (signedOf 16 (s.free.1.toNat % 2 ^ 16)) b

/-- The state with the free value that a block takes, where one is needed. -/
def blockFree (b : Nat × Nat) (s : State) : State := if b.1 = 0 then s.free.2 else s

/-- The state in which a block's power is written. -/
def blockJudged (c : Nat) (b : Nat × Nat) (rest : List (Nat × Nat)) (s : State) : State :=
  ((blockFree b s).onChain c (DfeChain.judged rest)).setObj (O.thrPower c) (judgedPower b s)

theorem blockJudged_leaves (c : Nat) (b : Nat × Nat) (rest : List (Nat × Nat)) (s : State) :
    Leaves s (blockJudged c b rest s) [.dict, .dfe, .freeCtr] [O.thrPower c] := by
  unfold blockJudged blockFree
  exact Leaves.trans (Leaves.ite _ (Leaves.free _ (by decide)) (Leaves.refl ..)) (Leaves.trans (Leaves.onChain _ _ _ (by decide))
    (Leaves.setObj _ _ _ (by decide) (by simp)))

theorem setObj_chain (s : State) (k : Nat) (v : Int) (c : Nat) : (s.setObj k v).chain c = s.chain c := rfl

theorem blockFree_chain (b : Nat × Nat) (s : State) (c : Nat) : (blockFree b s).chain c = s.chain c := by
  unfold blockFree
  split <;> rfl

theorem blockJudged_chain (c : Nat) (b : Nat × Nat) (rest : List (Nat × Nat)) (s : State) :
    (blockJudged c b rest s).chain c = (s.chain c).judged rest := by
  rw [blockJudged, setObj_chain, onChain_chain, if_pos rfl, blockFree_chain]

theorem blockJudged_power (c : Nat) (b : Nat × Nat) (rest : List (Nat × Nat)) (s : State) :
    (blockJudged c b rest s).obj (O.thrPower c) = judgedPower b s := State.obj_setObj_same ..

/-- The state of the path after a block, judged by the thresholds of its chain. -/
def nextHigh (c : Nat) (b : Nat × Nat) (s : State) : Bool := thrNext s c (s.chain c).high (judgedPower b s)

theorem blockJudged_next (c : Nat) (b : Nat × Nat) (rest : List (Nat × Nat)) (s : State) :
    thrNext (blockJudged c b rest s) c ((blockJudged c b rest s).chain c).high (judgedPower b s) = nextHigh c b s := by
  have h1 : (blockJudged c b rest s).obj (O.thrHigh c) = s.obj (O.thrHigh c) := (blockJudged_leaves c b rest s).2 _ (by simp)
  have h2 : (blockJudged c b rest s).obj (O.thrLow c) = s.obj (O.thrLow c) := (blockJudged_leaves c b rest s).2 _ (by simp)
  rw [blockJudged_chain, nextHigh]
  simp only [thrNext, h1, h2]
  rfl

/-- The state in which a chain has turned to another state. -/
def blockTurned (c : Nat) (b : Nat × Nat) (rest : List (Nat × Nat)) (s : State) : State :=
  (blockJudged c b rest s).onChain c (DfeChain.turned (nextHigh c b s) (judgedPower b s))

/-- What a chain that turned does: in a holdoff the change is suppressed, and otherwise its event raised. -/
def afterTurn (c : Nat) (hold : Option Nat) (s : State) : State :=
  match hold with
  | some t => if s.clock.ticks < t then s.onChain c DfeChain.hushed else raiseThreshold c s
  | none => raiseThreshold c s

theorem execThrBlockEnd_eq {c : Nat} {b : Nat × Nat} {rest : List (Nat × Nat)} {s : State} (hc : c < 128) (hm : s.obj (O.thrMode c) = 1)
    (he : (s.chain c).meter.ended = b :: rest) : execThrBlockEnd c s = .next (if nextHigh c b s = (s.chain c).high then blockJudged c b rest s
      else afterTurn c (s.chain c).holdEnd (blockTurned c b rest s)) := by
  have h1 : execThrBlockEnd c s = (if thrNext (blockJudged c b rest s) c ((blockJudged c b rest s).chain c).high (judgedPower b s)
        = ((blockJudged c b rest s).chain c).high then .next (blockJudged c b rest s)
      else .next (afterTurn c ((blockJudged c b rest s).chain c).holdEnd ((blockJudged c b rest s).onChain c (DfeChain.turned
        (thrNext (blockJudged c b rest s) c ((blockJudged c b rest s).chain c).high (judgedPower b s)) (judgedPower b s))))) := by
    rw [execThrBlockEnd, if_neg (show ¬ 128 ≤ c from Nat.not_le.mpr hc), if_neg (by simp [hm]), he]
    rfl
  rw [h1, blockJudged_next, blockJudged_chain]
  by_cases h : nextHigh c b s = (s.chain c).high
  · rw [if_pos h]
    exact if_pos h
  · rw [if_neg h]
    exact if_neg h

/-- Whether the holdoff of a chain has not ended. -/
def holdsOff (c : Nat) (s : State) : Prop := ∃ h, (s.chain c).holdEnd = some h ∧ s.clock.ticks < h

theorem blockTurned_leaves (c : Nat) (b : Nat × Nat) (rest : List (Nat × Nat)) (s : State) :
    Leaves s (blockTurned c b rest s) [.dict, .dfe, .freeCtr] [O.thrPower c] :=
  Leaves.trans (blockJudged_leaves c b rest s) (Leaves.onChain _ _ _ (by decide))

theorem afterTurn_hushed {c : Nat} {b : Nat × Nat} {rest : List (Nat × Nat)} {s : State} (ho : holdsOff c s) :
    afterTurn c (s.chain c).holdEnd (blockTurned c b rest s) = (blockTurned c b rest s).onChain c DfeChain.hushed := by
  obtain ⟨t, ht, hlt⟩ := ho
  have hck : (blockTurned c b rest s).clock = s.clock := (blockTurned_leaves c b rest s).1 .clock (by decide)
  rw [ht, afterTurn, hck, if_pos hlt]

theorem afterTurn_raised {c : Nat} {b : Nat × Nat} {rest : List (Nat × Nat)} {s : State} (ho : ¬ holdsOff c s) :
    afterTurn c (s.chain c).holdEnd (blockTurned c b rest s) = raiseThreshold c (blockTurned c b rest s) := by
  have hck : (blockTurned c b rest s).clock = s.clock := (blockTurned_leaves c b rest s).1 .clock (by decide)
  cases ht : (s.chain c).holdEnd with
  | none => rfl
  | some t => rw [afterTurn, hck, if_neg fun hlt => ho ⟨t, ht, hlt⟩]

theorem blockTurned_chain (c : Nat) (b : Nat × Nat) (rest : List (Nat × Nat)) (s : State) :
    (blockTurned c b rest s).chain c = ((s.chain c).judged rest).turned (nextHigh c b s) (judgedPower b s) := by
  rw [blockTurned, onChain_chain, if_pos rfl, blockJudged_chain]

theorem blockTurned_power (c : Nat) (b : Nat × Nat) (rest : List (Nat × Nat)) (s : State) :
    (blockTurned c b rest s).obj (O.thrPower c) = judgedPower b s := blockJudged_power ..

/-- The state at the end of a holdoff. -/
def holdoffOver (c t : Nat) (s : State) : State := (advanceTicks s t).onChain c fun d => { d with holdEnd := none }

theorem holdoffOver_chain (c t : Nat) (s : State) : (holdoffOver c t s).chain c = { s.chain c with holdEnd := none } := by
  rw [holdoffOver, onChain_chain, if_pos rfl, chain_congr ((Leaves.advanceTicks s t (ps := timeParts) (ks := []) fun _ h => h).1 .dfe (by decide))]

theorem holdoffOver_leaves (c t : Nat) (s : State) : Leaves s (holdoffOver c t s) (.dfe :: timeParts) [] :=
  Leaves.trans (Leaves.advanceTicks _ _ (by decide)) (Leaves.onChain _ _ _ (by decide))

theorem execThrHoldoffEnd_raises {c t : Nat} {s : State} (hc : c < 128) (h : (s.chain c).holdEnd = some t)
    (hr : (s.chain c).high ≠ (s.chain c).raised) : execThrHoldoffEnd c s = .next (raiseThreshold c (holdoffOver c t s)) := by
  have hne : (((holdoffOver c t s).chain c).high != ((holdoffOver c t s).chain c).raised) = true := by
    rw [holdoffOver_chain]
    simpa using hr
  have h1 : execThrHoldoffEnd c s = .next (if (((holdoffOver c t s).chain c).high != ((holdoffOver c t s).chain c).raised) = true
      then raiseThreshold c (holdoffOver c t s) else holdoffOver c t s) := by
    rw [execThrHoldoffEnd, if_neg (show ¬ 128 ≤ c from Nat.not_le.mpr hc), h]
    rfl
  rw [h1, if_pos hne]

end Sys2Proof.Machine
open Sys2Proof Sys2Proof.Machine Sys2Proof.Safety

/-- Settles O32: every live chain is reset once (`foldl_resetChain`), and a chain that turns is suppressed or raises its event
(`raiseThreshold_raises`). -/
theorem filterResets : Obligations.FilterResets := by
  unfold Obligations.FilterResets
  refine ⟨fun x s h hn ha => ⟨_, rfl, ?_⟩, fun b s h => ⟨_, execDfeCommandReset_eq h, rfl, ?_, fun c hc => ?_, fun c hc hn => ?_, ?_⟩,
    fun c sum size rest s hc hm he => ?_, fun c t s hc hh hr => ?_⟩
  · have hd : (atWrite s x O.dfeResetAll (.num 1)).dfe = s.dfe := atWrite_same s x _ _ .dfe (by decide)
    obtain ⟨hans, hsame, hobj⟩ := hostWrite_does (ps := [.dfe]) h (actDfeResetAll_idle (by rw [hd]; exact hn) (by rw [atWrite_num]; exact ha))
      (scheduled_leaves ..) (by decide)
    refine ⟨?_, ?_, hans⟩
    · rw [hsame .dfe (by decide), atWrite_num]
      rfl
    · rw [hobj _ (by decide), atWrite_num, scheduled_obj]
  · refine ((unscheduled_leaves _ (ks := [])).2 _ (by simp)).trans ((State.obj_bump_same ..).trans ?_)
    rw [State.nat, (liveReset_leaves b s).2 _ (by simp), State.nat]
  · rw [unscheduled_last]
    exact (liveReset_resets b s hc).1
  · rw [unscheduled_chain, (liveReset_resets b s hc).2 hn]
    exact ⟨rfl, rfl⟩
  · exact Leaves.trans (Leaves.mono (liveReset_leaves b s) (by decide) (by simp)) (Leaves.trans (Leaves.bump _ _ _ (by decide) (by simp))
      (Leaves.mono (unscheduled_leaves _ (ks := [])) (by decide) (by simp)))
  · have hp : sum ≠ 0 → judgedPower (sum, size) s = decibels 10 (-1400) 100 ((sum : Rat) / ((size * 2 ^ 30 : Nat) : Rat)) :=
      fun hz => if_neg hz
    refine ⟨_, judgedPower (sum, size) s, execThrBlockEnd_eq hc hm he, ?_⟩
    by_cases hn : nextHigh c (sum, size) s = (s.chain c).high
    · have hl := blockJudged_leaves c (sum, size) rest s
      rw [if_pos hn, if_pos (show thrNext s c (s.chain c).high (judgedPower (sum, size) s) = (s.chain c).high from hn), blockJudged_chain]
      exact ⟨blockJudged_power .., hp, rfl, hn.symm, ⟨rfl, hl.1 .link (by decide)⟩, Leaves.mono hl (by decide) (by simp)⟩
    · have hl := blockTurned_leaves c (sum, size) rest s
      have hpow := blockTurned_power c (sum, size) rest s
      have hch := blockTurned_chain c (sum, size) rest s
      rw [if_neg hn, if_neg (show ¬ thrNext s c (s.chain c).high (judgedPower (sum, size) s) = (s.chain c).high from hn)]
      by_cases ho : holdsOff c s
      · rw [afterTurn_hushed ho, if_pos (show ∃ h, (s.chain c).holdEnd = some h ∧ s.clock.ticks < h from ho), onChain_chain, if_pos rfl, hch]
        exact ⟨hpow, hp, rfl, rfl, ⟨rfl, hl.1 .link (by decide)⟩,
          Leaves.trans (Leaves.mono hl (by decide) (by simp)) (Leaves.onChain _ _ _ (by decide))⟩
      · obtain ⟨h1, h2, h3⟩ := raiseThreshold_raises hc (blockTurned c (sum, size) rest s)
        obtain ⟨r1, r2, r3, r4⟩ := raiseThreshold_chain c (blockTurned c (sum, size) rest s)
        rw [hch] at h2 r1 r3 r4
        rw [afterTurn_raised ho, if_neg (show ¬ ∃ h, (s.chain c).holdEnd = some h ∧ s.clock.ticks < h from ho), r1, r2, r3, r4,
          h3.2 _ (by simp only [O.thrPower, O.thrEvents, O.indicationsDropped, List.mem_cons, List.not_mem_nil, or_false]; omega)]
        exact ⟨hpow, hp, rfl, rfl, ⟨Counted.of_obj (hl.2 _ (by simp)) h1, rfl, rfl, Indicates.of_link (hl.1 .link (by decide)) h2⟩,
          Leaves.trans (Leaves.mono hl (by decide) (by simp)) (Leaves.mono h3 (by decide) (by simp))⟩
  · obtain ⟨h1, h2, h3⟩ := raiseThreshold_raises hc (holdoffOver c t s)
    obtain ⟨r1, r2, r3, r4⟩ := raiseThreshold_chain c (holdoffOver c t s)
    have hl := holdoffOver_leaves c t s
    refine ⟨_, execThrHoldoffEnd_raises hc hh hr, ?_, Counted.of_obj (hl.2 _ (by simp)) h1, ?_, r2,
      Leaves.trans (Leaves.mono hl (by decide) (by simp)) (Leaves.mono h3 (by decide) (by simp))⟩
    · rw [h3.1 .clock (by decide)]
      exact le_advanceTicks s t
    · rw [r1, holdoffOver_chain]
end

section
/-! SUPPORT. Transmit windows of TDD carriers and the gates that follow them (10 R348 to R351). -/
namespace Sys2Proof.Machine
open Sys2Proof.Safety

/-! ## Gates -/

/-- The objects that the setting of a gate may change. -/
def gateKeys (g : Nat) : List Nat := [O.txgLevel g, O.txgEdges g] ++ (List.range 8).map fun n => O.capLost n

theorem capture_leaves (src : Nat) (b : Bool) (count : Nat) (s : State) :
    Leaves s (capture src b count s) [.dict, .time] ((List.range 8).map fun n => O.capLost n) := by
  refine Leaves.foldl _ _ (fun n hn s => Leaves.ite _ ?_ (Leaves.refl ..)) s
  unfold captureUnit
  exact Leaves.ite _ (Leaves.onTime _ _ (by decide)) (Leaves.bump _ _ _ (by decide) (List.mem_map_of_mem hn))

/-- The level of a gate as a number. -/
def gateLevel (active : Bool) : Int := if active then 1 else 0

/-- The state in which a gate changes its level, before the capture units see it. -/
def gateSet (g : Nat) (active : Bool) (s : State) : State := (s.setObj (O.txgLevel g) (gateLevel active)).bump (O.txgEdges g) 1

theorem setGate_still {g : Nat} {active : Bool} {s : State} (h : s.obj (O.txgLevel g) = gateLevel active) : setGate g active s = s :=
  if_pos (beq_iff_eq.mpr h)

theorem setGate_changes {g : Nat} {active : Bool} {s : State} (h : s.obj (O.txgLevel g) ≠ gateLevel active) :
    setGate g active s = capture (3 + g) (active != (s.obj (O.txgPolarity g) == 0)) s.clock.count (gateSet g active s) :=
  if_neg (by rwa [beq_iff_eq])

theorem gateSet_leaves (g : Nat) (active : Bool) (s : State) : Leaves s (gateSet g active s) [.dict, .time] [O.txgLevel g, O.txgEdges g] :=
  Leaves.trans (Leaves.setObj _ _ _ (by decide) (by simp)) (Leaves.bump _ _ _ (by decide) (by simp))

theorem txgLevel_notEdges (g : Nat) : O.txgLevel g ≠ O.txgEdges g := by
  simp only [O.txgLevel, O.txgEdges, ne_eq]
  omega

/-- No capture unit's counter is an object of a gate. -/
theorem gate_notLost {g : Nat} (hg : g < 16) : O.txgLevel g ∉ (List.range 8).map (fun n => O.capLost n)
    ∧ O.txgEdges g ∉ (List.range 8).map fun n => O.capLost n := by
  simp only [List.mem_map, List.mem_range, not_exists, not_and, O.txgLevel, O.txgEdges, O.capLost]
  exact ⟨fun n _ => by omega, fun n _ => by omega⟩

/-- A gate that is set shows its level, counts an edge where the level changed, and changes nothing but what captures lose. -/
theorem setGate_shows {g : Nat} (hg : g < 16) (active : Bool) (s : State) : (setGate g active s).obj (O.txgLevel g) = gateLevel active
    ∧ (s.obj (O.txgLevel g) ≠ gateLevel active → Counted s (setGate g active s) (O.txgEdges g) 1)
    ∧ Leaves s (setGate g active s) [.dict, .time] (gateKeys g) := by
  by_cases h : s.obj (O.txgLevel g) = gateLevel active
  · rw [setGate_still h]
    exact ⟨h, fun hn => absurd h hn, Leaves.refl ..⟩
  · obtain ⟨h1, h2⟩ := gate_notLost hg
    rw [setGate_changes h]
    have hc := capture_leaves (3 + g) (active != (s.obj (O.txgPolarity g) == 0)) s.clock.count (gateSet g active s)
    refine ⟨(hc.2 _ h1).trans ?_, fun _ => (hc.2 _ h2).trans ?_, Leaves.trans (Leaves.mono (gateSet_leaves g active s) (by decide) (by simp [gateKeys]))
      (Leaves.mono hc (by decide) fun k hk => List.mem_append_right _ hk)⟩
    · exact (State.obj_bump_ne _ _ _ _ (txgLevel_notEdges g)).trans (State.obj_setObj_same ..)
    · refine (State.obj_bump_same ..).trans ?_
      rw [State.nat, State.obj_setObj_ne _ _ _ _ (txgLevel_notEdges g).symm, State.nat]

theorem execTxgateEdge_none {g : Nat} {active : Bool} {s : State} (hg : g < 16) (h : 64 ≤ s.nat (O.txgCarrier g)) :
    execTxgateEdge g active s = .next (setGate g false s) := by
  rw [execTxgateEdge, if_neg (show ¬ 16 ≤ g from Nat.not_le.mpr hg)]
  exact if_pos h

theorem execTxgateEdge_always {g : Nat} {s : State} (hg : g < 16) (h : s.nat (O.txgCarrier g) < 64)
    (he : s.holds (O.carrierEnable (s.nat (O.txgCarrier g))) = true) (ha : s.airRunning = true) (hgs : s.obj O.guardState = 1)
    (hm : s.carrierMuted (s.nat (O.txgCarrier g)) = false)
    (hw : windowAt s (s.nat (O.txgCarrier g)) (s.symbolOf (s.nat (O.txgCarrier g)) s.airNow) = some .always)
    (hgap : gapMutes s (s.nat (O.txgCarrier g)) s.airNow = false) : execTxgateEdge g true s = .next (setGate g true s) := by
  rw [execTxgateEdge, if_neg (show ¬ 16 ≤ g from Nat.not_le.mpr hg)]
  dsimp only
  rw [if_neg (Nat.not_le.mpr h), if_neg (by simp [he]), if_neg (by simp [ha]), if_pos hw, if_neg (by simp [hgap]),
    if_pos (by simp [hgs, hm])]

/-! ## Windows -/

/-- The state with a window of a carrier opened at a symbol. -/
def withOpened (n : Nat) (q : Int) (s : State) : State := { s with dfe := { s.dfe with opened := Store.put s.dfe.opened n q } }

theorem withOpened_leaves (n : Nat) (q : Int) (s : State) {ks : List Nat} : Leaves s (withOpened n q s) [.dfe] ks := Leaves.setDfe _ _ (by decide)

/-- Whether a symbol is sent does not depend on the windows that have opened. -/
theorem symbolShut_withOpened (n : Nat) (q r : Int) (s : State) : symbolShut (withOpened n q s) n r = symbolShut s n r := by
  rfl

/-- The symbol from which a carrier's next window is sought. -/
def soughtFrom (n : Nat) (s : State) : Int := max (s.symbolOf n s.airNow) (Store.at (-1) s.dfe.opened n + 1)

/-- The state at the opening of a window. -/
def atOpening (n : Nat) (q : Int) (s : State) : State := withOpened n q (advanceToAir s (s.symbolAir n q))

theorem execTxWindowOpen_eq {n : Nat} {q : Int} {s : State} (hn : n < 64) (he : s.holds (O.carrierEnable n) = true) (ha : s.airRunning = true)
    (hd : s.obj (O.duplex n) ≠ 0) (hw : windowAt s n (s.symbolOf n s.airNow) ≠ some .always)
    (hf : s.airNow ≤ s.symbolAir n (soughtFrom n s)) (hq : nextOpening s n (soughtFrom n s) = some q) :
    execTxWindowOpen n s = .next (if symbolShut (advanceToAir s (s.symbolAir n q)) n q = .passes then (atOpening n q s).setObj (O.txwOpen n) 1
      else (atOpening n q s).bump (O.windowsClosed n) 1) := by
  have hfrom : (if s.symbolAir n (soughtFrom n s) < s.airNow then soughtFrom n s + 1 else soughtFrom n s) = soughtFrom n s :=
    if_neg (Int.not_lt.mpr hf)
  rw [execTxWindowOpen, if_neg (show ¬ 64 ≤ n from Nat.not_le.mpr hn), if_neg (by simp [he, ha]), if_neg (by simp [hd, hw])]
  dsimp only
  rw [← soughtFrom, hfrom, hq]
  dsimp only
  rw [← symbolShut_withOpened n q q (advanceToAir s (s.symbolAir n q)), ← withOpened, ← atOpening]
  cases symbolShut (atOpening n q s) n q with
  | passes => rfl
  | gap => rfl
  | closure => rfl
  | outside => rfl

theorem atOpening_leaves (n : Nat) (q : Int) (s : State) : Leaves s (atOpening n q s) (.dfe :: timeParts) [] :=
  Leaves.trans (Leaves.advanceToAir _ _ (by decide)) (Leaves.mono (withOpened_leaves n q _ (ks := [])) (by decide) (by simp))

theorem atOpening_opened (n : Nat) (q : Int) (s : State) : Store.find (atOpening n q s).dfe.opened n = some q := Store.find_put_same ..

theorem txwOpen_notClosed (n : Nat) : O.txwOpen n ≠ O.windowsClosed n := by
  simp only [O.txwOpen, O.windowsClosed, ne_eq]
  omega

theorem execTxWindowClose_eq {n : Nat} {q : Int} {s : State} (hn : n < 64) (ho : s.obj (O.txwOpen n) = 1) (hd : s.obj (O.duplex n) ≠ 0)
    (hq : nextClosing s n (Store.at 0 s.dfe.opened n + 1) = some q) :
    execTxWindowClose n s = .next ((advanceToAir s (s.symbolAir n q)).setObj (O.txwOpen n) 0) := by
  rw [execTxWindowClose, if_neg (show ¬ 64 ≤ n from Nat.not_le.mpr hn), if_neg (by simp [ho, hd]), hq]

end Sys2Proof.Machine
open Sys2Proof Sys2Proof.Machine Sys2Proof.Safety

/-- Settles O33: the opening, the closing and the gate each by its case of the command (`execTxWindowOpen_eq`, `setGate_shows`). -/
theorem transmitWindows : Obligations.TransmitWindows := by
  unfold Obligations.TransmitWindows
  refine ⟨fun n q s hn he ha hd hw hf hq => ?_, fun n q s hn ho hd hq => ?_, fun g s hg hn he ha hgs hm hw hgap => ?_, fun g active s hg hn => ?_⟩
  · have hl := atOpening_leaves n q s
    refine ⟨_, execTxWindowOpen_eq hn (by simpa [State.holds, stOff] using he) ha hd hw hf hq, ?_⟩
    by_cases hs : symbolShut (advanceToAir s (s.symbolAir n q)) n q = .passes
    · rw [if_pos hs, if_pos hs]
      refine ⟨atOpening_opened n q s, ⟨State.obj_setObj_same .., ?_⟩, Leaves.trans (Leaves.mono hl (by decide) (by simp))
        (Leaves.setObj _ _ _ (by decide) (by simp))⟩
      rw [State.obj_setObj_ne _ _ _ _ (txwOpen_notClosed n).symm, hl.2 _ (by simp)]
    · rw [if_neg hs, if_neg hs]
      refine ⟨atOpening_opened n q s, ⟨?_, (State.obj_bump_same ..).trans ?_⟩, Leaves.trans (Leaves.mono hl (by decide) (by simp))
        (Leaves.bump _ _ _ (by decide) (by simp))⟩
      · rw [State.obj_bump_ne _ _ _ _ (txwOpen_notClosed n), hl.2 _ (by simp)]
      · rw [State.nat, hl.2 _ (by simp), State.nat]
  · exact ⟨_, execTxWindowClose_eq hn ho hd hq, State.obj_setObj_same .., rfl,
      Leaves.trans (Leaves.advanceToAir _ _ (by decide)) (Leaves.setObj _ _ _ (by decide) (by simp))⟩
  · obtain ⟨h1, h2, h3⟩ := setGate_shows hg true s
    exact ⟨_, execTxgateEdge_always hg hn (by simpa [State.holds, stOff] using he) ha hgs hm hw hgap, h1, h2, h3⟩
  · obtain ⟨h1, -, h3⟩ := setGate_shows hg false s
    exact ⟨_, execTxgateEdge_none hg hn, h1, h3⟩
end

section
/-! SUPPORT. A course that ends: what its end, the withdrawal of its operations and the request of its outcome change (03 R104; 06 R220; 13 R451). -/
namespace Sys2Proof.Machine
open Sys2Proof.Safety

/-! ## Parts that are replaced whole -/

theorem Leaves.setLink (s : State) (x : Link) {ps : List Part} {ks : List Nat} (h : Part.link ∈ ps) : Leaves s { s with link := x } ps ks :=
  Leaves.of_dict (fun p hp => by cases p <;> simp_all [Part.same]) rfl

theorem Leaves.setPipe (s : State) (x : Pipe) {ps : List Part} {ks : List Nat} (h : Part.pipe ∈ ps) : Leaves s { s with pipe := x } ps ks :=
  Leaves.of_dict (fun p hp => by cases p <;> simp_all [Part.same]) rfl

theorem Leaves.setKiln (s : State) (x : Kiln) {ps : List Part} {ks : List Nat} (h : Part.kiln ∈ ps) : Leaves s { s with kiln := x } ps ks :=
  Leaves.of_dict (fun p hp => by cases p <;> simp_all [Part.same]) rfl

theorem Leaves.setSched (s : State) (x : Sched) {ps : List Part} {ks : List Nat} (h : Part.sched ∈ ps) : Leaves s { s with sched := x } ps ks :=
  Leaves.of_dict (fun p hp => by cases p <;> simp_all [Part.same]) rfl

theorem Leaves.setSvc (s : State) (x : Service) {ps : List Part} {ks : List Nat} (h : Part.svc ∈ ps) : Leaves s { s with svc := x } ps ks :=
  Leaves.of_dict (fun p hp => by cases p <;> simp_all [Part.same]) rfl

theorem Leaves.onLink (s : State) (f : Link → Link) {ps : List Part} {ks : List Nat} (h : Part.link ∈ ps) : Leaves s (s.onLink f) ps ks :=
  Leaves.setLink s _ h

theorem Leaves.setOps (s : State) (x : Store Op) {ps : List Part} {ks : List Nat} (h : Part.sched ∈ ps) : Leaves s (s.setOps x) ps ks :=
  Leaves.setSched s _ h

theorem Leaves.onCourse (s : State) (k : Nat) (f : Course → Course) {ps : List Part} {ks : List Nat} (h : Part.pipe ∈ ps) :
    Leaves s (s.onCourse k f) ps ks :=
  Leaves.of_dict (fun p hp => by cases p <;> simp_all [Part.same]) (by simp)

theorem course_congr {s t : State} (h : t.pipe = s.pipe) (k : Nat) : t.course k = s.course k := by rw [State.course, h, State.course]

theorem onCourse_course (s : State) (k : Nat) (f : Course → Course) (j : Nat) :
    (s.onCourse k f).course j = if j = k then (s.course k).map f else s.course j := by
  unfold State.onCourse
  cases h : s.course k with
  | none =>
    dsimp only
    split
    · next hj => rw [hj, h, Option.map_none]
    · rfl
  | some c =>
    dsimp only
    split
    · next hj =>
      subst hj
      exact Store.find_put_same ..
    · next hj => exact Store.find_put_ne _ _ _ _ hj

/-! ## The end of a course -/

theorem voidBlock_leaves (s : State) (j : Job) {ks : List Nat} : Leaves s (s.voidBlock j) [.kiln] ks := by
  unfold State.voidBlock
  exact Leaves.ite _ (Leaves.refl ..) (Leaves.setKiln _ _ (by decide))

theorem dropKilnJob_leaves (tag : Nat) (s : State) : Leaves s (dropKilnJob tag s) [.dict, .kiln] [O.iterations] := by
  unfold dropKilnJob
  split
  · exact Leaves.trans (Leaves.ite _ (Leaves.refl ..) (Leaves.bump _ _ _ (by decide) (by simp)))
      (Leaves.trans (Leaves.setKiln _ _ (by decide)) (Leaves.mono (voidBlock_leaves _ _ (ks := [])) (by decide) (by simp)))
  · exact Leaves.refl ..

theorem withdrawJob_leaves (s : State) (tag : Nat) : Leaves s (withdrawJob s tag) [.dict, .kiln] [O.cancelledJobs, O.iterations] := by
  unfold withdrawJob
  exact Leaves.ite _ (Leaves.trans (Leaves.bump _ _ _ (by decide) (by simp)) (Leaves.mono (dropKilnJob_leaves ..) (by decide) (by simp)))
    (Leaves.refl ..)

theorem dropOps_leaves (key : Nat) (s : State) : Leaves s (dropOps key s) [.dict, .kiln, .sched] [O.cancelledJobs, O.iterations] := by
  unfold dropOps
  exact Leaves.trans (Leaves.mono (Leaves.foldl _ _ (fun tag _ s => withdrawJob_leaves s tag) s) (by decide) (by simp))
    (Leaves.setOps _ _ (by decide))

theorem writeLoading_leaves (key : Nat) (c : Course) (s : State) :
    Leaves s (writeLoading key c s) [.dict, .blobs] [O.loadUpdates (key / 2 ^ 32 - 1)] :=
  Leaves.trans (Leaves.setBlob _ _ _ (by decide)) (Leaves.bump _ _ _ (by decide) (by simp))

/-- A course that has ended. -/
def endedCourse (c : Course) : Course := if c.state == .closed || c.state == .ended then c else { c with state := .ended }

theorem endCourse_leaves (key : Nat) (s : State) :
    Leaves s (endCourse key s) [.dict, .blobs, .pipe, .wb] [O.loadUpdates (key / 2 ^ 32 - 1)] := by
  unfold endCourse
  split
  · exact Leaves.ite _ (Leaves.refl ..) (Leaves.trans (Leaves.ite _
      (Leaves.trans (Leaves.onCourse _ _ _ (by decide)) (Leaves.mono (writeLoading_leaves ..) (by decide) (by simp)))
      (Leaves.onCourse _ _ _ (by decide))) (Leaves.mono (retireBanks_leaves _ (ks := [])) (by decide) (by simp)))
  · exact Leaves.refl ..

theorem endCourse_course (key : Nat) (s : State) (j : Nat) :
    (endCourse key s).course j = if j = key then (s.course key).map endedCourse else s.course j := by
  unfold endCourse
  cases h : s.course key with
  | none =>
    dsimp only
    split
    · next hj => rw [hj, h, Option.map_none]
    · rfl
  | some c =>
    by_cases hc : (c.state == .closed || c.state == .ended) = true
    · simp only [hc, if_true, Option.map_some, endedCourse]
      split
      · next hj => rw [hj, h]
      · rfl
    · simp only [hc, Bool.false_eq_true, if_false, Option.map_some, endedCourse]
      have hp : ∀ u : State, (retireBanks (if dirOf (key % 2 ^ 32) == 1 then writeLoading key c u else u)).course j = u.course j := fun u => by
        refine course_congr ?_ j
        show (if dirOf (key % 2 ^ 32) == 1 then writeLoading key c u else u).pipe = u.pipe
        split <;> rfl
      rw [hp, onCourse_course, h]
      rfl

theorem askOutcome_leaves (key : Nat) (s : State) {ks : List Nat} : Leaves s (askOutcome key s) [.link] ks := by
  unfold askOutcome
  exact Leaves.ite _ (Leaves.refl ..) (Leaves.setLink _ _ (by decide))

theorem askOutcome_sent (key : Nat) (s : State) : (askOutcome key s).link.sent = s.link.sent ∧ (askOutcome key s).link.chans = s.link.chans := by
  unfold askOutcome
  split
  · exact ⟨rfl, rfl⟩
  · exact ⟨rfl, rfl⟩

/-- The objects that the cancel of a course may change. -/
def cancelKeys (key : Nat) : List Nat := [O.loadUpdates (key / 2 ^ 32 - 1), O.cancelledJobs, O.iterations]

theorem cancelCourse_leaves (key : Nat) (s : State) :
    Leaves s (cancelCourse key s) [.dict, .blobs, .kiln, .link, .pipe, .sched, .wb] (cancelKeys key) := by
  unfold cancelCourse
  exact Leaves.trans (Leaves.trans (Leaves.trans (Leaves.mono (endCourse_leaves ..) (by decide) (by simp [cancelKeys]))
    (Leaves.onCourse _ _ _ (by decide))) (Leaves.mono (dropOps_leaves ..) (by decide) (by simp [cancelKeys])))
    (Leaves.mono (askOutcome_leaves _ _ (ks := [])) (by decide) (by simp))

theorem cancelCourse_link (key : Nat) (s : State) : (cancelCourse key s).link.sent = s.link.sent
    ∧ (cancelCourse key s).link.chans = s.link.chans := by
  have hl : (dropOps key ((endCourse key s).onCourse key fun c => { c with cancelled := true })).link = s.link :=
    ((dropOps_leaves ..).1 .link (by decide)).trans ((State.onCourse_link ..).trans ((endCourse_leaves key s).1 .link (by decide)))
  unfold cancelCourse
  rw [(askOutcome_sent _ _).1, (askOutcome_sent _ _).2, hl]
  exact ⟨rfl, rfl⟩

theorem cancelCourse_course (key : Nat) (s : State) (j : Nat) : (cancelCourse key s).course j
    = if j = key then (s.course key).map fun c => { endedCourse c with cancelled := true } else s.course j := by
  unfold cancelCourse
  rw [course_congr ((askOutcome_leaves key _ (ks := [])).1 .pipe (by decide)), course_congr ((dropOps_leaves key _).1 .pipe (by decide)),
    onCourse_course, endCourse_course, endCourse_course, if_pos rfl]
  split
  · rw [Option.map_map]
    rfl
  · rfl

end Sys2Proof.Machine
end

section
/-! SUPPORT. A session that closes, and SESSION_HOLD (04 R137; 05 R168): what the close changes, and a write whose tests fail. -/
namespace Sys2Proof.Machine
open Sys2Proof.Safety

/-! ## A write whose tests fail -/

/-- The tests 1 to 6 of 05 R168 fail, and the write is answered with the reason of the first. -/
theorem hostWrite_failed {x : Xfer} {key : Nat} {v : Val} {act : Action} {s : State} {r : Reason} (hs : s.ready = true)
    (hl : lengthOf key v ≤ 1024) (ht : writeTests key (lengthOf key v) v s = r) (hr : r ≠ .ok) :
    hostWrite x key v act s = replyWrite x.seq key 0 (lastOffset (lengthOf key v)) (lengthOf key v) r (advance s x.dt) := by
  subst ht
  rw [← writeTests_advance key _ v s x.dt] at hr
  rw [← writeTests_advance key _ v s x.dt]
  unfold hostWrite
  simp only [State.ready_advance, hs, if_true]
  unfold serveWhole serveMessage
  simp only [valueBytes_length, hl, if_true]

theorem countReply_refused (s : State) {r : Reason} (h1 : r ≠ .ok) (h2 : r ≠ .pending) : Counted s (countReply r s) O.transfersRefused 1 := by
  have h3 : (s.bump O.transfersServed 1).nat O.transfersRefused = s.nat O.transfersRefused := by
    rw [State.nat, State.obj_bump_ne _ _ _ _ (by decide), State.nat]
  have hb : ((s.bump O.transfersServed 1).bump O.transfersRefused 1).obj O.transfersRefused
      = ((s.nat O.transfersRefused + 1) % counterTop O.transfersRefused : Nat) := by rw [State.obj_bump_same, h3]
  have hc : (r != .ok && r != .pending) = true := by simp [h1, h2]
  unfold countReply Counted
  simp only [hc, if_true]
  split
  · rw [State.obj_bump_ne _ _ _ _ (by decide), hb]
  · exact hb

theorem enableByte_advance (key : Nat) (s : State) (n : Nat) : enableByte key (advance s n) = enableByte key s := by
  simp [enableByte, State.nat]

/-- The reply of a write at the state that time's passing leaves, where nothing else changes. -/
theorem replyWrite_advance (s : State) (x : Xfer) (key o n : Nat) (r : Reason) :
    (replyWrite x.seq key 0 o n r (advance s x.dt)).link.sent
        = s.link.sent ++ [.dictReply ⟨x.seq, 0x0302, r, key, 0, o, n, enableByte key s, [], false⟩]
      ∧ SameBut s (replyWrite x.seq key 0 o n r (advance s x.dt)) (.dict :: .link :: timeParts)
      ∧ ObjsBut s (replyWrite x.seq key 0 o n r (advance s x.dt)) [] := by
  refine ⟨by simp [enableByte_advance], fun p hp => ?_, fun k _ hk => ?_⟩
  · cases p <;> simp_all [Part.same, timeParts]
  · simp only [List.mem_cons, List.not_mem_nil, or_false, not_or] at hk
    rw [replyWrite_obj _ _ _ _ _ _ _ _ hk.1 hk.2.1 hk.2.2, State.obj_advance]

theorem hostWrite_failed_answers {x : Xfer} {key : Nat} {v : Val} {act : Action} {s : State} {r : Reason} (hs : s.ready = true)
    (hl : lengthOf key v ≤ 1024) (ht : writeTests key (lengthOf key v) v s = r) (h1 : r ≠ .ok) (h2 : r ≠ .pending) :
    Answers s (hostWrite x key v act s) x key v r [] [] ∧ Counted s (hostWrite x key v act s) O.transfersRefused 1 := by
  rw [hostWrite_failed hs hl ht h1]
  obtain ⟨hsent, hsame, hobj⟩ := replyWrite_advance s x key (lastOffset (lengthOf key v)) (lengthOf key v) r
  refine ⟨⟨?_, ?_, hobj⟩, ?_⟩
  · rw [Replied, enableByte_replyWrite, enableByte_advance]
    exact hsent
  · rw [if_pos hl]
    exact hsame
  · have := countReply_refused (advance s x.dt) h1 h2
    rwa [Counted, State.nat, State.obj_advance] at this

/-! ## The close of a session -/

/-- The objects that the close of a session may change. -/
def CloseKey (k : Nat) : Prop := (∃ n, k = O.loadUpdates n) ∨ k ∈ [O.cancelledJobs, O.iterations, O.sessionState]

/-- The parts that the close of a session may change. -/
def closeParts : List Part := [.dict, .blobs, .kiln, .link, .pipe, .sched, .wb]

theorem not_closeKey_sessionHold : ¬ CloseKey O.sessionHold := by
  rintro (⟨n, hn⟩ | h)
  · simp only [O.sessionHold, O.loadUpdates] at hn
    omega
  · exact absurd h (by decide)

theorem not_closeKey_changeCount : ¬ CloseKey O.changeCount := by
  rintro (⟨n, hn⟩ | h)
  · simp only [O.changeCount, O.loadUpdates] at hn
    omega
  · exact absurd h (by decide)

theorem cancelWhere_moves (sel : Nat → Bool) (s : State) : Moves closeParts CloseKey s (cancelWhere sel s) := by
  refine Moves.foldl _ _ (fun k _ s => Moves.of_leaves (cancelCourse_leaves k s) fun j hj => ?_) s
  simp only [cancelKeys, List.mem_cons, List.not_mem_nil, or_false] at hj
  rcases hj with rfl | rfl | rfl
  · exact .inl ⟨_, rfl⟩
  · exact .inr (by decide)
  · exact .inr (by decide)

theorem cancelWhere_sent (sel : Nat → Bool) (s : State) : (cancelWhere sel s).link.sent = s.link.sent := by
  exact foldl_proj (fun t : State => t.link.sent) (f := fun s k => cancelCourse k s) (fun k s => (cancelCourse_link k s).1) _ s

/-- The courses of a session that has closed. -/
def closedCourses (cs : Store Course) : Store Course :=
  cs.map fun c => (c.1, if c.2.journalled then { c.2 with state := .closed } else { c.2 with noOutcome := true })

/-- The link of a session that has closed. -/
def closedLink (l : Link) : Link := { l with
  holder := 0, cause := 0, suspended := 0, chans := []
  journal := l.journal.filter fun w => match w with
    | .verdict .. => false
    | .outcome .. => true }

theorem closeSession_eq (s : State) : closeSession s
    = (((({ cancelWhere (fun _ => true) s with
        pipe := { (cancelWhere (fun _ => true) s).pipe with courses := closedCourses (cancelWhere (fun _ => true) s).pipe.courses } } : State)
      ).onLink closedLink).setObj O.sessionState 0).setBlob O.hostId (List.replicate 16 0) := rfl

theorem closeSession_moves (s : State) : Moves closeParts CloseKey s (closeSession s) := by
  rw [closeSession_eq]
  exact ((((cancelWhere_moves _ s).trans (Moves.of_leaves (ks := []) (Leaves.setPipe _ _ (by decide)) nofun)).trans
    (Moves.of_leaves (ks := []) (Leaves.onLink _ _ (by decide)) nofun)).trans
    (Moves.setObj _ _ _ (by decide) (.inr (by decide)))).trans (Moves.setBlob _ _ _ (by decide))

theorem closeSession_state (s : State) : (closeSession s).obj O.sessionState = 0 := by
  rw [closeSession_eq, State.obj_setBlob, State.obj_setObj_same]

theorem closeSession_hostId (s : State) : (closeSession s).blob O.hostId = List.replicate 16 0 := by
  rw [closeSession_eq, State.blob_setBlob_same]

/-- A closed session has no holder and no channels, and its close sends nothing. -/
theorem closeSession_link (s : State) : (closeSession s).link.holder = 0 ∧ (closeSession s).link.chans = []
    ∧ (closeSession s).link.sent = s.link.sent :=
  ⟨rfl, rfl, cancelWhere_sent _ s⟩

/-! ## SESSION_HOLD -/

theorem execSessionHoldExpiry_due {s : State} (h1 : s.obj O.sessionState = 2) (h2 : s.obj O.sessionHold ≠ 0) : execSessionHoldExpiry s
    = .next (closeSession (advanceTicks s (s.link.suspended + s.nat O.sessionHold * tickSecond))) :=
  if_pos (by simp [h1, h2])

/-- The value of SESSION_HOLD has elapsed since the session was suspended. -/
def holdElapsed (v : Int) (s : State) : Bool :=
  s.obj O.sessionState == 2 && v != 0 && decide (s.link.suspended + v.toNat * tickSecond ≤ s.clock.ticks)

theorem actSessionHold_eq (v : Int) (s : State) : actSessionHold v s = (.ok, if holdElapsed v (s.change O.sessionHold v) then
    closeSession (s.change O.sessionHold v) else s.change O.sessionHold v) := rfl

theorem holdElapsed_advance (s : State) (v : Int) (n : Nat) : holdElapsed v ((advance s n).change O.sessionHold v) = true
    ↔ s.obj O.sessionState = 2 ∧ v ≠ 0 ∧ s.link.suspended + v.toNat * 156250000 ≤ s.clock.ticks + n := by
  unfold holdElapsed
  rw [State.obj_change_ne _ _ _ _ (by decide) (by decide), State.obj_advance, State.change_link, State.change_clock, advance_link, advance_ticks,
    Bool.and_eq_true, Bool.and_eq_true, beq_iff_eq, bne_iff_ne, decide_eq_true_iff, and_assoc]
  rfl

theorem change_sessionHold (s : State) (v : Int) : Leaves s (s.change O.sessionHold v) [.dict] [O.sessionHold, O.changeCount] :=
  Leaves.change _ _ _ (by decide) (by decide) (by decide)

/-- A write of SESSION_HOLD that has elapsed closes the session. -/
theorem writeSessionHold_closes {x : Xfer} {v : Int} {s : State} (h : Accepts s x O.sessionHold (.num v))
    (hc : holdElapsed v ((advance s x.dt).change O.sessionHold v) = true) :
    let t := hostWrite x O.sessionHold (.num v) (actSessionHold v) s
    t.obj O.sessionHold = v ∧ t.obj O.sessionState = 0 ∧ t.link.holder = 0 ∧ t.link.chans = [] ∧ t.blob O.hostId = List.replicate 16 0
      ∧ Replied s t x O.sessionHold (.num v) .ok
      ∧ SameBut s t (.dict :: .blobs :: .kiln :: .link :: .pipe :: .sched :: .wb :: timeParts) := by
  intro t
  have ha : actSessionHold v (atWrite s x O.sessionHold (.num v)) = (.ok, closeSession ((advance s x.dt).change O.sessionHold v)) := by
    rw [atWrite_num, actSessionHold_eq, if_pos hc]
  have hm := closeSession_moves ((advance s x.dt).change O.sessionHold v)
  have hsent : (closeSession ((advance s x.dt).change O.sessionHold v)).link.sent = s.link.sent := by
    rw [(closeSession_link _).2.2, State.change_link, advance_link]
  have hp : SameBut s (closeSession ((advance s x.dt).change O.sessionHold v))
      (.dict :: .blobs :: .kiln :: .link :: .pipe :: .sched :: .wb :: timeParts) :=
    SameBut.trans (SameBut.trans (SameBut.advance s x.dt _ (by decide)) (SameBut.mono (change_sessionHold _ _).1 (by decide)))
      (SameBut.mono hm.same (by decide))
  have hr := hostWrite_served x O.sessionHold (.num v) (actSessionHold v) s h
  rw [ha] at hr
  refine ⟨?_, ?_, ?_, ?_, ?_, ?_, SameBut.hostWrite x _ _ _ s _ h (by rwa [ha]) (by decide) (by decide)⟩
  · rw [hostWrite_obj x _ _ _ s h _ (by decide) (by decide) (by decide), ha]
    exact (hm.obj _ not_closeKey_sessionHold).trans (State.obj_change_same _ _ _ (by decide))
  · rw [hostWrite_obj x _ _ _ s h _ (by decide) (by decide) (by decide), ha]
    exact closeSession_state _
  · show (hostWrite x O.sessionHold (.num v) (actSessionHold v) s).link.holder = 0
    rw [hr, replyWrite]
    exact (congrArg Link.holder (countReply_link .ok _)).trans (closeSession_link _).1
  · show (hostWrite x O.sessionHold (.num v) (actSessionHold v) s).link.chans = []
    rw [hr, replyWrite]
    exact (congrArg Link.chans (countReply_link .ok _)).trans (closeSession_link _).2.1
  · rw [hostWrite_blob x _ _ _ s h, ha]
    exact closeSession_hostId _
  · have := hostWrite_replied x _ _ (actSessionHold v) s h (by rw [ha]; exact hsent)
    rwa [ha] at this

/-- Any other write of it is answered, and changes nothing else. -/
theorem writeSessionHold_stays {x : Xfer} {v : Int} {s : State} (h : Accepts s x O.sessionHold (.num v))
    (hc : ¬ holdElapsed v ((advance s x.dt).change O.sessionHold v) = true) :
    (hostWrite x O.sessionHold (.num v) (actSessionHold v) s).obj O.sessionHold = v
      ∧ Answers s (hostWrite x O.sessionHold (.num v) (actSessionHold v) s) x O.sessionHold (.num v) .ok [] [O.sessionHold, O.changeCount] := by
  have ha : actSessionHold v (atWrite s x O.sessionHold (.num v)) = (.ok, (atWrite s x O.sessionHold (.num v)).change O.sessionHold v) := by
    rw [atWrite_num, actSessionHold_eq, if_neg hc]
  obtain ⟨hans, hobj⟩ := hostWrite_answers h ha (change_sessionHold _ _) (by decide)
  exact ⟨(hobj _ (by decide)).trans (State.obj_change_same _ _ _ (by decide)), hans⟩

theorem writeTests_sessionHold_none {s : State} (v : Int) (h : s.obj O.sessionState = 0) :
    writeTests O.sessionHold (lengthOf O.sessionHold (.num v)) (.num v) s = .noSession :=
  if_pos (by simp [lacksSession, h])

end Sys2Proof.Machine
open Sys2Proof Sys2Proof.Machine Sys2Proof.Safety

/-- Settles O15: a value that has elapsed closes the session, without one the write fails its first test, and the end of the hold closes it too. -/
theorem sessionHold : Obligations.SessionHold := by
  unfold Obligations.SessionHold
  refine ⟨fun x v s h => ?_, fun x v s hs h0 => ?_, fun s h1 h2 => ?_⟩
  · by_cases hc : holdElapsed v ((advance s x.dt).change O.sessionHold v) = true
    · obtain ⟨hv, hrest⟩ := writeSessionHold_closes h hc
      refine ⟨_, rfl, hv, ?_⟩
      rw [if_pos ((holdElapsed_advance s v x.dt).mp hc)]
      exact hrest
    · obtain ⟨hv, hans⟩ := writeSessionHold_stays h hc
      refine ⟨_, rfl, hv, ?_⟩
      rw [if_neg (fun hh => hc ((holdElapsed_advance s v x.dt).mpr hh))]
      exact hans
  · obtain ⟨hans, hcount⟩ := hostWrite_failed_answers (act := actSessionHold v) (x := x) hs (lengthOf_num _ v)
      (writeTests_sessionHold_none v h0) (by decide) (by decide)
    exact ⟨_, rfl, hans.2.2 _ (by decide) (by decide), hcount, hans⟩
  · have hl : SameBut s (advanceTicks s (s.link.suspended + s.nat O.sessionHold * tickSecond)) timeParts :=
      SameBut.advance _ _ _ (fun p hp => hp)
    have hm := closeSession_moves (advanceTicks s (s.link.suspended + s.nat O.sessionHold * tickSecond))
    obtain ⟨hh, hchans, hsent⟩ := closeSession_link (advanceTicks s (s.link.suspended + s.nat O.sessionHold * tickSecond))
    refine ⟨_, execSessionHoldExpiry_due h1 h2, closeSession_state _, hh, hchans, closeSession_hostId _, ?_, ?_,
      SameBut.trans (SameBut.mono hl (by decide)) (SameBut.mono hm.same (by decide))⟩
    · rw [hm.same .clock (by decide)]
      exact le_advanceTicks s _
    · rw [hsent, hl .link (by decide)]
end

section
/-! SUPPORT. Dictionary reads as they are served (05 R168 to R170). -/
namespace Sys2Proof.Machine
open Sys2Proof.Safety

/-- Where channel 0 is served, a message is served as it arrives, and nothing waits behind it. -/
theorem arrive_ready {x : Xfer} {m : Transfer} {s : State} (hr : s.ready = true)
    (hh : (serve x.seq m (advance s x.dt)).svc.held = []) : arrive x m s = serve x.seq m (advance s x.dt) := by
  have hn : servedNow m (advance s x.dt) = true := by simp [servedNow, hr]
  rw [arrive, if_pos hn, serveHeld_of_none hh]

theorem expireSegments_advance_of_quiet {s : State} (h : Quiet s) (n : Nat) : expireSegments (advance s n) = advance s n := by
  obtain ⟨-, -, hl, hb, hd⟩ := h
  exact expireSegments_of_quiet (by simpa using hl) (by simpa using hb) (by simpa using hd)

/-- A read that arrives while nothing of channel 0 is held or in segments. -/
theorem arrive_read {x : Xfer} {key layer offset most : Nat} {s : State} (h : Quiet s)
    (hh : (serveRead x.seq key layer offset most (advance s x.dt)).svc.held = []) :
    arrive x (.read key layer offset most) s = serveRead x.seq key layer offset most (advance s x.dt) := by
  have he : serve x.seq (.read key layer offset most) (advance s x.dt) = serveRead x.seq key layer offset most (advance s x.dt) := by
    rw [serve, expireSegments_advance_of_quiet h]
  rw [arrive_ready h.1 (by rwa [he]), he]

/-- The reply of a read at the state that time's passing leaves. -/
theorem replyRead_advance (s : State) (q n key l : Nat) (r : Reason) (o : Nat) (v d : Bytes) :
    (replyRead q key l r o v d (advance s n)).link.sent = s.link.sent ++ [.dictReply ⟨q, 0x0301, r, key, l, o, v.length, enableByte key s, d,
        r == .ok && (decide (o + d.length < v.length) || o != 0)⟩]
      ∧ SameBut s (replyRead q key l r o v d (advance s n)) (.dict :: .link :: timeParts)
      ∧ ObjsBut s (replyRead q key l r o v d (advance s n)) [] := by
  refine ⟨?_, SameBut.trans (SameBut.advance s n _ (by decide)) (SameBut.mono (ps := [.dict, .link]) (replyRead_sameBut _ _ _ _ _ _ _ _) (by decide)), fun k _ hk => ?_⟩
  · simp [replyRead, enableByte_advance]
  · rw [replyRead_obj _ _ _ _ _ _ _ _ _ hk, State.obj_advance]

/-! ## A read at offset 0 -/

/-- Whether the reply of a read at offset 0 pops the object's oldest entry. -/
def popsAt (key layer : Nat) (s : State) : Bool :=
  layer == 0 && ((rowOf key).map fun r => bitOf r.flags 1).getD false && (popHead key s).isSome

theorem popsAt_of_not {key layer : Nat} {s : State}
    (h : layer = 0 → popHead key s = none ∨ ((rowOf key).map fun r => bitOf r.flags 1) = some false) : popsAt key layer s = false := by
  unfold popsAt
  by_cases hl : layer = 0
  · rcases h hl with hp | hp
    · rw [hp]
      simp
    · rw [hp]
      simp
  · simp [hl]

/-- The latch that a read of a longer value leaves. -/
def withLatch (key layer n : Nat) (value : Bytes) (s : State) : State :=
  { s with svc := { s.svc with latch := some ⟨key, layer, value, n, s.clock.ticks⟩ } }

theorem readStart_stays {seq key layer most : Nat} {value : Bytes} {s : State} (hp : popsAt key layer s = false) :
    readStart seq key layer most value s = replyRead seq key layer .ok 0 value (value.take (wanted most))
      (if wanted most < value.length then withLatch key layer (wanted most) value s else s) :=
  if_neg (c := popsAt key layer s = true) (Bool.eq_false_iff.mp hp)

theorem readStart_short {seq key layer most : Nat} {value : Bytes} {s : State} (hv : value.length ≤ wanted most)
    (hp : popsAt key layer s = false) : readStart seq key layer most value s = replyRead seq key layer .ok 0 value value s := by
  rw [readStart_stays hp, if_neg (Nat.not_lt.mpr hv), List.take_of_length_le hv]

theorem readStart_long {seq key layer most : Nat} {value : Bytes} {s : State} (hv : wanted most < value.length)
    (hp : popsAt key layer s = false) : readStart seq key layer most value s
      = replyRead seq key layer .ok 0 value (value.take (wanted most)) (withLatch key layer (wanted most) value s) := by
  rw [readStart_stays hp, if_pos hv]

theorem serveRead_start {seq key layer most : Nat} {value : Bytes} {s : State} (h : readLayer key layer s = (.ok, value)) :
    serveRead seq key layer 0 most s = readStart seq key layer most value s := by
  rw [serveRead, h]
  rfl

theorem serveRead_refused {seq key layer offset most : Nat} {r : Reason} {b : Bytes} {s : State} (h : readLayer key layer s = (r, b))
    (hr : r ≠ .ok) : serveRead seq key layer offset most s = replyRead seq key layer r 0 [] [] s := by
  rw [serveRead, h]
  cases r with
  | ok => exact absurd rfl hr
  | _ => rfl

/-- A value that one message carries is returned whole. -/
theorem read_whole {x : Xfer} {key layer most : Nat} {value : Bytes} {s : State} (h : Quiet s)
    (hv : readLayer key layer (advance s x.dt) = (.ok, value)) (hl : value.length ≤ wanted most)
    (hp : layer = 0 → popHead key (advance s x.dt) = none ∨ ((rowOf key).map fun r => bitOf r.flags 1) = some false) :
    (arrive x (.read key layer 0 most) s).link.sent
        = s.link.sent ++ [.dictReply ⟨x.seq, 0x0301, .ok, key, layer, 0, value.length, enableByte key s, value, false⟩]
      ∧ SameBut s (arrive x (.read key layer 0 most) s) (.dict :: .link :: timeParts)
      ∧ ObjsBut s (arrive x (.read key layer 0 most) s) [] := by
  have he := (serveRead_start (seq := x.seq) (most := most) hv).trans (readStart_short hl (popsAt_of_not hp))
  rw [arrive_read h (by rw [he, replyRead_svc, advance_svc]; exact h.2.1), he]
  obtain ⟨hs, hrest⟩ := replyRead_advance s x.seq x.dt key layer .ok 0 value value
  refine ⟨?_, hrest⟩
  rw [hs]
  simp

/-- A longer value is latched, and its first part returned. -/
theorem read_latched {x : Xfer} {key layer most : Nat} {value : Bytes} {s : State} (h : Quiet s) (h0 : layer ≠ 0)
    (hv : readLayer key layer (advance s x.dt) = (.ok, value)) (hl : wanted most < value.length) :
    let t := arrive x (.read key layer 0 most) s
    t.svc.latch = some ⟨key, layer, value, wanted most, t.clock.ticks⟩
      ∧ t.link.sent = s.link.sent ++ [.dictReply ⟨x.seq, 0x0301, .ok, key, layer, 0, value.length, enableByte key s,
          value.take (wanted most), true⟩]
      ∧ SameBut s t (.dict :: .link :: .svc :: timeParts) ∧ ObjsBut s t [] := by
  intro t
  have he : serveRead x.seq key layer 0 most (advance s x.dt) = _ :=
    (serveRead_start hv).trans (readStart_long hl (popsAt_of_not fun hh => absurd hh h0))
  have ht : t = replyRead x.seq key layer .ok 0 value (value.take (wanted most))
      (withLatch key layer (wanted most) value (advance s x.dt)) := by
    refine Eq.trans (arrive_read h ?_) he
    rw [he, replyRead_svc]
    exact (congrArg Service.held (advance_svc s x.dt)).trans h.2.1
  rw [ht]
  refine ⟨by rw [replyRead_svc, replyRead_clock]; rfl, ?_, ?_, fun k _ hk => ?_⟩
  · have hb : enableByte key (withLatch key layer (wanted most) value (advance s x.dt)) = enableByte key s := enableByte_advance key s x.dt
    have hm : 0 + (value.take (wanted most)).length < value.length := by
      rw [Nat.zero_add, List.length_take]
      exact Nat.lt_of_le_of_lt (Nat.min_le_left _ _) hl
    have hk : (withLatch key layer (wanted most) value (advance s x.dt)).link = s.link := advance_link s x.dt
    simp only [replyRead, send_link_sent, countReply_link, hb, hk, hm]
    rfl
  · refine SameBut.trans (SameBut.trans (SameBut.advance s x.dt _ (by decide))
      ((Leaves.setSvc (ks := []) _ _ (by decide)).1)) (SameBut.mono (ps := [.dict, .link]) (replyRead_sameBut _ _ _ _ _ _ _ _) (by decide))
  · rw [replyRead_obj _ _ _ _ _ _ _ _ _ hk]
    exact State.obj_advance ..

/-! ## A read that continues -/

/-- What is left of a latch after its next part. -/
def latchLeft (l : ReadLatch) (n now : Nat) : Option ReadLatch :=
  if l.next + ((l.value.drop l.next).take n).length < l.value.length then
    some { l with next := l.next + ((l.value.drop l.next).take n).length, last := now } else none

theorem readOn_next {seq most : Nat} {l : ReadLatch} {s : State} (h : s.svc.latch = some l) :
    readOn seq l.key l.layer l.next most s
      = (countReply .ok ({ s with svc := { s.svc with latch := latchLeft l (wanted most) s.clock.ticks } } : State)).send
          (.dictReply ⟨seq, 0x0301, .ok, l.key, l.layer, l.next, l.value.length, enableByte l.key s, (l.value.drop l.next).take (wanted most),
            decide (l.next + ((l.value.drop l.next).take (wanted most)).length < l.value.length)⟩) := by
  unfold readOn
  rw [h]
  simp only [Bool.and_self, decide_true, if_true]
  rfl

theorem serveRead_next {seq key layer offset most : Nat} {s : State} (h : (readLayer key layer s).1 = .ok) (ho : 0 < offset) :
    serveRead seq key layer offset most s = readOn seq key layer offset most s := by
  have hv : readLayer key layer s = (.ok, (readLayer key layer s).2) := Prod.ext h rfl
  rw [serveRead, hv]
  exact if_neg (by omega)

/-- A latch that has not timed out stays. -/
theorem expireSegments_latched {l : ReadLatch} {s : State} (hl : s.svc.latch = some l) (hb : s.svc.buffer = none) (hd : s.svc.discarded = none)
    (ht : s.clock.ticks < l.last + segTicks s) : expireSegments s = s := by
  have h : timedOut s l.last = false := by
    rw [timedOut, decide_eq_false_iff_not]
    omega
  simp [expireSegments, expireMemory, expireBuffer, expireLatch, hl, hb, hd, h]

theorem read_continued {x : Xfer} {most : Nat} {l : ReadLatch} {s : State} (hr : s.ready = true) (hh : s.svc.held = [])
    (hb : s.svc.buffer = none) (hd : s.svc.discarded = none) (hl : s.svc.latch = some l) (hn : 0 < l.next)
    (ht : s.clock.ticks + x.dt < l.last + segTicks s) (hok : (readLayer l.key l.layer (advance s x.dt)).1 = .ok) :
    let t := arrive x (.read l.key l.layer l.next most) s
    t.link.sent = s.link.sent ++ [.dictReply ⟨x.seq, 0x0301, .ok, l.key, l.layer, l.next, l.value.length, enableByte l.key s,
          (l.value.drop l.next).take (wanted most), decide (l.next + ((l.value.drop l.next).take (wanted most)).length < l.value.length)⟩]
      ∧ SameBut s t (.dict :: .link :: .svc :: timeParts) ∧ ObjsBut s t [] := by
  intro t
  have hseg : segTicks (advance s x.dt) = segTicks s := by simp [segTicks, State.nat]
  have hla : (advance s x.dt).svc.latch = some l := by rw [advance_svc, hl]
  have hex : expireSegments (advance s x.dt) = advance s x.dt :=
    expireSegments_latched hla (by rw [advance_svc, hb]) (by rw [advance_svc, hd]) (by rw [advance_ticks, hseg]; exact ht)
  have he := (serveRead_next (seq := x.seq) (most := most) hok hn).trans (readOn_next hla)
  rw [show serveRead x.seq l.key l.layer l.next most (advance s x.dt) = serve x.seq (.read l.key l.layer l.next most) (advance s x.dt) by
    rw [serve, hex]] at he
  have ht' : t = _ := (arrive_ready hr (by
    rw [he]
    exact (congrArg Service.held (countReply_svc .ok _)).trans ((congrArg Service.held (advance_svc s x.dt)).trans hh))).trans he
  rw [ht', enableByte_advance]
  refine ⟨by simp, fun p hp => ?_, fun k _ hk => ?_⟩
  · cases p <;> simp_all [Part.same, timeParts, State.send]
  · simp only [List.mem_cons, List.not_mem_nil, or_false, not_or] at hk
    rw [State.obj_send, countReply_obj _ _ _ hk.1 hk.2.1 hk.2.2]
    exact State.obj_advance ..

/-! ## A read that is refused, and a descriptor -/

theorem readLayer_not_pending (key layer : Nat) (s : State) : (readLayer key layer s).1 ≠ .pending := by
  unfold readLayer
  split
  · exact nofun
  · split
    · exact nofun
    · repeat' split
      all_goals exact nofun

theorem read_refused {x : Xfer} {key layer most : Nat} {r : Reason} {b : Bytes} {s : State} (h : Quiet s)
    (hv : readLayer key layer (advance s x.dt) = (r, b)) (hr : r ≠ .ok) :
    let t := arrive x (.read key layer 0 most) s
    Counted s t O.transfersRefused 1
      ∧ t.link.sent = s.link.sent ++ [.dictReply ⟨x.seq, 0x0301, r, key, layer, 0, 0, enableByte key s, [], false⟩]
      ∧ SameBut s t (.dict :: .link :: timeParts) ∧ ObjsBut s t [] := by
  intro t
  have he := serveRead_refused (seq := x.seq) (offset := 0) (most := most) hv hr
  have ht : t = replyRead x.seq key layer r 0 [] [] (advance s x.dt) :=
    (arrive_read h (by rw [he, replyRead_svc, advance_svc]; exact h.2.1)).trans he
  have hpend : r ≠ .pending := by
    have := readLayer_not_pending key layer (advance s x.dt)
    rwa [hv] at this
  rw [ht]
  obtain ⟨hs, hrest⟩ := replyRead_advance s x.seq x.dt key layer r 0 [] []
  refine ⟨?_, ?_, hrest⟩
  · have := countReply_refused (advance s x.dt) hr hpend
    rwa [Counted, State.nat, State.obj_advance] at this
  · rw [hs]
    simp

theorem readLayer_descriptor {key : Nat} {r : ObjRow} {s : State} (hd : indexDefined (key / 256) = true) (hr : anyRow key = some r) :
    readLayer key 3 s = (.ok, descriptorOf r key) := by
  unfold readLayer
  rw [if_neg (by simp [hd]), hr]
  rfl

end Sys2Proof.Machine
open Sys2Proof Sys2Proof.Machine Sys2Proof.Safety

/-- Settles O16: a read is served at once, and each of its five forms is one branch of its service. -/
theorem dictReads : Obligations.DictReads := by
  unfold Obligations.DictReads
  refine ⟨fun x index sub layer most value s h hv hl hp => ⟨_, rfl, read_whole h hv hl hp⟩,
    fun x index sub layer most value s h h0 hv hl => ⟨_, rfl, read_latched h h0 hv hl⟩, fun x index sub layer most l s hr hh hb hd hl hk hy hn ht hok => ?_,
    fun x index sub layer most r b s h hv hr => ⟨_, rfl, read_refused h hv hr⟩, fun x index sub r s h hd hr hl => ⟨_, rfl, ?_⟩⟩
  · subst hy
    have he : exec (.dictRead x index sub l.layer l.next most) s = .next (arrive x (.read l.key l.layer l.next most) s) := by rw [hk]; rfl
    exact ⟨_, he, read_continued hr hh hb hd hl hn ht hok⟩
  · exact read_whole h (readLayer_descriptor hd hr) hl (fun hc => absurd hc (by decide))
end

section
/-! SUPPORT. Dictionary writes and reverts as they are served (05 R161, R165, R168, R171). -/
namespace Sys2Proof.Machine
open Sys2Proof.Safety

/-! ## The tests do not depend on time -/

@[simp] theorem accessTest_advance (r : ObjRow) (key : Nat) (s : State) (n : Nat) : accessTest r key (advance s n) = accessTest r key s := by
  simp [accessTest, compoundOk, State.isOff, State.noCarrier, State.chainUser, State.inGang, State.gang, State.nat]

@[simp] theorem newCarrierTest_advance (key : Nat) (v : Val) (s : State) (n : Nat) : newCarrierTest key v (advance s n) = newCarrierTest key v s := by
  simp [newCarrierTest, State.isOff, State.noCarrier, State.chainUser, State.inGang, State.gang, State.nat]

@[simp] theorem valueTests_advance (r : ObjRow) (key length : Nat) (v : Val) (s : State) (n : Nat) :
    valueTests r key length v (advance s n) = valueTests r key length v s := by
  simp [valueTests]

@[simp] theorem revertVal_advance (r : ObjRow) (key op : Nat) (s : State) (n : Nat) :
    revertVal r key op (advance s n) = revertVal r key op s := by
  simp [revertVal, imageVal]

@[simp] theorem revertTests_advance (r : ObjRow) (key op : Nat) (s : State) (n : Nat) :
    revertTests r key op (advance s n) = revertTests r key op s := by
  simp [revertTests]

/-- Tests that all pass pass in every shorter list. -/
theorem firstReason_cons_ok {r : Reason} {l : List Reason} : firstReason (r :: l) = .ok ↔ r = .ok ∧ firstReason l = .ok := by
  cases r <;> simp [firstReason]

theorem valueTests_parts {r : ObjRow} {key length : Nat} {v : Val} {s : State} (h : valueTests r key length v s = .ok) :
    accessTest r key s = .ok ∧ countTest length = .ok ∧ lengthTest r length = .ok := by
  simp only [valueTests, firstReason_cons_ok] at h
  exact ⟨h.1, h.2.1, h.2.2.1⟩

/-! ## A write that is judged -/

theorem writeObject_whole {r : ObjRow} {key : Nat} {data : Bytes} {s : State} (hl : data.length ≤ 1024)
    (ht : valueTests r key data.length (decodeVal r.type data) s = .ok) :
    writeObject r key 0 data.length data.length data s = actOf key (decodeVal r.type data) s := by
  obtain ⟨ha, hc, hn⟩ := valueTests_parts ht
  have hf : firstReason [accessTest r key s, countTest data.length, if 1024 < data.length then .typeLength else .ok, lengthTest r data.length]
      = .ok := by
    rw [ha, hc, hn, if_neg (by omega)]
    rfl
  rw [writeObject, hf, applyValue, ht]
  simp

/-- The buffer that the first segment of a longer value opens. -/
def withBuffer (key total : Nat) (data : Bytes) (s : State) : State :=
  { s with svc := { s.svc with buffer := some ⟨key, 0, total, data, s.clock.ticks⟩ } }

theorem writeObject_first {r : ObjRow} {key total : Nat} {data : Bytes} {s : State} (ha : accessTest r key s = .ok)
    (hn : lengthTest r total = .ok) (h0 : 0 < data.length) (hl : data.length ≤ 1024) (ht : data.length < total) (hb : s.svc.buffer = none) :
    writeObject r key 0 data.length total data s = (.ok, withBuffer key total data s) := by
  have hf : firstReason [accessTest r key s, countTest data.length, if 1024 < data.length then .typeLength else .ok, lengthTest r total] = .ok := by
    rw [ha, hn, if_neg (by omega), countTest, if_neg (by simp only [beq_iff_eq]; omega)]
    rfl
  have hd : discardBuffer s = s := by simp [discardBuffer, hb]
  rw [writeObject, hf]
  have hne : data.length ≠ total := by omega
  simp only [hne, decide_false, Bool.and_false, Bool.false_eq_true, if_false, writeSegment, Nat.zero_add, if_neg (show ¬ total < data.length by omega),
    if_true, hd]
  rfl

theorem judgeWrite_object {r : ObjRow} {key offset count total : Nat} {data : Bytes} {s : State} (hs : s.obj O.sessionState = 1)
    (hk : key % 256 ≠ 0) (hd : indexDefined (key / 256) = true) (hr : rowOf key = some r) :
    judgeWrite key 0 offset count total data s = writeObject r key offset count total data s := by
  simp [judgeWrite, lacksSession, hs, hd, anyRow, hk, hr, badOp]

theorem judgeWrite_revert {r : ObjRow} {key op : Nat} {s : State} (hs : s.obj O.sessionState = 1)
    (hk : key % 256 ≠ 0) (hf : key % 256 ≠ 0xFF) (hd : indexDefined (key / 256) = true) (hr : rowOf key = some r) (ho : op = 1 ∨ op = 2) :
    judgeWrite key op 0 0 0 [] s = revertOne r key op s := by
  rcases ho with rfl | rfl <;> simp [judgeWrite, lacksSession, hs, hd, anyRow, hk, hf, hr, badOp]

/-- A write that arrives while nothing of channel 0 is held or in segments. -/
theorem arrive_write {x : Xfer} {key op offset count total : Nat} {data : Bytes} {s u : State} (h : Quiet s) (hk : key ≠ O.resetCmd)
    (hj : judgeWrite key op offset count total data (advance s x.dt) = (.ok, u)) (hh : u.svc.held = []) :
    arrive x (.write key op offset count total data) s = replyWrite x.seq key op offset total .ok u := by
  have he : serve x.seq (.write key op offset count total data) (advance s x.dt) = replyWrite x.seq key op offset total .ok u := by
    rw [serve, expireSegments_advance_of_quiet h]
    simp only [serveWrite, hj]
    exact if_neg (by simp [hk])
  rw [arrive_ready h.1 (by rw [he, replyWrite_svc, hh]), he]

/-- What a write by which a plain object takes a number leaves. -/
theorem write_plain {x : Xfer} {key op offset count total : Nat} {v : Int} {data : Bytes} {s : State} (h : Quiet s)
    (hn : key ∉ [O.changeCount, O.transfersServed, O.transfersRefused, O.busyReplies, O.resetCmd, O.coldResets])
    (hj : judgeWrite key op offset count total data (advance s x.dt) = (.ok, (advance s x.dt).change key v)) :
    let t := arrive x (.write key op offset count total data) s
    t.obj key = v ∧ (∃ d, t.link.sent = s.link.sent ++ [.dictReply d] ∧ d.seq = x.seq ∧ d.reason = .ok ∧ d.key = key)
      ∧ SameBut s t (.dict :: .link :: timeParts) ∧ ObjsBut s t [key, O.changeCount] := by
  intro t
  simp only [List.mem_cons, List.not_mem_nil, or_false, not_or] at hn
  obtain ⟨hc, h1, h2, h3, hr, -⟩ := hn
  have ht : t = replyWrite x.seq key op offset total .ok ((advance s x.dt).change key v) :=
    arrive_write h hr hj (by rw [State.change_svc, advance_svc]; exact h.2.1)
  rw [ht]
  refine ⟨?_, ⟨_, by rw [replyWrite_link_sent, State.change_link, advance_link], rfl, rfl, rfl⟩, fun p hp => ?_, fun k hk hk' => ?_⟩
  · rw [replyWrite_obj _ _ _ _ _ _ _ _ h1 h2 h3, State.obj_change_same _ _ _ hc]
  · cases p <;> simp_all [Part.same, timeParts]
  · simp only [List.mem_cons, List.not_mem_nil, or_false, not_or] at hk hk'
    rw [replyWrite_obj _ _ _ _ _ _ _ _ hk'.1 hk'.2.1 hk'.2.2, State.obj_change_ne _ _ _ _ hk.1 hk.2, State.obj_advance]

theorem plainWrite_num (key : Nat) (v : Int) (s : State) : plainWrite key (.num v) s = (.ok, s.change key v) := rfl

theorem revertOne_plain {r : ObjRow} {key op : Nat} {v : Int} {s : State} (ht : revertTests r key op s = .ok) (hv : revertVal r key op s = .num v)
    (ha : actOf key (.num v) = plainWrite key (.num v)) : revertOne r key op s = (.ok, s.change key v) := by
  rw [revertOne, ht]
  dsimp only
  rw [hv, ha, plainWrite_num]

/-- The first segment of a longer value opens a buffer, and changes no object. -/
theorem write_first {x : Xfer} {key total : Nat} {r : ObjRow} {data : Bytes} {s : State} (h : Quiet s) (hs : s.obj O.sessionState = 1)
    (hk : key % 256 ≠ 0) (hd : indexDefined (key / 256) = true) (hr : rowOf key = some r) (ha : accessTest r key s = .ok)
    (hn : lengthTest r total = .ok) (h0 : 0 < data.length) (hl : data.length ≤ 1024) (ht : data.length < total) (hc : key ≠ O.resetCmd) :
    let t := arrive x (.write key 0 0 data.length total data) s
    t.svc.buffer = some ⟨key, 0, total, data, t.clock.ticks⟩
      ∧ (∃ d, t.link.sent = s.link.sent ++ [.dictReply d] ∧ d.seq = x.seq ∧ d.reason = .ok ∧ d.key = key)
      ∧ SameBut s t (.dict :: .link :: .svc :: timeParts) ∧ ObjsBut s t [] := by
  intro t
  have hj : judgeWrite key 0 0 data.length total data (advance s x.dt) = (.ok, withBuffer key total data (advance s x.dt)) := by
    rw [judgeWrite_object (by rwa [State.obj_advance]) hk hd hr]
    exact writeObject_first (by rwa [accessTest_advance]) hn h0 hl ht (by rw [advance_svc]; exact h.2.2.2.1)
  have he : t = replyWrite x.seq key 0 0 total .ok (withBuffer key total data (advance s x.dt)) :=
    arrive_write h hc hj ((congrArg Service.held (advance_svc s x.dt)).trans h.2.1)
  rw [he]
  refine ⟨by rw [replyWrite_svc, replyWrite_clock]; rfl, ⟨_, (replyWrite_link_sent ..).trans (congrArg (fun l : Link => l.sent ++ _) (advance_link s x.dt)),
    rfl, rfl, rfl⟩, fun p hp => ?_, fun k _ hk' => ?_⟩
  · cases p <;> simp_all [Part.same, timeParts, withBuffer]
  · simp only [List.mem_cons, List.not_mem_nil, or_false, not_or] at hk'
    rw [replyWrite_obj _ _ _ _ _ _ _ _ hk'.1 hk'.2.1 hk'.2.2]
    exact State.obj_advance ..

end Sys2Proof.Machine
open Sys2Proof Sys2Proof.Machine Sys2Proof.Safety

/-- Settles O17: a plain write and a revert are one change of the object at the state that time's passing leaves. -/
theorem dictWrites : Obligations.DictWrites := by
  unfold Obligations.DictWrites
  refine ⟨fun x index sub r v n data s h hs hk hd hr _ hv hl ht ha hn => ?_, fun x index sub r n s h hs hk hf hd hr hn ht ha hc => ?_,
    fun x index sub r n s h hs hk hf hd hr hn ht ha hc => ?_, fun x index sub total r data s h hs hk hd hr ha hn h0 hl ht hc =>
      ⟨_, rfl, write_first h hs hk hd hr ha hn h0 hl ht hc⟩⟩
  · have hj : judgeWrite (keyOf index sub) 0 0 data.length data.length data (advance s x.dt)
        = (.ok, (advance s x.dt).change (keyOf index sub) v) := by
      rw [judgeWrite_object (by rwa [State.obj_advance]) hk hd hr, writeObject_whole hl (by rwa [hv, valueTests_advance]), hv, ha, plainWrite_num]
    exact ⟨⟨_, rfl, write_plain h hn hj⟩, _, rfl, write_plain h hn hj⟩
  · have hv : revertVal r (keyOf index sub) 1 (advance s x.dt) = .num (Store.at (factory (keyOf index sub)) s.image (keyOf index sub)) := by
      simp [revertVal, imageVal, hn]
    exact ⟨_, rfl, write_plain h hc ((judgeWrite_revert (by rwa [State.obj_advance]) hk hf hd hr (.inl rfl)).trans
      (revertOne_plain (by rwa [revertTests_advance]) hv (ha _)))⟩
  · have hv : revertVal r (keyOf index sub) 2 (advance s x.dt) = .num (factory (keyOf index sub)) := by
      simp [revertVal, factoryVal, hn]
    exact ⟨_, rfl, write_plain h hc ((judgeWrite_revert (by rwa [State.obj_advance]) hk hf hd hr (.inr rfl)).trans
      (revertOne_plain (by rwa [revertTests_advance]) hv (ha _)))⟩
end

section
/-! SUPPORT. What follows transfers (05 R169 to R171, R177): segments that time out, a deferred check, and the enable log. -/
namespace Sys2Proof.Machine
open Sys2Proof.Safety

/-! ## Segments -/

theorem segTicks_advance (s : State) (n : Nat) : segTicks (advance s n) = segTicks s := by simp [segTicks, State.nat]

theorem segTicks_advanceTicks (s : State) (n : Nat) : segTicks (advanceTicks s n) = segTicks s := segTicks_advance s _

theorem advanceTicks_svc (s : State) (n : Nat) : (advanceTicks s n).svc = s.svc := advance_svc s _

theorem advanceTicks_leaves (s : State) (n : Nat) {ps : List Part} (h : ∀ p ∈ timeParts, p ∈ ps) {ks : List Nat} :
    Leaves s (advanceTicks s n) ps ks := Leaves.advance s _ h

/-- A segment's time is over at the instant to which its time-out leads. -/
theorem timedOut_at (s : State) (n : Nat) : timedOut (advanceTicks s (n + segTicks s)) n = true := by
  rw [timedOut, segTicks_advanceTicks, decide_eq_true_iff]
  exact le_advanceTicks s _

theorem discardBuffer_leaves (s : State) : Leaves s (discardBuffer s) [.dict, .svc] [O.abortedTransfers] := by
  unfold discardBuffer
  split
  · exact Leaves.trans (Leaves.bump s O.abortedTransfers 1 (by decide) (by decide)) (Leaves.setSvc _ _ (by decide))
  · exact Leaves.refl ..

/-- The buffer is discarded, counted and remembered. -/
theorem expireSegments_buffer {b : WriteBuffer} {s : State} (hb : s.svc.buffer = some b) (hl : s.svc.latch = none)
    (ht : timedOut s b.last = true) (h0 : 0 < segTicks s) : expireSegments s = discardBuffer s := by
  have h1 : expireLatch s = s := by simp [expireLatch, hl]
  have h2 : expireBuffer s = discardBuffer s := by simp [expireBuffer, hb, ht]
  have h3 : (discardBuffer s).svc.discarded = some ⟨b.key, b.op, b.data.length, s.clock.ticks⟩ := by rw [discardBuffer, hb]
  have h4 : segTicks (discardBuffer s) = segTicks s := by
    unfold segTicks State.nat
    rw [(discardBuffer_leaves s).2 _ (by decide)]
  have h5 : ¬ timedOut (discardBuffer s) s.clock.ticks = true := by
    rw [timedOut, h4, (discardBuffer_leaves s).1 .clock (by decide), decide_eq_true_iff]
    omega
  rw [expireSegments, h1, h2, expireMemory, h3]
  exact if_neg h5

theorem expireSegments_latch {l : ReadLatch} {s : State} (hl : s.svc.latch = some l) (hb : s.svc.buffer = none) (hd : s.svc.discarded = none)
    (ht : timedOut s l.last = true) : expireSegments s = { s with svc := { s.svc with latch := none } } := by
  simp [expireSegments, expireMemory, expireBuffer, expireLatch, hl, hb, hd, ht]

theorem discardBuffer_open {b : WriteBuffer} {s : State} (hb : s.svc.buffer = some b) : discardBuffer s = { s.bump O.abortedTransfers 1 with
      svc := { s.svc with buffer := none, discarded := some ⟨b.key, b.op, b.data.length, s.clock.ticks⟩ } } := by
  rw [discardBuffer, hb]

/-- The end of an open buffer's time. -/
theorem segmentTimeout_buffer {b : WriteBuffer} {s : State} (hb : s.svc.buffer = some b) (hl : s.svc.latch = none) (h0 : 0 < segTicks s) :
    execSegmentTimeout false s = .next (discardBuffer (advanceTicks s (b.last + segTicks s))) := by
  rw [execSegmentTimeout, hb]
  exact congrArg Host.Outcome.next (expireSegments_buffer (by rw [advanceTicks_svc, hb]) (by rw [advanceTicks_svc, hl]) (timedOut_at ..)
    (by rwa [segTicks_advanceTicks]))

theorem segmentTimeout_latch {l : ReadLatch} {s : State} (hl : s.svc.latch = some l) (hb : s.svc.buffer = none) (hd : s.svc.discarded = none) :
    execSegmentTimeout true s = .next ({ advanceTicks s (l.last + segTicks s) with
      svc := { (advanceTicks s (l.last + segTicks s)).svc with latch := none } } : State) := by
  rw [execSegmentTimeout, hl]
  exact congrArg Host.Outcome.next (expireSegments_latch (by rw [advanceTicks_svc, hl]) (by rw [advanceTicks_svc, hb])
    (by rw [advanceTicks_svc, hd]) (timedOut_at ..))

/-! ## The deferred check of NL_ENABLE -/

theorem logEnable_counted (key cause : Nat) (r : Reason) (s : State) : Counted s (logEnable key cause r s) O.enableLogCount 1 :=
  State.obj_bump_same s O.enableLogCount 1

theorem logEnable_svc (key cause : Nat) (r : Reason) (s : State) :
    (logEnable key cause r s).svc.held = s.svc.held ∧ (logEnable key cause r s).svc.due = s.svc.due := ⟨rfl, rfl⟩

theorem recordCheck_shows (key : Nat) (r : Reason) (s : State) : (recordCheck key r s).obj O.lastCheckObject = key
    ∧ (recordCheck key r s).obj O.lastCheckReason = r.code := by
  rw [recordCheck, State.obj_setObj_ne _ _ _ _ (by decide), State.obj_setObj_same, State.obj_setObj_same]
  exact ⟨rfl, rfl⟩

theorem unlist_leaves (s : State) (key : Nat) : Leaves s (s.unlist key) [.svc] [] := Leaves.setSvc _ _ (by decide)

theorem unlist_svc (s : State) (key : Nat) : (s.unlist key).svc.held = s.svc.held ∧ (s.unlist key).svc.due = s.svc.due.filter (· != key) :=
  ⟨rfl, rfl⟩

/-- The state in which the check's result has been recorded. -/
def nlRecorded (s : State) : State := recordCheck O.nlEnable (nlCheck s) ((nlRules.settle (nlCheck s) s).unlist O.nlEnable)

/-- The state in which the check's result has been recorded and logged. -/
def nlResolved (s : State) : State :=
  logEnable O.nlEnable 1 (nlCheck s) (nlRecorded s)

theorem rulesOf_nlEnable : rulesOf O.nlEnable = nlRules := by
  rw [rulesOf, if_neg (by decide), if_pos (by decide)]

theorem deferredCheck_nlEnable {s : State} (h : O.nlEnable ∈ s.svc.due) (hb : s.obj O.bootState ≠ 5) :
    deferredCheck O.nlEnable s = raiseResolved O.nlEnable (nlCheck s) (nlResolved s) := by
  have hj : nlRules.judge s = nlCheck s := by rw [EnableRules.judge_check _ hb, nlRules_check]
  rw [deferredCheck, if_pos (by simpa using h), rulesOf_nlEnable, EnableRules.resolve, hj]
  rfl

theorem nlRecorded_leaves (s : State) : Leaves s (nlRecorded s) [.dict, .svc, .dfe]
    [O.nlEnable, O.nlState, O.dfeUser (s.nat O.nlChain), O.lastCheckObject, O.lastCheckReason] :=
  Leaves.trans (Leaves.trans (Leaves.mono (nlRules_settle_leaves (nlCheck s) s) (by decide) (by simp))
    (Leaves.mono (unlist_leaves _ _) (by decide) (by simp))) (Leaves.mono (recordCheck_leaves _ _ _) (by decide) (by simp))

theorem nlResolved_leaves (s : State) : Leaves s (nlResolved s) [.dict, .svc, .dfe]
    [O.nlEnable, O.nlState, O.dfeUser (s.nat O.nlChain), O.lastCheckObject, O.lastCheckReason, O.enableLogCount] :=
  Leaves.trans (Leaves.mono (nlRecorded_leaves s) (by decide) (by simp)) (Leaves.mono (logEnable_leaves _ _ _ _) (by decide) (by simp))

theorem nlResolved_enable (s : State) : (nlResolved s).obj O.nlEnable = if nlCheck s = .ok then 1 else 0 := by
  rw [nlResolved, logEnable_obj _ _ _ _ _ (by decide), nlRecorded, (recordCheck_leaves _ _ _).2 _ (by decide),
    (unlist_leaves _ _).2 _ List.not_mem_nil]
  split
  · next h => rw [h, (nlRules_settle_ok s).1]
  · next h => rw [(nlRules_settle_refused s h).1]

theorem nlResolved_checks (s : State) : (nlResolved s).obj O.lastCheckObject = O.nlEnable
    ∧ (nlResolved s).obj O.lastCheckReason = (nlCheck s).code := by
  rw [nlResolved, logEnable_obj _ _ _ _ _ (by decide), logEnable_obj _ _ _ _ _ (by decide), nlRecorded]
  exact recordCheck_shows ..

theorem nlResolved_logged (s : State) : Counted s (nlResolved s) O.enableLogCount 1 :=
  Counted.of_obj ((nlRecorded_leaves s).2 _ (by simp [O.enableLogCount, O.nlEnable, O.nlState, O.dfeUser, O.lastCheckObject, O.lastCheckReason]; omega))
    (logEnable_counted ..)

theorem settle_nl_svc (r : Reason) (s : State) : (nlRules.settle r s).svc = s.svc := by
  have hs (v : Int) : (s.setObj nlRules.key v).svc = s.svc := rfl
  unfold EnableRules.settle
  split
  · exact ((nlAccept_leaves _).1 .svc (by decide)).trans (hs 1)
  · exact hs 0

theorem nlResolved_svc (s : State) : (nlResolved s).svc.held = s.svc.held ∧ (nlResolved s).svc.due = s.svc.due.filter (· != O.nlEnable) := by
  obtain ⟨h1, h2⟩ := logEnable_svc O.nlEnable 1 (nlCheck s) (nlRecorded s)
  have h3 : (nlRecorded s).svc = ((nlRules.settle (nlCheck s) s).unlist O.nlEnable).svc := (recordCheck_leaves ..).1 .svc (by decide)
  obtain ⟨h4, h5⟩ := unlist_svc (nlRules.settle (nlCheck s) s) O.nlEnable
  rw [nlResolved, h1, h2, h3, h4, h5, settle_nl_svc]
  exact ⟨rfl, rfl⟩

/-- The detail of ENABLE_RESOLVED for the check of NL_ENABLE. -/
def nlDetail (s : State) : Bytes := leBytes 2 (O.nlEnable / 256) ++ leBytes 1 (O.nlEnable % 256)
  ++ leBytes 1 (if nlCheck s = .ok then 1 else 0) ++ leBytes 2 (nlCheck s).code ++ leBytes 2 0

theorem raiseResolved_nlEnable (s : State) : raiseResolved O.nlEnable (nlCheck s) (nlResolved s)
    = raise (nlResolved s) O.enableResolvedCount 0xFFFF (nlDetail s) 0 := by
  have h : (nlResolved s).nat O.nlEnable = if nlCheck s = .ok then 1 else 0 := by
    rw [State.nat, nlResolved_enable]
    split <;> rfl
  rw [raiseResolved, h]
  rfl

/-- What MGT or channel 0 serves once a check is done, nothing being held. -/
theorem served_none {c : Bool} {s : State} (h : s.svc.held = []) :
    Leaves s (if c then serveLatched s else serveHeld s) [.dict] [O.latched]
      ∧ (if c then serveLatched s else serveHeld s).svc = s.svc := by
  cases c with
  | false =>
    rw [if_neg Bool.false_ne_true, serveHeld_of_none h]
    exact ⟨Leaves.refl .., rfl⟩
  | true =>
    have he : ({ s with svc := { s.svc with held := [] } } : State) = s := by rw [← h]
    have hl : serveLatched s = if s.svc.due.isEmpty = true then s.setObj O.latched s.svc.held.length else s := by
      rw [serveLatched, h]
      simp only [serveList, he, h]
    rw [if_pos rfl, hl]
    split
    · exact ⟨Leaves.setObj _ _ _ (by decide) (by decide), rfl⟩
    · exact ⟨Leaves.refl .., rfl⟩

/-- The deferred check of NL_ENABLE and what it lets be served. -/
def nlDeferred (s : State) : State :=
  if (deferredCheck O.nlEnable s).latching && (deferredCheck O.nlEnable s).power.watch.mgt then serveLatched (deferredCheck O.nlEnable s)
  else serveHeld (deferredCheck O.nlEnable s)

theorem execEnableDeferredCheck_nl {s : State} (h : O.nlEnable ∈ s.svc.due) :
    execEnableDeferredCheck (O.nlEnable / 256) (O.nlEnable % 256) s = .next (nlDeferred s) :=
  if_pos (by rw [show keyOf (O.nlEnable / 256) (O.nlEnable % 256) = O.nlEnable from rfl]; simpa using h)

theorem nlDeferred_frame {s : State} (h : O.nlEnable ∈ s.svc.due) (hh : s.svc.held = []) (hb : s.obj O.bootState ≠ 5) :
    Leaves (raise (nlResolved s) O.enableResolvedCount 0xFFFF (nlDetail s) 0) (nlDeferred s) [.dict] [O.latched]
      ∧ (nlDeferred s).svc = (nlResolved s).svc := by
  have he := (deferredCheck_nlEnable h hb).trans (raiseResolved_nlEnable s)
  have hv : (raise (nlResolved s) O.enableResolvedCount 0xFFFF (nlDetail s) 0).svc = (nlResolved s).svc :=
    (Leaves.raise (ps := [.dict, .link]) (ks := [O.enableResolvedCount, O.indicationsDropped]) (nlResolved s) O.enableResolvedCount 0xFFFF
      (nlDetail s) 0 (by decide) (by decide) (by decide) (by decide)).1 .svc (by decide)
  unfold nlDeferred
  rw [he, ← hv]
  exact served_none (by rw [hv, (nlResolved_svc s).1, hh])

theorem nlDeferred_kept {s : State} (h : O.nlEnable ∈ s.svc.due) (hh : s.svc.held = []) (hb : s.obj O.bootState ≠ 5) {j : Nat}
    (hj : j ∉ [O.latched, O.enableResolvedCount, O.indicationsDropped]) : (nlDeferred s).obj j = (nlResolved s).obj j := by
  simp only [List.mem_cons, List.not_mem_nil, or_false, not_or] at hj
  rw [(nlDeferred_frame h hh hb).1.2 _ (by simpa using hj.1), State.obj_raise_ne _ _ _ _ _ _ hj.2.1 hj.2.2]

theorem nlDeferred_leaves {s : State} (h : O.nlEnable ∈ s.svc.due) (hh : s.svc.held = []) (hb : s.obj O.bootState ≠ 5) :
    Leaves s (nlDeferred s) [.dict, .dfe, .svc, .link] [O.nlEnable, O.nlState, O.dfeUser (s.nat O.nlChain), O.lastCheckObject,
          O.lastCheckReason, O.enableLogCount, O.enableResolvedCount, O.indicationsDropped, O.latched] :=
  Leaves.trans (Leaves.trans (Leaves.mono (nlResolved_leaves s) (by decide) (by simp))
    (Leaves.raise _ _ _ _ _ (by decide) (by decide) (by simp) (by simp))) (Leaves.mono (nlDeferred_frame h hh hb).1 (by decide) (by simp))

theorem nlDeferred_raised {s : State} (h : O.nlEnable ∈ s.svc.due) (hh : s.svc.held = []) (hb : s.obj O.bootState ≠ 5) :
    Counted s (nlDeferred s) O.enableResolvedCount 1 ∧ Indicates s (nlDeferred s) O.enableResolvedCount 0xFFFF (nlDetail s) 0 := by
  have hf := (nlDeferred_frame h hh hb).1
  have hc := raise_counted (nlResolved s) O.enableResolvedCount 0xFFFF (nlDetail s) 0 (by decide)
  have hi := raise_indicates (nlResolved s) O.enableResolvedCount 0xFFFF (nlDetail s) 0
  rw [Counted, ← hf.2 _ (by decide)] at hc
  rw [Indicates, ← hf.1 .link (by decide)] at hi
  have hl := nlResolved_leaves s
  exact ⟨Counted.of_obj (hl.2 _ (by grind)) hc, Indicates.of_link (hl.1 .link (by decide)) hi⟩

/-! ## The enable log -/

theorem isEnable_enableLog : isEnable O.enableLog = false := by decide +kernel

theorem popHead_enableLog (s : State) : popHead O.enableLog s = s.svc.log.head? := by
  rw [popHead, if_neg (by decide), if_pos rfl]

theorem popRest_enableLog (s : State) : popRest O.enableLog s = { s with svc := { s.svc with log := s.svc.log.drop 1 } } := by
  rw [popRest, if_neg (by decide), if_pos rfl]

theorem readEnableLog_pops {x : Xfer} {oldest : Bytes} {rest : List Bytes} {s : State} (hr : s.ready = true) (hl : s.svc.log = oldest :: rest) :
    hostPop x O.enableLog (popHead O.enableLog) (popRest O.enableLog) s
      = { popReplied x O.enableLog oldest s with svc := { s.svc with log := rest } } := by
  have hv : (popReplied x O.enableLog oldest s).svc = s.svc := (popReplied_frame x O.enableLog oldest s).1 .svc (by decide)
  rw [hostPop_served (b := oldest) hr (by rw [popHead_enableLog, advance_svc, hl]; rfl), ← popReplied, popRest_enableLog, hv, hl]
  rfl

end Sys2Proof.Machine
open Sys2Proof Sys2Proof.Machine Sys2Proof.Safety

/-- Settles O18: a time-out leads to the instant at which the segments' time is over, and the deferred check settles, records and raises. -/
theorem segmentsAndEnables : Obligations.SegmentsAndEnables := by
  unfold Obligations.SegmentsAndEnables
  refine ⟨fun b s hb hl _ h0 => ?_, fun l s hl hb hd => ?_, fun s h hh hb => ?_, fun x oldest rest s hr hl => ?_⟩
  · have hb' : (advanceTicks s (b.last + segTicks s)).svc.buffer = some b := by rw [advanceTicks_svc, hb]
    refine ⟨_, segmentTimeout_buffer hb hl h0, ?_, ?_, ?_, ?_, Leaves.trans (advanceTicks_leaves s _ (by decide))
      (Leaves.mono (discardBuffer_leaves _) (by decide) (by decide))⟩
    · rw [discardBuffer_open hb']
    · rw [discardBuffer_open hb']
      rfl
    · rw [discardBuffer_open hb']
      exact Counted.of_obj ((advanceTicks_leaves (ps := timeParts) (ks := []) s _ fun _ hp => hp).2 _ (by decide))
        (State.obj_bump_same _ O.abortedTransfers 1)
    · rw [(discardBuffer_leaves _).1 .clock (by decide)]
      exact le_advanceTicks s _
  · refine ⟨_, segmentTimeout_latch hl hb hd, ?_, le_advanceTicks s _, Leaves.trans (advanceTicks_leaves s _ (by decide))
      (Leaves.setSvc _ _ (by decide))⟩
    dsimp only
    rw [advanceTicks_svc]
  · obtain ⟨hc, hi⟩ := nlDeferred_raised h hh hb
    refine ⟨_, execEnableDeferredCheck_nl h, ?_, ?_, ?_, ?_, hc, ?_, hi, nlDeferred_leaves h hh hb⟩
    · rw [(nlDeferred_frame h hh hb).2, (nlResolved_svc s).2]
      simp
    · rw [nlDeferred_kept h hh hb (by decide), nlResolved_enable]
    · rw [nlDeferred_kept h hh hb (by decide), (nlResolved_checks s).1]
    · rw [nlDeferred_kept h hh hb (by decide), (nlResolved_checks s).2]
    · rw [Counted, nlDeferred_kept h hh hb (by decide)]
      exact nlResolved_logged s
  · obtain ⟨hf, ho⟩ := popReplied_frame x O.enableLog oldest s
    refine ⟨_, rfl, ?_⟩
    rw [readEnableLog_pops hr hl]
    exact ⟨rfl, popReplied_sent isEnable_enableLog, SameBut.trans (SameBut.mono hf (by decide))
      (Leaves.setSvc (ks := []) (popReplied x O.enableLog oldest s) _ (by decide)).1, ho⟩
end

section
/-! SUPPORT. Weight-bank entries (08): their definition and deletion, and what a write or a commit makes of their banks. -/
namespace Sys2Proof.Machine
open Sys2Proof.Safety

@[simp] theorem atWrite_wb (s : State) (x : Xfer) (key : Nat) (v : Val) : (atWrite s x key v).wb = s.wb :=
  atWrite_same s x key v .wb (by decide)

@[simp] theorem atWrite_nat (s : State) (x : Xfer) (key : Nat) (v : Val) (k : Nat) : (atWrite s x key v).nat k = s.nat k :=
  congrArg Int.toNat (atWrite_obj ..)

theorem atWrite_wbSel (s : State) (x : Xfer) (key : Nat) (v : Val) : (atWrite s x key v).wbSel = s.wbSel := by
  rw [State.wbSel, atWrite_wb, atWrite_nat, State.wbSel]

/-- A served write whose action changes the dictionary and the weight banks. -/
theorem wbWrite_does {x : Xfer} {key : Nat} {v : Val} {act : Action} {s u : State} {r : Reason} {ks : List Nat}
    (h : Accepts s x key v) (ha : act (atWrite s x key v) = (r, u)) (hu : Leaves (atWrite s x key v) u [.dict, .wb] ks) :
    Answers s (hostWrite x key v act s) x key v r [.wb] ks ∧ (hostWrite x key v act s).wb = u.wb := by
  obtain ⟨hans, hsame, -⟩ := hostWrite_does h ha hu (by decide)
  exact ⟨hans, hsame .wb (by decide)⟩

theorem onWb_other (s : State) (i : Nat) (f : WbEntry → WbEntry) {j : Nat} (h : j ≠ i) :
    Store.find (s.onWb i f).wb j = Store.find s.wb j := by
  unfold State.onWb
  split
  · exact Store.find_put_ne _ _ _ _ h
  · rfl

theorem onWb_none {s : State} {i : Nat} (h : Store.find s.wb i = none) (f : WbEntry → WbEntry) : s.onWb i f = s := by
  rw [State.onWb, h]

/-! ## The banks of an entry whose bank of a role changes -/

theorem onRole_bank {l : List Bank} {r : BankRole} {f : Bank → Bank} (hf : ∀ b, (f b).role = b.role) (q : BankRole) :
    (l.map fun b => if b.role = r then f b else b).find? (fun b => b.role = q)
      = if q = r then (l.find? fun b => b.role = q).map f else l.find? fun b => b.role = q := by
  induction l with
  | nil => simp
  | cons x l ih =>
    simp only [List.map_cons, List.find?_cons, ih]
    by_cases hx : x.role = r <;> by_cases hq : x.role = q <;> simp_all [Ne.symm]

/-- The weights that a write of a subband puts in a bank. -/
def writtenBank (band : Nat) (data : Bytes) (b : Bank) : Bank :=
  { b with data := Store.put b.data band data, crcs := Store.drop b.crcs band, bad := b.bad.filter (· != band) }

theorem applyBack_write (e : WbEntry) (band : Nat) (data : Bytes) :
    (applyBack e (some (band, data))).back = .opened ∧ (applyBack e (some (band, data))).written = true
      ∧ (applyBack e (some (band, data))).held = e.held
      ∧ (applyBack e (some (band, data))).bank .back = (e.bank .back).map (writtenBank band data)
      ∧ (applyBack e (some (band, data))).bank .front = e.bank .front :=
  ⟨rfl, rfl, rfl, (onRole_bank (f := writtenBank band data) (fun _ => rfl) .back).trans (if_pos rfl),
    (onRole_bank (r := .back) (f := writtenBank band data) (fun _ => rfl) .front).trans (if_neg (by decide))⟩

theorem reachBack_copying {e : WbEntry} (w : HeldWrite) (h : e.back = .copying) : reachBack e w = { e with held := e.held ++ [w] } := if_pos h

theorem reachBack_direct {e : WbEntry} (w : HeldWrite) (h : e.back ≠ .copying) : reachBack e w = applyBack e w := if_neg h

/-! ## Writes of weights -/

theorem writeBack_leaves (i band : Nat) (data : Bytes) (s : State) : Leaves s (writeBack i band data s) [.dict, .wb] [O.changeCount] := by
  unfold writeBack
  split
  · exact Leaves.ite _ (Leaves.trans (Leaves.onWb _ _ _ (by decide)) (Leaves.bump _ _ _ (by decide) (by decide))) (Leaves.onWb _ _ _ (by decide))
  · exact Leaves.refl ..

theorem writeBack_wb {i band : Nat} {data : Bytes} {s : State} {e : WbEntry} (h : Store.find s.wb i = some e) :
    Store.find (writeBack i band data s).wb i = some (reachBack e (some (band, data)))
      ∧ ∀ j, j ≠ i → Store.find (writeBack i band data s).wb j = Store.find s.wb j := by
  have hw : (writeBack i band data s).wb = (s.onWb i fun e => reachBack e (some (band, data))).wb := by
    unfold writeBack
    rw [h]
    dsimp only
    split <;> rfl
  rw [hw]
  exact ⟨onWb_found h _, fun j hj => onWb_other _ _ _ hj⟩

/-- Whether weights pass the tests of their entry (08 R291, R297). -/
def weightsReason (e : WbEntry) (band : Nat) (data : Bytes) : Reason :=
  if e.deleting then .noObject
  else if data.length != e.ports * e.layers * 4 then .typeLength
  else if e.subbands ≤ band then .valueRange
  else if (List.range e.layers).any fun l => decide (2 ^ 29 < columnNorm e.ports l data) then .badCoefficients else .ok

theorem actWbWeights_none {data : Bytes} {s : State} (h : s.wbSel = none) : actWbWeights data s = (.noObject, s) := by
  rw [actWbWeights, h]

theorem actWbWeights_eq {data : Bytes} {s : State} {e : WbEntry} (h : s.wbSel = some e) : actWbWeights data s
    = (weightsReason e (s.nat O.wbSubband) data, if weightsReason e (s.nat O.wbSubband) data = .ok
        then writeBack (s.nat O.wbIndex) (s.nat O.wbSubband) data s else s) := by
  rw [actWbWeights, h]
  unfold weightsReason
  dsimp only
  split
  · rfl
  · split
    · rfl
    · split
      · rfl
      · split
        · rfl
        · rfl

theorem overNorm_iff (e : WbEntry) (data : Bytes) :
    ((List.range e.layers).any fun l => decide (2 ^ 29 < columnNorm e.ports l data)) = true ↔ ∃ l < e.layers, 2 ^ 29 < columnNorm e.ports l data := by
  simp

theorem weightsReason_ok {e : WbEntry} {band : Nat} {data : Bytes} (hd : e.deleting = false) (hl : data.length = e.ports * e.layers * 4)
    (hb : band < e.subbands) (hn : ∀ l < e.layers, columnNorm e.ports l data ≤ 2 ^ 29) : weightsReason e band data = .ok := by
  have ho : ¬ ((List.range e.layers).any fun l => decide (2 ^ 29 < columnNorm e.ports l data)) = true := by
    rw [overNorm_iff]
    rintro ⟨l, h1, h2⟩
    exact absurd (hn l h1) (Int.not_le.mpr h2)
  rw [weightsReason, if_neg (by simp [hd]), if_neg (by simp [hl]), if_neg (Nat.not_le.mpr hb), if_neg ho]

/-- What a write of weights is answered with. -/
theorem writeWeights_answers {x : Xfer} {data : Bytes} {s : State} (h : Accepts s x O.wbWeights (.bytes data)) {e : WbEntry}
    (hs : s.wbSel = some e) :
    (weightsReason e (s.nat O.wbSubband) data = .ok → Answers s (hostWrite x O.wbWeights (.bytes data) (actWbWeights data) s) x O.wbWeights
        (.bytes data) .ok [.wb] [O.changeCount]
      ∧ Store.find (hostWrite x O.wbWeights (.bytes data) (actWbWeights data) s).wb (s.nat O.wbIndex)
        = some (reachBack e (some (s.nat O.wbSubband, data)))
      ∧ ∀ j, j ≠ s.nat O.wbIndex → Store.find (hostWrite x O.wbWeights (.bytes data) (actWbWeights data) s).wb j = Store.find s.wb j)
    ∧ (weightsReason e (s.nat O.wbSubband) data ≠ .ok → Answers s (hostWrite x O.wbWeights (.bytes data) (actWbWeights data) s) x O.wbWeights
        (.bytes data) (weightsReason e (s.nat O.wbSubband) data) [] []) := by
  have ha := actWbWeights_eq (data := data) ((atWrite_wbSel s x O.wbWeights (.bytes data)).trans hs)
  simp only [atWrite_nat] at ha
  refine ⟨fun hr => ?_, fun hr => ?_⟩
  · rw [hr, if_pos rfl] at ha
    obtain ⟨hans, hw⟩ := wbWrite_does h ha (writeBack_leaves ..)
    have hf := writeBack_wb (band := s.nat O.wbSubband) (data := data) (s := atWrite s x O.wbWeights (.bytes data)) (by rw [atWrite_wb]; exact hs)
    rw [hw]
    exact ⟨hans, hf.1, fun j hj => (hf.2 j hj).trans (congrArg (Store.find · j) (atWrite_wb ..))⟩
  · rw [if_neg hr] at ha
    exact (hostWrite_refused h ha).1

/-! ## Commits -/

theorem actWbCommit_refused {s : State} (h : ∀ e, s.wbSel = some e → e.deleting = true) : actWbCommit s = (.noObject, s) := by
  rw [actWbCommit]
  split
  · rfl
  · next e he => rw [if_pos (h e he)]

theorem actWbCommit_ok {s : State} {e : WbEntry} (h : s.wbSel = some e) (hd : ¬ e.deleting = true) :
    actWbCommit s = (.ok, s.onWb (s.nat O.wbIndex) fun e => reachBack e none) := by
  rw [actWbCommit, h]
  exact if_neg hd

theorem reachBack_commit (e : WbEntry) : (e.back = .opened → (reachBack e none).back = .committed ∧ (reachBack e none).held = e.held
      ∧ (reachBack e none).written = e.written)
    ∧ (e.back = .copying → reachBack e none = { e with held := e.held ++ [none] }) ∧ (e.back = .committed → reachBack e none = e) := by
  refine ⟨fun h => ?_, reachBack_copying none, fun h => ?_⟩
  · rw [reachBack_direct _ (by rw [h]; decide), applyBack, if_pos h]
    exact ⟨rfl, rfl, rfl⟩
  · rw [reachBack_direct _ (by rw [h]; decide), applyBack, if_neg (by rw [h]; decide)]

/-! ## Copies -/

/-- The entry whose copy is complete, and the changes that what waited has made. -/
def copiedBack (e : WbEntry) : WbEntry × Nat :=
  e.held.foldl (fun (x : WbEntry × Nat) w => (applyBack x.1 w, x.2 + (if changesBack x.1 w then 1 else 0))) ({ e with back := .opened, held := [] }, 0)

theorem copiedBack_fst (e : WbEntry) : (copiedBack e).1 = e.held.foldl applyBack { e with back := .opened, held := [] } := by
  have hg (l : List HeldWrite) (y : WbEntry × Nat) :
      (l.foldl (fun (x : WbEntry × Nat) w => (applyBack x.1 w, x.2 + (if changesBack x.1 w then 1 else 0))) y).1 = l.foldl applyBack y.1 := by
    induction l generalizing y with
    | nil => rfl
    | cons w l ih => exact ih _
  exact hg _ _

theorem execWbCopyComplete_copying {s : State} {i : Nat} {e : WbEntry} (h : Store.find s.wb i = some e) (hb : e.back = .copying) :
    execWbCopyComplete i s = .next (if (copiedBack e).2 == 0 then s.onWb i fun _ => (copiedBack e).1
      else (s.onWb i fun _ => (copiedBack e).1).bump O.changeCount (copiedBack e).2) := by
  rw [execWbCopyComplete, h]
  dsimp only
  rw [if_pos hb]
  rfl

theorem copyComplete_leaves (s : State) (i : Nat) (e : WbEntry) : Leaves s (if (copiedBack e).2 == 0 then s.onWb i fun _ => (copiedBack e).1
      else (s.onWb i fun _ => (copiedBack e).1).bump O.changeCount (copiedBack e).2) [.dict, .wb] [O.changeCount] :=
  Leaves.ite _ (Leaves.onWb _ _ _ (by decide)) (Leaves.trans (Leaves.onWb _ _ _ (by decide)) (Leaves.bump _ _ _ (by decide) (by decide)))

theorem copyComplete_wb (s : State) (i : Nat) (e : WbEntry) : (if (copiedBack e).2 == 0 then s.onWb i fun _ => (copiedBack e).1
      else (s.onWb i fun _ => (copiedBack e).1).bump O.changeCount (copiedBack e).2).wb = (s.onWb i fun _ => (copiedBack e).1).wb := by
  split <;> rfl

/-! ## Definition and deletion -/

/-- The pallets of the entry that WB_INDEX selects and of the pool cover the geometry that the objects give. -/
def wbLacks (s : State) : Bool := decide (s.wbFree + ((Store.find s.wb (s.nat O.wbIndex)).map (·.pallets)).getD 0
  < 3 * bankPallets (s.nat O.wbPorts) (s.nat O.wbLayers) (s.nat O.wbSubbands))

/-- The owner of a new entry is a carrier that is ON, and its swap period is long enough (08 R288). -/
abbrev wbOwnerOk (s : State) : Prop := s.nat O.wbOwner < 64 ∧ s.obj (O.carrierEnable (s.nat O.wbOwner)) = 1
  ∧ s.nat (O.runAheadSlots (s.nat O.wbOwner)) + 3 ≤ s.nat O.wbSwapPeriod

theorem wbOwnerOk_iff (s : State) : ¬ (64 ≤ s.nat O.wbOwner || !s.isOn (O.carrierEnable (s.nat O.wbOwner))
    || decide (s.nat O.wbSwapPeriod < s.nat (O.runAheadSlots (s.nat O.wbOwner)) + 3)) = true ↔ wbOwnerOk s := by
  simp only [State.isOn, stOn, wbOwnerOk, Bool.or_eq_true, decide_eq_true_eq, Bool.not_eq_true', beq_eq_false_iff_ne, ne_eq, not_or, not_le,
    Decidable.not_not, not_lt, and_assoc]

theorem actWbDefine_lacks {s : State} (h : wbLacks s = true) : actWbDefine 1 s = (.noPallets, s) := by
  rw [actWbDefine, if_pos rfl]
  exact if_pos (of_decide_eq_true h)

theorem actWbDefine_place {s : State} (h : ¬ wbLacks s = true) : actWbDefine 1 s = match s.wbChannel with
    | none => (.noPallets, s)
    | some c => if 64 ≤ s.nat O.wbOwner || !s.isOn (O.carrierEnable (s.nat O.wbOwner))
        || decide (s.nat O.wbSwapPeriod < s.nat (O.runAheadSlots (s.nat O.wbOwner)) + 3) then (.deadlineInfeasible, s)
      else (.ok, { s with wb := Store.put s.wb (s.nat O.wbIndex) (newEntry s c) }) := by
  rw [actWbDefine, if_pos rfl]
  refine Eq.trans (if_neg fun hh => h (decide_eq_true hh)) ?_
  cases s.wbChannel <;> rfl

theorem wbChannel_advance (s : State) (n : Nat) : (advance s n).wbChannel = s.wbChannel := by
  simp only [State.wbChannel, State.leastChannel, State.chanServes, advance_wb, State.obj_advance, State.nat, advance_integ]

theorem Leaves.setWb (s : State) (w : Store WbEntry) {ps : List Part} {ks : List Nat} (h : Part.wb ∈ ps) : Leaves s { s with wb := w } ps ks :=
  Leaves.of_dict (fun p hp => by cases p <;> simp_all [Part.same]) rfl

theorem wbDefine_answers {x : Xfer} {s : State} (h : Accepts s x O.wbDefine (.num 1)) :
    ∃ r, Answers s (hostWrite x O.wbDefine (.num 1) (actWbDefine 1) s) x O.wbDefine (.num 1) r [.wb] [] ∧
      (if wbLacks s = true then r = .noPallets ∧ (hostWrite x O.wbDefine (.num 1) (actWbDefine 1) s).wb = s.wb
       else match s.wbChannel with
         | none => r = .noPallets ∧ (hostWrite x O.wbDefine (.num 1) (actWbDefine 1) s).wb = s.wb
         | some c =>
           if wbOwnerOk s then r = .ok ∧ (hostWrite x O.wbDefine (.num 1) (actWbDefine 1) s).wb
               = Store.put s.wb (s.nat O.wbIndex) (newEntry (advance s x.dt) c)
           else r = .deadlineInfeasible ∧ (hostWrite x O.wbDefine (.num 1) (actWbDefine 1) s).wb = s.wb) := by
  have hn (k : Nat) : (advance s x.dt).nat k = s.nat k := congrArg Int.toNat (State.obj_advance ..)
  have hl : wbLacks (advance s x.dt) = wbLacks s := by
    simp only [wbLacks, State.wbFree, advance_wb, hn]
    rfl
  have ho : wbOwnerOk (advance s x.dt) = wbOwnerOk s := by simp only [wbOwnerOk, State.obj_advance, hn]
  have hsame {r : Reason} (ha : actWbDefine 1 (advance s x.dt) = (r, advance s x.dt)) :
      Answers s (hostWrite x O.wbDefine (.num 1) (actWbDefine 1) s) x O.wbDefine (.num 1) r [.wb] []
        ∧ (hostWrite x O.wbDefine (.num 1) (actWbDefine 1) s).wb = s.wb := by
    rw [← atWrite_num s x O.wbDefine 1] at ha
    obtain ⟨ha1, ha2⟩ := wbWrite_does h ha (Leaves.refl ..)
    exact ⟨ha1, ha2.trans (atWrite_wb ..)⟩
  by_cases hk : wbLacks s = true
  · obtain ⟨h1, h2⟩ := hsame (actWbDefine_lacks (hl.trans hk))
    exact ⟨_, h1, by rw [if_pos hk]; exact ⟨rfl, h2⟩⟩
  · have ha := actWbDefine_place (s := advance s x.dt) (by rw [hl]; exact hk)
    rw [wbChannel_advance] at ha
    cases hc : s.wbChannel with
    | none =>
      rw [hc] at ha
      obtain ⟨h1, h2⟩ := hsame ha
      exact ⟨_, h1, by rw [if_neg hk]; exact ⟨rfl, h2⟩⟩
    | some c =>
      rw [hc] at ha
      dsimp only at ha
      by_cases hw : wbOwnerOk s
      · rw [if_neg ((wbOwnerOk_iff _).mpr (ho ▸ hw)), hn, advance_wb, ← atWrite_num s x O.wbDefine 1] at ha
        obtain ⟨h1, h2⟩ := wbWrite_does h ha (Leaves.setWb _ _ (by decide))
        refine ⟨_, h1, ?_⟩
        rw [if_neg hk]
        dsimp only
        rw [if_pos hw]
        exact ⟨rfl, h2.trans (by rw [atWrite_num])⟩
      · rw [if_pos (Decidable.not_not.mp (fun hh => hw (ho ▸ (wbOwnerOk_iff _).mp hh)))] at ha
        obtain ⟨h1, h2⟩ := hsame ha
        refine ⟨_, h1, ?_⟩
        rw [if_neg hk]
        dsimp only
        rw [if_neg hw]
        exact ⟨rfl, h2⟩

/-- The state in which an entry is being deleted, before a sweep. -/
def deletingEntry (i : Nat) (s : State) : State := s.onWb i fun e => { e with deleting := true }

theorem actWbDefine_delete (s : State) : actWbDefine 0 s = (.ok, sweepEntries (deletingEntry (s.nat O.wbIndex) s)) := by
  rw [actWbDefine, if_neg (by decide)]
  rfl

theorem sweepEntries_leaves (s : State) {ks : List Nat} : Leaves s (sweepEntries s) [.wb] ks := Leaves.setWb _ _ (by decide)

theorem delete_leaves (i : Nat) (s : State) : Leaves s (sweepEntries (deletingEntry i s)) [.dict, .wb] [] :=
  Leaves.trans (Leaves.onWb _ _ _ (by decide)) (Leaves.mono (sweepEntries_leaves _ (ks := [])) (by decide) (by simp))

/-- No accepted course names an entry. -/
def unusedEntry (s : State) (i : Nat) : Bool := s.pipe.courses.all fun c => !(c.2.live && c.2.entries.contains i)

theorem unusedEntry_iff (s : State) (i : Nat) :
    unusedEntry s i = false ↔ s.pipe.courses.any (fun c => c.2.live && c.2.entries.contains i) = true := by
  simp [unusedEntry]

theorem sweepEntries_keeps {s : State} {i : Nat} {e : WbEntry} (h : Store.find s.wb i = some e)
    (hd : e.deleting = false ∨ unusedEntry s i = false) : Store.find (sweepEntries s).wb i = some e :=
  find_filter (p := fun e : Nat × WbEntry => !(e.2.deleting && unusedEntry s e.1)) h (by
    rcases hd with hd | hd
    · simp [hd]
    · simp [hd])

theorem deletingEntry_pipe (i : Nat) (s : State) : (deletingEntry i s).pipe = s.pipe :=
  (Leaves.onWb s i _ (ps := [.wb]) (ks := []) (by decide)).1 .pipe (by decide)

theorem delete_selected (i : Nat) (s : State) : match Store.find s.wb i with
    | some e => if unusedEntry s i = false then Store.find (sweepEntries (deletingEntry i s)).wb i = some { e with deleting := true }
      else Store.rising s.wb = true → Store.find (sweepEntries (deletingEntry i s)).wb i = none
    | none => Store.find (sweepEntries (deletingEntry i s)).wb i = none := by
  cases h : Store.find s.wb i with
  | none =>
    dsimp only
    rw [deletingEntry, onWb_none h]
    exact find_filter_none h
  | some e =>
    dsimp only
    have hf : Store.find (deletingEntry i s).wb i = some { e with deleting := true } := onWb_found h _
    have hu : unusedEntry (deletingEntry i s) i = unusedEntry s i := by rw [unusedEntry, deletingEntry_pipe, unusedEntry]
    split
    · next hc => exact sweepEntries_keeps hf (.inr (hu.trans hc))
    · next hc =>
      intro hr
      have hr' : Store.rising (deletingEntry i s).wb = true := by
        unfold deletingEntry State.onWb
        rw [h]
        exact Store.rising_put _ _ _ hr
      exact find_filter_out (p := fun e : Nat × WbEntry => !(e.2.deleting && unusedEntry (deletingEntry i s) e.1)) hr' hf
        (by simp [hu, Bool.eq_true_of_not_eq_false hc])

theorem delete_other {i j : Nat} {e : WbEntry} {s : State} (hj : j ≠ i) (h : Store.find s.wb j = some e) (hd : e.deleting = false) :
    Store.find (sweepEntries (deletingEntry i s)).wb j = some e :=
  sweepEntries_keeps ((onWb_other _ _ _ hj).trans h) (.inl hd)

theorem wbDelete_answers {x : Xfer} {s : State} (h : Accepts s x O.wbDefine (.num 0)) :
    Answers s (hostWrite x O.wbDefine (.num 0) (actWbDefine 0) s) x O.wbDefine (.num 0) .ok [.wb] []
      ∧ (hostWrite x O.wbDefine (.num 0) (actWbDefine 0) s).wb
        = (sweepEntries (deletingEntry (s.nat O.wbIndex) (atWrite s x O.wbDefine (.num 0)))).wb := by
  have ha := actWbDefine_delete (atWrite s x O.wbDefine (.num 0))
  rw [atWrite_nat] at ha
  exact wbWrite_does h ha (delete_leaves ..)

end Sys2Proof.Machine
open Sys2Proof Sys2Proof.Machine Sys2Proof.Safety

/-- Settles O23: the entry that a definition, a deletion, a write, a commit and a copy each leave. -/
theorem weightBankWrites : Obligations.WeightBankWrites := by
  unfold Obligations.WeightBankWrites
  refine ⟨fun x s h => ⟨_, rfl, ?_⟩, fun x s h => ⟨_, rfl, (wbDelete_answers h).1, ?_⟩, fun x i e s h hi he hd => ⟨_, rfl, ?_⟩,
    fun x data e s h hs hd hl hb hn => ?_, fun x data s h => ⟨_, rfl, ?_⟩, fun x s h => ⟨_, rfl, ?_⟩, fun i s => ?_⟩
  · obtain ⟨r, hans, hr⟩ := wbDefine_answers h
    refine ⟨r, hans, ?_⟩
    by_cases hk : wbLacks s = true
    · rw [if_pos (of_decide_eq_true hk)]
      rwa [if_pos hk] at hr
    · rw [if_neg (fun hh => hk (decide_eq_true hh))]
      rw [if_neg hk] at hr
      cases hc : s.wbChannel with
      | none => rwa [hc] at hr
      | some c =>
        rw [hc] at hr
        dsimp only at hr ⊢
        by_cases hw : wbOwnerOk s
        · rw [if_pos hw] at hr
          rw [if_pos hw]
          exact ⟨hr.1, by rw [hr.2, Store.find_put_same], fun j hj => by rw [hr.2, Store.find_put_ne _ _ _ _ hj]⟩
        · rw [if_neg hw] at hr
          rwa [if_neg hw]
  · have hd := delete_selected (s.nat O.wbIndex) (atWrite s x O.wbDefine (.num 0))
    rw [atWrite_wb, ← (wbDelete_answers h).2] at hd
    rw [State.wbSel]
    cases hf : Store.find s.wb (s.nat O.wbIndex) with
    | none => rwa [hf] at hd
    | some e =>
      rw [hf] at hd
      simp only [unusedEntry_iff, atWrite_pipe] at hd
      exact hd
  · rw [(wbDelete_answers h).2]
    exact delete_other hi (by rw [atWrite_wb]; exact he) hd
  · obtain ⟨hans, hw, ho⟩ := (writeWeights_answers h hs).1 (weightsReason_ok hd hl hb hn)
    refine ⟨_, _, rfl, hans, hw, ho, ?_⟩
    split
    · next hc => exact reachBack_copying _ hc
    · next hc =>
      rw [reachBack_direct _ hc]
      obtain ⟨h1, h2, h3, h4, h5⟩ := applyBack_write e (s.nat O.wbSubband) data
      refine ⟨h1, h2, h3, fun b hb => ⟨writtenBank (s.nat O.wbSubband) data b, ?_, Store.find_put_same .., fun j hj => Store.find_put_ne _ _ _ _ hj⟩, h5⟩
      rw [h4, hb]
      rfl
  · cases hs : s.wbSel with
    | none => exact (hostWrite_refused h (actWbWeights_none ((atWrite_wbSel ..).trans hs))).1
    | some e =>
      obtain ⟨hok, hno⟩ := writeWeights_answers h hs
      dsimp only
      have hr := weightsReason.eq_def e (s.nat O.wbSubband) data
      split
      · next hd =>
        rw [if_pos hd] at hr
        exact hr ▸ hno (by rw [hr]; decide)
      · next hd =>
        rw [if_neg hd] at hr
        split
        · next hl =>
          rw [if_pos (by simpa using hl)] at hr
          exact hr ▸ hno (by rw [hr]; decide)
        · next hl =>
          rw [if_neg (by simpa using hl)] at hr
          split
          · next hb =>
            rw [if_pos hb] at hr
            exact hr ▸ hno (by rw [hr]; decide)
          · next hb =>
            rw [if_neg hb] at hr
            split
            · next hn =>
              rw [if_pos ((overNorm_iff e data).mpr hn)] at hr
              exact hr ▸ hno (by rw [hr]; decide)
            · next hn =>
              rw [if_neg (fun hh => hn ((overNorm_iff e data).mp hh))] at hr
              exact (hok hr).1
  · cases hs : s.wbSel with
    | none => exact (hostWrite_refused h (actWbCommit_refused (by rw [atWrite_wbSel, hs]; exact nofun))).1
    | some e =>
      dsimp only
      split
      · next hd =>
        refine (hostWrite_refused h (actWbCommit_refused fun e' he' => ?_)).1
        rw [atWrite_wbSel, hs, Option.some.injEq] at he'
        exact he' ▸ hd
      · next hd =>
        have ha := actWbCommit_ok ((atWrite_wbSel s x O.wbCommit (.num 1)).trans hs) hd
        rw [atWrite_nat] at ha
        obtain ⟨hans, hw⟩ := wbWrite_does h ha (Leaves.onWb (ks := []) _ _ _ (by decide))
        refine ⟨hans, _, ?_, reachBack_commit e⟩
        exact (congrArg (Store.find · _) hw).trans (onWb_found (by rw [atWrite_wb]; exact hs) _)
  · cases hf : Store.find s.wb i with
    | none => exact ⟨_, congrArg Host.Outcome.next (by rw [hf]), rfl⟩
    | some e =>
      dsimp only
      by_cases hb : e.back = .copying
      · refine ⟨_, execWbCopyComplete_copying hf hb, ?_⟩
        rw [if_pos hb, copyComplete_wb]
        exact ⟨(onWb_found hf _).trans (congrArg some (copiedBack_fst e)), fun j hj => onWb_other _ _ _ hj, copyComplete_leaves s i e⟩
      · refine ⟨s, ?_, by rw [if_neg hb]⟩
        show execWbCopyComplete i s = .next s
        rw [execWbCopyComplete, hf]
        exact congrArg Host.Outcome.next (if_neg hb)
end

section
/-! SUPPORT. One-way delay and remote reset (09): the frames that a port sends of its own, and what a measurement keeps. -/
namespace Sys2Proof.Machine
open Sys2Proof.Safety

/-! ## Ports and the rest of the fronthaul -/

theorem Leaves.setFh (s : State) (f : Fronthaul) {ps : List Part} {ks : List Nat} (h : Part.fh ∈ ps) : Leaves s { s with fh := f } ps ks :=
  Leaves.of_dict (fun p hp => by cases p <;> simp_all [Part.same]) rfl

theorem Leaves.onFh (s : State) (f : Fronthaul → Fronthaul) {ps : List Part} {ks : List Nat} (h : Part.fh ∈ ps) :
    Leaves s (s.onFh f) ps ks := Leaves.setFh _ _ h

theorem onPort_port (s : State) (p : Nat) (f : PortIo → PortIo) : (s.onPort p f).port p = f (s.port p) := Store.at_putD_same ..

/-- Of the fronthaul only the ports have changed. -/
def PortsOnly (s t : State) : Prop := t.fh = { s.fh with ports := t.fh.ports }

theorem PortsOnly.trans {s t u : State} (h1 : PortsOnly s t) (h2 : PortsOnly t u) : PortsOnly s u := by
  rw [PortsOnly, h2, h1]

theorem PortsOnly.of_fh {s t : State} (h : t.fh = s.fh) : PortsOnly s t := by rw [PortsOnly, h]

theorem PortsOnly.onPort (s : State) (p : Nat) (f : PortIo → PortIo) : PortsOnly s (s.onPort p f) := rfl

theorem PortsOnly.kept {s t : State} (h : PortsOnly s t) : t.fh.owdId = s.fh.owdId ∧ t.fh.owdWait = s.fh.owdWait
    ∧ t.fh.resetId = s.fh.resetId := by
  unfold PortsOnly at h
  rw [h]
  exact ⟨rfl, rfl, rfl⟩

theorem linkUp_congr {s t : State} (h : t.dict = s.dict) (p : Nat) : t.linkUp p = s.linkUp p := by
  simp only [State.linkUp, State.obj_congr h]

theorem linkUp_advance (s : State) (n p : Nat) : (advance s n).linkUp p = s.linkUp p := linkUp_congr (advance_dict ..) p

/-! ## Frames of the device's own -/

theorem requeue_leaves (p : Nat) (s : State) {ks : List Nat} : Leaves s (requeue p s) [.fh] ks := Leaves.onPort _ _ _ (by decide)

theorem enterQueue_leaves (p cls bytes ends : Nat) (s : State) {ks : List Nat} : Leaves s (enterQueue p cls bytes ends s) [.fh] ks :=
  Leaves.trans (Leaves.onPort _ _ _ (by decide)) (requeue_leaves ..)

theorem enterQueue_ports (p cls bytes ends : Nat) (s : State) : PortsOnly s (enterQueue p cls bytes ends s) :=
  (PortsOnly.onPort s p _).trans (PortsOnly.onPort _ p _)

theorem enterQueue_recent (p cls bytes ends : Nat) (s : State) : ((enterQueue p cls bytes ends s).port p).recent = (s.port p).recent := by
  rw [enterQueue, requeue, onPort_port, onPort_port]

theorem sentFrames_leaves (p frames bytes : Nat) (s : State) : Leaves s (sentFrames p frames bytes s) [.dict] [O.txFrames p, O.txBytes p] :=
  Leaves.trans (Leaves.bump _ _ _ (by decide) (by simp)) (Leaves.bump _ _ _ (by decide) (by simp))

theorem txFrames_ne_txBytes (p : Nat) : O.txFrames p ≠ O.txBytes p := by
  simp only [O.txFrames, O.txBytes, ne_eq]
  omega

theorem sentFrames_counted (p frames bytes : Nat) (s : State) : Counted s (sentFrames p frames bytes s) (O.txFrames p) frames
    ∧ Counted s (sentFrames p frames bytes s) (O.txBytes p) bytes := by
  refine ⟨(State.obj_bump_ne _ _ _ _ (txFrames_ne_txBytes p)).trans (State.obj_bump_same ..), Counted.of_obj ?_ (State.obj_bump_same ..)⟩
  exact State.obj_bump_ne _ _ _ _ (txFrames_ne_txBytes p).symm

/-- What the device has just sent on a port of its own. -/
def ownLaunch (now : Nat) (frames : List OutFrame) : Launch := ⟨now, now, 0, [], 0, false, 0, frames, 0⟩

/-- The state in which a port's frames are counted and remembered, before they take their place in its queue. -/
def ownSent (p : Nat) (frames : List OutFrame) (bytes : Nat) (s : State) : State :=
  (sentFrames p frames.length bytes s).onPort p fun x => { x with recent := x.recent ++ [ownLaunch s.clock.ticks frames] }

theorem sendOwn_eq (p : Nat) (frames : List OutFrame) (bytes : Nat) (s : State) : sendOwn p frames bytes s
    = enterQueue p 3 bytes (s.clock.ticks + 1 + portTicks s p bytes) (ownSent p frames bytes s) := rfl

theorem ownSent_leaves (p : Nat) (frames : List OutFrame) (bytes : Nat) (s : State) :
    Leaves s (ownSent p frames bytes s) [.dict, .fh] [O.txFrames p, O.txBytes p] :=
  Leaves.trans (Leaves.mono (sentFrames_leaves ..) (by decide) (fun _ h => h)) (Leaves.onPort _ _ _ (by decide))

theorem sendOwn_leaves (p : Nat) (frames : List OutFrame) (bytes : Nat) (s : State) :
    Leaves s (sendOwn p frames bytes s) [.dict, .fh] [O.txFrames p, O.txBytes p] := by
  rw [sendOwn_eq]
  exact Leaves.trans (ownSent_leaves ..) (Leaves.mono (enterQueue_leaves _ _ _ _ _ (ks := [])) (by decide) nofun)

theorem sendOwn_ports (p : Nat) (frames : List OutFrame) (bytes : Nat) (s : State) : PortsOnly s (sendOwn p frames bytes s) := by
  rw [sendOwn_eq]
  exact ((PortsOnly.of_fh (sentFrames_leaves p frames.length bytes s |>.1 .fh (by decide))).trans (PortsOnly.onPort _ p _)).trans (enterQueue_ports ..)

theorem sendOwn_counted (p : Nat) (frames : List OutFrame) (bytes : Nat) (s : State) :
    Counted s (sendOwn p frames bytes s) (O.txFrames p) frames.length ∧ Counted s (sendOwn p frames bytes s) (O.txBytes p) bytes := by
  have h (k : Nat) : (sendOwn p frames bytes s).obj k = (sentFrames p frames.length bytes s).obj k := by
    rw [sendOwn_eq, (enterQueue_leaves _ _ _ _ _ (ks := [])).2 _ List.not_mem_nil]
    exact (Leaves.onPort _ p _ (ps := [.fh]) (ks := []) (by decide)).2 _ List.not_mem_nil
  obtain ⟨h1, h2⟩ := sentFrames_counted p frames.length bytes s
  exact ⟨(h _).trans h1, (h _).trans h2⟩

theorem sendOwn_recent (p : Nat) (frames : List OutFrame) (bytes : Nat) (s : State) :
    ownLaunch s.clock.ticks frames ∈ ((sendOwn p frames bytes s).port p).recent := by
  rw [sendOwn_eq, enterQueue_recent, ownSent, onPort_port]
  simp

theorem sendSmall_up {p : Nat} {s : State} (h : s.linkUp p = true) (dst : Nat) (bodies : List FrameBody) :
    sendSmall p dst bodies s = sendOwn p (bodies.map (frameOn s p dst)) (64 * bodies.length) s := if_pos h

theorem sendSmall_leaves (p dst : Nat) (bodies : List FrameBody) (s : State) :
    Leaves s (sendSmall p dst bodies s) [.dict, .fh] [O.txFrames p, O.txBytes p] :=
  Leaves.ite _ (sendOwn_leaves ..) (Leaves.refl ..)

theorem sendSmall_ports (p dst : Nat) (bodies : List FrameBody) (s : State) : PortsOnly s (sendSmall p dst bodies s) := by
  unfold sendSmall
  split
  · exact sendOwn_ports ..
  · rfl

theorem sendSmall_counted {p : Nat} {s : State} (h : s.linkUp p = true) (dst : Nat) (bodies : List FrameBody) :
    Counted s (sendSmall p dst bodies s) (O.txFrames p) bodies.length ∧ Counted s (sendSmall p dst bodies s) (O.txBytes p) (64 * bodies.length) := by
  rw [sendSmall_up h]
  have hc := sendOwn_counted p (bodies.map (frameOn s p dst)) (64 * bodies.length) s
  rwa [List.length_map] at hc

/-- A frame that a port sends of its own is remembered with its destination and body. -/
theorem sendSmall_recent {p : Nat} {s : State} (h : s.linkUp p = true) (dst : Nat) (b : FrameBody) :
    ∃ l ∈ ((sendSmall p dst [b] s).port p).recent, l.tick = s.clock.ticks ∧ l.frames.map (fun f => (f.dst, f.body)) = [(dst, b)] := by
  rw [sendSmall_up h]
  exact ⟨_, sendOwn_recent .., rfl, rfl⟩

/-! ## Measurements -/

/-- The messages with which a measurement starts. -/
def owdBodies (s : State) (p : Nat) (follow : Bool) : List FrameBody :=
  if follow then [.delay .requestFollowUp s.fh.owdId 0 0, .delay .followUp s.fh.owdId (egressStamp s p 64) 0]
  else [.delay .request s.fh.owdId (egressStamp s p 64) 0]

/-- The state in which the messages of a measurement have been sent. -/
def owdAsked (p dst : Nat) (follow : Bool) (s : State) : State := sendSmall p dst (owdBodies s p follow) s

theorem owdBodies_length (s : State) (p : Nat) (follow : Bool) : (owdBodies s p follow).length = if follow = true then 2 else 1 := by
  cases follow <;> rfl

theorem startOwd_fh (p dst : Nat) (follow : Bool) (s : State) : (startOwd p dst follow s).fh
    = { (owdAsked p dst follow s).fh with
        owd := some ⟨p, (owdAsked p dst follow s).fh.owdId, egressStamp s p 64, (owdAsked p dst follow s).clock.ticks⟩
        owdId := ((owdAsked p dst follow s).fh.owdId + 1) % 256 } := rfl

theorem owdAsked_kept (p dst : Nat) (follow : Bool) (s : State) : (owdAsked p dst follow s).fh.owdId = s.fh.owdId
    ∧ (owdAsked p dst follow s).clock = s.clock :=
  ⟨(sendSmall_ports p dst (owdBodies s p follow) s).kept.1, (sendSmall_leaves p dst (owdBodies s p follow) s).1 .clock (by decide)⟩

/-- The measurement that a start opens. -/
theorem startOwd_opens (p dst : Nat) (follow : Bool) (s : State) :
    (startOwd p dst follow s).fh.owd = some ⟨p, s.fh.owdId, egressStamp s p 64, s.clock.ticks⟩
      ∧ (startOwd p dst follow s).fh.owdId = (s.fh.owdId + 1) % 256 := by
  obtain ⟨h1, h2⟩ := owdAsked_kept p dst follow s
  rw [startOwd_fh, h1, h2]
  exact ⟨rfl, rfl⟩

theorem startOwd_leaves (p dst : Nat) (follow : Bool) (s : State) :
    Leaves s (startOwd p dst follow s) [.dict, .fh] [O.txFrames p, O.txBytes p] :=
  Leaves.trans (sendSmall_leaves ..) (Leaves.onFh _ _ (by decide))

theorem startOwd_counted {p : Nat} {s : State} (h : s.linkUp p = true) (dst : Nat) (follow : Bool) :
    Counted s (startOwd p dst follow s) (O.txFrames p) (if follow = true then 2 else 1) := by
  have hc := (sendSmall_counted h dst (owdBodies s p follow)).1
  rw [owdBodies_length] at hc
  exact hc

theorem actOwdStart_busy {v : Int} {s : State} (h : s.fh.owd ≠ none) : actOwdStart v s = (.measurementBusy, s) :=
  if_pos (Option.isSome_iff_ne_none.mpr h)

theorem actOwdStart_free {v : Int} {s : State} (h : s.fh.owd = none) :
    actOwdStart v s = (.ok, startOwd (s.nat O.owdPort) (wireNat (s.blob O.owdDest)) (v == 2) s) :=
  if_neg (by rw [h]; exact Bool.false_ne_true)

theorem atWrite_fh (s : State) (x : Xfer) (key : Nat) (v : Val) : (atWrite s x key v).fh = s.fh := atWrite_same s x key v .fh (by decide)

theorem txKey_not_counted (p : Nat) : O.txFrames p ∉ [O.transfersServed, O.transfersRefused, O.busyReplies] := by
  simp only [O.txFrames, O.transfersServed, O.transfersRefused, O.busyReplies, List.mem_cons, List.not_mem_nil, or_false, not_or]
  omega

/-- A write of OWD_START while no measurement is open. -/
theorem owdStart_answers {x : Xfer} {v : Int} {s : State} {n : Nat} (hv : (if (v == 2) = true then 2 else 1) = n)
    (h : Accepts s x O.owdStart (.num v)) (hn : s.fh.owd = none) :
    let t := hostWrite x O.owdStart (.num v) (actOwdStart v) s
    (∃ o, t.fh.owd = some o ∧ o.port = s.nat O.owdPort ∧ o.id = s.fh.owdId ∧ o.at' = s.clock.ticks + x.dt)
      ∧ t.fh.owdId = (s.fh.owdId + 1) % 256
      ∧ (s.linkUp (s.nat O.owdPort) = true → Counted s t (O.txFrames (s.nat O.owdPort)) n)
      ∧ Answers s t x O.owdStart (.num v) .ok [.fh] [O.txFrames (s.nat O.owdPort), O.txBytes (s.nat O.owdPort)] := by
  intro t
  have ha := actOwdStart_free (v := v) ((congrArg Fronthaul.owd (atWrite_fh s x O.owdStart (.num v))).trans hn)
  rw [atWrite_nat] at ha
  obtain ⟨hans, hsame, hobj⟩ := hostWrite_does h ha (startOwd_leaves ..) (by decide)
  obtain ⟨h1, h2⟩ := startOwd_opens (s.nat O.owdPort) (wireNat ((atWrite s x O.owdStart (.num v)).blob O.owdDest)) (v == 2)
    (atWrite s x O.owdStart (.num v))
  have hf : t.fh = _ := hsame .fh (by decide)
  refine ⟨⟨_, (congrArg Fronthaul.owd hf).trans h1, rfl, by rw [atWrite_fh], by rw [atWrite_num, advance_ticks]⟩,
    (congrArg Fronthaul.owdId hf).trans (by rw [h2, atWrite_fh]), fun hl => ?_, hans⟩
  have hc := startOwd_counted (p := s.nat O.owdPort) (s := atWrite s x O.owdStart (.num v)) (by rw [atWrite_num, linkUp_advance]; exact hl)
    (wireNat ((atWrite s x O.owdStart (.num v)).blob O.owdDest)) (v == 2)
  rw [hv] at hc
  refine Counted.of_obj (s' := atWrite s x O.owdStart (.num v)) (atWrite_obj ..) ?_
  rw [Counted, hobj _ (txKey_not_counted _)]
  exact hc

/-! ## Messages of a measurement that arrive -/

theorem advanceTicks_fh (s : State) (n : Nat) : (advanceTicks s n).fh = s.fh := advance_fh ..

theorem free_fh (s : State) : s.free.2.fh = s.fh := rfl

/-- What a message of a measurement does on a port that is up. -/
theorem execOneWayDelayMsgRx_up {dt p src id : Nat} {action : OwdAction} {timePs compPs : Int} {s : State} (hp : p < 24)
    (hl : s.linkUp p = true) : exec (.oneWayDelayMsgRx dt p src id action timePs compPs) s = .next
      (match action with
      | .request => if s.obj O.owdResponder == 1 then sendSmall p src [.delay .response id (ingressStamp (advance s dt) p) 0] (advance s dt)
          else advance s dt
      | .requestFollowUp => if s.obj O.owdResponder == 1 then
          (advance s dt).onFh fun f => { f with owdWait := f.owdWait ++ [((p, id), ingressStamp (advance s dt) p)] } else advance s dt
      | .followUp => if s.obj O.owdResponder == 1 && ((s.fh.owdWait.find? fun w => w.1 == (p, id)).map (·.2)).isSome then
          sendSmall p src [.delay .response id (((s.fh.owdWait.find? fun w => w.1 == (p, id)).map (·.2)).getD 0) 0]
            ((advance s dt).onFh fun f => { f with owdWait := f.owdWait.filter (fun w => w.1 != (p, id)) }) else advance s dt
      | .remoteRequest => if s.obj O.owdResponder == 1 && s.fh.owd.isNone then startOwd p src false (advance s dt) else advance s dt
      | .remoteRequestFollowUp => if s.obj O.owdResponder == 1 && s.fh.owd.isNone then startOwd p src true (advance s dt) else advance s dt
      | .response => match s.fh.owd with
        | some o => if o.port == p && o.id == id then
            ((advance s dt).setBlob O.owdResult (owdResult (codeOf 64 (timePs - compPs - o.t1)) 0 id)).onFh fun f => { f with owd := none }
          else advance s dt
        | none => advance s dt) := by
  show execOneWayDelayMsgRx dt p src id action timePs compPs s = _
  unfold execOneWayDelayMsgRx
  rw [if_neg (Nat.not_le.mpr hp)]
  dsimp only
  rw [linkUp_advance, hl, State.obj_advance, advance_fh, if_neg (show ¬ (!true) = true from Bool.false_ne_true)]
  cases action with
  | request => rfl
  | requestFollowUp => rfl
  | remoteRequest => rfl
  | remoteRequestFollowUp => rfl
  | followUp =>
    dsimp only
    split <;> rfl
  | response =>
    dsimp only
    cases s.fh.owd with
    | none => rfl
    | some o =>
      dsimp only
      split <;> rfl

theorem execOneWayDelayMsgRx_down {dt p src id : Nat} {action : OwdAction} {timePs compPs : Int} {s : State} (hp : p < 24)
    (hl : s.linkUp p = false) : exec (.oneWayDelayMsgRx dt p src id action timePs compPs) s = .next (advance s dt) := by
  show execOneWayDelayMsgRx dt p src id action timePs compPs s = _
  unfold execOneWayDelayMsgRx
  rw [if_neg (Nat.not_le.mpr hp)]
  dsimp only
  rw [linkUp_advance, hl]
  rfl

theorem advance_ports (s : State) (n : Nat) {ps : List Part} (h : ∀ p ∈ timeParts, p ∈ ps) {ks : List Nat} : Leaves s (advance s n) ps ks :=
  Leaves.advance s n h

/-- A message that answers nothing leaves what time's passing leaves. -/
theorem execOneWayDelayMsgRx_ignored {dt p src id : Nat} {action : OwdAction} {timePs compPs : Int} {s : State} (hp : p < 24)
    (h : s.linkUp p = false ∨ (action ≠ .response ∧ s.obj O.owdResponder ≠ 1)
      ∨ (action = .response ∧ ∀ o, s.fh.owd = some o → o.port ≠ p ∨ o.id ≠ id)) :
    exec (.oneWayDelayMsgRx dt p src id action timePs compPs) s = .next (advance s dt) := by
  cases hl : s.linkUp p with
  | false => exact execOneWayDelayMsgRx_down hp hl
  | true =>
    rw [execOneWayDelayMsgRx_up hp hl]
    rcases h with h | ⟨ha, hr⟩ | ⟨rfl, ho⟩
    · rw [hl] at h
      exact absurd h nofun
    · have hr' : (s.obj O.owdResponder == 1) = false := by simpa using hr
      rw [hr']
      cases action with
      | response => exact absurd rfl ha
      | _ => rfl
    · dsimp only
      cases hw : s.fh.owd with
      | none => rfl
      | some o =>
        dsimp only
        rw [if_neg]
        rcases ho o hw with h | h <;> simp [h]

/-- The state in which the open measurement has its result. -/
def owdClosed (b : Bytes) (s : State) : State := (s.setBlob O.owdResult b).onFh fun f => { f with owd := none }

theorem owdClosed_shows (b : Bytes) (s : State) : (owdClosed b s).blob O.owdResult = b ∧ (owdClosed b s).fh = { s.fh with owd := none } :=
  ⟨State.blob_setBlob_same s O.owdResult b, rfl⟩

theorem owdClosed_leaves (b : Bytes) (s : State) : Leaves s (owdClosed b s) [.blobs, .fh] [] :=
  Leaves.trans (Leaves.setBlob _ _ _ (by decide)) (Leaves.onFh _ _ (by decide))

theorem exec_response {dt p src : Nat} {timePs compPs : Int} {o : Owd} {s : State} (hp : p < 24) (hl : s.linkUp p = true)
    (ho : s.fh.owd = some o) (hq : o.port = p) : exec (.oneWayDelayMsgRx dt p src o.id .response timePs compPs) s
      = .next (owdClosed (owdResult (codeOf 64 (timePs - compPs - o.t1)) 0 o.id) (advance s dt)) := by
  rw [execOneWayDelayMsgRx_up hp hl, ho]
  exact congrArg Host.Outcome.next (if_pos (by simp [hq]))

/-- The state in which a measurement of a peer waits for its Follow_Up. -/
def owdNoted (p id : Nat) (a : Int) (s : State) : State := s.onFh fun f => { f with owdWait := f.owdWait ++ [((p, id), a)] }

theorem owdNoted_fh (p id : Nat) (a : Int) (s : State) : (owdNoted p id a s).fh = { s.fh with owdWait := s.fh.owdWait ++ [((p, id), a)] } := rfl

theorem owdNoted_leaves (p id : Nat) (a : Int) (s : State) {ks : List Nat} : Leaves s (owdNoted p id a s) [.fh] ks := Leaves.onFh _ _ (by decide)

theorem exec_requestFollowUp {dt p src id : Nat} {timePs compPs : Int} {s : State} (hp : p < 24) (hl : s.linkUp p = true)
    (hr : s.obj O.owdResponder = 1) : exec (.oneWayDelayMsgRx dt p src id .requestFollowUp timePs compPs) s
      = .next (owdNoted p id (ingressStamp (advance s dt) p) (advance s dt)) := by
  rw [execOneWayDelayMsgRx_up hp hl]
  exact congrArg Host.Outcome.next (if_pos (by simp [hr]))

theorem exec_request {dt p src id : Nat} {timePs compPs : Int} {s : State} (hp : p < 24) (hl : s.linkUp p = true)
    (hr : s.obj O.owdResponder = 1) : exec (.oneWayDelayMsgRx dt p src id .request timePs compPs) s
      = .next (sendSmall p src [.delay .response id (ingressStamp (advance s dt) p) 0] (advance s dt)) := by
  rw [execOneWayDelayMsgRx_up hp hl]
  exact congrArg Host.Outcome.next (if_pos (by simp [hr]))

/-- The state in which a waiting measurement of a peer is taken. -/
def owdTaken (p id : Nat) (s : State) : State := s.onFh fun f => { f with owdWait := f.owdWait.filter (fun w => w.1 != (p, id)) }

theorem owdTaken_leaves (p id : Nat) (s : State) {ks : List Nat} : Leaves s (owdTaken p id s) [.fh] ks := Leaves.onFh _ _ (by decide)

theorem exec_followUp {dt p src id : Nat} {timePs compPs a : Int} {s : State} (hp : p < 24) (hl : s.linkUp p = true)
    (hr : s.obj O.owdResponder = 1) (hw : s.fh.owdWait.find? (fun w => w.1 == (p, id)) = some ((p, id), a)) :
    exec (.oneWayDelayMsgRx dt p src id .followUp timePs compPs) s
      = .next (sendSmall p src [.delay .response id a 0] (owdTaken p id (advance s dt))) := by
  rw [execOneWayDelayMsgRx_up hp hl, hw]
  exact congrArg Host.Outcome.next (if_pos (by simp [hr]))

theorem exec_remoteRequest {dt p src id : Nat} (follow : Bool) {timePs compPs : Int} {s : State} (hp : p < 24) (hl : s.linkUp p = true)
    (hr : s.obj O.owdResponder = 1) (hn : s.fh.owd = none) :
    exec (.oneWayDelayMsgRx dt p src id (if follow = true then .remoteRequestFollowUp else .remoteRequest) timePs compPs) s
      = .next (startOwd p src follow (advance s dt)) := by
  have hc : (s.obj O.owdResponder == 1 && s.fh.owd.isNone) = true := by simp [hr, hn]
  rw [execOneWayDelayMsgRx_up hp hl]
  cases follow
  · exact congrArg Host.Outcome.next (if_pos hc)
  · exact congrArg Host.Outcome.next (if_pos hc)

/-! ## The time-outs and the remote reset -/

theorem execOwdTimeout_open {o : Owd} {s : State} (h : s.fh.owd = some o) : execOwdTimeout s
    = .next (owdClosed (owdResult (advanceTicks s (o.at' + 1562500)).free.1.toNat 1 o.id) (advanceTicks s (o.at' + 1562500)).free.2) := by
  rw [execOwdTimeout, h]
  rfl

/-- The state in which a remote reset has its status. -/
def resetShown (v : Int) (s : State) : State := (s.setObj O.resetStatus v).onFh fun f => { f with resetAt := none }

theorem resetShown_shows (v : Int) (s : State) : (resetShown v s).obj O.resetStatus = v ∧ (resetShown v s).fh = { s.fh with resetAt := none } :=
  ⟨State.obj_setObj_same s O.resetStatus v, rfl⟩

theorem resetShown_leaves (v : Int) (s : State) : Leaves s (resetShown v s) [.dict, .fh] [O.resetStatus] :=
  Leaves.trans (Leaves.setObj _ _ _ (by decide) (by decide)) (Leaves.onFh _ _ (by decide))

/-- The state in which a remote reset has been sent. -/
def resetSent (s : State) : State :=
  sendSmall (s.nat O.resetPort) (wireNat (s.blob O.resetDest)) [.reset ((s.fh.resetId + 1) % 2 ^ 16) 1] (s.setObj O.resetStatus 1)

/-- The state in which a remote reset awaits its response. -/
def resetWaits (s : State) : State :=
  (resetSent s).onFh fun f => { f with resetId := (f.resetId + 1) % 2 ^ 16, resetAt := some (resetSent s).clock.ticks }

theorem actResetSend_eq (s : State) : actResetSend s = (.ok, resetWaits s) := rfl

theorem resetSent_leaves (s : State) : Leaves s (resetSent s) [.dict, .fh] [O.resetStatus, O.txFrames (s.nat O.resetPort), O.txBytes (s.nat O.resetPort)] :=
  Leaves.trans (Leaves.setObj _ _ _ (by decide) (by simp)) (Leaves.mono (sendSmall_leaves ..) (by decide) (by simp))

theorem resetWaits_leaves (s : State) : Leaves s (resetWaits s) [.dict, .fh] [O.resetStatus, O.txFrames (s.nat O.resetPort), O.txBytes (s.nat O.resetPort)] :=
  Leaves.trans (resetSent_leaves s) (Leaves.onFh _ _ (by decide))

theorem resetStatus_not_tx (p : Nat) : O.resetStatus ∉ [O.txFrames p, O.txBytes p] := by
  simp only [O.resetStatus, O.txFrames, O.txBytes, List.mem_cons, List.not_mem_nil, or_false, not_or]
  omega

theorem resetWaits_status (s : State) : (resetWaits s).obj O.resetStatus = 1 :=
  ((sendSmall_leaves ..).2 _ (resetStatus_not_tx _)).trans (State.obj_setObj_same ..)

theorem resetWaits_fh (s : State) : (resetWaits s).fh.resetId = (s.fh.resetId + 1) % 65536 ∧ (resetWaits s).fh.resetAt = some s.clock.ticks := by
  have h1 : (resetSent s).fh.resetId = s.fh.resetId := (sendSmall_ports _ _ _ (s.setObj O.resetStatus 1)).kept.2.2
  have h2 : (resetSent s).clock = s.clock := (resetSent_leaves s).1 .clock (by decide)
  exact ⟨congrArg (fun i => (i + 1) % 65536) h1, congrArg (fun c => some (Clock.ticks c)) h2⟩

theorem resetWaits_counted {s : State} (h : s.linkUp (s.nat O.resetPort) = true) : Counted s (resetWaits s) (O.txFrames (s.nat O.resetPort)) 1 := by
  have hk : O.portLinkState (s.nat O.resetPort) ≠ O.resetStatus := by
    simp only [O.portLinkState, O.resetStatus, ne_eq]
    omega
  have hu : (s.setObj O.resetStatus 1).linkUp (s.nat O.resetPort) = true := by
    rw [State.linkUp, State.obj_setObj_ne _ _ _ _ hk]
    exact h
  refine Counted.of_obj (s' := s.setObj O.resetStatus 1) (State.obj_setObj_ne _ _ _ _ fun hh => ?_) (sendSmall_counted hu _ _).1
  exact resetStatus_not_tx (s.nat O.resetPort) (by rw [hh]; simp)

theorem execRemoteResetResponseRx_acked {dt p since : Nat} {s : State} (hp : p < 24) (hl : s.linkUp p = true) (ha : s.fh.resetAt = some since)
    (ht : s.clock.ticks + dt ≤ since + 15625000) : exec (.remoteResetResponseRx dt p s.fh.resetId) s
      = .next (resetShown 2 (advance s dt)) := by
  show execRemoteResetResponseRx dt p s.fh.resetId s = _
  unfold execRemoteResetResponseRx
  rw [if_neg (Nat.not_le.mpr hp)]
  dsimp only
  rw [linkUp_advance, hl, advance_fh, ha]
  dsimp only
  rw [if_pos (by rw [advance_ticks]; simpa using ht)]
  rfl

theorem execRemoteResetResponseRx_ignored {dt p id : Nat} {s : State} (hp : p < 24)
    (h : s.linkUp p = false ∨ id ≠ s.fh.resetId ∨ s.fh.resetAt = none) : exec (.remoteResetResponseRx dt p id) s = .next (advance s dt) := by
  show execRemoteResetResponseRx dt p id s = _
  unfold execRemoteResetResponseRx
  rw [if_neg (Nat.not_le.mpr hp)]
  dsimp only
  rw [linkUp_advance, advance_fh]
  cases ha : s.fh.resetAt with
  | none => rfl
  | some t =>
    dsimp only
    rw [if_neg]
    rcases h with h | h | h
    · simp [h]
    · simp [h]
    · rw [ha] at h
      exact absurd h nofun

theorem execRemoteResetTimeout_open {since : Nat} {s : State} (h : s.fh.resetAt = some since) : execRemoteResetTimeout s
    = .next (resetShown 3 (advanceTicks s (since + 15625000))) := by
  rw [execRemoteResetTimeout, h]
  rfl

end Sys2Proof.Machine
open Sys2Proof Sys2Proof.Machine Sys2Proof.Safety

/-- Settles O29: each message of a measurement or a reset is one branch, and what the device sends of its own is `sendSmall`'s. -/
theorem delayAndReset : Obligations.DelayAndReset := by
  unfold Obligations.DelayAndReset
  refine ⟨fun x s h _ => ⟨_, rfl, ?_⟩, fun x s h _ hn => ⟨_, rfl, ?_⟩, fun dt p src id timePs compPs o s hp hl ho h1 h2 => ?_,
    fun dt p src id timePs compPs s hp hl hr => ?_, fun dt p src id timePs compPs s hp hl hr => ?_,
    fun dt p src id timePs compPs a s hp hl hr hw => ?_, fun dt p src id follow timePs compPs s hp hl hr hn => ?_,
    fun dt p src id action timePs compPs s hp h => execOneWayDelayMsgRx_ignored hp h, fun o s h => ?_, fun x s h _ => ⟨_, rfl, ?_⟩,
    fun dt p since s hp hl ha ht => ?_, fun dt p id s hp h => execRemoteResetResponseRx_ignored hp h, fun since s h => ?_⟩
  · split
    · next hn => exact owdStart_answers (by decide) h hn
    · next hn =>
      exact (hostWrite_refused h (actOwdStart_busy (by rw [atWrite_fh]; exact hn))).1
  · obtain ⟨⟨o, h1, h2, h3, -⟩, h4, h5, h6⟩ := owdStart_answers (n := 2) (by decide) h hn
    exact ⟨⟨o, h1, h2, h3⟩, h4, h5, h6⟩
  · subst h2
    obtain ⟨hb, hf⟩ := owdClosed_shows (owdResult (codeOf 64 (timePs - compPs - o.t1)) 0 o.id) (advance s dt)
    rw [advance_fh] at hf
    exact ⟨_, exec_response hp hl ho h1, hf, hb, Leaves.trans (advance_ports s dt (by decide)) (Leaves.mono (owdClosed_leaves ..) (by decide) nofun)⟩
  · have hl' := (linkUp_advance s dt p).trans hl
    obtain ⟨h1, h2⟩ := sendSmall_counted hl' src [.delay .response id (ingressStamp (advance s dt) p) 0]
    obtain ⟨l, hm, ht, hf⟩ := sendSmall_recent hl' src (.delay .response id (ingressStamp (advance s dt) p) 0)
    exact ⟨_, exec_request hp hl hr, Counted.of_advance h1, Counted.of_advance h2,
      ⟨l, hm, by rw [ht, advance_ticks], hf⟩, Leaves.trans (advance_ports s dt (by decide)) (Leaves.mono (sendSmall_leaves ..) (by decide) (fun _ h => h))⟩
  · have hf := owdNoted_fh p id (ingressStamp (advance s dt) p) (advance s dt)
    rw [advance_fh] at hf
    exact ⟨_, exec_requestFollowUp hp hl hr, hf, Leaves.trans (advance_ports s dt (by decide)) (Leaves.mono (owdNoted_leaves _ _ _ _ (ks := [])) (by decide) nofun)⟩
  · have hd : Leaves (advance s dt) (owdTaken p id (advance s dt)) [.fh] [] := owdTaken_leaves ..
    have hl' : (owdTaken p id (advance s dt)).linkUp p = true := (linkUp_advance s dt p).trans hl
    obtain ⟨h1, -⟩ := sendSmall_counted hl' src [.delay .response id a 0]
    obtain ⟨l, hm, ht, hf⟩ := sendSmall_recent hl' src (.delay .response id a 0)
    refine ⟨_, exec_followUp hp hl hr hw, Counted.of_advance (n := dt) (Counted.of_obj (hd.2 _ List.not_mem_nil) h1),
      ⟨l, hm, ?_, hf⟩, ?_, ?_⟩
    · rw [ht, hd.1 .clock (by decide), advance_ticks]
    · rw [congrArg Fronthaul.owdWait (sendSmall_ports p src [.delay .response id a 0] (owdTaken p id (advance s dt)))]
      intro w hw'
      have := (List.mem_filter.mp hw').2
      simpa using this
    · exact Leaves.trans (advance_ports s dt (by decide)) (Leaves.trans (Leaves.mono hd (by decide) nofun)
        (Leaves.mono (sendSmall_leaves ..) (by decide) (fun _ h => h)))
  · obtain ⟨h1, h2⟩ := startOwd_opens p src follow (advance s dt)
    rw [advance_fh] at h1 h2
    exact ⟨_, exec_remoteRequest follow hp hl hr hn, ⟨_, h1, rfl, rfl⟩, h2,
      Counted.of_advance (startOwd_counted ((linkUp_advance s dt p).trans hl) src follow),
      Leaves.trans (advance_ports s dt (by decide)) (Leaves.mono (startOwd_leaves ..) (by decide) (fun _ h => h))⟩
  · obtain ⟨hb, hf⟩ := owdClosed_shows (owdResult (advanceTicks s (o.at' + 1562500)).free.1.toNat 1 o.id) (advanceTicks s (o.at' + 1562500)).free.2
    rw [free_fh, advanceTicks_fh] at hf
    refine ⟨_, _, execOwdTimeout_open h, hf, hb, ?_, Leaves.trans (advanceTicks_leaves s _ (by decide))
      (Leaves.trans (Leaves.free _ (by decide)) (Leaves.mono (owdClosed_leaves ..) (by decide) nofun))⟩
    rw [(owdClosed_leaves _ _).1 .clock (by decide)]
    exact le_advanceTicks s _
  · obtain ⟨hans, hsame, hobj⟩ := hostWrite_does h (actResetSend_eq _) (resetWaits_leaves _) (by decide)
    obtain ⟨h1, h2⟩ := resetWaits_fh (atWrite s x O.resetSend (.num 1))
    rw [atWrite_nat] at hans
    refine ⟨(hobj _ (by decide)).trans (resetWaits_status _), ?_, ?_, fun hl => ?_, hans⟩
    · rw [hsame .fh (by decide), h1, atWrite_fh]
    · rw [hsame .fh (by decide), h2, atWrite_num, advance_ticks]
    · have hc := resetWaits_counted (s := atWrite s x O.resetSend (.num 1)) (by rw [atWrite_nat, atWrite_num, linkUp_advance]; exact hl)
      rw [atWrite_nat] at hc
      refine Counted.of_obj (s' := atWrite s x O.resetSend (.num 1)) (atWrite_obj ..) ?_
      rw [Counted, hobj _ (txKey_not_counted _)]
      exact hc
  · obtain ⟨hb, hf⟩ := resetShown_shows 2 (advance s dt)
    rw [advance_fh] at hf
    exact ⟨_, execRemoteResetResponseRx_acked hp hl ha ht, hb, hf, Leaves.trans (advance_ports s dt (by decide))
      (Leaves.mono (resetShown_leaves ..) (by decide) (fun _ h => h))⟩
  · obtain ⟨hb, hf⟩ := resetShown_shows 3 (advanceTicks s (since + 15625000))
    rw [advanceTicks_fh] at hf
    refine ⟨_, execRemoteResetTimeout_open h, hb, hf, ?_, Leaves.trans (advanceTicks_leaves s _ (by decide))
      (Leaves.mono (resetShown_leaves ..) (by decide) (fun _ h => h))⟩
    rw [(resetShown_leaves _ _).1 .clock (by decide)]
    exact le_advanceTicks s _
end

section
/-! SUPPORT. Course channels and the courses' own fields through what follows a change of an instance (03 R99; 04 R128, R133, R134; 13 R447). -/
namespace Sys2Proof.Machine
open Sys2Proof.Safety

/-! ## Channels -/

theorem onChan_chan (s : State) (c : Nat) (f : Channel → Channel) (j : Nat) : (s.onChan c f).chan j = if j = c then f (s.chan c) else s.chan j := by
  split
  · next h =>
    subst h
    exact Store.at_put_same ..
  · next h => exact Store.at_put_ne _ _ _ _ _ h

theorem onChan_chan_same (s : State) (c : Nat) (f : Channel → Channel) : (s.onChan c f).chan c = f (s.chan c) := Store.at_put_same ..

theorem chan_congr {s t : State} (h : t.link.chans = s.link.chans) (c : Nat) : t.chan c = s.chan c := by rw [State.chan, h, State.chan]

theorem Leaves.onChan (s : State) (c : Nat) (f : Channel → Channel) {ps : List Part} {ks : List Nat} (h : Part.link ∈ ps) :
    Leaves s (s.onChan c f) ps ks := Leaves.setLink _ _ h

theorem onChan_link (s : State) (c : Nat) (f : Channel → Channel) :
    (s.onChan c f).link.sent = s.link.sent ∧ (s.onChan c f).link.journal = s.link.journal := ⟨rfl, rfl⟩

theorem advance_chan (s : State) (n c : Nat) : (advance s n).chan c = s.chan c := chan_congr (by rw [advance_link]) c

/-- A message whose form and session are in order comes to the rules of its type. -/
theorem courseArrival_active {h : CourseHdr} {length : Nat} {act : State → State} {s : State} (h1 : 1 ≤ h.chan) (h64 : h.chan ≤ 64)
    (hl : h.length = length) (hm : h.length ≤ 65600) (hs : s.obj O.sessionState = 1) :
    courseArrival h length act s = act (advance s h.dt) := by
  have hc : ¬ (h.chan == 0 || decide (64 < h.chan) || h.length != length || decide (65600 < h.length)
      || (advance s h.dt).obj O.sessionState == 0) = true := by
    rw [State.obj_advance, hs, hl]
    simp only [Bool.or_eq_true, beq_iff_eq, decide_eq_true_eq, bne_iff_ne, not_or]
    omega
  unfold courseArrival
  dsimp only
  rw [if_neg hc, if_neg (by rw [State.obj_advance, hs]; decide)]

/-! ## The fields of courses -/

/-- A course without what an expiry or a reservation writes in it. -/
def courseCore (c : Course) : Course := { c with causes := [], expired := 0, softRes := [] }

theorem courseCore_fields {c d : Course} (h : courseCore d = courseCore c) : d.state = c.state ∧ d.gen = c.gen ∧ d.outSeq = c.outSeq
    ∧ d.ats = c.ats ∧ d.reqSeq = c.reqSeq ∧ d.recs = c.recs ∧ d.revOk = c.revOk := by
  have hf {α : Type} (g : Course → α) : g (courseCore d) = g (courseCore c) := congrArg g h
  exact ⟨hf Course.state, hf Course.gen, hf Course.outSeq, hf Course.ats, hf Course.reqSeq, hf Course.recs, hf Course.revOk⟩

/-- Courses differ at most in what an expiry or a reservation writes in them. -/
def CoursesKeep (s t : State) : Prop := ∀ j, (t.course j).map courseCore = (s.course j).map courseCore

namespace CoursesKeep
variable {s t u : State}

theorem trans (h1 : CoursesKeep s t) (h2 : CoursesKeep t u) : CoursesKeep s u := fun j => (h2 j).trans (h1 j)

theorem of_pipe (h : t.pipe = s.pipe) : CoursesKeep s t := fun j => congrArg _ (course_congr h j)

theorem refl (s : State) : CoursesKeep s s := of_pipe rfl

theorem onCourse (s : State) (k : Nat) {f : Course → Course} (hf : ∀ c, courseCore (f c) = courseCore c) : CoursesKeep s (s.onCourse k f) := by
  intro j
  rw [onCourse_course]
  split
  · next h =>
    subst h
    rw [Option.map_map]
    exact congrArg (fun g => Option.map g (s.course j)) (funext hf)
  · rfl

theorem foldl {α : Type} {f : State → α → State} (h : ∀ a s, CoursesKeep s (f s a)) (l : List α) (s : State) : CoursesKeep s (l.foldl f s) := by
  induction l generalizing s with
  | nil => exact refl s
  | cons a l ih => exact (h a s).trans (ih _)

theorem found (h : CoursesKeep s t) {j : Nat} {c : Course} (hc : s.course j = some c) : ∃ c', t.course j = some c' ∧ courseCore c' = courseCore c := by
  have := h j
  rw [hc] at this
  cases ht : t.course j with
  | none => rw [ht] at this; exact absurd this nofun
  | some c' =>
    rw [ht] at this
    exact ⟨c', rfl, Option.some.inj this⟩

end CoursesKeep

theorem countExpiry_keeps (o : Op) (key : Nat) (s : State) : CoursesKeep s (countExpiry o key s) := by
  have h1 : CoursesKeep s ((s.bump (O.expiredOps o.carrier) 1).bump key 1) := CoursesKeep.of_pipe rfl
  unfold countExpiry causeAt
  dsimp only
  refine CoursesKeep.trans (h1.trans (CoursesKeep.onCourse _ _ ?_)) (CoursesKeep.onCourse _ _ ?_)
  · exact fun _ => rfl
  · exact fun _ => rfl

theorem expireOp_keeps (tag : Nat) (s : State) : CoursesKeep s (expireOp tag s) := by
  unfold expireOp
  split
  · next o _ =>
    split
    · have h1 : CoursesKeep s (dropKilnJob tag s) := CoursesKeep.of_pipe ((dropKilnJob_leaves tag s).1 .pipe (by decide))
      have h2 (u : State) : CoursesKeep u (traceOp 6 tag o 0 0 0 u) := CoursesKeep.of_pipe ((Within.start u).traceOp.same .pipe (by decide))
      exact CoursesKeep.trans (CoursesKeep.trans (h1.trans (countExpiry_keeps o _ _)) (CoursesKeep.of_pipe (State.onOp_pipe ..))) (h2 _)
    · exact CoursesKeep.refl s
  · exact CoursesKeep.refl s

theorem settleOp_keeps (s : State) (tag : Nat) : CoursesKeep s (settleOp s tag) := by
  unfold settleOp
  split
  · next o _ =>
    split
    · split
      · exact expireOp_keeps tag s
      · split
        · exact CoursesKeep.of_pipe ((Within.start s).makeReady.same .pipe (by decide))
        · exact CoursesKeep.refl s
    · split
      · exact expireOp_keeps tag s
      · exact CoursesKeep.refl s
  · exact CoursesKeep.refl s

theorem settle_keeps (s : State) : CoursesKeep s (settle s) := CoursesKeep.foldl (fun tag s => settleOp_keeps s tag) _ s

theorem releaseOps_leaves (s : State) {ks : List Nat} : Leaves s (releaseOps s) [.sched] ks := Leaves.setOps _ _ (by decide)

theorem askOutcomes_leaves (s : State) {ks : List Nat} : Leaves s (askOutcomes s) [.link] ks :=
  Leaves.foldl _ _ (fun key _ s => askOutcome_leaves key s) s

theorem askOutcomes_sent (s : State) : (askOutcomes s).link.sent = s.link.sent ∧ (askOutcomes s).link.chans = s.link.chans :=
  ⟨foldl_proj (fun t : State => t.link.sent) (f := fun s k => askOutcome k s) (fun k s => (askOutcome_sent k s).1) _ s,
    foldl_proj (fun t : State => t.link.chans) (f := fun s k => askOutcome k s) (fun k s => (askOutcome_sent k s).2) _ s⟩

/-- What follows a change of an instance leaves the courses' fields, and sends nothing. -/
theorem resettle_keeps (s : State) : CoursesKeep s (resettle s) :=
  ((settle_keeps s).trans (CoursesKeep.of_pipe ((releaseOps_leaves (ks := []) _).1 .pipe (by decide)))).trans
    ((CoursesKeep.of_pipe ((askOutcomes_leaves (ks := []) _).1 .pipe (by decide))).trans
      (CoursesKeep.of_pipe ((Within.start _).partsDone.same .pipe (by decide))))

theorem resettle_sent (s : State) : (resettle s).link.sent = s.link.sent ∧ (resettle s).link.chans = s.link.chans := by
  have h1 : (settle s).link = s.link := (Within.start s).settle.same .link (by decide)
  have h2 : (releaseOps (settle s)).link = (settle s).link := (releaseOps_leaves (ks := []) _).1 .link (by decide)
  have h3 : (resettle s).link = (askOutcomes (releaseOps (settle s))).link := (Within.start _).partsDone.same .link (by decide)
  rw [h3, (askOutcomes_sent _).1, (askOutcomes_sent _).2, h2, h1]
  exact ⟨rfl, rfl⟩

/-- The parts that follow a change of an instance. -/
def settleParts : List Part := [.dict, .link, .svc, .pipe, .sched, .kiln]

theorem resettle_same (s : State) : SameBut s (resettle s) settleParts :=
  SameBut.mono (fun p hp => (Within.start s).resettle.same p hp) (by decide)

/-! ## A request that is judged -/

/-- The state in which a complete request is judged: its channel expects the next sequence. -/
def judgedAt (r : Request) (s : State) : State :=
  s.onChan r.hdr.chan fun c => { c with req := none, nextReq := seqNext c.nextReq, owed := 0 }

/-- What the tests of a request need, after the requests before it. -/
def askedAt (r : Request) (s : State) : Asked := askedOf (judgedAt r s).handled r

/-- The result of its tests. -/
def judgementAt (r : Request) (s : State) : Reason × Option Int := judgeRequest (judgedAt r s).handled (askedAt r s)

/-- What a request that has passed claims on its channel. -/
def claimedOn (r : Request) (e : Reason) (k : Claim) (c : Channel) : Channel :=
  { c with claims := c.claims ++ [k], nextOut := if e == .ok && r.type == 0x0101 then seqNext c.nextOut else c.nextOut }

/-- The state in which a judged request has claimed what it needs, or its refusal has counted. -/
def judgedKept (r : Request) (s : State) : State :=
  if (judgementAt r s).1 = .ok then (judgedAt r s).onChan r.hdr.chan (claimedOn r (judgementAt r s).1 (claimOf (judgedAt r s).handled (askedAt r s)))
  else countRefusal (askedAt r s) (judgementAt r s).1 (judgedAt r s)

/-- The verdict of a request. -/
def verdictAt (r : Request) (s : State) : Verdict :=
  { seq := r.hdr.seq, type := r.type, course := r.hdr.course
    gen := if (judgementAt r s).1 = .ok then r.hdr.gen else (((askedAt r s).course.map (·.gen)).getD 0)
    ats := r.hdr.ats, reason := (judgementAt r s).1, credits := (s.chan r.hdr.chan).owed + r.cost
    outSeq := if (judgementAt r s).1 == .ok && r.type == 0x0101 then (s.chan r.hdr.chan).nextOut else 0
    excess := if (judgementAt r s).1 == .tooLate || (judgementAt r s).1 == .deadlineInfeasible then excessNs (judgementAt r s).2 else 0 }

/-- The state in which a verdict is the journal's newest record. -/
def withVerdict (chan : Nat) (v : Verdict) (s : State) : State := { s with link := { s.link with journal := s.link.journal ++ [.verdict chan v] } }

theorem completeRequest_eq (r : Request) (s : State) : completeRequest r s = withVerdict r.hdr.chan (verdictAt r s) (judgedKept r s) := rfl

/-! ## What a refusal counts -/

theorem Leaves.of_eq {s t : State} {ps : List Part} {ks : List Nat} (h : t = s) : Leaves s t ps ks := h ▸ Leaves.refl ..

/-- The reasons that count. -/
def refusalCounted (chan : Nat) (r : Reason) (s : State) : State :=
  if r == .journalFull then (if r == .tooLate then s.bump O.tooLateTotal 1 else s).bump (O.journalFullRefusals chan.pred) 1
  else if r == .tooLate then s.bump O.tooLateTotal 1 else s

theorem refusalCounted_leaves (chan : Nat) (r : Reason) (s : State) :
    Leaves s (refusalCounted chan r s) [.dict] [O.tooLateTotal, O.journalFullRefusals chan.pred] := by
  have h1 : Leaves s (if r == .tooLate then s.bump O.tooLateTotal 1 else s) [.dict] [O.tooLateTotal, O.journalFullRefusals chan.pred] :=
    Leaves.ite _ (Leaves.bump _ _ _ (by decide) (by simp)) (Leaves.refl ..)
  exact Leaves.ite _ (Leaves.trans h1 (Leaves.bump _ _ _ (by decide) (by simp))) h1

theorem countRefusal_other {a : Asked} (r : Reason) (s : State) (h : a.req.type ≠ 0x0102) :
    countRefusal a r s = refusalCounted a.req.hdr.chan r s := by
  unfold countRefusal refusalCounted
  exact if_neg (by simpa using h)

theorem countRefusal_revise {a : Asked} (r : Reason) (s : State) (h : a.req.type = 0x0102) : countRefusal a r s
    = countRefused a (if r == .tooLate then (refusalCounted a.req.hdr.chan r s).bump (O.refusedTooLate a.n) 1 else refusalCounted a.req.hdr.chan r s) := by
  unfold countRefusal refusalCounted
  exact if_pos (by simpa using h)

/-- A refusal counts in objects of its channel and carrier. -/
theorem reviseCounted_leaves (a : Asked) (r : Reason) (s : State) :
    Leaves s (if r == .tooLate then (refusalCounted a.req.hdr.chan r s).bump (O.refusedTooLate a.n) 1 else refusalCounted a.req.hdr.chan r s)
      [.dict] [O.tooLateTotal, O.journalFullRefusals a.req.hdr.chan.pred, O.refusedTooLate a.n] := by
  have h1 := Leaves.mono (refusalCounted_leaves a.req.hdr.chan r s) (qs := [.dict])
    (ls := [O.tooLateTotal, O.journalFullRefusals a.req.hdr.chan.pred, O.refusedTooLate a.n]) (fun _ h => h) (by simp)
  exact Leaves.ite _ (Leaves.trans h1 (Leaves.bump _ _ _ (by decide) (by simp))) h1

/-- A refused revision counted in the claims of its channel. -/
def refusedOn (a : Asked) (c : Channel) : Channel := { c with claims := c.claims.map fun k =>
    if k.req.type == 0x0101 && k.req.hdr.course == a.req.hdr.course then { k with revRef := k.revRef + 1 } else k }

theorem countRefused_eq (a : Asked) (s : State) : countRefused a s = if (s.course a.key).isSome
    then s.onCourse a.key fun c => { c with revRef := c.revRef + 1 } else s.onChan a.req.hdr.chan (refusedOn a) := rfl

theorem countRefused_leaves (a : Asked) (s : State) {ks : List Nat} : Leaves s (countRefused a s) [.link, .pipe] ks := by
  rw [countRefused_eq]
  exact Leaves.ite _ (Leaves.onCourse _ _ _ (by decide)) (Leaves.onChan _ _ _ (by decide))

/-- A refused revision leaves its channel but for what its claims count. -/
theorem countRefused_chan (a : Asked) (s : State) (j : Nat) : ((countRefused a s).chan j).req = (s.chan j).req
    ∧ ((countRefused a s).chan j).nextReq = (s.chan j).nextReq ∧ ((countRefused a s).chan j).claims.map (·.req) = (s.chan j).claims.map (·.req) := by
  rw [countRefused_eq]
  split
  · have hl : (s.onCourse a.key fun c => { c with revRef := c.revRef + 1 }).chan j = s.chan j := chan_congr (by rw [State.onCourse_link]) j
    rw [hl]
    exact ⟨rfl, rfl, rfl⟩
  · rw [onChan_chan]
    split
    · next hj =>
      subst hj
      refine ⟨rfl, rfl, ?_⟩
      rw [refusedOn, List.map_map]
      refine List.map_congr_left fun k _ => ?_
      dsimp only [Function.comp]
      split <;> rfl
    · exact ⟨rfl, rfl, rfl⟩

theorem countRefused_link (a : Asked) (s : State) : (countRefused a s).link.sent = s.link.sent ∧ (countRefused a s).link.journal = s.link.journal := by
  rw [countRefused_eq]
  split
  · rw [State.onCourse_link]
    exact ⟨rfl, rfl⟩
  · exact onChan_link ..

theorem countRefused_course {a : Asked} {s : State} {c : Course} (h : s.course a.key = some c) :
    (countRefused a s).course a.key = some { c with revRef := c.revRef + 1 } := by
  rw [countRefused_eq, if_pos (by rw [h]; rfl), onCourse_course, if_pos rfl, h]
  rfl

/-! ## The channel after a judgement -/

theorem judgedKept_refused_link {r : Request} {s : State} :
    ((countRefusal (askedAt r s) (judgementAt r s).1 (judgedAt r s)).chan r.hdr.chan).req = none
      ∧ ((countRefusal (askedAt r s) (judgementAt r s).1 (judgedAt r s)).chan r.hdr.chan).nextReq = seqNext (s.chan r.hdr.chan).nextReq
      ∧ (countRefusal (askedAt r s) (judgementAt r s).1 (judgedAt r s)).link.journal = s.link.journal
      ∧ (countRefusal (askedAt r s) (judgementAt r s).1 (judgedAt r s)).link.sent = s.link.sent := by
  have hj : (judgedAt r s).chan r.hdr.chan = { s.chan r.hdr.chan with req := none, nextReq := seqNext (s.chan r.hdr.chan).nextReq, owed := 0 } :=
    onChan_chan_same ..
  obtain ⟨hs1, hs2⟩ : (judgedAt r s).link.sent = s.link.sent ∧ (judgedAt r s).link.journal = s.link.journal := onChan_link ..
  by_cases ht : (askedAt r s).req.type = 0x0102
  · rw [countRefusal_revise _ _ ht]
    have hl := (reviseCounted_leaves (askedAt r s) (judgementAt r s).1 (judgedAt r s)).1 .link (by decide)
    obtain ⟨h1, h2, -⟩ := countRefused_chan (askedAt r s) (if (judgementAt r s).1 == .tooLate
      then (refusalCounted (askedAt r s).req.hdr.chan (judgementAt r s).1 (judgedAt r s)).bump (O.refusedTooLate (askedAt r s).n) 1
      else refusalCounted (askedAt r s).req.hdr.chan (judgementAt r s).1 (judgedAt r s)) r.hdr.chan
    obtain ⟨h3, h4⟩ := countRefused_link (askedAt r s) (if (judgementAt r s).1 == .tooLate
      then (refusalCounted (askedAt r s).req.hdr.chan (judgementAt r s).1 (judgedAt r s)).bump (O.refusedTooLate (askedAt r s).n) 1
      else refusalCounted (askedAt r s).req.hdr.chan (judgementAt r s).1 (judgedAt r s))
    rw [h1, h2, h3, h4, chan_congr (congrArg Link.chans hl), hl, hj, hs1, hs2]
    exact ⟨rfl, rfl, rfl, rfl⟩
  · rw [countRefusal_other _ _ ht]
    have hl := (refusalCounted_leaves (askedAt r s).req.hdr.chan (judgementAt r s).1 (judgedAt r s)).1 .link (by decide)
    rw [chan_congr (congrArg Link.chans hl), hl, hj, hs1, hs2]
    exact ⟨rfl, rfl, rfl, rfl⟩

theorem judgedKept_link (r : Request) (s : State) :
    ((judgedKept r s).chan r.hdr.chan).req = none ∧ ((judgedKept r s).chan r.hdr.chan).nextReq = seqNext (s.chan r.hdr.chan).nextReq
      ∧ (judgedKept r s).link.journal = s.link.journal ∧ (judgedKept r s).link.sent = s.link.sent := by
  unfold judgedKept
  split
  · have hj : (judgedAt r s).chan r.hdr.chan = { s.chan r.hdr.chan with req := none, nextReq := seqNext (s.chan r.hdr.chan).nextReq, owed := 0 } :=
      onChan_chan_same ..
    rw [onChan_chan_same, hj]
    exact ⟨rfl, rfl, rfl, rfl⟩
  · exact judgedKept_refused_link

theorem withVerdict_chan (chan : Nat) (v : Verdict) (s : State) (j : Nat) : (withVerdict chan v s).chan j = s.chan j := rfl

/-- A judged request is no longer in progress, its channel expects the next sequence, and its verdict is the newest record of the journal. -/
theorem completeRequest_judged (r : Request) (s : State) :
    ((completeRequest r s).chan r.hdr.chan).req = none
      ∧ ((completeRequest r s).chan r.hdr.chan).nextReq = seqNext (s.chan r.hdr.chan).nextReq
      ∧ (completeRequest r s).link.journal = s.link.journal ++ [.verdict r.hdr.chan (verdictAt r s)] := by
  obtain ⟨h1, h2, h3, -⟩ := judgedKept_link r s
  rw [completeRequest_eq, withVerdict_chan]
  exact ⟨h1, h2, congrArg (· ++ _) h3⟩

end Sys2Proof.Machine
end

section
/-! SUPPORT. A course's data and its life (03 R100, R107, R112). -/
namespace Sys2Proof.Machine
open Sys2Proof.Safety

/-! ## Transport-block data -/

/-- The request in progress with one more message of its data. -/
def withData (h : CourseHdr) (handle : Nat) (data : Bytes) (r : Request) : Request :=
  { r with got := r.got + data.length, data := r.data ++ [(handle, data)], cost := r.cost + creditsOf h.length }

/-- The state in which data has arrived, outside a takeover. -/
def dataArrived (h : CourseHdr) (s : State) : State := s.onChan h.chan fun c => { c with takeover := false }

theorem tbData_belongs {h : CourseHdr} {handle offset : Nat} {data : Bytes} {r : Request} {s : State} (ht : (s.chan h.chan).takeover = false)
    (hr : (s.chan h.chan).req = some r) (hb : belongs h offset data.length r = true) :
    tbData h handle offset data s = if r.got + data.length = r.tbBytes then completeRequest (withData h handle data r) (dataArrived h s)
      else (dataArrived h s).onChan h.chan fun c => { c with req := some (withData h handle data r) } := by
  unfold tbData
  dsimp only
  rw [ht, hr]
  dsimp only
  rw [hb, Bool.false_and, if_neg Bool.false_ne_true, if_pos rfl]
  by_cases hg : r.got + data.length = r.tbBytes
  · rw [if_pos hg, if_pos (by simpa using hg)]
    rfl
  · rw [if_neg hg, if_neg (by simpa using hg)]
    rfl

theorem dlTbData_belongs {h : CourseHdr} {handle offset : Nat} {data : Bytes} {r : Request} {s : State} (h1 : 1 ≤ h.chan) (h64 : h.chan ≤ 64)
    (hl : h.length = 64 + pad8 data.length) (hm : h.length ≤ 65600) (hs : s.obj O.sessionState = 1) (ht : (s.chan h.chan).takeover = false)
    (hr : (s.chan h.chan).req = some r) (hb : belongs h offset data.length r = true) :
    exec (.dlTbData h handle offset data) s = .next (if r.got + data.length = r.tbBytes
      then completeRequest (withData h handle data r) (dataArrived h (advance s h.dt))
      else (dataArrived h (advance s h.dt)).onChan h.chan fun c => { c with req := some (withData h handle data r) }) := by
  show execDlTbData h handle offset data s = _
  rw [execDlTbData, courseArrival_active h1 h64 hl hm hs, tbData_belongs (by rw [advance_chan, ht]) (by rw [advance_chan, hr]) hb]

theorem dataArrived_chan (h : CourseHdr) (s : State) : (dataArrived h s).chan h.chan = { s.chan h.chan with takeover := false } :=
  onChan_chan_same ..

/-! ## Binding, the air, and the last symbol -/

theorem bindCourse_course {key : Nat} {c : Course} {s : State} (host : Bool) (h : s.course key = some c) :
    (bindCourse key host s).course key = some { c with state := .bound, hostBound := host } := by
  rw [bindCourse, course_congr ((releaseOps_leaves (ks := []) _).1 .pipe (by decide)), onCourse_course, if_pos rfl, h]
  rfl

theorem bindCourse_leaves (key : Nat) (host : Bool) (s : State) {ks : List Nat} : Leaves s (bindCourse key host s) [.pipe, .sched] ks :=
  Leaves.trans (Leaves.onCourse _ _ _ (by decide)) (Leaves.mono (releaseOps_leaves _ (ks := ks)) (by decide) (fun _ h => h))

theorem advanceToAir_course (s : State) (a : Int) (j : Nat) : (advanceToAir s a).course j = s.course j :=
  course_congr ((Leaves.advanceToAir s a (ps := timeParts) (ks := []) (fun _ h => h)).1 .pipe (by decide)) j

/-- The state at an instant of air time in which a course has a state. -/
def courseStands (key : Nat) (x : CourseState) (a : Int) (s : State) : State :=
  (advanceToAir s a).onCourse key fun c => { c with state := x }

theorem courseStands_course {key : Nat} {c : Course} {s : State} (x : CourseState) (a : Int) (h : s.course key = some c) :
    (courseStands key x a s).course key = some { c with state := x } := by
  rw [courseStands, onCourse_course, if_pos rfl, advanceToAir_course, h]
  rfl

theorem courseStands_leaves (key : Nat) (x : CourseState) (a : Int) (s : State) {ks : List Nat} :
    Leaves s (courseStands key x a s) (.pipe :: timeParts) ks :=
  Leaves.trans (Leaves.advanceToAir _ _ (by decide)) (Leaves.onCourse _ _ _ (by decide))

/-- The instant at which a course's first symbol is in the air. -/
def airInstant (s : State) (chan course : Nat) (c : Course) : Int :=
  if dirOf course == 0 then firstTx s (chan - 1) c.slotAir c.first else c.slotAir

theorem courseAutoBind_opened {chan course : Nat} {c : Course} {s : State} (h : s.course (courseKey chan course) = some c) (hs : c.state = .opened) :
    exec (.courseAutoBind chan course) s
      = .next (bindCourse (courseKey chan course) false (advanceToAir s (bindPoint s (chan - 1) (dirOf course) 0 c.slotAir))) := by
  show execCourseAutoBind chan course s = _
  rw [execCourseAutoBind, h]
  exact if_pos (by rw [hs]; rfl)

theorem courseInAir_bound {chan course : Nat} {c : Course} {s : State} (h : s.course (courseKey chan course) = some c) (hs : c.state = .bound) :
    exec (.courseInAir chan course) s = .next (courseStands (courseKey chan course) .inAir (airInstant s chan course c) s) := by
  show execCourseInAir chan course s = _
  rw [execCourseInAir, h]
  exact if_pos (by rw [hs]; rfl)

theorem courseEgress_inAir {chan course : Nat} {c : Course} {s : State} (h : s.course (courseKey chan course) = some c) (hs : c.state = .inAir) :
    exec (.courseEgressComplete chan course) s
      = .next (resettle (courseStands (courseKey chan course) .finishing (egressInstant s chan course c) s)) := by
  show execCourseEgressComplete chan course s = _
  rw [execCourseEgressComplete, h]
  exact if_pos (by rw [hs]; rfl)

end Sys2Proof.Machine
open Sys2Proof Sys2Proof.Machine Sys2Proof.Safety

/-- Settles O10: data joins its request, which is judged with the last of it, and the life of a course is one change of its state. -/
theorem courseLife : Obligations.CourseLife := by
  unfold Obligations.CourseLife
  refine ⟨fun h handle offset data r s h1 h64 hl hm hs ht hr hc hb => ⟨_, dlTbData_belongs h1 h64 hl hm hs ht hr hb, ?_⟩,
    fun chan course c s h hs => ⟨_, courseAutoBind_opened h hs, bindCourse_course false (by rw [advanceToAir_course, h]), ?_⟩,
    fun chan course c s h hs => ⟨_, courseInAir_bound h hs, courseStands_course _ _ h, courseStands_leaves ..⟩,
    fun chan course c s h hs => ⟨_, courseEgress_inAir h hs, ?_, ?_⟩⟩
  · by_cases hg : r.got + data.length = r.tbBytes
    · obtain ⟨j1, j2, j3⟩ := completeRequest_judged (withData h handle data r) (dataArrived h (advance s h.dt))
      have hch : (withData h handle data r).hdr.chan = h.chan := hc
      rw [hch] at j1 j2 j3
      rw [if_pos hg, if_pos hg]
      refine ⟨j1, ?_, verdictAt (withData h handle data r) (dataArrived h (advance s h.dt)), ?_, rfl, rfl⟩
      · rw [j2, dataArrived_chan, advance_chan]
      · rw [j3, List.getLast?_append]
        rfl
    · rw [if_neg hg, if_neg hg]
      refine ⟨?_, ?_, Leaves.trans (Leaves.trans (Leaves.advance _ _ (by decide)) (Leaves.onChan _ _ _ (by decide))) (Leaves.onChan _ _ _ (by decide))⟩
      · rw [onChan_chan_same]
        rfl
      · rw [(onChan_link _ _ _).2, dataArrived, (onChan_link _ _ _).2, advance_link]
  · exact Leaves.trans (Leaves.advanceToAir _ _ (by decide)) (Leaves.mono (bindCourse_leaves _ _ _ (ks := [])) (by decide) nofun)
  · obtain ⟨c', h1, h2⟩ := (resettle_keeps _).found (courseStands_course .finishing (egressInstant s chan course c) h)
    obtain ⟨f1, f2, f3, -⟩ := courseCore_fields h2
    exact ⟨c', h1, f1, f2, f3⟩
  · exact SameBut.trans (SameBut.mono (courseStands_leaves _ _ _ _ (ks := [])).1 (by decide)) (SameBut.mono (resettle_same _) (by decide))
end

section
/-! SUPPORT. Course requests (03 R98 to R110; 04 R126 to R134): how one is judged and refused, and what its ACCEPT lets stand. -/
namespace Sys2Proof.Machine
open Sys2Proof.Safety

/-! ## The next request of a channel -/

/-- The request that a message without data makes. -/
def requestOf (type : Nat) (h : CourseHdr) (desc : Bytes) : Request := ⟨type, h, 0, desc, 0, [], creditsOf h.length⟩

/-- The state in which a course message has been seen on its channel. -/
def messageSeen (h : CourseHdr) (s : State) : State := s.onChan h.chan fun c => { c with takeover := false, lastReq := h.seq }

theorem messageSeen_chan (h : CourseHdr) (s : State) :
    (messageSeen h s).chan h.chan = { s.chan h.chan with takeover := false, lastReq := h.seq } := onChan_chan_same ..

theorem courseMessage_next {type : Nat} {h : CourseHdr} {desc : Bytes} {s : State} (ht : (s.chan h.chan).takeover = false)
    (hr : (s.chan h.chan).req = none) (hs : h.seq = (s.chan h.chan).nextReq) :
    courseMessage type h 0 desc s = completeRequest (requestOf type h desc) (messageSeen h s) := by
  unfold courseMessage
  dsimp only
  rw [ht, hr, hs]
  simp only [Bool.false_and, Bool.false_eq_true, if_false, Option.isSome_none, Bool.false_or, bne_self_eq_false, beq_self_eq_true, if_true]
  rw [← hs]
  rfl

/-- The state in which the next request of a channel arrives. -/
def requestAt (h : CourseHdr) (s : State) : State := messageSeen h (advance s h.dt)

theorem courseArrival_next {type : Nat} {h : CourseHdr} {desc : Bytes} {length : Nat} {s : State} (hn : NextRequest s h length) :
    courseArrival h length (courseMessage type h 0 desc) s = completeRequest (requestOf type h desc) (requestAt h s) := by
  obtain ⟨h1, h64, hl, hm, hs, ht, hr, hq⟩ := hn
  rw [courseArrival_active h1 h64 hl (hl ▸ hm) hs]
  exact courseMessage_next (by rw [advance_chan, ht]) (by rw [advance_chan, hr]) (by rw [advance_chan, hq])

theorem judgementAt_eq (type : Nat) (h : CourseHdr) (desc : Bytes) (s : State) :
    (judgementAt (requestOf type h desc) (requestAt h s)).1 = verdictOf s type h desc := rfl

theorem requestAt_leaves (h : CourseHdr) (s : State) {ks : List Nat} : Leaves s (requestAt h s) (.link :: timeParts) ks :=
  Leaves.trans (Leaves.advance _ _ (by decide)) (Leaves.onChan _ _ _ (by decide))

theorem requestAt_chan (h : CourseHdr) (s : State) : (requestAt h s).chan h.chan = { s.chan h.chan with takeover := false, lastReq := h.seq } := by
  rw [requestAt, messageSeen_chan, advance_chan]

theorem request_judged {type : Nat} {h : CourseHdr} {desc : Bytes} {length : Nat} {s : State} (hn : NextRequest s h length) :
    Judged s (completeRequest (requestOf type h desc) (requestAt h s)) type h (verdictOf s type h desc) := by
  obtain ⟨j1, j2, j3⟩ := completeRequest_judged (requestOf type h desc) (requestAt h s)
  have hc : (requestOf type h desc).hdr.chan = h.chan := rfl
  rw [hc] at j1 j2 j3
  obtain ⟨-, -, -, -, -, -, -, hq⟩ := hn
  refine ⟨⟨verdictAt (requestOf type h desc) (requestAt h s), ?_, rfl, rfl, rfl, rfl, ?_⟩, ?_, j1⟩
  · rw [j3, List.getLast?_append]
    rfl
  · show ((requestAt h s).chan h.chan).owed + creditsOf h.length = _
    rw [requestAt_chan]
  · rw [j2, requestAt_chan, hq]

/-! ## What it claims, or its refusal counts -/

theorem withVerdict_leaves (chan : Nat) (v : Verdict) (s : State) {ks : List Nat} : Leaves s (withVerdict chan v s) [.link] ks :=
  Leaves.setLink _ _ (by decide)

theorem judgedAt_leaves (r : Request) (s : State) {ks : List Nat} : Leaves s (judgedAt r s) [.link] ks := Leaves.onChan _ _ _ (by decide)

theorem judgedAt_chan (r : Request) (s : State) : (judgedAt r s).chan r.hdr.chan
    = { s.chan r.hdr.chan with req := none, nextReq := seqNext (s.chan r.hdr.chan).nextReq, owed := 0 } := onChan_chan_same ..

theorem judgedKept_ok {r : Request} {s : State} (h : (judgementAt r s).1 = .ok) : judgedKept r s
    = (judgedAt r s).onChan r.hdr.chan (claimedOn r (judgementAt r s).1 (claimOf (judgedAt r s).handled (askedAt r s))) := if_pos h

theorem judgedKept_refused {r : Request} {s : State} (h : (judgementAt r s).1 ≠ .ok) : judgedKept r s
    = countRefusal (askedAt r s) (judgementAt r s).1 (judgedAt r s) := if_neg h

/-- A request that has passed claims what it needs on its channel, and a tentative course the channel's next outcome sequence. -/
theorem completeRequest_claims {r : Request} {s : State} (h : (judgementAt r s).1 = .ok) :
    (∃ k, ((completeRequest r s).chan r.hdr.chan).claims = (s.chan r.hdr.chan).claims ++ [k] ∧ k.req = r)
      ∧ ((completeRequest r s).chan r.hdr.chan).nextOut
        = (if r.type = 0x0101 then seqNext (s.chan r.hdr.chan).nextOut else (s.chan r.hdr.chan).nextOut)
      ∧ Leaves s (completeRequest r s) [.link] [] := by
  rw [completeRequest_eq, withVerdict_chan, judgedKept_ok h, onChan_chan_same, judgedAt_chan, h]
  refine ⟨⟨_, rfl, rfl⟩, ?_, Leaves.trans (Leaves.trans (judgedAt_leaves r s) (Leaves.onChan _ _ _ (by decide))) (withVerdict_leaves ..)⟩
  simp only [claimedOn, beq_self_eq_true, Bool.true_and, beq_iff_eq]

/-- A refused request that is no revision leaves its channel's claims and outcome sequence. -/
theorem completeRequest_refused {r : Request} {s : State} (h : (judgementAt r s).1 ≠ .ok) (ht : r.type ≠ 0x0102) :
    ((completeRequest r s).chan r.hdr.chan).claims = (s.chan r.hdr.chan).claims
      ∧ ((completeRequest r s).chan r.hdr.chan).nextOut = (s.chan r.hdr.chan).nextOut
      ∧ Leaves s (completeRequest r s) [.dict, .link] [O.tooLateTotal, O.journalFullRefusals r.hdr.chan.pred] := by
  have hl := refusalCounted_leaves r.hdr.chan (judgementAt r s).1 (judgedAt r s)
  have hc : (askedAt r s).req.hdr.chan = r.hdr.chan := rfl
  rw [completeRequest_eq, withVerdict_chan, judgedKept_refused h, countRefusal_other (a := askedAt r s) _ _ ht, hc,
    chan_congr (congrArg Link.chans (hl.1 .link (by decide))), judgedAt_chan]
  exact ⟨rfl, rfl, Leaves.trans (Leaves.trans (Leaves.mono (judgedAt_leaves r s (ks := [])) (by decide) nofun)
    (Leaves.mono hl (by decide) (fun _ h => h))) (Leaves.mono (withVerdict_leaves _ _ _ (ks := [])) (by decide) nofun)⟩

theorem withVerdict_course (chan : Nat) (v : Verdict) (s : State) (j : Nat) : (withVerdict chan v s).course j = s.course j := rfl

/-- A refused revision counts on its course, and leaves the requests that its channel's claims are of. -/
theorem countRefusal_revision {a : Asked} (r : Reason) (s : State) (h : a.req.type = 0x0102) :
    (∀ j, ((countRefusal a r s).chan j).claims.map (·.req) = (s.chan j).claims.map (·.req))
      ∧ (∀ c, s.course a.key = some c → (countRefusal a r s).course a.key = some { c with revRef := c.revRef + 1 })
      ∧ Leaves s (countRefusal a r s) [.dict, .link, .pipe]
          [O.tooLateTotal, O.journalFullRefusals a.req.hdr.chan.pred, O.refusedTooLate a.n] := by
  have hl := reviseCounted_leaves a r s
  rw [countRefusal_revise r s h]
  refine ⟨fun j => ?_, fun c hc => ?_, ?_⟩
  · rw [(countRefused_chan _ _ _).2.2, chan_congr (congrArg Link.chans (hl.1 .link (by decide)))]
  · exact countRefused_course ((course_congr (hl.1 .pipe (by decide)) _).trans hc)
  · exact Leaves.trans (Leaves.mono hl (by decide) (fun _ h => h)) (Leaves.mono (countRefused_leaves _ _ (ks := [])) (by decide) nofun)

/-- A refused revision counts on its course. -/
theorem completeRequest_revision_refused {r : Request} {s : State} (h : (judgementAt r s).1 ≠ .ok) (ht : r.type = 0x0102) :
    ((completeRequest r s).chan r.hdr.chan).claims.map (·.req) = (s.chan r.hdr.chan).claims.map (·.req)
      ∧ (∀ c, s.course (courseKey r.hdr.chan r.hdr.course) = some c →
          (completeRequest r s).course (courseKey r.hdr.chan r.hdr.course) = some { c with revRef := c.revRef + 1 })
      ∧ Leaves s (completeRequest r s) [.dict, .link, .pipe]
          [O.tooLateTotal, O.journalFullRefusals r.hdr.chan.pred, O.refusedTooLate (r.hdr.chan - 1)] := by
  obtain ⟨h1, h2, h3⟩ := countRefusal_revision (a := askedAt r s) (judgementAt r s).1 (judgedAt r s) ht
  have hp : (judgedAt r s).pipe = s.pipe := (judgedAt_leaves r s (ks := [])).1 .pipe (by decide)
  rw [completeRequest_eq, withVerdict_chan, judgedKept_refused h]
  refine ⟨?_, fun c hc => ?_, ?_⟩
  · rw [h1, judgedAt_chan]
  · rw [withVerdict_course]
    exact h2 c ((course_congr hp _).trans hc)
  · exact Leaves.trans (Leaves.trans (Leaves.mono (judgedAt_leaves r s (ks := [])) (by decide) nofun) (Leaves.mono h3 (by decide) (fun _ h => h)))
      (Leaves.mono (withVerdict_leaves _ _ _ (ks := [])) (by decide) nofun)

/-- What a request without a revision's rules leaves. -/
theorem request_outcome {type : Nat} {h : CourseHdr} {desc : Bytes} {s : State} (ht : type ≠ 0x0102) :
    let t := completeRequest (requestOf type h desc) (requestAt h s)
    (if verdictOf s type h desc = .ok
      then (∃ k, (t.chan h.chan).claims = (s.chan h.chan).claims ++ [k] ∧ k.req.hdr = h ∧ k.req.type = type ∧ k.req.desc = desc)
        ∧ (t.chan h.chan).nextOut = (if type = 0x0101 then seqNext (s.chan h.chan).nextOut else (s.chan h.chan).nextOut)
      else (t.chan h.chan).claims = (s.chan h.chan).claims ∧ (t.chan h.chan).nextOut = (s.chan h.chan).nextOut)
    ∧ Leaves s t (.dict :: .link :: timeParts) [O.tooLateTotal, O.journalFullRefusals h.chan.pred] := by
  intro t
  have hq (ks : List Nat) : Leaves s (requestAt h s) (.dict :: .link :: timeParts) ks := Leaves.mono (requestAt_leaves h s (ks := [])) (by decide) nofun
  by_cases hv : verdictOf s type h desc = .ok
  · obtain ⟨⟨k, h1, h2⟩, h3, h4⟩ := completeRequest_claims (r := requestOf type h desc) (s := requestAt h s) hv
    rw [if_pos hv]
    have hc : (requestOf type h desc).hdr.chan = h.chan := rfl
    rw [hc, requestAt_chan] at h1 h3
    exact ⟨⟨⟨k, h1, by rw [h2]; rfl, by rw [h2]; rfl, by rw [h2]; rfl⟩, h3⟩, Leaves.trans (hq _) (Leaves.mono h4 (by decide) nofun)⟩
  · obtain ⟨h1, h2, h3⟩ := completeRequest_refused (r := requestOf type h desc) (s := requestAt h s) hv ht
    rw [if_neg hv]
    have hc : (requestOf type h desc).hdr.chan = h.chan := rfl
    rw [hc, requestAt_chan] at h1 h2
    exact ⟨⟨h1, h2⟩, Leaves.trans (hq _) (Leaves.mono h3 (by decide) (fun _ h => h))⟩

/-! ## SEQUENCE_RANGE -/

/-- The verdict that refuses a sequence. -/
def rangeVerdict (type : Nat) (h : CourseHdr) (s : State) : Verdict :=
  ⟨h.seq, type, h.course, ((s.course (courseKey h.chan h.course)).map (·.gen)).getD 0, h.ats, .sequenceRange,
    (s.chan h.chan).owed + creditsOf h.length, 0, 0⟩

/-- The state in which a refused sequence has counted. -/
def rangeCounted (h : CourseHdr) (s : State) : State := (s.bump (O.seqRefusals h.chan.pred) 1).onChan h.chan fun c => { c with owed := 0 }

theorem refuseSequence_eq (type : Nat) (h : CourseHdr) (s : State) :
    refuseSequence type h s = (rangeCounted h s).send (.verdict h.chan (rangeVerdict type h s) false) := rfl

theorem rangeCounted_chan (h : CourseHdr) (s : State) : (rangeCounted h s).chan h.chan = { s.chan h.chan with owed := 0 } :=
  onChan_chan_same ..

theorem rangeCounted_leaves (h : CourseHdr) (s : State) : Leaves s (rangeCounted h s) [.dict, .link] [O.seqRefusals h.chan.pred] :=
  Leaves.trans (Leaves.bump _ _ _ (by decide) (by simp)) (Leaves.onChan _ _ _ (by decide))

theorem rangeCounted_counted (h : CourseHdr) (s : State) : Counted s (rangeCounted h s) (O.seqRefusals h.chan.pred) 1 :=
  (State.onChan_obj ..).trans (State.obj_bump_same ..)

theorem send_link (s : State) (m : Sent) : (s.send m).link.sent = s.link.sent ++ [m] ∧ (s.send m).link.journal = s.link.journal
    ∧ (s.send m).link.chans = s.link.chans := ⟨rfl, rfl, rfl⟩

theorem send_leaves (s : State) (m : Sent) {ks : List Nat} : Leaves s (s.send m) [.link] ks := Leaves.setLink _ _ (by decide)

theorem courseMessage_range {type : Nat} {h : CourseHdr} {desc : Bytes} {s : State} (ht : (s.chan h.chan).takeover = false)
    (hr : (s.chan h.chan).req.isSome = true ∨ h.seq ≠ (s.chan h.chan).nextReq) :
    courseMessage type h 0 desc s = refuseSequence type h (messageSeen h s) := by
  have hc : ((s.chan h.chan).req.isSome || h.seq != (s.chan h.chan).nextReq) = true := by simpa using hr
  unfold courseMessage
  dsimp only
  rw [ht, Bool.false_and, if_neg Bool.false_ne_true, if_pos hc]
  rfl

/-- A message whose sequence is not expected is refused, and nothing else of the channel moves. -/
theorem range_refused (type : Nat) (h : CourseHdr) (s : State) :
    let t := refuseSequence type h (requestAt h s)
    Counted s t (O.seqRefusals h.chan.pred) 1 ∧ (t.chan h.chan).nextReq = (s.chan h.chan).nextReq ∧ t.link.journal = s.link.journal
      ∧ (∃ v, t.link.sent = s.link.sent ++ [.verdict h.chan v false] ∧ v.seq = h.seq ∧ v.reason = .sequenceRange
          ∧ v.credits = (s.chan h.chan).owed + creditsOf h.length)
      ∧ Leaves s t (.dict :: .link :: timeParts) [O.seqRefusals h.chan.pred] := by
  intro t
  obtain ⟨h1, h2, h3⟩ := send_link (rangeCounted h (requestAt h s)) (.verdict h.chan (rangeVerdict type h (requestAt h s)) false)
  have hl := rangeCounted_leaves h (requestAt h s)
  have hq := requestAt_leaves h s (ks := [])
  have hj : (rangeCounted h (requestAt h s)).link.journal = s.link.journal ∧ (rangeCounted h (requestAt h s)).link.sent = s.link.sent := by
    rw [rangeCounted, (onChan_link _ _ _).1, (onChan_link _ _ _).2, State.bump_link, requestAt, messageSeen, (onChan_link _ _ _).1,
      (onChan_link _ _ _).2, advance_link]
    exact ⟨rfl, rfl⟩
  refine ⟨?_, ?_, ?_, ⟨rangeVerdict type h (requestAt h s), ?_, rfl, rfl, ?_⟩, ?_⟩
  · exact Counted.of_obj (hq.2 _ List.not_mem_nil) ((State.obj_send ..).trans (rangeCounted_counted ..))
  · refine (congrArg Channel.nextReq (chan_congr h3 _)).trans ?_
    rw [rangeCounted_chan, requestAt_chan]
  · exact h2.trans hj.1
  · exact h1.trans (congrArg (· ++ _) hj.2)
  · show ((requestAt h s).chan h.chan).owed + _ = _
    rw [requestAt_chan]
  · exact Leaves.trans (Leaves.trans (Leaves.mono hq (by decide) nofun) (Leaves.mono hl (by decide) (fun _ h => h)))
      (Leaves.mono (send_leaves _ _ (ks := [])) (by decide) nofun)

/-! ## An ACCEPT that leaves -/

/-- The state in which the oldest verdict has been written and leaves for the host. -/
def acceptSent (chan : Nat) (v : Verdict) (rest : List JournalWrite) (s : State) : State :=
  verdictSent chan v (verdictKept chan v (s.onLink fun l => { l with journal := rest }))

theorem acceptSent_leaves (chan : Nat) (v : Verdict) (rest : List JournalWrite) (s : State) : Leaves s (acceptSent chan v rest s) [.link] [] :=
  Leaves.trans (Leaves.trans (Leaves.onLink _ _ (by decide)) (verdictKept_leaves ..)) (verdictSent_leaves ..)

theorem acceptSent_sent (chan : Nat) (v : Verdict) (rest : List JournalWrite) (s : State) :
    (acceptSent chan v rest s).link.sent = s.link.sent ++ [.verdict chan v false] := by
  rw [acceptSent, (verdictSent_link _ _ _).2.1, (verdictKept_link _ _ _).2.1]
  rfl

theorem sendVerdict_claimed {chan : Nat} {v : Verdict} {k : Claim} {s : State}
    (h : (s.chan chan).claims.find? (fun k => k.req.hdr.seq == v.seq) = some k) :
    sendVerdict chan v false s = acceptRequest k v.outSeq (askedOf (verdictSent chan v s) k.req) (verdictSent chan v s) := by
  rw [sendVerdict, h]
  rfl

/-- A verdict that can be written is sent, and the request whose ACCEPT it is is accepted. -/
theorem journalWrite_accepts {chan : Nat} {v : Verdict} {rest : List JournalWrite} {k : Claim} {s : State} (h1 : s.obj O.sessionState = 1)
    (hs : journalStuck s = false) (hj : s.link.journal = .verdict chan v :: rest)
    (hk : (s.chan chan).claims.find? (fun k => k.req.hdr.seq == v.seq) = some k) :
    exec .journalWriteComplete s
      = .next (acceptRequest k v.outSeq (askedOf (acceptSent chan v rest s) k.req) (acceptSent chan v rest s)) := by
  have hw : mayWrite s (.verdict chan v) = true := by simp [mayWrite, hs]
  have hkept : (verdictKept chan v (s.onLink fun l => { l with journal := rest })).obj O.sessionState = 1 :=
    ((verdictKept_leaves ..).2 _ List.not_mem_nil).trans h1
  have hv : verdictWritten chan v (s.onLink fun l => { l with journal := rest })
      = sendVerdict chan v false (verdictKept chan v (s.onLink fun l => { l with journal := rest })) := by
    rw [verdictWritten, if_neg (by rw [State.onLink_obj, h1]; decide)]
    exact if_pos (beq_iff_eq.mpr hkept)
  show execJournalWriteComplete s = _
  rw [execJournalWriteComplete, hj]
  dsimp only
  rw [if_pos hw, hv, sendVerdict_claimed (k := k)]
  · rfl
  · rw [(verdictKept_link _ _ _).2.2.1]
    exact hk

/-! ## What acceptance makes of a course -/

theorem namedCourse_live {s : State} {key : Nat} {slot : Int} {c : Course} (h : s.course key = some c) (hc : c.state ≠ .closed) :
    namedCourse s key slot = some c := by
  rw [namedCourse, h, Option.filter_some, if_pos (by simp [hc])]

theorem touchCache_courses (ue : Nat) (s : State) : (touchCache s ue).pipe.courses = s.pipe.courses := by
  unfold touchCache
  dsimp only
  split <;> rfl

theorem foldl_touchCache_courses (ues : List Nat) (s : State) : (ues.foldl touchCache s).pipe.courses = s.pipe.courses :=
  foldl_proj (fun t : State => t.pipe.courses) (f := touchCache) (fun ue s => touchCache_courses ue s) ues s

theorem reserveSoft_keeps (key : Nat) (needs : List (Nat × Nat)) (s : State) : CoursesKeep s (reserveSoft key needs s) := by
  refine CoursesKeep.foldl (fun x s => ?_) needs s
  cases s.softChannel with
  | none => exact CoursesKeep.refl s
  | some c =>
    dsimp only
    split
    · refine CoursesKeep.onCourse _ _ ?_
      exact fun _ => rfl
    · exact CoursesKeep.refl s

theorem issueGraph_keeps (chan course gen : Nat) (nodes : List Node) (sel : OpId → Bool) (s : State) :
    CoursesKeep s (issueGraph chan course gen nodes sel s) := CoursesKeep.of_pipe ((Within.start s).issueGraph.same .pipe (by decide))

/-- A tentative course that is accepted. -/
def tentativeCourse (k : Claim) (outSeq : Nat) (a : Asked) (d : Desc) (s : State) : Course :=
  { ats := a.req.hdr.ats, slotAir := a.slot, order := s.pipe.accepted, gen := 0, state := .opened, reqSeq := a.req.hdr.seq, outSeq := outSeq
    first := d.first, last := d.last, recs := d.recs, blocks := a.blocks.foldl (fun m b => Store.put m b.1 b.2) []
    store := k.places.foldl (fun m b => Store.put m b.1 b.2) [], changed := [], hostBound := false
    cancelled := false, rerun := false, revOk := 0, revRef := k.revRef, sent := 0, blanked := 0, withheld := 0, unsent := 0, causes := [], expired := 0
    pins := k.ues, snaps := k.ues.foldl (fun m u => Store.put m u (s.ue u).host) [], softRes := [], results := [], rx := [], got := [], went := []
    journalled := false, noOutcome := false }

/-- The state in which a tentative course stands among the courses. -/
def tentativeListed (k : Claim) (outSeq : Nat) (a : Asked) (d : Desc) (s : State) : State :=
  let t := k.ues.foldl touchCache (storeData k.places a.req s)
  { t with pipe := { t.pipe with courses := Store.put t.pipe.courses a.key (tentativeCourse k outSeq a d s), accepted := t.pipe.accepted + 1 } }

theorem acceptTentative_eq (k : Claim) (outSeq : Nat) (a : Asked) (d : Desc) (s : State) : acceptTentative k outSeq a d s
    = resettle (issueGraph a.req.hdr.chan a.req.hdr.course 0
        (graphOf (reserveSoft a.key k.soft (tentativeListed k outSeq a d s)) ⟨a.n, a.dir, d, a.slot, []⟩) (fun _ => true)
        (reserveSoft a.key k.soft (tentativeListed k outSeq a d s))) := rfl

theorem tentativeListed_course (k : Claim) (outSeq : Nat) (a : Asked) (d : Desc) (s : State) :
    (tentativeListed k outSeq a d s).course a.key = some (tentativeCourse k outSeq a d s) := Store.find_put_same ..

theorem tentativeListed_link (k : Claim) (outSeq : Nat) (a : Asked) (d : Desc) (s : State) : (tentativeListed k outSeq a d s).link = s.link :=
  ((Within.start s).storeData.foldl (f := touchCache) (l := k.ues) (fun _ _ h => h.touchCache)).setPipe.same .link (by decide)

/-- An accepted tentative course is OPEN at generation 0, with its description's records; nothing is sent. -/
theorem acceptTentative_course (k : Claim) (outSeq : Nat) (a : Asked) (d : Desc) (s : State) :
    (∃ c, (acceptTentative k outSeq a d s).course a.key = some c ∧ c.state = .opened ∧ c.gen = 0 ∧ c.ats = a.req.hdr.ats
        ∧ c.reqSeq = a.req.hdr.seq ∧ c.outSeq = outSeq ∧ c.recs = d.recs)
      ∧ (acceptTentative k outSeq a d s).link.sent = s.link.sent := by
  rw [acceptTentative_eq]
  refine ⟨?_, ?_⟩
  · obtain ⟨c, h1, h2⟩ := (((reserveSoft_keeps a.key k.soft _).trans (issueGraph_keeps _ _ _ _ _ _)).trans (resettle_keeps _)).found
      (tentativeListed_course k outSeq a d s)
    obtain ⟨f1, f2, f3, f4, f5, f6, -⟩ := courseCore_fields h2
    exact ⟨c, h1, f1, f2, f4, f5, f3, f6⟩
  · rw [(resettle_sent _).1, (Within.start _).issueGraph.same .link (by decide), (Within.start _).reserveSoft.same .link (by decide),
      tentativeListed_link]

/-- The contexts that a revision names anew. -/
def revisedUes (c : Course) (d : Desc) : List Nat := (namedUes d.recs).filter fun u => !c.pins.contains u

/-- The records of a course that a revision leaves out. -/
def goneRecs (c : Course) (d : Desc) : List Nat := c.heldData.filter fun i => (recById d.recs i).isNone

/-- A course as a revision leaves it. -/
def revisedCourse (k : Claim) (a : Asked) (c0 : Course) (d : Desc) (changes : List (Nat × Nat)) (hosts : List (Nat × Bytes)) (c : Course) : Course :=
  { c with gen := a.req.hdr.gen, revOk := c.revOk + 1, first := d.first, last := d.last, recs := d.recs
           blocks := a.blocks.foldl (fun m b => Store.put m b.1 b.2) ((goneRecs c0 d).foldl Store.drop c.blocks)
           store := k.places.foldl (fun m b => Store.put m b.1 b.2) ((goneRecs c0 d).foldl Store.drop c.store)
           changed := changes.foldl (fun m x => Store.put m x.1 (a.req.hdr.gen, x.2)) c.changed
           results := changes.foldl (fun m x => Store.drop m x.1) c.results
           softRes := changes.foldl (fun m x => Store.drop m x.1) c.softRes
           pins := c.pins ++ revisedUes c0 d, snaps := hosts.foldl (fun m x => Store.put m x.1 x.2) c.snaps }

/-- The state in which a revision has superseded what it changes and kept its data. -/
def revisionStored (k : Claim) (a : Asked) (c : Course) (d : Desc) (s : State) : State :=
  (revisedUes c d).foldl touchCache (storeData k.places a.req
    (supersedeOps a.key (fun o => (revisionGraph s a c d).2 o || !((revisionGraph s a c d).1.any fun x => x.id == o)) s))

/-- The state in which the course has been revised. -/
def revisionListed (k : Claim) (a : Asked) (c : Course) (d : Desc) (s : State) : State :=
  (revisionStored k a c d s).onCourse a.key
    (revisedCourse k a c d (revisionOf s a) ((revisedUes c d).map fun u => (u, ((revisionStored k a c d s).ue u).host)))

theorem acceptRevise_eq (k : Claim) (a : Asked) (c : Course) (d : Desc) (s : State) : acceptRevise k a c d s
    = resettle (issueGraph a.req.hdr.chan a.req.hdr.course a.req.hdr.gen (revisionGraph s a c d).1 (revisionGraph s a c d).2
        ((sweepEntries (reserveSoft a.key k.soft (revisionListed k a c d s))).bump (O.revisionsAccepted a.n) 1)) := rfl

theorem revisionStored_within (k : Claim) (a : Asked) (c : Course) (d : Desc) (s : State) :
    Within [.dict, .pipe, .mem, .sched, .kiln] s (revisionStored k a c d s) :=
  ((Within.start s).supersedeOps.storeData.foldl (f := touchCache) (l := revisedUes c d) (fun _ _ h => h.touchCache)).mono (by decide)

theorem revisionStored_course (k : Claim) (a : Asked) (c : Course) (d : Desc) (s : State) (j : Nat) :
    (revisionStored k a c d s).course j = s.course j := by
  rw [State.course, revisionStored, foldl_touchCache_courses, (Within.start _).storeData.same .pipe (by decide),
    (Within.start s).supersedeOps.same .pipe (by decide), State.course]

theorem revisionListed_course {k : Claim} {a : Asked} {c : Course} {d : Desc} {s : State} (h : s.course a.key = some c) :
    (revisionListed k a c d s).course a.key = some (revisedCourse k a c d (revisionOf s a)
      ((revisedUes c d).map fun u => (u, ((revisionStored k a c d s).ue u).host)) c) := by
  rw [revisionListed, onCourse_course, if_pos rfl, revisionStored_course, h]
  rfl

theorem revisionListed_link (k : Claim) (a : Asked) (c : Course) (d : Desc) (s : State) : (revisionListed k a c d s).link = s.link :=
  (State.onCourse_link ..).trans ((revisionStored_within k a c d s).same .link (by decide))

/-- An accepted revision takes its course to its generation; nothing is sent. -/
theorem acceptRevise_course {k : Claim} {a : Asked} {c : Course} {d : Desc} {s : State} (h : s.course a.key = some c) :
    (∃ c', (acceptRevise k a c d s).course a.key = some c' ∧ c'.state = c.state ∧ c'.gen = a.req.hdr.gen ∧ c'.revOk = c.revOk + 1
        ∧ c'.outSeq = c.outSeq ∧ c'.recs = d.recs)
      ∧ (acceptRevise k a c d s).link.sent = s.link.sent := by
  rw [acceptRevise_eq]
  refine ⟨?_, ?_⟩
  · have hsweep (u : State) : CoursesKeep u ((sweepEntries u).bump (O.revisionsAccepted a.n) 1) := CoursesKeep.of_pipe rfl
    obtain ⟨c', h1, h2⟩ := ((((reserveSoft_keeps a.key k.soft _).trans (hsweep _)).trans (issueGraph_keeps _ _ _ _ _ _)).trans (resettle_keeps _)).found
      (revisionListed_course (k := k) (d := d) h)
    obtain ⟨f1, f2, f3, -, -, f6, f7⟩ := courseCore_fields h2
    exact ⟨c', h1, f1, f2, f7, f3, f6⟩
  · rw [(resettle_sent _).1, (Within.start _).issueGraph.same .link (by decide), State.bump_link,
      (Within.start _).sweepEntries.same .link (by decide), (Within.start _).reserveSoft.same .link (by decide), revisionListed_link]

theorem acceptRequest_tentative {k : Claim} {outSeq : Nat} {a : Asked} {d : Desc} (s : State) (ht : a.req.type = 0x0101) (hd : a.desc = some d) :
    acceptRequest k outSeq a s = acceptTentative k outSeq a d s := by
  rw [acceptRequest, ht, hd]
  rfl

theorem acceptRequest_revise {k : Claim} {outSeq : Nat} {a : Asked} {d : Desc} {c : Course} (s : State) (ht : a.req.type = 0x0102)
    (hd : a.desc = some d) (hc : a.course = some c) : acceptRequest k outSeq a s = acceptRevise k a c d s := by
  rw [acceptRequest, ht, hd, hc]
  rfl

theorem acceptRequest_bind {k : Claim} {outSeq : Nat} {a : Asked} {c : Course} (s : State) (ht : a.req.type = 0x0103) (hc : a.course = some c)
    (ho : c.state = .opened) : acceptRequest k outSeq a s = bindCourse a.key true s := by
  rw [acceptRequest, ht, hc]
  exact if_pos (by rw [ho]; rfl)

theorem acceptRequest_cancel {k : Claim} {outSeq : Nat} {a : Asked} {c : Course} (s : State) (ht : a.req.type = 0x0104) (hc : a.course = some c) :
    acceptRequest k outSeq a s = cancelCourse a.key s := by
  rw [acceptRequest, ht, hc]
  rfl

end Sys2Proof.Machine
open Sys2Proof Sys2Proof.Machine Sys2Proof.Safety

/-- Settles O9: each message is judged once (`completeRequest_judged`), and its ACCEPT lets its change of the course stand. -/
theorem courseRequests : Obligations.CourseRequests := by
  unfold Obligations.CourseRequests
  refine ⟨fun h desc s hn => ?_, fun h desc s hn => ?_, fun h s hn => ?_, fun h s hn => ?_, fun chan v rest k d s h1 hs hj hk ht hd => ?_,
    fun chan v rest k d c s h1 hs hj hk ht hd hc ho => ?_, fun chan v rest k c s h1 hs hj hk hc => ⟨fun ht ho => ?_, fun ht he hx => ?_⟩,
    fun h s h1 h64 hl hs ht hr => ?_⟩
  · obtain ⟨hk, hleaves⟩ := request_outcome (type := 0x0101) (h := h) (desc := desc) (s := s) (by decide)
    exact ⟨_, congrArg Host.Outcome.next (courseArrival_next hn), request_judged hn, hk, hleaves⟩
  · refine ⟨_, congrArg Host.Outcome.next (courseArrival_next hn), request_judged hn, ?_⟩
    have hq := requestAt_leaves h s (ks := [])
    by_cases hv : verdictOf s 0x0102 h desc = .ok
    · obtain ⟨⟨k, c1, c2⟩, -, c4⟩ := completeRequest_claims (r := requestOf 0x0102 h desc) (s := requestAt h s) hv
      have hc : (requestOf 0x0102 h desc).hdr.chan = h.chan := rfl
      rw [hc, requestAt_chan] at c1
      rw [if_pos hv]
      exact ⟨⟨⟨k, c1, by rw [c2]; rfl, by rw [c2]; rfl, by rw [c2]; rfl⟩, (c4.1 .pipe (by decide)).trans (hq.1 .pipe (by decide))⟩,
        Leaves.trans (Leaves.mono hq (by decide) nofun) (Leaves.mono c4 (by decide) nofun)⟩
    · obtain ⟨c1, c2, c3⟩ := completeRequest_revision_refused (r := requestOf 0x0102 h desc) (s := requestAt h s) hv rfl
      have hc : (requestOf 0x0102 h desc).hdr.chan = h.chan := rfl
      rw [hc, requestAt_chan] at c1
      rw [if_neg hv]
      exact ⟨⟨c1, fun c hcs => c2 c ((course_congr (hq.1 .pipe (by decide)) _).trans hcs)⟩,
        Leaves.trans (Leaves.mono hq (by decide) nofun) (Leaves.mono c3 (by decide) (fun _ h => h))⟩
  · obtain ⟨hk, hleaves⟩ := request_outcome (type := 0x0103) (h := h) (desc := []) (s := s) (by decide)
    refine ⟨_, congrArg Host.Outcome.next (courseArrival_next hn), request_judged hn, ?_, hleaves⟩
    split
    · next hv =>
      rw [if_pos hv] at hk
      obtain ⟨⟨k, c1, c2, c3, -⟩, -⟩ := hk
      exact ⟨k, c1, c2, c3⟩
    · next hv =>
      rw [if_neg hv] at hk
      exact hk.1
  · obtain ⟨hk, hleaves⟩ := request_outcome (type := 0x0104) (h := h) (desc := []) (s := s) (by decide)
    refine ⟨_, congrArg Host.Outcome.next (courseArrival_next hn), request_judged hn, ?_, hleaves⟩
    split
    · next hv =>
      rw [if_pos hv] at hk
      obtain ⟨⟨k, c1, c2, c3, -⟩, -⟩ := hk
      exact ⟨k, c1, c2, c3⟩
    · next hv =>
      rw [if_neg hv] at hk
      exact hk.1
  · obtain ⟨hcourse, hsent⟩ := acceptTentative_course k v.outSeq (askedOf (acceptSent chan v rest s) k.req) d (acceptSent chan v rest s)
    refine ⟨_, (journalWrite_accepts h1 hs hj hk).trans (congrArg Host.Outcome.next (acceptRequest_tentative _ ht hd)), ?_, hcourse, ?_⟩
    · rw [hsent, acceptSent_sent]
    · exact SameBut.trans (SameBut.mono (acceptSent_leaves chan v rest s).1 (by decide))
        (SameBut.mono (fun p hp => (Within.start _).acceptTentative.same p hp) (by decide))
  · have hw : (acceptSent chan v rest s).course (courseKey k.req.hdr.chan k.req.hdr.course) = some c :=
      (course_congr ((acceptSent_leaves chan v rest s).1 .pipe (by decide)) _).trans hc
    have hn : (askedOf (acceptSent chan v rest s) k.req).course = some c := namedCourse_live hw (by rw [ho]; decide)
    obtain ⟨⟨c', r1, r2, r3⟩, hsent⟩ := acceptRevise_course (k := k) (a := askedOf (acceptSent chan v rest s) k.req) (d := d) hw
    refine ⟨_, (journalWrite_accepts h1 hs hj hk).trans (congrArg Host.Outcome.next (acceptRequest_revise _ ht hd hn)), ?_,
      ⟨c', r1, r2.trans ho, r3⟩, ?_⟩
    · rw [hsent, acceptSent_sent]
    · exact SameBut.trans (SameBut.mono (acceptSent_leaves chan v rest s).1 (by decide))
        (SameBut.mono (fun p hp => (Within.start _).acceptRevise.same p hp) (by decide))
  · have hw : (acceptSent chan v rest s).course (courseKey k.req.hdr.chan k.req.hdr.course) = some c :=
      (course_congr ((acceptSent_leaves chan v rest s).1 .pipe (by decide)) _).trans hc
    have hn : (askedOf (acceptSent chan v rest s) k.req).course = some c := namedCourse_live hw (by rw [ho]; decide)
    have hb := bindCourse_leaves (courseKey k.req.hdr.chan k.req.hdr.course) true (acceptSent chan v rest s) (ks := [])
    refine ⟨_, (journalWrite_accepts h1 hs hj hk).trans (congrArg Host.Outcome.next (acceptRequest_bind _ ht hn ho)), ?_, bindCourse_course true hw, ?_⟩
    · exact (congrArg Link.sent (hb.1 .link (by decide))).trans (acceptSent_sent ..)
    · exact Leaves.trans (Leaves.mono (acceptSent_leaves chan v rest s) (by decide) nofun) (Leaves.mono hb (by decide) nofun)
  · have hw : (acceptSent chan v rest s).course (courseKey k.req.hdr.chan k.req.hdr.course) = some c :=
      (course_congr ((acceptSent_leaves chan v rest s).1 .pipe (by decide)) _).trans hc
    have hn : (askedOf (acceptSent chan v rest s) k.req).course = some c := namedCourse_live hw hx
    refine ⟨_, (journalWrite_accepts h1 hs hj hk).trans (congrArg Host.Outcome.next (acceptRequest_cancel _ ht hn)), ?_, ?_, ?_⟩
    · exact (cancelCourse_link _ _).1.trans (acceptSent_sent ..)
    · refine (cancelCourse_course _ _ _).trans ((if_pos rfl).trans ?_)
      rw [show (askedOf (acceptSent chan v rest s) k.req).key = courseKey k.req.hdr.chan k.req.hdr.course from rfl, hw, Option.map_some, endedCourse,
        if_neg (by simp [he, hx])]
    · exact Leaves.trans (Leaves.mono (acceptSent_leaves chan v rest s) (by decide) nofun)
        (Leaves.mono (cancelCourse_leaves (courseKey k.req.hdr.chan k.req.hdr.course) _) (by decide) (fun _ h => h))
  · refine ⟨_, congrArg Host.Outcome.next ?_, range_refused 0x0103 h s⟩
    rw [courseArrival_active h1 h64 hl (by omega) hs]
    exact courseMessage_range (by rw [advance_chan, ht]) (by rw [advance_chan]; exact hr)
end

section
/-! SUPPORT. Outcomes of channels (04 R130, R137) and the expiry of operations (13 R447 to R449). -/
namespace Sys2Proof.Machine
open Sys2Proof.Safety

/-! ## Outcomes -/

/-- The state in which an outcome has been taken from what its channel keeps. -/
def outcomeTaken (chan : Nat) (o : Outcome) (s : State) : State :=
  s.onChan chan fun c =>
    { c with sendNext := seqNext c.sendNext, lastSent := if seqNotLater c.lastSent o.seq then o.seq else c.lastSent
             hostCredits := c.hostCredits - creditsOf o.length, replay := c.replay.filter (· != o.seq) }

/-- The state in which it has been sent. -/
def outcomeSent (chan : Nat) (o : Outcome) (s : State) : State :=
  (outcomeTaken chan o s).send (.outcome chan o ((s.chan chan).replay.contains o.seq))

theorem sendOutcome_next {chan : Nat} {o : Outcome} {s : State} (h1 : s.obj O.sessionState = 1)
    (ho : (s.chan chan).outcomes.find? (fun o => o.seq == (s.chan chan).sendNext) = some o) (hc : creditsOf o.length ≤ (s.chan chan).hostCredits) :
    sendOutcome chan s = endCourse (courseKey chan o.course) (outcomeSent chan o s) := by
  unfold sendOutcome
  dsimp only
  rw [ho]
  exact if_pos (by simp [h1, hc])

theorem outcomeSent_chan (chan : Nat) (o : Outcome) (s : State) :
    ((outcomeSent chan o s).chan chan).sendNext = seqNext (s.chan chan).sendNext
      ∧ ((outcomeSent chan o s).chan chan).hostCredits = (s.chan chan).hostCredits - creditsOf o.length := by
  rw [outcomeSent, chan_congr (send_link _ _).2.2, outcomeTaken, onChan_chan_same]
  exact ⟨rfl, rfl⟩

theorem outcomeSent_leaves (chan : Nat) (o : Outcome) (s : State) {ks : List Nat} : Leaves s (outcomeSent chan o s) [.link] ks :=
  Leaves.trans (Leaves.onChan _ _ _ (by decide)) (send_leaves _ _)

theorem outcomeSent_sent (chan : Nat) (o : Outcome) (s : State) :
    (outcomeSent chan o s).link.sent = s.link.sent ++ [.outcome chan o ((s.chan chan).replay.contains o.seq)] := by
  rw [outcomeSent, (send_link _ _).1, outcomeTaken, (onChan_link _ _ _).1]

/-! ## Acknowledgements -/

/-- A course as an acknowledgement of an outcome leaves it. -/
def ackedCourse (o : Outcome) (c : Course) : Course := if c.outSeq == o.seq then { c with state := CourseState.closed } else c

theorem ackedCourse_outSeq (o : Outcome) (c : Course) : (ackedCourse o c).outSeq = c.outSeq := by
  unfold ackedCourse
  split <;> rfl

/-- The state in which the courses of acknowledged outcomes are closed. -/
def closeAcked (chan : Nat) (gone : List Outcome) (s : State) : State :=
  gone.foldl (fun s o => s.onCourse (courseKey chan o.course) (ackedCourse o)) s

theorem closeAcked_leaves (chan : Nat) (gone : List Outcome) (s : State) {ks : List Nat} : Leaves s (closeAcked chan gone s) [.pipe] ks :=
  Leaves.foldl _ _ (fun _ _ _ => Leaves.onCourse _ _ _ (by decide)) s

/-- A course that a state holds under the outcome sequence of an acknowledged outcome is closed. -/
def AckClosed (chan : Nat) (o : Outcome) (s : State) : Prop :=
  ∀ c, s.course (courseKey chan o.course) = some c → c.outSeq = o.seq → c.state = .closed

theorem onCourse_ackClosed_same (chan : Nat) (o : Outcome) (s : State) : AckClosed chan o (s.onCourse (courseKey chan o.course) (ackedCourse o)) := by
  intro c hc hs
  rw [onCourse_course, if_pos rfl] at hc
  obtain ⟨d, -, rfl⟩ := Option.map_eq_some_iff.mp hc
  rw [ackedCourse_outSeq] at hs
  rw [ackedCourse, if_pos (by simpa using hs)]

theorem AckClosed.onCourse {chan : Nat} {o : Outcome} {s : State} (h : AckClosed chan o s) (p : Outcome) :
    AckClosed chan o (s.onCourse (courseKey chan p.course) (ackedCourse p)) := by
  intro c hc hs
  rw [onCourse_course] at hc
  split at hc
  · next hk =>
    rw [← hk] at hc
    obtain ⟨d, hd, rfl⟩ := Option.map_eq_some_iff.mp hc
    rw [ackedCourse_outSeq] at hs
    have := h d hd hs
    unfold ackedCourse
    split
    · rfl
    · exact this
  · exact h c hc hs

theorem AckClosed.closeAcked {chan : Nat} {o : Outcome} (gone : List Outcome) {s : State} (h : AckClosed chan o s) :
    AckClosed chan o (closeAcked chan gone s) := by
  induction gone generalizing s with
  | nil => exact h
  | cons p ps ih => exact ih (h.onCourse p)

theorem closeAcked_closes {chan : Nat} {o : Outcome} {gone : List Outcome} (h : o ∈ gone) (s : State) : AckClosed chan o (closeAcked chan gone s) := by
  induction gone generalizing s with
  | nil => exact absurd h List.not_mem_nil
  | cons p ps ih =>
    rcases List.mem_cons.mp h with rfl | h
    · exact (onCourse_ackClosed_same chan o s).closeAcked ps
    · exact ih h _

/-- The state in which a channel has let what is acknowledged go. -/
def ackedChan (chan seq : Nat) (gone : List Outcome) (s : State) : State :=
  s.onChan chan fun c =>
    { c with lastAcked := seq, sendNext := if seqNotLater c.sendNext seq then seqNext seq else c.sendNext
             outcomes := c.outcomes.filter fun o => !seqNotLater o.seq seq
             verdicts := c.verdicts.filter fun v => !(gone.any fun o => seqNotLater v.seq o.reqSeq)
             replay := c.replay.filter fun q => !seqNotLater q seq }

/-- The outcomes that an acknowledgement covers. -/
def ackedOutcomes (chan seq : Nat) (s : State) : List Outcome := (s.chan chan).outcomes.filter fun o => seqNotLater o.seq seq

theorem ackTo_eq (chan seq : Nat) (s : State) :
    ackTo chan seq s = closeAcked chan (ackedOutcomes chan seq s) (ackedChan chan seq (ackedOutcomes chan seq s) s) := rfl

/-- The state in which an acknowledgement's credits are the device's. -/
def ackCredited (chan credits : Nat) (s : State) : State :=
  (s.onChan chan fun c => { c with takeover := false }).onChan chan fun c => { c with hostCredits := c.hostCredits + credits }

theorem ackCredited_chan (chan credits : Nat) (s : State) : (ackCredited chan credits s).chan chan
    = { s.chan chan with takeover := false, hostCredits := (s.chan chan).hostCredits + credits } := by
  rw [ackCredited, onChan_chan_same, onChan_chan_same]

theorem ackCredited_leaves (chan credits : Nat) (s : State) {ks : List Nat} : Leaves s (ackCredited chan credits s) [.link] ks :=
  Leaves.trans (Leaves.onChan _ _ _ (by decide)) (Leaves.onChan _ _ _ (by decide))

theorem takeAck_next {chan seq credits : Nat} {s : State} (ht : (s.chan chan).takeover = false)
    (hs : seqNotLater seq (s.chan chan).lastSent = true) (ha : seqNotLater seq (s.chan chan).lastAcked = false) :
    takeAck chan seq credits s = ackTo chan seq (ackCredited chan credits s) := by
  unfold takeAck
  dsimp only
  rw [ht, hs, ha]
  rfl

theorem ackArrival_next {chan seq credits : Nat} {s : State} (h1 : 1 ≤ chan) (h64 : chan ≤ 64) (hs : s.obj O.sessionState = 1) :
    ackArrival chan seq credits s = takeAck chan seq credits s := by
  unfold ackArrival
  rw [if_neg (by simp only [hs, Bool.or_eq_true, beq_iff_eq, decide_eq_true_eq]; omega), if_neg (by rw [hs]; decide)]

/-! ## What becomes of operation instances -/

theorem onOp_op (s : State) (tag : Nat) (f : Op → Op) (j : Nat) : (s.onOp tag f).op j = if j = tag then (s.op tag).map f else s.op j := by
  unfold State.onOp
  cases h : s.op tag with
  | none =>
    dsimp only
    split
    · next hj => rw [hj, h, Option.map_none]
    · rfl
  | some o =>
    dsimp only
    split
    · next hj =>
      subst hj
      exact Store.find_put_same ..
    · next hj => exact Store.find_put_ne _ _ _ _ hj

theorem Leaves.onOp (s : State) (tag : Nat) (f : Op → Op) {ps : List Part} {ks : List Nat} (h : Part.sched ∈ ps) : Leaves s (s.onOp tag f) ps ks :=
  ⟨fun p hp => (Within.start s).onOp.same p (fun hq => hp (by simp only [List.append_nil, List.mem_singleton] at hq; exact hq ▸ h)),
    fun _ _ => State.onOp_obj ..⟩

theorem op_congr {s t : State} (h : t.sched.ops = s.sched.ops) (j : Nat) : t.op j = s.op j := congrArg (Store.find · j) h

theorem traceOp_op (e tag : Nat) (o : Op) (a b c : Nat) (s : State) (j : Nat) : (traceOp e tag o a b c s).op j = s.op j := by
  obtain ⟨l, hl⟩ := traceOp_sched e tag o a b c s
  exact op_congr (by rw [hl]) j

/-- Whether an instance waits for its inputs or for a unit. -/
abbrev OpWaits (o : Op) : Prop := o.state = .waiting ∨ o.state = .ready

/-- Each instance of `t` stood in `s`, and is as it was unless it waited there. -/
def OpsSettle (s t : State) : Prop := ∀ j p, t.op j = some p → ∃ o, s.op j = some o ∧ (p = o ∨ OpWaits o)

namespace OpsSettle
variable {s t u : State}

theorem of_ops (h : t.sched.ops = s.sched.ops) : OpsSettle s t := fun j p hp => ⟨p, (op_congr h j).symm.trans hp, .inl rfl⟩

theorem of_sched (h : t.sched = s.sched) : OpsSettle s t := of_ops (congrArg Sched.ops h)

theorem refl (s : State) : OpsSettle s s := of_ops rfl

theorem trans (h1 : OpsSettle s t) (h2 : OpsSettle t u) : OpsSettle s u := by
  intro j p hp
  obtain ⟨o, ho, hw⟩ := h2 j p hp
  obtain ⟨o', ho', hw'⟩ := h1 j o ho
  rcases hw' with rfl | hw'
  · exact ⟨o, ho', hw⟩
  · exact ⟨o', ho', .inr hw'⟩

theorem onOp {tag : Nat} {o : Op} (h : s.op tag = some o) (hw : OpWaits o) (f : Op → Op) : OpsSettle s (s.onOp tag f) := by
  intro j p hp
  rw [onOp_op] at hp
  split at hp
  · next hj =>
    subst hj
    exact ⟨o, h, .inr hw⟩
  · exact ⟨p, hp, .inl rfl⟩

theorem foldl {α : Type} {f : State → α → State} (h : ∀ a s, OpsSettle s (f s a)) (l : List α) (s : State) : OpsSettle s (l.foldl f s) := by
  induction l generalizing s with
  | nil => exact refl s
  | cons a l ih => exact (h a s).trans (ih _)

end OpsSettle

theorem countExpiry_op (o : Op) (key : Nat) (s : State) (j : Nat) : (countExpiry o key s).op j = s.op j :=
  op_congr (congrArg Sched.ops ((Within.start s).countExpiry.same .sched (by decide))) j

theorem dropKilnJob_op (tag : Nat) (s : State) (j : Nat) : (dropKilnJob tag s).op j = s.op j :=
  op_congr (congrArg Sched.ops ((dropKilnJob_leaves tag s).1 .sched (by decide))) j

theorem expireOp_op {tag : Nat} {o : Op} {s : State} (h : s.op tag = some o) (hw : OpWaits o) (j : Nat) :
    (expireOp tag s).op j = if j = tag then some o.expire else s.op j := by
  unfold expireOp
  rw [h]
  dsimp only
  rw [if_pos (by simpa using hw), traceOp_op, onOp_op, countExpiry_op, countExpiry_op, dropKilnJob_op, dropKilnJob_op, h, Option.map_some]

theorem expireOp_settles (tag : Nat) (s : State) : OpsSettle s (expireOp tag s) := by
  cases h : s.op tag with
  | none =>
    rw [expireOp, h]
    exact OpsSettle.refl s
  | some o =>
    by_cases hw : OpWaits o
    · intro j p hp
      rw [expireOp_op h hw] at hp
      split at hp
      · next hj =>
        subst hj
        exact ⟨o, h, .inr hw⟩
      · exact ⟨p, hp, .inl rfl⟩
    · rw [expireOp, h]
      dsimp only
      rw [if_neg (by simpa using hw)]
      exact OpsSettle.refl s

theorem makeReady_settles {tag : Nat} {o : Op} {s : State} (h : s.op tag = some o) (hw : OpWaits o) : OpsSettle s (makeReady tag o s) := by
  unfold makeReady
  exact (OpsSettle.onOp h hw _).trans (fun j p hp => ⟨p, (traceOp_op ..).symm.trans hp, .inl rfl⟩)

theorem settleOp_settles (s : State) (tag : Nat) : OpsSettle s (settleOp s tag) := by
  unfold settleOp
  split
  · next o ho =>
    split
    · next hw =>
      split
      · exact expireOp_settles tag s
      · split
        · exact makeReady_settles ho (.inl (by simp only [Bool.and_eq_true, beq_iff_eq] at hw; exact hw.1))
        · exact OpsSettle.refl s
    · split
      · exact expireOp_settles tag s
      · exact OpsSettle.refl s
  · exact OpsSettle.refl s

theorem settle_settles (s : State) : OpsSettle s (settle s) := OpsSettle.foldl (fun tag s => settleOp_settles s tag) _ s

/-- A store without the entries of some numbers. -/
theorem find_filter_key {α : Type} (m : Store α) (q : Nat → Bool) (k : Nat) :
    Store.find (m.filter fun e : Nat × α => q e.1) k = if q k = true then Store.find m k else none := by
  induction m with
  | nil => simp [Store.find]
  | cons e m ih =>
    obtain ⟨a, x⟩ := e
    simp only [List.filter_cons]
    by_cases ha : a = k
    · subst ha
      by_cases hq : q a = true
      · simp [hq, Store.find]
      · rw [if_neg hq, ih, if_neg hq, if_neg hq]
    · by_cases hq : q a = true
      · rw [if_pos hq]
        simp only [Store.find, if_neg ha, ih]
      · rw [if_neg hq, ih]
        simp only [Store.find, if_neg ha]

theorem releaseOps_settles (s : State) : OpsSettle s (releaseOps s) := by
  intro j p hp
  refine ⟨p, ?_, .inl rfl⟩
  have hf : (releaseOps s).op j = _ :=
    find_filter_key s.sched.ops (fun k => !((s.sched.ops.filter fun e : Nat × Op => releasable s e.2).map fun e : Nat × Op => e.1).contains k) j
  rw [hf] at hp
  split at hp
  · exact hp
  · exact absurd hp nofun

/-- What follows a change of an instance leaves every instance that does not wait, or releases it. -/
theorem resettle_settles (s : State) : OpsSettle s (resettle s) :=
  ((settle_settles s).trans (releaseOps_settles _)).trans
    ((OpsSettle.of_sched ((askOutcomes_leaves (ks := []) _).1 .sched (by decide))).trans
      (OpsSettle.of_sched ((Within.start _).partsDone.same .sched (by decide))))

/-! ## Expiry and the cancel at LF -/

theorem advanceToAir_op (s : State) (a : Int) (j : Nat) : (advanceToAir s a).op j = s.op j :=
  op_congr (congrArg Sched.ops ((Leaves.advanceToAir s a (ps := timeParts) (ks := []) (fun _ h => h)).1 .sched (by decide))) j

theorem operationLsExpiry_expires {tag : Nat} {o : Op} {s : State} (h : s.op tag = some o) (hw : OpWaits o) (ho : o.old = false)
    (hd : o.id.kind = .dec → o.state = .ready) :
    exec (.operationLsExpiry tag) s = .next (resettle (expireOp tag (advanceToAir s o.ls))) := by
  show execOperationLsExpiry tag s = _
  have hc : ((o.state == .waiting || o.state == .ready) && !o.old) = true := by simpa [ho] using hw
  rw [execOperationLsExpiry, h]
  dsimp only
  rw [if_pos hc, if_neg]
  intro hk
  simp only [Bool.and_eq_true, beq_iff_eq] at hk
  exact absurd ((hd hk.1.1).symm.trans hk.1.2) nofun

/-- An instance that expired keeps an empty token through what follows, or is released. -/
theorem expired_stays {tag : Nat} {o p : Op} {s : State} (h : s.op tag = some o) (hw : OpWaits o)
    (hp : (resettle (expireOp tag s)).op tag = some p) : p = o.expire := by
  obtain ⟨o', h', hs⟩ := resettle_settles _ tag p hp
  rw [expireOp_op h hw, if_pos rfl] at h'
  cases h'
  rcases hs with rfl | hs
  · rfl
  · exact absurd hs (by simp [OpWaits, Op.expire])

theorem operationLfCancel_asks {tag : Nat} {o : Op} {s : State} (h : s.op tag = some o) (hr : o.state = .running ∨ o.state = .suspended)
    (hc : o.cancel = false) (ho : o.old = false) (h4 : o.cls ≠ 4) (h5 : o.cls ≠ 5) : exec (.operationLfCancel tag) s
      = .next ((traceOp 7 tag o 0 0 0 (countExpiry o O.cancelledAtLf (advanceToAir s o.lf))).onOp tag fun o => { o with cancel := true }) := by
  show execOperationLfCancel tag s = _
  have hd : (o.state == .dispatched) = false := by rcases hr with hr | hr <;> (rw [hr]; rfl)
  have hg : ((o.state == .dispatched || o.state == .running || o.state == .suspended) && !o.cancel && !o.old) = true := by
    rcases hr with hr | hr <;> (rw [hr, hc, ho]; rfl)
  rw [execOperationLfCancel, h]
  dsimp only
  rw [if_pos hg, cancelAtLf]
  dsimp only
  rw [hd, if_neg Bool.false_ne_true, if_neg (by simpa using h4), if_neg (by simpa using h5)]

/-- The objects of the scheduler's trace (13 Table 13-6). -/
def traceKeys : List Nat := [O.traceWritten, O.traceLost]

theorem addTrace_leaves (r : Bytes) (s : State) : Leaves s (addTrace r s) [.dict, .sched] traceKeys := by
  unfold addTrace
  dsimp only
  exact Leaves.ite _ (Leaves.trans (Leaves.bump _ _ _ (by decide) (by decide)) (Leaves.setSched _ _ (by decide)))
    (Leaves.ite _ (Leaves.trans (Leaves.bump _ _ _ (by decide) (by decide)) (Leaves.setSched _ _ (by decide)))
      (Leaves.bump _ _ _ (by decide) (by decide)))

theorem traceOp_leaves (e tag : Nat) (o : Op) (a b c : Nat) (s : State) : Leaves s (traceOp e tag o a b c s) [.dict, .sched] traceKeys := by
  unfold traceOp
  exact Leaves.ite _ (addTrace_leaves _ _) (Leaves.refl ..)

theorem causeAt_leaves (key status : Nat) (recs : List Nat) (s : State) {ks : List Nat} : Leaves s (causeAt key status recs s) [.pipe] ks :=
  Leaves.onCourse _ _ _ (by decide)

/-- The state in which an expiry has been counted in its objects. -/
def expiryBumped (o : Op) (key : Nat) (s : State) : State := (s.bump (O.expiredOps o.carrier) 1).bump key 1

theorem countExpiry_leaves_bumped (o : Op) (key : Nat) (s : State) {ks : List Nat} : Leaves (expiryBumped o key s) (countExpiry o key s) [.pipe] ks :=
  Leaves.trans (causeAt_leaves _ _ _ _) (Leaves.onCourse _ _ _ (by decide))

theorem expiryBumped_leaves (o : Op) (key : Nat) (s : State) : Leaves s (expiryBumped o key s) [.dict] [key, O.expiredOps o.carrier] :=
  Leaves.trans (Leaves.bump _ _ _ (by decide) (by simp)) (Leaves.bump _ _ _ (by decide) (by simp))

theorem countExpiry_leaves (o : Op) (key : Nat) (s : State) : Leaves s (countExpiry o key s) [.dict, .pipe] [key, O.expiredOps o.carrier] :=
  Leaves.trans (Leaves.mono (expiryBumped_leaves o key s) (by decide) (fun _ h => h))
    (Leaves.mono (countExpiry_leaves_bumped o key s (ks := [])) (by decide) nofun)

theorem countExpiry_counted (o : Op) (key : Nat) (s : State) (h : key ≠ O.expiredOps o.carrier) :
    Counted s (countExpiry o key s) key 1 ∧ Counted s (countExpiry o key s) (O.expiredOps o.carrier) 1 := by
  have hl (k : Nat) := (countExpiry_leaves_bumped o key s (ks := [])).2 k List.not_mem_nil
  refine ⟨(hl _).trans ?_, (hl _).trans ?_⟩
  · refine Counted.of_obj (s' := s.bump (O.expiredOps o.carrier) 1) (State.obj_bump_ne _ _ _ _ h) (State.obj_bump_same ..)
  · exact (State.obj_bump_ne _ _ _ _ (Ne.symm h)).trans (State.obj_bump_same ..)

end Sys2Proof.Machine
open Sys2Proof Sys2Proof.Machine Sys2Proof.Safety

/-- Settles O11: an instance that expired does not wait, so that what follows leaves it (`expired_stays`). -/
theorem outcomesAndExpiry : Obligations.OutcomesAndExpiry := by
  unfold Obligations.OutcomesAndExpiry
  refine ⟨fun chan o s h1 h64 hs ho hc => ?_, fun dt chan seq credits s h1 h64 hs ht hl ha => ?_, fun tag o s h hw ho hd => ?_,
    fun tag o s h hr hc ho h4 h5 h64 => ?_⟩
  · have he := endCourse_leaves (courseKey chan o.course) (outcomeSent chan o s)
    have hlink : (endCourse (courseKey chan o.course) (outcomeSent chan o s)).link = (outcomeSent chan o s).link := he.1 .link (by decide)
    have hq := outcomeSent_leaves chan o s (ks := [])
    refine ⟨_, ?_, (congrArg Link.sent hlink).trans (outcomeSent_sent ..), ?_, ?_, fun c hcs hx => ?_,
      Leaves.trans (Leaves.mono hq (by decide) nofun) (Leaves.mono he (by decide) (fun _ h => h))⟩
    · show execOutcomeSend chan s = _
      rw [execOutcomeSend, if_neg (by simp only [Bool.or_eq_true, beq_iff_eq, decide_eq_true_eq]; omega), sendOutcome_next hs ho hc]
    · rw [chan_congr (congrArg Link.chans hlink)]
      exact (outcomeSent_chan ..).1
    · rw [chan_congr (congrArg Link.chans hlink)]
      exact (outcomeSent_chan ..).2
    · rw [endCourse_course, if_pos rfl, course_congr (hq.1 .pipe (by decide)), hcs, Option.map_some, endedCourse]
      split
      · next hb =>
        have : c.state = .ended := by simpa [hx] using hb
        rw [← this]
      · rfl
  · have hadv := Leaves.advance s dt (ps := timeParts) (ks := []) (fun _ h => h)
    have hc := ackCredited_leaves chan credits (advance s dt) (ks := [])
    have hchan : (ackCredited chan credits (advance s dt)).chan chan
        = { s.chan chan with takeover := false, hostCredits := (s.chan chan).hostCredits + credits } := by
      rw [ackCredited_chan, advance_chan]
    have hgone : ackedOutcomes chan seq (ackCredited chan credits (advance s dt)) = (s.chan chan).outcomes.filter fun o => seqNotLater o.seq seq := by
      rw [ackedOutcomes, hchan]
    have hclose (l : List Outcome) (u : State) : (closeAcked chan l u).chan chan = u.chan chan :=
      chan_congr (congrArg Link.chans ((closeAcked_leaves chan l u (ks := [])).1 .link (by decide))) _
    refine ⟨_, congrArg Host.Outcome.next ((ackArrival_next h1 h64 ((State.obj_advance ..).trans hs)).trans
      (takeAck_next (by rw [advance_chan, ht]) (by rw [advance_chan, hl]) (by rw [advance_chan, ha]))), ?_, ?_, ?_, fun o ho hq => ?_, ?_⟩
    · rw [ackTo_eq, hclose, ackedChan, onChan_chan_same]
    · rw [ackTo_eq, hclose, ackedChan, onChan_chan_same, hchan]
    · rw [ackTo_eq, hclose, ackedChan, onChan_chan_same, hchan]
    · rw [ackTo_eq, hgone]
      exact closeAcked_closes (List.mem_filter.mpr ⟨ho, hq⟩) _
    · rw [ackTo_eq]
      exact Leaves.trans (Leaves.trans (Leaves.mono hadv (by decide) nofun) (Leaves.mono hc (by decide) nofun))
        (Leaves.trans (Leaves.onChan _ _ _ (by decide)) (Leaves.mono (closeAcked_leaves _ _ _ (ks := [])) (by decide) nofun))
  · refine ⟨_, operationLsExpiry_expires h hw ho hd, fun p hp => ?_,
      SameBut.mono (fun p hp => (Within.start s).advanceToAir.expireOp.resettle.same p hp) (by decide)⟩
    rw [expired_stays ((advanceToAir_op ..).trans h) hw hp]
    exact ⟨rfl, rfl, rfl⟩
  · have hne : O.cancelledAtLf ≠ O.expiredOps o.carrier := by simp only [O.cancelledAtLf, O.expiredOps]; omega
    have hkeys : O.cancelledAtLf ∉ traceKeys ∧ O.expiredOps o.carrier ∉ traceKeys := by
      refine ⟨by decide, ?_⟩
      simp only [traceKeys, O.expiredOps, O.traceWritten, O.traceLost, List.mem_cons, List.not_mem_nil, or_false]
      omega
    obtain ⟨hc1, hc2⟩ := countExpiry_counted o O.cancelledAtLf (advanceToAir s o.lf) hne
    have ht := traceOp_leaves 7 tag o 0 0 0 (countExpiry o O.cancelledAtLf (advanceToAir s o.lf))
    refine ⟨_, operationLfCancel_asks h hr hc ho h4 h5, ?_, ?_, ?_, ?_⟩
    · rw [onOp_op, if_pos rfl, traceOp_op, countExpiry_op, advanceToAir_op, h]
      rfl
    · exact Counted.of_obj (State.obj_advanceToAir ..) ((State.onOp_obj ..).trans ((ht.2 _ hkeys.1).trans hc1))
    · exact Counted.of_obj (State.obj_advanceToAir ..) ((State.onOp_obj ..).trans ((ht.2 _ hkeys.2).trans hc2))
    · exact Leaves.trans (Leaves.trans (Leaves.mono (Leaves.advanceToAir s o.lf (ps := timeParts) (ks := []) (fun _ h => h)) (by decide) nofun)
        (Leaves.mono (countExpiry_leaves ..) (by decide) (by simp)))
        (Leaves.trans (Leaves.mono ht (by decide) (by simp [traceKeys])) (Leaves.onOp _ _ _ (by decide)))
end

section
/-! SUPPORT. The modules of the link (04 R115 to R120). -/
namespace Sys2Proof.Machine
open Sys2Proof.Safety

/-! ## A module is replaced -/

/-- A link with a module replaced. -/
def Link.withMod (l : Link) (m : Nat) (x : Module) : Link := if m == 0 then { l with m0 := x } else { l with m1 := x }

/-- LINK_STATE of two modules, of which a number names the first. -/
def linkCode (m : Nat) (up other : Bool) : Int :=
  match up, other with
  | true, true => 1
  | true, false => if m = 0 then 2 else 3
  | false, true => if m = 0 then 3 else 2
  | false, false => 0

theorem Link.mod_withMod (l : Link) (m : Nat) (x : Module) : (l.withMod m x).mod m = x := by
  unfold Link.withMod Link.mod
  split <;> rfl

theorem Link.mod_withMod_other (l : Link) {m : Nat} (x : Module) (h : m < 2) : (l.withMod m x).mod (1 - m) = l.mod (1 - m) := by
  obtain rfl | rfl : m = 0 ∨ m = 1 := by omega
  · rfl
  · rfl

theorem Link.withMod_rest (l : Link) (m : Nat) (x : Module) : (l.withMod m x).module0 = l.module0 ∧ (l.withMod m x).chans = l.chans
    ∧ (l.withMod m x).holder = l.holder ∧ (l.withMod m x).waiting = l.waiting ∧ (l.withMod m x).sent = l.sent ∧ (l.withMod m x).flight = l.flight := by
  unfold Link.withMod
  split <;> exact ⟨rfl, rfl, rfl, rfl, rfl, rfl⟩

theorem setModule_link (m : Nat) (x : Module) (s : State) : (setModule m x s).link = s.link.withMod m x := rfl

theorem setModule_code {m : Nat} (x : Module) (s : State) (h : m < 2) :
    (setModule m x s).obj O.cenenLinkState = linkCode m x.up (s.link.mod (1 - m)).up := by
  refine (State.obj_setObj_same ..).trans ?_
  obtain rfl | rfl : m = 0 ∨ m = 1 := by omega
  · show (match x.up, s.link.m1.up with
      | true, true => 1
      | true, false => 2
      | false, true => 3
      | false, false => 0) = linkCode 0 x.up s.link.m1.up
    unfold linkCode
    cases x.up <;> cases s.link.m1.up <;> rfl
  · show (match s.link.m0.up, x.up with
      | true, true => 1
      | true, false => 2
      | false, true => 3
      | false, false => 0) = linkCode 1 x.up s.link.m0.up
    unfold linkCode
    cases x.up <;> cases s.link.m0.up <;> rfl

theorem setModule_leaves (m : Nat) (x : Module) (s : State) : Leaves s (setModule m x s) [.dict, .link] [O.cenenLinkState] :=
  Leaves.trans (Leaves.onLink _ _ (by decide)) (Leaves.setObj _ _ _ (by decide) (by decide))

theorem moveAll_chan (m : Nat) (s : State) {c : Nat} {ch : Channel} (h : Store.find s.link.chans c = some ch) :
    Store.find (moveAll m s).link.chans c = some { ch with module := m } :=
  (find_map_same s.link.chans (fun ch => { ch with module := m }) c).trans (congrArg (Option.map _) h)

/-! ## A module is lost -/

theorem raise_link (s : State) (k u : Nat) (d : Bytes) (c : Nat) :
    (raise s k u d c).link = { s.link with waiting := (raise s k u d c).link.waiting } := by
  unfold raise raiseFor
  dsimp only
  split
  · rfl
  · rfl

theorem foldl_send_link (l : List Flight) (s : State) : (l.foldl (fun s f => s.send f.msg) s).link
    = { s.link with sent := s.link.sent ++ l.map (·.msg), retries := (l.foldl (fun s f => s.send f.msg) s).link.retries
                    flight := (l.foldl (fun s f => s.send f.msg) s).link.flight } := by
  induction l generalizing s with
  | nil => simp
  | cons f l ih =>
    rw [List.foldl_cons, ih, List.map_cons, List.append_cons]
    rfl

/-- What a lost module had in flight and the adapter had not acknowledged. -/
def lostFlight (m : Nat) (s : State) : List Flight := s.link.flight.filter fun f => f.module == m && !f.acked s.clock.ticks

theorem resendFlight_link (m : Nat) (s : State) : (resendFlight m s).link
    = { s.link with sent := s.link.sent ++ (lostFlight m s).map (·.msg), retries := (resendFlight m s).link.retries
                    flight := (resendFlight m s).link.flight } :=
  foldl_send_link (lostFlight m s) (s.onLink fun l => { l with flight := l.flight.filter fun f => f.module != m })

theorem resendFlight_leaves (m : Nat) (s : State) {ks : List Nat} : Leaves s (resendFlight m s) [.link] ks :=
  Leaves.trans (Leaves.onLink s (fun l => { l with flight := l.flight.filter fun f => f.module != m }) (by decide))
    (Leaves.foldl (fun (s : State) (f : Flight) => s.send f.msg) (lostFlight m s) (fun _ _ _ => send_leaves _ _) _)

theorem Link.clearSide_rest (l : Link) (m : Nat) : (l.clearSide m).m0 = l.m0 ∧ (l.clearSide m).m1 = l.m1 ∧ (l.clearSide m).chans = l.chans
    ∧ (l.clearSide m).holder = l.holder ∧ (l.clearSide m).waiting = l.waiting ∧ (l.clearSide m).sent = l.sent ∧ (l.clearSide m).flight = l.flight := by
  unfold Link.clearSide
  split <;> exact ⟨rfl, rfl, rfl, rfl, rfl, rfl, rfl⟩

/-- The state in which a module that carried channels is gone and counted. -/
def moduleGone (m : Nat) (s : State) : State := (raise (setModule m ⟨false, none⟩ s) O.moduleLostCount m [] 0).onLink fun l => l.clearSide m

/-- The objects that the loss of a module may change. -/
def lossKeys : List Nat := [O.cenenLinkState, O.moduleLostCount, O.indicationsDropped]

theorem moduleGone_leaves (m : Nat) (s : State) : Leaves s (moduleGone m s) [.dict, .link] lossKeys :=
  Leaves.trans (Leaves.trans (Leaves.mono (setModule_leaves m _ s) (by decide) (by decide))
    (Leaves.raise _ _ _ _ _ (by decide) (by decide) (by decide) (by decide))) (Leaves.onLink _ _ (by decide))

theorem Link.mod_congr {k l : Link} (h0 : k.m0 = l.m0) (h1 : k.m1 = l.m1) (m : Nat) : k.mod m = l.mod m := by rw [Link.mod, Link.mod, h0, h1]

theorem moduleGone_mod (m j : Nat) (s : State) : (moduleGone m s).link.mod j = (s.link.withMod m ⟨false, none⟩).mod j := by
  refine (Link.mod_congr (Link.clearSide_rest _ m).1 (Link.clearSide_rest _ m).2.1 j).trans ?_
  rw [raise_link]
  rfl

theorem moduleGone_link (m : Nat) (s : State) : (moduleGone m s).link.chans = s.link.chans ∧ (moduleGone m s).link.holder = s.link.holder
    ∧ (moduleGone m s).link.sent = s.link.sent ∧ (moduleGone m s).link.flight = s.link.flight := by
  obtain ⟨-, -, h1, h2, -, h3, h4⟩ := Link.clearSide_rest (raise (setModule m ⟨false, none⟩ s) O.moduleLostCount m [] 0).link m
  obtain ⟨-, w1, w2, -, w3, w4⟩ := Link.withMod_rest s.link m ⟨false, none⟩
  have hr := raise_link (setModule m ⟨false, none⟩ s) O.moduleLostCount m [] 0
  exact ⟨h1.trans ((congrArg Link.chans hr).trans w1), h2.trans ((congrArg Link.holder hr).trans w2), h3.trans ((congrArg Link.sent hr).trans w3),
    h4.trans ((congrArg Link.flight hr).trans w4)⟩

theorem moduleGone_code {m : Nat} (s : State) (h : m < 2) :
    (moduleGone m s).obj O.cenenLinkState = linkCode m false (s.link.mod (1 - m)).up :=
  (State.obj_raise_ne _ _ _ _ _ _ (by decide) (by decide)).trans (setModule_code _ s h)

theorem moduleGone_raised (m : Nat) (s : State) : Counted s (moduleGone m s) O.moduleLostCount 1
    ∧ Indicates s (moduleGone m s) O.moduleLostCount m [] 0 := by
  have hw : (setModule m ⟨false, none⟩ s).link.waiting = s.link.waiting := (Link.withMod_rest _ _ _).2.2.2.1
  refine ⟨Counted.of_obj (setModule_obj m _ s (by decide)) (raise_counted _ _ _ _ _ (by decide)), fun hs => ?_⟩
  obtain ⟨i, hi, hr⟩ := raise_indicates (setModule m ⟨false, none⟩ s) O.moduleLostCount m [] 0 (by rw [hw]; exact hs)
  obtain ⟨-, -, -, -, hc, -⟩ := Link.clearSide_rest (raise (setModule m ⟨false, none⟩ s) O.moduleLostCount m [] 0).link m
  exact ⟨i, hc.symm ▸ hi, hr⟩

/-- A channel of a module that is lost moves to the other, with a takeover window. -/
def movedOver (m : Nat) (ch : Channel) : Channel := if ch.module = m then { ch with module := 1 - m, takeover := true } else ch

/-- The state in which the channels of a lost module have moved. -/
def channelsOver (m : Nat) (s : State) : State :=
  s.onLink fun l => { l with module0 := 1 - m, chans := l.chans.map fun c =>
    if c.2.module == m then (c.1, { c.2 with module := 1 - m, takeover := true }) else c }

theorem channelsOver_chan (m : Nat) (s : State) {c : Nat} {ch : Channel} (h : Store.find s.link.chans c = some ch) :
    Store.find (channelsOver m s).link.chans c = some (movedOver m ch) := by
  have hm : (channelsOver m s).link.chans = s.link.chans.map fun e => (e.1, movedOver m e.2) := by
    refine List.map_congr_left fun e _ => ?_
    by_cases he : e.2.module = m
    · rw [if_pos (by simpa using he), movedOver, if_pos he]
    · rw [if_neg (by simpa using he), movedOver, if_neg he]
  rw [hm, find_map_same, h]
  rfl

theorem loseModule_other {m : Nat} {s : State} (h : m < 2) (hu : (s.link.mod m).up = true) (ho : (s.link.mod (1 - m)).up = true) :
    loseModule m s = resendFlight m (channelsOver m (moduleGone m s)) := by
  have hg : ((moduleGone m s).link.mod (1 - m)).up = true := by rw [moduleGone_mod, Link.mod_withMod_other _ _ h, ho]
  unfold loseModule
  dsimp only
  rw [hu]
  exact if_pos hg

/-- The state in which nothing is in flight. -/
def flightGone (s : State) : State := s.onLink fun l => { l with flight := [] }

theorem loseModule_last {m : Nat} {s : State} (h : m < 2) (hu : (s.link.mod m).up = true) (ho : (s.link.mod (1 - m)).up = false) :
    loseModule m s = suspendSession 1 (flightGone (moduleGone m s)) := by
  have hg : ((moduleGone m s).link.mod (1 - m)).up = false := by rw [moduleGone_mod, Link.mod_withMod_other _ _ h, ho]
  unfold loseModule
  dsimp only
  rw [hu]
  exact if_neg (c := (((moduleGone m s).link.mod (1 - m)).up = true)) (by rw [hg]; decide)

/-- The state in which a session that was ACTIVE is suspended, before what is in progress is discarded. -/
def suspendedFrom (cause : Nat) (s : State) : State :=
  (s.setObj O.sessionState 2).onLink fun l => { l with cause := cause, suspended := s.clock.ticks, flight := [] }

theorem suspendSession_active {cause : Nat} {s : State} (h : s.obj O.sessionState = 1) :
    suspendSession cause s = discardIncomplete (suspendedFrom cause s) := by
  unfold suspendSession
  rw [if_neg (by rw [h]; decide), h]
  rfl

theorem discardIncomplete_link (s : State) : (discardIncomplete s).link = { s.link with chans := (discardIncomplete s).link.chans } := rfl

theorem suspendSession_leaves {cause : Nat} {s : State} (h : s.obj O.sessionState = 1) :
    Leaves s (suspendSession cause s) [.dict, .link] [O.sessionState] := by
  rw [suspendSession_active h]
  exact Leaves.trans (Leaves.setObj _ _ _ (by decide) (by decide)) (Leaves.trans (Leaves.onLink _ _ (by decide)) (Leaves.onLink _ _ (by decide)))

/-! ## A module retrains, and channels return -/

theorem retrainModule_waits {m : Nat} {s : State} (hd : (s.link.mod m).up = false) (ho : (s.link.mod (1 - m)).up = true) :
    retrainModule m s = setModule m ⟨false, some s.clock.ticks⟩ s := by
  unfold retrainModule
  rw [if_neg (by rw [hd]; decide), if_pos ho]

theorem retrainModule_alone {m : Nat} {s : State} (hd : (s.link.mod m).up = false) (ho : (s.link.mod (1 - m)).up = false) :
    retrainModule m s = moveAll m (setModule m ⟨true, none⟩ s) := by
  unfold retrainModule
  rw [if_neg (by rw [hd]; decide), if_neg (by rw [ho]; decide)]

theorem restoreHoldExpiry_serves {m since : Nat} {s : State} (h : m < 2) (ht : (s.link.mod m).trainedAt = some since)
    (ho : (s.link.mod (1 - m)).up = true) :
    exec (.restoreHoldExpiry m) s = .next (setModule m ⟨true, none⟩ (advanceTicks s (since + s.nat O.restoreHold * tickMs))) := by
  have hl : (advanceTicks s (since + s.nat O.restoreHold * tickMs)).link = s.link := advance_link ..
  show execRestoreHoldExpiry m s = _
  rw [execRestoreHoldExpiry, if_neg (by omega), ht]
  dsimp only
  rw [setModule_link, hl, Link.mod_withMod_other _ _ h, if_pos ho]

theorem Link.mapped_eq (l : Link) (chan : Nat) : l.mapped chan = if chan ≠ 0 ∧ bitOf l.map (chan - 1) = true then 1 else 0 := by
  unfold Link.mapped
  simp only [Bool.and_eq_true, bne_iff_ne]

theorem channelReturn_uses {chan m : Nat} {s : State} (h : chan ≤ 64) (hm : m = s.link.mapped chan) (hs : chan = 0 ∨ s.obj O.sessionState ≠ 0)
    (hu : (s.link.mod m).up = true) :
    exec (.channelReturn chan) s = .next (useModule chan m (advanceTicks s (flightOver s.link chan (1 - m)))) := by
  subst hm
  show execChannelReturn chan s = _
  rw [execChannelReturn, if_neg (by omega)]
  exact if_pos (by simpa [hu] using hs)

theorem advanceTicks_link (s : State) (n : Nat) : (advanceTicks s n).link = s.link := advance_link ..

end Sys2Proof.Machine
open Sys2Proof Sys2Proof.Machine Sys2Proof.Safety

/-- Settles O12: what the loss of a module (`moduleGone`) and its return leave of the link. -/
theorem linkModules : Obligations.LinkModules := by
  unfold Obligations.LinkModules
  refine ⟨fun m lanes s hm hu => ?_, fun dt m s hm hu ho => ?_, fun dt m s hm hu ho hs => ?_, fun dt m s hm hd => ?_,
    fun m since s hm ht ho => ?_, fun chan m s hc hm hs hu => ?_⟩
  · have hk : (if (m == 0) = true then O.lanesRepairedU0 else O.lanesRepairedU1) = if m = 0 then O.lanesRepairedU0 else O.lanesRepairedU1 := by simp
    refine ⟨s.bump (if m = 0 then O.lanesRepairedU0 else O.lanesRepairedU1) lanes, ?_, State.obj_bump_same ..,
      Leaves.bump _ _ _ (by decide) (List.mem_singleton_self _)⟩
    show execUcieLaneRepair m lanes s = _
    rw [execUcieLaneRepair, if_neg (by omega), if_pos hu, hk]
  · have hadv : (advance s dt).link = s.link := advance_link ..
    have hl := resendFlight_link m (channelsOver m (moduleGone m (advance s dt)))
    have hr := resendFlight_leaves m (channelsOver m (moduleGone m (advance s dt))) (ks := [])
    have hg := moduleGone_leaves m (advance s dt)
    obtain ⟨g1, -, g3, g4⟩ := moduleGone_link m (advance s dt)
    obtain ⟨c1, c2⟩ := moduleGone_raised m (advance s dt)
    have hmod (j : Nat) : (resendFlight m (channelsOver m (moduleGone m (advance s dt)))).link.mod j = (s.link.withMod m ⟨false, none⟩).mod j := by
      rw [hl, ← hadv, ← moduleGone_mod]
      rfl
    have hclock : (resendFlight m (channelsOver m (moduleGone m (advance s dt)))).clock = (moduleGone m (advance s dt)).clock := hr.1 .clock (by decide)
    refine ⟨resendFlight m (channelsOver m (moduleGone m (advance s dt))), ?_, ?_, ?_, ?_, ?_, ?_, ?_, ?_, fun c ch hch => ?_, ?_⟩
    · show execUcieModuleLost dt m s = _
      rw [execUcieModuleLost, if_neg (by omega), loseModule_other hm (by rw [hadv, hu]) (by rw [hadv, ho])]
    · rw [hmod, Link.mod_withMod]
    · rw [hmod, Link.mod_withMod_other _ _ hm]
    · refine (hr.2 _ List.not_mem_nil).trans ((moduleGone_code _ hm).trans ?_)
      rw [hadv, ho]
      rfl
    · exact Counted.of_advance ((hr.2 _ List.not_mem_nil).trans c1)
    · refine Indicates.of_link hadv fun hs => ?_
      obtain ⟨i, hi, h⟩ := c2 hs
      exact ⟨i, by rw [hl]; exact hi, h⟩
    · rw [hl]
      rfl
    · rw [hclock, hl]
      show (moduleGone m (advance s dt)).link.sent ++ (lostFlight m (channelsOver m (moduleGone m (advance s dt)))).map (·.msg) = _
      rw [g3, hadv]
      show s.link.sent ++ ((moduleGone m (advance s dt)).link.flight.filter _).map (·.msg) = _
      rw [g4, hadv]
      rfl
    · rw [hl]
      show Store.find (channelsOver m (moduleGone m (advance s dt))).link.chans c = _
      rw [channelsOver_chan m _ (by rw [g1, hadv]; exact hch)]
      rfl
    · exact Leaves.trans (Leaves.trans (Leaves.advance s dt (by decide)) (Leaves.mono hg (by decide) (fun _ h => h)))
        (Leaves.trans (Leaves.onLink _ _ (by decide)) (Leaves.mono hr (by decide) nofun))
  · have hadv : (advance s dt).link = s.link := advance_link ..
    have hg := moduleGone_leaves m (advance s dt)
    obtain ⟨-, g2, -, -⟩ := moduleGone_link m (advance s dt)
    have hact : (flightGone (moduleGone m (advance s dt))).obj O.sessionState = 1 :=
      (hg.2 _ (by decide)).trans ((State.obj_advance ..).trans hs)
    have hk := suspendSession_leaves (cause := 1) hact
    have hlink : (suspendSession 1 (flightGone (moduleGone m (advance s dt)))).link
        = { (suspendedFrom 1 (flightGone (moduleGone m (advance s dt)))).link with
              chans := (discardIncomplete (suspendedFrom 1 (flightGone (moduleGone m (advance s dt))))).link.chans } := by
      rw [suspendSession_active hact]
      rfl
    have hclock : (suspendSession 1 (flightGone (moduleGone m (advance s dt)))).clock = (moduleGone m (advance s dt)).clock := hk.1 .clock (by decide)
    refine ⟨suspendSession 1 (flightGone (moduleGone m (advance s dt))), ?_, ?_, ?_, ?_, ?_, ?_, ?_, ?_, ?_⟩
    · show execUcieModuleLost dt m s = _
      rw [execUcieModuleLost, if_neg (by omega), loseModule_last hm (by rw [hadv, hu]) (by rw [hadv, ho])]
    · rw [hlink]
      exact (moduleGone_mod m m (advance s dt)).trans (Link.mod_withMod ..)
    · refine (hk.2 _ (by decide)).trans ((moduleGone_code _ hm).trans ?_)
      rw [hadv, ho]
      rfl
    · rw [suspendSession_state, hact]
      rfl
    · rw [hlink]
      rfl
    · rw [hclock, hlink]
      rfl
    · rw [hlink]
      exact g2.trans (congrArg Link.holder hadv)
    · exact Counted.of_advance ((hk.2 _ (by decide)).trans (moduleGone_raised m (advance s dt)).1)
    · exact Leaves.trans (Leaves.trans (Leaves.advance s dt (by decide)) (Leaves.mono hg (by decide) (by decide)))
        (Leaves.trans (Leaves.onLink _ _ (by decide)) (Leaves.mono hk (by decide) (by decide)))
  · have hadv : (advance s dt).link = s.link := advance_link ..
    have hexec : exec (.ucieModuleRetrained dt m) s = .next (retrainModule m (advance s dt)) := by
      show execUcieModuleRetrained dt m s = _
      rw [execUcieModuleRetrained, if_neg (by omega)]
    have hset (x : Module) := setModule_leaves m x (advance s dt)
    refine ⟨_, hexec, ?_⟩
    cases ho : (s.link.mod (1 - m)).up with
    | true =>
      rw [if_pos rfl, retrainModule_waits (by rw [hadv, hd]) (by rw [hadv, ho])]
      refine ⟨Leaves.trans (Leaves.advance s dt (by decide)) (Leaves.mono (hset _) (by decide) (fun _ h => h)), Link.mod_withMod .., ?_, ?_⟩
      · exact (Link.withMod_rest _ _ _).2.1.trans (congrArg Link.chans hadv)
      · refine (setModule_code _ _ hm).trans ?_
        rw [hadv, ho]
        rfl
    | false =>
      rw [if_neg (by decide), retrainModule_alone (by rw [hadv, hd]) (by rw [hadv, ho])]
      refine ⟨Leaves.trans (Leaves.advance s dt (by decide)) (Leaves.trans (Leaves.mono (hset _) (by decide) (fun _ h => h))
        (Leaves.onLink _ _ (by decide))), Link.mod_withMod .., ?_, rfl, fun c ch hch => moveAll_chan m _ ?_⟩
      · refine (setModule_code _ _ hm).trans ?_
        rw [hadv, ho]
        rfl
      · rw [setModule_link, (Link.withMod_rest _ _ _).2.1, hadv]
        exact hch
  · have hadv : (advanceTicks s (since + s.nat O.restoreHold * tickMs)).link = s.link := advanceTicks_link ..
    obtain ⟨w1, w2, -⟩ := Link.withMod_rest s.link m ⟨true, none⟩
    have hl := setModule_leaves m ⟨true, none⟩ (advanceTicks s (since + s.nat O.restoreHold * tickMs))
    have hclock : (setModule m ⟨true, none⟩ (advanceTicks s (since + s.nat O.restoreHold * tickMs))).clock = _ := hl.1 .clock (by decide)
    refine ⟨_, restoreHoldExpiry_serves hm ht ho, Link.mod_withMod .., ?_, ?_, ?_, ?_,
      Leaves.trans (advanceTicks_leaves s _ (by decide)) (Leaves.mono hl (by decide) (fun _ h => h))⟩
    · refine (setModule_code _ _ hm).trans ?_
      rw [hadv, ho]
      rfl
    · rw [hclock]
      exact le_advanceTicks ..
    · rw [setModule_link, hadv, w2]
    · rw [setModule_link, hadv, w1]
  · have hadv : (advanceTicks s (flightOver s.link chan (1 - m))).link = s.link := advanceTicks_link ..
    refine ⟨_, channelReturn_uses hc (hm.trans (Link.mapped_eq ..).symm) hs hu, ?_⟩
    by_cases h0 : chan = 0
    · subst h0
      rw [if_pos rfl, useModule, if_pos (by decide)]
      have hc : (advanceTicks s (flightOver s.link 0 (1 - m))).link.chans = s.link.chans := congrArg Link.chans hadv
      refine ⟨⟨rfl, hc⟩, le_advanceTicks .., Leaves.trans (advanceTicks_leaves s _ (by decide)) (Leaves.onLink _ _ (by decide))⟩
    · rw [if_neg h0, useModule, if_neg (by simpa using h0)]
      have hc : (advanceTicks s (flightOver s.link chan (1 - m))).link.module0 = s.link.module0 := congrArg Link.module0 hadv
      refine ⟨⟨?_, fun c hne => ?_, hc⟩, le_advanceTicks ..,
        Leaves.trans (advanceTicks_leaves s _ (by decide)) (Leaves.onChan _ _ _ (by decide))⟩
      · rw [onChan_chan_same, chan_congr (congrArg Link.chans hadv)]
      · rw [onChan_chan, if_neg hne, chan_congr (congrArg Link.chans hadv)]
end

section
/-! SUPPORT. What the link's receivers discard (04 R115, R121 to R125, R129), and INDICATIONs (04 R131). -/
namespace Sys2Proof.Machine
open Sys2Proof.Safety

/-! ## The stream of a module -/

theorem ceilDiv_mul (k : Nat) {n : Nat} (h : 0 < n) : ceilDiv (n * k) n = k := by
  unfold ceilDiv
  rw [Nat.add_sub_assoc h, Nat.mul_add_div h, Nat.div_eq_of_lt (by omega), Nat.add_zero]

theorem padTo_whole {k : Nat} {b : Bytes} (h : b.length = 32 * k) : padTo 32 b = b := by
  rw [padTo, h, ceilDiv_mul k (by decide), Nat.mul_comm, Nat.sub_self, List.replicate_zero, List.append_nil]

/-- A stretch of whole units that follows nothing. -/
theorem receiveStretch_first {m k : Nat} {units : Bytes} {s : State} (hb : (s.link.stream m).bytes = []) (h : units.length = 32 * k) :
    receiveStretch m units s = receiveUnits m (k + 1) (s.link.stream m).search units s := by
  unfold receiveStretch
  dsimp only
  rw [hb, padTo_whole h, List.nil_append, h, Nat.mul_div_cancel_left _ (by decide)]

theorem receiveUnits_short (m fuel : Nat) (search : Bool) {b : Bytes} (s : State) (h : b.length < 32) :
    receiveUnits m fuel search b s = s.onLink fun l => l.setStream m ⟨b, search⟩ := by
  cases fuel with
  | zero => rfl
  | succ k => exact if_pos h

theorem receiveUnits_search {m fuel : Nat} {b : Bytes} {s : State} (h : 32 ≤ b.length) (hf : findsBoundary b = false) :
    receiveUnits m (fuel + 1) true b s = receiveUnits m fuel true (b.drop 32) s := by
  exact (if_neg (by omega)).trans (if_pos (by rw [hf]; rfl))

theorem receiveUnits_loses {m fuel : Nat} {b : Bytes} {s : State} (h : 32 ≤ b.length) (hf : isFill b = false)
    (hd : delimits (bytesAt b 4 4) = false) :
    receiveUnits m (fuel + 1) false b s = receiveUnits m fuel true (b.drop 32) (s.bump O.formatErrors 1) := by
  exact (if_neg (by omega)).trans ((if_neg (by simp)).trans ((if_neg (by rw [hf]; decide)).trans (if_pos (by rw [hd]; rfl))))

theorem receiveUnits_waits {m fuel : Nat} {b : Bytes} {s : State} (h : 32 ≤ b.length) (hf : isFill b = false)
    (hd : delimits (bytesAt b 4 4) = true) (hn : b.length < bytesAt b 4 4) :
    receiveUnits m (fuel + 1) false b s = s.onLink fun l => l.setStream m ⟨b, false⟩ := by
  exact (if_neg (by omega)).trans ((if_neg (by simp)).trans ((if_neg (by rw [hf]; decide)).trans ((if_neg (by rw [hd]; decide)).trans (if_pos hn))))

theorem receiveUnits_takes {m fuel : Nat} {b : Bytes} {s : State} (h : 32 ≤ b.length) (hf : isFill b = false)
    (hd : delimits (bytesAt b 4 4) = true) (hn : bytesAt b 4 4 ≤ b.length) : receiveUnits m (fuel + 1) false b s
      = receiveUnits m fuel false (b.drop (ceilDiv (bytesAt b 4 4) 32 * 32)) (takeBytes (b.take (bytesAt b 4 4)) s) := by
  exact (if_neg (by omega)).trans ((if_neg (by simp)).trans ((if_neg (by rw [hf]; decide)).trans ((if_neg (by rw [hd]; decide)).trans
    (if_neg (by omega)))))

/-- A search goes on over units of which none ends it. -/
theorem receiveUnits_run (m : Nat) {k fuel : Nat} {b : Bytes} (s : State) (h : b.length = 32 * k) (hk : k ≤ fuel)
    (hf : ∀ i < k, findsBoundary (b.drop (32 * i)) = false) :
    receiveUnits m fuel true b s = s.onLink fun l => l.setStream m ⟨[], true⟩ := by
  induction k generalizing b fuel with
  | zero =>
    have hb : b = [] := List.eq_nil_of_length_eq_zero (by omega)
    rw [receiveUnits_short m fuel true s (by omega), hb]
  | succ k ih =>
    obtain ⟨fuel, rfl⟩ : ∃ g, fuel = g + 1 := ⟨fuel - 1, by omega⟩
    rw [receiveUnits_search (by omega) (by simpa using hf 0 (by omega))]
    refine ih (by rw [List.length_drop]; omega) (by omega) fun i hi => ?_
    have := hf (i + 1) (by omega)
    rwa [List.drop_drop, show 32 + 32 * i = 32 * (i + 1) by omega]

theorem delimits_min {n : Nat} (h : delimits n = true) : 32 ≤ n := by
  simp only [delimits, Bool.and_eq_true, decide_eq_true_eq] at h
  exact h.1.1

/-! ## A message that may not be taken -/

/-- A message that the receiver delimits and may not take. -/
theorem takeBytes_discards {b : Bytes} {s : State} (hp : parseMessage b = none) (ht : bytesAt b 0 2 ≠ 0x0211) (hs : s.obj O.sessionState ≠ 0) :
    takeBytes b s = discard (bytesAt b 8 2) (bytesAt b 4 4) s := by
  unfold takeBytes
  rw [hp]
  exact if_neg (by simp [ht, hs])

theorem discard_owes {chan : Nat} (length : Nat) (s : State) (h1 : 1 ≤ chan) (h64 : chan ≤ 64) : discard chan length s
    = (s.bump O.formatErrors 1).onChan chan fun c => { c with owed := c.owed + creditsOf length } :=
  if_pos (by simp [h1, h64])

theorem Link.setStream_rest (l : Link) (m : Nat) (x : Stream) : (l.setStream m x).chans = l.chans ∧ (l.setStream m x).sent = l.sent := by
  unfold Link.setStream
  split <;> exact ⟨rfl, rfl⟩

theorem malformedMessageRx_stretch {dt m : Nat} {units : Bytes} {s : State} (hm : m < 2) (hu : (s.link.mod m).up = true) :
    exec (.malformedMessageRx dt m units) s = .next (receiveStretch m units (advance s dt)) := by
  show execMalformedMessageRx dt m units s = _
  rw [execMalformedMessageRx, if_neg (by omega)]
  exact congrArg Host.Outcome.next (if_pos (by rw [advance_link]; exact hu))

/-! ## The sideband -/

theorem Link.side_setSide (l : Link) (m : Nat) (b : Bytes) : (l.setSide m b).side m = b := by
  unfold Link.setSide Link.side
  split <;> rfl

theorem Link.side_setSide_other (l : Link) {m : Nat} (b : Bytes) (h : m < 2) : (l.setSide m b).side (1 - m) = l.side (1 - m) := by
  obtain rfl | rfl : m = 0 ∨ m = 1 := by omega
  · rfl
  · rfl

theorem Link.setSide_sent (l : Link) (m : Nat) (b : Bytes) : (l.setSide m b).sent = l.sent := by
  unfold Link.setSide
  split <;> rfl

theorem sidebandMessageRx_piece (dt : Nat) {m : Nat} (data : Bytes) (s : State) (hm : m < 2) :
    exec (.sidebandMessageRx dt m (s.nat O.sbVendorId) 0 data) s = .next (sidePiece m data (advance s dt)) := by
  have hn : (advance s dt).nat O.sbVendorId = s.nat O.sbVendorId := congrArg Int.toNat (State.obj_advance ..)
  show execSidebandMessageRx dt m _ 0 data s = _
  rw [execSidebandMessageRx, if_neg (by omega)]
  exact congrArg Host.Outcome.next (if_neg (by simp [hn]))

theorem sidePiece_bad {m : Nat} {data : Bytes} {s : State} (h : delimits (bytesAt (s.link.side m ++ data) 4 4) = false) :
    sidePiece m data s = (s.onLink fun l => l.setSide m []).bump O.formatErrors 1 := by
  unfold sidePiece
  dsimp only
  rw [if_pos (by rw [h]; rfl)]

theorem sidePiece_waits {m : Nat} {data : Bytes} {s : State} (h : delimits (bytesAt (s.link.side m ++ data) 4 4) = true)
    (hn : (s.link.side m ++ data).length < bytesAt (s.link.side m ++ data) 4 4) :
    sidePiece m data s = s.onLink fun l => l.setSide m (s.link.side m ++ data) := by
  unfold sidePiece
  dsimp only
  rw [if_neg (by rw [h]; decide), if_pos hn]

end Sys2Proof.Machine
open Sys2Proof Sys2Proof.Machine Sys2Proof.Safety

/-- Settles O13: one unit is searched, lost, kept or taken at a time (`receiveUnits_run` for a run of lost ones). -/
theorem linkDiscards : Obligations.LinkDiscards := by
  unfold Obligations.LinkDiscards
  refine ⟨fun dt m vendor code data s hm hv => ?_, fun dt m data s hm => ?_,
    fun dt m n chan units s hm hu hs hst hf hn hd hl hp ht hc h1 h64 hlen => ?_, fun dt m k units s hm hu hk hl hst hrun hse hne => ?_,
    fun dt m k units s hm hu hk hl hst hf hd hlt => ?_, fun i rest s hw hu => ?_⟩
  · refine ⟨(advance s dt).bump O.formatErrors 1, ?_, Counted.of_advance (State.obj_bump_same ..),
      Leaves.trans (Leaves.advance s dt (by decide)) (Leaves.bump _ _ _ (by decide) (by decide))⟩
    have hn : (advance s dt).nat O.sbVendorId = s.nat O.sbVendorId := congrArg Int.toNat (State.obj_advance ..)
    show execSidebandMessageRx dt m vendor code data s = _
    rw [execSidebandMessageRx, if_neg (by omega)]
    exact congrArg Host.Outcome.next (if_pos (by simpa [hn] using hv))
  · have hadv : (advance s dt).link = s.link := advance_link ..
    refine ⟨_, sidebandMessageRx_piece dt data s hm, fun hd => ?_, fun hd hlt => ?_⟩
    · rw [sidePiece_bad (by rw [hadv]; exact hd)]
      exact ⟨Link.side_setSide .., Counted.of_advance (State.obj_bump_same ..),
        Leaves.trans (Leaves.advance s dt (by decide)) (Leaves.trans (Leaves.onLink _ _ (by decide)) (Leaves.bump _ _ _ (by decide) (by decide)))⟩
    · rw [sidePiece_waits (by rw [hadv]; exact hd) (by rw [hadv]; exact hlt), hadv]
      refine ⟨Link.side_setSide .., (Link.side_setSide_other _ _ hm).trans (by rw [hadv]), (Link.setSide_sent ..).trans (by rw [hadv]),
        Leaves.trans (Leaves.advance s dt (by decide)) (Leaves.onLink _ _ (by decide))⟩
  · subst hn hc
    have hadv : (advance s dt).link = s.link := advance_link ..
    have h32 := delimits_min hd
    have hle := le_ceilDiv_mul (bytesAt units 4 4) (m := 32) (by decide)
    have hk : 1 ≤ ceilDiv (bytesAt units 4 4) 32 := by omega
    have hst' : (advance s dt).link.stream m = ⟨[], false⟩ := by rw [hadv, hst]
    obtain ⟨k, hk⟩ : ∃ k, ceilDiv (bytesAt units 4 4) 32 = k + 1 := ⟨_, (Nat.sub_add_cancel hk).symm⟩
    have hrec : receiveStretch m units (advance s dt)
        = (discard (bytesAt (units.take (bytesAt units 4 4)) 8 2) (bytesAt units 4 4) (advance s dt)).onLink fun l => l.setStream m ⟨[], false⟩ := by
      rw [receiveStretch_first (k := k + 1) (by rw [hst']) (by omega), hst', receiveUnits_takes (by omega) hf hd (by omega),
        takeBytes_discards hp ht (by rw [State.obj_advance]; exact hs), hlen, List.drop_of_length_le (by omega),
        receiveUnits_short _ _ _ _ (by decide)]
    refine ⟨_, (malformedMessageRx_stretch hm hu).trans (congrArg Host.Outcome.next hrec), ?_⟩
    rw [discard_owes _ _ h1 h64]
    have hb : ((advance s dt).bump O.formatErrors 1).link = s.link := (State.bump_link ..).trans hadv
    refine ⟨Counted.of_advance (State.obj_bump_same ..), ?_, fun c hc => ?_, ?_, ?_⟩
    · refine (chan_congr (Link.setStream_rest _ _ _).1 _).trans ((onChan_chan_same ..).trans ?_)
      rw [chan_congr (congrArg Link.chans hb)]
      rfl
    · refine (chan_congr (Link.setStream_rest _ _ _).1 _).trans ((onChan_chan ..).trans ((if_neg hc).trans ?_))
      rw [chan_congr (congrArg Link.chans hb)]
    · exact (Link.setStream_rest _ _ _).2.trans ((onChan_link _ _ _).1.trans (congrArg Link.sent hb))
    · exact Leaves.trans (Leaves.trans (Leaves.advance s dt (by decide)) (Leaves.bump _ _ _ (by decide) (by decide)))
        (Leaves.trans (Leaves.onChan _ _ _ (by decide)) (Leaves.onLink _ _ (by decide)))
  · have hadv : (advance s dt).link = s.link := advance_link ..
    have hx : (advance s dt).link.stream m = s.link.stream m := by rw [hadv]
    refine ⟨_, malformedMessageRx_stretch hm hu, ?_⟩
    rw [receiveStretch_first (by rw [hx, hst]) hl, hx]
    cases hsr : (s.link.stream m).search with
    | true =>
      have hrest : ∀ i < k, findsBoundary (units.drop (32 * i)) = false := fun i hi => by
        rcases Nat.eq_zero_or_pos i with rfl | hp
        · simpa using hse hsr
        · exact hrun i hp hi
      rw [receiveUnits_run m _ hl (by omega) hrest, if_pos rfl]
      exact ⟨congrArg (fun l => Link.setStream l m _) hadv, State.obj_advance ..,
        Leaves.trans (Leaves.advance s dt (by decide)) (Leaves.onLink _ _ (by decide))⟩
    | false =>
      obtain ⟨hf, hd⟩ := hne hsr
      have hrest : ∀ i < k - 1, findsBoundary ((units.drop 32).drop (32 * i)) = false := fun i hi => by
        rw [List.drop_drop, show 32 + 32 * i = 32 * (i + 1) by omega]
        exact hrun (i + 1) (by omega) (by omega)
      rw [receiveUnits_loses (by omega) hf hd, receiveUnits_run m _ (k := k - 1) (by rw [List.length_drop]; omega) (by omega) hrest,
        if_neg (by decide)]
      exact ⟨congrArg (fun l => Link.setStream l m _) hadv, Counted.of_advance (State.obj_bump_same ..),
        Leaves.trans (Leaves.advance s dt (by decide)) (Leaves.trans (Leaves.bump _ _ _ (by decide) (by decide)) (Leaves.onLink _ _ (by decide)))⟩
  · have hadv : (advance s dt).link = s.link := advance_link ..
    have hx : (advance s dt).link.stream m = ⟨[], false⟩ := by rw [hadv, hst]
    refine ⟨_, malformedMessageRx_stretch hm hu, ?_⟩
    rw [receiveStretch_first (by rw [hx]) hl, hx, receiveUnits_waits (by omega) hf hd hlt]
    exact ⟨congrArg (fun l => Link.setStream l m _) hadv, Leaves.trans (Leaves.advance s dt (by decide)) (Leaves.onLink _ _ (by decide))⟩
  · refine ⟨(s.onLink fun l => { l with waiting := rest, indSeq := seqNext l.indSeq }).send (.indication s.link.indSeq i), ?_, rfl, rfl, rfl, rfl,
      Leaves.trans (Leaves.onLink s (fun l => { l with waiting := rest, indSeq := seqNext l.indSeq }) (by decide))
      (send_leaves _ (.indication s.link.indSeq i))⟩
    show execIndicationSend s = _
    rw [execIndicationSend, hw]
    exact if_pos hu
end

section
/-! SUPPORT. Sessions are opened, refused, resumed and closed by RESUME (04 R142 to R148). -/
namespace Sys2Proof.Machine
open Sys2Proof.Safety

/-! ## SESSION_STATE through what an acceptance does -/

/-- Every trait of a reset: nothing is asked about but objects. -/
def allTraits : List Trait := [.pending, .image, .imageBlobs, .clock, .tiles, .hod, .held, .latch, .buffer, .modules, .rtcOff, .sent, .wb, .owner,
  .courses, .ues, .supply, .slots]

theorem mem_allTraits (x : Trait) : x ∈ allTraits := by cases x <;> decide

/-- The objects that a reset decides are as they were. -/
abbrev KeepsObjs (s t : State) : Prop := Keeps allTraits [] s t

theorem KeepsObjs.of_dict {s t : State} (h : t.dict = s.dict) : KeepsObjs s t := Keeps.of_same (fun x hx => absurd (mem_allTraits x) hx) h

theorem KeepsObjs.state {s t : State} (h : KeepsObjs s t) : t.obj O.sessionState = s.obj O.sessionState :=
  h.obj _ sessionState_mem List.not_mem_nil fun hn => absurd hn (by decide)

theorem touchCache_keepsObjs (ue : Nat) (s : State) : KeepsObjs s (touchCache s ue) := by
  unfold touchCache
  dsimp only
  split
  · exact KeepsObjs.of_dict rfl
  · refine Keeps.trans (KeepsObjs.of_dict ?_) (Keeps.bump _ O.cacheMisses 1)
    rfl

theorem supersede_keepsObjs (tag : Nat) (s : State) : KeepsObjs s (supersede s tag) := by
  unfold supersede
  split
  · next o _ =>
    have h : KeepsObjs s (traceOp 8 tag o 0 o.pallets 0 (s.bump O.supersededOutputs o.pallets)) := Keeps.trans (Keeps.bump _ _ _) (Keeps.traceOp ..)
    dsimp only
    split
    · exact h.trans (Keeps.onOp ..)
    · exact (h.trans (Keeps.withdrawJob _ _)).trans (Keeps.setOps _ _)
  · exact Keeps.refl s

theorem storeData_keepsObjs (places : List (Nat × Nat)) (r : Request) (s : State) : KeepsObjs s (storeData places r s) := KeepsObjs.of_dict rfl

theorem reserveSoft_keepsObjs (key : Nat) (needs : List (Nat × Nat)) (s : State) : KeepsObjs s (reserveSoft key needs s) :=
  KeepsObjs.of_dict ((Within.start s).reserveSoft.same .dict (by decide))

theorem acceptTentative_keepsObjs (k : Claim) (outSeq : Nat) (a : Asked) (d : Desc) (s : State) : KeepsObjs s (acceptTentative k outSeq a d s) := by
  rw [acceptTentative_eq]
  have h1 : KeepsObjs s (k.ues.foldl touchCache (storeData k.places a.req s)) :=
    (storeData_keepsObjs ..).trans (Keeps.foldl _ (fun ue _ s => touchCache_keepsObjs ue s) _)
  have h2 : KeepsObjs (k.ues.foldl touchCache (storeData k.places a.req s)) (tentativeListed k outSeq a d s) := KeepsObjs.of_dict rfl
  exact ((((h1.trans h2).trans (reserveSoft_keepsObjs ..)).trans (Keeps.issueGraph ..)).trans (Keeps.resettle _))

theorem acceptRevise_keepsObjs (k : Claim) (a : Asked) (c : Course) (d : Desc) (s : State) : KeepsObjs s (acceptRevise k a c d s) := by
  rw [acceptRevise_eq]
  have h1 : KeepsObjs s (revisionStored k a c d s) :=
    ((Keeps.foldl _ (fun tag _ s => supersede_keepsObjs tag s) s).trans (storeData_keepsObjs ..)).trans
      (Keeps.foldl _ (fun ue _ s => touchCache_keepsObjs ue s) _)
  have h2 : KeepsObjs (revisionStored k a c d s) (revisionListed k a c d s) := Keeps.onCourse ..
  exact (((((h1.trans h2).trans (reserveSoft_keepsObjs ..)).trans (Keeps.sweepEntries _ (mem_allTraits _))).trans (Keeps.bump _ _ _)).trans
    (Keeps.issueGraph ..)).trans (Keeps.resettle _)

/-! ## What an acceptance leaves of the link -/

/-- Of the link nothing but the journal differs. -/
def OnlyJournal (s t : State) : Prop := t.link = { s.link with journal := t.link.journal }

namespace OnlyJournal
variable {s t u : State}

theorem of_link (h : t.link = s.link) : OnlyJournal s t := by rw [OnlyJournal, h]

theorem refl (s : State) : OnlyJournal s s := rfl

theorem trans (h1 : OnlyJournal s t) (h2 : OnlyJournal t u) : OnlyJournal s u := by
  rw [OnlyJournal] at *
  rw [h1] at h2
  exact h2

theorem foldl {α : Type} {f : State → α → State} (h : ∀ a s, OnlyJournal s (f s a)) (l : List α) (s : State) : OnlyJournal s (l.foldl f s) := by
  induction l generalizing s with
  | nil => exact refl s
  | cons a l ih => exact (h a s).trans (ih _)

theorem sent (h : OnlyJournal s t) : t.link.sent = s.link.sent := (congrArg Link.sent h).trans rfl

theorem chans (h : OnlyJournal s t) : t.link.chans = s.link.chans := (congrArg Link.chans h).trans rfl

theorem holder (h : OnlyJournal s t) : t.link.holder = s.link.holder := (congrArg Link.holder h).trans rfl

end OnlyJournal

theorem askOutcome_onlyJournal (key : Nat) (s : State) : OnlyJournal s (askOutcome key s) := by
  unfold askOutcome
  split
  · exact OnlyJournal.refl s
  · exact rfl

theorem resettle_onlyJournal (s : State) : OnlyJournal s (resettle s) :=
  ((OnlyJournal.of_link ((Within.start s).settle.same .link (by decide))).trans
    (OnlyJournal.of_link ((releaseOps_leaves (ks := []) _).1 .link (by decide)))).trans
    ((OnlyJournal.foldl (fun key s => askOutcome_onlyJournal key s) _ _).trans
      (OnlyJournal.of_link ((Within.start _).partsDone.same .link (by decide))))

theorem acceptTentative_onlyJournal (k : Claim) (outSeq : Nat) (a : Asked) (d : Desc) (s : State) : OnlyJournal s (acceptTentative k outSeq a d s) := by
  rw [acceptTentative_eq]
  refine OnlyJournal.trans (OnlyJournal.of_link ?_) (resettle_onlyJournal _)
  rw [(Within.start _).issueGraph.same .link (by decide), (Within.start _).reserveSoft.same .link (by decide), tentativeListed_link]

theorem acceptRevise_onlyJournal (k : Claim) (a : Asked) (c : Course) (d : Desc) (s : State) : OnlyJournal s (acceptRevise k a c d s) := by
  rw [acceptRevise_eq]
  refine OnlyJournal.trans (OnlyJournal.of_link ?_) (resettle_onlyJournal _)
  rw [(Within.start _).issueGraph.same .link (by decide), State.bump_link, (Within.start _).sweepEntries.same .link (by decide),
    (Within.start _).reserveSoft.same .link (by decide), revisionListed_link]

theorem cancelCourse_onlyJournal (key : Nat) (s : State) : OnlyJournal s (cancelCourse key s) := by
  have hl : (dropOps key ((endCourse key s).onCourse key fun c => { c with cancelled := true })).link = s.link :=
    ((dropOps_leaves ..).1 .link (by decide)).trans ((State.onCourse_link ..).trans ((endCourse_leaves key s).1 .link (by decide)))
  exact (OnlyJournal.of_link hl).trans (askOutcome_onlyJournal ..)

/-! ## Messages sent again -/

/-- Messages are sent again: none that was sent is lost, the session and its holder stay, and of a channel's accounts nothing but the host's
credit moves, downwards. -/
structure Resends (s t : State) : Prop where
  sent : s.link.sent <+: t.link.sent
  holder : t.link.holder = s.link.holder
  state : t.obj O.sessionState = s.obj O.sessionState
  chan : ∀ c, (t.chan c).grant = (s.chan c).grant ∧ (t.chan c).owed = (s.chan c).owed ∧ (t.chan c).nextReq = (s.chan c).nextReq
    ∧ (t.chan c).hostCredits ≤ (s.chan c).hostCredits

namespace Resends
variable {s t u : State}

theorem refl (s : State) : Resends s s := ⟨List.prefix_refl _, rfl, rfl, fun _ => ⟨rfl, rfl, rfl, Nat.le_refl _⟩⟩

theorem trans (h1 : Resends s t) (h2 : Resends t u) : Resends s u := by
  refine ⟨h1.sent.trans h2.sent, h2.holder.trans h1.holder, h2.state.trans h1.state, fun c => ?_⟩
  obtain ⟨a1, a2, a3, a4⟩ := h1.chan c
  obtain ⟨b1, b2, b3, b4⟩ := h2.chan c
  exact ⟨b1.trans a1, b2.trans a2, b3.trans a3, b4.trans a4⟩

theorem foldl {α : Type} {f : State → α → State} (h : ∀ a s, Resends s (f s a)) (l : List α) (s : State) : Resends s (l.foldl f s) := by
  induction l generalizing s with
  | nil => exact refl s
  | cons a l ih => exact (h a s).trans (ih _)

theorem of_journal (h : OnlyJournal s t) (hs : t.obj O.sessionState = s.obj O.sessionState) : Resends s t :=
  ⟨by rw [h.sent], h.holder, hs, fun c => by rw [chan_congr h.chans]; exact ⟨rfl, rfl, rfl, Nat.le_refl _⟩⟩

theorem send (s : State) (m : Sent) : Resends s (s.send m) :=
  ⟨List.prefix_append _ _, rfl, State.obj_send .., fun _ => ⟨rfl, rfl, rfl, Nat.le_refl _⟩⟩

/-- A change of a channel that leaves its accounts, but for the host's credit. -/
theorem onChan (s : State) (c : Nat) {f : Channel → Channel} (h : ∀ ch, (f ch).grant = ch.grant ∧ (f ch).owed = ch.owed
    ∧ (f ch).nextReq = ch.nextReq ∧ (f ch).hostCredits ≤ ch.hostCredits) : Resends s (s.onChan c f) := by
  refine ⟨List.prefix_refl _, rfl, State.onChan_obj .., fun j => ?_⟩
  rw [onChan_chan]
  split
  · next hj => exact hj ▸ h (s.chan c)
  · exact ⟨rfl, rfl, rfl, Nat.le_refl _⟩

end Resends

theorem acceptRequest_resends (k : Claim) (outSeq : Nat) (a : Asked) (s : State) : Resends s (acceptRequest k outSeq a s) := by
  unfold acceptRequest
  split
  · exact Resends.of_journal (acceptTentative_onlyJournal ..) (acceptTentative_keepsObjs ..).state
  · exact Resends.of_journal (acceptRevise_onlyJournal ..) (acceptRevise_keepsObjs ..).state
  · split
    · have hb := bindCourse_leaves a.key true s (ks := [])
      exact Resends.of_journal (OnlyJournal.of_link (hb.1 .link (by decide))) (hb.2 _ List.not_mem_nil)
    · exact Resends.refl s
  · refine Resends.of_journal (cancelCourse_onlyJournal ..) ((cancelCourse_leaves a.key s).2 _ ?_)
    simp only [cancelKeys, O.sessionState, O.loadUpdates, O.cancelledJobs, O.iterations, List.mem_cons, List.not_mem_nil, or_false]
    omega
  · exact Resends.refl s

theorem sendVerdict_resends (chan : Nat) (v : Verdict) (again : Bool) (s : State) : Resends s (sendVerdict chan v again s) := by
  have h1 : Resends s ((s.onChan chan fun c =>
      { c with lastVerdict := v.seq, claims := c.claims.filter fun k => k.req.hdr.seq != v.seq }).send (.verdict chan v again)) := by
    refine Resends.trans (Resends.onChan s chan ?_) (Resends.send _ _)
    exact fun _ => ⟨rfl, rfl, rfl, Nat.le_refl _⟩
  unfold sendVerdict
  dsimp only
  split
  · exact h1.trans (acceptRequest_resends ..)
  · exact h1

theorem endCourse_resends (key : Nat) (s : State) : Resends s (endCourse key s) := by
  have h := endCourse_leaves key s
  refine Resends.of_journal (OnlyJournal.of_link (h.1 .link (by decide))) (h.2 _ ?_)
  simp only [O.sessionState, O.loadUpdates, List.mem_singleton]
  omega

theorem outcomeSent_resends (chan : Nat) (o : Outcome) (s : State) : Resends s (outcomeSent chan o s) := by
  refine Resends.trans (Resends.onChan s chan ?_) (Resends.send _ _)
  exact fun _ => ⟨rfl, rfl, rfl, Nat.sub_le _ _⟩

theorem sendOutcome_resends (chan : Nat) (s : State) : Resends s (sendOutcome chan s) := by
  unfold sendOutcome
  dsimp only
  split
  · split
    · next o _ _ => exact (outcomeSent_resends chan o s).trans (endCourse_resends _ _)
    · exact Resends.refl s
  · exact Resends.refl s

theorem sendOutcomes_resends (k chan : Nat) (s : State) : Resends s (sendOutcomes k chan s) := by
  induction k generalizing s with
  | zero => exact Resends.refl s
  | succ k ih => exact (sendOutcome_resends chan s).trans (ih _)

theorem replayChannel_resends (i : Nat × ResumeEntry) (s : State) : Resends s (replayChannel s i) :=
  (Resends.foldl (fun v s => sendVerdict_resends i.1 v true s) _ s).trans (sendOutcomes_resends _ _ _)

/-! ## Each channel takes its entry -/

theorem ackTo_chan_other {chan j : Nat} (seq : Nat) (s : State) (h : j ≠ chan) : (ackTo chan seq s).chan j = s.chan j := by
  rw [ackTo_eq, chan_congr (congrArg Link.chans ((closeAcked_leaves chan _ _ (ks := [])).1 .link (by decide))), ackedChan, onChan_chan, if_neg h]

theorem ackTo_nextReq (chan seq : Nat) (s : State) : ((ackTo chan seq s).chan chan).nextReq = (s.chan chan).nextReq := by
  rw [ackTo_eq, chan_congr (congrArg Link.chans ((closeAcked_leaves chan _ _ (ks := [])).1 .link (by decide))), ackedChan, onChan_chan_same]

theorem ackTo_kept (chan seq : Nat) (s : State) : (ackTo chan seq s).link.sent = s.link.sent ∧ (ackTo chan seq s).link.holder = s.link.holder := by
  have h := closeAcked_leaves chan (ackedOutcomes chan seq s) (ackedChan chan seq (ackedOutcomes chan seq s) s) (ks := [])
  rw [ackTo_eq, h.1 .link (by decide)]
  exact ⟨rfl, rfl⟩

/-- The state in which a channel has let go what its entry acknowledges. -/
def entryAcked (i : Nat × ResumeEntry) (s : State) : State :=
  if seqNotLater i.2.acked (s.chan i.1).lastAcked then s else ackTo i.1 i.2.acked s

/-- A channel with both accounts restarted. -/
def restarted (g : Nat) (e : ResumeEntry) (c : Channel) : Channel :=
  { c with hostCredits := e.credits, grant := g, owed := 0, sendNext := seqNext c.lastAcked, takeover := false
           lastReq := seqPrev c.nextReq, replay := c.outcomes.map (·.seq) }

theorem restarted_fields (g : Nat) (e : ResumeEntry) (c : Channel) : (restarted g e c).grant = g ∧ (restarted g e c).owed = 0
    ∧ (restarted g e c).hostCredits = e.credits ∧ (restarted g e c).nextReq = c.nextReq := ⟨rfl, rfl, rfl, rfl⟩

theorem onChan_holder (s : State) (c : Nat) (f : Channel → Channel) : (s.onChan c f).link.holder = s.link.holder := rfl

theorem resumeChannel_eq (g : Nat) (i : Nat × ResumeEntry) (s : State) :
    resumeChannel g s i = (entryAcked i s).onChan i.1 (restarted g i.2) := rfl

theorem entryAcked_chan_other {i : Nat × ResumeEntry} {s : State} {j : Nat} (h : j ≠ i.1) : (entryAcked i s).chan j = s.chan j := by
  unfold entryAcked
  split
  · rfl
  · exact ackTo_chan_other _ _ h

theorem entryAcked_nextReq (i : Nat × ResumeEntry) (s : State) : ((entryAcked i s).chan i.1).nextReq = (s.chan i.1).nextReq := by
  unfold entryAcked
  split
  · rfl
  · exact ackTo_nextReq ..

theorem entryAcked_kept (i : Nat × ResumeEntry) (s : State) : (entryAcked i s).link.sent = s.link.sent
    ∧ (entryAcked i s).link.holder = s.link.holder := by
  unfold entryAcked
  split
  · exact ⟨rfl, rfl⟩
  · exact ⟨(ackTo_kept ..).1, (ackTo_kept ..).2⟩

theorem resumeChannel_chan_other {g : Nat} {i : Nat × ResumeEntry} {s : State} {j : Nat} (h : j ≠ i.1) : (resumeChannel g s i).chan j = s.chan j := by
  rw [resumeChannel_eq, onChan_chan, if_neg h, entryAcked_chan_other h]

theorem resumeChannel_chan (g : Nat) (i : Nat × ResumeEntry) (s : State) : ((resumeChannel g s i).chan i.1).grant = g
    ∧ ((resumeChannel g s i).chan i.1).owed = 0 ∧ ((resumeChannel g s i).chan i.1).hostCredits = i.2.credits
    ∧ ((resumeChannel g s i).chan i.1).nextReq = (s.chan i.1).nextReq := by
  obtain ⟨h1, h2, h3, h4⟩ := restarted_fields g i.2 ((entryAcked i s).chan i.1)
  rw [resumeChannel_eq, onChan_chan_same, h1, h2, h3, h4]
  exact ⟨rfl, rfl, rfl, entryAcked_nextReq i s⟩

theorem resumeChannel_kept (g : Nat) (i : Nat × ResumeEntry) (s : State) : (resumeChannel g s i).link.sent = s.link.sent
    ∧ (resumeChannel g s i).link.holder = s.link.holder := by
  rw [resumeChannel_eq, (onChan_link _ _ _).1, onChan_holder]
  exact entryAcked_kept i s

/-- The state in which every channel has taken its entry. -/
def entriesTaken (l : List (Nat × ResumeEntry)) (g : Nat) (s : State) : State := l.foldl (resumeChannel g) s

theorem entriesTaken_cons (e : Nat × ResumeEntry) (l : List (Nat × ResumeEntry)) (g : Nat) (s : State) :
    entriesTaken (e :: l) g s = entriesTaken l g (resumeChannel g s e) := List.foldl_cons ..

theorem entriesTaken_chan_other {l : List (Nat × ResumeEntry)} {j : Nat} (h : ∀ e ∈ l, j ≠ e.1) (g : Nat) (s : State) :
    (entriesTaken l g s).chan j = s.chan j := by
  induction l generalizing s with
  | nil => rfl
  | cons e l ih =>
    obtain ⟨he, hl⟩ := List.forall_mem_cons.mp h
    rw [entriesTaken_cons, ih hl, resumeChannel_chan_other he]

theorem entriesTaken_chan {l : List (Nat × ResumeEntry)} (hn : l.Pairwise fun a b => a.1 ≠ b.1) {e : Nat × ResumeEntry} (he : e ∈ l) (g : Nat)
    (s : State) : ((entriesTaken l g s).chan e.1).grant = g ∧ ((entriesTaken l g s).chan e.1).owed = 0
      ∧ ((entriesTaken l g s).chan e.1).hostCredits = e.2.credits ∧ ((entriesTaken l g s).chan e.1).nextReq = (s.chan e.1).nextReq := by
  induction l generalizing s with
  | nil => exact absurd he List.not_mem_nil
  | cons a l ih =>
    rw [entriesTaken_cons]
    obtain ⟨ha, hl⟩ := List.pairwise_cons.mp hn
    rcases List.mem_cons.mp he with rfl | he
    · rw [entriesTaken_chan_other (fun b hb => ha b hb) g (resumeChannel g s e)]
      exact resumeChannel_chan g e s
    · rw [← resumeChannel_chan_other (g := g) (s := s) (ha e he).symm]
      exact ih hl he (resumeChannel g s a)

theorem entriesTaken_kept (l : List (Nat × ResumeEntry)) (g : Nat) (s : State) : (entriesTaken l g s).link.sent = s.link.sent
    ∧ (entriesTaken l g s).link.holder = s.link.holder :=
  ⟨foldl_proj (fun t : State => t.link.sent) (f := resumeChannel g) (fun i s => (resumeChannel_kept g i s).1) l s,
    foldl_proj (fun t : State => t.link.holder) (f := resumeChannel g) (fun i s => (resumeChannel_kept g i s).2) l s⟩

theorem numbered_distinct (entries : List ResumeEntry) : (numbered entries).Pairwise fun a b => a.1 ≠ b.1 := by
  unfold numbered
  rw [List.pairwise_map]
  refine List.Pairwise.imp (fun {a b} (hab : a < b) => ?_) List.pairwise_lt_range
  show a + 1 ≠ b + 1
  omega

theorem mem_numbered (entries : List ResumeEntry) {i : Nat} (h : i < 64) : (i + 1, entries.getD i ⟨0, 0, 0⟩) ∈ numbered entries :=
  List.mem_map.mpr ⟨i, List.mem_range.mpr h, rfl⟩

/-! ## What RESUME does -/

theorem takeResume_ready {dt seq mode hostId : Nat} {entries : List ResumeEntry} {s : State} (h : s.ready = true) :
    takeResume dt seq mode hostId entries s = handleResume seq mode hostId entries (advance s dt) :=
  if_pos ((State.ready_advance ..).trans h)

/-- The reply to a RESUME. -/
def replyOf (seq : Nat) (r : Reason) (bad : Nat) (figures : Bool) (s : State) : ResumeReply :=
  ⟨seq, r, s.nat O.sessionState, s.link.cause, s.link.holder, bad,
    (List.range 64).map fun i => if figures then replyEntry s (i + 1) else ⟨0, 0, 0⟩⟩

theorem resumeReply_eq (seq : Nat) (r : Reason) (bad : Nat) (figures : Bool) (s : State) :
    resumeReply seq r bad figures s = s.send (.resumeReply (replyOf seq r bad figures s)) := rfl

theorem replyOf_fields (seq : Nat) (r : Reason) (bad : Nat) (figures : Bool) (s : State) : (replyOf seq r bad figures s).seq = seq
    ∧ (replyOf seq r bad figures s).reason = r ∧ (replyOf seq r bad figures s).state = s.nat O.sessionState
    ∧ (replyOf seq r bad figures s).holder = s.link.holder ∧ (replyOf seq r bad figures s).badChan = bad := ⟨rfl, rfl, rfl, rfl, rfl⟩

theorem send_holder (s : State) (m : Sent) : (s.send m).link.holder = s.link.holder := rfl

theorem handleResume_opens {seq hostId : Nat} {entries : List ResumeEntry} {s : State} (hn : hostId ≠ 0) (h0 : s.obj O.sessionState = 0) :
    handleResume seq 0 hostId entries s = resumeReply seq .ok 0 true (openSession hostId entries s) := by
  unfold handleResume
  rw [if_neg (by simp [hn]), if_pos (by rw [h0]; rfl), if_pos (by decide)]

theorem handleResume_locked {seq mode hostId : Nat} {entries : List ResumeEntry} {s : State} (hm : mode ≤ 2) (hn : hostId ≠ 0)
    (h0 : s.obj O.sessionState ≠ 0) (hh : hostId ≠ s.link.holder) :
    handleResume seq mode hostId entries s = resumeReply seq .locked 0 false (s.bump O.lockedAttempts 1) := by
  unfold handleResume
  rw [if_neg (by simp [hn, hm]), if_neg (by simpa using h0), if_pos (by simpa using hh)]

theorem handleResume_closes {seq : Nat} {entries : List ResumeEntry} {s : State} (hn : s.link.holder ≠ 0) (h0 : s.obj O.sessionState ≠ 0) :
    handleResume seq 2 s.link.holder entries s = resumeReply seq .ok 0 false (closeSession s) := by
  unfold handleResume
  rw [if_neg (by simp [hn]), if_neg (by simpa using h0), if_neg (by simp), if_pos (by decide)]

theorem handleResume_resumes {seq : Nat} {entries : List ResumeEntry} {s : State} (hn : s.link.holder ≠ 0) (h0 : s.obj O.sessionState ≠ 0) :
    handleResume seq 1 s.link.holder entries s = resumeSession seq entries s := by
  unfold handleResume
  rw [if_neg (by simp [hn]), if_neg (by simpa using h0), if_neg (by simp), if_neg (by decide), if_neg (by decide)]

/-! ## A session opens -/

/-- A channel as a new session has it. -/
def openedChannel (l : Link) (grant i : Nat) (entries : List ResumeEntry) : Channel :=
  { Channel.fresh with module := moduleFor l (i + 1), grant := grant, hostCredits := ((entries[i]?).map (·.credits)).getD 0 }

/-- The link as a new session has it, before its channels. -/
def openedFor (hostId map : Nat) (l : Link) : Link := { l with holder := hostId, cause := 0, suspended := 0, map := map, indSeq := 1 }

/-- The link as a new session has it. -/
def openedLink (hostId map grant : Nat) (entries : List ResumeEntry) (l : Link) : Link :=
  { openedFor hostId map l with chans := (List.range 64).map fun i => (i + 1, openedChannel (openedFor hostId map l) grant i entries) }

theorem openSession_eq (hostId : Nat) (entries : List ResumeEntry) (s : State) : openSession hostId entries s
    = ((s.onLink (openedLink hostId (s.nat O.moduleMap) (s.nat O.creditGrant) entries)).setObj O.sessionState 1).setBlob O.hostId (leBytes 16 hostId) := rfl

theorem openedLink_fields (hostId map grant : Nat) (entries : List ResumeEntry) (l : Link) : (openedLink hostId map grant entries l).holder = hostId
    ∧ (openedLink hostId map grant entries l).indSeq = 1 ∧ (openedLink hostId map grant entries l).sent = l.sent := ⟨rfl, rfl, rfl⟩

theorem find_map_succ {α : Type} (f : Nat → α) (l : List Nat) {j : Nat} (h : j ∈ l) : Store.find (l.map fun i => (i + 1, f i)) (j + 1) = some (f j) := by
  induction l with
  | nil => exact absurd h List.not_mem_nil
  | cons a l ih =>
    rw [List.map_cons, Store.find]
    split
    · next he => rw [Nat.succ.inj he]
    · next he => exact ih ((List.mem_cons.mp h).resolve_left fun h => he (by rw [h]))

theorem openedLink_chan {hostId map grant : Nat} {entries : List ResumeEntry} {l : Link} {i : Nat} (h : i < 64) :
    Store.at .fresh (openedLink hostId map grant entries l).chans (i + 1) = openedChannel (openedFor hostId map l) grant i entries := by
  have hf : Store.find (openedLink hostId map grant entries l).chans (i + 1) = _ :=
    find_map_succ (fun i => openedChannel (openedFor hostId map l) grant i entries) (List.range 64) (List.mem_range.mpr h)
  rw [Store.at, hf]
  rfl

theorem openSession_link (hostId : Nat) (entries : List ResumeEntry) (s : State) :
    (openSession hostId entries s).link = openedLink hostId (s.nat O.moduleMap) (s.nat O.creditGrant) entries s.link := rfl

theorem openSession_state (hostId : Nat) (entries : List ResumeEntry) (s : State) : (openSession hostId entries s).obj O.sessionState = 1 := by
  rw [openSession_eq, State.obj_setBlob, State.obj_setObj_same]

theorem openSession_leaves (hostId : Nat) (entries : List ResumeEntry) (s : State) :
    Leaves s (openSession hostId entries s) [.dict, .blobs, .link] [O.sessionState] := by
  rw [openSession_eq]
  exact Leaves.trans (Leaves.trans (Leaves.onLink _ _ (by decide)) (Leaves.setObj _ _ _ (by decide) (by decide))) (Leaves.setBlob _ _ _ (by decide))

/-! ## A session is resumed -/

/-- The state in which a resumption finds the session: what was in progress in an ACTIVE one is discarded. -/
def atResume (s : State) : State := if s.obj O.sessionState == 1 then discardIncomplete s else s

theorem resumeSession_eq (seq : Nat) (entries : List ResumeEntry) (s : State) :
    resumeSession seq entries s = resumeAnswer seq entries (firstMisfit entries (atResume s)) (atResume s) := rfl

/-- A channel as the discard of what is in progress leaves it. -/
def discarded (c : Channel) : Channel :=
  match c.req with
  | some r => { c with req := none, owed := c.owed + r.cost }
  | none => c

theorem discarded_kept (c : Channel) : (discarded c).nextReq = c.nextReq ∧ (discarded c).lastSent = c.lastSent ∧ (discarded c).lastAcked = c.lastAcked
    ∧ (discarded c).lastVerdict = c.lastVerdict ∧ (discarded c).verdicts = c.verdicts := by
  unfold discarded
  split <;> exact ⟨rfl, rfl, rfl, rfl, rfl⟩

theorem discardIncomplete_chan (s : State) (j : Nat) : (discardIncomplete s).chan j = discarded (s.chan j) := by
  have hm : (discardIncomplete s).link.chans = s.link.chans.map fun e => (e.1, discarded e.2) := rfl
  rw [State.chan, Store.at, hm, find_map_same, State.chan, Store.at]
  cases Store.find s.link.chans j with
  | none => rfl
  | some c => rfl

theorem resumeFits_discarded (s : State) (j : Nat) (e : ResumeEntry) : resumeFits (discardIncomplete s) j e = resumeFits s j e := by
  obtain ⟨-, h2, h3, h4, h5⟩ := discarded_kept (s.chan j)
  unfold resumeFits keptAfter
  dsimp only
  rw [discardIncomplete_chan, h2, h3, h4, h5]

theorem firstMisfit_atResume (entries : List ResumeEntry) (s : State) : firstMisfit entries (atResume s) = firstMisfit entries s := by
  unfold atResume
  split
  · unfold firstMisfit
    simp only [resumeFits_discarded]
  · rfl

theorem firstMisfit_congr {s t : State} (h : t.link.chans = s.link.chans) (entries : List ResumeEntry) : firstMisfit entries t = firstMisfit entries s := by
  unfold firstMisfit resumeFits
  simp only [chan_congr h]

theorem atResume_leaves (s : State) {ks : List Nat} : Leaves s (atResume s) [.link] ks :=
  Leaves.ite _ (Leaves.onLink _ _ (by decide)) (Leaves.refl ..)

theorem atResume_link (s : State) : (atResume s).link.sent = s.link.sent ∧ (atResume s).link.holder = s.link.holder := by
  unfold atResume
  split <;> exact ⟨rfl, rfl⟩

theorem atResume_nextReq (s : State) (j : Nat) : ((atResume s).chan j).nextReq = (s.chan j).nextReq := by
  unfold atResume
  split
  · rw [discardIncomplete_chan]
    exact (discarded_kept _).1
  · rfl

/-- The state in which the channels of a session that is resumed have taken their entries and the reply waits. -/
def resumedAt (entries : List ResumeEntry) (s : State) : State :=
  (entriesTaken (numbered entries) ((s.onLink creditsGone).nat O.creditGrant) (s.onLink creditsGone)).setObj O.sessionState 1

theorem resumeAnswer_ok (seq : Nat) (entries : List ResumeEntry) (s : State) : resumeAnswer seq entries none s
    = (numbered entries).foldl replayChannel (resumeReply seq .ok 0 true (resumedAt entries s)) := rfl

theorem resumeAnswer_bad (seq : Nat) (entries : List ResumeEntry) (e : Nat × ResumeEntry) (s : State) :
    resumeAnswer seq entries (some e) s = resumeReply seq .sequenceRange e.1 true s := rfl

theorem creditsGone_link (s : State) : (s.onLink creditsGone).link.chans = s.link.chans ∧ (s.onLink creditsGone).link.holder = s.link.holder
    ∧ ((s.onLink creditsGone).nat O.creditGrant = s.nat O.creditGrant) := ⟨rfl, rfl, rfl⟩

theorem resumedAt_chan {entries : List ResumeEntry} {i : Nat} (h : i < 64) (s : State) : ((resumedAt entries s).chan (i + 1)).grant = s.nat O.creditGrant
    ∧ ((resumedAt entries s).chan (i + 1)).owed = 0
    ∧ ((resumedAt entries s).chan (i + 1)).hostCredits = (entries.getD i ⟨0, 0, 0⟩).credits
    ∧ ((resumedAt entries s).chan (i + 1)).nextReq = (s.chan (i + 1)).nextReq := by
  obtain ⟨g1, -, g3⟩ := creditsGone_link s
  have h := entriesTaken_chan (numbered_distinct entries) (mem_numbered entries h) ((s.onLink creditsGone).nat O.creditGrant) (s.onLink creditsGone)
  rw [chan_congr g1] at h
  rw [resumedAt, chan_congr (congrArg Link.chans (State.setObj_link ..))]
  rw [g3] at h ⊢
  exact h

theorem resumedAt_link (entries : List ResumeEntry) (s : State) : (resumedAt entries s).link.holder = s.link.holder := by
  rw [resumedAt, State.setObj_link, (entriesTaken_kept _ _ _).2, (creditsGone_link s).2.1]

/-- The parts that a resumption may change. -/
def resumeParts : List Part := [.dict, .blobs, .link, .svc, .pipe, .sched, .kiln, .wb, .mem]

theorem resumeAnswer_same (seq : Nat) (entries : List ResumeEntry) (s : State) : SameBut s (resumeAnswer seq entries none s) resumeParts := by
  have h1 : SameBut s (s.onLink creditsGone) resumeParts := (Leaves.onLink (ks := []) s creditsGone (by decide)).1
  have h2 : SameBut (s.onLink creditsGone) (resumeChannels entries seq (s.onLink creditsGone)) resumeParts :=
    SameBut.mono (fun p hp => (Within.start (s.onLink creditsGone)).resumeChannels.same p hp) (by decide)
  exact SameBut.trans h1 h2

theorem resumedAt_state (entries : List ResumeEntry) (s : State) : (resumedAt entries s).obj O.sessionState = 1 := State.obj_setObj_same ..

theorem replayed_resends (seq : Nat) (entries : List ResumeEntry) (s : State) : Resends (resumedAt entries s)
    ((numbered entries).foldl replayChannel (resumeReply seq .ok 0 true (resumedAt entries s))) := by
  rw [resumeReply_eq]
  exact (Resends.send _ _).trans (Resends.foldl (fun i s => replayChannel_resends i s) _ _)

theorem replayed_reply (seq : Nat) (entries : List ResumeEntry) (s : State) : Sent.resumeReply (replyOf seq .ok 0 true (resumedAt entries s))
    ∈ ((numbered entries).foldl replayChannel (resumeReply seq .ok 0 true (resumedAt entries s))).link.sent := by
  rw [resumeReply_eq]
  refine (Resends.foldl (fun i s => replayChannel_resends i s) (numbered entries) _).sent.subset ?_
  rw [(send_link _ _).1]
  exact List.mem_append_right _ (List.mem_singleton_self _)

end Sys2Proof.Machine
open Sys2Proof Sys2Proof.Machine Sys2Proof.Safety

/-- Settles O14: what is sent again in a resumption moves no account but the host's credit (`Resends`). -/
theorem sessions : Obligations.Sessions := by
  unfold Obligations.Sessions
  refine ⟨fun dt seq hostId credits s hr hn h0 => ?_, fun dt seq hostId credits s hr hn h0 hh => ?_, fun dt seq entries s hr hn h0 hf => ?_,
    fun dt seq entries bad s hr hn h0 hf => ?_, fun dt seq s hr hn h0 => ?_⟩
  · have hnat (k : Nat) : (advance s dt).nat k = s.nat k := congrArg Int.toNat (State.obj_advance ..)
    have hadv : (advance s dt).link = s.link := advance_link ..
    have hl := openSession_leaves hostId (credits.map fun c => ⟨0, 0, c⟩) (advance s dt)
    have hlink := openSession_link hostId (credits.map fun c => ⟨0, 0, c⟩) (advance s dt)
    obtain ⟨o1, o2, o3⟩ := openedLink_fields hostId (s.nat O.moduleMap) (s.nat O.creditGrant) (credits.map fun c => ⟨0, 0, c⟩) s.link
    rw [hnat, hnat, hadv] at hlink
    have hst := openSession_state hostId (credits.map fun c => ⟨0, 0, c⟩) (advance s dt)
    obtain ⟨r1, r2, r3, r4, -⟩ := replyOf_fields seq .ok 0 true (openSession hostId (credits.map fun c => ⟨0, 0, c⟩) (advance s dt))
    refine ⟨_, congrArg Host.Outcome.next ((takeResume_ready hr).trans (handleResume_opens (entries := credits.map fun c => ⟨0, 0, c⟩) hn
      ((State.obj_advance ..).trans h0))), ?_, ?_, ?_, ?_,
      fun i hi => ?_, ⟨_, ?_, r1, r2, r3.trans (congrArg Int.toNat hst), ?_⟩, ?_⟩
    · exact (State.obj_send ..).trans hst
    · rw [resumeReply_eq, send_holder, hlink, o1]
    · exact State.blob_setBlob_same ..
    · show (openSession hostId (credits.map fun c => ⟨0, 0, c⟩) (advance s dt)).link.indSeq = 1
      rw [hlink, o2]
    · rw [resumeReply_eq, chan_congr (send_link _ _).2.2, State.chan, hlink, openedLink_chan hi, openedChannel]
      have hc : (((credits.map fun c => (⟨0, 0, c⟩ : ResumeEntry))[i]?).map (·.credits)).getD 0 = credits.getD i 0 := by
        rw [List.getElem?_map, Option.map_map, List.getD_eq_getElem?_getD]
        cases credits[i]? <;> rfl
      rw [hc]
      rfl
    · rw [resumeReply_eq, (send_link _ _).1, hlink, o3]
    · rw [r4, hlink, o1]
    · exact Leaves.trans (Leaves.trans (Leaves.advance s dt (by decide)) (Leaves.mono hl (by decide) (fun _ h => h)))
        (Leaves.mono (send_leaves _ _ (ks := [])) (by decide) nofun)
  · have hadv : (advance s dt).link = s.link := advance_link ..
    have hb : ((advance s dt).bump O.lockedAttempts 1).link = s.link := (State.bump_link ..).trans hadv
    obtain ⟨r1, r2, -, r4, -⟩ := replyOf_fields seq .locked 0 false ((advance s dt).bump O.lockedAttempts 1)
    refine ⟨_, congrArg Host.Outcome.next ((takeResume_ready hr).trans (handleResume_locked (by decide) hn
      (by rw [State.obj_advance]; exact h0) (by rw [hadv]; exact hh))), ?_, ?_, ?_, ⟨_, ?_, r1, r2, ?_⟩, ?_⟩
    · exact Counted.of_advance ((State.obj_send ..).trans (State.obj_bump_same ..))
    · rw [resumeReply_eq, send_holder, hb]
    · rw [resumeReply_eq, (send_link _ _).2.2, hb]
    · rw [resumeReply_eq, (send_link _ _).1, hb]
    · rw [r4, hb]
    · exact Leaves.trans (Leaves.trans (Leaves.advance s dt (by decide)) (Leaves.bump _ _ _ (by decide) (by decide)))
        (Leaves.mono (send_leaves _ _ (ks := [])) (by decide) nofun)
  · have hadv : (advance s dt).link = s.link := advance_link ..
    have hm : firstMisfit entries (atResume (advance s dt)) = none := by
      rw [firstMisfit_atResume, firstMisfit_congr (congrArg Link.chans hadv), hf]
    have hexec : exec (.resumeModeResume dt seq s.link.holder entries) s
        = .next ((numbered entries).foldl replayChannel (resumeReply seq .ok 0 true (resumedAt entries (atResume (advance s dt))))) := by
      refine congrArg Host.Outcome.next ((takeResume_ready hr).trans ?_)
      rw [← hadv, handleResume_resumes (by rw [hadv]; exact hn) (by rw [State.obj_advance]; exact h0), resumeSession_eq, hm, resumeAnswer_ok]
    have hq := replayed_resends seq entries (atResume (advance s dt))
    obtain ⟨r1, r2, -, -, r5⟩ := replyOf_fields seq .ok 0 true (resumedAt entries (atResume (advance s dt)))
    refine ⟨_, hexec, hq.state.trans (resumedAt_state ..), ?_, ⟨_, replayed_reply .., r1, r2, r5⟩, fun i hi => ?_, ?_⟩
    · rw [hq.holder, resumedAt_link, (atResume_link _).2, hadv]
    · obtain ⟨c1, c2, c3, c4⟩ := hq.chan (i + 1)
      obtain ⟨d1, d2, d3, d4⟩ := resumedAt_chan (entries := entries) hi (atResume (advance s dt))
      have hg : (atResume (advance s dt)).nat O.creditGrant = s.nat O.creditGrant :=
        congrArg Int.toNat (((atResume_leaves _ (ks := [])).2 _ List.not_mem_nil).trans (State.obj_advance ..))
      rw [d1, hg] at c1
      rw [d2] at c2
      rw [d3] at c4
      rw [d4, atResume_nextReq, advance_chan] at c3
      exact ⟨c1, c2, c3, c4⟩
    · have h1 : SameBut s (atResume (advance s dt)) (.link :: timeParts) :=
        SameBut.trans (Leaves.advance s dt (ks := []) (by decide)).1 (SameBut.mono (atResume_leaves (advance s dt) (ks := [])).1 (by decide))
      refine SameBut.trans (SameBut.mono h1 (by decide)) ?_
      rw [← resumeAnswer_ok]
      exact SameBut.mono (resumeAnswer_same seq entries _) (by decide)
  · have hadv : (advance s dt).link = s.link := advance_link ..
    have hm : firstMisfit entries (atResume (advance s dt)) = some bad := by
      rw [firstMisfit_atResume, firstMisfit_congr (congrArg Link.chans hadv), hf]
    have hexec : exec (.resumeModeResume dt seq s.link.holder entries) s
        = .next (resumeReply seq .sequenceRange bad.1 true (atResume (advance s dt))) := by
      refine congrArg Host.Outcome.next ((takeResume_ready hr).trans ?_)
      rw [← hadv, handleResume_resumes (by rw [hadv]; exact hn) (by rw [State.obj_advance]; exact h0), resumeSession_eq, hm, resumeAnswer_bad]
    obtain ⟨r1, r2, -, -, r5⟩ := replyOf_fields seq .sequenceRange bad.1 true (atResume (advance s dt))
    refine ⟨_, hexec, ?_, ⟨_, ?_, r1, r2, r5⟩, ?_⟩
    · exact (State.obj_send ..).trans (((atResume_leaves _ (ks := [])).2 _ List.not_mem_nil).trans (State.obj_advance ..))
    · rw [resumeReply_eq, (send_link _ _).1, (atResume_link _).1, hadv]
    · exact Leaves.trans (Leaves.advance s dt (by decide))
        (Leaves.trans (Leaves.mono (atResume_leaves _ (ks := [])) (by decide) nofun) (Leaves.mono (send_leaves _ _ (ks := [])) (by decide) nofun))
  · have hadv : (advance s dt).link = s.link := advance_link ..
    obtain ⟨l1, l2, l3⟩ := closeSession_link (advance s dt)
    obtain ⟨r1, r2, r3, -⟩ := replyOf_fields seq .ok 0 false (closeSession (advance s dt))
    have hexec : exec (.resumeClose dt seq 2 s.link.holder) s = .next (resumeReply seq .ok 0 false (closeSession (advance s dt))) := by
      refine congrArg Host.Outcome.next ((takeResume_ready hr).trans ?_)
      rw [← hadv, handleResume_closes (by rw [hadv]; exact hn) (by rw [State.obj_advance]; exact h0)]
    refine ⟨_, hexec, ?_, ?_, ?_, ?_, ⟨_, ?_, r1, r2, ?_⟩, ?_⟩
    · exact (State.obj_send ..).trans (closeSession_state _)
    · rw [resumeReply_eq, send_holder, l1]
    · rw [resumeReply_eq, (send_link _ _).2.2, l2]
    · exact closeSession_hostId _
    · rw [resumeReply_eq, (send_link _ _).1, l3, hadv]
    · exact r3.trans (congrArg Int.toNat (closeSession_state _))
    · exact SameBut.mono (fun p hp => (((Within.start s).advance).closeSession.resumeReply).same p hp) (by decide)
end

section
/-! SUPPORT. Engines that fault (17 R572, R573, Table 17-4): what a class of engines does whose bits are its own, and what follows a fault. -/
namespace Sys2Proof.Machine
open Sys2Proof.Safety

/-! ## One bit of a mask -/

theorem setBit_around (v n : Nat) (b : Bool) : setBit v n b / 2 ^ (n + 1) = v / 2 ^ (n + 1) ∧ setBit v n b % 2 ^ n = v % 2 ^ n := by
  have hp : 0 < 2 ^ n := Nat.two_pow_pos n
  have hd (x : Nat) : x / 2 ^ (n + 1) = x / 2 ^ n / 2 := by rw [Nat.div_div_eq_div_mul, Nat.pow_succ]
  rw [hd, hd]
  unfold setBit
  by_cases hb : bitOf v n = true
  · have hv : v / 2 ^ n % 2 = 1 := by simpa [bitOf] using hb
    have hle : 2 ^ n ≤ v := by
      by_contra hlt
      rw [Nat.div_eq_of_lt (Nat.lt_of_not_le hlt)] at hv
      exact absurd hv (by decide)
    have hs : (v - 2 ^ n) / 2 ^ n = v / 2 ^ n - 1 := by simpa using Nat.sub_mul_div_of_le v (2 ^ n) 1 (by simpa using hle)
    cases b
    · simp only [hb, if_true, Bool.false_eq_true, if_false]
      refine ⟨?_, (Nat.mod_eq_sub_mod hle).symm⟩
      rw [hs]
      generalize v / 2 ^ n = q at hv ⊢
      omega
    · rw [if_pos rfl, if_pos hb]
      exact ⟨rfl, rfl⟩
  · have hv : v / 2 ^ n % 2 = 0 := by
      have : ¬v / 2 ^ n % 2 = 1 := by simpa [bitOf] using hb
      omega
    cases b
    · rw [if_neg Bool.false_ne_true, if_neg hb]
      exact ⟨rfl, rfl⟩
    · simp only [hb, if_true, Bool.false_eq_true, if_false]
      exact ⟨by rw [Nat.add_div_right _ hp]; omega, Nat.add_mod_right ..⟩

theorem bitOf_setBit_same (v n : Nat) (b : Bool) : bitOf (setBit v n b) n = b := by
  cases b
  · exact bitOf_setBit_false v n
  · exact bitOf_setBit v n

theorem bitOf_setBit_ne (v : Nat) {n m : Nat} (b : Bool) (h : m ≠ n) : bitOf (setBit v n b) m = bitOf v m := by
  obtain ⟨h1, h2⟩ := setBit_around v n b
  rcases Nat.lt_or_gt_of_ne h with hm | hm
  · rw [← bitOf_mod hm, h2, bitOf_mod hm]
  · obtain ⟨k, rfl⟩ : ∃ k, m = n + 1 + k := ⟨m - (n + 1), by omega⟩
    unfold bitOf
    rw [Nat.pow_add, ← Nat.div_div_eq_div_mul, ← Nat.div_div_eq_div_mul, h1]

theorem bitOf_setBit_eq (v n m : Nat) (b : Bool) : bitOf (setBit v n b) m = if m = n then b else bitOf v m := by
  split
  · next h => rw [h, bitOf_setBit_same]
  · next h => exact bitOf_setBit_ne v b h

/-! ## A class of engines with bits of its own -/

/-- A class whose service and fault bits are its own: a write of one changes that bit and no other, in the parts and objects listed. -/
structure EngineClass.Lawful (e : EngineClass) (ps : List Part) (keys : List Nat) : Prop where
  setServ_leaves : ∀ n b s, Leaves s (e.setServ n b s) ps keys
  setBad_leaves : ∀ n b s, Leaves s (e.setBad n b s) ps keys
  service_setServ : ∀ n b s m, e.service (e.setServ n b s) m = if m = n then b else e.service s m
  service_setBad : ∀ n b s m, e.service (e.setBad n b s) m = e.service s m
  bad_setBad : ∀ n b s m, e.bad (e.setBad n b s) m = if m = n then b else e.bad s m
  bad_setServ : ∀ n b s m, e.bad (e.setServ n b s) m = e.bad s m
  congr : ∀ s t, (∀ k ∈ keys, t.obj k = s.obj k) → t.units = s.units → ∀ m, e.service t m = e.service s m ∧ e.bad t m = e.bad s m

theorem State.nat_setObj_same (s : State) (k v : Nat) : (s.setObj k (v : Nat)).nat k = v :=
  congrArg Int.toNat (State.obj_setObj_same s k (v : Int))

theorem State.nat_setObj_ne (s : State) {k j : Nat} (v : Int) (h : j ≠ k) : (s.setObj k v).nat j = s.nat j :=
  congrArg Int.toNat (State.obj_setObj_ne s k j v h)

theorem pairBit_setPairBit_same {lo hi : Nat} (h : lo ≠ hi) (n m : Nat) (b : Bool) (s : State) :
    pairBit lo hi m (setPairBit lo hi n b s) = if m = n then b else pairBit lo hi m s := by
  unfold pairBit setPairBit
  by_cases hn : n < 64
  · rw [if_pos hn]
    by_cases hm : m < 64
    · rw [if_pos hm, if_pos hm, State.nat_setObj_same, bitOf_setBit_eq]
    · rw [if_neg hm, if_neg hm, State.nat_setObj_ne _ _ h.symm, if_neg (by omega)]
  · rw [if_neg hn]
    by_cases hm : m < 64
    · rw [if_pos hm, if_pos hm, State.nat_setObj_ne _ _ h, if_neg (by omega)]
    · rw [if_neg hm, if_neg hm, State.nat_setObj_same, bitOf_setBit_eq]
      simp only [show (m - 64 = n - 64) = (m = n) by rw [eq_iff_iff]; omega]

theorem setPairBit_leaves {lo hi : Nat} (n : Nat) (b : Bool) (s : State) {ks : List Nat} (h1 : lo ∈ ks) (h2 : hi ∈ ks) :
    Leaves s (setPairBit lo hi n b s) [.dict] ks := by
  unfold setPairBit
  split
  · exact Leaves.setObj _ _ _ (by decide) h1
  · exact Leaves.setObj _ _ _ (by decide) h2

theorem pairBit_congr {lo hi : Nat} {s t : State} (h1 : t.obj lo = s.obj lo) (h2 : t.obj hi = s.obj hi) (m : Nat) : pairBit lo hi m t = pairBit lo hi m s := by
  unfold pairBit State.nat
  rw [h1, h2]

theorem pairBit_leaves {lo hi : Nat} {s t : State} {ps : List Part} {ks : List Nat} (h : Leaves s t ps ks) (h1 : lo ∉ ks) (h2 : hi ∉ ks) (m : Nat) :
    pairBit lo hi m t = pairBit lo hi m s := pairBit_congr (h.2 _ h1) (h.2 _ h2) m

/-- The objects of the decode engines' bits. -/
def kdKeys : List Nat := [O.kdServiceLo, O.kdServiceHi, O.kdFaultedLo, O.kdFaultedHi]

theorem kdClass_lawful : kdClass.Lawful [.dict] kdKeys where
  setServ_leaves n b s := setPairBit_leaves n b s (by decide) (by decide)
  setBad_leaves n b s := setPairBit_leaves n b s (by decide) (by decide)
  service_setServ n b s m := pairBit_setPairBit_same (by decide) n m b s
  service_setBad n b s m := pairBit_leaves (ks := [O.kdFaultedLo, O.kdFaultedHi])
    (setPairBit_leaves n b s (List.mem_cons_self ..) (by decide)) (by decide) (by decide) m
  bad_setBad n b s m := pairBit_setPairBit_same (by decide) n m b s
  bad_setServ n b s m := pairBit_leaves (ks := [O.kdServiceLo, O.kdServiceHi])
    (setPairBit_leaves n b s (List.mem_cons_self ..) (by decide)) (by decide) (by decide) m
  congr _ _ h _ m := ⟨pairBit_congr (h _ (by decide)) (h _ (by decide)) m, pairBit_congr (h _ (by decide)) (h _ (by decide)) m⟩

theorem bit_setObj_same (s : State) (k n m : Nat) (b : Bool) :
    bitOf ((s.setObj k (setBit (s.nat k) n b : Nat)).nat k) m = if m = n then b else bitOf (s.nat k) m := by
  rw [State.nat_setObj_same, bitOf_setBit_eq]

theorem bit_setObj_ne (s : State) {k j : Nat} (v : Int) (h : j ≠ k) (m : Nat) : bitOf ((s.setObj k v).nat j) m = bitOf (s.nat j) m := by
  rw [State.nat_setObj_ne s v h]

theorem bit_congr {s t : State} {k : Nat} (h : t.obj k = s.obj k) (m : Nat) : bitOf (t.nat k) m = bitOf (s.nat k) m := by
  unfold State.nat
  rw [h]

/-- The objects of the encode engines' bits. -/
def keKeys : List Nat := [O.keService, O.keFaulted]

theorem keClass_lawful : keClass.Lawful [.dict] keKeys where
  setServ_leaves _ _ _ := Leaves.setObj _ _ _ (by decide) (by decide)
  setBad_leaves _ _ _ := Leaves.setObj _ _ _ (by decide) (by decide)
  service_setServ n b s m := bit_setObj_same s O.keService n m b
  service_setBad _ _ s m := bit_setObj_ne s _ (by decide) m
  bad_setBad n b s m := bit_setObj_same s O.keFaulted n m b
  bad_setServ _ _ s m := bit_setObj_ne s _ (by decide) m
  congr _ _ h _ m := ⟨bit_congr (h _ (by decide)) m, bit_congr (h _ (by decide)) m⟩

/-- The objects of the layer engines' bits. -/
def leKeys : List Nat := [O.leService, O.leFaulted]

theorem leClass_lawful : leClass.Lawful [.dict] leKeys where
  setServ_leaves _ _ _ := Leaves.setObj _ _ _ (by decide) (by decide)
  setBad_leaves _ _ _ := Leaves.setObj _ _ _ (by decide) (by decide)
  service_setServ n b s m := bit_setObj_same s O.leService n m b
  service_setBad _ _ s m := bit_setObj_ne s _ (by decide) m
  bad_setBad n b s m := bit_setObj_same s O.leFaulted n m b
  bad_setServ _ _ s m := bit_setObj_ne s _ (by decide) m
  congr _ _ h _ m := ⟨bit_congr (h _ (by decide)) m, bit_congr (h _ (by decide)) m⟩

theorem xeClass_lawful : xeClass.Lawful [.units] [] where
  setServ_leaves _ _ s := ⟨fun p hp => (Within.start s).setUnits.same p hp, fun _ _ => rfl⟩
  setBad_leaves _ _ s := ⟨fun p hp => (Within.start s).setUnits.same p hp, fun _ _ => rfl⟩
  service_setServ n b s m := bitOf_setBit_eq s.units.xe n m b
  service_setBad _ _ _ _ := rfl
  bad_setBad n b s m := bitOf_setBit_eq s.units.xeBad n m b
  bad_setServ _ _ _ _ := rfl
  congr _ _ _ h m := by
    show bitOf _ m = bitOf _ m ∧ bitOf _ m = bitOf _ m
    rw [h]
    exact ⟨rfl, rfl⟩

/-! ## An engine leaves service -/

section
variable {e : EngineClass} {ps : List Part} {keys : List Nat} {n u cause : Nat} {s : State}

/-- The state in which an engine is out of service and faulted. -/
def EngineClass.out (e : EngineClass) (n : Nat) (s : State) : State := e.setBad n true (e.setServ n false s)

/-- The state in which a spare serves, and the class has one less. -/
def EngineClass.spared (e : EngineClass) (n u : Nat) (s : State) : State :=
  (e.setServ u true (e.out n s)).setObj e.spares ((e.out n s).nat e.spares - 1 : Nat)

theorem EngineClass.Lawful.out_leaves (h : e.Lawful ps keys) : Leaves s (e.out n s) ps keys :=
  Leaves.trans (h.setServ_leaves ..) (h.setBad_leaves ..)

theorem EngineClass.Lawful.out_service (h : e.Lawful ps keys) (m : Nat) : e.service (e.out n s) m = if m = n then false else e.service s m := by
  rw [EngineClass.out, h.service_setBad, h.service_setServ]

theorem EngineClass.Lawful.out_bad (h : e.Lawful ps keys) (m : Nat) : e.bad (e.out n s) m = if m = n then true else e.bad s m := by
  rw [EngineClass.out, h.bad_setBad, h.bad_setServ]

/-- The spare is chosen among engines other than the one that faults. -/
theorem EngineClass.Lawful.out_spareFor (h : e.Lawful ps keys) : e.spareFor n (e.out n s) = e.spareFor n s := by
  unfold EngineClass.spareFor
  refine List.find?_congr fun m _ => ?_
  rw [h.out_service, h.out_bad]
  by_cases hm : m = n
  · simp [hm]
  · simp [hm]

theorem EngineClass.Lawful.fault_spare (h : e.Lawful ps keys) (hu : e.spareFor n s = some u) : e.fault n cause s
    = spareEngaged (unitWord e.cls n) (unitWord e.cls u) ((e.spared n u s).nat e.spares) cause (e.spared n u s) := by
  have ho : e.spareFor n (e.setBad n true (e.setServ n false s)) = some u := h.out_spareFor.trans hu
  unfold EngineClass.fault
  dsimp only
  rw [ho]
  rfl

theorem EngineClass.Lawful.fault_lost (h : e.Lawful ps keys) (hu : e.spareFor n s = none) : e.fault n cause s
    = unitLost (unitWord e.cls n) ((e.out n s).nat e.spares) cause (e.out n s) := by
  have ho : e.spareFor n (e.setBad n true (e.setServ n false s)) = none := h.out_spareFor.trans hu
  unfold EngineClass.fault
  dsimp only
  rw [ho]
  rfl

theorem EngineClass.spareFor_ne (hu : e.spareFor n s = some u) : u ≠ n := by
  have := List.find?_some (p := fun u => u != n && !e.service s u && !e.bad s u) hu
  simp only [Bool.and_eq_true, bne_iff_ne] at this
  exact this.1.1

theorem EngineClass.Lawful.spared_leaves (h : e.Lawful ps keys) :
    Leaves s (e.spared n u s) (.dict :: ps) (e.spares :: keys) :=
  Leaves.trans (Leaves.mono h.out_leaves (fun _ => List.mem_cons_of_mem _) (fun _ => List.mem_cons_of_mem _))
    (Leaves.trans (Leaves.mono (h.setServ_leaves ..) (fun _ => List.mem_cons_of_mem _) (fun _ => List.mem_cons_of_mem _))
      (Leaves.setObj _ _ _ (List.mem_cons_self ..) (List.mem_cons_self ..)))

theorem EngineClass.Lawful.spared_spares (h : e.Lawful ps keys) (hk : e.spares ∉ keys) : (e.spared n u s).nat e.spares = s.nat e.spares - 1 := by
  have ho : (e.out n s).nat e.spares = s.nat e.spares := congrArg Int.toNat (h.out_leaves.2 _ hk)
  rw [EngineClass.spared, State.nat_setObj_same, ho]

/-- The engine is out of service and faulted, and the spare serves. -/
theorem EngineClass.Lawful.spared_bits (h : e.Lawful ps keys) (hk : e.spares ∉ keys) (hu : e.spareFor n s = some u) :
    e.service (e.spared n u s) n = false ∧ e.bad (e.spared n u s) n = true ∧ e.service (e.spared n u s) u = true := by
  have hne := EngineClass.spareFor_ne hu
  have hc := h.congr (e.setServ u true (e.out n s)) (e.spared n u s)
    (fun k hks => State.obj_setObj_ne _ _ _ _ fun hn => hk (hn ▸ hks)) (State.setObj_units ..)
  refine ⟨(hc n).1.trans ?_, (hc n).2.trans ?_, (hc u).1.trans ?_⟩
  · rw [h.service_setServ, if_neg hne.symm, h.out_service, if_pos rfl]
  · rw [h.bad_setServ, h.out_bad, if_pos rfl]
  · rw [h.service_setServ, if_pos rfl]

end

/-! ## What it ran runs again -/

theorem makeReady_link (tag : Nat) (o : Op) (s : State) : (makeReady tag o s).link = s.link := (Within.start s).makeReady.same .link (by decide)

theorem onOp_link (tag : Nat) (f : Op → Op) (s : State) : (s.onOp tag f).link = s.link := (Within.start s).onOp.same .link (by decide)

theorem ackCancel_onlyJournal (tag : Nat) (s : State) : OnlyJournal s (ackCancel tag s) := by
  unfold ackCancel
  dsimp only
  split
  · split
    · exact OnlyJournal.of_link rfl
    · refine OnlyJournal.trans (OnlyJournal.of_link ?_) (resettle_onlyJournal _)
      exact onOp_link ..
  · exact OnlyJournal.of_link rfl

theorem rerunOp_onlyJournal (tag : Nat) (s : State) : OnlyJournal s (rerunOp s tag) := by
  unfold rerunOp
  split
  · next o _ =>
    split
    · exact ackCancel_onlyJournal tag s
    · refine OnlyJournal.of_link ?_
      dsimp only
      rw [makeReady_link, State.onCourse_link, (Within.start _).traceOp.same .link (by decide)]
      rfl
  · exact OnlyJournal.refl s

theorem moveFused_leaves (cls n : Nat) (s : State) {ks : List Nat} : Leaves s (moveFused cls n s) [.sched] ks := by
  unfold moveFused
  split
  · exact Leaves.setOps _ _ (by decide)
  · exact Leaves.refl ..

/-- What follows the fault of an engine in service: only the books move, and of the link the journal. -/
theorem failed_books {e : EngineClass} {n : Nat} (cause : Nat) {s : State} (h : e.service s n = true) :
    Books bookParts (e.fault n cause s) (e.failed n cause s) ∧ OnlyJournal (e.fault n cause s) (e.failed n cause s) := by
  have hf : e.failed n cause s = moveFused e.cls n (rerunUnit e.cls n (e.fault n cause s)) := if_pos h
  have hm := moveFused_leaves e.cls n (rerunUnit e.cls n (e.fault n cause s)) (ks := [])
  have hl := hm.1 .link (by decide)
  rw [hf]
  have hb : Books bookParts (e.fault n cause s) (rerunUnit e.cls n (e.fault n cause s)) :=
    Books.foldl rerunOp _ (fun tag _ s => Books.rerunOp s tag) _
  refine ⟨Books.trans hb ?_, OnlyJournal.trans (OnlyJournal.foldl (fun tag s => rerunOp_onlyJournal tag s) _ _) (OnlyJournal.of_link hl)⟩
  exact Books.of_dict (SameBut.mono hm.1 (by decide)) (hm.1 .dict (by decide)) (congrArg Link.sent hl)

theorem OnlyJournal.waiting {s t : State} (h : OnlyJournal s t) : t.link.waiting = s.link.waiting := (congrArg Link.waiting h).trans rfl

theorem Indicates.of_waiting {s t u : State} {key unit : Nat} {d : Bytes} {c : Nat} (hi : Indicates s t key unit d c)
    (h : u.link.waiting = t.link.waiting) : Indicates s u key unit d c := by
  intro hs
  rw [h]
  exact hi hs

theorem setCause_link (bit : Nat) (s : State) : (setCause bit s).link = s.link := rfl

theorem spareEngaged_indicates (word spare left cause : Nat) (s : State) :
    Indicates s (spareEngaged word spare left cause s) O.spareEngagedCount word (spareDetail word spare left cause) 0 := by
  refine Indicates.of_waiting (raise_indicates s O.spareEngagedCount word (spareDetail word spare left cause) 0) ?_
  unfold spareEngaged
  dsimp only
  split <;> rfl

theorem unitLost_indicates (word left cause : Nat) (s : State) :
    Indicates s (unitLost word left cause s) O.unitLostCount word (spareDetail word 0xFFFF left cause) 0 :=
  Indicates.of_waiting (raise_indicates s O.unitLostCount word (spareDetail word 0xFFFF left cause) 0) rfl

theorem unitLost_counted (word left cause : Nat) (s : State) : Counted s (unitLost word left cause s) O.unitLostCount 1 :=
  (State.obj_setObj_ne _ _ _ _ (by decide)).trans (raise_counted s O.unitLostCount word (spareDetail word 0xFFFF left cause) 0 (by decide))

theorem unitLost_listed (word left cause : Nat) (s : State) : word ∈ (unitLost word left cause s).guard.lost :=
  List.mem_append_right _ (List.mem_singleton_self _)

/-! ## The fault of an engine, whole -/

section
variable {e : EngineClass} {ps : List Part} {keys : List Nat} {n u cause : Nat} {s : State}

/-- An engine faults and a spare takes its place: its bits, the count of spares and SPARE_ENGAGED. -/
structure Replaced (e : EngineClass) (n u cause : Nat) (s t : State) : Prop where
  out : e.service t n = false
  bad : e.bad t n = true
  spare : e.service t u = true
  left : t.obj e.spares = (s.nat e.spares - 1 : Nat)
  counted : Counted s t O.spareEngagedCount 1
  indicates : Indicates s t O.spareEngagedCount (unitWord e.cls n) (spareDetail (unitWord e.cls n) (unitWord e.cls u) (s.nat e.spares - 1) cause) 0

theorem Replaced.kept {t t' : State} (h : e.Lawful ps keys) (hr : Replaced e n u cause s t) (ho : ∀ k ∈ O.spareEngagedCount :: e.spares :: keys, t'.obj k = t.obj k)
    (hu : t'.units = t.units) (hw : t'.link.waiting = t.link.waiting) : Replaced e n u cause s t' := by
  obtain ⟨h1, h2, h3, h4, h5, h6⟩ := hr
  have hc := h.congr t t' (fun k hk => ho k (List.mem_cons_of_mem _ (List.mem_cons_of_mem _ hk))) hu
  exact ⟨(hc n).1.trans h1, (hc n).2.trans h2, (hc u).1.trans h3, (ho _ (by simp)).trans h4, (ho _ (by simp)).trans h5, Indicates.of_waiting h6 hw⟩

theorem Replaced.of_obj {s' t : State} (hr : Replaced e n u cause s' t) (h1 : s'.obj O.spareEngagedCount = s.obj O.spareEngagedCount)
    (h2 : s'.obj e.spares = s.obj e.spares) (hl : s'.link = s.link) : Replaced e n u cause s t := by
  obtain ⟨r1, r2, r3, r4, r5, r6⟩ := hr
  have hn : s'.nat e.spares = s.nat e.spares := congrArg Int.toNat h2
  rw [hn] at r4 r6
  exact ⟨r1, r2, r3, r4, Counted.of_obj h1 r5, Indicates.of_link hl r6⟩

/-- The events' objects are none of the class's. -/
abbrev EventsApart (e : EngineClass) (keys : List Nat) : Prop :=
  e.spares ∉ keys ∧ ∀ k ∈ e.spares :: keys, k ∉ eventKeys ∧ bookKey k = false

theorem EngineClass.Lawful.fault_leaves (h : e.Lawful ps keys) (hu : e.spareFor n s = some u) :
    Leaves s (e.fault n cause s) (.dict :: .link :: ps) (e.spares :: (eventKeys ++ keys)) := by
  rw [h.fault_spare hu]
  refine Leaves.trans (Leaves.mono h.spared_leaves (by simp +contextual) (by simp +contextual))
    (Leaves.mono (spareEngaged_leaves _ _ _ _ _) (by simp) ?_)
  intro k hk
  exact List.mem_cons_of_mem _ (List.mem_append_left _ ((by decide : ∀ k ∈ [O.spareEngagedCount, O.indicationsDropped, O.faultCauses], k ∈ eventKeys) k hk))

theorem EngineClass.Lawful.fault_replaced (h : e.Lawful ps keys) (ha : EventsApart e keys) (hl : Part.link ∉ ps) (hun : O.spareEngagedCount ∉ keys)
    (hu : e.spareFor n s = some u) : Replaced e n u cause s (e.fault n cause s) := by
  obtain ⟨hk, hap⟩ := ha
  have hsl := h.spared_leaves (n := n) (u := u) (s := s)
  have hse := spareEngaged_leaves (unitWord e.cls n) (unitWord e.cls u) ((e.spared n u s).nat e.spares) cause (e.spared n u s)
  have hne : O.spareEngagedCount ∉ e.spares :: keys := by
    intro hm
    exact (hap _ hm).1 (by decide)
  have hkeep (k : Nat) (hks : k ∈ e.spares :: keys) : (e.fault n cause s).obj k = (e.spared n u s).obj k := by
    rw [h.fault_spare hu]
    exact hse.2 k fun hm => (hap k hks).1 (by revert hm; simp [eventKeys]; tauto)
  have hunits : (e.fault n cause s).units = (e.spared n u s).units := by
    rw [h.fault_spare hu]
    exact hse.1 .units (by decide)
  have hc := h.congr (e.spared n u s) (e.fault n cause s) (fun k hks => hkeep k (List.mem_cons_of_mem _ hks)) hunits
  obtain ⟨b1, b2, b3⟩ := h.spared_bits hk hu
  have hsp := h.spared_spares (n := n) (u := u) (s := s) hk
  have hlink : (e.spared n u s).link = s.link := hsl.1 .link (by simpa using hl)
  refine ⟨(hc n).1.trans b1, (hc n).2.trans b2, (hc u).1.trans b3, ?_, ?_, ?_⟩
  · have hx : (e.spared n u s).obj e.spares = ((e.spared n u s).nat e.spares : Nat) := by
      rw [EngineClass.spared, State.nat_setObj_same, State.obj_setObj_same]
    rw [hkeep _ (List.mem_cons_self ..), hx, hsp]
  · rw [h.fault_spare hu]
    exact Counted.of_obj (hsl.2 _ hne) (spareEngaged_counted ..)
  · rw [h.fault_spare hu]
    refine Indicates.of_link hlink ?_
    rw [← hsp]
    exact spareEngaged_indicates _ _ _ _ _

/-- The fault of an engine in service that a spare replaces. -/
theorem EngineClass.Lawful.failed_replaced (h : e.Lawful ps keys) (ha : EventsApart e keys) (hl : Part.link ∉ ps) (hun : O.spareEngagedCount ∉ keys)
    (hs : e.service s n = true) (hu : e.spareFor n s = some u) : Replaced e n u cause s (e.failed n cause s) := by
  obtain ⟨hb, hj⟩ := failed_books cause hs
  refine (h.fault_replaced ha hl hun hu).kept h (fun k hk => hb.obj k ?_) (hb.parts .units (by decide)) hj.waiting
  rcases List.mem_cons.mp hk with rfl | hk
  · decide
  · exact (ha.2 k hk).2

theorem EngineClass.Lawful.spareFor_congr (h : e.Lawful ps keys) {t : State} (ho : ∀ k ∈ keys, t.obj k = s.obj k) (hu : t.units = s.units) :
    e.spareFor n t = e.spareFor n s := by
  unfold EngineClass.spareFor
  refine List.find?_congr fun m _ => ?_
  rw [(h.congr s t ho hu m).1, (h.congr s t ho hu m).2]

/-- An engine faults and the class has lost a unit: its bits and UNIT_LOST. -/
structure Lost (e : EngineClass) (n cause : Nat) (s t : State) : Prop where
  out : e.service t n = false
  bad : e.bad t n = true
  listed : unitWord e.cls n ∈ t.guard.lost
  counted : Counted s t O.unitLostCount 1
  indicates : Indicates s t O.unitLostCount (unitWord e.cls n) (spareDetail (unitWord e.cls n) 0xFFFF (s.nat e.spares) cause) 0

theorem Lost.kept {t t' : State} (h : e.Lawful ps keys) (hr : Lost e n cause s t) (ho : ∀ k ∈ O.unitLostCount :: keys, t'.obj k = t.obj k)
    (hu : t'.units = t.units) (hg : t'.guard = t.guard) (hw : t'.link.waiting = t.link.waiting) : Lost e n cause s t' := by
  obtain ⟨h1, h2, h3, h4, h5⟩ := hr
  have hc := h.congr t t' (fun k hk => ho k (List.mem_cons_of_mem _ hk)) hu
  exact ⟨(hc n).1.trans h1, (hc n).2.trans h2, hg ▸ h3, (ho _ (List.mem_cons_self ..)).trans h4, Indicates.of_waiting h5 hw⟩

theorem Lost.of_obj {s' t : State} (hr : Lost e n cause s' t) (h1 : s'.obj O.unitLostCount = s.obj O.unitLostCount)
    (h2 : s'.obj e.spares = s.obj e.spares) (hl : s'.link = s.link) : Lost e n cause s t := by
  obtain ⟨r1, r2, r3, r4, r5⟩ := hr
  have hn : s'.nat e.spares = s.nat e.spares := congrArg Int.toNat h2
  rw [hn] at r5
  exact ⟨r1, r2, r3, Counted.of_obj h1 r4, Indicates.of_link hl r5⟩

theorem EngineClass.Lawful.failed_lost (h : e.Lawful ps keys) (ha : EventsApart e keys) (hl : Part.link ∉ ps) (hun : O.unitLostCount ∉ keys)
    (hs : e.service s n = true) (hu : e.spareFor n s = none) : Lost e n cause s (e.failed n cause s) := by
  obtain ⟨hk, hap⟩ := ha
  obtain ⟨hb, hj⟩ := failed_books cause hs
  have hol := h.out_leaves (n := n) (s := s)
  have hul := unitLost_leaves (unitWord e.cls n) ((e.out n s).nat e.spares) cause (e.out n s)
  rw [h.fault_lost hu] at hb hj
  have hkeep (k : Nat) (hks : k ∈ keys) : (unitLost (unitWord e.cls n) ((e.out n s).nat e.spares) cause (e.out n s)).obj k = (e.out n s).obj k :=
    hul.2 k fun hm => (hap k (List.mem_cons_of_mem _ hks)).1 (by revert hm; simp [eventKeys]; tauto)
  have hc := h.congr (e.out n s) _ hkeep (hul.1 .units (by decide))
  have hn : (e.out n s).nat e.spares = s.nat e.spares := congrArg Int.toNat (hol.2 _ hk)
  have hf : Lost e n cause s (unitLost (unitWord e.cls n) ((e.out n s).nat e.spares) cause (e.out n s)) := by
    refine ⟨(hc n).1.trans ?_, (hc n).2.trans ?_, unitLost_listed .., Counted.of_obj (hol.2 _ hun) (unitLost_counted ..), ?_⟩
    · rw [h.out_service, if_pos rfl]
    · rw [h.out_bad, if_pos rfl]
    · rw [hn]
      exact Indicates.of_link (hol.1 .link hl) (unitLost_indicates _ _ _ _)
  refine hf.kept h (fun k hks => hb.obj k ?_) (hb.parts .units (by decide)) (hb.parts .guard (by decide)) hj.waiting
  rcases List.mem_cons.mp hks with rfl | hks
  · decide
  · exact (hap k (List.mem_cons_of_mem _ hks)).2

end

/-- Whether a spare serves or not, an engine's fault changes its class's bits, the events and the books. -/
theorem EngineClass.Lawful.failed_same {e : EngineClass} {ps : List Part} {keys : List Nat} (h : e.Lawful ps keys) (n cause : Nat) (s : State) :
    SameBut s (e.failed n cause s) (.guard :: (ps ++ bookParts)) := by
  by_cases hs : e.service s n = true
  · obtain ⟨hb, -⟩ := failed_books cause hs
    refine SameBut.trans ?_ (SameBut.mono hb.parts (by simp +contextual))
    cases hu : e.spareFor n s with
    | some u => exact SameBut.mono (h.fault_leaves hu).1 (by simp +contextual [bookParts])
    | none =>
      rw [h.fault_lost hu]
      exact SameBut.trans (SameBut.mono h.out_leaves.1 (by simp +contextual)) (SameBut.mono (unitLost_leaves ..).1 (by simp [bookParts]))
  · rw [EngineClass.failed, if_neg hs]
    exact SameBut.refl _ _

/-! ## Jobs that go -/

/-- A job that a state does not hold does not come to be. -/
def NoNewJobs (s t : State) : Prop := ∀ k, Store.find s.kiln.jobs k = none → Store.find t.kiln.jobs k = none

namespace NoNewJobs
variable {s t u : State}

theorem of_jobs (h : t.kiln.jobs = s.kiln.jobs) : NoNewJobs s t := fun k hk => h ▸ hk

theorem of_kiln (h : t.kiln = s.kiln) : NoNewJobs s t := of_jobs (congrArg Kiln.jobs h)

theorem refl (s : State) : NoNewJobs s s := of_kiln rfl

theorem trans (h1 : NoNewJobs s t) (h2 : NoNewJobs t u) : NoNewJobs s u := fun k hk => h2 k (h1 k hk)

theorem foldl {α : Type} {f : State → α → State} (h : ∀ a s, NoNewJobs s (f s a)) (l : List α) (s : State) : NoNewJobs s (l.foldl f s) := by
  induction l generalizing s with
  | nil => exact refl s
  | cons a l ih => exact (h a s).trans (ih _)

theorem dropJob (s : State) (tag : Nat) : NoNewJobs s (s.dropJob tag) := by
  intro k hk
  by_cases h : k = tag
  · rw [h]
    exact Store.find_drop_same ..
  · exact (Store.find_drop_ne _ _ _ h).trans hk

end NoNewJobs

theorem voidBlock_jobs (s : State) (j : Job) : (s.voidBlock j).kiln.jobs = s.kiln.jobs := by
  unfold State.voidBlock
  exact (apply_ite (fun t : State => t.kiln.jobs) _ _ _).trans (ite_self _)

theorem dropKilnJob_noNewJobs (tag : Nat) (s : State) : NoNewJobs s (dropKilnJob tag s) := by
  unfold dropKilnJob
  split
  · next j _ =>
    dsimp only
    refine NoNewJobs.trans (NoNewJobs.of_kiln ?_) (NoNewJobs.trans (NoNewJobs.dropJob _ tag) (NoNewJobs.of_jobs (voidBlock_jobs ..)))
    split <;> rfl
  · exact NoNewJobs.refl s

theorem expireOp_noNewJobs (tag : Nat) (s : State) : NoNewJobs s (expireOp tag s) := by
  unfold expireOp
  split
  · next o _ =>
    split
    · refine NoNewJobs.trans (dropKilnJob_noNewJobs tag s) (NoNewJobs.of_kiln ?_)
      rw [(Within.start _).traceOp.same .kiln (by decide), (Within.start _).onOp.same .kiln (by decide),
        (Within.start _).countExpiry.same .kiln (by decide)]
    · exact NoNewJobs.refl s
  · exact NoNewJobs.refl s

theorem settleOp_noNewJobs (s : State) (tag : Nat) : NoNewJobs s (settleOp s tag) := by
  unfold settleOp
  split
  · next o _ =>
    split
    · split
      · exact expireOp_noNewJobs tag s
      · split
        · exact NoNewJobs.of_kiln ((Within.start s).makeReady.same .kiln (by decide))
        · exact NoNewJobs.refl s
    · split
      · exact expireOp_noNewJobs tag s
      · exact NoNewJobs.refl s
  · exact NoNewJobs.refl s

theorem resettle_noNewJobs (s : State) : NoNewJobs s (resettle s) :=
  ((NoNewJobs.foldl (fun tag s => settleOp_noNewJobs s tag) _ s).trans
    (NoNewJobs.of_kiln ((releaseOps_leaves (ks := []) _).1 .kiln (by decide)))).trans
    ((NoNewJobs.of_kiln ((askOutcomes_leaves (ks := []) _).1 .kiln (by decide))).trans
      (NoNewJobs.of_kiln ((Within.start _).partsDone.same .kiln (by decide))))

/-! ## A cancel that is acknowledged -/

/-- Once a cancel is acknowledged, the instance is gone or has expired with an empty token. -/
theorem ackCancel_op {tag : Nat} {o p : Op} {s : State} (h : s.op tag = some o) (hp : (ackCancel tag s).op tag = some p) : p = o.expire := by
  have hd : (s.dropJob tag).op tag = some o := h
  unfold ackCancel at hp
  dsimp only at hp
  rw [hd] at hp
  dsimp only at hp
  split at hp
  · exact absurd ((Store.find_drop_same ..).symm.trans hp) nofun
  · obtain ⟨o', h', hs⟩ := resettle_settles _ tag p hp
    rw [onOp_op, if_pos rfl, hd] at h'
    cases h'
    rcases hs with rfl | hs
    · rfl
    · exact absurd hs (by simp [OpWaits, Op.expire])

theorem ackCancel_job (tag : Nat) (s : State) : Store.find (ackCancel tag s).kiln.jobs tag = none := by
  have hd : Store.find (s.dropJob tag).kiln.jobs tag = none := Store.find_drop_same ..
  unfold ackCancel
  dsimp only
  split
  · split
    · exact hd
    · refine resettle_noNewJobs _ tag ?_
      rw [(Within.start _).onOp.same .kiln (by decide)]
      exact hd
  · exact hd

end Sys2Proof.Machine
end

section
/-! SUPPORT. Cancel tokens and faults of the kiln's engines (07 R258, R259). -/
namespace Sys2Proof.Machine
open Sys2Proof.Safety

/-- A token that takes the job of an instance counts, drops the job, and is acknowledged. -/
theorem cancelJob_acks {tag : Nat} {o : Op} {s : State} (h : s.op tag = some o) :
    ∃ u, cancelJob tag s = ackCancel tag u ∧ u.op tag = some o ∧ Leaves (s.bump O.cancelledJobs 1) u [.dict, .kiln] [O.iterations] := by
  have hb : (s.bump O.cancelledJobs 1).op tag = some o := h
  have hd : (dropKilnJob tag (s.bump O.cancelledJobs 1)).op tag = some o := (dropKilnJob_op ..).trans hb
  unfold cancelJob
  dsimp only
  cases Store.find s.kiln.jobs tag with
  | some j =>
    dsimp only
    rw [hd]
    exact ⟨_, rfl, hd, dropKilnJob_leaves ..⟩
  | none =>
    dsimp only
    rw [h]
    exact ⟨_, rfl, hb, Leaves.refl ..⟩

/-- The objects in which a fault counts the jobs that its engine ran. -/
def faultJobKeys : List Nat := [O.encJobs, O.engineFaults, O.iterations, O.polarDecJobs, O.decJobs, O.decPass, O.decFail, O.llrReadErrors, O.badJobs]

theorem countJob_leaves (kind status : Nat) (s : State) : Leaves s (countJob kind status s) [.dict] faultJobKeys := by
  have h1 : Leaves s (if isPolar kind then s.bump O.polarDecJobs 1 else s.bump O.decJobs 1) [.dict] faultJobKeys :=
    Leaves.ite _ (Leaves.bump _ _ _ (by decide) (by decide)) (Leaves.bump _ _ _ (by decide) (by decide))
  unfold countJob
  dsimp only
  split
  · exact Leaves.trans h1 (Leaves.ite _ (Leaves.refl ..) (Leaves.bump _ _ _ (by decide) (by decide)))
  · exact Leaves.trans h1 (Leaves.ite _ (Leaves.refl ..) (Leaves.bump _ _ _ (by decide) (by decide)))
  · exact Leaves.trans h1 (Leaves.bump _ _ _ (by decide) (by decide))
  · exact Leaves.trans h1 (Leaves.bump _ _ _ (by decide) (by decide))
  · exact Leaves.trans h1 (Leaves.bump _ _ _ (by decide) (by decide))

theorem faultJob_leaves (cls : Nat) (s : State) (tag : Nat) : Leaves s (faultJob cls s tag) [.dict] faultJobKeys := by
  unfold faultJob
  split
  · exact Leaves.trans (Leaves.bump _ _ _ (by decide) (by decide)) (Leaves.bump _ _ _ (by decide) (by decide))
  · split
    · exact Leaves.trans (Leaves.ite _ (Leaves.refl ..) (Leaves.bump _ _ _ (by decide) (by decide))) (countJob_leaves ..)
    · exact Leaves.refl ..

theorem Leaves.onKiln (s : State) (tag : Nat) (f : Job → Job) {ps : List Part} {ks : List Nat} (h : Part.kiln ∈ ps) : Leaves s (s.onKiln tag f) ps ks := by
  unfold State.onKiln
  split
  · exact Leaves.setKiln _ _ h
  · exact Leaves.refl ..

/-- The state in which the jobs that an engine runs have ended with its fault. -/
def jobsFaulted (e : EngineClass) (n : Nat) (s : State) : State :=
  (((s.sched.ops.filter fun x => x.2.cls == e.cls && x.2.unit == n && x.2.onEngine).map (·.1)) ++ (s.fusedOn e.cls n).map (·.2.2.tag)).foldl (faultJob e.cls) s

theorem jobsFaulted_leaves (e : EngineClass) (n : Nat) (s : State) : Leaves s (jobsFaulted e n s) [.dict] faultJobKeys :=
  Leaves.foldl (faultJob e.cls) _ (fun tag _ s => faultJob_leaves e.cls s tag) s

/-- A fault of an engine in service: its jobs end, it fails, and its fused jobs start afresh. -/
theorem kilnFault_eq {e : EngineClass} {n cause : Nat} {s : State} (h : e.service s n = true) :
    ∃ t, kilnFault e n cause s = t ∧ Leaves (e.failed n cause (jobsFaulted e n s)) t [.kiln] [] :=
  ⟨_, if_pos h, Leaves.foldl _ _ (fun _ _ _ => Leaves.onKiln _ _ _ (by decide)) _⟩

section
variable {e : EngineClass} {keys : List Nat} {n u cause : Nat} {s : State}

/-- The objects of a class are none of those in which a fault counts jobs. -/
abbrev JobsApart (e : EngineClass) (keys : List Nat) : Prop := ∀ k ∈ e.spares :: keys, k ∉ faultJobKeys

theorem kilnFault_replaced (h : e.Lawful [.dict] keys) (ha : EventsApart e keys) (hj : JobsApart e keys) (hun : O.spareEngagedCount ∉ keys)
    (hs : e.service s n = true) (hu : e.spareFor n s = some u) :
    Replaced e n u cause s (kilnFault e n cause s) ∧ SameBut s (kilnFault e n cause s) [.dict, .guard, .kiln, .link, .pipe, .sched, .svc] := by
  obtain ⟨t, ht, hk⟩ := kilnFault_eq (cause := cause) hs
  have hl := jobsFaulted_leaves e n s
  have hkeys (k : Nat) (hks : k ∈ keys) : (jobsFaulted e n s).obj k = s.obj k := hl.2 k (hj k (List.mem_cons_of_mem _ hks))
  have hunits := hl.1 .units (by decide)
  have hr := h.failed_replaced (cause := cause) ha (by decide) hun ((h.congr s _ hkeys hunits n).1.trans hs) ((h.spareFor_congr hkeys hunits).trans hu)
  have hr' := hr.of_obj (s := s) (hl.2 _ (by decide)) (hl.2 _ (hj _ (List.mem_cons_self ..))) (hl.1 .link (by decide))
  rw [ht]
  exact ⟨hr'.kept h (fun k _ => hk.2 k List.not_mem_nil) (hk.1 .units (by decide)) (congrArg Link.waiting (hk.1 .link (by decide))),
    SameBut.trans (SameBut.mono hl.1 (by decide)) (SameBut.trans (SameBut.mono (h.failed_same n cause _) (by decide)) (SameBut.mono hk.1 (by decide)))⟩

theorem kilnFault_lost (h : e.Lawful [.dict] keys) (ha : EventsApart e keys) (hj : JobsApart e keys) (hun : O.unitLostCount ∉ keys)
    (hs : e.service s n = true) (hu : e.spareFor n s = none) :
    Lost e n cause s (kilnFault e n cause s) ∧ SameBut s (kilnFault e n cause s) [.dict, .guard, .kiln, .link, .pipe, .sched, .svc] := by
  obtain ⟨t, ht, hk⟩ := kilnFault_eq (cause := cause) hs
  have hl := jobsFaulted_leaves e n s
  have hkeys (k : Nat) (hks : k ∈ keys) : (jobsFaulted e n s).obj k = s.obj k := hl.2 k (hj k (List.mem_cons_of_mem _ hks))
  have hunits := hl.1 .units (by decide)
  have hr := h.failed_lost (cause := cause) ha (by decide) hun ((h.congr s _ hkeys hunits n).1.trans hs) ((h.spareFor_congr hkeys hunits).trans hu)
  have hr' := hr.of_obj (s := s) (hl.2 _ (by decide)) (hl.2 _ (hj _ (List.mem_cons_self ..))) (hl.1 .link (by decide))
  rw [ht]
  exact ⟨hr'.kept h (fun k _ => hk.2 k List.not_mem_nil) (hk.1 .units (by decide)) (hk.1 .guard (by decide)) (congrArg Link.waiting (hk.1 .link (by decide))),
    SameBut.trans (SameBut.mono hl.1 (by decide)) (SameBut.trans (SameBut.mono (h.failed_same n cause _) (by decide)) (SameBut.mono hk.1 (by decide)))⟩

end

end Sys2Proof.Machine
open Sys2Proof Sys2Proof.Machine Sys2Proof.Safety

/-- Settles O22: an engine's fault by the bits of its class (`EngineClass.Lawful`); what runs again moves only the books. -/
theorem kilnCancelAndFaults : Obligations.KilnCancelAndFaults := by
  unfold Obligations.KilnCancelAndFaults
  refine ⟨fun tag o s h hc hx hp => ?_, fun n u s hn hs hu => ?_, fun n s hn hs hu => ?_⟩
  · obtain ⟨u, hu, ho, hl⟩ := cancelJob_acks h
    have hb := Books.ackCancel tag u
    have hexec : exec (.kilnCancelToken tag) s = .next (ackCancel tag u) := by
      have hg : ((o.cls == 1 || o.cls == 2) && o.cancel && !o.published) = true := by simpa [hx, hp] using hc
      show execKilnCancelToken tag s = _
      rw [execKilnCancelToken, h]
      exact (if_pos hg).trans (congrArg Host.Outcome.next hu)
    refine ⟨_, hexec, ackCancel_job .., ?_, fun p hp => ?_, ?_⟩
    · exact (hb.obj _ (by decide)).trans ((hl.2 _ (by decide)).trans (State.obj_bump_same ..))
    · rw [ackCancel_op ho hp]
      exact ⟨rfl, rfl⟩
    · exact SameBut.trans (SameBut.trans (SameBut.bump s O.cancelledJobs 1 _ (by decide)) (SameBut.mono hl.1 (by decide))) hb.parts
  · obtain ⟨⟨h1, h2, h3, h4, h5, h6⟩, h7⟩ := kilnFault_replaced (cause := 0) kdClass_lawful (by decide) (by decide) (by decide) hs hu
    exact ⟨_, if_neg (by omega), h1, h2, h3, h4, h5, h6, h7⟩
  · obtain ⟨⟨h1, h2, h3, h4, h5⟩, h6⟩ := kilnFault_lost (cause := 0) keClass_lawful (by decide) (by decide) (by decide) hs hu
    exact ⟨_, if_neg (by omega), h1, h2, h3, h4, h5, h6⟩
end

section
/-! SUPPORT. A fault of a layer engine that lets an operation of another channel expire (08 R267; 13 R447, R451). -/
namespace Sys2Proof.Machine
open Sys2Proof.Safety

/-- An operation that a layer engine runs and that is asked to cancel. -/
def cancelledRun : Op :=
  { chan := 1, course := 0, gen := 0, id := ⟨.fft, 0, 0, 0⟩, cls := 3, form := 0, list := 0, state := .running, ins := [], arrive := 0, est := 0
    ls := 0, lf := 0, prio := 1, readyAt := 0, unit := 0, start := 0, fused := [], outs := 0, places := [], own := 0, common := 0
    stage := [], valid := [], next := false, ended := none, published := false, empty := false, cancel := true, old := false, data := []
    faulted := false, params := [], found := none }

/-- An operation that waits for an input that does not come to be, of a channel beyond the 64 of the link: EXPIRED_OPS of its carrier, which is
`0x26400C + 0x100 * 6624`, is LE_ENGINE_FAULTS. -/
def strayWait : Op := { cancelledRun with chan := 6625, state := .waiting, ins := [(⟨.fft, 0, 1, 0⟩, true)], cancel := false }

/-- Layer engine 0 runs the one while the other waits. -/
def strayState : State := { State.reset with sched := { State.reset.sched with ops := [(1, cancelledRun), (2, strayWait)] } }

/-- What a command leaves in an object, where it completes. -/
def objAfter (i : Instr) (s : State) (k : Nat) : Option Int :=
  match exec i s with
  | .next t => some (t.obj k)
  | _ => none

theorem objAfter_next {i : Instr} {s t : State} (h : exec i s = .next t) (k : Nat) : objAfter i s k = some (t.obj k) := by
  rw [objAfter, h]

/-- The fault of engine 0 counts one operation, and the expiry that it brings counts in the same object. -/
theorem stray_counts_twice : objAfter (.leEngineFault 0) strayState O.leEngineFaults = some 2 := by decide +kernel

theorem stray_spare : leClass.service strayState 0 = true ∧ leClass.spareFor 0 strayState = some 32 := by decide +kernel

theorem stray_running : runningOn strayState 3 0 = 1 ∧ strayState.nat O.leEngineFaults = 0 := by decide +kernel

end Sys2Proof.Machine
open Sys2Proof Sys2Proof.Machine Sys2Proof.Safety

/-- Refutes O25: an operation may be of any channel, and one of channel 6625 counts its expiry in LE_ENGINE_FAULTS, so that a fault whose
operation acknowledges a cancel there counts twice. -/
theorem not_layerEngines : ¬ Obligations.LayerEngines := by
  unfold Obligations.LayerEngines
  intro h
  obtain ⟨-, -, -, hfault, -⟩ := h
  obtain ⟨t, ht, -, -, -, -, -, hcount, -⟩ := hfault 0 32 strayState (by decide) stray_spare.1 stray_spare.2
  have hobj : t.obj O.leEngineFaults = 2 := Option.some.inj ((objAfter_next ht _).symm.trans stray_counts_twice)
  obtain ⟨hr, hz⟩ := stray_running
  rw [Counted, hr, hz, hobj] at hcount
  exact absurd hcount (by decide)
end

section
/-! SUPPORT. The checks of the guard, its mutes and their release (17 R553 to R567). -/
namespace Sys2Proof.Machine
open Sys2Proof.Safety

/-! ## What a detection leaves of the guard -/

/-- Of the guard nothing but the mutes and their log differs. -/
def MutesOnly (s t : State) : Prop := t.guard = { s.guard with mutes := t.guard.mutes, log := t.guard.log }

namespace MutesOnly
variable {s t u : State}

theorem of_guard (h : t.guard = s.guard) : MutesOnly s t := by rw [MutesOnly, h]

theorem refl (s : State) : MutesOnly s s := rfl

theorem trans (h1 : MutesOnly s t) (h2 : MutesOnly t u) : MutesOnly s u := by
  rw [MutesOnly] at *
  rw [h1] at h2
  exact h2

theorem ite (c : Prop) [Decidable c] (h1 : MutesOnly s t) (h2 : MutesOnly s u) : MutesOnly s (if c then t else u) := by
  split
  · exact h1
  · exact h2

theorem foldl {α : Type} {f : State → α → State} (h : ∀ a s, MutesOnly s (f s a)) (l : List α) (s : State) : MutesOnly s (l.foldl f s) := by
  induction l generalizing s with
  | nil => exact refl s
  | cons a l ih => exact (h a s).trans (ih _)

theorem refGood (h : MutesOnly s t) : t.guard.refGood = s.guard.refGood := (congrArg Guard.refGood h).trans rfl

theorem badConf (h : MutesOnly s t) : t.guard.badConf = s.guard.badConf := (congrArg Guard.badConf h).trans rfl

end MutesOnly

/-- The state in which a record stands in the mute log. -/
def muteLogged (r : Bytes) (s : State) : State := (s.bump O.muteLogCount 1).onGuard fun g => { g with log := keepLast 32 (g.log ++ [r]) }

theorem muteLogged_guard (r : Bytes) (s : State) : MutesOnly s (muteLogged r s) ∧ (muteLogged r s).guard.mutes = s.guard.mutes := ⟨rfl, rfl⟩

theorem muteLogged_leaves (r : Bytes) (s : State) : Leaves s (muteLogged r s) [.dict, .guard] [O.muteLogCount] :=
  Leaves.trans (Leaves.bump _ _ _ (by decide) (by decide)) (Leaves.onGuard _ _ (by decide))

theorem muteRecord_logs (cause scope unit event ats : Nat) (m : Int) (s : State) : ∃ r, muteRecord cause scope unit event ats m s = muteLogged r s :=
  ⟨_, rfl⟩

theorem muteRecord_guard (cause scope unit event ats : Nat) (m : Int) (s : State) : MutesOnly s (muteRecord cause scope unit event ats m s)
    ∧ (muteRecord cause scope unit event ats m s).guard.mutes = s.guard.mutes := by
  obtain ⟨r, hr⟩ := muteRecord_logs cause scope unit event ats m s
  rw [hr]
  exact muteLogged_guard r s

theorem muteRecord_leaves (cause scope unit event ats : Nat) (m : Int) (s : State) :
    Leaves s (muteRecord cause scope unit event ats m s) [.dict, .guard] [O.muteLogCount] := by
  obtain ⟨r, hr⟩ := muteRecord_logs cause scope unit event ats m s
  rw [hr]
  exact muteLogged_leaves r s

theorem muteRecord_counted (cause scope unit event ats : Nat) (m : Int) (s : State) : Counted s (muteRecord cause scope unit event ats m s) O.muteLogCount 1 :=
  State.obj_bump_same ..

/-- A mute as a detection that it covers leaves it. -/
def mutedAgain (cause : Nat) (measure : Int) (m : Mute) (s : State) : Mute :=
  { m with causes := addCause (cause, measure) m.causes, last := s.clock.ticks
           fresh := if (m.at' == s.clock.ticks && !m.complete) = true then addCause (cause, measure) m.fresh else m.fresh }

/-- The state in which one mute has become another. -/
def muteBecomes (m m' : Mute) (s : State) : State := s.onGuard fun g => { g with mutes := g.mutes.map fun x => if x = m then m' else x }

theorem addToMute_eq (cause : Nat) (measure : Int) (m : Mute) (s : State) : addToMute cause measure m s
    = if (!(m.at' == s.clock.ticks && !m.complete) && !(m.causes.any (·.1 == cause))) = true
      then muteRecord cause m.scope m.unit 1 (muteBecomes m (mutedAgain cause measure m s) s).atsNow measure (muteBecomes m (mutedAgain cause measure m s) s)
      else muteBecomes m (mutedAgain cause measure m s) s := rfl

theorem muteBecomes_mutesOnly (m m' : Mute) (s : State) : MutesOnly s (muteBecomes m m' s) := rfl

theorem muteBecomes_mem {m m' : Mute} {s : State} (h : m ∈ s.guard.mutes) : m' ∈ (muteBecomes m m' s).guard.mutes :=
  List.mem_map.mpr ⟨m, h, if_pos rfl⟩

theorem addToMute_guard (cause : Nat) (measure : Int) (m : Mute) (s : State) : MutesOnly s (addToMute cause measure m s)
    ∧ (addToMute cause measure m s).guard.mutes = (muteBecomes m (mutedAgain cause measure m s) s).guard.mutes := by
  rw [addToMute_eq]
  split
  · obtain ⟨h1, h2⟩ := muteRecord_guard cause m.scope m.unit 1 (muteBecomes m (mutedAgain cause measure m s) s).atsNow measure
      (muteBecomes m (mutedAgain cause measure m s) s)
    exact ⟨(muteBecomes_mutesOnly m _ s).trans h1, h2⟩
  · exact ⟨muteBecomes_mutesOnly .., rfl⟩

/-- The state in which the records of a mute's report are written. -/
def reportWritten (m : Mute) (s : State) : State :=
  m.fresh.foldl (fun s c => muteRecord c.1 m.scope m.unit (if m.widened then 1 else 0) m.ats c.2 s) s

/-- The detail of EMISSION_MUTE. -/
def reportDetail (m : Mute) : Bytes :=
  leBytes 1 (lowestCause m.fresh).1 ++ leBytes 1 m.scope ++ leBytes 2 m.unit ++ leBytes 8 m.ats ++ leBytes 4 (codeOf 32 (lowestCause m.fresh).2)

theorem completeMute_eq (m : Mute) (s : State) : completeMute m s
    = setCause 0 (raise (reportWritten m (muteBecomes m { m with complete := true } s)) O.emissionMuteCount m.unit (reportDetail m) 0) := rfl

theorem reportWritten_guard (m : Mute) (s : State) : MutesOnly s (reportWritten m s) ∧ (reportWritten m s).guard.mutes = s.guard.mutes :=
  ⟨MutesOnly.foldl (fun _ _ => (muteRecord_guard _ _ _ _ _ _ _).1) _ s,
    foldl_proj (fun t : State => t.guard.mutes) (f := fun s (c : Nat × Int) => muteRecord c.1 m.scope m.unit (if m.widened then 1 else 0) m.ats c.2 s)
      (fun _ _ => (muteRecord_guard _ _ _ _ _ _ _).2) m.fresh s⟩

theorem completeMute_guard (m : Mute) (s : State) : MutesOnly s (completeMute m s)
    ∧ (completeMute m s).guard.mutes = (muteBecomes m { m with complete := true } s).guard.mutes := by
  obtain ⟨h1, h2⟩ := reportWritten_guard m (muteBecomes m { m with complete := true } s)
  have hg : (completeMute m s).guard = (reportWritten m (muteBecomes m { m with complete := true } s)).guard := by
    rw [completeMute_eq]
    exact raise_guard ..
  exact ⟨((muteBecomes_mutesOnly m _ s).trans h1).trans (MutesOnly.of_guard hg), (congrArg Guard.mutes hg).trans h2⟩

/-! ## A new mute -/

/-- The mutes of a state that a scope takes in. -/
def mutesInside (scope unit : Nat) (s : State) : List Mute := s.guard.mutes.filter fun m => scopeCovers s scope unit m.scope m.unit

/-- Causes added, each with its first measure. -/
def mergeCauses (l new : List (Nat × Int)) : List (Nat × Int) := new.foldl (fun l c => addCause c l) l

/-- The state in which the mutes that a scope takes in, and that were detected before, have completed. -/
def innerCompleted (scope unit : Nat) (s : State) : State :=
  ((mutesInside scope unit s).filter fun m => !m.complete && m.at' != s.clock.ticks).foldl (fun s m => completeMute m s) s

/-- The mutes that join the report of a new one. -/
def joinedMutes (scope unit : Nat) (s : State) : List Mute := (mutesInside scope unit s).filter fun m => !m.complete && m.at' == s.clock.ticks

/-- The mute of a detection that no mute covers. -/
def newMute (cause scope unit : Nat) (measure : Int) (s : State) : Mute :=
  { scope := scope, unit := unit, causes := (mutesInside scope unit s).foldl (fun l x => mergeCauses l x.causes) [(cause, measure)]
    fresh := (joinedMutes scope unit s).foldl (fun l x => mergeCauses l x.fresh) [(cause, measure)]
    widened := decide ((joinedMutes scope unit s).length < (mutesInside scope unit s).length)
    at' := s.clock.ticks, ats := (innerCompleted scope unit s).atsNow, last := s.clock.ticks
    pin := scope == 3 || (innerCompleted scope unit s).obj O.mutePinMode == 1 || (mutesInside scope unit s).any (·.pin), complete := false }

/-- The state in which it stands among the mutes. -/
def muteListed (cause scope unit : Nat) (measure : Int) (s : State) : State :=
  (innerCompleted scope unit s).onGuard fun g =>
    { g with mutes := (g.mutes.filter fun x => !scopeCovers s scope unit x.scope x.unit) ++ [newMute cause scope unit measure s] }

theorem detect_new {cause scope unit : Nat} {measure : Int} {s : State} (h : (s.guard.mutes.find? fun m => scopeCovers s m.scope m.unit scope unit) = none) :
    detect cause scope unit measure s = gatesOff (showMutes (muteListed cause scope unit measure s)) := by
  unfold detect
  rw [h]
  rfl

theorem detect_again {cause scope unit : Nat} {measure : Int} {s : State} {m : Mute}
    (h : (s.guard.mutes.find? fun m => scopeCovers s m.scope m.unit scope unit) = some m) :
    detect cause scope unit measure s = addToMute cause measure m s := by
  rw [detect, h]

theorem gatesOff_guard (s : State) : (gatesOff s).guard = s.guard := (gatesOff_moves s).same .guard (by decide)

theorem showMutes_guard (s : State) : (showMutes s).guard = s.guard := (showMutes_moves s).same .guard (by decide)

theorem muteListed_mutesOnly (cause scope unit : Nat) (measure : Int) (s : State) :
    MutesOnly (innerCompleted scope unit s) (muteListed cause scope unit measure s) := rfl

theorem detect_guard (cause scope unit : Nat) (measure : Int) (s : State) : MutesOnly s (detect cause scope unit measure s) := by
  cases h : (s.guard.mutes.find? fun m => scopeCovers s m.scope m.unit scope unit) with
  | some m =>
    rw [detect_again h]
    exact (addToMute_guard ..).1
  | none =>
    rw [detect_new h]
    have hl : MutesOnly s (muteListed cause scope unit measure s) :=
      MutesOnly.trans (t := innerCompleted scope unit s) (MutesOnly.foldl (fun m s => (completeMute_guard m s).1) _ s) (muteListed_mutesOnly ..)
    exact hl.trans (MutesOnly.of_guard ((gatesOff_guard _).trans (showMutes_guard _)))

/-! ## A detection stands -/

theorem mem_addCause (c : Nat × Int) (l : List (Nat × Int)) : ∃ v, (c.1, v) ∈ addCause c l := by
  unfold addCause
  split
  · next h =>
    obtain ⟨d, hd, he⟩ := List.any_eq_true.mp h
    exact ⟨d.2, by rw [← beq_iff_eq.mp he]; exact hd⟩
  · exact ⟨c.2, List.mem_append_right _ (List.mem_singleton_self _)⟩

theorem mem_addCause_of_mem {c d : Nat × Int} {l : List (Nat × Int)} (h : d ∈ l) : d ∈ addCause c l := by
  unfold addCause
  split
  · exact h
  · exact List.mem_append_left _ h

theorem mem_mergeCauses {d : Nat × Int} {l : List (Nat × Int)} (h : d ∈ l) (new : List (Nat × Int)) : d ∈ mergeCauses l new := by
  unfold mergeCauses
  induction new generalizing l with
  | nil => exact h
  | cons c new ih => exact ih (mem_addCause_of_mem h)

theorem newMute_causes (cause scope unit : Nat) (measure : Int) (s : State) : (cause, measure) ∈ (newMute cause scope unit measure s).causes := by
  have h (ms : List Mute) (l : List (Nat × Int)) (hl : (cause, measure) ∈ l) : (cause, measure) ∈ ms.foldl (fun l x => mergeCauses l x.causes) l := by
    induction ms generalizing l with
    | nil => exact hl
    | cons m ms ih => exact ih _ (mem_mergeCauses hl _)
  exact h _ _ (List.mem_singleton_self _)

/-- Whether a mute covers a scope other than a chain is said by their numbers alone. -/
theorem scopeCovers_congr {scope : Nat} (h : scope ≠ 2) (s t : State) (a b unit : Nat) : scopeCovers t a b scope unit = scopeCovers s a b scope unit := by
  unfold scopeCovers sameScope
  have hs : (scope == 2) = false := by simpa using h
  by_cases ha : a = scope
  · have h2 : (a == 2) = false := by simpa [ha] using h
    simp only [h2, hs, Bool.false_and, Bool.and_false]
  · have h3 : (a == scope) = false := by simpa using ha
    simp only [h3, hs, Bool.false_and, Bool.and_false]

theorem scopeCovers_self (s : State) (scope unit : Nat) : scopeCovers s scope unit scope unit = true := by simp [scopeCovers, sameScope]

/-- After a detection of a scope other than a chain some mute in force covers the scope and holds the cause. -/
theorem detect_detected {scope : Nat} (hs : scope ≠ 2) (cause unit : Nat) (measure : Int) (s : State) : Detected (detect cause scope unit measure s) cause scope unit := by
  cases h : (s.guard.mutes.find? fun m => scopeCovers s m.scope m.unit scope unit) with
  | some m =>
    have hm := List.mem_of_find?_eq_some h
    have hc := List.find?_some (p := fun m : Mute => scopeCovers s m.scope m.unit scope unit) h
    rw [detect_again h]
    refine ⟨mutedAgain cause measure m s, ?_, ?_, mem_addCause (cause, measure) m.causes⟩
    · rw [(addToMute_guard ..).2]
      exact muteBecomes_mem hm
    · exact (scopeCovers_congr hs _ _ _ _ _).trans hc
  | none =>
    rw [detect_new h]
    refine ⟨newMute cause scope unit measure s, ?_, scopeCovers_self .., measure, newMute_causes ..⟩
    rw [gatesOff_guard, showMutes_guard]
    exact List.mem_append_right _ (List.mem_singleton_self _)

/-- The parts that a detection may change. -/
def detectParts : List Part := [.dict, .blobs, .guard, .link, .time]

theorem detect_same (cause scope unit : Nat) (measure : Int) (s : State) : SameBut s (detect cause scope unit measure s) detectParts :=
  (detect_moves cause scope unit measure s).same

theorem detect_obj {cause scope unit k : Nat} {measure : Int} {s : State} (h : ¬ MuteKey k) : (detect cause scope unit measure s).obj k = s.obj k :=
  (detect_moves cause scope unit measure s).obj k h

/-! ## MUTE_COMPLETE -/

theorem nat_bump_same (s : State) (k n : Nat) : (s.bump k n).nat k = (s.nat k + n) % counterTop k :=
  congrArg Int.toNat (State.obj_bump_same s k n)

theorem counted_succ {s t u : State} {k n : Nat} (h1 : Counted s t k 1) (h2 : Counted t u k n) : Counted s u k (1 + n) := by
  have hn : t.nat k = (s.nat k + 1) % counterTop k := congrArg Int.toNat h1
  rw [Counted, hn] at h2
  rw [Counted, h2, Nat.mod_add_mod, Nat.add_assoc]

/-- Records that are written count, each once. -/
theorem foldl_muteRecord_counted {α : Type} (f : α → State → State) (hf : ∀ a s, Counted s (f a s) O.muteLogCount 1) {l : List α} (h : l ≠ []) (s : State) :
    Counted s (l.foldl (fun s a => f a s) s) O.muteLogCount l.length := by
  induction l generalizing s with
  | nil => exact absurd rfl h
  | cons a l ih =>
    cases l with
    | nil => exact hf a s
    | cons b l =>
      have := counted_succ (hf a s) (ih (List.cons_ne_nil _ _) (f a s))
      rw [List.length_cons, Nat.add_comm]
      exact this

theorem reportWritten_counted {m : Mute} (h : m.fresh ≠ []) (s : State) : Counted s (reportWritten m s) O.muteLogCount m.fresh.length :=
  foldl_muteRecord_counted (fun (c : Nat × Int) s => muteRecord c.1 m.scope m.unit (if m.widened then 1 else 0) m.ats c.2 s)
    (fun _ _ => muteRecord_counted ..) h s

theorem reportWritten_leaves (m : Mute) (s : State) : Leaves s (reportWritten m s) [.dict, .guard] [O.muteLogCount] :=
  Leaves.foldl _ _ (fun _ _ _ => muteRecord_leaves _ _ _ _ _ _ _) s

/-- The objects that the completion of a mute may change. -/
def completeKeys : List Nat := [O.emissionMuteCount, O.muteLogCount, O.faultCauses, O.indicationsDropped]

theorem completeMute_leaves (m : Mute) (s : State) : Leaves s (completeMute m s) [.dict, .guard, .link] completeKeys := by
  rw [completeMute_eq]
  exact Leaves.trans (Leaves.trans (Leaves.onGuard _ _ (by decide)) (Leaves.mono (reportWritten_leaves ..) (by decide) (by decide)))
    (Leaves.trans (Leaves.raise _ _ _ _ _ (by decide) (by decide) (by decide) (by decide)) (Leaves.setCause _ _ (by decide) (by decide)))

theorem completeMute_counted {m : Mute} (h : m.fresh ≠ []) (s : State) : Counted s (completeMute m s) O.emissionMuteCount 1
    ∧ Counted s (completeMute m s) O.muteLogCount m.fresh.length ∧ bitOf ((completeMute m s).nat O.faultCauses) 0 = true := by
  have hw := reportWritten_leaves m (muteBecomes m { m with complete := true } s)
  rw [completeMute_eq]
  refine ⟨?_, ?_, bitOf_setCause ..⟩
  · refine (State.obj_setObj_ne _ _ _ _ (by decide)).trans ?_
    exact Counted.of_obj (s' := reportWritten m (muteBecomes m { m with complete := true } s)) (hw.2 _ (by decide)) (raise_counted _ _ _ _ _ (by decide))
  · refine (State.obj_setObj_ne _ _ _ _ (by decide)).trans ((State.obj_raise_ne _ _ _ _ _ _ (by decide) (by decide)).trans ?_)
    exact Counted.of_obj (s' := muteBecomes m { m with complete := true } s) rfl (reportWritten_counted h _)

/-! ## The guard through time -/

theorem onWraps_guard (n : Nat) (s : State) : (onWraps n s).guard.mutes = s.guard.mutes ∧ (onWraps n s).guard.log = s.guard.log := by
  induction n generalizing s with
  | zero => exact ⟨rfl, rfl⟩
  | succ n ih =>
    have h1 : (onWrap s).guard.mutes = s.guard.mutes ∧ (onWrap s).guard.log = s.guard.log := by
      unfold onWrap
      dsimp only
      split <;> exact ⟨rfl, rfl⟩
    exact ⟨(ih _).1.trans h1.1, (ih _).2.trans h1.2⟩

theorem advance_mutes (s : State) (n : Nat) : (advance s n).guard.mutes = s.guard.mutes ∧ (advance s n).guard.log = s.guard.log :=
  onWraps_guard (wrapsBetween s.clock.count (s.clock.count + n * incrOf s.steered)) s

/-! ## The comparison of the replica -/

theorem freeDiv_near (tag : Nat) (num : Int) {den : Nat} (h : 0 < den) : (freeDiv tag num (den : Int) * (den : Int) - num).natAbs < den := by
  have hd : (0 : Int) < den := by exact_mod_cast h
  have h1 := Int.emod_add_mul_ediv num den
  have h2 := Int.emod_nonneg num (by omega : (den : Int) ≠ 0)
  have h3 := Int.emod_lt_of_pos num hd
  unfold freeDiv
  split
  · next hz =>
    rw [hz, Int.zero_add, Int.mul_comm] at h1
    rw [h1]
    simpa using h
  · next hz =>
    split
    · have : (num / den + 1) * (den : Int) - num = den - num % den := by linarith [Int.mul_comm (den : Int) (num / den), h1, Int.add_mul (num / (den : Int)) 1 den]
      omega
    · have : (num / den + 0) * (den : Int) - num = -(num % den) := by linarith [Int.mul_comm (den : Int) (num / den), h1]
      omega

theorem nsUnit_pos : 0 < nsUnit := Nat.two_pow_pos 48

theorem Guard.filter_synth (g : Guard) (h : g.synth = []) (p : Nat × Nat → Bool) : { g with synth := g.synth.filter p } = g := by
  cases g
  subst h
  rfl

/-- The state in which the divergence has been written. -/
def divergenceShown (s : State) : State := s.setObj O.divergence (freeDiv 15 (s.guard.skew * 1000) (nsUnit : Nat))

theorem injectedOffset_nil {s : State} (h : s.guard.synth = []) : injectedOffset s = 0 := by
  rw [injectedOffset, h]
  rfl

theorem divergenceComparison_compares {s : State} (h : s.guard.synth = []) : exec .divergenceComparison s
    = .next (if s.nat O.divergenceLimit * nsUnit < s.guard.skew.natAbs then detect 5 3 0xFFFF (freeDiv 16 s.guard.skew (nsUnit : Nat)) (divergenceShown s)
      else divergenceShown s) := by
  have hg : (s.onGuard fun g => { g with synth := g.synth.filter fun x => x.1 != 7 }) = s :=
    congrArg (fun g => { s with guard := g }) (Guard.filter_synth s.guard h _)
  have hn : (divergenceShown s).nat O.divergenceLimit = s.nat O.divergenceLimit := State.nat_setObj_ne _ _ (by decide)
  show execDivergenceComparison s = _
  unfold execDivergenceComparison
  rw [injectedOffset_nil h, Int.add_zero, hg]
  dsimp only
  rw [← divergenceShown, hn]

/-- An object from 17 on that is none of the mutes' own. -/
theorem not_muteKey {k : Nat} (h : 0x600000 ≤ k)
    (hk : k ∉ [O.carriersMuted, O.portsMuted, O.deviceMuted, O.muteLogCount, O.emissionMuteCount, O.indicationsDropped, O.faultCauses]) : ¬ MuteKey k := by
  rintro ((⟨g, hg, h1 | h1⟩ | ⟨n, hn, h1⟩) | h1)
  · simp only [O.txgLevel] at h1
    omega
  · simp only [O.txgEdges] at h1
    omega
  · simp only [O.capLost] at h1
    omega
  · exact hk h1

/-! ## The reference, the copies and the chains -/

/-- The state in which the reference is not good. -/
def referenceLost (s : State) : State := s.onGuard fun g => { g with refGood := none }

theorem referenceLost_detected (measure : Int) (s : State) : Detected (detect 6 3 0xFFFF measure (referenceLost s)) 6 3 0xFFFF
    ∧ (detect 6 3 0xFFFF measure (referenceLost s)).guard.refGood = none
    ∧ SameBut s (detect 6 3 0xFFFF measure (referenceLost s)) [.blobs, .dict, .guard, .link, .time] :=
  ⟨detect_detected (by decide) _ _ _ _, (detect_guard ..).refGood,
    SameBut.trans (Leaves.onGuard (ks := []) s (fun g => { g with refGood := none }) (by decide)).1
      (SameBut.mono (detect_same _ _ _ _ _) (by decide))⟩

/-- A detection for the device where nothing is muted takes both pins' and DEVICE_MUTED's state. -/
theorem detect_device {cause : Nat} {measure : Int} {s : State} (h : s.guard.mutes = []) :
    (detect cause 3 0xFFFF measure s).muteLow = true ∧ (detect cause 3 0xFFFF measure s).obj O.deviceMuted = 1 := by
  have hf : (s.guard.mutes.find? fun m => scopeCovers s m.scope m.unit 3 0xFFFF) = none := by rw [h]; rfl
  have hm : (muteListed cause 3 0xFFFF measure s).guard.mutes = [newMute cause 3 0xFFFF measure s] := by
    have hi : innerCompleted 3 0xFFFF s = s := by
      rw [innerCompleted, mutesInside, h]
      rfl
    rw [muteListed, hi]
    show (s.guard.mutes.filter _) ++ _ = _
    rw [h]
    rfl
  have hg : (detect cause 3 0xFFFF measure s).guard.mutes = [newMute cause 3 0xFFFF measure s] := by
    rw [detect_new hf, gatesOff_guard, showMutes_guard, hm]
  refine ⟨?_, ?_⟩
  · rw [State.muteLow, hg]
    exact Bool.or_eq_true_iff.mpr (.inr rfl)
  · have hk : ¬ GateKey O.deviceMuted := by
      rintro (⟨g, hg, h1 | h1⟩ | ⟨n, hn, h1⟩)
      · simp only [O.txgLevel, O.deviceMuted] at h1
        omega
      · simp only [O.txgEdges, O.deviceMuted] at h1
        omega
      · simp only [O.capLost, O.deviceMuted] at h1
        omega
    rw [detect_new hf, (gatesOff_moves _).obj _ hk]
    refine (State.obj_setObj_same ..).trans (if_pos ?_)
    show (muteListed cause 3 0xFFFF measure s).guard.mutes.any _ = true
    rw [hm]
    rfl

theorem offFrequency_running {s : State} (cycles : Nat) (h : s.guard.rtcOff = false) :
    offFrequency s cycles = decide (800 < ((cycles : Int) * 100 - 953674).natAbs) := by
  unfold offFrequency
  dsimp only
  rw [h]
  rfl

theorem workingCopy_congr {s t : State} (hd : t.dict = s.dict) (hb : t.blobs = s.blobs) (n : Nat) : workingCopy n t = workingCopy n s := by
  unfold workingCopy State.chainsOf State.nat
  simp only [State.obj_congr hd, State.blob_congr hb]

/-- The state in which a copy's own CRC has been judged. -/
def copyJudged (n : Nat) (ok : Bool) (c : Copy) (s : State) : State :=
  s.onGuard fun g => { g with copies := Store.put g.copies n { c with sound := ok } }

theorem guardAudit_judges {n : Nat} {ok : Bool} {c : Copy} {s : State} (hn : n < 64) (hc : Store.find s.guard.copies n = some c) :
    exec (.guardAudit n ok) s = .next (if ok = true ∧ { c with sound := true } = workingCopy n s then copyJudged n ok c s
      else detect 8 0 n (freeCode (copyJudged n ok c s)).1 ((freeCode (copyJudged n ok c s)).2.bump O.auditMismatches 1)) := by
  have hw : workingCopy n (copyJudged n ok c s) = workingCopy n s := workingCopy_congr rfl rfl n
  show execGuardAudit n ok s = _
  unfold execGuardAudit
  rw [if_neg (by omega), hc]
  dsimp only
  rw [← copyJudged, hw]
  by_cases hg : ok = true ∧ { c with sound := true } = workingCopy n s
  · rw [if_pos hg, if_pos (by simpa using hg)]
  · rw [if_neg hg, if_neg (by simpa using hg)]

theorem freeCode_state (s : State) : (freeCode s).2 = { s with freeCtr := s.freeCtr + 1 } := rfl

theorem freeCode_same (s : State) : SameBut s (freeCode s).2 [.freeCtr] := by
  intro p hp
  cases p with
  | freeCtr => exact absurd (List.mem_singleton_self _) hp
  | _ => rfl

theorem gangCarrier_own {s : State} {c : Nat} (h : s.chainCarrier c < 64) : s.gangCarrier c = s.chainCarrier c := by
  have hne : s.obj (O.dfeUser c) ≠ 0x81 := fun he => by
    have : s.chainCarrier c = 0x81 := by rw [State.chainCarrier, State.nat, he]; rfl
    omega
  have hg : gangHead s c = c := if_pos (by simpa using hne)
  rw [State.gangCarrier, hg]

/-- The state in which a check of a chain's configuration has been taken. -/
def confChecked (c : Nat) (ok : Bool) (s : State) : State :=
  (takeCrcInjection c s).onGuard fun g => { g with badConf := if ok then g.badConf.filter (· != c) else (g.badConf ++ [c]).eraseDups }

theorem guardConfigCrcCheck_checks {c : Nat} (ok : Bool) {s : State} (hc : c < 128) (hn : s.chainCarrier c < 64) :
    exec (.guardConfigCrcCheck c ok) s = .next (if (!ok || s.guard.synth.contains (8, c)) = true
      then detect 4 0 (s.chainCarrier c) c (confChecked c ok s) else confChecked c ok s) := by
  have hg : (confChecked c ok s).gangCarrier c = s.chainCarrier c := (gangCarrier_own (s := confChecked c ok s) hn).trans rfl
  show execGuardConfigCrcCheck c ok s = _
  unfold execGuardConfigCrcCheck
  rw [if_neg (by omega), if_neg (by rw [gangCarrier_own hn]; omega)]
  dsimp only
  rw [← confChecked, hg]

theorem confChecked_bad (c : Nat) (s : State) : c ∈ (confChecked c false s).guard.badConf := by
  show c ∈ ((takeCrcInjection c s).guard.badConf ++ [c]).eraseDups
  rw [List.mem_eraseDups]
  exact List.mem_append_right _ (List.mem_singleton_self _)

theorem confChecked_good (c : Nat) (s : State) : c ∉ (confChecked c true s).guard.badConf := by
  show c ∉ (takeCrcInjection c s).guard.badConf.filter (· != c)
  simp

theorem confChecked_leaves (c : Nat) (ok : Bool) (s : State) : Leaves s (confChecked c ok s) [.guard] [] :=
  Leaves.trans (Leaves.onGuard _ _ (by decide)) (Leaves.onGuard _ _ (by decide))

/-! ## The power meter -/

/-- The state in which a block's power is in PWR_MAX. -/
def powerShown (n : Nat) (power : Int) (s : State) : State := s.setObj (O.pwrMax n) (max (s.obj (O.pwrMax n)) power)

theorem powerMeterBlock_meters {n : Nat} {power : Int} {s : State} (hn : n < 64) (he : s.obj (O.carrierEnable n) ≠ 0) (hd : s.obj (O.fhDomain n) = 1)
    (hs : (5, n) ∉ s.guard.synth) : exec (.powerMeterBlock n power) s
      = .next (if 2 * s.obj (O.guardPwrLimit n) + 15 ≤ 2 * power then detect 3 0 n (power - s.obj (O.guardPwrLimit n)) (powerShown n power s)
        else powerShown n power s) := by
  have hl : (powerShown n power s).obj (O.guardPwrLimit n) = s.obj (O.guardPwrLimit n) :=
    State.obj_setObj_ne _ _ _ _ (by simp only [O.guardPwrLimit, O.pwrMax]; omega)
  have hg : s.guard.synth.contains (5, n) = false := by simpa using hs
  have hgd : (powerShown n power s).guard = s.guard := State.setObj_guard ..
  show execPowerMeterBlock n power s = _
  unfold execPowerMeterBlock
  rw [if_neg (by omega), if_pos (by simp [State.holds, stOff, he, hd])]
  unfold meter
  dsimp only
  rw [← powerShown, hl, hgd, hg, if_neg Bool.false_ne_true]

/-! ## Release -/

/-- The guard among what a write may change needs no mention: time's passing may change it too. -/
theorem Answers.drop_guard {s t : State} {x : Xfer} {key : Nat} {v : Val} {r : Reason} {ps : List Part} {ks : List Nat}
    (h : Answers s t x key v r (.guard :: ps) ks) : Answers s t x key v r ps ks := by
  obtain ⟨h1, h2, h3⟩ := h
  refine ⟨h1, SameBut.mono h2 fun p hp => ?_, h3⟩
  rcases List.mem_cons.mp hp with rfl | hp
  · refine List.mem_append_right _ (List.mem_cons_of_mem _ (List.mem_cons_of_mem _ ?_))
    split <;> decide
  · exact hp

theorem actMuteRelease_names {v : Int} {scope unit : Nat} (h : (v = 0xFFFF ∧ scope = 3 ∧ unit = 0xFFFF) ∨ (scope = 0 ∧ unit < 64 ∧ v = unit)
    ∨ (scope = 1 ∧ unit < 24 ∧ v = 0x100 + unit) ∨ (scope = 2 ∧ unit < 128 ∧ v = 0x200 + unit)) : actMuteRelease v = releaseMute scope unit := by
  unfold actMuteRelease
  dsimp only
  rcases h with ⟨rfl, rfl, rfl⟩ | ⟨rfl, hu, rfl⟩ | ⟨rfl, hu, rfl⟩ | ⟨rfl, hu, rfl⟩
  · rfl
  · rw [if_neg (by omega), if_pos (by omega)]
    rfl
  · rw [if_neg (by omega), if_neg (by omega), if_pos (by omega)]
    exact congrArg (releaseMute 1) (by omega)
  · rw [if_neg (by omega), if_neg (by omega), if_neg (by omega), if_pos (by omega)]
    exact congrArg (releaseMute 2) (by omega)

/-- The state in which the mute of a scope has ended. -/
def muteEnded (scope unit : Nat) (s : State) : State :=
  showMutes (s.onGuard fun g =>
    { g with mutes := g.mutes.filter fun x => !sameScope s x.scope x.unit scope unit
             reopen := (g.reopen.filter fun r => !(r.1 == scope && r.2.1 == unit)) ++ [(scope, unit, s.airNow)] })

theorem releaseMute_refused {scope unit : Nat} {m : Mute} {s : State} (h : (s.guard.mutes.find? fun m => sameScope s m.scope m.unit scope unit) = some m)
    (ht : (m.causes.all fun c => releaseTest s m.scope m.unit c.1) = false) : releaseMute scope unit s = (.safetyMuted, s) := by
  unfold releaseMute
  rw [h]
  dsimp only
  rw [ht]
  rfl

theorem releaseMute_ends {scope unit : Nat} {m : Mute} {s : State} (h : (s.guard.mutes.find? fun m => sameScope s m.scope m.unit scope unit) = some m)
    (ht : (m.causes.all fun c => releaseTest s m.scope m.unit c.1) = true) (hl : m.last ≠ s.clock.ticks) (hc : m.complete = true) :
    releaseMute scope unit s
      = (.ok, muteRecord (lowestCause m.causes).1 m.scope m.unit 2 (muteEnded scope unit s).atsNow 0 (muteEnded scope unit s)) := by
  unfold releaseMute
  rw [h]
  dsimp only
  rw [ht, hc, if_neg (by decide), if_neg (by simpa using hl), if_pos rfl]
  rfl

theorem showMutes_leaves (s : State) : Leaves s (showMutes s) [.dict, .blobs] [O.carriersMuted, O.portsMuted, O.deviceMuted] :=
  Leaves.trans (Leaves.setObj _ _ _ (by decide) (by decide)) (Leaves.trans (Leaves.setObj _ _ _ (by decide) (by decide))
    (Leaves.trans (Leaves.setBlob _ _ _ (by decide)) (Leaves.setObj _ _ _ (by decide) (by decide))))

theorem muteEnded_leaves (scope unit : Nat) (s : State) :
    Leaves s (muteEnded scope unit s) [.dict, .guard, .blobs] [O.carriersMuted, O.portsMuted, O.deviceMuted] :=
  Leaves.trans (Leaves.onGuard _ _ (by decide)) (Leaves.mono (showMutes_leaves _) (by decide) (fun _ h => h))

theorem muteEnded_mutes {scope unit : Nat} {s : State} {m : Mute} (h : m ∈ (muteEnded scope unit s).guard.mutes) :
    ¬ (m.scope = scope ∧ m.unit = unit) := by
  rw [muteEnded, showMutes_guard] at h
  have hf := (List.mem_filter.mp h).2
  rintro ⟨rfl, rfl⟩
  simp [sameScope] at hf

theorem noCarrier_advance (s : State) (n : Nat) : (advance s n).noCarrier = s.noCarrier := by
  unfold State.noCarrier State.isOff
  simp only [State.obj_congr (advance_dict s n)]

theorem sameScope_advance (s : State) (n a b c d : Nat) : sameScope (advance s n) a b c d = sameScope s a b c d := by
  unfold sameScope gangHead State.chainCarrier State.gang State.nat
  simp only [State.obj_congr (advance_dict s n)]

theorem obj_congr_of_same {s t : State} {ps : List Part} (h : SameBut s t ps) (hd : Part.dict ∉ ps) (k : Nat) : t.obj k = s.obj k :=
  State.obj_congr (h .dict hd) k

/-- A detection whose state before it left some parts as they were. -/
theorem detect_same_after {s u : State} {ps : List Part} (h : SameBut s u ps) (cause scope unit : Nat) (measure : Int) :
    SameBut s (detect cause scope unit measure u) (ps ++ detectParts) :=
  SameBut.trans (SameBut.mono h fun _ hp => List.mem_append_left _ hp)
    (SameBut.mono (detect_same cause scope unit measure u) fun _ hp => List.mem_append_right _ hp)

theorem isEnable_muteLog : isEnable O.muteLog = false := by decide +kernel

/-- The state in which the reference is good, since now if it was not. -/
def referenceGood (s : State) : State := s.onGuard fun g => { g with refGood := if g.refGood.isSome = true then g.refGood else some s.clock.ticks }

theorem referenceFrequencyCheck_checks (cycles : Nat) (s : State) : exec (.referenceFrequencyCheck cycles) s
    = .next (if offFrequency s cycles = true
      then detect 6 3 0xFFFF (freeDiv 17 (((cycles : Int) * 100 - 953674) * 1000000) 953674) (referenceLost s) else referenceGood s) := by
  show execReferenceFrequencyCheck cycles s = _
  unfold execReferenceFrequencyCheck
  split
  · rfl
  · split
    next h =>
      have hg : referenceGood s = s := congrArg (fun g => { s with guard := g }) (congrArg (fun r => { s.guard with refGood := r }) (if_pos h))
      rw [hg]
    next h =>
      have hg : referenceGood s = s.onGuard fun g => { g with refGood := some s.clock.ticks } :=
        congrArg (fun g => { s with guard := g }) (congrArg (fun r => { s.guard with refGood := r }) (if_neg h))
      rw [hg]

end Sys2Proof.Machine
open Sys2Proof Sys2Proof.Machine Sys2Proof.Safety

/-- Settles O49: each check by the detection that it makes or does not, a mute's end by the release of its causes. -/
theorem guardChecks : Obligations.GuardChecks := by
  unfold Obligations.GuardChecks
  refine ⟨fun s hs => ?_, fun m s hm hf => ?_, fun s => ⟨?_, ?_, ⟨_, rfl, rfl⟩⟩, fun cycles s => ?_, fun n ok c s hn hc => ?_, fun c s hc hn => ⟨?_, fun hsy => ?_⟩,
    fun n power s hn he hd hs => ?_, fun code s => ⟨rfl, ?_⟩, fun pass s h0 hp => ?_, fun x v scope unit m s h hv hm hc hl => ?_, fun x s h => ?_,
    fun x oldest rest s hr hl => ?_⟩
  · have hsame : SameBut s (divergenceShown s) [.dict] := SameBut.setObj s _ _ _ (by decide)
    have hnear : ((divergenceShown s).obj O.divergence * nsUnit - s.guard.skew * 1000).natAbs < nsUnit := by
      rw [divergenceShown, State.obj_setObj_same]
      exact freeDiv_near 15 _ nsUnit_pos
    refine ⟨_, divergenceComparison_compares hs, ?_⟩
    split
    · exact ⟨detect_detected (by decide) _ _ _ _, by rw [detect_obj (not_muteKey (by decide) (by decide))]; exact hnear,
        SameBut.mono (detect_same_after hsame _ _ _ _) (by decide)⟩
    · exact ⟨State.setObj_guard .., hnear, SameBut.mono hsame (by decide)⟩
  · have hg : m ∈ (advanceTicks s (m.at' + ticksOfNs 2000)).guard.mutes := by
      rw [advanceTicks, (advance_mutes ..).1]
      exact List.mem_of_find?_eq_some hm
    have hl := completeMute_leaves m (advanceTicks s (m.at' + ticksOfNs 2000))
    obtain ⟨hc1, hc2, hc3⟩ := completeMute_counted hf (advanceTicks s (m.at' + ticksOfNs 2000))
    have ho (k : Nat) : (advanceTicks s (m.at' + ticksOfNs 2000)).obj k = s.obj k := State.obj_congr (advance_dict _ _) k
    refine ⟨completeMute m (advanceTicks s (m.at' + ticksOfNs 2000)), ?_, ?_, ?_, Counted.of_obj (ho _) hc1, Counted.of_obj (ho _) hc2, hc3, ?_⟩
    · show execMuteComplete s = _
      rw [execMuteComplete, hm]
    · have ht : (completeMute m (advanceTicks s (m.at' + ticksOfNs 2000))).clock = (advanceTicks s (m.at' + ticksOfNs 2000)).clock := hl.1 .clock (by decide)
      rw [ht]
      exact le_advanceTicks _ _
    · rw [(completeMute_guard ..).2]
      exact muteBecomes_mem hg
    · exact Leaves.trans (advanceTicks_leaves _ _ (by decide)) (Leaves.mono hl (by decide) (by decide))
  · obtain ⟨h1, h2, h3⟩ := referenceLost_detected (-1) s
    exact ⟨_, rfl, h1, h2, fun h => detect_device (s := referenceLost s) h, h3⟩
  · exact ⟨_, rfl, detect_detected (by decide) _ _ _ _, SameBut.mono (detect_same_after (freeCode_same s) _ _ _ _) (by decide)⟩
  · refine ⟨_, referenceFrequencyCheck_checks cycles s, ?_⟩
    split
    next ho =>
      obtain ⟨h1, h2, h3⟩ := referenceLost_detected (freeDiv 17 (((cycles : Int) * 100 - 953674) * 1000000) 953674) s
      refine ⟨h3, fun hr => ?_⟩
      rw [if_pos (of_decide_eq_true ((offFrequency_running cycles hr).symm.trans ho))]
      exact ⟨h1, h2⟩
    next ho =>
      refine ⟨SameBut.mono (Leaves.onGuard (ks := []) (ps := [.guard]) s _ (by decide)).1 (by decide), fun hr => ?_⟩
      rw [if_neg fun h => ho ((offFrequency_running cycles hr).trans (decide_eq_true h))]
      rfl
  · refine ⟨_, guardAudit_judges hn hc, ?_⟩
    split
    next ho =>
      obtain ⟨rfl, -⟩ := ho
      exact ⟨SameBut.mono (Leaves.onGuard (ks := []) (ps := [.guard]) s _ (by decide)).1 (by decide), rfl, rfl⟩
    · have hb : SameBut s ((freeCode (copyJudged n ok c s)).2.bump O.auditMismatches 1) [.guard, .freeCtr, .dict] :=
        SameBut.trans (Leaves.onGuard (ks := []) s _ (by decide)).1 (SameBut.trans (SameBut.mono (freeCode_same _) (by decide)) (SameBut.bump _ _ _ _ (by decide)))
      refine ⟨SameBut.mono (detect_same_after hb _ _ _ _) (by decide), detect_detected (by decide) _ _ _ _, ?_⟩
      exact (detect_obj (not_muteKey (by decide) (by decide))).trans (State.obj_bump_same ..)
  · refine ⟨_, guardConfigCrcCheck_checks false hc hn, ?_⟩
    rw [if_pos (by simp)]
    exact ⟨detect_detected (by decide) _ _ _ _, by rw [(detect_guard ..).badConf]; exact confChecked_bad c s,
      SameBut.mono (detect_same_after (confChecked_leaves c false s).1 _ _ _ _) (by decide)⟩
  · refine ⟨_, guardConfigCrcCheck_checks true hc hn, ?_⟩
    rw [if_neg (by simpa using hsy)]
    exact ⟨confChecked_good c s, rfl, confChecked_leaves c true s⟩
  · have hsame : Leaves s (powerShown n power s) [.dict] [O.pwrMax n] := Leaves.setObj _ _ _ (by decide) (by simp)
    have hmax : (powerShown n power s).obj (O.pwrMax n) = max (s.obj (O.pwrMax n)) power := State.obj_setObj_same ..
    refine ⟨_, powerMeterBlock_meters hn he hd hs, ?_⟩
    split
    · refine ⟨?_, detect_detected (by decide) _ _ _ _, SameBut.mono (detect_same_after hsame.1 _ _ _ _) (by decide)⟩
      rw [detect_obj (not_muteKey (by simp only [O.pwrMax]; omega) (by simp only [O.pwrMax, O.carriersMuted, O.portsMuted, O.deviceMuted, O.muteLogCount,
        O.emissionMuteCount, O.indicationsDropped, O.faultCauses, List.mem_cons, List.not_mem_nil, or_false]; omega)), hmax]
    · exact ⟨hmax, hsame, SameBut.mono hsame.1 (by decide)⟩
  · exact ⟨_, rfl, detect_detected (by decide) _ _ _ _, SameBut.mono (detect_same _ _ _ _ _) (by decide)⟩
  · have he : exec (.guardArmed pass) s = .next (if pass then s.setObj O.guardState 1 else setCause 6 (s.setObj O.guardState 2)) := by
      show execGuardArmed pass s = _
      rw [execGuardArmed, if_neg (by simp [h0, hp])]
      cases pass <;> rfl
    refine ⟨_, he, ?_⟩
    cases pass with
    | true => exact ⟨State.obj_setObj_same .., fun h => absurd h (by decide), Leaves.setObj _ _ _ (by decide) (by decide)⟩
    | false =>
      refine ⟨?_, fun _ => bitOf_setCause .., Leaves.trans (Leaves.setObj _ _ _ (by decide) (by decide)) (Leaves.setCause _ _ (by decide) (by decide))⟩
      exact (State.obj_setObj_ne _ _ _ _ (by decide)).trans (State.obj_setObj_same ..)
  · have hm' : ((advance s x.dt).guard.mutes.find? fun m => sameScope (advance s x.dt) m.scope m.unit scope unit) = some m := by
      rw [(advance_mutes s x.dt).1]
      simp only [sameScope_advance]
      exact hm
    refine ⟨_, rfl, ?_⟩
    rw [actMuteRelease_names hv]
    split
    next ht =>
      have hlv : Leaves (advance s x.dt) (muteRecord (lowestCause m.causes).1 m.scope m.unit 2 (muteEnded scope unit (advance s x.dt)).atsNow 0
          (muteEnded scope unit (advance s x.dt))) [.dict, .guard, .blobs] [O.muteLogCount, O.carriersMuted, O.portsMuted, O.deviceMuted] :=
        Leaves.trans (Leaves.mono (muteEnded_leaves _ _ _) (fun _ h => h) (by decide)) (Leaves.mono (muteRecord_leaves _ _ _ _ _ _ _) (by decide) (by decide))
      obtain ⟨hans, hsame, hobj⟩ := hostWrite_does (ps := [.guard, .blobs]) h ((congrArg _ (atWrite_num ..)).trans (releaseMute_ends hm' ht hl hc))
        (by rw [atWrite_num]; exact hlv) (by decide)
      refine ⟨fun m' hm2 => ?_, ?_, Answers.drop_guard hans⟩
      · rw [hsame .guard (by decide), (muteRecord_guard _ _ _ _ _ _ _).2] at hm2
        exact muteEnded_mutes hm2
      · have hends := muteEnded_leaves scope unit (advance s x.dt)
        refine Counted.of_obj (s' := muteEnded scope unit (advance s x.dt)) ?_ ((hobj _ (by decide)).trans (muteRecord_counted ..))
        exact (hends.2 _ (by decide)).trans (State.obj_congr (advance_dict _ _) _)
    next ht =>
      obtain ⟨hans, hsame, -⟩ := hostWrite_does (ps := []) (ks := []) h ((congrArg _ (atWrite_num ..)).trans (releaseMute_refused hm' (by simpa using ht)))
        (by rw [atWrite_num]; exact Leaves.refl ..) (by decide)
      refine ⟨?_, hans⟩
      rw [hsame .guard (by decide)]
      exact (advance_mutes s x.dt).1
  · refine ⟨_, rfl, ?_⟩
    split
    next hn =>
      obtain ⟨hans, hsame, -⟩ := hostWrite_does (ps := [.guard]) (ks := []) h (show actGuardResync (atWrite s x O.guardResync (.num 1)) = _ from
        if_pos (by rw [atWrite_num, noCarrier_advance]; exact hn)) (Leaves.onGuard _ _ (by decide)) (by decide)
      exact ⟨congrArg Guard.resync (hsame .guard (by decide)), Answers.drop_guard hans⟩
    next hn =>
      exact (hostWrite_does (ps := []) (ks := []) h (show actGuardResync (atWrite s x O.guardResync (.num 1)) = _ from
        if_neg (by rw [atWrite_num, noCarrier_advance]; exact hn)) (Leaves.refl ..) (by decide)).1
  · have hv : (advance s x.dt).guard.log.head? = some oldest := by rw [(advance_mutes s x.dt).2, hl]; rfl
    obtain ⟨hp, ho⟩ := popReplied_frame x O.muteLog oldest s
    refine ⟨_, congrArg Host.Outcome.next (hostPop_served hr hv), ?_, popReplied_sent isEnable_muteLog, ?_, ho⟩
    · show (popReplied x O.muteLog oldest s).guard.log.drop 1 = rest
      rw [show (popReplied x O.muteLog oldest s).guard.log = (advance s x.dt).guard.log from rfl, (advance_mutes s x.dt).2, hl]
      rfl
    · exact SameBut.trans (SameBut.mono hp (by decide)) (Leaves.onGuard (ks := []) _ _ (by decide)).1
end

section
/-! SUPPORT. WATCH: its enable, its wakes and its captures (18 R592 to R598). -/
namespace Sys2Proof.Machine
open Sys2Proof.Safety

/-! ## Parts of the power state -/

theorem Leaves.onWatch (s : State) (f : Watch → Watch) {ps : List Part} {ks : List Nat} (h : Part.power ∈ ps) : Leaves s (s.onWatch f) ps ks :=
  Leaves.onPower _ _ h

theorem drawEdge_leaves (s : State) {ks : List Nat} : Leaves s (drawEdge s) [.freeCtr, .power] ks :=
  Leaves.trans (Leaves.free _ (by decide)) (Leaves.onWatch _ _ (by decide))

/-- What a draw of the next alarm's RTC edge keeps of the power state: all but the edge. -/
theorem drawEdge_power (s : State) : (drawEdge s).power = { s.power with watch := { s.power.watch with early := (drawEdge s).power.watch.early } } := rfl

/-! ## WATCH_ENABLE -/

theorem nlIdle_leaves (s : State) : Leaves s (nlIdle s) [.dict, .svc] [O.nlEnable, O.nlState, O.dfeUser (s.nat O.nlChain)] := by
  unfold nlIdle
  exact Leaves.ite _ (Leaves.setObj _ _ _ (by decide) (by simp)) (Leaves.ite _
    (Leaves.trans (Leaves.mono (nlRelease_leaves s) (by decide) (by simp)) (Leaves.mono (shutDone_leaves _ _) (by decide) (by simp)))
    (Leaves.setObj _ _ _ (by decide) (by simp)))

theorem nlIdle_state (s : State) : (nlIdle s).obj O.nlState ≠ 2 := by
  unfold nlIdle
  split
  · rw [State.obj_setObj_same]
    decide
  · split
    · rw [shutDone_obj _ _ _ (by decide), nlRelease, State.obj_setObj_same]
      decide
    · rw [State.obj_setObj_same]
      decide

theorem abandonGap_leaves (s : State) : Leaves s (abandonGap s) [.dict, .nl, .svc] [O.nlEnable, O.nlState, O.dfeUser (s.nat O.nlChain)] := by
  unfold abandonGap
  exact Leaves.ite _ (Leaves.trans (Leaves.onNl s (fun l => { l with current := none, frozen := false, freezing := false }) (by decide))
    (Leaves.mono (nlIdle_leaves _) (by decide) (fun _ h => h))) (Leaves.refl ..)

theorem abandonGap_state (s : State) : (abandonGap s).obj O.nlState ≠ 2 := by
  unfold abandonGap
  split
  · exact nlIdle_state _
  next h => simpa using h

theorem watchEnter_leaves (s : State) : Leaves s (watchEnter s) [.dict, .nl, .svc, .power, .freeCtr]
    [O.watchState, O.nlEnable, O.nlState, O.dfeUser (s.nat O.nlChain)] :=
  Leaves.trans (Leaves.mono (abandonGap_leaves s) (by decide) (by simp)) (Leaves.trans (Leaves.setObj _ _ _ (by decide) (by simp))
    (Leaves.trans (Leaves.onWatch _ _ (by decide)) (Leaves.mono (drawEdge_leaves _ (ks := [])) (by decide) (by simp))))

theorem watchEnter_shows (s : State) : (watchEnter s).obj O.watchState = 1 ∧ (watchEnter s).obj O.nlState ≠ 2
    ∧ (watchEnter s).power.watch.awake = false ∧ (watchEnter s).power.watch.left = [] ∧ (watchEnter s).power.rail = s.power.rail
    ∧ (watchEnter s).power.moving = s.power.moving := by
  have hp : (abandonGap s).power = s.power := (abandonGap_leaves s).1 .power (by decide)
  have hd : (watchEnter s).dict = ((abandonGap s).setObj O.watchState 1).dict := rfl
  have h2 : (watchEnter s).obj O.nlState = (abandonGap s).obj O.nlState := (State.obj_congr hd _).trans (State.obj_setObj_ne _ _ _ _ (by decide))
  refine ⟨(State.obj_congr hd _).trans (State.obj_setObj_same ..), h2 ▸ abandonGap_state s, rfl, rfl, ?_, ?_⟩
  · exact Eq.trans (b := (abandonGap s).power.rail) rfl (congrArg Power.rail hp)
  · exact Eq.trans (b := (abandonGap s).power.moving) rfl (congrArg Power.moving hp)

theorem watchRules_key : watchRules.key = O.watchEnable := rfl

theorem watchRules_settle_leaves (r : Reason) (s : State) : Leaves s (watchRules.settle r s) [.dict, .nl, .svc, .power, .freeCtr]
    [O.watchEnable, O.watchState, O.nlEnable, O.nlState, O.dfeUser (s.nat O.nlChain)] := by
  by_cases h : r = .ok
  · rw [h, EnableRules.settle_ok]
    have hn : (s.setObj O.watchEnable 1).nat O.nlChain = s.nat O.nlChain := State.nat_setObj_ne _ _ (by decide)
    refine Leaves.trans (Leaves.setObj _ _ _ (by decide) (by simp [watchRules_key])) (Leaves.mono (watchEnter_leaves _) (fun _ h => h) ?_)
    rw [watchRules_key, hn]
    simp
  · rw [EnableRules.settle_refused _ _ h]
    exact Leaves.setObj _ _ _ (by decide) (by simp [watchRules_key])

theorem ready_latching {s : State} (h : s.ready = true) : s.obj O.watchState = 0 := by
  rw [State.ready, Bool.and_eq_true, Bool.and_eq_true, State.latching] at h
  simpa using h.1.2

/-- The objects that a write of 1 to WATCH_ENABLE may change. -/
def watchOnKeys (chain : Nat) : List Nat :=
  [O.watchEnable, O.watchState, O.nlEnable, O.nlState, O.dfeUser chain, O.lastCheckObject, O.lastCheckReason, O.enableLogCount, O.changeCount]

theorem watchRules_judge {x : Xfer} {s : State} (hb : s.obj O.bootState ≠ 5) :
    watchRules.judge (atWrite s x O.watchEnable (.num 1)) = watchCheck (advance s x.dt) := by
  rw [EnableRules.judge_check _ (by rwa [atWrite_obj]), atWrite_num]
  rfl

/-- What follows the check of an enable only records it. -/
theorem EnableRules.afterOn_records (e : EnableRules) (s : State) : Leaves (e.settle (e.judge s) s) (e.afterOn s) [.dict, .svc] checkKeys := by
  have hl := Leaves.trans (Leaves.mono (qs := [.dict, .svc]) (ls := checkKeys) (recordCheck_leaves e.key (e.judge s) (e.settle (e.judge s) s)) (by decide) (by decide))
    (Leaves.mono (logEnable_leaves e.key 0 (e.judge s) _) (by decide) (by decide))
  unfold EnableRules.afterOn
  dsimp only
  split
  · exact Leaves.trans hl (Leaves.mono (setAsked_leaves ..) (by decide) (by decide))
  · exact hl

theorem writeWatchEnable_on {x : Xfer} {s : State} (h : Accepts s x O.watchEnable (.num 1)) (h0 : s.obj O.watchEnable = 0) (hb : s.obj O.bootState ≠ 5) :
    ∃ t, exec (.writeWatchEnable x 1) s = .next t
      ∧ Answers s t x O.watchEnable (.num 1) (watchCheck (advance s x.dt)) [.freeCtr, .nl, .power, .svc] (watchOnKeys (s.nat O.nlChain))
      ∧ if watchCheck (advance s x.dt) = .ok
        then t.obj O.watchEnable = 1 ∧ t.obj O.watchState = 1 ∧ t.obj O.nlState ≠ 2 ∧ t.power.watch.awake = false
          ∧ t.power.watch.left = [] ∧ t.power.rail = s.power.rail ∧ t.power.moving = s.power.moving
        else t.obj O.watchEnable = 0 ∧ t.obj O.watchState = 0 ∧ t.power = s.power ∧ t.nl = s.nl := by
  have hw : (atWrite s x O.watchEnable (.num 1)).obj O.watchEnable = 0 := (atWrite_obj ..).trans h0
  have hj := watchRules_judge (x := x) hb
  have hn : (atWrite s x O.watchEnable (.num 1)).nat O.nlChain = s.nat O.nlChain := congrArg Int.toNat (atWrite_obj ..)
  have hl := watchRules_settle_leaves (watchCheck (advance s x.dt)) (atWrite s x O.watchEnable (.num 1))
  rw [hn] at hl
  obtain ⟨ha, ho⟩ := hostWrite_on watchRules (ps := [.freeCtr, .nl, .power, .svc]) (ks := watchOnKeys (s.nat O.nlChain)) h h0 hj
    (Leaves.mono hl (by decide) (by simp [watchOnKeys])) (by decide) (by simp [checkKeys, watchOnKeys]) (by decide)
  have hls := EnableRules.afterOn_leaves (ps := [.dict, .freeCtr, .nl, .power, .svc]) (ks := watchOnKeys (s.nat O.nlChain)) watchRules (atWrite s x O.watchEnable (.num 1))
    (by rw [hj]; exact Leaves.mono hl (by decide) (by simp [watchOnKeys])) (by decide) (by decide) (by simp [checkKeys, watchOnKeys])
  obtain ⟨-, hsame, -⟩ := hostWrite_does (ps := [.freeCtr, .nl, .power, .svc]) h (watchRules.write_on _ hw) hls (by decide)
  have hrec := EnableRules.afterOn_records watchRules (atWrite s x O.watchEnable (.num 1))
  have hp := hrec.1 .power (by decide)
  have hnl := hrec.1 .nl (by decide)
  have hpw : (atWrite s x O.watchEnable (.num 1)).power = s.power := atWrite_same s x _ _ .power (by decide)
  have hnw : (atWrite s x O.watchEnable (.num 1)).nl = s.nl := atWrite_same s x _ _ .nl (by decide)
  rw [hj] at hp hnl
  have hp' := (hsame .power (by decide)).trans hp
  have hnl' := (hsame .nl (by decide)).trans hnl
  have h1 := ho O.watchEnable (by decide) (by decide)
  have h2 := ho O.watchState (by decide) (by decide)
  have h3 := ho O.nlState (by decide) (by decide)
  refine ⟨_, rfl, ha, ?_⟩
  split
  next hk =>
    rw [hk, EnableRules.settle_ok] at h1 h2 h3 hp'
    obtain ⟨g1, g2, g3, g4, g5, g6⟩ := watchEnter_shows ((atWrite s x O.watchEnable (.num 1)).setObj O.watchEnable 1)
    refine ⟨h1.trans (((watchEnter_leaves ((atWrite s x O.watchEnable (.num 1)).setObj O.watchEnable 1)).2 _ ?_).trans
      (State.obj_setObj_same ..)), h2.trans g1, fun e => g2 (h3.symm.trans e), ?_, ?_, ?_, ?_⟩
    · simp only [O.watchEnable, O.watchState, O.nlEnable, O.nlState, O.dfeUser, List.mem_cons, List.not_mem_nil, or_false]
      omega
    · rw [hp']; exact g3
    · rw [hp']; exact g4
    · rw [hp']; exact g5.trans (congrArg Power.rail hpw)
    · rw [hp']; exact g6.trans (congrArg Power.moving hpw)
  next hk =>
    rw [EnableRules.settle_refused _ _ hk] at h1 h2 hp' hnl'
    refine ⟨h1.trans (State.obj_setObj_same ..), h2.trans ((State.obj_setObj_ne _ _ _ _ (by decide)).trans ((atWrite_obj ..).trans (ready_latching h.1))), ?_, ?_⟩
    · exact hp'.trans hpw
    · exact hnl'.trans hnw

/-- The state in which a message waits in the latch. -/
def inLatch (w : Nat × Transfer) (s : State) : State :=
  { s.setObj O.latched (s.svc.held.length + 1) with svc := { s.svc with held := s.svc.held ++ [w] } }

theorem writeWatchEnable_latched {x : Xfer} {v : Int} {s : State} (h : s.obj O.watchState ≠ 0) : ∃ w, w.1 = x.seq ∧
    exec (.writeWatchEnable x v) s = .next (if s.svc.held.length < 4 then inLatch w (advance s x.dt) else (advance s x.dt).bump O.latchDropped 1) := by
  have ho : (advance s x.dt).obj O.watchState = s.obj O.watchState := State.obj_congr (advance_dict ..) _
  have hl : (advance s x.dt).latching = true := by rw [State.latching, ho]; simpa using h
  have hr : (advance s x.dt).ready = false := by rw [State.ready, hl]; simp
  have hsv : (advance s x.dt).svc = s.svc := advance_svc ..
  refine ⟨(x.seq, .write O.watchEnable 0 (lastOffset (valueBytes O.watchEnable (.num v)).length)
    ((valueBytes O.watchEnable (.num v)).length - lastOffset (valueBytes O.watchEnable (.num v)).length) (valueBytes O.watchEnable (.num v)).length
    ((valueBytes O.watchEnable (.num v)).drop (lastOffset (valueBytes O.watchEnable (.num v)).length))), rfl, ?_⟩
  show execWriteWatchEnable x v s = _
  rw [execWriteWatchEnable, hostWrite]
  dsimp only
  rw [if_neg (by rw [hr]; decide), holdTransfer, if_pos hl, hsv]
  split
  · dsimp only [inLatch]
    rw [State.setObj_svc, hsv]
  · rfl

theorem inLatch_leaves (w : Nat × Transfer) (s : State) : Leaves s (inLatch w s) [.dict, .svc] [O.latched] :=
  Leaves.trans (Leaves.setObj _ _ _ (by decide) (by decide)) (Leaves.setSvc _ _ (by decide))

/-! ## The C-plane message of a PRACH capture -/

/-- How long before its period's boundary the C-plane message of a capture goes, and the boundary of its next one. -/
def occasionLead (k : Nat) (s : State) : Int := windowStart s k - 250000 * airNs

/-- The boundary of the period whose C-plane message is next. -/
def occasionPeriod (k : Nat) (s : State) : Int :=
  nextPeriod s (max (Store.at (-airFrame) s.power.watch.sent k) (s.airNow - occasionLead k s - 1))

/-- The state at the instant of a capture's C-plane message. -/
def occasionTaken (k : Nat) (s : State) : State :=
  (advanceToAir s (occasionPeriod k s + occasionLead k s)).onWatch fun w => { w with sent := Store.put w.sent k (occasionPeriod k s) }

/-- The uplink eAxC of a carrier for which a C-plane message goes, one to a frame. -/
def takeOccasion (n : Nat) (sec : CSection) (s : State) (a : List FrameBody × State) (i : Nat) : List FrameBody × State :=
  (a.1 ++ [.cplane (s.eaxc n (s.nat (O.prachEaxcOffset n) + i)) (takeSeq (seqKey n 1 1 (s.eaxc n (s.nat (O.prachEaxcOffset n) + i))) a.2).1 sec],
    (takeSeq (seqKey n 1 1 (s.eaxc n (s.nat (O.prachEaxcOffset n) + i))) a.2).2)

/-- The messages of an occasion, and the state whose sequences they have taken. -/
def occasionFrames (n k : Nat) (s : State) : List FrameBody × State :=
  (List.range (max 1 (s.nat (O.ulPorts n)))).foldl (takeOccasion n (occasionSection s n (watchRecord s k)) s) ([], s)

/-- The state in which the messages of an occasion have been launched. -/
def occasionSent (n k p bytes : Nat) (s : State) : State :=
  sendLaunch p ⟨s.clock.ticks, 0, 0, [], 0, false, 0, (occasionFrames n k s).1.map (frameOn s p (ruAddress s n p)), bytes⟩
    ((occasionFrames n k s).2.bump (O.cpTxSent p) (max 1 (s.nat (O.ulPorts n))))

theorem occasionTaken_obj (k : Nat) (s : State) (j : Nat) : (occasionTaken k s).obj j = s.obj j := State.obj_advanceToAir ..

theorem watchCplaneSend_sends {k : Nat} (bytes : Nat) {s : State} (hk : k < 8) (ha : s.asleep = true) (hw : s.obj (O.wcKind k) = 2)
    (hn : s.nat (O.wcCarrier k) < 64) (hr : s.airRunning = true) : exec (.watchCplaneSend k bytes) s
      = .next (if ((occasionTaken k s).nat (O.fhPort (s.nat (O.wcCarrier k))) < 24
          && (occasionTaken k s).linkUp ((occasionTaken k s).nat (O.fhPort (s.nat (O.wcCarrier k))))) = true
        then occasionSent (s.nat (O.wcCarrier k)) k ((occasionTaken k s).nat (O.fhPort (s.nat (O.wcCarrier k)))) bytes (occasionTaken k s)
        else occasionTaken k s) := by
  show execWatchCplaneSend k bytes s = _
  unfold execWatchCplaneSend
  rw [if_neg (by omega)]
  dsimp only
  rw [if_neg (by simp [ha, hw, hr]; omega)]
  split
  next h => exact (congrArg Host.Outcome.next (if_pos h)).symm
  next h => exact (congrArg Host.Outcome.next (if_neg h)).symm

theorem occasionFrames_leaves (n k : Nat) (s : State) : Leaves s (occasionFrames n k s).2 [.fh] [] := by
  have h (l : List Nat) (a : List FrameBody × State) :
      Leaves a.2 (l.foldl (takeOccasion n (occasionSection s n (watchRecord s k)) s) a).2 [.fh] [] := by
    induction l generalizing a with
    | nil => exact Leaves.refl ..
    | cons i l ih => exact Leaves.trans (Leaves.setFh _ _ (by decide)) (ih _)
  exact h _ _

theorem sendLaunch_leaves (p : Nat) (l : Launch) (s : State) : Leaves s (sendLaunch p l s) [.dict, .fh] [O.txFrames p, O.txBytes p] :=
  Leaves.trans (Leaves.mono (sentFrames_leaves p _ _ s) (by decide) (fun _ h => h)) (Leaves.trans (Leaves.onPort _ _ _ (by decide))
    (Leaves.mono (requeue_leaves p _ (ks := [])) (by decide) (by simp)))

theorem occasionSent_counted (n k p bytes : Nat) (s : State) :
    Counted s (occasionSent n k p bytes s) (O.cpTxSent p) (max 1 (s.nat (O.ulPorts n))) := by
  refine ((sendLaunch_leaves ..).2 _ (by simp only [O.cpTxSent, O.txFrames, O.txBytes, List.mem_cons, List.not_mem_nil, or_false]; omega)).trans ?_
  exact Counted.of_obj (s' := (occasionFrames n k s).2) ((occasionFrames_leaves n k s).2 _ (by simp)) (State.obj_bump_same ..)

theorem occasionSent_same (n k p bytes : Nat) (s : State) : SameBut s (occasionSent n k p bytes s) [.dict, .fh] :=
  SameBut.trans (SameBut.mono (occasionFrames_leaves n k s).1 (by decide)) (SameBut.trans (SameBut.bump _ _ _ _ (by decide)) (sendLaunch_leaves ..).1)

/-! ## A wake -/

theorem serveLatched_empty {s : State} (h : s.svc.held = []) : serveLatched s = s ∨ serveLatched s = s.setObj O.latched 0 := by
  unfold serveLatched
  split
  · have hs : ({ s with svc := { s.svc with held := [] } } : State) = s := congrArg (fun v => { s with svc := v }) (by rw [← h])
    refine .inr ?_
    dsimp only
    rw [h, hs, serveList, h]
    rfl
  · exact .inl rfl

/-- The state in which an alarm is counted, at its instant. -/
def alarmCounted (s : State) : State := (advanceToAir s (alarmAt s)).bump O.watchCycles 1

theorem captures_congr {s t : State} (h : ∀ k, t.obj (O.wcKind k) = s.obj (O.wcKind k)) : captures t = captures s := by
  unfold captures
  simp only [h]

theorem alarmCounted_captures (s : State) : captures (alarmCounted s) = captures s :=
  captures_congr fun k => (State.obj_bump_ne _ _ _ _ (by simp only [O.wcKind, O.watchCycles]; omega)).trans (State.obj_advanceToAir ..)

theorem wakeStarts_eq (s : State) : wakeStarts s = ((alarmCounted s).setObj O.watchState 3).onWatch fun w =>
    { w with boundary := alarmPeriod s, awake := true, left := captures s, opened := [], mgt := w.mgt || !(alarmCounted s).svc.held.isEmpty } := by
  have h : wakeStarts s = ((alarmCounted s).setObj O.watchState 3).onWatch fun w =>
    { w with boundary := alarmPeriod s, awake := true, left := captures (alarmCounted s), opened := [], mgt := w.mgt || !(alarmCounted s).svc.held.isEmpty } := rfl
  rw [h, alarmCounted_captures]

theorem wakeStarts_leaves (s : State) : Leaves s (wakeStarts s) (.dict :: .power :: timeParts) [O.watchCycles, O.watchState] := by
  rw [wakeStarts_eq]
  exact Leaves.trans (Leaves.advanceToAir _ _ (by decide)) (Leaves.trans (Leaves.bump _ _ _ (by decide) (by decide))
    (Leaves.trans (Leaves.setObj _ _ _ (by decide) (by decide)) (Leaves.onWatch _ _ (by decide))))

/-- The state in which the transfers latched have been served and the next alarm's edge is drawn. -/
def woken (s : State) : State := drawEdge (serveLatched (wakeStarts s))

theorem rtcAlarm_wakes {s : State} (h : canWake s = true) (hc : captures s ≠ []) (hv : s.svc.held = []) : exec .rtcAlarm s = .next (woken s) := by
  have hs : (wakeStarts s).svc.held = [] := by rw [(wakeStarts_leaves s).1 .svc (by decide), hv]
  have hl : (woken s).power.watch.left = captures s := by
    have hp : (serveLatched (wakeStarts s)).power = (wakeStarts s).power := by
      rcases serveLatched_empty hs with h | h <;> rw [h]
      rfl
    show (serveLatched (wakeStarts s)).power.watch.left = _
    rw [hp, wakeStarts_eq]
    rfl
  show execRtcAlarm s = _
  rw [execRtcAlarm, if_pos h]
  dsimp only
  rw [← woken, hl, if_neg (by simp [hc])]

theorem serveLatched_leaves {s : State} (h : s.svc.held = []) : Leaves s (serveLatched s) [.dict] [O.latched] := by
  rcases serveLatched_empty h with h | h
  · rw [h]
    exact Leaves.refl ..
  · rw [h]
    exact Leaves.setObj _ _ _ (by decide) (by decide)

/-! ## Windows -/

theorem watchWindowOpen_opens {k : Nat} {s : State} (hk : k < 8) (ha : s.power.watch.awake = true) (hl : k ∈ s.power.watch.left)
    (ho : k ∉ s.power.watch.opened) : exec (.watchWindowOpen k) s
      = .next (((atWindow s k).setObj O.watchState 4).onWatch fun w => { w with opened := w.opened ++ [k] }) := by
  show execWatchWindowOpen k s = _
  rw [execWatchWindowOpen, if_neg (by omega), if_pos (by simp [ha, hl, ho])]
  rfl

/-- The state at the close of a capture's window. -/
def windowClosed (k : Nat) (s : State) : State := (atClose s k).setObj O.watchState 5

/-- What the capture measures. -/
def windowMeasure (k : Nat) (s : State) : Int := (captureMeasure k (windowClosed k s)).1

/-- The state that has measured it. -/
def captured (k : Nat) (s : State) : State := (captureMeasure k (windowClosed k s)).2

/-- The state in which the operation of a PRACH capture has been counted. -/
def occasionCounted (k : Nat) (s : State) : State :=
  if ((captured k s).obj (O.wcKind k) == 2 && (captured k s).runs 14 && (captured k s).nat O.leService != 0) = true
  then (((captured k s).bump O.leOps 1).bump O.prachOccasions 1).bump O.prachDetections (windowMeasure k s).toNat else captured k s

/-- The state in which the compare's detail stands. -/
def compared (k : Nat) (s : State) : State :=
  (occasionCounted k s).setBlob (O.wcLast k) (compareDetail (occasionCounted k s) k (isHit (occasionCounted k s) k (windowMeasure k s)) (windowMeasure k s))

/-- The state in which a hit has been raised. -/
def hitRaised (k : Nat) (s : State) : State :=
  if isHit (occasionCounted k s) k (windowMeasure k s) = true then watchHit k (windowMeasure k s) (compared k s) else compared k s

/-- The state in which the capture is done. -/
def captureDone (k : Nat) (s : State) : State :=
  (hitRaised k s).onWatch fun w => { w with left := w.left.filter (· != k), opened := w.opened.filter (· != k) }

theorem watchWindowClose_compares {k : Nat} {s : State} (hk : k < 8) (ho : k ∈ s.power.watch.opened) : exec (.watchWindowClose k) s
    = .next (if (captureDone k s).power.watch.left.isEmpty = true then wakeEnds (captureDone k s)
      else (captureDone k s).setObj O.watchState (if (captureDone k s).power.watch.opened.isEmpty = true then 3 else 4)) := by
  show execWatchWindowClose k s = _
  rw [execWatchWindowClose, if_neg (by omega), if_pos (by simpa using ho)]
  dsimp only
  rw [← atClose, ← windowClosed, ← windowMeasure, ← captured, ← occasionCounted, ← compared, ← hitRaised, ← captureDone]

/-! What each step of the compare keeps. -/

theorem captureMeasure_leaves (k : Nat) (s : State) {ks : List Nat} : Leaves s (captureMeasure k s).2 [.dfe, .freeCtr, .power] ks := by
  unfold captureMeasure
  dsimp only
  split
  · exact Leaves.trans (Leaves.ite _ (Leaves.free _ (by decide)) (Leaves.refl ..)) (Leaves.onChain _ _ _ (by decide))
  · exact Leaves.onWatch _ _ (by decide)

/-- A measure takes of the captures' state nothing but the sections that they received. -/
theorem captureMeasure_watch (k : Nat) (s : State) :
    (captureMeasure k s).2.power.watch = { s.power.watch with rx := (captureMeasure k s).2.power.watch.rx } := by
  unfold captureMeasure
  dsimp only
  split
  · dsimp only [State.onChain]
    split <;> rfl
  · rfl

theorem captureMeasure_setObj {k j : Nat} {v : Int} {s : State} (hj : j ∉ [O.wcKind k, O.wcChain k, O.wcCarrier k, O.prachThreshold,
    O.ulPorts (s.nat (O.wcCarrier k))]) : (captureMeasure k (s.setObj j v)).1 = (captureMeasure k s).1 := by
  simp only [List.mem_cons, List.not_mem_nil, or_false, not_or] at hj
  obtain ⟨h1, h2, h3, h4, h5⟩ := hj
  unfold captureMeasure
  rw [State.obj_setObj_ne _ _ _ _ (Ne.symm h1), State.nat_setObj_ne _ _ (Ne.symm h2), State.nat_setObj_ne _ _ (Ne.symm h3)]
  split
  · rfl
  · dsimp only
    rw [State.nat_setObj_ne _ _ (Ne.symm h4), State.nat_setObj_ne _ _ (Ne.symm h5)]
    rfl

theorem windowMeasure_eq (k : Nat) (s : State) : windowMeasure k s = (captureMeasure k (atClose s k)).1 :=
  captureMeasure_setObj (by
    simp only [O.watchState, O.wcKind, O.wcChain, O.wcCarrier, O.prachThreshold, O.ulPorts, List.mem_cons, List.not_mem_nil, or_false]
    omega)

theorem captured_leaves (k : Nat) (s : State) : Leaves s (captured k s) (.dfe :: .dict :: .freeCtr :: .power :: timeParts) [O.watchState] :=
  Leaves.trans (Leaves.advanceToAir _ _ (by decide)) (Leaves.trans (Leaves.setObj _ _ _ (by decide) (by decide))
    (Leaves.mono (captureMeasure_leaves k _ (ks := [])) (by decide) (by simp)))

theorem atClose_power (k : Nat) (s : State) : (atClose s k).power = s.power :=
  (Leaves.advanceToAir (ks := []) s _ (ps := timeParts) (fun _ h => h)).1 .power (by decide)

theorem captured_watch (k : Nat) (s : State) : (captured k s).power.watch = { s.power.watch with rx := (captured k s).power.watch.rx } := by
  have h := captureMeasure_watch k (windowClosed k s)
  rw [show (windowClosed k s).power = s.power from (State.setObj_power ..).trans (atClose_power k s)] at h
  exact h

/-- The objects of a PRACH capture's operation. -/
def occasionKeys : List Nat := [O.leOps, O.prachOccasions, O.prachDetections]

theorem occasionCounted_leaves (k : Nat) (s : State) : Leaves (captured k s) (occasionCounted k s) [.dict] occasionKeys :=
  Leaves.ite _ (Leaves.trans (Leaves.trans (Leaves.bump _ _ _ (by decide) (by decide)) (Leaves.bump _ _ _ (by decide) (by decide)))
    (Leaves.bump _ _ _ (by decide) (by decide))) (Leaves.refl ..)

/-- What every object but those of a capture's state and operation reads before the compare. -/
theorem occasionCounted_obj (k : Nat) (s : State) {j : Nat} (hj : j ∉ O.watchState :: occasionKeys) : (occasionCounted k s).obj j = s.obj j :=
  ((occasionCounted_leaves k s).2 _ fun h => hj (List.mem_cons_of_mem _ h)).trans
    ((captured_leaves k s).2 _ fun h => hj (List.mem_cons.mpr (.inl (List.mem_singleton.mp h))))

theorem occasionCounted_counts (k : Nat) (s : State) :
    if s.obj (O.wcKind k) = 2 ∧ s.runs 14 = true ∧ s.nat O.leService ≠ 0
    then Counted s (occasionCounted k s) O.leOps 1 ∧ Counted s (occasionCounted k s) O.prachOccasions 1
    else (occasionCounted k s).obj O.leOps = s.obj O.leOps := by
  have ho (j : Nat) (h : j ≠ O.watchState) : (captured k s).obj j = s.obj j := (captured_leaves k s).2 _ (by simpa using h)
  have hc : ((captured k s).obj (O.wcKind k) == 2 && (captured k s).runs 14 && (captured k s).nat O.leService != 0) = true
      ↔ s.obj (O.wcKind k) = 2 ∧ s.runs 14 = true ∧ s.nat O.leService ≠ 0 := by
    unfold State.runs State.nat
    rw [ho _ (by simp only [O.wcKind, O.watchState]; omega), ho _ (by decide), ho _ (by decide)]
    simp only [Bool.and_eq_true, beq_iff_eq, bne_iff_ne, ne_eq, and_assoc]
  by_cases h : s.obj (O.wcKind k) = 2 ∧ s.runs 14 = true ∧ s.nat O.leService ≠ 0
  · have he : occasionCounted k s = (((captured k s).bump O.leOps 1).bump O.prachOccasions 1).bump O.prachDetections (windowMeasure k s).toNat := if_pos (hc.mpr h)
    rw [if_pos h, he]
    refine ⟨Counted.of_obj (ho O.leOps (by decide)) ?_, Counted.of_obj (ho O.prachOccasions (by decide)) ?_⟩
    · exact (State.obj_bump_ne _ _ _ _ (by decide)).trans ((State.obj_bump_ne _ _ _ _ (by decide)).trans (State.obj_bump_same ..))
    · refine (State.obj_bump_ne _ _ _ _ (by decide)).trans ?_
      exact Counted.of_obj (s' := (captured k s).bump O.leOps 1) (State.obj_bump_ne _ _ _ _ (by decide)) (State.obj_bump_same ..)
  · have he : occasionCounted k s = captured k s := if_neg fun e => h (hc.mp e)
    rw [if_neg h, he]
    exact ho _ (by decide)

theorem isHit_congr {s t : State} (h : ∀ j, j ∉ O.watchState :: occasionKeys → t.obj j = s.obj j) (k : Nat) (m : Int) : isHit t k m = isHit s k m := by
  have hk : t.obj (O.wcKind k) = s.obj (O.wcKind k) := h _ (by
    simp only [O.wcKind, O.watchState, occasionKeys, O.leOps, O.prachOccasions, O.prachDetections, List.mem_cons, List.not_mem_nil, or_false]; omega)
  have hc : t.obj (O.wcChain k) = s.obj (O.wcChain k) := h _ (by
    simp only [O.wcChain, O.watchState, occasionKeys, O.leOps, O.prachOccasions, O.prachDetections, List.mem_cons, List.not_mem_nil, or_false]; omega)
  have ht (c : Nat) : t.obj (O.thrHigh c) = s.obj (O.thrHigh c) := h _ (by
    simp only [O.thrHigh, O.watchState, occasionKeys, O.leOps, O.prachOccasions, O.prachDetections, List.mem_cons, List.not_mem_nil, or_false]; omega)
  have hd (d : Nat) : t.obj (O.domainState d) = s.obj (O.domainState d) := h _ (by
    simp only [O.domainState, O.watchState, occasionKeys, O.leOps, O.prachOccasions, O.prachDetections, List.mem_cons, List.not_mem_nil, or_false]; omega)
  unfold isHit captureDomain State.runs State.nat
  rw [hk, hc, hd, ht, h O.leService (by decide)]

theorem compareDetail_congr {s t : State} {k : Nat} (hk : t.obj (O.wcKind k) = s.obj (O.wcKind k)) (ha : t.obj (O.wcAction k) = s.obj (O.wcAction k))
    (hit : Bool) (m : Int) : compareDetail t k hit m = compareDetail s k hit m := by
  unfold compareDetail State.nat
  rw [hk, ha]

theorem not_occasionKey_wc (k i : Nat) (hi : 1 ≤ i ∧ i ≤ 9) : 0x705000 + i + 0x100 * k ∉ O.watchState :: occasionKeys := by
  simp only [O.watchState, occasionKeys, O.leOps, O.prachOccasions, O.prachDetections, List.mem_cons, List.not_mem_nil, or_false]
  omega

theorem occasionCounted_kind (k : Nat) (s : State) : (occasionCounted k s).obj (O.wcKind k) = s.obj (O.wcKind k) :=
  occasionCounted_obj k s (not_occasionKey_wc k 1 (by decide))

theorem occasionCounted_action (k : Nat) (s : State) : (occasionCounted k s).obj (O.wcAction k) = s.obj (O.wcAction k) :=
  occasionCounted_obj k s (not_occasionKey_wc k 9 (by decide))

theorem occasionCounted_isHit (k : Nat) (s : State) (m : Int) : isHit (occasionCounted k s) k m = isHit s k m :=
  isHit_congr (fun _ h => occasionCounted_obj k s h) k m

theorem compared_eq (k : Nat) (s : State) : compared k s
    = (occasionCounted k s).setBlob (O.wcLast k) (compareDetail s k (isHit s k (windowMeasure k s)) (windowMeasure k s)) := by
  rw [compared, compareDetail_congr (occasionCounted_kind k s) (occasionCounted_action k s), occasionCounted_isHit]

theorem compared_obj (k : Nat) (s : State) (j : Nat) : (compared k s).obj j = (occasionCounted k s).obj j := State.obj_congr (State.setBlob_dict ..) j

/-! WATCH_HIT. -/

/-- The state in which WATCH_HIT is raised and MGT's vote stands. -/
def hitVoted (k : Nat) (m : Int) (s : State) : State :=
  (raise s O.watchHitCount k (compareDetail s k true m) 0).onWatch fun w =>
    { w with mgt := true, leaving := w.leaving || (raise s O.watchHitCount k (compareDetail s k true m) 0).obj (O.wcAction k) == 1 }

theorem watchHit_eq (k : Nat) (m : Int) (s : State) : watchHit k m s
    = if ((hitVoted k m s).obj (O.wcAction k) == 1 && (hitVoted k m s).obj O.watchEnable == stOn) = true
      then (hitVoted k m s).setObj O.watchEnable stStopping else hitVoted k m s := rfl

theorem hitVoted_leaves (k : Nat) (m : Int) (s : State) : Leaves s (hitVoted k m s) [.dict, .link, .power] [O.watchHitCount, O.indicationsDropped] :=
  Leaves.trans (Leaves.raise _ _ _ _ _ (by decide) (by decide) (by decide) (by decide)) (Leaves.onWatch _ _ (by decide))

theorem watchHit_leaves (k : Nat) (m : Int) (s : State) :
    Leaves s (watchHit k m s) [.dict, .link, .power] [O.watchHitCount, O.indicationsDropped, O.watchEnable] := by
  rw [watchHit_eq]
  exact Leaves.trans (Leaves.mono (hitVoted_leaves k m s) (fun _ h => h) (by decide)) (Leaves.ite _ (Leaves.setObj _ _ _ (by decide) (by decide)) (Leaves.refl ..))

theorem hitVoted_action (k : Nat) (m : Int) (s : State) : (hitVoted k m s).obj (O.wcAction k) = s.obj (O.wcAction k) :=
  (hitVoted_leaves k m s).2 _ (by simp only [O.wcAction, O.watchHitCount, O.indicationsDropped, List.mem_cons, List.not_mem_nil, or_false]; omega)

theorem watchHit_enable (k : Nat) (m : Int) (s : State) : (watchHit k m s).obj O.watchEnable
    = if s.obj (O.wcAction k) = 1 ∧ s.obj O.watchEnable = 1 then 3 else s.obj O.watchEnable := by
  have he : (hitVoted k m s).obj O.watchEnable = s.obj O.watchEnable := (hitVoted_leaves k m s).2 _ (by decide)
  rw [watchHit_eq, hitVoted_action, he]
  by_cases h : s.obj (O.wcAction k) = 1 ∧ s.obj O.watchEnable = 1
  · rw [if_pos h, if_pos (by simp [h.1, h.2, stOn]), State.obj_setObj_same]
    rfl
  · rw [if_neg h, if_neg (by simpa [stOn] using h), he]

theorem watchHit_raised (k : Nat) (m : Int) (s : State) : Counted s (watchHit k m s) O.watchHitCount 1
    ∧ Indicates s (watchHit k m s) O.watchHitCount k (compareDetail s k true m) 0 ∧ (watchHit k m s).power = (hitVoted k m s).power := by
  have hv : (watchHit k m s).link = (hitVoted k m s).link ∧ (watchHit k m s).obj O.watchHitCount = (hitVoted k m s).obj O.watchHitCount
      ∧ (watchHit k m s).power = (hitVoted k m s).power := by
    rw [watchHit_eq]
    split
    · exact ⟨State.setObj_link .., State.obj_setObj_ne _ _ _ _ (by decide), State.setObj_power ..⟩
    · exact ⟨rfl, rfl, rfl⟩
  refine ⟨hv.2.1.trans (raise_counted s O.watchHitCount k (compareDetail s k true m) 0 (by decide)), fun h => ?_, hv.2.2⟩
  rw [hv.1]
  exact raise_indicates s O.watchHitCount k (compareDetail s k true m) 0 h

/-- A hit moves neither the windows nor the wake, and a device that leaves goes on leaving. -/
theorem hitVoted_watch (k : Nat) (m : Int) (s : State) : (hitVoted k m s).power.watch.left = s.power.watch.left
    ∧ (hitVoted k m s).power.watch.opened = s.power.watch.opened ∧ (hitVoted k m s).power.watch.awake = s.power.watch.awake
    ∧ (s.power.watch.leaving = true → (hitVoted k m s).power.watch.leaving = true) := by
  have hp : (raise s O.watchHitCount k (compareDetail s k true m) 0).power = s.power := raise_power ..
  have hw : (hitVoted k m s).power.watch = { s.power.watch with
      mgt := true, leaving := s.power.watch.leaving || (raise s O.watchHitCount k (compareDetail s k true m) 0).obj (O.wcAction k) == 1 } := by
    rw [← hp]
    rfl
  rw [hw]
  exact ⟨rfl, rfl, rfl, fun h => by simp [h]⟩

/-! The capture that is done. -/

theorem hitRaised_eq (k : Nat) (s : State) : hitRaised k s
    = if isHit s k (windowMeasure k s) = true then watchHit k (windowMeasure k s) (compared k s) else compared k s := by
  rw [hitRaised, occasionCounted_isHit]

theorem compared_leaves (k : Nat) (s : State) :
    Leaves s (compared k s) (.blobs :: .dfe :: .dict :: .freeCtr :: .power :: timeParts) (O.watchState :: occasionKeys) :=
  Leaves.trans (Leaves.mono (captured_leaves k s) (by decide) (by decide)) (Leaves.trans (Leaves.mono (occasionCounted_leaves k s) (by decide) (by decide))
    (Leaves.setBlob _ _ _ (by decide)))

theorem compared_watch (k : Nat) (s : State) : (compared k s).power.watch = { s.power.watch with rx := (compared k s).power.watch.rx } := by
  have hp : (compared k s).power = (captured k s).power := (occasionCounted_leaves k s).1 .power (by decide)
  rw [hp]
  exact captured_watch k s

theorem hitRaised_watch (k : Nat) (s : State) : (hitRaised k s).power.watch.left = s.power.watch.left
    ∧ (hitRaised k s).power.watch.opened = s.power.watch.opened ∧ (hitRaised k s).power.watch.awake = s.power.watch.awake
    ∧ (s.power.watch.leaving = true → (hitRaised k s).power.watch.leaving = true) := by
  have hw := compared_watch k s
  have h1 : (compared k s).power.watch.left = s.power.watch.left := (congrArg Watch.left hw).trans rfl
  have h2 : (compared k s).power.watch.opened = s.power.watch.opened := (congrArg Watch.opened hw).trans rfl
  have h3 : (compared k s).power.watch.awake = s.power.watch.awake := (congrArg Watch.awake hw).trans rfl
  have h4 : (compared k s).power.watch.leaving = s.power.watch.leaving := (congrArg Watch.leaving hw).trans rfl
  rw [hitRaised_eq]
  split
  · obtain ⟨g1, g2, g3, g4⟩ := hitVoted_watch k (windowMeasure k s) (compared k s)
    rw [(watchHit_raised ..).2.2]
    exact ⟨g1.trans h1, g2.trans h2, g3.trans h3, fun h => g4 (h4.trans h)⟩
  · exact ⟨h1, h2, h3, fun h => h4.trans h⟩

theorem captureDone_watch (k : Nat) (s : State) : (captureDone k s).power.watch.left = s.power.watch.left.filter (· != k)
    ∧ (captureDone k s).power.watch.awake = s.power.watch.awake ∧ (s.power.watch.leaving = true → (captureDone k s).power.watch.leaving = true) := by
  obtain ⟨h1, h2, h3, h4⟩ := hitRaised_watch k s
  exact ⟨congrArg (List.filter (· != k)) h1, h3, h4⟩

theorem hitRaised_leaves (k : Nat) (s : State) : Leaves (compared k s) (hitRaised k s) [.dict, .link, .power]
    [O.watchHitCount, O.indicationsDropped, O.watchEnable] := by
  rw [hitRaised_eq]
  exact Leaves.ite _ (watchHit_leaves ..) (Leaves.refl ..)

/-! The wake's end. -/

theorem watchRest_leaves (s : State) : Leaves s (watchRest s) [.dict] [O.watchState] := (KeepsMoving.watchRest s).1

theorem watchLeave_leaves (s : State) : Leaves s (watchLeave s) [.dict, .power] [O.watchState] :=
  Leaves.trans (Leaves.setObj _ _ _ (by decide) (by decide)) (Leaves.onWatch _ _ (by decide))

theorem wakeEnds_leaves (s : State) : Leaves s (wakeEnds s) [.dict, .power] [O.watchState] := by
  unfold wakeEnds
  exact Leaves.ite _ (watchLeave_leaves s) (Leaves.trans (Leaves.onWatch _ _ (by decide)) (Leaves.mono (watchRest_leaves _) (by decide) (fun _ h => h)))

theorem wakeEnds_ended (s : State) : (wakeEnds s).power.watch.left = [] ∧ (wakeEnds s).power.watch.awake = false
    ∧ (s.power.watch.leaving = true → (wakeEnds s).obj O.watchState = 6) := by
  unfold wakeEnds
  split
  · exact ⟨rfl, rfl, fun _ => (State.onWatch_obj ..).trans (State.obj_setObj_same ..)⟩
  next h =>
    rw [(watchRest_leaves _).1 .power (by decide)]
    exact ⟨rfl, rfl, fun e => absurd e h⟩

/-- The state after a capture: the wake goes on or ends. -/
def captureLeft (k : Nat) (s : State) : State :=
  if (captureDone k s).power.watch.left.isEmpty = true then wakeEnds (captureDone k s)
  else (captureDone k s).setObj O.watchState (if (captureDone k s).power.watch.opened.isEmpty = true then 3 else 4)

theorem captureLeft_leaves (k : Nat) (s : State) : Leaves (captureDone k s) (captureLeft k s) [.dict, .power] [O.watchState] :=
  Leaves.ite _ (wakeEnds_leaves _) (Leaves.setObj _ _ _ (by decide) (by decide))

end Sys2Proof.Machine
open Sys2Proof Sys2Proof.Machine Sys2Proof.Safety

/-- Settles O52: the enable by its rules, a wake and its windows by the state at their instants, a compare step by step. -/
theorem watchMode : Obligations.WatchMode := by
  unfold Obligations.WatchMode
  refine ⟨fun x s h h0 hb => writeWatchEnable_on h h0 hb, fun x v s h => ?_, fun k bytes s hk ha hw hn hr => ?_, fun s h hc hv => ?_,
    fun k s hk ha hl ho => ?_, fun k s hk ho => ?_, fun s h6 h3 hv => ?_⟩
  · obtain ⟨w, hw, he⟩ := writeWatchEnable_latched (x := x) (v := v) h
    refine ⟨_, he, ?_⟩
    split
    · have hsv : (advance s x.dt).svc = s.svc := advance_svc ..
      refine ⟨⟨w, hw, by rw [← hsv]; rfl⟩, ?_, ?_⟩
      · rw [← hsv]
        exact (State.obj_congr (t := inLatch w (advance s x.dt)) (s := (advance s x.dt).setObj O.latched ((advance s x.dt).svc.held.length + 1)) rfl _).trans
          (State.obj_setObj_same ..)
      · exact Leaves.trans (Leaves.advance _ _ (by decide)) (Leaves.mono (inLatch_leaves ..) (by decide) (fun _ h => h))
    · exact ⟨Counted.of_obj (State.obj_congr (advance_dict ..) _) (State.obj_bump_same ..),
        Leaves.trans (Leaves.advance _ _ (by decide)) (Leaves.bump _ _ _ (by decide) (by decide))⟩
  · have hat : SameBut s (occasionTaken k s) (.dict :: .fh :: .power :: timeParts) :=
      (Leaves.trans (ks := []) (Leaves.advanceToAir _ _ (by decide)) (Leaves.onWatch _ _ (by decide))).1
    have hp : (occasionTaken k s).nat (O.fhPort (s.nat (O.wcCarrier k))) = s.nat (O.fhPort (s.nat (O.wcCarrier k))) :=
      congrArg Int.toNat (occasionTaken_obj ..)
    have hs : Store.find (occasionTaken k s).power.watch.sent k = some (occasionPeriod k s) := Store.find_put_same ..
    refine ⟨_, watchCplaneSend_sends bytes hk ha hw hn hr, ?_⟩
    split
    next hc =>
      have hsame := occasionSent_same (s.nat (O.wcCarrier k)) k ((occasionTaken k s).nat (O.fhPort (s.nat (O.wcCarrier k)))) bytes (occasionTaken k s)
      refine ⟨?_, ?_, SameBut.trans hat (SameBut.mono hsame (by decide))⟩
      · rw [hsame .power (by decide), hs]
        rfl
      · rintro p rfl - -
        rw [hp]
        refine Counted.of_obj (occasionTaken_obj k s _) ?_
        have hu : (occasionTaken k s).nat (O.ulPorts (s.nat (O.wcCarrier k))) = s.nat (O.ulPorts (s.nat (O.wcCarrier k))) :=
          congrArg Int.toNat (occasionTaken_obj ..)
        rw [← hu]
        exact occasionSent_counted ..
    next hc =>
      refine ⟨by rw [hs]; rfl, ?_, hat⟩
      rintro p rfl hp24 hup
      refine absurd ?_ hc
      unfold State.linkUp at hup ⊢
      simp only [occasionTaken_obj, hp]
      rw [hup]
      simpa using hp24
  · have hl := wakeStarts_leaves s
    have hs : (wakeStarts s).svc.held = [] := by rw [hl.1 .svc (by decide), hv]
    have hw : (serveLatched (wakeStarts s)).power = (wakeStarts s).power := (serveLatched_leaves hs).1 .power (by decide)
    have hall : Leaves s (woken s) (.dict :: .freeCtr :: .power :: timeParts) [O.watchCycles, O.watchState, O.latched] :=
      Leaves.trans (Leaves.mono hl (by decide) (by decide)) (Leaves.trans (Leaves.mono (serveLatched_leaves hs) (by decide) (by decide))
        (Leaves.mono (drawEdge_leaves _ (ks := [])) (by decide) (by simp)))
    have ho (j : Nat) (hj : j ≠ O.latched) : (woken s).obj j = (wakeStarts s).obj j := (serveLatched_leaves hs).2 _ (by simpa using hj)
    have hpw : (woken s).power = { (wakeStarts s).power with watch := { (wakeStarts s).power.watch with early := (woken s).power.watch.early } } := by
      rw [← hw]
      exact drawEdge_power _
    refine ⟨_, rtcAlarm_wakes h hc hv, ?_, ?_, ?_, ?_, ?_, ?_, ?_, hall⟩
    · refine (ho _ (by decide)).trans ?_
      rw [wakeStarts_eq]
      refine (State.onWatch_obj ..).trans ((State.obj_setObj_ne _ O.watchState O.watchCycles _ (by decide)).trans ?_)
      exact Counted.of_obj (s' := advanceToAir s (alarmAt s)) (State.obj_advanceToAir ..) (State.obj_bump_same ..)
    · refine (ho _ (by decide)).trans ?_
      rw [wakeStarts_eq]
      exact (State.onWatch_obj ..).trans (State.obj_setObj_same ..)
    · rw [hpw, wakeStarts_eq]
      rfl
    · rw [hpw, wakeStarts_eq]
      rfl
    · rw [hpw, wakeStarts_eq]
      rfl
    · rw [hpw, wakeStarts_eq]
      rfl
    · have hck : (woken s).clock = (wakeStarts s).clock := (serveLatched_leaves hs).1 .clock (by decide)
      rw [hck, wakeStarts_eq]
      rfl
  · have hp : (atWindow s k).power = s.power := (Leaves.advanceToAir (ks := []) s _ (ps := timeParts) (fun _ h => h)).1 .power (by decide)
    refine ⟨_, watchWindowOpen_opens hk ha hl ho, (State.onWatch_obj ..).trans (State.obj_setObj_same ..), rfl, ?_, ?_⟩
    · rw [← hp]
      rfl
    · exact Leaves.trans (Leaves.advanceToAir _ _ (by decide)) (Leaves.trans (Leaves.setObj _ _ _ (by decide) (by decide)) (Leaves.onWatch _ _ (by decide)))
  · have hle := captureLeft_leaves k s
    have hre := hitRaised_leaves k s
    have hco := compared_leaves k s
    have hdone : Leaves (hitRaised k s) (captureDone k s) [.power] [] := Leaves.onWatch _ _ (by decide)
    have hobj (j : Nat) (hj : j ≠ O.watchState) : (captureLeft k s).obj j = (hitRaised k s).obj j := (hle.2 _ (by simpa using hj)).trans (hdone.2 _ (by simp))
    have hlink : (captureLeft k s).link = (hitRaised k s).link := (hle.1 .link (by decide)).trans (hdone.1 .link (by decide))
    have hcl : (compared k s).obj O.watchHitCount = s.obj O.watchHitCount ∧ (compared k s).obj O.watchEnable = s.obj O.watchEnable :=
      ⟨hco.2 _ (by decide), hco.2 _ (by decide)⟩
    have hbl : (captureLeft k s).blobs = (compared k s).blobs := (hle.1 .blobs (by decide)).trans ((hdone.1 .blobs (by decide)).trans (hre.1 .blobs (by decide)))
    have hbo : (occasionCounted k s).blobs = s.blobs := ((occasionCounted_leaves k s).1 .blobs (by decide)).trans ((captured_leaves k s).1 .blobs (by decide))
    refine ⟨captureLeft k s, windowMeasure k s, watchWindowClose_compares hk ho, windowMeasure_eq k s, ?_, ?_, fun b hb => ?_, ?_, ?_, fun hj => ?_, fun hj => ?_, ?_⟩
    · rw [hle.1 .clock (by decide), hdone.1 .clock (by decide), hre.1 .clock (by decide)]
      exact ((occasionCounted_leaves k s).1 .clock (by decide)).trans ((captureMeasure_leaves k (windowClosed k s) (ks := [])).1 .clock (by decide))
    · rw [State.blob_congr hbl, compared_eq]
      exact State.blob_setBlob_same ..
    · rw [State.blob_congr hbl, compared_eq]
      exact (State.blob_setBlob_ne _ _ _ _ hb).trans (State.blob_congr hbo b)
    · have hcount : (captureLeft k s).obj O.watchHitCount = (hitRaised k s).obj O.watchHitCount := hobj _ (by decide)
      have henab : (captureLeft k s).obj O.watchEnable = (hitRaised k s).obj O.watchEnable := hobj _ (by decide)
      rw [hitRaised_eq] at hcount henab hlink
      split
      next hh =>
        rw [if_pos hh] at hcount henab hlink
        obtain ⟨g1, g2, -⟩ := watchHit_raised k (windowMeasure k s) (compared k s)
        have hact : (compared k s).obj (O.wcAction k) = s.obj (O.wcAction k) := (compared_obj ..).trans (occasionCounted_action k s)
        have hdet := compareDetail_congr ((compared_obj k s (O.wcKind k)).trans (occasionCounted_kind k s)) hact true (windowMeasure k s)
        rw [watchHit_enable, hact, hcl.2] at henab
        refine ⟨hcount.trans (Counted.of_obj hcl.1 g1), fun hw => ?_, fun h1 h2 => by rw [henab, if_pos ⟨h1, h2⟩], fun h1 => by rw [henab, if_neg fun h => h1 h.1]⟩
        rw [hlink, ← hdet]
        exact g2 ((hco.1 .link (by decide)) ▸ hw)
      next hh =>
        rw [if_neg hh] at hcount henab hlink
        exact ⟨hcount.trans hcl.1, henab.trans hcl.2, hlink.trans (hco.1 .link (by decide))⟩
    · have h1 (j : Nat) (hj : j ∈ occasionKeys) : (captureLeft k s).obj j = (occasionCounted k s).obj j := by
        have hj' : j ≠ O.watchState ∧ j ∉ [O.watchHitCount, O.indicationsDropped, O.watchEnable] := by
          simp only [occasionKeys, List.mem_cons, List.not_mem_nil, or_false] at hj
          rcases hj with rfl | rfl | rfl <;> decide
        exact (hobj j hj'.1).trans ((hre.2 j hj'.2).trans (compared_obj k s j))
      have h2 := occasionCounted_counts k s
      unfold Counted at h2 ⊢
      rw [h1 O.leOps (by decide), h1 O.prachOccasions (by decide)]
      exact h2
    · obtain ⟨j, hjl, hjk⟩ := hj
      obtain ⟨g1, g2, -⟩ := captureDone_watch k s
      have hne : ¬ (captureDone k s).power.watch.left.isEmpty = true := by
        rw [g1, List.isEmpty_iff]
        exact List.ne_nil_of_mem (List.mem_filter.mpr ⟨hjl, by simpa using hjk⟩)
      have hl : captureLeft k s = _ := if_neg hne
      rw [hl]
      refine ⟨g1, g2, ?_⟩
      rw [State.obj_setObj_same]
      split
      · exact .inl rfl
      · exact .inr rfl
    · obtain ⟨g1, -, g3⟩ := captureDone_watch k s
      have he : (captureDone k s).power.watch.left.isEmpty = true := by
        rw [g1, List.isEmpty_iff, List.filter_eq_nil_iff]
        exact fun j hjl => by simpa using hj j hjl
      have hl : captureLeft k s = wakeEnds (captureDone k s) := if_pos he
      rw [hl]
      obtain ⟨e1, e2, e3⟩ := wakeEnds_ended (captureDone k s)
      exact ⟨e1, e2, fun h => e3 (g3 h)⟩
    · exact Leaves.trans (Leaves.mono hco (by decide) (by decide)) (Leaves.trans (Leaves.mono hre (by decide) (by decide))
        (Leaves.trans (Leaves.mono hdone (by decide) (by simp)) (Leaves.mono hle (by decide) (by decide))))
  · rw [show exec .watchExitComplete s = execWatchExitComplete s from rfl, execWatchExitComplete]
    have hsd : shutDone O.watchEnable ((s.setObj O.watchState 0).setObj O.latched 0) = ((s.setObj O.watchState 0).setObj O.latched 0).setObj O.watchEnable 0 :=
      shutDone_stopping ((State.obj_setObj_ne _ _ _ _ (by decide)).trans ((State.obj_setObj_ne _ _ _ _ (by decide)).trans h3))
    have hsh : serveHeld (((s.setObj O.watchState 0).setObj O.latched 0).setObj O.watchEnable 0) = ((s.setObj O.watchState 0).setObj O.latched 0).setObj O.watchEnable 0 :=
      serveHeld_of_none hv
    split
    next hw =>
      rw [if_pos (by simp [h6, hw]), hsd, hsh]
      refine ⟨_, rfl, State.obj_setObj_same .., ?_, ?_, ?_⟩
      · exact (State.obj_setObj_ne _ _ _ _ (by decide)).trans ((State.obj_setObj_ne _ _ _ _ (by decide)).trans (State.obj_setObj_same ..))
      · exact (State.obj_setObj_ne _ _ _ _ (by decide)).trans (State.obj_setObj_same ..)
      · exact Leaves.trans (Leaves.setObj _ _ _ (by decide) (by decide)) (Leaves.trans (Leaves.setObj _ _ _ (by decide) (by decide)) (Leaves.setObj _ _ _ (by decide) (by decide)))
    next hw => rw [if_neg (by simp [hw])]
end

section
/-! SUPPORT. The ports' links: their enables, their losses and the failover of carriers (09 R300 to R302, R324 to R327). -/
namespace Sys2Proof.Machine
open Sys2Proof.Safety

/-! ## What a write of an enable leaves beside its objects -/

/-- A served write of 1 to an enable that reads OFF leaves, beside objects, replies and the log, what its settling leaves. -/
theorem hostWrite_on_same (e : EnableRules) {x : Xfer} {s : State} {r : Reason} (h : Accepts s x e.key (.num 1)) (h0 : s.obj e.key = 0)
    (hr : e.judge (atWrite s x e.key (.num 1)) = r) {ps : List Part} {ks : List Nat}
    (hl : Leaves (atWrite s x e.key (.num 1)) (e.settle r (atWrite s x e.key (.num 1))) (.dict :: ps) ks) (hp : Part.svc ∈ ps)
    (hk : ∀ k ∈ checkKeys, k ∈ ks) (hn : Part.link ∉ Part.dict :: ps) :
    SameBut (e.settle r (atWrite s x e.key (.num 1))) (hostWrite x e.key (.num 1) (e.write 1) s) [.dict, .link, .svc] := by
  subst hr
  obtain ⟨-, hsame, -⟩ := hostWrite_does (ps := ps) h (e.write_on _ ((atWrite_obj ..).trans h0))
    (EnableRules.afterOn_leaves e _ hl (by simp) (by simp [hp]) hk) hn
  exact SameBut.trans (SameBut.mono (EnableRules.afterOn_records e _).1 (by decide)) (SameBut.mono hsame (by decide))

/-- An object above the service's own is none that a check records or a transfer counts. -/
theorem not_checkKey {k : Nat} (h : 0x2D0000 ≤ k) : k ∉ checkKeys ∧ k ∉ [O.transfersServed, O.transfersRefused, O.busyReplies] := by
  simp only [checkKeys, O.lastCheckObject, O.lastCheckReason, O.enableLogCount, O.changeCount, O.transfersServed, O.transfersRefused, O.busyReplies,
    List.mem_cons, List.not_mem_nil, or_false]
  omega

/-! ## Links -/

theorem laneLost_leaves (lane : Nat) (s : State) : Leaves s (laneLost lane s) [.dict, .time] [O.squelched] :=
  Leaves.trans (Leaves.onTime _ _ (by decide)) (Leaves.foldl _ _ (fun _ _ _ => Leaves.ite _ (Leaves.setObj _ _ _ (by decide) (by decide)) (Leaves.refl ..)) _)

theorem linkLost_leaves (p : Nat) (s : State) : Leaves s (linkLost p s) [.dict, .time] [O.squelched] :=
  Leaves.trans (Leaves.trans (Leaves.foldl _ _ (fun _ _ _ => laneLost_leaves _ _) s) (Leaves.setPtp _ _ _ (by decide)))
    (Leaves.refreshQualified _ (by decide))

theorem bringUp_leaves (p : Nat) (s : State) {ks : List Nat} : Leaves s (bringUp p s) [.fh, .power] ks :=
  Leaves.mono (KeepsMoving.bringUp p s).1 (fun _ h => h) nofun

theorem portLanes_congr {s t : State} {p : Nat} (h : t.obj (O.portSpeed p) = s.obj (O.portSpeed p)) : portLanes t p = portLanes s p := by
  unfold portLanes State.nat
  rw [h]

theorem lanesGood_congr {s t : State} {p : Nat} (h : t.obj (O.portSpeed p) = s.obj (O.portSpeed p)) (hf : t.fh = s.fh) : lanesGood t p = lanesGood s p := by
  unfold lanesGood
  rw [portLanes_congr h, hf]

theorem bringUp_align (p : Nat) (s : State) : ((bringUp p s).port p).alignAt = if lanesGood s p = true then some s.clock.ticks else none := by
  unfold bringUp
  dsimp only
  split <;> rw [onPort_port] <;> rfl

theorem portAccept_leaves (p : Nat) (s : State) : Leaves s (portAccept p s) [.dict, .fh, .power] [O.portLinkState p] :=
  Leaves.trans (Leaves.setObj _ _ _ (by decide) (by simp)) (Leaves.mono (bringUp_leaves p _ (ks := [])) (by decide) (by simp))

theorem portRules_key (p : Nat) : (portRules p).key = O.portEnable p := rfl

theorem portRules_settle_leaves (p : Nat) (r : Reason) (s : State) : Leaves s ((portRules p).settle r s) [.dict, .fh, .power] [O.portEnable p, O.portLinkState p] := by
  by_cases h : r = .ok
  · rw [h, EnableRules.settle_ok]
    exact Leaves.trans (Leaves.setObj _ _ _ (by decide) (by simp [portRules_key])) (Leaves.mono (portAccept_leaves p _) (fun _ h => h) (by simp))
  · rw [EnableRules.settle_refused _ _ h]
    exact Leaves.setObj _ _ _ (by decide) (by simp [portRules_key])

theorem portCheck_congr {s t : State} (h : t.dict = s.dict) (p : Nat) : portCheck p t = portCheck p s := by
  unfold portCheck portLanes State.holds State.nat
  simp only [State.obj_congr h]

/-- The objects that a write of 1 to a port's enable may change. -/
def portOnKeys (p : Nat) : List Nat := [O.portEnable p, O.portLinkState p, O.lastCheckObject, O.lastCheckReason, O.enableLogCount, O.changeCount]

theorem writePortEnable_on {x : Xfer} {p : Nat} {s : State} (hp : p < 24) (h : Accepts s x (O.portEnable p) (.num 1)) (h0 : s.obj (O.portEnable p) = 0)
    (hb : s.obj O.bootState ≠ 5) : ∃ t, exec (.writePortEnable x p 1) s = .next t
      ∧ Answers s t x (O.portEnable p) (.num 1) (portCheck p s) [.svc, .fh, .power] (portOnKeys p)
      ∧ (if portCheck p s = .ok
         then t.obj (O.portEnable p) = 1 ∧ t.obj (O.portLinkState p) = 0
           ∧ (t.port p).alignAt = (if lanesGood s p = true then some (s.clock.ticks + x.dt) else none)
         else t.obj (O.portEnable p) = 0 ∧ t.obj (O.portLinkState p) = s.obj (O.portLinkState p) ∧ t.fh = s.fh) := by
  have hj : (portRules p).judge (atWrite s x (O.portEnable p) (.num 1)) = portCheck p s := by
    rw [EnableRules.judge_check _ (by rwa [atWrite_obj])]
    exact portCheck_congr (by rw [atWrite_num, advance_dict]) p
  have hl := portRules_settle_leaves p (portCheck p s) (atWrite s x (O.portEnable p) (.num 1))
  have hl' : Leaves (atWrite s x (O.portEnable p) (.num 1)) ((portRules p).settle (portCheck p s) (atWrite s x (O.portEnable p) (.num 1)))
      [.dict, .svc, .fh, .power] (portOnKeys p) := Leaves.mono hl (by decide) (by simp [portOnKeys])
  have hkeys : ∀ k ∈ checkKeys, k ∈ portOnKeys p := by simp [checkKeys, portOnKeys]
  obtain ⟨ha, ho⟩ := hostWrite_on (portRules p) (ps := [.svc, .fh, .power]) h h0 hj hl' (by decide) hkeys (by decide)
  have hs := hostWrite_on_same (portRules p) (ps := [.svc, .fh, .power]) h h0 hj hl' (by decide) hkeys (by decide)
  have h1 := ho (O.portEnable p) (not_checkKey (by simp only [O.portEnable]; omega)).1 (not_checkKey (by simp only [O.portEnable]; omega)).2
  have h2 := ho (O.portLinkState p) (not_checkKey (by simp only [O.portLinkState]; omega)).1 (not_checkKey (by simp only [O.portLinkState]; omega)).2
  have hfh : (hostWrite x (O.portEnable p) (.num 1) ((portRules p).write 1) s).fh
      = ((portRules p).settle (portCheck p s) (atWrite s x (O.portEnable p) (.num 1))).fh := hs .fh (by decide)
  have hne : O.portEnable p ≠ O.portLinkState p := by simp only [O.portEnable, O.portLinkState]; omega
  refine ⟨_, if_neg (by omega), ha, ?_⟩
  split
  next hk =>
    rw [hk, EnableRules.settle_ok] at h1 h2 hfh
    have hlg : lanesGood (((atWrite s x (O.portEnable p) (.num 1)).setObj (O.portEnable p) 1).setObj (O.portLinkState p) 0) p = lanesGood s p :=
      lanesGood_congr ((State.obj_setObj_ne _ _ _ _ (by simp only [O.portSpeed, O.portLinkState]; omega)).trans
        ((State.obj_setObj_ne _ _ _ _ (by simp only [O.portSpeed, O.portEnable]; omega)).trans (atWrite_obj ..)))
        ((State.setObj_fh ..).trans ((State.setObj_fh ..).trans (atWrite_same s x _ _ .fh (by decide))))
    refine ⟨h1.trans (((portAccept_leaves p _).2 _ (by simpa using hne)).trans (State.obj_setObj_same ..)), h2.trans ?_, ?_⟩
    · exact ((bringUp_leaves p _ (ks := [])).2 _ (by simp)).trans (State.obj_setObj_same ..)
    · rw [State.port, hfh]
      refine (bringUp_align p _).trans ?_
      rw [portRules_key, hlg, State.setObj_clock, State.setObj_clock, atWrite_num, advance_ticks]
  next hk =>
    rw [EnableRules.settle_refused _ _ hk] at h1 h2 hfh
    exact ⟨h1.trans (State.obj_setObj_same ..), h2.trans ((State.obj_setObj_ne _ _ _ _ (Ne.symm hne)).trans (atWrite_obj ..)),
      hfh.trans ((State.setObj_fh ..).trans (atWrite_same s x _ _ .fh (by decide)))⟩

/-! Shut-down. -/

/-- A part that time's passing may change needs no mention. -/
theorem Answers.drop_passing {s t : State} {x : Xfer} {key : Nat} {v : Val} {r : Reason} {q : Part} {ps : List Part} {ks : List Nat}
    (h : Answers s t x key v r (q :: ps) ks) (hq : q ∈ timeParts) : Answers s t x key v r ps ks := by
  obtain ⟨h1, h2, h3⟩ := h
  refine ⟨h1, SameBut.mono h2 fun p hp => ?_, h3⟩
  rcases List.mem_cons.mp hp with rfl | hp
  · refine List.mem_append_right _ (List.mem_cons_of_mem _ (List.mem_cons_of_mem _ ?_))
    split
    · exact hq
    · exact List.mem_cons_of_mem _ hq
  · exact hp

theorem portOff_leaves (p : Nat) (s : State) : Leaves s (portOff p s) [.dict, .fh, .time] [O.portLinkState p, O.squelched] :=
  Leaves.trans (Leaves.trans (Leaves.setObj _ _ _ (by decide) (by simp)) (Leaves.onPort _ _ _ (by decide)))
    (Leaves.mono (linkLost_leaves p _) (by decide) (by simp))

theorem portOff_state {p : Nat} (hp : p < 24) (s : State) : (portOff p s).obj (O.portLinkState p) = 3 ∧ (portOff p s).port p = .down := by
  have hl := linkLost_leaves p ((s.setObj (O.portLinkState p) 3).onPort p fun _ => PortIo.down)
  refine ⟨(hl.2 _ (by simp only [O.portLinkState, O.squelched, List.mem_cons, List.not_mem_nil, or_false]; omega)).trans
    ((State.onPort_obj ..).trans (State.obj_setObj_same ..)), ?_⟩
  have hf : (portOff p s).fh = ((s.setObj (O.portLinkState p) 3).onPort p fun _ => PortIo.down).fh := hl.1 .fh (by decide)
  rw [State.port, hf]
  exact onPort_port ..

theorem carriersOn_congr {s t : State} {p : Nat} (h : ∀ n < 64, t.obj (O.carrierEnable n) = s.obj (O.carrierEnable n) ∧ t.obj (O.fhPort n) = s.obj (O.fhPort n))
    (hp : ∀ n, t.obj (O.pairPort n) = s.obj (O.pairPort n)) : carriersOn t p = carriersOn s p := by
  unfold carriersOn
  refine List.filter_congr fun n hn => ?_
  obtain ⟨h1, h2⟩ := h n (List.mem_range.mp hn)
  unfold State.holds State.nat
  rw [h1, h2, hp]

/-- Which carriers name a port is said by objects that a port's links and enables are none of. -/
theorem carriersOn_leaves {s t : State} {p q : Nat} {ps : List Part} (h : Leaves s t ps [O.portEnable q, O.portLinkState q, O.squelched]) :
    carriersOn t p = carriersOn s p := by
  refine carriersOn_congr (fun n hn => ⟨h.2 _ ?_, h.2 _ ?_⟩) fun n => h.2 _ ?_
  all_goals
    simp only [O.carrierEnable, O.fhPort, O.pairPort, O.portEnable, O.portLinkState, O.squelched, List.mem_cons, List.not_mem_nil, or_false]
    omega

theorem portBusy_congr {s t : State} {p : Nat} (hc : carriersOn t p = carriersOn s p) (hq : queued t p = queued s p) : portBusy p t = portBusy p s := by
  unfold portBusy
  rw [hc, hq]

theorem queued_down {s : State} {p : Nat} (h : s.port p = .down) : queued s p = [] := by
  unfold queued waitingFrames
  rw [h]
  rfl

theorem portRules_shut {p : Nat} (hp : p < 24) (s : State) : (portRules p).shut s
    = if portBusy p s = true then s.setObj (O.portEnable p) 3 else shutDone (O.portEnable p) (portOff p (s.setObj (O.portEnable p) 3)) := by
  have hb : portBusy p (s.setObj (O.portEnable p) 3) = portBusy p s :=
    portBusy_congr (carriersOn_leaves (q := p) (ps := [.dict]) (Leaves.setObj _ _ _ (by decide) (by simp))) rfl
  have hstop : (portRules p).stop (s.setObj (O.portEnable p) 3)
      = if portBusy p s = true then s.setObj (O.portEnable p) 3 else portOff p (s.setObj (O.portEnable p) 3) := by
    rw [← hb]
    rfl
  have hbusy : (portRules p).busy = portBusy p := rfl
  unfold EnableRules.shut
  rw [portRules_key, hstop, hbusy]
  split
  next h => rw [hb, h, if_pos rfl]
  next h =>
    have hoff : portBusy p (portOff p (s.setObj (O.portEnable p) 3)) = false := by
      have hc : carriersOn (portOff p (s.setObj (O.portEnable p) 3)) p = carriersOn s p :=
        (carriersOn_leaves (q := p) (Leaves.mono (portOff_leaves p _) (fun _ h => h) (by simp))).trans
          (carriersOn_leaves (q := p) (ps := [.dict]) (Leaves.setObj _ _ _ (by decide) (by simp)))
      unfold portBusy at h ⊢
      rw [hc, queued_down (portOff_state hp _).2]
      simp only [Bool.or_eq_true, not_or] at h
      simpa using h.1
    rw [hoff, if_neg Bool.false_ne_true]

theorem portRules_shut_leaves {p : Nat} (hp : p < 24) (s : State) : Leaves s ((portRules p).shut s) [.dict, .svc, .fh, .time] [O.portEnable p, O.portLinkState p, O.squelched] := by
  rw [portRules_shut hp]
  exact Leaves.ite _ (Leaves.setObj _ _ _ (by decide) (by simp)) (Leaves.trans (Leaves.setObj _ _ _ (by decide) (by simp))
    (Leaves.trans (Leaves.mono (portOff_leaves p _) (by decide) (by simp)) (Leaves.mono (shutDone_leaves _ _) (by decide) (by simp))))

/-! ## Failover -/

/-- The objects of messages sent again, and of carriers that move: on any port. -/
def FailKey (k : Nat) : Prop :=
  (∃ q, k = O.cpTxSent q ∨ k = O.txFrames q ∨ k = O.txBytes q ∨ k = O.failovers q) ∨ (∃ n < 64, k = O.activePort n) ∨ k = O.indicationsDropped

/-- The objects of messages sent again. -/
def ResendKey (k : Nat) : Prop := ∃ q, k = O.cpTxSent q ∨ k = O.txFrames q ∨ k = O.txBytes q

theorem sendLaunch_moves (p : Nat) (l : Launch) (s : State) : Moves [.dict, .fh, .pipe] ResendKey s (sendLaunch p l s) :=
  Moves.mono (Moves.of_leaves (K := ResendKey) (sendLaunch_leaves p l s) fun k hk => by
    simp only [List.mem_cons, List.not_mem_nil, or_false] at hk
    exact ⟨p, .inr hk⟩) (by decide) fun _ h => h

theorem resend_moves (q : Nat) (l : Launch) (s : State) : Moves [.dict, .fh, .pipe] ResendKey s (resend q l s) :=
  Moves.trans (Moves.bump s (O.cpTxSent q) _ (by decide) ⟨q, .inl rfl⟩) (sendLaunch_moves ..)

theorem notSent_leaves (key status l : Nat) (s : State) {ks : List Nat} : Leaves s (notSent key status l s) [.pipe] ks := by
  unfold notSent
  split
  · exact Leaves.refl ..
  · exact Leaves.trans (Leaves.onCourse _ _ _ (by decide)) (causeAt_leaves _ _ _ _)

theorem loseLaunches_moves (p : Nat) (to' : Option Nat) (s : State) : Moves [.dict, .fh, .pipe] ResendKey s (loseLaunches p to' s) := by
  unfold loseLaunches
  refine Moves.trans (Moves.of_leaves (ks := []) (Leaves.onPort s p _ (by decide)) nofun) (Moves.foldl _ _ (fun l _ u => ?_) _)
  split
  · split
    · split
      · exact resend_moves ..
      · exact Moves.refl _
    · exact Moves.refl _
  · exact Moves.foldl _ _ (fun _ _ _ => Moves.of_leaves (ks := []) (Leaves.mono (notSent_leaves _ _ _ _ (ks := [])) (by decide) nofun) nofun) _

theorem ResendKey.fail {k : Nat} (h : ResendKey k) : FailKey k := by
  obtain ⟨q, h⟩ := h
  exact .inl ⟨q, by tauto⟩

/-- The parts that a failover may change. -/
def failParts : List Part := [.dict, .fh, .freeCtr, .link, .pipe]

theorem loseLaunches_fails (p : Nat) (to' : Option Nat) (s : State) : Moves failParts FailKey s (loseLaunches p to' s) :=
  Moves.mono (loseLaunches_moves p to' s) (by decide) fun _ h => h.fail

/-- The state in which carriers are active on a port. -/
def carriersMoved (l : List Nat) (q : Nat) (s : State) : State := l.foldl (fun s n => s.setObj (O.activePort n) (q : Nat)) s

theorem carriersMoved_moves {l : List Nat} (hl : ∀ n ∈ l, n < 64) (q : Nat) (s : State) : Moves failParts FailKey s (carriersMoved l q s) :=
  Moves.foldl _ _ (fun n hn _ => Moves.setObj _ _ _ (by decide) (.inr (.inl ⟨n, hl n hn, rfl⟩))) s

theorem carriersMoved_port {l : List Nat} {n : Nat} (h : n ∈ l) (q : Nat) (s : State) : (carriersMoved l q s).obj (O.activePort n) = q := by
  unfold carriersMoved
  induction l generalizing s with
  | nil => cases h
  | cons m l ih =>
    rw [List.foldl_cons]
    by_cases hn : n ∈ l
    · exact ih hn _
    · obtain rfl : n = m := (List.mem_cons.mp h).resolve_right hn
      refine Eq.trans (b := (s.setObj (O.activePort n) (q : Nat)).obj (O.activePort n)) ?_ (State.obj_setObj_same ..)
      refine (Leaves.foldl (ps := [.dict]) (ks := l.map O.activePort) _ l (fun m hm _ => Leaves.setObj _ _ _ (by decide) (List.mem_map_of_mem hm)) _).2 _ ?_
      intro hm
      obtain ⟨m, hml, he⟩ := List.mem_map.mp hm
      obtain rfl : m = n := by simp only [O.activePort] at he; omega
      exact hn hml

theorem movable_lt {s : State} {p n : Nat} (h : n ∈ movable s p) : n < 64 := by
  unfold movable at h
  split at h
  · split at h
    · exact List.mem_range.mp (List.mem_filter.mp h).1
    · cases h
  · cases h

/-- The state in which a port's launches of the last 5 µs go again and its carriers are active on its pair. -/
def failedOver (p q : Nat) (s : State) : State := carriersMoved (movable s p) q (loseLaunches p (some q) s)

theorem failover_moves (p cause : Nat) (s : State) : Moves failParts FailKey s (failover p cause s) := by
  unfold failover
  split
  · exact loseLaunches_fails ..
  next q _ =>
    dsimp only
    split
    · exact Moves.ite _ (loseLaunches_fails ..) (Moves.refl _)
    · have h1 : Moves failParts FailKey s (failedOver p q s) := Moves.trans (loseLaunches_fails ..) (carriersMoved_moves (fun _ => movable_lt) _ _)
      have h2 : Moves failParts FailKey (failedOver p q s) (failedOver p q s).free.2 := Moves.of_leaves (ks := []) (Leaves.free _ (by decide)) nofun
      exact h1.trans (h2.trans (Moves.raise _ _ _ _ _ (by decide) (by decide) (.inl ⟨p, .inr (.inr (.inr rfl))⟩) (.inr (.inr rfl))))

/-- A failover makes the carriers that may move active on the pair. -/
theorem failover_carrier {p q n : Nat} (cause : Nat) {s : State} (hq : s.pairOf p = some q) (h : n ∈ movable s p) :
    (failover p cause s).obj (O.activePort n) = q := by
  have hn := movable_lt h
  unfold failover
  rw [hq]
  dsimp only
  rw [if_neg (by simp only [List.isEmpty_iff]; exact List.ne_nil_of_mem h)]
  refine (State.obj_raise_ne _ _ _ _ _ _ (by simp only [O.activePort, O.failovers]; omega) (by simp only [O.activePort, O.indicationsDropped]; omega)).trans ?_
  exact carriersMoved_port h q _

theorem takeOver_moves (p : Nat) (s : State) : Moves failParts FailKey s (takeOver p s) := by
  unfold takeOver
  split
  · exact Moves.refl _
  · exact Moves.ite _ (Moves.refl _) (Moves.ite _ (failover_moves ..) (Moves.ite _ (failover_moves ..) (Moves.refl _)))

/-- A port whose pair, if it has one, reads UP takes nothing over. -/
theorem takeOver_pairUp {p : Nat} {s : State} (h : (s.pairOf p).all (fun q => s.obj (O.portLinkState q) == 1) = true) : takeOver p s = s := by
  unfold takeOver
  split
  · rfl
  next q hq =>
    have hu : s.obj (O.portLinkState q) = 1 := by simpa [hq] using h
    rw [hu]
    split <;> rfl

theorem pairOf_congr {s t : State} {p : Nat} (h : t.obj (O.pairPort p) = s.obj (O.pairPort p)) : t.pairOf p = s.pairOf p := by
  unfold State.pairOf State.nat
  rw [h]

theorem movable_congr {s t : State} {p : Nat} (hl : ∀ q, s.pairOf p = some q → t.obj (O.portLinkState q) = s.obj (O.portLinkState q))
    (ho : ∀ n < 64, t.obj (O.carrierEnable n) = s.obj (O.carrierEnable n) ∧ t.obj (O.activePort n) = s.obj (O.activePort n)
      ∧ t.obj (O.fhPort n) = s.obj (O.fhPort n)) (hp : ∀ n, t.obj (O.pairPort n) = s.obj (O.pairPort n)) : movable t p = movable s p := by
  have hpair (n : Nat) : t.pairOf n = s.pairOf n := pairOf_congr (hp n)
  unfold movable
  rw [hpair]
  split
  next q hq =>
    rw [hl q hq]
    refine congrArg (fun l => if (s.obj (O.portLinkState q) == 1) = true then l else []) (List.filter_congr fun n hn => ?_)
    obtain ⟨h1, h2, h3⟩ := ho n (List.mem_range.mp hn)
    unfold State.holds State.portsOf State.nat
    rw [h1, h2, h3, hpair]
  · rfl

/-! ## A link comes up -/

/-- The state in which a link reads UP. -/
def linkRisen (p since : Nat) (s : State) : State :=
  ((advanceTicks s (since + 1562500)).setObj (O.portLinkState p) 1).onPort p fun _ =>
    { PortIo.down with alignAt := some since, goodAt := some (advanceTicks s (since + 1562500)).clock.ticks }

/-- The state in which its lanes have their lock. -/
def lanesLocked (p since : Nat) (s : State) : State :=
  (portLanes s p).foldl (fun s l => s.onTime fun m => { m with laneLock := Store.put m.laneLock l since }) s

/-- The state of a port that reads UP and whose lanes have their lock. -/
def linkReady (p since : Nat) (s : State) : State := lanesLocked p since (linkRisen p since s)

theorem portLinkUp_rises {p since : Nat} {s : State} (hp : p < 24) (ha : (s.port p).alignAt = some since) (he : s.obj (O.portEnable p) ≠ 0)
    (hd : s.obj (O.portLinkState p) = 0) (hr : s.runs (portDomain p) = true) (hl : lanesGood s p = true) :
    exec (.portLinkUp p) s = .next (takeOver p (linkReady p since s)) := by
  show execPortLinkUp p s = _
  rw [execPortLinkUp, if_neg (by omega), ha]
  dsimp only
  rw [if_pos (by simp [State.holds, stOff, he, hd, hr, hl])]
  rfl

theorem lanesLocked_leaves (p since : Nat) (s : State) {ks : List Nat} : Leaves s (lanesLocked p since s) [.time] ks :=
  Leaves.foldl _ _ (fun _ _ _ => Leaves.onTime _ _ (by decide)) s

theorem lanesLocked_lock (p since : Nat) (s : State) {l : Nat} (h : l ∈ portLanes s p) : Store.find (lanesLocked p since s).time.laneLock l = some since := by
  have hf (ls : List Nat) (u : State) (hu : l ∈ ls ∨ Store.find u.time.laneLock l = some since) :
      Store.find (ls.foldl (fun s l => s.onTime fun m => { m with laneLock := Store.put m.laneLock l since }) u).time.laneLock l = some since := by
    induction ls generalizing u with
    | nil => exact hu.resolve_left List.not_mem_nil
    | cons a ls ih =>
      refine ih _ ?_
      by_cases ha : l = a
      · exact .inr (by rw [ha]; exact Store.find_put_same ..)
      · rcases hu with hu | hu
        · exact .inl ((List.mem_cons.mp hu).resolve_left ha)
        · exact .inr ((Store.find_put_ne _ _ _ _ ha).trans hu)
  exact hf _ _ (.inl h)

theorem linkRisen_leaves (p since : Nat) (s : State) : Leaves s (linkRisen p since s) (.dict :: .fh :: timeParts) [O.portLinkState p] :=
  Leaves.trans (advanceTicks_leaves _ _ (by decide)) (Leaves.trans (Leaves.setObj _ _ _ (by decide) (by simp)) (Leaves.onPort _ _ _ (by decide)))

theorem linkReady_leaves (p since : Nat) (s : State) : Leaves s (linkReady p since s) (.dict :: .fh :: timeParts) [O.portLinkState p] :=
  Leaves.trans (linkRisen_leaves p since s) (Leaves.mono (lanesLocked_leaves p since _ (ks := [])) (by decide) (by simp))

theorem linkReady_state (p since : Nat) (s : State) : (linkReady p since s).obj (O.portLinkState p) = 1 :=
  ((lanesLocked_leaves p since _ (ks := [])).2 _ (by simp)).trans ((State.onPort_obj ..).trans (State.obj_setObj_same ..))

/-- What a port's link state leaves as it was, of the objects that say where carriers may move. -/
theorem linkState_objects {s t : State} {p : Nat} {ps : List Part} (hp : p < 24) (h : Leaves s t ps [O.portLinkState p]) :
    (∀ q, q ≠ p → t.obj (O.portLinkState q) = s.obj (O.portLinkState q)) ∧ (∀ n < 64, t.obj (O.carrierEnable n) = s.obj (O.carrierEnable n)
      ∧ t.obj (O.activePort n) = s.obj (O.activePort n) ∧ t.obj (O.fhPort n) = s.obj (O.fhPort n)) ∧ ∀ n, t.obj (O.pairPort n) = s.obj (O.pairPort n) := by
  refine ⟨fun q hq => h.2 _ ?_, fun n hn => ⟨h.2 _ ?_, h.2 _ ?_, h.2 _ ?_⟩, fun n => h.2 _ ?_⟩
  all_goals
    simp only [O.portLinkState, O.carrierEnable, O.activePort, O.fhPort, O.pairPort, List.mem_cons, List.not_mem_nil, or_false]
    omega

theorem not_failKey_link {p : Nat} (hp : p < 24) : ¬ FailKey (O.portLinkState p) ∧ ¬ FailKey (O.linkDowns p) := by
  refine ⟨?_, ?_⟩ <;>
  · rintro (⟨q, h | h | h | h⟩ | ⟨n, hn, h⟩ | h) <;>
      simp only [O.portLinkState, O.linkDowns, O.cpTxSent, O.txFrames, O.txBytes, O.failovers, O.activePort, O.indicationsDropped] at h <;> omega

/-- The carriers of a pair that is down continue on a port that comes up. -/
theorem takeOver_downPair {p q n : Nat} {s : State} (hpq : s.pairOf p = some q) (hqp : s.pairOf q = some p) (hu : s.obj (O.portLinkState p) = 1)
    (hd : s.obj (O.portLinkState q) = 0) (hn : n < 64) (hc : s.holds (O.carrierEnable n) = true) (ha : s.nat (O.activePort n) = q) (hm : p ∈ s.portsOf n) :
    (takeOver p s).obj (O.activePort n) = p := by
  have h : n ∈ movable s q := by
    unfold movable
    rw [hqp]
    dsimp only
    rw [hu, if_pos (by decide)]
    exact List.mem_filter.mpr ⟨List.mem_range.mpr hn, by simp [hc, ha, hm]⟩
  unfold takeOver
  rw [hpq]
  dsimp only
  rw [if_neg (by simp only [List.isEmpty_iff]; exact List.ne_nil_of_mem h), hd, if_pos (by decide)]
  exact failover_carrier 0 hqp h

/-! ## A link is lost -/

/-- The state in which a port reads DOWN, FH_LINK_DOWN is raised, and it aligns anew. -/
def linkFallen (p : Nat) (s : State) : State :=
  (bringUp p (linkLost p (raise (s.setObj (O.portLinkState p) 0) (O.linkDowns p) p [] 0))).onPort p fun x =>
    { x with recent := ((raise (s.setObj (O.portLinkState p) 0) (O.linkDowns p) p [] 0).port p).recent }

theorem portDown_eq (p : Nat) (s : State) : portDown p s = failover p 0 (linkFallen p s) := rfl

theorem fhLinkDown_fails {p : Nat} (dt : Nat) (cause : LinkCause) {s : State} (hp : p < 24) (hu : s.linkUp p = true) :
    exec (.fhLinkDown dt p cause) s = .next (failover p 0 (linkFallen p (advance s dt))) := by
  have hu' : (advance s dt).linkUp p = true := by
    unfold State.linkUp at hu ⊢
    simpa only [State.obj_congr (advance_dict s dt)] using hu
  show execFhLinkDown dt p cause s = _
  rw [execFhLinkDown, if_neg (by omega)]
  dsimp only
  cases cause <;> exact if_pos hu'

theorem linkFallen_leaves (p : Nat) (s : State) :
    Leaves s (linkFallen p s) [.dict, .fh, .link, .power, .time] [O.portLinkState p, O.linkDowns p, O.indicationsDropped, O.squelched] :=
  Leaves.trans (Leaves.setObj _ _ _ (by decide) (by simp)) (Leaves.trans (Leaves.raise _ _ _ _ _ (by decide) (by decide) (by simp) (by simp))
    (Leaves.trans (Leaves.mono (linkLost_leaves p _) (by decide) (by simp)) (Leaves.trans (Leaves.mono (bringUp_leaves p _ (ks := [])) (by decide) (by simp))
      (Leaves.onPort _ _ _ (by decide)))))

/-- After the raise nothing of it is lost until the failover. -/
theorem linkFallen_raised {p : Nat} (hp : p < 24) (s : State) : (linkFallen p s).obj (O.portLinkState p) = 0
    ∧ Counted s (linkFallen p s) (O.linkDowns p) 1 ∧ Indicates s (linkFallen p s) (O.linkDowns p) p [] 0 := by
  have hne : O.portLinkState p ≠ O.linkDowns p ∧ O.portLinkState p ≠ O.indicationsDropped ∧ O.portLinkState p ≠ O.squelched
      ∧ O.linkDowns p ≠ O.squelched ∧ O.linkDowns p ≠ O.indicationsDropped := by
    simp only [O.portLinkState, O.linkDowns, O.indicationsDropped, O.squelched]
    omega
  obtain ⟨h1, h2, h3, h4, h5⟩ := hne
  have hl : Leaves (raise (s.setObj (O.portLinkState p) 0) (O.linkDowns p) p [] 0) (linkFallen p s) [.dict, .fh, .power, .time] [O.squelched] :=
    Leaves.trans (Leaves.mono (linkLost_leaves p _) (by decide) (by simp)) (Leaves.trans (Leaves.mono (bringUp_leaves p _ (ks := [])) (by decide) (by simp))
      (Leaves.onPort _ _ _ (by decide)))
  refine ⟨(hl.2 _ (by simpa using h3)).trans ((State.obj_raise_ne _ _ _ _ _ _ h1 h2).trans (State.obj_setObj_same ..)), ?_, fun hw => ?_⟩
  · refine (hl.2 _ (by simpa using h4)).trans ?_
    exact Counted.of_obj (s' := s.setObj (O.portLinkState p) 0) (State.obj_setObj_ne _ _ _ _ (Ne.symm h1)) (raise_counted _ _ _ _ _ h5)
  · rw [hl.1 .link (by decide)]
    exact raise_indicates (s.setObj (O.portLinkState p) 0) (O.linkDowns p) p [] 0 hw

/-- An indication that waits is not taken from the queue when another is raised. -/
theorem raise_waiting (s : State) (k u : Nat) (d : Bytes) (c : Nat) {i : Indication} (h : i ∈ s.link.waiting) : i ∈ (raise s k u d c).link.waiting := by
  unfold raise raiseFor
  dsimp only
  split
  · exact h
  · exact List.mem_append_left _ h

theorem failover_waiting {p cause : Nat} {s : State} {i : Indication} (h : i ∈ s.link.waiting) : i ∈ (failover p cause s).link.waiting := by
  have hl (to' : Option Nat) : (loseLaunches p to' s).link = s.link := (loseLaunches_moves p to' s).same .link (by decide)
  have hm (l : List Nat) (q : Nat) (u : State) : (carriersMoved l q u).link = u.link :=
    (Leaves.foldl (ps := [.dict]) (ks := l.map O.activePort) _ l (fun m hm _ => Leaves.setObj _ _ _ (by decide) (List.mem_map_of_mem hm)) u).1 .link (by decide)
  unfold failover
  split
  · rwa [hl]
  next q _ =>
    dsimp only
    split
    · split
      · rwa [hl]
      · exact h
    · refine raise_waiting _ _ _ _ _ ?_
      show i ∈ (carriersMoved (movable s p) q (loseLaunches p (some q) s)).link.waiting
      rwa [hm, hl]

theorem le_foldl_ends {f : QFrame} {l : List QFrame} (n : Nat) (h : f ∈ l) : f.ends ≤ l.foldl (fun t f => max t f.ends) n := by
  have hn (l : List QFrame) (n : Nat) : n ≤ l.foldl (fun t f => max t f.ends) n := by
    induction l generalizing n with
    | nil => exact le_refl _
    | cons a l ih => exact (le_max_left _ _).trans (ih _)
  induction l generalizing n with
  | nil => cases h
  | cons a l ih =>
    rcases List.mem_cons.mp h with rfl | h
    · exact (le_max_right _ _).trans (hn l _)
    · exact ih _ h

/-- The state at the end of a port's queue. -/
def queueSent (p : Nat) (s : State) : State := advanceTicks s ((s.port p).queue.foldl (fun t f => max t f.ends) 0)

theorem portShutdownComplete_ends {p : Nat} {s : State} (hp : p < 24) (h3 : s.obj (O.portEnable p) = 3) (hs : s.shutRuns (O.portEnable p) = true)
    (hc : (carriersOn s p).isEmpty = true) : exec (.portShutdownComplete p) s = .next (shutDone (O.portEnable p) (portOff p (queueSent p s))) := by
  show execPortShutdownComplete p s = _
  rw [execPortShutdownComplete, if_neg (by omega)]
  dsimp only
  rw [if_pos (by simp [h3, hs, hc, stStopping])]
  rfl

theorem failoverReturn_returns {n since : Nat} {s : State} (hn : n < 64) (hg : (s.port (s.nat (O.fhPort n))).goodAt = some since)
    (he : s.obj (O.carrierEnable n) ≠ 0) (hp : s.nat (O.fhPort n) < 24) (ha : s.nat (O.activePort n) ≠ s.nat (O.fhPort n))
    (hf : s.obj (O.failoverMode (s.nat (O.fhPort n))) = 1) (hu : s.obj (O.portLinkState (s.nat (O.fhPort n))) = 1)
    (hq : quietNow (advanceTicks s (since + 1562500000)) n = true) :
    exec (.failoverReturn n) s = .next ((advanceTicks s (since + 1562500000)).setObj (O.activePort n) (s.nat (O.fhPort n) : Nat)) := by
  show execFailoverReturn n s = _
  rw [execFailoverReturn, if_neg (by omega)]
  dsimp only
  rw [hg]
  dsimp only
  rw [if_pos (by simp [State.holds, stOff, he, hp, ha, hf, hu]), if_pos hq]

/-! ## FEC windows -/

/-- The state in which a window's figures are shown and its verdict counted. -/
def fecShown (p ber corrected uncorrectable : Nat) (s : State) : State :=
  (((s.setObj (O.preFecBer p) (ber % 2 ^ 32 : Nat)).bump (O.fecCorrected p) corrected).bump (O.fecUncorrectable p) uncorrectable).onPort p fun x =>
    { x with above := if s.nat (O.fecDegradeBer p) * 1000 < ber then x.above + 1 else 0
             below := if 2 * ber < s.nat (O.fecDegradeBer p) * 1000 then x.below + 1 else 0 }

/-- The state in which a port reads DEGRADED. -/
def linkDegraded (p : Nat) (s : State) : State := (s.setObj (O.portLinkState p) 2).onPort p fun x => { x with goodAt := none, below := 0 }

/-- The state in which it reads UP again. -/
def linkRestored (p : Nat) (s : State) : State := (s.setObj (O.portLinkState p) 1).onPort p fun x => { x with goodAt := some s.clock.ticks, above := 0 }

theorem fecBerWindow_shows {p : Nat} (ber corrected uncorrectable : Nat) {s : State} (hp : p < 24) (hu : s.linkUp p = true) :
    exec (.fecBerWindow p ber corrected uncorrectable) s = .next (
      if ((fecShown p ber corrected uncorrectable s).obj (O.portLinkState p) == 1 && decide (3 ≤ ((fecShown p ber corrected uncorrectable s).port p).above)) = true then
        (if ((linkDegraded p (fecShown p ber corrected uncorrectable s)).obj (O.failoverOnDegrade p) == 1) = true
          then failover p 1 (linkDegraded p (fecShown p ber corrected uncorrectable s)) else linkDegraded p (fecShown p ber corrected uncorrectable s))
      else if ((fecShown p ber corrected uncorrectable s).obj (O.portLinkState p) == 2 && decide (1000 ≤ ((fecShown p ber corrected uncorrectable s).port p).below)) = true then
        takeOver p (linkRestored p (fecShown p ber corrected uncorrectable s))
      else fecShown p ber corrected uncorrectable s) := by
  show execFecBerWindow p ber corrected uncorrectable s = _
  rw [execFecBerWindow, if_neg (by omega), if_neg (by simp [hu])]
  dsimp only
  rw [← fecShown, ← linkDegraded, ← linkRestored]
  split
  · rfl
  · split <;> rfl

theorem writePortEnable_off {x : Xfer} {p : Nat} {s : State} (hp : p < 24) (h : Accepts s x (O.portEnable p) (.num 0)) (h1 : s.obj (O.portEnable p) = 1) :
    ∃ t, exec (.writePortEnable x p 0) s = .next t
      ∧ Answers s t x (O.portEnable p) (.num 0) .ok [.svc, .fh] [O.portEnable p, O.portLinkState p, O.squelched, O.changeCount]
      ∧ (if portBusy p (advance s x.dt) = true
         then t.obj (O.portEnable p) = 3 ∧ t.obj (O.portLinkState p) = s.obj (O.portLinkState p)
         else t.obj (O.portEnable p) = 0 ∧ t.obj (O.portLinkState p) = 3) := by
  have hl := portRules_shut_leaves hp (atWrite s x (O.portEnable p) (.num 0))
  obtain ⟨ha, ho⟩ := hostWrite_off (portRules p) (ps := [.time, .svc, .fh]) (ks := [O.portEnable p, O.portLinkState p, O.squelched, O.changeCount]) h h1
    (Leaves.mono hl (by decide) (by simp)) (by decide) (by simp) (by decide)
  have h2 := ho (O.portEnable p) (by simp only [O.portEnable, O.changeCount]; omega) (not_checkKey (by simp only [O.portEnable]; omega)).2
  have h3 := ho (O.portLinkState p) (by simp only [O.portLinkState, O.changeCount]; omega) (not_checkKey (by simp only [O.portLinkState]; omega)).2
  have hne : O.portLinkState p ≠ O.portEnable p := by simp only [O.portEnable, O.portLinkState]; omega
  rw [portRules_key, portRules_shut hp, atWrite_num] at h2 h3
  refine ⟨_, if_neg (by omega), Answers.drop_passing ha (by decide), ?_⟩
  split
  next hb =>
    rw [if_pos hb] at h2 h3
    exact ⟨h2.trans (State.obj_setObj_same ..), h3.trans ((State.obj_setObj_ne _ _ _ _ hne).trans (State.obj_congr (advance_dict ..) _))⟩
  next hb =>
    have hdone : shutDone (O.portEnable p) (portOff p ((advance s x.dt).setObj (O.portEnable p) 3))
        = (portOff p ((advance s x.dt).setObj (O.portEnable p) 3)).setObj (O.portEnable p) 0 :=
      shutDone_stopping (((portOff_leaves p _).2 _ (by simp only [O.portEnable, O.portLinkState, O.squelched, List.mem_cons, List.not_mem_nil, or_false]; omega)).trans
        (State.obj_setObj_same ..))
    rw [if_neg hb, hdone] at h2 h3
    exact ⟨h2.trans (State.obj_setObj_same ..), h3.trans ((State.obj_setObj_ne _ _ _ _ hne).trans (portOff_state hp _).1)⟩

theorem portLinkUp_up {p since : Nat} {s : State} (hp : p < 24) (ha : (s.port p).alignAt = some since) (he : s.obj (O.portEnable p) ≠ 0)
    (hd : s.obj (O.portLinkState p) = 0) (hr : s.runs (portDomain p) = true) (hl : lanesGood s p = true)
    (hq : (s.pairOf p).all (fun q => s.obj (O.portLinkState q) == 1) = true) :
    ∃ t, exec (.portLinkUp p) s = .next t ∧ t.obj (O.portLinkState p) = 1 ∧ since + 1562500 ≤ t.clock.ticks
      ∧ (t.port p).goodAt = some t.clock.ticks ∧ (∀ l ∈ portLanes s p, Store.find t.time.laneLock l = some since)
      ∧ Leaves s t (.dict :: .fh :: timeParts) [O.portLinkState p] := by
  have hready := linkReady_leaves p since s
  have hobj := linkState_objects hp hready
  have htake : takeOver p (linkReady p since s) = linkReady p since s := by
    refine takeOver_pairUp ?_
    rw [pairOf_congr (hobj.2.2 p)]
    cases hpq : s.pairOf p with
    | none => rfl
    | some q =>
      have hqu : s.obj (O.portLinkState q) = 1 := by simpa [hpq] using hq
      by_cases hqp : q = p
      · simpa [hqp] using linkReady_state p since s
      · simpa [hqu] using hobj.1 q hqp
  have hex : exec (.portLinkUp p) s = .next (linkReady p since s) := (portLinkUp_rises hp ha he hd hr hl).trans (congrArg Host.Outcome.next htake)
  have hlock := lanesLocked_leaves p since (linkRisen p since s) (ks := [])
  have hck : (linkReady p since s).clock = (advanceTicks s (since + 1562500)).clock := hlock.1 .clock (by decide)
  refine ⟨_, hex, linkReady_state p since s, ?_, ?_, fun l hls => ?_, hready⟩
  · rw [hck]
    exact le_advanceTicks _ _
  · have hport : (linkReady p since s).port p = (linkRisen p since s).port p := by
      rw [State.port, State.port, show (linkReady p since s).fh = (linkRisen p since s).fh from hlock.1 .fh (by decide)]
    rw [hport, hck, linkRisen, onPort_port]
  · refine lanesLocked_lock p since _ ?_
    rw [portLanes_congr ((linkRisen_leaves p since s).2 _ (by simp only [O.portSpeed, O.portLinkState, List.mem_singleton]; omega))]
    exact hls

theorem portLinkUp_takesOver {p q since : Nat} {s : State} (hp : p < 24) (hne : q ≠ p) (ha : (s.port p).alignAt = some since)
    (he : s.obj (O.portEnable p) ≠ 0) (hd : s.obj (O.portLinkState p) = 0) (hr : s.runs (portDomain p) = true) (hl : lanesGood s p = true)
    (hpq : s.pairOf p = some q) (hqp' : s.pairOf q = some p) (hdq : s.obj (O.portLinkState q) = 0) :
    ∃ t, exec (.portLinkUp p) s = .next t ∧ t.obj (O.portLinkState p) = 1
      ∧ (∀ n, n < 64 → s.holds (O.carrierEnable n) = true → s.nat (O.activePort n) = q → p ∈ s.portsOf n → t.obj (O.activePort n) = p)
      ∧ SameBut s t (.dict :: .fh :: .freeCtr :: .link :: .pipe :: .power :: timeParts) := by
  have hready := linkReady_leaves p since s
  obtain ⟨hst, hcar, hpair⟩ := linkState_objects hp hready
  have hm := takeOver_moves p (linkReady p since s)
  refine ⟨_, portLinkUp_rises hp ha he hd hr hl, ?_, fun n hn hc hac hmem => ?_, ?_⟩
  · exact (hm.obj _ (not_failKey_link hp).1).trans (linkReady_state p since s)
  · obtain ⟨h1, h2, h3⟩ := hcar n hn
    refine takeOver_downPair ((pairOf_congr (hpair p)).trans hpq) ((pairOf_congr (hpair q)).trans hqp') (linkReady_state p since s)
      ((hst q hne).trans hdq) hn ?_ ?_ ?_
    · rw [State.holds] at hc ⊢
      rwa [h1]
    · rw [State.nat, h2]
      exact hac
    · unfold State.portsOf State.nat at hmem ⊢
      rwa [h3, pairOf_congr (hpair _)]
  · exact SameBut.trans (SameBut.mono hready.1 (by decide)) (SameBut.mono hm.same (by decide))

theorem fhLinkDown_down {p : Nat} (dt : Nat) (cause : LinkCause) {s : State} (hp : p < 24) (hu : s.linkUp p = true) :
    ∃ t, exec (.fhLinkDown dt p cause) s = .next t ∧ t.obj (O.portLinkState p) = 0 ∧ Counted s t (O.linkDowns p) 1
      ∧ Indicates s t (O.linkDowns p) p [] 0
      ∧ (∀ q, s.pairOf p = some q → q ≠ p → ∀ n ∈ movable s p, t.obj (O.activePort n) = q)
      ∧ SameBut s t (.dict :: .fh :: .freeCtr :: .link :: .pipe :: .power :: timeParts) := by
  have hfall := linkFallen_leaves p (advance s dt)
  obtain ⟨h0, hc, hi⟩ := linkFallen_raised hp (advance s dt)
  have hm := failover_moves p 0 (linkFallen p (advance s dt))
  have ho (k : Nat) : (advance s dt).obj k = s.obj k := State.obj_congr (advance_dict ..) k
  have hlk : (advance s dt).link = s.link := advance_link ..
  refine ⟨_, fhLinkDown_fails dt cause hp hu, ?_, ?_, ?_, fun q hpq hne n hn => ?_, ?_⟩
  · exact (hm.obj _ (not_failKey_link hp).1).trans h0
  · exact (hm.obj _ (not_failKey_link hp).2).trans (Counted.of_obj (ho _) hc)
  · intro hw
    obtain ⟨i, hi, hrest⟩ := hi (hlk ▸ hw)
    exact ⟨i, failover_waiting hi, hrest⟩
  · have hat (j : Nat) (hj : j ∉ [O.portLinkState p, O.linkDowns p, O.indicationsDropped, O.squelched]) : (linkFallen p (advance s dt)).obj j = s.obj j :=
      (hfall.2 _ hj).trans (ho _)
    have hpair (n : Nat) : (linkFallen p (advance s dt)).obj (O.pairPort n) = s.obj (O.pairPort n) := hat _ (by
      simp only [O.pairPort, O.portLinkState, O.linkDowns, O.indicationsDropped, O.squelched, List.mem_cons, List.not_mem_nil, or_false]; omega)
    have hmov : movable (linkFallen p (advance s dt)) p = movable s p := by
      refine movable_congr (fun q' hq' => hat _ ?_) (fun m hm => ⟨hat _ ?_, hat _ ?_, hat _ ?_⟩) hpair
      · obtain rfl : q' = q := Option.some.inj (hq'.symm.trans hpq)
        simp only [O.portLinkState, O.linkDowns, O.indicationsDropped, O.squelched, List.mem_cons, List.not_mem_nil, or_false]
        omega
      all_goals
        simp only [O.carrierEnable, O.activePort, O.fhPort, O.portLinkState, O.linkDowns, O.indicationsDropped, O.squelched, List.mem_cons, List.not_mem_nil, or_false]
        omega
    exact failover_carrier 0 ((pairOf_congr (hpair p)).trans hpq) (by rw [hmov]; exact hn)
  · exact SameBut.trans (SameBut.advance _ _ _ (by decide)) (SameBut.trans (SameBut.mono hfall.1 (by decide)) (SameBut.mono hm.same (by decide)))

theorem portShutdownComplete_off {p : Nat} {s : State} (hp : p < 24) (h3 : s.obj (O.portEnable p) = 3) (hs : s.shutRuns (O.portEnable p) = true)
    (hc : (carriersOn s p).isEmpty = true) : ∃ t, exec (.portShutdownComplete p) s = .next t ∧ t.obj (O.portEnable p) = 0 ∧ t.obj (O.portLinkState p) = 3
      ∧ (∀ f ∈ (s.port p).queue, f.ends ≤ t.clock.ticks)
      ∧ Leaves s t (.dict :: .fh :: timeParts) [O.portEnable p, O.portLinkState p, O.squelched] := by
  have hoff := portOff_leaves p (queueSent p s)
  have hsent : Leaves s (queueSent p s) timeParts [] := advanceTicks_leaves _ _ (fun _ h => h)
  have hne : O.portEnable p ∉ [O.portLinkState p, O.squelched] ∧ O.portLinkState p ≠ O.portEnable p := by
    simp only [O.portEnable, O.portLinkState, O.squelched, List.mem_cons, List.not_mem_nil, or_false]
    omega
  have hdone : shutDone (O.portEnable p) (portOff p (queueSent p s)) = (portOff p (queueSent p s)).setObj (O.portEnable p) 0 :=
    shutDone_stopping ((hoff.2 _ hne.1).trans ((hsent.2 _ (by simp)).trans h3))
  refine ⟨_, portShutdownComplete_ends hp h3 hs hc, ?_, ?_, fun f hf => ?_, ?_⟩
  · rw [hdone, State.obj_setObj_same]
  · rw [hdone, State.obj_setObj_ne _ _ _ _ hne.2]
    exact (portOff_state hp _).1
  · rw [hdone, State.setObj_clock, hoff.1 .clock (by decide)]
    exact (le_foldl_ends 0 hf).trans (le_advanceTicks _ _)
  · rw [hdone]
    exact Leaves.trans (Leaves.mono hsent (by decide) (by simp)) (Leaves.trans (Leaves.mono hoff (by decide) (by simp))
      (Leaves.setObj _ _ _ (by decide) (by simp)))

theorem fecShown_leaves (p ber corrected uncorrectable : Nat) (s : State) :
    Leaves s (fecShown p ber corrected uncorrectable s) [.dict, .fh] [O.preFecBer p, O.fecCorrected p, O.fecUncorrectable p] :=
  Leaves.trans (Leaves.setObj _ _ _ (by decide) (by simp)) (Leaves.trans (Leaves.bump _ _ _ (by decide) (by simp))
    (Leaves.trans (Leaves.bump _ _ _ (by decide) (by simp)) (Leaves.onPort _ _ _ (by decide))))

theorem fecShown_figures (p corrected uncorrectable : Nat) {ber : Nat} (hb : ber < 2 ^ 32) (s : State) :
    (fecShown p ber corrected uncorrectable s).obj (O.preFecBer p) = ber ∧ Counted s (fecShown p ber corrected uncorrectable s) (O.fecCorrected p) corrected
      ∧ Counted s (fecShown p ber corrected uncorrectable s) (O.fecUncorrectable p) uncorrectable := by
  have h1 : O.preFecBer p ≠ O.fecCorrected p ∧ O.preFecBer p ≠ O.fecUncorrectable p ∧ O.fecCorrected p ≠ O.fecUncorrectable p := by
    simp only [O.preFecBer, O.fecCorrected, O.fecUncorrectable]
    omega
  obtain ⟨h12, h13, h23⟩ := h1
  refine ⟨?_, ?_, ?_⟩
  · refine (State.onPort_obj ..).trans ((State.obj_bump_ne _ _ _ _ h13).trans ((State.obj_bump_ne _ _ _ _ h12).trans ((State.obj_setObj_same ..).trans ?_)))
    rw [Nat.mod_eq_of_lt hb]
  · refine (State.onPort_obj ..).trans ((State.obj_bump_ne _ _ _ _ h23).trans ?_)
    exact Counted.of_obj (s' := s.setObj (O.preFecBer p) (ber % 2 ^ 32 : Nat)) (State.obj_setObj_ne _ _ _ _ (Ne.symm h12)) (State.obj_bump_same ..)
  · refine (State.onPort_obj ..).trans ?_
    exact Counted.of_obj (s' := (s.setObj (O.preFecBer p) (ber % 2 ^ 32 : Nat)).bump (O.fecCorrected p) corrected)
      ((State.obj_bump_ne _ _ _ _ (Ne.symm h23)).trans (State.obj_setObj_ne _ _ _ _ (Ne.symm h13))) (State.obj_bump_same ..)

theorem fecShown_port (p ber corrected uncorrectable : Nat) (s : State) :
    ((fecShown p ber corrected uncorrectable s).port p).above = (if s.nat (O.fecDegradeBer p) * 1000 < ber then (s.port p).above + 1 else 0)
    ∧ ((fecShown p ber corrected uncorrectable s).port p).below = (if 2 * ber < s.nat (O.fecDegradeBer p) * 1000 then (s.port p).below + 1 else 0) := by
  unfold fecShown
  rw [onPort_port]
  exact ⟨rfl, rfl⟩

/-- What the end of a window makes of a port's state. -/
def fecJudged (p ber corrected uncorrectable : Nat) (s : State) : State :=
  if s.obj (O.portLinkState p) = 1 ∧ s.nat (O.fecDegradeBer p) * 1000 < ber ∧ 2 ≤ (s.port p).above then
    linkDegraded p (fecShown p ber corrected uncorrectable s)
  else if s.obj (O.portLinkState p) = 2 ∧ 2 * ber < s.nat (O.fecDegradeBer p) * 1000 ∧ 999 ≤ (s.port p).below then
    linkRestored p (fecShown p ber corrected uncorrectable s)
  else fecShown p ber corrected uncorrectable s

theorem le_ite_succ (c : Prop) [Decidable c] (n a : Nat) : n + 1 ≤ (if c then a + 1 else 0) ↔ c ∧ n ≤ a := by
  split
  next h => simp [h]
  next h => simp [h]

theorem fecBerWindow_judges {p ber corrected uncorrectable : Nat} {s : State} (hp : p < 24) (hu : s.linkUp p = true)
    (hf : s.obj (O.failoverOnDegrade p) ≠ 1) (hq : (s.pairOf p).all (fun q => s.obj (O.portLinkState q) == 1) = true) :
    exec (.fecBerWindow p ber corrected uncorrectable) s = .next (fecJudged p ber corrected uncorrectable s) := by
  have hl := fecShown_leaves p ber corrected uncorrectable s
  have hst : (fecShown p ber corrected uncorrectable s).obj (O.portLinkState p) = s.obj (O.portLinkState p) := hl.2 _ (by
    simp only [O.portLinkState, O.preFecBer, O.fecCorrected, O.fecUncorrectable, List.mem_cons, List.not_mem_nil, or_false]; omega)
  have hdeg : (linkDegraded p (fecShown p ber corrected uncorrectable s)).obj (O.failoverOnDegrade p) = s.obj (O.failoverOnDegrade p) :=
    (State.onPort_obj ..).trans ((State.obj_setObj_ne _ _ _ _ (by simp only [O.failoverOnDegrade, O.portLinkState]; omega)).trans (hl.2 _ (by
      simp only [O.failoverOnDegrade, O.preFecBer, O.fecCorrected, O.fecUncorrectable, List.mem_cons, List.not_mem_nil, or_false]; omega)))
  have htake : takeOver p (linkRestored p (fecShown p ber corrected uncorrectable s)) = linkRestored p (fecShown p ber corrected uncorrectable s) := by
    refine takeOver_pairUp ?_
    have ho (j : Nat) (hj : j ∉ [O.portLinkState p, O.preFecBer p, O.fecCorrected p, O.fecUncorrectable p]) :
        (linkRestored p (fecShown p ber corrected uncorrectable s)).obj j = s.obj j :=
      (State.onPort_obj ..).trans ((State.obj_setObj_ne _ _ _ _ fun e => hj (by simp [e])).trans (hl.2 _ fun e => hj (List.mem_cons_of_mem _ e)))
    have hself : (linkRestored p (fecShown p ber corrected uncorrectable s)).obj (O.portLinkState p) = 1 := (State.onPort_obj ..).trans (State.obj_setObj_same ..)
    rw [pairOf_congr (ho _ (by simp only [O.pairPort, O.portLinkState, O.preFecBer, O.fecCorrected, O.fecUncorrectable, List.mem_cons, List.not_mem_nil, or_false]; omega))]
    cases hpq : s.pairOf p with
    | none => rfl
    | some q =>
      have hqu : s.obj (O.portLinkState q) = 1 := by simpa [hpq] using hq
      by_cases hqp : q = p
      · simpa [hqp] using hself
      · have := ho (O.portLinkState q) (by simp only [O.portLinkState, O.preFecBer, O.fecCorrected, O.fecUncorrectable, List.mem_cons, List.not_mem_nil, or_false]; omega)
        simpa [hqu] using this
  obtain ⟨ha, hb⟩ := fecShown_port p ber corrected uncorrectable s
  rw [fecBerWindow_shows ber corrected uncorrectable hp hu, hst, hdeg, htake, ha, hb, fecJudged]
  have h1 : (s.obj (O.portLinkState p) == 1 && decide (3 ≤ if s.nat (O.fecDegradeBer p) * 1000 < ber then (s.port p).above + 1 else 0)) = true
      ↔ s.obj (O.portLinkState p) = 1 ∧ s.nat (O.fecDegradeBer p) * 1000 < ber ∧ 2 ≤ (s.port p).above := by
    rw [Bool.and_eq_true, beq_iff_eq, decide_eq_true_iff, le_ite_succ]
  have h2 : (s.obj (O.portLinkState p) == 2 && decide (1000 ≤ if 2 * ber < s.nat (O.fecDegradeBer p) * 1000 then (s.port p).below + 1 else 0)) = true
      ↔ s.obj (O.portLinkState p) = 2 ∧ 2 * ber < s.nat (O.fecDegradeBer p) * 1000 ∧ 999 ≤ (s.port p).below := by
    rw [Bool.and_eq_true, beq_iff_eq, decide_eq_true_iff, le_ite_succ]
  rw [if_congr h1 rfl rfl, if_congr h2 rfl rfl, if_neg (c := (s.obj (O.failoverOnDegrade p) == 1) = true) (by simpa using hf)]

theorem fecJudged_leaves (p ber corrected uncorrectable : Nat) (s : State) :
    Leaves (fecShown p ber corrected uncorrectable s) (fecJudged p ber corrected uncorrectable s) [.dict, .fh] [O.portLinkState p] :=
  Leaves.ite _ (Leaves.trans (Leaves.setObj _ _ _ (by decide) (by simp)) (Leaves.onPort _ _ _ (by decide)))
    (Leaves.ite _ (Leaves.trans (Leaves.setObj _ _ _ (by decide) (by simp)) (Leaves.onPort _ _ _ (by decide))) (Leaves.refl ..))

end Sys2Proof.Machine
open Sys2Proof Sys2Proof.Machine Sys2Proof.Safety

/-- Settles O26: the enable by its rules, a link's rise and loss by the state in which it has risen or fallen, and the failover that follows. -/
theorem portLinks : Obligations.PortLinks := by
  unfold Obligations.PortLinks
  refine ⟨fun x p s hp h h0 hb => writePortEnable_on hp h h0 hb, fun x p s hp h h1 => writePortEnable_off hp h h1,
    fun p since s hp ha he hd hr hl hq => portLinkUp_up hp ha he hd hr hl hq,
    fun p q since s hp _ hne ha he hd hr hl hpq hqp hdq => portLinkUp_takesOver hp hne ha he hd hr hl hpq hqp hdq,
    fun dt p cause s hp hu => fhLinkDown_down dt cause hp hu, fun p s hp h3 hs hc => portShutdownComplete_off hp h3 hs hc,
    fun n since s hn hg he hp ha hf hu hq => ?_, fun p ber corrected uncorrectable s hp hu hber hf hq => ?_⟩
  · refine ⟨_, failoverReturn_returns hn hg he hp ha hf hu hq, State.obj_setObj_same .., ?_, ?_⟩
    · rw [State.setObj_clock]
      exact le_advanceTicks _ _
    · exact Leaves.trans (advanceTicks_leaves _ _ (by decide)) (Leaves.setObj _ _ _ (by decide) (by simp))
  · have hl := fecShown_leaves p ber corrected uncorrectable s
    have hj := fecJudged_leaves p ber corrected uncorrectable s
    obtain ⟨h1, h2, h3⟩ := fecShown_figures p corrected uncorrectable hber s
    have hne : O.preFecBer p ≠ O.portLinkState p ∧ O.fecCorrected p ≠ O.portLinkState p ∧ O.fecUncorrectable p ≠ O.portLinkState p := by
      simp only [O.portLinkState, O.preFecBer, O.fecCorrected, O.fecUncorrectable]
      omega
    obtain ⟨hn1, hn2, hn3⟩ := hne
    refine ⟨_, fecBerWindow_judges hp hu hf hq, (hj.2 _ (by simpa using hn1)).trans h1, (hj.2 _ (by simpa using hn2)).trans h2,
      (hj.2 _ (by simpa using hn3)).trans h3, ?_, Leaves.trans (Leaves.mono hl (by decide) (by simp)) (Leaves.mono hj (by decide) (by simp))⟩
    unfold fecJudged
    split
    · exact (State.onPort_obj ..).trans (State.obj_setObj_same ..)
    · split
      · exact (State.onPort_obj ..).trans (State.obj_setObj_same ..)
      · exact hl.2 _ (by simp only [List.mem_cons, List.not_mem_nil, or_false]; tauto)
end

section
/-! SUPPORT. What a carrier takes and gives back (06 R184 to R186, R205; 17 R555). -/
namespace Sys2Proof.Machine
open Sys2Proof.Safety

/-! ## The check's record -/

theorem EnableRules.afterOn_checks (e : EnableRules) (s : State) : (e.afterOn s).obj O.lastCheckObject = e.key
    ∧ (e.afterOn s).obj O.lastCheckReason = (e.judge s).code := by
  obtain ⟨h1, h2⟩ := recordCheck_shows e.key (e.judge s) (e.settle (e.judge s) s)
  have hl : Leaves (recordCheck e.key (e.judge s) (e.settle (e.judge s) s)) (e.afterOn s) [.dict, .svc] [O.enableLogCount, O.changeCount] := by
    have hlog := Leaves.mono (qs := [.dict, .svc]) (ls := [O.enableLogCount, O.changeCount])
      (logEnable_leaves e.key 0 (e.judge s) (recordCheck e.key (e.judge s) (e.settle (e.judge s) s))) (by decide) (by decide)
    unfold EnableRules.afterOn
    dsimp only
    split
    · exact Leaves.trans hlog (Leaves.mono (setAsked_leaves ..) (by decide) (by decide))
    · exact hlog
  exact ⟨(hl.2 _ (by decide)).trans h1, (hl.2 _ (by decide)).trans h2⟩

/-! ## What an accepted carrier changes -/

/-- The objects that an accepted carrier takes, beside its units and pallets. -/
def AcceptKey (n k : Nat) : Prop :=
  FailKey k ∨ (∃ c, k = O.dfeUser c) ∨ k ∈ [O.encBindLead n, O.mapBindLead n, O.activePort n, O.fhLoadDl n, O.fhLoadUl n, O.windowsClosed n, O.txwOpen n,
    O.guardCopy n] ∨ k ∈ carrierCounters n

/-- The parts that an accepted carrier changes. -/
def acceptParts : List Part := [.dict, .dfe, .fh, .freeCtr, .link, .pipe, .guard]

theorem takeChains_moves (n : Nat) (s : State) : Moves [.dict, .dfe] (AcceptKey n) s (takeChains n s) := by
  unfold takeChains
  exact Moves.foldl _ _ (fun c _ _ => Moves.trans (Moves.setObj _ (O.dfeUser c) _ (by decide) (.inr (.inl ⟨c, rfl⟩)))
    (Moves.of_leaves (ks := []) (Leaves.onChain _ _ _ (by decide)) nofun)) s

theorem attachCarrier_moves (n : Nat) (s : State) : Moves acceptParts (AcceptKey n) s (attachCarrier n s) := by
  have hb : Moves acceptParts (AcceptKey n) s (bindCarrier n s) :=
    Moves.trans (Moves.setObj _ _ _ (by decide) (.inr (.inr (.inl (by simp))))) (Moves.trans (Moves.setObj _ _ _ (by decide) (.inr (.inr (.inl (by simp)))))
      (Moves.setObj _ _ _ (by decide) (.inr (.inr (.inl (by simp))))))
  unfold attachCarrier
  dsimp only
  split
  · exact hb.trans (Moves.mono (takeOver_moves _ _) (by decide) fun _ h => .inl h)
  · exact hb

theorem openEndless_moves (n : Nat) (s : State) : Moves acceptParts (AcceptKey n) s (openEndless n s) := by
  unfold openEndless
  dsimp only
  refine Moves.trans (Moves.of_leaves (ks := []) (Leaves.setDfe s _ (by decide)) nofun) (Moves.ite _ (Moves.refl _) (Moves.ite _ ?_ ?_))
  · exact Moves.bump _ _ _ (by decide) (.inr (.inr (.inl (by simp))))
  · exact Moves.setObj _ _ _ (by decide) (.inr (.inr (.inl (by simp))))

/-- The state in which a carrier holds its stream units and pallets. -/
def unitsTaken (n : Nat) (s : State) : State :=
  (s.setObj (O.streamUnitsHeld n) (s.unitsOf n)).setObj (O.palletsReserved n) (s.reserveOf n)

/-- The state in which its encoding's lead is fixed. -/
def leadTaken (n : Nat) (s : State) : State := { s with pipe := { s.pipe with lEnc := Store.put s.pipe.lEnc n (s.lEncOf n), started := true } }

/-- The state in which its binding leads are shown. -/
def leadsShown (n : Nat) (s : State) : State :=
  (s.setObj (O.encBindLead n) (nsHalfUp (s.encLead n))).setObj (O.mapBindLead n) (nsHalfUp (s.mapLead n))

/-- The state in which its chains and ports are its own. -/
def portsTaken (n : Nat) (s : State) : State := attachCarrier n (if s.timeDomain n then takeChains n s else s)

/-- The state in which its figures start anew. -/
def figuresCleared (n : Nat) (s : State) : State := (carrierCounters n).foldl (fun s k => s.setObj k (factory k)) s

/-- The state in which the guard holds its copy. -/
def copyTaken (n : Nat) (s : State) : State :=
  (s.setObj (O.guardCopy n) 1).onGuard fun g => { g with copies := Store.put g.copies n (workingCopy n s), reopen := g.reopen.filter fun r =>
    !(r.1 == 0 && r.2.1 == n) }

theorem carrierAccept_eq (n : Nat) (s : State) : carrierAccept n s
    = copyTaken n (openEndless n (figuresCleared n (portsTaken n (leadsShown n (leadTaken n (unitsTaken n s)))))) := by
  unfold carrierAccept
  dsimp only
  rw [← unitsTaken, ← leadTaken, ← leadsShown, ← portsTaken, ← figuresCleared, ← copyTaken]

theorem carrierAccept_moves (n : Nat) (s : State) : Moves acceptParts (AcceptKey n) (unitsTaken n s) (carrierAccept n s) := by
  rw [carrierAccept_eq]
  have h1 (u : State) : Moves acceptParts (AcceptKey n) u (leadTaken n u) := Moves.of_leaves (ks := []) (Leaves.setPipe _ _ (by decide)) nofun
  have h2 (u : State) : Moves acceptParts (AcceptKey n) u (leadsShown n u) :=
    Moves.trans (Moves.setObj _ _ _ (by decide) (.inr (.inr (.inl (by simp))))) (Moves.setObj _ _ _ (by decide) (.inr (.inr (.inl (by simp)))))
  have h3 (u : State) : Moves acceptParts (AcceptKey n) u (portsTaken n u) :=
    Moves.trans (Moves.ite _ (Moves.mono (takeChains_moves n u) (by decide) fun _ h => h) (Moves.refl _)) (attachCarrier_moves n _)
  have h4 (u : State) : Moves acceptParts (AcceptKey n) u (figuresCleared n u) :=
    Moves.foldl _ _ (fun k hk _ => Moves.setObj _ _ _ (by decide) (.inr (.inr (.inr hk)))) u
  have h6 (u : State) : Moves acceptParts (AcceptKey n) u (copyTaken n u) :=
    Moves.trans (Moves.setObj _ _ _ (by decide) (.inr (.inr (.inl (by simp))))) (Moves.of_leaves (ks := []) (Leaves.onGuard _ _ (by decide)) nofun)
  exact (h1 _).trans ((h2 _).trans ((h3 _).trans ((h4 _).trans ((openEndless_moves n _).trans (h6 _)))))

theorem not_acceptKey {n : Nat} (hn : n < 64) :
    ¬ AcceptKey n (O.carrierEnable n) ∧ ¬ AcceptKey n (O.streamUnitsHeld n) ∧ ¬ AcceptKey n (O.palletsReserved n) := by
  refine ⟨?_, ?_, ?_⟩ <;>
  · rintro ((⟨q, h | h | h | h⟩ | ⟨m, hm, h⟩ | h) | ⟨c, h⟩ | h | h) <;>
      simp only [carrierCounters, List.mem_cons, List.not_mem_nil, or_false, O.carrierEnable, O.streamUnitsHeld, O.palletsReserved, O.cpTxSent, O.txFrames,
        O.txBytes, O.failovers, O.activePort, O.indicationsDropped, O.dfeUser, O.encBindLead, O.mapBindLead, O.fhLoadDl, O.fhLoadUl, O.windowsClosed, O.txwOpen,
        O.guardCopy, O.coursesDone, O.coursesPartial, O.coursesExpired, O.symbolsWithheld, O.revisionsAccepted, O.refusedTooLate, O.loadUpdates,
        O.pwrMax] at h <;> omega

theorem unitsOf_congr {s t : State} {n : Nat} (h : ∀ k ∈ [O.standard n, O.nbiotMode n, O.dlPorts n, O.ulPorts n, O.bandwidth n], t.obj k = s.obj k) :
    t.unitsOf n = s.unitsOf n := by
  simp only [List.forall_mem_cons] at h
  obtain ⟨h1, h2, h3, h4, h5, -⟩ := h
  unfold State.unitsOf State.hosted State.streamPorts State.std State.nat
  rw [h1, h2, h3, h4, h5]

theorem unitsTaken_shows (n : Nat) (s : State) : (unitsTaken n s).obj (O.streamUnitsHeld n) = s.unitsOf n
    ∧ (unitsTaken n s).obj (O.palletsReserved n) = s.reserveOf n :=
  ⟨(State.obj_setObj_ne _ _ _ _ (by simp only [O.streamUnitsHeld, O.palletsReserved]; omega)).trans (State.obj_setObj_same ..), State.obj_setObj_same ..⟩

/-- An accepted carrier is ON if it was, holds its units and pallets, and the guard holds its copy. -/
theorem carrierAccept_shows {n : Nat} (hn : n < 64) (s : State) : (carrierAccept n s).obj (O.carrierEnable n) = s.obj (O.carrierEnable n)
    ∧ (carrierAccept n s).obj (O.streamUnitsHeld n) = s.unitsOf n ∧ (carrierAccept n s).obj (O.palletsReserved n) = s.reserveOf n
    ∧ (carrierAccept n s).obj (O.guardCopy n) = 1 := by
  have hm := carrierAccept_moves n s
  obtain ⟨h1, h2, h3⟩ := not_acceptKey hn
  obtain ⟨hu, hp⟩ := unitsTaken_shows n s
  refine ⟨(hm.obj _ h1).trans ?_, (hm.obj _ h2).trans hu, (hm.obj _ h3).trans hp, ?_⟩
  · exact (State.obj_setObj_ne _ _ _ _ (by simp only [O.carrierEnable, O.palletsReserved]; omega)).trans
      (State.obj_setObj_ne _ _ _ _ (by simp only [O.carrierEnable, O.streamUnitsHeld]; omega))
  · rw [carrierAccept_eq]
    exact (State.onGuard_obj ..).trans (State.obj_setObj_same ..)

/-! Nothing is sent meanwhile. -/

theorem failover_sent (p cause : Nat) (s : State) : (failover p cause s).link.sent = s.link.sent := by
  have hl (to' : Option Nat) : (loseLaunches p to' s).link = s.link := (loseLaunches_moves p to' s).same .link (by decide)
  have hm (l : List Nat) (q : Nat) (u : State) : (carriersMoved l q u).link = u.link :=
    (Leaves.foldl (ps := [.dict]) (ks := l.map O.activePort) _ l (fun m hm _ => Leaves.setObj _ _ _ (by decide) (List.mem_map_of_mem hm)) u).1 .link (by decide)
  unfold failover
  split
  · rw [hl]
  next q _ =>
    dsimp only
    split
    · split
      · rw [hl]
      · rfl
    · rw [raise_link_sent]
      show (carriersMoved (movable s p) q (loseLaunches p (some q) s)).link.sent = _
      rw [hm, hl]

theorem attachCarrier_sent (n : Nat) (s : State) : (attachCarrier n s).link.sent = s.link.sent := by
  have hb : (bindCarrier n s).link = s.link := rfl
  unfold attachCarrier
  dsimp only
  split
  · unfold takeOver
    split
    · rw [hb]
    · split
      · rw [hb]
      · split
        · rw [failover_sent, hb]
        · split
          · rw [failover_sent, hb]
          · rw [hb]
  · rw [hb]

theorem carrierAccept_sent (n : Nat) (s : State) : (carrierAccept n s).link.sent = s.link.sent := by
  have h1 (u : State) : (openEndless n u).link = u.link := by
    unfold openEndless
    dsimp only
    split
    · rfl
    · split <;> rfl
  have h2 (u : State) : (if u.timeDomain n then takeChains n u else u).link = u.link := by
    split
    · exact (takeChains_moves n u).same .link (by decide)
    · rfl
  have h3 (u : State) : (figuresCleared n u).link = u.link := foldl_proj State.link (fun _ _ => State.setObj_link ..) _ _
  rw [carrierAccept_eq]
  show (openEndless n (figuresCleared n (portsTaken n (leadsShown n (leadTaken n (unitsTaken n s)))))).link.sent = _
  rw [h1, h3, portsTaken, attachCarrier_sent, h2]
  rfl

/-! ## Shut-down -/

/-- A test that does not tell a value from the one that it replaces finds the same in the store. -/
theorem Store.any_put {α : Type} {m : Store α} {k : Nat} {v w : α} (g : Nat × α → Bool) (h : Store.find m k = some w) (hg : g (k, v) = g (k, w)) :
    (Store.put m k v).any g = m.any g := by
  induction m with
  | nil => cases h
  | cons a m ih =>
    obtain ⟨j, x⟩ := a
    unfold Store.put
    split
    · rw [List.any_cons, hg]
      cases hw : g (k, w) with
      | false => rfl
      | true => exact (List.any_eq_true.mpr ⟨_, Store.mem_of_find h, hw⟩).symm
    next hlt =>
      split
      next he =>
        subst he
        obtain rfl : x = w := by
          rw [Store.find, if_pos rfl] at h
          exact Option.some.inj h
        rw [List.any_cons, List.any_cons, hg]
      next hne =>
        rw [Store.find, if_neg (Ne.symm hne)] at h
        rw [List.any_cons, List.any_cons, ih h]

theorem carrierBusy_congr {s t : State} (h : t.pipe = s.pipe) (n : Nat) : carrierBusy n t = carrierBusy n s := by rw [carrierBusy, h, carrierBusy]

theorem onCourse_busy (n key : Nat) {f : Course → Course} (hf : ∀ c, (f c).journalled = c.journalled) (s : State) :
    carrierBusy n (s.onCourse key f) = carrierBusy n s := by
  unfold State.onCourse
  split
  next c hc => exact Store.any_put _ hc (by rw [Course.live, Course.live, hf])
  next => rfl

theorem endCourse_busy (n key : Nat) (s : State) : carrierBusy n (endCourse key s) = carrierBusy n s := by
  have hp (c : Course) (u : State) : (retireBanks (if dirOf (key % 2 ^ 32) == 1 then writeLoading key c u else u)).pipe = u.pipe := by
    show (if dirOf (key % 2 ^ 32) == 1 then writeLoading key c u else u).pipe = u.pipe
    split <;> rfl
  unfold endCourse
  split
  · split
    · rfl
    · dsimp only
      refine (carrierBusy_congr (hp ..) n).trans (onCourse_busy n key (fun _ => ?_) s)
      rfl
  · rfl

theorem cancelCourse_busy (n key : Nat) (s : State) : carrierBusy n (cancelCourse key s) = carrierBusy n s := by
  unfold cancelCourse
  rw [carrierBusy_congr ((askOutcome_leaves key _ (ks := [])).1 .pipe (by decide)), carrierBusy_congr ((dropOps_leaves key _).1 .pipe (by decide))]
  refine (onCourse_busy n key (fun _ => ?_) _).trans (endCourse_busy n key s)
  rfl

/-- The state in which a carrier's courses that may be are cancelled, and its window shut if it has no plan. -/
def coursesCancelled (n : Nat) (s : State) : State := closeEndless n (cancelWhere (fun k => k / 2 ^ 32 == n + 1) s)

theorem closeEndless_leaves (n : Nat) (s : State) : Leaves s (closeEndless n s) [.dict] [O.txwOpen n] :=
  Leaves.ite _ (Leaves.setObj _ _ _ (by decide) (by simp)) (Leaves.refl ..)

theorem cancelWhere_leaves (n : Nat) (s : State) :
    Leaves s (cancelWhere (fun k => k / 2 ^ 32 == n + 1) s) [.dict, .blobs, .kiln, .link, .pipe, .sched, .wb] [O.loadUpdates n, O.cancelledJobs, O.iterations] := by
  refine Leaves.foldl _ _ (fun k hk u => ?_) s
  obtain ⟨e, he, rfl⟩ := List.mem_map.mp hk
  have hs := (List.mem_filter.mp he).2
  rw [Bool.and_eq_true, beq_iff_eq] at hs
  have hl := cancelCourse_leaves e.1 u
  rw [cancelKeys, hs.1, Nat.add_sub_cancel] at hl
  exact hl

theorem cancelWhere_keeps (sel : Nat → Bool) (n : Nat) (s : State) : carrierBusy n (cancelWhere sel s) = carrierBusy n s
    ∧ (cancelWhere sel s).link.sent = s.link.sent :=
  ⟨foldl_proj (carrierBusy n) (f := fun s k => cancelCourse k s) (fun k u => cancelCourse_busy n k u) _ s,
    foldl_proj (fun u : State => u.link.sent) (f := fun s k => cancelCourse k s) (fun k u => (cancelCourse_link k u).1) _ s⟩

theorem coursesCancelled_leaves (n : Nat) (s : State) : Leaves s (coursesCancelled n s) [.dict, .blobs, .kiln, .link, .pipe, .sched, .wb]
    [O.loadUpdates n, O.cancelledJobs, O.iterations, O.txwOpen n] :=
  Leaves.trans (Leaves.mono (cancelWhere_leaves n s) (fun _ h => h) (by simp)) (Leaves.mono (closeEndless_leaves n _) (by decide) (by simp))

theorem coursesCancelled_keeps (n : Nat) (s : State) : carrierBusy n (coursesCancelled n s) = carrierBusy n s
    ∧ (coursesCancelled n s).link.sent = s.link.sent := by
  obtain ⟨h1, h2⟩ := cancelWhere_keeps (fun k => k / 2 ^ 32 == n + 1) n s
  have hc := closeEndless_leaves n (cancelWhere (fun k => k / 2 ^ 32 == n + 1) s)
  exact ⟨(carrierBusy_congr (hc.1 .pipe (by decide)) n).trans h1, (congrArg Link.sent (hc.1 .link (by decide))).trans h2⟩

theorem coursesCancelled_window {n : Nat} {s : State} (h : s.obj (O.duplex n) = 0) : (coursesCancelled n s).obj (O.txwOpen n) = 0 := by
  have hd : (cancelWhere (fun k => k / 2 ^ 32 == n + 1) s).obj (O.duplex n) = 0 :=
    ((cancelWhere_leaves n s).2 _ (by simp only [O.duplex, O.loadUpdates, O.cancelledJobs, O.iterations, List.mem_cons, List.not_mem_nil, or_false]; omega)).trans h
  unfold coursesCancelled closeEndless
  rw [if_pos (by rw [hd]; rfl), State.obj_setObj_same]

/-! What a carrier gives back. -/

/-- What a carrier's own objects read once it is OFF. -/
def offValues (n : Nat) : List (Nat × Int) :=
  [(O.streamUnitsHeld n, 0), (O.palletsReserved n, 0), (O.activePort n, 0xFF), (O.fhLoadDl n, 0), (O.fhLoadUl n, 0),
    (O.txwOpen n, 0), (O.encBindLead n, 0), (O.mapBindLead n, 0), (O.guardCopy n, (0 : Int))]

theorem offValues_nodup (n : Nat) : ((offValues n).map (·.1)).Nodup := by
  simp only [offValues, List.map_cons, List.map_nil, List.nodup_cons, List.mem_cons, List.not_mem_nil, or_false, not_false_eq_true, List.nodup_nil, and_true,
    O.streamUnitsHeld, O.palletsReserved, O.activePort, O.fhLoadDl, O.fhLoadUl, O.txwOpen, O.encBindLead, O.mapBindLead, O.guardCopy]
  omega

/-- The state in which the gates of a carrier are inactive. -/
def gatesReleased (n : Nat) (s : State) : State :=
  (List.range 16).foldl (fun s g => if s.nat (O.txgCarrier g) == n then setGate g false s else s) s

/-- The state in which the guard has forgotten a carrier. -/
def copyDropped (n : Nat) (s : State) : State :=
  showMutes ({ s with pipe := { s.pipe with lEnc := Store.drop s.pipe.lEnc n } }.onGuard fun g =>
    { g with copies := Store.drop g.copies n, mutes := g.mutes.filter fun m => !(m.scope == 0 && m.unit == n) })

theorem copyDropped_courses (n : Nat) (s : State) : (copyDropped n s).pipe.courses = s.pipe.courses := by
  rw [copyDropped, (showMutes_moves _).same .pipe (by decide)]
  rfl

theorem carrierOff_eq (n : Nat) (s : State) : carrierOff n s = copyDropped n (gatesReleased n ((releaseChains n s).setAll (offValues n))) := by
  unfold carrierOff copyDropped gatesReleased offValues State.setAll
  dsimp only

/-- The objects of gates and mutes. -/
theorem gatesReleased_moves (n : Nat) (s : State) : Moves [.dict, .blobs, .time, .pipe, .guard] MuteKey s (copyDropped n (gatesReleased n s)) := by
  have h1 : Moves [.dict, .blobs, .time, .pipe, .guard] MuteKey s (gatesReleased n s) :=
    Moves.foldl _ _ (fun g hg _ => Moves.ite _ (Moves.mono (setGate_moves (List.mem_range.mp hg) false _) (by decide) fun _ h => .inl h) (Moves.refl _)) s
  have h2 (u : State) : Moves [.dict, .blobs, .time, .pipe, .guard] MuteKey u (copyDropped n u) :=
    Moves.trans (Moves.of_leaves (ks := []) (Leaves.trans (Leaves.setPipe _ _ (by decide)) (Leaves.onGuard _ _ (by decide))) nofun)
      (Moves.mono (showMutes_moves _) (by decide) fun _ h => h)
  exact h1.trans (h2 _)

theorem releaseChains_moves (n : Nat) (s : State) : Moves [.dict, .dfe] (fun k => ∃ c, k = O.dfeUser c) s (releaseChains n s) :=
  Moves.trans (Moves.foldl _ _ (fun _ _ _ => Moves.foldl _ _ (fun c _ _ => Moves.setObj _ _ _ (by decide) ⟨c, rfl⟩) _) s)
    (Moves.of_leaves (ks := []) (Leaves.setDfe _ _ (by decide)) nofun)

theorem not_muteKey_carrier {n : Nat} (hn : n < 64) : ¬ MuteKey (O.carrierEnable n) ∧ ∀ k ∈ [O.streamUnitsHeld n, O.palletsReserved n, O.guardCopy n, O.txwOpen n],
    ¬ MuteKey k := by
  simp only [List.forall_mem_cons]
  refine ⟨?_, ?_, ?_, ?_, ?_, nofun⟩ <;>
  · rintro ((⟨g, hg, h | h⟩ | ⟨m, hm, h⟩) | h) <;>
      simp only [List.mem_cons, List.not_mem_nil, or_false, O.carrierEnable, O.streamUnitsHeld, O.palletsReserved, O.guardCopy, O.txwOpen, O.txgLevel,
        O.txgEdges, O.capLost, O.carriersMuted, O.portsMuted, O.deviceMuted, O.muteLogCount, O.emissionMuteCount, O.indicationsDropped, O.faultCauses] at h <;>
      omega

theorem carrierOff_shows {n : Nat} (hn : n < 64) (s : State) : (carrierOff n s).obj (O.carrierEnable n) = s.obj (O.carrierEnable n)
    ∧ ∀ k ∈ [O.streamUnitsHeld n, O.palletsReserved n, O.guardCopy n, O.txwOpen n], (carrierOff n s).obj k = 0 := by
  obtain ⟨h1, h2⟩ := not_muteKey_carrier hn
  have hm := gatesReleased_moves n ((releaseChains n s).setAll (offValues n))
  rw [carrierOff_eq]
  refine ⟨(hm.obj _ h1).trans (((Leaves.setAll (ps := [.dict]) (ks := (offValues n).map (·.1)) (releaseChains n s) (offValues n) (by decide) (fun _ h => h)).2 _ ?_).trans
    ((releaseChains_moves n s).obj _ ?_)), fun k hk => (hm.obj _ (h2 k hk)).trans (State.obj_setAll_of_mem _ _ (offValues_nodup n) ?_)⟩
  · simp only [offValues, List.map_cons, List.map_nil, List.mem_cons, List.not_mem_nil, or_false, O.carrierEnable, O.streamUnitsHeld, O.palletsReserved, O.activePort,
      O.fhLoadDl, O.fhLoadUl, O.txwOpen, O.encBindLead, O.mapBindLead, O.guardCopy]
    omega
  · rintro ⟨c, hc⟩
    simp only [O.carrierEnable, O.dfeUser] at hc
    omega
  · simp only [List.mem_cons, List.not_mem_nil, or_false] at hk
    rcases hk with rfl | rfl | rfl | rfl <;> simp [offValues]

theorem carrierOff_same (n : Nat) (s : State) : SameBut s (carrierOff n s) [.dict, .blobs, .time, .pipe, .guard, .dfe] := by
  rw [carrierOff_eq]
  exact SameBut.trans (SameBut.mono (releaseChains_moves n s).same (by decide)) (SameBut.trans
    (Leaves.setAll (ks := (offValues n).map (·.1)) _ _ (by decide) (fun _ h => h)).1 (SameBut.mono (gatesReleased_moves n _).same (by decide)))

/-! ## Writes of CARRIER_ENABLE -/

theorem carrierRules_key (n : Nat) : (carrierRules n).key = O.carrierEnable n := rfl

theorem carrierRules_settle_ok (n : Nat) (s : State) : (carrierRules n).settle .ok s = carrierAccept n (s.setObj (O.carrierEnable n) 1) :=
  EnableRules.settle_ok ..

theorem carrierRules_judge {x : Xfer} {n : Nat} {s : State} (hb : s.obj O.bootState ≠ 5) :
    (carrierRules n).judge (atWrite s x (O.carrierEnable n) (.num 1)) = carrierCheck n (advance s x.dt) := by
  rw [EnableRules.judge_check _ (by rwa [atWrite_obj]), atWrite_num]
  rfl

/-- A part that the settling of an enable leaves beside the journal and the service is left by the write of 1. -/
theorem EnableRules.afterOn_sent (e : EnableRules) (s : State) : (e.afterOn s).link = (e.settle (e.judge s) s).link :=
  (EnableRules.afterOn_records e s).1 .link (by decide)

theorem writeCarrierEnable_on {x : Xfer} {n : Nat} {s : State} (hn : n < 64) (h : Accepts s x (O.carrierEnable n) (.num 1))
    (h0 : s.obj (O.carrierEnable n) = 0) (hb : s.obj O.bootState ≠ 5) : ∃ t, exec (.writeCarrierEnable x n 1) s = .next t
      ∧ Replied s t x (O.carrierEnable n) (.num 1) (carrierCheck n (advance s x.dt))
      ∧ t.obj O.lastCheckObject = O.carrierEnable n ∧ t.obj O.lastCheckReason = (carrierCheck n (advance s x.dt)).code
      ∧ (if carrierCheck n (advance s x.dt) = .ok
         then t.obj (O.carrierEnable n) = 1 ∧ t.obj (O.streamUnitsHeld n) = s.unitsOf n
           ∧ t.obj (O.palletsReserved n) = s.reserveOf n ∧ t.obj (O.guardCopy n) = 1
         else t.obj (O.carrierEnable n) = 0 ∧ SameBut s t (.dict :: .link :: .svc :: timeParts)
           ∧ ObjsBut s t [O.carrierEnable n, O.lastCheckObject, O.lastCheckReason, O.enableLogCount, O.changeCount])
      ∧ SameBut s t (.blobs :: .dict :: .dfe :: .fh :: .freeCtr :: .link :: .pipe :: .sched :: .svc :: timeParts) := by
  have hat : SameBut s (atWrite s x (O.carrierEnable n) (.num 1)) timeParts := by
    rw [atWrite_num]
    exact SameBut.advance _ _ _ (fun _ h => h)
  have hao (k : Nat) : (atWrite s x (O.carrierEnable n) (.num 1)).obj k = s.obj k := atWrite_obj ..
  have hj := carrierRules_judge (x := x) (n := n) hb
  have hsent : ((carrierRules n).settle (carrierCheck n (advance s x.dt)) (atWrite s x (O.carrierEnable n) (.num 1))).link.sent = s.link.sent := by
    have hl : (atWrite s x (O.carrierEnable n) (.num 1)).link = s.link := atWrite_same s x _ _ .link (by decide)
    by_cases hk : carrierCheck n (advance s x.dt) = .ok
    · rw [hk, carrierRules_settle_ok, carrierAccept_sent, State.setObj_link, hl]
    · rw [EnableRules.settle_refused _ _ hk, State.setObj_link, hl]
  have hw := (carrierRules n).write_on (atWrite s x (O.carrierEnable n) (.num 1)) ((hao _).trans h0)
  have hafter := EnableRules.afterOn_sent (carrierRules n) (atWrite s x (O.carrierEnable n) (.num 1))
  obtain ⟨hc1, hc2⟩ := EnableRules.afterOn_checks (carrierRules n) (atWrite s x (O.carrierEnable n) (.num 1))
  have hrec := EnableRules.afterOn_records (carrierRules n) (atWrite s x (O.carrierEnable n) (.num 1))
  rw [hj] at hw hafter hc2 hrec
  obtain ⟨hrep, hsame, hobj⟩ := hostWrite_full x _ _ _ s _ _ h hw ((congrArg Link.sent hafter).trans hsent)
  have hobj' (k : Nat) (hk : 0x2D0000 ≤ k) : (hostWrite x (O.carrierEnable n) (.num 1) ((carrierRules n).write 1) s).obj k
      = ((carrierRules n).settle (carrierCheck n (advance s x.dt)) (atWrite s x (O.carrierEnable n) (.num 1))).obj k :=
    (hobj k (not_checkKey hk).2).trans (hrec.2 k (not_checkKey hk).1)
  refine ⟨_, if_neg (by omega), hrep, (hobj _ (by decide)).trans hc1, (hobj _ (by decide)).trans hc2, ?_, ?_⟩
  · have h1 := hobj' (O.carrierEnable n) (by simp only [O.carrierEnable]; omega)
    have h2 := hobj' (O.streamUnitsHeld n) (by simp only [O.streamUnitsHeld]; omega)
    have h3 := hobj' (O.palletsReserved n) (by simp only [O.palletsReserved]; omega)
    have h4 := hobj' (O.guardCopy n) (by simp only [O.guardCopy]; omega)
    split
    next hk =>
      rw [hk, carrierRules_settle_ok] at h1 h2 h3 h4
      obtain ⟨g1, g2, g3, g4⟩ := carrierAccept_shows hn ((atWrite s x (O.carrierEnable n) (.num 1)).setObj (O.carrierEnable n) 1)
      have hu : ((atWrite s x (O.carrierEnable n) (.num 1)).setObj (O.carrierEnable n) 1).unitsOf n = s.unitsOf n := by
        refine unitsOf_congr fun k hk => (State.obj_setObj_ne _ _ _ _ ?_).trans (hao k)
        rintro rfl
        simp only [O.standard, O.nbiotMode, O.dlPorts, O.ulPorts, O.bandwidth, O.carrierEnable, List.mem_cons, List.not_mem_nil, or_false] at hk
        omega
      rw [State.reserveOf, hu] at g3
      exact ⟨h1.trans (g1.trans (State.obj_setObj_same ..)), h2.trans (g2.trans (congrArg _ hu)), h3.trans g3, h4.trans g4⟩
    next hk =>
      rw [EnableRules.settle_refused _ _ hk] at h1 hrec
      refine ⟨h1.trans (State.obj_setObj_same ..), ?_, fun k hk1 hk2 => (hobj k hk2).trans ((hrec.2 k ?_).trans ((State.obj_setObj_ne _ _ _ _ ?_).trans (hao k)))⟩
      · exact SameBut.trans (SameBut.mono hat (by decide)) (SameBut.trans (SameBut.setObj _ _ _ _ (by decide))
          (SameBut.trans (SameBut.mono hrec.1 (by decide)) (SameBut.mono hsame (by decide))))
      · exact fun hm => hk1 (List.mem_cons_of_mem _ hm)
      · exact fun he => hk1 (he ▸ List.mem_cons_self)
  · have hset : SameBut (atWrite s x (O.carrierEnable n) (.num 1)) ((carrierRules n).settle (carrierCheck n (advance s x.dt)) (atWrite s x (O.carrierEnable n) (.num 1)))
        acceptParts := by
      by_cases hk : carrierCheck n (advance s x.dt) = .ok
      · rw [hk, carrierRules_settle_ok]
        exact SameBut.trans (SameBut.setObj _ _ _ _ (by decide)) (SameBut.trans (SameBut.trans (SameBut.setObj _ _ _ _ (by decide))
          (SameBut.setObj _ _ _ _ (by decide))) (carrierAccept_moves n _).same)
      · rw [EnableRules.settle_refused _ _ hk]
        exact SameBut.setObj _ _ _ _ (by decide)
    exact SameBut.trans (SameBut.mono hat (by decide)) (SameBut.trans (SameBut.mono hset (by decide))
      (SameBut.trans (SameBut.mono hrec.1 (by decide)) (SameBut.mono hsame (by decide))))

theorem carrierRules_shut (n : Nat) (s : State) : (carrierRules n).shut s
    = if carrierBusy n s = true then coursesCancelled n (s.setObj (O.carrierEnable n) 3)
      else shutDone (O.carrierEnable n) (carrierOff n (coursesCancelled n (s.setObj (O.carrierEnable n) 3))) := by
  have hb : carrierBusy n (coursesCancelled n (s.setObj (O.carrierEnable n) 3)) = carrierBusy n s := (coursesCancelled_keeps n _).1
  have hstop : (carrierRules n).stop (s.setObj (O.carrierEnable n) 3) = if carrierBusy n s = true then coursesCancelled n (s.setObj (O.carrierEnable n) 3)
      else carrierOff n (coursesCancelled n (s.setObj (O.carrierEnable n) 3)) := by
    rw [← hb]
    rfl
  have hbusy : (carrierRules n).busy = carrierBusy n := rfl
  unfold EnableRules.shut
  rw [carrierRules_key, hstop, hbusy]
  split
  next h => rw [hb, h, if_pos rfl]
  next h =>
    have hoff : carrierBusy n (carrierOff n (coursesCancelled n (s.setObj (O.carrierEnable n) 3))) = carrierBusy n s := by
      rw [← hb]
      have hg (u : State) : (gatesReleased n u).pipe = u.pipe :=
        foldl_proj State.pipe (f := fun s g => if s.nat (O.txgCarrier g) == n then setGate g false s else s) (fun g u => by
          split
          · exact ((Within.start u).setGate (g := g) (active := false)).same .pipe (by decide)
          · rfl) _ u
      have hs (u : State) : (u.setAll (offValues n)).pipe = u.pipe := (Leaves.setAll (ps := [.dict]) (ks := (offValues n).map (·.1)) u _ (by decide) (fun _ h => h)).1 .pipe (by decide)
      have hc : (carrierOff n (coursesCancelled n (s.setObj (O.carrierEnable n) 3))).pipe.courses = (coursesCancelled n (s.setObj (O.carrierEnable n) 3)).pipe.courses := by
        rw [carrierOff_eq, copyDropped_courses, hg, hs, (releaseChains_moves n _).same .pipe (by decide)]
      unfold carrierBusy
      rw [hc]
    rw [hoff, if_neg h]

theorem writeCarrierEnable_off {x : Xfer} {n : Nat} {s : State} (hn : n < 64) (h : Accepts s x (O.carrierEnable n) (.num 0))
    (h1 : s.obj (O.carrierEnable n) = 1) : ∃ t, exec (.writeCarrierEnable x n 0) s = .next t ∧ Replied s t x (O.carrierEnable n) (.num 0) .ok
      ∧ (if carrierBusy n s = true then t.obj (O.carrierEnable n) = 3 ∧ (s.obj (O.duplex n) = 0 → t.obj (O.txwOpen n) = 0)
         else t.obj (O.carrierEnable n) = 0 ∧ t.obj (O.streamUnitsHeld n) = 0 ∧ t.obj (O.palletsReserved n) = 0
           ∧ t.obj (O.guardCopy n) = 0 ∧ t.obj (O.txwOpen n) = 0)
      ∧ SameBut s t (.blobs :: .dict :: .dfe :: .kiln :: .link :: .pipe :: .sched :: .svc :: .wb :: timeParts) := by
  have hat : SameBut s (atWrite s x (O.carrierEnable n) (.num 0)) timeParts := by
    rw [atWrite_num]
    exact SameBut.advance _ _ _ (fun _ h => h)
  have hao (k : Nat) : (atWrite s x (O.carrierEnable n) (.num 0)).obj k = s.obj k := atWrite_obj ..
  have hbusy : carrierBusy n (atWrite s x (O.carrierEnable n) (.num 0)) = carrierBusy n s := carrierBusy_congr (hat .pipe (by decide)) n
  have hcan := coursesCancelled_leaves n ((atWrite s x (O.carrierEnable n) (.num 0)).setObj (O.carrierEnable n) 3)
  have hen : (coursesCancelled n ((atWrite s x (O.carrierEnable n) (.num 0)).setObj (O.carrierEnable n) 3)).obj (O.carrierEnable n) = 3 :=
    (hcan.2 _ (by simp only [O.carrierEnable, O.loadUpdates, O.cancelledJobs, O.iterations, O.txwOpen, List.mem_cons, List.not_mem_nil, or_false]; omega)).trans
      (State.obj_setObj_same ..)
  obtain ⟨ho1, ho2⟩ := carrierOff_shows hn (coursesCancelled n ((atWrite s x (O.carrierEnable n) (.num 0)).setObj (O.carrierEnable n) 3))
  have hoffs := carrierOff_same n (coursesCancelled n ((atWrite s x (O.carrierEnable n) (.num 0)).setObj (O.carrierEnable n) 3))
  have hdone := shutDone_stopping (ho1.trans hen)
  have hshut := carrierRules_shut n (atWrite s x (O.carrierEnable n) (.num 0))
  rw [hbusy, hdone] at hshut
  have hsent : ((carrierRules n).shut (atWrite s x (O.carrierEnable n) (.num 0))).link.sent = s.link.sent := by
    have hl : (coursesCancelled n ((atWrite s x (O.carrierEnable n) (.num 0)).setObj (O.carrierEnable n) 3)).link.sent = s.link.sent :=
      (coursesCancelled_keeps n _).2.trans ((congrArg Link.sent (State.setObj_link ..)).trans (congrArg Link.sent (atWrite_same s x _ _ .link (by decide))))
    rw [hshut]
    split
    · exact hl
    · rw [State.setObj_link, hoffs .link (by decide), hl]
  have hset := setAsked_leaves (carrierRules n).key false ((carrierRules n).shut (atWrite s x (O.carrierEnable n) (.num 0)))
  rw [← EnableRules.afterOff_eq] at hset
  obtain ⟨hrep, hsame, hobj⟩ := hostWrite_full x _ _ _ s _ _ h ((carrierRules n).write_off _ ((hao _).trans h1))
    ((congrArg Link.sent (hset.1 .link (by decide))).trans hsent)
  have hobj' (k : Nat) (hk : 0x2D0000 ≤ k) : (hostWrite x (O.carrierEnable n) (.num 0) ((carrierRules n).write 0) s).obj k
      = ((carrierRules n).shut (atWrite s x (O.carrierEnable n) (.num 0))).obj k :=
    (hobj k (not_checkKey hk).2).trans (hset.2 k (by simp only [O.changeCount, List.mem_cons, List.not_mem_nil, or_false]; omega))
  have hsh : SameBut (atWrite s x (O.carrierEnable n) (.num 0)) ((carrierRules n).shut (atWrite s x (O.carrierEnable n) (.num 0)))
      [.dict, .blobs, .kiln, .link, .pipe, .sched, .wb, .time, .guard, .dfe] := by
    have hc := SameBut.trans (SameBut.setObj (atWrite s x (O.carrierEnable n) (.num 0)) (O.carrierEnable n) 3 [.dict, .blobs, .kiln, .link, .pipe, .sched, .wb, .time, .guard, .dfe] (by decide))
      (SameBut.mono hcan.1 (by decide))
    rw [hshut]
    split
    · exact hc
    · exact SameBut.trans hc (SameBut.trans (SameBut.mono hoffs (by decide)) (SameBut.setObj _ _ _ _ (by decide)))
  refine ⟨_, if_neg (by omega), hrep, ?_, ?_⟩
  · have g1 := hobj' (O.carrierEnable n) (by simp only [O.carrierEnable]; omega)
    have g2 := hobj' (O.streamUnitsHeld n) (by simp only [O.streamUnitsHeld]; omega)
    have g3 := hobj' (O.palletsReserved n) (by simp only [O.palletsReserved]; omega)
    have g4 := hobj' (O.guardCopy n) (by simp only [O.guardCopy]; omega)
    have g5 := hobj' (O.txwOpen n) (by simp only [O.txwOpen]; omega)
    rw [hshut] at g1 g2 g3 g4 g5
    split
    next hb =>
      rw [if_pos hb] at g1 g5
      refine ⟨g1.trans hen, fun hd => g5.trans (coursesCancelled_window ?_)⟩
      exact (State.obj_setObj_ne _ _ _ _ (by simp only [O.duplex, O.carrierEnable]; omega)).trans ((hao _).trans hd)
    next hb =>
      rw [if_neg hb] at g1 g2 g3 g4 g5
      have hz (k : Nat) (hk : k ∈ [O.streamUnitsHeld n, O.palletsReserved n, O.guardCopy n, O.txwOpen n]) :
          ((carrierOff n (coursesCancelled n ((atWrite s x (O.carrierEnable n) (.num 0)).setObj (O.carrierEnable n) 3))).setObj (O.carrierEnable n) 0).obj k = 0 := by
        refine (State.obj_setObj_ne _ _ _ _ ?_).trans (ho2 k hk)
        rintro rfl
        simp only [O.carrierEnable, O.streamUnitsHeld, O.palletsReserved, O.guardCopy, O.txwOpen, List.mem_cons, List.not_mem_nil, or_false] at hk
        omega
      exact ⟨g1.trans (State.obj_setObj_same ..), g2.trans (hz _ (by simp)), g3.trans (hz _ (by simp)), g4.trans (hz _ (by simp)), g5.trans (hz _ (by simp))⟩
  · exact SameBut.trans (SameBut.mono hat (by decide)) (SameBut.trans (SameBut.mono hsh (by decide))
      (SameBut.trans (SameBut.mono hset.1 (by decide)) (SameBut.mono hsame (by decide))))

end Sys2Proof.Machine
open Sys2Proof Sys2Proof.Machine Sys2Proof.Safety

/-- Settles O19: the enable by its rules, with what an accepted carrier takes and what a carrier that goes OFF gives back. -/
theorem carrierEnable : Obligations.CarrierEnable := by
  unfold Obligations.CarrierEnable
  exact ⟨fun x n s hn h h0 hb => writeCarrierEnable_on hn h h0 hb, fun x n s hn h h1 => writeCarrierEnable_off hn h h1⟩
end

section
/-! SUPPORT. Frames and uplink messages on a fronthaul port (09 R304 to R306, R314, R315, R321 to R323): what a port counts, how a frame takes
its place in a queue, and what a message does to its carrier. -/
namespace Sys2Proof.Machine
open Sys2Proof.Safety

/-! ## A frame that comes in -/

/-- The state in which a frame that came in at a port is counted with its bytes. -/
def frameCounted (p : Nat) (f : Frame) (s : State) : State := (s.bump (O.rxFrames p) 1).bump (O.rxBytes p) f.bytes

theorem frameCounted_leaves (p : Nat) (f : Frame) (s : State) :
    Leaves s (frameCounted p f s) [.dict] [O.rxFrames p, O.rxBytes p] :=
  Leaves.trans (Leaves.bump _ _ _ (by decide) (by simp)) (Leaves.bump _ _ _ (by decide) (by simp))

theorem frameCounted_counted (p : Nat) (f : Frame) (s : State) :
    Counted s (frameCounted p f s) (O.rxFrames p) 1 ∧ Counted s (frameCounted p f s) (O.rxBytes p) f.bytes := by
  have hne : O.rxFrames p ≠ O.rxBytes p := by simp only [O.rxFrames, O.rxBytes, ne_eq]; omega
  exact ⟨(State.obj_bump_ne _ _ _ _ hne).trans (State.obj_bump_same ..),
    Counted.of_obj (State.obj_bump_ne _ _ _ _ hne.symm) (State.obj_bump_same ..)⟩

/-- The state at a frame's arrival, with the frame counted. -/
def frameHeard (dt p : Nat) (f : Frame) (s : State) : State := frameCounted p f (advance s dt)

theorem frameHeard_leaves (dt p : Nat) (f : Frame) (s : State) :
    Leaves s (frameHeard dt p f s) (.dict :: timeParts) [O.rxFrames p, O.rxBytes p] :=
  Leaves.trans (Leaves.advance s dt (by decide)) (Leaves.mono (frameCounted_leaves ..) (by decide) (fun _ h => h))

theorem frameHeard_counted (dt p : Nat) (f : Frame) (s : State) :
    Counted s (frameHeard dt p f s) (O.rxFrames p) 1 ∧ Counted s (frameHeard dt p f s) (O.rxBytes p) f.bytes := by
  obtain ⟨h1, h2⟩ := frameCounted_counted p f (advance s dt)
  exact ⟨Counted.of_obj (State.obj_congr (advance_dict ..) _) h1, Counted.of_obj (State.obj_congr (advance_dict ..) _) h2⟩

/-- What a port that is up does with a frame once it is counted (09 R304, R321). -/
theorem exec_frameRx {dt p : Nat} {f : Frame} {s : State} (hp : p < 24) (hu : s.linkUp p = true) (hf : (s.port p).first = true) :
    exec (.frameRx dt p f) s
      = (let s := frameHeard dt p f s
         let role := s.obj (O.portPtpRole p)
         if !f.fcsOk then .next (s.bump (O.rxFcsErrors p) 1)
         else if f.macControl then .next (malformed p s)
         else if f.dst == wireNat (s.blob (O.portMac p)) && f.etherType == 0xAEFE then
           .next (if f.ecpriType == 0 || f.ecpriType == 5 || (f.ecpriType == 6 && !f.request) then s else malformed p s)
         else if f.dst == 0x0180C200000E then .next s
         else if s.obj O.ptpRole != 0 && (role == 1 || role == 2) && f.ptp.any (ptpHeard s) then .next s
         else .next (forward p f s)) := by
  show execFrameRx dt p f s = _
  have hf' : ((advance s dt).port p).first = true := by rw [State.port, advance_fh]; exact hf
  rw [execFrameRx, if_neg (by omega)]
  dsimp only
  rw [if_neg (by rw [linkUp_advance, hu]; decide), if_pos hf', ← frameCounted, ← frameHeard]

theorem frameHeard_blob (dt p : Nat) (f : Frame) (s : State) (k : Nat) : (frameHeard dt p f s).blob k = s.blob k := by
  have hb : (frameHeard dt p f s).blobs = s.blobs := (frameHeard_leaves dt p f s).1 .blobs (by decide)
  rw [State.blob, hb, State.blob]

/-- A frame that is not the device's, nor a PTP message, is for forwarding. -/
theorem exec_frameRx_forward {dt p : Nat} {f : Frame} {s : State} (hp : p < 24) (hu : s.linkUp p = true) (hf : (s.port p).first = true)
    (hc : f.fcsOk = true) (hm : f.macControl = false) (hd : f.dst ≠ wireNat (s.blob (O.portMac p))) (hd' : f.dst ≠ 0x0180C200000E)
    (hq : f.ptp = none) : exec (.frameRx dt p f) s = .next (forward p f (frameHeard dt p f s)) := by
  rw [exec_frameRx hp hu hf]
  dsimp only
  rw [if_neg (by rw [hc]; decide), if_neg (by rw [hm]; decide), if_neg (by rw [frameHeard_blob]; simp [hd]), if_neg (by simpa using hd'),
    if_neg (by rw [hq]; simp)]

/-! ## The queue of a port -/

theorem firstAfter_lt {l : List Nat} {t x : Nat} (h : firstAfter l t = some x) : t < x := by
  suffices hb : ∀ (b : Option Nat), (∀ y, b = some y → t < y) → ∀ x, l.foldl (fun b x => if x ≤ t then b else some (match b with
      | some y => min x y
      | none => x)) b = some x → t < x from hb none (by simp) x h
  clear h x
  induction l with
  | nil => exact fun b hb x hx => hb x hx
  | cons a l ih =>
    refine fun b hb x hx => ih _ (fun y hy => ?_) x hx
    dsimp only at hy
    split at hy
    · exact hb y hy
    · next ha =>
      cases b with
      | none => simp only [Option.some.injEq] at hy; omega
      | some z =>
        have := hb z rfl
        simp only [Option.some.injEq] at hy
        omega

theorem le_fitStart (launches : List Nat) (d k t : Nat) : t ≤ fitStart launches d k t := by
  induction k generalizing t with
  | zero => exact le_rfl
  | succ k ih =>
    rw [fitStart]
    split
    · next x hx =>
      split
      · exact le_rfl
      · exact (firstAfter_lt hx).le.trans (ih x)
    · exact le_rfl

/-- What a place in a queue keeps of a frame. -/
def QFrame.shape (f : QFrame) : Nat × Nat := (f.cls, f.bytes)

theorem refit_shape (s : State) (p : Nat) (launches : List Nat) (t : Nat) (l : List QFrame) :
    (refit s p launches t l).map QFrame.shape = l.map QFrame.shape := by
  induction l generalizing t with
  | nil => rfl
  | cons f l ih =>
    rw [refit]
    split
    · rw [List.map_cons, ih, List.map_cons]
    · dsimp only
      rw [List.map_cons, ih, List.map_cons]
      rfl

/-- A frame that waits keeps its place, and none that has not begun ends before its own time on the wire has passed. -/
theorem mem_refit {s : State} {p : Nat} {launches : List Nat} {t : Nat} {l : List QFrame} {f : QFrame} (h : f ∈ l) (ht : s.clock.ticks ≤ t)
    (hb : s.clock.ticks + portTicks s p f.bytes ≤ f.ends) :
    ∃ x ∈ refit s p launches t l, x.cls = f.cls ∧ x.bytes = f.bytes ∧ s.clock.ticks + portTicks s p f.bytes ≤ x.ends := by
  induction l generalizing t with
  | nil => exact absurd h List.not_mem_nil
  | cons g rest ih =>
    rw [refit]
    dsimp only
    have hstart := le_fitStart launches (portTicks s p g.bytes) launches.length t
    split
    · rcases List.mem_cons.mp h with rfl | h'
      · exact ⟨f, List.mem_cons_self, rfl, rfl, hb⟩
      · obtain ⟨x, hx, hrest⟩ := ih h' (t := max t g.ends) (by omega)
        exact ⟨x, List.mem_cons_of_mem _ hx, hrest⟩
    · rcases List.mem_cons.mp h with rfl | h'
      · exact ⟨_, List.mem_cons_self, rfl, rfl, by dsimp only; omega⟩
      · obtain ⟨x, hx, hrest⟩ := ih h' (t := fitStart launches (portTicks s p g.bytes) launches.length t + portTicks s p g.bytes) (by omega)
        exact ⟨x, List.mem_cons_of_mem _ hx, hrest⟩

/-- The lengths of the frames of a class in a queue, by what their places keep. -/
theorem classBytes_eq (l : List QFrame) (c : Nat) :
    (l.filter fun x => x.cls == c).map (·.bytes) = ((l.map QFrame.shape).filter fun x => x.1 == c).map (·.2) := by
  rw [List.filter_map, List.map_map]
  rfl

/-- The queue of a port with a frame in its place by class, before the ends of those that follow are set again. -/
def queueWith (p cls bytes ends : Nat) (s : State) : List QFrame :=
  let l := waitingFrames s p
  let first := fun (f : QFrame) => begun s p f || decide (f.cls ≤ cls)
  l.filter first ++ ⟨cls, bytes, ends⟩ :: l.filter fun f => !first f

theorem enterQueue_eq (p cls bytes ends : Nat) (s : State) :
    enterQueue p cls bytes ends s = requeue p (s.onPort p fun x => { x with queue := queueWith p cls bytes ends s }) := rfl

theorem queueWith_waits {p cls bytes ends : Nat} {s : State} (he : s.clock.ticks < ends) :
    ∀ f ∈ queueWith p cls bytes ends s, s.clock.ticks < f.ends := by
  have hw : ∀ f ∈ waitingFrames s p, s.clock.ticks < f.ends := fun f hf => of_decide_eq_true (List.mem_filter.mp hf).2
  intro f hf
  simp only [queueWith, List.mem_append, List.mem_cons] at hf
  rcases hf with hf | rfl | hf
  · exact hw f (List.mem_filter.mp hf).1
  · exact he
  · exact hw f (List.mem_filter.mp hf).1

/-- A frame that enters the queue of a port stands behind those of its class, and ends no sooner than its time on the wire. -/
theorem enterQueue_waits {p cls bytes ends : Nat} {s : State} (he : s.clock.ticks < ends) (hb : s.clock.ticks + portTicks s p bytes ≤ ends) :
    (((enterQueue p cls bytes ends s).port p).queue.filter fun x => x.cls == cls).map (·.bytes)
        = ((waitingFrames s p).filter fun x => x.cls == cls).map (·.bytes) ++ [bytes]
      ∧ ∃ x ∈ ((enterQueue p cls bytes ends s).port p).queue, x.cls = cls ∧ x.bytes = bytes ∧ s.clock.ticks + portTicks s p bytes ≤ x.ends := by
  have hwait : waitingFrames (s.onPort p fun x => { x with queue := queueWith p cls bytes ends s }) p = queueWith p cls bytes ends s := by
    rw [waitingFrames, onPort_port]
    exact List.filter_eq_self.mpr fun f hf => decide_eq_true (queueWith_waits he f hf)
  have hin : (⟨cls, bytes, ends⟩ : QFrame) ∈ queueWith p cls bytes ends s := List.mem_append_right _ List.mem_cons_self
  rw [enterQueue_eq, requeue, onPort_port, hwait]
  dsimp only
  refine ⟨?_, mem_refit (s := s.onPort p fun x => { x with queue := queueWith p cls bytes ends s }) hin (le_max_left ..) hb⟩
  rw [classBytes_eq, refit_shape, ← classBytes_eq, queueWith]
  dsimp only
  have hlow : ((waitingFrames s p).filter fun f => !(begun s p f || decide (f.cls ≤ cls))).filter (fun x => x.cls == cls) = [] := by
    refine List.filter_eq_nil_iff.mpr fun f hf => ?_
    obtain ⟨-, hn⟩ := List.mem_filter.mp hf
    simp only [Bool.not_eq_true', Bool.or_eq_false_iff, decide_eq_false_iff_not] at hn
    simp only [beq_iff_eq]
    omega
  have hhigh : ((waitingFrames s p).filter fun f => begun s p f || decide (f.cls ≤ cls)).filter (fun x => x.cls == cls)
      = (waitingFrames s p).filter fun x => x.cls == cls := by
    rw [List.filter_filter]
    refine List.filter_congr fun f _ => ?_
    by_cases hcls : f.cls = cls
    · simp [hcls]
    · simp [hcls]
  rw [List.filter_append, List.filter_cons_of_pos (by simp), hlow, hhigh, List.map_append, List.map_cons, List.map_nil]

/-! ## Forwarding -/

/-- The ports that a mask of one bit names. -/
theorem filter_oneBit {q : Nat} (hq : q < 24) {g : Nat → Bool} (hg : g q = true) :
    ((List.range 24).filter fun x => bitOf (2 ^ q) x && g x) = [q] := by
  have hbit (x : Nat) : bitOf (2 ^ q) x = (x == q) := by
    have h := Nat.testBit_two_pow (n := q) (m := x)
    rw [Nat.testBit_eq_decide_div_mod_eq] at h
    rw [bitOf, Bool.beq_eq_decide_eq, h, Bool.beq_eq_decide_eq]
    exact decide_eq_decide.mpr eq_comm
  rw [List.filter_congr (q := fun x => x == q), List.filter_beq,
    List.count_eq_one_of_mem List.nodup_range (List.mem_range.mpr hq), List.replicate_one]
  intro x _
  rw [hbit]
  by_cases hx : x = q
  · rw [hx, hg, Bool.and_true]
  · rw [beq_eq_false_iff_ne.mpr hx, Bool.false_and]

/-- A frame whose rule names one other port that forwards and is up goes to that port. -/
theorem forward_one {p q : Nat} {f : Frame} {r : Bytes} {s : State} (hq : q < 24) (hne : q ≠ p) (hptp : f.ptp = none)
    (he : s.obj (O.fwdEnable p) = 1) (hr : (fwdRules s).find? (ruleMatches p f) = some r) (hm : bytesAt r 20 4 = 2 ^ q)
    (he' : s.obj (O.fwdEnable q) = 1) (hl : s.obj (O.portLinkState q) = 1) : forward p f s = forwardTo p f s q := by
  rw [forward, if_neg (by rw [he]; decide), hr]
  dsimp only
  rw [hm]
  have hone := filter_oneBit (q := q) hq (g := fun x => x != p && (s.obj (O.fwdEnable x) == 1 && s.obj (O.portLinkState x) == 1))
    (by simp [hne, he', hl])
  simp only [Bool.and_assoc]
  rw [hone, if_neg (by rw [hptp]; simp), List.foldl_cons, List.foldl_nil]

/-- The state in which a forwarded frame is counted at the port it goes to. -/
def fwdCounted (q : Nat) (f : Frame) (s : State) : State := sentFrames q 1 f.bytes (s.bump (O.fwdFrames q) 1)

theorem fwdCounted_leaves (q : Nat) (f : Frame) (s : State) :
    Leaves s (fwdCounted q f s) [.dict] [O.fwdFrames q, O.txFrames q, O.txBytes q] :=
  Leaves.trans (Leaves.bump _ _ _ (by decide) (by simp)) (Leaves.mono (sentFrames_leaves ..) (by decide) (by simp))

theorem fwdCounted_counted (q : Nat) (f : Frame) (s : State) : Counted s (fwdCounted q f s) (O.fwdFrames q) 1
    ∧ Counted s (fwdCounted q f s) (O.txFrames q) 1 ∧ Counted s (fwdCounted q f s) (O.txBytes q) f.bytes := by
  have h1 : O.fwdFrames q ≠ O.txFrames q := by simp only [O.fwdFrames, O.txFrames, ne_eq]; omega
  have h2 : O.fwdFrames q ≠ O.txBytes q := by simp only [O.fwdFrames, O.txBytes, ne_eq]; omega
  obtain ⟨hf, hb⟩ := sentFrames_counted q 1 f.bytes (s.bump (O.fwdFrames q) 1)
  exact ⟨((sentFrames_leaves ..).2 _ (by simp only [List.mem_cons, List.not_mem_nil, or_false, not_or]; exact ⟨h1, h2⟩)).trans
    (State.obj_bump_same ..), Counted.of_obj (State.obj_bump_ne _ _ _ _ h1.symm) hf, Counted.of_obj (State.obj_bump_ne _ _ _ _ h2.symm) hb⟩

theorem forwardTo_held {p q : Nat} {f : Frame} {s : State} (hptp : f.ptpEvent = false)
    (hh : ((queued s q).map (·.bytes)).sum + f.bytes ≤ s.nat (O.fwdQueueKib q) * 1024) : forwardTo p f s q
      = enterQueue q 4 f.bytes ((fwdCounted q f s).clock.ticks + 1 + portTicks (fwdCounted q f s) q f.bytes) (fwdCounted q f s) := by
  rw [forwardTo]
  dsimp only
  rw [if_pos hh, if_neg (by rw [hptp]; simp), ← fwdCounted]

theorem forwardTo_dropped {p q : Nat} {f : Frame} {s : State}
    (hh : ¬((queued s q).map (·.bytes)).sum + f.bytes ≤ s.nat (O.fwdQueueKib q) * 1024) :
    forwardTo p f s q = s.bump (O.fwdDropped p) 1 := if_neg hh

theorem waitingFrames_congr {s t : State} (hf : t.fh = s.fh) (hc : t.clock = s.clock) (p : Nat) : waitingFrames t p = waitingFrames s p := by
  rw [waitingFrames, State.port, hf, hc, waitingFrames, State.port]

theorem queued_congr {s t : State} (hf : t.fh = s.fh) (hc : t.clock = s.clock) (p : Nat) : queued t p = queued s p := by
  rw [queued, waitingFrames_congr hf hc, queued]

theorem portTicks_congr {s t : State} {p : Nat} (h : t.obj (O.portSpeed p) = s.obj (O.portSpeed p)) (n : Nat) :
    portTicks t p n = portTicks s p n := by
  rw [portTicks, portRate, State.nat, h, portTicks, portRate, State.nat]

theorem frameHeard_other {dt p : Nat} {f : Frame} {s : State} {k : Nat} (h1 : k ≠ O.rxFrames p) (h2 : k ≠ O.rxBytes p) :
    (frameHeard dt p f s).obj k = s.obj k :=
  (frameHeard_leaves dt p f s).2 k (by simp only [List.mem_cons, List.not_mem_nil, or_false, not_or]; exact ⟨h1, h2⟩)

theorem frameHeard_fh (dt p : Nat) (f : Frame) (s : State) : (frameHeard dt p f s).fh = s.fh := (frameHeard_leaves dt p f s).1 .fh (by decide)

theorem frameHeard_clock (dt p : Nat) (f : Frame) (s : State) : (frameHeard dt p f s).clock = (advance s dt).clock :=
  (frameCounted_leaves p f (advance s dt)).1 .clock (by decide)

/-- The rule and the ports that a counted frame finds are those of the state before. -/
theorem forward_frameHeard {dt p q : Nat} {f : Frame} {r : Bytes} {s : State} (hq : q < 24) (hne : q ≠ p) (hptp : f.ptp = none)
    (he : s.obj (O.fwdEnable p) = 1) (hr : (fwdRules s).find? (ruleMatches p f) = some r) (hm : bytesAt r 20 4 = 2 ^ q)
    (he' : s.obj (O.fwdEnable q) = 1) (hl : s.obj (O.portLinkState q) = 1) :
    forward p f (frameHeard dt p f s) = forwardTo p f (frameHeard dt p f s) q := by
  refine forward_one hq hne hptp ?_ ?_ hm ?_ ?_
  · rw [frameHeard_other (by simp only [O.fwdEnable, O.rxFrames]; omega) (by simp only [O.fwdEnable, O.rxBytes]; omega), he]
  · rw [fwdRules, frameHeard_blob]
    exact hr
  · rw [frameHeard_other (by simp only [O.fwdEnable, O.rxFrames]; omega) (by simp only [O.fwdEnable, O.rxBytes]; omega), he']
  · rw [frameHeard_other (by simp only [O.portLinkState, O.rxFrames]; omega) (by simp only [O.portLinkState, O.rxBytes]; omega), hl]

/-- The state in which a forwarded frame is counted at both ports. -/
def fwdBoth (dt p q : Nat) (f : Frame) (s : State) : State := fwdCounted q f (frameHeard dt p f s)

theorem fwdBoth_leaves (dt p q : Nat) (f : Frame) (s : State) : Leaves s (fwdBoth dt p q f s) (.dict :: timeParts)
    [O.rxFrames p, O.rxBytes p, O.fwdFrames q, O.txFrames q, O.txBytes q] :=
  Leaves.trans (Leaves.mono (frameHeard_leaves dt p f s) (by decide) (by simp)) (Leaves.mono (fwdCounted_leaves q f _) (by decide) (by simp))

theorem fwdBoth_clock (dt p q : Nat) (f : Frame) (s : State) : (fwdBoth dt p q f s).clock = (advance s dt).clock :=
  ((fwdCounted_leaves q f _).1 .clock (by decide)).trans (frameHeard_clock ..)

theorem fwdBoth_fh (dt p q : Nat) (f : Frame) (s : State) : (fwdBoth dt p q f s).fh = s.fh := (fwdBoth_leaves dt p q f s).1 .fh (by decide)

theorem fwdBoth_counted (dt p q : Nat) (f : Frame) (s : State) : Counted s (fwdBoth dt p q f s) (O.fwdFrames q) 1
    ∧ (q ≠ p → Counted s (fwdBoth dt p q f s) (O.txFrames q) 1 ∧ Counted s (fwdBoth dt p q f s) (O.txBytes q) f.bytes) := by
  obtain ⟨h1, h2, h3⟩ := fwdCounted_counted q f (frameHeard dt p f s)
  exact ⟨Counted.of_obj (frameHeard_other (by simp only [O.fwdFrames, O.rxFrames]; omega) (by simp only [O.fwdFrames, O.rxBytes]; omega)) h1,
    fun _ => ⟨Counted.of_obj (frameHeard_other (by simp only [O.txFrames, O.rxFrames]; omega) (by simp only [O.txFrames, O.rxBytes]; omega)) h2,
      Counted.of_obj (frameHeard_other (by simp only [O.txBytes, O.rxFrames]; omega) (by simp only [O.txBytes, O.rxBytes]; omega)) h3⟩⟩

theorem fwdBoth_ticks (dt p q : Nat) (f : Frame) (s : State) : (fwdBoth dt p q f s).clock.ticks = s.clock.ticks + dt := by
  rw [fwdBoth_clock, advance_ticks]

theorem fwdBoth_portTicks (dt p q : Nat) (f : Frame) (s : State) (n : Nat) : portTicks (fwdBoth dt p q f s) q n = portTicks s q n := by
  refine portTicks_congr ((fwdBoth_leaves dt p q f s).2 _ ?_) n
  simp only [O.portSpeed, O.rxFrames, O.rxBytes, O.fwdFrames, O.txFrames, O.txBytes, List.mem_cons, List.not_mem_nil, or_false]
  omega

/-- The state in which a frame stands in the queue of the port that its rule names. -/
def fwdQueued (dt p q : Nat) (f : Frame) (s : State) : State :=
  enterQueue q 4 f.bytes ((fwdBoth dt p q f s).clock.ticks + 1 + portTicks (fwdBoth dt p q f s) q f.bytes) (fwdBoth dt p q f s)

theorem fwdQueued_leaves (dt p q : Nat) (f : Frame) (s : State) : Leaves s (fwdQueued dt p q f s) (.dict :: .fh :: timeParts)
    [O.rxFrames p, O.rxBytes p, O.fwdFrames q, O.txFrames q, O.txBytes q] :=
  Leaves.trans (Leaves.mono (fwdBoth_leaves dt p q f s) (by decide) (fun _ h => h)) (Leaves.mono (enterQueue_leaves ..) (by decide) (fun _ h => h))

theorem fwdQueued_counted {dt p q : Nat} (f : Frame) (s : State) (hne : q ≠ p) : Counted s (fwdQueued dt p q f s) (O.fwdFrames q) 1
    ∧ Counted s (fwdQueued dt p q f s) (O.txFrames q) 1 ∧ Counted s (fwdQueued dt p q f s) (O.txBytes q) f.bytes := by
  obtain ⟨h1, h⟩ := fwdBoth_counted dt p q f s
  obtain ⟨h2, h3⟩ := h hne
  have ho (k : Nat) : (fwdQueued dt p q f s).obj k = (fwdBoth dt p q f s).obj k := (enterQueue_leaves ..).2 k List.not_mem_nil
  exact ⟨(ho _).trans h1, (ho _).trans h2, (ho _).trans h3⟩

/-- A frame of class 4 that enters the queue of a port, by what the state before it holds. -/
theorem enterQueue_behind {u : State} {q bytes now d : Nat} {l : List QFrame} (hw : waitingFrames u q = l) (ht : u.clock.ticks = now)
    (hd : portTicks u q bytes = d) :
    (((enterQueue q 4 bytes (u.clock.ticks + 1 + portTicks u q bytes) u).port q).queue.filter fun x => x.cls == 4).map (·.bytes)
        = (l.filter fun x => x.cls == 4).map (·.bytes) ++ [bytes]
      ∧ ∃ x ∈ ((enterQueue q 4 bytes (u.clock.ticks + 1 + portTicks u q bytes) u).port q).queue,
        x.cls = 4 ∧ x.bytes = bytes ∧ now + d ≤ x.ends := by
  rw [← hw, ← ht, ← hd]
  exact enterQueue_waits (by omega) (by omega)

/-- The frame stands behind the forwarded frames that waited, and ends no sooner than its time on the wire. -/
theorem fwdQueued_waits (dt p q : Nat) (f : Frame) (s : State) :
    (((fwdQueued dt p q f s).port q).queue.filter fun x => x.cls == 4).map (·.bytes) = (queued (advance s dt) q).map (·.bytes) ++ [f.bytes]
      ∧ ∃ x ∈ ((fwdQueued dt p q f s).port q).queue, x.cls = 4 ∧ x.bytes = f.bytes ∧ s.clock.ticks + dt + portTicks s q f.bytes ≤ x.ends := by
  rw [fwdQueued, queued]
  exact enterQueue_behind (waitingFrames_congr ((fwdBoth_fh ..).trans (advance_fh ..).symm) (fwdBoth_clock ..) q) (fwdBoth_ticks ..)
    (fwdBoth_portTicks ..)

theorem frameHeard_queued (dt p q : Nat) (f : Frame) (s : State) : queued (frameHeard dt p f s) q = queued (advance s dt) q :=
  queued_congr ((frameHeard_fh ..).trans (advance_fh ..).symm) (frameHeard_clock ..) q

theorem frameHeard_queueKib (dt p q : Nat) (f : Frame) (s : State) :
    (frameHeard dt p f s).nat (O.fwdQueueKib q) = s.nat (O.fwdQueueKib q) := by
  rw [State.nat, frameHeard_other (by simp only [O.fwdQueueKib, O.rxFrames]; omega) (by simp only [O.fwdQueueKib, O.rxBytes]; omega), State.nat]

theorem frame_held {dt p q : Nat} {f : Frame} {s : State} (hptp : f.ptpEvent = false)
    (hroom : ((queued (advance s dt) q).map (·.bytes)).sum + f.bytes ≤ s.nat (O.fwdQueueKib q) * 1024) :
    forwardTo p f (frameHeard dt p f s) q = fwdQueued dt p q f s := by
  rw [forwardTo_held hptp (by rw [frameHeard_queued, frameHeard_queueKib]; exact hroom), ← fwdBoth, ← fwdQueued]

/-- The state in which a frame that no port takes is dropped. -/
def frameDropped (dt p : Nat) (f : Frame) (s : State) : State := (frameHeard dt p f s).bump (O.fwdDropped p) 1

theorem frame_dropped {dt p q : Nat} {f : Frame} {s : State}
    (hroom : ¬((queued (advance s dt) q).map (·.bytes)).sum + f.bytes ≤ s.nat (O.fwdQueueKib q) * 1024) :
    forwardTo p f (frameHeard dt p f s) q = frameDropped dt p f s :=
  forwardTo_dropped (by rw [frameHeard_queued, frameHeard_queueKib]; exact hroom)

theorem frameDropped_leaves (dt p : Nat) (f : Frame) (s : State) :
    Leaves s (frameDropped dt p f s) (.dict :: timeParts) [O.rxFrames p, O.rxBytes p, O.fwdDropped p] :=
  Leaves.trans (Leaves.mono (frameHeard_leaves dt p f s) (by decide) (by simp)) (Leaves.bump _ _ _ (by decide) (by simp))

theorem frameDropped_counted (dt p : Nat) (f : Frame) (s : State) : Counted s (frameDropped dt p f s) (O.fwdDropped p) 1
    ∧ Counted s (frameDropped dt p f s) (O.rxFrames p) 1 := by
  obtain ⟨h1, -⟩ := frameHeard_counted dt p f s
  refine ⟨Counted.of_obj (frameHeard_other (by simp only [O.fwdDropped, O.rxFrames]; omega) (by simp only [O.fwdDropped, O.rxBytes]; omega))
    (State.obj_bump_same ..), (State.obj_bump_ne _ _ _ _ ?_).trans h1⟩
  simp only [O.fwdDropped, O.rxFrames, ne_eq]
  omega

/-- A frame that a rule sends to one other port is queued there, or dropped where it does not fit (09 R321 to R323). -/
theorem frameRx_forwarded {dt p q : Nat} {f : Frame} {r : Bytes} {s : State} (hp : p < 24) (hq : q < 24) (hne : q ≠ p)
    (hu : s.linkUp p = true) (hf : (s.port p).first = true) (hc : f.fcsOk = true) (hm : f.macControl = false)
    (hd : f.dst ≠ wireNat (s.blob (O.portMac p))) (hd' : f.dst ≠ 0x0180C200000E) (hptp : f.ptp = none) (hev : f.ptpEvent = false)
    (he : s.obj (O.fwdEnable p) = 1) (hr : (fwdRules s).find? (ruleMatches p f) = some r) (hmask : bytesAt r 20 4 = 2 ^ q)
    (he' : s.obj (O.fwdEnable q) = 1) (hl : s.obj (O.portLinkState q) = 1) :
    ∃ t, exec (.frameRx dt p f) s = .next t
      ∧ (if ((queued (advance s dt) q).map (·.bytes)).sum + f.bytes ≤ s.nat (O.fwdQueueKib q) * 1024
         then Counted s t (O.fwdFrames q) 1 ∧ Counted s t (O.txFrames q) 1 ∧ Counted s t (O.txBytes q) f.bytes
           ∧ ((t.port q).queue.filter fun x => x.cls == 4).map (·.bytes) = (queued (advance s dt) q).map (·.bytes) ++ [f.bytes]
           ∧ (∃ x ∈ (t.port q).queue, x.cls = 4 ∧ x.bytes = f.bytes ∧ s.clock.ticks + dt + portTicks s q f.bytes ≤ x.ends)
         else Counted s t (O.fwdDropped p) 1 ∧ t.fh = s.fh)
      ∧ Leaves s t (.dict :: .fh :: timeParts) [O.rxFrames p, O.rxBytes p, O.fwdFrames q, O.txFrames q, O.txBytes q, O.fwdDropped p] := by
  have hx : exec (.frameRx dt p f) s = .next (forwardTo p f (frameHeard dt p f s) q) := by
    rw [exec_frameRx_forward hp hu hf hc hm hd hd' hptp, forward_frameHeard hq hne hptp he hr hmask he' hl]
  by_cases hroom : ((queued (advance s dt) q).map (·.bytes)).sum + f.bytes ≤ s.nat (O.fwdQueueKib q) * 1024
  · obtain ⟨h1, h2, h3⟩ := fwdQueued_counted f s hne (dt := dt)
    obtain ⟨h4, h5⟩ := fwdQueued_waits dt p q f s
    refine ⟨fwdQueued dt p q f s, by rw [hx, frame_held hev hroom], ?_, Leaves.mono (fwdQueued_leaves dt p q f s) (by decide) (by simp)⟩
    rw [if_pos hroom]
    exact ⟨h1, h2, h3, h4, h5⟩
  · refine ⟨frameDropped dt p f s, by rw [hx, frame_dropped hroom], ?_, Leaves.mono (frameDropped_leaves dt p f s) (by decide) (by simp)⟩
    rw [if_neg hroom]
    exact ⟨(frameDropped_counted ..).1, (frameDropped_leaves dt p f s).1 .fh (by decide)⟩

/-- A frame on a port that does not forward is dropped. -/
theorem frameRx_unforwarded {dt p : Nat} {f : Frame} {s : State} (hp : p < 24) (hu : s.linkUp p = true) (hf : (s.port p).first = true)
    (hc : f.fcsOk = true) (hm : f.macControl = false) (hd : f.dst ≠ wireNat (s.blob (O.portMac p))) (hd' : f.dst ≠ 0x0180C200000E)
    (hptp : f.ptp = none) (he : s.obj (O.fwdEnable p) ≠ 1) :
    ∃ t, exec (.frameRx dt p f) s = .next t ∧ Counted s t (O.fwdDropped p) 1 ∧ Counted s t (O.rxFrames p) 1
      ∧ Leaves s t (.dict :: timeParts) [O.rxFrames p, O.rxBytes p, O.fwdDropped p] := by
  obtain ⟨h1, h2⟩ := frameDropped_counted dt p f s
  refine ⟨frameDropped dt p f s, ?_, h1, h2, frameDropped_leaves ..⟩
  have hn : (frameHeard dt p f s).obj (O.fwdEnable p) ≠ 1 := by
    rw [frameHeard_other (by simp only [O.fwdEnable, O.rxFrames]; omega) (by simp only [O.fwdEnable, O.rxBytes]; omega)]
    exact he
  rw [exec_frameRx_forward hp hu hf hc hm hd hd' hptp, forward, if_pos (by simpa using hn), frameDropped]

/-- A frame whose check sequence fails counts as such. -/
theorem frameRx_broken {dt p : Nat} {f : Frame} {s : State} (hp : p < 24) (hu : s.linkUp p = true) (hf : (s.port p).first = true)
    (hc : f.fcsOk = false) :
    ∃ t, exec (.frameRx dt p f) s = .next t ∧ Counted s t (O.rxFrames p) 1 ∧ Counted s t (O.rxBytes p) f.bytes
      ∧ Counted s t (O.rxFcsErrors p) 1 ∧ Leaves s t (.dict :: timeParts) [O.rxFrames p, O.rxBytes p, O.rxFcsErrors p] := by
  obtain ⟨h1, h2⟩ := frameHeard_counted dt p f s
  have hn1 : O.rxFrames p ≠ O.rxFcsErrors p := by simp only [O.rxFrames, O.rxFcsErrors, ne_eq]; omega
  have hn2 : O.rxBytes p ≠ O.rxFcsErrors p := by simp only [O.rxBytes, O.rxFcsErrors, ne_eq]; omega
  refine ⟨(frameHeard dt p f s).bump (O.rxFcsErrors p) 1, ?_, (State.obj_bump_ne _ _ _ _ hn1).trans h1, (State.obj_bump_ne _ _ _ _ hn2).trans h2,
    Counted.of_obj (frameHeard_other hn1.symm hn2.symm) (State.obj_bump_same ..),
    Leaves.trans (Leaves.mono (frameHeard_leaves dt p f s) (by decide) (by simp)) (Leaves.bump _ _ _ (by decide) (by simp))⟩
  rw [exec_frameRx hp hu hf]
  dsimp only
  rw [if_pos (by rw [hc]; decide)]

/-! ## An uplink message -/

/-- A state that may differ in a port's count of lost sequences. -/
theorem judgeSeq_leaves (p n : Nat) (m : IqMsg) (s : State) : Leaves s (judgeSeq p n m s) [.dict, .fh] [O.rxSeqErrors p] := by
  rw [judgeSeq]
  dsimp only
  split
  · refine Leaves.trans (t := if _ then _ else _) (Leaves.ite _ (Leaves.refl ..) (Leaves.bump _ _ _ ?_ ?_)) (Leaves.setFh _ _ ?_) <;> simp
  · exact Leaves.setFh _ _ (by decide)

theorem judgeSeq_next (p n : Nat) (m : IqMsg) (s : State) :
    Store.find (judgeSeq p n m s).fh.rxSeq (n * 2 ^ 16 + m.eaxc) = some ((m.seq + 1) % 256) := by
  rw [judgeSeq]
  exact Store.find_put_same ..

/-- The window of a frequency-domain message counts by its carrier's parameters and by air time. -/
theorem windowBase_congr {s t : State} {n : Nat} {m : IqMsg} (hc : t.clock = s.clock) (ho : ∀ k, k < 0x440000 → t.obj k = s.obj k)
    (hn : n < 64) (hd : s.obj (O.fhDomain n) ≠ 1) : windowBase t n m = windowBase s n m := by
  have h1 := ho (O.fhDomain n) (by simp only [O.fhDomain]; omega)
  have h2 := ho (O.frameOffset n) (by simp only [O.frameOffset]; omega)
  have h3 := ho (O.standard n) (by simp only [O.standard]; omega)
  have h4 := ho (O.numerology n) (by simp only [O.numerology]; omega)
  have hmu : t.mu n = s.mu n := by rw [State.mu, State.nat, h3, h4, State.mu, State.nat]
  have hoff : t.frameOffset n = s.frameOffset n := by rw [State.frameOffset, h2, State.frameOffset]
  have hair (a : Nat) : t.airOfCarrier n a = s.airOfCarrier n a := by
    rw [State.airOfCarrier, State.airOfLinear, State.airNow, State.airOf, hc, State.nat, h2, State.airOfCarrier, State.airOfLinear, State.airNow,
      State.airOf, State.nat]
  have hstart (i l : Nat) : t.symbolStart n i l = s.symbolStart n i l := by rw [State.symbolStart, hmu, State.symbolStart]
  have hslot (a : Int) : t.slotInSubframe n a = s.slotInSubframe n a := by rw [State.slotInSubframe, hmu, hoff, State.slotInSubframe]
  have hd' : ¬(s.obj (O.fhDomain n) == 1) = true := by rw [beq_iff_eq]; exact hd
  rw [windowBase, if_neg (by rw [h1]; exact hd'), hair, windowBase, if_neg hd']
  dsimp only
  rw [hslot, hstart]

theorem carrierOf_congr {s t : State} (h : t.dict = s.dict) (p eaxc : Nat) : carrierOf t p eaxc = carrierOf s p eaxc := by
  have ho := fun k => State.obj_congr h k
  have hn (k : Nat) : t.nat k = s.nat k := by rw [State.nat, ho, State.nat]
  have he (n : Nat) : t.eaxc n = s.eaxc n := funext fun k => by rw [State.eaxc, hn, State.eaxc]
  have hh (n : Nat) : t.hosted n = s.hosted n := by rw [State.hosted, State.std, hn, ho, State.hosted, State.std]
  have htd (n : Nat) : t.timeDomain n = s.timeDomain n := by rw [State.timeDomain, hh, ho, State.timeDomain]
  have hsp (n : Nat) : t.streamPorts n = s.streamPorts n := by rw [State.streamPorts, hn, hn, State.streamPorts]
  have hl (n : Nat) : t.eaxcs n = s.eaxcs n := by
    rw [State.eaxcs, hh, hsp, htd, he, hn, hn, State.eaxcs]
  have hp (n : Nat) : t.portsOf n = s.portsOf n := by
    rw [State.portsOf, hn, State.pairOf, hn, State.portsOf, State.pairOf]
  simp only [carrierOf, State.holds, ho, hl, hp]

/-- The message of a carrier in frequency domain after its sequence is judged. -/
def msgJudged (dt p n : Nat) (m : IqMsg) (s : State) : State := judgeSeq p n m (advance s dt)

theorem msgJudged_leaves (dt p n : Nat) (m : IqMsg) (s : State) :
    Leaves s (msgJudged dt p n m s) (.dict :: .fh :: timeParts) [O.rxSeqErrors p] :=
  Leaves.trans (Leaves.advance s dt (by decide)) (Leaves.mono (judgeSeq_leaves ..) (by decide) (fun _ h => h))

theorem msgJudged_below {dt p n : Nat} {m : IqMsg} {s : State} {k : Nat} (h : k < 0x44001C) : (msgJudged dt p n m s).obj k = s.obj k :=
  (msgJudged_leaves dt p n m s).2 k (by simp only [O.rxSeqErrors, List.mem_cons, List.not_mem_nil, or_false]; omega)

theorem msgJudged_clock (dt p n : Nat) (m : IqMsg) (s : State) : (msgJudged dt p n m s).clock = (advance s dt).clock :=
  (judgeSeq_leaves p n m _).1 .clock (by decide)

theorem airNow_congr {s t : State} (h : t.clock = s.clock) : t.airNow = s.airNow := by rw [State.airNow, State.airOf, h, State.airNow, State.airOf]

/-- The instant at which the receive window of a message opens, and that at which it closes (09 R314). -/
def opensAt (n : Nat) (m : IqMsg) (s : State) : Int := windowBase s n m + s.obj (O.ulWinOpen n) * airNs
def closesAt (n : Nat) (m : IqMsg) (s : State) : Int := windowBase s n m + s.obj (O.ulWinClose n) * airNs

/-- What a message on time does once it is counted. -/
def msgTaken (n : Nat) (m : IqMsg) (s : State) : State := if 14 ≤ m.symbol then s else symbolIn n m s

theorem msgJudged_window {dt p n : Nat} {m : IqMsg} {s : State} (hp : p < 24) (hn : n < 64) (hd : s.obj (O.fhDomain n) ≠ 1) :
    (msgJudged dt p n m s).airNow = (advance s dt).airNow ∧ opensAt n m (msgJudged dt p n m s) = opensAt n m (advance s dt)
      ∧ closesAt n m (msgJudged dt p n m s) = closesAt n m (advance s dt) := by
  have hj := judgeSeq_leaves p n m (advance s dt)
  have hb : windowBase (msgJudged dt p n m s) n m = windowBase (advance s dt) n m := by
    refine windowBase_congr (msgJudged_clock ..) (fun k hk => hj.2 k ?_) hn (by rw [State.obj_congr (advance_dict ..)]; exact hd)
    simp only [O.rxSeqErrors, List.mem_cons, List.not_mem_nil, or_false]
    omega
  have ho : (msgJudged dt p n m s).obj (O.ulWinOpen n) = (advance s dt).obj (O.ulWinOpen n) :=
    hj.2 _ (by simp only [O.ulWinOpen, O.rxSeqErrors, List.mem_cons, List.not_mem_nil, or_false]; omega)
  have hc : (msgJudged dt p n m s).obj (O.ulWinClose n) = (advance s dt).obj (O.ulWinClose n) :=
    hj.2 _ (by simp only [O.ulWinClose, O.rxSeqErrors, List.mem_cons, List.not_mem_nil, or_false]; omega)
  exact ⟨airNow_congr (msgJudged_clock ..), by rw [opensAt, hb, ho, opensAt], by rw [closesAt, hb, hc, closesAt]⟩

/-- What a message of a carrier does by its window (09 R306, R314). -/
def msgDone (dt p n : Nat) (m : IqMsg) (s : State) : State :=
  if (advance s dt).airNow < opensAt n m (advance s dt) then (msgJudged dt p n m s).bump (O.upRxEarly p) 1
  else if closesAt n m (advance s dt) < (advance s dt).airNow then (msgJudged dt p n m s).bump (O.upRxLate p) 1
  else msgTaken n m ((msgJudged dt p n m s).bump (O.upRxOnTime p) 1)

/-- What a message of a carrier does once its sequence is judged. -/
def judgedDone (p n : Nat) (m : IqMsg) (s : State) : State :=
  if s.airNow < opensAt n m s then s.bump (O.upRxEarly p) 1
  else if closesAt n m s < s.airNow then s.bump (O.upRxLate p) 1
  else msgTaken n m (s.bump (O.upRxOnTime p) 1)

theorem judgedDone_msgJudged {dt p n : Nat} {m : IqMsg} {s : State} (hp : p < 24) (hn : n < 64) (hd : s.obj (O.fhDomain n) ≠ 1) :
    judgedDone p n m (msgJudged dt p n m s) = msgDone dt p n m s := by
  obtain ⟨h1, h2, h3⟩ := msgJudged_window (dt := dt) (m := m) hp hn hd
  rw [judgedDone, h1, h2, h3, msgDone]

theorem next_ite (c : Prop) [Decidable c] (a b : State) :
    (Host.Outcome.next (if c then a else b) : Host.Outcome State Fault Refusal) = if c then .next a else .next b := by
  split <;> rfl

theorem exec_uplaneMessageRx {dt p n : Nat} {m : IqMsg} {s : State} (hp : p < 24) (hu : s.linkUp p = true) (he : m.eBit = true)
    (hs : m.subseq = 0) (hl : listens s = false ∨ s.nat O.nlSrcPort ≠ p ∨ s.nat O.nlSrcEaxc ≠ m.eaxc)
    (hc : carrierOf s p m.eaxc = some n) (hn : n < 64) (hd : s.obj (O.fhDomain n) ≠ 1) :
    exec (.uplaneMessageRx dt p m) s = .next (msgDone dt p n m s) := by
  have ho (k : Nat) : (advance s dt).obj k = s.obj k := State.obj_congr (advance_dict ..) k
  have hlis : ¬(listens (advance s dt) && (advance s dt).nat O.nlSrcPort == p && (advance s dt).nat O.nlSrcEaxc == m.eaxc) = true := by
    simp only [listens, State.isOn, State.nat, ho]
    simp only [listens, State.isOn, State.nat] at hl
    rcases hl with hl | hl | hl
    · rw [hl]; simp
    · simp [hl]
    · simp [hl]
  have hfd : (msgJudged dt p n m s).obj (O.fhDomain n) ≠ 1 := by
    rw [msgJudged_below (by simp only [O.fhDomain]; omega)]
    exact hd
  have htd : ((msgJudged dt p n m s).bump (O.upRxOnTime p) 1).timeDomain n = false := by
    rw [State.timeDomain, State.obj_bump_ne _ _ _ _ (by simp only [O.fhDomain, O.upRxOnTime]; omega), beq_false_of_ne hfd, Bool.false_and]
  show execUplaneMessageRx dt p m s = _
  rw [execUplaneMessageRx, if_neg (by omega)]
  dsimp only
  rw [if_neg (by rw [linkUp_advance, hu]; decide), if_neg (by rw [he, hs]; decide), if_neg hlis, carrierOf_congr (advance_dict ..), hc]
  dsimp only
  rw [← msgJudged, if_neg (by rw [beq_false_of_ne hfd]; simp), if_neg (c := _ = true) (by rw [htd]; decide),
    ← judgedDone_msgJudged hp hn hd, judgedDone]
  rw [opensAt, closesAt, msgTaken, next_ite, next_ite, next_ite, next_ite]

theorem Books.ite {ps : List Part} {s t u : State} (c : Prop) [Decidable c] (h1 : Books ps s t) (h2 : Books ps s u) :
    Books ps s (if c then t else u) := by
  split <;> assumption

theorem Books.takeWhole (key : Nat) (symbols : List Nat) (s : State) : Books bookParts s (takeWhole key symbols s) := by
  unfold Machine.takeWhole
  split
  · exact refl s
  · exact onCourse ..

theorem Books.symbolIn (n : Nat) (m : IqMsg) (s : State) : Books bookParts s (symbolIn n m s) := by
  unfold Machine.symbolIn
  dsimp only
  refine Books.ite _ (trans (foldl _ _ (fun e _ s => ?_) s) (resettle _)) (foldl _ _ (fun e _ s => ?_) s)
  · exact trans (onCourse ..) (takeWhole ..)
  · exact trans (onCourse ..) (takeWhole ..)

/-- A message that is taken keeps everything but the books. -/
theorem msgTaken_books (n : Nat) (m : IqMsg) (s : State) : Books bookParts s (msgTaken n m s) :=
  Books.ite _ (Books.refl s) (Books.symbolIn ..)

theorem msgTaken_late {n : Nat} {m : IqMsg} (h : 14 ≤ m.symbol) (s : State) : msgTaken n m s = s := if_pos h

theorem msgDone_books (dt p n : Nat) (m : IqMsg) (s : State) : ∃ k ∈ [O.upRxEarly p, O.upRxLate p, O.upRxOnTime p],
    Books bookParts ((msgJudged dt p n m s).bump k 1) (msgDone dt p n m s)
      ∧ (14 ≤ m.symbol → msgDone dt p n m s = (msgJudged dt p n m s).bump k 1)
      ∧ ((advance s dt).airNow < opensAt n m (advance s dt) → k = O.upRxEarly p)
      ∧ (¬(advance s dt).airNow < opensAt n m (advance s dt) → closesAt n m (advance s dt) < (advance s dt).airNow → k = O.upRxLate p)
      ∧ (¬(advance s dt).airNow < opensAt n m (advance s dt) → ¬closesAt n m (advance s dt) < (advance s dt).airNow → k = O.upRxOnTime p) := by
  by_cases h1 : (advance s dt).airNow < opensAt n m (advance s dt)
  · have hd : msgDone dt p n m s = (msgJudged dt p n m s).bump (O.upRxEarly p) 1 := if_pos h1
    exact ⟨_, by simp, by rw [hd]; exact Books.refl _, fun _ => hd, fun _ => rfl, fun h => absurd h1 h, fun h => absurd h1 h⟩
  · by_cases h2 : closesAt n m (advance s dt) < (advance s dt).airNow
    · have hd : msgDone dt p n m s = (msgJudged dt p n m s).bump (O.upRxLate p) 1 := (if_neg h1).trans (if_pos h2)
      exact ⟨_, by simp, by rw [hd]; exact Books.refl _, fun _ => hd, fun h => absurd h h1, fun _ _ => rfl, fun _ h => absurd h2 h⟩
    · have hd : msgDone dt p n m s = msgTaken n m ((msgJudged dt p n m s).bump (O.upRxOnTime p) 1) := (if_neg h1).trans (if_neg h2)
      exact ⟨_, by simp, by rw [hd]; exact msgTaken_books .., fun h => by rw [hd, msgTaken_late h], fun h => absurd h h1,
        fun _ h => absurd h h2, fun _ _ => rfl⟩

theorem msgDone_leaves (dt p n : Nat) (m : IqMsg) (s : State) :
    SameBut s (msgDone dt p n m s) (.dict :: .fh :: .kiln :: .link :: .pipe :: .sched :: .svc :: timeParts)
      ∧ (msgDone dt p n m s).fh = (msgJudged dt p n m s).fh
      ∧ (14 ≤ m.symbol → Leaves s (msgDone dt p n m s) (.dict :: .fh :: timeParts)
          [O.upRxEarly p, O.upRxLate p, O.upRxOnTime p, O.rxSeqErrors p]) := by
  obtain ⟨k, hk, hb, hl, -⟩ := msgDone_books dt p n m s
  have hj := msgJudged_leaves dt p n m s
  have hu : Leaves (msgJudged dt p n m s) ((msgJudged dt p n m s).bump k 1) (.dict :: .fh :: timeParts)
      [O.upRxEarly p, O.upRxLate p, O.upRxOnTime p, O.rxSeqErrors p] :=
    Leaves.bump _ _ _ (by decide) (List.mem_append_left [O.rxSeqErrors p] hk)
  have hs := Leaves.trans (Leaves.mono hj (fun _ h => h) (by simp)) hu
  refine ⟨SameBut.trans (SameBut.mono hs.1 (by decide)) (SameBut.mono hb.parts (by decide)), ?_, fun h => by rw [hl h]; exact hs⟩
  exact (hb.parts .fh (by decide)).trans rfl

/-- The count of a message by its window. -/
theorem msgDone_counted {dt p n : Nat} {m : IqMsg} {s : State} (hp : p < 24) :
    if (advance s dt).airNow < opensAt n m (advance s dt) then Counted s (msgDone dt p n m s) (O.upRxEarly p) 1
    else if closesAt n m (advance s dt) < (advance s dt).airNow then Counted s (msgDone dt p n m s) (O.upRxLate p) 1
    else Counted s (msgDone dt p n m s) (O.upRxOnTime p) 1 := by
  obtain ⟨k, hk, hb, -, h1, h2, h3⟩ := msgDone_books dt p n m s
  simp only [List.mem_cons, List.not_mem_nil, or_false, O.upRxEarly, O.upRxLate, O.upRxOnTime] at hk
  have hc : Counted s (msgDone dt p n m s) k 1 := by
    refine (hb.obj k ?_).trans (Counted.of_obj ((msgJudged_leaves dt p n m s).2 k ?_) (State.obj_bump_same ..))
    · have hm : (k % 256 == O.expiredOps 0 % 256) = false := by simp only [O.expiredOps, beq_eq_false_iff_ne, ne_eq]; omega
      have hl : [O.expiredAtLs, O.reruns, O.iterations, O.fusedCancelled, O.traceWritten, O.traceLost].contains k = false := by
        simp only [O.expiredAtLs, O.reruns, O.iterations, O.fusedCancelled, O.traceWritten, O.traceLost, List.contains_eq_mem, List.mem_cons,
          List.not_mem_nil, or_false, decide_eq_false_iff_not]
        omega
      have hq : ((List.range 8).any fun p => k == O.partEnable p) = false :=
        List.any_eq_false.mpr fun q hq h => by
          have := beq_iff_eq.mp h
          have := List.mem_range.mp hq
          simp only [O.partEnable] at *
          omega
      rw [bookKey, hm, hl, hq]
      rfl
    · simp only [O.rxSeqErrors, List.mem_cons, List.not_mem_nil, or_false]
      omega
  split
  · next h => rw [← h1 h]; exact hc
  · next h =>
    split
    · next h' => rw [← h2 h h']; exact hc
    · next h' => rw [← h3 h h']; exact hc

/-- A message of a frequency-domain carrier is judged by its sequence and its window. -/
theorem uplaneMessage_judged {dt p n : Nat} {m : IqMsg} {s : State} (hp : p < 24) (hu : s.linkUp p = true) (he : m.eBit = true)
    (hs : m.subseq = 0) (hl : listens s = false ∨ s.nat O.nlSrcPort ≠ p ∨ s.nat O.nlSrcEaxc ≠ m.eaxc)
    (hc : carrierOf s p m.eaxc = some n) (hd : s.obj (O.fhDomain n) ≠ 1) :
    ∃ t, exec (.uplaneMessageRx dt p m) s = .next t
      ∧ Store.find t.fh.rxSeq (n * 2 ^ 16 + m.eaxc) = some ((m.seq + 1) % 256)
      ∧ (if (advance s dt).airNow < windowBase (advance s dt) n m + s.obj (O.ulWinOpen n) * airNs then Counted s t (O.upRxEarly p) 1
         else if windowBase (advance s dt) n m + s.obj (O.ulWinClose n) * airNs < (advance s dt).airNow
         then Counted s t (O.upRxLate p) 1 else Counted s t (O.upRxOnTime p) 1)
      ∧ (14 ≤ m.symbol → Leaves s t (.dict :: .fh :: timeParts) [O.upRxEarly p, O.upRxLate p, O.upRxOnTime p, O.rxSeqErrors p])
      ∧ SameBut s t (.dict :: .fh :: .kiln :: .link :: .pipe :: .sched :: .svc :: timeParts) := by
  have hn : n < 64 := List.mem_range.mp (List.mem_of_find?_eq_some hc)
  obtain ⟨hp1, hp2, hp3⟩ := msgDone_leaves dt p n m s
  refine ⟨msgDone dt p n m s, exec_uplaneMessageRx hp hu he hs hl hc hn hd, ?_, ?_, hp3, hp1⟩
  · rw [hp2]
    exact judgeSeq_next ..
  · have h := msgDone_counted (dt := dt) (n := n) (m := m) (s := s) hp
    rw [opensAt, closesAt] at h
    simp only [State.obj_congr (advance_dict s dt)] at h
    exact h

/-- A message without its E bit is malformed. -/
theorem uplaneMessage_malformed {dt p : Nat} {m : IqMsg} {s : State} (hp : p < 24) (hu : s.linkUp p = true) (he : m.eBit = false) :
    ∃ t, exec (.uplaneMessageRx dt p m) s = .next t ∧ Counted s t (O.rxMalformed p) 1
      ∧ Leaves s t (.dict :: timeParts) [O.rxMalformed p] := by
  refine ⟨(advance s dt).bump (O.rxMalformed p) 1, ?_, Counted.of_obj (State.obj_congr (advance_dict ..) _) (State.obj_bump_same ..),
    Leaves.trans (Leaves.advance s dt (by decide)) (Leaves.bump _ _ _ (by decide) (by simp))⟩
  show execUplaneMessageRx dt p m s = _
  rw [execUplaneMessageRx, if_neg (by omega)]
  dsimp only
  rw [if_neg (by rw [linkUp_advance, hu]; decide), if_pos (by simp [he]), malformed]

/-! ## The rules -/

theorem accepts_length {s : State} {x : Xfer} {key : Nat} {v : Val} {r : ObjRow} (h : Accepts s x key v) (hr : rowOf key = some r) :
    lengthTest r (lengthOf key v) = .ok := by
  obtain ⟨-, ht, -⟩ := h
  unfold writeTests at ht
  rw [hr] at ht
  split at ht
  · exact absurd ht (by decide)
  · split at ht
    · exact absurd ht (by decide)
    · split at ht
      · exact absurd ht (by decide)
      · exact (valueTests_parts (key := key) (v := v) (s := s) ht).2.2

theorem fwdRules_length {s : State} {x : Xfer} {data : Bytes} (h : Accepts s x O.fwdRules (.bytes data)) : data.length ≤ 1536 := by
  have hr : rowOf O.fwdRules = some ⟨"FWD_RULES", 0x4A00, 0x1, 1, 0x01, .blob, .rw, 0, true, [(0, 1536)], 1, 0, .none⟩ := by decide
  have ht := accepts_length h hr
  rw [lengthOf, hr] at ht
  by_contra hlong
  dsimp only [encodeVal, lengthTest, ObjType.size, ObjRow.allows] at ht
  simp at ht
  omega

/-- Rules of whole records with the fields of their table and without a loop are taken (09 R322). -/
theorem actFwdRules_taken {data : Bytes} {s : State} (hl : data.length ≤ 1536) (hw : data.length % 24 = 0)
    (hr : ∀ i < data.length / 24, ruleFields ((data.drop (24 * i)).take 24) = true
      ∧ ¬(bytesAt ((data.drop (24 * i)).take 24) 0 1 < 24
          ∧ bitOf (bytesAt ((data.drop (24 * i)).take 24) 20 4) (bytesAt ((data.drop (24 * i)).take 24) 0 1) = true)) :
    actFwdRules data s = (.ok, s.changeBlob O.fwdRules data) := by
  rw [actFwdRules]
  rw [if_neg (by simp [hw, hl]), if_neg ?_, if_neg ?_]
  · rw [Bool.not_eq_true, List.any_eq_false]
    intro r h
    obtain ⟨i, hi, rfl⟩ := List.mem_map.mp h
    simpa using (hr i (List.mem_range.mp hi)).2
  · rw [Bool.not_eq_true, Bool.not_eq_false', List.all_eq_true]
    intro r h
    obtain ⟨i, hi, rfl⟩ := List.mem_map.mp h
    exact (hr i (List.mem_range.mp hi)).1

theorem fwdRules_written {x : Xfer} {data : Bytes} {s : State} (h : Accepts s x O.fwdRules (.bytes data)) (hw : data.length % 24 = 0)
    (hr : ∀ i < data.length / 24, ruleFields ((data.drop (24 * i)).take 24) = true
      ∧ ¬(bytesAt ((data.drop (24 * i)).take 24) 0 1 < 24
          ∧ bitOf (bytesAt ((data.drop (24 * i)).take 24) 20 4) (bytesAt ((data.drop (24 * i)).take 24) 0 1) = true)) :
    ∃ t, exec (.writeFwdRules x data) s = .next t ∧ t.blob O.fwdRules = data
      ∧ Answers s t x O.fwdRules (.bytes data) .ok [.blobs] [O.changeCount] := by
  obtain ⟨hans, hsame, -⟩ := hostWrite_does (ps := [.blobs]) (ks := [O.changeCount]) h
    (actFwdRules_taken (s := atWrite s x O.fwdRules (.bytes data)) (fwdRules_length h) hw hr)
    (Leaves.changeBlob _ _ _ (by decide) (by decide) (by simp)) (by decide)
  refine ⟨_, rfl, ?_, hans⟩
  have hb : (hostWrite x O.fwdRules (.bytes data) (actFwdRules data) s).blobs
      = ((atWrite s x O.fwdRules (.bytes data)).changeBlob O.fwdRules data).blobs := hsame .blobs (by decide)
  rw [State.blob, hb, ← State.blob, changeBlob_blob]

end Sys2Proof.Machine
open Sys2Proof Sys2Proof.Machine Sys2Proof.Safety

/-- Settles O27: a frame that a port hears is counted, and forwarded or dropped; a message is judged by its sequence and its window; the rules
are taken. -/
theorem portMessages : Obligations.PortMessages := by
  unfold Obligations.PortMessages
  refine ⟨fun dt p f s hp hu hf hc => ?_, fun dt p q f r s hp hq hne hu hf hc hm hd hd' hptp hev he hr hmask he' hl =>
    frameRx_forwarded hp hq hne hu hf hc hm hd hd' hptp hev he hr hmask he' hl,
    fun dt p f s hp hu hf hc hm hd hd' hptp he => ?_,
    fun dt p n m s hp hu he hs hl hc hd => uplaneMessage_judged hp hu he hs hl hc hd,
    fun dt p m s hp hu he => uplaneMessage_malformed hp hu he, fun x data s h hw hr => fwdRules_written h hw hr⟩
  · exact frameRx_broken hp hu hf hc
  · exact frameRx_unforwarded hp hu hf hc hm hd hd' hptp he
end

section
/-! SUPPORT. An injected loss of a module, of which the messages in flight are sent again before the write is answered (04 R118; 17 R578). -/
namespace Sys2Proof.Machine
open Sys2Proof.Safety

/-- A boot report that module 0 carries and the host has not acknowledged. -/
def flyingReport : Flight := ⟨.bootReport 0 0 0 0 0, 0, 0, 1, [], []⟩

/-- A part that serves a session with both modules up and a message in flight on module 0, whose loss the host is granted to inject. -/
def flyingState : State :=
  { State.reset with
    dict := [(O.bootState, 4), (O.sessionState, 1), (O.injKind, 3), (O.injUnit, 0), (O.debugGrants, 4)].foldl
      (fun d e => Store.put d e.1 e.2) []
    link := { State.reset.link with m0 := ⟨true, none⟩, m1 := ⟨true, none⟩, flight := [flyingReport] } }

/-- A write of channel 0 at once. -/
def writeNow : Xfer := ⟨0, 1⟩

theorem flying_accepts : Accepts flyingState writeNow O.injArm (.num 1) := by
  unfold Accepts
  decide +kernel

theorem flying_granted : bitOf (flyingState.nat O.debugGrants) 2 = true ∧ flyingState.nat O.injKind = 3 ∧ flyingState.nat O.injUnit = 0 := by
  decide +kernel

/-- A lost module beside one in service sends what it had in flight again (04 R118). -/
theorem loseModule_sent {m : Nat} {s : State} (h : m < 2) (hu : (s.link.mod m).up = true) (ho : (s.link.mod (1 - m)).up = true) :
    (loseModule m s).link.sent = s.link.sent ++ (lostFlight m s).map (·.msg) := by
  obtain ⟨-, -, hsent, hflight⟩ := moduleGone_link m s
  have hs : (channelsOver m (moduleGone m s)).link.sent = s.link.sent := hsent
  have hf : (channelsOver m (moduleGone m s)).link.flight = s.link.flight := hflight
  have hc : (channelsOver m (moduleGone m s)).clock = s.clock := (moduleGone_leaves m s).1 .clock (by decide)
  rw [loseModule_other h hu ho, resendFlight_link]
  dsimp only
  rw [lostFlight, hs, hf, hc, ← lostFlight]

/-- A granted injection of the loss of module 0, where both serve. -/
theorem actInjArm_module {s : State} (hg : bitOf (s.nat O.debugGrants) 2 = true) (hk : s.nat O.injKind = 3) (hu : s.nat O.injUnit = 0)
    (h0 : s.link.m0.up = true) (h1 : s.link.m1.up = true) : (actInjArm s).2.link.sent = s.link.sent ++ (lostFlight 0 s).map (·.msg) := by
  have hi : inject 3 0 s = loseModule 0 (noteInjected 3 0 s) := if_pos h0
  have ha : actInjArm s = (.ok, ((inject 3 0 s).bump O.injCount 1).setObj O.injStatus 1) := by
    rw [actInjArm, hk, hu]
    rw [injAllowedOf, if_neg (by rw [hg]; decide), if_neg (by decide), if_neg (by simp)]
  rw [ha, hi]
  exact loseModule_sent (s := noteInjected 3 0 s) (by decide) h0 h1

/-- Where the write acts. -/
def flyingAt : State := atWrite flyingState writeNow O.injArm (.num 1)

theorem flyingAt_link : flyingAt.link = flyingState.link ∧ flyingAt.clock.ticks = 0 ∧ flyingAt.dict = flyingState.dict := by decide +kernel

theorem flyingAt_lost : lostFlight 0 flyingAt = [flyingReport] := by
  obtain ⟨hl, ht, -⟩ := flyingAt_link
  have hf : flyingState.link.flight = [flyingReport] := by decide +kernel
  have ha : flyingReport.acked 0 = false := decide_eq_false (by have h : flyingReport.sentAt = 1 := rfl; omega)
  rw [lostFlight, hl, ht, hf, List.filter_cons_of_pos (by rw [ha]; decide), List.filter_nil]

/-- The message in flight goes out again, and then the reply. -/
theorem flying_sends_two : (hostWrite writeNow O.injArm (.num 1) actInjArm flyingState).link.sent.length = 2 := by
  obtain ⟨hg, hk, hu⟩ := flying_granted
  obtain ⟨hl, -, hd⟩ := flyingAt_link
  have hn (k : Nat) : flyingAt.nat k = flyingState.nat k := by rw [State.nat, State.obj_congr hd, State.nat]
  have hsent := actInjArm_module (s := flyingAt) (by rw [hn, hg]) (by rw [hn, hk]) (by rw [hn, hu]) (by rw [hl]; decide) (by rw [hl]; decide)
  rw [hostWrite_served _ _ _ _ _ flying_accepts, replyWrite_link_sent, ← flyingAt, hsent, flyingAt_lost, hl]
  decide

theorem replied_length {s t : State} {x : Xfer} {key : Nat} {v : Val} {r : Reason} (h : Replied s t x key v r) :
    t.link.sent.length = s.link.sent.length + 1 := by
  rw [h, List.length_append, List.length_singleton]

end Sys2Proof.Machine
open Sys2Proof Sys2Proof.Machine Sys2Proof.Safety

/-- Refutes O50: an injected loss of a module (kind 3) sends the module's messages in flight again on the other, so that the reply to INJ_ARM
is not the one message that the write adds to those sent. -/
theorem not_faultsAndInjection : ¬ Obligations.FaultsAndInjection := by
  unfold Obligations.FaultsAndInjection
  intro h
  obtain ⟨-, -, -, -, -, -, harm, -⟩ := h
  obtain ⟨t, ht, hcond⟩ := harm writeNow flyingState flying_accepts
  obtain ⟨hg, hk, hu⟩ := flying_granted
  rw [if_neg (by rw [hg]; decide), hk, hu, if_neg (by decide), if_neg (by omega)] at hcond
  obtain ⟨hrep, -⟩ := hcond
  have htwo : t.link.sent.length = 2 := by
    obtain rfl := Host.Outcome.next.inj ht
    exact flying_sends_two
  rw [replied_length hrep] at htwo
  exact absurd htwo (by decide)
end

section
/-! SUPPORT. Rings (14 R466, R487 to R490): link faults, the flits that a reversal discards, the fold, the restoration, and the joints. -/
namespace Sys2Proof.Machine
open Sys2Proof.Safety

theorem Leaves.setMortar (s : State) (m : Mortar) {ps : List Part} {ks : List Nat} (h : Part.mortar ∈ ps) :
    Leaves s { s with mortar := m } ps ks :=
  Leaves.of_dict (fun p hp => by cases p <;> simp_all [Part.same]) rfl

theorem Leaves.onMortar (s : State) (f : Mortar → Mortar) {ps : List Part} {ks : List Nat} (h : Part.mortar ∈ ps) :
    Leaves s (s.onMortar f) ps ks := Leaves.setMortar _ _ h

theorem Leaves.setUnits (s : State) (u : Units) {ps : List Part} {ks : List Nat} (h : Part.units ∈ ps) :
    Leaves s { s with units := u } ps ks :=
  Leaves.of_dict (fun p hp => by cases p <;> simp_all [Part.same]) rfl

theorem nat_of_obj {s : State} {k : Nat} {n : Nat} (h : s.obj k = n) : s.nat k = n := by rw [State.nat, h, Int.toNat_natCast]

/-! ## What a packet's way changes of the fabric -/

/-- Of the fabric only what its packets move has changed. -/
def MovesOnly (s t : State) : Prop :=
  t.mortar = { s.mortar with flying := t.mortar.flying, grants := t.mortar.grants, outputs := t.mortar.outputs, cycle := t.mortar.cycle
                             arrived := t.mortar.arrived, meter := t.mortar.meter, last := t.mortar.last }

theorem MovesOnly.refl (s : State) : MovesOnly s s := rfl

theorem MovesOnly.trans {s t u : State} (h1 : MovesOnly s t) (h2 : MovesOnly t u) : MovesOnly s u := by
  rw [MovesOnly, h2, h1]

theorem MovesOnly.reqs {s t : State} (h : MovesOnly s t) : t.mortar.reqs = s.mortar.reqs := by rw [h]

theorem MovesOnly.flits {s t : State} (h : MovesOnly s t) : t.mortar.flits = s.mortar.flits := by rw [h]

theorem MovesOnly.of_mortar {s t : State} (h : t.mortar = s.mortar) : MovesOnly s t := by rw [MovesOnly, h]

/-- A fabric in which a flit has moved. -/
def MortarMoves (m n : Mortar) : Prop :=
  n = { m with flying := n.flying, grants := n.grants, outputs := n.outputs, cycle := n.cycle, arrived := n.arrived, meter := n.meter
               last := n.last }

theorem MortarMoves.trans {m n o : Mortar} (h1 : MortarMoves m n) (h2 : MortarMoves n o) : MortarMoves m o := by
  rw [MortarMoves, h2, h1]

theorem moveFlit_moves (x : Move) (m : Mortar) : MortarMoves m (moveFlit x m) := by
  unfold moveFlit MortarMoves
  dsimp only
  split
  · rfl
  · rfl

theorem foldl_moveFlit_moves (l : List Move) (m : Mortar) : MortarMoves m (l.foldl (fun m x => moveFlit x m) m) := by
  induction l generalizing m with
  | nil => rfl
  | cons x l ih => exact (moveFlit_moves x m).trans (ih _)

theorem MovesOnly.onMortar (s : State) {f : Mortar → Mortar} (h : MortarMoves s.mortar (f s.mortar)) : MovesOnly s (s.onMortar f) := h

theorem fabricCycle_moves (depth : Nat) (s : State) : MovesOnly s (fabricCycle depth s) := by
  unfold fabricCycle
  dsimp only
  refine MovesOnly.trans (t := s.bump O.grantsLost _) (MovesOnly.of_mortar rfl) (MovesOnly.trans (MovesOnly.onMortar _ ?_) (MovesOnly.onMortar _ rfl))
  exact foldl_moveFlit_moves _ _

theorem injectPacket_moves (f : Flit) (n : Nat) (s : State) : MovesOnly s (injectPacket f n s) := by
  unfold injectPacket
  split
  · rfl
  · exact MovesOnly.onMortar _ rfl

theorem drainFrom_moves (ring : Nat) : ∀ (k : Nat) (s : State), MovesOnly s (drainFrom ring k s)
  | 0, s => rfl
  | k + 1, s => by
    unfold drainFrom
    split
    · exact (fabricCycle_moves _ s).trans (drainFrom_moves ring k _)
    · rfl

theorem drainRing_moves (ring : Nat) (s : State) : MovesOnly s (drainRing ring s) := by
  unfold drainRing
  dsimp only
  refine MovesOnly.trans (MovesOnly.onMortar s ?_) ((drainFrom_moves ring 2000 _).trans (MovesOnly.onMortar _ ?_)) <;> rfl

theorem injectPacket_leaves_mortar (f : Flit) (n : Nat) (s : State) {ks : List Nat} : Leaves s (injectPacket f n s) [.mortar] ks := by
  unfold injectPacket
  split
  · exact Leaves.refl ..
  · exact Leaves.onMortar _ _ (by decide)

/-! ## Link faults -/

section
variable {ring stop : Nat} {lock : Bool} {s : State}

theorem exec_ringLinkFault (hr : ring < 8) (hs : stop < 48) : exec (.ringLinkFault ring stop lock) s = .next (linkFault ring stop lock s) := by
  show execRingLinkFault ring stop lock s = _
  rw [execRingLinkFault, if_neg (by omega)]

/-- The state in which the first faulty link of a ring begins its reversal. -/
def reversalBegun (ring stop : Nat) (lock : Bool) (s : State) : State :=
  ((s.setObj (O.ringState ring) 1).setObj (O.faultStop ring) stop).onMortar fun m =>
    { m with broken := Store.put m.broken ring (s.clock.ticks, lock), flits := Store.put m.flits ring 0 }

theorem linkFault_whole (h : s.obj (O.ringState ring) = 0) : linkFault ring stop lock s = reversalBegun ring stop lock s := by
  have hn : s.nat (O.ringState ring) = 0 := nat_of_obj h
  simp only [linkFault, hn]
  rfl

theorem ringState_ne_faultStop (ring : Nat) : O.ringState ring ≠ O.faultStop ring := by
  simp only [O.ringState, O.faultStop, ne_eq]
  omega

theorem reversalBegun_shows : (reversalBegun ring stop lock s).obj (O.ringState ring) = 1
    ∧ (reversalBegun ring stop lock s).obj (O.faultStop ring) = stop
    ∧ Store.find (reversalBegun ring stop lock s).mortar.broken ring = some (s.clock.ticks, lock)
    ∧ Leaves s (reversalBegun ring stop lock s) [.dict, .mortar] [O.ringState ring, O.faultStop ring] :=
  ⟨(State.obj_setObj_ne _ _ _ _ (ringState_ne_faultStop ring)).trans (State.obj_setObj_same ..), State.obj_setObj_same ..,
    Store.find_put_same .., Leaves.trans (Leaves.trans (Leaves.setObj _ _ _ (by decide) (by simp)) (Leaves.setObj _ _ _ (by decide) (by simp)))
      (Leaves.onMortar _ _ (by decide))⟩

/-- The state with a second faulty link of a ring. -/
def secondFault (ring stop : Nat) (s : State) : State := { s with units := { s.units with second := Store.put s.units.second ring stop } }

theorem linkFault_reversing (h : s.obj (O.ringState ring) = 1) (hf : s.nat (O.faultStop ring) ≠ stop) :
    linkFault ring stop lock s = secondFault ring stop s := by
  have hn : s.nat (O.ringState ring) = 1 := nat_of_obj h
  simp only [linkFault, hn]
  exact if_neg (by simpa using hf)

/-- The state in which another fault of a folded ring leaves it SPLIT. -/
def ringSplit (ring stop : Nat) (s : State) : State := setCause 5 ((secondFault ring stop s).setObj (O.ringState ring) 3)

theorem linkFault_folded (h : s.obj (O.ringState ring) = 2) (hf : s.nat (O.faultStop ring) ≠ stop) :
    linkFault ring stop lock s = ringSplit ring stop s := by
  have hn : s.nat (O.ringState ring) = 2 := nat_of_obj h
  simp only [linkFault, hn]
  exact if_neg (by simpa using hf)

theorem ringState_ne_faultCauses (hr : ring < 8) : O.ringState ring ≠ O.faultCauses := by
  simp only [O.ringState, O.faultCauses, ne_eq]
  omega

theorem ringSplit_shows (hr : ring < 8) : (ringSplit ring stop s).obj (O.ringState ring) = 3
    ∧ Store.find (ringSplit ring stop s).units.second ring = some stop ∧ bitOf ((ringSplit ring stop s).nat O.faultCauses) 5 = true
    ∧ Leaves s (ringSplit ring stop s) [.dict, .units] [O.ringState ring, O.faultCauses] :=
  ⟨(State.obj_setObj_ne _ _ _ _ (ringState_ne_faultCauses hr)).trans (State.obj_setObj_same ..), Store.find_put_same .., bitOf_setCause ..,
    Leaves.trans (Leaves.trans (Leaves.setUnits _ _ (by decide)) (Leaves.setObj _ _ _ (by decide) (by simp)))
      (Leaves.setCause _ _ (by decide) (by simp))⟩

theorem linkFault_same (h : s.obj (O.ringState ring) = 1 ∨ s.obj (O.ringState ring) = 2) (hf : s.nat (O.faultStop ring) = stop) :
    linkFault ring stop lock s = s := by
  rcases h with h | h
  · have hn : s.nat (O.ringState ring) = 1 := nat_of_obj h
    simp only [linkFault, hn]
    exact if_pos (by simpa using hf)
  · have hn : s.nat (O.ringState ring) = 2 := nat_of_obj h
    simp only [linkFault, hn]
    exact if_pos (by simpa using hf)

theorem linkFault_split (h : s.obj (O.ringState ring) = 3) : linkFault ring stop lock s = s := by
  have hn : s.nat (O.ringState ring) = 3 := nat_of_obj h
  simp only [linkFault, hn]

/-- What a link fault does by the state of its ring (14 R486, R490). -/
theorem ringLinkFault_cases (hr : ring < 8) (hs : stop < 48) :
    (s.obj (O.ringState ring) = 0 → ∃ t, exec (.ringLinkFault ring stop lock) s = .next t ∧ t.obj (O.ringState ring) = 1
      ∧ t.obj (O.faultStop ring) = stop ∧ Store.find t.mortar.broken ring = some (s.clock.ticks, lock)
      ∧ Leaves s t [.dict, .mortar] [O.ringState ring, O.faultStop ring])
    ∧ (s.obj (O.ringState ring) = 2 → s.nat (O.faultStop ring) ≠ stop →
      ∃ t, exec (.ringLinkFault ring stop lock) s = .next t ∧ t.obj (O.ringState ring) = 3 ∧ Store.find t.units.second ring = some stop
        ∧ bitOf (t.nat O.faultCauses) 5 = true ∧ Leaves s t [.dict, .units] [O.ringState ring, O.faultCauses])
    ∧ (s.obj (O.ringState ring) = 1 → s.nat (O.faultStop ring) ≠ stop →
      ∃ t, exec (.ringLinkFault ring stop lock) s = .next t ∧ Store.find t.units.second ring = some stop ∧ Leaves s t [.units] [])
    ∧ ((s.obj (O.ringState ring) = 1 ∨ s.obj (O.ringState ring) = 2) → s.nat (O.faultStop ring) = stop →
      exec (.ringLinkFault ring stop lock) s = .next s)
    ∧ (s.obj (O.ringState ring) = 3 → exec (.ringLinkFault ring stop lock) s = .next s) := by
  refine ⟨fun h => ?_, fun h hf => ?_, fun h hf => ?_, fun h hf => ?_, fun h => ?_⟩
  · exact ⟨_, by rw [exec_ringLinkFault hr hs, linkFault_whole h], reversalBegun_shows⟩
  · exact ⟨_, by rw [exec_ringLinkFault hr hs, linkFault_folded h hf], ringSplit_shows hr⟩
  · exact ⟨secondFault ring stop s, by rw [exec_ringLinkFault hr hs, linkFault_reversing h hf], Store.find_put_same ..,
      Leaves.setUnits _ _ (by decide)⟩
  · rw [exec_ringLinkFault hr hs, linkFault_same h hf]
  · rw [exec_ringLinkFault hr hs, linkFault_split h]
end

/-! ## Reversal -/

theorem notReversing {ring stop flits : Nat} {s : State} (hr : ring < 8) (hs : stop < 48) (h : s.obj (O.ringState ring) ≠ 1) :
    exec (.foldNoticeRx ring stop flits) s = .next s ∧ exec (.reverseHoldExpiry ring) s = .next s := by
  constructor
  · show execFoldNoticeRx ring stop flits s = _
    rw [execFoldNoticeRx, if_neg (by omega), if_neg (by simpa using h)]
  · show execReverseHoldExpiry ring s = _
    rw [execReverseHoldExpiry, if_neg (by omega), if_neg (by simpa using h)]

/-- The state in which a stop of a ring that reverses has discarded and counted its flits. -/
def flitsGone (ring n : Nat) (s : State) : State :=
  (s.bump (O.flitsDiscarded ring) n).onMortar fun m => { m with flits := Store.put m.flits ring (Store.at 0 m.flits ring + n) }

theorem discardFlits_leaves (ring stop : Nat) (s : State) {ks : List Nat} : Leaves s (discardFlits ring stop s).1 [.mortar] ks :=
  Leaves.onMortar _ _ (by decide)

theorem discardFlits_flits (ring stop : Nat) (s : State) : (discardFlits ring stop s).1.mortar.flits = s.mortar.flits := rfl

/-- A fold notice (14 R487). -/
theorem foldNotice_discards {ring stop flits : Nat} {s : State} (hr : ring < 8) (hs : stop < 48) (h : s.obj (O.ringState ring) = 1) :
    ∃ t, exec (.foldNoticeRx ring stop flits) s = .next t ∧ Counted s t (O.flitsDiscarded ring) ((discardFlits ring stop s).2 + flits)
      ∧ Store.at 0 t.mortar.flits ring = Store.at 0 s.mortar.flits ring + ((discardFlits ring stop s).2 + flits)
      ∧ t.mortar.flying = (discardFlits ring stop s).1.mortar.flying ∧ Leaves s t [.dict, .mortar] [O.flitsDiscarded ring] := by
  have hd := discardFlits_leaves ring stop s (ks := [])
  refine ⟨flitsGone ring ((discardFlits ring stop s).2 + flits) (discardFlits ring stop s).1, ?_,
    Counted.of_obj (hd.2 _ List.not_mem_nil) (State.obj_bump_same ..), Store.at_put_same .., rfl,
    Leaves.trans (Leaves.mono hd (by decide) (by simp)) (Leaves.trans (Leaves.bump _ _ _ (by decide) (by simp)) (Leaves.onMortar _ _ (by decide)))⟩
  show execFoldNoticeRx ring stop flits s = _
  rw [execFoldNoticeRx, if_neg (by omega), if_pos (by simpa using h)]
  rfl

/-- The state in which a ring is FOLDED, or SPLIT where a second link failed meanwhile, and its sources have their requests to send again. -/
def ringFolded (ring : Nat) (s : State) : State :=
  ((s.setObj (O.ringState ring) (if (Store.find s.units.second ring).isSome then 3 else 2)).bump (O.requestsResent ring)
    (s.mortar.reqs.filter (Held.onRing ring)).length).onMortar fun m =>
      { m with reqs := m.reqs.map fun h => if h.onRing ring then { h with sentAt := s.clock.ticks, resend := false } else h }

/-- The state in which what a ring's sources hold has been sent again. -/
def ringResent (ring : Nat) (s : State) : State :=
  ((ringFolded ring s).mortar.reqs.filter (Held.onRing ring)).foldl (fun s h => injectPacket h.flit h.count s) (ringFolded ring s)

/-- What the device reports of a reversal. -/
def reversalDetail (ring : Nat) (b : Nat × Bool) (n now : Nat) (s : State) : Bytes :=
  leBytes 1 ring ++ leBytes 1 (s.nat (O.faultStop ring)) ++ leBytes 1 (if b.2 then 1 else 0) ++ leBytes 1 0
    ++ leBytes 4 (Store.at 0 s.mortar.flits ring) ++ leBytes 4 n ++ leBytes 4 (nsOfTicks (now - b.1))

theorem foldRing_eq (ring : Nat) (b : Nat × Bool) (s : State) : foldRing ring b s = setCause 5 (raise (ringResent ring s) (O.ringReversals ring) ring
    (reversalDetail ring b (s.mortar.reqs.filter (Held.onRing ring)).length s.clock.ticks (ringResent ring s)) 0) := rfl

theorem ringFolded_leaves (ring : Nat) (s : State) :
    Leaves s (ringFolded ring s) [.dict, .mortar] [O.ringState ring, O.requestsResent ring] :=
  Leaves.trans (Leaves.trans (Leaves.setObj _ _ _ (by decide) (by simp)) (Leaves.bump _ _ _ (by decide) (by simp))) (Leaves.onMortar _ _ (by decide))

theorem ringResent_steps (ring : Nat) (s : State) : Leaves (ringFolded ring s) (ringResent ring s) [.mortar] []
    ∧ MovesOnly (ringFolded ring s) (ringResent ring s) := by
  constructor
  · exact Leaves.foldl (fun (s : State) (h : Held) => injectPacket h.flit h.count s) _ (fun _ _ _ => injectPacket_leaves_mortar ..) _
  · unfold ringResent
    generalize (ringFolded ring s).mortar.reqs.filter (Held.onRing ring) = l
    generalize ringFolded ring s = u
    induction l generalizing u with
    | nil => exact MovesOnly.refl u
    | cons h l ih => exact (injectPacket_moves ..).trans (ih _)

theorem ringResent_leaves (ring : Nat) (s : State) :
    Leaves s (ringResent ring s) [.dict, .mortar] [O.ringState ring, O.requestsResent ring] :=
  Leaves.trans (ringFolded_leaves ring s) (Leaves.mono (ringResent_steps ring s).1 (by decide) (by simp))

theorem ringResent_reqs (ring : Nat) (s : State) : ∀ h ∈ (ringResent ring s).mortar.reqs, Held.onRing ring h = true →
    h.resend = false ∧ h.sentAt = s.clock.ticks := by
  have hr : (ringResent ring s).mortar.reqs = (ringFolded ring s).mortar.reqs := (ringResent_steps ring s).2.reqs
  rw [hr]
  intro h hin hon
  obtain ⟨g, -, hg⟩ := List.mem_map.mp hin
  by_cases hg' : g.onRing ring = true
  · rw [if_pos hg'] at hg
    subst hg
    exact ⟨rfl, rfl⟩
  · rw [if_neg hg'] at hg
    exact absurd (hg ▸ hon) hg'

theorem ringResent_flits (ring : Nat) (s : State) : (ringResent ring s).mortar.flits = s.mortar.flits := (ringResent_steps ring s).2.flits

theorem ringResent_shows (ring : Nat) (s : State) :
    (ringResent ring s).obj (O.ringState ring) = (if (Store.find s.units.second ring).isSome = true then 3 else 2)
      ∧ Counted s (ringResent ring s) (O.requestsResent ring) (s.mortar.reqs.filter (Held.onRing ring)).length := by
  have ho (k : Nat) : (ringResent ring s).obj k = (ringFolded ring s).obj k := (ringResent_steps ring s).1.2 k List.not_mem_nil
  have hne : O.ringState ring ≠ O.requestsResent ring := by simp only [O.ringState, O.requestsResent, ne_eq]; omega
  exact ⟨(ho _).trans ((State.obj_bump_ne _ _ _ _ hne).trans (State.obj_setObj_same ..)),
    (ho _).trans (Counted.of_obj (State.obj_setObj_ne _ _ _ _ hne.symm) (State.obj_bump_same ..))⟩

/-- The state at the end of a ring's hold, with time passed. -/
def heldSince (ring : Nat) (s : State) : State :=
  advanceTicks s ((Store.at (s.clock.ticks, false) s.mortar.broken ring).1 + ticksOfNs (s.nat O.reverseHold))

theorem heldSince_leaves (ring : Nat) (s : State) {ks : List Nat} : Leaves s (heldSince ring s) timeParts ks := advanceTicks_leaves s _ (by decide)

/-- The state in which a ring's reversal is over and reported. -/
def reversalDone (ring : Nat) (s : State) : State := foldRing ring (Store.at (s.clock.ticks, false) s.mortar.broken ring) (heldSince ring s)

theorem exec_reverseHoldExpiry {ring : Nat} {s : State} (hr : ring < 8) (h : s.obj (O.ringState ring) = 1) :
    exec (.reverseHoldExpiry ring) s = .next (reversalDone ring s) := by
  show execReverseHoldExpiry ring s = _
  rw [execReverseHoldExpiry, if_neg (by omega), if_pos (by simpa using h), reversalDone, heldSince]

theorem foldRing_leaves (ring : Nat) (b : Nat × Bool) (s : State) : Leaves s (foldRing ring b s) [.dict, .link, .mortar]
    [O.ringState ring, O.ringReversals ring, O.requestsResent ring, O.faultCauses, O.indicationsDropped] := by
  rw [foldRing_eq]
  exact Leaves.trans (Leaves.mono (ringResent_leaves ring s) (by decide) (by simp)) (Leaves.trans
    (Leaves.raise _ _ _ _ _ (by decide) (by decide) (by simp) (by simp)) (Leaves.setCause _ _ (by decide) (by simp)))

/-- What raising the report of a reversal leaves. -/
theorem foldRing_obj {ring : Nat} (b : Nat × Bool) (s : State) {k : Nat} (h1 : k ≠ O.ringReversals ring) (h2 : k ≠ O.indicationsDropped)
    (h3 : k ≠ O.faultCauses) : (foldRing ring b s).obj k = (ringResent ring s).obj k := by
  rw [foldRing_eq]
  exact (State.obj_setObj_ne _ _ _ _ h3).trans (State.obj_raise_ne _ _ _ _ _ _ h1 h2)

theorem foldRing_mortar (ring : Nat) (b : Nat × Bool) (s : State) : (foldRing ring b s).mortar = (ringResent ring s).mortar := by
  rw [foldRing_eq]
  exact (Leaves.trans (Leaves.raise (ps := [.dict, .link]) (ks := [O.ringReversals ring, O.indicationsDropped, O.faultCauses]) _ _ _ _ _ (by decide)
    (by decide) (by simp) (by simp)) (Leaves.setCause _ _ (by decide) (by simp))).1 .mortar (by decide)

theorem foldRing_reversals {ring : Nat} (b : Nat × Bool) (s : State) (hr : ring < 8) :
    Counted s (foldRing ring b s) (O.ringReversals ring) 1
      ∧ Indicates s (foldRing ring b s) (O.ringReversals ring) ring
        (reversalDetail ring b (s.mortar.reqs.filter (Held.onRing ring)).length s.clock.ticks (ringResent ring s)) 0 := by
  have hl := ringResent_leaves ring s
  have hw : (ringResent ring s).link = s.link := hl.1 .link (by decide)
  have hk : (ringResent ring s).obj (O.ringReversals ring) = s.obj (O.ringReversals ring) :=
    hl.2 _ (by simp only [O.ringReversals, O.ringState, O.requestsResent, List.mem_cons, List.not_mem_nil, or_false]; omega)
  have hc := raise_counted (ringResent ring s) (O.ringReversals ring) ring
    (reversalDetail ring b (s.mortar.reqs.filter (Held.onRing ring)).length s.clock.ticks (ringResent ring s)) 0
    (by simp only [O.ringReversals, O.indicationsDropped, ne_eq]; omega)
  have hi := raise_indicates (ringResent ring s) (O.ringReversals ring) ring
    (reversalDetail ring b (s.mortar.reqs.filter (Held.onRing ring)).length s.clock.ticks (ringResent ring s)) 0
  rw [foldRing_eq]
  refine ⟨(State.obj_setObj_ne _ _ _ _ ?_).trans (Counted.of_obj hk hc), fun hs => hi (by rw [hw]; exact hs)⟩
  simp only [O.ringReversals, O.faultCauses, ne_eq]
  omega

theorem foldRing_shows {ring : Nat} (b : Nat × Bool) (s : State) (hr : ring < 8) :
    (foldRing ring b s).obj (O.ringState ring) = (if (Store.find s.units.second ring).isSome = true then 3 else 2)
      ∧ Counted s (foldRing ring b s) (O.requestsResent ring) (s.mortar.reqs.filter (Held.onRing ring)).length
      ∧ ∀ h ∈ (foldRing ring b s).mortar.reqs, Held.onRing ring h = true → h.resend = false ∧ h.sentAt = s.clock.ticks := by
  obtain ⟨h1, h2⟩ := ringResent_shows ring s
  refine ⟨(foldRing_obj b s ?_ ?_ ?_).trans h1, (foldRing_obj b s ?_ ?_ ?_).trans h2, ?_⟩
  · simp only [O.ringReversals, O.ringState, ne_eq]; omega
  · simp only [O.indicationsDropped, O.ringState, ne_eq]; omega
  · simp only [O.faultCauses, O.ringState, ne_eq]; omega
  · simp only [O.ringReversals, O.requestsResent, ne_eq]; omega
  · simp only [O.indicationsDropped, O.requestsResent, ne_eq]; omega
  · simp only [O.faultCauses, O.requestsResent, ne_eq]; omega
  · rw [foldRing_mortar]
    exact ringResent_reqs ring s

/-- The detail names the link and what was discarded by the state before. -/
theorem reversalDetail_congr {ring : Nat} {b : Nat × Bool} {n now : Nat} {s t : State} (hf : t.obj (O.faultStop ring) = s.obj (O.faultStop ring))
    (hm : t.mortar.flits = s.mortar.flits) : reversalDetail ring b n now t = reversalDetail ring b n now s := by
  rw [reversalDetail, State.nat, hf, hm, reversalDetail, State.nat]

theorem reversalDone_leaves (ring : Nat) (s : State) : Leaves s (reversalDone ring s) (.dict :: .link :: .mortar :: timeParts)
    [O.ringState ring, O.ringReversals ring, O.requestsResent ring, O.faultCauses, O.indicationsDropped] :=
  Leaves.trans (Leaves.mono (heldSince_leaves ring s (ks := [])) (by decide) (by simp)) (Leaves.mono (foldRing_leaves ..) (by decide) (fun _ h => h))

theorem reversalDone_ticks (ring : Nat) (s : State) : (reversalDone ring s).clock.ticks = (heldSince ring s).clock.ticks := by
  have hc : (reversalDone ring s).clock = (heldSince ring s).clock := (foldRing_leaves ring _ (heldSince ring s)).1 .clock (by decide)
  rw [hc]

/-- The end of a ring's hold (14 R487, R489, Table 14-11). -/
theorem reverseHold_ends {ring : Nat} {s : State} (hr : ring < 8) (h : s.obj (O.ringState ring) = 1) :
    ∃ t, exec (.reverseHoldExpiry ring) s = .next t
      ∧ t.obj (O.ringState ring) = (if (Store.find s.units.second ring).isSome = true then 3 else 2)
      ∧ Counted s t (O.ringReversals ring) 1
      ∧ Counted s t (O.requestsResent ring) (s.mortar.reqs.filter (Held.onRing ring)).length
      ∧ (∀ h ∈ t.mortar.reqs, Held.onRing ring h = true → h.resend = false ∧ h.sentAt = t.clock.ticks)
      ∧ (Store.at (s.clock.ticks, false) s.mortar.broken ring).1 + ticksOfNs (s.nat O.reverseHold) ≤ t.clock.ticks
      ∧ Indicates s t (O.ringReversals ring) ring (leBytes 1 ring ++ leBytes 1 (s.nat (O.faultStop ring))
          ++ leBytes 1 (if (Store.at (s.clock.ticks, false) s.mortar.broken ring).2 = true then 1 else 0) ++ leBytes 1 0
          ++ leBytes 4 (Store.at 0 s.mortar.flits ring) ++ leBytes 4 (s.mortar.reqs.filter (Held.onRing ring)).length
          ++ leBytes 4 (nsOfTicks (t.clock.ticks - (Store.at (s.clock.ticks, false) s.mortar.broken ring).1))) 0
      ∧ Leaves s t (.dict :: .link :: .mortar :: timeParts)
          [O.ringState ring, O.ringReversals ring, O.requestsResent ring, O.faultCauses, O.indicationsDropped] := by
  have hl := heldSince_leaves ring s (ks := [])
  have hm : (heldSince ring s).mortar = s.mortar := hl.1 .mortar (by decide)
  have hu : (heldSince ring s).units = s.units := hl.1 .units (by decide)
  have hk : (heldSince ring s).link = s.link := hl.1 .link (by decide)
  have ho (k : Nat) : (heldSince ring s).obj k = s.obj k := hl.2 k List.not_mem_nil
  obtain ⟨h1, h2, h3⟩ := foldRing_shows (Store.at (s.clock.ticks, false) s.mortar.broken ring) (heldSince ring s) hr
  obtain ⟨h4, h5⟩ := foldRing_reversals (Store.at (s.clock.ticks, false) s.mortar.broken ring) (heldSince ring s) hr
  have hd (n now : Nat) : reversalDetail ring (Store.at (s.clock.ticks, false) s.mortar.broken ring) n now (ringResent ring (heldSince ring s))
      = reversalDetail ring (Store.at (s.clock.ticks, false) s.mortar.broken ring) n now s := by
    refine reversalDetail_congr (((ringResent_leaves ring (heldSince ring s)).2 _ ?_).trans (ho _)) ((ringResent_flits ..).trans (by rw [hm]))
    simp only [O.ringState, O.faultStop, O.requestsResent, List.mem_cons, List.not_mem_nil, or_false]
    omega
  rw [hm] at h2 h5
  rw [hd] at h5
  rw [hu] at h1
  refine ⟨reversalDone ring s, exec_reverseHoldExpiry hr h, h1, Counted.of_obj (ho _) h4, Counted.of_obj (ho _) h2, ?_, ?_, ?_,
    reversalDone_leaves ring s⟩
  · rw [reversalDone_ticks]
    exact h3
  · rw [reversalDone_ticks]
    exact le_advanceTicks ..
  · rw [reversalDone_ticks, ← reversalDetail]
    exact fun hs => h5 (by rw [hk]; exact hs)

/-! ## Restoration, replays and joints -/

/-- The state in which a FOLDED ring is WHOLE again. -/
def ringWhole (ring : Nat) (s : State) : State :=
  (((drainRing ring s).setObj (O.ringState ring) 0).setObj (O.faultStop ring) 0xFF).onMortar fun m => { m with broken := Store.drop m.broken ring }

/-- The state in which a SPLIT ring is FOLDED at its other link. -/
def ringRefolded (ring g : Nat) (s : State) : State :=
  { (s.setObj (O.ringState ring) 2).setObj (O.faultStop ring) g with units := { s.units with second := Store.drop s.units.second ring } }

theorem exec_ringRestore_folded {ring : Nat} {s : State} (hr : ring < 8) (h : s.obj (O.ringState ring) = 2) :
    exec (.ringRestore ring) s = .next (ringWhole ring s) := by
  have hn : s.nat (O.ringState ring) = 2 := nat_of_obj h
  show execRingRestore ring s = _
  rw [execRingRestore, if_neg (by omega)]
  simp only [hn]
  rfl

theorem exec_ringRestore_split {ring g : Nat} {s : State} (hr : ring < 8) (h : s.obj (O.ringState ring) = 3)
    (hg : Store.find s.units.second ring = some g) : exec (.ringRestore ring) s = .next (ringRefolded ring g s) := by
  have hn : s.nat (O.ringState ring) = 3 := nat_of_obj h
  have ha : Store.at 0 s.units.second ring = g := by rw [Store.at, hg, Option.getD_some]
  show execRingRestore ring s = _
  rw [execRingRestore, if_neg (by omega)]
  simp only [hn, ha]
  rfl

theorem exec_ringRestore_none {ring : Nat} {s : State} (hr : ring < 8) (h : s.nat (O.ringState ring) < 2) :
    exec (.ringRestore ring) s = .next s := by
  show execRingRestore ring s = _
  rw [execRingRestore, if_neg (by omega)]
  split
  · omega
  · omega
  · rfl

theorem ringWhole_shows (ring : Nat) (s : State) : (ringWhole ring s).obj (O.ringState ring) = 0
    ∧ (ringWhole ring s).obj (O.faultStop ring) = 0xFF ∧ (ringWhole ring s).mortar.reqs = s.mortar.reqs
    ∧ Leaves s (ringWhole ring s) [.dict, .mortar] [O.ringState ring, O.faultStop ring, O.grantsLost] :=
  ⟨(State.obj_setObj_ne _ _ _ _ (ringState_ne_faultStop ring)).trans (State.obj_setObj_same ..), State.obj_setObj_same ..,
    (drainRing_moves ring s).reqs, Leaves.trans (Leaves.mono (drainRing_leaves ring s) (by decide) (by simp))
      (Leaves.trans (Leaves.trans (Leaves.setObj _ _ _ (by decide) (by simp)) (Leaves.setObj _ _ _ (by decide) (by simp)))
        (Leaves.onMortar _ _ (by decide)))⟩

theorem ringRefolded_shows (ring g : Nat) (s : State) : (ringRefolded ring g s).obj (O.ringState ring) = 2
    ∧ (ringRefolded ring g s).obj (O.faultStop ring) = g
    ∧ (Store.rising s.units.second = true → Store.find (ringRefolded ring g s).units.second ring = none)
    ∧ Leaves s (ringRefolded ring g s) [.dict, .units] [O.ringState ring, O.faultStop ring] :=
  ⟨(State.obj_setObj_ne _ _ _ _ (ringState_ne_faultStop ring)).trans (State.obj_setObj_same ..), State.obj_setObj_same ..,
    fun _ => Store.find_drop_same .., Leaves.trans (Leaves.trans (Leaves.setObj _ _ _ (by decide) (by simp))
      (Leaves.setObj _ _ _ (by decide) (by simp))) (Leaves.setUnits _ _ (by decide))⟩

theorem linkReplay_counts {ring : Nat} {s : State} (hr : ring < 8) : ∃ t, exec (.linkReplay ring) s = .next t
    ∧ Counted s t (O.linkReplays ring) 1 ∧ Leaves s t [.dict] [O.linkReplays ring] := by
  refine ⟨s.bump (O.linkReplays ring) 1, ?_, State.obj_bump_same .., Leaves.bump _ _ _ (by decide) (by simp)⟩
  show execLinkReplay ring s = _
  rw [execLinkReplay, if_neg (by omega)]

/-- The state in which a path of a joint is out of service. -/
def jointPathDown (k : Nat) (s : State) : State :=
  (s.bump O.jointPathsDown 1).onMortar fun m => { m with joints := Store.put m.joints k (Store.at 0 s.mortar.joints k + 1) }

theorem jointPath_fails {ring stop : Nat} {s : State} (hr : ring < 8) (hs : stop < 48) :
    ∃ t, exec (.jointPathFault ring stop) s = .next t
        ∧ (if Store.at 0 s.mortar.joints (ring * 48 + stop) < 2
           then Counted s t O.jointPathsDown 1
             ∧ Store.at 0 t.mortar.joints (ring * 48 + stop) = Store.at 0 s.mortar.joints (ring * 48 + stop) + 1
           else t = s)
        ∧ Leaves s t [.dict, .mortar] [O.jointPathsDown] := by
  have hx : exec (.jointPathFault ring stop) s = if 2 ≤ Store.at 0 s.mortar.joints (ring * 48 + stop) then .next s
      else .next (jointPathDown (ring * 48 + stop) s) := by
    show execJointPathFault ring stop s = _
    rw [execJointPathFault, if_neg (by omega)]
    rfl
  by_cases h : Store.at 0 s.mortar.joints (ring * 48 + stop) < 2
  · refine ⟨jointPathDown (ring * 48 + stop) s, by rw [hx, if_neg (by omega)], ?_, Leaves.trans (Leaves.bump _ _ _ (by decide) (by simp)) (Leaves.onMortar _ _ (by decide))⟩
    rw [if_pos h]
    exact ⟨State.obj_bump_same .., Store.at_put_same ..⟩
  · refine ⟨s, by rw [hx, if_pos (by omega)], ?_, Leaves.refl ..⟩
    rw [if_neg h]

end Sys2Proof.Machine
end

section
/-! SUPPORT. Arbiter tables (14 R478 to R485; 15 R514, R515): writes, commits, decisions and swaps, each arbiter by itself. -/
namespace Sys2Proof.Machine
open Sys2Proof.Safety

/-! ## The tables of an arbiter -/

/-- The arbiters of a kind that have tables of their own. -/
def arbStore (mc : Bool) (s : State) : Store Arb := if mc then s.mortar.mc else s.mortar.arbs

theorem arb_eq (s : State) (mc : Bool) (k : Nat) : s.arb mc k = Store.at Arb.fresh (arbStore mc s) k := rfl

theorem arb_congr {s t : State} (h : t.mortar = s.mortar) (mc : Bool) (k : Nat) : t.arb mc k = s.arb mc k := by rw [State.arb, h, State.arb]

theorem onArb_arb (s : State) (mc : Bool) (k : Nat) (f : Arb → Arb) (j : Nat) :
    (s.onArb mc k f).arb mc j = if j = k then f (s.arb mc k) else s.arb mc j := by
  cases mc <;> split
  · next h => rw [h]; exact Store.at_putD_same ..
  · next h => exact Store.at_putD_ne _ _ _ _ _ _ h
  · next h => rw [h]; exact Store.at_putD_same ..
  · next h => exact Store.at_putD_ne _ _ _ _ _ _ h

theorem onArb_other (s : State) (mc : Bool) (k : Nat) (f : Arb → Arb) (j : Nat) : (s.onArb mc k f).arb (!mc) j = s.arb (!mc) j := by
  cases mc <;> rfl

theorem Leaves.onArb (s : State) (mc : Bool) (k : Nat) (f : Arb → Arb) {ps : List Part} {ks : List Nat} (h : Part.mortar ∈ ps) :
    Leaves s (s.onArb mc k f) ps ks := Leaves.onMortar _ _ h

/-- A change of several arbiters that, made twice, is the same change. -/
theorem foldl_onArb_arb {f : Arb → Arb} (hf : ∀ a, f (f a) = f a) (mc : Bool) (l : List Nat) (s : State) (j : Nat) :
    (l.foldl (fun s k => s.onArb mc k f) s).arb mc j = if j ∈ l then f (s.arb mc j) else s.arb mc j := by
  induction l generalizing s with
  | nil => rw [if_neg List.not_mem_nil]; rfl
  | cons k l ih =>
    rw [List.foldl_cons, ih, onArb_arb]
    by_cases hk : j = k
    · subst hk
      rw [if_pos rfl, hf, ite_self, if_pos List.mem_cons_self]
    · rw [if_neg hk]
      simp only [List.mem_cons, hk, false_or]

theorem foldl_onArb_other (f : Arb → Arb) (mc : Bool) (l : List Nat) (s : State) (j : Nat) :
    (l.foldl (fun s k => s.onArb mc k f) s).arb (!mc) j = s.arb (!mc) j :=
  foldl_proj (fun s => s.arb (!mc) j) (fun k s => onArb_other s mc k f j) l s

theorem foldl_onArb_leaves (f : Arb → Arb) (mc : Bool) (l : List Nat) (s : State) {ks : List Nat} :
    Leaves s (l.foldl (fun s k => s.onArb mc k f) s) [.mortar] ks :=
  Leaves.foldl (fun (s : State) k => s.onArb mc k f) l (fun _ _ _ => Leaves.onArb _ _ _ _ (by decide)) s

theorem selectedArbs_congr {s t : State} (h : ∀ k, t.obj k = s.obj k) (mc : Bool) : selectedArbs mc t = selectedArbs mc s := by
  have hn (k : Nat) : t.nat k = s.nat k := by rw [State.nat, h, State.nat]
  rw [selectedArbs, hn, hn, selectedArbs]

/-! ## Writes -/

/-- A table that is written. -/
def Arb.withBack (b : Bytes) (a : Arb) : Arb := { a with back := b, committed := false, written := true }

theorem Arb.withBack_twice (b : Bytes) (a : Arb) : (a.withBack b).withBack b = a.withBack b := rfl

/-- The state in which a changed table has counted, before it stands in its arbiters. -/
def tableCounted (mc : Bool) (b : Bytes) (s : State) : State :=
  if (selectedArbs mc s).any fun k => (s.arb mc k).back != b then s.bump O.changeCount 1 else s

theorem tableCounted_leaves (mc : Bool) (b : Bytes) (s : State) : Leaves s (tableCounted mc b s) [.dict] [O.changeCount] := by
  unfold tableCounted
  exact Leaves.ite _ (Leaves.bump _ _ _ (by decide) (by simp)) (Leaves.refl ..)

/-- The state in which a table stands in the BACK of every selected arbiter. -/
def tableWritten (mc : Bool) (b : Bytes) (s : State) : State :=
  (selectedArbs mc s).foldl (fun s k => s.onArb mc k (Arb.withBack b)) (tableCounted mc b s)

theorem tableWritten_leaves (mc : Bool) (b : Bytes) (s : State) : Leaves s (tableWritten mc b s) [.dict, .mortar] [O.changeCount] :=
  Leaves.trans (Leaves.mono (tableCounted_leaves ..) (by decide) (fun _ h => h))
    (Leaves.mono (foldl_onArb_leaves (Arb.withBack b) mc _ _ (ks := [])) (by decide) (by simp))

theorem tableWritten_arb (mc : Bool) (b : Bytes) (s : State) (k : Nat) :
    (tableWritten mc b s).arb mc k = (if k ∈ selectedArbs mc s then (s.arb mc k).withBack b else s.arb mc k)
      ∧ (tableWritten mc b s).arb (!mc) k = s.arb (!mc) k := by
  have hm : (tableCounted mc b s).mortar = s.mortar := (tableCounted_leaves mc b s).1 .mortar (by decide)
  rw [tableWritten, foldl_onArb_arb (Arb.withBack_twice b), foldl_onArb_other, arb_congr hm, arb_congr hm]
  exact ⟨rfl, rfl⟩

theorem actArbTable_range {mc : Bool} {b : Bytes} {s : State} (h : 3 < bytesAt b 0 1 ∨ bytesAt b 1 3 ≠ 0) :
    actArbTable mc b s = (.valueRange, s) := by
  rw [actArbTable, if_pos (by simpa using h)]

theorem actArbTable_refused {mc : Bool} {b : Bytes} {s : State} (h0 : bytesAt b 0 1 ≤ 3) (h1 : bytesAt b 1 3 = 0)
    (h : arbTableOk mc (s.nat O.arbSelect % 256) b ≠ true) : actArbTable mc b s = (.arbTable, s) := by
  rw [actArbTable, if_neg (by simp [h0, h1]), if_pos (by simpa using h)]

theorem actArbTable_taken {mc : Bool} {b : Bytes} {s : State} (h0 : bytesAt b 0 1 ≤ 3) (h1 : bytesAt b 1 3 = 0)
    (h : arbTableOk mc (s.nat O.arbSelect % 256) b = true) : actArbTable mc b s = (.ok, tableWritten mc b s) := by
  rw [actArbTable, if_neg (by simp [h0, h1]), if_neg (by rw [h]; decide)]
  rfl

/-- The key of a table write. -/
def tableKey (mc : Bool) : Nat := if mc = true then O.mcArbTable else O.arbTable

theorem exec_writeArbTable (x : Xfer) (mc : Bool) (data : Bytes) (s : State) :
    exec (.writeArbTable x mc data) s = .next (hostWrite x (tableKey mc) (.bytes data) (actArbTable mc data) s) := rfl

theorem arb_of_write {s u t : State} {x : Xfer} {key : Nat} {v : Val} (hsame : SameBut u t [.dict, .link]) (mc : Bool) (k : Nat) :
    t.arb mc k = u.arb mc k ∧ (atWrite s x key v).arb mc k = s.arb mc k := by
  have h1 : t.mortar = u.mortar := hsame .mortar (by decide)
  have h2 : (atWrite s x key v).mortar = s.mortar := atWrite_same s x key v .mortar (by decide)
  exact ⟨arb_congr h1 mc k, arb_congr h2 mc k⟩

theorem arbTable_written {x : Xfer} {mc : Bool} {data : Bytes} {s : State} (h : Accepts s x (tableKey mc) (.bytes data))
    (h0 : bytesAt data 0 1 ≤ 3) (h1 : bytesAt data 1 3 = 0) :
    ∃ t, exec (.writeArbTable x mc data) s = .next t ∧
      if arbTableOk mc (s.nat O.arbSelect % 256) data = true
      then Answers s t x (tableKey mc) (.bytes data) .ok [.mortar] [O.changeCount]
        ∧ (∀ k, t.arb mc k = if k ∈ selectedArbs mc s then { s.arb mc k with back := data, committed := false, written := true }
            else s.arb mc k)
        ∧ ∀ k, t.arb (!mc) k = s.arb (!mc) k
      else Answers s t x (tableKey mc) (.bytes data) .arbTable [] [] := by
  refine ⟨_, exec_writeArbTable .., ?_⟩
  by_cases hok : arbTableOk mc (s.nat O.arbSelect % 256) data = true
  · rw [if_pos hok]
    obtain ⟨hans, hsame, -⟩ := hostWrite_does (ps := [.mortar]) (ks := [O.changeCount]) h
      (actArbTable_taken (s := atWrite s x (tableKey mc) (.bytes data)) h0 h1 (by rw [atWrite_nat]; exact hok))
      (tableWritten_leaves ..) (by decide)
    have hsel : selectedArbs mc (atWrite s x (tableKey mc) (.bytes data)) = selectedArbs mc s := selectedArbs_congr (fun k => atWrite_obj _ _ _ _ k) mc
    refine ⟨hans, fun k => ?_, fun k => ?_⟩
    · obtain ⟨ht, ha⟩ := arb_of_write (s := s) (x := x) (key := tableKey mc) (v := .bytes data) hsame mc k
      rw [ht, (tableWritten_arb ..).1, hsel, ha]
      rfl
    · obtain ⟨ht, ha⟩ := arb_of_write (s := s) (x := x) (key := tableKey mc) (v := .bytes data) hsame (!mc) k
      rw [ht, (tableWritten_arb ..).2, ha]
  · rw [if_neg hok]
    exact (hostWrite_does (ps := []) (ks := []) h
      (actArbTable_refused (s := atWrite s x (tableKey mc) (.bytes data)) h0 h1 (by rw [atWrite_nat]; exact hok)) (Leaves.refl ..) (by decide)).1

theorem arbTable_range {x : Xfer} {mc : Bool} {data : Bytes} {s : State} (h : Accepts s x (tableKey mc) (.bytes data))
    (hr : 3 < bytesAt data 0 1 ∨ bytesAt data 1 3 ≠ 0) :
    ∃ t, exec (.writeArbTable x mc data) s = .next t ∧ Answers s t x (tableKey mc) (.bytes data) .valueRange [] [] :=
  ⟨_, exec_writeArbTable .., (hostWrite_does (ps := []) (ks := []) h (actArbTable_range hr) (Leaves.refl ..) (by decide)).1⟩

/-! ## Commits -/

/-- What a commit makes of an arbiter in a state. -/
def Arb.commitAt (s : State) (a : Arb) : Arb :=
  if s.airRunning = true then { a with committed := true } else ⟨a.back, a.back, false, false, none, s.atsNow⟩

theorem Arb.commitAt_twice (s : State) (a : Arb) : (a.commitAt s).commitAt s = a.commitAt s := by
  by_cases h : s.airRunning = true
  · simp only [commitAt, if_pos h]
  · simp only [commitAt, if_neg h]

theorem airRunning_congr {s t : State} (ho : t.obj O.timeValid = s.obj O.timeValid) (hc : t.clock = s.clock) : t.airRunning = s.airRunning := by
  rw [State.airRunning, ho, hc, State.airRunning]

/-- The state in which the selected arbiters are committed. -/
def tablesCommitted (mc : Bool) (s : State) : State := (selectedArbs mc s).foldl (fun u k => u.onArb mc k (Arb.commitAt s)) s

theorem foldl_congr_of {α : Type} (P : State → Prop) {f g : State → α → State} (hg : ∀ s a, P s → P (g s a)) (h : ∀ s a, P s → f s a = g s a)
    (l : List α) {s : State} (hs : P s) : l.foldl f s = l.foldl g s := by
  induction l generalizing s with
  | nil => rfl
  | cons a l ih => rw [List.foldl_cons, List.foldl_cons, h s a hs, ih (hg s a hs)]

theorem swapArb_commit (s : State) (a : Arb) : swapArb s.atsNow a.back { a with committed := true } = ⟨a.back, a.back, false, false, none, s.atsNow⟩ := by
  rw [swapArb, if_neg (by simp)]

/-- Time and the objects of air do not change as arbiters are committed. -/
theorem actArbCommit_eq (mc : Bool) (s : State) : actArbCommit mc s = (.ok, tablesCommitted mc s) := by
  refine congrArg (Prod.mk Reason.ok) (foldl_congr_of (fun u => u.clock = s.clock ∧ u.dict = s.dict) (g := fun u k => u.onArb mc k (Arb.commitAt s))
    (fun _ _ h => h) (fun u k h => ?_) _ ⟨rfl, rfl⟩)
  obtain ⟨hc, hd⟩ := h
  have hr : u.airRunning = s.airRunning := airRunning_congr (State.obj_congr hd _) hc
  have ha : u.atsNow = s.atsNow := by rw [State.atsNow, hr, State.atsOfCount, hc, State.atsNow, State.atsOfCount]
  refine congrArg (u.onArb mc k) (funext fun a => ?_)
  rw [hr, Arb.commitAt, ha, swapArb_commit]

theorem tablesCommitted_leaves (mc : Bool) (s : State) {ks : List Nat} : Leaves s (tablesCommitted mc s) [.dict, .mortar] ks :=
  Leaves.mono (foldl_onArb_leaves (Arb.commitAt s) mc _ _ (ks := ks)) (by decide) (fun _ h => h)

/-- The key of a commit. -/
def arbCommitKey (mc : Bool) : Nat := if mc = true then O.mcArbCommit else O.arbCommit

theorem arbs_committed {x : Xfer} {mc : Bool} {s : State} (h : Accepts s x (arbCommitKey mc) (.num 1)) :
    ∃ t, exec (.arbCommit x mc) s = .next t
      ∧ Answers s t x (arbCommitKey mc) (.num 1) .ok [.mortar] []
      ∧ ∀ k, t.arb mc k = if k ∈ selectedArbs mc s then
            (if (advance s x.dt).airRunning = true then { s.arb mc k with committed := true }
             else ⟨(s.arb mc k).back, (s.arb mc k).back, false, false, none, (advance s x.dt).atsNow⟩)
          else s.arb mc k := by
  obtain ⟨hans, hsame, -⟩ := hostWrite_does (ps := [.mortar]) (ks := []) (act := actArbCommit mc) h (actArbCommit_eq ..)
    (tablesCommitted_leaves ..) (by decide)
  refine ⟨_, rfl, hans, fun k => ?_⟩
  obtain ⟨ht, ha⟩ := arb_of_write (s := s) (x := x) (key := arbCommitKey mc) (v := .num 1) hsame mc k
  have hsel : selectedArbs mc (atWrite s x (arbCommitKey mc) (.num 1)) = selectedArbs mc s := selectedArbs_congr (fun k => atWrite_obj _ _ _ _ k) mc
  refine ht.trans ?_
  rw [tablesCommitted, foldl_onArb_arb (Arb.commitAt_twice _), hsel, ha, atWrite_num]
  rfl

/-! ## Decisions -/

theorem Counted.add {s t u : State} {k n m : Nat} (h1 : Counted s t k n) (h2 : Counted t u k m) : Counted s u k (n + m) := by
  have ht : t.nat k = (s.nat k + n) % counterTop k := by rw [State.nat, h1, Int.toNat_natCast]
  rw [Counted, h2, ht, Nat.mod_add_mod, Nat.add_assoc]

/-- Whether a decision finds a table that is written and not committed. -/
def Arb.stale (a : Arb) : Bool := a.written && !a.committed

/-- What a decision makes of an arbiter. -/
def Arb.decided (a : Arb) : Arb := if a.committed = true then { a with next := some a.back } else a

theorem Arb.decided_twice (a : Arb) : a.decided.decided = a.decided := by
  by_cases h : a.committed = true
  · simp only [decided, if_pos h]
  · simp only [decided, if_neg h]

/-- The counter of stale tables of a kind. -/
def staleKey (mc : Bool) : Nat := if mc = true then O.staleMcCount else O.staleArbCount

theorem staleKey_ne (mc : Bool) : staleKey mc ≠ O.indicationsDropped := by cases mc <;> decide

theorem staleArb_leaves (mc : Bool) (k : Nat) (b next : Int) (s : State) :
    Leaves s (staleArb mc k b next s) [.dict, .link] [O.staleMcCount, O.staleArbCount, O.indicationsDropped] :=
  Leaves.raise _ _ _ _ _ (by decide) (by decide) (by cases mc <;> decide) (by decide)

theorem staleArb_counted (mc : Bool) (k : Nat) (b next : Int) (s : State) : Counted s (staleArb mc k b next s) (staleKey mc) 1 :=
  raise_counted _ _ _ _ _ (staleKey_ne mc)

section
variable (mc : Bool) (b next : Int)

theorem decideArb_committed {s : State} {k : Nat} (h : (s.arb mc k).committed = true) :
    decideArb mc b next s k = s.onArb mc k fun a => { a with next := some a.back } := if_pos h

theorem decideArb_stale {s : State} {k : Nat} (h : (s.arb mc k).stale = true) : decideArb mc b next s k = staleArb mc k b next s := by
  simp only [Arb.stale, Bool.and_eq_true, Bool.not_eq_true'] at h
  obtain ⟨hw, hc⟩ := h
  exact (if_neg (by rw [hc]; decide)).trans (if_pos hw)

theorem decideArb_other {s : State} {k : Nat} (h : (s.arb mc k).committed ≠ true) (h' : (s.arb mc k).stale ≠ true) :
    decideArb mc b next s k = s := by
  refine (if_neg h).trans (if_neg fun hw => h' ?_)
  rw [Arb.stale, hw, eq_false_of_ne_true h]
  rfl

theorem decideArb_cases (s : State) (k : Nat) :
    ((s.arb mc k).committed = true ∧ decideArb mc b next s k = s.onArb mc k fun a => { a with next := some a.back })
      ∨ ((s.arb mc k).committed = false ∧ (s.arb mc k).stale = true ∧ decideArb mc b next s k = staleArb mc k b next s)
      ∨ ((s.arb mc k).committed = false ∧ (s.arb mc k).stale = false ∧ decideArb mc b next s k = s) := by
  by_cases hc : (s.arb mc k).committed = true
  · exact .inl ⟨hc, decideArb_committed mc b next hc⟩
  · by_cases hs : (s.arb mc k).stale = true
    · exact .inr (.inl ⟨eq_false_of_ne_true hc, hs, decideArb_stale mc b next hs⟩)
    · exact .inr (.inr ⟨eq_false_of_ne_true hc, eq_false_of_ne_true hs, decideArb_other mc b next hc hs⟩)

theorem decideArb_arb (s : State) (k j : Nat) :
    (decideArb mc b next s k).arb mc j = if j = k then (s.arb mc k).decided else s.arb mc j := by
  rcases decideArb_cases mc b next s k with ⟨hc, h⟩ | ⟨hc, -, h⟩ | ⟨hc, -, h⟩
  · rw [h, onArb_arb, Arb.decided, if_pos hc]
  · rw [h, arb_congr ((staleArb_leaves mc k b next s).1 .mortar (by decide)), Arb.decided, if_neg (c := _ = true) (by rw [hc]; decide)]
    split
    · next he => rw [he]
    · rfl
  · rw [h, Arb.decided, if_neg (c := _ = true) (by rw [hc]; decide)]
    split
    · next he => rw [he]
    · rfl

theorem decideArb_leaves (s : State) (k : Nat) :
    Leaves s (decideArb mc b next s k) [.dict, .link, .mortar] [O.staleMcCount, O.staleArbCount, O.indicationsDropped] := by
  rcases decideArb_cases mc b next s k with ⟨-, h⟩ | ⟨-, -, h⟩ | ⟨-, -, h⟩ <;> rw [h]
  · exact Leaves.onArb _ _ _ _ (by decide)
  · exact Leaves.mono (staleArb_leaves ..) (by decide) (fun _ h => h)
  · exact Leaves.refl ..

/-- What some decisions have counted: `n` stale tables, and where there are none nothing of the link. -/
def StaleCounted (s t : State) (n : Nat) : Prop :=
  if n = 0 then t.obj (staleKey mc) = s.obj (staleKey mc) ∧ t.link = s.link else Counted s t (staleKey mc) n

theorem StaleCounted.zero {s t : State} (h1 : t.obj (staleKey mc) = s.obj (staleKey mc)) (h2 : t.link = s.link) : StaleCounted mc s t 0 := by
  rw [StaleCounted, if_pos rfl]
  exact ⟨h1, h2⟩

theorem StaleCounted.trans {s t u : State} {n m : Nat} (h1 : StaleCounted mc s t n) (h2 : StaleCounted mc t u m) : StaleCounted mc s u (n + m) := by
  rw [StaleCounted] at h1 h2 ⊢
  by_cases hn : n = 0
  · rw [if_pos hn] at h1
    obtain ⟨ho, hl⟩ := h1
    subst hn
    rw [Nat.zero_add]
    by_cases hm : m = 0
    · rw [if_pos hm] at h2 ⊢
      exact ⟨h2.1.trans ho, h2.2.trans hl⟩
    · rw [if_neg hm] at h2 ⊢
      exact Counted.of_obj ho h2
  · rw [if_neg hn] at h1
    rw [if_neg (by omega)]
    by_cases hm : m = 0
    · rw [if_pos hm] at h2
      rw [hm, Nat.add_zero, Counted, h2.1]
      exact h1
    · rw [if_neg hm] at h2
      exact Counted.add h1 h2

theorem decideArb_stales (s : State) (k : Nat) :
    StaleCounted mc s (decideArb mc b next s k) (if (s.arb mc k).stale = true then 1 else 0) := by
  rcases decideArb_cases mc b next s k with ⟨hc, h⟩ | ⟨-, hs, h⟩ | ⟨-, hs, h⟩
  · rw [h, if_neg (by rw [Arb.stale, hc]; simp)]
    exact StaleCounted.zero mc rfl rfl
  · rw [h, if_pos hs, StaleCounted, if_neg (by decide)]
    exact staleArb_counted ..
  · rw [h, if_neg (by rw [hs]; decide)]
    exact StaleCounted.zero mc rfl rfl

/-- Every arbiter is decided by itself. -/
theorem foldl_decideArb_arb (l : List Nat) (s : State) (j : Nat) :
    (l.foldl (decideArb mc b next) s).arb mc j = if j ∈ l then (s.arb mc j).decided else s.arb mc j := by
  induction l generalizing s with
  | nil => rw [if_neg List.not_mem_nil]; rfl
  | cons k l ih =>
    rw [List.foldl_cons, ih, decideArb_arb]
    by_cases hk : j = k
    · subst hk
      rw [if_pos rfl, Arb.decided_twice, ite_self, if_pos List.mem_cons_self]
    · rw [if_neg hk]
      simp only [List.mem_cons, hk, false_or]

theorem foldl_decideArb_leaves (l : List Nat) (s : State) :
    Leaves s (l.foldl (decideArb mc b next) s) [.dict, .link, .mortar] [O.staleMcCount, O.staleArbCount, O.indicationsDropped] :=
  Leaves.foldl (decideArb mc b next) l (fun _ _ s => decideArb_leaves mc b next s _) s

theorem foldl_decideArb_stales (l : List Nat) (hl : l.Nodup) (s : State) :
    StaleCounted mc s (l.foldl (decideArb mc b next) s) (l.countP fun k => (s.arb mc k).stale) := by
  induction l generalizing s with
  | nil => exact StaleCounted.zero mc rfl rfl
  | cons k l ih =>
    obtain ⟨hk, hl'⟩ := List.nodup_cons.mp hl
    have hrest : l.countP (fun j => ((decideArb mc b next s k).arb mc j).stale) = l.countP (fun j => (s.arb mc j).stale) := by
      refine List.countP_congr fun j hj => ?_
      rw [decideArb_arb, if_neg fun he => hk (by rw [← he]; exact hj)]
    have h := StaleCounted.trans mc (decideArb_stales mc b next s k) (ih hl' _)
    rw [hrest, Nat.add_comm] at h
    rw [List.foldl_cons, List.countP_cons]
    exact h

end

theorem find_none_of_not_mem {α : Type} {m : Store α} {k : Nat} (h : k ∉ m.map fun e => e.1) : Store.find m k = none := by
  induction m with
  | nil => rfl
  | cons e m ih =>
    simp only [List.map_cons, List.mem_cons, not_or] at h
    rw [Store.find, if_neg (fun he => h.1 he.symm), ih h.2]

theorem find_of_mem_rising {α : Type} {m : Store α} (hr : Store.rising m = true) {k : Nat} {v : α} (h : (k, v) ∈ m) :
    Store.find m k = some v := by
  have hp := (Store.rising_iff m).mp hr
  clear hr
  induction m with
  | nil => exact absurd h List.not_mem_nil
  | cons e m ih =>
    obtain ⟨hlt, hp'⟩ := List.pairwise_cons.mp hp
    rcases List.mem_cons.mp h with rfl | h'
    · rw [Store.find, if_pos rfl]
    · have := hlt _ h'
      rw [Store.find, if_neg (by dsimp only at this; omega), ih h' hp']

theorem nodup_keys {α : Type} {m : Store α} (hr : Store.rising m = true) : (m.map fun e => e.1).Nodup := by
  have hp := (Store.rising_iff m).mp hr
  exact List.pairwise_map.mpr (hp.imp fun h => Nat.ne_of_lt h)

/-- An arbiter without tables of its own has nothing to decide. -/
theorem decided_unlisted {s : State} {mc : Bool} {k : Nat} (h : k ∉ (arbStore mc s).map fun e => e.1) : (s.arb mc k).decided = s.arb mc k := by
  rw [arb_eq, Store.at, find_none_of_not_mem h]
  rfl

/-- The boundary that a decision tests next. -/
def nextBoundary (mc : Bool) (s : State) : Int :=
  swapBoundary (s.nat (if mc = true then O.mcArbSwapPeriod else O.arbSwapPeriod))
    (max (if mc = true then s.mortar.mcTested else s.mortar.arbTested) (s.airNow + arbLead - 1))

/-- The state in which a boundary is being tested. -/
def boundaryTested (mc : Bool) (s : State) : State :=
  (advanceToAir s (nextBoundary mc s - arbLead)).onMortar fun m =>
    if mc then { m with mcTested := nextBoundary mc s } else { m with arbTested := nextBoundary mc s }

/-- The state in which a boundary's decisions are made. -/
def boundaryDecided (mc : Bool) (s : State) : State :=
  ((arbStore mc (boundaryTested mc s)).map fun a => a.1).foldl (decideArb mc (nextBoundary mc s)
    (swapBoundary (s.nat (if mc = true then O.mcArbSwapPeriod else O.arbSwapPeriod)) (nextBoundary mc s))) (boundaryTested mc s)

theorem boundaryTested_leaves (mc : Bool) (s : State) {ks : List Nat} : Leaves s (boundaryTested mc s) (.mortar :: timeParts) ks :=
  Leaves.trans (Leaves.advanceToAir _ _ (by decide)) (Leaves.onMortar _ _ (by decide))

theorem boundaryTested_store (mc : Bool) (s : State) : arbStore mc (boundaryTested mc s) = arbStore mc s := by
  have hm : (advanceToAir s (nextBoundary mc s - arbLead)).mortar = s.mortar :=
    (Leaves.advanceToAir (ps := timeParts) (ks := []) s (nextBoundary mc s - arbLead) (by decide)).1 .mortar (by decide)
  cases mc
  · show (advanceToAir s (nextBoundary false s - arbLead)).mortar.arbs = s.mortar.arbs
    rw [hm]
  · show (advanceToAir s (nextBoundary true s - arbLead)).mortar.mc = s.mortar.mc
    rw [hm]

theorem boundaryTested_tested (mc : Bool) (s : State) :
    (if mc = true then (boundaryTested mc s).mortar.mcTested else (boundaryTested mc s).mortar.arbTested) = nextBoundary mc s := by
  cases mc <;> rfl

theorem exec_arbSwapDecision {mc : Bool} {s : State} (h : s.airRunning = true) :
    exec (.arbSwapDecision mc) s = .next (boundaryDecided mc s) := by
  show execArbSwapDecision mc s = _
  rw [execArbSwapDecision, if_neg (by rw [h]; decide)]
  rfl

theorem boundaryDecided_steps (mc : Bool) (s : State) : Leaves (boundaryTested mc s) (boundaryDecided mc s) [.dict, .link, .mortar]
    [O.staleMcCount, O.staleArbCount, O.indicationsDropped] := foldl_decideArb_leaves ..

theorem boundaryDecided_arb (mc : Bool) (s : State) (k : Nat) : (boundaryDecided mc s).arb mc k = (s.arb mc k).decided := by
  have ha : (boundaryTested mc s).arb mc k = s.arb mc k := by rw [arb_eq, boundaryTested_store, arb_eq]
  rw [boundaryDecided, foldl_decideArb_arb, ha]
  split
  · rfl
  · next h => exact (decided_unlisted (by rw [boundaryTested_store] at h; exact h)).symm

theorem staleArb_tested (mc : Bool) (k : Nat) (b next : Int) (s : State) : (staleArb mc k b next s).mortar = s.mortar :=
  (staleArb_leaves mc k b next s).1 .mortar (by decide)

theorem decideArb_tested (mc : Bool) (b next : Int) (k : Nat) (s : State) :
    (decideArb mc b next s k).mortar.mcTested = s.mortar.mcTested ∧ (decideArb mc b next s k).mortar.arbTested = s.mortar.arbTested := by
  rcases decideArb_cases mc b next s k with ⟨-, h⟩ | ⟨-, -, h⟩ | ⟨-, -, h⟩
  · rw [h]
    cases mc <;> exact ⟨rfl, rfl⟩
  · rw [h, staleArb_tested]
    exact ⟨rfl, rfl⟩
  · rw [h]
    exact ⟨rfl, rfl⟩

theorem boundaryDecided_tested (mc : Bool) (s : State) :
    (if mc = true then (boundaryDecided mc s).mortar.mcTested else (boundaryDecided mc s).mortar.arbTested) = nextBoundary mc s := by
  have h1 : (boundaryDecided mc s).mortar.mcTested = (boundaryTested mc s).mortar.mcTested :=
    foldl_proj (fun s => s.mortar.mcTested) (fun k s => (decideArb_tested ..).1) _ _
  have h2 : (boundaryDecided mc s).mortar.arbTested = (boundaryTested mc s).mortar.arbTested :=
    foldl_proj (fun s => s.mortar.arbTested) (fun k s => (decideArb_tested ..).2) _ _
  rw [h1, h2, boundaryTested_tested]

theorem boundaryDecided_clock (mc : Bool) (s : State) :
    (boundaryDecided mc s).clock = (advanceToAir s (nextBoundary mc s - arbLead)).clock :=
  (boundaryDecided_steps mc s).1 .clock (by decide)

/-- How many listed arbiters a decision finds stale. -/
def staleCount (mc : Bool) (s : State) : Nat := ((arbStore mc s).filter fun a => a.2.stale).length

theorem boundaryDecided_stales {mc : Bool} {s : State} (hr : Store.rising (arbStore mc s) = true) :
    StaleCounted mc s (boundaryDecided mc s) (staleCount mc s) := by
  have hl := boundaryTested_leaves mc s (ks := [])
  have hst := foldl_decideArb_stales mc (nextBoundary mc s)
    (swapBoundary (s.nat (if mc = true then O.mcArbSwapPeriod else O.arbSwapPeriod)) (nextBoundary mc s))
    ((arbStore mc (boundaryTested mc s)).map fun a => a.1) (nodup_keys (by rw [boundaryTested_store]; exact hr)) (boundaryTested mc s)
  rw [← boundaryDecided] at hst
  have hn : ((arbStore mc (boundaryTested mc s)).map fun a => a.1).countP (fun k => ((boundaryTested mc s).arb mc k).stale) = staleCount mc s := by
    rw [staleCount, ← List.countP_eq_length_filter, List.countP_map, boundaryTested_store]
    refine List.countP_congr fun a ha => ?_
    simp only [Function.comp_apply, arb_eq, boundaryTested_store, Store.at, find_of_mem_rising hr ha, Option.getD_some]
  have h := StaleCounted.trans mc (StaleCounted.zero mc (hl.2 _ List.not_mem_nil) (hl.1 .link (by decide))) hst
  rw [hn, Nat.zero_add] at h
  exact h

/-- A decision (14 R483; 15 R515). -/
theorem arbs_decided (mc : Bool) {s : State} (h : s.airRunning = true) :
    ∃ t, exec (.arbSwapDecision mc) s = .next t
      ∧ (∀ k, t.arb mc k = if (s.arb mc k).committed = true then { s.arb mc k with next := some (s.arb mc k).back } else s.arb mc k)
      ∧ (∀ b, b = swapBoundary (s.nat (if mc = true then O.mcArbSwapPeriod else O.arbSwapPeriod))
            (max (if mc = true then s.mortar.mcTested else s.mortar.arbTested) (s.airNow + arbLead - 1)) →
          (if mc = true then t.mortar.mcTested else t.mortar.arbTested) = b ∧ t.clock = (advanceToAir s (b - arbLead)).clock)
      ∧ (∀ n, n = ((if mc = true then s.mortar.mc else s.mortar.arbs).filter fun a => a.2.written && !a.2.committed).length →
          Store.rising (if mc = true then s.mortar.mc else s.mortar.arbs) = true →
          if n = 0 then t.link = s.link else Counted s t (if mc = true then O.staleMcCount else O.staleArbCount) n)
      ∧ Leaves s t (.dict :: .link :: .mortar :: timeParts) [O.staleMcCount, O.staleArbCount, O.indicationsDropped] := by
  refine ⟨boundaryDecided mc s, exec_arbSwapDecision h, boundaryDecided_arb mc s, fun b hb => ?_, fun n hn hr => ?_, ?_⟩
  · rw [← nextBoundary] at hb
    rw [hb]
    exact ⟨boundaryDecided_tested mc s, boundaryDecided_clock mc s⟩
  · have hs := boundaryDecided_stales (mc := mc) (s := s) hr
    have hn' : n = staleCount mc s := hn
    rw [StaleCounted, ← hn'] at hs
    by_cases h0 : n = 0
    · rw [if_pos h0] at hs ⊢
      exact hs.2
    · rw [if_neg h0] at hs ⊢
      exact hs
  · exact Leaves.trans (Leaves.mono (boundaryTested_leaves mc s (ks := [])) (by decide) (by simp))
      (Leaves.mono (boundaryDecided_steps mc s) (by decide) (fun _ h => h))

theorem notRunning {mc : Bool} {s : State} (h : s.airRunning = false) :
    exec (.arbSwapDecision mc) s = .next s ∧ exec .arbPhaseAlign s = .next s := by
  constructor
  · show execArbSwapDecision mc s = _
    rw [execArbSwapDecision, if_pos (by rw [h]; decide)]
  · show execArbPhaseAlign s = _
    rw [execArbPhaseAlign, if_neg (by rw [h]; decide)]

/-! ## Swaps -/

/-- What a swap at a boundary makes of an arbiter. -/
def Arb.swapped (ats : Nat) (a : Arb) : Arb :=
  match a.next with
  | none => a
  | some b => swapArb ats b a

theorem swapArb_decided {ats : Nat} {b : Bytes} {a : Arb} (h : a.next = some b) :
    swapArb ats b a = if a.back = b then ⟨b, b, false, false, none, ats⟩ else { a with front := b, next := none, last := ats } := by
  rw [swapArb, h]
  by_cases hb : a.back = b
  · rw [if_pos hb, if_neg (by simp [hb])]
  · rw [if_neg hb, if_pos (by simp [hb])]

/-- One entry of a swap. -/
def swapEntry (mc : Bool) (ats : Nat) (s : State) (a : Nat × Arb) : State :=
  match a.2.next with
  | some t => s.onArb mc a.1 (swapArb ats t)
  | none => s

theorem swapEntry_leaves (mc : Bool) (ats : Nat) (s : State) (a : Nat × Arb) {ks : List Nat} : Leaves s (swapEntry mc ats s a) [.mortar] ks := by
  unfold swapEntry
  split
  · exact Leaves.onArb _ _ _ _ (by decide)
  · exact Leaves.refl ..

theorem swapEntry_arb (mc : Bool) (ats : Nat) (s : State) (a : Nat × Arb) (h : s.arb mc a.1 = a.2) (j : Nat) :
    (swapEntry mc ats s a).arb mc j = if j = a.1 then (s.arb mc j).swapped ats else s.arb mc j := by
  unfold swapEntry Arb.swapped
  by_cases hj : j = a.1
  · rw [if_pos hj, hj, h]
    split
    · next t ht =>
      rw [onArb_arb, if_pos rfl, h, ht]
    · next ht =>
      rw [h, ht]
  · rw [if_neg hj]
    split
    · rw [onArb_arb, if_neg hj]
    · rfl

/-- Entries of different arbiters are swapped each by itself. -/
theorem foldl_swapEntry_arb (mc : Bool) (ats : Nat) (l : List (Nat × Arb)) (hl : (l.map fun e => e.1).Nodup) (s : State)
    (h : ∀ a ∈ l, s.arb mc a.1 = a.2) (j : Nat) :
    (l.foldl (swapEntry mc ats) s).arb mc j = if j ∈ l.map (fun e => e.1) then (s.arb mc j).swapped ats else s.arb mc j := by
  induction l generalizing s with
  | nil => rw [if_neg (by simp)]; rfl
  | cons a l ih =>
    obtain ⟨ha, hl'⟩ := List.nodup_cons.mp hl
    have hhead := h a List.mem_cons_self
    have hne : ∀ e ∈ l, e.1 ≠ a.1 := fun e he he' => ha (List.mem_map.mpr ⟨e, he, he'⟩)
    rw [List.foldl_cons, ih hl' _ (fun e he => by
      rw [swapEntry_arb _ _ _ _ hhead, if_neg (hne e he)]; exact h e (List.mem_cons_of_mem _ he)), swapEntry_arb _ _ _ _ hhead]
    by_cases hj : j = a.1
    · rw [if_pos hj, if_neg (by rw [hj]; exact ha), if_pos (by rw [hj]; exact List.mem_cons_self)]
    · rw [if_neg hj]
      simp only [List.map_cons, List.mem_cons, hj, false_or]

/-- The boundary that was tested last. -/
def lastBoundary (mc : Bool) (s : State) : Int := if mc = true then s.mortar.mcTested else s.mortar.arbTested

/-- The arbiters that are decided. -/
def decidedArbs (mc : Bool) (s : State) : List (Nat × Arb) := (arbStore mc s).filter fun a => a.2.next.isSome

/-- The state in which the decided tables have become FRONT. -/
def arbsSwapped (mc : Bool) (s : State) : State :=
  (decidedArbs mc s).foldl (swapEntry mc (atsOf (lastBoundary mc s))) (advanceToAir s (lastBoundary mc s))

theorem exec_arbSwap (mc : Bool) (s : State) :
    exec (.arbSwap mc) s = if (decidedArbs mc s).isEmpty = true then .next s else .next (arbsSwapped mc s) := rfl

theorem decidedArbs_any (mc : Bool) (s : State) : (decidedArbs mc s).isEmpty = !(arbStore mc s).any fun a => a.2.next.isSome := by
  rw [decidedArbs, Bool.eq_iff_iff]
  simp [List.filter_eq_nil_iff]

theorem arbsSwapped_arb {mc : Bool} {s : State} (hr : Store.rising (arbStore mc s) = true) (k : Nat) :
    (arbsSwapped mc s).arb mc k = (s.arb mc k).swapped (atsOf (lastBoundary mc s)) := by
  have hm : (advanceToAir s (lastBoundary mc s)).mortar = s.mortar :=
    (Leaves.advanceToAir (ps := timeParts) (ks := []) s (lastBoundary mc s) (by decide)).1 .mortar (by decide)
  have hat : ∀ a ∈ arbStore mc s, s.arb mc a.1 = a.2 := fun a ha => by
    rw [arb_eq, Store.at, find_of_mem_rising hr ha, Option.getD_some]
  have hnd : ((decidedArbs mc s).map fun e => e.1).Nodup := nodup_keys (Store.rising_filter _ _ hr)
  rw [arbsSwapped, foldl_swapEntry_arb mc _ _ hnd _ (fun a ha => by
    rw [arb_congr hm]; exact hat a (List.mem_filter.mp ha).1), arb_congr hm]
  split
  · rfl
  · next hk =>
    have hnone : (s.arb mc k).next = none := by
      by_contra hsome
      refine hk (List.mem_map.mpr ⟨(k, s.arb mc k), List.mem_filter.mpr ⟨?_, Option.isSome_iff_ne_none.mpr hsome⟩, rfl⟩)
      by_cases hin : k ∈ (arbStore mc s).map fun e => e.1
      · obtain ⟨e, he, hek⟩ := List.mem_map.mp hin
        have := hat e he
        rw [hek] at this
        rw [this, ← hek]
        exact he
      · exact absurd (by rw [arb_eq, Store.at, find_none_of_not_mem hin]; rfl) hsome
    rw [Arb.swapped, hnone]

theorem arbsSwapped_leaves (mc : Bool) (s : State) {ks : List Nat} :
    Leaves (advanceToAir s (lastBoundary mc s)) (arbsSwapped mc s) [.mortar] ks :=
  Leaves.foldl (swapEntry mc (atsOf (lastBoundary mc s))) _ (fun _ _ s => swapEntry_leaves _ _ s _) _

/-- Without a decided table the swap changes no table. -/
theorem swapped_undecided {mc : Bool} {s : State} (h : (arbStore mc s).any (fun a => a.2.next.isSome) = false) (ats k : Nat) :
    (s.arb mc k).swapped ats = s.arb mc k := by
  have hnone : (s.arb mc k).next = none := by
    by_cases hin : ∃ v, Store.find (arbStore mc s) k = some v
    · obtain ⟨v, hv⟩ := hin
      have := List.any_eq_false.mp h (k, v) (Store.mem_of_find hv)
      rw [arb_eq, Store.at, hv]
      simpa using this
    · have hn : Store.find (arbStore mc s) k = none := by
        rw [Option.eq_none_iff_forall_ne_some]
        exact fun v hv => hin ⟨v, hv⟩
      rw [arb_eq, Store.at, hn]
      rfl
  rw [Arb.swapped, hnone]

/-- A swap at its boundary (14 R483). -/
theorem arbs_swapped (mc : Bool) {s : State} (hr : Store.rising (arbStore mc s) = true) :
    ∃ t, exec (.arbSwap mc) s = .next t
      ∧ (∀ k, t.arb mc k = (s.arb mc k).swapped (atsOf (lastBoundary mc s)))
      ∧ t.clock = (if (arbStore mc s).any (fun a => a.2.next.isSome) = true then (advanceToAir s (lastBoundary mc s)).clock else s.clock)
      ∧ Leaves s t (.mortar :: timeParts) [] := by
  have hx := exec_arbSwap mc s
  rw [decidedArbs_any] at hx
  by_cases h : (arbStore mc s).any (fun a => a.2.next.isSome) = true
  · have hl := arbsSwapped_leaves mc s (ks := [])
    refine ⟨arbsSwapped mc s, by rw [hx, h, if_neg (by decide)], arbsSwapped_arb hr, ?_,
      Leaves.trans (Leaves.advanceToAir _ _ (by decide)) (Leaves.mono hl (by decide) (fun _ h => h))⟩
    rw [if_pos h]
    exact hl.1 .clock (by decide)
  · have h' := eq_false_of_ne_true h
    refine ⟨s, by rw [hx, h', if_pos (by decide)], fun k => (swapped_undecided h' _ k).symm, ?_, Leaves.refl ..⟩
    rw [if_neg h]

theorem swapped_eq (ats : Nat) (a : Arb) : a.swapped ats = match a.next with
    | none => a
    | some b => if a.back = b then ⟨b, b, false, false, none, ats⟩ else { a with front := b, next := none, last := ats } := by
  unfold Arb.swapped
  split
  · rfl
  · next b hb => exact swapArb_decided hb

/-! ## The phase -/

/-- The next subframe boundary of air time. -/
def nextSubframe (s : State) : Int := (s.airNow / (1000000 * airNs) + 1) * (1000000 * airNs)

theorem phase_aligned {s : State} (h : s.airRunning = true) :
    ∃ t, exec .arbPhaseAlign s = .next t ∧ t.mortar = { s.mortar with phaseAt := t.clock.ticks, phase := s.nat O.arbPhaseOffset,
                                                                       mcPhase := s.nat O.mcArbPhaseOffset }
      ∧ t.clock = (advanceToAir s (nextSubframe s)).clock ∧ Leaves s t (.mortar :: timeParts) [] := by
  have hl := Leaves.advanceToAir (ps := timeParts) (ks := []) s (nextSubframe s) (by decide)
  have hm : (advanceToAir s (nextSubframe s)).mortar = s.mortar := hl.1 .mortar (by decide)
  have hn (k : Nat) : (advanceToAir s (nextSubframe s)).nat k = s.nat k := by rw [State.nat, hl.2 k List.not_mem_nil, State.nat]
  refine ⟨(advanceToAir s (nextSubframe s)).onMortar fun m =>
    { m with phaseAt := (advanceToAir s (nextSubframe s)).clock.ticks, phase := s.nat O.arbPhaseOffset, mcPhase := s.nat O.mcArbPhaseOffset },
    ?_, ?_, rfl, Leaves.trans (Leaves.advanceToAir _ _ (by decide)) (Leaves.onMortar _ _ (by decide))⟩
  · show execArbPhaseAlign s = _
    rw [execArbPhaseAlign, if_pos h]
    dsimp only
    rw [← nextSubframe, hn, hn]
  · rw [State.onMortar, hm]

end Sys2Proof.Machine
open Sys2Proof Sys2Proof.Machine Sys2Proof.Safety

/-- Settles O45: link faults, reversal, fold and restoration by the state of the ring; tables by each selected arbiter. -/
theorem ringsAndArbiters : Obligations.RingsAndArbiters := by
  unfold Obligations.RingsAndArbiters
  refine ⟨fun ring stop lock s hr hs => ringLinkFault_cases hr hs, fun ring stop flits s hr hs h => notReversing hr hs h,
    fun ring stop flits s hr hs h => foldNotice_discards hr hs h, fun ring s hr h => reverseHold_ends hr h, fun ring s hr => ?_,
    fun x mc data s h h0 h1 => arbTable_written h h0 h1, fun x mc data s h hr => arbTable_range h hr, fun x mc s h => arbs_committed h,
    fun mc s h => arbs_decided mc h, fun mc s h => notRunning h, fun mc s hr => ?_, fun s h => phase_aligned h⟩
  · exact ⟨fun h => ⟨_, exec_ringRestore_folded hr h, ringWhole_shows ring s⟩,
      fun g h hg => ⟨_, exec_ringRestore_split hr h hg, ringRefolded_shows ring g s⟩, fun h => exec_ringRestore_none hr h,
      linkReplay_counts hr, fun stop hs => jointPath_fails hr hs⟩
  · obtain ⟨t, ht, ha, hc, hl⟩ := arbs_swapped mc (s := s) hr
    refine ⟨t, ht, fun k => ?_, hc, hl⟩
    rw [ha, swapped_eq]
    rfl
end

section
/-! SUPPORT. A list of retired pages that is longer than one message: its write takes the segment buffer (05 R171; 15 R523). -/
namespace Sys2Proof.Machine
open Sys2Proof.Safety

/-- A list of 257 entries that all name page 0, of 1,028 bytes. -/
def longList : Bytes := List.replicate 1028 0

/-- The first segment of the list. -/
def segmentBuffer : WriteBuffer := ⟨O.retiredPages, 0, 1028, longList.take 1024, 0⟩

/-- A part that serves a session and lists page 0 already, whose segment buffer holds the first 1,024 bytes of the list. -/
def segmentState : State :=
  { State.reset with
    dict := [(O.bootState, 4), (O.sessionState, 1), (O.chPallets 0, 1)].foldl (fun d e => Store.put d e.1 e.2) []
    blobs := [(O.retiredPages, longList)]
    svc := { State.reset.svc with buffer := some segmentBuffer } }

theorem long_length : longList.length = 1028 := List.length_replicate

theorem segment_accepts : Accepts segmentState writeNow O.retiredPages (.bytes longList) := by
  unfold Accepts
  decide +kernel

theorem segment_pages : (pageNumbers longList).all (pageOk segmentState) = true := by decide +kernel

/-- The write takes the buffer. -/
theorem segment_taken :
    (hostWrite writeNow O.retiredPages (.bytes longList) (actRetiredPages longList) segmentState).svc.buffer = none := by decide +kernel

theorem segment_held : segmentState.svc.buffer = some segmentBuffer := rfl

/-- There is a list that is taken with the buffer that held its first segment. -/
theorem segment_case : ∃ (x : Xfer) (data : Bytes) (s : State), Accepts s x O.retiredPages (.bytes data) ∧ data.length = 1028
    ∧ (pageNumbers data).all (pageOk s) = true
    ∧ (hostWrite x O.retiredPages (.bytes data) (actRetiredPages data) s).svc.buffer = none ∧ s.svc.buffer = some segmentBuffer :=
  ⟨writeNow, longList, segmentState, segment_accepts, long_length, segment_pages, segment_taken, segment_held⟩

end Sys2Proof.Machine
open Sys2Proof Sys2Proof.Machine Sys2Proof.Safety

/-- Refutes O47: a list of retired pages longer than one message comes in segments, and its write takes the segment buffer, which the
statement's frame keeps. -/
theorem not_scrubsAndRetirement : ¬ Obligations.ScrubsAndRetirement := by
  unfold Obligations.ScrubsAndRetirement
  intro h
  obtain ⟨-, -, -, -, -, hpages, -⟩ := h
  obtain ⟨x, data, s, hacc, hlen, hok, htaken, hheld⟩ := segment_case
  obtain ⟨t, ht, hcond⟩ := hpages x data s hacc (by omega) (by omega)
  rw [if_pos hok] at hcond
  obtain ⟨-, -, -, hsame⟩ := hcond
  have hsvc : t.svc = s.svc := hsame .svc (by decide)
  obtain rfl := Host.Outcome.next.inj ht
  rw [hsvc, hheld] at htaken
  exact absurd htaken (Option.some_ne_none _)
end

section
/-! SUPPORT. What the errors of the memories change (15 R494 to R497, R516 to R522): their counts, the error log, the buckets and the words that
are known to be bad, and what a write of a line stores. -/
namespace Sys2Proof.Machine
open Sys2Proof.Safety

/-- The objects that errors of the memories may change are none of those that name a state or a size, none of the hod engines', and none of the
scheduler's. -/
def ErrKey (k : Nat) : Prop := k % 256 ≠ 1 ∧ k % 256 ≠ 3 ∧ (k < 0x600000 ∨ 0x604000 ≤ k) ∧ k < 0x6C0000

/-- The parts that then change. -/
def errParts : List Part := [.dict, .freeCtr, .integ, .link]

theorem not_errKey_state {k : Nat} (h : k % 256 = 1) : ¬ErrKey k := fun he => he.1 h

theorem not_errKey_hod {k : Nat} (h : 0x6C0000 ≤ k) : ¬ErrKey k := fun he => by
  have := he.2.2.2
  omega

theorem not_errKey_sched {k : Nat} (h1 : 0x600000 ≤ k) (h2 : k < 0x604000) : ¬ErrKey k := fun he => by
  have := he.2.2.1
  omega

theorem Moves.onInteg {ps : List Part} {K : Nat → Prop} (s : State) (f : Integrity → Integrity) (hp : Part.integ ∈ ps) :
    Moves ps K s (s.onInteg f) :=
  Moves.of_dict (fun p hq => by cases p <;> simp_all [Part.same, State.onInteg]) rfl

theorem regionOf_chan_lt {s : State} {a c : Nat} (h : regionOf s a = .chan c) : c < 16 := by
  unfold regionOf at h
  dsimp only at h
  split at h
  · split at h <;> cases h
  · split at h
    · split at h <;> cases h
    · split at h
      · cases h
      · split at h
        · next hr =>
          simp only [Bool.and_eq_true, decide_eq_true_eq] at hr
          split at h
          · cases h
            omega
          · cases h
        · cases h

section
variable {ps : List Part}

theorem logError_moves (m e r f u a sy b k l p : Nat) (s : State) : Moves errParts ErrKey s (logError m e r f u a sy b k l p s) := by
  unfold logError
  exact Moves.trans (Moves.bump _ _ _ (by decide) ⟨by decide, by decide, by decide, by decide⟩) (Moves.onInteg _ _ (by decide))

theorem recordError_moves (foundBy error : Nat) (e : MemError) (g : Region) (s : State) :
    Moves errParts ErrKey s (recordError foundBy error e g s) := logError_moves ..

theorem countPage_moves (g : Region) (a : Nat) (s : State) : Moves errParts ErrKey s (countPage g a s) := by
  unfold countPage
  split
  · exact Moves.onInteg _ _ (by decide)
  · exact Moves.refl s

theorem advise_moves (page cause regime : Nat) (s : State) : Moves errParts ErrKey s (advise page cause regime s) :=
  Moves.raise _ _ _ _ _ (by decide) (by decide) ⟨by decide, by decide, by decide, by decide⟩ ⟨by decide, by decide, by decide, by decide⟩

theorem feedPage_moves (page : Nat) (s : State) : Moves errParts ErrKey s (feedPage page s) := by
  unfold feedPage
  split
  · exact Moves.onInteg _ _ (by decide)
  · refine Moves.trans (Moves.ite _ (Moves.refl s) ?_) (Moves.onInteg _ _ (by decide))
    split
    · exact Moves.trans (Moves.bump _ _ _ (by decide) ⟨by decide, by decide, by decide, by decide⟩) (Moves.onInteg _ _ (by decide))
    · exact Moves.refl s

theorem judgePage_moves (page : Nat) (s : State) : Moves errParts ErrKey s (judgePage page s) :=
  Moves.ite _ (Moves.trans (advise_moves ..) (Moves.onInteg _ _ (by decide))) (Moves.refl s)

theorem judgeUnit_moves (kind unit limit : Nat) (s : State) : Moves errParts ErrKey s (judgeUnit kind unit limit s) :=
  Moves.ite _ (Moves.trans (Moves.raise _ _ _ _ _ (by decide) (by decide) ⟨by decide, by decide, by decide, by decide⟩ ⟨by decide, by decide, by decide, by decide⟩)
    (Moves.onInteg _ _ (by decide))) (Moves.refl s)

theorem countCorrected_moves {g : Region} (hg : ∀ c, g = .chan c → c < 16) (s : State) : Moves errParts ErrKey s (countCorrected g s) := by
  unfold countCorrected
  split
  · exact Moves.bump _ _ _ (by decide) ⟨by decide, by decide, by decide, by decide⟩
  · next c =>
    have := hg c rfl
    exact Moves.bump _ _ _ (by decide) ⟨by simp only [O.chCe]; omega, by simp only [O.chCe]; omega⟩
  · exact Moves.bump _ _ _ (by decide) ⟨by decide, by decide, by decide, by decide⟩

theorem correctedError_moves (foundBy : Nat) (e : MemError) (s : State) : Moves errParts ErrKey s (correctedError foundBy e s) := by
  have hc := countCorrected_moves (g := regionOf s e.addr) (fun c h => regionOf_chan_lt h) s
  unfold correctedError
  dsimp only
  refine Moves.ite _ ?_ (Moves.ite _ ?_ ?_)
  · exact hc.trans ((Moves.bump _ _ _ (by decide) ⟨by decide, by decide, by decide, by decide⟩).trans ((Moves.onInteg _ _ (by decide)).trans
      ((countPage_moves ..).trans (recordError_moves ..))))
  · exact hc.trans (recordError_moves ..)
  · split
    · exact hc.trans ((Moves.onInteg _ _ (by decide)).trans ((countPage_moves ..).trans ((feedPage_moves ..).trans ((recordError_moves ..).trans
        ((judgeUnit_moves ..).trans (judgePage_moves ..))))))
    · exact hc.trans ((Moves.onInteg _ _ (by decide)).trans ((countPage_moves ..).trans ((recordError_moves ..).trans (judgeUnit_moves ..))))

/-- The word, or for tile memory the byte, that an uncorrectable error makes known as bad. -/
def badWord (e : MemError) (g : Region) : Nat := match g with
  | .tile _ => e.addr
  | _ => e.addr / 8 * 8

/-- The state in which that word is known. -/
def badNoted (e : MemError) (s : State) : State :=
  s.onInteg fun i => { i with poison := if i.poison.contains (badWord e (regionOf s e.addr)) then i.poison
                                        else i.poison ++ [badWord e (regionOf s e.addr)] }

/-- The state in which an uncorrectable error of a region is counted, at a tick. -/
def badCounted (foundBy now : Nat) (g : Region) (s : State) : State := match g with
  | .tile _ => s.bump O.tmUe 1
  | .chan c => (s.bump (O.chUe c) 1).onInteg fun i => if foundBy == 1 then i else
      { i with bursts := Store.put i.bursts c ((Store.at [] i.bursts c).filter (fun t => now < t + tickMs) ++ [now]) }
  | _ => s.bump O.psUe 1

/-- The state in which it is recorded. -/
def badRecorded (foundBy : Nat) (e : MemError) (s : State) : State :=
  recordError foundBy 1 e (regionOf s e.addr) (countPage (regionOf s e.addr) e.addr
    (badCounted foundBy s.clock.ticks (regionOf s e.addr) (badNoted e s)))

theorem uncorrectableError_eq (foundBy : Nat) (e : MemError) (s : State) : uncorrectableError foundBy e s
    = match errorPage e.addr (regionOf s e.addr) with
      | some p => advise p 1 ((badRecorded foundBy e s).nat O.memRegime) (badRecorded foundBy e s)
      | none => badRecorded foundBy e s := rfl

theorem badCounted_moves (foundBy now : Nat) {g : Region} (hg : ∀ c, g = .chan c → c < 16) (s : State) :
    Moves errParts ErrKey s (badCounted foundBy now g s) := by
  unfold badCounted
  split
  · exact Moves.bump _ _ _ (by decide) ⟨by decide, by decide, by decide, by decide⟩
  · next c =>
    have := hg c rfl
    exact Moves.trans (Moves.bump _ _ _ (by decide) ⟨by simp only [O.chUe]; omega, by simp only [O.chUe]; omega⟩) (Moves.onInteg _ _ (by decide))
  · exact Moves.bump _ _ _ (by decide) ⟨by decide, by decide, by decide, by decide⟩

theorem badRecorded_moves (foundBy : Nat) (e : MemError) (s : State) : Moves errParts ErrKey s (badRecorded foundBy e s) :=
  Moves.trans (Moves.onInteg _ _ (by decide)) (Moves.trans (badCounted_moves _ _ (fun _ h => regionOf_chan_lt h) _)
    (Moves.trans (countPage_moves ..) (recordError_moves ..)))

theorem uncorrectableError_moves (foundBy : Nat) (e : MemError) (s : State) : Moves errParts ErrKey s (uncorrectableError foundBy e s) := by
  rw [uncorrectableError_eq]
  split
  · exact (badRecorded_moves ..).trans (advise_moves ..)
  · exact badRecorded_moves ..

theorem noteError_moves (foundBy : Nat) (s : State) (e : MemError) : Moves errParts ErrKey s (noteError foundBy s e) := by
  unfold noteError
  split
  · exact Moves.refl s
  · exact Moves.refl s
  · exact Moves.ite _ (Moves.refl s) (Moves.ite _ (correctedError_moves ..) (uncorrectableError_moves ..))
  · exact Moves.ite _ (correctedError_moves ..) (uncorrectableError_moves ..)

theorem free_moves (s : State) : Moves errParts ErrKey s s.free.2 :=
  Moves.of_dict (fun p hq => by cases p <;> simp_all [Part.same, State.free, errParts]) rfl

theorem metPoisonBy_moves (foundBy a : Nat) (s : State) : Moves errParts ErrKey s (metPoisonBy foundBy a s) := by
  unfold metPoisonBy
  dsimp only
  split
  · exact (free_moves s).trans (Moves.ite _ (Moves.refl _) (uncorrectableError_moves ..))
  · exact (free_moves s).trans (uncorrectableError_moves ..)

theorem metPoison_moves (a : Nat) (s : State) : Moves errParts ErrKey s (metPoison a s) := metPoisonBy_moves ..

theorem healed_moves (l : List Nat) (s : State) : Moves errParts ErrKey s (healed l s) :=
  Moves.onInteg s (fun g => { g with poison := _ }) (by decide)

theorem poisonBytes_moves (l : List Nat) (s : State) : Moves errParts ErrKey s (poisonBytes l s) := Moves.onInteg _ _ (by decide)
end

/-! ## What a line's write stores -/

theorem Moves.setMem {ps : List Part} {K : Nat → Prop} (s : State) (m : List Host.Cell) (hp : Part.mem ∈ ps) : Moves ps K s { s with mem := m } :=
  Moves.of_dict (fun p hq => by cases p <;> simp_all [Part.same]) rfl

theorem writeLine_moves (cells : List Host.Cell) (s : State) : Moves (.mem :: errParts) ErrKey s (writeLine cells s).2 := by
  have hm {u v : State} (h : Moves errParts ErrKey u v) : Moves (.mem :: errParts) ErrKey u v := h.mono (by decide) fun _ h => h
  have hw : Moves (.mem :: errParts) ErrKey s (healed (cells.map fun c => c.1) { s with mem := memPutAll cells s.mem }) :=
    (Moves.setMem s _ (by decide)).trans (hm (healed_moves ..))
  unfold writeLine
  split
  · exact Moves.refl s
  · split
    · exact Moves.refl s
    · split
      · exact Moves.refl s
      · exact Moves.refl s
      · dsimp only
        split
        · exact hw.trans (hm (metPoisonBy_moves ..))
        · exact hw

/-- A write of a line stores nothing outside its cells. -/
theorem writeLine_mem {cells : List Host.Cell} {a : Nat} (h : ∀ e ∈ cells, e.1 ≠ a) (s : State) :
    memByte (writeLine cells s).2.mem a = memByte s.mem a := by
  have hw : memByte (healed (cells.map fun c => c.1) { s with mem := memPutAll cells s.mem }).mem a = memByte s.mem a := memByte_memPutAll h s.mem
  unfold writeLine
  split
  · rfl
  · split
    · rfl
    · split
      · rfl
      · rfl
      · dsimp only
        split
        · exact (congrArg (memByte · a) ((metPoisonBy_moves ..).same .mem (by decide))).trans hw
        · exact hw

end Sys2Proof.Machine
end

section
/-! SUPPORT. The lines that a descriptor moves (16 R531, R536, R537): what they change, and that no byte outside their destinations does. -/
namespace Sys2Proof.Machine
open Sys2Proof.Safety

/-- An address outside the destination of a piece. -/
def outside (p : Piece) (a : Nat) : Prop := a < p.dst ∨ p.dst + p.size ≤ a

/-- What moving lines may change. -/
def lineParts : List Part := .mem :: errParts

theorem storePiece_moves (p : Piece) (data : Bytes) (lost : Bool) (m : Moved) :
    Moves lineParts ErrKey m.state (storePiece p data lost m).state := by
  unfold storePiece
  split
  · dsimp only
    exact (writeLine_moves ..).trans (Moves.ite _ ((poisonBytes_moves ..).mono (by decide) fun _ h => h) (Moves.refl _))
  · exact Moves.refl _

theorem storePiece_mem {p : Piece} {data : Bytes} {a : Nat} (hd : data.length ≤ p.size) (ha : outside p a) (lost : Bool) (m : Moved) :
    memByte (storePiece p data lost m).state.mem a = memByte m.state.mem a := by
  have hw : memByte (writeLine (cellsAt p.dst data) m.state).2.mem a = memByte m.state.mem a := by
    refine writeLine_mem (fun e he => ?_) m.state
    have := cellsAt_range e he
    unfold outside at ha
    omega
  unfold storePiece
  split
  · dsimp only
    split
    · exact hw
    · exact hw
  · rfl

theorem foldl_metPoison_moves (l : List Nat) (s : State) : Moves errParts ErrKey s (l.foldl (fun s a => metPoison a s) s) :=
  Moves.foldl (fun (s : State) a => metPoison a s) l (fun _ _ _ => metPoison_moves ..) s

theorem memBytes_length (m : List Host.Cell) (a n : Nat) : (memBytes m a n).length = n := by rw [memBytes, List.length_map, List.length_range]

theorem copyPiece_moves (p : Piece) (m : Moved) : Moves lineParts ErrKey m.state (copyPiece p m).state := by
  unfold copyPiece
  split
  · exact Moves.refl _
  · exact ((foldl_metPoison_moves _ _).mono (by decide) fun _ h => h).trans (storePiece_moves p _ _ { m with state := _ })

theorem copyPiece_mem {p : Piece} {a : Nat} (ha : outside p a) (m : Moved) : memByte (copyPiece p m).state.mem a = memByte m.state.mem a := by
  unfold copyPiece
  split
  · rfl
  · refine (storePiece_mem (by rw [memBytes_length]) ha _ _).trans ?_
    exact congrArg (memByte · a) ((foldl_metPoison_moves _ _).same .mem (by decide))

/-- One step of a run of pieces. -/
def movePiece (d : Descriptor) (m : Moved) (p : Piece) : Moved :=
  if m.fail.isSome then m
  else if Descriptor.op d = 3 || Descriptor.op d = 4 then storePiece p (Descriptor.fill d p) false m else copyPiece p m

theorem movePieces_eq (d : Descriptor) (l : List Piece) (s : State) : movePieces d l s = l.foldl (movePiece d) ⟨s, 0, 0, none, none⟩ := rfl

theorem movePiece_moves (d : Descriptor) (m : Moved) (p : Piece) : Moves lineParts ErrKey m.state (movePiece d m p).state := by
  unfold movePiece
  split
  · exact Moves.refl _
  · split
    · exact storePiece_moves ..
    · exact copyPiece_moves ..

theorem fill_length (d : Descriptor) (p : Piece) : (Descriptor.fill d p).length = p.size := by
  rw [Descriptor.fill, List.length_map, List.length_range]

theorem movePiece_mem (d : Descriptor) {p : Piece} {a : Nat} (ha : outside p a) (m : Moved) :
    memByte (movePiece d m p).state.mem a = memByte m.state.mem a := by
  unfold movePiece
  split
  · rfl
  · split
    · exact storePiece_mem (by rw [fill_length]) ha _ _
    · exact copyPiece_mem ha m

theorem movePieces_moves (d : Descriptor) (l : List Piece) (s : State) : Moves lineParts ErrKey s (movePieces d l s).state := by
  suffices h : ∀ m : Moved, Moves lineParts ErrKey m.state (l.foldl (movePiece d) m).state from h ⟨s, 0, 0, none, none⟩
  induction l with
  | nil => exact fun m => Moves.refl _
  | cons p l ih => exact fun m => (movePiece_moves d m p).trans (ih _)

theorem movePieces_mem (d : Descriptor) {l : List Piece} {a : Nat} (ha : ∀ p ∈ l, outside p a) (s : State) :
    memByte (movePieces d l s).state.mem a = memByte s.mem a := by
  suffices h : ∀ m : Moved, memByte (l.foldl (movePiece d) m).state.mem a = memByte m.state.mem a from h ⟨s, 0, 0, none, none⟩
  induction l with
  | nil => exact fun m => rfl
  | cons p l ih =>
    obtain ⟨hp, hl⟩ := List.forall_mem_cons.mp ha
    exact fun m => (ih hl _).trans (movePiece_mem d hp m)

end Sys2Proof.Machine
end

section
/-! SUPPORT. Chains of the hod engines (16 R533 to R548): descriptor ends, ends of chains and their signals, halts, and diagnostics. -/
namespace Sys2Proof.Machine
open Sys2Proof.Safety

theorem Leaves.setHod (s : State) (h : Hod) {ps : List Part} {ks : List Nat} (hp : Part.hod ∈ ps) : Leaves s { s with hod := h } ps ks :=
  Leaves.of_dict (fun p hq => by cases p <;> simp_all [Part.same]) rfl

theorem Leaves.onHod (s : State) (f : Hod → Hod) {ps : List Part} {ks : List Nat} (hp : Part.hod ∈ ps) : Leaves s (s.onHod f) ps ks :=
  Leaves.setHod _ _ hp

theorem Leaves.onHodChain (s : State) (unit : Nat) (f : Chain → Chain) {ps : List Part} {ks : List Nat} (hp : Part.hod ∈ ps) :
    Leaves s (s.onHodChain unit f) ps ks := by
  unfold State.onHodChain
  split
  · exact Leaves.onHod _ _ hp
  · exact Leaves.refl ..

theorem onHodChain_find {s : State} {unit : Nat} {c : Chain} (h : Store.find s.hod.chains unit = some c) (f : Chain → Chain) :
    Store.find (s.onHodChain unit f).hod.chains unit = some (f c) := by
  unfold State.onHodChain
  rw [h]
  exact Store.find_put_same ..

theorem onHodChain_same (s : State) (unit : Nat) (f : Chain → Chain) {p : Part} (h : p ≠ .hod) : Part.same s (s.onHodChain unit f) p :=
  (Leaves.onHodChain s unit f (ps := [.hod]) (ks := []) (by decide)).1 p (by simpa using h)

/-! ## Ends of chains -/

/-- The counters of the ends of an engine's chains. -/
def chainEndKeys (e : Nat) : List Nat := [O.chainsEnded e, O.stops e, O.loopEnds e]

theorem countEnd_leaves (e status : Nat) (s : State) : Leaves s (countEnd e status s) [.dict] (chainEndKeys e) := by
  unfold countEnd
  dsimp only
  have h := Leaves.bump (ps := [.dict]) (ks := chainEndKeys e) s (O.chainsEnded e) 1 (by decide) (by simp [chainEndKeys])
  exact Leaves.ite _ (Leaves.trans h (Leaves.bump _ _ _ (by decide) (by simp [chainEndKeys])))
    (Leaves.ite _ (Leaves.trans h (Leaves.bump _ _ _ (by decide) (by simp [chainEndKeys]))) h)

theorem endKeys_distinct (e : Nat) : O.chainsEnded e ≠ O.stops e ∧ O.chainsEnded e ≠ O.loopEnds e := by
  simp only [O.chainsEnded, O.stops, O.loopEnds]
  omega

theorem countEnd_counted (e status : Nat) (s : State) : Counted s (countEnd e status s) (O.chainsEnded e) 1
    ∧ (status = 3 → Counted s (countEnd e status s) (O.stops e) 1) ∧ (status = 1 → Counted s (countEnd e status s) (O.loopEnds e) 1) := by
  obtain ⟨h1, h2⟩ := endKeys_distinct e
  have hb : Counted s (s.bump (O.chainsEnded e) 1) (O.chainsEnded e) 1 := State.obj_bump_same ..
  by_cases h3 : status = 3
  · subst h3
    have hc : countEnd e 3 s = (s.bump (O.chainsEnded e) 1).bump (O.stops e) 1 := rfl
    rw [hc]
    exact ⟨(State.obj_bump_ne _ _ _ _ h1).trans hb, fun _ => Counted.of_obj (State.obj_bump_ne _ _ _ _ h1.symm) (State.obj_bump_same ..), nofun⟩
  · by_cases h4 : status = 1
    · subst h4
      have hc : countEnd e 1 s = (s.bump (O.chainsEnded e) 1).bump (O.loopEnds e) 1 := rfl
      rw [hc]
      exact ⟨(State.obj_bump_ne _ _ _ _ h2).trans hb, nofun, fun _ => Counted.of_obj (State.obj_bump_ne _ _ _ _ h2.symm) (State.obj_bump_same ..)⟩
    · have hc : countEnd e status s = s.bump (O.chainsEnded e) 1 := by
        unfold countEnd
        rw [if_neg (by simpa using h3), if_neg (by simpa using h4)]
      rw [hc]
      exact ⟨hb, fun h => absurd h h3, fun h => absurd h h4⟩

/-- A chain that has ended with a status. -/
def Chain.withEnd (status : Nat) (c : Chain) : Chain := { c with status := some status, ahead := [] }

theorem endChain_leaves (unit status : Nat) (s : State) : Leaves s (endChain unit status s) [.dict, .hod] (chainEndKeys (engineOf unit)) :=
  Leaves.trans (Leaves.onHodChain _ _ _ (by decide)) (Leaves.mono (countEnd_leaves ..) (by decide) (fun _ h => h))

theorem endChain_find {unit status : Nat} {s : State} {c : Chain} (h : Store.find s.hod.chains unit = some c) :
    Store.find (endChain unit status s).hod.chains unit = some (c.withEnd status) := by
  have hh : (endChain unit status s).hod = (s.onHodChain unit fun c => { c with status := some status, ahead := [] }).hod :=
    (countEnd_leaves ..).1 .hod (by decide)
  rw [hh]
  exact onHodChain_find h _

theorem endChain_counted (unit status : Nat) (s : State) : Counted s (endChain unit status s) (O.chainsEnded (engineOf unit)) 1
    ∧ (status = 3 → Counted s (endChain unit status s) (O.stops (engineOf unit)) 1)
    ∧ (status = 1 → Counted s (endChain unit status s) (O.loopEnds (engineOf unit)) 1) := by
  obtain ⟨h1, h2, h3⟩ := countEnd_counted (engineOf unit) status (s.onHodChain unit fun c => { c with status := some status, ahead := [] })
  have ho (k : Nat) : (s.onHodChain unit fun c => { c with status := some status, ahead := [] }).obj k = s.obj k :=
    (Leaves.onHodChain s unit _ (ps := [.hod]) (ks := []) (by decide)).2 k List.not_mem_nil
  exact ⟨Counted.of_obj (ho _) h1, fun h => Counted.of_obj (ho _) (h2 h), fun h => Counted.of_obj (ho _) (h3 h)⟩

theorem engineOf_unit (e : Nat) {k : Nat} (h : k < 16) : engineOf (e * 16 + k) = e := by
  unfold engineOf
  omega

/-! ## A descriptor ends -/

/-- What a run of pieces counts. -/
def linesCounted (e : Nat) (m : Moved) : State := (m.state.bump (O.bytesWritten e) m.written).bump (O.poisonedLines e) m.poisoned

/-- The state in which a descriptor and what it moved are counted. -/
def descCounted (e : Nat) (m : Moved) : State :=
  ((m.state.bump (O.descriptors e) 1).bump (O.bytesWritten e) m.written).bump (O.poisonedLines e) m.poisoned

/-- A chain whose descriptor has run. -/
def Chain.ran (m : Moved) (c : Chain) : Chain := { c.wrote m with hops := c.hops + 1 }

/-- The state in which a chain's descriptor has run, before what follows. -/
def descRun (unit : Nat) (c : Chain) (m : Moved) : State := (descCounted (engineOf unit) m).onHodChain unit fun _ => c.ran m

/-- What follows a descriptor. -/
def descFollowed (unit : Nat) (c : Chain) (s : State) : State :=
  match nextDesc s c with
  | .error status => endChain unit status s
  | .ok p => s.onHodChain unit fun c => c.start s p.1 p.2

theorem finishDesc_eq (unit : Nat) (c : Chain) (m : Moved) : finishDesc unit c m = descFollowed unit (c.ran m) (descRun unit c m) := rfl

theorem descCounted_leaves (e : Nat) (m : Moved) :
    Leaves m.state (descCounted e m) [.dict] [O.descriptors e, O.bytesWritten e, O.poisonedLines e] :=
  Leaves.trans (Leaves.trans (Leaves.bump _ _ _ (by decide) (by simp)) (Leaves.bump _ _ _ (by decide) (by simp)))
    (Leaves.bump _ _ _ (by decide) (by simp))

theorem descCounted_counted (e : Nat) (m : Moved) : Counted m.state (descCounted e m) (O.descriptors e) 1 := by
  have h1 : O.descriptors e ≠ O.bytesWritten e := by simp only [O.descriptors, O.bytesWritten, ne_eq]; omega
  have h2 : O.descriptors e ≠ O.poisonedLines e := by simp only [O.descriptors, O.poisonedLines, ne_eq]; omega
  exact (State.obj_bump_ne _ _ _ _ h2).trans ((State.obj_bump_ne _ _ _ _ h1).trans (State.obj_bump_same ..))

/-- A counter of a hod engine is none of what errors of the memories change. -/
theorem moved_obj (d : Descriptor) (l : List Piece) (s : State) {k : Nat} (h : 0x6C0000 ≤ k) : (movePieces d l s).state.obj k = s.obj k :=
  (movePieces_moves d l s).obj k (not_errKey_hod h)

section
variable {e k : Nat} {c : Chain} {s : State}

/-- What the running descriptor of a chain moves. -/
def movedBy (c : Chain) (s : State) : Moved := movePieces c.cur (Descriptor.pieces c.cur) s

theorem runningChain_found {unit : Nat} (h : runningChain s unit = some c) : Store.find s.hod.chains unit = some c ∧ c.status = none := by
  unfold runningChain at h
  split at h
  · next d hd =>
    split at h
    · next hc =>
      cases h
      simp only [Bool.and_eq_true, Option.isNone_iff_eq_none] at hc
      exact ⟨hd, hc.1⟩
    · cases h
  · cases h

theorem hodUnitOk_of (he : e < 24) (hk : k < 16) : hodUnitOk e k = true := by simp [hodUnitOk, he, hk]

theorem exec_hodDescriptorEnd (he : e < 24) (hk : k < 16) (hr : runningChain s (e * 16 + k) = some c) (hm : (movedBy c s).fail = none) :
    exec (.hodDescriptorEnd e k) s = .next (finishDesc (e * 16 + k) c (movedBy c s)) := by
  show execHodDescriptorEnd e k s = _
  rw [execHodDescriptorEnd]
  dsimp only
  rw [if_neg (by rw [hodUnitOk_of he hk]; decide), hr]
  dsimp only
  rw [← movedBy, if_neg (by rw [hm]; decide)]

theorem movedBy_find {unit : Nat} (h : Store.find s.hod.chains unit = some c) (d : Chain) :
    Store.find (movedBy d s).state.hod.chains unit = some c := by
  have hh : (movedBy d s).state.hod = s.hod := (movePieces_moves d.cur (Descriptor.pieces d.cur) s).same .hod (by decide)
  rw [hh, h]

theorem descRun_find {unit : Nat} (h : Store.find s.hod.chains unit = some c) :
    Store.find (descRun unit c (movedBy c s)).hod.chains unit = some (c.ran (movedBy c s)) := by
  have hh : (descCounted (engineOf unit) (movedBy c s)).hod = (movedBy c s).state.hod := (descCounted_leaves ..).1 .hod (by decide)
  exact onHodChain_find (by rw [hh]; exact movedBy_find h c) _

/-- The step to the state in which the descriptor has run. -/
theorem descRun_steps (unit : Nat) (c : Chain) (s : State) : Leaves (movedBy c s).state (descRun unit c (movedBy c s)) [.dict, .hod]
    [O.descriptors (engineOf unit), O.bytesWritten (engineOf unit), O.poisonedLines (engineOf unit)] :=
  Leaves.trans (Leaves.mono (descCounted_leaves ..) (by decide) (fun _ h => h)) (Leaves.onHodChain _ _ _ (by decide))

theorem descRun_endKeys {unit j : Nat} (hj : j ∈ chainEndKeys (engineOf unit)) : (descRun unit c (movedBy c s)).obj j = s.obj j := by
  simp only [chainEndKeys, O.chainsEnded, O.stops, O.loopEnds, List.mem_cons, List.not_mem_nil, or_false] at hj
  refine ((descRun_steps unit c s).2 j ?_).trans (moved_obj _ _ _ (by omega))
  simp only [O.descriptors, O.bytesWritten, O.poisonedLines, List.mem_cons, List.not_mem_nil, or_false]
  omega

theorem descRun_counted (unit : Nat) : Counted s (descRun unit c (movedBy c s)) (O.descriptors (engineOf unit)) 1 := by
  have h : (descRun unit c (movedBy c s)).obj (O.descriptors (engineOf unit)) = (descCounted (engineOf unit) (movedBy c s)).obj _ :=
    (Leaves.onHodChain (ps := [.hod]) (ks := []) _ unit (fun _ => c.ran (movedBy c s)) (by decide)).2 (O.descriptors (engineOf unit))
      List.not_mem_nil
  exact h.trans (Counted.of_obj (moved_obj _ _ _ (by simp only [O.descriptors]; omega)) (descCounted_counted ..))

theorem chainStop_congr {s t : State} {c d : Chain} (hs : t.sched = s.sched) (h1 : d.stop = c.stop) (h2 : d.user = c.user) (h3 : d.owner = c.owner) :
    chainStop t d = chainStop s c := by
  rw [chainStop, h1, h2, h3, State.op, hs, chainStop, State.op]

theorem descRun_stop (unit : Nat) : chainStop (descRun unit c (movedBy c s)) (c.ran (movedBy c s)) = chainStop s c := by
  have h1 : (movedBy c s).state.sched = s.sched := (movePieces_moves c.cur (Descriptor.pieces c.cur) s).same .sched (by decide)
  have h2 : (descRun unit c (movedBy c s)).sched = (movedBy c s).state.sched := (descRun_steps unit c s).1 .sched (by decide)
  exact chainStop_congr (h2.trans h1) rfl rfl rfl

end

end Sys2Proof.Machine
end

section
/-! SUPPORT. What follows a descriptor that has ended, and an answer that ends a chain (16 R537, R543). -/
namespace Sys2Proof.Machine
open Sys2Proof.Safety

section
variable {s : State} {c : Chain}

theorem nextDesc_stop (h : chainStop s c = true) : nextDesc s c = .error 3 := by rw [nextDesc, if_pos h]

theorem nextDesc_last (h : chainStop s c = false) (hl : Descriptor.chained c.cur = false) : nextDesc s c = .error 0 := by
  rw [nextDesc, if_neg (by rw [h]; decide), if_pos (by rw [hl]; rfl)]

theorem nextDesc_more (h : chainStop s c = false) (hl : Descriptor.chained c.cur = true) : nextDesc s c =
    if c.history.contains (Descriptor.next c.cur) || decide (c.limit ≤ c.hops) then .error 1
    else match c.ahead.find? fun p => p.1 == Descriptor.next c.cur with
      | some p => if Descriptor.malformed p.2 then .error 5 else .ok p
      | none => match fetchDesc s (Descriptor.next c.cur) with
        | .error e => .error e
        | .ok b => if Descriptor.malformed b then .error 5 else .ok (Descriptor.next c.cur, b) := by
  rw [nextDesc, if_neg (by rw [h]; decide), if_neg (by rw [hl]; decide)] <;> rfl

theorem nextDesc_loop (h : chainStop s c = false) (hl : Descriptor.chained c.cur = true)
    (hv : Descriptor.next c.cur ∈ c.history ∨ c.limit ≤ c.hops) : nextDesc s c = .error 1 := by
  rw [nextDesc_more h hl, if_pos (by simpa using hv)]

theorem nextDesc_addr (h : chainStop s c = false) (hl : Descriptor.chained c.cur = true)
    (hv : ¬(Descriptor.next c.cur ∈ c.history ∨ c.limit ≤ c.hops)) {p : Nat × Bytes} (hp : nextDesc s c = .ok p) :
    p.1 = Descriptor.next c.cur := by
  rw [nextDesc_more h hl, if_neg (by simpa using hv)] at hp
  cases ha : c.ahead.find? fun p => p.1 == Descriptor.next c.cur with
  | some q =>
    rw [ha] at hp
    dsimp only at hp
    split at hp
    · cases hp
    · cases hp
      exact eq_of_beq (List.find?_some ha :)
  | none =>
    rw [ha] at hp
    dsimp only at hp
    cases hf : fetchDesc s (Descriptor.next c.cur) with
    | error e => rw [hf] at hp; cases hp
    | ok b =>
      rw [hf] at hp
      dsimp only at hp
      split at hp <;> cases hp
      rfl

end

/-! ## What the chain is afterwards -/

section
variable {s T : State} {D : Chain} {unit : Nat}

theorem descFollowed_error {status : Nat} (h : nextDesc T D = .error status) : descFollowed unit D T = endChain unit status T := by
  rw [descFollowed, h]

theorem descFollowed_ok {p : Nat × Bytes} (h : nextDesc T D = .ok p) :
    descFollowed unit D T = T.onHodChain unit fun c => c.start T p.1 p.2 := by
  rw [descFollowed, h]

theorem descFollowed_leaves (unit : Nat) (D : Chain) (T : State) :
    Leaves T (descFollowed unit D T) [.dict, .hod] (chainEndKeys (engineOf unit)) := by
  cases h : nextDesc T D with
  | error e => rw [descFollowed_error h]; exact endChain_leaves ..
  | ok p => rw [descFollowed_ok h]; exact Leaves.onHodChain _ _ _ (by decide)

/-- The chain goes on: its number of descriptors and of bytes stand, its next address is the one that followed. -/
theorem descFollowed_next {p : Nat × Bytes} (hD : Store.find T.hod.chains unit = some D) (h : nextDesc T D = .ok p) :
    ∃ c', Store.find (descFollowed unit D T).hod.chains unit = some c' ∧ c'.hops = D.hops ∧ c'.written = D.written ∧ c'.addr = p.1
      ∧ (descFollowed unit D T).obj (O.chainsEnded (engineOf unit)) = T.obj (O.chainsEnded (engineOf unit)) := by
  rw [descFollowed_ok h]
  exact ⟨D.start T p.1 p.2, onHodChain_find hD _, rfl, rfl, rfl, (Leaves.onHodChain (ps := [.hod]) (ks := []) T unit _ (by decide)).2 _ List.not_mem_nil⟩

/-- The chain ends with a status. -/
theorem descFollowed_ends {status : Nat} (hD : Store.find T.hod.chains unit = some D) (h : nextDesc T D = .error status) :
    Store.find (descFollowed unit D T).hod.chains unit = some (D.withEnd status)
      ∧ Counted T (descFollowed unit D T) (O.chainsEnded (engineOf unit)) 1
      ∧ (status = 3 → Counted T (descFollowed unit D T) (O.stops (engineOf unit)) 1)
      ∧ (status = 1 → Counted T (descFollowed unit D T) (O.loopEnds (engineOf unit)) 1) := by
  rw [descFollowed_error h]
  exact ⟨endChain_find hD, endChain_counted ..⟩

/-- What becomes of a chain after a descriptor (16 R543). -/
def FollowsAs (s t : State) (e : Nat) (c c' : Chain) (limit : Prop) : Prop :=
  (chainStop s c = true → c'.status = some 3 ∧ Counted s t (O.stops e) 1 ∧ Counted s t (O.chainsEnded e) 1)
  ∧ (chainStop s c = false → Descriptor.chained c.cur = false → c'.status = some 0 ∧ Counted s t (O.chainsEnded e) 1)
  ∧ (chainStop s c = false → Descriptor.chained c.cur = true → limit →
      c'.status = some 1 ∧ Counted s t (O.loopEnds e) 1 ∧ Counted s t (O.chainsEnded e) 1)
  ∧ (chainStop s c = false → Descriptor.chained c.cur = true → ¬limit → c'.status = none →
      c'.addr = Descriptor.next c.cur ∧ t.obj (O.chainsEnded e) = s.obj (O.chainsEnded e))

theorem descFollowed_as (hD : Store.find T.hod.chains unit = some D) :
    ∃ c', Store.find (descFollowed unit D T).hod.chains unit = some c' ∧ c'.hops = D.hops ∧ c'.written = D.written
      ∧ FollowsAs T (descFollowed unit D T) (engineOf unit) D c' (Descriptor.next D.cur ∈ D.history ∨ D.limit ≤ D.hops) := by
  cases h : nextDesc T D with
  | error e =>
    obtain ⟨hf, hc, h3, h1⟩ := descFollowed_ends (unit := unit) hD h
    refine ⟨D.withEnd e, hf, rfl, rfl, fun hs => ?_, fun hs hl => ?_, fun hs hl hv => ?_, fun _ _ _ hn => nomatch hn⟩
    · cases h.symm.trans (nextDesc_stop hs)
      exact ⟨rfl, h3 rfl, hc⟩
    · cases h.symm.trans (nextDesc_last hs hl)
      exact ⟨rfl, hc⟩
    · cases h.symm.trans (nextDesc_loop hs hl hv)
      exact ⟨rfl, h1 rfl, hc⟩
  | ok p =>
    obtain ⟨c', hf, hh, hw, ha, hk⟩ := descFollowed_next (unit := unit) hD h
    refine ⟨c', hf, hh, hw, fun hs => ?_, fun hs hl => ?_, fun hs hl hv => ?_, fun hs hl hv _ => ⟨ha.trans (nextDesc_addr hs hl hv h), hk⟩⟩
    · cases h.symm.trans (nextDesc_stop hs)
    · cases h.symm.trans (nextDesc_last hs hl)
    · cases h.symm.trans (nextDesc_loop hs hl hv)

theorem FollowsAs.of_run {t : State} {c c' : Chain} {limit : Prop} (hr : FollowsAs T t (engineOf unit) D c' limit)
    (hc : D.cur = c.cur) (hs : chainStop T D = chainStop s c) (ho : ∀ j ∈ chainEndKeys (engineOf unit), T.obj j = s.obj j) :
    FollowsAs s t (engineOf unit) c c' limit := by
  obtain ⟨h3, h0, h1, hn⟩ := hr
  rw [hs] at h3 h0 h1 hn
  rw [hc] at h0 h1 hn
  have hk (j : Nat) (hj : j ∈ chainEndKeys (engineOf unit)) {n : Nat} (h : Counted T t j n) : Counted s t j n := Counted.of_obj (ho j hj) h
  have m1 : O.chainsEnded (engineOf unit) ∈ chainEndKeys (engineOf unit) := .head _
  have m2 : O.stops (engineOf unit) ∈ chainEndKeys (engineOf unit) := .tail _ (.head _)
  have m3 : O.loopEnds (engineOf unit) ∈ chainEndKeys (engineOf unit) := .tail _ (.tail _ (.head _))
  refine ⟨fun h => ?_, fun h hl => ?_, fun h hl hv => ?_, fun h hl hv hs => ?_⟩
  · exact ⟨(h3 h).1, hk _ m2 (h3 h).2.1, hk _ m1 (h3 h).2.2⟩
  · exact ⟨(h0 h hl).1, hk _ m1 (h0 h hl).2⟩
  · exact ⟨(h1 h hl hv).1, hk _ m3 (h1 h hl hv).2.1, hk _ m1 (h1 h hl hv).2.2⟩
  · exact ⟨(hn h hl hv hs).1, (hn h hl hv hs).2.trans (ho _ m1)⟩

theorem FollowsAs.cases {t : State} {c c' : Chain} {limit : Prop} [Decidable limit] {e : Nat} (h : FollowsAs s t e c c' limit) :
    if chainStop s c = true then c'.status = some 3 ∧ Counted s t (O.stops e) 1 ∧ Counted s t (O.chainsEnded e) 1
    else if Descriptor.chained c.cur = false then c'.status = some 0 ∧ Counted s t (O.chainsEnded e) 1
    else if limit then c'.status = some 1 ∧ Counted s t (O.loopEnds e) 1 ∧ Counted s t (O.chainsEnded e) 1
    else c'.status = none → c'.addr = Descriptor.next c.cur ∧ t.obj (O.chainsEnded e) = s.obj (O.chainsEnded e) := by
  obtain ⟨h3, h0, h1, hn⟩ := h
  split
  · exact h3 ‹_›
  · next hs =>
    have hs := Bool.eq_false_of_not_eq_true hs
    split
    · exact h0 hs ‹_›
    · next hl =>
      have hl := Bool.eq_true_of_not_eq_false hl
      split
      · exact h1 hs hl ‹_›
      · exact hn hs hl ‹_›

end

section
variable {e k : Nat} {c : Chain} {s : State}

/-- The parts that a descriptor's pieces and the counts of its chain change. -/
def hodParts : List Part := [.dict, .freeCtr, .hod, .integ, .link, .mem]

theorem movedBy_same (c : Chain) (s : State) : SameBut s (movedBy c s).state hodParts :=
  ((movePieces_moves c.cur (Descriptor.pieces c.cur) s).mono (L := ErrKey) (by decide) fun _ h => h).1

theorem movedBy_mem {a : Nat} (ha : ∀ p ∈ Descriptor.pieces c.cur, a < p.dst ∨ p.dst + p.size ≤ a) :
    memByte (movedBy c s).state.mem a = memByte s.mem a := movePieces_mem c.cur ha s

/-- The state after a descriptor of a chain. -/
def descEnded (unit : Nat) (c : Chain) (s : State) : State := descFollowed unit (c.ran (movedBy c s)) (descRun unit c (movedBy c s))

theorem descEnded_steps (unit : Nat) (c : Chain) (s : State) : SameBut (movedBy c s).state (descEnded unit c s) [.dict, .hod] :=
  SameBut.trans (descRun_steps ..).1 (descFollowed_leaves ..).1

theorem descEnded_descriptors (unit : Nat) : Counted s (descEnded unit c s) (O.descriptors (engineOf unit)) 1 := by
  refine ((descFollowed_leaves ..).2 (O.descriptors (engineOf unit)) ?_).trans (descRun_counted unit)
  simp only [chainEndKeys, O.descriptors, O.chainsEnded, O.stops, O.loopEnds, List.mem_cons, List.not_mem_nil, or_false]
  omega

/-- The descriptor of a running chain has moved its bytes: the chain goes on or ends (16 R531, R543, R545). -/
theorem hodDescriptorEnd_does (he : e < 24) (hk : k < 16) (hr : runningChain s (e * 16 + k) = some c)
    (hm : (movePieces c.cur (Descriptor.pieces c.cur) s).fail = none) :
    ∃ t c', exec (.hodDescriptorEnd e k) s = .next t ∧ Store.find t.hod.chains (e * 16 + k) = some c' ∧ c'.hops = c.hops + 1
      ∧ c'.written = c.written + (movePieces c.cur (Descriptor.pieces c.cur) s).written ∧ Counted s t (O.descriptors e) 1
      ∧ (∀ a, (∀ p ∈ Descriptor.pieces c.cur, a < p.dst ∨ p.dst + p.size ≤ a) → memByte t.mem a = memByte s.mem a)
      ∧ (if chainStop s c = true then c'.status = some 3 ∧ Counted s t (O.stops e) 1 ∧ Counted s t (O.chainsEnded e) 1
         else if Descriptor.chained c.cur = false then c'.status = some 0 ∧ Counted s t (O.chainsEnded e) 1
         else if Descriptor.next c.cur ∈ c.history ∨ c.limit ≤ c.hops + 1
         then c'.status = some 1 ∧ Counted s t (O.loopEnds e) 1 ∧ Counted s t (O.chainsEnded e) 1
         else c'.status = none → c'.addr = Descriptor.next c.cur ∧ t.obj (O.chainsEnded e) = s.obj (O.chainsEnded e))
      ∧ SameBut s t [.dict, .freeCtr, .hod, .integ, .link, .mem] := by
  obtain ⟨hf, -⟩ := runningChain_found hr
  obtain ⟨c', hc, hh, hw, ha⟩ := descFollowed_as (descRun_find hf)
  have hFollows := FollowsAs.of_run (s := s) (c := c) ha rfl (descRun_stop _) fun j hj => descRun_endKeys hj
  have hu := engineOf_unit e hk
  have hd := descEnded_descriptors (s := s) (c := c) (e * 16 + k)
  rw [hu] at hFollows hd
  have hmem : (descEnded (e * 16 + k) c s).mem = (movedBy c s).state.mem := descEnded_steps _ c s .mem (by decide)
  refine ⟨descEnded (e * 16 + k) c s, c', exec_hodDescriptorEnd he hk hr hm, hc, hh, hw, hd, fun a ha => ?_, hFollows.cases, ?_⟩
  · rw [hmem]
    exact movedBy_mem ha
  · exact SameBut.trans (movedBy_same c s) (SameBut.mono (descEnded_steps _ c s) (by decide))

/-! ## An answer that ends the chain -/

/-- The state in which what was written before the answer is counted. -/
def answerCounted (unit e : Nat) (m : Moved) : State := (linesCounted e m).onHodChain unit (Chain.wrote m)

theorem exec_hodResponseEnd {answer : Status} (he : e < 24) (hk : k < 16) (hr : runningChain s (e * 16 + k) = some c)
    (hm : (movedBy c s).fail = some answer) : exec (.hodResponseEnd e k answer) s
      = .next (endChain (e * 16 + k) (if answer = .unmapped then 6 else 7) (answerCounted (e * 16 + k) e (movedBy c s))) := by
  show execHodResponseEnd e k answer s = _
  rw [execHodResponseEnd]
  dsimp only
  rw [if_neg (by rw [hodUnitOk_of he hk]; decide), hr]
  dsimp only
  rw [← movedBy, if_pos hm]
  rfl

theorem answerCounted_leaves (unit e : Nat) (m : Moved) : Leaves m.state (answerCounted unit e m) [.dict, .hod] [O.bytesWritten e, O.poisonedLines e] :=
  Leaves.trans (Leaves.trans (Leaves.bump _ _ _ (by decide) (by simp)) (Leaves.bump _ _ _ (by decide) (by simp)))
    (Leaves.onHodChain _ _ _ (by decide))

theorem linesCounted_hod (e : Nat) (m : Moved) : (linesCounted e m).hod = m.state.hod :=
  (Leaves.trans (Leaves.bump _ _ _ (by decide) (.head _)) (Leaves.bump _ _ _ (by decide) (.tail _ (.head _))) :
    Leaves m.state (linesCounted e m) [.dict] [O.bytesWritten e, O.poisonedLines e]).1 .hod (by decide)

theorem hodResponseEnd_does {answer : Status} (he : e < 24) (hk : k < 16) (hr : runningChain s (e * 16 + k) = some c)
    (hm : (movePieces c.cur (Descriptor.pieces c.cur) s).fail = some answer) :
    ∃ t c', exec (.hodResponseEnd e k answer) s = .next t ∧ Store.find t.hod.chains (e * 16 + k) = some c'
      ∧ c'.status = some (if answer = .unmapped then 6 else 7) ∧ Counted s t (O.chainsEnded e) 1
      ∧ (∀ a, (∀ p ∈ Descriptor.pieces c.cur, a < p.dst ∨ p.dst + p.size ≤ a) → memByte t.mem a = memByte s.mem a)
      ∧ SameBut s t [.dict, .freeCtr, .hod, .integ, .link, .mem] := by
  obtain ⟨hf, -⟩ := runningChain_found hr
  have hA : Store.find (answerCounted (e * 16 + k) e (movedBy c s)).hod.chains (e * 16 + k) = some (c.wrote (movedBy c s)) :=
    onHodChain_find (by rw [linesCounted_hod]; exact movedBy_find hf c) _
  have hE := endChain_leaves (e * 16 + k) (if answer = .unmapped then 6 else 7) (answerCounted (e * 16 + k) e (movedBy c s))
  have hC := (endChain_counted (e * 16 + k) (if answer = .unmapped then 6 else 7) (answerCounted (e * 16 + k) e (movedBy c s))).1
  rw [engineOf_unit e hk] at hC
  have hsame := SameBut.trans (answerCounted_leaves (e * 16 + k) e (movedBy c s)).1 hE.1
  have hobj : (answerCounted (e * 16 + k) e (movedBy c s)).obj (O.chainsEnded e) = s.obj (O.chainsEnded e) := by
    refine ((answerCounted_leaves ..).2 _ ?_).trans (moved_obj _ _ _ (by simp only [O.chainsEnded]; omega))
    simp only [O.chainsEnded, O.bytesWritten, O.poisonedLines, List.mem_cons, List.not_mem_nil, or_false]
    omega
  refine ⟨_, _, exec_hodResponseEnd he hk hr hm, endChain_find hA, rfl, Counted.of_obj hobj hC, fun a ha => ?_, ?_⟩
  · rw [show _ = (movedBy c s).state.mem from hsame .mem (by decide)]
    exact movedBy_mem ha
  · exact SameBut.trans (movedBy_same c s) (SameBut.mono hsame (by decide))

end

end Sys2Proof.Machine
end

section
/-! SUPPORT. The end of a chain is signalled, a halt ends, and an engine is released (16 R540 to R545). -/
namespace Sys2Proof.Machine
open Sys2Proof.Safety

/-! ## The record of a chain's end -/

theorem readBack_moves (c : Chain) (s : State) : Moves errParts ErrKey s (readBack c s) := by
  unfold readBack
  split
  · exact metPoison_moves ..
  · exact Moves.refl _

theorem piecesOf_within {src dst n : Nat} {p : Piece} (h : p ∈ piecesOf src dst n) {a : Nat} (ha : a < dst ∨ dst + n ≤ a) : outside p a := by
  obtain ⟨i, -, rfl⟩ := List.mem_map.mp h
  unfold outside
  dsimp only
  omega

/-- One piece of a record is written. -/
def recordPiece (data : Bytes) (s : State) (p : Piece) : State :=
  if hodAnswer s true p.dst = .ok then (writeLine (cellsAt p.dst ((data.drop p.src).take p.size)) s).2 else s

theorem writeRecord_eq {c : Chain} {status : Nat} {s : State} (h : (c.record == 0 || status == 2 || status == 4) = false) :
    writeRecord c status s = (piecesOf 0 c.record 16).foldl (recordPiece (chainRecord c status)) s := by
  rw [writeRecord, if_neg (by rw [h]; decide)]
  rfl

theorem recordPiece_moves (data : Bytes) (s : State) (p : Piece) : Moves lineParts ErrKey s (recordPiece data s p) :=
  Moves.ite _ (writeLine_moves ..) (Moves.refl s)

theorem recordPiece_mem (data : Bytes) (s : State) {p : Piece} {a : Nat} (ha : outside p a) :
    memByte (recordPiece data s p).mem a = memByte s.mem a := by
  unfold recordPiece
  split
  · refine writeLine_mem (fun e he => ?_) s
    have hr := cellsAt_range _ he
    have hl : ((data.drop p.src).take p.size).length ≤ p.size := List.length_take_le ..
    rcases ha with ha | ha <;> omega
  · rfl

theorem recordPieces_mem (data : Bytes) {l : List Piece} {a : Nat} (ha : ∀ p ∈ l, outside p a) (s : State) :
    memByte (l.foldl (recordPiece data) s).mem a = memByte s.mem a := by
  induction l generalizing s with
  | nil => rfl
  | cons p l ih =>
    obtain ⟨h1, h2⟩ := List.forall_mem_cons.mp ha
    exact (ih h2 _).trans (recordPiece_mem data s h1)

theorem writeRecord_moves (c : Chain) (status : Nat) (s : State) : Moves lineParts ErrKey s (writeRecord c status s) := by
  cases h : c.record == 0 || status == 2 || status == 4 with
  | true => rw [writeRecord, if_pos h]; exact Moves.refl s
  | false => rw [writeRecord_eq h]; exact Moves.foldl _ _ (fun p _ s => recordPiece_moves _ s p) s

theorem writeRecord_mem (c : Chain) (status : Nat) (s : State) {a : Nat} (ha : a < c.record ∨ c.record + 16 ≤ a) :
    memByte (writeRecord c status s).mem a = memByte s.mem a := by
  cases h : c.record == 0 || status == 2 || status == 4 with
  | true => rw [writeRecord, if_pos h]
  | false =>
    rw [writeRecord_eq h]
    exact recordPieces_mem _ (fun p hp => piecesOf_within hp ha) s

section
variable {e k status : Nat} {c : Chain} {s : State}

/-- The state in which a chain's record is written and its channel is idle. -/
def signalled (unit : Nat) (c : Chain) (status : Nat) (s : State) : State :=
  (writeRecord c status (readBack c s)).onHod fun h => { h with chains := Store.drop h.chains unit }

theorem exec_hodChainSignal (he : e < 24) (hk : k < 16) (hf : Store.find s.hod.chains (e * 16 + k) = some c) (hs : c.status = some status)
    (hh : Store.find s.hod.halting e = none) : exec (.hodChainSignal e k) s = .next (tellUser c status (signalled (e * 16 + k) c status s)) := by
  show execHodChainSignal e k s = _
  rw [execHodChainSignal, if_neg (by rw [hodUnitOk_of he hk]; decide)]
  simp only [hf, hs]
  rw [if_neg (by rw [hh]; decide)]
  rfl

theorem signalled_moves (unit : Nat) (c : Chain) (status : Nat) (s : State) :
    Moves [.dict, .freeCtr, .hod, .integ, .link, .mem] ErrKey s (signalled unit c status s) :=
  ((readBack_moves c s).mono (by decide) fun _ h => h).trans (((writeRecord_moves c status _).mono (by decide) fun _ h => h).trans
    (Moves.of_leaves (ks := []) (Leaves.onHod _ _ (by decide)) nofun))

theorem signalled_mem (unit : Nat) {a : Nat} (ha : a < c.record ∨ c.record + 16 ≤ a) :
    memByte (signalled unit c status s).mem a = memByte s.mem a := by
  refine (writeRecord_mem c status (readBack c s) ha).trans ?_
  rw [(readBack_moves c s).same .mem (by decide)]

theorem signalled_plain (unit : Nat) (hr : c.record = 0) (hl : ∀ a, c.last = some a → badByte s (a / 64) = none) :
    signalled unit c status s = s.onHod fun h => { h with chains := Store.drop h.chains unit } := by
  have h1 : readBack c s = s := by
    unfold readBack
    cases hc : c.last with
    | none => rfl
    | some a => rw [Option.bind_some, hl a hc]
  rw [signalled, h1, writeRecord, if_pos (by rw [hr]; rfl)]

/-- What an operation learns of the chain that it ran (Table 16-4). -/
def chainEnd (status : Nat) : TaskEnd :=
  if status = 0 then .ok else if status = 2 ∨ status = 4 then .tileFault else if status = 3 then .cancelled else .fault

theorem chainEnd_eq (status : Nat) : chainEnd status = match status with
    | 0 => TaskEnd.ok
    | 2 | 4 => TaskEnd.tileFault
    | 3 => TaskEnd.cancelled
    | _ => TaskEnd.fault := by
  match status with
  | 0 => rfl
  | 1 => rfl
  | 2 => rfl
  | 3 => rfl
  | 4 => rfl
  | n + 5 => rw [chainEnd, if_neg (by omega), if_neg (by omega), if_neg (by omega)]; rfl

theorem tellUser_op (h : c.user ≠ 1) (status : Nat) (s : State) :
    tellUser c status s = s.onOp c.owner fun o => { o with ended := some (chainEnd status) } := by
  unfold tellUser
  rw [if_neg (by simpa using h)]
  refine congrArg (State.onOp s c.owner) (funext fun o => ?_)
  exact congrArg (fun e => { o with ended := some e }) (chainEnd_eq status).symm

theorem tellUser_diag (h : c.user = 1) (status : Nat) (s : State) :
    tellUser c status s = (s.setObj O.diagState 0).setBlob O.diagResult (chainRecord c status) := by
  unfold tellUser
  rw [if_pos (by rw [h]; rfl)]

theorem tellUser_leaves (c : Chain) (status : Nat) (s : State) : Leaves s (tellUser c status s) [.dict, .blobs, .sched] [O.diagState] := by
  by_cases h : c.user = 1
  · rw [tellUser_diag h]
    exact Leaves.trans (Leaves.setObj _ _ _ (by decide) (by decide)) (Leaves.setBlob _ _ _ (by decide))
  · rw [tellUser_op h]
    exact Leaves.onOp _ _ _ (by decide)

/-- The end of a chain is signalled (16 R541, R544). -/
theorem hodChainSignal_does (he : e < 24) (hk : k < 16) (hf : Store.find s.hod.chains (e * 16 + k) = some c) (hs : c.status = some status)
    (hh : Store.find s.hod.halting e = none) :
    ∃ t, exec (.hodChainSignal e k) s = .next t ∧ Store.find t.hod.chains (e * 16 + k) = none
      ∧ (c.user = 1 → t.obj O.diagState = 0 ∧ t.blob O.diagResult = chainRecord c status)
      ∧ (c.user ≠ 1 → ∀ o, s.op c.owner = some o → t.op c.owner = some
          { o with ended := some (if status = 0 then .ok else if status = 2 ∨ status = 4 then .tileFault
                                  else if status = 3 then .cancelled else .fault) })
      ∧ (∀ a, (a < c.record ∨ c.record + 16 ≤ a) → memByte t.mem a = memByte s.mem a)
      ∧ (c.record = 0 → (∀ a, c.last = some a → badByte s (a / 64) = none) → t.mem = s.mem ∧ Leaves s t [.dict, .blobs, .hod, .sched] [O.diagState])
      ∧ SameBut s t [.dict, .blobs, .freeCtr, .hod, .integ, .link, .mem, .sched] := by
  have hT := tellUser_leaves c status (signalled (e * 16 + k) c status s)
  have hS := signalled_moves (e * 16 + k) c status s
  refine ⟨_, exec_hodChainSignal he hk hf hs hh, ?_, fun hu => ?_, fun hu o ho => ?_, fun a ha => ?_, fun hr hl => ?_, ?_⟩
  · rw [hT.1 .hod (by decide)]
    exact Store.find_drop_same ..
  · rw [tellUser_diag hu]
    exact ⟨(State.obj_congr (State.setBlob_dict ..) _).trans (State.obj_setObj_same ..), State.blob_setBlob_same ..⟩
  · rw [tellUser_op hu, onOp_op, if_pos rfl, op_congr (congrArg Sched.ops (hS.same .sched (by decide))), ho]
    rfl
  · rw [hT.1 .mem (by decide)]
    exact signalled_mem _ ha
  · rw [signalled_plain _ hr hl] at hT ⊢
    have h : Leaves s _ [.dict, .blobs, .hod, .sched] [O.diagState] := Leaves.trans (Leaves.onHod _ _ (by decide)) (Leaves.mono hT (by decide) fun _ h => h)
    exact ⟨h.1 .mem (by decide), h⟩
  · exact SameBut.trans (SameBut.mono hS.1 (by decide)) (SameBut.mono hT.1 (by decide))

/-! ## A halt ends -/

/-- The state in which an engine no longer reads HALTED. -/
def unhalted (e : Nat) (s : State) : State :=
  (s.setObj O.hodHaltedMap (setBit (s.nat O.hodHaltedMap) e false)).onHod fun h => { h with halted := Store.drop h.halted e }

/-- The state in which it is out of service as well. -/
def hodFaulted (e : Nat) (s : State) : State :=
  unitLost (unitWord 5 e) 0 0 (s.setObj O.hodService (setBit (s.nat O.hodService) e false))

/-- The end of the time that an engine stays HALTED. -/
def holdOver (since : Nat) (s : State) : State := advanceTicks s (since + ticksOfNs (1000 * s.nat O.haltHold))

theorem exec_haltHoldExpiry {since : Nat} (pass : Bool) (he : e < 24) (hf : Store.find s.hod.halted e = some since) :
    exec (.haltHoldExpiry e pass) s = if pass && decide ((Store.at [] s.hod.halts e).length < s.nat O.haltLimit)
      then .next (unhalted e (holdOver since s)) else .next (hodFaulted e (unhalted e (holdOver since s))) := by
  have h1 : (unhalted e (holdOver since s)).hod.halts = s.hod.halts := 
    (rfl : _ = (holdOver since s).hod.halts).trans (congrArg Hod.halts (advance_hod ..))
  have h2 : (unhalted e (holdOver since s)).nat O.haltLimit = s.nat O.haltLimit :=
    congrArg Int.toNat ((State.obj_setObj_ne _ _ _ _ (by decide)).trans ((advanceTicks_leaves s _ (ps := timeParts) (fun _ h => h)).2 _ List.not_mem_nil))
  rw [← h1, ← h2]
  show execHaltHoldExpiry e pass s = _
  rw [execHaltHoldExpiry, if_neg (by omega), hf]
  rfl

theorem nat_setObj_nat (s : State) (k v : Nat) : (s.setObj k (v : Int)).nat k = v := by rw [State.nat, State.obj_setObj_same, Int.toNat_natCast]

theorem unhalted_leaves (e : Nat) (s : State) : Leaves s (unhalted e s) [.dict, .hod] [O.hodHaltedMap] :=
  Leaves.trans (Leaves.setObj _ _ _ (by decide) (by decide)) (Leaves.onHod _ _ (by decide))

theorem unhalted_bit (e : Nat) (s : State) : bitOf ((unhalted e s).nat O.hodHaltedMap) e = false := by
  have h : (unhalted e s).nat O.hodHaltedMap = setBit (s.nat O.hodHaltedMap) e false := nat_setObj_nat s _ _
  rw [h]
  exact bitOf_setBit_same ..

theorem hodFaulted_leaves (e : Nat) (s : State) :
    Leaves s (hodFaulted e s) [.dict, .link, .guard] [O.hodService, O.unitLostCount, O.indicationsDropped, O.faultCauses] :=
  Leaves.trans (Leaves.setObj _ _ _ (by decide) (by decide)) (Leaves.mono (unitLost_leaves ..) (by decide) (by decide))

theorem hodFaulted_does (e : Nat) (s : State) : bitOf ((hodFaulted e s).nat O.hodService) e = false
    ∧ Counted s (hodFaulted e s) O.unitLostCount 1 ∧ unitWord 5 e ∈ (hodFaulted e s).guard.lost := by
  have ho : (s.setObj O.hodService (setBit (s.nat O.hodService) e false)).obj O.unitLostCount = s.obj O.unitLostCount :=
    State.obj_setObj_ne _ _ _ _ (by decide)
  refine ⟨?_, Counted.of_obj ho (unitLost_counted ..), unitLost_listed ..⟩
  have h : (hodFaulted e s).nat O.hodService = setBit (s.nat O.hodService) e false := by
    refine (congrArg Int.toNat ((unitLost_leaves ..).2 O.hodService (by decide))).trans (nat_setObj_nat s _ _)
  rw [h]
  exact bitOf_setBit_same ..

/-- The hold of a halted engine ends: it runs again, or is faulted (16 R540). -/
theorem haltHoldExpiry_does {since : Nat} (pass : Bool) (he : e < 24) (hf : Store.find s.hod.halted e = some since) :
    ∃ t, exec (.haltHoldExpiry e pass) s = .next t ∧ bitOf (t.nat O.hodHaltedMap) e = false ∧ Store.find t.hod.halted e = none
      ∧ since + ticksOfNs (1000 * s.nat O.haltHold) ≤ t.clock.ticks
      ∧ (if pass = true ∧ (Store.at [] s.hod.halts e).length < s.nat O.haltLimit then t.nat O.hodService = s.nat O.hodService
         else bitOf (t.nat O.hodService) e = false ∧ Counted s t O.unitLostCount 1 ∧ unitWord 5 e ∈ t.guard.lost)
      ∧ SameBut s t (.dict :: .hod :: .link :: timeParts) := by
  have hA : Leaves s (holdOver since s) timeParts [] := advanceTicks_leaves s _ (fun _ h => h)
  have hU := unhalted_leaves e (holdOver since s)
  have hL := hodFaulted_leaves e (unhalted e (holdOver since s))
  have hn : Store.find (unhalted e (holdOver since s)).hod.halted e = none := Store.find_drop_same ..
  have hc : since + ticksOfNs (1000 * s.nat O.haltHold) ≤ (unhalted e (holdOver since s)).clock.ticks := by
    rw [hU.1 .clock (by decide)]
    exact le_advanceTicks ..
  have hs : SameBut s (unhalted e (holdOver since s)) (.dict :: .hod :: .link :: timeParts) :=
    SameBut.trans (SameBut.mono hA.1 (by decide)) (SameBut.mono hU.1 (by decide))
  rw [exec_haltHoldExpiry pass he hf]
  by_cases hp : pass = true ∧ (Store.at [] s.hod.halts e).length < s.nat O.haltLimit
  · rw [if_pos (by simpa using hp)]
    refine ⟨_, rfl, unhalted_bit .., hn, hc, ?_, hs⟩
    rw [if_pos hp]
    exact congrArg Int.toNat ((hU.2 _ (by decide)).trans (hA.2 _ List.not_mem_nil))
  · rw [if_neg (by simpa using hp)]
    obtain ⟨h1, h2, h3⟩ := hodFaulted_does e (unhalted e (holdOver since s))
    refine ⟨_, rfl, ?_, ?_, ?_, ?_, SameBut.trans hs (SameBut.mono hL.1 (by decide))⟩
    · rw [State.nat, hL.2 _ (by decide)]
      exact unhalted_bit ..
    · rw [hL.1 .hod (by decide)]
      exact hn
    · rw [hL.1 .clock (by decide)]
      exact hc
    · rw [if_neg hp]
      exact ⟨h1, Counted.of_obj ((hU.2 _ (by decide)).trans (hA.2 _ List.not_mem_nil)) h2, h3⟩

/-! ## An engine is released -/

/-- The state in which an engine is in service again. -/
def hodBack (e : Nat) (s : State) : State :=
  (s.setObj O.hodService (setBit (s.nat O.hodService) e true)).onGuard fun g => { g with lost := g.lost.filter (· != unitWord 5 e) }

theorem actHodRelease_eq (e : Nat) (s : State) :
    actHodRelease e s = (.ok, if bitOf (s.nat O.hodService) e then s else hodBack e s) := by
  unfold actHodRelease
  rw [Int.toNat_natCast]
  by_cases h : bitOf (s.nat O.hodService) e = true
  · simp only [h, if_true]
  · simp only [h, if_neg Bool.false_ne_true]
    rfl

theorem hodBack_leaves (e : Nat) (s : State) : Leaves s (hodBack e s) [.dict, .guard] [O.hodService] :=
  Leaves.trans (Leaves.setObj _ _ _ (by decide) (by decide)) (Leaves.onGuard _ _ (by decide))

/-- HOD_RELEASE returns an engine to service (16 R540). -/
theorem hodRelease_does (x : Xfer) (e : Nat) (s : State) (h : Accepts s x O.hodRelease (.num e)) :
    ∃ t, exec (.hodRelease x e) s = .next t ∧ Answers s t x O.hodRelease (.num e) .ok [.hod] [O.hodService]
      ∧ bitOf (t.nat O.hodService) e = true
      ∧ t.hod = s.hod ∧ (bitOf (s.nat O.hodService) e = false → unitWord 5 e ∉ t.guard.lost) := by
  have hu : Leaves (atWrite s x O.hodRelease (.num e)) (if bitOf ((atWrite s x O.hodRelease (.num e)).nat O.hodService) e
      then atWrite s x O.hodRelease (.num e) else hodBack e (atWrite s x O.hodRelease (.num e))) [.dict, .guard] [O.hodService] :=
    Leaves.ite _ (Leaves.refl ..) (hodBack_leaves ..)
  obtain ⟨hans, hsame, hobj⟩ := hostWrite_does (x := x) (act := actHodRelease e) h (actHodRelease_eq ..) hu (by decide)
  have hA := Answers.drop_passing hans (by decide)
  have hnat : (hostWrite x O.hodRelease (.num e) (actHodRelease e) s).nat O.hodService = _ := congrArg Int.toNat (hobj O.hodService (by decide))
  have hn : (atWrite s x O.hodRelease (.num e)).nat O.hodService = s.nat O.hodService := atWrite_nat ..
  refine ⟨_, rfl, ⟨hA.1, SameBut.mono hA.2.1 (fun p hp => List.mem_cons_of_mem _ hp), hA.2.2⟩, ?_, ?_, fun hb => ?_⟩
  · rw [hnat]
    by_cases hb : bitOf ((atWrite s x O.hodRelease (.num e)).nat O.hodService) e = true
    · rw [if_pos hb]
      exact hb
    · rw [if_neg hb]
      have hs : (hodBack e (atWrite s x O.hodRelease (.num e))).nat O.hodService
          = setBit ((atWrite s x O.hodRelease (.num e)).nat O.hodService) e true := nat_setObj_nat ..
      exact (congrArg (bitOf · e) hs).trans (bitOf_setBit_same ..)
  · exact hA.2.1 .hod (by split <;> decide)
  · rw [hsame .guard (by decide), if_neg (by rw [hn, hb]; decide)]
    exact fun hm => by simpa using (List.mem_filter.mp hm).2

end

end Sys2Proof.Machine
end

section
/-! SUPPORT. Diagnostic chains (16 R542, R548), and the claim. -/
namespace Sys2Proof.Machine
open Sys2Proof.Safety

/-! ## What a diagnostic chain reads -/

section
variable {s u : State}

/-- Two states whose device address maps are alike: what pallets each channel has, and which are in service. -/
structure MapAlike (s u : State) : Prop where
  pallets : ∀ c, u.obj (O.chPallets c) = s.obj (O.chPallets c)
  state : ∀ c, u.obj (O.chState c) = s.obj (O.chState c)

theorem MapAlike.region (h : MapAlike s u) (a : Nat) : regionOf u a = regionOf s a := by
  have hp (c : Nat) : u.nat (O.chPallets c) = s.nat (O.chPallets c) := congrArg Int.toNat (h.pallets c)
  simp only [regionOf, hp]

theorem MapAlike.bad (h : MapAlike s u) (hi : u.integ = s.integ) (line : Nat) : badByte u line = badByte s line := by
  have hu : uncorrectable u = uncorrectable s := by
    funext a
    simp only [uncorrectable, h.region, h.state, hi]
  rw [badByte, hu, badByte]

/-- Two states in which every access is answered alike, its data apart. -/
structure AnswersAlike (s u : State) : Prop where
  map : MapAlike s u
  domain : ∀ d, u.obj (O.domainState d) = s.obj (O.domainState d)
  tile : ∀ t, u.obj (O.tileState t) = s.obj (O.tileState t)
  bond : ∀ n, u.obj (O.bondState n) = s.obj (O.bondState n)

theorem AnswersAlike.runs (h : AnswersAlike s u) (d : Nat) : u.runs d = s.runs d := by rw [State.runs, h.domain, State.runs]

theorem AnswersAlike.hod (h : AnswersAlike s u) (w : Bool) (a : Nat) : hodAnswer u w a = hodAnswer s w a := by
  unfold hodAnswer
  rw [h.map.region]
  cases regionOf s a with
  | nowhere => rfl
  | feed => simp only [h.runs]
  | tile t =>
    have hp : inPrefetch u t (a - tileAddr t) = inPrefetch s t (a - tileAddr t) := by rw [inPrefetch, h.bond, inPrefetch]
    have hm : hodMayWrite u t (a - tileAddr t) = hodMayWrite s t (a - tileAddr t) := by rw [hodMayWrite, h.tile, hp, hodMayWrite]
    simp only [h.runs, hm]
  | store c => simp only [h.runs]
  | chan c => simp only [h.runs]

/-- Two states that a hod engine reads alike: every object but DIAG_STATE, memory and the bytes known to be bad. -/
structure ReadsAlike (s u : State) : Prop where
  obj : ∀ k, k ≠ O.diagState → u.obj k = s.obj k
  mem : u.mem = s.mem
  integ : u.integ = s.integ

theorem ReadsAlike.nat (h : ReadsAlike s u) {k : Nat} (hk : k ≠ O.diagState) : u.nat k = s.nat k := congrArg Int.toNat (h.obj k hk)

theorem ReadsAlike.low (h : ReadsAlike s u) {k n : Nat} (hk : k % 256 ≠ 4) : u.obj (k + 0x100 * n) = s.obj (k + 0x100 * n) :=
  h.obj _ (by simp only [O.diagState]; omega)

theorem ReadsAlike.answers (h : ReadsAlike s u) : AnswersAlike s u :=
  ⟨⟨fun _ => h.low (by decide), fun _ => h.low (by decide)⟩, fun _ => h.low (by decide), fun _ => h.low (by decide), fun _ => h.low (by decide)⟩

theorem ReadsAlike.fetch (h : ReadsAlike s u) (a : Nat) : fetchDesc u a = fetchDesc s a := by
  simp only [fetchDesc, h.answers.hod, h.answers.map.bad h.integ, h.mem]

theorem ReadsAlike.hodRuns (h : ReadsAlike s u) (e : Nat) : u.hodRuns e = s.hodRuns e := by
  rw [State.hodRuns, h.nat (by decide), h.nat (by decide), h.answers.runs, State.hodRuns]

theorem ReadsAlike.channel (h : ReadsAlike s u) (h1 : u.hod = s.hod) (h2 : u.sched = s.sched) : diagChannel u = diagChannel s := by
  have hr : u.hodRuns = s.hodRuns := funext h.hodRuns
  simp only [diagChannel, hr, h1, unitFree, h2]

theorem readsAlike_atWrite (s : State) (x : Xfer) (key : Nat) (v : Int) : ReadsAlike s (atWrite s x key (.num v)) :=
  ⟨fun _ _ => atWrite_obj .., atWrite_same s x key _ .mem (by decide), atWrite_same s x key _ .integ (by decide)⟩

theorem readsAlike_started (s : State) : ReadsAlike s (s.setObj O.diagState 1) :=
  ⟨fun _ hk => State.obj_setObj_ne _ _ _ _ hk, State.setObj_mem .., State.setObj_integ ..⟩

end

section
variable {s : State} {unit : Nat}

/-! ## A diagnostic chain begins -/

/-- The bytes of a first descriptor that was read. -/
def fetched : Except Nat Bytes → Bytes
  | .ok b => b
  | .error _ => []

/-- The chain of diagnostics as it begins. -/
def diagFirst (a limit : Nat) (d : Bytes) : Chain :=
  { user := 1, owner := 0, addr := a, cur := d, ahead := [], limit := limit, gen := bytesAt d 2 1, tag := bytesAt d 54 2
    record := bytesAt d 56 6, hops := 0, written := 0, poisoned := 0, history := [], stop := false, status := none, last := none }

/-- The state in which it stands on its channel. -/
def diagPlaced (unit : Nat) (first : Except Nat Bytes) (s : State) : State :=
  (s.setObj O.diagState 1).onHod fun h =>
    { h with chains := Store.put h.chains unit (diagFirst (s.nat O.diagChain) ((s.setObj O.diagState 1).nat O.hopLimit) (fetched first)) }

/-- What its first descriptor, read and judged, makes of it. -/
def diagJudged (unit a : Nat) (first : Except Nat Bytes) (s : State) : State :=
  match first with
  | .error status => endChain unit status s
  | .ok b => if Descriptor.malformed b then endChain unit 5 s else s.onHodChain unit fun c => c.start s a b

theorem startDiag_eq (unit : Nat) (s : State) : startDiag unit s
    = diagJudged unit (s.nat O.diagChain) (fetchDesc s (s.nat O.diagChain)) (diagPlaced unit (fetchDesc s (s.nat O.diagChain)) s) := by
  rw [← (readsAlike_started s).fetch]
  rfl

/-- The status with which a first descriptor ends its chain, if it does (16 R532, R537). -/
def firstStatus : Except Nat Bytes → Option Nat
  | .error status => some status
  | .ok d => if Descriptor.malformed d = true then some 5 else none

theorem diagPlaced_leaves (unit : Nat) (first : Except Nat Bytes) (s : State) : Leaves s (diagPlaced unit first s) [.dict, .hod] [O.diagState] :=
  Leaves.trans (Leaves.setObj _ _ _ (by decide) (by decide)) (Leaves.onHod _ _ (by decide))

theorem diagJudged_leaves (unit a : Nat) (first : Except Nat Bytes) (s : State) :
    Leaves s (diagJudged unit a first s) [.dict, .hod] (chainEndKeys (engineOf unit)) := by
  cases first with
  | error e => exact endChain_leaves ..
  | ok b => exact Leaves.ite _ (endChain_leaves ..) (Leaves.onHodChain _ _ _ (by decide))

theorem diagJudged_chain {a : Nat} {first : Except Nat Bytes} {c : Chain} (h : Store.find s.hod.chains unit = some c) (ha : c.addr = a)
    (hn : c.status = none) : ∃ d, Store.find (diagJudged unit a first s).hod.chains unit = some d ∧ d.user = c.user ∧ d.addr = a
      ∧ d.status = firstStatus first := by
  cases first with
  | error e => exact ⟨_, endChain_find h, rfl, ha, rfl⟩
  | ok b =>
    by_cases hb : Descriptor.malformed b = true
    · have h1 : diagJudged unit a (.ok b) s = endChain unit 5 s := if_pos hb
      rw [h1]
      exact ⟨_, endChain_find h, rfl, ha, (if_pos hb).symm⟩
    · have h1 : diagJudged unit a (.ok b) s = s.onHodChain unit fun c => c.start s a b := if_neg hb
      rw [h1]
      exact ⟨_, onHodChain_find h _, rfl, rfl, hn.trans (if_neg hb).symm⟩

theorem startDiag_leaves (unit : Nat) (s : State) :
    Leaves s (startDiag unit s) [.dict, .hod] [O.diagState, O.chainsEnded (unit / 16), O.stops (unit / 16), O.loopEnds (unit / 16)] := by
  rw [startDiag_eq]
  exact Leaves.trans (Leaves.mono (diagPlaced_leaves ..) (fun _ h => h) (by simp))
    (Leaves.mono (diagJudged_leaves ..) (fun _ h => h) fun _ h => .tail _ h)

theorem startDiag_state (unit : Nat) (s : State) : (startDiag unit s).obj O.diagState = 1 := by
  rw [startDiag_eq]
  refine ((diagJudged_leaves ..).2 O.diagState ?_).trans (State.obj_setObj_same s O.diagState 1)
  simp only [chainEndKeys, O.diagState, O.chainsEnded, O.stops, O.loopEnds, List.mem_cons, List.not_mem_nil, or_false]
  omega

theorem startDiag_chain (unit : Nat) (s : State) : ∃ c, Store.find (startDiag unit s).hod.chains unit = some c ∧ c.user = 1
    ∧ c.addr = s.nat O.diagChain ∧ c.status = firstStatus (fetchDesc s (s.nat O.diagChain)) := by
  rw [startDiag_eq]
  exact diagJudged_chain (c := diagFirst (s.nat O.diagChain) ((s.setObj O.diagState 1).nat O.hopLimit) (fetched (fetchDesc s (s.nat O.diagChain))))
    (Store.find_put_same ..) rfl rfl

/-! ## The writes of diagnostics -/

theorem actDiagStart_halted (h : [20, 21, 22, 23].any s.hodRuns = false) : actDiagStart s = (.hodHalted, s) := by
  rw [actDiagStart, if_pos (by rw [h]; rfl)]

theorem actDiagStart_busy (h : [20, 21, 22, 23].any s.hodRuns = true) (hb : s.obj O.diagState = 1 ∨ diagChannel s = none) :
    actDiagStart s = (.noHodChannel, s) := by
  rw [actDiagStart, if_neg (by rw [h]; decide)]
  by_cases h1 : s.obj O.diagState = 1
  · rw [if_pos (by rw [h1]; rfl)]
  · rw [if_neg (by simpa using h1), hb.resolve_left h1]

theorem actDiagStart_free (h : [20, 21, 22, 23].any s.hodRuns = true) (hb : s.obj O.diagState ≠ 1) (hc : diagChannel s = some unit) :
    actDiagStart s = (.ok, startDiag unit s) := by
  rw [actDiagStart, if_neg (by rw [h]; decide), if_neg (by simpa using hb), hc]

/-- DIAG_START begins a chain on the lowest free channel 15, or is refused (16 R548). -/
theorem diagStart_does (x : Xfer) (s : State) (h : Accepts s x O.diagStart (.num 1)) (hr : [20, 21, 22, 23].any s.hodRuns = true) :
    ∃ t, exec (.diagStart x) s = .next t ∧
      if s.obj O.diagState = 1 ∨ diagChannel s = none then Answers s t x O.diagStart (.num 1) .noHodChannel [] []
      else ∃ unit c, diagChannel s = some unit ∧ Store.find t.hod.chains unit = some c ∧ c.user = 1 ∧ c.addr = s.nat O.diagChain
        ∧ c.status = (match fetchDesc s (s.nat O.diagChain) with
            | .error status => some status
            | .ok d => if Descriptor.malformed d = true then some 5 else none)
        ∧ t.obj O.diagState = 1
        ∧ Answers s t x O.diagStart (.num 1) .ok [.hod] [O.diagState, O.chainsEnded (unit / 16), O.stops (unit / 16), O.loopEnds (unit / 16)] := by
  have hu := readsAlike_atWrite s x O.diagStart 1
  have hd : (atWrite s x O.diagStart (.num 1)).obj O.diagState = s.obj O.diagState := atWrite_obj ..
  have hn : (atWrite s x O.diagStart (.num 1)).nat O.diagChain = s.nat O.diagChain := atWrite_nat ..
  have hch : diagChannel (atWrite s x O.diagStart (.num 1)) = diagChannel s :=
    hu.channel (atWrite_same s x _ _ .hod (by decide)) (atWrite_same s x _ _ .sched (by decide))
  have hru : [20, 21, 22, 23].any (atWrite s x O.diagStart (.num 1)).hodRuns = true := by rw [funext hu.hodRuns]; exact hr
  refine ⟨_, rfl, ?_⟩
  by_cases hb : s.obj O.diagState = 1 ∨ diagChannel s = none
  · rw [if_pos hb]
    exact (hostWrite_does h (actDiagStart_busy hru (by rw [hd, hch]; exact hb)) (Leaves.refl ..) (by decide)).1
  · rw [if_neg hb]
    obtain ⟨h1, h2⟩ := not_or.mp hb
    obtain ⟨unit, hunit⟩ := Option.ne_none_iff_exists'.mp h2
    obtain ⟨hans, hsame, hobj⟩ := hostWrite_does (ps := [.hod]) h (actDiagStart_free hru (by rw [hd]; exact h1) (hch.trans hunit))
      (startDiag_leaves ..) (by decide)
    obtain ⟨c, hc, hcu, hca, hcs⟩ := startDiag_chain unit (atWrite s x O.diagStart (.num 1))
    refine ⟨unit, c, hunit, ?_, hcu, hca.trans hn, ?_, (hobj _ (by decide)).trans (startDiag_state ..), hans⟩
    · rw [hsame .hod (by decide)]
      exact hc
    · rw [hcs, hn, hu.fetch]
      rfl

theorem diagStart_halted (x : Xfer) (s : State) (h : Accepts s x O.diagStart (.num 1)) (hr : [20, 21, 22, 23].any s.hodRuns = false) :
    ∃ t, exec (.diagStart x) s = .next t ∧ Answers s t x O.diagStart (.num 1) .hodHalted [] [] := by
  have hu := readsAlike_atWrite s x O.diagStart 1
  have hru : [20, 21, 22, 23].any (atWrite s x O.diagStart (.num 1)).hodRuns = false := by rw [funext hu.hodRuns]; exact hr
  exact ⟨_, rfl, (hostWrite_does h (actDiagStart_halted hru) (Leaves.refl ..) (by decide)).1⟩

/-- A diagnostic chain that has not ended is asked to stop. -/
def Chain.asked (c : Chain) : Chain := if c.user = 1 ∧ c.status = none then { c with stop := true } else c

/-- The state in which DIAG_STOP has been written. -/
def diagStopped (s : State) : State := s.onHod fun h => { h with chains := h.chains.map fun e => (e.1, e.2.asked) }

theorem actDiagStop_eq (s : State) : actDiagStop s = (.ok, diagStopped s) := by
  have h (e : Nat × Chain) : (if e.2.user == 1 && e.2.status.isNone then (e.1, { e.2 with stop := true }) else e) = (e.1, e.2.asked) := by
    unfold Chain.asked
    by_cases hc : e.2.user = 1 ∧ e.2.status = none
    · rw [if_pos hc, if_pos (by simpa using hc)]
    · rw [if_neg hc, if_neg (by simpa using hc)]
  unfold actDiagStop
  simp only [h]
  rfl

theorem diagStop_does (x : Xfer) (s : State) (h : Accepts s x O.diagStop (.num 1)) :
    ∃ t, exec (.diagStop x) s = .next t ∧ Answers s t x O.diagStop (.num 1) .ok [.hod] []
      ∧ ∀ u c, Store.find s.hod.chains u = some c → Store.find t.hod.chains u
          = some (if c.user = 1 ∧ c.status = none then { c with stop := true } else c) := by
  have hl : Leaves (atWrite s x O.diagStop (.num 1)) (diagStopped (atWrite s x O.diagStop (.num 1))) [.dict, .hod] [] :=
    Leaves.onHod _ _ (by decide)
  obtain ⟨hans, hsame, -⟩ := hostWrite_does (ps := [.hod]) h (actDiagStop_eq _) hl (by decide)
  refine ⟨_, rfl, hans, fun u c hc => ?_⟩
  rw [hsame .hod (by decide)]
  refine (find_map_same _ Chain.asked u).trans ?_
  rw [atWrite_same s x O.diagStop (.num 1) .hod (by decide), hc]
  rfl

end

end Sys2Proof.Machine
open Sys2Proof Sys2Proof.Machine Sys2Proof.Safety

/-- Settles O48: a descriptor's pieces leave what lies outside them, `nextDesc` says what follows it, and each end is read off `endChain`. -/
theorem hodChains : Obligations.HodChains := by
  unfold Obligations.HodChains
  exact ⟨fun _ _ _ _ he hk hr hm => hodDescriptorEnd_does he hk hr hm, fun _ _ _ _ _ he hk hr hm => hodResponseEnd_does he hk hr hm,
    fun _ _ _ _ _ he hk hf hs hh => hodChainSignal_does he hk hf hs hh, fun _ _ pass _ he hf => haltHoldExpiry_does pass he hf,
    fun x e s _ h => hodRelease_does x e s h, diagStart_does, diagStart_halted, diagStop_does⟩
end

section
/-! SUPPORT. What the loss of a channel may change, and what it leaves (15 R506, R507, R510). -/
namespace Sys2Proof.Machine
open Sys2Proof.Safety

/-- The objects that what follows the loss of a channel may change are none of its own: its state, the causes of faults, and its count. -/
def LossKey (k : Nat) : Prop := (k % 256 ≠ 1 ∧ k % 256 ≠ 15) ∨ k ∈ [O.sessionState, O.journalCopies] ∨ ∃ p < 8, k = O.partEnable p

theorem not_lossKey_state (c : Nat) (hc : c < 16) : ¬LossKey (O.chState c) := by
  rintro (h | h | ⟨p, hp, h⟩)
  · simp only [O.chState] at h
    omega
  · simp only [O.chState, O.sessionState, O.journalCopies, List.mem_cons, List.not_mem_nil, or_false] at h
    omega
  · simp only [O.chState, O.partEnable] at h
    omega

theorem not_lossKey_causes : ¬LossKey O.faultCauses := by
  rintro (h | h | ⟨p, hp, h⟩)
  · exact absurd h.1 (by decide)
  · exact absurd h (by decide)
  · simp only [O.faultCauses, O.partEnable] at h
    omega

theorem not_lossKey_count : ¬LossKey O.channelLostCount := by
  rintro (h | h | ⟨p, hp, h⟩)
  · exact absurd h.2 (by decide)
  · exact absurd h (by decide)
  · simp only [O.channelLostCount, O.partEnable] at h
    omega

theorem lossKey_closeKey {k : Nat} (h : CloseKey k) : LossKey k := by
  rcases h with ⟨n, rfl⟩ | h
  · exact .inl ⟨by simp only [O.loadUpdates]; omega, by simp only [O.loadUpdates]; omega⟩
  · simp only [List.mem_cons, List.not_mem_nil, or_false] at h
    rcases h with rfl | rfl | rfl
    · exact .inl ⟨by decide, by decide⟩
    · exact .inl ⟨by decide, by decide⟩
    · exact .inr (.inl (by decide))

/-- The parts that the loss of a channel may change. -/
def lossParts : List Part := [.blobs, .dict, .integ, .kiln, .link, .pipe, .sched, .svc, .wb]

/-- What follows a loss: the parts and the objects that may change. -/
def LossMoves (s t : State) : Prop := Moves lossParts LossKey s t

namespace LossMoves
variable {s t u : State}

theorem refl (s : State) : LossMoves s s := Moves.refl s

theorem trans (h1 : LossMoves s t) (h2 : LossMoves t u) : LossMoves s u := Moves.trans h1 h2

theorem of_leaves {ps : List Part} {ks : List Nat} (h : Leaves s t ps ks) (hp : ∀ p ∈ ps, p ∈ lossParts) (hk : ∀ k ∈ ks, LossKey k) :
    LossMoves s t := (Moves.of_leaves h hk).mono hp fun _ h => h

theorem ite (c : Prop) [Decidable c] (h1 : LossMoves s t) (h2 : LossMoves s u) : LossMoves s (if c then t else u) := Moves.ite c h1 h2

theorem foldl {α : Type} {f : State → α → State} {l : List α} (h : ∀ a ∈ l, ∀ s, LossMoves s (f s a)) (s : State) : LossMoves s (l.foldl f s) :=
  Moves.foldl f l h s

theorem setObj (s : State) {k : Nat} (v : Int) (hk : LossKey k) : LossMoves s (s.setObj k v) := Moves.setObj s k v (by decide) hk

theorem bump (s : State) {k : Nat} (n : Nat) (hk : LossKey k) : LossMoves s (s.bump k n) := Moves.bump s k n (by decide) hk

theorem onInteg (s : State) (f : Integrity → Integrity) : LossMoves s (s.onInteg f) := Moves.onInteg s f (by decide)

theorem onCourse (s : State) (k : Nat) (f : Course → Course) : LossMoves s (s.onCourse k f) :=
  of_leaves (Leaves.onCourse (ps := [.pipe]) (ks := []) s k f (by decide)) (by decide) nofun

theorem onUe (s : State) (i : Nat) (f : Ue → Ue) : LossMoves s (s.onUe i f) :=
  of_leaves (Leaves.onUe (ps := [.pipe]) (ks := []) s i f (by decide)) (by decide) nofun

theorem onHarq (s : State) (ue proc : Nat) (f : Harq → Harq) : LossMoves s (s.onHarq ue proc f) := onUe ..

theorem raiseFor (s : State) {key : Nat} (hk : LossKey key) (unit : Nat) (d : Bytes) (course gen : Nat) :
    LossMoves s (Machine.raiseFor s key unit d course gen) := by
  unfold Machine.raiseFor
  dsimp only
  exact ite _ (trans (bump s 1 hk) (bump _ 1 (.inl ⟨by decide, by decide⟩)))
    (trans (bump s 1 hk) (of_leaves (ps := [.link]) (ks := []) (Leaves.setLink _ _ (by decide)) (by decide) nofun))

theorem raise (s : State) {key : Nat} (hk : LossKey key) (unit : Nat) (d : Bytes) (course : Nat) :
    LossMoves s (Machine.raise s key unit d course) :=
  Moves.raise _ _ _ _ _ (by decide) (by decide) hk (.inl ⟨by decide, by decide⟩)

end LossMoves

section
variable {s : State}

/-! ## What its holders lose -/

theorem markDropped_moves (ue proc : Nat) (s : State) : LossMoves s (markDropped ue proc s) := LossMoves.foldl (fun _ _ s => LossMoves.onCourse s _ _) s

theorem markNotKept_moves (key rec : Nat) (s : State) : LossMoves s (markNotKept key rec s) := LossMoves.onCourse ..

theorem dropVersion_moves (ue proc cause course gen : Nat) (s : State) : LossMoves s (dropVersion ue proc cause course gen s) := by
  unfold dropVersion
  split
  · exact (LossMoves.onHarq ..).trans (LossMoves.raiseFor _ (.inl ⟨by decide, by decide⟩) _ _ _ _)
  · exact LossMoves.refl s

theorem loseProc_moves (ue proc : Nat) (h : Harq) (s : State) : LossMoves s (loseProc ue proc h s) := by
  unfold loseProc
  dsimp only
  split
  · exact (LossMoves.raise _ (.inl ⟨by decide, by decide⟩) _ _ _).trans (LossMoves.onHarq ..)
  · exact ((dropVersion_moves ..).trans (markDropped_moves ..)).trans (LossMoves.onHarq ..)
  · exact LossMoves.onHarq ..

theorem loseContext_moves (s : State) (i : Nat) : LossMoves s (loseContext s i) :=
  (LossMoves.foldl (fun p _ s => loseProc_moves i p.1 p.2 s) s).trans (LossMoves.onUe ..)

theorem startRecovery_moves (s : State) : LossMoves s (startRecovery s) :=
  LossMoves.ite _ (LossMoves.setObj _ _ (.inl ⟨by decide, by decide⟩)) (LossMoves.refl s)

theorem contextsLost_moves (c : Nat) (s : State) : LossMoves s (contextsLost c s) := by
  have h := LossMoves.foldl (l := contextsOn s c) (fun i _ s => loseContext_moves s i) s
  unfold contextsLost
  exact LossMoves.ite _ (h.trans ((LossMoves.onInteg ..).trans (startRecovery_moves _)))
    (h.trans (LossMoves.of_leaves (ps := [.pipe]) (ks := []) (Leaves.setPipe _ _ (by decide)) (by decide) nofun))

/-- The committed version of a process is dropped, where it lies on the channel. -/
def committedLost (c : Nat) (x : Nat × Nat × Harq) (s : State) : State :=
  match x.2.2.committed with
  | some v => if v.chan = c then markDropped x.1 x.2.1 (dropVersion x.1 x.2.1 1 0 0 s) else s
  | none => s

/-- Its uncommitted one is not kept. -/
def pendingLost (c : Nat) (x : Nat × Nat × Harq) (s : State) : State :=
  match x.2.2.pending with
  | some (key, rec, v) =>
    if v.chan = c then markNotKept key rec ((s.onHarq x.1 x.2.1 fun h => { h with pending := none }).bump O.harqDiscards 1) else s
  | none => s

theorem versionsLost_eq (c : Nat) (s : State) : versionsLost c s
    = (s.pipe.ues.flatMap fun u => u.2.procs.map fun p => (u.1, p.1, p.2)).foldl (fun s x => pendingLost c x (committedLost c x s)) s := rfl

theorem committedLost_moves (c : Nat) (x : Nat × Nat × Harq) (s : State) : LossMoves s (committedLost c x s) := by
  unfold committedLost
  split
  · exact LossMoves.ite _ ((dropVersion_moves ..).trans (markDropped_moves ..)) (LossMoves.refl s)
  · exact LossMoves.refl s

theorem pendingLost_moves (c : Nat) (x : Nat × Nat × Harq) (s : State) : LossMoves s (pendingLost c x s) := by
  have hk : LossKey O.harqDiscards := .inl ⟨by decide, by decide⟩
  unfold pendingLost
  split
  · exact LossMoves.ite _ ((LossMoves.onHarq ..).trans ((LossMoves.bump _ _ hk).trans (markNotKept_moves ..))) (LossMoves.refl s)
  · exact LossMoves.refl s

theorem versionsLost_moves (c : Nat) (s : State) : LossMoves s (versionsLost c s) := by
  rw [versionsLost_eq]
  exact LossMoves.foldl (fun x _ s => (committedLost_moves c x s).trans (pendingLost_moves ..)) s

theorem reserveAgain_moves (c : Nat) (s : State) : LossMoves s (reserveAgain c s) := by
  refine LossMoves.foldl (fun x _ s => ?_) s
  refine (LossMoves.onCourse s x.1 fun k => { k with softRes := Store.drop k.softRes x.2.1 }).trans ?_
  dsimp only
  split
  · exact LossMoves.ite _ (LossMoves.onCourse ..) (markNotKept_moves ..)
  · exact markNotKept_moves ..

theorem dataLost_moves (c : Nat) (s : State) : LossMoves s (dataLost c s) := LossMoves.foldl (fun _ _ s => LossMoves.onCourse s _ _) s

theorem stagingLost_moves (c : Nat) (s : State) : LossMoves s (stagingLost c s) :=
  LossMoves.of_leaves (ps := [.sched]) (ks := []) (Leaves.setOps _ _ (by decide)) (by decide) nofun

theorem banksLost_moves (c : Nat) (s : State) : LossMoves s (banksLost c s) :=
  Moves.of_dict (fun p hq => by cases p <;> simp_all [Part.same, banksLost, lossParts]) rfl

/-! ## What the journal loses -/

theorem advise_lossMoves (page cause regime : Nat) (s : State) : LossMoves s (advise page cause regime s) :=
  LossMoves.raise _ (.inl ⟨by decide, by decide⟩) _ _ _

theorem endRegime_moves (s : State) : LossMoves s (endRegime s) := by
  unfold endRegime
  exact LossMoves.ite _ (LossMoves.refl s) (((LossMoves.foldl (fun p _ s => advise_lossMoves p 2 _ s) s).trans
    (LossMoves.setObj _ _ (.inl ⟨by decide, by decide⟩))).trans (LossMoves.onInteg ..))

theorem settleRegime_moves (s : State) : LossMoves s (settleRegime s) := LossMoves.ite _ (endRegime_moves s) (LossMoves.refl s)

theorem cancelCourse_moves (k : Nat) (s : State) : LossMoves s (cancelCourse k s) := by
  refine LossMoves.of_leaves (cancelCourse_leaves k s) (by decide) fun j hj => lossKey_closeKey ?_
  simp only [cancelKeys, List.mem_cons, List.not_mem_nil, or_false] at hj
  rcases hj with rfl | rfl | rfl
  · exact .inl ⟨_, rfl⟩
  · exact .inr (by decide)
  · exact .inr (by decide)

theorem bothCopiesLost_moves (s : State) : LossMoves s (bothCopiesLost s) :=
  LossMoves.trans (LossMoves.foldl (fun k _ s => cancelCourse_moves k s) s) ((closeSession_moves _).mono (by decide) fun _ h => lossKey_closeKey h)

/-- Where a copy of the journal is lost, its fault's cause is set before anything else. -/
def journalCaused (c : Nat) (s : State) : State :=
  if s.integ.copies.contains c then setCause 3 (s.setObj O.journalCopies (s.integ.copies.filter (· != c)).length) else s

theorem journalLoses_moves (c : Nat) (s : State) : LossMoves (journalCaused c s) (journalLoses c s) := by
  have hk : LossKey O.journalRebuild := .inl ⟨by decide, by decide⟩
  unfold journalLoses journalCaused
  dsimp only
  split
  · split
    · exact (((LossMoves.setObj _ _ hk).trans (LossMoves.onInteg ..)).trans (bothCopiesLost_moves _)).trans (settleRegime_moves _)
    · split
      · exact ((LossMoves.setObj _ _ hk).trans (LossMoves.onInteg ..)).trans (startRecovery_moves _)
      · exact LossMoves.onInteg ..
  · exact LossMoves.ite _ (((LossMoves.setObj _ _ hk).trans (LossMoves.onInteg ..)).trans (settleRegime_moves _)) (LossMoves.refl s)

/-! ## The operations settle -/

theorem dropKilnJob_moves (tag : Nat) (s : State) : LossMoves s (dropKilnJob tag s) :=
  LossMoves.of_leaves (dropKilnJob_leaves ..) (by decide) fun k hk => by
    rw [List.mem_singleton.mp hk]
    exact .inl ⟨by decide, by decide⟩

theorem traceOp_moves (e tag : Nat) (o : Op) (a b c : Nat) (s : State) : LossMoves s (traceOp e tag o a b c s) :=
  LossMoves.of_leaves (traceOp_leaves ..) (by decide) fun k hk => by
    simp only [traceKeys, List.mem_cons, List.not_mem_nil, or_false] at hk
    rcases hk with rfl | rfl
    · exact .inl ⟨by decide, by decide⟩
    · exact .inl ⟨by decide, by decide⟩

theorem countExpiry_moves (o : Op) {key : Nat} (hk : LossKey key) (s : State) : LossMoves s (countExpiry o key s) :=
  LossMoves.of_leaves (countExpiry_leaves ..) (by decide) fun k h => by
    simp only [List.mem_cons, List.not_mem_nil, or_false] at h
    rcases h with rfl | rfl
    · exact hk
    · exact .inl ⟨by simp only [O.expiredOps]; omega, by simp only [O.expiredOps]; omega⟩

theorem onOp_moves (s : State) (tag : Nat) (f : Op → Op) : LossMoves s (s.onOp tag f) :=
  LossMoves.of_leaves (ps := [.sched]) (ks := []) (Leaves.onOp _ _ _ (by decide)) (by decide) nofun

theorem expireOp_moves (tag : Nat) (s : State) : LossMoves s (expireOp tag s) := by
  unfold expireOp
  split
  · exact LossMoves.ite _ (((dropKilnJob_moves tag s).trans (countExpiry_moves _ (.inl ⟨by decide, by decide⟩) _)).trans
      ((onOp_moves ..).trans (traceOp_moves ..))) (LossMoves.refl s)
  · exact LossMoves.refl s

theorem settleOp_moves (s : State) (tag : Nat) : LossMoves s (settleOp s tag) := by
  unfold settleOp
  split
  · exact LossMoves.ite _ (LossMoves.ite _ (expireOp_moves ..) (LossMoves.ite _ ((onOp_moves ..).trans (traceOp_moves ..)) (LossMoves.refl s)))
      (LossMoves.ite _ (expireOp_moves ..) (LossMoves.refl s))
  · exact LossMoves.refl s

theorem partsDone_moves (s : State) : LossMoves s (partsDone s) := by
  refine LossMoves.foldl (fun p hp s => LossMoves.ite _ ?_ (LossMoves.refl s)) s
  unfold shutDone
  exact LossMoves.ite _ (LossMoves.of_leaves (ps := [.svc]) (ks := []) (Leaves.setSvc _ _ (by decide)) (by decide) nofun)
    (LossMoves.setObj _ _ (.inr (.inr ⟨p, List.mem_range.mp hp, rfl⟩)))

theorem resettle_moves (s : State) : LossMoves s (resettle s) :=
  (((LossMoves.foldl (fun tag _ s => settleOp_moves s tag) s).trans
    (LossMoves.of_leaves (ks := []) (releaseOps_leaves _) (by decide) nofun)).trans
    (LossMoves.of_leaves (ks := []) (askOutcomes_leaves _) (by decide) nofun)).trans (partsDone_moves _)

end

end Sys2Proof.Machine
end

section
/-! SUPPORT. Channels over time: mismatches, retraining, loss, and the rebuilds (15 R505, R506, R510, R517). -/
namespace Sys2Proof.Machine
open Sys2Proof.Safety

section
variable {s : State} {c : Nat}

/-! ## A channel is lost -/

/-- The state in which a channel reads LOST, with the cause of its fault. -/
def lostMarked (c : Nat) (s : State) : State := setCause 4 (s.setObj (O.chState c) 4)

/-- The state in which its holders have ended. -/
def holdersEnded (c : Nat) (s : State) : State :=
  banksLost c (stagingLost c (dataLost c (reserveAgain c (versionsLost c (contextsLost c (lostMarked c s))))))

/-- The detail of the event, of a state at which the loss comes (Table 15-5). -/
def lossDetail (c cause : Nat) (s u : State) : Bytes :=
  leBytes 1 c ++ leBytes 1 cause ++ leBytes 1 (if s.integ.copies.contains c then 1 else 0) ++ leBytes 1 0 ++ leBytes 4 (u.nat (O.chPallets c))
    ++ leBytes 4 (if s.integ.reserve.isSome then 0 else (contextsOn s c).length)
    ++ leBytes 4 (if s.integ.reserve.isSome then (contextsOn s c).length else 0)

/-- The state in which it is reported. -/
def lossRaised (c cause : Nat) (s : State) : State :=
  raise (holdersEnded c s) O.channelLostCount c (lossDetail c cause s (holdersEnded c s)) 0

/-- The state in which it is logged. -/
def lossLogged (c cause : Nat) (s : State) : State :=
  (logError 2 3 ((lossRaised c cause s).nat O.memRegime) 0 c (chanAddr c) 0 0xFF 0xFF 0 0xFFFF (lossRaised c cause s)).onInteg
    fun g => { g with edc := Store.drop g.edc c }

theorem channelLost_eq (c cause : Nat) (s : State) : channelLost c cause s = resettle (journalLoses c (lossLogged c cause s)) := rfl

theorem holdersEnded_moves (c : Nat) (s : State) : LossMoves (lostMarked c s) (holdersEnded c s) :=
  (contextsLost_moves ..).trans ((versionsLost_moves ..).trans ((reserveAgain_moves ..).trans ((dataLost_moves ..).trans
    ((stagingLost_moves ..).trans (banksLost_moves ..)))))

theorem Leaves.onInteg (s : State) (f : Integrity → Integrity) {ps : List Part} {ks : List Nat} (h : Part.integ ∈ ps) :
    Leaves s (s.onInteg f) ps ks := (Moves.onInteg (K := (· ∈ ks)) s f h).leaves fun _ h => h

/-- The state in which the error log holds one more record. -/
def errLogged (x : Bytes) (s : State) : State := (s.bump O.errLogCount 1).onInteg fun g => { g with log := keepLast 256 (g.log ++ [x]) }

theorem logError_keeps (m e r f u a sy b k l p : Nat) (s : State) : ∃ x, logError m e r f u a sy b k l p s = errLogged x s := ⟨_, rfl⟩

theorem errLogged_logs (x : Bytes) (s : State) : Leaves s (errLogged x s) [.dict, .integ] [O.errLogCount]
    ∧ (errLogged x s).integ.edc = s.integ.edc ∧ Counted s (errLogged x s) O.errLogCount 1 := by
  have hb : Leaves s (s.bump O.errLogCount 1) [.dict, .integ] [O.errLogCount] := Leaves.bump _ _ _ (by decide) (by decide)
  have hi : Leaves (s.bump O.errLogCount 1) (errLogged x s) [.dict, .integ] [O.errLogCount] := Leaves.onInteg _ _ (by decide)
  have hc : Counted s (s.bump O.errLogCount 1) O.errLogCount 1 := State.obj_bump_same ..
  have ho : (errLogged x s).obj O.errLogCount = (s.bump O.errLogCount 1).obj O.errLogCount :=
    (Leaves.onInteg (ps := [.integ]) (ks := []) _ _ (by decide)).2 _ List.not_mem_nil
  refine ⟨Leaves.trans hb hi, ?_, ho.trans hc⟩
  rw [errLogged, State.onInteg]
  dsimp only
  rw [State.bump_integ]

/-- A record of the error log is counted, and changes no mismatch that was noted. -/
theorem logError_logs (m e r f u a sy b k l p : Nat) (s : State) : Leaves s (logError m e r f u a sy b k l p s) [.dict, .integ] [O.errLogCount]
    ∧ (logError m e r f u a sy b k l p s).integ.edc = s.integ.edc ∧ Counted s (logError m e r f u a sy b k l p s) O.errLogCount 1 := by
  obtain ⟨x, hx⟩ := logError_keeps m e r f u a sy b k l p s
  rw [hx]
  exact errLogged_logs x s

theorem logError_lossMoves (m e r f u a sy b k l p : Nat) (s : State) : LossMoves s (logError m e r f u a sy b k l p s) :=
  LossMoves.of_leaves (logError_logs m e r f u a sy b k l p s).1 (by decide) fun j hj => by
    rw [List.mem_singleton.mp hj]
    exact .inl ⟨by decide, by decide⟩

theorem lossLogged_moves (c cause : Nat) (s : State) : LossMoves (lossRaised c cause s) (lossLogged c cause s) :=
  (logError_lossMoves ..).trans (LossMoves.onInteg ..)

theorem channelLost_ends (c cause : Nat) (s : State) : LossMoves (journalCaused c (lossLogged c cause s)) (channelLost c cause s) :=
  (journalLoses_moves ..).trans (resettle_moves _)

theorem journalCaused_leaves (c : Nat) (s : State) : Leaves s (journalCaused c s) [.dict] [O.journalCopies, O.faultCauses] :=
  Leaves.ite _ (Leaves.trans (Leaves.setObj _ _ _ (by decide) (by decide)) (Leaves.setCause _ _ (by decide) (by decide))) (Leaves.refl ..)

/-- Of an object that is none of the journal's and that what follows a loss leaves, the value after the report stands. -/
theorem channelLost_after {k : Nat} (hk : ¬LossKey k) (hc : k ∉ [O.journalCopies, O.faultCauses]) (cause : Nat) :
    (channelLost c cause s).obj k = (lossRaised c cause s).obj k :=
  ((channelLost_ends ..).obj k hk).trans (((journalCaused_leaves ..).2 k hc).trans ((lossLogged_moves ..).obj k hk))

theorem channelLost_state (hc : c < 16) (cause : Nat) (s : State) : (channelLost c cause s).obj (O.chState c) = 4 := by
  have h1 : O.chState c ∉ [O.journalCopies, O.faultCauses] := by
    simp only [O.chState, O.journalCopies, O.faultCauses, List.mem_cons, List.not_mem_nil, or_false]
    omega
  have h2 : O.chState c ≠ O.channelLostCount := by simp only [O.chState, O.channelLostCount]; omega
  have h3 : O.chState c ≠ O.indicationsDropped := by simp only [O.chState, O.indicationsDropped]; omega
  have h4 : O.chState c ≠ O.faultCauses := by simp only [O.chState, O.faultCauses]; omega
  exact (channelLost_after (not_lossKey_state c hc) h1 cause).trans ((State.obj_raise_ne _ _ _ _ _ _ h2 h3).trans
    (((holdersEnded_moves ..).obj _ (not_lossKey_state c hc)).trans ((State.obj_setObj_ne _ _ _ _ h4).trans (State.obj_setObj_same ..))))

theorem channelLost_counted (hc : c < 16) (cause : Nat) (s : State) : Counted s (channelLost c cause s) O.channelLostCount 1 := by
  have h1 : O.channelLostCount ≠ O.chState c := by simp only [O.chState, O.channelLostCount]; omega
  have hb : (holdersEnded c s).obj O.channelLostCount = s.obj O.channelLostCount :=
    ((holdersEnded_moves ..).obj _ not_lossKey_count).trans ((State.obj_setObj_ne _ _ _ _ (by decide)).trans (State.obj_setObj_ne _ _ _ _ h1))
  exact (channelLost_after not_lossKey_count (by decide) cause).trans (Counted.of_obj hb (raise_counted _ _ _ _ _ (by decide)))

theorem setCause_nat (bit : Nat) (s : State) : (setCause bit s).nat O.faultCauses = setBit (s.nat O.faultCauses) bit true := nat_setObj_nat ..

theorem journalCaused_bit (h : bitOf (s.nat O.faultCauses) 4 = true) : bitOf ((journalCaused c s).nat O.faultCauses) 4 = true := by
  unfold journalCaused
  split
  · rw [setCause_nat, bitOf_setBit_ne _ _ (by decide), State.nat, State.obj_setObj_ne _ _ _ _ (by decide)]
    exact h
  · exact h

theorem channelLost_cause (cause : Nat) (s : State) : bitOf ((channelLost c cause s).nat O.faultCauses) 4 = true := by
  have h1 : (channelLost c cause s).nat O.faultCauses = (journalCaused c (lossLogged c cause s)).nat O.faultCauses :=
    congrArg Int.toNat ((channelLost_ends ..).obj _ not_lossKey_causes)
  have h2 : (lossLogged c cause s).nat O.faultCauses = (lostMarked c s).nat O.faultCauses :=
    congrArg Int.toNat (((lossLogged_moves ..).obj _ not_lossKey_causes).trans ((State.obj_raise_ne _ _ _ _ _ _ (by decide) (by decide)).trans
      ((holdersEnded_moves ..).obj _ not_lossKey_causes)))
  rw [h1]
  refine journalCaused_bit ?_
  rw [h2, lostMarked, setCause_nat, bitOf_setBit_same]

theorem channelLost_same (c cause : Nat) (s : State) : SameBut s (channelLost c cause s) lossParts := by
  have h1 : SameBut s (lostMarked c s) lossParts := SameBut.trans (SameBut.setObj _ _ _ _ (by decide)) (SameBut.setObj _ _ _ _ (by decide))
  have h2 : SameBut (holdersEnded c s) (lossRaised c cause s) lossParts := SameBut.raise _ _ _ _ _ _ (by decide) (by decide)
  have h3 : SameBut (lossLogged c cause s) (journalCaused c (lossLogged c cause s)) lossParts :=
    SameBut.mono (journalCaused_leaves ..).1 (by decide)
  exact SameBut.trans h1 (SameBut.trans (holdersEnded_moves c s).1 (SameBut.trans h2 (SameBut.trans (lossLogged_moves c cause s).1
    (SameBut.trans h3 (channelLost_ends c cause s).1))))

/-- The parts that change where a channel is lost with what waits at it. -/
def lostParts : List Part := [.blobs, .dict, .integ, .kiln, .link, .mortar, .pipe, .sched, .svc, .wb]

/-- A channel is lost, and nothing waits at it (15 R506). -/
theorem channelDropped_does (hc : c < 16) (cause : Nat) (s : State) :
    (channelLost c cause (dropQueue c s)).obj (O.chState c) = 4 ∧ Counted s (channelLost c cause (dropQueue c s)) O.channelLostCount 1
      ∧ bitOf ((channelLost c cause (dropQueue c s)).nat O.faultCauses) 4 = true
      ∧ (∀ q ∈ (channelLost c cause (dropQueue c s)).mortar.queued, q.chan ≠ c)
      ∧ SameBut s (channelLost c cause (dropQueue c s)) lostParts := by
  have hd : Leaves s (dropQueue c s) [.mortar] [] := Leaves.onMortar _ _ (by decide)
  refine ⟨channelLost_state hc .., Counted.of_obj (hd.2 _ List.not_mem_nil) (channelLost_counted hc ..), channelLost_cause .., fun q hq => ?_,
    SameBut.trans (SameBut.mono hd.1 (by decide)) (SameBut.mono (channelLost_same c cause (dropQueue c s)) (by decide))⟩
  rw [channelLost_same c cause _ .mortar (by decide)] at hq
  simpa using (List.mem_filter.mp hq).2

theorem exec_gddr7ChannelLost (cause : LossCause) (hc : c < 16) (h0 : s.obj (O.chState c) ≠ 0) (h4 : s.obj (O.chState c) ≠ 4) :
    exec (.gddr7ChannelLost c cause) s = if lossHolds s c cause then .next (channelLost c (lossCode cause) (dropQueue c s)) else .next s := by
  show execGddr7ChannelLost c cause s = _
  rw [execGddr7ChannelLost, if_neg (by omega)]
  have h : (s.obj (O.chState c) != 0 && s.obj (O.chState c) != 4 && lossHolds s c cause) = lossHolds s c cause := by simp [h0, h4]
  rw [h]

/-! ## A mismatch of the link's EDC -/

/-- The state in which a mismatch is noted as the n-th in a row of its address. -/
def mismatchNoted (ch addr n : Nat) (s : State) : State := s.onInteg fun g => { g with edc := Store.put g.edc ch (addr, n) }

/-- The state in which it is counted, unless the access is no longer retried. -/
def mismatchCounted (ch addr n : Nat) (s : State) : State :=
  if n ≤ 8 then (mismatchNoted ch addr n s).bump (O.chEdcRetries ch) 1 else mismatchNoted ch addr n s

/-- The bank of a channel's address in a record. -/
def bankOf (s : State) (addr : Nat) : Nat := match regionOf s addr with
  | .chan c => (addr - chanAddr c) / 65536 % 16
  | _ => 0xFF

/-- The state in which the channel retrains. -/
def mismatchRetrains (ch addr n : Nat) (s : State) : State :=
  logError 2 2 ((mismatchCounted ch addr n s).nat O.memRegime) 0 ch addr 0 0xFF (bankOf (mismatchCounted ch addr n s) addr)
    0 0xFFFF ((mismatchCounted ch addr n s).setObj (O.chState ch) 1)

/-- The mismatches in a row of an address, with the one that comes. -/
def inRow (s : State) (ch addr : Nat) : Nat := match Store.find s.integ.edc ch with
  | some e => if e.1 == addr then e.2 + 1 else 1
  | none => 1

theorem mismatch_inRow (ch addr : Nat) (s : State) : mismatch ch addr s
    = if inRow s ch addr == 4 then mismatchRetrains ch addr (inRow s ch addr) s else mismatchCounted ch addr (inRow s ch addr) s := rfl

theorem mismatch_eq {ch addr n : Nat} (h : Store.find s.integ.edc ch = some (addr, n)
      ∨ (n = 0 ∧ ∀ a m, Store.find s.integ.edc ch = some (a, m) → a ≠ addr)) :
    mismatch ch addr s = if n = 3 then mismatchRetrains ch addr (n + 1) s else mismatchCounted ch addr (n + 1) s := by
  have hn : inRow s ch addr = n + 1 := by
    unfold inRow
    rcases h with h | ⟨rfl, h⟩
    · rw [h]
      exact if_pos (beq_self_eq_true addr)
    · cases hf : Store.find s.integ.edc ch with
      | none => rfl
      | some e => exact if_neg (by simpa using h e.1 e.2 hf)
  rw [mismatch_inRow, hn]
  by_cases h3 : n = 3
  · rw [if_pos h3, if_pos (by rw [h3]; rfl)]
  · rw [if_neg h3, if_neg (by simpa using h3)]

theorem mismatchNoted_leaves (ch addr n : Nat) (s : State) : Leaves s (mismatchNoted ch addr n s) [.dict, .integ] [O.chEdcRetries ch] :=
  Leaves.onInteg _ _ (by decide)

theorem mismatchCounted_leaves (ch addr n : Nat) (s : State) : Leaves s (mismatchCounted ch addr n s) [.dict, .integ] [O.chEdcRetries ch] :=
  Leaves.ite _ (Leaves.trans (mismatchNoted_leaves ..) (Leaves.bump _ _ _ (by decide) (by simp))) (mismatchNoted_leaves ..)

theorem mismatchCounted_edc (ch addr n : Nat) (s : State) : Store.find (mismatchCounted ch addr n s).integ.edc ch = some (addr, n) := by
  have hi : (mismatchCounted ch addr n s).integ = (mismatchNoted ch addr n s).integ := by
    unfold mismatchCounted
    split
    · exact State.bump_integ ..
    · rfl
  rw [hi]
  exact Store.find_put_same ..

theorem mismatchCounted_counts {ch addr n : Nat} (h : n ≤ 8) (s : State) : Counted s (mismatchCounted ch addr n s) (O.chEdcRetries ch) 1 := by
  rw [mismatchCounted, if_pos h]
  exact Counted.of_obj rfl (State.obj_bump_same ..)

/-- The state in which the channel reads RETRAINING. -/
def retraining (ch addr n : Nat) (s : State) : State := (mismatchCounted ch addr n s).setObj (O.chState ch) 1

theorem mismatchRetrains_log (ch addr n : Nat) (s : State) :
    Leaves (retraining ch addr n s) (mismatchRetrains ch addr n s) [.dict, .integ] [O.errLogCount]
      ∧ (mismatchRetrains ch addr n s).integ.edc = (mismatchCounted ch addr n s).integ.edc
      ∧ Counted (retraining ch addr n s) (mismatchRetrains ch addr n s) O.errLogCount 1 := by
  obtain ⟨h1, h2, h3⟩ := logError_logs 2 2 ((mismatchCounted ch addr n s).nat O.memRegime) 0 ch addr 0 0xFF
    (bankOf (mismatchCounted ch addr n s) addr) 0 0xFFFF (retraining ch addr n s)
  exact ⟨h1, h2.trans (congrArg Integrity.edc (State.setObj_integ ..)), h3⟩

/-- A mismatch is counted; the fourth in a row at one address sends the channel to retraining (15 R505, R522). -/
theorem edcMismatch_does (ch addr n : Nat) (s : State) (hc : ch < 16) (hs : s.obj (O.chState ch) = 2 ∨ s.obj (O.chState ch) = 1)
    (h : Store.find s.integ.edc ch = some (addr, n) ∨ (n = 0 ∧ ∀ a m, Store.find s.integ.edc ch = some (a, m) → a ≠ addr)) :
    ∃ t, exec (.edcMismatch ch addr) s = .next t ∧ Store.find t.integ.edc ch = some (addr, n + 1)
      ∧ (n < 8 → Counted s t (O.chEdcRetries ch) 1)
      ∧ (if n = 3 then t.obj (O.chState ch) = 1 ∧ Counted s t O.errLogCount 1 else t.obj (O.chState ch) = s.obj (O.chState ch))
      ∧ Leaves s t [.dict, .integ] [O.chEdcRetries ch, O.chState ch, O.errLogCount] := by
  have he : exec (.edcMismatch ch addr) s = .next (mismatch ch addr s) := by
    show execEdcMismatch ch addr s = _
    rw [execEdcMismatch, if_neg (by omega), if_pos (by simpa using hs)]
  have hC := mismatchCounted_leaves ch addr (n + 1) s
  have hne1 : O.chState ch ∉ [O.chEdcRetries ch] := by simp only [O.chState, O.chEdcRetries, List.mem_singleton]; omega
  have hne2 : O.errLogCount ∉ [O.chEdcRetries ch] := by simp only [O.errLogCount, O.chEdcRetries, List.mem_singleton]; omega
  rw [he, mismatch_eq h]
  by_cases h3 : n = 3
  · obtain ⟨hL, hi, hl⟩ := mismatchRetrains_log ch addr (n + 1) s
    have hne3 : O.chEdcRetries ch ≠ O.chState ch := by simp only [O.chState, O.chEdcRetries]; omega
    have hne4 : O.chEdcRetries ch ∉ [O.errLogCount] := by simp only [O.errLogCount, O.chEdcRetries, List.mem_singleton]; omega
    have hne5 : O.chState ch ∉ [O.errLogCount] := by simp only [O.errLogCount, O.chState, List.mem_singleton]; omega
    have hne6 : O.errLogCount ≠ O.chState ch := by simp only [O.errLogCount, O.chState]; omega
    simp only [if_pos h3]
    refine ⟨_, rfl, ?_, fun hn => ?_, ⟨?_, ?_⟩, ?_⟩
    · rw [hi]
      exact mismatchCounted_edc ..
    · exact (hL.2 _ hne4).trans ((State.obj_setObj_ne _ _ _ _ hne3).trans (mismatchCounted_counts (by omega) s))
    · exact (hL.2 _ hne5).trans (State.obj_setObj_same ..)
    · exact Counted.of_obj ((State.obj_setObj_ne _ _ _ _ hne6).trans (hC.2 _ hne2)) hl
    · exact Leaves.trans (Leaves.mono hC (fun _ h => h) (by simp)) (Leaves.trans (Leaves.setObj _ _ _ (by decide) (by simp))
        (Leaves.mono hL (fun _ h => h) (by simp)))
  · simp only [if_neg h3]
    exact ⟨_, rfl, mismatchCounted_edc .., fun hn => mismatchCounted_counts (by omega) s, hC.2 _ hne1, Leaves.mono hC (fun _ h => h) (by simp)⟩

end

end Sys2Proof.Machine
end

section
/-! SUPPORT. What waited at a channel is served, and the rebuilds (15 R505, R506, R510, R514, R517), and the claim. -/
namespace Sys2Proof.Machine
open Sys2Proof.Safety

section
variable {ch : Nat} {s : State}

/-! ## What waited at a channel is served -/

/-- The parts that change where what waited is performed. -/
def serveParts : List Part := [.dict, .freeCtr, .integ, .link, .mem, .mortar]

theorem countBytes_moves (w : Bool) (a n : Nat) (s : State) : Moves lineParts ErrKey s (countBytes w a n s) := by
  unfold countBytes
  split
  · next c h =>
    have := regionOf_chan_lt h
    refine Moves.bump _ _ _ (by decide) ?_
    cases w with
    | true => exact ⟨by simp only [O.chWriteBytes, if_true]; omega, by simp only [O.chWriteBytes, if_true]; omega⟩
    | false => exact ⟨by simp only [Bool.false_eq_true, if_false, O.chReadBytes]; omega,
        by simp only [Bool.false_eq_true, if_false, O.chReadBytes]; omega⟩
  · exact Moves.refl s

theorem errMoves_line {s t : State} (h : Moves errParts ErrKey s t) : Moves lineParts ErrKey s t := h.mono (by decide) fun _ h => h

theorem readLine_moves (src : Nat) (s : State) (line : Nat) : Moves lineParts ErrKey s (readLine src s line) := by
  refine (countBytes_moves false (line * 64) 64 s).trans ?_
  unfold readLine
  dsimp only
  split
  · exact Moves.ite _ (Moves.refl _) (errMoves_line (metPoison_moves ..))
  · exact Moves.refl _

theorem doRead_moves (src : Nat) (lines : List Nat) (found : List MemError) (s : State) : Moves lineParts ErrKey s (doRead src lines found s) :=
  (Moves.foldl _ found (fun e _ s => errMoves_line (noteError_moves 0 s e)) s).trans (Moves.foldl _ lines (fun l _ s => readLine_moves src s l) _)

theorem doWrite_moves (cells : List (List Host.Cell)) (found : List MemError) (s : State) : Moves lineParts ErrKey s (doWrite cells found s) :=
  (Moves.foldl _ found (fun e _ s => errMoves_line (noteError_moves 2 s e)) s).trans
    (Moves.foldl _ cells (fun l _ s => (countBytes_moves true _ _ s).trans (writeLine_moves l _)) _)

/-- The state in which a request no longer waits. -/
def unqueued (q : Queued) (s : State) : State := s.onMortar fun m => { m with queued := m.queued.filter (· != q) }

theorem performQueued_moves (q : Queued) (s : State) : Moves lineParts ErrKey (unqueued q s) (performQueued q s) :=
  Moves.ite _ (doRead_moves ..) (doWrite_moves ..)

/-- The state in which a request that waited is performed, and its input granted. -/
def served (ch i cycle : Nat) (q : Queued) (s : State) : State := grantChannel ch i cycle (performQueued q s)

theorem served_moves (i cycle : Nat) (q : Queued) (s : State) : Moves serveParts ErrKey s (served ch i cycle q s) :=
  (Moves.of_leaves (ks := []) (Leaves.onMortar _ _ (by decide)) nofun).trans (((performQueued_moves q s).mono (by decide) fun _ h => h).trans
    (Moves.of_leaves (ks := []) (Leaves.onMortar _ _ (by decide)) nofun))

theorem served_queued (i cycle : Nat) (q : Queued) (s : State) : (served ch i cycle q s).mortar.queued = s.mortar.queued.filter (· != q) := by
  have h : (performQueued q s).mortar = (unqueued q s).mortar := (performQueued_moves q s).same .mortar (by decide)
  exact congrArg Mortar.queued h

theorem served_arb (i cycle : Nat) (q : Queued) (s : State) (k : Nat) : (served ch i cycle q s).arb true k = s.arb true k := by
  have h : (performQueued q s).mortar = (unqueued q s).mortar := (performQueued_moves q s).same .mortar (by decide)
  have hm : (served ch i cycle q s).mortar.mc = s.mortar.mc :=
    (rfl : _ = (performQueued q s).mortar.mc).trans ((congrArg Mortar.mc h).trans rfl)
  exact congrArg (fun m => Store.at Arb.fresh m k) hm

/-- What waits at a channel. -/
def waitsAt (ch : Nat) (s : State) : List Queued := s.mortar.queued.filter fun q => q.chan == ch

/-- The input that a cycle grants. -/
def winnerAt (ch cycle : Nat) (s : State) : Option Nat := channelWinner s ch cycle ((waitsAt ch s).map fun q => channelInput q.src)

theorem serveFrom_succ (ch k cycle : Nat) (s : State) : serveFrom ch (k + 1) cycle s = match winnerAt ch cycle s with
    | none => if (waitsAt ch s).isEmpty then s else serveFrom ch k (cycle + 1) s
    | some i => match (waitsAt ch s).find? fun q => channelInput q.src == i with
      | some q => serveFrom ch k (cycle + 1) (served ch i cycle q s)
      | none => serveFrom ch k (cycle + 1) s := rfl

theorem serveFrom_steps {P : State → State → Prop} (hr : ∀ s, P s s) (ht : ∀ {s t u}, P s t → P t u → P s u)
    (hs : ∀ i cycle q s, P s (served ch i cycle q s)) (k cycle : Nat) (s : State) : P s (serveFrom ch k cycle s) := by
  induction k generalizing cycle s with
  | zero => exact hr s
  | succ k ih =>
    rw [serveFrom_succ]
    split
    · split
      · exact hr s
      · exact ih ..
    · split
      · exact ht (hs ..) (ih ..)
      · exact ih ..

theorem serveFrom_moves (k cycle : Nat) (s : State) : Moves serveParts ErrKey s (serveFrom ch k cycle s) :=
  serveFrom_steps (P := Moves serveParts ErrKey) Moves.refl Moves.trans served_moves k cycle s

theorem serveFrom_queued (k cycle : Nat) (s : State) : ∀ q ∈ (serveFrom ch k cycle s).mortar.queued, q ∈ s.mortar.queued :=
  serveFrom_steps (P := fun s t => ∀ q ∈ t.mortar.queued, q ∈ s.mortar.queued) (fun _ _ h => h) (fun h1 h2 q hq => h1 q (h2 q hq))
    (fun i cycle q s r hr => (List.mem_filter.mp (served_queued (ch := ch) i cycle q s ▸ hr)).1) k cycle s

/-- The better of two inputs by their rank, the lower among equals. -/
def betterInput (rank : Nat → Nat) (best : Option Nat) (i : Nat) : Option Nat :=
  match best with
  | none => some i
  | some b => if rank b < rank i || (rank i == rank b && decide (i < b)) then some i else best

theorem betterInput_some (rank : Nat → Nat) (l : List Nat) (b : Nat) : ∃ i, l.foldl (betterInput rank) (some b) = some i ∧ (i = b ∨ i ∈ l) := by
  induction l generalizing b with
  | nil => exact ⟨b, rfl, .inl rfl⟩
  | cons a l ih =>
    have hb : betterInput rank (some b) a = some a ∨ betterInput rank (some b) a = some b := by
      unfold betterInput
      dsimp only
      split
      · exact .inl rfl
      · exact .inr rfl
    rw [List.foldl_cons]
    rcases hb with hb | hb
    · obtain ⟨i, hi, hm⟩ := ih a
      rw [hb]
      exact ⟨i, hi, .inr (hm.elim (fun h => h ▸ .head _) (.tail _))⟩
    · obtain ⟨i, hi, hm⟩ := ih b
      rw [hb]
      exact ⟨i, hi, hm.imp_right (.tail _)⟩

/-- Unless the table is frozen, a cycle grants one of the inputs at which something waits. -/
theorem channelWinner_some {inputs : List Nat} (hf : bitOf (bytesAt (s.arb true ch).front 0 1) 0 = false) (cycle : Nat) (hi : inputs ≠ []) :
    ∃ i ∈ inputs, channelWinner s ch cycle inputs = some i := by
  unfold channelWinner
  dsimp only
  split
  · next h => exact ⟨_, List.contains_iff_mem.mp h, rfl⟩
  · obtain ⟨a, l, rfl⟩ := List.exists_cons_of_ne_nil hi
    obtain ⟨i, hi, hm⟩ := betterInput_some (fun i => match Store.find s.mortar.mcGrants (ch * 8 + i) with
      | some g => min 1023 (cycle - g)
      | none => 1023) l a
    rw [if_neg (by rw [hf]; decide)]
    exact ⟨i, hm.elim (fun h => h ▸ .head _) (.tail _), hi⟩

/-- In a cycle in which something waits, one request is performed. -/
theorem serveFrom_serves (hf : bitOf (bytesAt (s.arb true ch).front 0 1) 0 = false) (hw : waitsAt ch s ≠ []) (k cycle : Nat) :
    ∃ i, ∃ q ∈ waitsAt ch s, serveFrom ch (k + 1) cycle s = serveFrom ch k (cycle + 1) (served ch i cycle q s) := by
  obtain ⟨i, hi, hwin⟩ := channelWinner_some hf cycle (inputs := (waitsAt ch s).map fun q => channelInput q.src) (by simpa using hw)
  obtain ⟨q, hq, hqi⟩ := List.mem_map.mp hi
  have hfind : ((waitsAt ch s).find? fun q => channelInput q.src == i).isSome := List.find?_isSome.mpr ⟨q, hq, by simpa using hqi⟩
  obtain ⟨r, hr⟩ := Option.isSome_iff_exists.mp hfind
  refine ⟨i, r, List.mem_of_find?_eq_some hr, ?_⟩
  rw [serveFrom_succ, winnerAt, hwin]
  dsimp only
  rw [hr]

theorem waitsAt_served {q : Queued} (hq : q ∈ waitsAt ch s) (i cycle : Nat) :
    (waitsAt ch (served ch i cycle q s)).length < (waitsAt ch s).length := by
  have h : waitsAt ch (served ch i cycle q s) = (waitsAt ch s).filter (· != q) := by
    rw [waitsAt, served_queued, waitsAt, List.filter_filter, List.filter_filter]
    exact List.filter_congr fun _ _ => Bool.and_comm ..
  rw [h]
  exact List.length_filter_lt_length_iff_exists.mpr ⟨q, hq, by simp⟩

theorem serveFrom_empties (hf : bitOf (bytesAt (s.arb true ch).front 0 1) 0 = false) (k cycle : Nat) (hk : (waitsAt ch s).length ≤ k) :
    waitsAt ch (serveFrom ch k cycle s) = [] := by
  induction k generalizing cycle s with
  | zero => exact List.eq_nil_of_length_eq_zero (Nat.le_zero.mp hk)
  | succ k ih =>
    by_cases hw : waitsAt ch s = []
    · have hn : serveFrom ch (k + 1) cycle s = serveFrom ch k (cycle + 1) s ∨ serveFrom ch (k + 1) cycle s = s := by
        rw [serveFrom_succ, hw]
        cases winnerAt ch cycle s with
        | none => exact .inr rfl
        | some i => exact .inl rfl
      rcases hn with hn | hn
      · rw [hn]
        exact ih hf _ (by rw [hw]; exact Nat.zero_le _)
      · rw [hn, hw]
    · obtain ⟨i, q, hq, he⟩ := serveFrom_serves hf hw k cycle
      have hlt := waitsAt_served hq i cycle
      rw [he]
      exact ih (by rw [served_arb]; exact hf) _ (by omega)

/-- The state in which the channel is in service again. -/
def retrained (ch : Nat) (s : State) : State := s.setObj (O.chState ch) 2

theorem serveQueue_does (ch : Nat) (s : State) : (serveQueue ch (retrained ch s)).obj (O.chState ch) = 2
    ∧ (bitOf (bytesAt (s.arb true ch).front 0 1) 0 = false → ∀ q ∈ (serveQueue ch (retrained ch s)).mortar.queued, q.chan ≠ ch)
    ∧ (∀ q ∈ (serveQueue ch (retrained ch s)).mortar.queued, q ∈ s.mortar.queued)
    ∧ SameBut s (serveQueue ch (retrained ch s)) serveParts := by
  have hm : (retrained ch s).mortar = s.mortar := State.setObj_mortar ..
  have hM := serveFrom_moves (ch := ch) (64 * (waitsAt ch (retrained ch s)).length) (retrained ch s).mortar.cycle (retrained ch s)
  have hS : SameBut s (retrained ch s) serveParts := SameBut.setObj _ _ _ _ (by decide)
  refine ⟨(hM.obj _ (not_errKey_state (by simp only [O.chState]; omega))).trans (State.obj_setObj_same ..), fun hf q hq hc => ?_, fun q hq => ?_,
    SameBut.trans hS hM.1⟩
  · have ha : (retrained ch s).arb true ch = s.arb true ch := congrArg (fun m : Mortar => Store.at Arb.fresh m.mc ch) hm
    have he := serveFrom_empties (s := retrained ch s) (ch := ch) (by rw [ha]; exact hf) (64 * (waitsAt ch (retrained ch s)).length)
      (retrained ch s).mortar.cycle (by omega)
    have hw : q ∈ waitsAt ch (serveQueue ch (retrained ch s)) := List.mem_filter.mpr ⟨hq, by simpa using hc⟩
    exact absurd (he ▸ hw) List.not_mem_nil
  · rw [← hm]
    exact serveFrom_queued _ _ _ q hq

theorem exec_channelRetrainComplete (hc : ch < 16) (hs : s.obj (O.chState ch) = 1) (ok : Bool) : exec (.channelRetrainComplete ch ok) s
    = .next (if ok then serveQueue ch (retrained ch s) else channelLost ch (lossCode .retraining) (dropQueue ch s)) := by
  show execChannelRetrainComplete ch ok s = _
  rw [execChannelRetrainComplete, if_neg (by omega), if_pos (by rw [hs]; rfl)]
  rfl

/-- A retraining ends: the channel serves what waited, or is lost (15 R505, R506). -/
theorem channelRetrainComplete_does (ch : Nat) (s : State) (hc : ch < 16) (hs : s.obj (O.chState ch) = 1) :
    (∃ t, exec (.channelRetrainComplete ch true) s = .next t ∧ t.obj (O.chState ch) = 2
        ∧ (bitOf (bytesAt (s.arb true ch).front 0 1) 0 = false → ∀ q ∈ t.mortar.queued, q.chan ≠ ch)
        ∧ (∀ q ∈ t.mortar.queued, q ∈ s.mortar.queued)
        ∧ SameBut s t [.dict, .freeCtr, .integ, .link, .mem, .mortar])
    ∧ (∃ t, exec (.channelRetrainComplete ch false) s = .next t ∧ t.obj (O.chState ch) = 4 ∧ Counted s t O.channelLostCount 1
        ∧ bitOf (t.nat O.faultCauses) 4 = true ∧ SameBut s t [.blobs, .dict, .integ, .kiln, .link, .mortar, .pipe, .sched, .svc, .wb]) := by
  obtain ⟨h1, h2, h3, -, h5⟩ := channelDropped_does hc (lossCode .retraining) s
  exact ⟨⟨_, exec_channelRetrainComplete hc hs true, serveQueue_does ch s⟩, ⟨_, exec_channelRetrainComplete hc hs false, h1, h2, h3, h5⟩⟩

/-! ## A request that waited too long -/

theorem channelQueueRetry_does (src tag : Nat) (q : Queued) (hc : ch < 16)
    (hf : s.mortar.queued.find? (fun q => q.chan == ch && q.src == src && q.tag == tag) = some q) :
    ∃ t, exec (.channelQueueRetry ch src tag) s = .next t ∧ q ∉ t.mortar.queued ∧ q.arrived + ticksOfNs 3000 ≤ t.clock.ticks
      ∧ (∀ r ∈ s.mortar.queued, r ≠ q → r ∈ t.mortar.queued) ∧ Leaves s t (.mortar :: timeParts) [] := by
  have he : exec (.channelQueueRetry ch src tag) s = .next (unqueued q (advanceTicks s (q.arrived + ticksOfNs 3000))) := by
    show execChannelQueueRetry ch src tag s = _
    rw [execChannelQueueRetry, if_neg (by omega), hf]
    rfl
  have hA : Leaves s (advanceTicks s (q.arrived + ticksOfNs 3000)) (.mortar :: timeParts) [] := advanceTicks_leaves s _ (by decide)
  have hm : (advanceTicks s (q.arrived + ticksOfNs 3000)).mortar = s.mortar :=
    (advanceTicks_leaves s _ (ps := timeParts) (ks := []) (fun _ h => h)).1 .mortar (by decide)
  have hu : Leaves (advanceTicks s (q.arrived + ticksOfNs 3000)) (unqueued q (advanceTicks s (q.arrived + ticksOfNs 3000))) (.mortar :: timeParts) [] :=
    Leaves.onMortar _ _ (by decide)
  have hq : (unqueued q (advanceTicks s (q.arrived + ticksOfNs 3000))).mortar.queued = s.mortar.queued.filter (· != q) :=
    congrArg (fun m : Mortar => m.queued.filter (· != q)) hm
  refine ⟨_, he, ?_, le_advanceTicks .., fun r hr hn => ?_, Leaves.trans hA hu⟩
  · rw [hq]
    exact fun h => by simpa using (List.mem_filter.mp h).2
  · rw [hq]
    exact List.mem_filter.mpr ⟨hr, by simpa using hn⟩

/-! ## Rebuilds -/

/-- The state in which every page that a regime names is advised. -/
def advised (regime : Nat) (pages : List Nat) (s : State) : State := pages.foldl (fun s p => advise p 2 regime s) s

/-- The state in which a regime has ended. -/
def regimeOver (s : State) : State := (s.setObj O.memRegime 0).onInteg fun g => { g with repeats := [], afterWarm := false }

theorem endRegime_eq (h : s.nat O.memRegime ≠ 0) : ∃ pages, endRegime s = regimeOver (advised (s.nat O.memRegime) pages s) := by
  unfold endRegime
  rw [if_neg (by simpa using h)]
  exact ⟨_, rfl⟩

theorem advised_leaves (regime : Nat) (pages : List Nat) (s : State) :
    Leaves s (advised regime pages s) [.dict, .link] [O.retireAdvisedCount, O.indicationsDropped] :=
  Leaves.foldl _ _ (fun _ _ _ => Leaves.raise _ _ _ _ _ (by decide) (by decide) (by decide) (by decide)) s

theorem regimeOver_leaves (s : State) : Leaves s (regimeOver s) [.dict, .integ] [O.memRegime] :=
  Leaves.trans (Leaves.setObj _ _ _ (by decide) (by decide)) (Leaves.onInteg _ _ (by decide))

/-- What the end of a regime leaves of the integrity of the memories, and of the objects. -/
theorem settleRegime_keeps (s : State) : ∃ g : Integrity, (settleRegime s).integ = { s.integ with repeats := g.repeats, afterWarm := g.afterWarm } ∧
    Leaves s (settleRegime s) [.dict, .integ, .link] [O.memRegime, O.retireAdvisedCount, O.indicationsDropped] := by
  unfold settleRegime
  by_cases hc : (s.obj O.memRegime == 3 && !s.integ.mirror && s.integ.toBuild.isEmpty && !s.integ.afterWarm) = true
  · rw [if_pos hc]
    have hn : s.nat O.memRegime ≠ 0 := by
      have h3 : s.obj O.memRegime = 3 := by
        simp only [Bool.and_eq_true, beq_iff_eq] at hc
        exact hc.1.1.1
      rw [State.nat, h3]
      decide
    obtain ⟨pages, he⟩ := endRegime_eq hn
    have hA := advised_leaves (s.nat O.memRegime) pages s
    have hi : (regimeOver (advised (s.nat O.memRegime) pages s)).integ
        = { (advised (s.nat O.memRegime) pages s).integ with repeats := [], afterWarm := false } :=
      congrArg (fun g : Integrity => { g with repeats := [], afterWarm := false }) (State.setObj_integ ..)
    rw [he]
    refine ⟨{ s.integ with repeats := [], afterWarm := false }, ?_, ?_⟩
    · rw [hi, hA.1 .integ (by decide)]
    · exact Leaves.trans (Leaves.mono hA (by decide) (by decide)) (Leaves.mono (regimeOver_leaves _) (by decide) (by decide))
  · rw [if_neg hc]
    exact ⟨s.integ, rfl, Leaves.refl ..⟩

/-- RECOVERY ends once nothing holds it. -/
theorem settleRegime_over (hm : s.integ.mirror = false) (ht : s.integ.toBuild = []) (ha : s.integ.afterWarm = false) (hr : s.obj O.memRegime = 3) :
    (settleRegime s).obj O.memRegime = 0 ∧ (settleRegime s).integ.repeats = [] := by
  have hn : s.nat O.memRegime ≠ 0 := by
    rw [State.nat, hr]
    decide
  obtain ⟨pages, he⟩ := endRegime_eq hn
  rw [settleRegime, if_pos (by rw [hr, hm, ht, ha]; rfl), he]
  exact ⟨State.obj_setObj_same (advised (s.nat O.memRegime) pages s) O.memRegime 0, rfl⟩

/-- The state in which no context is to be rebuilt. -/
def contextsBuilt (s : State) : State := s.onInteg fun g => { g with toBuild := [] }

/-- The rebuild of the context table ends, and with it RECOVERY (15 R506, R517). -/
theorem contextRebuildComplete_does (s : State) (hb : s.integ.toBuild ≠ []) (hm : s.integ.mirror = false) (ha : s.integ.afterWarm = false)
    (hr : s.obj O.memRegime = 3) :
    ∃ t, exec .contextRebuildComplete s = .next t ∧ t.integ.toBuild = [] ∧ t.obj O.memRegime = 0 ∧ t.integ.repeats = []
      ∧ SameBut s t [.dict, .integ, .link] := by
  have he : exec .contextRebuildComplete s = .next (settleRegime (contextsBuilt s)) := by
    show execContextRebuildComplete s = _
    rw [execContextRebuildComplete, if_neg (by simpa using hb)]
    rfl
  have hB : Leaves s (contextsBuilt s) [.dict, .integ, .link] [] := Leaves.onInteg _ _ (by decide)
  obtain ⟨g, hg, hL⟩ := settleRegime_keeps (contextsBuilt s)
  obtain ⟨h1, h2⟩ := settleRegime_over (s := contextsBuilt s) hm rfl ha ((hB.2 _ List.not_mem_nil).trans hr)
  refine ⟨_, he, ?_, h1, h2, SameBut.trans hB.1 hL.1⟩
  rw [hg]
  rfl

/-- The state in which the standby is the new copy of the journal. -/
def journalBuilt (c : Nat) (s : State) : State :=
  ((s.onInteg fun g => { g with copies := g.copies ++ [c], standby := none, mirror := false }).setObj O.journalCopies
    (s.integ.copies ++ [c]).length).setObj O.journalRebuild 100

theorem journalBuilt_integ (c : Nat) (s : State) :
    (journalBuilt c s).integ = { s.integ with copies := s.integ.copies ++ [c], standby := none, mirror := false } :=
  (State.setObj_integ ..).trans (State.setObj_integ ..)

/-- The rebuild of the journal ends: the standby is its new copy (15 R510). -/
theorem journalRebuildComplete_does (c : Nat) (s : State) (hm : s.integ.mirror = true) (hc : s.integ.standby = some c) :
    ∃ t, exec .journalRebuildComplete s = .next t ∧ t.integ.copies = s.integ.copies ++ [c] ∧ t.integ.standby = none
      ∧ t.integ.mirror = false ∧ t.obj O.journalCopies = (s.integ.copies.length + 1 : Nat) ∧ t.obj O.journalRebuild = 100
      ∧ SameBut s t [.dict, .integ, .link] := by
  have he : exec .journalRebuildComplete s = .next (settleRegime (journalBuilt c s)) := by
    show execJournalRebuildComplete s = _
    rw [execJournalRebuildComplete, hm, hc]
    rfl
  obtain ⟨g, hg, hL⟩ := settleRegime_keeps (journalBuilt c s)
  have hS : SameBut s (journalBuilt c s) [.dict, .integ, .link] :=
    (Leaves.trans (Leaves.onInteg s _ (by decide)) (Leaves.trans (Leaves.setObj _ _ _ (by decide) (by decide))
      (Leaves.setObj _ _ _ (by decide) (by decide))) : Leaves s (journalBuilt c s) [.dict, .integ, .link] [O.journalCopies, O.journalRebuild]).1
  have hj : (journalBuilt c s).obj O.journalCopies = (s.integ.copies.length + 1 : Nat) := by
    rw [journalBuilt, State.obj_setObj_ne _ _ _ _ (by decide), State.obj_setObj_same, List.length_append]
    rfl
  rw [journalBuilt_integ] at hg
  refine ⟨_, he, ?_, ?_, ?_, (hL.2 _ (by decide)).trans hj, (hL.2 _ (by decide)).trans (State.obj_setObj_same ..), SameBut.trans hS hL.1⟩
  · rw [hg]
  · rw [hg]
  · rw [hg]

end

end Sys2Proof.Machine
open Sys2Proof Sys2Proof.Machine Sys2Proof.Safety

/-- Settles O46: the loss of a channel by what each of its stages may change, and what waited by the length of the list that a cycle shortens. -/
theorem channelsAndRebuilds : Obligations.ChannelsAndRebuilds := by
  unfold Obligations.ChannelsAndRebuilds
  refine ⟨edcMismatch_does, channelRetrainComplete_does, fun _ _ _ _ _ hc hf => channelQueueRetry_does _ _ _ hc hf, fun ch cause s hc h0 h4 => ⟨fun hl => ?_, fun hl => ?_⟩,
    contextRebuildComplete_does, journalRebuildComplete_does⟩
  · exact ⟨_, (exec_gddr7ChannelLost cause hc h0 h4).trans (if_pos hl), channelDropped_does hc ..⟩
  · exact (exec_gddr7ChannelLost cause hc h0 h4).trans (if_neg (by rw [hl]; decide))
end

section
/-! SUPPORT. Requests that their sources hold, and how their packets and answers cross the fabric (14 R459 to R466, R475). -/
namespace Sys2Proof.Machine
open Sys2Proof.Safety

/-! ## What crossing changes -/

theorem runFabric_moves (depth : Nat) (want : Flit) : ∀ (k : Nat) (s : State), MovesOnly s (runFabric depth want k s)
  | 0, s => rfl
  | k + 1, s => by
    unfold runFabric
    split
    · rfl
    · exact (fabricCycle_moves _ s).trans (runFabric_moves depth want k _)

theorem transit_moves (f : Flit) (n : Nat) (s : State) : MovesOnly s (transit f n s).1 :=
  (injectPacket_moves f n s).trans ((runFabric_moves _ f transitLimit _).trans (MovesOnly.onMortar _ rfl))

theorem MovesOnly.foldl {α : Type} {f : State → α → State} (h : ∀ a s, MovesOnly s (f s a)) (l : List α) (s : State) : MovesOnly s (l.foldl f s) := by
  induction l generalizing s with
  | nil => exact MovesOnly.refl s
  | cons a l ih => exact (h a s).trans (ih _)

theorem MovesOnly.told {s t : State} (h : MovesOnly s t) : t.mortar.told = s.mortar.told := by rw [h]

theorem MovesOnly.seen {s t : State} (h : MovesOnly s t) : t.mortar.seen = s.mortar.seen := by rw [h]

theorem injectAnswers_moves (src dst tag type lines : Nat) (s : State) : MovesOnly s (injectAnswers src dst tag type lines s) :=
  MovesOnly.foldl (fun _ s => injectPacket_moves _ _ s) _ s

theorem injectAnswers_leaves (src dst tag type lines : Nat) (s : State) {ks : List Nat} :
    Leaves s (injectAnswers src dst tag type lines s) [.mortar] ks :=
  Leaves.foldl _ _ (fun _ _ s => injectPacket_leaves_mortar _ _ s) s

/-! ## What a source holds -/

section
variable {s t : State} {h : Held} {src tag : Nat}

theorem heldOf_congr (hr : t.mortar.reqs = s.mortar.reqs) (src tag : Nat) : heldOf t src tag = heldOf s src tag := by rw [heldOf, hr, heldOf]

theorem heldOf_key (hh : heldOf s src tag = some h) : h.src = src ∧ h.tag = tag := by
  have hk := List.find?_some hh
  simpa using hk

theorem heldOf_mem (hh : heldOf s src tag = some h) : h ∈ s.mortar.reqs := List.mem_of_find?_eq_some hh

theorem holdRequest_leaves (h : Held) (s : State) {ks : List Nat} : Leaves s (holdRequest h s) [.mortar] ks := by
  unfold holdRequest
  split
  · exact Leaves.onMortar _ _ (by decide)
  · exact Leaves.onMortar _ _ (by decide)

theorem holdRequest_told (h : Held) (s : State) : (holdRequest h s).mortar.told = s.mortar.told := by
  unfold holdRequest
  split
  · rfl
  · rfl

theorem holdRequest_seen (h : Held) (s : State) : (holdRequest h s).mortar.seen = s.mortar.seen := by
  unfold holdRequest
  split
  · rfl
  · rfl

/-- A request that is held again. -/
def Held.again (now : Nat) (h x : Held) : Held := if x.src == h.src && x.tag == h.tag then { x with sentAt := now, resend := false } else x

theorem find_map_key {f : Held → Held} {l : List Held} (hf : ∀ x, (f x).src = x.src ∧ (f x).tag = x.tag) (src tag : Nat) :
    (l.map f).find? (fun x => x.src == src && x.tag == tag) = (l.find? fun x => x.src == src && x.tag == tag).map f := by
  rw [List.find?_map]
  congr 1
  exact congrArg (List.find? · l) (funext fun x => by rw [Function.comp, (hf x).1, (hf x).2])

theorem again_key (now : Nat) (h x : Held) : (Held.again now h x).src = x.src ∧ (Held.again now h x).tag = x.tag := by
  unfold Held.again
  split
  · exact ⟨rfl, rfl⟩
  · exact ⟨rfl, rfl⟩

theorem heldOf_holdRequest_new (hn : heldOf s h.src h.tag = none) : heldOf (holdRequest h s) h.src h.tag = some h := by
  have hr : (holdRequest h s).mortar.reqs = s.mortar.reqs ++ [h] := by rw [holdRequest, hn]; rfl
  rw [heldOf, hr, List.find?_append, show s.mortar.reqs.find? (fun x => x.src == h.src && x.tag == h.tag) = none from hn]
  simp

theorem heldOf_holdRequest (h : Held) (s : State) : (heldOf (holdRequest h s) h.src h.tag).isSome = true := by
  cases hn : heldOf s h.src h.tag with
  | none => rw [heldOf_holdRequest_new hn]; rfl
  | some x =>
    have hr : (holdRequest h s).mortar.reqs = s.mortar.reqs.map (Held.again s.clock.ticks h) := by rw [holdRequest, hn]; rfl
    rw [heldOf, hr, find_map_key (again_key _ _), show s.mortar.reqs.find? (fun x => x.src == h.src && x.tag == h.tag) = some x from hn]
    rfl

/-- The requests with one replaced. -/
def Held.swap (h x : Held) (y : Held) : Held := if y = h then x else y

theorem heldOf_swap (hh : heldOf s src tag = some h) {x : Held} (hx : x.src = h.src ∧ x.tag = h.tag) {u : State}
    (hu : u.mortar.reqs = s.mortar.reqs.map (Held.swap h x)) : heldOf u src tag = some x := by
  have hk (y : Held) : (Held.swap h x y).src = y.src ∧ (Held.swap h x y).tag = y.tag := by
    unfold Held.swap
    split
    · next he => exact he ▸ hx
    · exact ⟨rfl, rfl⟩
  rw [heldOf, hu, find_map_key hk, show s.mortar.reqs.find? (fun x => x.src == src && x.tag == tag) = some h from hh]
  exact congrArg some (if_pos rfl)

/-! ## A request crosses -/

/-- What a source holds of a packet that it sends. -/
def heldFor (pkt : Packet) (type : Nat) (s : State) : Held :=
  newHeld s pkt type pkt.addr pkt.lines (targetPort s pkt) (regionDomain (regionOf s pkt.addr))

/-- The state in which a request is held, and its packet has crossed or not. -/
def crossed (h : Held) (f : Flit) (n : Nat) (s : State) : State := (transit f n (holdRequest h s)).1

theorem crossed_leaves (h : Held) (f : Flit) (n : Nat) (s : State) : Leaves s (crossed h f n s) [.dict, .mortar] [O.grantsLost] :=
  Leaves.trans (Leaves.mono (holdRequest_leaves h s (ks := [])) (by decide) nofun) (transit_leaves ..)

theorem crossed_moves (h : Held) (f : Flit) (n : Nat) (s : State) : MovesOnly (holdRequest h s) (crossed h f n s) := transit_moves ..

/-- The state in which the answers of the target have set out as well. -/
def answersOut (h : Held) (f : Flit) (n lines : Nat) (s : State) : State := injectAnswers f.src f.dst f.tag h.type lines (crossed h f n s)

theorem answersOut_leaves (h : Held) (f : Flit) (n lines : Nat) (s : State) : Leaves s (answersOut h f n lines s) [.dict, .mortar] [O.grantsLost] :=
  Leaves.trans (crossed_leaves ..) (Leaves.mono (injectAnswers_leaves _ _ _ _ _ _ (ks := [])) (by decide) nofun)

theorem answersOut_moves (h : Held) (f : Flit) (n lines : Nat) (s : State) : MovesOnly (holdRequest h s) (answersOut h f n lines s) :=
  (crossed_moves ..).trans (injectAnswers_moves ..)

theorem answersOut_held (h : Held) (f : Flit) (n lines : Nat) (s : State) :
    heldOf (answersOut h f n lines s) h.src h.tag = heldOf (holdRequest h s) h.src h.tag := heldOf_congr (answersOut_moves ..).reqs _ _

theorem crossed_held (h : Held) (f : Flit) (n : Nat) (s : State) :
    heldOf (crossed h f n s) h.src h.tag = heldOf (holdRequest h s) h.src h.tag := heldOf_congr (crossed_moves ..).reqs _ _

end

/-! ## Where it is answered -/

section
variable {s u : State}

theorem AnswersAlike.fabric (h : AnswersAlike s u) (w : Bool) (src a : Nat) : fabricAnswer u w src a = fabricAnswer s w src a := by
  unfold fabricAnswer
  rw [h.map.region]
  cases regionOf s a with
  | nowhere => exact h.hod ..
  | feed => exact h.hod ..
  | tile t => simp only [h.hod, h.runs]
  | store c => exact h.hod ..
  | chan c => exact h.hod ..

theorem MapAlike.training (h : MapAlike s u) (a : Nat) : trainingChan u a = trainingChan s a := by
  simp only [trainingChan, h.region, h.state]

theorem MapAlike.lost (h : MapAlike s u) (a : Nat) : onLost u a = onLost s a := by
  simp only [onLost, h.region, h.state]

theorem MapAlike.trans {t : State} (h1 : MapAlike s t) (h2 : MapAlike t u) : MapAlike s u :=
  ⟨fun c => (h2.pallets c).trans (h1.pallets c), fun c => (h2.state c).trans (h1.state c)⟩

/-- GRANTS_LOST is none of what an answer depends on. -/
theorem answersAlike_of_leaves {ps : List Part} (h : Leaves s u ps [O.grantsLost]) : AnswersAlike s u := by
  have ho {k : Nat} (hk : k % 256 ≠ 7) : u.obj k = s.obj k := h.2 k (by simp only [O.grantsLost, List.mem_singleton]; omega)
  exact ⟨⟨fun c => ho (by simp only [O.chPallets]; omega), fun c => ho (by simp only [O.chState]; omega)⟩,
    fun d => ho (by simp only [O.domainState]; omega), fun t => ho (by simp only [O.tileState]; omega),
    fun n => ho (by simp only [O.bondState]; omega)⟩

theorem mapAlike_of_moves {ps : List Part} (h : Moves ps ErrKey s u) : MapAlike s u :=
  ⟨fun c => h.obj _ fun hk => hk.2.1 (by simp only [O.chPallets]; omega), fun c => h.obj _ fun hk => hk.1 (by simp only [O.chState]; omega)⟩

theorem mapAlike_delivered (n : Nat) (s : State) : MapAlike s (s.bump O.flitsDelivered n) :=
  ⟨fun c => State.obj_bump_ne _ _ _ _ (by simp only [O.chPallets, O.flitsDelivered]; omega),
    fun c => State.obj_bump_ne _ _ _ _ (by simp only [O.chState, O.flitsDelivered]; omega)⟩

theorem grantAt_leaves (a src : Nat) (s : State) {ks : List Nat} : Leaves s (grantAt a src s) [.mortar] ks := by
  unfold grantAt
  split
  · exact Leaves.onMortar _ _ (by decide)
  · exact Leaves.refl ..

theorem grantAt_reqs (a src : Nat) (s : State) : (grantAt a src s).mortar.reqs = s.mortar.reqs := by
  unfold grantAt
  split
  · rfl
  · rfl

/-- The state in which a target has taken a request of a number of flits. -/
def taken (pkt : Packet) (n : Nat) (s : State) : State := grantAt pkt.addr pkt.src (s.bump O.flitsDelivered n)

theorem taken_leaves (pkt : Packet) (n : Nat) (s : State) : Leaves s (taken pkt n s) [.dict, .mortar] [O.flitsDelivered] :=
  Leaves.trans (Leaves.bump _ _ _ (by decide) (by decide)) (Leaves.mono (grantAt_leaves _ _ _ (ks := [])) (by decide) nofun)

theorem taken_counted (pkt : Packet) (n : Nat) (s : State) : Counted s (taken pkt n s) O.flitsDelivered n :=
  ((grantAt_leaves pkt.addr pkt.src _ (ks := [])).2 _ List.not_mem_nil).trans (State.obj_bump_same ..)

theorem taken_alike (pkt : Packet) (n : Nat) (s : State) : MapAlike s (taken pkt n s) :=
  (mapAlike_delivered n s).trans ⟨fun _ => (grantAt_leaves pkt.addr pkt.src _ (ks := [])).2 _ List.not_mem_nil,
    fun _ => (grantAt_leaves pkt.addr pkt.src _ (ks := [])).2 _ List.not_mem_nil⟩

theorem taken_reqs (pkt : Packet) (n : Nat) (s : State) : (taken pkt n s).mortar.reqs = s.mortar.reqs :=
  (grantAt_reqs ..).trans (congrArg Mortar.reqs (State.bump_mortar ..))

/-! ## Lines that are read -/

/-- The counts of the bytes that channels have read. -/
def ReadKey (k : Nat) : Prop := ∃ c, k = O.chReadBytes c

theorem countBytes_read (a n : Nat) (s : State) : Moves [.dict] ReadKey s (countBytes false a n s) := by
  unfold countBytes
  split
  · next c _ => exact Moves.bump _ _ _ (by decide) ⟨c, rfl⟩
  · exact Moves.refl s

theorem mapAlike_of_reads {ps : List Part} (h : Moves ps ReadKey s u) : MapAlike s u := by
  refine ⟨fun c => h.obj _ ?_, fun c => h.obj _ ?_⟩
  · rintro ⟨d, hd⟩
    simp only [O.chPallets, O.chReadBytes] at hd
    omega
  · rintro ⟨d, hd⟩
    simp only [O.chState, O.chReadBytes] at hd
    omega

theorem readLine_good {line : Nat} (src : Nat) (h : badByte s line = none) : readLine src s line = countBytes false (line * 64) 64 s := by
  have hc := countBytes_read (line * 64) 64 s
  have hb : badByte (countBytes false (line * 64) 64 s) line = none := by
    rw [(mapAlike_of_reads hc).bad (hc.same .integ (by decide)), h]
  unfold readLine
  dsimp only
  rw [hb]

/-- Lines that hold no error are read, and counted. -/
theorem doRead_good {lines : List Nat} (src : Nat) (h : ∀ l ∈ lines, badByte s l = none) : Moves [.dict] ReadKey s (doRead src lines [] s) := by
  unfold doRead
  rw [List.foldl_nil]
  induction lines generalizing s with
  | nil => exact Moves.refl s
  | cons l ls ih =>
    obtain ⟨hl, hls⟩ := List.forall_mem_cons.mp h
    have hc := countBytes_read (l * 64) 64 s
    rw [List.foldl_cons, readLine_good src hl]
    exact hc.trans (ih fun m hm => ((mapAlike_of_reads hc).bad (hc.same .integ (by decide)) m).trans (hls m hm))

end

end Sys2Proof.Machine
end

section
/-! SUPPORT. READ_REQ and WRITE at their target (14 R459, R462; 15 R496). -/
namespace Sys2Proof.Machine
open Sys2Proof.Safety

section
variable {pkt : Packet} {s : State}

/-! ## A read -/

/-- The first flit of a request's packet. -/
def flitOf (pkt : Packet) (type : Nat) (s : State) : Flit := .packet pkt.src (targetPort s pkt) pkt.tag type 0

/-- What a target answers to a read that has come. -/
def readAnswered (pkt : Packet) (found : List MemError) (g : Region) (s : State) : Host.Outcome State Fault Refusal :=
  match fabricAnswer s false pkt.src pkt.addr with
  | .domainAsleep => .next (answerAsleep (regionDomain g) pkt.src 0 s)
  | .ok => match trainingChan s pkt.addr with
    | some c => .next (enqueue c pkt [] (packetLines pkt) found (s.bump O.flitsDelivered 1))
    | none => .next (doRead pkt.src (packetLines pkt) found (taken pkt 1 s))
  | _ => .next s

theorem exec_readReq (hp : packetOk pkt = true) (found : List MemError) : exec (.readReq pkt found) s
    = if !(transit (flitOf pkt 0 s) 1 (holdRequest (heldFor pkt 0 s) s)).2 then .next (crossed (heldFor pkt 0 s) (flitOf pkt 0 s) 1 s)
      else readAnswered pkt found (regionOf s pkt.addr) (answersOut (heldFor pkt 0 s) (flitOf pkt 0 s) 1 pkt.lines s) := by
  show execReadReq pkt found s = _
  rw [execReadReq, if_neg (by rw [hp]; decide)]
  rfl

theorem exec_readReq_here (hp : packetOk pkt = true) (hr : Reaches s pkt 0 1) (found : List MemError) : exec (.readReq pkt found) s
    = readAnswered pkt found (regionOf s pkt.addr) (answersOut (heldFor pkt 0 s) (flitOf pkt 0 s) 1 pkt.lines s) := by
  have h : (transit (flitOf pkt 0 s) 1 (holdRequest (heldFor pkt 0 s) s)).2 = true := hr
  rw [exec_readReq hp, if_neg (by rw [h]; decide)]

/-- A request whose packet does not come stays held, and does nothing else. -/
theorem readReq_lost (hp : packetOk pkt = true) (hr : ¬Reaches s pkt 0 1) (found : List MemError) :
    ∃ t, exec (.readReq pkt found) s = .next t ∧ (heldOf t pkt.src pkt.tag).isSome = true ∧ Leaves s t [.dict, .mortar] [O.grantsLost] := by
  have h : (transit (flitOf pkt 0 s) 1 (holdRequest (heldFor pkt 0 s) s)).2 = false := Bool.eq_false_of_not_eq_true hr
  refine ⟨_, (exec_readReq hp found).trans (if_pos (by rw [h]; decide)), ?_, crossed_leaves ..⟩
  have hh := crossed_held (heldFor pkt 0 s) (flitOf pkt 0 s) 1 s
  exact (congrArg Option.isSome hh).trans (heldOf_holdRequest (heldFor pkt 0 s) s)

/-- A read of lines that hold no error is held, and answered (14 R459, R462, R466). -/
theorem readReq_does (hp : packetOk pkt = true) (hr : Reaches s pkt 0 1) (hf : fabricAnswer s false pkt.src pkt.addr = .ok)
    (ht : trainingChan s pkt.addr = none) (hb : ∀ l ∈ packetLines pkt, badByte s l = none) (hn : heldOf s pkt.src pkt.tag = none) :
    ∃ t h, exec (.readReq pkt []) s = .next t ∧ heldOf t pkt.src pkt.tag = some h ∧ h.type = 0 ∧ h.addr = pkt.addr ∧ h.lines = pkt.lines
      ∧ h.got = 0 ∧ h.retry = 0 ∧ h.resend = false ∧ h.sentAt = s.clock.ticks ∧ Counted s t O.flitsDelivered 1
      ∧ SameBut s t [.dict, .mortar]
      ∧ ∀ k, k ≠ O.flitsDelivered → k ≠ O.grantsLost → (∀ c, k ≠ O.chReadBytes c) → t.obj k = s.obj k := by
  have hA := answersOut_leaves (heldFor pkt 0 s) (flitOf pkt 0 s) 1 pkt.lines s
  have hlike := answersAlike_of_leaves hA
  have hT := taken_leaves pkt 1 (answersOut (heldFor pkt 0 s) (flitOf pkt 0 s) 1 pkt.lines s)
  have hmap := hlike.map.trans (taken_alike pkt 1 _)
  have hi : (taken pkt 1 (answersOut (heldFor pkt 0 s) (flitOf pkt 0 s) 1 pkt.lines s)).integ = s.integ :=
    (hT.1 .integ (by decide)).trans (hA.1 .integ (by decide))
  have hR := doRead_good (s := taken pkt 1 (answersOut (heldFor pkt 0 s) (flitOf pkt 0 s) 1 pkt.lines s)) pkt.src
    fun l hl => (hmap.bad hi l).trans (hb l hl)
  have he : exec (.readReq pkt []) s
      = .next (doRead pkt.src (packetLines pkt) [] (taken pkt 1 (answersOut (heldFor pkt 0 s) (flitOf pkt 0 s) 1 pkt.lines s))) := by
    rw [exec_readReq_here hp hr, readAnswered, hlike.fabric, hf]
    dsimp only
    rw [hlike.map.training, ht]
  have hk : ¬ReadKey O.flitsDelivered := fun ⟨c, hc⟩ => by
    simp only [O.flitsDelivered, O.chReadBytes] at hc
    omega
  have hheld : heldOf (doRead pkt.src (packetLines pkt) [] (taken pkt 1 (answersOut (heldFor pkt 0 s) (flitOf pkt 0 s) 1 pkt.lines s))) pkt.src pkt.tag
      = some (heldFor pkt 0 s) := by
    rw [heldOf_congr (congrArg Mortar.reqs (hR.same .mortar (by decide))), heldOf_congr (taken_reqs ..)]
    exact (answersOut_held (heldFor pkt 0 s) (flitOf pkt 0 s) 1 pkt.lines s).trans (heldOf_holdRequest_new hn)
  refine ⟨_, heldFor pkt 0 s, he, hheld, rfl, rfl, rfl, rfl, rfl, rfl, rfl, ?_, ?_, fun k h1 h2 h3 => ?_⟩
  · exact (hR.obj _ hk).trans (Counted.of_obj (hA.2 _ (by decide)) (taken_counted ..))
  · exact SameBut.trans hA.1 (SameBut.trans hT.1 (SameBut.mono hR.1 (by decide)))
  · exact (hR.obj _ fun ⟨c, hc⟩ => h3 c hc).trans ((hT.2 _ (by simpa using h1)).trans (hA.2 _ (by simpa using h2)))

/-! ## An answer DOMAIN_ASLEEP -/

/-- The state in which such an answer is counted, and where it is the first of a domain since it began to close, reported. -/
theorem answerAsleep_does (d src type : Nat) (s : State) : Counted s (answerAsleep d src type s) O.asleepAnswers 1
    ∧ (d ∉ s.mortar.told → Counted s (answerAsleep d src type s) O.domainAsleepCount 1 ∧ d ∈ (answerAsleep d src type s).mortar.told)
    ∧ Leaves s (answerAsleep d src type s) [.dict, .link, .mortar] [O.asleepAnswers, O.domainAsleepCount, O.indicationsDropped] := by
  have hB : Leaves s (s.bump O.asleepAnswers 1) [.dict, .link, .mortar] [O.asleepAnswers, O.domainAsleepCount, O.indicationsDropped] :=
    Leaves.bump _ _ _ (by decide) (by decide)
  have hc : Counted s (s.bump O.asleepAnswers 1) O.asleepAnswers 1 := State.obj_bump_same ..
  have hm : (s.bump O.asleepAnswers 1).mortar.told = s.mortar.told := congrArg Mortar.told (State.bump_mortar ..)
  unfold answerAsleep
  dsimp only
  rw [hm]
  by_cases hd : d ∈ s.mortar.told
  · rw [if_pos (List.contains_iff_mem.mpr hd)]
    exact ⟨hc, fun h => absurd hd h, hB⟩
  · rw [if_neg (fun h => hd (List.contains_iff_mem.mp h))]
    refine ⟨(State.obj_raise_ne _ _ _ _ _ _ (by decide) (by decide)).trans hc, fun _ => ⟨?_, ?_⟩, ?_⟩
    · exact Counted.of_obj (State.obj_bump_ne s O.asleepAnswers 1 O.domainAsleepCount (by decide)) (raise_counted _ _ _ _ _ (by decide))
    · exact List.mem_append_right _ (List.mem_singleton_self d)
    · exact Leaves.trans hB (Leaves.trans (Leaves.raise _ _ _ _ _ (by decide) (by decide) (by decide) (by decide)) (Leaves.onMortar _ _ (by decide)))

theorem readReq_asleep (found : List MemError) (hp : packetOk pkt = true) (hr : Reaches s pkt 0 1)
    (hf : fabricAnswer s false pkt.src pkt.addr = .domainAsleep) :
    ∃ t, exec (.readReq pkt found) s = .next t ∧ Counted s t O.asleepAnswers 1
      ∧ (regionDomain (regionOf s pkt.addr) ∉ s.mortar.told → Counted s t O.domainAsleepCount 1
          ∧ regionDomain (regionOf s pkt.addr) ∈ t.mortar.told)
      ∧ Leaves s t [.dict, .link, .mortar] [O.asleepAnswers, O.domainAsleepCount, O.grantsLost, O.indicationsDropped] := by
  have hA := answersOut_leaves (heldFor pkt 0 s) (flitOf pkt 0 s) 1 pkt.lines s
  have ht : (answersOut (heldFor pkt 0 s) (flitOf pkt 0 s) 1 pkt.lines s).mortar.told = s.mortar.told :=
    (answersOut_moves ..).told.trans (holdRequest_told ..)
  obtain ⟨h1, h2, h3⟩ := answerAsleep_does (regionDomain (regionOf s pkt.addr)) pkt.src 0 (answersOut (heldFor pkt 0 s) (flitOf pkt 0 s) 1 pkt.lines s)
  have he : exec (.readReq pkt found) s = .next (answerAsleep (regionDomain (regionOf s pkt.addr)) pkt.src 0
      (answersOut (heldFor pkt 0 s) (flitOf pkt 0 s) 1 pkt.lines s)) := by
    rw [exec_readReq_here hp hr, readAnswered, (answersAlike_of_leaves hA).fabric, hf]
  refine ⟨_, he, Counted.of_obj (hA.2 _ (by decide)) h1, fun hd => ?_, Leaves.trans (Leaves.mono hA (by decide) (by decide)) (Leaves.mono h3 (by decide) (by decide))⟩
  obtain ⟨h4, h5⟩ := h2 (by rw [ht]; exact hd)
  exact ⟨Counted.of_obj (hA.2 _ (by decide)) h4, h5⟩

/-! ## A write -/

/-- What a target answers to a write that has come. -/
def writeAnswered (pkt : Packet) (cells : List (List Host.Cell)) (found : List MemError) (g : Region) (s : State) : Host.Outcome State Fault Refusal :=
  match fabricAnswer s true pkt.src pkt.addr with
  | .domainAsleep => .next (answerAsleep (regionDomain g) pkt.src 1 s)
  | .ok => match trainingChan s pkt.addr with
    | some c => .next (enqueue c pkt cells [] found (s.bump O.flitsDelivered (1 + pkt.lines)))
    | none => .next (doWrite cells found (taken pkt (1 + pkt.lines) s))
  | _ => .next s

theorem exec_write (hp : packetOk pkt = true) (mask : List Nat) (data : Bytes) (found : List MemError) : exec (.write pkt mask data found) s
    = if !(transit (flitOf pkt 1 s) (1 + pkt.lines) (holdRequest (heldFor pkt 1 s) s)).2 then .next (crossed (heldFor pkt 1 s) (flitOf pkt 1 s) (1 + pkt.lines) s)
      else writeAnswered pkt (writeCells pkt mask data) found (regionOf s pkt.addr)
        (answersOut (heldFor pkt 1 s) (flitOf pkt 1 s) (1 + pkt.lines) 1 s) := by
  show execWrite pkt mask data found s = _
  rw [execWrite, if_neg (by rw [hp]; decide)]
  rfl

theorem write_lost (hp : packetOk pkt = true) (hr : ¬Reaches s pkt 1 (1 + pkt.lines)) (mask : List Nat) (data : Bytes) (found : List MemError) :
    ∃ t, exec (.write pkt mask data found) s = .next t ∧ (heldOf t pkt.src pkt.tag).isSome = true ∧ Leaves s t [.dict, .mortar] [O.grantsLost] := by
  have h : (transit (flitOf pkt 1 s) (1 + pkt.lines) (holdRequest (heldFor pkt 1 s) s)).2 = false := Bool.eq_false_of_not_eq_true hr
  refine ⟨_, (exec_write hp mask data found).trans (if_pos (by rw [h]; decide)), ?_, crossed_leaves ..⟩
  have hh := crossed_held (heldFor pkt 1 s) (flitOf pkt 1 s) (1 + pkt.lines) s
  exact (congrArg Option.isSome hh).trans (heldOf_holdRequest (heldFor pkt 1 s) s)

end

/-! ## The bytes that a line's write stores -/

section
variable {s : State} {a m b : Nat} {d : Bytes}

theorem memByte_memPut (l : List Host.Cell) (a b : Nat) (v : Byte) : memByte (memPut l a v) b = if b = a then v else memByte l b := by
  by_cases h : b = a
  · rw [if_pos h, h]
    exact Store.at_putD_same ..
  · rw [if_neg h]
    exact Store.at_putD_ne _ _ _ _ _ _ h

theorem memPutAll_cons (c : Host.Cell) (l : List Host.Cell) (x : List Host.Cell) : memPutAll (c :: l) x = memPutAll l (memPut x c.1 c.2) := rfl

/-- The bytes of consecutive addresses, those that a mask selects. -/
theorem memByte_masked (x : List Host.Cell) (sel : Nat → Bool) (a b : Nat) (d : Bytes) :
    memByte (memPutAll ((cellsAt a d).filter fun c => sel c.1) x) b
      = if a ≤ b ∧ b < a + d.length ∧ sel b = true then d.getD (b - a) 0 else memByte x b := by
  induction d generalizing a x with
  | nil => rw [if_neg (by rw [List.length_nil]; omega)]; rfl
  | cons v d ih =>
    rw [cellsAt, List.filter_cons]
    by_cases hb : b = a
    · subst hb
      have hout : ¬(b + 1 ≤ b ∧ b < b + 1 + d.length ∧ sel b = true) := by omega
      by_cases hs : sel b = true
      · rw [if_pos hs, memPutAll_cons, ih, if_neg hout, memByte_memPut, if_pos rfl, if_pos ⟨Nat.le_refl b, by rw [List.length_cons]; omega, hs⟩, Nat.sub_self]
        rfl
      · rw [if_neg hs, ih, if_neg hout, if_neg fun h => hs h.2.2]
    · have hrest : memByte (memPutAll (if sel a = true then (a, v) :: (cellsAt (a + 1) d).filter fun c => sel c.1
          else (cellsAt (a + 1) d).filter fun c => sel c.1) x) b
            = if a + 1 ≤ b ∧ b < a + 1 + d.length ∧ sel b = true then d.getD (b - (a + 1)) 0 else memByte x b := by
        by_cases hs : sel a = true
        · rw [if_pos hs, memPutAll_cons, ih, memByte_memPut, if_neg hb]
        · rw [if_neg hs, ih]
      rw [hrest]
      by_cases hin : a + 1 ≤ b ∧ b < a + 1 + d.length ∧ sel b = true
      · obtain ⟨h1, h2, h3⟩ := hin
        obtain ⟨k, rfl⟩ : ∃ k, b = a + 1 + k := ⟨b - (a + 1), by omega⟩
        rw [if_pos ⟨h1, h2, h3⟩, if_pos ⟨by omega, by rw [List.length_cons]; omega, h3⟩, Nat.add_sub_cancel_left,
          show a + 1 + k - a = k + 1 from by omega]
        rfl
      · rw [if_neg hin, if_neg fun h => hin ⟨by omega, by have := h.2.1; rw [List.length_cons] at this; omega, h.2.2⟩]

theorem line_sub {x B b : Nat} (hx : x % 64 = 0) (hB : B % 64 = 0) (hb : b < 64) :
    x + b - B = x - B ∨ (x + b - B = x - B + b ∧ (x - B) % 64 = 0) := by
  rcases Nat.lt_or_ge x B with h | h
  · exact .inl (by omega)
  · exact .inr (by omega)

/-- Where blocks begin at multiples of 64 the bytes of a line lie in one block. -/
theorem line_div {x B M b : Nat} (hx : x % 64 = 0) (hB : B % 64 = 0) (hM : M % 64 = 0) (hb : b < 64) : (x + b - B) / M = (x - B) / M := by
  obtain ⟨N, rfl⟩ : ∃ N, M = 64 * N := ⟨M / 64, by omega⟩
  rcases line_sub hx hB hb with h | ⟨h, h64⟩
  · rw [h]
  · rw [h, ← Nat.div_div_eq_div_mul, ← Nat.div_div_eq_div_mul]
    congr 1
    omega

theorem line_mod {x B M L b : Nat} (hx : x % 64 = 0) (hB : B % 64 = 0) (hM : M % 64 = 0) (hL : L % 64 = 0) (hb : b < 64) :
    (x + b - B) % M < L ↔ (x - B) % M < L := by
  obtain ⟨N, rfl⟩ : ∃ N, M = 64 * N := ⟨M / 64, by omega⟩
  rcases line_sub hx hB hb with h | ⟨h, h64⟩
  · rw [h]
  · rw [h, Nat.mod_mul, Nat.mod_mul, show (x - B + b) / 64 = (x - B) / 64 from by omega]
    omega

/-- The bytes of a line lie in one region, but for the feed port's. -/
theorem regionOf_line (ha : a % 64 = 0) (hb : b < 64) (hf : regionOf s a ≠ .feed) : regionOf s (a + b) = regionOf s a := by
  obtain ⟨k, rfl⟩ : ∃ k, a = 64 * k := ⟨a / 64, by omega⟩
  have hp : 64 * k ≠ 0x020000000000 := by
    intro h
    apply hf
    rw [h]
    rfl
  have e1 : (0x08000000 ≤ 64 * k + b ∧ 64 * k + b < 0x08000000 + 24 * 0x01000000) ↔ (0x08000000 ≤ 64 * k ∧ 64 * k < 0x08000000 + 24 * 0x01000000) := by omega
  have e2 : (64 * k + b - 0x08000000) % 0x01000000 < 0x400000 ↔ (64 * k - 0x08000000) % 0x01000000 < 0x400000 :=
    line_mod (by omega) (by decide) (by decide) (by decide) hb
  have e3 : (64 * k + b - 0x08000000) / 0x01000000 = (64 * k - 0x08000000) / 0x01000000 := line_div (by omega) (by decide) (by decide) hb
  have f1 : (0x010000000000 ≤ 64 * k + b ∧ 64 * k + b < 0x010000000000 + 200 * 0x100000)
      ↔ (0x010000000000 ≤ 64 * k ∧ 64 * k < 0x010000000000 + 200 * 0x100000) := by omega
  have f2 : (64 * k + b - 0x010000000000) % 0x100000 < 0x80000 ↔ (64 * k - 0x010000000000) % 0x100000 < 0x80000 :=
    line_mod (by omega) (by decide) (by decide) (by decide) hb
  have f3 : (64 * k + b - 0x010000000000) / 0x100000 = (64 * k - 0x010000000000) / 0x100000 := line_div (by omega) (by decide) (by decide) hb
  have g1 : (0x020000000000 ≤ 64 * k + b ∧ 64 * k + b < 0x020000000008) ↔ (0x020000000000 ≤ 64 * k ∧ 64 * k < 0x020000000008) := by omega
  have i1 : (0x100000000000 ≤ 64 * k + b ∧ 64 * k + b < 0x100000000000 + 16 * 0x000400000000)
      ↔ (0x100000000000 ≤ 64 * k ∧ 64 * k < 0x100000000000 + 16 * 0x000400000000) := by omega
  have i2 : (64 * k + b - 0x100000000000) / 0x000400000000 = (64 * k - 0x100000000000) / 0x000400000000 := line_div (by omega) (by decide) (by decide) hb
  have i3 (n : Nat) : (64 * k + b - 0x100000000000) % 0x000400000000 < n * 65536 ↔ (64 * k - 0x100000000000) % 0x000400000000 < n * 65536 :=
    line_mod (by omega) (by decide) (by decide) (by omega) hb
  simp only [regionOf, Bool.and_eq_true, decide_eq_true_eq, e1, e2, e3, f1, f2, f3, g1, i1, i2, i3]

theorem onLost_line (ha : a % 64 = 0) (hb : b < 64) (hf : regionOf s a ≠ .feed) : onLost s (a + b) = onLost s a := by
  rw [onLost, regionOf_line ha hb hf, onLost]

/-- The state in which one line of a write is stored. -/
def storedLine (l : List Host.Cell) (s : State) : State :=
  (writeLine l (countBytes true ((l.head?.map fun (c : Host.Cell) => c.1).getD 0) l.length s)).2

theorem storedLine_moves (l : List Host.Cell) (s : State) : Moves lineParts ErrKey s (storedLine l s) :=
  (countBytes_moves ..).trans (writeLine_moves ..)

theorem doWrite_stored (cells : List (List Host.Cell)) (s : State) : doWrite cells [] s = cells.foldl (fun s l => storedLine l s) s := rfl

/-- A write of a line on a memory that answers stores its cells. -/
theorem writeLine_stores {c : Host.Cell} {l : List Host.Cell} (hl : onLost s c.1 = false) (hf : regionOf s c.1 ≠ .feed)
    (hn : regionOf s c.1 ≠ .nowhere) : (writeLine (c :: l) s).2.mem = memPutAll (c :: l) s.mem := by
  unfold writeLine
  rw [List.head?_cons]
  dsimp only
  rw [if_neg (by rw [hl]; decide)]
  split
  · next h => exact absurd h hf
  · next h => exact absurd h hn
  · split
    · exact (metPoisonBy_moves ..).same .mem (by decide)
    · rfl

theorem countBytes_mem (w : Bool) (a n : Nat) (s : State) : (countBytes w a n s).mem = s.mem := by
  unfold countBytes
  split
  · exact State.bump_mem ..
  · rfl

theorem storedLine_mem (ha : a % 64 = 0) (hd : d.length = 64) (hl : onLost s a = false) (hf : regionOf s a ≠ .feed) (hn : regionOf s a ≠ .nowhere)
    (m b : Nat) : memByte (storedLine (maskedCells a m d) s).mem b
      = if a ≤ b ∧ b < a + 64 ∧ bitOf m (b - a) = true then d.getD (b - a) 0 else memByte s.mem b := by
  have hm := memByte_masked s.mem (fun x => bitOf m (x - a)) a b d
  rw [hd] at hm
  rw [← hm]
  cases hc : maskedCells a m d with
  | nil =>
    have he : (cellsAt a d).filter (fun c => bitOf m (c.1 - a)) = [] := hc
    rw [he]
    exact congrArg (memByte · b) ((countBytes_mem true _ _ s))
  | cons c l =>
    have he : (cellsAt a d).filter (fun c => bitOf m (c.1 - a)) = c :: l := hc
    have hin : c ∈ cellsAt a d := (List.mem_filter.mp (he ▸ List.mem_cons_self : c ∈ (cellsAt a d).filter fun c => bitOf m (c.1 - a))).1
    obtain ⟨h1, h2⟩ := cellsAt_range c hin
    obtain ⟨k, hk⟩ : ∃ k, c.1 = a + k := ⟨c.1 - a, by omega⟩
    have hk64 : k < 64 := by omega
    have hC := countBytes_moves true (((c :: l).head?.map fun (c : Host.Cell) => c.1).getD 0) (c :: l).length s
    have hM := mapAlike_of_moves hC
    have hr : regionOf s c.1 = regionOf s a := by rw [hk, regionOf_line ha hk64 hf]
    have hstore := writeLine_stores (l := l) (s := countBytes true (((c :: l).head?.map fun (c : Host.Cell) => c.1).getD 0) (c :: l).length s) (c := c)
      (by rw [hM.lost, hk, onLost_line ha hk64 hf, hl]) (by rw [hM.region, hr]; exact hf) (by rw [hM.region, hr]; exact hn)
    rw [he, storedLine, hstore, countBytes_mem]

end

end Sys2Proof.Machine
end

section
/-! SUPPORT. Writes, messages, responses and the ends of requests (14 R462, R465, R466, R475), and the claim. -/
namespace Sys2Proof.Machine
open Sys2Proof.Safety

section
variable {pkt : Packet} {mask : List Nat} {data : Bytes} {s : State}

/-! ## The lines of a write -/

/-- The line of a write that a number names. -/
def cellsOf (pkt : Packet) (mask : List Nat) (data : Bytes) (i : Nat) : List Host.Cell :=
  maskedCells (pkt.addr + 64 * i) (mask.getD i 0) ((data.drop (64 * i)).take 64)

/-- The state in which the first lines of a write are stored. -/
def linesStored (pkt : Packet) (mask : List Nat) (data : Bytes) (n : Nat) (s : State) : State :=
  (List.range n).foldl (fun s i => storedLine (cellsOf pkt mask data i) s) s

theorem doWrite_lines (pkt : Packet) (mask : List Nat) (data : Bytes) (s : State) :
    doWrite (writeCells pkt mask data) [] s = linesStored pkt mask data pkt.lines s := by
  rw [doWrite_stored, writeCells, List.foldl_map]
  rfl

theorem linesStored_moves (n : Nat) (s : State) : Moves lineParts ErrKey s (linesStored pkt mask data n s) :=
  Moves.foldl _ _ (fun _ _ s => storedLine_moves _ s) s

theorem linesStored_succ (n : Nat) (s : State) :
    linesStored pkt mask data (n + 1) s = storedLine (cellsOf pkt mask data n) (linesStored pkt mask data n s) := by
  rw [linesStored, List.range_succ, List.foldl_append]
  rfl

theorem segment_getD {i k : Nat} (hk : k < 64) : ((data.drop (64 * i)).take 64).getD k 0 = data.getD (64 * i + k) 0 := by
  rw [List.getD_eq_getElem?_getD, List.getElem?_take_of_lt hk, List.getElem?_drop, List.getD_eq_getElem?_getD]

/-- The lines that are stored so far, byte by byte: those that the masks select have come from the data. -/
theorem linesStored_mem (ha : pkt.addr % 64 = 0) (hd : data.length = 64 * pkt.lines)
    (hl : ∀ i, i < pkt.lines → regionOf s (pkt.addr + 64 * i) ≠ .feed ∧ regionOf s (pkt.addr + 64 * i) ≠ .nowhere
      ∧ onLost s (pkt.addr + 64 * i) = false) {n : Nat} (hn : n ≤ pkt.lines) (b : Nat) :
    memByte (linesStored pkt mask data n s).mem b
      = if pkt.addr ≤ b ∧ b < pkt.addr + 64 * n ∧ bitOf (mask.getD ((b - pkt.addr) / 64) 0) ((b - pkt.addr) % 64) = true
        then data.getD (b - pkt.addr) 0 else memByte s.mem b := by
  induction n with
  | zero => rw [if_neg (by omega)]; rfl
  | succ n ih =>
    have hM := mapAlike_of_moves (linesStored_moves (pkt := pkt) (mask := mask) (data := data) n s)
    obtain ⟨h1, h2, h3⟩ := hl n (by omega)
    have hseg : ((data.drop (64 * n)).take 64).length = 64 := by rw [List.length_take, List.length_drop]; omega
    rw [linesStored_succ, cellsOf, storedLine_mem (by omega) hseg (by rw [hM.lost]; exact h3) (by rw [hM.region]; exact h1)
      (by rw [hM.region]; exact h2), ih (by omega)]
    by_cases hb : pkt.addr + 64 * n ≤ b ∧ b < pkt.addr + 64 * n + 64
    · obtain ⟨k, rfl⟩ : ∃ k, b = pkt.addr + 64 * n + k := ⟨b - (pkt.addr + 64 * n), by omega⟩
      have hk : k < 64 := by omega
      have e1 : pkt.addr + 64 * n + k - (pkt.addr + 64 * n) = k := by omega
      have e2 : pkt.addr + 64 * n + k - pkt.addr = 64 * n + k := by omega
      have e3 : (64 * n + k) / 64 = n := by omega
      have e4 : (64 * n + k) % 64 = k := by omega
      rw [e1, e2, e3, e4, segment_getD hk]
      by_cases hs : bitOf (mask.getD n 0) k = true
      · rw [if_pos ⟨by omega, by omega, hs⟩, if_pos ⟨by omega, by omega, hs⟩]
      · rw [if_neg fun h => hs h.2.2, if_neg fun h => hs h.2.2, if_neg fun h => hs h.2.2]
    · rw [if_neg fun h => hb ⟨h.1, h.2.1⟩]
      by_cases hs : pkt.addr ≤ b ∧ b < pkt.addr + 64 * n ∧ bitOf (mask.getD ((b - pkt.addr) / 64) 0) ((b - pkt.addr) % 64) = true
      · rw [if_pos hs, if_pos ⟨hs.1, by omega, hs.2.2⟩]
      · rw [if_neg hs, if_neg fun h => hs ⟨h.1, by omega, h.2.2⟩]

theorem packetOk_addr (hp : packetOk pkt = true) : pkt.addr % 64 = 0 := by
  simp only [packetOk, Bool.and_eq_true, beq_iff_eq] at hp
  exact hp.1.1.2

/-- A write changes exactly the bytes that its mask selects (14 R462). -/
theorem write_does (mask : List Nat) (data : Bytes) (hp : packetOk pkt = true) (hr : Reaches s pkt 1 (1 + pkt.lines))
    (hd : data.length = 64 * pkt.lines) (hf : fabricAnswer s true pkt.src pkt.addr = .ok) (ht : trainingChan s pkt.addr = none)
    (hl : ∀ i, i < pkt.lines → regionOf s (pkt.addr + 64 * i) ≠ .feed ∧ regionOf s (pkt.addr + 64 * i) ≠ .nowhere
      ∧ onLost s (pkt.addr + 64 * i) = false) :
    ∃ t, exec (.write pkt mask data []) s = .next t ∧ (heldOf t pkt.src pkt.tag).isSome = true
      ∧ (∀ i b, i < pkt.lines → b < 64 → memByte t.mem (pkt.addr + 64 * i + b)
          = if bitOf (mask.getD i 0) b = true then data.getD (64 * i + b) 0 else memByte s.mem (pkt.addr + 64 * i + b))
      ∧ (∀ a, (a < pkt.addr ∨ pkt.addr + 64 * pkt.lines ≤ a) → memByte t.mem a = memByte s.mem a)
      ∧ Counted s t O.flitsDelivered (1 + pkt.lines) ∧ SameBut s t [.dict, .freeCtr, .integ, .link, .mem, .mortar] := by
  have hA := answersOut_leaves (heldFor pkt 1 s) (flitOf pkt 1 s) (1 + pkt.lines) 1 s
  have hlike := answersAlike_of_leaves hA
  have hT := taken_leaves pkt (1 + pkt.lines) (answersOut (heldFor pkt 1 s) (flitOf pkt 1 s) (1 + pkt.lines) 1 s)
  have hmap := hlike.map.trans (taken_alike pkt (1 + pkt.lines) _)
  have hmem : (taken pkt (1 + pkt.lines) (answersOut (heldFor pkt 1 s) (flitOf pkt 1 s) (1 + pkt.lines) 1 s)).mem = s.mem :=
    (hT.1 .mem (by decide)).trans (hA.1 .mem (by decide))
  have hW := linesStored_moves (pkt := pkt) (mask := mask) (data := data) pkt.lines
    (taken pkt (1 + pkt.lines) (answersOut (heldFor pkt 1 s) (flitOf pkt 1 s) (1 + pkt.lines) 1 s))
  have hB := linesStored_mem (s := taken pkt (1 + pkt.lines) (answersOut (heldFor pkt 1 s) (flitOf pkt 1 s) (1 + pkt.lines) 1 s)) (mask := mask)
    (packetOk_addr hp) hd (fun i hi => by rw [hmap.region, hmap.lost]; exact hl i hi) (Nat.le_refl _)
  rw [hmem] at hB
  have he : exec (.write pkt mask data []) s = .next (linesStored pkt mask data pkt.lines
      (taken pkt (1 + pkt.lines) (answersOut (heldFor pkt 1 s) (flitOf pkt 1 s) (1 + pkt.lines) 1 s))) := by
    have h : (transit (flitOf pkt 1 s) (1 + pkt.lines) (holdRequest (heldFor pkt 1 s) s)).2 = true := hr
    rw [exec_write hp, if_neg (by rw [h]; decide), writeAnswered, hlike.fabric, hf]
    dsimp only
    rw [hlike.map.training, ht, ← doWrite_lines]
  refine ⟨_, he, ?_, fun i b hi hb => ?_, fun a ha => ?_, ?_, ?_⟩
  · rw [heldOf_congr (congrArg Mortar.reqs (hW.same .mortar (by decide))), heldOf_congr (taken_reqs ..)]
    exact (congrArg Option.isSome (answersOut_held (heldFor pkt 1 s) (flitOf pkt 1 s) (1 + pkt.lines) 1 s)).trans (heldOf_holdRequest (heldFor pkt 1 s) s)
  · have e1 : pkt.addr + 64 * i + b - pkt.addr = 64 * i + b := by omega
    have e2 : (64 * i + b) / 64 = i := by omega
    have e3 : (64 * i + b) % 64 = b := by omega
    rw [hB, e1, e2, e3]
    by_cases hs : bitOf (mask.getD i 0) b = true
    · rw [if_pos ⟨by omega, by omega, hs⟩, if_pos hs]
    · rw [if_neg fun h => hs h.2.2, if_neg hs]
  · rw [hB, if_neg (by omega)]
  · exact (hW.obj _ (not_errKey_state (by decide))).trans (Counted.of_obj (hA.2 _ (by decide)) (taken_counted ..))
  · exact SameBut.trans (SameBut.mono hA.1 (by decide)) (SameBut.trans (SameBut.mono hT.1 (by decide)) (SameBut.mono hW.1 (by decide)))

/-! ## A message -/

/-- The domain of the port that a message goes to. -/
def msgDomain (a : Nat) : Nat := stopDomain (portRing a) (portStopNo a)

/-- What the source of a message holds, and its one flit. -/
def msgHeld (pkt : Packet) (kind : MsgKind) (payload : Nat) (s : State) : Held :=
  newHeld s pkt 2 payload (msgCode kind) pkt.addr (msgDomain pkt.addr)

/-- The state in which a message that has come is accepted, or discarded as one that was accepted before. -/
def msgAccepted (pkt : Packet) (s : State) : State :=
  if (Store.at [] s.mortar.seen pkt.addr).contains (pkt.src, pkt.tag) then s.bump O.duplicatesDiscarded 1
  else s.onMortar fun m => { m with seen := Store.put m.seen pkt.addr (rememberMsg pkt.src pkt.tag (Store.at [] s.mortar.seen pkt.addr)) }

/-- What the target of a message does once it has come. -/
def msgAnswered (pkt : Packet) (s : State) : Host.Outcome State Fault Refusal :=
  if !s.runs (msgDomain pkt.addr) then .next (answerAsleep (msgDomain pkt.addr) pkt.src 2 s)
  else if (Store.at [] (s.bump O.flitsDelivered 1).mortar.seen pkt.addr).contains (pkt.src, pkt.tag)
    then .next ((s.bump O.flitsDelivered 1).bump O.duplicatesDiscarded 1)
  else .next ((s.bump O.flitsDelivered 1).onMortar fun m =>
    { m with seen := Store.put m.seen pkt.addr (rememberMsg pkt.src pkt.tag (Store.at [] (s.bump O.flitsDelivered 1).mortar.seen pkt.addr)) })

theorem exec_message (hs : pkt.src < 1536) (ha : pkt.addr < 1536) (kind : MsgKind) (payload : Nat) : exec (.message pkt kind payload) s
    = if !(transit (.packet pkt.src pkt.addr pkt.tag 2 0) 1 (holdRequest (msgHeld pkt kind payload s) s)).2
      then .next (crossed (msgHeld pkt kind payload s) (.packet pkt.src pkt.addr pkt.tag 2 0) 1 s)
      else msgAnswered pkt (answersOut (msgHeld pkt kind payload s) (.packet pkt.src pkt.addr pkt.tag 2 0) 1 1 s) := by
  show execMessage pkt kind payload s = _
  rw [execMessage, if_neg (by omega)]
  rfl

theorem msgAnswered_taken (h : s.runs (msgDomain pkt.addr) = true) : msgAnswered pkt s = .next (msgAccepted pkt (s.bump O.flitsDelivered 1)) := by
  rw [msgAnswered, if_neg (by rw [h]; decide), msgAccepted]
  split
  · rfl
  · rfl

theorem mem_rememberMsg (src tag : Nat) (l : List (Nat × Nat)) : (src, tag) ∈ rememberMsg src tag l := by
  refine List.mem_append_right _ ?_
  have h (x : List (Nat × Nat)) : (src, tag) ∈ keepLast 64 (x ++ [(src, tag)]) := by
    rw [keepLast, List.drop_append_of_le_length (by rw [List.length_append, List.length_singleton]; omega)]
    exact List.mem_append_right _ (List.mem_singleton_self _)
  exact h _

theorem msgAccepted_leaves (pkt : Packet) (s : State) : Leaves s (msgAccepted pkt s) [.dict, .mortar] [O.duplicatesDiscarded] :=
  Leaves.ite _ (Leaves.bump _ _ _ (by decide) (by decide)) (Leaves.onMortar _ _ (by decide))

theorem msgAccepted_reqs (pkt : Packet) (s : State) : (msgAccepted pkt s).mortar.reqs = s.mortar.reqs := by
  unfold msgAccepted
  split
  · exact congrArg Mortar.reqs (State.bump_mortar ..)
  · rfl

/-- A message that its target has seen is discarded and counted, and any other remembered (14 R465). -/
theorem msgAccepted_does (pkt : Packet) (s : State) : if (pkt.src, pkt.tag) ∈ Store.at [] s.mortar.seen pkt.addr
    then Counted s (msgAccepted pkt s) O.duplicatesDiscarded 1 ∧ (msgAccepted pkt s).mortar.seen = s.mortar.seen
    else (msgAccepted pkt s).obj O.duplicatesDiscarded = s.obj O.duplicatesDiscarded
      ∧ (pkt.src, pkt.tag) ∈ Store.at [] (msgAccepted pkt s).mortar.seen pkt.addr := by
  unfold msgAccepted
  by_cases h : (pkt.src, pkt.tag) ∈ Store.at [] s.mortar.seen pkt.addr
  · rw [if_pos h, if_pos (List.contains_iff_mem.mpr h)]
    exact ⟨State.obj_bump_same .., congrArg Mortar.seen (State.bump_mortar ..)⟩
  · rw [if_neg h, if_neg fun hc => h (List.contains_iff_mem.mp hc)]
    refine ⟨(Leaves.onMortar (ps := [.mortar]) (ks := []) s _ (by decide)).2 _ List.not_mem_nil, ?_⟩
    have hs : Store.at [] (Store.put s.mortar.seen pkt.addr (rememberMsg pkt.src pkt.tag (Store.at [] s.mortar.seen pkt.addr))) pkt.addr
        = rememberMsg pkt.src pkt.tag (Store.at [] s.mortar.seen pkt.addr) := Store.at_put_same ..
    exact (Eq.symm hs ▸ mem_rememberMsg pkt.src pkt.tag _ : _ ∈ Store.at [] (Store.put s.mortar.seen pkt.addr _) pkt.addr)

theorem message_does (kind : MsgKind) (payload : Nat) (hs : pkt.src < 1536) (ha : pkt.addr < 1536)
    (hd : s.runs (stopDomain (portRing pkt.addr) (portStopNo pkt.addr)) = true) :
    ∃ t, exec (.message pkt kind payload) s = .next t ∧ (heldOf t pkt.src pkt.tag).isSome = true
      ∧ (if (transit (.packet pkt.src pkt.addr pkt.tag 2 0) 1 (holdRequest (newHeld s pkt 2 payload (msgCode kind) pkt.addr
              (stopDomain (portRing pkt.addr) (portStopNo pkt.addr))) s)).2 = true
         then Counted s t O.flitsDelivered 1
           ∧ (if (pkt.src, pkt.tag) ∈ Store.at [] s.mortar.seen pkt.addr
              then Counted s t O.duplicatesDiscarded 1 ∧ t.mortar.seen = s.mortar.seen
              else t.obj O.duplicatesDiscarded = s.obj O.duplicatesDiscarded ∧ (pkt.src, pkt.tag) ∈ Store.at [] t.mortar.seen pkt.addr)
         else t.mortar.seen = s.mortar.seen ∧ t.obj O.flitsDelivered = s.obj O.flitsDelivered
           ∧ t.obj O.duplicatesDiscarded = s.obj O.duplicatesDiscarded)
      ∧ Leaves s t [.dict, .mortar] [O.flitsDelivered, O.duplicatesDiscarded, O.grantsLost] := by
  by_cases hr : (transit (.packet pkt.src pkt.addr pkt.tag 2 0) 1 (holdRequest (newHeld s pkt 2 payload (msgCode kind) pkt.addr
      (stopDomain (portRing pkt.addr) (portStopNo pkt.addr))) s)).2 = true
  · have hA := answersOut_leaves (msgHeld pkt kind payload s) (.packet pkt.src pkt.addr pkt.tag 2 0) 1 1 s
    have hB : Leaves (answersOut (msgHeld pkt kind payload s) (.packet pkt.src pkt.addr pkt.tag 2 0) 1 1 s)
        ((answersOut (msgHeld pkt kind payload s) (.packet pkt.src pkt.addr pkt.tag 2 0) 1 1 s).bump O.flitsDelivered 1) [.dict, .mortar]
        [O.flitsDelivered] := Leaves.bump _ _ _ (by decide) (by decide)
    have hT := msgAccepted_leaves pkt ((answersOut (msgHeld pkt kind payload s) (.packet pkt.src pkt.addr pkt.tag 2 0) 1 1 s).bump O.flitsDelivered 1)
    have hseen : ((answersOut (msgHeld pkt kind payload s) (.packet pkt.src pkt.addr pkt.tag 2 0) 1 1 s).bump O.flitsDelivered 1).mortar.seen
        = s.mortar.seen :=
      (congrArg Mortar.seen (State.bump_mortar ..)).trans ((answersOut_moves ..).seen.trans (holdRequest_seen ..))
    have hdup : ((answersOut (msgHeld pkt kind payload s) (.packet pkt.src pkt.addr pkt.tag 2 0) 1 1 s).bump O.flitsDelivered 1).obj
        O.duplicatesDiscarded = s.obj O.duplicatesDiscarded := (hB.2 _ (by decide)).trans (hA.2 _ (by decide))
    have he : exec (.message pkt kind payload) s = .next (msgAccepted pkt
        ((answersOut (msgHeld pkt kind payload s) (.packet pkt.src pkt.addr pkt.tag 2 0) 1 1 s).bump O.flitsDelivered 1)) := by
      have h : (transit (.packet pkt.src pkt.addr pkt.tag 2 0) 1 (holdRequest (msgHeld pkt kind payload s) s)).2 = true := hr
      rw [exec_message hs ha, if_neg (by rw [h]; decide), msgAnswered_taken (((answersAlike_of_leaves hA).runs _).trans hd)]
    have hM := msgAccepted_does pkt ((answersOut (msgHeld pkt kind payload s) (.packet pkt.src pkt.addr pkt.tag 2 0) 1 1 s).bump O.flitsDelivered 1)
    rw [hseen] at hM
    refine ⟨_, he, ?_, ?_, Leaves.trans (Leaves.mono hA (by decide) (by decide)) (Leaves.trans (Leaves.mono hB (by decide) (by decide))
      (Leaves.mono hT (by decide) (by decide)))⟩
    · rw [heldOf_congr (msgAccepted_reqs ..), heldOf_congr (congrArg Mortar.reqs (State.bump_mortar ..))]
      exact (congrArg Option.isSome (answersOut_held (msgHeld pkt kind payload s) (.packet pkt.src pkt.addr pkt.tag 2 0) 1 1 s)).trans
        (heldOf_holdRequest (msgHeld pkt kind payload s) s)
    · rw [if_pos hr]
      refine ⟨(hT.2 _ (by decide)).trans (Counted.of_obj (hA.2 O.flitsDelivered (by decide)) (State.obj_bump_same ..)), ?_⟩
      by_cases hm : (pkt.src, pkt.tag) ∈ Store.at [] s.mortar.seen pkt.addr
      · rw [if_pos hm] at hM ⊢
        exact ⟨Counted.of_obj hdup hM.1, hM.2⟩
      · rw [if_neg hm] at hM ⊢
        exact ⟨hM.1.trans hdup, hM.2⟩
  · have hC := crossed_leaves (msgHeld pkt kind payload s) (.packet pkt.src pkt.addr pkt.tag 2 0) 1 s
    have h : (transit (.packet pkt.src pkt.addr pkt.tag 2 0) 1 (holdRequest (msgHeld pkt kind payload s) s)).2 = false :=
      Bool.eq_false_of_not_eq_true hr
    refine ⟨_, (exec_message hs ha kind payload).trans (if_pos (by rw [h]; decide)), ?_, ?_, Leaves.mono hC (by decide) (by decide)⟩
    · exact (congrArg Option.isSome (crossed_held (msgHeld pkt kind payload s) (.packet pkt.src pkt.addr pkt.tag 2 0) 1 s)).trans
        (heldOf_holdRequest (msgHeld pkt kind payload s) s)
    · rw [if_neg hr]
      exact ⟨(crossed_moves ..).seen.trans (holdRequest_seen ..), hC.2 _ (by decide), hC.2 _ (by decide)⟩

end

/-! ## Responses -/

section
variable {src tag : Nat} {h : Held} {s : State}

/-- The state in which a response has come. -/
def responseIn (h : Held) (type line : Nat) (s : State) : State := (answerArrives h type line s).1.bump O.flitsDelivered 1

theorem responseIn_leaves (h : Held) (type line : Nat) (s : State) :
    Leaves s (responseIn h type line s) [.dict, .mortar] [O.flitsDelivered, O.grantsLost] :=
  Leaves.trans (Leaves.mono (transit_leaves ..) (by decide) (by decide)) (Leaves.bump _ _ _ (by decide) (by decide))

theorem responseIn_counted (h : Held) (type line : Nat) (s : State) : Counted s (responseIn h type line s) O.flitsDelivered 1 :=
  Counted.of_obj ((transit_leaves ..).2 O.flitsDelivered (by decide)) (State.obj_bump_same ..)

theorem responseIn_reqs (h : Held) (type line : Nat) (s : State) : (responseIn h type line s).mortar.reqs = s.mortar.reqs :=
  (congrArg Mortar.reqs (State.bump_mortar ..)).trans (transit_moves ..).reqs

theorem dropHeld_gone (h : Held) (s : State) : h ∉ (dropHeld h s).mortar.reqs := by
  have hm : (dropHeld h s).mortar = (s.onMortar fun m => { m with reqs := m.reqs.filter (· != h) }).mortar :=
    (Within.start _).settleHalts.same .mortar (by decide)
  rw [hm]
  exact fun hc => by simpa using (List.mem_filter.mp hc).2

/-- The objects that the halt of an engine may change are those that operations that settle may change, and the hod engines' own. -/
def HaltKey (k : Nat) : Prop := LossKey k ∨ 0x6C0000 ≤ k

/-- The halt of an engine: the parts and the objects that may change. -/
def HaltMoves (s t : State) : Prop := Moves (.hod :: lossParts) HaltKey s t

theorem LossMoves.halt {s t : State} (h : LossMoves s t) : HaltMoves s t := Moves.mono h (fun _ h => .tail _ h) fun _ h => .inl h

theorem HaltMoves.trans {s t u : State} (h1 : HaltMoves s t) (h2 : HaltMoves t u) : HaltMoves s u := Moves.trans h1 h2

theorem ackCancel_moves (tag : Nat) (s : State) : LossMoves s (ackCancel tag s) := by
  have hd : LossMoves s (s.dropJob tag) :=
    LossMoves.of_leaves (ps := [.kiln]) (ks := []) (Leaves.setKiln _ _ (by decide)) (by decide) nofun
  unfold ackCancel
  dsimp only
  split
  · exact LossMoves.ite _ (hd.trans (LossMoves.of_leaves (ps := [.sched]) (ks := []) (Leaves.setOps _ _ (by decide)) (by decide) nofun))
      (hd.trans ((onOp_moves ..).trans (resettle_moves _)))
  · exact hd

theorem rerunOp_moves (s : State) (tag : Nat) : LossMoves s (rerunOp s tag) := by
  unfold rerunOp
  split
  · refine LossMoves.ite _ (ackCancel_moves tag s) ?_
    exact (((LossMoves.bump s 1 (.inl ⟨by decide, by decide⟩)).trans
      (LossMoves.of_leaves (ps := [.kiln]) (ks := []) (Leaves.setKiln _ _ (by decide)) (by decide) nofun)).trans
      ((traceOp_moves ..).trans (LossMoves.onCourse ..))).trans ((onOp_moves ..).trans (traceOp_moves ..))
  · exact LossMoves.refl s

theorem abandonCopies_moves (t : Nat) (s : State) : LossMoves s (abandonCopies t s) :=
  (LossMoves.of_leaves (ps := [.sched]) (ks := []) (Leaves.setSched _ _ (by decide)) (by decide) nofun).trans
    (LossMoves.bump _ _ (.inl ⟨by decide, by decide⟩))

theorem countEnd_moves (e status : Nat) (s : State) : HaltMoves s (countEnd e status s) :=
  (Moves.of_leaves (countEnd_leaves e status s) fun k hk => .inr (by
    simp only [chainEndKeys, O.chainsEnded, O.stops, O.loopEnds, List.mem_cons, List.not_mem_nil, or_false] at hk
    omega)).mono (by decide) fun _ h => h

theorem abortChain_moves (e : Nat) (c : Chain) (s : State) : HaltMoves s (abortChain e c s) := by
  unfold abortChain
  exact Moves.ite _ ((countEnd_moves ..).trans ((Moves.of_leaves (tellUser_leaves ..) fun k hk => .inr (by
    rw [List.mem_singleton.mp hk]
    decide)).mono (by decide) fun _ h => h)) ((countEnd_moves ..).trans (rerunOp_moves ..).halt)

theorem haltEngine_moves (e : Nat) (b : Nat × Nat × Nat) (s : State) : HaltMoves s (haltEngine e b s) := by
  have hb : HaltKey (O.busErrors e) := .inr (by simp only [O.busErrors]; omega)
  have hh (u : State) (f : Hod → Hod) : HaltMoves u (u.onHod f) := Moves.of_leaves (ks := []) (Leaves.onHod _ _ (by decide)) nofun
  have hc (l : List (Nat × Chain)) (u : State) : HaltMoves u (l.foldl (fun s c => abortChain e c.2 s) u) :=
    Moves.foldl _ l (fun c _ s => abortChain_moves e c.2 s) u
  have ha (l : List Nat) (u : State) : HaltMoves u (l.foldl (fun s t => abandonCopies t s) u) :=
    Moves.foldl _ l (fun t _ s => (abandonCopies_moves t s).halt) u
  have hm : HaltKey O.hodHaltedMap := .inr (by decide)
  have hn : HaltKey O.hodHaltCount := .inr (by decide)
  have hi : HaltKey O.indicationsDropped := .inl (.inl ⟨by decide, by decide⟩)
  have hshow (u : State) (v : Int) (k n : Nat) (d x : Bytes) :
      HaltMoves u (raise (((u.setObj O.hodHaltedMap v).setBlob k d).bump O.hodHaltCount 1) (O.busErrors e) n x 0) :=
    ((Moves.setObj _ _ _ (by decide) hm).trans ((Moves.setBlob _ _ _ (by decide)).trans (Moves.bump _ _ _ (by decide) hn))).trans
      (Moves.raise _ _ _ _ _ (by decide) (by decide) hb hi)
  unfold haltEngine
  exact (hh ..).trans ((hshow ..).trans ((hc ..).trans (ha ..)))

theorem settleHalts_moves (s : State) : HaltMoves s (settleHalts s) :=
  Moves.foldl _ s.hod.halting (fun b _ s => Moves.ite _ (Moves.refl s) (haltEngine_moves b.1 b.2 s)) s

/-- The end of a request delivers no flit of its own. -/
theorem dropHeld_delivered (h : Held) (s : State) : (dropHeld h s).obj O.flitsDelivered = s.obj O.flitsDelivered := by
  refine ((settleHalts_moves _).obj _ ?_).trans ((Leaves.onMortar (ps := [.mortar]) (ks := []) s _ (by decide)).2 _ List.not_mem_nil)
  rintro ((h | h | ⟨p, hp, h⟩) | h)
  · exact absurd h.1 (by decide)
  · exact absurd h (by decide)
  · simp only [O.flitsDelivered, O.partEnable] at h
    omega
  · exact absurd h (by decide)

theorem dropHeld_quiet (hq : s.hod.halting = []) : dropHeld h s = s.onMortar fun m => { m with reqs := m.reqs.filter (· != h) } := by
  rw [dropHeld, settleHalts, State.onMortar, hq, List.foldl_nil]

theorem dropHeld_leaves (hq : s.hod.halting = []) (h : Held) {ks : List Nat} : Leaves s (dropHeld h s) [.mortar] ks := by
  rw [dropHeld_quiet hq]
  exact Leaves.onMortar _ _ (by decide)

theorem responseIn_quiet (hq : s.hod.halting = []) (type line : Nat) : (responseIn h type line s).hod.halting = [] := by
  rw [(responseIn_leaves h type line s).1 .hod (by decide)]
  exact hq

/-- A response of a line is counted, or ends the request. -/
def lineIn (h : Held) (s : State) : State :=
  if h.lines ≤ h.got + 1 then dropHeld h s
  else s.onMortar fun m => { m with reqs := m.reqs.map (h.swap { h with got := h.got + 1 }) }

theorem exec_readResp_ok (hh : heldOf s src tag = some h) (ht : h.type = 0) (hr : h.resend = false) (line : Nat)
    (ha : (answerArrives h 0 line s).2 = true) : exec (.readResp src tag line .ok) s = .next (lineIn h (responseIn h 0 line s)) := by
  show execReadResp src tag line .ok s = _
  unfold execReadResp
  rw [hh]
  dsimp only
  rw [if_neg (by rw [ha]; decide), if_neg (by rw [ht, hr]; decide), lineIn]
  by_cases hl : h.lines ≤ h.got + 1
  · rw [if_pos hl, if_pos hl]
    rfl
  · rw [if_neg hl, if_neg hl]
    rfl

/-- A response of the last line ends the request, and any other is counted at its source (14 R462, R466). -/
theorem readResp_does (line : Nat) (hh : heldOf s src tag = some h) (ht : h.type = 0) (hr : h.resend = false)
    (ha : (answerArrives h 0 line s).2 = true) :
    ∃ t, exec (.readResp src tag line .ok) s = .next t ∧ Counted s t O.flitsDelivered 1
      ∧ (h.got + 1 < h.lines → heldOf t src tag = some { h with got := h.got + 1 }
          ∧ Leaves s t [.dict, .mortar] [O.flitsDelivered, O.grantsLost])
      ∧ (h.lines ≤ h.got + 1 → h ∉ t.mortar.reqs ∧ (s.hod.halting = [] → Leaves s t [.dict, .mortar] [O.flitsDelivered, O.grantsLost])) := by
  have hL := responseIn_leaves h 0 line s
  have hC := responseIn_counted h 0 line s
  refine ⟨_, exec_readResp_ok hh ht hr line ha, ?_, fun hl => ?_, fun hl => ?_⟩
  · unfold lineIn
    split
    · exact (dropHeld_delivered h _).trans hC
    · exact ((Leaves.onMortar (ps := [.mortar]) (ks := []) _ _ (by decide)).2 _ List.not_mem_nil).trans hC
  · rw [lineIn, if_neg (by omega)]
    refine ⟨heldOf_swap hh (x := { h with got := h.got + 1 }) ⟨rfl, rfl⟩ ?_, Leaves.trans hL (Leaves.onMortar _ _ (by decide))⟩
    exact congrArg (List.map _) (responseIn_reqs h 0 line s)
  · rw [lineIn, if_pos hl]
    exact ⟨dropHeld_gone h _, fun hq => Leaves.trans hL (Leaves.mono (dropHeld_leaves (responseIn_quiet hq 0 line) h (ks := [])) (by decide) nofun)⟩

/-- The request as it waits to be sent again. -/
def Held.retried (now : Nat) (h : Held) : Held := { h with retry := h.retry + 1, sentAt := now, resend := true }

theorem answerRetry_waits (hr : h.retry < 8) (s : State) :
    answerRetry h s = s.onMortar fun m => { m with reqs := m.reqs.map (h.swap (h.retried s.clock.ticks)) } := by
  rw [answerRetry, if_neg (by omega)]
  rfl

theorem exec_readResp_retry (hh : heldOf s src tag = some h) (ht : h.type = 0) (hr : h.resend = false) (line : Nat)
    (ha : (answerArrives h 0 line s).2 = true) : exec (.readResp src tag line .retry) s = .next (answerRetry h (responseIn h 0 line s)) := by
  show execReadResp src tag line .retry s = _
  unfold execReadResp
  rw [hh]
  dsimp only
  rw [if_neg (by rw [ha]; decide), if_neg (by rw [ht, hr]; decide)]
  rfl

theorem exec_writeAck (hh : heldOf s src tag = some h) (ht : h.type = 1) (hr : h.resend = false) (ha : (answerArrives h 1 0 s).2 = true) :
    exec (.writeAck src tag .retry) s = .next (answerRetry h (responseIn h 1 0 s))
      ∧ exec (.writeAck src tag .ok) s = .next (dropHeld h (responseIn h 1 0 s)) := by
  constructor
  · show execWriteAck src tag .retry s = _
    unfold execWriteAck
    rw [hh]
    dsimp only
    rw [if_neg (by rw [ha]; decide), if_neg (by rw [ht, hr]; decide)]
    rfl
  · show execWriteAck src tag .ok s = _
    unfold execWriteAck
    rw [hh]
    dsimp only
    rw [if_neg (by rw [ha]; decide), if_neg (by rw [ht, hr]; decide)]
    rfl

theorem exec_messageAck (hh : heldOf s src tag = some h) (ht : h.type = 2) (hr : h.resend = false) (ha : (answerArrives h 2 0 s).2 = true) :
    exec (.messageAck src tag .retry) s = .next (answerRetry h (responseIn h 2 0 s))
      ∧ exec (.messageAck src tag .ok) s = .next (dropHeld h (responseIn h 2 0 s))
      ∧ (h.lines = 1 → exec (.messageAck src tag .domainAsleep) s = .next ((dropHeld h (responseIn h 2 0 s)).bump O.feedIgnored 1)) := by
  refine ⟨?_, ?_, fun hl => ?_⟩
  · show execMessageAck src tag .retry s = _
    unfold execMessageAck
    rw [hh]
    dsimp only
    rw [if_neg (by rw [ha]; decide), if_neg (by rw [ht, hr]; decide)]
    rfl
  · show execMessageAck src tag .ok s = _
    unfold execMessageAck
    rw [hh]
    dsimp only
    rw [if_neg (by rw [ha]; decide), if_neg (by rw [ht, hr]; decide)]
    rfl
  · show execMessageAck src tag .domainAsleep s = _
    unfold execMessageAck
    rw [hh]
    dsimp only
    rw [if_neg (by rw [ha]; decide), if_neg (by rw [ht, hr]; decide), if_neg (by rw [hl]; decide), if_pos (by rw [hl]; rfl)]
    rfl

/-- An answer RETRY makes the source wait to send again (14 R466). -/
theorem retry_does (line : Nat) (hh : heldOf s src tag = some h) (hr : h.resend = false) (h8 : h.retry < 8) (h3 : h.type < 3)
    (ha : (answerArrives h h.type (if h.type = 0 then line else 0) s).2 = true) :
    ∃ t, (if h.type = 0 then exec (.readResp src tag line .retry) s else if h.type = 1 then exec (.writeAck src tag .retry) s
          else exec (.messageAck src tag .retry) s) = .next t
      ∧ heldOf t src tag = some { h with retry := h.retry + 1, sentAt := s.clock.ticks, resend := true }
      ∧ Leaves s t [.dict, .mortar] [O.flitsDelivered, O.grantsLost] := by
  refine ⟨answerRetry h (responseIn h h.type (if h.type = 0 then line else 0) s), ?_, ?_, ?_⟩
  · by_cases h0 : h.type = 0
    · rw [if_pos h0, if_pos h0, h0]
      rw [if_pos h0, h0] at ha
      exact exec_readResp_retry hh h0 hr line ha
    · rw [if_neg h0, if_neg h0]
      rw [if_neg h0] at ha
      by_cases h1 : h.type = 1
      · rw [if_pos h1, h1]
        rw [h1] at ha
        exact (exec_writeAck hh h1 hr ha).1
      · have h2 : h.type = 2 := by omega
        rw [if_neg h1, h2]
        rw [h2] at ha
        exact (exec_messageAck hh h2 hr ha).1
  · rw [answerRetry_waits h8, (responseIn_leaves ..).1 .clock (by decide)]
    refine heldOf_swap hh (x := h.retried s.clock.ticks) ⟨rfl, rfl⟩ ?_
    exact congrArg (List.map _) (responseIn_reqs ..)
  · rw [answerRetry_waits h8]
    exact Leaves.trans (responseIn_leaves ..) (Leaves.onMortar _ _ (by decide))

/-- An acknowledge ends its request, and the end of a feed to a domain that sleeps is counted (14 R462, R475). -/
theorem ack_does (hh : heldOf s src tag = some h) (hr : h.resend = false) (hq : s.hod.halting = []) (ha : (answerArrives h h.type 0 s).2 = true) :
    (h.type = 1 → ∃ t, exec (.writeAck src tag .ok) s = .next t ∧ h ∉ t.mortar.reqs ∧ Counted s t O.flitsDelivered 1
        ∧ Leaves s t [.dict, .mortar] [O.flitsDelivered, O.grantsLost])
    ∧ (h.type = 2 → ∃ t, exec (.messageAck src tag .ok) s = .next t ∧ h ∉ t.mortar.reqs ∧ Counted s t O.flitsDelivered 1
        ∧ Leaves s t [.dict, .mortar] [O.flitsDelivered, O.grantsLost])
    ∧ (h.type = 2 → h.lines = 1 → ∃ t, exec (.messageAck src tag .domainAsleep) s = .next t ∧ h ∉ t.mortar.reqs
        ∧ Counted s t O.feedIgnored 1 ∧ Leaves s t [.dict, .mortar] [O.flitsDelivered, O.feedIgnored, O.grantsLost]) := by
  have hD (type : Nat) : Leaves s (dropHeld h (responseIn h type 0 s)) [.dict, .mortar] [O.flitsDelivered, O.grantsLost] :=
    Leaves.trans (responseIn_leaves h type 0 s) (Leaves.mono (dropHeld_leaves (responseIn_quiet hq type 0) h (ks := [])) (by decide) nofun)
  have hC (type : Nat) : Counted s (dropHeld h (responseIn h type 0 s)) O.flitsDelivered 1 :=
    ((dropHeld_leaves (responseIn_quiet hq type 0) h (ks := [])).2 _ List.not_mem_nil).trans (responseIn_counted ..)
  refine ⟨fun ht => ?_, fun ht => ?_, fun ht hl => ?_⟩
  · rw [ht] at ha
    exact ⟨_, (exec_writeAck hh ht hr ha).2, dropHeld_gone h _, hC 1, hD 1⟩
  · rw [ht] at ha
    exact ⟨_, (exec_messageAck hh ht hr ha).2.1, dropHeld_gone h _, hC 2, hD 2⟩
  · rw [ht] at ha
    refine ⟨_, (exec_messageAck hh ht hr ha).2.2 hl, ?_, Counted.of_obj ((hD 2).2 O.feedIgnored (by decide)) (State.obj_bump_same ..),
      Leaves.trans (Leaves.mono (hD 2) (by decide) (by decide)) (Leaves.bump _ _ _ (by decide) (by decide))⟩
    rw [State.bump_mortar]
    exact dropHeld_gone h _

/-! ## A request is sent again, or given up -/

/-- The request as it is held once it is sent again. -/
def Held.resent (now : Nat) (h : Held) : Held := { h with sentAt := now, resend := false }

/-- The state in which it is held so. -/
def resentAt (h : Held) (s : State) : State := s.onMortar fun m => { m with reqs := m.reqs.map (h.swap (h.resent s.clock.ticks)) }

theorem requestRetryResend_does (hh : heldOf s src tag = some h) (hr : h.resend = true) :
    ∃ t, exec (.requestRetryResend src tag) s = .next t ∧ h.sentAt + ticksOfNs 1000 ≤ t.clock.ticks
      ∧ heldOf t src tag = some { h with sentAt := t.clock.ticks, resend := false } ∧ Leaves s t (.mortar :: timeParts) [] := by
  have hA : Leaves s (advanceTicks s (h.sentAt + ticksOfNs 1000)) (.mortar :: timeParts) [] := advanceTicks_leaves s _ (by decide)
  have hm : (advanceTicks s (h.sentAt + ticksOfNs 1000)).mortar = s.mortar :=
    (advanceTicks_leaves s _ (ps := timeParts) (ks := []) (fun _ h => h)).1 .mortar (by decide)
  have hI := injectPacket_leaves_mortar h.flit h.count (resentAt h (advanceTicks s (h.sentAt + ticksOfNs 1000))) (ks := [])
  have hc : (injectPacket h.flit h.count (resentAt h (advanceTicks s (h.sentAt + ticksOfNs 1000)))).clock
      = (advanceTicks s (h.sentAt + ticksOfNs 1000)).clock := hI.1 .clock (by decide)
  have he : exec (.requestRetryResend src tag) s
      = .next (injectPacket h.flit h.count (resentAt h (advanceTicks s (h.sentAt + ticksOfNs 1000)))) := by
    show execRequestRetryResend src tag s = _
    unfold execRequestRetryResend
    rw [hh]
    dsimp only
    rw [if_pos hr]
    rfl
  refine ⟨_, he, ?_, ?_, Leaves.trans hA (Leaves.trans (Leaves.onMortar _ _ (by decide)) (Leaves.mono hI (by decide) nofun))⟩
  · rw [hc]
    exact le_advanceTicks ..
  · rw [hc]
    refine heldOf_swap hh (x := h.resent (advanceTicks s (h.sentAt + ticksOfNs 1000)).clock.ticks) ⟨rfl, rfl⟩ ?_
    refine (injectPacket_moves ..).reqs.trans ?_
    exact congrArg (fun m : Mortar => m.reqs.map (h.swap (h.resent (advanceTicks s (h.sentAt + ticksOfNs 1000)).clock.ticks))) hm

/-- The state in which a source has given a request up. -/
def givenUp (u : Nat) (c : Ctx) (e : Exc) (s : State) : State := enterExc u c e (countExc u c e (s.bump O.timeouts 1))

theorem abandon_tile {u : Nat} {c : Ctx} (ht : h.type ≠ 2) (hn : hodAt h.src = none) (hu : tileAt h.src = some u)
    (hc : Store.find s.tiles u = some c) (he : c.ended = none) :
    abandon h s = dropHeld h (givenUp u c ⟨8, tileAddrOf c h.addr⟩ s) := by
  have hc' : Store.find (s.bump O.timeouts 1).tiles u = some c := (congrArg (Store.find · u) (State.bump_tiles ..)).trans hc
  have h1 : tileTakes h.src 8 h.addr (s.bump O.timeouts 1) = givenUp u c ⟨8, tileAddrOf c h.addr⟩ s := by
    unfold tileTakes
    rw [hu]
    dsimp only
    rw [hc']
    dsimp only
    rw [if_neg (by rw [he]; decide)]
    rfl
  unfold abandon
  rw [hn]
  dsimp only
  rw [if_neg (by simpa using ht), h1]

theorem givenUp_leaves (u : Nat) (c : Ctx) (e : Exc) (s : State) :
    Leaves s (givenUp u c e s) [.blobs, .dict, .tiles] [O.timeouts, O.kExceptions u, O.fusedRefused, O.fusedLastRefusal] := by
  rw [givenUp, enterExc_eq]
  exact Leaves.trans (Leaves.bump _ _ _ (by decide) (by simp)) (Leaves.trans (Leaves.mono (countExc_leaves ..) (by decide) (by simp))
    (putCtx_leaves _ _ _ (by decide)))

theorem givenUp_counted {u : Nat} (hu : u < 200) (c : Ctx) (e : Exc) (s : State) : Counted s (givenUp u c e s) O.timeouts 1 := by
  have hx : (givenUp u c e s).obj O.timeouts = (s.bump O.timeouts 1).obj O.timeouts := by
    rw [givenUp, enterExc_eq]
    refine ((putCtx_leaves (ps := [.tiles]) (ks := []) _ _ _ (by decide)).2 _ List.not_mem_nil).trans ((countExc_leaves ..).2 _ ?_)
    simp only [O.timeouts, O.kExceptions, O.fusedRefused, O.fusedLastRefusal, List.mem_cons, List.not_mem_nil, or_false]
    omega
  exact hx.trans (State.obj_bump_same ..)

/-- After 4 µs without an answer a tile abandons its request, with MEM_TIMEOUT (14 R466; 11 R394). -/
theorem requestTimeout_does {u : Nat} {c : Ctx} (hh : heldOf s src tag = some h) (hr : h.resend = false) (ht : h.type ≠ 2)
    (hq : s.hod.halting = []) (hn : hodAt h.src = none) (hu : tileAt h.src = some u) (ho : OnSlot s u c) :
    ∃ t, exec (.requestTimeout src tag) s = .next t ∧ h.sentAt + ticksOfNs 4000 ≤ t.clock.ticks ∧ Counted s t O.timeouts 1
      ∧ h ∉ t.mortar.reqs ∧ SlotBecomes s t u { c with level := 2, prev := c.level, fEpc := c.pc, ended := some .fault }
      ∧ SameBut s t (.blobs :: .dict :: .mortar :: .tiles :: timeParts) := by
  obtain ⟨hu200, hc, hne⟩ := ho
  have hA : Leaves s (advanceTicks s (h.sentAt + ticksOfNs 4000)) timeParts [] := advanceTicks_leaves s _ (fun _ h => h)
  have hG := givenUp_leaves u c ⟨8, tileAddrOf c h.addr⟩ (advanceTicks s (h.sentAt + ticksOfNs 4000))
  have hquiet : (givenUp u c ⟨8, tileAddrOf c h.addr⟩ (advanceTicks s (h.sentAt + ticksOfNs 4000))).hod.halting = [] := by
    rw [hG.1 .hod (by decide), hA.1 .hod (by decide)]
    exact hq
  have hD := dropHeld_leaves hquiet h (ks := [])
  have htiles : (advanceTicks s (h.sentAt + ticksOfNs 4000)).tiles = s.tiles := hA.1 .tiles (by decide)
  have he : exec (.requestTimeout src tag) s
      = .next (dropHeld h (givenUp u c ⟨8, tileAddrOf c h.addr⟩ (advanceTicks s (h.sentAt + ticksOfNs 4000)))) := by
    rw [← abandon_tile ht hn hu (by rw [htiles]; exact hc) hne]
    show execRequestTimeout src tag s = _
    unfold execRequestTimeout
    rw [hh]
    dsimp only
    rw [if_neg (by rw [hr]; decide)]
  refine ⟨_, he, ?_, ?_, dropHeld_gone h _, ?_, ?_⟩
  · rw [hD.1 .clock (by decide), hG.1 .clock (by decide)]
    exact le_advanceTicks ..
  · exact (hD.2 _ List.not_mem_nil).trans (Counted.of_obj (hA.2 _ List.not_mem_nil) (givenUp_counted hu200 ..))
  · have hx : excCtx c 8 (tileAddrOf c h.addr) = { c with level := 2, prev := c.level, fEpc := c.pc, ended := some .fault } := by
      rw [excCtx, if_neg (by simp)]
      rfl
    have hct := (countExc_leaves u c ⟨8, tileAddrOf c h.addr⟩ ((advanceTicks s (h.sentAt + ticksOfNs 4000)).bump O.timeouts 1)).1 .tiles (by decide)
    have hb : SlotBecomes s (givenUp u c ⟨8, tileAddrOf c h.addr⟩ (advanceTicks s (h.sentAt + ticksOfNs 4000))) u
        (excCtx c 8 (tileAddrOf c h.addr)) := by
      rw [givenUp, enterExc_eq]
      exact SlotBecomes.of_tiles (hct.trans ((State.bump_tiles ..).trans htiles)) (putCtx_becomes ..)
    rw [hx] at hb
    obtain ⟨h1, h2⟩ := hb
    have hdt : (dropHeld h (givenUp u c ⟨8, tileAddrOf c h.addr⟩ (advanceTicks s (h.sentAt + ticksOfNs 4000)))).tiles = _ := hD.1 .tiles (by decide)
    exact ⟨by rw [hdt]; exact h1, fun v hv => by rw [hdt]; exact h2 v hv⟩
  · exact SameBut.trans (SameBut.mono hA.1 (by decide)) (SameBut.trans (SameBut.mono hG.1 (by decide)) (SameBut.mono hD.1 (by decide)))

end

end Sys2Proof.Machine
open Sys2Proof Sys2Proof.Machine Sys2Proof.Safety

/-- Settles O44: a packet's way changes only what moves on the links, so that what a source holds is read through it, and the bytes of a write
line by line. -/
theorem fabricRequests : Obligations.FabricRequests := by
  unfold Obligations.FabricRequests
  exact ⟨fun _ _ hp hr hf ht hb hn => readReq_does hp hr hf ht hb hn, fun _ found _ hp hr hf => readReq_asleep found hp hr hf,
    fun _ mask data found _ hp => ⟨fun hr => readReq_lost hp hr found, fun hr => write_lost hp hr mask data found⟩,
    fun _ mask data _ hp hr hd hf ht hl => write_does mask data hp hr hd hf ht hl, fun _ kind payload _ hs ha hd => message_does kind payload hs ha hd,
    fun _ _ line _ _ hh ht hr ha => readResp_does line hh ht hr ha, fun _ _ line _ _ hh hr h8 h3 ha => retry_does line hh hr h8 h3 ha,
    fun _ _ _ _ hh hr hq ha => ack_does hh hr hq ha, fun _ _ _ _ hh hr => requestRetryResend_does hh hr,
    fun _ _ _ _ _ _ hh hr ht hq hn hu ho => requestTimeout_does hh hr ht hq hn hu ho⟩
end

section
/-! SUPPORT. Decode jobs of the kiln (07 R234 to R251): feeds, restarts, and the boundaries of attempts. -/
namespace Sys2Proof.Machine
open Sys2Proof.Safety

/-! ## A job changed -/

section
variable {s : State} {tag : Nat} {j : Job} {o : Op}

theorem onKiln_find (h : Store.find s.kiln.jobs tag = some j) (f : Job → Job) : Store.find (s.onKiln tag f).kiln.jobs tag = some (f j) := by
  unfold State.onKiln
  rw [h]
  exact Store.find_put_same ..

theorem onKiln_find_ne (s : State) (f : Job → Job) {u : Nat} (h : u ≠ tag) :
    Store.find (s.onKiln tag f).kiln.jobs u = Store.find s.kiln.jobs u := by
  unfold State.onKiln
  split
  · exact Store.find_put_ne _ _ _ _ h
  · rfl

theorem onKiln_op (s : State) (tag : Nat) (f : Job → Job) (u : Nat) : (s.onKiln tag f).op u = s.op u :=
  op_congr (congrArg Sched.ops (State.onKiln_sched ..)) u

theorem blockEnds_jobs (s : State) (j : Job) (f : Checker → Checker) : (s.blockEnds j f).kiln.jobs = s.kiln.jobs := by
  unfold State.blockEnds
  split
  · rfl
  · split
    · rfl
    · rfl

theorem blockEnds_leaves (s : State) (j : Job) (f : Checker → Checker) {ks : List Nat} : Leaves s (s.blockEnds j f) [.kiln] ks := by
  unfold State.blockEnds
  split
  · exact Leaves.refl ..
  · split
    · exact Leaves.setKiln _ _ (by decide)
    · exact Leaves.setKiln _ _ (by decide)

/-! ## Feeds -/

/-- A job that a feed has reached. -/
def Job.fedTo (now : Nat) (j : Job) : Job := { j with eRx := now, fed := j.fed || decide (j.eRx < now) }

/-- A suspended job with the LLRs that its count covers. -/
def Job.withLlrs (llr : List Int) (j : Job) : Job := if j.susp then { j with dec := { j.dec with llr := llr } } else j

/-- The state in which a feed has raised a job's count. -/
def feedTaken (tag now : Nat) (s : State) : State := s.onKiln tag (Job.fedTo now)

theorem feedKiln_takes {arrived : Nat} (hj : Store.find s.kiln.jobs tag = some j) (hs : j.status = none) (ha : j.eRx ≤ arrived) :
    feedKiln tag arrived s = askRestart tag (readLlrs tag (feedTaken tag (min arrived j.e) s)) := by
  unfold feedKiln
  rw [hj]
  dsimp only
  rw [if_neg (by rw [hs]; simpa using ha)]
  rfl

theorem readLlrs_find (hj : Store.find s.kiln.jobs tag = some j) :
    ∃ llr, Store.find (readLlrs tag s).kiln.jobs tag = some (j.withLlrs llr) := ⟨arrivedLlrs s tag j.eRx, onKiln_find hj _⟩

theorem readLlrs_leaves (tag : Nat) (s : State) {ks : List Nat} : Leaves s (readLlrs tag s) [.kiln] ks := Leaves.onKiln _ _ _ (by decide)

theorem askRestart_not (hj : Store.find s.kiln.jobs tag = some j) (h : j.asksRestart j.dec.set.step = false) : askRestart tag s = s := by
  unfold askRestart
  rw [hj]
  dsimp only
  rw [if_neg (by rw [h]; decide)]

theorem askRestart_asks (hj : Store.find s.kiln.jobs tag = some j) (h : j.asksRestart j.dec.set.step = true) (ho : s.op tag = some o)
    (hs : o.state = .suspended) (hc : o.cancel = false) : askRestart tag s = makeReady tag { o with prio := 0 } s := by
  unfold askRestart
  rw [hj]
  dsimp only
  rw [if_pos h, ho]
  dsimp only
  rw [if_pos (by rw [hs, hc]; rfl)]

theorem makeReady_op {p : Op} (hp : s.op tag = some p) (o : Op) : ∃ o', (makeReady tag o s).op tag = some o' ∧ o'.state = .ready ∧ o'.prio = o.prio
    ∧ o'.unit = o.unit := by
  unfold makeReady
  dsimp only
  rw [traceOp_op, onOp_op, if_pos rfl, hp]
  exact ⟨_, rfl, rfl, rfl, rfl⟩

theorem makeReady_leaves (tag : Nat) (o : Op) (s : State) : Leaves s (makeReady tag o s) [.dict, .sched] traceKeys :=
  Leaves.trans (Leaves.onOp _ _ _ (by decide)) (traceOp_leaves ..)

theorem askRestart_leaves (ho : s.op tag = some o) : Leaves s (askRestart tag s) [.dict, .sched] traceKeys := by
  unfold askRestart
  split
  · rw [ho]
    exact Leaves.ite _ (Leaves.ite _ (makeReady_leaves ..) (Leaves.refl ..)) (Leaves.refl ..)
  · exact Leaves.refl ..

/-- A job that has been fed, suspended or running, has its count raised, and only that and its LLRs. -/
theorem feedRead_find (hj : Store.find s.kiln.jobs tag = some j) (now : Nat) :
    ∃ llr, Store.find (readLlrs tag (feedTaken tag now s)).kiln.jobs tag = some ((j.fedTo now).withLlrs llr) := readLlrs_find (onKiln_find hj _)

theorem feedRead_leaves (tag now : Nat) (s : State) : Leaves s (readLlrs tag (feedTaken tag now s)) [.kiln] [] :=
  Leaves.trans (Leaves.onKiln _ _ _ (by decide)) (readLlrs_leaves ..)

theorem feedRead_ne (s : State) (now : Nat) {u : Nat} (h : u ≠ tag) :
    Store.find (readLlrs tag (feedTaken tag now s)).kiln.jobs u = Store.find s.kiln.jobs u :=
  (onKiln_find_ne _ _ h).trans (onKiln_find_ne _ _ h)

theorem withLlrs_running (h : j.susp = false) (llr : List Int) : j.withLlrs llr = j := if_neg (by rw [h]; decide)

/-- A feed of a running attempt waits for its next boundary (07 R242, R243). -/
theorem kilnFeed_running {arrived : Nat} (hj : Store.find s.kiln.jobs tag = some j) (hs : j.status = none) (hr : j.susp = false)
    (ha : j.eRx < min arrived j.e) :
    ∃ t, exec (.kilnFeed tag arrived) s = .next t ∧ Leaves s t [.kiln] []
      ∧ Store.find t.kiln.jobs tag = some { j with eRx := min arrived j.e, fed := true }
      ∧ ∀ u, u ≠ tag → Store.find t.kiln.jobs u = Store.find s.kiln.jobs u := by
  obtain ⟨llr, hl⟩ := feedRead_find hj (min arrived j.e)
  rw [withLlrs_running (show (j.fedTo (min arrived j.e)).susp = false from hr)] at hl
  have hx : (j.fedTo (min arrived j.e)).asksRestart (j.fedTo (min arrived j.e)).dec.set.step = false := by
    unfold Job.asksRestart
    rw [show (j.fedTo (min arrived j.e)).susp = false from hr, Bool.false_and, Bool.false_and]
  have he : feedKiln tag arrived s = readLlrs tag (feedTaken tag (min arrived j.e) s) := by
    rw [feedKiln_takes hj hs (by omega), askRestart_not hl hx]
  refine ⟨_, congrArg Host.Outcome.next he, feedRead_leaves .., hl.trans ?_, fun u hu => feedRead_ne s _ hu⟩
  rw [Job.fedTo, decide_eq_true ha, Bool.or_true]

/-- A feed of no job, or of one that has ended, is ignored and counted. -/
theorem kilnFeed_ignored {arrived : Nat} (h : ∀ j, Store.find s.kiln.jobs tag = some j → j.status ≠ none ∨ arrived < j.eRx) :
    ∃ t, exec (.kilnFeed tag arrived) s = .next t ∧ Counted s t O.feedIgnored 1 ∧ Leaves s t [.dict] [O.feedIgnored] := by
  have he : feedKiln tag arrived s = s.bump O.feedIgnored 1 := by
    unfold feedKiln
    cases hj : Store.find s.kiln.jobs tag with
    | none => rfl
    | some j =>
      dsimp only
      rw [if_pos]
      rw [Bool.or_eq_true, Option.isSome_iff_ne_none, decide_eq_true_eq]
      exact h j hj
  exact ⟨_, congrArg Host.Outcome.next he, State.obj_bump_same .., Leaves.bump _ _ _ (by decide) (by decide)⟩

/-- A feed of a suspended job makes it ready in class 0, where it then asks for its restart (07 R244; 13 R449). -/
theorem kilnFeed_suspended {arrived : Nat} (hj : Store.find s.kiln.jobs tag = some j) (hs : j.status = none) (hr : j.susp = true)
    (ha : j.eRx ≤ arrived) (ho : s.op tag = some o) (hos : o.state = .suspended) (hc : o.cancel = false) :
    ∃ t o', exec (.kilnFeed tag arrived) s = .next t ∧ Leaves s t [.dict, .kiln, .sched] [O.traceWritten, O.traceLost]
      ∧ (∃ j', Store.find t.kiln.jobs tag = some j' ∧ j'.eRx = min arrived j.e ∧ j'.susp = true ∧ j'.status = none)
      ∧ t.op tag = some o'
      ∧ (if ({ j with eRx := min arrived j.e } : Job).asksRestart j.dec.set.step = true then o'.state = .ready ∧ o'.prio = 0
         else o' = o) := by
  obtain ⟨llr, hl⟩ := feedRead_find hj (min arrived j.e)
  have hw : (j.fedTo (min arrived j.e)).withLlrs llr = { j.fedTo (min arrived j.e) with dec := { j.dec with llr := llr } } := if_pos hr
  rw [hw] at hl
  have hop : (readLlrs tag (feedTaken tag (min arrived j.e) s)).op tag = some o := (onKiln_op ..).trans ((onKiln_op ..).trans ho)
  have hA := askRestart_leaves hop
  refine ⟨askRestart tag (readLlrs tag (feedTaken tag (min arrived j.e) s)), ?_⟩
  by_cases hx : ({ j with eRx := min arrived j.e } : Job).asksRestart j.dec.set.step = true
  · have he := askRestart_asks hl hx hop hos hc
    obtain ⟨o', ho', h1, h2, -⟩ := makeReady_op hop { o with prio := 0 }
    refine ⟨o', congrArg Host.Outcome.next (feedKiln_takes hj hs ha), ?_, ⟨_, (congrArg (fun k : Kiln => Store.find k.jobs tag) (hA.1 .kiln (by decide))).trans hl,
      rfl, hr, hs⟩, by rw [he]; exact ho', ?_⟩
    · exact Leaves.trans (Leaves.mono (feedRead_leaves ..) (by decide) nofun) (Leaves.mono hA (by decide) fun _ h => h)
    · rw [if_pos hx]
      exact ⟨h1, h2⟩
  · have he := askRestart_not hl (Bool.eq_false_of_not_eq_true hx)
    refine ⟨o, congrArg Host.Outcome.next (feedKiln_takes hj hs ha), ?_, ⟨_, (congrArg (fun k : Kiln => Store.find k.jobs tag) (hA.1 .kiln (by decide))).trans hl,
      rfl, hr, hs⟩, by rw [he]; exact hop, by rw [if_neg hx]⟩
    exact Leaves.trans (Leaves.mono (feedRead_leaves ..) (by decide) nofun) (Leaves.mono hA (by decide) fun _ h => h)

end

/-! ## What an attempt keeps of its job -/

/-- An attempt runs on the same job: what its descriptor says, and how it stands, are as they were. -/
structure SameJob (j r : Job) : Prop where
  kind : r.kind = j.kind
  check : r.check = j.check
  tbTag : r.tbTag = j.tbTag
  blocks : r.c = j.c
  desc : r.desc = j.desc
  status : r.status = j.status
  susp : r.susp = j.susp

theorem SameJob.refl (j : Job) : SameJob j j := ⟨rfl, rfl, rfl, rfl, rfl, rfl, rfl⟩

theorem SameJob.trans {j k l : Job} (h1 : SameJob j k) (h2 : SameJob k l) : SameJob j l :=
  ⟨h2.kind.trans h1.kind, h2.check.trans h1.check, h2.tbTag.trans h1.tbTag, h2.blocks.trans h1.blocks, h2.desc.trans h1.desc,
    h2.status.trans h1.status, h2.susp.trans h1.susp⟩

theorem folded_same (j : Job) (llr : List Int) : SameJob j (j.folded llr) := by
  unfold Job.folded
  dsimp only
  split
  · exact ⟨rfl, rfl, rfl, rfl, rfl, rfl, rfl⟩
  · exact ⟨rfl, rfl, rfl, rfl, rfl, rfl, rfl⟩

theorem atBoundary_same (s : State) (tag : Nat) (j : Job) : SameJob j (atBoundary s tag j).1 := by
  unfold atBoundary
  split
  · exact SameJob.refl j
  · dsimp only
    split
    · exact folded_same ..
    · exact SameJob.refl j

theorem runAttempt_same (s : State) (tag n : Nat) (j : Job) : SameJob j (runAttempt s tag n j).1 := by
  induction n generalizing j with
  | zero => exact SameJob.refl j
  | succ n ih =>
    have hi : SameJob j { j with dec := j.dec.iterate j.kind j.e } := ⟨rfl, rfl, rfl, rfl, rfl, rfl, rfl⟩
    have hb := hi.trans (atBoundary_same s tag { j with dec := j.dec.iterate j.kind j.e })
    unfold runAttempt
    split
    · next k hk =>
      rw [hk] at hb
      exact hb.trans (ih k)
    · exact hb

theorem isLastBlock_congr {s t : State} {j r : Job} (h : SameJob j r) (hk : t.kiln = s.kiln) : isLastBlock t r = isLastBlock s j := by
  have hc : t.checker r = s.checker j := by rw [State.checker, h.tbTag, h.blocks, hk, State.checker]
  rw [isLastBlock, h.check, h.tbTag, hk, hc, h.blocks, isLastBlock]

/-! ## The end of an attempt -/

section
variable {s : State} {tag : Nat} {b : Boundary} {j r : Job} {o : Op}

/-- A job whose attempt has come to a boundary, with the iterations that it ran. -/
def Job.atEnd (j r : Job) : Job := { r with last := wholeIters j.kind r.dec.run, iters := r.iters + wholeIters j.kind r.dec.run }

/-- The state in which the folds of an attempt are counted. -/
def restartsCounted (j r : Job) (s : State) : State :=
  if j.restarts < r.restarts then s.bump O.runaheadRestarts (r.restarts - j.restarts) else s

/-- The state in which the iterations of a job that ends are counted as well. -/
def iterationsCounted (j r : Job) (s : State) : State := (restartsCounted j r s).bump O.iterations (j.atEnd r).iters

/-- What an attempt's end does, by how it ends. -/
def attemptEnds (tag : Nat) (j r : Job) (how : AttemptEnd) (s : State) : State :=
  match how with
  | .goesOn => (restartsCounted j r s).onKiln tag fun _ => r
  | .pass => jobPass tag (j.atEnd r) (iterationsCounted j r s)
  | .fail => jobFail tag (j.atEnd r) (iterationsCounted j r s)
  | .suspend => jobSuspend tag (j.atEnd r) (restartsCounted j r s)

/-- A dispatched decode whose attempt runs. -/
structure Decoding (s : State) (tag : Nat) (j : Job) (o : Op) : Prop where
  job : Store.find s.kiln.jobs tag = some j
  open' : j.status = none
  awake : j.susp = false
  notPolar : isPolar j.kind = false
  op : s.op tag = some o
  decode : o.cls = 1
  runs : o.state = .running
  kept : o.cancel = false

theorem attemptEnd_eq (h : Decoding s tag j o) (hi : b.inputLost = false) (hv : b.versionLost = false) :
    attemptEnd tag b s = attemptEnds tag j (runAttempt s tag b.iterations j).1 (runAttempt s tag b.iterations j).2 s := by
  have hr : attemptRuns s tag j = true := by
    unfold attemptRuns
    rw [h.open', h.awake, h.op]
    dsimp only
    rw [h.decode, h.runs]
    rfl
  have hc : cancelPending s tag = false := by
    unfold cancelPending
    rw [h.op]
    exact h.kept
  unfold attemptEnd
  rw [h.job]
  dsimp only
  rw [if_neg (by rw [hr]; decide), if_neg (by rw [hc]; decide), if_neg (by rw [hi]; decide), if_neg (by rw [hv, Bool.false_and]; decide),
    h.job, Option.getD_some]
  simp only [h.notPolar, Bool.false_eq_true, if_false]
  rfl

theorem restartsCounted_leaves (j r : Job) (s : State) : Leaves s (restartsCounted j r s) [.dict] [O.runaheadRestarts] :=
  Leaves.ite _ (Leaves.bump _ _ _ (by decide) (by decide)) (Leaves.refl ..)

theorem restartsCounted_counted (h : j.restarts < r.restarts) :
    Counted s (restartsCounted j r s) O.runaheadRestarts (r.restarts - j.restarts) := by
  rw [restartsCounted, if_pos h]
  exact State.obj_bump_same ..

theorem iterationsCounted_leaves (j r : Job) (s : State) : Leaves s (iterationsCounted j r s) [.dict] [O.runaheadRestarts, O.iterations] :=
  Leaves.trans (Leaves.mono (restartsCounted_leaves ..) (by decide) (by decide)) (Leaves.bump _ _ _ (by decide) (by decide))

theorem iterationsCounted_counted (j r : Job) (s : State) : Counted s (iterationsCounted j r s) O.iterations (j.atEnd r).iters :=
  Counted.of_obj ((restartsCounted_leaves ..).2 O.iterations (by decide)) (State.obj_bump_same ..)

/-- The counters of a decode that passes or fails. -/
def judgedKey (status : Nat) : Nat := if status = 0 then O.decPass else O.decFail

theorem countJob_eq {kind status : Nat} (hp : isPolar kind = false) (hs : status = 0 ∨ status = 1) (s : State) :
    countJob kind status s = (s.bump O.decJobs 1).bump (judgedKey status) 1 := by
  rcases hs with rfl | rfl
  · simp only [countJob, hp]
    rfl
  · simp only [countJob, hp]
    rfl

/-- The state in which a job that ends with a status is counted. -/
def endCounted (tag status : Nat) (j : Job) (s : State) : State :=
  ((s.onKiln tag fun _ => { j with status := some status }).bump O.decJobs 1).bump (judgedKey status) 1

theorem endCounted_leaves (tag status : Nat) (j : Job) (s : State) : Leaves s (endCounted tag status j s) [.dict, .kiln] [O.decJobs, judgedKey status] :=
  Leaves.trans (Leaves.onKiln _ _ _ (by decide)) (Leaves.trans (Leaves.bump _ _ _ (by decide) (by simp)) (Leaves.bump _ _ _ (by decide) (by simp)))

theorem jobDone_op {status : Nat} (hp : isPolar j.kind = false) (hs : status = 0 ∨ status = 1) (ho : s.op tag = some o) :
    jobDone tag status j s = (endCounted tag status j s).onOp tag fun o => { o with ended := some (statusEnd status), data := j.outputs tag status o } := by
  have hop : (endCounted tag status j s).op tag = some o := by
    rw [op_congr (congrArg Sched.ops ((endCounted_leaves tag status j s).1 .sched (by decide)))]
    exact ho
  unfold jobDone
  dsimp only
  rw [countJob_eq hp hs, ← endCounted, hop]

/-- A job that ends with PASS or FAIL: its job, its instance, and its counts (07 Tables 7-7, 7-13). -/
theorem jobDone_does {status : Nat} {k : Job} (hp : isPolar j.kind = false) (hs : status = 0 ∨ status = 1) (ho : s.op tag = some o)
    (hk : Store.find s.kiln.jobs tag = some k) :
    Store.find (jobDone tag status j s).kiln.jobs tag = some { j with status := some status }
      ∧ (∃ o', (jobDone tag status j s).op tag = some o' ∧ o'.ended = some .ok ∧ o'.state = o.state)
      ∧ Counted s (jobDone tag status j s) O.decJobs 1 ∧ Counted s (jobDone tag status j s) (judgedKey status) 1
      ∧ Leaves s (jobDone tag status j s) [.dict, .kiln, .sched] [O.decJobs, judgedKey status] := by
  have hE := endCounted_leaves tag status j s
  have hop : (endCounted tag status j s).op tag = some o := by
    rw [op_congr (congrArg Sched.ops (hE.1 .sched (by decide)))]
    exact ho
  have hO : Leaves (endCounted tag status j s) (jobDone tag status j s) [.sched] [] := by
    rw [jobDone_op hp hs ho]
    exact Leaves.onOp _ _ _ (by decide)
  have hne : O.decJobs ≠ judgedKey status := by
    unfold judgedKey
    split <;> decide
  have hend : statusEnd status = .ok := by rcases hs with rfl | rfl <;> rfl
  refine ⟨?_, ?_, ?_, ?_, Leaves.trans (Leaves.mono hE (by decide) fun _ h => h) (Leaves.mono hO (by decide) nofun)⟩
  · rw [hO.1 .kiln (by decide)]
    have hb : (endCounted tag status j s).kiln = (s.onKiln tag fun _ => { j with status := some status }).kiln :=
      (State.bump_kiln ..).trans (State.bump_kiln ..)
    rw [hb]
    exact onKiln_find hk _
  · rw [jobDone_op hp hs ho, onOp_op, if_pos rfl, hop]
    exact ⟨_, rfl, congrArg some hend, rfl⟩
  · refine (hO.2 _ List.not_mem_nil).trans ((State.obj_bump_ne _ _ _ _ hne).trans (Counted.of_obj (State.onKiln_obj s tag _ O.decJobs) (State.obj_bump_same ..)))
  · refine (hO.2 _ List.not_mem_nil).trans (Counted.of_obj ((State.obj_bump_ne _ _ _ _ hne.symm).trans (State.onKiln_obj ..)) (State.obj_bump_same ..))

/-- What an attempt that goes on writes of its job. -/
theorem attemptGoesOn_does (h : Store.find s.kiln.jobs tag = some j) (r : Job) :
    Store.find (attemptEnds tag j r .goesOn s).kiln.jobs tag = some r
      ∧ Leaves s (attemptEnds tag j r .goesOn s) [.dict, .kiln] [O.runaheadRestarts] := by
  have hR := restartsCounted_leaves j r s
  have hk : Store.find (restartsCounted j r s).kiln.jobs tag = some j := by
    rw [hR.1 .kiln (by decide)]
    exact h
  exact ⟨onKiln_find hk _, Leaves.trans (Leaves.mono hR (by decide) fun _ h => h) (Leaves.onKiln _ _ _ (by decide))⟩

theorem iterationsCounted_kiln (j r : Job) (s : State) : (iterationsCounted j r s).kiln = s.kiln :=
  (iterationsCounted_leaves j r s).1 .kiln (by decide)

theorem iterationsCounted_op (ho : s.op tag = some o) (r : Job) : (iterationsCounted j r s).op tag = some o :=
  (op_congr (congrArg Sched.ops ((iterationsCounted_leaves j r s).1 .sched (by decide))) tag).trans ho

theorem iterationsCounted_lastBlock (h : SameJob j r) : isLastBlock (iterationsCounted j r s) (j.atEnd r) = isLastBlock s j :=
  isLastBlock_congr ⟨h.kind, h.check, h.tbTag, h.blocks, h.desc, h.status, h.susp⟩ (iterationsCounted_kiln ..)

/-- A block of a transport block that passes, in the checker's account (07 R240). -/
def Job.passes (j : Job) (k : Checker) : Checker :=
  { k with passed := k.passed ++ [j.block], sum := Nat.xor k.sum (j.dec.contribution j.kind)
           crc := match j.dec.tbCrc j.kind with
             | some x => some x
             | none => k.crc }

/-- The job that has passed, before its status. -/
def Job.passed (last : Bool) (j : Job) : Job := { j with early := decide (j.eRx < j.e), checked := last }

/-- The state in which a pass is in the checker's account, and counted if it came early. -/
def passTaken (last : Bool) (j : Job) (s : State) : State :=
  if decide (j.eRx < j.e) = true then (s.blockEnds (j.passed last) j.passes).bump O.runaheadEarly 1 else s.blockEnds (j.passed last) j.passes

theorem jobPass_eq (hp : isPolar j.kind = false) : jobPass tag j s = jobDone tag 0 (j.passed (isLastBlock s j)) (passTaken (isLastBlock s j) j s) := by
  unfold jobPass
  dsimp only
  rw [hp, Bool.not_false, Bool.and_true]
  rfl

theorem passTaken_leaves (last : Bool) (j : Job) (s : State) : Leaves s (passTaken last j s) [.dict, .kiln] [O.runaheadEarly] :=
  have hB := fun k f => Leaves.mono (blockEnds_leaves s k f (ks := [])) (by decide) (List.nil_subset _)
  Leaves.ite _ (Leaves.trans (hB _ _) (Leaves.bump _ _ _ (by decide) (by decide))) (hB _ _)

theorem passTaken_jobs (last : Bool) (j : Job) (s : State) : (passTaken last j s).kiln.jobs = s.kiln.jobs := by
  unfold passTaken
  split
  · rw [State.bump_kiln]
    exact blockEnds_jobs ..
  · exact blockEnds_jobs ..

/-- The job that has failed, before its status. -/
def Job.failed (mismatch : Bool) (j : Job) : Job := { j with newVersion := bytesAt j.desc 36 6 != 0, mismatch := mismatch }

/-- The state in which a failure is in the checker's account, and counted if the transport block's CRC was what failed. -/
def failTaken (mismatch : Bool) (j : Job) (s : State) : State :=
  if mismatch = true then (s.blockEnds j id).bump O.tbMismatches 1 else s.blockEnds j id

theorem jobFail_eq (hp : isPolar j.kind = false) :
    jobFail tag j s = jobDone tag 1 (j.failed (isLastBlock s j && j.dec.pass)) (failTaken (isLastBlock s j && j.dec.pass) j s) := by
  unfold jobFail
  dsimp only
  rw [hp, Bool.not_false, Bool.true_and]
  rfl

theorem failTaken_leaves (mismatch : Bool) (j : Job) (s : State) : Leaves s (failTaken mismatch j s) [.dict, .kiln] [O.tbMismatches] :=
  have hB := fun k f => Leaves.mono (blockEnds_leaves s k f (ks := [])) (by decide) (List.nil_subset _)
  Leaves.ite _ (Leaves.trans (hB _ _) (Leaves.bump _ _ _ (by decide) (by decide))) (hB _ _)

theorem failTaken_jobs (mismatch : Bool) (j : Job) (s : State) : (failTaken mismatch j s).kiln.jobs = s.kiln.jobs := by
  unfold failTaken
  split
  · rw [State.bump_kiln]
    exact blockEnds_jobs ..
  · exact blockEnds_jobs ..

/-- A decode that passes or fails: its job and its instance end, and the end is counted with the attempt's restarts and iterations. -/
theorem attemptJudged_does (h : Decoding s tag j o) (r : Job) {status x : Nat} {k : Job} {u : State} (hs : status = 0 ∨ status = 1)
    (hp : isPolar k.kind = false) (hL : Leaves (iterationsCounted j r s) u [.dict, .kiln] [x]) (hj : u.kiln.jobs = s.kiln.jobs)
    (hx : x ∉ [O.decJobs, O.decPass, O.decFail, O.iterations, O.runaheadRestarts]) :
    Store.find (jobDone tag status k u).kiln.jobs tag = some { k with status := some status }
      ∧ (∃ o', (jobDone tag status k u).op tag = some o' ∧ o'.ended = some .ok ∧ o'.state = .running)
      ∧ Counted s (jobDone tag status k u) O.decJobs 1 ∧ Counted s (jobDone tag status k u) (judgedKey status) 1
      ∧ Counted s (jobDone tag status k u) O.iterations (j.atEnd r).iters
      ∧ (j.restarts < r.restarts → Counted s (jobDone tag status k u) O.runaheadRestarts (r.restarts - j.restarts))
      ∧ Leaves s (jobDone tag status k u) [.dict, .kiln, .sched] [O.runaheadRestarts, O.iterations, x, O.decJobs, judgedKey status] := by
  have hI := iterationsCounted_leaves j r s
  have hjk : judgedKey status = O.decPass ∨ judgedKey status = O.decFail := by rcases hs with rfl | rfl <;> simp [judgedKey]
  simp only [List.mem_cons, List.not_mem_nil, or_false, not_or] at hx
  obtain ⟨hx1, hx2, hx3, hx4, hx5⟩ := hx
  have hop : u.op tag = some o :=
    (op_congr (congrArg Sched.ops (hL.1 .sched (by decide))) tag).trans (iterationsCounted_op h.op r)
  have hjob : Store.find u.kiln.jobs tag = some j := by rw [hj]; exact h.job
  obtain ⟨hfind, ⟨o', ho', he, hst⟩, hC1, hC2, hD⟩ := jobDone_does (j := k) hp hs hop hjob
  have hsu : ∀ n, n ∉ [O.runaheadRestarts, O.iterations] → n ≠ x → u.obj n = s.obj n := fun n h1 h2 =>
    (hL.2 n (by simpa using h2)).trans (hI.2 n h1)
  have hud : ∀ n, n ≠ O.decJobs → n ≠ judgedKey status → (jobDone tag status k u).obj n = u.obj n := fun n h1 h2 =>
    hD.2 n (by simp [h1, h2])
  have hkeep : ∀ n, n ∉ [O.decJobs, O.decPass, O.decFail] → n ≠ judgedKey status := by
    intro n hn
    rcases hjk with e | e <;> rw [e] <;> simp_all
  refine ⟨hfind, ⟨o', ho', he, hst.trans h.runs⟩, Counted.of_obj (hsu _ (by decide) (Ne.symm hx1)) hC1, ?_, ?_, fun hr => ?_, ?_⟩
  · refine Counted.of_obj ?_ hC2
    rcases hjk with e | e
    · rw [e]
      exact hsu _ (by decide) (Ne.symm hx2)
    · rw [e]
      exact hsu _ (by decide) (Ne.symm hx3)
  · exact (hud _ (by decide) (hkeep _ (by decide))).trans
      ((hL.2 _ (by simpa using Ne.symm hx4)).trans (iterationsCounted_counted j r s))
  · refine (hud _ (by decide) (hkeep _ (by decide))).trans ((hL.2 _ (by simpa using Ne.symm hx5)).trans ?_)
    exact (State.obj_bump_ne _ _ _ _ (by decide)).trans (restartsCounted_counted hr)
  · refine Leaves.trans (Leaves.mono hI (by decide) (by simp)) (Leaves.trans (Leaves.mono hL (by decide) (by simp)) (Leaves.mono hD (by decide) ?_))
    intro n hn
    simp only [List.mem_cons, List.not_mem_nil, or_false] at hn ⊢
    tauto

theorem attemptEnds_pass (r : Job) (h : SameJob j r) (hp : isPolar j.kind = false) :
    attemptEnds tag j r .pass s
      = jobDone tag 0 ((j.atEnd r).passed (isLastBlock s j)) (passTaken (isLastBlock s j) (j.atEnd r) (iterationsCounted j r s)) := by
  have hr : isPolar (j.atEnd r).kind = false := by rw [show (j.atEnd r).kind = j.kind from h.kind]; exact hp
  rw [← iterationsCounted_lastBlock h]
  exact jobPass_eq hr

theorem attemptEnds_fail (r : Job) (h : SameJob j r) (hp : isPolar j.kind = false) :
    attemptEnds tag j r .fail s
      = jobDone tag 1 ((j.atEnd r).failed (isLastBlock s j && r.dec.pass))
          (failTaken (isLastBlock s j && r.dec.pass) (j.atEnd r) (iterationsCounted j r s)) := by
  have hr : isPolar (j.atEnd r).kind = false := by rw [show (j.atEnd r).kind = j.kind from h.kind]; exact hp
  rw [← iterationsCounted_lastBlock h]
  exact jobFail_eq hr

end

/-! ## Suspension -/

section
variable {s : State} {tag : Nat} {j r : Job} {o : Op}

/-- The state in which a job's extrinsic values are in its scratch pallet, and it is suspended. -/
def suspendedJob (tag : Nat) (j : Job) (s : State) : State :=
  readLlrs tag ({ s with mem := memWrite s.mem (s.scratchAddr tag) (j.dec.scratch j.kind j.e) }.onKiln tag fun _ => { j with susp := true })

/-- The state in which its instance is suspended as well, and holds no engine. -/
def suspendedOp (tag : Nat) (o : Op) (s : State) : State :=
  traceOp 12 tag o 0 0 0 (s.onOp tag fun o => { o with state := OpState.suspended, unit := 0xFFFF })

theorem suspendedJob_leaves (tag : Nat) (j : Job) (s : State) : Leaves s (suspendedJob tag j s) [.kiln, .mem] [] :=
  Leaves.trans (Leaves.setMem s _ (by decide)) (Leaves.trans (Leaves.onKiln _ _ _ (by decide)) (Leaves.mono (readLlrs_leaves ..) (by decide) fun _ h => h))

theorem suspendedJob_find (h : Store.find s.kiln.jobs tag = some j) (r : Job) :
    ∃ j', Store.find (suspendedJob tag r s).kiln.jobs tag = some j' ∧ j'.susp = true ∧ j'.status = r.status := by
  have hk : Store.find (Kiln.jobs { s with mem := memWrite s.mem (s.scratchAddr tag) (r.dec.scratch r.kind r.e) }.kiln) tag = some j := h
  obtain ⟨llr, hl⟩ := readLlrs_find (onKiln_find hk fun _ => { r with susp := true })
  exact ⟨_, hl, rfl, rfl⟩

theorem suspendedJob_op (tag : Nat) (j : Job) (s : State) : (suspendedJob tag j s).op tag = s.op tag :=
  op_congr (congrArg Sched.ops ((suspendedJob_leaves tag j s).1 .sched (by decide))) tag

theorem jobSuspend_eq (ho : s.op tag = some o) (j : Job) : jobSuspend tag j s = askRestart tag (suspendedOp tag o (suspendedJob tag j s)) := by
  unfold jobSuspend
  dsimp only
  rw [← suspendedJob, suspendedJob_op, ho]
  rfl

theorem suspendedOp_op (ho : s.op tag = some o) :
    (suspendedOp tag o s).op tag = some { o with state := OpState.suspended, unit := 0xFFFF } := by
  rw [suspendedOp, traceOp_op, onOp_op, if_pos rfl, ho]
  rfl

theorem suspendedOp_leaves (tag : Nat) (o : Op) (s : State) : Leaves s (suspendedOp tag o s) [.dict, .sched] traceKeys :=
  Leaves.trans (Leaves.onOp _ _ _ (by decide)) (traceOp_leaves ..)

/-- An instance that asks for its restart is ready, or stays as it is. -/
theorem askRestart_op (ho : s.op tag = some o) :
    ∃ o', (askRestart tag s).op tag = some o' ∧ o'.unit = o.unit ∧ (o'.state = o.state ∨ o'.state = .ready) := by
  unfold askRestart
  split
  · rw [ho]
    dsimp only
    split
    · split
      · obtain ⟨o', h1, h2, -, h3⟩ := makeReady_op ho { o with prio := 0 }
        exact ⟨o', h1, h3, Or.inr h2⟩
      · exact ⟨o, ho, rfl, Or.inl rfl⟩
    · exact ⟨o, ho, rfl, Or.inl rfl⟩
  · exact ⟨o, ho, rfl, Or.inl rfl⟩

/-- A suspended decode: its job, its instance and its scratch pallet (07 R244 to R246). -/
theorem jobSuspend_does (h : Store.find s.kiln.jobs tag = some j) (ho : s.op tag = some o) (r : Job) :
    (∃ j', Store.find (jobSuspend tag r s).kiln.jobs tag = some j' ∧ j'.susp = true ∧ j'.status = r.status)
      ∧ (∃ o', (jobSuspend tag r s).op tag = some o' ∧ o'.unit = 0xFFFF ∧ (o'.state = .suspended ∨ o'.state = .ready))
      ∧ (jobSuspend tag r s).mem = memWrite s.mem (s.scratchAddr tag) (r.dec.scratch r.kind r.e)
      ∧ Leaves s (jobSuspend tag r s) [.dict, .kiln, .mem, .sched] traceKeys := by
  have hop : (suspendedJob tag r s).op tag = some o := (suspendedJob_op ..).trans ho
  have hR := askRestart_leaves (suspendedOp_op hop)
  have hS := Leaves.trans (suspendedOp_leaves tag o (suspendedJob tag r s)) hR
  have hJ := suspendedJob_leaves tag r s
  obtain ⟨j', hj', h1, h2⟩ := suspendedJob_find h r
  obtain ⟨o', ho', h3, h4⟩ := askRestart_op (suspendedOp_op hop)
  rw [jobSuspend_eq ho]
  refine ⟨⟨j', (congrArg (fun k : Kiln => Store.find k.jobs tag) (hS.1 .kiln (by decide))).trans hj', h1, h2⟩, ⟨o', ho', h3, h4⟩,
    (hS.1 .mem (by decide)).trans ?_, Leaves.trans (Leaves.mono hJ (by decide) nofun) (Leaves.mono hS (by decide) fun _ h => h)⟩
  exact ((readLlrs_leaves tag _ (ks := [])).1 .mem (by decide)).trans ((Leaves.onKiln _ _ _ (ps := [.kiln]) (ks := []) (by decide)).1 .mem (by decide))

theorem scratchAddr_congr {u : State} (ho : s.op tag = some o) (hu : u.op tag = some o) : u.scratchAddr tag = s.scratchAddr tag := by
  unfold State.scratchAddr
  rw [ho, hu]

/-- What a decode attempt's end does to its job and its instance, by how it ends (07 R241 to R248). -/
def AttemptDoes (s t : State) (tag : Nat) (j r : Job) : AttemptEnd → Prop
  | .goesOn => Store.find t.kiln.jobs tag = some r ∧ Leaves s t [.dict, .kiln] [O.runaheadRestarts]
  | .pass => (∃ j', Store.find t.kiln.jobs tag = some j' ∧ j'.status = some 0 ∧ j'.last = wholeIters j.kind r.dec.run
        ∧ j'.iters = r.iters + wholeIters j.kind r.dec.run ∧ j'.early = decide (j'.eRx < j'.e) ∧ j'.checked = isLastBlock s j)
      ∧ (∃ o', t.op tag = some o' ∧ o'.ended = some .ok ∧ o'.state = .running)
      ∧ Counted s t O.decJobs 1 ∧ Counted s t O.decPass 1 ∧ Counted s t O.iterations (r.iters + wholeIters j.kind r.dec.run)
      ∧ Leaves s t [.dict, .kiln, .sched] [O.decJobs, O.decPass, O.iterations, O.runaheadEarly, O.runaheadRestarts]
  | .fail => (∃ j', Store.find t.kiln.jobs tag = some j' ∧ j'.status = some 1 ∧ j'.newVersion = (bytesAt j.desc 36 6 != 0)
        ∧ j'.mismatch = (isLastBlock s j && r.dec.pass))
      ∧ (∃ o', t.op tag = some o' ∧ o'.ended = some .ok)
      ∧ Counted s t O.decJobs 1 ∧ Counted s t O.decFail 1 ∧ Counted s t O.iterations (r.iters + wholeIters j.kind r.dec.run)
      ∧ Leaves s t [.dict, .kiln, .sched] [O.decJobs, O.decFail, O.iterations, O.runaheadRestarts, O.tbMismatches]
  | .suspend => (∃ j', Store.find t.kiln.jobs tag = some j' ∧ j'.susp = true ∧ j'.status = none)
      ∧ (∃ o', t.op tag = some o' ∧ o'.unit = 0xFFFF ∧ (o'.state = .suspended ∨ o'.state = .ready))
      ∧ t.mem = memWrite s.mem (s.scratchAddr tag) (r.dec.scratch j.kind r.e)
      ∧ Leaves s t [.dict, .kiln, .mem, .sched] [O.runaheadRestarts, O.traceWritten, O.traceLost]

/-- The folds of an attempt are counted where it made any. -/
def FoldsCounted (s t : State) (j r : Job) : Prop := j.restarts < r.restarts → Counted s t O.runaheadRestarts (r.restarts - j.restarts)

theorem attemptEnds_goesOn_does (h : Decoding s tag j o) (r : Job) :
    FoldsCounted s (attemptEnds tag j r .goesOn s) j r ∧ AttemptDoes s (attemptEnds tag j r .goesOn s) tag j r .goesOn :=
  ⟨fun hr => (State.onKiln_obj ..).trans (restartsCounted_counted hr), attemptGoesOn_does h.job r⟩

theorem attemptEnds_pass_does (h : Decoding s tag j o) (hr : SameJob j r) :
    FoldsCounted s (attemptEnds tag j r .pass s) j r ∧ AttemptDoes s (attemptEnds tag j r .pass s) tag j r .pass := by
  have hp : isPolar ((j.atEnd r).passed (isLastBlock s j)).kind = false := (congrArg isPolar hr.kind).trans h.notPolar
  rw [attemptEnds_pass r hr h.notPolar]
  obtain ⟨hj, ho, h1, h2, h3, h4, hL⟩ := attemptJudged_does (x := O.runaheadEarly) h r (Or.inl rfl) hp (passTaken_leaves (isLastBlock s j) (j.atEnd r) _)
    ((passTaken_jobs ..).trans (congrArg Kiln.jobs (iterationsCounted_kiln ..))) (by decide)
  exact ⟨h4, ⟨_, hj, rfl, rfl, rfl, rfl, rfl⟩, ho, h1, h2, h3, Leaves.mono hL (by decide) (by decide)⟩

theorem attemptEnds_fail_does (h : Decoding s tag j o) (hr : SameJob j r) :
    FoldsCounted s (attemptEnds tag j r .fail s) j r ∧ AttemptDoes s (attemptEnds tag j r .fail s) tag j r .fail := by
  have hp : isPolar ((j.atEnd r).failed (isLastBlock s j && r.dec.pass)).kind = false := (congrArg isPolar hr.kind).trans h.notPolar
  rw [attemptEnds_fail r hr h.notPolar]
  obtain ⟨hj, ⟨o', ho, he, -⟩, h1, h2, h3, h4, hL⟩ := attemptJudged_does (x := O.tbMismatches) h r (Or.inr rfl) hp
    (failTaken_leaves (isLastBlock s j && r.dec.pass) (j.atEnd r) _) ((failTaken_jobs ..).trans (congrArg Kiln.jobs (iterationsCounted_kiln ..))) (by decide)
  exact ⟨h4, ⟨_, hj, rfl, congrArg (fun d => bytesAt d 36 6 != 0) hr.desc, rfl⟩, ⟨o', ho, he⟩, h1, h2, h3, Leaves.mono hL (by decide) (by decide)⟩

theorem attemptEnds_suspend_does (h : Decoding s tag j o) (hr : SameJob j r) :
    FoldsCounted s (attemptEnds tag j r .suspend s) j r ∧ AttemptDoes s (attemptEnds tag j r .suspend s) tag j r .suspend := by
  have hR := restartsCounted_leaves j r s
  have hop : (restartsCounted j r s).op tag = some o := (op_congr (congrArg Sched.ops (hR.1 .sched (by decide))) tag).trans h.op
  have hjob : Store.find (restartsCounted j r s).kiln.jobs tag = some j := by
    rw [hR.1 .kiln (by decide)]
    exact h.job
  obtain ⟨⟨j', hj, h1, h2⟩, ho, hm, hL⟩ := jobSuspend_does hjob hop (j.atEnd r)
  refine ⟨fun hf => (hL.2 _ (by decide)).trans (restartsCounted_counted hf), ⟨j', hj, h1, h2.trans (hr.status.trans h.open')⟩, ho, hm.trans ?_,
    Leaves.trans (Leaves.mono hR (by decide) (by decide)) (Leaves.mono hL (by decide) (by decide))⟩
  rw [scratchAddr_congr h.op hop, hR.1 .mem (by decide), show (j.atEnd r).kind = j.kind from hr.kind]
  rfl

/-- The end of an attempt does what the attempt's outcome says. -/
theorem attemptEnds_does (h : Decoding s tag j o) (hr : SameJob j r) (how : AttemptEnd) :
    FoldsCounted s (attemptEnds tag j r how s) j r ∧ AttemptDoes s (attemptEnds tag j r how s) tag j r how := by
  cases how with
  | goesOn => exact attemptEnds_goesOn_does h r
  | pass => exact attemptEnds_pass_does h hr
  | fail => exact attemptEnds_fail_does h hr
  | suspend => exact attemptEnds_suspend_does h hr

end

end Sys2Proof.Machine

open Sys2Proof Sys2Proof.Machine Sys2Proof.Safety

/-- Settles O21: an attempt runs on the job that it had, so its end is that of the job as its last boundary left it. -/
theorem decodeAttempts : Obligations.DecodeAttempts := by
  unfold Obligations.DecodeAttempts
  refine ⟨fun tag arrived j s hj hs hr ha => kilnFeed_running hj hs hr ha, fun tag arrived s h => kilnFeed_ignored h,
    fun tag arrived j o s hj hs hr ha ho hos hc => kilnFeed_suspended hj hs hr ha ho hos hc, ?_⟩
  intro tag b j o s hj hs hr hp ho hcls hst hc hi hv
  have hd : Decoding s tag j o := ⟨hj, hs, hr, hp, ho, hcls, hst, hc⟩
  obtain ⟨h1, h2⟩ := attemptEnds_does hd (runAttempt_same s tag b.iterations j) (runAttempt s tag b.iterations j).2
  refine ⟨_, congrArg Host.Outcome.next (attemptEnd_eq hd hi hv), h1, ?_⟩
  cases hh : (runAttempt s tag b.iterations j).2 with
  | goesOn => rw [hh] at h2; exact h2
  | pass => rw [hh] at h2; exact h2
  | fail => rw [hh] at h2; exact h2
  | suspend => rw [hh] at h2; exact h2
end

section
/-! SUPPORT. The commands of time, of courses and of the link in every state: what each does, and where it does nothing. -/
namespace Sys2Proof.Machine
open Sys2Proof.Safety

/-! ## Time of day -/

/-- The state in which a time of day waits for its edge (01 R34, with TOD_LABEL 1). -/
def todKept (second : Int) (off : Option Int) (locked : Bool) (s : State) : State :=
  s.onTime fun t => { t with gnss := { t.gnss with held :=
    (t.gnss.held.filter fun h => decide (s.clock.count ≤ h.arrived + 900000000 * nsUnit)) ++ [⟨s.clock.count, second, off, locked⟩] } }

theorem todFrameRx_none {dt : Nat} {frame : Bytes} {s : State} (h : todOf (advance s dt) frame = none) :
    exec (.todFrameRx dt frame) s = .next (advance s dt) := by
  show execTodFrameRx dt frame s = _
  unfold execTodFrameRx
  dsimp only
  rw [h]

theorem todFrameRx_kept {dt : Nat} {frame : Bytes} {s : State} {second : Int} {off : Option Int} {locked : Bool}
    (h : todOf (advance s dt) frame = some (second, off, locked)) (hl : s.obj O.todLabel = 1) :
    exec (.todFrameRx dt frame) s = .next (todKept second off locked (advance s dt)) := by
  show execTodFrameRx dt frame s = _
  unfold execTodFrameRx
  dsimp only
  rw [h]
  exact if_pos (by rw [State.obj_advance, hl]; rfl)

/-- With TOD_LABEL 0 a time of day labels the edge before it, or does nothing. -/
theorem todFrameRx_labels {dt : Nat} {frame : Bytes} {s : State} {second : Int} {off : Option Int} {locked : Bool}
    (h : todOf (advance s dt) frame = some (second, off, locked)) (hl : s.obj O.todLabel ≠ 1) :
    exec (.todFrameRx dt frame) s = .next (advance s dt)
      ∨ ∃ e, exec (.todFrameRx dt frame) s = .next (refreshQualified (labelEdge e second off locked (advance s dt))) := by
  show execTodFrameRx dt frame s = _ ∨ ∃ e, execTodFrameRx dt frame s = _
  unfold execTodFrameRx
  dsimp only
  rw [h]
  dsimp only
  rw [if_neg (by rw [State.obj_advance]; simpa using hl)]
  split
  · next e last _ _ =>
    split
    · exact Or.inr ⟨e, rfl⟩
    · exact Or.inl rfl
  · exact Or.inl rfl

theorem todKept_leaves (second : Int) (off : Option Int) (locked : Bool) (s : State) {ks : List Nat} :
    Leaves s (todKept second off locked s) [.time] ks := Leaves.onTime _ _ (by decide)

theorem todKept_held (second : Int) (off : Option Int) (locked : Bool) (s : State) :
    ⟨(todKept second off locked s).clock.count, second, off, locked⟩ ∈ (todKept second off locked s).time.gnss.held :=
  List.mem_append_right _ (List.mem_singleton.mpr rfl)

theorem todFrameRx_forms (dt : Nat) (frame : Bytes) (s : State) : ∃ t, exec (.todFrameRx dt frame) s = .next t
    ∧ (todOf (advance s dt) frame = none → t = advance s dt)
    ∧ (∀ second off locked, todOf (advance s dt) frame = some (second, off, locked) → s.obj O.todLabel = 1 →
        ⟨t.clock.count, second, off, locked⟩ ∈ t.time.gnss.held ∧ SameBut s t timeParts)
    ∧ Leaves s t (.dict :: timeParts) [O.utcOffset, O.changeCount] := by
  have hadv : Leaves s (advance s dt) (.dict :: timeParts) [O.utcOffset, O.changeCount] := Leaves.advance s dt (by decide)
  cases hf : todOf (advance s dt) frame with
  | none => exact ⟨_, todFrameRx_none hf, fun _ => rfl, nofun, hadv⟩
  | some x =>
    obtain ⟨second, off, locked⟩ := x
    by_cases hl : s.obj O.todLabel = 1
    · refine ⟨_, todFrameRx_kept hf hl, nofun, ?_, Leaves.trans hadv (Leaves.mono (todKept_leaves _ _ _ _ (ks := [])) (by decide) nofun)⟩
      rintro _ _ _ ⟨⟩ -
      exact ⟨todKept_held .., SameBut.trans (SameBut.advance s dt _ (by decide)) (SameBut.mono (todKept_leaves _ _ _ _ (ks := [])).1 (by decide))⟩
    · rcases todFrameRx_labels hf hl with he | ⟨e, he⟩
      · exact ⟨_, he, nofun, fun _ _ _ _ h1 => absurd h1 hl, hadv⟩
      · refine ⟨_, he, nofun, fun _ _ _ _ h1 => absurd h1 hl, Leaves.trans hadv ?_⟩
        exact Leaves.trans (Leaves.mono (labelEdge_leaves e second off locked _) (by decide) fun _ h => h) (Leaves.refreshQualified _ (by decide))

/-! ## PTP and SyncE -/

theorem ptpMessageRx_eq {dt p : Nat} (h : PtpHead) (m : PtpMsg) (s : State) (hp : p < 24) : exec (.ptpMessageRx dt p h m) s
    = .next (if (ptpRuns s p && ptpHeard s h) = true then refreshQualified (ptpHear p h m (advance s dt)) else advance s dt) := by
  show execPtpMessageRx dt p h m s = _
  unfold execPtpMessageRx
  rw [if_neg (Nat.not_le.mpr hp)]
  dsimp only
  rw [ptpRuns_advance, ptpHeard_advance]

theorem ptpMessageRx_forms {p : Nat} (dt : Nat) (h : PtpHead) (m : PtpMsg) (s : State) (hp : p < 24) :
    ∃ t, exec (.ptpMessageRx dt p h m) s = .next t
      ∧ (ptpRuns s p = false ∨ ptpHeard s h = false → t = advance s dt)
      ∧ (∀ id origin corr, m = .sync id origin corr false → ptpRuns s p = true → ptpHeard s h = true → ptpState (advance s dt) p = 9 →
          ((advance s dt).ptpPort p).hears h.sender = true →
          (t.ptpPort p).syncDiff = some (psOf ((advance s dt).clock.count - countOfPs (ptpCorrection s p).2) - origin - corr)) := by
  refine ⟨_, ptpMessageRx_eq h m s hp, fun hn => if_neg ?_, ?_⟩
  · rcases hn with hn | hn <;> rw [hn] <;> simp
  · rintro id origin corr rfl hr hh h9 hs
    rw [if_pos (by rw [hr, hh]; rfl), State.ptpPort_refreshQualified, ptpHear_sync, if_pos ⟨h9, hs⟩, syncDone_syncDiff, ptpCorrection_advance]

theorem ptpMessageTx_not {p : Nat} {via : PtpOver} (m : PtpTx) {s : State} (hp : p < 24) (hn : ptpRuns s p = false ∨ viaFits s via = false) :
    exec (.ptpMessageTx p ⟨via, m⟩) s = .next s := by
  show execPtpMessageTx p ⟨via, m⟩ s = _
  unfold execPtpMessageTx
  rw [if_neg (Nat.not_le.mpr hp), if_pos]
  rcases hn with hn | hn <;> rw [hn] <;> simp

theorem ptpMessageTx_completes {p : Nat} (m : PtpOut) (s : State) (hp : p < 24) : ∃ t, exec (.ptpMessageTx p m) s = .next t := by
  show ∃ t, execPtpMessageTx p m s = .next t
  unfold execPtpMessageTx
  rw [if_neg (Nat.not_le.mpr hp)]
  split
  · exact ⟨_, rfl⟩
  · split
    · split <;> exact ⟨_, rfl⟩
    · split <;> exact ⟨_, rfl⟩
    · split <;> exact ⟨_, rfl⟩
    · exact ⟨_, rfl⟩

theorem ptpMessageTx_announce {p r : Nat} {via : PtpOver} {s : State} (hp : p < 24) (hr : ptpRuns s p = true) (hv : viaFits s via = true)
    (hd : ptpRate s p via .announce = some r) (hm : ptpState (advanceTicks s (ptpDue s p via .announce r)) p = 6)
    (hs : ptpSourced (advanceTicks s (ptpDue s p via .announce r)) = true) :
    exec (.ptpMessageTx p ⟨via, .announce⟩) s
      = .next (sendPtp (ptpFrame (advanceTicks s (ptpDue s p via .announce r)) p via .announce 0 0 0)
          (keepTx p via .announce (advanceTicks s (ptpDue s p via .announce r)))) := by
  show execPtpMessageTx p ⟨via, .announce⟩ s = _
  unfold execPtpMessageTx
  rw [if_neg (Nat.not_le.mpr hp), if_neg (by simp [hr, hv])]
  dsimp only
  rw [hd]
  exact congrArg Host.Outcome.next (if_neg (by rw [hm, hs]; decide))

theorem ptpMessageTx_forms {p : Nat} (via : PtpOver) (m : PtpTx) (s : State) (hp : p < 24) :
    ∃ t, exec (.ptpMessageTx p ⟨via, m⟩) s = .next t ∧ (ptpRuns s p = false ∨ viaFits s via = false → t = s)
      ∧ (m = .announce → ptpRuns s p = true → viaFits s via = true → ∀ r, ptpRate s p via m = some r →
          ptpState (advanceTicks s (ptpDue s p via m r)) p = 6 →
          ptpSourced (advanceTicks s (ptpDue s p via m r)) = true → Counted s t (O.txFrames p) 1) := by
  obtain ⟨t, ht⟩ := ptpMessageTx_completes ⟨via, m⟩ s hp
  refine ⟨t, ht, fun hn => Host.Outcome.next.inj (ht.symm.trans (ptpMessageTx_not m hp hn)), ?_⟩
  rintro rfl hr hv r hd hm hs
  rw [Host.Outcome.next.inj (ht.symm.trans (ptpMessageTx_announce hp hr hv hd hm hs))]
  exact Counted.of_obj (State.obj_advanceTicks ..) (sendPtp_counted ..)

theorem synceOutputResume_forms {out : Nat} (s : State) (ho : out < 2) : ∃ t, exec (.synceOutputResume out) s = .next t ∧
    match Store.find s.time.laneLock (synceLane s out) with
    | some locked => bitOf (t.nat O.squelched) out = false ∧ locked + 156250000 ≤ t.clock.ticks
    | none => t = s := by
  cases hl : Store.find s.time.laneLock (synceLane s out) with
  | none =>
    refine ⟨s, ?_, rfl⟩
    show execSynceOutputResume out s = _
    unfold execSynceOutputResume
    rw [if_neg (Nat.not_le.mpr ho), hl]
  | some locked =>
    refine ⟨_, execSynceOutputResume_resumes ho hl, ?_, le_advanceTicks s _⟩
    rw [State.nat, State.obj_setObj_same, Int.toNat_natCast]
    exact bitOf_setBit_false ..

/-! ## Courses -/

theorem discard_counts (chan length : Nat) (s : State) : Counted s (discard chan length s) O.formatErrors 1
    ∧ (discard chan length s).link.sent = s.link.sent := by
  unfold discard
  dsimp only
  split
  · exact ⟨State.obj_bump_same .., (onChan_link _ _ _).1.trans (congrArg Link.sent (State.bump_link ..))⟩
  · exact ⟨State.obj_bump_same .., congrArg Link.sent (State.bump_link ..)⟩

theorem dlTbData_discards {h : CourseHdr} (handle offset : Nat) {data : Bytes} {s : State} (hn : h.chan = 0 ∨ 64 < h.chan
    ∨ h.length ≠ 64 + pad8 data.length ∨ 65600 < h.length ∨ s.obj O.sessionState = 0) :
    exec (.dlTbData h handle offset data) s = .next (discard h.chan h.length (advance s h.dt)) := by
  refine congrArg Host.Outcome.next (if_pos ?_)
  rw [State.obj_advance]
  simpa [or_assoc] using hn

theorem dlTbData_forms (h : CourseHdr) (handle offset : Nat) (data : Bytes) (s : State) : ∃ t, exec (.dlTbData h handle offset data) s = .next t
    ∧ (h.chan = 0 ∨ 64 < h.chan ∨ h.length ≠ 64 + pad8 data.length ∨ 65600 < h.length ∨ s.obj O.sessionState = 0 →
        Counted s t O.formatErrors 1 ∧ t.link.sent = s.link.sent)
    ∧ (∀ r, 1 ≤ h.chan → h.chan ≤ 64 → h.length = 64 + pad8 data.length → h.length ≤ 65600 → s.obj O.sessionState = 1 →
        (s.chan h.chan).takeover = false → (s.chan h.chan).req = some r → r.hdr.chan = h.chan → belongs h offset data.length r = true →
        r.got + data.length ≠ r.tbBytes → (t.chan h.chan).req = some
          { r with got := r.got + data.length, data := r.data ++ [(handle, data)], cost := r.cost + creditsOf h.length }) := by
  have ht : exec (.dlTbData h handle offset data) s = .next (courseArrival h (64 + pad8 data.length) (tbData h handle offset data) s) := rfl
  refine ⟨_, ht, fun hn => ?_, fun r h1 h64 hl hm hs hk hr _ hb hg => ?_⟩
  · obtain ⟨h1, h2⟩ := discard_counts h.chan h.length (advance s h.dt)
    rw [Host.Outcome.next.inj (ht.symm.trans (dlTbData_discards handle offset hn))]
    exact ⟨Counted.of_advance h1, h2.trans (congrArg Link.sent (advance_link ..))⟩
  · rw [Host.Outcome.next.inj (ht.symm.trans (dlTbData_belongs h1 h64 hl hm hs hk hr hb)), if_neg hg, onChan_chan_same]
    rfl

theorem courseAutoBind_forms (chan course : Nat) (s : State) : ∃ t, exec (.courseAutoBind chan course) s = .next t ∧
    match s.course (courseKey chan course) with
    | some c => if c.state = .opened then t.course (courseKey chan course) = some { c with state := .bound, hostBound := false } else t = s
    | none => t = s := by
  cases hc : s.course (courseKey chan course) with
  | none => exact ⟨s, by show execCourseAutoBind chan course s = _; rw [execCourseAutoBind, hc], rfl⟩
  | some c =>
    dsimp only
    by_cases hs : c.state = .opened
    · exact ⟨_, courseAutoBind_opened hc hs, by rw [if_pos hs]; exact bindCourse_course false (by rw [advanceToAir_course, hc])⟩
    · refine ⟨s, ?_, by rw [if_neg hs]⟩
      show execCourseAutoBind chan course s = _
      rw [execCourseAutoBind, hc]
      exact if_neg (by simpa using hs)

theorem courseInAir_forms (chan course : Nat) (s : State) : ∃ t, exec (.courseInAir chan course) s = .next t ∧
    match s.course (courseKey chan course) with
    | some c => if c.state = .bound then t.course (courseKey chan course) = some { c with state := .inAir } else t = s
    | none => t = s := by
  cases hc : s.course (courseKey chan course) with
  | none => exact ⟨s, by show execCourseInAir chan course s = _; rw [execCourseInAir, hc], rfl⟩
  | some c =>
    dsimp only
    by_cases hs : c.state = .bound
    · exact ⟨_, courseInAir_bound hc hs, by rw [if_pos hs]; exact courseStands_course _ _ hc⟩
    · refine ⟨s, ?_, by rw [if_neg hs]⟩
      show execCourseInAir chan course s = _
      rw [execCourseInAir, hc]
      exact if_neg (by simpa using hs)

theorem courseEgressComplete_forms (chan course : Nat) (s : State) : ∃ t, exec (.courseEgressComplete chan course) s = .next t ∧
    match s.course (courseKey chan course) with
    | some c => if c.state = .inAir then (t.course (courseKey chan course)).map (·.state) = some .finishing else t = s
    | none => t = s := by
  cases hc : s.course (courseKey chan course) with
  | none => exact ⟨s, by show execCourseEgressComplete chan course s = _; rw [execCourseEgressComplete, hc], rfl⟩
  | some c =>
    dsimp only
    by_cases hs : c.state = .inAir
    · refine ⟨_, courseEgress_inAir hc hs, ?_⟩
      rw [if_pos hs]
      obtain ⟨c', h1, h2⟩ := (resettle_keeps _).found (courseStands_course .finishing (egressInstant s chan course c) hc)
      rw [h1]
      exact congrArg some (courseCore_fields h2).1
    · refine ⟨s, ?_, by rw [if_neg hs]⟩
      show execCourseEgressComplete chan course s = _
      rw [execCourseEgressComplete, hc]
      exact if_neg (by simpa using hs)

/-! ## The link -/

theorem sidebandMessageRx_other {m vendor code : Nat} (dt : Nat) (data : Bytes) {s : State} (hm : m < 2) (h : vendor ≠ s.nat O.sbVendorId ∨ code ≠ 0) :
    exec (.sidebandMessageRx dt m vendor code data) s = .next ((advance s dt).bump O.formatErrors 1) := by
  have hn : (advance s dt).nat O.sbVendorId = s.nat O.sbVendorId := congrArg Int.toNat (State.obj_advance ..)
  show execSidebandMessageRx dt m vendor code data s = _
  rw [execSidebandMessageRx, if_neg (by omega)]
  exact congrArg Host.Outcome.next (if_pos (by simpa [hn] using h))

theorem sidebandMessageRx_forms {m : Nat} (dt vendor code : Nat) (data : Bytes) (s : State) (hm : m < 2) :
    ∃ t, exec (.sidebandMessageRx dt m vendor code data) s = .next t ∧
      if vendor ≠ s.nat O.sbVendorId ∨ code ≠ 0 then Counted s t O.formatErrors 1
      else delimits (bytesAt (s.link.side m ++ data) 4 4) = true → (s.link.side m ++ data).length < bytesAt (s.link.side m ++ data) 4 4 →
        t.link.side m = s.link.side m ++ data := by
  by_cases h : vendor ≠ s.nat O.sbVendorId ∨ code ≠ 0
  · exact ⟨_, sidebandMessageRx_other dt data hm h, by rw [if_pos h]; exact Counted.of_advance (State.obj_bump_same ..)⟩
  · have hadv : (advance s dt).link = s.link := advance_link ..
    obtain ⟨rfl, rfl⟩ : vendor = s.nat O.sbVendorId ∧ code = 0 := by simpa using h
    refine ⟨_, sidebandMessageRx_piece dt data s hm, ?_⟩
    rw [if_neg h]
    intro hd hlt
    rw [sidePiece_waits (by rw [hadv]; exact hd) (by rw [hadv]; exact hlt), hadv]
    exact Link.side_setSide ..

theorem malformedMessageRx_down {dt m : Nat} (units : Bytes) {s : State} (hm : m < 2) (hu : (s.link.mod m).up = false) :
    exec (.malformedMessageRx dt m units) s = .next (advance s dt) := by
  show execMalformedMessageRx dt m units s = _
  rw [execMalformedMessageRx, if_neg (by omega)]
  exact congrArg Host.Outcome.next (if_neg (by rw [advance_link, hu]; decide))

theorem malformedMessageRx_forms {m : Nat} (dt : Nat) (units : Bytes) (s : State) (hm : m < 2) :
    ∃ t, exec (.malformedMessageRx dt m units) s = .next t ∧
      if (s.link.mod m).up = true
      then s.link.stream m = ⟨[], false⟩ → units.length = 32 → isFill units = false → delimits (bytesAt units 4 4) = false →
        Counted s t O.formatErrors 1
      else t = advance s dt := by
  by_cases hu : (s.link.mod m).up = true
  · refine ⟨_, malformedMessageRx_stretch hm hu, ?_⟩
    rw [if_pos hu]
    intro hst hl hf hd
    have hx : (advance s dt).link.stream m = ⟨[], false⟩ := by rw [advance_link, hst]
    rw [receiveStretch_first (k := 1) (by rw [hx]) hl, hx, receiveUnits_loses (by omega) hf hd,
      receiveUnits_short _ _ _ _ (by rw [List.length_drop]; omega)]
    exact Counted.of_advance (State.obj_bump_same ..)
  · exact ⟨_, malformedMessageRx_down units hm (Bool.eq_false_of_not_eq_true hu), by rw [if_neg hu]⟩

theorem indicationSend_forms (s : State) : ∃ t, exec .indicationSend s = .next t ∧
    match s.link.waiting with
    | [] => t = s
    | i :: rest => if (s.link.m0.up || s.link.m1.up) = true
      then t.link.waiting = rest ∧ t.link.sent = s.link.sent ++ [.indication s.link.indSeq i] else t = s := by
  cases hw : s.link.waiting with
  | nil => exact ⟨s, by show execIndicationSend s = _; rw [execIndicationSend, hw], rfl⟩
  | cons i rest =>
    dsimp only
    by_cases hu : (s.link.m0.up || s.link.m1.up) = true
    · refine ⟨(s.onLink fun l => { l with waiting := rest, indSeq := seqNext l.indSeq }).send (.indication s.link.indSeq i), ?_, ?_⟩
      · show execIndicationSend s = _
        rw [execIndicationSend, hw]
        exact if_pos hu
      · rw [if_pos hu]
        exact ⟨rfl, rfl⟩
    · refine ⟨s, ?_, by rw [if_neg hu]⟩
      show execIndicationSend s = _
      rw [execIndicationSend, hw]
      exact if_neg hu

/-! ## RESUME -/

theorem handleResume_range {seq mode hostId : Nat} (entries : List ResumeEntry) {s : State} (h : 2 < mode ∨ hostId = 0) :
    handleResume seq mode hostId entries s = resumeReply seq .valueRange 0 false s := if_pos (by simpa using h)

theorem handleResume_none {seq hostId : Nat} (entries : List ResumeEntry) {s : State} (hn : hostId ≠ 0) (h0 : s.obj O.sessionState = 0) :
    handleResume seq 1 hostId entries s = resumeReply seq .noSession 0 false s := by
  unfold handleResume
  rw [if_neg (by simp [hn]), if_pos (by rw [h0]; rfl), if_neg (by decide)]

/-- The reply to a RESUME that changes nothing. -/
theorem resumeReply_advance (seq : Nat) (r : Reason) (s : State) (dt : Nat) :
    ∃ x, (resumeReply seq r 0 false (advance s dt)).link.sent = s.link.sent ++ [.resumeReply x] ∧ x.seq = seq ∧ x.reason = r := by
  obtain ⟨r1, r2, -⟩ := replyOf_fields seq r 0 false (advance s dt)
  refine ⟨_, ?_, r1, r2⟩
  rw [resumeReply_eq, (send_link _ _).1, advance_link]

theorem resumeOpen_forms (dt seq hostId : Nat) (credits : List Nat) {s : State} (hr : s.ready = true) :
    ∃ t, exec (.resumeOpen dt seq hostId credits) s = .next t
      ∧ (hostId = 0 → ∃ r, t.link.sent = s.link.sent ++ [.resumeReply r] ∧ r.seq = seq ∧ r.reason = .valueRange)
      ∧ (hostId ≠ 0 → s.obj O.sessionState = 0 → t.obj O.sessionState = 1 ∧ t.link.holder = hostId) := by
  refine ⟨_, congrArg Host.Outcome.next (takeResume_ready hr), fun h0 => ?_, fun hn h0 => ?_⟩
  · rw [handleResume_range _ (Or.inr h0)]
    exact resumeReply_advance ..
  · rw [handleResume_opens hn (by rw [State.obj_advance]; exact h0)]
    exact ⟨(State.obj_send ..).trans (openSession_state ..), rfl⟩

theorem resumeModeResume_forms (dt seq hostId : Nat) (entries : List ResumeEntry) {s : State} (hr : s.ready = true) :
    ∃ t, exec (.resumeModeResume dt seq hostId entries) s = .next t
      ∧ (hostId ≠ 0 → s.obj O.sessionState = 0 → ∃ r, t.link.sent = s.link.sent ++ [.resumeReply r] ∧ r.seq = seq ∧ r.reason = .noSession)
      ∧ (hostId ≠ 0 → s.obj O.sessionState ≠ 0 → hostId = s.link.holder → firstMisfit entries s = none → t.obj O.sessionState = 1) := by
  refine ⟨_, congrArg Host.Outcome.next (takeResume_ready hr), fun hn h0 => ?_, fun hn h0 hh hf => ?_⟩
  · rw [handleResume_none _ hn (by rw [State.obj_advance]; exact h0)]
    exact resumeReply_advance ..
  · have hadv : (advance s dt).link = s.link := advance_link ..
    have hm : firstMisfit entries (atResume (advance s dt)) = none := by
      rw [firstMisfit_atResume, firstMisfit_congr (congrArg Link.chans hadv), hf]
    rw [hh, ← hadv, handleResume_resumes (by rw [hadv, ← hh]; exact hn) (by rw [State.obj_advance]; exact h0), resumeSession_eq, hm, resumeAnswer_ok]
    exact (replayed_resends ..).state.trans (resumedAt_state ..)

theorem resumeClose_forms (dt seq mode hostId : Nat) {s : State} (hr : s.ready = true) : ∃ t, exec (.resumeClose dt seq mode hostId) s = .next t
    ∧ (2 < mode → ∃ r, t.link.sent = s.link.sent ++ [.resumeReply r] ∧ r.seq = seq ∧ r.reason = .valueRange)
    ∧ (mode = 2 → hostId ≠ 0 → s.obj O.sessionState ≠ 0 → hostId = s.link.holder → t.obj O.sessionState = 0 ∧ t.link.holder = 0) := by
  refine ⟨_, congrArg Host.Outcome.next (takeResume_ready hr), fun h2 => ?_, fun h2 hn h0 hh => ?_⟩
  · rw [handleResume_range _ (Or.inl h2)]
    exact resumeReply_advance ..
  · have hadv : (advance s dt).link = s.link := advance_link ..
    rw [h2, hh, ← hadv, handleResume_closes (by rw [hadv, ← hh]; exact hn) (by rw [State.obj_advance]; exact h0)]
    exact ⟨(State.obj_send ..).trans (closeSession_state _), rfl⟩

/-! ## What follows transfers -/

theorem expireLatch_buffer (s : State) : (expireLatch s).svc.buffer = s.svc.buffer ∧ segTicks (expireLatch s) = segTicks s
    ∧ (expireLatch s).clock = s.clock := by
  unfold expireLatch
  split
  · split <;> exact ⟨rfl, rfl, rfl⟩
  · exact ⟨rfl, rfl, rfl⟩

theorem expireLatch_over {s : State} (h : ∀ l, s.svc.latch = some l → timedOut s l.last = true) : (expireLatch s).svc.latch = none := by
  unfold expireLatch
  split
  · next l hl => rw [if_pos (h l hl)]
  · next hl => exact hl

theorem discardBuffer_svc (s : State) : (discardBuffer s).svc.buffer = none ∧ (discardBuffer s).svc.latch = s.svc.latch
    ∧ (discardBuffer s).clock = s.clock := by
  unfold discardBuffer
  split
  · exact ⟨rfl, rfl, State.bump_clock s O.abortedTransfers 1⟩
  · next hb => exact ⟨hb, rfl, rfl⟩

theorem expireBuffer_latch (s : State) : (expireBuffer s).svc.latch = s.svc.latch ∧ (expireBuffer s).clock = s.clock := by
  obtain ⟨-, h2, h3⟩ := discardBuffer_svc s
  unfold expireBuffer
  split
  · split
    · exact ⟨h2, h3⟩
    · exact ⟨rfl, rfl⟩
  · exact ⟨rfl, rfl⟩

theorem expireBuffer_over {s : State} (h : ∀ b, s.svc.buffer = some b → timedOut s b.last = true) : (expireBuffer s).svc.buffer = none := by
  unfold expireBuffer
  split
  · next b hb =>
    rw [if_pos (h b hb)]
    exact (discardBuffer_svc s).1
  · next hb => exact hb

theorem expireMemory_keeps (s : State) : (expireMemory s).svc.latch = s.svc.latch ∧ (expireMemory s).svc.buffer = s.svc.buffer
    ∧ (expireMemory s).clock = s.clock := by
  unfold expireMemory
  split
  · split <;> exact ⟨rfl, rfl, rfl⟩
  · exact ⟨rfl, rfl, rfl⟩

theorem expireSegments_clock (s : State) : (expireSegments s).clock = s.clock :=
  (expireMemory_keeps _).2.2.trans ((expireBuffer_latch _).2.trans (expireLatch_buffer s).2.2)

/-- A latch whose time is over is gone, and so is a buffer. -/
theorem segmentsOver_latch {s : State} (h : ∀ l, s.svc.latch = some l → timedOut s l.last = true) : (expireSegments s).svc.latch = none :=
  (expireMemory_keeps _).1.trans ((expireBuffer_latch _).1.trans (expireLatch_over h))

theorem segmentsOver_buffer {s : State} (h : ∀ b, s.svc.buffer = some b → timedOut s b.last = true) : (expireSegments s).svc.buffer = none := by
  obtain ⟨hb, ht, hc⟩ := expireLatch_buffer s
  refine (expireMemory_keeps _).2.1.trans (expireBuffer_over fun b h1 => ?_)
  rw [timedOut, ht, hc]
  exact h b (hb ▸ h1)

theorem segmentTimeout_forms (read : Bool) (s : State) : ∃ t, exec (.segmentTimeout read) s = .next t ∧
    match (if read = true then s.svc.latch.map (·.last) else s.svc.buffer.map (·.last)) with
    | none => t = s
    | some last => (if read = true then t.svc.latch = none else t.svc.buffer = none) ∧ last + segTicks s ≤ t.clock.ticks := by
  cases hw : (if read = true then s.svc.latch.map (·.last) else s.svc.buffer.map (·.last)) with
  | none => exact ⟨s, by show execSegmentTimeout read s = _; rw [execSegmentTimeout, hw], rfl⟩
  | some last =>
    refine ⟨expireSegments (advanceTicks s (last + segTicks s)), by show execSegmentTimeout read s = _; rw [execSegmentTimeout, hw], ?_, ?_⟩
    · cases read with
      | true =>
        refine segmentsOver_latch fun l hl => ?_
        rw [advanceTicks_svc] at hl
        obtain rfl : l.last = last := by simpa [hl] using hw
        exact timedOut_at ..
      | false =>
        refine segmentsOver_buffer fun b hb => ?_
        rw [advanceTicks_svc] at hb
        obtain rfl : b.last = last := by simpa [hb] using hw
        exact timedOut_at ..
    · rw [expireSegments_clock]
      exact le_advanceTicks s _

theorem enableDeferredCheck_not {index sub : Nat} {s : State} (h : keyOf index sub ∉ s.svc.due) :
    exec (.enableDeferredCheck index sub) s = .next s := if_neg (by simpa using h)

theorem enableDeferredCheck_nl {index sub : Nat} {s : State} (hk : keyOf index sub = O.nlEnable) (h : O.nlEnable ∈ s.svc.due) :
    exec (.enableDeferredCheck index sub) s = .next (nlDeferred s) := by
  show execEnableDeferredCheck index sub s = _
  rw [execEnableDeferredCheck, hk]
  exact if_pos (by simpa using h)

theorem enableDeferredCheck_forms (index sub : Nat) {s : State} (hh : s.svc.held = []) : ∃ t, exec (.enableDeferredCheck index sub) s = .next t
    ∧ (keyOf index sub ∉ s.svc.due → t = s)
    ∧ (keyOf index sub = O.nlEnable → O.nlEnable ∈ s.svc.due → s.obj O.bootState ≠ 5 →
        t.obj O.nlEnable = (if nlCheck s = .ok then 1 else 0) ∧ O.nlEnable ∉ t.svc.due) := by
  by_cases hd : keyOf index sub ∈ s.svc.due
  · refine ⟨_, if_pos (by simpa using hd), fun hn => absurd hd hn, fun hk h hb => ?_⟩
    have he := Host.Outcome.next.inj ((if_pos (by simpa using hd) : execEnableDeferredCheck index sub s = _).symm.trans (enableDeferredCheck_nl hk h))
    rw [he]
    refine ⟨by rw [nlDeferred_kept h hh hb (by decide), nlResolved_enable], ?_⟩
    rw [(nlDeferred_frame h hh hb).2, (nlResolved_svc s).2]
    simp
  · exact ⟨s, enableDeferredCheck_not hd, fun _ => rfl, fun hk h => absurd (hk ▸ h) hd⟩

theorem hostPop_empty {x : Xfer} {key : Nat} {value : State → Option Bytes} {pop : State → State} {s : State} (hr : s.ready = true)
    (hv : value (advance s x.dt) = none) : hostPop x key value pop s = popReplied x key [] s := by
  unfold hostPop
  dsimp only
  rw [if_pos (by simpa using hr), hv]
  rfl

theorem readEnableLog_forms (x : Xfer) {s : State} (hr : s.ready = true) : ∃ t d, exec (.readEnableLog x) s = .next t
    ∧ t.svc.log = s.svc.log.drop 1 ∧ t.link.sent = s.link.sent ++ [.dictReply d] ∧ d.seq = x.seq ∧ d.reason = .ok
    ∧ d.data = s.svc.log.headD [] := by
  have he : exec (.readEnableLog x) s = .next (hostPop x O.enableLog (popHead O.enableLog) (popRest O.enableLog) s) := rfl
  cases hl : s.svc.log with
  | nil =>
    rw [he, hostPop_empty hr (by rw [popHead_enableLog, advance_svc, hl]; rfl)]
    have hv : (popReplied x O.enableLog [] s).svc = s.svc := (popReplied_frame x O.enableLog [] s).1 .svc (by decide)
    exact ⟨_, _, rfl, by rw [hv, hl]; rfl, popReplied_sent isEnable_enableLog, rfl, rfl, rfl⟩
  | cons oldest rest =>
    rw [he, readEnableLog_pops hr hl]
    exact ⟨_, _, rfl, rfl, popReplied_sent isEnable_enableLog, rfl, rfl, rfl⟩

end Sys2Proof.Machine
open Sys2Proof Sys2Proof.Machine Sys2Proof.Safety

/-- Settles O59: a command's form lemma says both what it does and where it does nothing. -/
theorem timeAndLinkForms : Obligations.TimeAndLinkForms := by
  unfold Obligations.TimeAndLinkForms
  exact ⟨todFrameRx_forms, fun dt p h m s hp => ptpMessageRx_forms dt h m s hp, fun p via m s hp => ptpMessageTx_forms via m s hp,
    fun out s ho => synceOutputResume_forms s ho, dlTbData_forms,
    fun chan course s => ⟨courseAutoBind_forms chan course s, courseInAir_forms chan course s, courseEgressComplete_forms chan course s⟩,
    fun dt m vendor code data s hm => sidebandMessageRx_forms dt vendor code data s hm,
    fun dt m units s hm => malformedMessageRx_forms dt units s hm, indicationSend_forms,
    fun dt seq hostId credits entries s hr => ⟨resumeOpen_forms dt seq hostId credits hr, resumeModeResume_forms dt seq hostId entries hr,
      fun mode => resumeClose_forms dt seq mode hostId hr⟩,
    segmentTimeout_forms, fun index sub s hh => enableDeferredCheck_forms index sub hh, fun x s hr => readEnableLog_forms x hr⟩
end

section
/-! SUPPORT. The messages of courses (06 R201, R206; 09 R311 to R316; 17 R556, R557). -/
namespace Sys2Proof.Machine
open Sys2Proof.Safety

/-! ## A course changed -/

section
variable {s : State} {key l : Nat} {c : Course}

theorem onCourse_found (h : s.course key = some c) (f : Course → Course) : (s.onCourse key f).course key = some (f c) := by
  rw [onCourse_course, if_pos rfl, h]
  rfl

/-- A symbol that is not sent is so in its course. -/
theorem notSent_course (h : s.course key = some c) (status : Nat) : ∃ causes, (notSent key status l s).course key
    = some { c with sent := setBit c.sent l false, unsent := setBit c.unsent l true, causes := causes } := by
  unfold notSent
  rw [h]
  exact ⟨_, onCourse_found (onCourse_found h _) _⟩

theorem blank_course (h : s.course key = some c) : ∃ causes, (blank key l c s).course key
    = some { c with blanked := setBit c.blanked l true, sent := setBit c.sent l false, unsent := setBit c.unsent l true, causes := causes } := by
  have hb : (if bitOf c.blanked l = true then s else s.bump O.blankedSymbols 1).course key = some c := by
    split
    · exact h
    · exact h
  exact ⟨_, onCourse_found (onCourse_found hb _) _⟩

theorem blank_leaves (key l : Nat) (c : Course) (s : State) : Leaves s (blank key l c s) [.dict, .pipe] [O.blankedSymbols] :=
  Leaves.trans (Leaves.ite _ (Leaves.refl ..) (Leaves.bump _ _ _ (by decide) (by decide)))
    (Leaves.trans (Leaves.onCourse _ _ _ (by decide)) (Leaves.mono (causeAt_leaves _ _ _ _ (ks := [])) (by decide) nofun))

end

/-! ## What time leaves of it -/

theorem advanceToAir_dict (s : State) (a : Int) : (advanceToAir s a).dict = s.dict := by
  rcases advanceToAir_cases s a with h | ⟨n, h⟩
  · rw [h]
  · rw [h, advance_dict]

theorem ridersOf_congr {s t : State} (hd : t.dict = s.dict) (hp : t.pipe = s.pipe) (h : Nat) (slot : Int) (dir l : Nat) :
    ridersOf t h slot dir l = ridersOf s h slot dir l := by
  simp only [ridersOf, State.hosted, State.std, State.holds, State.nat, State.obj_congr hd, hp]

theorem hosted_congr {s t : State} (hd : t.dict = s.dict) (n : Nat) : t.hosted n = s.hosted n := by
  simp only [State.hosted, State.std, State.nat, State.obj_congr hd]

theorem timeDomain_congr {s t : State} (hd : t.dict = s.dict) (n : Nat) : t.timeDomain n = s.timeDomain n := by
  simp only [State.timeDomain, hosted_congr hd, State.obj_congr hd]

theorem streamOf_self {s : State} {n : Nat} (h : s.hosted n = false) : s.streamOf n = n := if_neg (by rw [h]; decide)

theorem advanceToAir_pipe (s : State) (a : Int) : (advanceToAir s a).pipe = s.pipe :=
  (Leaves.advanceToAir s a (ps := timeParts) (ks := []) (fun _ h => h)).1 .pipe (by decide)

theorem advanceToAir_sched (s : State) (a : Int) : (advanceToAir s a).sched = s.sched :=
  (Leaves.advanceToAir s a (ps := timeParts) (ks := []) (fun _ h => h)).1 .sched (by decide)

theorem advanceToAir_nat (s : State) (a : Int) (k : Nat) : (advanceToAir s a).nat k = s.nat k := congrArg Int.toNat (State.obj_advanceToAir ..)

theorem onWraps_copies (n : Nat) (s : State) : (onWraps n s).guard.copies = s.guard.copies ∧ (onWraps n s).guard.synth = s.guard.synth := by
  induction n generalizing s with
  | zero => exact ⟨rfl, rfl⟩
  | succ n ih =>
    obtain ⟨h1, h2⟩ := ih (onWrap s)
    have h : (onWrap s).guard.copies = s.guard.copies ∧ (onWrap s).guard.synth = s.guard.synth := by
      unfold onWrap
      split <;> exact ⟨rfl, rfl⟩
    exact ⟨h1.trans h.1, h2.trans h.2⟩

theorem advanceToAir_copies (s : State) (a : Int) : (advanceToAir s a).guard.copies = s.guard.copies
    ∧ (advanceToAir s a).guard.synth = s.guard.synth := by
  rcases advanceToAir_cases s a with h | ⟨n, h⟩
  · rw [h]
    exact ⟨rfl, rfl⟩
  · rw [h]
    exact onWraps_copies _ s

/-! ## A launch that is due -/

section
variable {s : State} {chan course symbol k : Nat} {c : Course}

theorem atLaunch_course (h : LaunchDue s chan course symbol k c) : (atLaunch s chan symbol c).course (courseKey chan course) = some c := by
  obtain ⟨-, -, -, -, hc, -⟩ := h
  rw [atLaunch, advanceToAir_course, hc]

theorem atLaunch_leaves (s : State) (chan symbol : Nat) (c : Course) {ks : List Nat} : Leaves s (atLaunch s chan symbol c) timeParts ks :=
  Leaves.advanceToAir _ _ fun _ h => h

theorem atLaunch_riders (h : ridersOf s (chan - 1) c.slotAir 0 symbol = []) : riderFates (atLaunch s chan symbol c) (chan - 1) symbol k c.slotAir = [] := by
  have hr : ridersOf (atLaunch s chan symbol c) (chan - 1) c.slotAir 0 symbol = [] :=
    (ridersOf_congr (advanceToAir_dict s _) (advanceToAir_pipe s _) ..).trans h
  rw [riderFates, hr, List.map_nil]

theorem uplaneLaunch_due (h : LaunchDue s chan course symbol k c) (bytes : Nat) (power : Int) : exec (.uplaneLaunch chan course symbol k bytes power) s
    = .next (launchSymbol (courseKey chan course) (chan - 1) (chan - 1) symbol k bytes power c (atLaunch s chan symbol c)) := by
  obtain ⟨h1, h64, h14, hk, hc, hd, hx, hj, ho, hf, hl, hh, hp⟩ := h
  show execUplaneLaunch chan course symbol k bytes power s = _
  unfold execUplaneLaunch
  rw [if_neg (by simp; omega)]
  dsimp only
  rw [hc]
  dsimp only
  rw [streamOf_self hh]
  exact if_neg (by simp [hd, hx, hj, ho]; omega)

/-- The launch of a symbol without hosted carriers, whose fate blanks it. -/
theorem launchSymbol_blanked {key n bytes : Nat} {power : Int} {u : State} (hr : riderFates u n symbol k c.slotAir = [])
    (hs : symbolShut u n (courseSymbol u n c symbol) = .gap) :
    launchSymbol key n n symbol k bytes power c u = (blank key symbol c u).onCourse key fun c => c.gone symbol k := by
  have hf (ready : Bool) : launchFate u n n k (courseSymbol u n c symbol) ready = .blanked := by
    unfold launchFate
    dsimp only
    rw [hs]
  unfold launchSymbol
  simp only [hf, hr, if_true, List.filter_nil, List.map_nil]
  rfl

theorem uplaneLaunch_blanks (h : LaunchDue s chan course symbol k c) (hr : ridersOf s (chan - 1) c.slotAir 0 symbol = [])
    (hs : symbolShut (atLaunch s chan symbol c) (chan - 1) (courseSymbol (atLaunch s chan symbol c) (chan - 1) c symbol) = .gap)
    (bytes : Nat) (power : Int) : ∃ t, exec (.uplaneLaunch chan course symbol k bytes power) s = .next t
      ∧ (∃ c', t.course (courseKey chan course) = some c' ∧ c'.blanked = setBit c.blanked symbol true
          ∧ c'.sent = setBit c.sent symbol false ∧ c'.withheld = c.withheld)
      ∧ Leaves s t (.dict :: .pipe :: timeParts) [O.blankedSymbols] := by
  obtain ⟨causes, hb⟩ := blank_course (l := symbol) (atLaunch_course h)
  refine ⟨_, (uplaneLaunch_due h bytes power).trans (congrArg Host.Outcome.next (launchSymbol_blanked (atLaunch_riders hr) hs)),
    ⟨_, onCourse_found hb _, rfl, rfl, rfl⟩, ?_⟩
  exact Leaves.trans (Leaves.mono (atLaunch_leaves s chan symbol c (ks := [])) (by decide) nofun)
    (Leaves.trans (Leaves.mono (blank_leaves ..) (by decide) fun _ h => h) (Leaves.onCourse _ _ _ (by decide)))

/-! ## A message that was never launched -/

/-- The state in which a late symbol is counted. -/
def lateCounted (n : Nat) (s : State) : State :=
  if s.nat (O.activePort n) < 24 then s.bump (O.upTxLate (s.nat (O.activePort n))) 1 else s

/-- The instant after which a symbol is late (09 R316). -/
def lateInstant (s : State) (n symbol : Nat) (c : Course) : Int := s.txInstant n c.slotAir symbol + symbolTc (s.mu n) * airTc

/-- The state in which stream port `j` of a symbol was never launched. -/
def neverLaunched (key n symbol j : Nat) (c : Course) (s : State) : State :=
  (notSent key 1 symbol (lateCounted n (advanceToAir s (lateInstant s n symbol c)))).onCourse key fun c => c.gone symbol j

/-- The first stream port whose message of a symbol has not gone. -/
def firstMissing (s : State) (n symbol : Nat) (c : Course) : Option Nat :=
  (List.range (s.nat (O.dlPorts n))).find? fun k => !bitOf (Store.at 0 c.went symbol) k

theorem upTxLate_missing (h : LaunchDue s chan course symbol k c) {j : Nat} (hj : firstMissing s (chan - 1) symbol c = some j) :
    exec (.upTxLate chan course symbol) s = .next (neverLaunched (courseKey chan course) (chan - 1) symbol j c s) := by
  obtain ⟨h1, h64, h14, hk, hc, hd, hx, hjn, ho, hf, hl, hh, hp⟩ := h
  show execUpTxLate chan course symbol s = _
  unfold execUpTxLate
  rw [if_neg (by simp; omega)]
  dsimp only
  rw [hc]
  dsimp only
  rw [streamOf_self hh, if_neg (by simp [hd, hx, hjn, ho]; omega), ← firstMissing, hj]
  rfl

theorem upTxLate_launched (h : LaunchDue s chan course symbol k c) (hj : firstMissing s (chan - 1) symbol c = none) :
    exec (.upTxLate chan course symbol) s = .next s := by
  obtain ⟨h1, h64, h14, hk, hc, hd, hx, hjn, ho, hf, hl, hh, hp⟩ := h
  show execUpTxLate chan course symbol s = _
  unfold execUpTxLate
  rw [if_neg (by simp; omega)]
  dsimp only
  rw [hc]
  dsimp only
  rw [streamOf_self hh, if_neg (by simp [hd, hx, hjn, ho]; omega), ← firstMissing, hj]

theorem upTxLate_gone (h : LaunchDue s chan course symbol k c)
    (hw : ∀ k < s.nat (O.dlPorts (chan - 1)), bitOf (Store.at 0 c.went symbol) k = true) : exec (.upTxLate chan course symbol) s = .next s := by
  refine upTxLate_launched h (List.find?_eq_none.mpr fun j hj => ?_)
  rw [hw j (List.mem_range.mp hj)]
  decide

theorem lateCounted_leaves {n : Nat} (h : s.nat (O.activePort n) < 24) : Leaves s (lateCounted n s) [.dict] [O.upTxLate (s.nat (O.activePort n))]
    ∧ Counted s (lateCounted n s) (O.upTxLate (s.nat (O.activePort n))) 1 := by
  rw [lateCounted, if_pos h]
  exact ⟨Leaves.bump _ _ _ (by decide) (List.mem_singleton_self _), State.obj_bump_same ..⟩

theorem upTxLate_expires (h : LaunchDue s chan course symbol k c) (hw : bitOf (Store.at 0 c.went symbol) k = false)
    (hp : s.nat (O.activePort (chan - 1)) < 24) : ∃ t, exec (.upTxLate chan course symbol) s = .next t
      ∧ (∃ c', t.course (courseKey chan course) = some c' ∧ c'.sent = setBit c.sent symbol false
          ∧ c'.unsent = setBit c.unsent symbol true)
      ∧ Counted s t (O.upTxLate (s.nat (O.activePort (chan - 1)))) 1
      ∧ Leaves s t (.dict :: .pipe :: timeParts) [O.upTxLate (s.nat (O.activePort (chan - 1)))] := by
  have hf : (firstMissing s (chan - 1) symbol c).isSome = true := by
    obtain ⟨-, -, -, -, -, -, -, -, -, -, -, -, hk⟩ := h
    exact List.find?_isSome.mpr ⟨k, List.mem_range.mpr hk, by rw [hw]; rfl⟩
  obtain ⟨j, hj⟩ := Option.isSome_iff_exists.mp hf
  obtain ⟨-, -, -, -, hc, -⟩ := id h
  have hadv := Leaves.advanceToAir s (lateInstant s (chan - 1) symbol c) (ps := timeParts) (ks := []) fun _ h => h
  have hn := advanceToAir_nat s (lateInstant s (chan - 1) symbol c) (O.activePort (chan - 1))
  obtain ⟨hL, hC⟩ := lateCounted_leaves (n := chan - 1) (hn.symm ▸ hp)
  rw [hn] at hL hC
  have hN := notSent_leaves (courseKey chan course) 1 symbol (lateCounted (chan - 1) (advanceToAir s (lateInstant s (chan - 1) symbol c))) (ks := [])
  obtain ⟨causes, hcs⟩ := notSent_course (l := symbol) (((course_congr (hL.1 .pipe (by decide)) _).trans (advanceToAir_course ..)).trans hc) 1
  have hO : Leaves _ (neverLaunched (courseKey chan course) (chan - 1) symbol j c s) [.pipe] [] := Leaves.onCourse _ _ _ (by decide)
  refine ⟨_, upTxLate_missing h hj, ⟨_, onCourse_found hcs _, rfl, rfl⟩, ?_, ?_⟩
  · exact (hO.2 _ List.not_mem_nil).trans ((hN.2 _ List.not_mem_nil).trans (Counted.of_obj (hadv.2 _ List.not_mem_nil) hC))
  · exact Leaves.trans (Leaves.mono hadv (by decide) nofun) (Leaves.trans (Leaves.mono hL (by decide) fun _ h => h)
      (Leaves.trans (Leaves.mono hN (by decide) nofun) (Leaves.mono hO (by decide) nofun)))

/-! ## The messages of a symbol -/

/-- Another message of a stream port takes its sequence. -/
def takeUplane (h l k : Nat) (u : State) (a : List FrameBody × State) (m : List USection) : List FrameBody × State :=
  let (q, s) := takeSeq (seqKey h 0 0 (u.eaxc h k)) a.2
  (a.1 ++ [.uplane (s.eaxc h k) q l m], s)

/-- The messages of a symbol and stream port with their sequences. -/
def uplaneFrames (h l k p : Nat) (courses : List (Nat × Course)) (u : State) : List FrameBody × State :=
  (uplaneMessages u h l k p courses).foldl (fun (a : List FrameBody × State) m =>
    let (q, s) := takeSeq (seqKey h 0 0 (u.eaxc h k)) a.2
    (a.1 ++ [.uplane (s.eaxc h k) q l m], s)) ([], u)

theorem takeSeq_leaves (key : Nat) (s : State) {ks : List Nat} : Leaves s (takeSeq key s).2 [.fh] ks := Leaves.setFh _ _ (by decide)

theorem uplaneFrames_does (h l k p : Nat) (courses : List (Nat × Course)) (u : State) :
    Leaves u (uplaneFrames h l k p courses u).2 [.fh] []
      ∧ (uplaneFrames h l k p courses u).1.length = (uplaneMessages u h l k p courses).length := by
  have hg (ms : List (List USection)) (a : List FrameBody × State) : Leaves a.2 (ms.foldl (takeUplane h l k u) a).2 [.fh] []
      ∧ (ms.foldl (takeUplane h l k u) a).1.length = a.1.length + ms.length := by
    induction ms generalizing a with
    | nil => exact ⟨Leaves.refl .., rfl⟩
    | cons m ms ih =>
      obtain ⟨h1, h2⟩ := ih (takeUplane h l k u a m)
      refine ⟨Leaves.trans (takeSeq_leaves ..) h1, h2.trans ?_⟩
      rw [takeUplane, List.length_append, List.length_singleton, List.length_cons]
      omega
  obtain ⟨h1, h2⟩ := hg (uplaneMessages u h l k p courses) ([], u)
  exact ⟨h1, h2.trans (Nat.zero_add _)⟩

/-- A launch leaves its port and stays with it as the last. -/
theorem sendLaunch_recent (p : Nat) (l : Launch) (s : State) : ∃ ends, { l with ends := ends } ∈ ((sendLaunch p l s).port p).recent := by
  refine ⟨max (s.port p).busy (frameBoundary s p l.tick) + portTicks s p l.bytes, ?_⟩
  unfold sendLaunch requeue
  dsimp only
  rw [onPort_port, onPort_port]
  exact List.mem_append_right _ (List.mem_singleton_self _)

/-- The frames of a symbol and stream port of a course that alone travels in it. -/
def symbolFrames (key h l k p : Nat) (c : Course) (u : State) : List OutFrame :=
  (uplaneFrames h l k p [(key, c)] u).1.map (frameOn u p (ruAddress u h p))

/-- The state in which they have left, and count. -/
def symbolSent (key h l k p bytes : Nat) (c : Course) (u : State) : State :=
  sendLaunch p ⟨u.clock.ticks, 0, key, [], l, false, 0, symbolFrames key h l k p c u, bytes⟩
    ((uplaneFrames h l k p [(key, c)] u).2.bump (O.upTxSent p) (symbolFrames key h l k p c u).length)

theorem launch_frequency {key h l k p bytes : Nat} {power slot : Int} {u : State} (ht : u.timeDomain h = false) :
    launch key h l k p bytes power slot (some (key, c)) [] u = meter h power (symbolSent key h l k p bytes c u) := by
  unfold launch
  dsimp only
  rw [if_neg (by rw [ht]; decide)]
  rfl

theorem symbolFrames_does (key h l k p : Nat) (c : Course) (u : State) :
    (symbolFrames key h l k p c u).length = (uplaneMessages u h l k p [(key, c)]).length
      ∧ ∀ f ∈ symbolFrames key h l k p c u, f.dst = ruAddress u h p := by
  refine ⟨(List.length_map _).trans (uplaneFrames_does ..).2, fun f hf => ?_⟩
  obtain ⟨b, -, rfl⟩ := List.mem_map.mp hf
  rfl

/-- The objects of a port that its messages count are its own. -/
theorem upTxSent_ne (p : Nat) : O.upTxSent p ∉ [O.txFrames p, O.txBytes p] := by
  simp only [O.upTxSent, O.txFrames, O.txBytes, List.mem_cons, List.not_mem_nil, or_false]
  omega

theorem sendLaunch_counted (p : Nat) (l : Launch) (s : State) : Counted s (sendLaunch p l s) (O.txFrames p) l.frames.length
    ∧ Counted s (sendLaunch p l s) (O.txBytes p) l.bytes := by
  obtain ⟨h1, h2⟩ := sentFrames_counted p l.frames.length l.bytes s
  have hr : Leaves (sentFrames p l.frames.length l.bytes s) (sendLaunch p l s) [.fh] [] :=
    Leaves.trans (Leaves.onPort _ _ _ (by decide)) (requeue_leaves ..)
  exact ⟨(hr.2 _ List.not_mem_nil).trans h1, (hr.2 _ List.not_mem_nil).trans h2⟩

theorem symbolSent_leaves (key h l k p bytes : Nat) (c : Course) (u : State) :
    Leaves u (symbolSent key h l k p bytes c u) [.dict, .fh] [O.upTxSent p, O.txFrames p, O.txBytes p] := by
  refine Leaves.trans (Leaves.mono (uplaneFrames_does h l k p [(key, c)] u).1 (by decide) nofun) ?_
  exact Leaves.trans (Leaves.bump _ _ _ (by decide) (by simp)) (Leaves.mono (sendLaunch_leaves ..) (by decide) (by simp))

theorem symbolSent_counted (key h l k p bytes : Nat) (c : Course) (u : State) :
    Counted u (symbolSent key h l k p bytes c u) (O.upTxSent p) (uplaneMessages u h l k p [(key, c)]).length
      ∧ Counted u (symbolSent key h l k p bytes c u) (O.txFrames p) (uplaneMessages u h l k p [(key, c)]).length
      ∧ Counted u (symbolSent key h l k p bytes c u) (O.txBytes p) bytes := by
  obtain ⟨hl, -⟩ := symbolFrames_does key h l k p c u
  have hu := (uplaneFrames_does h l k p [(key, c)] u).1
  obtain ⟨h1, h2⟩ := sendLaunch_counted p ⟨u.clock.ticks, 0, key, [], l, false, 0, symbolFrames key h l k p c u, bytes⟩
    ((uplaneFrames h l k p [(key, c)] u).2.bump (O.upTxSent p) (symbolFrames key h l k p c u).length)
  have hb (q : Nat) (hq : q ∈ [O.txFrames p, O.txBytes p]) :
      ((uplaneFrames h l k p [(key, c)] u).2.bump (O.upTxSent p) (symbolFrames key h l k p c u).length).obj q = u.obj q :=
    (State.obj_bump_ne _ _ _ _ fun he => upTxSent_ne p (by rw [← he]; exact hq)).trans (hu.2 _ List.not_mem_nil)
  rw [← hl]
  refine ⟨?_, Counted.of_obj (hb _ (by simp)) h1, Counted.of_obj (hb _ (by simp)) h2⟩
  exact ((sendLaunch_leaves ..).2 _ (upTxSent_ne p)).trans (Counted.of_obj (hu.2 _ List.not_mem_nil) (State.obj_bump_same ..))

theorem symbolSent_recent (key h l k p bytes : Nat) (c : Course) (u : State) : ∃ x ∈ ((symbolSent key h l k p bytes c u).port p).recent,
    x.key = key ∧ x.cplane = false ∧ x.symbol = l ∧ x.frames = symbolFrames key h l k p c u := by
  obtain ⟨ends, hm⟩ := sendLaunch_recent p ⟨u.clock.ticks, 0, key, [], l, false, 0, symbolFrames key h l k p c u, bytes⟩
    ((uplaneFrames h l k p [(key, c)] u).2.bump (O.upTxSent p) (symbolFrames key h l k p c u).length)
  exact ⟨_, hm, rfl, rfl, rfl, rfl⟩

/-- Power within the limit is only measured (17 R557). -/
theorem meter_within {n : Nat} {power : Int} (hs : s.guard.synth.contains (5, n) = false) (hp : 2 * power < 2 * s.obj (O.guardPwrLimit n) + 15) :
    meter n power s = s.setObj (O.pwrMax n) (max (s.obj (O.pwrMax n)) power) := by
  have hne : O.guardPwrLimit n ≠ O.pwrMax n := by
    simp only [O.guardPwrLimit, O.pwrMax]
    omega
  unfold meter
  dsimp only
  rw [if_neg (by rw [State.setObj_guard, hs]; decide), if_neg (by rw [State.obj_setObj_ne _ _ _ _ hne]; omega)]

/-- The launch of a symbol whose message goes, in time and alone. -/
theorem launchSymbol_goes {key n bytes p : Nat} {power : Int} {u : State} {g : Copy} {tag : Nat} {o : Op} (hp : u.nat (O.activePort n) = p)
    (hr : riderFates u n symbol k c.slotAir = []) (ht : u.timeDomain n = false) (hs : symbolShut u n (courseSymbol u n c symbol) = .passes)
    (hm : launchMuted u n p k = false) (hw : awaitsOpening u n p (courseSymbol u n c symbol) = false) (hu : p < 24) (hl : u.linkUp p = true)
    (ho : u.liveOp key (opId .asm 0 symbol (k / 16)) = some (tag, o)) (hop : o.published = true) (hoe : o.empty = false)
    (hg : Store.find u.guard.copies n = some g) (hc : copyHolds u n g (courseSymbol u n c symbol) = true)
    (hlate : launchLate u n p c.slotAir symbol = false) : launchSymbol key n n symbol k bytes power c u
      = ((launch key n symbol k p bytes power c.slotAir (some (key, c)) [] u).onCourse key fun c =>
          { c with sent := if bitOf c.unsent symbol then c.sent else setBit c.sent symbol true }).onCourse key fun c => c.gone symbol k := by
  have hready : sinkReady u key n symbol k = true := by
    unfold sinkReady sinkOf
    rw [if_neg (by rw [ht]; decide), ho]
    simp [hop, hoe]
  have hsm : u.streamMuted n p = false := by
    simp only [launchMuted, Bool.or_eq_false_iff] at hm
    exact hm.1.2
  have hf : launchFate u n n k (courseSymbol u n c symbol) true = .goes := by
    unfold launchFate
    dsimp only
    rw [hs, hp]
    dsimp only
    rw [if_neg (by rw [hm, hsm, hw]; decide), if_neg (by rw [hl, ht]; simp [hu]), if_neg (by simp), hg]
    dsimp only
    rw [if_pos hc]
  unfold launchSymbol
  simp only [hp, hready, hf, hr, hlate, if_true, List.filter_nil, List.map_nil, decide_true, Bool.and_self, Bool.true_or, Bool.and_false]
  rfl

theorem linkUp_atLaunch (s : State) (chan symbol : Nat) (c : Course) (p : Nat) : (atLaunch s chan symbol c).linkUp p = s.linkUp p :=
  linkUp_congr (advanceToAir_dict ..) p

theorem ruAddress_congr {s t : State} (hd : t.dict = s.dict) (hb : t.blobs = s.blobs) (n p : Nat) : ruAddress t n p = ruAddress s n p := by
  have hn (k : Nat) : t.nat k = s.nat k := congrArg Int.toNat (State.obj_congr hd k)
  unfold ruAddress
  rw [hn, State.blob_congr hb, State.blob_congr hb]

/-- The objects that a symbol's messages write. -/
def launchKeys (p n : Nat) : List Nat := [O.upTxSent p, O.txFrames p, O.txBytes p, O.pwrMax n]

theorem pwrMax_ne {p : Nat} (n : Nat) (h : p < 24) : O.pwrMax n ∉ [O.upTxSent p, O.txFrames p, O.txBytes p] := by
  simp only [O.pwrMax, O.upTxSent, O.txFrames, O.txBytes, List.mem_cons, List.not_mem_nil, or_false]
  omega

theorem guardPwrLimit_ne {p : Nat} (n : Nat) (h : p < 24) : O.guardPwrLimit n ∉ [O.upTxSent p, O.txFrames p, O.txBytes p] := by
  simp only [O.guardPwrLimit, O.upTxSent, O.txFrames, O.txBytes, List.mem_cons, List.not_mem_nil, or_false]
  omega

/-- The state in which a course's symbol has gone, and is metered. -/
def symbolGone (key n l k p bytes : Nat) (power : Int) (c : Course) (u : State) : State :=
  (((symbolSent key n l k p bytes c u).setObj (O.pwrMax n) (max ((symbolSent key n l k p bytes c u).obj (O.pwrMax n)) power)).onCourse key fun c =>
    { c with sent := if bitOf c.unsent l then c.sent else setBit c.sent l true }).onCourse key fun c => c.gone l k

theorem symbolGone_leaves (key n l k p bytes : Nat) (power : Int) (c : Course) (u : State) :
    Leaves (symbolSent key n l k p bytes c u) (symbolGone key n l k p bytes power c u) [.dict, .pipe] [O.pwrMax n] :=
  Leaves.trans (Leaves.setObj _ _ _ (by decide) (List.mem_singleton_self _)) (Leaves.trans (Leaves.onCourse _ _ _ (by decide)) (Leaves.onCourse _ _ _ (by decide)))

theorem symbolGone_course {key n l k p bytes : Nat} {power : Int} {u : State} (h : u.course key = some c) :
    (symbolGone key n l k p bytes power c u).course key
      = some ({ c with sent := if bitOf c.unsent l then c.sent else setBit c.sent l true }.gone l k) := by
  refine onCourse_found (onCourse_found ?_ _) _
  refine (course_congr (State.setObj_pipe ..) key).trans ?_
  rw [course_congr ((symbolSent_leaves ..).1 .pipe (by decide)), h]

theorem symbolGone_pwrMax {key n l k p bytes : Nat} (power : Int) (hp : p < 24) (c : Course) (u : State) :
    (symbolGone key n l k p bytes power c u).obj (O.pwrMax n) = max (u.obj (O.pwrMax n)) power := by
  have h : (symbolGone key n l k p bytes power c u).obj (O.pwrMax n)
      = ((symbolSent key n l k p bytes c u).setObj (O.pwrMax n) (max ((symbolSent key n l k p bytes c u).obj (O.pwrMax n)) power)).obj (O.pwrMax n) :=
    (State.onCourse_obj ..).trans (State.onCourse_obj ..)
  rw [h, State.obj_setObj_same, (symbolSent_leaves ..).2 _ (pwrMax_ne n hp)]

theorem launch_gone {key n l k p bytes : Nat} {power slot : Int} {u : State} (hp : p < 24) (ht : u.timeDomain n = false)
    (hs : u.guard.synth.contains (5, n) = false) (hpw : 2 * power < 2 * u.obj (O.guardPwrLimit n) + 15) :
    ((launch key n l k p bytes power slot (some (key, c)) [] u).onCourse key fun c =>
        { c with sent := if bitOf c.unsent l then c.sent else setBit c.sent l true }).onCourse key (fun c => c.gone l k)
      = symbolGone key n l k p bytes power c u := by
  have hL := symbolSent_leaves key n l k p bytes c u
  rw [launch_frequency ht, meter_within (by rw [hL.1 .guard (by decide)]; exact hs) (by rw [hL.2 _ (guardPwrLimit_ne n hp)]; exact hpw)]
  rfl

/-- At its instant a symbol whose output is there goes out to the radio unit, and is metered (06 R201; 09 R313, R316; 17 R556, R557). -/
theorem uplaneLaunch_goes {bytes tag : Nat} {power : Int} {o : Op} {g : Copy} (h : LaunchDue s chan course symbol k c)
    (hfd : s.obj (O.fhDomain (chan - 1)) = 0) (hr : ridersOf s (chan - 1) c.slotAir 0 symbol = [])
    (hs : symbolShut (atLaunch s chan symbol c) (chan - 1) (courseSymbol (atLaunch s chan symbol c) (chan - 1) c symbol) = .passes)
    (hm : launchMuted (atLaunch s chan symbol c) (chan - 1) (s.nat (O.activePort (chan - 1))) k = false)
    (hw : awaitsOpening (atLaunch s chan symbol c) (chan - 1) (s.nat (O.activePort (chan - 1)))
      (courseSymbol (atLaunch s chan symbol c) (chan - 1) c symbol) = false)
    (hp : s.nat (O.activePort (chan - 1)) < 24) (hl : s.linkUp (s.nat (O.activePort (chan - 1))) = true)
    (ho : s.liveOp (courseKey chan course) (opId .asm 0 symbol (k / 16)) = some (tag, o)) (hop : o.published = true) (hoe : o.empty = false)
    (hg : Store.find s.guard.copies (chan - 1) = some g)
    (hc : copyHolds (atLaunch s chan symbol c) (chan - 1) g (courseSymbol (atLaunch s chan symbol c) (chan - 1) c symbol) = true)
    (hsy : s.guard.synth.contains (5, chan - 1) = false) (hpw : 2 * power < 2 * s.obj (O.guardPwrLimit (chan - 1)) + 15)
    (hlate : launchLate (atLaunch s chan symbol c) (chan - 1) (s.nat (O.activePort (chan - 1))) c.slotAir symbol = false) :
    exec (.uplaneLaunch chan course symbol k bytes power) s = .next (symbolGone (courseKey chan course) (chan - 1) symbol k
      (s.nat (O.activePort (chan - 1))) bytes power c (atLaunch s chan symbol c)) := by
  have hh : s.hosted (chan - 1) = false := by
    obtain ⟨-, -, -, -, -, -, -, -, -, -, -, hh, -⟩ := h
    exact hh
  have htd : (atLaunch s chan symbol c).timeDomain (chan - 1) = false := by
    refine (timeDomain_congr (advanceToAir_dict s _) _).trans ?_
    rw [State.timeDomain, hfd]
    rfl
  have hol : (atLaunch s chan symbol c).liveOp (courseKey chan course) (opId .asm 0 symbol (k / 16)) = some (tag, o) := by
    rw [State.liveOp, atLaunch, advanceToAir_sched]
    exact ho
  obtain ⟨h1, h2⟩ := advanceToAir_copies s (s.txInstant (chan - 1) c.slotAir symbol)
  rw [uplaneLaunch_due h, launchSymbol_goes (u := atLaunch s chan symbol c) (advanceToAir_nat ..) (atLaunch_riders hr) htd hs hm hw hp ((linkUp_atLaunch ..).trans hl) hol hop hoe
    ((congrArg (fun x => Store.find x _) h1).trans hg) hc hlate]
  refine congrArg Host.Outcome.next (launch_gone hp htd (by rw [atLaunch, h2]; exact hsy) ?_)
  rw [atLaunch, State.obj_advanceToAir]
  exact hpw

/-- What a symbol that goes does. -/
theorem symbolGone_does (hc : s.course (courseKey chan course) = some c) (bytes : Nat) (power : Int) {p : Nat} (hp : p < 24) :
    ∃ t frames, t = symbolGone (courseKey chan course) (chan - 1) symbol k p bytes power c (atLaunch s chan symbol c)
      ∧ frames = (uplaneMessages (atLaunch s chan symbol c) (chan - 1) symbol k p [(courseKey chan course, c)]).length
      ∧ Counted s t (O.upTxSent p) frames ∧ Counted s t (O.txFrames p) frames ∧ Counted s t (O.txBytes p) bytes
      ∧ t.obj (O.pwrMax (chan - 1)) = max (s.obj (O.pwrMax (chan - 1))) power
      ∧ t.course (courseKey chan course)
          = some ({ c with sent := if bitOf c.unsent symbol then c.sent else setBit c.sent symbol true }.gone symbol k)
      ∧ (∃ l ∈ (t.port p).recent, l.key = courseKey chan course ∧ l.cplane = false ∧ l.symbol = symbol
          ∧ l.frames.length = frames ∧ ∀ f ∈ l.frames, f.dst = ruAddress s (chan - 1) p)
      ∧ Leaves s t (.dict :: .fh :: .pipe :: timeParts) [O.upTxSent p, O.txFrames p, O.txBytes p, O.pwrMax (chan - 1)] := by
  have hA := atLaunch_leaves s chan symbol c (ks := [])
  have hS := symbolSent_leaves (courseKey chan course) (chan - 1) symbol k p bytes c (atLaunch s chan symbol c)
  have hG := symbolGone_leaves (courseKey chan course) (chan - 1) symbol k p bytes power c (atLaunch s chan symbol c)
  have hcount {q n : Nat} (hq : q ∈ [O.upTxSent p, O.txFrames p, O.txBytes p])
      (hC : Counted (atLaunch s chan symbol c) (symbolSent (courseKey chan course) (chan - 1) symbol k p bytes c (atLaunch s chan symbol c)) q n) :
      Counted s (symbolGone (courseKey chan course) (chan - 1) symbol k p bytes power c (atLaunch s chan symbol c)) q n :=
    (hG.2 _ fun hm => pwrMax_ne (chan - 1) hp (List.mem_singleton.mp hm ▸ hq)).trans (Counted.of_obj (hA.2 _ List.not_mem_nil) hC)
  obtain ⟨c1, c2, c3⟩ := symbolSent_counted (courseKey chan course) (chan - 1) symbol k p bytes c (atLaunch s chan symbol c)
  obtain ⟨x, hx, x1, x2, x3, x4⟩ := symbolSent_recent (courseKey chan course) (chan - 1) symbol k p bytes c (atLaunch s chan symbol c)
  obtain ⟨f1, f2⟩ := symbolFrames_does (courseKey chan course) (chan - 1) symbol k p c (atLaunch s chan symbol c)
  refine ⟨_, _, rfl, rfl, hcount (by simp) c1, hcount (by simp) c2, hcount (by simp) c3, ?_, ?_, ⟨x, ?_, x1, x2, x3, ?_, fun f hf => ?_⟩, ?_⟩
  · rw [symbolGone_pwrMax power hp, hA.2 _ List.not_mem_nil]
  · exact symbolGone_course ((advanceToAir_course ..).trans hc)
  · rw [State.port, hG.1 .fh (by decide)]
    exact hx
  · rw [x4, f1]
  · rw [f2 f (x4 ▸ hf)]
    exact ruAddress_congr (advanceToAir_dict ..) (hA.1 .blobs (by decide)) ..
  · exact Leaves.trans (Leaves.mono hA (by decide) nofun) (Leaves.trans (Leaves.mono hS (by decide) (by simp)) (Leaves.mono hG (by decide) (by simp)))

/-! ## C-plane messages -/

/-- Another section of a course takes the sequence of its eAxC. -/
def takeCplane (key h : Nat) (u : State) (a : List FrameBody × State) (e : Nat × CSection) : List FrameBody × State :=
  let (q, s) := takeSeq (seqKey h 1 (dirOf (key % 2 ^ 32)) (u.eaxc h e.1)) a.2
  (a.1 ++ [.cplane (s.eaxc h e.1) q e.2], s)

/-- The messages of sections with their sequences. -/
def cplaneFrames (key h : Nat) (sections : List (Nat × CSection)) (u : State) : List FrameBody × State :=
  sections.foldl (fun (a : List FrameBody × State) e =>
    let (q, s) := takeSeq (seqKey h 1 (dirOf (key % 2 ^ 32)) (u.eaxc h e.1)) a.2
    (a.1 ++ [.cplane (s.eaxc h e.1) q e.2], s)) ([], u)

theorem eaxc_congr {s t : State} (h : ∀ k, t.obj k = s.obj k) (n k : Nat) : t.eaxc n k = s.eaxc n k := by
  simp only [State.eaxc, State.nat, h]

theorem takeCplane_mem {key h : Nat} {u : State} {a : List FrameBody × State} {e : Nat × CSection} (hs : ∀ k, (takeCplane key h u a e).2.obj k = u.obj k)
    {b : FrameBody} (hm : b ∈ (takeCplane key h u a e).1) : b ∈ a.1 ∨ ∃ q, b = .cplane (u.eaxc h e.1) q e.2 := by
  have he : takeCplane key h u a e = (a.1 ++ [.cplane ((takeCplane key h u a e).2.eaxc h e.1)
      (takeSeq (seqKey h 1 (dirOf (key % 2 ^ 32)) (u.eaxc h e.1)) a.2).1 e.2], (takeCplane key h u a e).2) := rfl
  rw [eaxc_congr hs] at he
  rw [he, List.mem_append, List.mem_singleton] at hm
  exact hm.imp_right fun hb => ⟨_, hb⟩

theorem cplaneFrames_does (key h : Nat) (sections : List (Nat × CSection)) (u : State) : Leaves u (cplaneFrames key h sections u).2 [.fh] []
    ∧ (cplaneFrames key h sections u).1.length = sections.length
    ∧ ∀ b ∈ (cplaneFrames key h sections u).1, ∃ e ∈ sections, ∃ q, b = .cplane (u.eaxc h e.1) q e.2 := by
  have hg (l : List (Nat × CSection)) (a : List FrameBody × State) (hl : ∀ e ∈ l, e ∈ sections) (ha : Leaves u a.2 [.fh] [])
      (hb : ∀ b ∈ a.1, ∃ e ∈ sections, ∃ q, b = .cplane (u.eaxc h e.1) q e.2) :
      Leaves u (l.foldl (takeCplane key h u) a).2 [.fh] [] ∧ (l.foldl (takeCplane key h u) a).1.length = a.1.length + l.length
        ∧ ∀ b ∈ (l.foldl (takeCplane key h u) a).1, ∃ e ∈ sections, ∃ q, b = .cplane (u.eaxc h e.1) q e.2 := by
    induction l generalizing a with
    | nil => exact ⟨ha, rfl, hb⟩
    | cons e l ih =>
      have hs : Leaves u (takeCplane key h u a e).2 [.fh] [] := Leaves.trans ha (takeSeq_leaves ..)
      obtain ⟨h1, h2, h3⟩ := ih (takeCplane key h u a e) (fun x hx => hl x (List.mem_cons_of_mem _ hx)) hs (fun b hm => by
        rcases takeCplane_mem (fun k => hs.2 k List.not_mem_nil) hm with hm | ⟨q, hq⟩
        · exact hb b hm
        · exact ⟨e, hl e List.mem_cons_self, q, hq⟩)
      refine ⟨h1, h2.trans ?_, h3⟩
      rw [takeCplane, List.length_append, List.length_singleton, List.length_cons]
      omega
  obtain ⟨h1, h2, h3⟩ := hg sections ([], u) (fun _ h => h) (Leaves.refl ..) nofun
  exact ⟨h1, h2.trans (Nat.zero_add _), h3⟩

/-- The frames of sections. -/
def sectionFrames (key n p : Nat) (sections : List (Nat × CSection)) (u : State) : List OutFrame :=
  (cplaneFrames key n sections u).1.map (frameOn u p (ruAddress u n p))

/-- The state in which the sections of a course have left, and count. -/
def sectionsSent (key n p : Nat) (sections : List (Nat × CSection)) (bytes : Nat) (a : Int) (u : State) : State :=
  sendLaunch p ⟨u.clock.ticks, 0, key, [], 0, true, a, sectionFrames key n p sections u, bytes⟩
    ((cplaneFrames key n sections u).2.bump (O.cpTxSent p) (sectionFrames key n p sections u).length)

theorem sendCplane_sends {key n p : Nat} (sections : List (Nat × CSection)) (bytes : Nat) (a : Int) {u : State} (hh : u.hosted n = false)
    (hp : u.nat (O.activePort n) = p) (h24 : p < 24) (hl : u.linkUp p = true) (hd : u.obj (O.fhDomain n) = 0) :
    sendCplane key n sections bytes a u = sectionsSent key n p sections bytes a u := by
  subst hp
  unfold sendCplane
  dsimp only
  rw [streamOf_self hh]
  exact if_pos (by simp [h24, hl, hd])

theorem sectionFrames_length (key n p : Nat) (sections : List (Nat × CSection)) (u : State) :
    (sectionFrames key n p sections u).length = sections.length := (List.length_map _).trans (cplaneFrames_does ..).2.1

theorem sectionFrames_mem {key n p : Nat} {sections : List (Nat × CSection)} {u : State} {f : OutFrame} (hf : f ∈ sectionFrames key n p sections u) :
    f.dst = ruAddress u n p ∧ ∃ e ∈ sections, ∃ q, f.body = .cplane (u.eaxc n e.1) q e.2 := by
  obtain ⟨b, hb, rfl⟩ := List.mem_map.mp hf
  exact ⟨rfl, (cplaneFrames_does key n sections u).2.2 b hb⟩

theorem cpTxSent_ne (p : Nat) : O.cpTxSent p ∉ [O.txFrames p, O.txBytes p] := by
  simp only [O.cpTxSent, O.txFrames, O.txBytes, List.mem_cons, List.not_mem_nil, or_false]
  omega

theorem sectionsSent_leaves (key n p : Nat) (sections : List (Nat × CSection)) (bytes : Nat) (a : Int) (u : State) :
    Leaves u (sectionsSent key n p sections bytes a u) [.dict, .fh] [O.cpTxSent p, O.txFrames p, O.txBytes p] := by
  refine Leaves.trans (Leaves.mono (cplaneFrames_does key n sections u).1 (by decide) nofun) ?_
  exact Leaves.trans (Leaves.bump _ _ _ (by decide) (by simp)) (Leaves.mono (sendLaunch_leaves ..) (by decide) (by simp))

theorem sectionsSent_counted (key n p : Nat) (sections : List (Nat × CSection)) (bytes : Nat) (a : Int) (u : State) :
    Counted u (sectionsSent key n p sections bytes a u) (O.cpTxSent p) sections.length
      ∧ Counted u (sectionsSent key n p sections bytes a u) (O.txFrames p) sections.length
      ∧ Counted u (sectionsSent key n p sections bytes a u) (O.txBytes p) bytes := by
  have hl := sectionFrames_length key n p sections u
  have hu := (cplaneFrames_does key n sections u).1
  obtain ⟨h1, h2⟩ := sendLaunch_counted p ⟨u.clock.ticks, 0, key, [], 0, true, a, sectionFrames key n p sections u, bytes⟩
    ((cplaneFrames key n sections u).2.bump (O.cpTxSent p) (sectionFrames key n p sections u).length)
  have hb (q : Nat) (hq : q ∈ [O.txFrames p, O.txBytes p]) :
      ((cplaneFrames key n sections u).2.bump (O.cpTxSent p) (sectionFrames key n p sections u).length).obj q = u.obj q :=
    (State.obj_bump_ne _ _ _ _ fun he => cpTxSent_ne p (by rw [← he]; exact hq)).trans (hu.2 _ List.not_mem_nil)
  rw [← hl]
  refine ⟨?_, Counted.of_obj (hb _ (by simp)) h1, Counted.of_obj (hb _ (by simp)) h2⟩
  exact ((sendLaunch_leaves ..).2 _ (cpTxSent_ne p)).trans (Counted.of_obj (hu.2 _ List.not_mem_nil) (State.obj_bump_same ..))

theorem sectionsSent_recent (key n p : Nat) (sections : List (Nat × CSection)) (bytes : Nat) (a : Int) (u : State) :
    ∃ x ∈ ((sectionsSent key n p sections bytes a u).port p).recent, x.key = key ∧ x.cplane = true ∧ x.frames = sectionFrames key n p sections u := by
  obtain ⟨ends, hm⟩ := sendLaunch_recent p ⟨u.clock.ticks, 0, key, [], 0, true, a, sectionFrames key n p sections u, bytes⟩
    ((cplaneFrames key n sections u).2.bump (O.cpTxSent p) (sectionFrames key n p sections u).length)
  exact ⟨_, hm, rfl, rfl, rfl⟩

/-- A course of a direction whose C-plane messages are due. -/
structure CplaneDue (s : State) (chan course dir : Nat) (c : Course) : Prop where
  low : 1 ≤ chan
  high : chan ≤ 64
  found : s.course (courseKey chan course) = some c
  dir : dirOf course = dir
  kept : c.cancelled = false
  runs : c.journalled = false
  bound : c.state ≠ .opened

/-- A carrier whose C-plane messages leave its active port. -/
structure CplaneGoes (s : State) (n : Nat) : Prop where
  port : s.nat (O.activePort n) < 24
  up : s.linkUp (s.nat (O.activePort n)) = true
  frequency : s.obj (O.fhDomain n) = 0
  own : s.hosted n = false

theorem CplaneGoes.sends (h : CplaneGoes s (chan - 1)) (key : Nat) (sections : List (Nat × CSection)) (bytes : Nat) (a b : Int) :
    sendCplane key (chan - 1) sections bytes a (advanceToAir s b)
      = sectionsSent key (chan - 1) (s.nat (O.activePort (chan - 1))) sections bytes a (advanceToAir s b) :=
  sendCplane_sends sections bytes a ((hosted_congr (advanceToAir_dict ..) _).trans h.own) (advanceToAir_nat ..) h.port
    ((linkUp_congr (advanceToAir_dict ..) _).trans h.up) ((State.obj_advanceToAir ..).trans h.frequency)

/-- The sections of a record, one for each eAxC of the downlink. -/
def dlSections (s : State) (chan course : Nat) (c : Course) (r : Rec) : List (Nat × CSection) :=
  (List.range (s.nat (O.dlPorts (chan - 1)))).map fun k => (k, sectionOf s (courseKey chan course) c r)

/-- The instant of a record's first symbol. -/
def firstInstant (s : State) (chan course : Nat) (c : Course) (r : Rec) : Int :=
  s.txInstant (chan - 1) c.slotAir (firstSymbol s (courseKey chan course) c r)

theorem dlCplaneSend_sends {rec : Nat} {r : Rec} (h : CplaneDue s chan course 0 c) (hg : CplaneGoes s (chan - 1)) (hr : rec ≠ 0)
    (hf : recById c.recs rec = some r) (bytes : Nat) : exec (.dlCplaneSend chan course rec bytes) s
      = .next (sectionsSent (courseKey chan course) (chan - 1) (s.nat (O.activePort (chan - 1))) (dlSections s chan course c r) bytes
          (firstInstant s chan course c r) (advanceToAir s (firstInstant s chan course c r - s.obj (O.cpAdvDl (chan - 1)) * airNs))) := by
  obtain ⟨h1, h64, hc, hd, hx, hj, ho⟩ := h
  show execDlCplaneSend chan course rec bytes s = _
  unfold execDlCplaneSend
  rw [if_neg (by simp; omega)]
  dsimp only
  rw [hc]
  dsimp only
  rw [if_neg (by simp [hd, hx, hj, ho]), if_neg hr, hf]
  exact congrArg Host.Outcome.next (hg.sends ..)

/-- The sections of every record of an uplink course, one for each eAxC. -/
def ulSections (s : State) (chan course : Nat) (c : Course) : List (Nat × CSection) :=
  c.recs.flatMap fun r => (List.range (s.nat (O.ulPorts (chan - 1)))).map fun k =>
    ((if r.type == 0x13 then s.nat (O.prachEaxcOffset (chan - 1)) else 0) + k, sectionOf s (courseKey chan course) c r)

theorem ulSections_length (s : State) (chan course : Nat) (c : Course) :
    (ulSections s chan course c).length = c.recs.length * s.nat (O.ulPorts (chan - 1)) := by
  unfold ulSections
  rw [List.length_flatMap]
  simp

/-- The instant at which the C-plane of an uplink course goes out. -/
def ulInstant (s : State) (chan : Nat) (c : Course) : Int := c.slotAir - s.obj (O.ulBindLead (chan - 1)) * airNs

theorem ulCplaneSend_sends (h : CplaneDue s chan course 1 c) (hg : CplaneGoes s (chan - 1)) (bytes : Nat) : exec (.ulCplaneSend chan course bytes) s
    = .next (sectionsSent (courseKey chan course) (chan - 1) (s.nat (O.activePort (chan - 1)))
        (ulSections (advanceToAir s (ulInstant s chan c)) chan course c) bytes c.slotAir (advanceToAir s (ulInstant s chan c))) := by
  obtain ⟨h1, h64, hc, hd, hx, hj, ho⟩ := h
  show execUlCplaneSend chan course bytes s = _
  unfold execUlCplaneSend
  rw [if_neg (by simp; omega)]
  dsimp only
  rw [hc]
  dsimp only
  rw [if_neg (by simp [hd, hx, hj, ho])]
  exact congrArg Host.Outcome.next (hg.sends ..)

/-- What sections that leave at an instant do. -/
theorem sectionsSent_frame (s : State) (a b : Int) (key n p : Nat) (sections : List (Nat × CSection)) (bytes : Nat) :
    Leaves s (sectionsSent key n p sections bytes a (advanceToAir s b)) (.dict :: .fh :: timeParts) [O.cpTxSent p, O.txFrames p, O.txBytes p]
      ∧ Counted s (sectionsSent key n p sections bytes a (advanceToAir s b)) (O.cpTxSent p) sections.length
      ∧ Counted s (sectionsSent key n p sections bytes a (advanceToAir s b)) (O.txFrames p) sections.length
      ∧ Counted s (sectionsSent key n p sections bytes a (advanceToAir s b)) (O.txBytes p) bytes := by
  have hA := Leaves.advanceToAir s b (ps := timeParts) (ks := []) fun _ h => h
  obtain ⟨h1, h2, h3⟩ := sectionsSent_counted key n p sections bytes a (advanceToAir s b)
  exact ⟨Leaves.trans (Leaves.mono hA (by decide) nofun) (Leaves.mono (sectionsSent_leaves ..) (by decide) fun _ h => h),
    Counted.of_obj (hA.2 _ List.not_mem_nil) h1, Counted.of_obj (hA.2 _ List.not_mem_nil) h2, Counted.of_obj (hA.2 _ List.not_mem_nil) h3⟩

theorem dlSections_frames {p bytes : Nat} {r : Rec} (a b : Int) : ∃ l ∈ ((sectionsSent (courseKey chan course) (chan - 1) p (dlSections s chan course c r)
      bytes a (advanceToAir s b)).port p).recent, l.key = courseKey chan course ∧ l.cplane = true ∧
        ∀ f ∈ l.frames, f.dst = ruAddress s (chan - 1) p
          ∧ ∃ k q, k < s.nat (O.dlPorts (chan - 1)) ∧ f.body = .cplane (s.eaxc (chan - 1) k) q (sectionOf s (courseKey chan course) c r) := by
  have hA := Leaves.advanceToAir s b (ps := timeParts) (ks := []) fun _ h => h
  obtain ⟨x, hx, x1, x2, x3⟩ := sectionsSent_recent (courseKey chan course) (chan - 1) p (dlSections s chan course c r) bytes a (advanceToAir s b)
  refine ⟨x, hx, x1, x2, fun f hf => ?_⟩
  rw [x3] at hf
  obtain ⟨f1, e, he, q, f2⟩ := sectionFrames_mem hf
  obtain ⟨k, hk, rfl⟩ := List.mem_map.mp he
  refine ⟨f1.trans (ruAddress_congr (advanceToAir_dict ..) (hA.1 .blobs (by decide)) ..), k, q, List.mem_range.mp hk, f2.trans ?_⟩
  rw [eaxc_congr (fun k => hA.2 k List.not_mem_nil)]

/-! ## The close of an uplink window -/

/-- The instant at which the window of an uplink symbol closes. -/
def closeInstant (s : State) (n symbol : Nat) (c : Course) : Int :=
  c.slotAir + s.symbolStart n (s.slotInSubframe n c.slotAir) (symbol + 1) + s.obj (O.ulWinClose n) * airNs

/-- The state in which the reason why a symbol did not come is noted, where the carrier's ports are down. -/
def downNoted (key n symbol : Nat) (c : Course) (u : State) : State :=
  if portsDown u n = true then causeAt key 5 (symbolRecs u key c symbol) u else u

/-- The state in which what has not come of a symbol is marked. -/
def windowMarked (key n symbol : Nat) (c : Course) (u : State) : State :=
  (downNoted key n symbol c u).onCourse key fun d =>
    { dropPartial (downNoted key n symbol c u) key symbol d with unsent := setBit d.unsent symbol true }

theorem dropPartial_keeps (s : State) (key l : Nat) (c : Course) : (dropPartial s key l c).sent = c.sent := by
  have hf {f : Course → Nat → Course} (hf : ∀ c q, (f c q).sent = c.sent) (qs : List Nat) (c : Course) : (qs.foldl f c).sent = c.sent := by
    induction qs generalizing c with
    | nil => rfl
    | cons q qs ih => exact (ih _).trans (hf c q)
  unfold dropPartial
  dsimp only
  split
  · rfl
  · refine hf (fun c q => ?_) _ _
    split <;> rfl

theorem downNoted_course {key n : Nat} (h : s.course key = some c) :
    ∃ causes, (downNoted key n symbol c s).course key = some { c with causes := causes } := by
  unfold downNoted
  split
  · exact ⟨_, onCourse_found h _⟩
  · exact ⟨_, h⟩

theorem downNoted_leaves (key n symbol : Nat) (c : Course) (s : State) {ks : List Nat} : Leaves s (downNoted key n symbol c s) [.pipe] ks :=
  Leaves.ite _ (causeAt_leaves _ _ _ _) (Leaves.refl ..)

theorem windowMarked_course {key n : Nat} (h : s.course key = some c) : ∃ c', (windowMarked key n symbol c s).course key = some c'
    ∧ c'.sent = c.sent ∧ c'.unsent = setBit c.unsent symbol true := by
  obtain ⟨causes, hc⟩ := downNoted_course (symbol := symbol) (n := n) h
  exact ⟨_, onCourse_found hc _, dropPartial_keeps .., rfl⟩

theorem ulWindowClose_closes (h : CplaneDue s chan course 1 c) (hs : symbol < 14) : exec (.ulWindowClose chan course symbol) s
    = .next (if bitOf c.sent symbol = true then resettle (advanceToAir s (closeInstant s (chan - 1) symbol c))
        else resettle (windowMarked (courseKey chan course) (chan - 1) symbol c (advanceToAir s (closeInstant s (chan - 1) symbol c)))) := by
  obtain ⟨h1, h64, hc, hd, hx, hj, ho⟩ := h
  show execUlWindowClose chan course symbol s = _
  unfold execUlWindowClose
  rw [if_neg (by simp; omega)]
  dsimp only
  rw [hc]
  dsimp only
  rw [if_neg (by simp [hd, hx, hj, ho])]
  by_cases hb : bitOf c.sent symbol = true
  · rw [if_pos hb, if_pos hb, closeInstant]
  · rw [if_neg hb, if_neg hb]
    rfl

/-- What a window's close marks stays through what follows. -/
theorem resettled_marks {key : Nat} {u : State} {c' : Course} (h : u.course key = some c') :
    ∃ d, (resettle u).course key = some d ∧ d.sent = c'.sent ∧ d.unsent = c'.unsent := by
  obtain ⟨d, h1, h2⟩ := (resettle_keeps u).found h
  have hf {α : Type} (g : Course → α) : g (courseCore d) = g (courseCore c') := congrArg g h2
  exact ⟨d, h1, hf Course.sent, hf Course.unsent⟩

theorem ulWindowClose_marks (h : CplaneDue s chan course 1 c) (hs : symbol < 14) : ∃ t, exec (.ulWindowClose chan course symbol) s = .next t
    ∧ (∃ c', t.course (courseKey chan course) = some c' ∧ c'.sent = c.sent
        ∧ c'.unsent = if bitOf c.sent symbol then c.unsent else setBit c.unsent symbol true)
    ∧ SameBut s t (.dict :: .kiln :: .link :: .pipe :: .sched :: .svc :: timeParts) := by
  have hA := Leaves.advanceToAir s (closeInstant s (chan - 1) symbol c) (ps := timeParts) (ks := []) fun _ h => h
  have hc : (advanceToAir s (closeInstant s (chan - 1) symbol c)).course (courseKey chan course) = some c := (advanceToAir_course ..).trans h.found
  refine ⟨_, ulWindowClose_closes h hs, ?_, ?_⟩
  · split
    · exact resettled_marks hc
    · obtain ⟨c', h1, h2, h3⟩ := windowMarked_course (symbol := symbol) (n := chan - 1) hc
      obtain ⟨d, d1, d2, d3⟩ := resettled_marks h1
      exact ⟨d, d1, d2.trans h2, d3.trans h3⟩
  · split
    · exact SameBut.trans (SameBut.mono hA.1 (by decide)) (SameBut.mono (resettle_same _) (by decide))
    · have hW : Leaves (advanceToAir s (closeInstant s (chan - 1) symbol c))
          (windowMarked (courseKey chan course) (chan - 1) symbol c (advanceToAir s (closeInstant s (chan - 1) symbol c))) [.pipe] [] :=
        Leaves.trans (downNoted_leaves ..) (Leaves.onCourse _ _ _ (by decide))
      exact SameBut.trans (SameBut.mono hA.1 (by decide)) (SameBut.trans (SameBut.mono hW.1 (by decide)) (SameBut.mono (resettle_same _) (by decide)))

end

end Sys2Proof.Machine
open Sys2Proof Sys2Proof.Machine Sys2Proof.Safety

/-- Settles O28: time's passing leaves a course, its carrier and the guard's copy as the launch's conditions name them. -/
theorem courseEgress : Obligations.CourseEgress := by
  unfold Obligations.CourseEgress
  refine ⟨?_, fun chan course symbol k bytes power c s h hr hs => uplaneLaunch_blanks h hr hs bytes power,
    fun chan course symbol k c s h hw => upTxLate_gone h hw, fun chan course symbol k c s h hw hp => upTxLate_expires h hw hp, ?_, ?_,
    fun chan course symbol c s h1 h64 hs hc hd hx hj ho => ulWindowClose_marks ⟨h1, h64, hc, hd, hx, hj, ho⟩ hs⟩
  · intro chan course symbol k bytes tag power c o g s h hfd hr hs hm hw hp hl ho hop hoe hg hc hsy hpw hlate
    obtain ⟨-, -, -, -, hco, -⟩ := id h
    obtain ⟨t, frames, ht, hdoes⟩ := symbolGone_does (symbol := symbol) (k := k) hco bytes power hp
    exact ⟨t, frames, ht ▸ uplaneLaunch_goes h hfd hr hs hm hw hp hl ho hop hoe hg hc hsy hpw hlate, hdoes⟩
  · intro chan course rec bytes c r s h1 h64 hc hd hx hj ho hr hf hp hl hfd hh
    have hlen : (dlSections s chan course c r).length = s.nat (O.dlPorts (chan - 1)) := by rw [dlSections, List.length_map, List.length_range]
    refine ⟨_, dlCplaneSend_sends ⟨h1, h64, hc, hd, hx, hj, ho⟩ ⟨hp, hl, hfd, hh⟩ hr hf bytes, ?_⟩
    obtain ⟨f1, f2, f3, f4⟩ := sectionsSent_frame s (firstInstant s chan course c r) (firstInstant s chan course c r - s.obj (O.cpAdvDl (chan - 1)) * airNs)
      (courseKey chan course) (chan - 1) (s.nat (O.activePort (chan - 1))) (dlSections s chan course c r) bytes
    rw [hlen] at f2 f3
    exact ⟨f2, f3, f4, dlSections_frames .., f1⟩
  · intro chan course bytes c s h1 h64 hc hd hx hj ho hp hl hfd hh
    refine ⟨_, ulCplaneSend_sends ⟨h1, h64, hc, hd, hx, hj, ho⟩ ⟨hp, hl, hfd, hh⟩ bytes, ?_⟩
    obtain ⟨f1, f2, -⟩ := sectionsSent_frame s c.slotAir (ulInstant s chan c) (courseKey chan course) (chan - 1) (s.nat (O.activePort (chan - 1)))
      (ulSections (advanceToAir s (ulInstant s chan c)) chan course c) bytes
    rw [ulSections_length, advanceToAir_nat] at f2
    exact ⟨f2, f1⟩
end

section
/-! SUPPORT. The decision of a ready list and the dispatch of the instance that it takes (13 R438 to R444, R449). -/
namespace Sys2Proof.Machine
open Sys2Proof.Safety

/-! ## Candidates stand in the scheduler -/

theorem mem_insertOp {e x : Nat × Op} {l : List (Nat × Op)} (h : x ∈ insertOp e l) : x = e ∨ x ∈ l := by
  induction l with
  | nil => exact .inl (List.mem_singleton.mp h)
  | cons y l ih =>
    unfold insertOp at h
    split at h
    · exact List.mem_cons.mp h
    · rcases List.mem_cons.mp h with rfl | h
      · exact .inr List.mem_cons_self
      · exact (ih h).imp_right (List.mem_cons_of_mem _)

theorem mem_of_mem_sorted {x : Nat × Op} {l : List (Nat × Op)} (h : x ∈ l.foldr insertOp []) : x ∈ l := by
  induction l with
  | nil => exact h
  | cons e l ih =>
    rcases mem_insertOp h with rfl | h
    · exact List.mem_cons_self
    · exact List.mem_cons_of_mem _ (ih h)

theorem mem_ops_of_mem_readyList {s : State} {o : Op} {x : Nat × Op} (h : x ∈ readyList s o) : x ∈ s.sched.ops :=
  List.mem_of_mem_filter (mem_of_mem_sorted h)

theorem mem_of_mem_byScore {f : Nat × Op → Nat} {l : List (Nat × Op)} {x : Nat × Op} (h : x ∈ byScore f l) : x ∈ l := by
  obtain ⟨k, -, hk⟩ := List.mem_flatMap.mp h
  exact List.mem_of_mem_filter hk

theorem mem_readyList_of_mem_candidatesFor {s : State} {o : Op} {unit : Nat} {x : Nat × Op} (h : x ∈ candidatesFor s o unit) :
    x ∈ readyList s o := by
  unfold candidatesFor at h
  have ho := List.mem_of_mem_take h
  dsimp only at ho
  split at ho
  · rcases List.mem_append.mp ho with ho | ho
    · rcases List.mem_append.mp ho with ho | ho
      · exact List.mem_of_mem_filter (List.mem_of_mem_filter ho)
      · have hf := mem_of_mem_byScore ho
        exact List.mem_of_mem_filter (List.mem_of_mem_filter (List.mem_of_mem_filter (List.mem_of_mem_take hf)))
    · exact List.mem_of_mem_filter (List.mem_of_mem_filter (List.mem_of_mem_filter ho))
  · exact List.mem_of_mem_filter ho

theorem find_isSome_of_mem {α : Type} {m : Store α} {e : Nat × α} (h : e ∈ m) : (Store.find m e.1).isSome = true := by
  induction m with
  | nil => exact absurd h List.not_mem_nil
  | cons x m ih =>
    unfold Store.find
    split
    · rfl
    · next hne =>
      rcases List.mem_cons.mp h with rfl | h
      · exact absurd rfl hne
      · exact ih h

theorem candidate_op {s : State} {o : Op} {unit : Nat} {e : Nat × Op} (h : e ∈ candidatesFor s o unit) : (s.op e.1).isSome = true :=
  find_isSome_of_mem (mem_ops_of_mem_readyList (mem_readyList_of_mem_candidatesFor h))

/-! ## Candidates that fail -/

/-- The objects that a failed reservation touches. -/
def failKeys : List Nat := [O.reserveFails, O.p0Holds, O.traceWritten, O.traceLost]

/-- The state in which a failed reservation is counted and traced. -/
def failTraced (tag code k : Nat) (o : Op) (s : State) : State := traceOp 10 tag o code 0 k (s.bump O.reserveFails 1)

theorem failTraced_leaves (tag code k : Nat) (o : Op) (s : State) :
    Leaves s (failTraced tag code k o s) [.dict, .sched] [O.reserveFails, O.traceWritten, O.traceLost] :=
  Leaves.trans (Leaves.bump _ _ _ (by decide) (by decide)) (Leaves.mono (traceOp_leaves ..) (by decide) (by decide))

theorem traceOp_ops (e tag : Nat) (o : Op) (a b c : Nat) (s : State) : (traceOp e tag o a b c s).sched.ops = s.sched.ops := by
  obtain ⟨l, hl⟩ := traceOp_sched e tag o a b c s
  rw [hl]

theorem failTraced_counted (tag code k : Nat) (o : Op) (s : State) : Counted s (failTraced tag code k o s) O.reserveFails 1 :=
  ((traceOp_leaves ..).2 _ (by decide)).trans (State.obj_bump_same ..)

/-- The state in which a failed reservation has also begun the P0 hold. -/
def failHolds (tag code k : Nat) (o : Op) (s : State) : State :=
  { (failTraced tag code k o s).bump O.p0Holds 1 with sched := { (failTraced tag code k o s).sched with hold := some tag } }

theorem failReserve_cases {tag : Nat} {o : Op} {s : State} (h : s.op tag = some o) (code k : Nat) :
    failReserve tag code k s = failHolds tag code k o s ∨ failReserve tag code k s = failTraced tag code k o s := by
  unfold failReserve
  rw [h]
  exact ite_eq_or_eq ..

theorem failReserve_none {tag : Nat} {s : State} (h : s.op tag = none) (code k : Nat) : failReserve tag code k s = s := by
  unfold failReserve
  rw [h]

theorem failHolds_leaves (tag code k : Nat) (o : Op) (s : State) :
    Leaves (failTraced tag code k o s) (failHolds tag code k o s) [.dict, .sched] [O.p0Holds] :=
  Leaves.trans (Leaves.bump _ _ _ (by decide) (by decide)) (Leaves.setSched _ _ (by decide))

theorem failReserve_leaves (tag code k : Nat) (s : State) : Leaves s (failReserve tag code k s) [.dict, .sched] failKeys := by
  cases h : s.op tag with
  | none =>
    rw [failReserve_none h]
    exact Leaves.refl ..
  | some o =>
    have hT := Leaves.mono (failTraced_leaves tag code k o s) (fun _ h => h) (qs := [.dict, .sched]) (ls := failKeys) (by decide)
    rcases failReserve_cases h code k with he | he <;> rw [he]
    · exact Leaves.trans hT (Leaves.mono (failHolds_leaves ..) (by decide) (by decide))
    · exact hT

theorem failReserve_ops (tag code k : Nat) (s : State) : (failReserve tag code k s).sched.ops = s.sched.ops := by
  cases h : s.op tag with
  | none => rw [failReserve_none h]
  | some o =>
    have hT : (failTraced tag code k o s).sched.ops = s.sched.ops := traceOp_ops ..
    rcases failReserve_cases h code k with he | he <;> rw [he]
    · exact hT
    · exact hT

theorem failReserve_counted {tag : Nat} {s : State} (h : (s.op tag).isSome = true) (code k : Nat) :
    Counted s (failReserve tag code k s) O.reserveFails 1 := by
  obtain ⟨o, ho⟩ := Option.isSome_iff_exists.mp h
  rcases failReserve_cases ho code k with he | he <;> rw [he]
  · exact ((failHolds_leaves ..).2 _ (by decide)).trans (failTraced_counted ..)
  · exact failTraced_counted ..

/-! ## Decisions -/

theorem decision_ok {s : State} {unit k : Nat} {e : Nat × Op} {r : Reserved} (h : reserve s e.1 e.2 unit = .ok r) (l : List (Nat × Op)) :
    decision unit k (e :: l) s = (s, some (e.1, k, r)) := by rw [decision, h]

theorem decision_error {s : State} {unit k c : Nat} {e : Nat × Op} (h : reserve s e.1 e.2 unit = .error c) (l : List (Nat × Op)) :
    decision unit k (e :: l) s = decision unit (k + 1) l (failReserve e.1 c k s) := by rw [decision, h]

theorem decision_leaves (unit : Nat) (l : List (Nat × Op)) (k : Nat) (s : State) : Leaves s (decision unit k l s).1 [.dict, .sched] failKeys := by
  induction l generalizing k s with
  | nil => exact Leaves.refl ..
  | cons e l ih =>
    cases h : reserve s e.1 e.2 unit with
    | ok r =>
      rw [decision_ok h]
      exact Leaves.refl ..
    | error c =>
      rw [decision_error h]
      exact Leaves.trans (failReserve_leaves ..) (ih _ _)

theorem decision_ops (unit : Nat) (l : List (Nat × Op)) (k : Nat) (s : State) : (decision unit k l s).1.sched.ops = s.sched.ops := by
  induction l generalizing k s with
  | nil => rfl
  | cons e l ih =>
    cases h : reserve s e.1 e.2 unit with
    | ok r => rw [decision_ok h]
    | error c =>
      rw [decision_error h, ih]
      exact failReserve_ops ..

/-- A decision that takes none has counted each of its candidates. -/
theorem decision_counted (unit : Nat) (e : Nat × Op) (l : List (Nat × Op)) (k : Nat) (s : State)
    (hl : ∀ x ∈ e :: l, (s.op x.1).isSome = true) (h : (decision unit k (e :: l) s).2 = none) :
    Counted s (decision unit k (e :: l) s).1 O.reserveFails (e :: l).length := by
  cases hr : reserve s e.1 e.2 unit with
  | ok r =>
    rw [decision_ok hr] at h
    exact absurd h nofun
  | error c =>
    rw [decision_error hr] at h ⊢
    have h1 := failReserve_counted (hl e List.mem_cons_self) c k
    induction l generalizing e k s c with
    | nil => exact h1
    | cons f l ih =>
      have hl' : ∀ x ∈ f :: l, ((failReserve e.1 c k s).op x.1).isSome = true := fun x hx => by
        rw [op_congr (failReserve_ops ..)]
        exact hl x (List.mem_cons_of_mem _ hx)
      cases hf : reserve (failReserve e.1 c k s) f.1 f.2 unit with
      | ok r =>
        rw [decision_ok hf] at h
        exact absurd h nofun
      | error c' =>
        rw [decision_error hf] at h ⊢
        have h2 := ih f (k + 1) (failReserve e.1 c k s) hl' c' h hf (failReserve_counted (hl' f List.mem_cons_self) c' (k + 1))
        have h3 := Counted.add h1 h2
        rw [Nat.add_comm 1] at h3
        exact h3

/-! ## The dispatch command -/

theorem dispatch_decides {tag unit : Nat} {o : Op} {s : State} (h : s.op tag = some o) (hr : o.state = .ready) (hold : o.old = false)
    (hd : o.id.kind = .dec → harqHeld s o = false) (hu : unit ∈ unitsFor s o) (hf : unitFree s o.cls unit = true)
    (ht : unitTaken s o = some unit) : exec (.dispatch tag unit) s
      = match (decision unit 0 (candidatesFor s o unit) s).2 with
        | none => .next (decision unit 0 (candidatesFor s o unit) s).1
        | some (tag', k, r) => if tag' = tag then .next (dispatchOp tag unit k o r (decision unit 0 (candidatesFor s o unit) s).1) else .next s := by
  show execDispatch tag unit s = _
  have hg : (o.state != .ready || o.old || !(unitsFor s o).contains unit || (o.id.kind == .dec && harqHeld s o)) = false := by
    have hk : (o.id.kind == .dec && harqHeld s o) = false := by
      by_cases hk : o.id.kind = .dec
      · rw [hd hk, Bool.and_false]
      · rw [beq_false_of_ne hk, Bool.false_and]
    rw [hr, hold, hk, List.contains_iff_mem.mpr hu]
    rfl
  have hg2 : (!(if unitFree s o.cls unit then unitTaken s o == some unit else (freeUnits s o).isEmpty && mayBeNext s o unit)) = false := by
    rw [if_pos hf, ht, beq_self_eq_true]
    rfl
  unfold execDispatch
  rw [h]
  dsimp only
  rw [hg, if_neg Bool.false_ne_true, hg2, if_neg Bool.false_ne_true] <;> rfl

theorem dispatch_takes {tag unit k : Nat} {o : Op} {r : Reserved} {s d : State} (h : s.op tag = some o) (hr : o.state = .ready)
    (hold : o.old = false) (hd : o.id.kind = .dec → harqHeld s o = false) (hu : unit ∈ unitsFor s o) (hf : unitFree s o.cls unit = true)
    (ht : unitTaken s o = some unit) (hx : decision unit 0 (candidatesFor s o unit) s = (d, some (tag, k, r))) :
    exec (.dispatch tag unit) s = .next (dispatchOp tag unit k o r d) := by
  rw [dispatch_decides h hr hold hd hu hf ht, hx]
  exact if_pos rfl

theorem dispatch_none {tag unit : Nat} {o : Op} {s d : State} (h : s.op tag = some o) (hr : o.state = .ready)
    (hold : o.old = false) (hd : o.id.kind = .dec → harqHeld s o = false) (hu : unit ∈ unitsFor s o) (hf : unitFree s o.cls unit = true)
    (ht : unitTaken s o = some unit) (hx : decision unit 0 (candidatesFor s o unit) s = (d, none)) :
    exec (.dispatch tag unit) s = .next d := by rw [dispatch_decides h hr hold hd hu hf ht, hx]

theorem dispatch_notReady {tag : Nat} {o : Op} {s : State} (h : s.op tag = some o) (hr : o.state ≠ .ready) (unit : Nat) :
    exec (.dispatch tag unit) s = .next s := by
  show execDispatch tag unit s = _
  unfold execDispatch
  rw [h]
  exact if_pos (by simp [hr])

/-! ## The instance that is dispatched -/

/-- An instance as its dispatch to a unit with what it reserved leaves it. -/
def Op.dispatchedTo (o : Op) (unit : Nat) (r : Reserved) (s : State) : Op :=
  { o with state := if o.cls = 0 then .dispatched else .running, unit := unit, start := s.airNow
           places := r.places, own := r.own, common := r.common, stage := r.stage, fused := r.fused, next := false
           params := if o.cls = 0 then [s.nat O.fusedEnS, s.nat O.fusedEnK]
             else [s.nat O.detMode, s.nat O.detPrbGroup, s.nat O.precBackoff, s.nat O.prachThreshold] }

/-- The state in which an instance is counted and stands as dispatched. -/
def dispatchStands (tag : Nat) (o : Op) (s : State) : State := (s.bump O.dispatches 1).onOp tag fun _ => o

/-- The state in which the P0 hold that an instance began has ended with its dispatch. -/
def dispatchHold (tag : Nat) (s : State) : State := if s.sched.hold == some tag then { s with sched := { s.sched with hold := none } } else s

/-- The state in which a dispatch is traced, before the unit begins. -/
def dispatchTaken (tag k : Nat) (o : Op) (s : State) : State := traceOp 2 tag o 0 o.pallets k (dispatchHold tag (dispatchStands tag o s))

theorem dispatchOp_eq {tag unit k : Nat} {o : Op} {s : State} (hf : unitFree s o.cls unit = true) (r : Reserved) :
    dispatchOp tag unit k o r s = if o.cls = 0 then dispatchTaken tag k (o.dispatchedTo unit r s) s
      else traceOp 3 tag (o.dispatchedTo unit r s) 0 0 0 (beginOn tag (o.dispatchedTo unit r s) (dispatchTaken tag k (o.dispatchedTo unit r s) s)) := by
  have hn : (o.cls == 0 && !unitFree s 0 unit) = false := by
    by_cases h0 : o.cls = 0
    · rw [h0] at hf
      rw [hf, Bool.not_true, Bool.and_false]
    · rw [beq_false_of_ne h0, Bool.false_and]
  unfold dispatchOp
  dsimp only
  rw [hn]
  by_cases h0 : o.cls = 0
  · simp only [h0, beq_self_eq_true, if_true]
    unfold Op.dispatchedTo
    simp only [h0, if_true]
    rfl
  · have hb : (o.cls == 0) = false := beq_false_of_ne h0
    simp only [hb, Bool.false_eq_true, if_false]
    unfold Op.dispatchedTo
    simp only [h0, if_false]
    rfl

theorem dispatchStands_op {tag : Nat} {p : Op} {s : State} (h : s.op tag = some p) (o : Op) (u : Nat) :
    (dispatchStands tag o s).op u = if u = tag then some o else s.op u := by
  have hb : (s.bump O.dispatches 1).op tag = some p := h
  rw [dispatchStands, onOp_op, hb]
  rfl

theorem dispatchHold_ops (tag : Nat) (s : State) : (dispatchHold tag s).sched.ops = s.sched.ops := by
  unfold dispatchHold
  split
  · rfl
  · rfl

theorem dispatchTaken_op {tag : Nat} {p : Op} {s : State} (h : s.op tag = some p) (o : Op) (k u : Nat) :
    (dispatchTaken tag k o s).op u = if u = tag then some o else s.op u := by
  rw [dispatchTaken, traceOp_op, op_congr (dispatchHold_ops ..), dispatchStands_op h]

theorem dispatchHold_leaves (tag : Nat) (s : State) {ks : List Nat} : Leaves s (dispatchHold tag s) [.sched] ks :=
  Leaves.ite _ (Leaves.setSched _ _ (by decide)) (Leaves.refl ..)

/-- What follows the count of a dispatch and its instance, before the unit begins. -/
theorem dispatchTaken_leaves_bumped (tag k : Nat) (o : Op) (s : State) :
    Leaves (s.bump O.dispatches 1) (dispatchTaken tag k o s) [.dict, .sched] traceKeys :=
  Leaves.trans (Leaves.onOp _ _ _ (by decide)) (Leaves.trans (Leaves.mono (dispatchHold_leaves tag _ (ks := [])) (by decide) nofun) (traceOp_leaves ..))

theorem dispatchTaken_counted (tag k : Nat) (o : Op) (s : State) : Counted s (dispatchTaken tag k o s) O.dispatches 1 :=
  ((dispatchTaken_leaves_bumped tag k o s).2 _ (by decide)).trans (State.obj_bump_same ..)

theorem dispatchTaken_leaves (tag k : Nat) (o : Op) (s : State) :
    Leaves s (dispatchTaken tag k o s) [.dict, .sched] [O.dispatches, O.traceWritten, O.traceLost] :=
  Leaves.trans (Leaves.bump _ _ _ (by decide) (by decide)) (Leaves.mono (dispatchTaken_leaves_bumped tag k o s) (by decide) (by decide))

/-! ## What the unit begins -/

/-- The objects that the start of an operation touches. -/
def beginKeys : List Nat := [O.restarts, O.runaheadRestarts, O.badJobs, O.decJobs, O.polarDecJobs, O.traceWritten, O.traceLost]

/-- What the start of an instance on its unit changes. -/
structure Begins (tag : Nat) (o : Op) (s t : State) : Prop where
  op : ∃ e b, t.op tag = some { o with ended := e, data := b }
    ∧ ((e = o.ended ∧ b = o.data) ∨ (o.cls = 1 ∧ e = some .dataLost ∧ Counted s t O.badJobs 1))
  others : ∀ u, u ≠ tag → t.op u = s.op u
  kiln : o.cls ≠ 1 → t.kiln = s.kiln
  fetch : o.cls ≠ 5 → t.hod = s.hod ∧ t.mem = s.mem
  leaves : Leaves s t [.dict, .hod, .kiln, .mem, .sched] beginKeys

/-- What leaves every instance as it was begins no job that ends at once. -/
theorem Begins.of_ops {tag : Nat} {o : Op} {s t : State} (h : s.op tag = some o) (ho : ∀ u, t.op u = s.op u) (hk : o.cls ≠ 1 → t.kiln = s.kiln)
    (hf : o.cls ≠ 5 → t.hod = s.hod ∧ t.mem = s.mem) (hl : Leaves s t [.dict, .hod, .kiln, .mem, .sched] beginKeys) : Begins tag o s t :=
  ⟨⟨o.ended, o.data, (ho tag).trans h, .inl ⟨rfl, rfl⟩⟩, fun u _ => ho u, hk, hf, hl⟩

/-- A restart of a decode job. -/
def jobRestarted (tag : Nat) (o : Op) (s : State) : State :=
  traceOp 13 tag o 0 0 0 (restartJob tag ((s.bump O.restarts 1).bump O.runaheadRestarts 1))

theorem jobRestarted_leaves (tag : Nat) (o : Op) (s : State) : Leaves s (jobRestarted tag o s) [.dict, .kiln, .sched] beginKeys :=
  Leaves.trans (Leaves.bump _ _ _ (by decide) (by decide)) (Leaves.trans (Leaves.bump _ _ _ (by decide) (by decide))
    (Leaves.trans (Leaves.onKiln _ _ _ (by decide)) (Leaves.mono (traceOp_leaves ..) (by decide) (by decide))))

theorem jobRestarted_op (tag : Nat) (o : Op) (s : State) (u : Nat) : (jobRestarted tag o s).op u = s.op u := by
  rw [jobRestarted, traceOp_op]
  exact onKiln_op _ _ _ _

/-- The state in which the kiln has taken a new job. -/
def jobTaken (tag : Nat) (j : Job) (s : State) : State := { s with kiln := { s.kiln with jobs := Store.put s.kiln.jobs tag j } }

/-- The state in which a job that the kiln refuses is counted. -/
def jobRefused (tag : Nat) (j : Job) (s : State) : State :=
  countJob j.kind 3 (((jobTaken tag j s).blockEnds j id).onKiln tag fun _ => { j with status := some 3 })

theorem jobRefused_leaves (tag : Nat) (j : Job) (s : State) : Leaves s (jobRefused tag j s) [.dict, .kiln] beginKeys :=
  Leaves.trans (Leaves.setKiln _ _ (by decide)) (Leaves.trans (Leaves.mono (blockEnds_leaves _ _ _ (ks := [])) (by decide) nofun)
    (Leaves.trans (Leaves.onKiln _ _ _ (by decide)) (Leaves.trans
      (Leaves.ite _ (Leaves.bump _ _ _ (by decide) (by decide)) (Leaves.bump _ _ _ (by decide) (by decide)))
      (Leaves.bump _ _ _ (by decide) (by decide)))))

theorem countJob_bad_counted (kind : Nat) (s : State) : Counted s (countJob kind 3 s) O.badJobs 1 := by
  refine Counted.of_obj (s' := if isPolar kind then s.bump O.polarDecJobs 1 else s.bump O.decJobs 1) ?_ (State.obj_bump_same ..)
  split
  · exact State.obj_bump_ne _ _ _ _ (by decide)
  · exact State.obj_bump_ne _ _ _ _ (by decide)

theorem jobRefused_counted (tag : Nat) (j : Job) (s : State) : Counted s (jobRefused tag j s) O.badJobs 1 :=
  Counted.of_obj ((State.onKiln_obj ..).trans ((blockEnds_leaves (jobTaken tag j s) j id (ks := [])).2 _ List.not_mem_nil))
    (countJob_bad_counted ..)

theorem jobRefused_op (tag : Nat) (j : Job) (s : State) (u : Nat) : (jobRefused tag j s).op u = s.op u :=
  op_congr (congrArg Sched.ops ((jobRefused_leaves tag j s).1 .sched (by decide))) u

theorem jobDone_bad {tag : Nat} {o : Op} {s : State} (h : s.op tag = some o) (j : Job) :
    jobDone tag 3 j ((jobTaken tag j s).blockEnds j id)
      = (jobRefused tag j s).onOp tag fun o => { o with ended := some .dataLost, data := j.outputs tag 3 o } := by
  have hb : (jobRefused tag j s).op tag = some o := (jobRefused_op ..).trans h
  unfold jobDone
  dsimp only
  rw [← jobRefused, hb]
  rfl

theorem jobDone_bad_begins {tag : Nat} {o : Op} {s : State} (h : s.op tag = some o) (hc : o.cls = 1) (j : Job) :
    Begins tag o s (jobDone tag 3 j ((jobTaken tag j s).blockEnds j id)) := by
  rw [jobDone_bad h]
  have hL := jobRefused_leaves tag j s
  have hA : Leaves s ((jobRefused tag j s).onOp tag fun o => { o with ended := some .dataLost, data := j.outputs tag 3 o })
      [.dict, .kiln, .sched] beginKeys := Leaves.trans (Leaves.mono hL (by decide) fun _ h => h) (Leaves.onOp _ _ _ (by decide))
  have hO (u : Nat) := onOp_op (jobRefused tag j s) tag (fun o => { o with ended := some .dataLost, data := j.outputs tag 3 o }) u
  refine ⟨⟨some .dataLost, j.outputs tag 3 o, ?_, .inr ⟨hc, rfl, ?_⟩⟩, fun u hu => ?_, fun hn => absurd hc hn, fun _ => ?_, ?_⟩
  · rw [hO, if_pos rfl, jobRefused_op, h]
    rfl
  · exact (State.onOp_obj ..).trans (jobRefused_counted ..)
  · rw [hO, if_neg hu, jobRefused_op]
  · exact ⟨hA.1 .hod (by decide), hA.1 .mem (by decide)⟩
  · exact Leaves.mono hA (by decide) fun _ h => h

theorem beginDecode_begins {tag : Nat} {o : Op} {s : State} (h : s.op tag = some o) (hc : o.cls = 1) : Begins tag o s (beginOn tag o s) := by
  have hif : (o.cls == 1) = true := by rw [hc]; rfl
  unfold beginOn
  rw [if_pos hif]
  split
  · have hl := jobRestarted_leaves tag o s
    exact Begins.of_ops h (jobRestarted_op tag o s) (fun hn => absurd hc hn) (fun _ => ⟨hl.1 .hod (by decide), hl.1 .mem (by decide)⟩)
      (Leaves.mono hl (by decide) fun _ h => h)
  · split
    · dsimp only
      split
      · exact jobDone_bad_begins h hc _
      · exact Begins.of_ops h (fun _ => rfl) (fun hn => absurd hc hn) (fun _ => ⟨rfl, rfl⟩) (Leaves.setKiln _ _ (by decide))
    · exact Begins.of_ops h (fun _ => rfl) (fun hn => absurd hc hn) (fun _ => ⟨rfl, rfl⟩) (Leaves.refl ..)

theorem beginFetch_leaves (tag : Nat) (o : Op) (s : State) {ks : List Nat} : Leaves s (beginFetch tag o s) [.hod, .mem] ks := by
  unfold beginFetch
  dsimp only
  exact Leaves.of_dict (fun p hp => by cases p <;> simp_all [Part.same]) rfl

theorem beginOn_begins {tag : Nat} {o : Op} {s : State} (h : s.op tag = some o) : Begins tag o s (beginOn tag o s) := by
  by_cases h1 : o.cls = 1
  · exact beginDecode_begins h h1
  · by_cases h5 : o.cls = 5
    · have he : beginOn tag o s = beginFetch tag o s := by
        unfold beginOn
        rw [if_neg (by simpa using h1), if_pos (by simpa using h5)]
      have hl := beginFetch_leaves tag o s (ks := [])
      rw [he]
      exact Begins.of_ops h (op_congr (congrArg Sched.ops (hl.1 .sched (by decide)))) (fun _ => hl.1 .kiln (by decide)) (fun hn => absurd h5 hn)
        (Leaves.mono hl (by decide) nofun)
    · have he : beginOn tag o s = s := by
        unfold beginOn
        rw [if_neg (by simpa using h1), if_neg (by simpa using h5)]
      rw [he]
      exact Begins.of_ops h (fun _ => rfl) (fun _ => rfl) (fun _ => ⟨rfl, rfl⟩) (Leaves.refl ..)

theorem Begins.traced {tag : Nat} {o : Op} {s t : State} (h : Begins tag o s t) (e : Nat) : Begins tag o s (traceOp e tag o 0 0 0 t) := by
  obtain ⟨⟨x, b, ho, hx⟩, hu, hk, hf, hl⟩ := h
  have hT := traceOp_leaves e tag o 0 0 0 t
  refine ⟨⟨x, b, (traceOp_op ..).trans ho, hx.imp_right fun ⟨h1, h2, h3⟩ => ⟨h1, h2, (hT.2 _ (by decide)).trans h3⟩⟩,
    fun u hn => (traceOp_op ..).trans (hu u hn), fun hn => (hT.1 .kiln (by decide)).trans (hk hn),
    fun hn => ⟨(hT.1 .hod (by decide)).trans (hf hn).1, (hT.1 .mem (by decide)).trans (hf hn).2⟩,
    Leaves.trans hl (Leaves.mono hT (by decide) (by decide))⟩

/-! ## The dispatch as a whole -/

/-- The objects that a dispatch touches after its decision. -/
def dispatchKeys : List Nat := O.dispatches :: beginKeys

/-- What a dispatch leaves: the state before, the count of the dispatch, and the start on the unit. -/
theorem dispatchOp_does {tag unit k : Nat} {o : Op} {s : State} (h : s.op tag = some o) (hf : unitFree s o.cls unit = true) (r : Reserved) :
    ∃ m, Leaves s m [.dict, .sched] [O.dispatches, O.traceWritten, O.traceLost] ∧ Counted s m O.dispatches 1
      ∧ (∀ u, u ≠ tag → m.op u = s.op u) ∧ Begins tag (o.dispatchedTo unit r s) m (dispatchOp tag unit k o r s) := by
  refine ⟨dispatchTaken tag k (o.dispatchedTo unit r s) s, dispatchTaken_leaves .., dispatchTaken_counted .., fun u hu => ?_, ?_⟩
  · rw [dispatchTaken_op h, if_neg hu]
  · have hop : (dispatchTaken tag k (o.dispatchedTo unit r s) s).op tag = some (o.dispatchedTo unit r s) := by rw [dispatchTaken_op h, if_pos rfl]
    rw [dispatchOp_eq hf]
    split
    · exact Begins.of_ops hop (fun _ => rfl) (fun _ => rfl) (fun _ => ⟨rfl, rfl⟩) (Leaves.refl ..)
    · exact (beginOn_begins hop).traced 3

theorem dispatchedTo_congr {s t : State} (hc : t.clock = s.clock) (hd : ∀ k, k ∉ failKeys → t.obj k = s.obj k) (o : Op) (unit : Nat) (r : Reserved) :
    o.dispatchedTo unit r t = o.dispatchedTo unit r s := by
  have hn (k : Nat) (hk : k ∉ failKeys) : t.nat k = s.nat k := congrArg Int.toNat (hd k hk)
  unfold Op.dispatchedTo
  rw [airNow_congr hc, hn _ (by decide), hn _ (by decide), hn _ (by decide), hn _ (by decide), hn _ (by decide), hn _ (by decide)]

theorem unitFree_congr {s t : State} (h : t.sched.ops = s.sched.ops) (cls u : Nat) : unitFree t cls u = unitFree s cls u := by
  rw [unitFree, h, unitFree]

/-- A decision that takes an operation for a unit dispatches it with what it reserved. -/
theorem dispatch_does {tag unit k : Nat} {o : Op} {r : Reserved} {s d : State} (h : s.op tag = some o) (hr : o.state = .ready)
    (hold : o.old = false) (hd : o.id.kind = .dec → harqHeld s o = false) (hu : unit ∈ unitsFor s o) (hf : unitFree s o.cls unit = true)
    (ht : unitTaken s o = some unit) (hx : decision unit 0 (candidatesFor s o unit) s = (d, some (tag, k, r))) :
    ∃ t, exec (.dispatch tag unit) s = .next t ∧ Counted s t O.dispatches 1
      ∧ (∃ e b, t.op tag = some { o.dispatchedTo unit r s with ended := e, data := b }
          ∧ ((e = o.ended ∧ b = o.data) ∨ (o.cls = 1 ∧ e = some .dataLost ∧ Counted s t O.badJobs 1)))
      ∧ (∀ u, u ≠ tag → t.op u = s.op u)
      ∧ (o.cls ≠ 1 → t.kiln = s.kiln) ∧ (o.cls ≠ 5 → t.hod = s.hod ∧ t.mem = s.mem)
      ∧ Leaves s t [.dict, .hod, .kiln, .mem, .sched]
          [O.dispatches, O.reserveFails, O.p0Holds, O.traceWritten, O.traceLost, O.restarts, O.runaheadRestarts, O.badJobs, O.decJobs,
           O.polarDecJobs] := by
  have hD : Leaves s d [.dict, .sched] failKeys := by simpa [hx] using decision_leaves unit (candidatesFor s o unit) 0 s
  have hops : d.sched.ops = s.sched.ops := by simpa [hx] using decision_ops unit (candidatesFor s o unit) 0 s
  obtain ⟨m, hm, hmc, hmo, hb⟩ := dispatchOp_does (k := k) ((op_congr hops tag).trans h) ((unitFree_congr hops ..).trans hf) r
  rw [dispatchedTo_congr (hD.1 .clock (by decide)) hD.2] at hb
  obtain ⟨⟨e, b, ho, hx'⟩, hou, hk, hfe, hl⟩ := hb
  refine ⟨_, dispatch_takes h hr hold hd hu hf ht hx, ?_, ⟨e, b, ho, hx'.imp_right fun hb => ⟨hb.1, hb.2.1,
      Counted.of_obj ((hm.2 _ (by decide)).trans (hD.2 _ (by decide))) hb.2.2⟩⟩,
    fun u hn => (hou u hn).trans ((hmo u hn).trans (op_congr hops u)), fun hn => ?_, fun hn => ⟨?_, ?_⟩, ?_⟩
  · exact (hl.2 _ (by decide)).trans (Counted.of_obj (hD.2 _ (by decide)) hmc)
  · exact (hk hn).trans ((hm.1 .kiln (by decide)).trans (hD.1 .kiln (by decide)))
  · exact (hfe hn).1.trans ((hm.1 .hod (by decide)).trans (hD.1 .hod (by decide)))
  · exact (hfe hn).2.trans ((hm.1 .mem (by decide)).trans (hD.1 .mem (by decide)))
  · exact Leaves.trans (Leaves.mono hD (by decide) (by decide)) (Leaves.trans (Leaves.mono hm (by decide) (by decide))
      (Leaves.mono hl (by decide) (by decide)))

/-- A decision in which every reservation fails counts each candidate and dispatches none. -/
theorem dispatch_fails {tag unit : Nat} {o : Op} {s d : State} (h : s.op tag = some o) (hr : o.state = .ready)
    (hold : o.old = false) (hd : o.id.kind = .dec → harqHeld s o = false) (hu : unit ∈ unitsFor s o) (hf : unitFree s o.cls unit = true)
    (ht : unitTaken s o = some unit) (hx : decision unit 0 (candidatesFor s o unit) s = (d, none)) (hne : candidatesFor s o unit ≠ []) :
    ∃ t, exec (.dispatch tag unit) s = .next t ∧ Counted s t O.reserveFails (candidatesFor s o unit).length
      ∧ (∀ u, t.op u = s.op u) ∧ Leaves s t [.dict, .sched] [O.reserveFails, O.p0Holds, O.traceWritten, O.traceLost] := by
  have hD : Leaves s d [.dict, .sched] failKeys := by simpa [hx] using decision_leaves unit (candidatesFor s o unit) 0 s
  have hops : d.sched.ops = s.sched.ops := by simpa [hx] using decision_ops unit (candidatesFor s o unit) 0 s
  refine ⟨d, dispatch_none h hr hold hd hu hf ht hx, ?_, op_congr hops, hD⟩
  have hall : ∀ x ∈ candidatesFor s o unit, (s.op x.1).isSome = true := fun x hm => candidate_op hm
  generalize candidatesFor s o unit = l at *
  obtain ⟨e, l, rfl⟩ := List.exists_cons_of_ne_nil hne
  simpa [hx] using decision_counted unit e l 0 s hall (by rw [hx])

end Sys2Proof.Machine
end

section
/-! SUPPORT. Promotion, and the end of an operation: its publication, its fault, and its re-run (13 R438, R447, R448). -/
namespace Sys2Proof.Machine
open Sys2Proof.Safety

/-! ## Promotion -/

/-- The state in which an instance has entered class 0. -/
def promoted (tag : Nat) (o : Op) (s : State) : State :=
  traceOp 11 tag { o with prio := 0 } 0 0 0 ((s.bump O.promotions 1).onOp tag fun _ => { o with prio := 0 })

theorem promotion_next {tag : Nat} {o : Op} {s : State} (h : s.op tag = some o) (hw : o.state = .ready ∨ o.state = .waiting) (hp : o.prio ≠ 0)
    (ho : o.old = false) : exec (.promotion tag) s = .next (promoted tag o (advanceToAir s (o.ls - s.obj O.urgentLead * airNs))) := by
  have hg : ((o.state == .ready || o.state == .waiting) && o.prio != 0 && !o.old) = true := by
    rw [ho]
    simpa [hp] using hw
  show execPromotion tag s = _
  unfold execPromotion
  rw [h]
  exact if_pos hg

theorem promoted_op {tag : Nat} {p : Op} {s : State} (h : s.op tag = some p) (o : Op) (u : Nat) :
    (promoted tag o s).op u = if u = tag then some { o with prio := 0 } else s.op u := by
  have hb : (s.bump O.promotions 1).op tag = some p := h
  rw [promoted, traceOp_op, onOp_op, hb]
  rfl

theorem promoted_leaves_bumped (tag : Nat) (o : Op) (s : State) : Leaves (s.bump O.promotions 1) (promoted tag o s) [.dict, .sched] traceKeys :=
  Leaves.trans (Leaves.onOp _ _ _ (by decide)) (traceOp_leaves ..)

theorem promoted_counted (tag : Nat) (o : Op) (s : State) : Counted s (promoted tag o s) O.promotions 1 :=
  ((promoted_leaves_bumped tag o s).2 _ (by decide)).trans (State.obj_bump_same ..)

theorem promoted_leaves (tag : Nat) (o : Op) (s : State) :
    Leaves s (promoted tag o s) [.dict, .sched] [O.promotions, O.traceWritten, O.traceLost] :=
  Leaves.trans (Leaves.bump _ _ _ (by decide) (by decide)) (Leaves.mono (promoted_leaves_bumped tag o s) (by decide) (by decide))

/-- An instance that waits is promoted at its instant. -/
theorem promotion_does {tag : Nat} {o : Op} {s : State} (h : s.op tag = some o) (hw : o.state = .ready ∨ o.state = .waiting) (hp : o.prio ≠ 0)
    (ho : o.old = false) : ∃ t, exec (.promotion tag) s = .next t ∧ t.op tag = some { o with prio := 0 } ∧ (∀ u, u ≠ tag → t.op u = s.op u)
      ∧ Counted s t O.promotions 1 ∧ (Steady s → s.countOfAir (o.ls - s.obj O.urgentLead * airNs) ≤ t.clock.count)
      ∧ Leaves s t (.dict :: .sched :: timeParts) [O.promotions, O.traceWritten, O.traceLost] := by
  have hA : Leaves s (advanceToAir s (o.ls - s.obj O.urgentLead * airNs)) timeParts [] := Leaves.advanceToAir _ _ (fun _ h => h)
  have hop := promoted_op ((advanceToAir_op s (o.ls - s.obj O.urgentLead * airNs) tag).trans h) o
  have hl := promoted_leaves tag o (advanceToAir s (o.ls - s.obj O.urgentLead * airNs))
  refine ⟨_, promotion_next h hw hp ho, (hop tag).trans (if_pos rfl), fun u hu => ?_, ?_, fun hs => ?_, ?_⟩
  · rw [hop, if_neg hu, advanceToAir_op]
  · exact Counted.of_obj (hA.2 _ List.not_mem_nil) (promoted_counted ..)
  · rw [hl.1 .clock (by decide)]
    exact le_advanceTo hs _
  · exact Leaves.trans (Leaves.mono hA (by decide) nofun) (Leaves.mono hl (by decide) fun _ h => h)

/-! ## The end of an operation -/

theorem operationEnd_ended {tag : Nat} {o : Op} {s : State} {e : TaskEnd} (h : s.op tag = some o) (hr : o.state = .running) (he : o.ended = some e)
    (how : TaskEnd) : exec (.operationEnd tag how) s = .next (endOp tag e o s) := by
  show execOperationEnd tag how s = _
  unfold execOperationEnd
  rw [h]
  dsimp only
  rw [hr, he]
  rfl

/-- The state in which the end of an instance is traced. -/
def endTraced (tag : Nat) (how : TaskEnd) (o : Op) (s : State) : State := traceOp 4 tag o (endStatus s tag o how) 0 0 s

theorem endTraced_leaves (tag : Nat) (how : TaskEnd) (o : Op) (s : State) : Leaves s (endTraced tag how o s) [.dict, .sched] traceKeys :=
  traceOp_leaves ..

theorem endTraced_op (tag : Nat) (how : TaskEnd) (o : Op) (s : State) (u : Nat) : (endTraced tag how o s).op u = s.op u := traceOp_op ..

/-- An instance that has published. -/
def Op.publishedWith (valid : List Nat) (o : Op) : Op :=
  { o.trim with state := OpState.ended, published := true, valid := valid, ended := none }

/-- The state in which what an instance wrote is in memory, and its kind has published. -/
def dataPublished (tag : Nat) (o : Op) (s : State) : State := publishKind tag o { s with mem := memPutAll (endData s o) s.mem }

/-- The state in which the instance itself has published. -/
def opPublished (tag : Nat) (o : Op) (s : State) : State :=
  (dataPublished tag o s).onOp tag (Op.publishedWith (validBytes s o (endData s o)))

theorem endOp_ok {tag : Nat} {o : Op} {s : State} (hc : o.cancel = false) : ∃ u, endOp tag .ok o s = resettle u
    ∧ (∀ j, u.op j = (opPublished tag o (endTraced tag .ok o s)).op j) ∧ Leaves (opPublished tag o (endTraced tag .ok o s)) u [.dict, .sched] traceKeys := by
  unfold endOp
  dsimp only
  rw [hc, if_neg Bool.false_ne_true]
  refine ⟨_, rfl, ?_⟩
  split
  · exact ⟨traceOp_op _ _ _ _ _ _ _, traceOp_leaves ..⟩
  · exact ⟨fun _ => rfl, Leaves.refl ..⟩

theorem publishKind_same {tag : Nat} {o : Op} (h0 : o.cls = 0) (hd : o.id.kind ≠ .dec) (hs : o.id.kind ≠ .srs) (s : State) :
    SameBut s (publishKind tag o s) [.pipe, .kiln] ∧ NoNewJobs s (publishKind tag o s) := by
  have hf (x : Option Found) : SameBut s (publishFound o x s) [.pipe] := SameBut.mono (fun p hp => (Within.start s).publishFound.same p hp) (by decide)
  have hm : SameBut s (publishDemod o s) [.pipe] := SameBut.mono (fun p hp => (Within.start s).publishDemod.same p hp) (by decide)
  have hj {t : State} (h : SameBut s t [.pipe]) : SameBut s t [.pipe, .kiln] ∧ NoNewJobs s t :=
    ⟨SameBut.mono h (by decide), NoNewJobs.of_kiln (h .kiln (by decide))⟩
  have hdrop : SameBut s (s.dropJob tag) [.pipe, .kiln] ∧ NoNewJobs s (s.dropJob tag) :=
    ⟨(Leaves.setKiln s _ (ps := [.pipe, .kiln]) (ks := []) (by decide)).1, NoNewJobs.dropJob s tag⟩
  unfold publishKind
  rw [if_neg (by rw [h0]; decide)]
  split
  · next hk => exact absurd hk hd
  · next hk => exact absurd hk hs
  · exact hj hm
  · exact hj (hf _)
  · exact hj (hf _)
  · exact hj (hf _)
  · refine ⟨SameBut.mono (fun p hp => (Within.start s).publishUci.same p hp) (by decide), ?_⟩
    unfold publishUci
    dsimp only
    split
    · refine (NoNewJobs.dropJob s tag).trans (NoNewJobs.of_kiln ?_)
      exact (Leaves.onCourse _ _ _ (ps := [.pipe]) (ks := []) (by decide)).1 .kiln (by decide)
    · exact NoNewJobs.dropJob s tag
  · exact hdrop

theorem endData_task {o : Op} (h0 : o.cls = 0) (s : State) : endData s o = o.data := if_neg (by rw [h0]; decide)

/-- A task's end with OK. -/
theorem operationEnd_ok {tag : Nat} {o : Op} {s : State} (h : s.op tag = some o) (hr : o.state = .running) (hc : o.cancel = false) (h0 : o.cls = 0)
    (he : o.ended = some .ok) (hd : o.id.kind ≠ .dec) (hs : o.id.kind ≠ .srs) (how : TaskEnd) :
    ∃ t, exec (.operationEnd tag how) s = .next t ∧ t.mem = memPutAll o.data s.mem
      ∧ (Store.find s.kiln.jobs tag = none → Store.find t.kiln.jobs tag = none)
      ∧ (∀ o', t.op tag = some o' → o'.state = .ended ∧ o'.published = true ∧ o'.unit = 0xFFFF ∧ o'.ended = none)
      ∧ SameBut s t [.dict, .kiln, .link, .mem, .pipe, .sched, .svc] := by
  obtain ⟨u, hu, huo, hul⟩ := endOp_ok (tag := tag) (s := s) hc
  have hT := endTraced_leaves tag .ok o s
  have hM : SameBut (endTraced tag .ok o s) { endTraced tag .ok o s with mem := memPutAll (endData (endTraced tag .ok o s) o) (endTraced tag .ok o s).mem }
      [.mem] := (Leaves.setMem _ _ (ps := [.mem]) (ks := []) (by decide)).1
  obtain ⟨hP, hJ⟩ := publishKind_same (tag := tag) h0 hd hs
    { endTraced tag .ok o s with mem := memPutAll (endData (endTraced tag .ok o s) o) (endTraced tag .ok o s).mem }
  have hO : SameBut (dataPublished tag o (endTraced tag .ok o s)) (opPublished tag o (endTraced tag .ok o s)) [.sched] :=
    (Leaves.onOp _ _ _ (ps := [.sched]) (ks := []) (by decide)).1
  have hR := resettle_same u
  have hmem : (resettle u).mem = memPutAll o.data s.mem := by
    have h1 : (dataPublished tag o (endTraced tag .ok o s)).mem = memPutAll o.data (endTraced tag .ok o s).mem :=
      (hP .mem (by decide)).trans (by rw [endData_task h0])
    have h2 : (endTraced tag .ok o s).mem = s.mem := hT.1 .mem (by decide)
    rw [h2] at h1
    exact (hR .mem (by decide)).trans ((hul.1 .mem (by decide)).trans ((hO .mem (by decide)).trans h1))
  have hall : SameBut s (resettle u) [.dict, .kiln, .link, .mem, .pipe, .sched, .svc] :=
    SameBut.trans (SameBut.mono hT.1 (by decide)) (SameBut.trans (SameBut.mono hM (by decide)) (SameBut.trans (SameBut.mono hP (by decide))
      (SameBut.trans (SameBut.mono hO (by decide)) (SameBut.trans (SameBut.mono hul.1 (by decide)) (SameBut.mono hR (by decide))))))
  refine ⟨_, operationEnd_ended h hr he how, ?_, ?_, ?_, ?_⟩ <;> rw [hu]
  · exact hmem
  · have h1 : NoNewJobs s (endTraced tag .ok o s) := NoNewJobs.of_kiln (hT.1 .kiln (by decide))
    have h2 : NoNewJobs (endTraced tag .ok o s) (dataPublished tag o (endTraced tag .ok o s)) := hJ
    have h3 : NoNewJobs (dataPublished tag o (endTraced tag .ok o s)) u :=
      (NoNewJobs.of_kiln (hO .kiln (by decide))).trans (NoNewJobs.of_kiln (hul.1 .kiln (by decide)))
    exact ((h1.trans h2).trans (h3.trans (resettle_noNewJobs u))) tag
  · intro o' ho'
    obtain ⟨p, hp, hw⟩ := resettle_settles u tag o' ho'
    have hq : (dataPublished tag o (endTraced tag .ok o s)).op tag = some o := by
      have h1 : (dataPublished tag o (endTraced tag .ok o s)).op tag = (endTraced tag .ok o s).op tag :=
        op_congr (congrArg Sched.ops ((hP .sched (by decide)).trans (hM .sched (by decide)))) tag
      rw [h1, endTraced_op, h]
    rw [huo, opPublished, onOp_op, if_pos rfl, hq, Option.map_some] at hp
    cases hp
    rcases hw with rfl | hw
    · exact ⟨rfl, rfl, rfl, rfl⟩
    · exact absurd hw (by simp [OpWaits, Op.publishedWith])
  · exact hall

/-- An instance that a fault has ended. -/
def Op.faultedEmpty (o : Op) : Op := { o.bare with state := OpState.ended, published := true, empty := true, ended := none }

/-- The state in which a fault has ended an instance. -/
def opFaulted (tag : Nat) (o : Op) (s : State) : State := causeAt o.key 5 (opRecs s o) (s.onOp tag Op.faultedEmpty)

theorem endOp_fault {tag : Nat} {o : Op} {s : State} (hc : o.cancel = false) :
    endOp tag .fault o s = resettle (opFaulted tag o (endTraced tag .fault o s)) := by
  unfold endOp
  dsimp only
  rw [hc, if_neg Bool.false_ne_true]
  rfl

theorem causeAt_op (key status : Nat) (recs : List Nat) (s : State) (j : Nat) : (causeAt key status recs s).op j = s.op j :=
  op_congr (congrArg Sched.ops ((causeAt_leaves key status recs s (ks := [])).1 .sched (by decide))) j

/-- A task's end with FAULT. -/
theorem operationEnd_fault {tag : Nat} {o : Op} {s : State} (h : s.op tag = some o) (hr : o.state = .running) (hc : o.cancel = false)
    (he : o.ended = some .fault) (how : TaskEnd) : ∃ t, exec (.operationEnd tag how) s = .next t
      ∧ (∀ o', t.op tag = some o' → o'.state = .ended ∧ o'.published = true ∧ o'.empty = true ∧ o'.places = [])
      ∧ SameBut s t [.dict, .kiln, .link, .pipe, .sched, .svc] := by
  have hT := endTraced_leaves tag .fault o s
  refine ⟨_, operationEnd_ended h hr he how, ?_, ?_⟩ <;> rw [endOp_fault hc]
  · intro o' ho'
    obtain ⟨p, hp, hw⟩ := resettle_settles _ tag o' ho'
    rw [opFaulted, causeAt_op, onOp_op, if_pos rfl, endTraced_op, h, Option.map_some] at hp
    cases hp
    rcases hw with rfl | hw
    · exact ⟨rfl, rfl, rfl, rfl⟩
    · exact absurd hw (by simp [OpWaits, Op.faultedEmpty])
  · have hF : Leaves (endTraced tag .fault o s) (opFaulted tag o (endTraced tag .fault o s)) [.pipe, .sched] [] :=
      Leaves.trans (Leaves.onOp _ _ _ (by decide)) (Leaves.mono (causeAt_leaves _ _ _ _ (ks := [])) (by decide) nofun)
    exact SameBut.trans (SameBut.mono hT.1 (by decide)) (SameBut.trans (SameBut.mono hF.1 (by decide)) (SameBut.mono (resettle_same _) (by decide)))

/-! ## The re-run after a tile fault -/

/-- An instance that is to run again. -/
def Op.again (o : Op) : Op := { o.bare with prio := 0, ended := none, faulted := true }

/-- The state in which a re-run is counted and its course knows of it. -/
def rerunCounted (tag : Nat) (o : Op) (s : State) : State :=
  (traceOp 9 tag o.again 0 0 0 ((s.bump O.reruns 1).dropJob tag)).onCourse o.key fun c => { c with rerun := true }

theorem rerunOp_eq {tag : Nat} {o : Op} {s : State} (h : s.op tag = some o) (hc : o.cancel = false) :
    rerunOp s tag = makeReady tag o.again (rerunCounted tag o s) := by
  unfold rerunOp
  rw [h]
  dsimp only
  rw [hc, if_neg Bool.false_ne_true]
  rfl

theorem rerunCounted_leaves_bumped (tag : Nat) (o : Op) (s : State) :
    Leaves (s.bump O.reruns 1) (rerunCounted tag o s) [.dict, .kiln, .pipe, .sched] traceKeys :=
  Leaves.trans (Leaves.setKiln _ _ (by decide)) (Leaves.trans (Leaves.mono (traceOp_leaves ..) (by decide) fun _ h => h)
    (Leaves.onCourse _ _ _ (by decide)))

theorem rerunCounted_op (tag : Nat) (o : Op) (s : State) (u : Nat) : (rerunCounted tag o s).op u = s.op u := by
  have h1 : (rerunCounted tag o s).op u = (traceOp 9 tag o.again 0 0 0 ((s.bump O.reruns 1).dropJob tag)).op u :=
    op_congr (congrArg Sched.ops ((Leaves.onCourse _ _ _ (ps := [.pipe]) (ks := []) (by decide)).1 .sched (by decide))) u
  rw [h1, traceOp_op]
  rfl

theorem rerunCounted_course {tag : Nat} {o : Op} {s : State} {c : Course} (h : s.course o.key = some c) :
    (rerunCounted tag o s).course o.key = some { c with rerun := true } := by
  have h1 : (traceOp 9 tag o.again 0 0 0 ((s.bump O.reruns 1).dropJob tag)).course o.key = s.course o.key :=
    course_congr ((traceOp_leaves ..).1 .pipe (by decide)) _
  rw [rerunCounted, onCourse_course, if_pos rfl, h1, h, Option.map_some]

theorem makeReady_op_eq {tag : Nat} {p : Op} {s : State} (h : s.op tag = some p) (o : Op) :
    ∃ a l, (makeReady tag o s).op tag = some { o with state := .ready, readyAt := a, list := l } := by
  unfold makeReady
  dsimp only
  rw [traceOp_op, onOp_op, if_pos rfl, h]
  exact ⟨_, _, rfl⟩

/-- The end of an operation by its tile's fault: it runs again in class 0. -/
theorem operationEnd_tileFault {tag : Nat} {o : Op} {s : State} (h : s.op tag = some o) (hr : o.state = .running) (hc : o.cancel = false)
    (he : o.ended = some .tileFault) (how : TaskEnd) :
    ∃ t o', exec (.operationEnd tag how) s = .next t ∧ t.op tag = some o' ∧ o'.state = .ready ∧ o'.prio = 0 ∧ o'.unit = 0xFFFF
      ∧ o'.places = [] ∧ o'.ended = none ∧ Counted s t O.reruns 1
      ∧ (∀ c, s.course o.key = some c → t.course o.key = some { c with rerun := true })
      ∧ Leaves s t [.dict, .kiln, .pipe, .sched] [O.reruns, O.traceWritten, O.traceLost] := by
  have hT := endTraced_leaves tag .tileFault o s
  have hop : (endTraced tag .tileFault o s).op tag = some o := (endTraced_op ..).trans h
  have hend : endOp tag .tileFault o s = makeReady tag o.again (rerunCounted tag o (endTraced tag .tileFault o s)) := by
    have h1 : endOp tag .tileFault o s = rerunOp (endTraced tag .tileFault o s) tag := by
      unfold endOp
      dsimp only
      rw [hc, if_neg Bool.false_ne_true]
      rfl
    rw [h1, rerunOp_eq hop hc]
  obtain ⟨a, l, hready⟩ := makeReady_op_eq ((rerunCounted_op tag o (endTraced tag .tileFault o s) tag).trans hop) o.again
  have hM := makeReady_leaves tag o.again (rerunCounted tag o (endTraced tag .tileFault o s))
  have hR := rerunCounted_leaves_bumped tag o (endTraced tag .tileFault o s)
  refine ⟨_, _, (operationEnd_ended h hr he how).trans (congrArg _ hend), hready, rfl, rfl, rfl, rfl, rfl, ?_, fun c hcs => ?_, ?_⟩
  · exact (hM.2 _ (by decide)).trans ((hR.2 _ (by decide)).trans (Counted.of_obj (hT.2 _ (by decide)) (State.obj_bump_same ..)))
  · rw [course_congr (hM.1 .pipe (by decide))]
    exact rerunCounted_course ((course_congr (hT.1 .pipe (by decide)) _).trans hcs)
  · exact Leaves.trans (Leaves.mono hT (by decide) (by decide)) (Leaves.trans (Leaves.bump _ _ _ (by decide) (by decide))
      (Leaves.trans (Leaves.mono hR (by decide) (by decide)) (Leaves.mono hM (by decide) (by decide))))

end Sys2Proof.Machine
end

section
/-! SUPPORT. Local prefetch, partitions and the trace of the scheduler (13 R428, R429, R446, R455). -/
namespace Sys2Proof.Machine
open Sys2Proof.Safety

/-! ## The end of a prefetch copy -/

theorem prefetchEngine_lt {t : Nat} (h : t < 200) : prefetchEngine t < 24 := by
  unfold prefetchEngine
  omega

/-- The state in which a prefetch has moved what it moves, with its bytes and lines counted. -/
def prefetchMoved (e : Nat) (l : List Piece) (s : State) : State :=
  ((movePieces (leBytes 64 1) l s).state.bump (O.bytesWritten e) (movePieces (leBytes 64 1) l s).written).bump (O.poisonedLines e)
    (movePieces (leBytes 64 1) l s).poisoned

/-- The state in which a copy that was made in full is counted at its engine. -/
def prefetchFull (t e : Nat) (l : List (Nat × Nat × Bool)) (s : State) : State := countEnd e 0 ((s.setCopies t l).bump (O.descriptors e) 1)

/-- The state in which a copy that an answer abandons is counted at its engine. -/
def prefetchLeft (t e status : Nat) (l : List (Nat × Nat × Bool)) (s : State) : State := countEnd e status (s.setCopies t l)

/-- A copy's place is filled. -/
def copyFilled (c x : Nat × Nat × Bool) : Nat × Nat × Bool := if x = c then (c.1, c.2.1, true) else x

theorem prefetchCopyComplete_full {t pallet : Nat} {s : State} {c : Nat × Nat × Bool}
    (h : (Store.at [] s.sched.copies t).find? (fun c => c.1 == pallet && !c.2.2) = some c)
    (hh : Store.find s.hod.halting (prefetchEngine t) = none)
    (hf : (movePieces (leBytes 64 1) (prefetchPieces s t pallet c.2.1) s).fail = none) :
    exec (.prefetchCopyComplete t pallet) s = .next ((prefetchFull t (prefetchEngine t) ((Store.at [] s.sched.copies t).map (copyFilled c))
      (prefetchMoved (prefetchEngine t) (prefetchPieces s t pallet c.2.1) s)).bump O.prefetchCopies 1) := by
  show execPrefetchCopyComplete t pallet s = _
  unfold execPrefetchCopyComplete
  dsimp only
  rw [h]
  dsimp only
  rw [hh, if_neg (by decide), hf]
  rfl

theorem prefetchCopyComplete_left {t pallet : Nat} {s : State} {c : Nat × Nat × Bool} {a : Status}
    (h : (Store.at [] s.sched.copies t).find? (fun c => c.1 == pallet && !c.2.2) = some c)
    (hh : Store.find s.hod.halting (prefetchEngine t) = none)
    (hf : (movePieces (leBytes 64 1) (prefetchPieces s t pallet c.2.1) s).fail = some a) :
    exec (.prefetchCopyComplete t pallet) s = .next ((prefetchLeft t (prefetchEngine t) (if a = .unmapped then 6 else 7)
      ((Store.at [] s.sched.copies t).filter fun x => x != c)
      (prefetchMoved (prefetchEngine t) (prefetchPieces s t pallet c.2.1) s)).bump O.prefetchAbandoned 1) := by
  show execPrefetchCopyComplete t pallet s = _
  unfold execPrefetchCopyComplete
  dsimp only
  rw [h]
  dsimp only
  rw [hh, if_neg (by decide), hf]
  rfl

theorem setCopies_find (s : State) (t : Nat) (l : List (Nat × Nat × Bool)) : Store.find (s.setCopies t l).sched.copies t = some l :=
  Store.find_put_same ..

theorem prefetchFull_leaves (t e : Nat) (l : List (Nat × Nat × Bool)) (s : State) :
    Leaves (s.setCopies t l) (prefetchFull t e l s) [.dict] (O.descriptors e :: chainEndKeys e) :=
  Leaves.trans (Leaves.bump _ _ _ (by decide) List.mem_cons_self) (Leaves.mono (countEnd_leaves ..) (by decide) fun _ h => List.mem_cons_of_mem _ h)

theorem prefetchLeft_leaves (t e status : Nat) (l : List (Nat × Nat × Bool)) (s : State) :
    Leaves (s.setCopies t l) (prefetchLeft t e status l s) [.dict] (O.descriptors e :: chainEndKeys e) :=
  Leaves.mono (countEnd_leaves ..) (by decide) fun _ h => List.mem_cons_of_mem _ h

/-- A counter of the scheduler is none of an engine's. -/
theorem schedKey_notEngine {k : Nat} (h : k < 0x6C0000) (e : Nat) : k ∉ O.descriptors e :: chainEndKeys e := by
  simp only [chainEndKeys, O.descriptors, O.chainsEnded, O.stops, O.loopEnds, List.mem_cons, List.not_mem_nil, or_false, not_or]
  omega

theorem prefetchMoved_sched (e : Nat) (l : List Piece) (s : State) :
    SameBut s (prefetchMoved e l s) lineParts ∧ ∀ k, 0x600000 ≤ k → k < 0x604000 → (prefetchMoved e l s).obj k = s.obj k := by
  have hm := movePieces_moves (leBytes 64 1) l s
  have hb : Leaves (movePieces (leBytes 64 1) l s).state (prefetchMoved e l s) [.dict] [O.bytesWritten e, O.poisonedLines e] :=
    Leaves.trans (Leaves.bump _ _ _ (by decide) (by simp)) (Leaves.bump _ _ _ (by decide) (by simp))
  refine ⟨SameBut.trans hm.same (SameBut.mono hb.1 (by decide)), fun k h1 h2 => (hb.2 k ?_).trans (hm.obj k (not_errKey_sched h1 h2))⟩
  simp only [O.bytesWritten, O.poisonedLines, List.mem_cons, List.not_mem_nil, or_false, not_or]
  omega

/-- What a prefetch's end leaves, whichever it is: its slot's copies, the count of the end, and the parts that may change. -/
theorem prefetchEnd_does {t e key : Nat} {l : List (Nat × Nat × Bool)} {p : List Piece} {s u : State} (h1 : 0x600000 ≤ key) (h2 : key < 0x604000)
    (hu : Leaves ((prefetchMoved e p s).setCopies t l) u [.dict] (O.descriptors e :: chainEndKeys e)) :
    Counted s (u.bump key 1) key 1 ∧ Store.find (u.bump key 1).sched.copies t = some l
      ∧ SameBut s (u.bump key 1) [.dict, .freeCtr, .integ, .link, .mem, .sched] := by
  obtain ⟨hs, hk⟩ := prefetchMoved_sched e p s
  have hc : SameBut (prefetchMoved e p s) ((prefetchMoved e p s).setCopies t l) [.sched] := (Leaves.setSched _ _ (ps := [.sched]) (ks := []) (by decide)).1
  refine ⟨Counted.of_obj ((hu.2 key (schedKey_notEngine (by omega) e)).trans (hk key h1 h2)) (State.obj_bump_same ..), ?_, ?_⟩
  · have hb : (u.bump key 1).sched = ((prefetchMoved e p s).setCopies t l).sched := hu.1 .sched (by decide)
    rw [hb]
    exact setCopies_find ..
  · exact SameBut.trans (SameBut.mono hs (by decide)) (SameBut.trans (SameBut.mono hc (by decide))
      (SameBut.trans (SameBut.mono hu.1 (by decide)) (SameBut.mono (Leaves.bump u key 1 (ps := [.dict]) (ks := [key]) (by decide) (by simp)).1 (by decide))))

/-- A prefetch copy ends, made or abandoned. -/
theorem prefetchCopyComplete_does {t pallet slot : Nat} {s : State}
    (h : (Store.at [] s.sched.copies t).find? (fun c => c.1 == pallet && !c.2.2) = some (pallet, slot, false))
    (hh : Store.find s.hod.halting (prefetchEngine t) = none) : ∃ s', exec (.prefetchCopyComplete t pallet) s = .next s'
      ∧ (if (movePieces (leBytes 64 1) (prefetchPieces s t pallet slot) s).fail = none
         then Counted s s' O.prefetchCopies 1 ∧ Store.find s'.sched.copies t = some ((Store.at [] s.sched.copies t).map fun x =>
           if x = (pallet, slot, false) then (pallet, slot, true) else x)
         else Counted s s' O.prefetchAbandoned 1
           ∧ Store.find s'.sched.copies t = some ((Store.at [] s.sched.copies t).filter fun x => x != (pallet, slot, false)))
      ∧ SameBut s s' [.dict, .freeCtr, .integ, .link, .mem, .sched] := by
  cases hf : (movePieces (leBytes 64 1) (prefetchPieces s t pallet slot) s).fail with
  | none =>
    obtain ⟨hc, hl, hs⟩ := prefetchEnd_does (key := O.prefetchCopies) (by decide) (by decide)
      (prefetchFull_leaves t (prefetchEngine t) ((Store.at [] s.sched.copies t).map (copyFilled (pallet, slot, false)))
        (prefetchMoved (prefetchEngine t) (prefetchPieces s t pallet slot) s))
    refine ⟨_, prefetchCopyComplete_full h hh hf, ?_, hs⟩
    rw [if_pos rfl]
    exact ⟨hc, hl⟩
  | some a =>
    obtain ⟨hc, hl, hs⟩ := prefetchEnd_does (key := O.prefetchAbandoned) (by decide) (by decide)
      (prefetchLeft_leaves t (prefetchEngine t) (if a = .unmapped then 6 else 7)
        ((Store.at [] s.sched.copies t).filter fun x => x != (pallet, slot, false))
        (prefetchMoved (prefetchEngine t) (prefetchPieces s t pallet slot) s))
    refine ⟨_, prefetchCopyComplete_left h hh hf, ?_, hs⟩
    rw [if_neg nofun]
    exact ⟨hc, hl⟩

/-! ## The end of PREFETCH_WAIT -/

/-- The state at the end of PREFETCH_WAIT after a slot's task. -/
def waitOver (t : Nat) (s : State) : State := advanceTicks s (Store.at 0 s.sched.freed t + ticksOfNs (s.nat O.prefetchWait))

theorem prefetchWaitExpiry_next {t : Nat} {s : State} (h : (Store.at [] s.sched.copies t).any (fun c => !c.2.2) = true) (hr : runningTask s t = none)
    (hn : (nextTask s t).isSome = true) : exec (.prefetchWaitExpiry t) s = .next (abandonCopies t (waitOver t s)) := by
  show execPrefetchWaitExpiry t s = _
  unfold execPrefetchWaitExpiry
  exact if_pos (by rw [h, hr, hn]; rfl)

theorem abandonCopies_does (t : Nat) (s : State) :
    Store.find (abandonCopies t s).sched.copies t = some ((Store.at [] s.sched.copies t).filter (·.2.2))
      ∧ Counted s (abandonCopies t s) O.prefetchAbandoned ((Store.at [] s.sched.copies t).filter fun c => !c.2.2).length
      ∧ Leaves s (abandonCopies t s) [.dict, .sched] [O.prefetchAbandoned] := by
  refine ⟨setCopies_find .., ?_, Leaves.trans (Leaves.setSched _ _ (by decide)) (Leaves.bump _ _ _ (by decide) (by decide))⟩
  exact Counted.of_obj (Leaves.setSched s _ (ps := [.sched]) (ks := []) (by decide) |>.2 _ List.not_mem_nil) (State.obj_bump_same ..)

/-- The open copies of a next task are abandoned at the end of PREFETCH_WAIT. -/
theorem prefetchWaitExpiry_does {t : Nat} {s : State} (h : (Store.at [] s.sched.copies t).any (fun c => !c.2.2) = true) (hr : runningTask s t = none)
    (hn : (nextTask s t).isSome = true) : ∃ s', exec (.prefetchWaitExpiry t) s = .next s'
      ∧ Store.find s'.sched.copies t = some ((Store.at [] s.sched.copies t).filter (·.2.2))
      ∧ Counted s s' O.prefetchAbandoned ((Store.at [] s.sched.copies t).filter fun c => !c.2.2).length
      ∧ Store.at 0 s.sched.freed t + ticksOfNs (s.nat O.prefetchWait) ≤ s'.clock.ticks
      ∧ Leaves s s' (.dict :: .sched :: timeParts) [O.prefetchAbandoned] := by
  have hA : Leaves s (waitOver t s) timeParts [] := advanceTicks_leaves s _ (fun _ h => h)
  have hs : (waitOver t s).sched = s.sched := hA.1 .sched (by decide)
  obtain ⟨hf, hc, hl⟩ := abandonCopies_does t (waitOver t s)
  rw [hs] at hf hc
  refine ⟨_, prefetchWaitExpiry_next h hr hn, hf, Counted.of_obj (hA.2 _ List.not_mem_nil) hc, ?_,
    Leaves.trans (Leaves.mono hA (by decide) nofun) (Leaves.mono hl (by decide) fun _ h => h)⟩
  rw [hl.1 .clock (by decide)]
  exact le_advanceTicks ..

/-! ## Partitions -/

theorem partCheck_congr {s t : State} (h : ∀ k, t.obj k = s.obj k) (p : Nat) : partCheck p t = partCheck p s := by
  have ho : t.obj = s.obj := funext h
  have hp : t.pairSlots = s.pairSlots := funext fun n => by
    simp only [State.pairSlots, State.pairServes, ho]
    rfl
  simp only [partCheck, State.holds, State.partForm, State.slotsOf, State.tileSlots, hp, State.slotForm, State.nat, ho]
  rfl

theorem partBusy_congr {s t : State} (h : t.sched = s.sched) (p : Nat) : partBusy t p = partBusy s p := by rw [partBusy, h, partBusy]

/-- The keys of the service and the counters of transfers lie below those of the scheduler. -/
theorem schedKey_notService {k : Nat} (h : 0x600000 ≤ k) : k ∉ checkKeys ∧ k ∉ [O.transfersServed, O.transfersRefused, O.busyReplies] := by
  have h1 : ∀ j ∈ checkKeys ++ [O.transfersServed, O.transfersRefused, O.busyReplies], j < 0x600000 := by decide
  refine ⟨fun hm => ?_, fun hm => ?_⟩
  · have := h1 k (List.mem_append_left _ hm)
    omega
  · have := h1 k (List.mem_append_right _ hm)
    omega

/-- An instance as a partition that comes up takes it into its list. -/
def Op.listedBy (form p : Nat) (o : Op) : Op := if o.cls == 0 && o.state == .ready && o.form == form then { o with list := p + 1 } else o

theorem partRules_accept_op (p : Nat) (s : State) (tag : Nat) :
    ((partRules p).accept s).op tag = (s.op tag).map (Op.listedBy (s.partForm p) p) := by
  have he : ((partRules p).accept s).op tag = Store.find (s.sched.ops.map fun e => (e.1, e.2.listedBy (s.partForm p) p)) tag := by
    refine congrArg (Store.find · tag) (List.map_congr_left fun e _ => ?_)
    unfold Op.listedBy
    split
    · rfl
    · rfl
  rw [he]
  exact find_map_same ..

theorem partRules_settle_leaves (p : Nat) (r : Reason) (s : State) : Leaves s ((partRules p).settle r s) [.dict, .sched] [O.partEnable p] := by
  unfold EnableRules.settle
  exact Leaves.ite _ (Leaves.trans (Leaves.setObj _ _ _ (by decide) (by simp [partRules])) (Leaves.setOps _ _ (by decide)))
    (Leaves.setObj _ _ _ (by decide) (by simp [partRules]))

theorem partRules_settle_obj (p : Nat) (r : Reason) (s : State) : ((partRules p).settle r s).obj (O.partEnable p) = if r = .ok then 1 else 0 := by
  unfold EnableRules.settle
  split
  · exact State.obj_setObj_same ..
  · exact State.obj_setObj_same ..

theorem partForm_setEnable (s : State) (p : Nat) (v : Int) : (s.setObj (O.partEnable p) v).partForm p = s.partForm p := by
  have h1 : O.partVl p ≠ O.partEnable p := by simp only [O.partVl, O.partEnable]; omega
  have h2 : O.partBond p ≠ O.partEnable p := by simp only [O.partBond, O.partEnable]; omega
  simp only [State.partForm, State.nat, State.obj_setObj_ne _ _ _ _ h1, State.obj_setObj_ne _ _ _ _ h2]

theorem partRules_settle_op {p tag : Nat} {o : Op} {s : State} (h : s.op tag = some o) (r : Reason) : ((partRules p).settle r s).op tag
    = some (if r = .ok ∧ o.cls = 0 ∧ o.state = .ready ∧ o.form = s.partForm p then { o with list := p + 1 } else o) := by
  have hop (v : Int) : (s.setObj (O.partEnable p) v).op tag = some o := h
  unfold EnableRules.settle
  split
  · next hr =>
    rw [partRules_accept_op]
    show Option.map _ ((s.setObj (O.partEnable p) stOn).op tag) = _
    rw [hop, Option.map_some]
    show some (o.listedBy ((s.setObj (O.partEnable p) stOn).partForm p) p) = _
    rw [partForm_setEnable, Op.listedBy]
    simp only [hr, true_and, Bool.and_eq_true, beq_iff_eq, and_assoc]
  · next hr =>
    rw [if_neg fun hn => hr hn.1]
    exact hop _

/-- A write of 1 to PART_ENABLE in OFF. -/
theorem partEnable_on {x : Xfer} {p : Nat} {s : State} (hp : p < 8) (h : Accepts s x (O.partEnable p) (.num 1)) (h0 : s.obj (O.partEnable p) = 0)
    (hb : s.obj O.bootState ≠ 5) : ∃ t, exec (.writePartEnable x p 1) s = .next t
      ∧ Answers s t x (O.partEnable p) (.num 1) (partCheck p s) [.svc, .sched]
          [O.partEnable p, O.lastCheckObject, O.lastCheckReason, O.enableLogCount, O.changeCount]
      ∧ t.obj (O.partEnable p) = (if partCheck p s = .ok then 1 else 0)
      ∧ ∀ tag o, s.op tag = some o → t.op tag = some
          (if partCheck p s = .ok ∧ o.cls = 0 ∧ o.state = .ready ∧ o.form = s.partForm p then { o with list := p + 1 } else o) := by
  have hw := atWrite_obj s x (O.partEnable p) (.num 1)
  have hj : (partRules p).judge (atWrite s x (O.partEnable p) (.num 1)) = partCheck p s := by
    rw [EnableRules.judge_check _ (by rwa [hw])]
    exact partCheck_congr hw p
  have hl : Leaves (atWrite s x (O.partEnable p) (.num 1)) ((partRules p).settle (partCheck p s) (atWrite s x (O.partEnable p) (.num 1)))
      [.dict, .svc, .sched] [O.partEnable p, O.lastCheckObject, O.lastCheckReason, O.enableLogCount, O.changeCount] :=
    Leaves.mono (partRules_settle_leaves ..) (by decide) (by simp)
  have hkeys : ∀ k ∈ checkKeys, k ∈ [O.partEnable p, O.lastCheckObject, O.lastCheckReason, O.enableLogCount, O.changeCount] :=
    fun k hk => List.mem_cons_of_mem _ hk
  obtain ⟨ha, ho⟩ := hostWrite_on (partRules p) (ps := [.svc, .sched]) h h0 hj hl (by decide) hkeys (by decide)
  have hs := hostWrite_on_same (partRules p) (ps := [.svc, .sched]) h h0 hj hl (by decide) hkeys (by decide)
  have hn : 0x600000 ≤ O.partEnable p := by simp only [O.partEnable]; omega
  refine ⟨_, if_neg (by omega), ha, ?_, fun tag o hop => ?_⟩
  · rw [← partRules_settle_obj p (partCheck p s) (atWrite s x (O.partEnable p) (.num 1))]
    exact ho _ (schedKey_notService hn).1 (schedKey_notService hn).2
  · have hsched : (atWrite s x (O.partEnable p) (.num 1)).op tag = some o :=
      (op_congr (congrArg Sched.ops (atWrite_same s x (O.partEnable p) (.num 1) .sched (by decide))) tag).trans hop
    have hform : (atWrite s x (O.partEnable p) (.num 1)).partForm p = s.partForm p := by simp only [State.partForm, State.nat, hw]
    have := partRules_settle_op (p := p) hsched (partCheck p s)
    rw [hform] at this
    exact (op_congr (congrArg Sched.ops (hs .sched (by decide))) tag).trans this

theorem partRules_shut (p : Nat) (s : State) : (partRules p).shut s
    = if partBusy s p = true then s.setObj (O.partEnable p) 3 else (s.setObj (O.partEnable p) 3).setObj (O.partEnable p) 0 := by
  have hb : partBusy (s.setObj (O.partEnable p) 3) p = partBusy s p := partBusy_congr rfl p
  have hd : shutDone (O.partEnable p) (s.setObj (O.partEnable p) 3) = (s.setObj (O.partEnable p) 3).setObj (O.partEnable p) 0 :=
    shutDone_stopping (State.obj_setObj_same ..)
  unfold EnableRules.shut
  show (if partBusy (s.setObj (O.partEnable p) 3) p = true then s.setObj (O.partEnable p) 3
    else shutDone (O.partEnable p) (s.setObj (O.partEnable p) 3)) = _
  rw [hb, hd]

theorem partRules_shut_leaves (p : Nat) (s : State) : Leaves s ((partRules p).shut s) [.dict] [O.partEnable p] := by
  rw [partRules_shut]
  exact Leaves.ite _ (Leaves.setObj _ _ _ (by decide) (by simp)) (Leaves.trans (Leaves.setObj _ _ _ (by decide) (by simp))
    (Leaves.setObj _ _ _ (by decide) (by simp)))

/-- A write of 0 to PART_ENABLE in ON. -/
theorem partEnable_off {x : Xfer} {p : Nat} {s : State} (hp : p < 8) (h : Accepts s x (O.partEnable p) (.num 0)) (h1 : s.obj (O.partEnable p) = 1) :
    ∃ t, exec (.writePartEnable x p 0) s = .next t
      ∧ Answers s t x (O.partEnable p) (.num 0) .ok [.svc] [O.partEnable p, O.changeCount]
      ∧ t.obj (O.partEnable p) = if partBusy s p = true then 3 else 0 := by
  obtain ⟨ha, ho⟩ := hostWrite_off (partRules p) (ps := [.svc]) (ks := [O.partEnable p, O.changeCount]) h h1
    (Leaves.mono (partRules_shut_leaves ..) (by decide) (by simp)) (by decide) (by simp) (by decide)
  have hn : 0x600000 ≤ O.partEnable p := by simp only [O.partEnable]; omega
  have hb : partBusy (atWrite s x (O.partEnable p) (.num 0)) p = partBusy s p := partBusy_congr (atWrite_same _ _ _ _ .sched (by decide)) p
  refine ⟨_, if_neg (by omega), ha, (ho (O.partEnable p) (fun hc => (schedKey_notService hn).1 (by rw [hc]; decide)) (schedKey_notService hn).2).trans ?_⟩
  show ((partRules p).shut (atWrite s x (O.partEnable p) (.num 0))).obj (O.partEnable p) = _
  rw [partRules_shut, hb]
  split
  · exact State.obj_setObj_same ..
  · exact State.obj_setObj_same ..

/-! ## The trace -/

/-- The reason with which TRACE_ENABLE is checked. -/
def traceFits (s : State) : Reason := if s.dataNeeded + s.boot.copy + s.nat O.tracePallets ≤ s.dataPallets then .ok else .noPallets

theorem traceFits_congr {s t : State} (h : ∀ k, t.obj k = s.obj k) (hb : t.boot = s.boot) : traceFits t = traceFits s := by
  have ho : t.obj = s.obj := funext h
  simp only [traceFits, State.dataNeeded, State.dataPallets, State.chanServes, State.contextExtra, State.nat, ho, hb]
  rfl

theorem traceRules_settle_leaves (r : Reason) (s : State) : Leaves s (traceRules.settle r s) [.dict, .sched] [O.traceEnable] := by
  unfold EnableRules.settle
  exact Leaves.ite _ (Leaves.trans (Leaves.setObj _ _ _ (by decide) (by simp [traceRules])) (Leaves.setSched _ _ (by decide)))
    (Leaves.setObj _ _ _ (by decide) (by simp [traceRules]))

/-- A write of 1 to TRACE_ENABLE in OFF, by the reason with which it is checked. -/
theorem traceEnable_on {x : Xfer} {s : State} (h : Accepts s x O.traceEnable (.num 1)) (h0 : s.obj O.traceEnable = 0)
    (hb : s.obj O.bootState ≠ 5) : ∃ t, exec (.writeTraceEnable x 1) s = .next t
      ∧ Answers s t x O.traceEnable (.num 1) (traceFits s) [.svc, .sched]
          [O.traceEnable, O.lastCheckObject, O.lastCheckReason, O.enableLogCount, O.changeCount]
      ∧ t.obj O.traceEnable = (traceRules.settle (traceFits s) (atWrite s x O.traceEnable (.num 1))).obj O.traceEnable
      ∧ t.sched = (traceRules.settle (traceFits s) (atWrite s x O.traceEnable (.num 1))).sched := by
  have hw := atWrite_obj s x O.traceEnable (.num 1)
  have hj : traceRules.judge (atWrite s x O.traceEnable (.num 1)) = traceFits s := by
    rw [EnableRules.judge_check _ (by rwa [hw])]
    exact traceFits_congr hw (atWrite_same s x O.traceEnable (.num 1) .boot (by decide))
  have hl : Leaves (atWrite s x O.traceEnable (.num 1)) (traceRules.settle (traceFits s) (atWrite s x O.traceEnable (.num 1)))
      [.dict, .svc, .sched] [O.traceEnable, O.lastCheckObject, O.lastCheckReason, O.enableLogCount, O.changeCount] :=
    Leaves.mono (traceRules_settle_leaves ..) (by decide) (by simp)
  obtain ⟨ha, ho⟩ := hostWrite_on traceRules (ps := [.svc, .sched]) h h0 hj hl (by decide) (by decide) (by decide)
  have hs := hostWrite_on_same traceRules (ps := [.svc, .sched]) h h0 hj hl (by decide) (by decide) (by decide)
  exact ⟨_, rfl, ha, ho _ (by decide) (by decide), hs .sched (by decide)⟩

theorem answers_frame {s t : State} {x : Xfer} {key : Nat} {v : Int} {r : Reason} {ps : List Part} {ks : List Nat}
    (h : Answers s t x key (.num v) r ps ks) : SameBut s t (ps ++ .dict :: .link :: timeParts) := by
  obtain ⟨-, hs, -⟩ := h
  rwa [if_pos (lengthOf_num key v)] at hs

/-- TRACE_ENABLE where its pallets fit, and where they do not. -/
theorem traceEnable_does {x : Xfer} {s : State} (h : Accepts s x O.traceEnable (.num 1)) (h0 : s.obj O.traceEnable = 0)
    (hb : s.obj O.bootState ≠ 5) : ∃ t, exec (.writeTraceEnable x 1) s = .next t
      ∧ (if s.dataNeeded + s.boot.copy + s.nat O.tracePallets ≤ s.dataPallets
         then t.obj O.traceEnable = 1 ∧ t.sched = { s.sched with trace := [] } ∧ Replied s t x O.traceEnable (.num 1) .ok
         else t.obj O.traceEnable = 0 ∧ t.sched = s.sched ∧ Replied s t x O.traceEnable (.num 1) .noPallets)
      ∧ SameBut s t (.dict :: .link :: .sched :: .svc :: timeParts)
      ∧ ObjsBut s t [O.traceEnable, O.lastCheckObject, O.lastCheckReason, O.enableLogCount, O.changeCount] := by
  obtain ⟨t, he, ha, ho, hs⟩ := traceEnable_on h h0 hb
  have hf : SameBut s t (.dict :: .link :: .sched :: .svc :: timeParts) := SameBut.mono (answers_frame ha) (by decide)
  obtain ⟨hr, -, hk⟩ := ha
  have hw : (atWrite s x O.traceEnable (.num 1)).sched = s.sched := atWrite_same s x O.traceEnable (.num 1) .sched (by decide)
  refine ⟨t, he, ?_, hf, hk⟩
  by_cases hc : s.dataNeeded + s.boot.copy + s.nat O.tracePallets ≤ s.dataPallets
  · have hok : traceFits s = .ok := if_pos hc
    rw [if_pos hc]
    rw [hok] at ho hs hr
    rw [EnableRules.settle_ok] at ho hs
    refine ⟨ho.trans (State.obj_setObj_same (atWrite s x O.traceEnable (.num 1)) O.traceEnable 1), hs.trans ?_, hr⟩
    show { (atWrite s x O.traceEnable (.num 1)).sched with trace := [] } = _
    rw [hw]
  · have hno : traceFits s = .noPallets := if_neg hc
    rw [if_neg hc]
    rw [hno] at ho hs hr
    rw [EnableRules.settle_refused _ _ (by decide)] at ho hs
    exact ⟨ho.trans (State.obj_setObj_same ..), hs.trans hw, hr⟩

theorem isEnable_traceRecords : isEnable O.traceRecords = false := by decide +kernel

/-- A read of the trace pops its oldest records. -/
theorem traceRecords_does {x : Xfer} {s : State} (hr : s.ready = true) (ht : s.sched.trace ≠ []) :
    ∃ t, exec (.readTraceRecords x) s = .next t ∧ Pops s t x O.traceRecords (s.sched.trace.take 32).flatten [.sched]
      ∧ t.sched = { s.sched with trace := s.sched.trace.drop 32 } := by
  have hsched : (advance s x.dt).sched = s.sched := (Leaves.advance s x.dt (ps := timeParts) (ks := []) (fun _ h => h)).1 .sched (by decide)
  have hv : traceHead (advance s x.dt) = some (s.sched.trace.take 32).flatten := by
    unfold traceHead
    rw [hsched]
    exact if_neg (by simpa using ht)
  obtain ⟨hp, ho⟩ := popReplied_frame x O.traceRecords (s.sched.trace.take 32).flatten s
  have hps : (popReplied x O.traceRecords (s.sched.trace.take 32).flatten s).sched = s.sched := hp .sched (by decide)
  have htp : Leaves (popReplied x O.traceRecords (s.sched.trace.take 32).flatten s)
      (tracePop (popReplied x O.traceRecords (s.sched.trace.take 32).flatten s)) [.sched] [] := Leaves.setSched _ _ (by decide)
  refine ⟨_, congrArg Host.Outcome.next (hostPop_served hr hv), ⟨popReplied_sent isEnable_traceRecords, ?_, fun k h1 h2 => ho k h1 h2⟩, ?_⟩
  · exact SameBut.trans (SameBut.mono hp (by decide)) (SameBut.mono htp.1 (by decide))
  · have ht : (tracePop (popReplied x O.traceRecords (s.sched.trace.take 32).flatten s)).sched
        = { (popReplied x O.traceRecords (s.sched.trace.take 32).flatten s).sched with
            trace := (popReplied x O.traceRecords (s.sched.trace.take 32).flatten s).sched.trace.drop 32 } := rfl
    rw [hps] at ht
    exact ht

end Sys2Proof.Machine
open Sys2Proof Sys2Proof.Machine Sys2Proof.Safety

/-- Settles O43, a clause at a time: the dispatch by what the unit begins (`beginOn_begins`), and the ends by `resettle_settles`, which leaves
what does not wait as it was. -/
theorem scheduling : Obligations.Scheduling := by
  unfold Obligations.Scheduling
  exact ⟨fun tag unit k o r s d h hr hold hd hu hf ht hx => dispatch_does h hr hold hd hu hf ht hx,
    fun tag unit o s d h hr hold hd hu hf ht hx hne => dispatch_fails h hr hold hd hu hf ht hx hne,
    fun tag unit o s h hr => dispatch_notReady h hr unit,
    fun tag o s h hw hp ho => promotion_does h hw hp ho,
    fun tag how o s h hr hc h0 he hd hs => operationEnd_ok h hr hc h0 he hd hs how,
    fun tag how o s h hr hc he => operationEnd_fault h hr hc he how,
    fun tag how o s h hr hc he => operationEnd_tileFault h hr hc he how,
    fun t pallet slot s _ h hh => prefetchCopyComplete_does h hh,
    fun t s h hr hn => prefetchWaitExpiry_does h hr hn,
    fun x p s hp h h0 hb => partEnable_on hp h h0 hb,
    fun x p s hp h h1 => partEnable_off hp h h1,
    fun x s h h0 hb => traceEnable_does h h0 hb,
    fun x s hr ht => traceRecords_does hr ht⟩

end

section
/-! SUPPORT. The commands of frames, filter banks, transmit windows and gates in every state (09; 10). -/
namespace Sys2Proof.Machine
open Sys2Proof.Safety

/-! ## Frames and messages -/

theorem frameRx_down {dt p : Nat} {f : Frame} {s : State} (hp : p < 24) (hu : s.linkUp p = false) :
    exec (.frameRx dt p f) s = .next (advance s dt) := by
  show execFrameRx dt p f s = _
  unfold execFrameRx
  rw [if_neg (by omega)]
  dsimp only
  exact if_pos (by rw [linkUp_advance, hu]; rfl)

theorem frameRx_macControl {dt p : Nat} {f : Frame} {s : State} (hp : p < 24) (hu : s.linkUp p = true) (hf : (s.port p).first = true)
    (hc : f.fcsOk = true) (hm : f.macControl = true) : exec (.frameRx dt p f) s = .next (malformed p (frameHeard dt p f s)) := by
  rw [exec_frameRx hp hu hf]
  dsimp only
  rw [hc, if_neg (by decide), if_pos hm]

theorem frameRx_next {dt p : Nat} {f : Frame} {s : State} (hp : p < 24) : ∃ t, exec (.frameRx dt p f) s = .next t := by
  show ∃ t, execFrameRx dt p f s = .next t
  unfold execFrameRx
  rw [if_neg (by omega)]
  dsimp only
  split
  · exact ⟨_, rfl⟩
  · split_ifs
    all_goals exact ⟨_, rfl⟩

/-- A frame at a port: nothing where the link is down, malformed where it is a MAC control frame. -/
theorem frameRx_forms (dt p : Nat) (f : Frame) (s : State) (hp : p < 24) : ∃ t, exec (.frameRx dt p f) s = .next t
    ∧ (s.linkUp p = false → t = advance s dt)
    ∧ (s.linkUp p = true → (s.port p).first = true → f.fcsOk = true → f.macControl = true →
        Counted s t (O.rxFrames p) 1 ∧ Counted s t (O.rxMalformed p) 1) := by
  obtain ⟨t, ht⟩ := frameRx_next (dt := dt) (f := f) (s := s) hp
  refine ⟨t, ht, fun hu => ?_, fun hu hf hc hm => ?_⟩
  · exact Host.Outcome.next.inj (ht.symm.trans (frameRx_down hp hu))
  · have he : t = malformed p (frameHeard dt p f s) := Host.Outcome.next.inj (ht.symm.trans (frameRx_macControl hp hu hf hc hm))
    have h1 : O.rxFrames p ≠ O.rxMalformed p := by simp only [O.rxFrames, O.rxMalformed, ne_eq]; omega
    have h2 : O.rxMalformed p ≠ O.rxBytes p := by simp only [O.rxBytes, O.rxMalformed, ne_eq]; omega
    rw [he]
    exact ⟨(State.obj_bump_ne _ _ _ _ h1).trans (frameHeard_counted dt p f s).1,
      Counted.of_obj (frameHeard_other h1.symm h2) (State.obj_bump_same ..)⟩

theorem uplaneMessageRx_down {dt p : Nat} {m : IqMsg} {s : State} (hp : p < 24) (hu : s.linkUp p = false) :
    exec (.uplaneMessageRx dt p m) s = .next (advance s dt) := by
  show execUplaneMessageRx dt p m s = _
  unfold execUplaneMessageRx
  rw [if_neg (by omega)]
  dsimp only
  exact if_pos (by rw [linkUp_advance, hu]; rfl)

theorem uplaneMessageRx_next {dt p : Nat} {m : IqMsg} {s : State} (hp : p < 24) : ∃ t, exec (.uplaneMessageRx dt p m) s = .next t := by
  show ∃ t, execUplaneMessageRx dt p m s = .next t
  unfold execUplaneMessageRx
  rw [if_neg (by omega)]
  dsimp only
  split
  · exact ⟨_, rfl⟩
  · split
    · exact ⟨_, rfl⟩
    · split
      · exact ⟨_, rfl⟩
      · split
        · exact ⟨_, rfl⟩
        · split_ifs
          all_goals exact ⟨_, rfl⟩

/-- An uplink message at a port: nothing where the link is down, and a carrier's is judged by its sequence. -/
theorem uplaneMessageRx_forms (dt p : Nat) (m : IqMsg) (s : State) (hp : p < 24) : ∃ t, exec (.uplaneMessageRx dt p m) s = .next t
    ∧ (s.linkUp p = false → t = advance s dt)
    ∧ (s.linkUp p = true → m.eBit = true → m.subseq = 0 → listens s = false →
        ∀ n, carrierOf s p m.eaxc = some n → s.obj (O.fhDomain n) ≠ 1 →
          Store.find t.fh.rxSeq (n * 2 ^ 16 + m.eaxc) = some ((m.seq + 1) % 256)) := by
  obtain ⟨t, ht⟩ := uplaneMessageRx_next (dt := dt) (m := m) (s := s) hp
  refine ⟨t, ht, fun hu => ?_, fun hu he hs hl n hc hd => ?_⟩
  · exact Host.Outcome.next.inj (ht.symm.trans (uplaneMessageRx_down hp hu))
  · obtain ⟨t', ht', hseq, -⟩ := uplaneMessage_judged (dt := dt) hp hu he hs (.inl hl) hc hd
    rw [Host.Outcome.next.inj (ht.symm.trans ht')]
    exact hseq

/-! ## FWD_RULES -/

/-- The records of FWD_RULES. -/
def ruleRecord (data : Bytes) (i : Nat) : Bytes := (data.drop (24 * i)).take 24

/-- Whether a record forwards frames to the port that they come in at. -/
def ruleLoops (r : Bytes) : Bool := decide (bytesAt r 0 1 < 24) && bitOf (bytesAt r 20 4) (bytesAt r 0 1)

theorem actFwdRules_ragged {data : Bytes} (h : data.length % 24 ≠ 0) (s : State) : actFwdRules data s = (.typeLength, s) := by
  rw [actFwdRules, if_pos (by simp [h])]

theorem actFwdRules_fields {data : Bytes} (hl : data.length ≤ 1536) (hw : data.length % 24 = 0)
    (hf : (List.range (data.length / 24)).all (fun i => ruleFields (ruleRecord data i)) = false) (s : State) :
    actFwdRules data s = (.valueRange, s) := by
  have hall : (((List.range (data.length / 24)).map (ruleRecord data)).all ruleFields) = false := by
    rw [List.all_map]
    exact hf
  rw [actFwdRules, if_neg (by simp [hw, hl])]
  exact if_pos (by rw [Bool.not_eq_true']; exact hall)

theorem actFwdRules_loops {data : Bytes} (hl : data.length ≤ 1536) (hw : data.length % 24 = 0)
    (hf : (List.range (data.length / 24)).all (fun i => ruleFields (ruleRecord data i)) = true)
    (hx : (List.range (data.length / 24)).any (fun i => ruleLoops (ruleRecord data i)) = true) (s : State) :
    actFwdRules data s = (.forwardingLoop, s) := by
  have hall : (((List.range (data.length / 24)).map (ruleRecord data)).all ruleFields) = true := by
    rw [List.all_map]
    exact hf
  have hany : (((List.range (data.length / 24)).map (ruleRecord data)).any ruleLoops) = true := by
    rw [List.any_map]
    exact hx
  rw [actFwdRules, if_neg (by simp [hw, hl])]
  exact (if_neg (by rw [Bool.not_eq_true', Bool.not_eq_false]; exact hall)).trans (if_pos hany)

/-- FWD_RULES: the reason of each refusal, and the rules taken. -/
theorem writeFwdRules_forms (x : Xfer) (data : Bytes) (s : State) (h : Accepts s x O.fwdRules (.bytes data)) :
    ∃ t, exec (.writeFwdRules x data) s = .next t ∧
      if data.length % 24 ≠ 0 then Answers s t x O.fwdRules (.bytes data) .typeLength [] []
      else if (List.range (data.length / 24)).all (fun i => ruleFields (ruleRecord data i)) = false
      then Answers s t x O.fwdRules (.bytes data) .valueRange [] []
      else if (List.range (data.length / 24)).any (fun i => ruleLoops (ruleRecord data i)) = true
      then Answers s t x O.fwdRules (.bytes data) .forwardingLoop [] []
      else t.blob O.fwdRules = data ∧ Answers s t x O.fwdRules (.bytes data) .ok [.blobs] [O.changeCount] := by
  have hl := fwdRules_length h
  refine ⟨_, rfl, ?_⟩
  by_cases hw : data.length % 24 = 0
  · rw [if_neg (not_not.mpr hw)]
    cases hf : (List.range (data.length / 24)).all (fun i => ruleFields (ruleRecord data i)) with
    | false =>
      rw [if_pos rfl]
      exact (hostWrite_refused h (actFwdRules_fields hl hw hf _)).1
    | true =>
      rw [if_neg Bool.noConfusion]
      cases hx : (List.range (data.length / 24)).any (fun i => ruleLoops (ruleRecord data i)) with
      | true =>
        rw [if_pos rfl]
        exact (hostWrite_refused h (actFwdRules_loops hl hw hf hx _)).1
      | false =>
        rw [if_neg Bool.noConfusion]
        obtain ⟨t, ht, hw⟩ := fwdRules_written h hw fun i hi => ⟨List.all_eq_true.mp hf i (List.mem_range.mpr hi), fun hloop =>
          List.any_eq_false.mp hx i (List.mem_range.mpr hi) (by simp only [ruleLoops, Bool.and_eq_true, decide_eq_true_eq]; exact hloop)⟩
        have ht' : hostWrite x O.fwdRules (.bytes data) (actFwdRules data) s = t := Host.Outcome.next.inj ht
        rw [ht']
        exact hw
  · rw [if_pos hw]
    exact (hostWrite_refused h (actFwdRules_ragged hw _)).1

/-! ## Coefficient banks -/

theorem actTaps_ragged {b : Bytes} (h : b.length % 4 ≠ 0) (c : Nat) (p : Path) (s : State) : actTaps c p b s = (.typeLength, s) := by
  rw [actTaps, if_pos (by simpa using h)]

theorem actTaps_otherCount {c : Nat} {p : Path} {b : Bytes} {s : State} (h4 : b.length % 4 = 0) (hv : tapsValid s c b = true)
    (hu : ¬(s.obj (O.dfeUser c) = 0xFF ∨ tapCount b = tapCount ((s.chain c).path p).front)) : actTaps c p b s = (.badCoefficients, s) := by
  rw [actTaps, if_neg (by simp [h4]), if_neg (by simp [hv]), if_pos]
  rw [Bool.and_eq_true, bne_iff_ne, bne_iff_ne]
  exact not_or.mp hu

/-- Taps written to a path: taken, or refused with its reason. -/
theorem writeTaps_forms (x : Xfer) (c : Nat) (p : Path) (data : Bytes) (s : State) (hc : c < 128) (h : Accepts s x (tapsKey c p) (.bytes data)) :
    ∃ t, exec (.writeTaps x c p data) s = .next t ∧
      if data.length % 4 ≠ 0 then Answers s t x (tapsKey c p) (.bytes data) .typeLength [] []
      else if tapsValid s c data = true ∧ (s.obj (O.dfeUser c) = 0xFF ∨ tapCount data = tapCount ((s.chain c).path p).front)
      then Answers s t x (tapsKey c p) (.bytes data) .ok [.blobs, .dfe] [O.changeCount]
      else Answers s t x (tapsKey c p) (.bytes data) .badCoefficients [] [] := by
  have hv : tapsValid (atWrite s x (tapsKey c p) (.bytes data)) c data = tapsValid s c data := tapsValid_congr (fun k => atWrite_obj ..) c data
  have hu : ((atWrite s x (tapsKey c p) (.bytes data)).obj (O.dfeUser c) = 0xFF
      ∨ tapCount data = tapCount (((atWrite s x (tapsKey c p) (.bytes data)).chain c).path p).front)
      ↔ (s.obj (O.dfeUser c) = 0xFF ∨ tapCount data = tapCount ((s.chain c).path p).front) := by rw [atWrite_obj, atWrite_chain]
  refine ⟨_, if_neg (Nat.not_le.mpr hc), ?_⟩
  by_cases h4 : data.length % 4 = 0
  · rw [if_neg (not_not.mpr h4)]
    by_cases ht : tapsValid s c data = true
    · by_cases hk : s.obj (O.dfeUser c) = 0xFF ∨ tapCount data = tapCount ((s.chain c).path p).front
      · rw [if_pos ⟨ht, hk⟩]
        exact (hostWrite_does (ps := [.blobs, .dfe]) h (actTaps_ok h4 (hv.trans ht) (hu.mpr hk)) (reachTaps_leaves ..) (by decide)).1
      · rw [if_neg fun hn => hk hn.2]
        exact (hostWrite_refused h (actTaps_otherCount h4 (hv.trans ht) fun hn => hk (hu.mp hn))).1
    · rw [if_neg fun hn => ht hn.1]
      exact (hostWrite_refused h (actTaps_invalid h4 (hv.trans (Bool.eq_false_iff.mpr ht)))).1
  · rw [if_pos h4]
    exact (hostWrite_refused h (actTaps_ragged h4 c p _)).1

/-- A commit of a path with no user makes its taps the FRONT. -/
theorem commitTaps_forms (x : Xfer) (c : Nat) (p : Path) (s : State) (hc : c < 128) (h : Accepts s x (commitKey c p) (.num 1)) :
    ∃ t, exec (.commitTaps x c p) s = .next t
      ∧ (((s.chain c).path p).busy = false → ((s.chain c).path p).back = .opened → s.obj (O.dfeUser c) = 0xFF →
          ((t.chain c).path p).front = s.blob (tapsKey c p)) := by
  refine ⟨_, if_neg (Nat.not_le.mpr hc), fun hb ho hu => ?_⟩
  obtain ⟨-, hsame, -⟩ := hostWrite_does (ps := [.dfe]) (ks := []) (act := actTapsCommit c p) h rfl (reachCommit_leaves ..) (by decide)
  rw [chain_congr (hsame .dfe (by decide)), reachTaps_free (by rw [atWrite_chain]; exact hb),
    applyTaps_commit_idle (by rw [atWrite_chain]; exact ho) (by rw [atWrite_obj]; exact hu), onPath_path, atWrite_blob]
  rfl

/-- What a failed check of a path calls for. -/
def crcReported (c : Nat) (p : Path) (s : State) : State :=
  match p with
  | .tx => if (failedRx c s).gangCarrier c < 64 then detect 4 0 ((failedRx c s).gangCarrier c) c (failedRx c s) else failedRx c s
  | .rx => failedRx c s

theorem crcReported_chain (c : Nat) (p : Path) (s : State) (j : Nat) : (crcReported c p s).chain j = s.chain j := by
  have hf : (failedRx c s).chain j = s.chain j := failedRx_chain ..
  unfold crcReported
  split
  · split
    · exact (chain_congr ((detect_moves ..).same .dfe (by decide)) j).trans hf
    · exact hf
  · exact hf

theorem coefCrcCheck_next {c : Nat} {p : Path} {ok : Bool} {s : State} (hc : c < 128) :
    exec (.coefCrcCheck c p ok) s = .next (checkCrcs c p ok s) ∨ exec (.coefCrcCheck c p ok) s = .next (crcReported c p (checkCrcs c p ok s)) := by
  show execCoefCrcCheck c p ok s = _ ∨ execCoefCrcCheck c p ok s = _
  unfold execCoefCrcCheck
  rw [if_neg (show ¬ 128 ≤ c from Nat.not_le.mpr hc)]
  dsimp only
  split
  · refine .inr ?_
    cases p with
    | tx => rfl
    | rx => rfl
  · exact .inl rfl

theorem checkCrcs_ok (c : Nat) (p : Path) (s : State) :
    (((checkCrcs c p true s).chain c).path p).bad = (crc32 ((s.chain c).path p).front != ((s.chain c).path p).crc) := by
  unfold checkCrcs
  dsimp only
  rw [if_pos rfl, onPath_path]

theorem checkCrcs_fails (c : Nat) (p : Path) (s : State) : (((checkCrcs c p false s).chain c).path p).fails = true := by
  cases hf : ((s.chain c).path p).fading with
  | false =>
    rw [checkCrcs_turned hf, onPath_path]
    rfl
  | true =>
    obtain ⟨f, b, hk, hfb⟩ := checkCrcs_fading hf
    have hpath : (s.free.2.chain c).path p = (s.chain c).path p := rfl
    rw [hk, onPath_path, CoefPath.fails, markedPath, hpath, hf]
    rcases hfb with rfl | rfl
    · rfl
    · exact Bool.or_true _

/-- A check of a path's CRC marks what it finds. -/
theorem coefCrcCheck_forms (c : Nat) (p : Path) (s : State) (hc : c < 128) (ok : Bool) : ∃ t, exec (.coefCrcCheck c p ok) s = .next t
    ∧ (ok = true → ((t.chain c).path p).bad = (crc32 ((s.chain c).path p).front != ((s.chain c).path p).crc))
    ∧ (ok = false → ((t.chain c).path p).fails = true) := by
  have hchecked : (ok = true → (((checkCrcs c p ok s).chain c).path p).bad = (crc32 ((s.chain c).path p).front != ((s.chain c).path p).crc))
      ∧ (ok = false → (((checkCrcs c p ok s).chain c).path p).fails = true) :=
    ⟨fun h => h ▸ checkCrcs_ok c p s, fun h => h ▸ checkCrcs_fails c p s⟩
  rcases coefCrcCheck_next (p := p) (ok := ok) (s := s) hc with he | he
  · exact ⟨_, he, hchecked⟩
  · refine ⟨_, he, ?_⟩
    rw [crcReported_chain]
    exact hchecked

/-! ## Transmit windows and gates -/

theorem txWindowOpen_next {n : Nat} {s : State} (hn : n < 64) : ∃ t, exec (.txWindowOpen n) s = .next t := by
  show ∃ t, execTxWindowOpen n s = .next t
  unfold execTxWindowOpen
  rw [if_neg (by omega)]
  split
  · exact ⟨_, rfl⟩
  · split
    · exact ⟨_, rfl⟩
    · dsimp only
      split
      · exact ⟨_, rfl⟩
      · split
        · exact ⟨_, rfl⟩
        · exact ⟨_, rfl⟩

theorem txWindowOpen_off {n : Nat} {s : State} (hn : n < 64) (h : s.obj (O.carrierEnable n) = 0) : exec (.txWindowOpen n) s = .next s := by
  show execTxWindowOpen n s = _
  unfold execTxWindowOpen
  rw [if_neg (by omega)]
  exact if_pos (by simp [State.holds, h, stOff])

theorem txWindowOpen_fdd {n : Nat} {s : State} (hn : n < 64) (h : s.obj (O.carrierEnable n) = 1) (ha : s.airRunning = true)
    (hd : s.obj (O.duplex n) = 0) (hg : gapMutes s n s.airNow = false) : exec (.txWindowOpen n) s = .next (s.setObj (O.txwOpen n) 1) := by
  have hx : endlessClosed s n s.airNow = false := by rw [endlessClosed, hd]; rfl
  show execTxWindowOpen n s = _
  unfold execTxWindowOpen
  rw [if_neg (by omega), if_neg (by simp [State.holds, h, stOff, ha]), if_pos (by rw [hd]; rfl),
    if_pos (by simp [State.isOn, h, stOn, hg, hx])]

/-- The opening of a transmit window. -/
theorem txWindowOpen_forms (n : Nat) (s : State) (hn : n < 64) : ∃ t, exec (.txWindowOpen n) s = .next t
    ∧ (s.obj (O.carrierEnable n) = 0 → t = s)
    ∧ (s.obj (O.carrierEnable n) = 1 → s.airRunning = true → s.obj (O.duplex n) = 0 → gapMutes s n s.airNow = false →
        t.obj (O.txwOpen n) = 1 ∧ Leaves s t [.dict] [O.txwOpen n]) := by
  obtain ⟨t, ht⟩ := txWindowOpen_next (s := s) hn
  refine ⟨t, ht, fun h => ?_, fun h ha hd hg => ?_⟩
  · exact Host.Outcome.next.inj (ht.symm.trans (txWindowOpen_off hn h))
  · rw [Host.Outcome.next.inj (ht.symm.trans (txWindowOpen_fdd hn h ha hd hg))]
    exact ⟨State.obj_setObj_same .., Leaves.setObj _ _ _ (by decide) (by simp)⟩

theorem txWindowClose_closed {n : Nat} {s : State} (hn : n < 64) (h : s.obj (O.txwOpen n) ≠ 1 ∨ s.obj (O.duplex n) = 0) :
    exec (.txWindowClose n) s = .next s := by
  show execTxWindowClose n s = _
  unfold execTxWindowClose
  rw [if_neg (by omega)]
  exact if_pos (by simpa using h)

theorem txWindowClose_open {n : Nat} {s : State} (hn : n < 64) (h : s.obj (O.txwOpen n) = 1) (hd : s.obj (O.duplex n) ≠ 0) :
    exec (.txWindowClose n) s = match nextClosing s n (Store.at 0 s.dfe.opened n + 1) with
      | some q => .next ((advanceToAir s (s.symbolAir n q)).setObj (O.txwOpen n) 0)
      | none => .next s := by
  show execTxWindowClose n s = _
  unfold execTxWindowClose
  rw [if_neg (by omega), if_neg (by simp [h, hd])] <;> rfl

/-- The closing of a transmit window. -/
theorem txWindowClose_forms (n : Nat) (s : State) (hn : n < 64) : ∃ t, exec (.txWindowClose n) s = .next t ∧ (s.obj (O.txwOpen n) ≠ 1 → t = s)
    ∧ (∀ q, s.obj (O.txwOpen n) = 1 → s.obj (O.duplex n) ≠ 0 → nextClosing s n (Store.at 0 s.dfe.opened n + 1) = some q →
        t.obj (O.txwOpen n) = 0 ∧ t.clock = (advanceToAir s (s.symbolAir n q)).clock) := by
  by_cases h : s.obj (O.txwOpen n) = 1 ∧ s.obj (O.duplex n) ≠ 0
  · obtain ⟨ho, hd⟩ := h
    rw [txWindowClose_open hn ho hd]
    split
    · next q hq =>
      refine ⟨_, rfl, fun hn => absurd ho hn, fun r _ _ hr => ?_⟩
      cases hq.symm.trans hr
      exact ⟨State.obj_setObj_same .., rfl⟩
    · next hq => exact ⟨_, rfl, fun _ => rfl, fun r _ _ hr => absurd (hq.symm.trans hr) nofun⟩
  · refine ⟨s, txWindowClose_closed hn ?_, fun _ => rfl, fun q ho hd _ => absurd ⟨ho, hd⟩ h⟩
    by_contra hc
    rw [not_or, not_not] at hc
    exact h hc

theorem txgateEdge_idle {g : Nat} {active : Bool} {s : State} (hg : g < 16)
    (h : 64 ≤ s.nat (O.txgCarrier g) ∨ s.obj (O.carrierEnable (s.nat (O.txgCarrier g))) = 0) :
    exec (.txgateEdge g active) s = .next (setGate g false s) := by
  show execTxgateEdge g active s = _
  unfold execTxgateEdge
  rw [if_neg (by omega)]
  dsimp only
  by_cases h64 : 64 ≤ s.nat (O.txgCarrier g)
  · exact if_pos h64
  · rw [if_neg h64]
    exact if_pos (by simp [State.holds, h.resolve_left h64, stOff])

/-- The edge of a gate, and its level with no carrier. -/
theorem txgateEdge_forms (g : Nat) (active : Bool) (s : State) (hg : g < 16) : ∃ t, exec (.txgateEdge g active) s = .next t
    ∧ (64 ≤ s.nat (O.txgCarrier g) ∨ s.obj (O.carrierEnable (s.nat (O.txgCarrier g))) = 0 → t.obj (O.txgLevel g) = 0) := by
  obtain ⟨t, ht⟩ : ∃ t, exec (.txgateEdge g active) s = .next t :=
    commandsComplete.1 (.txgateEdge g active) s (decide_eq_true hg)
  refine ⟨t, ht, fun h => ?_⟩
  rw [Host.Outcome.next.inj (ht.symm.trans (txgateEdge_idle hg h))]
  exact (setGate_shows hg false s).1

end Sys2Proof.Machine
end

section
/-! SUPPORT. The commands of tasks and of fused jobs in every state (11; 12). -/
namespace Sys2Proof.Machine
open Sys2Proof.Safety

/-! ## Tasks -/

theorem startTask_tiles (t tag : Nat) (o : Op) (s : State) : Store.find (startTask t tag o s).tiles t
    = some (startCtx (readied t s) t tag (startedOp s o) (startInputs s t o)) := by
  rw [startTask_eq, readied_now, startInputs_readied]
  generalize hC : startCtx (readied t s) t tag (startedOp s o) (startInputs s t o) = C
  generalize argued t tag o (startedOp s o) (readied t s) = A
  have h1 := (traceOp_leaves 3 tag (startedOp s o) 0 0 0 (showTile t ((putCtx t C A).onOp tag fun _ => startedOp s o))).1 .tiles (by decide)
  have h2 := (showTile_leaves t ((putCtx t C A).onOp tag fun _ => startedOp s o)).1 .tiles (by decide)
  have h3 : ((putCtx t C A).onOp tag fun _ => startedOp s o).tiles = (putCtx t C A).tiles :=
    (Leaves.onOp _ _ _ (ps := [.sched]) (ks := []) (by decide)).1 .tiles (by decide)
  rw [h1, h2, h3]
  exact Store.find_put_same ..

/-- The start of a task, where one may start. -/
theorem taskStart_forms (t : Nat) (s : State) (ht : t < 200) : ∃ s', exec (.taskStart t) s = .next s' ∧
    match startable s t with
    | some (tag, o) => ∃ c, Store.find s'.tiles t = some c ∧ c.tag = tag ∧ c.gen = o.gen
    | none => s' = s := by
  cases h : startable s t with
  | some e =>
    obtain ⟨tag, o⟩ := e
    exact ⟨_, execTaskStart_due ht h, _, startTask_tiles .., rfl, rfl⟩
  | none =>
    refine ⟨s, ?_, rfl⟩
    show execTaskStart t s = _
    unfold execTaskStart
    rw [if_neg (by simpa [tileCount] using ht), h]

theorem taskEndReport_empty {t : Nat} {s : State} (ht : t < 200) (h : Store.find s.tiles t = none) : exec (.taskEndReport t) s = .next s := by
  show execTaskEndReport t s = _
  unfold execTaskEndReport
  rw [if_neg (by simpa [tileCount] using ht), h]

theorem taskEndReport_running {t : Nat} {s : State} {c : Ctx} (ht : t < 200) (h : Store.find s.tiles t = some c) (he : c.ended = none) :
    exec (.taskEndReport t) s = .next s := by
  show execTaskEndReport t s = _
  unfold execTaskEndReport
  rw [if_neg (by simpa [tileCount] using ht), h]
  dsimp only
  rw [he]

theorem reported_tiles (t : Nat) (c : Ctx) (how : TaskEnd) (s : State) :
    (showTile t (slotFreed t c how (countTask t c how s))).tiles = Store.drop s.tiles t := by
  have h1 : (countTask t c how s).tiles = s.tiles := (countTask_leaves t c how s).1 .tiles (by decide)
  exact ((showTile_leaves ..).1 .tiles (by decide)).trans ((slotFreed_tiles ..).trans (by rw [h1]))

/-- The report of a task's end, where one has ended. -/
theorem taskEndReport_forms (t : Nat) (s : State) (ht : t < 200) : ∃ s', exec (.taskEndReport t) s = .next s' ∧
    match Store.find s.tiles t with
    | some c => (c.ended = none → s' = s) ∧ (c.ended ≠ none → (∀ j ∈ c.jobs, j.2.settled = true) → Store.find s'.tiles t = none)
    | none => s' = s := by
  obtain ⟨s', hs'⟩ := commandsComplete.1 (.taskEndReport t) s (decide_eq_true ht)
  refine ⟨s', hs', ?_⟩
  cases h : Store.find s.tiles t with
  | none => exact Host.Outcome.next.inj (hs'.symm.trans (taskEndReport_empty ht h))
  | some c =>
    refine ⟨fun he => Host.Outcome.next.inj (hs'.symm.trans (taskEndReport_running ht h he)), fun he hj => ?_⟩
    obtain ⟨how, he⟩ := Option.ne_none_iff_exists'.mp he
    rw [Host.Outcome.next.inj (hs'.symm.trans (execTaskEndReport_due ht h he hj)), reported_tiles]
    exact Store.find_drop_same ..

/-- The cancel of a task on its tile. -/
theorem tileCancel_forms (t : Nat) (s : State) (ht : t < 200) : ∃ s', exec (.tileCancel t) s = .next s' ∧
    match Store.find s.tiles t with
    | some c => c.ended = none → (∀ o, s.op c.tag = some o → o.cancel = true) →
        ∃ c', Store.find s'.tiles t = some c' ∧ c'.ended = some .cancelled ∧ c'.staged = []
    | none => s' = s := by
  obtain ⟨s', hs'⟩ := commandsComplete.1 (.tileCancel t) s (decide_eq_true ht)
  refine ⟨s', hs', ?_⟩
  cases h : Store.find s.tiles t with
  | none =>
    have hn : exec (.tileCancel t) s = .next s := by
      show execTileCancel t s = _
      unfold execTileCancel
      rw [if_neg (by simpa [tileCount] using ht), h]
    exact Host.Outcome.next.inj (hs'.symm.trans hn)
  | some c =>
    intro he hd
    rw [Host.Outcome.next.inj (hs'.symm.trans (execTileCancel_due ⟨ht, h, he⟩ hd))]
    exact ⟨_, Store.find_put_same .., rfl, rfl⟩

/-! ## Fused jobs -/

/-- A FUSE of a class other than decode holds its job, whether it was sent at once or waits. -/
theorem fuse_holds {t gd ga cls slot : Nat} {sizes : List Nat} {d : Bytes} {s : State} {c : Ctx} (h : OnSlot s t c) (hc : cls < 4) (hd : gd < 32)
    (ha : ga < 32) (hj : judgeFuse s t c (gReg c ga).toNat cls sizes = .ok (d, slot)) (h0 : cls ≠ 0) :
    ∃ s' c' j, exec (.fuse t gd ga cls sizes) s = .next s' ∧ SlotBecomes s s' t c' ∧ Store.find c'.jobs slot = some j ∧ j.cls = cls
      ∧ j.settled = false ∧ c'.pc = c.pc + 4 := by
  by_cases hb : s.obj (O.bondState (t / 2)) = 2
  · refine ⟨_, nextPc (fuseCtx c gd slot (fuseJob s t c (gReg c ga).toNat cls sizes d)), fuseJob s t c (gReg c ga).toNat cls sizes d,
      (execFuse_ok h hc hd ha hj).trans (congrArg _ (if_pos hb)), ⟨(atFuse_found ..).1, fun u hu => ?_⟩, (atFuse_found s t c gd slot _).2, rfl, rfl, ?_⟩
    · exact Store.find_put_ne _ _ _ _ hu
    · rw [fuseCtx_pc]
  · refine ⟨_, { fuseCtx c gd slot (sentJob (fuseJob s t c (gReg c ga).toNat cls sizes d)) with pc := c.pc + 4 },
      sentJob (fuseJob s t c (gReg c ga).toNat cls sizes d),
      (execFuse_ok h hc hd ha hj).trans (congrArg _ ((if_neg hb).trans (sendJob_fused s t c gd slot h0))),
      ⟨Store.find_put_same .., fun u hu => ?_⟩, ?_, rfl, rfl, rfl⟩
    · exact (Store.find_put_ne _ _ _ _ hu).trans (Store.find_put_ne _ _ _ _ hu)
    · show Store.find (fuseCtx c gd slot (sentJob (fuseJob s t c (gReg c ga).toNat cls sizes d))).jobs slot = _
      unfold fuseCtx
      rw [setG_jobs]
      exact Store.find_put_same ..

/-- FUSE: the job held, or the refusal counted. -/
theorem fuse_forms (t gd ga cls : Nat) (sizes : List Nat) (s : State) (c : Ctx) (h : OnSlot s t c) (hc : cls < 4) (hd : gd < 32) (ha : ga < 32) :
    ∃ s', exec (.fuse t gd ga cls sizes) s = .next s' ∧
      match judgeFuse s t c (gReg c ga).toNat cls sizes with
      | .ok (_, slot) => cls ≠ 0 → ∃ c' j, SlotBecomes s s' t c' ∧ Store.find c'.jobs slot = some j ∧ j.cls = cls ∧ j.settled = false
          ∧ c'.pc = c.pc + 4
      | .error e => e.code = 12 → Counted s s' O.fusedRefused 1 := by
  cases hj : judgeFuse s t c (gReg c ga).toNat cls sizes with
  | error e => exact ⟨_, execFuse_error h hc hd ha hj, fun he => (takeExc_fused t c e s he).1⟩
  | ok x =>
    obtain ⟨d, slot⟩ := x
    refine ⟨_, execFuse_ok h hc hd ha hj, fun h0 => ?_⟩
    obtain ⟨s', c', j, he, hj'⟩ := fuse_holds h hc hd ha hj h0
    rw [Host.Outcome.next.inj ((execFuse_ok h hc hd ha hj).symm.trans he)]
    exact ⟨c', j, hj'⟩

/-- The end of a kiln job that was refused issues no fused job. -/
theorem jobDone_fusedIssued (tag status : Nat) (j : Job) (s : State) : (jobDone tag status j s).obj O.fusedIssued = s.obj O.fusedIssued := by
  have hc (u : State) : (countJob j.kind status u).obj O.fusedIssued = u.obj O.fusedIssued := (countJob_leaves ..).2 _ (by decide)
  have hk : (s.onKiln tag fun _ => { j with status := some status }).obj O.fusedIssued = s.obj O.fusedIssued := State.onKiln_obj ..
  have he (t slot word : Nat) (f : FusedJob) (u : State) : (fusedEnd t slot word f u).obj O.fusedIssued = u.obj O.fusedIssued := by
    unfold fusedEnd
    split
    · refine (State.obj_bump_ne _ _ _ _ (by decide)).trans ((State.onJob_obj ..).trans ?_)
      split
      · exact State.obj_bump_ne _ _ _ _ (by decide)
      · rfl
    · exact State.onJob_obj ..
  unfold jobDone
  dsimp only
  split
  · exact (State.onOp_obj ..).trans ((hc _).trans hk)
  · split
    · exact (he ..).trans ((State.onJob_obj ..).trans ((hc _).trans hk))
    · exact (hc _).trans hk

theorem sendJob_counted (t slot : Nat) (j : FusedJob) (s : State) : Counted s (sendJob t slot j s) O.fusedIssued 1 := by
  have hb : ((s.bump O.fusedIssued 1).onJob t slot fun _ => { j with sent := true }).obj O.fusedIssued
      = ((s.nat O.fusedIssued + 1) % counterTop O.fusedIssued : Nat) := (State.onJob_obj ..).trans (State.obj_bump_same ..)
  unfold sendJob
  dsimp only
  split
  · split
    · exact (jobDone_fusedIssued ..).trans (((blockEnds_leaves _ _ _ (ks := [])).2 _ List.not_mem_nil).trans hb)
    · exact hb
  · exact hb

theorem fusedJobSend_next {t slot : Nat} {s : State} (ht : t < 200) : exec (.fusedJobSend t slot) s
    = match (Store.find s.tiles t).bind fun c => Store.find c.jobs slot with
      | some j => .next (if j.sent || j.settled then s else sendJob t slot j s)
      | none => .next s := if_neg (by simpa [tileCount] using ht)

/-- A fused job that waits is sent; another is not. -/
theorem fusedJobSend_forms (t slot : Nat) (s : State) (ht : t < 200) : ∃ s', exec (.fusedJobSend t slot) s = .next s' ∧
    match (Store.find s.tiles t).bind fun c => Store.find c.jobs slot with
    | some j => if j.sent = true ∨ j.settled = true then s' = s else Counted s s' O.fusedIssued 1
    | none => s' = s := by
  rw [fusedJobSend_next ht]
  cases (Store.find s.tiles t).bind fun c => Store.find c.jobs slot with
  | none => exact ⟨s, rfl, rfl⟩
  | some j =>
    refine ⟨_, rfl, ?_⟩
    dsimp only
    by_cases hs : j.sent = true ∨ j.settled = true
    · rw [if_pos hs, if_pos (by simpa using hs)]
    · rw [if_neg hs, if_neg (by simpa using hs)]
      exact sendJob_counted ..

/-- A job that is published is counted. -/
theorem fusedPublication_counted {t slot : Nat} {result : Bytes} {outputs : List (Nat × Bytes)} {s : State} {c : Ctx} {j : FusedJob} (ht : t < 200)
    (hc : Store.find s.tiles t = some c) (hj : Store.find c.jobs slot = some j) (hs : j.sent = true) (hn : j.settled = false) (hx : j.cancel = false)
    (he : jobEnded j = true) : ∃ s', exec (.fusedPublication t slot result outputs) s = .next s' ∧ Counted s s' O.fusedPublished 1 := by
  obtain ⟨ys, hw⟩ := atPublish_wrote s t c j outputs
  have hl : (countEncode s j (fusedEncode s t j).2.2).obj O.fusedPublished = s.obj O.fusedPublished :=
    (countEncode_leaves s j _).2 _ (by split <;> decide)
  have hd : (atPublish s t c j outputs).2.dict = (countEncode s j (fusedEncode s t j).2.2).dict := hw.dict
  exact ⟨_, execFusedPublication_due ht hc hj hs hn hx he, Counted.of_obj ((State.obj_congr hd _).trans hl) (State.obj_bump_same ..)⟩

theorem fusedPublication_idle {t slot : Nat} {result : Bytes} {outputs : List (Nat × Bytes)} {s : State} (ht : t < 200)
    (h : ∀ c j, Store.find s.tiles t = some c → Store.find c.jobs slot = some j →
      ¬(j.sent = true ∧ j.settled = false ∧ j.cancel = false ∧ jobEnded j = true)) :
    exec (.fusedPublication t slot result outputs) s = .next s := by
  show execFusedPublication t slot result outputs s = _
  unfold execFusedPublication
  rw [if_neg (by simpa [tileCount] using ht)]
  split
  · next c j hf =>
    obtain ⟨c', hc, hm⟩ := Option.bind_eq_some_iff.mp hf
    obtain ⟨j', hj, he⟩ := Option.map_eq_some_iff.mp hm
    cases he
    refine if_neg fun hg => h c j hc hj ?_
    simpa [and_assoc] using hg
  · rfl

/-- The publication of a fused job, where it is due. -/
theorem fusedPublication_forms (t slot : Nat) (result : Bytes) (outputs : List (Nat × Bytes)) (s : State) (ht : t < 200) :
    ∃ s', exec (.fusedPublication t slot result outputs) s = .next s' ∧
      match (Store.find s.tiles t).bind fun c => Store.find c.jobs slot with
      | some j => if j.sent = true ∧ j.settled = false ∧ j.cancel = false ∧ jobEnded j = true then Counted s s' O.fusedPublished 1 else s' = s
      | none => s' = s := by
  cases hb : (Store.find s.tiles t).bind fun c => Store.find c.jobs slot with
  | none =>
    refine ⟨s, fusedPublication_idle ht fun c j hc hj => ?_, rfl⟩
    rw [hc] at hb
    exact absurd (hb.symm.trans hj) nofun
  | some j =>
    obtain ⟨c, hc, hj⟩ := Option.bind_eq_some_iff.mp hb
    by_cases hg : j.sent = true ∧ j.settled = false ∧ j.cancel = false ∧ jobEnded j = true
    · obtain ⟨hs, hn, hx, he⟩ := hg
      obtain ⟨s', hs', hcount⟩ := fusedPublication_counted (result := result) (outputs := outputs) ht hc hj hs hn hx he
      refine ⟨s', hs', ?_⟩
      dsimp only
      rw [if_pos ⟨hs, hn, hx, he⟩]
      exact hcount
    · refine ⟨s, fusedPublication_idle ht fun c' j' hc' hj' => ?_, ?_⟩
      · cases hc.symm.trans hc'
        cases hj.symm.trans hj'
        exact hg
      · dsimp only
        rw [if_neg hg]

end Sys2Proof.Machine
end

section
/-! SUPPORT. The commands of UE contexts and weight banks in every state (06; 08). -/
namespace Sys2Proof.Machine
open Sys2Proof.Safety

/-! ## What an answered write leaves -/

/-- A part that neither the write nor its service changes. -/
theorem Answers.part {s t : State} {x : Xfer} {key : Nat} {v : Val} {r : Reason} {ps : List Part} {ks : List Nat} (h : Answers s t x key v r ps ks)
    (p : Part) (hp : p ∉ ps ++ .dict :: .link :: .svc :: timeParts) : Part.same s t p := by
  obtain ⟨-, hs, -⟩ := h
  refine hs p fun hm => hp ?_
  rcases List.mem_append.mp hm with hm | hm
  · exact List.mem_append_left _ hm
  · refine List.mem_append_right _ ?_
    split at hm
    · exact (by decide : Part.dict :: .link :: timeParts ⊆ Part.dict :: .link :: .svc :: timeParts) hm
    · exact hm

/-- An object that neither the write nor its service changes. -/
theorem Answers.nat {s t : State} {x : Xfer} {key : Nat} {v : Val} {r : Reason} {ps : List Part} {ks : List Nat} (h : Answers s t x key v r ps ks)
    {k : Nat} (h1 : k ∉ ks) (h2 : k ∉ [O.transfersServed, O.transfersRefused, O.busyReplies]) : t.nat k = s.nat k := by
  obtain ⟨-, -, ho⟩ := h
  exact congrArg Int.toNat (ho k h1 h2)

/-! ## UE contexts -/

/-- A UE context is written, or the limit refuses it. -/
theorem writeUeContext_forms (x : Xfer) (s : State) (data : Bytes) (h : Accepts s x O.ueContext (.bytes data)) :
    ∃ t, exec (.writeUeContext x data) s = .next t
      ∧ (s.nat O.ueIndex < s.nat O.ueCtxLimit → (t.ue (s.nat O.ueIndex)).state = 1 ∧ (t.ue (s.nat O.ueIndex)).host = data)
      ∧ (s.nat O.ueCtxLimit ≤ s.nat O.ueIndex → t.pipe = s.pipe) := by
  obtain ⟨t, ht, hd⟩ := ueContexts.1 x data s h
  refine ⟨t, ht, fun hi => ?_, fun hi => ?_⟩
  · rw [if_pos hi] at hd
    rw [hd.1]
    exact ⟨rfl, rfl⟩
  · rw [if_neg (Nat.not_lt.mpr hi)] at hd
    exact Answers.part hd .pipe (by decide)

/-- A UE context is released, or nothing is. -/
theorem writeUeRelease_forms (x : Xfer) (s : State) (i : Nat) (h : Accepts s x O.ueRelease (.num i)) :
    ∃ t, exec (.writeUeRelease x i) s = .next t
      ∧ ((s.ue i).state ≠ 1 → t.pipe = s.pipe)
      ∧ ((s.ue i).state = 1 → s.pipe.courses.any (fun c => c.2.live && c.2.pins.contains i) = true → (t.ue i).state = 2) := by
  obtain ⟨t, ht, hd⟩ := ueContexts.2 x i s h
  refine ⟨t, ht, fun hi => ?_, fun hi hp => ?_⟩
  · rw [if_neg hi] at hd
    exact Answers.part hd .pipe (by decide)
  · rw [if_pos hi, if_pos hp] at hd
    rw [hd.2.1]

/-! ## Weight banks -/

/-- An entry is defined for its carrier, or the entries stay. -/
theorem wbDefine_forms (x : Xfer) (s : State) (h : Accepts s x O.wbDefine (.num 1)) : ∃ t, exec (.wbDefine x) s = .next t
    ∧ (64 ≤ s.nat O.wbOwner → t.wb = s.wb)
    ∧ (∀ e, Store.find t.wb (s.nat O.wbIndex) = some e → t.wb ≠ s.wb →
        e.owner = s.nat O.wbOwner ∧ e.ports = s.nat O.wbPorts ∧ e.layers = s.nat O.wbLayers ∧ e.subbands = s.nat O.wbSubbands
          ∧ e.back = .opened ∧ e.deleting = false) := by
  obtain ⟨r, -, hd⟩ := wbDefine_answers h
  refine ⟨_, rfl, ?_⟩
  have hsame (hw : (hostWrite x O.wbDefine (.num 1) (actWbDefine 1) s).wb = s.wb) :
      (64 ≤ s.nat O.wbOwner → (hostWrite x O.wbDefine (.num 1) (actWbDefine 1) s).wb = s.wb)
      ∧ (∀ e, Store.find (hostWrite x O.wbDefine (.num 1) (actWbDefine 1) s).wb (s.nat O.wbIndex) = some e →
        (hostWrite x O.wbDefine (.num 1) (actWbDefine 1) s).wb ≠ s.wb →
        e.owner = s.nat O.wbOwner ∧ e.ports = s.nat O.wbPorts ∧ e.layers = s.nat O.wbLayers ∧ e.subbands = s.nat O.wbSubbands
          ∧ e.back = .opened ∧ e.deleting = false) := ⟨fun _ => hw, fun _ _ hn => absurd hw hn⟩
  split at hd
  · exact hsame hd.2
  · split at hd
    · exact hsame hd.2
    · next c hc =>
      split at hd
      · next hok =>
        refine ⟨fun h64 => absurd hok.1 (Nat.not_lt.mpr h64), fun e he _ => ?_⟩
        have hn (k : Nat) : (advance s x.dt).nat k = s.nat k := congrArg Int.toNat (State.obj_advance ..)
        rw [hd.2, Store.find_put_same, Option.some.injEq] at he
        rw [← he, newEntry]
        exact ⟨hn _, hn _, hn _, hn _, rfl, rfl⟩
      · exact hsame hd.2

/-- An entry that an accepted course names is deleting after its deletion. -/
theorem wbDelete_forms (x : Xfer) (s : State) (h : Accepts s x O.wbDefine (.num 0)) : ∃ t, exec (.wbDelete x) s = .next t
    ∧ (∀ e, s.wbSel = some e → s.pipe.courses.any (fun c => c.2.live && c.2.entries.contains (s.nat O.wbIndex)) = true →
        (t.wbSel).map (·.deleting) = some true) := by
  obtain ⟨-, hdelete, -⟩ := weightBankWrites
  obtain ⟨t, ht, ha, hd⟩ := hdelete x s h
  refine ⟨t, ht, fun e he hc => ?_⟩
  rw [he] at hd
  dsimp only at hd
  rw [if_pos hc] at hd
  rw [State.wbSel, Answers.nat ha List.not_mem_nil (by decide), hd]
  rfl

/-- Weights of no entry are refused. -/
theorem writeWbWeights_forms (x : Xfer) (s : State) (data : Bytes) (h : Accepts s x O.wbWeights (.bytes data)) :
    ∃ t, exec (.writeWbWeights x data) s = .next t
      ∧ (s.wbSel = none → t.wb = s.wb ∧ Replied s t x O.wbWeights (.bytes data) .noObject) := by
  obtain ⟨-, -, -, -, hweights, -⟩ := weightBankWrites
  obtain ⟨t, ht, hd⟩ := hweights x data s h
  refine ⟨t, ht, fun hn => ?_⟩
  rw [hn] at hd
  exact ⟨Answers.part hd .wb (by decide), hd.1⟩

/-- A commit of no entry is refused, and one of an open BACK commits it. -/
theorem wbCommit_forms (x : Xfer) (s : State) (h : Accepts s x O.wbCommit (.num 1)) : ∃ t, exec (.wbCommit x) s = .next t
    ∧ (s.wbSel = none → t.wb = s.wb ∧ Replied s t x O.wbCommit (.num 1) .noObject)
    ∧ (∀ e, s.wbSel = some e → e.deleting = false → e.back = .opened → (t.wbSel).map (·.back) = some .committed) := by
  obtain ⟨-, -, -, -, -, hcommit, -⟩ := weightBankWrites
  obtain ⟨t, ht, hd⟩ := hcommit x s h
  refine ⟨t, ht, fun hn => ?_, fun e he hdel hb => ?_⟩
  · rw [hn] at hd
    exact ⟨Answers.part hd .wb (by decide), hd.1⟩
  · rw [he] at hd
    dsimp only at hd
    rw [hdel, if_neg Bool.false_ne_true] at hd
    obtain ⟨ha, e', hf, ho, -⟩ := hd
    rw [State.wbSel, Answers.nat ha List.not_mem_nil (by decide), hf, Option.map_some, (ho hb).1]

/-- A copy that does not run does not complete. -/
theorem wbCopyComplete_forms (s : State) (i : Nat) : ∃ t, exec (.wbCopyComplete i) s = .next t
    ∧ (∀ e, Store.find s.wb i = some e → e.back ≠ .copying → t = s) := by
  obtain ⟨-, -, -, -, -, -, hcopy⟩ := weightBankWrites
  obtain ⟨t, ht, hd⟩ := hcopy i s
  refine ⟨t, ht, fun e he hb => ?_⟩
  rw [he] at hd
  dsimp only at hd
  rwa [if_neg hb] at hd

end Sys2Proof.Machine
end

section
/-! SUPPORT. The commands of rings and arbiters in every state (14). -/
namespace Sys2Proof.Machine
open Sys2Proof.Safety

/-! ## Rings -/

theorem linkFault_obj (ring stop : Nat) (lock : Bool) (s : State) {k : Nat} (h : k ∉ [O.ringState ring, O.faultStop ring, O.faultCauses]) :
    (linkFault ring stop lock s).obj k = s.obj k := by
  simp only [List.mem_cons, List.not_mem_nil, or_false, not_or] at h
  obtain ⟨h1, h2, h3⟩ := h
  unfold linkFault
  dsimp only
  split
  · exact (State.obj_setObj_ne _ _ _ _ h2).trans (State.obj_setObj_ne _ _ _ _ h1)
  · split
    · rfl
    · rfl
  · split
    · rfl
    · exact (State.obj_setObj_ne _ _ _ _ h3).trans (State.obj_setObj_ne _ _ _ _ h1)
  · rfl

/-- A link's fault reverses a WHOLE ring, and concerns no other. -/
theorem ringLinkFault_forms (ring stop : Nat) (lock : Bool) (s : State) (hr : ring < 8) (hs : stop < 48) :
    ∃ t, exec (.ringLinkFault ring stop lock) s = .next t ∧ (s.obj (O.ringState ring) = 0 → t.obj (O.ringState ring) = 1)
      ∧ (∀ r, r < 8 → r ≠ ring → t.obj (O.ringState r) = s.obj (O.ringState r)) := by
  refine ⟨_, exec_ringLinkFault hr hs, fun h => ?_, fun r h8 hne => linkFault_obj ring stop lock s ?_⟩
  · rw [linkFault_whole h]
    exact reversalBegun_shows.1
  · simp only [O.ringState, O.faultStop, O.faultCauses, List.mem_cons, List.not_mem_nil, or_false, not_or]
    omega

/-- A fold notice counts what a reversing ring discards, and does nothing else. -/
theorem foldNoticeRx_forms (ring stop flits : Nat) (s : State) (hr : ring < 8) (hs : stop < 48) :
    ∃ t, exec (.foldNoticeRx ring stop flits) s = .next t ∧ t.obj (O.ringState ring) = s.obj (O.ringState ring)
      ∧ (s.obj (O.ringState ring) ≠ 1 → t = s) := by
  obtain ⟨-, hidle, hdue, -⟩ := ringsAndArbiters
  by_cases h : s.obj (O.ringState ring) = 1
  · obtain ⟨t, ht, -, -, -, hl⟩ := hdue ring stop flits s hr hs h
    refine ⟨t, ht, hl.2 _ ?_, fun hn => absurd h hn⟩
    simp only [O.ringState, O.flitsDiscarded, List.mem_cons, List.not_mem_nil, or_false]
    omega
  · exact ⟨s, (hidle ring stop flits s hr hs h).1, rfl, fun _ => rfl⟩

/-- The end of REVERSE_HOLD leaves a reversing ring folded or split. -/
theorem reverseHoldExpiry_forms (ring : Nat) (s : State) (hr : ring < 8) : ∃ t, exec (.reverseHoldExpiry ring) s = .next t
    ∧ (s.obj (O.ringState ring) = 1 → t.obj (O.ringState ring) = 2 ∨ t.obj (O.ringState ring) = 3)
    ∧ (s.obj (O.ringState ring) ≠ 1 → t = s) := by
  obtain ⟨-, hidle, -, hdue, -⟩ := ringsAndArbiters
  by_cases h : s.obj (O.ringState ring) = 1
  · obtain ⟨t, ht, hstate, -⟩ := hdue ring s hr h
    refine ⟨t, ht, fun _ => ?_, fun hn => absurd h hn⟩
    rw [hstate]
    split
    · exact .inr rfl
    · exact .inl rfl
  · exact ⟨s, (hidle ring 0 0 s hr (by decide) h).2, fun h1 => absurd h1 h, fun _ => rfl⟩

/-- A ring's restoration: of a folded ring, a split one, and a whole one. -/
theorem ringRestore_forms (ring : Nat) (s : State) (hr : ring < 8) : ∃ t, exec (.ringRestore ring) s = .next t
    ∧ (s.obj (O.ringState ring) = 2 → t.obj (O.ringState ring) = 0 ∧ t.obj (O.faultStop ring) = 0xFF)
    ∧ (s.obj (O.ringState ring) = 3 → t.obj (O.ringState ring) = 2) ∧ (s.obj (O.ringState ring) = 0 → t = s) := by
  obtain ⟨t, ht⟩ := commandsComplete.1 (.ringRestore ring) s (decide_eq_true hr)
  have hnext {u : State} (hu : exec (.ringRestore ring) s = .next u) : t = u := Host.Outcome.next.inj (ht.symm.trans hu)
  refine ⟨t, ht, fun h => ?_, fun h => ?_, fun h => ?_⟩
  · rw [hnext (exec_ringRestore_folded hr h)]
    exact ⟨(ringWhole_shows ring s).1, (ringWhole_shows ring s).2.1⟩
  · have he : exec (.ringRestore ring) s = .next (ringRefolded ring (Store.at 0 s.units.second ring) s) := by
      show execRingRestore ring s = _
      have hn : s.nat (O.ringState ring) = 3 := nat_of_obj h
      unfold execRingRestore
      rw [if_neg (by omega), hn]
      rfl
    rw [hnext he]
    exact (ringRefolded_shows ring _ s).1
  · exact hnext (exec_ringRestore_none hr (by rw [nat_of_obj (n := 0) h]; decide))

/-- A failed joint path counts, but for one of which both have failed. -/
theorem jointPathFault_forms (ring stop : Nat) (s : State) (hr : ring < 8) (hs : stop < 48) : ∃ t, exec (.jointPathFault ring stop) s = .next t
    ∧ (2 ≤ Store.at 0 s.mortar.joints (ring * 48 + stop) → t = s) ∧ t.obj (O.ringState ring) = s.obj (O.ringState ring) := by
  obtain ⟨t, ht, hd, hl⟩ := jointPath_fails (s := s) hr hs
  refine ⟨t, ht, fun h2 => ?_, hl.2 _ ?_⟩
  · rwa [if_neg (Nat.not_lt.mpr h2)] at hd
  · simp only [O.ringState, O.jointPathsDown, List.mem_cons, List.not_mem_nil, or_false]
    omega

/-- A replay of a link counts. -/
theorem linkReplay_forms (ring : Nat) (s : State) (hr : ring < 8) : ∃ t, exec (.linkReplay ring) s = .next t
    ∧ t.obj (O.linkReplays ring) = ((s.nat (O.linkReplays ring) + 1) % counterTop (O.linkReplays ring) : Nat) := by
  obtain ⟨t, ht, hc, -⟩ := linkReplay_counts (s := s) hr
  exact ⟨t, ht, hc⟩

/-! ## Arbiters -/

theorem tableUnwritten {s t : State} {x : Xfer} {mc : Bool} {data : Bytes} {r : Reason} (h : Answers s t x (tableKey mc) (.bytes data) r [] []) :
    (∀ k, k ∉ selectedArbs mc s → t.arb mc k = s.arb mc k) ∧ ∀ k, (t.arb mc k).front = (s.arb mc k).front := by
  have ha (k : Nat) : t.arb mc k = s.arb mc k := arb_congr (Answers.part h .mortar (by decide)) mc k
  exact ⟨fun k _ => ha k, fun k => by rw [ha]⟩

/-- A table is written to no arbiter but those selected, and to no FRONT. -/
theorem writeArbTable_forms (mc : Bool) (s : State) (x : Xfer) (data : Bytes) (h : Accepts s x (tableKey mc) (.bytes data)) :
    ∃ t, exec (.writeArbTable x mc data) s = .next t
      ∧ (∀ k, k ∉ selectedArbs mc s → t.arb mc k = s.arb mc k) ∧ ∀ k, (t.arb mc k).front = (s.arb mc k).front := by
  by_cases hr : 3 < bytesAt data 0 1 ∨ bytesAt data 1 3 ≠ 0
  · obtain ⟨t, ht, ha⟩ := arbTable_range h hr
    exact ⟨t, ht, tableUnwritten ha⟩
  · rw [not_or, Nat.not_lt, not_not] at hr
    obtain ⟨t, ht, hd⟩ := arbTable_written h hr.1 hr.2
    refine ⟨t, ht, ?_⟩
    split at hd
    · obtain ⟨-, harb, -⟩ := hd
      refine ⟨fun k hk => by rw [harb, if_neg hk], fun k => ?_⟩
      rw [harb]
      split
      · rfl
      · rfl
    · exact tableUnwritten hd

/-- A commit concerns the arbiters selected. -/
theorem arbCommit_forms (mc : Bool) (s : State) (x : Xfer) (h : Accepts s x (arbCommitKey mc) (.num 1)) :
    ∃ t, exec (.arbCommit x mc) s = .next t ∧ (∀ k, k ∉ selectedArbs mc s → t.arb mc k = s.arb mc k)
      ∧ ((advance s x.dt).airRunning = true → ∀ k ∈ selectedArbs mc s, (t.arb mc k).committed = true) := by
  obtain ⟨t, ht, -, harb⟩ := arbs_committed h
  refine ⟨t, ht, fun k hk => by rw [harb, if_neg hk], fun hrun k hk => ?_⟩
  rw [harb, if_pos hk, if_pos hrun]

/-- A decision changes no table. -/
theorem arbSwapDecision_forms (mc : Bool) (s : State) : ∃ t, exec (.arbSwapDecision mc) s = .next t ∧ (s.airRunning = false → t = s)
    ∧ ∀ k, (t.arb mc k).front = (s.arb mc k).front ∧ (t.arb mc k).back = (s.arb mc k).back := by
  cases h : s.airRunning with
  | false => exact ⟨s, (notRunning h).1, fun _ => rfl, fun k => ⟨rfl, rfl⟩⟩
  | true =>
    obtain ⟨t, ht, harb, -⟩ := arbs_decided mc h
    refine ⟨t, ht, nofun, fun k => ?_⟩
    rw [harb]
    split
    · exact ⟨rfl, rfl⟩
    · exact ⟨rfl, rfl⟩

/-- With nothing decided, no arbiter swaps. -/
theorem arbSwap_forms (mc : Bool) (s : State) : ∃ t, exec (.arbSwap mc) s = .next t
    ∧ ((∀ a ∈ (if mc = true then s.mortar.mc else s.mortar.arbs), a.2.next = none) → t = s) := by
  rw [exec_arbSwap]
  by_cases h : (decidedArbs mc s).isEmpty = true
  · rw [if_pos h]
    exact ⟨s, rfl, fun _ => rfl⟩
  · rw [if_neg h]
    refine ⟨_, rfl, fun hn => absurd ?_ h⟩
    rw [decidedArbs_any, Bool.not_eq_true', List.any_eq_false]
    exact fun a ha => by rw [hn a ha]; decide

/-- The phase is set at a subframe boundary while air time runs. -/
theorem arbPhaseAlign_forms (s : State) : ∃ t, exec .arbPhaseAlign s = .next t
    ∧ (if s.airRunning = true then t.mortar.phase = s.nat O.arbPhaseOffset ∧ t.mortar.mcPhase = s.nat O.mcArbPhaseOffset else t = s) := by
  cases h : s.airRunning with
  | false => exact ⟨s, (notRunning (mc := false) h).2, rfl⟩
  | true =>
    obtain ⟨t, ht, hm, -⟩ := phase_aligned h
    refine ⟨t, ht, ?_⟩
    rw [if_pos rfl, hm]
    exact ⟨rfl, rfl⟩

end Sys2Proof.Machine
open Sys2Proof Sys2Proof.Machine Sys2Proof.Safety

/-- Settles O60, a command at a time, from what the obligations of the same commands say where their conditions hold. -/
theorem airAndTileForms : Obligations.AirAndTileForms := by
  unfold Obligations.AirAndTileForms
  exact ⟨frameRx_forms, uplaneMessageRx_forms, writeFwdRules_forms,
    fun x c p data s hc => ⟨writeTaps_forms x c p data s hc, commitTaps_forms x c p s hc, coefCrcCheck_forms c p s hc⟩,
    fun n s hn => ⟨txWindowOpen_forms n s hn, txWindowClose_forms n s hn⟩, txgateEdge_forms,
    fun t s ht => ⟨taskStart_forms t s ht, taskEndReport_forms t s ht, tileCancel_forms t s ht⟩,
    fuse_forms, fun t slot result outputs s ht => ⟨fusedJobSend_forms t slot s ht, fusedPublication_forms t slot result outputs s ht⟩,
    fun x s => ⟨writeUeContext_forms x s, writeUeRelease_forms x s, wbDefine_forms x s, wbDelete_forms x s, writeWbWeights_forms x s,
      wbCommit_forms x s, wbCopyComplete_forms s⟩,
    fun ring stop flits lock s hr hs => ⟨ringLinkFault_forms ring stop lock s hr hs, foldNoticeRx_forms ring stop flits s hr hs,
      reverseHoldExpiry_forms ring s hr, ringRestore_forms ring s hr, linkReplay_forms ring s hr, jointPathFault_forms ring stop s hr hs⟩,
    fun mc s => ⟨writeArbTable_forms mc s, arbCommit_forms mc s, arbSwapDecision_forms mc s, arbSwap_forms mc s, arbPhaseAlign_forms s⟩⟩

end
